-- ==== Sys2Proof/Word.lean ====
section
/-! DEFINITION. The words of the machine: bytes, 64-bit register words, and the units of TIME. -/

namespace Sys2Proof

/-- A byte of a frame, a ring or a memory. -/
abbrev Byte := BitVec 8

/-- A 64-bit register word as the host writes and reads it. -/
abbrev Word := BitVec 64

/-- An instant in units of 1/65,536 ns: the 80-bit T80 number of R10, NS in its upper bits and FRAC in its lower 16. -/
abbrev T80 := Nat

/-- One nanosecond of a T80. -/
def nsUnits : Nat := 65536

/-- The number of bits of a T80 (R10). -/
def t80Bits : Nat := 80

end Sys2Proof
end

