-- ==== Sys2Proof/Kinds.lean ====
section
/-! DEFINITION. The closed sets of names and the records that commands carry as operands. -/

namespace Sys2Proof

/-- The memory BAR of a host access (R35). -/
inductive Bar where
  | bar0 | bar2 | bar4
  deriving DecidableEq, Repr

/-- The messages of IEEE 1588-2019 that R87 supports, and the rest. -/
inductive PtpKind where
  | sync | followUp | delayReq | delayResp | pdelayReq | pdelayResp | pdelayRespFollowUp | announce | other
  deriving DecidableEq, Repr

/-- A received PTP message, decoded (R63, R90, R97). `time` is the timestamp that it carries, in 1/65,536 ns; `toUs`: the
requestingPortIdentity of a response is this port's; `tlv` is the Denoon PTP TLV's TQ and holdover uncertainty in ns. -/
structure PtpMsg where
  kind : PtpKind
  identity : Word
  portNumber : BitVec 16
  domain : BitVec 8
  transport : Fin 3
  address : BitVec 128
  sequence : BitVec 16
  toUs : Bool
  twoStep : Bool
  time : Nat
  correction : Int
  clockClass : BitVec 8
  stepsRemoved : BitVec 16
  grandmaster : Word
  denoon : Bool
  utcOffset : BitVec 8
  tlv : Option (Nat × Nat)
  deriving DecidableEq, Repr

/-- What the servo's loop computes for an entry at a measurement, which the spec does not: the frequency correction that
following its phase needs and the one that the recovered clock of its port's first lane needs (R88), in 1/65,536 ppb, and the
frequency uncertainty in ppt. -/
structure ServoFit where
  entry : Fin 16
  freq : Int
  recovered : Int
  sigma : Nat
  deriving DecidableEq, Repr

/-- A Denoon hello, decoded (R93). -/
structure Hello where
  group : BitVec 8
  chip : BitVec 12
  serial : Word
  seq : Nat
  primary : BitVec 12
  identity : Word
  state : Fin 8
  tq : BitVec 4
  uncertainty : Nat
  pace : BitVec 16
  hops : Nat
  deriving DecidableEq, Repr

/-- What an ingress tap delivers with a frame (R112, R113, R119, R122): the lane that carried the stamped bit, the instant
of the edge that opens a word in 2^-48 ns, the bit's place among the aligned UI from that edge, the deskew depth in UI that the
alignment markers give the lane (0 on a single-lane port), the interpolator code, the CDR phase at it in fs, and what kept the
stamp from being formed: CDR or marker lock lost in the frame's start, or a parity error. -/
structure RxTap where
  lane : Fin 1024
  edge : Nat
  ui : Nat
  deskew : Nat
  interp : Fin 128
  phase : Int
  lockLost : Bool
  parity : Bool
  deriving DecidableEq, Repr

/-- What an egress tap delivers (R114, R119). -/
structure TxTap where
  lane : Fin 1024
  edge : Nat
  ui : Nat
  parity : Bool
  deriving DecidableEq, Repr

/-- What a host read names besides its offset (R12, R38): a BAR, a page of it, and which halves of the 8 bytes it asks for. -/
structure ReadOf where
  bar : Bar
  page : BitVec 14
  low : Bool
  high : Bool
  deriving DecidableEq, Repr

/-- A host write of an entry of the MSI-X table (R35, R57): its vector, address and data where it carries them, its mask bit. -/
structure MsixEntry where
  vector : Fin 2048
  data : Option (Word × BitVec 32)
  mask : Bool
  deriving DecidableEq, Repr

/-- What the taps deliver with a PTP message: of its arrival, and of the answer that leaves on it where one does. -/
structure PtpTaps where
  arrival : RxTap
  answer : TxTap
  deriving DecidableEq, Repr

/-- A port's Sync messages of one interval: the port, and what its egress tap delivers for each of up to 16 (R88). -/
structure SyncSend where
  port : Fin 1024
  taps : List TxTap
  deriving DecidableEq, Repr

/-- What a scrub visit finds in a row: no error, a corrected or an uncorrectable one; and whether the row is a table's (R472). -/
structure Scrubbed where
  ecc : Fin 3
  table : Bool
  deriving DecidableEq, Repr

/-- What a second's check of a Seam wire finds: its corrections, and whether its margin falls short. -/
structure WireCheck where
  corrections : Nat
  margin : Bool
  deriving DecidableEq, Repr

/-- What a stream's on-die buffer does with a record that enters (R365, R366, R384): it has room; an ECC error in it was
corrected, or destroyed the record; it is full, through DDR5 saturation or not. -/
inductive Buffering where
  | room | corrected | destroyed | full (saturated : Bool)
  deriving DecidableEq, Repr

/-- How the signing of an anchor ends (R372, R384): by an engine, by the other engine after one failed, or not at all,
because both engines have failed or the identity key is unusable. -/
inductive Signing where
  | signed | engineFailed | enginesLost | keyUnusable
  deriving DecidableEq, Repr

/-- What the SPD of a DIMM declares (R514, R516): RDIMM, x4, ranks as RANKS codes them, Gbit of its devices, GiB, and the
speeds it declares, as a bitmap over the codes of MAX_SPEED; or that its SPD cannot be read. -/
structure Dimm where
  rdimm : Bool
  x4 : Bool
  ranks : Fin 4
  gbit : Nat
  gib : Nat
  speeds : BitVec 3
  readable : Bool
  deriving DecidableEq, Repr

/-- A bank that the retention check finds lost (R426): of CLA, whose places it held, of a control store, of the Palm, or
another; its number; and whether its stored signature met an uncorrectable error. -/
inductive LostKind where
  | cla (places : List (Fin 1536)) | store | palm | other
  deriving DecidableEq, Repr
structure LostBank where
  kind : LostKind
  index : Fin 32
  ecc : Bool
  deriving DecidableEq, Repr

/-- What a boot step finds (R548): the crystal stopped (step 1), the references present (3), each channel's DIMM (3, 4), the
history slots whose CRC fails, as bits (4), and the change list matching its digest (9). -/
structure BootFacts where
  onRc : Bool
  refA : Bool
  refB : Bool
  dimms : List (Option Dimm)
  histBad : Fin 4
  listIntact : Bool
  deriving DecidableEq, Repr

end Sys2Proof
end

