-- ==== Sys2Proof/Syntax.lean ====
section
/-! DEFINITION. The commands: one constructor per row of spec/opcode_table.json, in its order. The operands are what
comes from outside the block, or from a unit whose values the spec does not compute. -/

namespace Sys2Proof

/-- A command of the device. -/
inductive Instr where
  /-- REGISTER_WRITE (R4): A host write to a register with no row of its own takes effect in the MGMT cycle in which it reaches the register fabric, under the access code of its field. -/
  | registerWrite (page : BitVec 14) (offset : BitVec 12) (data : Word) (low high : Bool)
  /-- T80_NS_READ (R12): A read of the NS register of a T80 pair latches the companion register for a following read. -/
  | t80NsRead (read : ReadOf) (offset : BitVec 12)
  /-- T80_PAIR_COMMIT (R13): The NS write of a T80 register pair commits both halves together after the companion write. -/
  | t80PairCommit (page : BitVec 14) (offset : BitVec 12) (data : Word)
  /-- FRAME_RECEIVE (R24): A frame arrives on a port's lanes, is decoded by the Cuff, stamped, and put in the Cuff ingress FIFO. -/
  | frameReceive (port : Fin 1024) (tap : RxTap) (bytes : List Byte) (fifoFull : Bool)
  /-- INGRESS_SLOT_ASSIGN (R21): A frame waiting in the Cuff FIFO takes an ingress slot of its pipeline, pre-class 7 first, and takes its BANK. -/
  | ingressSlotAssign (slice : Fin 32)
  /-- ENGINE_ASSIGN (R174): A frame that reaches a Knuckle stage takes a free engine of that kind, or waits in arrival order. -/
  | engineAssign (egress : Bool) (id : Nat) (bad : List Nat)
  /-- MICROWORD_ISSUE (R186): A Knuckle engine issues a microword once its bytes and results are present and applies its extracts, sets, flags, cursor and sequencing at the word's end. -/
  | microwordIssue (egress : Bool) (id : Nat) (bad : List Nat) (wait late : Nat)
  /-- GOLDEN_REPAIR (R195): A location that failed parity is rewritten from the idle bank's golden copy within 8 CORE cycles. -/
  | goldenRepair (slice : Fin 32) (loc : Fin 32768) (ok : Bool)
  /-- POISON_REWRITE (R195): Crown rewrites a POISONED control-store location from the DDR5 image within 50,000 ns. -/
  | poisonRewrite (slice : Fin 32) (loc : Fin 32768)
  /-- SEARCH_RESULT_WRITTEN (R190): An EMT, LPA or CLA search issued by ingress action writes its result word and GENERATION into metadata in the third cycle. -/
  | searchResultWritten (frame : Nat) (ecc : Fin 3)
  /-- SESSION_DECISION (R325): The session engine decides a data frame or request named by SESSION_GO and writes its decision into metadata in the third cycle. -/
  | sessionDecision (frame : Nat) (corrected : Bool)
  /-- RING_WRITE (R341): A forwarded data frame of a context with RING_EN is written through the on-die buffer to its ring slot, COMMIT last. -/
  | ringWrite
  /-- QUEUE_ASSIGN (R251): A frame is assigned to its egress queue: admission, cut-through decision, ECN marking and XOFF are decided in that cycle. -/
  | queueAssign (frame : Nat) (cells : List (Fin 1152))
  /-- FRAME_TAIL_VERDICT (R268): The ingress verdict on a frame's tail returns surplus cells and, if bad, stomps a cut-through frame or drops a stored one. -/
  | frameTailVerdict (frame : Nat) (fec lockLost reassembly : Bool)
  /-- SCHEDULER_SELECT (R261): At a frame boundary on a port the scheduler takes the next frame by TC7, strict and ETS order. -/
  | schedulerSelect (port : Fin 1024)
  /-- UNDERRUN (R267): A cut-through byte not present when the transmitter needs it stomps the frame with cause UNDERRUN. -/
  | underrun (replica : Nat)
  /-- EGRESS_TRANSMIT (R114): A replica's SFD crosses the egress ball: the egress stamp is formed and the replica's fate becomes known. -/
  | egressTransmit (replica : Nat) (tap : TxTap)
  /-- TRANSMIT_COMPLETE (R247): A frame's last queue entry is transmitted and its cells and descriptors return to their pools. -/
  | transmitComplete (replica : Nat)
  /-- HEADER_RING_FLUSH (R276): Header records move from the on-die share to the ring's DDR5 ring in order. -/
  | headerRingFlush (ring : Fin 16)
  /-- REF_LOST (R23): A SerDes reference is lost in service: PLLs move sides, the side's tiles drop links and REF_LOST or REFS_LOST latches. -/
  | refLost (side : Fin 2)
  /-- BAR2_WRITE (R37): A write to BAR2 is discarded and recorded in BAD_ACCESS. -/
  | bar2Write (address : BitVec 24)
  /-- BAD_SIZE_ACCESS (R39): An access of unsupported size or alignment is split, discarded or read as zero and recorded. -/
  | badSizeAccess (bar2 write : Bool) (address : BitVec 26) (size : BitVec 13) (data : List Byte)
  /-- ABSENT_PAGE_ACCESS (R43): An access to an absent page reads zero or is discarded and recorded. -/
  | absentPageAccess (address : BitVec 26) (write : Bool)
  /-- BLOCK_RESET (R538): A write of PAGE_CTRL.BLOCK_RESET resets the page's block alone and starts its quench window. -/
  | blockReset (page : BitVec 14)
  /-- BLOCK_RESET_COMPLETE (R45): A block reset completes and RESET_BUSY falls. -/
  | blockResetComplete (page : BitVec 14)
  /-- QUENCH_CLOSE (R459): A quench window closes and causes still present set their REAL bits. -/
  | quenchClose (page : BitVec 14) (present : List (BitVec 14 × Fin 16))
  /-- ERR_INJECT (R458): A write to ERR_INJECT injects causes after their detectors with the INJ tag. -/
  | errInject (page : BitVec 14) (causes : BitVec 16)
  /-- ERR_CLASS_MAP_WRITE (R49): A write to ERR_CLASS_MAP sets each cause's class, raised to its floor. -/
  | errClassMapWrite (page : BitVec 14) (data : Word)
  /-- MSIX_UNMASK (R57): The host unmasks a vector whose PBA bit is pending and its message is sent. -/
  | msixUnmask (entry : MsixEntry)
  /-- REPLICA_COMPARE (R61): At each TAI multiple of 1,048,576 ns every tile replica is compared with the switch-die TIME. -/
  | replicaCompare (offsets : List (Fin 8 × BitVec 32))
  /-- REPLICA_RESYNC_DONE (R61): A tile replica's resynchronisation completes, ending INVALID stamps on the tile. -/
  | replicaResyncDone (tile : Fin 8)
  /-- PPS_IN_EDGE (R573): A rising edge at PPS_IN is stamped and sets PRESENT. -/
  | ppsInEdge (input : Fin 2) (phase : BitVec 16) (cycles0 cycles1 : Option Nat)
  /-- PPS_EDGE_MISSED (R573): An expected PPS edge instant passes with no edge, counting a missed edge and clearing PRESENT. -/
  | ppsEdgeMissed (input : Fin 2)
  /-- TOD_SENTENCE_RECEIVED (R71): A ToD sentence on ToD_IN is accepted and labels its PPS edge, or is counted as an error. -/
  | todSentenceReceived (dollar : Nat) (bytes : List Byte) (fits : List ServoFit)
  /-- TOD_OUT_SENTENCE (R72): ToD_OUT starts a sentence 100,000,000 ns after a TAI second boundary. -/
  | todOutSentence
  /-- PTP_MESSAGE_RECEIVE (R90): A PTP message arrives on a PTP port and updates the peer table and the PTP exchange. -/
  | ptpMessageReceive (port : Fin 1024) (taps : PtpTaps) (msg : PtpMsg) (fits : List ServoFit)
  /-- PTP_TIMEOUT (R64): Three Sync intervals or announceReceiptTimeout pass without a message and the PTP entry fails. -/
  | ptpTimeout (entry : Fin 16)
  /-- PEER_AGE_OUT (R90): A LEARNED peer entry silent for PEER_AGE seconds is freed. -/
  | peerAgeOut (port : Fin 1024) (entry : Fin 16)
  /-- REVERT_HOLDOFF (R65): A better entry QUALIFIED for REVERT_HOLDOFF replaces the selected entry when REVERTIVE is 1. -/
  | revertHoldoff (entry : Fin 16)
  /-- REF_CFG_WRITE (R65): A write to a reference entry's configuration takes effect at its next measurement; clearing ENABLE fails it. -/
  | refCfgWrite (entry : Fin 16) (data : Word)
  /-- SERVO_MODE_CHANGE (R74): A SERVO_CTRL.MODE write takes effect at the next BAND cycle as AUTO, HOLD or FREE. -/
  | servoModeChange (mode : Fin 4)
  /-- SET_TIME (R75): A host write of the SET_TIME pair sets or steps TIME, or is refused once TRACEABLE. -/
  | setTime (ns : Word)
  /-- LOCK_VERIFIED (R76): Measurements stay within ±10 ns for 64 s and Hatband enters TRACEABLE. -/
  | lockVerified
  /-- RELOCK_COMPLETE (R82): A re-acquired reference stays within ±10 ns for RELOCK_TIME and Hatband returns to TRACEABLE. -/
  | relockComplete
  /-- SLEW_END (R78): The offset left falls below the rate word's resolution and SLEW returns to 0. -/
  | slewEnd
  /-- HOLDOVER_RECOMPUTE (R80): At each TAI multiple of 1,048,576 ns in HOLDOVER the uncertainty and TQ are recomputed. -/
  | holdoverRecompute
  /-- HISTORY_WRITE (R83): Every PERIOD seconds in TRACEABLE a frequency history record is written to MRAM. -/
  | historyWrite (slope : BitVec 32) (spanHours : Nat)
  /-- HIST_CLEAR (R85): A write of HIST_CTRL.CLEAR erases both history slots. -/
  | histClear
  /-- BAND_LOCKSTEP (R86): The Band processor stops on a lockstep mismatch; TIME runs on and Hatband enters HOLDOVER. -/
  | bandLockstep
  /-- TIME_PLL_UNLOCK (R86): TIME's PLL loses lock and TIME stops, latching HBD cause 9. -/
  | timePllUnlock
  /-- PTP_SYNC_SEND (R88): A PTP port in the source role sends Sync at its sync interval. -/
  | ptpSyncSend (sync : SyncSend)
  /-- PTP_ANNOUNCE_SEND (R91): A PTP port in the source role sends Announce with the clockClass of its state. -/
  | ptpAnnounceSend (port : Fin 1024)
  /-- MAKE_STATIC (R90): PEER_CMD MAKE_STATIC makes the selected peer entry STATIC. -/
  | makeStatic
  /-- MAKE_LEARNED (R90): PEER_CMD MAKE_LEARNED makes the selected peer entry LEARNED. -/
  | makeLearned
  /-- FREE (R90): PEER_CMD FREE frees the selected peer entry. -/
  | free
  /-- PEER_SEL_WRITE (R105): A write of PEER_SEL snapshots PEER_DATA of the named entry. -/
  | peerSelWrite (port : Fin 1024) (entry : Fin 16)
  /-- DENOON_HELLO_SEND (R93): A group member sends a Denoon hello on each Denoon port at each multiple of 67,108,864 ns. -/
  | denoonHelloSend
  /-- DENOON_HELLO_RECEIVE (R93): A received hello updates membership and pace, is relayed, and detects CHIP_ID conflict or primary mismatch. -/
  | denoonHelloReceive (port : Fin 1024) (hello : Hello)
  /-- MEMBER_TIMEOUT (R93): No hello arrives from a CHIP_ID within MEMBER_TIMEOUT periods and it leaves MEMBER_BITMAP. -/
  | memberTimeout (chip : Fin 4096)
  /-- PRIMARY_SWITCH (R96): At the PRIMARY_SWITCH instant each member makes PRIMARY_NEXT its PRIMARY. -/
  | primarySwitch
  /-- PPS_OUT_PULSE (R102): PPS_OUT rises at each TAI second plus OFFSET and falls after WIDTH_US, unless squelched. -/
  | ppsOutPulse (output : Fin 2) (rise : Bool)
  /-- PPS_OUT_CFG_WRITE (R102): A write of PPS_OUT_CFG is range-checked and applies from the next edge. -/
  | ppsOutCfgWrite (output : Fin 2) (data : Word) (low high : Bool)
  /-- CLK_OUT_CFG_WRITE (R103): A write of CLK_OUT_CFG is checked for HALF_PERIOD and enabling joins the START grid. -/
  | clkOutCfgWrite (data : Word) (low high : Bool)
  /-- CLK_OUT_START (R103): CLK_OUT first rises at the CLK_OUT_START instant. -/
  | clkOutStart
  /-- TQ_CHANGE (R118): At effective instant E a time-base code change takes effect for stamps and TQ_CHANGE records. -/
  | tqChange
  /-- FINE_TRIM_STEP (R121): The fine-trim loop changes its code by at most one step per 1,048,576 ns at a word boundary. -/
  | fineTrimStep (lane : Fin 1024) (up : Bool)
  /-- FINE_TRIM_FREEZE (R121): Sparse windows for FREEZE_NS or receive LPI freeze the lane's fine-trim loop. -/
  | fineTrimFreeze (lane : Fin 1024) (windows : List (Fin 257))
  /-- FINE_TRIM_RESUME (R121): Non-sparse windows for FREEZE_NS out of LPI resume the fine-trim loop. -/
  | fineTrimResume (lane : Fin 1024) (windows : List (Fin 257))
  /-- WANDER_SAMPLE (R123): A wander-monitor phase sample is judged clean or an excursion and moves the lane's stamp state. -/
  | wanderSample (lane : Fin 1024) (phase : Int)
  /-- CDR_LOCK (R123): A lane's CDR locks and its stamp state enters REACQUIRE. -/
  | cdrLock (lane : Fin 1024)
  /-- CDR_LOCK_LOSS (R123): A lane's CDR loses lock, discarding its median and entering NOT_LOCKED. -/
  | cdrLockLoss (lane : Fin 1024)
  /-- APPLY (R127): CAL_CMD.APPLY puts every staged trim in force at E and starts the MRAM save. -/
  | apply
  /-- DISCARD (R129): CAL_CMD.DISCARD restores every staged trim to the value in force. -/
  | discard
  /-- CAL_TRIM_EFFECT (R127): At E the applied trims take effect and CAL_APPLY event records are ledgered. -/
  | calTrimEffect
  /-- CAL_SAVE_DONE (R127): The MRAM save of the trims completes or fails and APPLY_BUSY clears. -/
  | calSaveDone (ok : Bool)
  /-- STAT_SEL_WRITE (R129): A write of STAT_SEL snapshots the selected lane's wander status and counts. -/
  | statSelWrite (lane : Fin 1024)
  /-- STAT_CLEAR (R129): STAT_SEL.CLEAR zeroes the selected lane's counts and MAX_EXCURSION. -/
  | statClear (lane : Fin 1024)
  /-- OCT_CFG_WRITE (R134): A write of RATE_GROUP or PORT_START is accepted or refused, reconfigures ports and retunes the octet PLL. -/
  | octCfgWrite (octet : Fin 128) (data : Word)
  /-- OCTET_PLL_LOCK (R156): The octet PLL locks after start or retune and PLL_LOCK reads 1. -/
  | octetPllLock (octet : Fin 128)
  /-- OCTET_PLL_UNLOCK (R172): An octet PLL loses lock, dropping every link of the octet to WAIT_SIGNAL. -/
  | octetPllUnlock (octet : Fin 128)
  /-- PORT_ENABLE (R137): PORT_CTRL.ENABLE written 1 starts the bring-up ladder, or halts it at once under R138. -/
  | portEnable (port : Fin 1024)
  /-- PORT_DISABLE (R146): PORT_CTRL.ENABLE written 0 ends the ladder at the next TILE cycle and quiets the lanes. -/
  | portDisable (port : Fin 1024)
  /-- RESTART (R168): PORT_CTRL.RESTART restarts the ladder from WAIT_SIGNAL and clears RATES_REFUSED. -/
  | restart (port : Fin 1024)
  /-- LANE_SIGNAL_DETECT (R142): Energy on the first lane in WAIT_SIGNAL moves the ladder to AN. -/
  | laneSignalDetect (lane : Fin 1024) (energy : Bool)
  /-- AN_COMPLETE (R142): Clause 73 page exchange resolves to EXCHANGE, RETUNE, FALLBACK or HALTED. -/
  | anComplete (port : Fin 1024) (denoon : Bool) (techs : BitVec 6) (rs baseR : Bool)
  /-- AN_TIMEOUT (R142): AN_TIMEOUT_MS passes in AN and the port returns to WAIT_SIGNAL. -/
  | anTimeout (port : Fin 1024)
  /-- DENOON_CAP_SEND (R140): In EXCHANGE each side sends a Denoon capability frame every 100,000 ns. -/
  | denoonCapSend (port : Fin 1024)
  /-- DENOON_CAP_RECEIVE (R141): A received CAP, CAP_ACK or GO drives leader choice, GO sending or halting. -/
  | denoonCapReceive (port : Fin 1024) (msg : Fin 4) (serial : Word) (sender : BitVec 16) (width rates fec : BitVec 8) (rate : Fin 6) (chosen : Fin 3) (delay : BitVec 32)
  /-- RETUNE (R142): GO_DELAY passes after GO, or FORCE applies, and every lane moves to the octet PLL at the target rate. -/
  | retune (port : Fin 1024)
  /-- EXCHANGE_TIMEOUT (R142): 10,000,000 ns pass in EXCHANGE without GO and the port returns to WAIT_SIGNAL. -/
  | exchangeTimeout (port : Fin 1024)
  /-- RETUNE_LOCKED (R142): With the octet PLL locked every lane's CDR locks and the ladder enters TRAINING. -/
  | retuneLocked (port : Fin 1024)
  /-- RETUNE_TIMEOUT (R142): No PLL or CDR lock within 200,000 ns of RETUNE and the ladder falls back with TRAINING_TIMEOUT. -/
  | retuneTimeout (port : Fin 1024)
  /-- TRAINING_COMPLETE (R142): Block, marker, deskew and FEC lock and training complete on every lane and the ladder enters QUALIFY. -/
  | trainingComplete (port : Fin 1024)
  /-- TRAINING_TIMEOUT (R142): The training limit passes first and the ladder falls back. -/
  | trainingTimeout (port : Fin 1024)
  /-- COEFFICIENT_REQUEST (R151): A partner's training coefficient request is applied within its window, refused at limit, or preset. -/
  | coefficientRequest (lane : Fin 1024) (preset : Bool) (tap : Fin 5) (up : Bool)
  /-- LINE_ERROR (R143): An uncorrectable or over-half codeword, or an invalid block, is received and fails QUALIFY if running. -/
  | lineError (port : Fin 1024) (kind : Fin 3)
  /-- QUALIFY_COMPLETE (R143): QUAL_US passes without failure and the port is UP. -/
  | qualifyComplete (port : Fin 1024)
  /-- LANE_LOCK_LOSS (R145): A lane loses block, alignment-marker or FEC lock, raising link fault and erroring the frame in progress. -/
  | laneLockLoss (lane : Fin 1024) (back : Bool)
  /-- LINK_DOWN (R145): A lock loss continuous for 10,000 ns declares the link down, flushing the port's queues. -/
  | linkDown (port : Fin 1024)
  /-- TX_LPI_ENTRY (R154): A port's transmitters enter LPI after LPI_ENTRY_NS with empty queues. -/
  | txLpiEntry (port : Fin 1024)
  /-- TX_LPI_WAKE (R154): A queued or committed frame wakes transmit LPI and waits the wake time. -/
  | txLpiWake (port : Fin 1024)
  /-- RX_LPI_CHANGE (R154): The partner signals entry into or exit from receive LPI. -/
  | rxLpiChange (port : Fin 1024) (on_ : Bool)
  /-- LANE_CTRL_WRITE (R155): A write of TX_QUIET or RX_QUIET turns a lane direction off or on, or is refused. -/
  | laneCtrlWrite (lane : Fin 1024) (data : Word)
  /-- EQ_OVERRIDE_WRITE (R150): A write of EQ_TX, EQ_RX or EQ_DFE overrides equalisation for EQ_RATE, or is refused. -/
  | eqOverrideWrite (lane : Fin 1024) (which : Fin 3) (data : Word)
  /-- PFC_RECEIVE (R160): A PFC frame pauses or unpauses priorities, ignored for TC7. -/
  | pfcReceive (port : Fin 1024) (named : BitVec 8) (quanta : List (BitVec 16))
  /-- PFC_QUANTA_EXPIRY (R160): A PFC pause's quanta expire and the class resumes. -/
  | pfcQuantaExpiry (port : Fin 1024) (priority : Fin 8)
  /-- PFC_RESEND (R161): Half the quanta pass with XOFF still held and the PFC frame is sent again. -/
  | pfcResend (port : Fin 1024) (cls : Fin 8)
  /-- ETS_CFG_WRITE (R163): A write of ETS_CFG is refused unless ETS shares sum to 100, and takes effect at the next frame boundary. -/
  | etsCfgWrite (port : Fin 1024) (data : Word)
  /-- PREEMPT_CFG_WRITE (R165): A change of PREEMPT_CFG ENABLE or VERIFY_DISABLE restarts verification. -/
  | preemptCfgWrite (port : Fin 1024) (data : Word)
  /-- PREEMPT_VERIFY_ATTEMPT (R164): A Clause 99 verify attempt is sent each VERIFY_TIME_MS, up to 3 attempts. -/
  | preemptVerifyAttempt (port : Fin 1024)
  /-- PREEMPT_VERIFY_RESPONSE (R164): A verify response is received and preemption becomes ACTIVE when allowed. -/
  | preemptVerifyResponse (port : Fin 1024)
  /-- EYE_REFRESH (R167): Each second while UP the lane's EYE register is refreshed. -/
  | eyeRefresh (lane : Fin 1024) (height width : BitVec 16)
  /-- ARM (R200): BANK_CTRL.ARM set in STAGED arms the slice for the next epoch, or is refused. -/
  | arm (slice : Fin 32)
  /-- BANK_ABORT (R202): BANK_CTRL.ABORT in STAGED discards the staged image and enters RESYNC. -/
  | bankAbort (slice : Fin 32)
  /-- CLEAR_STATS (R202): BANK_CTRL.CLEAR_STATS zeroes CYCLE_STATS and MC_COUNT. -/
  | clearStats (slice : Fin 32)
  /-- CS_SEL_WRITE (R202): A write of CS_SEL snapshots the selected control-store item into CS_DATA and CS_PARITY. -/
  | csSelWrite (slice : Fin 32) (addr : Fin 4096) (bank : Fin 2) (region : Fin 4)
  /-- STAGING_COMPLETE (R198): A microcode load finishes verification, entering STAGED or failing to RESYNC. -/
  | stagingComplete (slice : Fin 32) (readback : Bool)
  /-- DRAIN_COMPLETE (R198): OLD_BANK_FRAMES reaches 0 in DRAINING and the slice enters RESYNC. -/
  | drainComplete (slice : Fin 32)
  /-- DRAIN_SLOW (R200): 100 ms pass in DRAINING and DRAIN_SLOW latches. -/
  | drainSlow (slice : Fin 32)
  /-- RESYNC_COMPLETE (R198): Crown has copied and verified the active image into the idle bank and the slice is MIRRORED. -/
  | resyncComplete (slice : Fin 32)
  /-- CQ_DOORBELL (R230): A write of CQ_TAIL makes the table engine fetch new descriptors of the queue. -/
  | cqDoorbell (queue : Fin 16) (tail : BitVec 12) (descs : List (List Byte))
  /-- CQ_FETCH_ERR (R230): A descriptor fetch fails and the queue stops with FETCH_ERR. -/
  | cqFetchErr (queue : Fin 16) (translation : Bool)
  /-- CQ_ENABLE (R230): CQ_CFG.ENABLE written 0 stops fetching and 1 restarts the queue at CQ_HEAD. -/
  | cqEnable (queue : Fin 16) (data : Word)
  /-- SEARCH (R233): The SEARCH command searches KEY or reads an entry by index and reports it. -/
  | search (queue : Fin 16)
  /-- NEXT (R233): The NEXT command returns the next entry or match of a table walk. -/
  | next (queue : Fin 16)
  /-- INSERT (R211): The INSERT command adds an entry, relocating or shifting as needed, or stages it in the epoch. -/
  | insert (queue : Fin 16) (path : List Nat) (choice : Nat)
  /-- DELETE (R233): The DELETE command removes an entry, or stages the removal in the epoch. -/
  | delete (queue : Fin 16)
  /-- MODIFY (R233): The MODIFY command replaces an entry's DATA, STATIC and priority, or stages it. -/
  | modify (queue : Fin 16)
  /-- FLUSH_BY_PORT (R229): The FLUSH_BY_PORT command removes EMT entries of a port one by one. -/
  | flushByPort (queue : Fin 16)
  /-- AGE_SWEEP (R229): The AGE_SWEEP command makes one pass removing non-STATIC entries of at least the given age. -/
  | ageSweep (queue : Fin 16)
  /-- GEN_DRAIN (R221): The GEN_DRAIN command waits until no frame holds a generation older than its argument. -/
  | genDrain (queue : Fin 16)
  /-- GEN_DRAIN_COMPLETE (R221): The last frame of an older generation leaves and the waiting GEN_DRAIN completes. -/
  | genDrainComplete (queue : Fin 16)
  /-- GEN_DRAIN_SLOW (R221): A GEN_DRAIN has waited 100 ms and GEN_DRAIN_SLOW latches. -/
  | genDrainSlow (queue : Fin 16)
  /-- EPOCH_COMMIT (R237): The EPOCH_COMMIT command is refused or accepted and starts SEAL. -/
  | epochCommit (queue : Fin 16)
  /-- EPOCH_ABORT (R237): EPOCH_COMMIT with ABORT discards the open epoch, or completes EPOCH_BUSY or NO_EPOCH. -/
  | epochAbort (queue : Fin 16)
  /-- EPOCH_SEAL_COMPLETE (R237): The change list and digest are written and the epoch waits for EFFECT. -/
  | epochSealComplete (journalOk : Bool)
  /-- EPOCH_EFFECT (R237): TIME reaches EFFECT: GEN_NOW steps, staged versions become visible and armed slices switch bank. -/
  | epochEffect
  /-- EPOCH_SETTLE_COMPLETE (R237): Earlier versions retire, the shadow takes the changes, the journal is APPLIED and the command completes. -/
  | epochSettleComplete
  /-- VERSION_RETIRE (R219): Every program begun against an earlier generation ends and the entry's earlier version retires, releasing waiting commits. -/
  | versionRetire (table : Fin 3) (index : Nat)
  /-- LEARN_APPLY (R224): A held learn event is applied at its ingress T80 plus 16,384 ns as NEW, MOVE, MOVE_CONFLICT or DROPPED. -/
  | learnApply (path : List Nat)
  /-- MOVE_HOLD_EXPIRY (R225): A move-hold record expires when TIME passes its NS plus MOVE_HOLD. -/
  | moveHoldExpiry
  /-- AGE_SWEEPER_VISIT (R228): The sweeper visits an EMT entry and removes it as AGE_OUT if old enough. -/
  | ageSweeperVisit (index : Fin 0x400040)
  /-- STASH_MOVE_BACK (R211): The background engine moves a stash entry back into a free way slot. -/
  | stashMoveBack (entry : Fin 64)
  /-- SHADOW_WRITE (R240): A learn, age-out or commit reaches the DDR5 table shadow, or the write fails. -/
  | shadowWrite (table : Fin 3) (index : Nat) (ok : Bool)
  /-- SHADOW_RELOAD (R241): An uncorrectable table word is rewritten from the shadow within 50,000 ns, reporting unmirrored learns LOST. -/
  | shadowReload (table : Fin 3) (places lost : List Nat)
  /-- MCG_SEL_WRITE (R284): A write of MCG_SEL snapshots the group's staged configuration and port list. -/
  | mcgSelWrite (group : Fin 1024)
  /-- MCG_COMMIT (R272): MCG_CTRL.COMMIT puts the staged multicast group in force in one CORE cycle. -/
  | mcgCommit
  /-- POOL_CFG_WRITE (R249): A write of a pool size or QMIN is refused if pools would exceed CAPACITY. -/
  | poolCfgWrite (which : Fin 35) (data : Word) (low high : Bool)
  /-- Q_SEL_WRITE (R286): A write of Q_SEL snapshots the selected queue's status. -/
  | qSelWrite (slice : Fin 32) (port : Fin 1024) (queue : Fin 16)
  /-- PG_SEL_WRITE (R285): A write of PG_SEL snapshots the selected priority group's status. -/
  | pgSelWrite (slice : Fin 32) (port : Fin 1024) (cls : Fin 8)
  /-- CELL_ECC_ERROR (R277): An uncorrectable cell error drops or stomps its frame and rewrites the cell. -/
  | cellEccError (bank : Fin 1152) (corrected : Bool) (frame : Option Nat)
  /-- BANK_TAI_SECOND (R278): At each TAI second a bank's corrected-error count moves it between IN_SERVICE, WATCH and DRAINING. -/
  | bankTaiSecond (bank : Fin 1152)
  /-- SPARE_CMD (R279): SPARE_CMD.GO triggers sparing of the named bank. -/
  | spareCmd (bank : Fin 2048) (go : Bool)
  /-- SPARE_COPY_COMPLETE (R280): A bank's copy to its spare completes and it becomes REMAPPED. -/
  | spareCopyComplete (lost : List Nat)
  /-- MERGE_ENABLE (R292): MRG_CFG.ENABLE written 1 is refused or enables the merge group. -/
  | mergeEnable (group : Fin 64)
  /-- MERGE_DISABLE (R305): MRG_CFG.ENABLE written 0 releases every held frame in order without waiting for the horizon. -/
  | mergeDisable (group : Fin 64)
  /-- MERGE_ARRIVAL (R295): A merge-group frame reaches the sequencer and is held, emitted LATE or UNORDERED, or dropped. -/
  | mergeArrival (frame : Nat)
  /-- MERGE_EMIT (R295): TIME reaches K + H_EFF of the first held frame and it is emitted to its output queue, setting the frontier. -/
  | mergeEmit (group : Fin 64) (ecc : Fin 3)
  /-- SEED_DRAW (R296): Each group draws its tie-rank seed for a second from the DRBG before the second begins. -/
  | seedDraw (group : Fin 64)
  /-- SEED_PUBLISH (R296): At a second's end its seed appears in SEED_PREV. -/
  | seedPublish (group : Fin 64)
  /-- MEMBER_ABSENT (R303): A slot becomes absent when its port goes down or its device's pace expires, and is ledgered. -/
  | memberAbsent (group slot : Fin 64)
  /-- MEMBER_PRESENT (R303): A slot becomes present again and its device's pace enters P. -/
  | memberPresent (group slot : Fin 64)
  /-- RELEASE_ENABLE (R308): REL_CFG.ENABLE written 1 is refused or enables the release group, holding votes on members. -/
  | releaseEnable (group : Fin 256)
  /-- RELEASE_DISABLE (R319): REL_CFG.ENABLE written 0 releases held replicas at once without alignment, LATE. -/
  | releaseDisable (group : Fin 256)
  /-- RELEASE_HOLD (R307): A release-group frame reaches the release engine, is admitted to MC1 of each member and held, and forwarded if FWD_ENABLE. -/
  | releaseHold (frame : Nat) (cells : List (Fin 1152))
  /-- RELEASE_AT_WRITE (R310): A RELEASE_AT write schedules or replaces the next explicit release. -/
  | releaseAtWrite (group : Fin 256) (ns : Word)
  /-- RELEASE_WINDOW_OPEN (R313): A release window opens on every member, blocking cut-through and late starts. -/
  | releaseWindowOpen (group : Fin 256)
  /-- RELEASE_CUTOFF (R310): At C = T_R' − 400 ns the batch is fixed and absent members excluded. -/
  | releaseCutoff (group : Fin 256)
  /-- RELEASE_PREEMPT (R313): At T_R' − 151 byte times a preemptible frame in progress is preempted. -/
  | releasePreempt (group : Fin 256)
  /-- RELEASE (R312): At T_R' each member transmits the batch back to back and a release event is ledgered. -/
  | release (group : Fin 256)
  /-- RELEASE_WINDOW_CLOSE (R313): The batch's last frame ends on every member and the window closes. -/
  | releaseWindowClose (group : Fin 256)
  /-- D_EFF_CHANGE (R315): A new pace takes effect on D_EFF at the first hello-period multiple after its hello. -/
  | dEffChange (group : Fin 256)
  /-- DISABLE (R328): CTX_CMD DISABLE returns the context to DISABLED. -/
  | disable
  /-- CONTEXT_ARM (R328): CTX_CMD ARM clears the context and enters LEARNING or RUNNING, or is refused. -/
  | contextArm
  /-- SET_EXPECTED (R328): CTX_CMD SET_EXPECTED sets EXPECTED to SEQ_SET and clears gaps and bitmap. -/
  | setExpected
  /-- CLEAR_GAPS (R328): CTX_CMD CLEAR_GAPS ends every open gap with GAP_CLEARED. -/
  | clearGaps
  /-- CTX_SEL_WRITE (R349): A write of CTX_SEL or REQ_SEL snapshots the selected context or requester. -/
  | ctxSelWrite (requester : Bool) (index : Fin 8192)
  /-- LEG_DOWN (R333): At a 1,024 ns evaluation a leg silent for LEG_TIMEOUT_US goes DOWN, switching an ORDER context. -/
  | legDown (context : Fin 8192)
  /-- GAP_EXPIRED (R337): A gap open longer than GAP_TIMEOUT_US expires at an evaluation. -/
  | gapExpired (context : Fin 8192)
  /-- RETX_REQUEST_SERVE (R344): A queued retransmission request is served from the ring, replies admitted and refusals reported. -/
  | retxRequestServe (bad : List Nat) (lost : Bool)
  /-- TOKEN_REFILL (R345): At each TAI millisecond every requester's bucket gains REFILL tokens. -/
  | tokenRefill
  /-- REQ_ENABLE (R345): REQ_CFG.ENABLE written 1 fills the requester's bucket. -/
  | reqEnable (refill burst : BitVec 16)
  /-- CONTEXT_LOST (R348): An uncorrectable context error drops its frames and rebuilds the context in RUNNING. -/
  | contextLost (frame : Nat)
  /-- LEDGER_RECORD_ENTRY (R357): A formed record enters its stream, hashed into the open block, closing it at 256 records. -/
  | ledgerRecordEntry (stream : Fin 32) (buffer : Buffering)
  /-- SELECTION_COMMIT (R358): SEL_CMD.COMMIT stages the capture selection for the next anchor instant at least 2,048 ns away. -/
  | selectionCommit
  /-- ANCHOR_INSTANT (R370): At each TAI multiple of 1,048,576 ns every stream closes its block, selection and KATs apply and an anchor is assembled. -/
  | anchorInstant (failed : Fin 129) (gone : List (Fin 32))
  /-- ANCHOR_SIGNED (R372): The anchor is signed and written to DDR5 and the MRAM journal. -/
  | anchorSigned (result : Signing) (journalOk : Bool)
  /-- ANCHOR_MISSED (R372): An anchor not produced within 500,000 ns is not issued and counted in MISSED. -/
  | anchorMissed
  /-- BLOCK_WRITE (R369): A closed block is reserved and written to its capture ring, or discarded with RING_FULL. -/
  | blockWrite (stream : Fin 32)
  /-- LEDGER_ENABLE (R375): LDG_CFG.ENABLE written 1 starts a run with GAP records and a START anchor. -/
  | ledgerEnable
  /-- LEDGER_DISABLE (R375): LDG_CFG.ENABLE written 0 closes every block and issues a STOP anchor. -/
  | ledgerDisable
  /-- STREAM_ENABLE_CHANGE (R366): SCFG.ENABLE falls or rises, writing a STREAM_DISABLED GAP record at re-enable. -/
  | streamEnableChange (stream : Fin 32) (on_ : Bool)
  /-- SEAL_WRITTEN (R376): Ledger issues its SEAL anchor over closed blocks into the journal after safe-state entry. -/
  | sealWritten (result : Signing) (journalOk : Bool)
  /-- EXPORT_SEND (R380): Ledger sends a closed block or anchor as export frames on a designated port. -/
  | exportSend (entry : Fin 16)
  /-- COUNTER_EVENT (R386): A block sends an event message and Visor's store increments the counters that count it. -/
  | counterEvent (event : BitVec 16) (inst : Fin 8192) (bytes at_ : Nat)
  /-- EVSEL_WRITE (R394): A write to a general counter's EVSEL is refused or applies for later events. -/
  | evselWrite (counter : Fin 4096) (data : Word)
  /-- BW_END_READ (R403): A read of BW_END latches BW_RX_LAST and BW_TX_LAST of the same window. -/
  | bwEndRead (port : Fin 1024) (bar2 : Bool)
  /-- BW_WINDOW_CLOSE (R402): A bandwidth window's counts are final and BW_END, LAST and PEAK registers update. -/
  | bwWindowClose (port : Fin 1024)
  /-- SNAP_AT_WRITE (R395): A SNAP_AT write schedules a snapshot or is refused while one is pending. -/
  | snapAtWrite (ns : Word)
  /-- SNAP_CANCEL (R395): SNAP_CMD.CANCEL ends a snapshot schedule. -/
  | snapCancel
  /-- SNAPSHOT_CLOSE (R396): 64 ns after the last event before T_S is known, the snapshot's counts close and writing starts. -/
  | snapshotClose
  /-- SNAPSHOT_COMPLETE (R397): The snapshot image is written, COMMIT last, and vector 128 sent. -/
  | snapshotComplete
  /-- SNAP_SLOW (R397): The snapshot write is not complete within 2,000,000 ns of T_S and cause 1 latches. -/
  | snapSlow
  /-- TRACE_ENABLE (R399): TRACE_CFG.ENABLE written 1 loads the slice's LFSR seed. -/
  | traceEnable (slice : Fin 32) (drbg : Bool) (rate : BitVec 5)
  /-- COUNTER_ECC_ERROR (R404): A counter-copy ECC error is corrected, repaired from the other copy, or makes the counter DAMAGED. -/
  | counterEccError (page : Fin 4096) (offset : Fin 512) (kind : Fin 3)
  /-- POWER_VOTE (R414): A vote or hardware hold changes and the domain's target is recomputed, starting a wake or hold-off. -/
  | powerVote (domain : Fin 209) (source : Fin 3) (vote : Fin 8)
  /-- HOLDOFF_EXPIRY (R415): HOLDOFF_US passes with a deeper target and the entry starts, with a handshake for privileged domains. -/
  | holdoffExpiry (domain : Fin 209)
  /-- PRIVILEGED_ANSWER (R417): A privileged block answers an entry request with ACCEPT, DELAY or REFUSE. -/
  | privilegedAnswer (domain : Fin 209) (busy : Bool) (delay : BitVec 16)
  /-- HANDSHAKE_NO_ANSWER (R417): No answer within 100,000 ns counts as REFUSE with NO_ANSWER. -/
  | handshakeNoAnswer (domain : Fin 209)
  /-- DELAY_EXPIRY (R417): A DELAY answer's delay passes and Mitten asks again. -/
  | delayExpiry (domain : Fin 209)
  /-- DOMAIN_ENTRY_COMPLETE (R424): A domain completes its entry and a latched wake is replayed. -/
  | domainEntryComplete (domain : Fin 209)
  /-- CLOCK_GATE (R412): A domain in IDLE gates its clock after 64 cycles without demand. -/
  | clockGate (domain : Fin 209) (demand : Bool)
  /-- AVS_ACK (R420): A regulator acknowledges an AVSBus setpoint and the waiting transition proceeds. -/
  | avsAck
  /-- AVS_TIMEOUT (R420): An AVSBus try times out and is retried or falls back. -/
  | avsTimeout
  /-- WAKE_STAGE_COMPLETE (R422): A wake stage completes and the next starts, the domain reporting ACTIVE after the last. -/
  | wakeStageComplete (domain : Fin 209) (lost : List LostBank)
  /-- WAKE_STAGE_TIMEOUT (R422): A wake stage times out and retries, or after 4 tries the wake fails. -/
  | wakeStageTimeout (domain : Fin 209)
  /-- REINIT_COMPLETE (R423): A domain woken from OFF finishes reinitialisation and reports ACTIVE. -/
  | reinitComplete (domain : Fin 209)
  /-- RETRY_WAKE (R425): DOM_CMD.RETRY_WAKE lifts the denial on a failed domain and starts a fresh wake. -/
  | retryWake
  /-- DOM_SEL_WRITE (R429): A write of DOM_SEL snapshots the named domain's configuration, status and counts. -/
  | domSelWrite (domain : BitVec 8)
  /-- VDD_LOW_OFF (R420): VDD_LOW is turned off 1,000,000 ns after the last domain leaves DROWSE. -/
  | vddLowOff
  /-- XTAL_LOST (R428): AON_XTAL stops and Mitten moves AON to the RC oscillator. -/
  | xtalLost
  /-- ESTIMATOR_PERIOD (R436): At each 2,048 ns period end power is estimated, energies added and R, L, voltage counts and pending caps updated. -/
  | estimatorPeriod (parts : List Nat) (core : Nat)
  /-- CAP_WRITE (R441): A write of CAP_W or ENABLE sets CAP_PENDING until a boundary with no release window. -/
  | capWrite (data : Word)
  /-- POWER_CAL_START (R433): CAL_CMD.START makes Crown sample regulator power for 60 s to fit weights. -/
  | powerCalStart
  /-- POWER_CAL_COMPLETE (R433): The weight fit finishes, CALIBRATED or FAILED. -/
  | powerCalComplete (residual : Nat)
  /-- USE_FUSED (R433): CAL_CMD.USE_FUSED returns to fused weights at the next boundary. -/
  | useFused
  /-- DROOP_CROSSING (R442): A droop detector crosses its threshold and the clock stretcher lengthens cycles within its budget. -/
  | droopCrossing (detector : Fin 64) (stretched : Nat)
  /-- DROOP_OVERRUN (R443): A droop outlasts the stretch budget and R and L are forced to maximum. -/
  | droopOverrun
  /-- THERMAL_SAMPLE (R444): Every 32,768 ns the junction sensors are sampled and CAP_T moves. -/
  | thermalSample (temps : List (Option (BitVec 9)))
  /-- THERMTRIP (R446): A junction reaches 125 °C, THERMTRIP_N falls and FC4 latches. -/
  | thermtrip
  /-- LINE_LATCH (R454): Within 256 ns of an error line rising Gauntlet latches it and takes its class reaction. -/
  | lineLatch (line : Fin 1024) (fired : List (BitVec 14 × Fin 16))
  /-- LINE_STATUS_CLEAR (R454): A W1C write of LINE_STATUS clears bits whose lines are low. -/
  | lineStatusClear (k : Fin 16) (data : Word)
  /-- LINE_SEL_WRITE (R477): A write of LINE_SEL snapshots LINE_INFO and LINE_LAST. -/
  | lineSelWrite (line : Fin 1024)
  /-- ESCALATION_END (R461): A line's reset count falls to 8 or below and escalation ends. -/
  | escalationEnd (line : Fin 1024)
  /-- GNT_REG_PARITY (R457): A parity error in Gauntlet state enters the safe state directly. -/
  | gntRegParity
  /-- SAFE_STATE_ENTRY (R464): The entry decision stops forwarding, drives SAFE_N and FAULT_N low and starts the safe-state sequence. -/
  | safeStateEntry
  /-- SEQUENCER_SEAL (R466): Ledger has not reported its SEAL within 40,000,000 ns and the sequencer builds and writes it. -/
  | sequencerSeal (signed_ toDdr journalOk : Bool)
  /-- FAULT_SNAPSHOT_WRITE (R467): The fault snapshot is written to its MRAM slot. -/
  | faultSnapshotWrite
  /-- SNAP_SEL_WRITE (R477): A write of SNAP_SEL selects the fault snapshot slot shown in the window. -/
  | snapSelWrite (slot : Fin 2)
  /-- SCRUB_VISIT (R472): Patrol scrub reads an SRAM word, correcting or handling an uncorrectable error. -/
  | scrubVisit (macro_ row : Nat) (found : Scrubbed) (cell : Option (Fin 1152 × Option Nat)) (last : Bool)
  /-- SOFT_REPAIR (R473): A faulty row's copy to a spare row completes and the switch is recorded. -/
  | softRepair (macro_ row : Nat) (bank : Option (Fin 1152))
  /-- SEAM_WIRE_CHECK (R474): At a TAI second a wire over WIRE_THRESH corrections starts spare training. -/
  | seamWireCheck (link : Fin 9) (down : Bool) (wire : Fin 1280) (check : WireCheck)
  /-- SEAM_SPARE_SWITCH (R474): A trained spare wire replaces a failing wire at a flit boundary. -/
  | seamSpareSwitch (link : Fin 9) (down : Bool) (wire : Fin 1280)
  /-- SEAM_FLIT_UNCORRECTABLE (R474): An uncorrectable Seam flit marks its frames bad. -/
  | seamFlitUncorrectable (link : Fin 9) (frames replicas : List Nat)
  /-- WEAR_HOUR (R476): At each TAI hour wear monitors are sampled and end-of-life predictions refitted. -/
  | wearHour (samples : List (Fin 4 × Fin 1024 × Nat)) (restarted : List (Fin 1024))
  /-- WEAR_SEL_WRITE (R477): A write of WEAR_SEL snapshots WEAR_STATUS. -/
  | wearSelWrite (kind : Fin 4) (index : Fin 1024)
  /-- HOST_LINK_UP (R480): The host link trains and comes up in CXL or PCIe mode. -/
  | hostLinkUp (cxl : Bool) (width : Fin 9) (rate : Fin 6) (cacheEn memEn atsEn : Bool)
  /-- HOST_LINK_DOWN (R480): The host link goes down, failing host-memory accesses in progress. -/
  | hostLinkDown
  /-- HDM_READ (R484): A CXL.mem read of the HDM range returns data or poisoned all ones. -/
  | hdmRead (address : BitVec 52)
  /-- HDM_WRITE (R484): A CXL.mem write is completed, discarded and recorded. -/
  | hdmWrite (address : BitVec 52)
  /-- ATS_INVALIDATION (R488): An Invalidation Request is completed after the last access using the entry. -/
  | atsInvalidation
  /-- MAILBOX_GO (R490): MB_DOORBELL.GO submits the mailbox descriptor to Crown, or is discarded while BUSY. -/
  | mailboxGo
  /-- CROWN_RING_DOORBELL (R491): A write of CR_TAIL makes Crown fetch descriptors of its command ring. -/
  | crownRingDoorbell (tail : BitVec 10) (descs : List (List Byte))
  /-- CROWN_RING_FETCH_ERR (R491): A Crown ring fetch fails and the ring stops. -/
  | crownRingFetchErr (translation : Bool)
  /-- NOP (R493): The NOP command completes at once. -/
  | nop (ring : Bool)
  /-- GET_VERSIONS (R493): The GET_VERSIONS command returns both pairs' firmware versions. -/
  | getVersions (ring : Bool)
  /-- BUNDLE_STAGE (R498): The BUNDLE_STAGE command fetches a bundle into a staging slot and verifies it. -/
  | bundleStage (ring : Bool) (bytes : List Byte) (error : Option Bool)
  /-- BUNDLE_DROP (R493): The BUNDLE_DROP command frees a staged bundle. -/
  | bundleDrop (ring : Bool)
  /-- UCODE_LOAD (R493): The UCODE_LOAD command loads a KNUCKLE section into the named slices' idle banks. -/
  | ucodeLoad (ring : Bool)
  /-- FW_UPDATE (R503): The FW_UPDATE command starts a hitless update from a staged bundle. -/
  | fwUpdate (ring : Bool)
  /-- FW_CONFIRM (R503): The FW_CONFIRM command ends CONFIRMING at once. -/
  | fwConfirm (ring : Bool)
  /-- FW_ROLLBACK (R505): The FW_ROLLBACK command switches back to the previous firmware. -/
  | fwRollback (ring : Bool)
  /-- FW_ABORT (R493): The FW_ABORT command ends an update in LOADING or SYNCING. -/
  | fwAbort (ring : Bool)
  /-- SVN_COMMIT (R499): The SVN_COMMIT command raises the OTP SVN floor and blows revocation bits. -/
  | svnCommit (ring : Bool)
  /-- DDR_READ (R493): The DDR_READ command copies DDR5 bytes to host memory. -/
  | ddrRead (ring : Bool)
  /-- FW_SELFTEST_DONE (R503): The standby pair's firmware load and self-test finish, entering SYNCING or failing. -/
  | fwSelftestDone (passed : Bool)
  /-- FW_SWITCH_START (R503): The standby is synced and TIME reaches AT, and SWITCHING starts. -/
  | fwSwitchStart
  /-- FW_SWITCH_COMPLETE (R503): The handover completes and the new pair runs in CONFIRMING. -/
  | fwSwitchComplete
  /-- CONFIRM_TIMEOUT (R503): CONFIRM_S seconds pass in CONFIRMING and RESYNC begins. -/
  | confirmTimeout
  /-- FW_RESYNC_COMPLETE (R504): The previous pair holds the new firmware, sections are installed and flash written under R544. -/
  | fwResyncComplete (missed : Fin 9)
  /-- CHECKPOINT_WRITE (R500): The active Crown pair writes its checkpoint every 1,000,000 ns and at each completion. -/
  | checkpointWrite
  /-- CROWN_PAIR_FAILURE (R501): The active Crown pair fails by lockstep, watchdog or wake failure and a takeover starts. -/
  | crownPairFailure (standby : Bool) (kind : Fin 3) (afterHandover : Bool)
  /-- TAKEOVER_COMPLETE (R502): The standby pair becomes active from the checkpoint and finishes interrupted commands. -/
  | takeoverComplete
  /-- DOE_DISCOVERY (R506): A DOE Discovery request is answered. -/
  | doeDiscovery (index : Fin 2)
  /-- GET_VERSION (R506): An SPDM GET_VERSION request is answered. -/
  | getVersion
  /-- GET_CAPABILITIES (R506): An SPDM GET_CAPABILITIES request is answered. -/
  | getCapabilities
  /-- NEGOTIATE_ALGORITHMS (R506): An SPDM NEGOTIATE_ALGORITHMS request is answered. -/
  | negotiateAlgorithms
  /-- GET_DIGESTS (R506): An SPDM GET_DIGESTS request is answered. -/
  | getDigests
  /-- GET_CERTIFICATE (R506): An SPDM GET_CERTIFICATE request returns slot 0's chain. -/
  | getCertificate (slot : Fin 8) (offset length : BitVec 16)
  /-- CHALLENGE (R506): An SPDM CHALLENGE request is answered with a signature. -/
  | challenge (slot : Fin 8) (nonce : List Byte)
  /-- GET_MEASUREMENTS (R507): An SPDM GET_MEASUREMENTS request returns the measurement blocks. -/
  | getMeasurements (index : BitVec 8) (signed : Bool) (nonce : List Byte)
  /-- SPDM_UNSUPPORTED_REQUEST (R506): Any other SPDM request is answered ERROR UnsupportedRequest. -/
  | spdmUnsupportedRequest
  /-- DOE_TIMEOUT (R508): A DOE request unanswered for 1 s sets the DOE Error bit. -/
  | doeTimeout
  /-- RETX_GIB_WRITE (R519): A write of RETX_GIB moves the RETX and CAPTURE regions or is refused. -/
  | retxGibWrite (data : Word)
  /-- DDR_TRAINING_COMPLETE (R523): A channel finishes training or self-refresh exit, or fails with TRAINING. -/
  | ddrTrainingComplete (channel : Fin 8) (ok : Bool)
  /-- MARGIN_CHECK (R524): At each hour plus c seconds channel c runs its margin check. -/
  | marginCheck (channel : Fin 8) (read write : BitVec 8)
  /-- DDR_ECC_ERROR (R525): A DDR5 line is corrected or rewritten with poison. -/
  | ddrEccError (address : BitVec 41) (corrected : Bool)
  /-- DDR_SCRUB_VISIT (R527): DDR5 patrol scrub reads a line, repairing poisoned shadow lines. -/
  | ddrScrubVisit (address : BitVec 41)
  /-- DRAM_TEMP_READ (R527): Every 100 ms each DIMM's temperature is read and refresh rate adjusted. -/
  | dramTempRead (channel : Fin 8) (temp : Option (BitVec 8))
  /-- POWER_ON_RESET (R535): The first rise of SYS_RST_N after VDD_AON completes the power-on reset and starts boot. -/
  | powerOnReset (gpio0 testMode : Bool)
  /-- WARM_RESET (R539): SYS_RST_N low for at least 1,000 ns commits a warm reset and starts the quiesce. -/
  | warmReset
  /-- WARM_RESET_APPLY (R539): Quiesce complete with SYS_RST_N high, the warm reset applies and boot starts. -/
  | warmResetApply (gpio0 testMode : Bool)
  /-- PERST (R536): PERST_N resets only the host-link controller, HDM decoder and ATC. -/
  | perst (level : Bool)
  /-- POWER_REMOVAL (R534): The board removes power, with or without a prior SYS_RST_N hold. -/
  | powerRemoval (hold : Bool)
  /-- BOOT_STEP_COMPLETE (R548): A boot step completes and the steps that need it start. -/
  | bootStepComplete (step : Fin 17) (facts : BootFacts)
  /-- BYPASS (R571): The TAP BYPASS instruction selects the bypass register. -/
  | bypass
  /-- IDCODE (R571): The TAP IDCODE instruction returns 0x0102_4B3D. -/
  | idcode
  /-- SAMPLE_PRELOAD (R571): The SAMPLE/PRELOAD instruction acts in TEST_MODE 1. -/
  | samplePreload
  /-- EXTEST (R571): The EXTEST instruction acts in TEST_MODE 1. -/
  | extest
  /-- EXTEST_PULSE (R571): The EXTEST_PULSE instruction acts in TEST_MODE 1. -/
  | extestPulse
  /-- EXTEST_TRAIN (R571): The EXTEST_TRAIN instruction acts in TEST_MODE 1. -/
  | extestTrain
  /-- CLAMP (R571): The CLAMP instruction acts in TEST_MODE 1. -/
  | clamp
  /-- HIGHZ (R571): The HIGHZ instruction acts in TEST_MODE 1. -/
  | highz
  /-- CLK_OUT_EDGE (R103): CLK_OUT rises every 2 × HALF_PERIOD after its START instant and falls HALF_PERIOD after each rise. -/
  | clkOutEdge
  /-- DELAY_REQ_SEND (R87): A port in the receiver role sends Delay_Req (E2E) or Pdelay_Req (P2P) to measure path delay to its peer. -/
  | delayReqSend (port : Fin 1024) (tap : TxTap)
  /-- REMOTE_FAULT (R158): The partner starts or stops sending Remote Fault; Skoast sends idle while it receives it, and LINK_STATUS.REMOTE_FAULT follows. -/
  | remoteFault (port : Fin 1024) (on_ : Bool)
  /-- VDD_AON_UP (R565): VDD_AON reaches regulation, and SAFE_N and FAULT_N are driven low until the first rise of SYS_RST_N. -/
  | vddAonUp
  /-- SELF_REFRESH_ENTRY (R528): 50,000,000 ns after entry into the safe state, or earlier once the SEAL write ends, every DDR5 channel completes its writes in flight and enters self-refresh. -/
  | selfRefreshEntry
  /-- SNOOP (R487): A CXL.cache snoop from the host is answered with RspIHitI. -/
  | snoop
  deriving DecidableEq, Repr

end Sys2Proof
end

