-- ==== Sys2Proof/Config.lean ====
section
/-! DEFINITION. What an implementation or a single device fixes, and the free values: opaque constants of which no
proof can know anything. -/

namespace Sys2Proof.Config

/-- Draws of the DRBG (R296, R399, R506), by the model's counter of draws. -/
opaque drbg : Nat → Word

/-- Bytes of an ECDSA P-384 signature (R372, R506): byte `i` of draw `n` over a message digest. -/
opaque signatureByte : List Byte → Nat → Nat → Byte

/-- Whole months of a number of hours (R476): the spec does not say how long a month is. -/
opaque months : Nat → Nat

/-- The bound below which the end of life lies with 90 % confidence, in months, from a monitor's history (R476): the
spec gives no formula. -/
opaque months90 : List (Nat × Nat) → Nat

/-- By how much the effective instant of a time-base code change lies beyond the 64 ns that R118 sets as its least
distance, in 1/65,536 ns, by the model's counter. -/
opaque tqDelay : Nat → Nat

/-- The instant that a stamp of TQ 0xF holds, which carries no meaning (R15), by the model's counter. -/
opaque invalidStamp : Nat → Nat

/-- What a control-store location that has failed parity holds (R195, R202), by the location and the model's counter. -/
opaque faultyItem : Nat → Nat → Nat

/-- FIRST and LAST of a session event that concerns no number (R347), by the model's counter and the field. -/
opaque eventNumber : Nat → Nat → Nat

/-- The energy in nJ charged to an egress queue for a replica (R434): the slot weight of its slice plus the byte weight
times its length, by the weights in force, the slice and the length. The weights are the device's own. -/
opaque queueCharge : Nat → Nat → Nat → Nat

/-- Byte `i` of the key hash in an OTP key slot, written at manufacture (R499). -/
opaque keyHash : Nat → Nat → Byte

/-- ECDSA P-384 accepts a signature over a message under a public key (R496, R498). -/
opaque signatureValid : List Byte → List Byte → List Byte → Bool

/-- The build number of a Crown firmware (IDN offset 0x090), by the digest of its section: the bundle's layout has no
field for it (R496). -/
opaque firmwareBuild : List Byte → Nat

/-- The bytes that measurement block 8 hashes (R507), by SVN floor, running SVN and revocation bits: the spec does not
lay them out. -/
opaque policyBytes : Nat → Nat → Nat → List Byte

/-- What the CXL component registers of BAR4 read in CXL mode (R35): CXL 2.0 defines them and the spec does not lay them out;
by address and the model's counter. -/
opaque componentRegister : Nat → Nat → Nat

/-- The source address of a port's Denoon capability frames (R140): the spec gives the destination alone. -/
opaque portAddress : Nat → Nat

/-- The maximum training wait, in ns, that the PMD clause of a port type defines (R142), by the port's width and rate code: IEEE
802.3 defines it. -/
opaque trainingWait : Nat → Nat → Nat

/-- What a register reads whose value the spec does not compute: translations in use, bandwidth and accesses in flight
(R510, R530), and the oldest generation while no frame holds one (R221); by the register's address and the model's counter. -/
opaque unitReading : Nat → Nat → Nat

end Sys2Proof.Config
end

