-- ==== Sys2Proof/Machine/Fields.lean ====
section
/-! DEFINITION. The registers of the BAR0 pages: every field of the register tables of spec/02 to spec/17, with its
offset, place, access code (R3), reset value (R7) and marks (Sticky, Atomic-64), and the page map of R42. -/

namespace Sys2Proof.Machine

/-- The access codes of R3 that the tables use; `w1cAny` is a W1C count that a write of any 1 within the field clears. -/
inductive Access where
  | ro | rw | w1c | w1cAny | wo
  deriving DecidableEq, Repr

/-- What a Reset cell that reads HW stands for (R7), by the rule that fixes it. -/
inductive HwKind where
  | pageType | instanceIndex | capPage | capOff | configured | classDefault | domainPage | rangeFirst | rangeLast
  | rangeType | rangeCount | capId | capVersion | capFirst | capCount | capNextPage | capNextOff | portWidth | tc7Backing
  deriving DecidableEq, Repr

/-- A Reset cell (R7): a number, the index of the field within its register, or a value hardware loads. -/
inductive Rst where
  | val (v : Nat)
  | index
  | hw (k : HwKind)
  deriving DecidableEq, Repr

/-- One field of a register: offset of its register within the page, lowest bit, width; `n` registers `stride` bytes
apart, each with `m` fields `bst` bits apart. -/
structure Fld where
  off : Nat
  lo : Nat
  w : Nat
  acc : Access := .ro
  rst : Rst := .val 0
  n : Nat := 1
  stride : Nat := 0
  m : Nat := 1
  bst : Nat := 0
  sticky : Bool := false
  a64 : Bool := false
  deriving DecidableEq, Repr

/-- The page kinds: pages of one kind hold the same registers. -/
inductive Layout where
  | idn | cap | hbd0 | hbd1 | hbd2 | hbd3 | hbd4 | hbd5 | hbd8 | hbd9 | hbd10 | lan | prt | oct | til | ucs | tbl0 | tbl1 | tbl2 | tbl3 | tblq | bufg | bufx | slii | slie | hr | mrg | rel | ses0 | sesq | ldg0 | ldg1 | ldg2 | ldgs | vsr0 | vsr2 | vsre | trc | cntp | cntq | cntg | cnti | cnte | cnts | cntm | cntr | mtn0 | mtn1 | mtn2 | pwc0 | pwc1 | pwc2 | pwc3 | gnt0 | gnt1 | gnt2 | gnt3 | crn0 | crn1 | crn2 | cxl0 | ddr0 | ddrc | plain
  deriving DecidableEq, Repr

namespace F

-- all present pages: 02_control_pages.md
/-- R45: hdr.PAGE_ID.TYPE. -/ def hdr_PAGE_ID_TYPE : Fld := { off := 0x000, lo := 0, w := 8, rst := .hw .pageType }
/-- R45: hdr.PAGE_ID.INSTANCE. -/ def hdr_PAGE_ID_INSTANCE : Fld := { off := 0x000, lo := 8, w := 16, rst := .hw .instanceIndex }
/-- R45: hdr.PAGE_ID.VERSION. -/ def hdr_PAGE_ID_VERSION : Fld := { off := 0x000, lo := 24, w := 8, rst := .val 1 }
/-- R45: hdr.CAP_PTR.PAGE. -/ def hdr_CAP_PTR_PAGE : Fld := { off := 0x008, lo := 0, w := 16, rst := .hw .capPage }
/-- R45: hdr.CAP_PTR.OFFSET. -/ def hdr_CAP_PTR_OFFSET : Fld := { off := 0x008, lo := 16, w := 12, rst := .hw .capOff }
/-- R45: hdr.PAGE_CTRL.BLOCK_RESET. -/ def hdr_PAGE_CTRL_BLOCK_RESET : Fld := { off := 0x010, lo := 0, w := 1, acc := .wo }
/-- R37: hdr.PAGE_CTRL.USER_READ. -/ def hdr_PAGE_CTRL_USER_READ : Fld := { off := 0x010, lo := 1, w := 1, acc := .rw }
/-- R44: hdr.PAGE_STATUS.CONFIGURED. -/ def hdr_PAGE_STATUS_CONFIGURED : Fld := { off := 0x018, lo := 0, w := 1, rst := .hw .configured }
/-- R46: hdr.PAGE_STATUS.RESET_BUSY. -/ def hdr_PAGE_STATUS_RESET_BUSY : Fld := { off := 0x018, lo := 1, w := 1 }
/-- R50: hdr.PAGE_STATUS.QUENCH_ACTIVE. -/ def hdr_PAGE_STATUS_QUENCH_ACTIVE : Fld := { off := 0x018, lo := 2, w := 1 }
/-- R47: hdr.PAGE_STATUS.ASLEEP. -/ def hdr_PAGE_STATUS_ASLEEP : Fld := { off := 0x018, lo := 3, w := 1 }
/-- R44: hdr.PAGE_STATUS.WRITE_DROPPED. -/ def hdr_PAGE_STATUS_WRITE_DROPPED : Fld := { off := 0x018, lo := 4, w := 1, acc := .w1c }
/-- R454: hdr.PAGE_STATUS.ERR_LINE. -/ def hdr_PAGE_STATUS_ERR_LINE : Fld := { off := 0x018, lo := 5, w := 1 }
/-- R48: hdr.ERR_STATUS.REAL. -/ def hdr_ERR_STATUS_REAL : Fld := { off := 0x020, lo := 0, w := 16, acc := .w1c }
/-- R48: hdr.ERR_STATUS.QUENCHED. -/ def hdr_ERR_STATUS_QUENCHED : Fld := { off := 0x020, lo := 16, w := 16, acc := .w1c }
/-- R48: hdr.ERR_STATUS.INJECTED. -/ def hdr_ERR_STATUS_INJECTED : Fld := { off := 0x020, lo := 32, w := 16, acc := .w1c }
/-- R45: hdr.ERR_MASK.MASK. -/ def hdr_ERR_MASK_MASK : Fld := { off := 0x028, lo := 0, w := 16, acc := .rw }
/-- R458: hdr.ERR_INJECT.INJECT. -/ def hdr_ERR_INJECT_INJECT : Fld := { off := 0x030, lo := 0, w := 16, acc := .wo }
/-- R49: hdr.ERR_CLASS_MAP.CLASS. -/ def hdr_ERR_CLASS_MAP_CLASS : Fld := { off := 0x038, lo := 0, w := 3, acc := .rw, rst := .hw .classDefault, m := 16, bst := 3 }
/-- R413: hdr.PWR_VOTE.STATE. -/ def hdr_PWR_VOTE_STATE : Fld := { off := 0x040, lo := 0, w := 3, acc := .rw, rst := .val 0x7 }
/-- R409: hdr.PWR_STATE.CURRENT. -/ def hdr_PWR_STATE_CURRENT : Fld := { off := 0x048, lo := 0, w := 3 }
/-- R409: hdr.PWR_STATE.IN_TRANSITION. -/ def hdr_PWR_STATE_IN_TRANSITION : Fld := { off := 0x048, lo := 3, w := 1 }
/-- R409: hdr.PWR_STATE.TARGET. -/ def hdr_PWR_STATE_TARGET : Fld := { off := 0x048, lo := 4, w := 3 }
/-- R425: hdr.PWR_STATE.WAKE_FAIL. -/ def hdr_PWR_STATE_WAKE_FAIL : Fld := { off := 0x048, lo := 7, w := 1 }
/-- R425: hdr.PWR_STATE.FAIL_STAGE. -/ def hdr_PWR_STATE_FAIL_STAGE : Fld := { off := 0x048, lo := 8, w := 4 }
/-- R409: hdr.PWR_STATE.DOMAIN_PAGE. -/ def hdr_PWR_STATE_DOMAIN_PAGE : Fld := { off := 0x048, lo := 15, w := 1, rst := .hw .domainPage }
/-- R50: hdr.QUENCH_CFG.WINDOW. -/ def hdr_QUENCH_CFG_WINDOW : Fld := { off := 0x050, lo := 0, w := 16, acc := .rw, rst := .val 0x07D0 }

-- page 0x0000: 02_control_pages.md
/-- R51: idn.PART. -/ def idn_PART : Fld := { off := 0x080, lo := 0, w := 16, rst := .val 0x1024 }
/-- R51: idn.STEPPING. -/ def idn_STEPPING : Fld := { off := 0x080, lo := 16, w := 8, rst := .val 0xA0 }
/-- R51: idn.SERIAL. -/ def idn_SERIAL : Fld := { off := 0x088, lo := 0, w := 64 }
/-- R51: idn.FW.MINOR. -/ def idn_FW_MINOR : Fld := { off := 0x090, lo := 0, w := 16 }
/-- R51: idn.FW.MAJOR. -/ def idn_FW_MAJOR : Fld := { off := 0x090, lo := 16, w := 16 }
/-- R51: idn.FW.BUILD. -/ def idn_FW_BUILD : Fld := { off := 0x090, lo := 32, w := 32 }
/-- R51: idn.DEVICE_STATE.SAFE_STATE. -/ def idn_DEVICE_STATE_SAFE_STATE : Fld := { off := 0x098, lo := 0, w := 1 }
/-- R456: idn.DEVICE_STATE.FAULT_CLASS. -/ def idn_DEVICE_STATE_FAULT_CLASS : Fld := { off := 0x098, lo := 1, w := 3 }
/-- R51: idn.DEVICE_STATE.REF_ABSENT. -/ def idn_DEVICE_STATE_REF_ABSENT : Fld := { off := 0x098, lo := 4, w := 1 }
/-- R51: idn.DEVICE_STATE.BOOT_DONE. -/ def idn_DEVICE_STATE_BOOT_DONE : Fld := { off := 0x098, lo := 5, w := 1 }
/-- R51: idn.DEVICE_STATE.LINK_MODE. -/ def idn_DEVICE_STATE_LINK_MODE : Fld := { off := 0x098, lo := 6, w := 2 }
/-- R51: idn.RANGE_COUNT. -/ def idn_RANGE_COUNT : Fld := { off := 0x0A0, lo := 0, w := 8, rst := .val 0x20 }
/-- R51: idn.RANGE_n.FIRST. -/ def idn_RANGE_n_FIRST : Fld := { off := 0x100, lo := 0, w := 16, rst := .hw .rangeFirst, n := 32, stride := 8 }
/-- R51: idn.RANGE_n.LAST. -/ def idn_RANGE_n_LAST : Fld := { off := 0x100, lo := 16, w := 16, rst := .hw .rangeLast, n := 32, stride := 8 }
/-- R51: idn.RANGE_n.TYPE. -/ def idn_RANGE_n_TYPE : Fld := { off := 0x100, lo := 32, w := 8, rst := .hw .rangeType, n := 32, stride := 8 }
/-- R51: idn.RANGE_n.COUNT. -/ def idn_RANGE_n_COUNT : Fld := { off := 0x100, lo := 48, w := 16, rst := .hw .rangeCount, n := 32, stride := 8 }

-- page 0x0001: 02_control_pages.md
/-- R53: cap.ENTRY.CAP_ID. -/ def cap_ENTRY_CAP_ID : Fld := { off := 0x080, lo := 0, w := 16, rst := .hw .capId, n := 15, stride := 16 }
/-- R53: cap.ENTRY.VERSION. -/ def cap_ENTRY_VERSION : Fld := { off := 0x080, lo := 16, w := 8, rst := .hw .capVersion, n := 15, stride := 16 }
/-- R53: cap.ENTRY.PAGE. -/ def cap_ENTRY_PAGE : Fld := { off := 0x080, lo := 32, w := 16, rst := .hw .capFirst, n := 15, stride := 16 }
/-- R53: cap.ENTRY.PAGE_COUNT. -/ def cap_ENTRY_PAGE_COUNT : Fld := { off := 0x080, lo := 48, w := 16, rst := .hw .capCount, n := 15, stride := 16 }
/-- R53: cap.NEXT.PAGE. -/ def cap_NEXT_PAGE : Fld := { off := 0x088, lo := 0, w := 16, rst := .hw .capNextPage, n := 15, stride := 16 }
/-- R53: cap.NEXT.OFFSET. -/ def cap_NEXT_OFFSET : Fld := { off := 0x088, lo := 16, w := 12, rst := .hw .capNextOff, n := 15, stride := 16 }

-- page 0x0050: 03_time_base.md
/-- R74: hbd0.SERVO_CTRL.MODE. -/ def hbd0_SERVO_CTRL_MODE : Fld := { off := 0x080, lo := 0, w := 2, acc := .rw }
/-- R105: hbd0.SERVO_CTRL.BW. -/ def hbd0_SERVO_CTRL_BW : Fld := { off := 0x080, lo := 4, w := 2, acc := .rw, rst := .val 1 }
/-- R65: hbd0.SERVO_CTRL.REVERTIVE. -/ def hbd0_SERVO_CTRL_REVERTIVE : Fld := { off := 0x080, lo := 8, w := 1, acc := .rw }
/-- R65: hbd0.SERVO_CTRL.REVERT_HOLDOFF. -/ def hbd0_SERVO_CTRL_REVERT_HOLDOFF : Fld := { off := 0x080, lo := 16, w := 16, acc := .rw, rst := .val 0x3C }
/-- R73: hbd0.SERVO_STATUS.STATE. -/ def hbd0_SERVO_STATUS_STATE : Fld := { off := 0x088, lo := 0, w := 3, sticky := true }
/-- R73: hbd0.SERVO_STATUS.TQ. -/ def hbd0_SERVO_STATUS_TQ : Fld := { off := 0x088, lo := 4, w := 4, rst := .val 4, sticky := true }
/-- R105: hbd0.SERVO_STATUS.REF_INDEX. -/ def hbd0_SERVO_STATUS_REF_INDEX : Fld := { off := 0x088, lo := 8, w := 4 }
/-- R105: hbd0.SERVO_STATUS.REF_VALID. -/ def hbd0_SERVO_STATUS_REF_VALID : Fld := { off := 0x088, lo := 12, w := 1 }
/-- R105: hbd0.SERVO_STATUS.SLEWING. -/ def hbd0_SERVO_STATUS_SLEWING : Fld := { off := 0x088, lo := 13, w := 1 }
/-- R105: hbd0.SERVO_STATUS.HIST_LOADED. -/ def hbd0_SERVO_STATUS_HIST_LOADED : Fld := { off := 0x088, lo := 14, w := 1 }
/-- R79: hbd0.SERVO_STATUS.STEPPED. -/ def hbd0_SERVO_STATUS_STEPPED : Fld := { off := 0x088, lo := 15, w := 1, acc := .w1c, sticky := true }
/-- R105: hbd0.SERVO_STATUS.RELOCK_COUNT. -/ def hbd0_SERVO_STATUS_RELOCK_COUNT : Fld := { off := 0x088, lo := 16, w := 16 }
/-- R75: hbd0.SERVO_STATUS.SET_REFUSED. -/ def hbd0_SERVO_STATUS_SET_REFUSED : Fld := { off := 0x088, lo := 32, w := 1, acc := .w1c }
/-- R105: hbd0.SERVO_STATUS.EVER_TRACEABLE. -/ def hbd0_SERVO_STATUS_EVER_TRACEABLE : Fld := { off := 0x088, lo := 33, w := 1, sticky := true }
/-- R105: hbd0.TIME_NOW.NS. -/ def hbd0_TIME_NOW_NS : Fld := { off := 0x090, lo := 0, w := 64, a64 := true }
/-- R105: hbd0.TIME_NOW.FRAC. -/ def hbd0_TIME_NOW_FRAC : Fld := { off := 0x098, lo := 0, w := 16 }
/-- R105: hbd0.TIME_NOW.TQ. -/ def hbd0_TIME_NOW_TQ : Fld := { off := 0x098, lo := 16, w := 4 }
/-- R105: hbd0.OFFSET. -/ def hbd0_OFFSET : Fld := { off := 0x0A0, lo := 0, w := 48 }
/-- R105: hbd0.FREQ. -/ def hbd0_FREQ : Fld := { off := 0x0A8, lo := 0, w := 40 }
/-- R82: hbd0.LOCK_CFG.RELOCK_TIME. -/ def hbd0_LOCK_CFG_RELOCK_TIME : Fld := { off := 0x0B0, lo := 0, w := 16, acc := .rw, rst := .val 0x10 }
/-- R64: hbd0.LOCK_CFG.OUT_LOCK. -/ def hbd0_LOCK_CFG_OUT_LOCK : Fld := { off := 0x0B0, lo := 16, w := 16, acc := .rw, rst := .val 0x64 }
/-- R79: hbd0.LOCK_CFG.STEP_THRESHOLD. -/ def hbd0_LOCK_CFG_STEP_THRESHOLD : Fld := { off := 0x0B0, lo := 32, w := 16, acc := .rw, rst := .val 1 }
/-- R105: hbd0.LOCK_CFG.SLEW_PPB. -/ def hbd0_LOCK_CFG_SLEW_PPB : Fld := { off := 0x0B0, lo := 48, w := 10, acc := .rw, rst := .val 0x3E8 }
/-- R81: hbd0.HOLDOVER_CFG.BOUND_NS. -/ def hbd0_HOLDOVER_CFG_BOUND_NS : Fld := { off := 0x0B8, lo := 0, w := 32, acc := .rw, rst := .val 0x64 }
/-- R105: hbd0.HOLDOVER_CFG.U0_FLOOR. -/ def hbd0_HOLDOVER_CFG_U0_FLOOR : Fld := { off := 0x0B8, lo := 32, w := 16, acc := .rw, rst := .val 0x200 }
/-- R105: hbd0.HOLDOVER_CFG.FREQ_UNC_FLOOR. -/ def hbd0_HOLDOVER_CFG_FREQ_UNC_FLOOR : Fld := { off := 0x0B8, lo := 48, w := 16, acc := .rw, rst := .val 0x64 }
/-- R80: hbd0.HOLDOVER_STATUS.UNCERT_NS. -/ def hbd0_HOLDOVER_STATUS_UNCERT_NS : Fld := { off := 0x0C0, lo := 0, w := 32 }
/-- R80: hbd0.HOLDOVER_STATUS.FREQ_UNC. -/ def hbd0_HOLDOVER_STATUS_FREQ_UNC : Fld := { off := 0x0C0, lo := 32, w := 16 }
/-- R81: hbd0.HOLDOVER_STATUS.OUT_OF_BOUND. -/ def hbd0_HOLDOVER_STATUS_OUT_OF_BOUND : Fld := { off := 0x0C0, lo := 48, w := 1 }
/-- R75: hbd0.SET_TIME.NS. -/ def hbd0_SET_TIME_NS : Fld := { off := 0x0C8, lo := 0, w := 64, acc := .wo, a64 := true }
/-- R75: hbd0.SET_TIME.FRAC. -/ def hbd0_SET_TIME_FRAC : Fld := { off := 0x0D0, lo := 0, w := 16, acc := .wo }
/-- R71: hbd0.UTC_CFG.UTC_OFFSET. -/ def hbd0_UTC_CFG_UTC_OFFSET : Fld := { off := 0x0D8, lo := 0, w := 8, acc := .rw, rst := .val 0x25 }
/-- R105: hbd0.UTC_CFG.LEAP. -/ def hbd0_UTC_CFG_LEAP : Fld := { off := 0x0D8, lo := 8, w := 2, acc := .rw }
/-- R105: hbd0.UTC_CFG.FROM_REF. -/ def hbd0_UTC_CFG_FROM_REF : Fld := { off := 0x0D8, lo := 10, w := 1 }
/-- R105: hbd0.STEP_COUNT. -/ def hbd0_STEP_COUNT : Fld := { off := 0x0E0, lo := 0, w := 32, sticky := true }

-- page 0x0051: 03_time_base.md
/-- R62: hbd1.REF_CFG.ENABLE. -/ def hbd1_REF_CFG_ENABLE : Fld := { off := 0x080, lo := 0, w := 1, acc := .rw, n := 16, stride := 32 }
/-- R62: hbd1.REF_CFG.TYPE. -/ def hbd1_REF_CFG_TYPE : Fld := { off := 0x080, lo := 1, w := 2, acc := .rw, n := 16, stride := 32 }
/-- R62: hbd1.REF_CFG.PPS_SEL. -/ def hbd1_REF_CFG_PPS_SEL : Fld := { off := 0x080, lo := 3, w := 1, acc := .rw, n := 16, stride := 32 }
/-- R62: hbd1.REF_CFG.FREQ_SRC. -/ def hbd1_REF_CFG_FREQ_SRC : Fld := { off := 0x080, lo := 4, w := 2, acc := .rw, n := 16, stride := 32 }
/-- R65: hbd1.REF_CFG.PRIORITY. -/ def hbd1_REF_CFG_PRIORITY : Fld := { off := 0x080, lo := 8, w := 8, acc := .rw, rst := .val 0xFF, n := 16, stride := 32 }
/-- R62: hbd1.REF_CFG.PORT. -/ def hbd1_REF_CFG_PORT : Fld := { off := 0x080, lo := 16, w := 10, acc := .rw, n := 16, stride := 32 }
/-- R62: hbd1.REF_CFG.PEER_INDEX. -/ def hbd1_REF_CFG_PEER_INDEX : Fld := { off := 0x080, lo := 26, w := 4, acc := .rw, n := 16, stride := 32 }
/-- R62: hbd1.REF_CFG.ANY_PEER. -/ def hbd1_REF_CFG_ANY_PEER : Fld := { off := 0x080, lo := 30, w := 1, acc := .rw, rst := .val 1, n := 16, stride := 32 }
/-- R64: hbd1.REF_CFG.QUAL_TIME. -/ def hbd1_REF_CFG_QUAL_TIME : Fld := { off := 0x080, lo := 32, w := 16, acc := .rw, rst := .val 0x10, n := 16, stride := 32 }
/-- R105: hbd1.REF_COMP. -/ def hbd1_REF_COMP : Fld := { off := 0x088, lo := 0, w := 48, acc := .rw, n := 16, stride := 32 }
/-- R64: hbd1.REF_STATUS.QSTATE. -/ def hbd1_REF_STATUS_QSTATE : Fld := { off := 0x090, lo := 0, w := 3, n := 16, stride := 32 }
/-- R64: hbd1.REF_STATUS.LAST_FAULT. -/ def hbd1_REF_STATUS_LAST_FAULT : Fld := { off := 0x090, lo := 4, w := 4, n := 16, stride := 32 }
/-- R64: hbd1.REF_STATUS.DISQUAL_COUNT. -/ def hbd1_REF_STATUS_DISQUAL_COUNT : Fld := { off := 0x090, lo := 16, w := 16, acc := .w1cAny, n := 16, stride := 32 }

-- page 0x0052: 03_time_base.md
/-- R573: hbd2.PPS_IN_STATUS.PRESENT. -/ def hbd2_PPS_IN_STATUS_PRESENT : Fld := { off := 0x080, lo := 0, w := 1, n := 2, stride := 8 }
/-- R573: hbd2.PPS_IN_STATUS.MISSED. -/ def hbd2_PPS_IN_STATUS_MISSED : Fld := { off := 0x080, lo := 16, w := 16, n := 2, stride := 8 }
/-- R105: hbd2.TEN_MHZ_STATUS.PRESENT. -/ def hbd2_TEN_MHZ_STATUS_PRESENT : Fld := { off := 0x090, lo := 0, w := 1, n := 2, stride := 8 }
/-- R105: hbd2.TEN_MHZ_STATUS.ERROR. -/ def hbd2_TEN_MHZ_STATUS_ERROR : Fld := { off := 0x090, lo := 32, w := 32, n := 2, stride := 8 }
/-- R105: hbd2.TOD_IN_STATUS.ACCEPTED. -/ def hbd2_TOD_IN_STATUS_ACCEPTED : Fld := { off := 0x0A0, lo := 0, w := 16, acc := .w1cAny }
/-- R105: hbd2.TOD_IN_STATUS.CHECKSUM_ERR. -/ def hbd2_TOD_IN_STATUS_CHECKSUM_ERR : Fld := { off := 0x0A0, lo := 16, w := 16, acc := .w1cAny }
/-- R105: hbd2.TOD_IN_STATUS.SYNTAX_ERR. -/ def hbd2_TOD_IN_STATUS_SYNTAX_ERR : Fld := { off := 0x0A0, lo := 32, w := 16, acc := .w1cAny }
/-- R105: hbd2.TOD_IN_STATUS.WINDOW_ERR. -/ def hbd2_TOD_IN_STATUS_WINDOW_ERR : Fld := { off := 0x0A0, lo := 48, w := 16, acc := .w1cAny }
/-- R105: hbd2.TOD_OUT_CFG.ENABLE. -/ def hbd2_TOD_OUT_CFG_ENABLE : Fld := { off := 0x0A8, lo := 0, w := 1, acc := .rw }
/-- R104: hbd2.TOD_OUT_CFG.SQUELCH. -/ def hbd2_TOD_OUT_CFG_SQUELCH : Fld := { off := 0x0A8, lo := 1, w := 2, acc := .rw, rst := .val 1 }
/-- R102: hbd2.PPS_OUT_CFG.ENABLE. -/ def hbd2_PPS_OUT_CFG_ENABLE : Fld := { off := 0x0B0, lo := 0, w := 1, acc := .rw, n := 2, stride := 8 }
/-- R104: hbd2.PPS_OUT_CFG.SQUELCH. -/ def hbd2_PPS_OUT_CFG_SQUELCH : Fld := { off := 0x0B0, lo := 1, w := 2, acc := .rw, rst := .val 1, n := 2, stride := 8 }
/-- R102: hbd2.PPS_OUT_CFG.WIDTH_US. -/ def hbd2_PPS_OUT_CFG_WIDTH_US : Fld := { off := 0x0B0, lo := 8, w := 24, acc := .rw, rst := .val 0x186A0, n := 2, stride := 8 }
/-- R102: hbd2.PPS_OUT_CFG.OFFSET. -/ def hbd2_PPS_OUT_CFG_OFFSET : Fld := { off := 0x0B0, lo := 32, w := 32, acc := .rw, n := 2, stride := 8 }
/-- R103: hbd2.CLK_OUT_CFG.ENABLE. -/ def hbd2_CLK_OUT_CFG_ENABLE : Fld := { off := 0x0C0, lo := 0, w := 1, acc := .rw }
/-- R103: hbd2.CLK_OUT_CFG.LATE. -/ def hbd2_CLK_OUT_CFG_LATE : Fld := { off := 0x0C0, lo := 1, w := 1, acc := .w1c }
/-- R103: hbd2.CLK_OUT_CFG.HALF_PERIOD. -/ def hbd2_CLK_OUT_CFG_HALF_PERIOD : Fld := { off := 0x0C0, lo := 16, w := 48, acc := .rw }
/-- R103: hbd2.CLK_OUT_START.NS. -/ def hbd2_CLK_OUT_START_NS : Fld := { off := 0x0C8, lo := 0, w := 64, acc := .rw, a64 := true }
/-- R103: hbd2.CLK_OUT_START.FRAC. -/ def hbd2_CLK_OUT_START_FRAC : Fld := { off := 0x0D0, lo := 0, w := 16, acc := .rw }

-- page 0x0053: 03_time_base.md
/-- R84: hbd3.HIST_CTRL.ENABLE. -/ def hbd3_HIST_CTRL_ENABLE : Fld := { off := 0x080, lo := 0, w := 1, acc := .rw, rst := .val 1, sticky := true }
/-- R84: hbd3.HIST_CTRL.PERIOD. -/ def hbd3_HIST_CTRL_PERIOD : Fld := { off := 0x080, lo := 16, w := 16, acc := .rw, rst := .val 0xE10, sticky := true }
/-- R85: hbd3.HIST_CTRL.MAX_AGE. -/ def hbd3_HIST_CTRL_MAX_AGE : Fld := { off := 0x080, lo := 32, w := 16, acc := .rw, rst := .val 0x1E, sticky := true }
/-- R84: hbd3.HIST_CTRL.CLEAR. -/ def hbd3_HIST_CTRL_CLEAR : Fld := { off := 0x080, lo := 48, w := 1, acc := .wo }
/-- R85: hbd3.HIST_STATUS.LOADED. -/ def hbd3_HIST_STATUS_LOADED : Fld := { off := 0x088, lo := 0, w := 1 }
/-- R84: hbd3.HIST_STATUS.SLOPE_VALID. -/ def hbd3_HIST_STATUS_SLOPE_VALID : Fld := { off := 0x088, lo := 1, w := 1 }
/-- R85: hbd3.HIST_STATUS.DISCARDED. -/ def hbd3_HIST_STATUS_DISCARDED : Fld := { off := 0x088, lo := 2, w := 1 }
/-- R84: hbd3.HIST_STATUS.SLOT0_VALID. -/ def hbd3_HIST_STATUS_SLOT0_VALID : Fld := { off := 0x088, lo := 3, w := 1 }
/-- R84: hbd3.HIST_STATUS.SLOT1_VALID. -/ def hbd3_HIST_STATUS_SLOT1_VALID : Fld := { off := 0x088, lo := 4, w := 1 }
/-- R84: hbd3.HIST_STATUS.WRITES. -/ def hbd3_HIST_STATUS_WRITES : Fld := { off := 0x088, lo := 32, w := 32 }
/-- R105: hbd3.HIST_FREQ. -/ def hbd3_HIST_FREQ : Fld := { off := 0x090, lo := 0, w := 40 }
/-- R105: hbd3.HIST_SLOPE. -/ def hbd3_HIST_SLOPE : Fld := { off := 0x098, lo := 0, w := 32 }
/-- R105: hbd3.HIST_TIME.NS. -/ def hbd3_HIST_TIME_NS : Fld := { off := 0x0A0, lo := 0, w := 64, a64 := true }
/-- R105: hbd3.HIST_TIME.FRAC. -/ def hbd3_HIST_TIME_FRAC : Fld := { off := 0x0A8, lo := 0, w := 16 }

-- page 0x0054: 03_time_base.md
/-- R86: hbd4.PTP_CFG.DOMAIN. -/ def hbd4_PTP_CFG_DOMAIN : Fld := { off := 0x080, lo := 0, w := 8, acc := .rw }
/-- R91: hbd4.PTP_CFG.PRIORITY1. -/ def hbd4_PTP_CFG_PRIORITY1 : Fld := { off := 0x080, lo := 8, w := 8, acc := .rw, rst := .val 0x80 }
/-- R91: hbd4.PTP_CFG.PRIORITY2. -/ def hbd4_PTP_CFG_PRIORITY2 : Fld := { off := 0x080, lo := 16, w := 8, acc := .rw, rst := .val 0x80 }
/-- R91: hbd4.PTP_CFG.CLASS_LOCKED. -/ def hbd4_PTP_CFG_CLASS_LOCKED : Fld := { off := 0x080, lo := 24, w := 8, acc := .rw, rst := .val 6 }
/-- R90: hbd4.PTP_CFG.PEER_AGE. -/ def hbd4_PTP_CFG_PEER_AGE : Fld := { off := 0x080, lo := 32, w := 8, acc := .rw, rst := .val 8 }
/-- R105: hbd4.CLOCK_IDENTITY. -/ def hbd4_CLOCK_IDENTITY : Fld := { off := 0x088, lo := 0, w := 64 }
/-- R105: hbd4.PORT_SEL. -/ def hbd4_PORT_SEL : Fld := { off := 0x090, lo := 0, w := 10, acc := .rw }
/-- R105: hbd4.PORT_CFG.PTP_ENABLE. -/ def hbd4_PORT_CFG_PTP_ENABLE : Fld := { off := 0x098, lo := 0, w := 1, acc := .rw }
/-- R105: hbd4.PORT_CFG.ROLE_POLICY. -/ def hbd4_PORT_CFG_ROLE_POLICY : Fld := { off := 0x098, lo := 1, w := 2, acc := .rw }
/-- R105: hbd4.PORT_CFG.DELAY_MECH. -/ def hbd4_PORT_CFG_DELAY_MECH : Fld := { off := 0x098, lo := 3, w := 1, acc := .rw }
/-- R105: hbd4.PORT_CFG.ONE_STEP. -/ def hbd4_PORT_CFG_ONE_STEP : Fld := { off := 0x098, lo := 4, w := 1, acc := .rw }
/-- R105: hbd4.PORT_CFG.TRANSPORT. -/ def hbd4_PORT_CFG_TRANSPORT : Fld := { off := 0x098, lo := 5, w := 2, acc := .rw }
/-- R105: hbd4.PORT_CFG.UNICAST. -/ def hbd4_PORT_CFG_UNICAST : Fld := { off := 0x098, lo := 7, w := 1, acc := .rw }
/-- R105: hbd4.PORT_CFG.LOG_SYNC. -/ def hbd4_PORT_CFG_LOG_SYNC : Fld := { off := 0x098, lo := 8, w := 4, acc := .rw, rst := .val 0xC }
/-- R105: hbd4.PORT_CFG.LOG_ANNOUNCE. -/ def hbd4_PORT_CFG_LOG_ANNOUNCE : Fld := { off := 0x098, lo := 12, w := 4, acc := .rw }
/-- R88: hbd4.PORT_CFG.L1_SYNTONIZE. -/ def hbd4_PORT_CFG_L1_SYNTONIZE : Fld := { off := 0x098, lo := 16, w := 1, acc := .rw }
/-- R90: hbd4.PORT_CFG.PEER_REFUSED. -/ def hbd4_PORT_CFG_PEER_REFUSED : Fld := { off := 0x098, lo := 32, w := 16, acc := .w1cAny }
/-- R105: hbd4.PORT_ASYM. -/ def hbd4_PORT_ASYM : Fld := { off := 0x0A0, lo := 0, w := 48, acc := .rw }
/-- R105: hbd4.PEER_SEL.PORT. -/ def hbd4_PEER_SEL_PORT : Fld := { off := 0x0A8, lo := 0, w := 10, acc := .rw }
/-- R105: hbd4.PEER_SEL.ENTRY. -/ def hbd4_PEER_SEL_ENTRY : Fld := { off := 0x0A8, lo := 10, w := 4, acc := .rw }
/-- R90: hbd4.PEER_CMD. -/ def hbd4_PEER_CMD : Fld := { off := 0x0B0, lo := 0, w := 2, acc := .wo }
/-- R105: hbd4.PEER_DATA0.CLOCK_IDENTITY. -/ def hbd4_PEER_DATA0_CLOCK_IDENTITY : Fld := { off := 0x0C0, lo := 0, w := 64 }
/-- R105: hbd4.PEER_DATA1.PORT_NUMBER. -/ def hbd4_PEER_DATA1_PORT_NUMBER : Fld := { off := 0x0C8, lo := 0, w := 16 }
/-- R105: hbd4.PEER_DATA1.ROLE. -/ def hbd4_PEER_DATA1_ROLE : Fld := { off := 0x0C8, lo := 16, w := 2 }
/-- R105: hbd4.PEER_DATA1.STATIC. -/ def hbd4_PEER_DATA1_STATIC : Fld := { off := 0x0C8, lo := 18, w := 1 }
/-- R105: hbd4.PEER_DATA1.TRANSPORT. -/ def hbd4_PEER_DATA1_TRANSPORT : Fld := { off := 0x0C8, lo := 19, w := 2 }
/-- R105: hbd4.PEER_DATA1.CLOCK_CLASS. -/ def hbd4_PEER_DATA1_CLOCK_CLASS : Fld := { off := 0x0C8, lo := 24, w := 8 }
/-- R105: hbd4.PEER_DATA1.STEPS_REMOVED. -/ def hbd4_PEER_DATA1_STEPS_REMOVED : Fld := { off := 0x0C8, lo := 32, w := 16 }
/-- R105: hbd4.PEER_DATA1.DENOON. -/ def hbd4_PEER_DATA1_DENOON : Fld := { off := 0x0C8, lo := 48, w := 1 }
/-- R105: hbd4.PEER_DATA1.SELECTED. -/ def hbd4_PEER_DATA1_SELECTED : Fld := { off := 0x0C8, lo := 49, w := 1 }
/-- R105: hbd4.PEER_DATA2.GRANDMASTER_IDENTITY. -/ def hbd4_PEER_DATA2_GRANDMASTER_IDENTITY : Fld := { off := 0x0D0, lo := 0, w := 64 }
/-- R105: hbd4.LAST_HEARD.NS. -/ def hbd4_LAST_HEARD_NS : Fld := { off := 0x0D8, lo := 0, w := 64, a64 := true }
/-- R105: hbd4.LAST_HEARD.FRAC. -/ def hbd4_LAST_HEARD_FRAC : Fld := { off := 0x0E0, lo := 0, w := 16 }
/-- R105: hbd4.PEER_DATA5.MEAN_PATH_DELAY. -/ def hbd4_PEER_DATA5_MEAN_PATH_DELAY : Fld := { off := 0x0E8, lo := 0, w := 48 }
/-- R105: hbd4.PEER_DATA6.ADDRESS_LO. -/ def hbd4_PEER_DATA6_ADDRESS_LO : Fld := { off := 0x0F0, lo := 0, w := 64 }
/-- R105: hbd4.PEER_DATA7.ADDRESS_HI. -/ def hbd4_PEER_DATA7_ADDRESS_HI : Fld := { off := 0x0F8, lo := 0, w := 64 }

-- page 0x0055: 03_time_base.md
/-- R92: hbd5.GROUP_CFG.ENABLE. -/ def hbd5_GROUP_CFG_ENABLE : Fld := { off := 0x080, lo := 0, w := 1, acc := .rw }
/-- R92: hbd5.GROUP_CFG.CHIP_ID. -/ def hbd5_GROUP_CFG_CHIP_ID : Fld := { off := 0x080, lo := 16, w := 12, acc := .rw }
/-- R92: hbd5.GROUP_CFG.ETHERTYPE. -/ def hbd5_GROUP_CFG_ETHERTYPE : Fld := { off := 0x080, lo := 32, w := 16, acc := .rw, rst := .val 0x88B5 }
/-- R92: hbd5.GROUP_CFG.MEMBER_TIMEOUT. -/ def hbd5_GROUP_CFG_MEMBER_TIMEOUT : Fld := { off := 0x080, lo := 48, w := 8, acc := .rw, rst := .val 4 }
/-- R92: hbd5.GROUP_CFG.GROUP_ID. -/ def hbd5_GROUP_CFG_GROUP_ID : Fld := { off := 0x080, lo := 56, w := 8, acc := .rw }
/-- R96: hbd5.GROUP_PRIMARY.PRIMARY. -/ def hbd5_GROUP_PRIMARY_PRIMARY : Fld := { off := 0x088, lo := 0, w := 12, acc := .rw }
/-- R96: hbd5.GROUP_PRIMARY.PRIMARY_NEXT. -/ def hbd5_GROUP_PRIMARY_PRIMARY_NEXT : Fld := { off := 0x088, lo := 16, w := 12, acc := .rw }
/-- R96: hbd5.PRIMARY_SWITCH.NS. -/ def hbd5_PRIMARY_SWITCH_NS : Fld := { off := 0x090, lo := 0, w := 64, acc := .rw, a64 := true }
/-- R96: hbd5.PRIMARY_SWITCH.FRAC. -/ def hbd5_PRIMARY_SWITCH_FRAC : Fld := { off := 0x098, lo := 0, w := 16, acc := .rw }
/-- R105: hbd5.GROUP_STATUS.IS_PRIMARY. -/ def hbd5_GROUP_STATUS_IS_PRIMARY : Fld := { off := 0x0A0, lo := 0, w := 1 }
/-- R94: hbd5.GROUP_STATUS.CHIP_ID_CONFLICT. -/ def hbd5_GROUP_STATUS_CHIP_ID_CONFLICT : Fld := { off := 0x0A0, lo := 1, w := 1 }
/-- R93: hbd5.GROUP_STATUS.PRIMARY_MISMATCH. -/ def hbd5_GROUP_STATUS_PRIMARY_MISMATCH : Fld := { off := 0x0A0, lo := 2, w := 1, acc := .w1c }
/-- R96: hbd5.GROUP_STATUS.SWITCH_LATE. -/ def hbd5_GROUP_STATUS_SWITCH_LATE : Fld := { off := 0x0A0, lo := 3, w := 1, acc := .w1c }
/-- R105: hbd5.GROUP_STATUS.MEMBERS. -/ def hbd5_GROUP_STATUS_MEMBERS : Fld := { off := 0x0A0, lo := 16, w := 13 }
/-- R105: hbd5.MEMBER_BITMAP. -/ def hbd5_MEMBER_BITMAP : Fld := { off := 0x100, lo := 0, w := 64, n := 64, stride := 8 }

-- page 0x0058: 04_timestamping.md
/-- R121: hbd8.STAMP_CFG.DENSITY_MIN. -/ def hbd8_STAMP_CFG_DENSITY_MIN : Fld := { off := 0x080, lo := 0, w := 8, acc := .rw, rst := .val 0x10 }
/-- R121: hbd8.STAMP_CFG.FREEZE_NS. -/ def hbd8_STAMP_CFG_FREEZE_NS : Fld := { off := 0x080, lo := 16, w := 16, acc := .rw, rst := .val 0x3E8 }
/-- R129: hbd8.CAL_SEL.LANE. -/ def hbd8_CAL_SEL_LANE : Fld := { off := 0x088, lo := 0, w := 10, acc := .rw }
/-- R129: hbd8.CAL_SEL.RATE. -/ def hbd8_CAL_SEL_RATE : Fld := { off := 0x088, lo := 16, w := 3, acc := .rw }
/-- R129: hbd8.CAL_RX_FACTORY. -/ def hbd8_CAL_RX_FACTORY : Fld := { off := 0x090, lo := 0, w := 32 }
/-- R129: hbd8.CAL_TX_FACTORY. -/ def hbd8_CAL_TX_FACTORY : Fld := { off := 0x098, lo := 0, w := 32 }
/-- R127: hbd8.CAL_RX_TRIM. -/ def hbd8_CAL_RX_TRIM : Fld := { off := 0x0A0, lo := 0, w := 20, acc := .rw, sticky := true }
/-- R127: hbd8.CAL_TX_TRIM. -/ def hbd8_CAL_TX_TRIM : Fld := { off := 0x0A8, lo := 0, w := 20, acc := .rw, sticky := true }
/-- R127: hbd8.CAL_CMD.APPLY. -/ def hbd8_CAL_CMD_APPLY : Fld := { off := 0x0B0, lo := 0, w := 1, acc := .wo }
/-- R127: hbd8.CAL_CMD.DISCARD. -/ def hbd8_CAL_CMD_DISCARD : Fld := { off := 0x0B0, lo := 1, w := 1, acc := .wo }
/-- R127: hbd8.CAL_STATUS.APPLY_BUSY. -/ def hbd8_CAL_STATUS_APPLY_BUSY : Fld := { off := 0x0B8, lo := 0, w := 1 }
/-- R127: hbd8.CAL_STATUS.PENDING. -/ def hbd8_CAL_STATUS_PENDING : Fld := { off := 0x0B8, lo := 1, w := 1 }
/-- R127: hbd8.CAL_STATUS.APPLY_REFUSED. -/ def hbd8_CAL_STATUS_APPLY_REFUSED : Fld := { off := 0x0B8, lo := 2, w := 1, acc := .w1c }
/-- R127: hbd8.CAL_STATUS.SAVE_ERR. -/ def hbd8_CAL_STATUS_SAVE_ERR : Fld := { off := 0x0B8, lo := 3, w := 1, acc := .w1c }
/-- R129: hbd8.CAL_STATUS.FACTORY_MISSING. -/ def hbd8_CAL_STATUS_FACTORY_MISSING : Fld := { off := 0x0B8, lo := 4, w := 1 }
/-- R129: hbd8.CAL_STATUS.APPLIES. -/ def hbd8_CAL_STATUS_APPLIES : Fld := { off := 0x0B8, lo := 32, w := 32 }
/-- R127: hbd8.CAL_APPLIED.NS. -/ def hbd8_CAL_APPLIED_NS : Fld := { off := 0x0C0, lo := 0, w := 64, a64 := true }
/-- R127: hbd8.CAL_APPLIED.FRAC. -/ def hbd8_CAL_APPLIED_FRAC : Fld := { off := 0x0C8, lo := 0, w := 16 }
/-- R118: hbd8.TQ_CHANGE.NS. -/ def hbd8_TQ_CHANGE_NS : Fld := { off := 0x0D0, lo := 0, w := 64, a64 := true }
/-- R118: hbd8.TQ_CHANGE.FRAC. -/ def hbd8_TQ_CHANGE_FRAC : Fld := { off := 0x0D8, lo := 0, w := 16 }
/-- R118: hbd8.TQ_CHANGE.TQ. -/ def hbd8_TQ_CHANGE_TQ : Fld := { off := 0x0D8, lo := 16, w := 4 }

-- page 0x0059: 04_timestamping.md
/-- R129: hbd9.SUSPECT. -/ def hbd9_SUSPECT : Fld := { off := 0x080, lo := 0, w := 64, n := 16, stride := 8 }
/-- R129: hbd9.FROZEN. -/ def hbd9_FROZEN : Fld := { off := 0x100, lo := 0, w := 64, n := 16, stride := 8 }

-- page 0x005A: 04_timestamping.md
/-- R129: hbd10.STAT_SEL.LANE. -/ def hbd10_STAT_SEL_LANE : Fld := { off := 0x080, lo := 0, w := 10, acc := .rw }
/-- R129: hbd10.STAT_SEL.CLEAR. -/ def hbd10_STAT_SEL_CLEAR : Fld := { off := 0x080, lo := 16, w := 1, acc := .wo }
/-- R123: hbd10.WANDER_STATUS.STATE. -/ def hbd10_WANDER_STATUS_STATE : Fld := { off := 0x088, lo := 0, w := 2 }
/-- R121: hbd10.WANDER_STATUS.FROZEN. -/ def hbd10_WANDER_STATUS_FROZEN : Fld := { off := 0x088, lo := 2, w := 1 }
/-- R122: hbd10.WANDER_STATUS.MEDIAN_VALID. -/ def hbd10_WANDER_STATUS_MEDIAN_VALID : Fld := { off := 0x088, lo := 3, w := 1 }
/-- R129: hbd10.WANDER_STATUS.MAX_EXCURSION. -/ def hbd10_WANDER_STATUS_MAX_EXCURSION : Fld := { off := 0x088, lo := 16, w := 16 }
/-- R129: hbd10.WANDER_STATUS.LAST_EXCURSION. -/ def hbd10_WANDER_STATUS_LAST_EXCURSION : Fld := { off := 0x088, lo := 32, w := 16 }
/-- R129: hbd10.STAMP_COUNTS.SUSPECT_STAMPS. -/ def hbd10_STAMP_COUNTS_SUSPECT_STAMPS : Fld := { off := 0x090, lo := 0, w := 32 }
/-- R129: hbd10.STAMP_COUNTS.INVALID_STAMPS. -/ def hbd10_STAMP_COUNTS_INVALID_STAMPS : Fld := { off := 0x090, lo := 32, w := 32 }
/-- R129: hbd10.EVENT_COUNTS.SUSPECT_ENTRIES. -/ def hbd10_EVENT_COUNTS_SUSPECT_ENTRIES : Fld := { off := 0x098, lo := 0, w := 16 }
/-- R129: hbd10.EVENT_COUNTS.FREEZES. -/ def hbd10_EVENT_COUNTS_FREEZES : Fld := { off := 0x098, lo := 16, w := 16 }
/-- R116: hbd10.EVENT_COUNTS.ONE_STEP_DROPS. -/ def hbd10_EVENT_COUNTS_ONE_STEP_DROPS : Fld := { off := 0x098, lo := 32, w := 32 }
/-- R61: hbd10.REPLICA.OFFSET. -/ def hbd10_REPLICA_OFFSET : Fld := { off := 0x0C0, lo := 0, w := 32, n := 8, stride := 8 }
/-- R129: hbd10.REPLICA.RESYNCS. -/ def hbd10_REPLICA_RESYNCS : Fld := { off := 0x0C0, lo := 32, w := 16, n := 8, stride := 8 }

-- pages 0x0800-0x0BFF: 05_lanes_ports.md
/-- R155: lan.LANE_CTRL.TX_QUIET. -/ def lan_LANE_CTRL_TX_QUIET : Fld := { off := 0x080, lo := 0, w := 1, acc := .rw, rst := .val 1 }
/-- R155: lan.LANE_CTRL.RX_QUIET. -/ def lan_LANE_CTRL_RX_QUIET : Fld := { off := 0x080, lo := 1, w := 1, acc := .rw, rst := .val 1 }
/-- R153: lan.LANE_CTRL.CDR_PROFILE. -/ def lan_LANE_CTRL_CDR_PROFILE : Fld := { off := 0x080, lo := 2, w := 2, acc := .rw }
/-- R150: lan.LANE_CTRL.EQ_OVERRIDE. -/ def lan_LANE_CTRL_EQ_OVERRIDE : Fld := { off := 0x080, lo := 4, w := 1, acc := .rw }
/-- R150: lan.LANE_CTRL.EQ_RATE. -/ def lan_LANE_CTRL_EQ_RATE : Fld := { off := 0x080, lo := 8, w := 3, acc := .rw }
/-- R167: lan.LANE_STATUS.RATE. -/ def lan_LANE_STATUS_RATE : Fld := { off := 0x088, lo := 0, w := 3 }
/-- R167: lan.LANE_STATUS.RATE_VALID. -/ def lan_LANE_STATUS_RATE_VALID : Fld := { off := 0x088, lo := 3, w := 1 }
/-- R167: lan.LANE_STATUS.SIGNAL. -/ def lan_LANE_STATUS_SIGNAL : Fld := { off := 0x088, lo := 4, w := 1 }
/-- R167: lan.LANE_STATUS.CDR_LOCK. -/ def lan_LANE_STATUS_CDR_LOCK : Fld := { off := 0x088, lo := 5, w := 1 }
/-- R167: lan.LANE_STATUS.BRINGUP_CLOCK. -/ def lan_LANE_STATUS_BRINGUP_CLOCK : Fld := { off := 0x088, lo := 6, w := 1 }
/-- R154: lan.LANE_STATUS.TX_STATE. -/ def lan_LANE_STATUS_TX_STATE : Fld := { off := 0x088, lo := 8, w := 2, rst := .val 2 }
/-- R154: lan.LANE_STATUS.RX_STATE. -/ def lan_LANE_STATUS_RX_STATE : Fld := { off := 0x088, lo := 10, w := 2, rst := .val 2 }
/-- R150: lan.LANE_STATUS.EQ_SOURCE. -/ def lan_LANE_STATUS_EQ_SOURCE : Fld := { off := 0x088, lo := 12, w := 2, rst := .val 2 }
/-- R23: lan.LANE_STATUS.REF_ABSENT. -/ def lan_LANE_STATUS_REF_ABSENT : Fld := { off := 0x088, lo := 14, w := 1 }
/-- R148: lan.EQ_TX.C_M3. -/ def lan_EQ_TX_C_M3 : Fld := { off := 0x090, lo := 0, w := 8, acc := .rw }
/-- R148: lan.EQ_TX.C_M2. -/ def lan_EQ_TX_C_M2 : Fld := { off := 0x090, lo := 8, w := 8, acc := .rw }
/-- R148: lan.EQ_TX.C_M1. -/ def lan_EQ_TX_C_M1 : Fld := { off := 0x090, lo := 16, w := 8, acc := .rw }
/-- R148: lan.EQ_TX.C0. -/ def lan_EQ_TX_C0 : Fld := { off := 0x090, lo := 24, w := 8, acc := .rw }
/-- R148: lan.EQ_TX.C_P1. -/ def lan_EQ_TX_C_P1 : Fld := { off := 0x090, lo := 32, w := 8, acc := .rw }
/-- R148: lan.EQ_TX.AMPLITUDE. -/ def lan_EQ_TX_AMPLITUDE : Fld := { off := 0x090, lo := 40, w := 8, acc := .rw }
/-- R148: lan.EQ_RX.CTLE_PEAK. -/ def lan_EQ_RX_CTLE_PEAK : Fld := { off := 0x098, lo := 0, w := 5, acc := .rw }
/-- R148: lan.EQ_RX.CTLE_LF. -/ def lan_EQ_RX_CTLE_LF : Fld := { off := 0x098, lo := 8, w := 5, acc := .rw }
/-- R148: lan.EQ_RX.VGA. -/ def lan_EQ_RX_VGA : Fld := { off := 0x098, lo := 16, w := 6, acc := .rw }
/-- R148: lan.EQ_RX.CDR_PROFILE. -/ def lan_EQ_RX_CDR_PROFILE : Fld := { off := 0x098, lo := 24, w := 2, acc := .rw }
/-- R148: lan.EQ_DFE. -/ def lan_EQ_DFE : Fld := { off := 0x0A0, lo := 0, w := 8, acc := .rw, m := 8, bst := 8 }
/-- R167: lan.PARTNER_REQ.ACCEPTED. -/ def lan_PARTNER_REQ_ACCEPTED : Fld := { off := 0x0A8, lo := 0, w := 16 }
/-- R167: lan.PARTNER_REQ.AT_LIMIT. -/ def lan_PARTNER_REQ_AT_LIMIT : Fld := { off := 0x0A8, lo := 16, w := 16 }
/-- R167: lan.PARTNER_REQ.PRESETS. -/ def lan_PARTNER_REQ_PRESETS : Fld := { off := 0x0A8, lo := 32, w := 16 }
/-- R167: lan.EYE.HEIGHT. -/ def lan_EYE_HEIGHT : Fld := { off := 0x0B0, lo := 0, w := 16 }
/-- R167: lan.EYE.WIDTH. -/ def lan_EYE_WIDTH : Fld := { off := 0x0B0, lo := 16, w := 16 }

-- pages 0x0C00-0x0FFF: 05_lanes_ports.md
/-- R146: prt.PORT_CTRL.ENABLE. -/ def prt_PORT_CTRL_ENABLE : Fld := { off := 0x080, lo := 0, w := 1, acc := .rw }
/-- R146: prt.PORT_CTRL.RESTART. -/ def prt_PORT_CTRL_RESTART : Fld := { off := 0x080, lo := 1, w := 1, acc := .wo }
/-- R168: prt.LINK_CFG.MAX_RATE. -/ def prt_LINK_CFG_MAX_RATE : Fld := { off := 0x088, lo := 0, w := 3, acc := .rw, rst := .val 5 }
/-- R137: prt.LINK_CFG.ALLOW_IEEE. -/ def prt_LINK_CFG_ALLOW_IEEE : Fld := { off := 0x088, lo := 3, w := 1, acc := .rw, rst := .val 1 }
/-- R137: prt.LINK_CFG.ALLOW_DENOON. -/ def prt_LINK_CFG_ALLOW_DENOON : Fld := { off := 0x088, lo := 4, w := 1, acc := .rw, rst := .val 1 }
/-- R168: prt.LINK_CFG.FEC_ALLOW. -/ def prt_LINK_CFG_FEC_ALLOW : Fld := { off := 0x088, lo := 5, w := 3, acc := .rw, rst := .val 7 }
/-- R144: prt.LINK_CFG.FORCE. -/ def prt_LINK_CFG_FORCE : Fld := { off := 0x088, lo := 8, w := 1, acc := .rw }
/-- R168: prt.LINK_CFG.AN_TIMEOUT_MS. -/ def prt_LINK_CFG_AN_TIMEOUT_MS : Fld := { off := 0x088, lo := 16, w := 16, acc := .rw, rst := .val 0x1F4 }
/-- R168: prt.LINK_CFG.QUAL_US. -/ def prt_LINK_CFG_QUAL_US : Fld := { off := 0x088, lo := 32, w := 16, acc := .rw, rst := .val 0x3E8 }
/-- R168: prt.LINK_STATUS.UP. -/ def prt_LINK_STATUS_UP : Fld := { off := 0x090, lo := 0, w := 1 }
/-- R168: prt.LINK_STATUS.RATE. -/ def prt_LINK_STATUS_RATE : Fld := { off := 0x090, lo := 1, w := 3 }
/-- R168: prt.LINK_STATUS.WIDTH. -/ def prt_LINK_STATUS_WIDTH : Fld := { off := 0x090, lo := 5, w := 2, rst := .hw .portWidth }
/-- R168: prt.LINK_STATUS.FEC. -/ def prt_LINK_STATUS_FEC : Fld := { off := 0x090, lo := 8, w := 2 }
/-- R168: prt.LINK_STATUS.PARTNER. -/ def prt_LINK_STATUS_PARTNER : Fld := { off := 0x090, lo := 10, w := 2 }
/-- R142: prt.LINK_STATUS.STEP. -/ def prt_LINK_STATUS_STEP : Fld := { off := 0x090, lo := 12, w := 4 }
/-- R168: prt.LINK_STATUS.FAIL_CAUSE. -/ def prt_LINK_STATUS_FAIL_CAUSE : Fld := { off := 0x090, lo := 16, w := 4 }
/-- R168: prt.LINK_STATUS.TX_LPI. -/ def prt_LINK_STATUS_TX_LPI : Fld := { off := 0x090, lo := 20, w := 1 }
/-- R168: prt.LINK_STATUS.RX_LPI. -/ def prt_LINK_STATUS_RX_LPI : Fld := { off := 0x090, lo := 21, w := 1 }
/-- R168: prt.LINK_STATUS.LOCAL_FAULT. -/ def prt_LINK_STATUS_LOCAL_FAULT : Fld := { off := 0x090, lo := 22, w := 1 }
/-- R168: prt.LINK_STATUS.REMOTE_FAULT. -/ def prt_LINK_STATUS_REMOTE_FAULT : Fld := { off := 0x090, lo := 23, w := 1 }
/-- R143: prt.LINK_STATUS.RATES_REFUSED. -/ def prt_LINK_STATUS_RATES_REFUSED : Fld := { off := 0x090, lo := 24, w := 8 }
/-- R168: prt.LINK_STATUS.LINK_DOWNS. -/ def prt_LINK_STATUS_LINK_DOWNS : Fld := { off := 0x090, lo := 32, w := 16 }
/-- R168: prt.MAC_CFG.MAX_FRAME. -/ def prt_MAC_CFG_MAX_FRAME : Fld := { off := 0x098, lo := 0, w := 14, acc := .rw, rst := .val 0x2400 }
/-- R168: prt.PCP_MAP.TC. -/ def prt_PCP_MAP_TC : Fld := { off := 0x0A0, lo := 0, w := 3, acc := .rw, rst := .index, m := 8, bst := 3 }
/-- R168: prt.PCP_MAP.DEFAULT_TC. -/ def prt_PCP_MAP_DEFAULT_TC : Fld := { off := 0x0A0, lo := 24, w := 3, acc := .rw }
/-- R160: prt.PFC_CFG.RX_ENABLE. -/ def prt_PFC_CFG_RX_ENABLE : Fld := { off := 0x0A8, lo := 0, w := 8, acc := .rw }
/-- R161: prt.PFC_CFG.TX_ENABLE. -/ def prt_PFC_CFG_TX_ENABLE : Fld := { off := 0x0A8, lo := 8, w := 8, acc := .rw }
/-- R168: prt.PFC_CFG.TX_QUANTA. -/ def prt_PFC_CFG_TX_QUANTA : Fld := { off := 0x0A8, lo := 16, w := 16, acc := .rw, rst := .val 0xFFFF }
/-- R168: prt.PFC_STATUS.PAUSED. -/ def prt_PFC_STATUS_PAUSED : Fld := { off := 0x0B0, lo := 0, w := 8 }
/-- R168: prt.PFC_STATUS.SENDING. -/ def prt_PFC_STATUS_SENDING : Fld := { off := 0x0B0, lo := 8, w := 8 }
/-- R162: prt.PFC_STATUS.TC7_IGNORED. -/ def prt_PFC_STATUS_TC7_IGNORED : Fld := { off := 0x0B0, lo := 32, w := 16, acc := .w1cAny }
/-- R163: prt.ETS_CFG.SHARE. -/ def prt_ETS_CFG_SHARE : Fld := { off := 0x0B8, lo := 0, w := 8, acc := .rw, m := 7, bst := 8 }
/-- R163: prt.ETS_CFG.STRICT. -/ def prt_ETS_CFG_STRICT : Fld := { off := 0x0B8, lo := 56, w := 1, acc := .rw, rst := .val 1, m := 7, bst := 1 }
/-- R164: prt.PREEMPT_CFG.ENABLE. -/ def prt_PREEMPT_CFG_ENABLE : Fld := { off := 0x0C0, lo := 0, w := 1, acc := .rw }
/-- R164: prt.PREEMPT_CFG.VERIFY_DISABLE. -/ def prt_PREEMPT_CFG_VERIFY_DISABLE : Fld := { off := 0x0C0, lo := 1, w := 1, acc := .rw }
/-- R164: prt.PREEMPT_CFG.VERIFY_TIME_MS. -/ def prt_PREEMPT_CFG_VERIFY_TIME_MS : Fld := { off := 0x0C0, lo := 8, w := 8, acc := .rw, rst := .val 0xA }
/-- R164: prt.PREEMPT_CFG.PARTNER_ADD_FRAG. -/ def prt_PREEMPT_CFG_PARTNER_ADD_FRAG : Fld := { off := 0x0C0, lo := 16, w := 2, acc := .rw }
/-- R164: prt.PREEMPT_STATUS.VERIFY. -/ def prt_PREEMPT_STATUS_VERIFY : Fld := { off := 0x0C8, lo := 0, w := 3 }
/-- R164: prt.PREEMPT_STATUS.ACTIVE. -/ def prt_PREEMPT_STATUS_ACTIVE : Fld := { off := 0x0C8, lo := 3, w := 1 }
/-- R168: prt.PREEMPT_STATUS.REASSEMBLY_ERRORS. -/ def prt_PREEMPT_STATUS_REASSEMBLY_ERRORS : Fld := { off := 0x0C8, lo := 32, w := 16, acc := .w1cAny }
/-- R154: prt.TX_CTRL.LPI_ENABLE. -/ def prt_TX_CTRL_LPI_ENABLE : Fld := { off := 0x0D0, lo := 0, w := 1, acc := .rw }
/-- R154: prt.TX_CTRL.LPI_ENTRY_NS. -/ def prt_TX_CTRL_LPI_ENTRY_NS : Fld := { off := 0x0D0, lo := 16, w := 16, acc := .rw, rst := .val 0x1000 }
/-- R33: prt.TC7_CFG.ENABLE. -/ def prt_TC7_CFG_ENABLE : Fld := { off := 0x0D8, lo := 0, w := 1, acc := .rw }

-- pages 0x0580-0x05FF: 05_lanes_ports.md
/-- R132: oct.OCT_CFG.RATE_GROUP. -/ def oct_OCT_CFG_RATE_GROUP : Fld := { off := 0x080, lo := 0, w := 2, acc := .rw, rst := .val 2 }
/-- R133: oct.OCT_CFG.PORT_START. -/ def oct_OCT_CFG_PORT_START : Fld := { off := 0x080, lo := 8, w := 8, acc := .rw, rst := .val 1 }
/-- R170: oct.OCT_STATUS.PLL_LOCK. -/ def oct_OCT_STATUS_PLL_LOCK : Fld := { off := 0x088, lo := 0, w := 1 }
/-- R170: oct.OCT_STATUS.GROUP_IN_FORCE. -/ def oct_OCT_STATUS_GROUP_IN_FORCE : Fld := { off := 0x088, lo := 1, w := 2, rst := .val 2 }
/-- R170: oct.OCT_STATUS.REF_ABSENT. -/ def oct_OCT_STATUS_REF_ABSENT : Fld := { off := 0x088, lo := 3, w := 1 }
/-- R170: oct.OCT_STATUS.LAYOUT_REFUSED. -/ def oct_OCT_STATUS_LAYOUT_REFUSED : Fld := { off := 0x088, lo := 4, w := 1, acc := .w1c }

-- pages 0x0500-0x0507: 05_lanes_ports.md
/-- R171: til.TILE_STATUS.MANAGER_RUNNING. -/ def til_TILE_STATUS_MANAGER_RUNNING : Fld := { off := 0x080, lo := 0, w := 1 }
/-- R171: til.TILE_STATUS.REF_ABSENT. -/ def til_TILE_STATUS_REF_ABSENT : Fld := { off := 0x080, lo := 1, w := 1 }
/-- R149: til.TILE_STATUS.EQ_TABLE. -/ def til_TILE_STATUS_EQ_TABLE : Fld := { off := 0x080, lo := 2, w := 2, rst := .val 1 }
/-- R171: til.TILE_STATUS.EQ_ENTRIES. -/ def til_TILE_STATUS_EQ_ENTRIES : Fld := { off := 0x080, lo := 16, w := 16 }
/-- R171: til.TILE_STATUS.EQ_GENERATION. -/ def til_TILE_STATUS_EQ_GENERATION : Fld := { off := 0x080, lo := 32, w := 32 }
/-- R171: til.SEAM_STATUS.SPARES_UP. -/ def til_SEAM_STATUS_SPARES_UP : Fld := { off := 0x088, lo := 0, w := 6 }
/-- R171: til.SEAM_STATUS.SPARES_DOWN. -/ def til_SEAM_STATUS_SPARES_DOWN : Fld := { off := 0x088, lo := 8, w := 6 }
/-- R171: til.SEAM_STATUS.FLIT_CRC_ERRORS. -/ def til_SEAM_STATUS_FLIT_CRC_ERRORS : Fld := { off := 0x088, lo := 16, w := 16 }
/-- R171: til.SEAM_STATUS.EXHAUSTED. -/ def til_SEAM_STATUS_EXHAUSTED : Fld := { off := 0x088, lo := 32, w := 1 }

-- pages 0x0440-0x045F: 06_pipeline_microcode.md
/-- R175: ucs.ENGINE_CFG.PARSE_MAX. -/ def ucs_ENGINE_CFG_PARSE_MAX : Fld := { off := 0x080, lo := 0, w := 8, acc := .rw, rst := .val 0x40 }
/-- R175: ucs.ENGINE_CFG.IACT_MAX. -/ def ucs_ENGINE_CFG_IACT_MAX : Fld := { off := 0x080, lo := 8, w := 8, acc := .rw, rst := .val 0x40 }
/-- R175: ucs.ENGINE_CFG.EACT_MAX. -/ def ucs_ENGINE_CFG_EACT_MAX : Fld := { off := 0x080, lo := 16, w := 8, acc := .rw, rst := .val 0x40 }
/-- R199: ucs.BANK_CTRL.ARM. -/ def ucs_BANK_CTRL_ARM : Fld := { off := 0x088, lo := 0, w := 1, acc := .rw }
/-- R202: ucs.BANK_CTRL.ABORT. -/ def ucs_BANK_CTRL_ABORT : Fld := { off := 0x088, lo := 1, w := 1, acc := .wo }
/-- R202: ucs.BANK_CTRL.CLEAR_STATS. -/ def ucs_BANK_CTRL_CLEAR_STATS : Fld := { off := 0x088, lo := 2, w := 1, acc := .wo }
/-- R198: ucs.BANK_STATUS.ACTIVE_BANK. -/ def ucs_BANK_STATUS_ACTIVE_BANK : Fld := { off := 0x090, lo := 0, w := 1, sticky := true }
/-- R198: ucs.BANK_STATUS.STATE. -/ def ucs_BANK_STATUS_STATE : Fld := { off := 0x090, lo := 1, w := 3 }
/-- R202: ucs.BANK_STATUS.GOLDEN. -/ def ucs_BANK_STATUS_GOLDEN : Fld := { off := 0x090, lo := 4, w := 1 }
/-- R200: ucs.BANK_STATUS.ARMED_REFUSED. -/ def ucs_BANK_STATUS_ARMED_REFUSED : Fld := { off := 0x090, lo := 5, w := 1, acc := .w1c }
/-- R200: ucs.BANK_STATUS.ABORT_REFUSED. -/ def ucs_BANK_STATUS_ABORT_REFUSED : Fld := { off := 0x090, lo := 6, w := 1, acc := .w1c }
/-- R194: ucs.BANK_STATUS.VERIFY_ERR. -/ def ucs_BANK_STATUS_VERIFY_ERR : Fld := { off := 0x090, lo := 8, w := 8 }
/-- R194: ucs.BANK_STATUS.VERIFY_ADDR. -/ def ucs_BANK_STATUS_VERIFY_ADDR : Fld := { off := 0x090, lo := 16, w := 12 }
/-- R202: ucs.BANK_STATUS.OLD_BANK_FRAMES. -/ def ucs_BANK_STATUS_OLD_BANK_FRAMES : Fld := { off := 0x090, lo := 32, w := 16 }
/-- R202: ucs.IMAGE.ACTIVE_ID. -/ def ucs_IMAGE_ACTIVE_ID : Fld := { off := 0x098, lo := 0, w := 32 }
/-- R202: ucs.IMAGE.IDLE_ID. -/ def ucs_IMAGE_IDLE_ID : Fld := { off := 0x098, lo := 32, w := 32 }
/-- R195: ucs.MC_STATUS.LAST_CODE. -/ def ucs_MC_STATUS_LAST_CODE : Fld := { off := 0x0A0, lo := 0, w := 8 }
/-- R195: ucs.MC_STATUS.LAST_ADDR. -/ def ucs_MC_STATUS_LAST_ADDR : Fld := { off := 0x0A0, lo := 8, w := 12 }
/-- R195: ucs.MC_STATUS.LAST_BANK. -/ def ucs_MC_STATUS_LAST_BANK : Fld := { off := 0x0A0, lo := 20, w := 1 }
/-- R195: ucs.MC_STATUS.LAST_KIND. -/ def ucs_MC_STATUS_LAST_KIND : Fld := { off := 0x0A0, lo := 21, w := 2 }
/-- R196: ucs.MC_STATUS.PATCHES_USED. -/ def ucs_MC_STATUS_PATCHES_USED : Fld := { off := 0x0A0, lo := 24, w := 5, sticky := true }
/-- R195: ucs.MC_STATUS.MC_COUNT. -/ def ucs_MC_STATUS_MC_COUNT : Fld := { off := 0x0A0, lo := 32, w := 32 }
/-- R202: ucs.CYCLE_STATS.PARSE_PEAK. -/ def ucs_CYCLE_STATS_PARSE_PEAK : Fld := { off := 0x0A8, lo := 0, w := 8 }
/-- R202: ucs.CYCLE_STATS.IACT_PEAK. -/ def ucs_CYCLE_STATS_IACT_PEAK : Fld := { off := 0x0A8, lo := 8, w := 8 }
/-- R202: ucs.CYCLE_STATS.EACT_PEAK. -/ def ucs_CYCLE_STATS_EACT_PEAK : Fld := { off := 0x0A8, lo := 16, w := 8 }
/-- R177: ucs.CYCLE_STATS.TC7_OVERRUNS. -/ def ucs_CYCLE_STATS_TC7_OVERRUNS : Fld := { off := 0x0A8, lo := 32, w := 16 }
/-- R174: ucs.CYCLE_STATS.ENGINE_WAITS. -/ def ucs_CYCLE_STATS_ENGINE_WAITS : Fld := { off := 0x0A8, lo := 48, w := 16 }
/-- R202: ucs.CS_SEL.ADDR. -/ def ucs_CS_SEL_ADDR : Fld := { off := 0x0B0, lo := 0, w := 12, acc := .rw }
/-- R202: ucs.CS_SEL.BANK. -/ def ucs_CS_SEL_BANK : Fld := { off := 0x0B0, lo := 12, w := 1, acc := .rw }
/-- R202: ucs.CS_SEL.REGION. -/ def ucs_CS_SEL_REGION : Fld := { off := 0x0B0, lo := 13, w := 2, acc := .rw }
/-- R202: ucs.CS_DATA. -/ def ucs_CS_DATA : Fld := { off := 0x0B8, lo := 0, w := 64, n := 4, stride := 8 }
/-- R202: ucs.CS_PARITY. -/ def ucs_CS_PARITY : Fld := { off := 0x0D8, lo := 0, w := 8 }
/-- R196: ucs.PATCH.ADDR. -/ def ucs_PATCH_ADDR : Fld := { off := 0x100, lo := 0, w := 12, n := 16, stride := 8, sticky := true }
/-- R196: ucs.PATCH.BANK. -/ def ucs_PATCH_BANK : Fld := { off := 0x100, lo := 12, w := 1, n := 16, stride := 8, sticky := true }
/-- R196: ucs.PATCH.REGION. -/ def ucs_PATCH_REGION : Fld := { off := 0x100, lo := 13, w := 2, n := 16, stride := 8, sticky := true }
/-- R196: ucs.PATCH.VALID. -/ def ucs_PATCH_VALID : Fld := { off := 0x100, lo := 15, w := 1, n := 16, stride := 8, sticky := true }

-- page 0x0300: 07_tables_search.md
/-- R219: tbl0.GEN_NOW. -/ def tbl0_GEN_NOW : Fld := { off := 0x080, lo := 0, w := 32, rst := .val 1 }
/-- R221: tbl0.GEN.OLDEST. -/ def tbl0_GEN_OLDEST : Fld := { off := 0x088, lo := 0, w := 32, rst := .val 1 }
/-- R221: tbl0.GEN.NONE_HELD. -/ def tbl0_GEN_NONE_HELD : Fld := { off := 0x088, lo := 32, w := 1, rst := .val 1 }
/-- R237: tbl0.EPOCH_STATUS.STATE. -/ def tbl0_EPOCH_STATUS_STATE : Fld := { off := 0x090, lo := 0, w := 3 }
/-- R243: tbl0.EPOCH_STATUS.STAGED. -/ def tbl0_EPOCH_STATUS_STAGED : Fld := { off := 0x090, lo := 4, w := 17 }
/-- R243: tbl0.EPOCH_STATUS.ERRORS. -/ def tbl0_EPOCH_STATUS_ERRORS : Fld := { off := 0x090, lo := 24, w := 8 }
/-- R236: tbl0.EPOCH_STATUS.REFUSE_CAUSE. -/ def tbl0_EPOCH_STATUS_REFUSE_CAUSE : Fld := { off := 0x090, lo := 32, w := 4 }
/-- R237: tbl0.EPOCH_STATUS.LATE. -/ def tbl0_EPOCH_STATUS_LATE : Fld := { off := 0x090, lo := 36, w := 1, acc := .w1c }
/-- R243: tbl0.EPOCH_STATUS.EPOCH_ID. -/ def tbl0_EPOCH_STATUS_EPOCH_ID : Fld := { off := 0x090, lo := 40, w := 24, sticky := true }
/-- R243: tbl0.EPOCH_EFFECT.NS. -/ def tbl0_EPOCH_EFFECT_NS : Fld := { off := 0x098, lo := 0, w := 64, a64 := true }
/-- R243: tbl0.EPOCH_EFFECT.FRAC. -/ def tbl0_EPOCH_EFFECT_FRAC : Fld := { off := 0x0A0, lo := 0, w := 16 }
/-- R238: tbl0.JOURNAL_STATUS.RESOLUTION. -/ def tbl0_JOURNAL_STATUS_RESOLUTION : Fld := { off := 0x0A8, lo := 0, w := 2 }
/-- R243: tbl0.JOURNAL_STATUS.TABLES_REBUILT. -/ def tbl0_JOURNAL_STATUS_TABLES_REBUILT : Fld := { off := 0x0A8, lo := 2, w := 1 }
/-- R243: tbl0.JOURNAL_STATUS.RESOLVED_ID. -/ def tbl0_JOURNAL_STATUS_RESOLVED_ID : Fld := { off := 0x0A8, lo := 40, w := 24 }
/-- R243: tbl0.CMD_STATUS.IN_FLIGHT. -/ def tbl0_CMD_STATUS_IN_FLIGHT : Fld := { off := 0x0B0, lo := 0, w := 13 }

-- page 0x0301: 07_tables_search.md
/-- R227: tbl1.EMT_CFG.REFRESH. -/ def tbl1_EMT_CFG_REFRESH : Fld := { off := 0x080, lo := 0, w := 1, acc := .rw }
/-- R211: tbl1.EMT_CFG.MAX_KICKS. -/ def tbl1_EMT_CFG_MAX_KICKS : Fld := { off := 0x080, lo := 8, w := 8, acc := .rw, rst := .val 0x20 }
/-- R228: tbl1.AGE_CFG.AGE_ENABLE. -/ def tbl1_AGE_CFG_AGE_ENABLE : Fld := { off := 0x088, lo := 0, w := 1, acc := .rw, rst := .val 1 }
/-- R228: tbl1.AGE_CFG.AGE_LIMIT. -/ def tbl1_AGE_CFG_AGE_LIMIT : Fld := { off := 0x088, lo := 16, w := 16, acc := .rw, rst := .val 0xDF84 }
/-- R223: tbl1.LEARN_CFG.ENABLE. -/ def tbl1_LEARN_CFG_ENABLE : Fld := { off := 0x090, lo := 0, w := 1, acc := .rw }
/-- R223: tbl1.LEARN_CFG.TEMPLATE. -/ def tbl1_LEARN_CFG_TEMPLATE : Fld := { off := 0x090, lo := 8, w := 8, acc := .rw }
/-- R225: tbl1.LEARN_CFG.MOVE_HOLD. -/ def tbl1_LEARN_CFG_MOVE_HOLD : Fld := { off := 0x090, lo := 32, w := 32, acc := .rw, rst := .val 0x100000 }
/-- R224: tbl1.LEARN_DATA. -/ def tbl1_LEARN_DATA : Fld := { off := 0x098, lo := 0, w := 32, acc := .rw, rst := .val 0x400 }
/-- R243: tbl1.EMT_STATUS.ENTRIES. -/ def tbl1_EMT_STATUS_ENTRIES : Fld := { off := 0x0A0, lo := 0, w := 23 }
/-- R243: tbl1.EMT_STATUS.STASH_USED. -/ def tbl1_EMT_STATUS_STASH_USED : Fld := { off := 0x0A0, lo := 24, w := 7 }
/-- R243: tbl1.EMT_STATUS.HOLD_USED. -/ def tbl1_EMT_STATUS_HOLD_USED : Fld := { off := 0x0A0, lo := 32, w := 14 }
/-- R224: tbl1.EMT_STATUS.LEARN_LATE. -/ def tbl1_EMT_STATUS_LEARN_LATE : Fld := { off := 0x0A0, lo := 48, w := 16 }
/-- R243: tbl1.LEARN_COUNTS.NEW. -/ def tbl1_LEARN_COUNTS_NEW : Fld := { off := 0x0A8, lo := 0, w := 16, acc := .w1cAny }
/-- R243: tbl1.LEARN_COUNTS.MOVE. -/ def tbl1_LEARN_COUNTS_MOVE : Fld := { off := 0x0A8, lo := 16, w := 16, acc := .w1cAny }
/-- R243: tbl1.LEARN_COUNTS.CONFLICT. -/ def tbl1_LEARN_COUNTS_CONFLICT : Fld := { off := 0x0A8, lo := 32, w := 16, acc := .w1cAny }
/-- R243: tbl1.LEARN_COUNTS.DROPPED. -/ def tbl1_LEARN_COUNTS_DROPPED : Fld := { off := 0x0A8, lo := 48, w := 16, acc := .w1cAny }
/-- R209: tbl1.HASH_SEED. -/ def tbl1_HASH_SEED : Fld := { off := 0x0B0, lo := 0, w := 32, acc := .rw, n := 4, stride := 8, sticky := true }

-- page 0x0302: 07_tables_search.md
/-- R243: tbl2.LPA_STATUS.ENTRIES. -/ def tbl2_LPA_STATUS_ENTRIES : Fld := { off := 0x080, lo := 0, w := 18 }
/-- R214: tbl2.LPA_STATUS.SHIFT_BUSY. -/ def tbl2_LPA_STATUS_SHIFT_BUSY : Fld := { off := 0x080, lo := 32, w := 1 }
/-- R243: tbl2.LPA_STATUS.SHIFT_MOVES. -/ def tbl2_LPA_STATUS_SHIFT_MOVES : Fld := { off := 0x080, lo := 40, w := 24 }
/-- R243: tbl2.CLA_SEL.SLICE. -/ def tbl2_CLA_SEL_SLICE : Fld := { off := 0x088, lo := 0, w := 5, acc := .rw }
/-- R243: tbl2.CLA_STATUS.ENTRIES. -/ def tbl2_CLA_STATUS_ENTRIES : Fld := { off := 0x090, lo := 0, w := 11 }

-- page 0x0303: 07_tables_search.md
/-- R243: tbl3.LEARN_PORT. -/ def tbl3_LEARN_PORT : Fld := { off := 0x080, lo := 0, w := 64, acc := .rw, n := 16, stride := 8 }
/-- R226: tbl3.NOTIFY_BASE. -/ def tbl3_NOTIFY_BASE : Fld := { off := 0x100, lo := 5, w := 59, acc := .rw }
/-- R226: tbl3.NOTIFY_CFG.ENABLE. -/ def tbl3_NOTIFY_CFG_ENABLE : Fld := { off := 0x108, lo := 0, w := 1, acc := .rw }
/-- R226: tbl3.NOTIFY_CFG.LOG2_SIZE. -/ def tbl3_NOTIFY_CFG_LOG2_SIZE : Fld := { off := 0x108, lo := 8, w := 4, acc := .rw, rst := .val 8 }
/-- R226: tbl3.NOTIFY_TAIL. -/ def tbl3_NOTIFY_TAIL : Fld := { off := 0x110, lo := 0, w := 12, a64 := true }
/-- R226: tbl3.NOTIFY_HEAD. -/ def tbl3_NOTIFY_HEAD : Fld := { off := 0x118, lo := 0, w := 12, acc := .rw, a64 := true }
/-- R226: tbl3.NOTIFY_STATUS.LOST. -/ def tbl3_NOTIFY_STATUS_LOST : Fld := { off := 0x120, lo := 0, w := 32, acc := .w1cAny }

-- pages 0x0310-0x031F: 07_tables_search.md
/-- R230: tblq.CQ_BASE. -/ def tblq_CQ_BASE : Fld := { off := 0x080, lo := 8, w := 56, acc := .rw }
/-- R230: tblq.CQ_CFG.ENABLE. -/ def tblq_CQ_CFG_ENABLE : Fld := { off := 0x088, lo := 0, w := 1, acc := .rw }
/-- R230: tblq.CQ_CFG.LOG2_SIZE. -/ def tblq_CQ_CFG_LOG2_SIZE : Fld := { off := 0x088, lo := 8, w := 4, acc := .rw, rst := .val 8 }
/-- R230: tblq.CQ_TAIL. -/ def tblq_CQ_TAIL : Fld := { off := 0x090, lo := 0, w := 12, acc := .rw, a64 := true }
/-- R230: tblq.CQ_HEAD. -/ def tblq_CQ_HEAD : Fld := { off := 0x098, lo := 0, w := 12, a64 := true }
/-- R243: tblq.CQ_STATUS.IN_FLIGHT. -/ def tblq_CQ_STATUS_IN_FLIGHT : Fld := { off := 0x0A0, lo := 0, w := 13 }
/-- R243: tblq.CQ_STATUS.STOPPED. -/ def tblq_CQ_STATUS_STOPPED : Fld := { off := 0x0A0, lo := 16, w := 1 }
/-- R230: tblq.CQ_STATUS.FETCH_ERR. -/ def tblq_CQ_STATUS_FETCH_ERR : Fld := { off := 0x0A0, lo := 17, w := 1, acc := .w1c }

-- pages 0x0480-0x04A3: 08_buffer_queues.md
/-- R283: bufg.GROUP_STATUS.LIVE_CELLS. -/ def bufg_GROUP_STATUS_LIVE_CELLS : Fld := { off := 0x080, lo := 0, w := 16 }
/-- R283: bufg.GROUP_STATUS.BANKS_IN_SERVICE. -/ def bufg_GROUP_STATUS_BANKS_IN_SERVICE : Fld := { off := 0x080, lo := 16, w := 6, rst := .val 0x20 }
/-- R250: bufg.GROUP_STATUS.TC7_BACKING. -/ def bufg_GROUP_STATUS_TC7_BACKING : Fld := { off := 0x080, lo := 24, w := 1, rst := .hw .tc7Backing }
/-- R278: bufg.BANK.STATE. -/ def bufg_BANK_STATE : Fld := { off := 0x100, lo := 0, w := 3, n := 32, stride := 8 }
/-- R283: bufg.BANK.SPARE. -/ def bufg_BANK_SPARE : Fld := { off := 0x100, lo := 11, w := 11, n := 32, stride := 8 }
/-- R283: bufg.BANK.CORRECTED. -/ def bufg_BANK_CORRECTED : Fld := { off := 0x100, lo := 32, w := 16, acc := .w1cAny, n := 32, stride := 8 }
/-- R283: bufg.BANK.LIVE. -/ def bufg_BANK_LIVE : Fld := { off := 0x100, lo := 48, w := 11, n := 32, stride := 8 }

-- page 0x04A4: 08_buffer_queues.md
/-- R249: bufx.POOL_CFG0.TC7_POOL. -/ def bufx_POOL_CFG0_TC7_POOL : Fld := { off := 0x080, lo := 0, w := 21, acc := .rw, rst := .val 0x10000 }
/-- R249: bufx.POOL_CFG0.HEADROOM. -/ def bufx_POOL_CFG0_HEADROOM : Fld := { off := 0x080, lo := 32, w := 21, acc := .rw, rst := .val 0x20000 }
/-- R249: bufx.POOL_CFG1.SP0. -/ def bufx_POOL_CFG1_SP0 : Fld := { off := 0x088, lo := 0, w := 21, acc := .rw, rst := .val 0xDC000 }
/-- R249: bufx.POOL_CFG1.SP1. -/ def bufx_POOL_CFG1_SP1 : Fld := { off := 0x088, lo := 32, w := 21, acc := .rw }
/-- R249: bufx.POOL_CFG2.SP2. -/ def bufx_POOL_CFG2_SP2 : Fld := { off := 0x090, lo := 0, w := 21, acc := .rw }
/-- R249: bufx.POOL_CFG2.SP3. -/ def bufx_POOL_CFG2_SP3 : Fld := { off := 0x090, lo := 32, w := 21, acc := .rw }
/-- R249: bufx.MIN_POOL. -/ def bufx_MIN_POOL : Fld := { off := 0x098, lo := 0, w := 21, rst := .val 0x14000 }
/-- R248: bufx.CLASS_POOL.POOL. -/ def bufx_CLASS_POOL_POOL : Fld := { off := 0x0A0, lo := 0, w := 2, acc := .rw, m := 8, bst := 2 }
/-- R284: bufx.POOL_USED0.SP0_USED. -/ def bufx_POOL_USED0_SP0_USED : Fld := { off := 0x0A8, lo := 0, w := 21 }
/-- R284: bufx.POOL_USED0.SP1_USED. -/ def bufx_POOL_USED0_SP1_USED : Fld := { off := 0x0A8, lo := 32, w := 21 }
/-- R284: bufx.POOL_USED1.SP2_USED. -/ def bufx_POOL_USED1_SP2_USED : Fld := { off := 0x0B0, lo := 0, w := 21 }
/-- R284: bufx.POOL_USED1.SP3_USED. -/ def bufx_POOL_USED1_SP3_USED : Fld := { off := 0x0B0, lo := 32, w := 21 }
/-- R284: bufx.RES_USED.TC7_USED. -/ def bufx_RES_USED_TC7_USED : Fld := { off := 0x0B8, lo := 0, w := 21 }
/-- R284: bufx.RES_USED.HEADROOM_USED. -/ def bufx_RES_USED_HEADROOM_USED : Fld := { off := 0x0B8, lo := 32, w := 21 }
/-- R254: bufx.DESC_FREE. -/ def bufx_DESC_FREE : Fld := { off := 0x0C0, lo := 0, w := 21, rst := .val 0x100000 }
/-- R254: bufx.DESC_TC7_RESERVE. -/ def bufx_DESC_TC7_RESERVE : Fld := { off := 0x0C8, lo := 0, w := 21, acc := .rw, rst := .val 0x10000 }
/-- R279: bufx.SPARE_STATUS.SPARES_FREE. -/ def bufx_SPARE_STATUS_SPARES_FREE : Fld := { off := 0x0D0, lo := 0, w := 6, rst := .val 0x20 }
/-- R279: bufx.SPARE_STATUS.BANKS_RETIRED. -/ def bufx_SPARE_STATUS_BANKS_RETIRED : Fld := { off := 0x0D0, lo := 16, w := 6, sticky := true }
/-- R280: bufx.SPARE_STATUS.COPY_BANK. -/ def bufx_SPARE_STATUS_COPY_BANK : Fld := { off := 0x0D0, lo := 32, w := 11 }
/-- R280: bufx.SPARE_STATUS.COPY_BUSY. -/ def bufx_SPARE_STATUS_COPY_BUSY : Fld := { off := 0x0D0, lo := 48, w := 1 }
/-- R279: bufx.SPARE_CMD.BANK. -/ def bufx_SPARE_CMD_BANK : Fld := { off := 0x0D8, lo := 0, w := 11, acc := .wo }
/-- R279: bufx.SPARE_CMD.GO. -/ def bufx_SPARE_CMD_GO : Fld := { off := 0x0D8, lo := 16, w := 1, acc := .wo }
/-- R246: bufx.CAPACITY. -/ def bufx_CAPACITY : Fld := { off := 0x0E0, lo := 0, w := 21, rst := .val 0x120000 }
/-- R278: bufx.SPARE_CFG.WATCH_THRESH. -/ def bufx_SPARE_CFG_WATCH_THRESH : Fld := { off := 0x0E8, lo := 0, w := 16, acc := .rw, rst := .val 4 }
/-- R279: bufx.SPARE_CFG.SPARE_THRESH. -/ def bufx_SPARE_CFG_SPARE_THRESH : Fld := { off := 0x0E8, lo := 16, w := 16, acc := .rw, rst := .val 0x40 }
/-- R272: bufx.MCG_SEL.GROUP. -/ def bufx_MCG_SEL_GROUP : Fld := { off := 0x100, lo := 0, w := 10, acc := .rw }
/-- R272: bufx.MCG_CFG.VALID. -/ def bufx_MCG_CFG_VALID : Fld := { off := 0x108, lo := 0, w := 1, acc := .rw }
/-- R272: bufx.MCG_CFG.SKIP_SOURCE. -/ def bufx_MCG_CFG_SKIP_SOURCE : Fld := { off := 0x108, lo := 1, w := 1, acc := .rw }
/-- R272: bufx.MCG_CTRL.COMMIT. -/ def bufx_MCG_CTRL_COMMIT : Fld := { off := 0x110, lo := 0, w := 1, acc := .wo }
/-- R272: bufx.MCG_PORTS. -/ def bufx_MCG_PORTS : Fld := { off := 0x180, lo := 0, w := 64, acc := .rw, n := 16, stride := 8 }

-- pages 0x0400-0x041F: 08_buffer_queues.md
/-- R260: slii.FWD_CFG.QUEUE_MODE. -/ def slii_FWD_CFG_QUEUE_MODE : Fld := { off := 0x080, lo := 0, w := 1, acc := .rw }
/-- R285: slii.PG_SEL.PORT. -/ def slii_PG_SEL_PORT : Fld := { off := 0x088, lo := 0, w := 10, acc := .rw }
/-- R285: slii.PG_SEL.CLASS. -/ def slii_PG_SEL_CLASS : Fld := { off := 0x088, lo := 16, w := 3, acc := .rw }
/-- R258: slii.PG_CFG0.PG_XOFF. -/ def slii_PG_CFG0_PG_XOFF : Fld := { off := 0x090, lo := 0, w := 21, acc := .rw, rst := .val 0x1000 }
/-- R258: slii.PG_CFG0.PG_XON_DELTA. -/ def slii_PG_CFG0_PG_XON_DELTA : Fld := { off := 0x090, lo := 32, w := 16, acc := .rw, rst := .val 0x100 }
/-- R259: slii.PG_CFG1.PG_HDRM. -/ def slii_PG_CFG1_PG_HDRM : Fld := { off := 0x098, lo := 0, w := 21, acc := .rw, rst := .val 0x200 }
/-- R285: slii.PG_STATUS.SHARED_USED. -/ def slii_PG_STATUS_SHARED_USED : Fld := { off := 0x0A0, lo := 0, w := 21 }
/-- R285: slii.PG_STATUS.HDRM_USED. -/ def slii_PG_STATUS_HDRM_USED : Fld := { off := 0x0A0, lo := 32, w := 21 }
/-- R257: slii.PG_STATUS.LOSSLESS. -/ def slii_PG_STATUS_LOSSLESS : Fld := { off := 0x0A0, lo := 62, w := 1 }
/-- R258: slii.PG_STATUS.XOFF. -/ def slii_PG_STATUS_XOFF : Fld := { off := 0x0A0, lo := 63, w := 1 }

-- pages 0x0420-0x043F: 08_buffer_queues.md
/-- R286: slie.Q_SEL.PORT. -/ def slie_Q_SEL_PORT : Fld := { off := 0x080, lo := 0, w := 10, acc := .rw }
/-- R286: slie.Q_SEL.QUEUE. -/ def slie_Q_SEL_QUEUE : Fld := { off := 0x080, lo := 16, w := 4, acc := .rw }
/-- R249: slie.Q_CFG.QMIN. -/ def slie_Q_CFG_QMIN : Fld := { off := 0x088, lo := 0, w := 8, acc := .rw, rst := .val 8 }
/-- R253: slie.Q_CFG.ALPHA. -/ def slie_Q_CFG_ALPHA : Fld := { off := 0x088, lo := 8, w := 4, acc := .rw, rst := .val 6 }
/-- R264: slie.Q_CFG.ECN_ENABLE. -/ def slie_Q_CFG_ECN_ENABLE : Fld := { off := 0x088, lo := 12, w := 1, acc := .rw }
/-- R261: slie.Q_CFG.MC0_TC. -/ def slie_Q_CFG_MC0_TC : Fld := { off := 0x088, lo := 16, w := 3, acc := .rw }
/-- R264: slie.Q_CFG.ECN_CELLS. -/ def slie_Q_CFG_ECN_CELLS : Fld := { off := 0x088, lo := 32, w := 21, acc := .rw, rst := .val 0x400 }
/-- R286: slie.Q_STATUS.DEPTH. -/ def slie_Q_STATUS_DEPTH : Fld := { off := 0x090, lo := 0, w := 21 }
/-- R286: slie.Q_STATUS.MIN_USED. -/ def slie_Q_STATUS_MIN_USED : Fld := { off := 0x090, lo := 32, w := 8 }
/-- R286: slie.Q_STATUS.PAUSED. -/ def slie_Q_STATUS_PAUSED : Fld := { off := 0x090, lo := 40, w := 1 }
/-- R286: slie.Q_STATUS.ECN_ACTIVE. -/ def slie_Q_STATUS_ECN_ACTIVE : Fld := { off := 0x090, lo := 41, w := 1 }
/-- R266: slie.PORT_FWD_CFG.CT_DISABLE. -/ def slie_PORT_FWD_CFG_CT_DISABLE : Fld := { off := 0x098, lo := 0, w := 1, acc := .rw }

-- pages 0x00D0-0x00DF: 08_buffer_queues.md
/-- R287: hr.HR_CFG.ENABLE. -/ def hr_HR_CFG_ENABLE : Fld := { off := 0x080, lo := 0, w := 1, acc := .rw }
/-- R287: hr.HR_CFG.HDR_LEN. -/ def hr_HR_CFG_HDR_LEN : Fld := { off := 0x080, lo := 1, w := 2, acc := .rw, rst := .val 1 }
/-- R276: hr.HR_CFG.OVERWRITE. -/ def hr_HR_CFG_OVERWRITE : Fld := { off := 0x080, lo := 3, w := 1, acc := .rw }
/-- R274: hr.HR_CFG.EVENTS. -/ def hr_HR_CFG_EVENTS : Fld := { off := 0x080, lo := 4, w := 4, acc := .rw }
/-- R274: hr.HR_CFG.CLASS_MASK. -/ def hr_HR_CFG_CLASS_MASK : Fld := { off := 0x080, lo := 8, w := 8, acc := .rw, rst := .val 0xFF }
/-- R274: hr.HR_CFG.PORT. -/ def hr_HR_CFG_PORT : Fld := { off := 0x080, lo := 16, w := 10, acc := .rw }
/-- R274: hr.HR_CFG.PORT_ANY. -/ def hr_HR_CFG_PORT_ANY : Fld := { off := 0x080, lo := 26, w := 1, acc := .rw }
/-- R274: hr.HR_CFG.PORT_IS_EGRESS. -/ def hr_HR_CFG_PORT_IS_EGRESS : Fld := { off := 0x080, lo := 27, w := 1, acc := .rw }
/-- R274: hr.HR_CFG.SAMPLE_LOG2. -/ def hr_HR_CFG_SAMPLE_LOG2 : Fld := { off := 0x080, lo := 32, w := 4, acc := .rw }
/-- R275: hr.HR_CFG.ONDIE_KIB. -/ def hr_HR_CFG_ONDIE_KIB : Fld := { off := 0x080, lo := 40, w := 16, acc := .rw, rst := .val 0x200 }
/-- R275: hr.HR_BASE. -/ def hr_HR_BASE : Fld := { off := 0x088, lo := 8, w := 56, acc := .rw }
/-- R275: hr.HR_SIZE. -/ def hr_HR_SIZE : Fld := { off := 0x090, lo := 0, w := 5, acc := .rw, rst := .val 0x10 }
/-- R275: hr.HR_TAIL. -/ def hr_HR_TAIL : Fld := { off := 0x098, lo := 0, w := 30, a64 := true }
/-- R276: hr.HR_HEAD. -/ def hr_HR_HEAD : Fld := { off := 0x0A0, lo := 0, w := 30, acc := .rw, a64 := true }
/-- R276: hr.HR_STATUS.LOST_BURST. -/ def hr_HR_STATUS_LOST_BURST : Fld := { off := 0x0A8, lo := 0, w := 32, acc := .w1cAny }
/-- R276: hr.HR_STATUS.LOST_FULL. -/ def hr_HR_STATUS_LOST_FULL : Fld := { off := 0x0A8, lo := 32, w := 32, acc := .w1cAny }

-- pages 0x0100-0x013F: 09_merge_release.md
/-- R292: mrg.MRG_CFG.ENABLE. -/ def mrg_MRG_CFG_ENABLE : Fld := { off := 0x080, lo := 0, w := 1, acc := .rw }
/-- R290: mrg.MRG_CFG.ROLE. -/ def mrg_MRG_CFG_ROLE : Fld := { off := 0x080, lo := 1, w := 1, acc := .rw }
/-- R294: mrg.MRG_CFG.ADOPT_PACE. -/ def mrg_MRG_CFG_ADOPT_PACE : Fld := { off := 0x080, lo := 2, w := 1, acc := .rw }
/-- R320: mrg.MRG_CFG.OUT_PORT. -/ def mrg_MRG_CFG_OUT_PORT : Fld := { off := 0x080, lo := 16, w := 10, acc := .rw }
/-- R320: mrg.MRG_CFG.OUT_QUEUE. -/ def mrg_MRG_CFG_OUT_QUEUE : Fld := { off := 0x080, lo := 26, w := 3, acc := .rw }
/-- R320: mrg.MRG_CFG.H. -/ def mrg_MRG_CFG_H : Fld := { off := 0x080, lo := 32, w := 16, acc := .rw, rst := .val 0x3E8 }
/-- R294: mrg.MRG_CFG.PACE_MARGIN. -/ def mrg_MRG_CFG_PACE_MARGIN : Fld := { off := 0x080, lo := 48, w := 16, acc := .rw }
/-- R299: mrg.MRG_LIMIT.MAX_CELLS. -/ def mrg_MRG_LIMIT_MAX_CELLS : Fld := { off := 0x088, lo := 0, w := 15, acc := .rw, rst := .val 0x400 }
/-- R320: mrg.MRG_STATUS.ENABLED. -/ def mrg_MRG_STATUS_ENABLED : Fld := { off := 0x090, lo := 0, w := 1 }
/-- R292: mrg.MRG_STATUS.REFUSE. -/ def mrg_MRG_STATUS_REFUSE : Fld := { off := 0x090, lo := 1, w := 3 }
/-- R294: mrg.MRG_STATUS.H_EFF. -/ def mrg_MRG_STATUS_H_EFF : Fld := { off := 0x090, lo := 16, w := 16 }
/-- R320: mrg.MRG_STATUS.HELD. -/ def mrg_MRG_STATUS_HELD : Fld := { off := 0x090, lo := 32, w := 16 }
/-- R303: mrg.MRG_STATUS.ABSENT. -/ def mrg_MRG_STATUS_ABSENT : Fld := { off := 0x090, lo := 48, w := 7 }
/-- R295: mrg.FRONTIER.NS. -/ def mrg_FRONTIER_NS : Fld := { off := 0x098, lo := 0, w := 64, a64 := true }
/-- R295: mrg.FRONTIER.FRAC. -/ def mrg_FRONTIER_FRAC : Fld := { off := 0x0A0, lo := 0, w := 16 }
/-- R295: mrg.FRONTIER.TQ. -/ def mrg_FRONTIER_TQ : Fld := { off := 0x0A0, lo := 16, w := 4 }
/-- R296: mrg.SEED_PREV. -/ def mrg_SEED_PREV : Fld := { off := 0x0A8, lo := 0, w := 64 }
/-- R296: mrg.SEED_SECOND. -/ def mrg_SEED_SECOND : Fld := { off := 0x0B0, lo := 0, w := 64 }
/-- R320: mrg.STORE_STATUS.CELLS_USED. -/ def mrg_STORE_STATUS_CELLS_USED : Fld := { off := 0x0C0, lo := 0, w := 15 }
/-- R320: mrg.STORE_STATUS.ENTRIES_USED. -/ def mrg_STORE_STATUS_ENTRIES_USED : Fld := { off := 0x0C0, lo := 16, w := 15 }
/-- R320: mrg.MEMBER.PORT. -/ def mrg_MEMBER_PORT : Fld := { off := 0x100, lo := 0, w := 10, acc := .rw, n := 64, stride := 8 }
/-- R320: mrg.MEMBER.CHIP_ID. -/ def mrg_MEMBER_CHIP_ID : Fld := { off := 0x100, lo := 10, w := 12, acc := .rw, n := 64, stride := 8 }
/-- R320: mrg.MEMBER.VALID. -/ def mrg_MEMBER_VALID : Fld := { off := 0x100, lo := 24, w := 1, acc := .rw, n := 64, stride := 8 }
/-- R320: mrg.MEMBER.REMOTE. -/ def mrg_MEMBER_REMOTE : Fld := { off := 0x100, lo := 25, w := 1, acc := .rw, n := 64, stride := 8 }
/-- R303: mrg.MEMBER.PRESENT. -/ def mrg_MEMBER_PRESENT : Fld := { off := 0x100, lo := 28, w := 1, n := 64, stride := 8 }
/-- R292: mrg.PATH.PATH_DELAY. -/ def mrg_PATH_PATH_DELAY : Fld := { off := 0x300, lo := 0, w := 32, acc := .rw, n := 64, stride := 8 }
/-- R292: mrg.PATH.CAL_VALID. -/ def mrg_PATH_CAL_VALID : Fld := { off := 0x300, lo := 32, w := 1, acc := .rw, n := 64, stride := 8 }

-- pages 0x0140-0x023F: 09_merge_release.md
/-- R308: rel.REL_CFG.ENABLE. -/ def rel_REL_CFG_ENABLE : Fld := { off := 0x080, lo := 0, w := 1, acc := .rw }
/-- R310: rel.REL_CFG.MODE. -/ def rel_REL_CFG_MODE : Fld := { off := 0x080, lo := 1, w := 1, acc := .rw }
/-- R311: rel.REL_CFG.USE_TAG. -/ def rel_REL_CFG_USE_TAG : Fld := { off := 0x080, lo := 2, w := 1, acc := .rw }
/-- R309: rel.REL_CFG.SPEED. -/ def rel_REL_CFG_SPEED : Fld := { off := 0x080, lo := 3, w := 3, acc := .rw, rst := .val 1 }
/-- R315: rel.REL_CFG.FWD_ENABLE. -/ def rel_REL_CFG_FWD_ENABLE : Fld := { off := 0x080, lo := 6, w := 1, acc := .rw }
/-- R315: rel.REL_CFG.ADOPT_PACE. -/ def rel_REL_CFG_ADOPT_PACE : Fld := { off := 0x080, lo := 7, w := 1, acc := .rw }
/-- R315: rel.REL_CFG.FWD_MCG. -/ def rel_REL_CFG_FWD_MCG : Fld := { off := 0x080, lo := 16, w := 10, acc := .rw }
/-- R311: rel.REL_DELAY.D. -/ def rel_REL_DELAY_D : Fld := { off := 0x088, lo := 0, w := 32, acc := .rw, rst := .val 0x2710 }
/-- R315: rel.REL_DELAY.PACE_MARGIN. -/ def rel_REL_DELAY_PACE_MARGIN : Fld := { off := 0x088, lo := 32, w := 16, acc := .rw }
/-- R310: rel.RELEASE_AT.NS. -/ def rel_RELEASE_AT_NS : Fld := { off := 0x090, lo := 0, w := 64, acc := .rw, a64 := true }
/-- R310: rel.RELEASE_AT.FRAC. -/ def rel_RELEASE_AT_FRAC : Fld := { off := 0x098, lo := 0, w := 16, acc := .rw }
/-- R321: rel.REL_STATUS.ENABLED. -/ def rel_REL_STATUS_ENABLED : Fld := { off := 0x0A0, lo := 0, w := 1 }
/-- R310: rel.REL_STATUS.LATE. -/ def rel_REL_STATUS_LATE : Fld := { off := 0x0A0, lo := 1, w := 1, acc := .w1c }
/-- R318: rel.REL_STATUS.WINDOW_OPEN. -/ def rel_REL_STATUS_WINDOW_OPEN : Fld := { off := 0x0A0, lo := 2, w := 1 }
/-- R310: rel.REL_STATUS.SCHEDULED. -/ def rel_REL_STATUS_SCHEDULED : Fld := { off := 0x0A0, lo := 3, w := 1 }
/-- R309: rel.REL_STATUS.GRID_UNLOCKED. -/ def rel_REL_STATUS_GRID_UNLOCKED : Fld := { off := 0x0A0, lo := 4, w := 1 }
/-- R308: rel.REL_STATUS.REFUSE. -/ def rel_REL_STATUS_REFUSE : Fld := { off := 0x0A0, lo := 8, w := 3 }
/-- R321: rel.REL_STATUS.HELD. -/ def rel_REL_STATUS_HELD : Fld := { off := 0x0A0, lo := 16, w := 16 }
/-- R321: rel.REL_STATUS.RELEASES. -/ def rel_REL_STATUS_RELEASES : Fld := { off := 0x0A0, lo := 32, w := 32 }
/-- R316: rel.LAST_RELEASE.NS. -/ def rel_LAST_RELEASE_NS : Fld := { off := 0x0A8, lo := 0, w := 64, a64 := true }
/-- R316: rel.LAST_RELEASE.FRAC. -/ def rel_LAST_RELEASE_FRAC : Fld := { off := 0x0B0, lo := 0, w := 16 }
/-- R316: rel.LAST_RELEASE.TQ. -/ def rel_LAST_RELEASE_TQ : Fld := { off := 0x0B0, lo := 16, w := 4 }
/-- R307: rel.REL_LIMIT.MAX_FRAMES. -/ def rel_REL_LIMIT_MAX_FRAMES : Fld := { off := 0x0B8, lo := 0, w := 16, acc := .rw, rst := .val 0x100 }
/-- R314: rel.RELEASE_INFO.LAST_SKEW. -/ def rel_RELEASE_INFO_LAST_SKEW : Fld := { off := 0x0C0, lo := 0, w := 16 }
/-- R321: rel.RELEASE_INFO.LAST_FRAMES. -/ def rel_RELEASE_INFO_LAST_FRAMES : Fld := { off := 0x0C0, lo := 16, w := 16 }
/-- R315: rel.RELEASE_INFO.D_EFF. -/ def rel_RELEASE_INFO_D_EFF : Fld := { off := 0x0C0, lo := 32, w := 32 }
/-- R307: rel.MEMBERS. -/ def rel_MEMBERS : Fld := { off := 0x100, lo := 0, w := 64, acc := .rw, n := 16, stride := 8 }
/-- R317: rel.EXCLUDED. -/ def rel_EXCLUDED : Fld := { off := 0x180, lo := 0, w := 64, n := 16, stride := 8 }

-- page 0x0240: 10_sessions.md
/-- R349: ses0.ENGINE_CFG.ENABLE. -/ def ses0_ENGINE_CFG_ENABLE : Fld := { off := 0x080, lo := 0, w := 1, acc := .rw }
/-- R344: ses0.ENGINE_CFG.REQ_MAX_COUNT. -/ def ses0_ENGINE_CFG_REQ_MAX_COUNT : Fld := { off := 0x080, lo := 16, w := 11, acc := .rw, rst := .val 0x400 }
/-- R346: ses0.ENGINE_CFG.RETX_TC. -/ def ses0_ENGINE_CFG_RETX_TC : Fld := { off := 0x080, lo := 32, w := 3, acc := .rw, rst := .val 4 }
/-- R349: ses0.ENGINE_STATUS.CONTEXTS_ARMED. -/ def ses0_ENGINE_STATUS_CONTEXTS_ARMED : Fld := { off := 0x088, lo := 0, w := 14 }
/-- R326: ses0.ENGINE_STATUS.NO_CONTEXT. -/ def ses0_ENGINE_STATUS_NO_CONTEXT : Fld := { off := 0x088, lo := 16, w := 16 }
/-- R341: ses0.ENGINE_STATUS.RING_SKIPS. -/ def ses0_ENGINE_STATUS_RING_SKIPS : Fld := { off := 0x088, lo := 32, w := 16 }
/-- R349: ses0.ENGINE_STATUS.REQ_QUEUED. -/ def ses0_ENGINE_STATUS_REQ_QUEUED : Fld := { off := 0x088, lo := 48, w := 9 }
/-- R349: ses0.CTX_SEL. -/ def ses0_CTX_SEL : Fld := { off := 0x090, lo := 0, w := 13, acc := .rw }
/-- R328: ses0.CTX_CMD.OP. -/ def ses0_CTX_CMD_OP : Fld := { off := 0x098, lo := 0, w := 3, acc := .wo }
/-- R349: ses0.CTX_CFG.TYPE. -/ def ses0_CTX_CFG_TYPE : Fld := { off := 0x0A0, lo := 0, w := 1, acc := .rw }
/-- R327: ses0.CTX_CFG.START_MODE. -/ def ses0_CTX_CFG_START_MODE : Fld := { off := 0x0A0, lo := 1, w := 1, acc := .rw }
/-- R335: ses0.CTX_CFG.GAP_DETECT. -/ def ses0_CTX_CFG_GAP_DETECT : Fld := { off := 0x0A0, lo := 2, w := 1, acc := .rw, rst := .val 1 }
/-- R340: ses0.CTX_CFG.RING_EN. -/ def ses0_CTX_CFG_RING_EN : Fld := { off := 0x0A0, lo := 3, w := 1, acc := .rw }
/-- R349: ses0.CTX_CFG.EVQ. -/ def ses0_CTX_CFG_EVQ : Fld := { off := 0x0A0, lo := 4, w := 6, acc := .rw }
/-- R330: ses0.CTX_CFG.PORT_A. -/ def ses0_CTX_CFG_PORT_A : Fld := { off := 0x0A0, lo := 16, w := 10, acc := .rw }
/-- R330: ses0.CTX_CFG.PORT_B. -/ def ses0_CTX_CFG_PORT_B : Fld := { off := 0x0A0, lo := 32, w := 10, acc := .rw }
/-- R330: ses0.CTX_CFG.B_VALID. -/ def ses0_CTX_CFG_B_VALID : Fld := { off := 0x0A0, lo := 42, w := 1, acc := .rw }
/-- R337: ses0.CTX_CFG.GAP_TIMEOUT_US. -/ def ses0_CTX_CFG_GAP_TIMEOUT_US : Fld := { off := 0x0A0, lo := 48, w := 16, acc := .rw, rst := .val 0x2710 }
/-- R333: ses0.CTX_CFG2.LEG_TIMEOUT_US. -/ def ses0_CTX_CFG2_LEG_TIMEOUT_US : Fld := { off := 0x0A8, lo := 0, w := 16, acc := .rw, rst := .val 0x3E8 }
/-- R334: ses0.CTX_CFG2.JUMP_LIMIT. -/ def ses0_CTX_CFG2_JUMP_LIMIT : Fld := { off := 0x0A8, lo := 16, w := 16, acc := .rw, rst := .val 0x1000 }
/-- R340: ses0.CTX_CFG2.DEPTH_LOG2. -/ def ses0_CTX_CFG2_DEPTH_LOG2 : Fld := { off := 0x0A8, lo := 32, w := 5, acc := .rw, rst := .val 0x10 }
/-- R340: ses0.CTX_CFG2.SLOT_LOG2. -/ def ses0_CTX_CFG2_SLOT_LOG2 : Fld := { off := 0x0A8, lo := 40, w := 4, acc := .rw, rst := .val 0xB }
/-- R340: ses0.RING_BASE. -/ def ses0_RING_BASE : Fld := { off := 0x0B0, lo := 8, w := 56, acc := .rw }
/-- R327: ses0.SEQ_SET. -/ def ses0_SEQ_SET : Fld := { off := 0x0B8, lo := 0, w := 64, acc := .rw }
/-- R327: ses0.CTX_STATUS.STATE. -/ def ses0_CTX_STATUS_STATE : Fld := { off := 0x0C0, lo := 0, w := 2 }
/-- R332: ses0.CTX_STATUS.ACTIVE_LEG. -/ def ses0_CTX_STATUS_ACTIVE_LEG : Fld := { off := 0x0C0, lo := 2, w := 1 }
/-- R333: ses0.CTX_STATUS.LEG_A_UP. -/ def ses0_CTX_STATUS_LEG_A_UP : Fld := { off := 0x0C0, lo := 3, w := 1 }
/-- R333: ses0.CTX_STATUS.LEG_B_UP. -/ def ses0_CTX_STATUS_LEG_B_UP : Fld := { off := 0x0C0, lo := 4, w := 1 }
/-- R336: ses0.CTX_STATUS.GAPS_OPEN. -/ def ses0_CTX_STATUS_GAPS_OPEN : Fld := { off := 0x0C0, lo := 5, w := 3 }
/-- R328: ses0.CTX_STATUS.CMD_BUSY. -/ def ses0_CTX_STATUS_CMD_BUSY : Fld := { off := 0x0C0, lo := 8, w := 1 }
/-- R328: ses0.CTX_STATUS.CMD_REFUSED. -/ def ses0_CTX_STATUS_CMD_REFUSED : Fld := { off := 0x0C0, lo := 9, w := 1, acc := .w1c }
/-- R331: ses0.EXPECTED. -/ def ses0_EXPECTED : Fld := { off := 0x0C8, lo := 0, w := 64 }
/-- R349: ses0.LAST_A. -/ def ses0_LAST_A : Fld := { off := 0x0D0, lo := 0, w := 64 }
/-- R349: ses0.LAST_B. -/ def ses0_LAST_B : Fld := { off := 0x0D8, lo := 0, w := 64 }
/-- R336: ses0.GAP_FIRST. -/ def ses0_GAP_FIRST : Fld := { off := 0x100, lo := 0, w := 64, n := 4, stride := 32 }
/-- R336: ses0.GAP_LAST. -/ def ses0_GAP_LAST : Fld := { off := 0x108, lo := 0, w := 64, n := 4, stride := 32 }
/-- R336: ses0.GAP_INFO.MISSING. -/ def ses0_GAP_INFO_MISSING : Fld := { off := 0x110, lo := 0, w := 17, n := 4, stride := 32 }
/-- R336: ses0.GAP_INFO.VALID. -/ def ses0_GAP_INFO_VALID : Fld := { off := 0x110, lo := 17, w := 1, n := 4, stride := 32 }
/-- R336: ses0.GAP_OPENED. -/ def ses0_GAP_OPENED : Fld := { off := 0x118, lo := 0, w := 64, n := 4, stride := 32 }
/-- R349: ses0.REQ_SEL. -/ def ses0_REQ_SEL : Fld := { off := 0x180, lo := 0, w := 12, acc := .rw }
/-- R345: ses0.REQ_CFG.REFILL. -/ def ses0_REQ_CFG_REFILL : Fld := { off := 0x188, lo := 0, w := 16, acc := .rw, rst := .val 0x40 }
/-- R345: ses0.REQ_CFG.BURST. -/ def ses0_REQ_CFG_BURST : Fld := { off := 0x188, lo := 16, w := 16, acc := .rw, rst := .val 0x100 }
/-- R345: ses0.REQ_CFG.ENABLE. -/ def ses0_REQ_CFG_ENABLE : Fld := { off := 0x188, lo := 32, w := 1, acc := .rw }
/-- R345: ses0.REQ_STATUS.TOKENS. -/ def ses0_REQ_STATUS_TOKENS : Fld := { off := 0x190, lo := 0, w := 16 }
/-- R345: ses0.REQ_STATUS.REFUSED. -/ def ses0_REQ_STATUS_REFUSED : Fld := { off := 0x190, lo := 32, w := 16, acc := .w1cAny }

-- pages 0x0241-0x0280: 10_sessions.md
/-- R347: sesq.EQ_BASE. -/ def sesq_EQ_BASE : Fld := { off := 0x080, lo := 5, w := 59, acc := .rw }
/-- R347: sesq.EQ_CFG.ENABLE. -/ def sesq_EQ_CFG_ENABLE : Fld := { off := 0x088, lo := 0, w := 1, acc := .rw }
/-- R347: sesq.EQ_CFG.LOG2_SIZE. -/ def sesq_EQ_CFG_LOG2_SIZE : Fld := { off := 0x088, lo := 8, w := 4, acc := .rw, rst := .val 8 }
/-- R347: sesq.EQ_TAIL. -/ def sesq_EQ_TAIL : Fld := { off := 0x090, lo := 0, w := 12, a64 := true }
/-- R347: sesq.EQ_HEAD. -/ def sesq_EQ_HEAD : Fld := { off := 0x098, lo := 0, w := 12, acc := .rw, a64 := true }
/-- R347: sesq.EQ_STATUS.LOST. -/ def sesq_EQ_STATUS_LOST : Fld := { off := 0x0A0, lo := 0, w := 32, acc := .w1cAny }

-- page 0x0070: 11_evidence_ledger.md
/-- R375: ldg0.LDG_CFG.ENABLE. -/ def ldg0_LDG_CFG_ENABLE : Fld := { off := 0x080, lo := 0, w := 1, acc := .rw, sticky := true }
/-- R380: ldg0.LDG_CFG.EXPORT_ENABLE. -/ def ldg0_LDG_CFG_EXPORT_ENABLE : Fld := { off := 0x080, lo := 1, w := 1, acc := .rw, sticky := true }
/-- R375: ldg0.LDG_STATUS.RUNNING. -/ def ldg0_LDG_STATUS_RUNNING : Fld := { off := 0x088, lo := 0, w := 1 }
/-- R376: ldg0.LDG_STATUS.SEALED. -/ def ldg0_LDG_STATUS_SEALED : Fld := { off := 0x088, lo := 1, w := 1, sticky := true }
/-- R370: ldg0.LDG_STATUS.SIGN_BUSY. -/ def ldg0_LDG_STATUS_SIGN_BUSY : Fld := { off := 0x088, lo := 2, w := 1 }
/-- R378: ldg0.LDG_STATUS.HASH_CORES. -/ def ldg0_LDG_STATUS_HASH_CORES : Fld := { off := 0x088, lo := 8, w := 8, rst := .val 0x80 }
/-- R375: ldg0.RUN. -/ def ldg0_RUN : Fld := { off := 0x090, lo := 0, w := 32, sticky := true }
/-- R383: ldg0.LAST_ANCHOR.NS. -/ def ldg0_LAST_ANCHOR_NS : Fld := { off := 0x098, lo := 0, w := 64, a64 := true }
/-- R383: ldg0.LAST_ANCHOR.FRAC. -/ def ldg0_LAST_ANCHOR_FRAC : Fld := { off := 0x0A0, lo := 0, w := 16 }
/-- R383: ldg0.LAST_ANCHOR.TQ. -/ def ldg0_LAST_ANCHOR_TQ : Fld := { off := 0x0A0, lo := 16, w := 4 }
/-- R370: ldg0.ANCHOR_SEQ. -/ def ldg0_ANCHOR_SEQ : Fld := { off := 0x0A8, lo := 0, w := 64, sticky := true, a64 := true }
/-- R383: ldg0.AR_BASE. -/ def ldg0_AR_BASE : Fld := { off := 0x0B0, lo := 12, w := 52, acc := .rw, sticky := true }
/-- R383: ldg0.AR_LOG2. -/ def ldg0_AR_LOG2 : Fld := { off := 0x0B8, lo := 0, w := 5, acc := .rw, rst := .val 0x10, sticky := true }
/-- R383: ldg0.KEY_ID_LO. -/ def ldg0_KEY_ID_LO : Fld := { off := 0x0C0, lo := 0, w := 64 }
/-- R383: ldg0.KEY_ID_HI. -/ def ldg0_KEY_ID_HI : Fld := { off := 0x0C8, lo := 0, w := 64 }
/-- R374: ldg0.JOURNAL_STATUS.PAIR. -/ def ldg0_JOURNAL_STATUS_PAIR : Fld := { off := 0x0D0, lo := 0, w := 6 }
/-- R374: ldg0.JOURNAL_STATUS.SLOT. -/ def ldg0_JOURNAL_STATUS_SLOT : Fld := { off := 0x0D0, lo := 6, w := 1 }
/-- R374: ldg0.JOURNAL_STATUS.WRITE_ERR. -/ def ldg0_JOURNAL_STATUS_WRITE_ERR : Fld := { off := 0x0D0, lo := 8, w := 1, acc := .w1c }
/-- R374: ldg0.JOURNAL_STATUS.WRITES. -/ def ldg0_JOURNAL_STATUS_WRITES : Fld := { off := 0x0D0, lo := 16, w := 48 }
/-- R371: ldg0.MISSED. -/ def ldg0_MISSED : Fld := { off := 0x0D8, lo := 0, w := 32 }
/-- R383: ldg0.SIGN_LATENCY. -/ def ldg0_SIGN_LATENCY : Fld := { off := 0x0E0, lo := 0, w := 32 }

-- page 0x0071: 11_evidence_ledger.md
/-- R354: ldg1.SEL.CAP_CLASS. -/ def ldg1_SEL_CAP_CLASS : Fld := { off := 0x080, lo := 0, w := 8, acc := .rw }
/-- R354: ldg1.SEL.FULL_CLASS. -/ def ldg1_SEL_FULL_CLASS : Fld := { off := 0x080, lo := 8, w := 8, acc := .rw }
/-- R358: ldg1.SEL_CMD.COMMIT. -/ def ldg1_SEL_CMD_COMMIT : Fld := { off := 0x088, lo := 0, w := 1, acc := .wo }
/-- R358: ldg1.SEL_STATUS.PENDING. -/ def ldg1_SEL_STATUS_PENDING : Fld := { off := 0x090, lo := 0, w := 1 }
/-- R358: ldg1.SEL_EFFECT.NS. -/ def ldg1_SEL_EFFECT_NS : Fld := { off := 0x098, lo := 0, w := 64, a64 := true }
/-- R358: ldg1.SEL_EFFECT.FRAC. -/ def ldg1_SEL_EFFECT_FRAC : Fld := { off := 0x0A0, lo := 0, w := 16 }
/-- R354: ldg1.CAP_PORT. -/ def ldg1_CAP_PORT : Fld := { off := 0x100, lo := 0, w := 64, acc := .rw, n := 16, stride := 8 }
/-- R354: ldg1.FULL_PORT. -/ def ldg1_FULL_PORT : Fld := { off := 0x180, lo := 0, w := 64, acc := .rw, n := 16, stride := 8 }

-- page 0x0072: 11_evidence_ledger.md
/-- R380: ldg2.EXP_CFG.ETHERTYPE. -/ def ldg2_EXP_CFG_ETHERTYPE : Fld := { off := 0x080, lo := 0, w := 16, acc := .rw, rst := .val 0x88B6 }
/-- R380: ldg2.EXP_CFG.CHUNK. -/ def ldg2_EXP_CFG_CHUNK : Fld := { off := 0x080, lo := 16, w := 14, acc := .rw, rst := .val 0x2000 }
/-- R380: ldg2.EXP_DA. -/ def ldg2_EXP_DA : Fld := { off := 0x088, lo := 0, w := 48, acc := .rw }
/-- R380: ldg2.EXP_SA. -/ def ldg2_EXP_SA : Fld := { off := 0x090, lo := 0, w := 48, acc := .rw }
/-- R380: ldg2.EXP_PORT.PORT. -/ def ldg2_EXP_PORT_PORT : Fld := { off := 0x100, lo := 0, w := 10, acc := .rw, n := 16, stride := 8 }
/-- R380: ldg2.EXP_PORT.VALID. -/ def ldg2_EXP_PORT_VALID : Fld := { off := 0x100, lo := 15, w := 1, acc := .rw, n := 16, stride := 8 }
/-- R380: ldg2.EXP_PORT.STREAMS. -/ def ldg2_EXP_PORT_STREAMS : Fld := { off := 0x100, lo := 32, w := 32, acc := .rw, n := 16, stride := 8 }
/-- R380: ldg2.EXP_STATUS.SKIPPED. -/ def ldg2_EXP_STATUS_SKIPPED : Fld := { off := 0x180, lo := 0, w := 32, acc := .w1cAny, n := 16, stride := 8 }

-- pages 0x0090-0x00AF: 11_evidence_ledger.md
/-- R353: ldgs.SCFG.ENABLE. -/ def ldgs_SCFG_ENABLE : Fld := { off := 0x080, lo := 0, w := 1, acc := .rw, rst := .val 1, sticky := true }
/-- R369: ldgs.SCFG.OVERWRITE. -/ def ldgs_SCFG_OVERWRITE : Fld := { off := 0x080, lo := 1, w := 1, acc := .rw, sticky := true }
/-- R385: ldgs.SCFG.BLOCK_IRQ. -/ def ldgs_SCFG_BLOCK_IRQ : Fld := { off := 0x080, lo := 2, w := 1, acc := .rw }
/-- R383: ldgs.CR_BASE. -/ def ldgs_CR_BASE : Fld := { off := 0x088, lo := 12, w := 52, acc := .rw, sticky := true }
/-- R383: ldgs.CR_LOG2. -/ def ldgs_CR_LOG2 : Fld := { off := 0x090, lo := 0, w := 6, acc := .rw, rst := .val 0x1E, sticky := true }
/-- R369: ldgs.CR_TAIL. -/ def ldgs_CR_TAIL : Fld := { off := 0x098, lo := 0, w := 40, a64 := true }
/-- R369: ldgs.CR_HEAD. -/ def ldgs_CR_HEAD : Fld := { off := 0x0A0, lo := 0, w := 40, acc := .rw, a64 := true }
/-- R383: ldgs.STREAM_STATUS.ACTIVE. -/ def ldgs_STREAM_STATUS_ACTIVE : Fld := { off := 0x0A8, lo := 0, w := 1 }
/-- R366: ldgs.STREAM_STATUS.LOSING. -/ def ldgs_STREAM_STATUS_LOSING : Fld := { off := 0x0A8, lo := 1, w := 1 }
/-- R383: ldgs.BLOCK_SEQ. -/ def ldgs_BLOCK_SEQ : Fld := { off := 0x0B0, lo := 0, w := 64, sticky := true }
/-- R383: ldgs.RECORDS. -/ def ldgs_RECORDS : Fld := { off := 0x0B8, lo := 0, w := 64, sticky := true }
/-- R383: ldgs.LOST. -/ def ldgs_LOST : Fld := { off := 0x0C0, lo := 0, w := 64, sticky := true }
/-- R383: ldgs.GAPS. -/ def ldgs_GAPS : Fld := { off := 0x0C8, lo := 0, w := 32, sticky := true }
/-- R383: ldgs.HEAD_LINK. -/ def ldgs_HEAD_LINK : Fld := { off := 0x0D0, lo := 0, w := 64, n := 6, stride := 8 }

-- page 0x00B0: 12_telemetry.md
/-- R395: vsr0.SNAP_CFG.PERIOD_LOG2. -/ def vsr0_SNAP_CFG_PERIOD_LOG2 : Fld := { off := 0x080, lo := 0, w := 6, acc := .rw }
/-- R395: vsr0.SNAP_AT.NS. -/ def vsr0_SNAP_AT_NS : Fld := { off := 0x088, lo := 0, w := 64, acc := .rw, a64 := true }
/-- R395: vsr0.SNAP_AT.FRAC. -/ def vsr0_SNAP_AT_FRAC : Fld := { off := 0x090, lo := 0, w := 16, acc := .rw }
/-- R397: vsr0.SNAP_BASE. -/ def vsr0_SNAP_BASE : Fld := { off := 0x098, lo := 12, w := 52, acc := .rw }
/-- R395: vsr0.SNAP_STATUS.PENDING. -/ def vsr0_SNAP_STATUS_PENDING : Fld := { off := 0x0A0, lo := 0, w := 1 }
/-- R395: vsr0.SNAP_STATUS.WRITING. -/ def vsr0_SNAP_STATUS_WRITING : Fld := { off := 0x0A0, lo := 1, w := 1 }
/-- R395: vsr0.SNAP_STATUS.LATE. -/ def vsr0_SNAP_STATUS_LATE : Fld := { off := 0x0A0, lo := 2, w := 1, acc := .w1c }
/-- R397: vsr0.SNAP_STATUS.SLOT. -/ def vsr0_SNAP_STATUS_SLOT : Fld := { off := 0x0A0, lo := 3, w := 1 }
/-- R397: vsr0.SNAP_STATUS.SNAP_SEQ. -/ def vsr0_SNAP_STATUS_SNAP_SEQ : Fld := { off := 0x0A0, lo := 32, w := 32 }
/-- R397: vsr0.SNAP_LAST.NS. -/ def vsr0_SNAP_LAST_NS : Fld := { off := 0x0A8, lo := 0, w := 64, a64 := true }
/-- R397: vsr0.SNAP_LAST.FRAC. -/ def vsr0_SNAP_LAST_FRAC : Fld := { off := 0x0B0, lo := 0, w := 16 }
/-- R397: vsr0.SNAP_LAST.TQ. -/ def vsr0_SNAP_LAST_TQ : Fld := { off := 0x0B0, lo := 16, w := 4 }
/-- R395: vsr0.SNAP_CMD.CANCEL. -/ def vsr0_SNAP_CMD_CANCEL : Fld := { off := 0x0B8, lo := 0, w := 1, acc := .wo }
/-- R404: vsr0.DAMAGED.PAGE. -/ def vsr0_DAMAGED_PAGE : Fld := { off := 0x0C0, lo := 0, w := 16 }
/-- R404: vsr0.DAMAGED.OFFSET. -/ def vsr0_DAMAGED_OFFSET : Fld := { off := 0x0C0, lo := 16, w := 12 }
/-- R404: vsr0.DAMAGED.COUNT. -/ def vsr0_DAMAGED_COUNT : Fld := { off := 0x0C0, lo := 32, w := 32, sticky := true }

-- page 0x00B2: 12_telemetry.md
/-- R402: vsr2.BW_PROFILE.WINDOW. -/ def vsr2_BW_PROFILE_WINDOW : Fld := { off := 0x080, lo := 0, w := 3, acc := .rw, rst := .val 7, n := 4, stride := 8 }
/-- R402: vsr2.BW_PORT_SEL.PROFILE. -/ def vsr2_BW_PORT_SEL_PROFILE : Fld := { off := 0x100, lo := 0, w := 2, acc := .rw, n := 32, stride := 8, m := 32, bst := 2 }

-- pages 0x00C0-0x00CF: 12_telemetry.md
/-- R393: vsre.EVSEL.EVENT. -/ def vsre_EVSEL_EVENT : Fld := { off := 0x800, lo := 0, w := 16, acc := .rw, n := 256, stride := 8 }
/-- R393: vsre.EVSEL.INSTANCE. -/ def vsre_EVSEL_INSTANCE : Fld := { off := 0x800, lo := 16, w := 13, acc := .rw, n := 256, stride := 8 }
/-- R393: vsre.EVSEL.ANY. -/ def vsre_EVSEL_ANY : Fld := { off := 0x800, lo := 31, w := 1, acc := .rw, n := 256, stride := 8 }
/-- R393: vsre.EVSEL.ENABLE. -/ def vsre_EVSEL_ENABLE : Fld := { off := 0x800, lo := 32, w := 1, acc := .rw, n := 256, stride := 8 }

-- pages 0x00E0-0x00FF: 12_telemetry.md
/-- R399: trc.TRACE_CFG.ENABLE. -/ def trc_TRACE_CFG_ENABLE : Fld := { off := 0x080, lo := 0, w := 1, acc := .rw }
/-- R399: trc.TRACE_CFG.SEED_DRBG. -/ def trc_TRACE_CFG_SEED_DRBG : Fld := { off := 0x080, lo := 1, w := 1, acc := .rw }
/-- R399: trc.TRACE_CFG.RATE_LOG2. -/ def trc_TRACE_CFG_RATE_LOG2 : Fld := { off := 0x080, lo := 8, w := 5, acc := .rw, rst := .val 0x14 }
/-- R399: trc.TRACE_SEED. -/ def trc_TRACE_SEED : Fld := { off := 0x088, lo := 0, w := 32, acc := .rw, rst := .val 1 }
/-- R401: trc.TR_BASE. -/ def trc_TR_BASE : Fld := { off := 0x090, lo := 8, w := 56, acc := .rw }
/-- R401: trc.TR_LOG2. -/ def trc_TR_LOG2 : Fld := { off := 0x098, lo := 0, w := 5, acc := .rw, rst := .val 0x14 }
/-- R401: trc.TR_TAIL. -/ def trc_TR_TAIL : Fld := { off := 0x0A0, lo := 0, w := 30, a64 := true }
/-- R401: trc.TR_HEAD. -/ def trc_TR_HEAD : Fld := { off := 0x0A8, lo := 0, w := 30, acc := .rw, a64 := true }
/-- R401: trc.TRACE_LOST. -/ def trc_TRACE_LOST : Fld := { off := 0x0B0, lo := 0, w := 32, acc := .w1cAny }

-- pages 0x1000-0x13FF: 12_telemetry.md
/-- R391: cntp.CTR. -/ def cntp_CTR : Fld := { off := 0x080, lo := 0, w := 64, n := 21, stride := 8, a64 := true }
/-- R403: cntp.BW_END. -/ def cntp_BW_END : Fld := { off := 0x400, lo := 0, w := 64, a64 := true }
/-- R403: cntp.BW_RX_LAST. -/ def cntp_BW_RX_LAST : Fld := { off := 0x408, lo := 0, w := 64, a64 := true }
/-- R403: cntp.BW_TX_LAST. -/ def cntp_BW_TX_LAST : Fld := { off := 0x410, lo := 0, w := 64, a64 := true }
/-- R403: cntp.BW_RX_PEAK. -/ def cntp_BW_RX_PEAK : Fld := { off := 0x418, lo := 0, w := 64, a64 := true }
/-- R403: cntp.BW_TX_PEAK. -/ def cntp_BW_TX_PEAK : Fld := { off := 0x420, lo := 0, w := 64, a64 := true }
/-- R402: cntp.BW_WINDOW. -/ def cntp_BW_WINDOW : Fld := { off := 0x428, lo := 0, w := 3, rst := .val 7, a64 := true }

-- pages 0x1400-0x17FF: 12_telemetry.md
/-- R391: cntq.CTR. -/ def cntq_CTR : Fld := { off := 0x080, lo := 0, w := 64, n := 160, stride := 8, a64 := true }

-- pages 0x1800-0x180F: 12_telemetry.md
/-- R393: cntg.CTR. -/ def cntg_CTR : Fld := { off := 0x800, lo := 0, w := 64, n := 256, stride := 8, a64 := true }

-- pages 0x1810-0x182F: 12_telemetry.md
/-- R391: cnti.CTR. -/ def cnti_CTR : Fld := { off := 0x080, lo := 0, w := 64, n := 13, stride := 8, a64 := true }
/-- R392: cnti.REASON. -/ def cnti_REASON : Fld := { off := 0x800, lo := 0, w := 64, n := 256, stride := 8, a64 := true }

-- pages 0x1830-0x184F: 12_telemetry.md
/-- R391: cnte.CTR. -/ def cnte_CTR : Fld := { off := 0x080, lo := 0, w := 64, n := 5, stride := 8, a64 := true }
/-- R392: cnte.REASON. -/ def cnte_REASON : Fld := { off := 0x800, lo := 0, w := 64, n := 256, stride := 8, a64 := true }

-- pages 0x1900-0x1AFF: 12_telemetry.md
/-- R391: cnts.CTR. -/ def cnts_CTR : Fld := { off := 0x080, lo := 0, w := 64, n := 256, stride := 8, a64 := true }

-- pages 0x1B00-0x1B3F: 12_telemetry.md
/-- R391: cntm.CTR. -/ def cntm_CTR : Fld := { off := 0x080, lo := 0, w := 64, n := 8, stride := 8, a64 := true }

-- pages 0x1B40-0x1C3F: 12_telemetry.md
/-- R391: cntr.CTR. -/ def cntr_CTR : Fld := { off := 0x080, lo := 0, w := 64, n := 8, stride := 8, a64 := true }

-- page 0x0030: 13_power_domains.md
/-- R428: mtn0.MTN_STATUS.AON_SOURCE. -/ def mtn0_MTN_STATUS_AON_SOURCE : Fld := { off := 0x080, lo := 0, w := 1 }
/-- R428: mtn0.MTN_STATUS.XTAL_LOST. -/ def mtn0_MTN_STATUS_XTAL_LOST : Fld := { off := 0x080, lo := 1, w := 1, acc := .w1c, sticky := true }
/-- R429: mtn0.MTN_STATUS.SAFE_SEQ. -/ def mtn0_MTN_STATUS_SAFE_SEQ : Fld := { off := 0x080, lo := 2, w := 1 }
/-- R413: mtn0.MTN_STATUS.BOOT_HOLDS. -/ def mtn0_MTN_STATUS_BOOT_HOLDS : Fld := { off := 0x080, lo := 3, w := 1, rst := .val 1 }

-- page 0x0031: 13_power_domains.md
/-- R429: mtn1.DOM_SEL.DOMAIN. -/ def mtn1_DOM_SEL_DOMAIN : Fld := { off := 0x080, lo := 0, w := 8, acc := .rw }
/-- R414: mtn1.DOM_CFG.DEEPEST. -/ def mtn1_DOM_CFG_DEEPEST : Fld := { off := 0x088, lo := 0, w := 3, acc := .rw, rst := .val 1 }
/-- R429: mtn1.DOM_CFG.IRQ. -/ def mtn1_DOM_CFG_IRQ : Fld := { off := 0x088, lo := 3, w := 1, acc := .rw }
/-- R415: mtn1.DOM_CFG.HOLDOFF_US. -/ def mtn1_DOM_CFG_HOLDOFF_US : Fld := { off := 0x088, lo := 16, w := 16, acc := .rw, rst := .val 0x64 }
/-- R429: mtn1.DOM_STATUS.CURRENT. -/ def mtn1_DOM_STATUS_CURRENT : Fld := { off := 0x090, lo := 0, w := 3 }
/-- R429: mtn1.DOM_STATUS.IN_TRANSITION. -/ def mtn1_DOM_STATUS_IN_TRANSITION : Fld := { off := 0x090, lo := 3, w := 1 }
/-- R414: mtn1.DOM_STATUS.TARGET. -/ def mtn1_DOM_STATUS_TARGET : Fld := { off := 0x090, lo := 4, w := 3 }
/-- R420: mtn1.DOM_STATUS.VSCALE_FALLBACK. -/ def mtn1_DOM_STATUS_VSCALE_FALLBACK : Fld := { off := 0x090, lo := 7, w := 1 }
/-- R413: mtn1.DOM_STATUS.HOLDERS. -/ def mtn1_DOM_STATUS_HOLDERS : Fld := { off := 0x090, lo := 8, w := 9, rst := .val 2 }
/-- R417: mtn1.DOM_STATUS.LAST_ANSWER. -/ def mtn1_DOM_STATUS_LAST_ANSWER : Fld := { off := 0x090, lo := 17, w := 3 }
/-- R418: mtn1.DOM_STATUS.REFUSE_REASON. -/ def mtn1_DOM_STATUS_REFUSE_REASON : Fld := { off := 0x090, lo := 20, w := 4 }
/-- R425: mtn1.DOM_STATUS.WAKE_FAIL. -/ def mtn1_DOM_STATUS_WAKE_FAIL : Fld := { off := 0x090, lo := 24, w := 1 }
/-- R425: mtn1.DOM_STATUS.FAIL_STAGE. -/ def mtn1_DOM_STATUS_FAIL_STAGE : Fld := { off := 0x090, lo := 25, w := 3 }
/-- R426: mtn1.DOM_STATUS.RETENTION_LOST. -/ def mtn1_DOM_STATUS_RETENTION_LOST : Fld := { off := 0x090, lo := 28, w := 1 }
/-- R426: mtn1.DOM_STATUS.LOST_BANKS. -/ def mtn1_DOM_STATUS_LOST_BANKS : Fld := { off := 0x090, lo := 32, w := 16 }
/-- R429: mtn1.DOM_COUNTS.ENTRIES. -/ def mtn1_DOM_COUNTS_ENTRIES : Fld := { off := 0x098, lo := 0, w := 16 }
/-- R429: mtn1.DOM_COUNTS.WAKES. -/ def mtn1_DOM_COUNTS_WAKES : Fld := { off := 0x098, lo := 16, w := 16 }
/-- R424: mtn1.DOM_COUNTS.REPLAYS. -/ def mtn1_DOM_COUNTS_REPLAYS : Fld := { off := 0x098, lo := 32, w := 16 }
/-- R422: mtn1.DOM_COUNTS.RETRIES. -/ def mtn1_DOM_COUNTS_RETRIES : Fld := { off := 0x098, lo := 48, w := 16 }
/-- R425: mtn1.DOM_CMD.RETRY_WAKE. -/ def mtn1_DOM_CMD_RETRY_WAKE : Fld := { off := 0x0A0, lo := 0, w := 1, acc := .wo }
/-- R429: mtn1.ASLEEP. -/ def mtn1_ASLEEP : Fld := { off := 0x100, lo := 0, w := 64, n := 4, stride := 8 }
/-- R429: mtn1.FAILED. -/ def mtn1_FAILED : Fld := { off := 0x120, lo := 0, w := 64, n := 4, stride := 8 }

-- page 0x0032: 13_power_domains.md
/-- R429: mtn2.AVS_CFG.VDD_LOW_MV. -/ def mtn2_AVS_CFG_VDD_LOW_MV : Fld := { off := 0x080, lo := 0, w := 10, acc := .rw, rst := .val 0x230 }
/-- R422: mtn2.AVS_CFG.STEP_MV. -/ def mtn2_AVS_CFG_STEP_MV : Fld := { off := 0x080, lo := 16, w := 8, acc := .rw, rst := .val 0xA }
/-- R429: mtn2.AVS_STATUS.BUSY. -/ def mtn2_AVS_STATUS_BUSY : Fld := { off := 0x088, lo := 0, w := 1 }
/-- R429: mtn2.AVS_STATUS.VDD_LOW_UP. -/ def mtn2_AVS_STATUS_VDD_LOW_UP : Fld := { off := 0x088, lo := 1, w := 1 }
/-- R429: mtn2.AVS_STATUS.NO_ACK. -/ def mtn2_AVS_STATUS_NO_ACK : Fld := { off := 0x088, lo := 16, w := 16 }
/-- R420: mtn2.AVS_STATUS.FALLBACKS. -/ def mtn2_AVS_STATUS_FALLBACKS : Fld := { off := 0x088, lo := 32, w := 16 }

-- page 0x0040: 14_power_capping.md
/-- R435: pwc0.CAP_CFG.ENABLE. -/ def pwc0_CAP_CFG_ENABLE : Fld := { off := 0x080, lo := 0, w := 1, acc := .rw, rst := .val 1 }
/-- R436: pwc0.CAP_CFG.GAIN. -/ def pwc0_CAP_CFG_GAIN : Fld := { off := 0x080, lo := 8, w := 8, acc := .rw, rst := .val 0x10 }
/-- R441: pwc0.CAP_CFG.CAP_W. -/ def pwc0_CAP_CFG_CAP_W : Fld := { off := 0x080, lo := 16, w := 11, acc := .rw, rst := .val 0x44C }
/-- R441: pwc0.CAP_STATUS.CAP_IN_FORCE. -/ def pwc0_CAP_STATUS_CAP_IN_FORCE : Fld := { off := 0x088, lo := 0, w := 11, rst := .val 0x44C }
/-- R441: pwc0.CAP_STATUS.CAP_PENDING. -/ def pwc0_CAP_STATUS_CAP_PENDING : Fld := { off := 0x088, lo := 11, w := 1 }
/-- R440: pwc0.CAP_STATUS.CAP_UNMET. -/ def pwc0_CAP_STATUS_CAP_UNMET : Fld := { off := 0x088, lo := 12, w := 1 }
/-- R433: pwc0.CAP_STATUS.UNCALIBRATED. -/ def pwc0_CAP_STATUS_UNCALIBRATED : Fld := { off := 0x088, lo := 13, w := 1, rst := .val 1 }
/-- R440: pwc0.CAP_STATUS.AT_FLOOR. -/ def pwc0_CAP_STATUS_AT_FLOOR : Fld := { off := 0x088, lo := 14, w := 1 }
/-- R436: pwc0.CAP_STATUS.RATIO. -/ def pwc0_CAP_STATUS_RATIO : Fld := { off := 0x088, lo := 16, w := 8 }
/-- R438: pwc0.CAP_STATUS.LEVEL. -/ def pwc0_CAP_STATUS_LEVEL : Fld := { off := 0x088, lo := 24, w := 3 }
/-- R450: pwc0.CAP_STATUS.LIMIT. -/ def pwc0_CAP_STATUS_LIMIT : Fld := { off := 0x088, lo := 28, w := 3 }
/-- R432: pwc0.CAP_STATUS.P_EST_W. -/ def pwc0_CAP_STATUS_P_EST_W : Fld := { off := 0x088, lo := 32, w := 11 }
/-- R444: pwc0.LIMITS.CAP_T. -/ def pwc0_LIMITS_CAP_T : Fld := { off := 0x090, lo := 0, w := 11, rst := .val 0x44C }
/-- R435: pwc0.LIMITS.CAP_I. -/ def pwc0_LIMITS_CAP_I : Fld := { off := 0x090, lo := 16, w := 11, rst := .val 686 }
/-- R432: pwc0.LIMITS.ICORE_A. -/ def pwc0_LIMITS_ICORE_A : Fld := { off := 0x090, lo := 32, w := 10 }
/-- R439: pwc0.VOLT_CFG.VDD_NOM_MV. -/ def pwc0_VOLT_CFG_VDD_NOM_MV : Fld := { off := 0x098, lo := 0, w := 10, acc := .rw, rst := .val 780 }
/-- R439: pwc0.VOLT_CFG.VDD_FLOOR_MV. -/ def pwc0_VOLT_CFG_VDD_FLOOR_MV : Fld := { off := 0x098, lo := 16, w := 10, rst := .val 660 }
/-- R439: pwc0.VOLT_CFG.VSTEP_R. -/ def pwc0_VOLT_CFG_VSTEP_R : Fld := { off := 0x098, lo := 32, w := 8, acc := .rw, rst := .val 0x20 }
/-- R439: pwc0.VOLT_STATUS.SETPOINT_MV. -/ def pwc0_VOLT_STATUS_SETPOINT_MV : Fld := { off := 0x0A0, lo := 0, w := 10, rst := .val 780 }
/-- R439: pwc0.VOLT_STATUS.STEP_BUSY. -/ def pwc0_VOLT_STATUS_STEP_BUSY : Fld := { off := 0x0A0, lo := 10, w := 1 }
/-- R439: pwc0.VOLT_STATUS.STEPS. -/ def pwc0_VOLT_STATUS_STEPS : Fld := { off := 0x0A0, lo := 32, w := 16 }
/-- R439: pwc0.VOLT_STATUS.NO_ACK. -/ def pwc0_VOLT_STATUS_NO_ACK : Fld := { off := 0x0A0, lo := 48, w := 16 }
/-- R435: pwc0.ICC_CFG.ICC_LIMIT_A. -/ def pwc0_ICC_CFG_ICC_LIMIT_A : Fld := { off := 0x0A8, lo := 0, w := 10, acc := .rw, rst := .val 0x370 }
/-- R433: pwc0.CAL_CMD.START. -/ def pwc0_CAL_CMD_START : Fld := { off := 0x0B0, lo := 0, w := 1, acc := .wo }
/-- R433: pwc0.CAL_CMD.USE_FUSED. -/ def pwc0_CAL_CMD_USE_FUSED : Fld := { off := 0x0B0, lo := 1, w := 1, acc := .wo }
/-- R433: pwc0.CAL_STATUS.STATE. -/ def pwc0_CAL_STATUS_STATE : Fld := { off := 0x0B8, lo := 0, w := 2 }
/-- R433: pwc0.CAL_STATUS.RESIDUAL. -/ def pwc0_CAL_STATUS_RESIDUAL : Fld := { off := 0x0B8, lo := 8, w := 8 }
/-- R448: pwc0.PACE_CFG.PACE_BASE_NS. -/ def pwc0_PACE_CFG_PACE_BASE_NS : Fld := { off := 0x0C0, lo := 0, w := 16, acc := .rw, rst := .val 0x3E8 }
/-- R448: pwc0.PACE_STATUS.PACE_NOW. -/ def pwc0_PACE_STATUS_PACE_NOW : Fld := { off := 0x0C8, lo := 0, w := 16 }
/-- R448: pwc0.PACE_STATUS.ADVERTISED. -/ def pwc0_PACE_STATUS_ADVERTISED : Fld := { off := 0x0C8, lo := 16, w := 16 }
/-- R448: pwc0.PACE_STATUS.P_GROUP. -/ def pwc0_PACE_STATUS_P_GROUP : Fld := { off := 0x0C8, lo := 32, w := 16 }

-- page 0x0041: 14_power_capping.md
/-- R432: pwc1.ENERGY. -/ def pwc1_ENERGY : Fld := { off := 0x080, lo := 0, w := 64, n := 44, stride := 8, a64 := true }
/-- R434: pwc1.Q_SEL.PORT. -/ def pwc1_Q_SEL_PORT : Fld := { off := 0x200, lo := 0, w := 10, acc := .rw }
/-- R434: pwc1.Q_SEL.QUEUE. -/ def pwc1_Q_SEL_QUEUE : Fld := { off := 0x200, lo := 16, w := 4, acc := .rw }
/-- R434: pwc1.Q_ENERGY. -/ def pwc1_Q_ENERGY : Fld := { off := 0x208, lo := 0, w := 64, a64 := true }

-- page 0x0042: 14_power_capping.md
/-- R444: pwc2.THERM_CFG.T_THROTTLE. -/ def pwc2_THERM_CFG_T_THROTTLE : Fld := { off := 0x080, lo := 0, w := 8, acc := .rw, rst := .val 0x64 }
/-- R445: pwc2.THERM_CFG.T_CRIT. -/ def pwc2_THERM_CFG_T_CRIT : Fld := { off := 0x080, lo := 8, w := 8, acc := .rw, rst := .val 0x73 }
/-- R444: pwc2.THERM_CFG.THERM_STEP_W. -/ def pwc2_THERM_CFG_THERM_STEP_W : Fld := { off := 0x080, lo := 16, w := 8, acc := .rw, rst := .val 5 }
/-- R444: pwc2.THERM_STATUS.HOTTEST. -/ def pwc2_THERM_STATUS_HOTTEST : Fld := { off := 0x088, lo := 0, w := 8 }
/-- R444: pwc2.THERM_STATUS.HOTTEST_SENSOR. -/ def pwc2_THERM_STATUS_HOTTEST_SENSOR : Fld := { off := 0x088, lo := 8, w := 6 }
/-- R444: pwc2.THERM_STATUS.SENSOR_FAULT. -/ def pwc2_THERM_STATUS_SENSOR_FAULT : Fld := { off := 0x088, lo := 16, w := 48 }
/-- R443: pwc2.DROOP_CFG.THRESH_MV. -/ def pwc2_DROOP_CFG_THRESH_MV : Fld := { off := 0x090, lo := 0, w := 8, acc := .rw, rst := .val 0x28 }
/-- R443: pwc2.DROOP_COUNTS.STRETCHES. -/ def pwc2_DROOP_COUNTS_STRETCHES : Fld := { off := 0x098, lo := 0, w := 32 }
/-- R443: pwc2.DROOP_COUNTS.OVERRUNS. -/ def pwc2_DROOP_COUNTS_OVERRUNS : Fld := { off := 0x098, lo := 32, w := 32 }
/-- R443: pwc2.DROOP_SEEN. -/ def pwc2_DROOP_SEEN : Fld := { off := 0x0A0, lo := 0, w := 64, acc := .w1c }
/-- R444: pwc2.TEMP. -/ def pwc2_TEMP : Fld := { off := 0x100, lo := 0, w := 8, n := 6, stride := 8, m := 8, bst := 8 }

-- page 0x0043: 14_power_capping.md
/-- R447: pwc3.THROTTLE_NS. -/ def pwc3_THROTTLE_NS : Fld := { off := 0x080, lo := 0, w := 64, n := 5, stride := 8, a64 := true }
/-- R447: pwc3.THROTTLE_ENTRIES. -/ def pwc3_THROTTLE_ENTRIES : Fld := { off := 0x0C0, lo := 0, w := 32, n := 5, stride := 8 }

-- page 0x0020: 15_faults_recovery.md
/-- R477: gnt0.SUMMARY.WORDS. -/ def gnt0_SUMMARY_WORDS : Fld := { off := 0x080, lo := 0, w := 16 }
/-- R456: gnt0.SUMMARY.HIGHEST. -/ def gnt0_SUMMARY_HIGHEST : Fld := { off := 0x080, lo := 16, w := 3 }
/-- R477: gnt0.SUMMARY.SAFE. -/ def gnt0_SUMMARY_SAFE : Fld := { off := 0x080, lo := 19, w := 1 }
/-- R470: gnt0.SUMMARY.FATAL. -/ def gnt0_SUMMARY_FATAL : Fld := { off := 0x080, lo := 20, w := 1, sticky := true }
/-- R477: gnt0.SUMMARY.INJ_ANY. -/ def gnt0_SUMMARY_INJ_ANY : Fld := { off := 0x080, lo := 21, w := 1 }
/-- R461: gnt0.SUMMARY.ESCALATION. -/ def gnt0_SUMMARY_ESCALATION : Fld := { off := 0x080, lo := 22, w := 1 }
/-- R457: gnt0.SUMMARY.SELF_PARITY. -/ def gnt0_SUMMARY_SELF_PARITY : Fld := { off := 0x080, lo := 23, w := 1, sticky := true }
/-- R477: gnt0.SUMMARY.LATCHES. -/ def gnt0_SUMMARY_LATCHES : Fld := { off := 0x080, lo := 32, w := 16 }
/-- R477: gnt0.LINE_SEL.LINE. -/ def gnt0_LINE_SEL_LINE : Fld := { off := 0x088, lo := 0, w := 10, acc := .rw }
/-- R477: gnt0.LINE_INFO.PAGE. -/ def gnt0_LINE_INFO_PAGE : Fld := { off := 0x090, lo := 0, w := 16 }
/-- R477: gnt0.LINE_INFO.CLASS. -/ def gnt0_LINE_INFO_CLASS : Fld := { off := 0x090, lo := 16, w := 3 }
/-- R477: gnt0.LINE_INFO.CAUSE. -/ def gnt0_LINE_INFO_CAUSE : Fld := { off := 0x090, lo := 19, w := 4 }
/-- R459: gnt0.LINE_INFO.QUENCHED_LAST. -/ def gnt0_LINE_INFO_QUENCHED_LAST : Fld := { off := 0x090, lo := 23, w := 1 }
/-- R461: gnt0.LINE_INFO.ESCALATED. -/ def gnt0_LINE_INFO_ESCALATED : Fld := { off := 0x090, lo := 24, w := 1 }
/-- R461: gnt0.LINE_INFO.RESETS. -/ def gnt0_LINE_INFO_RESETS : Fld := { off := 0x090, lo := 25, w := 7 }
/-- R477: gnt0.LINE_INFO.LATCH_COUNT. -/ def gnt0_LINE_INFO_LATCH_COUNT : Fld := { off := 0x090, lo := 32, w := 16 }
/-- R458: gnt0.LINE_INFO.INJ. -/ def gnt0_LINE_INFO_INJ : Fld := { off := 0x090, lo := 48, w := 1 }
/-- R477: gnt0.LINE_LAST.NS. -/ def gnt0_LINE_LAST_NS : Fld := { off := 0x098, lo := 0, w := 64, a64 := true }
/-- R477: gnt0.LINE_LAST.FRAC. -/ def gnt0_LINE_LAST_FRAC : Fld := { off := 0x0A0, lo := 0, w := 16 }
/-- R477: gnt0.LINE_LAST.TQ. -/ def gnt0_LINE_LAST_TQ : Fld := { off := 0x0A0, lo := 16, w := 4 }
/-- R458: gnt0.INJ_CFG.REACT. -/ def gnt0_INJ_CFG_REACT : Fld := { off := 0x0A8, lo := 0, w := 1, acc := .rw }
/-- R458: gnt0.INJ_CFG.ALLOW_SAFE. -/ def gnt0_INJ_CFG_ALLOW_SAFE : Fld := { off := 0x0A8, lo := 1, w := 1, acc := .rw }
/-- R454: gnt0.LINE_STATUS. -/ def gnt0_LINE_STATUS : Fld := { off := 0x100, lo := 0, w := 64, acc := .w1c, n := 16, stride := 8 }
/-- R458: gnt0.INJ_STATUS. -/ def gnt0_INJ_STATUS : Fld := { off := 0x180, lo := 0, w := 64, acc := .w1c, n := 16, stride := 8 }

-- page 0x0021: 15_faults_recovery.md
/-- R472: gnt1.SCRUB_CFG.ENABLE. -/ def gnt1_SCRUB_CFG_ENABLE : Fld := { off := 0x080, lo := 0, w := 1, acc := .rw, rst := .val 1 }
/-- R472: gnt1.SCRUB_CFG.PERIOD_S. -/ def gnt1_SCRUB_CFG_PERIOD_S : Fld := { off := 0x080, lo := 16, w := 16, acc := .rw, rst := .val 0xE10 }
/-- R473: gnt1.SCRUB_CFG.REPAIR_THRESH. -/ def gnt1_SCRUB_CFG_REPAIR_THRESH : Fld := { off := 0x080, lo := 32, w := 8, acc := .rw, rst := .val 2 }
/-- R472: gnt1.SCRUB_STATUS.PASSES. -/ def gnt1_SCRUB_STATUS_PASSES : Fld := { off := 0x088, lo := 0, w := 32 }
/-- R473: gnt1.SCRUB_STATUS.REPAIRS. -/ def gnt1_SCRUB_STATUS_REPAIRS : Fld := { off := 0x088, lo := 32, w := 14, sticky := true }
/-- R473: gnt1.SCRUB_STATUS.EXHAUSTED. -/ def gnt1_SCRUB_STATUS_EXHAUSTED : Fld := { off := 0x088, lo := 48, w := 16, sticky := true }
/-- R474: gnt1.SEAM_CFG.WIRE_THRESH. -/ def gnt1_SEAM_CFG_WIRE_THRESH : Fld := { off := 0x090, lo := 0, w := 16, acc := .rw, rst := .val 0x10 }
/-- R474: gnt1.IOD_SEAM_STATUS.SPARES_UP. -/ def gnt1_IOD_SEAM_STATUS_SPARES_UP : Fld := { off := 0x098, lo := 0, w := 4 }
/-- R474: gnt1.IOD_SEAM_STATUS.SPARES_DOWN. -/ def gnt1_IOD_SEAM_STATUS_SPARES_DOWN : Fld := { off := 0x098, lo := 8, w := 4 }
/-- R474: gnt1.IOD_SEAM_STATUS.FLIT_UNCORRECTABLE. -/ def gnt1_IOD_SEAM_STATUS_FLIT_UNCORRECTABLE : Fld := { off := 0x098, lo := 16, w := 16 }
/-- R474: gnt1.IOD_SEAM_STATUS.EXHAUSTED. -/ def gnt1_IOD_SEAM_STATUS_EXHAUSTED : Fld := { off := 0x098, lo := 32, w := 1 }

-- page 0x0022: 15_faults_recovery.md
/-- R477: gnt2.SNAP_SEL.SLOT. -/ def gnt2_SNAP_SEL_SLOT : Fld := { off := 0x080, lo := 0, w := 1, acc := .rw }
/-- R467: gnt2.SNAP_STATUS.SLOT0_VALID. -/ def gnt2_SNAP_STATUS_SLOT0_VALID : Fld := { off := 0x088, lo := 0, w := 1 }
/-- R467: gnt2.SNAP_STATUS.SLOT1_VALID. -/ def gnt2_SNAP_STATUS_SLOT1_VALID : Fld := { off := 0x088, lo := 1, w := 1 }
/-- R467: gnt2.SNAP_STATUS.LATEST. -/ def gnt2_SNAP_STATUS_LATEST : Fld := { off := 0x088, lo := 2, w := 1 }
/-- R467: gnt2.SNAP_STATUS.SNAP_SEQ. -/ def gnt2_SNAP_STATUS_SNAP_SEQ : Fld := { off := 0x088, lo := 32, w := 32 }
/-- R467: gnt2.WINDOW. -/ def gnt2_WINDOW : Fld := { off := 0x800, lo := 0, w := 64, n := 256, stride := 8 }

-- page 0x0023: 15_faults_recovery.md
/-- R475: gnt3.WEAR_SEL.KIND. -/ def gnt3_WEAR_SEL_KIND : Fld := { off := 0x080, lo := 0, w := 2, acc := .rw }
/-- R475: gnt3.WEAR_SEL.INSTANCE. -/ def gnt3_WEAR_SEL_INSTANCE : Fld := { off := 0x080, lo := 16, w := 10, acc := .rw }
/-- R476: gnt3.WEAR_STATUS.STATE. -/ def gnt3_WEAR_STATUS_STATE : Fld := { off := 0x088, lo := 0, w := 2 }
/-- R476: gnt3.WEAR_STATUS.MONTHS. -/ def gnt3_WEAR_STATUS_MONTHS : Fld := { off := 0x088, lo := 16, w := 16 }
/-- R476: gnt3.WEAR_STATUS.MONTHS_90. -/ def gnt3_WEAR_STATUS_MONTHS_90 : Fld := { off := 0x088, lo := 32, w := 16 }
/-- R476: gnt3.WEAR_STATUS.HOURS. -/ def gnt3_WEAR_STATUS_HOURS : Fld := { off := 0x088, lo := 48, w := 16 }
/-- R476: gnt3.WEAR_CFG.WARN_MONTHS. -/ def gnt3_WEAR_CFG_WARN_MONTHS : Fld := { off := 0x090, lo := 0, w := 16, acc := .rw, rst := .val 0x18, sticky := true }
/-- R476: gnt3.WEAR_SUMMARY.WORST_MONTHS_90. -/ def gnt3_WEAR_SUMMARY_WORST_MONTHS_90 : Fld := { off := 0x098, lo := 0, w := 16, rst := .val 0xFFFF }
/-- R476: gnt3.WEAR_SUMMARY.WORST_KIND. -/ def gnt3_WEAR_SUMMARY_WORST_KIND : Fld := { off := 0x098, lo := 16, w := 2 }
/-- R476: gnt3.WEAR_SUMMARY.WORST_INSTANCE. -/ def gnt3_WEAR_SUMMARY_WORST_INSTANCE : Fld := { off := 0x098, lo := 32, w := 10 }

-- page 0x0010: 16_host_cxl.md
/-- R509: crn0.CROWN_STATUS.ACTIVE_PAIR. -/ def crn0_CROWN_STATUS_ACTIVE_PAIR : Fld := { off := 0x080, lo := 0, w := 1 }
/-- R499: crn0.CROWN_STATUS.STANDBY_STATE. -/ def crn0_CROWN_STATUS_STANDBY_STATE : Fld := { off := 0x080, lo := 1, w := 3, rst := .val 1 }
/-- R503: crn0.CROWN_STATUS.UPDATE_STATE. -/ def crn0_CROWN_STATUS_UPDATE_STATE : Fld := { off := 0x080, lo := 4, w := 4 }
/-- R509: crn0.CROWN_STATUS.LATE. -/ def crn0_CROWN_STATUS_LATE : Fld := { off := 0x080, lo := 8, w := 1, acc := .w1c }
/-- R501: crn0.CROWN_STATUS.TAKEOVERS. -/ def crn0_CROWN_STATUS_TAKEOVERS : Fld := { off := 0x080, lo := 16, w := 16, sticky := true }
/-- R509: crn0.CROWN_STATUS.SWITCHES. -/ def crn0_CROWN_STATUS_SWITCHES : Fld := { off := 0x080, lo := 32, w := 16, sticky := true }
/-- R509: crn0.FW_STANDBY. -/ def crn0_FW_STANDBY : Fld := { off := 0x088, lo := 0, w := 64 }
/-- R509: crn0.SVN.RUNNING. -/ def crn0_SVN_RUNNING : Fld := { off := 0x090, lo := 0, w := 32 }
/-- R509: crn0.SVN.FLOOR. -/ def crn0_SVN_FLOOR : Fld := { off := 0x090, lo := 32, w := 32 }
/-- R504: crn0.CONFIRM_S. -/ def crn0_CONFIRM_S : Fld := { off := 0x098, lo := 0, w := 16, acc := .rw, rst := .val 0x3C, sticky := true }
/-- R509: crn0.STAGED. -/ def crn0_STAGED : Fld := { off := 0x0A0, lo := 0, w := 4 }

-- page 0x0011: 16_host_cxl.md
/-- R492: crn1.MB_DESC. -/ def crn1_MB_DESC : Fld := { off := 0x080, lo := 0, w := 64, acc := .rw, n := 16, stride := 8 }
/-- R492: crn1.MB_DOORBELL.GO. -/ def crn1_MB_DOORBELL_GO : Fld := { off := 0x100, lo := 0, w := 1, acc := .wo, a64 := true }
/-- R492: crn1.MB_STATUS.BUSY. -/ def crn1_MB_STATUS_BUSY : Fld := { off := 0x108, lo := 0, w := 1 }
/-- R492: crn1.MB_STATUS.DONE. -/ def crn1_MB_STATUS_DONE : Fld := { off := 0x108, lo := 1, w := 1, acc := .w1c }

-- page 0x0012: 16_host_cxl.md
/-- R493: crn2.CR_BASE. -/ def crn2_CR_BASE : Fld := { off := 0x080, lo := 7, w := 57, acc := .rw }
/-- R493: crn2.CR_CFG.ENABLE. -/ def crn2_CR_CFG_ENABLE : Fld := { off := 0x088, lo := 0, w := 1, acc := .rw }
/-- R493: crn2.CR_CFG.LOG2_SIZE. -/ def crn2_CR_CFG_LOG2_SIZE : Fld := { off := 0x088, lo := 8, w := 4, acc := .rw, rst := .val 6 }
/-- R493: crn2.CR_TAIL. -/ def crn2_CR_TAIL : Fld := { off := 0x090, lo := 0, w := 10, acc := .rw, a64 := true }
/-- R493: crn2.CR_HEAD. -/ def crn2_CR_HEAD : Fld := { off := 0x098, lo := 0, w := 10, a64 := true }
/-- R493: crn2.CR_STATUS.STOPPED. -/ def crn2_CR_STATUS_STOPPED : Fld := { off := 0x0A0, lo := 0, w := 1 }
/-- R493: crn2.CR_STATUS.FETCH_ERR. -/ def crn2_CR_STATUS_FETCH_ERR : Fld := { off := 0x0A0, lo := 1, w := 1, acc := .w1c }

-- page 0x0380: 16_host_cxl.md
/-- R510: cxl0.LINK_STATUS.UP. -/ def cxl0_LINK_STATUS_UP : Fld := { off := 0x080, lo := 0, w := 1 }
/-- R510: cxl0.LINK_STATUS.MODE. -/ def cxl0_LINK_STATUS_MODE : Fld := { off := 0x080, lo := 1, w := 1 }
/-- R510: cxl0.LINK_STATUS.WIDTH. -/ def cxl0_LINK_STATUS_WIDTH : Fld := { off := 0x080, lo := 2, w := 4 }
/-- R510: cxl0.LINK_STATUS.RATE. -/ def cxl0_LINK_STATUS_RATE : Fld := { off := 0x080, lo := 6, w := 3 }
/-- R510: cxl0.LINK_STATUS.CACHE_EN. -/ def cxl0_LINK_STATUS_CACHE_EN : Fld := { off := 0x080, lo := 9, w := 1 }
/-- R510: cxl0.LINK_STATUS.MEM_EN. -/ def cxl0_LINK_STATUS_MEM_EN : Fld := { off := 0x080, lo := 10, w := 1 }
/-- R510: cxl0.LINK_STATUS.ATS_EN. -/ def cxl0_LINK_STATUS_ATS_EN : Fld := { off := 0x080, lo := 11, w := 1 }
/-- R510: cxl0.LINK_STATUS.LINK_DOWNS. -/ def cxl0_LINK_STATUS_LINK_DOWNS : Fld := { off := 0x080, lo := 16, w := 16 }
/-- R510: cxl0.BAD_ACCESS.KIND. -/ def cxl0_BAD_ACCESS_KIND : Fld := { off := 0x088, lo := 0, w := 4 }
/-- R510: cxl0.BAD_ACCESS.COUNT. -/ def cxl0_BAD_ACCESS_COUNT : Fld := { off := 0x088, lo := 32, w := 32, acc := .w1cAny }
/-- R510: cxl0.BAD_ADDR. -/ def cxl0_BAD_ADDR : Fld := { off := 0x090, lo := 0, w := 64 }
/-- R510: cxl0.HDM_STATUS.MEM_ACTIVE. -/ def cxl0_HDM_STATUS_MEM_ACTIVE : Fld := { off := 0x098, lo := 0, w := 1 }
/-- R510: cxl0.HDM_STATUS.SIZE_256M. -/ def cxl0_HDM_STATUS_SIZE_256M : Fld := { off := 0x098, lo := 8, w := 16 }
/-- R510: cxl0.ATS_STATUS.ATC_USED. -/ def cxl0_ATS_STATUS_ATC_USED : Fld := { off := 0x0A0, lo := 0, w := 10 }
/-- R510: cxl0.ATS_STATUS.INVALIDATIONS. -/ def cxl0_ATS_STATUS_INVALIDATIONS : Fld := { off := 0x0A0, lo := 32, w := 16 }

-- page 0x0340: 17_ddr5.md
/-- R515: ddr0.DDR_CFG.MAX_SPEED. -/ def ddr0_DDR_CFG_MAX_SPEED : Fld := { off := 0x080, lo := 0, w := 2, acc := .rw, sticky := true }
/-- R524: ddr0.DDR_STATUS.AVAILABLE. -/ def ddr0_DDR_STATUS_AVAILABLE : Fld := { off := 0x088, lo := 0, w := 1 }
/-- R515: ddr0.DDR_STATUS.SPEED. -/ def ddr0_DDR_STATUS_SPEED : Fld := { off := 0x088, lo := 1, w := 2 }
/-- R516: ddr0.DDR_STATUS.CHANNELS. -/ def ddr0_DDR_STATUS_CHANNELS : Fld := { off := 0x088, lo := 3, w := 4 }
/-- R528: ddr0.DDR_STATUS.WARM_RETAINED. -/ def ddr0_DDR_STATUS_WARM_RETAINED : Fld := { off := 0x088, lo := 7, w := 1 }
/-- R517: ddr0.DDR_STATUS.CAPACITY_GIB. -/ def ddr0_DDR_STATUS_CAPACITY_GIB : Fld := { off := 0x088, lo := 8, w := 12 }
/-- R519: ddr0.LAYOUT_CFG.RETX_GIB. -/ def ddr0_LAYOUT_CFG_RETX_GIB : Fld := { off := 0x090, lo := 0, w := 11, acc := .rw, rst := .val 0x40, sticky := true }
/-- R518: ddr0.REGION_BASE. -/ def ddr0_REGION_BASE : Fld := { off := 0x0A0, lo := 0, w := 41, n := 4, stride := 16 }
/-- R518: ddr0.REGION_SIZE. -/ def ddr0_REGION_SIZE : Fld := { off := 0x0A8, lo := 0, w := 41, n := 4, stride := 16 }
/-- R522: ddr0.ARB_CFG.HOST_MIN_PCT. -/ def ddr0_ARB_CFG_HOST_MIN_PCT : Fld := { off := 0x100, lo := 0, w := 8, acc := .rw, rst := .val 0xA }
/-- R522: ddr0.ARB_CFG.HOST_MAX_INFLIGHT. -/ def ddr0_ARB_CFG_HOST_MAX_INFLIGHT : Fld := { off := 0x100, lo := 16, w := 16, acc := .rw, rst := .val 0x1000 }
/-- R527: ddr0.SCRUB_CFG.ENABLE. -/ def ddr0_SCRUB_CFG_ENABLE : Fld := { off := 0x108, lo := 0, w := 1, acc := .rw, rst := .val 1 }
/-- R527: ddr0.SCRUB_CFG.PERIOD_H. -/ def ddr0_SCRUB_CFG_PERIOD_H : Fld := { off := 0x108, lo := 8, w := 8, acc := .rw, rst := .val 0x18 }
/-- R530: ddr0.BW_STATUS.WRITE_GBPS. -/ def ddr0_BW_STATUS_WRITE_GBPS : Fld := { off := 0x110, lo := 0, w := 16 }
/-- R530: ddr0.BW_STATUS.READ_GBPS. -/ def ddr0_BW_STATUS_READ_GBPS : Fld := { off := 0x110, lo := 16, w := 16 }
/-- R530: ddr0.BW_STATUS.INFLIGHT_PEAK. -/ def ddr0_BW_STATUS_INFLIGHT_PEAK : Fld := { off := 0x110, lo := 32, w := 16 }
/-- R526: ddr0.SHADOW_LOST. -/ def ddr0_SHADOW_LOST : Fld := { off := 0x118, lo := 0, w := 32, sticky := true }

-- pages 0x0348-0x034F: 17_ddr5.md
/-- R516: ddrc.CH_STATUS.POPULATED. -/ def ddrc_CH_STATUS_POPULATED : Fld := { off := 0x080, lo := 0, w := 1 }
/-- R523: ddrc.CH_STATUS.TRAINED. -/ def ddrc_CH_STATUS_TRAINED : Fld := { off := 0x080, lo := 1, w := 1 }
/-- R516: ddrc.CH_STATUS.IN_USE. -/ def ddrc_CH_STATUS_IN_USE : Fld := { off := 0x080, lo := 2, w := 1 }
/-- R530: ddrc.CH_STATUS.X4. -/ def ddrc_CH_STATUS_X4 : Fld := { off := 0x080, lo := 3, w := 1 }
/-- R530: ddrc.CH_STATUS.RANKS. -/ def ddrc_CH_STATUS_RANKS : Fld := { off := 0x080, lo := 4, w := 2 }
/-- R530: ddrc.CH_STATUS.CAPACITY_GIB. -/ def ddrc_CH_STATUS_CAPACITY_GIB : Fld := { off := 0x080, lo := 8, w := 9 }
/-- R530: ddrc.CH_STATUS.FAIL_CODE. -/ def ddrc_CH_STATUS_FAIL_CODE : Fld := { off := 0x080, lo := 17, w := 3 }
/-- R524: ddrc.MARGIN.READ_MARGIN. -/ def ddrc_MARGIN_READ_MARGIN : Fld := { off := 0x088, lo := 0, w := 8 }
/-- R524: ddrc.MARGIN.WRITE_MARGIN. -/ def ddrc_MARGIN_WRITE_MARGIN : Fld := { off := 0x088, lo := 8, w := 8 }
/-- R524: ddrc.MARGIN.CHECKS. -/ def ddrc_MARGIN_CHECKS : Fld := { off := 0x088, lo := 32, w := 32 }
/-- R525: ddrc.ECC_COUNTS.CORRECTED. -/ def ddrc_ECC_COUNTS_CORRECTED : Fld := { off := 0x090, lo := 0, w := 32 }
/-- R525: ddrc.ECC_COUNTS.UNCORRECTABLE. -/ def ddrc_ECC_COUNTS_UNCORRECTABLE : Fld := { off := 0x090, lo := 32, w := 32 }
/-- R525: ddrc.ERR_ADDR. -/ def ddrc_ERR_ADDR : Fld := { off := 0x098, lo := 0, w := 41 }
/-- R527: ddrc.TEMP.DRAM_TEMP. -/ def ddrc_TEMP_DRAM_TEMP : Fld := { off := 0x0A0, lo := 0, w := 8 }
/-- R527: ddrc.TEMP.DOUBLE_REFRESH. -/ def ddrc_TEMP_DOUBLE_REFRESH : Fld := { off := 0x0A0, lo := 8, w := 1 }

end F

/-- The fields of a page kind, besides the common header. -/
def fieldsOf : Layout → List Fld
  | .idn =>
    [F.idn_PART, F.idn_STEPPING, F.idn_SERIAL, F.idn_FW_MINOR, F.idn_FW_MAJOR, F.idn_FW_BUILD, F.idn_DEVICE_STATE_SAFE_STATE, F.idn_DEVICE_STATE_FAULT_CLASS, F.idn_DEVICE_STATE_REF_ABSENT, F.idn_DEVICE_STATE_BOOT_DONE, F.idn_DEVICE_STATE_LINK_MODE, F.idn_RANGE_COUNT] ++
    [F.idn_RANGE_n_FIRST, F.idn_RANGE_n_LAST, F.idn_RANGE_n_TYPE, F.idn_RANGE_n_COUNT]
  | .cap =>
    [F.cap_ENTRY_CAP_ID, F.cap_ENTRY_VERSION, F.cap_ENTRY_PAGE, F.cap_ENTRY_PAGE_COUNT, F.cap_NEXT_PAGE, F.cap_NEXT_OFFSET]
  | .hbd0 =>
    [F.hbd0_SERVO_CTRL_MODE, F.hbd0_SERVO_CTRL_BW, F.hbd0_SERVO_CTRL_REVERTIVE, F.hbd0_SERVO_CTRL_REVERT_HOLDOFF, F.hbd0_SERVO_STATUS_STATE, F.hbd0_SERVO_STATUS_TQ, F.hbd0_SERVO_STATUS_REF_INDEX, F.hbd0_SERVO_STATUS_REF_VALID, F.hbd0_SERVO_STATUS_SLEWING, F.hbd0_SERVO_STATUS_HIST_LOADED, F.hbd0_SERVO_STATUS_STEPPED, F.hbd0_SERVO_STATUS_RELOCK_COUNT] ++
    [F.hbd0_SERVO_STATUS_SET_REFUSED, F.hbd0_SERVO_STATUS_EVER_TRACEABLE, F.hbd0_TIME_NOW_NS, F.hbd0_TIME_NOW_FRAC, F.hbd0_TIME_NOW_TQ, F.hbd0_OFFSET, F.hbd0_FREQ, F.hbd0_LOCK_CFG_RELOCK_TIME, F.hbd0_LOCK_CFG_OUT_LOCK, F.hbd0_LOCK_CFG_STEP_THRESHOLD, F.hbd0_LOCK_CFG_SLEW_PPB, F.hbd0_HOLDOVER_CFG_BOUND_NS] ++
    [F.hbd0_HOLDOVER_CFG_U0_FLOOR, F.hbd0_HOLDOVER_CFG_FREQ_UNC_FLOOR, F.hbd0_HOLDOVER_STATUS_UNCERT_NS, F.hbd0_HOLDOVER_STATUS_FREQ_UNC, F.hbd0_HOLDOVER_STATUS_OUT_OF_BOUND, F.hbd0_SET_TIME_NS, F.hbd0_SET_TIME_FRAC, F.hbd0_UTC_CFG_UTC_OFFSET, F.hbd0_UTC_CFG_LEAP, F.hbd0_UTC_CFG_FROM_REF, F.hbd0_STEP_COUNT]
  | .hbd1 =>
    [F.hbd1_REF_CFG_ENABLE, F.hbd1_REF_CFG_TYPE, F.hbd1_REF_CFG_PPS_SEL, F.hbd1_REF_CFG_FREQ_SRC, F.hbd1_REF_CFG_PRIORITY, F.hbd1_REF_CFG_PORT, F.hbd1_REF_CFG_PEER_INDEX, F.hbd1_REF_CFG_ANY_PEER, F.hbd1_REF_CFG_QUAL_TIME, F.hbd1_REF_COMP, F.hbd1_REF_STATUS_QSTATE, F.hbd1_REF_STATUS_LAST_FAULT] ++
    [F.hbd1_REF_STATUS_DISQUAL_COUNT]
  | .hbd2 =>
    [F.hbd2_PPS_IN_STATUS_PRESENT, F.hbd2_PPS_IN_STATUS_MISSED, F.hbd2_TEN_MHZ_STATUS_PRESENT, F.hbd2_TEN_MHZ_STATUS_ERROR, F.hbd2_TOD_IN_STATUS_ACCEPTED, F.hbd2_TOD_IN_STATUS_CHECKSUM_ERR, F.hbd2_TOD_IN_STATUS_SYNTAX_ERR, F.hbd2_TOD_IN_STATUS_WINDOW_ERR, F.hbd2_TOD_OUT_CFG_ENABLE, F.hbd2_TOD_OUT_CFG_SQUELCH, F.hbd2_PPS_OUT_CFG_ENABLE, F.hbd2_PPS_OUT_CFG_SQUELCH] ++
    [F.hbd2_PPS_OUT_CFG_WIDTH_US, F.hbd2_PPS_OUT_CFG_OFFSET, F.hbd2_CLK_OUT_CFG_ENABLE, F.hbd2_CLK_OUT_CFG_LATE, F.hbd2_CLK_OUT_CFG_HALF_PERIOD, F.hbd2_CLK_OUT_START_NS, F.hbd2_CLK_OUT_START_FRAC]
  | .hbd3 =>
    [F.hbd3_HIST_CTRL_ENABLE, F.hbd3_HIST_CTRL_PERIOD, F.hbd3_HIST_CTRL_MAX_AGE, F.hbd3_HIST_CTRL_CLEAR, F.hbd3_HIST_STATUS_LOADED, F.hbd3_HIST_STATUS_SLOPE_VALID, F.hbd3_HIST_STATUS_DISCARDED, F.hbd3_HIST_STATUS_SLOT0_VALID, F.hbd3_HIST_STATUS_SLOT1_VALID, F.hbd3_HIST_STATUS_WRITES, F.hbd3_HIST_FREQ, F.hbd3_HIST_SLOPE] ++
    [F.hbd3_HIST_TIME_NS, F.hbd3_HIST_TIME_FRAC]
  | .hbd4 =>
    [F.hbd4_PTP_CFG_DOMAIN, F.hbd4_PTP_CFG_PRIORITY1, F.hbd4_PTP_CFG_PRIORITY2, F.hbd4_PTP_CFG_CLASS_LOCKED, F.hbd4_PTP_CFG_PEER_AGE, F.hbd4_CLOCK_IDENTITY, F.hbd4_PORT_SEL, F.hbd4_PORT_CFG_PTP_ENABLE, F.hbd4_PORT_CFG_ROLE_POLICY, F.hbd4_PORT_CFG_DELAY_MECH, F.hbd4_PORT_CFG_ONE_STEP, F.hbd4_PORT_CFG_TRANSPORT] ++
    [F.hbd4_PORT_CFG_UNICAST, F.hbd4_PORT_CFG_LOG_SYNC, F.hbd4_PORT_CFG_LOG_ANNOUNCE, F.hbd4_PORT_CFG_L1_SYNTONIZE, F.hbd4_PORT_CFG_PEER_REFUSED, F.hbd4_PORT_ASYM, F.hbd4_PEER_SEL_PORT, F.hbd4_PEER_SEL_ENTRY, F.hbd4_PEER_CMD, F.hbd4_PEER_DATA0_CLOCK_IDENTITY, F.hbd4_PEER_DATA1_PORT_NUMBER, F.hbd4_PEER_DATA1_ROLE] ++
    [F.hbd4_PEER_DATA1_STATIC, F.hbd4_PEER_DATA1_TRANSPORT, F.hbd4_PEER_DATA1_CLOCK_CLASS, F.hbd4_PEER_DATA1_STEPS_REMOVED, F.hbd4_PEER_DATA1_DENOON, F.hbd4_PEER_DATA1_SELECTED, F.hbd4_PEER_DATA2_GRANDMASTER_IDENTITY, F.hbd4_LAST_HEARD_NS, F.hbd4_LAST_HEARD_FRAC, F.hbd4_PEER_DATA5_MEAN_PATH_DELAY, F.hbd4_PEER_DATA6_ADDRESS_LO, F.hbd4_PEER_DATA7_ADDRESS_HI]
  | .hbd5 =>
    [F.hbd5_GROUP_CFG_ENABLE, F.hbd5_GROUP_CFG_CHIP_ID, F.hbd5_GROUP_CFG_ETHERTYPE, F.hbd5_GROUP_CFG_MEMBER_TIMEOUT, F.hbd5_GROUP_CFG_GROUP_ID, F.hbd5_GROUP_PRIMARY_PRIMARY, F.hbd5_GROUP_PRIMARY_PRIMARY_NEXT, F.hbd5_PRIMARY_SWITCH_NS, F.hbd5_PRIMARY_SWITCH_FRAC, F.hbd5_GROUP_STATUS_IS_PRIMARY, F.hbd5_GROUP_STATUS_CHIP_ID_CONFLICT, F.hbd5_GROUP_STATUS_PRIMARY_MISMATCH] ++
    [F.hbd5_GROUP_STATUS_SWITCH_LATE, F.hbd5_GROUP_STATUS_MEMBERS, F.hbd5_MEMBER_BITMAP]
  | .hbd8 =>
    [F.hbd8_STAMP_CFG_DENSITY_MIN, F.hbd8_STAMP_CFG_FREEZE_NS, F.hbd8_CAL_SEL_LANE, F.hbd8_CAL_SEL_RATE, F.hbd8_CAL_RX_FACTORY, F.hbd8_CAL_TX_FACTORY, F.hbd8_CAL_RX_TRIM, F.hbd8_CAL_TX_TRIM, F.hbd8_CAL_CMD_APPLY, F.hbd8_CAL_CMD_DISCARD, F.hbd8_CAL_STATUS_APPLY_BUSY, F.hbd8_CAL_STATUS_PENDING] ++
    [F.hbd8_CAL_STATUS_APPLY_REFUSED, F.hbd8_CAL_STATUS_SAVE_ERR, F.hbd8_CAL_STATUS_FACTORY_MISSING, F.hbd8_CAL_STATUS_APPLIES, F.hbd8_CAL_APPLIED_NS, F.hbd8_CAL_APPLIED_FRAC, F.hbd8_TQ_CHANGE_NS, F.hbd8_TQ_CHANGE_FRAC, F.hbd8_TQ_CHANGE_TQ]
  | .hbd9 =>
    [F.hbd9_SUSPECT, F.hbd9_FROZEN]
  | .hbd10 =>
    [F.hbd10_STAT_SEL_LANE, F.hbd10_STAT_SEL_CLEAR, F.hbd10_WANDER_STATUS_STATE, F.hbd10_WANDER_STATUS_FROZEN, F.hbd10_WANDER_STATUS_MEDIAN_VALID, F.hbd10_WANDER_STATUS_MAX_EXCURSION, F.hbd10_WANDER_STATUS_LAST_EXCURSION, F.hbd10_STAMP_COUNTS_SUSPECT_STAMPS, F.hbd10_STAMP_COUNTS_INVALID_STAMPS, F.hbd10_EVENT_COUNTS_SUSPECT_ENTRIES, F.hbd10_EVENT_COUNTS_FREEZES, F.hbd10_EVENT_COUNTS_ONE_STEP_DROPS] ++
    [F.hbd10_REPLICA_OFFSET, F.hbd10_REPLICA_RESYNCS]
  | .lan =>
    [F.lan_LANE_CTRL_TX_QUIET, F.lan_LANE_CTRL_RX_QUIET, F.lan_LANE_CTRL_CDR_PROFILE, F.lan_LANE_CTRL_EQ_OVERRIDE, F.lan_LANE_CTRL_EQ_RATE, F.lan_LANE_STATUS_RATE, F.lan_LANE_STATUS_RATE_VALID, F.lan_LANE_STATUS_SIGNAL, F.lan_LANE_STATUS_CDR_LOCK, F.lan_LANE_STATUS_BRINGUP_CLOCK, F.lan_LANE_STATUS_TX_STATE, F.lan_LANE_STATUS_RX_STATE] ++
    [F.lan_LANE_STATUS_EQ_SOURCE, F.lan_LANE_STATUS_REF_ABSENT, F.lan_EQ_TX_C_M3, F.lan_EQ_TX_C_M2, F.lan_EQ_TX_C_M1, F.lan_EQ_TX_C0, F.lan_EQ_TX_C_P1, F.lan_EQ_TX_AMPLITUDE, F.lan_EQ_RX_CTLE_PEAK, F.lan_EQ_RX_CTLE_LF, F.lan_EQ_RX_VGA, F.lan_EQ_RX_CDR_PROFILE] ++
    [F.lan_EQ_DFE, F.lan_PARTNER_REQ_ACCEPTED, F.lan_PARTNER_REQ_AT_LIMIT, F.lan_PARTNER_REQ_PRESETS, F.lan_EYE_HEIGHT, F.lan_EYE_WIDTH]
  | .prt =>
    [F.prt_PORT_CTRL_ENABLE, F.prt_PORT_CTRL_RESTART, F.prt_LINK_CFG_MAX_RATE, F.prt_LINK_CFG_ALLOW_IEEE, F.prt_LINK_CFG_ALLOW_DENOON, F.prt_LINK_CFG_FEC_ALLOW, F.prt_LINK_CFG_FORCE, F.prt_LINK_CFG_AN_TIMEOUT_MS, F.prt_LINK_CFG_QUAL_US, F.prt_LINK_STATUS_UP, F.prt_LINK_STATUS_RATE, F.prt_LINK_STATUS_WIDTH] ++
    [F.prt_LINK_STATUS_FEC, F.prt_LINK_STATUS_PARTNER, F.prt_LINK_STATUS_STEP, F.prt_LINK_STATUS_FAIL_CAUSE, F.prt_LINK_STATUS_TX_LPI, F.prt_LINK_STATUS_RX_LPI, F.prt_LINK_STATUS_LOCAL_FAULT, F.prt_LINK_STATUS_REMOTE_FAULT, F.prt_LINK_STATUS_RATES_REFUSED, F.prt_LINK_STATUS_LINK_DOWNS, F.prt_MAC_CFG_MAX_FRAME, F.prt_PCP_MAP_TC] ++
    [F.prt_PCP_MAP_DEFAULT_TC, F.prt_PFC_CFG_RX_ENABLE, F.prt_PFC_CFG_TX_ENABLE, F.prt_PFC_CFG_TX_QUANTA, F.prt_PFC_STATUS_PAUSED, F.prt_PFC_STATUS_SENDING, F.prt_PFC_STATUS_TC7_IGNORED, F.prt_ETS_CFG_SHARE, F.prt_ETS_CFG_STRICT, F.prt_PREEMPT_CFG_ENABLE, F.prt_PREEMPT_CFG_VERIFY_DISABLE, F.prt_PREEMPT_CFG_VERIFY_TIME_MS] ++
    [F.prt_PREEMPT_CFG_PARTNER_ADD_FRAG, F.prt_PREEMPT_STATUS_VERIFY, F.prt_PREEMPT_STATUS_ACTIVE, F.prt_PREEMPT_STATUS_REASSEMBLY_ERRORS, F.prt_TX_CTRL_LPI_ENABLE, F.prt_TX_CTRL_LPI_ENTRY_NS, F.prt_TC7_CFG_ENABLE]
  | .oct =>
    [F.oct_OCT_CFG_RATE_GROUP, F.oct_OCT_CFG_PORT_START, F.oct_OCT_STATUS_PLL_LOCK, F.oct_OCT_STATUS_GROUP_IN_FORCE, F.oct_OCT_STATUS_REF_ABSENT, F.oct_OCT_STATUS_LAYOUT_REFUSED]
  | .til =>
    [F.til_TILE_STATUS_MANAGER_RUNNING, F.til_TILE_STATUS_REF_ABSENT, F.til_TILE_STATUS_EQ_TABLE, F.til_TILE_STATUS_EQ_ENTRIES, F.til_TILE_STATUS_EQ_GENERATION, F.til_SEAM_STATUS_SPARES_UP, F.til_SEAM_STATUS_SPARES_DOWN, F.til_SEAM_STATUS_FLIT_CRC_ERRORS, F.til_SEAM_STATUS_EXHAUSTED]
  | .ucs =>
    [F.ucs_ENGINE_CFG_PARSE_MAX, F.ucs_ENGINE_CFG_IACT_MAX, F.ucs_ENGINE_CFG_EACT_MAX, F.ucs_BANK_CTRL_ARM, F.ucs_BANK_CTRL_ABORT, F.ucs_BANK_CTRL_CLEAR_STATS, F.ucs_BANK_STATUS_ACTIVE_BANK, F.ucs_BANK_STATUS_STATE, F.ucs_BANK_STATUS_GOLDEN, F.ucs_BANK_STATUS_ARMED_REFUSED, F.ucs_BANK_STATUS_ABORT_REFUSED, F.ucs_BANK_STATUS_VERIFY_ERR] ++
    [F.ucs_BANK_STATUS_VERIFY_ADDR, F.ucs_BANK_STATUS_OLD_BANK_FRAMES, F.ucs_IMAGE_ACTIVE_ID, F.ucs_IMAGE_IDLE_ID, F.ucs_MC_STATUS_LAST_CODE, F.ucs_MC_STATUS_LAST_ADDR, F.ucs_MC_STATUS_LAST_BANK, F.ucs_MC_STATUS_LAST_KIND, F.ucs_MC_STATUS_PATCHES_USED, F.ucs_MC_STATUS_MC_COUNT, F.ucs_CYCLE_STATS_PARSE_PEAK, F.ucs_CYCLE_STATS_IACT_PEAK] ++
    [F.ucs_CYCLE_STATS_EACT_PEAK, F.ucs_CYCLE_STATS_TC7_OVERRUNS, F.ucs_CYCLE_STATS_ENGINE_WAITS, F.ucs_CS_SEL_ADDR, F.ucs_CS_SEL_BANK, F.ucs_CS_SEL_REGION, F.ucs_CS_DATA, F.ucs_CS_PARITY, F.ucs_PATCH_ADDR, F.ucs_PATCH_BANK, F.ucs_PATCH_REGION, F.ucs_PATCH_VALID]
  | .tbl0 =>
    [F.tbl0_GEN_NOW, F.tbl0_GEN_OLDEST, F.tbl0_GEN_NONE_HELD, F.tbl0_EPOCH_STATUS_STATE, F.tbl0_EPOCH_STATUS_STAGED, F.tbl0_EPOCH_STATUS_ERRORS, F.tbl0_EPOCH_STATUS_REFUSE_CAUSE, F.tbl0_EPOCH_STATUS_LATE, F.tbl0_EPOCH_STATUS_EPOCH_ID, F.tbl0_EPOCH_EFFECT_NS, F.tbl0_EPOCH_EFFECT_FRAC, F.tbl0_JOURNAL_STATUS_RESOLUTION] ++
    [F.tbl0_JOURNAL_STATUS_TABLES_REBUILT, F.tbl0_JOURNAL_STATUS_RESOLVED_ID, F.tbl0_CMD_STATUS_IN_FLIGHT]
  | .tbl1 =>
    [F.tbl1_EMT_CFG_REFRESH, F.tbl1_EMT_CFG_MAX_KICKS, F.tbl1_AGE_CFG_AGE_ENABLE, F.tbl1_AGE_CFG_AGE_LIMIT, F.tbl1_LEARN_CFG_ENABLE, F.tbl1_LEARN_CFG_TEMPLATE, F.tbl1_LEARN_CFG_MOVE_HOLD, F.tbl1_LEARN_DATA, F.tbl1_EMT_STATUS_ENTRIES, F.tbl1_EMT_STATUS_STASH_USED, F.tbl1_EMT_STATUS_HOLD_USED, F.tbl1_EMT_STATUS_LEARN_LATE] ++
    [F.tbl1_LEARN_COUNTS_NEW, F.tbl1_LEARN_COUNTS_MOVE, F.tbl1_LEARN_COUNTS_CONFLICT, F.tbl1_LEARN_COUNTS_DROPPED, F.tbl1_HASH_SEED]
  | .tbl2 =>
    [F.tbl2_LPA_STATUS_ENTRIES, F.tbl2_LPA_STATUS_SHIFT_BUSY, F.tbl2_LPA_STATUS_SHIFT_MOVES, F.tbl2_CLA_SEL_SLICE, F.tbl2_CLA_STATUS_ENTRIES]
  | .tbl3 =>
    [F.tbl3_LEARN_PORT, F.tbl3_NOTIFY_BASE, F.tbl3_NOTIFY_CFG_ENABLE, F.tbl3_NOTIFY_CFG_LOG2_SIZE, F.tbl3_NOTIFY_TAIL, F.tbl3_NOTIFY_HEAD, F.tbl3_NOTIFY_STATUS_LOST]
  | .tblq =>
    [F.tblq_CQ_BASE, F.tblq_CQ_CFG_ENABLE, F.tblq_CQ_CFG_LOG2_SIZE, F.tblq_CQ_TAIL, F.tblq_CQ_HEAD, F.tblq_CQ_STATUS_IN_FLIGHT, F.tblq_CQ_STATUS_STOPPED, F.tblq_CQ_STATUS_FETCH_ERR]
  | .bufg =>
    [F.bufg_GROUP_STATUS_LIVE_CELLS, F.bufg_GROUP_STATUS_BANKS_IN_SERVICE, F.bufg_GROUP_STATUS_TC7_BACKING, F.bufg_BANK_STATE, F.bufg_BANK_SPARE, F.bufg_BANK_CORRECTED, F.bufg_BANK_LIVE]
  | .bufx =>
    [F.bufx_POOL_CFG0_TC7_POOL, F.bufx_POOL_CFG0_HEADROOM, F.bufx_POOL_CFG1_SP0, F.bufx_POOL_CFG1_SP1, F.bufx_POOL_CFG2_SP2, F.bufx_POOL_CFG2_SP3, F.bufx_MIN_POOL, F.bufx_CLASS_POOL_POOL, F.bufx_POOL_USED0_SP0_USED, F.bufx_POOL_USED0_SP1_USED, F.bufx_POOL_USED1_SP2_USED, F.bufx_POOL_USED1_SP3_USED] ++
    [F.bufx_RES_USED_TC7_USED, F.bufx_RES_USED_HEADROOM_USED, F.bufx_DESC_FREE, F.bufx_DESC_TC7_RESERVE, F.bufx_SPARE_STATUS_SPARES_FREE, F.bufx_SPARE_STATUS_BANKS_RETIRED, F.bufx_SPARE_STATUS_COPY_BANK, F.bufx_SPARE_STATUS_COPY_BUSY, F.bufx_SPARE_CMD_BANK, F.bufx_SPARE_CMD_GO, F.bufx_CAPACITY, F.bufx_SPARE_CFG_WATCH_THRESH] ++
    [F.bufx_SPARE_CFG_SPARE_THRESH, F.bufx_MCG_SEL_GROUP, F.bufx_MCG_CFG_VALID, F.bufx_MCG_CFG_SKIP_SOURCE, F.bufx_MCG_CTRL_COMMIT, F.bufx_MCG_PORTS]
  | .slii =>
    [F.slii_FWD_CFG_QUEUE_MODE, F.slii_PG_SEL_PORT, F.slii_PG_SEL_CLASS, F.slii_PG_CFG0_PG_XOFF, F.slii_PG_CFG0_PG_XON_DELTA, F.slii_PG_CFG1_PG_HDRM, F.slii_PG_STATUS_SHARED_USED, F.slii_PG_STATUS_HDRM_USED, F.slii_PG_STATUS_LOSSLESS, F.slii_PG_STATUS_XOFF]
  | .slie =>
    [F.slie_Q_SEL_PORT, F.slie_Q_SEL_QUEUE, F.slie_Q_CFG_QMIN, F.slie_Q_CFG_ALPHA, F.slie_Q_CFG_ECN_ENABLE, F.slie_Q_CFG_MC0_TC, F.slie_Q_CFG_ECN_CELLS, F.slie_Q_STATUS_DEPTH, F.slie_Q_STATUS_MIN_USED, F.slie_Q_STATUS_PAUSED, F.slie_Q_STATUS_ECN_ACTIVE, F.slie_PORT_FWD_CFG_CT_DISABLE]
  | .hr =>
    [F.hr_HR_CFG_ENABLE, F.hr_HR_CFG_HDR_LEN, F.hr_HR_CFG_OVERWRITE, F.hr_HR_CFG_EVENTS, F.hr_HR_CFG_CLASS_MASK, F.hr_HR_CFG_PORT, F.hr_HR_CFG_PORT_ANY, F.hr_HR_CFG_PORT_IS_EGRESS, F.hr_HR_CFG_SAMPLE_LOG2, F.hr_HR_CFG_ONDIE_KIB, F.hr_HR_BASE, F.hr_HR_SIZE] ++
    [F.hr_HR_TAIL, F.hr_HR_HEAD, F.hr_HR_STATUS_LOST_BURST, F.hr_HR_STATUS_LOST_FULL]
  | .mrg =>
    [F.mrg_MRG_CFG_ENABLE, F.mrg_MRG_CFG_ROLE, F.mrg_MRG_CFG_ADOPT_PACE, F.mrg_MRG_CFG_OUT_PORT, F.mrg_MRG_CFG_OUT_QUEUE, F.mrg_MRG_CFG_H, F.mrg_MRG_CFG_PACE_MARGIN, F.mrg_MRG_LIMIT_MAX_CELLS, F.mrg_MRG_STATUS_ENABLED, F.mrg_MRG_STATUS_REFUSE, F.mrg_MRG_STATUS_H_EFF, F.mrg_MRG_STATUS_HELD] ++
    [F.mrg_MRG_STATUS_ABSENT, F.mrg_FRONTIER_NS, F.mrg_FRONTIER_FRAC, F.mrg_FRONTIER_TQ, F.mrg_SEED_PREV, F.mrg_SEED_SECOND, F.mrg_STORE_STATUS_CELLS_USED, F.mrg_STORE_STATUS_ENTRIES_USED, F.mrg_MEMBER_PORT, F.mrg_MEMBER_CHIP_ID, F.mrg_MEMBER_VALID, F.mrg_MEMBER_REMOTE] ++
    [F.mrg_MEMBER_PRESENT, F.mrg_PATH_PATH_DELAY, F.mrg_PATH_CAL_VALID]
  | .rel =>
    [F.rel_REL_CFG_ENABLE, F.rel_REL_CFG_MODE, F.rel_REL_CFG_USE_TAG, F.rel_REL_CFG_SPEED, F.rel_REL_CFG_FWD_ENABLE, F.rel_REL_CFG_ADOPT_PACE, F.rel_REL_CFG_FWD_MCG, F.rel_REL_DELAY_D, F.rel_REL_DELAY_PACE_MARGIN, F.rel_RELEASE_AT_NS, F.rel_RELEASE_AT_FRAC, F.rel_REL_STATUS_ENABLED] ++
    [F.rel_REL_STATUS_LATE, F.rel_REL_STATUS_WINDOW_OPEN, F.rel_REL_STATUS_SCHEDULED, F.rel_REL_STATUS_GRID_UNLOCKED, F.rel_REL_STATUS_REFUSE, F.rel_REL_STATUS_HELD, F.rel_REL_STATUS_RELEASES, F.rel_LAST_RELEASE_NS, F.rel_LAST_RELEASE_FRAC, F.rel_LAST_RELEASE_TQ, F.rel_REL_LIMIT_MAX_FRAMES, F.rel_RELEASE_INFO_LAST_SKEW] ++
    [F.rel_RELEASE_INFO_LAST_FRAMES, F.rel_RELEASE_INFO_D_EFF, F.rel_MEMBERS, F.rel_EXCLUDED]
  | .ses0 =>
    [F.ses0_ENGINE_CFG_ENABLE, F.ses0_ENGINE_CFG_REQ_MAX_COUNT, F.ses0_ENGINE_CFG_RETX_TC, F.ses0_ENGINE_STATUS_CONTEXTS_ARMED, F.ses0_ENGINE_STATUS_NO_CONTEXT, F.ses0_ENGINE_STATUS_RING_SKIPS, F.ses0_ENGINE_STATUS_REQ_QUEUED, F.ses0_CTX_SEL, F.ses0_CTX_CMD_OP, F.ses0_CTX_CFG_TYPE, F.ses0_CTX_CFG_START_MODE, F.ses0_CTX_CFG_GAP_DETECT] ++
    [F.ses0_CTX_CFG_RING_EN, F.ses0_CTX_CFG_EVQ, F.ses0_CTX_CFG_PORT_A, F.ses0_CTX_CFG_PORT_B, F.ses0_CTX_CFG_B_VALID, F.ses0_CTX_CFG_GAP_TIMEOUT_US, F.ses0_CTX_CFG2_LEG_TIMEOUT_US, F.ses0_CTX_CFG2_JUMP_LIMIT, F.ses0_CTX_CFG2_DEPTH_LOG2, F.ses0_CTX_CFG2_SLOT_LOG2, F.ses0_RING_BASE, F.ses0_SEQ_SET] ++
    [F.ses0_CTX_STATUS_STATE, F.ses0_CTX_STATUS_ACTIVE_LEG, F.ses0_CTX_STATUS_LEG_A_UP, F.ses0_CTX_STATUS_LEG_B_UP, F.ses0_CTX_STATUS_GAPS_OPEN, F.ses0_CTX_STATUS_CMD_BUSY, F.ses0_CTX_STATUS_CMD_REFUSED, F.ses0_EXPECTED, F.ses0_LAST_A, F.ses0_LAST_B, F.ses0_GAP_FIRST, F.ses0_GAP_LAST] ++
    [F.ses0_GAP_INFO_MISSING, F.ses0_GAP_INFO_VALID, F.ses0_GAP_OPENED, F.ses0_REQ_SEL, F.ses0_REQ_CFG_REFILL, F.ses0_REQ_CFG_BURST, F.ses0_REQ_CFG_ENABLE, F.ses0_REQ_STATUS_TOKENS, F.ses0_REQ_STATUS_REFUSED]
  | .sesq =>
    [F.sesq_EQ_BASE, F.sesq_EQ_CFG_ENABLE, F.sesq_EQ_CFG_LOG2_SIZE, F.sesq_EQ_TAIL, F.sesq_EQ_HEAD, F.sesq_EQ_STATUS_LOST]
  | .ldg0 =>
    [F.ldg0_LDG_CFG_ENABLE, F.ldg0_LDG_CFG_EXPORT_ENABLE, F.ldg0_LDG_STATUS_RUNNING, F.ldg0_LDG_STATUS_SEALED, F.ldg0_LDG_STATUS_SIGN_BUSY, F.ldg0_LDG_STATUS_HASH_CORES, F.ldg0_RUN, F.ldg0_LAST_ANCHOR_NS, F.ldg0_LAST_ANCHOR_FRAC, F.ldg0_LAST_ANCHOR_TQ, F.ldg0_ANCHOR_SEQ, F.ldg0_AR_BASE] ++
    [F.ldg0_AR_LOG2, F.ldg0_KEY_ID_LO, F.ldg0_KEY_ID_HI, F.ldg0_JOURNAL_STATUS_PAIR, F.ldg0_JOURNAL_STATUS_SLOT, F.ldg0_JOURNAL_STATUS_WRITE_ERR, F.ldg0_JOURNAL_STATUS_WRITES, F.ldg0_MISSED, F.ldg0_SIGN_LATENCY]
  | .ldg1 =>
    [F.ldg1_SEL_CAP_CLASS, F.ldg1_SEL_FULL_CLASS, F.ldg1_SEL_CMD_COMMIT, F.ldg1_SEL_STATUS_PENDING, F.ldg1_SEL_EFFECT_NS, F.ldg1_SEL_EFFECT_FRAC, F.ldg1_CAP_PORT, F.ldg1_FULL_PORT]
  | .ldg2 =>
    [F.ldg2_EXP_CFG_ETHERTYPE, F.ldg2_EXP_CFG_CHUNK, F.ldg2_EXP_DA, F.ldg2_EXP_SA, F.ldg2_EXP_PORT_PORT, F.ldg2_EXP_PORT_VALID, F.ldg2_EXP_PORT_STREAMS, F.ldg2_EXP_STATUS_SKIPPED]
  | .ldgs =>
    [F.ldgs_SCFG_ENABLE, F.ldgs_SCFG_OVERWRITE, F.ldgs_SCFG_BLOCK_IRQ, F.ldgs_CR_BASE, F.ldgs_CR_LOG2, F.ldgs_CR_TAIL, F.ldgs_CR_HEAD, F.ldgs_STREAM_STATUS_ACTIVE, F.ldgs_STREAM_STATUS_LOSING, F.ldgs_BLOCK_SEQ, F.ldgs_RECORDS, F.ldgs_LOST] ++
    [F.ldgs_GAPS, F.ldgs_HEAD_LINK]
  | .vsr0 =>
    [F.vsr0_SNAP_CFG_PERIOD_LOG2, F.vsr0_SNAP_AT_NS, F.vsr0_SNAP_AT_FRAC, F.vsr0_SNAP_BASE, F.vsr0_SNAP_STATUS_PENDING, F.vsr0_SNAP_STATUS_WRITING, F.vsr0_SNAP_STATUS_LATE, F.vsr0_SNAP_STATUS_SLOT, F.vsr0_SNAP_STATUS_SNAP_SEQ, F.vsr0_SNAP_LAST_NS, F.vsr0_SNAP_LAST_FRAC, F.vsr0_SNAP_LAST_TQ] ++
    [F.vsr0_SNAP_CMD_CANCEL, F.vsr0_DAMAGED_PAGE, F.vsr0_DAMAGED_OFFSET, F.vsr0_DAMAGED_COUNT]
  | .vsr2 =>
    [F.vsr2_BW_PROFILE_WINDOW, F.vsr2_BW_PORT_SEL_PROFILE]
  | .vsre =>
    [F.vsre_EVSEL_EVENT, F.vsre_EVSEL_INSTANCE, F.vsre_EVSEL_ANY, F.vsre_EVSEL_ENABLE]
  | .trc =>
    [F.trc_TRACE_CFG_ENABLE, F.trc_TRACE_CFG_SEED_DRBG, F.trc_TRACE_CFG_RATE_LOG2, F.trc_TRACE_SEED, F.trc_TR_BASE, F.trc_TR_LOG2, F.trc_TR_TAIL, F.trc_TR_HEAD, F.trc_TRACE_LOST]
  | .cntp =>
    [F.cntp_CTR, F.cntp_BW_END, F.cntp_BW_RX_LAST, F.cntp_BW_TX_LAST, F.cntp_BW_RX_PEAK, F.cntp_BW_TX_PEAK, F.cntp_BW_WINDOW]
  | .cntq =>
    [F.cntq_CTR]
  | .cntg =>
    [F.cntg_CTR]
  | .cnti =>
    [F.cnti_CTR, F.cnti_REASON]
  | .cnte =>
    [F.cnte_CTR, F.cnte_REASON]
  | .cnts =>
    [F.cnts_CTR]
  | .cntm =>
    [F.cntm_CTR]
  | .cntr =>
    [F.cntr_CTR]
  | .mtn0 =>
    [F.mtn0_MTN_STATUS_AON_SOURCE, F.mtn0_MTN_STATUS_XTAL_LOST, F.mtn0_MTN_STATUS_SAFE_SEQ, F.mtn0_MTN_STATUS_BOOT_HOLDS]
  | .mtn1 =>
    [F.mtn1_DOM_SEL_DOMAIN, F.mtn1_DOM_CFG_DEEPEST, F.mtn1_DOM_CFG_IRQ, F.mtn1_DOM_CFG_HOLDOFF_US, F.mtn1_DOM_STATUS_CURRENT, F.mtn1_DOM_STATUS_IN_TRANSITION, F.mtn1_DOM_STATUS_TARGET, F.mtn1_DOM_STATUS_VSCALE_FALLBACK, F.mtn1_DOM_STATUS_HOLDERS, F.mtn1_DOM_STATUS_LAST_ANSWER, F.mtn1_DOM_STATUS_REFUSE_REASON, F.mtn1_DOM_STATUS_WAKE_FAIL] ++
    [F.mtn1_DOM_STATUS_FAIL_STAGE, F.mtn1_DOM_STATUS_RETENTION_LOST, F.mtn1_DOM_STATUS_LOST_BANKS, F.mtn1_DOM_COUNTS_ENTRIES, F.mtn1_DOM_COUNTS_WAKES, F.mtn1_DOM_COUNTS_REPLAYS, F.mtn1_DOM_COUNTS_RETRIES, F.mtn1_DOM_CMD_RETRY_WAKE, F.mtn1_ASLEEP, F.mtn1_FAILED]
  | .mtn2 =>
    [F.mtn2_AVS_CFG_VDD_LOW_MV, F.mtn2_AVS_CFG_STEP_MV, F.mtn2_AVS_STATUS_BUSY, F.mtn2_AVS_STATUS_VDD_LOW_UP, F.mtn2_AVS_STATUS_NO_ACK, F.mtn2_AVS_STATUS_FALLBACKS]
  | .pwc0 =>
    [F.pwc0_CAP_CFG_ENABLE, F.pwc0_CAP_CFG_GAIN, F.pwc0_CAP_CFG_CAP_W, F.pwc0_CAP_STATUS_CAP_IN_FORCE, F.pwc0_CAP_STATUS_CAP_PENDING, F.pwc0_CAP_STATUS_CAP_UNMET, F.pwc0_CAP_STATUS_UNCALIBRATED, F.pwc0_CAP_STATUS_AT_FLOOR, F.pwc0_CAP_STATUS_RATIO, F.pwc0_CAP_STATUS_LEVEL, F.pwc0_CAP_STATUS_LIMIT, F.pwc0_CAP_STATUS_P_EST_W] ++
    [F.pwc0_LIMITS_CAP_T, F.pwc0_LIMITS_CAP_I, F.pwc0_LIMITS_ICORE_A, F.pwc0_VOLT_CFG_VDD_NOM_MV, F.pwc0_VOLT_CFG_VDD_FLOOR_MV, F.pwc0_VOLT_CFG_VSTEP_R, F.pwc0_VOLT_STATUS_SETPOINT_MV, F.pwc0_VOLT_STATUS_STEP_BUSY, F.pwc0_VOLT_STATUS_STEPS, F.pwc0_VOLT_STATUS_NO_ACK, F.pwc0_ICC_CFG_ICC_LIMIT_A, F.pwc0_CAL_CMD_START] ++
    [F.pwc0_CAL_CMD_USE_FUSED, F.pwc0_CAL_STATUS_STATE, F.pwc0_CAL_STATUS_RESIDUAL, F.pwc0_PACE_CFG_PACE_BASE_NS, F.pwc0_PACE_STATUS_PACE_NOW, F.pwc0_PACE_STATUS_ADVERTISED, F.pwc0_PACE_STATUS_P_GROUP]
  | .pwc1 =>
    [F.pwc1_ENERGY, F.pwc1_Q_SEL_PORT, F.pwc1_Q_SEL_QUEUE, F.pwc1_Q_ENERGY]
  | .pwc2 =>
    [F.pwc2_THERM_CFG_T_THROTTLE, F.pwc2_THERM_CFG_T_CRIT, F.pwc2_THERM_CFG_THERM_STEP_W, F.pwc2_THERM_STATUS_HOTTEST, F.pwc2_THERM_STATUS_HOTTEST_SENSOR, F.pwc2_THERM_STATUS_SENSOR_FAULT, F.pwc2_DROOP_CFG_THRESH_MV, F.pwc2_DROOP_COUNTS_STRETCHES, F.pwc2_DROOP_COUNTS_OVERRUNS, F.pwc2_DROOP_SEEN, F.pwc2_TEMP]
  | .pwc3 =>
    [F.pwc3_THROTTLE_NS, F.pwc3_THROTTLE_ENTRIES]
  | .gnt0 =>
    [F.gnt0_SUMMARY_WORDS, F.gnt0_SUMMARY_HIGHEST, F.gnt0_SUMMARY_SAFE, F.gnt0_SUMMARY_FATAL, F.gnt0_SUMMARY_INJ_ANY, F.gnt0_SUMMARY_ESCALATION, F.gnt0_SUMMARY_SELF_PARITY, F.gnt0_SUMMARY_LATCHES, F.gnt0_LINE_SEL_LINE, F.gnt0_LINE_INFO_PAGE, F.gnt0_LINE_INFO_CLASS, F.gnt0_LINE_INFO_CAUSE] ++
    [F.gnt0_LINE_INFO_QUENCHED_LAST, F.gnt0_LINE_INFO_ESCALATED, F.gnt0_LINE_INFO_RESETS, F.gnt0_LINE_INFO_LATCH_COUNT, F.gnt0_LINE_INFO_INJ, F.gnt0_LINE_LAST_NS, F.gnt0_LINE_LAST_FRAC, F.gnt0_LINE_LAST_TQ, F.gnt0_INJ_CFG_REACT, F.gnt0_INJ_CFG_ALLOW_SAFE, F.gnt0_LINE_STATUS, F.gnt0_INJ_STATUS]
  | .gnt1 =>
    [F.gnt1_SCRUB_CFG_ENABLE, F.gnt1_SCRUB_CFG_PERIOD_S, F.gnt1_SCRUB_CFG_REPAIR_THRESH, F.gnt1_SCRUB_STATUS_PASSES, F.gnt1_SCRUB_STATUS_REPAIRS, F.gnt1_SCRUB_STATUS_EXHAUSTED, F.gnt1_SEAM_CFG_WIRE_THRESH, F.gnt1_IOD_SEAM_STATUS_SPARES_UP, F.gnt1_IOD_SEAM_STATUS_SPARES_DOWN, F.gnt1_IOD_SEAM_STATUS_FLIT_UNCORRECTABLE, F.gnt1_IOD_SEAM_STATUS_EXHAUSTED]
  | .gnt2 =>
    [F.gnt2_SNAP_SEL_SLOT, F.gnt2_SNAP_STATUS_SLOT0_VALID, F.gnt2_SNAP_STATUS_SLOT1_VALID, F.gnt2_SNAP_STATUS_LATEST, F.gnt2_SNAP_STATUS_SNAP_SEQ, F.gnt2_WINDOW]
  | .gnt3 =>
    [F.gnt3_WEAR_SEL_KIND, F.gnt3_WEAR_SEL_INSTANCE, F.gnt3_WEAR_STATUS_STATE, F.gnt3_WEAR_STATUS_MONTHS, F.gnt3_WEAR_STATUS_MONTHS_90, F.gnt3_WEAR_STATUS_HOURS, F.gnt3_WEAR_CFG_WARN_MONTHS, F.gnt3_WEAR_SUMMARY_WORST_MONTHS_90, F.gnt3_WEAR_SUMMARY_WORST_KIND, F.gnt3_WEAR_SUMMARY_WORST_INSTANCE]
  | .crn0 =>
    [F.crn0_CROWN_STATUS_ACTIVE_PAIR, F.crn0_CROWN_STATUS_STANDBY_STATE, F.crn0_CROWN_STATUS_UPDATE_STATE, F.crn0_CROWN_STATUS_LATE, F.crn0_CROWN_STATUS_TAKEOVERS, F.crn0_CROWN_STATUS_SWITCHES, F.crn0_FW_STANDBY, F.crn0_SVN_RUNNING, F.crn0_SVN_FLOOR, F.crn0_CONFIRM_S, F.crn0_STAGED]
  | .crn1 =>
    [F.crn1_MB_DESC, F.crn1_MB_DOORBELL_GO, F.crn1_MB_STATUS_BUSY, F.crn1_MB_STATUS_DONE]
  | .crn2 =>
    [F.crn2_CR_BASE, F.crn2_CR_CFG_ENABLE, F.crn2_CR_CFG_LOG2_SIZE, F.crn2_CR_TAIL, F.crn2_CR_HEAD, F.crn2_CR_STATUS_STOPPED, F.crn2_CR_STATUS_FETCH_ERR]
  | .cxl0 =>
    [F.cxl0_LINK_STATUS_UP, F.cxl0_LINK_STATUS_MODE, F.cxl0_LINK_STATUS_WIDTH, F.cxl0_LINK_STATUS_RATE, F.cxl0_LINK_STATUS_CACHE_EN, F.cxl0_LINK_STATUS_MEM_EN, F.cxl0_LINK_STATUS_ATS_EN, F.cxl0_LINK_STATUS_LINK_DOWNS, F.cxl0_BAD_ACCESS_KIND, F.cxl0_BAD_ACCESS_COUNT, F.cxl0_BAD_ADDR, F.cxl0_HDM_STATUS_MEM_ACTIVE] ++
    [F.cxl0_HDM_STATUS_SIZE_256M, F.cxl0_ATS_STATUS_ATC_USED, F.cxl0_ATS_STATUS_INVALIDATIONS]
  | .ddr0 =>
    [F.ddr0_DDR_CFG_MAX_SPEED, F.ddr0_DDR_STATUS_AVAILABLE, F.ddr0_DDR_STATUS_SPEED, F.ddr0_DDR_STATUS_CHANNELS, F.ddr0_DDR_STATUS_WARM_RETAINED, F.ddr0_DDR_STATUS_CAPACITY_GIB, F.ddr0_LAYOUT_CFG_RETX_GIB, F.ddr0_REGION_BASE, F.ddr0_REGION_SIZE, F.ddr0_ARB_CFG_HOST_MIN_PCT, F.ddr0_ARB_CFG_HOST_MAX_INFLIGHT, F.ddr0_SCRUB_CFG_ENABLE] ++
    [F.ddr0_SCRUB_CFG_PERIOD_H, F.ddr0_BW_STATUS_WRITE_GBPS, F.ddr0_BW_STATUS_READ_GBPS, F.ddr0_BW_STATUS_INFLIGHT_PEAK, F.ddr0_SHADOW_LOST]
  | .ddrc =>
    [F.ddrc_CH_STATUS_POPULATED, F.ddrc_CH_STATUS_TRAINED, F.ddrc_CH_STATUS_IN_USE, F.ddrc_CH_STATUS_X4, F.ddrc_CH_STATUS_RANKS, F.ddrc_CH_STATUS_CAPACITY_GIB, F.ddrc_CH_STATUS_FAIL_CODE, F.ddrc_MARGIN_READ_MARGIN, F.ddrc_MARGIN_WRITE_MARGIN, F.ddrc_MARGIN_CHECKS, F.ddrc_ECC_COUNTS_CORRECTED, F.ddrc_ECC_COUNTS_UNCORRECTABLE] ++
    [F.ddrc_ERR_ADDR, F.ddrc_TEMP_DRAM_TEMP, F.ddrc_TEMP_DOUBLE_REFRESH]
  | .plain => []

/-- The fields of the common header (R45), on every present page. -/
def hdrFields : List Fld :=
  [F.hdr_PAGE_ID_TYPE, F.hdr_PAGE_ID_INSTANCE, F.hdr_PAGE_ID_VERSION, F.hdr_CAP_PTR_PAGE, F.hdr_CAP_PTR_OFFSET, F.hdr_PAGE_CTRL_BLOCK_RESET, F.hdr_PAGE_CTRL_USER_READ, F.hdr_PAGE_STATUS_CONFIGURED, F.hdr_PAGE_STATUS_RESET_BUSY] ++
  [F.hdr_PAGE_STATUS_QUENCH_ACTIVE, F.hdr_PAGE_STATUS_ASLEEP, F.hdr_PAGE_STATUS_WRITE_DROPPED, F.hdr_PAGE_STATUS_ERR_LINE, F.hdr_ERR_STATUS_REAL, F.hdr_ERR_STATUS_QUENCHED, F.hdr_ERR_STATUS_INJECTED, F.hdr_ERR_MASK_MASK, F.hdr_ERR_INJECT_INJECT] ++
  [F.hdr_ERR_CLASS_MAP_CLASS, F.hdr_PWR_VOTE_STATE, F.hdr_PWR_STATE_CURRENT, F.hdr_PWR_STATE_IN_TRANSITION, F.hdr_PWR_STATE_TARGET, F.hdr_PWR_STATE_WAKE_FAIL, F.hdr_PWR_STATE_FAIL_STAGE, F.hdr_PWR_STATE_DOMAIN_PAGE, F.hdr_QUENCH_CFG_WINDOW]

/-- One range of R42: first and last page, TYPE, and the index of its first page. -/
structure Range where
  first : Nat
  last : Nat
  type : Nat
  base : Nat
  deriving DecidableEq, Repr

/-- R42, in its order. -/
def ranges : List Range :=
  [⟨0x0000, 0x0000, 0x01, 0⟩, ⟨0x0001, 0x000F, 0x02, 0⟩, ⟨0x0010, 0x001F, 0x03, 0⟩, ⟨0x0020, 0x002F, 0x04, 0⟩] ++
  [⟨0x0030, 0x003F, 0x05, 0⟩, ⟨0x0040, 0x004F, 0x06, 0⟩, ⟨0x0050, 0x006F, 0x07, 0⟩, ⟨0x0070, 0x00AF, 0x08, 0⟩] ++
  [⟨0x00B0, 0x00FF, 0x09, 0⟩, ⟨0x0100, 0x013F, 0x0A, 0⟩, ⟨0x0140, 0x023F, 0x0B, 0⟩, ⟨0x0240, 0x02FF, 0x0C, 0⟩] ++
  [⟨0x0300, 0x033F, 0x0D, 0⟩, ⟨0x0340, 0x037F, 0x0E, 0⟩, ⟨0x0380, 0x038F, 0x0F, 0⟩, ⟨0x0400, 0x041F, 0x10, 0⟩] ++
  [⟨0x0420, 0x043F, 0x11, 32⟩, ⟨0x0440, 0x045F, 0x12, 0⟩, ⟨0x0480, 0x04A3, 0x13, 0⟩, ⟨0x04A4, 0x04A4, 0x14, 36⟩] ++
  [⟨0x0500, 0x0507, 0x15, 0⟩, ⟨0x0580, 0x05FF, 0x16, 0⟩, ⟨0x0800, 0x0BFF, 0x17, 0⟩, ⟨0x0C00, 0x0FFF, 0x18, 0⟩] ++
  [⟨0x1000, 0x13FF, 0x19, 0⟩, ⟨0x1400, 0x17FF, 0x1A, 1024⟩, ⟨0x1800, 0x180F, 0x1B, 2048⟩, ⟨0x1810, 0x182F, 0x1C, 2064⟩] ++
  [⟨0x1830, 0x184F, 0x1D, 2096⟩, ⟨0x1900, 0x1AFF, 0x1E, 2304⟩, ⟨0x1B00, 0x1B3F, 0x1F, 2816⟩, ⟨0x1B40, 0x1C3F, 0x20, 2880⟩]

/-- The range a page lies in, if it is present (R43). -/
def rangeOf (page : Nat) : Option Range :=
  ranges.find? fun r => decide (r.first ≤ page) && decide (page ≤ r.last)

/-- R43: a page that falls in no range is absent. -/
def present (page : Nat) : Bool := (rangeOf page).isSome

/-- A run of pages of one kind. -/
structure Span where
  first : Nat
  last : Nat
  kind : Layout
  deriving DecidableEq, Repr

/-- The pages that hold registers above the header, by kind. -/
def spans : List Span :=
  [⟨0x0000, 0x0000, .idn⟩, ⟨0x0001, 0x0001, .cap⟩, ⟨0x0010, 0x0010, .crn0⟩, ⟨0x0011, 0x0011, .crn1⟩, ⟨0x0012, 0x0012, .crn2⟩] ++
  [⟨0x0020, 0x0020, .gnt0⟩, ⟨0x0021, 0x0021, .gnt1⟩, ⟨0x0022, 0x0022, .gnt2⟩, ⟨0x0023, 0x0023, .gnt3⟩, ⟨0x0030, 0x0030, .mtn0⟩] ++
  [⟨0x0031, 0x0031, .mtn1⟩, ⟨0x0032, 0x0032, .mtn2⟩, ⟨0x0040, 0x0040, .pwc0⟩, ⟨0x0041, 0x0041, .pwc1⟩, ⟨0x0042, 0x0042, .pwc2⟩] ++
  [⟨0x0043, 0x0043, .pwc3⟩, ⟨0x0050, 0x0050, .hbd0⟩, ⟨0x0051, 0x0051, .hbd1⟩, ⟨0x0052, 0x0052, .hbd2⟩, ⟨0x0053, 0x0053, .hbd3⟩] ++
  [⟨0x0054, 0x0054, .hbd4⟩, ⟨0x0055, 0x0055, .hbd5⟩, ⟨0x0058, 0x0058, .hbd8⟩, ⟨0x0059, 0x0059, .hbd9⟩, ⟨0x005A, 0x005A, .hbd10⟩] ++
  [⟨0x0070, 0x0070, .ldg0⟩, ⟨0x0071, 0x0071, .ldg1⟩, ⟨0x0072, 0x0072, .ldg2⟩, ⟨0x0090, 0x00AF, .ldgs⟩, ⟨0x00B0, 0x00B0, .vsr0⟩] ++
  [⟨0x00B2, 0x00B2, .vsr2⟩, ⟨0x00C0, 0x00CF, .vsre⟩, ⟨0x00D0, 0x00DF, .hr⟩, ⟨0x00E0, 0x00FF, .trc⟩, ⟨0x0100, 0x013F, .mrg⟩] ++
  [⟨0x0140, 0x023F, .rel⟩, ⟨0x0240, 0x0240, .ses0⟩, ⟨0x0241, 0x0280, .sesq⟩, ⟨0x0300, 0x0300, .tbl0⟩, ⟨0x0301, 0x0301, .tbl1⟩] ++
  [⟨0x0302, 0x0302, .tbl2⟩, ⟨0x0303, 0x0303, .tbl3⟩, ⟨0x0310, 0x031F, .tblq⟩, ⟨0x0340, 0x0340, .ddr0⟩, ⟨0x0348, 0x034F, .ddrc⟩] ++
  [⟨0x0380, 0x0380, .cxl0⟩, ⟨0x0400, 0x041F, .slii⟩, ⟨0x0420, 0x043F, .slie⟩, ⟨0x0440, 0x045F, .ucs⟩, ⟨0x0480, 0x04A3, .bufg⟩] ++
  [⟨0x04A4, 0x04A4, .bufx⟩, ⟨0x0500, 0x0507, .til⟩, ⟨0x0580, 0x05FF, .oct⟩, ⟨0x0800, 0x0BFF, .lan⟩, ⟨0x0C00, 0x0FFF, .prt⟩] ++
  [⟨0x1000, 0x13FF, .cntp⟩, ⟨0x1400, 0x17FF, .cntq⟩, ⟨0x1800, 0x180F, .cntg⟩, ⟨0x1810, 0x182F, .cnti⟩, ⟨0x1830, 0x184F, .cnte⟩] ++
  [⟨0x1900, 0x1AFF, .cnts⟩, ⟨0x1B00, 0x1B3F, .cntm⟩, ⟨0x1B40, 0x1C3F, .cntr⟩]

/-- The kind of a page: `plain` for one that holds only the common header. -/
def layoutOf (page : Nat) : Layout :=
  match spans.find? fun r => decide (r.first ≤ page) && decide (page ≤ r.last) with
  | some r => r.kind
  | none => .plain

/-- The class floors of a page's causes, cause 0 first; in stepping A0 every default class equals its floor
(R106, R130, R169, R172, R203, R244, R288, R322, R351, R384, R407, R430, R451, R478, R511, R512, R531). -/
def causeFloors : Layout → List Nat
  | .hbd0 => [0, 0, 0, 0, 0, 1, 0, 2, 3, 3, 0, 2, 0, 0, 0, 1]
  | .prt => [0, 0, 0, 0, 0, 0, 0, 0, 0, 2]
  | .til => [2, 0, 2, 2, 2, 0, 0, 2, 2]
  | .ucs => [1, 1, 2, 0, 0, 2, 0, 0, 0]
  | .tbl0 => [0, 0, 0, 0, 0, 0, 0, 1, 1, 2, 2, 0]
  | .slii => [0, 0, 0]
  | .slie => [0, 0, 0, 2]
  | .bufg => [0, 1, 1, 2, 1]
  | .bufx => [0, 2, 2, 0, 2]
  | .mrg => [0, 0, 0, 0, 0, 0, 0, 2]
  | .rel => [0, 0, 0, 0, 0, 2]
  | .ses0 => [0, 0, 0, 0, 0, 0, 0, 0, 0, 1, 2]
  | .ldg0 => [0, 0, 0, 2, 1, 2, 3, 0, 1, 0, 2, 4]
  | .vsr0 => [0, 0, 0, 0, 1, 2]
  | .mtn0 => [2, 3, 1, 0, 0, 1, 1, 2]
  | .pwc0 => [0, 0, 2, 4, 0, 0, 0, 1, 0, 0]
  | .gnt0 => [3, 0, 2, 1, 0, 0, 0, 0, 0, 3]
  | .crn0 => [2, 2, 4, 2, 0, 0, 0, 2, 0]
  | .cxl0 => [0, 0, 0, 0, 0, 0, 0, 2]
  | .ddr0 => [2, 0, 2, 0]
  | .ddrc => [0, 1, 2, 0, 0, 0]
  | .idn | .cap | .hbd1 | .hbd2 | .hbd3 | .hbd4 | .hbd5 | .hbd8 | .hbd9 | .hbd10 | .lan | .oct
  | .tbl1 | .tbl2 | .tbl3 | .tblq | .hr | .sesq | .ldg1 | .ldg2 | .ldgs | .vsr2 | .vsre | .trc
  | .cntp | .cntq | .cntg | .cnti | .cnte | .cnts | .cntm | .cntr | .mtn1 | .mtn2 | .pwc1 | .pwc2
  | .pwc3 | .gnt1 | .gnt2 | .gnt3 | .crn1 | .crn2 | .plain => []

/-- R49, R169 and its like: the class floor of a cause; an undefined cause has floor FC0. -/
def classFloor (page cause : Nat) : Nat := (causeFloors (layoutOf page)).getD cause 0

/-- R409: the domain a page carries, numbered as the table numbers it. -/
def domainOfPage (page : Nat) : Option Nat :=
  if 0x400 ≤ page ∧ page ≤ 0x41F then some (page - 0x400)
  else if 0x580 ≤ page ∧ page ≤ 0x5FF then some (32 + (page - 0x580))
  else if 0x480 ≤ page ∧ page ≤ 0x4A3 then some (160 + (page - 0x480))
  else if 0x348 ≤ page ∧ page ≤ 0x34F then some (196 + (page - 0x348))
  else if page = 0x380 then some 204
  else if page = 0x010 then some 205
  else if page = 0x050 then some 206
  else if page = 0x070 then some 207
  else if page = 0x020 then some 208
  else none

/-- R409: the page that carries a domain. -/
def pageOfDomain (d : Nat) : Nat :=
  if d < 32 then 0x400 + d
  else if d < 160 then 0x580 + (d - 32)
  else if d < 196 then 0x480 + (d - 160)
  else if d < 204 then 0x348 + (d - 196)
  else if d = 204 then 0x380
  else if d = 205 then 0x010
  else if d = 206 then 0x050
  else if d = 207 then 0x070
  else 0x020

/-- R55: first page and page count of the directory's entries, in order; the CAP_ID of entry `i` is `i + 1`. -/
def capEntries : List (Nat × Nat) :=
  [(0x0050, 32), (0x0050, 32), (0x0C00, 1024), (0x0C00, 1024), (0x0100, 64)] ++
  [(0x0140, 256), (0x0240, 192), (0x0070, 64), (0x00B0, 80), (0x1000, 4096)] ++
  [(0x04A4, 1), (0x0010, 16), (0x0040, 16), (0x0020, 16), (0x0380, 16)]

/-- R45, CAP_PTR: the index of the first entry whose PAGE lies in the page's range; on page 0 the directory's first. -/
def capIndexFor (page : Nat) : Option Nat :=
  if page = 0 then some 0 else
  match rangeOf page with
  | none => none
  | some r => capEntries.findIdx? fun e => decide (r.first ≤ e.1) && decide (e.1 ≤ r.last)

/-- What hardware loads into a field whose Reset cell reads HW, for register `i` of its run. -/
def hwReset (k : HwKind) (page i j : Nat) : Nat :=
  let rg := (ranges[i]?).getD ⟨0, 0, 0, 0⟩
  let cap := capEntries.getD i (0, 0)
  match k with
  | .pageType => match rangeOf page with | some r => r.type | none => 0
  | .instanceIndex => match rangeOf page with | some r => r.base + (page - r.first) | none => 0
  | .capPage => if (capIndexFor page).isSome then 1 else 0
  | .capOff => match capIndexFor page with | some n => 0x080 + 16 * n | none => 0
  | .configured => if layoutOf page = .prt then (if page % 8 = 0 then 1 else 0) else 1
  | .classDefault => classFloor page j
  | .domainPage => if (domainOfPage page).isSome then 1 else 0
  | .rangeFirst => rg.first
  | .rangeLast => rg.last
  | .rangeType => rg.type
  | .rangeCount => rg.last + 1 - rg.first
  | .capId => i + 1
  | .capVersion => 1
  | .capFirst => cap.1
  | .capCount => cap.2
  | .capNextPage => if i < 14 then 1 else 0
  | .capNextOff => if i < 14 then 0x090 + 16 * i else 0
  | .portWidth => if page % 8 = 0 then 3 else 0
  | .tc7Backing => if page ≤ 0x481 then 1 else 0

/-- R7: the value of a field after the reset that clears its page. -/
def Fld.resetVal (f : Fld) (page i j : Nat) : Nat :=
  match f.rst with
  | .val v => v
  | .index => j
  | .hw k => hwReset k page i j

/-- R36: the bit address in BAR0 of field `(i, j)` of a page. -/
def Fld.key (f : Fld) (page i j : Nat) : Nat :=
  page * 0x8000 + (f.off + f.stride * i) * 8 + f.lo + f.bst * j

/-- The page of a bit address. -/
def pageOfKey (k : Nat) : Nat := k / 0x8000

end Sys2Proof.Machine
end

