-- ==== Sys2Proof/Machine/Sparse.lean ====
section
/-! DEFINITION. Sparse maps: sorted lists of (key, value) pairs. An unlisted key holds the map's default. Registers,
memories and tables of instances are held in them. -/

namespace Sys2Proof.Machine

/-- A sparse map: keys strictly rising in every map the machine builds. -/
abbrev SMap (α : Type) := List (Nat × α)

/-- The value listed for a key. -/
def SMap.at? {α : Type} : SMap α → Nat → Option α
  | [], _ => none
  | (a, x) :: r, k => if a = k then some x else SMap.at? r k

/-- The value of a key, `d` where the map lists none. -/
def SMap.val {α : Type} (d : α) (m : SMap α) (k : Nat) : α := (m.at? k).getD d

/-- The map without a key. -/
def SMap.del {α : Type} (m : SMap α) (k : Nat) : SMap α := m.filter fun p => p.1 != k

/-- A pair put at its place among sorted keys. -/
def SMap.place {α : Type} (k : Nat) (v : α) : SMap α → SMap α
  | [] => [(k, v)]
  | (a, x) :: r => if k < a then (k, v) :: (a, x) :: r else (a, x) :: SMap.place k v r

/-- The map with a key listed at a value. -/
def SMap.enter {α : Type} (m : SMap α) (k : Nat) (v : α) : SMap α := SMap.place k v (m.del k)

/-- The map with a key at a value; the default is not listed. -/
def SMap.put {α : Type} [DecidableEq α] (d : α) (m : SMap α) (k : Nat) (v : α) : SMap α :=
  if v = d then m.del k else m.enter k v

/-- The keys rise strictly. -/
def SMap.sorted {α : Type} : SMap α → Bool
  | [] => true
  | [_] => true
  | (a, _) :: (b, y) :: r => decide (a < b) && SMap.sorted ((b, y) :: r)

/-- The canonical form: keys rise strictly, and no entry holds the default. -/
def SMap.wf {α : Type} [DecidableEq α] (d : α) (m : SMap α) : Bool :=
  m.sorted && m.all fun p => decide (p.2 ≠ d)

end Sys2Proof.Machine
end

