-- ==== Sys2Proof/Machine/State.lean ====
section
/-! DEFINITION. The state of the device: its registers, what its blocks hold besides registers, its memories, the
commands waiting, what it has sent, and the state right after a power-on reset. -/

namespace Sys2Proof.Machine

/-- What leaves the device. -/
inductive Output where
  /-- An MSI-X message of a vector, to the address and with the data that its table entry holds (R35, R57). -/
  | msix (vector address data : Nat)
  /-- A frame on a port's lanes, FCS included; `stomped` when its FCS is complemented (R268). -/
  | frame (port : Nat) (bytes : List Byte) (stomped : Bool)
  /-- A PFC frame: priorities named and the quanta of each (R161). -/
  | pfc (port : Nat) (priorities : Nat) (quanta : Nat)
  /-- A protocol message of a port: what it is and its content as numbers. -/
  | message (port : Nat) (kind : String) (content : List Nat)
  /-- Bytes written into host memory (R487). -/
  | hostWrite (address : Nat) (bytes : List Byte)
  /-- A pin's new level. -/
  | pin (name : String) (level : Bool)
  /-- A ToD sentence (R69). -/
  | sentence (bytes : List Byte)
  /-- An AVSBus request of a rail, in mV (R421). -/
  | avs (rail : String) (mv : Nat)
  /-- The completion of a host read or of a DOE exchange. -/
  | reply (kind : String) (content : List Nat)
  deriving DecidableEq, Repr

/-- The front of the host's accesses besides registers. -/
structure HostFront where
  /-- MSI-X vectors the host has unmasked (R57). All masked after reset: PRESUMED, PCI's reset value (log entry 9). -/
  unmasked : SMap Bool
  /-- MSI-X pending bits (R57). -/
  pba : SMap Bool
  /-- Address and data of the MSI-X table's entries (R35). 0 after reset: DESIGN CHOICE (log entry 9). -/
  table : SMap (Nat × Nat)
  /-- Companion words latched by NS reads, keyed by the BAR0 offset of the NS register (R12). -/
  latch : SMap Nat
  /-- Companion words staged by companion writes, keyed by the BAR0 offset of the NS register (R13). -/
  staged : SMap Nat
  deriving DecidableEq, Repr

/-- What the error and W1C latches hold besides their registers. -/
structure Latches where
  /-- The last MGMT cycle in which a hardware event set a W1C bit, and what events set in it: by bit address, 1, or for a W1C
  count the events it counted (R4). -/
  cycle : Nat
  set : SMap Nat
  /-- Causes that fired inside a quench window that is still open, by page and cause (R48, R459). -/
  fired : List (Nat × Nat)
  /-- The class in force when a REAL bit last latched, by page x 16 + cause (R49). -/
  classes : SMap Nat
  deriving DecidableEq, Repr

/-- What Hatband holds of one reference entry besides its registers (R64, R65). -/
structure RefRec where
  /-- The first measurement since the entry entered QUALIFYING, by the reference's time. -/
  qualStart : Option T80 := none
  /-- From when it has stayed QUALIFIED, on the clock of `State.mono`. -/
  qualifiedAt : T80 := 0
  /-- The last label, PPS_TOD. -/
  label : Option Nat := none
  /-- Consecutive measurements beyond OUT_LOCK. -/
  beyond : Nat := 0
  /-- The REF_CFG word in force, where a write of the SELECTED entry's waits for its next measurement (R65). -/
  held : Option Nat := none
  deriving DecidableEq, Repr

/-- An edge of a PPS input (R64, R71): its instant on the clock of `State.mono`, the entries on it then as bits, whether it
did not follow the one before it as R64 asks, whether a sentence has labelled it, and the cycles of the 10 MHz inputs over
its second. -/
structure PpsEdge where
  at_ : T80
  entries : Nat := 0
  bad : Bool := false
  labelled : Bool := false
  cycles0 : Option Nat := none
  cycles1 : Option Nat := none
  deriving DecidableEq, Repr

/-- A PPS input (R573, R71): its edges of the last second, newest first, and the edges missed since. -/
structure PpsIn where
  edges : List PpsEdge := []
  missed : Nat := 0
  deriving DecidableEq, Repr

/-- The last good measurement (R80): its instant on the clock of `State.mono`, absolute offset in 1/65,536 ns, frequency uncertainty in ppt, and
upstream uncertainty in ns. -/
structure GoodMeas where
  at_ : T80
  offset : Nat
  sigma : Nat
  up : Nat
  deriving DecidableEq, Repr

/-- A frequency history record (R83), with its CRC-32C. -/
structure HistRec where
  freq : Nat
  slope : Nat
  slopeValid : Bool
  at_ : T80
  seq : Nat
  crc : Nat
  deriving DecidableEq, Repr

/-- A peer entry of a port (R90). Role 0 FREE, 1 SOURCE, 2 RECEIVER, 3 BOTH. -/
structure Peer where
  identity : Nat := 0
  portNumber : Nat := 0
  role : Nat := 0
  isStatic : Bool := false
  transport : Nat := 0
  clockClass : Nat := 0
  stepsRemoved : Nat := 0
  denoon : Bool := false
  grandmaster : Nat := 0
  /-- LAST_HEARD; and on the clock of `State.mono`, the last message, the last Sync and the last Announce. -/
  heard : T80 := 0
  seen : T80 := 0
  lastSync : T80 := 0
  lastAnnounce : T80 := 0
  /-- The mean path delay, in 1/65,536 ns (R63). -/
  delay : Int := 0
  address : Nat := 0
  /-- A two-step Sync that waits for its Follow_Up: its sequence number, and its arrival less its correction (R63). -/
  syncIn : Option (Nat × Int) := none
  /-- The last Sync's origin and arrival, corrected. -/
  t1 : Int := 0
  t2 : Int := 0
  /-- A two-step Pdelay_Resp that waits for its Follow_Up: its sequence number, and its arrival and the request's there less
  its correction (R87). -/
  pdelay : Option (Nat × Int) := none
  deriving DecidableEq, Repr

/-- A port's PTP configuration, shown through PORT_SEL, and what it has sent (R63, R88). -/
structure PtpPort where
  /-- PORT_CFG bits [31:0]; the reset value has LOG_SYNC 0xC. -/
  cfg : Nat := 0xC00
  refused : Nat := 0
  asym : Nat := 0
  /-- The sequence number and the departure of the last Delay_Req or Pdelay_Req. -/
  t3 : Option (Nat × T80) := none
  /-- The sequence numbers of the next Sync, Announce and delay request. -/
  syncSeq : Nat := 0
  announceSeq : Nat := 0
  delaySeq : Nat := 0
  /-- When the last Sync and the last Announce left, on the clock of `State.mono`. -/
  syncAt : Option T80 := none
  announceAt : Option T80 := none
  deriving DecidableEq, Repr

/-- What Hatband holds besides registers. -/
structure Hatband where
  refs : SMap RefRec
  pps : SMap PpsIn
  /-- The offset SLEW has still to correct, in units of 2^-48 ns (R78). -/
  slewLeft : Int
  /-- The code stamps carry, and the changes committed and not yet in effect, oldest first: E and code (R118). -/
  stampTq : Nat
  tqChanges : List (T80 × Nat)
  /-- The changes in effect, newest first: E and code; before the oldest, the code is 0x4 (R118). -/
  tqPast : List (T80 × Nat)
  /-- What the steps of TIME come to, in 1/65,536 ns (R79): TIME less this is the clock of `State.mono`. -/
  stepped : Int
  /-- The last TAI second boundary: its second, and the state, TQ and uncertainty that held at it (R72). -/
  boundary : Nat × Nat × Nat × Nat
  /-- TQ and holdover uncertainty the upstream reports (R97). -/
  upTq : Nat
  upUnc : Nat
  /-- The time of day has been set since power-up (R75). -/
  todSet : Bool
  /-- The selected entry has not been measured since its selection (R67, R82). -/
  fresh : Bool
  /-- The last switch-over: its instant on the clock of `State.mono`, and the entry that was SELECTED before it (R66). -/
  switchAt : Option T80
  switchFrom : Nat
  /-- Start of the unbroken agreement within 10 ns, on the clock of `State.mono` (R76, R82). -/
  agreeing : Option T80
  good : Option GoodMeas
  /-- History slots in MRAM, and the last write on the clock of `State.mono` (R83). -/
  hist0 : Option HistRec
  hist1 : Option HistRec
  histSeq : Nat
  histAt : T80
  /-- Peer entries by port x 16 + entry, and ports (R88, R90). -/
  peers : SMap Peer
  ptp : SMap PtpPort
  /-- Tiles whose replica is being resynchronised, as bits (R61). -/
  resync : Nat
  /-- By tile, the instants between which its last resynchronisation runs: from the TIME cycle after the comparison that found it
  needed (R120) to its completion, if that has come. -/
  resyncAt : SMap (T80 × Option T80)
  /-- Group members by CHIP_ID: 1 + the instant of their last hello, and 1 + their last sequence (R93). -/
  members : SMap Nat
  helloSeqs : SMap Nat
  helloSeq : Nat
  /-- The clockIdentity the primary reports (R95). -/
  primaryIdentity : Nat
  /-- A PRIMARY_SWITCH is written and its instant has not come (R96). -/
  switchPending : Bool
  /-- ToD_OUT's next sequence number (R69). -/
  todSeq : Nat
  /-- PPS_OUT and CLK_OUT levels, the instants at which PPS_OUT falls on the clock of `State.mono`, and CLK_OUT's next edge
  (R102, R103). -/
  pps0 : Bool
  pps1 : Bool
  ppsFall0 : T80
  ppsFall1 : T80
  clk : Bool
  clkNext : Option T80
  /-- The Band processor has stopped (R86); TIME has stopped (R86). -/
  bandStopped : Bool
  timeStopped : Bool
  deriving DecidableEq, Repr

/-- The periodic instants handled: the last one of each key, in ns, and the ns from which none counts (the model's own
bookkeeping of which instants have passed, log entry 10). -/
structure Ticks where
  base : Nat
  last : SMap Nat
  deriving DecidableEq, Repr

/-- The trims and factory constants of one lane and rate, in 1/65,536 ns; `none`: OTP holds no constant (R126, R127). -/
structure CalRec where
  rxFactory : Option Int := some 0
  txFactory : Option Int := some 0
  rxStaged : Nat := 0
  txStaged : Nat := 0
  /-- The trims that the last APPLY put in force from its E on. -/
  rxTrim : Nat := 0
  txTrim : Nat := 0
  /-- The trims in force before that E. -/
  rxOld : Nat := 0
  txOld : Nat := 0
  /-- The trims saved in MRAM. -/
  rxSaved : Nat := 0
  txSaved : Nat := 0
  deriving DecidableEq, Repr

/-- A lane's receiver as its stamps see it (R121 to R123). Wander state 0 NOT_LOCKED, 1 REACQUIRE, 2 CLEAN, 3 SUSPECT. -/
structure Wander where
  state : Nat := 0
  frozen : Bool := false
  /-- Phases, in fs, of the last samples taken while not frozen, newest first, 1,024 at most. -/
  samples : List Int := []
  /-- Consecutive clean samples counted in REACQUIRE. -/
  clean : Nat := 0
  maxExcursion : Nat := 0
  lastExcursion : Nat := 0
  suspectStamps : Nat := 0
  invalidStamps : Nat := 0
  suspectEntries : Nat := 0
  freezes : Nat := 0
  oneStepDrops : Nat := 0
  /-- The fine-trim code and its last step, on the clock of `State.mono` (R121). -/
  trim : Int := 0
  trimAt : Option T80 := none
  /-- Deskew depth in UI on a port of several lanes (R113). -/
  deskew : Nat := 0
  deriving DecidableEq, Repr

/-- The stamp units (R108 to R129). -/
structure Stamps where
  /-- By lane x 8 + rate code. -/
  cal : SMap CalRec
  lanes : SMap Wander
  /-- E of the last APPLY (R127). -/
  applied : T80
  /-- An APPLY waits for its E: the (lane, rate) keys whose trims it changes. -/
  applying : Option (List Nat)
  deriving DecidableEq, Repr

/-- A microcode image as a bank holds it (R178): 256-bit words, dispatch entries and type-map entries by 256 x kind +
index, 256-bit key templates; its IMAGE_ID and the digest of its section's body. -/
structure Image where
  words : SMap Nat := []
  dispatch : SMap Nat := []
  typeMap : SMap Nat := []
  templates : SMap Nat := []
  id : Nat := 0
  digest : List Byte := []
  deriving DecidableEq, Repr

/-- A microcode section that Crown is loading: its place and length in DDR5, and whether its digest agreed (R498). -/
structure Section where
  address : Nat
  length : Nat
  intact : Bool
  deriving DecidableEq, Repr

/-- A slice's control store (R178 to R200). A location is ADDR + 4,096 x BANK + 8,192 x REGION, as in CS_SEL. -/
structure Store where
  a : Image := {}
  b : Image := {}
  /-- Locations that failed parity and await their golden repair; POISONED ones; those to be patched once rewritten. -/
  faulty : List Nat := []
  poisoned : List Nat := []
  repeats : List Nat := []
  /-- Parity events of a location, the newest first (R196). -/
  events : SMap (List T80) := []
  /-- Locations that a full patch table has left as they are (R196). -/
  left_ : List Nat := []
  /-- Contents of the patch entries. -/
  patches : SMap Nat := []
  loading : Option Section := none
  /-- When DRAINING was entered, and whether DRAIN_SLOW has been reported. -/
  since : T80 := 0
  slow : Bool := false
  deriving DecidableEq, Repr

/-- The Knuckle engines' stores, and the frames and replicas that wait for an engine, by 3 x slice + kind, in order of
arrival (R174). -/
structure Knuckle where
  stores : SMap Store
  lines : SMap (List Nat)
  /-- The MRAM image store: the image in force on each slice since its last bank switch (R550). -/
  kept : SMap Image
  deriving DecidableEq, Repr

/-- A partner's Denoon capability frame (R140). -/
structure DenoonCap where
  serial : Nat
  port : Nat
  width : Nat
  rates : Nat
  fec : Nat
  deriving DecidableEq, Repr

/-- What a port holds besides its page. -/
structure PortRec where
  /-- LINK_CFG in force since the last entry into WAIT_SIGNAL (R146). -/
  linkCfg : Nat := 0
  /-- Entry into the present ladder step (R142), and PLL lock seen in RETUNE. -/
  since : T80 := 0
  lockedAt : Option T80 := none
  /-- Rate code and FEC mode being tried. -/
  target : Nat := 0
  fec : Nat := 0
  /-- The limit of training in ns (R142). -/
  limit : Nat := 0
  /-- The partner's last CAP, the instant of the retune, CAP frames sent, and the last sending (R140, R141). -/
  cap : Option DenoonCap := none
  goAt : Option T80 := none
  capSeq : Nat := 0
  capAt : Option T80 := none
  /-- Lanes that have lost lock, with since when (R145). -/
  lost : SMap T80 := []
  /-- Ends of the pauses in force, by priority (R160). -/
  pauses : SMap T80 := []
  /-- The transmitters have had nothing to send since (R154). -/
  quietSince : T80 := 0
  /-- Verification, in the codes of PREEMPT_STATUS.VERIFY but 0x5; attempts sent, and the instant of the last (R164). -/
  verify : Nat := 0
  tries : Nat := 0
  tryAt : T80 := 0
  /-- An ETS_CFG write waiting for the next frame boundary (R163). -/
  etsNext : Option Nat := none
  deriving DecidableEq, Repr

/-- Equalisation of a lane at a rate: the words of EQ_TX, EQ_RX and EQ_DFE, the partner windows, and whether the host
set it (R148, R150). -/
structure EqEntry where
  tx : Nat
  rx : Nat
  dfe : Nat
  flags : Nat := 0
  winPre : Nat := 0
  winMain : Nat := 0
  winPost : Nat := 0
  deriving DecidableEq, Repr

/-- Brim and the Cuffs besides their pages. -/
structure Brim where
  ports : SMap PortRec
  /-- The board's table and the host's overrides, by lane x 8 + rate (R148, R150). -/
  eqTable : SMap EqEntry
  eqOver : SMap EqEntry
  /-- Transmit taps moved in training, by lane (R151). -/
  taps : SMap Nat
  /-- The CDR profile in force by lane, taken at its last RETUNE (R153). -/
  cdrProfile : SMap Nat
  /-- An octet PLL running, and since when it seeks its lock (R156). -/
  pllSince : SMap T80
  /-- Octets whose PLL is being retuned, and ports whose ENABLE waits for it (R134). -/
  retuning : List Nat
  enabling : List Nat
  /-- The last EYE refresh of each lane is due by the second (R167). -/
  eyeAt : SMap Nat
  deriving DecidableEq, Repr

/-- A place of a table (R219, R235): what it holds; while an earlier version is kept, the generation from which that is
visible and the earlier version; and an invisible version that an epoch has staged. -/
structure Place (α : Type) where
  now : Option α := none
  since : Option Nat := none
  before : Option α := none
  staged : Option (Option α) := none
  deriving DecidableEq, Repr

/-- An EMT entry (R209): key byte 0 is the most significant. -/
structure EmtEntry where
  key : Nat
  data : Nat
  isStatic : Bool
  learned : Bool
  stamp : Nat
  deriving DecidableEq, Repr

/-- An LPA entry (R212). -/
structure LpaEntry where
  value : Nat
  length : Nat
  data : Nat
  deriving DecidableEq, Repr

/-- A CLA entry (R216). -/
structure ClaEntry where
  value : Nat
  mask : Nat
  priority : Nat
  data : Nat
  deriving DecidableEq, Repr

/-- A learn event (R223). -/
structure LearnEv where
  port : Nat
  stamp : T80
  key : Nat
  deriving DecidableEq, Repr

/-- A command that is done and waits for its places to reach the shadow: its completion's fields (R233, R234), and the
places, by table and index. -/
structure CqDone where
  status : Nat
  gen : Nat := 0
  result : Nat := 0
  count : Nat := 0
  age : Nat := 0
  places : List (Nat × Nat)
  /-- COMMIT_GEN is GEN_NOW at completion (R229). -/
  late : Bool := false
  deriving DecidableEq, Repr

/-- A walk of the EMT by a queue's NEXT commands (R233): the index it returned last, how far it has come, and the keys of
entries that moved from ahead of it to behind it. -/
structure Walk where
  last : Nat
  at_ : Nat
  owed : List Nat := []
  deriving DecidableEq, Repr

/-- What a table engine does to entries in a cycle, in which R222 orders it: the oldest command of a queue, the effect of
the epoch, a learn, a move back from the stash, a visit of the sweeper. -/
inductive TableAct where
  | command (queue op : Nat) (path : List Nat) (choice : Nat)
  | effect (queue : Nat)
  | learn (path : List Nat)
  | back (entry : Nat)
  | visit (index : Nat)
  deriving DecidableEq, Repr

/-- A command queue besides its page (R230, R231). -/
structure Cq where
  /-- Descriptors that the host has posted and that have not been fetched. -/
  posted : List (List Byte) := []
  /-- Descriptors fetched and not completed, oldest first. -/
  fetched : List (List Byte) := []
  /-- The oldest one's command is done and waits for the shadow. -/
  done : Option CqDone := none
  /-- A GEN_DRAIN waits: its generation, since when, and whether it has been reported slow (R221). -/
  drain : Option (Nat × T80 × Bool) := none
  /-- The queue's walk of the EMT (R233). -/
  walk : Option Walk := none
  deriving DecidableEq, Repr

/-- An epoch (R235 to R237). -/
structure Epoch where
  /-- Staged places by table and index, in the order of staging. -/
  changes : List (Nat × Nat) := []
  /-- The queue whose EPOCH_COMMIT runs, and its EFFECT instant. -/
  queue : Option Nat := none
  effect : T80 := 0
  late : Bool := false
  /-- The generation it took effect at. -/
  gen : Nat := 0
  /-- A takeover of Crown interrupted its EPOCH_COMMIT (R502). -/
  failover : Bool := false
  deriving DecidableEq, Repr

/-- The epoch journal of MRAM (R237, R238): 0 none, 1 not SEALED, 2 SEALED, 3 APPLIED. -/
structure EpochJournal where
  phase : Nat := 0
  id : Nat := 0
  /-- The SHA-384 digest of the change list (R237). -/
  digest : List Byte := []
  /-- Slices armed for the epoch. -/
  slices : List Nat := []
  /-- The images that those slices take (R550). -/
  images : SMap Image := []
  /-- Its change list did not survive to the boot that resolved it (R238). -/
  lost : Bool := false
  deriving DecidableEq, Repr

/-- The three tables, their engines, and the shadow. -/
structure Tables where
  emt : SMap (Place EmtEntry)
  lpa : SMap (Place LpaEntry)
  /-- By 1,536 x slice + local index. -/
  cla : SMap (Place ClaEntry)
  cqs : SMap Cq
  epoch : Epoch
  journal : EpochJournal
  /-- The change list in DDR5: what each staged place becomes (R237). -/
  listEmt : SMap (Option EmtEntry)
  listLpa : SMap (Option LpaEntry)
  listCla : SMap (Option ClaEntry)
  /-- Learn events waiting, by slice, oldest first (R224). -/
  learns : SMap (List LearnEv)
  /-- Move-hold records: index and ingress NS, oldest first (R225). -/
  holds : List (Nat × Nat)
  /-- The shadow in DDR5, and places it has not yet taken, by table (1 EMT, 2 LPA, 3 CLA) and index (R240). -/
  shEmt : SMap EmtEntry
  shLpa : SMap LpaEntry
  shCla : SMap ClaEntry
  behind : List (Nat × Nat)
  /-- What has come in this cycle before something that R222 puts ahead of it. -/
  deferred : List TableAct
  deriving DecidableEq, Repr

/-- Where a frame stands (R24). -/
inductive Stage where
  /-- In its Cuff's ingress FIFO. -/
  | fifo
  /-- Waiting for an engine of a kind (R173, R174). -/
  | waiting (kind : Nat)
  /-- Held by an engine of a kind. -/
  | running (kind : Nat)
  /-- Its ingress action has ended: it goes to the arrival sequencer, the release engine or the Palm. -/
  | decided
  /-- Emitted by the arrival sequencer, on its way to the Palm. -/
  | emitted
  /-- In the merge store (R295). -/
  | held
  /-- Stored in the Palm. -/
  | stored
  deriving DecidableEq, Repr

/-- A program an engine runs (R175 to R191). -/
structure Run where
  engine : Nat
  pc : Nat
  cursor : Nat := 0
  /-- Program flags F0 to F3. -/
  flags : Nat := 0
  lastCode : Nat := 0
  /-- Issue cycles used, and cycles waited for bytes of the frame, which are none (R175, R176). -/
  cycles : Nat := 0
  waited : Nat := 0
  /-- By table less 1, the cycle of the program in which the result of its last search is written; and the cycle in which the
  session decision is (R190, R325). -/
  ready : SMap Nat := []
  decision : Option Nat := none
  /-- Its last word has issued, and waits for the session decision (R325). -/
  ended : Bool := false
  deriving DecidableEq, Repr

/-- One draw of cells (R252): 0 QMIN, 1 TC7, 2 headroom, 4 + k pool SPk; how many. -/
structure Draw where
  pool : Nat
  n : Nat
  deriving DecidableEq, Repr

/-- A frame in the device. -/
structure Frame where
  /-- Ingress port. -/
  port : Nat
  /-- Bytes as received, FCS included. -/
  bytes : List Byte
  /-- The 128 bytes of metadata (R193). -/
  md : List Byte
  stage : Stage := .fifo
  run : Option Run := none
  /-- Flags of its capture record (R361). -/
  flags : Nat := 0
  /-- The verdict on its tail: none yet, 0 good, otherwise 1 + the place of the cause in R268. -/
  verdict : Option Nat := none
  /-- It arrived with a recognised Denoon tag (R301). -/
  tagged : Bool := false
  /-- The pools its cells came from, the last drawn first, and the class it was admitted in (R252, R273). -/
  draws : List Draw := []
  admitted : Nat := 0
  /-- The banks of its cells (R246). -/
  cells : List Nat := []
  /-- Queue entries still held, and how many replicas were made. -/
  entries : Nat := 0
  /-- Tagged for tracing (R399), its stage stamps 1 to 6 by stage, and the trace has been written. -/
  traced : Bool := false
  stamps : SMap T80 := []
  /-- The ingress header rings that it has matched (R274). -/
  ringsMet : List Nat := []
  /-- Searches issued and not yet written: table and result word, the first issued first (R190). -/
  results : List (Nat × Nat) := []
  /-- The session engine: 0 not asked, 1 asked and not yet decided, 2 forward, otherwise 256 + a drop reason (R325). -/
  session : Nat := 0
  /-- The metadata that the session engine read (R325): SESSION, SEQ and the request block. -/
  ctx : Nat := 0
  sseq : Nat := 0
  req : Nat := 0
  /-- The generation it holds (R221), and whether a search has fixed it. -/
  gen : Nat := 0
  searched : Bool := false
  /-- The learn event its search calls for, and whether its ingress action has ended without a drop (R223). -/
  learn : Option LearnEv := none
  learnOk : Bool := false
  /-- A Seam flit that carried it could not be corrected (R474). -/
  marred : Bool := false
  /-- A retransmission reply (R346). -/
  reply : Bool := false
  /-- A copy made to be forwarded across the timing group, which takes a tag (R302, R315). -/
  addTag : Bool := false
  /-- It has left an arrival sequencer or been held for a release (R295, R307). -/
  sequenced : Bool := false
  deriving DecidableEq, Repr

/-- What is kept of a frame that is gone before the verdict on its tail: for its counts, and for its learn event. -/
structure Tail where
  port : Nat
  bytes : List Byte
  stamp : T80
  learn : Option LearnEv := none
  deriving DecidableEq, Repr

/-- A queue entry: one replica of a frame (R247, R273). -/
structure Replica where
  frame : Nat
  port : Nat
  queue : Nat
  /-- Cells counted in the queue's depth, and of them its minimum and its shared cells (R252, R273). -/
  cells : Nat
  mine : Nat := 0
  shared : Nat := 0
  /-- Its class. -/
  cls : Nat
  ct : Bool := false
  ce : Bool := false
  /-- Held for a release group: 1 + the group; its batch has been released (R307, R312). -/
  releaseOf : Nat := 0
  released : Bool := false
  /-- When it entered the queue, and the queue's depth before it (R264, R387). -/
  queuedAt : T80 := 0
  depth : Nat := 0
  /-- 0 queued, 1 taken by the scheduler, 2 egress action ended, 3 in transmission. -/
  phase : Nat := 0
  /-- The egress engine that holds it (R173). -/
  run : Option Run := none
  /-- Metadata and outgoing bytes, FCS excluded, as egress action leaves them. -/
  md : List Byte := []
  outBytes : List Byte := []
  /-- Egress stamp and TQ (R114). -/
  egress : Option (T80 × Nat) := none
  /-- It ends stomped (R268). -/
  stomp : Bool := false
  /-- It has been preempted, and waits to resume (R164). -/
  preempted : Bool := false
  waiting : Bool := false
  flags : Nat := 0
  deriving DecidableEq, Repr

/-- A queue (R260, R286). -/
structure Queue where
  qmin : Nat := 8
  alpha : Nat := 6
  ecn : Bool := false
  mc0tc : Nat := 0
  ecnCells : Nat := 0x400
  depth : Nat := 0
  minUsed : Nat := 0
  shared : Nat := 0
  deriving DecidableEq, Repr

/-- A priority group (R257, R258, R285). -/
structure Pg where
  xoffAt : Nat := 0x1000
  delta : Nat := 0x100
  hdrm : Nat := 0x200
  shared : Nat := 0
  hdrmUsed : Nat := 0
  xoff : Bool := false
  /-- When the last PFC frame was sent (R161). -/
  sentAt : T80 := 0
  deriving DecidableEq, Repr

/-- A multicast group (R272): its ports as a bitmap. -/
structure Mcg where
  valid : Bool := false
  skipSource : Bool := false
  ports : Nat := 0
  deriving DecidableEq, Repr

/-- A port's scheduler (R261, R262). -/
structure Sched where
  /-- Classes whose turn is the multicast queue's. -/
  turnMc : Nat := 0
  /-- Deficits by class, and the ETS class being served. -/
  deficit : SMap Nat := []
  serving : Option Nat := none
  ctDisable : Bool := false
  deriving DecidableEq, Repr

/-- A header ring besides its page (R274 to R276). -/
structure HRing where
  matched : Nat := 0
  seq : Nat := 0
  /-- Records in the on-die share, oldest first. -/
  onDie : List (List Byte) := []
  deriving DecidableEq, Repr

/-- What the admissions of a CORE cycle do not see yet (R256): the cells that tails have returned in it, and the sizes that
the pools had before it, by pool. -/
structure PoolCycle where
  cycle : Nat := 0
  back : SMap Nat := []
  sizes : SMap Nat := []
  deriving DecidableEq, Repr

/-- The frames in the device and the Palm. -/
structure Palm where
  frames : SMap Frame
  nextFrame : Nat
  replicas : SMap Replica
  nextReplica : Nat
  /-- By port x 16 + queue. -/
  queues : SMap Queue
  /-- By port x 8 + class. -/
  pgs : SMap Pg
  /-- Multicast groups in force (R272). -/
  mcgs : SMap Mcg
  /-- The pools in the present cycle, and admissions that wait in it for frames that come first, with their cells (R256). -/
  cyc : PoolCycle
  assigns : List (Nat × List Nat)
  scheds : SMap Sched
  rings : SMap HRing
  /-- Errors corrected in each bank since the last TAI second (R278). -/
  bankErrors : SMap Nat
  /-- Spare banks in use: spare to bank (R280). -/
  spares : SMap Nat
  /-- Frames gone before the verdict on their tails (R223, R391). -/
  tails : SMap Tail
  /-- The port that took the last ingress slot of each slice (R21). -/
  slots : SMap Nat
  /-- Trace LFSRs by slice, and record numbers (R399, R400). -/
  lfsr : SMap Nat
  traceSeq : SMap Nat
  deriving DecidableEq, Repr

/-- A frame in the merge store (R295, R299): its key, tie rank and cells. -/
structure HeldFrame where
  frame : Nat
  key : T80
  rank : Nat
  slot : Nat
  tq : Nat
  cells : Nat
  deriving DecidableEq, Repr

/-- A merge group besides its page (R290 to R305). -/
structure MergeGroup where
  /-- Frames held, in the order in which they leave. -/
  held : List HeldFrame := []
  /-- Key and rank of the last frame emitted, if one has been. -/
  frontier : Option (T80 × Nat) := none
  /-- Seeds drawn, by TAI second (R296). -/
  seeds : SMap Nat := []
  /-- ENABLE has been written 0 with frames held: they leave without waiting (R305). -/
  closing : Bool := false
  /-- The CORE cycle of the last emission in order, and that in which ENABLE was written 0 (R295, R306). -/
  emittedIn : Option Nat := none
  disabledIn : Option Nat := none
  /-- Key and slot of the last frame emitted, late ones included. -/
  last : Option (T80 × Nat) := none
  /-- The TAI seconds in which it became and ceased to be an enabled HOME group (R371). -/
  homeFrom : Option Nat := none
  homeTo : Option Nat := none
  deriving DecidableEq, Repr

/-- A batch of a release group (R310, R311): its instant, its frames in the order of leaving, and how far it has come. -/
structure Batch where
  at_ : T80
  frames : List Nat := []
  explicit : Bool := true
  late : Bool := false
  open_ : Bool := false
  cut : Bool := false
  /-- The CORE cycle of its cut-off (R319). -/
  cutIn : Option Nat := none
  done : Bool := false
  /-- It waits for a batch of another group on a common port (R319). -/
  moved : Bool := false
  /-- Members excluded from it (R317). -/
  excluded : List Nat := []
  /-- Egress stamps of the first frame on the members (R314). -/
  stamps : List T80 := []
  deriving DecidableEq, Repr

/-- A release group besides its page (R307 to R319). -/
structure RelGroup where
  /-- Frames held and in no batch yet, in order of arrival. -/
  held : List Nat := []
  /-- Batches, the earliest first. -/
  batches : List Batch := []
  /-- A change of D_EFF that is to come: its instant and value; and the value before the last change, with its instant
  (R315). -/
  next : List (T80 × Nat) := []
  past : List (T80 × Nat) := []
  deriving DecidableEq, Repr

/-- The arrival sequencer and the release engine besides their pages. -/
structure Timing where
  merges : SMap MergeGroup
  releases : SMap RelGroup
  /-- Pace advertisements in force by CHIP_ID: pace, and the instant the device left the bitmap (R303). -/
  paces : SMap (Nat × Option T80)
  deriving DecidableEq, Repr

/-- An open gap (R335). -/
structure Gap where
  first : Nat
  last : Nat
  missing : Nat
  opened : T80
  /-- The same instant on the clock that no step of TIME moves. -/
  since : T80
  deriving DecidableEq, Repr

/-- A session context (R327 to R337). State 0 DISABLED, 1 LEARNING, 2 RUNNING. -/
structure Ctx where
  /-- CTX_CFG, CTX_CFG2, RING_BASE and SEQ_SET as last written. -/
  cfg : Nat := 0x2710000000000004
  cfg2 : Nat := 0x00000B10100003E8
  ring : Nat := 0
  seqSet : Nat := 0
  state : Nat := 0
  /-- The active leg of an ORDER context is B (R332). -/
  activeB : Bool := false
  /-- When a leg that is UP last heard a data frame, on the clock that no step of TIME moves (R333). -/
  heardA : Option T80 := none
  heardB : Option T80 := none
  expected : Nat := 0
  lastA : Nat := 0
  lastB : Nat := 0
  /-- The duplicate bitmap: bit i is that of EXPECTED - 1 - i (R334). -/
  seen : Nat := 0
  gap0 : Option Gap := none
  gap1 : Option Gap := none
  gap2 : Option Gap := none
  gap3 : Option Gap := none
  refused : Bool := false
  deriving DecidableEq, Repr

/-- A requester's bucket (R345). -/
structure Requester where
  refill : Nat := 0x40
  burst : Nat := 0x100
  enable : Bool := false
  tokens : Nat := 0
  refused : Nat := 0
  deriving DecidableEq, Repr

/-- A slot waiting in the ring write buffer (R341): its address, its number, and its bytes, header first. -/
structure SlotWrite where
  address : Nat
  seq : Nat
  bytes : List Byte
  deriving DecidableEq, Repr

/-- A retransmission request in the queue (R343): the request frame's context, number, COUNT and requester, its ingress
port and metadata, and what the ring held of the numbers wanted (R344). -/
structure RetxRequest where
  ctx : Nat
  seq : Nat
  count : Nat
  requester : Nat
  port : Nat
  md : List Byte
  gen : Nat
  held : SMap (List Byte)
  deriving DecidableEq, Repr

/-- What the engine does in a CORE cycle (R339): a frame's decision, or its loss with its context; an evaluation of a context's legs
or gaps; a command of CTX_CMD. -/
inductive SesAct where
  | decide (frame : Nat) (corrected : Bool)
  | lost (frame : Nat)
  | legs (context : Nat)
  | gaps (context : Nat)
  | command (op context : Nat)
  deriving DecidableEq, Repr

/-- The session engine besides its pages. -/
structure Sessions where
  ctxs : SMap Ctx
  requesters : SMap Requester
  buffer : List SlotWrite
  requests : List RetxRequest
  /-- What waits for others of its CORE cycle to come first (R339). -/
  deferred : List SesAct
  deriving DecidableEq, Repr

/-- A formed record: its bytes and the instant its frame's fate became known (R357). -/
structure LRec where
  fate : T80
  bytes : List Byte
  deriving DecidableEq, Repr

/-- A record formed and not yet entered: its stream, and the instant of its forming, which no step of TIME moves (R357). -/
structure Formed where
  stream : Nat
  since : T80
  body : LRec
  deriving DecidableEq, Repr

/-- An interval of losses not yet declared by its GAP record (R365, R366). -/
structure Loss where
  cause : Nat
  from_ : T80
  to_ : T80
  tq : Nat
  lost : Nat
  deriving DecidableEq, Repr

/-- A chained block not yet written to its ring: header and records, the records themselves, and the LINK before it. -/
structure Closed where
  bytes : List Byte
  recs : List LRec
  prev : List Byte
  seq : Nat
  deriving DecidableEq, Repr

/-- A block the ring holds or has reserved: its number, ring offset and length (R369). -/
structure Held where
  seq : Nat
  off : Nat
  len : Nat
  deriving DecidableEq, Repr

/-- What Ledger holds of one stream besides its page. -/
structure Stream where
  /-- Records of the open block, oldest first (R367). -/
  recs : List LRec := []
  losses : List Loss := []
  unwritten : List Closed := []
  held : List Held := []
  /-- The latest LINK of the run; empty before its first block (R368). -/
  link : List Byte := []
  /-- GAP records in this run. -/
  gaps : Nat := 0
  /-- The instant at which SCFG.ENABLE fell, and the TQ then (R365). -/
  offAt : Option (T80 × Nat) := none
  /-- BLOCK_SEQ in the latest anchor issued (R376). -/
  anchored : Nat := 0
  /-- The anchor instant, in ns, for which the block has closed before the instant's own command (R370). -/
  closedFor : Option Nat := none
  deriving DecidableEq, Repr

/-- An anchor assembled and not yet signed (R371): its kind and instant, and what its fields held then. -/
structure Draft where
  kind : Nat
  at_ : T80
  /-- Its instant on the clock that no step of TIME moves. -/
  begun : T80
  servo : Nat
  tq : Nat
  /-- Bytes 0x02B to 0x047. -/
  timeBase : List Byte
  info : Nat
  lost : Nat
  selDigest : List Byte
  /-- Bytes 0x300 to 0xAFF. -/
  heads : List Byte
  deriving DecidableEq, Repr

/-- An item an export port has still to send (R380): a block's stream, or 255 for an anchor, and its number. -/
structure ExpItem where
  stream : Nat
  seq : Nat
  deriving DecidableEq, Repr

/-- What Ledger holds besides its pages. -/
structure Ledger where
  /-- Records formed and not yet entered, oldest first, with their streams (R357). -/
  formed : List Formed
  /-- Streams whose record has entered ahead of its command, to fill a block at an anchor instant (R379). -/
  early : List Nat
  streams : SMap Stream
  /-- The selection in force: CAP_CLASS, CAP_PORT_0 to 15 and FULL_PORT_0 to 15 (R358). -/
  sel : List Nat
  /-- The selection in force before it, and the instant of the change. -/
  selWas : List Nat
  selFrom : T80
  /-- The instant at which a pending COMMIT was written (R358). -/
  selAt : Option T80
  /-- Anchors being signed, oldest first. -/
  signing : List Draft
  /-- The next anchor instant issues the START anchor (R375). -/
  startDue : Bool
  /-- Anchor instants not issued since the last anchor (R371). -/
  missed : Nat
  /-- The instant at which the run began, in ns (R368). -/
  startNs : Nat
  /-- Anchors are signed no more: the identity key or both ECDSA engines have failed (R372). -/
  signingLost : Bool
  /-- ECDSA engines in service (R384). -/
  engines : Nat
  /-- The digest that the next anchor carries as PREV_DIGEST; empty when there is no anchor before it (R371). -/
  prev : List Byte
  /-- Seeds of seconds not yet carried by an anchor, oldest first: second, group bitmap, 64 seeds (R371). -/
  seeds : List (Nat × Nat × List Nat)
  /-- The MRAM journal: 128 slots by 2 x pair + slot (R374). -/
  journal : SMap (List Byte)
  /-- Items waiting on each export entry, oldest first, and frames sent on it (R380, R381). -/
  exports : SMap (List ExpItem)
  expSeq : SMap Nat
  deriving DecidableEq, Repr

/-- The bandwidth window of a port (R402): the codes in force and before, the ns at which the first window of the code in
force starts, the end of the last one closed, and the bytes of the windows not closed, by window number. -/
structure Bw where
  code : Nat := 7
  prev : Nat := 7
  start : Nat := 0
  last : Nat := 0
  rx : SMap Nat := []
  tx : SMap Nat := []
  deriving DecidableEq, Repr

/-- A port's bandwidth registers (R406). -/
structure BwRegs where
  end_ : Nat
  rx : Nat
  tx : Nat
  rxPeak : Nat
  txPeak : Nat
  deriving DecidableEq, Repr

/-- A snapshot being written (R396, R397): its instant and TQ, its flags, and the registers of the CNT pages it holds. -/
structure SnapImage where
  at_ : T80
  tq : Nat
  late : Bool
  damaged : Bool
  regs : SMap Nat
  deriving DecidableEq, Repr

/-- Visor besides its pages. -/
structure Visor where
  /-- The instant of the next snapshot, whether it is LATE, and whether it is the last (R395, R398). -/
  due : Option T80
  late : Bool
  once : Bool
  /-- What counters have counted of events at or after that instant, by BAR0 offset (R396). -/
  after : SMap Nat
  image : Option SnapImage
  /-- SNAP_SLOW has been reported of the image; snapshots completed (R397). -/
  slow : Bool
  seq : Nat
  bw : SMap Bw
  /-- Bandwidth registers that the snapshot takes, of ports whose later windows have closed meanwhile (R396). -/
  kept : SMap BwRegs
  /-- BW_RX_LAST and BW_TX_LAST latched by the last read of BW_END, by port x 2 + BAR (R403). -/
  latched : SMap (Nat × Nat)
  /-- The selector that an EVSEL write replaced, and its instant, by general counter (R394). -/
  selOld : SMap (Nat × T80)
  /-- DAMAGED counters, by BAR0 offset (R404). -/
  damaged : List Nat
  deriving DecidableEq, Repr

/-- A power domain (R409 to R426). States: 0 ACTIVE, 1 IDLE, 2 DROWSE, 3 RETAIN, 4 OFF, as R411 codes them. -/
structure Dom where
  state : Nat := 0
  /-- Its clock is gated in IDLE (R412). -/
  gated : Bool := false
  /-- 0 no transition, 1 entering a deeper state, 2 waking; the state it enters. -/
  trans : Nat := 0
  to_ : Nat := 0
  /-- Start of the hold-off in progress (R415). -/
  holdFrom : Option T80 := none
  /-- The entry request to a privileged block: 0 none, 1 unanswered, 2 delayed, 3 refused; the state asked for, and when it
  was sent or is to be sent again (R417). -/
  asked : Nat := 0
  askTo : Nat := 0
  askAt : T80 := 0
  /-- A wake event came while an entry was under way (R424). -/
  latched : Bool := false
  /-- When its latest entry completed (R427). -/
  doneAt : Option T80 := none
  /-- The wake: whether it comes from OFF, its stage (R422), tries failed, and the start of the stage or try. -/
  fromOff : Bool := false
  /-- Its reinitialisation as after OFF, because the retention check lost a bank (R426). -/
  redo : Bool := false
  stage : Nat := 0
  tries : Nat := 0
  since : T80 := 0
  /-- An entry into DROWSE waits for VDD_LOW (R420). -/
  waitsLow : Bool := false
  /-- It is in DROWSE on VDD_CORE (R420). -/
  fallback : Bool := false
  /-- FAIL_STAGE of a failed wake, 0 none; its votes are denied (R425). -/
  failed : Nat := 0
  denied : Bool := false
  /-- Mitten holds it OFF: a DDR channel not in use (R516). -/
  heldOff : Bool := false
  target : Nat := 0
  holders : Nat := 2
  /-- Crown's own vote after boot (R413); 7 none. -/
  firmware : Nat := 7
  lastAnswer : Nat := 0
  reason : Nat := 0
  retention : Bool := false
  lost : Nat := 0
  entries : Nat := 0
  wakes : Nat := 0
  replays : Nat := 0
  retries : Nat := 0
  deepest : Nat := 1
  irq : Bool := false
  holdoff : Nat := 100
  deriving DecidableEq, Repr

/-- What an AVSBus transaction does (R421). -/
inductive AvsKind where
  /-- Raise VDD_CORE for the inrush of a domain's wake (R422). -/
  | wake (domain : Nat)
  /-- Withdraw such a raise. -/
  | withdraw (domain : Nat)
  /-- Raise VDD_LOW for entries into DROWSE (R420). -/
  | low
  /-- Move VDD_CORE by a step of capping, down or up (R439). -/
  | cap (up : Bool)
  deriving DecidableEq, Repr

/-- A transaction of the AVSBus queue: failed tries, and the start of the present try. -/
structure AvsTx where
  kind : AvsKind
  tries : Nat := 0
  since : T80 := 0
  deriving DecidableEq, Repr

/-- An inrush step in force (R422): the domain it was raised for, its mV, and when it is withdrawn. -/
structure Inrush where
  domain : Nat
  mv : Nat
  until_ : Option T80 := none
  deriving DecidableEq, Repr

/-- Mitten besides its pages. -/
structure Mitten where
  doms : SMap Dom
  /-- The AVSBus queue; the first one has been sent (R421). -/
  avs : List AvsTx
  /-- Inrush steps in force (R422). -/
  steps : List Inrush
  /-- VDD_LOW has had no domain on it since (R420). -/
  lowSince : Option T80
  deriving DecidableEq, Repr

/-- Power capping besides its pages (R432 to R448). -/
structure Pwc where
  /-- Bubbles: the instant, on the clock that no step of TIME moves, from which they fall due at the ratio in force, those due before it in this period, and those
  spent in it, by slice (R437). -/
  since : T80
  due : SMap Nat
  spent : SMap Nat
  /-- Slices whose ratio is held while a window is open on them, with the ratio (R441). -/
  held : SMap Nat
  /-- Replicas started in this period: egress queue key and length with FCS; energy totals of the queues (R434). -/
  started : List (Nat × Nat)
  queueEnergy : SMap Nat
  /-- The value of a pending cap, and when it was written, on the clock that no step of TIME moves (R441). -/
  cap : Option (Nat × T80)
  /-- CAP_T before its last change, and when that was, in ns (R444). -/
  capTOld : Nat
  capTAt : Nat
  /-- T_CRIT was crossed and CAP_T may not rise (R445). -/
  critical : Bool
  /-- Periods in a row with R at VSTEP_R or above; with R at 0 and P at or below 0.95 C (R439). -/
  down : Nat
  up : Nat
  /-- Periods in a row at the lowest point with P above C; with P at or below C (R440). -/
  unmet : Nat
  met : Nat
  /-- The code that LIMIT has while R is above 0 (R435). -/
  limit : Nat
  /-- An overrun forces R and L in the next period too (R443). -/
  forced : Bool
  /-- The largest R of this period, and the largest PACE_NOW since the last hello (R448). -/
  rMax : Nat
  paceMax : Nat
  /-- Reasons of this period and of the one before, as bitmaps (R447). -/
  reasons : Nat
  before : Nat
  /-- The weights in force: 0 fused, otherwise the fit that gave them; those that the next boundary puts in force; those
  saved in MRAM; how many fits there have been; and the start of the sampling in progress (R433). -/
  weights : Nat
  next : Option Nat
  saved : Option Nat
  fits : Nat
  calAt : T80
  /-- THERMTRIP_N is low (R446). -/
  tripped : Bool
  deriving DecidableEq, Repr

/-- An open quench window (R459): the page whose reset opened it, its end, and the lines it covers. -/
structure Quench where
  page : Nat
  until_ : T80
  lines : List Nat
  deriving DecidableEq, Repr

/-- What Gauntlet holds of one line (R454, R461, R477). -/
structure LineRec where
  page : Nat := 0
  cls : Nat := 0
  cause : Nat := 0
  quenchedLast : Bool := false
  escalated : Bool := false
  /-- Starts of the block's resets, newest first (R461). -/
  resets : List T80 := []
  latches : Nat := 0
  inj : Bool := false
  lastTime : T80 := 0
  lastTq : Nat := 0
  /-- One above the highest reaction taken since the line latched; 0 while it is not latched (R454). -/
  taken : Nat := 0
  /-- One above the vector that its last injected latch has sent for its class (R458); 0 for none. -/
  injSent : Nat := 0
  deriving DecidableEq, Repr

/-- The entry into the safe state (R464): its instant, and what R467 records of it. -/
structure SafeEntry where
  at_ : T80
  tq : Nat
  cls : Nat
  line : Nat
  cause : Nat
  inj : Bool
  /-- The zero of t in time since power-on: the latch that causes the entry (R464). -/
  since : T80
  deriving DecidableEq, Repr

/-- A wear monitor's history (R475): its samples by TAI hour, oldest first, as numbers, and how many hours it spans. -/
structure WearRec where
  samples : List (Nat × Nat) := []
  hours : Nat := 0
  state : Nat := 0
  months : Nat := 0
  months90 : Nat := 0
  deriving DecidableEq, Repr

/-- What Gauntlet and the repair logic hold besides registers. -/
structure Gauntlet where
  /-- Lines by number (R453). -/
  lines : SMap LineRec
  /-- Open quench windows (R459). -/
  quench : List Quench
  /-- An entry decided upon and not yet taken: the latch that causes it (R464). -/
  entry : Option SafeEntry
  /-- The safe state, if the device is in it (R463). -/
  safe : Option SafeEntry
  /-- The seal of this safe state: none yet, or its ANCHOR_SEQ, whether it is signed, and whether the sequencer wrote it (R466). -/
  sealRec : Option (Nat × Bool × Bool)
  /-- Vector 1 may be sent in this safe state: the host link was up at entry (R58). -/
  vectorOne : Bool
  /-- R466 applied in this safe state. -/
  bySequencer : Bool
  /-- The fault snapshot of this safe state is written (R467). -/
  snapDone : Bool
  /-- The two snapshot slots in MRAM (R467); an empty slot fails its CRC. -/
  slot0 : List Byte
  slot1 : List Byte
  /-- SNAP_SEQ over the device's life (R467). -/
  snapSeq : Nat
  /-- Repaired rows, in the MRAM repair table: macro and row (R473). -/
  repairs : List (Nat × Nat)
  /-- Rows whose copy to a spare row is under way: macro and row (R473). -/
  repairing : List (Nat × Nat)
  /-- Spare rows used, by macro (R473). -/
  spareRows : SMap Nat
  /-- Rows in which the scrub has corrected errors, by macro x 2^32 + row: the last pass and how many in a row (R473). -/
  scrubRuns : SMap (Nat × Nat)
  /-- Start of the scrub pass in progress (R472). -/
  scrubStart : T80
  /-- Seam wires whose spare is being trained: link x 2^20 + direction x 2^16 + wire (R474). -/
  training : List Nat
  /-- Wires replaced, as training (R474). -/
  replaced : List Nat
  /-- Wear monitors, by kind x 2^16 + instance (R475). -/
  wear : SMap WearRec
  deriving DecidableEq, Repr

/-- A staging slot that holds a bundle (R493): its length in bytes, and whether DDR5 has lost it since. -/
structure Slot where
  length : Nat
  lost : Bool := false
  deriving DecidableEq, Repr

/-- A Crown firmware that a pair holds: its version as IDN offset 0x090 codes it, the digest of its section, and of its
bundle the SVN, the REVOKE_MASK and the key slot that signed it (R497, R499). -/
structure Firmware where
  version : Nat := 0
  digest : List Byte := List.replicate 48 0
  svn : Nat := 0
  revoke : Nat := 0
  signer : Nat := 0
  deriving DecidableEq, Repr

/-- A UCODE_LOAD in progress (R493): its path, its slices, and those that have reached STAGED, as bitmaps. -/
structure Load where
  ring : Bool
  slices : Nat
  staged : Nat := 0
  deriving DecidableEq, Repr

/-- An update (R503): the path of its FW_UPDATE while that is not complete, the bundle's slot, AT, and what it installs. -/
structure Update where
  ring : Option Bool
  slot : Nat
  at_ : T80
  new_ : Firmware
  late : Bool := false
  /-- Entry into CONFIRMING, and the path of an FW_CONFIRM that waits for IDLE. -/
  since : T80 := 0
  confirm : Option Bool := none
  deriving DecidableEq, Repr

/-- A DOE request that waits for an answer (R508): since when, and what it asks, as its command has it. -/
structure DoeWait where
  since : T80
  kind : String
  args : List Nat
  nonce : List Byte
  deriving DecidableEq, Repr

/-- Crown and the host link besides their pages. -/
structure Crown where
  slots : SMap Slot
  /-- OTP: the revocation bits of the key slots, as a bitmap, and the SVN floor (R499). -/
  revoked : Nat
  floor : Nat
  /-- Descriptors of the command ring that the host has posted, and those fetched and not completed (R491). -/
  posted : List (List Byte)
  fetched : List (List Byte)
  load : Option Load
  update : Option Update
  /-- Firmware of the active pair and of the other. -/
  active : Firmware
  standby : Firmware
  /-- Digests of the sections in force, by type 2, 3 and 5 (R507). -/
  sections : SMap (List Byte)
  /-- A takeover is under way (R501). -/
  takeover : Bool
  /-- The paths whose BUNDLE_STAGE the failure of the active pair interrupted (R502): true for the ring. -/
  interrupted : List Bool
  /-- The last checkpoint (R500). -/
  checkpoint : T80
  doe : Option DoeWait
  doeError : Bool
  /-- The certificate chain of slot 0, in MRAM (R506). -/
  chain : List Byte
  /-- The equalisation table as loaded (R147, R507). -/
  eqTable : List Byte
  /-- The bundles of the boot set, by their SEQ in the flash, as the DDR5 FIRMWARE region keeps them (R545); those of a
  host boot have none. -/
  bundles : SMap (List Byte)
  /-- The KNUCKLE body of the boot set (R550). -/
  knuckle : List Byte
  /-- The SPI NOR flash (R541); a byte that nothing has written reads 0xFF, as erased flash does (log entry 16). -/
  flash : SMap Byte
  /-- Configuration space and PERST_N: PERST_N is high (R536). -/
  perst : Bool
  deriving DecidableEq, Repr

/-- DDR5 besides its pages. -/
structure Dram where
  /-- What the SPD of each channel's DIMM declared at boot (R516). -/
  dimms : SMap Dimm
  /-- Channels that train, or leave self-refresh, and whether it is full training (R523). -/
  training : List Nat
  full : Bool
  /-- Channels that completed training, and that failed it. -/
  trained : List Nat
  failed : List Nat
  /-- Channels in use before the last reset (R528). -/
  used : Nat
  /-- Every channel is in self-refresh (R528). -/
  selfRefresh : Bool
  /-- The speed code of the latest full training, whose results MRAM keeps (R515, R523). -/
  speed : Nat
  /-- Every channel so far has left self-refresh intact. -/
  intact : Bool
  deriving DecidableEq, Repr

/-- Reset and boot (R533 to R552). -/
structure Boot where
  /-- The boot steps of R548 completed since the last reset. -/
  done : List Nat
  /-- GPIO0 read 1 at the rise of SYS_RST_N: host boot (R535, R546). -/
  hostBoot : Bool
  /-- A warm reset is committed and not yet applied (R539). -/
  quiescing : Bool
  /-- A warm reset waits for the safe-state sequence (R462). -/
  held : Bool
  /-- The Crown ROM answers the mailbox and waits for the host's bundle (R546). -/
  rom : Bool
  /-- This boot follows a warm reset. -/
  warm : Bool
  /-- 0 no power, 1 VDD_AON is up and SYS_RST_N has not risen yet, 2 the power-on reset has taken place (R535, R565). -/
  power : Nat
  /-- TEST_MODE as the last rise of SYS_RST_N sampled it (R572). -/
  testMode : Bool
  /-- Pages whose block reset waits for their domain to be ACTIVE, and the WINDOW that held when it was written (R50, R427). -/
  waiting : List (Nat × Nat)
  /-- The TAP's instruction register (R571), and the level of SYS_RST_N. -/
  tapIr : Nat
  deriving DecidableEq, Repr

/-- The state of the device. -/
structure State where
  /-- The commands waiting, first in first out. Empty after reset (DESIGN CHOICE, log entry 4). -/
  pending : List Instr
  /-- The register fields of BAR0, keyed by the bit address of their lowest bit; an unlisted field holds its reset value (R7). -/
  regs : SMap Nat
  /-- TIME: 64 bits of ns and 48 bits of fraction as one number of 112 bits (R59). NS 0 at power-on (R537). -/
  time : Nat
  /-- The counter that the free values are applied to: the model's own, not the spec's (DESIGN CHOICE, log entry 8). -/
  free : Nat
  /-- What the device has sent, newest first: the model's own record (DESIGN CHOICE, log entry 6). -/
  out : List Output
  /-- The bytes of DDR5 behind all channels, one address space (R517); an unlisted byte reads 0 (DESIGN CHOICE, log entry 5). -/
  ddr : SMap Byte
  /-- Lines of 64 bytes of DDR5 that carry poison (R525). -/
  poison : SMap Bool
  /-- The MSI-X table, masks and pending bits, and the companion words of the T80 pairs (R12, R13, R35, R57). -/
  host : HostFront
  /-- What hardware events set in this MGMT cycle, causes fired under open quench windows, classes at the latch (R4, R48, R49). -/
  latches : Latches
  /-- Hatband: references, servo, holdover, history, peers, groups, outputs (R59 to R104). -/
  hat : Hatband
  /-- Which periodic instants have been handled: the model's own (DESIGN CHOICE, log entry 10). -/
  ticks : Ticks
  /-- The stamp units: trims, factory constants, wander monitors, fine trim (R108 to R129). -/
  stamps : Stamps
  /-- Control stores of the slices, and waits for engines (R174 to R200). -/
  ucs : Knuckle
  /-- Lanes and ports: ladder, exchange, pauses, equalisation, octet PLLs (R132 to R165). -/
  brim : Brim
  /-- EMT, LPA, CLA, command queues, epoch and its journal, learning, the shadow (R205 to R243). -/
  tbl : Tables
  /-- The frames in the device and the Palm: replicas, queues, priority groups, multicast groups, header rings, banks (R246 to R287, R399). -/
  palm : Palm
  /-- Merge and release groups: held frames, frontiers, seeds, batches, paces (R290 to R319). -/
  timing : Timing
  /-- Session contexts, requesters, ring write buffer, request queue (R325 to R348). -/
  ses : Sessions
  /-- Ledger: records, streams, selection, anchors, journal, exports (R353 to R381). -/
  ldg : Ledger
  /-- Visor: snapshot schedule and image, bandwidth windows, selectors replaced, damaged counters (R386 to R404). -/
  vsr : Visor
  /-- Mitten: power domains by number, the AVSBus queue, inrush steps (R409 to R425). -/
  mtn : Mitten
  /-- Power estimation and capping (R432 to R448). -/
  pwc : Pwc
  /-- Gauntlet: line records, quench windows, the safe state, fault snapshots, repairs, Seam wires, wear (R453 to R476). -/
  gnt : Gauntlet
  /-- Crown: staging slots, OTP bits, command ring, updates, pairs, attestation, boot set, flash (R479 to R508, R541). -/
  crown : Crown
  /-- DDR5: DIMMs, training, self-refresh (R516, R523, R528). -/
  dram : Dram
  /-- Boot steps completed, the straps, the ROM, a warm reset under way, block resets held, and the TAP's instruction (R427, R535, R539, R548, R571). -/
  boot : Boot
  deriving DecidableEq, Repr

/-- Why a step could stop. No meaning of this model ends in a fault: the block answers every command (safe). -/
inductive Fault where
  /-- Raised by nothing: every error of the device is a latch in its own state (R48), not a stop. Safe. -/
  | none
  deriving DecidableEq, Repr

/-- Why a command could be refused. -/
inductive Refusal where
  /-- Raised by exec for a command whose meaning is not written yet; the argument is its mnemonic. Safe. -/
  | notModelled (mnemonic : String)
  deriving DecidableEq, Repr

/-- The outcome of one command. -/
abbrev Out := Host.Outcome State Fault Refusal

/-- R537: the device right after a power-on reset, before the first boot step. -/
def State.reset : State :=
  { pending := [],
    regs := [],
    time := 0,
    free := 0,
    out := [],
    ddr := [],
    poison := [],
    host := ⟨[], [], [], [], []⟩,
    latches := ⟨0, [], [], []⟩,
    hat := ⟨[], [], 0, 4, [], [], 0, (0, 0, 4, 0), 0, 0, false, true, none, 0, none, none, none, none, 0, 0, [], [], 0, [], [], [], 0, 0, false, 1, false, false, 0, 0, false, none, false, true⟩,
    ticks := ⟨0, []⟩,
    stamps := ⟨[], [], 0, none⟩,
    ucs := ⟨[], [], []⟩,
    brim := ⟨[], [], [], [], [], [], [], [], []⟩,
    tbl := ⟨[], [], [], [], {}, {}, [], [], [], [], [], [], [], [], [], []⟩,
    palm := ⟨[], 0, [], 0, [], [], [], {}, [], [], [], [], [], [], [], [], []⟩,
    timing := ⟨[], [], []⟩,
    ses := ⟨[], [], [], [], []⟩,
    ldg := ⟨[], [], [], List.replicate 33 0, List.replicate 33 0, 0, none, [], false, 0, 0, false, 2, [], [], [], [], []⟩,
    vsr := ⟨none, false, false, [], none, false, 0, [], [], [], [], []⟩,
    mtn := ⟨[], [], [], none⟩,
    pwc := ⟨0, [], [], [], [], [], none, 1100, 0, false, 0, 0, 0, 0, 2, false, 0, 0, 0, 0, 0, none, none, 0, 0, false⟩,
    gnt := ⟨[], [], none, none, none, false, false, false, [], [], 0, [], [], [], [], 0, [], [], []⟩,
    crown := ⟨[], 0, 0, [], [], none, none, {}, {}, [], false, [], 0, none, false, [], [], [], [], [], true⟩,
    dram := ⟨[], [], true, [], [], 0, false, 0, false⟩,
    boot := ⟨[], false, false, false, false, false, 2, false, [], 1⟩ }

end Sys2Proof.Machine
end

