-- ==== Sys2Proof/Machine/Ops.lean ====
section
/-! DEFINITION. The operations every block shares: register fields, vectors, counters, error causes, lines, ports. -/

namespace Sys2Proof.Machine

/-! ## Register fields -/

/-- Field `(i, j)` of a run of registers on a page, as it stands (R3, R7). -/
def State.rdx (s : State) (page : Nat) (f : Fld) (i j : Nat) : Nat :=
  s.regs.val (f.resetVal page i j) (f.key page i j)

/-- The same field at a new value, cut to its width. -/
def State.wrx (s : State) (page : Nat) (f : Fld) (i j : Nat) (v : Nat) : State :=
  { s with regs := s.regs.put (f.resetVal page i j) (f.key page i j) (v % 2 ^ f.w) }

/-- A field that stands alone. -/
def State.rd (s : State) (page : Nat) (f : Fld) : Nat := s.rdx page f 0 0
/-- Register `i` of a run. -/
def State.rdi (s : State) (page : Nat) (f : Fld) (i : Nat) : Nat := s.rdx page f i 0
/-- A one-bit field as a truth value. -/
def State.on (s : State) (page : Nat) (f : Fld) : Bool := s.rd page f != 0
def State.wr (s : State) (page : Nat) (f : Fld) (v : Nat) : State := s.wrx page f 0 0 v
def State.wri (s : State) (page : Nat) (f : Fld) (i : Nat) (v : Nat) : State := s.wrx page f i 0 v

/-! ## What hardware events set in the MGMT cycle (R4) -/

/-- The MGMT cycle that holds an instant: cycles of 250 MHz (spec/01). -/
def mgmtCycle (t : T80) : Nat := t / (4 * nsUnits)
/-- What hardware events have set in this MGMT cycle, by bit address (R4). -/
def State.setNow (s : State) : SMap Nat := if s.latches.cycle = mgmtCycle (s.time / 2 ^ 32) then s.latches.set else []
/-- R4: a hardware event sets the bit at a bit address, or adds to a W1C count, in this MGMT cycle. -/
def State.mark (s : State) (addr n : Nat) : State :=
  { s with latches := { s.latches with cycle := mgmtCycle (s.time / 2 ^ 32), set := s.setNow.put 0 addr n } }
/-- R4: of a W1C field, what this MGMT cycle's events have set and a clear leaves. -/
def State.keptBits (s : State) (page : Nat) (f : Fld) (i j : Nat) : Nat :=
  match f.acc with
  | .w1cAny => s.setNow.val 0 (f.key page i j)
  | _ => (List.range f.w).foldl (fun n b => if s.setNow.val 0 (f.key page i j + b) = 0 then n else n + 2 ^ b) 0

/-- A field set to 1, as an event sets a W1C bit (R4). -/
def State.set1 (s : State) (page : Nat) (f : Fld) : State := (s.wr page f 1).mark (f.key page 0 0) 1

/-- A number cut off at the largest value of a width. -/
def sat (w v : Nat) : Nat := min v (2 ^ w - 1)

/-- R4: what an event adds to a W1C count in this MGMT cycle outlives a clear in it. -/
def State.noteCount (s : State) (page : Nat) (f : Fld) (i by_ : Nat) : State :=
  if f.acc = .w1cAny then s.mark (f.key page i 0) (sat f.w (s.setNow.val 0 (f.key page i 0) + by_)) else s
/-- A saturating count raised. -/
def State.bumpi (s : State) (page : Nat) (f : Fld) (i : Nat) (by_ : Nat := 1) : State :=
  (s.wri page f i (sat f.w (s.rdi page f i + by_))).noteCount page f i by_
def State.bump (s : State) (page : Nat) (f : Fld) (by_ : Nat := 1) : State := s.bumpi page f 0 by_

/-- A count lowered, not below 0. -/
def State.drop (s : State) (page : Nat) (f : Fld) (by_ : Nat := 1) : State :=
  s.wr page f (s.rd page f - by_)

/-- Bit `b` of a run of 64-bit bitmap registers. -/
def State.bit (s : State) (page : Nat) (f : Fld) (b : Nat) : Bool := (s.rdi page f (b / 64)).testBit (b % 64)

/-- A number with one bit put at a value. -/
def putBit (n b : Nat) (v : Bool) : Nat :=
  if n.testBit b = v then n else if v then n + 2 ^ b else n - 2 ^ b

/-- The same bit put at a value. -/
def State.putBitAt (s : State) (page : Nat) (f : Fld) (b : Nat) (v : Bool) : State :=
  s.wri page f (b / 64) (putBit (s.rdi page f (b / 64)) (b % 64) v)

/-- A W1C bit that a host write of 1 clears, unless an event set it in this MGMT cycle (R4). -/
def State.clear1 (s : State) (page : Nat) (f : Fld) : State := if s.keptBits page f 0 0 = 0 then s.wr page f 0 else s
/-- Bit `b` of a field's register set by a hardware event (R4). -/
def State.setBit (s : State) (page : Nat) (f : Fld) (b : Nat) : State :=
  (s.putBitAt page f b true).mark (f.key page (b / 64) 0 + b % 64) 1

/-- A two's-complement number of `w` bits as an integer. -/
def signed (w v : Nat) : Int := if v % 2 ^ w < 2 ^ (w - 1) then (v % 2 ^ w : Nat) else (v % 2 ^ w : Nat) - (2 ^ w : Nat)

/-- An integer as a two's-complement number of `w` bits. -/
def unsigned (w : Nat) (v : Int) : Nat := (v % (2 ^ w : Nat)).toNat

/-- An integer cut off at the bounds of `w`-bit two's complement. -/
def satSigned (w : Nat) (v : Int) : Int := max (-(2 ^ (w - 1) : Nat)) (min v ((2 ^ (w - 1) : Nat) - 1))

/-- A pair register's T80: NS and FRAC (R12). -/
def State.rdPair (s : State) (page : Nat) (ns frac : Fld) : T80 := s.rd page ns * nsUnits + s.rd page frac
def State.wrPair (s : State) (page : Nat) (ns frac : Fld) (t : T80) : State :=
  (s.wr page ns (t / nsUnits)).wr page frac (t % nsUnits)

/-- The place in a field's run of the register at an offset. -/
def Fld.index? (f : Fld) (off : Nat) : Option Nat :=
  if off = f.off then some 0
  else if f.off < off ∧ 0 < f.stride ∧ (off - f.off) % f.stride = 0 ∧ (off - f.off) / f.stride < f.n then
    some ((off - f.off) / f.stride)
  else none

/-- The fields of the page's register table that a register offset falls under. -/
def tableOf (page off : Nat) : List Fld := if off < 0x80 then hdrFields else fieldsOf (layoutOf page)

/-- The field of a page's table whose value is keyed by a bit position within the page. -/
def fieldAt (page bit : Nat) : Option Fld :=
  (tableOf page (bit / 64 * 8)).find? fun f =>
    (f.index? (bit / 64 * 8)).isSome && decide (f.lo ≤ bit % 64) &&
      (if f.m ≤ 1 then bit % 64 == f.lo else (bit % 64 - f.lo) % f.bst == 0 && decide ((bit % 64 - f.lo) / f.bst < f.m))
/-- A key of `regs` belongs to a Sticky field (R7). -/
def stickyAt (page bit : Nat) : Bool := match fieldAt page bit with | some f => f.sticky | none => false

/-- A register's word as its fields give it; write-only fields read zero (R3), reserved bits read zero (R6). -/
def State.word (s : State) (page off : Nat) : Nat :=
  (tableOf page off).foldl (fun acc f =>
    match f.index? off with
    | none => acc
    | some i => if f.acc = .wo then acc else
      (List.range f.m).foldl (fun a j => a + s.rdx page f i j * 2 ^ (f.lo + f.bst * j)) acc) 0

/-- A register's word with the written halves replaced (R8). -/
def merged (old new_ : Nat) (low high : Bool) : Nat :=
  (if low then new_ % 2 ^ 32 else old % 2 ^ 32) + (if high then new_ / 2 ^ 32 else old / 2 ^ 32) * 2 ^ 32

/-! ## TIME -/

/-- TIME as a T80 (R59): its top 80 bits. -/
def State.now (s : State) : T80 := s.time / 2 ^ 32
/-- The clock by which durations run: TIME without its steps, so that what has elapsed is the same before and after a step
(DEDUCED, log entry 28). -/
def State.mono (s : State) : T80 := ((s.now : Int) - s.hat.stepped).toNat
/-- TIME's whole nanoseconds. -/
def State.nowNs (s : State) : Nat := s.time / 2 ^ 48
/-- The TAI second of an instant: NS div 10^9. -/
def secondOf (t : T80) : Nat := t / nsUnits / 1000000000
/-- R11: the difference of two T80 values, as an 80-bit two's-complement subtraction. -/
def t80Sub (a b : T80) : Nat := (a + 2 ^ t80Bits - b % 2 ^ t80Bits) % 2 ^ t80Bits
/-- A duration in ns as T80 units. -/
def ns (n : Nat) : T80 := n * nsUnits
/-- The CORE cycle that holds an instant: cycles of 1.4 GHz (spec/01, 1.40 GHz). -/
def coreCycle (t : T80) : Nat := t * 7 / (5 * nsUnits)
/-- The BAND cycle of an instant, 800 MHz. -/
def bandCycle (t : T80) : Nat := t * 4 / (5 * nsUnits)
/-- The TQ code Hatband holds (R73). -/
def State.tq (s : State) : Nat := s.rd 0x50 F.hbd0_SERVO_STATUS_TQ

/-! ## What the device sends -/

def State.send (s : State) (o : Output) : State := { s with out := o :: s.out }

/-- The device is in the safe state (R463). -/
def State.isSafe (s : State) : Bool := s.gnt.safe.isSome

/-- R35, R57: a vector's message, as its entry in the MSI-X table has it. -/
def State.message (s : State) (v : Nat) : Output := .msix v (s.host.table.val (0, 0) v).1 (s.host.table.val (0, 0) v).2
/-- R57: a vector's message, or its pending bit while it is masked; none in the safe state (R58). -/
def State.vector (s : State) (v : Nat) : State :=
  if s.isSafe then s
  else if s.host.unmasked.val false v then s.send (s.message v)
  else { s with host := { s.host with pba := s.host.pba.put false v true } }

/-! ## Counters (R386 to R394) -/

/-- R390: the BAR0 offset of the fixed counter of an event; none for domain 0x0A and undefined domains. -/
def counterAddr (event inst : Nat) : Option Nat :=
  let i := event % 256
  match event / 256 with
  | 0x01 => some ((0x1000 + inst) * 0x1000 + 0x080 + 8 * i)
  | 0x02 => some ((0x1400 + inst) * 0x1000 + 0x080 + 128 * (i / 16) + 8 * (i % 16))
  | 0x03 => some ((0x1810 + inst) * 0x1000 + 0x080 + 8 * i)
  | 0x04 => some ((0x1810 + inst) * 0x1000 + 0x800 + 8 * i)
  | 0x05 => some ((0x1830 + inst) * 0x1000 + 0x080 + 8 * i)
  | 0x06 => some ((0x1830 + inst) * 0x1000 + 0x800 + 8 * i)
  | 0x07 => some ((0x1900 + inst / 16) * 0x1000 + 0x080 + 128 * (inst % 16) + 8 * i)
  | 0x08 => some ((0x1B00 + inst) * 0x1000 + 0x080 + 8 * i)
  | 0x09 => some ((0x1B40 + inst) * 0x1000 + 0x080 + 8 * i)
  | _ => none

/-- R391, R392, R394: the defined event numbers. -/
def eventDefined (event : Nat) : Bool :=
  let i := event % 256
  match event / 256 with
  | 0x01 => decide (i ≤ 0x14)
  | 0x02 => decide (i / 16 ≤ 9 ∧ i % 16 ≤ 9)
  | 0x03 => decide (i ≤ 0x0C)
  | 0x04 => true
  | 0x05 => decide (i ≤ 0x04)
  | 0x06 => true
  | 0x07 => decide (i ≤ 0x09)
  | 0x08 => decide (i ≤ 0x07)
  | 0x09 => decide (i ≤ 0x07)
  | 0x0A => decide (i ≤ 0x0E)
  | _ => false

/-- R388, R396, R404: a 64-bit count at a BAR0 offset raised modulo 2^64 by an event at an instant; what comes at or after
the instant of the snapshot due is kept apart; a DAMAGED counter counts no more. -/
def State.addCount (s : State) (addr by_ : Nat) (at_ : T80) : State :=
  if s.vsr.damaged.contains addr then s
  else
    let s1 := { s with regs := s.regs.put 0 (addr * 8) ((s.regs.val 0 (addr * 8) + by_) % 2 ^ 64) }
    match s.vsr.due with
    | some t =>
      if at_ ≥ t then { s1 with vsr := { s1.vsr with after := s1.vsr.after.put 0 addr (s1.vsr.after.val 0 addr + by_) } } else s1
    | none => s1

/-- The EVSEL word of a general counter that holds for events of an instant (R394). -/
def State.selectorAt (s : State) (g : Nat) (at_ : T80) : Nat :=
  let p := 0x0C0 + g / 256
  match s.vsr.selOld.at? g with
  | some (w, t) => if at_ ≤ t then w else now_ p
  | none => now_ p
where
  /-- The word that stands. -/
  now_ (p : Nat) : Nat :=
    s.rdi p F.vsre_EVSEL_EVENT (g % 256) + s.rdi p F.vsre_EVSEL_INSTANCE (g % 256) * 2 ^ 16 +
      s.rdi p F.vsre_EVSEL_ANY (g % 256) * 2 ^ 31 + s.rdi p F.vsre_EVSEL_ENABLE (g % 256) * 2 ^ 32

/-- The general counters that may count: those whose EVSEL.ENABLE is listed (it resets to 0), or was replaced. -/
def State.selectors (s : State) : List Nat :=
  let on_ := s.regs.filterMap fun p =>
    let page := p.1 / 0x8000
    let bit := p.1 % 0x8000
    if 0x0C0 ≤ page ∧ page ≤ 0x0CF ∧ 0x4000 ≤ bit ∧ bit % 64 = 32 then some ((page - 0x0C0) * 256 + (bit - 0x4000) / 64)
    else none
  on_ ++ (s.vsr.selOld.map (·.1)).filter fun g => !on_.contains g

/-- R393: the selector of a general counter names this event and instance. -/
def State.selects (s : State) (g event inst : Nat) (at_ : T80) : Bool :=
  let w := s.selectorAt g at_
  w.testBit 32 && w % 65536 == event &&
    (event / 256 == 0x0A || w.testBit 31 || w / 65536 % 8192 == inst)

/-- R402: the lengths of the windows, in ns; 0 for OFF. -/
def bwLength (code : Nat) : Nat := if code < 7 then 1000 * 10 ^ code else 0

/-- R402: bytes received or sent count whole in the window of their instant. -/
def State.addBw (s : State) (port : Nat) (sent : Bool) (bytes : Nat) (at_ : T80) : State :=
  let b := s.vsr.bw.val {} port
  let w := bwLength b.code
  let n := at_ / nsUnits
  if w = 0 ∨ n < b.start then s
  else
    let k := n / w
    let c := if sent then { b with tx := b.tx.put 0 k (b.tx.val 0 k + bytes) } else { b with rx := b.rx.put 0 k (b.rx.val 0 k + bytes) }
    { s with vsr := { s.vsr with bw := s.vsr.bw.put {} port c } }

/-- R386 to R393: one event, at an instant that is TIME unless the event says otherwise (R387), counted at its fixed counter
and at every general counter that selects it. -/
def State.count (s : State) (event inst : Nat) (by_ : Nat := 1) (when_ : Option T80 := none) : State :=
  let at_ := when_.getD (s.time / 2 ^ 32)
  let s0 := if event = 0x0101 then s.addBw inst false by_ at_ else if event = 0x0103 then s.addBw inst true by_ at_ else s
  let s1 := match counterAddr event inst with
    | some a => s0.addCount a by_ at_
    | none => s0
  (s.selectors.filter fun g => s.selects g event inst at_).foldl
    (fun t g => t.addCount ((0x1800 + g / 256) * 0x1000 + 0x800 + 8 * (g % 256)) by_ at_) s1

/-! ## Error causes and lines (R48, R453, R454) -/

/-- R453: the error line of a page; none for a page without one. -/
def lineOfPage (page : Nat) : Option Nat :=
  if page = 0x020 then some 0 else if page = 0x010 then some 1 else if page = 0x030 then some 2
  else if page = 0x040 then some 3 else if page = 0x050 then some 4 else if page = 0x070 then some 5
  else if page = 0x0B0 then some 6 else if page = 0x300 then some 7 else if page = 0x240 then some 8
  else if page = 0x380 then some 9 else if page = 0x340 then some 10
  else if 0x348 ≤ page ∧ page ≤ 0x34F then some (16 + (page - 0x348))
  else if 0x500 ≤ page ∧ page ≤ 0x507 then some (24 + (page - 0x500))
  else if 0x440 ≤ page ∧ page ≤ 0x45F then some (32 + (page - 0x440))
  else if 0x400 ≤ page ∧ page ≤ 0x43F then some (64 + (page - 0x400))
  else if 0x480 ≤ page ∧ page ≤ 0x4A4 then some (128 + (page - 0x480))
  else if 0x100 ≤ page ∧ page ≤ 0x13F then some (192 + (page - 0x100))
  else if 0x140 ≤ page ∧ page ≤ 0x23F then some (256 + (page - 0x140))
  else if 0xC00 ≤ page ∧ page ≤ 0xFFF then some (512 + (page - 0xC00) / 8)
  else none

/-- R453: the pages whose causes raise a line. -/
def pagesOfLine (line : Nat) : List Nat :=
  match line with
  | 0 => [0x020] | 1 => [0x010] | 2 => [0x030] | 3 => [0x040] | 4 => [0x050] | 5 => [0x070] | 6 => [0x0B0]
  | 7 => [0x300] | 8 => [0x240] | 9 => [0x380] | 10 => [0x340]
  | n =>
    if 16 ≤ n ∧ n ≤ 23 then [0x348 + (n - 16)]
    else if 24 ≤ n ∧ n ≤ 31 then [0x500 + (n - 24)]
    else if 32 ≤ n ∧ n ≤ 63 then [0x440 + (n - 32)]
    else if 64 ≤ n ∧ n ≤ 127 then [0x400 + (n - 64)]
    else if 128 ≤ n ∧ n ≤ 164 then [0x480 + (n - 128)]
    else if 192 ≤ n ∧ n ≤ 255 then [0x100 + (n - 192)]
    else if 256 ≤ n ∧ n ≤ 511 then [0x140 + (n - 256)]
    else if 512 ≤ n ∧ n ≤ 639 then (List.range 8).map fun k => 0xC00 + 8 * (n - 512) + k
    else []

/-- The real causes of a page that are not masked (R454). -/
def State.unmasked (s : State) (page : Nat) : Nat :=
  let r := s.rd page F.hdr_ERR_STATUS_REAL
  r - (r &&& s.rd page F.hdr_ERR_MASK_MASK)

/-- R454: a page asserts its line while a real, unmasked cause stands. -/
def State.pageHigh (s : State) (page : Nat) : Bool := s.unmasked page != 0
def State.lineHigh (s : State) (line : Nat) : Bool := (pagesOfLine line).any s.pageHigh

/-- PAGE_STATUS.ERR_LINE follows the page's part of its line (R454). -/
def State.refreshErr (s : State) (page : Nat) : State :=
  s.wr page F.hdr_PAGE_STATUS_ERR_LINE (if s.pageHigh page then 1 else 0)

/-- The class in force of a cause, by the page's ERR_CLASS_MAP (R49). -/
def State.classOf (s : State) (page cause : Nat) : Nat := s.rdx page F.hdr_ERR_CLASS_MAP_CLASS 0 cause

/-- R459: a line lies under an open quench window. -/
def State.quenched (s : State) (page : Nat) : Bool :=
  match lineOfPage page with
  | some l => s.gnt.quench.any fun q => q.lines.contains l
  | none => false

/-- The vector a page sends for each new latch of its causes (R169, R204, R289, R324, R352, R385, R408, R431, R452,
R513, R532); none for a page whose vectors name single events. -/
def causeVector (page cause : Nat) : Option Nat :=
  if 0xC00 ≤ page ∧ page ≤ 0xFFF then some (1024 + (page - 0xC00))
  else if 0x500 ≤ page ∧ page ≤ 0x507 then some (1008 + (page - 0x500))
  else if 0x440 ≤ page ∧ page ≤ 0x45F then some (384 + (page - 0x440))
  else if 0x400 ≤ page ∧ page ≤ 0x43F then some (320 + (page - 0x400))
  else if 0x480 ≤ page ∧ page ≤ 0x4A4 then some (416 + (page - 0x480))
  else if 0x100 ≤ page ∧ page ≤ 0x13F then some (464 + (page - 0x100))
  else if 0x140 ≤ page ∧ page ≤ 0x23F then some (528 + (page - 0x140))
  else if 0x348 ≤ page ∧ page ≤ 0x34F then some (288 + (page - 0x348))
  else if page = 0x340 then some 297
  else if page = 0x240 then some 848
  else if page = 0x0B0 then some 130
  else if page = 0x010 then some 13
  else if page = 0x380 then some 306
  else if page = 0x070 then some (match cause with | 2 => 99 | 3 => 98 | 4 => 102 | 9 => 100 | _ => 103)
  else if page = 0x030 then (if cause = 6 then some 38 else none)
  else if page = 0x040 then (if [3, 5, 7, 8, 9].contains cause then some 46 else none)
  else none

/-- A line's record. -/
def State.lineRec (s : State) (line : Nat) : LineRec := s.gnt.lines.val {} line
def State.putLine (s : State) (line : Nat) (r : LineRec) : State :=
  { s with gnt := { s.gnt with lines := s.gnt.lines.put {} line r } }
/-- R461: the starts of a block's resets within the last 10,000,000 ns. -/
def resetCount (r : LineRec) (now : T80) : Nat := (r.resets.filter fun t => decide (now < t + ns 10000000)).length
/-- R461: a line is escalated from a count above 8 until it falls to 8 or below. -/
def State.escalated (s : State) (line : Nat) : Bool :=
  (s.lineRec line).escalated && decide (resetCount (s.lineRec line) s.mono > 8)
/-- R461: while a line is escalated, every latch on it takes the class one above, up to FC3. -/
def State.escalate (s : State) (line cls : Nat) : Nat := if s.escalated line && decide (cls < 3) then cls + 1 else cls
/-- The class a latch of a cause takes now (R455): the class in force (R49), escalated. -/
def State.classNow (s : State) (page cause : Nat) : Nat :=
  match lineOfPage page with
  | some line => s.escalate line (s.classOf page cause)
  | none => s.classOf page cause

/-- REAL set by a cause's detector: a new latch takes the class of this moment (R49, R455), and the page's vector marks it. -/
def State.setReal (s : State) (page cause : Nat) : State :=
  let s1 := (s.setBit page F.hdr_ERR_STATUS_REAL cause).refreshErr page
  if (s.rd page F.hdr_ERR_STATUS_REAL).testBit cause then s1
  else
    let s2 := { s1 with latches := { s1.latches with classes := s1.latches.classes.put 0 (16 * page + cause) (s.classNow page cause) } }
    match causeVector page cause with
    | some v => s2.vector v
    | none => s2

/-- A cause's detector fires (R48, R459): inside a quench window of its line only QUENCHED is set, unless its class is
FC3 or FC4; otherwise REAL is set. -/
def State.raise (s : State) (page cause : Nat) : State :=
  if s.quenched page && decide (s.classOf page cause < 3) then
    let s1 := s.setBit page F.hdr_ERR_STATUS_QUENCHED cause
    if s.latches.fired.contains (page, cause) then s1
    else { s1 with latches := { s1.latches with fired := (page, cause) :: s1.latches.fired } }
  else s.setReal page cause

/-- R37, R39, R43, R512: a discarded access is recorded, with CXL cause 1 and vector 305. -/
def recordBad (kind addr : Nat) (s : State) : State :=
  ((((s.wr 0x380 F.cxl0_BAD_ACCESS_KIND kind).bump 0x380 F.cxl0_BAD_ACCESS_COUNT).wr 0x380 F.cxl0_BAD_ADDR addr).raise 0x380 1).vector 305

/-! ## Running and stopping -/

/-- Forwarding, tables, capture and domain transitions have stopped: in the safe state (R464) and from the commit of a
warm reset until it applies (R539). -/
def State.stopped (s : State) : Bool := s.isSafe || s.boot.quiescing

/-- An effect that only a running device has. -/
def State.running (s : State) (f : State → State) : State := if s.stopped then s else f s

/-- An effect that its rule gives only when a condition holds; otherwise the command has not happened (log entry 7). -/
def State.given (s : State) (c : Bool) (f : State → State) : State := if c then f s else s

/-- A periodic instant: the `k`-th multiple of `period` ns has passed since the last one handled under the key. -/
def State.dueAt (s : State) (key period : Nat) (nsNow : Nat) : Bool :=
  decide (nsNow / period > s.ticks.last.val s.ticks.base key / period)

/-- A periodic effect taken once per multiple of its period (log entry 10). -/
def State.periodic (s : State) (key period : Nat) (f : State → State) : State :=
  if s.dueAt key period s.nowNs then
    f { s with ticks := { s.ticks with last := s.ticks.last.put s.ticks.base key s.nowNs } }
  else s

/-! ## Ports, octets and slices (R18 to R20) -/

/-- The PRT page of a port. -/
def prt (p : Nat) : Nat := 0xC00 + p
/-- The LAN page of a lane. -/
def lan (l : Nat) : Nat := 0x800 + l
/-- The OCT page of an octet. -/
def oct (o : Nat) : Nat := 0x580 + o
/-- The slice of a lane or port. -/
def sliceOf (p : Nat) : Nat := p / 32
/-- R20, R44: the lane is the first lane of a configured port. -/
def State.configured (s : State) (p : Nat) : Bool := s.on (prt p) F.hdr_PAGE_STATUS_CONFIGURED
/-- The host link is up (R480). Without it no access to host memory succeeds (R536). -/
def State.hostUp (s : State) : Bool := s.on 0x380 F.cxl0_LINK_STATUS_UP
/-- The number of lanes of a port. -/
def State.widthOf (s : State) (p : Nat) : Nat := 2 ^ s.rd (prt p) F.prt_LINK_STATUS_WIDTH
/-- The lanes of a port. -/
def State.lanesOf (s : State) (p : Nat) : List Nat := (List.range (s.widthOf p)).map (p + ·)
/-- The configured ports of an octet. -/
def State.portsOfOctet (s : State) (o : Nat) : List Nat :=
  ((List.range 8).map (8 * o + ·)).filter s.configured
/-- The link of a port is up. -/
def State.up (s : State) (p : Nat) : Bool := s.on (prt p) F.prt_LINK_STATUS_UP

/-- R21: the port whose configured lanes hold a lane: the last configured first lane at or before it. -/
def State.portOfLane (s : State) (l : Nat) : Option Nat :=
  ((List.range (l % 8 + 1)).map (l - ·)).find? fun p => s.configured p && decide (l < p + s.widthOf p)

/-! ## Host writes (R44, R46, R47, R52, R549) -/

/-- R548, R549: the boot step that brings a page's block into service. -/
def serviceStep (page : Nat) : Nat :=
  if page ≤ 0x00F then 5
  else if page ≤ 0x01F then 7
  else if 0x050 ≤ page ∧ page ≤ 0x06F then 13
  else if 0x070 ≤ page ∧ page ≤ 0x0AF then 14
  else if 0x300 ≤ page ∧ page ≤ 0x33F then 10
  else if 0x340 ≤ page ∧ page ≤ 0x37F then 6
  else if 0x440 ≤ page ∧ page ≤ 0x45F then 11
  else if 0x500 ≤ page ∧ page ≤ 0xFFF then 12
  else 8

/-- R549: a page whose block is not yet in service. The Crown pages answer while the ROM waits for the host (R546). -/
def State.unserved (s : State) (page : Nat) : Bool :=
  !s.boot.done.contains (serviceStep page) && !(s.boot.rom && decide (0x010 ≤ page ∧ page ≤ 0x01F))
/-- RESET_BUSY (R45, R549). -/
def State.resetBusy (s : State) (page : Nat) : Bool := s.unserved page || s.on page F.hdr_PAGE_STATUS_RESET_BUSY

/-- R409: the power domain that a page's block lies in. -/
def domainServing (page : Nat) : Option Nat :=
  if 0x420 ≤ page ∧ page ≤ 0x43F then some (page - 0x420)
  else if 0x800 ≤ page ∧ page ≤ 0xBFF then some (32 + (page - 0x800) / 8)
  else if 0xC00 ≤ page ∧ page ≤ 0xFFF then some (32 + (page - 0xC00) / 8)
  else domainOfPage page
/-- R47: the page's power domain is in DROWSE, RETAIN or OFF. -/
def State.pageAsleep (s : State) (page : Nat) : Bool :=
  match domainServing page with
  | some d => decide (2 ≤ (s.mtn.doms.val {} d).state)
  | none => false

/-- R44, R46, R47: the page's registers at 0x080 and above read zero and take no write. -/
def State.shut (s : State) (page : Nat) : Bool :=
  s.resetBusy page || s.pageAsleep page || (decide (0xC00 ≤ page ∧ page ≤ 0xFFF) && !s.configured (page - 0xC00))

/-- R47: an access to a page whose domain is IDLE wakes its clock. -/
def State.wakeClock (s : State) (page : Nat) : State :=
  match domainServing page with
  | some d =>
    let x := s.mtn.doms.val {} d
    if x.state = 1 ∧ x.gated then { s with mtn := { s.mtn with doms := s.mtn.doms.put {} d { x with gated := false } } } else s
  | none => s

/-- A host write to a page's registers at 0x080 and above: discarded in the safe state and during a warm reset's quiesce
(R52, R539), discarded with WRITE_DROPPED on a busy, sleeping or unconfigured page (R44, R46, R47), and otherwise taken. -/
def State.written (s : State) (page : Nat) (f : State → State) : State :=
  if s.stopped then s
  else if s.shut page then s.set1 page F.hdr_PAGE_STATUS_WRITE_DROPPED
  else f (s.wakeClock page)

/-! ## Bytes -/

/-- The bytes of a number, least significant first (R9). -/
def leBytes (n : Nat) (v : Nat) : List Byte := (List.range n).map fun i => BitVec.ofNat 8 (v / 256 ^ i)
/-- The number of bytes in that order. -/
def leVal (bs : List Byte) : Nat := bs.foldr (fun b n => n * 256 + b.toNat) 0
/-- The number of bytes in network order. -/
def beVal (bs : List Byte) : Nat := bs.foldl (fun n b => n * 256 + b.toNat) 0
def beBytes (n : Nat) (v : Nat) : List Byte := (leBytes n v).reverse
/-- R9: a network-order field of `n` bytes keeps the wire's order, its first byte at the lowest address: the field's number for
the number on the wire, and the other way round. -/
def netOrder (n v : Nat) : Nat := leVal (beBytes n v)
/-- Bytes `off` to `off + n - 1`; absent bytes are zero. -/
def slice (bs : List Byte) (off n : Nat) : List Byte := (List.range n).map fun i => bs.getD (off + i) 0

/-- A byte of DDR5; one that nothing has written reads 0 (log entry 5). -/
def State.ddrByte (s : State) (a : Nat) : Byte := s.ddr.val 0 a
def State.ddrRead (s : State) (a n : Nat) : List Byte := (List.range n).map fun i => s.ddrByte (a + i)
/-- Bytes written into DDR5 from an address upward. -/
def ddrStore (m : SMap Byte) : Nat → List Byte → SMap Byte
  | _, [] => m
  | a, b :: bs => ddrStore (m.put 0 a b) (a + 1) bs
/-- R525: a write into a line of 64 bytes ends its poison. -/
def State.ddrWrite (s : State) (a : Nat) (bs : List Byte) : State :=
  { s with
    ddr := ddrStore s.ddr a bs
    poison := if bs.isEmpty then s.poison else s.poison.filter fun p => decide (p.1 < a / 64 ∨ (a + bs.length - 1) / 64 < p.1) }
/-- R525: a read of these bytes meets poison. -/
def State.poisoned (s : State) (a n : Nat) : Bool :=
  s.poison.any fun p => decide (a / 64 ≤ p.1 ∧ p.1 ≤ (a + n - 1) / 64)

/-- CRC-32C of bytes (R374, R467): reflected polynomial 0x82F63B78, start and end inverted. -/
def crc32c (bs : List Byte) : Nat :=
  let step1 (c : Nat) : Nat := if c % 2 = 1 then (c / 2) ^^^ 0x82F63B78 else c / 2
  let byte (c : Nat) (b : Byte) : Nat :=
    step1 (step1 (step1 (step1 (step1 (step1 (step1 (step1 (c ^^^ b.toNat))))))))
  (bs.foldl byte 0xFFFFFFFF) ^^^ 0xFFFFFFFF

/-- The Ethernet FCS of a frame's bytes, in the order it is sent: CRC-32 of IEEE 802.3 (PRESUMED, log entry 12). -/
def fcsOf (bs : List Byte) : List Byte :=
  let step1 (c : Nat) : Nat := if c % 2 = 1 then (c / 2) ^^^ 0xEDB88320 else c / 2
  let byte (c : Nat) (b : Byte) : Nat :=
    step1 (step1 (step1 (step1 (step1 (step1 (step1 (step1 (c ^^^ b.toNat))))))))
  leBytes 4 ((bs.foldl byte 0xFFFFFFFF) ^^^ 0xFFFFFFFF)

/-- R425: the wake of a channel in use has failed: every region spans it (R517). -/
def State.ddrFailed (s : State) : Bool :=
  (List.range (s.rd 0x340 F.ddr0_DDR_STATUS_CHANNELS)).any fun c => (s.mtn.doms.val {} (196 + c)).failed != 0
/-- R518: a ring or slot of DDR5 lies inside a region. -/
def State.inRegion (s : State) (k base size : Nat) : Bool :=
  let b := s.rdi 0x340 F.ddr0_REGION_BASE k
  decide (b ≤ base ∧ base + size ≤ b + s.rdi 0x340 F.ddr0_REGION_SIZE k) && !s.ddrFailed

/-- Bytes written into a ring from an offset, wrapping from its end to its start. -/
def State.ringWrite (s : State) (base size off : Nat) (bs : List Byte) : State :=
  (s.ddrWrite (base + off) (bs.take (size - off))).ddrWrite base (bs.drop (size - off))

/-- Bytes read from a ring in the same order. -/
def State.ringRead (s : State) (base size off n : Nat) : List Byte :=
  (List.range n).map fun i => s.ddrByte (base + (off + i) % size)

end Sys2Proof.Machine
end

