-- ==== Sys2Proof/Machine/Sha.lean ====
section
/-! DEFINITION. SHA-384 on bytes (R367 to R372). The spec names the function; its definition is that of FIPS 180-4
(PRESUMED, log entry 11). -/

namespace Sys2Proof.Machine

namespace Sha

/-- Bits of a root settled from the top: `n` more of them are tried, the lowest last. -/
def rootBits (k bound : Nat) : Nat → Nat → Nat
  | 0, r => r
  | n + 1, r => rootBits k bound n (if (r + 2 ^ n) ^ k ≤ bound then r + 2 ^ n else r)
/-- The first 64 bits of the fraction of the k-th root of a number below 512. -/
def rootFraction (k p : Nat) : Nat := rootBits k (p * 2 ^ (64 * k)) 69 0 % 2 ^ 64
/-- The primes up to 409, of which there are 80: a smallest divisor of a composite below 441 is below 21. -/
def primes : List Nat := (List.range 410).filter fun p => 2 ≤ p && (List.range 21).all fun d => d < 2 || d ≥ p || p % d != 0

/-- The 80 round constants: the fractions of the cube roots of the first 80 primes. -/
def ks : List Nat := primes.map (rootFraction 3)

/-- The eight words that hashing starts from: the fractions of the square roots of the 9th to the 16th prime. -/
def start : List Nat := ((primes.drop 8).take 8).map (rootFraction 2)

/-- A sum of words. -/
def sum (xs : List Nat) : Nat := xs.foldl (· + ·) 0 % 2 ^ 64
/-- A word rotated right. -/
def rotr (n x : Nat) : Nat := (x >>> n ||| x <<< (64 - n)) % 2 ^ 64

/-- The word of the schedule that follows sixteen others, given newest first. -/
def nextWord (w : List Nat) : Nat :=
  let x := w.getD 14 0
  let y := w.getD 1 0
  sum [rotr 19 y ^^^ rotr 61 y ^^^ y >>> 6, w.getD 6 0, rotr 1 x ^^^ rotr 8 x ^^^ x >>> 7, w.getD 15 0]

/-- The schedule grown by a number of words, newest first. -/
def grow : Nat → List Nat → List Nat
  | 0, w => w
  | n + 1, w => grow n (nextWord w :: w)

/-- One round on the eight working words. -/
def round (v : List Nat) (kw : Nat × Nat) : List Nat :=
  match v with
  | [a, b, c, d, e, f, g, h] =>
    let t1 := sum [h, rotr 14 e ^^^ rotr 18 e ^^^ rotr 41 e, (e &&& f) ^^^ ((2 ^ 64 - 1 - e) &&& g), kw.1, kw.2]
    let t2 := sum [rotr 28 a ^^^ rotr 34 a ^^^ rotr 39 a, (a &&& b) ^^^ (a &&& c) ^^^ (b &&& c)]
    [sum [t1, t2], a, b, c, sum [d, t1], e, f, g]
  | _ => v

/-- One block of sixteen words. -/
def block (h w : List Nat) : List Nat :=
  let v := (ks.zip (grow 64 w.reverse).reverse).foldl round h
  (h.zip v).map fun p => (p.1 + p.2) % 2 ^ 64

/-- A word of eight bytes, the first the highest. -/
def wordOf (bs : List Byte) (i : Nat) : Nat := ((bs.drop (8 * i)).take 8).foldl (fun n b => n * 256 + b.toNat) 0

/-- A number of blocks of 128 bytes. -/
def blocks : Nat → List Byte → List Nat → List Nat
  | 0, _, h => h
  | n + 1, bs, h => blocks n (bs.drop 128) (block h ((List.range 16).map (wordOf bs)))

end Sha

/-- SHA-384 of a list of bytes: 48 bytes. -/
def sha384 (m : List Byte) : List Byte :=
  let zeros := (128 - (m.length + 17) % 128) % 128
  let len := (List.range 16).map fun i => BitVec.ofNat 8 (8 * m.length / 256 ^ (15 - i))
  let p := m ++ [0x80] ++ List.replicate zeros 0 ++ len
  let h := Sha.blocks (p.length / 128) p Sha.start
  (h.take 6).flatMap fun w => (List.range 8).map fun i => BitVec.ofNat 8 (w / 256 ^ (7 - i))

end Sys2Proof.Machine
end

