-- ==== Sys2Proof/Machine/Bundle.lean ====
section
/-! DEFINITION. Elvoine bundles (R496 to R499), the boot directory of the flash and the boot set (R541 to R544). -/

namespace Sys2Proof.Machine

/-! ## Bundles (R496, R498) -/

/-- A section as a bundle's header lists it. -/
structure BundleSection where
  type : Nat
  offset : Nat
  length : Nat
  version : Nat
  digest : List Byte
  deriving DecidableEq, Repr

/-- The bundle that lies in 64 MiB at most. -/
def bundleMax : Nat := 0x4000000
def sectionCount (bs : List Byte) : Nat := leVal (slice bs 6 2)
def bundleSvn (bs : List Byte) : Nat := leVal (slice bs 0x0C 4)
def totalLength (bs : List Byte) : Nat := leVal (slice bs 0x14 4)
def revokeMask (bs : List Byte) : Nat := leVal (slice bs 0x78 4) % 16
/-- R496: the sections listed. -/
def sectionsOf (bs : List Byte) : List BundleSection :=
  (List.range (min 16 (sectionCount bs))).map fun i =>
    let o := 0x80 + 64 * i
    ⟨leVal (slice bs o 2), leVal (slice bs (o + 4) 4), leVal (slice bs (o + 8) 4), leVal (slice bs (o + 12) 4), slice bs (o + 16) 48⟩
def sectionOf (bs : List Byte) (type : Nat) : Option BundleSection := (sectionsOf bs).find? (·.type == type)
def bodyOf (bs : List Byte) (x : BundleSection) : List Byte := slice bs x.offset x.length

/-- R496: MAGIC, FORMAT and the sections' places. -/
def formatOk (bs : List Byte) : Bool :=
  slice bs 0 4 == [0x45, 0x4C, 0x56, 0x4E] && leVal (slice bs 4 2) == 1 && decide (1 ≤ sectionCount bs ∧ sectionCount bs ≤ 16) &&
    ((sectionsOf bs).all fun x => x.offset % 64 == 0 && decide (0x500 ≤ x.offset ∧ x.offset + x.length ≤ totalLength bs)) &&
    ((sectionsOf bs).zipIdx.all fun p => (sectionsOf bs).zipIdx.all fun q =>
      decide (q.2 ≤ p.2 ∨ p.1.offset + p.1.length ≤ q.1.offset ∨ q.1.offset + q.1.length ≤ p.1.offset))

/-- R499: the hash in a key slot. -/
def keyHash (k : Nat) : List Byte := (List.range 48).map (Config.keyHash k)
/-- R498: the unrevoked key slot whose key signed a bundle, where its signature verifies. -/
def signer (revoked : Nat) (bs : List Byte) : Option Nat :=
  let key := slice bs 0x18 96
  ((List.range 4).find? fun k => !revoked.testBit k && keyHash k == sha384 key).filter fun _ =>
    Config.signatureValid key (slice bs 0 0x480) (slice bs 0x480 96)

/-- R498: the DETAIL code of a bundle of a length; 0 when it passes. Where several checks fail, the lowest code. -/
def verifyBundle (revoked floor : Nat) (bs : List Byte) : Nat :=
  if (signer revoked bs).isNone then 0x01
  else if !formatOk bs then 0x02
  else if leVal (slice bs 0x10 4) > 0xA0 then 0x04
  else if (sectionsOf bs).any fun x => sha384 (bodyOf bs x) != x.digest then 0x10
  else if bundleSvn bs < floor then 0x11
  else if bs.length ≠ totalLength bs then 0x12
  else if ((sectionsOf bs).map BundleSection.type).any (fun t => t == 0 || decide (5 < t)) ||
      decide (¬ ((sectionsOf bs).map BundleSection.type).Nodup) then 0x13
  else 0

/-- R493: a Crown firmware's version as IDN offset 0x090 codes it. -/
def firmwareVersion (x : BundleSection) : Nat := x.version + 2 ^ 32 * (Config.firmwareBuild x.digest % 2 ^ 32)

/-- The firmware that a bundle's CROWN_FW section is. -/
def firmwareOf (revoked : Nat) (bs : List Byte) : Firmware :=
  match sectionOf bs 1 with
  | some x => { version := firmwareVersion x, digest := x.digest, svn := bundleSvn bs, revoke := revokeMask bs,
                signer := (signer revoked bs).getD 0 }
  | none => {}

/-! ## The flash (R541 to R543) -/

def State.flashRead (s : State) (a n : Nat) : List Byte := (List.range n).map fun i => s.crown.flash.val 0xFF (a + i)
/-- Bytes written into the flash. -/
def flashStore (m : SMap Byte) : Nat → List Byte → SMap Byte
  | _, [] => m
  | a, b :: bs => flashStore (m.put 0xFF a b) (a + 1) bs

/-- An entry of a directory copy (R542). -/
structure DirEntry where
  type : Nat
  offset : Nat
  length : Nat
  seq : Nat
  deriving DecidableEq, Repr
/-- A directory copy that is valid. -/
structure Directory where
  generation : Nat
  entries : List DirEntry
  deriving DecidableEq, Repr

/-- R542: directory copy `k`, where it is valid. -/
def State.directory (s : State) (k : Nat) : Option Directory :=
  let b := s.flashRead (0x1000 * k) 0x94
  let n := leVal (slice b 6 2)
  let entries : List DirEntry := (List.range (min 8 n)).map fun i =>
    let o := 0x10 + 16 * i
    ⟨leVal (slice b o 2), leVal (slice b (o + 4) 4), leVal (slice b (o + 8) 4), leVal (slice b (o + 12) 4)⟩
  if slice b 0 4 == [0x54, 0x4B, 0x42, 0x44] && leVal (slice b 4 2) == 1 && crc32c (b.take 0x90) == leVal (slice b 0x90 4) &&
      decide (1 ≤ n ∧ n ≤ 8) && decide ((entries.filter fun e => e.type == 1).length ≤ 7) &&
      decide ((entries.filter fun e => e.type == 2).length ≤ 1)
  then some ⟨leVal (slice b 8 4), entries⟩ else none

/-- R542: the copy in use is the valid one of higher GENERATION. -/
def State.directoryInUse (s : State) : Option (Nat × Directory) :=
  match s.directory 0, s.directory 1 with
  | some a, some b => if a.generation ≥ b.generation then some (0, a) else some (1, b)
  | some a, none => some (0, a)
  | none, some b => some (1, b)
  | none, none => none

/-- R543: bundles that pass the checks, by SEQ; and whether one has failed them. -/
def passing (revoked floor : Nat) (images : List (Nat × List Byte)) : List (Nat × List Byte) × Bool :=
  let good := images.filter fun x => verifyBundle revoked floor x.2 == 0
  (good, good.length != images.length)
/-- R543: for each of the five section types the bundle of highest SEQ that holds it; none where a type is missing. -/
def bootSet (images : List (Nat × List Byte)) : Option (List (Nat × Nat × List Byte)) :=
  [1, 2, 3, 4, 5].mapM fun t =>
    (images.foldl (fun best x => if (sectionOf x.2 t).isNone then best else match best with
      | some y => if x.1 > y.1 then some x else best
      | none => some x) none).map fun (x : Nat × List Byte) => (t, x.1, x.2)

/-- The IMAGE entries of the directory in use, as (SEQ, bytes). -/
def State.flashImages (s : State) : List (Nat × List Byte) :=
  match s.directoryInUse with
  | some (_, d) => (d.entries.filter fun e => e.type == 1).map fun e => (e.seq, s.flashRead e.offset e.length)
  | none => []

/-! ## The flash at a confirmation (R544) -/

/-- The section types that an IMAGE entry holds. -/
def State.typesAt (s : State) (e : DirEntry) : List Nat := (sectionsOf (s.flashRead e.offset e.length)).map BundleSection.type
/-- R544 step 2: the lowest span that fits and that neither copy names. The flash is taken as 256 MiB, the largest device
of R541. -/
def State.freeSpan (s : State) (n : Nat) : Option Nat :=
  let used := ([0, 1].filterMap s.directory).flatMap Directory.entries
  (List.range 4095).map (fun k => 0x10000 * (k + 1)) |>.find? fun a =>
    decide (a + n ≤ 0x10000000) && used.all fun e => decide (a + n ≤ e.offset ∨ e.offset + e.length ≤ a)
/-- A directory copy's bytes. -/
def directoryBytes (generation : Nat) (es : List DirEntry) : List Byte :=
  let b := [0x54, 0x4B, 0x42, 0x44] ++ leBytes 2 1 ++ leBytes 2 es.length ++ leBytes 4 generation ++ leBytes 4 0 ++
    es.flatMap (fun e => leBytes 2 e.type ++ leBytes 2 0 ++ leBytes 4 e.offset ++ leBytes 4 e.length ++ leBytes 4 e.seq) ++
    leBytes (16 * (8 - es.length)) 0
  b ++ leBytes 4 (crc32c b)
/-- R544: the bundle is written, and the older directory copy rewritten; CRN cause 8 where no span is large enough. The
SEQ that the bundle takes is answered too. -/
def addToFlash (bs : List Byte) (s : State) : State × Option Nat :=
  let es := match s.directoryInUse with | some (_, d) => d.entries | none => []
  let top := es.foldl (fun m e => if e.type = 1 then max m e.seq else m) 0
  let news := (sectionsOf bs).map BundleSection.type
  let stays (e : DirEntry) : Bool := e.type != 1 || (s.typesAt e).any fun t =>
    !news.contains t && !(es.any fun f => f.type == 1 && decide (f.seq > e.seq) && (s.typesAt f).contains t)
  match s.freeSpan bs.length with
  | none => (s.raise 0x10 8, none)
  | some a =>
    let (copy, gen) := match s.directoryInUse with
      | some (k, d) => (1 - k, d.generation + 1)
      | none => (0, 1)
    let dir := directoryBytes gen (es.filter stays ++ [⟨1, a, bs.length, top + 1⟩])
    ({ s with crown := { s.crown with flash := flashStore (flashStore s.crown.flash a bs) (0x1000 * copy) dir } }, some (top + 1))

end Sys2Proof.Machine
end

