-- ==== Sys2Proof/Machine/Power.lean ====
section
/-! DEFINITION. Power domains (R409 to R421): what each holds, its votes and target, the start of entries and wakes, and
the AVSBus queue. -/

namespace Sys2Proof.Machine

/-! ## A domain and what its pages show -/

def State.dom (s : State) (d : Nat) : Dom := s.mtn.doms.val {} d
/-- CURRENT (R412): a domain in IDLE reads ACTIVE while its clock runs. -/
def Dom.current (x : Dom) : Nat := if x.state = 1 ∧ !x.gated then 0 else x.state
/-- DROWSE, RETAIN or OFF (R47). -/
def Dom.asleep (x : Dom) : Bool := decide (2 ≤ x.state)
/-- R409: PWR_STATE of the domain page, PAGE_STATUS.ASLEEP, and the bits of ASLEEP and FAILED (R429). -/
def showDom (d : Nat) (s : State) : State :=
  let x := s.dom d
  let p := pageOfDomain d
  let s1 := (((s.wr p F.hdr_PWR_STATE_CURRENT x.current).wr p F.hdr_PWR_STATE_IN_TRANSITION (x.trans != 0).toNat).wr p
    F.hdr_PWR_STATE_TARGET (if x.trans = 1 then x.to_ else if x.trans = 2 then 0 else x.current)).wr p F.hdr_PWR_STATE_WAKE_FAIL
    (x.failed != 0).toNat
  (((s1.wr p F.hdr_PWR_STATE_FAIL_STAGE x.failed).wr p F.hdr_PAGE_STATUS_ASLEEP x.asleep.toNat).putBitAt 0x31 F.mtn1_ASLEEP d
    x.asleep).putBitAt 0x31 F.mtn1_FAILED d (x.failed != 0)
/-- A domain put; vector 32 marks a change of CURRENT where IRQ is 1 (R429, R431). -/
def State.putDom (s : State) (d : Nat) (x : Dom) : State :=
  let old := (s.dom d).current
  let s1 := showDom d { s with mtn := { s.mtn with doms := s.mtn.doms.put {} d x } }
  if x.irq && old != x.current then s1.vector 32 else s1

/-- R409: the deepest state a domain takes. -/
def deepestOf (d : Nat) : Nat := if d = 205 then 2 else if d = 206 then 3 else if d = 208 then 1 else 4
/-- R409: its wake has a PLL stage. -/
def hasPll (d : Nat) : Bool := decide (32 ≤ d ∧ d < 160 ∨ 196 ≤ d ∧ d ≤ 207)
/-- R417: the privileged domains. -/
def privileged (d : Nat) : Bool := decide (205 ≤ d)

/-! ## Votes (R413, R414) -/

/-- R33: TC7 forwarding is enabled on a port. -/
def State.tc7On (s : State) (p : Nat) : Bool := s.on (prt p) F.prt_TC7_CFG_ENABLE && s.on (prt p) F.prt_PORT_CTRL_ENABLE
/-- The enabled release groups (R308). -/
def State.releaseGroups (s : State) : List Nat := (List.range 256).filter fun g => s.on (0x140 + g) F.rel_REL_CFG_ENABLE
/-- R308: one of some ports is a member of an enabled release group. -/
def State.releases (s : State) (ports : List Nat) : Bool :=
  s.releaseGroups.any fun g => ports.any fun p => s.bit (0x140 + g) F.rel_MEMBERS p
/-- R519: a session armed with RING_EN; a header or trace ring enabled; a snapshot PENDING or WRITING. -/
def State.sessionArmed (s : State) : Bool := s.ses.ctxs.any fun p => p.2.state != 0 && p.2.cfg.testBit 3
def State.ringEnabled (s : State) : Bool :=
  (List.range 16).any (fun h => s.on (0xD0 + h) F.hr_HR_CFG_ENABLE) || (List.range 32).any (fun g => s.on (0xE0 + g) F.trc_TRACE_CFG_ENABLE)
def State.snapBusy (s : State) : Bool := s.on 0xB0 F.vsr0_SNAP_STATUS_PENDING || s.on 0xB0 F.vsr0_SNAP_STATUS_WRITING
/-- R413: a client of DDR5 is in use. -/
def State.ddrInUse (s : State) : Bool :=
  s.on 0x70 F.ldg0_LDG_CFG_ENABLE || s.sessionArmed || s.ringEnabled || s.snapBusy || !s.tbl.shEmt.isEmpty || !s.tbl.shLpa.isEmpty ||
    !s.tbl.shCla.isEmpty
/-- Cells of a bank group's banks in service (R246). -/
def State.groupCells (s : State) (g : Nat) : Nat := 1024 * s.rd (0x480 + g) F.bufg_GROUP_STATUS_BANKS_IN_SERVICE
/-- R250: without the group, the ones that are ACTIVE and do not leave would not hold MIN plus TC7 plus HEADROOM cells. -/
def State.groupNeeded (s : State) (g : Nat) : Bool :=
  let stays (x : Dom) : Bool := x.state == 0 && x.trans == 0
  let others := ((List.range 36).filter fun k => k != g && stays (s.dom (160 + k))).map s.groupCells
  decide ((others.sum : Nat) < s.rd 0x4A4 F.bufx_MIN_POOL + s.rd 0x4A4 F.bufx_POOL_CFG0_TC7_POOL + s.rd 0x4A4 F.bufx_POOL_CFG0_HEADROOM)

/-- The ports whose lanes lie in a domain's octets or slice. -/
def State.portsOfDomain (s : State) (d : Nat) : List Nat :=
  if d < 32 then ((List.range 32).map (32 * d + ·)).filter s.configured
  else if d < 160 then s.portsOfOctet (d - 32)
  else []

/-- R413: the holders of a domain, by their bits in HOLDERS, and their votes. -/
def State.votes (s : State) (d : Nat) : List (Nat × Nat) :=
  let x := s.dom d
  let host := s.rd (pageOfDomain d) F.hdr_PWR_VOTE_STATE
  let lane (l : Nat) : Bool := s.rd (lan l) F.lan_LANE_STATUS_TX_STATE < 2 || s.rd (lan l) F.lan_LANE_STATUS_RX_STATE < 2
  let g := d - 160
  [(0, host, host != 7),
   (1, if s.on 0x30 F.mtn0_MTN_STATUS_BOOT_HOLDS then 0 else x.firmware,
     s.on 0x30 F.mtn0_MTN_STATUS_BOOT_HOLDS || x.firmware != 7),
   (2, 0, (s.portsOfDomain d).any s.tc7On || (decide (160 ≤ d ∧ d < 196) && s.on (0x480 + g) F.bufg_GROUP_STATUS_TC7_BACKING &&
     (List.range 1024).any s.tc7On)),
   (3, 0, s.releases (s.portsOfDomain d)),
   (4, 0, decide (32 ≤ d ∧ d < 160) && (List.range 8).any fun k => lane (8 * (d - 32) + k)),
   (5, 1, decide (d < 32) && (s.portsOfDomain d).any fun p => s.on (prt p) F.prt_PORT_CTRL_ENABLE),
   (6, 0, decide (160 ≤ d ∧ d < 196) && (s.rd (0x480 + g) F.bufg_GROUP_STATUS_LIVE_CELLS != 0 || s.groupNeeded g ||
     (List.range 32).any fun b => s.rdi (0x480 + g) F.bufg_BANK_STATE b == 2)),
   (7, 0, decide (196 ≤ d ∧ d < 204) && s.ddrInUse),
   (8, 1, d == 204 && s.on 0x380 F.cxl0_LINK_STATUS_UP)].filterMap fun v => if v.2.2 then some (v.1, v.2.1) else none

/-- R414, R425, R516: the target of a domain under its votes. -/
def State.targetOf (s : State) (d : Nat) : Nat :=
  let x := s.dom d
  if x.denied || x.heldOff then 4
  else
    let cap := min x.deepest (deepestOf d)
    match s.votes d with
    | [] => cap
    | v :: r => min (r.foldl (fun m w => min m w.2) v.2) cap

/-! ## The AVSBus queue (R420, R421) -/

/-- The VDD_CORE that the regulator is asked to hold: the setpoint, and the inrush steps in force. -/
def State.coreMv (s : State) : Nat := s.rd 0x40 F.pwc0_VOLT_STATUS_SETPOINT_MV + ((s.mtn.steps.map Inrush.mv).sum : Nat)
/-- R422: STEP_MV as it is taken. -/
def State.stepMv (s : State) : Nat := min 20 (s.rd 0x32 F.mtn2_AVS_CFG_STEP_MV)
/-- R429: VDD_LOW_MV as it is taken. -/
def State.lowMv (s : State) : Nat :=
  let v := s.rd 0x32 F.mtn2_AVS_CFG_VDD_LOW_MV
  if 500 ≤ v ∧ v ≤ 650 then v else 560
/-- R440: AT_FLOOR reads 1 at the lowest operating point. -/
def refreshFloor (s : State) : State :=
  s.wr 0x40 F.pwc0_CAP_STATUS_AT_FLOOR (decide (s.rd 0x40 F.pwc0_VOLT_STATUS_SETPOINT_MV = s.rd 0x40 F.pwc0_VOLT_CFG_VDD_FLOOR_MV ∧
    s.rd 0x40 F.pwc0_CAP_STATUS_RATIO = 128 ∧ s.rd 0x40 F.pwc0_CAP_STATUS_LEVEL = 6)).toNat
/-- R439: the setpoint that a step asks for. -/
def State.steppedMv (s : State) (up : Bool) : Nat :=
  let v := s.rd 0x40 F.pwc0_VOLT_STATUS_SETPOINT_MV
  if up then min (v + 5) (s.rd 0x40 F.pwc0_VOLT_CFG_VDD_NOM_MV) else max (v - 5) (s.rd 0x40 F.pwc0_VOLT_CFG_VDD_FLOOR_MV)

/-- The first transaction of the queue is sent. A withdrawal waits for no acknowledgement (R422). -/
def sendAvs : List AvsTx → State → State
  | [], s => { s with mtn := { s.mtn with avs := [] } }.wr 0x32 F.mtn2_AVS_STATUS_BUSY 0
  | tx :: r, s =>
    let sent (rail : String) (mv : Nat) (s : State) : State :=
      ({ s with mtn := { s.mtn with avs := { tx with since := s.mono } :: r } }.send (.avs rail mv)).wr 0x32 F.mtn2_AVS_STATUS_BUSY 1
    match tx.kind with
    | .withdraw d =>
      let s1 := { s with mtn := { s.mtn with steps := s.mtn.steps.filter fun x => x.domain != d } }
      sendAvs r (s1.send (.avs "VDD_CORE" s1.coreMv))
    | .wake _ => sent "VDD_CORE" (s.coreMv + s.stepMv) s
    | .low => sent "VDD_LOW" s.lowMv s
    | .cap up => sent "VDD_CORE" (s.steppedMv up + (s.coreMv - s.rd 0x40 F.pwc0_VOLT_STATUS_SETPOINT_MV)) s

/-- R421: a transaction enters the queue; a wake's goes before every waiting one of capping. -/
def queueAvs (k : AvsKind) (s : State) : State :=
  let tx : AvsTx := { kind := k }
  let isCap (t : AvsTx) : Bool := match t.kind with | .cap _ => true | _ => false
  match s.mtn.avs with
  | [] => sendAvs [tx] s
  | f :: r =>
    let r1 := match k with
      | .wake _ => r.takeWhile (fun t => !isCap t) ++ tx :: r.dropWhile fun t => !isCap t
      | _ => r ++ [tx]
    { s with mtn := { s.mtn with avs := f :: r1 } }

/-- R420: whether any domain in DROWSE stands on VDD_LOW, or enters it. -/
def State.lowUsed (s : State) : Bool :=
  s.mtn.doms.any fun p => (p.2.state == 2 && !p.2.fallback) || (p.2.trans == 1 && p.2.to_ == 2)
def refreshLow (s : State) : State :=
  if s.lowUsed || !s.on 0x32 F.mtn2_AVS_STATUS_VDD_LOW_UP then { s with mtn := { s.mtn with lowSince := none } }
  else if s.mtn.lowSince.isSome then s
  else { s with mtn := { s.mtn with lowSince := some s.mono } }

/-! ## Entries and wakes (R415, R420, R422, R424) -/

/-- An entry starts. IDLE is only the leave to gate the clock (R412); DROWSE needs VDD_LOW (R420). -/
def startEntry (d to_ : Nat) (s : State) : State :=
  let x := { s.dom d with asked := 0, holdFrom := none }
  if to_ = 1 then s.putDom d { x with state := 1, gated := false }
  else
    let up := s.on 0x32 F.mtn2_AVS_STATUS_VDD_LOW_UP
    let s1 := s.putDom d { x with
      trans := 1
      to_ := to_
      since := s.mono
      waitsLow := to_ == 2 && !up }
    if to_ = 2 ∧ !up ∧ !s.mtn.avs.any (fun t => t.kind == .low) then queueAvs .low s1 else refreshLow s1

/-- A wake starts: from IDLE it is done at once, from RETAIN and OFF its first stage asks for the inrush step (R422). -/
def startWake (d : Nat) (s : State) : State :=
  let x := { s.dom d with asked := 0, holdFrom := none, latched := false }
  if x.state = 1 then s.putDom d { x with state := 0, gated := false }
  else
    let s1 := s.putDom d { x with
      trans := 2
      fromOff := x.state == 4
      stage := if x.state = 2 then 0 else 1
      tries := 0
      since := s.mono
      redo := false
      retention := false
      lost := 0 }
    if x.state = 2 then s1 else queueAvs (.wake d) s1

/-- R427: an entry of the domain has completed in this AON cycle, of 40 ns. -/
def State.justEntered (s : State) (x : Dom) : Bool :=
  match x.doneAt with | some t => t / ns 40 == s.mono / ns 40 | none => false

/-- R414, R415, R417, R424: a domain's votes, or what bounds its target, may have changed. No transition starts in the
safe state (R428) or while a warm reset quiesces (R539). -/
def recomputeDom (d : Nat) (s : State) : State :=
  let x := s.dom d
  let t := s.targetOf d
  let y := { x with
    target := t
    holders := ((s.votes d).map fun v => 2 ^ v.1).sum
    asked := if t = x.target then x.asked else 0 }
  let idle (holdFrom : Option T80) : State := s.putDom d { y with holdFrom := holdFrom }
  match x.trans with
  | 0 =>
    if t < x.state then
      if s.stopped then idle none
      else
        let again := if s.justEntered x then 1 else 0
        startWake d (s.putDom d { y with
          holdFrom := none
          replays := sat 16 (x.replays + again) })
    else if t = x.state ∨ y.asked ≠ 0 then idle none
    else idle (some (x.holdFrom.getD s.mono))
  | 1 => s.putDom d { y with latched := x.latched || decide (t < x.to_) }
  | _ => s.putDom d y

/-- R33, R250: the bank groups that back the TC7 pool follow their holds. -/
def recomputeBacking (s : State) : State :=
  (List.range 36).foldl (fun t g => if t.on (0x480 + g) F.bufg_GROUP_STATUS_TC7_BACKING then recomputeDom (160 + g) t else t) s
/-- R33, R156, R308: the domains that a port's frames pass follow their holds: its slice, its octet, the TC7 pool's groups. -/
def recomputePort (p : Nat) (s : State) : State := recomputeBacking (recomputeDom (32 + p / 8) (recomputeDom (sliceOf p) s))

/-- R413: the DDR5 channels follow whether their clients are in use. -/
def recomputeDdr (s : State) : State := (List.range 8).foldl (fun t c => recomputeDom (196 + c) t) s

/-- R419: a doorbell, a mailbox write or a command-queue tail write is a vote of FIRMWARE for ACTIVE on Crown. -/
def wakeCrown (s : State) : State :=
  let x := s.dom 205
  if x.state = 0 ∧ x.trans = 0 ∧ x.holdFrom.isNone then s else recomputeDom 205 (s.putDom 205 { x with firmware := 0 })

end Sys2Proof.Machine
end

