-- ==== Sys2Proof/Machine/Ledger.lean ====
section
/-! DEFINITION. Capture records and the evidence ledger (spec/11_evidence_ledger.md): records, streams, blocks, chains,
anchors, runs, the SEAL and the export ports. -/

namespace Sys2Proof.Machine

/-! ## Streams -/

/-- The page of a stream (R383). -/
def ldgs (stream : Nat) : Nat := 0x90 + stream
def State.stream (s : State) (n : Nat) : Stream := s.ldg.streams.val {} n
def State.putStream (s : State) (n : Nat) (x : Stream) : State :=
  { s with ldg := { s.ldg with streams := s.ldg.streams.put {} n x } }
/-- A run is in progress. -/
def State.ledgerRuns (s : State) : Bool := s.on 0x70 F.ldg0_LDG_STATUS_RUNNING
/-- The stream's own enable (R353). -/
def State.streamOn (s : State) (n : Nat) : Bool := s.on (ldgs n) F.ldgs_SCFG_ENABLE
/-- The run goes on: no STOP anchor of it waits for its signature (R375). -/
def State.recording (s : State) : Bool := s.ledgerRuns && !(s.ldg.signing.any fun d => d.kind == 5) && !s.isSafe
/-- The stream takes records (R353, R376). -/
def State.taking (s : State) (n : Nat) : Bool := s.recording && s.streamOn n

/-- The code a stamp at an instant takes (R118): that of the latest change whose E is not after it, whether or not the change's
own command has come. -/
def State.codeAt (s : State) (t : T80) : Nat :=
  (s.hat.tqPast.reverse ++ s.hat.tqChanges).foldl (fun c p => if p.1 ≤ t then p.2 else c) 4

/-- STREAM_STATUS follows the stream. -/
def refreshStream (n : Nat) (s : State) : State :=
  (s.wr (ldgs n) F.ldgs_STREAM_STATUS_ACTIVE (if s.taking n then 1 else 0)).wr (ldgs n) F.ldgs_STREAM_STATUS_LOSING
    (if (s.stream n).losses.isEmpty then 0 else 1)
def refreshStreams (s : State) : State := (List.range 32).foldl (fun t n => refreshStream n t) s

/-- SIGN_BUSY while an anchor waits for its signature. -/
def refreshSigning (s : State) : State :=
  s.wr 0x70 F.ldg0_LDG_STATUS_SIGN_BUSY (if s.ldg.signing.isEmpty then 0 else 1)

/-! ## Blocks and chains (R367 to R369) -/

/-- One level of the Merkle tree. -/
def merkleLevel : List (List Byte) → List (List Byte)
  | a :: b :: r => sha384 (1 :: a ++ b) :: merkleLevel r
  | _ => []

/-- A number of levels. -/
def merkle : Nat → List (List Byte) → List (List Byte)
  | 0, xs => xs
  | n + 1, xs => merkle n (merkleLevel xs)

/-- R367: the root over 256 leaves, those past the last record zero. -/
def blockRoot (recs : List (List Byte)) : List Byte :=
  (merkle 8 ((List.range 256).map fun i => match recs[i]? with
    | some r => sha384 (0 :: r)
    | none => leBytes 48 0)).headD []

/-- R368: the genesis value of a stream's chain in the run. -/
def State.genesis (s : State) (n : Nat) : List Byte :=
  sha384 (3 :: leBytes 8 (s.rd 0 F.idn_SERIAL) ++ leBytes 4 (s.rd 0x70 F.ldg0_RUN) ++ leBytes 1 n ++ leBytes 8 s.ldg.startNs)

/-- The latest LINK, or the genesis value before the run's first block. -/
def State.linkOf (s : State) (n : Nat) : List Byte :=
  let x := s.stream n
  if x.link.isEmpty then s.genesis n else x.link

/-- The size of a stream's ring (R383). -/
def State.ringSize (s : State) (n : Nat) : Nat :=
  let l := s.rd (ldgs n) F.ldgs_CR_LOG2
  2 ^ (if 20 ≤ l ∧ l ≤ 38 then l else 20)
def State.ringBase (s : State) (n : Nat) : Nat := s.rd (ldgs n) F.ldgs_CR_BASE * 2 ^ 12

/-- The offset after the last reserved block. -/
def State.reservedTo (s : State) (n : Nat) : Nat :=
  (s.rd (ldgs n) F.ldgs_CR_TAIL + ((s.stream n).unwritten.map fun b => b.bytes.length).sum) % s.ringSize n

/-- Bytes from a ring's head up to an offset. -/
def ringUsed (size head tail : Nat) : Nat := (tail + size - head % size) % size

/-- A block of `len` bytes fits between tail and head; a ring filled to its last byte would read as empty
(log entry 13). -/
def ringFits (size head tail len : Nat) : Bool := decide (ringUsed size head tail + len < size)

/-- The oldest blocks leave until a block fits; the head moves past them. Blocks the host has taken are no longer held. -/
def evict (size tail len : Nat) : Nat → List Held → Nat × List Held
  | head, [] => (if ringFits size head tail len then head else tail, [])
  | head, b :: r =>
    if (b.off + size - head % size) % size ≥ ringUsed size head tail then evict size tail len head r
    else if ringFits size head tail len then (head, b :: r)
    else evict size tail len (match r with | c :: _ => c.off | [] => tail) r

/-- R369: bytes reserved for a block, or none; with OVERWRITE the oldest blocks make room. -/
def reserve (n len : Nat) (s : State) : Option State :=
  let size := s.ringSize n
  let tail := s.reservedTo n
  let head := s.rd (ldgs n) F.ldgs_CR_HEAD
  if !s.inRegion 3 (s.ringBase n) size then none
  else if !(s.on (ldgs n) F.ldgs_SCFG_OVERWRITE) && !ringFits size head tail len then none
  else
    let (h, held) := evict size tail len head (s.stream n).held
    some ((s.wr (ldgs n) F.ldgs_CR_HEAD h).putStream n { s.stream n with held := held })

/-- A record put into the open block, without closing it. -/
def putRecord (n : Nat) (r : LRec) (s : State) : State :=
  ((s.putStream n { s.stream n with recs := (s.stream n).recs ++ [r] }).wr (ldgs n) F.ldgs_RECORDS
    (s.rd (ldgs n) F.ldgs_RECORDS + 1)).count 0x0A00 0

/-- R365: the bytes of a GAP record. -/
def gapBytes (cause fromNs toNs tq lost : Nat) : List Byte :=
  leBytes 8 fromNs ++ leBytes 2 0 ++ leBytes 1 (tq % 16 + 0x20) ++ leBytes 1 cause ++ leBytes 8 toNs ++
    leBytes 4 (sat 32 lost) ++ leBytes 8 0

/-- R366, R385: a GAP record counted, announced by the stream's vector, and put into the open block. -/
def putGap (n cause fromNs toNs tq lost : Nat) (s : State) : State :=
  let s1 := putRecord n ⟨s.now, gapBytes cause fromNs toNs tq lost⟩ s
  (((s1.putStream n { s1.stream n with gaps := (s1.stream n).gaps + 1 }).bump (ldgs n) F.ldgs_GAPS).count 0x0A01 0).vector
    (64 + n)

/-- R369: the header's first 32 bytes. -/
def State.blockHead (s : State) (n closeNs seq : Nat) (recs : List (List Byte)) : List Byte :=
  let body := (recs.map List.length).sum
  leBytes 4 0x4C424B54 ++ leBytes 1 n ++
    leBytes 1 ((if recs.length < 256 then 1 else 0) + (if recs.any fun r => r.length == 128 then 2 else 0)) ++
    leBytes 2 recs.length ++ leBytes 4 (s.rd 0x70 F.ldg0_RUN) ++ leBytes 4 body ++ leBytes 8 seq ++ leBytes 8 closeNs

/-- R380: the export entries in force that carry a stream. -/
def State.exportsOf (s : State) (n : Nat) : List Nat :=
  if s.on 0x70 F.ldg0_LDG_CFG_EXPORT_ENABLE then
    (List.range 16).filter fun e => s.rdi 0x72 F.ldg2_EXP_PORT_VALID e == 1 && (s.rdi 0x72 F.ldg2_EXP_PORT_STREAMS e).testBit n
  else []

/-- An item put behind the others on export entries. -/
def queueExport (es : List Nat) (x : ExpItem) (s : State) : State :=
  { s with ldg := { s.ldg with exports := es.foldl (fun m e => m.put [] e (m.val [] e ++ [x])) s.ldg.exports } }

/-- R367 to R369: the open block closes: it enters the chain with its bytes reserved, or is discarded unchained with
cause 1 and a RING_FULL GAP record. An empty block does not close. -/
def closeBlock (n closeNs : Nat) (s : State) : State :=
  let x := s.stream n
  match x.recs with
  | [] => s
  | r0 :: _ =>
    let bytes := x.recs.map LRec.bytes
    let len := 128 + (bytes.map List.length).sum
    let seq := s.rd (ldgs n) F.ldgs_BLOCK_SEQ + 1
    match reserve n len s with
    | some s1 =>
      let head := s.blockHead n closeNs seq bytes
      let root := blockRoot bytes
      let link := sha384 (2 :: s.linkOf n ++ head ++ root)
      let y := s1.stream n
      let off := s.reservedTo n
      let s2 := (s1.putStream n { y with
        recs := [], link := link
        unwritten := y.unwritten ++ [⟨head ++ root ++ link ++ bytes.flatten, x.recs, x.link, seq⟩]
        held := y.held ++ [⟨seq, off, len⟩] }).wr (ldgs n) F.ldgs_BLOCK_SEQ seq
      queueExport (s.exportsOf n) ⟨n, seq⟩
        ((List.range 6).foldl (fun t j => t.wri (ldgs n) F.ldgs_HEAD_LINK j (leVal (slice link (8 * j) 8))) s2)
    | none =>
      let s1 := (s.putStream n { x with recs := [] }).wr (ldgs n) F.ldgs_LOST (s.rd (ldgs n) F.ldgs_LOST + x.recs.length)
      let s2 := if s.inRegion 3 (s.ringBase n) (s.ringSize n) then s1 else s1.raise 0x340 1
      putGap n 2 (r0.fate / nsUnits) ((x.recs.getLastD r0).fate / nsUnits) (s.codeAt r0.fate) x.recs.length
        ((s2.raise 0x70 1).vector (64 + n))

/-- A record enters its stream's open block, which closes when it holds 256 (R367). -/
def enterRecord (n : Nat) (r : LRec) (s : State) : State :=
  let s1 := putRecord n r s
  if (s1.stream n).recs.length = 256 then closeBlock n s1.nowNs s1 else s1

/-- A GAP record enters likewise. -/
def enterGap (n cause fromNs toNs tq lost : Nat) (s : State) : State :=
  let s1 := putGap n cause fromNs toNs tq lost s
  if (s1.stream n).recs.length = 256 then closeBlock n s1.nowNs s1 else s1

/-- R366: a lost record joins the losses of its cause. -/
def loseRecord (n cause : Nat) (r : LRec) (s : State) : State :=
  let x := s.stream n
  let losses := match x.losses.getLast? with
    | some l => if l.cause = cause then x.losses.dropLast ++ [{ l with to_ := r.fate, lost := l.lost + 1 }]
        else x.losses ++ [⟨cause, r.fate, r.fate, s.codeAt r.fate, 1⟩]
    | none => [⟨cause, r.fate, r.fate, s.codeAt r.fate, 1⟩]
  refreshStream n (((s.putStream n { x with losses := losses }).wr (ldgs n) F.ldgs_LOST
    (s.rd (ldgs n) F.ldgs_LOST + 1)).raise 0x70 0)

/-- R366: the losses that have ended are declared before any later record. -/
def declareLosses (n : Nat) (s : State) : State :=
  let ls := (s.stream n).losses
  refreshStream n (ls.foldl (fun t l => enterGap n l.cause (l.from_ / nsUnits) (l.to_ / nsUnits) l.tq l.lost t)
    (s.putStream n { s.stream n with losses := [] }))

/-! ## Records (R353 to R364) -/

/-- What a frame record says of a replica (R360, R363). -/
structure FrameRec where
  ingress : T80
  tq : Nat
  cls : Nat
  /-- 0xF when no queue was assigned. -/
  queue : Nat := 0xF
  inPort : Nat
  /-- 0xFFFF when none was assigned. -/
  outPort : Nat := 0xFFFF
  length : Nat
  /-- The SESSION field: context and valid bit. -/
  session : Nat := 0
  seq : Nat := 0
  /-- Egress stamp and TQ, if one exists. -/
  egress : Option (T80 × Nat) := none
  flags : Nat := 0
  reason : Nat := 0
  generation : Nat := 0
  htLast : Nat := 0
  mcCode : Nat := 0
  /-- CTRL.CAPTURE (R191). -/
  capture : Bool := false
  bytes : List Byte := []
  deriving DecidableEq, Repr

/-- R360: the compact record, with a TYPE. -/
def FrameRec.compact (f : FrameRec) (type : Nat) : List Byte :=
  leBytes 8 (f.ingress / nsUnits) ++ leBytes 2 (f.ingress % nsUnits) ++ leBytes 1 (f.tq % 16 + 16 * type) ++
    leBytes 1 (f.cls % 8 + 8 * (f.queue % 16)) ++ leBytes 2 f.inPort ++ leBytes 2 f.outPort ++
    leBytes 2 (sat 16 f.length) ++ leBytes 2 f.session ++ leBytes 4 f.seq ++
    leBytes 4 (match f.egress with | some e => sat 32 (t80Sub e.1 f.ingress / 256) | none => 0) ++
    leBytes 2 f.flags ++ leBytes 1 f.reason ++ leBytes 1 (match f.egress with | some e => e.2 % 16 | none => 0xF)

/-- R363: the full record. -/
def FrameRec.full (f : FrameRec) : List Byte :=
  f.compact 1 ++ leBytes 8 f.seq ++ leBytes 4 f.generation ++ leBytes 1 f.htLast ++ leBytes 1 f.mcCode ++ leBytes 2 0 ++
    slice f.bytes 0 80

/-- R358: the selection that governs a replica whose fate became known at an instant. -/
def State.selAtFate (s : State) (fate : T80) : List Nat := if fate < s.ldg.selFrom then s.ldg.selWas else s.ldg.sel
/-- A port's bit in a selection: registers 1 to 16 hold CAP_PORT, 17 to 32 FULL_PORT (R358). -/
def selPort (sel : List Nat) (first port : Nat) : Bool := (sel.getD (first + port / 64) 0).testBit (port % 64)

/-- R354: the replica is selected by the selection registers. -/
def FrameRec.selected (f : FrameRec) (sel : List Nat) : Bool :=
  selPort sel 1 f.inPort || (f.outPort < 1024 && selPort sel 1 f.outPort) || (sel.getD 0 0).testBit f.cls

/-- R354: it is recorded in full form. -/
def FrameRec.inFull (f : FrameRec) (sel : List Nat) : Bool :=
  selPort sel 17 f.inPort || (f.outPort < 1024 && selPort sel 17 f.outPort) || (sel.getD 0 0).testBit (8 + f.cls)

/-- A record formed for a stream, behind those of earlier fates; it enters by LEDGER_RECORD_ENTRY (R357). -/
def formRecord (stream : Nat) (fate : T80) (bytes : List Byte) (s : State) : State :=
  let later (x : Formed) : Bool := x.stream == stream && x.since == s.mono && decide (fate < x.body.fate)
  { s with ldg := { s.ldg with
    formed := s.ldg.formed.takeWhile (fun x => !later x) ++ ⟨stream, s.mono, ⟨fate, bytes⟩⟩ :: s.ldg.formed.dropWhile fun x => !later x } }

/-- R354, R355, R357: the record of a replica whose fate is known: a dropped one always, another when selected. -/
def formFrame (f : FrameRec) (fate : T80) (s : State) : State :=
  let governs := s.selAtFate fate
  let sel := f.selected governs
  if !(f.flags.testBit 3) && !sel && !f.capture then s
  else
    let g := if f.capture && !sel then { f with flags := putBit f.flags 11 true } else f
    formRecord (sliceOf f.inPort) fate (if f.inFull governs then g.full else g.compact 0) s

/-- R364: an event record. -/
def formEvent (stream event : Nat) (at_ : T80) (payload : List Byte) (s : State) : State :=
  formRecord stream at_ (leBytes 8 (at_ / nsUnits) ++ leBytes 2 (at_ % nsUnits) ++ leBytes 1 (s.codeAt at_ % 16 + 0x30) ++
    leBytes 1 event ++ slice payload 0 20) s

/-- R357, R366: the stream's oldest record formed in an earlier CORE cycle enters it, unless the stream takes none; the buffer may
be full, or an error in it may destroy the record. -/
def takeRecord (n : Nat) (b : Buffering) (s : State) : State :=
  match s.ldg.formed.find? (fun x => x.stream == n && decide (coreCycle x.since < coreCycle s.mono)) with
  | none => s
  | some x =>
    let s1 := { s with ldg := { s.ldg with formed := s.ldg.formed.erase x } }
    if !s.taking n then s1
    else match b with
      | .room => enterRecord n x.body (declareLosses n s1)
      | .corrected => enterRecord n x.body (declareLosses n (s1.raise 0x70 7))
      | .destroyed => loseRecord n 3 x.body (s1.raise 0x70 8)
      | .full ddr => loseRecord n 1 x.body (if ddr then s1.raise 0x340 3 else s1)

/-- The latest anchor instant, in ns (R370). -/
def State.anchorNs (s : State) : Nat := s.nowNs / 1048576 * 1048576
/-- R370, R379: an anchor instant comes with its own command in this cycle. -/
def State.anchorComes (s : State) : Bool :=
  s.dueAt 6 1048576 s.nowNs && s.pending.any fun c => match c with | .anchorInstant .. => true | _ => false
/-- R379: a record would be the open block's 256th. -/
def State.fills (s : State) (n : Nat) : Bool := (s.stream n).recs.length + (s.stream n).losses.length == 255

/-- R370, R379: a record enters: in the cycle of an anchor instant the block closes before it, unless the record is its 256th. -/
def recordEntry (n : Nat) (b : Buffering) (s : State) : State :=
  if s.ldg.early.contains n then { s with ldg := { s.ldg with early := s.ldg.early.erase n } }
  else if s.anchorComes && s.recording && !s.fills n && (s.stream n).closedFor != some s.anchorNs then
    let s1 := closeBlock n s.anchorNs s
    takeRecord n b (s1.putStream n { s1.stream n with closedFor := some s.anchorNs })
  else takeRecord n b s

/-- R379: at an anchor instant, a record of the same cycle that fills the block enters it first. -/
def enterFirst (n : Nat) (s : State) : State :=
  let b := s.pending.findSome? fun c => match c with
    | .ledgerRecordEntry k b => if k.val = n then some b else none
    | _ => none
  match b with
  | none => s
  | some b => s.given (s.fills n) fun s => { takeRecord n b s with ldg := { (takeRecord n b s).ldg with early := n :: s.ldg.early } }

/-- R370: at an anchor instant a stream closes its block, unless that has been done in this cycle. -/
def closeAt (a n : Nat) (s : State) : State :=
  if (s.stream n).closedFor = some a then s.putStream n { s.stream n with closedFor := none }
  else closeBlock n a (enterFirst n s)

/-- LEDGER_RECORD_ENTRY (R357). -/
def execLedgerRecordEntry (stream : Fin 32) (buffer : Buffering) (s : State) : Out :=
  .next (recordEntry stream.val buffer s)

/-! ## Selection (R358) -/

/-- R358: a COMMIT takes the next anchor instant at least 2,048 ns away; while one is pending it moves nothing. -/
def commitSelection (s : State) : State :=
  if s.ldg.selAt.isSome then s
  else { s with ldg := { s.ldg with selAt := some s.mono } }.wr 0x71 F.ldg1_SEL_STATUS_PENDING 1

/-- SELECTION_COMMIT (R358); discarded in the safe state (R52). -/
def execSelectionCommit (s : State) : Out := .next (s.written 0x71 commitSelection)

/-- The staged selection as 33 registers. -/
def State.stagedSel (s : State) : List Nat :=
  (s.rd 0x71 F.ldg1_SEL_CAP_CLASS + 256 * s.rd 0x71 F.ldg1_SEL_FULL_CLASS) ::
    (List.range 16).map (s.rdi 0x71 F.ldg1_CAP_PORT) ++ (List.range 16).map (s.rdi 0x71 F.ldg1_FULL_PORT)

/-- R358: at an anchor instant far enough from its COMMIT the staged selection comes into force. -/
def applySelection (a : Nat) (s : State) : State :=
  match s.ldg.selAt with
  | none => s
  | some t =>
    s.given (decide (t + ns 2048 + (s.now - ns a) ≤ s.mono)) fun s =>
      ((({ s with ldg := { s.ldg with sel := s.stagedSel, selWas := s.ldg.sel, selFrom := ns a, selAt := none } }).wr 0x71 F.ldg1_SEL_STATUS_PENDING 0).wrPair
        0x71 F.ldg1_SEL_EFFECT_NS F.ldg1_SEL_EFFECT_FRAC (ns a)).vector 101

/-! ## Anchors (R370 to R374) -/

/-- R371: an anchor's content at an instant. -/
def State.draft (s : State) (kind : Nat) (at_ : T80) (info lost : Nat) : Draft :=
  { kind := kind, at_ := at_, begun := s.mono - (s.now - at_)
    servo := s.rd 0x50 F.hbd0_SERVO_STATUS_STATE
    tq := s.codeAt at_
    timeBase := leBytes 1 (s.rd 0x50 F.hbd0_SERVO_STATUS_REF_INDEX + 16 * s.rd 0x50 F.hbd0_SERVO_STATUS_REF_VALID +
        32 * s.rd 0x50 F.hbd0_SERVO_STATUS_HIST_LOADED + 64 * s.rd 0x50 F.hbd0_SERVO_STATUS_SLEWING) ++
      leBytes 4 (s.rd 0x50 F.hbd0_HOLDOVER_STATUS_UNCERT_NS) ++
      leBytes 8 (unsigned 64 (signed 48 (s.rd 0x50 F.hbd0_OFFSET))) ++
      leBytes 8 (unsigned 64 (signed 40 (s.rd 0x50 F.hbd0_FREQ))) ++
      leBytes 2 (s.rd 0x55 F.hbd5_GROUP_CFG_CHIP_ID + 2 ^ 15 * s.rd 0x55 F.hbd5_GROUP_CFG_ENABLE) ++
      leBytes 2 (s.rd 0x55 F.hbd5_GROUP_PRIMARY_PRIMARY) ++ leBytes 4 (s.rd 0x50 F.hbd0_STEP_COUNT)
    info := info, lost := lost
    selDigest := sha384 (s.ldg.sel.flatMap (leBytes 8))
    heads := (List.range 32).flatMap fun n =>
      slice (s.stream n).link 0 48 ++ leBytes 8 (s.rd (ldgs n) F.ldgs_BLOCK_SEQ) ++ leBytes 4 (s.stream n).gaps ++
        leBytes 4 ((if s.streamOn n then 1 else 0) + (if (s.stream n).losses.isEmpty then 0 else 2)) }

/-- R375: the run ends. -/
def endRun (s : State) : State :=
  refreshStreams ({ s with ldg := { s.ldg with startDue := false } }.wr 0x70 F.ldg0_LDG_STATUS_RUNNING 0)

/-- R372: anchor instants that are not issued: cause 2 latches, and the next anchor carries their number. -/
def missInstants (k : Nat) (s : State) : State :=
  if k = 0 then s
  else (({ s with ldg := { s.ldg with missed := s.ldg.missed + k } }).wr 0x70 F.ldg0_MISSED
    (sat 32 (s.rd 0x70 F.ldg0_MISSED + k))).raise 0x70 2
/-- Anchors of anchor instants among some. -/
def instants (ds : List Draft) : Nat := (ds.filter fun d => d.kind == 1 || d.kind == 3).length

/-- An anchor waits for its signature. -/
def beginAnchor (d : Draft) (s : State) : State :=
  refreshSigning { s with ldg := { s.ldg with signing := s.ldg.signing ++ [d] } }

/-- The journal's last anchor (R375): that of highest ANCHOR_SEQ among the slots whose CRC holds. -/
def State.lastAnchor (s : State) : Option (List Byte) :=
  s.ldg.journal.foldl (fun best p =>
    let a := p.2.take 2912
    if p.2.length = 2916 ∧ leVal (p.2.drop 2912) = crc32c a then
      match best with
      | some b => if leVal (slice a 0x18 8) > leVal (slice b 0x18 8) then some a else some b
      | none => some a
    else best) none

/-- The seeds an anchor carries: those of the oldest second that has ended by a PERIODIC one. -/
def State.seedsFor (s : State) (d : Draft) : Option (Nat × Nat × List Nat) :=
  match s.ldg.seeds with
  | x :: _ => if d.kind = 1 ∧ x.1 < secondOf d.at_ then some x else none
  | [] => none

/-- R371: the bytes of an anchor before its signature. -/
def State.anchorBody (s : State) (d : Draft) : List Byte :=
  let seeds := match s.seedsFor d with | some x => x | none => (0, 0, [])
  leBytes 4 0x4E414B54 ++ leBytes 2 1 ++ leBytes 1 d.kind ++ leBytes 1 0 ++ leBytes 8 (s.rd 0 F.idn_SERIAL) ++
    leBytes 4 (s.rd 0x70 F.ldg0_RUN) ++ leBytes 4 0 ++ leBytes 8 (s.rd 0x70 F.ldg0_ANCHOR_SEQ + 1) ++
    leBytes 8 (d.at_ / nsUnits) ++ leBytes 2 (d.at_ % nsUnits) ++ leBytes 1 (d.servo % 8 + 16 * (d.tq % 16)) ++ d.timeBase ++
    slice s.ldg.prev 0 48 ++ leBytes 8 seeds.1 ++ leBytes 8 seeds.2.1 ++ (List.range 64).flatMap (fun g => leBytes 8 (seeds.2.2.getD g 0)) ++
    leBytes 8 d.info ++ leBytes 4 (sat 32 s.ldg.missed) ++ leBytes 4 (sat 32 d.lost) ++
    leBytes 8 (s.rd 0x70 F.ldg0_KEY_ID_LO) ++ leBytes 8 (s.rd 0x70 F.ldg0_KEY_ID_HI) ++ d.selDigest ++ leBytes 40 0 ++ d.heads

/-- The signature over a body: 96 bytes, free values of the implementation; zero when unsigned (R372). -/
def State.signature (s : State) (body : List Byte) (signed_ : Bool) : List Byte :=
  if signed_ then (List.range 96).map (Config.signatureByte (sha384 body) s.free) else leBytes 96 0

/-- A stream's BLOCK_SEQ in an anchor (R371). -/
def Draft.blockSeq (d : Draft) (n : Nat) : Nat := leVal (slice d.heads (64 * n + 48) 8)

/-- R373, R374: an anchor issued: into its DDR5 slot when asked, into its journal slot unless that write fails, and into
the status registers. -/
def issueAnchor (d : Draft) (signed_ toDdr journalOk : Bool) (s : State) : State :=
  let n := s.rd 0x70 F.ldg0_ANCHOR_SEQ + 1
  let body := s.anchorBody d
  let bytes := body ++ s.signature body signed_
  let l := s.rd 0x70 F.ldg0_AR_LOG2
  let slots := 2 ^ (if 10 ≤ l ∧ l ≤ 24 then l else 10)
  let base := s.rd 0x70 F.ldg0_AR_BASE * 2 ^ 12
  let s1 := if !toDdr then s
    else if s.inRegion 3 base (3072 * slots) then s.ddrWrite (base + 3072 * (n % slots)) (bytes ++ leBytes 160 0)
    else s.raise 0x340 1
  let pair := n / 65536 % 64
  let s2 := if journalOk then
      let journal := s1.ldg.journal.put [] (2 * pair + n % 2) (bytes ++ leBytes 4 (crc32c bytes))
      ((({ s1 with ldg := { s1.ldg with journal := journal } }).wr 0x70 F.ldg0_JOURNAL_STATUS_PAIR pair).wr 0x70
        F.ldg0_JOURNAL_STATUS_SLOT (n % 2)).wr 0x70 F.ldg0_JOURNAL_STATUS_WRITES (s.rd 0x70 F.ldg0_JOURNAL_STATUS_WRITES + 1)
    else (s1.set1 0x70 F.ldg0_JOURNAL_STATUS_WRITE_ERR).raise 0x70 3
  let s3 := { s2 with
    free := s2.free + 1
    ldg := { s2.ldg with
      missed := 0
      prev := sha384 bytes
      streams := s2.ldg.streams.map fun p => (p.1, { p.2 with anchored := d.blockSeq p.1 })
      seeds := if (s.seedsFor d).isSome then s2.ldg.seeds.drop 1 else s2.ldg.seeds } }
  let s4 := queueExport (if s.on 0x70 F.ldg0_LDG_CFG_EXPORT_ENABLE then
      (List.range 16).filter fun e => s.rdi 0x72 F.ldg2_EXP_PORT_VALID e == 1 else []) ⟨255, n⟩ s3
  (((s4.wr 0x70 F.ldg0_ANCHOR_SEQ n).wrPair 0x70 F.ldg0_LAST_ANCHOR_NS F.ldg0_LAST_ANCHOR_FRAC d.at_).wr 0x70
    F.ldg0_LAST_ANCHOR_TQ d.tq).wr 0x70 F.ldg0_SIGN_LATENCY (sat 32 (s.nowNs - d.at_ / nsUnits)) |>.count 0x0A02 0

/-- R378: hash cores that fail their test are retired; the newest unwritten blocks of streams whose records are gone
leave the chain unwritten, under a HASH_FAULT GAP record. -/
def retireCores (failed : Nat) (gone : List Nat) (s : State) : State :=
  if failed = 0 then s else
  let s1 := (s.drop 0x70 F.ldg0_LDG_STATUS_HASH_CORES failed).raise 0x70 4
  gone.foldl (fun t n =>
    let x := t.stream n
    match x.unwritten.getLast? with
    | none => t
    | some b =>
      let r0 := b.recs.headD ⟨t.now, []⟩
      let t1 := (t.putStream n { x with
        unwritten := x.unwritten.dropLast, link := b.prev, held := x.held.filter fun h => h.seq != b.seq }).wr (ldgs n)
        F.ldgs_LOST (t.rd (ldgs n) F.ldgs_LOST + b.recs.length)
      let t2 := (List.range 6).foldl (fun u j => u.wri (ldgs n) F.ldgs_HEAD_LINK j (leVal (slice b.prev (8 * j) 8))) t1
      enterGap n 4 (r0.fate / nsUnits) ((b.recs.getLastD r0).fate / nsUnits) (t.codeAt r0.fate) b.recs.length t2) s1

/-- R370, R375, R378: an anchor instant A: every stream closes its block, the cores are tested, the anchor is
assembled, and the selection changes. -/
def anchorInstant (failed : Nat) (gone : List Nat) (s : State) : State :=
  s.periodic 6 1048576 fun s =>
    let a := s.anchorNs
    if s.isSafe then s
    else
      let s1 := if s.recording then (List.range 32).foldl (fun t n => closeAt a n t) s else s
      let s2 := retireCores failed gone s1
      let s3 := if !s.recording then s2
        else if s.ldg.signingLost then missInstants 1 s2
        else beginAnchor (s2.draft (if s.ldg.startDue then 3 else 1) (ns a) 0 0)
          { s2 with ldg := { s2.ldg with startDue := false } }
      applySelection a s3

/-- ANCHOR_INSTANT (R370): the cores that fail the test, and the streams whose newest block cannot be hashed again. -/
def execAnchorInstant (failed : Fin 129) (gone : List (Fin 32)) (s : State) : Out :=
  .next (anchorInstant failed.val (gone.map (·.val)) s)

/-- The GAP record that a run's enabled stream starts with, from the journal's last anchor (R375). -/
def restartGap (a : List Byte) (n : Nat) (s : State) : State :=
  if !s.streamOn n then s
  else
    let kind := leVal (slice a 6 1)
    putGap n (if kind = 2 then 6 else if kind = 5 then 8 else 7) (leVal (slice a 0x20 8)) s.nowNs
      (leVal (slice a 0x2A 1) / 16) (2 ^ 32 - 1) s

/-- R375: a run starts. An empty journal gives no restart GAP record (log entry 14). -/
def startRun (s : State) : State :=
  let s1 := (((s.wr 0x70 F.ldg0_RUN (s.rd 0x70 F.ldg0_RUN + 1)).wr 0x70 F.ldg0_LDG_STATUS_RUNNING 1).wr 0x70
    F.ldg0_LDG_STATUS_SEALED 0).wr 0x70 F.ldg0_MISSED 0
  let s2 := { s1 with ldg := { s1.ldg with
    startDue := true, missed := 0, startNs := s.nowNs, prev := match s.lastAnchor with | some a => sha384 a | none => [] } }
  let s3 := (List.range 32).foldl (fun t n =>
    let x := t.stream n
    let t1 := t.putStream n { held := x.held, unwritten := x.unwritten,
                              offAt := if t.streamOn n then none else some (x.offAt.getD (s.now, s.tq)) }
    (List.range 6).foldl (fun u j => u.wri (ldgs n) F.ldgs_HEAD_LINK j 0) t1) s2
  refreshStreams (match s3.lastAnchor with
    | none => s3
    | some a =>
      let s4 := (List.range 32).foldl (fun t n => restartGap a n t) s3
      if leVal (slice a 6 1) = 2 then s4.vector 97 else s4)

/-- R375: the STOP anchor ends the run; an ENABLE written meanwhile starts the next. No run starts while DDR5 is unavailable
(R547). -/
def afterStop (s : State) : State :=
  let s1 := endRun s
  if s1.on 0x70 F.ldg0_LDG_CFG_ENABLE && s1.on 0x340 F.ddr0_DDR_STATUS_AVAILABLE then startRun s1 else s1

/-- R384: both ECDSA engines have failed. -/
def loseEngines (s : State) : State × Bool :=
  ({ s with ldg := { s.ldg with engines := 0, signingLost := true } }.raise 0x70 6, false)

/-- R372: a periodic or START anchor is late 500,000 ns after its instant. -/
def State.tooLate (s : State) (d : Draft) : Bool := (d.kind == 1 || d.kind == 3) && decide (d.begun + ns 500000 < s.mono)

/-- R372, R384: what the end of a signing does to the engines and the key; true when the anchor is signed. -/
def signingEnds (r : Signing) (s : State) : State × Bool :=
  match r with
  | .signed => (s, !s.ldg.signingLost)
  | .engineFailed => if s.ldg.engines ≤ 1 then loseEngines (s.raise 0x70 5)
      else ({ s with ldg := { s.ldg with engines := s.ldg.engines - 1 } }.raise 0x70 5, !s.ldg.signingLost)
  | .enginesLost => loseEngines s
  | .keyUnusable => ({ s with ldg := { s.ldg with signingLost := true } }.raise 0x70 11, false)

/-- R372 to R374: the oldest anchor being signed is issued; where it cannot be signed it is not issued, and no
periodic anchor follows. The SEAL has commands of its own. -/
def anchorSigned (r : Signing) (journalOk : Bool) (s : State) : State :=
  match s.ldg.signing with
  | [] => s
  | d :: rest =>
    if d.kind = 2 then s else
    let (s1, ok) := signingEnds r s
    let s2 := refreshSigning { s1 with ldg := { s1.ldg with signing := if ok then rest else [] } }
    let ended (stop : Bool) (s : State) : State := if stop then afterStop s else s
    if !ok then ended (s.ldg.signing.any fun d => d.kind == 5) (missInstants (instants s.ldg.signing) s2)
    else if s.tooLate d then missInstants 1 s2
    else ended (d.kind == 5) ((issueAnchor d true true journalOk s2).vector 96)

/-- ANCHOR_SIGNED (R372). -/
def execAnchorSigned (result : Signing) (journalOk : Bool) (s : State) : Out :=
  .next (anchorSigned result journalOk s)

/-- R372: a periodic or START anchor not produced within 500,000 ns of its instant is not issued. -/
def anchorMissed (s : State) : State :=
  match s.ldg.signing with
  | [] => s
  | d :: rest =>
    s.given (s.tooLate d) fun s => missInstants 1 (refreshSigning { s with ldg := { s.ldg with signing := rest } })

/-- ANCHOR_MISSED (R372). -/
def execAnchorMissed (s : State) : Out := .next (anchorMissed s)

/-- R369: a stream's oldest chained block is written at CR_TAIL, which then advances past it. -/
def blockWrite (n : Nat) (s : State) : State :=
  match (s.stream n).unwritten with
  | [] => s
  | b :: rest =>
    let size := s.ringSize n
    let tail := s.rd (ldgs n) F.ldgs_CR_TAIL
    let s1 := ((s.ringWrite (s.ringBase n) size tail b.bytes).putStream n { s.stream n with unwritten := rest }).wr (ldgs n)
      F.ldgs_CR_TAIL ((tail + b.bytes.length) % size)
    if s.on (ldgs n) F.ldgs_SCFG_BLOCK_IRQ then s1.vector (64 + n) else s1

/-- BLOCK_WRITE (R369). -/
def execBlockWrite (stream : Fin 32) (s : State) : Out := .next (blockWrite stream.val s)

/-! ## Runs (R375 to R377) -/

/-- Every stream closes its block at an instant. -/
def closeAll (closeNs : Nat) (s : State) : State := (List.range 32).foldl (fun t n => closeBlock n closeNs t) s

/-- R375: ENABLE written from 0 to 1: a run starts, after the STOP anchor of a run that still ends. No run starts while DDR5 is
unavailable (R547); ENABLE is a client of DDR5 (R413). -/
def enableLedger (s : State) : State :=
  s.given (!s.on 0x70 F.ldg0_LDG_CFG_ENABLE) fun s =>
    let s1 := recomputeDdr (s.wr 0x70 F.ldg0_LDG_CFG_ENABLE 1)
    if s.on 0x340 F.ddr0_DDR_STATUS_AVAILABLE && !s.ledgerRuns then startRun s1 else s1
/-- LEDGER_ENABLE (R375); discarded in the safe state (R52). -/
def execLedgerEnable (s : State) : Out := .next (s.written 0x70 enableLedger)

/-- R375: ENABLE written 0: what was lost is declared, every open block closes, and a STOP anchor, with which the run ends, waits
for its signature; where none can be signed the run ends without. -/
def stopRun (s : State) : State :=
  let s1 := recomputeDdr (s.wr 0x70 F.ldg0_LDG_CFG_ENABLE 0)
  if !s.recording then s1
  else
    let s2 := closeAll s.nowNs ((List.range 32).foldl (fun t n => declareLosses n t) s1)
    if s.ldg.signingLost then endRun s2 else refreshStreams (beginAnchor (s2.draft 5 s.now 0 0) s2)

/-- LEDGER_DISABLE (R375); discarded in the safe state (R52). -/
def execLedgerDisable (s : State) : Out :=
  .next (s.written 0x70 fun s => s.given (s.on 0x70 F.ldg0_LDG_CFG_ENABLE) stopRun)

/-- R379: an anchor whose stream was disabled in the cycle of its instant. -/
def Draft.disabled (d : Draft) (n : Nat) : Draft :=
  let i := 64 * n + 60
  { d with heads := d.heads.take i ++ leBytes 4 (leVal (slice d.heads i 4) / 2 * 2) ++ d.heads.drop (i + 4) }

/-- R366: a stream's enable falls, or rises with a STREAM_DISABLED GAP record. -/
def streamEnable (n : Nat) (on_ : Bool) (s : State) : State :=
  if s.streamOn n = on_ then s
  else
    let s1 := s.wr (ldgs n) F.ldgs_SCFG_ENABLE (if on_ then 1 else 0)
    if on_ then
      let x := s1.stream n
      let s2 := s1.putStream n { x with offAt := none }
      refreshStream n (match s.recording, x.offAt with
        | true, some (t, tq) => enterGap n 5 (t / nsUnits) s.nowNs tq (2 ^ 32 - 1) (declareLosses n s2)
        | _, _ => s2)
    else
      let s2 := s1.putStream n { s1.stream n with offAt := some (s.now, s.codeAt s.now) }
      let covers (d : Draft) : Bool := d.at_ == ns s.anchorNs && coreCycle d.begun == coreCycle s.mono
      let signing := s2.ldg.signing.map fun d => if covers d then d.disabled n else d
      refreshStream n { s2 with ldg := { s2.ldg with signing := signing } }

/-- STREAM_ENABLE_CHANGE (R366); discarded in the safe state (R52). -/
def execStreamEnableChange (stream : Fin 32) (on_ : Bool) (s : State) : Out :=
  .next (s.written (ldgs stream.val) (streamEnable stream.val on_))

/-- R377: a step of TIME closes every open block and issues a STEP anchor with the step in whole ns; TIME already
stands at its new value. -/
def ledgerStep (delta : Int) (s : State) : State :=
  if !s.recording then s
  else
    let s1 := closeAll s.nowNs s
    if s.ldg.signingLost then s1
    else beginAnchor (s1.draft 4 s.now (unsigned 64 (delta.tdiv (nsUnits : Nat))) 0) s1

/-! ## The SEAL (R376, R466) -/

/-- R376, R379: a stream gives up its open block and the blocks being written, which no anchor names; the number of records lost.
BLOCK_SEQ does not go back (R368). -/
def sealStream (n : Nat) (s : State) : State × Nat :=
  let x := s.stream n
  let gone := x.unwritten.filter fun b => x.anchored < b.seq
  let link := match gone with | b :: _ => b.prev | [] => x.link
  let s1 := s.putStream n { x with
    recs := [], unwritten := x.unwritten.filter fun b => b.seq ≤ x.anchored, link := link
    held := x.held.filter fun h => !(gone.any fun b => b.seq == h.seq) }
  ((List.range 6).foldl (fun u j => u.wri (ldgs n) F.ldgs_HEAD_LINK j (leVal (slice link (8 * j) 8))) s1,
    x.recs.length + (gone.map fun b => b.recs.length).sum)

/-- What every stream's sealing leaves, and how many records it drops. -/
def sealStreams (s : State) : State × Nat :=
  (List.range 32).foldl (fun (p : State × Nat) n =>
    let x := sealStream n p.1
    (x.1, p.2 + x.2)) (s, 0)
/-- R376: records formed and not taken go, and the anchors being signed: their instants are missed. -/
def dropFormed (s : State) : State :=
  let k := instants s.ldg.signing
  { s with ldg := { s.ldg with formed := [], signing := [], missed := s.ldg.missed + k } }.wr 0x70 F.ldg0_MISSED
    (sat 32 (s.rd 0x70 F.ldg0_MISSED + k))

/-- R376: at the safe state's entry a run stops taking records, discards what is not yet hashed or written, abandons
the anchors being signed, and assembles its SEAL; `frames` is the number of frames lost at the entry (R465). -/
def ledgerSafe (e : SafeEntry) (frames : Nat) (s : State) : State :=
  if !s.ledgerRuns then refreshStreams s
  else
    let (s1, lost) := sealStreams s
    let s2 := dropFormed s1
    refreshStreams (beginAnchor (s2.draft 2 e.at_ (e.cls % 8 + 2 ^ 16 * e.line + 2 ^ 28 * e.cause)
      (lost + (s1.ldg.formed.filter fun x => s.streamOn x.stream).length + frames)) s2)

/-- The SEAL written: by Ledger, or by the sequencer. It counts as reported when it is in the journal. -/
def writeSeal (r : Signing) (toDdr journalOk bySequencer : Bool) (s : State) : State :=
  match s.ldg.signing.find? (·.kind == 2) with
  | none => s
  | some d =>
    let (s1, ok) := signingEnds r s
    let s2 := issueAnchor d ok toDdr journalOk s1
    if journalOk then
      (refreshSigning ({ s2 with
        ldg := { s2.ldg with signing := [] }
        gnt := { s2.gnt with sealRec := some (s.rd 0x70 F.ldg0_ANCHOR_SEQ + 1, ok, bySequencer) } }.wr 0x70
        F.ldg0_LDG_STATUS_SEALED 1)).vector 97
    else
      -- the next try takes the same number and digest: the journal does not hold this one
      { s2 with ldg := { s2.ldg with prev := s.ldg.prev } }.wr 0x70 F.ldg0_ANCHOR_SEQ (s.rd 0x70 F.ldg0_ANCHOR_SEQ)

/-- SEAL_WRITTEN (R376): Ledger signs its SEAL and writes it to DDR5 and the journal. -/
def execSealWritten (result : Signing) (journalOk : Bool) (s : State) : Out :=
  .next (s.given (s.isSafe && s.gnt.sealRec.isNone && !s.gnt.bySequencer) (writeSeal result true journalOk false))

/-- R466: 40,000,000 ns after the entry with no SEAL reported, the sequencer writes it; it may reach DDR5 in time. -/
def sequencerSeal (signed_ toDdr journalOk : Bool) (s : State) : State :=
  match s.gnt.safe with
  | none => s
  | some e =>
    s.given (s.ledgerRuns && s.gnt.sealRec.isNone && !s.gnt.bySequencer && decide (e.since + ns 40000000 ≤ s.mono)) fun s =>
      let s1 := { s with gnt := { s.gnt with bySequencer := true } }
      match s1.ldg.signing.find? (·.kind == 2) with
      | none => s1
      | some d =>
        let ok := signed_ && !s.ldg.signingLost
        let s2 := issueAnchor d ok toDdr journalOk s1
        if journalOk then
          { s2 with
            ldg := { s2.ldg with signing := [] }
            gnt := { s2.gnt with sealRec := some (s.rd 0x70 F.ldg0_ANCHOR_SEQ + 1, ok, true) } }.wr 0x70
            F.ldg0_LDG_STATUS_SEALED 1
        else s2

/-- SEQUENCER_SEAL (R466): whether an engine signed within 5,000,000 ns, and which writes succeeded. -/
def execSequencerSeal (signed_ toDdr journalOk : Bool) (s : State) : Out :=
  .next (sequencerSeal signed_ toDdr journalOk s)

/-! ## Export (R380, R381) -/

/-- The port is a capture-export port in force (R380). -/
def State.isExport (s : State) (port : Nat) : Bool :=
  s.on 0x70 F.ldg0_LDG_CFG_EXPORT_ENABLE &&
    (List.range 16).any fun e => s.rdi 0x72 F.ldg2_EXP_PORT_VALID e == 1 && s.rdi 0x72 F.ldg2_EXP_PORT_PORT e == port

/-- R381: the frames of an item of bytes. -/
def exportFrame (e part parts chunk : Nat) (x : ExpItem) (data : List Byte) (s : State) : State :=
  let bytes := (data.drop (part * chunk)).take chunk
  let n := s.ldg.expSeq.val 0 e
  let frame := leBytes 6 (s.rd 0x72 F.ldg2_EXP_DA) ++ leBytes 6 (s.rd 0x72 F.ldg2_EXP_SA) ++
    beBytes 2 (s.rd 0x72 F.ldg2_EXP_CFG_ETHERTYPE) ++ leBytes 8 n ++ leBytes 1 (if x.stream = 255 then 2 else 1) ++
    leBytes 1 x.stream ++ leBytes 2 part ++ leBytes 2 parts ++ leBytes 2 bytes.length ++ leBytes 8 x.seq ++
    leBytes 4 (s.rd 0x70 F.ldg0_RUN) ++ leBytes 4 0 ++ bytes
  { s with ldg := { s.ldg with expSeq := s.ldg.expSeq.put 0 e (n + 1) } }.send
    (.frame (s.rdi 0x72 F.ldg2_EXP_PORT_PORT e) (frame ++ fcsOf frame) false)

def exportItem (e : Nat) (x : ExpItem) (data : List Byte) (s : State) : State :=
  let chunk := s.rd 0x72 F.ldg2_EXP_CFG_CHUNK
  if chunk = 0 then s
  else
    let parts := (data.length + chunk - 1) / chunk
    (List.range parts).foldl (fun t k => exportFrame e k parts chunk x data t) s

/-- R380: the oldest item of an export entry is sent: an anchor, a block its ring still holds, or a skip of a block
overwritten or poisoned (R526). A block not yet written to its ring waits, and with it everything behind it. -/
def exportSend (e : Nat) (s : State) : State :=
  let port := s.rdi 0x72 F.ldg2_EXP_PORT_PORT e
  s.given (s.on 0x70 F.ldg0_LDG_CFG_EXPORT_ENABLE && s.rdi 0x72 F.ldg2_EXP_PORT_VALID e == 1 && s.up port) fun s =>
    match s.ldg.exports.val [] e with
    | [] => s
    | x :: rest =>
      let s1 := { s with ldg := { s.ldg with exports := s.ldg.exports.put [] e rest } }
      let skip := (s1.bumpi 0x72 F.ldg2_EXP_STATUS_SKIPPED e).raise 0x70 9
      if x.stream = 255 then
        let l := s.rd 0x70 F.ldg0_AR_LOG2
        let slots := 2 ^ (if 10 ≤ l ∧ l ≤ 24 then l else 10)
        let a := s.rd 0x70 F.ldg0_AR_BASE * 2 ^ 12 + 3072 * (x.seq % slots)
        if s.poisoned a 2912 then skip else exportItem e x (s.ddrRead a 2912) s1
      else if (s.stream x.stream).unwritten.any fun b => b.seq == x.seq then s
      else match (s.stream x.stream).held.find? fun h => h.seq == x.seq with
        | some h =>
          let base := s.ringBase x.stream
          let size := s.ringSize x.stream
          if s.poisoned (base + h.off) (min h.len (size - h.off)) || (decide (size < h.off + h.len) && s.poisoned base (h.off + h.len - size))
          then skip else exportItem e x (s.ringRead base size h.off h.len) s1
        | none => skip

/-- EXPORT_SEND (R380). -/
def execExportSend (entry : Fin 16) (s : State) : Out := .next (s.running (exportSend entry.val))

end Sys2Proof.Machine
end

