-- ==== Sys2Proof/Machine/TimeBase.lean ====
section
/-! DEFINITION. Hatband's time base (spec/03_time_base.md): TIME and its rate word, references and their selection, the
servo's states, holdover, frequency history, PTP and the timing outputs. -/

namespace Sys2Proof.Machine

/-! ## TIME (R59, R60) -/

/-- The nearest whole number of a quotient, half-way values to the even one. -/
def roundEven (n : Int) (d : Nat) : Int :=
  let q := n / d
  let r := n % d
  if 2 * r < d then q else if 2 * r > d then q + 1 else if q % 2 = 0 then q else q + 1

/-- SLEW in ppb: LOCK_CFG.SLEW_PPB, at most 1,000, with the sign of the offset left (R78). Written as 0, outside its range, it
gives SLEW 0 while SLEWING reads 1 (DESIGN CHOICE, log entry 159). -/
def State.slewPpb (s : State) : Int :=
  let m : Int := min 1000 (s.rd 0x50 F.hbd0_LOCK_CFG_SLEW_PPB)
  if s.hat.slewLeft > 0 then m else if s.hat.slewLeft < 0 then -m else 0

/-- R59: 1 ns x (1 + FREQ + SLEW) in units of 2^-48 ns, rounded half to even. -/
def State.rateWord (s : State) : Nat :=
  let d : Nat := 65536 * 1000000000
  (roundEven (2 ^ 48 * ((d : Int) + signed 40 (s.rd 0x50 F.hbd0_FREQ) + 65536 * s.slewPpb)) d).toNat

/-- The part of one TIME cycle that SLEW adds, in units of 2^-48 ns. -/
def State.slewStep (s : State) : Int := roundEven (2 ^ 48 * s.slewPpb) 1000000000

/-- R72: what a sentence reports of a second's boundary: the second, and the state, TQ and uncertainty that hold. -/
def State.boundaryNow (s : State) (second : Nat) : Nat × Nat × Nat × Nat :=
  (second, s.rd 0x50 F.hbd0_SERVO_STATUS_STATE, s.tq, s.rd 0x50 F.hbd0_HOLDOVER_STATUS_UNCERT_NS)

/-- One TIME cycle: TIME advances by the rate word, unless it has stopped (R86), and the offset left shrinks by what
SLEW added (R78). -/
def idleTick (s : State) : State :=
  if s.hat.timeStopped then s else
  let left := s.hat.slewLeft
  let step := s.slewStep
  let t := (s.time + s.rateWord) % 2 ^ 112
  let second := secondOf (t / 2 ^ 32)
  { s with
    time := t
    hat := { s.hat with
      slewLeft := if left > 0 then max 0 (left - step) else min 0 (left - step)
      boundary := if second = secondOf s.now then s.hat.boundary else s.boundaryNow second } }

/-- R59: TIME at a fraction of the way through the current cycle, in 1/65,536 of it. -/
def State.timeAt (s : State) (phase : Nat) : T80 := (s.time + s.rateWord * phase / 65536) / 2 ^ 32

/-- R103: CLK_OUT's next edge, from where its level stands: low, the next rise of the grid of START after TIME; high, the fall
that its rise has set, which a step of TIME moves with TIME. -/
def regrid (delta : Int) (s : State) : State :=
  let start := s.rdPair 0x52 F.hbd2_CLK_OUT_START_NS F.hbd2_CLK_OUT_START_FRAC
  let per := 2 * s.rd 0x52 F.hbd2_CLK_OUT_CFG_HALF_PERIOD
  let next : Option T80 := match s.hat.clkNext with
    | none => none
    | some t => some (if s.hat.clk then ((t : Int) + delta).toNat
        else if s.now < start then start else start + ((s.now - start) / per + 1) * per)
  { s with hat := { s.hat with clkNext := next } }

/-- R79: TIME is stepped, to a value in 2^-48 ns: STEP_COUNT, STEPPED and the ledger's STEP anchor (R377). What the instants of
TIME changes already in effect say of TQ moves with TIME (R118), and so does CLK_OUT's grid (R103). -/
def stepTime (to_ : Nat) (s : State) : State :=
  let t := to_ % 2 ^ 112
  let delta : Int := ((t / 2 ^ 32 : Nat) : Int) - (s.now : Int)
  let move (l : List (T80 × Nat)) : List (T80 × Nat) := l.map fun p => (((p.1 : Int) + delta).toNat, p.2)
  let s1 := { s with
    time := t
    ticks := ⟨t / 2 ^ 48, []⟩
    hat := { s.hat with
      stepped := s.hat.stepped + delta
      boundary := s.boundaryNow (secondOf (t / 2 ^ 32))
      tqChanges := move s.hat.tqChanges
      tqPast := move s.hat.tqPast } }
  ledgerStep delta (((regrid delta s1).wr 0x50 F.hbd0_STEP_COUNT (s.rd 0x50 F.hbd0_STEP_COUNT + 1)).set1 0x50
    F.hbd0_SERVO_STATUS_STEPPED)

/-- R75, R79: TIME is stepped by a measured offset, which leaves what lies below 1/65,536 ns as it stands. -/
def stepBy (offset : Int) (s : State) : State := stepTime ((s.time : Int) + offset * 2 ^ 32).toNat s

/-! ## State and time quality (R73, R81, R97, R118) -/

def State.servo (s : State) : Nat := s.rd 0x50 F.hbd0_SERVO_STATUS_STATE
def State.mode (s : State) : Nat := s.rd 0x50 F.hbd0_SERVO_CTRL_MODE
def State.refValid (s : State) : Bool := s.on 0x50 F.hbd0_SERVO_STATUS_REF_VALID
def State.refIndex (s : State) : Nat := s.rd 0x50 F.hbd0_SERVO_STATUS_REF_INDEX
/-- R95: a member of a group that is not its acting primary. -/
def State.follower (s : State) : Bool :=
  s.on 0x55 F.hbd5_GROUP_CFG_ENABLE && s.rd 0x55 F.hbd5_GROUP_CFG_CHIP_ID != s.rd 0x55 F.hbd5_GROUP_PRIMARY_PRIMARY

/-- The order of R97, from better to worse. -/
def tqRank (c : Nat) : Nat := match c with | 0 => 0 | 1 => 1 | 2 => 2 | 6 => 3 | 3 => 4 | _ => 5
def worseTq (a b : Nat) : Nat := if tqRank a ≥ tqRank b then a else b

/-- The code of Hatband's own state (R73). -/
def State.ownTq (s : State) : Nat :=
  match s.servo with
  | 0 => 4
  | 3 => 0
  | 4 => if s.on 0x50 F.hbd0_HOLDOVER_STATUS_OUT_OF_BOUND then 2 else 1
  | _ => if s.on 0x53 F.hbd3_HIST_STATUS_LOADED then 6 else 3

/-- The time-base code: a follower takes the worse of its own and the upstream's (R97). -/
def State.timeTq (s : State) : Nat :=
  if s.follower && s.refValid then
    if s.servo == 3 && (s.hat.upTq == 1 || s.hat.upTq == 2) then
      (if s.hat.upUnc + 2 ≤ s.rd 0x50 F.hbd0_HOLDOVER_CFG_BOUND_NS then 1 else 2)
    else worseTq s.ownTq s.hat.upTq
  else s.ownTq

/-- R73, R118: a change of the time-base code: vector 49, an effective instant at least 64 ns ahead, TQ_CHANGE; R81:
cause 2 and vector 51 from 0x1 to 0x2, vector 51 back. -/
def setTq (code : Nat) (s : State) : State :=
  if s.tq = code then s else
  let e := s.now + ns 64 + Config.tqDelay s.free
  let s1 := { s with free := s.free + 1, hat := { s.hat with tqChanges := s.hat.tqChanges ++ [(e, code)] } }
  let s2 := (((s1.wr 0x50 F.hbd0_SERVO_STATUS_TQ code).wrPair 0x58 F.hbd8_TQ_CHANGE_NS F.hbd8_TQ_CHANGE_FRAC e).wr 0x58
    F.hbd8_TQ_CHANGE_TQ code).vector 49
  if s.tq = 1 ∧ code = 2 then (s2.raise 0x50 2).vector 51
  else if s.tq = 2 ∧ code = 1 then s2.vector 51 else s2

def refreshTq (s : State) : State := setTq s.timeTq s

/-- R73: a change of state sends vector 48. -/
def setServo (st : Nat) (s : State) : State :=
  if s.servo = st then refreshTq s else refreshTq ((s.wr 0x50 F.hbd0_SERVO_STATUS_STATE st).vector 48)

/-! ## Holdover (R80, R81) -/

/-- The common denominator of the uncertainty's terms. -/
def uncDen : Nat := 172800000 * (65536 * 1000000000) ^ 2

/-- R80: u = U0 + sigma x tau + A x tau^2 / 2 + u_up, as a numerator over `uncDen`, in ns. -/
def State.uncNum (s : State) : Nat :=
  let d1 := 65536 * 1000000000
  match s.hat.good with
  | none => s.rd 0x50 F.hbd0_HOLDOVER_CFG_U0_FLOOR * (uncDen / 256)
  | some g =>
    let d := s.mono - g.at_
    let a := if s.on 0x53 F.hbd3_HIST_STATUS_SLOPE_VALID then (signed 32 (s.rd 0x53 F.hbd3_HIST_SLOPE)).natAbs else 0
    g.offset * (uncDen / 65536) + s.rd 0x50 F.hbd0_HOLDOVER_CFG_U0_FLOOR * (uncDen / 256) + g.sigma * d * (172800 * d1) +
      a * d * d + g.up * uncDen

/-- R80, R81: UNCERT_NS, OUT_OF_BOUND and TQ from the uncertainty now. -/
def recompute (s : State) : State :=
  let u := s.uncNum
  let sigma := match s.hat.good with | some g => g.sigma | none => 0
  refreshTq (((s.wr 0x50 F.hbd0_HOLDOVER_STATUS_UNCERT_NS (sat 32 ((u + uncDen - 1) / uncDen))).wr 0x50
    F.hbd0_HOLDOVER_STATUS_FREQ_UNC (sat 16 sigma)).wr 0x50 F.hbd0_HOLDOVER_STATUS_OUT_OF_BOUND
    (if u > s.rd 0x50 F.hbd0_HOLDOVER_CFG_BOUND_NS * uncDen then 1 else 0))

/-! ## History (R83 to R85) -/

/-- R83: the CRC-32C of a record's fields in the order of the rule (the layout is the model's: DESIGN CHOICE, log entry 160). -/
def HistRec.crcOf (r : HistRec) : Nat :=
  crc32c (leBytes 5 r.freq ++ leBytes 4 r.slope ++ leBytes 1 r.slopeValid.toNat ++ leBytes 10 r.at_ ++ leBytes 4 r.seq)
/-- R84: the record passes its CRC. -/
def HistRec.passes (r : HistRec) : Bool := r.crc == r.crcOf

/-- R83: a record into the slot after the last one's. -/
def writeHistory (slope : Nat) (valid : Bool) (s : State) : State :=
  s.given (s.on 0x53 F.hbd3_HIST_CTRL_ENABLE) fun s =>
    let n := s.hat.histSeq + 1
    let r0 : HistRec := ⟨s.rd 0x50 F.hbd0_FREQ, slope, valid, s.now, n, 0⟩
    let r := { r0 with crc := r0.crcOf }
    let h := { s.hat with histSeq := n, histAt := s.mono }
    let s1 := { s with hat := if n % 2 = 0 then { h with hist0 := some r } else { h with hist1 := some r } }
    ((((s1.wr 0x53 (if n % 2 = 0 then F.hbd3_HIST_STATUS_SLOT0_VALID else F.hbd3_HIST_STATUS_SLOT1_VALID) 1).wr 0x53
      F.hbd3_HIST_STATUS_WRITES n).wr 0x53 F.hbd3_HIST_SLOPE slope).wr 0x53
      F.hbd3_HIST_STATUS_SLOPE_VALID (if valid then 1 else 0)).vector 56

/-- R76, R82: the agreement within 10 ns is broken. -/
def breakAgreement (s : State) : State :=
  ({ s with hat := { s.hat with agreeing := none } }).wr 0x50 F.hbd0_SERVO_STATUS_RELOCK_COUNT 0

/-- R83: TRACEABLE is left: a last record, HOLDOVER with its uncertainty, cause 1 (R73, R80). -/
def enterHoldover (s : State) : State :=
  s.given (s.servo == 3) fun s =>
    let s1 := writeHistory (s.rd 0x53 F.hbd3_HIST_SLOPE) (s.on 0x53 F.hbd3_HIST_STATUS_SLOPE_VALID) s
    (recompute (breakAgreement ((s1.wr 0x50 F.hbd0_SERVO_STATUS_STATE 4).vector 48))).raise 0x50 1

/-- R309: the transmit lock of an enabled release group's members is lost while FREQ is beyond 100 ppm: cause 3. -/
def refreshGrid (g : Nat) (s : State) : State :=
  let pg := 0x140 + g
  let off := decide ((signed 40 (s.rd 0x50 F.hbd0_FREQ)).natAbs > 100000 * 65536)
  if off && !s.on pg F.rel_REL_STATUS_GRID_UNLOCKED then (s.wr pg F.rel_REL_STATUS_GRID_UNLOCKED 1).raise pg 3
  else s.wr pg F.rel_REL_STATUS_GRID_UNLOCKED off.toNat

/-- FREQ held within 200 ppm of 0 (R59); the release groups' transmit locks follow it (R309). -/
def setFreq (f : Int) (s : State) : State :=
  let lim : Int := 200000 * 65536
  ((List.range 256).filter fun g => s.on (0x140 + g) F.rel_REL_STATUS_ENABLED).foldl (fun t g => refreshGrid g t)
    (s.wr 0x50 F.hbd0_FREQ (unsigned 40 (max (-lim) (min lim f))))

/-- R85: when the time of day is first set, the loaded record's age decides whether it is kept. -/
def ageCheck (s : State) : State :=
  if !s.on 0x53 F.hbd3_HIST_STATUS_LOADED then s else
  let rec_ := s.rdPair 0x53 F.hbd3_HIST_TIME_NS F.hbd3_HIST_TIME_FRAC
  let day := ns 86400000000000
  if s.now < rec_ ∨ s.now - rec_ > s.rd 0x53 F.hbd3_HIST_CTRL_MAX_AGE * day then
    (((s.wr 0x53 F.hbd3_HIST_STATUS_LOADED 0).wr 0x50 F.hbd0_SERVO_STATUS_HIST_LOADED 0).wr 0x53
      F.hbd3_HIST_STATUS_DISCARDED 1).vector 56
  else if s.on 0x53 F.hbd3_HIST_STATUS_SLOPE_VALID then
    setFreq (signed 40 (s.rd 0x50 F.hbd0_FREQ) +
      signed 32 (s.rd 0x53 F.hbd3_HIST_SLOPE) * 65536 * ((s.now - rec_ : Nat) : Int) / (1000 * day)) s
  else s

/-! ## Slewing (R78) -/

/-- SLEW starts for an offset in 1/65,536 ns. -/
def startSlew (offset : Int) (s : State) : State :=
  ({ s with hat := { s.hat with slewLeft := offset * 2 ^ 32 } }).wr 0x50 F.hbd0_SERVO_STATUS_SLEWING
    (if offset = 0 then 0 else 1)

def stopSlew (s : State) : State :=
  ({ s with hat := { s.hat with slewLeft := 0 } }).wr 0x50 F.hbd0_SERVO_STATUS_SLEWING 0

/-! ## References (R62 to R67) -/

def State.qstate (s : State) (e : Nat) : Nat := s.rdi 0x51 F.hbd1_REF_STATUS_QSTATE e
def State.putQ (s : State) (e q : Nat) : State := s.wri 0x51 F.hbd1_REF_STATUS_QSTATE e q
def State.refRec (s : State) (e : Nat) : RefRec := s.hat.refs.val {} e
def State.putRef (s : State) (e : Nat) (r : RefRec) : State :=
  { s with hat := { s.hat with refs := s.hat.refs.put {} e r } }
def State.enabledRef (s : State) (e : Nat) : Bool := s.rdi 0x51 F.hbd1_REF_CFG_ENABLE e == 1
/-- R65: a field of an entry's configuration as it is in force: a write of the SELECTED entry's waits for its next
measurement. -/
def State.refCfg (s : State) (f : Fld) (e : Nat) : Nat :=
  match (s.refRec e).held with
  | some w => w / 2 ^ f.lo % 2 ^ f.w
  | none => s.rdi 0x51 f e
/-- A PTP entry. The reserved types 0x2 and 0x3, to which R62 gives no meaning, act as PPS_TOD (DESIGN CHOICE, log entry
161). -/
def State.isPtpRef (s : State) (e : Nat) : Bool := s.refCfg F.hbd1_REF_CFG_TYPE e == 1
def State.peer (s : State) (port e : Nat) : Peer := s.hat.peers.val {} (port * 16 + e)
def State.putPeer (s : State) (port e : Nat) (p : Peer) : State :=
  { s with hat := { s.hat with peers := s.hat.peers.put {} (port * 16 + e) p } }
/-- The entry is a time source for the port. -/
def Peer.source (p : Peer) : Bool := p.role == 1 || p.role == 3

/-- The best SOURCE peer of a port by clockClass, then stepsRemoved (REF_CFG.ANY_PEER). -/
def State.bestPeer (s : State) (port : Nat) : Option Nat :=
  (List.range 16).foldl (fun best e =>
    if (s.peer port e).source then
      match best with
      | some b => if (s.peer port e).clockClass * 65536 + (s.peer port e).stepsRemoved <
          (s.peer port b).clockClass * 65536 + (s.peer port b).stepsRemoved then some e else best
      | none => some e
    else best) none

/-- The peer entry a PTP reference entry follows. -/
def State.peerOfRef (s : State) (e : Nat) : Option Nat :=
  let port := s.refCfg F.hbd1_REF_CFG_PORT e
  if s.refCfg F.hbd1_REF_CFG_ANY_PEER e = 1 then s.bestPeer port
  else
    let i := s.refCfg F.hbd1_REF_CFG_PEER_INDEX e
    if (s.peer port i).source then some i else none

/-- The PTP entries that follow a peer entry of a port. -/
def State.refsOnPeer (s : State) (port e : Nat) : List Nat :=
  (List.range 16).filter fun r => s.enabledRef r && s.isPtpRef r && s.refCfg F.hbd1_REF_CFG_PORT r == port &&
    s.peerOfRef r == some e

/-- The peer entry named by the SELECTED reference. -/
def State.peerSelected (s : State) (port e : Nat) : Bool :=
  s.refValid && (s.refsOnPeer port e).contains s.refIndex

/-- R64: the entry's input gives it nothing to measure. -/
def State.silentRef (s : State) (e : Nat) : Bool :=
  if s.isPtpRef e then (s.peerOfRef e).isNone
  else s.rdi 0x52 F.hbd2_PPS_IN_STATUS_PRESENT (s.refCfg F.hbd1_REF_CFG_PPS_SEL e) == 0

/-- R86: the Band processor runs: it neither has stopped nor is in the safe state. -/
def State.bandRuns (s : State) : Bool := !s.hat.bandStopped && !s.isSafe

/-- R65: with none SELECTED, the QUALIFIED entry of lowest PRIORITY, the lowest index among equals; not while MODE is
FREE, which deselects (R74). -/
def selectRef (s : State) : State :=
  if s.refValid || s.mode == 2 then s else
  let best := (List.range 16).foldl (fun (b : Option Nat) e =>
    if s.qstate e = 3 then
      match b with
      | some x => if s.refCfg F.hbd1_REF_CFG_PRIORITY e < s.refCfg F.hbd1_REF_CFG_PRIORITY x then some e else b
      | none => some e
    else b) none
  match best with
  | none => s
  | some e =>
    let s1 := (((s.putQ e 4).wr 0x50 F.hbd0_SERVO_STATUS_REF_INDEX e).wr 0x50 F.hbd0_SERVO_STATUS_REF_VALID 1).vector 50
    let s2 := { s1 with hat := { s1.hat with fresh := true } }
    if s.servo = 1 ∧ s.mode = 0 then breakAgreement (setServo 2 s2) else s2

/-- R64: a failure of an entry is recorded with its cause and counted, and its qualification starts again. -/
def markFail (e cause : Nat) (s : State) : State :=
  (((s.putRef e { s.refRec e with qualStart := none, beyond := 0 }).wri 0x51 F.hbd1_REF_STATUS_LAST_FAULT e cause).bumpi 0x51
    F.hbd1_REF_STATUS_DISQUAL_COUNT e).raise 0x50 0

/-- R64: the input of an entry that is not SELECTED has fallen silent: a QUALIFIED one fails with the cause given, a qualifying
one turns ABSENT with no count. -/
def silenceIdle (e cause : Nat) (s : State) : State :=
  if s.qstate e = 3 then markFail e cause (s.putQ e 1)
  else if s.qstate e = 2 then (s.putQ e 1).putRef e { s.refRec e with qualStart := none, label := none }
  else s

/-- R90: a peer entry becomes FREE, with vector 53; the PTP entries that it leaves with nothing to measure lose it with
PEER_GONE (R64), but for the SELECTED one. -/
def dropPeer (port i : Nat) (s : State) : State :=
  let refs := s.refsOnPeer port i
  refs.foldl (fun t r => if (t.refValid && t.refIndex == r) || !t.silentRef r then t else silenceIdle r 9 t)
    ((s.putPeer port i {}).vector 53)

/-- R90: a LEARNED entry has heard nothing for PEER_AGE seconds. -/
def State.peerAged (s : State) (port i : Nat) : Bool :=
  let p := s.peer port i
  p.role != 0 && !p.isStatic && decide (s.mono ≥ p.seen + ns (s.rd 0x54 F.hbd4_PTP_CFG_PEER_AGE * 1000000000))

/-- R90: the peer that a reference named while it was SELECTED is freed, where it has aged. -/
def dropAged (e : Nat) (s : State) : State :=
  let port := s.refCfg F.hbd1_REF_CFG_PORT e
  match if s.isPtpRef e then s.peerOfRef e else none with
  | some i => if s.peerAged port i && !s.peerSelected port i then dropPeer port i s else s
  | none => s

/-- The SELECTED entry is deselected and left in a qualification state; its configuration as written is in force from then
on. -/
def deselect (e q : Nat) (s : State) : State :=
  if s.refValid && s.refIndex == e then
    let s1 := dropAged e (((s.putQ e q).wr 0x50 F.hbd0_SERVO_STATUS_REF_VALID 0).vector 50)
    s1.putRef e { s1.refRec e with held := none }
  else s.putQ e q

/-- A switch-over from an entry (R66). -/
def switched (from_ : Nat) (s : State) : State :=
  { s with hat := { s.hat with
    switchAt := some s.mono
    switchFrom := from_ } }

/-- R73: the SELECTED entry is lost: another is selected, or LOCKING falls to FREE_RUN, TRACEABLE to HOLDOVER. -/
def afterLoss (e : Nat) (s : State) : State :=
  let s2 := selectRef (breakAgreement s)
  if s2.refValid then switched e s2
  else if s2.servo = 2 then setServo 1 s2
  else if s2.servo = 3 then enterHoldover s2
  else refreshTq s2

/-- R64: a failure of an entry, with its cause; a SELECTED entry is deselected at once. -/
def failRef (e cause : Nat) (s : State) : State :=
  let was := s.refValid && s.refIndex == e
  let s1 := markFail e cause (deselect e 2 s)
  let s2 := if s1.silentRef e then s1.putQ e 1 else s1
  if was then afterLoss e s2 else s2

/-- R64: an entry's input falls silent: one that had qualified fails with the cause given, a qualifying one turns
ABSENT with no count. -/
def silenceRef (e cause : Nat) (s : State) : State :=
  if s.qstate e = 4 then failRef e cause s else silenceIdle e cause s

/-- R64, R95: what an entry's configuration and its input make of its state: NOT_ELIGIBLE on a follower, started anew once it is
eligible, ABSENT where its input gives it nothing to measure, and no longer so where it does. -/
def settleRef (e : Nat) (s : State) : State :=
  if !s.enabledRef e then s
  else if s.follower && !s.isPtpRef e then
    if s.qstate e = 5 then s
    else if s.qstate e = 4 then afterLoss e (deselect e 5 s)
    else s.putQ e 5
  else if s.qstate e = 5 then (s.putQ e (if s.silentRef e then 1 else 2)).putRef e {}
  else if s.silentRef e then silenceRef e (if s.isPtpRef e then 9 else 1) s
  else if s.qstate e = 1 then s.putQ e 2
  else s

/-- R65: a configuration that waited for the SELECTED entry's next measurement takes effect at it. -/
def takeCfg (e : Nat) (s : State) : State :=
  match (s.refRec e).held with
  | some _ => s.putRef e { s.refRec e with held := none }
  | none => s

/-- R64: a measurement that meets its conditions counts towards QUALIFIED; QUAL_TIME is counted in the reference's own
seconds, those of the instant that the measurement gives TIME (DEDUCED). -/
def qualify (e : Nat) (at_ : Int) (s : State) : State :=
  if s.qstate e = 1 ∨ s.qstate e = 2 then
    let r := s.refRec e
    match if s.qstate e = 1 then none else r.qualStart with
    | none => (s.putQ e 2).putRef e { r with qualStart := some at_.toNat }
    | some t =>
      if at_.toNat - t ≥ ns (s.refCfg F.hbd1_REF_CFG_QUAL_TIME e * 1000000000) then
        (s.putQ e 3).putRef e { r with qualifiedAt := s.mono }
      else s
  else s

/-- R76, R82: agreement within 10 ns goes on or starts again. -/
def agree (offset : Int) (s : State) : State :=
  if offset.natAbs ≤ ns 10 then
    let t := s.hat.agreeing.getD s.mono
    ({ s with hat := { s.hat with agreeing := some t } }).wr 0x50 F.hbd0_SERVO_STATUS_RELOCK_COUNT
      (sat 16 ((s.mono - t) / ns 1000000000))
  else breakAgreement s

/-- A measurement becomes the last good one (R80). Tau runs from the cycle in which it completes: for PPS_TOD that in which its
label has come, not its edge (DESIGN CHOICE, log entry 162). -/
def setGood (offset : Int) (sigma up : Nat) (s : State) : State :=
  { s with hat := { s.hat with good := some ⟨s.mono, offset.natAbs, max sigma (s.rd 0x50 F.hbd0_HOLDOVER_CFG_FREQ_UNC_FLOOR), up⟩ } }

/-- R75, R85: the time of day is set for the first time. -/
def firstSet (s : State) : State := ageCheck { s with hat := { s.hat with todSet := true } }

/-- A measurement has been used: the next one of the same selection is not its first. -/
def usedUp (s : State) : State := { s with hat := { s.hat with fresh := false } }

/-- R76, R78, R79: a measurement in LOCKING steps TIME, where it may, or steers it. -/
def steerLocking (offset freq : Int) (sigma up : Nat) (s : State) : State :=
  if !s.on 0x50 F.hbd0_SERVO_STATUS_EVER_TRACEABLE &&
      decide (offset.natAbs > ns (1000 * s.rd 0x50 F.hbd0_LOCK_CFG_STEP_THRESHOLD)) then
    breakAgreement (stepBy offset s)
  else setGood offset sigma up (agree offset (startSlew offset (setFreq freq s)))

/-- What a measurement of the SELECTED entry does by state (R67, R73, R75, R78, R79, R82); `freq` is the correction the
servo computes. While MODE is HOLD it steers nothing and leaves u as R80 has it: of the servo's registers it changes OFFSET
and RELOCK_COUNT only (DESIGN CHOICE, log entry 163). -/
def steer (e : Nat) (offset freq : Int) (sigma up : Nat) (s : State) : State :=
  let s0 := s.wr 0x50 F.hbd0_OFFSET (unsigned 48 (satSigned 48 offset))
  if s.mode ≠ 0 then agree offset s0 else
  match s.servo with
  | 0 => usedUp (setServo 2 (firstSet (stepBy offset s0)))
  | 1 => usedUp (steerLocking offset freq sigma up (breakAgreement (setServo 2 s0)))
  | 2 => usedUp (steerLocking offset freq sigma up s0)
  | 3 =>
    if s.hat.fresh && decide (offset.natAbs > ns 10) then
      usedUp (recompute (setGood offset sigma 0 (agree offset (startSlew offset (enterHoldover s0)))))
    else
      let r := s.refRec e
      let n := if offset.natAbs > ns (s.rd 0x50 F.hbd0_LOCK_CFG_OUT_LOCK) then r.beyond + 1 else 0
      if n ≥ 3 then failRef e 7 s0
      else usedUp (setGood offset sigma up (agree offset (startSlew offset (setFreq freq (s0.putRef e { r with beyond := n })))))
  | 4 =>
    let s1 := if s.hat.fresh then startSlew offset (breakAgreement s0) else setFreq freq s0
    usedUp (recompute (setGood offset sigma 0 (agree offset s1)))
  | _ => s0

/-- R66: a switch-over falls in the BAND cycle of now. -/
def State.switching (s : State) : Bool :=
  match s.hat.switchAt with | some t => bandCycle t == bandCycle s.mono | none => false

/-- R66: in the cycle of a switch-over only a measurement of the entry SELECTED before it steers, as it would have done; it says
nothing of the entry that is SELECTED now. -/
def steerOld (e : Nat) (offset freq : Int) (sigma up : Nat) (s : State) : State :=
  if e = s.hat.switchFrom ∧ s.qstate e ≠ 4 then
    let t := steer e offset freq sigma up (usedUp s)
    { t with hat := { t.hat with
      fresh := s.hat.fresh
      agreeing := s.hat.agreeing } }
  else s

/-- R64: the condition of lowest code among those that fail at a measurement: which one LAST_FAULT records where several do is
the model's choice (DESIGN CHOICE, log entry 164). -/
def firstFailing (conds : List (Nat × Bool)) : Option Nat :=
  (List.range 10).find? fun c => conds.any fun x => x.1 == c && x.2

/-- One measurement, at an instant, of an enabled entry: its conditions, qualification, selection, and, if the entry is
SELECTED, the servo: in the cycle of a switch-over, the entry SELECTED before it (R66). The Band processor makes it (R86). -/
def measure (e : Nat) (at_ : T80) (offset freq : Int) (sigma tq up : Nat) (failing : List (Nat × Bool)) (s : State) : State :=
  if !s.enabledRef e || s.qstate e == 5 || !s.bandRuns then s else
  match firstFailing ((4, decide (tq = 5 ∨ tq ≥ 7)) :: (5, decide (freq.natAbs > 200000 * 65536)) :: failing) with
  | some cause => failRef e cause (if s.qstate e ≤ 1 then s.putQ e 2 else s)
  | none =>
    let s1 := selectRef (qualify e (at_ + offset) s)
    if s1.switching then steerOld e offset freq sigma up s1
    else if s1.qstate e = 4 then
      refreshTq (steer e offset freq sigma up { s1 with hat := { s1.hat with
        upTq := tq
        upUnc := up } })
    else s1

/-- The servo's figures for an entry; FREQ as it stands and the floor where none are given. On a port with L1_SYNTONIZE 1 the
frequency is that of the recovered clock (R62, R88). -/
def fitFor (s : State) (fits : List ServoFit) (e : Nat) : Int × Nat :=
  let l1 := s.isPtpRef e && (s.hat.ptp.val {} (s.refCfg F.hbd1_REF_CFG_PORT e)).cfg.testBit F.hbd4_PORT_CFG_L1_SYNTONIZE.lo
  match fits.find? (·.entry.val == e) with
  | some f => (if l1 then f.recovered else f.freq, f.sigma)
  | none => (signed 40 (s.rd 0x50 F.hbd0_FREQ), 0)

/-! ## PPS and ToD inputs (R63, R68 to R71, R573) -/

/-- L of R573: the last edge. -/
def PpsIn.last (p : PpsIn) : Option PpsEdge := p.edges.head?
def State.ppsIn (s : State) (i : Nat) : PpsIn := s.hat.pps.val {} i
def State.putPps (s : State) (i : Nat) (p : PpsIn) : State := { s with hat := { s.hat with pps := s.hat.pps.put {} i p } }
/-- The PPS_TOD entries that name an input: the enabled ones. That a disabled one names none is the model's choice (DESIGN
CHOICE, log entry 165). -/
def State.refsOnPps (s : State) (i : Nat) : List Nat :=
  (List.range 16).filter fun e => s.enabledRef e && !s.isPtpRef e && s.refCfg F.hbd1_REF_CFG_PPS_SEL e == i

/-- A 10 MHz input's status from the cycles counted in the last PPS second; none: absent. -/
def showTen (i : Nat) (c : Option Nat) (s : State) : State :=
  match c with
  | none => s.wri 0x52 F.hbd2_TEN_MHZ_STATUS_PRESENT i 0
  | some n => (s.wri 0x52 F.hbd2_TEN_MHZ_STATUS_PRESENT i 1).wri 0x52 F.hbd2_TEN_MHZ_STATUS_ERROR i
      (unsigned 32 (satSigned 32 (((n : Int) - 10000000) * 100)))

/-- R573, R64: an edge at an input: PRESENT, the new L, and for the entries on it ABSENT ends, an edge that does not follow the
one before it as R64 asks fails PULSE_FAULT, and an edge after one that no sentence has labelled fails TOD_MISSING; whether
an edge that came before an entry was enabled needs a label of it the spec leaves open: it does not (DEDUCED, log entry
27). -/
def ppsEdge (i phase : Nat) (c0 c1 : Option Nat) (s : State) : State :=
  let t := ((s.timeAt phase : Int) - s.hat.stepped).toNat
  let p := s.ppsIn i
  let on := s.refsOnPps i
  let bad := match p.last with
    | some l => !decide (l.at_ + ns 999900000 ≤ t ∧ t ≤ l.at_ + ns 1000100000)
    | none => false
  let unlabelled (e : Nat) : Bool := match p.last with | some l => l.entries.testBit e && !l.labelled | none => false
  let s1 := (showTen 1 c1 (showTen 0 c0 (s.wri 0x52 F.hbd2_PPS_IN_STATUS_PRESENT i 1))).putPps i
    { edges := { at_ := t, entries := (on.map (2 ^ ·)).sum, bad := bad, cycles0 := c0, cycles1 := c1 } ::
        p.edges.filter fun l => decide (l.at_ ≤ t ∧ t ≤ l.at_ + ns 1000000000)
      missed := 0 }
  if !s.bandRuns then s1 else
  on.foldl (fun u e =>
    let v := if u.qstate e = 1 then u.putQ e 2 else u
    if v.qstate e < 2 ∨ v.qstate e = 5 then v
    else if bad then failRef e 1 v
    else if unlabelled e then failRef e 2 v
    else v) s1

/-- PPS_IN_EDGE (R573): the edge falls `phase`/65,536 of the way through the TIME cycle; the cycles counted at each 10 MHz
input since the edge before come with it. -/
def execPpsInEdge (input : Fin 2) (phase : BitVec 16) (cycles0 cycles1 : Option Nat) (s : State) : Out :=
  .next (ppsEdge input.val phase.toNat cycles0 cycles1 s)

/-- R573: an expected instant passes with no edge. -/
def ppsMissed (i : Nat) (s : State) : State :=
  let p := s.ppsIn i
  match p.last with
  | none => s
  | some l =>
    s.given (decide (s.mono ≥ l.at_ + ns ((p.missed + 1) * 1000000000 + 100000))) fun s =>
      let s1 := ((s.putPps i { p with missed := p.missed + 1 }).bumpi 0x52 F.hbd2_PPS_IN_STATUS_MISSED i).wri 0x52
        F.hbd2_PPS_IN_STATUS_PRESENT i 0
      if s.bandRuns then (s.refsOnPps i).foldl (fun u e => silenceRef e 1 u) s1 else s1

/-- PPS_EDGE_MISSED (R573). -/
def execPpsEdgeMissed (input : Fin 2) (s : State) : Out := .next (ppsMissed input.val s)

/-- The value of ASCII decimal digits; none if a byte is no digit. -/
def decOf (bs : List Byte) : Option Nat :=
  bs.foldl (fun n b => match n with
    | none => none
    | some v => if 48 ≤ b.toNat ∧ b.toNat ≤ 57 then some (v * 10 + (b.toNat - 48)) else none) (some 0)

/-- The value of uppercase hexadecimal digits. -/
def hexOf (bs : List Byte) : Option Nat :=
  bs.foldl (fun n b => match n with
    | none => none
    | some v => if 48 ≤ b.toNat ∧ b.toNat ≤ 57 then some (v * 16 + (b.toNat - 48))
      else if 65 ≤ b.toNat ∧ b.toNat ≤ 70 then some (v * 16 + (b.toNat - 55)) else none) (some 0)

/-- The fields of a sentence (R69). -/
structure Tod where
  seq : Nat
  tai : Nat
  utc : Int
  leap : Nat
  tq : Nat
  state : Nat
  unc : Nat
  deriving DecidableEq, Repr

/-- R69: the layout of a sentence; none where it differs. -/
def todParse (b : List Byte) : Option Tod :=
  let at_ (i : Nat) : Nat := (b.getD i 0).toNat
  let fixed := b.length == 49 && (b.take 6 == [36, 84, 75, 84, 79, 68]) && at_ 6 == 44 && at_ 11 == 44 && at_ 24 == 44 &&
    at_ 28 == 44 && at_ 30 == 44 && at_ 32 == 44 && at_ 34 == 44 && at_ 44 == 42 && at_ 47 == 13 && at_ 48 == 10 &&
    (at_ 25 == 43 || at_ 25 == 45) && (hexOf (slice b 45 2)).isSome
  let leap : Option Nat := match at_ 29 with | 78 => some 0 | 80 => some 1 | 77 => some 2 | _ => none
  let st : Option Nat := match at_ 33 with | 85 => some 0 | 70 => some 1 | 76 => some 2 | 84 => some 3 | 72 => some 4 | _ => none
  match fixed, hexOf (slice b 7 4), decOf (slice b 12 12), decOf (slice b 26 2), leap, hexOf (slice b 31 1), st, decOf (slice b 35 9) with
  | true, some q, some t, some u, some l, some c, some x, some n =>
    some ⟨q, t, if at_ 25 = 45 then -(u : Int) else u, l, c, x, n⟩
  | _, _, _, _, _, _, _, _ => none

/-- R70: the exclusive OR of the bytes after the dollar sign and before the asterisk. -/
def todChecksum (b : List Byte) : Nat := ((b.drop 1).take 43).foldl (fun n x => n ^^^ x.toNat) 0

/-- R71: the most recent edge whose window holds a sentence's dollar sign, an instant on the clock of `State.mono`. -/
def PpsIn.held (p : PpsIn) (dollar : T80) : Option PpsEdge :=
  p.edges.find? fun l => decide (l.at_ + ns 10000000 ≤ dollar ∧ dollar ≤ l.at_ + ns 900000000)

/-- R71: a sentence labels an edge of an input: each entry on it is measured, unless the edge has failed PULSE_FAULT. A second
sentence for an edge that has its label labels and measures nothing (DESIGN CHOICE, log entry 166). The reserved FREQ_SRC 0x3
acts as PPS only (DESIGN CHOICE, log entry 161). -/
def labelEdge (i : Nat) (dollar : T80) (t : Tod) (fits : List ServoFit) (s : State) : State :=
  let p := s.ppsIn i
  match p.held dollar with
  | none => s
  | some l =>
    if l.labelled then s else
    (s.refsOnPps i).foldl (fun v e =>
      let u := takeCfg e v
      let fit := fitFor u fits e
      let src := u.refCfg F.hbd1_REF_CFG_FREQ_SRC e
      let at_ := ((l.at_ : Int) + u.hat.stepped).toNat
      let cyc : Option Nat := if src = 1 then l.cycles0 else if src = 2 then l.cycles1 else some 10000000
      let ten := match cyc with | some n => decide (n < 9998000 ∨ n > 10002000) | none => true
      let wrong := match (u.refRec e).label with | some x => decide (t.tai ≠ x + 1) | none => false
      let u1 := u.putRef e { u.refRec e with label := some t.tai }
      if l.bad || !l.entries.testBit e then u1 else
      settleRef e (measure e at_ ((t.tai * 1000000000 * nsUnits : Nat) + signed 48 (u.rdi 0x51 F.hbd1_REF_COMP e) - (at_ : Int)) fit.1
        fit.2 t.tq t.unc [(3, wrong), (5, ten)] u1)) (s.putPps i { p with
          edges := p.edges.map fun x => if x.at_ = l.at_ then { x with labelled := true } else x })

/-- R71: a sentence on ToD_IN whose dollar sign arrived at an instant: accepted, or counted by its first error; a bad one
latches cause 3. -/
def todReceived (dollar : T80) (b : List Byte) (fits : List ServoFit) (s : State) : State :=
  match todParse b with
  | none => (s.bump 0x52 F.hbd2_TOD_IN_STATUS_SYNTAX_ERR).raise 0x50 3
  | some t =>
    if hexOf (slice b 45 2) ≠ some (todChecksum b) then (s.bump 0x52 F.hbd2_TOD_IN_STATUS_CHECKSUM_ERR).raise 0x50 3
    else
      let inWindow (i : Nat) : Bool := !(s.refsOnPps i).isEmpty && ((s.ppsIn i).held dollar).isSome
      let ins := [0, 1].filter inWindow
      if ins.isEmpty then (s.bump 0x52 F.hbd2_TOD_IN_STATUS_WINDOW_ERR).raise 0x50 3
      else
        let s1 := s.bump 0x52 F.hbd2_TOD_IN_STATUS_ACCEPTED
        let s2 := if s.refValid && !s.isPtpRef s.refIndex then
            ((s1.wr 0x50 F.hbd0_UTC_CFG_UTC_OFFSET (unsigned 8 t.utc)).wr 0x50 F.hbd0_UTC_CFG_LEAP t.leap).wr 0x50
              F.hbd0_UTC_CFG_FROM_REF 1
          else s1
        ins.foldl (fun u i => labelEdge i dollar t fits u) s2

/-- TOD_SENTENCE_RECEIVED (R71): `dollar` is the instant at which the sentence's dollar sign arrived. -/
def execTodSentenceReceived (dollar : Nat) (bytes : List Byte) (fits : List ServoFit) (s : State) : Out :=
  .next (todReceived ((dollar : Int) - s.hat.stepped).toNat bytes fits s)

/-! ## Selection commands -/

/-- R65: a better entry that has stayed QUALIFIED for REVERT_HOLDOFF seconds replaces the selected one. -/
def revert (e : Nat) (s : State) : State :=
  s.given (s.on 0x50 F.hbd0_SERVO_CTRL_REVERTIVE && s.refValid && s.qstate e == 3 &&
      s.mode != 2 && s.bandRuns &&
      decide (s.refCfg F.hbd1_REF_CFG_PRIORITY e < s.refCfg F.hbd1_REF_CFG_PRIORITY s.refIndex) &&
      decide (s.mono - (s.refRec e).qualifiedAt ≥ ns (s.rd 0x50 F.hbd0_SERVO_CTRL_REVERT_HOLDOFF * 1000000000))) fun s =>
    let old := s.refIndex
    let s0 := switched old ((s.putQ old 3).putRef old { s.refRec old with qualifiedAt := s.mono, held := none, beyond := 0 })
    let s1 := ((s0.putQ e 4).wr 0x50 F.hbd0_SERVO_STATUS_REF_INDEX e).vector 50
    let s2 := settleRef old (dropAged old { s1 with hat := { s1.hat with fresh := true } })
    if s.servo = 2 then breakAgreement s2 else s2

/-- REVERT_HOLDOFF (R65). -/
def execRevertHoldoff (entry : Fin 16) (s : State) : Out := .next (revert entry.val s)

/-- The word that REF_CFG holds of an entry. -/
def State.refWord (s : State) (e : Nat) : Nat :=
  [F.hbd1_REF_CFG_ENABLE, F.hbd1_REF_CFG_TYPE, F.hbd1_REF_CFG_PPS_SEL, F.hbd1_REF_CFG_FREQ_SRC, F.hbd1_REF_CFG_PRIORITY,
    F.hbd1_REF_CFG_PORT, F.hbd1_REF_CFG_PEER_INDEX, F.hbd1_REF_CFG_ANY_PEER, F.hbd1_REF_CFG_QUAL_TIME].foldl
    (fun n f => n + s.rdi 0x51 f e * 2 ^ f.lo) 0

/-- R65, R64: a write of REF_CFG; a set ENABLE starts the entry, a cleared one is a failure; the SELECTED entry goes on under
the configuration that it had until its next measurement. -/
def writeRefCfg (e data : Nat) (s : State) : State :=
  let was := s.enabledRef e
  let sel := s.refValid && s.refIndex == e
  let put (f : Fld) (t : State) : State := t.wri 0x51 f e (data / 2 ^ f.lo)
  let s1 := put F.hbd1_REF_CFG_ENABLE (put F.hbd1_REF_CFG_TYPE (put F.hbd1_REF_CFG_PPS_SEL (put F.hbd1_REF_CFG_FREQ_SRC
    (put F.hbd1_REF_CFG_PRIORITY (put F.hbd1_REF_CFG_PORT (put F.hbd1_REF_CFG_PEER_INDEX (put F.hbd1_REF_CFG_ANY_PEER
    (put F.hbd1_REF_CFG_QUAL_TIME s))))))))
  if !was && s1.enabledRef e then
    (s1.putQ e (if s1.follower && !s1.isPtpRef e then 5 else if s1.silentRef e then 1 else 2)).putRef e {}
  else if was && !s1.enabledRef e then
    let s2 := ((deselect e 0 s1).bumpi 0x51 F.hbd1_REF_STATUS_DISQUAL_COUNT e).raise 0x50 0
    if sel then afterLoss e s2 else s2
  else if was && sel then s1.putRef e { s1.refRec e with held := some ((s.refRec e).held.getD (s.refWord e)) }
  else if was then settleRef e s1
  else s1

/-- REF_CFG_WRITE (R65); discarded in the safe state (R52). -/
def execRefCfgWrite (entry : Fin 16) (data : Word) (s : State) : Out :=
  .next (s.written 0x51 (writeRefCfg entry.val data.toNat))

/-- R74: MODE takes effect; 0x3 is discarded. AUTO leaves Hatband as it is, and its next measurement is the first of a
re-acquisition. -/
def changeMode (m : Nat) (s : State) : State :=
  if m = 3 ∨ m = s.mode then s else
  let s1 := s.wr 0x50 F.hbd0_SERVO_CTRL_MODE m
  if m = 0 then breakAgreement { s1 with hat := { s1.hat with fresh := true } }
  else
    let s2 := stopSlew s1
    let e := s2.refIndex
    let s3 := if m = 2 && s2.refValid then
        let t := breakAgreement (deselect e 3 s2)
        settleRef e (t.putRef e { t.refRec e with qualifiedAt := t.mono, beyond := 0 })
      else s2
    if s3.servo = 3 then enterHoldover s3 else if s3.servo = 2 then setServo 1 s3 else refreshTq s3

/-- SERVO_MODE_CHANGE (R74); discarded in the safe state (R52). -/
def execServoModeChange (mode : Fin 4) (s : State) : Out := .next (s.written 0x50 (changeMode mode.val))

/-- R75: a host write of SET_TIME, committed by its NS write with the staged companion (R13). -/
def setTime (nsWord : Nat) (s : State) : State :=
  if s.on 0x50 F.hbd0_SERVO_STATUS_EVER_TRACEABLE then s.set1 0x50 F.hbd0_SERVO_STATUS_SET_REFUSED
  else
    let t := nsWord * nsUnits + s.host.staged.val 0 0x500C8 % nsUnits
    let s1 := stepTime (t * 2 ^ 32) s
    if !s.hat.todSet then
      let s2 := firstSet s1
      setServo (if s2.refValid && s2.mode == 0 then 2 else 1) s2
    else if s.servo = 2 then breakAgreement s1
    else s1

/-- SET_TIME (R75); discarded in the safe state (R52). -/
def execSetTime (ns : Word) (s : State) : Out := .next (s.written 0x50 (setTime ns.toNat))

/-- R76: 64 s of agreement in LOCKING end in TRACEABLE. -/
def lockVerified (s : State) : State :=
  match s.hat.agreeing with
  | none => s
  | some t =>
    s.given (s.servo == 2 && s.mode == 0 && s.refValid && s.bandRuns && decide (s.mono - t ≥ ns 64000000000)) fun s =>
      setServo 3 ({ s with hat := { s.hat with histAt := s.mono } }.wr 0x50 F.hbd0_SERVO_STATUS_EVER_TRACEABLE 1)

/-- LOCK_VERIFIED (R76). -/
def execLockVerified (s : State) : Out := .next (lockVerified s)

/-- R82: RELOCK_TIME seconds of agreement in HOLDOVER end in TRACEABLE. -/
def relocked (s : State) : State :=
  match s.hat.agreeing with
  | none => s
  | some t =>
    s.given (s.servo == 4 && s.mode == 0 && s.refValid && s.bandRuns &&
        decide (s.mono - t ≥ ns (s.rd 0x50 F.hbd0_LOCK_CFG_RELOCK_TIME * 1000000000))) fun s =>
      setServo 3 ((({ s with hat := { s.hat with histAt := s.mono } }.wr 0x50 F.hbd0_HOLDOVER_STATUS_UNCERT_NS 0).wr 0x50 F.hbd0_HOLDOVER_STATUS_OUT_OF_BOUND 0).wr 0x50
        F.hbd0_SERVO_STATUS_RELOCK_COUNT (sat 16 ((s.mono - t) / ns 1000000000)))

/-- RELOCK_COMPLETE (R82). -/
def execRelockComplete (s : State) : Out := .next (relocked s)

/-- SLEW_END (R78): the offset left is below the rate word's resolution. -/
def execSlewEnd (s : State) : Out := .next (s.given (decide (s.hat.slewLeft = 0)) stopSlew)

/-- HOLDOVER_RECOMPUTE (R80): at each TAI multiple of 1,048,576 ns in HOLDOVER. -/
def execHoldoverRecompute (s : State) : Out :=
  .next (s.periodic 1 1048576 fun s => s.given (s.servo == 4) recompute)

/-- R83: every PERIOD seconds in TRACEABLE; a slope is valid once its records span 24 h. -/
def historyDue (slope spanHours : Nat) (s : State) : State :=
  s.given (s.servo == 3 && !s.hat.bandStopped &&
      decide (s.mono ≥ s.hat.histAt + ns (s.rd 0x53 F.hbd3_HIST_CTRL_PERIOD * 1000000000)))
    (writeHistory slope (decide (spanHours ≥ 24)))

/-- HISTORY_WRITE (R83): the ageing slope fitted over the last records, and the hours they span. -/
def execHistoryWrite (slope : BitVec 32) (spanHours : Nat) (s : State) : Out :=
  .next (s.running (historyDue slope.toNat spanHours))

/-- R85: both slots are erased. -/
def clearHist (s : State) : State :=
  (({ s with hat := { s.hat with hist0 := none, hist1 := none } }).wr 0x53 F.hbd3_HIST_STATUS_SLOT0_VALID 0).wr 0x53
    F.hbd3_HIST_STATUS_SLOT1_VALID 0
/-- HIST_CLEAR (R85); discarded in the safe state (R52). -/
def execHistClear (s : State) : Out := .next (s.written 0x53 clearHist)

/-- BAND_LOCKSTEP (R86): TIME runs on its last rate word with SLEW at 0, and TRACEABLE turns HOLDOVER. -/
def execBandLockstep (s : State) : Out :=
  let t := breakAgreement (stopSlew (s.raise 0x50 8))
  .next (enterHoldover { t with hat := { t.hat with bandStopped := true } })

/-- TIME_PLL_UNLOCK (R86): TIME stops, and HBD cause 9 latches. -/
def execTimePllUnlock (s : State) : Out :=
  .next ({ s with hat := { s.hat with timeStopped := true } }.raise 0x50 9)

/-! ## Replicas (R61) -/

/-- R61: at each TAI multiple of 1,048,576 ns each replica's offset is taken; above 0.2 ns its resynchronisation starts
and HBD cause 5 latches. -/
def compareReplicas (offsets : List (Nat × Nat)) (s : State) : State :=
  s.periodic 2 1048576 fun s =>
    offsets.foldl (fun t x =>
      let t1 := t.wri 0x5A F.hbd10_REPLICA_OFFSET x.1 x.2
      if (signed 32 x.2).natAbs > 13107 && !t.hat.resync.testBit x.1 then
        { t1 with hat := { t1.hat with
          resync := putBit t1.hat.resync x.1 true
          resyncAt := t1.hat.resyncAt.enter x.1 ((t1.time + t1.rateWord) / 2 ^ 32, none) } }.raise 0x50 5
      else t1) s

/-- REPLICA_COMPARE (R61): each tile's offset in 1/65,536 ns. -/
def execReplicaCompare (offsets : List (Fin 8 × BitVec 32)) (s : State) : Out :=
  .next (compareReplicas (offsets.map fun x => (x.1.val, x.2.toNat)) s)

/-- REPLICA_RESYNC_DONE (R61, R129): the count of resynchronisations rises and vector 62 is sent. -/
def execReplicaResyncDone (tile : Fin 8) (s : State) : Out :=
  .next (s.given (s.hat.resync.testBit tile.val) fun s =>
    ({ s with hat := { s.hat with
      resync := putBit s.hat.resync tile.val false
      resyncAt := match s.hat.resyncAt.at? tile.val with
        | some w => s.hat.resyncAt.enter tile.val (w.1, some s.now)
        | none => s.hat.resyncAt } }.bumpi 0x5A F.hbd10_REPLICA_RESYNCS
      tile.val).vector 62)

/-! ## The acting primary (R95, R96) -/

/-- R95: entries become NOT_ELIGIBLE on a follower and eligible again on the primary; IS_PRIMARY and the time-base code (R97)
follow. -/
def refreshGroup (s : State) : State :=
  let s1 := s.wr 0x55 F.hbd5_GROUP_STATUS_IS_PRIMARY
    (if s.rd 0x55 F.hbd5_GROUP_CFG_CHIP_ID = s.rd 0x55 F.hbd5_GROUP_PRIMARY_PRIMARY then 1 else 0)
  refreshTq ((List.range 16).foldl (fun t e => if t.isPtpRef e && t.qstate e != 5 then t else settleRef e t) s1)

/-- R96: PRIMARY_NEXT becomes PRIMARY. -/
def switchPrimary (s : State) : State :=
  refreshGroup ({ s with hat := { s.hat with switchPending := false } }.wr 0x55 F.hbd5_GROUP_PRIMARY_PRIMARY
    (s.rd 0x55 F.hbd5_GROUP_PRIMARY_PRIMARY_NEXT))

/-- PRIMARY_SWITCH (R96): at the instant of the pair. -/
def execPrimarySwitch (s : State) : Out :=
  .next (s.given (s.hat.switchPending &&
    decide (s.rdPair 0x55 F.hbd5_PRIMARY_SWITCH_NS F.hbd5_PRIMARY_SWITCH_FRAC ≤ s.now)) switchPrimary)

/-! ## Timing outputs (R72, R102 to R104) -/

/-- R104: an output is held. -/
def State.squelched (s : State) (code : Nat) : Bool :=
  match code with
  | 0 => false
  | 1 => s.servo == 0
  | 2 => s.tq != 0 && s.tq != 1
  | _ => s.tq != 0

/-- ASCII digits of a number in a base of at most 16, most significant first. -/
def digits (base : Nat) : Nat → Nat → List Byte
  | 0, _ => []
  | n + 1, v =>
    let d := v % base
    digits base n (v / base) ++ [BitVec.ofNat 8 (if d < 10 then 48 + d else 55 + d)]

/-- R69: a sentence with its checksum. -/
def todSentence (seq tai : Nat) (utc : Int) (leap tq state unc : Nat) : List Byte :=
  let comma : List Byte := [44]
  let body : List Byte := [36, 84, 75, 84, 79, 68, 44] ++ digits 16 4 seq ++ comma ++ digits 10 12 tai ++ comma ++
    [if utc < 0 then (45 : Byte) else 43] ++ digits 10 2 utc.natAbs ++ comma ++
    [match leap with | 1 => 80 | 2 => 77 | _ => (78 : Byte)] ++ comma ++ digits 16 1 tq ++ comma ++
    [match state with | 0 => 85 | 1 => 70 | 2 => 76 | 3 => 84 | _ => (72 : Byte)] ++ comma ++ digits 10 9 (min unc 999999999)
  body ++ [42] ++ digits 16 2 (todChecksum body) ++ [13, 10]

/-- R72: 100,000,000 ns after each TAI second boundary, if enabled and not squelched; it reports what held at the boundary. -/
def todOut (s : State) : State :=
  let key := 3
  let at_ := s.nowNs - 100000000
  let second := at_ / 1000000000
  let held := if s.hat.boundary.1 = second then s.hat.boundary else s.boundaryNow second
  if s.dueAt key 1000000000 at_ then
    let s1 := { s with ticks := { s.ticks with last := s.ticks.last.put s.ticks.base key at_ } }
    if s.on 0x52 F.hbd2_TOD_OUT_CFG_ENABLE && !s.squelched (s.rd 0x52 F.hbd2_TOD_OUT_CFG_SQUELCH) then
      { s1 with hat := { s1.hat with todSeq := (s.hat.todSeq + 1) % 65536 } }.send (.sentence
        (todSentence s.hat.todSeq (at_ / 1000000000) (signed 8 (s.rd 0x50 F.hbd0_UTC_CFG_UTC_OFFSET))
          (s.rd 0x50 F.hbd0_UTC_CFG_LEAP) held.2.2.1 held.2.1 (if held.2.1 = 4 then held.2.2.2 else 0)))
    else s1
  else s

/-- TOD_OUT_SENTENCE (R72); it continues in the safe state (R465). -/
def execTodOutSentence (s : State) : Out := .next (s.given (!s.boot.quiescing) todOut)

/-- R102: PPS_OUT's level. -/
def setPps (i : Nat) (v : Bool) (fall : T80) (s : State) : State :=
  let h := if i = 0 then { s.hat with pps0 := v, ppsFall0 := fall } else { s.hat with pps1 := v, ppsFall1 := fall }
  { s with hat := h }.send (.pin (if i = 0 then "PPS_OUT0" else "PPS_OUT1") v)

/-- R102: the rise at a TAI second boundary plus OFFSET, or the fall after WIDTH_US. -/
def ppsPulse (i : Nat) (rise : Bool) (s : State) : State :=
  if rise then
    let off : Int := signed 32 (s.rdi 0x52 F.hbd2_PPS_OUT_CFG_OFFSET i) * 256
    let t := ((s.now : Int) - off).toNat
    let key := 4 + i
    if s.dueAt key 1000000000 (t / nsUnits) then
      let s1 := { s with ticks := { s.ticks with last := s.ticks.last.put s.ticks.base key (t / nsUnits) } }
      if s.rdi 0x52 F.hbd2_PPS_OUT_CFG_ENABLE i = 1 && !s.squelched (s.rdi 0x52 F.hbd2_PPS_OUT_CFG_SQUELCH i) then
        setPps i true (((t / ns 1000000000 * ns 1000000000 : Nat) : Int) + off +
          (ns (1000 * s.rdi 0x52 F.hbd2_PPS_OUT_CFG_WIDTH_US i) : Nat) - s.hat.stepped).toNat s1
      else s1
    else s
  else
    s.given ((if i = 0 then s.hat.pps0 else s.hat.pps1) && decide ((if i = 0 then s.hat.ppsFall0 else s.hat.ppsFall1) ≤ s.mono))
      (setPps i false 0)

/-- PPS_OUT_PULSE (R102); it continues in the safe state (R465). -/
def execPpsOutPulse (output : Fin 2) (rise : Bool) (s : State) : Out :=
  .next (s.given (!s.boot.quiescing) (ppsPulse output.val rise))

/-- R102: a write of PPS_OUT_CFG is taken whole when OFFSET and WIDTH_US lie in range, and dropped whole otherwise. One that
clears ENABLE while the pin is high drives it low at once (DESIGN CHOICE, log entry 167). -/
def writePpsCfg (i data : Nat) (low high : Bool) (s : State) : State :=
  let v := merged (s.word 0x52 (0x0B0 + 8 * i)) data low high
  let width := v / 2 ^ 8 % 2 ^ 24
  if 1 ≤ width ∧ width ≤ 500000 ∧ (signed 32 (v / 2 ^ 32)).natAbs ≤ 256000000 then
    let off := v % 2 = 0 && (if i = 0 then s.hat.pps0 else s.hat.pps1)
    let s1 := (((s.wri 0x52 F.hbd2_PPS_OUT_CFG_ENABLE i v).wri 0x52 F.hbd2_PPS_OUT_CFG_SQUELCH i (v / 2)).wri 0x52
      F.hbd2_PPS_OUT_CFG_WIDTH_US i width).wri 0x52 F.hbd2_PPS_OUT_CFG_OFFSET i (v / 2 ^ 32)
    if off then setPps i false 0 s1 else s1
  else s.set1 0x52 F.hdr_PAGE_STATUS_WRITE_DROPPED

/-- PPS_OUT_CFG_WRITE (R102): the halves written; discarded in the safe state (R52). -/
def execPpsOutCfgWrite (output : Fin 2) (data : Word) (low high : Bool) (s : State) : Out :=
  .next (s.written 0x52 (writePpsCfg output.val data.toNat low high))

/-- CLK_OUT's level. -/
def setClk (v : Bool) (next : Option T80) (s : State) : State :=
  { s with hat := { s.hat with clk := v, clkNext := next } }.send (.pin "CLK_OUT" v)

def State.clkHalf (s : State) : Nat := s.rd 0x52 F.hbd2_CLK_OUT_CFG_HALF_PERIOD

/-- R103: enabling takes up the grid of START: its instant if it is still ahead, else the next rise after now. -/
def joinGrid (s : State) : State := regrid 0 { s with hat := { s.hat with clkNext := some 0 } }

/-- R103: a write of CLK_OUT_CFG after which HALF_PERIOD is below 4 ns is dropped whole; a new HALF_PERIOD changes the grid,
and a pulse under way ends as its rise has set it. -/
def writeClkCfg (data : Nat) (low high : Bool) (s : State) : State :=
  let v := merged (s.word 0x52 0x0C0 - (if s.on 0x52 F.hbd2_CLK_OUT_CFG_LATE then 2 else 0)) data low high
  if v / 2 ^ 16 < 4 * nsUnits then s.set1 0x52 F.hdr_PAGE_STATUS_WRITE_DROPPED
  else
    let was := s.on 0x52 F.hbd2_CLK_OUT_CFG_ENABLE
    let s1 := (s.wr 0x52 F.hbd2_CLK_OUT_CFG_ENABLE v).wr 0x52 F.hbd2_CLK_OUT_CFG_HALF_PERIOD (v / 2 ^ 16)
    let s2 := if low && data.testBit 1 then s1.clear1 0x52 F.hbd2_CLK_OUT_CFG_LATE else s1
    if !was && v % 2 = 1 then joinGrid s2
    else if was && v % 2 = 0 then setClk false none s2
    else regrid 0 s2

/-- CLK_OUT_CFG_WRITE (R103): the halves written; discarded in the safe state (R52). -/
def execClkOutCfgWrite (data : Word) (low high : Bool) (s : State) : Out :=
  .next (s.written 0x52 (writeClkCfg data.toNat low high))

/-- R103: an edge that is due: a rise, with its fall HALF_PERIOD on, or a fall, with the next rise of the grid after it. -/
def clkEdge (s : State) : State :=
  let start := s.rdPair 0x52 F.hbd2_CLK_OUT_START_NS F.hbd2_CLK_OUT_START_FRAC
  let rise (t : T80) : T80 := if t < start then start else start + ((t - start) / (2 * s.clkHalf) + 1) * (2 * s.clkHalf)
  match s.hat.clkNext with
  | some t => s.given (s.on 0x52 F.hbd2_CLK_OUT_CFG_ENABLE && decide (t ≤ s.now))
      (setClk (!s.hat.clk) (some (if s.hat.clk then rise t else t + s.clkHalf)))
  | none => s

/-- CLK_OUT_START (R103): the first rise, at the START instant. -/
def execClkOutStart (s : State) : Out :=
  .next (s.given (!s.boot.quiescing && !s.hat.clk &&
    s.hat.clkNext == some (s.rdPair 0x52 F.hbd2_CLK_OUT_START_NS F.hbd2_CLK_OUT_START_FRAC)) clkEdge)

/-- CLK_OUT_EDGE (R103); it continues in the safe state (R465). -/
def execClkOutEdge (s : State) : Out := .next (s.given (!s.boot.quiescing) clkEdge)

end Sys2Proof.Machine
end

