-- ==== Sys2Proof/Machine/Stamps.lean ====
section
/-! DEFINITION. Frame time stamps (spec/04_timestamping.md): ingress and egress stamps, the wander monitor, fine trim, and
the calibration trims. -/

namespace Sys2Proof.Machine

/-! ## Lanes and trims -/

def State.wander (s : State) (lane : Nat) : Wander := s.stamps.lanes.val {} lane
def State.putWander (s : State) (lane : Nat) (w : Wander) : State :=
  let s1 := { s with stamps := { s.stamps with lanes := s.stamps.lanes.put {} lane w } }
  (s1.putBitAt 0x59 F.hbd9_SUSPECT lane (w.state == 1 || w.state == 3)).putBitAt 0x59 F.hbd9_FROZEN lane w.frozen
def State.cal (s : State) (key : Nat) : CalRec := s.stamps.cal.val {} key
def State.putCal (s : State) (key : Nat) (c : CalRec) : State :=
  { s with stamps := { s.stamps with cal := s.stamps.cal.put {} key c } }
/-- The rate code of a lane (R111). -/
def State.laneRate (s : State) (lane : Nat) : Nat := s.rd (lan lane) F.lan_LANE_STATUS_RATE

/-- R111: a unit interval in ns, as a fraction. -/
def uiOf (rate : Nat) : Nat × Nat :=
  match rate with
  | 0 => (16, 165)
  | 1 => (32, 825)
  | 2 => (32, 425)
  | 3 => (16, 425)
  | 4 => (8, 425)
  | _ => (4, 425)

/-! ## The wander monitor (R122, R123) -/

/-- The median of 1,024 samples: the mean of the two in the middle (log entry 15). -/
def median (xs : List Int) : Int :=
  let ys := xs.mergeSort
  (ys.getD 511 0 + ys.getD 512 0) / 2

/-- R122: the median, once 1,024 samples exist. -/
def Wander.median? (w : Wander) : Option Int := if w.samples.length ≥ 1024 then some (median w.samples) else none

/-- R122, R123: one phase sample, compared with the median before it joins it. Of the 8 clean samples that end REACQUIRE, which
span 64 UI, only the samples taken every 8 UI count, besides the one that enters it; `own`: the sample is a stamped UI's
(DEDUCED, log entry 173). -/
def wanderSample (lane : Nat) (phase : Int) (own : Bool) (s : State) : State :=
  let w := s.wander lane
  if w.state = 0 then s else
  let exc : Option Nat := w.median?.map fun m => (phase - m).natAbs
  let isClean := match exc with | some e => decide (e ≤ 60000) | none => false
  let ps := sat 16 ((exc.getD 0) / 1000)
  let w1 := { w with
    lastExcursion := ps
    maxExcursion := max w.maxExcursion ps
    samples := if w.frozen then w.samples else (phase :: w.samples).take 1024 }
  if isClean then
    if w.state = 1 then
      if own then s.putWander lane w1
      else if w.clean + 1 ≥ 8 then (s.putWander lane { w1 with state := 2, clean := 0 }).vector 58
      else s.putWander lane { w1 with clean := w.clean + 1 }
    else if w.state = 3 then s.putWander lane { w1 with state := 1, clean := 1 }
    else s.putWander lane w1
  else if w.state = 2 then
    ((s.putWander lane { w1 with state := 3, suspectEntries := sat 16 (w.suspectEntries + 1) }).raise 0x50 12).vector 57
  else s.putWander lane { w1 with state := 3, clean := 0 }

/-- WANDER_SAMPLE (R123): a sample of the lane's unwrapped CDR phase, in fs. -/
def execWanderSample (lane : Fin 1024) (phase : Int) (s : State) : Out := .next (wanderSample lane.val phase false s)

/-- R123: the CDR locks. -/
def cdrLock (lane : Nat) (s : State) : State :=
  let s1 := s.wr (lan lane) F.lan_LANE_STATUS_CDR_LOCK 1
  if (s.wander lane).state = 0 then s1.putWander lane { s.wander lane with state := 1, clean := 0 } else s1

/-- CDR_LOCK (R123). -/
def execCdrLock (lane : Fin 1024) (s : State) : Out := .next (cdrLock lane.val s)

/-- R123: the CDR loses lock; the median is discarded. -/
def cdrUnlock (lane : Nat) (s : State) : State :=
  (s.wr (lan lane) F.lan_LANE_STATUS_CDR_LOCK 0).putWander lane { s.wander lane with state := 0, clean := 0, samples := [] }

/-- CDR_LOCK_LOSS (R123). -/
def execCdrLockLoss (lane : Fin 1024) (s : State) : Out := .next (cdrUnlock lane.val s)

/-! ## Fine trim (R121) -/

/-- R121: at most one step per 1,048,576 ns, none while the loop is frozen. -/
def trimStep (lane : Nat) (up : Bool) (s : State) : State :=
  let w := s.wander lane
  let rested := match w.trimAt with | some t => decide (t + ns 1048576 ≤ s.mono) | none => true
  s.given (!w.frozen && rested) fun s =>
    s.putWander lane { w with trim := if up then w.trim + 1 else w.trim - 1, trimAt := some s.mono }

/-- FINE_TRIM_STEP (R121). -/
def execFineTrimStep (lane : Fin 1024) (up : Bool) (s : State) : Out := .next (s.running (trimStep lane.val up))

/-- R121: how long a number of windows of 256 UI takes, compared with a number of ns: both times the UI's denominator. -/
def windowsSpan (rate n : Nat) : Nat := n * 256 * (uiOf rate).1
def nsSpan (rate v : Nat) : Nat := v * (uiOf rate).2
/-- A receive direction is in low-power idle (R154). -/
def State.rxLpi (s : State) (lane : Nat) : Bool := s.rd (lan lane) F.lan_LANE_STATUS_RX_STATE == 1

/-- R121: sparse windows for more than FREEZE_NS, or low-power idle, freeze the loop; `windows` holds the transitions of
the latest unbroken run of windows. -/
def trimFreeze (lane : Nat) (windows : List Nat) (s : State) : State :=
  let w := s.wander lane
  let sparse := windows.all fun n => decide (n < s.rd 0x58 F.hbd8_STAMP_CFG_DENSITY_MIN)
  let long := decide (windowsSpan (s.laneRate lane) windows.length >
    nsSpan (s.laneRate lane) (s.rd 0x58 F.hbd8_STAMP_CFG_FREEZE_NS))
  s.given (!w.frozen && (s.rxLpi lane || sparse && long)) fun s =>
    (s.putWander lane { w with frozen := true, freezes := sat 16 (w.freezes + 1) }).vector 60

/-- FINE_TRIM_FREEZE (R121). -/
def execFineTrimFreeze (lane : Fin 1024) (windows : List (Fin 257)) (s : State) : Out :=
  .next (trimFreeze lane.val (windows.map (·.val)) s)

/-- R121: dense windows for FREEZE_NS out of low-power idle resume it. -/
def trimResume (lane : Nat) (windows : List Nat) (s : State) : State :=
  let w := s.wander lane
  let dense := windows.all fun n => decide (n ≥ s.rd 0x58 F.hbd8_STAMP_CFG_DENSITY_MIN)
  let long := decide (windowsSpan (s.laneRate lane) windows.length ≥
    nsSpan (s.laneRate lane) (s.rd 0x58 F.hbd8_STAMP_CFG_FREEZE_NS))
  s.given (w.frozen && !s.rxLpi lane && dense && long) fun s => (s.putWander lane { w with frozen := false }).vector 60

/-- FINE_TRIM_RESUME (R121). -/
def execFineTrimResume (lane : Fin 1024) (windows : List (Fin 257)) (s : State) : Out :=
  .next (trimResume lane.val (windows.map (·.val)) s)

/-! ## Stamps (R112 to R119) -/

/-- A stamp and the state after it. -/
abbrev Stamped := T80 × Nat × State

/-- R119: a stamp that could not be formed: TQ 0xF, the causes of all that kept it from it, the lane's count, vector 59. -/
def invalidStamp (lane : Nat) (causes : List Nat) (s : State) : Stamped :=
  let w := s.wander lane
  (Config.invalidStamp s.free % 2 ^ 80, 0xF,
    (causes.foldl (fun (t : State) c => t.raise 0x50 c)
      { s.putWander lane { w with invalidStamps := sat 32 (w.invalidStamps + 1) } with free := s.free + 1 }).vector 59)

/-- R112, R114: an edge, a UI count and 128ths, and a constant in 1/65,536 ns, as a stamp without its trim. -/
def stampOf (rate edge : Nat) (ui : Int) (interp : Nat) (cal : Int) : Int :=
  let u := uiOf rate
  (edge : Int) + (128 * ui + interp) * (u.1 * 2 ^ 48 : Nat) / (128 * u.2 : Nat) + cal * 2 ^ 32

/-- R127: the trim that a stamp of an untrimmed value takes. -/
def trimAt (s : State) (untrimmed : Int) (old new_ : Nat) : Int :=
  signed 20 (if untrimmed / 2 ^ 32 ≥ (s.stamps.applied : Int) then new_ else old)

/-- R119, R120: an instant falls while a tile's replica is being resynchronised. -/
def State.resyncing (s : State) (tile : Nat) (at_ : T80) : Bool :=
  match s.hat.resyncAt.at? tile with
  | some (start, end_) => decide (start ≤ at_) && (match end_ with | some e => decide (at_ ≤ e) | none => true)
  | none => false
/-- R119: the lane's CDR, or its port's marker lock on it, is out of lock now. -/
def State.outOfLock (s : State) (lane : Nat) : Bool :=
  (s.wander lane).state == 0 || (match s.portOfLane lane with
    | some p => ((s.brim.ports.val {} p).lost.at? lane).isSome
    | none => false)
/-- A stamp as a T80. -/
def toT80 (v : Int) : T80 := (v / 2 ^ 32).toNat % 2 ^ 80

/-- R112, R113, R119: the ingress stamp of a frame; the stamped UI's phase is a wander sample of its own (R122). The lane's deskew
depth is taken off its place (R113). -/
def ingressStamp (t : RxTap) (s : State) : Stamped :=
  let lane := t.lane.val
  let rate := s.laneRate lane
  let c := s.cal (lane * 8 + rate)
  let s0 := wanderSample lane t.phase true s
  let s1 := s0.putWander lane { s0.wander lane with deskew := t.deskew }
  let w := s1.wander lane
  let raw := stampOf rate t.edge ((t.ui : Int) - t.deskew) t.interp.val (-(c.rxFactory.getD 0))
  let stamp := toT80 (raw - trimAt s raw c.rxOld c.rxTrim * 2 ^ 32)
  let causes := (if s1.resyncing (lane / 128) stamp then [5] else []) ++ (if t.lockLost || s1.outOfLock lane then [13] else []) ++
    (if c.rxFactory.isNone then [14] else []) ++ (if t.parity then [15] else [])
  if !causes.isEmpty then invalidStamp lane causes s1
  else if w.state = 1 ∨ w.state = 3 then
    (stamp, 5, s1.putWander lane { w with suspectStamps := sat 32 (w.suspectStamps + 1) })
  else (stamp, s1.codeAt stamp, s1)

/-- R114, R117, R119: the egress stamp of a replica. -/
def egressStamp (t : TxTap) (s : State) : Stamped :=
  let lane := t.lane.val
  let rate := s.laneRate lane
  let c := s.cal (lane * 8 + rate)
  let raw := stampOf rate t.edge t.ui 0 (c.txFactory.getD 0)
  let stamp := toT80 (raw + trimAt s raw c.txOld c.txTrim * 2 ^ 32)
  let causes := (if s.resyncing (lane / 128) stamp then [5] else []) ++ (if c.txFactory.isNone then [14] else []) ++
    (if t.parity then [15] else [])
  if !causes.isEmpty then invalidStamp lane causes s else (stamp, s.codeAt stamp, s)

/-! ## TQ changes (R118) -/

/-- R118, R364: at E the oldest change takes effect for stamps, and its event record is formed on stream 0. -/
def tqChange (s : State) : State :=
  match s.hat.tqChanges with
  | [] => s
  | (e, code) :: rest =>
    s.given (decide (e ≤ s.now)) fun s =>
      let s1 := { s with hat := { s.hat with stampTq := code, tqChanges := rest, tqPast := (e, code) :: s.hat.tqPast } }
      formEvent 0 5 e (leBytes 1 s.hat.stampTq ++ leBytes 1 (s.rd 0x50 F.hbd0_SERVO_STATUS_STATE) ++ leBytes 2 0 ++
        leBytes 4 (s.rd 0x50 F.hbd0_HOLDOVER_STATUS_UNCERT_NS)) s1

/-- TQ_CHANGE (R118). -/
def execTqChange (s : State) : Out := .next (tqChange s)

/-! ## Calibration (R126, R127, R129) -/

/-- R127, R129: the trims of a lane and rate in force now: until an APPLY's E those before it. -/
def State.rxForce (s : State) (c : CalRec) : Nat := if s.stamps.applying.isSome then c.rxOld else c.rxTrim
def State.txForce (s : State) (c : CalRec) : Nat := if s.stamps.applying.isSome then c.txOld else c.txTrim
/-- A staged trim differs from the one in force. -/
def State.calPending (s : State) : Bool :=
  s.stamps.cal.any fun p => p.2.rxStaged != s.rxForce p.2 || p.2.txStaged != s.txForce p.2

/-- The CAL registers show the selected lane and rate; a reserved rate reads zero (R129). -/
def showCal (s : State) : State :=
  let rate := s.rd 0x58 F.hbd8_CAL_SEL_RATE
  let c := s.cal (s.rd 0x58 F.hbd8_CAL_SEL_LANE * 8 + rate)
  let ok := decide (rate < 6)
  let fac (x : Option Int) : Nat := match x with | some v => unsigned 32 v | none => 0x80000000
  (((((s.wr 0x58 F.hbd8_CAL_RX_FACTORY (if ok then fac c.rxFactory else 0)).wr 0x58 F.hbd8_CAL_TX_FACTORY
    (if ok then fac c.txFactory else 0)).wr 0x58 F.hbd8_CAL_RX_TRIM (if ok then c.rxStaged else 0)).wr 0x58
    F.hbd8_CAL_TX_TRIM (if ok then c.txStaged else 0)).wr 0x58 F.hbd8_CAL_STATUS_FACTORY_MISSING
    (if ok && (c.rxFactory.isNone || c.txFactory.isNone) then 1 else 0)).wr 0x58 F.hbd8_CAL_STATUS_PENDING
    (if s.calPending then 1 else 0)

/-- R127: a host write of CAL_RX_TRIM or CAL_TX_TRIM stages the trim. -/
def stageTrim (rx : Bool) (v : Nat) (s : State) : State :=
  let rate := s.rd 0x58 F.hbd8_CAL_SEL_RATE
  if rate < 6 then
    let key := s.rd 0x58 F.hbd8_CAL_SEL_LANE * 8 + rate
    let c := s.cal key
    showCal (s.putCal key (if rx then { c with rxStaged := v % 2 ^ 20 } else { c with txStaged := v % 2 ^ 20 }))
  else s

/-- R127: every staged trim is put in force from E, the first multiple of 1,024 ns at least 256 ns on. -/
def applyTrims (s : State) : State :=
  if s.on 0x58 F.hbd8_CAL_STATUS_APPLY_BUSY then s.set1 0x58 F.hbd8_CAL_STATUS_APPLY_REFUSED
  else
    let e := (s.now + ns 256 + ns 1024 - 1) / ns 1024 * ns 1024
    let changed := (s.stamps.cal.filter fun p => p.2.rxStaged != p.2.rxTrim || p.2.txStaged != p.2.txTrim).map (·.1)
    let cal := s.stamps.cal.map fun p => (p.1, { p.2 with
      rxOld := p.2.rxTrim, txOld := p.2.txTrim, rxTrim := p.2.rxStaged, txTrim := p.2.txStaged })
    let s1 := { s with stamps := { s.stamps with cal := cal, applied := e, applying := some changed } }
    showCal (((s1.wr 0x58 F.hbd8_CAL_STATUS_APPLY_BUSY 1).wrPair 0x58 F.hbd8_CAL_APPLIED_NS F.hbd8_CAL_APPLIED_FRAC e).bump
      0x58 F.hbd8_CAL_STATUS_APPLIES)

/-- APPLY (R127); discarded in the safe state (R52). -/
def execApply (s : State) : Out := .next (s.written 0x58 applyTrims)

/-- R129: every staged trim returns to the value in force. -/
def discardTrims (s : State) : State :=
  showCal { s with stamps := { s.stamps with cal := s.stamps.cal.map fun p =>
    (p.1, { p.2 with rxStaged := s.rxForce p.2, txStaged := s.txForce p.2 }) } }

/-- DISCARD (R129); discarded in the safe state (R52). -/
def execDiscard (s : State) : Out := .next (s.written 0x58 discardTrims)

/-- R127, R364: at E an event record is formed for each lane and rate whose trim changed. -/
def trimEffect (s : State) : State :=
  match s.stamps.applying with
  | none => s
  | some keys =>
    s.given (decide (s.stamps.applied ≤ s.now)) fun s =>
      showCal <| keys.foldl (fun t k =>
        let c := s.cal k
        formEvent (sliceOf (k / 8)) 1 s.stamps.applied (leBytes 2 (k / 8) ++ leBytes 1 (k % 8) ++ leBytes 1 0 ++
          leBytes 4 (unsigned 32 (signed 20 c.rxTrim)) ++ leBytes 4 (unsigned 32 (signed 20 c.txTrim)) ++
          leBytes 4 (s.rd 0x58 F.hbd8_CAL_STATUS_APPLIES)) t)
        { s with stamps := { s.stamps with applying := none } }

/-- CAL_TRIM_EFFECT (R127). -/
def execCalTrimEffect (s : State) : Out := .next (trimEffect s)

/-- R127: after E the trims in force are saved, or the save fails; either ends APPLY_BUSY and sends vector 61. -/
def saveTrims (ok : Bool) (s : State) : State :=
  s.given (s.on 0x58 F.hbd8_CAL_STATUS_APPLY_BUSY && s.stamps.applying.isNone) fun s =>
    let s1 := s.wr 0x58 F.hbd8_CAL_STATUS_APPLY_BUSY 0
    (if ok then { s1 with stamps := { s1.stamps with cal := s1.stamps.cal.map fun p =>
        (p.1, { p.2 with rxSaved := p.2.rxTrim, txSaved := p.2.txTrim }) } }
     else s1.set1 0x58 F.hbd8_CAL_STATUS_SAVE_ERR).vector 61

/-- CAL_SAVE_DONE (R127). -/
def execCalSaveDone (ok : Bool) (s : State) : Out := .next (s.running (saveTrims ok))

/-- The saved trims load at a reset (R127). -/
def loadTrims (s : State) : State :=
  showCal { s with stamps := { s.stamps with applied := 0, applying := none, cal := s.stamps.cal.map fun p =>
    (p.1, { p.2 with
      rxStaged := p.2.rxSaved, txStaged := p.2.txSaved, rxTrim := p.2.rxSaved
      txTrim := p.2.txSaved, rxOld := p.2.rxSaved, txOld := p.2.txSaved }) } }

/-! ## Lane status (R129) -/

/-- STAT_SEL's registers show a lane. -/
def showStat (lane : Nat) (s : State) : State :=
  let w := s.wander lane
  let b (x : Bool) : Nat := if x then 1 else 0
  (((((((((((s.wr 0x5A F.hbd10_STAT_SEL_LANE lane).wr 0x5A F.hbd10_WANDER_STATUS_STATE w.state).wr 0x5A
    F.hbd10_WANDER_STATUS_FROZEN (b w.frozen)).wr 0x5A F.hbd10_WANDER_STATUS_MEDIAN_VALID (b w.median?.isSome)).wr 0x5A
    F.hbd10_WANDER_STATUS_MAX_EXCURSION w.maxExcursion).wr 0x5A F.hbd10_WANDER_STATUS_LAST_EXCURSION w.lastExcursion).wr 0x5A
    F.hbd10_STAMP_COUNTS_SUSPECT_STAMPS w.suspectStamps).wr 0x5A F.hbd10_STAMP_COUNTS_INVALID_STAMPS w.invalidStamps).wr
    0x5A F.hbd10_EVENT_COUNTS_SUSPECT_ENTRIES w.suspectEntries).wr 0x5A F.hbd10_EVENT_COUNTS_FREEZES w.freezes).wr 0x5A
    F.hbd10_EVENT_COUNTS_ONE_STEP_DROPS w.oneStepDrops)

/-- STAT_SEL_WRITE (R129); discarded in the safe state (R52). -/
def execStatSelWrite (lane : Fin 1024) (s : State) : Out := .next (s.written 0x5A (showStat lane.val))

/-- R129: CLEAR zeroes the lane's counts and MAX_EXCURSION, and the write snapshots the lane. -/
def statClear (lane : Nat) (s : State) : State :=
  let w := s.wander lane
  showStat lane (s.putWander lane { w with
    suspectStamps := 0, invalidStamps := 0, suspectEntries := 0, freezes := 0, oneStepDrops := 0, maxExcursion := 0 })

/-- STAT_CLEAR (R129): the lane that STAT_SEL names; discarded in the safe state (R52). -/
def execStatClear (lane : Fin 1024) (s : State) : Out := .next (s.written 0x5A (statClear lane.val))

end Sys2Proof.Machine
end

