-- ==== Sys2Proof/Machine/Ptp.lean ====
section
/-! DEFINITION. PTP on every port (spec/03_time_base.md, R87 to R91): the peer tables, the exchanges, and what the device sends. -/

namespace Sys2Proof.Machine

/-! ## Ports and peers -/

def State.ptpPort (s : State) (p : Nat) : PtpPort := s.hat.ptp.val {} p
/-- PORT_SEL's window shows the selected port. -/
def showPtp (s : State) : State :=
  let x := s.ptpPort (s.rd 0x54 F.hbd4_PORT_SEL)
  let put (f : Fld) (t : State) : State := t.wr 0x54 f (x.cfg / 2 ^ f.lo)
  (put F.hbd4_PORT_CFG_PTP_ENABLE (put F.hbd4_PORT_CFG_ROLE_POLICY (put F.hbd4_PORT_CFG_DELAY_MECH
    (put F.hbd4_PORT_CFG_ONE_STEP (put F.hbd4_PORT_CFG_TRANSPORT (put F.hbd4_PORT_CFG_UNICAST
    (put F.hbd4_PORT_CFG_LOG_SYNC (put F.hbd4_PORT_CFG_LOG_ANNOUNCE (put F.hbd4_PORT_CFG_L1_SYNTONIZE s))))))))).wr 0x54
    F.hbd4_PORT_CFG_PEER_REFUSED x.refused |>.wr 0x54 F.hbd4_PORT_ASYM x.asym
def State.putPtp (s : State) (p : Nat) (x : PtpPort) : State :=
  showPtp { s with hat := { s.hat with ptp := s.hat.ptp.put {} p x } }
/-- A field of a port's PORT_CFG. -/
def PtpPort.field (x : PtpPort) (f : Fld) : Nat := x.cfg / 2 ^ f.lo % 2 ^ f.w

/-- The time receiver's and the time source's role of a port (R88). The reserved ROLE_POLICY 0x3 acts as BOTH (DESIGN CHOICE, log
entry 161). -/
def PtpPort.receives (x : PtpPort) : Bool := x.field F.hbd4_PORT_CFG_ROLE_POLICY != 1
def PtpPort.sends (x : PtpPort) : Bool := x.field F.hbd4_PORT_CFG_ROLE_POLICY != 0
/-- DELAY_MECH: P2P. -/
def PtpPort.peerToPeer (x : PtpPort) : Bool := x.field F.hbd4_PORT_CFG_DELAY_MECH == 1
/-- ONE_STEP transmission. -/
def PtpPort.oneStep (x : PtpPort) : Bool := x.field F.hbd4_PORT_CFG_ONE_STEP == 1

/-- R9, R105: ADDRESS in network order: an IPv6 address's 16 bytes, an IPv4 address's 4 or a MAC address's 6. -/
def Peer.shownAddress (p : Peer) : Nat := netOrder (match p.transport with | 0 => 6 | 1 => 4 | _ => 16) p.address

/-- PEER_DATA shows an entry (R105). -/
def showPeer (port e : Nat) (s : State) : State :=
  let p := s.peer port e
  let sel := s.refValid && s.isPtpRef s.refIndex && s.refCfg F.hbd1_REF_CFG_PORT s.refIndex == port &&
    s.peerOfRef s.refIndex == some e
  let b (x : Bool) : Nat := if x then 1 else 0
  (((((((((((((((s.wr 0x54 F.hbd4_PEER_SEL_PORT port).wr 0x54 F.hbd4_PEER_SEL_ENTRY e).wr 0x54
    F.hbd4_PEER_DATA0_CLOCK_IDENTITY (netOrder 8 p.identity)).wr 0x54 F.hbd4_PEER_DATA1_PORT_NUMBER p.portNumber).wr 0x54
    F.hbd4_PEER_DATA1_ROLE p.role).wr 0x54 F.hbd4_PEER_DATA1_STATIC (b p.isStatic)).wr 0x54
    F.hbd4_PEER_DATA1_TRANSPORT p.transport).wr 0x54 F.hbd4_PEER_DATA1_CLOCK_CLASS p.clockClass).wr 0x54
    F.hbd4_PEER_DATA1_STEPS_REMOVED p.stepsRemoved).wr 0x54 F.hbd4_PEER_DATA1_DENOON (b p.denoon)).wr 0x54
    F.hbd4_PEER_DATA1_SELECTED (b sel)).wr 0x54 F.hbd4_PEER_DATA2_GRANDMASTER_IDENTITY (netOrder 8 p.grandmaster)).wrPair 0x54
    F.hbd4_LAST_HEARD_NS F.hbd4_LAST_HEARD_FRAC p.heard).wr 0x54 F.hbd4_PEER_DATA5_MEAN_PATH_DELAY (unsigned 48 p.delay)).wr 0x54
    F.hbd4_PEER_DATA6_ADDRESS_LO p.shownAddress).wr 0x54 F.hbd4_PEER_DATA7_ADDRESS_HI (p.shownAddress / 2 ^ 64)

/-- PEER_SEL_WRITE (R105); discarded in the safe state (R52). -/
def execPeerSelWrite (port : Fin 1024) (entry : Fin 16) (s : State) : Out :=
  .next (s.written 0x54 (showPeer port.val entry.val))

/-- R90, R64: a peer entry becomes FREE by the host's command, the SELECTED entry's too, which then loses it with PEER_GONE. -/
def freePeer (port e : Nat) (s : State) : State :=
  s.given ((s.peer port e).role != 0) fun s =>
    let named := s.peerSelected port e
    let s1 := dropPeer port e s
    if named && s1.silentRef s.refIndex then silenceRef s.refIndex 9 s1 else s1

/-- R90: a message of the entry's sender waits in the queue, so that it arrives in the cycle of now. -/
def State.heardNow (s : State) (port : Nat) (p : Peer) : Bool :=
  s.pending.any fun c => match c with
    | .ptpMessageReceive q _ m _ => q.val == port && m.identity.toNat == p.identity && m.portNumber.toNat == p.portNumber
    | _ => false

/-- PEER_AGE_OUT (R90): a LEARNED entry silent for PEER_AGE seconds, not named by the SELECTED reference; a message that arrives
in the same cycle keeps it. -/
def execPeerAgeOut (port : Fin 1024) (entry : Fin 16) (s : State) : Out :=
  .next (s.given (s.peerAged port.val entry.val && !s.peerSelected port.val entry.val && s.bandRuns &&
    !s.heardNow port.val (s.peer port.val entry.val)) (dropPeer port.val entry.val))

/-- PEER_CMD acts on the entry PEER_SEL names. -/
def onSelectedPeer (f : Nat → Nat → State → State) (s : State) : State :=
  s.written 0x54 fun s => f (s.rd 0x54 F.hbd4_PEER_SEL_PORT) (s.rd 0x54 F.hbd4_PEER_SEL_ENTRY) s

/-- R90: an entry that is held becomes STATIC or LEARNED; a FREE one is neither (DESIGN CHOICE, log entry 168). -/
def setStatic (v : Bool) (port e : Nat) (s : State) : State :=
  s.given ((s.peer port e).role != 0) fun s => s.putPeer port e { s.peer port e with isStatic := v }

/-- MAKE_STATIC (R90). -/
def execMakeStatic (s : State) : Out := .next (onSelectedPeer (setStatic true) s)

/-- MAKE_LEARNED (R90). -/
def execMakeLearned (s : State) : Out := .next (onSelectedPeer (setStatic false) s)

/-- FREE (R90). The host's command also frees a STATIC entry, and one that the SELECTED reference names: the rule's exceptions
speak of what Skoast frees by itself (DESIGN CHOICE, log entry 168). -/
def execFree (s : State) : Out := .next (onSelectedPeer freePeer s)

/-- What a kind of message says of its sender's role (R90): 1 for Announce and Sync, 2 for Delay_Req; the rule names no
others. -/
def kindRole : PtpKind → Nat
  | .announce | .sync => 1
  | .delayReq => 2
  | _ => 0

/-- The role with which a sender's first message claims its entry. For the kinds that R90 does not name the model takes SOURCE
for Follow_Up and Delay_Resp and RECEIVER for the peer delay messages (DESIGN CHOICE, log entry 168). -/
def claimRole : PtpKind → Nat
  | .announce | .sync | .followUp | .delayResp => 1
  | _ => 2

/-- R90: the entry of a sender: known, or the lowest FREE one. -/
def State.findPeer (s : State) (port : Nat) (m : PtpMsg) : Option Nat :=
  match (List.range 16).find? fun e => (s.peer port e).role != 0 && (s.peer port e).identity == m.identity.toNat &&
      (s.peer port e).portNumber == m.portNumber.toNat with
  | some e => some e
  | none => (List.range 16).find? fun e => (s.peer port e).role == 0

/-! ## What the device sends -/

/-- R116: a stamp with TQ 0xF has cost a one-step message, or a Follow_Up: the count of the port's first lane. -/
def countStampLoss (port : Nat) (s : State) : State :=
  s.putWander port { s.wander port with oneStepDrops := sat 32 ((s.wander port).oneStepDrops + 1) }

/-- TRANSPORT, the sequence number and, for unicast, the address that a message goes to. The reserved TRANSPORT 0x3 is sent as it
stands (DESIGN CHOICE, log entry 161). -/
def PtpPort.header (x : PtpPort) (seq address : Nat) : List Nat := [x.field F.hbd4_PORT_CFG_TRANSPORT, seq, address]

/-- R114 to R116: an event message leaves: with its egress stamp in it on a ONE_STEP port, or dropped there where that has TQ
0xF; otherwise followed by its Follow_Up, unless the stamp has TQ 0xF. -/
def sendStamped (port : Nat) (kind follow : String) (head tail : List Nat) (body : T80 → List Nat) (counts : Bool) (tap : TxTap)
    (s : State) : State :=
  let (t, tq, s1) := egressStamp tap s
  if (s.ptpPort port).oneStep then
    if tq = 15 then countStampLoss port s1 else s1.send (.message port kind (head ++ body t ++ tail))
  else
    let s2 := s1.send (.message port kind (head ++ tail))
    if tq = 15 then (if counts then countStampLoss port s2 else s2) else s2.send (.message port follow (head ++ [t] ++ tail))

/-- R97: the Denoon PTP TLV of what the device sends: its TQ and holdover uncertainty. -/
def State.denoonTlv (s : State) : List Nat := [s.tq, s.rd 0x50 F.hbd0_HOLDOVER_STATUS_UNCERT_NS]

/-- An interval of 2^log seconds in ns, `log` signed over 4 bits. -/
def logNs (v : Nat) : Nat :=
  let l := signed 4 v
  if l ≥ 0 then 1000000000 * 2 ^ l.toNat else 1000000000 / 2 ^ (-l).toNat

/-- R91: the clockClass of an Announce. -/
def State.clockClass (s : State) : Nat :=
  match s.servo with
  | 3 => if s.isPtpRef s.refIndex then
      (match s.peerOfRef s.refIndex with
        | some i => (s.peer (s.refCfg F.hbd1_REF_CFG_PORT s.refIndex) i).clockClass
        | none => s.rd 0x54 F.hbd4_PTP_CFG_CLASS_LOCKED)
    else s.rd 0x54 F.hbd4_PTP_CFG_CLASS_LOCKED
  | 4 => if s.tq = 1 then 7 else 52
  | _ => 248

/-- R88: the port may send in the source role. -/
def State.maySource (s : State) (p : Nat) : Bool :=
  (s.ptpPort p).field F.hbd4_PORT_CFG_PTP_ENABLE == 1 && (s.ptpPort p).sends && s.servo != 0 && s.bandRuns

/-- An interval has passed since an instant on the clock of `State.mono`. -/
def State.sinceLast (s : State) (last : Option T80) (log : Nat) : Bool :=
  match last with | some t => decide (s.mono ≥ t + ns (logNs log)) | none => true

/-- R88: the peers a port sends to: each RECEIVER peer when UNICAST is 1, otherwise all of them, as address 0. -/
def State.receivers (s : State) (p : Nat) : List Nat :=
  if (s.ptpPort p).field F.hbd4_PORT_CFG_UNICAST = 1 then (List.range 16).filter fun e => (s.peer p e).role ≥ 2 else [16]
/-- The address of a receiver. -/
def State.receiverAddress (s : State) (p e : Nat) : Nat := if e < 16 then (s.peer p e).address else 0
/-- R88: a Sync to a receiver would reach the peer of the SELECTED entry: it is that peer, or the Sync is multicast on its
port. -/
def State.reachesSelected (s : State) (p e : Nat) : Bool :=
  if e < 16 then s.peerSelected p e else (List.range 16).any (s.peerSelected p)

/-- R88: a Sync to each receiver, none that reaches the peer of the SELECTED entry. -/
def sendSyncs (port : Nat) (taps : List TxTap) (s : State) : State :=
  let x := s.ptpPort port
  let to_ := (s.receivers port).filter fun e => !s.reachesSelected port e
  let s1 := s.putPtp port { x with syncSeq := (x.syncSeq + 1) % 65536, syncAt := some s.mono }
  (to_.zip taps).foldl (fun t p =>
    sendStamped port "Sync" "Follow_Up" (x.header x.syncSeq (s.receiverAddress port p.1)) s.denoonTlv (fun t => [t]) true p.2 t) s1

/-- PTP_SYNC_SEND (R88): each sync interval; `taps` holds what the egress tap delivers for each receiver. -/
def execPtpSyncSend (sync : SyncSend) (s : State) : Out :=
  let p := sync.port.val
  .next (s.running fun s => s.given (s.maySource p && s.sinceLast (s.ptpPort p).syncAt
    ((s.ptpPort p).field F.hbd4_PORT_CFG_LOG_SYNC)) (sendSyncs p sync.taps))

/-- R91: an Announce to each receiver. -/
def sendAnnounces (port : Nat) (s : State) : State :=
  let x := s.ptpPort port
  let s1 := s.putPtp port { x with announceSeq := (x.announceSeq + 1) % 65536, announceAt := some s.mono }
  (s.receivers port).foldl (fun t e => t.send (.message port "Announce"
    (x.header x.announceSeq (s.receiverAddress port e) ++ [s.clockClass, s.rd 0x54 F.hbd4_PTP_CFG_PRIORITY1,
      s.rd 0x54 F.hbd4_PTP_CFG_PRIORITY2, netOrder 8 (s.rd 0x54 F.hbd4_CLOCK_IDENTITY), s.rd 0x50 F.hbd0_UTC_CFG_UTC_OFFSET]))) s1

/-- PTP_ANNOUNCE_SEND (R91): each announce interval. -/
def execPtpAnnounceSend (port : Fin 1024) (s : State) : Out :=
  .next (s.running fun s => s.given (s.maySource port.val && s.sinceLast (s.ptpPort port.val).announceAt
    ((s.ptpPort port.val).field F.hbd4_PORT_CFG_LOG_ANNOUNCE)) (sendAnnounces port.val))

/-- R87: Delay_Req or Pdelay_Req by DELAY_MECH; its departure is kept for the answer. -/
def sendDelayReq (port : Nat) (tap : TxTap) (s : State) : State :=
  let x := s.ptpPort port
  let kind := if x.peerToPeer then "Pdelay_Req" else "Delay_Req"
  let (t, tq, s1) := egressStamp tap s
  let s2 := s1.putPtp port { x with
    delaySeq := (x.delaySeq + 1) % 65536
    t3 := if tq = 15 then none else some (x.delaySeq, ((t : Int) - s.hat.stepped).toNat) }
  if x.oneStep && tq == 15 then countStampLoss port s2
  else s2.send (.message port kind (x.header x.delaySeq 0 ++ (if x.oneStep then [t] else [])))

/-- DELAY_REQ_SEND (R87): a port in the receiver role, or any port of peer delay, asks. -/
def execDelayReqSend (port : Fin 1024) (tap : TxTap) (s : State) : Out :=
  .next (s.running fun s =>
    let x := s.ptpPort port.val
    s.given (x.field F.hbd4_PORT_CFG_PTP_ENABLE == 1 && x.receives && s.bandRuns) (sendDelayReq port.val tap))

/-! ## What the device receives -/

/-- R64, R95: a Sync measured for the entries that follow its sender: the negated offsetFromMaster of IEEE 1588-2019, with
REF_COMP added (R63). -/
def ptpMeasure (port e : Nat) (m : PtpMsg) (fits : List ServoFit) (s : State) : State :=
  (s.refsOnPeer port e).foldl (fun v r =>
    let u := takeCfg r v
    let p := u.peer port e
    let ofm : Int := p.t2 + u.hat.stepped - p.t1 - p.delay - signed 48 (u.ptpPort port).asym
    let fit := fitFor u fits r
    let gm := u.follower && p.grandmaster != u.hat.primaryIdentity || u.on 0x55 F.hbd5_GROUP_STATUS_CHIP_ID_CONFLICT
    settleRef r (measure r u.now (-ofm + signed 48 (u.rdi 0x51 F.hbd1_REF_COMP r)) fit.1 fit.2 (m.tlv.getD (0, 0)).1
      (m.tlv.getD (0, 0)).2 [(8, gm)] u)) s

/-- R88: an Announce: what it says of its sender; the SELECTED entry's loads UTC_OFFSET (R105). -/
def hearAnnounce (port e : Nat) (m : PtpMsg) (s : State) : State :=
  let s1 := s.putPeer port e { s.peer port e with
    clockClass := m.clockClass.toNat
    stepsRemoved := m.stepsRemoved.toNat
    grandmaster := m.grandmaster.toNat
    denoon := m.denoon
    lastAnnounce := s.mono }
  if s1.peerSelected port e then
    (s1.wr 0x50 F.hbd0_UTC_CFG_UTC_OFFSET m.utcOffset.toNat).wr 0x50 F.hbd0_UTC_CFG_FROM_REF 1
  else s1

/-- R63, R87: a Sync, by its ingress stamp on the clock of `State.mono`: measured, or kept for its Follow_Up. One whose stamp has
TQ 0xF measures nothing (DESIGN CHOICE, log entry 169). -/
def hearSync (port e : Nat) (stamp : Option Int) (m : PtpMsg) (fits : List ServoFit) (s : State) : State :=
  let p := { s.peer port e with lastSync := s.mono, syncIn := none }
  match if (s.ptpPort port).receives then stamp else none with
  | none => s.putPeer port e p
  | some t =>
    if m.twoStep then s.putPeer port e { p with syncIn := some (m.sequence.toNat, t - m.correction) }
    else ptpMeasure port e m fits (s.putPeer port e { p with t1 := m.time, t2 := t - m.correction })

/-- R63, R87: the Follow_Up of a Sync. -/
def hearFollowUp (port e : Nat) (m : PtpMsg) (fits : List ServoFit) (s : State) : State :=
  let p := s.peer port e
  match p.syncIn with
  | some (q, t2) => s.given (q == m.sequence.toNat && (s.ptpPort port).receives) fun s =>
      ptpMeasure port e m fits (s.putPeer port e { p with syncIn := none, t1 := (m.time : Int) + m.correction, t2 := t2 })
  | none => s

/-- R87: a request of the port's own DELAY_MECH is answered; of a stamp with TQ 0xF there is no answer (DESIGN CHOICE, log entry
169). -/
def answerDelay (port : Nat) (stamp : Option T80) (reply : TxTap) (m : PtpMsg) (s : State) : State :=
  let x := s.ptpPort port
  let head := x.header m.sequence.toNat m.address.toNat
  let tail := [m.identity.toNat, m.portNumber.toNat]
  match stamp with
  | none => s
  | some t =>
    if m.kind = .delayReq then
      s.given (x.sends && !x.peerToPeer) fun s =>
        s.send (.message port "Delay_Resp" (head ++ [t, unsigned 64 m.correction] ++ tail))
    else s.given x.peerToPeer
      (sendStamped port "Pdelay_Resp" "Pdelay_Resp_Follow_Up" head (if x.oneStep then tail else t :: unsigned 64 m.correction :: tail)
        (fun out => [unsigned 64 (m.correction + (out : Int) - (t : Int))]) false reply)

/-- R87: an answer to the port's last request: the mean path delay of IEEE 1588-2019; a two-step Pdelay_Resp waits for its
Follow_Up. -/
def hearDelay (port e : Nat) (stamp : Option Int) (m : PtpMsg) (s : State) : State :=
  let x := s.ptpPort port
  let p := s.peer port e
  let asked : Option Int := match x.t3 with
    | some (q, t) => if q = m.sequence.toNat ∧ m.toUs then some t else none
    | none => none
  match m.kind, asked, stamp with
  | .delayResp, some t3, _ => s.given (!x.peerToPeer && x.receives && p.t2 != 0) fun s =>
      s.putPeer port e { p with delay := (p.t2 - t3 + ((m.time : Int) - m.correction - p.t1)) / 2 }
  | .pdelayResp, some t3, some t4 => s.given x.peerToPeer fun s =>
      s.putPeer port e (if m.twoStep then { p with pdelay := some (m.sequence.toNat, t4 - t3 + (m.time : Int) - m.correction) }
        else { p with pdelay := none, delay := (t4 - t3 - m.correction) / 2 })
  | .pdelayRespFollowUp, some _, _ =>
    match p.pdelay with
    | some (q, a) => s.given (x.peerToPeer && q == m.sequence.toNat) fun s =>
        s.putPeer port e { p with pdelay := none, delay := (a - (m.time : Int) - m.correction) / 2 }
    | none => s
  | _, _, _ => s

/-- What each kind of message does once its sender holds an entry (R63, R88, R90). -/
def ptpEffect (port e : Nat) (stamp : Option T80) (reply : TxTap) (m : PtpMsg) (fits : List ServoFit) (s : State) : State :=
  let local_ : Option Int := stamp.map fun t => (t : Int) - s.hat.stepped
  match m.kind with
  | .announce => hearAnnounce port e m s
  | .sync => hearSync port e local_ m fits s
  | .followUp => hearFollowUp port e m fits s
  | .delayReq | .pdelayReq => answerDelay port stamp reply m s
  | .delayResp | .pdelayResp | .pdelayRespFollowUp => hearDelay port e local_ m s
  | .other => s

/-- R90: a message's sender claims or refreshes its entry. -/
def notePeer (port e : Nat) (m : PtpMsg) (s : State) : State :=
  let p := s.peer port e
  let claimed := p.role == 0
  let p1 : Peer := { p with
    identity := m.identity.toNat
    portNumber := m.portNumber.toNat
    role := if claimed then claimRole m.kind else p.role ||| kindRole m.kind
    isStatic := !claimed && p.isStatic
    transport := m.transport.val
    heard := s.now
    seen := s.mono
    address := m.address.toNat
    lastSync := if claimed then s.mono else p.lastSync
    lastAnnounce := if claimed then s.mono else p.lastAnnounce }
  let s1 := s.putPeer port e p1
  let s2 := if claimed then s1.vector 53 else s1
  (s2.refsOnPeer port e).foldl (fun u r => if u.qstate r = 1 then u.putQ r 2 else u) s2

/-- R87, R90, R108: a PTP message on a port: stamped; discarded and counted when unsupported; otherwise its sender's entry is
claimed or refreshed, or the sender refused. -/
def ptpReceive (port : Nat) (tap : RxTap) (reply : TxTap) (m : PtpMsg) (fits : List ServoFit) (s : State) : State :=
  let x := s.ptpPort port
  if x.field F.hbd4_PORT_CFG_PTP_ENABLE = 0 ∨ !s.bandRuns then s
  else
    let (t, tq, s1) := ingressStamp tap s
    if m.kind = .other ∨ m.domain.toNat ≠ s.rd 0x54 F.hbd4_PTP_CFG_DOMAIN then s1.count 0x0110 port
    else match s1.findPeer port m with
      | none => ((s1.putPtp port { x with refused := sat 16 (x.refused + 1) }).raise 0x50 4).vector 53
      | some e => ptpEffect port e (if tq = 15 then none else some t) reply m fits (notePeer port e m s1)

/-- PTP_MESSAGE_RECEIVE (R90): the message, what its ingress tap delivers, and what the egress tap delivers with the answer, if
it is answered by an event message. -/
def execPtpMessageReceive (port : Fin 1024) (taps : PtpTaps) (msg : PtpMsg) (fits : List ServoFit) (s : State) : Out :=
  .next (s.running (ptpReceive port.val taps.arrival taps.answer msg fits))

/-- R64, cause 6: three Sync intervals, or the Announce timeout of three intervals, pass in silence. -/
def ptpTimeout (e : Nat) (s : State) : State :=
  let port := s.refCfg F.hbd1_REF_CFG_PORT e
  let x := s.ptpPort port
  match s.peerOfRef e with
  | none => s
  | some i =>
    let p := s.peer port i
    s.given (s.enabledRef e && s.isPtpRef e && decide (s.qstate e ≥ 2) && s.qstate e != 5 && s.bandRuns &&
        (decide (s.mono ≥ p.lastSync + ns (3 * logNs (x.field F.hbd4_PORT_CFG_LOG_SYNC))) ||
         decide (s.mono ≥ p.lastAnnounce + ns (3 * logNs (x.field F.hbd4_PORT_CFG_LOG_ANNOUNCE))))) (failRef e 6)

/-- PTP_TIMEOUT (R64). -/
def execPtpTimeout (entry : Fin 16) (s : State) : Out := .next (s.running (ptpTimeout entry.val))

end Sys2Proof.Machine
end

