-- ==== Sys2Proof/Machine/Frames.lean ====
section
/-! DEFINITION. Frames and what every stage does with them: metadata, fates, drops, capture, header and trace records
(spec/01, 06, 08, 11, 12). -/

namespace Sys2Proof.Machine

/-! ## Frames and metadata (R193) -/

def State.frame? (s : State) (id : Nat) : Option Frame := s.palm.frames.at? id
def State.putFrame (s : State) (id : Nat) (f : Frame) : State :=
  { s with palm := { s.palm with frames := s.palm.frames.enter id f } }
def State.replica? (s : State) (id : Nat) : Option Replica := s.palm.replicas.at? id
def State.putReplica (s : State) (id : Nat) (r : Replica) : State :=
  { s with palm := { s.palm with replicas := s.palm.replicas.enter id r } }

/-- An effect on a frame that is in the device. -/
def State.onFrame (s : State) (id : Nat) (f : Frame → State → State) : State :=
  match s.frame? id with
  | some x => f x s
  | none => s
/-- An effect on a replica, with its frame. -/
def State.onReplica (s : State) (id : Nat) (f : Replica → Frame → State → State) : State :=
  match s.replica? id with
  | some r => (match s.frame? r.frame with | some x => f r x s | none => s)
  | none => s

/-- Metadata bytes from `off`, as a number. -/
def mdGet (md : List Byte) (off n : Nat) : Nat := leVal (slice md off n)
/-- Bytes written into a list from `off`. -/
def overwrite (bs : List Byte) (off : Nat) (new_ : List Byte) : List Byte :=
  (List.range bs.length).map fun i => if off ≤ i ∧ i < off + new_.length then new_.getD (i - off) 0 else bs.getD i 0
def mdPut (md : List Byte) (off n v : Nat) : List Byte := overwrite md off (leBytes n v)

/-- The fields of R193. -/
def Frame.stamp (f : Frame) : T80 := mdGet f.md 0 8 * nsUnits + mdGet f.md 8 2
def Frame.tq (f : Frame) : Nat := mdGet f.md 0x0A 1 % 16
def Frame.bank (f : Frame) : Nat := mdGet f.md 0x0A 1 / 16 % 2
def Frame.pre (f : Frame) : Nat := mdGet f.md 0x14 1 % 8
def Frame.cls (f : Frame) : Nat := mdGet f.md 0x35 1 % 8
def Frame.put (f : Frame) (off n v : Nat) : Frame := { f with md := mdPut f.md off n v }
/-- CTRL's bits. -/
def Frame.ctrl (f : Frame) (b : Nat) : Bool := (mdGet f.md 0x42 1).testBit b
def Frame.flag (f : Frame) (b : Nat) : Frame := { f with flags := putBit f.flags b true }
/-- The slice of its ingress pipeline. -/
def Frame.slice (f : Frame) : Nat := sliceOf f.port

/-- A stage stamp of a traced frame (R400), the first one kept. -/
def Frame.mark (f : Frame) (stage : Nat) (t : T80) : Frame :=
  if f.traced && (f.stamps.at? stage).isNone then { f with stamps := f.stamps.enter stage t } else f

/-- A frame leaves the device; one whose tail is still to come is remembered for the verdict's counts (R391). -/
def State.dropFrame (s : State) (id : Nat) : State :=
  let tails := match s.palm.frames.at? id with
    | some f =>
      if f.verdict.isNone && !f.reply then s.palm.tails.enter id ⟨f.port, f.bytes, f.stamp, if f.learnOk then f.learn else none⟩
      else s.palm.tails
    | none => s.palm.tails
  { s with palm := { s.palm with
      frames := s.palm.frames.del id
      tails := tails } }

/-! ## Capture, header and trace records -/

/-- What the records of a frame's fate say of its replica; absent for a frame dropped before queue assignment. -/
structure Fate where
  at_ : T80
  outPort : Nat := 0xFFFF
  queue : Nat := 0xF
  cls : Nat
  reason : Nat := 0
  egress : Option (T80 × Nat) := none
  flags : Nat := 0
  depth : Nat := 0
  sent : List Byte := []
  /-- The metadata as the replica's egress program has left it; the frame's own before one. -/
  md : Option (List Byte) := none
  /-- Recorded as a frame dropped at ingress (R270, R277, R34). -/
  unported : Bool := false
  deriving DecidableEq, Repr

/-- The frame as its replica saw it. -/
def Frame.seenBy (f : Frame) (x : Fate) : Frame := match x.md with | some m => { f with md := m } | none => f
/-- R360, R363: the capture record of a fate. -/
def Frame.record (f : Frame) (x : Fate) : FrameRec :=
  { ingress := f.stamp, tq := f.tq, cls := x.cls, queue := x.queue, inPort := f.port, outPort := if x.unported then 0xFFFF else x.outPort
    length := f.bytes.length, session := mdGet f.md 0x30 2, seq := mdGet f.md 0x38 8, egress := x.egress
    flags := x.flags, reason := x.reason, generation := mdGet f.md 0x10 4, htLast := mdGet f.md 0x15 1
    mcCode := mdGet f.md 0x16 1, capture := f.ctrl 1, bytes := f.bytes }

/-- The page of a header ring (R287). -/
def hrPage (h : Nat) : Nat := 0xD0 + h
/-- HDR_LEN in bytes. -/
def State.hdrLen (s : State) (h : Nat) : Nat :=
  match s.rd (hrPage h) F.hr_HR_CFG_HDR_LEN with | 0 => 32 | 1 => 96 | _ => 224
def State.hring (s : State) (h : Nat) : HRing := s.palm.rings.val {} h
def State.putHring (s : State) (h : Nat) (r : HRing) : State :=
  { s with palm := { s.palm with rings := s.palm.rings.put {} h r } }

/-- R274: a frame's fate matches a header ring. -/
def State.ringMatches (s : State) (h : Nat) (f : Frame) (x : Fate) : Bool :=
  let pg := hrPage h
  let ev := s.rd pg F.hr_HR_CFG_EVENTS
  let port := if s.on pg F.hr_HR_CFG_PORT_IS_EGRESS then x.outPort else f.port
  s.on pg F.hr_HR_CFG_ENABLE && (s.rd pg F.hr_HR_CFG_CLASS_MASK).testBit x.cls &&
    (s.on pg F.hr_HR_CFG_PORT_ANY || s.rd pg F.hr_HR_CFG_PORT == port) &&
    (ev.testBit 0 || ev.testBit 1 && x.flags.testBit 3 || ev.testBit 2 && x.flags.testBit 6 || ev.testBit 3 && x.flags.testBit 2)

/-- R275: a header record. -/
def State.headerRec (s : State) (h : Nat) (f : Frame) (x : Fate) (seq : Nat) : List Byte :=
  let b (n : Nat) (v : Nat) : Nat := if x.flags.testBit n then v else 0
  let bytes := if s.on (hrPage h) F.hr_HR_CFG_PORT_IS_EGRESS then x.sent else f.bytes
  leBytes 8 (f.stamp / nsUnits) ++ leBytes 2 (f.stamp % nsUnits) ++
    leBytes 1 (f.tq + b 4 16 + b 6 32 + b 2 64 + b 3 128) ++ leBytes 1 (x.cls + b 5 8) ++ leBytes 2 f.port ++
    leBytes 2 x.outPort ++ leBytes 2 (sat 16 f.bytes.length) ++ leBytes 1 x.reason ++ leBytes 1 x.queue ++
    leBytes 4 (if x.flags.testBit 3 then 0 else match x.egress with | some e => sat 32 (t80Sub e.1 f.stamp / 256) | none => 0) ++
    leBytes 4 x.depth ++ leBytes 4 seq ++ slice bytes 0 (s.hdrLen h)

/-- R274: an ingress ring, which a frame matches once, whichever of its replicas' fates it matches by. -/
def State.metAgain (s : State) (h : Nat) (f : Frame) : Bool :=
  !s.on (hrPage h) F.hr_HR_CFG_PORT_IS_EGRESS && f.ringsMet.contains h

/-- R274, R276: a matching frame, sampled, writes its record into the on-die share, or loses it where that is full. -/
def headerRing (h : Nat) (f : Frame) (x : Fate) (s : State) : State :=
  let pg := hrPage h
  if !s.ringMatches h f x || s.metAgain h f then s
  else
    let r := s.hring h
    let r1 := { r with matched := r.matched + 1 }
    if (r.matched + 1) % 2 ^ s.rd pg F.hr_HR_CFG_SAMPLE_LOG2 ≠ 0 then s.putHring h r1
    else
      let rec_ := s.headerRec h f x (r.seq % 2 ^ 32)
      let used := (r.onDie.map List.length).sum
      let r2 := { r1 with seq := r.seq + 1 }
      if used + rec_.length > 1024 * s.rd pg F.hr_HR_CFG_ONDIE_KIB then
        ((s.putHring h r2).bump pg F.hr_HR_STATUS_LOST_BURST).vector (224 + h)
      else ((s.putHring h { r2 with onDie := r.onDie ++ [rec_] }).count 0x0A0D 0).vector (224 + h)

/-- The trace page of a slice (R405). -/
def trcPage (slice : Nat) : Nat := 0xE0 + slice

/-- R400: stage k minus stage 0 in 1/256 ns. -/
def stageDelta (base : T80) (t : Option T80) : Nat :=
  match t with
  | some x => min (t80Sub x base / 256) 0xFFFFFFFE
  | none => 0xFFFFFFFF

/-- R400, R401: the trace record of a tagged frame, written to its slice's ring or discarded. -/
def writeTrace (f : Frame) (x : Fate) (s : State) : State :=
  let sl := f.slice
  let pg := trcPage sl
  let b (n v : Nat) : Nat := if x.flags.testBit n then v else 0
  let seq := s.palm.traceSeq.val 0 sl
  let bytes := leBytes 8 (f.stamp / nsUnits) ++ leBytes 2 (f.stamp % nsUnits) ++
    leBytes 1 (f.tq + 16 * (match x.egress with | some e => e.2 % 16 | none => 0xF)) ++
    leBytes 1 (x.cls + 8 * x.queue) ++ leBytes 2 f.port ++ leBytes 2 x.outPort ++ leBytes 2 (sat 16 f.bytes.length) ++
    leBytes 1 x.reason ++ leBytes 1 (b 3 1 + b 4 2 + b 8 4 + b 9 8 + b 5 16 + b 2 32) ++ leBytes 4 x.depth ++
    leBytes 4 (mdGet f.md 0x10 4) ++ leBytes 4 seq ++
    ([1, 2, 3, 4, 5, 6].flatMap fun k => leBytes 4 (stageDelta f.stamp (f.stamps.at? k))) ++
    leBytes 4 (stageDelta f.stamp (x.egress.map (·.1))) ++ leBytes 1 (mdGet f.md 0x15 1) ++ leBytes 3 0
  let s0 := { s with palm := { s.palm with traceSeq := s.palm.traceSeq.put 0 sl ((seq + 1) % 2 ^ 32) } }
  let l := s.rd pg F.trc_TR_LOG2
  let size := 2 ^ (if 12 ≤ l ∧ l ≤ 30 then l else 12)
  let base := s.rd pg F.trc_TR_BASE * 256
  let tail := s.rd pg F.trc_TR_TAIL
  let ok := s.inRegion 3 base size
  if ok && ringFits size (s.rd pg F.trc_TR_HEAD) tail 64 then
    (((s0.ringWrite base size tail bytes).wr pg F.trc_TR_TAIL ((tail + 64) % size)).count 0x0A0B 0).vector (160 + sl)
  else
    let s1 := ((s0.bump pg F.trc_TRACE_LOST).raise 0xB0 2).vector (160 + sl)
    if ok then s1 else s1.raise 0x340 1

/-- R357, R275, R400: the fate of a frame, or of one replica, is known: its capture, header and trace records. -/
def settle (id : Nat) (x : Fate) (trace : Bool) (s : State) : State :=
  s.onFrame id fun f s =>
    let g := f.seenBy x
    let s1 := formFrame (g.record x) x.at_ s
    let s2 := (List.range 16).foldl (fun t h => headerRing h g x t) s1
    let s3 := if f.traced && trace then writeTrace g x s2 else s2
    s3.putFrame id { f with
      ringsMet := ((List.range 16).filter fun h => f.ringsMet.contains h || s.ringMatches h g x)
      traced := f.traced && !trace }

/-- R274: the fate of a further replica of a frame that is recorded once: an egress ring takes it all the same. -/
def ringsOnly (id : Nat) (x : Fate) (s : State) : State :=
  s.onFrame id fun f s =>
    ((List.range 16).filter fun h => s.on (hrPage h) F.hr_HR_CFG_PORT_IS_EGRESS).foldl (fun t h => headerRing h (f.seenBy x) x t) s

/-! ## Drops (R355, R391, R392) -/

/-- R392, R391: a drop counted on its slice page and as RX_DROPS of the ingress port; a retransmission reply has no
ingress port to count it. -/
def countDrop (f : Frame) (reason : Nat) (queuedAt : Option Nat) (s : State) : State :=
  let s1 := match queuedAt with
    | none => (s.count 0x030B f.slice).count (0x0400 + reason) f.slice
    | some p => (s.count 0x0504 (sliceOf p)).count (0x0600 + reason) (sliceOf p)
  if f.flags.testBit 7 then s1 else s1.count 0x0108 f.port

/-- A frame dropped at ingress, before any queue: its DROPPED record with no egress port, its counts, and its end. -/
def dropAtIngress (id reason : Nat) (s : State) : State :=
  s.onFrame id fun f s =>
    let g := { (f.flag 3) with md := f.md }
    let s1 := settle id { at_ := s.now, cls := f.cls, reason := reason, flags := g.flags } true (countDrop f reason none s)
    s1.dropFrame id

end Sys2Proof.Machine
end

