-- ==== Sys2Proof/Machine/Palm.lean ====
section
/-! DEFINITION. The Palm (spec/08_buffer_queues.md): cells, pools, admission, queues, PFC thresholds, multicast groups,
header rings, banks and their spares. -/

namespace Sys2Proof.Machine

/-! ## Speeds -/

/-- R111: Gb/s of a lane by rate code. -/
def laneSpeed (rate : Nat) : Nat := [10, 25, 25, 50, 100, 200].getD rate 0
/-- R135: a port's data rate in Gb/s. -/
def State.speed (s : State) (p : Nat) : Nat := laneSpeed (s.rd (prt p) F.prt_LINK_STATUS_RATE) * s.widthOf p
/-- The time of `n` bytes at a speed, in 1/65,536 ns. -/
def byteTimes (speed n : Nat) : T80 := if speed = 0 then 0 else n * 8 * nsUnits / speed
/-- R168: MAX_FRAME, clamped to its range when written. -/
def State.maxFrame (s : State) (p : Nat) : Nat := s.rd (prt p) F.prt_MAC_CFG_MAX_FRAME
/-- Cells of a length (R247). -/
def cellsOf (len : Nat) : Nat := (len + 255) / 256

/-! ## Pools (R248 to R250) -/

/-- The size field of a pool: 1 TC7, 2 HEADROOM, 4 + k SPk. -/
def poolSize (k : Nat) : Fld :=
  match k with
  | 1 => F.bufx_POOL_CFG0_TC7_POOL | 2 => F.bufx_POOL_CFG0_HEADROOM | 4 => F.bufx_POOL_CFG1_SP0
  | 5 => F.bufx_POOL_CFG1_SP1 | 6 => F.bufx_POOL_CFG2_SP2 | _ => F.bufx_POOL_CFG2_SP3
/-- Its use field. -/
def poolUse (k : Nat) : Fld :=
  match k with
  | 1 => F.bufx_RES_USED_TC7_USED | 2 => F.bufx_RES_USED_HEADROOM_USED | 4 => F.bufx_POOL_USED0_SP0_USED
  | 5 => F.bufx_POOL_USED0_SP1_USED | 6 => F.bufx_POOL_USED1_SP2_USED | _ => F.bufx_POOL_USED1_SP3_USED
def State.pool (s : State) (k : Nat) : Nat := s.rd 0x4A4 (poolSize k)
def State.used (s : State) (k : Nat) : Nat := s.rd 0x4A4 (poolUse k)
/-- What is kept of the pools for the present cycle. -/
def State.poolCycle (s : State) : PoolCycle :=
  if s.palm.cyc.cycle = coreCycle s.now then s.palm.cyc else { cycle := coreCycle s.now }
/-- R256: a pool's use as an admission sees it, before what tails return in its cycle; and its size, before a write of it. -/
def State.usedSeen (s : State) (k : Nat) : Nat := s.used k + s.poolCycle.back.val 0 k
def State.poolSeen (s : State) (k : Nat) : Nat := (s.poolCycle.sizes.at? k).getD (s.pool k)
/-- Cells of a pool that a draw may still take. -/
def State.roomIn (s : State) (k : Nat) : Nat := s.poolSeen k - s.usedSeen k
/-- The sum of all pools (R248). -/
def State.poolSum (s : State) : Nat :=
  s.rd 0x4A4 F.bufx_MIN_POOL + ([1, 2, 4, 5, 6, 7].map s.pool).sum
/-- The shared pool of a class. -/
def State.sharedPool (s : State) (c : Nat) : Nat := 4 + s.rdx 0x4A4 F.bufx_CLASS_POOL_POOL 0 c % 4

/-- Pool draws charged, or returned. -/
def chargePools (draws : List Draw) (s : State) : State :=
  draws.foldl (fun t d => if d.pool = 0 then t else t.wr 0x4A4 (poolUse d.pool) (t.used d.pool + d.n)) s
def returnPools (draws : List Draw) (s : State) : State :=
  draws.foldl (fun t d => if d.pool = 0 then t else t.wr 0x4A4 (poolUse d.pool) (t.used d.pool - d.n)) s

/-- R256: what tails return is not seen by the admissions of its cycle. -/
def returnLate (draws : List Draw) (s : State) : State :=
  let c := s.poolCycle
  let back := draws.foldl (fun (m : SMap Nat) d => m.put 0 d.pool (m.val 0 d.pool + d.n)) c.back
  returnPools draws { s with palm := { s.palm with cyc := { c with back := back } } }

/-- R251: `n` cells taken off a list of draws, the last drawn first: what they were, and what stays. -/
def splitDraws : Nat → List Draw → List Draw × List Draw
  | _, [] => ([], [])
  | n, d :: r =>
    if n = 0 then ([], d :: r)
    else if n < d.n then ([⟨d.pool, n⟩], ⟨d.pool, d.n - n⟩ :: r)
    else let (a, b) := splitDraws (n - d.n) r; (d :: a, b)

/-- The cells of a list of draws that came from shared pools, and from headroom. -/
def sharedOf (draws : List Draw) : Nat := ((draws.filter fun d => d.pool ≥ 4).map Draw.n).sum
def headroomOf (draws : List Draw) : Nat := ((draws.filter fun d => d.pool = 2).map Draw.n).sum

/-- R250: TC7_BACKING of the lowest bank groups whose capacity covers the TC7 pool. -/
def refreshBacking (s : State) : State :=
  (List.range 36).foldl (fun t g =>
    let v := (decide (32768 * g < s.pool 1)).toNat
    if t.rd (0x480 + g) F.bufg_GROUP_STATUS_TC7_BACKING = v then t
    else t.wr (0x480 + g) F.bufg_GROUP_STATUS_TC7_BACKING v) s

/-- R250, R414: the bank groups' votes follow the pools. -/
def recomputeGroups (s : State) : State := (List.range 36).foldl (fun t g => recomputeDom (160 + g) t) s
/-- R256: the size that a pool had before this cycle is kept for its admissions. -/
def keepSize (k : Nat) (s : State) : State :=
  let c := s.poolCycle
  if (c.sizes.at? k).isSome then s else { s with palm := { s.palm with cyc := { c with sizes := c.sizes.enter k (s.pool k) } } }

/-- R249: a pool write that would take the pools beyond CAPACITY is refused. -/
def writePools (which : Nat) (data : Nat) (s : State) : State :=
  let (a, b) := match which with | 0 => (1, 2) | 1 => (4, 5) | _ => (6, 7)
  let x := data % 2 ^ 21
  let y := data / 2 ^ 32 % 2 ^ 21
  if s.poolSum - s.pool a - s.pool b + x + y > s.rd 0x4A4 F.bufx_CAPACITY then
    (s.set1 0x4A4 F.hdr_PAGE_STATUS_WRITE_DROPPED).raise 0x4A4 3
  else recomputeGroups (refreshBacking (((keepSize b (keepSize a s)).wr 0x4A4 (poolSize a) x).wr 0x4A4 (poolSize b) y))

/-! ## Queues, priority groups, banks -/

def State.queue (s : State) (port q : Nat) : Queue := s.palm.queues.val {} (port * 16 + q)
def State.putQueue (s : State) (port q : Nat) (x : Queue) : State :=
  { s with palm := { s.palm with queues := s.palm.queues.put {} (port * 16 + q) x } }
def State.pg (s : State) (port c : Nat) : Pg := s.palm.pgs.val {} (port * 8 + c)
def State.putPg (s : State) (port c : Nat) (x : Pg) : State :=
  { s with palm := { s.palm with pgs := s.palm.pgs.put {} (port * 8 + c) x } }
def State.sched (s : State) (port : Nat) : Sched := s.palm.scheds.val {} port
def State.putSched (s : State) (port : Nat) (x : Sched) : State :=
  { s with palm := { s.palm with scheds := s.palm.scheds.put {} port x } }

/-- The class of a priority on a port (R159). -/
def State.classOfPriority (s : State) (port pr : Nat) : Nat := s.rdx (prt port) F.prt_PCP_MAP_TC 0 pr
/-- R257: the priorities for which a port sends PFC on behalf of a class; none for TC7 (R162). -/
def State.prioritiesOf (s : State) (port c : Nat) : List Nat :=
  if c = 7 then [] else (List.range 8).filter fun pr =>
    (s.rd (prt port) F.prt_PFC_CFG_TX_ENABLE).testBit pr && s.classOfPriority port pr == c
/-- R257: a class is lossless on an ingress port. -/
def State.isLossless (s : State) (port c : Nat) : Bool := !(s.prioritiesOf port c).isEmpty
/-- R160: a class is paused on an egress port while any priority mapped to it is. -/
def State.classPaused (s : State) (port c : Nat) : Bool :=
  (List.range 8).any fun pr => (s.rd (prt port) F.prt_PFC_STATUS_PAUSED).testBit pr && s.classOfPriority port pr == c

/-- A PFC frame for priorities, with a quanta (R161), and what SENDING then shows. -/
def sendPfc (port : Nat) (prs : List Nat) (quanta : Nat) (s : State) : State :=
  if prs.isEmpty then s
  else
    let s1 := (s.send (.pfc port ((prs.map (2 ^ ·)).sum) quanta)).count 0x010F port
    prs.foldl (fun t pr => t.wr (prt port) F.prt_PFC_STATUS_SENDING
      (putBit (t.rd (prt port) F.prt_PFC_STATUS_SENDING) pr (quanta != 0))) s1

/-- R258: XOFF of a priority group asserted or cleared, with the PFC frame that says so. -/
def setXoff (port c : Nat) (on_ : Bool) (s : State) : State :=
  let g := s.pg port c
  if g.xoff = on_ then s
  else sendPfc port (s.prioritiesOf port c) (if on_ then s.rd (prt port) F.prt_PFC_CFG_TX_QUANTA else 0)
    (s.putPg port c { g with xoff := on_, sentAt := s.mono })

/-- R258: XOFF clears once the shared use has fallen far enough and no headroom is held. -/
def checkXon (port c : Nat) (s : State) : State :=
  let g := s.pg port c
  if g.xoff && decide (g.shared + g.delta ≤ g.xoffAt) && g.hdrmUsed == 0 then setXoff port c false s else s

/-- The group page of a bank. -/
def bufg (b : Nat) : Nat := 0x480 + b / 32
def State.bankState (s : State) (b : Nat) : Nat := s.rdi (bufg b) F.bufg_BANK_STATE (b % 32)
def State.bankLive (s : State) (b : Nat) : Nat := s.rdi (bufg b) F.bufg_BANK_LIVE (b % 32)
/-- R278, R289: each change of a bank's STATE sends the group's vector. -/
def setBankState (b v : Nat) (s : State) : State :=
  if s.bankState b = v then s
  else
    let s1 := (s.wri (bufg b) F.bufg_BANK_STATE (b % 32) v).vector (416 + b / 32)
    let n := ((List.range 32).filter fun k => [0, 1, 3].contains (s1.rdi (bufg b) F.bufg_BANK_STATE k)).length
    s1.wr (bufg b) F.bufg_GROUP_STATUS_BANKS_IN_SERVICE n

/-- R249: 1,024 cells taken from SP0, then SP1 to SP3; cause 4 when the pools can no longer all be honoured within CAPACITY. -/
def takeCapacity (n : Nat) (s : State) : State :=
  let (_, s1) := [4, 5, 6, 7].foldl (fun (x : Nat × State) k =>
    let t := min x.1 (x.2.pool k)
    (x.1 - t, x.2.wr 0x4A4 (poolSize k) (x.2.pool k - t))) (n, s)
  if s1.poolSum ≤ s1.rd 0x4A4 F.bufx_CAPACITY then s1 else s1.raise 0x4A4 4

/-- R281: once a retired bank holds no live cell, CAPACITY falls by its cells. -/
def checkRetired (b : Nat) (s : State) : State :=
  if s.bankState b = 4 ∧ s.bankLive b = 0 then
    takeCapacity 1024 (s.drop 0x4A4 F.bufx_CAPACITY 1024)
  else s

/-- Live cells of a bank and its group raised or lowered by one. -/
def addLive (b : Nat) (s : State) : State :=
  (s.wri (bufg b) F.bufg_BANK_LIVE (b % 32) (s.bankLive b + 1)).bump (bufg b) F.bufg_GROUP_STATUS_LIVE_CELLS
def freeLive (b : Nat) (s : State) : State :=
  checkRetired b ((s.wri (bufg b) F.bufg_BANK_LIVE (b % 32) (s.bankLive b - 1)).drop (bufg b)
    F.bufg_GROUP_STATUS_LIVE_CELLS)

/-- R246, R250, R278: a bank that can give a cell: its group ACTIVE, itself neither draining nor retired, not full. -/
def State.bankGives (s : State) (b : Nat) : Bool :=
  (s.dom (160 + b / 32)).state == 0 && (s.dom (160 + b / 32)).trans == 0 && [0, 1, 3].contains (s.bankState b) && decide (s.bankLive b < 1024)

/-- Cells taken one by one, each from a bank that can give it. -/
def takeCells : List Nat → State → Option State
  | [], s => some s
  | b :: r, s => if s.bankGives b then takeCells r (addLive b s) else none

/-! ## Admission (R251 to R254) -/

/-- What an admission draws: pool draws, the last drawn first, and the queue's minimum and shared cells. -/
structure Grant where
  draws : List Draw
  mine : Nat
  shared : Nat
  deriving DecidableEq, Repr

/-- A list of draws without the empty ones. -/
def realDraws (ds : List Draw) : List Draw := ds.filter fun d => d.n != 0

/-- R253: `n` cells of a shared pool for a queue: drawn, or the reason of the refusal. -/
def sharedGrant (s : State) (q : Queue) (k n : Nat) : Option Nat :=
  if n = 0 then none
  else if s.usedSeen k + n > s.poolSeen k then some 0xE1
  else if q.alpha = 0xF ∨ (q.shared + n) * 128 ≤ 2 ^ q.alpha * (s.poolSeen k - s.usedSeen k) then none
  else some 0xE0

/-- R252, R259: the draw of `r` cells for a frame of a class that entered on a port, into a queue. -/
def State.grant (s : State) (q : Queue) (inPort c r : Nat) : Except Nat Grant :=
  let k := s.sharedPool c
  let mine := min r (q.qmin - q.minUsed)
  let rest := r - mine
  if c = 7 then
    let tc := min rest (s.roomIn 1)
    match sharedGrant s q k (rest - tc) with
    | some e => .error e
    | none => .ok ⟨realDraws [⟨k, rest - tc⟩, ⟨1, tc⟩, ⟨0, mine⟩], mine, rest - tc⟩
  else if s.isLossless inPort c then
    let g := s.pg inPort c
    if rest = 0 ∨ (g.shared + rest ≤ g.xoffAt ∧ s.usedSeen k + rest ≤ s.poolSeen k) then
      .ok ⟨realDraws [⟨k, rest⟩, ⟨0, mine⟩], mine, rest⟩
    else if g.hdrmUsed + r ≤ g.hdrm ∧ r ≤ s.roomIn 2 then .ok ⟨[⟨2, r⟩], 0, 0⟩
    else .error 0xE3
  else match sharedGrant s q k rest with
    | some e => .error e
    | none => .ok ⟨realDraws [⟨k, rest⟩, ⟨0, mine⟩], mine, rest⟩

/-- Descriptors held by TC7 entries. -/
def State.tc7Entries (s : State) : Nat := (s.palm.replicas.filter fun p => p.2.cls = 7).length
/-- R254: a frame of a class that needs `n` replicas finds its descriptors. -/
def State.descriptorsFor (s : State) (c n : Nat) : Bool :=
  let free := s.rd 0x4A4 F.bufx_DESC_FREE
  if c = 7 then decide (n ≤ free)
  else decide (n + (s.rd 0x4A4 F.bufx_DESC_TC7_RESERVE - s.tc7Entries) ≤ free)

/-- R255, R288: a Palm drop latches its cause on the ingress slice. -/
def latchDrop (f : Frame) (c reason : Nat) (s : State) : State :=
  let pg := 0x400 + f.slice
  let s1 := if reason = 0xE3 then s.raise pg 2 else s
  if c = 7 then s1.raise pg 1
  else if reason = 0xE0 ∨ reason = 0xE1 ∨ reason = 0xE2 then s1.raise pg 0 else s1

/-- R391: the queue counter of a Palm drop. -/
def dropIndex (reason : Nat) : Nat :=
  match reason with
  | 0xE0 | 0xE1 => 4 | 0xE2 => 5 | 0xE3 => 6 | 0xE7 => 7 | _ => 8

/-! ## Leaving (R247) -/

/-- A replica's queue gives back the cells charged to it, and its descriptor. -/
def freeEntry (r : Replica) (s : State) : State :=
  let q := s.queue r.port r.queue
  (s.putQueue r.port r.queue { q with
    depth := q.depth - r.cells
    minUsed := q.minUsed - r.mine
    shared := q.shared - r.shared }).bump 0x4A4 F.bufx_DESC_FREE

/-- Cells of a frame's priority group given back with draws (R257). -/
def returnPg (f : Frame) (draws : List Draw) (s : State) : State :=
  let g := s.pg f.port f.admitted
  checkXon f.port f.admitted (s.putPg f.port f.admitted { g with
    shared := g.shared - sharedOf draws
    hdrmUsed := g.hdrmUsed - headroomOf draws })

/-- R247: a frame's last entry has left: its cells return to their pools, and it is gone. -/
def releaseFrame (id : Nat) (s : State) : State :=
  s.onFrame id fun f s =>
    (f.cells.foldl (fun t b => freeLive b t) (returnPg f f.draws (returnPools f.draws s))).dropFrame id

/-- REL_STATUS.HELD: the frames a release group holds (R321). -/
def refreshHeld (g : Nat) (s : State) : State :=
  let ids := (s.palm.replicas.filter fun p => p.2.releaseOf == g + 1 && !p.2.released).map fun p => p.2.frame
  s.wr (0x140 + g) F.rel_REL_STATUS_HELD (sat 16 ids.dedup.length)

/-- A replica has left its queue for good. -/
def removeReplica (id : Nat) (s : State) : State :=
  match s.replica? id with
  | none => s
  | some r =>
    let s0 := freeEntry r { s with palm := { s.palm with replicas := s.palm.replicas.del id } }
    let s1 := if r.releaseOf = 0 then s0 else refreshHeld (r.releaseOf - 1) s0
    match s1.frame? r.frame with
    | none => s1
    | some f =>
      if f.entries ≤ 1 then releaseFrame r.frame s1
      else s1.putFrame r.frame { f with entries := f.entries - 1 }

/-- What the fate of a queued replica says of it. -/
def Replica.fate (r : Replica) (at_ reason : Nat) (f : Frame) : Fate :=
  { at_ := at_, outPort := r.port, queue := r.queue, cls := r.cls, reason := reason, egress := r.egress
    flags := f.flags ||| r.flags ||| (if reason = 0 then 0 else 8), depth := r.depth, sent := r.outBytes
    md := if r.md.isEmpty then none else some r.md }

/-- R400: a replica carries its frame's trace if it is the one to the lowest-numbered port. -/
def State.tracing (s : State) (r : Replica) : Bool :=
  !(s.palm.replicas.any fun p => p.2.frame == r.frame && decide (p.2.port < r.port))

/-- A queued replica dropped: counted on its queue, and on its egress slice or as a drop at ingress; recorded, and gone.
`unported`: recorded as a frame dropped at ingress (R355). -/
def dropReplicaAt (ingress : Bool) (id reason : Nat) (unported : Bool) (s : State) : State :=
  s.onReplica id fun r f s =>
    let s1 := latchDrop f r.cls reason (countDrop f reason (if ingress then none else some r.port) s)
    let palm := decide (0xE0 ≤ reason ∧ reason ≤ 0xEB)
    let s2 := if palm then s1.count (0x0200 + 16 * r.queue + dropIndex reason) r.port else s1
    removeReplica id (settle r.frame { r.fate s.now reason f with unported := unported } (s.tracing r) s2)
/-- R255, R263, R392: the same, counted on its egress slice. -/
def dropReplica (id reason : Nat) (unported : Bool) (s : State) : State := dropReplicaAt false id reason unported s

/-- The replicas of a frame, by their numbers. -/
def State.replicasOf (s : State) (frame : Nat) : List Nat :=
  (s.palm.replicas.filter fun p => p.2.frame == frame).map (·.1)

/-- R270, R277: a stored frame dropped from every queue that holds it and recorded once, as dropped at ingress. -/
def dropStored (frame reason : Nat) (ids : List Nat) (s : State) : State :=
  match ids with
  | [] => s
  | first :: rest =>
    let s1 := rest.foldl (fun t id =>
      match t.replica? id with
      | some r => t.onFrame frame fun f t =>
        removeReplica id (ringsOnly frame { r.fate t.now reason f with unported := true } (t.count (0x0200 + 16 * r.queue + dropIndex reason) r.port))
      | none => t) s
    s1.onFrame frame fun _ s => dropReplica first reason true s

/-! ## Banks and spares (R277 to R282) -/

/-- SPARES_FREE lowered, with the causes of few and of none (R281). -/
def useSpare (s : State) : State :=
  let s1 := s.drop 0x4A4 F.bufx_SPARE_STATUS_SPARES_FREE
  let n := s1.rd 0x4A4 F.bufx_SPARE_STATUS_SPARES_FREE
  let s2 := if n < 4 then s1.raise 0x4A4 0 else s1
  if n = 0 then s2.raise 0x4A4 1 else s2

/-- R280: the spare engine copies the lowest-numbered waiting bank once it is free. -/
def refreshCopy (s : State) : State :=
  let draining := (List.range 1152).filter fun b => s.bankState b == 2
  if s.on 0x4A4 F.bufx_SPARE_STATUS_COPY_BUSY && draining.contains (s.rd 0x4A4 F.bufx_SPARE_STATUS_COPY_BANK) then s
  else match draining with
    | b :: _ => (s.wr 0x4A4 F.bufx_SPARE_STATUS_COPY_BUSY 1).wr 0x4A4 F.bufx_SPARE_STATUS_COPY_BANK b
    | [] => s.wr 0x4A4 F.bufx_SPARE_STATUS_COPY_BUSY 0

/-- The spare given to a draining bank. -/
def State.spareFor (s : State) (b : Nat) : Nat :=
  ((s.palm.spares.filter fun p => p.2 == b).map (·.1)).getLastD 0

/-- R280: a bank's copy is complete, or there is nothing to copy: REMAPPED. -/
def remapBank (b : Nat) (s : State) : State :=
  recomputeDom (160 + b / 32)
    (refreshCopy ((setBankState b 3 (s.wri (bufg b) F.bufg_BANK_SPARE (b % 32) (s.spareFor b))).raise (bufg b) 2))

/-- R279, R281: a bank is triggered: DRAINING with a spare free, and RETIRED with none. -/
def triggerBank (b : Nat) (s : State) : State :=
  if s.bankState b = 2 ∨ s.bankState b = 4 then s
  else
    match (List.range 32).find? fun k => (s.palm.spares.at? (1152 + k)).isNone with
    | some k =>
      let s1 := setBankState b 2 (useSpare { s with palm := { s.palm with spares := s.palm.spares.enter (1152 + k) b } })
      -- the group stays ACTIVE until the copy completes (R282)
      if s.bankLive b = 0 then remapBank b s1 else recomputeDom (160 + b / 32) (refreshCopy s1)
    | none =>
      checkRetired b (((setBankState b 4 s).raise (bufg b) 3).bump 0x4A4 F.bufx_SPARE_STATUS_BANKS_RETIRED)

/-- R268, R277: a frame in transmission is stomped with a cause of R268. -/
def stompReplica (id : Nat) (badTail : Bool) (s : State) : State :=
  s.onReplica id fun r _ s =>
    if r.stomp then s
    else
      let s1 := s.putReplica id { r with
        stomp := true
        flags := r.flags ||| (if badTail then 6 else 4) }
      if badTail then (s1.count 0x010A r.port).raise (0x420 + sliceOf r.port) 0
      else s1.count 0x010C r.port

/-- A replica of a frame has been stomped as bad, and the cause counted on the ingress port (R268, R271). -/
def State.stomped (s : State) (frame : Nat) : Bool :=
  (s.replicasOf frame).any fun k => match s.replica? k with | some r => r.flags.testBit 1 | none => false

/-- R277: the frames of an uncorrectable cell: dropped where transmission has not started, stomped where it has, with the
cause counted on the ingress port (R268). -/
def cellLost (frame : Nat) (s : State) : State :=
  s.onFrame frame fun f s =>
    let ids := s.replicasOf frame
    let started := ids.filter fun id => match s.replica? id with | some r => r.phase == 3 | none => false
    let s0 := if started.isEmpty || s.stomped frame then s else s.count 0x010B f.port 1 f.stamp
    let s1 := started.foldl (fun t id => stompReplica id true t) s0
    dropStored frame 0xE5 (ids.filter fun id => !started.contains id) s1

/-- A corrected error of a bank (R278). -/
def correctedCell (b : Nat) (s : State) : State :=
  let s1 := (s.bumpi (bufg b) F.bufg_BANK_CORRECTED (b % 32)).raise (bufg b) 0
  { s1 with palm := { s1.palm with bankErrors := s1.palm.bankErrors.put 0 b (s1.palm.bankErrors.val 0 b + 1) } }

/-- An uncorrectable error of a bank: its frame under R277, cause 1, and a trigger (R279). -/
def uncorrectedCell (b : Nat) (frame : Option Nat) (s : State) : State :=
  let s1 := s.raise (bufg b) 1
  let s2 := match frame with | some f => cellLost f s1 | none => s1
  if s.bankState b = 2 then s2.bumpi (bufg b) F.bufg_BANK_CORRECTED (b % 32) else triggerBank b s2

/-- CELL_ECC_ERROR (R277, R278): a corrected error, or an uncorrectable one in a cell that a frame may hold. -/
def execCellEccError (bank : Fin 1152) (corrected : Bool) (frame : Option Nat) (s : State) : Out :=
  .next (s.running fun s => if corrected then correctedCell bank.val s else uncorrectedCell bank.val frame s)

/-- R278, R279: what a bank's corrected errors of the last TAI second do to it. -/
def bankSecond (b : Nat) (s : State) : State :=
  let n := s.palm.bankErrors.val 0 b
  let s1 := { s with palm := { s.palm with bankErrors := s.palm.bankErrors.put 0 b 0 } }
  if n ≥ s.rd 0x4A4 F.bufx_SPARE_CFG_SPARE_THRESH then
    (if s.bankState b = 2 then s1 else triggerBank b s1)
  else if n ≥ s.rd 0x4A4 F.bufx_SPARE_CFG_WATCH_THRESH ∧ s.bankState b = 0 then setBankState b 1 s1
  else if n = 0 ∧ s.bankState b = 1 then setBankState b 0 s1
  else s1

/-- BANK_TAI_SECOND (R278). -/
def execBankTaiSecond (bank : Fin 1152) (s : State) : Out :=
  .next (s.running fun s => s.periodic (0x10000 + bank.val) 1000000000 (bankSecond bank.val))

/-- SPARE_COPY_COMPLETE (R280): the bank being copied, and the frames whose cells proved uncorrectable (R277). -/
def execSpareCopyComplete (lost : List Nat) (s : State) : Out :=
  .next (s.given (s.on 0x4A4 F.bufx_SPARE_STATUS_COPY_BUSY) fun s =>
    let b := s.rd 0x4A4 F.bufx_SPARE_STATUS_COPY_BANK
    remapBank b (lost.foldl (fun t f => cellLost f (t.raise (bufg b) 1)) s))

/-- R279, R282: a SPARE_CMD with GO triggers the bank; discarded on a bank REMAPPED or RETIRED, or on no active bank. -/
def spareCmd (bank : Nat) (s : State) : State :=
  if bank ≥ 1152 ∨ s.bankState bank = 3 ∨ s.bankState bank = 4 then s.set1 0x4A4 F.hdr_PAGE_STATUS_WRITE_DROPPED
  else if s.bankState bank = 2 then s.bumpi (bufg bank) F.bufg_BANK_CORRECTED (bank % 32)
  else triggerBank bank s
/-- SPARE_CMD (R279); discarded in the safe state (R52). -/
def execSpareCmd (bank : Fin 2048) (go : Bool) (s : State) : Out :=
  .next (s.written 0x4A4 fun s => s.given go (spareCmd bank.val))

/-! ## Selected windows -/

/-- R285: PG_CFG0, PG_CFG1 and PG_STATUS show the selected group; zero for a port outside the slice or unconfigured. -/
def showPg (slice port c : Nat) (s : State) : State :=
  let pg := 0x400 + slice
  let ok := sliceOf port == slice && s.configured port
  let g := s.pg port c
  let v (n : Nat) : Nat := if ok then n else 0
  let b (x : Bool) : Nat := if x then 1 else 0
  (((((((((s.wr pg F.slii_PG_SEL_PORT port).wr pg F.slii_PG_SEL_CLASS c).wr pg F.slii_PG_CFG0_PG_XOFF (v g.xoffAt)).wr pg
    F.slii_PG_CFG0_PG_XON_DELTA (v g.delta)).wr pg F.slii_PG_CFG1_PG_HDRM (v g.hdrm)).wr pg
    F.slii_PG_STATUS_SHARED_USED (v (sat 21 g.shared))).wr pg F.slii_PG_STATUS_HDRM_USED (v (sat 21 g.hdrmUsed))).wr pg
    F.slii_PG_STATUS_LOSSLESS (v (b (s.isLossless port c)))).wr pg F.slii_PG_STATUS_XOFF (v (b g.xoff)))

/-- PG_SEL_WRITE (R285); discarded in the safe state (R52). -/
def execPgSelWrite (slice : Fin 32) (port : Fin 1024) (cls : Fin 8) (s : State) : Out :=
  .next (s.written (0x400 + slice.val) (showPg slice.val port.val cls.val))

/-- The class whose turn a queue takes. -/
def State.queueClass (s : State) (port q : Nat) : Nat :=
  if q = 9 then 7 else if q = 8 then (s.queue port 8).mc0tc else q

/-- R286: Q_CFG, Q_STATUS and PORT_FWD_CFG show the selected queue and port. -/
def showQueue (slice port q : Nat) (s : State) : State :=
  let pg := 0x420 + slice
  let ok := sliceOf port == slice && s.configured port && decide (q ≤ 9)
  let x := s.queue port q
  let v (n : Nat) : Nat := if ok then n else 0
  let b (y : Bool) : Nat := if y then 1 else 0
  ((((((((((((s.wr pg F.slie_Q_SEL_PORT port).wr pg F.slie_Q_SEL_QUEUE q).wr pg F.slie_Q_CFG_QMIN (v x.qmin)).wr pg
    F.slie_Q_CFG_ALPHA (v x.alpha)).wr pg F.slie_Q_CFG_ECN_ENABLE (v (b x.ecn))).wr pg F.slie_Q_CFG_MC0_TC (v x.mc0tc)).wr
    pg F.slie_Q_CFG_ECN_CELLS (v x.ecnCells)).wr pg F.slie_Q_STATUS_DEPTH (v (sat 21 x.depth))).wr pg
    F.slie_Q_STATUS_MIN_USED (v (sat 8 x.minUsed))).wr pg F.slie_Q_STATUS_PAUSED
    (v (b (s.classPaused port (s.queueClass port q))))).wr pg F.slie_Q_STATUS_ECN_ACTIVE
    (v (b (x.ecn && decide (x.depth ≥ x.ecnCells))))).wr pg F.slie_PORT_FWD_CFG_CT_DISABLE
    (v (b (s.sched port).ctDisable)))

/-- Q_SEL_WRITE (R286); discarded in the safe state (R52). -/
def execQSelWrite (slice : Fin 32) (port : Fin 1024) (queue : Fin 16) (s : State) : Out :=
  .next (s.written (0x420 + slice.val) (showQueue slice.val port.val queue.val))

/-- R285: a write of PG_CFG0 or PG_CFG1 through the window; PG_STATUS keeps its snapshot. -/
def writePgCfg (slice off : Nat) (data : Nat) (s : State) : State :=
  let pg := 0x400 + slice
  let port := s.rd pg F.slii_PG_SEL_PORT
  let c := s.rd pg F.slii_PG_SEL_CLASS
  if sliceOf port = slice ∧ s.configured port then
    let g := s.pg port c
    let g1 := if off = 0x090 then { g with xoffAt := data % 2 ^ 21, delta := data / 2 ^ 32 % 2 ^ 16 }
      else { g with hdrm := data % 2 ^ 21 }
    let s1 := ((s.wr pg F.slii_PG_CFG0_PG_XOFF g1.xoffAt).wr pg F.slii_PG_CFG0_PG_XON_DELTA g1.delta).wr pg F.slii_PG_CFG1_PG_HDRM g1.hdrm
    checkXon port c (s1.putPg port c g1)
  else s.set1 pg F.hdr_PAGE_STATUS_WRITE_DROPPED

/-- R285, R286: what a window register of an SLI page shows: the selection's configuration, and its status as the last write
of the selector found it; zero for a selection outside the slice or unconfigured. Other registers show themselves. -/
def State.shown (s : State) (page off : Nat) : Nat :=
  let slice := page % 32
  if 0x400 ≤ page ∧ page ≤ 0x41F ∧ 0x090 ≤ off ∧ off ≤ 0x0A0 then
    let port := s.rd page F.slii_PG_SEL_PORT
    let g := s.pg port (s.rd page F.slii_PG_SEL_CLASS)
    if sliceOf port != slice || !s.configured port then 0
    else match off with
      | 0x090 => g.xoffAt + g.delta * 2 ^ 32
      | 0x098 => g.hdrm
      | _ => s.word page off
  else if 0x420 ≤ page ∧ page ≤ 0x43F ∧ 0x088 ≤ off ∧ off ≤ 0x098 then
    let port := s.rd page F.slie_Q_SEL_PORT
    let q := s.rd page F.slie_Q_SEL_QUEUE
    let x := s.queue port q
    if sliceOf port != slice || !s.configured port || decide (q > 9) then 0
    else match off with
      | 0x088 => x.qmin + x.alpha * 2 ^ 8 + x.ecn.toNat * 2 ^ 12 + x.mc0tc * 2 ^ 16 + x.ecnCells * 2 ^ 32
      | 0x098 => (s.sched port).ctDisable.toNat
      | _ => s.word page off
  else s.word page off

/-- R249, R253, R286: a write of Q_CFG through the window; the reserved ALPHA codes are written as 0x6; Q_STATUS keeps its
snapshot. -/
def writeQcfg (slice : Nat) (data : Nat) (s : State) : State :=
  let pg := 0x420 + slice
  let port := s.rd pg F.slie_Q_SEL_PORT
  let q := s.rd pg F.slie_Q_SEL_QUEUE
  if sliceOf port = slice ∧ s.configured port ∧ q ≤ 9 then
    let x := s.queue port q
    let qmin := data % 256
    let a := data / 256 % 16
    if s.poolSum - x.qmin + qmin > s.rd 0x4A4 F.bufx_CAPACITY then
      (s.set1 pg F.hdr_PAGE_STATUS_WRITE_DROPPED).raise 0x4A4 3
    else
      let x1 := { x with
        qmin := qmin
        alpha := if 0xB ≤ a ∧ a ≤ 0xE then 6 else a
        ecn := data.testBit 12
        mc0tc := if q = 8 then data / 2 ^ 16 % 8 else x.mc0tc
        ecnCells := data / 2 ^ 32 % 2 ^ 21 }
      let s1 := (((((s.wr pg F.slie_Q_CFG_QMIN x1.qmin).wr pg F.slie_Q_CFG_ALPHA x1.alpha).wr pg F.slie_Q_CFG_ECN_ENABLE
        x1.ecn.toNat).wr pg F.slie_Q_CFG_MC0_TC x1.mc0tc).wr pg F.slie_Q_CFG_ECN_CELLS x1.ecnCells).putQueue port q x1
      recomputeGroups (s1.wr 0x4A4 F.bufx_MIN_POOL (s.rd 0x4A4 F.bufx_MIN_POOL - x.qmin + qmin))
  else s.set1 pg F.hdr_PAGE_STATUS_WRITE_DROPPED

/-- POOL_CFG_WRITE (R249): a write of the halves marked of POOL_CFG0 to POOL_CFG2 for `which` 0 to 2, and of slice k's
Q_CFG window, which holds QMIN, for 3 + k; discarded in the safe state (R52). -/
def execPoolCfgWrite (which : Fin 35) (data : Word) (low high : Bool) (s : State) : Out :=
  .next (s.written (if which.val < 3 then 0x4A4 else 0x420 + (which.val - 3)) fun s =>
    if which.val < 3 then writePools which.val (merged (s.word 0x4A4 (0x080 + 8 * which.val)) data.toNat low high) s
    else writeQcfg (which.val - 3) (merged (s.shown (0x420 + (which.val - 3)) 0x088) data.toNat low high) s)

/-- R286: a write of PORT_FWD_CFG through the window. -/
def writeFwdCfg (slice : Nat) (data : Nat) (s : State) : State :=
  let pg := 0x420 + slice
  let port := s.rd pg F.slie_Q_SEL_PORT
  if sliceOf port = slice ∧ s.configured port ∧ s.rd pg F.slie_Q_SEL_QUEUE ≤ 9 then
    (s.putSched port { s.sched port with ctDisable := data.testBit 0 }).wr pg F.slie_PORT_FWD_CFG_CT_DISABLE (data % 2)
  else s.set1 pg F.hdr_PAGE_STATUS_WRITE_DROPPED

/-! ## Multicast groups (R272) -/

def State.mcg (s : State) (g : Nat) : Mcg := s.palm.mcgs.val {} g

/-- The group and its list as the staging registers hold them. -/
def State.stagedMcg (s : State) : Mcg :=
  ⟨s.on 0x4A4 F.bufx_MCG_CFG_VALID, s.on 0x4A4 F.bufx_MCG_CFG_SKIP_SOURCE,
    (List.range 16).foldl (fun n k => n + s.rdi 0x4A4 F.bufx_MCG_PORTS k * 2 ^ (64 * k)) 0⟩

/-- R284: a write of MCG_SEL snapshots the group's list and flags into the staging registers. -/
def showMcg (g : Nat) (s : State) : State :=
  let m := s.mcg g
  let s1 := ((s.wr 0x4A4 F.bufx_MCG_SEL_GROUP g).wr 0x4A4 F.bufx_MCG_CFG_VALID (if m.valid then 1 else 0)).wr 0x4A4
    F.bufx_MCG_CFG_SKIP_SOURCE (if m.skipSource then 1 else 0)
  (List.range 16).foldl (fun t k => t.wri 0x4A4 F.bufx_MCG_PORTS k (m.ports / 2 ^ (64 * k))) s1

/-- MCG_SEL_WRITE (R284); discarded in the safe state (R52). -/
def execMcgSelWrite (group : Fin 1024) (s : State) : Out := .next (s.written 0x4A4 (showMcg group.val))

/-- R272: the staged list and flags of the selected group come into force at once. -/
def commitMcg (s : State) : State :=
  { s with palm := { s.palm with mcgs := s.palm.mcgs.put {} (s.rd 0x4A4 F.bufx_MCG_SEL_GROUP) s.stagedMcg } }

/-- MCG_COMMIT (R272); discarded in the safe state (R52). -/
def execMcgCommit (s : State) : Out := .next (s.written 0x4A4 commitMcg)

/-! ## Header rings (R276) -/

/-- R276: records lost in the DDR5 ring, each counted, and the ring's vector for each. -/
def loseFull (h : Nat) (n : Nat) (s : State) : State :=
  (List.range n).foldl (fun t _ => (t.bump (hrPage h) F.hr_HR_STATUS_LOST_FULL).vector (224 + h)) s

/-- R276, R518: the oldest record of the on-die share moves to the DDR5 ring, or is lost there. -/
def flushRing (h : Nat) (s : State) : State :=
  let pg := hrPage h
  let r := s.hring h
  match r.onDie with
  | [] => s
  | rec_ :: rest =>
    let s1 := s.putHring h { r with onDie := rest }
    let l := s.rd pg F.hr_HR_SIZE
    let size := 2 ^ (if 16 ≤ l ∧ l ≤ 30 then l else 16)
    let base := s.rd pg F.hr_HR_BASE * 256
    let head := s.rd pg F.hr_HR_HEAD
    let tail := s.rd pg F.hr_HR_TAIL
    if !s.inRegion 3 base size then ((s1.bump pg F.hr_HR_STATUS_LOST_FULL).raise 0x340 1).vector (224 + h)
    else if ringFits size head tail rec_.length then
      (s1.ringWrite base size tail rec_).wr pg F.hr_HR_TAIL ((tail + rec_.length) % size)
    else if s.on pg F.hr_HR_CFG_OVERWRITE then
      -- the oldest records that stand in the way are passed over whole
      let need := ringUsed size head tail + rec_.length + 1 - size
      let skip := (need + rec_.length - 1) / rec_.length * rec_.length
      loseFull h (skip / rec_.length) (((s1.ringWrite base size tail rec_).wr pg F.hr_HR_TAIL ((tail + rec_.length) % size)).wr pg
        F.hr_HR_HEAD ((head + skip) % size))
    else (s1.bump pg F.hr_HR_STATUS_LOST_FULL).vector (224 + h)

/-- HEADER_RING_FLUSH (R276). -/
def execHeaderRingFlush (ring : Fin 16) (s : State) : Out := .next (s.running (flushRing ring.val))

end Sys2Proof.Machine
end

