-- ==== Sys2Proof/Machine/Tables.lean ====
section
/-! DEFINITION. The search tables (spec/07_tables_search.md): places and generations, searches, changes, learning and
ageing, the shadow. -/

namespace Sys2Proof.Machine

/-! ## Generations (R219, R221) -/

/-- Generation `a` is older than `b`, by serial arithmetic modulo 2^32 - 1. -/
def older (a b : Nat) : Bool :=
  let d := (b + (2 ^ 32 - 1) - a % (2 ^ 32 - 1)) % (2 ^ 32 - 1)
  decide (0 < d ∧ d < 2 ^ 31)
/-- The generation after one: 0xFFFF_FFFF is followed by 1. -/
def nextGen (g : Nat) : Nat := if g ≥ 2 ^ 32 - 1 then 1 else g + 1
def State.genNow (s : State) : Nat := s.rd 0x300 F.tbl0_GEN_NOW
/-- GEN_NOW steps by one (R219). -/
def stepGen (s : State) : State := s.wr 0x300 F.tbl0_GEN_NOW (nextGen s.genNow)
/-- A frame older than a generation is in the device (R221). -/
def State.holdsOlder (s : State) (g : Nat) : Bool :=
  s.palm.frames.any fun p => p.2.stage != .fifo && older p.2.gen g
/-- A program that has searched against a generation older than `g` has not ended (R219). -/
def State.runsOlder (s : State) (g : Nat) : Bool :=
  s.palm.frames.any fun p => p.2.stage == .running 1 && p.2.searched && older p.2.gen g
/-- What a search against a generation sees of a place. -/
def Place.seen {α : Type} (p : Place α) (g : Nat) : Option α :=
  match p.since with
  | some t => if older g t then p.before else p.now
  | none => p.now
/-- An index that holds an entry or a staged change; one of which only an earlier version is kept is not (R219). -/
def Place.occupied {α : Type} (p : Place α) : Bool := p.now.isSome || p.staged.isSome
/-- A place that a new entry may take. -/
def Place.isFree {α : Type} (p : Place α) : Bool := p.now.isNone && p.before.isNone && p.staged.isNone
/-- What an epoch's commands see: its staged version, or else what is there. -/
def Place.inEpoch {α : Type} (p : Place α) : Option α := match p.staged with | some x => x | none => p.now
/-- A change committed at a generation, the earlier version kept (R219). -/
def Place.commit {α : Type} (p : Place α) (x : Option α) (g : Nat) : Place α :=
  { p with
    now := x
    since := some g
    before := p.now }
/-- The earlier version retires. -/
def Place.retire {α : Type} (p : Place α) : Place α :=
  { p with
    since := none
    before := none }

/-! ## The EMT (R209 to R211) -/

/-- Bits [19:0] of the CRC-32C of a 12-byte key from a seed (R209). -/
def emtSlot (seed key : Nat) : Nat :=
  let step1 (c : Nat) : Nat := if c % 2 = 1 then (c / 2) ^^^ 0x82F63B78 else c / 2
  let byte (c : Nat) (b : Byte) : Nat :=
    step1 (step1 (step1 (step1 (step1 (step1 (step1 (step1 (c ^^^ b.toNat))))))))
  (((beBytes 12 key).foldl byte seed) ^^^ 0xFFFFFFFF) % 2 ^ 20
/-- The candidates of a key, the lowest way first. -/
def State.candidates (s : State) (key : Nat) : List Nat :=
  (List.range 4).map fun w => w * 2 ^ 20 + emtSlot (s.rdi 0x301 F.tbl1_HASH_SEED w) key
/-- The index of the stash's first entry. -/
def stash0 : Nat := 0x400000
/-- The places a key may be in, in the order of R210. -/
def State.homes (s : State) (key : Nat) : List Nat := s.candidates key ++ (List.range 64).map (stash0 + ·)
def State.emtAt (s : State) (i : Nat) : Place EmtEntry := s.tbl.emt.val {} i
/-- EMT_STATUS after a change, and the cause of a high stash (R243, R244). -/
def refreshEmt (s : State) : State :=
  let n := (s.tbl.emt.filter fun p => p.2.now.isSome).length
  let st := (s.tbl.emt.filter fun p => p.2.now.isSome && decide (p.1 ≥ stash0)).length
  let s1 := (s.wr 0x301 F.tbl1_EMT_STATUS_ENTRIES n).wr 0x301 F.tbl1_EMT_STATUS_STASH_USED st
  if st > 48 ∧ s.rd 0x301 F.tbl1_EMT_STATUS_STASH_USED ≤ 48 then (s1.raise 0x300 11).vector 277 else s1
def State.putEmt (s : State) (i : Nat) (p : Place EmtEntry) : State :=
  refreshEmt { s with tbl := { s.tbl with emt := s.tbl.emt.put {} i p } }
/-- R210: the place and entry that a search of a key against a generation hits. -/
def State.emtFind (s : State) (g key : Nat) : Option (Nat × EmtEntry) :=
  (s.homes key).findSome? fun i => match (s.emtAt i).seen g with
    | some e => if e.key = key then some (i, e) else none
    | none => none
/-- The place of a key as the newest state has it, staged versions included for a command of the epoch. -/
def State.emtKey (s : State) (inEpoch : Bool) (key : Nat) : Option (Nat × EmtEntry) :=
  (s.homes key).findSome? fun i =>
    match (if inEpoch then (s.emtAt i).inEpoch else (s.emtAt i).now) with
    | some e => if e.key = key then some (i, e) else none
    | none => none
/-- R211: the key is present, visible or staged. -/
def State.emtPresent (s : State) (key : Nat) : Bool :=
  (s.homes key).any fun i =>
    let p := s.emtAt i
    (match p.now with | some e => e.key == key | none => false) ||
      (match p.staged with | some (some e) => e.key == key | _ => false)
/-- The key whose candidates bind a place's contents. -/
def Place.emtKeyOf (p : Place EmtEntry) : Option Nat := (p.now.orElse fun _ => p.before).map EmtEntry.key

/-- R211: a relocation path: each entry moves to another of its own candidates, the last of them free; places with a
staged change do not move. -/
def State.pathOk (s : State) : List Nat → Bool
  | [] => false
  | [i] => (s.emtAt i).isFree
  | i :: j :: r =>
    let p := s.emtAt i
    p.staged.isNone && (match p.emtKeyOf with | some k => (s.candidates k).contains j && i != j | none => false) &&
      s.pathOk (j :: r)
/-! ## Moves (R211, R214, R231, R233, R240) -/

/-- A place's content is to reach the shadow (R240). -/
def toShadow (table i : Nat) (s : State) : State :=
  if s.tbl.behind.contains (table, i) then s
  else { s with tbl := { s.tbl with behind := s.tbl.behind ++ [(table, i)] } }

/-- A change of the list in DDR5, as bytes for its digest: table, index, whether an entry follows, its fields (DESIGN CHOICE,
log entry 185: the spec names no layout). -/
def listRow (table i : Nat) (fields : Option (List Byte)) : List Byte :=
  leBytes 1 table ++ leBytes 4 i ++ (match fields with | some b => 1 :: b | none => [0])
/-- The change list (R237). -/
def Tables.listBytes (t : Tables) : List Byte :=
  let flags (e : EmtEntry) : Nat := (if e.isStatic then 1 else 0) + (if e.learned then 2 else 0)
  (t.listEmt.flatMap fun p => listRow 1 p.1 (p.2.map fun e =>
    beBytes 12 e.key ++ leBytes 4 e.data ++ leBytes 2 e.stamp ++ leBytes 1 (flags e))) ++
  (t.listLpa.flatMap fun p => listRow 2 p.1 (p.2.map fun e => beBytes 20 e.value ++ leBytes 1 e.length ++ leBytes 4 e.data)) ++
  t.listCla.flatMap fun p => listRow 3 p.1 (p.2.map fun e =>
    beBytes 60 e.value ++ beBytes 60 e.mask ++ leBytes 2 e.priority ++ leBytes 4 e.data)
/-- A sealed list follows a shift of the LPA (R238): the change of a moved entry is that of its new index. -/
def moveListed (from_ to_ : Nat) (t : Tables) : Tables :=
  match t.listLpa.at? from_ with
  | none => t
  | some x =>
    let u := { t with listLpa := (t.listLpa.del from_).enter to_ x }
    if t.journal.phase = 2 then { u with journal := { t.journal with digest := sha384 u.listBytes } } else u
/-- R233: a walk that an entry passes from ahead to behind owes it to the host. -/
def Walk.pass (w : Walk) (from_ to_ : Nat) (key : Option Nat) : Walk :=
  match key with
  | some k => if w.at_ < from_ ∧ to_ ≤ w.at_ then { w with owed := w.owed ++ [k] } else w
  | none => w
/-- An entry moved by an engine: whatever names its place follows, and both places reach the shadow. -/
def moved (table from_ to_ : Nat) (key : Option Nat) (s : State) : State :=
  let f (x : Nat × Nat) : Nat × Nat := if x = (table, from_) then (table, to_) else x
  let t := if table = 2 then moveListed from_ to_ s.tbl else s.tbl
  toShadow table from_ (toShadow table to_ { s with tbl := { t with
    epoch := { t.epoch with changes := t.epoch.changes.map f }
    cqs := t.cqs.map fun p => (p.1, { p.2 with
      done := p.2.done.map fun d => { d with places := d.places.map f }
      walk := if table = 1 then p.2.walk.map fun w => w.pass from_ to_ key else p.2.walk })
    holds := if table = 1 then t.holds.map fun h => if h.1 = from_ then (to_, h.2) else h else t.holds } })
/-- An EMT entry copied to a free place, and its own vacated (R211). -/
def moveEmt (i j : Nat) (s : State) : State :=
  moved 1 i j (s.emtAt i).emtKeyOf ((s.putEmt j (s.emtAt i)).putEmt i {})
/-- The entries of a path moved, the last first; the first place becomes free. -/
def movePath : List Nat → State → State
  | [], s => s
  | [_], s => s
  | i :: j :: r, s => moveEmt i j (movePath (j :: r) s)
/-- R211 steps 2 to 5: the place of a new key, with what the relocation engine finds as a path; none when full. -/
def State.emtRoom (s : State) (key : Nat) (path : List Nat) : Option (Nat × State) :=
  match (s.candidates key).find? fun i => (s.emtAt i).isFree with
  | some i => some (i, s)
  | none =>
    let kicks := max 1 (s.rd 0x301 F.tbl1_EMT_CFG_MAX_KICKS)
    match path with
    | i :: _ =>
      if (s.candidates key).contains i && decide (path.length ≤ kicks + 1) && path.Nodup && s.pathOk path then
        some (i, movePath path s)
      else stash
    | [] => stash
where
  /-- The lowest free stash entry. -/
  stash : Option (Nat × State) :=
    match ((List.range 64).map (stash0 + ·)).find? fun i => (s.emtAt i).isFree with
    | some i => some (i, s)
    | none => none

/-- The ageing tick (R227). -/
def State.tick (s : State) : Nat := s.nowNs / 2 ^ 20
def State.ageStamp (s : State) : Nat := s.tick % 65536

/-- R206: the EMT's result word. -/
def emtResult (i : Nat) (e : EmtEntry) : Nat :=
  let b (x : Bool) (n : Nat) : Nat := if x then 2 ^ n else 0
  let st := decide (i ≥ stash0)
  e.data + 2 ^ 32 + b e.isStatic 33 + b e.learned 34 + b st 35 + (if st then i - stash0 else i) * 2 ^ 36

/-! ## The LPA (R212 to R215) -/

def State.lpaAt (s : State) (i : Nat) : Place LpaEntry := s.tbl.lpa.val {} i
def State.putLpa (s : State) (i : Nat) (p : Place LpaEntry) : State :=
  let s1 := { s with tbl := { s.tbl with lpa := s.tbl.lpa.put {} i p } }
  s1.wr 0x302 F.tbl2_LPA_STATUS_ENTRIES (s1.tbl.lpa.filter fun x => x.2.now.isSome).length
/-- The top `n` bits of a 160-bit key (R212). -/
def topBits (n key : Nat) : Nat := key / 2 ^ (160 - n)
def LpaEntry.matches_ (e : LpaEntry) (key : Nat) : Bool := topBits e.length key == topBits e.length e.value
/-- R213: the matches of a key against a generation, the longest first. -/
def State.lpaMatches (s : State) (g key : Nat) : List (Nat × LpaEntry) :=
  s.tbl.lpa.filterMap fun p => match p.2.seen g with
    | some e => if e.matches_ key then some (p.1, e) else none
    | none => none
def lpaResult (i : Nat) (e : LpaEntry) (multi : Bool) : Nat :=
  e.data + 2 ^ 32 + (if multi then 2 ^ 33 else 0) + e.length * 2 ^ 34 + i * 2 ^ 42
/-- The length of whatever a place holds. -/
def Place.lpaLength (p : Place LpaEntry) : Option Nat :=
  match p.staged with
  | some (some e) => some e.length
  | _ => (p.now.orElse fun _ => p.before).map LpaEntry.length
/-- R212: an entry of the same LENGTH and stored VALUE, visible or staged. -/
def State.lpaSame (s : State) (inEpoch : Bool) (value length : Nat) : Option (Nat × LpaEntry) :=
  s.tbl.lpa.findSome? fun p =>
    match (if inEpoch then p.2.inEpoch else p.2.now) with
    | some e => if e.length = length ∧ e.value = value then some (p.1, e) else none
    | none => none
def State.lpaPresent (s : State) (value length : Nat) : Bool :=
  s.tbl.lpa.any fun p =>
    (match p.2.now with | some e => e.length == length && e.value == value | none => false) ||
      (match p.2.staged with | some (some e) => e.length == length && e.value == value | _ => false)
/-- R214: the first index above the last longer entry, and the index of the first shorter entry. -/
def State.lpaGap (s : State) (length : Nat) : Nat × Nat :=
  s.tbl.lpa.foldl (fun x p => match p.2.lpaLength with
    | some l => if l > length then (p.1 + 1, x.2) else if l < length then (x.1, min x.2 p.1) else x
    | none => x) (0, 196608)
/-- The first free index from one on, below a bound. -/
def State.lpaFreeUp (s : State) (from_ bound : Nat) : Option Nat :=
  let used := (s.tbl.lpa.filter fun p => !p.2.isFree).map (·.1)
  let i := used.foldl (fun i u => if u = i then i + 1 else i) from_
  if i < bound then some i else none
/-- The first free index below one. -/
def State.lpaFreeDown (s : State) (below : Nat) : Option Nat :=
  let used := ((s.tbl.lpa.filter fun p => !p.2.isFree).map (·.1)).reverse
  let i := used.foldl (fun (i : Nat) u => if u + 1 = i then u else i) below
  if i = 0 then none else some (i - 1)

/-- One move of the shift engine (R214). -/
def lpaMove (from_ to_ : Nat) (s : State) : State :=
  (((s.putLpa to_ (s.lpaAt from_)).putLpa from_ {})).bump 0x302 F.tbl2_LPA_STATUS_SHIFT_MOVES

/-- R214: the hole walks back from above to the insertion point, one entry of each zone crossed; `n` bounds the zones. -/
def shiftDown : Nat → Nat → Nat → State → State
  | 0, _, _, s => s
  | n + 1, hole, hi, s =>
    if hole ≤ hi then s
    else
      let l := (s.lpaAt (hole - 1)).lpaLength
      let first := (s.tbl.lpa.find? fun p => decide (hi ≤ p.1) && p.2.lpaLength == l).map (·.1)
      match first with
      | some i => if i < hole then shiftDown n i hi (lpaMove i hole s) else s
      | none => s
/-- The same from below. -/
def shiftUp : Nat → Nat → Nat → State → State
  | 0, _, _, s => s
  | n + 1, hole, lo, s =>
    if hole + 1 ≥ lo then s
    else
      let l := (s.lpaAt (hole + 1)).lpaLength
      let last := ((s.tbl.lpa.filter fun p => decide (p.1 < lo) && p.2.lpaLength == l).map (·.1)).getLast?
      match last with
      | some i => if hole < i then shiftUp n i lo (lpaMove i hole s) else s
      | none => s

/-- R214: the index for an insertion of a length: any free one in its gap, else one that a shift opens; none when
full. -/
def State.lpaRoom (s : State) (length choice : Nat) : Option (Nat × State) :=
  let (lo, hi) := s.lpaGap length
  if lo ≤ choice ∧ choice < hi ∧ (s.lpaAt choice).isFree then some (choice, s)
  else match s.lpaFreeUp lo hi with
    | some i => some (i, s)
    | none =>
      let up := s.lpaFreeUp hi 196608
      let down := s.lpaFreeDown lo
      match up, down with
      | none, none => none
      | some u, none => some (hi, shiftDown 162 u hi s)
      | none, some d => some (lo - 1, shiftUp 162 d lo s)
      | some u, some d =>
        if lo - 1 - d ≤ u - hi then some (lo - 1, shiftUp 162 d lo s) else some (hi, shiftDown 162 u hi s)

/-! ## The CLA (R216 to R218) -/

def State.claAt (s : State) (i : Nat) : Place ClaEntry := s.tbl.cla.val {} i
def State.putCla (s : State) (i : Nat) (p : Place ClaEntry) : State :=
  { s with tbl := { s.tbl with cla := s.tbl.cla.put {} i p } }
def ClaEntry.matches_ (e : ClaEntry) (key : Nat) : Bool := (key &&& e.mask) == (e.value &&& e.mask)
/-- `a` comes before `b` in search order: higher priority, then lower index. -/
def claBefore (a b : Nat × ClaEntry) : Bool :=
  decide (a.2.priority > b.2.priority) || (a.2.priority == b.2.priority && decide (a.1 < b.1))
/-- The matches of a key in a slice against a generation, by local index. -/
def State.claMatches (s : State) (slice g key : Nat) : List (Nat × ClaEntry) :=
  s.tbl.cla.filterMap fun p =>
    if p.1 / 1536 = slice then match p.2.seen g with
      | some e => if e.matches_ key then some (p.1 % 1536, e) else none
      | none => none
    else none
/-- The first of matches in search order. -/
def claFirst (ms : List (Nat × ClaEntry)) : Option (Nat × ClaEntry) :=
  ms.foldl (fun best m => match best with
    | some b => if claBefore m b then some m else some b
    | none => some m) none
def claResult (i : Nat) (e : ClaEntry) (multi : Bool) : Nat :=
  e.data + 2 ^ 32 + (if multi then 2 ^ 33 else 0) + e.priority * 2 ^ 34 + i * 2 ^ 50
/-- CLA_STATUS shows the entries of the selected slice (R243). -/
def showCla (s : State) : State :=
  let sl := s.rd 0x302 F.tbl2_CLA_SEL_SLICE
  s.wr 0x302 F.tbl2_CLA_STATUS_ENTRIES (s.tbl.cla.filter fun p => p.1 / 1536 == sl && p.2.now.isSome).length

/-! ## A search (R206, R213, R217) -/

/-- The key width of a table in bytes (R205). -/
def keyBytes (table : Nat) : Nat := match table with | 1 => 12 | 2 => 20 | _ => 60

/-- The result word of a search against a generation, 0 on a miss; and the place hit. -/
def State.lookup (s : State) (table slice g key : Nat) : Nat × Option Nat :=
  match table with
  | 1 => match s.emtFind g key with | some (i, e) => (emtResult i e, some i) | none => (0, none)
  | 2 => match s.lpaMatches g key with
    | (i, e) :: r => (lpaResult i e (r.any fun x => x.2.length != e.length), some i)
    | [] => (0, none)
  | _ =>
    let ms := s.claMatches slice g key
    match claFirst ms with
    | some (i, e) => (claResult i e (decide (ms.length > 1)), some i)
    | none => (0, none)

/-- R227: a lookup hit refreshes the entry's age stamp, in every version of it. -/
def refreshAge (i : Nat) (s : State) : State :=
  let p := s.emtAt i
  let up (e : EmtEntry) : EmtEntry := { e with stamp := s.ageStamp }
  { s with tbl := { s.tbl with emt := s.tbl.emt.put {} i { p with
      now := p.now.map up
      before := p.before.map up
      staged := p.staged.map fun x => x.map up } } }

/-! ## The shadow (R240) -/

/-- The shadow takes what a place holds now; with its first entry and its last, DDR5's use changes (R413). -/
def mirror (table i : Nat) (s : State) : State :=
  let t := { s.tbl with behind := s.tbl.behind.filter fun x => x != (table, i) }
  let u : State := { s with tbl := match table with
    | 1 => { t with shEmt := match (s.emtAt i).now with | some e => t.shEmt.enter i e | none => t.shEmt.del i }
    | 2 => { t with shLpa := match (s.lpaAt i).now with | some e => t.shLpa.enter i e | none => t.shLpa.del i }
    | _ => { t with shCla := match (s.claAt i).now with | some e => t.shCla.enter i e | none => t.shCla.del i } }
  if u.ddrInUse = s.ddrInUse then u else recomputeDdr u

/-! ## Notifications (R226) -/

/-- R226: a notification record written to its ring, or lost: when the ring is full, and when the host link is down, which
also is an access that fails (R488, R536; DEDUCED). -/
def notify (event port oldPort nsec index key : Nat) (s : State) : State :=
  if !s.on 0x303 F.tbl3_NOTIFY_CFG_ENABLE then s
  else
    let size := 2 ^ s.rd 0x303 F.tbl3_NOTIFY_CFG_LOG2_SIZE
    let tail := s.rd 0x303 F.tbl3_NOTIFY_TAIL % size
    if !s.hostUp then (((s.bump 0x303 F.tbl3_NOTIFY_STATUS_LOST).raise 0x300 2).vector 273).raise 0x380 3
    else if (tail + 1) % size = s.rd 0x303 F.tbl3_NOTIFY_HEAD % size then
      ((s.bump 0x303 F.tbl3_NOTIFY_STATUS_LOST).raise 0x300 2).vector 273
    else
      let bytes := leBytes 1 event ++ leBytes 1 0 ++ leBytes 2 port ++ leBytes 2 oldPort ++ leBytes 2 0 ++ leBytes 8 nsec ++
        leBytes 4 index ++ beBytes 12 key
      ((s.send (.hostWrite (s.rd 0x303 F.tbl3_NOTIFY_BASE * 32 + 32 * tail) bytes)).wr 0x303 F.tbl3_NOTIFY_TAIL
        ((tail + 1) % size)).vector 272

/-- DATA.PORT of an entry (R207). -/
def EmtEntry.port (e : EmtEntry) : Nat := e.data % 1024

/-! ## Learning (R223 to R225) -/

/-- R224: a learn event that is dropped: counted, cause 0, reported. -/
def learnDropped (e : LearnEv) (s : State) : State :=
  notify 5 e.port 0xFFFF (e.stamp / nsUnits) 0xFFFFFFFF e.key
    (((s.bump 0x301 F.tbl1_LEARN_COUNTS_DROPPED).raise 0x300 0).vector 279)

/-- R224: a learn event enters its slice's FIFO of 256, in which it waits for the learn sequencer (DEDUCED, log
entry 20); one that comes too late to wait counts LEARN_LATE. -/
def learnEvent (e : LearnEv) (s : State) : State :=
  let sl := sliceOf e.port
  let q := s.tbl.learns.val [] sl
  if q.length ≥ 256 then learnDropped e s
  else
    let s1 := { s with tbl := { s.tbl with learns := s.tbl.learns.put [] sl (q ++ [e]) } }
    if s.now > e.stamp + ns 16384 then s1.bump 0x301 F.tbl1_EMT_STATUS_LEARN_LATE else s1

/-- HOLD_USED follows the move-hold list. -/
def putHolds (hs : List (Nat × Nat)) (s : State) : State :=
  ({ s with tbl := { s.tbl with holds := hs } }).wr 0x301 F.tbl1_EMT_STATUS_HOLD_USED hs.length

/-- R225: an entry's record added or refreshed; a full list drops its oldest. -/
def addHold (i nsec : Nat) (s : State) : State :=
  let hs := s.tbl.holds.filter fun h => h.1 != i
  putHolds ((if hs.length ≥ 8192 then hs.drop 1 else hs) ++ [(i, nsec)]) s
def dropHold (i : Nat) (s : State) : State :=
  if s.tbl.holds.any fun h => h.1 == i then putHolds (s.tbl.holds.filter fun h => h.1 != i) s else s

/-- R224, R225: a learn applied: NEW, MOVE, MOVE_CONFLICT or DROPPED. It carries no generation: a move is one of every
version of the entry (R220). -/
def applyLearn (e : LearnEv) (path : List Nat) (s : State) : State :=
  let nsec := e.stamp / nsUnits
  let staged (i : Nat) : Bool := (s.emtAt i).staged.isSome
  match s.emtKey false e.key with
  | none =>
    if s.emtPresent e.key then learnDropped e s
    else match s.emtRoom e.key path with
      | none => learnDropped e s
      | some (i, s1) =>
        let d := s.rd 0x301 F.tbl1_LEARN_DATA
        let x : EmtEntry := ⟨e.key, d - d % 1024 + e.port, false, true, s.ageStamp⟩
        let s2 := toShadow 1 i (s1.putEmt i { s1.emtAt i with now := some x })
        notify 1 e.port 0xFFFF nsec i e.key
          (addHold i nsec ((s2.bump 0x301 F.tbl1_LEARN_COUNTS_NEW).count 0x0A04 0))
  | some (i, x) =>
    if staged i then learnDropped e s
    else if x.port = e.port then s
    else
      let held := match s.tbl.holds.find? fun h => h.1 == i with
        | some h => decide (nsec < h.2 + s.rd 0x301 F.tbl1_LEARN_CFG_MOVE_HOLD)
        | none => false
      if x.isStatic || held then
        notify 3 e.port x.port nsec i e.key
          (((s.bump 0x301 F.tbl1_LEARN_COUNTS_CONFLICT).count 0x0A06 0).raise 0x300 1)
      else
        let at_ (y : EmtEntry) : EmtEntry := { y with
          data := y.data - y.port + e.port
          stamp := s.ageStamp }
        let p := s.emtAt i
        let s1 := toShadow 1 i (s.putEmt i { p with
          now := some (at_ x)
          before := p.before.map at_ })
        notify 2 e.port x.port nsec i e.key
          (addHold i nsec ((s1.bump 0x301 F.tbl1_LEARN_COUNTS_MOVE).count 0x0A05 0))

/-- R224: the first waiting event by ingress T80, then by lower port. -/
def State.firstLearn (s : State) : Option (Nat × LearnEv) :=
  s.tbl.learns.foldl (fun best p => p.2.foldl (fun best e => match best with
    | some (_, b) => if e.stamp < b.stamp ∨ (e.stamp = b.stamp ∧ e.port < b.port) then some (p.1, e) else best
    | none => some (p.1, e)) best) none

/-- R224: the first held event whose instant has come; `path` is what the relocation engine finds for a new key. -/
def learnNext (path : List Nat) (s : State) : State :=
  match s.firstLearn with
  | none => s
  | some (sl, e) => s.given (decide (e.stamp + ns 16384 ≤ s.now)) fun s =>
      applyLearn e path { s with tbl := { s.tbl with learns := s.tbl.learns.put [] sl ((s.tbl.learns.val [] sl).erase e) } }

/-- MOVE_HOLD_EXPIRY (R225): records whose NS plus MOVE_HOLD TIME has passed. -/
def execMoveHoldExpiry (s : State) : Out :=
  .next (s.running fun s =>
    let h := s.rd 0x301 F.tbl1_LEARN_CFG_MOVE_HOLD
    let keep := s.tbl.holds.filter fun x => decide (s.now ≤ ns (x.2 + h))
    s.given (keep.length != s.tbl.holds.length) (putHolds keep))

/-! ## Ageing and the stash (R211, R228) -/

/-- R220: an entry removed without a generation, for searches against every one. -/
def removeEmt (i : Nat) (s : State) : State :=
  toShadow 1 i (dropHold i (s.putEmt i { s.emtAt i with now := none, before := none }))

/-- R227: an entry's age in ticks. -/
def State.age (s : State) (e : EmtEntry) : Nat := (s.tick + 65536 - e.stamp) % 65536

/-- R228: the sweeper removes an entry that is old enough. -/
def sweepVisit (i : Nat) (s : State) : State :=
  match (s.emtAt i).now with
  | none => s
  | some e =>
    s.given (s.on 0x301 F.tbl1_AGE_CFG_AGE_ENABLE && !e.isStatic && (s.emtAt i).staged.isNone &&
        decide (s.age e ≥ min 64511 (s.rd 0x301 F.tbl1_AGE_CFG_AGE_LIMIT))) fun s =>
      notify 4 e.port 0xFFFF s.nowNs i e.key ((removeEmt i s).count 0x0A07 0)

/-- R211: a stash entry whose key has a free candidate moves back into the ways. -/
def stashBack (e : Nat) (s : State) : State :=
  let i := stash0 + e
  let p := s.emtAt i
  match p.emtKeyOf with
  | none => s
  | some k =>
    match (s.candidates k).find? fun j => (s.emtAt j).isFree with
    | some j => s.given p.staged.isNone (moveEmt i j)
    | none => s

end Sys2Proof.Machine
end

