-- ==== Sys2Proof/Machine/Microcode.lean ====
section
/-! DEFINITION. The Knuckle engines and their control stores (spec/06_pipeline_microcode.md): engines, the microword, the
checks of a microcode section, machine checks and repairs, banks. -/

namespace Sys2Proof.Machine

/-! ## Control stores (R178, R198) -/

/-- The UCS page of a slice. -/
def ucsPage (g : Nat) : Nat := 0x440 + g
def State.store (s : State) (g : Nat) : Store := s.ucs.stores.val {} g
def State.putStore (s : State) (g : Nat) (x : Store) : State :=
  { s with ucs := { s.ucs with stores := s.ucs.stores.put {} g x } }
/-- The image of bank 0 (A) or 1 (B). -/
def Store.bank (x : Store) (b : Nat) : Image := if b = 0 then x.a else x.b
def Store.setBank (x : Store) (b : Nat) (i : Image) : Store := if b = 0 then { x with a := i } else { x with b := i }
def State.activeBank (s : State) (g : Nat) : Nat := s.rd (ucsPage g) F.ucs_BANK_STATUS_ACTIVE_BANK
def State.golden (s : State) (g : Nat) : Bool := s.on (ucsPage g) F.ucs_BANK_STATUS_GOLDEN
/-- An item of an image by its region and ADDR (R202). -/
def Image.item (i : Image) (region addr : Nat) : Nat :=
  match region with
  | 0 => i.words.val 0 addr
  | 1 => i.dispatch.val 0 addr
  | 2 => i.typeMap.val 0 addr
  | _ => i.templates.val 0 addr
/-- A location's number: ADDR, BANK and REGION as CS_SEL has them. -/
def location (addr bank region : Nat) : Nat := addr + 4096 * bank + 8192 * region
def locAddr (loc : Nat) : Nat := loc % 4096
def locBank (loc : Nat) : Nat := loc / 4096 % 2
def locRegion (loc : Nat) : Nat := loc / 8192 % 4
/-- BANK_STATUS.STATE (R198); every change sends the slice's vector (R204). -/
def State.ucsState (s : State) (g : Nat) : Nat := s.rd (ucsPage g) F.ucs_BANK_STATUS_STATE
def setUcsState (g st : Nat) (s : State) : State :=
  if s.ucsState g = st then s
  else ((s.wr (ucsPage g) F.ucs_BANK_STATUS_STATE st).wr (ucsPage g) F.ucs_BANK_STATUS_GOLDEN (if st = 1 then 1 else 0)).vector
    (384 + g)
/-- IMAGE shows the two banks' identifiers. -/
def showImage (g : Nat) (s : State) : State :=
  let x := s.store g
  let a := s.activeBank g
  (s.wr (ucsPage g) F.ucs_IMAGE_ACTIVE_ID (x.bank a).id).wr (ucsPage g) F.ucs_IMAGE_IDLE_ID (x.bank (1 - a)).id

/-! ## Patch entries and parity events (R195, R196) -/

/-- The patch entry of a location. -/
def State.patchOf (s : State) (g loc : Nat) : Option Nat :=
  (List.range 16).find? fun k =>
    s.rdi (ucsPage g) F.ucs_PATCH_VALID k == 1 && s.rdi (ucsPage g) F.ucs_PATCH_ADDR k == locAddr loc &&
      s.rdi (ucsPage g) F.ucs_PATCH_BANK k == locBank loc && s.rdi (ucsPage g) F.ucs_PATCH_REGION k == locRegion loc

/-- A location placed in a patch entry filled from a content; cause 5 where none is free, and the location is left as it is. -/
def patch (g loc content : Nat) (s : State) : State :=
  let pg := ucsPage g
  let x := s.store g
  let y := { x with
    faulty := x.faulty.filter fun l => l != loc
    poisoned := x.poisoned.filter fun l => l != loc
    repeats := x.repeats.filter fun l => l != loc }
  match (List.range 16).find? fun k => s.rdi pg F.ucs_PATCH_VALID k == 0 with
  | none => (s.putStore g { y with left_ := loc :: y.left_.filter fun l => l != loc }).raise pg 5
  | some k =>
    let s1 := s.putStore g { y with
      events := y.events.put [] loc ((y.events.val [] loc).take 1)
      patches := y.patches.enter k content }
    ((((s1.wri pg F.ucs_PATCH_ADDR k (locAddr loc)).wri pg F.ucs_PATCH_BANK k (locBank loc)).wri pg F.ucs_PATCH_REGION k
      (locRegion loc)).wri pg F.ucs_PATCH_VALID k 1).bump pg F.ucs_MC_STATUS_PATCHES_USED

/-- R195, R196: a fetch of a location fails parity. One event is counted in each cycle; the third within a second makes
the location a patch entry; one that a full patch table has left is repaired no more. -/
def parityEvent (g loc : Nat) (s : State) : State :=
  let x := s.store g
  let old := (x.events.val [] loc).filter fun t => decide (s.mono < t + ns 1000000000)
  let again := match old with | t :: _ => coreCycle t == coreCycle s.mono | [] => false
  let times := if again then old else s.mono :: old
  let s1 := s.putStore g { x with events := x.events.put [] loc times }
  let y := s1.store g
  if again then s1
  else if times.length ≥ 3 then
    let s2 := s1.raise (ucsPage g) 2
    let z := s2.store g
    if s.golden g then patch g loc ((z.bank (1 - locBank loc)).item (locRegion loc) (locAddr loc)) s2
    else s2.putStore g { z with
      poisoned := loc :: z.poisoned.filter fun l => l != loc
      repeats := loc :: z.repeats.filter fun l => l != loc }
  else if y.left_.contains loc then s1
  else if s.golden g then s1.putStore g { y with faulty := loc :: y.faulty.filter fun l => l != loc }
  else s1.putStore g { y with poisoned := loc :: y.poisoned.filter fun l => l != loc }

/-- What a fetch of a location gives: its content, a machine-check code (0 none), added issue cycles, the state, and the location
that failed. `bad` lists the locations whose fetch fails parity now. -/
structure Fetch where
  item : Nat
  code : Nat
  extra : Nat
  state : State
  loc : Nat := 0

/-- R197: a location fails parity for every engine that fetches it in the CORE cycle of its parity event. -/
def State.failsNow (s : State) (g loc : Nat) : Bool :=
  let x := s.store g
  (match x.events.val [] loc with | t :: _ => coreCycle t == coreCycle s.mono | [] => false) &&
    (x.faulty.contains loc || x.poisoned.contains loc || x.left_.contains loc || (s.patchOf g loc).isSome)

/-- R195 to R197: a fetch. -/
def fetch (g : Nat) (bad : List Nat) (bank region addr : Nat) (s : State) : Fetch :=
  let loc := location addr bank region
  let x := s.store g
  if s.failsNow g loc then ⟨0, 1, 0, s, loc⟩
  else match s.patchOf g loc with
  | some k => ⟨x.patches.val 0 k, 0, 1, s, loc⟩
  | none =>
    if x.poisoned.contains loc then ⟨0, 2, 0, s, loc⟩
    else if x.faulty.contains loc then
      if bad.contains (location addr (1 - bank) region) then
        ⟨0, 2, 0, s.putStore g { x with
          faulty := x.faulty.filter fun l => l != loc
          poisoned := loc :: x.poisoned }, loc⟩
      else ⟨(x.bank (1 - bank)).item region addr, 0, 0, s, loc⟩
    else if bad.contains loc then ⟨0, 1, 0, parityEvent g loc s, loc⟩
    else ⟨(x.bank bank).item region addr, 0, 0, s, loc⟩

/-- R195, R203: a machine check shown in MC_STATUS, its cause, its count. -/
def noteCheck (g code loc kind : Nat) (s : State) : State :=
  let pg := ucsPage g
  let s1 := ((((s.wr pg F.ucs_MC_STATUS_LAST_CODE code).wr pg F.ucs_MC_STATUS_LAST_ADDR (locAddr loc)).wr pg
    F.ucs_MC_STATUS_LAST_BANK (locBank loc)).wr pg F.ucs_MC_STATUS_LAST_KIND kind).bump pg F.ucs_MC_STATUS_MC_COUNT
  (s1.raise pg (match code with | 1 => 0 | 2 => 1 | 3 => 3 | _ => 4)).count 0x0A0A 0

/-! ## The microword (R179) -/

/-- Bits `lo` to `lo + n - 1`. -/
def bits (w lo n : Nat) : Nat := w / 2 ^ lo % 2 ^ n
/-- The dispatch entry's VALID and ADDR (R201). -/
def entryValid (e : Nat) : Bool := e.testBit 15
/-- Bytes of CMP_LEN. -/
def cmpBytes (w : Nat) : Nat := match bits w 42 2 with | 0 => 0 | 1 => 1 | 2 => 2 | _ => 4
def SEQ (w : Nat) : Nat := bits w 12 2
def exaLen (w : Nat) : Nat := bits w 72 4 + 1
def exbLen (w : Nat) : Nat := bits w 104 4 + 1
/-- FIELD_B is used by the cursor's advance (R176). -/
def usesFieldB (w : Nat) : Bool := bits w 40 2 == 1 || bits w 40 2 == 2

/-- What a word runs on: its engine's kind, the header bytes it sees, metadata, cursor, flags, pre-class. -/
structure Seat where
  kind : Nat
  hdr : List Byte
  md : List Byte
  cursor : Nat
  flags : Nat
  pre7 : Bool

/-- Bytes of the header from an offset; those past the end read zero (R176). -/
def Seat.bytes (c : Seat) (off n : Nat) : List Byte := slice c.hdr (c.cursor + off) n
/-- FIELD_B (R179). -/
def Seat.fieldB (c : Seat) (w : Nat) : Nat :=
  beVal (c.bytes (bits w 96 8) 1) / 2 ^ bits w 120 3 % 2 ^ bits w 123 4
/-- The header length that IPv4's IHL gives. -/
def Seat.ihl (c : Seat) : Nat := 4 * (beVal (c.bytes 0 1) % 16)

/-- The runs of header bytes a word reads, as offsets from the cursor and lengths (R176, R183, R188, R191). -/
def Seat.reads (c : Seat) (w : Nat) : List (Nat × Nat) :=
  let ex := c.kind != 2
  (if w.testBit 44 then [(bits w 48 8, 2)] else []) ++ (if cmpBytes w > 0 then [(bits w 56 8, cmpBytes w)] else []) ++
    (if ex && w.testBit 83 then [(bits w 64 8, exaLen w)] else []) ++
    (if ex && w.testBit 115 then [(bits w 96 8, exbLen w)] else []) ++ (if usesFieldB w then [(bits w 96 8, 1)] else []) ++
    (match bits w 224 4 with
     | 11 => if w.testBit 228 then [(7, 1)] else [(8, 4)]
     | 12 => [(0, max 12 c.ihl)]
     | _ => [])
/-- The runs of header bytes an egress word writes (R188, R189, R191). -/
def Seat.writes (c : Seat) (w : Nat) : List (Nat × Nat) :=
  if c.kind != 2 then []
  else (if w.testBit 83 then [(bits w 64 8, exaLen w)] else []) ++
    (if w.testBit 167 && w.testBit 45 then [(bits w 160 7, 1)] else []) ++
    (match bits w 224 4 with | 9 | 10 => [(0, 1)] | _ => [])
/-- R176: a byte outside the header window. -/
def Seat.outside (c : Seat) (w : Nat) : Bool :=
  (c.reads w ++ c.writes w).any fun r => decide (c.cursor + r.1 + r.2 > 512)
/-- R176: a byte beyond the end of the frame. -/
def Seat.short (c : Seat) (w : Nat) : Bool := (c.reads w).any fun r => decide (c.cursor + r.1 + r.2 > c.hdr.length)

/-- R188: the compare field against CMP_IMM. -/
def Seat.compare (c : Seat) (w : Nat) : Ordering :=
  Ord.compare (beVal (c.bytes (bits w 56 8) (cmpBytes w))) (bits w 128 32 % 256 ^ cmpBytes w)
/-- A result word in metadata: EMT, LPA, CLA by RES_SRC. -/
def resultOf (md : List Byte) (src : Nat) : Nat := mdGet md (0x18 + 8 * src) 8
/-- R185: the condition of a BRANCH. -/
def Seat.condition (c : Seat) (w : Nat) : Bool :=
  let cmp := decide (cmpBytes w > 0)
  let r := match bits w 16 4 with
    | 0 => true
    | 1 => cmp && c.compare w == .eq
    | 2 => cmp && c.compare w == .lt
    | 3 => cmp && c.compare w == .gt
    | 4 => (resultOf c.md 0).testBit 32
    | 5 => (resultOf c.md 1).testBit 32
    | 6 => (resultOf c.md 2).testBit 32
    | 7 => bits w 238 2 != 0 && (resultOf c.md (bits w 238 2)).testBit 33
    | 8 => (mdGet c.md 0x0B 1).testBit 0
    | 13 => c.pre7
    | n => if 9 ≤ n ∧ n ≤ 12 then c.flags.testBit (n - 9) else false
  r != w.testBit 20

/-- The segments of a key template (R201): offset and length. -/
def segments (t : Nat) : List (Nat × Nat) :=
  (List.range (min 15 (bits t 8 8))).map fun k => (bits t (16 + 16 * k) 8, bits t (24 + 16 * k) 8)
/-- R205: a key built by a template for a table. -/
def buildKey (t table : Nat) (md : List Byte) : Nat :=
  let bs := (segments t).flatMap fun x => slice md x.1 x.2
  beVal (slice bs 0 (keyBytes table))
/-- The searches a word issues: table and template index. -/
def searchesOf (w : Nat) : List (Nat × Nat) :=
  (if w.testBit 216 then [(1, bits w 192 8)] else []) ++ (if w.testBit 217 then [(2, bits w 200 8)] else []) ++
    (if w.testBit 218 then [(3, bits w 208 8)] else [])

/-- R190: the tables, by number less 1, whose results a word reads: through a condition, a result operation, or bytes
0x18 to 0x2F in a template or an egress extract. -/
def needs (kind w : Nat) (templates : List Nat) : List Nat :=
  let over_ (off n : Nat) : List Nat := (List.range 3).filter fun k => decide (off < 0x20 + 8 * k ∧ 0x18 + 8 * k < off + n)
  (if SEQ w = 2 then match bits w 16 4 with | 4 => [0] | 5 => [1] | 6 => [2] | 7 => [bits w 238 2] | _ => [] else []) ++
    (if bits w 224 4 = 1 ∨ bits w 224 4 = 4 then [bits w 238 2] else []) ++
    (templates.flatMap fun t => (segments t).flatMap fun x => over_ x.1 x.2) ++
    (if kind = 2 ∧ w.testBit 83 then over_ (bits w 76 7) (exaLen w) else [])

/-- R191, R207: a result operation on metadata. -/
def resOpMd (w : Nat) (md : List Byte) : List Byte :=
  let arg := bits w 228 10
  let r := resultOf md (bits w 238 2)
  let ctrl (b : Nat) (m : List Byte) : List Byte := mdPut m 0x42 1 (mdGet md 0x42 1 ||| b)
  match bits w 224 4 with
  | 1 =>
    if r.testBit 32 && r.testBit 10 then
      mdPut (mdPut md 0x32 2 (r % 1024 + 0x8000)) 0x34 1 (mdGet md 0x34 1 / 16 * 16 + bits r 11 4)
    else md
  | 2 => mdPut md 0x32 2 (arg + 0x8000)
  | 3 => mdPut (ctrl 4 md) 0x43 1 arg
  | 4 => if r.testBit 32 then mdPut md 0x35 1 (bits r 15 3) else md
  | 5 => mdPut md 0x35 1 (arg % 8)
  | 6 => mdPut md 0x36 1 (arg % 64 + 128)
  | 7 => mdPut (ctrl 1 md) 0x37 1 arg
  | 8 => ctrl 2 md
  | _ => md

/-- The sum of bytes as 16-bit words, carries folded. -/
def ipSum : List Byte → Nat
  | [] => 0
  | [a] => a.toNat * 256
  | a :: b :: r => a.toNat * 256 + b.toNat + ipSum r
def fold16 (n : Nat) : Nat :=
  let f (x : Nat) : Nat := x % 65536 + x / 65536
  f (f (f n))

/-- R191: a result operation on the outgoing header, at the cursor. -/
def resOpHdr (w cursor : Nat) (h : List Byte) : List Byte :=
  let arg := bits w 228 10
  match bits w 224 4 with
  | 9 => h.take cursor ++ List.replicate arg 0 ++ h.drop cursor
  | 10 => h.take cursor ++ h.drop (cursor + arg)
  | 11 =>
    let at_ := cursor + (if w.testBit 228 then 7 else 8)
    let v := beVal (slice h at_ 1)
    if v = 0 then h
    else
      let h1 := overwrite h at_ (beBytes 1 (v - 1))
      if w.testBit 228 then h1
      else
        let old := beVal (slice h at_ 2)
        let hc := beVal (slice h (cursor + 10) 2)
        overwrite h1 (cursor + 10) (beBytes 2 (65535 - fold16 ((65535 - hc) + (65535 - old) + (old - 256))))
  | 12 =>
    let n := 4 * (beVal (slice h cursor 1) % 16)
    let body := overwrite (slice h cursor n) 10 [0, 0]
    overwrite h (cursor + 10) (beBytes 2 (65535 - fold16 (ipSum body)))
  | _ => h

/-- R189: SET's byte. -/
def setByte (w : Nat) (old : Byte) : Byte :=
  let m := BitVec.ofNat 8 (bits w 176 8)
  (old &&& ~~~m) ||| (BitVec.ofNat 8 (bits w 168 8) &&& m)

/-- An extract's bytes, reversed by SWAP. -/
def swapped (b : Bool) (bs : List Byte) : List Byte := if b then bs.reverse else bs

/-- R186 to R191: metadata and header after a word: every read is of the state before it. -/
def Seat.apply (c : Seat) (w : Nat) : List Byte × List Byte :=
  let m1 := if c.kind != 2 && w.testBit 83 then
    overwrite c.md (bits w 76 7) (swapped (w.testBit 84) (c.bytes (bits w 64 8) (exaLen w))) else c.md
  let m2 := if c.kind != 2 && w.testBit 115 then
    overwrite m1 (bits w 108 7) (swapped (w.testBit 116) (c.bytes (bits w 96 8) (exbLen w))) else m1
  let dst := bits w 160 7
  let m3 := if w.testBit 167 && !(c.kind == 2 && w.testBit 45) then overwrite m2 dst [setByte w (c.md.getD dst 0)] else m2
  let m4 := if c.short w then mdPut m3 0x0B 1 (mdGet m3 0x0B 1 ||| 1) else m3
  let m5 := if c.md = m4 then resOpMd w c.md else
    -- the operation reads what stood before the word, and writes bytes that nothing else of the word writes (R194)
    let r := resOpMd w c.md
    (List.range 128).map fun i => if r.getD i 0 = c.md.getD i 0 then m4.getD i 0 else r.getD i 0
  let h1 := if c.kind == 2 && w.testBit 83 then
    overwrite c.hdr (c.cursor + bits w 64 8) (swapped (w.testBit 84) (slice c.md (bits w 76 7) (exaLen w))) else c.hdr
  let p := c.cursor + dst
  let h2 := if c.kind == 2 && w.testBit 167 && w.testBit 45 then overwrite h1 p [setByte w (c.hdr.getD p 0)] else h1
  (m5, if c.kind == 2 then resOpHdr w c.cursor h2 else h2)

/-- R187: the cursor after a word. -/
def Seat.advance (c : Seat) (w : Nat) : Nat :=
  c.cursor + bits w 32 8 + (match bits w 40 2 with | 1 => 4 * c.fieldB w | 2 => 8 * c.fieldB w | _ => 0)
/-- R186: flags after a word; one named in both ends set. -/
def Seat.newFlags (c : Seat) (w : Nat) : Nat :=
  (c.flags - (c.flags &&& bits w 188 4)) ||| bits w 184 4

/-- A chain of fetches: the first machine check ends it. -/
def Fetch.andThen (x : Fetch) (f : Nat → State → Fetch) : Fetch :=
  if x.code ≠ 0 then x
  else
    let y := f x.item x.state
    { y with extra := x.extra + y.extra }

/-- R183: the type map searched from entry `i` on for a context and key: the header-type code. -/
def typeMapCode (g : Nat) (bad : List Nat) (bank kind ctx key : Nat) : List Nat → State → Fetch
  | [], s => ⟨0xFF, 0, 0, s, 0⟩
  | i :: r, s => (fetch g bad bank 2 (256 * kind + i) s).andThen fun e t =>
      if e.testBit 48 && bits e 32 8 == ctx && ((key ^^^ bits e 0 16) &&& bits e 16 16) == 0 then ⟨bits e 40 8, 0, 0, t, 0⟩
      else typeMapCode g bad bank kind ctx key r t

/-! ## Engines (R173 to R177) -/

/-- The issue-cycle limit of a kind (R175). -/
def State.cycleLimit (s : State) (g kind : Nat) : Nat :=
  max 8 (match kind with
    | 0 => s.rd (ucsPage g) F.ucs_ENGINE_CFG_PARSE_MAX
    | 1 => s.rd (ucsPage g) F.ucs_ENGINE_CFG_IACT_MAX
    | _ => s.rd (ucsPage g) F.ucs_ENGINE_CFG_EACT_MAX)
/-- The engines in use of a kind in a slice; a parser engine from the slot on with which its frame takes it. -/
def State.engines (s : State) (g kind : Nat) : List Nat :=
  if kind = 2 then s.palm.replicas.filterMap fun p => if sliceOf p.2.port = g then p.2.run.map Run.engine else none
  else s.palm.frames.filterMap fun p =>
    if p.2.slice = g ∧ (p.2.stage = .running kind ∨ p.2.stage = .waiting kind) then p.2.run.map Run.engine else none
/-- R174: the engine that a frame takes. -/
def State.freeEngine (s : State) (g kind : Nat) (pre7 : Bool) : Option Nat :=
  let used := s.engines g kind
  let free (l : List Nat) : Option Nat := l.find? fun e => !used.contains e
  let low := List.range 48
  if pre7 then (free ((List.range 16).map (48 + ·))).orElse fun _ => free low else free low
/-- Peaks and TC7 overruns at a program's end (R177, R202). -/
def noteProgram (g kind cycles : Nat) (tc7 : Bool) (spent : Nat) (s : State) : State :=
  let pg := ucsPage g
  let peak (f : Fld) (t : State) : State := if cycles > t.rd pg f then t.wr pg f (sat 8 cycles) else t
  let s1 := match kind with
    | 0 => peak F.ucs_CYCLE_STATS_PARSE_PEAK s
    | 1 => peak F.ucs_CYCLE_STATS_IACT_PEAK s
    | _ => peak F.ucs_CYCLE_STATS_EACT_PEAK s
  let allow := match kind with | 1 => 6 | _ => 2
  if tc7 ∧ spent > allow then (s1.bump pg F.ucs_CYCLE_STATS_TC7_OVERRUNS (spent - allow)).raise pg 8 else s1

/-- R181, R184: HT_LAST, and HT_UNKNOWN after a dispatch to an invalid entry. -/
def endMd (md : List Byte) (ht : Nat) (unknown : Bool) : List Byte :=
  let m := mdPut md 0x15 1 ht
  if unknown then mdPut m 0x0B 1 (mdGet m 0x0B 1 ||| 2) else m

/-- R302: a frame of an enabled FEEDER group goes to the uplink, tagged. -/
def State.feeder (s : State) (f : Frame) : Option Nat :=
  let mg := mdGet f.md 0x36 1
  let pg := 0x100 + mg % 64
  if mg ≥ 128 && s.on pg F.mrg_MRG_STATUS_ENABLED && s.on pg F.mrg_MRG_CFG_ROLE then some pg else none

/-- R24, R192, R325: ingress action has ended: the session decision applies, a drop drops, and the frame goes on, to learn
at once where it has already ended well (R223). -/
def ingressEnds (id : Nat) (s : State) : State :=
  s.onFrame id fun f s =>
    let f0 := { f with run := none, stage := .decided }
    let f1 := if f0.session ≥ 256 then
      { f0 with md := mdPut (mdPut f0.md 0x42 1 (mdGet f0.md 0x42 1 ||| 4)) 0x43 1 (f0.session - 256) } else f0
    let f2 := f1.mark 3 s.now
    if f2.ctrl 2 then dropAtIngress id (mdGet f2.md 0x43 1) (s.putFrame id f2)
    else
      let f3 := { f2 with learnOk := true }
      let s1 := match f3.learn with | some e => if f3.verdict = some 0 then learnEvent e s else s | none => s
      match s1.feeder f3 with
      | some pg =>
        s1.putFrame id { f3 with
          md := mdPut (mdPut f3.md 0x32 2 (s.rd pg F.mrg_MRG_CFG_OUT_PORT + 0x8000)) 0x34 1 (s.rd pg F.mrg_MRG_CFG_OUT_QUEUE)
          stage := .emitted
          addTag := true }
      | none => s1.putFrame id f3

/-- An ingress program ends with its metadata; `late` is what R177 counts for a parser. -/
def programEnds (id kind : Nat) (run : Run) (late : Nat) (s : State) : State :=
  s.onFrame id fun f s =>
    let tc7 := f.pre == 7
    let s1 := noteProgram f.slice kind run.cycles tc7 (if kind = 0 then late else run.cycles) s
    if kind = 0 then
      s1.putFrame id (({ f with
        run := none
        stage := .waiting 1 }.put 0x0E 2 (run.cursor % 512)).mark 2 s.now)
    else if f.session = 1 then s1.putFrame id { f with run := some { run with ended := true } }
    else ingressEnds id s1

/-- An egress program ends: a drop sends nothing of the frame (R192). -/
def egressEnds (id : Nat) (run : Run) (s : State) : State :=
  s.onReplica id fun r f s =>
    let s1 := noteProgram (sliceOf r.port) 2 run.cycles (r.cls == 7) run.cycles s
    if (mdGet r.md 0x42 1).testBit 2 then dropReplica id (mdGet r.md 0x43 1) false (s1.putReplica id { r with run := none })
    else
      let s2 := s1.putReplica id { r with
        run := none
        phase := 2 }
      if s.tracing r then s2.putFrame r.frame (f.mark 6 s.now) else s2

/-- R195: a machine check, after some issue cycles: the program is abandoned and the frame dropped, counted and recorded as one
dropped at ingress whatever kind of engine found the fault (R34). `late` is what R177 counts for a parser. -/
def machineCheck (egress : Bool) (id g code loc kind cycles late : Nat) (s : State) : State :=
  let s1 := noteCheck g code loc kind s
  if egress then s1.onReplica id fun r f s =>
    let t := noteProgram g kind cycles (r.cls == 7) cycles s
    dropReplicaAt true id (0xF0 + code) true (t.putReplica id { r with
      run := none
      md := mdPut (if r.md.isEmpty then f.md else r.md) 0x16 1 code })
  else s1.onFrame id fun f s =>
    let t := noteProgram g kind cycles (f.pre == 7) (if kind = 0 then late else cycles) s
    dropAtIngress id (0xF0 + code) (t.putFrame id { f.put 0x16 1 code with run := none })

/-- The engine's view of a frame, or of a replica. -/
structure Program where
  g : Nat
  bank : Nat
  run : Run
  seat : Seat

/-- A frame that an ingress engine holds. -/
def Frame.seat (f : Frame) (kind : Nat) (r : Run) : Program :=
  ⟨f.slice, f.bank, r, ⟨kind, f.bytes, f.md, r.cursor, r.flags, f.pre == 7⟩⟩
def Replica.seat (x : Replica) (f : Frame) (r : Run) : Program :=
  ⟨sliceOf x.port, f.bank, r, ⟨2, x.outBytes, x.md, r.cursor, r.flags, f.pre == 7⟩⟩

/-- R173, R181, R184: the dispatch by which an engine starts. -/
def startProgram (egress : Bool) (id g kind bank engine : Nat) (code : Nat) (bad : List Nat) (s : State) : State :=
  let x := fetch g bad bank 1 (256 * kind + code) s
  if x.code ≠ 0 then machineCheck egress id g x.code x.loc kind 0 0 x.state
  else
    let run : Run := { engine := engine, pc := x.item % 4096, lastCode := code, cycles := x.extra }
    let s1 := x.state
    if entryValid x.item then
      if egress then s1.onReplica id fun r _ s => s.putReplica id { r with run := some run }
      else s1.onFrame id fun f s => s.putFrame id { f with run := some run, stage := .running kind }
    else if egress then s1.onReplica id fun r _ s => egressEnds id run (s.putReplica id { r with md := endMd r.md code true })
    else s1.onFrame id fun f s => programEnds id kind run 0 (s.putFrame id { f with md := endMd f.md code true })

/-- The waiting line of a kind of engine: those that still wait, with whether each is of pre-class 7. -/
def State.waitLine (s : State) (g kind : Nat) : List (Nat × Bool) :=
  (s.ucs.lines.val [] (3 * g + kind)).filterMap fun id =>
    if kind = 2 then match s.replica? id with
      | some r => if r.phase = 1 ∧ r.run.isNone then (s.frame? r.frame).map fun f => (id, f.pre == 7) else none
      | none => none
    else match s.frame? id with
      | some f => if f.stage = .waiting kind then some (id, f.pre == 7) else none
      | none => none
def State.putWait (s : State) (g kind : Nat) (l : List Nat) : State :=
  { s with ucs := { s.ucs with lines := s.ucs.lines.put [] (3 * g + kind) l } }

/-- R174: a frame takes an engine unless one that waited before it may take it; otherwise it joins the line. -/
def assignEngine (egress : Bool) (id g kind bank : Nat) (pre7 : Bool) (code : Nat) (bad : List Nat) (s : State) : State :=
  let line := s.waitLine g kind
  let before := line.takeWhile fun x => x.1 != id
  let ids := line.map (·.1)
  match s.freeEngine g kind pre7 with
  | some e =>
    if before.any fun x => x.2 || decide (e < 48) then wait ids s
    else startProgram egress id g kind bank e code bad (s.putWait g kind (ids.filter fun x => x != id))
  | none => wait ids s
where
  /-- The line with the frame in it. -/
  wait (ids : List Nat) (s : State) : State :=
    if ids.contains id then s
    else
      let s1 := s.putWait g kind (ids ++ [id])
      if pre7 then s1.bump (ucsPage g) F.ucs_CYCLE_STATS_ENGINE_WAITS else s1

/-- ENGINE_ASSIGN (R174): a frame, or a replica on its way out, reaches a Knuckle stage; `bad` lists the locations whose
fetch fails parity. -/
def execEngineAssign (egress : Bool) (id : Nat) (bad : List Nat) (s : State) : Out :=
  .next (s.running fun s =>
    if egress then s.onReplica id fun r f s =>
      s.given (r.phase == 1 && r.run.isNone) fun s =>
        let s1 := s.putReplica id { r with
          md := f.md
          outBytes := f.bytes.take (f.bytes.length - 4) }
        assignEngine true id (sliceOf r.port) 2 f.bank (f.pre == 7) (mdGet f.md 0x15 1) bad s1
    else s.onFrame id fun f s => match f.stage, f.run with
      | .waiting 0, some r => startProgram false id f.slice 0 f.bank r.engine 0 bad s
      | .waiting k, _ => assignEngine false id f.slice k f.bank (f.pre == 7) (if k = 0 then 0 else mdGet f.md 0x15 1) bad s
      | _, _ => s)

/-! ## Searches and the session engine (R190, R223, R325) -/

/-- R190, R206, R227: one search of a frame: the generation is fixed by its first one, a hit refreshes the EMT entry, and
the learn template's search may call for a learn (R223). -/
def issueSearch (id table tmpl key : Nat) (s : State) : State :=
  s.onFrame id fun f s =>
    let gen := if f.searched then f.gen else s.genNow
    let (word, hit) := s.lookup table f.slice gen key
    let learn := table == 1 && tmpl == s.rd 0x301 F.tbl1_LEARN_CFG_TEMPLATE
    let s1 := s.count (0x0302 + 2 * (table - 1)) f.slice
    let s2 := if hit.isSome then s1.count (0x0303 + 2 * (table - 1)) f.slice else s1
    let s3 := match hit with
      | some i => if table = 1 ∧ (!s.on 0x301 F.tbl1_EMT_CFG_REFRESH ∨ learn) then refreshAge i s2 else s2
      | none => s2
    let new_ := word.testBit 32 == false || (!word.testBit 33 && word % 1024 != f.port)
    let ev := if learn && s.on 0x301 F.tbl1_LEARN_CFG_ENABLE && s.bit 0x303 F.tbl3_LEARN_PORT f.port && new_ then
      some ⟨f.port, f.stamp, key⟩ else f.learn
    s3.putFrame id { f with
      gen := gen
      searched := true
      results := f.results ++ [(table, word)]
      learn := ev }

/-- R325, R326, R349: the frame is handed to the session engine: once, if its SESSION is valid and the engine is enabled. -/
def State.asksSession (s : State) (id : Nat) : Bool :=
  match s.frame? id with
  | some f => f.session == 0 && (mdGet f.md 0x30 2).testBit 15 && s.on 0x240 F.ses0_ENGINE_CFG_ENABLE
  | none => false
/-- R325: what the session engine reads of it. -/
def askSession (id : Nat) (s : State) : State :=
  s.onFrame id fun f s =>
    (s.count 0x0308 f.slice).putFrame id { f with
      session := 1
      ctx := mdGet f.md 0x30 2 % 8192
      sseq := mdGet f.md 0x38 8
      req := mdGet f.md 0x7C 4 }

/-- What a result that has been written is: its bytes and GENERATION (R190, R193). -/
def writeResult (f : Frame) (table word : Nat) : Frame :=
  (f.put (0x10 + 8 * table) 8 word).put 0x10 4 f.gen

/-- SEARCH_RESULT_WRITTEN (R190, R241): the frame's oldest search; an ECC error met by it is corrected (1) or not (2). -/
def execSearchResultWritten (frame : Nat) (ecc : Fin 3) (s : State) : Out :=
  .next (s.running fun s => s.onFrame frame fun f s => match f.results with
    | [] => s
    | (table, word) :: rest =>
      if ecc = 2 then dropAtIngress frame 0xFA ((s.raise 0x300 7).vector 278)
      else
        let s1 := s.putFrame frame (writeResult { f with results := rest } table word)
        if ecc = 1 then (s1.raise 0x300 6).vector 278 else s1)

/-! ## One word (R181 to R191) -/

/-- What a word does next: the address, or the end with HT_LAST and HT_UNKNOWN; and the last dispatched code. -/
inductive After where
  | go (pc last : Nat)
  | done (ht : Nat) (unknown : Bool)

/-- R181: sequencing, given the dispatch entry fetched for a DISPATCH. -/
def Seat.after (c : Seat) (w pc last code entry : Nat) : After :=
  match SEQ w with
  | 0 => .go (bits w 0 12) last
  | 1 => if entryValid entry then .go (entry % 4096) code else .done code true
  | 2 => .go (if c.condition w then bits w 0 12 else (pc + 1) % 4096) last
  | _ => .done (if !w.testBit 44 && bits w 24 8 != 0 then bits w 24 8 else last) false

/-- R190: the cycles for which a word that would issue in a cycle of its program waits for results. -/
def resultStalls (ready : SMap Nat) (at_ : Nat) (tables : List Nat) : Nat :=
  (tables.map fun t => ready.val 0 t - at_).foldl max 0
/-- R325: the cycles by which an END word, in its issue cycles from one on, is longer for the session decision. -/
def decisionStalls (decision : Option Nat) (at_ len : Nat) : Nat :=
  match decision with | some d => d + 1 - (at_ + len) | none => 0

/-- The templates of a word's searches, fetched; a machine check's location with it. -/
def fetchTemplates (g : Nat) (bad : List Nat) (bank : Nat) : List (Nat × Nat) → State → List Nat × Option (Nat × Nat) × Nat × State
  | [], s => ([], none, 0, s)
  | (_, i) :: r, s =>
    let x := fetch g bad bank 3 i s
    if x.code ≠ 0 then ([], some (x.code, x.loc), 0, x.state)
    else
      let (ts, e, n, t) := fetchTemplates g bad bank r x.state
      (x.item :: ts, e, n + x.extra, t)

/-- The word's header-type code and dispatch entry, when it dispatches. -/
def fetchDispatch (g : Nat) (bad : List Nat) (bank : Nat) (c : Seat) (w : Nat) (s : State) : Nat × Fetch :=
  if SEQ w ≠ 1 then (0, ⟨0, 0, 0, s, 0⟩)
  else
    let x := if w.testBit 44 then
      typeMapCode g bad bank c.kind (bits w 24 8) (beVal (c.bytes (bits w 48 8) 2)) (List.range 64) s
      else ⟨bits w 24 8, 0, 0, s, 0⟩
    (x.item, x.andThen fun code t => fetch g bad bank 1 (256 * c.kind + code) t)

/-- R186: the frame or replica after a word: metadata, header, and where the program goes. -/
def wordEnds (egress : Bool) (id : Nat) (p : Program) (w : Nat) (after : After) (run : Run) (late : Nat) (s : State) : State :=
  let (md, hdr) := p.seat.apply w
  let run := { run with
    cursor := p.seat.advance w
    flags := p.seat.newFlags w }
  if egress then s.onReplica id fun r _ s => match after with
    | .go pc last => s.putReplica id { r with
        md := md
        outBytes := hdr
        run := some { run with pc := pc, lastCode := last } }
    | .done ht unknown => egressEnds id run (s.putReplica id { r with
        md := endMd md ht unknown
        outBytes := hdr })
  else s.onFrame id fun f s => match after with
    | .go pc last => s.putFrame id { f with
        md := md
        run := some { run with pc := pc, lastCode := last } }
    | .done ht unknown => programEnds id p.seat.kind run late (s.putFrame id { f with md := endMd md ht unknown })

/-- The word ends its program (R181, R184). -/
def After.ends : After → Bool
  | .done _ _ => true
  | .go _ _ => false

/-- The word that was fetched issues, after it has waited for the frame's bytes and for results: its window, its fetches, its
searches, its cycles, its writes (R175, R176, R190, R325). A cycle of the program is an issue cycle or one waited for bytes. -/
def issueWord (egress : Bool) (id : Nat) (p : Program) (w extra : Nat) (bad : List Nat) (wait late : Nat) (pending : List Nat)
    (s : State) : State :=
  let loc := location p.run.pc p.bank 0
  let limit := s.cycleLimit p.g p.seat.kind
  let fail (code l cycles : Nat) (t : State) : State := machineCheck egress id p.g code l p.seat.kind cycles late t
  if p.run.cycles + 1 > limit then fail 3 loc limit s
  else if p.seat.outside w then fail 4 loc p.run.cycles s
  else
    let go := if p.seat.kind = 1 then searchesOf w else []
    let (ts, bad1, n1, s1) := fetchTemplates p.g bad p.bank go s
    match bad1 with
    | some (code, l) => fail code l p.run.cycles s1
    | none =>
      let reads := needs p.seat.kind w ts
      if reads.any pending.contains then s
      else
        let stalls := resultStalls p.run.ready (p.run.cycles + p.run.waited + wait) reads
        let at_ := p.run.cycles + p.run.waited + wait + stalls
        if p.run.cycles + stalls + 1 > limit then fail 3 loc limit s1
        else
          let (code, x) := fetchDispatch p.g bad p.bank p.seat w s1
          if x.code ≠ 0 then fail x.code x.loc (p.run.cycles + stalls) x.state
          else
            let s2 := (go.zip ts).foldl (fun t y => issueSearch id y.1.1 y.1.2 (buildKey y.2 y.1.1 p.seat.md) t) x.state
            let asks := p.seat.kind = 1 ∧ w.testBit 219 ∧ s2.asksSession id
            let s3 := if asks then askSession id s2 else s2
            let decision := if asks then some (at_ + 3) else p.run.decision
            let after := p.seat.after w p.run.pc p.run.lastCode code x.item
            let len := bits w 14 2 + 1 + extra + n1 + x.extra
            let more := if after.ends then decisionStalls decision at_ len else 0
            let cycles := p.run.cycles + stalls + len + more
            if cycles > limit then fail 3 loc limit s3
            else wordEnds egress id p w after { p.run with
              cycles := cycles
              waited := p.run.waited + wait
              ready := go.foldl (fun m y => m.put 0 (y.1 - 1) (at_ + 3)) p.run.ready
              decision := decision } late s3

/-- A word of an engine's program. -/
def runWord (egress : Bool) (id : Nat) (p : Program) (bad : List Nat) (wait late : Nat) (pending : List Nat) (s : State) : State :=
  if p.run.ended then s
  else
    let x := fetch p.g bad p.bank 0 p.run.pc s
    if x.code ≠ 0 then machineCheck egress id p.g x.code x.loc p.seat.kind p.run.cycles late x.state
    else issueWord egress id p x.item x.extra bad wait late pending x.state

/-- R186: the next word of a frame's or replica's program. `bad` lists the locations whose fetch fails parity; `wait` is how
many cycles it waits for bytes of the frame (R176); `late` the cycles that R177 counts when a parser ends. -/
def issueMicroword (egress : Bool) (id : Nat) (bad : List Nat) (wait late : Nat) (s : State) : State :=
  s.running fun s =>
    if egress then s.onReplica id fun r f s => match r.run with
      | some run => runWord true id (r.seat f run) bad wait late (f.results.map fun x => x.1 - 1) s
      | none => s
    else s.onFrame id fun f s => match f.stage, f.run with
      | .running k, some run => runWord false id (f.seat k run) bad wait late (f.results.map fun x => x.1 - 1) s
      | _, _ => s

/-! ## Repairs (R195 to R197) -/

/-- GOLDEN_REPAIR (R195, R197): a faulty location is rewritten from the idle bank, or POISONED when that read fails. -/
def execGoldenRepair (slice : Fin 32) (loc : Fin 32768) (ok : Bool) (s : State) : Out :=
  .next (s.running fun s =>
    let x := s.store slice.val
    s.given (x.faulty.contains loc.val) fun s =>
      let y := { x with faulty := x.faulty.filter fun l => l != loc.val }
      s.putStore slice.val (if ok then y else { y with poisoned := loc.val :: y.poisoned }))

/-- POISON_REWRITE (R195, R196): Crown rewrites a POISONED location from the image in DDR5. -/
def execPoisonRewrite (slice : Fin 32) (loc : Fin 32768) (s : State) : Out :=
  .next (s.running fun s =>
    let g := slice.val
    let x := s.store g
    s.given (x.poisoned.contains loc.val) fun s =>
      if x.repeats.contains loc.val then patch g loc.val ((x.bank (locBank loc.val)).item (locRegion loc.val) (locAddr loc.val)) s
      else s.putStore g { x with poisoned := x.poisoned.filter fun l => l != loc.val })

/-! ## Microcode sections (R194, R201) -/

/-- A section's body by its parts. -/
structure Knuc where
  bytes : List Byte
  words : List Nat
  dispatch : List Nat
  typeMap : List Nat
  templates : List Nat

/-- Little-endian items of `n` bytes from an offset. -/
def items (bs : List Byte) (off n count : Nat) : List Nat :=
  (List.range count).map fun i => leVal (slice bs (off + n * i) n)
def knucWords (bs : List Byte) : Nat := leVal (slice bs 0x10 2)
def knucTemplates (bs : List Byte) : Nat := leVal (slice bs 0x12 2)
/-- R201: the layout read. -/
def readKnuc (bs : List Byte) : Knuc :=
  let tc := knucTemplates bs
  ⟨bs, items bs (0xC20 + 32 * tc) 32 (knucWords bs), items bs 0x20 2 768, items bs 0x620 8 192, items bs 0xC20 32 tc⟩

/-- The first item of a list that fails a test, as a finding. -/
def firstBad (code : Nat) (l : List Nat) (p : Nat → Nat → Bool) : Option (Nat × Nat) :=
  (l.zipIdx.find? fun x => p x.2 x.1).map fun x => (code, x.2)

/-- R179, R191: a reserved bit or code in a word. -/
def reservedWord (w : Nat) : Bool :=
  bits w 21 3 != 0 || bits w 46 2 != 0 || bits w 85 11 != 0 || bits w 117 3 != 0 || bits w 127 1 != 0 || bits w 220 4 != 0 ||
    bits w 240 16 != 0 || bits w 40 2 == 3 || decide (bits w 16 4 ≥ 14) || decide (bits w 224 4 ≥ 13) || bits w 238 2 == 3 ||
    decide (bits w 123 4 > 8) ||
    ((bits w 224 4 == 9 || bits w 224 4 == 10) && (bits w 228 10 == 0 || decide (bits w 228 10 > 64)))
/-- R186: the least length of a word, in cycles. -/
def minCycles (w : Nat) : Nat :=
  1 + (if w.testBit 83 && w.testBit 115 && decide (exaLen w + exbLen w > 16) then 1 else 0) +
    (if w.testBit 218 then 1 else 0) + (if bits w 224 4 = 9 ∨ bits w 224 4 = 10 then 1 else 0)
/-- R194: an address or template index at or beyond its count. -/
def badAddress (wc tc a w : Nat) : Bool :=
  ((SEQ w == 0 || SEQ w == 2) && decide (bits w 0 12 ≥ wc)) || (SEQ w == 2 && decide (a + 1 ≥ wc)) ||
    (searchesOf w).any fun x => decide (x.2 ≥ tc)
/-- Bytes that microcode may write (R193). -/
def writable (i : Nat) : Bool := decide (0x30 ≤ i ∧ i ≤ 0x43 ∨ 0x50 ≤ i ∧ i ≤ 0x7F)
/-- The metadata bytes a word writes for a kind, by extracts A and B, SET and RES_OP (R191). -/
def mdWrites (kind w : Nat) : List (List Nat) :=
  let run (dst n : Nat) : List Nat := (List.range n).map (dst + ·)
  [if kind != 2 && w.testBit 83 then run (bits w 76 7) (exaLen w) else [],
   if kind != 2 && w.testBit 115 then run (bits w 108 7) (exbLen w) else [],
   if w.testBit 167 && !(kind == 2 && w.testBit 45) then [bits w 160 7] else [],
   match bits w 224 4 with
   | 1 => [0x32, 0x33, 0x34] | 2 => [0x32, 0x33] | 3 => [0x42, 0x43] | 4 | 5 => [0x35] | 6 => [0x36]
   | 7 => [0x37, 0x42] | 8 => [0x42] | _ => []]
/-- The header bytes an egress word writes, from the cursor. -/
def hdrWrites (w : Nat) : List (List Nat) :=
  [if w.testBit 83 then (List.range (exaLen w)).map (bits w 64 8 + ·) else [],
   if w.testBit 167 && w.testBit 45 then [bits w 160 7] else [],
   match bits w 224 4 with | 11 => if w.testBit 228 then [7] else [8, 10, 11] | 12 => [10, 11] | _ => []]
/-- Two of the lists share a byte. -/
def overlap : List (List Nat) → Bool
  | [] => false
  | x :: r => r.any (fun y => x.any y.contains) || overlap r
/-- R194: a field, condition or operation that is invalid for a kind. -/
def badKind (kind w : Nat) : Bool :=
  let op := bits w 224 4
  let cond := bits w 16 4
  let ops := match kind with | 0 => [0, 3, 5, 8] | 1 => [0, 1, 2, 3, 4, 5, 6, 7, 8] | _ => [0, 3, 9, 10, 11, 12]
  !ops.contains op || (kind != 1 && (bits w 216 4 != 0 || (SEQ w == 2 && decide (4 ≤ cond ∧ cond ≤ 7)))) ||
    (kind != 2 && w.testBit 45)
/-- R194: the words that a kind reaches: `n` bounds the walk. -/
def reach (words : List Nat) : Nat → List Nat → List Nat → List Nat
  | 0, _, seen => seen
  | n + 1, todo, seen => match todo with
    | [] => seen
    | a :: r =>
      if seen.contains a then reach words n r seen
      else
        let w := words.getD a 0
        let next := match SEQ w with | 0 => [bits w 0 12] | 2 => [bits w 0 12, a + 1] | _ => []
        reach words n (next ++ r) (a :: seen)
/-- The words that a kind's dispatch table reaches. -/
def Knuc.reached (k : Knuc) (kind : Nat) : List Nat :=
  let roots := ((k.dispatch.drop (256 * kind)).take 256).filterMap fun e => if entryValid e then some (e % 4096) else none
  reach k.words (3 * k.words.length + 257) roots []

/-- R194: the first check that a section fails, with the index of what fails it. -/
def checkSection (x : Section) (bs : List Byte) : Option (Nat × Nat) :=
  let k := readKnuc bs
  let wc := knucWords bs
  let tc := knucTemplates bs
  let body := 0xC20 + 32 * tc + 32 * wc
  let kinds := List.range 3
  let reached := kinds.map k.reached
  let perKind (code : Nat) (p : Nat → Nat → Bool) : Option (Nat × Nat) :=
    firstBad code k.words fun a w => kinds.any fun j => (reached.getD j []).contains a && p j w
  if !x.intact then some (1, 0)
  else if slice bs 0 4 ≠ [0x4B, 0x4E, 0x55, 0x43] ∨ leVal (slice bs 4 2) ≠ 1 ∨ leVal (slice bs 6 2) ≠ 1 ∨ wc = 0 ∨ wc > 4096 ∨
      tc > 256 ∨ bs.length ≠ body + 4 then some (2, 0)
  else if crc32c (bs.take 0x1C) ≠ leVal (slice bs 0x1C 4) ∨
      crc32c ((bs.take body).drop 0x20) ≠ leVal (slice bs body 4) then some (3, 0)
  else if leVal (slice bs 0x14 4) > 0xA0 then some (4, 0)
  else
    (firstBad 5 k.words fun _ w => reservedWord w).orElse fun _ =>
    (firstBad 5 k.dispatch fun _ e => bits e 12 3 != 0).orElse fun _ =>
    (firstBad 5 k.typeMap fun _ e => bits e 49 15 != 0).orElse fun _ =>
    (firstBad 5 k.templates fun _ t =>
      bits t 0 8 == 0 || decide (bits t 0 8 > 3) || bits t 8 8 == 0 || decide (bits t 8 8 > 15)).orElse fun _ =>
    (firstBad 6 k.words fun _ w => decide (bits w 14 2 + 1 < minCycles w)).orElse fun _ =>
    (firstBad 7 k.words fun a w => badAddress wc tc a w).orElse fun _ =>
    (firstBad 7 k.dispatch fun _ e => entryValid e && decide (e % 4096 ≥ wc)).orElse fun _ =>
    (perKind 8 fun j w => ((mdWrites j w).take 3).any fun l => l.any fun i => !writable i).orElse fun _ =>
    (perKind 9 badKind).orElse fun _ =>
    (firstBad 10 k.templates fun _ t => (segments t).any (fun y => decide (y.1 + y.2 > 128)) ||
      decide (((segments t).map (·.2)).sum > keyBytes (bits t 0 8))).orElse fun _ =>
    perKind 12 fun j w => overlap (mdWrites j w) || (j == 2 && overlap (hdrWrites w))

/-- A list of items as a sparse map. -/
def mapOf (l : List Nat) (index : Nat → Nat) : SMap Nat :=
  l.zipIdx.foldl (fun m x => m.put 0 (index x.2) x.1) []
/-- R201: the image of a section. -/
def imageOf (bs : List Byte) : Image :=
  let k := readKnuc bs
  { words := mapOf k.words id, dispatch := mapOf k.dispatch id, typeMap := mapOf k.typeMap fun i => i / 64 * 256 + i % 64
    templates := mapOf k.templates id, id := leVal (slice bs 8 4), digest := sha384 bs }

/-- R196: an image written into a bank: its word goes into every patch entry of the bank, and nothing of the bank is
faulty any more; what the other bank has still to repair has lost its golden copy. -/
def writeBank (g b : Nat) (i : Image) (s : State) : State :=
  let pg := ucsPage g
  let x := s.store g
  let keep (l : List Nat) : List Nat := l.filter fun y => locBank y != b
  let unrepaired := x.faulty.filter fun y => locBank y != b
  let patches := (List.range 16).foldl (fun m k =>
    if s.rdi pg F.ucs_PATCH_VALID k = 1 ∧ s.rdi pg F.ucs_PATCH_BANK k = b then
      m.enter k (i.item (s.rdi pg F.ucs_PATCH_REGION k) (s.rdi pg F.ucs_PATCH_ADDR k))
    else m) x.patches
  showImage g (s.putStore g ({ x with
    faulty := []
    poisoned := keep x.poisoned ++ unrepaired
    left_ := keep x.left_
    repeats := keep x.repeats
    patches := patches }.setBank b i))

/-! ## Banks (R198 to R200) -/

/-- Frames of a slice in the device whose BANK is not the active bank (R202). -/
def State.oldBankFrames (s : State) (g : Nat) : Nat :=
  (s.palm.frames.filter fun p => p.2.slice == g && p.2.stage != .fifo && p.2.bank != s.activeBank g).length

/-- R199, R550: the bank switch of an armed slice; the MRAM image store takes the image now in force. -/
def switchBank (g : Nat) (s0 : State) : State :=
  let x := s0.store g
  let s := { s0 with ucs := { s0.ucs with kept := s0.ucs.kept.enter g (x.bank (1 - s0.activeBank g)) } }
  let s1 := (s.wr (ucsPage g) F.ucs_BANK_STATUS_ACTIVE_BANK (1 - s.activeBank g)).wr (ucsPage g) F.ucs_BANK_CTRL_ARM 0
  setUcsState g 4 (showImage g (s1.putStore g { x with
    since := s.mono
    slow := false }))
/-- The slices that are armed. -/
def State.armed (s : State) : List Nat := (List.range 32).filter fun g => s.on (ucsPage g) F.ucs_BANK_CTRL_ARM

/-- R200: a write of 1 to ARM. -/
def arm (g : Nat) (s : State) : State :=
  if s.ucsState g = 3 then s.wr (ucsPage g) F.ucs_BANK_CTRL_ARM 1 else s.set1 (ucsPage g) F.ucs_BANK_STATUS_ARMED_REFUSED
/-- ARM (R200). -/
def execArm (slice : Fin 32) (s : State) : Out := .next (s.written (ucsPage slice.val) fun s => arm slice.val s)

/-- R237: an epoch takes effect in this cycle, or as soon as it may. -/
def State.epochDue (s : State) : Bool := s.rd 0x300 F.tbl0_EPOCH_STATUS_STATE == 3 && decide (s.tbl.epoch.effect ≤ s.now)
/-- R200, R202: a write of ABORT; one in the very cycle of a switch is refused. -/
def bankAbort (g : Nat) (s : State) : State :=
  if s.ucsState g = 3 ∧ s.epochDue ∧ s.on (ucsPage g) F.ucs_BANK_CTRL_ARM then s.set1 (ucsPage g) F.ucs_BANK_STATUS_ABORT_REFUSED
  else if s.ucsState g = 3 then setUcsState g 5 s
  else if s.ucsState g = 4 ∧ coreCycle (s.store g).since = coreCycle s.mono then
    s.set1 (ucsPage g) F.ucs_BANK_STATUS_ABORT_REFUSED
  else s
/-- BANK_ABORT (R202). -/
def execBankAbort (slice : Fin 32) (s : State) : Out := .next (s.written (ucsPage slice.val) fun s => bankAbort slice.val s)

/-- R202: CYCLE_STATS and MC_COUNT zeroed. -/
def clearStats (g : Nat) (s : State) : State :=
  [F.ucs_CYCLE_STATS_PARSE_PEAK, F.ucs_CYCLE_STATS_IACT_PEAK, F.ucs_CYCLE_STATS_EACT_PEAK, F.ucs_CYCLE_STATS_TC7_OVERRUNS,
    F.ucs_CYCLE_STATS_ENGINE_WAITS, F.ucs_MC_STATUS_MC_COUNT].foldl (fun t f => t.wr (ucsPage g) f 0) s
/-- CLEAR_STATS (R202). -/
def execClearStats (slice : Fin 32) (s : State) : Out := .next (s.written (ucsPage slice.val) fun s => clearStats slice.val s)

/-- R180: the parity bit of a 32-bit group makes the ones odd. -/
def oddParity (w : Nat) : Nat := (((List.range 32).filter w.testBit).length + 1) % 2
/-- R202: CS_SEL written, and the selected item shown; a location that has failed parity holds an unknown item. -/
def selectItem (g addr bank region : Nat) (s : State) : State :=
  let pg := ucsPage g
  let s1 := ((s.wr pg F.ucs_CS_SEL_ADDR addr).wr pg F.ucs_CS_SEL_BANK bank).wr pg F.ucs_CS_SEL_REGION region
  let x := s.store g
  let loc := location addr bank region
  let broken := x.faulty.contains loc || x.poisoned.contains loc
  let v := if broken then Config.faultyItem loc s.free else (x.bank bank).item region addr
  let groups := match region with | 1 => 1 | 2 => 2 | _ => 8
  let par := ((List.range groups).map fun k => oddParity (bits v (32 * k) 32) * 2 ^ k).sum
  let s2 := (List.range 4).foldl (fun t k => t.wri pg F.ucs_CS_DATA k (bits v (64 * k) 64)) s1
  let s3 := s2.wr pg F.ucs_CS_PARITY (if broken then Config.faultyItem (loc + 32768) s.free else par)
  if broken then { s3 with free := s3.free + 1 } else s3
/-- CS_SEL_WRITE (R202). -/
def execCsSelWrite (slice : Fin 32) (addr : Fin 4096) (bank : Fin 2) (region : Fin 4) (s : State) : Out :=
  .next (s.written (ucsPage slice.val) fun s => selectItem slice.val addr.val bank.val region.val s)

/-- R498, R202: Crown starts a load for a slice. -/
def startLoad (g : Nat) (x : Section) (s : State) : State :=
  setUcsState g 2 (s.putStore g { s.store g with loading := some x })

/-- R194, R198: a section is checked and written into the idle bank, and read back; one that is rejected leaves both banks as
they were. -/
def stageBank (g : Nat) (readback : Bool) (s : State) : State :=
  let pg := ucsPage g
  match (s.store g).loading with
  | none => s
  | some x =>
    let bs := s.ddrRead x.address x.length
    let s0 := s.putStore g { s.store g with loading := none }
    let failed (code a : Nat) (t : State) : State :=
      setUcsState g 5 (((t.wr pg F.ucs_BANK_STATUS_VERIFY_ERR code).wr pg F.ucs_BANK_STATUS_VERIFY_ADDR a).raise pg 7)
    match checkSection x bs with
    | some (code, a) => failed code a s0
    | none =>
      if readback then setUcsState g 3 (writeBank g (1 - s.activeBank g) (imageOf bs) s0) else failed 11 0 s0

/-- DRAIN_COMPLETE (R198): no frame of the old bank remains. -/
def execDrainComplete (slice : Fin 32) (s : State) : Out :=
  .next (s.running fun s =>
    s.given (s.ucsState slice.val == 4 && s.oldBankFrames slice.val == 0) (setUcsState slice.val 5))

/-- DRAIN_SLOW (R200): 100 ms in DRAINING. -/
def execDrainSlow (slice : Fin 32) (s : State) : Out :=
  .next (s.running fun s =>
    let x := s.store slice.val
    s.given (s.ucsState slice.val == 4 && !x.slow && decide (s.mono ≥ x.since + ns 100000000)) fun s =>
      (s.putStore slice.val { x with slow := true }).raise (ucsPage slice.val) 6)

/-- RESYNC_COMPLETE (R198): the idle bank holds the active image. -/
def execResyncComplete (slice : Fin 32) (s : State) : Out :=
  .next (s.running fun s =>
    let g := slice.val
    s.given (s.ucsState g == 5) fun s =>
      setUcsState g 1 (writeBank g (1 - s.activeBank g) ((s.store g).bank (s.activeBank g)) s))

end Sys2Proof.Machine
end

