-- ==== Sys2Proof/Machine/Forward.lean ====
section
/-! DEFINITION. The path of a frame outside its engines (R24): reception and ingress slots, queue assignment and
cut-through, the tail's verdict, the scheduler, transmission. -/

namespace Sys2Proof.Machine

/-! ## The groups' lists -/

def State.merge (s : State) (g : Nat) : MergeGroup := s.timing.merges.val {} g
def State.putMerge (s : State) (g : Nat) (x : MergeGroup) : State :=
  { s with timing := { s.timing with merges := s.timing.merges.put {} g x } }
def State.rel (s : State) (g : Nat) : RelGroup := s.timing.releases.val {} g
def State.putRel (s : State) (g : Nat) (x : RelGroup) : State :=
  { s with timing := { s.timing with releases := s.timing.releases.put {} g x } }
/-- The MRG and REL pages. -/
def mrgPage (g : Nat) : Nat := 0x100 + g
def relPage (g : Nat) : Nat := 0x140 + g
/-- The member ports of a release group (R307). -/
def State.relMember (s : State) (g p : Nat) : Bool := s.bit (relPage g) F.rel_MEMBERS p
/-- R313: a release window that is open on a port: the earliest instant of its batches. -/
def State.windowOn (s : State) (p : Nat) : Option T80 :=
  s.timing.releases.foldl (fun best x =>
    if s.relMember x.1 p then
      x.2.batches.foldl (fun best b =>
        if b.open_ then match best with | some t => some (min t b.at_) | none => some b.at_ else best) best
    else best) none

/-- Cells of the merge store in use, and its entries (R299). -/
def State.storeCells (s : State) : Nat := (s.timing.merges.map fun p => (p.2.held.map HeldFrame.cells).sum).sum
def State.storeEntries (s : State) : Nat := (s.timing.merges.map fun p => p.2.held.length).sum
/-- R320: HELD of a group, and STORE_STATUS on every MRG page. -/
def refreshStore (g : Nat) (s : State) : State :=
  let s1 := s.wr (mrgPage g) F.mrg_MRG_STATUS_HELD (sat 16 (s.merge g).held.length)
  (List.range 64).foldl (fun t k => (t.wr (mrgPage k) F.mrg_STORE_STATUS_CELLS_USED s.storeCells).wr (mrgPage k)
    F.mrg_STORE_STATUS_ENTRIES_USED s.storeEntries) s1
/-- A frame taken out of the merge store. -/
def forgetHeld (id : Nat) (s : State) : State :=
  match s.timing.merges.find? fun p => p.2.held.any fun h => h.frame == id with
  | some (g, m) => refreshStore g (s.putMerge g { m with held := m.held.filter fun h => h.frame != id })
  | none => s

/-! ## Bytes of the headers -/

/-- The offset of the EtherType behind at most two 802.1Q or 802.1ad tags. -/
def typeOffset (bs : List Byte) : Nat :=
  let tag (o : Nat) : Bool := beVal (slice bs o 2) == 0x8100 || beVal (slice bs o 2) == 0x88A8
  if tag 12 then (if tag 16 then 20 else 16) else 12

/-- R301: bytes 12 and 13 equal ETHERTYPE on a frame from a Denoon port. -/
def State.recognises (s : State) (port : Nat) (bs : List Byte) : Bool :=
  s.rd (prt port) F.prt_LINK_STATUS_PARTNER == 2 && beVal (slice bs 12 2) == s.rd 0x55 F.hbd5_GROUP_CFG_ETHERTYPE

/-- R21, R159: the pre-class of a frame. -/
def State.preClass (s : State) (port : Nat) (tagged : Bool) (bs : List Byte) : Nat :=
  let o := if tagged then 28 else 12
  let t := beVal (slice bs o 2)
  if t = 0x8100 ∨ t = 0x88A8 then s.classOfPriority port (beVal (slice bs (o + 2) 1) / 32)
  else s.rd (prt port) F.prt_PCP_MAP_DEFAULT_TC

/-- The one's-complement sum of bytes as 16-bit words. -/
def onesSum : List Byte → Nat
  | [] => 0
  | [a] => a.toNat * 256
  | a :: b :: r => a.toNat * 256 + b.toNat + onesSum r
/-- Carries folded back in. -/
def foldCarry (n : Nat) : Nat :=
  let f (x : Nat) : Nat := x % 65536 + x / 65536
  f (f (f n))

/-- R265: CE put into a frame's IP header; none where the header lies elsewhere. The flag tells whether the field
changed. -/
def markCe (bs : List Byte) : Option (List Byte × Bool) :=
  let o := typeOffset bs
  let t := beVal (slice bs o 2)
  let ip := o + 2
  let b1 := beVal (slice bs (ip + 1) 1)
  if t = 0x0800 then
    if b1 % 4 = 1 ∨ b1 % 4 = 2 then
      let old := beVal (slice bs ip 2)
      let new_ := old - b1 % 4 + 3
      let hc := beVal (slice bs (ip + 10) 2)
      let hc1 := 65535 - foldCarry ((65535 - hc) + (65535 - old) + new_)
      some (overwrite (overwrite bs ip (beBytes 2 new_)) (ip + 10) (beBytes 2 hc1), true)
    else some (bs, false)
  else if t = 0x86DD then
    if b1 / 16 % 4 = 1 ∨ b1 / 16 % 4 = 2 then
      some (overwrite bs (ip + 1) (leBytes 1 (b1 - b1 / 16 % 4 * 16 + 48)), true)
    else some (bs, false)
  else none

/-- R300: the tag of a frame stamped here. -/
def State.denoonTag (s : State) (f : Frame) : List Byte :=
  let mg := mdGet f.md 0x36 1
  beBytes 2 (s.rd 0x55 F.hbd5_GROUP_CFG_ETHERTYPE) ++ beBytes 8 (f.stamp / nsUnits) ++ beBytes 2 (f.stamp % nsUnits) ++
    beBytes 2 (f.tq * 4096 + s.rd 0x55 F.hbd5_GROUP_CFG_CHIP_ID) ++
    beBytes 2 ((if mg ≥ 128 then mg % 64 else 0) * 1024 + f.port)

/-- R301: the tag inserted, kept or stripped; and by how many bytes what follows it has moved. A replica held for a release
takes none: the copies forwarded do (R315). -/
def State.shapeTag (s : State) (f : Frame) (r : Replica) (bs : List Byte) : List Byte × Int :=
  let denoon := s.rd (prt r.port) F.prt_LINK_STATUS_PARTNER == 2
  if f.tagged then (if denoon then (bs, 0) else (bs.take 12 ++ bs.drop 28, -16))
  else if f.addTag && denoon && r.releaseOf == 0 then (bs.take 12 ++ s.denoonTag f ++ bs.drop 12, 16)
  else (bs, 0)

/-- The UDP checksum of a frame recomputed (R115), behind a Denoon tag of `tag` bytes if it carries one; other frames
unchanged. -/
def udpChecksum (tag : Nat) (bs : List Byte) : List Byte :=
  let o := typeOffset (bs.take 12 ++ bs.drop (12 + tag)) + tag
  let t := beVal (slice bs o 2)
  let ip := o + 2
  let done (udp : Nat) (pseudo : List Byte) : List Byte :=
    let len := beVal (slice bs (udp + 4) 2)
    let body := overwrite (slice bs udp len) 6 [0, 0]
    let c := 65535 - foldCarry (onesSum pseudo + 17 + len + onesSum body)
    overwrite bs (udp + 6) (beBytes 2 (if c = 0 then 65535 else c))
  if t = 0x0800 ∧ beVal (slice bs (ip + 9) 1) = 17 then
    done (ip + 4 * (beVal (slice bs ip 1) % 16)) (slice bs (ip + 12) 8)
  else if t = 0x86DD ∧ beVal (slice bs (ip + 6) 1) = 17 then done (ip + 40) (slice bs (ip + 8) 32)
  else bs

/-- R115: the egress stamp inserted into a one-step event message whose header starts at `off`: into originTimestamp and
correctionField; a Pdelay_Resp has no place for it but correctionField, to which the whole stamp is added, modulo 2^64, so that
one that came in with minus the request's arrival leaves with the turnaround time (DEDUCED, log entry 174). -/
def insertStamp (bs : List Byte) (tag off : Nat) (t : T80) : List Byte :=
  let n := t / nsUnits
  let corr := beVal (slice bs (off + 8) 8)
  udpChecksum tag (if beVal (slice bs off 1) % 16 = 3 then overwrite bs (off + 8) (beBytes 8 (corr + t))
    else overwrite (overwrite bs (off + 34) (beBytes 6 (n / 1000000000) ++ beBytes 4 (n % 1000000000))) (off + 8)
      (beBytes 8 (corr + t % nsUnits)))

/-- A one-step event message: an event message whose twoStepFlag is 0. -/
def oneStep (bs : List Byte) (off : Nat) : Bool :=
  decide (beVal (slice bs off 1) % 16 < 4) && !(beVal (slice bs (off + 6) 1)).testBit 1

/-! ## Reception -/

/-- R112, R193: a received frame with what the Cuff writes into its metadata. -/
def State.newFrame (s : State) (port : Nat) (bytes : List Byte) (stamp : T80) (tq : Nat) : Frame :=
  let tagged := s.recognises port bytes
  let md := leBytes 8 (stamp / nsUnits) ++ leBytes 2 (stamp % nsUnits) ++ leBytes 1 tq ++ leBytes 1 0 ++ leBytes 2 port ++
    leBytes 6 0 ++ leBytes 1 (s.preClass port tagged bytes) ++ leBytes 107 0
  { port := port, bytes := bytes, md := md, tagged := tagged, flags := if tagged then 1024 else 0 }

/-- R425: a slice whose wake has failed: its ports drop frames as SLOT_OVERRUN. -/
def State.sliceLost (s : State) (g : Nat) : Bool := (s.mtn.doms.val {} g).failed != 0

/-- R24 step 1: decoded, stamped, and put into the ingress FIFO, or dropped where that is full (R21). MAC Control frames
stay outside (R136). -/
def receiveFrame (port : Nat) (tap : RxTap) (bytes : List Byte) (fifoFull : Bool) (s : State) : State :=
  let (stamp, tq, s1) := ingressStamp tap s
  if beVal (slice bytes 12 2) = 0x8808 then
    (if beVal (slice bytes 14 2) = 0x0101 then s1 else (s1.count 0x010D port).raise (prt port) 7)
  else
    let id := s1.palm.nextFrame
    let s2 := { s1 with palm := { s1.palm with nextFrame := id + 1 } }.putFrame id (s1.newFrame port bytes stamp tq)
    if fifoFull || s1.sliceLost (sliceOf port) then dropAtIngress id 0xF8 (s2.count 0x0107 port) else s2

/-- FRAME_RECEIVE (R24): a frame of these bytes, FCS included, on a port that is up; `fifoFull` when its Cuff's FIFO has
no room. In the safe state the Cuff discards it, and RX_DROPS counts it (R465). -/
def execFrameReceive (port : Fin 1024) (tap : RxTap) (bytes : List Byte) (fifoFull : Bool) (s : State) : Out :=
  .next (s.given (s.configured port.val && s.up port.val) fun s =>
    if s.isSafe then s.count 0x0108 port.val else s.running (receiveFrame port.val tap bytes fifoFull))

/-! ## Ingress slots (R21, R199, R399) -/

/-- One step of a trace LFSR (R399). -/
def lfsrStep (v : Nat) : Nat := if v % 2 = 1 then (v / 2) ^^^ 0x80200003 else v / 2

/-- R399: the slice's LFSR steps, and tells whether the frame is tagged. -/
def traceTag (slice : Nat) (s : State) : Bool × State :=
  if s.on (trcPage slice) F.trc_TRACE_CFG_ENABLE then
    let v := lfsrStep (s.palm.lfsr.val 0 slice)
    let n := max 10 (s.rd (trcPage slice) F.trc_TRACE_CFG_RATE_LOG2)
    (v % 2 ^ n == 0, { s with palm := { s.palm with lfsr := s.palm.lfsr.put 0 slice v } })
  else (false, s)

/-- R21: the frame that takes a slice's next slot: pre-class 7 first; of the ports, the next in turn after the last
served; of its frames, the first to arrive. -/
def State.nextForSlot (s : State) (slice : Nat) : Option (Nat × Frame) :=
  let all := s.palm.frames.filter fun p => p.2.stage == .fifo && p.2.slice == slice
  let c7 := all.filter fun p => p.2.pre == 7
  let pool := if c7.isEmpty then all else c7
  let last := s.palm.slots.val 0 slice
  let turn (p : Nat × Frame) : Nat := (p.2.port + 1023 - last) % 1024
  pool.foldl (fun best p => match best with
    | some b => if turn p < turn b then some p else some b
    | none => some p) none

/-- A frame takes a slot: its parser engine, its BANK, its counts, its trace tag; on an EMPTY control store it is dropped (R198).
One that finds no parser engine waits in the FIFO (R174). -/
def takeSlot (slice : Nat) (s : State) : State :=
  match s.nextForSlot slice with
  | none => s
  | some (id, f) => match s.freeEngine slice 0 (f.pre == 7) with
  | none =>
    let line := (s.ucs.lines.val [] (3 * slice)).filter fun k => match s.frame? k with | some g => g.stage == .fifo | none => false
    if line.contains id then s
    else
      let s1 := s.putWait slice 0 (line ++ [id])
      if f.pre = 7 then s1.bump (ucsPage slice) F.ucs_CYCLE_STATS_ENGINE_WAITS else s1
  | some engine =>
    let s0 := { s with palm := { s.palm with slots := s.palm.slots.put 0 slice f.port } }
    let s1 := s0.count 0x0300 slice
    let s2 := if f.pre = 7 then s1.count 0x0301 slice else s1
    let (tag, s3) := traceTag slice s2
    let s4 := if tag then s3.count 0x030C slice else s3
    let gen := s4.rd 0x300 F.tbl0_GEN_NOW
    let bank := s4.rd (0x440 + slice) F.ucs_BANK_STATUS_ACTIVE_BANK
    let g := { f with
      md := mdPut f.md 0x0A 1 (f.tq + 16 * bank)
      stage := .waiting 0
      run := some { engine := engine, pc := 0 }
      gen := gen
      traced := tag }
    let s5 := s4.putFrame id (g.mark 1 s.now)
    if s5.rd (0x440 + slice) F.ucs_BANK_STATUS_STATE = 0 then
      dropAtIngress id 0xF2 (noteCheck slice 2 (location 0 bank 0) 0 (s5.putFrame id ((g.mark 1 s.now).put 0x16 1 2)))
    else s5

/-- INGRESS_SLOT_ASSIGN (R21). -/
def execIngressSlotAssign (slice : Fin 32) (s : State) : Out := .next (s.running (takeSlot slice.val))

/-! ## Queue assignment (R251 to R266) -/

/-- Where a frame goes: its ports, queue, class, and whether it is multicast. -/
structure Target where
  ports : List Nat
  queue : Nat
  cls : Nat
  multi : Bool
  deriving DecidableEq, Repr

/-- The ports of a bitmap. -/
def portsIn (n : Nat) : List Nat := (List.range 1024).filter n.testBit

/-- R260, R272: the target of a frame, or the reason why it has none. -/
def State.target (s : State) (f : Frame) : Except Nat Target :=
  let eg := mdGet f.md 0x32 2
  let q := mdGet f.md 0x34 1
  if eg < 32768 then .error 0xE7
  else if q.testBit 3 then
    let m := s.mcg (eg % 1024)
    let ps := if m.valid then (portsIn m.ports).filter fun p => !(m.skipSource && p == f.port) else []
    if ps.isEmpty then .error 0xE6 else .ok ⟨ps, if f.cls = 7 then 9 else 8, f.cls, true⟩
  else
    let c := if s.on (0x400 + f.slice) F.slii_FWD_CFG_QUEUE_MODE then q % 8 else f.cls
    .ok ⟨[eg % 1024], c, c, false⟩

/-- R158: the port sends frames: its link is up, and it neither detects Local Fault nor receives Remote Fault. -/
def State.sends (s : State) (p : Nat) : Bool :=
  s.up p && !s.on (prt p) F.prt_LINK_STATUS_LOCAL_FAULT && !s.on (prt p) F.prt_LINK_STATUS_REMOTE_FAULT

/-- R25: the egress port is idle for a frame of a class. -/
def State.idle (s : State) (p c : Nat) : Bool :=
  let here := s.palm.replicas.filter fun x => x.2.port == p
  (s.windowOn p).isNone &&
    (here.isEmpty || (c == 7 && s.on (prt p) F.prt_PREEMPT_STATUS_ACTIVE &&
      here.all fun x => x.2.phase == 3 && x.2.cls != 7 && x.2.releaseOf == 0))

/-- R25, R266, R346: the frame may cut through to a port. A frame that a FEEDER passes on belongs to its merge group all the
same (R290). -/
def State.cutsThrough (s : State) (f : Frame) (t : Target) (p : Nat) : Bool :=
  !t.multi && !f.sequenced && decide (mdGet f.md 0x36 1 < 128) && !f.ctrl 0 && !f.reply && decide (s.speed p ≤ s.speed f.port) && s.idle p t.cls &&
    !s.classPaused p t.cls && !(s.sched p).ctDisable && s.sends p

/-- The reason for which a replica is refused, or its grant. -/
def State.admission (s : State) (f : Frame) (t : Target) (r : Nat) (descs : Bool) (p : Nat) : Except Nat Grant :=
  if !s.up p || !s.configured p || s.isExport p then .error 0xE7
  else match s.grant (s.queue p t.queue) f.port t.cls r with
    | .error e => .error e
    | .ok g => if descs then .ok g else .error 0xE2

/-- R258: an admission that would take its priority group past PG_XOFF asserts XOFF. -/
def checkXoff (f : Frame) (c r : Nat) (s : State) : State :=
  if (s.pg f.port c).shared + r > (s.pg f.port c).xoffAt then setXoff f.port c true s else s

/-- No frame waits in a class of a port to be chosen (R262). -/
def State.classEmpty (s : State) (p c : Nat) : Bool :=
  !s.palm.replicas.any fun x => x.2.port == p && x.2.phase == 0 && x.2.releaseOf == 0 && s.queueClass p x.2.queue == c

/-- A preemptible frame in transmission gives way to an express one (R164). -/
def preempt (p : Nat) (s : State) : State :=
  match s.palm.replicas.find? fun x => x.2.port == p && x.2.phase == 3 && !x.2.waiting with
  | some (id, r) =>
    let s1 := if r.preempted then s else s.count 0x0112 p
    s1.putReplica id { r with preempted := true, waiting := true }
  | none => s

/-- R25: the replica that was assigned to a port in this CORE cycle and cuts through, from another ingress pipeline than a frame's. -/
def State.rival (s : State) (f : Frame) (p : Nat) : Option (Nat × Replica) :=
  s.palm.replicas.find? fun x => x.2.port == p && x.2.ct && x.2.phase == 1 && coreCycle x.2.queuedAt == coreCycle s.now &&
    (match s.frame? x.2.frame with | some g => g.slice != f.slice | none => false)
/-- R25: of two frames assigned to an idle port in one cycle, the one that cuts through: the higher class, then the earlier T80,
then the lower ingress port. -/
def State.outranks (s : State) (f : Frame) (c : Nat) (r : Replica) : Bool :=
  match s.frame? r.frame with
  | some g => decide (r.cls < c ∨ (r.cls = c ∧ (f.stamp < g.stamp ∨ (f.stamp = g.stamp ∧ f.port < g.port))))
  | none => false
/-- R25: the replica finds the port busy after all, and is stored and forwarded. -/
def storeInstead (id : Nat) (s : State) : State :=
  s.onReplica id fun r f s =>
    (s.putReplica id { r with
      ct := false
      phase := 0
      run := none
      flags := r.flags - (r.flags &&& 16) }).putFrame r.frame { f with stamps := f.stamps.del 5 }
/-- R25: the cut-through decision for a frame and a port: whether it cuts through, and the replica that it displaces. -/
def State.cutDecision (s : State) (f : Frame) (t : Target) (p : Nat) : Bool × Option Nat :=
  match s.rival f p with
  | none => (s.cutsThrough f t p, none)
  | some (k, r) =>
    let without : State := { s with palm := { s.palm with replicas := s.palm.replicas.del k } }
    let wins := s.outranks f t.cls r && without.cutsThrough f t p
    (wins, if wins then some k else none)

/-- A replica's entry: its queue's cells, its descriptor, its mark, its mode of forwarding. The pools are charged for the
first one of a frame (R273). -/
def enterQueue (id : Nat) (t : Target) (r releaseOf : Nat) (g : Grant) (p : Nat) (first : Bool) (s : State) : State :=
  s.onFrame id fun f s =>
    let q := s.queue p t.queue
    let (cuts, beaten) := s.cutDecision f t p
    let ct := releaseOf == 0 && cuts
    let rep : Replica := { frame := id, port := p, queue := t.queue, cells := r, mine := g.mine, shared := g.shared
                           cls := t.cls, ct := ct, ce := q.ecn && decide (q.depth ≥ q.ecnCells), releaseOf := releaseOf
                           queuedAt := s.now, depth := q.depth, phase := if ct then 1 else 0, flags := if ct then 16 else 0 }
    -- a class that has been empty starts with a deficit of 0 (R262)
    let c := s.queueClass p t.queue
    let sz := if s.classEmpty p c then s.putSched p { s.sched p with deficit := (s.sched p).deficit.put 0 c 0 } else s
    let sb := match beaten with | some k => if ct then storeInstead k sz else sz | none => sz
    let s0 := if ct then preempt p sb else sb
    let s1 := s0.putQueue p t.queue { q with
      depth := q.depth + r
      minUsed := q.minUsed + g.mine
      shared := q.shared + g.shared }
    let n := s1.palm.nextReplica
    let s2 := ({ s1 with palm := { s1.palm with nextReplica := n + 1 } }.putReplica n rep).drop 0x4A4 F.bufx_DESC_FREE
    let s3 := s2.count (0x0200 + 16 * t.queue) p
    let s4 := if ct then (if beaten.isSome then s3 else s3.count 0x0500 (sliceOf p)).onFrame id fun x y => y.putFrame id (x.mark 5 y.now) else s3
    s4.onFrame id fun x s =>
      let x1 := { x with entries := x.entries + 1 }
      if first then
        let gp := s.pg f.port t.cls
        let s5 := (chargePools g.draws (s.putFrame id { x1 with draws := g.draws, admitted := t.cls })).putPg f.port t.cls
          { gp with
            shared := gp.shared + sharedOf g.draws
            hdrmUsed := gp.hdrmUsed + headroomOf g.draws }
        if headroomOf g.draws > 0 then setXoff f.port t.cls true s5 else s5
      else s.putFrame id x1

/-- A replica that was refused: counted on its queue and the ingress slice, and recorded (R255, R273). -/
def refuseReplica (id : Nat) (t : Target) (p reason : Nat) (s : State) : State :=
  s.onFrame id fun f s =>
    let i := if reason = 0xE7 then 7 else if t.multi then 8 else dropIndex reason
    let s1 := latchDrop f t.cls reason ((countDrop f reason none s).count (0x0200 + 16 * t.queue + i) p)
    let x : Fate := { at_ := s.now, outPort := p, queue := t.queue, cls := t.cls, reason := reason
                      flags := f.flags ||| 8, depth := (s.queue p t.queue).depth }
    settle id x (!t.multi) s1

/-- R255: a frame that gets no replica. -/
def dropUnqueued (id reason : Nat) (t : Option Target) (s : State) : State :=
  s.onFrame id fun f s =>
    let c := match t with | some x => x.cls | none => f.cls
    dropAtIngress id reason (latchDrop f c reason (s.putFrame id { f with md := mdPut f.md 0x43 1 reason }))

/-- R251 to R273: a frame admitted to the ports of each target, with the banks its cells come from; one that no port admits
is dropped. A target goes with 0, or with 1 + the release group for which its replicas are held. -/
def admitFrame (id : Nat) (legs : List (Target × Nat)) (cells : List Nat) (s : State) : State :=
  match legs with
  | [] => s
  | (t0, _) :: _ => s.onFrame id fun f s =>
    let r := cellsOf (s.maxFrame f.port)
    let goals := legs.flatMap fun l => l.1.ports.map fun p => (l.1, l.2, p)
    let descs := s.descriptorsFor t0.cls goals.length
    let f1 := { (if t0.multi then f.flag 5 else f) with
      md := mdPut f.md 0x35 1 t0.cls
      stage := .stored }
    let s0 := checkXoff f t0.cls r (s.putFrame id (f1.mark 4 s.now))
    let (s1, refused) := goals.foldl (fun (x : State × List (Target × Nat × Nat)) y =>
      match x.1.admission f y.1 r descs y.2.2 with
      | .error e => (x.1, (y.1, y.2.2, e) :: x.2)
      | .ok g =>
        let first := match x.1.frame? id with | some z => z.entries == 0 | none => false
        (enterQueue id y.1 r y.2.1 g y.2.2 first x.1, x.2)) (s0, [])
    let any := match s1.frame? id with | some y => y.entries != 0 | none => false
    if any then
      match takeCells cells s1 with
      | none => s
      | some s2 =>
        if cells.length = r then
          let s3 := s2.onFrame id fun y z => z.putFrame id { y with cells := cells }
          refused.reverse.foldl (fun z x => refuseReplica id x.1 x.2.1 x.2.2 z) s3
        else s
    else if t0.multi then
      dropUnqueued id 0xE6 (some t0) (refused.reverse.foldl (fun z x =>
        let z1 := if x.2.2 = 0xE3 then z.raise (0x400 + f.slice) 2 else z
        z1.count (0x0200 + 16 * x.1.queue + (if x.2.2 = 0xE7 then 7 else 8)) x.2.1) s0)
    else match refused with
      | (_, p, e) :: _ => (refuseReplica id t0 p e s0).dropFrame id
      | [] => s0

/-! ## Transmission -/

/-- R268: the last four bytes of a frame on the lanes: its FCS; its complement where the frame is stomped; on a frame that
could be preempted, the complement of its correct mCRC, which is the FCS with its last two bytes inverted (PRESUMED from IEEE
802.3br, log entry 187). -/
def State.lastBytes (s : State) (r : Replica) : List Byte :=
  let fcs := fcsOf r.outBytes
  let inv (bs : List Byte) : List Byte := bs.map fun b => ~~~b
  if !r.stomp then fcs
  else if r.cls != 7 && s.on (prt r.port) F.prt_PREEMPT_STATUS_ACTIVE then inv (fcs.take 2) ++ fcs.drop 2
  else inv fcs

/-- R247, R268, R357: a replica's last byte has left: its counts, the frame on the lanes, the records of its fate, which say
how it ended, and its entry's end. -/
def finishReplica (id : Nat) (s : State) : State :=
  s.onReplica id fun r f s =>
    let len := r.outBytes.length + 4
    let at_ := r.egress.map (·.1)
    let s1 := ((((s.count 0x0102 r.port 1 at_).count 0x0103 r.port len at_).count (0x0202 + 16 * r.queue) r.port 1 at_).count
      (0x0203 + 16 * r.queue) r.port len at_)
    let sent := r.outBytes ++ s.lastBytes r
    let s2 := s1.send (.frame r.port sent r.stomp)
    let s3 := settle r.frame { r.fate (match r.egress with | some e => e.1 | none => s.now) 0 f with sent := sent } (s.tracing r) s2
    let s4 := removeReplica id s3
    -- a frame that gave way resumes, and an empty port's transmit LPI delay starts (R154, R164)
    match s4.palm.replicas.find? fun x => x.2.port == r.port && x.2.phase == 3 && x.2.waiting with
    | some (k, w) => s4.putReplica k { w with waiting := false }
    | none =>
      let pr := s4.brim.ports.val {} r.port
      { s4 with brim := { s4.brim with ports := s4.brim.ports.put {} r.port { pr with quietSince := s.mono } } }

/-- TRANSMIT_COMPLETE (R247): a replica in transmission whose frame's tail has been judged. -/
def execTransmitComplete (replica : Nat) (s : State) : Out :=
  .next (s.running fun s => s.onReplica replica fun r f s =>
    s.given (r.phase == 3 && !r.waiting && (f.verdict.isSome || r.stomp)) (finishReplica replica))

/-- R255: a replica with CE leaves marked, where its packet can be marked. -/
def ceReplica (id : Nat) (r : Replica) (bytes : List Byte) (s : State) : List Byte × State :=
  if !r.ce then (bytes, s) else match markCe bytes with
    | none => (bytes, (s.count 0x0114 r.port).raise (0x420 + sliceOf r.port) 1)
    | some (b, true) => (b, ((s.count 0x0113 r.port).count (0x0209 + 16 * r.queue) r.port).putReplica id
        { r with flags := r.flags ||| 64 })
    | some (b, false) => (b, s)

/-- What leaves the port of a replica whose egress program has ended: tag, CE mark and one-step stamp (R115, R265, R301);
none when the message is discarded (R116). -/
def shapeReplica (id : Nat) (stamp : T80) (tq : Nat) (r : Replica) (f : Frame) (s : State) : Option (List Byte × State) :=
  let (b1, moved) := s.shapeTag f r r.outBytes
  let x := ceReplica id r b1 s
  let off := ((mdGet r.md 0x40 2 % 512 : Nat) + moved).toNat
  if (mdGet r.md 0x42 1).testBit 3 && oneStep x.1 off then
    let tag := if (f.tagged && moved == 0) || moved > 0 then 16 else 0
    if tq = 15 then none else some (insertStamp x.1 tag off stamp, x.2)
  else some x

/-- The replica is the next of its port to leave: nothing else is in transmission, and of a released batch it is the
first in order (R312). -/
def State.mayStart (s : State) (r : Replica) (f : Frame) : Bool :=
  let others := s.palm.replicas.filter fun x => x.2.port == r.port
  !(others.any fun x => x.2.phase == 3 && !x.2.waiting) &&
    (r.releaseOf == 0 || (r.released && others.all fun x =>
      !(x.2.releaseOf == r.releaseOf && x.2.released && decide (x.2.phase < 3)) ||
        (match s.frame? x.2.frame with
         | some g => decide (f.stamp < g.stamp ∨ (f.stamp = g.stamp ∧ f.port ≤ g.port))
         | none => true)))

/-- R314: the egress stamps of a batch's first frame, by the spread of which LAST_SKEW is known. -/
def noteSkew (r : Replica) (stamp : T80) (s : State) : State :=
  if r.releaseOf = 0 then s
  else
    let g := r.releaseOf - 1
    let x := s.rel g
    match x.batches.find? fun b => b.done && b.frames.head? == some r.frame with
    | none => s
    | some b =>
      let stamps := stamp :: b.stamps
      let spread := stamps.foldl max 0 - stamps.foldl min stamp
      (s.putRel g { x with batches := x.batches.map fun y => if y = b then { y with stamps := stamps } else y }).wr
        (relPage g) F.rel_RELEASE_INFO_LAST_SKEW (sat 16 (spread / 256))

/-- R268: what leaves of a cut-through frame that is too long. -/
def State.cutLong (s : State) (f : Frame) (r : Replica) (bytes : List Byte) : List Byte :=
  if r.ct && f.verdict.isSome && decide (f.bytes.length > s.maxFrame f.port) then bytes.take (s.maxFrame f.port) else bytes

/-- R114, R357: a replica's SFD leaves: its stamp and its counts. The records of its fate carry flags that say how it ended, so
they are formed at its end (R268, R269; DEDUCED, log entry 188). -/
def transmit (id : Nat) (tap : TxTap) (s : State) : State :=
  s.onReplica id fun r f s =>
    s.given (r.phase == 2 && s.mayStart r f && s.sends r.port && !s.on (prt r.port) F.prt_LINK_STATUS_TX_LPI) fun s =>
      let (stamp, tq, s1) := egressStamp tap s
      match shapeReplica id stamp tq r f s1 with
      | none =>
        dropReplica id (mdGet r.md 0x43 1) false (countStampLoss r.port s1)
      | some (bytes, s2) =>
        match s2.replica? id with
        | none => s2
        | some r2 =>
          let cut := s.cutLong f r bytes
          let r3 := { r2 with
            phase := 3
            outBytes := cut
            egress := some (stamp, tq) }
          let s3 := (s2.putReplica id r3).count (if r.ct then 0x0501 else 0x0502) (sliceOf r.port) 1 stamp
          let s4 := if r.ct then s3.count 0x0109 r.port 1 stamp else s3
          let s5 := noteSkew r stamp { s4 with pwc := { s4.pwc with
            started := s4.pwc.started ++ [(r.port * 16 + r.queue, cut.length + 4)] } }
          if r.releaseOf = 0 then s5 else s5.count 0x0901 (r.releaseOf - 1)

/-- EGRESS_TRANSMIT (R114): a replica whose egress program has ended, and what its tap delivers. -/
def execEgressTransmit (replica : Nat) (tap : TxTap) (s : State) : Out :=
  .next (s.running (transmit replica tap))

/-- UNDERRUN (R267): a byte of a cut-through frame is not there when the transmitter needs it. -/
def execUnderrun (replica : Nat) (s : State) : Out :=
  .next (s.running fun s => s.onReplica replica fun r f s =>
    s.given (r.ct && r.phase == 3 && f.verdict.isNone) fun s =>
      if r.stomp then s else (stompReplica replica true s).count 0x010B f.port)

/-- R317: a replica whose batch is fixed: its member is excluded from what is left of the release. -/
def excludeReplica (id g : Nat) (s : State) : State :=
  match s.replica? id with
  | none => s
  | some r =>
    let k := r.port / 64
    let e := (s.rdi (relPage g) F.rel_EXCLUDED k)
    let s1 := if e.testBit (r.port % 64) then s
      else (s.putBitAt (relPage g) F.rel_EXCLUDED r.port true).count 0x0906 g
    dropReplica id 0xEB false ((s1.count 0x0907 g).raise (relPage g) 1)
/-- The batch of a replica is fixed (R310). -/
def State.inCut (s : State) (r : Replica) : Bool :=
  r.releaseOf != 0 && (s.rel (r.releaseOf - 1)).batches.any fun b => b.cut && b.frames.contains r.frame

/-- R263, R317: a port's queues flushed; a frame in transmission ends as an errored frame (R145). -/
def flushPort (p : Nat) (s : State) : State :=
  let ids := (s.palm.replicas.filter fun x => x.2.port == p).map (·.1)
  if ids.isEmpty then s
  else
    (ids.foldl (fun t id => match t.replica? id with
      | some r =>
        if r.phase = 3 then finishReplica id (stompReplica id false t)
        else if t.inCut r then excludeReplica id (r.releaseOf - 1) t
        else dropReplica id 0xE7 false t
      | none => t) s).raise (0x420 + sliceOf p) 2

/-! ## The verdict on a tail (R251, R268 to R271) -/

/-- R268: the lowest-listed cause for which a frame is bad, by its place in the list; none for a good frame. -/
def State.judge (s : State) (f : Frame) (fec lockLost : Bool) : Option Nat :=
  let n := f.bytes.length
  if slice f.bytes (n - 4) 4 ≠ fcsOf (f.bytes.take (n - 4)) then some 0
  else if fec || f.marred then some 1
  else if n > s.maxFrame f.port ∨ n < 64 then some 2
  else if lockLost then some 3
  else none

/-- R391: what the ingress port counts of a tail. -/
def countTail (port len : Nat) (stamp : T80) (bad : Option Nat) (s : State) : State :=
  match bad with
  | none => (s.count 0x0100 port 1 stamp).count 0x0101 port len stamp
  | some k => if k ≤ 2 then s.count 0x0104 port 1 stamp else s

/-- A replica's share of the surplus, the last drawn first (R251). -/
def trimReplica (id n : Nat) (s : State) : State :=
  match s.replica? id with
  | none => s
  | some r =>
    let sh := min n r.shared
    let other := min (n - sh) (r.cells - r.mine - r.shared)
    let mn := n - sh - other
    let q := s.queue r.port r.queue
    (s.putReplica id { r with
      cells := r.cells - n
      shared := r.shared - sh
      mine := r.mine - mn }).putQueue r.port r.queue { q with
      depth := q.depth - n
      shared := q.shared - sh
      minUsed := q.minUsed - mn }

/-- R251: the cells beyond the frame's own return to their pools. -/
def returnSurplus (id : Nat) (s : State) : State :=
  s.onFrame id fun f s =>
    let keep := cellsOf f.bytes.length
    let n := f.cells.length - keep
    if n = 0 then s
    else
      let (back, left) := splitDraws n f.draws
      let s1 := (s.replicasOf id).foldl (fun t r => trimReplica r n t) s
      let s2 := returnPg f back (returnLate back (s1.putFrame id { f with draws := left, cells := f.cells.take keep }))
      (f.cells.drop keep).foldl (fun t b => freeLive b t) s2

/-- R391: ENQ_BYTES of every queue that the frame entered. -/
def countEnqueued (id len : Nat) (s : State) : State :=
  (s.replicasOf id).foldl (fun t k => match t.replica? k with
    | some r => t.count (0x0201 + 16 * r.queue) r.port len r.queuedAt
    | none => t) s

/-- A frame admitted whose tail has been judged already: its cells beyond its own go back at once (R251). -/
def placeFrame (id : Nat) (legs : List (Target × Nat)) (cells : List Nat) (s : State) : State :=
  let s1 := admitFrame id legs cells s
  match s1.frame? id with
  | some f => if f.verdict.isSome ∧ f.stage = .stored then countEnqueued id f.bytes.length (returnSurplus id s1) else s1
  | none => s1

/-- Replies leave in the order in which they were made (R346). -/
def State.replyTurn (s : State) (id : Nat) (f : Frame) : Bool :=
  !f.reply || !(s.palm.frames.any fun p => p.2.reply && p.2.stage == .decided && decide (p.1 < id))

/-- R251: a frame whose ingress action has ended, or that the arrival sequencer has emitted, is assigned to its queue, and
its cells are taken from these banks. -/
def assignQueue (frame : Nat) (cells : List Nat) (s : State) : State :=
  s.onFrame frame fun f s =>
    let merge := decide (mdGet f.md 0x36 1 ≥ 128)
    s.given ((f.stage == .decided && !merge || f.stage == .emitted) && !f.ctrl 0 && s.replyTurn frame f) fun s =>
      match s.target f with
      | .error e => dropUnqueued frame e none s
      | .ok t => placeFrame frame [(t, 0)] cells s

/-- R256: of the frames of several ingress pipelines admitted in one cycle, one comes before another: the higher class, then
the earlier ingress T80, then the lower ingress port. -/
def State.comesFirst (s : State) (id other : Nat) : Bool :=
  match s.frame? id, s.frame? other with
  | some a, some b =>
    let cls (f : Frame) : Nat := match s.target f with | .ok t => t.cls | .error _ => f.cls
    a.slice != b.slice && decide (cls a > cls b ∨ (cls a = cls b ∧ (a.stamp < b.stamp ∨ (a.stamp = b.stamp ∧ a.port < b.port))))
  | _, _ => false
/-- A frame's admission waits for one that comes first in its cycle. -/
def State.assignWaits (s : State) (id : Nat) : Bool :=
  (s.pending.any fun c => match c with | .queueAssign g _ => s.comesFirst g id | _ => false) ||
    s.palm.assigns.any fun x => s.comesFirst x.1 id
/-- The admissions that wait no longer are made; `n` is their number. -/
def runAssigns : Nat → State → State
  | 0, s => s
  | n + 1, s => match s.palm.assigns.find? fun x => !s.assignWaits x.1 with
    | some x => runAssigns n (assignQueue x.1 x.2 { s with palm := { s.palm with assigns := s.palm.assigns.erase x } })
    | none => s
/-- QUEUE_ASSIGN (R251), in the order of R256. -/
def execQueueAssign (frame : Nat) (cells : List (Fin 1152)) (s : State) : Out :=
  .next (s.running fun s =>
    let s1 := if s.assignWaits frame then { s with palm := { s.palm with assigns := s.palm.assigns ++ [(frame, cells.map (·.val))] } }
      else assignQueue frame (cells.map (·.val)) s
    if s1.palm.assigns.isEmpty then s1 else runAssigns s1.palm.assigns.length s1)

/-- R268: the replicas of a frame that is too long are cut. -/
def cutReplicas (id : Nat) (s : State) : State :=
  (s.replicasOf id).foldl (fun t k => t.onReplica k fun r f t =>
    if r.phase = 3 then t.putReplica k { r with outBytes := t.cutLong f r r.outBytes } else t) s

/-- R268, R270: a bad frame: dropped where it is stored or not yet queued, stomped where it has been committed. -/
def badTail (id reason : Nat) (s : State) : State :=
  s.onFrame id fun f s =>
    if f.stage ≠ .stored then dropAtIngress id reason (forgetHeld id s)
    else
      let ids := s.replicasOf id
      let isCt (k : Nat) : Bool := match s.replica? k with | some r => r.ct | none => false
      let s1 := (ids.filter isCt).foldl (fun t k => stompReplica k true t)
        (if s.stomped id || !ids.any isCt then s else s.count 0x010B f.port 1 f.stamp)
      dropStored id (if reason = 0xFC then 0xFC else 0xE4) (ids.filter fun k => !isCt k) (cutReplicas id s1)

/-- R251, R268: the verdict on a tail. -/
def tailVerdict (id : Nat) (fec lockLost reassembly : Bool) (s : State) : State :=
  match s.frame? id with
  | none =>
    match s.palm.tails.at? id with
    | none => s
    | some x =>
      let bad := s.judge { port := x.port, bytes := x.bytes, md := [] } fec lockLost
      let s1 := countTail x.port x.bytes.length x.stamp bad { s with palm := { s.palm with tails := s.palm.tails.del id } }
      let s2 := if reassembly then s1.bump (prt x.port) F.prt_PREEMPT_STATUS_REASSEMBLY_ERRORS else s1
      match x.learn with
      | some e => if bad.isNone && !reassembly then learnEvent e s2 else s2
      | none => s2
  | some f =>
    if f.verdict.isSome then s
    else
      let bad := s.judge f fec lockLost
      let v := match bad with | some k => k + 1 | none => if reassembly then 7 else 0
      let s1 := countTail f.port f.bytes.length f.stamp bad (s.putFrame id { f with verdict := some v })
      let s2 := if reassembly then s1.bump (prt f.port) F.prt_PREEMPT_STATUS_REASSEMBLY_ERRORS else s1
      let s3 := countEnqueued id f.bytes.length (returnSurplus id s2)
      if v = 0 then (match f.learn with | some e => if f.learnOk then learnEvent e s3 else s3 | none => s3)
      else badTail id (if bad.isNone then 0xFC else 0xF9) s3

/-- FRAME_TAIL_VERDICT (R268): the frame's FCS and length are judged here; from outside come an uncorrectable codeword, a
loss of lock, and a failed reassembly of fragments (R165). -/
def execFrameTailVerdict (frame : Nat) (fec lockLost reassembly : Bool) (s : State) : Out :=
  .next (s.running (tailVerdict frame fec lockLost reassembly))

/-! ## The scheduler (R261, R262, R313, R437) -/

/-- The length of a replica's frame, FCS included. -/
def State.lenOf (s : State) (r : Replica) : Nat := match s.frame? r.frame with | some f => f.bytes.length | none => 0

/-- R313: while a release window is open, another frame starts only if it ends in time, or can be preempted in time. -/
def State.fitsWindow (s : State) (r : Replica) : Bool :=
  match s.windowOn r.port with
  | none => true
  | some t =>
    let sp := s.speed r.port
    if s.on (prt r.port) F.prt_PREEMPT_STATUS_ACTIVE && r.cls != 7 then decide (s.now + byteTimes sp 151 ≤ t)
    else decide (s.now + byteTimes sp (20 + s.lenOf r) + byteTimes sp 8 ≤ t)

/-- A queued replica that may be started: stored whole and good (R266), not held for a release (R307). -/
def State.eligible (s : State) (r : Replica) : Bool :=
  r.phase == 0 && r.releaseOf == 0 && s.fitsWindow r &&
    (match s.frame? r.frame with | some f => f.verdict == some 0 | none => false)

/-- The head of a queue: its first replica, if that may be started. -/
def State.head (s : State) (p q : Nat) : Option (Nat × Replica) :=
  match s.palm.replicas.find? fun x => x.2.port == p && x.2.queue == q && x.2.phase == 0 && x.2.releaseOf == 0 with
  | some x => if s.eligible x.2 then some x else none
  | none => none

/-- R261: of a class's unicast queue and its multicast queue, one frame each in turn. -/
def State.pick (s : State) (p c : Nat) : Option (Nat × Replica) :=
  if c ≠ 7 ∧ s.classPaused p c then none
  else
    let uni := s.head p c
    let mc := if c = 7 then s.head p 9 else if (s.queue p 8).mc0tc = c then s.head p 8 else none
    match uni, mc with
    | some u, some m => if (s.sched p).turnMc.testBit c then some m else some u
    | some u, none => some u
    | none, x => x

/-- R262: deficit round robin over the ETS classes in ascending order; `n` bounds the visits. -/
def drr (s : State) (p : Nat) (ets : List Nat) : Nat → Nat → Bool → SMap Nat → Option (Nat × Replica) × SMap Nat × Nat
  | 0, i, _, d => (none, d, i)
  | n + 1, i, reached, d =>
    let c := ets.getD (i % max 1 ets.length) 0
    match s.pick p c with
    | none => drr s p ets n (i + 1) false (if s.classEmpty p c || s.classPaused p c then d.put 0 c 0 else d)
    | some x =>
      let have_ := d.val 0 c + (if reached then 0 else s.rdx (prt p) F.prt_ETS_CFG_SHARE 0 c * 256)
      if s.lenOf x.2 ≤ have_ then (some x, d.put 0 c (have_ - s.lenOf x.2), i)
      else drr s p ets n (i + 1) false (d.put 0 c have_)

/-- R163: an ETS_CFG write waiting for the frame boundary takes effect, with its deficits at 0 (R262). -/
def applyEts (p : Nat) (s : State) : State :=
  let pr := s.brim.ports.val {} p
  match pr.etsNext with
  | none => s
  | some w =>
    let s1 := { s with brim := { s.brim with ports := s.brim.ports.put {} p { pr with etsNext := none } } }
    let s2 := (List.range 7).foldl (fun t c => (t.wrx (prt p) F.prt_ETS_CFG_SHARE 0 c (w / 256 ^ c)).wrx (prt p)
      F.prt_ETS_CFG_STRICT 0 c (w / 2 ^ (56 + c) % 2)) s1
    s2.putSched p { s2.sched p with deficit := [], serving := none }

/-- R261: the scheduler's choice, with the deficits it leaves and the ETS class being served. -/
def State.choose (s : State) (p : Nat) : Option (Nat × Replica) × Sched :=
  let sc := s.sched p
  let strict (c : Nat) : Bool := s.rdx (prt p) F.prt_ETS_CFG_STRICT 0 c != 0
  match s.pick p 7 with
  | some x => (some x, sc)
  | none =>
    match ([6, 5, 4, 3, 2, 1, 0].filter strict).findSome? fun c => s.pick p c with
    | some x => (some x, sc)
    | none =>
      let ets := (List.range 7).filter fun c => !strict c
      if ets.isEmpty || (ets.all fun c => (s.pick p c).isNone) then
        let gone (c : Nat) : Bool := s.classEmpty p c || s.classPaused p c
        (none, { sc with
          deficit := sc.deficit.filter fun x => !gone x.1
          serving := sc.serving.filter fun c => !gone c })
      else
        let i := match sc.serving with | some c => ets.idxOf c | none => 0
        let (x, d, j) := drr s p ets 300 i sc.serving.isSome sc.deficit
        (x, { sc with deficit := d, serving := ets[j % ets.length]? })

/-- The ratio of a slice: R, or what it is held at (R436, R441). -/
def State.ratioOf (s : State) (slice : Nat) : Nat :=
  match s.pwc.held.at? slice with | some r => r | none => s.rd 0x40 F.pwc0_CAP_STATUS_RATIO
/-- Bubbles that have fallen due on a slice in this period by an instant: R/256 of its slots, four in a CORE cycle, spread evenly
(R437). -/
def State.dueBy (s : State) (t : T80) (slice : Nat) : Nat :=
  s.pwc.due.val 0 slice + 4 * (coreCycle t - coreCycle s.pwc.since) * s.ratioOf slice / 256
def State.bubblesDue (s : State) (slice : Nat) : Nat := s.dueBy s.mono slice
/-- The ratio of the slices changes: what has fallen due so far stands. -/
def rebase (s : State) : State :=
  let due := (List.range 32).foldl (fun (m : SMap Nat) g => m.put 0 g (s.bubblesDue g)) []
  { s with pwc := { s.pwc with since := s.mono, due := due } }
/-- Those not yet spent. -/
def State.owed (s : State) (slice : Nat) : Nat := s.bubblesDue slice - s.pwc.spent.val 0 slice
/-- R437: an owed bubble is spent in a slot that would start a frame of class L or lower, TC7 and MC1 apart. -/
def State.bubbles (s : State) (r : Replica) : Bool :=
  decide (s.owed (sliceOf r.port) > 0) && r.cls != 7 && r.queue != 9 &&
    decide (r.cls ≤ s.rd 0x40 F.pwc0_CAP_STATUS_LEVEL) && (s.windowOn r.port).isNone

/-- The port is at a frame boundary: nothing is committed or in transmission, but for a release batch that waits for its
instant. -/
def State.atBoundary (s : State) (p : Nat) : Bool :=
  !(s.palm.replicas.any fun x => x.2.port == p && decide (x.2.phase ≥ 1) && !x.2.waiting &&
    (x.2.releaseOf == 0 || x.2.released))

/-- A frame in transmission that a TC7 frame may preempt (R164). -/
def State.preemptible (s : State) (p : Nat) : Bool :=
  s.on (prt p) F.prt_PREEMPT_STATUS_ACTIVE &&
    (s.palm.replicas.filter fun x => x.2.port == p && decide (x.2.phase ≥ 1) && !x.2.waiting).all
      fun x => x.2.phase == 3 && x.2.cls != 7 && x.2.releaseOf == 0

/-- The chosen frame is committed to the transmitter: its slot, its turn, its trace stage. -/
def commit (id : Nat) (r : Replica) (s : State) : State :=
  let sc := s.sched r.port
  let c := s.queueClass r.port r.queue
  let s1 := (s.putReplica id { r with phase := 1 }).putSched r.port
    { sc with turnMc := putBit sc.turnMc c (decide (r.queue < 8)) }
  (s1.count 0x0500 (sliceOf r.port)).onFrame r.frame fun f t =>
    if t.tracing r then t.putFrame r.frame (f.mark 5 t.now) else t

/-- R21: another port of the slice may take a TC7 frame now, and its egress slot comes first. -/
def State.yields (s : State) (p : Nat) : Bool :=
  s.palm.replicas.any fun x =>
    let q := x.2.port
    q != p && sliceOf q == sliceOf p && x.2.cls == 7 && x.2.phase == 0 && s.sends q && !s.on (prt q) F.prt_LINK_STATUS_TX_LPI &&
      (s.atBoundary q || s.preemptible q) && (s.pick q 7).isSome

/-- R261: the port's next frame; a frame of a lower class waits while a TC7 frame may take the slice's slot (R21). -/
def schedule (p : Nat) (s : State) : State :=
  if s.atBoundary p then
    let s0 := applyEts p s
    match s0.choose p with
    | (none, sc) => s0.putSched p sc
    | (some (id, r), sc) =>
      if r.cls != 7 && s0.yields p then s0
      else if s0.bubbles r then
        let sl := sliceOf p
        (({ s0 with pwc := { s0.pwc with spent := s0.pwc.spent.put 0 sl (s0.pwc.spent.val 0 sl + 1) } }).count 0x0503 sl).count
          0x0A08 0
      else commit id r (s0.putSched p sc)
  else if s.preemptible p then
    match s.pick p 7 with
    | some (id, r) => commit id r (preempt p s)
    | none => s
  else s

/-- SCHEDULER_SELECT (R261): a frame boundary, or a point at which a TC7 frame may preempt, on a port that is up and not
in transmit LPI. -/
def execSchedulerSelect (port : Fin 1024) (s : State) : Out :=
  .next (s.running fun s =>
    s.given (s.sends port.val && !s.on (prt port.val) F.prt_LINK_STATUS_TX_LPI) (schedule port.val))

end Sys2Proof.Machine
end

