-- ==== Sys2Proof/Machine/Sessions.lean ====
section
/-! DEFINITION. The session engine (spec/10): contexts, legs, the sequence window, gaps, retransmission rings, requests and
events. -/

namespace Sys2Proof.Machine

/-! ## Contexts and requesters (R327, R329, R345, R349) -/

def State.ctx (s : State) (c : Nat) : Ctx := s.ses.ctxs.val {} c
/-- A context stored, and CONTEXTS_ARMED with it. -/
def State.putCtx (s : State) (c : Nat) (x : Ctx) : State :=
  let m := s.ses.ctxs.put {} c x
  { s with ses := { s.ses with ctxs := m } }.wr 0x240 F.ses0_ENGINE_STATUS_CONTEXTS_ARMED
    (m.filter fun (p : Nat × Ctx) => p.2.state != 0).length
def State.requester (s : State) (r : Nat) : Requester := s.ses.requesters.val {} r
def State.putRequester (s : State) (r : Nat) (x : Requester) : State :=
  { s with ses := { s.ses with requesters := s.ses.requesters.put {} r x } }

/-- The fields of CTX_CFG and CTX_CFG2. -/
def Ctx.order (x : Ctx) : Bool := x.cfg.testBit 0
def Ctx.fixed (x : Ctx) : Bool := x.cfg.testBit 1
def Ctx.gapDetect (x : Ctx) : Bool := x.cfg.testBit 2
def Ctx.ringEn (x : Ctx) : Bool := x.cfg.testBit 3
def Ctx.evq (x : Ctx) : Nat := bits x.cfg 4 6
def Ctx.portA (x : Ctx) : Nat := bits x.cfg 16 10
def Ctx.portB (x : Ctx) : Nat := bits x.cfg 32 10
def Ctx.bValid (x : Ctx) : Bool := x.cfg.testBit 42
def Ctx.gapTimeout (x : Ctx) : Nat := bits x.cfg 48 16
def Ctx.legTimeout (x : Ctx) : Nat := max 1 (bits x.cfg2 0 16)
def Ctx.jumpLimit (x : Ctx) : Nat := max 1 (bits x.cfg2 16 16)
def Ctx.depth (x : Ctx) : Nat := bits x.cfg2 32 5
def Ctx.slot (x : Ctx) : Nat := bits x.cfg2 40 4
/-- R340: the address of the slot of a number. -/
def Ctx.slotOf (x : Ctx) (n : Nat) : Nat := x.ring * 256 + n % 2 ^ x.depth * 2 ^ x.slot

def Ctx.gap (x : Ctx) (k : Nat) : Option Gap :=
  match k with | 0 => x.gap0 | 1 => x.gap1 | 2 => x.gap2 | _ => x.gap3
def Ctx.putGap (x : Ctx) (k : Nat) (g : Option Gap) : Ctx :=
  match k with
  | 0 => { x with gap0 := g } | 1 => { x with gap1 := g } | 2 => { x with gap2 := g } | _ => { x with gap3 := g }
def Ctx.noGaps (x : Ctx) : Ctx := { x with gap0 := none, gap1 := none, gap2 := none, gap3 := none }
/-- When a leg heard its last data frame; none while it is DOWN. -/
def Ctx.heard (x : Ctx) (b : Bool) : Option T80 := if b then x.heardB else x.heardA
def Ctx.putHeard (x : Ctx) (b : Bool) (t : Option T80) : Ctx := if b then { x with heardB := t } else { x with heardA := t }

/-- R349: the selected context's registers are snapshotted. -/
def showCtx (c : Nat) (s : State) : State :=
  let x := s.ctx c
  let put (t : State) (f : Fld) (v : Nat) : State := t.wr 0x240 f v
  let b (v : Bool) : Nat := if v then 1 else 0
  let s1 := [F.ses0_CTX_CFG_TYPE, F.ses0_CTX_CFG_START_MODE, F.ses0_CTX_CFG_GAP_DETECT, F.ses0_CTX_CFG_RING_EN,
    F.ses0_CTX_CFG_EVQ, F.ses0_CTX_CFG_PORT_A, F.ses0_CTX_CFG_PORT_B, F.ses0_CTX_CFG_B_VALID,
    F.ses0_CTX_CFG_GAP_TIMEOUT_US].foldl (fun t f => put t f (bits x.cfg f.lo f.w)) s
  let s2 := [F.ses0_CTX_CFG2_LEG_TIMEOUT_US, F.ses0_CTX_CFG2_JUMP_LIMIT, F.ses0_CTX_CFG2_DEPTH_LOG2,
    F.ses0_CTX_CFG2_SLOT_LOG2].foldl (fun t f => put t f (bits x.cfg2 f.lo f.w)) s1
  let open_ := ((List.range 4).filter fun k => (x.gap k).isSome).length
  let s3 := [(F.ses0_RING_BASE, x.ring), (F.ses0_SEQ_SET, x.seqSet), (F.ses0_CTX_STATUS_STATE, x.state),
    (F.ses0_CTX_STATUS_ACTIVE_LEG, b x.activeB), (F.ses0_CTX_STATUS_LEG_A_UP, b x.heardA.isSome),
    (F.ses0_CTX_STATUS_LEG_B_UP, b x.heardB.isSome), (F.ses0_CTX_STATUS_GAPS_OPEN, open_),
    (F.ses0_CTX_STATUS_CMD_BUSY, b (s.ses.deferred.any fun a => match a with | .command _ k => k == c | _ => false)),
    (F.ses0_CTX_STATUS_CMD_REFUSED, b x.refused), (F.ses0_EXPECTED, x.expected), (F.ses0_LAST_A, x.lastA),
    (F.ses0_LAST_B, x.lastB)].foldl (fun t p => put t p.1 p.2) s2
  (List.range 4).foldl (fun t k =>
    let g := (x.gap k).getD ⟨0, 0, 0, 0, 0⟩
    ((((t.wri 0x240 F.ses0_GAP_FIRST k g.first).wri 0x240 F.ses0_GAP_LAST k g.last).wri 0x240 F.ses0_GAP_INFO_MISSING k
      g.missing).wri 0x240 F.ses0_GAP_INFO_VALID k (b (x.gap k).isSome)).wri 0x240 F.ses0_GAP_OPENED k (g.opened / nsUnits)) s3

/-- R349: the selected requester's registers. -/
def showRequester (r : Nat) (s : State) : State :=
  let x := s.requester r
  [(F.ses0_REQ_CFG_REFILL, x.refill), (F.ses0_REQ_CFG_BURST, x.burst), (F.ses0_REQ_CFG_ENABLE, if x.enable then 1 else 0),
    (F.ses0_REQ_STATUS_TOKENS, x.tokens), (F.ses0_REQ_STATUS_REFUSED, x.refused)].foldl (fun t p => t.wr 0x240 p.1 p.2) s

/-- CTX_SEL_WRITE (R349): CTX_SEL is written, or REQ_SEL. -/
def execCtxSelWrite (requester : Bool) (index : Fin 8192) (s : State) : Out :=
  .next (s.written 0x240 fun s => if requester then showRequester (index.val % 4096) (s.wr 0x240 F.ses0_REQ_SEL index.val)
    else showCtx index.val (s.wr 0x240 F.ses0_CTX_SEL index.val))

/-! ## Events (R347) -/

/-- What an event record says besides its context: LEG 0xFF, GAP 0xFF and REQUESTER 0xFFFF where none applies; the numbers
concerned. -/
structure Event where
  code : Nat
  leg : Nat := 0xFF
  gap : Nat := 0xFF
  requester : Nat := 0xFFFF
  numbers : Option (Nat × Nat) := none
  deriving DecidableEq, Repr

def sesqPage (q : Nat) : Nat := 0x241 + q

/-- R347: the record goes to the context's event queue, or is lost where that is full, or where the host link is down and the
access fails (R488, R536; DEDUCED). FIRST and LAST of an event that
concerns no number are free values. -/
def sesEvent (c : Nat) (e : Event) (s : State) : State :=
  let q := (s.ctx c).evq
  let pg := sesqPage q
  if !s.on pg F.sesq_EQ_CFG_ENABLE then s
  else
    let size := 2 ^ s.rd pg F.sesq_EQ_CFG_LOG2_SIZE
    let tail := s.rd pg F.sesq_EQ_TAIL % size
    if !s.hostUp then ((s.bump pg F.sesq_EQ_STATUS_LOST).raise 0x240 5).raise 0x380 3
    else if (tail + 1) % size = s.rd pg F.sesq_EQ_HEAD % size then (s.bump pg F.sesq_EQ_STATUS_LOST).raise 0x240 5
    else
      let (f, l) := e.numbers.getD (Config.eventNumber s.free 0, Config.eventNumber s.free 1)
      let s1 := if e.numbers.isNone then { s with free := s.free + 1 } else s
      let bytes := leBytes 1 e.code ++ leBytes 1 e.leg ++ leBytes 2 c ++ leBytes 1 e.gap ++ leBytes 1 0 ++
        leBytes 2 e.requester ++ leBytes 8 f ++ leBytes 8 l ++ leBytes 8 s.nowNs
      ((s1.send (.hostWrite (s.rd pg F.sesq_EQ_BASE * 32 + 32 * tail) bytes)).wr pg F.sesq_EQ_TAIL ((tail + 1) % size)).vector
        (784 + q)

/-- The number of a leg in an event. -/
def legCode (b : Bool) : Nat := if b then 1 else 0

/-- An open gap ends with an event (R328, R336, R337). -/
def endGap (c k code leg : Nat) (s : State) : State :=
  let x := s.ctx c
  match x.gap k with
  | some g => sesEvent c { code := code, leg := leg, gap := k, numbers := some (g.first, g.last) } (s.putCtx c (x.putGap k none))
  | none => s
def endGaps (c code leg : Nat) (s : State) : State := (List.range 4).foldl (fun t k => endGap c k code leg t) s

/-! ## Rings (R340 to R342, R518) -/

/-- R340: a slot's bytes: header, and the frame as received, without its FCS, where it fits. -/
def slotBytes (x : Ctx) (f : Frame) (b : Bool) : List Byte :=
  let body := f.bytes.take (f.bytes.length - 4)
  let long := decide (body.length > 2 ^ x.slot - 32)
  leBytes 8 f.sseq ++ leBytes 8 (f.stamp / nsUnits) ++ leBytes 2 (f.stamp % nsUnits) ++
    leBytes 1 (f.tq + 16 * legCode b + (if long then 32 else 0)) ++ leBytes 1 0 ++
    leBytes 2 (if long then 0 else body.length) ++ leBytes 2 0 ++ leBytes 8 f.sseq ++ (if long then [] else body)

/-- R341: a forwarded data frame enters the write buffer, or goes on unstored where that is full. -/
def storeSlot (f : Frame) (b : Bool) (s : State) : State :=
  let x := s.ctx f.ctx
  if !x.ringEn then s
  else
    let a := x.slotOf f.sseq
    if s.ses.buffer.length < 4096 then
      { s with ses := { s.ses with buffer := s.ses.buffer ++ [⟨a, f.sseq, slotBytes x f b⟩] } }
    else
      let s1 := if s.inRegion 2 a 32 then s.ddrWrite (a + 0x18) (leBytes 8 (2 ^ 64 - 1)) else s.raise 0x340 1
      (s1.bump 0x240 F.ses0_ENGINE_STATUS_RING_SKIPS).raise 0x240 7

/-- RING_WRITE (R341): the oldest slot of the write buffer is written to DDR5, its COMMIT last; a slot that has left its
region is discarded (R518). -/
def execRingWrite (s : State) : Out :=
  .next (s.running fun s => match s.ses.buffer with
    | [] => s
    | w :: rest =>
      let s1 := { s with ses := { s.ses with buffer := rest } }
      if s1.inRegion 2 w.address w.bytes.length then
        let s2 := s1.ddrWrite (w.address + 0x18) (leBytes 8 (2 ^ 64 - 1))
        let s3 := (s2.ddrWrite w.address (w.bytes.take 0x18)).ddrWrite (w.address + 0x20) (w.bytes.drop 0x20)
        s3.ddrWrite (w.address + 0x18) (leBytes 8 w.seq)
      else ((s1.bump 0x240 F.ses0_ENGINE_STATUS_RING_SKIPS).raise 0x240 7).raise 0x340 1)

/-- R342, R344, R348: the frame that a slot's bytes hold of a number, if they hold it complete and not TOO_LONG. -/
def slotFrame (n : Nat) (bs : List Byte) : Option (List Byte) :=
  if leVal (slice bs 0 8) = n ∧ leVal (slice bs 0x18 8) = n ∧ !(leVal (slice bs 0x12 1)).testBit 5 then
    some (slice bs 0x20 (leVal (slice bs 0x14 2)))
  else none

/-- R344: what a ring holds of a number, the write buffer first; poison is unavailable (R526). -/
def State.ringHolds (s : State) (x : Ctx) (n : Nat) : Option (List Byte) :=
  let a := x.slotOf n
  match s.ses.buffer.reverse.find? fun w => w.address == a with
  | some w => slotFrame n w.bytes
  | none =>
    if s.poisoned a 32 then none
    else
      let len := leVal (s.ddrRead (a + 0x14) 2)
      if s.poisoned a (32 + len) then none else slotFrame n (s.ddrRead a (32 + len))

/-! ## The decision (R325 to R341) -/

/-- R325: the decision is written into the metadata; a program that has reached its END ends with it. -/
def decided (id code : Nat) (s : State) : State :=
  s.onFrame id fun f s =>
    let s1 := s.putFrame id { f with session := code }
    match f.run with
    | some r => if r.ended then ingressEnds id s1 else s1
    | none => s1
/-- A drop decided by the engine, with its count on the context's page (R338, R352); 255 where none counts it. -/
def dropDecided (id reason item : Nat) (s : State) : State :=
  s.onFrame id fun f s => decided id (256 + reason) (if item = 255 then s else s.count (0x0700 + item) f.ctx)

/-- R343: the slots that a request wants, as they stand (R344). -/
def State.snapshot (s : State) (f : Frame) : SMap (List Byte) :=
  let x := s.ctx f.ctx
  if x.state = 0 ∨ !x.ringEn then []
  else (List.range (min (f.req % 65536) 2047)).filterMap fun i =>
    (s.ringHolds x ((f.sseq + i) % 2 ^ 64)).map fun bs => (i, bs)

/-- A requester's count of refused numbers (R345). -/
def refuse (r n : Nat) (s : State) : State :=
  s.putRequester r { s.requester r with refused := sat 16 ((s.requester r).refused + n) }

/-- R344: the numbers refused are reported, counted and latched; so are those unavailable. -/
def reportRefused (c r : Nat) (numbers : Option (Nat × Nat)) (n : Nat) (s : State) : State :=
  (sesEvent c { code := 0x0A, requester := r, numbers := numbers } (refuse r n s)).raise 0x240 6
def reportMissing (c r : Nat) (numbers : Nat × Nat) (s : State) : State :=
  (sesEvent c { code := 0x0B, requester := r, numbers := some numbers } s).raise 0x240 6

/-- All of a request's numbers; none for a COUNT of 0. -/
def allNumbers (seq count : Nat) : Option (Nat × Nat) :=
  if count = 0 then none else some (seq, (seq + count - 1) % 2 ^ 64)

/-- R343: a retransmission request is queued, or refused whole where the queue is full; its frame is consumed. -/
def takeRequest (id : Nat) (f : Frame) (s : State) : State :=
  let r := f.req / 65536 % 4096
  let n := f.req % 65536
  let s1 := s.count 0x0708 f.ctx
  let s2 := if s1.ses.requests.length ≥ 256 then reportRefused f.ctx r (allNumbers f.sseq n) n s1
    else
      let q : RetxRequest := ⟨f.ctx, f.sseq, n, r, f.port, f.md, f.gen, s1.snapshot f⟩
      { s1 with ses := { s1.ses with requests := s1.ses.requests ++ [q] } }.wr 0x240 F.ses0_ENGINE_STATUS_REQ_QUEUED
        (s1.ses.requests.length + 1)
  dropDecided id 0xD4 255 s2

/-- A frame is forwarded: its count, its slot (R331, R341). -/
def forward (id : Nat) (f : Frame) (b : Bool) (s : State) : State :=
  decided id 2 (storeSlot f b (s.count (if b then 0x0701 else 0x0700) f.ctx))

/-- R335: a gap opens from `first` on. -/
def openGap (c first missing leg : Nat) (s : State) : State :=
  let x := s.ctx c
  let last := (first + missing - 1) % 2 ^ 64
  match (List.range 4).find? fun k => (x.gap k).isNone with
  | some k =>
    ((sesEvent c { code := 0x01, leg := leg, gap := k, numbers := some (first, last) }
      (s.putCtx c (x.putGap k (some ⟨first, last, missing, s.now, s.mono⟩)))).count 0x0707 c).raise 0x240 0
  | none => (sesEvent c { code := 0x04, leg := leg, numbers := some (first, last) } s).raise 0x240 2

/-- R337: gaps whose FIRST has left the window end. -/
def expireOutside (c leg : Nat) (s : State) : State :=
  (List.range 4).foldl (fun t k => match (t.ctx c).gap k with
    | some g =>
      if signed 64 (((t.ctx c).expected + 2 ^ 64 - g.first) % 2 ^ 64) > 65536 then (endGap c k 0x03 leg t).raise 0x240 1 else t
    | none => t) s

/-- R336: a number that fills an open gap, or comes late. -/
def fillGap (c n leg : Nat) (s : State) : State :=
  let x := s.ctx c
  let inside (g : Gap) : Bool := decide ((n + 2 ^ 64 - g.first) % 2 ^ 64 ≤ (g.last + 2 ^ 64 - g.first) % 2 ^ 64)
  match (List.range 4).find? fun k => match x.gap k with | some g => inside g | none => false with
  | none => s.count 0x0706 c
  | some k => match x.gap k with
    | none => s
    | some g =>
      if g.missing ≤ 1 then endGap c k 0x02 leg s
      else s.putCtx c (x.putGap k (some { g with missing := g.missing - 1 }))

/-- R334: the sequence window. -/
def window (id : Nat) (f : Frame) (b : Bool) (s : State) : State :=
  let c := f.ctx
  let x := s.ctx c
  let n := f.sseq
  let leg := legCode b
  let d := signed 64 ((n + 2 ^ 64 - x.expected) % 2 ^ 64)
  let next := (n + 1) % 2 ^ 64
  if 0 ≤ d ∧ d ≤ x.jumpLimit then
    let k := d.toNat
    let s1 := s.putCtx c { x with
      expected := next
      seen := (x.seen * 2 ^ (k + 1) + 1) % 2 ^ 65536 }
    let s2 := if k > 0 ∧ x.gapDetect then openGap c x.expected k leg s1 else s1
    forward id f b (expireOutside c leg s2)
  else if d > 0 then
    let s1 := endGaps c 0x03 leg (s.putCtx c { x with
      expected := next
      seen := 1 })
    forward id f b ((sesEvent c { code := 0x06, leg := leg, numbers := some (x.expected, n) } s1).raise 0x240 3)
  else if d ≥ -65536 then
    let i := (-d - 1).toNat
    if x.seen.testBit i then dropDecided id 0xD0 2 s
    else forward id f b (fillGap c n leg (s.putCtx c { x with seen := putBit x.seen i true }))
  else dropDecided id 0xD1 3 s

/-- R330: the leg of a data frame: true for leg B. -/
def Ctx.legOf (x : Ctx) (port : Nat) : Option Bool :=
  if port = x.portA then some false else if x.bValid ∧ port = x.portB then some true else none

/-- R333: a leg hears a data frame. -/
def hear (c n : Nat) (b : Bool) (s : State) : State :=
  let x := s.ctx c
  let y := x.putHeard b (some s.mono)
  let s1 := s.putCtx c (if b then { y with lastB := n } else { y with lastA := n })
  if (x.heard b).isNone then sesEvent c { code := 0x08, leg := legCode b } s1 else s1

/-- R326 to R338: a data frame. -/
def decideData (id : Nat) (f : Frame) (s : State) : State :=
  let x := s.ctx f.ctx
  if x.state = 0 then decided id 2 (s.bump 0x240 F.ses0_ENGINE_STATUS_NO_CONTEXT)
  else match x.legOf f.port with
    | none => dropDecided id 0xD2 4 s
    | some b =>
      let s1 := hear f.ctx f.sseq b s
      let y := s1.ctx f.ctx
      let s2 := if y.state = 1 then s1.putCtx f.ctx { y with
          state := 2
          expected := f.sseq } else s1
      if x.order ∧ b ≠ x.activeB then dropDecided id 0xD3 5 s2 else window id f b s2

/-- R325: the engine decides a frame handed to it; `corrected` when its context met an error that ECC corrected (R348). -/
def decideFrame (frame : Nat) (corrected : Bool) (s : State) : State :=
  s.onFrame frame fun f s =>
    s.given (f.session == 1) fun s =>
      let s1 := if corrected then s.raise 0x240 8 else s
      if f.req.testBit 31 then takeRequest frame f s1 else decideData frame f s1

/-- R348: the context of a frame being decided meets an uncorrectable error. -/
def loseContext (frame : Nat) (s : State) : State :=
  s.onFrame frame fun f s =>
    s.given (f.session == 1) fun s =>
      let x := s.ctx f.ctx
      let new_ := (f.sseq + 1) % 2 ^ 64
      let s1 := recomputeDdr (s.putCtx f.ctx { x.noGaps with
        state := 2
        expected := new_
        seen := 0 })
      let s2 := (sesEvent f.ctx { code := 0x0C, numbers := some (x.expected, new_) } s1).raise 0x240 9
      let all := (s2.palm.frames.filter fun p => p.2.session == 1 && p.2.ctx == f.ctx).map (·.1)
      all.foldl (fun t id => dropDecided id 0xD5 255 t) s2

/-! ## Evaluations (R333, R337) -/

/-- The evaluation in progress, at the last multiple of 1,024 ns, on the clock that no step of TIME moves. -/
def State.evaluation (s : State) : T80 := s.mono - (s.now - s.nowNs / 1024 * 1024 * nsUnits)
/-- A leg has heard nothing within LEG_TIMEOUT_US at the evaluation. -/
def State.silent (s : State) (x : Ctx) (b : Bool) : Bool :=
  match x.heard b with
  | some t => decide (s.evaluation > t + ns (1000 * x.legTimeout))
  | none => false

/-- R332, R333: the legs of a context evaluated; a standby leg that stays UP takes over. -/
def evalLegs (c : Nat) (s : State) : State :=
  let x := s.ctx c
  let down (b : Bool) (t : State) : State :=
    if s.silent x b then
      (sesEvent c { code := 0x07, leg := legCode b } (t.putCtx c ((t.ctx c).putHeard b none))).raise 0x240 4
    else t
  s.given (x.state != 0) fun s =>
    let s1 := down true (down false s)
    let y := s1.ctx c
    if x.order ∧ s.silent x x.activeB ∧ (y.heard (!x.activeB)).isSome then
      sesEvent c { code := 0x09, leg := legCode (!x.activeB) } (s1.putCtx c { y with activeB := !x.activeB })
    else s1

/-- R337: the gaps of a context evaluated. -/
def evalGaps (c : Nat) (s : State) : State :=
  let x := s.ctx c
  (List.range 4).foldl (fun t k => match x.gap k with
    | some g =>
      if x.gapTimeout ≠ 0 ∧ s.evaluation > g.since + ns (1000 * x.gapTimeout) then (endGap c k 0x03 0xFF t).raise 0x240 1
      else t
    | none => t) s

/-! ## Commands (R328) -/

/-- The command is refused: CMD_REFUSED is set and nothing changes. -/
def ctxRefused (c : Nat) (s : State) : State :=
  let s1 := s.putCtx c { s.ctx c with refused := true }
  if c = s.rd 0x240 F.ses0_CTX_SEL then s1.set1 0x240 F.ses0_CTX_STATUS_CMD_REFUSED else s1
/-- A command on a context, accepted in some of its states. -/
def onContext (c : Nat) (accepted : Ctx → Bool) (f : Nat → Ctx → State → State) (s : State) : State :=
  let x := s.ctx c
  if accepted x then f c x s else ctxRefused c s

/-- R328: ARM is accepted. -/
def State.armable (s : State) (x : Ctx) : Bool :=
  x.state == 0 && s.configured x.portA && (!x.bValid || s.configured x.portB) &&
    (!x.ringEn || s.inRegion 2 (x.ring * 256) (2 ^ (x.depth + x.slot)))

/-- R327, R328: ARM; a context with RING_EN is a client of DDR5 (R413). -/
def ctxArm (c : Nat) (s : State) : State :=
  onContext c s.armable (fun c x s => recomputeDdr (s.putCtx c { x.noGaps with
    state := if x.fixed then 2 else 1
    activeB := false
    heardA := none
    heardB := none
    expected := if x.fixed then x.seqSet else x.expected
    lastA := 0
    lastB := 0
    seen := 0 })) s
/-- R328: DISABLE: open gaps end without events. -/
def ctxDisable (c : Nat) (s : State) : State :=
  onContext c (fun x => x.state != 0) (fun c x s => recomputeDdr (s.putCtx c { x.noGaps with state := 0 })) s
/-- R328: SET_EXPECTED. -/
def setExpected (c : Nat) (s : State) : State :=
  onContext c (fun x => x.state == 2) (fun c x s => endGaps c 0x05 0xFF (s.putCtx c { x with
    expected := x.seqSet
    seen := 0 })) s
/-- R328: CLEAR_GAPS. -/
def clearGaps (c : Nat) (s : State) : State := onContext c (fun x => x.state == 2) (fun c _ s => endGaps c 0x05 0xFF s) s
/-- R328: the command with an OP, on a context; CMD_BUSY falls with it. -/
def ctxCommand (op c : Nat) (s : State) : State :=
  let s1 := match op with | 1 => ctxArm c s | 2 => ctxDisable c s | 3 => setExpected c s | 4 => clearGaps c s | _ => s
  if c = s.rd 0x240 F.ses0_CTX_SEL then s1.wr 0x240 F.ses0_CTX_STATUS_CMD_BUSY 0 else s1

/-! ## One CORE cycle of the engine (R325, R328, R331, R339) -/

/-- Takes effect. -/
def runSes (a : SesAct) (s : State) : State :=
  match a with
  | .decide frame corrected => decideFrame frame corrected s
  | .lost frame => loseContext frame s
  | .legs c => evalLegs c s
  | .gaps c => evalGaps c s
  | .command op c => ctxCommand op c s

/-- The place of a frame in its cycle: requests, which see the ring as it stood, come before data frames, and those in order of
ingress T80, then of the lower ingress port. -/
def State.framePlace (s : State) (id : Nat) : List Nat :=
  match s.frame? id with
  | some f => if f.req.testBit 31 then [0] else [1, f.stamp, f.port]
  | none => [0]
/-- The place of an act: frames, then the evaluations, then the commands, which take effect at the end of the cycle. -/
def State.sesPlace (s : State) : SesAct → List Nat
  | .decide frame _ => s.framePlace frame
  | .lost frame => s.framePlace frame
  | .legs _ => [2]
  | .gaps _ => [2]
  | .command _ _ => [3]
/-- The same of a command that waits behind in this cycle. -/
def State.sesPlaceOf (s : State) : Instr → Option (List Nat)
  | .sessionDecision frame _ => some (s.framePlace frame)
  | .contextLost frame => some (s.framePlace frame)
  | .legDown _ => some [2]
  | .gapExpired _ => some [2]
  | .contextArm => some [3]
  | .disable => some [3]
  | .setExpected => some [3]
  | .clearGaps => some [3]
  | _ => none
/-- An act waits for what comes before it in this cycle. -/
def State.sesWaits (s : State) (a : SesAct) : Bool :=
  (s.pending.any fun c => match s.sesPlaceOf c with | some p => decide (p < s.sesPlace a) | none => false) ||
    s.ses.deferred.any fun b => decide (s.sesPlace b < s.sesPlace a)
/-- The first of those that wait. -/
def State.nextSes (s : State) : Option SesAct :=
  s.ses.deferred.foldl (fun best a => match best with
    | some b => if s.sesPlace a < s.sesPlace b then some a else some b
    | none => some a) none
/-- Those that wait take effect in turn; `n` is their number. -/
def runSesActs : Nat → State → State
  | 0, s => s
  | n + 1, s => match s.nextSes with
    | some a => runSesActs n (runSes a { s with ses := { s.ses with deferred := s.ses.deferred.erase a } })
    | none => s
/-- Once no command of the cycle that is an act of the engine is left, the acts that wait are done. -/
def endSession (s : State) : State :=
  if s.pending.all fun c => (s.sesPlaceOf c).isNone then runSesActs s.ses.deferred.length s else s
/-- An act of the engine, in its place of the cycle. -/
def sesAct (a : SesAct) (s : State) : State :=
  endSession (if s.sesWaits a then { s with ses := { s.ses with deferred := s.ses.deferred ++ [a] } } else runSes a s)

/-- SESSION_DECISION (R325). -/
def execSessionDecision (frame : Nat) (corrected : Bool) (s : State) : Out := .next (s.running (sesAct (.decide frame corrected)))
/-- CONTEXT_LOST (R348). -/
def execContextLost (frame : Nat) (s : State) : Out := .next (s.running (sesAct (.lost frame)))
/-- LEG_DOWN (R332, R333). -/
def execLegDown (context : Fin 8192) (s : State) : Out := .next (s.running (sesAct (.legs context.val)))
/-- GAP_EXPIRED (R337). -/
def execGapExpired (context : Fin 8192) (s : State) : Out := .next (s.running (sesAct (.gaps context.val)))

/-- R328: CTX_CMD is written: the command acts on the selected context; CMD_BUSY reads 1 until it takes effect. -/
def writeCtxCmd (op : Nat) (s : State) : State :=
  if 1 ≤ op ∧ op ≤ 4 then
    sesAct (.command op (s.rd 0x240 F.ses0_CTX_SEL)) (s.wr 0x240 F.ses0_CTX_STATUS_CMD_BUSY 1)
  else s
/-- CONTEXT_ARM (R327, R328). -/
def execContextArm (s : State) : Out := .next (s.written 0x240 (writeCtxCmd 1))
/-- DISABLE (R328). -/
def execDisable (s : State) : Out := .next (s.written 0x240 (writeCtxCmd 2))
/-- SET_EXPECTED (R328). -/
def execSetExpected (s : State) : Out := .next (s.written 0x240 (writeCtxCmd 3))
/-- CLEAR_GAPS (R328). -/
def execClearGaps (s : State) : Out := .next (s.written 0x240 (writeCtxCmd 4))

/-! ## Retransmission (R343 to R346) -/

/-- TOKEN_REFILL (R345): a TAI millisecond. A bucket starts when ENABLE is written 1, so only those of enabled requesters gain
(DEDUCED). -/
def execTokenRefill (s : State) : Out :=
  .next (s.running fun s => s.periodic 7 1000000 fun s =>
    (List.range 4096).foldl (fun t r =>
      let x := t.requester r
      t.putRequester r (if !x.enable || decide (x.tokens ≥ x.burst) then x else { x with tokens := min x.burst (x.tokens + x.refill) })) s)

/-- R345: REQ_CFG of the selected requester is written; the bucket starts full when ENABLE is written 1. -/
def writeReqCfg (data : Nat) (s : State) : State :=
  let r := s.rd 0x240 F.ses0_REQ_SEL
  let x := s.requester r
  let burst := bits data 16 16
  let on := data.testBit 32
  let s1 := s.putRequester r { x with
    refill := bits data 0 16
    burst := burst
    enable := on
    tokens := if on then burst else x.tokens }
  ((s1.wr 0x240 F.ses0_REQ_CFG_REFILL data).wr 0x240 F.ses0_REQ_CFG_BURST burst).wr 0x240 F.ses0_REQ_CFG_ENABLE
    (if on then 1 else 0)

/-- REQ_ENABLE (R345): REQ_CFG written with ENABLE 1. -/
def execReqEnable (refill burst : BitVec 16) (s : State) : Out :=
  .next (s.written 0x240 fun s => writeReqCfg (refill.toNat + 2 ^ 16 * burst.toNat + 2 ^ 32) s)

/-- What becomes of a request's numbers, in turn (R344): tokens left, replies, refused and unavailable numbers. -/
structure Served where
  tokens : Nat
  replies : List (Nat × List Byte) := []
  refused : List Nat := []
  missing : List Nat := []

/-- One number of a request. -/
def Served.serve (q : RetxRequest) (limit : Nat) (bad : List Nat) (v : Served) (i : Nat) : Served :=
  let n := (q.seq + i) % 2 ^ 64
  if i ≥ limit ∨ v.tokens = 0 then { v with refused := v.refused ++ [n] }
  else match q.held.at? i with
    | some bs =>
      if bad.contains i then { v with missing := v.missing ++ [n] }
      else { v with
        tokens := v.tokens - 1
        replies := v.replies ++ [(n, bs)] }
    | none => { v with missing := v.missing ++ [n] }

/-- R346: a reply enters the device as a frame that waits for the Palm. -/
def replyFrame (q : RetxRequest) (n : Nat) (bs : List Byte) (s : State) : State :=
  let tc := min 6 (s.rd 0x240 F.ses0_ENGINE_CFG_RETX_TC)
  let eg := mdGet q.md 0x32 2
  let bank := s.rd (0x440 + sliceOf q.port) F.ucs_BANK_STATUS_ACTIVE_BANK
  let md0 := slice q.md 0 10 ++ leBytes 1 (mdGet q.md 0x0A 1 % 16 + 16 * bank) ++ leBytes 1 4 ++ leBytes 2 q.port ++
    leBytes 2 0 ++ slice q.md 0x10 4 ++ leBytes 28 0 ++ slice q.md 0x30 2 ++
    leBytes 2 (if eg ≥ 32768 then eg else 32768 + q.port) ++ leBytes 1 tc ++ leBytes 1 tc ++ leBytes 2 0 ++ leBytes 8 n ++
    leBytes 16 0 ++ slice q.md 0x50 48
  let id := s.palm.nextFrame
  let f : Frame := { port := q.port, bytes := bs ++ fcsOf bs, md := md0, stage := .decided, flags := 128, verdict := some 0
                     session := 2, ctx := q.ctx, sseq := n, gen := q.gen, searched := true, reply := true }
  ({ s with palm := { s.palm with nextFrame := id + 1 } }.putFrame id f).count 0x0709 q.ctx

/-- RETX_REQUEST_SERVE (R344): the oldest request is served. `bad` lists the places among its numbers whose slots fail ECC
on the reply read (R348); a request whose own entry is uncorrectable is lost with cause 10 (R351). -/
def execRetxRequestServe (bad : List Nat) (lost : Bool) (s : State) : Out :=
  .next (s.running fun s => match s.ses.requests with
    | [] => s
    | q :: rest =>
      let s0 := { s with ses := { s.ses with requests := rest } }.wr 0x240 F.ses0_ENGINE_STATUS_REQ_QUEUED rest.length
      let x := s0.ctx q.ctx
      let r := s0.requester q.requester
      if lost then s0.raise 0x240 10
      else if x.state = 0 ∨ !x.ringEn ∨ !r.enable ∨ q.count = 0 then
        reportRefused q.ctx q.requester (allNumbers q.seq q.count) q.count s0
      else
        let limit := max 1 (s0.rd 0x240 F.ses0_ENGINE_CFG_REQ_MAX_COUNT)
        let v := (List.range q.count).foldl (Served.serve q limit bad) { tokens := r.tokens }
        let s1 := v.replies.foldl (fun t p => replyFrame q p.1 p.2 t) (s0.putRequester q.requester { r with tokens := v.tokens })
        let s2 := match v.refused.head?, v.refused.getLast? with
          | some a, some b => reportRefused q.ctx q.requester (some (a, b)) v.refused.length s1
          | _, _ => s1
        match v.missing.head?, v.missing.getLast? with
        | some a, some b => reportMissing q.ctx q.requester (a, b) s2
        | _, _ => s2)

/-! ## Register writes of the SES pages (R329, R340, R350) -/

/-- R329: the bits of a register that a write may change while the context is not DISABLED. -/
def liveMask (off : Nat) : Nat :=
  match off with
  | 0x0A0 => 0xFFFF0000000003F0
  | 0x0A8 => 0x00000000FFFFFFFF
  | _ => 0

/-- CTX_CFG, CTX_CFG2, RING_BASE or SEQ_SET of the selected context written whole (R329, R340). -/
def writeCtxReg (off data : Nat) (s : State) : State :=
  let c := s.rd 0x240 F.ses0_CTX_SEL
  let x := s.ctx c
  let drop (t : State) : State := t.set1 0x240 F.hdr_PAGE_STATUS_WRITE_DROPPED
  let keep (old : Nat) : Nat := if x.state = 0 then data else (old &&& (2 ^ 64 - 1 - liveMask off)) + (data &&& liveMask off)
  let note (old new_ : Nat) (t : State) : State := if new_ = old then t else drop t
  match off with
  | 0x0A0 =>
    let d := data &&& 0xFFFF07FF03FF03FF
    let v := keep x.cfg &&& 0xFFFF07FF03FF03FF
    showCtxCfg c (note v d (s.putCtx c { x with cfg := v }))
  | 0x0A8 =>
    let d := data &&& 0x00000F1FFFFFFFFF
    let v := keep x.cfg2 &&& 0x00000F1FFFFFFFFF
    if bits d 32 5 < 4 ∨ bits d 32 5 > 20 ∨ bits d 40 4 < 8 ∨ bits d 40 4 > 14 then drop s
    else showCtxCfg c (note v d (s.putCtx c { x with cfg2 := v }))
  | 0x0B0 => if x.state = 0 then showCtxCfg c (s.putCtx c { x with ring := data / 256 }) else drop s
  | _ => showCtxCfg c (s.putCtx c { x with seqSet := data })
where
  /-- The written registers as they read afterwards. -/
  showCtxCfg (c : Nat) (s : State) : State :=
    let x := s.ctx c
    let s1 := [F.ses0_CTX_CFG_TYPE, F.ses0_CTX_CFG_START_MODE, F.ses0_CTX_CFG_GAP_DETECT, F.ses0_CTX_CFG_RING_EN,
      F.ses0_CTX_CFG_EVQ, F.ses0_CTX_CFG_PORT_A, F.ses0_CTX_CFG_PORT_B, F.ses0_CTX_CFG_B_VALID,
      F.ses0_CTX_CFG_GAP_TIMEOUT_US].foldl (fun t f => t.wr 0x240 f (bits x.cfg f.lo f.w)) s
    let s2 := [F.ses0_CTX_CFG2_LEG_TIMEOUT_US, F.ses0_CTX_CFG2_JUMP_LIMIT, F.ses0_CTX_CFG2_DEPTH_LOG2,
      F.ses0_CTX_CFG2_SLOT_LOG2].foldl (fun t f => t.wr 0x240 f (bits x.cfg2 f.lo f.w)) s1
    (s2.wr 0x240 F.ses0_RING_BASE x.ring).wr 0x240 F.ses0_SEQ_SET x.seqSet

/-- EQ_CFG of an event queue written whole (R350). -/
def writeEqCfg (q data : Nat) (s : State) : State :=
  let pg := sesqPage q
  let l := bits data 8 4
  if l < 4 ∨ l > 12 then s.set1 pg F.hdr_PAGE_STATUS_WRITE_DROPPED
  else
    let s1 := if s.on pg F.sesq_EQ_CFG_ENABLE then s else s.wr pg F.sesq_EQ_CFG_LOG2_SIZE l
    s1.wr pg F.sesq_EQ_CFG_ENABLE (data % 2)

/-- CMD_REFUSED of the selected context cleared by a write of 1 (R349). -/
def clearCmdRefused (s : State) : State :=
  let c := s.rd 0x240 F.ses0_CTX_SEL
  (s.putCtx c { s.ctx c with refused := false }).wr 0x240 F.ses0_CTX_STATUS_CMD_REFUSED 0
/-- REFUSED of the selected requester cleared by a write of any 1 (R349). -/
def clearRefused (s : State) : State :=
  let r := s.rd 0x240 F.ses0_REQ_SEL
  (s.putRequester r { s.requester r with refused := 0 }).wr 0x240 F.ses0_REQ_STATUS_REFUSED 0

end Sys2Proof.Machine
end

