-- ==== Sys2Proof/Machine/Visor.lean ====
section
/-! DEFINITION. Visor (spec/12): counter events, event selectors, bandwidth windows, snapshots, frame tagging, counter
integrity. -/

namespace Sys2Proof.Machine

def cntPage (p : Nat) : Nat := 0x1000 + p

/-! ## Counters (R386, R394, R404) -/

/-- R391: the events that count bytes. -/
def countsBytes (event : Nat) : Bool :=
  event == 0x0101 || event == 0x0103 || (event / 256 == 2 && (event % 16 == 1 || event % 16 == 3))

/-- COUNTER_EVENT (R386): a block's event message, with its bytes and its instant (R387). -/
def execCounterEvent (event : BitVec 16) (inst : Fin 8192) (bytes : Nat) (at_ : Nat) (s : State) : Out :=
  .next (s.running fun s =>
    let e := event.toNat
    s.given (eventDefined e && decide (at_ ≤ s.now)) (·.count e inst.val (if countsBytes e then bytes else 1) at_))

/-- EVSEL_WRITE (R393, R394): EVSEL of a general counter written whole. -/
def writeEvsel (g data : Nat) (s : State) : State :=
  let p := 0x0C0 + g / 256
  let j := g % 256
  if data.testBit 32 && !eventDefined (data % 65536) then s.set1 p F.hdr_PAGE_STATUS_WRITE_DROPPED
  else
    let old := s.selectorAt g (s.now + 1)
    let s1 := (((s.wri p F.vsre_EVSEL_EVENT j data).wri p F.vsre_EVSEL_INSTANCE j (data / 2 ^ 16)).wri p F.vsre_EVSEL_ANY j
      (data / 2 ^ 31)).wri p F.vsre_EVSEL_ENABLE j (data / 2 ^ 32)
    { s1 with vsr := { s1.vsr with selOld := s1.vsr.selOld.enter g (old, s.now) } }
def execEvselWrite (counter : Fin 4096) (data : Word) (s : State) : Out :=
  .next (s.written (0xC0 + counter.val / 256) fun s => writeEvsel counter.val data.toNat s)

/-- The offset within a CNT page is a counter's (R390, R391). -/
def isCounter (page off : Nat) : Bool :=
  (fieldsOf (layoutOf page)).any fun f => f.w == 64 && (f.index? off).isSome && !(layoutOf page == .cntp && decide (0x400 ≤ off))

/-- COUNTER_ECC_ERROR (R404): an error of a counter that is corrected (0), lies in one copy (1), or in both (2). -/
def counterEcc (k off kind : Nat) (s : State) : State :=
  match kind with
  | 0 => s.raise 0xB0 3
  | 1 => s.raise 0xB0 4
  | _ =>
    let a := cntPage k * 0x1000 + off
    let s1 := { s with
      regs := s.regs.put 0 (a * 8) (2 ^ 64 - 1)
      vsr := { s.vsr with damaged := if s.vsr.damaged.contains a then s.vsr.damaged else a :: s.vsr.damaged } }
    (((s1.wr 0xB0 F.vsr0_DAMAGED_PAGE (cntPage k)).wr 0xB0 F.vsr0_DAMAGED_OFFSET off).bump 0xB0 F.vsr0_DAMAGED_COUNT
      (if s.vsr.damaged.contains a then 0 else 1)).raise 0xB0 5
def execCounterEccError (page : Fin 4096) (offset : Fin 512) (kind : Fin 3) (s : State) : Out :=
  .next (s.given (isCounter (cntPage page.val) (8 * offset.val)) (counterEcc page.val (8 * offset.val) kind.val))

/-! ## Bandwidth windows (R402, R403) -/

def State.bw (s : State) (p : Nat) : Bw := s.vsr.bw.val {} p
def State.putBw (s : State) (p : Nat) (b : Bw) : State := { s with vsr := { s.vsr with bw := s.vsr.bw.put {} p b } }
/-- The window code that the VSR registers give a port. -/
def State.bwCode (s : State) (p : Nat) : Nat :=
  s.rdi 0xB2 F.vsr2_BW_PROFILE_WINDOW (s.rdx 0xB2 F.vsr2_BW_PORT_SEL_PROFILE (p / 32) (p % 32))
/-- The window code in force on a port at a ns (R406). -/
def Bw.inForce (b : Bw) (n : Nat) : Nat := if n < b.start then b.prev else b.code
/-- BW_WINDOW of a port as it reads. -/
def State.bwWindow (s : State) (p : Nat) : Nat := (s.bw p).inForce s.nowNs

/-- R402: a change of the registers: the ports whose code changes start afresh at the next boundary of the new window. -/
def refreshBw (s : State) : State :=
  (List.range 1024).foldl (fun t p =>
    let b := t.bw p
    let c := t.bwCode p
    if c = b.code then t
    else
      let w := bwLength c
      t.putBw p { code := c, prev := b.inForce t.nowNs, start := if w = 0 then t.nowNs else (t.nowNs + w - 1) / w * w }) s

def State.bwRegs (s : State) (p : Nat) : BwRegs :=
  let g := cntPage p
  ⟨s.rd g F.cntp_BW_END, s.rd g F.cntp_BW_RX_LAST, s.rd g F.cntp_BW_TX_LAST, s.rd g F.cntp_BW_RX_PEAK, s.rd g F.cntp_BW_TX_PEAK⟩
def State.putBwRegs (s : State) (p : Nat) (r : BwRegs) : State :=
  let g := cntPage p
  ((((s.wr g F.cntp_BW_END r.end_).wr g F.cntp_BW_RX_LAST r.rx).wr g F.cntp_BW_TX_LAST r.tx).wr g F.cntp_BW_RX_PEAK r.rxPeak).wr g
    F.cntp_BW_TX_PEAK r.txPeak

/-- The largest count of the windows before window `k`. -/
def largest (m : SMap Nat) (k : Nat) : Nat := (m.filter fun p => decide (p.1 < k)).foldl (fun n p => max n p.2) 0
/-- The windows of a port that end at or before a ns close, in turn. -/
def closeBw (p e : Nat) (s : State) : State :=
  let b := s.bw p
  let w := bwLength b.code
  if w = 0 ∨ e ≤ max b.last b.start then s
  else
    let k := e / w
    let r := s.bwRegs p
    let s1 := s.putBwRegs p ⟨e, b.rx.val 0 (k - 1), b.tx.val 0 (k - 1), max r.rxPeak (largest b.rx k), max r.txPeak (largest b.tx k)⟩
    s1.putBw p { b with
      last := e
      rx := b.rx.filter fun x => decide (k ≤ x.1)
      tx := b.tx.filter fun x => decide (k ≤ x.1) }

/-- Frames of a port whose counts at instants below `t` are not yet known (R387). -/
def State.unknownBefore (s : State) (port : Nat → Bool) (t : T80) : Bool :=
  (s.palm.frames.any fun x => port x.2.port && x.2.verdict.isNone && decide (x.2.stamp < t)) ||
    (s.palm.tails.any fun x => port x.2.port && decide (x.2.stamp < t)) ||
    (s.palm.replicas.any fun x => port x.2.port && x.2.phase == 3 &&
      (match x.2.egress with | some e => decide (e.1 < t) | none => false))

/-- R402: the end of the last window of a port at or before a ns. -/
def State.windowEnd (s : State) (p n : Nat) : Nat :=
  let w := bwLength (s.bw p).code
  if w = 0 then 0 else n / w * w

/-- R396, R402: the windows of a port close; those that end after the instant of a snapshot not yet closed wait for no
snapshot: it keeps the registers as they stood, and the peaks restart. -/
def closeWindows (p : Nat) (s : State) : State :=
  let e := s.windowEnd p s.nowNs
  match s.vsr.due with
  | some t =>
    if e * nsUnits > t ∧ t ≤ s.now ∧ (s.vsr.kept.at? p).isNone then
      let s1 := closeBw p (s.windowEnd p (t / nsUnits)) s
      let r := s1.bwRegs p
      let s2 := { s1 with vsr := { s1.vsr with kept := s1.vsr.kept.enter p r } }
      closeBw p e (s2.putBwRegs p { r with
        rxPeak := 0
        txPeak := 0 })
    else closeBw p e s
  | none => closeBw p e s

/-- BW_WINDOW_CLOSE (R402): the counts of a port's window are final. -/
def execBwWindowClose (port : Fin 1024) (s : State) : Out :=
  .next (
    let p := port.val
    let b := s.bw p
    let e := s.windowEnd p s.nowNs
    s.given (decide (max b.last b.start < e) && !s.unknownBefore (· == p) (e * nsUnits)) (closeWindows p))

/-- BW_END_READ (R37, R403): a read of BW_END through BAR0, or through BAR2 where the page allows it; all ones where R52 answers. -/
def execBwEndRead (port : Fin 1024) (bar2 : Bool) (s : State) : Out :=
  .next (
    let p := port.val
    if s.stopped then s.send (.reply "READ" [2 ^ 64 - 1])
    else if (bar2 && !s.on (cntPage p) F.hdr_PAGE_CTRL_USER_READ) || s.shut (cntPage p) then s.send (.reply "READ" [0])
    else
      let r := s.bwRegs p
      { s with vsr := { s.vsr with latched := s.vsr.latched.enter (2 * p + (if bar2 then 1 else 0)) (r.rx, r.tx) } }.send
        (.reply "READ" [r.end_]))

/-! ## Snapshots (R395 to R398) -/

/-- R14, R395, R408: a SNAP_AT write commits with the staged companion; a snapshot is a client of DDR5 (R413). -/
def writeSnapAt (nsWord : Nat) (s : State) : State :=
  if s.on 0xB0 F.vsr0_SNAP_STATUS_PENDING || s.on 0xB0 F.vsr0_SNAP_STATUS_WRITING then s.set1 0xB0 F.hdr_PAGE_STATUS_WRITE_DROPPED
  else
    let t := nsWord * nsUnits + s.host.staged.val 0 0xB0088 % nsUnits
    let late := decide (t ≤ s.now)
    let s1 := (s.wrPair 0xB0 F.vsr0_SNAP_AT_NS F.vsr0_SNAP_AT_FRAC t).wr 0xB0 F.vsr0_SNAP_STATUS_PENDING 1
    let s2 := { s1 with vsr := { s1.vsr with
      due := some (if late then s.now else t)
      late := late
      once := false
      after := []
      kept := [] } }
    recomputeDdr (if !late then s2
      else
        let s3 := (s2.set1 0xB0 F.vsr0_SNAP_STATUS_LATE).raise 0xB0 0
        if s.on 0xB0 F.vsr0_SNAP_STATUS_LATE then s3 else s3.vector 129)
/-- SNAP_AT_WRITE (R395). -/
def execSnapAtWrite (ns : Word) (s : State) : Out := .next (s.written 0xB0 fun s => writeSnapAt ns.toNat s)

/-- SNAP_CANCEL (R395, R398): a snapshot whose instant has passed still completes. -/
def snapCancel (s : State) : State :=
  match s.vsr.due with
  | none => s
  | some t =>
    if t ≤ s.now then { s with vsr := { s.vsr with once := true } }
    else recomputeDdr ({ s with vsr := { s.vsr with
        due := none
        after := []
        kept := [] } }.wr 0xB0 F.vsr0_SNAP_STATUS_PENDING 0)
def execSnapCancel (s : State) : Out := .next (s.written 0xB0 fun s => snapCancel s)

/-- R395: the period of a schedule in ns; 0 for one snapshot. -/
def State.snapPeriod (s : State) : Nat :=
  let p := s.rd 0xB0 F.vsr0_SNAP_CFG_PERIOD_LOG2
  if 22 ≤ p ∧ p ≤ 40 then 2 ^ p else 0

/-- R395: the instant of a schedule, T_S + n x 2^P, that follows one. -/
def State.nextSnap (s : State) (t : T80) : T80 :=
  let t0 := s.rdPair 0xB0 F.vsr0_SNAP_AT_NS F.vsr0_SNAP_AT_FRAC
  t0 + ((t - t0) / ns s.snapPeriod + 1) * ns s.snapPeriod
/-- R397: the slot of a snapshot's number in DDR5, and whether it lies in the capture region. -/
def State.snapSlot (s : State) (seq : Nat) : Nat := s.rd 0xB0 F.vsr0_SNAP_BASE * 4096 + seq % 2 * 0x1001000
def State.snapFits (s : State) (seq : Nat) : Bool := s.inRegion 3 (s.snapSlot seq) 0x1001000

/-- R396: the registers of the CNT pages that a snapshot at an instant holds. -/
def State.imageRegs (s : State) (t : T80) : SMap Nat :=
  let cnt := s.regs.filterMap fun p =>
    let a := p.1 / 8
    if 0x1000 ≤ pageOfKey p.1 ∧ pageOfKey p.1 < 0x2000 ∧ p.1 % 64 = 0 ∧ 0x80 ≤ a % 0x1000 then
      some (a, if s.vsr.damaged.contains a then p.2 else (p.2 + 2 ^ 64 - s.vsr.after.val 0 a % 2 ^ 64) % 2 ^ 64)
    else none
  let put (m : SMap Nat) (p : Nat) (f : Fld) (v : Nat) : SMap Nat := m.put 0 (cntPage p * 0x1000 + f.off) v
  let kept := s.vsr.kept.foldl (fun m x =>
    put (put (put (put (put m x.1 F.cntp_BW_END x.2.end_) x.1 F.cntp_BW_RX_LAST x.2.rx) x.1 F.cntp_BW_TX_LAST x.2.tx) x.1
      F.cntp_BW_RX_PEAK x.2.rxPeak) x.1 F.cntp_BW_TX_PEAK x.2.txPeak) cnt
  (List.range 1024).foldl (fun m p => put m p F.cntp_BW_WINDOW ((s.bw p).inForce (t / nsUnits))) kept

/-- R396, R397: the counts of the snapshot due close; its peaks restart, the next instant of its schedule is set, and the slot's
COMMIT is written as all ones. -/
def closeSnapshot (t : T80) (s : State) : State :=
  let img : SnapImage := ⟨t, s.codeAt t, s.vsr.late, !s.vsr.damaged.isEmpty, s.imageRegs t⟩
  let s1 := (List.range 1024).foldl (fun u p =>
    if (s.vsr.kept.at? p).isSome then u
    else (u.wr (cntPage p) F.cntp_BW_RX_PEAK 0).wr (cntPage p) F.cntp_BW_TX_PEAK 0) s
  let again := s.snapPeriod ≠ 0 ∧ !s.vsr.once
  let seq := s.vsr.seq + 1
  let s2 := if s.snapFits seq then s1.ddrWrite (s.snapSlot seq + 0x30) (leBytes 8 (2 ^ 64 - 1)) else s1
  ({ s2 with vsr := { s2.vsr with
      due := if again then some (s.nextSnap t) else none
      late := false
      after := []
      kept := []
      image := some img
      slow := false } }.wr 0xB0 F.vsr0_SNAP_STATUS_WRITING 1).wr 0xB0 F.vsr0_SNAP_STATUS_PENDING (if again then 1 else 0)

/-- SNAPSHOT_CLOSE (R396): 64 ns after the last event before T_S has become known, with every window ending at or before T_S
closed. -/
def execSnapshotClose (s : State) : Out :=
  .next (s.running fun s => match s.vsr.due with
    | none => s
    | some t =>
      let windows := s.vsr.bw.all fun x => (s.vsr.kept.at? x.1).isSome ||
        decide (s.windowEnd x.1 (t / nsUnits) ≤ max x.2.last x.2.start)
      s.given (decide (t + ns 64 ≤ s.now) && s.vsr.image.isNone && windows && !s.unknownBefore (fun _ => true) t)
        (closeSnapshot t))

/-- R397: the header of a slot. -/
def snapHeader (s : State) (m : SnapImage) (seq : Nat) (commit : Nat) : List Byte :=
  ([0x54, 0x4B, 0x53, 0x4E] : List Byte) ++ leBytes 2 1 ++ leBytes 1 (seq % 2) ++
    leBytes 1 ((if m.late then 1 else 0) + (if m.damaged then 2 else 0)) ++ leBytes 8 seq ++ leBytes 8 (m.at_ / nsUnits) ++
    leBytes 2 (m.at_ % nsUnits) ++ leBytes 1 m.tq ++ leBytes 5 0 ++ leBytes 8 (s.rd 0 F.idn_SERIAL) ++ leBytes 8 s.nowNs ++
    leBytes 8 commit

/-- R397: a slot of DDR5 takes header and image; everything else in it is zero. -/
def writeImage (base seq : Nat) (m : SnapImage) (s : State) : State :=
  let size := 0x1001000
  let s1 := { s with
    ddr := s.ddr.filter fun p => decide (p.1 < base ∨ base + size ≤ p.1)
    poison := s.poison.filter fun p => decide (p.1 < base / 64 ∨ (base + size) / 64 ≤ p.1) }
  let s2 := (List.range 4096).foldl (fun t k =>
    if present (cntPage k) then t.ddrWrite (base + 0x1000 + 0x1000 * k) (leBytes 8 (s.word (cntPage k) 0)) else t) s1
  let s3 := m.regs.foldl (fun t p => t.ddrWrite (base + 0x1000 + (p.1 - 0x1000000)) (leBytes 8 p.2)) s2
  s3.ddrWrite base (snapHeader s m seq seq)

/-- SNAPSHOT_COMPLETE (R397): the image and its header are written, COMMIT last; a slot outside the capture region has its
writes discarded (R518). -/
def completeSnapshot (m : SnapImage) (s : State) : State :=
  let seq := s.vsr.seq + 1
  let s1 := if s.snapFits seq then writeImage (s.snapSlot seq) seq m s else s.raise 0x340 1
  let s2 := { s1 with vsr := { s1.vsr with
    image := none
    seq := seq } }
  let s3 := (((s2.wr 0xB0 F.vsr0_SNAP_STATUS_WRITING 0).wr 0xB0 F.vsr0_SNAP_STATUS_SLOT seq).wr 0xB0
    F.vsr0_SNAP_STATUS_SNAP_SEQ seq).wrPair 0xB0 F.vsr0_SNAP_LAST_NS F.vsr0_SNAP_LAST_FRAC m.at_
  recomputeDdr (((s3.wr 0xB0 F.vsr0_SNAP_LAST_TQ m.tq).count 0x0A0C 0).vector 128)
def execSnapshotComplete (s : State) : Out :=
  .next (s.running fun s => match s.vsr.image with
    | some m => completeSnapshot m s
    | none => s)

/-- SNAP_SLOW (R397): the write is not complete 2,000,000 ns after T_S. -/
def execSnapSlow (s : State) : Out :=
  .next (s.running fun s => match s.vsr.image with
    | some m => s.given (!s.vsr.slow && decide (m.at_ + ns 2000000 < s.now)) fun s =>
        { s with vsr := { s.vsr with slow := true } }.raise 0xB0 1
    | none => s)

/-! ## Frame tagging (R399) -/

/-- TRACE_ENABLE (R399): TRACE_CFG written with ENABLE 1, SEED_DRBG and RATE_LOG2: from 0 to 1 the LFSR takes its seed,
and the ring is a client of DDR5 (R413). -/
def traceEnable (slice : Nat) (drbg : Bool) (rate : Nat) (s : State) : State :=
  let pg := trcPage slice
  let s1 := ((s.wr pg F.trc_TRACE_CFG_ENABLE 1).wr pg F.trc_TRACE_CFG_SEED_DRBG (if drbg then 1 else 0)).wr pg
    F.trc_TRACE_CFG_RATE_LOG2 rate
  if s.on pg F.trc_TRACE_CFG_ENABLE then s1
  else
    let seed := if drbg then (Config.drbg s.free).toNat % 2 ^ 32 else max 1 (s.rd pg F.trc_TRACE_SEED)
    recomputeDdr { s1 with
      free := if drbg then s1.free + 1 else s1.free
      palm := { s1.palm with lfsr := s1.palm.lfsr.put 0 slice seed } }
def execTraceEnable (slice : Fin 32) (drbg : Bool) (rate : BitVec 5) (s : State) : Out :=
  .next (s.written (trcPage slice.val) fun s => traceEnable slice.val drbg rate.toNat s)

end Sys2Proof.Machine
end

