-- ==== Sys2Proof/Machine/Dram.lean ====
section
/-! DEFINITION. DDR5 (spec/17): population, training, regions, margins, ECC, scrub, temperature, self-refresh. -/

namespace Sys2Proof.Machine

def GiB : Nat := 0x40000000
/-- The DDR page of a channel (R530). -/
def ddrPage (c : Nat) : Nat := 0x348 + c
def State.channels (s : State) : Nat := s.rd 0x340 F.ddr0_DDR_STATUS_CHANNELS
/-- R517: the channel of an address. -/
def State.channelOf (s : State) (a : Nat) : Nat := a / 256 % s.channels

/-! ## Population (R514 to R517) -/

/-- R514: the organisation of a module is listed. -/
def dimmListed (d : Dimm) : Bool :=
  d.rdimm && [(32, true, 0, 16), (32, false, 1, 16), (64, true, 1, 16), (64, true, 0, 32), (128, true, 1, 32), (256, true, 2, 32)].contains
    (d.gib, d.x4, d.ranks.val, d.gbit)

/-- R516: FAIL_CODE of a populated channel before training; 0 for a qualifying one. -/
def dimmCode (first : Option Dimm) (d : Dimm) : Nat :=
  if !d.readable then 4 else if !dimmListed d || d.speeds = 0 then 1 else if some d = first then 0 else 2

def State.dimmCodeOf (s : State) (c : Nat) : Nat :=
  match s.dram.dimms.at? c with | some d => dimmCode (s.dram.dimms.at? 0) d | none => 0
/-- The channel holds a qualifying DIMM. -/
def State.qualifies (s : State) (c : Nat) : Bool := (s.dram.dimms.at? c).isSome && s.dimmCodeOf c == 0

/-- R516: the SPD hubs have been read: what the channel pages report of each DIMM. -/
def readPopulation (pop : List (Option Dimm)) (s : State) : State :=
  let dimms := (List.range 8).foldl (fun m c => match pop.getD c none with | some d => SMap.enter m c d | none => m) ([] : SMap Dimm)
  (List.range 8).foldl (fun t c =>
    match SMap.at? dimms c with
    | none => t
    | some (d : Dimm) =>
      let u := (t.wr (ddrPage c) F.ddrc_CH_STATUS_POPULATED 1).wr (ddrPage c) F.ddrc_CH_STATUS_FAIL_CODE (t.dimmCodeOf c)
      if d.readable then ((u.wr (ddrPage c) F.ddrc_CH_STATUS_X4 d.x4.toNat).wr (ddrPage c) F.ddrc_CH_STATUS_RANKS d.ranks.val).wr
        (ddrPage c) F.ddrc_CH_STATUS_CAPACITY_GIB d.gib else u)
    { s with dram := { s.dram with dimms := dimms } }

/-- R523: training starts: of every qualifying channel, or exit from self-refresh of those that were in use. -/
def startTraining (s : State) : State :=
  let cs := if s.dram.selfRefresh && decide (0 < s.dram.used) then List.range s.dram.used
    else (List.range 8).filter s.qualifies
  { s with dram := { s.dram with
      training := cs
      full := !(s.dram.selfRefresh && decide (0 < s.dram.used))
      trained := []
      failed := if s.dram.selfRefresh then s.dram.failed else []
      intact := s.dram.selfRefresh
      selfRefresh := false } }

/-! ## Regions (R518 to R520) -/

/-- R518: the region registers, from CAPACITY_GIB and RETX_GIB; every region has size 0 while no channel is in use (R524). -/
def refreshRegions (s : State) : State :=
  let cap := s.rd 0x340 F.ddr0_DDR_STATUS_CAPACITY_GIB
  let retx := s.rd 0x340 F.ddr0_LAYOUT_CFG_RETX_GIB
  let put (t : State) (k base size : Nat) : State := (t.wri 0x340 F.ddr0_REGION_BASE k base).wri 0x340 F.ddr0_REGION_SIZE k size
  if s.on 0x340 F.ddr0_DDR_STATUS_AVAILABLE then
    put (put (put (put s 0 0 GiB) 1 GiB GiB) 2 (2 * GiB) (retx * GiB)) 3 ((2 + retx) * GiB) ((cap - 2 - retx) * GiB)
  else put (put (put (put s 0 0 0) 1 GiB 0) 2 (2 * GiB) 0) 3 ((2 + retx) * GiB) 0

/-- RETX_GIB_WRITE (R519). -/
def writeRetxGib (v : Nat) (s : State) : State :=
  let cap := s.rd 0x340 F.ddr0_DDR_STATUS_CAPACITY_GIB
  if decide (v % 2 ^ 11 + 3 ≤ cap) && !s.sessionArmed && !s.on 0x70 F.ldg0_LDG_CFG_ENABLE && !s.ringEnabled && !s.snapBusy then
    (refreshRegions (s.wr 0x340 F.ddr0_LAYOUT_CFG_RETX_GIB v)).vector 296
  else (s.set1 0x340 F.hdr_PAGE_STATUS_WRITE_DROPPED).raise 0x340 1
def execRetxGibWrite (data : Word) (s : State) : Out :=
  .next (s.written 0x340 fun s => writeRetxGib data.toNat s)

/-- R520: RETX_GIB is lowered where it would leave CAPTURE less than 1 GiB. -/
def lowerRetx (s : State) : State :=
  let cap := s.rd 0x340 F.ddr0_DDR_STATUS_CAPACITY_GIB
  if s.on 0x340 F.ddr0_DDR_STATUS_AVAILABLE && decide (s.rd 0x340 F.ddr0_LAYOUT_CFG_RETX_GIB + 3 > cap) then
    ((s.wr 0x340 F.ddr0_LAYOUT_CFG_RETX_GIB (cap - 3)).raise 0x340 1).vector 296
  else s

/-! ## Training (R515, R516, R523, R524) -/

/-- R516: the largest of 8, 4 and 2 channels that all hold a DIMM that qualifies and has completed training. -/
def State.usable (s : State) : Nat :=
  ([8, 4, 2].find? fun n => (List.range n).all fun c => s.qualifies c && s.dram.trained.contains c).getD 0

/-- R515, R530: the speed code of the channels in use: that of the latest full training. -/
def State.ddrSpeed (s : State) : Nat :=
  if !s.dram.full then s.dram.speed else
  let declared := match s.dram.dimms.at? 0 with | some d => d.speeds.toNat | none => 1
  max (s.rd 0x340 F.ddr0_DDR_CFG_MAX_SPEED) (([0, 1, 2].find? declared.testBit).getD 0)

/-- DDR5 loses its contents, and with them the table shadow, the change list, the bundles and the poison (R528). -/
def loseDdr (s : State) : State :=
  { s with
    ddr := []
    poison := []
    tbl := { s.tbl with shEmt := [], shLpa := [], shCla := [], listEmt := [], listLpa := [], listCla := [] }
    crown := { s.crown with
      bundles := []
      slots := s.crown.slots.map fun x => (x.1, { x.2 with lost := true }) } }

/-- Every channel has trained, failed, or left self-refresh: channels in use, status and regions (R516, R517, R520, R524,
R528). -/
def settleDdr (s : State) : State :=
  let before := (s.rd 0x340 F.ddr0_DDR_STATUS_AVAILABLE, s.rdi 0x340 F.ddr0_REGION_SIZE 3)
  let n := s.usable
  let s0 := if s.dram.intact then s else if s.dram.full && s.dram.used = 0 then loseDdr s else s
  let s1 := (List.range 8).foldl (fun t c =>
    let inUse := decide (c < n)
    let code := if inUse then 0 else if t.dram.failed.contains c then 3 else if t.dimmCodeOf c != 0 then t.dimmCodeOf c else 5
    let u := ((t.wr (ddrPage c) F.ddrc_CH_STATUS_TRAINED (t.dram.trained.contains c).toNat).wr (ddrPage c) F.ddrc_CH_STATUS_IN_USE
      inUse.toNat).wr (ddrPage c) F.ddrc_CH_STATUS_FAIL_CODE code
    let d := u.dom (196 + c)
    u.putDom (196 + c) (if inUse then { d with heldOff := false } else { d with heldOff := true, state := 4, trans := 0 })) s0
  let s2 := (((((s1.wr 0x340 F.ddr0_DDR_STATUS_CHANNELS n).wr 0x340 F.ddr0_DDR_STATUS_AVAILABLE (if n = 0 then 0 else 1)).wr 0x340
    F.ddr0_DDR_STATUS_SPEED (if n = 0 then 0 else s1.ddrSpeed)).wr 0x340 F.ddr0_DDR_STATUS_CAPACITY_GIB
    (match s1.dram.dimms.at? 0 with | some d => n * d.gib | none => 0)).wr 0x340 F.ddr0_DDR_STATUS_WARM_RETAINED
    (s1.dram.intact && decide (0 < n)).toNat)
  let s2 := (s2.wr 0x380 F.cxl0_HDM_STATUS_MEM_ACTIVE (if n = 0 then 0 else 1)).wr 0x380 F.cxl0_HDM_STATUS_SIZE_256M
    (4 * s2.rd 0x340 F.ddr0_DDR_STATUS_CAPACITY_GIB)
  let s3 := refreshRegions (lowerRetx { s2 with dram := { s2.dram with used := n, speed := s1.ddrSpeed } })
  let s4 := if n = 0 then s3.raise 0x340 0 else s3
  if (s4.rd 0x340 F.ddr0_DDR_STATUS_AVAILABLE, s4.rdi 0x340 F.ddr0_REGION_SIZE 3) = before then s4 else s4.vector 296

/-- A channel finishes: it has trained or left self-refresh, or has failed. One that does not leave self-refresh intact
takes full training. -/
def trainingEnds (c : Nat) (ok : Bool) (s : State) : State :=
  if !ok && !s.dram.full then
    { s with dram := { s.dram with intact := false, full := true, used := 0, training := (List.range 8).filter s.qualifies, trained := [] } }
  else
    let d := s.dram
    let s1 := { s with dram := { d with
      training := d.training.filter (· != c)
      trained := if ok then c :: d.trained.filter (· != c) else d.trained.filter (· != c)
      failed := if ok then d.failed.filter (· != c) else c :: d.failed.filter (· != c) } }
    let s2 := if ok then s1.wr (ddrPage c) F.ddrc_CH_STATUS_TRAINED 1
      else (s1.wr (ddrPage c) F.ddrc_CH_STATUS_FAIL_CODE 3).raise (ddrPage c) 2
    if s2.dram.training.isEmpty then settleDdr s2 else s2

/-- DDR_TRAINING_COMPLETE (R523). -/
def execDdrTrainingComplete (channel : Fin 8) (ok : Bool) (s : State) : Out :=
  .next (s.given (s.dram.training.contains channel.val) (trainingEnds channel.val ok))

/-- MARGIN_CHECK (R523, R524): at each TAI hour plus `c` seconds. -/
def marginCheck (c r w : Nat) (s : State) : State :=
  let p := ddrPage c
  let s1 := ((s.wr p F.ddrc_MARGIN_READ_MARGIN r).wr p F.ddrc_MARGIN_WRITE_MARGIN w).bump p F.ddrc_MARGIN_CHECKS
  if r ≤ 24 ∨ w ≤ 24 then s1.raise p 3 else s1
/-- Such an instant has come since the last check of the channel. -/
def State.marginDue (s : State) (c : Nat) : Bool :=
  let shift := c * 1000000000
  let hour := 3600000000000
  decide (shift ≤ s.nowNs ∧ (s.nowNs - shift) / hour > s.ticks.last.val (s.ticks.base - shift) (0x20000 + c) / hour)
def execMarginCheck (channel : Fin 8) (read write : BitVec 8) (s : State) : Out :=
  .next (s.running fun s =>
    let c := channel.val
    s.given (s.on (ddrPage c) F.ddrc_CH_STATUS_IN_USE && (s.dom (196 + c)).state == 0 && s.marginDue c) fun s =>
      marginCheck c read.toNat write.toNat
        { s with ticks := { s.ticks with
          last := s.ticks.last.put (s.ticks.base - c * 1000000000) (0x20000 + c) (s.nowNs - c * 1000000000) } })

/-! ## ECC, scrub, temperature, self-refresh (R525 to R528) -/

/-- An address lies in the capacity of the channels in use. -/
def State.inDdr (s : State) (a : Nat) : Bool := decide (a < s.rd 0x340 F.ddr0_DDR_STATUS_CAPACITY_GIB * GiB)

/-- DDR_ECC_ERROR (R525): a line is written back corrected, or rewritten carrying poison. -/
def ddrEcc (a : Nat) (corrected : Bool) (s : State) : State :=
  let p := ddrPage (s.channelOf a)
  if corrected then (s.bump p F.ddrc_ECC_COUNTS_CORRECTED).raise p 0
  else
    let s1 := { s with poison := s.poison.put false (a / 64) true }
    ((s1.wr p F.ddrc_ERR_ADDR (a / 64 * 64)).bump p F.ddrc_ECC_COUNTS_UNCORRECTABLE).raise p 1
def execDdrEccError (address : BitVec 41) (corrected : Bool) (s : State) : Out :=
  .next (s.given (s.inDdr address.toNat && !s.dram.selfRefresh) (ddrEcc address.toNat corrected))

/-- DDR_SCRUB_VISIT (R526, R527): a poisoned shadow line is rewritten from the tables. -/
def scrubLine (a : Nat) (s : State) : State :=
  if GiB ≤ a ∧ a < 2 * GiB then { s with poison := s.poison.del (a / 64) } else s
def execDdrScrubVisit (address : BitVec 41) (s : State) : Out :=
  .next (s.running fun s => s.given (s.on 0x340 F.ddr0_SCRUB_CFG_ENABLE && s.inDdr address.toNat) (scrubLine address.toNat))

/-- DRAM_TEMP_READ (R527): every 100 ms a DIMM's SPD hub is read; `none` where the side band gives no reading. -/
def dramTemp (c : Nat) (t : Option Int) (s : State) : State :=
  let p := ddrPage c
  match t with
  | none => s.raise p 5
  | some t =>
    let s1 := (s.wr p F.ddrc_TEMP_DRAM_TEMP (unsigned 8 t)).wr p F.ddrc_TEMP_DOUBLE_REFRESH (decide (t > 85)).toNat
    if t > 95 then s1.raise p 4 else s1
def execDramTempRead (channel : Fin 8) (temp : Option (BitVec 8)) (s : State) : Out :=
  .next (s.running fun s => s.given (s.on (ddrPage channel.val) F.ddrc_CH_STATUS_POPULATED)
    (·.periodic (0x21000 + channel.val) 100000000 (dramTemp channel.val (temp.map BitVec.toInt))))

/-- R528: every channel completes its writes in flight and enters self-refresh. -/
def enterSelfRefresh (s : State) : State := { s with dram := { s.dram with selfRefresh := s.on 0x340 F.ddr0_DDR_STATUS_AVAILABLE } }

/-- SELF_REFRESH_ENTRY (R528): 50,000,000 ns after entry into the safe state, or once the SEAL write has ended. -/
def execSelfRefreshEntry (s : State) : Out :=
  .next (match s.gnt.safe with
    | some e => s.given (decide (e.since + ns 50000000 ≤ s.mono) || s.gnt.sealRec.isSome) enterSelfRefresh
    | none => s.given s.boot.quiescing enterSelfRefresh)

end Sys2Proof.Machine
end

