-- ==== Sys2Proof/Machine/Merge.lean ====
section
/-! DEFINITION. The arrival sequencer and the release engine (spec/09_merge_release.md). -/

namespace Sys2Proof.Machine

/-- R324: a cause whose every occurrence sends a vector, and not only its new latch. -/
def signal (page cause v : Nat) (s : State) : State :=
  if (s.rd page F.hdr_ERR_STATUS_REAL).testBit cause || s.quenched page then (s.raise page cause).vector v
  else s.raise page cause

/-! ## Pace and presence (R294, R303, R315, R448) -/

/-- A CHIP_ID is in MEMBER_BITMAP (R93). -/
def State.memberChip (s : State) (c : Nat) : Bool := s.bit 0x55 F.hbd5_MEMBER_BITMAP c
/-- This device's own contribution to P (R448). -/
def State.ownPace (s : State) : Nat := s.rd 0x40 F.pwc0_PACE_STATUS_ADVERTISED
/-- The last advertisement of a device. -/
def State.paceOf (s : State) (c : Nat) : Nat := (s.timing.paces.val (0, none) c).1
/-- A merge group's slots that are valid, remote and present. -/
def State.remoteSlots (s : State) (g : Nat) : List Nat :=
  (List.range 64).filter fun m => s.rdi (mrgPage g) F.mrg_MEMBER_VALID m == 1 &&
    s.rdi (mrgPage g) F.mrg_MEMBER_REMOTE m == 1 && s.rdi (mrgPage g) F.mrg_MEMBER_PRESENT m == 1
/-- P of a merge group (R294). -/
def State.mergePace (s : State) (g : Nat) : Nat :=
  (s.remoteSlots g).foldl (fun p m => max p (s.paceOf (s.rdi (mrgPage g) F.mrg_MEMBER_CHIP_ID m))) s.ownPace
/-- P of a release group: the devices of the timing group (R315). -/
def State.groupPace (s : State) : Nat :=
  s.timing.paces.foldl (fun p x => if s.memberChip x.1 then max p x.2.1 else p) s.ownPace

/-- P_GROUP: the largest P in force for any group that is enabled (R448). -/
def refreshPGroup (s : State) : State :=
  let m := ((List.range 64).filter fun g => s.on (mrgPage g) F.mrg_MRG_STATUS_ENABLED).map s.mergePace
  let r := if (List.range 256).any fun g => s.on (relPage g) F.rel_REL_STATUS_ENABLED then [s.groupPace] else []
  s.wr 0x40 F.pwc0_PACE_STATUS_P_GROUP (sat 16 ((m ++ r).foldl max 0))

/-- R294: H_EFF of an enabled group. -/
def refreshHeff (g : Nat) (s : State) : State :=
  let pg := mrgPage g
  if !s.on pg F.mrg_MRG_STATUS_ENABLED then s
  else
    let h := s.rd pg F.mrg_MRG_CFG_H
    let h1 := if s.on pg F.mrg_MRG_CFG_ADOPT_PACE then max h (s.mergePace g + s.rd pg F.mrg_MRG_CFG_PACE_MARGIN) else h
    s.wr pg F.mrg_MRG_STATUS_H_EFF (sat 16 h1)
/-- Every group's figures after a change of a pace. -/
def refreshPaces (s : State) : State := refreshPGroup ((List.range 64).foldl (fun t g => refreshHeff g t) s)

/-- ABSENT: the valid slots that are not present. -/
def refreshAbsent (g : Nat) (s : State) : State :=
  let pg := mrgPage g
  s.wr pg F.mrg_MRG_STATUS_ABSENT ((List.range 64).filter fun m =>
    s.rdi pg F.mrg_MEMBER_VALID m == 1 && s.rdi pg F.mrg_MEMBER_PRESENT m == 0).length
/-- R303: the condition of a slot's presence. -/
def State.slotHere (s : State) (g m : Nat) : Bool :=
  let pg := mrgPage g
  if s.rdi pg F.mrg_MEMBER_REMOTE m = 1 then
    let c := s.rdi pg F.mrg_MEMBER_CHIP_ID m
    s.memberChip c || (match (s.timing.paces.val (0, none) c).2 with
      | some left => decide (s.mono < left + ns (s.rd pg F.mrg_MRG_CFG_H + s.paceOf c))
      | none => false)
  else s.configured (s.rdi pg F.mrg_MEMBER_PORT m) && s.up (s.rdi pg F.mrg_MEMBER_PORT m)

/-- R303, R364: a slot's presence changes: its field, the vector, the event, and P. -/
def setPresence (g m : Nat) (here : Bool) (s : State) : State :=
  let pg := mrgPage g
  let s1 := refreshAbsent g (s.wri pg F.mrg_MEMBER_PRESENT m (if here then 1 else 0))
  let remote := s.rdi pg F.mrg_MEMBER_REMOTE m
  let pay := leBytes 1 g ++ leBytes 1 m ++ leBytes 2 (if remote = 1 then s.rdi pg F.mrg_MEMBER_CHIP_ID m + 0x8000 else 0) ++
    leBytes 2 (s.rdi pg F.mrg_MEMBER_PORT m)
  let s2 := formEvent (sliceOf (s.rd pg F.mrg_MRG_CFG_OUT_PORT)) (if here then 3 else 2) s.now pay s1
  let s3 := if here then s2.vector (464 + g) else signal pg 4 (464 + g) (s2.count 0x0807 g)
  refreshPGroup (refreshHeff g s3)

/-- MEMBER_ABSENT (R303). -/
def execMemberAbsent (group slot : Fin 64) (s : State) : Out :=
  .next (s.running fun s =>
    s.given (s.rdi (mrgPage group.val) F.mrg_MEMBER_VALID slot.val == 1 &&
      s.rdi (mrgPage group.val) F.mrg_MEMBER_PRESENT slot.val == 1 && !s.slotHere group.val slot.val)
      (setPresence group.val slot.val false))
/-- MEMBER_PRESENT (R303). -/
def execMemberPresent (group slot : Fin 64) (s : State) : Out :=
  .next (s.running fun s =>
    s.given (s.rdi (mrgPage group.val) F.mrg_MEMBER_VALID slot.val == 1 &&
      s.rdi (mrgPage group.val) F.mrg_MEMBER_PRESENT slot.val == 0 && s.slotHere group.val slot.val &&
      (s.rdi (mrgPage group.val) F.mrg_MEMBER_REMOTE slot.val == 0 ||
        s.memberChip (s.rdi (mrgPage group.val) F.mrg_MEMBER_CHIP_ID slot.val)))
      (setPresence group.val slot.val true))

/-- R303: a port's UP has changed: its local slots follow at that moment. -/
def presenceOfPort (p : Nat) (s : State) : State :=
  (List.range 64).foldl (fun t g => (List.range 64).foldl (fun t m =>
    let pg := mrgPage g
    if t.rdi pg F.mrg_MEMBER_VALID m = 1 ∧ t.rdi pg F.mrg_MEMBER_REMOTE m = 0 ∧ t.rdi pg F.mrg_MEMBER_PORT m = p ∧
        (t.rdi pg F.mrg_MEMBER_PRESENT m == 1) != t.slotHere g m then
      setPresence g m (t.slotHere g m) t
    else t) t) s

/-- R320: a write of MEMBER_m to a group that is not enabled: a slot that names another source is not yet present. -/
def writeMember (g m : Nat) (w : Nat) (s : State) : State :=
  let pg := mrgPage g
  let new_ (f : Fld) (v : Nat) (t : State) : State := t.wri pg f m v
  refreshAbsent g (new_ F.mrg_MEMBER_PRESENT 0 (new_ F.mrg_MEMBER_REMOTE (w / 2 ^ 25) (new_ F.mrg_MEMBER_VALID (w / 2 ^ 24)
    (new_ F.mrg_MEMBER_CHIP_ID (w / 2 ^ 10) (new_ F.mrg_MEMBER_PORT w s)))))

/-- R315: a change of P takes effect in every enabled release group at the first multiple of 67,108,864 ns that lies a full
hello period after the multiple at which the hello that carried it was sent (DEDUCED, log entry 189). -/
def scheduleDEff (was : Nat) (s : State) : State :=
  if s.groupPace = was then s
  else
    let at_ := ns ((s.nowNs / 67108864 + 1) * 67108864)
    (List.range 256).foldl (fun t g =>
      if t.on (relPage g) F.rel_REL_STATUS_ENABLED then
        t.putRel g { t.rel g with next := (t.rel g).next ++ [(at_, s.groupPace)] } else t) s
/-- An advertisement heard from a device of the group (R303, R315): merge groups take it at once, release groups later. -/
def paceHeard (chip pace : Nat) (s : State) : State :=
  refreshPaces (scheduleDEff s.groupPace { s with timing := { s.timing with paces := s.timing.paces.enter chip (pace, none) } })
/-- R303, R315: a device has left MEMBER_BITMAP. -/
def paceLeft (chip : Nat) (s : State) : State :=
  scheduleDEff (max s.groupPace (s.paceOf chip))
    { s with timing := { s.timing with paces := s.timing.paces.enter chip (s.paceOf chip, some s.mono) } }

/-! ## Tie ranks (R296) -/

/-- R296: the shuffle of 64 ranks from a seed: rank by slot. -/
def permutation (seed : Nat) : List Nat :=
  ((List.range 63).map fun k => 63 - k).foldl (fun r i =>
    let j := leVal ((sha384 (leBytes 8 seed ++ leBytes 1 i)).take 8) % (i + 1)
    (r.set i (r.getD j 0)).set j (r.getD i 0)) (List.range 64)

/-- A group's seed of a second; one that was never drawn is drawn now, and kept unless its second is long over (log entry
21). -/
def seedOf (g second : Nat) (s : State) : Nat × State :=
  match (s.merge g).seeds.at? second with
  | some v => (v, s)
  | none =>
    let v := (Config.drbg s.free).toNat
    let m := s.merge g
    let s1 := { s with free := s.free + 1 }
    (v, if second + 1 ≥ secondOf s.now then s1.putMerge g { m with seeds := m.seeds.enter second v } else s1)

/-- SEED_DRAW (R296): between 1,000,000 and 1,000 ns before a second begins. -/
def execSeedDraw (group : Fin 64) (s : State) : Out :=
  .next (s.running fun s =>
    let n := secondOf s.now + 1
    let left := n * 1000000000 - s.nowNs
    s.given (decide (1000 ≤ left ∧ left ≤ 1000000) && ((s.merge group.val).seeds.at? n).isNone) fun s =>
      (seedOf group.val n s).2)

/-- R371: the group was an enabled HOME group in a second. -/
def State.homeIn (s : State) (g n : Nat) : Bool :=
  let m := s.merge g
  match m.homeFrom with
  | none => false
  | some a => decide (a ≤ n) && (match m.homeTo with | none => true | some b => decide (n ≤ b))
/-- The seeds Ledger will carry, with this group's in them. -/
def ledgerSeed (g second seed : Nat) (l : List (Nat × Nat × List Nat)) : List (Nat × Nat × List Nat) :=
  if l.any fun x => x.1 == second then
    l.map fun x => if x.1 = second then (x.1, putBit x.2.1 g true, x.2.2.set g seed) else x
  else l ++ [(second, 2 ^ g, (List.replicate 64 0).set g seed)]

/-- SEED_PUBLISH (R296): the second has ended. -/
def execSeedPublish (group : Fin 64) (s : State) : Out :=
  .next (s.running fun s =>
    let g := group.val
    let cur := secondOf s.now
    let m := s.merge g
    match ((m.seeds.filter fun p => p.1 < cur).getLast?) with
    | none => s
    | some (n, v) =>
      s.given (s.rd (mrgPage g) F.mrg_SEED_SECOND != n || s.rd (mrgPage g) F.mrg_SEED_PREV != v) fun s =>
        let s1 := (s.wr (mrgPage g) F.mrg_SEED_PREV v).wr (mrgPage g) F.mrg_SEED_SECOND n
        let s2 := s1.putMerge g { m with seeds := m.seeds.filter fun p => p.1 + 1 ≥ cur }
        if s.homeIn g n then { s2 with ldg := { s2.ldg with seeds := ledgerSeed g n v s2.ldg.seeds } } else s2)

/-! ## The sequencer (R291 to R299) -/

/-- The source of a frame (R291), its stamp and TQ (R293): from its recognised tag, or its own. A reserved TQ is taken as
0xF (R17). -/
structure Source where
  chip : Option Nat
  port : Nat
  stamp : T80
  tq : Nat
def Frame.source (f : Frame) : Source :=
  let b (o n : Nat) : Nat := beVal (Sys2Proof.Machine.slice f.bytes (12 + o) n)
  let clean (t : Nat) : Nat := if 7 ≤ t then 15 else t
  if f.tagged then ⟨some (b 12 2 % 4096), b 14 2 % 1024, b 2 8 * nsUnits + b 10 2, clean (b 12 2 / 4096)⟩
  else ⟨none, f.port, f.stamp, clean f.tq⟩
/-- R291: the lowest valid slot that names the source. -/
def State.slotOf (s : State) (g : Nat) (x : Source) : Option Nat :=
  let pg := mrgPage g
  (List.range 64).find? fun m => s.rdi pg F.mrg_MEMBER_VALID m == 1 && s.rdi pg F.mrg_MEMBER_PORT m == x.port &&
    (match x.chip with
     | some c => s.rdi pg F.mrg_MEMBER_REMOTE m == 1 && s.rdi pg F.mrg_MEMBER_CHIP_ID m == c
     | none => s.rdi pg F.mrg_MEMBER_REMOTE m == 0)
/-- R293: the order key. -/
def orderKey (stamp : T80) (delay : Nat) : T80 := unsigned 80 ((stamp : Int) - signed 32 delay)
/-- `a` leaves before `b` by key, then rank. -/
def below (a b : T80 × Nat) : Bool := decide (a.1 < b.1 ∨ (a.1 = b.1 ∧ a.2 < b.2))
/-- R295: a frame's place among those held: behind those of equal key and rank. -/
def insertHeld (h : HeldFrame) : List HeldFrame → List HeldFrame
  | [] => [h]
  | x :: r => if below (h.key, h.rank) (x.key, x.rank) then h :: x :: r else x :: insertHeld h r

/-- R295: a frame emitted to the output queue; late ones leave the frontier as it is (R297, R298). -/
def emitFrame (g : Nat) (h : HeldFrame) (late : Bool) (s : State) : State :=
  s.onFrame h.frame fun f s =>
    let pg := mrgPage g
    let q := s.rd pg F.mrg_MRG_CFG_OUT_QUEUE
    let f1 := { (if late then (f.flag 8).flag 0 else f.flag 8) with
      md := mdPut (mdPut (mdPut f.md 0x32 2 (s.rd pg F.mrg_MRG_CFG_OUT_PORT + 0x8000)) 0x34 1 q) 0x35 1 q
      stage := .emitted
      sequenced := true }
    let m := s.merge g
    let tie := match m.last with | some (k, slot) => k == h.key && slot != h.slot | none => false
    let s1 := (s.putFrame h.frame f1).count 0x0801 g
    let s2 := if tie then s1.count 0x0806 g else s1
    let s3 := s2.putMerge g { s2.merge g with
      last := some (h.key, h.slot)
      frontier := if late then m.frontier else some (h.key, h.rank) }
    if late then s3
    else (s3.wrPair pg F.mrg_FRONTIER_NS F.mrg_FRONTIER_FRAC h.key).wr pg F.mrg_FRONTIER_TQ h.tq

/-- R295: TIME has reached K + H_EFF, or the group empties without waiting (R305), and no frame of the group has been emitted
in this cycle. -/
def State.emits (s : State) (g : Nat) (h : HeldFrame) : Bool :=
  (s.merge g).emittedIn != some (coreCycle s.now) && ((s.merge g).closing || decide (h.key + ns (s.rd (mrgPage g) F.mrg_MRG_STATUS_H_EFF) ≤ s.now))
/-- The first held frame leaves. -/
def emitFirst (g : Nat) (s : State) : State :=
  match (s.merge g).held with
  | [] => s
  | h :: rest =>
    let m := s.merge g
    emitFrame g h false (refreshStore g (s.putMerge g { m with
      held := rest
      emittedIn := some (coreCycle s.now)
      closing := m.closing && !rest.isEmpty }))

/-- R291, R299: the frame is dropped by the sequencer. -/
def mergeDrop (g id reason cause index : Nat) (s : State) : State :=
  dropAtIngress id reason (((s.count (0x0800 + index) g).raise (mrgPage g) cause))

/-- R295, R299: a frame is held, if the store has room, and leaves at once where the group does not wait for it. -/
def holdFrame (g : Nat) (h : HeldFrame) (f : Frame) (ending : Bool) (s : State) : State :=
  let pg := mrgPage g
  let m := s.merge g
  if (m.held.map HeldFrame.cells).sum + h.cells > s.rd pg F.mrg_MRG_LIMIT_MAX_CELLS ∨ s.storeCells + h.cells > 16384 ∨
      s.storeEntries ≥ 16384 then mergeDrop g h.frame 0xE9 1 5 s
  else
    let s1 := refreshStore g ((s.putMerge g { m with
      held := insertHeld h m.held
      closing := m.closing || (ending && !s.on pg F.mrg_MRG_STATUS_ENABLED) }).putFrame h.frame { f with stage := .held })
    match (s1.merge g).held with
    | y :: _ => if y.frame = h.frame ∧ s1.emits g y then emitFirst g s1 else s1
    | [] => s1

/-- R294: a frame as the sequencer holds it. -/
def heldFrame (id : Nat) (f : Frame) (key : T80) (seed slot : Nat) : HeldFrame :=
  ⟨id, key, (permutation seed).getD slot 0, slot, f.source.tq, cellsOf f.bytes.length⟩

/-- R295 to R299: a frame reaches the sequencer. -/
def mergeArrival (id : Nat) (s : State) : State :=
  s.onFrame id fun f s =>
    let g := mdGet f.md 0x36 1 % 64
    let pg := mrgPage g
    let s0 := (s.count 0x0309 f.slice).count 0x0800 g
    let x := f.source
    -- ENABLE written 0 in the cycle in which the frame arrives (R306)
    let ending := (s.merge g).disabledIn == some (coreCycle s.now)
    match if s.on pg F.mrg_MRG_STATUS_ENABLED || ending then s.slotOf g x else none with
    | none => mergeDrop g id 0xE8 0 4 s0
    | some slot =>
      let key := orderKey x.stamp (s.rdi pg F.mrg_PATH_PATH_DELAY slot)
      let unordered := x.tq == 15 || decide (key > s.now + ns 65536)
      let (seed, s1) := if unordered then (0, s0) else seedOf g (secondOf key) s0
      let h := heldFrame id f key seed slot
      let late := match (s1.merge g).frontier with | some e => below (key, h.rank) e | none => false
      if unordered then emitFrame g h true ((s1.count 0x0803 g).raise pg 3)
      else if late then emitFrame g h true ((s1.count 0x0802 g).raise pg 2)
      else holdFrame g h f ending s1

/-- MERGE_ARRIVAL (R295): a frame of a merge group whose ingress action has ended. -/
def execMergeArrival (frame : Nat) (s : State) : Out :=
  .next (s.running fun s => s.onFrame frame fun f s =>
    s.given (f.stage == .decided && decide (mdGet f.md 0x36 1 ≥ 128)) (mergeArrival frame))

/-- MERGE_EMIT (R295): the first held frame is due. An error met in the store is corrected (1), or costs the frame (2)
(R299). -/
def execMergeEmit (group : Fin 64) (ecc : Fin 3) (s : State) : Out :=
  .next (s.running fun s =>
    let g := group.val
    match (s.merge g).held with
    | [] => s
    | h :: _ => s.given (s.emits g h) fun s =>
      if ecc = 2 then mergeDrop g h.frame 0xE9 7 5 (forgetHeld h.frame s)
      else emitFirst g (if ecc = 1 then s.raise (mrgPage g) 6 else s))

/-! ## Enabling and disabling (R292, R305) -/

/-- R292: why a group may not be enabled; 0 when it may. -/
def State.mergeRefusal (s : State) (g : Nat) : Nat :=
  let pg := mrgPage g
  let home := !s.on pg F.mrg_MRG_CFG_ROLE
  let valid := (List.range 64).filter fun m => s.rdi pg F.mrg_MEMBER_VALID m == 1
  let target (k : Nat) : Nat × Nat := (s.rd (mrgPage k) F.mrg_MRG_CFG_OUT_PORT, s.rd (mrgPage k) F.mrg_MRG_CFG_OUT_QUEUE)
  if home && valid.any fun m => s.rdi pg F.mrg_PATH_CAL_VALID m == 0 then 1
  else if home && (List.range 64).any fun k => k != g && s.on (mrgPage k) F.mrg_MRG_STATUS_ENABLED &&
      !s.on (mrgPage k) F.mrg_MRG_CFG_ROLE && target k == target g then 2
  else if home && valid.isEmpty then 3
  else if ((valid.any fun m => s.rdi pg F.mrg_MEMBER_REMOTE m == 1) || !home) && !s.on 0x55 F.hbd5_GROUP_CFG_ENABLE then 4
  else if s.rd pg F.mrg_MRG_CFG_H < 8 then 5
  else 0

/-- R292: ENABLE written 1. -/
def mergeEnable (g : Nat) (s : State) : State :=
  let pg := mrgPage g
  if s.on pg F.mrg_MRG_STATUS_ENABLED then s
  else
    let why := s.mergeRefusal g
    if why ≠ 0 then signal pg 5 (464 + g) ((s.wr pg F.mrg_MRG_CFG_ENABLE 0).wr pg F.mrg_MRG_STATUS_REFUSE why)
    else
      let home := !s.on pg F.mrg_MRG_CFG_ROLE
      let m := s.merge g
      let s1 := s.putMerge g { m with
        closing := false
        homeFrom := if home then some (secondOf s.now) else m.homeFrom
        homeTo := if home then none else m.homeTo }
      let s2 := ((s1.wr pg F.mrg_MRG_CFG_ENABLE 1).wr pg F.mrg_MRG_STATUS_ENABLED 1).wr pg F.mrg_MRG_STATUS_REFUSE 0
      refreshPGroup (refreshHeff g s2)
/-- MERGE_ENABLE (R292). -/
def execMergeEnable (group : Fin 64) (s : State) : Out := .next (s.written (mrgPage group.val) fun s => mergeEnable group.val s)

/-- R305: ENABLE written 0: the held frames leave without waiting. -/
def mergeDisable (g : Nat) (s : State) : State :=
  let pg := mrgPage g
  if !s.on pg F.mrg_MRG_STATUS_ENABLED then s.wr pg F.mrg_MRG_CFG_ENABLE 0
  else
    let m := s.merge g
    let s1 := s.putMerge g { m with
      closing := !m.held.isEmpty
      disabledIn := some (coreCycle s.now)
      homeTo := if m.homeFrom.isSome && m.homeTo.isNone then some (secondOf s.now) else m.homeTo }
    refreshPGroup ((s1.wr pg F.mrg_MRG_CFG_ENABLE 0).wr pg F.mrg_MRG_STATUS_ENABLED 0)
/-- MERGE_DISABLE (R305). -/
def execMergeDisable (group : Fin 64) (s : State) : Out := .next (s.written (mrgPage group.val) fun s => mergeDisable group.val s)

/-! ## The release grid (R309, R313) -/

/-- The speed of a SPEED code in Gb/s. -/
def speedOfCode (c : Nat) : Nat := [10, 25, 50, 100, 200, 400, 800, 1600].getD c 0
/-- G in 1/100 ns. -/
def gridStep (c : Nat) : Nat := [640, 256, 128, 64, 32, 16, 8, 4].getD c 4
/-- R309: the first grid instant at or after an instant: second boundary plus n steps of G, as a T80 (its fraction cut to
1/65,536 ns). -/
def gridUp (c : Nat) (t : T80) : T80 :=
  let sec := t / ns 1000000000 * ns 1000000000
  let g := gridStep c
  let n := ((t - sec) * 100 + g * nsUnits - 1) / (g * nsUnits)
  let u := sec + n * g * nsUnits / 100
  if u < t then sec + (n + 1) * g * nsUnits / 100 else u
def State.relSpeed (s : State) (g : Nat) : Nat := s.rd (relPage g) F.rel_REL_CFG_SPEED
def State.relGrid (s : State) (g : Nat) (t : T80) : T80 := gridUp (s.relSpeed g) t
/-- A number of byte times at the group's speed. -/
def State.relBytes (s : State) (g n : Nat) : T80 := byteTimes (speedOfCode (s.relSpeed g)) n
/-- The member ports. -/
def State.members (s : State) (g : Nat) : List Nat :=
  (List.range 16).flatMap fun k =>
    let w := s.rdi (relPage g) F.rel_MEMBERS k
    if w = 0 then [] else ((List.range 64).filter w.testBit).map (64 * k + ·)
/-- A release window is open on any port; on a port of a slice (R441). -/
def State.windowOpen (s : State) : Bool := s.timing.releases.any fun g => g.2.batches.any Batch.open_
def State.windowOnSlice (s : State) (g : Nat) : Bool :=
  s.timing.releases.any fun x => x.2.batches.any Batch.open_ && (s.members x.1).any fun p => sliceOf p == g
/-- R441: a slice whose ratio is held takes R once no window is open on it. -/
def freeRatios (s : State) : State :=
  if s.pwc.held.all fun h => s.windowOnSlice h.1 then s
  else
    let t := rebase s
    { t with pwc := { t.pwc with held := t.pwc.held.filter fun h => s.windowOnSlice h.1 } }
/-- WINDOW_OPEN and SCHEDULED follow the batches. -/
def refreshRel (g : Nat) (s0 : State) : State :=
  let s := freeRatios s0
  let b := (s.rel g).batches
  (s.wr (relPage g) F.rel_REL_STATUS_WINDOW_OPEN (if b.any Batch.open_ then 1 else 0)).wr (relPage g)
    F.rel_REL_STATUS_SCHEDULED (if b.any fun x => x.explicit && !x.done then 1 else 0)
/-- The batches of a group changed. -/
def putBatches (g : Nat) (bs : List Batch) (s : State) : State := refreshRel g (s.putRel g { s.rel g with batches := bs })
/-- The first batch with a property, replaced. -/
def replaceBatch (bs : List Batch) (p : Batch → Bool) (f : Batch → Batch) : List Batch :=
  match bs with
  | [] => []
  | b :: r => if p b then f b :: r else b :: replaceBatch r p f

/-- Frames flagged LATE, and counted. -/
def lateFrames (g : Nat) (ids : List Nat) (s : State) : State :=
  ids.foldl (fun t id => t.onFrame id fun f t => (t.putFrame id (f.flag 0)).count 0x0904 g) s

/-! ## Enabling and disabling (R308, R315, R319) -/

/-- R308: why a group may not be enabled. -/
def State.relRefusal (s : State) (g : Nat) : Nat :=
  let pg := relPage g
  let fwd := s.on pg F.rel_REL_CFG_FWD_ENABLE
  let d := s.rd pg F.rel_REL_DELAY_D
  if (s.members g).isEmpty && !fwd then 1
  else if (s.members g).any fun p => !s.configured p || s.speed p != speedOfCode (s.relSpeed g) then 2
  else if fwd && !s.on 0x55 F.hbd5_GROUP_CFG_ENABLE then 3
  else if s.on pg F.rel_REL_CFG_MODE && (decide (d < 1000) || decide (d > 100000000)) then 4
  else 0
/-- R315: D_EFF for a pace. -/
def State.dEff (s : State) (g p : Nat) : Nat :=
  let pg := relPage g
  let d := s.rd pg F.rel_REL_DELAY_D
  if s.on pg F.rel_REL_CFG_ADOPT_PACE then max d (p + s.rd pg F.rel_REL_DELAY_PACE_MARGIN) else d

/-- A port's transmitters leave LPI (R154). -/
def wakeTx (p : Nat) (s : State) : State :=
  if s.on (prt p) F.prt_LINK_STATUS_TX_LPI then
    (s.lanesOf p).foldl (fun t l => t.wr (lan l) F.lan_LANE_STATUS_TX_STATE 0) (s.wr (prt p) F.prt_LINK_STATUS_TX_LPI 0)
  else s
/-- R308: a port is a member of an enabled release group. -/
def State.relBusy (s : State) (p : Nat) : Bool :=
  (List.range 256).any fun g => s.on (relPage g) F.rel_REL_STATUS_ENABLED && s.relMember g p
/-- R308: ENABLE written 1. -/
def relEnable (g : Nat) (s : State) : State :=
  let pg := relPage g
  if s.on pg F.rel_REL_STATUS_ENABLED then s
  else
    let why := s.relRefusal g
    if why ≠ 0 then signal pg 4 (528 + g) ((s.wr pg F.rel_REL_CFG_ENABLE 0).wr pg F.rel_REL_STATUS_REFUSE why)
    else
      let s1 := ((s.wr pg F.rel_REL_CFG_ENABLE 1).wr pg F.rel_REL_STATUS_ENABLED 1).wr pg F.rel_REL_STATUS_REFUSE 0
      let s2 := s1.putRel g { s1.rel g with
        next := []
        past := [] }
      (s2.members g).foldl (fun t p => recomputePort p (wakeTx p t))
        (refreshPGroup (refreshGrid g (s2.wr pg F.rel_RELEASE_INFO_D_EFF (s2.dEff g s2.groupPace))))
/-- RELEASE_ENABLE (R308). -/
def execReleaseEnable (group : Fin 256) (s : State) : Out := .next (s.written (relPage group.val) fun s => relEnable group.val s)

/-- Replicas of a group go to egress, held there or released. -/
def moveReplicas (g : Nat) (ids : List Nat) (free : Bool) (s : State) : State :=
  let go := s.palm.replicas.filter fun x => x.2.releaseOf == g + 1 && ids.contains x.2.frame
  refreshHeld g (go.foldl (fun t x => match t.replica? x.1 with
    | some r => t.putReplica x.1 { r with
        phase := max 1 r.phase
        released := r.released || free }
    | none => t) s)

/-- R319: ENABLE written 0: held replicas are released at once, LATE. -/
def relDisable (g : Nat) (s : State) : State :=
  let pg := relPage g
  let s1 := refreshPGroup ((s.wr pg F.rel_REL_CFG_ENABLE 0).wr pg F.rel_REL_STATUS_ENABLED 0)
  let x := s.rel g
  let left := x.batches.filter Batch.done
  let ids := x.held ++ (x.batches.filter fun b => !b.done).flatMap Batch.frames
  let s2 := putBatches g left (s1.putRel g { s1.rel g with held := [] })
  let s3 := if ids.isEmpty then s2
    else moveReplicas g ids true (lateFrames g ids ((s2.set1 pg F.rel_REL_STATUS_LATE).raise pg 0))
  (s3.members g).foldl (fun t p => recomputePort p t) s3
/-- RELEASE_DISABLE (R319). -/
def execReleaseDisable (group : Fin 256) (s : State) : Out := .next (s.written (relPage group.val) fun s => relDisable group.val s)

/-- R315: the value of D_EFF in force at an instant. -/
def State.dEffAt (s : State) (g : Nat) (t : T80) : Nat :=
  (s.rel g).past.foldl (fun v x => if t < x.1 then x.2 else v) (s.rd (relPage g) F.rel_RELEASE_INFO_D_EFF)
/-- D_EFF_CHANGE (R315): the instant of a change has come. -/
def execDEffChange (group : Fin 256) (s : State) : Out :=
  .next (s.running fun s =>
    let g := group.val
    match (s.rel g).next with
    | [] => s
    | (t, p) :: rest => s.given (decide (t ≤ s.now)) fun s =>
      let old := s.rd (relPage g) F.rel_RELEASE_INFO_D_EFF
      (s.putRel g { s.rel g with
        next := rest
        past := ((t, old) :: (s.rel g).past).take 4 }).wr (relPage g) F.rel_RELEASE_INFO_D_EFF (s.dEff g p))

/-! ## Holding and releasing (R307 to R317) -/

/-- R312: frames in order of ingress T80, then of ingress port. -/
def State.releaseOrder (s : State) (ids : List Nat) : List Nat :=
  let key (id : Nat) : T80 × Nat := match s.frame? id with | some f => (f.stamp, f.port) | none => (0, 0)
  let rec_ (acc : List Nat) (id : Nat) : List Nat :=
    (acc.takeWhile fun x => !below (key id) (key x)) ++ id :: (acc.dropWhile fun x => !below (key id) (key x))
  ids.foldl rec_ []

/-- R307, R315: a frame reaches the release engine: held on every local member, forwarded across the timing group. -/
def releaseHold (id : Nat) (cells : List Nat) (s : State) : State :=
  s.onFrame id fun f s =>
    let g := mdGet f.md 0x37 1
    let pg := relPage g
    let s0 := s.count 0x030A f.slice
    if s.rd pg F.rel_REL_STATUS_HELD ≥ s.rd pg F.rel_REL_LIMIT_MAX_FRAMES then
      dropAtIngress id 0xEA ((s0.count 0x0905 g).raise pg 2)
    else
      let fwd := s.on pg F.rel_REL_CFG_FWD_ENABLE
      let m := s.mcg (s.rd pg F.rel_REL_CFG_FWD_MCG)
      let out : List (Target × Nat) := if fwd && m.valid then
        [(⟨(portsIn m.ports).filter fun p => !(m.skipSource && p == f.port), if f.cls = 7 then 9 else 8, f.cls, true⟩, 0)] else []
      let local_ : List (Target × Nat) := [(⟨s.members g, 9, f.cls, true⟩, g + 1)]
      let s1 := s0.putFrame id { f.flag 9 with
        addTag := fwd
        sequenced := true }
      let s2 := placeFrame id (local_ ++ out) cells s1
      let held := s2.palm.replicas.any fun x => x.2.frame == id && x.2.releaseOf == g + 1
      let waits : Bool := match s2.frame? id with | some y => y.stage != .stored | none => false
      if waits then s
      else if !held then s2
      else
        let s3 := refreshHeld g (s2.count 0x0900 g)
        if !s.on pg F.rel_REL_CFG_MODE then
          -- a frame that comes in the cycle of a cut-off joins that batch (R319)
          let joins (b : Batch) : Bool := b.explicit && !b.done && b.cutIn == some (coreCycle s.now)
          match (s3.rel g).batches.find? joins with
          | some b =>
            let ids := s3.releaseOrder (b.frames ++ [id])
            let s4 := putBatches g (replaceBatch (s3.rel g).batches joins fun x => { x with frames := ids }) s3
            let lost := s4.palm.replicas.filter fun x => x.2.releaseOf == g + 1 && x.2.frame == id && b.excluded.contains x.2.port
            moveReplicas g [id] false (lost.foldl (fun t x => excludeReplica x.1 g t) s4)
          | none => s3.putRel g { s3.rel g with held := (s3.rel g).held ++ [id] }
        else
          let a := if s.on pg F.rel_REL_CFG_USE_TAG && f.tagged then f.source.stamp else f.stamp
          let t := s.relGrid g (a + ns (s.dEffAt g a))
          let late := decide (s.now + ns 400 > t)
          -- late, it goes at the first grid instant at which every member can start it
          let b : Batch := { at_ := if late then s.relGrid g s.now else t, frames := [id], explicit := false, late := late }
          putBatches g ((s3.rel g).batches ++ [b]) s3

/-- RELEASE_HOLD (R307): a release-group frame, and the banks that its cells are taken from. -/
def execReleaseHold (frame : Nat) (cells : List (Fin 1152)) (s : State) : Out :=
  .next (s.running fun s => s.onFrame frame fun f s =>
    let merge := decide (mdGet f.md 0x36 1 ≥ 128)
    s.given ((f.stage == .decided && !merge || f.stage == .emitted) && f.ctrl 0) (releaseHold frame (cells.map (·.val))))

/-- R310: a RELEASE_AT write commits: it schedules a release, or replaces the one whose cut-off has not passed. -/
def writeReleaseAt (g : Nat) (nsWord : Nat) (s : State) : State :=
  let pg := relPage g
  let at_ := nsWord * nsUnits + s.host.staged.val 0 (0x1000 * pg + 0x090) % nsUnits
  let s1 := s.wrPair pg F.rel_RELEASE_AT_NS F.rel_RELEASE_AT_FRAC at_
  if !s.on pg F.rel_REL_STATUS_ENABLED || s.on pg F.rel_REL_CFG_MODE then s1
  else
    let t := s.relGrid g at_
    let late := decide (t ≤ s.now + ns 400)
    let b : Batch := { at_ := if late then s.relGrid g (s.now + ns 400) else t, late := late }
    -- in the cycle of a cut-off the write schedules the release that follows (R319)
    let fixed (x : Batch) : Bool := x.cut || decide (coreCycle (x.at_ - ns 400) ≤ coreCycle s.now)
    let bs := ((s1.rel g).batches.filter fun x => !x.explicit || fixed x) ++ [b]
    let s2 := refreshGrid g (putBatches g bs s1)
    if late then s2.set1 pg F.rel_REL_STATUS_LATE else s2
/-- RELEASE_AT_WRITE (R310); discarded in the safe state (R52). -/
def execReleaseAtWrite (group : Fin 256) (ns : Word) (s : State) : Out :=
  .next (s.written (relPage group.val) fun s => writeReleaseAt group.val ns.toNat s)

/-- The largest MAX_FRAME among the members (R313). -/
def State.relMaxFrame (s : State) (g : Nat) : Nat := (s.members g).foldl (fun n p => max n (s.maxFrame p)) 0
/-- RELEASE_WINDOW_OPEN (R313). -/
def execReleaseWindowOpen (group : Fin 256) (s : State) : Out :=
  .next (s.running fun s =>
    let g := group.val
    let due (b : Batch) : Bool := !b.open_ && !b.done && decide (b.at_ ≤ s.now + s.relBytes g (s.relMaxFrame g + 20))
    s.given ((s.rel g).batches.any due) fun s =>
      refreshGrid g (putBatches g (replaceBatch (s.rel g).batches due fun b => { b with open_ := true }) s))

/-- RELEASE_CUTOFF (R310, R317): the batch is fixed; members that are down or of another speed are excluded. -/
def execReleaseCutoff (group : Fin 256) (s : State) : Out :=
  .next (s.running fun s =>
    let g := group.val
    let pg := relPage g
    let due (b : Batch) : Bool := !b.cut && decide (b.at_ ≤ s.now + ns 400)
    match (s.rel g).batches.find? due with
    | none => s
    | some b =>
      let ids := s.releaseOrder (if b.explicit then (s.rel g).held else b.frames)
      let out := (s.members g).filter fun p => !s.up p || s.speed p != speedOfCode (s.relSpeed g)
      let b1 := { b with
        cut := true
        cutIn := some (coreCycle s.now)
        frames := ids
        excluded := out }
      let s1 := putBatches g (replaceBatch (s.rel g).batches due fun _ => b1) s
      let s2 := if b.explicit then s1.putRel g { s1.rel g with held := [] } else s1
      let s3 := (List.range 16).foldl (fun t k => t.wri pg F.rel_EXCLUDED k 0) s2
      let s4 := out.foldl (fun t p => ((t.putBitAt pg F.rel_EXCLUDED p true).count 0x0906 g).raise pg 1) s3
      let lost := s4.palm.replicas.filter fun x =>
        x.2.releaseOf == g + 1 && ids.contains x.2.frame && out.contains x.2.port
      moveReplicas g ids false (lost.foldl (fun t x => excludeReplica x.1 g t) s4))

/-- RELEASE_PREEMPT (R313): 151 byte times before the instant, preemptible frames in progress give way. -/
def execReleasePreempt (group : Fin 256) (s : State) : Out :=
  .next (s.running fun s =>
    let g := group.val
    s.given ((s.rel g).batches.any fun b => b.open_ && !b.done && decide (b.at_ ≤ s.now + s.relBytes g 151)) fun s =>
      (s.members g).foldl (fun t p =>
        if t.preemptible p && t.palm.replicas.any fun x => x.2.port == p && x.2.phase == 3 && !x.2.waiting then preempt p t
        else t) s)

/-- R319: another group's earlier batch holds a port that the batch needs. -/
def State.overlaps (s : State) (g : Nat) (b : Batch) : Bool :=
  s.timing.releases.any fun x => x.1 != g && (x.2.batches.any fun c =>
    c.open_ && decide (c.at_ < b.at_ ∨ (c.at_ = b.at_ ∧ x.1 < g))) && (s.members g).any fun p => s.relMember x.1 p

/-- R311: a member has a frame of its own to end before it can start the batch. -/
def State.membersBusy (s : State) (g : Nat) : Bool :=
  (s.members g).any fun p => s.palm.replicas.any fun x => x.2.port == p && x.2.phase == 3 && !x.2.waiting

/-- R312, R316: the release takes place. -/
def release (g : Nat) (b : Batch) (due : Batch → Bool) (s : State) : State :=
  let pg := relPage g
  let at_ := if b.moved then s.relGrid g s.now else b.at_
  let b1 := { b with
    at_ := at_
    done := true
    open_ := true }
  let s1 := putBatches g (replaceBatch (s.rel g).batches due fun _ => b1) s
  let s2 := (s1.wrPair pg F.rel_LAST_RELEASE_NS F.rel_LAST_RELEASE_FRAC at_).wr pg F.rel_LAST_RELEASE_TQ (s.codeAt at_)
  let s3 := ((s2.wr pg F.rel_RELEASE_INFO_LAST_FRAMES b.frames.length).wr pg F.rel_RELEASE_INFO_LAST_SKEW 0).bump pg
    F.rel_REL_STATUS_RELEASES
  let s4 := s3.count 0x0902 g
  let s5 := if b.late then lateFrames g b.frames (((s4.set1 pg F.rel_REL_STATUS_LATE).raise pg 0).count 0x0903 g) else s4
  moveReplicas g b.frames true s5

/-- RELEASE (R312): the batch's instant has come. -/
def execRelease (group : Fin 256) (s : State) : Out :=
  .next (s.running fun s =>
    let g := group.val
    let due (b : Batch) : Bool := b.cut && !b.done && decide (b.at_ ≤ s.now)
    match (s.rel g).batches.find? due with
    | none => s
    | some b =>
      if s.overlaps g b || (!b.explicit && b.late && s.membersBusy g) then putBatches g (replaceBatch (s.rel g).batches due fun x => { x with moved := true, late := true }) s
      else release g b due (refreshGrid g s))

/-- RELEASE_WINDOW_CLOSE (R313, R316, R364): the batch's last frame has ended on every member; the release event, with the
skew now known, goes to Ledger. -/
def execReleaseWindowClose (group : Fin 256) (s : State) : Out :=
  .next (s.running fun s =>
    let g := group.val
    let pg := relPage g
    let over_ (b : Batch) : Bool := b.done && !(s.palm.replicas.any fun x => x.2.releaseOf == g + 1 && b.frames.contains x.2.frame)
    match (s.rel g).batches.find? over_ with
    | none => s
    | some b =>
      let pay := leBytes 1 g ++ leBytes 1 0 ++ leBytes 2 b.frames.length ++ leBytes 2 b.excluded.length ++
        leBytes 2 (b.excluded.headD 0xFFFF) ++ leBytes 2 (s.rd pg F.rel_RELEASE_INFO_LAST_SKEW) ++
        leBytes 1 (if b.late then 1 else 0)
      let s1 := putBatches g ((s.rel g).batches.erase b) s
      let s2 := match s.members g with
        | p :: _ => formEvent (sliceOf p) 4 b.at_ pay s1
        | [] => s1
      if b.explicit then s2.vector (528 + g) else s2)

end Sys2Proof.Machine
end

