-- ==== Sys2Proof/Machine/Ports.lean ====
section
/-! DEFINITION. Brim lanes and Cuff ports (spec/05): octets and their PLLs, the bring-up ladder, equalisation, low-power
idle, priority flow control, transmission selection, preemption. -/

namespace Sys2Proof.Machine

def State.portRec (s : State) (p : Nat) : PortRec := s.brim.ports.val {} p
def State.putPortRec (s : State) (p : Nat) (x : PortRec) : State :=
  { s with brim := { s.brim with ports := s.brim.ports.put {} p x } }
/-- The octet of a lane, and the TIL page of a lane's tile (R18). -/
def octetOf (l : Nat) : Nat := l / 8
def tilPage (l : Nat) : Nat := 0x500 + l / 128
/-- The ladder's step (R142). -/
def State.ladder (s : State) (p : Nat) : Nat := s.rd (prt p) F.prt_LINK_STATUS_STEP
/-- The port's vector (R169). -/
def portVector (p : Nat) (s : State) : State := s.vector (1024 + p)
/-- The lane is in no configured port, or its port has ENABLE at 0 (R150, R155). -/
def State.laneFree (s : State) (l : Nat) : Bool :=
  match s.portOfLane l with
  | some p => !s.on (prt p) F.prt_PORT_CTRL_ENABLE
  | none => true

/-! ## Octet PLLs (R134, R156) -/

/-- A lane's transmit direction is ACTIVE or in LPI. -/
def State.laneSends (s : State) (l : Nat) : Bool := s.rd (lan l) F.lan_LANE_STATUS_TX_STATE < 2
/-- R156: the PLL runs while a lane of the octet sends, or while it is retuned; it stops, or starts to seek its lock. The
octet's domain follows what its lanes hold. -/
def refreshPll (o : Nat) (s0 : State) : State :=
  let s := recomputeDom (32 + o) s0
  let want := s.brim.retuning.contains o || (List.range 8).any fun i => s.laneSends (8 * o + i)
  let locked := s.on (oct o) F.oct_OCT_STATUS_PLL_LOCK
  let seeking := (s.brim.pllSince.at? o).isSome
  if want && !s.on (oct o) F.oct_OCT_STATUS_REF_ABSENT then
    if locked || seeking then s else { s with brim := { s.brim with pllSince := s.brim.pllSince.enter o s.mono } }
  else { s with brim := { s.brim with pllSince := s.brim.pllSince.del o } }.wr (oct o) F.oct_OCT_STATUS_PLL_LOCK 0

/-! ## Equalisation (R147 to R153) -/

/-- The equalisation of a lane at a rate: the host's, or the table's. -/
def State.eq (s : State) (l rate : Nat) : Option EqEntry :=
  match s.brim.eqOver.at? (l * 8 + rate) with
  | some e => some e
  | none => s.brim.eqTable.at? (l * 8 + rate)
/-- The rate that a lane's registers show (R150). -/
def State.eqRate (s : State) (l : Nat) : Nat :=
  if s.on (lan l) F.lan_LANE_STATUS_RATE_VALID then s.laneRate l else s.rd (lan l) F.lan_LANE_CTRL_EQ_RATE
/-- The equalisation registers and EQ_SOURCE of a lane follow its state (R150, R151, R167). -/
def showEq (l : Nat) (s : State) : State :=
  let r := s.eqRate l
  let e := (s.eq l r).getD { tx := 0, rx := 0, dfe := 0 }
  let tx := if s.on (lan l) F.lan_LANE_STATUS_RATE_VALID then s.brim.taps.val e.tx l else e.tx
  let src := if (s.brim.eqOver.at? (l * 8 + r)).isSome then 1 else if (s.brim.eqTable.at? (l * 8 + r)).isSome then 0 else 2
  let s1 := [F.lan_EQ_TX_C_M3, F.lan_EQ_TX_C_M2, F.lan_EQ_TX_C_M1, F.lan_EQ_TX_C0, F.lan_EQ_TX_C_P1,
    F.lan_EQ_TX_AMPLITUDE].foldl (fun t f => t.wr (lan l) f (bits tx f.lo f.w)) s
  let s2 := [F.lan_EQ_RX_CTLE_PEAK, F.lan_EQ_RX_CTLE_LF, F.lan_EQ_RX_VGA, F.lan_EQ_RX_CDR_PROFILE].foldl
    (fun t f => t.wr (lan l) f (bits e.rx f.lo f.w)) s1
  ((List.range 8).foldl (fun t j => t.wrx (lan l) F.lan_EQ_DFE 0 j (bits e.dfe (8 * j) 8)) s2).wr (lan l)
    F.lan_LANE_STATUS_EQ_SOURCE src

/-- R153: the CDR loop bandwidth in MHz at a rate code and a profile (0 DEFAULT, 1 NARROW, 2 WIDE). Every profile tracks offsets
up to 200 ppm. -/
def cdrBandwidth (rate profile : Nat) : Nat :=
  let narrow := [2, 4, 4, 5, 6, 8].getD rate 0
  match profile with | 1 => narrow | 2 => 4 * narrow | _ => 2 * narrow
/-- The bandwidth in force on a lane. -/
def State.loopBandwidth (s : State) (l : Nat) : Nat :=
  cdrBandwidth (s.rd (lan l) F.lan_LANE_STATUS_RATE) (s.brim.cdrProfile.val 0 l)

/-- R153: the CDR profile of a lane at a rate: 0 DEFAULT, 1 NARROW, 2 WIDE. -/
def State.profileOf (s : State) (l rate : Nat) : Nat :=
  match s.rd (lan l) F.lan_LANE_CTRL_CDR_PROFILE with
  | 0 => match s.eq l rate with | some e => bits e.rx 24 2 | none => 0
  | 1 => 1
  | 2 => 0
  | _ => 2

/-! ## Port types (R132, R135) -/

/-- FEC modes as bits: 1 none, 2 RS(528,514), 4 RS(544,514). The modes of a port type with an IEEE partner, 0 where the row
is Denoon only, and with any partner, 0 where R135 has no row. -/
def ieeeFec (w rate : Nat) : Nat :=
  match w, rate with
  | 1, 0 => 1 | 1, 1 => 3 | 4, 1 => 2
  | 1, 3 => 4 | 2, 3 => 4 | 4, 3 => 4
  | 1, 4 => 4 | 2, 4 => 4 | 4, 4 => 4 | 8, 4 => 4
  | 1, 5 => 4 | 2, 5 => 4 | 4, 5 => 4 | 8, 5 => 4
  | _, _ => 0
def anyFec (w rate : Nat) : Nat :=
  match w, rate with
  | 1, 0 => 1 | 1, 1 => 3 | 2, 1 => 3 | 4, 1 => 3 | 1, 2 => 4
  | _, 3 => if w = 1 ∨ w = 2 ∨ w = 4 ∨ w = 8 then 4 else 0
  | _, 4 => if w = 1 ∨ w = 2 ∨ w = 4 ∨ w = 8 then 4 else 0
  | _, 5 => if w = 1 ∨ w = 2 ∨ w = 4 ∨ w = 8 then 4 else 0
  | _, _ => 0
/-- R132: a rate code belongs to a group. -/
def inGroup (group rate : Nat) : Bool :=
  match group with
  | 0 => rate == 0 | 1 => rate == 1 | 2 => decide (2 ≤ rate ∧ rate ≤ 5) | _ => false

/-- The LINK_CFG word of a port. -/
def State.linkCfg (s : State) (p : Nat) : Nat := s.word (prt p) 0x088
def cfgMaxRate (c : Nat) : Nat := bits c 0 3
def cfgFec (c : Nat) : Nat := bits c 5 3

/-- R137: a rate code would be offerable but for equalisation entries. -/
def State.nearlyOfferable (s : State) (p c : Nat) : Bool :=
  let cfg := (s.portRec p).linkCfg
  inGroup (s.rd (oct (octetOf p)) F.oct_OCT_CFG_RATE_GROUP) c && decide (c ≤ cfgMaxRate cfg) &&
    (anyFec (s.widthOf p) c &&& cfgFec cfg) != 0 && !(s.rd (prt p) F.prt_LINK_STATUS_RATES_REFUSED).testBit c
/-- R137: a rate code is offerable. -/
def State.offerable (s : State) (p c : Nat) : Bool :=
  s.nearlyOfferable p c && (s.lanesOf p).all fun l => (s.eq l c).isSome
/-- R137: what the Clause 73 base page says: the IEEE technologies by rate code, the RS-FEC request bit, the BASE-R FEC request
bit (never), and the Next Page bit; and the OUI-tagged next page, with the Denoon capability code. -/
def sendPages (p : Nat) (s : State) : State :=
  let cfg := (s.portRec p).linkCfg
  let techs := if cfg.testBit 3 then (List.range 6).filter fun c => s.offerable p c && ieeeFec (s.widthOf p) c != 0 else []
  let fec := cfgFec cfg
  let rs := decide (s.widthOf p = 1) && techs.contains 1 && fec.testBit 1 && !fec.testBit 0
  let s1 := s.send (.message p "CLAUSE73" [(techs.map (2 ^ ·)).sum, rs.toNat, 0, (cfg.testBit 4).toNat])
  if cfg.testBit 4 then s1.send (.message p "OUI_NEXT_PAGE" [0x0D1]) else s1
/-- The offerable rate codes as bits. -/
def State.offers (s : State) (p : Nat) : Nat := (((List.range 6).filter (s.offerable p)).map (2 ^ ·)).sum

/-- The highest rate code of a bitmap. -/
def highestRate (m : Nat) : Option Nat := [5, 4, 3, 2, 1, 0].find? m.testBit

/-! ## The ladder (R137 to R146) -/

/-- A lane's directions: 0 ACTIVE, 1 LPI, 2 QUIET. -/
def setLane (l tx rx : Nat) (s : State) : State :=
  (s.wr (lan l) F.lan_LANE_STATUS_TX_STATE tx).wr (lan l) F.lan_LANE_STATUS_RX_STATE rx

/-- A lane leaves the octet PLL: its CDR is unlocked and its rate is no longer in force. -/
def dropLane (l tx : Nat) (bringup : Bool) (s : State) : State :=
  let s1 := if s.on (lan l) F.lan_LANE_STATUS_CDR_LOCK || (s.wander l).state != 0 then cdrUnlock l s else s
  let s2 := ((setLane l tx tx s1).wr (lan l) F.lan_LANE_STATUS_RATE_VALID 0).wr (lan l) F.lan_LANE_STATUS_BRINGUP_CLOCK
    (if bringup then 1 else 0)
  showEq l s2

/-- The ladder takes a step. -/
def setStep (p step : Nat) (s : State) : State :=
  (s.wr (prt p) F.prt_LINK_STATUS_STEP step).putPortRec p { s.portRec p with since := s.mono }

/-- UP falls: the port's vector, its queues, its groups, its taps (R145, R151, R263, R303). -/
def leaveUp (p : Nat) (s : State) : State :=
  if s.up p then
    let s1 := ((((s.wr (prt p) F.prt_LINK_STATUS_UP 0).wr (prt p) F.prt_LINK_STATUS_TX_LPI 0).wr (prt p)
      F.prt_LINK_STATUS_RX_LPI 0).wr (prt p) F.prt_LINK_STATUS_LOCAL_FAULT 0).wr (prt p) F.prt_LINK_STATUS_REMOTE_FAULT 0
    let s2 := { s1 with brim := { s1.brim with taps := (s1.lanesOf p).foldl (fun m l => m.del l) s1.brim.taps } }
    presenceOfPort p (flushPort p (portVector p s2))
  else s.wr (prt p) F.prt_LINK_STATUS_LOCAL_FAULT 0

/-- All lanes of the port go QUIET, and the octet PLL follows. -/
def quietPort (p : Nat) (s : State) : State :=
  refreshPll (octetOf p) ((s.lanesOf p).foldl (fun t l => dropLane l 2 false t) s)

/-- STEP into HALTED (R142, R169). -/
def halt (p cause : Nat) (s : State) : State :=
  portVector p ((quietPort p (setStep p 9 (s.wr (prt p) F.prt_LINK_STATUS_FAIL_CAUSE cause))).raise (prt p) 1)

/-- R142: into RETUNE at a rate and a FEC mode with a kind of partner: every lane turns on, from the octet PLL. -/
def enterRetune (p rate fec partner : Nat) (s : State) : State :=
  let s1 := (((setStep p 4 s).wr (prt p) F.prt_LINK_STATUS_RATE rate).wr (prt p) F.prt_LINK_STATUS_FEC fec).wr (prt p)
    F.prt_LINK_STATUS_PARTNER partner
  let lane (t : State) (l : Nat) : State :=
    let t1 := { t with brim := { t.brim with
      taps := t.brim.taps.del l
      cdrProfile := t.brim.cdrProfile.put 0 l (t.profileOf l rate) } }
    let t2 := (((setLane l 0 0 t1).wr (lan l) F.lan_LANE_STATUS_BRINGUP_CLOCK 0).wr (lan l) F.lan_LANE_STATUS_RATE rate).wr
      (lan l) F.lan_LANE_STATUS_RATE_VALID 1
    showEq l (((t2.wr (lan l) F.lan_PARTNER_REQ_ACCEPTED 0).wr (lan l) F.lan_PARTNER_REQ_AT_LIMIT 0).wr (lan l)
      F.lan_PARTNER_REQ_PRESETS 0)
  let s2 := refreshPll (octetOf p) ((s1.lanesOf p).foldl lane s1)
  s2.putPortRec p { s2.portRec p with
    target := rate
    fec := fec
    goAt := none
    lost := []
    lockedAt := if s2.on (oct (octetOf p)) F.oct_OCT_STATUS_PLL_LOCK then some s2.mono else none }

/-- R138, R144: why the port may not enter WAIT_SIGNAL; 0 when it may. -/
def State.ladderBar (s : State) (p : Nat) : Nat :=
  let cfg := (s.portRec p).linkCfg
  let force := cfg.testBit 8
  let ok := if force then s.offerable p (cfgMaxRate cfg) else s.offers p != 0
  let near := if force then s.nearlyOfferable p (cfgMaxRate cfg) else (List.range 6).any (s.nearlyOfferable p)
  if s.on (tilPage p) F.til_TILE_STATUS_REF_ABSENT then 8 else if ok then 0 else if near then 7 else 2

/-- R142: the entry into WAIT_SIGNAL, from which the first lane sends pages (R137), with the cause of failure that led there (0 none). -/
def enterWait (p cause : Nat) (s : State) : State :=
  let fromUp := s.up p
  let s0 := if cause = 0 then s else s.wr (prt p) F.prt_LINK_STATUS_FAIL_CAUSE cause
  let s1 := leaveUp p s0
  let s2 := if fromUp then (s1.wr (prt p) F.prt_LINK_STATUS_RATES_REFUSED 0).bump (prt p) F.prt_LINK_STATUS_LINK_DOWNS else s1
  let s3 := (s2.putPortRec p { s2.portRec p with
    linkCfg := s2.linkCfg p
    cap := none
    goAt := none
    capAt := none
    lost := [] }).wr (prt p) F.prt_LINK_STATUS_PARTNER 0
  match s3.ladderBar p with
  | 0 =>
    let s4 := (s3.lanesOf p).foldl (fun t l => dropLane l (if l = p then 0 else 2) (l == p) t) (setStep p 1 s3)
    let s5 := refreshPll (octetOf p) s4
    let cfg := (s5.portRec p).linkCfg
    if cfg.testBit 8 then
      let r := cfgMaxRate cfg
      enterRetune p r (if r ≥ 2 then 2 else if (cfgFec cfg).testBit 1 then 1 else 0) 0 s5
    else sendPages p s5
  | c => halt p c (if c = 7 then s3.raise (prt p) 6 else s3)

/-- R142: FALLBACK from a rate with a cause. -/
def fallBack (p cause : Nat) (s : State) : State :=
  let r := (s.portRec p).target
  let s1 := (setStep p 8 s).wr (prt p) F.prt_LINK_STATUS_FAIL_CAUSE cause
  let s2 := s1.wr (prt p) F.prt_LINK_STATUS_RATES_REFUSED (putBit (s1.rd (prt p) F.prt_LINK_STATUS_RATES_REFUSED) r true)
  if (s2.portRec p).linkCfg.testBit 8 then halt p cause s2 else enterWait p 0 s2

/-- The ladder starts, from ENABLE or RESTART (R137, R142, R143). -/
def startLadder (p : Nat) (s : State) : State := enterWait p 0 (s.wr (prt p) F.prt_LINK_STATUS_RATES_REFUSED 0)

/-- PORT_ENABLE (R137, R138): during a retune of its octet the ENABLE waits for the PLL's lock (R134). -/
def enablePort (p : Nat) (s : State) : State :=
  if !s.configured p then s.set1 (prt p) F.hdr_PAGE_STATUS_WRITE_DROPPED
  else if s.on (prt p) F.prt_PORT_CTRL_ENABLE then s
  else
    let s1 := recomputePort p (s.wr (prt p) F.prt_PORT_CTRL_ENABLE 1)
    if s1.brim.retuning.contains (octetOf p) then { s1 with brim := { s1.brim with enabling := p :: s1.brim.enabling } }
    else startLadder p s1
def execPortEnable (port : Fin 1024) (s : State) : Out := .next (s.written (prt port.val) fun s => enablePort port.val s)

/-- PORT_DISABLE (R146): the ladder ends and the lanes go QUIET. -/
def disablePort (p : Nat) (s : State) : State :=
  if !s.configured p then s.set1 (prt p) F.hdr_PAGE_STATUS_WRITE_DROPPED
  else
    let s1 := leaveUp p (recomputePort p (s.wr (prt p) F.prt_PORT_CTRL_ENABLE 0))
    let s2 := { s1 with brim := { s1.brim with enabling := s1.brim.enabling.filter fun q => q != p } }
    quietPort p ((setStep p 0 s2).wr (prt p) F.prt_LINK_STATUS_PARTNER 0)
def execPortDisable (port : Fin 1024) (s : State) : Out := .next (s.written (prt port.val) fun s => disablePort port.val s)

/-- RESTART (R146, R168): ignored while ENABLE is 0 or waits. -/
def restartPort (p : Nat) (s : State) : State :=
  if s.configured p && s.on (prt p) F.prt_PORT_CTRL_ENABLE && s.ladder p != 0 then startLadder p s
  else if s.configured p then s else s.set1 (prt p) F.hdr_PAGE_STATUS_WRITE_DROPPED
def execRestart (port : Fin 1024) (s : State) : Out := .next (s.written (prt port.val) fun s => restartPort port.val s)

/-- An event of a port whose ladder stands at a step. -/
def atStep (port step : Nat) (f : State → State) (s : State) : Out :=
  .next (s.running fun s => s.given (s.configured port && s.ladder port == step) f)
/-- The step has lasted a number of ns. -/
def State.lasted (s : State) (p n : Nat) : Bool := decide ((s.portRec p).since + ns n ≤ s.mono)

/-- LANE_SIGNAL_DETECT (R142): energy on a lane, or its end. Ports of an octet that sleeps, or whose wake has failed, stay
down (R425). -/
def execLaneSignalDetect (lane : Fin 1024) (energy : Bool) (s : State) : Out :=
  .next (s.running fun s =>
    let l := lane.val
    let s1 := s.wr (lan l) F.lan_LANE_STATUS_SIGNAL (if energy then 1 else 0)
    if energy && decide ((s.mtn.doms.val {} (32 + octetOf l)).state ≤ 1) && s1.configured l && s1.ladder l == 1 then setStep l 2 s1 else s1)

/-- R139: into EXCHANGE. -/
def enterExchange (p : Nat) (s : State) : State := (setStep p 3 s).wr (prt p) F.prt_LINK_STATUS_PARTNER 2

/-- R137: the FEC mode that Clause 73 resolves for a rate: 0 none, 1 RS(528,514), 2 RS(544,514), 3 BASE-R. -/
def resolveFec (w rate allow : Nat) (rs baseR : Bool) : Nat :=
  if rate ≥ 2 then 2
  else if rate = 0 then 0
  else if w ≠ 1 then 1
  else if rs || (allow.testBit 1 && !allow.testBit 0) then 1
  else if baseR then 3 else 0

/-- AN_COMPLETE (R137, R139, R142): what the partner's pages hold: the Denoon next page, the technologies of this port's
width by rate code, and its RS-FEC and BASE-R FEC request bits. -/
def execAnComplete (port : Fin 1024) (denoon : Bool) (techs : BitVec 6) (rs baseR : Bool) (s : State) : Out :=
  atStep port.val 2 (fun s =>
    let p := port.val
    let cfg := (s.portRec p).linkCfg
    if cfg.testBit 4 && denoon then enterExchange p s
    else
      let w := s.widthOf p
      let common := (List.range 6).filter fun c =>
        cfg.testBit 3 && s.offerable p c && ieeeFec w c != 0 && techs.toNat.testBit c
      match common.getLast? with
      | none => halt p 2 s
      | some c =>
        let fec := resolveFec w c (cfgFec cfg) rs baseR
        if fec < 3 && (cfgFec cfg).testBit fec then enterRetune p c fec 1 s
        else fallBack p 2 (s.putPortRec p { s.portRec p with target := c })) s

/-- AN_TIMEOUT (R142). -/
def execAnTimeout (port : Fin 1024) (s : State) : Out :=
  atStep port.val 2 (fun s =>
    s.given (s.lasted port.val (1000000 * bits (s.portRec port.val).linkCfg 16 16)) (enterWait port.val 1)) s

/-- R140: a capability frame of a port, without its FCS. The spec gives no source address: a free value (log entry 175). -/
def State.capFrame (s : State) (p msg rate fec : Nat) : List Byte :=
  let x := s.portRec p
  let grp := s.on 0x55 F.hbd5_GROUP_CFG_ENABLE
  let ofGroup (v : Nat) : Nat := if grp then v else 0
  beBytes 6 0x0180C200000E ++ beBytes 6 (Config.portAddress p) ++ beBytes 2 (s.rd 0x55 F.hbd5_GROUP_CFG_ETHERTYPE) ++
    beBytes 1 msg ++ beBytes 1 1 ++ beBytes 2 x.capSeq ++ beBytes 8 (s.rd 0 F.idn_SERIAL) ++ beBytes 2 p ++
    beBytes 1 (s.widthOf p) ++ beBytes 1 (s.offers p) ++ beBytes 1 (cfgFec x.linkCfg) ++ beBytes 1 (1 + 2 * grp.toNat) ++
    beBytes 2 (ofGroup (s.rd 0x55 F.hbd5_GROUP_CFG_CHIP_ID)) ++ beBytes 1 (ofGroup (s.rd 0x55 F.hbd5_GROUP_CFG_GROUP_ID)) ++
    beBytes 1 0 ++ beBytes 1 rate ++ beBytes 1 fec ++ beBytes 4 (if msg = 3 then 20000 else 0) ++ List.replicate 18 0
/-- R140: it leaves on the port's first lane. -/
def sendCap (p msg rate fec : Nat) (s : State) : State :=
  let x := s.portRec p
  let bytes := s.capFrame p msg rate fec
  (s.send (.frame p (bytes ++ fcsOf bytes) false)).putPortRec p { x with capSeq := (x.capSeq + 1) % 65536 }

/-- DENOON_CAP_SEND (R140). -/
def execDenoonCapSend (port : Fin 1024) (s : State) : Out :=
  atStep port.val 3 (fun s =>
    let x := s.portRec port.val
    let due := match x.capAt with | some t => decide (t + ns 100000 ≤ s.mono) | none => true
    s.given due fun s => sendCap port.val 1 0 0 (s.putPortRec port.val { x with capAt := some s.mono })) s

/-- R141: the leader's choice, once it holds a CAP. -/
def lead (p : Nat) (cap : DenoonCap) (common : Nat) (s : State) : State :=
  let x := s.portRec p
  match highestRate common with
  | none => s
  | some r =>
    let fec := if r ≥ 2 then 2 else if cap.fec.testBit 0 ∧ (cfgFec x.linkCfg).testBit 0 then 0 else 1
    let s1 := sendCap p 3 r fec s
    s1.putPortRec p { s1.portRec p with
      target := r
      fec := fec
      goAt := some (s.mono + ns 20000) }

/-- R141: a capability frame received in EXCHANGE. -/
def receiveCap (p msg : Nat) (cap : DenoonCap) (rate fec delay : Nat) (s : State) : State :=
  let own := s.rd 0 F.idn_SERIAL
  let x := s.portRec p
  match msg with
  | 1 =>
    if cap.serial = own ∧ cap.port = p then halt p 10 s
    else if cap.width ≠ s.widthOf p then halt p 3 s
    else
      let common := cap.rates &&& s.offers p
      if common = 0 then halt p 2 s
      else
        let s1 := s.putPortRec p { x with cap := some cap }
        let leader := decide (own < cap.serial ∨ (own = cap.serial ∧ p < cap.port))
        if leader ∧ x.goAt.isNone then lead p cap common s1 else s1
  | 3 =>
    if x.goAt.isSome then s
    else
      let s1 := sendCap p 2 rate fec s
      s1.putPortRec p { s1.portRec p with
        target := rate
        fec := fec
        goAt := some (s.mono + ns delay) }
  | _ => s

/-- DENOON_CAP_RECEIVE (R141): MSG and fields of a capability frame; the others are the partner's own. -/
def execDenoonCapReceive (port : Fin 1024) (msg : Fin 4) (serial : Word) (sender : BitVec 16) (width rates fec : BitVec 8)
    (rate : Fin 6) (chosen : Fin 3) (delay : BitVec 32) (s : State) : Out :=
  atStep port.val 3 (receiveCap port.val msg.val ⟨serial.toNat, sender.toNat, width.toNat, rates.toNat, fec.toNat⟩ rate.val
    chosen.val delay.toNat) s

/-- RETUNE (R141, R142): GO_DELAY has passed. -/
def execRetune (port : Fin 1024) (s : State) : Out :=
  atStep port.val 3 (fun s =>
    let x := s.portRec port.val
    s.given (match x.goAt with | some t => decide (t ≤ s.mono) | none => false) (enterRetune port.val x.target x.fec 2)) s

/-- EXCHANGE_TIMEOUT (R142). -/
def execExchangeTimeout (port : Fin 1024) (s : State) : Out :=
  atStep port.val 3 (fun s =>
    s.given ((s.portRec port.val).goAt.isNone && s.lasted port.val 10000000) (enterWait port.val 4)) s

/-- R151, R152: a training frame of a lane: it requests no change of the partner's transmitter, and holds the status of what the
partner requested (0 none, 1 the tap updated, 2 the tap at its limit, 3 every tap at its entry value) and the tap, and whether
the receiver is ready. -/
def sendTraining (l status tap : Nat) (ready : Bool) (s : State) : State :=
  s.send (.message l "TRAINING" [0, status, tap, ready.toNat])

/-- The limit of training (R142), by the kind of partner. -/
def State.trainingLimit (s : State) (p : Nat) : Nat :=
  if s.rd (prt p) F.prt_LINK_STATUS_PARTNER = 1 then Config.trainingWait (s.widthOf p) (s.portRec p).target else 2000000

/-- R142, R152: into TRAINING; an IEEE partner's PMD training starts. -/
def enterTraining (p : Nat) (s : State) : State :=
  let s1 := setStep p 5 ((s.lanesOf p).foldl (fun t l => cdrLock l t) s)
  let s2 := s1.putPortRec p { s1.portRec p with limit := s1.trainingLimit p }
  if s2.rd (prt p) F.prt_LINK_STATUS_PARTNER = 1 then (s2.lanesOf p).foldl (fun t l => sendTraining l 0 0 false t) s2 else s2

/-- RETUNE_LOCKED (R142): every lane's CDR has locked, within 200,000 ns of the PLL's lock. -/
def execRetuneLocked (port : Fin 1024) (s : State) : Out :=
  atStep port.val 4 (fun s =>
    s.given (match (s.portRec port.val).lockedAt with | some t => decide (s.mono ≤ t + ns 200000) | none => false) (enterTraining port.val)) s

/-- RETUNE_TIMEOUT (R142): no PLL lock within 200,000 ns of entry, or no CDR lock within 200,000 ns of it. -/
def execRetuneTimeout (port : Fin 1024) (s : State) : Out :=
  atStep port.val 4 (fun s =>
    s.given (match (s.portRec port.val).lockedAt with
      | some t => decide (t + ns 200000 ≤ s.mono)
      | none => s.lasted port.val 200000) (fallBack port.val 5)) s

/-- R142, R152: into QUALIFY; the lanes have locked, and an IEEE partner has been told that the receivers are ready. -/
def enterQualify (p : Nat) (s : State) : State :=
  let s1 := if s.rd (prt p) F.prt_LINK_STATUS_PARTNER = 1 then (s.lanesOf p).foldl (fun t l => sendTraining l 0 0 true t) s else s
  setStep p 6 s1
/-- TRAINING_COMPLETE (R142): held while a lane is without its lock. -/
def execTrainingComplete (port : Fin 1024) (s : State) : Out :=
  atStep port.val 5 (fun s => s.given (s.portRec port.val).lost.isEmpty (enterQualify port.val)) s

/-- TRAINING_TIMEOUT (R142): the limit has passed; with an IEEE partner it is its PMD clause's own. -/
def execTrainingTimeout (port : Fin 1024) (s : State) : Out :=
  atStep port.val 5 (fun s => s.given (s.lasted port.val (s.portRec port.val).limit) (fallBack port.val 5)) s

/-! ### Preemption (R164, R165) -/

/-- What PREEMPT_STATUS shows of verification, and ACTIVE with its vector. -/
def showPreempt (p : Nat) (s : State) : State :=
  let on_ := s.on (prt p) F.prt_PREEMPT_CFG_ENABLE
  let frag := s.rd (prt p) F.prt_PREEMPT_CFG_PARTNER_ADD_FRAG != 0
  let v := (s.portRec p).verify
  let active : Nat := if on_ && v == 3 && !frag then 1 else 0
  let s1 := s.wr (prt p) F.prt_PREEMPT_STATUS_VERIFY (if !on_ then 0 else if frag then 5 else v)
  if s1.rd (prt p) F.prt_PREEMPT_STATUS_ACTIVE = active then s1
  else portVector p (s1.wr (prt p) F.prt_PREEMPT_STATUS_ACTIVE active)

/-- Verification starts again (R165). -/
def restartVerify (p : Nat) (s : State) : State :=
  let v := if !s.on (prt p) F.prt_PREEMPT_CFG_ENABLE then 0 else if s.on (prt p) F.prt_PREEMPT_CFG_VERIFY_DISABLE then 3 else 1
  showPreempt p (s.putPortRec p { s.portRec p with
    verify := v
    tries := 0 })

/-- PREEMPT_CFG_WRITE (R165): the register written whole. -/
def writePreempt (p data : Nat) (s : State) : State :=
  if !s.configured p then s.set1 (prt p) F.hdr_PAGE_STATUS_WRITE_DROPPED
  else
    let old := (s.rd (prt p) F.prt_PREEMPT_CFG_ENABLE, s.rd (prt p) F.prt_PREEMPT_CFG_VERIFY_DISABLE)
    let s1 := [F.prt_PREEMPT_CFG_ENABLE, F.prt_PREEMPT_CFG_VERIFY_DISABLE, F.prt_PREEMPT_CFG_VERIFY_TIME_MS,
      F.prt_PREEMPT_CFG_PARTNER_ADD_FRAG].foldl (fun t f => t.wr (prt p) f (bits data f.lo f.w)) s
    if (s1.rd (prt p) F.prt_PREEMPT_CFG_ENABLE, s1.rd (prt p) F.prt_PREEMPT_CFG_VERIFY_DISABLE) = old then showPreempt p s1
    else restartVerify p s1
def execPreemptCfgWrite (port : Fin 1024) (data : Word) (s : State) : Out :=
  .next (s.written (prt port.val) fun s => writePreempt port.val data.toNat s)

/-- PREEMPT_VERIFY_ATTEMPT (R164): the next attempt, or the failure after the third. -/
def execPreemptVerifyAttempt (port : Fin 1024) (s : State) : Out :=
  .next (s.running fun s =>
    let p := port.val
    let x := s.portRec p
    let wait := ns (1000000 * max 1 (min 128 (s.rd (prt p) F.prt_PREEMPT_CFG_VERIFY_TIME_MS)))
    s.given (s.up p && (x.verify == 1 || x.verify == 2) && (x.tries == 0 || decide (x.tryAt + wait ≤ s.mono))) fun s =>
      if x.tries ≥ 3 then (showPreempt p (s.putPortRec p { x with verify := 4 })).raise (prt p) 3
      else showPreempt p ((s.send (.message p "VERIFY" [])).putPortRec p { x with
        verify := 2
        tries := x.tries + 1
        tryAt := s.mono }))

/-- PREEMPT_VERIFY_RESPONSE (R164). -/
def execPreemptVerifyResponse (port : Fin 1024) (s : State) : Out :=
  .next (s.running fun s =>
    s.given (s.up port.val && (s.portRec port.val).verify == 2) fun s =>
      showPreempt port.val (s.putPortRec port.val { s.portRec port.val with verify := 3 }))

/-! ### The link (R143, R145) -/

/-- UP rises. -/
def enterUp (p : Nat) (s : State) : State :=
  let s1 := portVector p ((setStep p 7 s).wr (prt p) F.prt_LINK_STATUS_UP 1)
  let s2 := s1.putPortRec p { s1.portRec p with quietSince := s1.mono }
  presenceOfPort p (restartVerify p s2)

/-- QUALIFY_COMPLETE (R143). -/
def execQualifyComplete (port : Fin 1024) (s : State) : Out :=
  atStep port.val 6 (fun s =>
    s.given (s.lasted port.val (1000 * bits (s.portRec port.val).linkCfg 32 16)) (enterUp port.val)) s

/-- LINE_ERROR (R143, R169, R391): 0 an uncorrectable codeword, 1 a codeword with more than half its correctable symbols
in error, 2 an invalid block or sync header. -/
def execLineError (port : Fin 1024) (kind : Fin 3) (s : State) : Out :=
  .next (s.running fun s =>
    let p := port.val
    let fec := s.rd (prt p) F.prt_LINK_STATUS_FEC != 0
    s.given (s.configured p && decide (4 < s.ladder p ∧ s.ladder p < 8) && (decide (kind.val < 2) == fec)) fun s =>
      let s1 := if kind.val = 0 then (s.count 0x0106 p).raise (prt p) 2 else if kind.val = 1 then s.count 0x0105 p else s
      if s1.ladder p = 6 then fallBack p 6 s1 else s1)

/-- R158: LOCAL_FAULT follows a detector; while it stands the port sends Remote Fault. -/
def setLocalFault (p : Nat) (v : Bool) (s : State) : State :=
  if s.on (prt p) F.prt_LINK_STATUS_LOCAL_FAULT == v then s
  else (s.wr (prt p) F.prt_LINK_STATUS_LOCAL_FAULT v.toNat).send (.message p "REMOTE_FAULT" [v.toNat])

/-- R145: the frames that a port is receiving end as errored frames: those whose tails have not come. -/
def errorReceiving (p : Nat) (s : State) : State :=
  let ids := (s.palm.frames.filter fun x => x.2.port == p && x.2.verdict.isNone && !x.2.reply).map (·.1)
  let gone := (s.palm.tails.filter fun x => x.2.port == p).map (·.1)
  (ids ++ gone).foldl (fun t id => tailVerdict id false true false t) s

/-- LANE_LOCK_LOSS (R142, R145, R172): a lane loses block, marker or FEC lock, or has it again. -/
def lockLoss (l : Nat) (back : Bool) (s : State) : State :=
  match s.portOfLane l with
  | none => if back then s else s.raise (tilPage l) 5
  | some p =>
    let x := s.portRec p
    let lost := if back then x.lost.del l else if (x.lost.at? l).isSome then x.lost else x.lost.enter l s.mono
    let s1 := s.putPortRec p { x with lost := lost }
    match s.ladder p with
    | 5 => s1
    | 6 => if back then s1 else fallBack p 6 s1
    | 7 => if back then setLocalFault p (!lost.isEmpty) s1 else setLocalFault p true (errorReceiving p s1)
    | _ => s
def execLaneLockLoss (lane : Fin 1024) (back : Bool) (s : State) : Out := .next (s.running (lockLoss lane.val back))

/-- The link of a port is down (R145, R169). -/
def linkDown (p : Nat) (s : State) : State := enterWait p 9 (s.raise (prt p) 0)
/-- LINK_DOWN (R145): a lane has been without lock for 10,000 ns. -/
def execLinkDown (port : Fin 1024) (s : State) : Out :=
  atStep port.val 7 (fun s =>
    s.given ((s.portRec port.val).lost.any fun x => decide (x.2 + ns 10000 ≤ s.mono)) (linkDown port.val)) s

/-- REMOTE_FAULT (R158): the partner starts or stops sending Remote Fault. While it does, and while the port itself sends
Remote Fault because it detects Local Fault, the scheduler selects nothing for the port. -/
def execRemoteFault (port : Fin 1024) (on_ : Bool) (s : State) : Out :=
  atStep port.val 7 (·.wr (prt port.val) F.prt_LINK_STATUS_REMOTE_FAULT on_.toNat) s

/-! ## Octets (R133, R134, R172) -/

/-- The first lanes of PORT_START, and 8. -/
def portFirsts (start : Nat) : List Nat := (List.range 8).filter start.testBit ++ [8]
/-- R133: the layout is valid. -/
def layoutValid (start : Nat) : Bool :=
  let f := portFirsts start
  start.testBit 0 && (f.zip f.tail).all fun p =>
    let w := p.2 - p.1
    (w == 1 || w == 2 || w == 4 || w == 8) && p.1 % w == 0
/-- The width of the port that starts at lane `i` of a layout; 0 where none does. -/
def widthAt (start i : Nat) : Nat :=
  if start.testBit i then ((portFirsts start).find? fun j => decide (i < j)).getD 8 - i else 0

/-- R44, R134: the PRT pages of an octet follow its layout. -/
def layPorts (o start : Nat) (s : State) : State :=
  (List.range 8).foldl (fun t i =>
    let w := widthAt start i
    (t.wr (prt (8 * o + i)) F.hdr_PAGE_STATUS_CONFIGURED (if w = 0 then 0 else 1)).wr (prt (8 * o + i))
      F.prt_LINK_STATUS_WIDTH (match w with | 2 => 1 | 4 => 2 | 8 => 3 | _ => 0)) s

/-- OCT_CFG_WRITE (R133, R134): OCT_CFG written whole. -/
def writeOct (o data : Nat) (s : State) : State :=
  let pg := oct o
  let group := bits data 0 2
  let start := bits data 8 8
  let same := group == s.rd pg F.oct_OCT_CFG_RATE_GROUP && start == s.rd pg F.oct_OCT_CFG_PORT_START
  let idle := (List.range 8).all fun i => !s.on (prt (8 * o + i)) F.prt_PORT_CTRL_ENABLE
  if group = 3 ∨ !layoutValid start ∨ (!same ∧ !idle) then
    (s.set1 pg F.oct_OCT_STATUS_LAYOUT_REFUSED).set1 pg F.hdr_PAGE_STATUS_WRITE_DROPPED
  else
    let s1 := layPorts o start (s.wr pg F.oct_OCT_CFG_PORT_START start)
    if group = s.rd pg F.oct_OCT_CFG_RATE_GROUP then s1
    else
      let s2 := (s1.wr pg F.oct_OCT_CFG_RATE_GROUP group).wr pg F.oct_OCT_STATUS_PLL_LOCK 0
      refreshPll o { s2 with brim := { s2.brim with
        retuning := o :: s2.brim.retuning.filter fun k => k != o
        pllSince := s2.brim.pllSince.del o } }
def execOctCfgWrite (octet : Fin 128) (data : Word) (s : State) : Out :=
  .next (s.written (oct octet.val) fun s => writeOct octet.val data.toNat s)

/-- OCTET_PLL_LOCK (R134, R156): the PLL runs the octet's group, and ENABLEs that waited for a retune take effect. -/
def execOctetPllLock (octet : Fin 128) (s : State) : Out :=
  .next (s.running fun s =>
    let o := octet.val
    s.given (s.brim.pllSince.at? o).isSome fun s =>
      let waiting := s.brim.enabling.filter fun p => octetOf p == o
      let s1 := ({ s with brim := { s.brim with
        pllSince := s.brim.pllSince.del o
        retuning := s.brim.retuning.filter fun k => k != o
        enabling := s.brim.enabling.filter fun p => octetOf p != o } }.wr (oct o) F.oct_OCT_STATUS_PLL_LOCK 1).wr (oct o)
          F.oct_OCT_STATUS_GROUP_IN_FORCE (s.rd (oct o) F.oct_OCT_CFG_RATE_GROUP)
      let s2 := (s1.portsOfOctet o).foldl (fun t p =>
        if t.ladder p = 4 ∧ (t.portRec p).lockedAt.isNone then t.putPortRec p { t.portRec p with lockedAt := some t.mono } else t) s1
      refreshPll o (waiting.reverse.foldl (fun t p => startLadder p t) s2))

/-- R142, R172: the PLL of an octet loses lock: every link of the octet drops. -/
def unlockPll (o : Nat) (s : State) : State :=
  let s1 := s.wr (oct o) F.oct_OCT_STATUS_PLL_LOCK 0
  refreshPll o ((s1.portsOfOctet o).foldl (fun t p =>
    if t.ladder p = 7 then linkDown p t else if 4 ≤ t.ladder p ∧ t.ladder p ≤ 6 then enterWait p 9 t else t) s1)
/-- OCTET_PLL_UNLOCK (R172); in the safe state too, which stops none of it (R464, R462). -/
def execOctetPllUnlock (octet : Fin 128) (s : State) : Out :=
  .next (s.given (s.on (oct octet.val) F.oct_OCT_STATUS_PLL_LOCK && !s.boot.quiescing) fun s =>
    (unlockPll octet.val s).raise (tilPage (8 * octet.val)) 3)

/-- R23: a side's reference is gone: its tiles, octets and lanes report it, and their links drop. -/
def sideLost (side : Nat) (s : State) : State :=
  (List.range 4).foldl (fun t k =>
    let tile := 4 * side + k
    let t1 := t.wr (0x500 + tile) F.til_TILE_STATUS_REF_ABSENT 1
    let t2 := (List.range 16).foldl (fun u j =>
      let o := 16 * tile + j
      let u1 := (u.wr (oct o) F.oct_OCT_STATUS_REF_ABSENT 1).wr (oct o) F.oct_OCT_STATUS_PLL_LOCK 0
      let u2 := (List.range 8).foldl (fun v i => v.wr (lan (8 * o + i)) F.lan_LANE_STATUS_REF_ABSENT 1) u1
      refreshPll o ((u2.portsOfOctet o).foldl (fun v p =>
        if v.ladder p = 7 then linkDown p v else if v.ladder p ≠ 0 ∧ v.ladder p ≠ 9 then enterWait p 9 v else v) u2)) t1
    t2.raise (0x500 + tile) 8) s
/-- REF_LOST (R23): with the other side's reference gone too, GNT cause 9. -/
def execRefLost (side : Fin 2) (s : State) : Out :=
  .next (s.given (!s.on (0x500 + 4 * side.val) F.til_TILE_STATUS_REF_ABSENT) fun s =>
    let s1 := s.running (sideLost side.val)
    let s2 := if s.stopped then (List.range 4).foldl (fun t k => t.wr (0x500 + 4 * side.val + k) F.til_TILE_STATUS_REF_ABSENT 1) s else s1
    if s2.on 0x500 F.til_TILE_STATUS_REF_ABSENT && s2.on 0x504 F.til_TILE_STATUS_REF_ABSENT then s2.raise 0x20 9 else s2)

/-! ## Lane and equalisation registers (R150, R151, R155, R167) -/

/-- LANE_CTRL_WRITE (R150, R155): LANE_CTRL written whole; the quiet bits act only on a free lane. -/
def writeLaneCtrl (l data : Nat) (s : State) : State :=
  let pg := lan l
  let quiet := data % 4
  let now_ := s.rd pg F.lan_LANE_CTRL_TX_QUIET + 2 * s.rd pg F.lan_LANE_CTRL_RX_QUIET
  if !s.laneFree l ∧ quiet ≠ now_ then s.set1 pg F.hdr_PAGE_STATUS_WRITE_DROPPED
  else
    let s1 := [F.lan_LANE_CTRL_TX_QUIET, F.lan_LANE_CTRL_RX_QUIET, F.lan_LANE_CTRL_CDR_PROFILE, F.lan_LANE_CTRL_EQ_OVERRIDE,
      F.lan_LANE_CTRL_EQ_RATE].foldl (fun t f => t.wr pg f (bits data f.lo f.w)) s
    let s2 := if s.laneFree l then setLane l (if quiet % 2 = 1 then 2 else 0) (if quiet / 2 = 1 then 2 else 0) s1 else s1
    showEq l (refreshPll (octetOf l) s2)
def execLaneCtrlWrite (lane : Fin 1024) (data : Word) (s : State) : Out :=
  .next (s.written (lan lane.val) fun s => writeLaneCtrl lane.val data.toNat s)

/-- EQ_OVERRIDE_WRITE (R150): EQ_TX (0), EQ_RX (1) or EQ_DFE (2) written whole for EQ_RATE. -/
def writeEq (l which data : Nat) (s : State) : State :=
  let r := s.rd (lan l) F.lan_LANE_CTRL_EQ_RATE
  if s.on (lan l) F.lan_LANE_CTRL_EQ_OVERRIDE && s.laneFree l then
    let e := (s.eq l r).getD { tx := 0, rx := 0, dfe := 0 }
    let e1 := match which with
      | 0 => { e with tx := data % 2 ^ 48 }
      | 1 => { e with rx := data &&& 0x033F1F1F }
      | _ => { e with dfe := data }
    showEq l { s with brim := { s.brim with eqOver := s.brim.eqOver.enter (l * 8 + r) e1 } }
  else s.set1 (lan l) F.hdr_PAGE_STATUS_WRITE_DROPPED
def execEqOverrideWrite (lane : Fin 1024) (which : Fin 3) (data : Word) (s : State) : Out :=
  .next (s.written (lan lane.val) fun s => writeEq lane.val which.val data.toNat s)

/-- A transmit tap of an EQ_TX word. -/
def tapOf (w k : Nat) : Int := signed 8 (bits w (8 * k) 8)
/-- The word with a tap at a value. -/
def putTap (w k : Nat) (v : Int) : Nat := w - bits w (8 * k) 8 * 2 ^ (8 * k) + unsigned 8 v * 2 ^ (8 * k)
/-- R148: the taps are in their bounds. -/
def tapsLegal (w : Nat) : Bool :=
  decide (0 < tapOf w 3) && decide ((((List.range 5).map fun k => (tapOf w k).natAbs).sum : Nat) ≤ 128)

/-- COEFFICIENT_REQUEST (R151): a training frame of the partner: a preset, or a step of a tap (0 C_M3 to 4 C_P1), and the
answer to it. -/
def coefficient (l : Nat) (preset : Bool) (tap : Nat) (up : Bool) (s : State) : State :=
  match s.eq l (s.laneRate l) with
  | none => s
  | some e =>
    if preset then
      sendTraining l 3 0 false
        (showEq l ({ s with brim := { s.brim with taps := s.brim.taps.del l } }.bump (lan l) F.lan_PARTNER_REQ_PRESETS))
    else
      let w := s.brim.taps.val e.tx l
      let v := tapOf w tap + (if up then 1 else -1)
      let win : Nat := if tap < 3 then e.winPre else if tap = 3 then e.winMain else e.winPost
      let n := putTap w tap v
      if (v - tapOf e.tx tap).natAbs ≤ win ∧ -128 ≤ v ∧ v ≤ 127 ∧ tapsLegal n then
        sendTraining l 1 tap false
          (showEq l ({ s with brim := { s.brim with taps := s.brim.taps.enter l n } }.bump (lan l) F.lan_PARTNER_REQ_ACCEPTED))
      else
        let s1 := sendTraining l 2 tap false (s.bump (lan l) F.lan_PARTNER_REQ_AT_LIMIT)
        match s1.portOfLane l with
        | some p => s1.raise (prt p) 5
        | none => s1
def execCoefficientRequest (lane : Fin 1024) (preset : Bool) (tap : Fin 5) (up : Bool) (s : State) : Out :=
  .next (s.running fun s => match s.portOfLane lane.val with
    | some p => s.given (s.ladder p == 5 && s.rd (prt p) F.prt_LINK_STATUS_PARTNER == 1) (coefficient lane.val preset tap.val up)
    | none => s)

/-- EYE_REFRESH (R167): a lane of a port that is UP, once each second. -/
def execEyeRefresh (lane : Fin 1024) (height width : BitVec 16) (s : State) : Out :=
  .next (s.running fun s =>
    let l := lane.val
    let sec := secondOf s.now
    let isUp := match s.portOfLane l with | some p => s.up p | none => false
    s.given (isUp && s.brim.eyeAt.at? l != some sec) fun s =>
      ({ s with brim := { s.brim with eyeAt := s.brim.eyeAt.enter l sec } }.wr (lan l) F.lan_EYE_HEIGHT height.toNat).wr (lan l)
        F.lan_EYE_WIDTH width.toNat)

/-! ## Low-power idle (R154) -/

/-- R136: the port type has Energy Efficient Ethernet: the rate codes 0x0 and 0x1, each the only one of its group (R132). -/
def State.eee (s : State) (p : Nat) : Bool := s.rd (oct (octetOf p)) F.oct_OCT_CFG_RATE_GROUP ≤ 1

/-- TX_LPI_ENTRY (R154, R308). -/
def execTxLpiEntry (port : Fin 1024) (s : State) : Out :=
  .next (s.running fun s =>
    let p := port.val
    s.given (s.up p && s.eee p && s.on (prt p) F.prt_TX_CTRL_LPI_ENABLE && !s.on (prt p) F.prt_LINK_STATUS_TX_LPI &&
        !s.relBusy p && !(s.palm.replicas.any fun x => x.2.port == p) &&
        decide ((s.portRec p).quietSince + ns (max 256 (s.rd (prt p) F.prt_TX_CTRL_LPI_ENTRY_NS)) ≤ s.mono)) fun s =>
      ((s.lanesOf p).foldl (fun t l => t.wr (lan l) F.lan_LANE_STATUS_TX_STATE 1) (s.wr (prt p) F.prt_LINK_STATUS_TX_LPI 1)).count
        0x0111 p)

/-- TX_LPI_WAKE (R154): a frame is queued or committed, and the PHY's wake time has passed. -/
def execTxLpiWake (port : Fin 1024) (s : State) : Out :=
  .next (s.running fun s => s.given (s.palm.replicas.any fun x => x.2.port == port.val) (wakeTx port.val))

/-- RX_LPI_CHANGE (R154): the partner enters or leaves low-power idle. -/
def execRxLpiChange (port : Fin 1024) (on_ : Bool) (s : State) : Out :=
  .next (s.running fun s =>
    let p := port.val
    let v : Nat := if on_ then 1 else 0
    s.given (s.up p && s.eee p) fun s =>
      (s.lanesOf p).foldl (fun t l => t.wr (lan l) F.lan_LANE_STATUS_RX_STATE v) (s.wr (prt p) F.prt_LINK_STATUS_RX_LPI v))

/-- R154: TX_CTRL written whole: an LPI_ENABLE of 1 is discarded without EEE or on a member of an enabled release group. -/
def writeTxCtrl (p data : Nat) (s : State) : State :=
  if data % 2 = 1 ∧ (!s.eee p ∨ s.relBusy p) then s.set1 (prt p) F.hdr_PAGE_STATUS_WRITE_DROPPED
  else
    let s1 := (s.wr (prt p) F.prt_TX_CTRL_LPI_ENABLE data).wr (prt p) F.prt_TX_CTRL_LPI_ENTRY_NS (max 256 (bits data 16 16))
    if data % 2 = 1 then s1 else wakeTx p s1

/-! ## Priority flow control (R159 to R162) -/

/-- One priority of a received PFC frame. -/
def pausePriority (p : Nat) (pr quanta : Nat) (s : State) : State :=
  let x := s.portRec p
  let show_ (v : Bool) (t : State) : State :=
    let t1 := t.wr (prt p) F.prt_PFC_STATUS_PAUSED (putBit (t.rd (prt p) F.prt_PFC_STATUS_PAUSED) pr v)
    -- a class that is paused has its deficit set to 0 (R262)
    if v then t1.putSched p { t1.sched p with deficit := (t1.sched p).deficit.put 0 (t1.classOfPriority p pr) 0 } else t1
  if s.classOfPriority p pr = 7 then s
  else if quanta = 0 then show_ false (s.putPortRec p { x with pauses := x.pauses.del pr })
  else if (s.rd (prt p) F.prt_PFC_CFG_RX_ENABLE).testBit pr then
    show_ true (s.putPortRec p { x with pauses := x.pauses.enter pr (s.mono + byteTimes (s.speed p) (64 * quanta)) })
  else s

/-- PFC_RECEIVE (R160, R162): the priorities named, and their quanta. -/
def execPfcReceive (port : Fin 1024) (named : BitVec 8) (quanta : List (BitVec 16)) (s : State) : Out :=
  .next (s.running fun s =>
    let p := port.val
    let q (pr : Nat) : Nat := (quanta.getD pr 0).toNat
    let all := (List.range 8).filter named.toNat.testBit
    s.given (s.up p) fun s =>
      let s1 := all.foldl (fun t pr => pausePriority p pr (q pr) t) (s.count 0x010E p)
      if all.any fun pr => s.classOfPriority p pr == 7 && q pr != 0 then
        (s1.bump (prt p) F.prt_PFC_STATUS_TC7_IGNORED).raise (prt p) 4
      else s1)

/-- PFC_QUANTA_EXPIRY (R160). -/
def execPfcQuantaExpiry (port : Fin 1024) (priority : Fin 8) (s : State) : Out :=
  .next (s.running fun s =>
    let p := port.val
    let x := s.portRec p
    s.given (match x.pauses.at? priority.val with | some t => decide (t ≤ s.mono) | none => false) fun s =>
      (s.putPortRec p { x with pauses := x.pauses.del priority.val }).wr (prt p) F.prt_PFC_STATUS_PAUSED
        (putBit (s.rd (prt p) F.prt_PFC_STATUS_PAUSED) priority.val false))

/-- PFC_RESEND (R161): half the quanta have passed, and the threshold still holds. -/
def execPfcResend (port : Fin 1024) (cls : Fin 8) (s : State) : Out :=
  .next (s.running fun s =>
    let p := port.val
    let g := s.pg p cls.val
    let quanta := s.rd (prt p) F.prt_PFC_CFG_TX_QUANTA
    s.given (g.xoff && s.up p && decide (g.sentAt + byteTimes (s.speed p) (32 * quanta) ≤ s.mono)) fun s =>
      sendPfc p (s.prioritiesOf p cls.val) quanta (s.putPg p cls.val { g with sentAt := s.mono }))

/-! ## Enhanced transmission selection (R163) -/

/-- ETS_CFG_WRITE (R163): ETS_CFG written whole; in effect at the next frame boundary. -/
def writeEts (p data : Nat) (s : State) : State :=
  let ets := (List.range 7).filter fun c => !data.testBit (56 + c)
  let sum := (ets.map fun c => bits data (8 * c) 8).sum
  if !s.configured p ∨ (!ets.isEmpty ∧ sum ≠ 100) then s.set1 (prt p) F.hdr_PAGE_STATUS_WRITE_DROPPED
  else
    let s1 := s.putPortRec p { s.portRec p with etsNext := some data }
    if s1.atBoundary p then applyEts p s1 else s1
def execEtsCfgWrite (port : Fin 1024) (data : Word) (s : State) : Out :=
  .next (s.written (prt port.val) fun s => writeEts port.val data.toNat s)

end Sys2Proof.Machine
end

