-- ==== Sys2Proof/Machine/TableCmds.lean ====
section
/-! DEFINITION. The command queues of the table engines, the epoch, and the shadow (spec/07_tables_search.md, R229 to
R242). -/

namespace Sys2Proof.Machine

/-! ## Queues and descriptors (R230 to R232) -/

/-- The page of a command queue. -/
def cqPage (q : Nat) : Nat := 0x310 + q
def State.cq (s : State) (q : Nat) : Cq := s.tbl.cqs.val {} q
def State.putCq (s : State) (q : Nat) (c : Cq) : State := { s with tbl := { s.tbl with cqs := s.tbl.cqs.put {} q c } }
def State.cqSize (s : State) (q : Nat) : Nat := 2 ^ s.rd (cqPage q) F.tblq_CQ_CFG_LOG2_SIZE
/-- Fetched commands of every queue that have not completed. -/
def State.inFlight (s : State) : Nat := (s.tbl.cqs.map fun p => p.2.fetched.length).sum
def showCq (q : Nat) (s : State) : State :=
  (s.wr (cqPage q) F.tblq_CQ_STATUS_IN_FLIGHT (s.cq q).fetched.length).wr 0x300 F.tbl0_CMD_STATUS_IN_FLIGHT s.inFlight

/-- R230, R488: a fetch error stops a queue. -/
def cqError (q : Nat) (translation : Bool) (s : State) : State :=
  let pg := cqPage q
  (((s.set1 pg F.tblq_CQ_STATUS_STOPPED).set1 pg F.tblq_CQ_STATUS_FETCH_ERR).raise 0x300 3).raise 0x380 (if translation then 4 else 3)
/-- R536: a queue whose accesses fail because the host link is down; it starts again at CQ_HEAD (R230), and fetches again
what has not completed. -/
def cutCq (q : Nat) (s : State) : State :=
  cqError q false (showCq q (s.putCq q { s.cq q with
    posted := (s.cq q).fetched ++ (s.cq q).posted
    fetched := []
    done := none
    drain := none }))
/-- R230: a queue that is enabled and not stopped fetches what is posted, while fewer than 4,096 commands are in
flight. -/
def fetchPosted (q : Nat) (s : State) : State :=
  if s.on (cqPage q) F.tblq_CQ_CFG_ENABLE && !s.on (cqPage q) F.tblq_CQ_STATUS_STOPPED then
    let c := s.cq q
    if !s.hostUp then (if c.posted.isEmpty then s else cutCq q s) else
    let n := 4096 - s.inFlight
    showCq q (s.putCq q { c with
      fetched := c.fetched ++ c.posted.take n
      posted := c.posted.drop n })
  else s

/-- Fields of a descriptor (R232). -/
def dOp (d : List Byte) : Nat := leVal (slice d 0 1)
def dTable (d : List Byte) : Nat := leVal (slice d 1 1)
def dFlag (d : List Byte) (b : Nat) : Bool := (leVal (slice d 2 2)).testBit b
def dData (d : List Byte) : Nat := leVal (slice d 8 4)
def dPriority (d : List Byte) : Nat := leVal (slice d 0x0C 2)
def dLength (d : List Byte) : Nat := leVal (slice d 0x0E 1)
def dSlices (d : List Byte) : List Nat := (List.range 32).filter (leVal (slice d 0x10 4)).testBit
def dIndex (d : List Byte) : Nat := leVal (slice d 0x14 4)
def dArg (d : List Byte) : Nat := leVal (slice d 0x18 4)
def dEffect (d : List Byte) : T80 := leVal (slice d 0x20 8) * nsUnits + leVal (slice d 0x28 2)
/-- KEY and MASK as a table's key: the leading bytes (R205). -/
def dKey (d : List Byte) (table : Nat) : Nat := beVal (slice d 0x40 (keyBytes table))
def dMask (d : List Byte) : Nat := beVal (slice d 0x80 60)

/-- A completion: its fields, and KEY and MASK where the command writes them (R231 to R234). -/
structure Completion where
  status : Nat
  gen : Nat := 0
  result : Nat := 0
  count : Nat := 0
  age : Nat := 0
  key : Option (List Byte) := none
  mask : Option (List Byte) := none

/-- R231: the oldest command of a queue completes: its fields, then STATUS, the head, the vector. -/
def finish (q : Nat) (c : Completion) (s : State) : State :=
  match (s.cq q).fetched with
  | [] => s
  | d :: rest =>
    if !s.hostUp then cutCq q s else
    let pg := cqPage q
    let head := s.rd pg F.tblq_CQ_HEAD % s.cqSize q
    let at_ := s.rd pg F.tblq_CQ_BASE * 256 + 256 * head
    let put (off : Nat) (bs : Option (List Byte)) (t : State) : State :=
      match bs with | some b => t.send (.hostWrite (at_ + off) b) | none => t
    let fields := leBytes 3 0 ++ leBytes 4 c.gen ++ leBytes 8 c.result ++ leBytes 4 c.count ++ leBytes 2 c.age ++
      leBytes 2 0 ++ leBytes 8 s.nowNs
    let s1 := put 0xC0 (some (leBytes 1 c.status)) (put 0xC1 (some fields) (put 0x80 c.mask (put 0x40 c.key s)))
    let s2 := (s1.putCq q { s1.cq q with
      fetched := rest
      done := none
      drain := none }).wr pg F.tblq_CQ_HEAD ((head + 1) % s.cqSize q)
    let s3 := showCq q s2
    let s4 := if dFlag d 7 then s3 else s3.vector (256 + q)
    (List.range 16).foldl (fun t k => fetchPosted k t) s4

/-- R234: a leading command of an unknown OP completes with BAD_CMD; `n` bounds their number. -/
def skipUnknown (q : Nat) : Nat → State → State
  | 0, s => s
  | n + 1, s => match (s.cq q).fetched with
    | [] => s
    | d :: _ => if 1 ≤ dOp d ∧ dOp d ≤ 9 then s else skipUnknown q n (finish q { status := 7 } s)
/-- What has been fetched is looked at. -/
def pump (s : State) : State :=
  (List.range 16).foldl (fun t q => skipUnknown q ((t.cq q).fetched.length + (t.cq q).posted.length) t) s
def complete (q : Nat) (c : Completion) (s : State) : State := pump (finish q c s)

/-- The oldest command of a queue, when it is of an opcode and has not been carried out. -/
def State.command (s : State) (q op : Nat) : Option (List Byte) :=
  match (s.cq q).fetched with
  | d :: _ => if dOp d = op ∧ (s.cq q).done.isNone ∧ (s.cq q).drain.isNone then some d else none
  | [] => none
/-- A command carried out on a running device. -/
def onCommand (q op : Nat) (f : List Byte → State → State) (s : State) : State :=
  s.running fun s => match s.command q op with
    | some d => f d s
    | none => s

/-- CQ_DOORBELL (R230): CQ_TAIL written, with the descriptors that the host has posted up to it. -/
def execCqDoorbell (queue : Fin 16) (tail : BitVec 12) (descs : List (List Byte)) (s : State) : Out :=
  .next (s.written (cqPage queue.val) fun s =>
      let q := queue.val
      let size := s.cqSize q
      let new_ := (tail.toNat % size + size - s.rd (cqPage q) F.tblq_CQ_TAIL % size) % size
      s.given (decide (descs.length = new_) && descs.all fun d => d.length == 256) fun s =>
        let s1 := s.wr (cqPage q) F.tblq_CQ_TAIL tail.toNat
        wakeCrown (pump (fetchPosted q (s1.putCq q { s1.cq q with posted := (s1.cq q).posted ++ descs }))))

/-- CQ_FETCH_ERR (R230, R488): a translation that failed, or another failure of the access. -/
def execCqFetchErr (queue : Fin 16) (translation : Bool) (s : State) : Out :=
  .next (s.running fun s => s.given (s.on (cqPage queue.val) F.tblq_CQ_CFG_ENABLE) (cqError queue.val translation))

/-- R230, R243: a write of CQ_CFG. LOG2_SIZE outside 4 to 12 discards it whole, and a change of LOG2_SIZE while ENABLE is
1 is discarded; ENABLE at 1 after 0 restarts a stopped queue. -/
def writeCqCfg (q : Nat) (w : Word) (s : State) : State :=
  let pg := cqPage q
  let l := w.toNat / 256 % 16
  if l < 4 ∨ l > 12 then s.set1 pg F.hdr_PAGE_STATUS_WRITE_DROPPED
  else
    let was := s.on pg F.tblq_CQ_CFG_ENABLE
    let s1 := if was then s else s.wr pg F.tblq_CQ_CFG_LOG2_SIZE l
    let s2 := s1.wr pg F.tblq_CQ_CFG_ENABLE (w.toNat % 2)
    if w.toNat % 2 = 1 ∧ !was then pump (fetchPosted q (s2.wr pg F.tblq_CQ_STATUS_STOPPED 0)) else s2

/-- CQ_ENABLE (R230). -/
def execCqEnable (queue : Fin 16) (data : Word) (s : State) : Out :=
  .next (s.written (cqPage queue.val) fun s => writeCqCfg queue.val data s)

/-! ## SEARCH and NEXT (R215, R218, R233) -/

def State.found (s : State) (result age : Nat) (key mask : Option (List Byte)) : Completion :=
  { status := if result = 0 then 2 else 1, gen := s.genNow, result := result, age := age, key := key, mask := mask }
/-- Bytes of a key written over KEY. -/
def keyField (table key : Nat) : List Byte := beBytes (keyBytes table) key ++ List.replicate (60 - keyBytes table) 0
/-- An EMT entry found at an index. -/
def emtFound (i : Nat) (e : EmtEntry) (showKey : Bool) (s : State) : Completion :=
  s.found (emtResult i e) e.stamp (if showKey then some (keyField 1 e.key) else none) none

/-- R233: SEARCH. -/
def searchCmd (d : List Byte) (s : State) : Completion :=
  let t := dTable d
  let g := s.genNow
  let i := dIndex d
  let bad : Completion := { status := 7 }
  let miss : Completion := s.found 0 0 none none
  if dFlag d 2 then
    match t with
    | 1 => if i ≥ 0x400040 then bad else match (s.emtAt i).seen g with | some e => emtFound i e true s | none => miss
    | 2 => if i ≥ 196608 then bad else match (s.lpaAt i).seen g with
      | some e => s.found (lpaResult i e false) 0 (some (keyField 2 e.value)) none
      | none => miss
    | 3 => if i ≥ 1536 then bad else match dSlices d with
      | [] => bad
      | sl :: _ => match (s.claAt (1536 * sl + i)).seen g with
        | some e => s.found (claResult i e false) 0 (some (keyField 3 e.value)) (some (beBytes 60 e.mask))
        | none => miss
    | _ => bad
  else match t with
    | 1 => match s.emtFind g (dKey d 1) with | some (j, e) => emtFound j e false s | none => miss
    | 2 => s.found (s.lookup 2 0 g (dKey d 2)).1 0 none none
    | 3 => match dSlices d with
      | [] => bad
      | sl :: _ => s.found (s.lookup 3 sl g (dKey d 3)).1 0 none none
    | _ => bad

/-- The first of the keys that a walk owes which the EMT still holds. -/
def State.owedEntry (s : State) (owed : List Nat) : Option (Nat × EmtEntry) :=
  owed.findSome? fun k => s.emtFind s.genNow k
/-- R233: one step of a walk of the EMT, and the walk after it. The next entry above INDEX is returned; where there is none,
those that moved from ahead of the walk to an index that it had passed, one a command (log entry 186). -/
def walkStep (d : List Byte) (walk : Option Walk) (s : State) : Completion × Option Walk :=
  let i := dIndex d
  let w : Walk := match walk with
    | some w => if w.last = i then w else { last := i, at_ := i }
    | none => { last := i, at_ := i }
  let from_ := if i = 0xFFFFFFFF then 0 else w.at_ + 1
  match s.tbl.emt.findSome? fun p => if p.1 ≥ from_ then (p.2.seen s.genNow).map fun e => (p.1, e) else none with
  | some (j, e) => (emtFound j e true s, some { last := j, at_ := j, owed := if i = 0xFFFFFFFF then [] else w.owed })
  | none => match s.owedEntry (if i = 0xFFFFFFFF then [] else w.owed) with
    | some (j, e) => (emtFound j e true s,
        some { last := j, at_ := 0x400040, owed := (w.owed.dropWhile fun k => k != e.key).drop 1 })
    | none => (s.found 0 0 none none, none)

/-- R233: NEXT. -/
def nextCmd (d : List Byte) (walk : Option Walk) (s : State) : Completion × Option Walk :=
  let g := s.genNow
  let i := dIndex d
  let bad : Completion := { status := 7 }
  let miss : Completion := s.found 0 0 none none
  let with_ (c : Completion) : Completion × Option Walk := (c, walk)
  match dTable d with
  | 1 => walkStep d walk s
  | 2 => with_ <|
    if dLength d > 161 then bad
    else
      let ms := s.lpaMatches g (dKey d 2)
      match ms.find? fun m => decide (m.2.length < dLength d) with
      | some (j, e) => s.found (lpaResult j e (decide (ms.length > 1))) 0 none none
      | none => miss
  | 3 => with_ <|
    match dSlices d with
    | [] => bad
    | sl :: _ =>
      if i ≥ 1536 ∧ i ≠ 0xFFFFFFFF then bad
      else
        let ms := s.claMatches sl g (dKey d 3)
        let after (m : Nat × ClaEntry) : Bool :=
          i == 0xFFFFFFFF || decide (m.2.priority < dPriority d ∨ (m.2.priority = dPriority d ∧ m.1 > i))
        match claFirst (ms.filter after) with
        | some (j, e) => s.found (claResult j e (decide (ms.length > 1))) 0 none none
        | none => miss
  | _ => with_ bad
/-- R233: a NEXT carried out. -/
def nextOf (q : Nat) (d : List Byte) (s : State) : State :=
  let r := nextCmd d (s.cq q).walk s
  complete q r.1 (s.putCq q { s.cq q with walk := r.2 })

/-! ## Changes (R211 to R219, R235) -/

/-- What a place of a table becomes. -/
inductive Row where
  | emt (x : Option EmtEntry)
  | lpa (x : Option LpaEntry)
  | cla (x : Option ClaEntry)
  deriving DecidableEq, Repr
def Row.table : Row → Nat
  | .emt _ => 1
  | .lpa _ => 2
  | .cla _ => 3

/-- An earlier version of the place is still kept (R219). -/
def State.kept (s : State) (table i : Nat) : Bool :=
  match table with
  | 1 => (s.emtAt i).since.isSome
  | 2 => (s.lpaAt i).since.isSome
  | _ => (s.claAt i).since.isSome
/-- The place has a staged change (R235). -/
def State.isStaged (s : State) (table i : Nat) : Bool :=
  match table with
  | 1 => (s.emtAt i).staged.isSome
  | 2 => (s.lpaAt i).staged.isSome
  | _ => (s.claAt i).staged.isSome
/-- The place belongs to the epoch that is open or being committed. -/
def State.inEpochSet (s : State) (table i : Nat) : Bool := s.tbl.epoch.changes.contains (table, i)
def State.epochState (s : State) : Nat := s.rd 0x300 F.tbl0_EPOCH_STATUS_STATE

/-- A version put in force at a generation; the earlier one is kept while a program that may see it runs (R219). -/
def Place.put {α : Type} (p : Place α) (x : Option α) (g : Nat) (keep : Bool) : Place α :=
  let q := if keep then p.commit x g else { p.retire with now := x }
  { q with staged := none }
def putRow (i : Nat) (r : Row) (g : Nat) (s : State) : State :=
  let keep := s.runsOlder g
  match r with
  | .emt x => (if x.isNone then dropHold i else id) (s.putEmt i ((s.emtAt i).put x g keep))
  | .lpa x => s.putLpa i ((s.lpaAt i).put x g keep)
  | .cla x => showCla (s.putCla i ((s.claAt i).put x g keep))
/-- An invisible version written (R235). -/
def stageRow (i : Nat) (r : Row) (s : State) : State :=
  let s1 := match r with
    | .emt x => s.putEmt i { s.emtAt i with staged := some x }
    | .lpa x => s.putLpa i { s.lpaAt i with staged := some x }
    | .cla x => s.putCla i { s.claAt i with staged := some x }
  let e := s1.tbl.epoch
  if e.changes.contains (r.table, i) then s1
  else { s1 with tbl := { s1.tbl with epoch := { e with changes := e.changes ++ [(r.table, i)] } } }
/-- What a place's staged version is. -/
def State.stagedRow (s : State) (table i : Nat) : Option Row :=
  match table with
  | 1 => (s.emtAt i).staged.map .emt
  | 2 => (s.lpaAt i).staged.map .lpa
  | _ => (s.claAt i).staged.map .cla
/-- An invisible version discarded. -/
def unstage (table i : Nat) (s : State) : State :=
  match table with
  | 1 => s.putEmt i { s.emtAt i with staged := none }
  | 2 => s.putLpa i { s.lpaAt i with staged := none }
  | _ => s.putCla i { s.claAt i with staged := none }

/-- What a change command does: it waits (`none`), completes with a status, or changes places in a state in which room
has been made. -/
abbrev Plan := Except (Option Nat) (List (Nat × Row) × State)
/-- A command outside the epoch on a place with a staged change (R235, R239). -/
def State.conflict (s : State) : Option Nat := if s.epochState = 1 then some 9 else none

/-- R211, R233: INSERT (3), DELETE (4) or MODIFY (5) of the EMT. -/
def State.planEmt (s : State) (op : Nat) (ep : Bool) (d : List Byte) (path : List Nat) : Plan :=
  let key := dKey d 1
  let place := (s.homes key).find? fun i =>
    let p := s.emtAt i
    let is (e : Option EmtEntry) : Bool := match e with | some x => x.key == key | none => false
    if ep then is p.inEpoch else is p.now || (match p.staged with | some e => is e | none => false)
  if op = 3 then
    if s.emtPresent key then
      match place with
      | some i => if !ep && s.inEpochSet 1 i && s.epochState != 1 then .error none else .error (some 3)
      | none => .error (some 3)
    else match s.emtRoom key path with
      | none => .error (some 4)
      | some (i, s1) => .ok ([(i, .emt (some ⟨key, dData d, dFlag d 1, false, s.ageStamp⟩))], s1)
  else match place with
    | none => .error (some 5)
    | some i =>
      if !ep && s.inEpochSet 1 i then .error s.conflict
      else match (if ep then (s.emtAt i).inEpoch else (s.emtAt i).now) with
        | none => .error (some 5)
        | some e => .ok ([(i, .emt (if op = 4 then none else some { e with
            data := dData d
            isStatic := dFlag d 1 }))], s)

/-- The places at which the LPA differs between two states. -/
def lpaMoves (s t : State) : List Nat :=
  let at_ (m : SMap (Place LpaEntry)) (i : Nat) : Place LpaEntry := m.val {} i
  ((s.tbl.lpa.map (·.1) ++ t.tbl.lpa.map (·.1)).eraseDups).filter fun i => at_ s.tbl.lpa i != at_ t.tbl.lpa i
/-- R214: the lists that name places follow a shift: an entry is found again by its LENGTH and VALUE. -/
def followShift (s t : State) : State :=
  let changed := lpaMoves s t
  let nameOf (p : Place LpaEntry) : Option (Nat × Nat) :=
    (match p.staged with | some (some e) => some e | _ => p.now.orElse fun _ => p.before).map fun (e : LpaEntry) => (e.length, e.value)
  changed.foldl (fun u i =>
    match nameOf (s.lpaAt i) with
    | none => toShadow 2 i u
    | some k => match changed.find? fun j => nameOf (t.lpaAt j) == some k with
      | some j => if j = i then u else moved 2 i j none u
      | none => u) t

/-- R212 to R214: the same of the LPA. -/
def State.planLpa (s : State) (op : Nat) (ep : Bool) (d : List Byte) (choice : Nat) : Plan :=
  let l := dLength d
  if l > 160 then .error (some 7)
  else
    let value := topBits l (dKey d 2) * 2 ^ (160 - l)
    let is (e : Option LpaEntry) : Bool := match e with | some x => x.length == l && x.value == value | none => false
    let place := (s.tbl.lpa.find? fun p =>
      if ep then is p.2.inEpoch else is p.2.now || (match p.2.staged with | some e => is e | none => false)).map (·.1)
    if op = 3 then
      if s.lpaPresent value l then
        match place with
        | some i => if !ep && s.inEpochSet 2 i && s.epochState != 1 then .error none else .error (some 3)
        | none => .error (some 3)
      else match s.lpaRoom l choice with
        | none => .error (some 4)
        | some (i, s1) => .ok ([(i, .lpa (some ⟨value, l, dData d⟩))], followShift s s1)
    else match place with
      | none => .error (some 5)
      | some i =>
        if !ep && s.inEpochSet 2 i then .error s.conflict
        else match (if ep then (s.lpaAt i).inEpoch else (s.lpaAt i).now) with
          | none => .error (some 5)
          | some e => .ok ([(i, .lpa (if op = 4 then none else some { e with data := dData d }))], s)

/-- R216, R218: the same of the CLA, in every slice that SLICE_MASK names. -/
def State.planCla (s : State) (op : Nat) (ep : Bool) (d : List Byte) : Plan :=
  let sls := dSlices d
  let at_ (l : Nat) : List Nat := sls.map fun sl => 1536 * sl + l
  let named := op != 3 || dFlag d 3
  if sls.isEmpty || (named && decide (dIndex d ≥ 1536)) then .error (some 7)
  else if op = 3 then
    let e : ClaEntry := ⟨dKey d 3, dMask d, dPriority d, dData d⟩
    let rows (l : Nat) : List (Nat × Row) := (at_ l).map fun i => (i, .cla (some e))
    if dFlag d 3 then
      if !ep && (at_ (dIndex d)).any (s.inEpochSet 3) then .error s.conflict
      else if (at_ (dIndex d)).any fun i => (s.claAt i).occupied then .error (some 6)
      else .ok (rows (dIndex d), s)
    else match (List.range 1536).find? fun l => (at_ l).all fun i => !(s.claAt i).occupied with
      | none => .error (some 4)
      | some l => .ok (rows l, s)
  else
    let ps := at_ (dIndex d)
    if !ep && ps.any (s.inEpochSet 3) then .error s.conflict
    else
      let cur (i : Nat) : Option ClaEntry := if ep then (s.claAt i).inEpoch else (s.claAt i).now
      if ps.any fun i => (cur i).isNone then .error (some 5)
      else .ok (ps.filterMap fun i => (cur i).map fun e => (i, .cla (if op = 4 then none else some { e with
        data := dData d
        priority := dPriority d })), s)

def State.plan (s : State) (op : Nat) (ep : Bool) (d : List Byte) (path : List Nat) (choice : Nat) : Plan :=
  match dTable d with
  | 1 => s.planEmt op ep d path
  | 2 => s.planLpa op ep d choice
  | 3 => s.planCla op ep d
  | _ => .error (some 7)

/-- The change's place in DDR5 exists (spec/17: with no channel in use a change command completes with FULL). -/
def State.shadowReachable (s : State) : Bool := s.on 0x340 F.ddr0_DDR_STATUS_AVAILABLE

/-- R235: the epoch opens with its first command; the journal holds a record that is not SEALED (R238). -/
def openEpoch (s : State) : State :=
  if s.epochState ≠ 0 then s
  else { s with tbl := { s.tbl with
    epoch := {}
    journal := { phase := 1, id := (s.rd 0x300 F.tbl0_EPOCH_STATUS_EPOCH_ID + 1) % 2 ^ 24 } } }.wr 0x300
      F.tbl0_EPOCH_STATUS_STATE 1

/-- R235: a command staged in the epoch. -/
def stageChange (q op : Nat) (d : List Byte) (path : List Nat) (choice : Nat) (s : State) : State :=
  if s.epochState ≥ 2 then complete q { status := 10 } s
  else
    let s0 := openEpoch s
    let err (st : Nat) : State := complete q { status := st } (s0.bump 0x300 F.tbl0_EPOCH_STATUS_ERRORS)
    if s0.rd 0x300 F.tbl0_EPOCH_STATUS_STAGED ≥ 65536 then err 11
    else if !s0.shadowReachable then err 4
    else match s0.plan op true d path choice with
      | .error (some st) => err st
      | .error none => s
      | .ok (rows, s1) =>
        let s2 := rows.foldl (fun t r => stageRow r.1 r.2 t) s1
        complete q { status := 8 } (s2.wr 0x300 F.tbl0_EPOCH_STATUS_STAGED (s2.rd 0x300 F.tbl0_EPOCH_STATUS_STAGED + 1))

/-- A command is done and completes once its places are in the shadow (R231). -/
def await (q : Nat) (x : CqDone) (s : State) : State :=
  if x.places.isEmpty then complete q { status := x.status, gen := x.gen, result := x.result, count := x.count, age := x.age } s
  else (x.places.foldl (fun t p => toShadow p.1 p.2 t) s).putCq q { s.cq q with done := some x }

/-- R219, R231: a change outside the epoch: a generation of its own for all its places, once none of them keeps an earlier
version. -/
def commitChange (q op : Nat) (d : List Byte) (path : List Nat) (choice : Nat) (s : State) : State :=
  if !s.shadowReachable then complete q { status := 4 } s
  else match s.plan op false d path choice with
    | .error (some st) => complete q { status := st } s
    | .error none => s
    | .ok (rows, s1) =>
      if rows.any fun r => s1.kept r.2.table r.1 then s
      else
        let s2 := stepGen s1
        let s3 := rows.foldl (fun t r => putRow r.1 r.2 s2.genNow t) s2
        await q { status := 1, gen := s2.genNow, places := rows.map fun r => (r.2.table, r.1) } s3

/-- A change command: staged when FLAGS.EPOCH is set. -/
def changeCmd (q op : Nat) (path : List Nat) (choice : Nat) (d : List Byte) (s : State) : State :=
  if dFlag d 0 then stageChange q op d path choice s else commitChange q op d path choice s

/-! ## Passes over the EMT (R229) -/

/-- R229: the entries that a test picks are removed, those with a staged change passed over. -/
def passEmt (q : Nat) (pick : EmtEntry → Bool) (s : State) : State :=
  let go := s.tbl.emt.filter fun p => p.2.staged.isNone && (match p.2.now with | some e => pick e | none => false)
  let s1 := go.foldl (fun t p => removeEmt p.1 t) s
  await q { status := 1, gen := s.genNow, count := go.length, places := go.map fun p => (1, p.1), late := true } s1

/-- R229: the pass of FLUSH_BY_PORT. -/
def flushCmd (q : Nat) (d : List Byte) (s : State) : State :=
  if dTable d ≠ 1 ∨ dFlag d 0 ∨ dArg d > 1023 then complete q { status := 7 } s
  else passEmt q (fun e => e.data.testBit 10 && e.port == dArg d && (dFlag d 4 || !e.isStatic)) s
/-- R229: the pass of AGE_SWEEP. -/
def sweepCmd (q : Nat) (d : List Byte) (s : State) : State :=
  if dTable d ≠ 1 ∨ dFlag d 0 then complete q { status := 7 } s
  else passEmt q (fun e => !e.isStatic && decide (s.age e ≥ dArg d)) s

/-! ## GEN_DRAIN (R221) -/

/-- GEN_DRAIN (R221). -/
def execGenDrain (queue : Fin 16) (s : State) : Out :=
  .next (onCommand queue.val 8 (fun d s =>
    let q := queue.val
    let g := if dArg d = 0 then s.genNow else dArg d
    if dTable d ≠ 0 then complete q { status := 7 } s
    else if s.holdsOlder g then s.putCq q { s.cq q with drain := some (g, s.mono, false) }
    else complete q { status := 1, gen := g } s) s)
/-- GEN_DRAIN_COMPLETE (R221). -/
def execGenDrainComplete (queue : Fin 16) (s : State) : Out :=
  .next (s.running fun s => match (s.cq queue.val).drain with
    | some (g, _, _) => s.given (!s.holdsOlder g) (complete queue.val { status := 1, gen := g })
    | none => s)
/-- GEN_DRAIN_SLOW (R221): 100 ms of waiting. -/
def execGenDrainSlow (queue : Fin 16) (s : State) : Out :=
  .next (s.running fun s => match (s.cq queue.val).drain with
    | some (g, t, false) => s.given (s.holdsOlder g && decide (s.mono ≥ t + ns 100000000)) fun s =>
        ((s.putCq queue.val { s.cq queue.val with drain := some (g, t, true) }).raise 0x300 5).vector 276
    | _ => s)

/-! ## Epochs (R235 to R239) -/

/-- R236: a commit refused. -/
def refuseEpoch (cause : Nat) (s : State) : State :=
  ((s.wr 0x300 F.tbl0_EPOCH_STATUS_REFUSE_CAUSE cause).raise 0x300 4).vector 275
/-- R237: the open epoch discarded; its return to IDLE sends vector 274 (spec/07, message vectors). -/
def discardEpoch (s : State) : State :=
  let s1 := s.tbl.epoch.changes.foldl (fun t x => unstage x.1 x.2 t) s
  let s2 := ((({ s1 with tbl := { s1.tbl with epoch := {}, journal := { phase := 0, id := s1.tbl.journal.id } } }.wr 0x300
    F.tbl0_EPOCH_STATUS_STATE 0).wr 0x300 F.tbl0_EPOCH_STATUS_STAGED 0).wr 0x300 F.tbl0_EPOCH_STATUS_ERRORS 0)
  if s.epochState = 0 then s2 else s2.vector 274

/-- EPOCH_COMMIT (R236, R237): refused, or accepted and in SEAL. -/
def execEpochCommit (queue : Fin 16) (s : State) : Out :=
  .next (onCommand queue.val 9 (fun d s =>
    let q := queue.val
    let st := s.epochState
    if dFlag d 5 then s
    else if dTable d ≠ 0 then complete q { status := 7 } s
    else if st ≥ 2 then complete q { status := 10 } s
    else if st = 0 ∧ s.armed.isEmpty then complete q { status := 15 } s
    else if s.armed.any fun g => s.ucsState g != 3 then complete q { status := 12 } (refuseEpoch 1 s)
    else if s.rd 0x300 F.tbl0_EPOCH_STATUS_ERRORS ≠ 0 ∧ !dFlag d 6 then complete q { status := 12 } (refuseEpoch 2 s)
    else
      let s1 := openEpoch s
      let e := { s1.tbl.epoch with
        queue := some q
        effect := dEffect d }
      let s2 := { s1 with tbl := { s1.tbl with epoch := e } }.putCq q { s1.cq q with done := some { status := 1, places := [] } }
      (s2.wr 0x300 F.tbl0_EPOCH_STATUS_STATE 2).wr 0x300 F.tbl0_EPOCH_STATUS_ERRORS 0) s)

/-- EPOCH_ABORT (R237). -/
def execEpochAbort (queue : Fin 16) (s : State) : Out :=
  .next (onCommand queue.val 9 (fun d s =>
    let q := queue.val
    if !dFlag d 5 then s
    else if dTable d ≠ 0 then complete q { status := 7 } s
    else if s.epochState ≥ 2 then complete q { status := 10 } s
    else if s.epochState = 0 then complete q { status := 15 } s
    else complete q { status := 14 } (discardEpoch s)) s)

/-- R237: the effect: one generation for the whole set, every staged version in force, every armed slice that is STAGED switched. It waits
while a place keeps an earlier version (R219). -/
def epochEffect (s : State) : State :=
  let e := s.tbl.epoch
  if e.changes.any fun x => s.kept x.1 x.2 then s
  else
    let s1 := stepGen s
    let s2 := e.changes.foldl (fun t x => match t.stagedRow x.1 x.2 with
      | some r => putRow x.2 r s1.genNow t
      | none => t) s1
    let s3 := (s2.armed.filter fun g => s2.ucsState g == 3).foldl (fun t g => switchBank g t) s2
    let s4 := { s3 with tbl := { s3.tbl with epoch := { e with gen := s1.genNow } } }
    let s5 := s4.wrPair 0x300 F.tbl0_EPOCH_EFFECT_NS F.tbl0_EPOCH_EFFECT_FRAC s.now
    let s6 := (s5.wr 0x300 F.tbl0_EPOCH_STATUS_EPOCH_ID ((s5.rd 0x300 F.tbl0_EPOCH_STATUS_EPOCH_ID + 1) % 2 ^ 24)).wr 0x300
      F.tbl0_EPOCH_STATUS_STATE 4
    let s7 := if e.late then s6.set1 0x300 F.tbl0_EPOCH_STATUS_LATE else s6
    (s7.count 0x0A03 0).vector 274

/-! ## The order of one cycle (R222) -/

/-- What a table act does. -/
def runAct (a : TableAct) (s : State) : State :=
  match a with
  | .command q op path choice => onCommand q op (fun d s => match op with
    | 1 => complete q (searchCmd d s) s
    | 2 => nextOf q d s
    | 6 => flushCmd q d s
    | 7 => sweepCmd q d s
    | _ => changeCmd q op path choice d s) s
  | .effect _ => s.running fun s => s.given (s.epochState == 3 && decide (s.tbl.epoch.effect ≤ s.now)) epochEffect
  | .learn path => s.running (learnNext path)
  | .back e => s.running (stashBack e)
  | .visit i => s.running (sweepVisit i)

/-- R222: the place of an act in its cycle: searches, host commits by queue, learns, moves, age-outs and sweeps. -/
def TableAct.rank : TableAct → Nat × Nat
  | .command q op _ _ => if op ≤ 2 then (0, 0) else if op ≤ 5 then (1, q) else (4, 0)
  | .effect q => (1, q)
  | .learn _ => (2, 0)
  | .back _ => (3, 0)
  | .visit _ => (4, 0)
/-- The queue whose ring order an act keeps (R231). -/
def TableAct.queue : TableAct → Option Nat
  | .command q _ _ _ => some q
  | _ => none
/-- The same of a command that waits behind in this cycle; a program's word may search. -/
def State.rankOf (s : State) : Instr → Option ((Nat × Nat) × Option Nat)
  | .microwordIssue egress _ _ _ _ => if egress then none else some ((0, 0), none)
  | .search q => some ((0, 0), some q.val)
  | .next q => some ((0, 0), some q.val)
  | .insert q _ _ => some ((1, q.val), some q.val)
  | .delete q => some ((1, q.val), some q.val)
  | .modify q => some ((1, q.val), some q.val)
  | .epochEffect => some ((1, s.tbl.epoch.queue.getD 0), none)
  | .learnApply _ => some ((2, 0), none)
  | .stashMoveBack _ => some ((3, 0), none)
  | .flushByPort q => some ((4, 0), some q.val)
  | .ageSweep q => some ((4, 0), some q.val)
  | .ageSweeperVisit _ => some ((4, 0), none)
  | _ => none
/-- One place comes before another. -/
def rankBefore (a b : Nat × Nat) : Bool := decide (a.1 < b.1 ∨ (a.1 = b.1 ∧ a.2 < b.2))

/-- An act waits for what R222 puts ahead of it in this cycle, and for its own queue's earlier commands. -/
def State.mustWait (s : State) (a : TableAct) : Bool :=
  (s.pending.any fun c => match s.rankOf c with
    | some (r, q) => rankBefore r a.rank && (q.isNone || q != a.queue)
    | none => false) ||
  s.tbl.deferred.any fun b => (b.queue.isSome && b.queue == a.queue) || rankBefore b.rank a.rank
/-- Nothing that concerns the tables waits in this cycle. -/
def State.cycleOver (s : State) : Bool := s.pending.all fun c => (s.rankOf c).isNone
/-- The next of acts that wait: the first by rank among each queue's oldest. -/
def nextAct (acts : List TableAct) : Option TableAct :=
  (acts.filter fun a => a.queue.isNone || (acts.find? fun b => b.queue == a.queue) == some a).foldl (fun best a =>
    match best with
    | some b => if rankBefore a.rank b.rank then some a else some b
    | none => some a) none
/-- Acts that wait are carried out in the order of R222; `n` is their number. -/
def runActs : Nat → State → State
  | 0, s => s
  | n + 1, s => match nextAct s.tbl.deferred with
    | some a => runActs n (runAct a { s with tbl := { s.tbl with deferred := s.tbl.deferred.erase a } })
    | none => s
/-- The cycle's acts, once nothing more can come ahead of them. -/
def endCycle (s : State) : State :=
  if s.cycleOver && !s.tbl.deferred.isEmpty then runActs s.tbl.deferred.length s else s
/-- An act in its place of the cycle (R222). -/
def tableAct (a : TableAct) (s : State) : State :=
  endCycle (if s.mustWait a then { s with tbl := { s.tbl with deferred := s.tbl.deferred ++ [a] } } else runAct a s)

/-- MICROWORD_ISSUE (R186): its searches see the tables as they stood before the cycle's changes (R222). -/
def execMicrowordIssue (egress : Bool) (id : Nat) (bad : List Nat) (wait late : Nat) (s : State) : Out :=
  .next (endCycle (issueMicroword egress id bad wait late s))
/-- SEARCH (R233). -/
def execSearch (queue : Fin 16) (s : State) : Out := .next (tableAct (.command queue.val 1 [] 0) s)
/-- NEXT (R233). -/
def execNext (queue : Fin 16) (s : State) : Out := .next (tableAct (.command queue.val 2 [] 0) s)
/-- INSERT (R211): `path` is what the relocation engine finds for the EMT, `choice` the free index it takes in the LPA. -/
def execInsert (queue : Fin 16) (path : List Nat) (choice : Nat) (s : State) : Out :=
  .next (tableAct (.command queue.val 3 path choice) s)
/-- DELETE (R233). -/
def execDelete (queue : Fin 16) (s : State) : Out := .next (tableAct (.command queue.val 4 [] 0) s)
/-- MODIFY (R233). -/
def execModify (queue : Fin 16) (s : State) : Out := .next (tableAct (.command queue.val 5 [] 0) s)
/-- FLUSH_BY_PORT (R229). -/
def execFlushByPort (queue : Fin 16) (s : State) : Out := .next (tableAct (.command queue.val 6 [] 0) s)
/-- AGE_SWEEP (R229). -/
def execAgeSweep (queue : Fin 16) (s : State) : Out := .next (tableAct (.command queue.val 7 [] 0) s)
/-- LEARN_APPLY (R224). -/
def execLearnApply (path : List Nat) (s : State) : Out := .next (tableAct (.learn path) s)
/-- STASH_MOVE_BACK (R211). -/
def execStashMoveBack (entry : Fin 64) (s : State) : Out := .next (tableAct (.back entry.val) s)
/-- AGE_SWEEPER_VISIT (R228): a visit to a way slot or stash entry. -/
def execAgeSweeperVisit (index : Fin 0x400040) (s : State) : Out := .next (tableAct (.visit index.val) s)

/-- EPOCH_SEAL_COMPLETE (R236, R237): the list and its digest are written, or the journal could not take them. -/
def execEpochSealComplete (journalOk : Bool) (s : State) : Out :=
  .next (s.running fun s =>
    s.given (s.epochState == 2) fun s => match s.tbl.epoch.queue with
      | none => s
      | some q =>
        if !journalOk then complete q { status := 12 } (refuseEpoch 3 (discardEpoch (s.raise 0x300 10)))
        else
          let e := s.tbl.epoch
          let late := decide (e.effect ≠ 0 ∧ e.effect ≤ s.now)
          let of_ {α : Type} (f : Row → Option (Option α)) (t : Nat) : SMap (Option α) :=
            e.changes.foldl (fun m x => if x.1 = t then match (s.stagedRow t x.2).bind f with
              | some v => m.enter x.2 v
              | none => m else m) []
          let s1 := { s with tbl := { s.tbl with
            epoch := { e with late := late }
            journal := { s.tbl.journal with
              phase := 2
              slices := s.armed
              images := s.armed.foldl (fun m g => SMap.enter m g ((s.store g).bank (1 - s.activeBank g))) [] }
            listEmt := of_ (fun r => match r with | .emt x => some x | _ => none) 1
            listLpa := of_ (fun r => match r with | .lpa x => some x | _ => none) 2
            listCla := of_ (fun r => match r with | .cla x => some x | _ => none) 3 } }
          let s2 := { s1 with tbl := { s1.tbl with journal := { s1.tbl.journal with digest := sha384 s1.tbl.listBytes } } }
          let s3 := s2.wr 0x300 F.tbl0_EPOCH_STATUS_STATE 3
          if e.effect ≤ s.now then tableAct (.effect q) s3 else s3)

/-- EPOCH_EFFECT (R237): TIME has reached EFFECT. -/
def execEpochEffect (s : State) : Out := .next (tableAct (.effect (s.tbl.epoch.queue.getD 0)) s)

/-- The queues whose commands were waiting for the shadow and need wait no longer. -/
def releaseDone (s : State) : State :=
  (List.range 16).foldl (fun t q => match (t.cq q).done with
    | some x =>
      if x.places.isEmpty || x.places.any t.tbl.behind.contains then t
      else complete q { status := x.status, gen := if x.late then t.genNow else x.gen, result := x.result, count := x.count, age := x.age } t
    | none => t) s

/-- Versions of a place retire, once no program may see the earlier one (R219). -/
def retireAt (table i : Nat) (s : State) : State :=
  let go (t : Option Nat) : Bool := match t with | some g => !s.runsOlder g | none => false
  match table with
  | 1 => if go (s.emtAt i).since then s.putEmt i (s.emtAt i).retire else s
  | 2 => if go (s.lpaAt i).since then s.putLpa i (s.lpaAt i).retire else s
  | _ => if go (s.claAt i).since then s.putCla i (s.claAt i).retire else s

/-- VERSION_RETIRE (R219). -/
def execVersionRetire (table : Fin 3) (index : Nat) (s : State) : Out := .next (s.running (retireAt (table.val + 1) index))

/-- EPOCH_SETTLE_COMPLETE (R237). -/
def execEpochSettleComplete (s : State) : Out :=
  .next (s.running fun s =>
    let e := s.tbl.epoch
    s.given (s.epochState == 4 && !s.runsOlder e.gen) fun s =>
      let s1 := e.changes.foldl (fun t x => mirror x.1 x.2 (retireAt x.1 x.2 t)) s
      let n := s1.rd 0x300 F.tbl0_EPOCH_STATUS_STAGED
      let s2 := { s1 with tbl := { s1.tbl with
        epoch := {}
        listEmt := []
        listLpa := []
        listCla := []
        journal := { s1.tbl.journal with phase := 3 } } }
      let s3 := ((s2.wr 0x300 F.tbl0_EPOCH_STATUS_STATE 0).wr 0x300 F.tbl0_EPOCH_STATUS_STAGED 0).vector 274
      match e.queue with
      | some q => releaseDone (complete q { status := if e.failover then 11 else if e.late then 13 else 1, gen := e.gen, count := n } s3)
      | none => releaseDone s3)

/-! ## The shadow (R240 to R242) -/

/-- SHADOW_WRITE (R240): a place reaches the shadow, or its write fails. -/
def execShadowWrite (table : Fin 3) (index : Nat) (ok : Bool) (s : State) : Out :=
  .next (s.running fun s =>
    s.given (s.tbl.behind.contains (table.val + 1, index) && s.shadowReachable) fun s =>
      if ok then releaseDone (mirror (table.val + 1) index s) else s.raise 0x300 9)

/-- R242: a place takes what the shadow holds; an age stamp, which a refresh does not write there, is no difference. A learn that had not reached it is LOST, and so is an age-out's
reporting: the entry is then as it was before. -/
def reload (table i : Nat) (s : State) : State :=
  match table with
  | 1 =>
    let p := s.emtAt i
    let sh := s.tbl.shEmt.at? i
    let content (x : Option EmtEntry) : Option EmtEntry := x.map fun e => { e with stamp := 0 }
    if content p.now = content sh then s
    else
      let (port, key) := match p.now, sh with
        | some e, _ => (e.port, e.key)
        | none, some e => (e.port, e.key)
        | none, none => (0, 0)
      let s1 := s.putEmt i { p with now := if p.now.isNone then none else sh }
      notify 6 port 0xFFFF s.nowNs i key (s1.bump 0x301 F.tbl1_LEARN_COUNTS_DROPPED)
  | 2 => s.putLpa i { s.lpaAt i with now := s.tbl.shLpa.at? i }
  | _ => showCla (s.putCla i { s.claAt i with now := s.tbl.shCla.at? i })

/-- The EMT place differs from the shadow only because an entry has moved into it or out of it (R211). -/
def State.relocated (s : State) (i : Nat) : Bool :=
  match (s.emtAt i).now, s.tbl.shEmt.at? i with
  | some e, _ => s.tbl.shEmt.any fun p => p.1 != i && p.2.key == e.key && ((s.emtAt p.1).now.map EmtEntry.key) != some e.key
  | none, some e => s.tbl.emt.any fun p => p.1 != i && (match p.2.now with | some x => x.key == e.key | none => false)
  | none, none => false
/-- A change of the place that is to be written to the shadow, so that a reload leaves it: a change command's (R231), an
epoch's in SETTLE (R237), a move's (R211, R214). What is left for R242 is a learn or an age-out. -/
def State.awaited (s : State) (table i : Nat) : Bool :=
  (s.tbl.cqs.any fun p => match p.2.done with | some x => x.places.contains (table, i) | none => false) ||
    (s.epochState == 4 && s.inEpochSet table i) ||
    (s.tbl.behind.contains (table, i) && (table != 1 || s.relocated i))

/-- R525, R526: a line of the shadow carries poison. -/
def State.shadowPoisoned (s : State) : Bool := s.poison.any fun p => decide (0x1000000 ≤ p.1 ∧ p.1 < 0x2000000)
/-- R526: an entry whose shadow line carries poison is lost: an EMT entry is reported LOST, the others count in
SHADOW_LOST with DDR cause 2. -/
def loseEntry (table i : Nat) (s : State) : State :=
  match table with
  | 1 => match (s.emtAt i).now with
    | some e => notify 6 e.port 0xFFFF s.nowNs i e.key
        ((toShadow 1 i (s.putEmt i { s.emtAt i with now := none })).bump 0x301 F.tbl1_LEARN_COUNTS_DROPPED)
    | none => s
  | 2 => if (s.lpaAt i).now.isNone then s
    else ((toShadow 2 i (s.putLpa i { s.lpaAt i with now := none })).bump 0x340 F.ddr0_SHADOW_LOST).raise 0x340 2
  | _ => if (s.claAt i).now.isNone then s
    else ((toShadow 3 i (showCla (s.putCla i { s.claAt i with now := none }))).bump 0x340 F.ddr0_SHADOW_LOST).raise 0x340 2

/-- SHADOW_RELOAD (R241, R526): the places of a word that met an uncorrectable error are rewritten. -/
def execShadowReload (table : Fin 3) (places lost : List Nat) (s : State) : Out :=
  .next (s.running fun s => s.given (s.shadowReachable && (lost.isEmpty || s.shadowPoisoned)) fun s =>
    (places.filter fun i => !lost.contains i).foldl (fun t i =>
      if t.awaited (table.val + 1) i then t
      else
        let u := reload (table.val + 1) i t
        { u with tbl := { u.tbl with behind := u.tbl.behind.filter fun x => x != (table.val + 1, i) } })
      (lost.foldl (fun t i => loseEntry (table.val + 1) i t) s))

end Sys2Proof.Machine
end

