-- ==== Sys2Proof/Machine/Mitten.lean ====
section
/-! DEFINITION. Mitten (spec/13): votes and hold-off, privileged domains, entries, AVSBus, wakes, reinitialisation, the
retention check, wake failure. -/

namespace Sys2Proof.Machine

/-! ## Votes, hold-off and privileged domains (R412 to R419) -/

/-- A write of PWR_VOTE (R413): a reserved state is discarded, and so is a write on a page without a domain. -/
def writeVote (page v : Nat) (s : State) : State :=
  match domainOfPage page with
  | some d => if v % 8 = 5 ∨ v % 8 = 6 then s else recomputeDom d (s.wr page F.hdr_PWR_VOTE_STATE v)
  | none => s

/-- POWER_VOTE (R414): the host votes through PWR_VOTE (0), FIRMWARE votes (1), or a hardware hold has changed (2). -/
def execPowerVote (domain : Fin 209) (source : Fin 3) (vote : Fin 8) (s : State) : Out :=
  let d := domain.val
  .next (match source.val with
    | 0 => if s.stopped then s else writeVote (pageOfDomain d) vote.val s
    | 1 => s.running fun s => recomputeDom d (s.putDom d { s.dom d with firmware := if vote.val ≤ 4 then vote.val else 7 })
    | _ => s.running (recomputeDom d))

/-- HOLDOFF_EXPIRY (R415, R417): the entry starts, or a privileged block is asked, under the votes and holds as they now stand
(R32, R33, R250). -/
def execHoldoffExpiry (domain : Fin 209) (s : State) : Out :=
  .next (s.running fun s =>
    let d := domain.val
    let due := match (s.dom d).holdFrom with
      | some t => decide (t + ns (1000 * (s.dom d).holdoff) ≤ s.mono)
      | none => false
    s.given due fun s0 =>
      let s := recomputeDom d s0
      let x := s.dom d
      s.given (x.holdFrom.isSome && x.trans == 0 && decide (x.state < x.target)) fun s =>
        if privileged d then s.putDom d { x with
          holdFrom := none
          asked := 1
          askTo := x.target
          askAt := s.mono }
        else startEntry d x.target s)

/-- R418: a privileged block delays its answer. `busy`: it writes a history record or a journal. -/
def State.delays (s : State) (d : Nat) (busy : Bool) : Bool :=
  match d with
  | 205 => decide (0 < s.inFlight) || s.on 0x11 F.crn1_MB_STATUS_BUSY || s.rd 0x12 F.crn2_CR_HEAD != s.rd 0x12 F.crn2_CR_TAIL ||
    s.rd 0x300 F.tbl0_EPOCH_STATUS_STATE != 0 || s.rd 0x10 F.crn0_CROWN_STATUS_UPDATE_STATE != 0
  | 206 => busy
  | 207 => busy || s.on 0x70 F.ldg0_LDG_STATUS_SIGN_BUSY
  | _ => false
/-- R418: the reason for which it refuses the state asked for; 0 none. -/
def State.refuses (s : State) (d to_ : Nat) : Nat :=
  match d with
  | 205 => if to_ ≥ 3 then 1 else 0
  | 206 => if to_ = 4 then 1 else if to_ ≥ 2 ∧ ((List.range 16).any s.enabledRef ∨
      (List.range 1024).any fun p => (s.ptpPort p).field F.hbd4_PORT_CFG_PTP_ENABLE == 1) then 2 else 0
  | 207 => if to_ ≥ 2 ∧ s.on 0x70 F.ldg0_LDG_CFG_ENABLE then 3 else 0
  | _ => if to_ ≥ 2 then 1 else 0

/-- PRIVILEGED_ANSWER (R417, R418): the block answers; `delay` is the delay it names, in µs. -/
def execPrivilegedAnswer (domain : Fin 209) (busy : Bool) (delay : BitVec 16) (s : State) : Out :=
  .next (s.running fun s =>
    let d := domain.val
    let x := s.dom d
    s.given (x.asked == 1 && decide (s.mono ≤ x.askAt + ns 100000)) fun s =>
      if s.delays d busy then s.putDom d { x with
        asked := 2
        askAt := s.mono + ns (1000 * delay.toNat)
        lastAnswer := 2 }
      else
        let r := s.refuses d x.askTo
        if r = 0 then startEntry d x.askTo (s.putDom d { x with lastAnswer := 1 })
        else (s.putDom d { x with
          asked := 3
          lastAnswer := 3
          reason := r }).vector 35)

/-- HANDSHAKE_NO_ANSWER (R417). -/
def execHandshakeNoAnswer (domain : Fin 209) (s : State) : Out :=
  .next (s.running fun s =>
    let x := s.dom domain.val
    s.given (x.asked == 1 && decide (x.askAt + ns 100000 ≤ s.mono)) fun s =>
      ((s.putDom domain.val { x with
        asked := 3
        lastAnswer := 4
        reason := 4 }).raise 0x30 4).vector 35)

/-- DELAY_EXPIRY (R417): Mitten asks again. -/
def execDelayExpiry (domain : Fin 209) (s : State) : Out :=
  .next (s.running fun s =>
    let x := s.dom domain.val
    s.given (x.asked == 2 && decide (x.askAt ≤ s.mono)) (·.putDom domain.val { x with
      asked := 1
      askAt := s.mono }))

/-! ## What a domain loses and takes back (R411, R423) -/

/-- RO fields that report what a reset of the block keeps under R537 and R538, not what its logic has counted or is doing:
references, configuration in force, the contents of its SRAM and of MRAM, DDR5, the host link, energy totals (DEDUCED). -/
def conditionFields : Layout → List Fld
  | .oct => [F.oct_OCT_STATUS_REF_ABSENT]
  | .lan => [F.lan_LANE_STATUS_REF_ABSENT]
  | .til => [F.til_TILE_STATUS_REF_ABSENT, F.til_TILE_STATUS_EQ_TABLE, F.til_TILE_STATUS_EQ_ENTRIES,
      F.til_TILE_STATUS_EQ_GENERATION, F.til_SEAM_STATUS_SPARES_UP, F.til_SEAM_STATUS_SPARES_DOWN,
      F.til_SEAM_STATUS_EXHAUSTED]
  | .prt => [F.prt_LINK_STATUS_WIDTH]
  | .ucs => [F.ucs_BANK_STATUS_STATE, F.ucs_BANK_STATUS_GOLDEN, F.ucs_IMAGE_ACTIVE_ID, F.ucs_IMAGE_IDLE_ID]
  | .tbl0 => [F.tbl0_GEN_NOW, F.tbl0_GEN_OLDEST, F.tbl0_GEN_NONE_HELD, F.tbl0_JOURNAL_STATUS_RESOLUTION,
      F.tbl0_JOURNAL_STATUS_TABLES_REBUILT, F.tbl0_JOURNAL_STATUS_RESOLVED_ID, F.tbl0_EPOCH_STATUS_STATE,
      F.tbl0_EPOCH_STATUS_STAGED]
  | .tbl1 => [F.tbl1_EMT_STATUS_ENTRIES, F.tbl1_EMT_STATUS_STASH_USED, F.tbl1_EMT_STATUS_HOLD_USED]
  | .tbl2 => [F.tbl2_LPA_STATUS_ENTRIES, F.tbl2_CLA_STATUS_ENTRIES]
  | .bufg => [F.bufg_GROUP_STATUS_LIVE_CELLS, F.bufg_GROUP_STATUS_BANKS_IN_SERVICE, F.bufg_GROUP_STATUS_TC7_BACKING,
      F.bufg_BANK_STATE, F.bufg_BANK_SPARE, F.bufg_BANK_LIVE]
  | .slii => [F.slii_PG_STATUS_SHARED_USED, F.slii_PG_STATUS_HDRM_USED, F.slii_PG_STATUS_LOSSLESS, F.slii_PG_STATUS_XOFF]
  | .slie => [F.slie_Q_STATUS_DEPTH, F.slie_Q_STATUS_MIN_USED, F.slie_Q_STATUS_PAUSED, F.slie_Q_STATUS_ECN_ACTIVE]
  | .mrg => [F.mrg_MRG_STATUS_ENABLED, F.mrg_MRG_STATUS_H_EFF, F.mrg_MRG_STATUS_HELD, F.mrg_MRG_STATUS_ABSENT,
      F.mrg_FRONTIER_NS, F.mrg_FRONTIER_FRAC, F.mrg_FRONTIER_TQ, F.mrg_SEED_PREV, F.mrg_SEED_SECOND,
      F.mrg_STORE_STATUS_CELLS_USED, F.mrg_STORE_STATUS_ENTRIES_USED, F.mrg_MEMBER_PRESENT]
  | .rel => [F.rel_REL_STATUS_ENABLED, F.rel_REL_STATUS_HELD, F.rel_RELEASE_INFO_D_EFF, F.rel_REL_STATUS_GRID_UNLOCKED]
  | .ses0 => [F.ses0_ENGINE_STATUS_CONTEXTS_ARMED, F.ses0_CTX_STATUS_STATE, F.ses0_CTX_STATUS_ACTIVE_LEG,
      F.ses0_CTX_STATUS_LEG_A_UP, F.ses0_CTX_STATUS_LEG_B_UP, F.ses0_CTX_STATUS_GAPS_OPEN, F.ses0_EXPECTED,
      F.ses0_LAST_A, F.ses0_LAST_B, F.ses0_GAP_FIRST, F.ses0_GAP_LAST, F.ses0_GAP_INFO_MISSING, F.ses0_GAP_INFO_VALID,
      F.ses0_GAP_OPENED, F.ses0_REQ_STATUS_TOKENS, F.ses0_REQ_STATUS_REFUSED]
  | .hbd5 => [F.hbd5_GROUP_STATUS_IS_PRIMARY]
  | .hbd8 => [F.hbd8_CAL_RX_FACTORY, F.hbd8_CAL_TX_FACTORY, F.hbd8_CAL_APPLIED_NS, F.hbd8_CAL_APPLIED_FRAC,
      F.hbd8_CAL_STATUS_FACTORY_MISSING]
  | .hbd9 => [F.hbd9_SUSPECT, F.hbd9_FROZEN]
  | .ldg0 => [F.ldg0_KEY_ID_LO, F.ldg0_KEY_ID_HI, F.ldg0_LDG_STATUS_HASH_CORES, F.ldg0_JOURNAL_STATUS_PAIR,
      F.ldg0_JOURNAL_STATUS_SLOT]
  | .pwc0 => [F.pwc0_CAP_STATUS_CAP_IN_FORCE, F.pwc0_CAP_STATUS_UNCALIBRATED, F.pwc0_LIMITS_CAP_T, F.pwc0_LIMITS_CAP_I,
      F.pwc0_VOLT_CFG_VDD_FLOOR_MV, F.pwc0_VOLT_STATUS_SETPOINT_MV, F.pwc0_PACE_STATUS_PACE_NOW,
      F.pwc0_PACE_STATUS_ADVERTISED, F.pwc0_PACE_STATUS_P_GROUP]
  | .pwc1 => [F.pwc1_ENERGY, F.pwc1_Q_ENERGY]
  | .crn0 => [F.crn0_CROWN_STATUS_ACTIVE_PAIR, F.crn0_CROWN_STATUS_STANDBY_STATE, F.crn0_FW_STANDBY, F.crn0_SVN_RUNNING,
      F.crn0_SVN_FLOOR, F.crn0_STAGED]
  | .cxl0 => [F.cxl0_LINK_STATUS_UP, F.cxl0_LINK_STATUS_MODE, F.cxl0_LINK_STATUS_WIDTH, F.cxl0_LINK_STATUS_RATE,
      F.cxl0_LINK_STATUS_CACHE_EN, F.cxl0_LINK_STATUS_MEM_EN, F.cxl0_LINK_STATUS_ATS_EN, F.cxl0_HDM_STATUS_MEM_ACTIVE,
      F.cxl0_HDM_STATUS_SIZE_256M]
  | .ddr0 => [F.ddr0_DDR_STATUS_AVAILABLE, F.ddr0_DDR_STATUS_SPEED, F.ddr0_DDR_STATUS_CHANNELS,
      F.ddr0_DDR_STATUS_WARM_RETAINED, F.ddr0_DDR_STATUS_CAPACITY_GIB, F.ddr0_REGION_BASE, F.ddr0_REGION_SIZE]
  | .ddrc => [F.ddrc_CH_STATUS_POPULATED, F.ddrc_CH_STATUS_TRAINED, F.ddrc_CH_STATUS_IN_USE, F.ddrc_CH_STATUS_X4,
      F.ddrc_CH_STATUS_RANKS, F.ddrc_CH_STATUS_CAPACITY_GIB, F.ddrc_CH_STATUS_FAIL_CODE]
  | .bufx => (fieldsOf .bufx).filter (·.acc == .ro)
  | .hbd4 => (fieldsOf .hbd4).filter (·.acc == .ro)
  | .hbd10 => (fieldsOf .hbd10).filter (·.acc == .ro)
  | .hbd3 => (fieldsOf .hbd3).filter (·.acc == .ro)
  | _ => []
/-- R537, R538: a register field at 0x080 or above that a reset of its block puts at its reset value. -/
def clearedAt (page bit : Nat) : Bool :=
  decide (0x400 ≤ bit) && match fieldAt page bit with
    | some f => f.acc != .rw && !f.sticky && !(conditionFields (layoutOf page)).contains f
    | none => false
/-- The fields of a page that its block's reset clears take their reset values, and so do its latched and staged
companions (R12). -/
def clearStatus (page : Nat) (s : State) : State :=
  { s with
    regs := s.regs.filter fun p => !(pageOfKey p.1 == page && clearedAt page (p.1 % 0x8000))
    host := { s.host with
      latch := s.host.latch.filter fun p => p.1 / 0x1000 != page
      staged := s.host.staged.filter fun p => p.1 / 0x1000 != page } }

/-- An octet's lanes start QUIET, and its pages follow its layout. -/
def quietOctet (o : Nat) (s : State) : State :=
  let pages := oct o :: ((List.range 8).map fun k => lan (8 * o + k)) ++ (List.range 8).map fun k => prt (8 * o + k)
  let s1 := pages.foldl (fun t p => clearStatus p t) s
  let mine (k : Nat) : Bool := k / 8 == o
  layPorts o (s1.rd (oct o) F.oct_OCT_CFG_PORT_START) { s1 with
    brim := { s1.brim with
      ports := s1.brim.ports.filter fun p => !mine p.1
      taps := s1.brim.taps.filter fun p => !mine p.1
      cdrProfile := s1.brim.cdrProfile.filter fun p => !mine p.1
      pllSince := s1.brim.pllSince.del o
      retuning := s1.brim.retuning.filter (· != o)
      enabling := s1.brim.enabling.filter fun p => !mine p }
    stamps := { s1.stamps with lanes := s1.stamps.lanes.filter fun p => !mine p.1 } }

/-- R411, R416: what a domain in OFF has lost. A DDR channel loses its share of every region. -/
def loseChannel (c : Nat) (s : State) : State :=
  let n := s.channels
  let t := (s.wr (ddrPage c) F.ddrc_CH_STATUS_TRAINED 0).wr 0x340 F.ddr0_DDR_STATUS_WARM_RETAINED 0
  { t with
    ddr := t.ddr.filter fun p => n == 0 || p.1 / 256 % n != c
    poison := t.poison.filter fun p => n == 0 || p.1 / 4 % n != c
    crown := { t.crown with
      bundles := []
      slots := t.crown.slots.map fun x => (x.1, { x.2 with lost := true }) }
    dram := { t.dram with trained := t.dram.trained.filter (· != c), intact := false } }
/-- R411: what a domain in OFF has lost. -/
def loseDomain (d : Nat) (s : State) : State :=
  if d < 32 then [0x400 + d, 0x420 + d, ucsPage d].foldl (fun t p => clearStatus p t) s
  else if d < 160 then quietOctet (d - 32) s
  else if 196 ≤ d ∧ d < 204 then loseChannel (d - 196) s
  else if d = 207 then [0x70, 0x71, 0x72, 0x73].foldl (fun t p => clearStatus p t) s
  else s

/-- R423: a slice's control store holds the active image in both banks, and its CLA is reloaded from the shadow (R241). -/
def reloadSlice (g : Nat) (s : State) : State :=
  let i := (s.store g).bank (s.activeBank g)
  let s1 := setUcsState g 1 (writeBank g 1 i (writeBank g 0 i s))
  let places := ((s1.tbl.cla.map (·.1)) ++ s1.tbl.shCla.map (·.1)).dedup.filter fun k => k / 1536 == g
  places.foldl (fun t k => if t.awaited 3 k then t
    else
      let u := reload 3 k t
      { u with tbl := { u.tbl with behind := u.tbl.behind.filter fun x => x != (3, k) } }) s1

/-- R423: the work done before a domain rejoins. -/
def reinit (d : Nat) (s : State) : State :=
  if d < 32 then reloadSlice d s
  else if d < 160 then
    (((s.portsOfOctet (d - 32)).filter fun p => s.on (prt p) F.prt_PORT_CTRL_ENABLE).foldl (fun t p => startLadder p t) s)
  else s

/-! ## Entries (R420, R424) -/

/-- The Band processor stops and runs again with its domain (R86, R418). -/
def bandFollows (d : Nat) (s : State) : State :=
  if d ≠ 206 then s
  else if 2 ≤ (s.dom d).state then
    let t := stopSlew s
    enterHoldover { t with hat := { t.hat with bandStopped := true } }
  else { s with hat := { s.hat with bandStopped := false } }

/-- After a transition: a latched wake is replayed, a deeper target waits its hold-off (R415, R424). -/
def settleDom (d : Nat) (replay : Bool) (s : State) : State :=
  let x := s.dom d
  let t := s.targetOf d
  if replay ∧ t < x.state ∧ !s.stopped then startWake d (s.putDom d { x with replays := sat 16 (x.replays + 1) })
  else recomputeDom d s

/-- DOMAIN_ENTRY_COMPLETE (R420, R424). -/
def execDomainEntryComplete (domain : Fin 209) (s : State) : Out :=
  let d := domain.val
  let x := s.dom d
  .next (s.given (x.trans == 1 && !x.waitsLow) fun s =>
    let s1 := s.putDom d { x with
      state := x.to_
      trans := 0
      gated := false
      latched := false
      doneAt := some s.mono
      fallback := x.fallback && x.to_ == 2
      entries := sat 16 (x.entries + 1) }
    settleDom d x.latched (refreshLow (bandFollows d (if x.to_ = 4 then loseDomain d s1 else s1))))

/-! ## Wakes (R422 to R426) -/

/-- A domain reports ACTIVE. -/
def wakeEnds (d : Nat) (s : State) : State :=
  let x := s.dom d
  let s1 := s.putDom d { x with
    state := 0
    trans := 0
    stage := 0
    gated := false
    fallback := false
    failed := 0
    wakes := sat 16 (x.wakes + 1) }
  settleDom d false (refreshLow (bandFollows d s1))

/-- The next stage of a wake. From OFF a DDR channel starts full training (R423). -/
def toStage (d k : Nat) (s : State) : State :=
  let x := s.dom d
  let s1 := s.putDom d { x with
    stage := k
    tries := 0
    since := s.mono }
  if k = 5 ∧ 196 ≤ d ∧ d < 204 then
    { s1 with dram := { s1.dram with
      training := (d - 196) :: s1.dram.training.filter (· != d - 196)
      full := true } }
  else s1
def Dom.last (x : Dom) : Nat := if x.fromOff then 5 else 4

/-- R425: a wake fails: the domain stays OFF and every vote for it is denied. -/
def wakeFails (d code : Nat) (s : State) : State :=
  let x := s.dom d
  let s1 := s.putDom d { x with
    state := 4
    trans := 0
    stage := 0
    failed := code
    denied := true
    target := 4
    holdFrom := none }
  let s2 := { s1 with mtn := { s1.mtn with steps := s1.mtn.steps.filter fun k => k.domain != d } }
  let s3 := (if x.fromOff then s2 else loseDomain d s2).vector 33
  if d = 205 then s3.raise 0x30 7
  else if d = 206 then bandFollows d (s3.raise 0x30 1)
  else s3.raise 0x30 0

/-- R426: what is done about a bank found RETENTION_LOST. -/
def lostBank (d : Nat) (b : LostBank) (s : State) : State :=
  let x := s.dom d
  let s1 := ((s.putDom d { x with
    retention := true
    lost := sat 16 (x.lost + 1)
    redo := x.redo || b.kind == .other }).raise 0x30 2).vector 34
  let s2 := if b.ecc then s1.raise 0x30 6 else s1
  match b.kind with
  | .cla places => (places.foldl (fun t i =>
      let k := 1536 * d + i.val
      if t.awaited 3 k then t
      else
        let u := reload 3 k t
        { u with tbl := { u.tbl with behind := u.tbl.behind.filter fun y => y != (3, k) } }) s2).raise 0x300 8
  | .store => writeBank d (b.index.val % 2) ((s2.store d).bank (b.index.val % 2)) s2
  | .palm =>
    let k := 32 * (d - 160) + b.index.val
    (triggerBank k s2).raise (bufg k) 4
  | .other => s2
/-- A kind of bank that the domain holds (R409, R426). -/
def holdsBank (d : Nat) : LostKind → Bool
  | .cla _ => decide (d < 32)
  | .store => decide (d < 32)
  | .palm => decide (160 ≤ d ∧ d < 196)
  | .other => true

/-- R422, R426: a stage ends: a wake from DROWSE, or stage 2, 3 or 4 of one from RETAIN or OFF, with the banks that
the retention check of stage 4 finds lost. -/
def stageEnds (d : Nat) (lost : List LostBank) (s : State) : State :=
  let x := s.dom d
  match x.stage with
  | 0 => wakeEnds d s
  | 2 =>
    if s.mono < x.since + ns 6000 then s
    else
      let s1 := { s with mtn := { s.mtn with steps := s.mtn.steps.map fun k =>
        if k.domain = d then { k with until_ := some (s.mono + ns 100000) } else k } }
      toStage d (if hasPll d then 3 else x.last) s1
  | 3 => toStage d x.last s
  | 4 =>
    if s.mono < x.since + ns 10000 then s
    else
      let s1 := lost.foldl (fun t b => if holdsBank d b.kind then lostBank d b t else t) s
      if (s1.dom d).retention then toStage d 5 s1 else wakeEnds d s1
  | _ => s
/-- WAKE_STAGE_TIMEOUT (R422): a try of the PLL stage times out. -/
def execWakeStageTimeout (domain : Fin 209) (s : State) : Out :=
  let d := domain.val
  let x := s.dom d
  .next (s.given (x.trans == 2 && x.stage == 3 && decide (x.since + ns 50000 ≤ s.mono)) fun s =>
    if x.tries < 3 then s.putDom d { x with
      tries := x.tries + 1
      retries := sat 16 (x.retries + 1)
      since := s.mono }
    else wakeFails d 2 s)

/-- RETRY_WAKE (R425) on the domain that DOM_SEL names. -/
def retryWake (s : State) : State :=
  let d := s.rd 0x31 F.mtn1_DOM_SEL_DOMAIN
  let x := s.dom d
  s.given (decide (d ≤ 208) && x.denied && x.trans == 0) fun s => startWake d (s.putDom d { x with denied := false })
def execRetryWake (s : State) : Out := .next (s.written 0x31 fun s => retryWake s)

/-! ## AVSBus (R420 to R422, R439) -/

/-- The domains whose entry waits for VDD_LOW go on. -/
def lowReady (fallback : Bool) (s : State) : State :=
  (s.mtn.doms.filter fun p => p.2.waitsLow).foldl (fun t (p : Nat × Dom) =>
    let u := t.putDom p.1 { t.dom p.1 with
      waitsLow := false
      fallback := fallback }
    if fallback then ((u.bump 0x32 F.mtn2_AVS_STATUS_FALLBACKS).raise 0x30 3).vector 36 else u) s

/-- AVS_ACK: the regulator acknowledges the transaction that is out. -/
def avsAck (s : State) : State :=
  match s.mtn.avs with
  | [] => s
  | tx :: r =>
    let s1 := { s with mtn := { s.mtn with avs := r } }
    sendAvs r (match tx.kind with
      | .wake d =>
        let s2 := { s1 with mtn := { s1.mtn with steps := s1.mtn.steps ++ [({ domain := d, mv := s1.stepMv } : Inrush)] } }
        if (s2.dom d).trans = 2 ∧ (s2.dom d).stage = 1 then toStage d 2 s2 else s2
      | .low => refreshLow (lowReady false (s1.wr 0x32 F.mtn2_AVS_STATUS_VDD_LOW_UP 1))
      | .cap up => refreshFloor (((s1.wr 0x40 F.pwc0_VOLT_STATUS_SETPOINT_MV (s1.steppedMv up)).wr 0x40 F.pwc0_VOLT_STATUS_STEP_BUSY 0).bump
          0x40 F.pwc0_VOLT_STATUS_STEPS)
      | .withdraw _ => s1)
def execAvsAck (s : State) : Out := .next (avsAck s)

/-- AVS_TIMEOUT: a try of 200,000 ns ends without acknowledgement: 4 tries for a wake (R422), 3 for the others. An acknowledgement
in the same cycle counts (R427). -/
def avsTimeout (s : State) : State :=
  match s.mtn.avs with
  | [] => s
  | tx :: r =>
    if decide (s.mono < tx.since + ns 200000) || s.pending.any (· == .avsAck) then s
    else
      let s1 := s.bump 0x32 F.mtn2_AVS_STATUS_NO_ACK
      let tries := match tx.kind with | .wake _ => 4 | _ => 3
      if tx.tries + 1 < tries then
        let s2 := match tx.kind with
          | .wake d => s1.putDom d { s1.dom d with retries := sat 16 ((s1.dom d).retries + 1) }
          | _ => s1
        sendAvs ({ tx with tries := tx.tries + 1 } :: r) s2
      else
        sendAvs r (match tx.kind with
          | .wake d => wakeFails d 1 { s1 with mtn := { s1.mtn with avs := r } }
          | .low => lowReady true s1
          | .cap _ => (({ s1 with pwc := { s1.pwc with down := 0, up := 0 } }.wr 0x40 F.pwc0_VOLT_STATUS_STEP_BUSY 0).bump 0x40 F.pwc0_VOLT_STATUS_NO_ACK).raise 0x40 9
          | .withdraw _ => s1)
def execAvsTimeout (s : State) : Out := .next (avsTimeout s)

/-- VDD_LOW_OFF (R420): 1,000,000 ns after the last domain on VDD_LOW left DROWSE. -/
def execVddLowOff (s : State) : Out :=
  .next (match s.mtn.lowSince with
    | some t => s.given (decide (t + ns 1000000 ≤ s.mono)) fun s =>
        refreshLow ((s.wr 0x32 F.mtn2_AVS_STATUS_VDD_LOW_UP 0).send (.avs "VDD_LOW" 0))
    | none => s)

/-- R422: the inrush steps whose time has come are withdrawn; part of an idle cycle of the block. -/
def withdrawSteps (s : State) : State :=
  (s.mtn.steps.filter fun k => match k.until_ with | some t => decide (t ≤ s.mono) | none => false).foldl (fun t (k : Inrush) =>
    if t.mtn.avs.any (fun x => x.kind == .withdraw k.domain) then t else queueAvs (.withdraw k.domain) t) s

/-! ## DOM_SEL and the crystal (R428, R429) -/

/-- R429: the registers of the domain that DOM_SEL names; zero above 208. -/
def selectDom (d : Nat) (s : State) : State :=
  let p := 0x31
  let x : Dom := if d ≤ 208 then s.dom d else { holders := 0, deepest := 0, holdoff := 0 }
  let vals : List (Fld × Nat) :=
    [(F.mtn1_DOM_SEL_DOMAIN, d), (F.mtn1_DOM_CFG_DEEPEST, x.deepest), (F.mtn1_DOM_CFG_IRQ, x.irq.toNat), (F.mtn1_DOM_CFG_HOLDOFF_US, x.holdoff),
     (F.mtn1_DOM_STATUS_CURRENT, x.current), (F.mtn1_DOM_STATUS_IN_TRANSITION, (x.trans != 0).toNat), (F.mtn1_DOM_STATUS_TARGET, x.target),
     (F.mtn1_DOM_STATUS_VSCALE_FALLBACK, x.fallback.toNat), (F.mtn1_DOM_STATUS_HOLDERS, x.holders), (F.mtn1_DOM_STATUS_LAST_ANSWER, x.lastAnswer),
     (F.mtn1_DOM_STATUS_REFUSE_REASON, x.reason), (F.mtn1_DOM_STATUS_WAKE_FAIL, (x.failed != 0).toNat), (F.mtn1_DOM_STATUS_FAIL_STAGE, x.failed),
     (F.mtn1_DOM_STATUS_RETENTION_LOST, x.retention.toNat), (F.mtn1_DOM_STATUS_LOST_BANKS, x.lost), (F.mtn1_DOM_COUNTS_ENTRIES, x.entries),
     (F.mtn1_DOM_COUNTS_WAKES, x.wakes), (F.mtn1_DOM_COUNTS_REPLAYS, x.replays), (F.mtn1_DOM_COUNTS_RETRIES, x.retries)]
  let s1 := vals.foldl (fun t v => t.wr p v.1 v.2) s
  if d ≤ 208 then s1 else s1.set1 p F.hdr_PAGE_STATUS_WRITE_DROPPED
/-- DOM_SEL_WRITE (R429). -/
def execDomSelWrite (domain : BitVec 8) (s : State) : Out := .next (s.written 0x31 fun s => selectDom domain.toNat s)

/-- R414, R429: DOM_CFG written for the selected domain. -/
def writeDomCfg (data : Nat) (s : State) : State :=
  let d := s.rd 0x31 F.mtn1_DOM_SEL_DOMAIN
  if d > 208 then s.set1 0x31 F.hdr_PAGE_STATUS_WRITE_DROPPED
  else
    let v := data % 8
    let deepest := if v ≤ 4 then v else 1
    let s1 := (((s.wr 0x31 F.mtn1_DOM_CFG_DEEPEST deepest).wr 0x31 F.mtn1_DOM_CFG_IRQ (data / 8)).wr 0x31 F.mtn1_DOM_CFG_HOLDOFF_US
      (data / 2 ^ 16))
    recomputeDom d (s1.putDom d { s1.dom d with
      deepest := deepest
      irq := data.testBit 3
      holdoff := data / 2 ^ 16 % 2 ^ 16 })

/-- XTAL_LOST (R428): AON moves to the RC oscillator. -/
def execXtalLost (s : State) : Out :=
  .next (s.given (!s.on 0x30 F.mtn0_MTN_STATUS_AON_SOURCE) fun s =>
    (((s.wr 0x30 F.mtn0_MTN_STATUS_AON_SOURCE 1).set1 0x30 F.mtn0_MTN_STATUS_XTAL_LOST).raise 0x30 5).vector 37)

end Sys2Proof.Machine
end

