-- ==== Sys2Proof/Machine/Faults.lean ====
section
/-! DEFINITION. Gauntlet (spec/15_faults_recovery.md): line latches and their reactions, injection, quench and
escalation, the fault snapshot, Seam spares and wear. -/

namespace Sys2Proof.Machine

/-! ## Lines -/

/-- A line's LINE_STATUS bit (R453). -/
def State.latched (s : State) (line : Nat) : Bool := s.bit 0x20 F.gnt0_LINE_STATUS line

/-- The highest class among the latched lines (R456), counted from their highest reactions. -/
def State.highest (s : State) : Nat :=
  s.gnt.lines.foldl (fun n p => if s.latched p.1 then max n (p.2.taken - 1) else n) 0

/-- SAFE_N (R456, R470, R565): low in the safe state, while FATAL is 1, and before the first rise of SYS_RST_N. -/
def State.safeN (s : State) : Bool := s.boot.power == 2 && !s.isSafe && !s.on 0x20 F.gnt0_SUMMARY_FATAL
/-- FAULT_N (R456): low with SAFE_N, and while a line of class FC2 or higher is latched. -/
def State.faultN (s : State) : Bool := s.safeN && decide (s.highest < 2)

/-- SUMMARY, DEVICE_STATE.FAULT_CLASS and FAULT_N follow the latches (R456, R477). -/
def State.refreshSummary (s : State) : State :=
  let words := (List.range 16).foldl (fun n k => n + (if s.rdi 0x20 F.gnt0_LINE_STATUS k = 0 then 0 else 2 ^ k)) 0
  let inj := (List.range 16).any fun k => s.rdi 0x20 F.gnt0_INJ_STATUS k != 0
  let s1 := (((s.wr 0x20 F.gnt0_SUMMARY_WORDS words).wr 0x20 F.gnt0_SUMMARY_HIGHEST s.highest).wr 0x20
    F.gnt0_SUMMARY_INJ_ANY (if inj then 1 else 0)).wr 0x20 F.gnt0_SUMMARY_ESCALATION
    (if s.gnt.lines.any fun p => s.escalated p.1 then 1 else 0)
  let s2 := if s.safeN && (decide (s.rd 0x20 F.gnt0_SUMMARY_HIGHEST < 2) != s.faultN) then s1.send (.pin "FAULT_N" s.faultN) else s1
  match s.gnt.safe with
  | some e => s2.wr 0x00 F.idn_DEVICE_STATE_FAULT_CLASS (if s.on 0x20 F.gnt0_SUMMARY_FATAL then 4 else max 3 e.cls)
  | none => s2.wr 0x00 F.idn_DEVICE_STATE_FAULT_CLASS s.highest

/-- The class of a cause's latch: the one it took when its REAL bit latched (R49, R455). -/
def State.latchClass (s : State) (page cause : Nat) : Nat := s.latches.classes.val 0 (16 * page + cause)

/-- R454: of the real, unmasked causes of a line, the one of highest class; the lowest page and cause among equals. -/
def State.topCause (s : State) (line : Nat) : Option (Nat × Nat × Nat) :=
  (pagesOfLine line).foldl (fun best page =>
    (List.range 16).foldl (fun best c =>
      if (s.unmasked page).testBit c then
        match best with
        | some (_, _, k) => if s.latchClass page c > k then some (page, c, s.latchClass page c) else best
        | none => some (page, c, s.latchClass page c)
      else best) best) none

/-- R454, R455: the reaction to a real cause of a class on a line: latch, count, vector, and for FC3 and FC4 the
entry into the safe state; in the safe state only the latch, and FATAL for FC4 (R462). Its entry takes the place of an
injected entry of the line in the same MGMT cycle (R48, R458), and of one of lower class in it (R462). -/
def reactReal (line page cause cls : Nat) (s : State) : State :=
  let r := s.lineRec line
  let s1 := s.putLine line { r with
    page := page, cls := cls, cause := cause, inj := false,
    quenchedLast := (s.rd page F.hdr_ERR_STATUS_QUENCHED).testBit cause,
    latches := sat 16 (r.latches + 1), lastTime := s.now, lastTq := s.tq, taken := cls + 1 }
  let s2 := (s1.setBit 0x20 F.gnt0_LINE_STATUS line).bump 0x20 F.gnt0_SUMMARY_LATCHES
  let s3 := if cls = 4 then s2.wr 0x20 F.gnt0_SUMMARY_FATAL 1 else s2
  let weaker : Bool := s.gnt.entry.any fun e => ((e.inj && e.line == line) || (decide (cls ≥ 3) && decide (e.cls < cls))) &&
    mgmtCycle e.since == mgmtCycle s.mono
  let earlier := if weaker then none else s.gnt.entry
  let entry : Option SafeEntry := if cls ≥ 3 && !s.isSafe && earlier.isNone then some ⟨s.now, s.tq, cls, line, cause, false, s.mono⟩ else earlier
  let s4 := { s3 with gnt := { s3.gnt with entry := entry } }
  let s5 := if cls < 2 then s4.vector 0 else if cls = 2 then s4.vector 1 else s4
  s5.refreshSummary

/-- R454: a line latches when it is high; on a line already latched a further cause reacts only if its class is higher
than every reaction taken. -/
def latchLine (line : Nat) (s : State) : State :=
  match s.topCause line with
  | some (page, cause, cls) =>
    if s.latched line && decide (cls + 1 ≤ (s.lineRec line).taken) then s else reactReal line page cause cls s
  | none => s

/-- LINE_LATCH (R454): `fired` lists the causes of the line that their detectors report now and that no other command
carries, by page and cause (R4, R48); an ECC event of the tables sends vector 278 (R245). -/
def execLineLatch (line : Fin 1024) (fired : List (BitVec 14 × Fin 16)) (s : State) : Out :=
  let mine := fired.filter fun p => (pagesOfLine line.val).contains p.1.toNat
  let ecc := mine.any fun p => p.1.toNat == 0x300 && (p.2.val == 6 || p.2.val == 7)
  let s1 := mine.foldl (fun (t : State) p => t.raise p.1.toNat p.2.val) s
  .next (latchLine line.val (if ecc then s1.vector 278 else s1))

/-- The vector a latched line's class sends (R455). -/
def lineVector (s : State) (line : Nat) : Nat := if (s.lineRec line).taken ≤ 2 then 0 else 1
/-- A line's INJ_STATUS bit (R458). -/
def State.injLatched (s : State) (line : Nat) : Bool := s.bit 0x20 F.gnt0_INJ_STATUS line
/-- A page holds an INJECTED bit (R48). -/
def State.anyInjected (s : State) : Bool :=
  s.regs.any fun p => p.1 % 0x8000 == F.hdr_ERR_STATUS_INJECTED.key 0 0 0 && p.2 != 0
/-- R56, R57: a source of vector 0, 1 or 2 is set: a latched line whose class sends it, an injected latch that has sent it,
and for vector 2 any injected latch. -/
def State.sourceSet (s : State) (v : Nat) : Bool :=
  s.gnt.lines.any (fun p => (s.latched p.1 && lineVector s p.1 == v) || (s.injLatched p.1 && p.2.injSent == v + 1)) ||
    (v == 2 && (s.anyInjected || (List.range 16).any fun k => s.rdi 0x20 F.gnt0_INJ_STATUS k != 0))

/-- R454: a written 1 clears a LINE_STATUS bit only while its line is low, and not in the MGMT cycle in which it latched
(R4); R57: a vector that still has a source after a clear sends again; a write that clears no line is no clear (DEDUCED, log
entry 36). -/
def clearLines (k : Nat) (data : Nat) (s : State) : State :=
  let asked := (List.range 64).filter fun b => data.testBit b && s.latched (64 * k + b)
  let s1 := asked.foldl (fun t b =>
    if s.lineHigh (64 * k + b) ∨ s.setNow.val 0 (F.gnt0_LINE_STATUS.key 0x20 k 0 + b) ≠ 0 then t
    else (t.putBitAt 0x20 F.gnt0_LINE_STATUS (64 * k + b) false).putLine (64 * k + b)
      { t.lineRec (64 * k + b) with taken := 0 }) s
  let s2 := s1.refreshSummary
  let cleared := asked.filter fun b => !s1.latched (64 * k + b)
  [0, 1].foldl (fun t v =>
    if cleared.any (fun b => lineVector s (64 * k + b) == v) && s2.sourceSet v then t.vector v else t) s2

/-- R57, R458: INJ_STATUS bits written 1 clear, and the vectors they were sources of are sent again for sources left. -/
def clearInj (k : Nat) (data : Nat) (s : State) : State :=
  let old := s.rdi 0x20 F.gnt0_INJ_STATUS k
  let gone := (List.range 64).filter fun b => data.testBit b && old.testBit b
  let s1 := (gone.foldl (fun t b =>
    if s.setNow.val 0 (F.gnt0_INJ_STATUS.key 0x20 k 0 + b) = 0 then t.putBitAt 0x20 F.gnt0_INJ_STATUS (64 * k + b) false else t)
    s).refreshSummary
  [0, 1, 2].foldl (fun t v =>
    if gone.any (fun b => v == 2 || (s.lineRec (64 * k + b)).injSent == v + 1) && s1.sourceSet v then t.vector v else t) s1

/-- LINE_STATUS_CLEAR (R454); discarded in the safe state (R52). -/
def execLineStatusClear (k : Fin 16) (data : Word) (s : State) : Out :=
  .next (s.written 0x20 (clearLines k.val data.toNat))

/-- R477: LINE_INFO and LINE_LAST show the selected line. -/
def showLine (line : Nat) (s : State) : State :=
  let r := s.lineRec line
  let b (x : Bool) : Nat := if x then 1 else 0
  ((((((((((s.wr 0x20 F.gnt0_LINE_SEL_LINE line).wr 0x20 F.gnt0_LINE_INFO_PAGE r.page).wr 0x20
    F.gnt0_LINE_INFO_CLASS r.cls).wr 0x20 F.gnt0_LINE_INFO_CAUSE r.cause).wr 0x20
    F.gnt0_LINE_INFO_QUENCHED_LAST (b r.quenchedLast)).wr 0x20 F.gnt0_LINE_INFO_ESCALATED (b (s.escalated line))).wr 0x20
    F.gnt0_LINE_INFO_RESETS (sat 7 (resetCount r s.mono))).wr 0x20 F.gnt0_LINE_INFO_LATCH_COUNT r.latches).wr 0x20
    F.gnt0_LINE_INFO_INJ (b r.inj)).wrPair 0x20 F.gnt0_LINE_LAST_NS F.gnt0_LINE_LAST_FRAC r.lastTime).wr 0x20
    F.gnt0_LINE_LAST_TQ r.lastTq

/-- LINE_SEL_WRITE (R477); discarded in the safe state (R52). -/
def execLineSelWrite (line : Fin 1024) (s : State) : Out := .next (s.written 0x20 (showLine line.val))

/-- R461: a reset of a page's block is counted on its line; above 8 within 10,000,000 ns the line is escalated. -/
def countReset (page : Nat) (s : State) : State :=
  match lineOfPage page with
  | none => s
  | some line =>
    let r := s.lineRec line
    let r1 := { r with resets := s.mono :: r.resets.filter fun t => decide (s.mono < t + ns 10000000) }
    if resetCount r1 s.mono > 8 && !s.escalated line then
      ((s.putLine line { r1 with escalated := true }).refreshSummary).raise 0x20 8
    else s.putLine line r1

/-- R461: escalation ends when the count falls to 8 or below. -/
def endEscalation (line : Nat) (s : State) : State :=
  let r := s.lineRec line
  s.given (r.escalated && decide (resetCount r s.mono ≤ 8)) fun s =>
    (s.putLine line { r with escalated := false }).refreshSummary

/-- ESCALATION_END (R461). -/
def execEscalationEnd (line : Fin 1024) (s : State) : Out := .next (endEscalation line.val s)

/-- R457: a parity error in Gauntlet's own state sets SELF_PARITY and decides the entry into the safe state with LINE 0
and cause 0; during the safe state only SELF_PARITY is set (R462). -/
def gntParity (s : State) : State :=
  let s1 := (s.wr 0x20 F.gnt0_SUMMARY_SELF_PARITY 1).raise 0x20 0
  if s.isSafe || s.gnt.entry.isSome then s1
  else { s1 with gnt := { s1.gnt with entry := some ⟨s.now, s.tq, 3, 0, 0, false, s.mono⟩ } }

/-- GNT_REG_PARITY (R457). -/
def execGntRegParity (s : State) : Out := .next (gntParity s)

/-! ## Injection (R458) -/

/-- A real cause of the line has fired in this MGMT cycle: its reaction is the one taken (R48, R458). -/
def State.realNow (s : State) (line : Nat) : Bool :=
  (pagesOfLine line).any fun page => s.keptBits page F.hdr_ERR_STATUS_REAL 0 0 != 0
/-- One injected cause: its INJECTED bit and the line's INJ_STATUS bit, and vector 2 where one of them was clear (R57); with
REACT its class's vector and the line's record, or with ALLOW_SAFE the entry into the safe state, as for FC3. -/
def injectCause (line page cause : Nat) (s : State) : State :=
  let isNew := !(s.rd page F.hdr_ERR_STATUS_INJECTED).testBit cause || !s.injLatched line
  let s0 := ((s.setBit page F.hdr_ERR_STATUS_INJECTED cause).setBit 0x20 F.gnt0_INJ_STATUS line).refreshSummary
  let s1 := if isNew then s0.vector 2 else s0
  let cls := s.escalate line (s.classOf page cause)
  if !s.on 0x20 F.gnt0_INJ_CFG_REACT || s.realNow line then s1
  else if cls < 3 then
    let v := if cls < 2 then 0 else 1
    (if isNew then s1.vector v else s1).putLine line { s1.lineRec line with
      page := page, cls := cls, cause := cause, inj := true, quenchedLast := false, lastTime := s.now, lastTq := s.tq
      injSent := v + 1 }
  else if s.on 0x20 F.gnt0_INJ_CFG_ALLOW_SAFE && s.gnt.entry.isNone then
    { s1 with gnt := { s1.gnt with entry := some ⟨s.now, s.tq, 3, line, cause, true, s.mono⟩ } }
  else s1

/-- R458 for every bit written; a page without an error line has no ERR_INJECT. -/
def injectCauses (page causes : Nat) (s : State) : State :=
  match lineOfPage page with
  | none => s
  | some line => (List.range 16).foldl (fun t c => if causes.testBit c then injectCause line page c t else t) s

/-- A write of a header register: on an absent page discarded and recorded (R43); discarded in the safe state and in a warm
reset's quiesce (R52, R539). -/
def State.headerWrite (s : State) (page off : Nat) (f : State → State) : State :=
  if !present page then recordBad 3 (page * 0x1000 + off) s else s.running f

/-- ERR_INJECT (R458). -/
def execErrInject (page : BitVec 14) (causes : BitVec 16) (s : State) : Out :=
  .next (s.headerWrite page.toNat 0x030 (injectCauses page.toNat causes.toNat))

/-- R49: the class a written value gives a cause. -/
def mappedClass (floor old new_ : Nat) : Nat := if new_ > 4 then old else max floor new_

/-- R49: each cause's class by the written word; a cause mapped to FC3 or FC4 loses its mask bit. -/
def writeClassMap (page data : Nat) (s : State) : State :=
  let s1 := (List.range 16).foldl (fun t c =>
    t.wrx page F.hdr_ERR_CLASS_MAP_CLASS 0 c (mappedClass (classFloor page c) (s.classOf page c) (data / 8 ^ c % 8))) s
  ((List.range 16).foldl (fun t c =>
    if s1.classOf page c ≥ 3 then t.wr page F.hdr_ERR_MASK_MASK (putBit (t.rd page F.hdr_ERR_MASK_MASK) c false) else t)
    s1).refreshErr page

/-- R167, R170: the page's ERR_ registers read zero and take no write. -/
def errAbsent (page : Nat) : Bool := decide (0x580 ≤ page ∧ page ≤ 0x5FF) || decide (0x800 ≤ page ∧ page ≤ 0xBFF)

/-- ERR_CLASS_MAP_WRITE (R49). -/
def execErrClassMapWrite (page : BitVec 14) (data : Word) (s : State) : Out :=
  .next (s.headerWrite page.toNat 0x038 fun s => if errAbsent page.toNat then s else writeClassMap page.toNat data.toNat s)

/-! ## Quench (R459, R460) -/

/-- R460: the lines a reset of a page quenches besides its own. -/
def State.neighbours (s : State) (page : Nat) : List Nat :=
  let run (a b : Nat) : List Nat := (List.range (b + 1 - a)).map (a + ·)
  if 0x010 ≤ page ∧ page ≤ 0x01F then [7, 9]
  else if 0x040 ≤ page ∧ page ≤ 0x04F then [2]
  else if 0x050 ≤ page ∧ page ≤ 0x06F then [5, 6] ++ run 24 31
  else if 0x070 ≤ page ∧ page ≤ 0x0AF then [6, 10]
  else if 0x0B0 ≤ page ∧ page ≤ 0x0FF then [5]
  else if 0x300 ≤ page ∧ page ≤ 0x33F then [8] ++ run 64 95
  else if 0x240 ≤ page ∧ page ≤ 0x2FF then [7, 10] ++ run 64 95
  else if 0x380 ≤ page ∧ page ≤ 0x38F then [1, 7, 8]
  else if page = 0x340 then run 5 8 ++ run 16 23
  else if 0x348 ≤ page ∧ page ≤ 0x34F then run 5 8 ++ [10]
  else if 0x500 ≤ page ∧ page ≤ 0x507 then
    let t := page - 0x500
    [4] ++ run (32 + 4 * t) (35 + 4 * t) ++ run (64 + 4 * t) (67 + 4 * t) ++ run (96 + 4 * t) (99 + 4 * t) ++
      run (512 + 16 * t) (527 + 16 * t)
  else if 0x440 ≤ page ∧ page ≤ 0x45F then
    let k := page - 0x440
    [64 + k, 96 + k] ++ run (512 + 4 * k) (515 + 4 * k)
  else if 0x400 ≤ page ∧ page ≤ 0x41F then [7, 8, 32 + (page - 0x400), 96 + (page - 0x400)]
  else if 0x420 ≤ page ∧ page ≤ 0x43F then [32 + (page - 0x420), 64 + (page - 0x420)] ++ run 128 164
  else if 0x480 ≤ page ∧ page ≤ 0x4A3 then run 96 127 ++ [164]
  else if page = 0x4A4 then run 96 127 ++ run 128 163
  else if 0x100 ≤ page ∧ page ≤ 0x13F then [96 + s.rd page F.mrg_MRG_CFG_OUT_PORT / 32]
  else if 0x140 ≤ page ∧ page ≤ 0x23F then
    (List.range 32).filterMap fun k =>
      if (s.rdi page F.rel_MEMBERS (k / 2)) / 2 ^ (32 * (k % 2)) % 2 ^ 32 ≠ 0 then some (96 + k) else none
  else if 0xC00 ≤ page ∧ page ≤ 0xFFF then
    let p := page - 0xC00
    [24 + p / 128, 64 + p / 32, 96 + p / 32]
  else []

/-- R459: a block reset opens its quench window; a WINDOW of 0 means none (R50). -/
def openQuench (page w : Nat) (s : State) : State :=
  if w = 0 then s
  else { s with gnt := { s.gnt with
      quench := ⟨page, s.mono + ns w, (lineOfPage page).toList ++ s.neighbours page⟩ :: s.gnt.quench } }.wr
    page F.hdr_PAGE_STATUS_QUENCH_ACTIVE 1

/-- R48, R459: windows of a page whose end has come close; a cause that fired inside, is still present and lies under no
other window sets REAL. -/
def closeQuench (page : Nat) (present : List (Nat × Nat)) (s : State) : State :=
  let closes (q : Quench) : Bool := q.page == page && decide (q.until_ ≤ s.mono)
  s.given (s.gnt.quench.any closes) fun s =>
    let rest := s.gnt.quench.filter fun q => !closes q
    let s1 := { s with gnt := { s.gnt with quench := rest } }
    let s2 := s1.wr page F.hdr_PAGE_STATUS_QUENCH_ACTIVE (if rest.any fun q => q.page == page then 1 else 0)
    let ended := s2.latches.fired.filter fun pc => !s2.quenched pc.1
    let s3 := { s2 with latches := { s2.latches with fired := s2.latches.fired.filter fun pc => s2.quenched pc.1 } }
    (present.filter ended.contains).foldl (fun t pc => t.raise pc.1 pc.2) s3

/-- QUENCH_CLOSE (R459): `present` lists the causes whose detectors still show them, by page and cause. -/
def execQuenchClose (page : BitVec 14) (present : List (BitVec 14 × Fin 16)) (s : State) : Out :=
  .next (closeQuench page.toNat (present.map fun p => (p.1.toNat, p.2.val)) s)

/-! ## MSI-X -/

/-- R57, R58: an unmasked vector sends the message that waits for it; in the safe state only vector 1's, and that only where
the host link was up at entry. -/
def unmaskVector (v : Nat) (s : State) : State :=
  let s1 := { s with host := { s.host with unmasked := s.host.unmasked.put false v true } }
  if s.host.pba.val false v && (!s.isSafe || (v == 1 && s.gnt.vectorOne)) then
    { s1 with host := { s1.host with pba := s1.host.pba.put false v false } }.send (s.message v)
  else s1

/-- R35, R57: a write of a vector's entry in the MSI-X table: address and data where it carries them, and its mask. -/
def writeMsix (v : Nat) (entry : Option (Nat × Nat)) (mask : Bool) (s : State) : State :=
  let s1 := match entry with
    | some e => { s with host := { s.host with table := s.host.table.put (0, 0) v e } }
    | none => s
  if mask then { s1 with host := { s1.host with unmasked := s1.host.unmasked.put false v false } } else unmaskVector v s1

/-- MSIX_UNMASK (R35, R57): a host write of a vector's entry, which unmasks it, or masks it again. -/
def execMsixUnmask (entry : MsixEntry) (s : State) : Out :=
  .next (writeMsix entry.vector.val (entry.data.map fun e => (e.1.toNat, e.2.toNat)) entry.mask s)

/-! ## The fault snapshot (R467) -/

/-- The pages a snapshot lists: for every latched line, its page, or on a shared line each page with a cause set. -/
def State.snapPages (s : State) : List Nat :=
  ((List.range 1024).filter s.latched).flatMap fun l =>
    if l < 512 then pagesOfLine l else (pagesOfLine l).filter fun p => s.word p 0x020 != 0

/-- One PAGE entry of the snapshot. -/
def State.snapPage (s : State) (p : Nat) : List Byte := leBytes 2 p ++ leBytes 6 0 ++ leBytes 8 (s.word p 0x020)

/-- FLAGS of the snapshot. -/
def State.snapFlags (s : State) (e : SafeEntry) : Nat :=
  let b (x : Bool) (n : Nat) : Nat := if x then 2 ^ n else 0
  b e.inj 0 + b (s.on 0x20 F.gnt0_SUMMARY_FATAL) 1 + b s.gnt.sealRec.isSome 2 +
    b (match s.gnt.sealRec with | some (_, signed, _) => !signed | none => false) 3 + b s.gnt.bySequencer 4 +
    b (decide (s.snapPages.length > 64)) 5 + b (s.on 0x30 F.mtn0_MTN_STATUS_AON_SOURCE) 6 +
    b (s.on 0x20 F.gnt0_SUMMARY_SELF_PARITY) 7

/-- The 2,044 bytes before the CRC. -/
def State.snapBody (s : State) (e : SafeEntry) (n : Nat) : List Byte :=
  let pages := (s.snapPages.take 64).flatMap s.snapPage
  leBytes 4 0x53464B54 ++ leBytes 2 1 ++ leBytes 1 (n % 2) ++ leBytes 1 (s.snapFlags e) ++ leBytes 8 n ++
  leBytes 8 (s.rd 0 F.idn_SERIAL) ++ leBytes 8 (e.at_ / nsUnits) ++ leBytes 2 (e.at_ % nsUnits) ++ leBytes 1 e.tq ++
  leBytes 1 e.cls ++ leBytes 2 e.line ++ leBytes 1 e.cause ++ leBytes 1 0 ++ leBytes 8 (s.word 0 0x090) ++
  leBytes 8 (match s.gnt.sealRec with | some (q, _, _) => q | none => 2 ^ 64 - 1) ++ leBytes 4 (s.rd 0x70 F.ldg0_RUN) ++
  leBytes 4 0 ++ leBytes 8 (s.word 0x20 0x080) ++ leBytes 56 0 ++
  (List.range 16).flatMap (fun k => leBytes 8 (s.rdi 0x20 F.gnt0_LINE_STATUS k)) ++
  (List.range 16).flatMap (fun k => leBytes 8 (s.rdi 0x20 F.gnt0_INJ_STATUS k)) ++
  pages ++ leBytes (1024 - pages.length) 0 ++ leBytes 636 0

/-- R467: SNAP_STATUS shows the two slots. -/
def State.refreshSnap (s : State) : State :=
  let seqOf (b : List Byte) : Nat := leVal (slice b 8 8)
  let v0 := !s.gnt.slot0.isEmpty
  let v1 := !s.gnt.slot1.isEmpty
  let latest := v1 && (!v0 || decide (seqOf s.gnt.slot1 > seqOf s.gnt.slot0))
  (((s.wr 0x22 F.gnt2_SNAP_STATUS_SLOT0_VALID (if v0 then 1 else 0)).wr 0x22 F.gnt2_SNAP_STATUS_SLOT1_VALID
    (if v1 then 1 else 0)).wr 0x22 F.gnt2_SNAP_STATUS_LATEST (if latest then 1 else 0)).wr 0x22 F.gnt2_SNAP_STATUS_SNAP_SEQ
    (if latest then seqOf s.gnt.slot1 else if v0 then seqOf s.gnt.slot0 else 0)

/-- R467: the snapshot is written once per entry, snapshot n to slot n mod 2; none after a FATAL boot (R470). It is the
sequencer's last act (R464). -/
def writeSnapshot (s : State) : State :=
  match s.gnt.safe with
  | none => s
  | some e =>
    s.given (!s.gnt.snapDone) fun s =>
      let n := s.gnt.snapSeq + 1
      let body := s.snapBody e n
      let bytes := body ++ leBytes 4 (crc32c body)
      let g := { s.gnt with snapSeq := n, snapDone := true }
      (State.refreshSnap { s with gnt := if n % 2 = 0 then { g with slot0 := bytes } else { g with slot1 := bytes } }).wr 0x30
        F.mtn0_MTN_STATUS_SAFE_SEQ 0

/-- FAULT_SNAPSHOT_WRITE (R467). -/
def execFaultSnapshotWrite (s : State) : Out := .next (writeSnapshot s)

/-- SNAP_SEL_WRITE (R477): the window shows the selected slot; discarded in the safe state (R52). -/
def execSnapSelWrite (slot : Fin 2) (s : State) : Out :=
  .next (s.written 0x22 fun s => s.wr 0x22 F.gnt2_SNAP_SEL_SLOT slot.val)

/-! ## Seam spares (R474) -/

/-- The key of a wire. -/
def wireKey (link : Nat) (down : Bool) (wire : Nat) : Nat := link * 2 ^ 20 + (if down then 2 ^ 16 else 0) + wire

/-- Spares in use in a direction of a link; link 8 is the I/O die's. -/
def State.spares (s : State) (link : Nat) (down : Bool) : Nat :=
  if link < 8 then s.rd (0x500 + link) (if down then F.til_SEAM_STATUS_SPARES_DOWN else F.til_SEAM_STATUS_SPARES_UP)
  else s.rd 0x21 (if down then F.gnt1_IOD_SEAM_STATUS_SPARES_DOWN else F.gnt1_IOD_SEAM_STATUS_SPARES_UP)

/-- The spares a direction has: 40 on a tile's link, 8 on the I/O die's. -/
def spareTotal (link : Nat) : Nat := if link < 8 then 40 else 8

/-- R474: a free spare is trained beside the wire; with none left the wire stays and the link's exhaustion cause latches. -/
def trainSpare (link : Nat) (down : Bool) (wire : Nat) (s : State) : State :=
  let key := wireKey link down wire
  s.given (!s.gnt.training.contains key) fun s =>
    let busy := (s.gnt.training.filter fun k => k / 2 ^ 16 == key / 2 ^ 16).length
    if s.spares link down + busy < spareTotal link then
      { s with gnt := { s.gnt with training := key :: s.gnt.training } }
    else if link < 8 then s.raise (0x500 + link) 2
    else s.raise 0x20 2

/-- R474: a wire is replaced when Crown's margin check asks for it, or, checked once per TAI second, for more than
WIRE_THRESH corrections in the second that ends. -/
def checkWire (link : Nat) (down : Bool) (wire corrections : Nat) (margin : Bool) (s : State) : State :=
  if margin then trainSpare link down wire s
  else s.periodic (2 ^ 24 + wireKey link down wire) 1000000000 fun s =>
    if corrections > s.rd 0x21 F.gnt1_SEAM_CFG_WIRE_THRESH then trainSpare link down wire s else s

/-- SEAM_WIRE_CHECK (R474): `down` is the direction from the switch die, `margin` that Crown's margin check asks. -/
def execSeamWireCheck (link : Fin 9) (down : Bool) (wire : Fin 1280) (check : WireCheck) (s : State) : Out :=
  .next (s.running (checkWire link.val down wire.val check.corrections check.margin))

/-- R474: the trained spare takes the wire's place at a flit boundary; the link's spare count rises, and EXHAUSTED is
set with its last spare (R166). -/
def switchSpare (link : Nat) (down : Bool) (wire : Nat) (s : State) : State :=
  let key := wireKey link down wire
  s.given (s.gnt.training.contains key) fun s =>
    let n := s.spares link down + 1
    let s1 := { s with gnt := { s.gnt with
      training := s.gnt.training.filter fun k => k != key
      replaced := key :: s.gnt.replaced } }
    if link < 8 then
      let s2 := s1.wr (0x500 + link) (if down then F.til_SEAM_STATUS_SPARES_DOWN else F.til_SEAM_STATUS_SPARES_UP) n
      (if n ≥ spareTotal link then s2.wr (0x500 + link) F.til_SEAM_STATUS_EXHAUSTED 1 else s2).raise (0x500 + link) 1
    else
      let s2 := s1.wr 0x21 (if down then F.gnt1_IOD_SEAM_STATUS_SPARES_DOWN else F.gnt1_IOD_SEAM_STATUS_SPARES_UP) n
      (if n ≥ spareTotal link then s2.wr 0x21 F.gnt1_IOD_SEAM_STATUS_EXHAUSTED 1 else s2).raise 0x20 1

/-- SEAM_SPARE_SWITCH (R474). -/
def execSeamSpareSwitch (link : Fin 9) (down : Bool) (wire : Fin 1280) (s : State) : Out :=
  .next (s.running (switchSpare link.val down wire.val))

/-! ## Wear (R475, R476) -/

/-- The instances of a kind of monitor. -/
def wearCount (kind : Nat) : Nat := match kind with | 0 => 64 | 1 => 1024 | _ => 8

/-- The hours a history spans (R476): from its first hourly sample to its last, each the sample of one hour. -/
def spanOf (h : List (Nat × Nat)) : Nat :=
  match h, h.getLast? with
  | a :: _, some b => b.1 + 1 - a.1
  | _, _ => 0

/-- The mean of the samples of the first 72 hours, times 100 (R475). -/
def firstMean100 (h : List (Nat × Nat)) : Nat :=
  let first := h.filter fun x => decide (x.1 < (h.headD (0, 0)).1 + 72)
  (first.map (·.2)).sum * 100 / max 1 first.length

/-- R475: the value at which a monitor has reached its end of life, times 100. -/
def wearLimit100 (kind : Nat) (h : List (Nat × Nat)) : Int :=
  match kind with
  | 0 => (firstMean100 h * 96 / 100 : Nat)
  | 1 => (firstMean100 h * 25 / 100 : Nat)
  | 2 => 1000000000000
  | _ => 100 * 20

/-- R476: the least-squares line through samples by hour, from the first: slope numerator, intercept numerator,
denominator. -/
def fitLine (h : List (Nat × Nat)) : Int × Int × Int :=
  let n : Int := h.length
  let xs := h.map fun x => (x.1 - (h.headD (0, 0)).1, x.2)
  let sx : Int := ((xs.map fun p => p.1).sum : Nat)
  let sy : Int := ((xs.map fun p => p.2).sum : Nat)
  let sxx : Int := ((xs.map fun p => p.1 * p.1).sum : Nat)
  let sxy : Int := ((xs.map fun p => p.1 * p.2).sum : Nat)
  let d := n * sxx - sx * sx
  (n * sxy - sx * sy, sy * sxx - sx * sxy, d)

/-- R476: a monitor's report from its history. -/
def wearReport (kind : Nat) (r : WearRec) : WearRec :=
  if spanOf r.samples < 72 then { r with state := 0, months := 0, months90 := 0 }
  else
    let (m, b, d) := fitLine r.samples
    let toward := if kind = 2 then decide (m > 0) else decide (m < 0)
    if toward then
      -- the hour at which the line meets the limit, less the hours passed
      let cross := (wearLimit100 kind r.samples * d - 100 * b) / (100 * m)
      { r with state := 1, months := sat 16 (Config.months (cross - (spanOf r.samples : Int)).toNat),
               months90 := sat 16 (Config.months90 r.samples) }
    else { r with state := 2, months := 0xFFFF, months90 := 0xFFFF }

/-- A lane belongs to a port that is UP (R475). -/
def State.laneUp (s : State) (lane : Nat) : Bool :=
  match s.portOfLane lane with
  | some p => s.up p
  | none => false
/-- One monitor's sample at an hour; a lane that is not UP adds none (R475). -/
def wearSample (hour kind index value : Nat) (s : State) : State :=
  if index < wearCount kind && (kind != 1 || s.laneUp index) then
    let key := kind * 2 ^ 16 + index
    let r := s.gnt.wear.val {} key
    let h := r.samples ++ [(hour, value)]
    { s with gnt := { s.gnt with wear := s.gnt.wear.put {} key (wearReport kind { r with
        samples := h
        hours := spanOf h }) } }
  else s

/-- R476: WEAR_SUMMARY names the predicted monitor of smallest MONTHS_90. -/
def wearWorst (s : State) : Option (Nat × Nat) :=
  s.gnt.wear.foldl (fun best p =>
    if p.2.state = 1 then
      match best with
      | some (_, m) => if p.2.months90 < m then some (p.1, p.2.months90) else best
      | none => some (p.1, p.2.months90)
    else best) none

/-- R475, R476: lanes whose rate changed restart their history, every sample is added, predictions are refitted, and a
MONTHS_90 below WARN_MONTHS latches GNT cause 7; with no monitor PREDICTED the summary is as at reset. -/
def wearHour (samples : List (Nat × Nat × Nat)) (restarted : List Nat) (s : State) : State :=
  let s1 := restarted.foldl (fun t l =>
    { t with gnt := { t.gnt with wear := t.gnt.wear.put {} (2 ^ 16 + l) {} } }) s
  let s2 := samples.foldl (fun t x => wearSample (s.nowNs / 3600000000000) x.1 x.2.1 x.2.2 t) s1
  match wearWorst s2 with
  | none => ((s2.wr 0x23 F.gnt3_WEAR_SUMMARY_WORST_MONTHS_90 0xFFFF).wr 0x23 F.gnt3_WEAR_SUMMARY_WORST_KIND 0).wr 0x23
      F.gnt3_WEAR_SUMMARY_WORST_INSTANCE 0
  | some (key, m) =>
    let s3 := ((s2.wr 0x23 F.gnt3_WEAR_SUMMARY_WORST_MONTHS_90 m).wr 0x23 F.gnt3_WEAR_SUMMARY_WORST_KIND
      (key / 2 ^ 16)).wr 0x23 F.gnt3_WEAR_SUMMARY_WORST_INSTANCE (key % 2 ^ 16)
    if m < s2.rd 0x23 F.gnt3_WEAR_CFG_WARN_MONTHS then s3.raise 0x20 7 else s3

/-- WEAR_HOUR (R476), once per TAI hour: the samples of the hour by kind, instance and value, and the lanes whose rate
changed in it. -/
def execWearHour (samples : List (Fin 4 × Fin 1024 × Nat)) (restarted : List (Fin 1024)) (s : State) : Out :=
  .next (s.running (·.periodic 0x22000 3600000000000
    (wearHour (samples.map fun x => (x.1.val, x.2.1.val, x.2.2)) (restarted.map (·.val)))))

/-- R477: WEAR_STATUS shows the selected monitor; NOT_MONITORED out of range. -/
def showWear (kind index : Nat) (s : State) : State :=
  let r := s.gnt.wear.val {} (kind * 2 ^ 16 + index)
  let s1 := (s.wr 0x23 F.gnt3_WEAR_SEL_KIND kind).wr 0x23 F.gnt3_WEAR_SEL_INSTANCE index
  if index < wearCount kind then
    (((s1.wr 0x23 F.gnt3_WEAR_STATUS_STATE r.state).wr 0x23 F.gnt3_WEAR_STATUS_MONTHS r.months).wr 0x23
      F.gnt3_WEAR_STATUS_MONTHS_90 r.months90).wr 0x23 F.gnt3_WEAR_STATUS_HOURS (sat 16 r.hours)
  else
    (((s1.wr 0x23 F.gnt3_WEAR_STATUS_STATE 3).wr 0x23 F.gnt3_WEAR_STATUS_MONTHS 0).wr 0x23
      F.gnt3_WEAR_STATUS_MONTHS_90 0).wr 0x23 F.gnt3_WEAR_STATUS_HOURS 0

/-- WEAR_SEL_WRITE (R477); discarded in the safe state (R52). -/
def execWearSelWrite (kind : Fin 4) (index : Fin 1024) (s : State) : Out :=
  .next (s.written 0x23 (showWear kind.val index.val))

end Sys2Proof.Machine
end

