-- ==== Sys2Proof/Machine/Safe.lean ====
section
/-! DEFINITION. The entry into the safe state (R456, R463 to R465). -/

namespace Sys2Proof.Machine

/-- R269, R464: every Cuff ends the frame in transmission with a stomped FCS; its record says so, and is among what the ledger
discards and counts where the safe state stops it (R376). -/
def endFrames (s : State) : State :=
  (s.palm.replicas.filter fun x => x.2.phase == 3).foldl (fun t x =>
    match t.replica? x.1 with
    | some _ => finishReplica x.1 (stompReplica x.1 false t)
    | none => t) s

/-- Frames that a stop of forwarding loses without a record: those beyond the Cuffs that are not in transmission (R465). -/
def State.heldFrames (s : State) : Nat :=
  (s.palm.frames.filter fun p => p.2.stage != .fifo &&
    (p.2.stage != .stored || (s.replicasOf p.1).any fun k => match s.replica? k with | some r => r.phase != 3 | none => false)).length

/-- R464, R539: forwarding stops: frames in transmission end, and those held are lost. -/
def stopTraffic (s : State) : State :=
  let s1 := endFrames s
  { s1 with
    palm := { s1.palm with
      frames := []
      replicas := []
      tails := [] }
    timing := { s1.timing with
      merges := s1.timing.merges.map fun p => (p.1, { p.2 with held := [] })
      releases := s1.timing.releases.map fun p => (p.1, { p.2 with
        held := []
        batches := [] }) }
    ucs := { s1.ucs with lines := [] }
    ses := { s1.ses with
      buffer := []
      requests := []
      deferred := [] } }

/-- R58: vector 1 once, if the host link is up; masked, it leaves its pending bit. -/
def safeVector (s : State) : State :=
  let s1 := { s with gnt := { s.gnt with vectorOne := s.hostUp } }
  if s.hostUp then s1.vector 1 else s1

/-- R464: the entry decision: its instant and TQ, forwarding, capture and updates stop, SAFE_N and FAULT_N fall, vector 1,
HOLDOVER (R86), and the ledger's SEAL begins (R376). -/
def enterSafe (e : SafeEntry) (s : State) : State :=
  let entry : SafeEntry := { e with
    at_ := s.now
    tq := s.tq }
  let lost := s.heldFrames
  let cut := s.palm.frames.filter fun p => p.2.stage == .fifo
  let s1 := safeVector (cut.foldl (fun t p => t.count 0x0108 p.2.port) (stopTraffic s))
  let s2 := { s1 with
    gnt := { s1.gnt with
      entry := none
      safe := some entry
      sealRec := none
      bySequencer := false
      snapDone := false }
    crown := { s1.crown with update := none } }
  let s3 := (((s2.wr 0x20 F.gnt0_SUMMARY_SAFE 1).wr 0x30 F.mtn0_MTN_STATUS_SAFE_SEQ 1).wr 0x00
    F.idn_DEVICE_STATE_SAFE_STATE 1).refreshSummary
  let s4 := (s3.send (.pin "SAFE_N" false)).send (.pin "FAULT_N" false)
  ledgerSafe entry lost (enterHoldover (stopSlew s4))

/-- SAFE_STATE_ENTRY (R464): the sequencer takes the entry that a latch, a parity error or an injection has called for. -/
def execSafeStateEntry (s : State) : Out :=
  .next (match s.gnt.entry with
    | some e => if s.isSafe then s else enterSafe e s
    | none => s)

end Sys2Proof.Machine
end

