-- ==== Sys2Proof/Machine/Crown.lean ====
section
/-! DEFINITION. Crown (spec/16_host_cxl.md): its two command paths and commands, staging, the hitless update, takeovers
and attestation (R489 to R508). -/

namespace Sys2Proof.Machine

/-! ## The command paths (R490 to R495) -/

def State.crSize (s : State) : Nat := 2 ^ s.rd 0x12 F.crn2_CR_CFG_LOG2_SIZE
/-- The mailbox's descriptor (R490). -/
def State.mailbox (s : State) : List Byte := (List.range 16).flatMap fun k => leBytes 8 (s.rdi 0x11 F.crn1_MB_DESC k)
/-- The oldest command of a path that has not completed: of the ring, or the mailbox's. -/
def State.crownFront (s : State) (ring : Bool) : Option (List Byte) :=
  if ring then s.crown.fetched.head? else if s.on 0x11 F.crn1_MB_STATUS_BUSY then some s.mailbox else none

/-- Fields of a descriptor (R492). -/
def cOp (d : List Byte) : Nat := leVal (slice d 0 1)
def cNoIrq (d : List Byte) : Bool := (leVal (slice d 1 1)).testBit 0
def cAddr (d : List Byte) : Nat := leVal (slice d 0x08 8)
def cLength (d : List Byte) : Nat := leVal (slice d 0x10 4)
def cHandle (d : List Byte) : Nat := leVal (slice d 0x14 4)
def cArg (d : List Byte) : Nat := leVal (slice d 0x18 8)
def cAt (d : List Byte) : T80 := leVal (slice d 0x20 8) * nsUnits + leVal (slice d 0x28 2)

def State.updateState (s : State) : Nat := s.rd 0x10 F.crn0_CROWN_STATUS_UPDATE_STATE
def State.standbyState (s : State) : Nat := s.rd 0x10 F.crn0_CROWN_STATUS_STANDBY_STATE
/-- Crown's firmware runs on an active pair that is awake, and hands nothing over (R419, R501, R503). -/
def State.crownAwake (s : State) : Bool :=
  s.boot.done.contains 7 && (s.dom 205).state == 0 && (s.dom 205).trans == 0 && !s.crown.takeover && s.updateState != 3
/-- It takes commands. -/
def State.crownRuns (s : State) : Bool := !s.stopped && s.crownAwake

/-- The command at the front of a path has been carried out and waits for its end. -/
def State.crownStarted (s : State) (ring : Bool) : Bool :=
  (match s.crown.load with | some l => l.ring == ring | none => false) ||
    (match s.crown.update with | some u => u.ring == some ring || u.confirm == some ring | none => false)
/-- R495: a command of 0x12 to 0x20 runs. -/
def State.crownBusy (s : State) : Bool := s.crownStarted true || s.crownStarted false

/-- What a completion carries (R492). -/
structure CrownDone where
  status : Nat
  detail : Nat := 0
  handle : Nat := 0
  result0 : Nat := 0
  result1 : Nat := 0

/-- The completion's fields from byte 0x41 on. -/
def CrownDone.fields (c : CrownDone) (doneNs : Nat) : List Byte :=
  leBytes 1 c.detail ++ leBytes 2 0 ++ leBytes 4 c.handle ++ leBytes 8 c.result0 ++ leBytes 8 c.result1 ++ leBytes 8 doneNs ++ leBytes 32 0

/-- R491: a fetch error stops the ring; what had been fetched is fetched again after its restart. -/
def stopCrownRing (s : State) : State :=
  (({ s with crown := { s.crown with
      posted := s.crown.fetched ++ s.crown.posted
      fetched := [] } }.set1 0x12 F.crn2_CR_STATUS_STOPPED).set1 0x12 F.crn2_CR_STATUS_FETCH_ERR).raise 0x10 4 |>.vector 10

/-- R489, R490, R491: the command at the front of a path completes; a completion that cannot be written stops the ring
(R536). The active pair writes its checkpoint (R500). -/
def crownComplete (ring : Bool) (c : CrownDone) (s0 : State) : State :=
  let s := { s0 with crown := { s0.crown with checkpoint := s0.mono } }
  if ring then
    match s.crown.fetched with
    | [] => s
    | d :: rest =>
      if !s.hostUp then stopCrownRing s
      else
        let head := s.rd 0x12 F.crn2_CR_HEAD % s.crSize
        let at_ := s.rd 0x12 F.crn2_CR_BASE * 128 + 128 * head
        let s1 := (s.send (.hostWrite (at_ + 0x41) (c.fields s.nowNs))).send (.hostWrite (at_ + 0x40) (leBytes 1 c.status))
        let s2 := { s1 with crown := { s1.crown with fetched := rest } }.wr 0x12 F.crn2_CR_HEAD ((head + 1) % s.crSize)
        if cNoIrq d then s2 else s2.vector 9
  else
    let d := s.mailbox.take 0x40 ++ leBytes 1 c.status ++ c.fields s.nowNs
    let s1 := (List.range 16).foldl (fun t k => t.wri 0x11 F.crn1_MB_DESC k (leVal (slice d (8 * k) 8))) s
    ((s1.wr 0x11 F.crn1_MB_STATUS_BUSY 0).set1 0x11 F.crn1_MB_STATUS_DONE).vector 8

/-- R493: the opcodes. -/
def crownOps : List Nat := [0x01, 0x02, 0x10, 0x11, 0x12, 0x13, 0x14, 0x15, 0x16, 0x20, 0x30]
/-- R494: leading commands of an unknown OP complete with BAD_CMD; `n` bounds their number. -/
def crownSkip (ring : Bool) : Nat → State → State
  | 0, s => s
  | n + 1, s => match s.crownFront ring with
    | none => s
    | some d => if crownOps.contains (cOp d) then s else crownSkip ring n (crownComplete ring { status := 2 } s)
/-- R491: Crown fetches what is posted on an enabled ring. -/
def fetchCrown (s : State) : State :=
  if s.on 0x12 F.crn2_CR_CFG_ENABLE && !s.on 0x12 F.crn2_CR_STATUS_STOPPED && !s.crown.posted.isEmpty then
    if s.hostUp then { s with crown := { s.crown with
      fetched := s.crown.fetched ++ s.crown.posted
      posted := [] } }
    else stopCrownRing s
  else s
/-- Crown looks at its paths. The ROM knows the mailbox only, where an unknown OP completes BUSY (R546). -/
def pumpCrown (s : State) : State :=
  if s.crownRuns then
    let s1 := fetchCrown s
    crownSkip false 1 (crownSkip true s1.crown.fetched.length s1)
  else if s.boot.rom then
    match s.crownFront false with
    | some d => if crownOps.contains (cOp d) then s else crownComplete false { status := 6 } s
    | none => s
  else s
def crownEnd (ring : Bool) (c : CrownDone) (s : State) : State := pumpCrown (crownComplete ring c s)

/-- A command of an opcode at the front of a path, on a running Crown. Of 0x12 to 0x20 one runs at a time (R495); FW_ABORT
is meant for a running FW_UPDATE and does not wait for it. `rom` is what the boot ROM makes of it (R546). -/
def onCrown (ring : Bool) (op : Nat) (rom f : List Byte → State → State) (s : State) : State :=
  match s.crownFront ring with
  | none => s
  | some d =>
    if cOp d ≠ op then s
    else if s.boot.rom && !ring && !s.stopped then rom d s
    else s.given (s.crownRuns && !s.crownStarted ring && !(decide (0x12 ≤ op ∧ op ≤ 0x20 ∧ op ≠ 0x16) && s.crownBusy)) (f d)
/-- R546: every OP that the ROM does not serve. -/
def romBusy (_ : List Byte) (s : State) : State := crownEnd false { status := 6 } s

/-- MAILBOX_GO (R490): a GO while BUSY is discarded. -/
def mailboxGo (s : State) : State :=
  if s.on 0x11 F.crn1_MB_STATUS_BUSY then s.set1 0x11 F.hdr_PAGE_STATUS_WRITE_DROPPED
  else pumpCrown (wakeCrown (s.wr 0x11 F.crn1_MB_STATUS_BUSY 1))
def execMailboxGo (s : State) : Out := .next (s.written 0x11 mailboxGo)

/-- CROWN_RING_DOORBELL (R491): CR_TAIL written, with the descriptors that the host has posted up to it. -/
def execCrownRingDoorbell (tail : BitVec 10) (descs : List (List Byte)) (s : State) : Out :=
  .next (s.written 0x12 fun s =>
    let new_ := (tail.toNat % s.crSize + s.crSize - s.rd 0x12 F.crn2_CR_TAIL % s.crSize) % s.crSize
    s.given (decide (descs.length = new_) && descs.all fun d => d.length == 128) fun s =>
      let s1 := s.wr 0x12 F.crn2_CR_TAIL tail.toNat
      pumpCrown (wakeCrown { s1 with crown := { s1.crown with posted := s1.crown.posted ++ descs } }))

/-- CROWN_RING_FETCH_ERR (R491, R488): a translation that failed, or another failure of the access. -/
def execCrownRingFetchErr (translation : Bool) (s : State) : Out :=
  .next (s.running fun s => s.given (s.on 0x12 F.crn2_CR_CFG_ENABLE && !s.on 0x12 F.crn2_CR_STATUS_STOPPED) fun s =>
    (stopCrownRing s).raise 0x380 (if translation then 4 else 3))

/-- R491: a write of CR_CFG. LOG2_SIZE outside 4 to 10 discards it whole; ENABLE at 1 after 0 restarts a stopped ring. -/
def writeCrCfg (data : Nat) (s : State) : State :=
  let l := data / 2 ^ 8 % 16
  if l < 4 ∨ l > 10 then s.set1 0x12 F.hdr_PAGE_STATUS_WRITE_DROPPED
  else
    let was := s.on 0x12 F.crn2_CR_CFG_ENABLE
    let s1 := if was then s else s.wr 0x12 F.crn2_CR_CFG_LOG2_SIZE l
    let s2 := s1.wr 0x12 F.crn2_CR_CFG_ENABLE (data % 2)
    if data % 2 = 1 ∧ !was then pumpCrown (s2.wr 0x12 F.crn2_CR_STATUS_STOPPED 0) else s2

/-! ## Plain commands (R493, R499) -/

/-- NOP (R493). -/
def execNop (ring : Bool) (s : State) : Out :=
  .next (onCrown ring 0x01 (fun _ => crownEnd false { status := 1 }) (fun _ => crownEnd ring { status := 1 }) s)

/-- GET_VERSIONS (R493). -/
def execGetVersions (ring : Bool) (s : State) : Out :=
  .next (onCrown ring 0x02 (fun _ => crownEnd false { status := 1 }) (fun _ s => crownEnd ring
    { status := 1, result0 := s.crown.active.version, result1 := s.crown.standby.version } s) s)

/-- The DDR5 address of a staging slot, 1 to 4: the spec puts the slots into the FIRMWARE region (DESIGN CHOICE: from its
start, 64 MiB each). -/
def slotBase (h : Nat) : Nat := (h - 1) * bundleMax
def showStaged (s : State) : State :=
  s.wr 0x10 F.crn0_STAGED ((([1, 2, 3, 4].filter fun h => (s.crown.slots.at? h).isSome).map fun h => 2 ^ (h - 1)).sum)
def State.staged (s : State) (d : List Byte) : Option Slot := s.crown.slots.at? (cHandle d)
/-- The bytes of a staged bundle, and whether DDR5 still holds them whole (R526). -/
def State.slotBytes (s : State) (h : Nat) : List Byte := s.ddrRead (slotBase h) (s.crown.slots.val ⟨0, true⟩ h).length
def State.slotWhole (s : State) (h : Nat) : Bool :=
  match s.crown.slots.at? h with
  | some x => !x.lost && !s.poisoned (slotBase h) x.length
  | none => false

/-- Versions and SVNs as the registers show them (R51, R509). -/
def showFirmware (s : State) : State :=
  let v := s.crown.active.version
  ((((((s.wr 0x00 F.idn_FW_MINOR v).wr 0x00 F.idn_FW_MAJOR (v / 2 ^ 16)).wr 0x00 F.idn_FW_BUILD (v / 2 ^ 32)).wr 0x10
    F.crn0_FW_STANDBY s.crown.standby.version).wr 0x10 F.crn0_SVN_RUNNING s.crown.active.svn).wr 0x10 F.crn0_SVN_FLOOR s.crown.floor)

/-- R543, R546: Crown boots a boot set: both pairs, the sections, and what the DDR5 FIRMWARE region keeps of it. -/
def bootCrown (set : List (Nat × Nat × List Byte)) (keep : Bool) (s : State) : State :=
  let of_ (t : Nat) : List Byte := ((set.find? fun x => x.1 == t).map fun x => x.2.2).getD []
  let fw := firmwareOf s.crown.revoked (of_ 1)
  let digest (t : Nat) : List Byte := ((sectionOf (of_ t) t).map BundleSection.digest).getD []
  showFirmware { s with
    crown := { s.crown with
      active := fw
      standby := fw
      sections := [(2, digest 2), (3, digest 3), (5, digest 5)]
      knuckle := ((sectionOf (of_ 4) 4).map (bodyOf (of_ 4))).getD []
      bundles := if keep then set.foldl (fun m x => SMap.enter m x.2.1 x.2.2) [] else [] }
    boot := { s.boot with
      done := 7 :: s.boot.done
      rom := false } }

/-- R493, R498, R546: the bundle fetched, verified and kept; `bytes` is what the host's memory holds, `error` a failure of
the fetch, by translation or otherwise (R488). -/
def stageBundle (ring rom : Bool) (bytes : List Byte) (error : Option Bool) (d : List Byte) (s : State) : State :=
  let ends (c : CrownDone) (t : State) : State := crownEnd ring c t
  let room := s.on 0x340 F.ddr0_DDR_STATUS_AVAILABLE
  if cLength d > bundleMax then ends { status := 2 } s
  else if rom && !(s.hostUp && room) then ends { status := 6 } s
  else match (if room then [1, 2, 3, 4].find? fun h => (s.crown.slots.at? h).isNone else none) with
    | none => ends { status := 4 } s
    | some h =>
      if error.isSome || !s.hostUp then
        ends { status := 7 } (s.raise 0x380 (if error = some true then 4 else 3))
      else s.given (decide (bytes.length = cLength d)) fun s =>
        let s1 := s.ddrWrite (slotBase h) bytes
        let code := verifyBundle s.crown.revoked s.crown.floor bytes
        let set := bootSet [(0, bytes)]
        let code1 := if code = 0 ∧ rom ∧ set.isNone then 0x13 else code
        if code1 ≠ 0 then ends { status := 3, detail := code1 } (s1.raise 0x10 5)
        else
          let s2 := showStaged { s1 with crown := { s1.crown with slots := s1.crown.slots.enter h ⟨bytes.length, false⟩ } }
          let s3 := ends { status := 1, handle := h } s2
          match rom, set with
          | true, some x => bootCrown x false s3
          | _, _ => s3
/-- BUNDLE_STAGE (R498). -/
def execBundleStage (ring : Bool) (bytes : List Byte) (error : Option Bool) (s : State) : Out :=
  .next (onCrown ring 0x10 (stageBundle ring true bytes error) (stageBundle ring false bytes error) s)

/-- BUNDLE_DROP (R493). -/
def execBundleDrop (ring : Bool) (s : State) : Out :=
  .next (onCrown ring 0x11 romBusy (fun d s =>
    if (s.staged d).isNone then crownEnd ring { status := 5 } s
    else crownEnd ring { status := 1 } (showStaged { s with crown := { s.crown with slots := s.crown.slots.del (cHandle d) } })) s)

/-- SVN_COMMIT (R499): the floor takes the running SVN, and the slots of REVOKE_MASK but the signer's are revoked. -/
def execSvnCommit (ring : Bool) (s : State) : Out :=
  .next (onCrown ring 0x20 romBusy (fun _ s =>
    if s.updateState ≠ 0 then crownEnd ring { status := 6 } s
    else
      let fw := s.crown.active
      crownEnd ring { status := 1 } (showFirmware { s with crown := { s.crown with
        floor := fw.svn
        revoked := s.crown.revoked ||| putBit fw.revoke fw.signer false } })) s)

/-- R493: DDR_READ's bytes lie in the capture or the retransmission region. -/
def State.readable (s : State) (a n : Nat) : Bool := s.inRegion 2 a n || s.inRegion 3 a n
/-- DDR_READ (R493): DDR5 bytes copied to host memory. What a poisoned line is copied as the spec does not say: the bytes
are free values. -/
def ddrCopy (ring : Bool) (d : List Byte) (s : State) : State :=
  let a := cArg d
  let n := cLength d
  if n % 64 ≠ 0 ∨ n > 0x100000 then crownEnd ring { status := 2 } s
  else if !s.readable a n then crownEnd ring { status := 8 } s
  else if !s.hostUp then crownEnd ring { status := 7 } (s.raise 0x380 3)
  else
    let bytes := (List.range n).map fun i =>
      if s.poisoned (a + i) 1 then BitVec.ofNat 8 (Config.faultyItem (a + i) s.free) else s.ddrByte (a + i)
    crownEnd ring { status := 1 } ({ s with free := s.free + 1 }.send (.hostWrite (cAddr d) bytes))
def execDdrRead (ring : Bool) (s : State) : Out := .next (onCrown ring 0x30 romBusy (ddrCopy ring) s)

/-! ## Microcode loads (R493, R198) -/

/-- A load ends once no slice it names is in STAGING. -/
def endLoad (s : State) : State :=
  match s.crown.load with
  | none => s
  | some l =>
    s.given (s.crownRuns && !((List.range 32).any fun g => l.slices.testBit g && s.ucsState g == 2)) fun s =>
      crownEnd l.ring { status := 1, result0 := l.staged } { s with crown := { s.crown with load := none } }

/-- UCODE_LOAD (R493, R498). -/
def ucodeLoad (ring : Bool) (d : List Byte) (s : State) : State :=
  match s.staged d with
  | none => crownEnd ring { status := 5 } s
  | some _ =>
    let h := cHandle d
    let bs := s.slotBytes h
    match sectionOf bs 4 with
    | none => crownEnd ring { status := 3, detail := 0x13 } s
    | some x =>
      let gs := (List.range 32).filter (cArg d).testBit
      if gs.any fun g => s.ucsState g != 1 then crownEnd ring { status := 6 } s
      else
        let sec : Section := ⟨slotBase h + x.offset, x.length, s.slotWhole h && sha384 (bodyOf bs x) == x.digest⟩
        let s1 := gs.foldl (fun t g => startLoad g sec t) s
        endLoad { s1 with crown := { s1.crown with load := some { ring := ring, slices := cArg d % 2 ^ 32 } } }
def execUcodeLoad (ring : Bool) (s : State) : Out := .next (onCrown ring 0x12 romBusy (ucodeLoad ring) s)

/-- STAGING_COMPLETE (R194, R198): a slice leaves STAGING; the load that named it takes note of one STAGED. -/
def execStagingComplete (slice : Fin 32) (readback : Bool) (s : State) : Out :=
  .next (s.running fun s => s.given (s.ucsState slice.val == 2) fun s =>
    let s1 := stageBank slice.val readback s
    match s1.crown.load with
    | some l =>
      let st := if s1.ucsState slice.val = 3 then putBit l.staged slice.val true else l.staged
      endLoad { s1 with crown := { s1.crown with load := some { l with staged := st } } }
    | none => s1)

/-! ## Attestation (R506 to R508) -/

/-- R507: a measurement block. -/
def State.measurement (s : State) (i : Nat) : List Byte :=
  match i with
  | 1 => s.crown.active.digest
  | 2 => if s.standbyState = 0 then List.replicate 48 0 else s.crown.standby.digest
  | 3 => s.crown.sections.val [] 2
  | 4 => s.crown.sections.val [] 3
  | 5 => s.crown.sections.val [] 5
  | 6 => sha384 ((List.range 32).flatMap fun g => ((s.store g).bank (s.activeBank g)).digest)
  | 7 => sha384 s.crown.eqTable
  | _ => sha384 (Config.policyBytes s.crown.floor s.crown.active.svn s.crown.revoked ++ leBytes 4 0xA0)

/-- A signature over bytes by the identity key (R506). -/
def State.spdmSignature (s : State) (m : List Byte) : Nat := beVal ((List.range 96).map (Config.signatureByte (sha384 m) s.free))

/-- What the responder answers to a request (R506, R507): the answer's name and its fields as numbers. -/
def spdmAnswer (kind : String) (args : List Nat) (nonce : List Byte) (s : State) : State :=
  let arg (i : Nat) : Nat := args.getD i 0
  let draw := (Config.drbg s.free).toNat
  let chain := sha384 s.crown.chain
  match kind with
  | "DISCOVERY" => s.send (.reply "DISCOVERY" [1, arg 0, if arg 0 = 0 then 1 else 0])
  | "GET_VERSION" => s.send (.reply "VERSION" [0x1200])
  | "GET_CAPABILITIES" => s.send (.reply "CAPABILITIES" [0x16])
  | "NEGOTIATE_ALGORITHMS" => s.send (.reply "ALGORITHMS" [1, 4, 0x80, 2])
  | "GET_DIGESTS" => s.send (.reply "DIGESTS" [1, beVal chain])
  | "GET_CERTIFICATE" =>
    if arg 0 ≠ 0 then s.send (.reply "ERROR" [1])
    else s.send (.reply "CERTIFICATE" (0 :: (((s.crown.chain.drop (arg 1)).take (arg 2)).map BitVec.toNat)))
  | "CHALLENGE" =>
    if arg 0 ≠ 0 then s.send (.reply "ERROR" [1])
    else { s with free := s.free + 1 }.send (.reply "CHALLENGE_AUTH"
      [0, beVal chain, draw, s.spdmSignature (nonce ++ chain ++ leBytes 8 draw)])
  | "GET_MEASUREMENTS" =>
    let i := arg 0
    if i = 0 then s.send (.reply "MEASUREMENTS" [8])
    else if 8 < i ∧ i ≠ 255 then s.send (.reply "ERROR" [1])
    else
      let blocks := if i = 255 then [1, 2, 3, 4, 5, 6, 7, 8] else [i]
      let body := blocks.flatMap fun k => [k, beVal (s.measurement k)]
      if arg 1 = 0 then s.send (.reply "MEASUREMENTS" body)
      else { s with free := s.free + 1 }.send (.reply "MEASUREMENTS"
        (body ++ [draw, s.spdmSignature (nonce ++ (blocks.flatMap s.measurement) ++ leBytes 8 draw)]))
  | _ => s.send (.reply "ERROR" [7])

/-- R508: a request is answered by a running pair, and waits while Crown takes over or switches, or does not run. One
request at a time (PRESUMED, PCIe's DOE Busy bit). -/
def doeAsk (kind : String) (args : List Nat) (nonce : List Byte) (s : State) : State :=
  if s.crown.doe.isSome || s.crown.doeError || s.boot.quiescing then s
  else if s.crownAwake then spdmAnswer kind args nonce s
  else { s with crown := { s.crown with doe := some ⟨s.mono, kind, args, nonce⟩ } }
/-- A waiting request is answered once the pair can. -/
def doeServe (s : State) : State :=
  match s.crown.doe with
  | some w => if s.crownAwake then spdmAnswer w.kind w.args w.nonce { s with crown := { s.crown with doe := none } } else s
  | none => s

/-- DOE_DISCOVERY (R506): the data object at an index. -/
def execDoeDiscovery (index : Fin 2) (s : State) : Out := .next (doeAsk "DISCOVERY" [index.val] [] s)
/-- GET_VERSION (R506). -/
def execGetVersion (s : State) : Out := .next (doeAsk "GET_VERSION" [] [] s)
/-- GET_CAPABILITIES (R506). -/
def execGetCapabilities (s : State) : Out := .next (doeAsk "GET_CAPABILITIES" [] [] s)
/-- NEGOTIATE_ALGORITHMS (R506). -/
def execNegotiateAlgorithms (s : State) : Out := .next (doeAsk "NEGOTIATE_ALGORITHMS" [] [] s)
/-- GET_DIGESTS (R506). -/
def execGetDigests (s : State) : Out := .next (doeAsk "GET_DIGESTS" [] [] s)
/-- GET_CERTIFICATE (R506). -/
def execGetCertificate (slot : Fin 8) (offset length : BitVec 16) (s : State) : Out :=
  .next (doeAsk "GET_CERTIFICATE" [slot.val, offset.toNat, length.toNat] [] s)
/-- CHALLENGE (R506). -/
def execChallenge (slot : Fin 8) (nonce : List Byte) (s : State) : Out := .next (doeAsk "CHALLENGE" [slot.val] nonce s)
/-- GET_MEASUREMENTS (R507). -/
def execGetMeasurements (index : BitVec 8) (signed : Bool) (nonce : List Byte) (s : State) : Out :=
  .next (doeAsk "GET_MEASUREMENTS" [index.toNat, signed.toNat] nonce s)
/-- SPDM_UNSUPPORTED_REQUEST (R506). -/
def execSpdmUnsupportedRequest (s : State) : Out := .next (doeAsk "OTHER" [] [] s)
/-- DOE_TIMEOUT (R508): 1 s without an answer sets the DOE Error bit. -/
def execDoeTimeout (s : State) : Out :=
  .next (match s.crown.doe with
    | some w => s.given (decide (w.since + ns 1000000000 ≤ s.mono)) fun s =>
        { s with crown := { s.crown with
          doe := none
          doeError := true } }
    | none => s)

/-! ## Hitless updates (R503 to R505) -/

/-- R503: a change of UPDATE_STATE sends vector 11. -/
def setUpdate (st : Nat) (s : State) : State := (s.wr 0x10 F.crn0_CROWN_STATUS_UPDATE_STATE st).vector 11
def setStandby (st : Nat) (s : State) : State := s.wr 0x10 F.crn0_CROWN_STATUS_STANDBY_STATE st
/-- The update ends in IDLE; the FW_UPDATE that still waits completes. -/
def endUpdate (status detail standby : Nat) (s : State) : State :=
  match s.crown.update with
  | none => s
  | some u =>
    let s1 := setStandby standby (setUpdate 0 { s with crown := { s.crown with update := none } })
    match u.ring with
    | some r => crownEnd r { status := status, detail := detail } s1
    | none => pumpCrown s1

/-- FW_UPDATE (R503): from IDLE with a standby pair READY. -/
def fwUpdate (ring : Bool) (d : List Byte) (s : State) : State :=
  match s.staged d with
  | none => crownEnd ring { status := 5 } s
  | some _ =>
    let bs := s.slotBytes (cHandle d)
    if (sectionOf bs 1).isNone then crownEnd ring { status := 3, detail := 0x13 } s
    else if s.updateState ≠ 0 ∨ s.standbyState ≠ 1 then crownEnd ring { status := 6 } s
    else
      let u : Update := { ring := some ring, slot := cHandle d, at_ := cAt d, new_ := firmwareOf s.crown.revoked bs }
      setStandby 2 (setUpdate 1 { s with crown := { s.crown with update := some u } })
def execFwUpdate (ring : Bool) (s : State) : Out := .next (onCrown ring 0x13 romBusy (fwUpdate ring) s)

/-- FW_SELFTEST_DONE (R503). A bundle that DDR5 has lost since does not load. -/
def execFwSelftestDone (passed : Bool) (s : State) : Out :=
  .next (s.running fun s => match s.crown.update with
    | some u => s.given (s.updateState == 1) fun s =>
        if passed && s.slotWhole u.slot then setUpdate 2 s else endUpdate 3 0x10 1 s
    | none => s)

/-- FW_SWITCH_START (R503, R505): the pairs are in step and TIME has reached AT; an EPOCH_COMMIT that is not IDLE is waited
for. It is LATE when it starts beyond AT's nanosecond. -/
def execFwSwitchStart (s : State) : Out :=
  .next (s.running fun s => match s.crown.update with
    | some u => s.given (s.updateState == 2 && decide (u.at_ ≤ s.now) && s.epochState == 0) fun s =>
        setUpdate 3 { s with crown := { s.crown with update := some { u with late := decide (u.at_ ≠ 0 ∧ u.at_ / nsUnits < s.nowNs) } } }
    | none => s)

/-- R503: the new pair is active with the new firmware; a previous pair that has failed meanwhile stays LOST (R505). -/
def handOver (u : Update) (s : State) : State :=
  let s1 := showFirmware { s with crown := { s.crown with
    active := u.new_
    standby := s.crown.active
    update := some { u with
      ring := none
      since := s.mono } } }
  let s2 := (s1.wr 0x10 F.crn0_CROWN_STATUS_ACTIVE_PAIR (1 - s.rd 0x10 F.crn0_CROWN_STATUS_ACTIVE_PAIR)).bump 0x10
    F.crn0_CROWN_STATUS_SWITCHES
  let s3 := setUpdate 4 (if s.standbyState = 0 then s2 else setStandby 3 s2)
  let s4 := if u.late then s3.set1 0x10 F.crn0_CROWN_STATUS_LATE else s3
  match u.ring with
  | some r => crownEnd r { status := if u.late then 9 else 1, result0 := u.new_.version, result1 := s.crown.active.version } s4
  | none => s4
/-- FW_SWITCH_COMPLETE (R503). -/
def execFwSwitchComplete (s : State) : Out :=
  .next (s.running fun s => match s.crown.update with
    | some u => s.given (s.updateState == 3) fun s => doeServe (handOver u s)
    | none => s)

/-- RESYNC begins (R503). -/
def startResync (confirm : Option Bool) (s : State) : State :=
  match s.crown.update with
  | none => s
  | some u => setUpdate 5 (setStandby (if s.standbyState = 0 then 0 else 2) { s with crown := { s.crown with
      update := some { u with confirm := confirm } } })
/-- FW_CONFIRM (R503). -/
def execFwConfirm (ring : Bool) (s : State) : Out :=
  .next (onCrown ring 0x14 romBusy (fun _ s =>
    if s.updateState = 4 then startResync (some ring) s else crownEnd ring { status := 6 } s) s)
/-- CONFIRM_TIMEOUT (R503). -/
def execConfirmTimeout (s : State) : Out :=
  .next (s.running fun s => match s.crown.update with
    | some u => s.given (s.updateState == 4 && decide (u.since + ns (s.rd 0x10 F.crn0_CONFIRM_S * 1000000000) ≤ s.mono)) (startResync none)
    | none => s)

/-- FW_ROLLBACK (R503, R505): the previous pair takes over with the previous firmware. -/
def execFwRollback (ring : Bool) (s : State) : Out :=
  .next (onCrown ring 0x15 romBusy (fun _ s =>
    if s.updateState ≠ 4 ∨ s.standbyState ≠ 3 then crownEnd ring { status := 6 } s
    else
      let s1 := showFirmware { s with crown := { s.crown with
        active := s.crown.standby
        update := none } }
      crownEnd ring { status := 1 } (setStandby 1 (setUpdate 0 (s1.wr 0x10 F.crn0_CROWN_STATUS_ACTIVE_PAIR
        (1 - s.rd 0x10 F.crn0_CROWN_STATUS_ACTIVE_PAIR))))) s)

/-- FW_ABORT (R493): an update in LOADING or SYNCING ends, its FW_UPDATE with ABORTED. -/
def execFwAbort (ring : Bool) (s : State) : Out :=
  .next (onCrown ring 0x16 romBusy (fun _ s =>
    if s.updateState = 1 ∨ s.updateState = 2 then
      match s.crown.update with
      | some u =>
        if u.ring = some ring then s
        else crownEnd ring { status := 1 } (endUpdate 0x0A 0 1 s)
      | none => crownEnd ring { status := 6 } s
    else crownEnd ring { status := 6 } s) s)

/-- R504: the bundle's other sections are installed: TILE_FW without a visible effect, LEDGER_FW with `missed` anchor
instants, BAND_FW with HOLDOVER and a new acquisition. -/
def installSections (bs : List Byte) (missed : Nat) (s : State) : State :=
  let put (t : Nat) (s : State) : State := match sectionOf bs t with
    | some x => { s with crown := { s.crown with sections := s.crown.sections.enter t x.digest } }
    | none => s
  let s1 := put 5 (put 3 (put 2 s))
  let s2 := if (sectionOf bs 3).isSome && s1.ledgerRuns then missInstants missed s1 else s1
  if (sectionOf bs 2).isSome then
    let s3 := enterHoldover (stopSlew s2)
    { s3 with hat := { s3.hat with
      fresh := true
      agreeing := none } }
  else s2
/-- FW_RESYNC_COMPLETE (R503, R504, R544): the previous pair holds the new firmware, the sections are installed, the flash
has the bundle, and the FIRMWARE region the boot set that it changes. -/
def execFwResyncComplete (missed : Fin 9) (s : State) : Out :=
  .next (s.running fun s => match s.crown.update with
    | none => s
    | some u => s.given (s.updateState == 5) fun s =>
      let bs := s.slotBytes u.slot
      let (s1, seq) := addToFlash bs (installSections bs missed.val s)
      let s2 := { s1 with crown := { s1.crown with
        update := none
        standby := if s.standbyState = 0 then s1.crown.standby else s1.crown.active
        knuckle := ((sectionOf bs 4).map (bodyOf bs)).getD s1.crown.knuckle
        bundles := match seq with | some n => s1.crown.bundles.enter n bs | none => s1.crown.bundles } }
      let s3 := setUpdate 0 (setStandby (if s.standbyState = 0 then 0 else 1) (showFirmware s2))
      match u.confirm with
      | some r => crownEnd r { status := 1 } s3
      | none => pumpCrown s3)

/-! ## The pairs (R500 to R502) -/

/-- CHECKPOINT_WRITE (R500): every 1,000,000 ns; Crown looks at its paths. -/
def execCheckpointWrite (s : State) : Out :=
  .next (s.running fun s => s.given s.crownAwake fun s => s.periodic 10 1000000 fun s =>
    doeServe (endLoad (pumpCrown { s with crown := { s.crown with checkpoint := s.mono } })))

/-- R505: the switch is abandoned before the handover; the pair still running is active. -/
def abandonSwitch (standbyFailed : Bool) (s : State) : State :=
  let s1 := endUpdate 0x0A 0 0 s
  if standbyFailed then s1.raise 0x10 1
  else s1.wr 0x10 F.crn0_CROWN_STATUS_ACTIVE_PAIR (1 - s.rd 0x10 F.crn0_CROWN_STATUS_ACTIVE_PAIR)

/-- A BUNDLE_STAGE is at the front of a path. -/
def State.stagesBundle (s : State) (ring : Bool) : Bool :=
  match s.crownFront ring with
  | some d => cOp d == 0x10
  | none => false

/-- CROWN_PAIR_FAILURE (R501, R505): the active pair fails by a lockstep mismatch, its watchdog or its wake (0, 1, 2), or
the standby pair fails; in SWITCHING, before or after the handover. -/
def execCrownPairFailure (standby : Bool) (kind : Fin 3) (afterHandover : Bool) (s : State) : Out :=
  .next (s.running fun s => s.given (s.boot.done.contains 7 && !s.crown.takeover) fun s =>
    let s0 := if standby then s else match kind.val with | 0 => s.raise 0x10 0 | 1 => s.raise 0x10 3 | _ => s
    let u := s.updateState
    if u = 3 then
      if afterHandover then (if standby then setStandby 0 (s0.raise 0x10 1) else setStandby 0 s0)
      else abandonSwitch standby s0
    else if standby then
      (if u = 1 ∨ u = 2 then endUpdate 0x0A 0 0 s0 else setStandby 0 s0).raise 0x10 1
    else if s.standbyState = 0 ∨ (s.standbyState = 2 ∧ u ≠ 1 ∧ u ≠ 2) then s0.raise 0x10 2
    else { s0 with crown := { s0.crown with
        takeover := true
        interrupted := if s.crownRuns then [false, true].filter s.stagesBundle else [] } })

/-- R502: an EPOCH_COMMIT that a takeover interrupts is resolved from its journal (R238) and completes with FAILOVER. -/
def failoverEpoch (s : State) : State :=
  match s.tbl.epoch.queue with
  | none => s
  | some q =>
    let report (res : Nat) (t : State) : State :=
      ((t.wr 0x300 F.tbl0_JOURNAL_STATUS_RESOLUTION res).wr 0x300 F.tbl0_JOURNAL_STATUS_RESOLVED_ID s.tbl.journal.id).vector 275
    if s.epochState = 2 then complete q { status := 11 } (report 2 (discardEpoch s))
    else
      let t := { s with tbl := { s.tbl with epoch := { s.tbl.epoch with
        failover := true
        effect := min s.tbl.epoch.effect s.now } } }
      report 1 (if s.epochState = 3 then epochEffect t else t)

/-- R502: the microcode load that a takeover interrupts. -/
def failoverLoad (s : State) : State :=
  match s.crown.load with
  | none => s
  | some l =>
    let s1 := (List.range 32).foldl (fun t g => if l.slices.testBit g && t.ucsState g == 2 then setUcsState g 5 t else t) s
    crownComplete l.ring { status := 0x0B, result0 := l.staged } { s1 with crown := { s1.crown with load := none } }

/-- R502: a BUNDLE_STAGE that the failure interrupted completes with FAILOVER; its slot holds nothing. -/
def failoverStage (s : State) : State :=
  s.crown.interrupted.foldl (fun t r => if t.stagesBundle r then crownComplete r { status := 0x0B } t else t)
    { s with crown := { s.crown with interrupted := [] } }

/-- TAKEOVER_COMPLETE (R501, R502, R505): the standby pair is active, from the checkpoint. -/
def execTakeoverComplete (s : State) : Out :=
  .next (s.running fun s => s.given s.crown.takeover fun s =>
    let u := s.updateState
    let s1 := ({ s with crown := { s.crown with
        takeover := false
        active := if u = 4 then s.crown.standby else s.crown.active } }.wr 0x10 F.crn0_CROWN_STATUS_ACTIVE_PAIR
      (1 - s.rd 0x10 F.crn0_CROWN_STATUS_ACTIVE_PAIR)).bump 0x10 F.crn0_CROWN_STATUS_TAKEOVERS
    let s2 := (setStandby 0 (showFirmware s1)).vector 12
    let s3 := if u = 1 ∨ u = 2 then endUpdate 0x0A 0 0 s2
      else if u = 4 then (endUpdate 0x0C 0 0 s2).raise 0x10 6 else s2
    doeServe (pumpCrown (failoverEpoch (failoverLoad (failoverStage s3)))))

end Sys2Proof.Machine
end

