-- ==== Sys2Proof/Machine/BlockReset.lean ====
section
/-! DEFINITION. The block reset (R45, R427, R459 to R461, R538), and the ends of wakes, at which a held one starts. -/

namespace Sys2Proof.Machine

/-- R45: IDN, CAP, GNT, MTN and CNT pages ignore BLOCK_RESET, as absent pages do. -/
def resettable (page : Nat) : Bool :=
  present page && !(decide (page ≤ 0x00F) || decide (0x020 ≤ page ∧ page ≤ 0x03F) || decide (0x1000 ≤ page))

/-! ## Frames inside a block (R538, R471) -/

/-- The frames that are inside a page's block on their way in: in a Cuff, a Knuckle engine or its wait, an ingress slice, a
merge group's store, or a bank group of the Palm. -/
def State.framesInside (s : State) (page : Nat) : List Nat :=
  (s.palm.frames.filter fun p =>
    if 0xC00 ≤ page ∧ page ≤ 0xFFF then p.2.stage == .fifo && prt p.2.port == page
    else if 0x440 ≤ page ∧ page ≤ 0x45F then ucsPage p.2.slice == page && (match p.2.stage with
      | .waiting _ => true
      | .running _ => true
      | _ => false)
    else if 0x400 ≤ page ∧ page ≤ 0x41F then 0x400 + p.2.slice == page && (p.2.stage == .decided || p.2.stage == .emitted)
    else if 0x100 ≤ page ∧ page ≤ 0x13F then (s.merge (page - 0x100)).held.any fun h => h.frame == p.1
    else if 0x480 ≤ page ∧ page ≤ 0x4A3 then p.2.stage == .stored && p.2.cells.any fun b => bufg b == page
    else false).map (·.1)

/-- The replicas inside a page's block on their way out: in an egress slice, a release group or a port. -/
def State.replicasInside (s : State) (page : Nat) : List Nat :=
  (s.palm.replicas.filter fun p =>
    if 0x420 ≤ page ∧ page ≤ 0x43F then 0x420 + sliceOf p.2.port == page
    else if 0x140 ≤ page ∧ page ≤ 0x23F then p.2.releaseOf == page - 0x140 + 1
    else if 0xC00 ≤ page ∧ page ≤ 0xFFF then prt p.2.port == page && p.2.phase == 3
    else false).map (·.1)

/-- A replica lost to a block reset: recorded as a frame dropped at ingress (R471); in transmission, it ends stomped. Its
REASON is the DROP_REASON its metadata holds: R362 has no code for this drop. -/
def cutReplica (id : Nat) (s : State) : State :=
  s.onReplica id fun r f s =>
    if r.phase = 3 then stompReplica id false s else dropReplica id (mdGet f.md 0x43 1) true s
/-- A frame lost to a block reset, with every replica of it. -/
def cutFrame (id : Nat) (s : State) : State :=
  s.onFrame id fun f s =>
    if f.stage == .stored then (s.replicasOf id).foldl (fun t k => cutReplica k t) s
    else dropAtIngress id (mdGet f.md 0x43 1) (forgetHeld id s)
def cutInside (page : Nat) (s : State) : State :=
  (s.replicasInside page).foldl (fun t k => cutReplica k t) ((s.framesInside page).foldl (fun t k => cutFrame k t) s)

/-! ## The work of a block (R538) -/

/-- The ports of an octet fall, and its lanes go QUIET. -/
def cutOctet (o : Nat) (s : State) : State :=
  (s.portsOfOctet o).foldl (fun t p => quietPort p ((setStep p 0 (leaveUp p t)).wr (prt p) F.prt_LINK_STATUS_PARTNER 0)) s

/-- R538: the work in progress of Crown, capping, Hatband and the stamps ends. -/
def endControl (page : Nat) (s : State) : State :=
  if page = 0x010 then
    { (if s.standbyState = 2 then setStandby 1 s else s) with
      crown := { s.crown with load := none, update := none, doe := none } }
  else if page = 0x012 then { s with crown := { s.crown with posted := [], fetched := [] } }
  else if page = 0x040 then
    { s with pwc := { s.pwc with
      cap := none, held := [], critical := false, down := 0, up := 0, unmet := 0, met := 0, limit := 2, forced := false
      rMax := 0, paceMax := 0, reasons := 0, before := 0, next := none, calAt := 0, since := s.mono, due := [], spent := [] } }
  else if page = 0x050 then
    let t := enterHoldover (breakAgreement (stopSlew s))
    { t with hat := { t.hat with bandStopped := true } }
  else if page = 0x051 then { s with hat := { s.hat with refs := [] } }
  else if page = 0x052 then { s with hat := { s.hat with pps := [] } }
  else if page = 0x055 then { s with hat := { s.hat with members := [], helloSeqs := [], switchPending := false } }
  else if page = 0x058 then { s with stamps := { s.stamps with applying := none } }
  else s

/-- R538: the work in progress of the ledger, Visor, the header rings, merge and release groups ends. -/
def endRecords (page : Nat) (s : State) : State :=
  if page = 0x070 then
    { s with ldg := { s.ldg with
      formed := []
      signing := []
      startDue := false
      streams := s.ldg.streams.map fun p => (p.1, ({ held := p.2.held, offAt := p.2.offAt } : Stream)) } }
  else if page = 0x071 then { s with ldg := { s.ldg with selAt := none } }
  else if page = 0x072 then { s with ldg := { s.ldg with exports := [] } }
  else if page = 0x0B0 then
    { s with vsr := { s.vsr with due := none, late := false, once := false, after := [], image := none, slow := false, seq := 0, kept := [] } }
  else if 0x0D0 ≤ page ∧ page ≤ 0x0DF then s.putHring (page - 0x0D0) {}
  else if 0x100 ≤ page ∧ page ≤ 0x13F then
    let m := s.merge (page - 0x100)
    s.putMerge (page - 0x100) { m with
      frontier := none
      closing := false
      emittedIn := none
      disabledIn := none
      last := none }
  else if 0x140 ≤ page ∧ page ≤ 0x23F then putBatches (page - 0x140) [] (s.putRel (page - 0x140) { s.rel (page - 0x140) with held := [] })
  else s

/-- R538: a slice's engines end what they do, and a load in STAGING. -/
def endStore (g : Nat) (s : State) : State :=
  let t := s.putStore g { s.store g with loading := none }
  let u := { t with ucs := { t.ucs with lines := t.ucs.lines.filter fun p => p.1 / 3 != g } }
  if u.ucsState g = 2 then setUcsState g 5 u else u

/-- R538: the work in progress of sessions, tables and control stores ends. -/
def endTables (page : Nat) (s : State) : State :=
  if page = 0x240 then { s with ses := { s.ses with buffer := [], requests := [], deferred := [] } }
  else if page = 0x300 then (if s.tbl.journal.phase ≥ 2 then s else discardEpoch s)
  else if page = 0x301 then { s with tbl := { s.tbl with learns := [] } }
  else if 0x310 ≤ page ∧ page ≤ 0x31F then showCq (page - 0x310) (s.putCq (page - 0x310) {})
  else if 0x440 ≤ page ∧ page ≤ 0x45F then endStore (page - 0x440) s
  else s

/-- R538: the work in progress of octets, lanes and ports ends. -/
def endPorts (page : Nat) (s : State) : State :=
  if 0x580 ≤ page ∧ page ≤ 0x5FF then cutOctet (page - 0x580) s
  else if 0x800 ≤ page ∧ page ≤ 0xBFF then
    let l := page - 0x800
    lockLoss l false { s with stamps := { s.stamps with lanes := s.stamps.lanes.del l } }
  else if 0xC00 ≤ page ∧ page ≤ 0xFFF then
    let p := page - 0xC00
    if s.configured p then quietPort p (setStep p 0 (leaveUp p s)) else s
  else s

/-- R538: the work in progress in a page's block ends. -/
def endWork (page : Nat) (s : State) : State := endPorts page (endTables page (endRecords page (endControl page s)))

/-- R538: once the reset is over, the block's logic starts anew from the configuration it has kept. -/
def restartWork (page : Nat) (s : State) : State :=
  let ladder (t : State) (p : Nat) : State := if t.on (prt p) F.prt_PORT_CTRL_ENABLE then startLadder p t else t
  if page = 0x050 then { s with hat := { s.hat with bandStopped := false } }
  else if page = 0x051 then
    (List.range 16).foldl (fun t e => if t.enabledRef e then
      t.putQ e (if t.follower && !t.isPtpRef e then 5 else if t.silentRef e then 1 else 2) else t) s
  else if page = 0x070 then
    (if s.on 0x70 F.ldg0_LDG_CFG_ENABLE && s.on 0x340 F.ddr0_DDR_STATUS_AVAILABLE then startRun s else s)
  else if 0x100 ≤ page ∧ page ≤ 0x13F then
    (if s.on page F.mrg_MRG_CFG_ENABLE then refreshPaces (mergeEnable (page - 0x100) s) else s)
  else if 0x140 ≤ page ∧ page ≤ 0x23F then (if s.on page F.rel_REL_CFG_ENABLE then relEnable (page - 0x140) s else s)
  else if 0x500 ≤ page ∧ page ≤ 0x507 then s.wr page F.til_TILE_STATUS_MANAGER_RUNNING 1
  else if 0x580 ≤ page ∧ page ≤ 0x5FF then (s.portsOfOctet (page - 0x580)).foldl ladder s
  else if 0x800 ≤ page ∧ page ≤ 0xBFF then showEq (page - 0x800) s
  else if 0xC00 ≤ page ∧ page ≤ 0xFFF then (if s.configured (page - 0xC00) then ladder s (page - 0xC00) else s)
  else s

/-! ## The reset -/

/-- The reset starts: its quench window and its count (R459, R461), the frames and the work that end, and the fields that take
their reset values. -/
def startReset (page window : Nat) (s : State) : State :=
  clearStatus page (endWork page (cutInside page (countReset page (openQuench page window s))))

/-- The block's domain is ACTIVE (R427). -/
def State.pageActive (s : State) (page : Nat) : Bool :=
  match domainServing page with
  | some d => (s.dom d).current == 0 && (s.dom d).trans == 0
  | none => true

/-- R45, R427: BLOCK_RESET written 1; a block whose domain is not ACTIVE resets when that next is. -/
def blockReset (page : Nat) (s : State) : State :=
  s.given (resettable page && !s.resetBusy page) fun s =>
    let s1 := s.set1 page F.hdr_PAGE_STATUS_RESET_BUSY
    let window := s.rd page F.hdr_QUENCH_CFG_WINDOW
    if s1.pageActive page then startReset page window s1
    else { s1 with boot := { s1.boot with waiting := s1.boot.waiting ++ [(page, window)] } }

/-- BLOCK_RESET (R45, R538): a write of the header. -/
def execBlockReset (page : BitVec 14) (s : State) : Out := .next (s.headerWrite page.toNat 0x010 (blockReset page.toNat))

/-- BLOCK_RESET_COMPLETE (R45). -/
def execBlockResetComplete (page : BitVec 14) (s : State) : Out :=
  .next (s.running fun s =>
    s.given (s.on page.toNat F.hdr_PAGE_STATUS_RESET_BUSY && !s.boot.waiting.any fun w => w.1 == page.toNat) fun s =>
      restartWork page.toNat (s.wr page.toNat F.hdr_PAGE_STATUS_RESET_BUSY 0))

/-! ## Resets held until a domain is ACTIVE (R427) -/

/-- R50, R427: a held reset starts when its domain is ACTIVE, with the WINDOW that held when it was written. -/
def startHeld (s : State) : State :=
  (s.boot.waiting.filter fun w => s.pageActive w.1).foldl (fun t w =>
    startReset w.1 w.2 { t with boot := { t.boot with waiting := t.boot.waiting.filter fun x => x.1 != w.1 } }) s

/-- CLOCK_GATE (R412): a domain in IDLE gates its clock after 64 cycles without demand, and ungates it on any demand. -/
def execClockGate (domain : Fin 209) (demand : Bool) (s : State) : Out :=
  let x := s.dom domain.val
  .next (s.given (x.state == 1 && x.trans == 0) fun s => startHeld (s.putDom domain.val { x with gated := !demand }))

/-- WAKE_STAGE_COMPLETE (R422, R426). -/
def execWakeStageComplete (domain : Fin 209) (lost : List LostBank) (s : State) : Out :=
  .next (s.given ((s.dom domain.val).trans == 2) fun s => startHeld (stageEnds domain.val lost s))

/-- REINIT_COMPLETE (R423, R426). -/
def execReinitComplete (domain : Fin 209) (s : State) : Out :=
  let d := domain.val
  let x := s.dom d
  .next (s.given (x.trans == 2 && x.stage == 5 && !(decide (196 ≤ d) && s.dram.training.contains (d - 196))) fun s =>
    startHeld (wakeEnds d (if x.fromOff || x.redo then reinit d s else s)))

end Sys2Proof.Machine
end

