-- ==== Sys2Proof/Machine/Capping.lean ====
section
/-! DEFINITION. Power capping, droop and temperature (spec/14): the estimator period, caps, voltage steps, calibration,
droop, thermal samples. -/

namespace Sys2Proof.Machine

/-! ## Cap writes and release windows (R441) -/

/-- CAP_CFG written: GAIN at once; CAP_W and ENABLE become pending. -/
def writeCap (data : Nat) (s : State) : State :=
  let w := max 350 (min 1100 (bits data 16 11))
  let s1 := ((s.wr 0x40 F.pwc0_CAP_CFG_ENABLE data).wr 0x40 F.pwc0_CAP_CFG_GAIN (data / 256)).wr 0x40 F.pwc0_CAP_CFG_CAP_W w
  { s1 with pwc := { s1.pwc with cap := some (if data.testBit 0 then w else 1100, s.mono) } }.wr 0x40
    F.pwc0_CAP_STATUS_CAP_PENDING 1
/-- CAP_WRITE (R441). -/
def execCapWrite (data : Word) (s : State) : Out := .next (s.written 0x40 fun s => writeCap data.toNat s)

/-- R449: a release window opens in this cycle. -/
def State.windowComes (s : State) : Bool := s.pending.any fun c => match c with | .releaseWindowOpen _ => true | _ => false

/-- R441, R449: at a period boundary, an instant on the clock that no step of TIME moves, the pending cap takes force, unless a
window is open or opens; once it has been pending for 10,000,000 ns even so, with cause 8, and the slices with a window keep their
ratio. -/
def capBoundary (boundary : T80) (s : State) : State :=
  match s.pwc.cap with
  | none => s
  | some (w, at_) =>
    let long := decide (boundary ≥ at_ + ns 10000000)
    let s1 := if long then s.raise 0x40 8 else s
    let s2 := { s1 with pwc := { s1.pwc with cap := none } }.wr 0x40 F.pwc0_CAP_STATUS_CAP_PENDING 0 |>.wr 0x40
      F.pwc0_CAP_STATUS_CAP_IN_FORCE w
    if boundary < at_ + ns 256 then s
    else if !s.windowOpen && !(s.windowComes && boundary == s.mono) then s2
    else if long then
      let gs := (List.range 32).filter s1.windowOnSlice
      { s2 with pwc := { s2.pwc with held := gs.foldl (fun m g => SMap.enter m g (s1.ratioOf g)) s2.pwc.held } }
    else s1

/-! ## The estimator period (R432 to R440, R447, R448) -/

/-- R434: the queues are charged for the replicas started, never beyond their slice's energy. -/
def chargeQueues (parts : List Nat) (s : State) : State :=
  let step (acc : SMap Nat × SMap Nat) (r : Nat × Nat) : SMap Nat × SMap Nat :=
    let slice := sliceOf (r.1 / 16)
    let left := parts.getD slice 0 - acc.2.val 0 slice
    let e := min left (Config.queueCharge s.pwc.weights slice r.2)
    (acc.1.put 0 r.1 ((acc.1.val 0 r.1 + e) % 2 ^ 64), acc.2.put 0 slice (acc.2.val 0 slice + e))
  { s with pwc := { s.pwc with
    queueEnergy := (s.pwc.started.foldl step (s.pwc.queueEnergy, [])).1
    started := [] } }

/-- R434: Q_ENERGY of the queue that Q_SEL names. -/
def showQEnergy (port queue : Nat) (s : State) : State :=
  ((s.wr 0x41 F.pwc1_Q_SEL_PORT port).wr 0x41 F.pwc1_Q_SEL_QUEUE queue).wr 0x41 F.pwc1_Q_ENERGY
    (if queue ≤ 9 then s.pwc.queueEnergy.val 0 (port * 16 + queue) else 0)

/-- R435: the limits in mW, CAP_T as of a boundary: CAP, thermal, current. -/
def State.limits (s : State) (boundary p coreMw : Nat) : Nat × Nat × Nat :=
  let capT := if s.pwc.capTAt < boundary then s.rd 0x40 F.pwc0_LIMITS_CAP_T else s.pwc.capTOld
  (1000 * s.rd 0x40 F.pwc0_CAP_STATUS_CAP_IN_FORCE, 1000 * capT,
    1000 * p + s.rd 0x40 F.pwc0_ICC_CFG_ICC_LIMIT_A * s.rd 0x40 F.pwc0_VOLT_STATUS_SETPOINT_MV - coreMw)
/-- R435: C and the code of LIMIT. -/
def limitOf (cap capT capI : Nat) : Nat × Nat :=
  let c := min cap (min capT capI)
  (c, if capT = c then 2 else if capI = c then 3 else 1)
/-- R436: the ratio of the period that begins. -/
def nextRatio (gain r p c : Nat) : Nat :=
  let delta : Int := Int.tdiv ((max 1 gain * 16 : Nat) * (((1000 * p : Nat) : Int) - (c : Nat))) (c : Nat)
  (max 0 (min 128 ((r : Int) + delta))).toNat

/-- R438: more than half of the bubbles owed in the period that ends at an instant lapsed on some slice. -/
def State.lapsed (s : State) (t : T80) : Bool :=
  (List.range 32).any fun g => let o := s.dueBy t g; decide (o < 2 * (o - s.pwc.spent.val 0 g))

/-- R447: REMOTE_PACE holds. -/
def State.remotePace (s : State) : Bool :=
  ((List.range 64).any fun g => s.on (mrgPage g) F.mrg_MRG_STATUS_ENABLED &&
    decide (s.rd (mrgPage g) F.mrg_MRG_STATUS_H_EFF > s.rd (mrgPage g) F.mrg_MRG_CFG_H ∧ s.mergePace g > s.ownPace)) ||
  ((List.range 256).any fun g => s.on (relPage g) F.rel_REL_STATUS_ENABLED &&
    decide (s.rd (relPage g) F.rel_RELEASE_INFO_D_EFF > s.rd (relPage g) F.rel_REL_DELAY_D ∧ s.groupPace > s.ownPace))

/-- R447: the reason of a LIMIT while R is above 0. -/
def reasonOf (code : Nat) : Nat := match code with | 2 => 2 | 3 => 3 | _ => 0
/-- R447: the period that ended is credited, and the reasons of the one that begins hold. -/
def credit (new_ : Nat) (s : State) : State :=
  let s1 := (List.range 5).foldl (fun t r =>
    if t.pwc.reasons.testBit r then
      let u := t.wri 0x43 F.pwc3_THROTTLE_NS r ((t.rdi 0x43 F.pwc3_THROTTLE_NS r + 2048) % 2 ^ 64)
      if t.pwc.before.testBit r then u else u.bumpi 0x43 F.pwc3_THROTTLE_ENTRIES r
    else t) s
  let s2 := { s1 with pwc := { s1.pwc with
    before := s1.pwc.reasons
    reasons := new_ } }
  if new_ = s.pwc.reasons then s2 else s2.vector 41
/-- A reason arises within the period. -/
def addReason (r : Nat) (s : State) : State :=
  if s.pwc.reasons.testBit r then s
  else { s with pwc := { s.pwc with reasons := s.pwc.reasons + 2 ^ r } }.vector 41

/-- R439: a step of VDD_CORE is requested when its count is full. -/
def stepVoltage (s : State) : State :=
  let v := s.rd 0x40 F.pwc0_VOLT_STATUS_SETPOINT_MV
  let ask (up : Bool) (s : State) : State :=
    queueAvs (.cap up) ({ s with pwc := { s.pwc with
      down := 0
      up := 0 } }.wr 0x40 F.pwc0_VOLT_STATUS_STEP_BUSY 1)
  if s.on 0x40 F.pwc0_VOLT_STATUS_STEP_BUSY then s
  else if s.pwc.down ≥ 16 ∧ v > s.rd 0x40 F.pwc0_VOLT_CFG_VDD_FLOOR_MV ∧ !s.windowOpen then ask false s
  else if s.pwc.up ≥ 1024 ∧ v < s.rd 0x40 F.pwc0_VOLT_CFG_VDD_NOM_MV then ask true s
  else s

/-- R440: CAP_UNMET. `above`: P above C in the period that ended; `floor_`: it was at the lowest point. -/
def capUnmet (above floor_ : Bool) (s : State) : State :=
  let u := if above && floor_ then s.pwc.unmet + 1 else 0
  let m := if above then 0 else s.pwc.met + 1
  let s1 := { s with pwc := { s.pwc with
    unmet := u
    met := m } }
  if u ≥ 16 ∧ !s.on 0x40 F.pwc0_CAP_STATUS_CAP_UNMET then ((s1.wr 0x40 F.pwc0_CAP_STATUS_CAP_UNMET 1).raise 0x40 0).vector 40
  else if m ≥ 16 ∧ s.on 0x40 F.pwc0_CAP_STATUS_CAP_UNMET then (s1.wr 0x40 F.pwc0_CAP_STATUS_CAP_UNMET 0).vector 40
  else s1

/-- R448: the pace of the period that ended. -/
def paceNow (base rMax : Nat) : Nat := min 65535 ((base * 256 + (256 - rMax) - 1) / (256 - rMax))

/-- ESTIMATOR_PERIOD (R432 to R440, R447): a period ends with these energies of the partitions in nJ, and this share of
them on VDD_CORE. -/
def periodEnds (parts : List Nat) (core : Nat) (s : State) : State :=
  let boundary := s.nowNs / 2048 * 2048
  let at_ := s.mono - (s.now - boundary * nsUnits)
  let p := parts.sum / 2048
  let coreMw := core * 1000 / 2048
  let mv := s.rd 0x40 F.pwc0_VOLT_STATUS_SETPOINT_MV
  let rOld := s.rd 0x40 F.pwc0_CAP_STATUS_RATIO
  let lapsed := s.lapsed at_
  let floorOld := s.on 0x40 F.pwc0_CAP_STATUS_AT_FLOOR
  let s1 := (List.range 44).foldl (fun t k => t.wri 0x41 F.pwc1_ENERGY k ((t.rdi 0x41 F.pwc1_ENERGY k + parts.getD k 0) % 2 ^ 64)) s
  let s2 := chargeQueues parts s1
  let s3 := capBoundary at_ { s2 with pwc := { s2.pwc with
    weights := s2.pwc.next.getD s2.pwc.weights
    next := none } }
  let (cap, capT, capI) := s3.limits boundary p coreMw
  let (c, limit) := limitOf cap capT capI
  let r := if s3.pwc.forced then 128 else nextRatio (s3.rd 0x40 F.pwc0_CAP_CFG_GAIN) rOld p c
  let l0 := s3.rd 0x40 F.pwc0_CAP_STATUS_LEVEL
  let l := if s3.pwc.forced then 6 else if lapsed then min 6 (l0 + 1) else if s3.pwc.rMax = 0 then l0 - 1 else l0
  let code := if r = 0 then 0 else limit
  let was := s3.rd 0x40 F.pwc0_CAP_STATUS_LIMIT
  let held := if code = 2 ∨ code = 3 then [] else s3.pwc.held.filter fun h => s3.windowOnSlice h.1
  let pace := paceNow (s3.rd 0x40 F.pwc0_PACE_CFG_PACE_BASE_NS) s3.pwc.rMax
  let s4 := { s3 with pwc := { s3.pwc with
    since := at_
    due := []
    spent := []
    held := held
    limit := limit
    forced := false
    down := if rOld ≥ s3.rd 0x40 F.pwc0_VOLT_CFG_VSTEP_R then s3.pwc.down + 1 else 0
    up := if rOld = 0 ∧ 100000 * p ≤ 95 * c then s3.pwc.up + 1 else 0
    paceMax := max s3.pwc.paceMax pace
    rMax := (held.map (·.2)).foldl max r } }
  let vals : List (Fld × Nat) :=
    [(F.pwc0_CAP_STATUS_P_EST_W, sat 11 p), (F.pwc0_LIMITS_ICORE_A, sat 10 (if mv = 0 then 0 else coreMw / mv)),
     (F.pwc0_LIMITS_CAP_I, sat 11 (capI / 1000)), (F.pwc0_CAP_STATUS_RATIO, r), (F.pwc0_CAP_STATUS_LEVEL, l),
     (F.pwc0_CAP_STATUS_LIMIT, code), (F.pwc0_PACE_STATUS_PACE_NOW, pace)]
  let s5 := refreshFloor (vals.foldl (fun t v => t.wr 0x40 v.1 v.2) s4)
  let s6 := if code = 3 ∧ was ≠ 3 then s5.raise 0x40 5 else s5
  let reasons := (if code = 0 then 0 else 2 ^ reasonOf code) + (if s6.remotePace then 16 else 0)
  stepVoltage (capUnmet (decide (1000 * p > c)) floorOld (credit reasons s6))
def execEstimatorPeriod (parts : List Nat) (core : Nat) (s : State) : Out :=
  .next (s.running fun s => s.given (decide (parts.length = 44 ∧ core ≤ parts.sum)) (·.periodic 8 2048 (periodEnds parts core)))

/-! ## Calibration (R433) -/

/-- A write of CAL_CMD.START. -/
def calStart (s : State) : State :=
  if s.rd 0x40 F.pwc0_CAL_STATUS_STATE = 1 then s
  else { s with pwc := { s.pwc with calAt := s.mono } }.wr 0x40 F.pwc0_CAL_STATUS_STATE 1
/-- POWER_CAL_START (R433). -/
def execPowerCalStart (s : State) : Out := .next (s.written 0x40 fun s => calStart s)

/-- POWER_CAL_COMPLETE (R433): the fit's RMS residual in units of 0.1 % of the mean power. -/
def execPowerCalComplete (residual : Nat) (s : State) : Out :=
  .next (s.running fun s =>
    s.given (s.rd 0x40 F.pwc0_CAL_STATUS_STATE == 1 && decide (s.pwc.calAt + ns 60000000000 ≤ s.mono)) fun s =>
      let s1 := s.wr 0x40 F.pwc0_CAL_STATUS_RESIDUAL (sat 8 residual)
      if residual ≤ 30 then
        (({ s1 with pwc := { s1.pwc with
          fits := s1.pwc.fits + 1
          next := some (s1.pwc.fits + 1)
          saved := some (s1.pwc.fits + 1) } }.wr 0x40 F.pwc0_CAL_STATUS_STATE 2).wr 0x40 F.pwc0_CAP_STATUS_UNCALIBRATED 0).vector 44
      else ((s1.wr 0x40 F.pwc0_CAL_STATUS_STATE 3).raise 0x40 6).vector 44)

/-- USE_FUSED (R433): the fused weights return at the next boundary. -/
def useFused (s : State) : State :=
  ({ s with pwc := { s.pwc with next := some 0 } }.wr 0x40 F.pwc0_CAP_STATUS_UNCALIBRATED 1).wr 0x40 F.pwc0_CAL_STATUS_STATE
    (if s.rd 0x40 F.pwc0_CAL_STATUS_STATE = 1 then 1 else 0)
def execUseFused (s : State) : Out := .next (s.written 0x40 fun s => useFused s)

/-! ## Droop (R442, R443) -/

/-- DROOP_CROSSING (R442): a detector fires, and the stretcher lengthens this many cycles. -/
def execDroopCrossing (detector : Fin 64) (stretched : Nat) (s : State) : Out :=
  .next (s.running fun s =>
    let s1 := s.setBit 0x42 F.pwc2_DROOP_SEEN detector.val
    if stretched = 0 then s1
    else addReason 1 ((s1.bump 0x42 F.pwc2_DROOP_COUNTS_STRETCHES stretched).count 0x0A09 0 stretched))

/-- DROOP_OVERRUN (R443): R is 128 and L is 6 on every slice for the rest of the period and the whole of the next; LIMIT then names
what gives C (R450). -/
def overrun (s : State) : State :=
  let t := rebase s
  let s1 := { t with pwc := { t.pwc with
    held := []
    forced := true
    rMax := 128 } }
  let s2 := refreshFloor (((s1.wr 0x40 F.pwc0_CAP_STATUS_RATIO 128).wr 0x40 F.pwc0_CAP_STATUS_LEVEL 6).wr 0x40
    F.pwc0_CAP_STATUS_LIMIT s.pwc.limit)
  addReason (reasonOf s.pwc.limit) (addReason 1 (((s2.bump 0x42 F.pwc2_DROOP_COUNTS_OVERRUNS).raise 0x40 4).vector 43))
def execDroopOverrun (s : State) : Out := .next (s.running overrun)

/-! ## Temperature (R444 to R446) -/

/-- CAP_T changed at a sample; the value before holds up to the next boundary (R444, R449). -/
def setCapT (v : Nat) (s : State) : State :=
  let old := s.rd 0x40 F.pwc0_LIMITS_CAP_T
  if v = old then s
  else { s with pwc := { s.pwc with
    capTOld := old
    capTAt := s.nowNs } }.wr 0x40 F.pwc0_LIMITS_CAP_T v

/-- The hottest of the sensors that read within -40 to 150 degrees, and its number. -/
def hottest (temps : List (Option Int)) : Option (Int × Nat) :=
  temps.zipIdx.foldl (fun best x => match x.1 with
    | some t => if t < -40 ∨ t > 150 then best else match best with
      | some b => if t > b.1 then some (t, x.2) else best
      | none => some (t, x.2)
    | none => best) none

/-- R444, R445: what a sample of the 48 junction sensors does. -/
def thermalSample (temps : List (Option Int)) (s : State) : State :=
  let bad (x : Option Int) : Bool := match x with | some t => decide (t < -40 ∨ t > 150) | none => true
  let faults := ((List.range 48).filter fun n => bad (temps.getD n none)).map (2 ^ ·)
  let s1 := (List.range 48).foldl (fun t n => match temps.getD n none with
    | some v => if bad (some v) then t else t.wrx 0x42 F.pwc2_TEMP (n / 8) (n % 8) (unsigned 8 v)
    | none => t) (s.wr 0x42 F.pwc2_THERM_STATUS_SENSOR_FAULT (faults.sum : Nat))
  let s2 := if faults.isEmpty then s1 else s1.raise 0x40 7
  match hottest temps with
  | none => s2
  | some (h, n) =>
    let s3 := (s2.wr 0x42 F.pwc2_THERM_STATUS_HOTTEST (unsigned 8 h)).wr 0x42 F.pwc2_THERM_STATUS_HOTTEST_SENSOR n
    let crit : Int := (min 120 (s.rd 0x42 F.pwc2_THERM_CFG_T_CRIT) : Nat)
    let thr : Int := (s.rd 0x42 F.pwc2_THERM_CFG_T_THROTTLE : Nat)
    let st := max 1 (s.rd 0x42 F.pwc2_THERM_CFG_THERM_STEP_W)
    let capT := s.rd 0x40 F.pwc0_LIMITS_CAP_T
    let was := signed 8 (s.rd 0x42 F.pwc2_THERM_STATUS_HOTTEST)
    let begun (t : State) : State := if capT = 1100 then (t.raise 0x40 1).vector 42 else t
    if h > crit then
      let s4 := setCapT 350 { s3 with pwc := { s3.pwc with critical := true } }
      let s5 := s4.raise 0x40 2
      begun (if was > crit then s5 else s5.vector 42)
    else
      let hold := s.pwc.critical && decide (h ≥ crit - 5)
      let s4 := (fun (t : State) => if was > crit then t.vector 42 else t) { s3 with pwc := { s3.pwc with critical := hold } }
      if h > thr then (if capT > 350 then begun (setCapT (max 350 (capT - st)) s4) else s4)
      else if h ≤ thr - 2 ∧ !hold ∧ capT < 1100 then
        let v := min 1100 (capT + st)
        if v = 1100 then (setCapT v s4).vector 42 else setCapT v s4
      else s4
/-- THERMAL_SAMPLE (R444): at each TAI multiple of 32,768 ns. -/
def execThermalSample (temps : List (Option (BitVec 9))) (s : State) : Out :=
  .next (s.running fun s => s.given (decide (temps.length = 48))
    (·.periodic 9 32768 (thermalSample (temps.map fun t => t.map BitVec.toInt))))

/-- THERMTRIP (R446): THERMTRIP_N falls and stays low, and cause 3 latches. -/
def execThermtrip (s : State) : Out :=
  .next (let s1 := if s.pwc.tripped then s else s.send (.pin "THERMTRIP_N" false)
    { s1 with pwc := { s1.pwc with tripped := true } }.raise 0x40 3)

end Sys2Proof.Machine
end

