-- ==== Sys2Proof/Machine/HostLink.lean ====
section
/-! DEFINITION. The host link: training, the HDM range, translations, snoops and PERST_N (R479 to R488, R536). -/

namespace Sys2Proof.Machine

/-! ## Training (R479, R480) -/

/-- R479: the widths and rates of a mode; 2.5 GT/s is for training only. Rates as LINK_STATUS.RATE codes them. -/
def linkValid (cxl : Bool) (width rate : Nat) : Bool :=
  (if cxl then [4, 8] else [1, 4, 8]).contains width && decide (3 ≤ rate ∧ rate ≤ 5)

/-- The link comes up: LINK_STATUS, LINK_MODE, vector 304; LINK_DEGRADED below x8 or 32 GT/s (DEDUCED from its name). CXL.cache
and CXL.mem exist in CXL mode only. The training is the CXL domain's reinitialisation after OFF. -/
def linkUp (cxl : Bool) (width rate : Nat) (cacheEn memEn atsEn : Bool) (s : State) : State :=
  let vals : List (Fld × Nat) :=
    [(F.cxl0_LINK_STATUS_UP, 1), (F.cxl0_LINK_STATUS_MODE, (!cxl).toNat), (F.cxl0_LINK_STATUS_WIDTH, width),
     (F.cxl0_LINK_STATUS_RATE, rate), (F.cxl0_LINK_STATUS_CACHE_EN, (cxl && cacheEn).toNat),
     (F.cxl0_LINK_STATUS_MEM_EN, (cxl && memEn).toNat), (F.cxl0_LINK_STATUS_ATS_EN, atsEn.toNat)]
  let s1 := (vals.foldl (fun t v => t.wr 0x380 v.1 v.2) s).wr 0 F.idn_DEVICE_STATE_LINK_MODE (!cxl).toNat
  let s2 := if (s1.dom 204).trans = 2 ∧ (s1.dom 204).stage = 5 then wakeEnds 204 s1 else recomputeDom 204 s1
  (if width < 8 ∨ rate < 5 then s2.raise 0x380 5 else s2).vector 304

/-- The link can train: PERST_N is high, configuration space answers (R548), and the CXL domain is not asleep (R480). -/
def State.linkTrains (s : State) : Bool :=
  s.boot.power == 2 && s.boot.done.contains 5 && s.crown.perst &&
    (decide ((s.dom 204).state < 2) || (s.dom 204).trans == 2 && (s.dom 204).stage == 5)

/-- HOST_LINK_UP (R480). -/
def execHostLinkUp (cxl : Bool) (width : Fin 9) (rate : Fin 6) (cacheEn memEn atsEn : Bool) (s : State) : Out :=
  .next (s.given (s.linkTrains && !s.hostUp && linkValid cxl width.val rate.val)
    fun s => startHeld (linkUp cxl width.val rate.val cacheEn memEn atsEn s))

/-- R536: host accesses in progress fail, and each ring they concern stops with its fetch error. -/
def cutHost (s : State) : State :=
  let s1 := (List.range 16).foldl (fun t q =>
    if t.on (cqPage q) F.tblq_CQ_CFG_ENABLE && !t.on (cqPage q) F.tblq_CQ_STATUS_STOPPED &&
      !((t.cq q).fetched.isEmpty && (t.cq q).posted.isEmpty) then cutCq q t else t) s
  if s1.on 0x12 F.crn2_CR_CFG_ENABLE && !s1.on 0x12 F.crn2_CR_STATUS_STOPPED && !(s1.crown.fetched.isEmpty && s1.crown.posted.isEmpty)
  then (stopCrownRing s1).raise 0x380 3 else s1

/-- The link is no more up. -/
def linkGone (s : State) : State :=
  cutHost ([F.cxl0_LINK_STATUS_UP, F.cxl0_LINK_STATUS_WIDTH, F.cxl0_LINK_STATUS_RATE, F.cxl0_LINK_STATUS_CACHE_EN,
    F.cxl0_LINK_STATUS_MEM_EN, F.cxl0_LINK_STATUS_ATS_EN].foldl (fun t f => t.wr 0x380 f 0) s)

/-- HOST_LINK_DOWN (R480). -/
def execHostLinkDown (s : State) : Out :=
  .next (s.given s.hostUp fun s =>
    recomputeDom 204 (((linkGone s).bump 0x380 F.cxl0_LINK_STATUS_LINK_DOWNS).raise 0x380 0 |>.vector 304))

/-! ## The HDM range (R483 to R485, R416) -/

/-- The host may use CXL.mem. -/
def State.memEnabled (s : State) : Bool := s.hostUp && s.on 0x380 F.cxl0_LINK_STATUS_MEM_EN
def poisonReply : Output := .reply "HDM_POISON" [2 ^ 512 - 1]

/-- HDM_READ (R484, R526): one line of 64 bytes. -/
def hdmRead (a : Nat) (s : State) : State :=
  let line := a / 64 * 64
  if !(s.inRegion 2 line 64 || s.inRegion 3 line 64) then (recordBad 5 a s).send poisonReply
  else if 2 ≤ (s.dom (196 + s.channelOf line)).state then (recordBad 6 a s).send poisonReply
  else if s.poisoned line 64 then s.send poisonReply
  else s.send (.reply "HDM_DATA" [leVal (s.ddrRead line 64)])
def execHdmRead (address : BitVec 52) (s : State) : Out := .next (s.given s.memEnabled (hdmRead address.toNat))

/-- HDM_WRITE (R484): completed, discarded, recorded, and cause 2. -/
def execHdmWrite (address : BitVec 52) (s : State) : Out :=
  .next (s.given s.memEnabled fun s => ((recordBad 4 address.toNat s).raise 0x380 2).send (.reply "HDM_WRITE_DONE" []))

/-! ## Translations and snoops (R487, R488) -/

/-- ATS_INVALIDATION (R488). -/
def execAtsInvalidation (s : State) : Out :=
  .next (s.given (s.hostUp && s.on 0x380 F.cxl0_LINK_STATUS_ATS_EN) fun s =>
    (s.bump 0x380 F.cxl0_ATS_STATUS_INVALIDATIONS).send (.reply "INVALIDATION_COMPLETION" []))

/-- SNOOP (R487): Skoast keeps no host line. -/
def execSnoop (s : State) : Out :=
  .next (s.given (s.hostUp && s.on 0x380 F.cxl0_LINK_STATUS_CACHE_EN) (·.send (.reply "RspIHitI" [])))

/-! ## PERST_N (R536) -/

/-- Fields of the CXL page that PERST_N leaves: the Sticky ones, and those that report a block reset. -/
def perstKeeps (page bit : Nat) : Bool :=
  stickyAt page bit || (match fieldAt page bit with
    | some f => f == F.hdr_PAGE_STATUS_RESET_BUSY || f == F.hdr_PAGE_STATUS_QUENCH_ACTIVE
    | none => false)

/-- MEM_ACTIVE and SIZE_256M follow DDR5 (R482, R510). -/
def showHdm (s : State) : State :=
  (s.wr 0x380 F.cxl0_HDM_STATUS_MEM_ACTIVE (s.rd 0x340 F.ddr0_DDR_STATUS_AVAILABLE)).wr 0x380 F.cxl0_HDM_STATUS_SIZE_256M
    (4 * s.rd 0x340 F.ddr0_DDR_STATUS_CAPACITY_GIB)

/-- PERST_N falls. -/
def perstFalls (s : State) : State :=
  let s1 := linkGone s
  let s2 := { s1 with
    regs := s1.regs.filter fun p => pageOfKey p.1 != 0x380 || perstKeeps 0x380 (p.1 % 0x8000)
    host := { s1.host with
      unmasked := []
      pba := []
      table := [] }
    crown := { s1.crown with
      perst := false
      doe := none
      doeError := false } }
  recomputeDom 204 (showDom 204 (showHdm s2))

/-- PERST (R536): the pin takes a level; at its rise the link may train. -/
def execPerst (level : Bool) (s : State) : Out :=
  .next (if level then { s with crown := { s.crown with perst := true } }
    else s.given s.crown.perst perstFalls)

end Sys2Proof.Machine
end

