-- ==== Sys2Proof/Machine/Boot.lean ====
section
/-! DEFINITION. Power-up, the warm reset and the boot steps (spec/18_reset_boot.md; R84, R238, R470, R565). -/

namespace Sys2Proof.Machine

/-! ## What resets keep (R537) -/

/-- Sticky fields whose Reset cell reads HW: a power-on reset loads them from MRAM or OTP. -/
def mramFields : Layout → List Fld
  | .hbd8 => [F.hbd8_CAL_RX_TRIM, F.hbd8_CAL_TX_TRIM]
  | .tbl0 => [F.tbl0_EPOCH_STATUS_EPOCH_ID]
  | .tbl1 => [F.tbl1_HASH_SEED]
  | .ldg0 => [F.ldg0_LDG_STATUS_SEALED, F.ldg0_RUN, F.ldg0_ANCHOR_SEQ]
  | .ldgs => [F.ldgs_BLOCK_SEQ, F.ldgs_RECORDS, F.ldgs_LOST, F.ldgs_GAPS]
  | .gnt0 => [F.gnt0_SUMMARY_SELF_PARITY]
  | .gnt1 => [F.gnt1_SCRUB_STATUS_REPAIRS, F.gnt1_SCRUB_STATUS_EXHAUSTED]
  | .crn0 => [F.crn0_CROWN_STATUS_TAKEOVERS, F.crn0_CROWN_STATUS_SWITCHES]
  | _ => []
/-- Fields that a warm reset keeps though they are not Sticky: what reports the host link, which stays up, and FREQ, on
whose rate word TIME keeps counting (R540; DEDUCED). -/
def runningFields : Layout → List Fld
  | .cxl0 => [F.cxl0_LINK_STATUS_UP, F.cxl0_LINK_STATUS_MODE, F.cxl0_LINK_STATUS_WIDTH, F.cxl0_LINK_STATUS_RATE,
      F.cxl0_LINK_STATUS_CACHE_EN, F.cxl0_LINK_STATUS_MEM_EN, F.cxl0_LINK_STATUS_ATS_EN]
  | .idn => [F.idn_DEVICE_STATE_LINK_MODE]
  | .hbd0 => [F.hbd0_FREQ]
  | _ => []
/-- A key of `regs` belongs to one of a page's fields at 0x080 and above. -/
def fieldIn (fields : Layout → List Fld) (key : Nat) : Bool :=
  decide (0x400 ≤ key % 0x8000) && match fieldAt (pageOfKey key) (key % 0x8000) with
    | some f => (fields (layoutOf (pageOfKey key))).contains f
    | none => false
def State.keptRegs (s : State) (keep : Nat → Bool) : SMap Nat := s.regs.filter fun p => keep p.1

/-- SAFE_N and FAULT_N at their levels (R456, R565). -/
def drivePins (s : State) : State := (s.send (.pin "SAFE_N" s.safeN)).send (.pin "FAULT_N" s.faultN)

/-- R535, R571, R572: what a rise of SYS_RST_N samples. With TEST_MODE 0 the TAP's other instructions act as BYPASS. -/
def sampleStraps (gpio0 testMode : Bool) (s : State) : State :=
  { s with boot := { s.boot with
    hostBoot := gpio0
    testMode := testMode
    tapIr := if testMode || s.boot.tapIr == 1 then s.boot.tapIr else 0xFF } }

/-! ## The warm reset (R535, R539, R540, R552) -/

/-- The commit: forwarding, capture and timing outputs stop (R269, R539, R540). -/
def commitReset (s : State) : State :=
  let s1 := stopSlew (stopTraffic { s with boot := { s.boot with quiescing := true, held := false } })
  setClk false none (setPps 1 false 0 (setPps 0 false 0 s1))
/-- R462: in the safe state a reset waits for the fault snapshot, 100 ms at most from the entry. -/
def State.resetWaits (s : State) : Bool :=
  match s.gnt.safe with
  | some e => !s.gnt.snapDone && decide (s.mono < e.since + ns 100000000)
  | none => false
/-- WARM_RESET (R535, R552): one that falls on a reset under way is the same reset. -/
def execWarmReset (s : State) : Out :=
  .next (s.given (s.boot.power == 2 && !s.boot.quiescing) fun s =>
    if s.resetWaits then { s with boot := { s.boot with held := true } } else commitReset s)

/-- R552: training, or the exit from self-refresh, has completed since the last reset. -/
def State.ddrReady (s : State) : Bool :=
  s.boot.done.contains 6 || (s.boot.done.contains 3 && s.boot.done.contains 4 && s.dram.training.isEmpty)
/-- R528, R552: the channels enter self-refresh if they are not in it; what a reset during boot finds not ready is lost. -/
def settleRefresh (s : State) : State :=
  let t := if s.ddrReady && !s.dram.selfRefresh then enterSelfRefresh s else s
  if s.ddrReady && t.dram.selfRefresh then t else
    let u := loseDdr t
    { u with dram := { u.dram with
        used := 0
        selfRefresh := false } }

/-- R537: the warm reset: what it keeps, and everything else as after a power-on reset. -/
def warmState (s : State) : State :=
  let r := State.reset
  { r with
    pending := s.pending
    out := s.out
    free := s.free
    time := s.time
    ticks := s.ticks
    regs := s.keptRegs fun k => stickyAt (pageOfKey k) (k % 0x8000) || fieldIn runningFields k
    ddr := s.ddr
    poison := s.poison
    host := { r.host with unmasked := s.host.unmasked, pba := s.host.pba, table := s.host.table }
    hat := { r.hat with
      stampTq := s.hat.stampTq
      tqChanges := s.hat.tqChanges
      tqPast := s.hat.tqPast
      stepped := s.hat.stepped
      boundary := s.hat.boundary
      todSet := s.hat.todSet
      good := s.hat.good
      hist0 := s.hat.hist0
      hist1 := s.hat.hist1
      histSeq := s.hat.histSeq
      histAt := s.hat.histAt
      bandStopped := true
      timeStopped := s.hat.timeStopped }
    stamps := { r.stamps with cal := s.stamps.cal, applied := s.stamps.applied }
    ucs := { r.ucs with
      kept := s.ucs.kept
      stores := s.ucs.stores.map fun p => (p.1, ({ patches := p.2.patches } : Store)) }
    tbl := { r.tbl with
      journal := s.tbl.journal
      listEmt := s.tbl.listEmt
      listLpa := s.tbl.listLpa
      listCla := s.tbl.listCla
      shEmt := s.tbl.shEmt
      shLpa := s.tbl.shLpa
      shCla := s.tbl.shCla }
    ldg := { r.ldg with journal := s.ldg.journal }
    pwc := { r.pwc with saved := s.pwc.saved, fits := s.pwc.fits, tripped := s.pwc.tripped }
    gnt := { r.gnt with
      slot0 := s.gnt.slot0
      slot1 := s.gnt.slot1
      snapSeq := s.gnt.snapSeq
      repairs := s.gnt.repairs
      spareRows := s.gnt.spareRows
      wear := s.gnt.wear }
    crown := { r.crown with
      revoked := s.crown.revoked
      floor := s.crown.floor
      chain := s.crown.chain
      flash := s.crown.flash
      bundles := s.crown.bundles
      perst := s.crown.perst
      doeError := s.crown.doeError }
    dram := { r.dram with used := s.dram.used, selfRefresh := s.dram.selfRefresh, speed := s.dram.speed }
    boot := { r.boot with warm := true, tapIr := s.boot.tapIr } }

/-- WARM_RESET_APPLY (R539): a reset that the safe state held is first committed. -/
def execWarmResetApply (gpio0 testMode : Bool) (s : State) : Out :=
  let s0 := if s.boot.held && !s.resetWaits then commitReset s else s
  .next (if s0.boot.quiescing then drivePins (sampleStraps gpio0 testMode (warmState (settleRefresh s0))) else s)

/-! ## Power (R533 to R537, R565) -/

/-- VDD_AON_UP (R565). -/
def execVddAonUp (s : State) : Out :=
  .next (s.given (s.boot.power == 0) fun s => drivePins { s with boot := { s.boot with power := 1 } })

/-- POWER_ON_RESET (R535, R565). -/
def execPowerOnReset (gpio0 testMode : Bool) (s : State) : Out :=
  .next (s.given (s.boot.power == 1) fun s =>
    drivePins (sampleStraps gpio0 testMode { s with boot := { s.boot with power := 2 } }))

/-- R537: what a loss of power leaves: MRAM, OTP and the flash. -/
def unpowered (s : State) : State :=
  let r := State.reset
  { r with
    pending := s.pending
    out := s.out
    free := s.free
    regs := s.keptRegs (fieldIn mramFields)
    hat := { r.hat with hist0 := s.hat.hist0, hist1 := s.hat.hist1, histSeq := s.hat.histSeq }
    stamps := { r.stamps with cal := s.stamps.cal }
    ucs := { r.ucs with kept := s.ucs.kept }
    tbl := { r.tbl with journal := s.tbl.journal }
    ldg := { r.ldg with journal := s.ldg.journal }
    pwc := { r.pwc with saved := s.pwc.saved, fits := s.pwc.fits }
    gnt := { r.gnt with
      slot0 := s.gnt.slot0
      slot1 := s.gnt.slot1
      snapSeq := s.gnt.snapSeq
      repairs := s.gnt.repairs
      spareRows := s.gnt.spareRows
      wear := s.gnt.wear }
    crown := { r.crown with
      revoked := s.crown.revoked
      floor := s.crown.floor
      chain := s.crown.chain
      flash := s.crown.flash
      perst := s.crown.perst }
    boot := { r.boot with power := 0 } }

/-- POWER_REMOVAL (R534): held in reset for 2,000,000 ns first, the device quiesces as before a warm reset. -/
def execPowerRemoval (hold : Bool) (s : State) : Out :=
  .next (s.given (s.boot.power != 0) fun s =>
    unpowered (if hold && s.boot.power == 2 && !s.boot.quiescing then commitReset s else s))

/-! ## Boot steps 1 to 6 (R84, R473, R547, R548) -/

/-- R548: the steps that each step needs. -/
def bootNeeds : Nat → List Nat
  | 2 => [1] | 3 => [2] | 4 => [2] | 5 => [3] | 6 => [3, 4] | 7 => [4] | 8 => [7] | 9 => [6, 7] | 10 => [9] | 11 => [9]
  | 12 => [7] | 13 => [4, 7] | 14 => [6, 7, 13] | 15 => [4, 7] | 16 => [8, 9, 10, 11, 12, 13, 14, 15] | _ => []
def stepDone (n : Nat) (s : State) : State := { s with boot := { s.boot with done := n :: s.boot.done } }

/-- R23, R547: tiles, octets and lanes of a side without reference report it. -/
def sideAbsent (side : Nat) (s : State) : State :=
  (List.range 4).foldl (fun t k =>
    let tile := 4 * side + k
    (List.range 16).foldl (fun u j =>
      let o := 16 * tile + j
      (List.range 8).foldl (fun v i => v.wr (lan (8 * o + i)) F.lan_LANE_STATUS_REF_ABSENT 1)
        (u.wr (oct o) F.oct_OCT_STATUS_REF_ABSENT 1)) (t.wr (0x500 + tile) F.til_TILE_STATUS_REF_ABSENT 1)) s
/-- Step 3: the references; TIME counts. -/
def stepRefs (refA refB : Bool) (s : State) : State :=
  let s1 := if refA then s else sideAbsent 0 s
  let s2 := if refB then s1 else sideAbsent 1 s1
  { s2 with hat := { s2.hat with timeStopped := false } }.wr 0x00 F.idn_DEVICE_STATE_REF_ABSENT (!refA && !refB).toNat

/-- R84: the history slots. Only a power-up loads a record. -/
def loadHistory (bad : Nat) (s : State) : State :=
  let sound (slot : Nat) (h : Option HistRec) : Option HistRec := if bad.testBit slot then none else h.filter HistRec.passes
  let h0 := sound 0 s.hat.hist0
  let h1 := sound 1 s.hat.hist1
  let failed := h0 != s.hat.hist0 || h1 != s.hat.hist1
  let s1 := (({ s with hat := { s.hat with hist0 := h0, hist1 := h1 } }.wr 0x53 F.hbd3_HIST_STATUS_SLOT0_VALID
    h0.isSome.toNat).wr 0x53 F.hbd3_HIST_STATUS_SLOT1_VALID h1.isSome.toNat).wr 0x53 F.hbd3_HIST_STATUS_WRITES s.hat.histSeq
  let s2 := if failed then s1.raise 0x50 6 else s1
  let latest := match h0, h1 with
    | some a, some b => some (if a.seq ≥ b.seq then a else b)
    | some a, none => some a
    | none, x => x
  if s.boot.warm || !s.on 0x53 F.hbd3_HIST_CTRL_ENABLE then s2
  else match latest with
    | none => s2
    | some r =>
      let vals : List (Fld × Nat) :=
        [(F.hbd3_HIST_STATUS_LOADED, 1), (F.hbd3_HIST_STATUS_SLOPE_VALID, r.slopeValid.toNat), (F.hbd3_HIST_FREQ, r.freq),
         (F.hbd3_HIST_SLOPE, r.slope)]
      let s3 := (vals.foldl (fun t v => t.wr 0x53 v.1 v.2) s2).wrPair 0x53 F.hbd3_HIST_TIME_NS F.hbd3_HIST_TIME_FRAC r.at_
      (s3.wr 0x50 F.hbd0_FREQ r.freq).wr 0x50 F.hbd0_SERVO_STATUS_HIST_LOADED 1
/-- Step 4: MRAM. The repair table takes its spare rows again (R473); trims and history load (R84, R127). -/
def stepMram (bad : Nat) (s : State) : State :=
  let rows : SMap Nat := s.gnt.repairs.foldl (fun m p => SMap.put 0 m p.1 (SMap.val 0 m p.1 + 1)) []
  let s1 := { s with gnt := { s.gnt with spareRows := rows } }.wr 0x21 F.gnt1_SCRUB_STATUS_REPAIRS s.gnt.repairs.length
  loadHistory bad (loadTrims s1.refreshSnap)

/-- DDR5 starts once steps 3 and 4 are done (R523); without any reference it is not trained (R547). -/
def startDdr (dimms : List (Option Dimm)) (s : State) : State :=
  let s1 := readPopulation dimms s
  let s2 := if s1.on 0x00 F.idn_DEVICE_STATE_REF_ABSENT then
      { s1 with dram := { s1.dram with
        training := []
        full := true
        trained := []
        failed := []
        used := 0
        intact := false
        selfRefresh := false } }
    else startTraining s1
  if s2.dram.training.isEmpty then settleDdr s2 else s2

/-! ## Steps 7 and 9 to 11 (R238, R543, R545, R546, R550) -/

/-- R543, R545: the images that the ROM verifies, and whether they come from DDR5. -/
def State.bootImages (s : State) : List (Nat × List Byte) × Bool :=
  let held := s.crown.bundles
  if s.boot.warm && s.on 0x340 F.ddr0_DDR_STATUS_WARM_RETAINED && !held.isEmpty && !(passing s.crown.revoked s.crown.floor held).2 &&
    (bootSet held).isSome then (held, true) else (s.flashImages, false)
/-- Step 7: Crown boots its set; for host boot, or without an image, the ROM waits for the host (R546). -/
def stepCrown (s : State) : State :=
  let rom (t : State) : State := { t with boot := { t.boot with rom := true } }
  if s.boot.hostBoot then rom s
  else
    let (good, failed) := passing s.crown.revoked s.crown.floor s.bootImages.1
    let s1 := if failed then s.raise 0x10 5 else s
    match bootSet good with
    | some set => bootCrown set true s1
    | none => rom s1
/-- What R545 looks at is decided: DDR5 of a warm reset has left self-refresh, or has lost its contents. -/
def State.crownMayBoot (s : State) : Bool :=
  !s.boot.rom && (s.boot.hostBoot || s.crown.bundles.isEmpty || (s.boot.done.contains 3 && s.dram.training.isEmpty))

/-- R238: the change list takes its place in the shadow. -/
def listToShadow {α : Type} (list : SMap (Option α)) (shadow : SMap α) : SMap α :=
  list.foldl (fun (m : SMap α) x => match x.2 with | some e => SMap.enter m x.1 e | none => SMap.del m x.1) shadow
/-- Step 9: the journal's record is resolved (R238, R550). -/
def stepJournal (listIntact : Bool) (s : State) : State :=
  let j := s.tbl.journal
  let ok := s.on 0x340 F.ddr0_DDR_STATUS_WARM_RETAINED && listIntact && sha384 s.tbl.listBytes == j.digest
  let done (code : Nat) (t : State) : State :=
    ((t.wr 0x300 F.tbl0_JOURNAL_STATUS_RESOLUTION code).wr 0x300 F.tbl0_JOURNAL_STATUS_RESOLVED_ID j.id).vector 275
  let lists (t : Tables) : Tables := { t with
    listEmt := []
    listLpa := []
    listCla := [] }
  match j.phase with
  | 1 => done 2 { s with tbl := lists { s.tbl with journal := { id := j.id } } }
  | 2 =>
    let t := if ok then { s.tbl with
        shEmt := listToShadow s.tbl.listEmt s.tbl.shEmt
        shLpa := listToShadow s.tbl.listLpa s.tbl.shLpa
        shCla := listToShadow s.tbl.listCla s.tbl.shCla }
      else { s.tbl with
        shEmt := []
        shLpa := []
        shCla := [] }
    (done 1 { s with tbl := lists { t with journal := { j with lost := !ok } } }).wr 0x300 F.tbl0_EPOCH_STATUS_EPOCH_ID j.id
  | _ => { s with tbl := lists { s.tbl with journal := { j with lost := false } } }

/-- Step 10: the tables from the shadow that survived (R238). -/
def stepTables (s : State) : State :=
  if !s.on 0x340 F.ddr0_DDR_STATUS_WARM_RETAINED || s.tbl.journal.lost then s
  else
    let back {α : Type} (m : SMap α) : SMap (Place α) := m.map fun p => (p.1, { now := some p.2 })
    let s1 := { s with tbl := { s.tbl with
      emt := back s.tbl.shEmt
      lpa := back s.tbl.shLpa
      cla := back s.tbl.shCla } }
    let s2 := s1.wr 0x302 F.tbl2_LPA_STATUS_ENTRIES s1.tbl.lpa.length
    (showCla (refreshEmt s2)).wr 0x300 F.tbl0_JOURNAL_STATUS_TABLES_REBUILT 1

/-- R198: a boot image in both banks of a slice. -/
def loadImage (g : Nat) (i : Image) (s : State) : State := setUcsState g 1 (writeBank g 1 i (writeBank g 0 i s))
/-- Step 11: the slices' images (R196, R550): the epoch's for a slice armed for one rolled forward, otherwise the one in
force before the reset; for a slice without any, the boot set's, unless it fails a check of R194. -/
def stepImages (s : State) : State :=
  let forward := s.tbl.journal.phase == 2
  let base := imageOf s.crown.knuckle
  let wrong := checkSection { address := 0, length := s.crown.knuckle.length, intact := true } s.crown.knuckle
  let load (t : State) (g : Nat) : State :=
    match (if forward && s.tbl.journal.slices.contains g then s.tbl.journal.images.at? g else none), s.ucs.kept.at? g with
    | some i, _ => loadImage g i { t with ucs := { t.ucs with kept := t.ucs.kept.enter g i } }
    | none, some i => loadImage g i t
    | none, none => match wrong with
      | none => loadImage g base t
      | some (code, a) => ((t.wr (ucsPage g) F.ucs_BANK_STATUS_VERIFY_ERR code).wr (ucsPage g) F.ucs_BANK_STATUS_VERIFY_ADDR a).raise
          (ucsPage g) 7
  let s1 := (List.range 32).foldl load s
  if forward then { s1 with tbl := { s1.tbl with journal := { s1.tbl.journal with
    phase := 3
    images := [] } } } else s1

/-! ## Step 12: the equalisation table (R147 to R149) -/

/-- R147: the header holds. -/
def eqHeaderOk (b : List Byte) : Bool :=
  slice b 0 4 == [0x54, 0x4B, 0x45, 0x51] && leVal (slice b 4 2) == 1 && leVal (slice b 6 2) == 32 &&
    decide (1 ≤ leVal (slice b 8 4) ∧ leVal (slice b 8 4) ≤ 6144) && leVal (slice b 0x18 4) == 0 &&
    leVal (slice b 0x1C 4) == crc32c (slice b 0 0x1C)
/-- Entry `k`, its key, and whether its fields lie in their ranges (R148). -/
def eqEntryAt (b : List Byte) (k : Nat) : Nat × EqEntry × Bool :=
  let e := slice b (32 + 32 * k) 32
  let u (o n : Nat) : Nat := leVal (slice e o n)
  let entry : EqEntry := {
    tx := u 4 6
    rx := u 0x0A 4
    dfe := u 0x0E 8
    flags := u 3 1
    winPre := u 0x16 1
    winMain := u 0x17 1
    winPost := u 0x18 1 }
  (u 0 2 * 8 + u 2 1, entry, decide (u 0 2 < 1024 ∧ u 2 1 < 6 ∧ u 3 1 < 4) && tapsLegal entry.tx &&
    decide (80 ≤ u 9 1 ∧ u 9 1 ≤ 240 ∧ u 0x0A 1 ≤ 31 ∧ u 0x0B 1 ≤ 31 ∧ u 0x0C 1 ≤ 63 ∧ u 0x0D 1 ≤ 2 ∧ u 0x19 7 = 0))
/-- Keys ascend strictly. -/
def ascending : List Nat → Bool
  | a :: b :: l => decide (a < b) && ascending (b :: l)
  | _ => true
/-- R149: the table read: its state (0 LOADED, 2 BAD_HEADER, 3 BAD_BODY), GENERATION, and its entries. -/
def readEqTable (b : List Byte) : Nat × Nat × SMap EqEntry :=
  let n := leVal (slice b 8 4)
  if !eqHeaderOk b then (2, 0, [])
  else
    let es := (List.range n).map (eqEntryAt b)
    if b.length = 32 + 32 * n + 4 ∧ leVal (slice b (32 + 32 * n) 4) = crc32c (b.take (32 + 32 * n)) ∧
      es.all (fun e => e.2.2) ∧ ascending (es.map (·.1))
    then (0, leVal (slice b 0x0C 4), es.map fun e => (e.1, e.2.1)) else (3, 0, [])
/-- Step 12: every tile manager runs and takes the table of the directory in use. -/
def stepTiles (s : State) : State :=
  let bytes : Option (List Byte) := match s.directoryInUse with
    | some (_, d) => (d.entries.find? fun e => e.type == 2).map fun e => s.flashRead e.offset e.length
    | none => none
  let (st, gen, table) : Nat × Nat × SMap EqEntry := match bytes with
    | some b => readEqTable b
    | none => (1, 0, [])
  let s1 := { s with
    brim := { s.brim with eqTable := table }
    crown := { s.crown with eqTable := if st = 0 then bytes.getD [] else [] } }
  let s2 := (List.range 8).foldl (fun t k =>
    let vals : List (Fld × Nat) :=
      [(F.til_TILE_STATUS_MANAGER_RUNNING, 1), (F.til_TILE_STATUS_EQ_TABLE, st), (F.til_TILE_STATUS_EQ_GENERATION, gen),
       (F.til_TILE_STATUS_EQ_ENTRIES, (table.filter fun (p : Nat × EqEntry) => p.1 / 1024 == k).length)]
    let u := vals.foldl (fun u v => u.wr (0x500 + k) v.1 v.2) t
    if st ≥ 2 then u.raise (0x500 + k) 0 else u) s1
  (List.range 1024).foldl (fun t l => showEq l t) s2

/-! ## Steps 13 to 16 -/

/-- Step 13: the Band processor runs: TRACEABLE turns HOLDOVER after a warm reset (R540). -/
def stepBand (s : State) : State :=
  refreshTq (enterHoldover { s with hat := { s.hat with bandStopped := false } })
/-- Step 14: a ledger run starts (R375). -/
def stepLedger (s : State) : State :=
  if s.on 0x70 F.ldg0_LDG_CFG_ENABLE && s.on 0x340 F.ddr0_DDR_STATUS_AVAILABLE then startRun s else s
/-- Step 15: VDD_CORE, and the weights (R433). -/
def stepPower (s : State) : State :=
  let s1 := s.wr 0x40 F.pwc0_VOLT_STATUS_SETPOINT_MV (s.rd 0x40 F.pwc0_VOLT_CFG_VDD_NOM_MV)
  let s2 := { s1 with pwc := { s1.pwc with weights := s.pwc.saved.getD 0 } }.wr 0x40 F.pwc0_CAP_STATUS_UNCALIBRATED
    s.pwc.saved.isNone.toNat
  (s2.wr 0x40 F.pwc0_CAL_STATUS_STATE (if s.pwc.saved.isSome then 2 else 0)).send (.avs "VDD_CORE" s1.coreMv)
/-- R470: with FATAL at 1 the device is in the safe state again, without snapshot and SEAL. -/
def fatalAgain (s : State) : State :=
  let e : SafeEntry := ⟨s.now, s.tq, 4, 0, 0, false, s.mono⟩
  let s1 := enterHoldover (stopSlew (safeVector s))
  (({ s1 with gnt := { s1.gnt with
    safe := some e
    snapDone := true } }.wr 0x20 F.gnt0_SUMMARY_SAFE 1).wr 0x00 F.idn_DEVICE_STATE_SAFE_STATE 1).refreshSummary
/-- Step 16: BOOT_DONE; FIRMWARE's boot votes go (R413). -/
def stepEnd (s : State) : State :=
  let s1 := (s.wr 0x00 F.idn_DEVICE_STATE_BOOT_DONE 1).wr 0x30 F.mtn0_MTN_STATUS_BOOT_HOLDS 0
  let s2 := (List.range 209).foldl (fun t d => recomputeDom d t) s1
  if s2.on 0x20 F.gnt0_SUMMARY_FATAL then fatalAgain s2 else s2

/-! ## The steps (R548) -/

/-- What a step does; step 7 marks itself done when Crown's firmware starts. -/
def bootStep (n : Nat) (f : BootFacts) (s : State) : State :=
  let ddr (t : State) : State := if t.boot.done.contains 3 && t.boot.done.contains 4 then startDdr f.dimms t else t
  match n with
  | 1 => stepDone 1 (s.wr 0x30 F.mtn0_MTN_STATUS_AON_SOURCE f.onRc.toNat)
  | 3 => ddr (stepDone 3 (stepRefs f.refA f.refB s))
  | 4 => ddr (stepDone 4 (stepMram f.histBad.val s))
  | 6 => s.given s.dram.training.isEmpty (stepDone 6)
  | 7 => s.given s.crownMayBoot stepCrown
  | 9 => stepDone 9 (stepJournal f.listIntact s)
  | 10 => stepDone 10 (stepTables s)
  | 11 => stepDone 11 (stepImages s)
  | 12 => stepDone 12 (stepTiles s)
  | 13 => stepDone 13 (stepBand s)
  | 14 => stepDone 14 (stepLedger s)
  | 15 => stepDone 15 (stepPower s)
  | 16 => stepEnd (stepDone 16 s)
  | n => stepDone n s

/-- BOOT_STEP_COMPLETE (R548): a step that has not completed since the reset, and whose needs have. -/
def execBootStepComplete (step : Fin 17) (facts : BootFacts) (s : State) : Out :=
  let n := step.val
  .next (s.given (s.boot.power == 2 && !s.boot.testMode && !s.stopped && decide (n ≠ 0) && !s.boot.done.contains n &&
    (bootNeeds n).all s.boot.done.contains) (bootStep n facts))

end Sys2Proof.Machine
end

