-- ==== Sys2Proof/Machine/Groups.lean ====
section
/-! DEFINITION. Membership of a timing group: Denoon hellos (R92 to R95, R303, R448). -/

namespace Sys2Proof.Machine

/-- The device belongs to a timing group (R92). -/
def State.grouped (s : State) : Bool := s.on 0x55 F.hbd5_GROUP_CFG_ENABLE
def State.ownChip (s : State) : Nat := s.rd 0x55 F.hbd5_GROUP_CFG_CHIP_ID
/-- The ports on which the Denoon capability exchange succeeded, and whose links are up (R93, R168). -/
def State.helloPorts (s : State) : List Nat :=
  (s.brim.ports.map (·.1)).filter fun p => decide (p < 1024) && s.configured p && s.up p && s.rd (prt p) F.prt_LINK_STATUS_PARTNER == 2

/-- GROUP_STATUS.MEMBERS: the present CHIP_IDs, self included while the device belongs to a group (R105). -/
def refreshMembers (s : State) : State :=
  let others := s.hat.members.filter fun m => m.1 != s.ownChip && decide (0 < m.2)
  s.wr 0x55 F.hbd5_GROUP_STATUS_MEMBERS (others.length + s.grouped.toNat)

/-- The numbers of a hello, in the order of R93. -/
def helloWords (h : Hello) : List Nat :=
  [h.group.toNat, h.chip.toNat, h.serial.toNat, h.seq, h.primary.toNat, h.identity.toNat, h.state.val, h.tq.toNat, h.uncertainty,
    h.pace.toNat, h.hops]

/-- The clockIdentity that the device reports (R89). -/
def State.clockIdentity (s : State) : Nat := netOrder 8 (s.rd 0x54 F.hbd4_CLOCK_IDENTITY)

/-- The hello that the device sends (R93, R95, R448): the primary reports its own clockIdentity, every other member the one
that the primary reported. -/
def State.hello (s : State) (pace : Nat) : Hello :=
  { group := BitVec.ofNat 8 (s.rd 0x55 F.hbd5_GROUP_CFG_GROUP_ID)
    chip := BitVec.ofNat 12 s.ownChip
    serial := BitVec.ofNat 64 (s.rd 0 F.idn_SERIAL)
    seq := s.hat.helloSeq
    primary := BitVec.ofNat 12 (s.rd 0x55 F.hbd5_GROUP_PRIMARY_PRIMARY)
    identity := BitVec.ofNat 64 (if s.follower then s.hat.primaryIdentity else s.clockIdentity)
    state := Fin.ofNat 8 s.servo
    tq := BitVec.ofNat 4 s.tq
    uncertainty := s.rd 0x50 F.hbd0_HOLDOVER_STATUS_UNCERT_NS
    pace := BitVec.ofNat 16 pace
    hops := 0 }

/-- R448: the pace advertised is the largest PACE_NOW of the hello period that closes; it is this device's part of P (R315). -/
def advertise (s : State) : State :=
  let now := s.rd 0x40 F.pwc0_PACE_STATUS_PACE_NOW
  let pace := max s.pwc.paceMax now
  let s1 := { s with pwc := { s.pwc with paceMax := now } }
  if s.rd 0x40 F.pwc0_PACE_STATUS_ADVERTISED = pace then s1
  else refreshPaces (scheduleDEff s.groupPace ((s1.wr 0x40 F.pwc0_PACE_STATUS_ADVERTISED pace).vector 45))

/-- DENOON_HELLO_SEND (R93, R94, R448): at each multiple of 67,108,864 ns, on every port of `helloPorts`. The figure
advertised follows the period whether or not a hello leaves. -/
def execDenoonHelloSend (s : State) : Out :=
  .next (s.running fun s => s.periodic 11 67108864 fun s =>
    let s1 := advertise s
    if s1.grouped && !s1.on 0x55 F.hbd5_GROUP_STATUS_CHIP_ID_CONFLICT then
      let h := helloWords (s1.hello (s1.rd 0x40 F.pwc0_PACE_STATUS_ADVERTISED))
      let s2 := { s1 with hat := { s1.hat with helloSeq := s1.hat.helloSeq + 1 } }
      s2.helloPorts.foldl (fun t p => t.send (.message p "HELLO" h)) s2
    else s1)

/-- A CHIP_ID enters or leaves MEMBER_BITMAP (R93): vector 54. -/
def setMember (chip : Nat) (here : Bool) (s : State) : State :=
  (refreshMembers (s.putBitAt 0x55 F.hbd5_MEMBER_BITMAP chip here)).vector 54

/-- R94: another device has the same CHIP_ID: each such hello latches HBD cause 7, with vector 55 (R107) where the conflict or
its cause is new; every PTP entry fails R64 with GRANDMASTER_MISMATCH from its next measurement. -/
def chipConflict (s : State) : State :=
  let known := s.on 0x55 F.hbd5_GROUP_STATUS_CHIP_ID_CONFLICT && (s.rd 0x50 F.hdr_ERR_STATUS_REAL).testBit 7
  let s1 := (s.set1 0x55 F.hbd5_GROUP_STATUS_CHIP_ID_CONFLICT).raise 0x50 7
  if known then s1 else s1.vector 55
/-- R93: a hello whose PRIMARY differs sets PRIMARY_MISMATCH and has no other effect but its vector (R107). -/
def primaryMismatch (s : State) : State :=
  let s1 := s.set1 0x55 F.hbd5_GROUP_STATUS_PRIMARY_MISMATCH
  if s.on 0x55 F.hbd5_GROUP_STATUS_PRIMARY_MISMATCH then s1 else s1.vector 55

/-- R93: a hello is relayed on the other Denoon ports, up to 15 hops, once per CHIP_ID and sequence. -/
def relayHello (port : Nat) (h : Hello) (s : State) : State :=
  if h.hops ≥ 15 ∨ s.hat.helloSeqs.at? h.chip.toNat = some (1 + h.seq) then s
  else
    let s1 := { s with hat := { s.hat with helloSeqs := s.hat.helloSeqs.enter h.chip.toNat (1 + h.seq) } }
    (s1.helloPorts.filter (· != port)).foldl (fun t p => t.send (.message p "HELLO" (helloWords { h with hops := h.hops + 1 }))) s1

/-- What a hello of the own group tells (R93 to R95, R303). -/
def hearHello (port : Nat) (h : Hello) (s : State) : State :=
  let chip := h.chip.toNat
  let own := chip == s.ownChip
  if own && h.serial.toNat == s.rd 0 F.idn_SERIAL then s
  else if h.primary.toNat ≠ s.rd 0x55 F.hbd5_GROUP_PRIMARY_PRIMARY then primaryMismatch s
  else
    let s1 := relayHello port h s
    if own then chipConflict s1
    else
      let known := (s1.hat.members.at? chip).isSome
      let s2 := { s1 with hat := { s1.hat with
        members := s1.hat.members.enter chip (1 + s1.nowNs)
        primaryIdentity := if h.chip.toNat = s1.rd 0x55 F.hbd5_GROUP_PRIMARY_PRIMARY then h.identity.toNat else s1.hat.primaryIdentity } }
      let s3 := if known then s2 else setMember chip true s2
      paceHeard chip h.pace.toNat s3

/-- DENOON_HELLO_RECEIVE (R93): a hello arrives on a Denoon port. -/
def execDenoonHelloReceive (port : Fin 1024) (hello : Hello) (s : State) : Out :=
  .next (s.running fun s =>
    s.given (s.grouped && s.helloPorts.contains port.val && hello.group.toNat == s.rd 0x55 F.hbd5_GROUP_CFG_GROUP_ID)
      (hearHello port.val hello))

/-- MEMBER_TIMEOUT (R93, R303): no hello of a CHIP_ID within MEMBER_TIMEOUT periods. -/
def execMemberTimeout (chip : Fin 4096) (s : State) : Out :=
  .next (s.given (match s.hat.members.at? chip.val with
      | some t => decide (t - 1 + s.rd 0x55 F.hbd5_GROUP_CFG_MEMBER_TIMEOUT * 67108864 < s.nowNs)
      | none => false) fun s =>
    paceLeft chip.val (setMember chip.val false { s with hat := { s.hat with members := s.hat.members.del chip.val } }))

end Sys2Proof.Machine
end

