-- ==== Sys2Proof/Machine/HostWrite.lean ====
section
/-! DEFINITION. Host writes of registers: the access codes field by field, and what the registers do that do more than
hold what is written to them. -/

namespace Sys2Proof.Machine

/-- A write as it reaches the register fabric: the page, the register's offset, the word, and the halves it carries (R8). -/
structure RegWrite where
  page : Nat
  off : Nat
  data : Nat
  low : Bool
  high : Bool
  deriving DecidableEq, Repr

/-- The bits that the write carries. -/
def RegWrite.live (x : RegWrite) : Nat := merged 0 x.data x.low x.high
/-- The register's word after the write, as far as its RW fields go. -/
def RegWrite.word (x : RegWrite) (s : State) : Nat := merged (s.shown x.page x.off) x.data x.low x.high

/-- R3: what a field becomes under its access code, from its value, the register's merged word and the bits written; R4: what
hardware events have set in this MGMT cycle is not cleared. -/
def Fld.taken (f : Fld) (lo old word live kept : Nat) : Nat :=
  match f.acc with
  | .rw => bits word lo f.w
  | .w1c => old - (old &&& (bits live lo f.w - (bits live lo f.w &&& kept)))
  | .w1cAny => if bits live lo f.w = 0 then old else min old kept
  | .ro | .wo => old

/-- R3: the fields of the register that pass a test take the write. -/
def storeIf (keep : Fld → Bool) (x : RegWrite) (s : State) : State :=
  let word := x.word s
  (tableOf x.page x.off).foldl (fun t f =>
    match f.index? x.off with
    | none => t
    | some i => if !keep f || f.acc == .ro || f.acc == .wo then t else
      (List.range f.m).foldl (fun u j =>
        u.wrx x.page f i j (f.taken (f.lo + f.bst * j) (s.rdx x.page f i j) word x.live (s.keptBits x.page f i j))) t) s
/-- R3: the whole register takes the write. -/
def storeReg (x : RegWrite) (s : State) : State := storeIf (fun _ => true) x s

/-- The write is discarded, and WRITE_DROPPED set. -/
def dropped (x : RegWrite) (s : State) : State := s.set1 x.page F.hdr_PAGE_STATUS_WRITE_DROPPED
/-- The write does not reach some fields while a condition holds; WRITE_DROPPED is set where they would have changed. -/
def storeHeld (held : Bool) (fixed : List Fld) (x : RegWrite) (s : State) : State :=
  if !held then storeReg x s
  else
    let word := x.word s
    let s1 := storeIf (fun f => !fixed.contains f) x s
    if fixed.any fun f => bits word f.lo f.w != s.rd x.page f then dropped x s1 else s1

/-! ## Register pairs of an instant (R12 to R14) -/

/-- The fields of a pair whose NS register stands at an offset. -/
def pairAt (page off : Nat) : Option (Fld × Nat × Fld) :=
  match (tableOf page off).find? fun f => f.a64 && f.w == 64 && (f.index? off).isSome with
  | some f => match (tableOf page (off + 8)).find? fun g => g.off == f.off + 8 && g.lo == 0 && g.w == 16 && !g.a64 with
    | some g => some (f, (f.index? off).getD 0, g)
    | none => none
  | none => none
/-- The BAR0 offset of a register. -/
def barOf (page off : Nat) : Nat := page * 0x1000 + off

/-- R13: a write of the companion is staged for the NS write that commits it. -/
def stageHalf (x : RegWrite) (s : State) : State :=
  if x.low then { s with host := { s.host with staged := s.host.staged.put 0 (barOf x.page (x.off - 8)) (x.data % 2 ^ 16) } } else s

/-- R96: a switch instant not later than TIME acts at once, and LATE is set. -/
def commitSwitch (t : T80) (s : State) : State :=
  let s1 := s.wrPair 0x55 F.hbd5_PRIMARY_SWITCH_NS F.hbd5_PRIMARY_SWITCH_FRAC t
  if t ≤ s.now then switchPrimary ((s1.set1 0x55 F.hbd5_GROUP_STATUS_SWITCH_LATE).vector 52)
  else { s1 with hat := { s1.hat with switchPending := true } }
/-- R103, R14: a START that has passed sets LATE, with vector 52; one written with ENABLE at 1 gives the output its grid: the next
rise is at its instant, or at once where that has passed. A pulse under way ends as its rise has set it. -/
def commitStart (t : T80) (s : State) : State :=
  let s0 := s.wrPair 0x52 F.hbd2_CLK_OUT_START_NS F.hbd2_CLK_OUT_START_FRAC t
  let s1 := if t ≤ s.now then (s0.set1 0x52 F.hbd2_CLK_OUT_CFG_LATE).vector 52 else s0
  if !s.on 0x52 F.hbd2_CLK_OUT_CFG_ENABLE then s1
  else if t ≤ s.now && !s.hat.clk then setClk true (some (s.now + s.clkHalf)) s1
  else regrid 0 s1

/-- R13: the NS write commits both halves. -/
def commitPair (page off nsWord : Nat) (s : State) : State :=
  let t := nsWord * nsUnits + s.host.staged.val 0 (barOf page off) % nsUnits
  match layoutOf page with
  | .hbd0 => setTime nsWord s
  | .hbd2 => commitStart t s
  | .hbd5 => commitSwitch t s
  | .rel => writeReleaseAt (page - 0x140) nsWord s
  | .vsr0 => writeSnapAt nsWord s
  | _ => s

/-! ## The header (R45 to R50) -/

/-- R4, R462: the device's own state shows that a cause's condition holds on, so a clear leaves its bit at 1. -/
def State.persists (s : State) (page cause : Nat) : Bool :=
  if page = 0x4A4 then cause == 0 && decide (s.rd 0x4A4 F.bufx_SPARE_STATUS_SPARES_FREE < 4)
  else if 0x500 ≤ page ∧ page ≤ 0x507 then cause == 8 && s.on page F.til_TILE_STATUS_REF_ABSENT
  else false

/-- R57: vectors that a cleared cause shares with one that is still set are sent again; vector 2, where an injected latch was
cleared and one is left. -/
def resendCauses (page cleared : Nat) (injected : Bool) (s : State) : State :=
  let causes (n : Nat) : List Nat := (List.range 16).filter n.testBit
  let left := (causes (s.rd page F.hdr_ERR_STATUS_REAL)).filterMap (causeVector page)
  ((((causes cleared).filterMap (causeVector page)).filter left.contains).eraseDups ++
    (if injected && s.sourceSet 2 then [2] else [])).foldl (fun t v => t.vector v) s
/-- ERR_STATUS written: W1C. A cause whose condition the device's own state shows to hold on reads 1 afterwards (R462). -/
def clearErr (x : RegWrite) (s : State) : State :=
  let cleared := s.rd x.page F.hdr_ERR_STATUS_REAL &&& x.live % 2 ^ 16
  let s1 := (storeReg x s).refreshErr x.page
  let s2 := ((List.range 16).filter fun c => cleared.testBit c && s.persists x.page c).foldl (fun t c =>
    (t.setBit x.page F.hdr_ERR_STATUS_REAL c).refreshErr x.page) s1
  resendCauses x.page cleared (s.rd x.page F.hdr_ERR_STATUS_INJECTED &&& bits x.live 32 16 != 0) s2
/-- ERR_MASK written: a cause mapped to FC3 or FC4 keeps its bit at 0. -/
def writeMask (x : RegWrite) (s : State) : State :=
  let free := ((List.range 16).filter fun c => s.classOf x.page c < 3).foldl (fun n c => n + 2 ^ c) 0
  (s.wr x.page F.hdr_ERR_MASK_MASK (x.word s % 2 ^ 16 &&& free)).refreshErr x.page

/-- A write of a header register. LAN and OCT pages have no ERR_ registers (R167, R170); USER_READ is there on CNT pages. -/
def writeHeader (x : RegWrite) (s : State) : State :=
  match x.off with
  | 0x010 =>
    let s1 := if 0x1000 ≤ x.page then storeReg x s else s
    if x.live.testBit 0 then blockReset x.page s1 else s1
  | 0x020 => s.given (!errAbsent x.page) (clearErr x)
  | 0x028 => s.given (!errAbsent x.page) (writeMask x)
  | 0x030 => s.given (!errAbsent x.page) (injectCauses x.page (x.live % 2 ^ 16))
  | 0x038 => s.given (!errAbsent x.page) (writeClassMap x.page (x.word s))
  | 0x040 => if x.low then writeVote x.page (x.data % 8) s else s
  | _ => storeReg x s

/-! ## Time base and stamps -/

/-- HBD[0]: a changed MODE acts (R74), MODE 3 and LEAP 3 are discarded. A host write of UTC_CFG leaves FROM_REF as it stands
(DESIGN CHOICE, log entry 170). -/
def writeHbd0 (x : RegWrite) (s : State) : State :=
  match x.off with
  | 0x080 =>
    let m := x.word s % 4
    let s1 := storeIf (· != F.hbd0_SERVO_CTRL_MODE) x s
    if m = s.mode then s1 else changeMode m s1
  | 0x0D0 => stageHalf x s
  | 0x0D8 => storeIf (fun f => f != F.hbd0_UTC_CFG_LEAP || bits (x.word s) 8 2 != 3) x s
  | _ => storeReg x s

/-- HBD[2]: the timing outputs. -/
def writeHbd2 (x : RegWrite) (s : State) : State :=
  match x.off with
  | 0x0B0 => writePpsCfg 0 x.data x.low x.high s
  | 0x0B8 => writePpsCfg 1 x.data x.low x.high s
  | 0x0C0 => writeClkCfg x.data x.low x.high s
  | 0x0D0 => stageHalf x s
  | _ => storeReg x s

/-- HBD[4]: PTP ports and peers (R105). -/
def writeHbd4 (x : RegWrite) (s : State) : State :=
  let port := s.rd 0x54 F.hbd4_PORT_SEL
  let v := x.word s
  match x.off with
  | 0x090 => showPtp (storeReg x s)
  | 0x098 => s.putPtp port { s.ptpPort port with
      cfg := v &&& 0x1FFFF
      refused := if bits x.live 32 16 = 0 then (s.ptpPort port).refused else 0 }
  | 0x0A0 => s.putPtp port { s.ptpPort port with asym := v % 2 ^ 48 }
  | 0x0A8 => showPeer (bits v 0 10) (bits v 10 4) s
  | 0x0B0 =>
    let p := s.rd 0x54 F.hbd4_PEER_SEL_PORT
    let e := s.rd 0x54 F.hbd4_PEER_SEL_ENTRY
    match x.live % 4 with
    | 1 => setStatic true p e s
    | 2 => setStatic false p e s
    | 3 => freePeer p e s
    | _ => s
  | _ => storeReg x s

/-- GROUP_CFG (R92, R94). -/
def writeGroupCfg (x : RegWrite) (s : State) : State :=
  let fixed : List Fld := [F.hbd5_GROUP_CFG_CHIP_ID, F.hbd5_GROUP_CFG_GROUP_ID, F.hbd5_GROUP_CFG_ETHERTYPE]
  let s1 := storeIf (fun f => !s.grouped || !fixed.contains f) x s
  let s2 := if s1.ownChip = s.ownChip then s1 else s1.wr 0x55 F.hbd5_GROUP_STATUS_CHIP_ID_CONFLICT 0
  refreshMembers (refreshGroup s2)
/-- HBD[5]: the timing group. -/
def writeHbd5 (x : RegWrite) (s : State) : State :=
  match x.off with
  | 0x080 => writeGroupCfg x s
  | 0x088 => refreshGroup (storeReg x s)
  | 0x098 => stageHalf x s
  | _ => storeReg x s

/-- HBD[8]: calibration (R121, R127, R129). -/
def writeHbd8 (x : RegWrite) (s : State) : State :=
  let v := x.word s
  match x.off with
  | 0x080 =>
    let s1 := storeReg x s
    if s1.rd 0x58 F.hbd8_STAMP_CFG_DENSITY_MIN = 0 then s1.wr 0x58 F.hbd8_STAMP_CFG_DENSITY_MIN 1 else s1
  | 0x088 => showCal (storeReg x s)
  | 0x0A0 => stageTrim true v s
  | 0x0A8 => stageTrim false v s
  | 0x0B0 =>
    let s1 := if x.live.testBit 0 then applyTrims s else s
    if x.live.testBit 1 then discardTrims s1 else s1
  | _ => storeReg x s

/-- HBD[10]: STAT_SEL with its CLEAR (R129). -/
def writeHbd10 (x : RegWrite) (s : State) : State :=
  let lane := x.word s % 1024
  if x.off ≠ 0x080 then s else if x.live.testBit 16 then statClear lane s else showStat lane s

/-! ## Lanes and ports -/

/-- A LAN page. -/
def writeLane (l : Nat) (x : RegWrite) (s : State) : State :=
  let v := x.word s
  match x.off with
  | 0x080 => writeLaneCtrl l v s
  | 0x090 => writeEq l 0 v s
  | 0x098 => writeEq l 1 v s
  | 0x0A0 => writeEq l 2 v s
  | _ => s

/-- PORT_CTRL (R137, R146): a changed ENABLE, then RESTART. -/
def writePortCtrl (p : Nat) (x : RegWrite) (s : State) : State :=
  let want := (x.word s).testBit 0
  let s1 := if want = s.on (prt p) F.prt_PORT_CTRL_ENABLE then s else if want then enablePort p s else disablePort p s
  if x.live.testBit 1 then restartPort p s1 else s1
/-- A field brought within bounds after a write. -/
def clampField (page : Nat) (f : Fld) (lo hi : Nat) (s : State) : State := s.wr page f (max lo (min hi (s.rd page f)))
/-- A PRT page. -/
def writePort (p : Nat) (x : RegWrite) (s : State) : State :=
  let v := x.word s
  match x.off with
  | 0x080 => writePortCtrl p x s
  | 0x088 => clampField (prt p) F.prt_LINK_CFG_QUAL_US 100 65535
      (clampField (prt p) F.prt_LINK_CFG_AN_TIMEOUT_MS 10 65535 (storeReg x s))
  | 0x098 => clampField (prt p) F.prt_MAC_CFG_MAX_FRAME 64 10240 (storeReg x s)
  | 0x0B8 => writeEts p v s
  | 0x0C0 => writePreempt p v s
  | 0x0D0 => writeTxCtrl p v s
  | 0x0D8 => recomputePort p (storeReg x s)
  | _ => storeReg x s

/-! ## Microcode, tables, buffer -/

/-- A UCS page (R200, R202). -/
def writeUcs (g : Nat) (x : RegWrite) (s : State) : State :=
  let v := x.word s
  match x.off with
  | 0x088 =>
    let s1 := if x.live.testBit 0 then arm g s
      else if x.low && s.ucsState g == 3 then s.wr (ucsPage g) F.ucs_BANK_CTRL_ARM 0 else s
    let s2 := if x.live.testBit 1 then bankAbort g s1 else s1
    if x.live.testBit 2 then clearStats g s2 else s2
  | 0x0B0 => selectItem g (bits v 0 12) (bits v 12 1) (bits v 13 2) s
  | _ => storeReg x s

/-- TBL[1]: HASH_SEEDw is discarded unless the EMT is empty (R209). -/
def writeTbl1 (x : RegWrite) (s : State) : State :=
  if 0x0B0 ≤ x.off ∧ s.rd 0x301 F.tbl1_EMT_STATUS_ENTRIES ≠ 0 then s else storeReg x s

/-- TBL[3]: NOTIFY_CFG (R243). -/
def writeTbl3 (x : RegWrite) (s : State) : State :=
  if x.off = 0x108 then
    let l := bits (x.word s) 8 4
    if l < 4 ∨ l > 12 then dropped x s
    else storeIf (fun f => f != F.tbl3_NOTIFY_CFG_LOG2_SIZE || !s.on 0x303 F.tbl3_NOTIFY_CFG_ENABLE) x s
  else storeReg x s

/-- A page of a command queue. CQ_TAIL comes with the descriptors posted, as CQ_DOORBELL. -/
def writeTblq (q : Nat) (x : RegWrite) (s : State) : State :=
  match x.off with
  | 0x088 => writeCqCfg q (BitVec.ofNat 64 (x.word s)) s
  | 0x090 => s
  | _ => storeReg x s

/-- BUF[36] (R249, R272, R279, R284). -/
def writeBufx (x : RegWrite) (s : State) : State :=
  let v := x.word s
  match x.off with
  | 0x080 => writePools 0 v s
  | 0x088 => writePools 1 v s
  | 0x090 => writePools 2 v s
  | 0x0D8 => if x.live.testBit 16 then spareCmd (bits x.live 0 11) s else s
  | 0x100 => showMcg (bits v 0 10) s
  | 0x110 => if x.live.testBit 0 then commitMcg s else s
  | _ => storeReg x s

/-- A page of an ingress slice. -/
def writeSlii (g : Nat) (x : RegWrite) (s : State) : State :=
  let v := x.word s
  match x.off with
  | 0x088 => showPg g (bits v 0 10) (bits v 16 3) s
  | 0x090 | 0x098 => writePgCfg g x.off v s
  | _ => storeReg x s
/-- A page of an egress slice. -/
def writeSlie (g : Nat) (x : RegWrite) (s : State) : State :=
  let v := x.word s
  match x.off with
  | 0x080 => showQueue g (bits v 0 10) (bits v 16 4) s
  | 0x088 => writeQcfg g v s
  | 0x098 => writeFwdCfg g v s
  | _ => storeReg x s

/-- A header ring: what R287 holds fixed while it is enabled, and the on-die store of R276. -/
def writeHr (h : Nat) (x : RegWrite) (s : State) : State :=
  let pg := hrPage h
  let on_ := s.on pg F.hr_HR_CFG_ENABLE
  match x.off with
  | 0x080 =>
    let others := (((List.range 16).filter (· != h)).map fun k => s.rd (hrPage k) F.hr_HR_CFG_ONDIE_KIB).sum
    let full := decide (8192 < others + bits (x.word s) 40 16)
    let s1 := storeIf (fun f => if f == F.hr_HR_CFG_ONDIE_KIB then !full else f == F.hr_HR_CFG_ENABLE || !on_) x s
    recomputeDdr (if full then dropped x s1 else s1)
  | 0x088 | 0x090 => if on_ then s else storeReg x s
  | _ => storeReg x s

/-! ## Merge and release groups, sessions -/

/-- A merge group (R292, R305). -/
def writeMrg (g : Nat) (x : RegWrite) (s : State) : State :=
  let pg := mrgPage g
  let on_ := s.on pg F.mrg_MRG_CFG_ENABLE
  if x.off = 0x080 then
    let v := x.word s
    let fixed := [F.mrg_MRG_CFG_ROLE, F.mrg_MRG_CFG_OUT_PORT, F.mrg_MRG_CFG_OUT_QUEUE]
    let low := on_ && decide (bits v 32 16 < 8)
    let s1 := storeIf (fun f => f != F.mrg_MRG_CFG_ENABLE && !(on_ && fixed.contains f) && !(low && f == F.mrg_MRG_CFG_H)) x s
    let s2 := if on_ && fixed.any fun f => bits v f.lo f.w != s.rd pg f then dropped x s1 else s1
    let s3 := if v.testBit 0 = on_ then s2 else if v.testBit 0 then mergeEnable g s2 else mergeDisable g s2
    refreshPaces s3
  else if 0x100 ≤ x.off ∧ x.off < 0x300 then
    if on_ then dropped x s else writeMember g ((x.off - 0x100) / 8) (x.word s) s
  else if 0x300 ≤ x.off ∧ x.off < 0x500 then
    if on_ then dropped x s else storeReg x s
  else storeReg x s

/-- A release group (R308, R319). -/
def writeRel (g : Nat) (x : RegWrite) (s : State) : State :=
  let pg := relPage g
  let on_ := s.on pg F.rel_REL_CFG_ENABLE
  if x.off = 0x080 then
    let v := x.word s
    let fixed := [F.rel_REL_CFG_MODE, F.rel_REL_CFG_USE_TAG, F.rel_REL_CFG_SPEED, F.rel_REL_CFG_FWD_ENABLE,
      F.rel_REL_CFG_ADOPT_PACE, F.rel_REL_CFG_FWD_MCG]
    let s1 := if on_ then (if fixed.any fun f => bits v f.lo f.w != s.rd pg f then dropped x s else s)
      else storeIf (· != F.rel_REL_CFG_ENABLE) x s
    if v.testBit 0 = on_ then s1 else if v.testBit 0 then relEnable g s1 else relDisable g s1
  else if x.off = 0x098 then stageHalf x s
  else if x.off = 0x088 ∨ 0x100 ≤ x.off then if on_ then dropped x s else storeReg x s
  else storeReg x s

/-- SES[0] (R328, R344 to R346, R349). -/
def writeSes0 (x : RegWrite) (s : State) : State :=
  match x.off with
  | 0x080 =>
    let s1 := storeReg x s
    let s2 := if s1.rd 0x240 F.ses0_ENGINE_CFG_REQ_MAX_COUNT = 0 then s1.wr 0x240 F.ses0_ENGINE_CFG_REQ_MAX_COUNT 1 else s1
    if s2.rd 0x240 F.ses0_ENGINE_CFG_RETX_TC = 7 then s2.wr 0x240 F.ses0_ENGINE_CFG_RETX_TC 6 else s2
  | 0x090 =>
    let s1 := storeReg x s
    showCtx (s1.rd 0x240 F.ses0_CTX_SEL) s1
  | 0x098 => writeCtxCmd (x.live % 8) s
  | 0x0A0 | 0x0A8 | 0x0B0 | 0x0B8 => writeCtxReg x.off (x.word s) s
  | 0x0C0 => if x.live.testBit 9 then clearCmdRefused s else s
  | 0x180 =>
    let s1 := storeReg x s
    showRequester (s1.rd 0x240 F.ses0_REQ_SEL) s1
  | 0x188 => writeReqCfg (x.word s) s
  | 0x190 => if bits x.live 32 16 = 0 then s else clearRefused s
  | _ => storeReg x s

/-- A session event queue (R350). -/
def writeSesq (q : Nat) (x : RegWrite) (s : State) : State := if x.off = 0x088 then writeEqCfg q (x.word s) s else storeReg x s

/-! ## Ledger and Visor -/

/-- LDG[0] (R375, R383). -/
def writeLdg0 (x : RegWrite) (s : State) : State :=
  match x.off with
  | 0x080 =>
    let want := (x.word s).testBit 0
    let s1 := storeIf (· != F.ldg0_LDG_CFG_ENABLE) x s
    if want = s.on 0x70 F.ldg0_LDG_CFG_ENABLE then s1 else if want then enableLedger s1 else stopRun s1
  | 0x0B0 | 0x0B8 => if s.ledgerRuns then dropped x s else storeReg x s
  | _ => storeReg x s
/-- LDG[1] (R358). -/
def writeLdg1 (x : RegWrite) (s : State) : State :=
  if x.off = 0x088 then (if x.live.testBit 0 then commitSelection s else s) else storeReg x s
/-- LDG[2] (R380). -/
def writeLdg2 (x : RegWrite) (s : State) : State :=
  if 0x100 ≤ x.off ∧ x.off < 0x180 then
    let n := (x.off - 0x100) / 8
    let v := x.word s
    let p := bits v 0 10
    let named := (List.range 16).any fun k => k != n && s.rdi 0x72 F.ldg2_EXP_PORT_VALID k == 1 &&
      s.rdi 0x72 F.ldg2_EXP_PORT_PORT k == p
    if s.on 0x70 F.ldg0_LDG_CFG_EXPORT_ENABLE then s
    else if v.testBit 15 && (!s.configured p || named) then dropped x s
    else storeReg x s
  else storeReg x s
/-- A stream of the ledger (R366, R383). -/
def writeLdgs (n : Nat) (x : RegWrite) (s : State) : State :=
  match x.off with
  | 0x080 => streamEnable n ((x.word s).testBit 0) (storeIf (· != F.ldgs_SCFG_ENABLE) x s)
  | 0x088 | 0x090 => if s.ledgerRuns then dropped x s else storeReg x s
  | _ => storeReg x s

/-- VSR[0] (R395). -/
def writeVsr0 (x : RegWrite) (s : State) : State :=
  match x.off with
  | 0x090 => stageHalf x s
  | 0x0B8 => if x.live.testBit 0 then snapCancel s else s
  | _ => storeReg x s
/-- EVSEL (R393). -/
def writeVsre (k : Nat) (x : RegWrite) (s : State) : State :=
  if 0x800 ≤ x.off then writeEvsel (256 * k + (x.off - 0x800) / 8) (x.word s) s else s
/-- A trace page (R399, R405). -/
def writeTrc (slice : Nat) (x : RegWrite) (s : State) : State :=
  match x.off with
  | 0x080 =>
    let v := x.word s
    if v.testBit 0 then traceEnable slice (v.testBit 1) (bits v 8 5) s else recomputeDdr (storeReg x s)
  | 0x090 | 0x098 => if s.on (trcPage slice) F.trc_TRACE_CFG_ENABLE then s else storeReg x s
  | _ => storeReg x s

/-! ## Power, faults, Crown, DDR5 -/

/-- MTN[1] (R425, R429). -/
def writeMtn1 (x : RegWrite) (s : State) : State :=
  match x.off with
  | 0x080 => selectDom (bits (x.word s) 0 8) s
  | 0x088 => writeDomCfg (x.word s) s
  | 0x0A0 => if x.live.testBit 0 then retryWake s else s
  | _ => s
/-- PWC[0] (R433, R441, R449). VDD_NOM_MV is taken no higher than the fused value. -/
def writePwc0 (x : RegWrite) (s : State) : State :=
  match x.off with
  | 0x080 => writeCap (x.word s) s
  | 0x098 => clampField 0x40 F.pwc0_VOLT_CFG_VDD_NOM_MV 0 (F.pwc0_VOLT_CFG_VDD_NOM_MV.resetVal 0x40 0 0) (storeReg x s)
  | 0x0A8 => clampField 0x40 F.pwc0_ICC_CFG_ICC_LIMIT_A 100 900 (storeReg x s)
  | 0x0B0 =>
    let s1 := if x.live.testBit 0 then calStart s else s
    if x.live.testBit 1 then useFused s1 else s1
  | _ => storeReg x s
/-- PWC[2] (R442, R445). -/
def writePwc2 (x : RegWrite) (s : State) : State :=
  match x.off with
  | 0x080 => clampField 0x42 F.pwc2_THERM_CFG_T_CRIT 0 120 (storeReg x s)
  | 0x090 => clampField 0x42 F.pwc2_DROOP_CFG_THRESH_MV 20 80 (storeReg x s)
  | _ => storeReg x s

/-- GNT[0] (R454, R458, R477). -/
def writeGnt0 (x : RegWrite) (s : State) : State :=
  if x.off = 0x088 then showLine (bits (x.word s) 0 10) s
  else if 0x100 ≤ x.off ∧ x.off < 0x180 then clearLines ((x.off - 0x100) / 8) x.live s
  else if 0x180 ≤ x.off ∧ x.off < 0x200 then clearInj ((x.off - 0x180) / 8) x.live s
  else storeReg x s
/-- GNT[3] (R477). -/
def writeGnt3 (x : RegWrite) (s : State) : State :=
  if x.off = 0x080 then showWear (bits (x.word s) 0 2) (bits (x.word s) 16 10) s else storeReg x s

/-- CRN[1]: the mailbox (R490). -/
def writeCrn1 (x : RegWrite) (s : State) : State :=
  if x.off = 0x100 then (if x.live.testBit 0 then mailboxGo s else s) else storeReg x s
/-- CRN[2]: the command ring (R491). CR_TAIL comes with the descriptors posted, as CROWN_RING_DOORBELL. -/
def writeCrn2 (x : RegWrite) (s : State) : State :=
  match x.off with
  | 0x088 => writeCrCfg (x.word s) s
  | 0x090 => s
  | _ => storeReg x s

/-- DDR[0] (R515, R519). -/
def writeDdr0 (x : RegWrite) (s : State) : State :=
  match x.off with
  | 0x080 => if bits (x.word s) 0 2 = 3 then dropped x s else storeReg x s
  | 0x090 => writeRetxGib (x.word s) s
  | _ => storeReg x s

/-! ## The write -/

/-- A write of a register at 0x080 or above, by the kind of its page. -/
def writeBody (x : RegWrite) (s : State) : State :=
  if (pairAt x.page x.off).any (fun p => p.1.acc != .ro) then commitPair x.page x.off x.data s else
  match layoutOf x.page with
  | .hbd0 => writeHbd0 x s
  | .hbd1 => if x.off < 0x280 ∧ (x.off - 0x080) % 32 = 0 then writeRefCfg ((x.off - 0x080) / 32) (x.word s) s else storeReg x s
  | .hbd2 => writeHbd2 x s
  | .hbd3 =>
    let s1 := storeReg x s
    if x.off = 0x080 ∧ x.live.testBit 48 then clearHist s1 else s1
  | .hbd4 => writeHbd4 x s
  | .hbd5 => writeHbd5 x s
  | .hbd8 => writeHbd8 x s
  | .hbd10 => writeHbd10 x s
  | .lan => writeLane (x.page - 0x800) x s
  | .prt => writePort (x.page - 0xC00) x s
  | .oct => if x.off = 0x080 then writeOct (x.page - 0x580) (x.word s) s else storeReg x s
  | .ucs => writeUcs (x.page - 0x440) x s
  | .tbl1 => writeTbl1 x s
  | .tbl2 => showCla (storeReg x s)
  | .tbl3 => writeTbl3 x s
  | .tblq => writeTblq (x.page - 0x310) x s
  | .bufx => writeBufx x s
  | .slii => writeSlii (x.page - 0x400) x s
  | .slie => writeSlie (x.page - 0x420) x s
  | .hr => writeHr (x.page - 0xD0) x s
  | .mrg => writeMrg (x.page - 0x100) x s
  | .rel => writeRel (x.page - 0x140) x s
  | .ses0 => writeSes0 x s
  | .sesq => writeSesq (x.page - 0x241) x s
  | .ldg0 => writeLdg0 x s
  | .ldg1 => writeLdg1 x s
  | .ldg2 => writeLdg2 x s
  | .ldgs => writeLdgs (x.page - 0x90) x s
  | .vsr0 => writeVsr0 x s
  | .vsr2 => refreshBw (storeReg x s)
  | .vsre => writeVsre (x.page - 0xC0) x s
  | .trc => writeTrc (x.page - 0xE0) x s
  | .mtn1 => writeMtn1 x s
  | .pwc0 => writePwc0 x s
  | .pwc1 => if x.off = 0x200 then showQEnergy (bits (x.word s) 0 10) (bits (x.word s) 16 4) s else s
  | .pwc2 => writePwc2 x s
  | .gnt0 => writeGnt0 x s
  | .gnt3 => writeGnt3 x s
  | .crn1 => writeCrn1 x s
  | .crn2 => writeCrn2 x s
  | .ddr0 => writeDdr0 x s
  | .idn | .cap | .hbd9 | .til | .tbl0 | .bufg | .mtn0 | .mtn2 | .pwc3 | .gnt1 | .gnt2 | .crn0 | .cxl0 | .ddrc | .plain
  | .cntp | .cntq | .cntg | .cnti | .cnte | .cnts | .cntm | .cntr => storeReg x s

/-- The register at an offset is atomic-64 (R8, R40). -/
def atomic64 (page off : Nat) : Bool := (tableOf page off).any fun f => f.a64 && (f.index? off).isSome

/-- A host write to BAR0 (R4, R8, R43 to R47, R52): a 32-bit write of an atomic-64 register is discarded, and one to an absent
page is recorded. -/
def hostWrite (x : RegWrite) (s : State) : State :=
  if x.off < 0x080 then s.headerWrite x.page x.off (writeHeader x)
  else if !present x.page then recordBad 3 (barOf x.page x.off) s
  else s.written x.page fun s => if atomic64 x.page x.off && !(x.low && x.high) then s else writeBody x s

end Sys2Proof.Machine
end

