-- ==== Sys2Proof/WellFormed.lean ====
section
/-! DEFINITION. What the operands' types leave open: the commands that the outside world can send. -/

namespace Sys2Proof

/-- A size and alignment that BAR0 and BAR2 support (R39). -/
def sizeSupported (address size : Nat) : Bool := (size == 4 && address % 4 == 0) || (size == 8 && address % 8 == 0)

/-- The pages of 4 KiB that a BAR holds (R35). -/
def barPages : Bar → Nat
  | .bar0 => 0x4000
  | .bar2 => 0x1000
  | .bar4 => 0x20

/-- A command that can be sent: aligned registers, descriptors of the lengths that the queues have, operand lists of the
lengths that the messages have. -/
def Instr.wf : Instr → Bool
  | .registerWrite _ offset _ low high => offset.toNat % 8 == 0 && (low || high)
  | .t80NsRead read offset =>
    offset.toNat % 8 == 0 && (read.low || read.high) && decide (read.page.toNat < barPages read.bar)
  | .t80PairCommit _ offset _ => offset.toNat % 8 == 0
  | .badSizeAccess bar2 write address size data =>
    decide (0 < size.toNat ∧ size.toNat ≤ 4096) && decide (address.toNat + size.toNat ≤ if bar2 then 2 ^ 24 else 2 ^ 26) &&
      !sizeSupported address.toNat size.toNat && (!write || data.length == size.toNat)
  | .cqDoorbell _ _ descs => descs.all fun d => d.length == 256
  | .crownRingDoorbell _ descs => descs.all fun d => d.length == 128
  | .ptpSyncSend sync => sync.taps.length == 16
  | .pfcReceive _ _ quanta => quanta.length == 8
  | .thermalSample temps => temps.length == 48
  | .ctxSelWrite requester index => !requester || decide (index.val < 4096)
  | .challenge _ nonce => nonce.length == 32
  | .getMeasurements _ signed nonce => !signed || nonce.length == 32
  | .hostLinkUp cxl width rate _ _ _ => (if cxl then [4, 8] else [1, 4, 8]).contains width.val && decide (3 ≤ rate.val)
  | _ => true

end Sys2Proof
end

