-- ==== Sys2Proof/Machine/HostAccess.lean ====
section
/-! DEFINITION. Host accesses of BAR0 and BAR2: writes, reads with their latches, and the accesses that are discarded
(R4, R8, R12, R13, R35 to R39, R43, R52). -/

namespace Sys2Proof.Machine

/-! ## Reads -/

/-- A register's word after a reset: what its latch gives before any read of the pair (R12). -/
def resetWord (page off : Nat) : Nat := ({ State.reset with regs := [] } : State).word page off

/-- GEN_OLDEST and NONE_HELD (R221): the generations of the frames that have taken their ingress slot. With no frame held
GEN_OLDEST is a free value, but for a device in which there has been one generation only (log entry 149). -/
def State.generations (s : State) : Nat :=
  match (s.palm.frames.filter fun p => p.2.stage != .fifo).map fun p => p.2.gen with
  | [] => (if s.genNow = 1 then 1 else Config.unitReading 0x300088 s.free % 2 ^ 32) + 2 ^ 32
  | g :: gs => gs.foldl (fun a b => if older b a then b else a) g

/-- PAGE_STATUS with what follows from the block's state: RESET_BUSY and ASLEEP (R45, R47, R549). -/
def State.pageStatus (s : State) (page : Nat) : Nat :=
  putBit (putBit (s.word page 0x018) 1 (s.resetBusy page)) 3 (s.pageAsleep page)

/-- What a register holds for a reader: its fields, and for those that follow other state, that state. -/
def State.reading (s : State) (page off : Nat) : Nat :=
  if off = 0x018 then s.pageStatus page
  else match layoutOf page, off with
    | .hbd0, 0x090 => s.nowNs
    | .hbd0, 0x098 => s.now % nsUnits + s.tq * 2 ^ 16
    | .tbl0, 0x088 => s.generations
    | .ucs, 0x090 => s.word page 0x090 % 2 ^ 32 + 2 ^ 32 * sat 16 (s.oldBankFrames (page - 0x440))
    | .cntp, 0x428 => s.bwWindow (page - 0x1000)
    | .gnt2, _ =>
      if 0x800 ≤ off then leVal (slice (if s.on 0x22 F.gnt2_SNAP_SEL_SLOT then s.gnt.slot1 else s.gnt.slot0) (off - 0x800) 8)
      else s.word page off
    | .slii, _ => s.shown page off
    | .slie, _ => s.shown page off
    | .cxl0, 0x0A0 => s.word page off + (if s.on 0x380 F.cxl0_LINK_STATUS_ATS_EN then Config.unitReading 0x3800A0 s.free % 513 else 0)
    | .ddr0, 0x110 => Config.unitReading 0x340110 s.free % 2 ^ 48
    | _, _ => s.word page off



/-- R12: the companion of a pair, by a read of the NS register. -/
def latchHalf (page off : Nat) (s : State) : State :=
  { s with host := { s.host with latch := s.host.latch.enter (barOf page off) (s.reading page (off + 8)) } }

/-- A 64-bit read of a register and what it latches (R12, R37, R52, R403, R539). -/
def readReg (bar2 : Bool) (page off : Nat) (s : State) : Nat × State :=
  if s.stopped && (bar2 || page != 0) then (2 ^ 64 - 1, s)
  else if !present page || (bar2 && !s.on page F.hdr_PAGE_CTRL_USER_READ) then (0, s)
  else if off < 0x080 then (s.reading page off, s)
  else if s.shut page then (0, s)
  else
    let w := s.wakeClock page
    if (pairAt page off).isSome then (s.reading page off, latchHalf page off w)
    else if 0x088 ≤ off && (pairAt page (off - 8)).isSome then
      ((s.host.latch.at? (barOf page (off - 8))).getD (resetWord page off), w)
    else if layoutOf page = .cntp ∧ 0x400 ≤ off ∧ off ≤ 0x410 then
      let key := 2 * (page - 0x1000) + (if bar2 then 1 else 0)
      let r := s.bwRegs (page - 0x1000)
      if off = 0x400 then (r.end_, { w with vsr := { w.vsr with latched := w.vsr.latched.enter key (r.rx, r.tx) } })
      else if off = 0x408 then ((s.vsr.latched.val (0, 0) key).1, w)
      else ((s.vsr.latched.val (0, 0) key).2, w)
    else (s.reading page off, w)

/-- The 64-bit word of BAR4 at an address (R35, R57): the CXL component registers, zero in PCIe fall-back; the MSI-X table, 16
bytes a vector, address, data and Vector Control with the mask in its bit 0 (PRESUMED, PCI's layout, log entry 9); and the
pending bits. -/
def State.bar4Word (s : State) (a : Nat) : Nat :=
  if a < 0x10000 then
    (if s.on 0x380 F.cxl0_LINK_STATUS_MODE then 0 else Config.componentRegister a s.free % 2 ^ 64)
  else if a < 0x18000 then
    let v := (a - 0x10000) / 16
    if a % 16 = 0 then (s.host.table.val (0, 0) v).1
    else (s.host.table.val (0, 0) v).2 + (if s.host.unmasked.val false v then 0 else 2 ^ 32)
  else if a < 0x18100 then
    (List.range 64).foldl (fun n b => if s.host.pba.val false ((a - 0x18000) * 8 + b) then n + 2 ^ b else n) 0
  else 0

/-- The halves of a word that a read asks for (R8). -/
def halves (w : Nat) (low high : Bool) : Nat := if low then (if high then w else w % 2 ^ 32) else w / 2 ^ 32

/-- R8, R12: a read of a register, whole or of one half; a 32-bit read of an atomic-64 register returns zero and latches
nothing. -/
def hostRead (bar : Bar) (page off : Nat) (low high : Bool) (s : State) : State :=
  match bar with
  | .bar4 => { s with free := s.free + 1 }.send (.reply "READ" [halves (s.bar4Word (page * 0x1000 + off)) low high])
  | _ =>
    let bar2 := bar == .bar2
    let p := if bar2 then page + 0x1000 else page
    if !(low && high) && atomic64 p off && !(s.stopped && (bar2 || p != 0)) then s.send (.reply "READ" [0])
    else
      let r := readReg bar2 p off s
      { r.2 with free := r.2.free + 1 }.send (.reply "READ" [halves r.1 low high])

/-- T80_NS_READ (R8, R12, R35): an aligned read of 32 or 64 bits, of the NS register of a pair or of any other register, which
has no row of its own (log entry 158). -/
def execT80NsRead (read : ReadOf) (offset : BitVec 12) (s : State) : Out :=
  .next (s.given (offset.toNat % 8 == 0 && (read.low || read.high) && decide (read.page.toNat < barPages read.bar))
    (hostRead read.bar read.page.toNat offset.toNat read.low read.high))

/-! ## Writes -/

/-- REGISTER_WRITE (R4): a 64-bit write, or one of a 32-bit half (R8). -/
def execRegisterWrite (page : BitVec 14) (offset : BitVec 12) (data : Word) (low high : Bool) (s : State) : Out :=
  .next (s.given (offset.toNat % 8 == 0 && (low || high)) (hostWrite ⟨page.toNat, offset.toNat, data.toNat, low, high⟩))

/-- T80_PAIR_COMMIT (R13): a write of the NS register of a pair that the host writes. -/
def execT80PairCommit (page : BitVec 14) (offset : BitVec 12) (data : Word) (s : State) : Out :=
  .next (s.given (offset.toNat % 8 == 0 && (pairAt page.toNat offset.toNat).any fun p => p.1.acc != .ro)
    (hostWrite ⟨page.toNat, offset.toNat, data.toNat, true, true⟩))

/-! ## Accesses that are discarded -/

/-- BAR2_WRITE (R37). -/
def execBar2Write (address : BitVec 24) (s : State) : Out := .next (recordBad 1 address.toNat s)

/-- One 64-bit access of a longer request: its place in the request. -/
def splitAccess (bar2 : Bool) (write : Bool) (address : Nat) (data : List Byte) (acc : List Nat × State) (k : Nat) : List Nat × State :=
  let a := address + 8 * k
  let s := acc.2
  if write then
    (acc.1, if bar2 then recordBad 1 a s
      else hostWrite ⟨a / 0x1000, a % 0x1000, leVal (slice data (8 * k) 8), true, true⟩ s)
  else
    let r := readReg bar2 (a / 0x1000 + (if bar2 then 0x1000 else 0)) (a % 0x1000) s
    (acc.1 ++ [r.1], { r.2 with free := r.2.free + 1 })

/-- R39: an access whose size or alignment is not 32 or 64 bits, aligned: a longer aligned one is split; of any other, a write
is discarded and recorded, and a read returns zero. -/
def badSize (bar2 write : Bool) (address size : Nat) (data : List Byte) (s : State) : State :=
  if 8 < size ∧ size % 8 = 0 ∧ address % 8 = 0 then
    let r := (List.range (size / 8)).foldl (splitAccess bar2 write address data) ([], s)
    if write then r.2 else r.2.send (.reply "READ" r.1)
  else if write then recordBad (if bar2 then 1 else 2) address s
  else s.send (.reply "READ" [if s.stopped && (bar2 || decide (0x1000 ≤ address)) then 2 ^ (8 * size) - 1 else 0])

/-- BAD_SIZE_ACCESS (R39): a BAR, its offset, the size in bytes, and the bytes of a write. -/
def execBadSizeAccess (bar2 write : Bool) (address : BitVec 26) (size : BitVec 13) (data : List Byte) (s : State) : Out :=
  let a := address.toNat
  let n := size.toNat
  .next (s.given (decide (0 < n ∧ n ≤ 4096) && decide (a + n ≤ if bar2 then 2 ^ 24 else 2 ^ 26) &&
      !((n == 4 && a % 4 == 0) || (n == 8 && a % 8 == 0)) && (!write || data.length == n))
    (badSize bar2 write a n data))

/-- ABSENT_PAGE_ACCESS (R43): an aligned access of 32 or 64 bits to an absent page. -/
def execAbsentPageAccess (address : BitVec 26) (write : Bool) (s : State) : Out :=
  .next (s.given (!present (address.toNat / 0x1000)) fun s =>
    if write then recordBad 3 address.toNat s
    else s.send (.reply "READ" [if s.stopped then 2 ^ 64 - 1 else 0]))

end Sys2Proof.Machine
end

