-- ==== Sys2Proof/Machine/Jtag.lean ====
section
/-! DEFINITION. The test access port's instructions (R571, R572). The boundary-scan register's cells are not in the spec:
an instruction that puts the balls under its control is recorded in the instruction register, which selects it. -/

namespace Sys2Proof.Machine

/-- R571: an instruction is loaded. R572: with TEST_MODE 0 every opcode but BYPASS and IDCODE acts as BYPASS. -/
def loadTap (op : Nat) (s : State) : State :=
  s.given (s.boot.power != 0) fun s =>
    { s with boot := { s.boot with tapIr := if op = 0x01 ∨ op = 0xFF ∨ s.boot.testMode then op else 0xFF } }

/-- BYPASS (R571). -/
def execBypass (s : State) : Out := .next (loadTap 0xFF s)
/-- IDCODE (R571): version 0x0, part 0x1024, manufacturer code 0x59E. -/
def execIdcode (s : State) : Out :=
  .next (s.given (s.boot.power != 0) fun s => (loadTap 0x01 s).send (.reply "IDCODE" [0x01024B3D]))
/-- SAMPLE_PRELOAD (R571). -/
def execSamplePreload (s : State) : Out := .next (loadTap 0x02 s)
/-- EXTEST (R571). -/
def execExtest (s : State) : Out := .next (loadTap 0x03 s)
/-- EXTEST_PULSE (R571). -/
def execExtestPulse (s : State) : Out := .next (loadTap 0x04 s)
/-- EXTEST_TRAIN (R571). -/
def execExtestTrain (s : State) : Out := .next (loadTap 0x05 s)
/-- CLAMP (R571). -/
def execClamp (s : State) : Out := .next (loadTap 0x06 s)
/-- HIGHZ (R571). -/
def execHighz (s : State) : Out := .next (loadTap 0x07 s)

end Sys2Proof.Machine
end

