-- ==== Sys2Proof/Machine/Repair.lean ====
section
/-! DEFINITION. Patrol scrub, soft repair and Seam flits that cannot be corrected (R472 to R474). -/

namespace Sys2Proof.Machine

/-- The key of a row of an SRAM macro. -/
def rowKey (macro_ row : Nat) : Nat := macro_ * 2 ^ 32 + row % 2 ^ 32

/-- R473: a row's copy to a spare row starts, if its macro has one left that no copy has taken. -/
def startRepair (macro_ row : Nat) (s : State) : State :=
  let busy := (s.gnt.repairing.filter fun p => p.1 == macro_).length
  s.given (!s.gnt.repairing.contains (macro_, row) && decide (s.gnt.spareRows.val 0 macro_ + busy < 4)) fun s =>
    { s with gnt := { s.gnt with repairing := s.gnt.repairing ++ [(macro_, row)] } }

/-- R472, R473: a corrected word: GNT cause 4, and the row's run of passes, which calls for a repair at REPAIR_THRESH. -/
def scrubCorrected (macro_ row : Nat) (s : State) : State :=
  let pass := s.rd 0x21 F.gnt1_SCRUB_STATUS_PASSES
  let r := s.gnt.scrubRuns.val (0, 0) (rowKey macro_ row)
  let n := if r.2 = 0 then 1 else if r.1 = pass then r.2 else if r.1 + 1 = pass then r.2 + 1 else 1
  let s1 := { s with gnt := { s.gnt with scrubRuns := s.gnt.scrubRuns.put (0, 0) (rowKey macro_ row) (pass, n) } }.raise 0x20 4
  if n ≥ max 1 (s.rd 0x21 F.gnt1_SCRUB_CFG_REPAIR_THRESH) then startRepair macro_ row s1 else s1

/-- SCRUB_VISIT (R472, R473): the scrub reads a word; what it finds (0 no error, 1 corrected, 2 uncorrectable), the cell
of the Palm that the word belongs to, if any, with the frame that holds it, whether it is a word of a search table, and
whether it is the last of a pass. A table's word meets R241: SHADOW_RELOAD rewrites it. A word of another block is handled by
that block's own command: CONTEXT_LOST (R348), the counters' ECC (R404), DDR_SCRUB_VISIT. -/
def execScrubVisit (macro_ row : Nat) (found : Scrubbed) (cell : Option (Fin 1152 × Option Nat)) (last : Bool) (s : State) : Out :=
  .next (s.running fun s => s.given (s.on 0x21 F.gnt1_SCRUB_CFG_ENABLE) fun s =>
    let s1 := match found.ecc.val with
      | 0 => s
      | 1 => scrubCorrected macro_ row (if found.table then (s.raise 0x300 6).vector 278 else s)
      | _ =>
        let s1 := match cell with | some c => uncorrectedCell c.1.val c.2 s | none => s
        startRepair macro_ row (if found.table then (s1.raise 0x300 7).vector 278 else s1)
    if last then { s1.bump 0x21 F.gnt1_SCRUB_STATUS_PASSES with gnt := { s1.gnt with scrubStart := s1.now } } else s1)

/-- R473: the switch to the spare row: recorded in the MRAM repair table while that has room, GNT cause 5, and with the
macro's fourth spare row cause 6; a bank of the Palm whose macro is exhausted is triggered (R279). -/
def switchRow (macro_ row : Nat) (bank : Option Nat) (s : State) : State :=
  s.given (s.gnt.repairing.contains (macro_, row)) fun s =>
    let n := s.gnt.spareRows.val 0 macro_ + 1
    let room := decide (s.gnt.repairs.length < 8192)
    let s1 := { s with gnt := { s.gnt with
      repairing := s.gnt.repairing.filter fun p => p != (macro_, row)
      spareRows := s.gnt.spareRows.put 0 macro_ n
      scrubRuns := s.gnt.scrubRuns.put (0, 0) (rowKey macro_ row) (0, 0)
      repairs := if room then s.gnt.repairs ++ [(macro_, row)] else s.gnt.repairs } }
    let s2 := (s1.wr 0x21 F.gnt1_SCRUB_STATUS_REPAIRS s1.gnt.repairs.length).raise 0x20 5
    if n < 4 then s2
    else
      let s3 := (s2.bump 0x21 F.gnt1_SCRUB_STATUS_EXHAUSTED).raise 0x20 6
      match bank with | some b => triggerBank b s3 | none => s3

/-- SOFT_REPAIR (R473): the row whose copy completes, and the bank of the Palm that its macro serves, if any. -/
def execSoftRepair (macro_ row : Nat) (bank : Option (Fin 1152)) (s : State) : Out :=
  .next (s.running (switchRow macro_ row (bank.map (·.val))))

/-- A frame with bytes in an uncorrectable flit: it counts as having a bad FCS when its tail is judged (R157, R268); one
already judged is bad from now on (R268, R270). -/
def marFrame (id : Nat) (s : State) : State :=
  s.onFrame id fun f s =>
    if f.verdict.isNone then s.putFrame id { f with marred := true } else badTail id 0xF9 s

/-- SEAM_FLIT_UNCORRECTABLE (R474): the link (8: the I/O die's), the frames with bytes in the flit on their way in, and
the replicas on their way out. -/
def execSeamFlitUncorrectable (link : Fin 9) (frames replicas : List Nat) (s : State) : Out :=
  .next (s.running fun s =>
    let s1 := if link.val = 8 then s.bump 0x21 F.gnt1_IOD_SEAM_STATUS_FLIT_UNCORRECTABLE
      else s.bump (0x500 + link.val) F.til_SEAM_STATUS_FLIT_CRC_ERRORS
    let s2 := frames.foldl (fun t f => marFrame f t) s1
    (replicas.foldl (fun t r => stompReplica r true t) s2).raise 0x20 3)

end Sys2Proof.Machine
end

