-- ==== Sys2Proof/Machine/Dispatch.lean ====
section
/-! DEFINITION. One arm per command: each calls its meaning, or rejects the command by name. -/

namespace Sys2Proof.Machine

def exec (i : Instr) (s : State) : Host.Outcome State Fault Refusal :=
  match i with
  | .registerWrite page offset data low high => Sys2Proof.Machine.execRegisterWrite page offset data low high s
  | .t80NsRead read offset => Sys2Proof.Machine.execT80NsRead read offset s
  | .t80PairCommit page offset data => Sys2Proof.Machine.execT80PairCommit page offset data s
  | .frameReceive port tap bytes fifoFull => Sys2Proof.Machine.execFrameReceive port tap bytes fifoFull s
  | .ingressSlotAssign slice => Sys2Proof.Machine.execIngressSlotAssign slice s
  | .engineAssign egress id bad => Sys2Proof.Machine.execEngineAssign egress id bad s
  | .microwordIssue egress id bad wait late => Sys2Proof.Machine.execMicrowordIssue egress id bad wait late s
  | .goldenRepair slice loc ok => Sys2Proof.Machine.execGoldenRepair slice loc ok s
  | .poisonRewrite slice loc => Sys2Proof.Machine.execPoisonRewrite slice loc s
  | .searchResultWritten frame ecc => Sys2Proof.Machine.execSearchResultWritten frame ecc s
  | .sessionDecision frame corrected => Sys2Proof.Machine.execSessionDecision frame corrected s
  | .ringWrite => Sys2Proof.Machine.execRingWrite s
  | .queueAssign frame cells => Sys2Proof.Machine.execQueueAssign frame cells s
  | .frameTailVerdict frame fec lockLost reassembly => Sys2Proof.Machine.execFrameTailVerdict frame fec lockLost reassembly s
  | .schedulerSelect port => Sys2Proof.Machine.execSchedulerSelect port s
  | .underrun replica => Sys2Proof.Machine.execUnderrun replica s
  | .egressTransmit replica tap => Sys2Proof.Machine.execEgressTransmit replica tap s
  | .transmitComplete replica => Sys2Proof.Machine.execTransmitComplete replica s
  | .headerRingFlush ring => Sys2Proof.Machine.execHeaderRingFlush ring s
  | .refLost side => Sys2Proof.Machine.execRefLost side s
  | .bar2Write address => Sys2Proof.Machine.execBar2Write address s
  | .badSizeAccess bar2 write address size data => Sys2Proof.Machine.execBadSizeAccess bar2 write address size data s
  | .absentPageAccess address write => Sys2Proof.Machine.execAbsentPageAccess address write s
  | .blockReset page => Sys2Proof.Machine.execBlockReset page s
  | .blockResetComplete page => Sys2Proof.Machine.execBlockResetComplete page s
  | .quenchClose page present => Sys2Proof.Machine.execQuenchClose page present s
  | .errInject page causes => Sys2Proof.Machine.execErrInject page causes s
  | .errClassMapWrite page data => Sys2Proof.Machine.execErrClassMapWrite page data s
  | .msixUnmask entry => Sys2Proof.Machine.execMsixUnmask entry s
  | .replicaCompare offsets => Sys2Proof.Machine.execReplicaCompare offsets s
  | .replicaResyncDone tile => Sys2Proof.Machine.execReplicaResyncDone tile s
  | .ppsInEdge input phase cycles0 cycles1 => Sys2Proof.Machine.execPpsInEdge input phase cycles0 cycles1 s
  | .ppsEdgeMissed input => Sys2Proof.Machine.execPpsEdgeMissed input s
  | .todSentenceReceived dollar bytes fits => Sys2Proof.Machine.execTodSentenceReceived dollar bytes fits s
  | .todOutSentence => Sys2Proof.Machine.execTodOutSentence s
  | .ptpMessageReceive port taps msg fits => Sys2Proof.Machine.execPtpMessageReceive port taps msg fits s
  | .ptpTimeout entry => Sys2Proof.Machine.execPtpTimeout entry s
  | .peerAgeOut port entry => Sys2Proof.Machine.execPeerAgeOut port entry s
  | .revertHoldoff entry => Sys2Proof.Machine.execRevertHoldoff entry s
  | .refCfgWrite entry data => Sys2Proof.Machine.execRefCfgWrite entry data s
  | .servoModeChange mode => Sys2Proof.Machine.execServoModeChange mode s
  | .setTime ns => Sys2Proof.Machine.execSetTime ns s
  | .lockVerified => Sys2Proof.Machine.execLockVerified s
  | .relockComplete => Sys2Proof.Machine.execRelockComplete s
  | .slewEnd => Sys2Proof.Machine.execSlewEnd s
  | .holdoverRecompute => Sys2Proof.Machine.execHoldoverRecompute s
  | .historyWrite slope spanHours => Sys2Proof.Machine.execHistoryWrite slope spanHours s
  | .histClear => Sys2Proof.Machine.execHistClear s
  | .bandLockstep => Sys2Proof.Machine.execBandLockstep s
  | .timePllUnlock => Sys2Proof.Machine.execTimePllUnlock s
  | .ptpSyncSend sync => Sys2Proof.Machine.execPtpSyncSend sync s
  | .ptpAnnounceSend port => Sys2Proof.Machine.execPtpAnnounceSend port s
  | .makeStatic => Sys2Proof.Machine.execMakeStatic s
  | .makeLearned => Sys2Proof.Machine.execMakeLearned s
  | .free => Sys2Proof.Machine.execFree s
  | .peerSelWrite port entry => Sys2Proof.Machine.execPeerSelWrite port entry s
  | .denoonHelloSend => Sys2Proof.Machine.execDenoonHelloSend s
  | .denoonHelloReceive port hello => Sys2Proof.Machine.execDenoonHelloReceive port hello s
  | .memberTimeout chip => Sys2Proof.Machine.execMemberTimeout chip s
  | .primarySwitch => Sys2Proof.Machine.execPrimarySwitch s
  | .ppsOutPulse output rise => Sys2Proof.Machine.execPpsOutPulse output rise s
  | .ppsOutCfgWrite output data low high => Sys2Proof.Machine.execPpsOutCfgWrite output data low high s
  | .clkOutCfgWrite data low high => Sys2Proof.Machine.execClkOutCfgWrite data low high s
  | .clkOutStart => Sys2Proof.Machine.execClkOutStart s
  | .tqChange => Sys2Proof.Machine.execTqChange s
  | .fineTrimStep lane up => Sys2Proof.Machine.execFineTrimStep lane up s
  | .fineTrimFreeze lane windows => Sys2Proof.Machine.execFineTrimFreeze lane windows s
  | .fineTrimResume lane windows => Sys2Proof.Machine.execFineTrimResume lane windows s
  | .wanderSample lane phase => Sys2Proof.Machine.execWanderSample lane phase s
  | .cdrLock lane => Sys2Proof.Machine.execCdrLock lane s
  | .cdrLockLoss lane => Sys2Proof.Machine.execCdrLockLoss lane s
  | .apply => Sys2Proof.Machine.execApply s
  | .discard => Sys2Proof.Machine.execDiscard s
  | .calTrimEffect => Sys2Proof.Machine.execCalTrimEffect s
  | .calSaveDone ok => Sys2Proof.Machine.execCalSaveDone ok s
  | .statSelWrite lane => Sys2Proof.Machine.execStatSelWrite lane s
  | .statClear lane => Sys2Proof.Machine.execStatClear lane s
  | .octCfgWrite octet data => Sys2Proof.Machine.execOctCfgWrite octet data s
  | .octetPllLock octet => Sys2Proof.Machine.execOctetPllLock octet s
  | .octetPllUnlock octet => Sys2Proof.Machine.execOctetPllUnlock octet s
  | .portEnable port => Sys2Proof.Machine.execPortEnable port s
  | .portDisable port => Sys2Proof.Machine.execPortDisable port s
  | .restart port => Sys2Proof.Machine.execRestart port s
  | .laneSignalDetect lane energy => Sys2Proof.Machine.execLaneSignalDetect lane energy s
  | .anComplete port denoon techs rs baseR => Sys2Proof.Machine.execAnComplete port denoon techs rs baseR s
  | .anTimeout port => Sys2Proof.Machine.execAnTimeout port s
  | .denoonCapSend port => Sys2Proof.Machine.execDenoonCapSend port s
  | .denoonCapReceive port msg serial sender width rates fec rate chosen delay => Sys2Proof.Machine.execDenoonCapReceive port msg serial sender width rates fec rate chosen delay s
  | .retune port => Sys2Proof.Machine.execRetune port s
  | .exchangeTimeout port => Sys2Proof.Machine.execExchangeTimeout port s
  | .retuneLocked port => Sys2Proof.Machine.execRetuneLocked port s
  | .retuneTimeout port => Sys2Proof.Machine.execRetuneTimeout port s
  | .trainingComplete port => Sys2Proof.Machine.execTrainingComplete port s
  | .trainingTimeout port => Sys2Proof.Machine.execTrainingTimeout port s
  | .coefficientRequest lane preset tap up => Sys2Proof.Machine.execCoefficientRequest lane preset tap up s
  | .lineError port kind => Sys2Proof.Machine.execLineError port kind s
  | .qualifyComplete port => Sys2Proof.Machine.execQualifyComplete port s
  | .laneLockLoss lane back => Sys2Proof.Machine.execLaneLockLoss lane back s
  | .linkDown port => Sys2Proof.Machine.execLinkDown port s
  | .txLpiEntry port => Sys2Proof.Machine.execTxLpiEntry port s
  | .txLpiWake port => Sys2Proof.Machine.execTxLpiWake port s
  | .rxLpiChange port on_ => Sys2Proof.Machine.execRxLpiChange port on_ s
  | .laneCtrlWrite lane data => Sys2Proof.Machine.execLaneCtrlWrite lane data s
  | .eqOverrideWrite lane which data => Sys2Proof.Machine.execEqOverrideWrite lane which data s
  | .pfcReceive port named quanta => Sys2Proof.Machine.execPfcReceive port named quanta s
  | .pfcQuantaExpiry port priority => Sys2Proof.Machine.execPfcQuantaExpiry port priority s
  | .pfcResend port cls => Sys2Proof.Machine.execPfcResend port cls s
  | .etsCfgWrite port data => Sys2Proof.Machine.execEtsCfgWrite port data s
  | .preemptCfgWrite port data => Sys2Proof.Machine.execPreemptCfgWrite port data s
  | .preemptVerifyAttempt port => Sys2Proof.Machine.execPreemptVerifyAttempt port s
  | .preemptVerifyResponse port => Sys2Proof.Machine.execPreemptVerifyResponse port s
  | .eyeRefresh lane height width => Sys2Proof.Machine.execEyeRefresh lane height width s
  | .arm slice => Sys2Proof.Machine.execArm slice s
  | .bankAbort slice => Sys2Proof.Machine.execBankAbort slice s
  | .clearStats slice => Sys2Proof.Machine.execClearStats slice s
  | .csSelWrite slice addr bank region => Sys2Proof.Machine.execCsSelWrite slice addr bank region s
  | .stagingComplete slice readback => Sys2Proof.Machine.execStagingComplete slice readback s
  | .drainComplete slice => Sys2Proof.Machine.execDrainComplete slice s
  | .drainSlow slice => Sys2Proof.Machine.execDrainSlow slice s
  | .resyncComplete slice => Sys2Proof.Machine.execResyncComplete slice s
  | .cqDoorbell queue tail descs => Sys2Proof.Machine.execCqDoorbell queue tail descs s
  | .cqFetchErr queue translation => Sys2Proof.Machine.execCqFetchErr queue translation s
  | .cqEnable queue data => Sys2Proof.Machine.execCqEnable queue data s
  | .search queue => Sys2Proof.Machine.execSearch queue s
  | .next queue => Sys2Proof.Machine.execNext queue s
  | .insert queue path choice => Sys2Proof.Machine.execInsert queue path choice s
  | .delete queue => Sys2Proof.Machine.execDelete queue s
  | .modify queue => Sys2Proof.Machine.execModify queue s
  | .flushByPort queue => Sys2Proof.Machine.execFlushByPort queue s
  | .ageSweep queue => Sys2Proof.Machine.execAgeSweep queue s
  | .genDrain queue => Sys2Proof.Machine.execGenDrain queue s
  | .genDrainComplete queue => Sys2Proof.Machine.execGenDrainComplete queue s
  | .genDrainSlow queue => Sys2Proof.Machine.execGenDrainSlow queue s
  | .epochCommit queue => Sys2Proof.Machine.execEpochCommit queue s
  | .epochAbort queue => Sys2Proof.Machine.execEpochAbort queue s
  | .epochSealComplete journalOk => Sys2Proof.Machine.execEpochSealComplete journalOk s
  | .epochEffect => Sys2Proof.Machine.execEpochEffect s
  | .epochSettleComplete => Sys2Proof.Machine.execEpochSettleComplete s
  | .versionRetire table index => Sys2Proof.Machine.execVersionRetire table index s
  | .learnApply path => Sys2Proof.Machine.execLearnApply path s
  | .moveHoldExpiry => Sys2Proof.Machine.execMoveHoldExpiry s
  | .ageSweeperVisit index => Sys2Proof.Machine.execAgeSweeperVisit index s
  | .stashMoveBack entry => Sys2Proof.Machine.execStashMoveBack entry s
  | .shadowWrite table index ok => Sys2Proof.Machine.execShadowWrite table index ok s
  | .shadowReload table places lost => Sys2Proof.Machine.execShadowReload table places lost s
  | .mcgSelWrite group => Sys2Proof.Machine.execMcgSelWrite group s
  | .mcgCommit => Sys2Proof.Machine.execMcgCommit s
  | .poolCfgWrite which data low high => Sys2Proof.Machine.execPoolCfgWrite which data low high s
  | .qSelWrite slice port queue => Sys2Proof.Machine.execQSelWrite slice port queue s
  | .pgSelWrite slice port cls => Sys2Proof.Machine.execPgSelWrite slice port cls s
  | .cellEccError bank corrected frame => Sys2Proof.Machine.execCellEccError bank corrected frame s
  | .bankTaiSecond bank => Sys2Proof.Machine.execBankTaiSecond bank s
  | .spareCmd bank go => Sys2Proof.Machine.execSpareCmd bank go s
  | .spareCopyComplete lost => Sys2Proof.Machine.execSpareCopyComplete lost s
  | .mergeEnable group => Sys2Proof.Machine.execMergeEnable group s
  | .mergeDisable group => Sys2Proof.Machine.execMergeDisable group s
  | .mergeArrival frame => Sys2Proof.Machine.execMergeArrival frame s
  | .mergeEmit group ecc => Sys2Proof.Machine.execMergeEmit group ecc s
  | .seedDraw group => Sys2Proof.Machine.execSeedDraw group s
  | .seedPublish group => Sys2Proof.Machine.execSeedPublish group s
  | .memberAbsent group slot => Sys2Proof.Machine.execMemberAbsent group slot s
  | .memberPresent group slot => Sys2Proof.Machine.execMemberPresent group slot s
  | .releaseEnable group => Sys2Proof.Machine.execReleaseEnable group s
  | .releaseDisable group => Sys2Proof.Machine.execReleaseDisable group s
  | .releaseHold frame cells => Sys2Proof.Machine.execReleaseHold frame cells s
  | .releaseAtWrite group ns => Sys2Proof.Machine.execReleaseAtWrite group ns s
  | .releaseWindowOpen group => Sys2Proof.Machine.execReleaseWindowOpen group s
  | .releaseCutoff group => Sys2Proof.Machine.execReleaseCutoff group s
  | .releasePreempt group => Sys2Proof.Machine.execReleasePreempt group s
  | .release group => Sys2Proof.Machine.execRelease group s
  | .releaseWindowClose group => Sys2Proof.Machine.execReleaseWindowClose group s
  | .dEffChange group => Sys2Proof.Machine.execDEffChange group s
  | .disable => Sys2Proof.Machine.execDisable s
  | .contextArm => Sys2Proof.Machine.execContextArm s
  | .setExpected => Sys2Proof.Machine.execSetExpected s
  | .clearGaps => Sys2Proof.Machine.execClearGaps s
  | .ctxSelWrite requester index => Sys2Proof.Machine.execCtxSelWrite requester index s
  | .legDown context => Sys2Proof.Machine.execLegDown context s
  | .gapExpired context => Sys2Proof.Machine.execGapExpired context s
  | .retxRequestServe bad lost => Sys2Proof.Machine.execRetxRequestServe bad lost s
  | .tokenRefill => Sys2Proof.Machine.execTokenRefill s
  | .reqEnable refill burst => Sys2Proof.Machine.execReqEnable refill burst s
  | .contextLost frame => Sys2Proof.Machine.execContextLost frame s
  | .ledgerRecordEntry stream buffer => Sys2Proof.Machine.execLedgerRecordEntry stream buffer s
  | .selectionCommit => Sys2Proof.Machine.execSelectionCommit s
  | .anchorInstant failed gone => Sys2Proof.Machine.execAnchorInstant failed gone s
  | .anchorSigned result journalOk => Sys2Proof.Machine.execAnchorSigned result journalOk s
  | .anchorMissed => Sys2Proof.Machine.execAnchorMissed s
  | .blockWrite stream => Sys2Proof.Machine.execBlockWrite stream s
  | .ledgerEnable => Sys2Proof.Machine.execLedgerEnable s
  | .ledgerDisable => Sys2Proof.Machine.execLedgerDisable s
  | .streamEnableChange stream on_ => Sys2Proof.Machine.execStreamEnableChange stream on_ s
  | .sealWritten result journalOk => Sys2Proof.Machine.execSealWritten result journalOk s
  | .exportSend entry => Sys2Proof.Machine.execExportSend entry s
  | .counterEvent event inst bytes at_ => Sys2Proof.Machine.execCounterEvent event inst bytes at_ s
  | .evselWrite counter data => Sys2Proof.Machine.execEvselWrite counter data s
  | .bwEndRead port bar2 => Sys2Proof.Machine.execBwEndRead port bar2 s
  | .bwWindowClose port => Sys2Proof.Machine.execBwWindowClose port s
  | .snapAtWrite ns => Sys2Proof.Machine.execSnapAtWrite ns s
  | .snapCancel => Sys2Proof.Machine.execSnapCancel s
  | .snapshotClose => Sys2Proof.Machine.execSnapshotClose s
  | .snapshotComplete => Sys2Proof.Machine.execSnapshotComplete s
  | .snapSlow => Sys2Proof.Machine.execSnapSlow s
  | .traceEnable slice drbg rate => Sys2Proof.Machine.execTraceEnable slice drbg rate s
  | .counterEccError page offset kind => Sys2Proof.Machine.execCounterEccError page offset kind s
  | .powerVote domain source vote => Sys2Proof.Machine.execPowerVote domain source vote s
  | .holdoffExpiry domain => Sys2Proof.Machine.execHoldoffExpiry domain s
  | .privilegedAnswer domain busy delay => Sys2Proof.Machine.execPrivilegedAnswer domain busy delay s
  | .handshakeNoAnswer domain => Sys2Proof.Machine.execHandshakeNoAnswer domain s
  | .delayExpiry domain => Sys2Proof.Machine.execDelayExpiry domain s
  | .domainEntryComplete domain => Sys2Proof.Machine.execDomainEntryComplete domain s
  | .clockGate domain demand => Sys2Proof.Machine.execClockGate domain demand s
  | .avsAck => Sys2Proof.Machine.execAvsAck s
  | .avsTimeout => Sys2Proof.Machine.execAvsTimeout s
  | .wakeStageComplete domain lost => Sys2Proof.Machine.execWakeStageComplete domain lost s
  | .wakeStageTimeout domain => Sys2Proof.Machine.execWakeStageTimeout domain s
  | .reinitComplete domain => Sys2Proof.Machine.execReinitComplete domain s
  | .retryWake => Sys2Proof.Machine.execRetryWake s
  | .domSelWrite domain => Sys2Proof.Machine.execDomSelWrite domain s
  | .vddLowOff => Sys2Proof.Machine.execVddLowOff s
  | .xtalLost => Sys2Proof.Machine.execXtalLost s
  | .estimatorPeriod parts core => Sys2Proof.Machine.execEstimatorPeriod parts core s
  | .capWrite data => Sys2Proof.Machine.execCapWrite data s
  | .powerCalStart => Sys2Proof.Machine.execPowerCalStart s
  | .powerCalComplete residual => Sys2Proof.Machine.execPowerCalComplete residual s
  | .useFused => Sys2Proof.Machine.execUseFused s
  | .droopCrossing detector stretched => Sys2Proof.Machine.execDroopCrossing detector stretched s
  | .droopOverrun => Sys2Proof.Machine.execDroopOverrun s
  | .thermalSample temps => Sys2Proof.Machine.execThermalSample temps s
  | .thermtrip => Sys2Proof.Machine.execThermtrip s
  | .lineLatch line fired => Sys2Proof.Machine.execLineLatch line fired s
  | .lineStatusClear k data => Sys2Proof.Machine.execLineStatusClear k data s
  | .lineSelWrite line => Sys2Proof.Machine.execLineSelWrite line s
  | .escalationEnd line => Sys2Proof.Machine.execEscalationEnd line s
  | .gntRegParity => Sys2Proof.Machine.execGntRegParity s
  | .safeStateEntry => Sys2Proof.Machine.execSafeStateEntry s
  | .sequencerSeal signed_ toDdr journalOk => Sys2Proof.Machine.execSequencerSeal signed_ toDdr journalOk s
  | .faultSnapshotWrite => Sys2Proof.Machine.execFaultSnapshotWrite s
  | .snapSelWrite slot => Sys2Proof.Machine.execSnapSelWrite slot s
  | .scrubVisit macro_ row found cell last => Sys2Proof.Machine.execScrubVisit macro_ row found cell last s
  | .softRepair macro_ row bank => Sys2Proof.Machine.execSoftRepair macro_ row bank s
  | .seamWireCheck link down wire check => Sys2Proof.Machine.execSeamWireCheck link down wire check s
  | .seamSpareSwitch link down wire => Sys2Proof.Machine.execSeamSpareSwitch link down wire s
  | .seamFlitUncorrectable link frames replicas => Sys2Proof.Machine.execSeamFlitUncorrectable link frames replicas s
  | .wearHour samples restarted => Sys2Proof.Machine.execWearHour samples restarted s
  | .wearSelWrite kind index => Sys2Proof.Machine.execWearSelWrite kind index s
  | .hostLinkUp cxl width rate cacheEn memEn atsEn => Sys2Proof.Machine.execHostLinkUp cxl width rate cacheEn memEn atsEn s
  | .hostLinkDown => Sys2Proof.Machine.execHostLinkDown s
  | .hdmRead address => Sys2Proof.Machine.execHdmRead address s
  | .hdmWrite address => Sys2Proof.Machine.execHdmWrite address s
  | .atsInvalidation => Sys2Proof.Machine.execAtsInvalidation s
  | .mailboxGo => Sys2Proof.Machine.execMailboxGo s
  | .crownRingDoorbell tail descs => Sys2Proof.Machine.execCrownRingDoorbell tail descs s
  | .crownRingFetchErr translation => Sys2Proof.Machine.execCrownRingFetchErr translation s
  | .nop ring => Sys2Proof.Machine.execNop ring s
  | .getVersions ring => Sys2Proof.Machine.execGetVersions ring s
  | .bundleStage ring bytes error => Sys2Proof.Machine.execBundleStage ring bytes error s
  | .bundleDrop ring => Sys2Proof.Machine.execBundleDrop ring s
  | .ucodeLoad ring => Sys2Proof.Machine.execUcodeLoad ring s
  | .fwUpdate ring => Sys2Proof.Machine.execFwUpdate ring s
  | .fwConfirm ring => Sys2Proof.Machine.execFwConfirm ring s
  | .fwRollback ring => Sys2Proof.Machine.execFwRollback ring s
  | .fwAbort ring => Sys2Proof.Machine.execFwAbort ring s
  | .svnCommit ring => Sys2Proof.Machine.execSvnCommit ring s
  | .ddrRead ring => Sys2Proof.Machine.execDdrRead ring s
  | .fwSelftestDone passed => Sys2Proof.Machine.execFwSelftestDone passed s
  | .fwSwitchStart => Sys2Proof.Machine.execFwSwitchStart s
  | .fwSwitchComplete => Sys2Proof.Machine.execFwSwitchComplete s
  | .confirmTimeout => Sys2Proof.Machine.execConfirmTimeout s
  | .fwResyncComplete missed => Sys2Proof.Machine.execFwResyncComplete missed s
  | .checkpointWrite => Sys2Proof.Machine.execCheckpointWrite s
  | .crownPairFailure standby kind afterHandover => Sys2Proof.Machine.execCrownPairFailure standby kind afterHandover s
  | .takeoverComplete => Sys2Proof.Machine.execTakeoverComplete s
  | .doeDiscovery index => Sys2Proof.Machine.execDoeDiscovery index s
  | .getVersion => Sys2Proof.Machine.execGetVersion s
  | .getCapabilities => Sys2Proof.Machine.execGetCapabilities s
  | .negotiateAlgorithms => Sys2Proof.Machine.execNegotiateAlgorithms s
  | .getDigests => Sys2Proof.Machine.execGetDigests s
  | .getCertificate slot offset length => Sys2Proof.Machine.execGetCertificate slot offset length s
  | .challenge slot nonce => Sys2Proof.Machine.execChallenge slot nonce s
  | .getMeasurements index signed nonce => Sys2Proof.Machine.execGetMeasurements index signed nonce s
  | .spdmUnsupportedRequest => Sys2Proof.Machine.execSpdmUnsupportedRequest s
  | .doeTimeout => Sys2Proof.Machine.execDoeTimeout s
  | .retxGibWrite data => Sys2Proof.Machine.execRetxGibWrite data s
  | .ddrTrainingComplete channel ok => Sys2Proof.Machine.execDdrTrainingComplete channel ok s
  | .marginCheck channel read write => Sys2Proof.Machine.execMarginCheck channel read write s
  | .ddrEccError address corrected => Sys2Proof.Machine.execDdrEccError address corrected s
  | .ddrScrubVisit address => Sys2Proof.Machine.execDdrScrubVisit address s
  | .dramTempRead channel temp => Sys2Proof.Machine.execDramTempRead channel temp s
  | .powerOnReset gpio0 testMode => Sys2Proof.Machine.execPowerOnReset gpio0 testMode s
  | .warmReset => Sys2Proof.Machine.execWarmReset s
  | .warmResetApply gpio0 testMode => Sys2Proof.Machine.execWarmResetApply gpio0 testMode s
  | .perst level => Sys2Proof.Machine.execPerst level s
  | .powerRemoval hold => Sys2Proof.Machine.execPowerRemoval hold s
  | .bootStepComplete step facts => Sys2Proof.Machine.execBootStepComplete step facts s
  | .bypass => Sys2Proof.Machine.execBypass s
  | .idcode => Sys2Proof.Machine.execIdcode s
  | .samplePreload => Sys2Proof.Machine.execSamplePreload s
  | .extest => Sys2Proof.Machine.execExtest s
  | .extestPulse => Sys2Proof.Machine.execExtestPulse s
  | .extestTrain => Sys2Proof.Machine.execExtestTrain s
  | .clamp => Sys2Proof.Machine.execClamp s
  | .highz => Sys2Proof.Machine.execHighz s
  | .clkOutEdge => Sys2Proof.Machine.execClkOutEdge s
  | .delayReqSend port tap => Sys2Proof.Machine.execDelayReqSend port tap s
  | .remoteFault port on_ => Sys2Proof.Machine.execRemoteFault port on_ s
  | .vddAonUp => Sys2Proof.Machine.execVddAonUp s
  | .selfRefreshEntry => Sys2Proof.Machine.execSelfRefreshEntry s
  | .snoop => Sys2Proof.Machine.execSnoop s

end Sys2Proof.Machine
end

