-- ==== Sys2Proof/Safety.lean ====
section
/-! DEFINITION. What holds of every state that the device's commands leave: the terms in which statements say it. -/

namespace Sys2Proof

open Sys2Proof.Machine

/-- The parts of the state: one for each field of State. -/
inductive Piece where
  /-- The queue of waiting commands. -/
  | pending
  /-- The register fields. -/
  | regs
  /-- TIME. -/
  | time
  /-- The counter of the free values. -/
  | free
  /-- What the device has sent. -/
  | out
  /-- The bytes of DDR5. -/
  | ddr
  /-- The poisoned lines of DDR5. -/
  | poison
  /-- MSI-X masks, pending bits and companion words. -/
  | host
  /-- What the W1C latches hold besides their registers. -/
  | latches
  /-- Hatband. -/
  | hat
  /-- The periodic instants handled. -/
  | ticks
  /-- The stamp units. -/
  | stamps
  /-- The control stores. -/
  | ucs
  /-- Lanes and ports. -/
  | brim
  /-- Tables and their command queues. -/
  | tbl
  /-- Frames and the Palm. -/
  | palm
  /-- Merge and release groups. -/
  | timing
  /-- Sessions. -/
  | ses
  /-- The ledger. -/
  | ldg
  /-- Visor. -/
  | vsr
  /-- Mitten. -/
  | mtn
  /-- Power estimation and capping. -/
  | pwc
  /-- Gauntlet. -/
  | gnt
  /-- Crown. -/
  | crown
  /-- DIMMs and training. -/
  | dram
  /-- Reset and boot. -/
  | boot
  deriving DecidableEq, Repr

/-- Two states agree on a part. -/
def Piece.same (s t : State) : Piece → Prop
  | .pending => t.pending = s.pending
  | .regs => t.regs = s.regs
  | .time => t.time = s.time
  | .free => t.free = s.free
  | .out => t.out = s.out
  | .ddr => t.ddr = s.ddr
  | .poison => t.poison = s.poison
  | .host => t.host = s.host
  | .latches => t.latches = s.latches
  | .hat => t.hat = s.hat
  | .ticks => t.ticks = s.ticks
  | .stamps => t.stamps = s.stamps
  | .ucs => t.ucs = s.ucs
  | .brim => t.brim = s.brim
  | .tbl => t.tbl = s.tbl
  | .palm => t.palm = s.palm
  | .timing => t.timing = s.timing
  | .ses => t.ses = s.ses
  | .ldg => t.ldg = s.ldg
  | .vsr => t.vsr = s.vsr
  | .mtn => t.mtn = s.mtn
  | .pwc => t.pwc = s.pwc
  | .gnt => t.gnt = s.gnt
  | .crown => t.crown = s.crown
  | .dram => t.dram = s.dram
  | .boot => t.boot = s.boot

/-- Only the parts named may differ from one state to a later one. -/
def Only (ps : List Piece) (s t : State) : Prop := ∀ p, p ∉ ps → Piece.same s t p

/-- On the pages outside a list every register is as it was. -/
def RegsOnly (pages : List Nat) (s t : State) : Prop := ∀ k, pageOfKey k ∉ pages → t.regs.at? k = s.regs.at? k

/-- What a state says of itself is as its sparse maps' canonical form asks: registers are listed each once, in rising order,
and DDR5 lists each byte once, in rising order, and none that an unlisted one has. -/
def Canonical (s : State) : Prop := s.ddr.wf 0 = true ∧ s.regs.sorted = true

/-- Every command that waits could have been sent. -/
def QueueWf (s : State) : Prop := s.pending.all Instr.wf = true

end Sys2Proof
end

