-- ==== Sys2Proof/Certificates/Slice0/Obligations.lean ====
section
/-! DEFINITION. The statements for the provers: the step, the invariants every step keeps, the rules of spec/ that hold of
many commands, and for every command of the table where it completes, with what effect, and what it leaves. A frame
`Only [parts] s t` says that every part of the state outside the list is unchanged; `RegsOnly pages s t` says that of the
register fields only those of the listed pages may change. -/

open Sys2Proof Sys2Proof.Machine


/-- For every command c, every rest r of the queue and every state s: step of s with c in front of r is exec c on s with the queue r. (A block has no rule for a queue: the queue is the model's, log entry 4.) -/
def Obligations.StepRunsTheFrontCommand : Prop :=
   ∀ (c : Instr) (r : List Instr) (s : State), step { s with pending := c :: r } = exec c { s with pending := r }

/-- On an empty queue the step answers a next state whose queue is empty. TIME has risen by the rate word modulo 2^112, or is unchanged where TIME has stopped. That a step on an empty queue is one TIME cycle is a DESIGN CHOICE, log entry 4. -/
def Obligations.IdleStepFeedsTime : Prop :=
   ∀ s : State, s.pending = [] → ∃ t, step s = .next t ∧ t.pending = [] ∧
  t.time = (if s.hat.timeStopped then s.time else (s.time + s.rateWord) % 2 ^ 112) ∧
  Only [.time, .hat, .mtn, .regs, .out] s t

/-- State.reset has an empty queue, every waiting command is well-formed, the register map and the memory of DDR5 are in canonical form, and the device is neither in the safe state nor quiescing. -/
def Obligations.ResetMeetsTheInvariants : Prop :=
   State.reset.pending = [] ∧ QueueWf State.reset ∧ Canonical State.reset ∧ State.reset.stopped = false

/-- For every state s whose queue holds only well-formed commands: if step s answers the next state t, t's queue holds only well-formed commands. No command adds to the queue. -/
def Obligations.StepKeepsTheQueueWellFormed : Prop :=
   ∀ s t : State, QueueWf s → step s = .next t → QueueWf t

/-- For every state s in which the keys of the register map rise strictly, the addresses of the memory of DDR5 rise strictly and no listed byte is the byte an unlisted address reads: if step s answers the next state t, the same holds of t, whatever command ran and whether the queue was empty. -/
def Obligations.StepKeepsTheCanonicalForm : Prop :=
   ∀ s t : State, Canonical s → step s = .next t → Canonical t

/-- For every command c and every state s there is a next state t with exec c s = next t, and t's queue is that of s. (No command faults or is refused; the queue is changed by step alone.) -/
def Obligations.NoCommandTouchesTheQueue : Prop :=
   ∀ (c : Instr) (s : State), ∃ t, exec c s = .next t ∧ t.pending = s.pending

/-- While the device is stopped (the safe state, or a warm reset committed and not yet applied) a host write of any register of a present page, by REGISTER_WRITE or by one of the rows that name a register, answers the state unchanged (R52, R539). -/
def Obligations.StoppedDeviceDiscardsHostWrites : Prop :=
   ∀ s : State, s.stopped = true →
  (∀ page : BitVec 14, present page.toNat = true →
  (∀ (off : BitVec 12) (data : Word) (low high : Bool), exec (.registerWrite page off data low high) s = .next s) ∧
  (∀ causes : BitVec 16, exec (.errInject page causes) s = .next s) ∧
  (∀ data : Word, exec (.errClassMapWrite page data) s = .next s) ∧ exec (.blockReset page) s = .next s) ∧
  (∀ (page : BitVec 14) (off : BitVec 12) (data : Word), present page.toNat = true →
  exec (.t80PairCommit page off data) s = .next s) ∧
  (∀ (k : Fin 16) (data : Word), exec (.lineStatusClear k data) s = .next s) ∧
  (∀ (p : Fin 1024), exec (.portEnable p) s = .next s ∧ exec (.portDisable p) s = .next s ∧ exec (.restart p) s = .next s) ∧
  (∀ ns : Word, exec (.setTime ns) s = .next s ∧ exec (.snapAtWrite ns) s = .next s) ∧
  exec .apply s = .next s ∧ exec .ledgerEnable s = .next s ∧ exec .mailboxGo s = .next s

/-- On a running device a host write at 0x080 or above to a present page that is in reset, asleep or an unconfigured port page answers a next state that differs only in WRITE_DROPPED of that page, which is 1 (and is noted as set in this MGMT cycle, R4): REGISTER_WRITE of 64 bits or of one half, PORT_ENABLE, OCT_CFG_WRITE, LANE_CTRL_WRITE and MERGE_ENABLE (R44, R46, R47). -/
def Obligations.ShutPageDropsWrites : Prop :=
   ∀ s : State, s.stopped = false →
  (∀ (page : BitVec 14) (off : BitVec 12) (data : Word) (low high : Bool), present page.toNat = true → s.shut page.toNat = true →
  off.toNat % 8 = 0 → 0x080 ≤ off.toNat → (low || high) = true →
  ∃ t, exec (.registerWrite page off data low high) s = .next t ∧ Only [.regs, .latches] s t ∧
  t.rd page.toNat F.hdr_PAGE_STATUS_WRITE_DROPPED = 1 ∧
  ∀ k, k ≠ F.hdr_PAGE_STATUS_WRITE_DROPPED.key page.toNat 0 0 → t.regs.at? k = s.regs.at? k) ∧
  (∀ p : Fin 1024, s.shut (prt p.val) = true → ∃ t, exec (.portEnable p) s = .next t ∧ Only [.regs, .latches] s t ∧
  t.rd (prt p.val) F.hdr_PAGE_STATUS_WRITE_DROPPED = 1 ∧
  ∀ k, k ≠ F.hdr_PAGE_STATUS_WRITE_DROPPED.key (prt p.val) 0 0 → t.regs.at? k = s.regs.at? k) ∧
  (∀ (l : Fin 1024) (data : Word), s.shut (lan l.val) = true → ∃ t, exec (.laneCtrlWrite l data) s = .next t ∧ Only [.regs, .latches] s t ∧
  t.rd (lan l.val) F.hdr_PAGE_STATUS_WRITE_DROPPED = 1 ∧
  ∀ k, k ≠ F.hdr_PAGE_STATUS_WRITE_DROPPED.key (lan l.val) 0 0 → t.regs.at? k = s.regs.at? k) ∧
  (∀ g : Fin 64, s.shut (mrgPage g.val) = true → ∃ t, exec (.mergeEnable g) s = .next t ∧ Only [.regs, .latches] s t ∧
  t.rd (mrgPage g.val) F.hdr_PAGE_STATUS_WRITE_DROPPED = 1 ∧
  ∀ k, k ≠ F.hdr_PAGE_STATUS_WRITE_DROPPED.key (mrgPage g.val) 0 0 → t.regs.at? k = s.regs.at? k)

/-- On a running device, on a present page that is not shut: an aligned 64-bit read of the NS register of a pair replies what the register reads, and the latch of that pair, alone, then holds what the companion reads at the same moment (R12). A 64-bit read of a register that is no part of a pair and no bandwidth register replies what it reads, a read of one half the lower or upper 32 bits of it, but zero for an atomic-64 register (R8); no latch changes. Besides, only the clock of a gated block's domain may wake, and the counter of the free values moves. -/
def Obligations.PairReadLatchesItsCompanion : Prop :=
  (∀ (page : BitVec 14) (off : BitVec 12) (s : State), s.stopped = false → present page.toNat = true → s.shut page.toNat = false → (pairAt page.toNat off.toNat).isSome = true → (off.toNat % 8 = 0) → (0x080 ≤ off.toNat) →
    ∃ t, exec (.t80NsRead ⟨.bar0, page, true, true⟩ off) s = .next t ∧
      Only [.free, .out, .host, .mtn] s t ∧
      t.out = Output.reply "READ" [s.reading page.toNat off.toNat] :: s.out ∧
      t.host.latch.at? (barOf page.toNat off.toNat) = some (s.reading page.toNat (off.toNat + 8)) ∧
      (∀ a, a ≠ barOf page.toNat off.toNat → t.host.latch.at? a = s.host.latch.at? a)) ∧
  (∀ (page : BitVec 14) (off : BitVec 12) (low high : Bool) (s : State), s.stopped = false → present page.toNat = true → s.shut page.toNat = false → (pairAt page.toNat off.toNat).isSome = false → ((pairAt page.toNat (off.toNat - 8)).isSome = false) → (off.toNat % 8 = 0) → (0x090 ≤ off.toNat) → ((layoutOf page.toNat == .cntp) = false) → ((low || high) = true) →
    ∃ t, exec (.t80NsRead ⟨.bar0, page, low, high⟩ off) s = .next t ∧
      Only [.free, .out, .mtn] s t ∧
      t.out = Output.reply "READ" [if (low && high) = false ∧ atomic64 page.toNat off.toNat = true then 0 else halves (s.reading page.toNat off.toNat) low high] :: s.out) ∧
  (∀ (r : ReadOf) (off : BitVec 12) (s : State), (r.page.toNat < barPages r.bar) → (off.toNat % 8 = 0) → ((r.low || r.high) = true) →
    exec (.t80NsRead r off) s = .next (hostRead r.bar r.page.toNat off.toNat r.low r.high s) ∧
      Only [.free, .out, .host, .vsr, .mtn] s (hostRead r.bar r.page.toNat off.toNat r.low r.high s) ∧
      (∃ n, ((hostRead r.bar r.page.toNat off.toNat r.low r.high s)).out = Output.reply "READ" [n] :: s.out) ∧
      ((hostRead r.bar r.page.toNat off.toNat r.low r.high s)).regs = s.regs) ∧
  (∀ (r : ReadOf) (off : BitVec 12) (s : State), (r.page.toNat < barPages r.bar) → (off.toNat % 8 = 0) → ((r.low || r.high) = true) → s.stopped = true → ((r.bar = .bar2 ∨ (r.bar = .bar0 ∧ r.page.toNat ≠ 0))) →
    ∃ t, exec (.t80NsRead r off) s = .next t ∧
      Only [.free, .out, .host, .vsr, .mtn] s t ∧
      t.out = Output.reply "READ" [halves (2 ^ 64 - 1) r.low r.high] :: s.out ∧
      t.host = s.host ∧
      t.regs = s.regs) ∧
  (∀ (r : ReadOf) (off : BitVec 12) (s : State), (r.page.toNat < barPages r.bar) → (off.toNat % 8 = 0) → ((r.low || r.high) = true) → s.stopped = false → r.bar = .bar0 → present r.page.toNat = false →
    ∃ t, exec (.t80NsRead r off) s = .next t ∧
      Only [.free, .out, .host, .vsr, .mtn] s t ∧
      t.out = Output.reply "READ" [0] :: s.out ∧
      t.host = s.host ∧
      t.regs = s.regs)

/-- On a running device whose page HBD[5] takes writes: a write of PRIMARY_SWITCH_FRAC is only staged and changes no register, and a later write of PRIMARY_SWITCH_NS commits the NS written together with the fraction staged (read back as one instant), for every instant later than TIME. -/
def Obligations.PairCommitTakesBothHalves : Prop :=
   ∀ (s : State) (ns frac : Word), s.stopped = false → s.shut 0x55 = false →
  (∃ t, exec (.registerWrite 0x055 0x098 frac true true) s = .next t ∧ Only [.host, .mtn] s t ∧
  t.host.staged.val 0 (barOf 0x55 0x090) = frac.toNat % 2 ^ 16) ∧
  (s.now < ns.toNat * nsUnits + s.host.staged.val 0 (barOf 0x55 0x090) % nsUnits →
  ∃ t, exec (.t80PairCommit 0x055 0x090 ns) s = .next t ∧ Only [.regs, .hat, .mtn] s t ∧ t.hat.switchPending = true ∧
  t.rdPair 0x55 F.hbd5_PRIMARY_SWITCH_NS F.hbd5_PRIMARY_SWITCH_FRAC =
  ns.toNat * nsUnits + s.host.staged.val 0 (barOf 0x55 0x090) % nsUnits ∧ RegsOnly [0x55] s t)

/-- On a running device a 64-bit write of ERR_STATUS on a present page with an error line leaves a REAL bit at 1 exactly where it was 1 and was not written 1, or was set by an event of this same MGMT cycle (R4), or its condition is one that the device's own state shows to stand (R462); PAGE_STATUS.ERR_LINE then is 1 exactly while an unmasked real cause is left; only that page's registers, the notes of what events set, the output and the pending vectors change. -/
def Obligations.ErrStatusClearsWhereOneIsWritten : Prop :=
  (∀ (page : BitVec 14) (data : Word) (s : State), s.stopped = false → present page.toNat = true → (lineOfPage page.toNat).isSome = true →
    ∃ t, exec (.registerWrite page 0x020 data true true) s = .next t ∧
      Only [.regs, .out, .host, .latches] s t ∧
      (∀ c : Fin 16, (t.rd page.toNat F.hdr_ERR_STATUS_REAL).testBit c.val = ((s.rd page.toNat F.hdr_ERR_STATUS_REAL).testBit c.val && (!data.toNat.testBit c.val || s.setNow.val 0 (F.hdr_ERR_STATUS_REAL.key page.toNat 0 0 + c.val) != 0 || s.persists page.toNat c.val))) ∧
      t.on page.toNat F.hdr_PAGE_STATUS_ERR_LINE = t.pageHigh page.toNat ∧
      RegsOnly [page.toNat] s t)

/-- For every page with an error line, cause and state. Outside an open quench window of the line, or for a cause of class FC3 or FC4, raising the cause makes its REAL bit 1, and ERR_LINE is 1 exactly while an unmasked real cause stands; where the bit was 0, the cause's class of this moment, escalated where its line is (R455, R461), is the class recorded for the latch. Inside a window, for a lower class, its QUENCHED bit becomes 1, its REAL field does not change and no vector is sent. In both cases only that page's registers change. -/
def Obligations.RaisedCauseLatchesAndQuenchHidesIt : Prop :=
   ∀ (s : State) (page : Nat) (cause : Fin 16), (lineOfPage page).isSome = true →
  RegsOnly [page] s (s.raise page cause.val) ∧
  (s.quenched page = true ∧ s.classOf page cause.val < 3 →
  ((s.raise page cause.val).rd page F.hdr_ERR_STATUS_QUENCHED).testBit cause.val = true ∧
  (s.raise page cause.val).rd page F.hdr_ERR_STATUS_REAL = s.rd page F.hdr_ERR_STATUS_REAL ∧
  Only [.regs, .latches] s (s.raise page cause.val)) ∧
  (¬ (s.quenched page = true ∧ s.classOf page cause.val < 3) →
  ((s.raise page cause.val).rd page F.hdr_ERR_STATUS_REAL).testBit cause.val = true ∧
  (s.raise page cause.val).on page F.hdr_PAGE_STATUS_ERR_LINE = (s.raise page cause.val).pageHigh page ∧
  ((s.rd page F.hdr_ERR_STATUS_REAL).testBit cause.val = false →
  (s.raise page cause.val).latchClass page cause.val = s.classNow page cause.val) ∧
  Only [.regs, .out, .host, .latches] s (s.raise page cause.val))

/-- A write of a vector's entry completes in every state. It stores the address and data where it carries them. With the mask it masks the vector and sends nothing. Without, the vector is unmasked; where its PBA bit is set, and the device is not in the safe state (or the vector is 1 and the host link was up at entry), its message, with the entry's address and data, is sent and the PBA bit cleared; otherwise nothing is sent and no PBA bit changes. Other vectors' entries, masks and bits are unchanged. -/
def Obligations.UnmaskedVectorIsSent : Prop :=
   ∀ (v : Fin 2048) (e : Option (Word × BitVec 32)) (mask : Bool) (s : State),
  ∃ t, exec (.msixUnmask ⟨v, e, mask⟩) s = .next t ∧ Only [.out, .host] s t ∧
  t.host.unmasked.val false v.val = !mask ∧
  t.host.table.val (0, 0) v.val = (match e with
    | some a => (a.1.toNat, a.2.toNat)
    | none => s.host.table.val (0, 0) v.val) ∧
  (∀ w, w ≠ v.val → t.host.unmasked.val false w = s.host.unmasked.val false w ∧ t.host.pba.val false w = s.host.pba.val false w ∧
  t.host.table.val (0, 0) w = s.host.table.val (0, 0) w) ∧
  (if mask = false ∧ s.host.pba.val false v.val = true ∧ (s.isSafe = false ∨ (v.val = 1 ∧ s.gnt.vectorOne = true)) then
  t.out = t.message v.val :: s.out ∧ t.host.pba.val false v.val = false
  else t.out = s.out ∧ t.host.pba = s.host.pba)

/-- Every host write of BAR0 completes as the register's own write; discarded accesses are recorded or read zero. -/
def Obligations.HostAccessesComplete : Prop :=
   (∀ (s : State) (page : BitVec 14) (off : BitVec 12) (data : Word) (low high : Bool), s.stopped = false →
  off.toNat % 8 = 0 → (low || high) = true →
  (off.toNat < 0x080 → present page.toNat = true →
  exec (.registerWrite page off data low high) s = .next (writeHeader ⟨page.toNat, off.toNat, data.toNat, low, high⟩ s)) ∧
  (present page.toNat = false →
  exec (.registerWrite page off data low high) s = .next (recordBad 3 (barOf page.toNat off.toNat) s)) ∧
  (0x080 ≤ off.toNat → present page.toNat = true → s.shut page.toNat = false →
  (atomic64 page.toNat off.toNat = true → (low && high) = true) →
  exec (.registerWrite page off data low high) s =
  .next (writeBody ⟨page.toNat, off.toNat, data.toNat, low, high⟩ (s.wakeClock page.toNat))) ∧
  (0x080 ≤ off.toNat → present page.toNat = true → s.shut page.toNat = false →
  atomic64 page.toNat off.toNat = true → (low && high) = false →
  exec (.registerWrite page off data low high) s = .next (s.wakeClock page.toNat))) ∧
  (∀ (s : State) (page : BitVec 14) (off : BitVec 12) (data : Word), s.stopped = false →
  off.toNat % 8 = 0 → 0x080 ≤ off.toNat → present page.toNat = true → s.shut page.toNat = false →
  ((pairAt page.toNat off.toNat).any fun p => p.1.acc != .ro) = true →
  exec (.t80PairCommit page off data) s =
  .next (commitPair page.toNat off.toNat data.toNat (s.wakeClock page.toNat))) ∧
  (∀ (s : State) (data : Word), s.stopped = false → s.shut 0x303 = false →
  ∃ t, exec (.registerWrite 0x303 0x100 data true true) s = .next t ∧ Only [.regs, .mtn] s t ∧ RegsOnly [0x303] s t ∧
  t.rd 0x303 F.tbl3_NOTIFY_BASE = data.toNat / 32) ∧
  (∀ (s : State) (a : BitVec 24), ∃ t, exec (.bar2Write a) s = .next t ∧ t = recordBad 1 a.toNat s ∧
  Only [.regs, .out, .host, .latches] s t) ∧
  (∀ (s : State) (bar2 write : Bool) (a : BitVec 26) (n : BitVec 13) (bs : List Byte), s.stopped = false →
  0 < n.toNat → n.toNat ≤ 4096 → a.toNat + n.toNat ≤ (if bar2 = true then 2 ^ 24 else 2 ^ 26) →
  ¬ (n.toNat = 4 ∧ a.toNat % 4 = 0) → ¬ (n.toNat = 8 ∧ a.toNat % 8 = 0) → (write = true → bs.length = n.toNat) →
  if 8 < n.toNat ∧ n.toNat % 8 = 0 ∧ a.toNat % 8 = 0 then
  exec (.badSizeAccess bar2 write a n bs) s = .next
  (let r := (List.range (n.toNat / 8)).foldl (splitAccess bar2 write a.toNat bs) ([], s)
  if write = true then r.2 else r.2.send (.reply "READ" r.1))
  else if write = true then exec (.badSizeAccess bar2 write a n bs) s = .next (recordBad (if bar2 = true then 1 else 2) a.toNat s)
  else ∃ t, exec (.badSizeAccess bar2 write a n bs) s = .next t ∧ t.out = Output.reply "READ" [0] :: s.out ∧ Only [.out] s t) ∧
  (∀ (s : State) (a : BitVec 26), present (a.toNat / 0x1000) = false →
  exec (.absentPageAccess a true) s = .next (recordBad 3 a.toNat s) ∧
  ∃ t, exec (.absentPageAccess a false) s = .next t ∧ Only [.out] s t ∧
  t.out = Output.reply "READ" [if s.stopped then 2 ^ 64 - 1 else 0] :: s.out)

/-- Block resets, injection, class maps, quench windows and line commands complete with the effect of their rule. -/
def Obligations.FaultCommandsComplete : Prop :=
  ((∀ (page : BitVec 14) (s : State), s.stopped = false → resettable page.toNat = true → s.resetBusy page.toNat = false →
  s.pageActive page.toNat = true →
  exec (.blockReset page) s = .next (startReset page.toNat (s.rd page.toNat F.hdr_QUENCH_CFG_WINDOW) (s.set1 page.toNat F.hdr_PAGE_STATUS_RESET_BUSY))) ∧
  (∀ (page : BitVec 14) (s : State), s.stopped = false → resettable page.toNat = true → s.resetBusy page.toNat = false →
  s.pageActive page.toNat = false → ∃ t, exec (.blockReset page) s = .next t ∧ Only [.regs, .latches, .boot] s t ∧
  t.rd page.toNat F.hdr_PAGE_STATUS_RESET_BUSY = 1 ∧ t.boot.waiting = s.boot.waiting ++ [(page.toNat, s.rd page.toNat F.hdr_QUENCH_CFG_WINDOW)] ∧
  RegsOnly [page.toNat] s t)) ∧
  (∀ (page : BitVec 14) (s : State), s.stopped = false → s.on page.toNat F.hdr_PAGE_STATUS_RESET_BUSY = true → (s.boot.waiting.any (fun w => w.1 == page.toNat) = false) →
    exec (.blockResetComplete page) s = .next (restartWork page.toNat (s.wr page.toNat F.hdr_PAGE_STATUS_RESET_BUSY 0)) ∧
      Only [.regs, .out, .ddr, .poison, .host, .latches, .hat, .stamps, .brim, .palm, .timing, .ldg, .vsr, .mtn] s (restartWork page.toNat (s.wr page.toNat F.hdr_PAGE_STATUS_RESET_BUSY 0)) ∧
      (page.toNat = 0x340 → ((restartWork page.toNat (s.wr page.toNat F.hdr_PAGE_STATUS_RESET_BUSY 0))).rd 0x340 F.hdr_PAGE_STATUS_RESET_BUSY = 0)) ∧
  (∀ (page : BitVec 14) (present : List (BitVec 14 × Fin 16)) (s : State), (s.gnt.quench.any (fun q => q.page == page.toNat && decide (q.until_ ≤ s.mono)) = true) →
    ∃ t, exec (.quenchClose page present) s = .next t ∧
      Only [.regs, .out, .host, .latches, .gnt] s t ∧
      t.gnt.quench = s.gnt.quench.filter (fun q => !(q.page == page.toNat && decide (q.until_ ≤ s.mono)))) ∧
  (∀ (page : BitVec 14) (causes : BitVec 16) (s : State), s.stopped = false → present page.toNat = true → (lineOfPage page.toNat).isSome = true →
    ∃ t, exec (.errInject page causes) s = .next t ∧
      Only [.regs, .out, .host, .latches, .gnt] s t ∧
      (∀ c : Fin 16, causes.toNat.testBit c.val = true → (t.rd page.toNat F.hdr_ERR_STATUS_INJECTED).testBit c.val = true) ∧
      t.rd page.toNat F.hdr_ERR_STATUS_REAL = s.rd page.toNat F.hdr_ERR_STATUS_REAL ∧
      RegsOnly [page.toNat, 0x20, 0x00] s t) ∧
  (∀ (page : BitVec 14) (data : Word) (s : State), s.stopped = false → present page.toNat = true → (lineOfPage page.toNat).isSome = true →
    ∃ t, exec (.errClassMapWrite page data) s = .next t ∧
      Only [.regs, .out, .host, .latches] s t ∧
      (∀ c : Fin 16, t.classOf page.toNat c.val = mappedClass (classFloor page.toNat c.val) (s.classOf page.toNat c.val) (data.toNat / 8 ^ c.val % 8) % 8 ∧ (3 ≤ t.classOf page.toNat c.val → (t.rd page.toNat F.hdr_ERR_MASK_MASK).testBit c.val = false)) ∧
      RegsOnly [page.toNat] s t) ∧
  (∀ (line : Fin 1024) (page cause cls : Nat) (s : State), (s.topCause line.val = some (page, cause, cls)) → s.latched line.val = false →
    ∃ t, exec (.lineLatch line []) s = .next t ∧
      Only [.regs, .out, .host, .latches, .gnt] s t ∧
      t.latched line.val = true ∧
      (t.lineRec line.val).page = page ∧
      (t.lineRec line.val).cause = cause ∧
      (t.lineRec line.val).cls = cls ∧
      (t.lineRec line.val).taken = cls + 1 ∧
      RegsOnly [0x20, 0x00] s t) ∧
  (∀ (line : Fin 1024) (fired : List (BitVec 14 × Fin 16)) (s : State),
    exec (.lineLatch line fired) s = .next ((let mine := fired.filter fun p => (pagesOfLine line.val).contains p.1.toNat; let u := mine.foldl (fun (u : State) p => u.raise p.1.toNat p.2.val) s; latchLine line.val (if mine.any (fun p => p.1.toNat == 0x300 && (p.2.val == 6 || p.2.val == 7)) then u.vector 278 else u))) ∧
      Only [.regs, .out, .host, .latches, .gnt] s ((let mine := fired.filter fun p => (pagesOfLine line.val).contains p.1.toNat; let u := mine.foldl (fun (u : State) p => u.raise p.1.toNat p.2.val) s; latchLine line.val (if mine.any (fun p => p.1.toNat == 0x300 && (p.2.val == 6 || p.2.val == 7)) then u.vector 278 else u)))) ∧
  (∀ (k : Fin 16) (data : Word) (s : State), s.stopped = false → s.shut (0x20) = false →
    ∃ t, exec (.lineStatusClear k data) s = .next t ∧
      Only [.regs, .out, .host, .latches, .mtn, .gnt] s t ∧
      (∀ b : Fin 64, t.latched (64 * k.val + b.val) = (s.latched (64 * k.val + b.val) && !(data.toNat.testBit b.val && !s.lineHigh (64 * k.val + b.val) && s.setNow.val 0 (F.gnt0_LINE_STATUS.key 0x20 k.val 0 + b.val) == 0))) ∧
      RegsOnly [0x20, 0x00] s t) ∧
  (∀ (line : Fin 1024) (s : State), s.stopped = false → s.shut (0x20) = false →
    ∃ t, exec (.lineSelWrite line) s = .next t ∧
      Only [.regs, .latches, .mtn] s t ∧
      t.rd 0x20 F.gnt0_LINE_SEL_LINE = line.val ∧
      t.rd 0x20 F.gnt0_LINE_INFO_PAGE = (s.lineRec line.val).page % 2 ^ F.gnt0_LINE_INFO_PAGE.w ∧
      t.rd 0x20 F.gnt0_LINE_INFO_CAUSE = (s.lineRec line.val).cause % 2 ^ F.gnt0_LINE_INFO_CAUSE.w ∧
      RegsOnly [0x20] s t) ∧
  (∀ (line : Fin 1024) (s : State), (s.lineRec line.val).escalated = true → (resetCount (s.lineRec line.val) s.mono ≤ 8) →
    ∃ t, exec (.escalationEnd line) s = .next t ∧
      Only [.regs, .out, .gnt] s t ∧
      (t.lineRec line.val).escalated = false ∧
      RegsOnly [0x20, 0x00] s t)

/-- The entry into the safe state, its snapshot, and the repair of rows, wires and flits complete with the effect of their rule. -/
def Obligations.SafeStateAndRepairCommandsComplete : Prop :=
  (∀ (s : State), s.isSafe = false → s.gnt.entry = none →
    ∃ t, exec (.gntRegParity) s = .next t ∧
      Only [.regs, .out, .host, .latches, .gnt] s t ∧
      t.rd 0x20 F.gnt0_SUMMARY_SELF_PARITY = 1 ∧
      t.gnt.entry = some ⟨s.now, s.tq, 3, 0, 0, false, s.mono⟩ ∧
      RegsOnly [0x20] s t) ∧
  (∀ (e : SafeEntry) (s : State), (s.gnt.entry = some e) → s.isSafe = false →
    exec (.safeStateEntry) s = .next (enterSafe e s) ∧
      Only [.regs, .free, .out, .ddr, .poison, .host, .latches, .hat, .ucs, .brim, .palm, .timing, .ses, .ldg, .vsr, .gnt, .crown] s (enterSafe e s)) ∧
  (∀ (e : SafeEntry) (s : State), (s.gnt.safe = some e) → s.gnt.snapDone = false →
    ∃ t, exec (.faultSnapshotWrite) s = .next t ∧
      Only [.regs, .gnt] s t ∧
      t.gnt.snapDone = true ∧
      t.gnt.snapSeq = s.gnt.snapSeq + 1 ∧
      (if (s.gnt.snapSeq + 1) % 2 = 0 then t.gnt.slot0 else t.gnt.slot1) = s.snapBody e (s.gnt.snapSeq + 1) ++ leBytes 4 (crc32c (s.snapBody e (s.gnt.snapSeq + 1))) ∧
      t.rd 0x30 F.mtn0_MTN_STATUS_SAFE_SEQ = 0 ∧
      RegsOnly [0x22, 0x30] s t) ∧
  (∀ (slot : Fin 2) (s : State), s.stopped = false → s.shut (0x22) = false →
    ∃ t, exec (.snapSelWrite slot) s = .next t ∧
      Only [.regs, .latches, .mtn] s t ∧
      t.rd 0x22 F.gnt2_SNAP_SEL_SLOT = slot.val ∧
      RegsOnly [0x22] s t) ∧
  (∀ (m r : Nat) (found : Scrubbed) (cell : Option (Fin 1152 × Option Nat)) (last : Bool) (s : State), s.stopped = false → s.on 0x21 F.gnt1_SCRUB_CFG_ENABLE = true → found.ecc.val = 0 →
    ∃ t, exec (.scrubVisit m r found cell last) s = .next t ∧
      Only [.regs, .gnt] s t ∧
      (last = true → t.rd 0x21 F.gnt1_SCRUB_STATUS_PASSES = sat F.gnt1_SCRUB_STATUS_PASSES.w (s.rd 0x21 F.gnt1_SCRUB_STATUS_PASSES + 1) ∧ t.gnt.scrubStart = s.now ∧ RegsOnly [0x21] s t) ∧
      (last = false → t = s)) ∧
  (∀ (m r : Nat) (found : Scrubbed) (cell : Option (Fin 1152 × Option Nat)) (s : State), s.stopped = false → s.on 0x21 F.gnt1_SCRUB_CFG_ENABLE = true → found.ecc.val = 1 →
    exec (.scrubVisit m r found cell false) s = .next (scrubCorrected m r (if found.table = true then (s.raise 0x300 6).vector 278 else s)) ∧
      Only [.regs, .out, .ddr, .poison, .host, .latches, .palm, .ldg, .vsr, .mtn, .gnt] s (scrubCorrected m r (if found.table = true then (s.raise 0x300 6).vector 278 else s)) ∧
      (s.quenched 0x20 = false → (((scrubCorrected m r (if found.table = true then (s.raise 0x300 6).vector 278 else s))).rd 0x20 F.hdr_ERR_STATUS_REAL).testBit 4 = true)) ∧
  (∀ (m r : Nat) (found : Scrubbed) (cell : Option (Fin 1152 × Option Nat)) (last : Bool) (s : State), s.stopped = false → s.on 0x21 F.gnt1_SCRUB_CFG_ENABLE = true → (found.ecc.val ≠ 0) →
    exec (.scrubVisit m r found cell last) s = .next ((let u := if found.ecc.val = 1 then scrubCorrected m r (if found.table = true then (s.raise 0x300 6).vector 278 else s) else (let u := (match cell with | some c => uncorrectedCell c.1.val c.2 s | none => s); startRepair m r (if found.table = true then (u.raise 0x300 7).vector 278 else u)); if last = true then { u.bump 0x21 F.gnt1_SCRUB_STATUS_PASSES with gnt := { u.gnt with scrubStart := u.now } } else u)) ∧
      Only [.regs, .out, .ddr, .poison, .host, .latches, .palm, .ldg, .vsr, .mtn, .gnt] s ((let u := if found.ecc.val = 1 then scrubCorrected m r (if found.table = true then (s.raise 0x300 6).vector 278 else s) else (let u := (match cell with | some c => uncorrectedCell c.1.val c.2 s | none => s); startRepair m r (if found.table = true then (u.raise 0x300 7).vector 278 else u)); if last = true then { u.bump 0x21 F.gnt1_SCRUB_STATUS_PASSES with gnt := { u.gnt with scrubStart := u.now } } else u))) ∧
  (∀ (m r : Nat) (bank : Option (Fin 1152)) (s : State), s.stopped = false → (s.gnt.repairing.contains (m, r) = true) →
    ∃ t, exec (.softRepair m r bank) s = .next t ∧
      Only [.regs, .out, .host, .latches, .palm, .mtn, .gnt] s t ∧
      t.gnt.repairing = s.gnt.repairing.filter (fun p => p != (m, r)) ∧
      t.gnt.spareRows.val 0 m = s.gnt.spareRows.val 0 m + 1) ∧
  (∀ (link : Fin 9) (down : Bool) (wire : Fin 1280) (check : WireCheck) (s : State), s.stopped = false → ((check.margin = true ∨ (s.dueAt (2 ^ 24 + wireKey link.val down wire.val) 1000000000 s.nowNs = true ∧ s.rd 0x21 F.gnt1_SEAM_CFG_WIRE_THRESH < check.corrections))) → (s.gnt.training = []) → (s.spares link.val down < spareTotal link.val) →
    ∃ t, exec (.seamWireCheck link down wire check) s = .next t ∧
      Only [.ticks, .gnt] s t ∧
      t.gnt.training = [wireKey link.val down wire.val] ∧
      t.regs = s.regs) ∧
  (∀ (link : Fin 9) (down : Bool) (wire : Fin 1280) (s : State), s.stopped = false → s.gnt.training.contains (wireKey link.val down wire.val) = true →
    ∃ t, exec (.seamSpareSwitch link down wire) s = .next t ∧
      Only [.regs, .out, .host, .latches, .gnt] s t ∧
      t.gnt.training = s.gnt.training.filter (fun k => k != wireKey link.val down wire.val) ∧
      t.gnt.replaced = wireKey link.val down wire.val :: s.gnt.replaced ∧
      RegsOnly [0x20, 0x21, 0x500 + link.val] s t) ∧
  (∀ (link : Fin 9) (frames replicas : List Nat) (s : State), s.stopped = false →
    exec (.seamFlitUncorrectable link frames replicas) s = .next ((replicas.foldl (fun (u : State) r => stompReplica r true u) (frames.foldl (fun (u : State) f => marFrame f u) (if link.val = 8 then s.bump 0x21 F.gnt1_IOD_SEAM_STATUS_FLIT_UNCORRECTABLE else s.bump (0x500 + link.val) F.til_SEAM_STATUS_FLIT_CRC_ERRORS))).raise 0x20 3) ∧
      Only [.regs, .out, .ddr, .poison, .host, .latches, .palm, .timing, .ldg, .vsr] s ((replicas.foldl (fun (u : State) r => stompReplica r true u) (frames.foldl (fun (u : State) f => marFrame f u) (if link.val = 8 then s.bump 0x21 F.gnt1_IOD_SEAM_STATUS_FLIT_UNCORRECTABLE else s.bump (0x500 + link.val) F.til_SEAM_STATUS_FLIT_CRC_ERRORS))).raise 0x20 3) ∧
      (s.quenched 0x20 = false → ((((replicas.foldl (fun (u : State) r => stompReplica r true u) (frames.foldl (fun (u : State) f => marFrame f u) (if link.val = 8 then s.bump 0x21 F.gnt1_IOD_SEAM_STATUS_FLIT_UNCORRECTABLE else s.bump (0x500 + link.val) F.til_SEAM_STATUS_FLIT_CRC_ERRORS))).raise 0x20 3)).rd 0x20 F.hdr_ERR_STATUS_REAL).testBit 3 = true)) ∧
  (∀ (link : Fin 9) (s : State), s.stopped = false →
    ∃ t, exec (.seamFlitUncorrectable link [] []) s = .next t ∧
      Only [.regs, .out, .host, .latches] s t ∧
      (if link.val = 8 then t.rd 0x21 F.gnt1_IOD_SEAM_STATUS_FLIT_UNCORRECTABLE = sat F.gnt1_IOD_SEAM_STATUS_FLIT_UNCORRECTABLE.w (s.rd 0x21 F.gnt1_IOD_SEAM_STATUS_FLIT_UNCORRECTABLE + 1) else t.rd (0x500 + link.val) F.til_SEAM_STATUS_FLIT_CRC_ERRORS = sat F.til_SEAM_STATUS_FLIT_CRC_ERRORS.w (s.rd (0x500 + link.val) F.til_SEAM_STATUS_FLIT_CRC_ERRORS + 1)) ∧
      RegsOnly [0x20, 0x21, 0x500 + link.val] s t) ∧
  (∀ (k : Fin 4) (i : Fin 1024) (v : Nat) (restarted : List (Fin 1024)) (s : State), s.stopped = false → s.dueAt 0x22000 3600000000000 s.nowNs = true → (i.val < wearCount k.val) → (k.val ≠ 1) →
    ∃ t, exec (.wearHour [(k, i, v)] restarted) s = .next t ∧
      Only [.regs, .out, .host, .latches, .ticks, .gnt] s t ∧
      (t.gnt.wear.val {} (k.val * 2 ^ 16 + i.val)).samples = (s.gnt.wear.val {} (k.val * 2 ^ 16 + i.val)).samples ++ [(s.nowNs / 3600000000000, v)] ∧
      (t.gnt.wear.val {} (k.val * 2 ^ 16 + i.val)).hours = spanOf ((s.gnt.wear.val {} (k.val * 2 ^ 16 + i.val)).samples ++ [(s.nowNs / 3600000000000, v)]) ∧
      RegsOnly [0x20, 0x23] s t) ∧
  (∀ (samples : List (Fin 4 × Fin 1024 × Nat)) (restarted : List (Fin 1024)) (s : State), s.stopped = false → s.dueAt 0x22000 3600000000000 s.nowNs = true →
    exec (.wearHour samples restarted) s = .next (wearHour (samples.map fun x => (x.1.val, x.2.1.val, x.2.2)) (restarted.map (·.val)) { s with ticks := { s.ticks with last := s.ticks.last.put s.ticks.base 0x22000 s.nowNs } }) ∧
      Only [.regs, .out, .host, .latches, .ticks, .gnt] s (wearHour (samples.map fun x => (x.1.val, x.2.1.val, x.2.2)) (restarted.map (·.val)) { s with ticks := { s.ticks with last := s.ticks.last.put s.ticks.base 0x22000 s.nowNs } })) ∧
  (∀ (kind : Fin 4) (index : Fin 1024) (s : State), s.stopped = false → s.shut (0x23) = false →
    ∃ t, exec (.wearSelWrite kind index) s = .next t ∧
      Only [.regs, .latches, .mtn] s t ∧
      t.rd 0x23 F.gnt3_WEAR_SEL_KIND = kind.val ∧
      t.rd 0x23 F.gnt3_WEAR_SEL_INSTANCE = index.val ∧
      t.rd 0x23 F.gnt3_WEAR_STATUS_STATE = (if index.val < wearCount kind.val then (s.gnt.wear.val {} (kind.val * 2 ^ 16 + index.val)).state else 3) % 2 ^ F.gnt3_WEAR_STATUS_STATE.w ∧
      RegsOnly [0x23] s t)

/-- PPS_IN_EDGE makes its input PRESENT with the edge's instant as its last edge; PPS_EDGE_MISSED clears PRESENT and counts; TOD_SENTENCE_RECEIVED of a well-formed sentence with its checksum in an input's window is counted ACCEPTED; TOD_OUT_SENTENCE sends the sentence of R69 and numbers the next; PTP_TIMEOUT fails its entry with cause 6; REVERT_HOLDOFF selects the better entry in place of the old one; REF_CFG_WRITE stores PRIORITY, TYPE and ENABLE of its entry. -/
def Obligations.ReferenceInputsComplete : Prop :=
  (∀ (i : Fin 2) (ph : BitVec 16) (c0 c1 : Option Nat) (s : State),
    ∃ t, exec (.ppsInEdge i ph c0 c1) s = .next t ∧
      Only [.regs, .free, .out, .host, .latches, .hat] s t ∧
      t.rdi 0x52 F.hbd2_PPS_IN_STATUS_PRESENT i.val = 1 ∧
      (t.ppsIn i.val).last.map (fun e => e.at_) = some ((s.timeAt ph.toNat : Int) - s.hat.stepped).toNat) ∧
  (∀ (i : Fin 2) (l : PpsEdge) (s : State), ((s.ppsIn i.val).last = some l) → (l.at_ + ns (((s.ppsIn i.val).missed + 1) * 1000000000 + 100000) ≤ s.mono) →
    ∃ t, exec (.ppsEdgeMissed i) s = .next t ∧
      Only [.regs, .free, .out, .host, .latches, .hat] s t ∧
      t.rdi 0x52 F.hbd2_PPS_IN_STATUS_PRESENT i.val = 0 ∧
      (t.ppsIn i.val).missed = (s.ppsIn i.val).missed + 1) ∧
  (∀ (d : Nat) (b : List Byte) (fits : List ServoFit) (x : Tod) (i : Fin 2) (s : State), (todParse b = some x) → (hexOf (slice b 45 2) = some (todChecksum b)) → (s.refsOnPps i.val ≠ []) → (((s.ppsIn i.val).held ((d : Int) - s.hat.stepped).toNat).isSome = true) →
    ∃ t, exec (.todSentenceReceived d b fits) s = .next t ∧
      Only [.regs, .time, .free, .out, .host, .latches, .hat, .ticks, .ldg, .vsr] s t ∧
      t.rd 0x52 F.hbd2_TOD_IN_STATUS_ACCEPTED = sat F.hbd2_TOD_IN_STATUS_ACCEPTED.w (s.rd 0x52 F.hbd2_TOD_IN_STATUS_ACCEPTED + 1) % 2 ^ F.hbd2_TOD_IN_STATUS_ACCEPTED.w) ∧
  (∀ (s : State), s.boot.quiescing = false → (s.dueAt 3 1000000000 (s.nowNs - 100000000) = true) → s.on 0x52 F.hbd2_TOD_OUT_CFG_ENABLE = true → s.squelched (s.rd 0x52 F.hbd2_TOD_OUT_CFG_SQUELCH) = false →
    ∃ t, exec (.todOutSentence) s = .next t ∧
      Only [.out, .hat, .ticks] s t ∧
      t.hat.todSeq = (s.hat.todSeq + 1) % 65536 ∧
      t.out = Output.sentence (todSentence s.hat.todSeq ((s.nowNs - 100000000) / 1000000000) (signed 8 (s.rd 0x50 F.hbd0_UTC_CFG_UTC_OFFSET)) (s.rd 0x50 F.hbd0_UTC_CFG_LEAP) (if s.hat.boundary.1 = (s.nowNs - 100000000) / 1000000000 then s.hat.boundary else s.boundaryNow ((s.nowNs - 100000000) / 1000000000)).2.2.1 (if s.hat.boundary.1 = (s.nowNs - 100000000) / 1000000000 then s.hat.boundary else s.boundaryNow ((s.nowNs - 100000000) / 1000000000)).2.1 (if (if s.hat.boundary.1 = (s.nowNs - 100000000) / 1000000000 then s.hat.boundary else s.boundaryNow ((s.nowNs - 100000000) / 1000000000)).2.1 = 4 then (if s.hat.boundary.1 = (s.nowNs - 100000000) / 1000000000 then s.hat.boundary else s.boundaryNow ((s.nowNs - 100000000) / 1000000000)).2.2.2 else 0)) :: s.out) ∧
  (∀ (e : Fin 16) (i : Nat) (s : State), s.stopped = false → (s.peerOfRef e.val = some i) → s.enabledRef e.val = true → s.isPtpRef e.val = true → (2 ≤ s.qstate e.val) → (s.qstate e.val ≠ 5) → s.bandRuns = true → (((s.peer (s.refCfg F.hbd1_REF_CFG_PORT e.val) i).lastSync + ns (3 * logNs ((s.ptpPort (s.refCfg F.hbd1_REF_CFG_PORT e.val)).field F.hbd4_PORT_CFG_LOG_SYNC)) ≤ s.mono ∨ (s.peer (s.refCfg F.hbd1_REF_CFG_PORT e.val) i).lastAnnounce + ns (3 * logNs ((s.ptpPort (s.refCfg F.hbd1_REF_CFG_PORT e.val)).field F.hbd4_PORT_CFG_LOG_ANNOUNCE)) ≤ s.mono)) →
    exec (.ptpTimeout e) s = .next (failRef e.val 6 s) ∧
      Only [.regs, .free, .out, .host, .latches, .hat] s (failRef e.val 6 s) ∧
      ((failRef e.val 6 s)).rdi 0x51 F.hbd1_REF_STATUS_LAST_FAULT e.val = 6) ∧
  (∀ (e : Fin 16) (s : State), s.on 0x50 F.hbd0_SERVO_CTRL_REVERTIVE = true → s.refValid = true → s.qstate e.val = 3 → (s.mode ≠ 2) → s.bandRuns = true → (s.refCfg F.hbd1_REF_CFG_PRIORITY e.val < s.refCfg F.hbd1_REF_CFG_PRIORITY s.refIndex) → (ns (s.rd 0x50 F.hbd0_SERVO_CTRL_REVERT_HOLDOFF * 1000000000) ≤ s.mono - (s.refRec e.val).qualifiedAt) →
    ∃ t, exec (.revertHoldoff e) s = .next t ∧
      Only [.regs, .free, .out, .host, .latches, .hat] s t ∧
      t.qstate e.val = 4 ∧
      t.refIndex = e.val ∧
      t.refValid = true ∧
      t.qstate s.refIndex ≠ 4 ∧
      t.hat.switchFrom = s.refIndex ∧
      t.hat.switchAt = some s.mono ∧
      RegsOnly [0x50, 0x51] s t) ∧
  (∀ (e : Fin 16) (data : Word) (s : State), s.stopped = false → s.shut (0x51) = false →
    ∃ t, exec (.refCfgWrite e data) s = .next t ∧
      Only [.regs, .free, .out, .host, .latches, .hat, .mtn] s t ∧
      t.rdi 0x51 F.hbd1_REF_CFG_PRIORITY e.val = data.toNat / 2 ^ F.hbd1_REF_CFG_PRIORITY.lo % 2 ^ F.hbd1_REF_CFG_PRIORITY.w ∧
      t.rdi 0x51 F.hbd1_REF_CFG_TYPE e.val = data.toNat / 2 ^ F.hbd1_REF_CFG_TYPE.lo % 2 ^ F.hbd1_REF_CFG_TYPE.w ∧
      t.rdi 0x51 F.hbd1_REF_CFG_ENABLE e.val = data.toNat / 2 ^ F.hbd1_REF_CFG_ENABLE.lo % 2 ^ F.hbd1_REF_CFG_ENABLE.w)

/-- PTP_MESSAGE_RECEIVE is received as R87 and R90 give it (a message of a kind that is not supported is counted and changes nothing else); PTP_SYNC_SEND, PTP_ANNOUNCE_SEND and DELAY_REQ_SEND send their messages to their receivers and number the next, the last keeping the departure's stamp; PEER_AGE_OUT and FREE free the entry; MAKE_STATIC and MAKE_LEARNED change its mark alone; PEER_SEL_WRITE shows the entry. -/
def Obligations.PtpCommandsComplete : Prop :=
  (∀ (port : Fin 1024) (taps : PtpTaps) (m : PtpMsg) (fits : List ServoFit) (s : State), s.stopped = false → (s.ptpPort port.val).field F.hbd4_PORT_CFG_PTP_ENABLE = 1 → s.bandRuns = true →
    exec (.ptpMessageReceive port taps m fits) s = .next (ptpReceive port.val taps.arrival taps.answer m fits s) ∧
      Only [.regs, .time, .free, .out, .host, .latches, .hat, .ticks, .stamps, .ldg, .vsr] s (ptpReceive port.val taps.arrival taps.answer m fits s) ∧
      (m.kind = .other → (ptpReceive port.val taps.arrival taps.answer m fits s) = (ingressStamp taps.arrival s).2.2.count 0x0110 port.val)) ∧
  (∀ (sync : SyncSend) (s : State), s.stopped = false → s.maySource sync.port.val = true → s.sinceLast (s.ptpPort sync.port.val).syncAt ((s.ptpPort sync.port.val).field F.hbd4_PORT_CFG_LOG_SYNC) = true →
    exec (.ptpSyncSend sync) s = .next (sendSyncs sync.port.val sync.taps s) ∧
      Only [.regs, .free, .out, .host, .latches, .hat, .stamps] s (sendSyncs sync.port.val sync.taps s)) ∧
  (∀ (port : Fin 1024) (s : State), s.stopped = false → s.maySource port.val = true → s.sinceLast (s.ptpPort port.val).announceAt ((s.ptpPort port.val).field F.hbd4_PORT_CFG_LOG_ANNOUNCE) = true →
    exec (.ptpAnnounceSend port) s = .next (sendAnnounces port.val s) ∧
      Only [.regs, .out, .hat] s (sendAnnounces port.val s) ∧
      (((sendAnnounces port.val s)).ptpPort port.val).announceSeq = ((s.ptpPort port.val).announceSeq + 1) % 65536 ∧
      (((sendAnnounces port.val s)).ptpPort port.val).announceAt = some s.mono ∧
      ((sendAnnounces port.val s)).out.length = s.out.length + (s.receivers port.val).length) ∧
  (∀ (port : Fin 1024) (tap : TxTap) (s : State), s.stopped = false → (s.ptpPort port.val).field F.hbd4_PORT_CFG_PTP_ENABLE = 1 → (s.ptpPort port.val).receives = true → s.bandRuns = true →
    exec (.delayReqSend port tap) s = .next (sendDelayReq port.val tap s) ∧
      Only [.regs, .free, .out, .host, .latches, .hat, .stamps] s (sendDelayReq port.val tap s) ∧
      (((sendDelayReq port.val tap s)).ptpPort port.val).delaySeq = ((s.ptpPort port.val).delaySeq + 1) % 65536 ∧
      ((egressStamp tap s).2.1 = 15 → (((sendDelayReq port.val tap s)).ptpPort port.val).t3 = none) ∧
      ((egressStamp tap s).2.1 ≠ 15 → (((sendDelayReq port.val tap s)).ptpPort port.val).t3 = some ((s.ptpPort port.val).delaySeq, (((egressStamp tap s).1 : Int) - s.hat.stepped).toNat))) ∧
  (∀ (port : Fin 1024) (e : Fin 16) (s : State), s.peerAged port.val e.val = true → s.peerSelected port.val e.val = false → s.bandRuns = true → s.heardNow port.val (s.peer port.val e.val) = false →
    exec (.peerAgeOut port e) s = .next (dropPeer port.val e.val s) ∧
      Only [.regs, .out, .host, .latches, .hat] s (dropPeer port.val e.val s) ∧
      ((dropPeer port.val e.val s)).peer port.val e.val = {}) ∧
  (∀ (s : State), s.stopped = false → s.shut (0x54) = false → ((s.peer (s.rd 0x54 F.hbd4_PEER_SEL_PORT) (s.rd 0x54 F.hbd4_PEER_SEL_ENTRY)).role ≠ 0) →
    ∃ t, exec (.free) s = .next t ∧
      Only [.regs, .free, .out, .host, .latches, .hat, .mtn] s t ∧
      t.peer (s.rd 0x54 F.hbd4_PEER_SEL_PORT) (s.rd 0x54 F.hbd4_PEER_SEL_ENTRY) = {}) ∧
  (∀ (s : State), s.stopped = false → s.shut (0x54) = false → ((s.peer (s.rd 0x54 F.hbd4_PEER_SEL_PORT) (s.rd 0x54 F.hbd4_PEER_SEL_ENTRY)).role ≠ 0) →
    ∃ t, exec (.makeStatic) s = .next t ∧
      Only [.regs, .latches, .hat, .mtn] s t ∧
      t.peer (s.rd 0x54 F.hbd4_PEER_SEL_PORT) (s.rd 0x54 F.hbd4_PEER_SEL_ENTRY) = { s.peer (s.rd 0x54 F.hbd4_PEER_SEL_PORT) (s.rd 0x54 F.hbd4_PEER_SEL_ENTRY) with isStatic := true }) ∧
  (∀ (s : State), s.stopped = false → s.shut (0x54) = false → ((s.peer (s.rd 0x54 F.hbd4_PEER_SEL_PORT) (s.rd 0x54 F.hbd4_PEER_SEL_ENTRY)).role ≠ 0) →
    ∃ t, exec (.makeLearned) s = .next t ∧
      Only [.regs, .latches, .hat, .mtn] s t ∧
      t.peer (s.rd 0x54 F.hbd4_PEER_SEL_PORT) (s.rd 0x54 F.hbd4_PEER_SEL_ENTRY) = { s.peer (s.rd 0x54 F.hbd4_PEER_SEL_PORT) (s.rd 0x54 F.hbd4_PEER_SEL_ENTRY) with isStatic := false }) ∧
  (∀ (port : Fin 1024) (e : Fin 16) (s : State), s.stopped = false → s.shut (0x54) = false →
    ∃ t, exec (.peerSelWrite port e) s = .next t ∧
      Only [.regs, .latches, .mtn] s t ∧
      t.rd 0x54 F.hbd4_PEER_SEL_PORT = port.val ∧
      t.rd 0x54 F.hbd4_PEER_SEL_ENTRY = e.val ∧
      t.rd 0x54 F.hbd4_PEER_DATA1_ROLE = (s.peer port.val e.val).role % 2 ^ F.hbd4_PEER_DATA1_ROLE.w ∧
      t.rd 0x54 F.hbd4_PEER_DATA0_CLOCK_IDENTITY = netOrder 8 (s.peer port.val e.val).identity % 2 ^ 64 ∧
      RegsOnly [0x54] s t)

/-- SERVO_MODE_CHANGE to a mode but 3 stores it; SET_TIME steps TIME to the written instant; LOCK_VERIFIED after 64 s of agreement and RELOCK_COMPLETE after RELOCK_TIME end in TRACEABLE; SLEW_END ends SLEWING; HOLDOVER_RECOMPUTE stores the uncertainty of R80 rounded up to ns; HISTORY_WRITE writes a record to the other slot; HIST_CLEAR erases both; BAND_LOCKSTEP stops the Band processor and turns TRACEABLE into HOLDOVER; TIME_PLL_UNLOCK stops TIME. -/
def Obligations.ServoCommandsComplete : Prop :=
  (∀ (m : Fin 4) (s : State), s.stopped = false → s.shut (0x50) = false → (m.val ≠ 3) →
    ∃ t, exec (.servoModeChange m) s = .next t ∧
      Only [.regs, .free, .out, .host, .latches, .hat, .mtn] s t ∧
      t.rd 0x50 F.hbd0_SERVO_CTRL_MODE = m.val) ∧
  (∀ (ns : Word) (s : State), s.stopped = false → s.shut (0x50) = false → s.on 0x50 F.hbd0_SERVO_STATUS_EVER_TRACEABLE = false →
    ∃ t, exec (.setTime ns) s = .next t ∧
      Only [.regs, .time, .free, .out, .host, .latches, .hat, .ticks, .ldg, .vsr, .mtn] s t ∧
      t.time = (ns.toNat * nsUnits + s.host.staged.val 0 0x500C8 % nsUnits) * 2 ^ 32 ∧
      t.rd 0x50 F.hbd0_STEP_COUNT = (s.rd 0x50 F.hbd0_STEP_COUNT + 1) % 2 ^ 32) ∧
  (∀ (a : T80) (s : State), (s.hat.agreeing = some a) → s.servo = 2 → s.mode = 0 → s.refValid = true → s.bandRuns = true → (ns 64000000000 ≤ s.mono - a) →
    ∃ t, exec (.lockVerified) s = .next t ∧
      Only [.regs, .free, .out, .host, .latches, .hat] s t ∧
      t.servo = 3 ∧
      t.rd 0x50 F.hbd0_SERVO_STATUS_EVER_TRACEABLE = 1 ∧
      t.hat.histAt = s.mono) ∧
  (∀ (a : T80) (s : State), (s.hat.agreeing = some a) → s.servo = 4 → s.mode = 0 → s.refValid = true → s.bandRuns = true → (ns (s.rd 0x50 F.hbd0_LOCK_CFG_RELOCK_TIME * 1000000000) ≤ s.mono - a) →
    ∃ t, exec (.relockComplete) s = .next t ∧
      Only [.regs, .free, .out, .host, .latches, .hat] s t ∧
      t.servo = 3 ∧
      t.rd 0x50 F.hbd0_HOLDOVER_STATUS_UNCERT_NS = 0 ∧
      t.rd 0x50 F.hbd0_HOLDOVER_STATUS_OUT_OF_BOUND = 0) ∧
  (∀ (s : State), s.hat.slewLeft = 0 →
    ∃ t, exec (.slewEnd) s = .next t ∧
      Only [.regs, .hat] s t ∧
      t.rd 0x50 F.hbd0_SERVO_STATUS_SLEWING = 0 ∧
      t.hat = s.hat ∧
      RegsOnly [0x50] s t) ∧
  (∀ (s : State), s.dueAt 1 1048576 s.nowNs = true → s.servo = 4 →
    ∃ t, exec (.holdoverRecompute) s = .next t ∧
      Only [.regs, .free, .out, .host, .latches, .hat, .ticks] s t ∧
      t.rd 0x50 F.hbd0_HOLDOVER_STATUS_UNCERT_NS = sat 32 ((s.uncNum + uncDen - 1) / uncDen) % 2 ^ 32 ∧
      t.servo = 4) ∧
  (∀ (slope : BitVec 32) (h : Nat) (s : State), s.stopped = false → s.servo = 3 → s.hat.bandStopped = false → (s.hat.histAt + ns (s.rd 0x53 F.hbd3_HIST_CTRL_PERIOD * 1000000000) ≤ s.mono) → s.on 0x53 F.hbd3_HIST_CTRL_ENABLE = true →
    ∃ t, exec (.historyWrite slope h) s = .next t ∧
      Only [.regs, .out, .host, .hat] s t ∧
      t.hat.histSeq = s.hat.histSeq + 1 ∧
      (if (s.hat.histSeq + 1) % 2 = 0 then t.hat.hist0 else t.hat.hist1) = (let r : HistRec := ⟨s.rd 0x50 F.hbd0_FREQ, slope.toNat, decide (h ≥ 24), s.now, s.hat.histSeq + 1, 0⟩; some { r with crc := r.crcOf }) ∧
      RegsOnly [0x53] s t) ∧
  (∀ (s : State), s.stopped = false → s.shut (0x53) = false →
    ∃ t, exec (.histClear) s = .next t ∧
      Only [.regs, .latches, .hat, .mtn] s t ∧
      t.hat.hist0 = none ∧
      t.hat.hist1 = none ∧
      t.rd 0x53 F.hbd3_HIST_STATUS_SLOT0_VALID = 0 ∧
      t.rd 0x53 F.hbd3_HIST_STATUS_SLOT1_VALID = 0 ∧
      RegsOnly [0x53] s t) ∧
  (∀ (s : State),
    ∃ t, exec (.bandLockstep) s = .next t ∧
      Only [.regs, .free, .out, .host, .latches, .hat] s t ∧
      t.hat.bandStopped = true ∧
      t.rd 0x50 F.hbd0_SERVO_STATUS_SLEWING = 0 ∧
      t.hat.slewLeft = 0 ∧
      (s.servo = 3 → t.servo = 4)) ∧
  (∀ (s : State),
    ∃ t, exec (.timePllUnlock) s = .next t ∧
      Only [.regs, .out, .host, .latches, .hat] s t ∧
      t.hat = { s.hat with timeStopped := true } ∧
      RegsOnly [0x50] s t)

/-- REPLICA_COMPARE stores a tile's offset and starts its resynchronisation above 0.2 ns; REPLICA_RESYNC_DONE ends it and counts; DENOON_HELLO_SEND closes the pace period, and in a group numbers a hello; DENOON_HELLO_RECEIVE of the own group's hello enters its sender among the members; MEMBER_TIMEOUT takes the member out; PRIMARY_SWITCH makes PRIMARY_NEXT the PRIMARY; PPS_OUT_PULSE rises at its second and falls; PPS_OUT_CFG_WRITE and CLK_OUT_CFG_WRITE in range are stored; CLK_OUT_START and CLK_OUT_EDGE turn the level and set the next edge. -/
def Obligations.TimingGroupAndOutputsComplete : Prop :=
  (∀ (k : Fin 8) (v : BitVec 32) (s : State), s.dueAt 2 1048576 s.nowNs = true →
    ∃ t, exec (.replicaCompare [(k, v)]) s = .next t ∧
      Only [.regs, .out, .host, .latches, .hat, .ticks] s t ∧
      t.rdi 0x5A F.hbd10_REPLICA_OFFSET k.val = v.toNat ∧
      (13107 < (signed 32 v.toNat).natAbs → t.hat.resync.testBit k.val = true) ∧
      RegsOnly [0x50, 0x5A] s t) ∧
  (∀ (offsets : List (Fin 8 × BitVec 32)) (s : State), s.dueAt 2 1048576 s.nowNs = true →
    exec (.replicaCompare offsets) s = .next (compareReplicas (offsets.map fun x => (x.1.val, x.2.toNat)) s) ∧
      Only [.regs, .out, .host, .latches, .hat, .ticks] s (compareReplicas (offsets.map fun x => (x.1.val, x.2.toNat)) s)) ∧
  (∀ (k : Fin 8) (s : State), s.hat.resync.testBit k.val = true →
    ∃ t, exec (.replicaResyncDone k) s = .next t ∧
      Only [.regs, .out, .host, .latches, .hat] s t ∧
      t.hat.resync.testBit k.val = false ∧
      t.rdi 0x5A F.hbd10_REPLICA_RESYNCS k.val = sat 16 (s.rdi 0x5A F.hbd10_REPLICA_RESYNCS k.val + 1) % 2 ^ 16 ∧
      RegsOnly [0x5A] s t) ∧
  (∀ (s : State), s.stopped = false → s.dueAt 11 67108864 s.nowNs = true → s.grouped = false →
    ∃ t, exec (.denoonHelloSend) s = .next t ∧
      Only [.regs, .out, .host, .hat, .ticks, .timing, .pwc] s t ∧
      t.pwc.paceMax = s.rd 0x40 F.pwc0_PACE_STATUS_PACE_NOW ∧
      t.rd 0x40 F.pwc0_PACE_STATUS_ADVERTISED = (if s.rd 0x40 F.pwc0_PACE_STATUS_ADVERTISED = max s.pwc.paceMax (s.rd 0x40 F.pwc0_PACE_STATUS_PACE_NOW) then s.rd 0x40 F.pwc0_PACE_STATUS_ADVERTISED else max s.pwc.paceMax (s.rd 0x40 F.pwc0_PACE_STATUS_PACE_NOW) % 2 ^ F.pwc0_PACE_STATUS_ADVERTISED.w) ∧
      t.hat.helloSeq = s.hat.helloSeq) ∧
  (∀ (s : State), s.stopped = false → s.dueAt 11 67108864 s.nowNs = true → s.grouped = true → s.on 0x55 F.hbd5_GROUP_STATUS_CHIP_ID_CONFLICT = false →
    ∃ t, exec (.denoonHelloSend) s = .next t ∧
      Only [.regs, .out, .host, .hat, .ticks, .timing, .pwc] s t ∧
      t.pwc.paceMax = s.rd 0x40 F.pwc0_PACE_STATUS_PACE_NOW ∧
      t.hat.helloSeq = s.hat.helloSeq + 1) ∧
  (∀ (port : Fin 1024) (h : Hello) (s : State), s.stopped = false → s.grouped = true → s.helloPorts.contains port.val = true → (h.group.toNat = s.rd 0x55 F.hbd5_GROUP_CFG_GROUP_ID) →
    exec (.denoonHelloReceive port h) s = .next (hearHello port.val h s) ∧
      Only [.regs, .out, .host, .latches, .hat, .timing] s (hearHello port.val h s) ∧
      (h.primary.toNat ≠ s.rd 0x55 F.hbd5_GROUP_PRIMARY_PRIMARY → h.chip.toNat ≠ s.ownChip → (hearHello port.val h s) = primaryMismatch s) ∧
      (h.primary.toNat = s.rd 0x55 F.hbd5_GROUP_PRIMARY_PRIMARY → h.chip.toNat ≠ s.ownChip → ((hearHello port.val h s)).hat.members.at? h.chip.toNat = some (1 + s.nowNs))) ∧
  (∀ (chip : Fin 4096) (m : Nat) (s : State), (s.hat.members.at? chip.val = some m) → (m - 1 + s.rd 0x55 F.hbd5_GROUP_CFG_MEMBER_TIMEOUT * 67108864 < s.nowNs) →
    ∃ t, exec (.memberTimeout chip) s = .next t ∧
      Only [.regs, .out, .host, .hat, .timing] s t ∧
      t.hat.members = s.hat.members.del chip.val ∧
      t.bit 0x55 F.hbd5_MEMBER_BITMAP chip.val = false) ∧
  (∀ (s : State), s.hat.switchPending = true → (s.rdPair 0x55 F.hbd5_PRIMARY_SWITCH_NS F.hbd5_PRIMARY_SWITCH_FRAC ≤ s.now) →
    ∃ t, exec (.primarySwitch) s = .next t ∧
      Only [.regs, .free, .out, .host, .latches, .hat] s t ∧
      t.hat.switchPending = false ∧
      t.rd 0x55 F.hbd5_GROUP_PRIMARY_PRIMARY = s.rd 0x55 F.hbd5_GROUP_PRIMARY_PRIMARY_NEXT % 2 ^ F.hbd5_GROUP_PRIMARY_PRIMARY.w) ∧
  (∀ (i : Fin 2) (s : State), s.boot.quiescing = false → ((if i.val = 0 then s.hat.pps0 else s.hat.pps1) = true) → ((if i.val = 0 then s.hat.ppsFall0 else s.hat.ppsFall1) ≤ s.mono) →
    ∃ t, exec (.ppsOutPulse i false) s = .next t ∧
      Only [.out, .hat] s t ∧
      (if i.val = 0 then t.hat.pps0 else t.hat.pps1) = false ∧
      t.out = Output.pin (if i.val = 0 then "PPS_OUT0" else "PPS_OUT1") false :: s.out) ∧
  (∀ (i : Fin 2) (s : State), s.boot.quiescing = false → (s.dueAt (4 + i.val) 1000000000 (((s.now : Int) - signed 32 (s.rdi 0x52 F.hbd2_PPS_OUT_CFG_OFFSET i.val) * 256).toNat / nsUnits) = true) → s.rdi 0x52 F.hbd2_PPS_OUT_CFG_ENABLE i.val = 1 → s.squelched (s.rdi 0x52 F.hbd2_PPS_OUT_CFG_SQUELCH i.val) = false →
    ∃ t, exec (.ppsOutPulse i true) s = .next t ∧
      Only [.out, .hat, .ticks] s t ∧
      (if i.val = 0 then t.hat.pps0 else t.hat.pps1) = true ∧
      t.out = Output.pin (if i.val = 0 then "PPS_OUT0" else "PPS_OUT1") true :: s.out) ∧
  (∀ (i : Fin 2) (data : Word) (low high : Bool) (v : Nat) (s : State), s.stopped = false → s.shut (0x52) = false → (v = merged (s.word 0x52 (0x0B0 + 8 * i.val)) data.toNat low high) → (1 ≤ v / 2 ^ 8 % 2 ^ 24) → (v / 2 ^ 8 % 2 ^ 24 ≤ 500000) → ((signed 32 (v / 2 ^ 32)).natAbs ≤ 256000000) →
    ∃ t, exec (.ppsOutCfgWrite i data low high) s = .next t ∧
      Only [.regs, .out, .latches, .hat, .mtn] s t ∧
      t.rdi 0x52 F.hbd2_PPS_OUT_CFG_WIDTH_US i.val = v / 2 ^ 8 % 2 ^ 24 ∧
      t.rdi 0x52 F.hbd2_PPS_OUT_CFG_ENABLE i.val = v % 2 ∧
      t.rdi 0x52 F.hbd2_PPS_OUT_CFG_OFFSET i.val = v / 2 ^ 32 % 2 ^ 32 ∧
      (v % 2 = 0 → (if i.val = 0 then t.hat.pps0 else t.hat.pps1) = false) ∧
      RegsOnly [0x52] s t) ∧
  (∀ (data : Word) (low high : Bool) (v : Nat) (s : State), s.stopped = false → s.shut (0x52) = false → (v = merged (s.word 0x52 0x0C0 - (if s.on 0x52 F.hbd2_CLK_OUT_CFG_LATE = true then 2 else 0)) data.toNat low high) → (4 * nsUnits ≤ v / 2 ^ 16) →
    ∃ t, exec (.clkOutCfgWrite data low high) s = .next t ∧
      Only [.regs, .out, .latches, .hat, .mtn] s t ∧
      t.rd 0x52 F.hbd2_CLK_OUT_CFG_ENABLE = v % 2 ∧
      t.rd 0x52 F.hbd2_CLK_OUT_CFG_HALF_PERIOD = v / 2 ^ 16 % 2 ^ F.hbd2_CLK_OUT_CFG_HALF_PERIOD.w ∧
      RegsOnly [0x52] s t) ∧
  (∀ (a : T80) (s : State), s.boot.quiescing = false → s.hat.clk = false → (s.hat.clkNext = some a) → (a = s.rdPair 0x52 F.hbd2_CLK_OUT_START_NS F.hbd2_CLK_OUT_START_FRAC) → s.on 0x52 F.hbd2_CLK_OUT_CFG_ENABLE = true → (a ≤ s.now) →
    ∃ t, exec (.clkOutStart) s = .next t ∧
      Only [.out, .hat] s t ∧
      t.hat.clk = true ∧
      t.hat.clkNext = some (a + s.clkHalf) ∧
      t.out = Output.pin "CLK_OUT" true :: s.out) ∧
  (∀ (a : T80) (s : State), s.boot.quiescing = false → (s.hat.clkNext = some a) → s.on 0x52 F.hbd2_CLK_OUT_CFG_ENABLE = true → (a ≤ s.now) →
    ∃ t, exec (.clkOutEdge) s = .next t ∧
      Only [.out, .hat] s t ∧
      t.hat.clk = !s.hat.clk ∧
      (s.hat.clk = false → t.hat.clkNext = some (a + s.clkHalf)) ∧
      (s.hat.clk = true → t.hat.clkNext = some (let b := s.rdPair 0x52 F.hbd2_CLK_OUT_START_NS F.hbd2_CLK_OUT_START_FRAC; if a < b then b else b + ((a - b) / (2 * s.clkHalf) + 1) * (2 * s.clkHalf))) ∧
      t.out = Output.pin "CLK_OUT" (!s.hat.clk) :: s.out)

/-- TQ_CHANGE puts the oldest due change in force for stamps; FINE_TRIM_STEP moves a lane's code by one; FINE_TRIM_FREEZE and FINE_TRIM_RESUME freeze and resume it; WANDER_SAMPLE adds its phase to a lane that is locked and not frozen; CDR_LOCK and CDR_LOCK_LOSS set and clear CDR_LOCK, the latter discarding the samples; APPLY puts every staged trim in force from E; DISCARD returns staged trims to those in force; CAL_TRIM_EFFECT ends the waiting; CAL_SAVE_DONE ends APPLY_BUSY and saves or sets SAVE_ERR; STAT_SEL_WRITE shows a lane and STAT_CLEAR zeroes its counts. -/
def Obligations.StampCommandsComplete : Prop :=
  (∀ (e : T80) (code : Nat) (rest : List (T80 × Nat)) (s : State), (s.hat.tqChanges = (e, code) :: rest) → (e ≤ s.now) →
    ∃ t, exec (.tqChange) s = .next t ∧
      Only [.hat, .ldg] s t ∧
      t.hat.stampTq = code ∧
      t.hat.tqChanges = rest) ∧
  (∀ (lane : Fin 1024) (up : Bool) (s : State), s.stopped = false → (s.wander lane.val).frozen = false → ((s.wander lane.val).trimAt.all (fun a => decide (a + ns 1048576 ≤ s.mono)) = true) →
    ∃ t, exec (.fineTrimStep lane up) s = .next t ∧
      Only [.regs, .stamps] s t ∧
      (t.wander lane.val).trim = (if up then (s.wander lane.val).trim + 1 else (s.wander lane.val).trim - 1) ∧
      (t.wander lane.val).trimAt = some s.mono ∧
      RegsOnly [0x59] s t) ∧
  (∀ (lane : Fin 1024) (windows : List (Fin 257)) (s : State), (s.wander lane.val).frozen = false → ((s.rxLpi lane.val = true ∨ (windows.all (fun n => decide (n.val < s.rd 0x58 F.hbd8_STAMP_CFG_DENSITY_MIN)) = true ∧ nsSpan (s.laneRate lane.val) (s.rd 0x58 F.hbd8_STAMP_CFG_FREEZE_NS) < windowsSpan (s.laneRate lane.val) windows.length))) →
    ∃ t, exec (.fineTrimFreeze lane windows) s = .next t ∧
      Only [.regs, .out, .host, .stamps] s t ∧
      (t.wander lane.val).frozen = true ∧
      (t.wander lane.val).freezes = sat 16 ((s.wander lane.val).freezes + 1) ∧
      RegsOnly [0x59] s t) ∧
  (∀ (lane : Fin 1024) (windows : List (Fin 257)) (s : State), (s.wander lane.val).frozen = true → s.rxLpi lane.val = false → (windows.all (fun n => decide (s.rd 0x58 F.hbd8_STAMP_CFG_DENSITY_MIN ≤ n.val)) = true) → (nsSpan (s.laneRate lane.val) (s.rd 0x58 F.hbd8_STAMP_CFG_FREEZE_NS) ≤ windowsSpan (s.laneRate lane.val) windows.length) →
    ∃ t, exec (.fineTrimResume lane windows) s = .next t ∧
      Only [.regs, .out, .host, .stamps] s t ∧
      (t.wander lane.val).frozen = false ∧
      RegsOnly [0x59] s t) ∧
  (∀ (lane : Fin 1024) (ph : Int) (s : State), ((s.wander lane.val).state ≠ 0) →
    ∃ t, exec (.wanderSample lane ph) s = .next t ∧
      Only [.regs, .out, .host, .latches, .stamps] s t ∧
      (t.wander lane.val).samples = (if (s.wander lane.val).frozen then (s.wander lane.val).samples else (ph :: (s.wander lane.val).samples).take 1024) ∧
      RegsOnly [0x50, 0x59] s t) ∧
  (∀ (lane : Fin 1024) (s : State),
    ∃ t, exec (.cdrLock lane) s = .next t ∧
      Only [.regs, .stamps] s t ∧
      t.rd (lan lane.val) F.lan_LANE_STATUS_CDR_LOCK = 1 ∧
      (t.wander lane.val).state = (if (s.wander lane.val).state = 0 then 1 else (s.wander lane.val).state) ∧
      RegsOnly [lan lane.val, 0x59] s t) ∧
  (∀ (lane : Fin 1024) (s : State),
    ∃ t, exec (.cdrLockLoss lane) s = .next t ∧
      Only [.regs, .stamps] s t ∧
      t.rd (lan lane.val) F.lan_LANE_STATUS_CDR_LOCK = 0 ∧
      (t.wander lane.val).state = 0 ∧
      (t.wander lane.val).samples = [] ∧
      RegsOnly [lan lane.val, 0x59] s t) ∧
  (∀ (s : State), s.stopped = false → s.shut (0x58) = false → s.on 0x58 F.hbd8_CAL_STATUS_APPLY_BUSY = false →
    ∃ t, exec (.apply) s = .next t ∧
      Only [.regs, .latches, .stamps, .mtn] s t ∧
      t.rd 0x58 F.hbd8_CAL_STATUS_APPLY_BUSY = 1 ∧
      t.stamps.applied = (s.now + ns 256 + ns 1024 - 1) / ns 1024 * ns 1024 ∧
      (∀ p ∈ t.stamps.cal, p.2.rxTrim = p.2.rxStaged ∧ p.2.txTrim = p.2.txStaged) ∧
      RegsOnly [0x58] s t) ∧
  (∀ (s : State), s.stopped = false → s.shut (0x58) = false →
    ∃ t, exec (.discard) s = .next t ∧
      Only [.regs, .latches, .stamps, .mtn] s t ∧
      (∀ p ∈ t.stamps.cal, p.2.rxStaged = s.rxForce p.2 ∧ p.2.txStaged = s.txForce p.2) ∧
      (∀ k, (t.cal k).rxTrim = (s.cal k).rxTrim ∧ (t.cal k).txTrim = (s.cal k).txTrim) ∧
      RegsOnly [0x58] s t) ∧
  (∀ (keys : List Nat) (s : State), (s.stamps.applying = some keys) → (s.stamps.applied ≤ s.now) →
    ∃ t, exec (.calTrimEffect) s = .next t ∧
      Only [.regs, .stamps, .ldg] s t ∧
      t.stamps.applying = none ∧
      t.stamps.cal = s.stamps.cal) ∧
  (∀ (ok : Bool) (s : State), s.stopped = false → s.on 0x58 F.hbd8_CAL_STATUS_APPLY_BUSY = true → s.stamps.applying = none →
    ∃ t, exec (.calSaveDone ok) s = .next t ∧
      Only [.regs, .out, .host, .latches, .stamps] s t ∧
      t.rd 0x58 F.hbd8_CAL_STATUS_APPLY_BUSY = 0 ∧
      (ok = true → ∀ p ∈ t.stamps.cal, p.2.rxSaved = p.2.rxTrim ∧ p.2.txSaved = p.2.txTrim) ∧
      (ok = false → t.rd 0x58 F.hbd8_CAL_STATUS_SAVE_ERR = 1 ∧ t.stamps = s.stamps) ∧
      RegsOnly [0x58] s t) ∧
  (∀ (lane : Fin 1024) (s : State), s.stopped = false → s.shut (0x5A) = false →
    ∃ t, exec (.statSelWrite lane) s = .next t ∧
      Only [.regs, .latches, .mtn] s t ∧
      t.rd 0x5A F.hbd10_STAT_SEL_LANE = lane.val ∧
      t.rd 0x5A F.hbd10_WANDER_STATUS_STATE = (s.wander lane.val).state % 4 ∧
      t.rd 0x5A F.hbd10_STAMP_COUNTS_SUSPECT_STAMPS = (s.wander lane.val).suspectStamps % 2 ^ 32 ∧
      RegsOnly [0x5A] s t) ∧
  (∀ (lane : Fin 1024) (s : State), s.stopped = false → s.shut (0x5A) = false →
    ∃ t, exec (.statClear lane) s = .next t ∧
      Only [.regs, .latches, .stamps, .mtn] s t ∧
      (t.wander lane.val).suspectStamps = 0 ∧
      (t.wander lane.val).maxExcursion = 0 ∧
      (t.wander lane.val).samples = (s.wander lane.val).samples ∧
      t.rd 0x5A F.hbd10_STAMP_COUNTS_SUSPECT_STAMPS = 0 ∧
      RegsOnly [0x59, 0x5A] s t)

/-- REF_LOST marks the side's four tiles; OCT_CFG_WRITE is taken as R133 and R134 give it; OCTET_PLL_LOCK puts the rate group in force and ends the retune; OCTET_PLL_UNLOCK drops the octet's links; PORT_ENABLE and PORT_DISABLE set and clear ENABLE, the latter ending the ladder; RESTART starts the ladder anew; LANE_SIGNAL_DETECT shows SIGNAL and starts autonegotiation; LANE_CTRL_WRITE and EQ_OVERRIDE_WRITE on a free lane store what they carry; COEFFICIENT_REQUEST of a preset drops the trained taps and is counted; EYE_REFRESH stores the eye once a second. -/
def Obligations.OctetAndPortCommandsComplete : Prop :=
  (∀ (side : Fin 2) (s : State), (s.on (0x500 + 4 * side.val) F.til_TILE_STATUS_REF_ABSENT = false) →
    ∃ t, exec (.refLost side) s = .next t ∧
      Only [.regs, .out, .ddr, .poison, .host, .latches, .stamps, .brim, .palm, .ldg, .vsr, .mtn] s t ∧
      (∀ k : Fin 4, t.on (0x500 + 4 * side.val + k.val) F.til_TILE_STATUS_REF_ABSENT = true)) ∧
  (∀ (o : Fin 128) (data : Word) (s : State), s.stopped = false → s.shut ((oct o.val)) = false →
    exec (.octCfgWrite o data) s = .next (writeOct o.val data.toNat (s.wakeClock (oct o.val))) ∧
      Only [.regs, .out, .host, .latches, .brim, .mtn] s (writeOct o.val data.toNat (s.wakeClock (oct o.val)))) ∧
  (∀ (o : Fin 128) (s : State), s.stopped = false → ((s.brim.pllSince.at? o.val).isSome = true) →
    ∃ t, exec (.octetPllLock o) s = .next t ∧
      Only [.regs, .out, .ddr, .poison, .host, .latches, .stamps, .brim, .palm, .ldg, .vsr, .mtn] s t ∧
      t.brim.retuning = s.brim.retuning.filter (fun k => k != o.val) ∧
      t.brim.enabling = s.brim.enabling.filter (fun p => octetOf p != o.val) ∧
      t.rd (oct o.val) F.oct_OCT_STATUS_GROUP_IN_FORCE = s.rd (oct o.val) F.oct_OCT_CFG_RATE_GROUP % 4) ∧
  (∀ (o : Fin 128) (s : State), s.stopped = false → s.on (oct o.val) F.oct_OCT_STATUS_PLL_LOCK = true →
    exec (.octetPllUnlock o) s = .next ((unlockPll o.val s).raise (tilPage (8 * o.val)) 3) ∧
      Only [.regs, .out, .ddr, .poison, .host, .latches, .stamps, .brim, .palm, .ldg, .vsr, .mtn] s ((unlockPll o.val s).raise (tilPage (8 * o.val)) 3)) ∧
  (∀ (port : Fin 1024) (s : State), s.stopped = false → s.shut ((prt port.val)) = false → s.on (prt port.val) F.prt_PORT_CTRL_ENABLE = false →
    ∃ t, exec (.portEnable port) s = .next t ∧
      Only [.regs, .out, .ddr, .poison, .host, .latches, .stamps, .brim, .palm, .ldg, .vsr, .mtn] s t ∧
      t.rd (prt port.val) F.prt_PORT_CTRL_ENABLE = 1) ∧
  (∀ (port : Fin 1024) (s : State), s.stopped = false → s.shut ((prt port.val)) = false →
    ∃ t, exec (.portDisable port) s = .next t ∧
      Only [.regs, .out, .ddr, .poison, .host, .latches, .stamps, .brim, .palm, .ldg, .vsr, .mtn] s t ∧
      t.rd (prt port.val) F.prt_PORT_CTRL_ENABLE = 0 ∧
      t.ladder port.val = 0 ∧
      t.rd (prt port.val) F.prt_LINK_STATUS_PARTNER = 0 ∧
      t.brim.enabling = s.brim.enabling.filter (fun q => q != port.val)) ∧
  (∀ (port : Fin 1024) (s : State), s.stopped = false → s.shut ((prt port.val)) = false → s.on (prt port.val) F.prt_PORT_CTRL_ENABLE = true → (s.ladder port.val ≠ 0) →
    exec (.restart port) s = .next (startLadder port.val (s.wakeClock (prt port.val))) ∧
      Only [.regs, .out, .ddr, .poison, .host, .latches, .stamps, .brim, .palm, .ldg, .vsr, .mtn] s (startLadder port.val (s.wakeClock (prt port.val))) ∧
      ((startLadder port.val (s.wakeClock (prt port.val)))).on (prt port.val) F.prt_PORT_CTRL_ENABLE = true) ∧
  (∀ (lane : Fin 1024) (energy : Bool) (s : State), s.stopped = false →
    ∃ t, exec (.laneSignalDetect lane energy) s = .next t ∧
      Only [.regs, .brim] s t ∧
      t.rd (lan lane.val) F.lan_LANE_STATUS_SIGNAL = energy.toNat ∧
      (energy = true → (s.mtn.doms.val {} (32 + octetOf lane.val)).state ≤ 1 → s.configured lane.val = true → s.ladder lane.val = 1 → t.ladder lane.val = 2) ∧
      RegsOnly [lan lane.val, prt lane.val] s t) ∧
  (∀ (lane : Fin 1024) (data : Word) (s : State), s.stopped = false → s.shut ((lan lane.val)) = false → ((s.laneFree lane.val = true ∨ data.toNat % 4 = s.rd (lan lane.val) F.lan_LANE_CTRL_TX_QUIET + 2 * s.rd (lan lane.val) F.lan_LANE_CTRL_RX_QUIET)) →
    ∃ t, exec (.laneCtrlWrite lane data) s = .next t ∧
      Only [.regs, .out, .host, .latches, .brim, .mtn] s t ∧
      t.rd (lan lane.val) F.lan_LANE_CTRL_EQ_RATE = bits data.toNat F.lan_LANE_CTRL_EQ_RATE.lo F.lan_LANE_CTRL_EQ_RATE.w % 2 ^ F.lan_LANE_CTRL_EQ_RATE.w ∧
      t.rd (lan lane.val) F.lan_LANE_CTRL_TX_QUIET = bits data.toNat F.lan_LANE_CTRL_TX_QUIET.lo 1 % 2 ∧
      (s.laneFree lane.val = true → t.rd (lan lane.val) F.lan_LANE_STATUS_TX_STATE = if data.toNat % 4 % 2 = 1 then 2 else 0) ∧
      RegsOnly [lan lane.val, oct (octetOf lane.val)] s t) ∧
  (∀ (lane : Fin 1024) (which : Fin 3) (data : Word) (s : State), s.stopped = false → s.shut ((lan lane.val)) = false → s.laneFree lane.val = true → s.on (lan lane.val) F.lan_LANE_CTRL_EQ_OVERRIDE = true →
    ∃ t, exec (.eqOverrideWrite lane which data) s = .next t ∧
      Only [.regs, .latches, .brim, .mtn] s t ∧
      (t.brim.eqOver.at? (lane.val * 8 + s.rd (lan lane.val) F.lan_LANE_CTRL_EQ_RATE)).isSome = true ∧
      (which.val = 2 → (t.brim.eqOver.at? (lane.val * 8 + s.rd (lan lane.val) F.lan_LANE_CTRL_EQ_RATE)).map (fun e => e.dfe) = some data.toNat) ∧
      RegsOnly [lan lane.val] s t) ∧
  (∀ (lane : Fin 1024) (tap : Fin 5) (up : Bool) (p : Nat) (e : EqEntry) (s : State), s.stopped = false → (s.portOfLane lane.val = some p) → s.ladder p = 5 → s.rd (prt p) F.prt_LINK_STATUS_PARTNER = 1 → (s.eq lane.val (s.laneRate lane.val) = some e) →
    ∃ t, exec (.coefficientRequest lane true tap up) s = .next t ∧
      Only [.regs, .out, .host, .latches, .brim] s t ∧
      t.brim.taps.at? lane.val = none ∧
      t.rd (lan lane.val) F.lan_PARTNER_REQ_PRESETS = sat F.lan_PARTNER_REQ_PRESETS.w (s.rd (lan lane.val) F.lan_PARTNER_REQ_PRESETS + 1) % 2 ^ F.lan_PARTNER_REQ_PRESETS.w ∧
      RegsOnly [lan lane.val] s t) ∧
  (∀ (lane : Fin 1024) (preset : Bool) (tap : Fin 5) (up : Bool) (p : Nat) (s : State), s.stopped = false → (s.portOfLane lane.val = some p) → s.ladder p = 5 → s.rd (prt p) F.prt_LINK_STATUS_PARTNER = 1 →
    exec (.coefficientRequest lane preset tap up) s = .next (coefficient lane.val preset tap.val up s) ∧
      Only [.regs, .out, .host, .latches, .brim] s (coefficient lane.val preset tap.val up s)) ∧
  (∀ (lane : Fin 1024) (hh ww : BitVec 16) (p : Nat) (s : State), s.stopped = false → (s.portOfLane lane.val = some p) → s.up p = true → (s.brim.eyeAt.at? lane.val ≠ some (secondOf s.now)) →
    ∃ t, exec (.eyeRefresh lane hh ww) s = .next t ∧
      Only [.regs, .brim] s t ∧
      t.rd (lan lane.val) F.lan_EYE_HEIGHT = hh.toNat ∧
      t.rd (lan lane.val) F.lan_EYE_WIDTH = ww.toNat ∧
      t.brim.eyeAt.at? lane.val = some (secondOf s.now) ∧
      RegsOnly [lan lane.val] s t)

/-- The bring-up ladder's commands complete with the effect of their rule at their step. -/
def Obligations.LadderCommandsComplete : Prop :=
  (∀ (port : Fin 1024) (techs : BitVec 6) (rs baseR : Bool) (s : State), s.stopped = false → s.configured port.val = true → s.ladder port.val = 2 → (s.portRec port.val).linkCfg.testBit 4 = true →
    ∃ t, exec (.anComplete port true techs rs baseR) s = .next t ∧
      Only [.regs, .out, .ddr, .poison, .host, .latches, .stamps, .brim, .palm, .ldg, .vsr, .mtn] s t ∧
      t.ladder port.val = 3 ∧
      t.rd (prt port.val) F.prt_LINK_STATUS_PARTNER = 2 ∧
      (t.portRec port.val).since = s.mono ∧
      RegsOnly [prt port.val] s t) ∧
  (∀ (port : Fin 1024) (denoon : Bool) (techs : BitVec 6) (rs baseR : Bool) (s : State), s.stopped = false → s.configured port.val = true → s.ladder port.val = 2 → (((s.portRec port.val).linkCfg.testBit 4 && denoon) = false) →
    exec (.anComplete port denoon techs rs baseR) s = .next ((match ((List.range 6).filter fun c => (s.portRec port.val).linkCfg.testBit 3 && s.offerable port.val c && ieeeFec (s.widthOf port.val) c != 0 && techs.toNat.testBit c).getLast? with | none => halt port.val 2 s | some c => (if resolveFec (s.widthOf port.val) c (cfgFec (s.portRec port.val).linkCfg) rs baseR < 3 && (cfgFec (s.portRec port.val).linkCfg).testBit (resolveFec (s.widthOf port.val) c (cfgFec (s.portRec port.val).linkCfg) rs baseR) then enterRetune port.val c (resolveFec (s.widthOf port.val) c (cfgFec (s.portRec port.val).linkCfg) rs baseR) 1 s else fallBack port.val 2 (s.putPortRec port.val { s.portRec port.val with target := c })))) ∧
      Only [.regs, .out, .ddr, .poison, .host, .latches, .stamps, .brim, .palm, .ldg, .vsr, .mtn] s ((match ((List.range 6).filter fun c => (s.portRec port.val).linkCfg.testBit 3 && s.offerable port.val c && ieeeFec (s.widthOf port.val) c != 0 && techs.toNat.testBit c).getLast? with | none => halt port.val 2 s | some c => (if resolveFec (s.widthOf port.val) c (cfgFec (s.portRec port.val).linkCfg) rs baseR < 3 && (cfgFec (s.portRec port.val).linkCfg).testBit (resolveFec (s.widthOf port.val) c (cfgFec (s.portRec port.val).linkCfg) rs baseR) then enterRetune port.val c (resolveFec (s.widthOf port.val) c (cfgFec (s.portRec port.val).linkCfg) rs baseR) 1 s else fallBack port.val 2 (s.putPortRec port.val { s.portRec port.val with target := c }))))) ∧
  (∀ (port : Fin 1024) (s : State), s.stopped = false → s.configured port.val = true → s.ladder port.val = 2 → (s.lasted port.val (1000000 * bits (s.portRec port.val).linkCfg 16 16) = true) →
    exec (.anTimeout port) s = .next (enterWait port.val 1 s) ∧
      Only [.regs, .out, .ddr, .poison, .host, .latches, .stamps, .brim, .palm, .ldg, .vsr, .mtn] s (enterWait port.val 1 s)) ∧
  (∀ (port : Fin 1024) (s : State), s.stopped = false → s.configured port.val = true → s.ladder port.val = 3 → ((s.portRec port.val).capAt.all (fun a => decide (a + ns 100000 ≤ s.mono)) = true) →
    ∃ t, exec (.denoonCapSend port) s = .next t ∧
      Only [.out, .brim] s t ∧
      (t.portRec port.val).capSeq = ((s.portRec port.val).capSeq + 1) % 65536 ∧
      (t.portRec port.val).capAt = some s.mono ∧
      t.out.length = s.out.length + 1) ∧
  (∀ (port : Fin 1024) (serial : Word) (sender : BitVec 16) (width rates fec : BitVec 8) (rate : Fin 6) (chosen : Fin 3) (delay : BitVec 32) (s : State), s.stopped = false → s.configured port.val = true → s.ladder port.val = 3 → (s.portRec port.val).goAt = none →
    ∃ t, exec (.denoonCapReceive port 3 serial sender width rates fec rate chosen delay) s = .next t ∧
      Only [.regs, .out, .host, .latches, .stamps, .brim, .mtn] s t ∧
      (t.portRec port.val).goAt = some (s.mono + ns delay.toNat) ∧
      (t.portRec port.val).target = rate.val ∧
      (t.portRec port.val).fec = chosen.val) ∧
  (∀ (port : Fin 1024) (msg : Fin 4) (serial : Word) (sender : BitVec 16) (width rates fec : BitVec 8) (rate : Fin 6) (chosen : Fin 3) (delay : BitVec 32) (s : State), s.stopped = false → s.configured port.val = true → s.ladder port.val = 3 →
    exec (.denoonCapReceive port msg serial sender width rates fec rate chosen delay) s = .next (receiveCap port.val msg.val ⟨serial.toNat, sender.toNat, width.toNat, rates.toNat, fec.toNat⟩ rate.val chosen.val delay.toNat s) ∧
      Only [.regs, .out, .host, .latches, .stamps, .brim, .mtn] s (receiveCap port.val msg.val ⟨serial.toNat, sender.toNat, width.toNat, rates.toNat, fec.toNat⟩ rate.val chosen.val delay.toNat s) ∧
      (msg.val = 1 → serial.toNat = s.rd 0 F.idn_SERIAL → sender.toNat = port.val → ((receiveCap port.val msg.val ⟨serial.toNat, sender.toNat, width.toNat, rates.toNat, fec.toNat⟩ rate.val chosen.val delay.toNat s)).ladder port.val = 9)) ∧
  (∀ (port : Fin 1024) (g : T80) (s : State), s.stopped = false → s.configured port.val = true → s.ladder port.val = 3 → ((s.portRec port.val).goAt = some g) → (g ≤ s.mono) →
    exec (.retune port) s = .next (enterRetune port.val (s.portRec port.val).target (s.portRec port.val).fec 2 s) ∧
      Only [.regs, .out, .host, .brim, .mtn] s (enterRetune port.val (s.portRec port.val).target (s.portRec port.val).fec 2 s) ∧
      ((enterRetune port.val (s.portRec port.val).target (s.portRec port.val).fec 2 s)).ladder port.val = 4 ∧
      ((enterRetune port.val (s.portRec port.val).target (s.portRec port.val).fec 2 s)).rd (prt port.val) F.prt_LINK_STATUS_RATE = (s.portRec port.val).target % 2 ^ F.prt_LINK_STATUS_RATE.w) ∧
  (∀ (port : Fin 1024) (s : State), s.stopped = false → s.configured port.val = true → s.ladder port.val = 3 → (s.portRec port.val).goAt = none → s.lasted port.val 10000000 = true →
    exec (.exchangeTimeout port) s = .next (enterWait port.val 4 s) ∧
      Only [.regs, .out, .ddr, .poison, .host, .latches, .stamps, .brim, .palm, .ldg, .vsr, .mtn] s (enterWait port.val 4 s)) ∧
  (∀ (port : Fin 1024) (a : T80) (s : State), s.stopped = false → s.configured port.val = true → s.ladder port.val = 4 → ((s.portRec port.val).lockedAt = some a) → (s.mono ≤ a + ns 200000) →
    ∃ t, exec (.retuneLocked port) s = .next t ∧
      Only [.regs, .out, .stamps, .brim] s t ∧
      t.ladder port.val = 5 ∧
      (∀ l ∈ s.lanesOf port.val, t.rd (lan l) F.lan_LANE_STATUS_CDR_LOCK = 1)) ∧
  (∀ (port : Fin 1024) (s : State), s.stopped = false → s.configured port.val = true → s.ladder port.val = 4 → ((((s.portRec port.val).lockedAt = none ∧ s.lasted port.val 200000 = true) ∨ (s.portRec port.val).lockedAt.any (fun a => decide (a + ns 200000 ≤ s.mono)) = true)) →
    exec (.retuneTimeout port) s = .next (fallBack port.val 5 s) ∧
      Only [.regs, .out, .ddr, .poison, .host, .latches, .stamps, .brim, .palm, .ldg, .vsr, .mtn] s (fallBack port.val 5 s)) ∧
  (∀ (port : Fin 1024) (s : State), s.stopped = false → s.configured port.val = true → s.ladder port.val = 5 → ((s.portRec port.val).lost = []) →
    ∃ t, exec (.trainingComplete port) s = .next t ∧
      Only [.regs, .out, .brim] s t ∧
      t.ladder port.val = 6 ∧
      (t.portRec port.val).since = s.mono ∧
      RegsOnly [prt port.val] s t) ∧
  (∀ (port : Fin 1024) (s : State), s.stopped = false → s.configured port.val = true → s.ladder port.val = 5 → s.lasted port.val (s.portRec port.val).limit = true →
    exec (.trainingTimeout port) s = .next (fallBack port.val 5 s) ∧
      Only [.regs, .out, .ddr, .poison, .host, .latches, .stamps, .brim, .palm, .ldg, .vsr, .mtn] s (fallBack port.val 5 s)) ∧
  (∀ (port : Fin 1024) (s : State), s.stopped = false → s.configured port.val = true → s.ladder port.val = 6 → (s.lasted port.val (1000 * bits (s.portRec port.val).linkCfg 32 16) = true) →
    ∃ t, exec (.qualifyComplete port) s = .next t ∧
      Only [.regs, .out, .host, .latches, .brim, .ldg, .vsr] s t ∧
      t.ladder port.val = 7 ∧
      t.up port.val = true) ∧
  (∀ (port : Fin 1024) (s : State), s.stopped = false → s.configured port.val = true → s.ladder port.val = 7 → (s.rd (prt port.val) F.prt_LINK_STATUS_FEC ≠ 0) →
    exec (.lineError port 1) s = .next (s.count 0x0105 port.val) ∧
      Only [.regs, .vsr] s (s.count 0x0105 port.val) ∧
      ((s.count 0x0105 port.val)).ladder port.val = 7) ∧
  (∀ (port : Fin 1024) (kind : Fin 3) (s : State), s.stopped = false → s.configured port.val = true → (4 < s.ladder port.val) → (s.ladder port.val < 8) → (decide (kind.val < 2) = (s.rd (prt port.val) F.prt_LINK_STATUS_FEC != 0)) →
    exec (.lineError port kind) s = .next ((let u := if kind.val = 0 then (s.count 0x0106 port.val).raise (prt port.val) 2 else if kind.val = 1 then s.count 0x0105 port.val else s; if u.ladder port.val = 6 then fallBack port.val 6 u else u)) ∧
      Only [.regs, .out, .ddr, .poison, .host, .latches, .stamps, .brim, .palm, .ldg, .vsr, .mtn] s ((let u := if kind.val = 0 then (s.count 0x0106 port.val).raise (prt port.val) 2 else if kind.val = 1 then s.count 0x0105 port.val else s; if u.ladder port.val = 6 then fallBack port.val 6 u else u))) ∧
  (∀ (lane : Fin 1024) (back : Bool) (s : State), s.stopped = false →
    exec (.laneLockLoss lane back) s = .next (lockLoss lane.val back s) ∧
      Only [.regs, .out, .ddr, .poison, .host, .latches, .stamps, .brim, .tbl, .palm, .timing, .ldg, .vsr, .mtn] s (lockLoss lane.val back s) ∧
      (s.portOfLane lane.val = none → back = true → (lockLoss lane.val back s) = s)) ∧
  (∀ (lane : Fin 1024) (p : Nat) (s : State), s.stopped = false → (s.portOfLane lane.val = some p) → s.ladder p = 7 →
    ∃ t, exec (.laneLockLoss lane false) s = .next t ∧
      Only [.regs, .out, .ddr, .poison, .host, .latches, .stamps, .brim, .tbl, .palm, .timing, .ldg, .vsr, .mtn] s t ∧
      ((t.portRec p).lost.at? lane.val).isSome = true ∧
      t.rd (prt p) F.prt_LINK_STATUS_LOCAL_FAULT = 1) ∧
  (∀ (port : Fin 1024) (s : State), s.stopped = false → s.configured port.val = true → s.ladder port.val = 7 → ((s.portRec port.val).lost.any (fun x => decide (x.2 + ns 10000 ≤ s.mono)) = true) →
    exec (.linkDown port) s = .next (linkDown port.val s) ∧
      Only [.regs, .out, .ddr, .poison, .host, .latches, .stamps, .brim, .palm, .ldg, .vsr, .mtn] s (linkDown port.val s)) ∧
  (∀ (port : Fin 1024) (v : Bool) (s : State), s.stopped = false → s.configured port.val = true → s.ladder port.val = 7 →
    ∃ t, exec (.remoteFault port v) s = .next t ∧
      Only [.regs] s t ∧
      t.rd (prt port.val) F.prt_LINK_STATUS_REMOTE_FAULT = v.toNat ∧
      RegsOnly [prt port.val] s t)

/-- TX_LPI_ENTRY and RX_LPI_CHANGE show their state; TX_LPI_WAKE wakes the port; PFC_RECEIVE ends the pause of a priority named with quanta 0 and starts that of one enabled; PFC_QUANTA_EXPIRY ends the pause that is due; PFC_RESEND sends again and notes the instant; ETS_CFG_WRITE is taken as R163 gives it; PREEMPT_CFG_WRITE stores the register; PREEMPT_VERIFY_ATTEMPT sends VERIFY, and after three attempts fails with cause 3; PREEMPT_VERIFY_RESPONSE ends verification. -/
def Obligations.PortFlowCommandsComplete : Prop :=
  (∀ (port : Fin 1024) (s : State), s.stopped = false → s.up port.val = true → s.eee port.val = true → s.on (prt port.val) F.prt_TX_CTRL_LPI_ENABLE = true → s.on (prt port.val) F.prt_LINK_STATUS_TX_LPI = false → s.relBusy port.val = false → (s.palm.replicas.any (fun x => x.2.port == port.val) = false) → ((s.portRec port.val).quietSince + ns (max 256 (s.rd (prt port.val) F.prt_TX_CTRL_LPI_ENTRY_NS)) ≤ s.mono) →
    ∃ t, exec (.txLpiEntry port) s = .next t ∧
      Only [.regs, .vsr] s t ∧
      t.rd (prt port.val) F.prt_LINK_STATUS_TX_LPI = 1) ∧
  (∀ (port : Fin 1024) (s : State), s.stopped = false → (s.palm.replicas.any (fun x => x.2.port == port.val) = true) →
    exec (.txLpiWake port) s = .next (wakeTx port.val s) ∧
      Only [.regs] s (wakeTx port.val s)) ∧
  (∀ (port : Fin 1024) (v : Bool) (s : State), s.stopped = false → s.up port.val = true → s.eee port.val = true →
    ∃ t, exec (.rxLpiChange port v) s = .next t ∧
      Only [.regs] s t ∧
      t.rd (prt port.val) F.prt_LINK_STATUS_RX_LPI = v.toNat ∧
      (∀ l ∈ s.lanesOf port.val, t.rd (lan l) F.lan_LANE_STATUS_RX_STATE = v.toNat)) ∧
  (∀ (port : Fin 1024) (named : BitVec 8) (quanta : List (BitVec 16)) (s : State), s.stopped = false → s.up port.val = true →
    ∃ t, exec (.pfcReceive port named quanta) s = .next t ∧
      Only [.regs, .out, .host, .latches, .brim, .palm, .vsr] s t ∧
      (∀ pr : Fin 8, named.toNat.testBit pr.val = true → s.classOfPriority port.val pr.val ≠ 7 → ((quanta.getD pr.val 0).toNat = 0 → (t.portRec port.val).pauses.at? pr.val = none) ∧ ((quanta.getD pr.val 0).toNat ≠ 0 → (s.rd (prt port.val) F.prt_PFC_CFG_RX_ENABLE).testBit pr.val = true → ((t.portRec port.val).pauses.at? pr.val).isSome = true)) ∧
      (∀ pr : Fin 8, named.toNat.testBit pr.val = false → (t.portRec port.val).pauses.at? pr.val = (s.portRec port.val).pauses.at? pr.val)) ∧
  (∀ (port : Fin 1024) (pr : Fin 8) (a : T80) (s : State), s.stopped = false → ((s.portRec port.val).pauses.at? pr.val = some a) → (a ≤ s.mono) →
    ∃ t, exec (.pfcQuantaExpiry port pr) s = .next t ∧
      Only [.regs, .brim] s t ∧
      (t.portRec port.val).pauses.at? pr.val = none ∧
      (t.rd (prt port.val) F.prt_PFC_STATUS_PAUSED).testBit pr.val = false ∧
      RegsOnly [prt port.val] s t) ∧
  (∀ (port : Fin 1024) (c : Fin 8) (s : State), s.stopped = false → (s.pg port.val c.val).xoff = true → s.up port.val = true → ((s.pg port.val c.val).sentAt + byteTimes (s.speed port.val) (32 * s.rd (prt port.val) F.prt_PFC_CFG_TX_QUANTA) ≤ s.mono) →
    ∃ t, exec (.pfcResend port c) s = .next t ∧
      Only [.regs, .out, .palm, .vsr] s t ∧
      (t.pg port.val c.val).sentAt = s.mono ∧
      (t.pg port.val c.val).xoff = true) ∧
  (∀ (port : Fin 1024) (data : Word) (s : State), s.stopped = false → s.shut ((prt port.val)) = false →
    exec (.etsCfgWrite port data) s = .next (writeEts port.val data.toNat (s.wakeClock (prt port.val))) ∧
      Only [.regs, .latches, .brim, .palm, .mtn] s (writeEts port.val data.toNat (s.wakeClock (prt port.val)))) ∧
  (∀ (port : Fin 1024) (data : Word) (s : State), s.stopped = false → s.shut ((prt port.val)) = false →
    ∃ t, exec (.preemptCfgWrite port data) s = .next t ∧
      Only [.regs, .out, .host, .latches, .brim, .mtn] s t ∧
      t.rd (prt port.val) F.prt_PREEMPT_CFG_ENABLE = bits data.toNat F.prt_PREEMPT_CFG_ENABLE.lo 1 % 2 ∧
      t.rd (prt port.val) F.prt_PREEMPT_CFG_VERIFY_TIME_MS = bits data.toNat F.prt_PREEMPT_CFG_VERIFY_TIME_MS.lo F.prt_PREEMPT_CFG_VERIFY_TIME_MS.w % 2 ^ F.prt_PREEMPT_CFG_VERIFY_TIME_MS.w ∧
      RegsOnly [prt port.val] s t) ∧
  (∀ (port : Fin 1024) (s : State), s.stopped = false → s.up port.val = true → (((s.portRec port.val).verify = 1 ∨ (s.portRec port.val).verify = 2)) → ((s.portRec port.val).tries < 3) → (((s.portRec port.val).tries = 0 ∨ (s.portRec port.val).tryAt + ns (1000000 * max 1 (min 128 (s.rd (prt port.val) F.prt_PREEMPT_CFG_VERIFY_TIME_MS))) ≤ s.mono)) →
    ∃ t, exec (.preemptVerifyAttempt port) s = .next t ∧
      Only [.regs, .out, .host, .latches, .brim] s t ∧
      (t.portRec port.val).verify = 2 ∧
      (t.portRec port.val).tries = (s.portRec port.val).tries + 1 ∧
      (t.portRec port.val).tryAt = s.mono ∧
      Output.message port.val "VERIFY" [] ∈ t.out ∧
      RegsOnly [prt port.val] s t) ∧
  (∀ (port : Fin 1024) (s : State), s.stopped = false → s.up port.val = true → (((s.portRec port.val).verify = 1 ∨ (s.portRec port.val).verify = 2)) → (3 ≤ (s.portRec port.val).tries) → ((s.portRec port.val).tryAt + ns (1000000 * max 1 (min 128 (s.rd (prt port.val) F.prt_PREEMPT_CFG_VERIFY_TIME_MS))) ≤ s.mono) →
    ∃ t, exec (.preemptVerifyAttempt port) s = .next t ∧
      Only [.regs, .out, .host, .latches, .brim] s t ∧
      (t.portRec port.val).verify = 4 ∧
      (s.quenched (prt port.val) = false → (t.rd (prt port.val) F.hdr_ERR_STATUS_REAL).testBit 3 = true) ∧
      RegsOnly [prt port.val] s t) ∧
  (∀ (port : Fin 1024) (s : State), s.stopped = false → s.up port.val = true → (s.portRec port.val).verify = 2 →
    ∃ t, exec (.preemptVerifyResponse port) s = .next t ∧
      Only [.regs, .out, .host, .brim] s t ∧
      (t.portRec port.val).verify = 3 ∧
      RegsOnly [prt port.val] s t)

/-- A frame's way in: reception, slots, engines, search results, session decision, queue assignment and tail verdict. -/
def Obligations.IngressCommandsComplete : Prop :=
  (∀ (port : Fin 1024) (tap : RxTap) (bytes : List Byte) (full : Bool) (s : State), s.stopped = false → s.configured port.val = true → s.up port.val = true →
    exec (.frameReceive port tap bytes full) s = .next (receiveFrame port.val tap bytes full s) ∧
      Only [.regs, .free, .out, .ddr, .poison, .host, .latches, .stamps, .palm, .ldg, .vsr] s (receiveFrame port.val tap bytes full s) ∧
      (beVal (slice bytes 12 2) ≠ 0x8808 → ((receiveFrame port.val tap bytes full s)).palm.nextFrame = s.palm.nextFrame + 1) ∧
      (beVal (slice bytes 12 2) ≠ 0x8808 → full = false → s.sliceLost (sliceOf port.val) = false → (((receiveFrame port.val tap bytes full s)).frame? s.palm.nextFrame).map (fun f => (f.bytes, f.port, f.stage)) = some (bytes, port.val, Stage.fifo)) ∧
      (beVal (slice bytes 12 2) ≠ 0x8808 → full = true → ((receiveFrame port.val tap bytes full s)).frame? s.palm.nextFrame = none) ∧
      (beVal (slice bytes 12 2) = 0x8808 → ((receiveFrame port.val tap bytes full s)).palm = s.palm) ∧
      (∀ id, id ≠ s.palm.nextFrame → ((receiveFrame port.val tap bytes full s)).frame? id = s.frame? id)) ∧
  (∀ (g : Fin 32) (id e : Nat) (f : Frame) (s : State), s.stopped = false → (s.nextForSlot g.val = some (id, f)) → (s.freeEngine g.val 0 (f.pre == 7) = some e) →
    exec (.ingressSlotAssign g) s = .next (takeSlot g.val s) ∧
      Only [.regs, .out, .ddr, .poison, .host, .latches, .ucs, .palm, .ldg, .vsr] s (takeSlot g.val s) ∧
      ((takeSlot g.val s)).palm.slots.val 0 g.val = f.port ∧
      (s.rd (ucsPage g.val) F.ucs_BANK_STATUS_STATE ≠ 0 → (((takeSlot g.val s)).frame? id).map (fun x => (x.stage, x.run.map fun r => r.engine)) = some (Stage.waiting 0, some e))) ∧
  (∀ (g : Fin 32) (id : Nat) (f : Frame) (s : State), s.stopped = false → (s.nextForSlot g.val = some (id, f)) → (s.freeEngine g.val 0 (f.pre == 7) = none) →
    exec (.ingressSlotAssign g) s = .next ((let w := (s.ucs.lines.val [] (3 * g.val)).filter fun k => match s.frame? k with | some x => x.stage == .fifo | none => false; if w.contains id then s else if f.pre = 7 then (s.putWait g.val 0 (w ++ [id])).bump (ucsPage g.val) F.ucs_CYCLE_STATS_ENGINE_WAITS else s.putWait g.val 0 (w ++ [id]))) ∧
      Only [.regs, .out, .ddr, .poison, .host, .latches, .ucs, .palm, .ldg, .vsr] s ((let w := (s.ucs.lines.val [] (3 * g.val)).filter fun k => match s.frame? k with | some x => x.stage == .fifo | none => false; if w.contains id then s else if f.pre = 7 then (s.putWait g.val 0 (w ++ [id])).bump (ucsPage g.val) F.ucs_CYCLE_STATS_ENGINE_WAITS else s.putWait g.val 0 (w ++ [id]))) ∧
      (((let w := (s.ucs.lines.val [] (3 * g.val)).filter fun k => match s.frame? k with | some x => x.stage == .fifo | none => false; if w.contains id then s else if f.pre = 7 then (s.putWait g.val 0 (w ++ [id])).bump (ucsPage g.val) F.ucs_CYCLE_STATS_ENGINE_WAITS else s.putWait g.val 0 (w ++ [id])))).palm = s.palm) ∧
  (∀ (id : Nat) (bad : List Nat) (f : Frame) (k : Nat) (s : State), s.stopped = false → (s.frame? id = some f) → (f.stage = .waiting k) → ((k ≠ 0 ∨ f.run = none)) →
    exec (.engineAssign false id bad) s = .next (assignEngine false id f.slice k f.bank (f.pre == 7) (if k = 0 then 0 else mdGet f.md 0x15 1) bad s) ∧
      Only [.regs, .out, .ddr, .poison, .host, .latches, .ucs, .tbl, .palm, .ldg, .vsr] s (assignEngine false id f.slice k f.bank (f.pre == 7) (if k = 0 then 0 else mdGet f.md 0x15 1) bad s)) ∧
  (∀ (id : Nat) (bad : List Nat) (f : Frame) (run : Run) (s : State), s.stopped = false → (s.frame? id = some f) → (f.stage = .waiting 0) → (f.run = some run) →
    exec (.engineAssign false id bad) s = .next (startProgram false id f.slice 0 f.bank run.engine 0 bad s) ∧
      Only [.regs, .out, .ddr, .poison, .host, .latches, .ucs, .tbl, .palm, .ldg, .vsr] s (startProgram false id f.slice 0 f.bank run.engine 0 bad s)) ∧
  (∀ (id : Nat) (bad : List Nat) (r : Replica) (f : Frame) (s : State), s.stopped = false → (s.replica? id = some r) → (s.frame? r.frame = some f) → r.phase = 1 → r.run = none →
    exec (.engineAssign true id bad) s = .next (assignEngine true id (sliceOf r.port) 2 f.bank (f.pre == 7) (mdGet f.md 0x15 1) bad (s.putReplica id { r with md := f.md, outBytes := f.bytes.take (f.bytes.length - 4) })) ∧
      Only [.regs, .out, .ddr, .poison, .host, .latches, .ucs, .tbl, .palm, .ldg, .vsr] s (assignEngine true id (sliceOf r.port) 2 f.bank (f.pre == 7) (mdGet f.md 0x15 1) bad (s.putReplica id { r with md := f.md, outBytes := f.bytes.take (f.bytes.length - 4) }))) ∧
  (∀ (id wait late : Nat) (bad : List Nat) (f : Frame) (k : Nat) (run : Run) (s : State), s.stopped = false → (s.frame? id = some f) → (f.stage = .running k) → (f.run = some run) →
    exec (.microwordIssue false id bad wait late) s = .next (endCycle (runWord false id (f.seat k run) bad wait late (f.results.map fun x => x.1 - 1) s)) ∧
      Only [.regs, .out, .ddr, .poison, .host, .latches, .ucs, .tbl, .palm, .ldg, .vsr] s (endCycle (runWord false id (f.seat k run) bad wait late (f.results.map fun x => x.1 - 1) s)) ∧
      (run.ended = true → (endCycle (runWord false id (f.seat k run) bad wait late (f.results.map fun x => x.1 - 1) s)) = endCycle s)) ∧
  (∀ (id wait late : Nat) (bad : List Nat) (r : Replica) (f : Frame) (run : Run) (s : State), s.stopped = false → (s.replica? id = some r) → (s.frame? r.frame = some f) → (r.run = some run) →
    exec (.microwordIssue true id bad wait late) s = .next (endCycle (runWord true id (r.seat f run) bad wait late (f.results.map fun x => x.1 - 1) s)) ∧
      Only [.regs, .out, .ddr, .poison, .host, .latches, .ucs, .tbl, .palm, .ldg, .vsr] s (endCycle (runWord true id (r.seat f run) bad wait late (f.results.map fun x => x.1 - 1) s))) ∧
  (∀ (id : Nat) (ecc : Fin 3) (f : Frame) (tb w : Nat) (rest : List (Nat × Nat)) (s : State), s.stopped = false → (s.frame? id = some f) → (f.results = (tb, w) :: rest) → (ecc.val < 2) →
    ∃ t, exec (.searchResultWritten id ecc) s = .next t ∧
      Only [.regs, .out, .ddr, .poison, .host, .latches, .palm, .ldg, .vsr] s t ∧
      t.frame? id = some (writeResult { f with results := rest } tb w) ∧
      (∀ k, k ≠ id → t.frame? k = s.frame? k) ∧
      (ecc.val = 1 → s.quenched 0x300 = false → (t.rd 0x300 F.hdr_ERR_STATUS_REAL).testBit 6 = true) ∧
      (ecc.val = 0 → Only [.palm] s t)) ∧
  (∀ (id : Nat) (ecc : Fin 3) (f : Frame) (tb w : Nat) (rest : List (Nat × Nat)) (s : State), s.stopped = false → (s.frame? id = some f) → (f.results = (tb, w) :: rest) → ecc.val = 2 →
    exec (.searchResultWritten id ecc) s = .next (dropAtIngress id 0xFA ((s.raise 0x300 7).vector 278)) ∧
      Only [.regs, .out, .ddr, .poison, .host, .latches, .palm, .ldg, .vsr] s (dropAtIngress id 0xFA ((s.raise 0x300 7).vector 278)) ∧
      ((dropAtIngress id 0xFA ((s.raise 0x300 7).vector 278))).frame? id = none) ∧
  (∀ (id : Nat) (corrected : Bool) (f : Frame) (s : State), s.stopped = false → (s.frame? id = some f) → f.session = 1 → s.sesWaits (.decide id corrected) = false →
    exec (.sessionDecision id corrected) s = .next (endSession (let u := if corrected = true then s.raise 0x240 8 else s; if f.req.testBit 31 = true then takeRequest id f u else decideData id f u)) ∧
      Only [.regs, .free, .out, .ddr, .poison, .host, .latches, .tbl, .palm, .ses, .ldg, .vsr, .mtn] s (endSession (let u := if corrected = true then s.raise 0x240 8 else s; if f.req.testBit 31 = true then takeRequest id f u else decideData id f u))) ∧
  (∀ (id : Nat) (corrected : Bool) (s : State), s.stopped = false → s.sesWaits (.decide id corrected) = true →
    ∃ t, exec (.sessionDecision id corrected) s = .next t ∧
      Only [.ses] s t ∧
      t.ses.deferred = s.ses.deferred ++ [.decide id corrected] ∧
      t.palm = s.palm ∧
      t.regs = s.regs) ∧
  (∀ (id : Nat) (cells : List (Fin 1152)) (f : Frame) (tg : Target) (s : State), s.stopped = false → s.assignWaits id = false → (s.frame? id = some f) → f.stage = .decided → (mdGet f.md 0x36 1 < 128) → f.ctrl 0 = false → s.replyTurn id f = true → (s.target f = .ok tg) →
    exec (.queueAssign id cells) s = .next ((let u := placeFrame id [(tg, 0)] (cells.map (fun c => c.val)) s; if u.palm.assigns.isEmpty = true then u else runAssigns u.palm.assigns.length u)) ∧
      Only [.regs, .out, .ddr, .poison, .host, .latches, .palm, .ldg, .vsr] s ((let u := placeFrame id [(tg, 0)] (cells.map (fun c => c.val)) s; if u.palm.assigns.isEmpty = true then u else runAssigns u.palm.assigns.length u))) ∧
  (∀ (id : Nat) (cells : List (Fin 1152)) (s : State), s.stopped = false → s.assignWaits id = false →
    exec (.queueAssign id cells) s = .next ((let u := assignQueue id (cells.map (fun c => c.val)) s; if u.palm.assigns.isEmpty = true then u else runAssigns u.palm.assigns.length u)) ∧
      Only [.regs, .out, .ddr, .poison, .host, .latches, .palm, .ldg, .vsr] s ((let u := assignQueue id (cells.map (fun c => c.val)) s; if u.palm.assigns.isEmpty = true then u else runAssigns u.palm.assigns.length u))) ∧
  (∀ (id : Nat) (fec lock re : Bool) (s : State), s.stopped = false → (((s.frame? id).isSome || (s.palm.tails.at? id).isSome) = true) →
    exec (.frameTailVerdict id fec lock re) s = .next (tailVerdict id fec lock re s) ∧
      Only [.regs, .out, .ddr, .poison, .host, .latches, .tbl, .palm, .timing, .ldg, .vsr] s (tailVerdict id fec lock re s) ∧
      (s.frame? id = none → ((tailVerdict id fec lock re s)).palm.tails.at? id = none))

/-- SCHEDULER_SELECT chooses for a port that may send; UNDERRUN stomps a cut-through replica in transmission and counts it; EGRESS_TRANSMIT and TRANSMIT_COMPLETE start and end a transmission; HEADER_RING_FLUSH moves the oldest record of the on-die share; RING_WRITE stores the oldest buffered slot in DDR5: its bytes from its address on, with the sequence number at 0x18, and every other byte of DDR5 is as before. -/
def Obligations.EgressCommandsComplete : Prop :=
  (∀ (port : Fin 1024) (s : State), s.stopped = false → s.sends port.val = true → s.on (prt port.val) F.prt_LINK_STATUS_TX_LPI = false →
    exec (.schedulerSelect port) s = .next (schedule port.val s) ∧
      Only [.regs, .brim, .palm, .vsr, .pwc] s (schedule port.val s)) ∧
  (∀ (id : Nat) (r : Replica) (f : Frame) (s : State), s.stopped = false → (s.replica? id = some r) → (s.frame? r.frame = some f) → r.ct = true → r.phase = 3 → f.verdict = none → r.stomp = false →
    exec (.underrun id) s = .next ((stompReplica id true s).count 0x010B f.port) ∧
      Only [.regs, .out, .host, .latches, .palm, .vsr] s ((stompReplica id true s).count 0x010B f.port) ∧
      ((((stompReplica id true s).count 0x010B f.port)).replica? id).map (fun x => x.stomp) = some true) ∧
  (∀ (id : Nat) (tap : TxTap) (r : Replica) (f : Frame) (s : State), s.stopped = false → (s.replica? id = some r) → (s.frame? r.frame = some f) → r.phase = 2 → s.mayStart r f = true → s.sends r.port = true → s.on (prt r.port) F.prt_LINK_STATUS_TX_LPI = false →
    exec (.egressTransmit id tap) s = .next (transmit id tap s) ∧
      Only [.regs, .free, .out, .ddr, .poison, .host, .latches, .stamps, .palm, .timing, .ldg, .vsr, .pwc] s (transmit id tap s)) ∧
  (∀ (id : Nat) (r : Replica) (f : Frame) (s : State), s.stopped = false → (s.replica? id = some r) → (s.frame? r.frame = some f) → r.phase = 3 → r.waiting = false → ((f.verdict.isSome || r.stomp) = true) →
    exec (.transmitComplete id) s = .next (finishReplica id s) ∧
      Only [.regs, .out, .ddr, .poison, .host, .latches, .brim, .palm, .ldg, .vsr] s (finishReplica id s)) ∧
  (∀ (h : Fin 16) (r : List Byte) (rest : List (List Byte)) (s : State), s.stopped = false → ((s.hring h.val).onDie = r :: rest) →
    ∃ t, exec (.headerRingFlush h) s = .next t ∧
      Only [.regs, .out, .ddr, .poison, .host, .latches, .palm] s t ∧
      (t.hring h.val).onDie = rest) ∧
  (∀ (w : SlotWrite) (rest : List SlotWrite) (s : State), s.stopped = false → (s.ses.buffer = w :: rest) → (0x20 ≤ w.bytes.length) → s.inRegion 2 w.address w.bytes.length = true →
    ∃ t, exec (.ringWrite) s = .next t ∧
      Only [.ddr, .poison, .ses] s t ∧
      t.ses.buffer = rest ∧
      (∀ a, t.ddrByte a = (if w.address + 0x18 ≤ a ∧ a < w.address + 0x20 then (leBytes 8 w.seq).getD (a - (w.address + 0x18)) 0 else if w.address ≤ a ∧ a < w.address + w.bytes.length then w.bytes.getD (a - w.address) 0 else s.ddrByte a)))

/-- Control-store repair, bank handover, patches and statistics of a slice complete with the effect of their rule. -/
def Obligations.MicrocodeCommandsComplete : Prop :=
  (∀ (slice : Fin 32) (loc : Fin 32768) (ok : Bool) (s : State), s.stopped = false → (s.store slice.val).faulty.contains loc.val = true →
    ∃ t, exec (.goldenRepair slice loc ok) s = .next t ∧
      Only [.ucs] s t ∧
      (t.store slice.val).faulty = (s.store slice.val).faulty.filter (fun l => l != loc.val) ∧
      (t.store slice.val).poisoned = (if ok then (s.store slice.val).poisoned else loc.val :: (s.store slice.val).poisoned) ∧
      (∀ g, g ≠ slice.val → t.store g = s.store g)) ∧
  (∀ (slice : Fin 32) (loc : Fin 32768) (s : State), s.stopped = false → (s.store slice.val).poisoned.contains loc.val = true → (s.store slice.val).repeats.contains loc.val = false →
    ∃ t, exec (.poisonRewrite slice loc) s = .next t ∧
      Only [.regs, .out, .host, .latches, .ucs] s t ∧
      (t.store slice.val).poisoned = (s.store slice.val).poisoned.filter (fun l => l != loc.val) ∧
      (t.store slice.val).faulty = (s.store slice.val).faulty ∧
      (∀ g, g ≠ slice.val → t.store g = s.store g) ∧
      RegsOnly [] s t) ∧
  (∀ (slice : Fin 32) (loc : Fin 32768) (s : State), s.stopped = false → (s.store slice.val).poisoned.contains loc.val = true → (s.store slice.val).repeats.contains loc.val = true →
    exec (.poisonRewrite slice loc) s = .next (patch slice.val loc.val (((s.store slice.val).bank (locBank loc.val)).item (locRegion loc.val) (locAddr loc.val)) s) ∧
      Only [.regs, .out, .host, .latches, .ucs] s (patch slice.val loc.val (((s.store slice.val).bank (locBank loc.val)).item (locRegion loc.val) (locAddr loc.val)) s) ∧
      (((patch slice.val loc.val (((s.store slice.val).bank (locBank loc.val)).item (locRegion loc.val) (locAddr loc.val)) s)).store slice.val).poisoned = (s.store slice.val).poisoned.filter (fun l => l != loc.val)) ∧
  (∀ (slice : Fin 32) (s : State), s.stopped = false → s.shut ((ucsPage slice.val)) = false → s.ucsState slice.val = 3 →
    ∃ t, exec (.arm slice) s = .next t ∧
      Only [.regs, .latches, .mtn] s t ∧
      t.rd (ucsPage slice.val) F.ucs_BANK_CTRL_ARM = 1 ∧
      t.ucsState slice.val = 3 ∧
      RegsOnly [ucsPage slice.val] s t) ∧
  (∀ (slice : Fin 32) (s : State), s.stopped = false → s.shut ((ucsPage slice.val)) = false → s.ucsState slice.val = 3 → (¬ (s.epochDue ∧ s.on (ucsPage slice.val) F.ucs_BANK_CTRL_ARM = true)) →
    exec (.bankAbort slice) s = .next (setUcsState slice.val 5 (s.wakeClock (ucsPage slice.val))) ∧
      Only [.regs, .out, .host, .latches, .mtn] s (setUcsState slice.val 5 (s.wakeClock (ucsPage slice.val))) ∧
      ((setUcsState slice.val 5 (s.wakeClock (ucsPage slice.val)))).ucsState slice.val = 5) ∧
  (∀ (slice : Fin 32) (s : State), s.stopped = false → s.shut ((ucsPage slice.val)) = false → ((s.ucsState slice.val = 3 ∧ s.epochDue ∧ s.on (ucsPage slice.val) F.ucs_BANK_CTRL_ARM = true ∨ s.ucsState slice.val = 4 ∧ coreCycle (s.store slice.val).since = coreCycle s.mono)) →
    ∃ t, exec (.bankAbort slice) s = .next t ∧
      Only [.regs, .out, .host, .latches, .mtn] s t ∧
      t.rd (ucsPage slice.val) F.ucs_BANK_STATUS_ABORT_REFUSED = 1 ∧
      t.ucsState slice.val = s.ucsState slice.val ∧
      RegsOnly [ucsPage slice.val] s t) ∧
  (∀ (slice : Fin 32) (s : State), s.stopped = false → s.shut ((ucsPage slice.val)) = false →
    exec (.clearStats slice) s = .next (clearStats slice.val (s.wakeClock (ucsPage slice.val))) ∧
      Only [.regs, .latches, .mtn] s (clearStats slice.val (s.wakeClock (ucsPage slice.val))) ∧
      ((clearStats slice.val (s.wakeClock (ucsPage slice.val)))).rd (ucsPage slice.val) F.ucs_MC_STATUS_MC_COUNT = 0) ∧
  (∀ (slice : Fin 32) (addr : Fin 4096) (bank : Fin 2) (region : Fin 4) (s : State), s.stopped = false → s.shut ((ucsPage slice.val)) = false →
    ∃ t, exec (.csSelWrite slice addr bank region) s = .next t ∧
      Only [.regs, .free, .latches, .mtn] s t ∧
      t.rd (ucsPage slice.val) F.ucs_CS_SEL_ADDR = addr.val ∧
      t.rd (ucsPage slice.val) F.ucs_CS_SEL_BANK = bank.val ∧
      t.rd (ucsPage slice.val) F.ucs_CS_SEL_REGION = region.val ∧
      RegsOnly [ucsPage slice.val] s t) ∧
  (∀ (slice : Fin 32) (readback : Bool) (l : Load) (s : State), s.stopped = false → s.ucsState slice.val = 2 → (s.crown.load = some l) →
    exec (.stagingComplete slice readback) s = .next (endLoad { stageBank slice.val readback s with crown := { s.crown with load := some { l with staged := if (stageBank slice.val readback s).ucsState slice.val = 3 then putBit l.staged slice.val true else l.staged } } }) ∧
      Only [.regs, .out, .host, .latches, .ucs, .crown] s (endLoad { stageBank slice.val readback s with crown := { s.crown with load := some { l with staged := if (stageBank slice.val readback s).ucsState slice.val = 3 then putBit l.staged slice.val true else l.staged } } })) ∧
  (∀ (slice : Fin 32) (readback : Bool) (s : State), s.stopped = false → s.ucsState slice.val = 2 → s.crown.load = none →
    exec (.stagingComplete slice readback) s = .next (stageBank slice.val readback s) ∧
      Only [.regs, .out, .host, .latches, .ucs, .crown] s (stageBank slice.val readback s)) ∧
  (∀ (slice : Fin 32) (s : State), s.stopped = false → s.ucsState slice.val = 4 → s.oldBankFrames slice.val = 0 →
    exec (.drainComplete slice) s = .next (setUcsState slice.val 5 s) ∧
      Only [.regs, .out, .host] s (setUcsState slice.val 5 s) ∧
      ((setUcsState slice.val 5 s)).ucsState slice.val = 5 ∧
      ((setUcsState slice.val 5 s)).on (ucsPage slice.val) F.ucs_BANK_STATUS_GOLDEN = false) ∧
  (∀ (slice : Fin 32) (s : State), s.stopped = false → s.ucsState slice.val = 4 → (s.store slice.val).slow = false → ((s.store slice.val).since + ns 100000000 ≤ s.mono) →
    ∃ t, exec (.drainSlow slice) s = .next t ∧
      Only [.regs, .out, .host, .latches, .ucs] s t ∧
      (t.store slice.val).slow = true ∧
      t.ucsState slice.val = 4 ∧
      (t.store slice.val).since = (s.store slice.val).since) ∧
  (∀ (slice : Fin 32) (s : State), s.stopped = false → s.ucsState slice.val = 5 →
    exec (.resyncComplete slice) s = .next (setUcsState slice.val 1 (writeBank slice.val (1 - s.activeBank slice.val) ((s.store slice.val).bank (s.activeBank slice.val)) s)) ∧
      Only [.regs, .out, .host, .ucs] s (setUcsState slice.val 1 (writeBank slice.val (1 - s.activeBank slice.val) ((s.store slice.val).bank (s.activeBank slice.val)) s)) ∧
      ((setUcsState slice.val 1 (writeBank slice.val (1 - s.activeBank slice.val) ((s.store slice.val).bank (s.activeBank slice.val)) s))).ucsState slice.val = 1)

/-- CQ_DOORBELL with the descriptors from the old tail to the new posts and fetches them; CQ_FETCH_ERR stops the queue; CQ_ENABLE is taken as R230 gives it where LOG2_SIZE is legal. A command at the front of a queue: SEARCH and NEXT complete with what they find; an INSERT, DELETE or MODIFY with the stage flag is staged in the epoch and without it committed at once; FLUSH_BY_PORT and AGE_SWEEP of the EMT pass over it and remove what R229 names. -/
def Obligations.TableCommandsComplete : Prop :=
  (∀ (queue : Fin 16) (tail : BitVec 12) (descs : List (List Byte)) (s : State), s.stopped = false → s.shut ((cqPage queue.val)) = false → (descs.length = (tail.toNat % s.cqSize queue.val + s.cqSize queue.val - s.rd (cqPage queue.val) F.tblq_CQ_TAIL % s.cqSize queue.val) % s.cqSize queue.val) → (descs.all (fun d => d.length == 256) = true) →
    exec (.cqDoorbell queue tail descs) s = .next (wakeCrown (pump (fetchPosted queue.val (((s.wakeClock (cqPage queue.val)).wr (cqPage queue.val) F.tblq_CQ_TAIL tail.toNat).putCq queue.val { s.cq queue.val with posted := (s.cq queue.val).posted ++ descs })))) ∧
      Only [.regs, .out, .host, .latches, .tbl, .mtn] s (wakeCrown (pump (fetchPosted queue.val (((s.wakeClock (cqPage queue.val)).wr (cqPage queue.val) F.tblq_CQ_TAIL tail.toNat).putCq queue.val { s.cq queue.val with posted := (s.cq queue.val).posted ++ descs }))))) ∧
  (∀ (queue : Fin 16) (translation : Bool) (s : State), s.stopped = false → s.on (cqPage queue.val) F.tblq_CQ_CFG_ENABLE = true →
    exec (.cqFetchErr queue translation) s = .next (cqError queue.val translation s) ∧
      Only [.regs, .out, .host, .latches] s (cqError queue.val translation s) ∧
      ((cqError queue.val translation s)).on (cqPage queue.val) F.tblq_CQ_STATUS_STOPPED = true ∧
      ((cqError queue.val translation s)).on (cqPage queue.val) F.tblq_CQ_STATUS_FETCH_ERR = true) ∧
  (∀ (queue : Fin 16) (data : Word) (s : State), s.stopped = false → s.shut ((cqPage queue.val)) = false → (4 ≤ data.toNat / 256 % 16) → (data.toNat / 256 % 16 ≤ 12) → (data.toNat % 2 = 0) → s.on (cqPage queue.val) F.tblq_CQ_CFG_ENABLE = false →
    ∃ t, exec (.cqEnable queue data) s = .next t ∧
      Only [.regs, .out, .host, .latches, .tbl, .mtn] s t ∧
      t.rd (cqPage queue.val) F.tblq_CQ_CFG_LOG2_SIZE = data.toNat / 256 % 16 ∧
      t.rd (cqPage queue.val) F.tblq_CQ_CFG_ENABLE = 0 ∧
      RegsOnly [cqPage queue.val] s t) ∧
  (∀ (queue : Fin 16) (data : Word) (s : State), s.stopped = false → s.shut ((cqPage queue.val)) = false → (4 ≤ data.toNat / 256 % 16) → (data.toNat / 256 % 16 ≤ 12) → (data.toNat % 2 = 1) → s.on (cqPage queue.val) F.tblq_CQ_CFG_ENABLE = false →
    exec (.cqEnable queue data) s = .next (pump (fetchPosted queue.val ((((s.wakeClock (cqPage queue.val)).wr (cqPage queue.val) F.tblq_CQ_CFG_LOG2_SIZE (data.toNat / 256 % 16)).wr (cqPage queue.val) F.tblq_CQ_CFG_ENABLE 1).wr (cqPage queue.val) F.tblq_CQ_STATUS_STOPPED 0))) ∧
      Only [.regs, .out, .host, .latches, .tbl, .mtn] s (pump (fetchPosted queue.val ((((s.wakeClock (cqPage queue.val)).wr (cqPage queue.val) F.tblq_CQ_CFG_LOG2_SIZE (data.toNat / 256 % 16)).wr (cqPage queue.val) F.tblq_CQ_CFG_ENABLE 1).wr (cqPage queue.val) F.tblq_CQ_STATUS_STOPPED 0)))) ∧
  (∀ (queue : Fin 16) (d : List Byte) (s : State), s.stopped = false → (s.mustWait (.command queue.val 1 [] 0) = false) → (s.command queue.val 1 = some d) →
    exec (.search queue) s = .next (endCycle (complete queue.val (searchCmd d s) s)) ∧
      Only [.regs, .out, .host, .latches, .ucs, .tbl, .vsr] s (endCycle (complete queue.val (searchCmd d s) s))) ∧
  (∀ (queue : Fin 16) (d : List Byte) (s : State), s.stopped = false → (s.mustWait (.command queue.val 2 [] 0) = false) → (s.command queue.val 2 = some d) →
    exec (.next queue) s = .next (endCycle (complete queue.val (nextCmd d (s.cq queue.val).walk s).1 (s.putCq queue.val { s.cq queue.val with walk := (nextCmd d (s.cq queue.val).walk s).2 }))) ∧
      Only [.regs, .out, .host, .latches, .ucs, .tbl, .vsr] s (endCycle (complete queue.val (nextCmd d (s.cq queue.val).walk s).1 (s.putCq queue.val { s.cq queue.val with walk := (nextCmd d (s.cq queue.val).walk s).2 })))) ∧
  (∀ (queue : Fin 16) (path : List Nat) (choice : Nat) (d : List Byte) (s : State), s.stopped = false → s.mustWait (.command queue.val 3 path choice) = false → (s.command queue.val 3 = some d) →
    exec (.insert queue path choice) s = .next (endCycle ((if dFlag d 0 then stageChange queue.val 3 d path choice s else commitChange queue.val 3 d path choice s))) ∧
      Only [.regs, .out, .host, .latches, .ucs, .tbl, .vsr] s (endCycle ((if dFlag d 0 then stageChange queue.val 3 d path choice s else commitChange queue.val 3 d path choice s)))) ∧
  (∀ (queue : Fin 16) (d : List Byte) (s : State), s.stopped = false → (s.mustWait (.command queue.val 4 [] 0) = false) → (s.command queue.val 4 = some d) →
    exec (.delete queue) s = .next (endCycle ((if dFlag d 0 then stageChange queue.val 4 d [] 0 s else commitChange queue.val 4 d [] 0 s))) ∧
      Only [.regs, .out, .host, .latches, .ucs, .tbl, .vsr] s (endCycle ((if dFlag d 0 then stageChange queue.val 4 d [] 0 s else commitChange queue.val 4 d [] 0 s)))) ∧
  (∀ (queue : Fin 16) (d : List Byte) (s : State), s.stopped = false → (s.mustWait (.command queue.val 5 [] 0) = false) → (s.command queue.val 5 = some d) →
    exec (.modify queue) s = .next (endCycle ((if dFlag d 0 then stageChange queue.val 5 d [] 0 s else commitChange queue.val 5 d [] 0 s))) ∧
      Only [.regs, .out, .host, .latches, .ucs, .tbl, .vsr] s (endCycle ((if dFlag d 0 then stageChange queue.val 5 d [] 0 s else commitChange queue.val 5 d [] 0 s)))) ∧
  (∀ (queue : Fin 16) (d : List Byte) (s : State), s.stopped = false → (s.mustWait (.command queue.val 6 [] 0) = false) → (s.command queue.val 6 = some d) → dTable d = 1 → dFlag d 0 = false → (dArg d ≤ 1023) →
    exec (.flushByPort queue) s = .next (endCycle (passEmt queue.val (fun e => e.data.testBit 10 && e.port == dArg d && (dFlag d 4 || !e.isStatic)) s)) ∧
      Only [.regs, .out, .host, .latches, .ucs, .tbl, .vsr] s (endCycle (passEmt queue.val (fun e => e.data.testBit 10 && e.port == dArg d && (dFlag d 4 || !e.isStatic)) s))) ∧
  (∀ (queue : Fin 16) (d : List Byte) (s : State), s.stopped = false → (s.mustWait (.command queue.val 6 [] 0) = false) → (s.command queue.val 6 = some d) → ((dTable d ≠ 1 ∨ dFlag d 0 = true ∨ 1023 < dArg d)) →
    exec (.flushByPort queue) s = .next (endCycle (complete queue.val { status := 7 } s)) ∧
      Only [.regs, .out, .host, .latches, .ucs, .tbl, .vsr] s (endCycle (complete queue.val { status := 7 } s))) ∧
  (∀ (queue : Fin 16) (d : List Byte) (s : State), s.stopped = false → (s.mustWait (.command queue.val 7 [] 0) = false) → (s.command queue.val 7 = some d) → dTable d = 1 → dFlag d 0 = false →
    exec (.ageSweep queue) s = .next (endCycle (passEmt queue.val (fun e => !e.isStatic && decide (s.age e ≥ dArg d)) s)) ∧
      Only [.regs, .out, .host, .latches, .ucs, .tbl, .vsr] s (endCycle (passEmt queue.val (fun e => !e.isStatic && decide (s.age e ≥ dArg d)) s)))

/-- GEN_DRAIN completes at once where no frame holds an older generation and waits otherwise; GEN_DRAIN_COMPLETE completes it once none does; GEN_DRAIN_SLOW reports it once after 100 ms. EPOCH_COMMIT of an open epoch with every armed slice staged and no error enters SEALING and keeps the instant of effect; EPOCH_ABORT discards the open epoch; EPOCH_SEAL_COMPLETE with the journal written and the effect still to come seals it and lists the armed slices; EPOCH_EFFECT takes effect; EPOCH_SETTLE_COMPLETE ends the epoch once no frame runs an older generation: nothing staged, the journal APPLIED. -/
def Obligations.EpochCommandsComplete : Prop :=
  (∀ (queue : Fin 16) (d : List Byte) (s : State), s.stopped = false → (s.command queue.val 8 = some d) → dTable d = 0 → (dArg d ≠ 0) → s.holdsOlder (dArg d) = true →
    ∃ t, exec (.genDrain queue) s = .next t ∧
      Only [.regs, .out, .host, .latches, .tbl] s t ∧
      (t.cq queue.val).drain = some (dArg d, s.mono, false) ∧
      (∀ q, q ≠ queue.val → t.cq q = s.cq q) ∧
      RegsOnly [] s t) ∧
  (∀ (queue : Fin 16) (d : List Byte) (s : State), s.stopped = false → (s.command queue.val 8 = some d) → dTable d = 0 → dArg d = 0 → s.holdsOlder s.genNow = false →
    exec (.genDrain queue) s = .next (complete queue.val { status := 1, gen := s.genNow } s) ∧
      Only [.regs, .out, .host, .latches, .tbl] s (complete queue.val { status := 1, gen := s.genNow } s)) ∧
  (∀ (queue : Fin 16) (d : List Byte) (g : Nat) (s : State), s.stopped = false → (s.command queue.val 8 = some d) → (g = (if dArg d = 0 then s.genNow else dArg d)) →
    exec (.genDrain queue) s = .next ((if dTable d ≠ 0 then complete queue.val { status := 7 } s else if s.holdsOlder g = true then s.putCq queue.val { s.cq queue.val with drain := some (g, s.mono, false) } else complete queue.val { status := 1, gen := g } s)) ∧
      Only [.regs, .out, .host, .latches, .tbl] s ((if dTable d ≠ 0 then complete queue.val { status := 7 } s else if s.holdsOlder g = true then s.putCq queue.val { s.cq queue.val with drain := some (g, s.mono, false) } else complete queue.val { status := 1, gen := g } s))) ∧
  (∀ (queue : Fin 16) (g : Nat) (a : T80) (slow : Bool) (s : State), s.stopped = false → ((s.cq queue.val).drain = some (g, a, slow)) → s.holdsOlder g = false →
    exec (.genDrainComplete queue) s = .next (complete queue.val { status := 1, gen := g } s) ∧
      Only [.regs, .out, .host, .latches, .tbl] s (complete queue.val { status := 1, gen := g } s)) ∧
  (∀ (queue : Fin 16) (g : Nat) (a : T80) (s : State), s.stopped = false → ((s.cq queue.val).drain = some (g, a, false)) → s.holdsOlder g = true → (a + ns 100000000 ≤ s.mono) →
    ∃ t, exec (.genDrainSlow queue) s = .next t ∧
      Only [.regs, .out, .host, .latches, .tbl] s t ∧
      (t.cq queue.val).drain = some (g, a, true)) ∧
  (∀ (queue : Fin 16) (d : List Byte) (s : State), s.stopped = false → (s.command queue.val 9 = some d) → dFlag d 5 = false → dTable d = 0 → ((s.epochState = 1 ∨ (s.epochState = 0 ∧ s.armed ≠ []))) → (s.armed.any (fun g => s.ucsState g != 3) = false) → ((s.rd 0x300 F.tbl0_EPOCH_STATUS_ERRORS = 0 ∨ dFlag d 6 = true)) →
    ∃ t, exec (.epochCommit queue) s = .next t ∧
      Only [.regs, .out, .host, .latches, .tbl] s t ∧
      t.epochState = 2 ∧
      t.rd 0x300 F.tbl0_EPOCH_STATUS_ERRORS = 0 ∧
      t.tbl.epoch.queue = some queue.val ∧
      t.tbl.epoch.effect = dEffect d) ∧
  (∀ (queue : Fin 16) (d : List Byte) (s : State), s.stopped = false → (s.command queue.val 9 = some d) → dFlag d 5 = true → dTable d = 0 → s.epochState = 1 →
    exec (.epochAbort queue) s = .next (complete queue.val { status := 14 } (discardEpoch s)) ∧
      Only [.regs, .out, .host, .latches, .tbl] s (complete queue.val { status := 14 } (discardEpoch s))) ∧
  (∀ (q : Nat) (s : State), s.stopped = false → s.epochState = 2 → (s.tbl.epoch.queue = some q) → (s.now < s.tbl.epoch.effect) →
    ∃ t, exec (.epochSealComplete true) s = .next t ∧
      Only [.regs, .out, .host, .latches, .ucs, .tbl, .vsr] s t ∧
      t.epochState = 3 ∧
      t.tbl.journal.phase = 2 ∧
      t.tbl.journal.slices = s.armed ∧
      t.tbl.epoch = { s.tbl.epoch with late := false } ∧
      RegsOnly [0x300] s t) ∧
  (∀ (journalOk : Bool) (q : Nat) (s : State), s.stopped = false → s.epochState = 2 → (s.tbl.epoch.queue = some q) → journalOk = false →
    exec (.epochSealComplete journalOk) s = .next (complete q { status := 12 } (refuseEpoch 3 (discardEpoch (s.raise 0x300 10)))) ∧
      Only [.regs, .out, .host, .latches, .ucs, .tbl, .vsr] s (complete q { status := 12 } (refuseEpoch 3 (discardEpoch (s.raise 0x300 10))))) ∧
  (∀ (journalOk : Bool) (q : Nat) (s : State), s.stopped = false → s.epochState = 2 → (s.tbl.epoch.queue = some q) → journalOk = true → (s.tbl.epoch.effect ≤ s.now) → (s.tbl.deferred = []) →
    ∃ t, exec (.epochSealComplete journalOk) s = .next t ∧
      Only [.regs, .out, .host, .latches, .ucs, .tbl, .vsr] s t ∧
      t.tbl.journal.phase = 2 ∧
      t.tbl.journal.slices = s.armed) ∧
  (∀ (s : State), s.stopped = false → s.mustWait (.effect (s.tbl.epoch.queue.getD 0)) = false → s.epochState = 3 → (s.tbl.epoch.effect ≤ s.now) → (s.tbl.epoch.changes.any (fun x => s.kept x.1 x.2) = false) →
    exec (.epochEffect) s = .next (endCycle (epochEffect s)) ∧
      Only [.regs, .out, .host, .latches, .ucs, .tbl, .vsr] s (endCycle (epochEffect s)) ∧
      (epochEffect s).epochState = 4) ∧
  (∀ (s : State), s.stopped = false → s.epochState = 4 → s.runsOlder s.tbl.epoch.gen = false →
    ∃ t, exec (.epochSettleComplete) s = .next t ∧
      Only [.regs, .out, .host, .latches, .tbl, .mtn] s t ∧
      t.epochState = 0 ∧
      t.rd 0x300 F.tbl0_EPOCH_STATUS_STAGED = 0 ∧
      t.tbl.journal.phase = 3 ∧
      t.tbl.listEmt = [] ∧
      t.tbl.epoch = {})

/-- VERSION_RETIRE drops the old version of an entry that no frame needs; LEARN_APPLY applies the oldest learn event that is 16,384 ns old and takes it out of its slice's queue; MOVE_HOLD_EXPIRY drops the holds that have run out and shows how many remain; AGE_SWEEPER_VISIT removes an entry that is too old, counts and notifies it; STASH_MOVE_BACK moves a stash entry to the free place found for its key; SHADOW_WRITE mirrors a place that is behind and releases what waited for it; SHADOW_RELOAD of places none of which is lost takes each one not awaited from the shadow. -/
def Obligations.TableUpkeepCommandsComplete : Prop :=
  (∀ (table : Fin 3) (index g : Nat) (s : State), s.stopped = false → table.val = 0 → ((s.emtAt index).since = some g) → s.runsOlder g = false →
    exec (.versionRetire table index) s = .next (s.putEmt index (s.emtAt index).retire) ∧
      Only [.regs, .out, .host, .latches, .tbl] s (s.putEmt index (s.emtAt index).retire) ∧
      ((s.putEmt index (s.emtAt index).retire)).emtAt index = (s.emtAt index).retire) ∧
  (∀ (table : Fin 3) (index : Nat) (s : State), s.stopped = false →
    exec (.versionRetire table index) s = .next (retireAt (table.val + 1) index s) ∧
      Only [.regs, .out, .host, .latches, .tbl] s (retireAt (table.val + 1) index s)) ∧
  (∀ (path : List Nat) (sl : Nat) (e : LearnEv) (s : State), s.stopped = false → s.mustWait (.learn path) = false → (s.firstLearn = some (sl, e)) → (e.stamp + ns 16384 ≤ s.now) →
    exec (.learnApply path) s = .next (endCycle (applyLearn e path { s with tbl := { s.tbl with learns := s.tbl.learns.put [] sl ((s.tbl.learns.val [] sl).erase e) } })) ∧
      Only [.regs, .out, .host, .latches, .ucs, .tbl, .vsr] s (endCycle (applyLearn e path { s with tbl := { s.tbl with learns := s.tbl.learns.put [] sl ((s.tbl.learns.val [] sl).erase e) } }))) ∧
  (∀ (s : State), s.stopped = false → ((s.tbl.holds.filter (fun x => decide (s.now ≤ ns (x.2 + s.rd 0x301 F.tbl1_LEARN_CFG_MOVE_HOLD)))).length ≠ s.tbl.holds.length) →
    ∃ t, exec (.moveHoldExpiry) s = .next t ∧
      Only [.regs, .tbl] s t ∧
      t.tbl.holds = s.tbl.holds.filter (fun x => decide (s.now ≤ ns (x.2 + s.rd 0x301 F.tbl1_LEARN_CFG_MOVE_HOLD))) ∧
      t.rd 0x301 F.tbl1_EMT_STATUS_HOLD_USED = t.tbl.holds.length % 2 ^ F.tbl1_EMT_STATUS_HOLD_USED.w ∧
      RegsOnly [0x301] s t) ∧
  (∀ (index : Fin 0x400040) (e : EmtEntry) (s : State), s.stopped = false → s.mustWait (.visit index.val) = false → ((s.emtAt index.val).now = some e) → s.on 0x301 F.tbl1_AGE_CFG_AGE_ENABLE = true → e.isStatic = false → (s.emtAt index.val).staged = none → (min 64511 (s.rd 0x301 F.tbl1_AGE_CFG_AGE_LIMIT) ≤ s.age e) →
    exec (.ageSweeperVisit index) s = .next (endCycle (notify 4 e.port 0xFFFF s.nowNs index.val e.key ((removeEmt index.val s).count 0x0A07 0))) ∧
      Only [.regs, .out, .host, .latches, .ucs, .tbl, .vsr] s (endCycle (notify 4 e.port 0xFFFF s.nowNs index.val e.key ((removeEmt index.val s).count 0x0A07 0)))) ∧
  (∀ (entry : Fin 64) (k j : Nat) (s : State), s.stopped = false → s.mustWait (.back entry.val) = false → ((s.emtAt (stash0 + entry.val)).emtKeyOf = some k) → ((s.candidates k).find? (fun j => (s.emtAt j).isFree) = some j) → ((s.emtAt (stash0 + entry.val)).staged = none) →
    exec (.stashMoveBack entry) s = .next (endCycle (moveEmt (stash0 + entry.val) j s)) ∧
      Only [.regs, .out, .host, .latches, .ucs, .tbl, .vsr] s (endCycle (moveEmt (stash0 + entry.val) j s))) ∧
  (∀ (table : Fin 3) (index : Nat) (ok : Bool) (s : State), s.stopped = false → (s.tbl.behind.contains (table.val + 1, index) = true) → s.shadowReachable = true →
    exec (.shadowWrite table index ok) s = .next ((if ok = true then releaseDone (mirror (table.val + 1) index s) else s.raise 0x300 9)) ∧
      Only [.regs, .out, .host, .latches, .tbl, .mtn] s ((if ok = true then releaseDone (mirror (table.val + 1) index s) else s.raise 0x300 9)) ∧
      (ok = false → s.quenched 0x300 = false → ((((if ok = true then releaseDone (mirror (table.val + 1) index s) else s.raise 0x300 9))).rd 0x300 F.hdr_ERR_STATUS_REAL).testBit 9 = true)) ∧
  (∀ (table : Fin 3) (places lost : List Nat) (s : State), s.stopped = false → s.shadowReachable = true → ((lost = [] ∨ s.shadowPoisoned = true)) →
    exec (.shadowReload table places lost) s = .next ((places.filter fun i => !lost.contains i).foldl (fun (u : State) i => if u.awaited (table.val + 1) i = true then u else { reload (table.val + 1) i u with tbl := { (reload (table.val + 1) i u).tbl with behind := (reload (table.val + 1) i u).tbl.behind.filter fun x => x != (table.val + 1, i) } }) (lost.foldl (fun (u : State) i => loseEntry (table.val + 1) i u) s)) ∧
      Only [.regs, .out, .host, .latches, .tbl] s ((places.filter fun i => !lost.contains i).foldl (fun (u : State) i => if u.awaited (table.val + 1) i = true then u else { reload (table.val + 1) i u with tbl := { (reload (table.val + 1) i u).tbl with behind := (reload (table.val + 1) i u).tbl.behind.filter fun x => x != (table.val + 1, i) } }) (lost.foldl (fun (u : State) i => loseEntry (table.val + 1) i u) s)))

/-- A commit, an epoch's effect, a learn, a move back, a sweep command or a sweeper's visit that finds an act before it among the commands that wait in its cycle (a hit before all; a commit of a lower queue before one of a higher; commits before learns; learns before moves; moves before sweeps) changes nothing but to wait. Of those that wait, the next one to act is one of them, none that waits without a queue comes before it, and there is one as long as any waits. -/
def Obligations.ActsOnTheTablesKeepTheirOrder : Prop :=
  ((∀ (l : List TableAct) (a : TableAct), nextAct l = some a → a ∈ l ∧ ∀ b ∈ l, b.queue = none → rankBefore b.rank a.rank = false) ∧
  (∀ l : List TableAct, l ≠ [] → (nextAct l).isSome = true)) ∧
  (∀ (queue : Fin 16) (path : List Nat) (choice : Nat) (c : Instr) (r : Nat × Nat) (k : Option Nat) (s : State), (c ∈ s.pending) → (s.rankOf c = some (r, k)) → (k ≠ some queue.val) → ((r.1 < 1 ∨ (r.1 = 1 ∧ r.2 < queue.val))) →
    exec (.insert queue path choice) s = .next ({ s with tbl := { s.tbl with deferred := s.tbl.deferred ++ [.command queue.val 3 path choice] } }) ∧
      Only [.tbl] s ({ s with tbl := { s.tbl with deferred := s.tbl.deferred ++ [.command queue.val 3 path choice] } })) ∧
  (∀ (queue : Fin 16) (c : Instr) (r : Nat × Nat) (k : Option Nat) (s : State), (c ∈ s.pending) → (s.rankOf c = some (r, k)) → (k ≠ some queue.val) → ((r.1 < 1 ∨ (r.1 = 1 ∧ r.2 < queue.val))) →
    exec (.delete queue) s = .next ({ s with tbl := { s.tbl with deferred := s.tbl.deferred ++ [.command queue.val 4 [] 0] } }) ∧
      Only [.tbl] s ({ s with tbl := { s.tbl with deferred := s.tbl.deferred ++ [.command queue.val 4 [] 0] } })) ∧
  (∀ (queue : Fin 16) (c : Instr) (r : Nat × Nat) (k : Option Nat) (s : State), (c ∈ s.pending) → (s.rankOf c = some (r, k)) → (k ≠ some queue.val) → ((r.1 < 1 ∨ (r.1 = 1 ∧ r.2 < queue.val))) →
    exec (.modify queue) s = .next ({ s with tbl := { s.tbl with deferred := s.tbl.deferred ++ [.command queue.val 5 [] 0] } }) ∧
      Only [.tbl] s ({ s with tbl := { s.tbl with deferred := s.tbl.deferred ++ [.command queue.val 5 [] 0] } })) ∧
  (∀ (c : Instr) (r : Nat × Nat) (k : Option Nat) (s : State), (c ∈ s.pending) → (s.rankOf c = some (r, k)) → (r.1 < 1) →
    exec (.epochEffect) s = .next ({ s with tbl := { s.tbl with deferred := s.tbl.deferred ++ [.effect (s.tbl.epoch.queue.getD 0)] } }) ∧
      Only [.tbl] s ({ s with tbl := { s.tbl with deferred := s.tbl.deferred ++ [.effect (s.tbl.epoch.queue.getD 0)] } })) ∧
  (∀ (path : List Nat) (c : Instr) (r : Nat × Nat) (k : Option Nat) (s : State), (c ∈ s.pending) → (s.rankOf c = some (r, k)) → (r.1 < 2) →
    exec (.learnApply path) s = .next ({ s with tbl := { s.tbl with deferred := s.tbl.deferred ++ [.learn path] } }) ∧
      Only [.tbl] s ({ s with tbl := { s.tbl with deferred := s.tbl.deferred ++ [.learn path] } })) ∧
  (∀ (entry : Fin 64) (c : Instr) (r : Nat × Nat) (k : Option Nat) (s : State), (c ∈ s.pending) → (s.rankOf c = some (r, k)) → (r.1 < 3) →
    exec (.stashMoveBack entry) s = .next ({ s with tbl := { s.tbl with deferred := s.tbl.deferred ++ [.back entry.val] } }) ∧
      Only [.tbl] s ({ s with tbl := { s.tbl with deferred := s.tbl.deferred ++ [.back entry.val] } })) ∧
  (∀ (queue : Fin 16) (c : Instr) (r : Nat × Nat) (k : Option Nat) (s : State), (c ∈ s.pending) → (s.rankOf c = some (r, k)) → (k ≠ some queue.val) → (r.1 < 4) →
    exec (.flushByPort queue) s = .next ({ s with tbl := { s.tbl with deferred := s.tbl.deferred ++ [.command queue.val 6 [] 0] } }) ∧
      Only [.tbl] s ({ s with tbl := { s.tbl with deferred := s.tbl.deferred ++ [.command queue.val 6 [] 0] } })) ∧
  (∀ (queue : Fin 16) (c : Instr) (r : Nat × Nat) (k : Option Nat) (s : State), (c ∈ s.pending) → (s.rankOf c = some (r, k)) → (k ≠ some queue.val) → (r.1 < 4) →
    exec (.ageSweep queue) s = .next ({ s with tbl := { s.tbl with deferred := s.tbl.deferred ++ [.command queue.val 7 [] 0] } }) ∧
      Only [.tbl] s ({ s with tbl := { s.tbl with deferred := s.tbl.deferred ++ [.command queue.val 7 [] 0] } })) ∧
  (∀ (index : Fin 0x400040) (c : Instr) (r : Nat × Nat) (k : Option Nat) (s : State), (c ∈ s.pending) → (s.rankOf c = some (r, k)) → (r.1 < 4) →
    exec (.ageSweeperVisit index) s = .next ({ s with tbl := { s.tbl with deferred := s.tbl.deferred ++ [.visit index.val] } }) ∧
      Only [.tbl] s ({ s with tbl := { s.tbl with deferred := s.tbl.deferred ++ [.visit index.val] } }))

/-- MCG_SEL_WRITE selects a group; MCG_COMMIT puts what is staged for the selected group in force and leaves every other; POOL_CFG_WRITE is taken as its rule gives it; Q_SEL_WRITE and PG_SEL_WRITE select a queue or a priority group and show its configuration where it is the slice's; CELL_ECC_ERROR counts a corrected error of its bank, and an uncorrected one spares its bank; BANK_TAI_SECOND judges the second's errors of a bank that is due; SPARE_CMD of a bank in service starts its sparing; SPARE_COPY_COMPLETE that lost nothing remaps the bank. -/
def Obligations.BufferCommandsComplete : Prop :=
  (∀ (group : Fin 1024) (s : State), s.stopped = false → s.shut (0x4A4) = false →
    ∃ t, exec (.mcgSelWrite group) s = .next t ∧
      Only [.regs, .latches, .mtn] s t ∧
      t.rd 0x4A4 F.bufx_MCG_SEL_GROUP = group.val ∧
      RegsOnly [0x4A4] s t ∧
      t.palm.mcgs = s.palm.mcgs) ∧
  (∀ (s : State), s.stopped = false → s.shut (0x4A4) = false →
    ∃ t, exec (.mcgCommit) s = .next t ∧
      Only [.regs, .latches, .palm, .mtn] s t ∧
      t.mcg (s.rd 0x4A4 F.bufx_MCG_SEL_GROUP) = s.stagedMcg ∧
      (∀ g, g ≠ s.rd 0x4A4 F.bufx_MCG_SEL_GROUP → t.mcg g = s.mcg g) ∧
      RegsOnly [] s t) ∧
  (∀ (which : Fin 35) (data : Word) (low high : Bool) (s : State), s.stopped = false → (s.shut (if which.val < 3 then 0x4A4 else 0x420 + (which.val - 3)) = true) →
    ∃ t, exec (.poolCfgWrite which data low high) s = .next t ∧
      Only [.regs, .latches] s t ∧
      t.on (if which.val < 3 then 0x4A4 else 0x420 + (which.val - 3)) F.hdr_PAGE_STATUS_WRITE_DROPPED = true ∧
      RegsOnly [if which.val < 3 then 0x4A4 else 0x420 + (which.val - 3)] s t) ∧
  (∀ (which : Fin 35) (data : Word) (low high : Bool) (s : State), s.stopped = false → (which.val < 3) → s.shut 0x4A4 = false →
    exec (.poolCfgWrite which data low high) s = .next (writePools which.val (merged ((s.wakeClock 0x4A4).word 0x4A4 (0x080 + 8 * which.val)) data.toNat low high) (s.wakeClock 0x4A4)) ∧
      Only [.regs, .out, .host, .latches, .palm, .mtn] s (writePools which.val (merged ((s.wakeClock 0x4A4).word 0x4A4 (0x080 + 8 * which.val)) data.toNat low high) (s.wakeClock 0x4A4))) ∧
  (∀ (which : Fin 35) (data : Word) (low high : Bool) (s : State), s.stopped = false → (3 ≤ which.val) → (s.shut (0x420 + (which.val - 3)) = false) →
    exec (.poolCfgWrite which data low high) s = .next (writeQcfg (which.val - 3) (merged ((s.wakeClock (0x420 + (which.val - 3))).shown (0x420 + (which.val - 3)) 0x088) data.toNat low high) (s.wakeClock (0x420 + (which.val - 3)))) ∧
      Only [.regs, .out, .host, .latches, .palm, .mtn] s (writeQcfg (which.val - 3) (merged ((s.wakeClock (0x420 + (which.val - 3))).shown (0x420 + (which.val - 3)) 0x088) data.toNat low high) (s.wakeClock (0x420 + (which.val - 3))))) ∧
  (∀ (slice : Fin 32) (port : Fin 1024) (queue : Fin 16) (s : State), s.stopped = false → (s.shut ((0x420 + slice.val)) = false) →
    ∃ t, exec (.qSelWrite slice port queue) s = .next t ∧
      Only [.regs, .latches, .mtn] s t ∧
      t.rd (0x420 + slice.val) F.slie_Q_SEL_PORT = port.val ∧
      t.rd (0x420 + slice.val) F.slie_Q_SEL_QUEUE = queue.val ∧
      (sliceOf port.val = slice.val → s.configured port.val = true → queue.val ≤ 9 → t.rd (0x420 + slice.val) F.slie_Q_CFG_ALPHA = (s.queue port.val queue.val).alpha % 2 ^ F.slie_Q_CFG_ALPHA.w) ∧
      RegsOnly [0x420 + slice.val] s t) ∧
  (∀ (slice : Fin 32) (port : Fin 1024) (cls : Fin 8) (s : State), s.stopped = false → (s.shut ((0x400 + slice.val)) = false) →
    ∃ t, exec (.pgSelWrite slice port cls) s = .next t ∧
      Only [.regs, .latches, .mtn] s t ∧
      t.rd (0x400 + slice.val) F.slii_PG_SEL_PORT = port.val ∧
      t.rd (0x400 + slice.val) F.slii_PG_SEL_CLASS = cls.val ∧
      (sliceOf port.val = slice.val → s.configured port.val = true → t.rd (0x400 + slice.val) F.slii_PG_CFG1_PG_HDRM = (s.pg port.val cls.val).hdrm % 2 ^ F.slii_PG_CFG1_PG_HDRM.w) ∧
      RegsOnly [0x400 + slice.val] s t) ∧
  (∀ (bank : Fin 1152) (corrected : Bool) (frame : Option Nat) (s : State), s.stopped = false →
    exec (.cellEccError bank corrected frame) s = .next ((if corrected = true then correctedCell bank.val s else uncorrectedCell bank.val frame s)) ∧
      Only [.regs, .out, .ddr, .poison, .host, .latches, .palm, .ldg, .vsr, .mtn] s ((if corrected = true then correctedCell bank.val s else uncorrectedCell bank.val frame s)) ∧
      (corrected = false → frame = none → 2 ≤ (((if corrected = true then correctedCell bank.val s else uncorrectedCell bank.val frame s))).bankState bank.val)) ∧
  (∀ (bank : Fin 1152) (frame : Option Nat) (s : State), s.stopped = false →
    ∃ t, exec (.cellEccError bank true frame) s = .next t ∧
      Only [.regs, .out, .ddr, .poison, .host, .latches, .palm, .ldg, .vsr, .mtn] s t ∧
      t.palm.bankErrors.val 0 bank.val = s.palm.bankErrors.val 0 bank.val + 1 ∧
      t.rdi (bufg bank.val) F.bufg_BANK_CORRECTED (bank.val % 32) = sat F.bufg_BANK_CORRECTED.w (s.rdi (bufg bank.val) F.bufg_BANK_CORRECTED (bank.val % 32) + 1) % 2 ^ F.bufg_BANK_CORRECTED.w ∧
      t.bankState bank.val = s.bankState bank.val) ∧
  (∀ (bank : Fin 1152) (frame : Option Nat) (s : State), s.stopped = false →
    exec (.cellEccError bank false frame) s = .next (uncorrectedCell bank.val frame s) ∧
      Only [.regs, .out, .ddr, .poison, .host, .latches, .palm, .ldg, .vsr, .mtn] s (uncorrectedCell bank.val frame s)) ∧
  (∀ (bank : Fin 1152) (s : State), s.stopped = false → (s.dueAt (0x10000 + bank.val) 1000000000 s.nowNs = true) →
    exec (.bankTaiSecond bank) s = .next (bankSecond bank.val { s with ticks := { s.ticks with last := s.ticks.last.put s.ticks.base (0x10000 + bank.val) s.nowNs } }) ∧
      Only [.regs, .out, .host, .latches, .ticks, .palm, .mtn] s (bankSecond bank.val { s with ticks := { s.ticks with last := s.ticks.last.put s.ticks.base (0x10000 + bank.val) s.nowNs } }) ∧
      ((bankSecond bank.val { s with ticks := { s.ticks with last := s.ticks.last.put s.ticks.base (0x10000 + bank.val) s.nowNs } })).palm.bankErrors.val 0 bank.val = 0) ∧
  (∀ (bank : Fin 2048) (go : Bool) (s : State), s.stopped = false → s.shut (0x4A4) = false →
    exec (.spareCmd bank go) s = .next ((if go = true then spareCmd bank.val (s.wakeClock 0x4A4) else s.wakeClock 0x4A4)) ∧
      Only [.regs, .out, .host, .latches, .palm, .mtn] s ((if go = true then spareCmd bank.val (s.wakeClock 0x4A4) else s.wakeClock 0x4A4)) ∧
      (go = false → (((if go = true then spareCmd bank.val (s.wakeClock 0x4A4) else s.wakeClock 0x4A4))).regs = s.regs) ∧
      (go = false → (((if go = true then spareCmd bank.val (s.wakeClock 0x4A4) else s.wakeClock 0x4A4))).palm = s.palm) ∧
      (go = false → (((if go = true then spareCmd bank.val (s.wakeClock 0x4A4) else s.wakeClock 0x4A4))).out = s.out)) ∧
  (∀ (bank : Fin 2048) (s : State), s.stopped = false → s.shut (0x4A4) = false → (bank.val < 1152) → (s.bankState bank.val < 2) →
    exec (.spareCmd bank true) s = .next (triggerBank bank.val (s.wakeClock 0x4A4)) ∧
      Only [.regs, .out, .host, .latches, .palm, .mtn] s (triggerBank bank.val (s.wakeClock 0x4A4)) ∧
      2 ≤ ((triggerBank bank.val (s.wakeClock 0x4A4))).bankState bank.val) ∧
  (∀ (bank : Fin 2048) (s : State), s.stopped = false → s.shut (0x4A4) = false → (bank.val < 1152) → s.bankState bank.val = 2 →
    exec (.spareCmd bank true) s = .next ((s.wakeClock 0x4A4).bumpi (bufg bank.val) F.bufg_BANK_CORRECTED (bank.val % 32)) ∧
      Only [.regs, .out, .host, .latches, .palm, .mtn] s ((s.wakeClock 0x4A4).bumpi (bufg bank.val) F.bufg_BANK_CORRECTED (bank.val % 32)) ∧
      (((s.wakeClock 0x4A4).bumpi (bufg bank.val) F.bufg_BANK_CORRECTED (bank.val % 32))).palm = s.palm) ∧
  (∀ (bank : Fin 2048) (s : State), s.stopped = false → s.shut (0x4A4) = false → ((1152 ≤ bank.val ∨ s.bankState bank.val = 3 ∨ s.bankState bank.val = 4)) →
    ∃ t, exec (.spareCmd bank true) s = .next t ∧
      Only [.regs, .out, .host, .latches, .palm, .mtn] s t ∧
      t.rd 0x4A4 F.hdr_PAGE_STATUS_WRITE_DROPPED = 1 ∧
      RegsOnly [0x4A4] s t) ∧
  (∀ (lost : List Nat) (s : State), s.on 0x4A4 F.bufx_SPARE_STATUS_COPY_BUSY = true →
    exec (.spareCopyComplete lost) s = .next (remapBank (s.rd 0x4A4 F.bufx_SPARE_STATUS_COPY_BANK) (lost.foldl (fun u f => cellLost f (u.raise (bufg (s.rd 0x4A4 F.bufx_SPARE_STATUS_COPY_BANK)) 1)) s)) ∧
      Only [.regs, .out, .ddr, .poison, .host, .latches, .palm, .ldg, .vsr, .mtn] s (remapBank (s.rd 0x4A4 F.bufx_SPARE_STATUS_COPY_BANK) (lost.foldl (fun u f => cellLost f (u.raise (bufg (s.rd 0x4A4 F.bufx_SPARE_STATUS_COPY_BANK)) 1)) s)) ∧
      (lost = [] → ((remapBank (s.rd 0x4A4 F.bufx_SPARE_STATUS_COPY_BANK) (lost.foldl (fun u f => cellLost f (u.raise (bufg (s.rd 0x4A4 F.bufx_SPARE_STATUS_COPY_BANK)) 1)) s))).bankState (s.rd 0x4A4 F.bufx_SPARE_STATUS_COPY_BANK) = 3))

/-- MERGE_ENABLE of a group with no ground of refusal enables it; MERGE_DISABLE of an enabled one disables it, closing while it holds frames; MERGE_ARRIVAL takes a decided frame whose target is a merge group; MERGE_EMIT of the first frame held, once it may be emitted, emits it, after a corrected error with that cause raised, and drops it on an uncorrected one; SEED_DRAW draws the next second's seed, a free value; SEED_PUBLISH shows the latest seed of a second that is over; MEMBER_ABSENT and MEMBER_PRESENT change the presence of a member. -/
def Obligations.MergeCommandsComplete : Prop :=
  (∀ (group : Fin 64) (s : State), s.stopped = false → s.shut ((mrgPage group.val)) = false → s.on (mrgPage group.val) F.mrg_MRG_STATUS_ENABLED = false → s.mergeRefusal group.val = 0 →
    ∃ t, exec (.mergeEnable group) s = .next t ∧
      Only [.regs, .out, .host, .latches, .timing, .mtn] s t ∧
      t.on (mrgPage group.val) F.mrg_MRG_STATUS_ENABLED = true ∧
      t.rd (mrgPage group.val) F.mrg_MRG_STATUS_REFUSE = 0 ∧
      (t.merge group.val).closing = false ∧
      (t.merge group.val).held = (s.merge group.val).held) ∧
  (∀ (group : Fin 64) (s : State), s.stopped = false → s.shut ((mrgPage group.val)) = false → s.on (mrgPage group.val) F.mrg_MRG_STATUS_ENABLED = false → (s.mergeRefusal group.val ≠ 0) →
    exec (.mergeEnable group) s = .next (signal (mrgPage group.val) 5 (464 + group.val) (((s.wakeClock (mrgPage group.val)).wr (mrgPage group.val) F.mrg_MRG_CFG_ENABLE 0).wr (mrgPage group.val) F.mrg_MRG_STATUS_REFUSE (s.mergeRefusal group.val))) ∧
      Only [.regs, .out, .host, .latches, .timing, .mtn] s (signal (mrgPage group.val) 5 (464 + group.val) (((s.wakeClock (mrgPage group.val)).wr (mrgPage group.val) F.mrg_MRG_CFG_ENABLE 0).wr (mrgPage group.val) F.mrg_MRG_STATUS_REFUSE (s.mergeRefusal group.val))) ∧
      ((signal (mrgPage group.val) 5 (464 + group.val) (((s.wakeClock (mrgPage group.val)).wr (mrgPage group.val) F.mrg_MRG_CFG_ENABLE 0).wr (mrgPage group.val) F.mrg_MRG_STATUS_REFUSE (s.mergeRefusal group.val)))).on (mrgPage group.val) F.mrg_MRG_STATUS_ENABLED = false) ∧
  (∀ (group : Fin 64) (s : State), s.stopped = false → s.shut ((mrgPage group.val)) = false → s.on (mrgPage group.val) F.mrg_MRG_STATUS_ENABLED = true →
    ∃ t, exec (.mergeDisable group) s = .next t ∧
      Only [.regs, .latches, .timing, .mtn] s t ∧
      t.on (mrgPage group.val) F.mrg_MRG_STATUS_ENABLED = false ∧
      t.on (mrgPage group.val) F.mrg_MRG_CFG_ENABLE = false ∧
      (t.merge group.val).held = (s.merge group.val).held ∧
      (t.merge group.val).closing = !(s.merge group.val).held.isEmpty) ∧
  (∀ (frame : Nat) (f : Frame) (s : State), s.stopped = false → (s.frame? frame = some f) → f.stage = .decided → (128 ≤ mdGet f.md 0x36 1) →
    exec (.mergeArrival frame) s = .next (mergeArrival frame s) ∧
      Only [.regs, .free, .out, .ddr, .poison, .host, .latches, .palm, .timing, .ldg, .vsr] s (mergeArrival frame s)) ∧
  (∀ (group : Fin 64) (ecc : Fin 3) (h : HeldFrame) (rest : List HeldFrame) (s : State), s.stopped = false → ((s.merge group.val).held = h :: rest) → s.emits group.val h = true →
    exec (.mergeEmit group ecc) s = .next ((if ecc = 2 then mergeDrop group.val h.frame 0xE9 7 5 (forgetHeld h.frame s) else emitFirst group.val (if ecc = 1 then s.raise (mrgPage group.val) 6 else s))) ∧
      Only [.regs, .out, .ddr, .poison, .host, .latches, .palm, .timing, .ldg, .vsr] s ((if ecc = 2 then mergeDrop group.val h.frame 0xE9 7 5 (forgetHeld h.frame s) else emitFirst group.val (if ecc = 1 then s.raise (mrgPage group.val) 6 else s))) ∧
      (ecc = 2 → (((if ecc = 2 then mergeDrop group.val h.frame 0xE9 7 5 (forgetHeld h.frame s) else emitFirst group.val (if ecc = 1 then s.raise (mrgPage group.val) 6 else s)))).frame? h.frame = none)) ∧
  (∀ (group : Fin 64) (h : HeldFrame) (rest : List HeldFrame) (s : State), s.stopped = false → ((s.merge group.val).held = h :: rest) → s.emits group.val h = true →
    exec (.mergeEmit group 0) s = .next (emitFirst group.val s) ∧
      Only [.regs, .out, .ddr, .poison, .host, .latches, .palm, .timing, .ldg, .vsr] s (emitFirst group.val s)) ∧
  (∀ (group : Fin 64) (h : HeldFrame) (rest : List HeldFrame) (s : State), s.stopped = false → ((s.merge group.val).held = h :: rest) → s.emits group.val h = true →
    exec (.mergeEmit group 1) s = .next (emitFirst group.val (s.raise (mrgPage group.val) 6)) ∧
      Only [.regs, .out, .ddr, .poison, .host, .latches, .palm, .timing, .ldg, .vsr] s (emitFirst group.val (s.raise (mrgPage group.val) 6))) ∧
  (∀ (group : Fin 64) (h : HeldFrame) (rest : List HeldFrame) (s : State), s.stopped = false → ((s.merge group.val).held = h :: rest) → s.emits group.val h = true →
    exec (.mergeEmit group 2) s = .next (mergeDrop group.val h.frame 0xE9 7 5 (forgetHeld h.frame s)) ∧
      Only [.regs, .out, .ddr, .poison, .host, .latches, .palm, .timing, .ldg, .vsr] s (mergeDrop group.val h.frame 0xE9 7 5 (forgetHeld h.frame s))) ∧
  (∀ (group : Fin 64) (s : State), s.stopped = false → (s.nowNs + 1000 ≤ (secondOf s.now + 1) * 1000000000) → ((secondOf s.now + 1) * 1000000000 ≤ s.nowNs + 1000000) → ((s.merge group.val).seeds.at? (secondOf s.now + 1) = none) →
    ∃ t, exec (.seedDraw group) s = .next t ∧
      Only [.free, .timing] s t ∧
      (t.merge group.val).seeds.at? (secondOf s.now + 1) = some (Config.drbg s.free).toNat ∧
      t.free = s.free + 1 ∧
      (∀ n, n ≠ secondOf s.now + 1 → (t.merge group.val).seeds.at? n = (s.merge group.val).seeds.at? n) ∧
      RegsOnly [] s t) ∧
  (∀ (group : Fin 64) (n v : Nat) (s : State), s.stopped = false → (((s.merge group.val).seeds.filter (fun p => p.1 < secondOf s.now)).getLast? = some (n, v)) → ((s.rd (mrgPage group.val) F.mrg_SEED_SECOND ≠ n ∨ s.rd (mrgPage group.val) F.mrg_SEED_PREV ≠ v)) →
    ∃ t, exec (.seedPublish group) s = .next t ∧
      Only [.regs, .timing, .ldg] s t ∧
      t.rd (mrgPage group.val) F.mrg_SEED_PREV = v % 2 ^ F.mrg_SEED_PREV.w ∧
      t.rd (mrgPage group.val) F.mrg_SEED_SECOND = n % 2 ^ F.mrg_SEED_SECOND.w ∧
      (t.merge group.val).seeds = (s.merge group.val).seeds.filter (fun p => p.1 + 1 ≥ secondOf s.now) ∧
      RegsOnly [mrgPage group.val] s t) ∧
  (∀ (group slot : Fin 64) (s : State), s.stopped = false → s.rdi (mrgPage group.val) F.mrg_MEMBER_VALID slot.val = 1 → s.rdi (mrgPage group.val) F.mrg_MEMBER_PRESENT slot.val = 1 → s.slotHere group.val slot.val = false →
    exec (.memberAbsent group slot) s = .next (setPresence group.val slot.val false s) ∧
      Only [.regs, .out, .host, .latches, .ldg, .vsr] s (setPresence group.val slot.val false s) ∧
      ((setPresence group.val slot.val false s)).rdi (mrgPage group.val) F.mrg_MEMBER_PRESENT slot.val = 0) ∧
  (∀ (group slot : Fin 64) (s : State), s.stopped = false → s.rdi (mrgPage group.val) F.mrg_MEMBER_VALID slot.val = 1 → s.rdi (mrgPage group.val) F.mrg_MEMBER_PRESENT slot.val = 0 → ((s.rdi (mrgPage group.val) F.mrg_MEMBER_REMOTE slot.val = 0 ∨ s.memberChip (s.rdi (mrgPage group.val) F.mrg_MEMBER_CHIP_ID slot.val) = true)) → s.slotHere group.val slot.val = true →
    exec (.memberPresent group slot) s = .next (setPresence group.val slot.val true s) ∧
      Only [.regs, .out, .host, .latches, .ldg, .vsr] s (setPresence group.val slot.val true s) ∧
      ((setPresence group.val slot.val true s)).rdi (mrgPage group.val) F.mrg_MEMBER_PRESENT slot.val = 1)

/-- Release groups: enabling, holding, instants, windows, cutoff, release and the delay complete with the effect of their rule. -/
def Obligations.ReleaseCommandsComplete : Prop :=
  (∀ (group : Fin 256) (s : State), s.stopped = false → s.shut ((relPage group.val)) = false → s.on (relPage group.val) F.rel_REL_STATUS_ENABLED = false → s.relRefusal group.val = 0 →
    exec (.releaseEnable group) s = .next (relEnable group.val (s.wakeClock (relPage group.val))) ∧
      Only [.regs, .out, .host, .latches, .timing, .mtn] s (relEnable group.val (s.wakeClock (relPage group.val))) ∧
      ((relEnable group.val (s.wakeClock (relPage group.val)))).on (relPage group.val) F.rel_REL_STATUS_ENABLED = true) ∧
  (∀ (group : Fin 256) (s : State), s.stopped = false → s.shut ((relPage group.val)) = false → s.on (relPage group.val) F.rel_REL_STATUS_ENABLED = false → (s.relRefusal group.val ≠ 0) →
    exec (.releaseEnable group) s = .next (signal (relPage group.val) 4 (528 + group.val) (((s.wakeClock (relPage group.val)).wr (relPage group.val) F.rel_REL_CFG_ENABLE 0).wr (relPage group.val) F.rel_REL_STATUS_REFUSE (s.relRefusal group.val))) ∧
      Only [.regs, .out, .host, .latches, .timing, .mtn] s (signal (relPage group.val) 4 (528 + group.val) (((s.wakeClock (relPage group.val)).wr (relPage group.val) F.rel_REL_CFG_ENABLE 0).wr (relPage group.val) F.rel_REL_STATUS_REFUSE (s.relRefusal group.val))) ∧
      ((signal (relPage group.val) 4 (528 + group.val) (((s.wakeClock (relPage group.val)).wr (relPage group.val) F.rel_REL_CFG_ENABLE 0).wr (relPage group.val) F.rel_REL_STATUS_REFUSE (s.relRefusal group.val)))).on (relPage group.val) F.rel_REL_STATUS_ENABLED = false) ∧
  (∀ (group : Fin 256) (s : State), s.stopped = false → s.shut ((relPage group.val)) = false →
    exec (.releaseDisable group) s = .next (relDisable group.val (s.wakeClock (relPage group.val))) ∧
      Only [.regs, .out, .host, .latches, .palm, .timing, .vsr, .mtn, .pwc] s (relDisable group.val (s.wakeClock (relPage group.val))) ∧
      ((relDisable group.val (s.wakeClock (relPage group.val)))).on (relPage group.val) F.rel_REL_STATUS_ENABLED = false ∧
      (((relDisable group.val (s.wakeClock (relPage group.val)))).rel group.val).held = []) ∧
  (∀ (frame : Nat) (cells : List (Fin 1152)) (f : Frame) (s : State), s.stopped = false → (s.frame? frame = some f) → (((f.stage = .decided ∧ mdGet f.md 0x36 1 < 128) ∨ f.stage = .emitted)) → f.ctrl 0 = true →
    exec (.releaseHold frame cells) s = .next (releaseHold frame (cells.map (fun c => c.val)) s) ∧
      Only [.regs, .out, .ddr, .poison, .host, .latches, .palm, .timing, .ldg, .vsr, .pwc] s (releaseHold frame (cells.map (fun c => c.val)) s)) ∧
  (∀ (group : Fin 256) (w : Word) (s : State), s.stopped = false → s.shut ((relPage group.val)) = false → ((s.on (relPage group.val) F.rel_REL_STATUS_ENABLED = false ∨ s.on (relPage group.val) F.rel_REL_CFG_MODE = true)) →
    exec (.releaseAtWrite group w) s = .next ((s.wakeClock (relPage group.val)).wrPair (relPage group.val) F.rel_RELEASE_AT_NS F.rel_RELEASE_AT_FRAC (w.toNat * nsUnits + s.host.staged.val 0 (0x1000 * relPage group.val + 0x090) % nsUnits)) ∧
      Only [.regs, .out, .host, .latches, .timing, .mtn, .pwc] s ((s.wakeClock (relPage group.val)).wrPair (relPage group.val) F.rel_RELEASE_AT_NS F.rel_RELEASE_AT_FRAC (w.toNat * nsUnits + s.host.staged.val 0 (0x1000 * relPage group.val + 0x090) % nsUnits)) ∧
      (((s.wakeClock (relPage group.val)).wrPair (relPage group.val) F.rel_RELEASE_AT_NS F.rel_RELEASE_AT_FRAC (w.toNat * nsUnits + s.host.staged.val 0 (0x1000 * relPage group.val + 0x090) % nsUnits))).rd (relPage group.val) F.rel_RELEASE_AT_NS = w.toNat) ∧
  (∀ (group : Fin 256) (w : Word) (s : State), s.stopped = false → s.shut ((relPage group.val)) = false → s.on (relPage group.val) F.rel_REL_STATUS_ENABLED = true → s.on (relPage group.val) F.rel_REL_CFG_MODE = false →
    exec (.releaseAtWrite group w) s = .next (writeReleaseAt group.val w.toNat (s.wakeClock (relPage group.val))) ∧
      Only [.regs, .out, .host, .latches, .timing, .mtn, .pwc] s (writeReleaseAt group.val w.toNat (s.wakeClock (relPage group.val))) ∧
      ((writeReleaseAt group.val w.toNat (s.wakeClock (relPage group.val)))).rd (relPage group.val) F.rel_RELEASE_AT_NS = w.toNat ∧
      (∃ b ∈ (((writeReleaseAt group.val w.toNat (s.wakeClock (relPage group.val)))).rel group.val).batches, b.explicit = true ∧ b.cut = false)) ∧
  (∀ (group : Fin 256) (s : State), s.stopped = false → ((s.rel group.val).batches.any (fun b => !b.open_ && !b.done && decide (b.at_ ≤ s.now + s.relBytes group.val (s.relMaxFrame group.val + 20))) = true) →
    exec (.releaseWindowOpen group) s = .next (refreshGrid group.val (putBatches group.val (replaceBatch (s.rel group.val).batches (fun b => !b.open_ && !b.done && decide (b.at_ ≤ s.now + s.relBytes group.val (s.relMaxFrame group.val + 20))) fun b => { b with open_ := true }) s)) ∧
      Only [.regs, .out, .host, .latches, .timing, .pwc] s (refreshGrid group.val (putBatches group.val (replaceBatch (s.rel group.val).batches (fun b => !b.open_ && !b.done && decide (b.at_ ≤ s.now + s.relBytes group.val (s.relMaxFrame group.val + 20))) fun b => { b with open_ := true }) s))) ∧
  (∀ (group : Fin 256) (b : Batch) (s : State), s.stopped = false → ((s.rel group.val).batches.find? (fun b => !b.cut && decide (b.at_ ≤ s.now + ns 400)) = some b) →
    ∃ t, exec (.releaseCutoff group) s = .next t ∧
      Only [.regs, .out, .ddr, .poison, .host, .latches, .palm, .timing, .ldg, .vsr, .pwc] s t ∧
      (∀ p ∈ s.members group.val, (s.up p = false ∨ s.speed p ≠ speedOfCode (s.relSpeed group.val)) → t.bit (relPage group.val) F.rel_EXCLUDED p = true)) ∧
  (∀ (group : Fin 256) (b : Batch) (s : State), s.stopped = false → ((s.rel group.val).batches.find? (fun b => !b.cut && decide (b.at_ ≤ s.now + ns 400)) = some b) → b.explicit = false → ((s.members group.val).filter (fun p => !s.up p || s.speed p != speedOfCode (s.relSpeed group.val)) = []) →
    exec (.releaseCutoff group) s = .next (moveReplicas group.val (s.releaseOrder b.frames) false ((List.range 16).foldl (fun t k => t.wri (relPage group.val) F.rel_EXCLUDED k 0) (putBatches group.val (replaceBatch (s.rel group.val).batches (fun b => !b.cut && decide (b.at_ ≤ s.now + ns 400)) fun _ => { b with cut := true, cutIn := some (coreCycle s.now), frames := s.releaseOrder b.frames, excluded := [] }) s))) ∧
      Only [.regs, .out, .ddr, .poison, .host, .latches, .palm, .timing, .ldg, .vsr, .pwc] s (moveReplicas group.val (s.releaseOrder b.frames) false ((List.range 16).foldl (fun t k => t.wri (relPage group.val) F.rel_EXCLUDED k 0) (putBatches group.val (replaceBatch (s.rel group.val).batches (fun b => !b.cut && decide (b.at_ ≤ s.now + ns 400)) fun _ => { b with cut := true, cutIn := some (coreCycle s.now), frames := s.releaseOrder b.frames, excluded := [] }) s)))) ∧
  (∀ (group : Fin 256) (s : State), s.stopped = false → ((s.rel group.val).batches.any (fun b => b.open_ && !b.done && decide (b.at_ ≤ s.now + s.relBytes group.val 151)) = true) →
    exec (.releasePreempt group) s = .next ((s.members group.val).foldl (fun t p => if t.preemptible p && t.palm.replicas.any fun x => x.2.port == p && x.2.phase == 3 && !x.2.waiting then preempt p t else t) s) ∧
      Only [.regs, .palm, .vsr] s ((s.members group.val).foldl (fun t p => if t.preemptible p && t.palm.replicas.any fun x => x.2.port == p && x.2.phase == 3 && !x.2.waiting then preempt p t else t) s)) ∧
  (∀ (group : Fin 256) (b : Batch) (s : State), s.stopped = false → ((s.rel group.val).batches.find? (fun b => b.cut && !b.done && decide (b.at_ ≤ s.now)) = some b) → ((s.overlaps group.val b || (!b.explicit && b.late && s.membersBusy group.val)) = false) →
    exec (.release group) s = .next (release group.val b (fun b => b.cut && !b.done && decide (b.at_ ≤ s.now)) (refreshGrid group.val s)) ∧
      Only [.regs, .out, .host, .latches, .palm, .timing, .vsr, .pwc] s (release group.val b (fun b => b.cut && !b.done && decide (b.at_ ≤ s.now)) (refreshGrid group.val s))) ∧
  (∀ (group : Fin 256) (b : Batch) (s : State), s.stopped = false → ((s.rel group.val).batches.find? (fun b => b.cut && !b.done && decide (b.at_ ≤ s.now)) = some b) → ((s.overlaps group.val b || (!b.explicit && b.late && s.membersBusy group.val)) = true) →
    exec (.release group) s = .next (putBatches group.val (replaceBatch (s.rel group.val).batches (fun b => b.cut && !b.done && decide (b.at_ ≤ s.now)) fun x => { x with moved := true, late := true }) s) ∧
      Only [.regs, .out, .host, .latches, .palm, .timing, .vsr, .pwc] s (putBatches group.val (replaceBatch (s.rel group.val).batches (fun b => b.cut && !b.done && decide (b.at_ ≤ s.now)) fun x => { x with moved := true, late := true }) s)) ∧
  (∀ (group : Fin 256) (b : Batch) (s : State), s.stopped = false → ((s.rel group.val).batches.find? (fun b => b.done && !(s.palm.replicas.any fun x => x.2.releaseOf == group.val + 1 && b.frames.contains x.2.frame)) = some b) →
    ∃ t, exec (.releaseWindowClose group) s = .next t ∧
      Only [.regs, .out, .host, .timing, .ldg, .pwc] s t ∧
      (t.rel group.val).batches = (s.rel group.val).batches.erase b ∧
      (t.rel group.val).held = (s.rel group.val).held) ∧
  (∀ (group : Fin 256) (a : T80) (p : Nat) (rest : List (T80 × Nat)) (s : State), s.stopped = false → ((s.rel group.val).next = (a, p) :: rest) → (a ≤ s.now) →
    ∃ t, exec (.dEffChange group) s = .next t ∧
      Only [.regs, .timing] s t ∧
      (t.rel group.val).next = rest ∧
      (t.rel group.val).past = ((a, s.rd (relPage group.val) F.rel_RELEASE_INFO_D_EFF) :: (s.rel group.val).past).take 4 ∧
      t.rd (relPage group.val) F.rel_RELEASE_INFO_D_EFF = s.dEff group.val p % 2 ^ F.rel_RELEASE_INFO_D_EFF.w ∧
      RegsOnly [relPage group.val] s t)

/-- Session contexts, legs, gaps, requests and requesters complete with the effect of their rule. -/
def Obligations.SessionCommandsComplete : Prop :=
  (∀ (s : State), s.stopped = false → s.shut (0x240) = false → s.sesWaits (.command 2 (s.rd 0x240 F.ses0_CTX_SEL)) = false →
    exec (.disable) s = .next (endSession (ctxCommand 2 (s.rd 0x240 F.ses0_CTX_SEL) ((s.wakeClock 0x240).wr 0x240 F.ses0_CTX_STATUS_CMD_BUSY 1))) ∧
      Only [.regs, .free, .out, .ddr, .poison, .host, .latches, .tbl, .palm, .ses, .ldg, .vsr, .mtn] s (endSession (ctxCommand 2 (s.rd 0x240 F.ses0_CTX_SEL) ((s.wakeClock 0x240).wr 0x240 F.ses0_CTX_STATUS_CMD_BUSY 1)))) ∧
  (∀ (s : State), s.stopped = false → s.shut (0x240) = false → s.sesWaits (.command 2 (s.rd 0x240 F.ses0_CTX_SEL)) = true →
    exec (.disable) s = .next (endSession { ((s.wakeClock 0x240).wr 0x240 F.ses0_CTX_STATUS_CMD_BUSY 1) with ses := { s.ses with deferred := s.ses.deferred ++ [(.command 2 (s.rd 0x240 F.ses0_CTX_SEL))] } }) ∧
      Only [.regs, .free, .out, .ddr, .poison, .host, .latches, .tbl, .palm, .ses, .ldg, .vsr, .mtn] s (endSession { ((s.wakeClock 0x240).wr 0x240 F.ses0_CTX_STATUS_CMD_BUSY 1) with ses := { s.ses with deferred := s.ses.deferred ++ [(.command 2 (s.rd 0x240 F.ses0_CTX_SEL))] } })) ∧
  (∀ (s : State), s.stopped = false → s.shut (0x240) = false → ((s.ctx (s.rd 0x240 F.ses0_CTX_SEL)).state ≠ 0) → s.sesWaits (.command 2 (s.rd 0x240 F.ses0_CTX_SEL)) = false → (s.ses.deferred = []) →
    ∃ t, exec (.disable) s = .next t ∧
      Only [.regs, .free, .out, .ddr, .poison, .host, .latches, .tbl, .palm, .ses, .ldg, .vsr, .mtn] s t ∧
      t.ctx (s.rd 0x240 F.ses0_CTX_SEL) = { (s.ctx (s.rd 0x240 F.ses0_CTX_SEL)).noGaps with state := 0 } ∧
      (∀ c, c ≠ s.rd 0x240 F.ses0_CTX_SEL → t.ctx c = s.ctx c) ∧
      t.rd 0x240 F.ses0_CTX_STATUS_CMD_BUSY = 0) ∧
  (∀ (s : State), s.stopped = false → s.shut (0x240) = false → s.sesWaits (.command 2 (s.rd 0x240 F.ses0_CTX_SEL)) = false → (s.ses.deferred = []) → (s.ctx (s.rd 0x240 F.ses0_CTX_SEL)).state = 0 →
    ∃ t, exec (.disable) s = .next t ∧
      Only [.regs, .free, .out, .ddr, .poison, .host, .latches, .tbl, .palm, .ses, .ldg, .vsr, .mtn] s t ∧
      t.ctx (s.rd 0x240 F.ses0_CTX_SEL) = { s.ctx (s.rd 0x240 F.ses0_CTX_SEL) with refused := true } ∧
      (∀ c, c ≠ (s.rd 0x240 F.ses0_CTX_SEL) → t.ctx c = s.ctx c) ∧
      t.rd 0x240 F.ses0_CTX_STATUS_CMD_REFUSED = 1 ∧
      RegsOnly [0x240] s t) ∧
  (∀ (s : State), s.stopped = false → s.shut (0x240) = false → s.sesWaits (.command 1 (s.rd 0x240 F.ses0_CTX_SEL)) = false →
    exec (.contextArm) s = .next (endSession (ctxCommand 1 (s.rd 0x240 F.ses0_CTX_SEL) ((s.wakeClock 0x240).wr 0x240 F.ses0_CTX_STATUS_CMD_BUSY 1))) ∧
      Only [.regs, .free, .out, .ddr, .poison, .host, .latches, .tbl, .palm, .ses, .ldg, .vsr, .mtn] s (endSession (ctxCommand 1 (s.rd 0x240 F.ses0_CTX_SEL) ((s.wakeClock 0x240).wr 0x240 F.ses0_CTX_STATUS_CMD_BUSY 1)))) ∧
  (∀ (s : State), s.stopped = false → s.shut (0x240) = false → s.sesWaits (.command 1 (s.rd 0x240 F.ses0_CTX_SEL)) = true →
    exec (.contextArm) s = .next (endSession { ((s.wakeClock 0x240).wr 0x240 F.ses0_CTX_STATUS_CMD_BUSY 1) with ses := { s.ses with deferred := s.ses.deferred ++ [(.command 1 (s.rd 0x240 F.ses0_CTX_SEL))] } }) ∧
      Only [.regs, .free, .out, .ddr, .poison, .host, .latches, .tbl, .palm, .ses, .ldg, .vsr, .mtn] s (endSession { ((s.wakeClock 0x240).wr 0x240 F.ses0_CTX_STATUS_CMD_BUSY 1) with ses := { s.ses with deferred := s.ses.deferred ++ [(.command 1 (s.rd 0x240 F.ses0_CTX_SEL))] } })) ∧
  (∀ (s : State), s.stopped = false → s.shut (0x240) = false → s.armable (s.ctx (s.rd 0x240 F.ses0_CTX_SEL)) = true → s.sesWaits (.command 1 (s.rd 0x240 F.ses0_CTX_SEL)) = false → (s.ses.deferred = []) →
    ∃ t, exec (.contextArm) s = .next t ∧
      Only [.regs, .free, .out, .ddr, .poison, .host, .latches, .tbl, .palm, .ses, .ldg, .vsr, .mtn] s t ∧
      (t.ctx (s.rd 0x240 F.ses0_CTX_SEL)).state = (if (s.ctx (s.rd 0x240 F.ses0_CTX_SEL)).fixed then 2 else 1) ∧
      (t.ctx (s.rd 0x240 F.ses0_CTX_SEL)).expected = (if (s.ctx (s.rd 0x240 F.ses0_CTX_SEL)).fixed then (s.ctx (s.rd 0x240 F.ses0_CTX_SEL)).seqSet else (s.ctx (s.rd 0x240 F.ses0_CTX_SEL)).expected) ∧
      (t.ctx (s.rd 0x240 F.ses0_CTX_SEL)).gap0 = none ∧
      (∀ c, c ≠ s.rd 0x240 F.ses0_CTX_SEL → t.ctx c = s.ctx c) ∧
      t.rd 0x240 F.ses0_CTX_STATUS_CMD_BUSY = 0) ∧
  (∀ (s : State), s.stopped = false → s.shut (0x240) = false → s.sesWaits (.command 1 (s.rd 0x240 F.ses0_CTX_SEL)) = false → (s.ses.deferred = []) → s.armable (s.ctx (s.rd 0x240 F.ses0_CTX_SEL)) = false →
    ∃ t, exec (.contextArm) s = .next t ∧
      Only [.regs, .free, .out, .ddr, .poison, .host, .latches, .tbl, .palm, .ses, .ldg, .vsr, .mtn] s t ∧
      t.ctx (s.rd 0x240 F.ses0_CTX_SEL) = { s.ctx (s.rd 0x240 F.ses0_CTX_SEL) with refused := true } ∧
      (∀ c, c ≠ (s.rd 0x240 F.ses0_CTX_SEL) → t.ctx c = s.ctx c) ∧
      t.rd 0x240 F.ses0_CTX_STATUS_CMD_REFUSED = 1 ∧
      RegsOnly [0x240] s t) ∧
  (∀ (s : State), s.stopped = false → s.shut (0x240) = false → s.sesWaits (.command 3 (s.rd 0x240 F.ses0_CTX_SEL)) = false →
    exec (.setExpected) s = .next (endSession (ctxCommand 3 (s.rd 0x240 F.ses0_CTX_SEL) ((s.wakeClock 0x240).wr 0x240 F.ses0_CTX_STATUS_CMD_BUSY 1))) ∧
      Only [.regs, .free, .out, .ddr, .poison, .host, .latches, .tbl, .palm, .ses, .ldg, .vsr, .mtn] s (endSession (ctxCommand 3 (s.rd 0x240 F.ses0_CTX_SEL) ((s.wakeClock 0x240).wr 0x240 F.ses0_CTX_STATUS_CMD_BUSY 1)))) ∧
  (∀ (s : State), s.stopped = false → s.shut (0x240) = false → s.sesWaits (.command 3 (s.rd 0x240 F.ses0_CTX_SEL)) = true →
    exec (.setExpected) s = .next (endSession { ((s.wakeClock 0x240).wr 0x240 F.ses0_CTX_STATUS_CMD_BUSY 1) with ses := { s.ses with deferred := s.ses.deferred ++ [(.command 3 (s.rd 0x240 F.ses0_CTX_SEL))] } }) ∧
      Only [.regs, .free, .out, .ddr, .poison, .host, .latches, .tbl, .palm, .ses, .ldg, .vsr, .mtn] s (endSession { ((s.wakeClock 0x240).wr 0x240 F.ses0_CTX_STATUS_CMD_BUSY 1) with ses := { s.ses with deferred := s.ses.deferred ++ [(.command 3 (s.rd 0x240 F.ses0_CTX_SEL))] } })) ∧
  (∀ (s : State), s.stopped = false → s.shut (0x240) = false → (s.ctx (s.rd 0x240 F.ses0_CTX_SEL)).state = 2 → s.sesWaits (.command 3 (s.rd 0x240 F.ses0_CTX_SEL)) = false → (s.ses.deferred = []) →
    ∃ t, exec (.setExpected) s = .next t ∧
      Only [.regs, .free, .out, .ddr, .poison, .host, .latches, .tbl, .palm, .ses, .ldg, .vsr, .mtn] s t ∧
      t.ctx (s.rd 0x240 F.ses0_CTX_SEL) = { (s.ctx (s.rd 0x240 F.ses0_CTX_SEL)).noGaps with expected := (s.ctx (s.rd 0x240 F.ses0_CTX_SEL)).seqSet, seen := 0 } ∧
      (∀ c, c ≠ (s.rd 0x240 F.ses0_CTX_SEL) → t.ctx c = s.ctx c) ∧
      (s.on 0x240 F.ses0_CTX_STATUS_CMD_REFUSED = false → t.on 0x240 F.ses0_CTX_STATUS_CMD_REFUSED = false) ∧
      t.rd 0x240 F.ses0_CTX_STATUS_CMD_BUSY = 0) ∧
  (∀ (s : State), s.stopped = false → s.shut (0x240) = false → s.sesWaits (.command 3 (s.rd 0x240 F.ses0_CTX_SEL)) = false → (s.ses.deferred = []) → ((s.ctx (s.rd 0x240 F.ses0_CTX_SEL)).state ≠ 2) →
    ∃ t, exec (.setExpected) s = .next t ∧
      Only [.regs, .free, .out, .ddr, .poison, .host, .latches, .tbl, .palm, .ses, .ldg, .vsr, .mtn] s t ∧
      t.ctx (s.rd 0x240 F.ses0_CTX_SEL) = { s.ctx (s.rd 0x240 F.ses0_CTX_SEL) with refused := true } ∧
      (∀ c, c ≠ (s.rd 0x240 F.ses0_CTX_SEL) → t.ctx c = s.ctx c) ∧
      t.rd 0x240 F.ses0_CTX_STATUS_CMD_REFUSED = 1 ∧
      RegsOnly [0x240] s t) ∧
  (∀ (s : State), s.stopped = false → s.shut (0x240) = false → s.sesWaits (.command 4 (s.rd 0x240 F.ses0_CTX_SEL)) = false →
    exec (.clearGaps) s = .next (endSession (ctxCommand 4 (s.rd 0x240 F.ses0_CTX_SEL) ((s.wakeClock 0x240).wr 0x240 F.ses0_CTX_STATUS_CMD_BUSY 1))) ∧
      Only [.regs, .free, .out, .ddr, .poison, .host, .latches, .tbl, .palm, .ses, .ldg, .vsr, .mtn] s (endSession (ctxCommand 4 (s.rd 0x240 F.ses0_CTX_SEL) ((s.wakeClock 0x240).wr 0x240 F.ses0_CTX_STATUS_CMD_BUSY 1)))) ∧
  (∀ (s : State), s.stopped = false → s.shut (0x240) = false → s.sesWaits (.command 4 (s.rd 0x240 F.ses0_CTX_SEL)) = true →
    exec (.clearGaps) s = .next (endSession { ((s.wakeClock 0x240).wr 0x240 F.ses0_CTX_STATUS_CMD_BUSY 1) with ses := { s.ses with deferred := s.ses.deferred ++ [(.command 4 (s.rd 0x240 F.ses0_CTX_SEL))] } }) ∧
      Only [.regs, .free, .out, .ddr, .poison, .host, .latches, .tbl, .palm, .ses, .ldg, .vsr, .mtn] s (endSession { ((s.wakeClock 0x240).wr 0x240 F.ses0_CTX_STATUS_CMD_BUSY 1) with ses := { s.ses with deferred := s.ses.deferred ++ [(.command 4 (s.rd 0x240 F.ses0_CTX_SEL))] } })) ∧
  (∀ (s : State), s.stopped = false → s.shut (0x240) = false → (s.ctx (s.rd 0x240 F.ses0_CTX_SEL)).state = 2 → s.sesWaits (.command 4 (s.rd 0x240 F.ses0_CTX_SEL)) = false → (s.ses.deferred = []) →
    ∃ t, exec (.clearGaps) s = .next t ∧
      Only [.regs, .free, .out, .ddr, .poison, .host, .latches, .tbl, .palm, .ses, .ldg, .vsr, .mtn] s t ∧
      t.ctx (s.rd 0x240 F.ses0_CTX_SEL) = (s.ctx (s.rd 0x240 F.ses0_CTX_SEL)).noGaps ∧
      (∀ c, c ≠ (s.rd 0x240 F.ses0_CTX_SEL) → t.ctx c = s.ctx c) ∧
      (s.on 0x240 F.ses0_CTX_STATUS_CMD_REFUSED = false → t.on 0x240 F.ses0_CTX_STATUS_CMD_REFUSED = false) ∧
      t.rd 0x240 F.ses0_CTX_STATUS_CMD_BUSY = 0) ∧
  (∀ (s : State), s.stopped = false → s.shut (0x240) = false → s.sesWaits (.command 4 (s.rd 0x240 F.ses0_CTX_SEL)) = false → (s.ses.deferred = []) → ((s.ctx (s.rd 0x240 F.ses0_CTX_SEL)).state ≠ 2) →
    ∃ t, exec (.clearGaps) s = .next t ∧
      Only [.regs, .free, .out, .ddr, .poison, .host, .latches, .tbl, .palm, .ses, .ldg, .vsr, .mtn] s t ∧
      t.ctx (s.rd 0x240 F.ses0_CTX_SEL) = { s.ctx (s.rd 0x240 F.ses0_CTX_SEL) with refused := true } ∧
      (∀ c, c ≠ (s.rd 0x240 F.ses0_CTX_SEL) → t.ctx c = s.ctx c) ∧
      t.rd 0x240 F.ses0_CTX_STATUS_CMD_REFUSED = 1 ∧
      RegsOnly [0x240] s t) ∧
  (∀ (requester : Bool) (index : Fin 8192) (s : State), s.stopped = false → s.shut (0x240) = false →
    exec (.ctxSelWrite requester index) s = .next ((if requester = true then showRequester (index.val % 4096) ((s.wakeClock 0x240).wr 0x240 F.ses0_REQ_SEL index.val) else showCtx index.val ((s.wakeClock 0x240).wr 0x240 F.ses0_CTX_SEL index.val))) ∧
      Only [.regs, .latches, .mtn] s ((if requester = true then showRequester (index.val % 4096) ((s.wakeClock 0x240).wr 0x240 F.ses0_REQ_SEL index.val) else showCtx index.val ((s.wakeClock 0x240).wr 0x240 F.ses0_CTX_SEL index.val))) ∧
      (((if requester = true then showRequester (index.val % 4096) ((s.wakeClock 0x240).wr 0x240 F.ses0_REQ_SEL index.val) else showCtx index.val ((s.wakeClock 0x240).wr 0x240 F.ses0_CTX_SEL index.val)))).ses = s.ses) ∧
  (∀ (index : Fin 8192) (s : State), s.stopped = false → s.shut (0x240) = false →
    ∃ t, exec (.ctxSelWrite false index) s = .next t ∧
      Only [.regs, .latches, .mtn] s t ∧
      t.rd 0x240 F.ses0_CTX_SEL = index.val ∧
      t.rd 0x240 F.ses0_CTX_STATUS_STATE = (s.ctx index.val).state % 2 ^ F.ses0_CTX_STATUS_STATE.w ∧
      t.rd 0x240 F.ses0_EXPECTED = (s.ctx index.val).expected % 2 ^ F.ses0_EXPECTED.w ∧
      RegsOnly [0x240] s t) ∧
  (∀ (index : Fin 8192) (s : State), s.stopped = false → s.shut (0x240) = false → (index.val < 4096) →
    ∃ t, exec (.ctxSelWrite true index) s = .next t ∧
      Only [.regs, .latches, .mtn] s t ∧
      t.rd 0x240 F.ses0_REQ_SEL = index.val ∧
      t.rd 0x240 F.ses0_REQ_STATUS_TOKENS = (s.requester index.val).tokens % 2 ^ F.ses0_REQ_STATUS_TOKENS.w ∧
      RegsOnly [0x240] s t) ∧
  (∀ (context : Fin 8192) (s : State), s.stopped = false → s.sesWaits (.legs context.val) = false →
    exec (.legDown context) s = .next (endSession (evalLegs context.val s)) ∧
      Only [.regs, .free, .out, .ddr, .poison, .host, .latches, .tbl, .palm, .ses, .ldg, .vsr, .mtn] s (endSession (evalLegs context.val s)) ∧
      ((s.ctx context.val).state = 0 → s.ses.deferred = [] → (endSession (evalLegs context.val s)) = s)) ∧
  (∀ (context : Fin 8192) (s : State), s.stopped = false → s.sesWaits (.legs context.val) = true →
    exec (.legDown context) s = .next (endSession { s with ses := { s.ses with deferred := s.ses.deferred ++ [.legs context.val] } }) ∧
      Only [.regs, .free, .out, .ddr, .poison, .host, .latches, .tbl, .palm, .ses, .ldg, .vsr, .mtn] s (endSession { s with ses := { s.ses with deferred := s.ses.deferred ++ [.legs context.val] } })) ∧
  (∀ (context : Fin 8192) (s : State), s.stopped = false → s.sesWaits (.legs context.val) = false → (s.ses.deferred = []) → ((s.ctx context.val).state ≠ 0) → (s.ctx context.val).order = false → s.silent (s.ctx context.val) false = true → s.silent (s.ctx context.val) true = false →
    exec (.legDown context) s = .next ((sesEvent context.val { code := 0x07, leg := legCode false } (s.putCtx context.val ((s.ctx context.val).putHeard false none))).raise 0x240 4) ∧
      Only [.regs, .free, .out, .ddr, .poison, .host, .latches, .tbl, .palm, .ses, .ldg, .vsr, .mtn] s ((sesEvent context.val { code := 0x07, leg := legCode false } (s.putCtx context.val ((s.ctx context.val).putHeard false none))).raise 0x240 4) ∧
      ((((sesEvent context.val { code := 0x07, leg := legCode false } (s.putCtx context.val ((s.ctx context.val).putHeard false none))).raise 0x240 4)).ctx context.val).heardA = none ∧
      ((((sesEvent context.val { code := 0x07, leg := legCode false } (s.putCtx context.val ((s.ctx context.val).putHeard false none))).raise 0x240 4)).ctx context.val).heardB = (s.ctx context.val).heardB) ∧
  (∀ (context : Fin 8192) (s : State), s.stopped = false → s.sesWaits (.gaps context.val) = false →
    exec (.gapExpired context) s = .next (endSession ((List.range 4).foldl (fun t k => match (s.ctx context.val).gap k with | some g => if (s.ctx context.val).gapTimeout ≠ 0 ∧ s.evaluation > g.since + ns (1000 * (s.ctx context.val).gapTimeout) then (endGap context.val k 0x03 0xFF t).raise 0x240 1 else t | none => t) s)) ∧
      Only [.regs, .free, .out, .ddr, .poison, .host, .latches, .tbl, .palm, .ses, .ldg, .vsr, .mtn] s (endSession ((List.range 4).foldl (fun t k => match (s.ctx context.val).gap k with | some g => if (s.ctx context.val).gapTimeout ≠ 0 ∧ s.evaluation > g.since + ns (1000 * (s.ctx context.val).gapTimeout) then (endGap context.val k 0x03 0xFF t).raise 0x240 1 else t | none => t) s)) ∧
      (s.ses.deferred = [] → (s.ctx context.val).gapTimeout = 0 → (endSession ((List.range 4).foldl (fun t k => match (s.ctx context.val).gap k with | some g => if (s.ctx context.val).gapTimeout ≠ 0 ∧ s.evaluation > g.since + ns (1000 * (s.ctx context.val).gapTimeout) then (endGap context.val k 0x03 0xFF t).raise 0x240 1 else t | none => t) s)) = s)) ∧
  (∀ (context : Fin 8192) (s : State), s.stopped = false → s.sesWaits (.gaps context.val) = true →
    exec (.gapExpired context) s = .next (endSession { s with ses := { s.ses with deferred := s.ses.deferred ++ [.gaps context.val] } }) ∧
      Only [.regs, .free, .out, .ddr, .poison, .host, .latches, .tbl, .palm, .ses, .ldg, .vsr, .mtn] s (endSession { s with ses := { s.ses with deferred := s.ses.deferred ++ [.gaps context.val] } })) ∧
  (∀ (bad : List Nat) (lost : Bool) (q : RetxRequest) (rest : List RetxRequest) (s : State), s.stopped = false → (s.ses.requests = q :: rest) →
    ∃ t, exec (.retxRequestServe bad lost) s = .next t ∧
      Only [.regs, .free, .out, .host, .latches, .palm, .ses, .vsr] s t ∧
      t.ses.requests = rest ∧
      t.rd 0x240 F.ses0_ENGINE_STATUS_REQ_QUEUED = rest.length % 2 ^ F.ses0_ENGINE_STATUS_REQ_QUEUED.w ∧
      ((t.requester q.requester).tokens ≤ (s.requester q.requester).tokens) ∧
      (∀ k, k ≠ q.requester → (t.requester k).tokens = (s.requester k).tokens) ∧
      (s.palm.nextFrame ≤ t.palm.nextFrame) ∧
      (t.palm.nextFrame ≤ s.palm.nextFrame + q.count)) ∧
  (∀ (bad : List Nat) (q : RetxRequest) (rest : List RetxRequest) (s : State), s.stopped = false → (s.ses.requests = q :: rest) →
    ∃ t, exec (.retxRequestServe bad true) s = .next t ∧
      Only [.regs, .free, .out, .host, .latches, .palm, .ses, .vsr] s t ∧
      t.ses.requests = rest ∧
      t.rd 0x240 F.ses0_ENGINE_STATUS_REQ_QUEUED = rest.length % 2 ^ F.ses0_ENGINE_STATUS_REQ_QUEUED.w ∧
      t.ses.requesters = s.ses.requesters) ∧
  (∀ (q : RetxRequest) (rest : List RetxRequest) (s : State), s.stopped = false → (s.ses.requests = q :: rest) → ((s.ctx q.ctx).state ≠ 0) → (s.ctx q.ctx).ringEn = true → (s.requester q.requester).enable = true → q.count = 1 → ((s.requester q.requester).tokens ≠ 0) → ((q.held.at? 0).isSome = true) →
    exec (.retxRequestServe [] false) s = .next (replyFrame q (q.seq % 2 ^ 64) ((q.held.at? 0).getD []) (({ s with ses := { s.ses with requests := rest } }.wr 0x240 F.ses0_ENGINE_STATUS_REQ_QUEUED rest.length).putRequester q.requester { s.requester q.requester with tokens := (s.requester q.requester).tokens - 1 })) ∧
      Only [.regs, .free, .out, .host, .latches, .palm, .ses, .vsr] s (replyFrame q (q.seq % 2 ^ 64) ((q.held.at? 0).getD []) (({ s with ses := { s.ses with requests := rest } }.wr 0x240 F.ses0_ENGINE_STATUS_REQ_QUEUED rest.length).putRequester q.requester { s.requester q.requester with tokens := (s.requester q.requester).tokens - 1 })) ∧
      (((replyFrame q (q.seq % 2 ^ 64) ((q.held.at? 0).getD []) (({ s with ses := { s.ses with requests := rest } }.wr 0x240 F.ses0_ENGINE_STATUS_REQ_QUEUED rest.length).putRequester q.requester { s.requester q.requester with tokens := (s.requester q.requester).tokens - 1 }))).requester q.requester).tokens = (s.requester q.requester).tokens - 1) ∧
  (∀ (s : State), s.stopped = false → s.dueAt 7 1000000 s.nowNs = true →
    ∃ t, exec (.tokenRefill) s = .next t ∧
      Only [.ticks, .ses] s t ∧
      (∀ r : Fin 4096, t.requester r.val = (if !(s.requester r.val).enable || decide ((s.requester r.val).tokens ≥ (s.requester r.val).burst) then s.requester r.val else { s.requester r.val with tokens := min (s.requester r.val).burst ((s.requester r.val).tokens + (s.requester r.val).refill) })) ∧
      RegsOnly [] s t) ∧
  (∀ (refill burst : BitVec 16) (s : State), s.stopped = false → s.shut (0x240) = false →
    ∃ t, exec (.reqEnable refill burst) s = .next t ∧
      Only [.regs, .latches, .ses, .mtn] s t ∧
      (t.requester (s.rd 0x240 F.ses0_REQ_SEL)).refill = refill.toNat ∧
      (t.requester (s.rd 0x240 F.ses0_REQ_SEL)).burst = burst.toNat ∧
      (t.requester (s.rd 0x240 F.ses0_REQ_SEL)).tokens = burst.toNat ∧
      (t.requester (s.rd 0x240 F.ses0_REQ_SEL)).enable = true ∧
      (∀ r, r ≠ s.rd 0x240 F.ses0_REQ_SEL → t.requester r = s.requester r) ∧
      RegsOnly [0x240] s t) ∧
  (∀ (frame : Nat) (s : State), s.stopped = false → s.sesWaits (.lost frame) = false →
    exec (.contextLost frame) s = .next (endSession (loseContext frame s)) ∧
      Only [.regs, .free, .out, .ddr, .poison, .host, .latches, .tbl, .palm, .ses, .ldg, .vsr, .mtn] s (endSession (loseContext frame s))) ∧
  (∀ (frame : Nat) (s : State), s.stopped = false → s.sesWaits (.lost frame) = true →
    exec (.contextLost frame) s = .next (endSession { s with ses := { s.ses with deferred := s.ses.deferred ++ [.lost frame] } }) ∧
      Only [.regs, .free, .out, .ddr, .poison, .host, .latches, .tbl, .palm, .ses, .ldg, .vsr, .mtn] s (endSession { s with ses := { s.ses with deferred := s.ses.deferred ++ [.lost frame] } })) ∧
  (∀ (frame : Nat) (f : Frame) (s : State), s.stopped = false → s.sesWaits (.lost frame) = false → (s.ses.deferred = []) → (s.frame? frame = some f) → f.session = 1 →
    ∃ t, exec (.contextLost frame) s = .next t ∧
      Only [.regs, .free, .out, .ddr, .poison, .host, .latches, .tbl, .palm, .ses, .ldg, .vsr, .mtn] s t ∧
      (t.ctx f.ctx).state = 2 ∧
      (t.ctx f.ctx).expected = (f.sseq + 1) % 2 ^ 64 ∧
      (t.ctx f.ctx).gap0 = none ∧
      (∀ c, c ≠ f.ctx → t.ctx c = s.ctx c))

/-- Ledger records, anchors, blocks, selection, seals and exports complete with the effect of their rule. -/
def Obligations.LedgerCommandsComplete : Prop :=
  (∀ (stream : Fin 32) (buffer : Buffering) (x : Formed) (s : State), s.ldg.early.contains stream.val = false → ((s.anchorComes && s.recording && !s.fills stream.val && (s.stream stream.val).closedFor != some s.anchorNs) = false) → (s.ldg.formed.find? (fun y => y.stream == stream.val && decide (coreCycle y.since < coreCycle s.mono)) = some x) → s.taking stream.val = true →
    exec (.ledgerRecordEntry stream buffer) s = .next ((match buffer with | .room => enterRecord stream.val x.body (declareLosses stream.val { s with ldg := { s.ldg with formed := s.ldg.formed.erase x } }) | .corrected => enterRecord stream.val x.body (declareLosses stream.val (({ s with ldg := { s.ldg with formed := s.ldg.formed.erase x } } : State).raise 0x70 7)) | .destroyed => loseRecord stream.val 3 x.body (({ s with ldg := { s.ldg with formed := s.ldg.formed.erase x } } : State).raise 0x70 8) | .full ddr => loseRecord stream.val 1 x.body (if ddr = true then ({ s with ldg := { s.ldg with formed := s.ldg.formed.erase x } } : State).raise 0x340 3 else { s with ldg := { s.ldg with formed := s.ldg.formed.erase x } }))) ∧
      Only [.regs, .out, .host, .latches, .ldg, .vsr] s ((match buffer with | .room => enterRecord stream.val x.body (declareLosses stream.val { s with ldg := { s.ldg with formed := s.ldg.formed.erase x } }) | .corrected => enterRecord stream.val x.body (declareLosses stream.val (({ s with ldg := { s.ldg with formed := s.ldg.formed.erase x } } : State).raise 0x70 7)) | .destroyed => loseRecord stream.val 3 x.body (({ s with ldg := { s.ldg with formed := s.ldg.formed.erase x } } : State).raise 0x70 8) | .full ddr => loseRecord stream.val 1 x.body (if ddr = true then ({ s with ldg := { s.ldg with formed := s.ldg.formed.erase x } } : State).raise 0x340 3 else { s with ldg := { s.ldg with formed := s.ldg.formed.erase x } }))) ∧
      (((match buffer with | .room => enterRecord stream.val x.body (declareLosses stream.val { s with ldg := { s.ldg with formed := s.ldg.formed.erase x } }) | .corrected => enterRecord stream.val x.body (declareLosses stream.val (({ s with ldg := { s.ldg with formed := s.ldg.formed.erase x } } : State).raise 0x70 7)) | .destroyed => loseRecord stream.val 3 x.body (({ s with ldg := { s.ldg with formed := s.ldg.formed.erase x } } : State).raise 0x70 8) | .full ddr => loseRecord stream.val 1 x.body (if ddr = true then ({ s with ldg := { s.ldg with formed := s.ldg.formed.erase x } } : State).raise 0x340 3 else { s with ldg := { s.ldg with formed := s.ldg.formed.erase x } })))).ldg.formed = s.ldg.formed.erase x) ∧
  (∀ (stream : Fin 32) (buffer : Buffering) (x : Formed) (s : State), s.ldg.early.contains stream.val = false → ((s.anchorComes && s.recording && !s.fills stream.val && (s.stream stream.val).closedFor != some s.anchorNs) = false) → (s.ldg.formed.find? (fun y => y.stream == stream.val && decide (coreCycle y.since < coreCycle s.mono)) = some x) → s.taking stream.val = false →
    exec (.ledgerRecordEntry stream buffer) s = .next ({ s with ldg := { s.ldg with formed := s.ldg.formed.erase x } }) ∧
      Only [.regs, .out, .host, .latches, .ldg, .vsr] s ({ s with ldg := { s.ldg with formed := s.ldg.formed.erase x } })) ∧
  (∀ (stream : Fin 32) (buffer : Buffering) (s : State), s.ldg.early.contains stream.val = false → ((s.anchorComes && s.recording && !s.fills stream.val && (s.stream stream.val).closedFor != some s.anchorNs) = false) → (s.ldg.formed.find? (fun y => y.stream == stream.val && decide (coreCycle y.since < coreCycle s.mono)) = none) →
    exec (.ledgerRecordEntry stream buffer) s = .next (s) ∧
      Only [.regs, .out, .host, .latches, .ldg, .vsr] s (s)) ∧
  (∀ (stream : Fin 32) (buffer : Buffering) (s : State), s.ldg.early.contains stream.val = true →
    exec (.ledgerRecordEntry stream buffer) s = .next ({ s with ldg := { s.ldg with early := s.ldg.early.erase stream.val } }) ∧
      Only [.regs, .out, .host, .latches, .ldg, .vsr] s ({ s with ldg := { s.ldg with early := s.ldg.early.erase stream.val } })) ∧
  (∀ (stream : Fin 32) (buffer : Buffering) (s : State), s.ldg.early.contains stream.val = false → ((s.anchorComes && s.recording && !s.fills stream.val && (s.stream stream.val).closedFor != some s.anchorNs) = true) →
    exec (.ledgerRecordEntry stream buffer) s = .next ((let u := closeBlock stream.val s.anchorNs s; takeRecord stream.val buffer (u.putStream stream.val { u.stream stream.val with closedFor := some s.anchorNs }))) ∧
      Only [.regs, .out, .host, .latches, .ldg, .vsr] s ((let u := closeBlock stream.val s.anchorNs s; takeRecord stream.val buffer (u.putStream stream.val { u.stream stream.val with closedFor := some s.anchorNs })))) ∧
  (∀ (s : State), s.stopped = false → s.shut (0x71) = false → s.ldg.selAt = none →
    ∃ t, exec (.selectionCommit) s = .next t ∧
      Only [.regs, .latches, .ldg, .mtn] s t ∧
      t.ldg.selAt = some s.mono ∧
      t.rd 0x71 F.ldg1_SEL_STATUS_PENDING = 1 ∧
      t.ldg.sel = s.ldg.sel ∧
      RegsOnly [0x71] s t) ∧
  (∀ (s : State), s.stopped = false → s.shut (0x71) = false → (s.ldg.selAt ≠ none) →
    exec (.selectionCommit) s = .next (s.wakeClock 0x71) ∧
      Only [.regs, .latches, .ldg, .mtn] s (s.wakeClock 0x71)) ∧
  (∀ (failed : Fin 129) (gone : List (Fin 32)) (s : State), s.dueAt 6 1048576 s.nowNs = true → s.isSafe = false → s.recording = false →
    exec (.anchorInstant failed gone) s = .next (applySelection (s.nowNs / 1048576 * 1048576) (retireCores failed.val (gone.map (fun n => n.val)) { s with ticks := { s.ticks with last := s.ticks.last.put s.ticks.base 6 s.nowNs } })) ∧
      Only [.regs, .out, .host, .latches, .ticks, .ldg, .vsr] s (applySelection (s.nowNs / 1048576 * 1048576) (retireCores failed.val (gone.map (fun n => n.val)) { s with ticks := { s.ticks with last := s.ticks.last.put s.ticks.base 6 s.nowNs } }))) ∧
  (∀ (failed : Fin 129) (gone : List (Fin 32)) (s : State), s.dueAt 6 1048576 s.nowNs = true → s.recording = true → s.ldg.signingLost = false →
    ∃ t, exec (.anchorInstant failed gone) s = .next t ∧
      Only [.regs, .out, .host, .latches, .ticks, .ldg, .vsr] s t ∧
      t.ldg.startDue = false ∧
      (∃ d ∈ t.ldg.signing, d.at_ = ns (s.nowNs / 1048576 * 1048576) ∧ d.kind = (if s.ldg.startDue then 3 else 1))) ∧
  (∀ (failed : Fin 129) (gone : List (Fin 32)) (s : State), s.dueAt 6 1048576 s.nowNs = true → s.recording = true → s.ldg.signingLost = true →
    ∃ t, exec (.anchorInstant failed gone) s = .next t ∧
      Only [.regs, .out, .host, .latches, .ticks, .ldg, .vsr] s t ∧
      t.ldg.missed = s.ldg.missed + 1 ∧
      t.ldg.signing = s.ldg.signing) ∧
  (∀ (failed : Fin 129) (gone : List (Fin 32)) (s : State), s.dueAt 6 1048576 s.nowNs = true → s.isSafe = true →
    exec (.anchorInstant failed gone) s = .next ({ s with ticks := { s.ticks with last := s.ticks.last.put s.ticks.base 6 s.nowNs } }) ∧
      Only [.regs, .out, .host, .latches, .ticks, .ldg, .vsr] s ({ s with ticks := { s.ticks with last := s.ticks.last.put s.ticks.base 6 s.nowNs } })) ∧
  (∀ (result : Signing) (journalOk : Bool) (d : Draft) (rest : List Draft) (s : State), (s.ldg.signing = d :: rest) → (d.kind ≠ 2) → (signingEnds result s).2 = true → s.tooLate d = false → (d.kind ≠ 5) →
    exec (.anchorSigned result journalOk) s = .next ((issueAnchor d true true journalOk (refreshSigning { (signingEnds result s).1 with ldg := { (signingEnds result s).1.ldg with signing := rest } })).vector 96) ∧
      Only [.regs, .free, .out, .ddr, .poison, .host, .latches, .ldg, .vsr] s ((issueAnchor d true true journalOk (refreshSigning { (signingEnds result s).1 with ldg := { (signingEnds result s).1.ldg with signing := rest } })).vector 96) ∧
      (((issueAnchor d true true journalOk (refreshSigning { (signingEnds result s).1 with ldg := { (signingEnds result s).1.ldg with signing := rest } })).vector 96)).rd 0x70 F.ldg0_ANCHOR_SEQ = (s.rd 0x70 F.ldg0_ANCHOR_SEQ + 1) % 2 ^ F.ldg0_ANCHOR_SEQ.w) ∧
  (∀ (result : Signing) (journalOk : Bool) (d : Draft) (rest : List Draft) (s : State), (s.ldg.signing = d :: rest) → (d.kind ≠ 2) → (signingEnds result s).2 = true → s.tooLate d = false → d.kind = 5 →
    exec (.anchorSigned result journalOk) s = .next (afterStop ((issueAnchor d true true journalOk (refreshSigning { (signingEnds result s).1 with ldg := { (signingEnds result s).1.ldg with signing := rest } })).vector 96)) ∧
      Only [.regs, .free, .out, .ddr, .poison, .host, .latches, .ldg, .vsr] s (afterStop ((issueAnchor d true true journalOk (refreshSigning { (signingEnds result s).1 with ldg := { (signingEnds result s).1.ldg with signing := rest } })).vector 96))) ∧
  (∀ (result : Signing) (journalOk : Bool) (d : Draft) (rest : List Draft) (s : State), (s.ldg.signing = d :: rest) → (d.kind ≠ 2) → (signingEnds result s).2 = true → s.tooLate d = true →
    exec (.anchorSigned result journalOk) s = .next (missInstants 1 (refreshSigning { (signingEnds result s).1 with ldg := { (signingEnds result s).1.ldg with signing := rest } })) ∧
      Only [.regs, .free, .out, .ddr, .poison, .host, .latches, .ldg, .vsr] s (missInstants 1 (refreshSigning { (signingEnds result s).1 with ldg := { (signingEnds result s).1.ldg with signing := rest } }))) ∧
  (∀ (result : Signing) (journalOk : Bool) (d : Draft) (rest : List Draft) (s : State), (s.ldg.signing = d :: rest) → (d.kind ≠ 2) → (signingEnds result s).2 = false →
    exec (.anchorSigned result journalOk) s = .next ((let u := missInstants (instants s.ldg.signing) (refreshSigning { (signingEnds result s).1 with ldg := { (signingEnds result s).1.ldg with signing := [] } }); if s.ldg.signing.any (fun d => d.kind == 5) = true then afterStop u else u)) ∧
      Only [.regs, .free, .out, .ddr, .poison, .host, .latches, .ldg, .vsr] s ((let u := missInstants (instants s.ldg.signing) (refreshSigning { (signingEnds result s).1 with ldg := { (signingEnds result s).1.ldg with signing := [] } }); if s.ldg.signing.any (fun d => d.kind == 5) = true then afterStop u else u))) ∧
  (∀ (d : Draft) (rest : List Draft) (s : State), (s.ldg.signing = d :: rest) → s.tooLate d = true →
    ∃ t, exec (.anchorMissed) s = .next t ∧
      Only [.regs, .out, .host, .latches, .ldg] s t ∧
      t.ldg.signing = rest ∧
      t.ldg.missed = s.ldg.missed + 1 ∧
      t.ldg.streams = s.ldg.streams) ∧
  (∀ (stream : Fin 32) (b : Closed) (rest : List Closed) (s : State), ((s.stream stream.val).unwritten = b :: rest) →
    ∃ t, exec (.blockWrite stream) s = .next t ∧
      Only [.regs, .out, .ddr, .poison, .host, .ldg] s t ∧
      (t.stream stream.val).unwritten = rest ∧
      t.rd (ldgs stream.val) F.ldgs_CR_TAIL = (s.rd (ldgs stream.val) F.ldgs_CR_TAIL + b.bytes.length) % s.ringSize stream.val % 2 ^ F.ldgs_CR_TAIL.w ∧
      (∀ n, n ≠ stream.val → t.stream n = s.stream n) ∧
      RegsOnly [ldgs stream.val] s t) ∧
  (∀ (s : State), s.stopped = false → s.shut (0x70) = false → s.on 0x70 F.ldg0_LDG_CFG_ENABLE = false → ((s.on 0x340 F.ddr0_DDR_STATUS_AVAILABLE = false ∨ s.ledgerRuns = true)) →
    exec (.ledgerEnable) s = .next (recomputeDdr ((s.wakeClock 0x70).wr 0x70 F.ldg0_LDG_CFG_ENABLE 1)) ∧
      Only [.regs, .out, .host, .latches, .ldg, .vsr, .mtn] s (recomputeDdr ((s.wakeClock 0x70).wr 0x70 F.ldg0_LDG_CFG_ENABLE 1)) ∧
      ((recomputeDdr ((s.wakeClock 0x70).wr 0x70 F.ldg0_LDG_CFG_ENABLE 1))).on 0x70 F.ldg0_LDG_CFG_ENABLE = true ∧
      ((recomputeDdr ((s.wakeClock 0x70).wr 0x70 F.ldg0_LDG_CFG_ENABLE 1))).ldg = s.ldg) ∧
  (∀ (s : State), s.stopped = false → s.shut (0x70) = false → s.on 0x70 F.ldg0_LDG_CFG_ENABLE = false → s.on 0x340 F.ddr0_DDR_STATUS_AVAILABLE = true → s.ledgerRuns = false →
    exec (.ledgerEnable) s = .next (startRun (recomputeDdr ((s.wakeClock 0x70).wr 0x70 F.ldg0_LDG_CFG_ENABLE 1))) ∧
      Only [.regs, .out, .host, .latches, .ldg, .vsr, .mtn] s (startRun (recomputeDdr ((s.wakeClock 0x70).wr 0x70 F.ldg0_LDG_CFG_ENABLE 1))) ∧
      ((startRun (recomputeDdr ((s.wakeClock 0x70).wr 0x70 F.ldg0_LDG_CFG_ENABLE 1)))).on 0x70 F.ldg0_LDG_CFG_ENABLE = true ∧
      ((startRun (recomputeDdr ((s.wakeClock 0x70).wr 0x70 F.ldg0_LDG_CFG_ENABLE 1)))).ledgerRuns = true) ∧
  (∀ (s : State), s.stopped = false → s.shut (0x70) = false → s.on 0x70 F.ldg0_LDG_CFG_ENABLE = true →
    exec (.ledgerEnable) s = .next (s.wakeClock 0x70) ∧
      Only [.regs, .out, .host, .latches, .ldg, .vsr, .mtn] s (s.wakeClock 0x70)) ∧
  (∀ (s : State), s.stopped = false → s.shut (0x70) = false → s.on 0x70 F.ldg0_LDG_CFG_ENABLE = true →
    exec (.ledgerDisable) s = .next (stopRun (s.wakeClock 0x70)) ∧
      Only [.regs, .out, .host, .latches, .ldg, .vsr, .mtn] s (stopRun (s.wakeClock 0x70)) ∧
      ((stopRun (s.wakeClock 0x70))).on 0x70 F.ldg0_LDG_CFG_ENABLE = false) ∧
  (∀ (s : State), s.stopped = false → s.shut (0x70) = false → s.on 0x70 F.ldg0_LDG_CFG_ENABLE = false →
    exec (.ledgerDisable) s = .next (s.wakeClock 0x70) ∧
      Only [.regs, .out, .host, .latches, .ldg, .vsr, .mtn] s (s.wakeClock 0x70)) ∧
  (∀ (stream : Fin 32) (on_ : Bool) (s : State), s.stopped = false → s.shut ((ldgs stream.val)) = false →
    exec (.streamEnableChange stream on_) s = .next (streamEnable stream.val on_ (s.wakeClock (ldgs stream.val))) ∧
      Only [.regs, .out, .host, .latches, .ldg, .vsr, .mtn] s (streamEnable stream.val on_ (s.wakeClock (ldgs stream.val))) ∧
      ((streamEnable stream.val on_ (s.wakeClock (ldgs stream.val)))).streamOn stream.val = on_ ∧
      (s.streamOn stream.val = on_ → ((streamEnable stream.val on_ (s.wakeClock (ldgs stream.val)))).regs = s.regs)) ∧
  (∀ (stream : Fin 32) (s : State), s.stopped = false → s.shut ((ldgs stream.val)) = false → s.streamOn stream.val = true →
    ∃ t, exec (.streamEnableChange stream false) s = .next t ∧
      Only [.regs, .out, .host, .latches, .ldg, .vsr, .mtn] s t ∧
      t.streamOn stream.val = false ∧
      (t.stream stream.val).offAt = some (s.now, s.codeAt s.now) ∧
      RegsOnly [ldgs stream.val] s t) ∧
  (∀ (stream : Fin 32) (s : State), s.stopped = false → s.shut ((ldgs stream.val)) = false → s.streamOn stream.val = false →
    ∃ t, exec (.streamEnableChange stream true) s = .next t ∧
      Only [.regs, .out, .host, .latches, .ldg, .vsr, .mtn] s t ∧
      t.streamOn stream.val = true ∧
      (t.stream stream.val).offAt = none) ∧
  (∀ (result : Signing) (journalOk : Bool) (s : State), s.isSafe = true → s.gnt.sealRec = none → s.gnt.bySequencer = false →
    exec (.sealWritten result journalOk) s = .next (writeSeal result true journalOk false s) ∧
      Only [.regs, .free, .out, .ddr, .poison, .host, .latches, .ldg, .vsr, .gnt] s (writeSeal result true journalOk false s)) ∧
  (∀ (entry : Fin 16) (x : ExpItem) (rest : List ExpItem) (h : Held) (s : State), s.stopped = false → s.on 0x70 F.ldg0_LDG_CFG_EXPORT_ENABLE = true → s.rdi 0x72 F.ldg2_EXP_PORT_VALID entry.val = 1 → s.up (s.rdi 0x72 F.ldg2_EXP_PORT_PORT entry.val) = true → (s.ldg.exports.val [] entry.val = x :: rest) → (x.stream ≠ 255) → ((s.stream x.stream).unwritten.any (fun b => b.seq == x.seq) = false) → ((s.stream x.stream).held.find? (fun h => h.seq == x.seq) = some h) → ((s.poisoned (s.ringBase x.stream + h.off) (min h.len (s.ringSize x.stream - h.off)) || (decide (s.ringSize x.stream < h.off + h.len) && s.poisoned (s.ringBase x.stream) (h.off + h.len - s.ringSize x.stream))) = false) →
    exec (.exportSend entry) s = .next (exportItem entry.val x (s.ringRead (s.ringBase x.stream) (s.ringSize x.stream) h.off h.len) { s with ldg := { s.ldg with exports := s.ldg.exports.put [] entry.val rest } }) ∧
      Only [.regs, .out, .host, .latches, .ldg] s (exportItem entry.val x (s.ringRead (s.ringBase x.stream) (s.ringSize x.stream) h.off h.len) { s with ldg := { s.ldg with exports := s.ldg.exports.put [] entry.val rest } })) ∧
  (∀ (entry : Fin 16) (x : ExpItem) (rest : List ExpItem) (s : State), s.stopped = false → s.on 0x70 F.ldg0_LDG_CFG_EXPORT_ENABLE = true → s.rdi 0x72 F.ldg2_EXP_PORT_VALID entry.val = 1 → s.up (s.rdi 0x72 F.ldg2_EXP_PORT_PORT entry.val) = true → (s.ldg.exports.val [] entry.val = x :: rest) → (x.stream ≠ 255) → ((s.stream x.stream).unwritten.any (fun b => b.seq == x.seq) = false) → ((s.stream x.stream).held.find? (fun h => h.seq == x.seq) = none) →
    ∃ t, exec (.exportSend entry) s = .next t ∧
      Only [.regs, .out, .host, .latches, .ldg] s t ∧
      t.ldg.exports.val [] entry.val = rest ∧
      t.rdi 0x72 F.ldg2_EXP_STATUS_SKIPPED entry.val = sat F.ldg2_EXP_STATUS_SKIPPED.w (s.rdi 0x72 F.ldg2_EXP_STATUS_SKIPPED entry.val + 1) % 2 ^ F.ldg2_EXP_STATUS_SKIPPED.w) ∧
  (∀ (entry : Fin 16) (x : ExpItem) (rest : List ExpItem) (s : State), s.stopped = false → s.on 0x70 F.ldg0_LDG_CFG_EXPORT_ENABLE = true → s.rdi 0x72 F.ldg2_EXP_PORT_VALID entry.val = 1 → s.up (s.rdi 0x72 F.ldg2_EXP_PORT_PORT entry.val) = true → (s.ldg.exports.val [] entry.val = x :: rest) → x.stream = 255 → (s.poisoned (s.rd 0x70 F.ldg0_AR_BASE * 2 ^ 12 + 3072 * (x.seq % 2 ^ (if 10 ≤ s.rd 0x70 F.ldg0_AR_LOG2 ∧ s.rd 0x70 F.ldg0_AR_LOG2 ≤ 24 then s.rd 0x70 F.ldg0_AR_LOG2 else 10))) 2912 = false) →
    exec (.exportSend entry) s = .next (exportItem entry.val x (s.ddrRead (s.rd 0x70 F.ldg0_AR_BASE * 2 ^ 12 + 3072 * (x.seq % 2 ^ (if 10 ≤ s.rd 0x70 F.ldg0_AR_LOG2 ∧ s.rd 0x70 F.ldg0_AR_LOG2 ≤ 24 then s.rd 0x70 F.ldg0_AR_LOG2 else 10))) 2912) { s with ldg := { s.ldg with exports := s.ldg.exports.put [] entry.val rest } }) ∧
      Only [.regs, .out, .host, .latches, .ldg] s (exportItem entry.val x (s.ddrRead (s.rd 0x70 F.ldg0_AR_BASE * 2 ^ 12 + 3072 * (x.seq % 2 ^ (if 10 ≤ s.rd 0x70 F.ldg0_AR_LOG2 ∧ s.rd 0x70 F.ldg0_AR_LOG2 ≤ 24 then s.rd 0x70 F.ldg0_AR_LOG2 else 10))) 2912) { s with ldg := { s.ldg with exports := s.ldg.exports.put [] entry.val rest } })) ∧
  (∀ (entry : Fin 16) (x : ExpItem) (rest : List ExpItem) (s : State), s.stopped = false → s.on 0x70 F.ldg0_LDG_CFG_EXPORT_ENABLE = true → s.rdi 0x72 F.ldg2_EXP_PORT_VALID entry.val = 1 → s.up (s.rdi 0x72 F.ldg2_EXP_PORT_PORT entry.val) = true → (s.ldg.exports.val [] entry.val = x :: rest) → x.stream = 255 → (s.poisoned (s.rd 0x70 F.ldg0_AR_BASE * 2 ^ 12 + 3072 * (x.seq % 2 ^ (if 10 ≤ s.rd 0x70 F.ldg0_AR_LOG2 ∧ s.rd 0x70 F.ldg0_AR_LOG2 ≤ 24 then s.rd 0x70 F.ldg0_AR_LOG2 else 10))) 2912 = true) →
    ∃ t, exec (.exportSend entry) s = .next t ∧
      Only [.regs, .out, .host, .latches, .ldg] s t ∧
      t.ldg.exports.val [] entry.val = rest ∧
      t.rdi 0x72 F.ldg2_EXP_STATUS_SKIPPED entry.val = sat F.ldg2_EXP_STATUS_SKIPPED.w (s.rdi 0x72 F.ldg2_EXP_STATUS_SKIPPED entry.val + 1) % 2 ^ F.ldg2_EXP_STATUS_SKIPPED.w ∧
      t.out = s.out) ∧
  (∀ (signed toDdr journalOk : Bool) (e : SafeEntry) (d : Draft) (s : State), (s.gnt.safe = some e) → s.ledgerRuns = true → s.gnt.sealRec = none → s.gnt.bySequencer = false → (e.since + ns 40000000 ≤ s.mono) → (s.ldg.signing.find? (fun x => x.kind == 2) = some d) →
    ∃ t, exec (.sequencerSeal signed toDdr journalOk) s = .next t ∧
      Only [.regs, .free, .out, .ddr, .poison, .host, .latches, .ldg, .vsr, .gnt] s t ∧
      t.gnt.bySequencer = true ∧
      (t.ldg.signing = if journalOk = true then [] else s.ldg.signing) ∧
      (journalOk = true → t.gnt.sealRec = some (s.rd 0x70 F.ldg0_ANCHOR_SEQ + 1, signed && !s.ldg.signingLost, true)) ∧
      (journalOk = false → t.gnt.sealRec = none) ∧
      (journalOk = true → t.on 0x70 F.ldg0_LDG_STATUS_SEALED = true) ∧
      t.rd 0x70 F.ldg0_ANCHOR_SEQ = (s.rd 0x70 F.ldg0_ANCHOR_SEQ + 1) % 2 ^ F.ldg0_ANCHOR_SEQ.w)

/-- COUNTER_EVENT of a defined event not in the future counts it; EVSEL_WRITE of a defined event, or disabled, stores the selector; BW_END_READ answers BW_END and latches the window's bytes; BW_WINDOW_CLOSE closes the windows that are over and certain; SNAP_AT_WRITE sets the instant pending; SNAP_CANCEL drops one still to come, and lets one that has come be the last; SNAPSHOT_CLOSE takes the image; SNAPSHOT_COMPLETE ends its writing; SNAP_SLOW is noted once; TRACE_ENABLE starts the sampler from its seed; COUNTER_ECC_ERROR of a lost counter names it, and of the other kinds raises its cause. -/
def Obligations.VisorCommandsComplete : Prop :=
  (∀ (event : BitVec 16) (inst : Fin 8192) (bytes a : Nat) (s : State), s.stopped = false → eventDefined event.toNat = true → (a ≤ s.now) →
    exec (.counterEvent event inst bytes a) s = .next (s.count event.toNat inst.val (if countsBytes event.toNat then bytes else 1) (some a)) ∧
      Only [.regs, .vsr] s (s.count event.toNat inst.val (if countsBytes event.toNat then bytes else 1) (some a))) ∧
  (∀ (counter : Fin 4096) (data : Word) (s : State), s.stopped = false → (s.shut ((0xC0 + counter.val / 256)) = false) → ((data.toNat.testBit 32 && !eventDefined (data.toNat % 65536)) = false) →
    ∃ t, exec (.evselWrite counter data) s = .next t ∧
      Only [.regs, .latches, .vsr, .mtn] s t ∧
      t.rdi (0xC0 + counter.val / 256) F.vsre_EVSEL_EVENT (counter.val % 256) = data.toNat % 65536 ∧
      t.rdi (0xC0 + counter.val / 256) F.vsre_EVSEL_INSTANCE (counter.val % 256) = data.toNat / 65536 % 8192 ∧
      t.rdi (0xC0 + counter.val / 256) F.vsre_EVSEL_ANY (counter.val % 256) = data.toNat / 2 ^ 31 % 2 ∧
      t.rdi (0xC0 + counter.val / 256) F.vsre_EVSEL_ENABLE (counter.val % 256) = data.toNat / 2 ^ 32 % 2 ∧
      t.vsr.selOld.at? counter.val = some (s.selectorAt counter.val (s.now + 1), s.now) ∧
      RegsOnly [0xC0 + counter.val / 256] s t) ∧
  (∀ (counter : Fin 4096) (data : Word) (s : State), s.stopped = false → (s.shut ((0xC0 + counter.val / 256)) = false) → data.toNat.testBit 32 = true → (eventDefined (data.toNat % 65536) = false) →
    ∃ t, exec (.evselWrite counter data) s = .next t ∧
      Only [.regs, .latches, .vsr, .mtn] s t ∧
      t.rd (0xC0 + counter.val / 256) F.hdr_PAGE_STATUS_WRITE_DROPPED = 1 ∧
      RegsOnly [0xC0 + counter.val / 256] s t ∧
      t.vsr = s.vsr) ∧
  (∀ (port : Fin 1024) (bar2 : Bool) (s : State), s.stopped = false → ((bar2 && !s.on (cntPage port.val) F.hdr_PAGE_CTRL_USER_READ) = false) → s.shut (cntPage port.val) = false →
    ∃ t, exec (.bwEndRead port bar2) s = .next t ∧
      Only [.out, .vsr] s t ∧
      t.out = Output.reply "READ" [s.rd (cntPage port.val) F.cntp_BW_END] :: s.out ∧
      t.vsr.latched.at? (2 * port.val + (if bar2 then 1 else 0)) = some (s.rd (cntPage port.val) F.cntp_BW_RX_LAST, s.rd (cntPage port.val) F.cntp_BW_TX_LAST) ∧
      RegsOnly [] s t) ∧
  (∀ (port : Fin 1024) (bar2 : Bool) (s : State), s.stopped = false → (((bar2 && !s.on (cntPage port.val) F.hdr_PAGE_CTRL_USER_READ) || s.shut (cntPage port.val)) = true) →
    exec (.bwEndRead port bar2) s = .next (s.send (.reply "READ" [0])) ∧
      Only [.out, .vsr] s (s.send (.reply "READ" [0]))) ∧
  (∀ (port : Fin 1024) (s : State), (max (s.bw port.val).last (s.bw port.val).start < s.windowEnd port.val s.nowNs) → (s.unknownBefore (fun p => p == port.val) (s.windowEnd port.val s.nowNs * nsUnits) = false) →
    exec (.bwWindowClose port) s = .next (closeWindows port.val s) ∧
      Only [.regs, .vsr] s (closeWindows port.val s)) ∧
  (∀ (w : Word) (s : State), s.stopped = false → s.shut (0xB0) = false → ((s.on 0xB0 F.vsr0_SNAP_STATUS_PENDING || s.on 0xB0 F.vsr0_SNAP_STATUS_WRITING) = true) →
    exec (.snapAtWrite w) s = .next ((s.wakeClock 0xB0).set1 0xB0 F.hdr_PAGE_STATUS_WRITE_DROPPED) ∧
      Only [.regs, .out, .host, .latches, .vsr, .mtn] s ((s.wakeClock 0xB0).set1 0xB0 F.hdr_PAGE_STATUS_WRITE_DROPPED)) ∧
  (∀ (w : Word) (s : State), s.stopped = false → s.shut (0xB0) = false → s.on 0xB0 F.vsr0_SNAP_STATUS_PENDING = false → s.on 0xB0 F.vsr0_SNAP_STATUS_WRITING = false →
    ∃ t, exec (.snapAtWrite w) s = .next t ∧
      Only [.regs, .out, .host, .latches, .vsr, .mtn] s t ∧
      t.rd 0xB0 F.vsr0_SNAP_STATUS_PENDING = 1 ∧
      t.rd 0xB0 F.vsr0_SNAP_AT_NS = w.toNat ∧
      t.vsr.late = decide (w.toNat * nsUnits + s.host.staged.val 0 0xB0088 % nsUnits ≤ s.now) ∧
      t.vsr.due = some (max s.now (w.toNat * nsUnits + s.host.staged.val 0 0xB0088 % nsUnits)) ∧
      t.vsr.kept = []) ∧
  (∀ (a : T80) (s : State), s.stopped = false → s.shut (0xB0) = false → (s.vsr.due = some a) → (s.now < a) →
    exec (.snapCancel) s = .next (recomputeDdr ({ s.wakeClock 0xB0 with vsr := { s.vsr with due := none, after := [], kept := [] } }.wr 0xB0 F.vsr0_SNAP_STATUS_PENDING 0)) ∧
      Only [.regs, .out, .host, .latches, .vsr, .mtn] s (recomputeDdr ({ s.wakeClock 0xB0 with vsr := { s.vsr with due := none, after := [], kept := [] } }.wr 0xB0 F.vsr0_SNAP_STATUS_PENDING 0)) ∧
      ((recomputeDdr ({ s.wakeClock 0xB0 with vsr := { s.vsr with due := none, after := [], kept := [] } }.wr 0xB0 F.vsr0_SNAP_STATUS_PENDING 0))).vsr.due = none ∧
      ((recomputeDdr ({ s.wakeClock 0xB0 with vsr := { s.vsr with due := none, after := [], kept := [] } }.wr 0xB0 F.vsr0_SNAP_STATUS_PENDING 0))).on 0xB0 F.vsr0_SNAP_STATUS_PENDING = false) ∧
  (∀ (s : State), s.stopped = false → s.shut (0xB0) = false → (s.vsr.due.all (fun a => decide (a ≤ s.now)) = true) →
    ∃ t, exec (.snapCancel) s = .next t ∧
      Only [.regs, .out, .host, .latches, .vsr, .mtn] s t ∧
      t.vsr = (if s.vsr.due.isSome then { s.vsr with once := true } else s.vsr) ∧
      RegsOnly [] s t) ∧
  (∀ (a : T80) (s : State), s.stopped = false → (s.vsr.due = some a) → (a + ns 64 ≤ s.now) → s.vsr.image = none → (s.vsr.bw.all (fun x => (s.vsr.kept.at? x.1).isSome || decide (s.windowEnd x.1 (a / nsUnits) ≤ max x.2.last x.2.start)) = true) → (s.unknownBefore (fun _ => true) a = false) →
    exec (.snapshotClose) s = .next (closeSnapshot a s) ∧
      Only [.regs, .ddr, .poison, .vsr] s (closeSnapshot a s) ∧
      ((closeSnapshot a s)).on 0xB0 F.vsr0_SNAP_STATUS_WRITING = true ∧
      (((closeSnapshot a s)).vsr.image.map fun m => m.at_) = some a ∧
      ((closeSnapshot a s)).vsr.kept = []) ∧
  (∀ (m : SnapImage) (s : State), s.stopped = false → (s.vsr.image = some m) →
    exec (.snapshotComplete) s = .next (completeSnapshot m s) ∧
      Only [.regs, .out, .ddr, .poison, .host, .latches, .vsr, .mtn] s (completeSnapshot m s) ∧
      ((completeSnapshot m s)).vsr.image = none ∧
      ((completeSnapshot m s)).vsr.seq = s.vsr.seq + 1) ∧
  (∀ (m : SnapImage) (s : State), s.stopped = false → (s.vsr.image = some m) → s.vsr.slow = false → (m.at_ + ns 2000000 < s.now) →
    ∃ t, exec (.snapSlow) s = .next t ∧
      Only [.regs, .out, .host, .latches, .vsr] s t ∧
      t.vsr = { s.vsr with slow := true }) ∧
  (∀ (slice : Fin 32) (drbg : Bool) (rate : BitVec 5) (s : State), s.stopped = false → s.shut ((trcPage slice.val)) = false →
    exec (.traceEnable slice drbg rate) s = .next (traceEnable slice.val drbg rate.toNat (s.wakeClock (trcPage slice.val))) ∧
      Only [.regs, .free, .out, .host, .latches, .palm, .mtn] s (traceEnable slice.val drbg rate.toNat (s.wakeClock (trcPage slice.val))) ∧
      ((traceEnable slice.val drbg rate.toNat (s.wakeClock (trcPage slice.val)))).on (trcPage slice.val) F.trc_TRACE_CFG_ENABLE = true ∧
      (s.on (trcPage slice.val) F.trc_TRACE_CFG_ENABLE = true → ((traceEnable slice.val drbg rate.toNat (s.wakeClock (trcPage slice.val)))).palm = s.palm)) ∧
  (∀ (slice : Fin 32) (drbg : Bool) (rate : BitVec 5) (s : State), s.stopped = false → s.shut ((trcPage slice.val)) = false → s.on (trcPage slice.val) F.trc_TRACE_CFG_ENABLE = false →
    ∃ t, exec (.traceEnable slice drbg rate) s = .next t ∧
      Only [.regs, .free, .out, .host, .latches, .palm, .mtn] s t ∧
      t.rd (trcPage slice.val) F.trc_TRACE_CFG_ENABLE = 1 ∧
      t.rd (trcPage slice.val) F.trc_TRACE_CFG_RATE_LOG2 = rate.toNat ∧
      t.palm.lfsr.val 0 slice.val = (if drbg then (Config.drbg s.free).toNat % 2 ^ 32 else max 1 (s.rd (trcPage slice.val) F.trc_TRACE_SEED)) ∧
      t.free = s.free + drbg.toNat) ∧
  (∀ (page : Fin 4096) (offset : Fin 512) (kind : Fin 3) (s : State), (isCounter (cntPage page.val) (8 * offset.val) = true) →
    exec (.counterEccError page offset kind) s = .next ((match kind.val with | 0 => s.raise 0xB0 3 | 1 => s.raise 0xB0 4 | _ => counterEcc page.val (8 * offset.val) 2 s)) ∧
      Only [.regs, .out, .host, .latches, .vsr] s ((match kind.val with | 0 => s.raise 0xB0 3 | 1 => s.raise 0xB0 4 | _ => counterEcc page.val (8 * offset.val) 2 s)) ∧
      (kind.val = 2 → (((match kind.val with | 0 => s.raise 0xB0 3 | 1 => s.raise 0xB0 4 | _ => counterEcc page.val (8 * offset.val) 2 s))).vsr.damaged.contains (cntPage page.val * 0x1000 + 8 * offset.val) = true) ∧
      (kind.val ≠ 2 → (((match kind.val with | 0 => s.raise 0xB0 3 | 1 => s.raise 0xB0 4 | _ => counterEcc page.val (8 * offset.val) 2 s))).vsr = s.vsr)) ∧
  (∀ (page : Fin 4096) (offset : Fin 512) (s : State), (isCounter (cntPage page.val) (8 * offset.val) = true) →
    ∃ t, exec (.counterEccError page offset 2) s = .next t ∧
      Only [.regs, .out, .host, .latches, .vsr] s t ∧
      t.rd 0xB0 F.vsr0_DAMAGED_PAGE = cntPage page.val ∧
      t.rd 0xB0 F.vsr0_DAMAGED_OFFSET = 8 * offset.val ∧
      t.vsr.damaged.contains (cntPage page.val * 0x1000 + 8 * offset.val) = true) ∧
  (∀ (page : Fin 4096) (offset : Fin 512) (s : State), (isCounter (cntPage page.val) (8 * offset.val) = true) →
    exec (.counterEccError page offset 1) s = .next (s.raise 0xB0 4) ∧
      Only [.regs, .out, .host, .latches, .vsr] s (s.raise 0xB0 4)) ∧
  (∀ (page : Fin 4096) (offset : Fin 512) (s : State), (isCounter (cntPage page.val) (8 * offset.val) = true) →
    exec (.counterEccError page offset 0) s = .next (s.raise 0xB0 3) ∧
      Only [.regs, .out, .host, .latches, .vsr] s (s.raise 0xB0 3)) ∧
  (∀ (page : Fin 4096) (offset : Fin 512) (kind : Fin 3) (s : State), (isCounter (cntPage page.val) (8 * offset.val) = false) →
    exec (.counterEccError page offset kind) s = .next (s) ∧
      Only [.regs, .out, .host, .latches, .vsr] s (s))

/-- POWER_VOTE of the host stores a defined vote and recomputes the domain, of firmware keeps its vote, of a unit recomputes it; HOLDOFF_EXPIRY starts the entry of an unprivileged domain and asks the owner of a privileged one; PRIVILEGED_ANSWER delays, accepts or refuses as R417 says; HANDSHAKE_NO_ANSWER ends an unanswered one; DELAY_EXPIRY asks again; DOMAIN_ENTRY_COMPLETE reaches the state entered; CLOCK_GATE gates an IDLE domain without demand; DOM_SEL_WRITE selects a domain. -/
def Obligations.VotesAndEntriesComplete : Prop :=
  (∀ (domain : Fin 209) (source : Fin 3) (vote : Fin 8) (s : State), s.stopped = false →
    exec (.powerVote domain source vote) s = .next ((match source.val with | 0 => writeVote (pageOfDomain domain.val) vote.val s | 1 => recomputeDom domain.val (s.putDom domain.val { s.dom domain.val with firmware := if vote.val ≤ 4 then vote.val else 7 }) | _ => recomputeDom domain.val s)) ∧
      Only [.regs, .out, .host, .mtn] s ((match source.val with | 0 => writeVote (pageOfDomain domain.val) vote.val s | 1 => recomputeDom domain.val (s.putDom domain.val { s.dom domain.val with firmware := if vote.val ≤ 4 then vote.val else 7 }) | _ => recomputeDom domain.val s)) ∧
      (source.val = 0 → vote.val = 5 ∨ vote.val = 6 → ((match source.val with | 0 => writeVote (pageOfDomain domain.val) vote.val s | 1 => recomputeDom domain.val (s.putDom domain.val { s.dom domain.val with firmware := if vote.val ≤ 4 then vote.val else 7 }) | _ => recomputeDom domain.val s)) = s)) ∧
  (∀ (domain : Fin 209) (vote : Fin 8) (s : State), s.stopped = false → (vote.val ≠ 5) → (vote.val ≠ 6) →
    exec (.powerVote domain 0 vote) s = .next (recomputeDom domain.val (s.wr (pageOfDomain domain.val) F.hdr_PWR_VOTE_STATE vote.val)) ∧
      Only [.regs, .out, .host, .mtn] s (recomputeDom domain.val (s.wr (pageOfDomain domain.val) F.hdr_PWR_VOTE_STATE vote.val))) ∧
  (∀ (domain : Fin 209) (vote : Fin 8) (s : State), s.stopped = false →
    exec (.powerVote domain 1 vote) s = .next (recomputeDom domain.val (s.putDom domain.val { s.dom domain.val with firmware := if vote.val ≤ 4 then vote.val else 7 })) ∧
      Only [.regs, .out, .host, .mtn] s (recomputeDom domain.val (s.putDom domain.val { s.dom domain.val with firmware := if vote.val ≤ 4 then vote.val else 7 })) ∧
      (((recomputeDom domain.val (s.putDom domain.val { s.dom domain.val with firmware := if vote.val ≤ 4 then vote.val else 7 }))).dom domain.val).firmware = (if vote.val ≤ 4 then vote.val else 7)) ∧
  (∀ (domain : Fin 209) (vote : Fin 8) (s : State), s.stopped = false →
    exec (.powerVote domain 2 vote) s = .next (recomputeDom domain.val s) ∧
      Only [.regs, .out, .host, .mtn] s (recomputeDom domain.val s)) ∧
  (∀ (domain : Fin 209) (a : T80) (s : State), s.stopped = false → ((s.dom domain.val).holdFrom = some a) → (a + ns (1000 * (s.dom domain.val).holdoff) ≤ s.mono) → ((((recomputeDom domain.val s).dom domain.val).holdFrom.isSome && ((recomputeDom domain.val s).dom domain.val).trans == 0 && decide (((recomputeDom domain.val s).dom domain.val).state < ((recomputeDom domain.val s).dom domain.val).target)) = true) → (domain.val < 205) →
    exec (.holdoffExpiry domain) s = .next (startEntry domain.val ((recomputeDom domain.val s).dom domain.val).target (recomputeDom domain.val s)) ∧
      Only [.regs, .out, .host, .mtn] s (startEntry domain.val ((recomputeDom domain.val s).dom domain.val).target (recomputeDom domain.val s)) ∧
      (((startEntry domain.val ((recomputeDom domain.val s).dom domain.val).target (recomputeDom domain.val s))).dom domain.val).holdFrom = none) ∧
  (∀ (domain : Fin 209) (a : T80) (s : State), s.stopped = false → ((s.dom domain.val).holdFrom = some a) → (a + ns (1000 * (s.dom domain.val).holdoff) ≤ s.mono) → ((((recomputeDom domain.val s).dom domain.val).holdFrom.isSome && ((recomputeDom domain.val s).dom domain.val).trans == 0 && decide (((recomputeDom domain.val s).dom domain.val).state < ((recomputeDom domain.val s).dom domain.val).target)) = true) → (205 ≤ domain.val) →
    ∃ t, exec (.holdoffExpiry domain) s = .next t ∧
      Only [.regs, .out, .host, .mtn] s t ∧
      t.dom domain.val = { (recomputeDom domain.val s).dom domain.val with holdFrom := none, asked := 1, askTo := ((recomputeDom domain.val s).dom domain.val).target, askAt := s.mono } ∧
      (∀ d, d ≠ domain.val → t.dom d = (recomputeDom domain.val s).dom d)) ∧
  (∀ (domain : Fin 209) (a : T80) (s : State), s.stopped = false → ((s.dom domain.val).holdFrom = some a) → (a + ns (1000 * (s.dom domain.val).holdoff) ≤ s.mono) → ((((recomputeDom domain.val s).dom domain.val).holdFrom.isSome && ((recomputeDom domain.val s).dom domain.val).trans == 0 && decide (((recomputeDom domain.val s).dom domain.val).state < ((recomputeDom domain.val s).dom domain.val).target)) = false) →
    exec (.holdoffExpiry domain) s = .next ((recomputeDom domain.val s)) ∧
      Only [.regs, .out, .host, .mtn] s ((recomputeDom domain.val s))) ∧
  (∀ (domain : Fin 209) (busy : Bool) (delay : BitVec 16) (s : State), s.stopped = false → (s.dom domain.val).asked = 1 → (s.mono ≤ (s.dom domain.val).askAt + ns 100000) → s.delays domain.val busy = true →
    ∃ t, exec (.privilegedAnswer domain busy delay) s = .next t ∧
      Only [.regs, .out, .host, .mtn] s t ∧
      t.dom domain.val = { s.dom domain.val with asked := 2, askAt := s.mono + ns (1000 * delay.toNat), lastAnswer := 2 } ∧
      (∀ d, d ≠ domain.val → t.dom d = s.dom d)) ∧
  (∀ (domain : Fin 209) (busy : Bool) (delay : BitVec 16) (s : State), s.stopped = false → (s.dom domain.val).asked = 1 → (s.mono ≤ (s.dom domain.val).askAt + ns 100000) → s.delays domain.val busy = false → s.refuses domain.val (s.dom domain.val).askTo = 0 →
    exec (.privilegedAnswer domain busy delay) s = .next (startEntry domain.val (s.dom domain.val).askTo (s.putDom domain.val { s.dom domain.val with lastAnswer := 1 })) ∧
      Only [.regs, .out, .host, .mtn] s (startEntry domain.val (s.dom domain.val).askTo (s.putDom domain.val { s.dom domain.val with lastAnswer := 1 })) ∧
      (((startEntry domain.val (s.dom domain.val).askTo (s.putDom domain.val { s.dom domain.val with lastAnswer := 1 }))).dom domain.val).lastAnswer = 1) ∧
  (∀ (domain : Fin 209) (busy : Bool) (delay : BitVec 16) (s : State), s.stopped = false → (s.dom domain.val).asked = 1 → (s.mono ≤ (s.dom domain.val).askAt + ns 100000) → s.delays domain.val busy = false → (s.refuses domain.val (s.dom domain.val).askTo ≠ 0) →
    ∃ t, exec (.privilegedAnswer domain busy delay) s = .next t ∧
      Only [.regs, .out, .host, .mtn] s t ∧
      t.dom domain.val = { s.dom domain.val with asked := 3, lastAnswer := 3, reason := s.refuses domain.val (s.dom domain.val).askTo } ∧
      (∀ d, d ≠ domain.val → t.dom d = s.dom d)) ∧
  (∀ (domain : Fin 209) (s : State), s.stopped = false → (s.dom domain.val).asked = 1 → ((s.dom domain.val).askAt + ns 100000 ≤ s.mono) →
    ∃ t, exec (.handshakeNoAnswer domain) s = .next t ∧
      Only [.regs, .out, .host, .latches, .mtn] s t ∧
      t.dom domain.val = { s.dom domain.val with asked := 3, lastAnswer := 4, reason := 4 } ∧
      (∀ d, d ≠ domain.val → t.dom d = s.dom d)) ∧
  (∀ (domain : Fin 209) (s : State), s.stopped = false → (s.dom domain.val).asked = 2 → ((s.dom domain.val).askAt ≤ s.mono) →
    ∃ t, exec (.delayExpiry domain) s = .next t ∧
      Only [.regs, .out, .host, .mtn] s t ∧
      t.dom domain.val = { s.dom domain.val with asked := 1, askAt := s.mono } ∧
      (∀ d, d ≠ domain.val → t.dom d = s.dom d)) ∧
  (∀ (domain : Fin 209) (s : State), (s.dom domain.val).trans = 1 → (s.dom domain.val).waitsLow = false →
    exec (.domainEntryComplete domain) s = .next ((let u := s.putDom domain.val { s.dom domain.val with state := (s.dom domain.val).to_, trans := 0, gated := false, latched := false, doneAt := some s.mono, fallback := (s.dom domain.val).fallback && (s.dom domain.val).to_ == 2, entries := sat 16 ((s.dom domain.val).entries + 1) }; settleDom domain.val (s.dom domain.val).latched (refreshLow (bandFollows domain.val (if (s.dom domain.val).to_ = 4 then loseDomain domain.val u else u))))) ∧
      Only [.regs, .free, .out, .ddr, .poison, .host, .latches, .hat, .stamps, .brim, .mtn, .crown, .dram] s ((let u := s.putDom domain.val { s.dom domain.val with state := (s.dom domain.val).to_, trans := 0, gated := false, latched := false, doneAt := some s.mono, fallback := (s.dom domain.val).fallback && (s.dom domain.val).to_ == 2, entries := sat 16 ((s.dom domain.val).entries + 1) }; settleDom domain.val (s.dom domain.val).latched (refreshLow (bandFollows domain.val (if (s.dom domain.val).to_ = 4 then loseDomain domain.val u else u)))))) ∧
  (∀ (domain : Fin 209) (demand : Bool) (s : State), (s.dom domain.val).state = 1 → (s.dom domain.val).trans = 0 →
    exec (.clockGate domain demand) s = .next (startHeld (s.putDom domain.val { s.dom domain.val with gated := !demand })) ∧
      Only [.regs, .free, .out, .ddr, .poison, .host, .latches, .hat, .stamps, .ucs, .brim, .tbl, .palm, .timing, .ses, .ldg, .vsr, .mtn, .pwc, .gnt, .crown, .boot] s (startHeld (s.putDom domain.val { s.dom domain.val with gated := !demand }))) ∧
  (∀ (domain : BitVec 8) (s : State), s.stopped = false → s.shut (0x31) = false → (domain.toNat ≤ 208) →
    ∃ t, exec (.domSelWrite domain) s = .next t ∧
      Only [.regs, .latches, .mtn] s t ∧
      t.rd 0x31 F.mtn1_DOM_SEL_DOMAIN = domain.toNat ∧
      t.rd 0x31 F.mtn1_DOM_STATUS_HOLDERS = (s.dom domain.toNat).holders % 2 ^ 9 ∧
      t.rd 0x31 F.mtn1_DOM_CFG_HOLDOFF_US = (s.dom domain.toNat).holdoff % 2 ^ F.mtn1_DOM_CFG_HOLDOFF_US.w ∧
      RegsOnly [0x31] s t) ∧
  (∀ (domain : BitVec 8) (s : State), s.stopped = false → s.shut (0x31) = false → (208 < domain.toNat) →
    ∃ t, exec (.domSelWrite domain) s = .next t ∧
      Only [.regs, .latches, .mtn] s t ∧
      t.rd 0x31 F.hdr_PAGE_STATUS_WRITE_DROPPED = 1 ∧
      t.rd 0x31 F.mtn1_DOM_STATUS_HOLDERS = 0 ∧
      RegsOnly [0x31] s t)

/-- AVS_ACK ends the request in flight and sends the next: a step of VDD_CORE is in force, VDD_LOW is up; AVS_TIMEOUT after 200 us sends one of VDD_LOW or VDD_CORE again while tries remain; WAKE_STAGE_COMPLETE and REINIT_COMPLETE take the wake on; WAKE_STAGE_TIMEOUT tries the PLL again and after three tries fails the wake; RETRY_WAKE wakes the selected domain that was denied; VDD_LOW_OFF drops VDD_LOW after 1 ms without a user; XTAL_LOST moves the always-on clock to its other source. -/
def Obligations.WakeAndSupplyCommandsComplete : Prop :=
  (∀ (tx : AvsTx) (r : List AvsTx) (up : Bool) (s : State), (s.mtn.avs = tx :: r) → (tx.kind = .cap up) →
    exec (.avsAck) s = .next (sendAvs r (refreshFloor (((({ s with mtn := { s.mtn with avs := r } } : State).wr 0x40 F.pwc0_VOLT_STATUS_SETPOINT_MV (s.steppedMv up)).wr 0x40 F.pwc0_VOLT_STATUS_STEP_BUSY 0).bump 0x40 F.pwc0_VOLT_STATUS_STEPS))) ∧
      Only [.regs, .out, .host, .latches, .mtn, .dram] s (sendAvs r (refreshFloor (((({ s with mtn := { s.mtn with avs := r } } : State).wr 0x40 F.pwc0_VOLT_STATUS_SETPOINT_MV (s.steppedMv up)).wr 0x40 F.pwc0_VOLT_STATUS_STEP_BUSY 0).bump 0x40 F.pwc0_VOLT_STATUS_STEPS))) ∧
      ((sendAvs r (refreshFloor (((({ s with mtn := { s.mtn with avs := r } } : State).wr 0x40 F.pwc0_VOLT_STATUS_SETPOINT_MV (s.steppedMv up)).wr 0x40 F.pwc0_VOLT_STATUS_STEP_BUSY 0).bump 0x40 F.pwc0_VOLT_STATUS_STEPS)))).on 0x40 F.pwc0_VOLT_STATUS_STEP_BUSY = false) ∧
  (∀ (tx : AvsTx) (r : List AvsTx) (s : State), (s.mtn.avs = tx :: r) → tx.kind = .low →
    exec (.avsAck) s = .next (sendAvs r (refreshLow (lowReady false (({ s with mtn := { s.mtn with avs := r } } : State).wr 0x32 F.mtn2_AVS_STATUS_VDD_LOW_UP 1)))) ∧
      Only [.regs, .out, .host, .latches, .mtn, .dram] s (sendAvs r (refreshLow (lowReady false (({ s with mtn := { s.mtn with avs := r } } : State).wr 0x32 F.mtn2_AVS_STATUS_VDD_LOW_UP 1)))) ∧
      ((sendAvs r (refreshLow (lowReady false (({ s with mtn := { s.mtn with avs := r } } : State).wr 0x32 F.mtn2_AVS_STATUS_VDD_LOW_UP 1))))).on 0x32 F.mtn2_AVS_STATUS_VDD_LOW_UP = true) ∧
  (∀ (tx : AvsTx) (r : List AvsTx) (d : Nat) (s : State), (s.mtn.avs = tx :: r) → (tx.kind = .wake d) → (s.dom d).trans = 2 → (s.dom d).stage = 1 →
    exec (.avsAck) s = .next (sendAvs r (toStage d 2 { s with mtn := { s.mtn with avs := r, steps := s.mtn.steps ++ [{ domain := d, mv := s.stepMv }] } })) ∧
      Only [.regs, .out, .host, .latches, .mtn, .dram] s (sendAvs r (toStage d 2 { s with mtn := { s.mtn with avs := r, steps := s.mtn.steps ++ [{ domain := d, mv := s.stepMv }] } }))) ∧
  (∀ (tx : AvsTx) (r : List AvsTx) (d : Nat) (s : State), (s.mtn.avs = tx :: r) → (tx.kind = .wake d) → (((s.dom d).trans ≠ 2 ∨ (s.dom d).stage ≠ 1)) →
    exec (.avsAck) s = .next (sendAvs r { s with mtn := { s.mtn with avs := r, steps := s.mtn.steps ++ [{ domain := d, mv := s.stepMv }] } }) ∧
      Only [.regs, .out, .host, .latches, .mtn, .dram] s (sendAvs r { s with mtn := { s.mtn with avs := r, steps := s.mtn.steps ++ [{ domain := d, mv := s.stepMv }] } })) ∧
  (∀ (tx : AvsTx) (r : List AvsTx) (s : State), (s.mtn.avs = tx :: r) → (tx.since + ns 200000 ≤ s.mono) → (s.pending.any (· == .avsAck) = false) → tx.kind = .low → (tx.tries < 2) →
    exec (.avsTimeout) s = .next (sendAvs ({ tx with tries := tx.tries + 1 } :: r) (s.bump 0x32 F.mtn2_AVS_STATUS_NO_ACK)) ∧
      Only [.regs, .free, .out, .ddr, .poison, .host, .latches, .hat, .stamps, .brim, .mtn, .pwc, .crown, .dram] s (sendAvs ({ tx with tries := tx.tries + 1 } :: r) (s.bump 0x32 F.mtn2_AVS_STATUS_NO_ACK)) ∧
      (((sendAvs ({ tx with tries := tx.tries + 1 } :: r) (s.bump 0x32 F.mtn2_AVS_STATUS_NO_ACK))).mtn.avs.head?.map fun x => x.tries) = some (tx.tries + 1)) ∧
  (∀ (tx : AvsTx) (r : List AvsTx) (s : State), (s.mtn.avs = tx :: r) → (tx.since + ns 200000 ≤ s.mono) → (s.pending.any (· == .avsAck) = false) → tx.kind = .low → (2 ≤ tx.tries) →
    exec (.avsTimeout) s = .next (sendAvs r (lowReady true (s.bump 0x32 F.mtn2_AVS_STATUS_NO_ACK))) ∧
      Only [.regs, .free, .out, .ddr, .poison, .host, .latches, .hat, .stamps, .brim, .mtn, .pwc, .crown, .dram] s (sendAvs r (lowReady true (s.bump 0x32 F.mtn2_AVS_STATUS_NO_ACK)))) ∧
  (∀ (tx : AvsTx) (r : List AvsTx) (d : Nat) (s : State), (s.mtn.avs = tx :: r) → (tx.since + ns 200000 ≤ s.mono) → (s.pending.any (· == .avsAck) = false) → (tx.kind = .wake d) → (tx.tries < 3) →
    exec (.avsTimeout) s = .next (sendAvs ({ tx with tries := tx.tries + 1 } :: r) ((s.bump 0x32 F.mtn2_AVS_STATUS_NO_ACK).putDom d { s.dom d with retries := sat 16 ((s.dom d).retries + 1) })) ∧
      Only [.regs, .free, .out, .ddr, .poison, .host, .latches, .hat, .stamps, .brim, .mtn, .pwc, .crown, .dram] s (sendAvs ({ tx with tries := tx.tries + 1 } :: r) ((s.bump 0x32 F.mtn2_AVS_STATUS_NO_ACK).putDom d { s.dom d with retries := sat 16 ((s.dom d).retries + 1) }))) ∧
  (∀ (tx : AvsTx) (r : List AvsTx) (d : Nat) (s : State), (s.mtn.avs = tx :: r) → (tx.since + ns 200000 ≤ s.mono) → (s.pending.any (· == .avsAck) = false) → (tx.kind = .wake d) → (3 ≤ tx.tries) →
    exec (.avsTimeout) s = .next (sendAvs r (wakeFails d 1 { s.bump 0x32 F.mtn2_AVS_STATUS_NO_ACK with mtn := { s.mtn with avs := r } })) ∧
      Only [.regs, .free, .out, .ddr, .poison, .host, .latches, .hat, .stamps, .brim, .mtn, .pwc, .crown, .dram] s (sendAvs r (wakeFails d 1 { s.bump 0x32 F.mtn2_AVS_STATUS_NO_ACK with mtn := { s.mtn with avs := r } }))) ∧
  (∀ (tx : AvsTx) (r : List AvsTx) (up : Bool) (s : State), (s.mtn.avs = tx :: r) → (tx.since + ns 200000 ≤ s.mono) → (s.pending.any (· == .avsAck) = false) → (tx.kind = .cap up) → (tx.tries < 2) →
    exec (.avsTimeout) s = .next (sendAvs ({ tx with tries := tx.tries + 1 } :: r) (s.bump 0x32 F.mtn2_AVS_STATUS_NO_ACK)) ∧
      Only [.regs, .free, .out, .ddr, .poison, .host, .latches, .hat, .stamps, .brim, .mtn, .pwc, .crown, .dram] s (sendAvs ({ tx with tries := tx.tries + 1 } :: r) (s.bump 0x32 F.mtn2_AVS_STATUS_NO_ACK))) ∧
  (∀ (tx : AvsTx) (r : List AvsTx) (up : Bool) (s : State), (s.mtn.avs = tx :: r) → (tx.since + ns 200000 ≤ s.mono) → (s.pending.any (· == .avsAck) = false) → (tx.kind = .cap up) → (2 ≤ tx.tries) →
    exec (.avsTimeout) s = .next (sendAvs r ((({ s.bump 0x32 F.mtn2_AVS_STATUS_NO_ACK with pwc := { s.pwc with down := 0, up := 0 } }.wr 0x40 F.pwc0_VOLT_STATUS_STEP_BUSY 0).bump 0x40 F.pwc0_VOLT_STATUS_NO_ACK).raise 0x40 9)) ∧
      Only [.regs, .free, .out, .ddr, .poison, .host, .latches, .hat, .stamps, .brim, .mtn, .pwc, .crown, .dram] s (sendAvs r ((({ s.bump 0x32 F.mtn2_AVS_STATUS_NO_ACK with pwc := { s.pwc with down := 0, up := 0 } }.wr 0x40 F.pwc0_VOLT_STATUS_STEP_BUSY 0).bump 0x40 F.pwc0_VOLT_STATUS_NO_ACK).raise 0x40 9))) ∧
  (∀ (domain : Fin 209) (lost : List LostBank) (s : State), (s.dom domain.val).trans = 2 →
    exec (.wakeStageComplete domain lost) s = .next (startHeld (stageEnds domain.val lost s)) ∧
      Only [.regs, .free, .out, .ddr, .poison, .host, .latches, .hat, .stamps, .ucs, .brim, .tbl, .palm, .timing, .ses, .ldg, .vsr, .mtn, .pwc, .gnt, .crown, .dram, .boot] s (startHeld (stageEnds domain.val lost s))) ∧
  (∀ (domain : Fin 209) (s : State), (s.dom domain.val).trans = 2 → (s.dom domain.val).stage = 3 → ((s.dom domain.val).since + ns 50000 ≤ s.mono) → ((s.dom domain.val).tries < 3) →
    ∃ t, exec (.wakeStageTimeout domain) s = .next t ∧
      Only [.regs, .free, .out, .ddr, .poison, .host, .latches, .hat, .stamps, .brim, .mtn, .crown, .dram] s t ∧
      t.dom domain.val = { s.dom domain.val with tries := (s.dom domain.val).tries + 1, retries := sat 16 ((s.dom domain.val).retries + 1), since := s.mono } ∧
      (∀ d, d ≠ domain.val → t.dom d = s.dom d)) ∧
  (∀ (domain : Fin 209) (s : State), (s.dom domain.val).trans = 2 → (s.dom domain.val).stage = 3 → ((s.dom domain.val).since + ns 50000 ≤ s.mono) → (3 ≤ (s.dom domain.val).tries) →
    exec (.wakeStageTimeout domain) s = .next (wakeFails domain.val 2 s) ∧
      Only [.regs, .free, .out, .ddr, .poison, .host, .latches, .hat, .stamps, .brim, .mtn, .crown, .dram] s (wakeFails domain.val 2 s) ∧
      (((wakeFails domain.val 2 s)).dom domain.val).state = 4 ∧
      (((wakeFails domain.val 2 s)).dom domain.val).denied = true) ∧
  (∀ (domain : Fin 209) (s : State), (s.dom domain.val).trans = 2 → (s.dom domain.val).stage = 5 → ((decide (196 ≤ domain.val) && s.dram.training.contains (domain.val - 196)) = false) →
    exec (.reinitComplete domain) s = .next (startHeld (wakeEnds domain.val (if (s.dom domain.val).fromOff || (s.dom domain.val).redo then reinit domain.val s else s))) ∧
      Only [.regs, .free, .out, .ddr, .poison, .host, .latches, .hat, .stamps, .ucs, .brim, .tbl, .palm, .timing, .ses, .ldg, .vsr, .mtn, .pwc, .gnt, .crown, .boot] s (startHeld (wakeEnds domain.val (if (s.dom domain.val).fromOff || (s.dom domain.val).redo then reinit domain.val s else s)))) ∧
  (∀ (s : State), s.stopped = false → s.shut (0x31) = false → (s.rd 0x31 F.mtn1_DOM_SEL_DOMAIN ≤ 208) → (s.dom (s.rd 0x31 F.mtn1_DOM_SEL_DOMAIN)).denied = true → (s.dom (s.rd 0x31 F.mtn1_DOM_SEL_DOMAIN)).trans = 0 →
    exec (.retryWake) s = .next ((let u := s.wakeClock 0x31; startWake (s.rd 0x31 F.mtn1_DOM_SEL_DOMAIN) (u.putDom (s.rd 0x31 F.mtn1_DOM_SEL_DOMAIN) { u.dom (s.rd 0x31 F.mtn1_DOM_SEL_DOMAIN) with denied := false }))) ∧
      Only [.regs, .out, .host, .latches, .mtn] s ((let u := s.wakeClock 0x31; startWake (s.rd 0x31 F.mtn1_DOM_SEL_DOMAIN) (u.putDom (s.rd 0x31 F.mtn1_DOM_SEL_DOMAIN) { u.dom (s.rd 0x31 F.mtn1_DOM_SEL_DOMAIN) with denied := false })))) ∧
  (∀ (a : T80) (s : State), (s.mtn.lowSince = some a) → (a + ns 1000000 ≤ s.mono) →
    ∃ t, exec (.vddLowOff) s = .next t ∧
      Only [.regs, .out, .mtn] s t ∧
      t.rd 0x32 F.mtn2_AVS_STATUS_VDD_LOW_UP = 0 ∧
      t.mtn.lowSince = none ∧
      t.out = Output.avs "VDD_LOW" 0 :: s.out ∧
      RegsOnly [0x32] s t) ∧
  (∀ (s : State), s.on 0x30 F.mtn0_MTN_STATUS_AON_SOURCE = false →
    ∃ t, exec (.xtalLost) s = .next t ∧
      Only [.regs, .out, .host, .latches] s t ∧
      t.on 0x30 F.mtn0_MTN_STATUS_AON_SOURCE = true ∧
      t.on 0x30 F.mtn0_MTN_STATUS_XTAL_LOST = true ∧
      t.mtn = s.mtn)

/-- ESTIMATOR_PERIOD at its period ends the period with the energies of the 44 parts; CAP_WRITE stores the cap, held between 350 and 1,100 W, to take effect at the next boundary; POWER_CAL_START starts the sampling; POWER_CAL_COMPLETE after a minute puts a fit with a residual of at most 30 in use and refuses another; USE_FUSED returns to the fused weights; DROOP_CROSSING marks its detector and counts the cycles stretched; DROOP_OVERRUN forces the ratio to 128 and the level to 6; THERMAL_SAMPLE at its period takes the 48 sensors; THERMTRIP trips, driving its pin once. -/
def Obligations.PowerCommandsComplete : Prop :=
  (∀ (parts : List Nat) (core : Nat) (s : State), s.stopped = false → parts.length = 44 → (core ≤ parts.sum) → s.dueAt 8 2048 s.nowNs = true →
    exec (.estimatorPeriod parts core) s = .next (periodEnds parts core { s with ticks := { s.ticks with last := s.ticks.last.put s.ticks.base 8 s.nowNs } }) ∧
      Only [.regs, .out, .host, .latches, .ticks, .mtn, .pwc] s (periodEnds parts core { s with ticks := { s.ticks with last := s.ticks.last.put s.ticks.base 8 s.nowNs } }) ∧
      ((periodEnds parts core { s with ticks := { s.ticks with last := s.ticks.last.put s.ticks.base 8 s.nowNs } })).pwc.since = s.nowNs / 2048 * 2048 * nsUnits ∧
      ((periodEnds parts core { s with ticks := { s.ticks with last := s.ticks.last.put s.ticks.base 8 s.nowNs } })).pwc.forced = false) ∧
  (∀ (data : Word) (s : State), s.stopped = false → s.shut (0x40) = false →
    ∃ t, exec (.capWrite data) s = .next t ∧
      Only [.regs, .latches, .mtn, .pwc] s t ∧
      t.rd 0x40 F.pwc0_CAP_CFG_CAP_W = max 350 (min 1100 (bits data.toNat 16 11)) ∧
      t.rd 0x40 F.pwc0_CAP_CFG_ENABLE = data.toNat % 2 ∧
      t.rd 0x40 F.pwc0_CAP_STATUS_CAP_PENDING = 1 ∧
      t.pwc.cap = some (if data.toNat.testBit 0 then max 350 (min 1100 (bits data.toNat 16 11)) else 1100, s.mono) ∧
      RegsOnly [0x40] s t) ∧
  (∀ (s : State), s.stopped = false → s.shut (0x40) = false → (s.rd 0x40 F.pwc0_CAL_STATUS_STATE ≠ 1) →
    ∃ t, exec (.powerCalStart) s = .next t ∧
      Only [.regs, .latches, .mtn, .pwc] s t ∧
      t.rd 0x40 F.pwc0_CAL_STATUS_STATE = 1 ∧
      t.pwc.calAt = s.mono ∧
      RegsOnly [0x40] s t) ∧
  (∀ (s : State), s.stopped = false → s.shut (0x40) = false → s.rd 0x40 F.pwc0_CAL_STATUS_STATE = 1 →
    exec (.powerCalStart) s = .next (s.wakeClock 0x40) ∧
      Only [.regs, .latches, .mtn, .pwc] s (s.wakeClock 0x40)) ∧
  (∀ (residual : Nat) (s : State), s.stopped = false → s.rd 0x40 F.pwc0_CAL_STATUS_STATE = 1 → (s.pwc.calAt + ns 60000000000 ≤ s.mono) → (residual ≤ 30) →
    ∃ t, exec (.powerCalComplete residual) s = .next t ∧
      Only [.regs, .out, .host, .latches, .pwc] s t ∧
      t.rd 0x40 F.pwc0_CAL_STATUS_STATE = 2 ∧
      t.rd 0x40 F.pwc0_CAL_STATUS_RESIDUAL = residual ∧
      t.rd 0x40 F.pwc0_CAP_STATUS_UNCALIBRATED = 0 ∧
      t.pwc.next = some (s.pwc.fits + 1) ∧
      t.pwc.saved = some (s.pwc.fits + 1) ∧
      RegsOnly [0x40] s t) ∧
  (∀ (residual : Nat) (s : State), s.stopped = false → s.rd 0x40 F.pwc0_CAL_STATUS_STATE = 1 → (s.pwc.calAt + ns 60000000000 ≤ s.mono) → (30 < residual) →
    ∃ t, exec (.powerCalComplete residual) s = .next t ∧
      Only [.regs, .out, .host, .latches, .pwc] s t ∧
      t.rd 0x40 F.pwc0_CAL_STATUS_STATE = 3 ∧
      t.rd 0x40 F.pwc0_CAL_STATUS_RESIDUAL = sat 8 residual ∧
      t.pwc = s.pwc) ∧
  (∀ (s : State), s.stopped = false → s.shut (0x40) = false →
    ∃ t, exec (.useFused) s = .next t ∧
      Only [.regs, .latches, .mtn, .pwc] s t ∧
      t.rd 0x40 F.pwc0_CAP_STATUS_UNCALIBRATED = 1 ∧
      t.pwc = { s.pwc with next := some 0 } ∧
      RegsOnly [0x40] s t) ∧
  (∀ (detector : Fin 64) (stretched : Nat) (s : State), s.stopped = false →
    exec (.droopCrossing detector stretched) s = .next ((if stretched = 0 then s.setBit 0x42 F.pwc2_DROOP_SEEN detector.val else addReason 1 (((s.setBit 0x42 F.pwc2_DROOP_SEEN detector.val).bump 0x42 F.pwc2_DROOP_COUNTS_STRETCHES stretched).count 0x0A09 0 stretched))) ∧
      Only [.regs, .out, .host, .latches, .vsr, .pwc] s ((if stretched = 0 then s.setBit 0x42 F.pwc2_DROOP_SEEN detector.val else addReason 1 (((s.setBit 0x42 F.pwc2_DROOP_SEEN detector.val).bump 0x42 F.pwc2_DROOP_COUNTS_STRETCHES stretched).count 0x0A09 0 stretched))) ∧
      (((if stretched = 0 then s.setBit 0x42 F.pwc2_DROOP_SEEN detector.val else addReason 1 (((s.setBit 0x42 F.pwc2_DROOP_SEEN detector.val).bump 0x42 F.pwc2_DROOP_COUNTS_STRETCHES stretched).count 0x0A09 0 stretched)))).rd 0x42 F.pwc2_DROOP_SEEN = putBit (s.rd 0x42 F.pwc2_DROOP_SEEN) detector.val true % 2 ^ 64) ∧
  (∀ (detector : Fin 64) (s : State), s.stopped = false →
    ∃ t, exec (.droopCrossing detector 0) s = .next t ∧
      Only [.regs, .out, .host, .latches, .vsr, .pwc] s t ∧
      t.rd 0x42 F.pwc2_DROOP_SEEN = putBit (s.rd 0x42 F.pwc2_DROOP_SEEN) detector.val true % 2 ^ 64 ∧
      RegsOnly [0x42] s t ∧
      t.pwc = s.pwc) ∧
  (∀ (detector : Fin 64) (stretched : Nat) (s : State), s.stopped = false → (stretched ≠ 0) →
    exec (.droopCrossing detector stretched) s = .next (addReason 1 (((s.setBit 0x42 F.pwc2_DROOP_SEEN detector.val).bump 0x42 F.pwc2_DROOP_COUNTS_STRETCHES stretched).count 0x0A09 0 stretched)) ∧
      Only [.regs, .out, .host, .latches, .vsr, .pwc] s (addReason 1 (((s.setBit 0x42 F.pwc2_DROOP_SEEN detector.val).bump 0x42 F.pwc2_DROOP_COUNTS_STRETCHES stretched).count 0x0A09 0 stretched)) ∧
      ((addReason 1 (((s.setBit 0x42 F.pwc2_DROOP_SEEN detector.val).bump 0x42 F.pwc2_DROOP_COUNTS_STRETCHES stretched).count 0x0A09 0 stretched))).pwc.reasons.testBit 1 = true) ∧
  (∀ (s : State), s.stopped = false →
    ∃ t, exec (.droopOverrun) s = .next t ∧
      Only [.regs, .out, .host, .latches, .pwc] s t ∧
      t.rd 0x40 F.pwc0_CAP_STATUS_RATIO = 128 ∧
      t.rd 0x40 F.pwc0_CAP_STATUS_LEVEL = 6 ∧
      t.pwc.forced = true ∧
      t.pwc.rMax = 128 ∧
      t.pwc.held = [] ∧
      t.pwc.since = s.mono) ∧
  (∀ (temps : List (Option (BitVec 9))) (s : State), s.stopped = false → temps.length = 48 → s.dueAt 9 32768 s.nowNs = true →
    exec (.thermalSample temps) s = .next (thermalSample (temps.map fun x => x.map BitVec.toInt) { s with ticks := { s.ticks with last := s.ticks.last.put s.ticks.base 9 s.nowNs } }) ∧
      Only [.regs, .out, .host, .latches, .ticks, .pwc] s (thermalSample (temps.map fun x => x.map BitVec.toInt) { s with ticks := { s.ticks with last := s.ticks.last.put s.ticks.base 9 s.nowNs } })) ∧
  (∀ (s : State),
    ∃ t, exec (.thermtrip) s = .next t ∧
      Only [.regs, .out, .host, .latches, .pwc] s t ∧
      t.pwc = { s.pwc with tripped := true } ∧
      (s.pwc.tripped = false → Output.pin "THERMTRIP_N" false ∈ t.out))

/-- HOST_LINK_UP of a link that trains to a valid mode brings it up; HOST_LINK_DOWN takes an up link down; HDM_READ of a line of a readable region of an awake channel without poison answers its bytes, and outside the regions is recorded and answers poison; HDM_WRITE stores nothing, is recorded and answered; ATS_INVALIDATION is counted and completed; SNOOP answers RspIHitI. -/
def Obligations.HostLinkCommandsComplete : Prop :=
  (∀ (cxl : Bool) (width : Fin 9) (rate : Fin 6) (cacheEn memEn atsEn : Bool) (s : State), s.linkTrains = true → s.hostUp = false → linkValid cxl width.val rate.val = true →
    exec (.hostLinkUp cxl width rate cacheEn memEn atsEn) s = .next (startHeld (linkUp cxl width.val rate.val cacheEn memEn atsEn s)) ∧
      Only [.regs, .free, .out, .ddr, .poison, .host, .latches, .hat, .stamps, .ucs, .brim, .tbl, .palm, .timing, .ses, .ldg, .vsr, .mtn, .pwc, .gnt, .crown, .boot] s (startHeld (linkUp cxl width.val rate.val cacheEn memEn atsEn s))) ∧
  (∀ (s : State), s.hostUp = true →
    exec (.hostLinkDown) s = .next (recomputeDom 204 ((((linkGone s).bump 0x380 F.cxl0_LINK_STATUS_LINK_DOWNS).raise 0x380 0).vector 304)) ∧
      Only [.regs, .out, .host, .latches, .tbl, .mtn, .crown] s (recomputeDom 204 ((((linkGone s).bump 0x380 F.cxl0_LINK_STATUS_LINK_DOWNS).raise 0x380 0).vector 304))) ∧
  (∀ (address : BitVec 52) (s : State), s.memEnabled = true → ((s.inRegion 2 (address.toNat / 64 * 64) 64 || s.inRegion 3 (address.toNat / 64 * 64) 64) = true) → ((s.dom (196 + s.channelOf (address.toNat / 64 * 64))).state < 2) → (s.poisoned (address.toNat / 64 * 64) 64 = false) →
    exec (.hdmRead address) s = .next (s.send (.reply "HDM_DATA" [leVal (s.ddrRead (address.toNat / 64 * 64) 64)])) ∧
      Only [.regs, .out, .host, .latches] s (s.send (.reply "HDM_DATA" [leVal (s.ddrRead (address.toNat / 64 * 64) 64)]))) ∧
  (∀ (address : BitVec 52) (s : State), s.memEnabled = true → ((s.inRegion 2 (address.toNat / 64 * 64) 64 || s.inRegion 3 (address.toNat / 64 * 64) 64) = false) →
    exec (.hdmRead address) s = .next ((recordBad 5 address.toNat s).send poisonReply) ∧
      Only [.regs, .out, .host, .latches] s ((recordBad 5 address.toNat s).send poisonReply)) ∧
  (∀ (address : BitVec 52) (s : State), s.memEnabled = true → ((s.inRegion 2 (address.toNat / 64 * 64) 64 || s.inRegion 3 (address.toNat / 64 * 64) 64) = true) → (2 ≤ (s.dom (196 + s.channelOf (address.toNat / 64 * 64))).state) →
    exec (.hdmRead address) s = .next ((recordBad 6 address.toNat s).send poisonReply) ∧
      Only [.regs, .out, .host, .latches] s ((recordBad 6 address.toNat s).send poisonReply)) ∧
  (∀ (address : BitVec 52) (s : State), s.memEnabled = true → ((s.inRegion 2 (address.toNat / 64 * 64) 64 || s.inRegion 3 (address.toNat / 64 * 64) 64) = true) → ((s.dom (196 + s.channelOf (address.toNat / 64 * 64))).state < 2) → (s.poisoned (address.toNat / 64 * 64) 64 = true) →
    exec (.hdmRead address) s = .next (s.send poisonReply) ∧
      Only [.regs, .out, .host, .latches] s (s.send poisonReply)) ∧
  (∀ (address : BitVec 52) (s : State), s.memEnabled = true →
    exec (.hdmWrite address) s = .next (((recordBad 4 address.toNat s).raise 0x380 2).send (.reply "HDM_WRITE_DONE" [])) ∧
      Only [.regs, .out, .host, .latches] s (((recordBad 4 address.toNat s).raise 0x380 2).send (.reply "HDM_WRITE_DONE" [])) ∧
      ((((recordBad 4 address.toNat s).raise 0x380 2).send (.reply "HDM_WRITE_DONE" []))).ddr = s.ddr ∧
      ((((recordBad 4 address.toNat s).raise 0x380 2).send (.reply "HDM_WRITE_DONE" []))).poison = s.poison) ∧
  (∀ (s : State), s.hostUp = true → s.on 0x380 F.cxl0_LINK_STATUS_ATS_EN = true →
    ∃ t, exec (.atsInvalidation) s = .next t ∧
      Only [.regs, .out, .latches] s t ∧
      t.rd 0x380 F.cxl0_ATS_STATUS_INVALIDATIONS = sat F.cxl0_ATS_STATUS_INVALIDATIONS.w (s.rd 0x380 F.cxl0_ATS_STATUS_INVALIDATIONS + 1) % 2 ^ F.cxl0_ATS_STATUS_INVALIDATIONS.w ∧
      t.out = Output.reply "INVALIDATION_COMPLETION" [] :: s.out ∧
      RegsOnly [0x380] s t) ∧
  (∀ (s : State), s.hostUp = true → s.on 0x380 F.cxl0_LINK_STATUS_CACHE_EN = true →
    exec (.snoop) s = .next (s.send (.reply "RspIHitI" [])) ∧
      Only [.out] s (s.send (.reply "RspIHitI" [])))

/-- The mailbox, the Crown ring and the commands at the front of either complete with the effect of their rule. -/
def Obligations.CrownCommandsComplete : Prop :=
  (∀ (s : State), s.stopped = false → s.shut (0x11) = false → s.on 0x11 F.crn1_MB_STATUS_BUSY = false →
    exec (.mailboxGo) s = .next (pumpCrown (wakeCrown ((s.wakeClock 0x11).wr 0x11 F.crn1_MB_STATUS_BUSY 1))) ∧
      Only [.regs, .out, .host, .latches, .mtn, .crown] s (pumpCrown (wakeCrown ((s.wakeClock 0x11).wr 0x11 F.crn1_MB_STATUS_BUSY 1)))) ∧
  (∀ (s : State), s.stopped = false → s.shut (0x11) = false → s.on 0x11 F.crn1_MB_STATUS_BUSY = true →
    exec (.mailboxGo) s = .next ((s.wakeClock 0x11).set1 0x11 F.hdr_PAGE_STATUS_WRITE_DROPPED) ∧
      Only [.regs, .out, .host, .latches, .mtn, .crown] s ((s.wakeClock 0x11).set1 0x11 F.hdr_PAGE_STATUS_WRITE_DROPPED)) ∧
  (∀ (tail : BitVec 10) (descs : List (List Byte)) (s : State), s.stopped = false → s.shut (0x12) = false → (descs.length = (tail.toNat % s.crSize + s.crSize - s.rd 0x12 F.crn2_CR_TAIL % s.crSize) % s.crSize) → (descs.all (fun d => d.length == 128) = true) →
    exec (.crownRingDoorbell tail descs) s = .next (pumpCrown (wakeCrown { (s.wakeClock 0x12).wr 0x12 F.crn2_CR_TAIL tail.toNat with crown := { s.crown with posted := s.crown.posted ++ descs } })) ∧
      Only [.regs, .out, .host, .latches, .mtn, .crown] s (pumpCrown (wakeCrown { (s.wakeClock 0x12).wr 0x12 F.crn2_CR_TAIL tail.toNat with crown := { s.crown with posted := s.crown.posted ++ descs } }))) ∧
  (∀ (translation : Bool) (s : State), s.stopped = false → s.on 0x12 F.crn2_CR_CFG_ENABLE = true → s.on 0x12 F.crn2_CR_STATUS_STOPPED = false →
    ∃ t, exec (.crownRingFetchErr translation) s = .next t ∧
      Only [.regs, .out, .host, .latches, .crown] s t ∧
      t.on 0x12 F.crn2_CR_STATUS_STOPPED = true ∧
      t.on 0x12 F.crn2_CR_STATUS_FETCH_ERR = true ∧
      t.crown = { s.crown with posted := s.crown.fetched ++ s.crown.posted, fetched := [] }) ∧
  (∀ (ring : Bool) (d : List Byte) (s : State), s.crownRuns = true → (s.crownFront ring = some d) → ((s.boot.rom && !ring) = false) → cOp d = 0x01 → s.crownStarted ring = false →
    exec (.nop ring) s = .next (crownEnd ring { status := 1 } s) ∧
      Only [.regs, .out, .host, .latches, .crown] s (crownEnd ring { status := 1 } s)) ∧
  (∀ (ring : Bool) (d : List Byte) (s : State), (s.crownFront ring = some d) → cOp d = 0x01 → s.stopped = false → s.boot.rom = true → ring = false →
    exec (.nop ring) s = .next (crownEnd false { status := 1 } s) ∧
      Only [.regs, .out, .host, .latches, .crown] s (crownEnd false { status := 1 } s)) ∧
  (∀ (ring : Bool) (d : List Byte) (s : State), s.crownRuns = true → (s.crownFront ring = some d) → ((s.boot.rom && !ring) = false) → cOp d = 0x02 → s.crownStarted ring = false →
    exec (.getVersions ring) s = .next (crownEnd ring { status := 1, result0 := s.crown.active.version, result1 := s.crown.standby.version } s) ∧
      Only [.regs, .out, .host, .latches, .crown] s (crownEnd ring { status := 1, result0 := s.crown.active.version, result1 := s.crown.standby.version } s)) ∧
  (∀ (ring : Bool) (d : List Byte) (s : State), (s.crownFront ring = some d) → cOp d = 0x02 → s.stopped = false → s.boot.rom = true → ring = false →
    exec (.getVersions ring) s = .next (crownEnd false { status := 1 } s) ∧
      Only [.regs, .out, .host, .latches, .crown] s (crownEnd false { status := 1 } s)) ∧
  (∀ (ring : Bool) (bytes : List Byte) (error : Option Bool) (d : List Byte) (s : State), s.crownRuns = true → (s.crownFront ring = some d) → ((s.boot.rom && !ring) = false) → cOp d = 0x10 → s.crownStarted ring = false →
    exec (.bundleStage ring bytes error) s = .next (stageBundle ring false bytes error d s) ∧
      Only [.regs, .out, .ddr, .poison, .host, .latches, .crown, .boot] s (stageBundle ring false bytes error d s)) ∧
  (∀ (ring : Bool) (bytes : List Byte) (error : Option Bool) (d : List Byte) (s : State), (s.crownFront ring = some d) → cOp d = 0x10 → s.stopped = false → s.boot.rom = true → ring = false →
    exec (.bundleStage ring bytes error) s = .next (stageBundle false true bytes error d s) ∧
      Only [.regs, .out, .ddr, .poison, .host, .latches, .crown, .boot] s (stageBundle false true bytes error d s)) ∧
  (∀ (ring : Bool) (d : List Byte) (s : State), s.crownRuns = true → (s.crownFront ring = some d) → ((s.boot.rom && !ring) = false) → cOp d = 0x11 → s.crownStarted ring = false → (s.staged d).isSome = true →
    exec (.bundleDrop ring) s = .next (crownEnd ring { status := 1 } (showStaged { s with crown := { s.crown with slots := s.crown.slots.del (cHandle d) } })) ∧
      Only [.regs, .out, .host, .latches, .crown] s (crownEnd ring { status := 1 } (showStaged { s with crown := { s.crown with slots := s.crown.slots.del (cHandle d) } })) ∧
      ((crownEnd ring { status := 1 } (showStaged { s with crown := { s.crown with slots := s.crown.slots.del (cHandle d) } }))).crown.slots.at? (cHandle d) = none) ∧
  (∀ (ring : Bool) (d : List Byte) (s : State), (s.crownFront ring = some d) → cOp d = 0x11 → s.stopped = false → s.boot.rom = true → ring = false →
    exec (.bundleDrop ring) s = .next (crownEnd false { status := 6 } s) ∧
      Only [.regs, .out, .host, .latches, .crown] s (crownEnd false { status := 6 } s)) ∧
  (∀ (ring : Bool) (d : List Byte) (s : State), s.crownRuns = true → (s.crownFront ring = some d) → ((s.boot.rom && !ring) = false) → cOp d = 0x12 → s.crownBusy = false →
    exec (.ucodeLoad ring) s = .next (ucodeLoad ring d s) ∧
      Only [.regs, .out, .host, .latches, .ucs, .crown] s (ucodeLoad ring d s)) ∧
  (∀ (ring : Bool) (d : List Byte) (s : State), (s.crownFront ring = some d) → cOp d = 0x12 → s.stopped = false → s.boot.rom = true → ring = false →
    exec (.ucodeLoad ring) s = .next (crownEnd false { status := 6 } s) ∧
      Only [.regs, .out, .host, .latches, .ucs, .crown] s (crownEnd false { status := 6 } s)) ∧
  (∀ (ring : Bool) (d : List Byte) (s : State), s.crownRuns = true → (s.crownFront ring = some d) → ((s.boot.rom && !ring) = false) → cOp d = 0x13 → s.crownBusy = false → (s.staged d).isSome = true → (sectionOf (s.slotBytes (cHandle d)) 1).isSome = true → s.updateState = 0 → s.standbyState = 1 →
    ∃ t, exec (.fwUpdate ring) s = .next t ∧
      Only [.regs, .out, .host, .latches, .crown] s t ∧
      t.updateState = 1 ∧
      t.standbyState = 2 ∧
      t.crown.update = some { ring := some ring, slot := cHandle d, at_ := cAt d, new_ := firmwareOf s.crown.revoked (s.slotBytes (cHandle d)) } ∧
      t.crown.active = s.crown.active) ∧
  (∀ (ring : Bool) (d : List Byte) (s : State), (s.crownFront ring = some d) → cOp d = 0x13 → s.stopped = false → s.boot.rom = true → ring = false →
    exec (.fwUpdate ring) s = .next (crownEnd false { status := 6 } s) ∧
      Only [.regs, .out, .host, .latches, .crown] s (crownEnd false { status := 6 } s)) ∧
  (∀ (ring : Bool) (d : List Byte) (u : Update) (s : State), s.crownRuns = true → (s.crownFront ring = some d) → ((s.boot.rom && !ring) = false) → cOp d = 0x14 → s.crownBusy = false → s.updateState = 4 → (s.crown.update = some u) →
    ∃ t, exec (.fwConfirm ring) s = .next t ∧
      Only [.regs, .out, .host, .latches, .crown] s t ∧
      t.updateState = 5 ∧
      t.crown.update = some { u with confirm := some ring } ∧
      RegsOnly [0x10] s t) ∧
  (∀ (ring : Bool) (d : List Byte) (s : State), (s.crownFront ring = some d) → cOp d = 0x14 → s.stopped = false → s.boot.rom = true → ring = false →
    exec (.fwConfirm ring) s = .next (crownEnd false { status := 6 } s) ∧
      Only [.regs, .out, .host, .latches, .crown] s (crownEnd false { status := 6 } s)) ∧
  (∀ (ring : Bool) (d : List Byte) (s : State), s.crownRuns = true → (s.crownFront ring = some d) → ((s.boot.rom && !ring) = false) → cOp d = 0x15 → s.crownBusy = false → s.updateState = 4 → s.standbyState = 3 →
    ∃ t, exec (.fwRollback ring) s = .next t ∧
      Only [.regs, .out, .host, .latches, .crown] s t ∧
      t.updateState = 0 ∧
      t.standbyState = 1 ∧
      t.crown.active = s.crown.standby ∧
      t.crown.update = none) ∧
  (∀ (ring : Bool) (d : List Byte) (s : State), (s.crownFront ring = some d) → cOp d = 0x15 → s.stopped = false → s.boot.rom = true → ring = false →
    exec (.fwRollback ring) s = .next (crownEnd false { status := 6 } s) ∧
      Only [.regs, .out, .host, .latches, .crown] s (crownEnd false { status := 6 } s)) ∧
  (∀ (ring : Bool) (d : List Byte) (u : Update) (s : State), s.crownRuns = true → (s.crownFront ring = some d) → ((s.boot.rom && !ring) = false) → cOp d = 0x16 → s.crownStarted ring = false → (s.crown.update = some u) → ((s.updateState = 1 ∨ s.updateState = 2)) →
    exec (.fwAbort ring) s = .next (crownEnd ring { status := 1 } (endUpdate 0x0A 0 1 s)) ∧
      Only [.regs, .out, .host, .latches, .crown] s (crownEnd ring { status := 1 } (endUpdate 0x0A 0 1 s)) ∧
      ((crownEnd ring { status := 1 } (endUpdate 0x0A 0 1 s))).updateState = 0 ∧
      ((crownEnd ring { status := 1 } (endUpdate 0x0A 0 1 s))).crown.update = none) ∧
  (∀ (ring : Bool) (d : List Byte) (s : State), (s.crownFront ring = some d) → cOp d = 0x16 → s.stopped = false → s.boot.rom = true → ring = false →
    exec (.fwAbort ring) s = .next (crownEnd false { status := 6 } s) ∧
      Only [.regs, .out, .host, .latches, .crown] s (crownEnd false { status := 6 } s)) ∧
  (∀ (ring : Bool) (d : List Byte) (s : State), s.crownRuns = true → (s.crownFront ring = some d) → ((s.boot.rom && !ring) = false) → cOp d = 0x20 → s.crownBusy = false → s.updateState = 0 →
    ∃ t, exec (.svnCommit ring) s = .next t ∧
      Only [.regs, .out, .host, .latches, .crown] s t ∧
      t.crown.floor = s.crown.active.svn ∧
      t.crown.revoked = (s.crown.revoked ||| putBit s.crown.active.revoke s.crown.active.signer false) ∧
      t.crown.active = s.crown.active) ∧
  (∀ (ring : Bool) (d : List Byte) (s : State), (s.crownFront ring = some d) → cOp d = 0x20 → s.stopped = false → s.boot.rom = true → ring = false →
    exec (.svnCommit ring) s = .next (crownEnd false { status := 6 } s) ∧
      Only [.regs, .out, .host, .latches, .crown] s (crownEnd false { status := 6 } s)) ∧
  (∀ (ring : Bool) (d : List Byte) (s : State), s.crownRuns = true → (s.crownFront ring = some d) → ((s.boot.rom && !ring) = false) → cOp d = 0x30 → s.crownStarted ring = false → (cLength d % 64 = 0) → (cLength d ≤ 0x100000) → s.readable (cArg d) (cLength d) = true → s.hostUp = true →
    exec (.ddrRead ring) s = .next (crownEnd ring { status := 1 } (({ s with free := s.free + 1 } : State).send (.hostWrite (cAddr d) ((List.range (cLength d)).map fun i => if s.poisoned (cArg d + i) 1 then BitVec.ofNat 8 (Config.faultyItem (cArg d + i) s.free) else s.ddrByte (cArg d + i))))) ∧
      Only [.regs, .free, .out, .host, .latches, .crown] s (crownEnd ring { status := 1 } (({ s with free := s.free + 1 } : State).send (.hostWrite (cAddr d) ((List.range (cLength d)).map fun i => if s.poisoned (cArg d + i) 1 then BitVec.ofNat 8 (Config.faultyItem (cArg d + i) s.free) else s.ddrByte (cArg d + i))))) ∧
      ((crownEnd ring { status := 1 } (({ s with free := s.free + 1 } : State).send (.hostWrite (cAddr d) ((List.range (cLength d)).map fun i => if s.poisoned (cArg d + i) 1 then BitVec.ofNat 8 (Config.faultyItem (cArg d + i) s.free) else s.ddrByte (cArg d + i)))))).free = s.free + 1) ∧
  (∀ (ring : Bool) (d : List Byte) (s : State), (s.crownFront ring = some d) → cOp d = 0x30 → s.stopped = false → s.boot.rom = true → ring = false →
    exec (.ddrRead ring) s = .next (crownEnd false { status := 6 } s) ∧
      Only [.regs, .free, .out, .host, .latches, .crown] s (crownEnd false { status := 6 } s))

/-- FW_SELFTEST_DONE of a whole image that passed waits for its instant, of a failed one ends the update; FW_SWITCH_START at its instant switches; FW_SWITCH_COMPLETE hands over to the new image; CONFIRM_TIMEOUT resynchronises unasked; FW_RESYNC_COMPLETE ends the update; CHECKPOINT_WRITE at its period keeps the instant and goes on with what waits; CROWN_PAIR_FAILURE of the standby pair fails it and of the active pair starts a takeover, or raises cause 2 where no standby is left; TAKEOVER_COMPLETE makes the standby pair the active one. -/
def Obligations.FirmwareCommandsComplete : Prop :=
  (∀ (passed : Bool) (u : Update) (s : State), s.stopped = false → (s.crown.update = some u) → s.updateState = 1 →
    exec (.fwSelftestDone passed) s = .next ((if (passed && s.slotWhole u.slot) = true then setUpdate 2 s else endUpdate 3 0x10 1 s)) ∧
      Only [.regs, .out, .host, .latches, .crown] s ((if (passed && s.slotWhole u.slot) = true then setUpdate 2 s else endUpdate 3 0x10 1 s)) ∧
      (passed = false → (((if (passed && s.slotWhole u.slot) = true then setUpdate 2 s else endUpdate 3 0x10 1 s))).updateState = 0)) ∧
  (∀ (u : Update) (s : State), s.stopped = false → (s.crown.update = some u) → s.updateState = 1 → s.slotWhole u.slot = true →
    ∃ t, exec (.fwSelftestDone true) s = .next t ∧
      Only [.regs, .out, .host, .latches, .crown] s t ∧
      t.updateState = 2 ∧
      t.crown = s.crown ∧
      RegsOnly [0x10] s t) ∧
  (∀ (u : Update) (s : State), s.stopped = false → (s.crown.update = some u) → s.updateState = 1 →
    exec (.fwSelftestDone false) s = .next (endUpdate 3 0x10 1 s) ∧
      Only [.regs, .out, .host, .latches, .crown] s (endUpdate 3 0x10 1 s) ∧
      ((endUpdate 3 0x10 1 s)).updateState = 0 ∧
      ((endUpdate 3 0x10 1 s)).crown.update = none) ∧
  (∀ (u : Update) (s : State), s.stopped = false → (s.crown.update = some u) → s.updateState = 2 → (u.at_ ≤ s.now) → s.epochState = 0 →
    ∃ t, exec (.fwSwitchStart) s = .next t ∧
      Only [.regs, .out, .host, .crown] s t ∧
      t.updateState = 3 ∧
      t.crown.update = some { u with late := decide (u.at_ ≠ 0 ∧ u.at_ / nsUnits < s.nowNs) } ∧
      RegsOnly [0x10] s t) ∧
  (∀ (u : Update) (s : State), s.stopped = false → (s.crown.update = some u) → s.updateState = 3 →
    exec (.fwSwitchComplete) s = .next (doeServe (handOver u s)) ∧
      Only [.regs, .free, .out, .host, .latches, .crown] s (doeServe (handOver u s)) ∧
      ((doeServe (handOver u s))).updateState = 4 ∧
      ((doeServe (handOver u s))).crown.active = u.new_ ∧
      ((doeServe (handOver u s))).crown.standby = s.crown.active) ∧
  (∀ (u : Update) (s : State), s.stopped = false → (s.crown.update = some u) → s.updateState = 4 → (u.since + ns (s.rd 0x10 F.crn0_CONFIRM_S * 1000000000) ≤ s.mono) →
    ∃ t, exec (.confirmTimeout) s = .next t ∧
      Only [.regs, .out, .host, .crown] s t ∧
      t.updateState = 5 ∧
      t.crown.update = some { u with confirm := none } ∧
      RegsOnly [0x10] s t) ∧
  (∀ (missed : Fin 9) (u : Update) (s : State), s.stopped = false → (s.crown.update = some u) → s.updateState = 5 →
    ∃ t, exec (.fwResyncComplete missed) s = .next t ∧
      Only [.regs, .free, .out, .host, .latches, .hat, .ldg, .crown] s t ∧
      t.updateState = 0 ∧
      t.crown.update = none ∧
      t.standbyState = (if s.standbyState = 0 then 0 else 1)) ∧
  (∀ (s : State), s.stopped = false → s.crownAwake = true → s.dueAt 10 1000000 s.nowNs = true →
    exec (.checkpointWrite) s = .next (doeServe (endLoad (pumpCrown { s with ticks := { s.ticks with last := s.ticks.last.put s.ticks.base 10 s.nowNs }, crown := { s.crown with checkpoint := s.mono } }))) ∧
      Only [.regs, .free, .out, .host, .latches, .ticks, .crown] s (doeServe (endLoad (pumpCrown { s with ticks := { s.ticks with last := s.ticks.last.put s.ticks.base 10 s.nowNs }, crown := { s.crown with checkpoint := s.mono } }))) ∧
      ((doeServe (endLoad (pumpCrown { s with ticks := { s.ticks with last := s.ticks.last.put s.ticks.base 10 s.nowNs }, crown := { s.crown with checkpoint := s.mono } })))).crown.checkpoint = s.mono) ∧
  (∀ (standby : Bool) (kind : Fin 3) (after : Bool) (s : State), s.stopped = false → s.boot.done.contains 7 = true → s.crown.takeover = false → s.updateState = 3 →
    exec (.crownPairFailure standby kind after) s = .next ((if after = true then (if standby = true then setStandby 0 ((if standby = true then s else match kind.val with | 0 => s.raise 0x10 0 | 1 => s.raise 0x10 3 | _ => s).raise 0x10 1) else setStandby 0 (if standby = true then s else match kind.val with | 0 => s.raise 0x10 0 | 1 => s.raise 0x10 3 | _ => s)) else abandonSwitch standby (if standby = true then s else match kind.val with | 0 => s.raise 0x10 0 | 1 => s.raise 0x10 3 | _ => s))) ∧
      Only [.regs, .out, .host, .latches, .crown] s ((if after = true then (if standby = true then setStandby 0 ((if standby = true then s else match kind.val with | 0 => s.raise 0x10 0 | 1 => s.raise 0x10 3 | _ => s).raise 0x10 1) else setStandby 0 (if standby = true then s else match kind.val with | 0 => s.raise 0x10 0 | 1 => s.raise 0x10 3 | _ => s)) else abandonSwitch standby (if standby = true then s else match kind.val with | 0 => s.raise 0x10 0 | 1 => s.raise 0x10 3 | _ => s)))) ∧
  (∀ (standby : Bool) (kind : Fin 3) (after : Bool) (s : State), s.stopped = false → s.boot.done.contains 7 = true → s.crown.takeover = false → (s.updateState ≠ 3) → standby = true →
    exec (.crownPairFailure standby kind after) s = .next ((if s.updateState = 1 ∨ s.updateState = 2 then endUpdate 0x0A 0 0 s else setStandby 0 s).raise 0x10 1) ∧
      Only [.regs, .out, .host, .latches, .crown] s ((if s.updateState = 1 ∨ s.updateState = 2 then endUpdate 0x0A 0 0 s else setStandby 0 s).raise 0x10 1)) ∧
  (∀ (standby : Bool) (kind : Fin 3) (after : Bool) (s : State), s.stopped = false → s.boot.done.contains 7 = true → s.crown.takeover = false → (s.updateState ≠ 3) → standby = false → ((s.standbyState = 0 ∨ (s.standbyState = 2 ∧ s.updateState ≠ 1 ∧ s.updateState ≠ 2))) →
    exec (.crownPairFailure standby kind after) s = .next ((if standby = true then s else match kind.val with | 0 => s.raise 0x10 0 | 1 => s.raise 0x10 3 | _ => s).raise 0x10 2) ∧
      Only [.regs, .out, .host, .latches, .crown] s ((if standby = true then s else match kind.val with | 0 => s.raise 0x10 0 | 1 => s.raise 0x10 3 | _ => s).raise 0x10 2) ∧
      (((if standby = true then s else match kind.val with | 0 => s.raise 0x10 0 | 1 => s.raise 0x10 3 | _ => s).raise 0x10 2)).crown = s.crown) ∧
  (∀ (standby : Bool) (kind : Fin 3) (after : Bool) (s : State), s.stopped = false → s.boot.done.contains 7 = true → s.crown.takeover = false → (s.updateState ≠ 3) → standby = false → (¬(s.standbyState = 0 ∨ (s.standbyState = 2 ∧ s.updateState ≠ 1 ∧ s.updateState ≠ 2))) →
    exec (.crownPairFailure standby kind after) s = .next ({ (if standby = true then s else match kind.val with | 0 => s.raise 0x10 0 | 1 => s.raise 0x10 3 | _ => s) with crown := { s.crown with takeover := true, interrupted := if s.crownRuns = true then [false, true].filter s.stagesBundle else [] } }) ∧
      Only [.regs, .out, .host, .latches, .crown] s ({ (if standby = true then s else match kind.val with | 0 => s.raise 0x10 0 | 1 => s.raise 0x10 3 | _ => s) with crown := { s.crown with takeover := true, interrupted := if s.crownRuns = true then [false, true].filter s.stagesBundle else [] } }) ∧
      (({ (if standby = true then s else match kind.val with | 0 => s.raise 0x10 0 | 1 => s.raise 0x10 3 | _ => s) with crown := { s.crown with takeover := true, interrupted := if s.crownRuns = true then [false, true].filter s.stagesBundle else [] } })).crown.takeover = true) ∧
  (∀ (kind : Fin 3) (after : Bool) (s : State), s.stopped = false → s.boot.done.contains 7 = true → s.crown.takeover = false → s.updateState = 0 →
    exec (.crownPairFailure true kind after) s = .next ((setStandby 0 s).raise 0x10 1) ∧
      Only [.regs, .out, .host, .latches, .crown] s ((setStandby 0 s).raise 0x10 1) ∧
      (((setStandby 0 s).raise 0x10 1)).standbyState = 0) ∧
  (∀ (after : Bool) (s : State), s.stopped = false → s.boot.done.contains 7 = true → s.crown.takeover = false → s.updateState = 0 → s.standbyState = 1 →
    ∃ t, exec (.crownPairFailure false 2 after) s = .next t ∧
      Only [.regs, .out, .host, .latches, .crown] s t ∧
      t.crown = { s.crown with takeover := true, interrupted := if s.crownRuns = true then [false, true].filter s.stagesBundle else [] } ∧
      RegsOnly [] s t) ∧
  (∀ (after : Bool) (s : State), s.stopped = false → s.boot.done.contains 7 = true → s.crown.takeover = false → s.updateState = 0 → s.standbyState = 0 →
    exec (.crownPairFailure false 2 after) s = .next (s.raise 0x10 2) ∧
      Only [.regs, .out, .host, .latches, .crown] s (s.raise 0x10 2) ∧
      ((s.raise 0x10 2)).crown.takeover = false) ∧
  (∀ (s : State), s.stopped = false → s.crown.takeover = true →
    ∃ t, exec (.takeoverComplete) s = .next t ∧
      Only [.regs, .free, .out, .host, .latches, .ucs, .tbl, .vsr, .crown] s t ∧
      t.crown.takeover = false ∧
      t.crown.active = (if s.updateState = 4 then s.crown.standby else s.crown.active) ∧
      t.standbyState = 0)

/-- With no request waiting, no DOE error and no reset pending, an awake Crown answers DOE_DISCOVERY, GET_VERSION, GET_CAPABILITIES, NEGOTIATE_ALGORITHMS and GET_DIGESTS at once with the values of the rules, GET_CERTIFICATE of slot 0 with the bytes asked for of the chain and of another slot with an error, CHALLENGE of slot 0 with a fresh nonce and a signature over it, GET_MEASUREMENTS of an index 1 to 8 with that measurement, and any other request with an error; one that is not awake keeps the request; DOE_TIMEOUT after a second drops it and sets the error. -/
def Obligations.DoeRequestsAreAnswered : Prop :=
  (∀ (index : Fin 2) (s : State), s.crown.doe = none → s.crown.doeError = false → s.boot.quiescing = false → s.crownAwake = true →
    exec (.doeDiscovery index) s = .next (s.send (.reply "DISCOVERY" [1, index.val, if index.val = 0 then 1 else 0])) ∧
      Only [.free, .out, .crown] s (s.send (.reply "DISCOVERY" [1, index.val, if index.val = 0 then 1 else 0]))) ∧
  (∀ (index : Fin 2) (s : State), s.crown.doe = none → s.crown.doeError = false → s.boot.quiescing = false → s.crownAwake = false →
    ∃ t, exec (.doeDiscovery index) s = .next t ∧
      Only [.free, .out, .crown] s t ∧
      t.crown = { s.crown with doe := some ⟨s.mono, "DISCOVERY", [index.val], []⟩ } ∧
      t.out = s.out ∧
      t.free = s.free) ∧
  (∀ (index : Fin 2) (s : State), ((s.crown.doe.isSome || s.crown.doeError || s.boot.quiescing) = true) →
    exec (.doeDiscovery index) s = .next (s) ∧
      Only [.free, .out, .crown] s (s)) ∧
  (∀ (s : State), s.crown.doe = none → s.crown.doeError = false → s.boot.quiescing = false → s.crownAwake = true →
    exec (.getVersion) s = .next (s.send (.reply "VERSION" [0x1200])) ∧
      Only [.free, .out, .crown] s (s.send (.reply "VERSION" [0x1200]))) ∧
  (∀ (s : State), s.crown.doe = none → s.crown.doeError = false → s.boot.quiescing = false → s.crownAwake = false →
    ∃ t, exec (.getVersion) s = .next t ∧
      Only [.free, .out, .crown] s t ∧
      t.crown = { s.crown with doe := some ⟨s.mono, "GET_VERSION", [], []⟩ } ∧
      t.out = s.out ∧
      t.free = s.free) ∧
  (∀ (s : State), ((s.crown.doe.isSome || s.crown.doeError || s.boot.quiescing) = true) →
    exec (.getVersion) s = .next (s) ∧
      Only [.free, .out, .crown] s (s)) ∧
  (∀ (s : State), s.crown.doe = none → s.crown.doeError = false → s.boot.quiescing = false → s.crownAwake = true →
    exec (.getCapabilities) s = .next (s.send (.reply "CAPABILITIES" [0x16])) ∧
      Only [.free, .out, .crown] s (s.send (.reply "CAPABILITIES" [0x16]))) ∧
  (∀ (s : State), s.crown.doe = none → s.crown.doeError = false → s.boot.quiescing = false → s.crownAwake = false →
    ∃ t, exec (.getCapabilities) s = .next t ∧
      Only [.free, .out, .crown] s t ∧
      t.crown = { s.crown with doe := some ⟨s.mono, "GET_CAPABILITIES", [], []⟩ } ∧
      t.out = s.out ∧
      t.free = s.free) ∧
  (∀ (s : State), ((s.crown.doe.isSome || s.crown.doeError || s.boot.quiescing) = true) →
    exec (.getCapabilities) s = .next (s) ∧
      Only [.free, .out, .crown] s (s)) ∧
  (∀ (s : State), s.crown.doe = none → s.crown.doeError = false → s.boot.quiescing = false → s.crownAwake = true →
    exec (.negotiateAlgorithms) s = .next (s.send (.reply "ALGORITHMS" [1, 4, 0x80, 2])) ∧
      Only [.free, .out, .crown] s (s.send (.reply "ALGORITHMS" [1, 4, 0x80, 2]))) ∧
  (∀ (s : State), s.crown.doe = none → s.crown.doeError = false → s.boot.quiescing = false → s.crownAwake = false →
    ∃ t, exec (.negotiateAlgorithms) s = .next t ∧
      Only [.free, .out, .crown] s t ∧
      t.crown = { s.crown with doe := some ⟨s.mono, "NEGOTIATE_ALGORITHMS", [], []⟩ } ∧
      t.out = s.out ∧
      t.free = s.free) ∧
  (∀ (s : State), ((s.crown.doe.isSome || s.crown.doeError || s.boot.quiescing) = true) →
    exec (.negotiateAlgorithms) s = .next (s) ∧
      Only [.free, .out, .crown] s (s)) ∧
  (∀ (s : State), s.crown.doe = none → s.crown.doeError = false → s.boot.quiescing = false → s.crownAwake = true →
    exec (.getDigests) s = .next (s.send (.reply "DIGESTS" [1, beVal (sha384 s.crown.chain)])) ∧
      Only [.free, .out, .crown] s (s.send (.reply "DIGESTS" [1, beVal (sha384 s.crown.chain)]))) ∧
  (∀ (s : State), s.crown.doe = none → s.crown.doeError = false → s.boot.quiescing = false → s.crownAwake = false →
    ∃ t, exec (.getDigests) s = .next t ∧
      Only [.free, .out, .crown] s t ∧
      t.crown = { s.crown with doe := some ⟨s.mono, "GET_DIGESTS", [], []⟩ } ∧
      t.out = s.out ∧
      t.free = s.free) ∧
  (∀ (s : State), ((s.crown.doe.isSome || s.crown.doeError || s.boot.quiescing) = true) →
    exec (.getDigests) s = .next (s) ∧
      Only [.free, .out, .crown] s (s)) ∧
  (∀ (slot : Fin 8) (offset length : BitVec 16) (s : State), s.crown.doe = none → s.crown.doeError = false → s.boot.quiescing = false → s.crownAwake = true →
    exec (.getCertificate slot offset length) s = .next (s.send (if slot.val = 0 then .reply "CERTIFICATE" (0 :: (((s.crown.chain.drop offset.toNat).take length.toNat).map BitVec.toNat)) else .reply "ERROR" [1])) ∧
      Only [.free, .out, .crown] s (s.send (if slot.val = 0 then .reply "CERTIFICATE" (0 :: (((s.crown.chain.drop offset.toNat).take length.toNat).map BitVec.toNat)) else .reply "ERROR" [1]))) ∧
  (∀ (slot : Fin 8) (offset length : BitVec 16) (s : State), s.crown.doe = none → s.crown.doeError = false → s.boot.quiescing = false → s.crownAwake = false →
    ∃ t, exec (.getCertificate slot offset length) s = .next t ∧
      Only [.free, .out, .crown] s t ∧
      t.crown = { s.crown with doe := some ⟨s.mono, "GET_CERTIFICATE", [slot.val, offset.toNat, length.toNat], []⟩ } ∧
      t.out = s.out ∧
      t.free = s.free) ∧
  (∀ (slot : Fin 8) (offset length : BitVec 16) (s : State), ((s.crown.doe.isSome || s.crown.doeError || s.boot.quiescing) = true) →
    exec (.getCertificate slot offset length) s = .next (s) ∧
      Only [.free, .out, .crown] s (s)) ∧
  (∀ (slot : Fin 8) (nonce : List Byte) (s : State), s.crown.doe = none → s.crown.doeError = false → s.boot.quiescing = false → s.crownAwake = true →
    exec (.challenge slot nonce) s = .next ((if slot.val ≠ 0 then s.send (.reply "ERROR" [1]) else ({ s with free := s.free + 1 } : State).send (.reply "CHALLENGE_AUTH" [0, beVal (sha384 s.crown.chain), (Config.drbg s.free).toNat, s.spdmSignature (nonce ++ sha384 s.crown.chain ++ leBytes 8 (Config.drbg s.free).toNat)]))) ∧
      Only [.free, .out, .crown] s ((if slot.val ≠ 0 then s.send (.reply "ERROR" [1]) else ({ s with free := s.free + 1 } : State).send (.reply "CHALLENGE_AUTH" [0, beVal (sha384 s.crown.chain), (Config.drbg s.free).toNat, s.spdmSignature (nonce ++ sha384 s.crown.chain ++ leBytes 8 (Config.drbg s.free).toNat)])))) ∧
  (∀ (nonce : List Byte) (s : State), s.crown.doe = none → s.crown.doeError = false → s.boot.quiescing = false → s.crownAwake = true →
    ∃ t, exec (.challenge 0 nonce) s = .next t ∧
      Only [.free, .out, .crown] s t ∧
      t.free = s.free + 1 ∧
      t.out = Output.reply "CHALLENGE_AUTH" [0, beVal (sha384 s.crown.chain), (Config.drbg s.free).toNat, s.spdmSignature (nonce ++ sha384 s.crown.chain ++ leBytes 8 (Config.drbg s.free).toNat)] :: s.out) ∧
  (∀ (slot : Fin 8) (nonce : List Byte) (s : State), s.crown.doe = none → s.crown.doeError = false → s.boot.quiescing = false → s.crownAwake = false →
    ∃ t, exec (.challenge slot nonce) s = .next t ∧
      Only [.free, .out, .crown] s t ∧
      t.crown = { s.crown with doe := some ⟨s.mono, "CHALLENGE", [slot.val], nonce⟩ } ∧
      t.out = s.out ∧
      t.free = s.free) ∧
  (∀ (slot : Fin 8) (nonce : List Byte) (s : State), ((s.crown.doe.isSome || s.crown.doeError || s.boot.quiescing) = true) →
    exec (.challenge slot nonce) s = .next (s) ∧
      Only [.free, .out, .crown] s (s)) ∧
  (∀ (index : BitVec 8) (signed : Bool) (nonce : List Byte) (s : State), s.crown.doe = none → s.crown.doeError = false → s.boot.quiescing = false → s.crownAwake = true → index.toNat = 0 →
    exec (.getMeasurements index signed nonce) s = .next (s.send (.reply "MEASUREMENTS" [8])) ∧
      Only [.free, .out, .crown] s (s.send (.reply "MEASUREMENTS" [8]))) ∧
  (∀ (index : BitVec 8) (signed : Bool) (nonce : List Byte) (s : State), s.crown.doe = none → s.crown.doeError = false → s.boot.quiescing = false → s.crownAwake = true → (8 < index.toNat) → (index.toNat ≠ 255) →
    exec (.getMeasurements index signed nonce) s = .next (s.send (.reply "ERROR" [1])) ∧
      Only [.free, .out, .crown] s (s.send (.reply "ERROR" [1]))) ∧
  (∀ (index : BitVec 8) (signed : Bool) (nonce : List Byte) (s : State), s.crown.doe = none → s.crown.doeError = false → s.boot.quiescing = false → s.crownAwake = true → (index.toNat ≠ 0) → ((index.toNat ≤ 8 ∨ index.toNat = 255)) → signed = false →
    exec (.getMeasurements index signed nonce) s = .next (s.send (.reply "MEASUREMENTS" ((if index.toNat = 255 then [1, 2, 3, 4, 5, 6, 7, 8] else [index.toNat]).flatMap fun k => [k, beVal (s.measurement k)]))) ∧
      Only [.free, .out, .crown] s (s.send (.reply "MEASUREMENTS" ((if index.toNat = 255 then [1, 2, 3, 4, 5, 6, 7, 8] else [index.toNat]).flatMap fun k => [k, beVal (s.measurement k)])))) ∧
  (∀ (index : BitVec 8) (signed : Bool) (nonce : List Byte) (s : State), s.crown.doe = none → s.crown.doeError = false → s.boot.quiescing = false → s.crownAwake = true → (index.toNat ≠ 0) → ((index.toNat ≤ 8 ∨ index.toNat = 255)) → signed = true →
    exec (.getMeasurements index signed nonce) s = .next (({ s with free := s.free + 1 } : State).send (.reply "MEASUREMENTS" (((if index.toNat = 255 then [1, 2, 3, 4, 5, 6, 7, 8] else [index.toNat]).flatMap fun k => [k, beVal (s.measurement k)]) ++ [(Config.drbg s.free).toNat, s.spdmSignature (nonce ++ ((if index.toNat = 255 then [1, 2, 3, 4, 5, 6, 7, 8] else [index.toNat]).flatMap s.measurement) ++ leBytes 8 (Config.drbg s.free).toNat)]))) ∧
      Only [.free, .out, .crown] s (({ s with free := s.free + 1 } : State).send (.reply "MEASUREMENTS" (((if index.toNat = 255 then [1, 2, 3, 4, 5, 6, 7, 8] else [index.toNat]).flatMap fun k => [k, beVal (s.measurement k)]) ++ [(Config.drbg s.free).toNat, s.spdmSignature (nonce ++ ((if index.toNat = 255 then [1, 2, 3, 4, 5, 6, 7, 8] else [index.toNat]).flatMap s.measurement) ++ leBytes 8 (Config.drbg s.free).toNat)])))) ∧
  (∀ (index : BitVec 8) (nonce : List Byte) (s : State), s.crown.doe = none → s.crown.doeError = false → s.boot.quiescing = false → s.crownAwake = true → (1 ≤ index.toNat) → (index.toNat ≤ 8) →
    exec (.getMeasurements index false nonce) s = .next (s.send (.reply "MEASUREMENTS" [index.toNat, beVal (s.measurement index.toNat)])) ∧
      Only [.free, .out, .crown] s (s.send (.reply "MEASUREMENTS" [index.toNat, beVal (s.measurement index.toNat)]))) ∧
  (∀ (sig : Bool) (nonce : List Byte) (s : State), s.crown.doe = none → s.crown.doeError = false → s.boot.quiescing = false → s.crownAwake = true →
    exec (.getMeasurements 0 sig nonce) s = .next (s.send (.reply "MEASUREMENTS" [8])) ∧
      Only [.free, .out, .crown] s (s.send (.reply "MEASUREMENTS" [8]))) ∧
  (∀ (index : BitVec 8) (signed : Bool) (nonce : List Byte) (s : State), s.crown.doe = none → s.crown.doeError = false → s.boot.quiescing = false → s.crownAwake = false →
    ∃ t, exec (.getMeasurements index signed nonce) s = .next t ∧
      Only [.free, .out, .crown] s t ∧
      t.crown = { s.crown with doe := some ⟨s.mono, "GET_MEASUREMENTS", [index.toNat, signed.toNat], nonce⟩ } ∧
      t.out = s.out ∧
      t.free = s.free) ∧
  (∀ (index : BitVec 8) (signed : Bool) (nonce : List Byte) (s : State), ((s.crown.doe.isSome || s.crown.doeError || s.boot.quiescing) = true) →
    exec (.getMeasurements index signed nonce) s = .next (s) ∧
      Only [.free, .out, .crown] s (s)) ∧
  (∀ (s : State), s.crown.doe = none → s.crown.doeError = false → s.boot.quiescing = false → s.crownAwake = true →
    exec (.spdmUnsupportedRequest) s = .next (s.send (.reply "ERROR" [7])) ∧
      Only [.free, .out, .crown] s (s.send (.reply "ERROR" [7]))) ∧
  (∀ (s : State), s.crown.doe = none → s.crown.doeError = false → s.boot.quiescing = false → s.crownAwake = false →
    ∃ t, exec (.spdmUnsupportedRequest) s = .next t ∧
      Only [.free, .out, .crown] s t ∧
      t.crown = { s.crown with doe := some ⟨s.mono, "OTHER", [], []⟩ } ∧
      t.out = s.out ∧
      t.free = s.free) ∧
  (∀ (s : State), ((s.crown.doe.isSome || s.crown.doeError || s.boot.quiescing) = true) →
    exec (.spdmUnsupportedRequest) s = .next (s) ∧
      Only [.free, .out, .crown] s (s)) ∧
  (∀ (w : DoeWait) (s : State), (s.crown.doe = some w) → (w.since + ns 1000000000 ≤ s.mono) →
    ∃ t, exec (.doeTimeout) s = .next t ∧
      Only [.crown] s t ∧
      t.crown = { s.crown with doe := none, doeError := true } ∧
      t.out = s.out)

/-- RETX_GIB_WRITE of a size that fits, with nothing armed or enabled in the regions, lays them out anew, and otherwise is dropped; DDR_TRAINING_COMPLETE of a channel with others still training marks it trained, and a failed quick training starts a full one; MARGIN_CHECK shows both margins; DDR_ECC_ERROR counts a corrected error, and poisons the line of an uncorrected one; DDR_SCRUB_VISIT rewrites a line of Crown's share of the second GiB without its poison and no other; DRAM_TEMP_READ shows the temperature and the double refresh above 85; SELF_REFRESH_ENTRY keeps whether DDR5 was available. -/
def Obligations.DramCommandsComplete : Prop :=
  (∀ (data : Word) (s : State), s.stopped = false → s.shut (0x340) = false → (data.toNat % 2 ^ 11 + 3 ≤ s.rd 0x340 F.ddr0_DDR_STATUS_CAPACITY_GIB) → s.sessionArmed = false → s.on 0x70 F.ldg0_LDG_CFG_ENABLE = false → s.ringEnabled = false → s.snapBusy = false →
    exec (.retxGibWrite data) s = .next ((refreshRegions ((s.wakeClock 0x340).wr 0x340 F.ddr0_LAYOUT_CFG_RETX_GIB data.toNat)).vector 296) ∧
      Only [.regs, .out, .host, .latches, .mtn] s ((refreshRegions ((s.wakeClock 0x340).wr 0x340 F.ddr0_LAYOUT_CFG_RETX_GIB data.toNat)).vector 296) ∧
      (((refreshRegions ((s.wakeClock 0x340).wr 0x340 F.ddr0_LAYOUT_CFG_RETX_GIB data.toNat)).vector 296)).rd 0x340 F.ddr0_LAYOUT_CFG_RETX_GIB = data.toNat % 2 ^ 11) ∧
  (∀ (data : Word) (s : State), s.stopped = false → s.shut (0x340) = false → ((decide (data.toNat % 2 ^ 11 + 3 ≤ s.rd 0x340 F.ddr0_DDR_STATUS_CAPACITY_GIB) && !s.sessionArmed && !s.on 0x70 F.ldg0_LDG_CFG_ENABLE && !s.ringEnabled && !s.snapBusy) = false) →
    exec (.retxGibWrite data) s = .next (((s.wakeClock 0x340).set1 0x340 F.hdr_PAGE_STATUS_WRITE_DROPPED).raise 0x340 1) ∧
      Only [.regs, .out, .host, .latches, .mtn] s (((s.wakeClock 0x340).set1 0x340 F.hdr_PAGE_STATUS_WRITE_DROPPED).raise 0x340 1) ∧
      ((((s.wakeClock 0x340).set1 0x340 F.hdr_PAGE_STATUS_WRITE_DROPPED).raise 0x340 1)).rd 0x340 F.ddr0_LAYOUT_CFG_RETX_GIB = s.rd 0x340 F.ddr0_LAYOUT_CFG_RETX_GIB) ∧
  (∀ (channel : Fin 8) (ok : Bool) (s : State), s.dram.training.contains channel.val = true →
    exec (.ddrTrainingComplete channel ok) s = .next (trainingEnds channel.val ok s) ∧
      Only [.regs, .out, .ddr, .poison, .host, .latches, .tbl, .mtn, .crown, .dram] s (trainingEnds channel.val ok s) ∧
      (ok = true → ((trainingEnds channel.val ok s)).dram.full = s.dram.full)) ∧
  (∀ (channel : Fin 8) (s : State), s.dram.training.contains channel.val = true → (s.dram.training.filter (fun c => c != channel.val) ≠ []) →
    ∃ t, exec (.ddrTrainingComplete channel true) s = .next t ∧
      Only [.regs, .out, .ddr, .poison, .host, .latches, .tbl, .mtn, .crown, .dram] s t ∧
      t.rd (ddrPage channel.val) F.ddrc_CH_STATUS_TRAINED = 1 ∧
      t.dram.trained.contains channel.val = true ∧
      t.dram.training = s.dram.training.filter (fun c => c != channel.val) ∧
      RegsOnly [ddrPage channel.val] s t) ∧
  (∀ (channel : Fin 8) (s : State), s.dram.training.contains channel.val = true → s.dram.full = false →
    ∃ t, exec (.ddrTrainingComplete channel false) s = .next t ∧
      Only [.regs, .out, .ddr, .poison, .host, .latches, .tbl, .mtn, .crown, .dram] s t ∧
      t.dram.full = true ∧
      t.dram.trained = [] ∧
      t.dram.intact = false ∧
      t.dram.used = 0 ∧
      t.dram.training = (List.range 8).filter s.qualifies ∧
      RegsOnly [] s t) ∧
  (∀ (channel : Fin 8) (r w : BitVec 8) (s : State), s.stopped = false → s.on (ddrPage channel.val) F.ddrc_CH_STATUS_IN_USE = true → ((s.dom (196 + channel.val)).state = 0) → s.marginDue channel.val = true →
    ∃ t, exec (.marginCheck channel r w) s = .next t ∧
      Only [.regs, .out, .host, .latches, .ticks] s t ∧
      t.rd (ddrPage channel.val) F.ddrc_MARGIN_READ_MARGIN = r.toNat ∧
      t.rd (ddrPage channel.val) F.ddrc_MARGIN_WRITE_MARGIN = w.toNat) ∧
  (∀ (address : BitVec 41) (corrected : Bool) (s : State), s.inDdr address.toNat = true → s.dram.selfRefresh = false →
    exec (.ddrEccError address corrected) s = .next ((if corrected = true then (s.bump (ddrPage (s.channelOf address.toNat)) F.ddrc_ECC_COUNTS_CORRECTED).raise (ddrPage (s.channelOf address.toNat)) 0 else ((({ s with poison := s.poison.put false (address.toNat / 64) true } : State).wr (ddrPage (s.channelOf address.toNat)) F.ddrc_ERR_ADDR (address.toNat / 64 * 64)).bump (ddrPage (s.channelOf address.toNat)) F.ddrc_ECC_COUNTS_UNCORRECTABLE).raise (ddrPage (s.channelOf address.toNat)) 1)) ∧
      Only [.regs, .out, .poison, .host, .latches] s ((if corrected = true then (s.bump (ddrPage (s.channelOf address.toNat)) F.ddrc_ECC_COUNTS_CORRECTED).raise (ddrPage (s.channelOf address.toNat)) 0 else ((({ s with poison := s.poison.put false (address.toNat / 64) true } : State).wr (ddrPage (s.channelOf address.toNat)) F.ddrc_ERR_ADDR (address.toNat / 64 * 64)).bump (ddrPage (s.channelOf address.toNat)) F.ddrc_ECC_COUNTS_UNCORRECTABLE).raise (ddrPage (s.channelOf address.toNat)) 1)) ∧
      (((if corrected = true then (s.bump (ddrPage (s.channelOf address.toNat)) F.ddrc_ECC_COUNTS_CORRECTED).raise (ddrPage (s.channelOf address.toNat)) 0 else ((({ s with poison := s.poison.put false (address.toNat / 64) true } : State).wr (ddrPage (s.channelOf address.toNat)) F.ddrc_ERR_ADDR (address.toNat / 64 * 64)).bump (ddrPage (s.channelOf address.toNat)) F.ddrc_ECC_COUNTS_UNCORRECTABLE).raise (ddrPage (s.channelOf address.toNat)) 1))).ddr = s.ddr) ∧
  (∀ (address : BitVec 41) (s : State), s.inDdr address.toNat = true → s.dram.selfRefresh = false →
    exec (.ddrEccError address true) s = .next ((s.bump (ddrPage (s.channelOf address.toNat)) F.ddrc_ECC_COUNTS_CORRECTED).raise (ddrPage (s.channelOf address.toNat)) 0) ∧
      Only [.regs, .out, .poison, .host, .latches] s ((s.bump (ddrPage (s.channelOf address.toNat)) F.ddrc_ECC_COUNTS_CORRECTED).raise (ddrPage (s.channelOf address.toNat)) 0) ∧
      (((s.bump (ddrPage (s.channelOf address.toNat)) F.ddrc_ECC_COUNTS_CORRECTED).raise (ddrPage (s.channelOf address.toNat)) 0)).poison = s.poison) ∧
  (∀ (address : BitVec 41) (s : State), s.inDdr address.toNat = true → s.dram.selfRefresh = false →
    ∃ t, exec (.ddrEccError address false) s = .next t ∧
      Only [.regs, .out, .poison, .host, .latches] s t ∧
      t.poison.val false (address.toNat / 64) = true ∧
      (∀ l, l ≠ address.toNat / 64 → t.poison.val false l = s.poison.val false l) ∧
      t.ddr = s.ddr ∧
      t.rd (ddrPage (s.channelOf address.toNat)) F.ddrc_ERR_ADDR = address.toNat / 64 * 64 % 2 ^ F.ddrc_ERR_ADDR.w) ∧
  (∀ (address : BitVec 41) (s : State), s.stopped = false → s.on 0x340 F.ddr0_SCRUB_CFG_ENABLE = true → s.inDdr address.toNat = true →
    ∃ t, exec (.ddrScrubVisit address) s = .next t ∧
      Only [.poison] s t ∧
      t.poison.val false (address.toNat / 64) = (if 2 ^ 30 ≤ address.toNat ∧ address.toNat < 2 ^ 31 then false else s.poison.val false (address.toNat / 64)) ∧
      (∀ l, l ≠ address.toNat / 64 → t.poison.val false l = s.poison.val false l) ∧
      RegsOnly [] s t) ∧
  (∀ (channel : Fin 8) (temp : Option (BitVec 8)) (s : State), s.stopped = false → s.on (ddrPage channel.val) F.ddrc_CH_STATUS_POPULATED = true → (s.dueAt (0x21000 + channel.val) 100000000 s.nowNs = true) →
    exec (.dramTempRead channel temp) s = .next (dramTemp channel.val (temp.map BitVec.toInt) { s with ticks := { s.ticks with last := s.ticks.last.put s.ticks.base (0x21000 + channel.val) s.nowNs } }) ∧
      Only [.regs, .out, .host, .latches, .ticks] s (dramTemp channel.val (temp.map BitVec.toInt) { s with ticks := { s.ticks with last := s.ticks.last.put s.ticks.base (0x21000 + channel.val) s.nowNs } }) ∧
      (temp = none → ((dramTemp channel.val (temp.map BitVec.toInt) { s with ticks := { s.ticks with last := s.ticks.last.put s.ticks.base (0x21000 + channel.val) s.nowNs } })).rd (ddrPage channel.val) F.ddrc_TEMP_DRAM_TEMP = s.rd (ddrPage channel.val) F.ddrc_TEMP_DRAM_TEMP)) ∧
  (∀ (channel : Fin 8) (temp : BitVec 8) (s : State), s.stopped = false → s.on (ddrPage channel.val) F.ddrc_CH_STATUS_POPULATED = true → (s.dueAt (0x21000 + channel.val) 100000000 s.nowNs = true) →
    ∃ t, exec (.dramTempRead channel (some temp)) s = .next t ∧
      Only [.regs, .out, .host, .latches, .ticks] s t ∧
      t.rd (ddrPage channel.val) F.ddrc_TEMP_DRAM_TEMP = temp.toNat ∧
      t.rd (ddrPage channel.val) F.ddrc_TEMP_DOUBLE_REFRESH = (decide (85 < temp.toInt)).toNat) ∧
  (∀ (s : State), s.gnt.safe = none → s.boot.quiescing = true →
    ∃ t, exec (.selfRefreshEntry) s = .next t ∧
      Only [.dram] s t ∧
      t.dram = { s.dram with selfRefresh := s.on 0x340 F.ddr0_DDR_STATUS_AVAILABLE } ∧
      RegsOnly [] s t) ∧
  (∀ (e : SafeEntry) (s : State), (s.gnt.safe = some e) → ((decide (e.since + ns 50000000 ≤ s.mono) || s.gnt.sealRec.isSome) = true) →
    ∃ t, exec (.selfRefreshEntry) s = .next t ∧
      Only [.dram] s t ∧
      t.dram = { s.dram with selfRefresh := s.on 0x340 F.ddr0_DDR_STATUS_AVAILABLE } ∧
      RegsOnly [] s t)

/-- VDD_AON_UP of an unpowered device and POWER_ON_RESET of one on VDD_AON take the next power state, the latter with the straps sampled; WARM_RESET of a running device quiesces it, or is held while the safe state has still to be written; WARM_RESET_APPLY of a quiescing device leaves it in the state after a warm reset; PERST rising is kept and falling takes the link down; POWER_REMOVAL leaves what a power loss keeps, after quiescing where the hold-up lets it; BOOT_STEP_COMPLETE of a step whose needs are met takes that step. -/
def Obligations.BootAndResetCommandsComplete : Prop :=
  (∀ (s : State), s.boot.power = 0 →
    exec (.vddAonUp) s = .next (drivePins { s with boot := { s.boot with power := 1 } }) ∧
      Only [.out, .boot] s (drivePins { s with boot := { s.boot with power := 1 } }) ∧
      ((drivePins { s with boot := { s.boot with power := 1 } })).boot.power = 1) ∧
  (∀ (gpio0 testMode : Bool) (s : State), s.boot.power = 1 →
    exec (.powerOnReset gpio0 testMode) s = .next (drivePins (sampleStraps gpio0 testMode { s with boot := { s.boot with power := 2 } })) ∧
      Only [.out, .boot] s (drivePins (sampleStraps gpio0 testMode { s with boot := { s.boot with power := 2 } })) ∧
      ((drivePins (sampleStraps gpio0 testMode { s with boot := { s.boot with power := 2 } }))).boot.power = 2 ∧
      ((drivePins (sampleStraps gpio0 testMode { s with boot := { s.boot with power := 2 } }))).boot.hostBoot = gpio0 ∧
      ((drivePins (sampleStraps gpio0 testMode { s with boot := { s.boot with power := 2 } }))).boot.testMode = testMode) ∧
  (∀ (s : State), s.boot.power = 2 → s.boot.quiescing = false → s.resetWaits = false →
    exec (.warmReset) s = .next (commitReset s) ∧
      Only [.regs, .out, .ddr, .poison, .host, .latches, .hat, .ucs, .brim, .palm, .timing, .ses, .ldg, .vsr, .boot] s (commitReset s) ∧
      ((commitReset s)).boot.quiescing = true ∧
      ((commitReset s)).boot.held = false) ∧
  (∀ (s : State), s.boot.power = 2 → s.boot.quiescing = false → s.resetWaits = true →
    ∃ t, exec (.warmReset) s = .next t ∧
      Only [.regs, .out, .ddr, .poison, .host, .latches, .hat, .ucs, .brim, .palm, .timing, .ses, .ldg, .vsr, .boot] s t ∧
      t.boot = { s.boot with held := true } ∧
      RegsOnly [] s t) ∧
  (∀ (gpio0 testMode : Bool) (s : State), s.boot.held = true → s.resetWaits = false →
    exec (.warmResetApply gpio0 testMode) s = .next (drivePins (sampleStraps gpio0 testMode (warmState (settleRefresh (commitReset s))))) ∧
      Only [.regs, .time, .free, .out, .ddr, .poison, .host, .latches, .hat, .ticks, .stamps, .ucs, .brim, .tbl, .palm, .timing, .ses, .ldg, .vsr, .mtn, .pwc, .gnt, .crown, .dram, .boot] s (drivePins (sampleStraps gpio0 testMode (warmState (settleRefresh (commitReset s))))) ∧
      ((drivePins (sampleStraps gpio0 testMode (warmState (settleRefresh (commitReset s)))))).boot.warm = true ∧
      ((drivePins (sampleStraps gpio0 testMode (warmState (settleRefresh (commitReset s)))))).boot.held = false) ∧
  (∀ (gpio0 testMode : Bool) (s : State), s.boot.quiescing = true → s.boot.held = false →
    exec (.warmResetApply gpio0 testMode) s = .next (drivePins (sampleStraps gpio0 testMode (warmState (settleRefresh s)))) ∧
      Only [.regs, .time, .free, .out, .ddr, .poison, .host, .latches, .hat, .ticks, .stamps, .ucs, .brim, .tbl, .palm, .timing, .ses, .ldg, .vsr, .mtn, .pwc, .gnt, .crown, .dram, .boot] s (drivePins (sampleStraps gpio0 testMode (warmState (settleRefresh s)))) ∧
      ((drivePins (sampleStraps gpio0 testMode (warmState (settleRefresh s))))).boot.warm = true ∧
      ((drivePins (sampleStraps gpio0 testMode (warmState (settleRefresh s))))).boot.quiescing = false ∧
      ((drivePins (sampleStraps gpio0 testMode (warmState (settleRefresh s))))).boot.done = State.reset.boot.done) ∧
  (∀ (level : Bool) (s : State), s.crown.perst = true →
    exec (.perst level) s = .next ((if level = true then s else perstFalls s)) ∧
      Only [.regs, .out, .host, .latches, .tbl, .mtn, .crown] s ((if level = true then s else perstFalls s)) ∧
      (((if level = true then s else perstFalls s))).crown.perst = level) ∧
  (∀ (level : Bool) (s : State), s.crown.perst = false →
    ∃ t, exec (.perst level) s = .next t ∧
      Only [.regs, .out, .host, .latches, .tbl, .mtn, .crown] s t ∧
      t.crown = { s.crown with perst := level } ∧
      RegsOnly [] s t) ∧
  (∀ (s : State),
    ∃ t, exec (.perst true) s = .next t ∧
      Only [.regs, .out, .host, .latches, .tbl, .mtn, .crown] s t ∧
      t.crown = { s.crown with perst := true } ∧
      RegsOnly [] s t) ∧
  (∀ (s : State), s.crown.perst = true →
    exec (.perst false) s = .next (perstFalls s) ∧
      Only [.regs, .out, .host, .latches, .tbl, .mtn, .crown] s (perstFalls s) ∧
      ((perstFalls s)).crown.perst = false) ∧
  (∀ (hold : Bool) (s : State), (s.boot.power ≠ 0) →
    exec (.powerRemoval hold) s = .next (unpowered (if (hold && s.boot.power == 2 && !s.boot.quiescing) = true then commitReset s else s)) ∧
      Only [.regs, .time, .free, .out, .ddr, .poison, .host, .latches, .hat, .ticks, .stamps, .ucs, .brim, .tbl, .palm, .timing, .ses, .ldg, .vsr, .mtn, .pwc, .gnt, .crown, .dram, .boot] s (unpowered (if (hold && s.boot.power == 2 && !s.boot.quiescing) = true then commitReset s else s)) ∧
      ((unpowered (if (hold && s.boot.power == 2 && !s.boot.quiescing) = true then commitReset s else s))).boot.power = 0 ∧
      ((unpowered (if (hold && s.boot.power == 2 && !s.boot.quiescing) = true then commitReset s else s))).crown.flash = s.crown.flash) ∧
  (∀ (s : State), (s.boot.power ≠ 0) →
    exec (.powerRemoval false) s = .next (unpowered s) ∧
      Only [.regs, .time, .free, .out, .ddr, .poison, .host, .latches, .hat, .ticks, .stamps, .ucs, .brim, .tbl, .palm, .timing, .ses, .ldg, .vsr, .mtn, .pwc, .gnt, .crown, .dram, .boot] s (unpowered s) ∧
      ((unpowered s)).boot.power = 0 ∧
      ((unpowered s)).crown.flash = s.crown.flash) ∧
  (∀ (s : State), s.boot.power = 2 → s.boot.quiescing = false →
    exec (.powerRemoval true) s = .next (unpowered (commitReset s)) ∧
      Only [.regs, .time, .free, .out, .ddr, .poison, .host, .latches, .hat, .ticks, .stamps, .ucs, .brim, .tbl, .palm, .timing, .ses, .ldg, .vsr, .mtn, .pwc, .gnt, .crown, .dram, .boot] s (unpowered (commitReset s)) ∧
      ((unpowered (commitReset s))).boot.power = 0 ∧
      ((unpowered (commitReset s))).crown.flash = s.crown.flash) ∧
  (∀ (step : Fin 17) (facts : BootFacts) (s : State), s.stopped = false → s.boot.power = 2 → s.boot.testMode = false → (step.val ≠ 0) → s.boot.done.contains step.val = false → (bootNeeds step.val).all s.boot.done.contains = true →
    exec (.bootStepComplete step facts) s = .next (bootStep step.val facts s) ∧
      Only [.regs, .free, .out, .ddr, .poison, .host, .latches, .hat, .stamps, .ucs, .brim, .tbl, .ldg, .vsr, .mtn, .pwc, .gnt, .crown, .dram, .boot] s (bootStep step.val facts s)) ∧
  (∀ (facts : BootFacts) (s : State), s.stopped = false → s.boot.power = 2 → s.boot.testMode = false → s.boot.done.contains 2 = false → s.boot.done.contains 1 = true →
    ∃ t, exec (.bootStepComplete 2 facts) s = .next t ∧
      Only [.regs, .free, .out, .ddr, .poison, .host, .latches, .hat, .stamps, .ucs, .brim, .tbl, .ldg, .vsr, .mtn, .pwc, .gnt, .crown, .dram, .boot] s t ∧
      t.boot = { s.boot with done := 2 :: s.boot.done } ∧
      RegsOnly [] s t)

/-- With VDD_AON up, BYPASS loads 0xFF, IDCODE loads 0x01 and answers the identification 0x01024B3D, and SAMPLE_PRELOAD, EXTEST, EXTEST_PULSE, EXTEST_TRAIN, CLAMP and HIGHZ load their opcode in test mode and act as BYPASS outside it; nothing else of the device changes. -/
def Obligations.TapInstructionsComplete : Prop :=
  (∀ (s : State), (s.boot.power ≠ 0) →
    ∃ t, exec (.bypass) s = .next t ∧
      Only [.boot] s t ∧
      t.boot = { s.boot with tapIr := 0xFF }) ∧
  (∀ (s : State), (s.boot.power ≠ 0) →
    ∃ t, exec (.idcode) s = .next t ∧
      Only [.out, .boot] s t ∧
      t.boot = { s.boot with tapIr := 0x01 } ∧
      t.out = Output.reply "IDCODE" [0x01024B3D] :: s.out) ∧
  (∀ (s : State), (s.boot.power ≠ 0) →
    ∃ t, exec (.samplePreload) s = .next t ∧
      Only [.boot] s t ∧
      t.boot = { s.boot with tapIr := if s.boot.testMode then 0x02 else 0xFF }) ∧
  (∀ (s : State), (s.boot.power ≠ 0) →
    ∃ t, exec (.extest) s = .next t ∧
      Only [.boot] s t ∧
      t.boot = { s.boot with tapIr := if s.boot.testMode then 0x03 else 0xFF }) ∧
  (∀ (s : State), (s.boot.power ≠ 0) →
    ∃ t, exec (.extestPulse) s = .next t ∧
      Only [.boot] s t ∧
      t.boot = { s.boot with tapIr := if s.boot.testMode then 0x04 else 0xFF }) ∧
  (∀ (s : State), (s.boot.power ≠ 0) →
    ∃ t, exec (.extestTrain) s = .next t ∧
      Only [.boot] s t ∧
      t.boot = { s.boot with tapIr := if s.boot.testMode then 0x05 else 0xFF }) ∧
  (∀ (s : State), (s.boot.power ≠ 0) →
    ∃ t, exec (.clamp) s = .next t ∧
      Only [.boot] s t ∧
      t.boot = { s.boot with tapIr := if s.boot.testMode then 0x06 else 0xFF }) ∧
  (∀ (s : State), (s.boot.power ≠ 0) →
    ∃ t, exec (.highz) s = .next t ∧
      Only [.boot] s t ∧
      t.boot = { s.boot with tapIr := if s.boot.testMode then 0x07 else 0xFF })

/-- For every page and every offset below 0x1000 in it: the offset in BAR0 is page times 0x1000 plus that offset, it lies between the page's first and last offsets, and it gives back the page and the offset. -/
def Obligations.PageOffsetsFollowTheMap : Prop :=
   ∀ p r : Nat, r < 0x1000 → barOf p r = p * 0x1000 + r ∧ p * 0x1000 ≤ barOf p r ∧ barOf p r ≤ p * 0x1000 + 0xFFF ∧
  barOf p r / 0x1000 = p ∧ barOf p r % 0x1000 = r

/-- For every domain that is neither denied nor held off (for those other rules fix the target): the target is at most every holder's vote, DEEPEST and the domain's deepest state, and it is one of them; so it is the shallowest vote, replaced by DEEPEST or by the deepest state of R409 where deeper, and with no holder the lesser of those two. At reset DEEPEST is IDLE (1) for every domain. -/
def Obligations.TargetIsTheShallowestVote : Prop :=
   (∀ d : Fin 209, (State.reset.dom d.val).deepest = 1) ∧
  (∀ (s : State) (d : Fin 209), (s.dom d.val).denied = false → (s.dom d.val).heldOff = false →
  s.targetOf d.val ≤ (s.dom d.val).deepest ∧ s.targetOf d.val ≤ deepestOf d.val ∧
  (∀ v ∈ s.votes d.val, s.targetOf d.val ≤ v.2) ∧
  (s.targetOf d.val = (s.dom d.val).deepest ∨ s.targetOf d.val = deepestOf d.val ∨
  ∃ v ∈ s.votes d.val, s.targetOf d.val = v.2))

/-- On a running device, for every thermal sample of 48 sensors that is due and has a working sensor: where the hottest reads above T_CRIT (which takes no effect above 120), CAP_T is 350 after it and cause 2, of class FC2, is latched (outside a quench window of its line); where such a sample went before and the hottest reads T_CRIT − 5 or more, CAP_T does not rise. -/
def Obligations.CriticalSampleSetsTheCap : Prop :=
   State.reset.classOf 0x40 2 = 2 ∧
  (∀ (s : State) (temps : List (Option (BitVec 9))) (h : Int) (n : Nat), s.stopped = false → temps.length = 48 →
  s.dueAt 9 32768 s.nowNs = true → hottest (temps.map fun x => x.map BitVec.toInt) = some (h, n) →
  ∃ t, exec (.thermalSample temps) s = .next t ∧
  ((min 120 (s.rd 0x42 F.pwc2_THERM_CFG_T_CRIT) : Nat) < h → t.rd 0x40 F.pwc0_LIMITS_CAP_T = 350 ∧
  (s.quenched 0x40 = false → (t.rd 0x40 F.hdr_ERR_STATUS_REAL).testBit 2 = true)) ∧
  (s.pwc.critical = true → ((min 120 (s.rd 0x42 F.pwc2_THERM_CFG_T_CRIT) : Nat) : Int) - 5 ≤ h →
  t.rd 0x40 F.pwc0_LIMITS_CAP_T ≤ max 350 (s.rd 0x40 F.pwc0_LIMITS_CAP_T)))

/-- TIME changes at a command only for REGISTER_WRITE, BAD_SIZE_ACCESS and T80_PAIR_COMMIT (host writes), SET_TIME, a ToD sentence, a PTP message, WARM_RESET_APPLY and POWER_REMOVAL: every other command, whatever state it meets, leaves TIME as it was (it moves at an idle step, the model's choice of log entry 4). In the same way only the commands that train, wake, put to sleep, refresh or reset DDR5 change what the model keeps of its DIMMs and training. -/
def Obligations.OnlyTheseCommandsMoveTime : Prop :=
   (∀ (c : Instr) (s t : State), exec c s = .next t → match c with
  | .registerWrite .. | .badSizeAccess .. | .t80PairCommit .. | .setTime .. | .todSentenceReceived .. | .ptpMessageReceive ..
  | .warmResetApply .. | .powerRemoval .. => True
  | _ => t.time = s.time) ∧
  (∀ (c : Instr) (s t : State), exec c s = .next t → match c with
  | .wakeStageComplete .. | .wakeStageTimeout .. | .ddrTrainingComplete .. | .domainEntryComplete .. | .avsAck | .avsTimeout
  | .selfRefreshEntry | .bootStepComplete .. | .warmResetApply .. | .powerRemoval .. => True
  | _ => t.dram = s.dram)

/-- From every state in the safe state, and for every command other than WARM_RESET_APPLY and POWER_REMOVAL, the state after it is in the safe state. -/
def Obligations.OnlyAResetLeavesTheSafeState : Prop :=
   (∀ (c : Instr) (s t : State), s.isSafe = true → exec c s = .next t → match c with
  | .warmResetApply .. | .powerRemoval .. => True
  | _ => t.isSafe = true)
end

