-- ==== Sys2Proof/Laws/Sparse.lean ====
section
/-! SUPPORT. What the operations of a sparse map do. -/

namespace Sys2Proof.Machine

theorem SMap.at?_del_self {α : Type} (m : SMap α) (k : Nat) : SMap.at? (m.del k) k = none := by
  induction m with
  | nil => rfl
  | cons p r ih =>
    obtain ⟨a, x⟩ := p
    by_cases h : a = k <;> simp_all [SMap.del, SMap.at?]

theorem SMap.at?_del_of_ne {α : Type} (m : SMap α) {j k : Nat} (h : j ≠ k) :
    SMap.at? (m.del k) j = SMap.at? m j := by
  induction m with
  | nil => rfl
  | cons p r ih =>
    obtain ⟨a, x⟩ := p
    by_cases ha : a = k
    · subst ha
      have : (SMap.del ((a, x) :: r) a) = SMap.del r a := by simp [SMap.del]
      rw [this, ih]; simp [SMap.at?, Ne.symm h]
    · have : (SMap.del ((a, x) :: r) k) = (a, x) :: SMap.del r k := by simp [SMap.del, ha]
      rw [this]; simp only [SMap.at?, ih]

theorem SMap.at?_place {α : Type} (m : SMap α) (j k : Nat) (v : α) (h : SMap.at? m k = none) :
    (SMap.place k v m).at? j = if j = k then some v else SMap.at? m j := by
  induction m with
  | nil => by_cases hj : j = k <;> simp [SMap.place, SMap.at?, hj, eq_comm]
  | cons p r ih =>
    obtain ⟨a, x⟩ := p
    have hak : a ≠ k := by intro e; simp [SMap.at?, e] at h
    have hr : SMap.at? r k = none := by simpa [SMap.at?, hak] using h
    unfold SMap.place
    split
    · by_cases hj : j = k
      · simp [SMap.at?, hj]
      · simp [SMap.at?, hj, Ne.symm hj]
    · simp only [SMap.at?, ih hr]
      by_cases hj : j = k
      · subst hj; simp [hak]
      · simp [hj]

/-- Reading after listing a key. -/
theorem SMap.at?_enter {α : Type} (m : SMap α) (j k : Nat) (v : α) :
    (m.enter k v).at? j = if j = k then some v else SMap.at? m j := by
  rw [SMap.enter, SMap.at?_place _ _ _ _ (SMap.at?_del_self m k)]
  by_cases h : j = k
  · simp [h]
  · simp [h, SMap.at?_del_of_ne m h]

/-- Reading after a write. -/
@[simp] theorem SMap.val_put {α : Type} [DecidableEq α] (d : α) (m : SMap α) (j k : Nat) (v : α) :
    (SMap.put d m k v).val d j = if j = k then v else m.val d j := by
  unfold SMap.put SMap.val
  by_cases hv : v = d
  · subst hv
    by_cases h : j = k
    · subst h; simp [SMap.at?_del_self]
    · simp [h, SMap.at?_del_of_ne m h]
  · simp only [hv, if_false, SMap.at?_enter]
    by_cases h : j = k <;> simp [h]

theorem SMap.val_put_self {α : Type} [DecidableEq α] (d : α) (m : SMap α) (k : Nat) (v : α) :
    (SMap.put d m k v).val d k = v := by simp

theorem SMap.val_put_of_ne {α : Type} [DecidableEq α] (d : α) (m : SMap α) {j k : Nat} (h : j ≠ k) (v : α) :
    (SMap.put d m k v).val d j = m.val d j := by simp [h]

@[simp] theorem SMap.val_nil {α : Type} (d : α) (k : Nat) : SMap.val d ([] : SMap α) k = d := rfl

theorem SMap.sorted_iff {α : Type} (m : SMap α) :
    m.sorted = true ↔ m.Pairwise (fun p q => p.1 < q.1) := by
  induction m with
  | nil => simp [SMap.sorted]
  | cons p r ih =>
    cases r with
    | nil => simp [SMap.sorted]
    | cons q t =>
      simp only [SMap.sorted, Bool.and_eq_true, decide_eq_true_eq, ih, List.pairwise_cons]
      constructor
      · rintro ⟨h1, h2, h3⟩
        refine ⟨?_, h2, h3⟩
        intro a ha
        rcases List.mem_cons.1 ha with rfl | hm
        · exact h1
        · exact lt_trans h1 (h2 a hm)
      · rintro ⟨h1, h2, h3⟩
        exact ⟨h1 q (by simp), h2, h3⟩

theorem SMap.sorted_del {α : Type} (m : SMap α) (k : Nat) (h : m.sorted = true) : (m.del k).sorted = true := by
  rw [SMap.sorted_iff] at *
  exact h.filter _

theorem SMap.mem_place {α : Type} (m : SMap α) (k : Nat) (v : α) (p : Nat × α) :
    p ∈ SMap.place k v m ↔ p = (k, v) ∨ p ∈ m := by
  induction m with
  | nil => simp [SMap.place]
  | cons q r ih =>
    unfold SMap.place
    split
    · simp
    · simp only [List.mem_cons, ih]; tauto

theorem SMap.sorted_place {α : Type} (m : SMap α) (k : Nat) (v : α) (h : m.sorted = true)
    (hk : ∀ p ∈ m, p.1 ≠ k) : (SMap.place k v m).sorted = true := by
  rw [SMap.sorted_iff] at *
  induction m with
  | nil => simp [SMap.place]
  | cons q r ih =>
    obtain ⟨hq, hr⟩ := List.pairwise_cons.1 h
    unfold SMap.place
    split
    · rename_i hlt
      refine List.pairwise_cons.2 ⟨?_, h⟩
      intro p hp
      rcases List.mem_cons.1 hp with rfl | hm
      · exact hlt
      · exact lt_trans hlt (hq p hm)
    · rename_i hlt
      refine List.pairwise_cons.2 ⟨?_, ih hr (fun p hp => hk p (by simp [hp]))⟩
      intro p hp
      rcases (SMap.mem_place r k v p).1 hp with rfl | hm
      · have := hk q (by simp)
        simp only at *; omega
      · exact hq p hm

theorem SMap.del_ne {α : Type} (m : SMap α) (k : Nat) : ∀ p ∈ m.del k, p.1 ≠ k := by
  intro p hp
  simpa [SMap.del] using (List.mem_filter.1 hp).2

/-- A write keeps the keys sorted. -/
theorem SMap.sorted_put {α : Type} [DecidableEq α] (d : α) (m : SMap α) (k : Nat) (v : α) (h : m.sorted = true) :
    (SMap.put d m k v).sorted = true := by
  unfold SMap.put
  split
  · exact SMap.sorted_del m k h
  · exact SMap.sorted_place _ _ _ (SMap.sorted_del m k h) (SMap.del_ne m k)

theorem SMap.sorted_enter {α : Type} (m : SMap α) (k : Nat) (v : α) (h : m.sorted = true) :
    (m.enter k v).sorted = true :=
  SMap.sorted_place _ _ _ (SMap.sorted_del m k h) (SMap.del_ne m k)

/-- A write keeps the canonical form. -/
theorem SMap.wf_put {α : Type} [DecidableEq α] (d : α) (m : SMap α) (k : Nat) (v : α) (h : m.wf d = true) :
    (SMap.put d m k v).wf d = true := by
  simp only [SMap.wf, Bool.and_eq_true, List.all_eq_true, decide_eq_true_eq] at *
  refine ⟨SMap.sorted_put d m k v h.1, ?_⟩
  intro p hp
  unfold SMap.put at hp
  split at hp
  · exact h.2 p (List.mem_filter.1 hp).1
  · rename_i hv
    rcases (SMap.mem_place _ _ _ _).1 hp with rfl | hm
    · exact hv
    · exact h.2 p (List.mem_filter.1 hm).1

end Sys2Proof.Machine
end

