-- ==== Sys2Proof/Laws/State.lean ====
section
/-! SUPPORT. The shared updates of State: what each leaves of every field, true by unfolding. -/

namespace Sys2Proof.Machine

@[simp] theorem State.wrx_pending (s : State) (page : Nat) (f : Fld) (i j v : Nat) : (s.wrx page f i j v).pending = s.pending := rfl
@[simp] theorem State.wrx_time (s : State) (page : Nat) (f : Fld) (i j v : Nat) : (s.wrx page f i j v).time = s.time := rfl
@[simp] theorem State.wrx_free (s : State) (page : Nat) (f : Fld) (i j v : Nat) : (s.wrx page f i j v).free = s.free := rfl
@[simp] theorem State.wrx_out (s : State) (page : Nat) (f : Fld) (i j v : Nat) : (s.wrx page f i j v).out = s.out := rfl
@[simp] theorem State.wrx_ddr (s : State) (page : Nat) (f : Fld) (i j v : Nat) : (s.wrx page f i j v).ddr = s.ddr := rfl
@[simp] theorem State.wrx_poison (s : State) (page : Nat) (f : Fld) (i j v : Nat) : (s.wrx page f i j v).poison = s.poison := rfl
@[simp] theorem State.wrx_host (s : State) (page : Nat) (f : Fld) (i j v : Nat) : (s.wrx page f i j v).host = s.host := rfl
@[simp] theorem State.wrx_latches (s : State) (page : Nat) (f : Fld) (i j v : Nat) : (s.wrx page f i j v).latches = s.latches := rfl
@[simp] theorem State.wrx_hat (s : State) (page : Nat) (f : Fld) (i j v : Nat) : (s.wrx page f i j v).hat = s.hat := rfl
@[simp] theorem State.wrx_ticks (s : State) (page : Nat) (f : Fld) (i j v : Nat) : (s.wrx page f i j v).ticks = s.ticks := rfl
@[simp] theorem State.wrx_stamps (s : State) (page : Nat) (f : Fld) (i j v : Nat) : (s.wrx page f i j v).stamps = s.stamps := rfl
@[simp] theorem State.wrx_ucs (s : State) (page : Nat) (f : Fld) (i j v : Nat) : (s.wrx page f i j v).ucs = s.ucs := rfl
@[simp] theorem State.wrx_brim (s : State) (page : Nat) (f : Fld) (i j v : Nat) : (s.wrx page f i j v).brim = s.brim := rfl
@[simp] theorem State.wrx_tbl (s : State) (page : Nat) (f : Fld) (i j v : Nat) : (s.wrx page f i j v).tbl = s.tbl := rfl
@[simp] theorem State.wrx_palm (s : State) (page : Nat) (f : Fld) (i j v : Nat) : (s.wrx page f i j v).palm = s.palm := rfl
@[simp] theorem State.wrx_timing (s : State) (page : Nat) (f : Fld) (i j v : Nat) : (s.wrx page f i j v).timing = s.timing := rfl
@[simp] theorem State.wrx_ses (s : State) (page : Nat) (f : Fld) (i j v : Nat) : (s.wrx page f i j v).ses = s.ses := rfl
@[simp] theorem State.wrx_ldg (s : State) (page : Nat) (f : Fld) (i j v : Nat) : (s.wrx page f i j v).ldg = s.ldg := rfl
@[simp] theorem State.wrx_vsr (s : State) (page : Nat) (f : Fld) (i j v : Nat) : (s.wrx page f i j v).vsr = s.vsr := rfl
@[simp] theorem State.wrx_mtn (s : State) (page : Nat) (f : Fld) (i j v : Nat) : (s.wrx page f i j v).mtn = s.mtn := rfl
@[simp] theorem State.wrx_pwc (s : State) (page : Nat) (f : Fld) (i j v : Nat) : (s.wrx page f i j v).pwc = s.pwc := rfl
@[simp] theorem State.wrx_gnt (s : State) (page : Nat) (f : Fld) (i j v : Nat) : (s.wrx page f i j v).gnt = s.gnt := rfl
@[simp] theorem State.wrx_crown (s : State) (page : Nat) (f : Fld) (i j v : Nat) : (s.wrx page f i j v).crown = s.crown := rfl
@[simp] theorem State.wrx_dram (s : State) (page : Nat) (f : Fld) (i j v : Nat) : (s.wrx page f i j v).dram = s.dram := rfl
@[simp] theorem State.wrx_boot (s : State) (page : Nat) (f : Fld) (i j v : Nat) : (s.wrx page f i j v).boot = s.boot := rfl
@[simp] theorem State.wr_pending (s : State) (page : Nat) (f : Fld) (v : Nat) : (s.wr page f v).pending = s.pending := rfl
@[simp] theorem State.wr_time (s : State) (page : Nat) (f : Fld) (v : Nat) : (s.wr page f v).time = s.time := rfl
@[simp] theorem State.wr_free (s : State) (page : Nat) (f : Fld) (v : Nat) : (s.wr page f v).free = s.free := rfl
@[simp] theorem State.wr_out (s : State) (page : Nat) (f : Fld) (v : Nat) : (s.wr page f v).out = s.out := rfl
@[simp] theorem State.wr_ddr (s : State) (page : Nat) (f : Fld) (v : Nat) : (s.wr page f v).ddr = s.ddr := rfl
@[simp] theorem State.wr_poison (s : State) (page : Nat) (f : Fld) (v : Nat) : (s.wr page f v).poison = s.poison := rfl
@[simp] theorem State.wr_host (s : State) (page : Nat) (f : Fld) (v : Nat) : (s.wr page f v).host = s.host := rfl
@[simp] theorem State.wr_latches (s : State) (page : Nat) (f : Fld) (v : Nat) : (s.wr page f v).latches = s.latches := rfl
@[simp] theorem State.wr_hat (s : State) (page : Nat) (f : Fld) (v : Nat) : (s.wr page f v).hat = s.hat := rfl
@[simp] theorem State.wr_ticks (s : State) (page : Nat) (f : Fld) (v : Nat) : (s.wr page f v).ticks = s.ticks := rfl
@[simp] theorem State.wr_stamps (s : State) (page : Nat) (f : Fld) (v : Nat) : (s.wr page f v).stamps = s.stamps := rfl
@[simp] theorem State.wr_ucs (s : State) (page : Nat) (f : Fld) (v : Nat) : (s.wr page f v).ucs = s.ucs := rfl
@[simp] theorem State.wr_brim (s : State) (page : Nat) (f : Fld) (v : Nat) : (s.wr page f v).brim = s.brim := rfl
@[simp] theorem State.wr_tbl (s : State) (page : Nat) (f : Fld) (v : Nat) : (s.wr page f v).tbl = s.tbl := rfl
@[simp] theorem State.wr_palm (s : State) (page : Nat) (f : Fld) (v : Nat) : (s.wr page f v).palm = s.palm := rfl
@[simp] theorem State.wr_timing (s : State) (page : Nat) (f : Fld) (v : Nat) : (s.wr page f v).timing = s.timing := rfl
@[simp] theorem State.wr_ses (s : State) (page : Nat) (f : Fld) (v : Nat) : (s.wr page f v).ses = s.ses := rfl
@[simp] theorem State.wr_ldg (s : State) (page : Nat) (f : Fld) (v : Nat) : (s.wr page f v).ldg = s.ldg := rfl
@[simp] theorem State.wr_vsr (s : State) (page : Nat) (f : Fld) (v : Nat) : (s.wr page f v).vsr = s.vsr := rfl
@[simp] theorem State.wr_mtn (s : State) (page : Nat) (f : Fld) (v : Nat) : (s.wr page f v).mtn = s.mtn := rfl
@[simp] theorem State.wr_pwc (s : State) (page : Nat) (f : Fld) (v : Nat) : (s.wr page f v).pwc = s.pwc := rfl
@[simp] theorem State.wr_gnt (s : State) (page : Nat) (f : Fld) (v : Nat) : (s.wr page f v).gnt = s.gnt := rfl
@[simp] theorem State.wr_crown (s : State) (page : Nat) (f : Fld) (v : Nat) : (s.wr page f v).crown = s.crown := rfl
@[simp] theorem State.wr_dram (s : State) (page : Nat) (f : Fld) (v : Nat) : (s.wr page f v).dram = s.dram := rfl
@[simp] theorem State.wr_boot (s : State) (page : Nat) (f : Fld) (v : Nat) : (s.wr page f v).boot = s.boot := rfl
@[simp] theorem State.wri_pending (s : State) (page : Nat) (f : Fld) (i v : Nat) : (s.wri page f i v).pending = s.pending := rfl
@[simp] theorem State.wri_time (s : State) (page : Nat) (f : Fld) (i v : Nat) : (s.wri page f i v).time = s.time := rfl
@[simp] theorem State.wri_free (s : State) (page : Nat) (f : Fld) (i v : Nat) : (s.wri page f i v).free = s.free := rfl
@[simp] theorem State.wri_out (s : State) (page : Nat) (f : Fld) (i v : Nat) : (s.wri page f i v).out = s.out := rfl
@[simp] theorem State.wri_ddr (s : State) (page : Nat) (f : Fld) (i v : Nat) : (s.wri page f i v).ddr = s.ddr := rfl
@[simp] theorem State.wri_poison (s : State) (page : Nat) (f : Fld) (i v : Nat) : (s.wri page f i v).poison = s.poison := rfl
@[simp] theorem State.wri_host (s : State) (page : Nat) (f : Fld) (i v : Nat) : (s.wri page f i v).host = s.host := rfl
@[simp] theorem State.wri_latches (s : State) (page : Nat) (f : Fld) (i v : Nat) : (s.wri page f i v).latches = s.latches := rfl
@[simp] theorem State.wri_hat (s : State) (page : Nat) (f : Fld) (i v : Nat) : (s.wri page f i v).hat = s.hat := rfl
@[simp] theorem State.wri_ticks (s : State) (page : Nat) (f : Fld) (i v : Nat) : (s.wri page f i v).ticks = s.ticks := rfl
@[simp] theorem State.wri_stamps (s : State) (page : Nat) (f : Fld) (i v : Nat) : (s.wri page f i v).stamps = s.stamps := rfl
@[simp] theorem State.wri_ucs (s : State) (page : Nat) (f : Fld) (i v : Nat) : (s.wri page f i v).ucs = s.ucs := rfl
@[simp] theorem State.wri_brim (s : State) (page : Nat) (f : Fld) (i v : Nat) : (s.wri page f i v).brim = s.brim := rfl
@[simp] theorem State.wri_tbl (s : State) (page : Nat) (f : Fld) (i v : Nat) : (s.wri page f i v).tbl = s.tbl := rfl
@[simp] theorem State.wri_palm (s : State) (page : Nat) (f : Fld) (i v : Nat) : (s.wri page f i v).palm = s.palm := rfl
@[simp] theorem State.wri_timing (s : State) (page : Nat) (f : Fld) (i v : Nat) : (s.wri page f i v).timing = s.timing := rfl
@[simp] theorem State.wri_ses (s : State) (page : Nat) (f : Fld) (i v : Nat) : (s.wri page f i v).ses = s.ses := rfl
@[simp] theorem State.wri_ldg (s : State) (page : Nat) (f : Fld) (i v : Nat) : (s.wri page f i v).ldg = s.ldg := rfl
@[simp] theorem State.wri_vsr (s : State) (page : Nat) (f : Fld) (i v : Nat) : (s.wri page f i v).vsr = s.vsr := rfl
@[simp] theorem State.wri_mtn (s : State) (page : Nat) (f : Fld) (i v : Nat) : (s.wri page f i v).mtn = s.mtn := rfl
@[simp] theorem State.wri_pwc (s : State) (page : Nat) (f : Fld) (i v : Nat) : (s.wri page f i v).pwc = s.pwc := rfl
@[simp] theorem State.wri_gnt (s : State) (page : Nat) (f : Fld) (i v : Nat) : (s.wri page f i v).gnt = s.gnt := rfl
@[simp] theorem State.wri_crown (s : State) (page : Nat) (f : Fld) (i v : Nat) : (s.wri page f i v).crown = s.crown := rfl
@[simp] theorem State.wri_dram (s : State) (page : Nat) (f : Fld) (i v : Nat) : (s.wri page f i v).dram = s.dram := rfl
@[simp] theorem State.wri_boot (s : State) (page : Nat) (f : Fld) (i v : Nat) : (s.wri page f i v).boot = s.boot := rfl
@[simp] theorem State.set1_pending (s : State) (page : Nat) (f : Fld) : (s.set1 page f).pending = s.pending := rfl
@[simp] theorem State.set1_time (s : State) (page : Nat) (f : Fld) : (s.set1 page f).time = s.time := rfl
@[simp] theorem State.set1_free (s : State) (page : Nat) (f : Fld) : (s.set1 page f).free = s.free := rfl
@[simp] theorem State.set1_out (s : State) (page : Nat) (f : Fld) : (s.set1 page f).out = s.out := rfl
@[simp] theorem State.set1_ddr (s : State) (page : Nat) (f : Fld) : (s.set1 page f).ddr = s.ddr := rfl
@[simp] theorem State.set1_poison (s : State) (page : Nat) (f : Fld) : (s.set1 page f).poison = s.poison := rfl
@[simp] theorem State.set1_host (s : State) (page : Nat) (f : Fld) : (s.set1 page f).host = s.host := rfl
@[simp] theorem State.set1_hat (s : State) (page : Nat) (f : Fld) : (s.set1 page f).hat = s.hat := rfl
@[simp] theorem State.set1_ticks (s : State) (page : Nat) (f : Fld) : (s.set1 page f).ticks = s.ticks := rfl
@[simp] theorem State.set1_stamps (s : State) (page : Nat) (f : Fld) : (s.set1 page f).stamps = s.stamps := rfl
@[simp] theorem State.set1_ucs (s : State) (page : Nat) (f : Fld) : (s.set1 page f).ucs = s.ucs := rfl
@[simp] theorem State.set1_brim (s : State) (page : Nat) (f : Fld) : (s.set1 page f).brim = s.brim := rfl
@[simp] theorem State.set1_tbl (s : State) (page : Nat) (f : Fld) : (s.set1 page f).tbl = s.tbl := rfl
@[simp] theorem State.set1_palm (s : State) (page : Nat) (f : Fld) : (s.set1 page f).palm = s.palm := rfl
@[simp] theorem State.set1_timing (s : State) (page : Nat) (f : Fld) : (s.set1 page f).timing = s.timing := rfl
@[simp] theorem State.set1_ses (s : State) (page : Nat) (f : Fld) : (s.set1 page f).ses = s.ses := rfl
@[simp] theorem State.set1_ldg (s : State) (page : Nat) (f : Fld) : (s.set1 page f).ldg = s.ldg := rfl
@[simp] theorem State.set1_vsr (s : State) (page : Nat) (f : Fld) : (s.set1 page f).vsr = s.vsr := rfl
@[simp] theorem State.set1_mtn (s : State) (page : Nat) (f : Fld) : (s.set1 page f).mtn = s.mtn := rfl
@[simp] theorem State.set1_pwc (s : State) (page : Nat) (f : Fld) : (s.set1 page f).pwc = s.pwc := rfl
@[simp] theorem State.set1_gnt (s : State) (page : Nat) (f : Fld) : (s.set1 page f).gnt = s.gnt := rfl
@[simp] theorem State.set1_crown (s : State) (page : Nat) (f : Fld) : (s.set1 page f).crown = s.crown := rfl
@[simp] theorem State.set1_dram (s : State) (page : Nat) (f : Fld) : (s.set1 page f).dram = s.dram := rfl
@[simp] theorem State.set1_boot (s : State) (page : Nat) (f : Fld) : (s.set1 page f).boot = s.boot := rfl

@[simp] theorem State.mark_regs (s : State) (addr n : Nat) : (s.mark addr n).regs = s.regs := rfl
theorem State.noteCount_pending (s : State) (page : Nat) (f : Fld) (i n : Nat) : (s.noteCount page f i n).pending = s.pending := by
  unfold State.noteCount; split <;> rfl
theorem State.noteCount_time (s : State) (page : Nat) (f : Fld) (i n : Nat) : (s.noteCount page f i n).time = s.time := by
  unfold State.noteCount; split <;> rfl
theorem State.noteCount_free (s : State) (page : Nat) (f : Fld) (i n : Nat) : (s.noteCount page f i n).free = s.free := by
  unfold State.noteCount; split <;> rfl
theorem State.noteCount_out (s : State) (page : Nat) (f : Fld) (i n : Nat) : (s.noteCount page f i n).out = s.out := by
  unfold State.noteCount; split <;> rfl
theorem State.noteCount_ddr (s : State) (page : Nat) (f : Fld) (i n : Nat) : (s.noteCount page f i n).ddr = s.ddr := by
  unfold State.noteCount; split <;> rfl
theorem State.noteCount_poison (s : State) (page : Nat) (f : Fld) (i n : Nat) : (s.noteCount page f i n).poison = s.poison := by
  unfold State.noteCount; split <;> rfl
theorem State.noteCount_host (s : State) (page : Nat) (f : Fld) (i n : Nat) : (s.noteCount page f i n).host = s.host := by
  unfold State.noteCount; split <;> rfl
theorem State.noteCount_hat (s : State) (page : Nat) (f : Fld) (i n : Nat) : (s.noteCount page f i n).hat = s.hat := by
  unfold State.noteCount; split <;> rfl
theorem State.noteCount_ticks (s : State) (page : Nat) (f : Fld) (i n : Nat) : (s.noteCount page f i n).ticks = s.ticks := by
  unfold State.noteCount; split <;> rfl
theorem State.noteCount_stamps (s : State) (page : Nat) (f : Fld) (i n : Nat) : (s.noteCount page f i n).stamps = s.stamps := by
  unfold State.noteCount; split <;> rfl
theorem State.noteCount_ucs (s : State) (page : Nat) (f : Fld) (i n : Nat) : (s.noteCount page f i n).ucs = s.ucs := by
  unfold State.noteCount; split <;> rfl
theorem State.noteCount_brim (s : State) (page : Nat) (f : Fld) (i n : Nat) : (s.noteCount page f i n).brim = s.brim := by
  unfold State.noteCount; split <;> rfl
theorem State.noteCount_tbl (s : State) (page : Nat) (f : Fld) (i n : Nat) : (s.noteCount page f i n).tbl = s.tbl := by
  unfold State.noteCount; split <;> rfl
theorem State.noteCount_palm (s : State) (page : Nat) (f : Fld) (i n : Nat) : (s.noteCount page f i n).palm = s.palm := by
  unfold State.noteCount; split <;> rfl
theorem State.noteCount_timing (s : State) (page : Nat) (f : Fld) (i n : Nat) : (s.noteCount page f i n).timing = s.timing := by
  unfold State.noteCount; split <;> rfl
theorem State.noteCount_ses (s : State) (page : Nat) (f : Fld) (i n : Nat) : (s.noteCount page f i n).ses = s.ses := by
  unfold State.noteCount; split <;> rfl
theorem State.noteCount_ldg (s : State) (page : Nat) (f : Fld) (i n : Nat) : (s.noteCount page f i n).ldg = s.ldg := by
  unfold State.noteCount; split <;> rfl
theorem State.noteCount_vsr (s : State) (page : Nat) (f : Fld) (i n : Nat) : (s.noteCount page f i n).vsr = s.vsr := by
  unfold State.noteCount; split <;> rfl
theorem State.noteCount_mtn (s : State) (page : Nat) (f : Fld) (i n : Nat) : (s.noteCount page f i n).mtn = s.mtn := by
  unfold State.noteCount; split <;> rfl
theorem State.noteCount_pwc (s : State) (page : Nat) (f : Fld) (i n : Nat) : (s.noteCount page f i n).pwc = s.pwc := by
  unfold State.noteCount; split <;> rfl
theorem State.noteCount_gnt (s : State) (page : Nat) (f : Fld) (i n : Nat) : (s.noteCount page f i n).gnt = s.gnt := by
  unfold State.noteCount; split <;> rfl
theorem State.noteCount_crown (s : State) (page : Nat) (f : Fld) (i n : Nat) : (s.noteCount page f i n).crown = s.crown := by
  unfold State.noteCount; split <;> rfl
theorem State.noteCount_dram (s : State) (page : Nat) (f : Fld) (i n : Nat) : (s.noteCount page f i n).dram = s.dram := by
  unfold State.noteCount; split <;> rfl
theorem State.noteCount_boot (s : State) (page : Nat) (f : Fld) (i n : Nat) : (s.noteCount page f i n).boot = s.boot := by
  unfold State.noteCount; split <;> rfl
theorem State.noteCount_regs (s : State) (page : Nat) (f : Fld) (i n : Nat) : (s.noteCount page f i n).regs = s.regs := by
  unfold State.noteCount; split <;> rfl
@[simp] theorem State.bump_pending (s : State) (page : Nat) (f : Fld) (n : Nat) : (s.bump page f n).pending = s.pending := State.noteCount_pending _ page f 0 n
@[simp] theorem State.bump_time (s : State) (page : Nat) (f : Fld) (n : Nat) : (s.bump page f n).time = s.time := State.noteCount_time _ page f 0 n
@[simp] theorem State.bump_free (s : State) (page : Nat) (f : Fld) (n : Nat) : (s.bump page f n).free = s.free := State.noteCount_free _ page f 0 n
@[simp] theorem State.bump_out (s : State) (page : Nat) (f : Fld) (n : Nat) : (s.bump page f n).out = s.out := State.noteCount_out _ page f 0 n
@[simp] theorem State.bump_ddr (s : State) (page : Nat) (f : Fld) (n : Nat) : (s.bump page f n).ddr = s.ddr := State.noteCount_ddr _ page f 0 n
@[simp] theorem State.bump_poison (s : State) (page : Nat) (f : Fld) (n : Nat) : (s.bump page f n).poison = s.poison := State.noteCount_poison _ page f 0 n
@[simp] theorem State.bump_host (s : State) (page : Nat) (f : Fld) (n : Nat) : (s.bump page f n).host = s.host := State.noteCount_host _ page f 0 n
@[simp] theorem State.bump_hat (s : State) (page : Nat) (f : Fld) (n : Nat) : (s.bump page f n).hat = s.hat := State.noteCount_hat _ page f 0 n
@[simp] theorem State.bump_ticks (s : State) (page : Nat) (f : Fld) (n : Nat) : (s.bump page f n).ticks = s.ticks := State.noteCount_ticks _ page f 0 n
@[simp] theorem State.bump_stamps (s : State) (page : Nat) (f : Fld) (n : Nat) : (s.bump page f n).stamps = s.stamps := State.noteCount_stamps _ page f 0 n
@[simp] theorem State.bump_ucs (s : State) (page : Nat) (f : Fld) (n : Nat) : (s.bump page f n).ucs = s.ucs := State.noteCount_ucs _ page f 0 n
@[simp] theorem State.bump_brim (s : State) (page : Nat) (f : Fld) (n : Nat) : (s.bump page f n).brim = s.brim := State.noteCount_brim _ page f 0 n
@[simp] theorem State.bump_tbl (s : State) (page : Nat) (f : Fld) (n : Nat) : (s.bump page f n).tbl = s.tbl := State.noteCount_tbl _ page f 0 n
@[simp] theorem State.bump_palm (s : State) (page : Nat) (f : Fld) (n : Nat) : (s.bump page f n).palm = s.palm := State.noteCount_palm _ page f 0 n
@[simp] theorem State.bump_timing (s : State) (page : Nat) (f : Fld) (n : Nat) : (s.bump page f n).timing = s.timing := State.noteCount_timing _ page f 0 n
@[simp] theorem State.bump_ses (s : State) (page : Nat) (f : Fld) (n : Nat) : (s.bump page f n).ses = s.ses := State.noteCount_ses _ page f 0 n
@[simp] theorem State.bump_ldg (s : State) (page : Nat) (f : Fld) (n : Nat) : (s.bump page f n).ldg = s.ldg := State.noteCount_ldg _ page f 0 n
@[simp] theorem State.bump_vsr (s : State) (page : Nat) (f : Fld) (n : Nat) : (s.bump page f n).vsr = s.vsr := State.noteCount_vsr _ page f 0 n
@[simp] theorem State.bump_mtn (s : State) (page : Nat) (f : Fld) (n : Nat) : (s.bump page f n).mtn = s.mtn := State.noteCount_mtn _ page f 0 n
@[simp] theorem State.bump_pwc (s : State) (page : Nat) (f : Fld) (n : Nat) : (s.bump page f n).pwc = s.pwc := State.noteCount_pwc _ page f 0 n
@[simp] theorem State.bump_gnt (s : State) (page : Nat) (f : Fld) (n : Nat) : (s.bump page f n).gnt = s.gnt := State.noteCount_gnt _ page f 0 n
@[simp] theorem State.bump_crown (s : State) (page : Nat) (f : Fld) (n : Nat) : (s.bump page f n).crown = s.crown := State.noteCount_crown _ page f 0 n
@[simp] theorem State.bump_dram (s : State) (page : Nat) (f : Fld) (n : Nat) : (s.bump page f n).dram = s.dram := State.noteCount_dram _ page f 0 n
@[simp] theorem State.bump_boot (s : State) (page : Nat) (f : Fld) (n : Nat) : (s.bump page f n).boot = s.boot := State.noteCount_boot _ page f 0 n
@[simp] theorem State.bumpi_pending (s : State) (page : Nat) (f : Fld) (i n : Nat) : (s.bumpi page f i n).pending = s.pending := State.noteCount_pending _ page f i n
@[simp] theorem State.bumpi_time (s : State) (page : Nat) (f : Fld) (i n : Nat) : (s.bumpi page f i n).time = s.time := State.noteCount_time _ page f i n
@[simp] theorem State.bumpi_free (s : State) (page : Nat) (f : Fld) (i n : Nat) : (s.bumpi page f i n).free = s.free := State.noteCount_free _ page f i n
@[simp] theorem State.bumpi_out (s : State) (page : Nat) (f : Fld) (i n : Nat) : (s.bumpi page f i n).out = s.out := State.noteCount_out _ page f i n
@[simp] theorem State.bumpi_ddr (s : State) (page : Nat) (f : Fld) (i n : Nat) : (s.bumpi page f i n).ddr = s.ddr := State.noteCount_ddr _ page f i n
@[simp] theorem State.bumpi_poison (s : State) (page : Nat) (f : Fld) (i n : Nat) : (s.bumpi page f i n).poison = s.poison := State.noteCount_poison _ page f i n
@[simp] theorem State.bumpi_host (s : State) (page : Nat) (f : Fld) (i n : Nat) : (s.bumpi page f i n).host = s.host := State.noteCount_host _ page f i n
@[simp] theorem State.bumpi_hat (s : State) (page : Nat) (f : Fld) (i n : Nat) : (s.bumpi page f i n).hat = s.hat := State.noteCount_hat _ page f i n
@[simp] theorem State.bumpi_ticks (s : State) (page : Nat) (f : Fld) (i n : Nat) : (s.bumpi page f i n).ticks = s.ticks := State.noteCount_ticks _ page f i n
@[simp] theorem State.bumpi_stamps (s : State) (page : Nat) (f : Fld) (i n : Nat) : (s.bumpi page f i n).stamps = s.stamps := State.noteCount_stamps _ page f i n
@[simp] theorem State.bumpi_ucs (s : State) (page : Nat) (f : Fld) (i n : Nat) : (s.bumpi page f i n).ucs = s.ucs := State.noteCount_ucs _ page f i n
@[simp] theorem State.bumpi_brim (s : State) (page : Nat) (f : Fld) (i n : Nat) : (s.bumpi page f i n).brim = s.brim := State.noteCount_brim _ page f i n
@[simp] theorem State.bumpi_tbl (s : State) (page : Nat) (f : Fld) (i n : Nat) : (s.bumpi page f i n).tbl = s.tbl := State.noteCount_tbl _ page f i n
@[simp] theorem State.bumpi_palm (s : State) (page : Nat) (f : Fld) (i n : Nat) : (s.bumpi page f i n).palm = s.palm := State.noteCount_palm _ page f i n
@[simp] theorem State.bumpi_timing (s : State) (page : Nat) (f : Fld) (i n : Nat) : (s.bumpi page f i n).timing = s.timing := State.noteCount_timing _ page f i n
@[simp] theorem State.bumpi_ses (s : State) (page : Nat) (f : Fld) (i n : Nat) : (s.bumpi page f i n).ses = s.ses := State.noteCount_ses _ page f i n
@[simp] theorem State.bumpi_ldg (s : State) (page : Nat) (f : Fld) (i n : Nat) : (s.bumpi page f i n).ldg = s.ldg := State.noteCount_ldg _ page f i n
@[simp] theorem State.bumpi_vsr (s : State) (page : Nat) (f : Fld) (i n : Nat) : (s.bumpi page f i n).vsr = s.vsr := State.noteCount_vsr _ page f i n
@[simp] theorem State.bumpi_mtn (s : State) (page : Nat) (f : Fld) (i n : Nat) : (s.bumpi page f i n).mtn = s.mtn := State.noteCount_mtn _ page f i n
@[simp] theorem State.bumpi_pwc (s : State) (page : Nat) (f : Fld) (i n : Nat) : (s.bumpi page f i n).pwc = s.pwc := State.noteCount_pwc _ page f i n
@[simp] theorem State.bumpi_gnt (s : State) (page : Nat) (f : Fld) (i n : Nat) : (s.bumpi page f i n).gnt = s.gnt := State.noteCount_gnt _ page f i n
@[simp] theorem State.bumpi_crown (s : State) (page : Nat) (f : Fld) (i n : Nat) : (s.bumpi page f i n).crown = s.crown := State.noteCount_crown _ page f i n
@[simp] theorem State.bumpi_dram (s : State) (page : Nat) (f : Fld) (i n : Nat) : (s.bumpi page f i n).dram = s.dram := State.noteCount_dram _ page f i n
@[simp] theorem State.bumpi_boot (s : State) (page : Nat) (f : Fld) (i n : Nat) : (s.bumpi page f i n).boot = s.boot := State.noteCount_boot _ page f i n
@[simp] theorem State.send_pending (s : State) (o : Output) : (s.send o).pending = s.pending := rfl
@[simp] theorem State.send_time (s : State) (o : Output) : (s.send o).time = s.time := rfl
@[simp] theorem State.send_free (s : State) (o : Output) : (s.send o).free = s.free := rfl
@[simp] theorem State.send_ddr (s : State) (o : Output) : (s.send o).ddr = s.ddr := rfl
@[simp] theorem State.send_poison (s : State) (o : Output) : (s.send o).poison = s.poison := rfl
@[simp] theorem State.send_host (s : State) (o : Output) : (s.send o).host = s.host := rfl
@[simp] theorem State.send_latches (s : State) (o : Output) : (s.send o).latches = s.latches := rfl
@[simp] theorem State.send_hat (s : State) (o : Output) : (s.send o).hat = s.hat := rfl
@[simp] theorem State.send_ticks (s : State) (o : Output) : (s.send o).ticks = s.ticks := rfl
@[simp] theorem State.send_stamps (s : State) (o : Output) : (s.send o).stamps = s.stamps := rfl
@[simp] theorem State.send_ucs (s : State) (o : Output) : (s.send o).ucs = s.ucs := rfl
@[simp] theorem State.send_brim (s : State) (o : Output) : (s.send o).brim = s.brim := rfl
@[simp] theorem State.send_tbl (s : State) (o : Output) : (s.send o).tbl = s.tbl := rfl
@[simp] theorem State.send_palm (s : State) (o : Output) : (s.send o).palm = s.palm := rfl
@[simp] theorem State.send_timing (s : State) (o : Output) : (s.send o).timing = s.timing := rfl
@[simp] theorem State.send_ses (s : State) (o : Output) : (s.send o).ses = s.ses := rfl
@[simp] theorem State.send_ldg (s : State) (o : Output) : (s.send o).ldg = s.ldg := rfl
@[simp] theorem State.send_vsr (s : State) (o : Output) : (s.send o).vsr = s.vsr := rfl
@[simp] theorem State.send_mtn (s : State) (o : Output) : (s.send o).mtn = s.mtn := rfl
@[simp] theorem State.send_pwc (s : State) (o : Output) : (s.send o).pwc = s.pwc := rfl
@[simp] theorem State.send_gnt (s : State) (o : Output) : (s.send o).gnt = s.gnt := rfl
@[simp] theorem State.send_crown (s : State) (o : Output) : (s.send o).crown = s.crown := rfl
@[simp] theorem State.send_dram (s : State) (o : Output) : (s.send o).dram = s.dram := rfl
@[simp] theorem State.send_boot (s : State) (o : Output) : (s.send o).boot = s.boot := rfl
@[simp] theorem State.send_regs (s : State) (o : Output) : (s.send o).regs = s.regs := rfl

@[simp] theorem State.send_out (s : State) (o : Output) : (s.send o).out = o :: s.out := rfl

end Sys2Proof.Machine
end

