-- ==== Sys2Proof/Laws/Ops.lean ====
section
/-! SUPPORT. What the shared operations of Machine/Ops.lean do, each said once: a field reads back what was written to it
and every other key is left; a vector, a raised cause, a DDR5 write and the gates of a command. -/

namespace Sys2Proof.Machine

/-- What a register field reads after any write of one. -/
theorem State.rdx_wrx (s : State) (p q : Nat) (f g : Fld) (i j k l v : Nat) :
    (s.wrx p f i j v).rdx q g k l =
      if g.key q k l = f.key p i j then
        (if f.resetVal p i j = g.resetVal q k l then v % 2 ^ f.w else (s.wrx p f i j v).rdx q g k l)
      else s.rdx q g k l := by
  unfold State.rdx State.wrx
  split
  · split
    · next h1 h2 => simp [h1, h2]
    · rfl
  · next h =>
    unfold SMap.val SMap.put
    split
    · rw [SMap.at?_del_of_ne _ h]
    · rw [SMap.at?_enter]; simp [h]

@[simp] theorem State.rdx_wrx_self (s : State) (p : Nat) (f : Fld) (i j v : Nat) :
    (s.wrx p f i j v).rdx p f i j = v % 2 ^ f.w := by simp [State.rdx_wrx]

theorem State.rdx_wrx_of_ne (s : State) {p q : Nat} {f g : Fld} {i j k l : Nat} (v : Nat)
    (h : g.key q k l ≠ f.key p i j) : (s.wrx p f i j v).rdx q g k l = s.rdx q g k l := by
  rw [State.rdx_wrx]; simp [h]

@[simp] theorem State.rd_wr_self (s : State) (p : Nat) (f : Fld) (v : Nat) : (s.wr p f v).rd p f = v % 2 ^ f.w :=
  State.rdx_wrx_self s p f 0 0 v

theorem State.rd_wr_of_ne (s : State) {p q : Nat} {f g : Fld} (v : Nat) (h : g.key q 0 0 ≠ f.key p 0 0) :
    (s.wr p f v).rd q g = s.rd q g := State.rdx_wrx_of_ne s v h

@[simp] theorem State.rdi_wri_self (s : State) (p : Nat) (f : Fld) (i v : Nat) :
    (s.wri p f i v).rdi p f i = v % 2 ^ f.w := State.rdx_wrx_self s p f i 0 v

/-- A write lists no other key anew. -/
theorem State.at?_wrx_of_ne (s : State) (p : Nat) (f : Fld) (i j v : Nat) {k : Nat} (h : k ≠ f.key p i j) :
    (s.wrx p f i j v).regs.at? k = s.regs.at? k := by
  unfold State.wrx SMap.put
  dsimp only
  split
  · exact SMap.at?_del_of_ne _ h
  · rw [SMap.at?_enter]; simp [h]

/-- A field reads what the registers hold, whatever else changes. -/
theorem State.rdx_congr {s t : State} (h : t.regs = s.regs) (p : Nat) (f : Fld) (i j : Nat) : t.rdx p f i j = s.rdx p f i j := by
  unfold State.rdx; rw [h]

@[simp] theorem State.rd_set1_self (s : State) (p : Nat) (f : Fld) : (s.set1 p f).rd p f = 1 % 2 ^ f.w :=
  (State.rdx_congr (State.mark_regs _ _ _) p f 0 0).trans (State.rd_wr_self s p f 1)

@[simp] theorem State.vector_regs (s : State) (v : Nat) : (s.vector v).regs = s.regs := by
  unfold State.vector; split <;> [rfl; (split <;> rfl)]

@[simp] theorem State.rd_vector (s : State) (v p : Nat) (f : Fld) : (s.vector v).rd p f = s.rd p f :=
  State.rdx_congr (State.vector_regs s v) p f 0 0

/-- Outside the safe state an unmasked vector is sent, a masked one is kept pending (R57). -/
theorem State.vector_cases (s : State) (v : Nat) :
    (s.isSafe = true ∧ s.vector v = s) ∨
    (s.isSafe = false ∧ s.host.unmasked.val false v = true ∧ s.vector v = s.send (s.message v)) ∨
    (s.isSafe = false ∧ s.host.unmasked.val false v = false ∧
      s.vector v = { s with host := { s.host with pba := s.host.pba.put false v true } }) := by
  unfold State.vector
  cases s.isSafe <;> cases s.host.unmasked.val false v <;> simp

@[simp] theorem State.given_true (s : State) (f : State → State) : s.given true f = f s := rfl
@[simp] theorem State.given_false (s : State) (f : State → State) : s.given false f = s := rfl

/-- An access to a page may only clear its domain's GATED (R47). -/
theorem State.wakeClock_eq (s : State) (p : Nat) : s.wakeClock p = { s with mtn := (s.wakeClock p).mtn } := by
  unfold State.wakeClock
  split
  · dsimp only
    split <;> rfl
  · rfl

@[simp] theorem State.wakeClock_regs (s : State) (p : Nat) : (s.wakeClock p).regs = s.regs := by rw [State.wakeClock_eq]
@[simp] theorem State.rd_wakeClock (s : State) (q p : Nat) (f : Fld) : (s.wakeClock q).rd p f = s.rd p f :=
  State.rdx_congr (State.wakeClock_regs s q) p f 0 0
@[simp] theorem State.rdi_wakeClock (s : State) (q p : Nat) (f : Fld) (i : Nat) : (s.wakeClock q).rdi p f i = s.rdi p f i :=
  State.rdx_congr (State.wakeClock_regs s q) p f i 0

theorem State.running_of {s : State} (h : s.stopped = false) (f : State → State) : s.running f = f s := by
  simp [State.running, h]

theorem State.written_of {s : State} {p : Nat} (h : s.stopped = false) (hs : s.shut p = false) (f : State → State) :
    s.written p f = f (s.wakeClock p) := by simp [State.written, h, hs]

/-- Bytes stored below an address are not found from it on. -/
theorem ddrStore_val_of_lt (bs : List Byte) (m : SMap Byte) (a k : Nat) (h : k < a) :
    (ddrStore m a bs).val 0 k = m.val 0 k := by
  induction bs generalizing m a with
  | nil => rfl
  | cons b r ih =>
    rw [ddrStore, ih _ _ (by omega), SMap.val_put]
    simp [Nat.ne_of_lt h]

/-- A DDR5 byte after a store: the byte stored there, or what it was. -/
theorem ddrStore_val (bs : List Byte) (m : SMap Byte) (a k : Nat) :
    (ddrStore m a bs).val 0 k = if a ≤ k ∧ k < a + bs.length then bs.getD (k - a) 0 else m.val 0 k := by
  induction bs generalizing m a with
  | nil => simp [ddrStore]
  | cons b r ih =>
    rw [ddrStore, ih, SMap.val_put]
    rcases Nat.lt_trichotomy k a with h | h | h
    · simp [Nat.ne_of_lt h]; split <;> [omega; (split <;> [omega; rfl])]
    · subst h; simp
    · have h1 : k ≠ a := by omega
      have h2 : k - a = k - (a + 1) + 1 := by omega
      rw [h2]
      simp only [h1, if_false, List.length_cons, List.getD_cons_succ]
      split <;> split <;> first | rfl | omega

end Sys2Proof.Machine
end

