-- ==== Sys2Proof/Laws/Touches.lean ====
section
/-! SUPPORT. What a helper of the machine may touch: from one state to the next only the parts named move, and the
canonical forms of the registers and of DDR5 are kept. One lemma for each way of building a state. -/

namespace Sys2Proof.Machine

/-- From `s` to `t` only the parts in `ps` move, registers stay sorted, DDR5 keeps its canonical form. -/
structure Touches (ps : Piece → Prop) (s t : State) : Prop where
  same : ∀ p, ¬ ps p → Piece.same s t p
  regs : s.regs.sorted = true → t.regs.sorted = true
  ddr : s.ddr.wf 0 = true → t.ddr.wf 0 = true

/-- The outcome is a next state that `Touches` holds of. -/
def Moves (ps : Piece → Prop) (s : State) (o : Out) : Prop := ∃ t, o = .next t ∧ Touches ps s t

theorem Touches.refl (ps : Piece → Prop) (s : State) : Touches ps s s :=
  ⟨fun p _ => by cases p <;> rfl, id, id⟩

theorem Touches.mono {ps qs : Piece → Prop} {s t : State} (h : Touches ps s t) (hs : ∀ p, ps p → qs p) : Touches qs s t :=
  ⟨fun p hp => h.same p (fun hq => hp (hs p hq)), h.regs, h.ddr⟩

theorem Moves.next {ps : Piece → Prop} {s t : State} (h : Touches ps s t) : Moves ps s (.next t) := ⟨t, rfl, h⟩

theorem Moves.ite {ps : Piece → Prop} {s : State} {c : Prop} [Decidable c] {a b : Out}
    (ha : Moves ps s a) (hb : Moves ps s b) : Moves ps s (if c then a else b) := by
  split
  · exact ha
  · exact hb

theorem Touches.ite {ps : Piece → Prop} {s a b : State} {c : Prop} [Decidable c]
    (ha : Touches ps s a) (hb : Touches ps s b) : Touches ps s (if c then a else b) := by
  split
  · exact ha
  · exact hb

theorem Touches.foldl {ps : Piece → Prop} {s a : State} {α : Type} {f : State → α → State} {l : List α}
    (hf : ∀ t x, Touches ps s t → Touches ps s (f t x)) (ha : Touches ps s a) : Touches ps s (l.foldl f a) := by
  induction l generalizing a with
  | nil => exact ha
  | cons x r ih => exact ih (hf a x ha)

theorem Touches.foldr {ps : Piece → Prop} {s a : State} {α : Type} {f : α → State → State} {l : List α}
    (hf : ∀ t x, Touches ps s t → Touches ps s (f x t)) (ha : Touches ps s a) : Touches ps s (l.foldr f a) := by
  induction l with
  | nil => exact ha
  | cons x r ih => exact hf _ x ih

theorem Touches.upd_regs {ps : Piece → Prop} {s t : State} {x : SMap Nat} (hp : ps .regs) (hx : t.regs.sorted = true → x.sorted = true) (h : Touches ps s t) :
    Touches ps s { t with regs := x } :=
  ⟨fun p hn => by cases p <;> first | exact absurd hp hn | exact h.same _ hn, fun hs => hx (h.regs hs), h.ddr⟩

theorem Touches.upd_time {ps : Piece → Prop} {s t : State} {x : Nat} (hp : ps .time) (h : Touches ps s t) :
    Touches ps s { t with time := x } :=
  ⟨fun p hn => by cases p <;> first | exact absurd hp hn | exact h.same _ hn, h.regs, h.ddr⟩

theorem Touches.upd_free {ps : Piece → Prop} {s t : State} {x : Nat} (hp : ps .free) (h : Touches ps s t) :
    Touches ps s { t with free := x } :=
  ⟨fun p hn => by cases p <;> first | exact absurd hp hn | exact h.same _ hn, h.regs, h.ddr⟩

theorem Touches.upd_out {ps : Piece → Prop} {s t : State} {x : List Output} (hp : ps .out) (h : Touches ps s t) :
    Touches ps s { t with out := x } :=
  ⟨fun p hn => by cases p <;> first | exact absurd hp hn | exact h.same _ hn, h.regs, h.ddr⟩

theorem Touches.upd_ddr {ps : Piece → Prop} {s t : State} {x : SMap Byte} (hp : ps .ddr) (hx : t.ddr.wf 0 = true → x.wf 0 = true) (h : Touches ps s t) :
    Touches ps s { t with ddr := x } :=
  ⟨fun p hn => by cases p <;> first | exact absurd hp hn | exact h.same _ hn, h.regs, fun hs => hx (h.ddr hs)⟩

theorem Touches.upd_poison {ps : Piece → Prop} {s t : State} {x : SMap Bool} (hp : ps .poison) (h : Touches ps s t) :
    Touches ps s { t with poison := x } :=
  ⟨fun p hn => by cases p <;> first | exact absurd hp hn | exact h.same _ hn, h.regs, h.ddr⟩

theorem Touches.upd_host {ps : Piece → Prop} {s t : State} {x : HostFront} (hp : ps .host) (h : Touches ps s t) :
    Touches ps s { t with host := x } :=
  ⟨fun p hn => by cases p <;> first | exact absurd hp hn | exact h.same _ hn, h.regs, h.ddr⟩

theorem Touches.upd_latches {ps : Piece → Prop} {s t : State} {x : Latches} (hp : ps .latches) (h : Touches ps s t) :
    Touches ps s { t with latches := x } :=
  ⟨fun p hn => by cases p <;> first | exact absurd hp hn | exact h.same _ hn, h.regs, h.ddr⟩

theorem Touches.upd_hat {ps : Piece → Prop} {s t : State} {x : Hatband} (hp : ps .hat) (h : Touches ps s t) :
    Touches ps s { t with hat := x } :=
  ⟨fun p hn => by cases p <;> first | exact absurd hp hn | exact h.same _ hn, h.regs, h.ddr⟩

theorem Touches.upd_ticks {ps : Piece → Prop} {s t : State} {x : Ticks} (hp : ps .ticks) (h : Touches ps s t) :
    Touches ps s { t with ticks := x } :=
  ⟨fun p hn => by cases p <;> first | exact absurd hp hn | exact h.same _ hn, h.regs, h.ddr⟩

theorem Touches.upd_stamps {ps : Piece → Prop} {s t : State} {x : Stamps} (hp : ps .stamps) (h : Touches ps s t) :
    Touches ps s { t with stamps := x } :=
  ⟨fun p hn => by cases p <;> first | exact absurd hp hn | exact h.same _ hn, h.regs, h.ddr⟩

theorem Touches.upd_ucs {ps : Piece → Prop} {s t : State} {x : Knuckle} (hp : ps .ucs) (h : Touches ps s t) :
    Touches ps s { t with ucs := x } :=
  ⟨fun p hn => by cases p <;> first | exact absurd hp hn | exact h.same _ hn, h.regs, h.ddr⟩

theorem Touches.upd_brim {ps : Piece → Prop} {s t : State} {x : Brim} (hp : ps .brim) (h : Touches ps s t) :
    Touches ps s { t with brim := x } :=
  ⟨fun p hn => by cases p <;> first | exact absurd hp hn | exact h.same _ hn, h.regs, h.ddr⟩

theorem Touches.upd_tbl {ps : Piece → Prop} {s t : State} {x : Tables} (hp : ps .tbl) (h : Touches ps s t) :
    Touches ps s { t with tbl := x } :=
  ⟨fun p hn => by cases p <;> first | exact absurd hp hn | exact h.same _ hn, h.regs, h.ddr⟩

theorem Touches.upd_palm {ps : Piece → Prop} {s t : State} {x : Palm} (hp : ps .palm) (h : Touches ps s t) :
    Touches ps s { t with palm := x } :=
  ⟨fun p hn => by cases p <;> first | exact absurd hp hn | exact h.same _ hn, h.regs, h.ddr⟩

theorem Touches.upd_timing {ps : Piece → Prop} {s t : State} {x : Timing} (hp : ps .timing) (h : Touches ps s t) :
    Touches ps s { t with timing := x } :=
  ⟨fun p hn => by cases p <;> first | exact absurd hp hn | exact h.same _ hn, h.regs, h.ddr⟩

theorem Touches.upd_ses {ps : Piece → Prop} {s t : State} {x : Sessions} (hp : ps .ses) (h : Touches ps s t) :
    Touches ps s { t with ses := x } :=
  ⟨fun p hn => by cases p <;> first | exact absurd hp hn | exact h.same _ hn, h.regs, h.ddr⟩

theorem Touches.upd_ldg {ps : Piece → Prop} {s t : State} {x : Ledger} (hp : ps .ldg) (h : Touches ps s t) :
    Touches ps s { t with ldg := x } :=
  ⟨fun p hn => by cases p <;> first | exact absurd hp hn | exact h.same _ hn, h.regs, h.ddr⟩

theorem Touches.upd_vsr {ps : Piece → Prop} {s t : State} {x : Visor} (hp : ps .vsr) (h : Touches ps s t) :
    Touches ps s { t with vsr := x } :=
  ⟨fun p hn => by cases p <;> first | exact absurd hp hn | exact h.same _ hn, h.regs, h.ddr⟩

theorem Touches.upd_mtn {ps : Piece → Prop} {s t : State} {x : Mitten} (hp : ps .mtn) (h : Touches ps s t) :
    Touches ps s { t with mtn := x } :=
  ⟨fun p hn => by cases p <;> first | exact absurd hp hn | exact h.same _ hn, h.regs, h.ddr⟩

theorem Touches.upd_pwc {ps : Piece → Prop} {s t : State} {x : Pwc} (hp : ps .pwc) (h : Touches ps s t) :
    Touches ps s { t with pwc := x } :=
  ⟨fun p hn => by cases p <;> first | exact absurd hp hn | exact h.same _ hn, h.regs, h.ddr⟩

theorem Touches.upd_gnt {ps : Piece → Prop} {s t : State} {x : Gauntlet} (hp : ps .gnt) (h : Touches ps s t) :
    Touches ps s { t with gnt := x } :=
  ⟨fun p hn => by cases p <;> first | exact absurd hp hn | exact h.same _ hn, h.regs, h.ddr⟩

theorem Touches.upd_crown {ps : Piece → Prop} {s t : State} {x : Crown} (hp : ps .crown) (h : Touches ps s t) :
    Touches ps s { t with crown := x } :=
  ⟨fun p hn => by cases p <;> first | exact absurd hp hn | exact h.same _ hn, h.regs, h.ddr⟩

theorem Touches.upd_dram {ps : Piece → Prop} {s t : State} {x : Dram} (hp : ps .dram) (h : Touches ps s t) :
    Touches ps s { t with dram := x } :=
  ⟨fun p hn => by cases p <;> first | exact absurd hp hn | exact h.same _ hn, h.regs, h.ddr⟩

theorem Touches.upd_boot {ps : Piece → Prop} {s t : State} {x : Boot} (hp : ps .boot) (h : Touches ps s t) :
    Touches ps s { t with boot := x } :=
  ⟨fun p hn => by cases p <;> first | exact absurd hp hn | exact h.same _ hn, h.regs, h.ddr⟩

theorem Touches.multi {ps : Piece → Prop} {s b e : State} (h : Touches ps s b) (hs : ∀ p, ¬ ps p → Piece.same b e p)
    (hr : b.regs.sorted = true → e.regs.sorted = true) (hd : b.ddr.wf 0 = true → e.ddr.wf 0 = true) : Touches ps s e :=
  ⟨fun p hp => by
    have h1 := h.same p hp
    have h2 := hs p hp
    cases p <;> exact h2.trans h1, fun x => hr (h.regs x), fun x => hd (h.ddr x)⟩

theorem Touches.of_snd {ps : Piece → Prop} {s t : State} {α : Type} {p : α × State} {a : α} (he : p = (a, t))
    (h : Touches ps s p.2) : Touches ps s t := by subst he; exact h

theorem Touches.of_fst {ps : Piece → Prop} {s t : State} {α : Type} {p : State × α} {a : α} (he : p = (t, a))
    (h : Touches ps s p.1) : Touches ps s t := by subst he; exact h

theorem Touches.of_snd2 {ps : Piece → Prop} {s t : State} {α β : Type} {p : α × β × State} {a : α} {b : β} (he : p = (a, b, t))
    (h : Touches ps s p.2.2) : Touches ps s t := by subst he; exact h

theorem Touches.of_snd3 {ps : Piece → Prop} {s t : State} {α β γ : Type} {p : α × β × γ × State} {a : α} {b : β} {c : γ}
    (he : p = (a, b, c, t)) (h : Touches ps s p.2.2.2) : Touches ps s t := by subst he; exact h

theorem Touches.of_snd_state {ps : Piece → Prop} {s : State} {α : Type} {p : α × Fetch} {a : α} {x : Fetch} (he : p = (a, x))
    (h : Touches ps s p.2.state) : Touches ps s x.state := by subst he; exact h

theorem Touches.of_some {ps : Piece → Prop} {s t : State} {o : Option State} (he : o = some t)
    (h : ∀ x, o = some x → Touches ps s x) : Touches ps s t := h t he

theorem Touches.of_some_snd {ps : Piece → Prop} {s t : State} {α : Type} {o : Option (α × State)} {a : α} (he : o = some (a, t))
    (h : ∀ x, o = some x → Touches ps s x.2) : Touches ps s t := h _ he

theorem Touches.of_ok_snd {ps : Piece → Prop} {s t : State} {ε α : Type} {o : Except ε (α × State)} {a : α} (he : o = .ok (a, t))
    (h : ∀ x, o = .ok x → Touches ps s x.2) : Touches ps s t := h _ he

theorem Touches.foldl_snd {ps : Piece → Prop} {s : State} {α β : Type} {f : α × State → β → α × State} {l : List β}
    {a : α × State} (hf : ∀ p x, Touches ps s p.2 → Touches ps s (f p x).2) (ha : Touches ps s a.2) :
    Touches ps s (l.foldl f a).2 := by
  induction l generalizing a with
  | nil => exact ha
  | cons x r ih => exact ih (hf a x ha)

theorem Touches.foldl_fst {ps : Piece → Prop} {s : State} {α β : Type} {f : State × α → β → State × α} {l : List β}
    {a : State × α} (hf : ∀ p x, Touches ps s p.1 → Touches ps s (f p x).1) (ha : Touches ps s a.1) :
    Touches ps s (l.foldl f a).1 := by
  induction l generalizing a with
  | nil => exact ha
  | cons x r ih => exact ih (hf a x ha)

theorem SMap.sorted_filter {α : Type} (m : SMap α) (p : Nat × α → Bool) (h : m.sorted = true) :
    (SMap.sorted (List.filter p m)) = true := by
  rw [SMap.sorted_iff] at *
  exact h.filter _

theorem SMap.wf_filter {α : Type} [DecidableEq α] (d : α) (m : SMap α) (p : Nat × α → Bool) (h : m.wf d = true) :
    (SMap.wf d (List.filter p m)) = true := by
  simp only [SMap.wf, Bool.and_eq_true, List.all_eq_true] at *
  exact ⟨SMap.sorted_filter m p h.1, fun x hx => h.2 x (List.mem_filter.1 hx).1⟩

/-- A store into DDR5 keeps its canonical form. -/
theorem ddrStore_wf (m : SMap Byte) (a : Nat) (bs : List Byte) (h : m.wf 0 = true) : (ddrStore m a bs).wf 0 = true := by
  induction bs generalizing m a with
  | nil => exact h
  | cons b r ih => exact ih _ _ (SMap.wf_put 0 m a b h)

end Sys2Proof.Machine
end

