-- ==== Sys2Proof/Laws/TouchOps.lean ====
section
/-! SUPPORT. What the operations of Machine/Ops.lean may touch: one lemma for each. -/

set_option maxRecDepth 10000

namespace Sys2Proof.Machine

theorem State.wrx_touches {ps : Piece → Prop} {s0 : State} (h_regs : ps .regs) {v0 : State} {v1 : ℕ} {v2 : Fld} {v3 : ℕ} {v4 : ℕ} {v5 : ℕ} (h0 : Touches ps s0 v0) :
    Touches ps s0 (State.wrx v0 v1 v2 v3 v4 v5) := by
  unfold State.wrx
  refine (Touches.upd_regs h_regs ?_ ?_)
  · first | exact fun hs => SMap.sorted_put _ _ _ _ hs | exact fun hs => SMap.sorted_enter _ _ _ hs | exact fun hs => SMap.sorted_filter _ _ hs
  · assumption

theorem State.wr_touches {ps : Piece → Prop} {s0 : State} (h_regs : ps .regs) {v0 : State} {v1 : ℕ} {v2 : Fld} {v3 : ℕ} (h0 : Touches ps s0 v0) :
    Touches ps s0 (State.wr v0 v1 v2 v3) := by
  unfold State.wr
  refine State.wrx_touches h_regs ?_
  assumption

theorem State.addBw_touches {ps : Piece → Prop} {s0 : State} (h_vsr : ps .vsr) {v0 : State} {v1 : ℕ} {v2 : Bool} {v3 : ℕ} {v4 : T80} (h0 : Touches ps s0 v0) :
    Touches ps s0 (State.addBw v0 v1 v2 v3 v4) := by
  unfold State.addBw
  lift_lets
  intro x0
  clear_value x0
  intro x1
  clear_value x1
  intro x2
  clear_value x2
  intro x3
  clear_value x3
  intro x4
  clear_value x4
  intro x5
  clear_value x5
  refine Touches.ite ?_ ?_
  · assumption
  · refine (Touches.upd_vsr h_vsr ?_)
    assumption

theorem State.addCount_touches {ps : Piece → Prop} {s0 : State} (h_regs : ps .regs) (h_vsr : ps .vsr) {v0 : State} {v1 : ℕ} {v2 : ℕ} {v3 : T80} (h0 : Touches ps s0 v0) :
    Touches ps s0 (State.addCount v0 v1 v2 v3) := by
  unfold State.addCount
  refine Touches.ite ?_ ?_
  · assumption
  · lift_lets
    intro x0
    have hx1 : Touches ps s0 x0 := by
      unfold x0
      refine (Touches.upd_regs h_regs ?_ ?_)
      · first | exact fun hs => SMap.sorted_put _ _ _ _ hs | exact fun hs => SMap.sorted_enter _ _ _ hs | exact fun hs => SMap.sorted_filter _ _ hs
      · assumption
    clear_value x0
    intro x2
    clear_value x2
    split
    · refine Touches.ite ?_ ?_
      · refine (Touches.upd_vsr h_vsr ?_)
        assumption
      · assumption
    · assumption

theorem State.count_touches {ps : Piece → Prop} {s0 : State} (h_regs : ps .regs) (h_vsr : ps .vsr) {v0 : State} {v1 : ℕ} {v2 : ℕ} {v3 : ℕ} {v4 : Option T80} (h0 : Touches ps s0 v0) :
    Touches ps s0 (State.count v0 v1 v2 v3 v4) := by
  unfold State.count
  lift_lets
  intro x0
  clear_value x0
  intro x1
  have hx2 : Touches ps s0 x1 := by
    unfold x1
    refine Touches.ite ?_ ?_
    · refine State.addBw_touches h_vsr ?_
      assumption
    · refine Touches.ite ?_ ?_
      · refine State.addBw_touches h_vsr ?_
        assumption
      · assumption
  clear_value x1
  intro x3
  have hx4 : Touches ps s0 x3 := by
    unfold x3
    split
    · refine State.addCount_touches h_regs h_vsr ?_
      assumption
    · assumption
  clear_value x3
  refine Touches.foldl (fun _ _ _ => ?_) ?_
  · refine State.addCount_touches h_regs h_vsr ?_
    assumption
  · assumption

theorem State.mark_touches {ps : Piece → Prop} {s0 : State} (h_latches : ps .latches) {v0 : State} {v1 : ℕ} {v2 : ℕ} (h0 : Touches ps s0 v0) :
    Touches ps s0 (State.mark v0 v1 v2) := by
  unfold State.mark
  lift_lets
  intro x0
  clear_value x0
  refine (Touches.upd_latches h_latches ?_)
  assumption

theorem State.wri_touches {ps : Piece → Prop} {s0 : State} (h_regs : ps .regs) {v0 : State} {v1 : ℕ} {v2 : Fld} {v3 : ℕ} {v4 : ℕ} (h0 : Touches ps s0 v0) :
    Touches ps s0 (State.wri v0 v1 v2 v3 v4) := by
  unfold State.wri
  refine State.wrx_touches h_regs ?_
  assumption

theorem State.putBitAt_touches {ps : Piece → Prop} {s0 : State} (h_regs : ps .regs) {v0 : State} {v1 : ℕ} {v2 : Fld} {v3 : ℕ} {v4 : Bool} (h0 : Touches ps s0 v0) :
    Touches ps s0 (State.putBitAt v0 v1 v2 v3 v4) := by
  unfold State.putBitAt
  refine State.wri_touches h_regs ?_
  assumption

theorem State.setBit_touches {ps : Piece → Prop} {s0 : State} (h_regs : ps .regs) (h_latches : ps .latches) {v0 : State} {v1 : ℕ} {v2 : Fld} {v3 : ℕ} (h0 : Touches ps s0 v0) :
    Touches ps s0 (State.setBit v0 v1 v2 v3) := by
  unfold State.setBit
  refine State.mark_touches h_latches ?_
  refine State.putBitAt_touches h_regs ?_
  assumption

theorem State.refreshErr_touches {ps : Piece → Prop} {s0 : State} (h_regs : ps .regs) {v0 : State} {v1 : ℕ} (h0 : Touches ps s0 v0) :
    Touches ps s0 (State.refreshErr v0 v1) := by
  unfold State.refreshErr
  refine State.wr_touches h_regs ?_
  assumption

theorem State.send_touches {ps : Piece → Prop} {s0 : State} (h_out : ps .out) {v0 : State} {v1 : Output} (h0 : Touches ps s0 v0) :
    Touches ps s0 (State.send v0 v1) := by
  unfold State.send
  refine (Touches.upd_out h_out ?_)
  assumption

theorem State.vector_touches {ps : Piece → Prop} {s0 : State} (h_out : ps .out) (h_host : ps .host) {v0 : State} {v1 : ℕ} (h0 : Touches ps s0 v0) :
    Touches ps s0 (State.vector v0 v1) := by
  unfold State.vector
  refine Touches.ite ?_ ?_
  · assumption
  · refine Touches.ite ?_ ?_
    · refine State.send_touches h_out ?_
      assumption
    · lift_lets
      intro x0
      clear_value x0
      refine (Touches.upd_host h_host ?_)
      assumption

theorem State.setReal_touches {ps : Piece → Prop} {s0 : State} (h_regs : ps .regs) (h_out : ps .out) (h_host : ps .host) (h_latches : ps .latches) {v0 : State} {v1 : ℕ} {v2 : ℕ} (h0 : Touches ps s0 v0) :
    Touches ps s0 (State.setReal v0 v1 v2) := by
  unfold State.setReal
  lift_lets
  intro x0
  have hx1 : Touches ps s0 x0 := by
    unfold x0
    refine State.refreshErr_touches h_regs ?_
    refine State.setBit_touches h_regs h_latches ?_
    assumption
  clear_value x0
  intro x2
  clear_value x2
  intro x3
  have hx4 : Touches ps s0 x3 := by
    unfold x3
    refine (Touches.upd_latches h_latches ?_)
    assumption
  clear_value x3
  refine Touches.ite ?_ ?_
  · assumption
  · split
    · refine State.vector_touches h_out h_host ?_
      assumption
    · assumption

theorem State.raise_touches {ps : Piece → Prop} {s0 : State} (h_regs : ps .regs) (h_out : ps .out) (h_host : ps .host) (h_latches : ps .latches) {v0 : State} {v1 : ℕ} {v2 : ℕ} (h0 : Touches ps s0 v0) :
    Touches ps s0 (State.raise v0 v1 v2) := by
  unfold State.raise
  refine Touches.ite ?_ ?_
  · lift_lets
    intro x0
    have hx1 : Touches ps s0 x0 := by
      unfold x0
      refine State.setBit_touches h_regs h_latches ?_
      assumption
    clear_value x0
    intro x2
    clear_value x2
    refine Touches.ite ?_ ?_
    · assumption
    · refine (Touches.upd_latches h_latches ?_)
      assumption
  · refine State.setReal_touches h_regs h_out h_host h_latches ?_
    assumption

theorem State.set1_touches {ps : Piece → Prop} {s0 : State} (h_regs : ps .regs) (h_latches : ps .latches) {v0 : State} {v1 : ℕ} {v2 : Fld} (h0 : Touches ps s0 v0) :
    Touches ps s0 (State.set1 v0 v1 v2) := by
  unfold State.set1
  refine State.mark_touches h_latches ?_
  refine State.wr_touches h_regs ?_
  assumption

theorem State.noteCount_touches {ps : Piece → Prop} {s0 : State} (h_latches : ps .latches) {v0 : State} {v1 : ℕ} {v2 : Fld} {v3 : ℕ} {v4 : ℕ} (h0 : Touches ps s0 v0) :
    Touches ps s0 (State.noteCount v0 v1 v2 v3 v4) := by
  unfold State.noteCount
  refine Touches.ite ?_ ?_
  · refine State.mark_touches h_latches ?_
    assumption
  · assumption

theorem State.bumpi_touches {ps : Piece → Prop} {s0 : State} (h_regs : ps .regs) (h_latches : ps .latches) {v0 : State} {v1 : ℕ} {v2 : Fld} {v3 : ℕ} {v4 : ℕ} (h0 : Touches ps s0 v0) :
    Touches ps s0 (State.bumpi v0 v1 v2 v3 v4) := by
  unfold State.bumpi
  refine State.noteCount_touches h_latches ?_
  refine State.wri_touches h_regs ?_
  assumption

theorem State.bump_touches {ps : Piece → Prop} {s0 : State} (h_regs : ps .regs) (h_latches : ps .latches) {v0 : State} {v1 : ℕ} {v2 : Fld} {v3 : ℕ} (h0 : Touches ps s0 v0) :
    Touches ps s0 (State.bump v0 v1 v2 v3) := by
  unfold State.bump
  refine State.bumpi_touches h_regs h_latches ?_
  assumption

theorem State.drop_touches {ps : Piece → Prop} {s0 : State} (h_regs : ps .regs) {v0 : State} {v1 : ℕ} {v2 : Fld} {v3 : ℕ} (h0 : Touches ps s0 v0) :
    Touches ps s0 (State.drop v0 v1 v2 v3) := by
  unfold State.drop
  refine State.wr_touches h_regs ?_
  assumption

theorem State.ddrWrite_touches {ps : Piece → Prop} {s0 : State} (h_ddr : ps .ddr) (h_poison : ps .poison) {v0 : State} {v1 : ℕ} {v2 : List Byte} (h0 : Touches ps s0 v0) :
    Touches ps s0 (State.ddrWrite v0 v1 v2) := by
  unfold State.ddrWrite
  refine Touches.multi (b := v0) ?_ (fun p hn => by cases p <;> first | exact absurd (by assumption) hn | rfl) (fun hs => hs) ?_
  · assumption
  · first | exact fun hs => ddrStore_wf _ _ _ hs | exact fun hs => SMap.wf_filter _ _ _ hs | exact fun _ => rfl

theorem State.ringWrite_touches {ps : Piece → Prop} {s0 : State} (h_ddr : ps .ddr) (h_poison : ps .poison) {v0 : State} {v1 : ℕ} {v2 : ℕ} {v3 : ℕ} {v4 : List Byte} (h0 : Touches ps s0 v0) :
    Touches ps s0 (State.ringWrite v0 v1 v2 v3 v4) := by
  unfold State.ringWrite
  refine State.ddrWrite_touches h_ddr h_poison ?_
  refine State.ddrWrite_touches h_ddr h_poison ?_
  assumption

theorem State.wakeClock_touches {ps : Piece → Prop} {s0 : State} (h_mtn : ps .mtn) {v0 : State} {v1 : ℕ} (h0 : Touches ps s0 v0) :
    Touches ps s0 (State.wakeClock v0 v1) := by
  unfold State.wakeClock
  split
  · lift_lets
    intro x0
    clear_value x0
    intro x1
    clear_value x1
    refine Touches.ite ?_ ?_
    · refine (Touches.upd_mtn h_mtn ?_)
      assumption
    · assumption
  · assumption

theorem State.written_touches {ps : Piece → Prop} {s0 : State} (h_regs : ps .regs) (h_latches : ps .latches) (h_mtn : ps .mtn) {v0 : State} {v1 : ℕ} {v2 : State → State} (h0 : Touches ps s0 v0) (h1 : ∀ a0, Touches ps s0 a0 → Touches ps s0 (v2 a0)) :
    Touches ps s0 (State.written v0 v1 v2) := by
  unfold State.written
  refine Touches.ite ?_ ?_
  · assumption
  · refine Touches.ite ?_ ?_
    · refine State.set1_touches h_regs h_latches ?_
      assumption
    · refine h1 _ ?_
      refine State.wakeClock_touches h_mtn ?_
      assumption

theorem State.given_touches {ps : Piece → Prop} {s0 : State} {v0 : State} {v1 : Bool} {v2 : State → State} (h0 : Touches ps s0 v0) (h1 : ∀ a0, Touches ps s0 a0 → Touches ps s0 (v2 a0)) :
    Touches ps s0 (State.given v0 v1 v2) := by
  unfold State.given
  refine Touches.ite ?_ ?_
  · refine h1 _ ?_
    assumption
  · assumption

theorem State.wrPair_touches {ps : Piece → Prop} {s0 : State} (h_regs : ps .regs) {v0 : State} {v1 : ℕ} {v2 : Fld} {v3 : Fld} {v4 : T80} (h0 : Touches ps s0 v0) :
    Touches ps s0 (State.wrPair v0 v1 v2 v3 v4) := by
  unfold State.wrPair
  refine State.wr_touches h_regs ?_
  refine State.wr_touches h_regs ?_
  assumption

theorem State.putLine_touches {ps : Piece → Prop} {s0 : State} (h_gnt : ps .gnt) {v0 : State} {v1 : ℕ} {v2 : LineRec} (h0 : Touches ps s0 v0) :
    Touches ps s0 (State.putLine v0 v1 v2) := by
  unfold State.putLine
  lift_lets
  intro x0
  clear_value x0
  refine (Touches.upd_gnt h_gnt ?_)
  assumption

theorem State.running_touches {ps : Piece → Prop} {s0 : State} {v0 : State} {v1 : State → State} (h0 : Touches ps s0 v0) (h1 : ∀ a0, Touches ps s0 a0 → Touches ps s0 (v1 a0)) :
    Touches ps s0 (State.running v0 v1) := by
  unfold State.running
  refine Touches.ite ?_ ?_
  · assumption
  · refine h1 _ ?_
    assumption

theorem State.periodic_touches {ps : Piece → Prop} {s0 : State} (h_ticks : ps .ticks) {v0 : State} {v1 : ℕ} {v2 : ℕ} {v3 : State → State} (h0 : Touches ps s0 v0) (h1 : ∀ a0, Touches ps s0 a0 → Touches ps s0 (v3 a0)) :
    Touches ps s0 (State.periodic v0 v1 v2 v3) := by
  unfold State.periodic
  refine Touches.ite ?_ ?_
  · lift_lets
    intro x0
    clear_value x0
    refine h1 _ ?_
    refine (Touches.upd_ticks h_ticks ?_)
    assumption
  · assumption

theorem recordBad_touches {ps : Piece → Prop} {s0 : State} (h_regs : ps .regs) (h_out : ps .out) (h_host : ps .host) (h_latches : ps .latches) {v0 : ℕ} {v1 : ℕ} {v2 : State} (h0 : Touches ps s0 v2) :
    Touches ps s0 (recordBad v0 v1 v2) := by
  unfold recordBad
  refine State.vector_touches h_out h_host ?_
  refine State.raise_touches h_regs h_out h_host h_latches ?_
  refine State.wr_touches h_regs ?_
  refine State.bump_touches h_regs h_latches ?_
  refine State.wr_touches h_regs ?_
  assumption

theorem State.clear1_touches {ps : Piece → Prop} {s0 : State} (h_regs : ps .regs) {v0 : State} {v1 : ℕ} {v2 : Fld} (h0 : Touches ps s0 v0) :
    Touches ps s0 (State.clear1 v0 v1 v2) := by
  unfold State.clear1
  refine Touches.ite ?_ ?_
  · refine State.wr_touches h_regs ?_
    assumption
  · assumption

end Sys2Proof.Machine
end

