-- ==== Sys2Proof/Laws/TouchBundle.lean ====
section
/-! SUPPORT. What the operations of Machine/Bundle.lean may touch: one lemma for each. -/

set_option maxRecDepth 10000

namespace Sys2Proof.Machine

theorem addToFlash_touches {ps : Piece → Prop} {s0 : State} (h_regs : ps .regs) (h_out : ps .out) (h_host : ps .host) (h_latches : ps .latches) (h_crown : ps .crown) {v0 : List Byte} {v1 : State} (h0 : Touches ps s0 v1) :
    Touches ps s0 (addToFlash v0 v1).1 := by
  unfold addToFlash
  lift_lets
  intro x0
  clear_value x0
  intro x1
  clear_value x1
  intro x2
  clear_value x2
  intro x3
  clear_value x3
  intro x4
  clear_value x4
  split
  · dsimp only
    refine State.raise_touches h_regs h_out h_host h_latches ?_
    assumption
  · split
    lift_lets
    intro x5
    clear_value x5
    dsimp only
    refine (Touches.upd_crown h_crown ?_)
    assumption

end Sys2Proof.Machine
end

