-- ==== Sys2Proof/Laws/TouchPower.lean ====
section
/-! SUPPORT. What the operations of Machine/Power.lean may touch: one lemma for each. -/

set_option maxRecDepth 10000

namespace Sys2Proof.Machine

theorem showDom_touches {ps : Piece → Prop} {s0 : State} (h_regs : ps .regs) {v0 : ℕ} {v1 : State} (h0 : Touches ps s0 v1) :
    Touches ps s0 (showDom v0 v1) := by
  unfold showDom
  lift_lets
  intro x0
  clear_value x0
  intro x1
  clear_value x1
  intro x2
  have hx3 : Touches ps s0 x2 := by
    unfold x2
    refine State.wr_touches h_regs ?_
    refine State.wr_touches h_regs ?_
    refine State.wr_touches h_regs ?_
    refine State.wr_touches h_regs ?_
    assumption
  clear_value x2
  refine State.putBitAt_touches h_regs ?_
  refine State.putBitAt_touches h_regs ?_
  refine State.wr_touches h_regs ?_
  refine State.wr_touches h_regs ?_
  assumption

theorem State.putDom_touches {ps : Piece → Prop} {s0 : State} (h_regs : ps .regs) (h_out : ps .out) (h_host : ps .host) (h_mtn : ps .mtn) {v0 : State} {v1 : ℕ} {v2 : Dom} (h0 : Touches ps s0 v0) :
    Touches ps s0 (State.putDom v0 v1 v2) := by
  unfold State.putDom
  lift_lets
  intro x0
  clear_value x0
  intro x1
  clear_value x1
  intro x2
  have hx3 : Touches ps s0 x2 := by
    unfold x2
    refine showDom_touches h_regs ?_
    refine (Touches.upd_mtn h_mtn ?_)
    assumption
  clear_value x2
  refine Touches.ite ?_ ?_
  · refine State.vector_touches h_out h_host ?_
    assumption
  · assumption

theorem sendAvs_touches {ps : Piece → Prop} {s0 : State} (h_regs : ps .regs) (h_out : ps .out) (h_mtn : ps .mtn) {v0 : List AvsTx} {v1 : State} (h0 : Touches ps s0 v1) :
    Touches ps s0 (sendAvs v0 v1) := by
  induction v0 generalizing v1 with
  | nil => exact State.wr_touches h_regs (Touches.upd_mtn h_mtn h0)
  | cons tx r ih =>
    unfold sendAvs
    dsimp only
    have hs : ∀ rail mv t, Touches ps s0 t → Touches ps s0
        (({ t with mtn := { t.mtn with avs := { tx with since := t.mono } :: r } }.send (.avs rail mv)).wr 0x32 F.mtn2_AVS_STATUS_BUSY 1) :=
      fun _ _ _ ht => State.wr_touches h_regs (State.send_touches h_out (Touches.upd_mtn h_mtn ht))
    split
    · exact ih (State.send_touches h_out (Touches.upd_mtn h_mtn h0))
    · exact hs _ _ _ h0
    · exact hs _ _ _ h0
    · exact hs _ _ _ h0

theorem queueAvs_touches {ps : Piece → Prop} {s0 : State} (h_regs : ps .regs) (h_out : ps .out) (h_mtn : ps .mtn) {v0 : AvsKind} {v1 : State} (h0 : Touches ps s0 v1) :
    Touches ps s0 (queueAvs v0 v1) := by
  unfold queueAvs
  lift_lets
  intro x0
  clear_value x0
  intro x1
  clear_value x1
  intro x2
  clear_value x2
  split
  · refine sendAvs_touches h_regs h_out h_mtn ?_
    assumption
  · lift_lets
    intro x3
    clear_value x3
    refine (Touches.upd_mtn h_mtn ?_)
    assumption

theorem startWake_touches {ps : Piece → Prop} {s0 : State} (h_regs : ps .regs) (h_out : ps .out) (h_host : ps .host) (h_mtn : ps .mtn) {v0 : ℕ} {v1 : State} (h0 : Touches ps s0 v1) :
    Touches ps s0 (startWake v0 v1) := by
  unfold startWake
  lift_lets
  intro x0
  intro x1
  intro x2
  have hx3 : Touches ps s0 x2 := by
    unfold x2
    refine State.putDom_touches h_regs h_out h_host h_mtn ?_
    assumption
  clear_value x2
  refine Touches.ite ?_ ?_
  · refine State.putDom_touches h_regs h_out h_host h_mtn ?_
    assumption
  · refine Touches.ite ?_ ?_
    · assumption
    · refine queueAvs_touches h_regs h_out h_mtn ?_
      assumption

theorem recomputeDom_touches {ps : Piece → Prop} {s0 : State} (h_regs : ps .regs) (h_out : ps .out) (h_host : ps .host) (h_mtn : ps .mtn) {v0 : ℕ} {v1 : State} (h0 : Touches ps s0 v1) :
    Touches ps s0 (recomputeDom v0 v1) := by
  unfold recomputeDom
  lift_lets
  intro x0
  clear_value x0
  intro x1
  clear_value x1
  intro x2
  clear_value x2
  intro x3
  have hx4 : ∀ a0, Touches ps s0 (x3 a0) := by
    intro y5
    unfold x3
    refine State.putDom_touches h_regs h_out h_host h_mtn ?_
    assumption
  clear_value x3
  intro x6
  clear_value x6
  split
  · refine Touches.ite ?_ ?_
    · refine Touches.ite ?_ ?_
      · refine hx4 _
      · refine startWake_touches h_regs h_out h_host h_mtn ?_
        refine State.putDom_touches h_regs h_out h_host h_mtn ?_
        assumption
    · refine Touches.ite ?_ ?_
      · refine hx4 _
      · refine hx4 _
  · refine State.putDom_touches h_regs h_out h_host h_mtn ?_
    assumption
  · refine State.putDom_touches h_regs h_out h_host h_mtn ?_
    assumption

theorem recomputeBacking_touches {ps : Piece → Prop} {s0 : State} (h_regs : ps .regs) (h_out : ps .out) (h_host : ps .host) (h_mtn : ps .mtn) {v0 : State} (h0 : Touches ps s0 v0) :
    Touches ps s0 (recomputeBacking v0) := by
  unfold recomputeBacking
  refine Touches.foldl (fun _ _ _ => ?_) ?_
  · refine Touches.ite ?_ ?_
    · refine recomputeDom_touches h_regs h_out h_host h_mtn ?_
      assumption
    · assumption
  · assumption

theorem recomputePort_touches {ps : Piece → Prop} {s0 : State} (h_regs : ps .regs) (h_out : ps .out) (h_host : ps .host) (h_mtn : ps .mtn) {v0 : ℕ} {v1 : State} (h0 : Touches ps s0 v1) :
    Touches ps s0 (recomputePort v0 v1) := by
  unfold recomputePort
  refine recomputeBacking_touches h_regs h_out h_host h_mtn ?_
  refine recomputeDom_touches h_regs h_out h_host h_mtn ?_
  refine recomputeDom_touches h_regs h_out h_host h_mtn ?_
  assumption

theorem refreshLow_touches {ps : Piece → Prop} {s0 : State} (h_mtn : ps .mtn) {v0 : State} (h0 : Touches ps s0 v0) :
    Touches ps s0 (refreshLow v0) := by
  unfold refreshLow
  refine Touches.ite ?_ ?_
  · lift_lets
    intro x0
    clear_value x0
    refine (Touches.upd_mtn h_mtn ?_)
    assumption
  · refine Touches.ite ?_ ?_
    · assumption
    · lift_lets
      intro x1
      clear_value x1
      refine (Touches.upd_mtn h_mtn ?_)
      assumption

theorem recomputeDdr_touches {ps : Piece → Prop} {s0 : State} (h_regs : ps .regs) (h_out : ps .out) (h_host : ps .host) (h_mtn : ps .mtn) {v0 : State} (h0 : Touches ps s0 v0) :
    Touches ps s0 (recomputeDdr v0) := by
  unfold recomputeDdr
  refine Touches.foldl (fun _ _ _ => ?_) ?_
  · refine recomputeDom_touches h_regs h_out h_host h_mtn ?_
    assumption
  · assumption

theorem wakeCrown_touches {ps : Piece → Prop} {s0 : State} (h_regs : ps .regs) (h_out : ps .out) (h_host : ps .host) (h_mtn : ps .mtn) {v0 : State} (h0 : Touches ps s0 v0) :
    Touches ps s0 (wakeCrown v0) := by
  unfold wakeCrown
  lift_lets
  intro x0
  clear_value x0
  refine Touches.ite ?_ ?_
  · assumption
  · refine recomputeDom_touches h_regs h_out h_host h_mtn ?_
    refine State.putDom_touches h_regs h_out h_host h_mtn ?_
    assumption

theorem refreshFloor_touches {ps : Piece → Prop} {s0 : State} (h_regs : ps .regs) {v0 : State} (h0 : Touches ps s0 v0) :
    Touches ps s0 (refreshFloor v0) := by
  unfold refreshFloor
  refine State.wr_touches h_regs ?_
  assumption

theorem startEntry_touches {ps : Piece → Prop} {s0 : State} (h_regs : ps .regs) (h_out : ps .out) (h_host : ps .host) (h_mtn : ps .mtn) {v0 : ℕ} {v1 : ℕ} {v2 : State} (h0 : Touches ps s0 v2) :
    Touches ps s0 (startEntry v0 v1 v2) := by
  unfold startEntry
  lift_lets
  intro x0
  clear_value x0
  intro x1
  clear_value x1
  intro x2
  clear_value x2
  intro x3
  have hx4 : Touches ps s0 x3 := by
    unfold x3
    refine State.putDom_touches h_regs h_out h_host h_mtn ?_
    assumption
  clear_value x3
  refine Touches.ite ?_ ?_
  · refine State.putDom_touches h_regs h_out h_host h_mtn ?_
    assumption
  · refine Touches.ite ?_ ?_
    · refine queueAvs_touches h_regs h_out h_mtn ?_
      assumption
    · refine refreshLow_touches h_mtn ?_
      assumption

end Sys2Proof.Machine
end

