-- ==== Sys2Proof/Laws/TouchLedger.lean ====
section
/-! SUPPORT. What the operations of Machine/Ledger.lean may touch: one lemma for each. -/

set_option maxRecDepth 10000

namespace Sys2Proof.Machine

theorem formRecord_touches {ps : Piece → Prop} {s0 : State} (h_ldg : ps .ldg) {v0 : ℕ} {v1 : T80} {v2 : List Byte} {v3 : State} (h0 : Touches ps s0 v3) :
    Touches ps s0 (formRecord v0 v1 v2 v3) := by
  unfold formRecord
  lift_lets
  intro x0
  clear_value x0
  intro x1
  clear_value x1
  refine (Touches.upd_ldg h_ldg ?_)
  assumption

theorem formFrame_touches {ps : Piece → Prop} {s0 : State} (h_ldg : ps .ldg) {v0 : FrameRec} {v1 : T80} {v2 : State} (h0 : Touches ps s0 v2) :
    Touches ps s0 (formFrame v0 v1 v2) := by
  unfold formFrame
  lift_lets
  intro x0
  clear_value x0
  intro x1
  clear_value x1
  intro x2
  clear_value x2
  refine Touches.ite ?_ ?_
  · assumption
  · refine formRecord_touches h_ldg ?_
    assumption

theorem formEvent_touches {ps : Piece → Prop} {s0 : State} (h_ldg : ps .ldg) {v0 : ℕ} {v1 : ℕ} {v2 : T80} {v3 : List Byte} {v4 : State} (h0 : Touches ps s0 v4) :
    Touches ps s0 (formEvent v0 v1 v2 v3 v4) := by
  unfold formEvent
  refine formRecord_touches h_ldg ?_
  assumption

theorem State.putStream_touches {ps : Piece → Prop} {s0 : State} (h_ldg : ps .ldg) {v0 : State} {v1 : ℕ} {v2 : Stream} (h0 : Touches ps s0 v0) :
    Touches ps s0 (State.putStream v0 v1 v2) := by
  unfold State.putStream
  lift_lets
  intro x0
  clear_value x0
  refine (Touches.upd_ldg h_ldg ?_)
  assumption

theorem refreshStream_touches {ps : Piece → Prop} {s0 : State} (h_regs : ps .regs) {v0 : ℕ} {v1 : State} (h0 : Touches ps s0 v1) :
    Touches ps s0 (refreshStream v0 v1) := by
  unfold refreshStream
  refine State.wr_touches h_regs ?_
  refine State.wr_touches h_regs ?_
  assumption

theorem refreshStreams_touches {ps : Piece → Prop} {s0 : State} (h_regs : ps .regs) {v0 : State} (h0 : Touches ps s0 v0) :
    Touches ps s0 (refreshStreams v0) := by
  unfold refreshStreams
  refine Touches.foldl (fun _ _ _ => ?_) ?_
  · refine refreshStream_touches h_regs ?_
    assumption
  · assumption

theorem putRecord_touches {ps : Piece → Prop} {s0 : State} (h_regs : ps .regs) (h_ldg : ps .ldg) (h_vsr : ps .vsr) {v0 : ℕ} {v1 : LRec} {v2 : State} (h0 : Touches ps s0 v2) :
    Touches ps s0 (putRecord v0 v1 v2) := by
  unfold putRecord
  lift_lets
  intro x0
  clear_value x0
  refine State.count_touches h_regs h_vsr ?_
  refine State.wr_touches h_regs ?_
  refine State.putStream_touches h_ldg ?_
  assumption

theorem putGap_touches {ps : Piece → Prop} {s0 : State} (h_regs : ps .regs) (h_out : ps .out) (h_host : ps .host) (h_latches : ps .latches) (h_ldg : ps .ldg) (h_vsr : ps .vsr) {v0 : ℕ} {v1 : ℕ} {v2 : ℕ} {v3 : ℕ} {v4 : ℕ} {v5 : ℕ} {v6 : State} (h0 : Touches ps s0 v6) :
    Touches ps s0 (putGap v0 v1 v2 v3 v4 v5 v6) := by
  unfold putGap
  lift_lets
  intro x0
  have hx1 : Touches ps s0 x0 := by
    unfold x0
    refine putRecord_touches h_regs h_ldg h_vsr ?_
    assumption
  clear_value x0
  intro x2
  clear_value x2
  refine State.vector_touches h_out h_host ?_
  refine State.count_touches h_regs h_vsr ?_
  refine State.bump_touches h_regs h_latches ?_
  refine State.putStream_touches h_ldg ?_
  assumption

theorem restartGap_touches {ps : Piece → Prop} {s0 : State} (h_regs : ps .regs) (h_out : ps .out) (h_host : ps .host) (h_latches : ps .latches) (h_ldg : ps .ldg) (h_vsr : ps .vsr) {v0 : List Byte} {v1 : ℕ} {v2 : State} (h0 : Touches ps s0 v2) :
    Touches ps s0 (restartGap v0 v1 v2) := by
  unfold restartGap
  refine Touches.ite ?_ ?_
  · assumption
  · lift_lets
    intro x0
    clear_value x0
    refine putGap_touches h_regs h_out h_host h_latches h_ldg h_vsr ?_
    assumption

theorem startRun_touches {ps : Piece → Prop} {s0 : State} (h_regs : ps .regs) (h_out : ps .out) (h_host : ps .host) (h_latches : ps .latches) (h_ldg : ps .ldg) (h_vsr : ps .vsr) {v0 : State} (h0 : Touches ps s0 v0) :
    Touches ps s0 (startRun v0) := by
  unfold startRun
  lift_lets
  intro x0
  have hx1 : Touches ps s0 x0 := by
    unfold x0
    refine State.wr_touches h_regs ?_
    refine State.wr_touches h_regs ?_
    refine State.wr_touches h_regs ?_
    refine State.wr_touches h_regs ?_
    assumption
  clear_value x0
  intro x2
  clear_value x2
  intro x3
  have hx4 : Touches ps s0 x3 := by
    unfold x3
    refine (Touches.upd_ldg h_ldg ?_)
    assumption
  clear_value x3
  intro x5
  have hx6 : Touches ps s0 x5 := by
    unfold x5
    refine Touches.foldl (fun _ _ _ => ?_) ?_
    · lift_lets
      intro x7
      clear_value x7
      intro x8
      have hx9 : Touches ps s0 x8 := by
        unfold x8
        refine State.putStream_touches h_ldg ?_
        assumption
      clear_value x8
      refine Touches.foldl (fun _ _ _ => ?_) ?_
      · refine State.wri_touches h_regs ?_
        assumption
      · assumption
    · assumption
  clear_value x5
  refine refreshStreams_touches h_regs ?_
  split
  · assumption
  · lift_lets
    intro x10
    have hx11 : Touches ps s0 x10 := by
      unfold x10
      refine Touches.foldl (fun _ _ _ => ?_) ?_
      · refine restartGap_touches h_regs h_out h_host h_latches h_ldg h_vsr ?_
        assumption
      · assumption
    clear_value x10
    refine Touches.ite ?_ ?_
    · refine State.vector_touches h_out h_host ?_
      assumption
    · assumption

theorem endRun_touches {ps : Piece → Prop} {s0 : State} (h_regs : ps .regs) (h_ldg : ps .ldg) {v0 : State} (h0 : Touches ps s0 v0) :
    Touches ps s0 (endRun v0) := by
  unfold endRun
  lift_lets
  intro x0
  clear_value x0
  refine refreshStreams_touches h_regs ?_
  refine State.wr_touches h_regs ?_
  refine (Touches.upd_ldg h_ldg ?_)
  assumption

theorem afterStop_touches {ps : Piece → Prop} {s0 : State} (h_regs : ps .regs) (h_out : ps .out) (h_host : ps .host) (h_latches : ps .latches) (h_ldg : ps .ldg) (h_vsr : ps .vsr) {v0 : State} (h0 : Touches ps s0 v0) :
    Touches ps s0 (afterStop v0) := by
  unfold afterStop
  lift_lets
  intro x0
  have hx1 : Touches ps s0 x0 := by
    unfold x0
    refine endRun_touches h_regs h_ldg ?_
    assumption
  clear_value x0
  refine Touches.ite ?_ ?_
  · refine startRun_touches h_regs h_out h_host h_latches h_ldg h_vsr ?_
    assumption
  · assumption

theorem reserve_touches {ps : Piece → Prop} {s0 : State} (h_regs : ps .regs) (h_ldg : ps .ldg) {v0 : ℕ} {v1 : ℕ} {v2 : State} (h0 : Touches ps s0 v2) :
    ∀ t, reserve v0 v1 v2 = some t → Touches ps s0 t := by
  intro t ht
  unfold reserve at ht
  dsimp only at ht
  repeat' split at ht
  all_goals first
    | (cases ht; done)
    | (cases ht; apply State.putStream_touches <;> first | assumption | (apply State.wr_touches <;> assumption))

theorem queueExport_touches {ps : Piece → Prop} {s0 : State} (h_ldg : ps .ldg) {v0 : List ℕ} {v1 : ExpItem} {v2 : State} (h0 : Touches ps s0 v2) :
    Touches ps s0 (queueExport v0 v1 v2) := by
  unfold queueExport
  lift_lets
  intro x0
  clear_value x0
  refine (Touches.upd_ldg h_ldg ?_)
  assumption

theorem closeBlock_touches {ps : Piece → Prop} {s0 : State} (h_regs : ps .regs) (h_out : ps .out) (h_host : ps .host) (h_latches : ps .latches) (h_ldg : ps .ldg) (h_vsr : ps .vsr) {v0 : ℕ} {v1 : ℕ} {v2 : State} (h0 : Touches ps s0 v2) :
    Touches ps s0 (closeBlock v0 v1 v2) := by
  unfold closeBlock
  lift_lets
  intro x0
  clear_value x0
  intro x1
  clear_value x1
  intro x2
  clear_value x2
  intro x3
  clear_value x3
  intro x4
  clear_value x4
  intro x5
  clear_value x5
  intro x6
  clear_value x6
  intro x7
  clear_value x7
  intro x8
  have hx9 : Touches ps s0 x8 := by
    unfold x8
    refine State.wr_touches h_regs ?_
    refine State.putStream_touches h_ldg ?_
    assumption
  clear_value x8
  intro x10
  have hx11 : Touches ps s0 x10 := by
    unfold x10
    refine Touches.ite ?_ ?_
    · assumption
    · refine State.raise_touches h_regs h_out h_host h_latches ?_
      assumption
  clear_value x10
  split
  · assumption
  · split
    · lift_lets
      intro x12
      clear_value x12
      intro x13
      have hx14 : Touches ps s0 x13 := by
        unfold x13
        refine State.wr_touches h_regs ?_
        refine State.putStream_touches h_ldg ?_
        refine Touches.of_some (by assumption) ?_
        refine reserve_touches h_regs h_ldg ?_
        assumption
      clear_value x13
      refine queueExport_touches h_ldg ?_
      refine Touches.foldl (fun _ _ _ => ?_) ?_
      · refine State.wri_touches h_regs ?_
        assumption
      · assumption
    · refine putGap_touches h_regs h_out h_host h_latches h_ldg h_vsr ?_
      refine State.vector_touches h_out h_host ?_
      refine State.raise_touches h_regs h_out h_host h_latches ?_
      assumption

theorem closeAll_touches {ps : Piece → Prop} {s0 : State} (h_regs : ps .regs) (h_out : ps .out) (h_host : ps .host) (h_latches : ps .latches) (h_ldg : ps .ldg) (h_vsr : ps .vsr) {v0 : ℕ} {v1 : State} (h0 : Touches ps s0 v1) :
    Touches ps s0 (closeAll v0 v1) := by
  unfold closeAll
  refine Touches.foldl (fun _ _ _ => ?_) ?_
  · refine closeBlock_touches h_regs h_out h_host h_latches h_ldg h_vsr ?_
    assumption
  · assumption

theorem refreshSigning_touches {ps : Piece → Prop} {s0 : State} (h_regs : ps .regs) {v0 : State} (h0 : Touches ps s0 v0) :
    Touches ps s0 (refreshSigning v0) := by
  unfold refreshSigning
  refine State.wr_touches h_regs ?_
  assumption

theorem beginAnchor_touches {ps : Piece → Prop} {s0 : State} (h_regs : ps .regs) (h_ldg : ps .ldg) {v0 : Draft} {v1 : State} (h0 : Touches ps s0 v1) :
    Touches ps s0 (beginAnchor v0 v1) := by
  unfold beginAnchor
  lift_lets
  intro x0
  clear_value x0
  refine refreshSigning_touches h_regs ?_
  refine (Touches.upd_ldg h_ldg ?_)
  assumption

theorem ledgerStep_touches {ps : Piece → Prop} {s0 : State} (h_regs : ps .regs) (h_out : ps .out) (h_host : ps .host) (h_latches : ps .latches) (h_ldg : ps .ldg) (h_vsr : ps .vsr) {v0 : ℤ} {v1 : State} (h0 : Touches ps s0 v1) :
    Touches ps s0 (ledgerStep v0 v1) := by
  unfold ledgerStep
  refine Touches.ite ?_ ?_
  · assumption
  · lift_lets
    intro x0
    have hx1 : Touches ps s0 x0 := by
      unfold x0
      refine closeAll_touches h_regs h_out h_host h_latches h_ldg h_vsr ?_
      assumption
    clear_value x0
    refine Touches.ite ?_ ?_
    · assumption
    · refine beginAnchor_touches h_regs h_ldg ?_
      assumption

theorem commitSelection_touches {ps : Piece → Prop} {s0 : State} (h_regs : ps .regs) (h_ldg : ps .ldg) {v0 : State} (h0 : Touches ps s0 v0) :
    Touches ps s0 (commitSelection v0) := by
  unfold commitSelection
  refine Touches.ite ?_ ?_
  · assumption
  · lift_lets
    intro x0
    clear_value x0
    refine State.wr_touches h_regs ?_
    refine (Touches.upd_ldg h_ldg ?_)
    assumption

theorem execSelectionCommit_touches {ps : Piece → Prop} {s0 : State} (h_regs : ps .regs) (h_latches : ps .latches) (h_ldg : ps .ldg) (h_mtn : ps .mtn) {v0 : State} (h0 : Touches ps s0 v0) :
    Moves ps s0 (execSelectionCommit v0) := by
  unfold execSelectionCommit
  refine Moves.next ?_
  refine State.written_touches h_regs h_latches h_mtn ?_ ?_
  · assumption
  · intro y0
    intro k1
    refine commitSelection_touches h_regs h_ldg ?_
    assumption

theorem missInstants_touches {ps : Piece → Prop} {s0 : State} (h_regs : ps .regs) (h_out : ps .out) (h_host : ps .host) (h_latches : ps .latches) (h_ldg : ps .ldg) {v0 : ℕ} {v1 : State} (h0 : Touches ps s0 v1) :
    Touches ps s0 (missInstants v0 v1) := by
  unfold missInstants
  refine Touches.ite ?_ ?_
  · assumption
  · lift_lets
    intro x0
    clear_value x0
    refine State.raise_touches h_regs h_out h_host h_latches ?_
    refine State.wr_touches h_regs ?_
    refine (Touches.upd_ldg h_ldg ?_)
    assumption

theorem anchorMissed_touches {ps : Piece → Prop} {s0 : State} (h_regs : ps .regs) (h_out : ps .out) (h_host : ps .host) (h_latches : ps .latches) (h_ldg : ps .ldg) {v0 : State} (h0 : Touches ps s0 v0) :
    Touches ps s0 (anchorMissed v0) := by
  unfold anchorMissed
  split
  · assumption
  · refine State.given_touches ?_ ?_
    · assumption
    · intro y0
      intro k1
      lift_lets
      intro x2
      clear_value x2
      refine missInstants_touches h_regs h_out h_host h_latches h_ldg ?_
      refine refreshSigning_touches h_regs ?_
      refine (Touches.upd_ldg h_ldg ?_)
      assumption

theorem enterGap_touches {ps : Piece → Prop} {s0 : State} (h_regs : ps .regs) (h_out : ps .out) (h_host : ps .host) (h_latches : ps .latches) (h_ldg : ps .ldg) (h_vsr : ps .vsr) {v0 : ℕ} {v1 : ℕ} {v2 : ℕ} {v3 : ℕ} {v4 : ℕ} {v5 : ℕ} {v6 : State} (h0 : Touches ps s0 v6) :
    Touches ps s0 (enterGap v0 v1 v2 v3 v4 v5 v6) := by
  unfold enterGap
  lift_lets
  intro x0
  have hx1 : Touches ps s0 x0 := by
    unfold x0
    refine putGap_touches h_regs h_out h_host h_latches h_ldg h_vsr ?_
    assumption
  clear_value x0
  refine Touches.ite ?_ ?_
  · refine closeBlock_touches h_regs h_out h_host h_latches h_ldg h_vsr ?_
    assumption
  · assumption

theorem declareLosses_touches {ps : Piece → Prop} {s0 : State} (h_regs : ps .regs) (h_out : ps .out) (h_host : ps .host) (h_latches : ps .latches) (h_ldg : ps .ldg) (h_vsr : ps .vsr) {v0 : ℕ} {v1 : State} (h0 : Touches ps s0 v1) :
    Touches ps s0 (declareLosses v0 v1) := by
  unfold declareLosses
  lift_lets
  intro x0
  clear_value x0
  intro x1
  clear_value x1
  refine refreshStream_touches h_regs ?_
  refine Touches.foldl (fun _ _ _ => ?_) ?_
  · refine enterGap_touches h_regs h_out h_host h_latches h_ldg h_vsr ?_
    assumption
  · refine State.putStream_touches h_ldg ?_
    assumption

theorem streamEnable_touches {ps : Piece → Prop} {s0 : State} (h_regs : ps .regs) (h_out : ps .out) (h_host : ps .host) (h_latches : ps .latches) (h_ldg : ps .ldg) (h_vsr : ps .vsr) {v0 : ℕ} {v1 : Bool} {v2 : State} (h0 : Touches ps s0 v2) :
    Touches ps s0 (streamEnable v0 v1 v2) := by
  unfold streamEnable
  refine Touches.ite ?_ ?_
  · assumption
  · lift_lets
    intro x0
    have hx1 : Touches ps s0 x0 := by
      unfold x0
      refine State.wr_touches h_regs ?_
      assumption
    clear_value x0
    intro x2
    clear_value x2
    intro x3
    have hx4 : Touches ps s0 x3 := by
      unfold x3
      refine State.putStream_touches h_ldg ?_
      assumption
    clear_value x3
    intro x5
    have hx6 : Touches ps s0 x5 := by
      unfold x5
      refine State.putStream_touches h_ldg ?_
      assumption
    clear_value x5
    intro x7
    clear_value x7
    intro x8
    clear_value x8
    intro x9
    clear_value x9
    refine Touches.ite ?_ ?_
    · refine refreshStream_touches h_regs ?_
      split
      · refine enterGap_touches h_regs h_out h_host h_latches h_ldg h_vsr ?_
        refine declareLosses_touches h_regs h_out h_host h_latches h_ldg h_vsr ?_
        assumption
      · assumption
    · refine refreshStream_touches h_regs ?_
      refine (Touches.upd_ldg h_ldg ?_)
      assumption

theorem execStreamEnableChange_touches {ps : Piece → Prop} {s0 : State} (h_regs : ps .regs) (h_out : ps .out) (h_host : ps .host) (h_latches : ps .latches) (h_ldg : ps .ldg) (h_vsr : ps .vsr) (h_mtn : ps .mtn) {v0 : Fin 32} {v1 : Bool} {v2 : State} (h0 : Touches ps s0 v2) :
    Moves ps s0 (execStreamEnableChange v0 v1 v2) := by
  unfold execStreamEnableChange
  refine Moves.next ?_
  refine State.written_touches h_regs h_latches h_mtn ?_ ?_
  · assumption
  · intro y0
    intro k1
    refine streamEnable_touches h_regs h_out h_host h_latches h_ldg h_vsr ?_
    assumption

theorem enterRecord_touches {ps : Piece → Prop} {s0 : State} (h_regs : ps .regs) (h_out : ps .out) (h_host : ps .host) (h_latches : ps .latches) (h_ldg : ps .ldg) (h_vsr : ps .vsr) {v0 : ℕ} {v1 : LRec} {v2 : State} (h0 : Touches ps s0 v2) :
    Touches ps s0 (enterRecord v0 v1 v2) := by
  unfold enterRecord
  lift_lets
  intro x0
  have hx1 : Touches ps s0 x0 := by
    unfold x0
    refine putRecord_touches h_regs h_ldg h_vsr ?_
    assumption
  clear_value x0
  refine Touches.ite ?_ ?_
  · refine closeBlock_touches h_regs h_out h_host h_latches h_ldg h_vsr ?_
    assumption
  · assumption

theorem loseRecord_touches {ps : Piece → Prop} {s0 : State} (h_regs : ps .regs) (h_out : ps .out) (h_host : ps .host) (h_latches : ps .latches) (h_ldg : ps .ldg) {v0 : ℕ} {v1 : ℕ} {v2 : LRec} {v3 : State} (h0 : Touches ps s0 v3) :
    Touches ps s0 (loseRecord v0 v1 v2 v3) := by
  unfold loseRecord
  lift_lets
  intro x0
  clear_value x0
  intro x1
  clear_value x1
  refine refreshStream_touches h_regs ?_
  refine State.raise_touches h_regs h_out h_host h_latches ?_
  refine State.wr_touches h_regs ?_
  refine State.putStream_touches h_ldg ?_
  assumption

theorem takeRecord_touches {ps : Piece → Prop} {s0 : State} (h_regs : ps .regs) (h_out : ps .out) (h_host : ps .host) (h_latches : ps .latches) (h_ldg : ps .ldg) (h_vsr : ps .vsr) {v0 : ℕ} {v1 : Buffering} {v2 : State} (h0 : Touches ps s0 v2) :
    Touches ps s0 (takeRecord v0 v1 v2) := by
  unfold takeRecord
  split
  · assumption
  · lift_lets
    intro x0
    clear_value x0
    intro x1
    have hx2 : Touches ps s0 x1 := by
      unfold x1
      refine (Touches.upd_ldg h_ldg ?_)
      assumption
    clear_value x1
    refine Touches.ite ?_ ?_
    · assumption
    · split
      · refine enterRecord_touches h_regs h_out h_host h_latches h_ldg h_vsr ?_
        refine declareLosses_touches h_regs h_out h_host h_latches h_ldg h_vsr ?_
        assumption
      · refine enterRecord_touches h_regs h_out h_host h_latches h_ldg h_vsr ?_
        refine declareLosses_touches h_regs h_out h_host h_latches h_ldg h_vsr ?_
        refine State.raise_touches h_regs h_out h_host h_latches ?_
        assumption
      · refine loseRecord_touches h_regs h_out h_host h_latches h_ldg ?_
        refine State.raise_touches h_regs h_out h_host h_latches ?_
        assumption
      · refine loseRecord_touches h_regs h_out h_host h_latches h_ldg ?_
        refine Touches.ite ?_ ?_
        · refine State.raise_touches h_regs h_out h_host h_latches ?_
          assumption
        · assumption

theorem enterFirst_touches {ps : Piece → Prop} {s0 : State} (h_regs : ps .regs) (h_out : ps .out) (h_host : ps .host) (h_latches : ps .latches) (h_ldg : ps .ldg) (h_vsr : ps .vsr) {v0 : ℕ} {v1 : State} (h0 : Touches ps s0 v1) :
    Touches ps s0 (enterFirst v0 v1) := by
  unfold enterFirst
  lift_lets
  intro x0
  clear_value x0
  split
  · assumption
  · refine State.given_touches ?_ ?_
    · assumption
    · intro y1
      intro k2
      lift_lets
      intro x3
      have hx4 : Touches ps s0 x3 := by
        unfold x3
        refine takeRecord_touches h_regs h_out h_host h_latches h_ldg h_vsr ?_
        assumption
      clear_value x3
      intro x5
      clear_value x5
      refine (Touches.upd_ldg h_ldg ?_)
      assumption

theorem closeAt_touches {ps : Piece → Prop} {s0 : State} (h_regs : ps .regs) (h_out : ps .out) (h_host : ps .host) (h_latches : ps .latches) (h_ldg : ps .ldg) (h_vsr : ps .vsr) {v0 : ℕ} {v1 : ℕ} {v2 : State} (h0 : Touches ps s0 v2) :
    Touches ps s0 (closeAt v0 v1 v2) := by
  unfold closeAt
  refine Touches.ite ?_ ?_
  · lift_lets
    intro x0
    clear_value x0
    refine State.putStream_touches h_ldg ?_
    assumption
  · refine closeBlock_touches h_regs h_out h_host h_latches h_ldg h_vsr ?_
    refine enterFirst_touches h_regs h_out h_host h_latches h_ldg h_vsr ?_
    assumption

theorem retireCores_touches {ps : Piece → Prop} {s0 : State} (h_regs : ps .regs) (h_out : ps .out) (h_host : ps .host) (h_latches : ps .latches) (h_ldg : ps .ldg) (h_vsr : ps .vsr) {v0 : ℕ} {v1 : List ℕ} {v2 : State} (h0 : Touches ps s0 v2) :
    Touches ps s0 (retireCores v0 v1 v2) := by
  unfold retireCores
  refine Touches.ite ?_ ?_
  · assumption
  · lift_lets
    intro x0
    have hx1 : Touches ps s0 x0 := by
      unfold x0
      refine State.raise_touches h_regs h_out h_host h_latches ?_
      refine State.drop_touches h_regs ?_
      assumption
    clear_value x0
    refine Touches.foldl (fun _ _ _ => ?_) ?_
    · lift_lets
      intro x2
      clear_value x2
      split
      · assumption
      · lift_lets
        intro x3
        clear_value x3
        intro x4
        have hx5 : Touches ps s0 x4 := by
          unfold x4
          refine State.wr_touches h_regs ?_
          refine State.putStream_touches h_ldg ?_
          assumption
        clear_value x4
        intro x6
        have hx7 : Touches ps s0 x6 := by
          unfold x6
          refine Touches.foldl (fun _ _ _ => ?_) ?_
          · refine State.wri_touches h_regs ?_
            assumption
          · assumption
        clear_value x6
        refine enterGap_touches h_regs h_out h_host h_latches h_ldg h_vsr ?_
        assumption
    · assumption

theorem applySelection_touches {ps : Piece → Prop} {s0 : State} (h_regs : ps .regs) (h_out : ps .out) (h_host : ps .host) (h_ldg : ps .ldg) {v0 : ℕ} {v1 : State} (h0 : Touches ps s0 v1) :
    Touches ps s0 (applySelection v0 v1) := by
  unfold applySelection
  split
  · assumption
  · refine State.given_touches ?_ ?_
    · assumption
    · intro y0
      intro k1
      lift_lets
      intro x2
      clear_value x2
      refine State.vector_touches h_out h_host ?_
      refine State.wrPair_touches h_regs ?_
      refine State.wr_touches h_regs ?_
      refine (Touches.upd_ldg h_ldg ?_)
      assumption

theorem anchorInstant_touches {ps : Piece → Prop} {s0 : State} (h_regs : ps .regs) (h_out : ps .out) (h_host : ps .host) (h_latches : ps .latches) (h_ticks : ps .ticks) (h_ldg : ps .ldg) (h_vsr : ps .vsr) {v0 : ℕ} {v1 : List ℕ} {v2 : State} (h0 : Touches ps s0 v2) :
    Touches ps s0 (anchorInstant v0 v1 v2) := by
  unfold anchorInstant
  refine State.periodic_touches h_ticks ?_ ?_
  · assumption
  · intro y0
    intro k1
    lift_lets
    intro x2
    clear_value x2
    intro x3
    have hx4 : Touches ps s0 x3 := by
      unfold x3
      refine Touches.ite ?_ ?_
      · refine Touches.foldl (fun _ _ _ => ?_) ?_
        · refine closeAt_touches h_regs h_out h_host h_latches h_ldg h_vsr ?_
          assumption
        · assumption
      · assumption
    clear_value x3
    intro x5
    have hx6 : Touches ps s0 x5 := by
      unfold x5
      refine retireCores_touches h_regs h_out h_host h_latches h_ldg h_vsr ?_
      assumption
    clear_value x5
    intro x7
    clear_value x7
    intro x8
    have hx9 : Touches ps s0 x8 := by
      unfold x8
      refine Touches.ite ?_ ?_
      · assumption
      · refine Touches.ite ?_ ?_
        · refine missInstants_touches h_regs h_out h_host h_latches h_ldg ?_
          assumption
        · refine beginAnchor_touches h_regs h_ldg ?_
          refine (Touches.upd_ldg h_ldg ?_)
          assumption
    clear_value x8
    refine Touches.ite ?_ ?_
    · assumption
    · refine applySelection_touches h_regs h_out h_host h_ldg ?_
      assumption

theorem execAnchorInstant_touches {ps : Piece → Prop} {s0 : State} (h_regs : ps .regs) (h_out : ps .out) (h_host : ps .host) (h_latches : ps .latches) (h_ticks : ps .ticks) (h_ldg : ps .ldg) (h_vsr : ps .vsr) {v0 : Fin 129} {v1 : List (Fin 32)} {v2 : State} (h0 : Touches ps s0 v2) :
    Moves ps s0 (execAnchorInstant v0 v1 v2) := by
  unfold execAnchorInstant
  refine Moves.next ?_
  refine anchorInstant_touches h_regs h_out h_host h_latches h_ticks h_ldg h_vsr ?_
  assumption

theorem exportFrame_touches {ps : Piece → Prop} {s0 : State} (h_out : ps .out) (h_ldg : ps .ldg) {v0 : ℕ} {v1 : ℕ} {v2 : ℕ} {v3 : ℕ} {v4 : ExpItem} {v5 : List Byte} {v6 : State} (h0 : Touches ps s0 v6) :
    Touches ps s0 (exportFrame v0 v1 v2 v3 v4 v5 v6) := by
  unfold exportFrame
  lift_lets
  intro x0
  clear_value x0
  intro x1
  clear_value x1
  intro x2
  clear_value x2
  intro x3
  clear_value x3
  refine State.send_touches h_out ?_
  refine (Touches.upd_ldg h_ldg ?_)
  assumption

theorem exportItem_touches {ps : Piece → Prop} {s0 : State} (h_out : ps .out) (h_ldg : ps .ldg) {v0 : ℕ} {v1 : ExpItem} {v2 : List Byte} {v3 : State} (h0 : Touches ps s0 v3) :
    Touches ps s0 (exportItem v0 v1 v2 v3) := by
  unfold exportItem
  lift_lets
  intro x0
  clear_value x0
  intro x1
  clear_value x1
  refine Touches.ite ?_ ?_
  · assumption
  · refine Touches.foldl (fun _ _ _ => ?_) ?_
    · refine exportFrame_touches h_out h_ldg ?_
      assumption
    · assumption

theorem exportSend_touches {ps : Piece → Prop} {s0 : State} (h_regs : ps .regs) (h_out : ps .out) (h_host : ps .host) (h_latches : ps .latches) (h_ldg : ps .ldg) {v0 : ℕ} {v1 : State} (h0 : Touches ps s0 v1) :
    Touches ps s0 (exportSend v0 v1) := by
  unfold exportSend
  lift_lets
  intro x0
  clear_value x0
  refine State.given_touches ?_ ?_
  · assumption
  · intro y1
    intro k2
    lift_lets
    intro x3
    clear_value x3
    intro x4
    clear_value x4
    intro x5
    clear_value x5
    dsimp only
    split
    · assumption
    · refine Touches.ite ?_ ?_
      · refine Touches.ite ?_ ?_
        · refine State.raise_touches h_regs h_out h_host h_latches ?_
          refine State.bumpi_touches h_regs h_latches ?_
          refine (Touches.upd_ldg h_ldg ?_)
          assumption
        · refine exportItem_touches h_out h_ldg ?_
          refine (Touches.upd_ldg h_ldg ?_)
          assumption
      · refine Touches.ite ?_ ?_
        · assumption
        · split
          · refine Touches.ite ?_ ?_
            · refine State.raise_touches h_regs h_out h_host h_latches ?_
              refine State.bumpi_touches h_regs h_latches ?_
              refine (Touches.upd_ldg h_ldg ?_)
              assumption
            · refine exportItem_touches h_out h_ldg ?_
              refine (Touches.upd_ldg h_ldg ?_)
              assumption
          · refine State.raise_touches h_regs h_out h_host h_latches ?_
            refine State.bumpi_touches h_regs h_latches ?_
            refine (Touches.upd_ldg h_ldg ?_)
            assumption

theorem enableLedger_touches {ps : Piece → Prop} {s0 : State} (h_regs : ps .regs) (h_out : ps .out) (h_host : ps .host) (h_latches : ps .latches) (h_ldg : ps .ldg) (h_vsr : ps .vsr) (h_mtn : ps .mtn) {v0 : State} (h0 : Touches ps s0 v0) :
    Touches ps s0 (enableLedger v0) := by
  unfold enableLedger
  refine State.given_touches ?_ ?_
  · assumption
  · intro y0
    intro k1
    lift_lets
    intro x2
    have hx3 : Touches ps s0 x2 := by
      unfold x2
      refine recomputeDdr_touches h_regs h_out h_host h_mtn ?_
      refine State.wr_touches h_regs ?_
      assumption
    clear_value x2
    refine Touches.ite ?_ ?_
    · refine startRun_touches h_regs h_out h_host h_latches h_ldg h_vsr ?_
      assumption
    · assumption

theorem stopRun_touches {ps : Piece → Prop} {s0 : State} (h_regs : ps .regs) (h_out : ps .out) (h_host : ps .host) (h_latches : ps .latches) (h_ldg : ps .ldg) (h_vsr : ps .vsr) (h_mtn : ps .mtn) {v0 : State} (h0 : Touches ps s0 v0) :
    Touches ps s0 (stopRun v0) := by
  unfold stopRun
  lift_lets
  intro x0
  have hx1 : Touches ps s0 x0 := by
    unfold x0
    refine recomputeDdr_touches h_regs h_out h_host h_mtn ?_
    refine State.wr_touches h_regs ?_
    assumption
  clear_value x0
  intro x2
  have hx3 : Touches ps s0 x2 := by
    unfold x2
    refine closeAll_touches h_regs h_out h_host h_latches h_ldg h_vsr ?_
    refine Touches.foldl (fun _ _ _ => ?_) ?_
    · refine declareLosses_touches h_regs h_out h_host h_latches h_ldg h_vsr ?_
      assumption
    · assumption
  clear_value x2
  refine Touches.ite ?_ ?_
  · assumption
  · refine Touches.ite ?_ ?_
    · refine endRun_touches h_regs h_ldg ?_
      assumption
    · refine refreshStreams_touches h_regs ?_
      refine beginAnchor_touches h_regs h_ldg ?_
      assumption

theorem loseEngines_touches {ps : Piece → Prop} {s0 : State} (h_regs : ps .regs) (h_out : ps .out) (h_host : ps .host) (h_latches : ps .latches) (h_ldg : ps .ldg) {v0 : State} (h0 : Touches ps s0 v0) :
    Touches ps s0 (loseEngines v0).1 := by
  unfold loseEngines
  lift_lets
  intro x0
  clear_value x0
  dsimp only
  refine State.raise_touches h_regs h_out h_host h_latches ?_
  refine (Touches.upd_ldg h_ldg ?_)
  assumption

theorem signingEnds_touches {ps : Piece → Prop} {s0 : State} (h_regs : ps .regs) (h_out : ps .out) (h_host : ps .host) (h_latches : ps .latches) (h_ldg : ps .ldg) {v0 : Signing} {v1 : State} (h0 : Touches ps s0 v1) :
    Touches ps s0 (signingEnds v0 v1).1 := by
  unfold signingEnds
  split
  · assumption
  · lift_lets
    intro x0
    clear_value x0
    split
    · refine loseEngines_touches h_regs h_out h_host h_latches h_ldg ?_
      refine State.raise_touches h_regs h_out h_host h_latches ?_
      assumption
    · dsimp only
      refine State.raise_touches h_regs h_out h_host h_latches ?_
      refine (Touches.upd_ldg h_ldg ?_)
      assumption
  · refine loseEngines_touches h_regs h_out h_host h_latches h_ldg ?_
    assumption
  · lift_lets
    intro x1
    clear_value x1
    dsimp only
    refine State.raise_touches h_regs h_out h_host h_latches ?_
    refine (Touches.upd_ldg h_ldg ?_)
    assumption

theorem issueAnchor_touches {ps : Piece → Prop} {s0 : State} (h_regs : ps .regs) (h_free : ps .free) (h_out : ps .out) (h_ddr : ps .ddr) (h_poison : ps .poison) (h_host : ps .host) (h_latches : ps .latches) (h_ldg : ps .ldg) (h_vsr : ps .vsr) {v0 : Draft} {v1 : Bool} {v2 : Bool} {v3 : Bool} {v4 : State} (h0 : Touches ps s0 v4) :
    Touches ps s0 (issueAnchor v0 v1 v2 v3 v4) := by
  unfold issueAnchor
  lift_lets
  intro x0
  clear_value x0
  intro x1
  clear_value x1
  intro x2
  clear_value x2
  intro x3
  clear_value x3
  intro x4
  clear_value x4
  intro x5
  clear_value x5
  intro x6
  have hx7 : Touches ps s0 x6 := by
    unfold x6
    refine Touches.ite ?_ ?_
    · assumption
    · refine Touches.ite ?_ ?_
      · refine State.ddrWrite_touches h_ddr h_poison ?_
        assumption
      · refine State.raise_touches h_regs h_out h_host h_latches ?_
        assumption
  clear_value x6
  intro x8
  clear_value x8
  intro x9
  clear_value x9
  intro x10
  clear_value x10
  intro x11
  have hx12 : Touches ps s0 x11 := by
    unfold x11
    refine Touches.ite ?_ ?_
    · refine State.wr_touches h_regs ?_
      refine State.wr_touches h_regs ?_
      refine State.wr_touches h_regs ?_
      refine (Touches.upd_ldg h_ldg ?_)
      assumption
    · refine State.raise_touches h_regs h_out h_host h_latches ?_
      refine State.set1_touches h_regs h_latches ?_
      assumption
  clear_value x11
  intro x13
  clear_value x13
  intro x14
  have hx15 : Touches ps s0 x14 := by
    unfold x14
    refine Touches.multi (b := x11) ?_ (fun p hn => by cases p <;> first | exact absurd (by assumption) hn | rfl) (fun hs => hs) (fun hs => hs)
    assumption
  clear_value x14
  intro x16
  have hx17 : Touches ps s0 x16 := by
    unfold x16
    refine queueExport_touches h_ldg ?_
    assumption
  clear_value x16
  refine State.count_touches h_regs h_vsr ?_
  refine State.wr_touches h_regs ?_
  refine State.wr_touches h_regs ?_
  refine State.wrPair_touches h_regs ?_
  refine State.wr_touches h_regs ?_
  assumption

theorem writeSeal_touches {ps : Piece → Prop} {s0 : State} (h_regs : ps .regs) (h_free : ps .free) (h_out : ps .out) (h_ddr : ps .ddr) (h_poison : ps .poison) (h_host : ps .host) (h_latches : ps .latches) (h_ldg : ps .ldg) (h_vsr : ps .vsr) (h_gnt : ps .gnt) {v0 : Signing} {v1 : Bool} {v2 : Bool} {v3 : Bool} {v4 : State} (h0 : Touches ps s0 v4) :
    Touches ps s0 (writeSeal v0 v1 v2 v3 v4) := by
  unfold writeSeal
  split
  · assumption
  · split
    lift_lets
    intro x0
    have hx1 : Touches ps s0 x0 := by
      unfold x0
      refine issueAnchor_touches h_regs h_free h_out h_ddr h_poison h_host h_latches h_ldg h_vsr ?_
      refine Touches.of_fst (by assumption) ?_
      refine signingEnds_touches h_regs h_out h_host h_latches h_ldg ?_
      assumption
    clear_value x0
    intro x2
    clear_value x2
    intro x3
    clear_value x3
    refine Touches.ite ?_ ?_
    · refine State.vector_touches h_out h_host ?_
      refine refreshSigning_touches h_regs ?_
      refine State.wr_touches h_regs ?_
      refine Touches.multi (b := x0) ?_ (fun p hn => by cases p <;> first | exact absurd (by assumption) hn | rfl) (fun hs => hs) (fun hs => hs)
      assumption
    · refine State.wr_touches h_regs ?_
      refine (Touches.upd_ldg h_ldg ?_)
      assumption

theorem blockWrite_touches {ps : Piece → Prop} {s0 : State} (h_regs : ps .regs) (h_out : ps .out) (h_ddr : ps .ddr) (h_poison : ps .poison) (h_host : ps .host) (h_ldg : ps .ldg) {v0 : ℕ} {v1 : State} (h0 : Touches ps s0 v1) :
    Touches ps s0 (blockWrite v0 v1) := by
  unfold blockWrite
  split
  · assumption
  · lift_lets
    intro x0
    clear_value x0
    intro x1
    clear_value x1
    intro x2
    clear_value x2
    intro x3
    have hx4 : Touches ps s0 x3 := by
      unfold x3
      refine State.wr_touches h_regs ?_
      refine State.putStream_touches h_ldg ?_
      refine State.ringWrite_touches h_ddr h_poison ?_
      assumption
    clear_value x3
    refine Touches.ite ?_ ?_
    · refine State.vector_touches h_out h_host ?_
      assumption
    · assumption

theorem anchorSigned_touches {ps : Piece → Prop} {s0 : State} (h_regs : ps .regs) (h_free : ps .free) (h_out : ps .out) (h_ddr : ps .ddr) (h_poison : ps .poison) (h_host : ps .host) (h_latches : ps .latches) (h_ldg : ps .ldg) (h_vsr : ps .vsr) {v0 : Signing} {v1 : Bool} {v2 : State} (h0 : Touches ps s0 v2) :
    Touches ps s0 (anchorSigned v0 v1 v2) := by
  unfold anchorSigned
  split
  · assumption
  · refine Touches.ite ?_ ?_
    · assumption
    · split
      lift_lets
      intro x0
      clear_value x0
      intro x1
      have hx2 : Touches ps s0 x1 := by
        unfold x1
        refine refreshSigning_touches h_regs ?_
        refine (Touches.upd_ldg h_ldg ?_)
        refine Touches.of_fst (by assumption) ?_
        refine signingEnds_touches h_regs h_out h_host h_latches h_ldg ?_
        assumption
      clear_value x1
      intro x3
      have hx4 : ∀ a0 a1, Touches ps s0 a1 → Touches ps s0 (x3 a0 a1) := by
        intro y5
        intro y6
        intro k7
        unfold x3
        refine Touches.ite ?_ ?_
        · refine afterStop_touches h_regs h_out h_host h_latches h_ldg h_vsr ?_
          assumption
        · assumption
      clear_value x3
      refine Touches.ite ?_ ?_
      · refine hx4 _ _ ?_
        refine missInstants_touches h_regs h_out h_host h_latches h_ldg ?_
        assumption
      · refine Touches.ite ?_ ?_
        · refine missInstants_touches h_regs h_out h_host h_latches h_ldg ?_
          assumption
        · refine hx4 _ _ ?_
          refine State.vector_touches h_out h_host ?_
          refine issueAnchor_touches h_regs h_free h_out h_ddr h_poison h_host h_latches h_ldg h_vsr ?_
          assumption

theorem execAnchorSigned_touches {ps : Piece → Prop} {s0 : State} (h_regs : ps .regs) (h_free : ps .free) (h_out : ps .out) (h_ddr : ps .ddr) (h_poison : ps .poison) (h_host : ps .host) (h_latches : ps .latches) (h_ldg : ps .ldg) (h_vsr : ps .vsr) {v0 : Signing} {v1 : Bool} {v2 : State} (h0 : Touches ps s0 v2) :
    Moves ps s0 (execAnchorSigned v0 v1 v2) := by
  unfold execAnchorSigned
  refine Moves.next ?_
  refine anchorSigned_touches h_regs h_free h_out h_ddr h_poison h_host h_latches h_ldg h_vsr ?_
  assumption

theorem sealStream_touches {ps : Piece → Prop} {s0 : State} (h_regs : ps .regs) (h_ldg : ps .ldg) {v0 : ℕ} {v1 : State} (h0 : Touches ps s0 v1) :
    Touches ps s0 (sealStream v0 v1).1 := by
  unfold sealStream
  lift_lets
  intro x0
  clear_value x0
  intro x1
  clear_value x1
  intro x2
  clear_value x2
  intro x3
  have hx4 : Touches ps s0 x3 := by
    unfold x3
    refine State.putStream_touches h_ldg ?_
    assumption
  clear_value x3
  dsimp only
  refine Touches.foldl (fun _ _ _ => ?_) ?_
  · refine State.wri_touches h_regs ?_
    assumption
  · assumption

theorem sealStreams_touches {ps : Piece → Prop} {s0 : State} (h_regs : ps .regs) (h_ldg : ps .ldg) {v0 : State} (h0 : Touches ps s0 v0) :
    Touches ps s0 (sealStreams v0).1 := by
  unfold sealStreams
  refine Touches.foldl_fst (fun p x hp => ?_) h0
  apply sealStream_touches <;> assumption

theorem dropFormed_touches {ps : Piece → Prop} {s0 : State} (h_regs : ps .regs) (h_ldg : ps .ldg) {v0 : State} (h0 : Touches ps s0 v0) :
    Touches ps s0 (dropFormed v0) := by
  unfold dropFormed
  lift_lets
  intro x0
  clear_value x0
  intro x1
  clear_value x1
  refine State.wr_touches h_regs ?_
  refine (Touches.upd_ldg h_ldg ?_)
  assumption

theorem ledgerSafe_touches {ps : Piece → Prop} {s0 : State} (h_regs : ps .regs) (h_ldg : ps .ldg) {v0 : SafeEntry} {v1 : ℕ} {v2 : State} (h0 : Touches ps s0 v2) :
    Touches ps s0 (ledgerSafe v0 v1 v2) := by
  unfold ledgerSafe
  split
  · apply refreshStreams_touches <;> assumption
  · have hs : Touches ps s0 (sealStreams v2).1 := by apply sealStreams_touches <;> assumption
    have hd : Touches ps s0 (dropFormed (sealStreams v2).1) := by apply dropFormed_touches <;> assumption
    generalize sealStreams v2 = p at hs hd ⊢
    obtain ⟨s1, lost⟩ := p
    dsimp only at hs hd ⊢
    apply refreshStreams_touches
    · assumption
    · apply beginAnchor_touches <;> assumption

theorem execAnchorMissed_touches {ps : Piece → Prop} {s0 : State} (h_regs : ps .regs) (h_out : ps .out) (h_host : ps .host) (h_latches : ps .latches) (h_ldg : ps .ldg) {v0 : State} (h0 : Touches ps s0 v0) :
    Moves ps s0 (execAnchorMissed v0) := by
  unfold execAnchorMissed
  refine Moves.next ?_
  refine anchorMissed_touches h_regs h_out h_host h_latches h_ldg ?_
  assumption

theorem sequencerSeal_touches {ps : Piece → Prop} {s0 : State} (h_regs : ps .regs) (h_free : ps .free) (h_out : ps .out) (h_ddr : ps .ddr) (h_poison : ps .poison) (h_host : ps .host) (h_latches : ps .latches) (h_ldg : ps .ldg) (h_vsr : ps .vsr) (h_gnt : ps .gnt) {v0 : Bool} {v1 : Bool} {v2 : Bool} {v3 : State} (h0 : Touches ps s0 v3) :
    Touches ps s0 (sequencerSeal v0 v1 v2 v3) := by
  unfold sequencerSeal
  split
  · assumption
  · refine State.given_touches ?_ ?_
    · assumption
    · intro y0
      intro k1
      lift_lets
      intro x2
      clear_value x2
      intro x3
      have hx4 : Touches ps s0 x3 := by
        unfold x3
        refine (Touches.upd_gnt h_gnt ?_)
        assumption
      clear_value x3
      intro x5
      clear_value x5
      split
      · assumption
      · lift_lets
        intro x6
        have hx7 : Touches ps s0 x6 := by
          unfold x6
          refine issueAnchor_touches h_regs h_free h_out h_ddr h_poison h_host h_latches h_ldg h_vsr ?_
          assumption
        clear_value x6
        intro x8
        clear_value x8
        intro x9
        clear_value x9
        refine Touches.ite ?_ ?_
        · refine State.wr_touches h_regs ?_
          refine Touches.multi (b := x6) ?_ (fun p hn => by cases p <;> first | exact absurd (by assumption) hn | rfl) (fun hs => hs) (fun hs => hs)
          assumption
        · assumption

theorem execSequencerSeal_touches {ps : Piece → Prop} {s0 : State} (h_regs : ps .regs) (h_free : ps .free) (h_out : ps .out) (h_ddr : ps .ddr) (h_poison : ps .poison) (h_host : ps .host) (h_latches : ps .latches) (h_ldg : ps .ldg) (h_vsr : ps .vsr) (h_gnt : ps .gnt) {v0 : Bool} {v1 : Bool} {v2 : Bool} {v3 : State} (h0 : Touches ps s0 v3) :
    Moves ps s0 (execSequencerSeal v0 v1 v2 v3) := by
  unfold execSequencerSeal
  refine Moves.next ?_
  refine sequencerSeal_touches h_regs h_free h_out h_ddr h_poison h_host h_latches h_ldg h_vsr h_gnt ?_
  assumption

theorem execBlockWrite_touches {ps : Piece → Prop} {s0 : State} (h_regs : ps .regs) (h_out : ps .out) (h_ddr : ps .ddr) (h_poison : ps .poison) (h_host : ps .host) (h_ldg : ps .ldg) {v0 : Fin 32} {v1 : State} (h0 : Touches ps s0 v1) :
    Moves ps s0 (execBlockWrite v0 v1) := by
  unfold execBlockWrite
  refine Moves.next ?_
  refine blockWrite_touches h_regs h_out h_ddr h_poison h_host h_ldg ?_
  assumption

theorem execSealWritten_touches {ps : Piece → Prop} {s0 : State} (h_regs : ps .regs) (h_free : ps .free) (h_out : ps .out) (h_ddr : ps .ddr) (h_poison : ps .poison) (h_host : ps .host) (h_latches : ps .latches) (h_ldg : ps .ldg) (h_vsr : ps .vsr) (h_gnt : ps .gnt) {v0 : Signing} {v1 : Bool} {v2 : State} (h0 : Touches ps s0 v2) :
    Moves ps s0 (execSealWritten v0 v1 v2) := by
  unfold execSealWritten
  refine Moves.next ?_
  refine State.given_touches ?_ ?_
  · assumption
  · intro y0
    intro k1
    refine writeSeal_touches h_regs h_free h_out h_ddr h_poison h_host h_latches h_ldg h_vsr h_gnt ?_
    assumption

theorem recordEntry_touches {ps : Piece → Prop} {s0 : State} (h_regs : ps .regs) (h_out : ps .out) (h_host : ps .host) (h_latches : ps .latches) (h_ldg : ps .ldg) (h_vsr : ps .vsr) {v0 : ℕ} {v1 : Buffering} {v2 : State} (h0 : Touches ps s0 v2) :
    Touches ps s0 (recordEntry v0 v1 v2) := by
  unfold recordEntry
  refine Touches.ite ?_ ?_
  · lift_lets
    intro x0
    clear_value x0
    refine (Touches.upd_ldg h_ldg ?_)
    assumption
  · refine Touches.ite ?_ ?_
    · lift_lets
      intro x1
      have hx2 : Touches ps s0 x1 := by
        unfold x1
        refine closeBlock_touches h_regs h_out h_host h_latches h_ldg h_vsr ?_
        assumption
      clear_value x1
      intro x3
      clear_value x3
      refine takeRecord_touches h_regs h_out h_host h_latches h_ldg h_vsr ?_
      refine State.putStream_touches h_ldg ?_
      assumption
    · refine takeRecord_touches h_regs h_out h_host h_latches h_ldg h_vsr ?_
      assumption

theorem execLedgerRecordEntry_touches {ps : Piece → Prop} {s0 : State} (h_regs : ps .regs) (h_out : ps .out) (h_host : ps .host) (h_latches : ps .latches) (h_ldg : ps .ldg) (h_vsr : ps .vsr) {v0 : Fin 32} {v1 : Buffering} {v2 : State} (h0 : Touches ps s0 v2) :
    Moves ps s0 (execLedgerRecordEntry v0 v1 v2) := by
  unfold execLedgerRecordEntry
  refine Moves.next ?_
  refine recordEntry_touches h_regs h_out h_host h_latches h_ldg h_vsr ?_
  assumption

theorem execLedgerEnable_touches {ps : Piece → Prop} {s0 : State} (h_regs : ps .regs) (h_out : ps .out) (h_host : ps .host) (h_latches : ps .latches) (h_ldg : ps .ldg) (h_vsr : ps .vsr) (h_mtn : ps .mtn) {v0 : State} (h0 : Touches ps s0 v0) :
    Moves ps s0 (execLedgerEnable v0) := by
  unfold execLedgerEnable
  refine Moves.next ?_
  refine State.written_touches h_regs h_latches h_mtn ?_ ?_
  · assumption
  · intro y0
    intro k1
    refine enableLedger_touches h_regs h_out h_host h_latches h_ldg h_vsr h_mtn ?_
    assumption

theorem execLedgerDisable_touches {ps : Piece → Prop} {s0 : State} (h_regs : ps .regs) (h_out : ps .out) (h_host : ps .host) (h_latches : ps .latches) (h_ldg : ps .ldg) (h_vsr : ps .vsr) (h_mtn : ps .mtn) {v0 : State} (h0 : Touches ps s0 v0) :
    Moves ps s0 (execLedgerDisable v0) := by
  unfold execLedgerDisable
  refine Moves.next ?_
  refine State.written_touches h_regs h_latches h_mtn ?_ ?_
  · assumption
  · intro y0
    intro k1
    refine State.given_touches ?_ ?_
    · assumption
    · intro y2
      intro k3
      refine stopRun_touches h_regs h_out h_host h_latches h_ldg h_vsr h_mtn ?_
      assumption

theorem execExportSend_touches {ps : Piece → Prop} {s0 : State} (h_regs : ps .regs) (h_out : ps .out) (h_host : ps .host) (h_latches : ps .latches) (h_ldg : ps .ldg) {v0 : Fin 16} {v1 : State} (h0 : Touches ps s0 v1) :
    Moves ps s0 (execExportSend v0 v1) := by
  unfold execExportSend
  refine Moves.next ?_
  refine State.running_touches ?_ ?_
  · assumption
  · intro y0
    intro k1
    refine exportSend_touches h_regs h_out h_host h_latches h_ldg ?_
    assumption

end Sys2Proof.Machine
end

