-- ==== Sys2Proof/Laws/TouchTimeBase.lean ====
section
/-! SUPPORT. What the operations of Machine/TimeBase.lean may touch: one lemma for each. -/

set_option maxRecDepth 10000

namespace Sys2Proof.Machine

theorem regrid_touches {ps : Piece → Prop} {s0 : State} (h_hat : ps .hat) {v0 : ℤ} {v1 : State} (h0 : Touches ps s0 v1) :
    Touches ps s0 (regrid v0 v1) := by
  unfold regrid
  lift_lets
  intro x0
  clear_value x0
  intro x1
  clear_value x1
  intro x2
  clear_value x2
  intro x3
  clear_value x3
  refine (Touches.upd_hat h_hat ?_)
  assumption

theorem joinGrid_touches {ps : Piece → Prop} {s0 : State} (h_hat : ps .hat) {v0 : State} (h0 : Touches ps s0 v0) :
    Touches ps s0 (joinGrid v0) := by
  unfold joinGrid
  lift_lets
  intro x0
  clear_value x0
  refine regrid_touches h_hat ?_
  refine (Touches.upd_hat h_hat ?_)
  assumption

theorem writeHistory_touches {ps : Piece → Prop} {s0 : State} (h_regs : ps .regs) (h_out : ps .out) (h_host : ps .host) (h_hat : ps .hat) {v0 : ℕ} {v1 : Bool} {v2 : State} (h0 : Touches ps s0 v2) :
    Touches ps s0 (writeHistory v0 v1 v2) := by
  unfold writeHistory
  refine State.given_touches ?_ ?_
  · assumption
  · intro y0
    intro k1
    lift_lets
    intro x2
    clear_value x2
    intro x3
    clear_value x3
    intro x4
    clear_value x4
    intro x5
    clear_value x5
    intro x6
    clear_value x6
    intro x7
    have hx8 : Touches ps s0 x7 := by
      unfold x7
      refine (Touches.upd_hat h_hat ?_)
      assumption
    clear_value x7
    refine State.vector_touches h_out h_host ?_
    refine State.wr_touches h_regs ?_
    refine State.wr_touches h_regs ?_
    refine State.wr_touches h_regs ?_
    refine State.wr_touches h_regs ?_
    assumption

theorem setTq_touches {ps : Piece → Prop} {s0 : State} (h_regs : ps .regs) (h_free : ps .free) (h_out : ps .out) (h_host : ps .host) (h_latches : ps .latches) (h_hat : ps .hat) {v0 : ℕ} {v1 : State} (h0 : Touches ps s0 v1) :
    Touches ps s0 (setTq v0 v1) := by
  unfold setTq
  refine Touches.ite ?_ ?_
  · assumption
  · lift_lets
    intro x0
    clear_value x0
    intro x1
    clear_value x1
    intro x2
    have hx3 : Touches ps s0 x2 := by
      unfold x2
      refine Touches.multi (b := v1) ?_ (fun p hn => by cases p <;> first | exact absurd (by assumption) hn | rfl) (fun hs => hs) (fun hs => hs)
      assumption
    clear_value x2
    intro x4
    have hx5 : Touches ps s0 x4 := by
      unfold x4
      refine State.vector_touches h_out h_host ?_
      refine State.wr_touches h_regs ?_
      refine State.wrPair_touches h_regs ?_
      refine State.wr_touches h_regs ?_
      assumption
    clear_value x4
    refine Touches.ite ?_ ?_
    · refine State.vector_touches h_out h_host ?_
      refine State.raise_touches h_regs h_out h_host h_latches ?_
      assumption
    · refine Touches.ite ?_ ?_
      · refine State.vector_touches h_out h_host ?_
        assumption
      · assumption

theorem refreshTq_touches {ps : Piece → Prop} {s0 : State} (h_regs : ps .regs) (h_free : ps .free) (h_out : ps .out) (h_host : ps .host) (h_latches : ps .latches) (h_hat : ps .hat) {v0 : State} (h0 : Touches ps s0 v0) :
    Touches ps s0 (refreshTq v0) := by
  unfold refreshTq
  refine setTq_touches h_regs h_free h_out h_host h_latches h_hat ?_
  assumption

theorem recompute_touches {ps : Piece → Prop} {s0 : State} (h_regs : ps .regs) (h_free : ps .free) (h_out : ps .out) (h_host : ps .host) (h_latches : ps .latches) (h_hat : ps .hat) {v0 : State} (h0 : Touches ps s0 v0) :
    Touches ps s0 (recompute v0) := by
  unfold recompute
  lift_lets
  intro x0
  clear_value x0
  intro x1
  clear_value x1
  refine refreshTq_touches h_regs h_free h_out h_host h_latches h_hat ?_
  refine State.wr_touches h_regs ?_
  refine State.wr_touches h_regs ?_
  refine State.wr_touches h_regs ?_
  assumption

theorem breakAgreement_touches {ps : Piece → Prop} {s0 : State} (h_regs : ps .regs) (h_hat : ps .hat) {v0 : State} (h0 : Touches ps s0 v0) :
    Touches ps s0 (breakAgreement v0) := by
  unfold breakAgreement
  lift_lets
  intro x0
  clear_value x0
  refine State.wr_touches h_regs ?_
  refine (Touches.upd_hat h_hat ?_)
  assumption

theorem enterHoldover_touches {ps : Piece → Prop} {s0 : State} (h_regs : ps .regs) (h_free : ps .free) (h_out : ps .out) (h_host : ps .host) (h_latches : ps .latches) (h_hat : ps .hat) {v0 : State} (h0 : Touches ps s0 v0) :
    Touches ps s0 (enterHoldover v0) := by
  unfold enterHoldover
  refine State.given_touches ?_ ?_
  · assumption
  · intro y0
    intro k1
    lift_lets
    intro x2
    have hx3 : Touches ps s0 x2 := by
      unfold x2
      refine writeHistory_touches h_regs h_out h_host h_hat ?_
      assumption
    clear_value x2
    refine State.raise_touches h_regs h_out h_host h_latches ?_
    refine recompute_touches h_regs h_free h_out h_host h_latches h_hat ?_
    refine breakAgreement_touches h_regs h_hat ?_
    refine State.vector_touches h_out h_host ?_
    refine State.wr_touches h_regs ?_
    assumption

theorem stopSlew_touches {ps : Piece → Prop} {s0 : State} (h_regs : ps .regs) (h_hat : ps .hat) {v0 : State} (h0 : Touches ps s0 v0) :
    Touches ps s0 (stopSlew v0) := by
  unfold stopSlew
  lift_lets
  intro x0
  clear_value x0
  refine State.wr_touches h_regs ?_
  refine (Touches.upd_hat h_hat ?_)
  assumption

theorem State.putRef_touches {ps : Piece → Prop} {s0 : State} (h_hat : ps .hat) {v0 : State} {v1 : ℕ} {v2 : RefRec} (h0 : Touches ps s0 v0) :
    Touches ps s0 (State.putRef v0 v1 v2) := by
  unfold State.putRef
  lift_lets
  intro x0
  clear_value x0
  refine (Touches.upd_hat h_hat ?_)
  assumption

theorem markFail_touches {ps : Piece → Prop} {s0 : State} (h_regs : ps .regs) (h_out : ps .out) (h_host : ps .host) (h_latches : ps .latches) (h_hat : ps .hat) {v0 : ℕ} {v1 : ℕ} {v2 : State} (h0 : Touches ps s0 v2) :
    Touches ps s0 (markFail v0 v1 v2) := by
  unfold markFail
  lift_lets
  intro x0
  clear_value x0
  refine State.raise_touches h_regs h_out h_host h_latches ?_
  refine State.bumpi_touches h_regs h_latches ?_
  refine State.wri_touches h_regs ?_
  refine State.putRef_touches h_hat ?_
  assumption

theorem State.putQ_touches {ps : Piece → Prop} {s0 : State} (h_regs : ps .regs) {v0 : State} {v1 : ℕ} {v2 : ℕ} (h0 : Touches ps s0 v0) :
    Touches ps s0 (State.putQ v0 v1 v2) := by
  unfold State.putQ
  refine State.wri_touches h_regs ?_
  assumption

theorem silenceIdle_touches {ps : Piece → Prop} {s0 : State} (h_regs : ps .regs) (h_out : ps .out) (h_host : ps .host) (h_latches : ps .latches) (h_hat : ps .hat) {v0 : ℕ} {v1 : ℕ} {v2 : State} (h0 : Touches ps s0 v2) :
    Touches ps s0 (silenceIdle v0 v1 v2) := by
  unfold silenceIdle
  refine Touches.ite ?_ ?_
  · refine markFail_touches h_regs h_out h_host h_latches h_hat ?_
    refine State.putQ_touches h_regs ?_
    assumption
  · refine Touches.ite ?_ ?_
    · lift_lets
      intro x0
      clear_value x0
      refine State.putRef_touches h_hat ?_
      refine State.putQ_touches h_regs ?_
      assumption
    · assumption

theorem State.putPeer_touches {ps : Piece → Prop} {s0 : State} (h_hat : ps .hat) {v0 : State} {v1 : ℕ} {v2 : ℕ} {v3 : Peer} (h0 : Touches ps s0 v0) :
    Touches ps s0 (State.putPeer v0 v1 v2 v3) := by
  unfold State.putPeer
  lift_lets
  intro x0
  clear_value x0
  refine (Touches.upd_hat h_hat ?_)
  assumption

theorem dropPeer_touches {ps : Piece → Prop} {s0 : State} (h_regs : ps .regs) (h_out : ps .out) (h_host : ps .host) (h_latches : ps .latches) (h_hat : ps .hat) {v0 : ℕ} {v1 : ℕ} {v2 : State} (h0 : Touches ps s0 v2) :
    Touches ps s0 (dropPeer v0 v1 v2) := by
  unfold dropPeer
  lift_lets
  intro x0
  clear_value x0
  refine Touches.foldl (fun _ _ _ => ?_) ?_
  · refine Touches.ite ?_ ?_
    · assumption
    · refine silenceIdle_touches h_regs h_out h_host h_latches h_hat ?_
      assumption
  · refine State.vector_touches h_out h_host ?_
    refine State.putPeer_touches h_hat ?_
    assumption

theorem dropAged_touches {ps : Piece → Prop} {s0 : State} (h_regs : ps .regs) (h_out : ps .out) (h_host : ps .host) (h_latches : ps .latches) (h_hat : ps .hat) {v0 : ℕ} {v1 : State} (h0 : Touches ps s0 v1) :
    Touches ps s0 (dropAged v0 v1) := by
  unfold dropAged
  lift_lets
  intro x0
  clear_value x0
  split
  · refine Touches.ite ?_ ?_
    · refine dropPeer_touches h_regs h_out h_host h_latches h_hat ?_
      assumption
    · assumption
  · assumption

theorem deselect_touches {ps : Piece → Prop} {s0 : State} (h_regs : ps .regs) (h_out : ps .out) (h_host : ps .host) (h_latches : ps .latches) (h_hat : ps .hat) {v0 : ℕ} {v1 : ℕ} {v2 : State} (h0 : Touches ps s0 v2) :
    Touches ps s0 (deselect v0 v1 v2) := by
  unfold deselect
  refine Touches.ite ?_ ?_
  · lift_lets
    intro x0
    have hx1 : Touches ps s0 x0 := by
      unfold x0
      refine dropAged_touches h_regs h_out h_host h_latches h_hat ?_
      refine State.vector_touches h_out h_host ?_
      refine State.wr_touches h_regs ?_
      refine State.putQ_touches h_regs ?_
      assumption
    clear_value x0
    intro x2
    clear_value x2
    refine State.putRef_touches h_hat ?_
    assumption
  · refine State.putQ_touches h_regs ?_
    assumption

theorem setServo_touches {ps : Piece → Prop} {s0 : State} (h_regs : ps .regs) (h_free : ps .free) (h_out : ps .out) (h_host : ps .host) (h_latches : ps .latches) (h_hat : ps .hat) {v0 : ℕ} {v1 : State} (h0 : Touches ps s0 v1) :
    Touches ps s0 (setServo v0 v1) := by
  unfold setServo
  refine Touches.ite ?_ ?_
  · refine refreshTq_touches h_regs h_free h_out h_host h_latches h_hat ?_
    assumption
  · refine refreshTq_touches h_regs h_free h_out h_host h_latches h_hat ?_
    refine State.vector_touches h_out h_host ?_
    refine State.wr_touches h_regs ?_
    assumption

theorem selectRef_touches {ps : Piece → Prop} {s0 : State} (h_regs : ps .regs) (h_free : ps .free) (h_out : ps .out) (h_host : ps .host) (h_latches : ps .latches) (h_hat : ps .hat) {v0 : State} (h0 : Touches ps s0 v0) :
    Touches ps s0 (selectRef v0) := by
  unfold selectRef
  refine Touches.ite ?_ ?_
  · assumption
  · lift_lets
    intro x0
    clear_value x0
    split
    · assumption
    · lift_lets
      intro x1
      have hx2 : Touches ps s0 x1 := by
        unfold x1
        refine State.vector_touches h_out h_host ?_
        refine State.wr_touches h_regs ?_
        refine State.wr_touches h_regs ?_
        refine State.putQ_touches h_regs ?_
        assumption
      clear_value x1
      intro x3
      clear_value x3
      intro x4
      have hx5 : Touches ps s0 x4 := by
        unfold x4
        refine (Touches.upd_hat h_hat ?_)
        assumption
      clear_value x4
      refine Touches.ite ?_ ?_
      · refine breakAgreement_touches h_regs h_hat ?_
        refine setServo_touches h_regs h_free h_out h_host h_latches h_hat ?_
        assumption
      · assumption

theorem switched_touches {ps : Piece → Prop} {s0 : State} (h_hat : ps .hat) {v0 : ℕ} {v1 : State} (h0 : Touches ps s0 v1) :
    Touches ps s0 (switched v0 v1) := by
  unfold switched
  lift_lets
  intro x0
  clear_value x0
  refine (Touches.upd_hat h_hat ?_)
  assumption

theorem afterLoss_touches {ps : Piece → Prop} {s0 : State} (h_regs : ps .regs) (h_free : ps .free) (h_out : ps .out) (h_host : ps .host) (h_latches : ps .latches) (h_hat : ps .hat) {v0 : ℕ} {v1 : State} (h0 : Touches ps s0 v1) :
    Touches ps s0 (afterLoss v0 v1) := by
  unfold afterLoss
  lift_lets
  intro x0
  have hx1 : Touches ps s0 x0 := by
    unfold x0
    refine selectRef_touches h_regs h_free h_out h_host h_latches h_hat ?_
    refine breakAgreement_touches h_regs h_hat ?_
    assumption
  clear_value x0
  refine Touches.ite ?_ ?_
  · refine switched_touches h_hat ?_
    assumption
  · refine Touches.ite ?_ ?_
    · refine setServo_touches h_regs h_free h_out h_host h_latches h_hat ?_
      assumption
    · refine Touches.ite ?_ ?_
      · refine enterHoldover_touches h_regs h_free h_out h_host h_latches h_hat ?_
        assumption
      · refine refreshTq_touches h_regs h_free h_out h_host h_latches h_hat ?_
        assumption

theorem failRef_touches {ps : Piece → Prop} {s0 : State} (h_regs : ps .regs) (h_free : ps .free) (h_out : ps .out) (h_host : ps .host) (h_latches : ps .latches) (h_hat : ps .hat) {v0 : ℕ} {v1 : ℕ} {v2 : State} (h0 : Touches ps s0 v2) :
    Touches ps s0 (failRef v0 v1 v2) := by
  unfold failRef
  lift_lets
  intro x0
  clear_value x0
  intro x1
  have hx2 : Touches ps s0 x1 := by
    unfold x1
    refine markFail_touches h_regs h_out h_host h_latches h_hat ?_
    refine deselect_touches h_regs h_out h_host h_latches h_hat ?_
    assumption
  clear_value x1
  intro x3
  have hx4 : Touches ps s0 x3 := by
    unfold x3
    refine Touches.ite ?_ ?_
    · refine State.putQ_touches h_regs ?_
      assumption
    · assumption
  clear_value x3
  refine Touches.ite ?_ ?_
  · refine afterLoss_touches h_regs h_free h_out h_host h_latches h_hat ?_
    assumption
  · assumption

theorem silenceRef_touches {ps : Piece → Prop} {s0 : State} (h_regs : ps .regs) (h_free : ps .free) (h_out : ps .out) (h_host : ps .host) (h_latches : ps .latches) (h_hat : ps .hat) {v0 : ℕ} {v1 : ℕ} {v2 : State} (h0 : Touches ps s0 v2) :
    Touches ps s0 (silenceRef v0 v1 v2) := by
  unfold silenceRef
  refine Touches.ite ?_ ?_
  · refine failRef_touches h_regs h_free h_out h_host h_latches h_hat ?_
    assumption
  · refine silenceIdle_touches h_regs h_out h_host h_latches h_hat ?_
    assumption

theorem settleRef_touches {ps : Piece → Prop} {s0 : State} (h_regs : ps .regs) (h_free : ps .free) (h_out : ps .out) (h_host : ps .host) (h_latches : ps .latches) (h_hat : ps .hat) {v0 : ℕ} {v1 : State} (h0 : Touches ps s0 v1) :
    Touches ps s0 (settleRef v0 v1) := by
  unfold settleRef
  refine Touches.ite ?_ ?_
  · assumption
  · refine Touches.ite ?_ ?_
    · refine Touches.ite ?_ ?_
      · assumption
      · refine Touches.ite ?_ ?_
        · refine afterLoss_touches h_regs h_free h_out h_host h_latches h_hat ?_
          refine deselect_touches h_regs h_out h_host h_latches h_hat ?_
          assumption
        · refine State.putQ_touches h_regs ?_
          assumption
    · refine Touches.ite ?_ ?_
      · refine State.putRef_touches h_hat ?_
        refine State.putQ_touches h_regs ?_
        assumption
      · refine Touches.ite ?_ ?_
        · refine silenceRef_touches h_regs h_free h_out h_host h_latches h_hat ?_
          assumption
        · refine Touches.ite ?_ ?_
          · refine State.putQ_touches h_regs ?_
            assumption
          · assumption

theorem changeMode_touches {ps : Piece → Prop} {s0 : State} (h_regs : ps .regs) (h_free : ps .free) (h_out : ps .out) (h_host : ps .host) (h_latches : ps .latches) (h_hat : ps .hat) {v0 : ℕ} {v1 : State} (h0 : Touches ps s0 v1) :
    Touches ps s0 (changeMode v0 v1) := by
  unfold changeMode
  refine Touches.ite ?_ ?_
  · assumption
  · lift_lets
    intro x0
    have hx1 : Touches ps s0 x0 := by
      unfold x0
      refine State.wr_touches h_regs ?_
      assumption
    clear_value x0
    intro x2
    clear_value x2
    intro x3
    have hx4 : Touches ps s0 x3 := by
      unfold x3
      refine stopSlew_touches h_regs h_hat ?_
      assumption
    clear_value x3
    intro x5
    clear_value x5
    intro x6
    have hx7 : Touches ps s0 x6 := by
      unfold x6
      refine breakAgreement_touches h_regs h_hat ?_
      refine deselect_touches h_regs h_out h_host h_latches h_hat ?_
      assumption
    clear_value x6
    intro x8
    clear_value x8
    intro x9
    have hx10 : Touches ps s0 x9 := by
      unfold x9
      refine Touches.ite ?_ ?_
      · refine settleRef_touches h_regs h_free h_out h_host h_latches h_hat ?_
        refine State.putRef_touches h_hat ?_
        assumption
      · assumption
    clear_value x9
    refine Touches.ite ?_ ?_
    · refine breakAgreement_touches h_regs h_hat ?_
      refine (Touches.upd_hat h_hat ?_)
      assumption
    · refine Touches.ite ?_ ?_
      · refine enterHoldover_touches h_regs h_free h_out h_host h_latches h_hat ?_
        assumption
      · refine Touches.ite ?_ ?_
        · refine setServo_touches h_regs h_free h_out h_host h_latches h_hat ?_
          assumption
        · refine refreshTq_touches h_regs h_free h_out h_host h_latches h_hat ?_
          assumption

theorem clearHist_touches {ps : Piece → Prop} {s0 : State} (h_regs : ps .regs) (h_hat : ps .hat) {v0 : State} (h0 : Touches ps s0 v0) :
    Touches ps s0 (clearHist v0) := by
  unfold clearHist
  lift_lets
  intro x0
  clear_value x0
  refine State.wr_touches h_regs ?_
  refine State.wr_touches h_regs ?_
  refine (Touches.upd_hat h_hat ?_)
  assumption

theorem takeCfg_touches {ps : Piece → Prop} {s0 : State} (h_hat : ps .hat) {v0 : ℕ} {v1 : State} (h0 : Touches ps s0 v1) :
    Touches ps s0 (takeCfg v0 v1) := by
  unfold takeCfg
  split
  · lift_lets
    intro x0
    clear_value x0
    refine State.putRef_touches h_hat ?_
    assumption
  · assumption

theorem qualify_touches {ps : Piece → Prop} {s0 : State} (h_regs : ps .regs) (h_hat : ps .hat) {v0 : ℕ} {v1 : ℤ} {v2 : State} (h0 : Touches ps s0 v2) :
    Touches ps s0 (qualify v0 v1 v2) := by
  unfold qualify
  refine Touches.ite ?_ ?_
  · lift_lets
    intro x0
    clear_value x0
    split
    · refine State.putRef_touches h_hat ?_
      refine State.putQ_touches h_regs ?_
      assumption
    · refine Touches.ite ?_ ?_
      · refine State.putRef_touches h_hat ?_
        refine State.putQ_touches h_regs ?_
        assumption
      · assumption
  · assumption

theorem agree_touches {ps : Piece → Prop} {s0 : State} (h_regs : ps .regs) (h_hat : ps .hat) {v0 : ℤ} {v1 : State} (h0 : Touches ps s0 v1) :
    Touches ps s0 (agree v0 v1) := by
  unfold agree
  refine Touches.ite ?_ ?_
  · lift_lets
    intro x0
    clear_value x0
    intro x1
    clear_value x1
    refine State.wr_touches h_regs ?_
    refine (Touches.upd_hat h_hat ?_)
    assumption
  · refine breakAgreement_touches h_regs h_hat ?_
    assumption

theorem usedUp_touches {ps : Piece → Prop} {s0 : State} (h_hat : ps .hat) {v0 : State} (h0 : Touches ps s0 v0) :
    Touches ps s0 (usedUp v0) := by
  unfold usedUp
  lift_lets
  intro x0
  clear_value x0
  refine (Touches.upd_hat h_hat ?_)
  assumption

theorem refreshGrid_touches {ps : Piece → Prop} {s0 : State} (h_regs : ps .regs) (h_out : ps .out) (h_host : ps .host) (h_latches : ps .latches) {v0 : ℕ} {v1 : State} (h0 : Touches ps s0 v1) :
    Touches ps s0 (refreshGrid v0 v1) := by
  unfold refreshGrid
  lift_lets
  intro x0
  clear_value x0
  intro x1
  clear_value x1
  refine Touches.ite ?_ ?_
  · refine State.raise_touches h_regs h_out h_host h_latches ?_
    refine State.wr_touches h_regs ?_
    assumption
  · refine State.wr_touches h_regs ?_
    assumption

theorem setFreq_touches {ps : Piece → Prop} {s0 : State} (h_regs : ps .regs) (h_out : ps .out) (h_host : ps .host) (h_latches : ps .latches) {v0 : ℤ} {v1 : State} (h0 : Touches ps s0 v1) :
    Touches ps s0 (setFreq v0 v1) := by
  unfold setFreq
  lift_lets
  intro x0
  clear_value x0
  refine Touches.foldl (fun _ _ _ => ?_) ?_
  · refine refreshGrid_touches h_regs h_out h_host h_latches ?_
    assumption
  · refine State.wr_touches h_regs ?_
    assumption

theorem ageCheck_touches {ps : Piece → Prop} {s0 : State} (h_regs : ps .regs) (h_out : ps .out) (h_host : ps .host) (h_latches : ps .latches) {v0 : State} (h0 : Touches ps s0 v0) :
    Touches ps s0 (ageCheck v0) := by
  unfold ageCheck
  refine Touches.ite ?_ ?_
  · assumption
  · lift_lets
    intro x0
    clear_value x0
    intro x1
    clear_value x1
    refine Touches.ite ?_ ?_
    · refine State.vector_touches h_out h_host ?_
      refine State.wr_touches h_regs ?_
      refine State.wr_touches h_regs ?_
      refine State.wr_touches h_regs ?_
      assumption
    · refine Touches.ite ?_ ?_
      · refine setFreq_touches h_regs h_out h_host h_latches ?_
        assumption
      · assumption

theorem firstSet_touches {ps : Piece → Prop} {s0 : State} (h_regs : ps .regs) (h_out : ps .out) (h_host : ps .host) (h_latches : ps .latches) (h_hat : ps .hat) {v0 : State} (h0 : Touches ps s0 v0) :
    Touches ps s0 (firstSet v0) := by
  unfold firstSet
  lift_lets
  intro x0
  clear_value x0
  refine ageCheck_touches h_regs h_out h_host h_latches ?_
  refine (Touches.upd_hat h_hat ?_)
  assumption

theorem stepTime_touches {ps : Piece → Prop} {s0 : State} (h_regs : ps .regs) (h_time : ps .time) (h_out : ps .out) (h_host : ps .host) (h_latches : ps .latches) (h_hat : ps .hat) (h_ticks : ps .ticks) (h_ldg : ps .ldg) (h_vsr : ps .vsr) {v0 : ℕ} {v1 : State} (h0 : Touches ps s0 v1) :
    Touches ps s0 (stepTime v0 v1) := by
  unfold stepTime
  lift_lets
  intro x0
  clear_value x0
  intro x1
  clear_value x1
  intro x2
  clear_value x2
  intro x3
  clear_value x3
  intro x4
  have hx5 : Touches ps s0 x4 := by
    unfold x4
    refine Touches.multi (b := v1) ?_ (fun p hn => by cases p <;> first | exact absurd (by assumption) hn | rfl) (fun hs => hs) (fun hs => hs)
    assumption
  clear_value x4
  refine ledgerStep_touches h_regs h_out h_host h_latches h_ldg h_vsr ?_
  refine State.set1_touches h_regs h_latches ?_
  refine State.wr_touches h_regs ?_
  refine regrid_touches h_hat ?_
  assumption

theorem stepBy_touches {ps : Piece → Prop} {s0 : State} (h_regs : ps .regs) (h_time : ps .time) (h_out : ps .out) (h_host : ps .host) (h_latches : ps .latches) (h_hat : ps .hat) (h_ticks : ps .ticks) (h_ldg : ps .ldg) (h_vsr : ps .vsr) {v0 : ℤ} {v1 : State} (h0 : Touches ps s0 v1) :
    Touches ps s0 (stepBy v0 v1) := by
  unfold stepBy
  refine stepTime_touches h_regs h_time h_out h_host h_latches h_hat h_ticks h_ldg h_vsr ?_
  assumption

theorem setGood_touches {ps : Piece → Prop} {s0 : State} (h_hat : ps .hat) {v0 : ℤ} {v1 : ℕ} {v2 : ℕ} {v3 : State} (h0 : Touches ps s0 v3) :
    Touches ps s0 (setGood v0 v1 v2 v3) := by
  unfold setGood
  lift_lets
  intro x0
  clear_value x0
  refine (Touches.upd_hat h_hat ?_)
  assumption

theorem startSlew_touches {ps : Piece → Prop} {s0 : State} (h_regs : ps .regs) (h_hat : ps .hat) {v0 : ℤ} {v1 : State} (h0 : Touches ps s0 v1) :
    Touches ps s0 (startSlew v0 v1) := by
  unfold startSlew
  lift_lets
  intro x0
  clear_value x0
  refine State.wr_touches h_regs ?_
  refine (Touches.upd_hat h_hat ?_)
  assumption

theorem steerLocking_touches {ps : Piece → Prop} {s0 : State} (h_regs : ps .regs) (h_time : ps .time) (h_out : ps .out) (h_host : ps .host) (h_latches : ps .latches) (h_hat : ps .hat) (h_ticks : ps .ticks) (h_ldg : ps .ldg) (h_vsr : ps .vsr) {v0 : ℤ} {v1 : ℤ} {v2 : ℕ} {v3 : ℕ} {v4 : State} (h0 : Touches ps s0 v4) :
    Touches ps s0 (steerLocking v0 v1 v2 v3 v4) := by
  unfold steerLocking
  refine Touches.ite ?_ ?_
  · refine breakAgreement_touches h_regs h_hat ?_
    refine stepBy_touches h_regs h_time h_out h_host h_latches h_hat h_ticks h_ldg h_vsr ?_
    assumption
  · refine setGood_touches h_hat ?_
    refine agree_touches h_regs h_hat ?_
    refine startSlew_touches h_regs h_hat ?_
    refine setFreq_touches h_regs h_out h_host h_latches ?_
    assumption

theorem steer_touches {ps : Piece → Prop} {s0 : State} (h_regs : ps .regs) (h_time : ps .time) (h_free : ps .free) (h_out : ps .out) (h_host : ps .host) (h_latches : ps .latches) (h_hat : ps .hat) (h_ticks : ps .ticks) (h_ldg : ps .ldg) (h_vsr : ps .vsr) {v0 : ℕ} {v1 : ℤ} {v2 : ℤ} {v3 : ℕ} {v4 : ℕ} {v5 : State} (h0 : Touches ps s0 v5) :
    Touches ps s0 (steer v0 v1 v2 v3 v4 v5) := by
  unfold steer
  lift_lets
  intro x0
  have hx1 : Touches ps s0 x0 := by
    unfold x0
    refine State.wr_touches h_regs ?_
    assumption
  clear_value x0
  intro x2
  clear_value x2
  intro x3
  clear_value x3
  intro x4
  have hx5 : Touches ps s0 x4 := by
    unfold x4
    refine Touches.ite ?_ ?_
    · refine startSlew_touches h_regs h_hat ?_
      refine breakAgreement_touches h_regs h_hat ?_
      assumption
    · refine setFreq_touches h_regs h_out h_host h_latches ?_
      assumption
  clear_value x4
  refine Touches.ite ?_ ?_
  · refine agree_touches h_regs h_hat ?_
    assumption
  · split
    · refine usedUp_touches h_hat ?_
      refine setServo_touches h_regs h_free h_out h_host h_latches h_hat ?_
      refine firstSet_touches h_regs h_out h_host h_latches h_hat ?_
      refine stepBy_touches h_regs h_time h_out h_host h_latches h_hat h_ticks h_ldg h_vsr ?_
      assumption
    · refine usedUp_touches h_hat ?_
      refine steerLocking_touches h_regs h_time h_out h_host h_latches h_hat h_ticks h_ldg h_vsr ?_
      refine breakAgreement_touches h_regs h_hat ?_
      refine setServo_touches h_regs h_free h_out h_host h_latches h_hat ?_
      assumption
    · refine usedUp_touches h_hat ?_
      refine steerLocking_touches h_regs h_time h_out h_host h_latches h_hat h_ticks h_ldg h_vsr ?_
      assumption
    · refine Touches.ite ?_ ?_
      · refine usedUp_touches h_hat ?_
        refine recompute_touches h_regs h_free h_out h_host h_latches h_hat ?_
        refine setGood_touches h_hat ?_
        refine agree_touches h_regs h_hat ?_
        refine startSlew_touches h_regs h_hat ?_
        refine enterHoldover_touches h_regs h_free h_out h_host h_latches h_hat ?_
        assumption
      · refine Touches.ite ?_ ?_
        · refine failRef_touches h_regs h_free h_out h_host h_latches h_hat ?_
          assumption
        · refine usedUp_touches h_hat ?_
          refine setGood_touches h_hat ?_
          refine agree_touches h_regs h_hat ?_
          refine startSlew_touches h_regs h_hat ?_
          refine setFreq_touches h_regs h_out h_host h_latches ?_
          refine State.putRef_touches h_hat ?_
          assumption
    · refine usedUp_touches h_hat ?_
      refine recompute_touches h_regs h_free h_out h_host h_latches h_hat ?_
      refine setGood_touches h_hat ?_
      refine agree_touches h_regs h_hat ?_
      assumption
    · assumption

theorem steerOld_touches {ps : Piece → Prop} {s0 : State} (h_regs : ps .regs) (h_time : ps .time) (h_free : ps .free) (h_out : ps .out) (h_host : ps .host) (h_latches : ps .latches) (h_hat : ps .hat) (h_ticks : ps .ticks) (h_ldg : ps .ldg) (h_vsr : ps .vsr) {v0 : ℕ} {v1 : ℤ} {v2 : ℤ} {v3 : ℕ} {v4 : ℕ} {v5 : State} (h0 : Touches ps s0 v5) :
    Touches ps s0 (steerOld v0 v1 v2 v3 v4 v5) := by
  unfold steerOld
  refine Touches.ite ?_ ?_
  · lift_lets
    intro x0
    have hx1 : Touches ps s0 x0 := by
      unfold x0
      refine steer_touches h_regs h_time h_free h_out h_host h_latches h_hat h_ticks h_ldg h_vsr ?_
      refine usedUp_touches h_hat ?_
      assumption
    clear_value x0
    intro x2
    clear_value x2
    refine (Touches.upd_hat h_hat ?_)
    assumption
  · assumption

theorem measure_touches {ps : Piece → Prop} {s0 : State} (h_regs : ps .regs) (h_time : ps .time) (h_free : ps .free) (h_out : ps .out) (h_host : ps .host) (h_latches : ps .latches) (h_hat : ps .hat) (h_ticks : ps .ticks) (h_ldg : ps .ldg) (h_vsr : ps .vsr) {v0 : ℕ} {v1 : T80} {v2 : ℤ} {v3 : ℤ} {v4 : ℕ} {v5 : ℕ} {v6 : ℕ} {v7 : List (ℕ × Bool)} {v8 : State} (h0 : Touches ps s0 v8) :
    Touches ps s0 (measure v0 v1 v2 v3 v4 v5 v6 v7 v8) := by
  unfold measure
  refine Touches.ite ?_ ?_
  · assumption
  · split
    · refine failRef_touches h_regs h_free h_out h_host h_latches h_hat ?_
      refine Touches.ite ?_ ?_
      · refine State.putQ_touches h_regs ?_
        assumption
      · assumption
    · lift_lets
      intro x0
      have hx1 : Touches ps s0 x0 := by
        unfold x0
        refine selectRef_touches h_regs h_free h_out h_host h_latches h_hat ?_
        refine qualify_touches h_regs h_hat ?_
        assumption
      clear_value x0
      intro x2
      clear_value x2
      refine Touches.ite ?_ ?_
      · refine steerOld_touches h_regs h_time h_free h_out h_host h_latches h_hat h_ticks h_ldg h_vsr ?_
        assumption
      · refine Touches.ite ?_ ?_
        · refine refreshTq_touches h_regs h_free h_out h_host h_latches h_hat ?_
          refine steer_touches h_regs h_time h_free h_out h_host h_latches h_hat h_ticks h_ldg h_vsr ?_
          refine (Touches.upd_hat h_hat ?_)
          assumption
        · assumption

theorem setTime_touches {ps : Piece → Prop} {s0 : State} (h_regs : ps .regs) (h_time : ps .time) (h_free : ps .free) (h_out : ps .out) (h_host : ps .host) (h_latches : ps .latches) (h_hat : ps .hat) (h_ticks : ps .ticks) (h_ldg : ps .ldg) (h_vsr : ps .vsr) {v0 : ℕ} {v1 : State} (h0 : Touches ps s0 v1) :
    Touches ps s0 (setTime v0 v1) := by
  unfold setTime
  refine Touches.ite ?_ ?_
  · refine State.set1_touches h_regs h_latches ?_
    assumption
  · lift_lets
    intro x0
    clear_value x0
    intro x1
    have hx2 : Touches ps s0 x1 := by
      unfold x1
      refine stepTime_touches h_regs h_time h_out h_host h_latches h_hat h_ticks h_ldg h_vsr ?_
      assumption
    clear_value x1
    intro x3
    have hx4 : Touches ps s0 x3 := by
      unfold x3
      refine firstSet_touches h_regs h_out h_host h_latches h_hat ?_
      assumption
    clear_value x3
    refine Touches.ite ?_ ?_
    · refine setServo_touches h_regs h_free h_out h_host h_latches h_hat ?_
      assumption
    · refine Touches.ite ?_ ?_
      · refine breakAgreement_touches h_regs h_hat ?_
        assumption
      · assumption

theorem execHoldoverRecompute_touches {ps : Piece → Prop} {s0 : State} (h_regs : ps .regs) (h_free : ps .free) (h_out : ps .out) (h_host : ps .host) (h_latches : ps .latches) (h_hat : ps .hat) (h_ticks : ps .ticks) {v0 : State} (h0 : Touches ps s0 v0) :
    Moves ps s0 (execHoldoverRecompute v0) := by
  unfold execHoldoverRecompute
  refine Moves.next ?_
  refine State.periodic_touches h_ticks ?_ ?_
  · assumption
  · intro y0
    intro k1
    refine State.given_touches ?_ ?_
    · assumption
    · intro y2
      intro k3
      refine recompute_touches h_regs h_free h_out h_host h_latches h_hat ?_
      assumption

theorem idleTick_touches {ps : Piece → Prop} {s0 : State} (h_time : ps .time) (h_hat : ps .hat) {v0 : State} (h0 : Touches ps s0 v0) :
    Touches ps s0 (idleTick v0) := by
  unfold idleTick
  refine Touches.ite ?_ ?_
  · assumption
  · lift_lets
    intro x0
    clear_value x0
    intro x1
    clear_value x1
    intro x2
    clear_value x2
    intro x3
    clear_value x3
    intro x4
    clear_value x4
    refine Touches.multi (b := v0) ?_ (fun p hn => by cases p <;> first | exact absurd (by assumption) hn | rfl) (fun hs => hs) (fun hs => hs)
    assumption

theorem execSlewEnd_touches {ps : Piece → Prop} {s0 : State} (h_regs : ps .regs) (h_hat : ps .hat) {v0 : State} (h0 : Touches ps s0 v0) :
    Moves ps s0 (execSlewEnd v0) := by
  unfold execSlewEnd
  refine Moves.next ?_
  refine State.given_touches ?_ ?_
  · assumption
  · intro y0
    intro k1
    refine stopSlew_touches h_regs h_hat ?_
    assumption

theorem setClk_touches {ps : Piece → Prop} {s0 : State} (h_out : ps .out) (h_hat : ps .hat) {v0 : Bool} {v1 : Option T80} {v2 : State} (h0 : Touches ps s0 v2) :
    Touches ps s0 (setClk v0 v1 v2) := by
  unfold setClk
  lift_lets
  intro x0
  clear_value x0
  refine State.send_touches h_out ?_
  refine (Touches.upd_hat h_hat ?_)
  assumption

theorem clkEdge_touches {ps : Piece → Prop} {s0 : State} (h_out : ps .out) (h_hat : ps .hat) {v0 : State} (h0 : Touches ps s0 v0) :
    Touches ps s0 (clkEdge v0) := by
  unfold clkEdge
  lift_lets
  intro x0
  clear_value x0
  intro x1
  clear_value x1
  split
  · refine State.given_touches ?_ ?_
    · assumption
    · intro y2
      intro k3
      refine setClk_touches h_out h_hat ?_
      assumption
  · assumption

theorem execClkOutStart_touches {ps : Piece → Prop} {s0 : State} (h_out : ps .out) (h_hat : ps .hat) {v0 : State} (h0 : Touches ps s0 v0) :
    Moves ps s0 (execClkOutStart v0) := by
  unfold execClkOutStart
  refine Moves.next ?_
  refine State.given_touches ?_ ?_
  · assumption
  · intro y0
    intro k1
    refine clkEdge_touches h_out h_hat ?_
    assumption

theorem refreshGroup_touches {ps : Piece → Prop} {s0 : State} (h_regs : ps .regs) (h_free : ps .free) (h_out : ps .out) (h_host : ps .host) (h_latches : ps .latches) (h_hat : ps .hat) {v0 : State} (h0 : Touches ps s0 v0) :
    Touches ps s0 (refreshGroup v0) := by
  unfold refreshGroup
  lift_lets
  intro x0
  have hx1 : Touches ps s0 x0 := by
    unfold x0
    refine State.wr_touches h_regs ?_
    assumption
  clear_value x0
  refine refreshTq_touches h_regs h_free h_out h_host h_latches h_hat ?_
  refine Touches.foldl (fun _ _ _ => ?_) ?_
  · refine Touches.ite ?_ ?_
    · assumption
    · refine settleRef_touches h_regs h_free h_out h_host h_latches h_hat ?_
      assumption
  · assumption

theorem relocked_touches {ps : Piece → Prop} {s0 : State} (h_regs : ps .regs) (h_free : ps .free) (h_out : ps .out) (h_host : ps .host) (h_latches : ps .latches) (h_hat : ps .hat) {v0 : State} (h0 : Touches ps s0 v0) :
    Touches ps s0 (relocked v0) := by
  unfold relocked
  split
  · assumption
  · refine State.given_touches ?_ ?_
    · assumption
    · intro y0
      intro k1
      lift_lets
      intro x2
      clear_value x2
      refine setServo_touches h_regs h_free h_out h_host h_latches h_hat ?_
      refine State.wr_touches h_regs ?_
      refine State.wr_touches h_regs ?_
      refine State.wr_touches h_regs ?_
      refine (Touches.upd_hat h_hat ?_)
      assumption

theorem execRelockComplete_touches {ps : Piece → Prop} {s0 : State} (h_regs : ps .regs) (h_free : ps .free) (h_out : ps .out) (h_host : ps .host) (h_latches : ps .latches) (h_hat : ps .hat) {v0 : State} (h0 : Touches ps s0 v0) :
    Moves ps s0 (execRelockComplete v0) := by
  unfold execRelockComplete
  refine Moves.next ?_
  refine relocked_touches h_regs h_free h_out h_host h_latches h_hat ?_
  assumption

theorem switchPrimary_touches {ps : Piece → Prop} {s0 : State} (h_regs : ps .regs) (h_free : ps .free) (h_out : ps .out) (h_host : ps .host) (h_latches : ps .latches) (h_hat : ps .hat) {v0 : State} (h0 : Touches ps s0 v0) :
    Touches ps s0 (switchPrimary v0) := by
  unfold switchPrimary
  lift_lets
  intro x0
  clear_value x0
  refine refreshGroup_touches h_regs h_free h_out h_host h_latches h_hat ?_
  refine State.wr_touches h_regs ?_
  refine (Touches.upd_hat h_hat ?_)
  assumption

theorem writeRefCfg_touches {ps : Piece → Prop} {s0 : State} (h_regs : ps .regs) (h_free : ps .free) (h_out : ps .out) (h_host : ps .host) (h_latches : ps .latches) (h_hat : ps .hat) {v0 : ℕ} {v1 : ℕ} {v2 : State} (h0 : Touches ps s0 v2) :
    Touches ps s0 (writeRefCfg v0 v1 v2) := by
  unfold writeRefCfg
  lift_lets
  intro x0
  clear_value x0
  intro x1
  clear_value x1
  intro x2
  have hx3 : ∀ a0 a1, Touches ps s0 a1 → Touches ps s0 (x2 a0 a1) := by
    intro y4
    intro y5
    intro k6
    unfold x2
    refine State.wri_touches h_regs ?_
    assumption
  clear_value x2
  intro x7
  have hx8 : Touches ps s0 x7 := by
    unfold x7
    refine hx3 _ _ ?_
    refine hx3 _ _ ?_
    refine hx3 _ _ ?_
    refine hx3 _ _ ?_
    refine hx3 _ _ ?_
    refine hx3 _ _ ?_
    refine hx3 _ _ ?_
    refine hx3 _ _ ?_
    refine hx3 _ _ ?_
    assumption
  clear_value x7
  intro x9
  have hx10 : Touches ps s0 x9 := by
    unfold x9
    refine State.raise_touches h_regs h_out h_host h_latches ?_
    refine State.bumpi_touches h_regs h_latches ?_
    refine deselect_touches h_regs h_out h_host h_latches h_hat ?_
    assumption
  clear_value x9
  intro x11
  clear_value x11
  refine Touches.ite ?_ ?_
  · refine State.putRef_touches h_hat ?_
    refine State.putQ_touches h_regs ?_
    assumption
  · refine Touches.ite ?_ ?_
    · refine Touches.ite ?_ ?_
      · refine afterLoss_touches h_regs h_free h_out h_host h_latches h_hat ?_
        assumption
      · assumption
    · refine Touches.ite ?_ ?_
      · refine State.putRef_touches h_hat ?_
        assumption
      · refine Touches.ite ?_ ?_
        · refine settleRef_touches h_regs h_free h_out h_host h_latches h_hat ?_
          assumption
        · assumption

theorem setPps_touches {ps : Piece → Prop} {s0 : State} (h_out : ps .out) (h_hat : ps .hat) {v0 : ℕ} {v1 : Bool} {v2 : T80} {v3 : State} (h0 : Touches ps s0 v3) :
    Touches ps s0 (setPps v0 v1 v2 v3) := by
  unfold setPps
  lift_lets
  intro x0
  clear_value x0
  intro x1
  clear_value x1
  refine State.send_touches h_out ?_
  refine (Touches.upd_hat h_hat ?_)
  assumption

theorem writePpsCfg_touches {ps : Piece → Prop} {s0 : State} (h_regs : ps .regs) (h_out : ps .out) (h_latches : ps .latches) (h_hat : ps .hat) {v0 : ℕ} {v1 : ℕ} {v2 : Bool} {v3 : Bool} {v4 : State} (h0 : Touches ps s0 v4) :
    Touches ps s0 (writePpsCfg v0 v1 v2 v3 v4) := by
  unfold writePpsCfg
  lift_lets
  intro x0
  clear_value x0
  intro x1
  clear_value x1
  intro x2
  clear_value x2
  intro x3
  have hx4 : Touches ps s0 x3 := by
    unfold x3
    refine State.wri_touches h_regs ?_
    refine State.wri_touches h_regs ?_
    refine State.wri_touches h_regs ?_
    refine State.wri_touches h_regs ?_
    assumption
  clear_value x3
  refine Touches.ite ?_ ?_
  · refine Touches.ite ?_ ?_
    · refine setPps_touches h_out h_hat ?_
      assumption
    · assumption
  · refine State.set1_touches h_regs h_latches ?_
    assumption

theorem writeClkCfg_touches {ps : Piece → Prop} {s0 : State} (h_regs : ps .regs) (h_out : ps .out) (h_latches : ps .latches) (h_hat : ps .hat) {v0 : ℕ} {v1 : Bool} {v2 : Bool} {v3 : State} (h0 : Touches ps s0 v3) :
    Touches ps s0 (writeClkCfg v0 v1 v2 v3) := by
  unfold writeClkCfg
  lift_lets
  intro x0
  clear_value x0
  intro x1
  clear_value x1
  intro x2
  have hx3 : Touches ps s0 x2 := by
    unfold x2
    refine State.wr_touches h_regs ?_
    refine State.wr_touches h_regs ?_
    assumption
  clear_value x2
  intro x4
  have hx5 : Touches ps s0 x4 := by
    unfold x4
    refine Touches.ite ?_ ?_
    · refine State.clear1_touches h_regs ?_
      assumption
    · assumption
  clear_value x4
  refine Touches.ite ?_ ?_
  · refine State.set1_touches h_regs h_latches ?_
    assumption
  · refine Touches.ite ?_ ?_
    · refine joinGrid_touches h_hat ?_
      assumption
    · refine Touches.ite ?_ ?_
      · refine setClk_touches h_out h_hat ?_
        assumption
      · refine regrid_touches h_hat ?_
        assumption

theorem State.putPps_touches {ps : Piece → Prop} {s0 : State} (h_hat : ps .hat) {v0 : State} {v1 : ℕ} {v2 : PpsIn} (h0 : Touches ps s0 v0) :
    Touches ps s0 (State.putPps v0 v1 v2) := by
  unfold State.putPps
  lift_lets
  intro x0
  clear_value x0
  refine (Touches.upd_hat h_hat ?_)
  assumption

theorem labelEdge_touches {ps : Piece → Prop} {s0 : State} (h_regs : ps .regs) (h_time : ps .time) (h_free : ps .free) (h_out : ps .out) (h_host : ps .host) (h_latches : ps .latches) (h_hat : ps .hat) (h_ticks : ps .ticks) (h_ldg : ps .ldg) (h_vsr : ps .vsr) {v0 : ℕ} {v1 : T80} {v2 : Tod} {v3 : List ServoFit} {v4 : State} (h0 : Touches ps s0 v4) :
    Touches ps s0 (labelEdge v0 v1 v2 v3 v4) := by
  unfold labelEdge
  lift_lets
  intro x0
  clear_value x0
  split
  · assumption
  · refine Touches.ite ?_ ?_
    · assumption
    · refine Touches.foldl (fun _ _ _ => ?_) ?_
      · lift_lets
        intro x1
        have hx2 : Touches ps s0 x1 := by
          unfold x1
          refine takeCfg_touches h_hat ?_
          assumption
        clear_value x1
        intro x3
        clear_value x3
        intro x4
        clear_value x4
        intro x5
        clear_value x5
        intro x6
        clear_value x6
        intro x7
        clear_value x7
        intro x8
        clear_value x8
        intro x9
        clear_value x9
        intro x10
        have hx11 : Touches ps s0 x10 := by
          unfold x10
          refine State.putRef_touches h_hat ?_
          assumption
        clear_value x10
        refine Touches.ite ?_ ?_
        · assumption
        · refine settleRef_touches h_regs h_free h_out h_host h_latches h_hat ?_
          refine measure_touches h_regs h_time h_free h_out h_host h_latches h_hat h_ticks h_ldg h_vsr ?_
          assumption
      · refine State.putPps_touches h_hat ?_
        assumption

theorem todReceived_touches {ps : Piece → Prop} {s0 : State} (h_regs : ps .regs) (h_time : ps .time) (h_free : ps .free) (h_out : ps .out) (h_host : ps .host) (h_latches : ps .latches) (h_hat : ps .hat) (h_ticks : ps .ticks) (h_ldg : ps .ldg) (h_vsr : ps .vsr) {v0 : T80} {v1 : List Byte} {v2 : List ServoFit} {v3 : State} (h0 : Touches ps s0 v3) :
    Touches ps s0 (todReceived v0 v1 v2 v3) := by
  unfold todReceived
  split
  · refine State.raise_touches h_regs h_out h_host h_latches ?_
    refine State.bump_touches h_regs h_latches ?_
    assumption
  · refine Touches.ite ?_ ?_
    · refine State.raise_touches h_regs h_out h_host h_latches ?_
      refine State.bump_touches h_regs h_latches ?_
      assumption
    · lift_lets
      intro x0
      clear_value x0
      intro x1
      clear_value x1
      intro x2
      have hx3 : Touches ps s0 x2 := by
        unfold x2
        refine State.bump_touches h_regs h_latches ?_
        assumption
      clear_value x2
      intro x4
      have hx5 : Touches ps s0 x4 := by
        unfold x4
        refine Touches.ite ?_ ?_
        · refine State.wr_touches h_regs ?_
          refine State.wr_touches h_regs ?_
          refine State.wr_touches h_regs ?_
          assumption
        · assumption
      clear_value x4
      refine Touches.ite ?_ ?_
      · refine State.raise_touches h_regs h_out h_host h_latches ?_
        refine State.bump_touches h_regs h_latches ?_
        assumption
      · refine Touches.foldl (fun _ _ _ => ?_) ?_
        · refine labelEdge_touches h_regs h_time h_free h_out h_host h_latches h_hat h_ticks h_ldg h_vsr ?_
          assumption
        · assumption

theorem execTodSentenceReceived_touches {ps : Piece → Prop} {s0 : State} (h_regs : ps .regs) (h_time : ps .time) (h_free : ps .free) (h_out : ps .out) (h_host : ps .host) (h_latches : ps .latches) (h_hat : ps .hat) (h_ticks : ps .ticks) (h_ldg : ps .ldg) (h_vsr : ps .vsr) {v0 : ℕ} {v1 : List Byte} {v2 : List ServoFit} {v3 : State} (h0 : Touches ps s0 v3) :
    Moves ps s0 (execTodSentenceReceived v0 v1 v2 v3) := by
  unfold execTodSentenceReceived
  refine Moves.next ?_
  refine todReceived_touches h_regs h_time h_free h_out h_host h_latches h_hat h_ticks h_ldg h_vsr ?_
  assumption

theorem ppsMissed_touches {ps : Piece → Prop} {s0 : State} (h_regs : ps .regs) (h_free : ps .free) (h_out : ps .out) (h_host : ps .host) (h_latches : ps .latches) (h_hat : ps .hat) {v0 : ℕ} {v1 : State} (h0 : Touches ps s0 v1) :
    Touches ps s0 (ppsMissed v0 v1) := by
  unfold ppsMissed
  lift_lets
  intro x0
  clear_value x0
  split
  · assumption
  · refine State.given_touches ?_ ?_
    · assumption
    · intro y1
      intro k2
      lift_lets
      intro x3
      have hx4 : Touches ps s0 x3 := by
        unfold x3
        refine State.wri_touches h_regs ?_
        refine State.bumpi_touches h_regs h_latches ?_
        refine State.putPps_touches h_hat ?_
        assumption
      clear_value x3
      refine Touches.ite ?_ ?_
      · refine Touches.foldl (fun _ _ _ => ?_) ?_
        · refine silenceRef_touches h_regs h_free h_out h_host h_latches h_hat ?_
          assumption
        · assumption
      · assumption

theorem execPpsEdgeMissed_touches {ps : Piece → Prop} {s0 : State} (h_regs : ps .regs) (h_free : ps .free) (h_out : ps .out) (h_host : ps .host) (h_latches : ps .latches) (h_hat : ps .hat) {v0 : Fin 2} {v1 : State} (h0 : Touches ps s0 v1) :
    Moves ps s0 (execPpsEdgeMissed v0 v1) := by
  unfold execPpsEdgeMissed
  refine Moves.next ?_
  refine ppsMissed_touches h_regs h_free h_out h_host h_latches h_hat ?_
  assumption

theorem execClkOutCfgWrite_touches {ps : Piece → Prop} {s0 : State} (h_regs : ps .regs) (h_out : ps .out) (h_latches : ps .latches) (h_hat : ps .hat) (h_mtn : ps .mtn) {v0 : Word} {v1 : Bool} {v2 : Bool} {v3 : State} (h0 : Touches ps s0 v3) :
    Moves ps s0 (execClkOutCfgWrite v0 v1 v2 v3) := by
  unfold execClkOutCfgWrite
  refine Moves.next ?_
  refine State.written_touches h_regs h_latches h_mtn ?_ ?_
  · assumption
  · intro y0
    intro k1
    refine writeClkCfg_touches h_regs h_out h_latches h_hat ?_
    assumption

theorem execTimePllUnlock_touches {ps : Piece → Prop} {s0 : State} (h_regs : ps .regs) (h_out : ps .out) (h_host : ps .host) (h_latches : ps .latches) (h_hat : ps .hat) {v0 : State} (h0 : Touches ps s0 v0) :
    Moves ps s0 (execTimePllUnlock v0) := by
  unfold execTimePllUnlock
  lift_lets
  intro x0
  clear_value x0
  refine Moves.next ?_
  refine State.raise_touches h_regs h_out h_host h_latches ?_
  refine (Touches.upd_hat h_hat ?_)
  assumption

theorem execRefCfgWrite_touches {ps : Piece → Prop} {s0 : State} (h_regs : ps .regs) (h_free : ps .free) (h_out : ps .out) (h_host : ps .host) (h_latches : ps .latches) (h_hat : ps .hat) (h_mtn : ps .mtn) {v0 : Fin 16} {v1 : Word} {v2 : State} (h0 : Touches ps s0 v2) :
    Moves ps s0 (execRefCfgWrite v0 v1 v2) := by
  unfold execRefCfgWrite
  refine Moves.next ?_
  refine State.written_touches h_regs h_latches h_mtn ?_ ?_
  · assumption
  · intro y0
    intro k1
    refine writeRefCfg_touches h_regs h_free h_out h_host h_latches h_hat ?_
    assumption

theorem execSetTime_touches {ps : Piece → Prop} {s0 : State} (h_regs : ps .regs) (h_time : ps .time) (h_free : ps .free) (h_out : ps .out) (h_host : ps .host) (h_latches : ps .latches) (h_hat : ps .hat) (h_ticks : ps .ticks) (h_ldg : ps .ldg) (h_vsr : ps .vsr) (h_mtn : ps .mtn) {v0 : Word} {v1 : State} (h0 : Touches ps s0 v1) :
    Moves ps s0 (execSetTime v0 v1) := by
  unfold execSetTime
  refine Moves.next ?_
  refine State.written_touches h_regs h_latches h_mtn ?_ ?_
  · assumption
  · intro y0
    intro k1
    refine setTime_touches h_regs h_time h_free h_out h_host h_latches h_hat h_ticks h_ldg h_vsr ?_
    assumption

theorem showTen_touches {ps : Piece → Prop} {s0 : State} (h_regs : ps .regs) {v0 : ℕ} {v1 : Option ℕ} {v2 : State} (h0 : Touches ps s0 v2) :
    Touches ps s0 (showTen v0 v1 v2) := by
  unfold showTen
  split
  · refine State.wri_touches h_regs ?_
    assumption
  · refine State.wri_touches h_regs ?_
    refine State.wri_touches h_regs ?_
    assumption

theorem ppsEdge_touches {ps : Piece → Prop} {s0 : State} (h_regs : ps .regs) (h_free : ps .free) (h_out : ps .out) (h_host : ps .host) (h_latches : ps .latches) (h_hat : ps .hat) {v0 : ℕ} {v1 : ℕ} {v2 : Option ℕ} {v3 : Option ℕ} {v4 : State} (h0 : Touches ps s0 v4) :
    Touches ps s0 (ppsEdge v0 v1 v2 v3 v4) := by
  unfold ppsEdge
  lift_lets
  intro x0
  intro x1
  intro x2
  clear_value x2
  intro x3
  intro x4
  clear_value x4
  intro x5
  have hx6 : Touches ps s0 x5 := by
    unfold x5
    refine State.putPps_touches h_hat ?_
    refine showTen_touches h_regs ?_
    refine showTen_touches h_regs ?_
    refine State.wri_touches h_regs ?_
    assumption
  clear_value x5
  refine Touches.ite ?_ ?_
  · assumption
  · refine Touches.foldl (fun _ _ _ => ?_) ?_
    · lift_lets
      intro x7
      have hx8 : Touches ps s0 x7 := by
        unfold x7
        refine Touches.ite ?_ ?_
        · refine State.putQ_touches h_regs ?_
          assumption
        · assumption
      clear_value x7
      refine Touches.ite ?_ ?_
      · assumption
      · refine Touches.ite ?_ ?_
        · refine failRef_touches h_regs h_free h_out h_host h_latches h_hat ?_
          assumption
        · refine Touches.ite ?_ ?_
          · refine failRef_touches h_regs h_free h_out h_host h_latches h_hat ?_
            assumption
          · assumption
    · assumption

theorem execPpsInEdge_touches {ps : Piece → Prop} {s0 : State} (h_regs : ps .regs) (h_free : ps .free) (h_out : ps .out) (h_host : ps .host) (h_latches : ps .latches) (h_hat : ps .hat) {v0 : Fin 2} {v1 : BitVec 16} {v2 : Option ℕ} {v3 : Option ℕ} {v4 : State} (h0 : Touches ps s0 v4) :
    Moves ps s0 (execPpsInEdge v0 v1 v2 v3 v4) := by
  unfold execPpsInEdge
  refine Moves.next ?_
  refine ppsEdge_touches h_regs h_free h_out h_host h_latches h_hat ?_
  assumption

theorem historyDue_touches {ps : Piece → Prop} {s0 : State} (h_regs : ps .regs) (h_out : ps .out) (h_host : ps .host) (h_hat : ps .hat) {v0 : ℕ} {v1 : ℕ} {v2 : State} (h0 : Touches ps s0 v2) :
    Touches ps s0 (historyDue v0 v1 v2) := by
  unfold historyDue
  refine State.given_touches ?_ ?_
  · assumption
  · intro y0
    intro k1
    refine writeHistory_touches h_regs h_out h_host h_hat ?_
    assumption

theorem compareReplicas_touches {ps : Piece → Prop} {s0 : State} (h_regs : ps .regs) (h_out : ps .out) (h_host : ps .host) (h_latches : ps .latches) (h_hat : ps .hat) (h_ticks : ps .ticks) {v0 : List (ℕ × ℕ)} {v1 : State} (h0 : Touches ps s0 v1) :
    Touches ps s0 (compareReplicas v0 v1) := by
  unfold compareReplicas
  refine State.periodic_touches h_ticks ?_ ?_
  · assumption
  · intro y0
    intro k1
    refine Touches.foldl (fun _ _ _ => ?_) ?_
    · lift_lets
      intro x2
      have hx3 : Touches ps s0 x2 := by
        unfold x2
        refine State.wri_touches h_regs ?_
        assumption
      clear_value x2
      intro x4
      clear_value x4
      refine Touches.ite ?_ ?_
      · refine State.raise_touches h_regs h_out h_host h_latches ?_
        refine (Touches.upd_hat h_hat ?_)
        assumption
      · assumption
    · assumption

theorem execReplicaCompare_touches {ps : Piece → Prop} {s0 : State} (h_regs : ps .regs) (h_out : ps .out) (h_host : ps .host) (h_latches : ps .latches) (h_hat : ps .hat) (h_ticks : ps .ticks) {v0 : List (Fin 8 × BitVec 32)} {v1 : State} (h0 : Touches ps s0 v1) :
    Moves ps s0 (execReplicaCompare v0 v1) := by
  unfold execReplicaCompare
  refine Moves.next ?_
  refine compareReplicas_touches h_regs h_out h_host h_latches h_hat h_ticks ?_
  assumption

theorem execReplicaResyncDone_touches {ps : Piece → Prop} {s0 : State} (h_regs : ps .regs) (h_out : ps .out) (h_host : ps .host) (h_latches : ps .latches) (h_hat : ps .hat) {v0 : Fin 8} {v1 : State} (h0 : Touches ps s0 v1) :
    Moves ps s0 (execReplicaResyncDone v0 v1) := by
  unfold execReplicaResyncDone
  refine Moves.next ?_
  refine State.given_touches ?_ ?_
  · assumption
  · intro y0
    intro k1
    lift_lets
    intro x2
    clear_value x2
    refine State.vector_touches h_out h_host ?_
    refine State.bumpi_touches h_regs h_latches ?_
    refine (Touches.upd_hat h_hat ?_)
    assumption

theorem todOut_touches {ps : Piece → Prop} {s0 : State} (h_out : ps .out) (h_hat : ps .hat) (h_ticks : ps .ticks) {v0 : State} (h0 : Touches ps s0 v0) :
    Touches ps s0 (todOut v0) := by
  unfold todOut
  lift_lets
  intro x0
  clear_value x0
  intro x1
  clear_value x1
  intro x2
  clear_value x2
  intro x3
  clear_value x3
  intro x4
  clear_value x4
  intro x5
  have hx6 : Touches ps s0 x5 := by
    unfold x5
    refine (Touches.upd_ticks h_ticks ?_)
    assumption
  clear_value x5
  intro x7
  clear_value x7
  refine Touches.ite ?_ ?_
  · refine Touches.ite ?_ ?_
    · refine State.send_touches h_out ?_
      refine (Touches.upd_hat h_hat ?_)
      assumption
    · assumption
  · assumption

theorem execTodOutSentence_touches {ps : Piece → Prop} {s0 : State} (h_out : ps .out) (h_hat : ps .hat) (h_ticks : ps .ticks) {v0 : State} (h0 : Touches ps s0 v0) :
    Moves ps s0 (execTodOutSentence v0) := by
  unfold execTodOutSentence
  refine Moves.next ?_
  refine State.given_touches ?_ ?_
  · assumption
  · intro y0
    intro k1
    refine todOut_touches h_out h_hat h_ticks ?_
    assumption

theorem revert_touches {ps : Piece → Prop} {s0 : State} (h_regs : ps .regs) (h_free : ps .free) (h_out : ps .out) (h_host : ps .host) (h_latches : ps .latches) (h_hat : ps .hat) {v0 : ℕ} {v1 : State} (h0 : Touches ps s0 v1) :
    Touches ps s0 (revert v0 v1) := by
  unfold revert
  refine State.given_touches ?_ ?_
  · assumption
  · intro y0
    intro k1
    lift_lets
    intro x2
    clear_value x2
    intro x3
    clear_value x3
    intro x4
    have hx5 : Touches ps s0 x4 := by
      unfold x4
      refine switched_touches h_hat ?_
      refine State.putRef_touches h_hat ?_
      refine State.putQ_touches h_regs ?_
      assumption
    clear_value x4
    intro x6
    have hx7 : Touches ps s0 x6 := by
      unfold x6
      refine State.vector_touches h_out h_host ?_
      refine State.wr_touches h_regs ?_
      refine State.putQ_touches h_regs ?_
      assumption
    clear_value x6
    intro x8
    clear_value x8
    intro x9
    have hx10 : Touches ps s0 x9 := by
      unfold x9
      refine settleRef_touches h_regs h_free h_out h_host h_latches h_hat ?_
      refine dropAged_touches h_regs h_out h_host h_latches h_hat ?_
      refine (Touches.upd_hat h_hat ?_)
      assumption
    clear_value x9
    refine Touches.ite ?_ ?_
    · refine breakAgreement_touches h_regs h_hat ?_
      assumption
    · assumption

theorem execRevertHoldoff_touches {ps : Piece → Prop} {s0 : State} (h_regs : ps .regs) (h_free : ps .free) (h_out : ps .out) (h_host : ps .host) (h_latches : ps .latches) (h_hat : ps .hat) {v0 : Fin 16} {v1 : State} (h0 : Touches ps s0 v1) :
    Moves ps s0 (execRevertHoldoff v0 v1) := by
  unfold execRevertHoldoff
  refine Moves.next ?_
  refine revert_touches h_regs h_free h_out h_host h_latches h_hat ?_
  assumption

theorem execServoModeChange_touches {ps : Piece → Prop} {s0 : State} (h_regs : ps .regs) (h_free : ps .free) (h_out : ps .out) (h_host : ps .host) (h_latches : ps .latches) (h_hat : ps .hat) (h_mtn : ps .mtn) {v0 : Fin 4} {v1 : State} (h0 : Touches ps s0 v1) :
    Moves ps s0 (execServoModeChange v0 v1) := by
  unfold execServoModeChange
  refine Moves.next ?_
  refine State.written_touches h_regs h_latches h_mtn ?_ ?_
  · assumption
  · intro y0
    intro k1
    refine changeMode_touches h_regs h_free h_out h_host h_latches h_hat ?_
    assumption

theorem lockVerified_touches {ps : Piece → Prop} {s0 : State} (h_regs : ps .regs) (h_free : ps .free) (h_out : ps .out) (h_host : ps .host) (h_latches : ps .latches) (h_hat : ps .hat) {v0 : State} (h0 : Touches ps s0 v0) :
    Touches ps s0 (lockVerified v0) := by
  unfold lockVerified
  split
  · assumption
  · refine State.given_touches ?_ ?_
    · assumption
    · intro y0
      intro k1
      lift_lets
      intro x2
      clear_value x2
      refine setServo_touches h_regs h_free h_out h_host h_latches h_hat ?_
      refine State.wr_touches h_regs ?_
      refine (Touches.upd_hat h_hat ?_)
      assumption

theorem execLockVerified_touches {ps : Piece → Prop} {s0 : State} (h_regs : ps .regs) (h_free : ps .free) (h_out : ps .out) (h_host : ps .host) (h_latches : ps .latches) (h_hat : ps .hat) {v0 : State} (h0 : Touches ps s0 v0) :
    Moves ps s0 (execLockVerified v0) := by
  unfold execLockVerified
  refine Moves.next ?_
  refine lockVerified_touches h_regs h_free h_out h_host h_latches h_hat ?_
  assumption

theorem execHistoryWrite_touches {ps : Piece → Prop} {s0 : State} (h_regs : ps .regs) (h_out : ps .out) (h_host : ps .host) (h_hat : ps .hat) {v0 : BitVec 32} {v1 : ℕ} {v2 : State} (h0 : Touches ps s0 v2) :
    Moves ps s0 (execHistoryWrite v0 v1 v2) := by
  unfold execHistoryWrite
  refine Moves.next ?_
  refine State.running_touches ?_ ?_
  · assumption
  · intro y0
    intro k1
    refine historyDue_touches h_regs h_out h_host h_hat ?_
    assumption

theorem execHistClear_touches {ps : Piece → Prop} {s0 : State} (h_regs : ps .regs) (h_latches : ps .latches) (h_hat : ps .hat) (h_mtn : ps .mtn) {v0 : State} (h0 : Touches ps s0 v0) :
    Moves ps s0 (execHistClear v0) := by
  unfold execHistClear
  refine Moves.next ?_
  refine State.written_touches h_regs h_latches h_mtn ?_ ?_
  · assumption
  · intro y0
    intro k1
    refine clearHist_touches h_regs h_hat ?_
    assumption

theorem execBandLockstep_touches {ps : Piece → Prop} {s0 : State} (h_regs : ps .regs) (h_free : ps .free) (h_out : ps .out) (h_host : ps .host) (h_latches : ps .latches) (h_hat : ps .hat) {v0 : State} (h0 : Touches ps s0 v0) :
    Moves ps s0 (execBandLockstep v0) := by
  unfold execBandLockstep
  lift_lets
  intro x0
  have hx1 : Touches ps s0 x0 := by
    unfold x0
    refine breakAgreement_touches h_regs h_hat ?_
    refine stopSlew_touches h_regs h_hat ?_
    refine State.raise_touches h_regs h_out h_host h_latches ?_
    assumption
  clear_value x0
  intro x2
  clear_value x2
  refine Moves.next ?_
  refine enterHoldover_touches h_regs h_free h_out h_host h_latches h_hat ?_
  refine (Touches.upd_hat h_hat ?_)
  assumption

theorem execPrimarySwitch_touches {ps : Piece → Prop} {s0 : State} (h_regs : ps .regs) (h_free : ps .free) (h_out : ps .out) (h_host : ps .host) (h_latches : ps .latches) (h_hat : ps .hat) {v0 : State} (h0 : Touches ps s0 v0) :
    Moves ps s0 (execPrimarySwitch v0) := by
  unfold execPrimarySwitch
  refine Moves.next ?_
  refine State.given_touches ?_ ?_
  · assumption
  · intro y0
    intro k1
    refine switchPrimary_touches h_regs h_free h_out h_host h_latches h_hat ?_
    assumption

theorem ppsPulse_touches {ps : Piece → Prop} {s0 : State} (h_out : ps .out) (h_hat : ps .hat) (h_ticks : ps .ticks) {v0 : ℕ} {v1 : Bool} {v2 : State} (h0 : Touches ps s0 v2) :
    Touches ps s0 (ppsPulse v0 v1 v2) := by
  unfold ppsPulse
  refine Touches.ite ?_ ?_
  · lift_lets
    intro x0
    clear_value x0
    intro x1
    clear_value x1
    intro x2
    clear_value x2
    intro x3
    clear_value x3
    intro x4
    have hx5 : Touches ps s0 x4 := by
      unfold x4
      refine (Touches.upd_ticks h_ticks ?_)
      assumption
    clear_value x4
    refine Touches.ite ?_ ?_
    · refine Touches.ite ?_ ?_
      · refine setPps_touches h_out h_hat ?_
        assumption
      · assumption
    · assumption
  · refine State.given_touches ?_ ?_
    · assumption
    · intro y6
      intro k7
      refine setPps_touches h_out h_hat ?_
      assumption

theorem execPpsOutPulse_touches {ps : Piece → Prop} {s0 : State} (h_out : ps .out) (h_hat : ps .hat) (h_ticks : ps .ticks) {v0 : Fin 2} {v1 : Bool} {v2 : State} (h0 : Touches ps s0 v2) :
    Moves ps s0 (execPpsOutPulse v0 v1 v2) := by
  unfold execPpsOutPulse
  refine Moves.next ?_
  refine State.given_touches ?_ ?_
  · assumption
  · intro y0
    intro k1
    refine ppsPulse_touches h_out h_hat h_ticks ?_
    assumption

theorem execPpsOutCfgWrite_touches {ps : Piece → Prop} {s0 : State} (h_regs : ps .regs) (h_out : ps .out) (h_latches : ps .latches) (h_hat : ps .hat) (h_mtn : ps .mtn) {v0 : Fin 2} {v1 : Word} {v2 : Bool} {v3 : Bool} {v4 : State} (h0 : Touches ps s0 v4) :
    Moves ps s0 (execPpsOutCfgWrite v0 v1 v2 v3 v4) := by
  unfold execPpsOutCfgWrite
  refine Moves.next ?_
  refine State.written_touches h_regs h_latches h_mtn ?_ ?_
  · assumption
  · intro y0
    intro k1
    refine writePpsCfg_touches h_regs h_out h_latches h_hat ?_
    assumption

theorem execClkOutEdge_touches {ps : Piece → Prop} {s0 : State} (h_out : ps .out) (h_hat : ps .hat) {v0 : State} (h0 : Touches ps s0 v0) :
    Moves ps s0 (execClkOutEdge v0) := by
  unfold execClkOutEdge
  refine Moves.next ?_
  refine State.given_touches ?_ ?_
  · assumption
  · intro y0
    intro k1
    refine clkEdge_touches h_out h_hat ?_
    assumption

end Sys2Proof.Machine
end

