-- ==== Sys2Proof/Laws/TouchStamps.lean ====
section
/-! SUPPORT. What the operations of Machine/Stamps.lean may touch: one lemma for each. -/

set_option maxRecDepth 10000

namespace Sys2Proof.Machine

theorem State.putWander_touches {ps : Piece → Prop} {s0 : State} (h_regs : ps .regs) (h_stamps : ps .stamps) {v0 : State} {v1 : ℕ} {v2 : Wander} (h0 : Touches ps s0 v0) :
    Touches ps s0 (State.putWander v0 v1 v2) := by
  unfold State.putWander
  lift_lets
  intro x0
  clear_value x0
  intro x1
  have hx2 : Touches ps s0 x1 := by
    unfold x1
    refine (Touches.upd_stamps h_stamps ?_)
    assumption
  clear_value x1
  refine State.putBitAt_touches h_regs ?_
  refine State.putBitAt_touches h_regs ?_
  assumption

theorem cdrUnlock_touches {ps : Piece → Prop} {s0 : State} (h_regs : ps .regs) (h_stamps : ps .stamps) {v0 : ℕ} {v1 : State} (h0 : Touches ps s0 v1) :
    Touches ps s0 (cdrUnlock v0 v1) := by
  unfold cdrUnlock
  lift_lets
  intro x0
  clear_value x0
  refine State.putWander_touches h_regs h_stamps ?_
  refine State.wr_touches h_regs ?_
  assumption

theorem wanderSample_touches {ps : Piece → Prop} {s0 : State} (h_regs : ps .regs) (h_out : ps .out) (h_host : ps .host) (h_latches : ps .latches) (h_stamps : ps .stamps) {v0 : ℕ} {v1 : ℤ} {v2 : Bool} {v3 : State} (h0 : Touches ps s0 v3) :
    Touches ps s0 (wanderSample v0 v1 v2 v3) := by
  unfold wanderSample
  lift_lets
  intro x0
  clear_value x0
  intro x1
  clear_value x1
  intro x2
  clear_value x2
  intro x3
  clear_value x3
  intro x4
  clear_value x4
  refine Touches.ite ?_ ?_
  · assumption
  · refine Touches.ite ?_ ?_
    · refine Touches.ite ?_ ?_
      · refine Touches.ite ?_ ?_
        · refine State.putWander_touches h_regs h_stamps ?_
          assumption
        · refine Touches.ite ?_ ?_
          · refine State.vector_touches h_out h_host ?_
            refine State.putWander_touches h_regs h_stamps ?_
            assumption
          · refine State.putWander_touches h_regs h_stamps ?_
            assumption
      · refine Touches.ite ?_ ?_
        · refine State.putWander_touches h_regs h_stamps ?_
          assumption
        · refine State.putWander_touches h_regs h_stamps ?_
          assumption
    · refine Touches.ite ?_ ?_
      · refine State.vector_touches h_out h_host ?_
        refine State.raise_touches h_regs h_out h_host h_latches ?_
        refine State.putWander_touches h_regs h_stamps ?_
        assumption
      · refine State.putWander_touches h_regs h_stamps ?_
        assumption

theorem invalidStamp_touches {ps : Piece → Prop} {s0 : State} (h_regs : ps .regs) (h_free : ps .free) (h_out : ps .out) (h_host : ps .host) (h_latches : ps .latches) (h_stamps : ps .stamps) {v0 : ℕ} {v1 : List ℕ} {v2 : State} (h0 : Touches ps s0 v2) :
    Touches ps s0 (invalidStamp v0 v1 v2).2.2 := by
  refine State.vector_touches h_out h_host (Touches.foldl (fun t c ht => ?_) ?_)
  · apply State.raise_touches <;> assumption
  · exact Touches.upd_free h_free (by apply State.putWander_touches <;> assumption)

theorem ingressStamp_touches {ps : Piece → Prop} {s0 : State} (h_regs : ps .regs) (h_free : ps .free) (h_out : ps .out) (h_host : ps .host) (h_latches : ps .latches) (h_stamps : ps .stamps) {v0 : RxTap} {v1 : State} (h0 : Touches ps s0 v1) :
    Touches ps s0 (ingressStamp v0 v1).2.2 := by
  unfold ingressStamp
  lift_lets
  intro lane rate c x0 y x1 w raw stamp causes
  have hw : Touches ps s0 x0 := by
    unfold x0
    apply wanderSample_touches <;> assumption
  have hd : Touches ps s0 x1 := by
    unfold x1
    apply State.putWander_touches <;> assumption
  clear_value causes stamp raw w x1
  split
  · apply invalidStamp_touches <;> assumption
  · split
    · dsimp only
      apply State.putWander_touches <;> assumption
    · exact hd

theorem egressStamp_touches {ps : Piece → Prop} {s0 : State} (h_regs : ps .regs) (h_free : ps .free) (h_out : ps .out) (h_host : ps .host) (h_latches : ps .latches) (h_stamps : ps .stamps) {v0 : TxTap} {v1 : State} (h0 : Touches ps s0 v1) :
    Touches ps s0 (egressStamp v0 v1).2.2 := by
  unfold egressStamp
  lift_lets
  intro lane rate c raw stamp causes
  clear_value causes stamp
  split
  · apply invalidStamp_touches <;> assumption
  · exact h0

theorem execWanderSample_touches {ps : Piece → Prop} {s0 : State} (h_regs : ps .regs) (h_out : ps .out) (h_host : ps .host) (h_latches : ps .latches) (h_stamps : ps .stamps) {v0 : Fin 1024} {v1 : ℤ} {v2 : State} (h0 : Touches ps s0 v2) :
    Moves ps s0 (execWanderSample v0 v1 v2) := by
  unfold execWanderSample
  refine Moves.next ?_
  refine wanderSample_touches h_regs h_out h_host h_latches h_stamps ?_
  assumption

theorem showCal_touches {ps : Piece → Prop} {s0 : State} (h_regs : ps .regs) {v0 : State} (h0 : Touches ps s0 v0) :
    Touches ps s0 (showCal v0) := by
  unfold showCal
  lift_lets
  intro x0
  clear_value x0
  intro x1
  clear_value x1
  intro x2
  clear_value x2
  intro x3
  clear_value x3
  refine State.wr_touches h_regs ?_
  refine State.wr_touches h_regs ?_
  refine State.wr_touches h_regs ?_
  refine State.wr_touches h_regs ?_
  refine State.wr_touches h_regs ?_
  refine State.wr_touches h_regs ?_
  assumption

theorem State.putCal_touches {ps : Piece → Prop} {s0 : State} (h_stamps : ps .stamps) {v0 : State} {v1 : ℕ} {v2 : CalRec} (h0 : Touches ps s0 v0) :
    Touches ps s0 (State.putCal v0 v1 v2) := by
  unfold State.putCal
  lift_lets
  intro x0
  clear_value x0
  refine (Touches.upd_stamps h_stamps ?_)
  assumption

theorem stageTrim_touches {ps : Piece → Prop} {s0 : State} (h_regs : ps .regs) (h_stamps : ps .stamps) {v0 : Bool} {v1 : ℕ} {v2 : State} (h0 : Touches ps s0 v2) :
    Touches ps s0 (stageTrim v0 v1 v2) := by
  unfold stageTrim
  lift_lets
  intro x0
  clear_value x0
  intro x1
  clear_value x1
  intro x2
  clear_value x2
  refine Touches.ite ?_ ?_
  · refine showCal_touches h_regs ?_
    refine State.putCal_touches h_stamps ?_
    assumption
  · assumption

theorem applyTrims_touches {ps : Piece → Prop} {s0 : State} (h_regs : ps .regs) (h_latches : ps .latches) (h_stamps : ps .stamps) {v0 : State} (h0 : Touches ps s0 v0) :
    Touches ps s0 (applyTrims v0) := by
  unfold applyTrims
  refine Touches.ite ?_ ?_
  · refine State.set1_touches h_regs h_latches ?_
    assumption
  · lift_lets
    intro x0
    clear_value x0
    intro x1
    clear_value x1
    intro x2
    clear_value x2
    intro x3
    clear_value x3
    intro x4
    have hx5 : Touches ps s0 x4 := by
      unfold x4
      refine (Touches.upd_stamps h_stamps ?_)
      assumption
    clear_value x4
    refine showCal_touches h_regs ?_
    refine State.bump_touches h_regs h_latches ?_
    refine State.wrPair_touches h_regs ?_
    refine State.wr_touches h_regs ?_
    assumption

theorem discardTrims_touches {ps : Piece → Prop} {s0 : State} (h_regs : ps .regs) (h_stamps : ps .stamps) {v0 : State} (h0 : Touches ps s0 v0) :
    Touches ps s0 (discardTrims v0) := by
  unfold discardTrims
  lift_lets
  intro x0
  clear_value x0
  refine showCal_touches h_regs ?_
  refine (Touches.upd_stamps h_stamps ?_)
  assumption

theorem showStat_touches {ps : Piece → Prop} {s0 : State} (h_regs : ps .regs) {v0 : ℕ} {v1 : State} (h0 : Touches ps s0 v1) :
    Touches ps s0 (showStat v0 v1) := by
  unfold showStat
  lift_lets
  intro x0
  clear_value x0
  intro x1
  clear_value x1
  refine State.wr_touches h_regs ?_
  refine State.wr_touches h_regs ?_
  refine State.wr_touches h_regs ?_
  refine State.wr_touches h_regs ?_
  refine State.wr_touches h_regs ?_
  refine State.wr_touches h_regs ?_
  refine State.wr_touches h_regs ?_
  refine State.wr_touches h_regs ?_
  refine State.wr_touches h_regs ?_
  refine State.wr_touches h_regs ?_
  refine State.wr_touches h_regs ?_
  assumption

theorem statClear_touches {ps : Piece → Prop} {s0 : State} (h_regs : ps .regs) (h_stamps : ps .stamps) {v0 : ℕ} {v1 : State} (h0 : Touches ps s0 v1) :
    Touches ps s0 (statClear v0 v1) := by
  unfold statClear
  lift_lets
  intro x0
  clear_value x0
  refine showStat_touches h_regs ?_
  refine State.putWander_touches h_regs h_stamps ?_
  assumption

theorem execStatClear_touches {ps : Piece → Prop} {s0 : State} (h_regs : ps .regs) (h_latches : ps .latches) (h_stamps : ps .stamps) (h_mtn : ps .mtn) {v0 : Fin 1024} {v1 : State} (h0 : Touches ps s0 v1) :
    Moves ps s0 (execStatClear v0 v1) := by
  unfold execStatClear
  refine Moves.next ?_
  refine State.written_touches h_regs h_latches h_mtn ?_ ?_
  · assumption
  · intro y0
    intro k1
    refine statClear_touches h_regs h_stamps ?_
    assumption

theorem cdrLock_touches {ps : Piece → Prop} {s0 : State} (h_regs : ps .regs) (h_stamps : ps .stamps) {v0 : ℕ} {v1 : State} (h0 : Touches ps s0 v1) :
    Touches ps s0 (cdrLock v0 v1) := by
  unfold cdrLock
  lift_lets
  intro x0
  have hx1 : Touches ps s0 x0 := by
    unfold x0
    refine State.wr_touches h_regs ?_
    assumption
  clear_value x0
  intro x2
  clear_value x2
  refine Touches.ite ?_ ?_
  · refine State.putWander_touches h_regs h_stamps ?_
    assumption
  · assumption

theorem trimResume_touches {ps : Piece → Prop} {s0 : State} (h_regs : ps .regs) (h_out : ps .out) (h_host : ps .host) (h_stamps : ps .stamps) {v0 : ℕ} {v1 : List ℕ} {v2 : State} (h0 : Touches ps s0 v2) :
    Touches ps s0 (trimResume v0 v1 v2) := by
  unfold trimResume
  lift_lets
  intro x0
  clear_value x0
  intro x1
  clear_value x1
  intro x2
  clear_value x2
  refine State.given_touches ?_ ?_
  · assumption
  · intro y3
    intro k4
    refine State.vector_touches h_out h_host ?_
    refine State.putWander_touches h_regs h_stamps ?_
    assumption

theorem execFineTrimResume_touches {ps : Piece → Prop} {s0 : State} (h_regs : ps .regs) (h_out : ps .out) (h_host : ps .host) (h_stamps : ps .stamps) {v0 : Fin 1024} {v1 : List (Fin 257)} {v2 : State} (h0 : Touches ps s0 v2) :
    Moves ps s0 (execFineTrimResume v0 v1 v2) := by
  unfold execFineTrimResume
  refine Moves.next ?_
  refine trimResume_touches h_regs h_out h_host h_stamps ?_
  assumption

theorem loadTrims_touches {ps : Piece → Prop} {s0 : State} (h_regs : ps .regs) (h_stamps : ps .stamps) {v0 : State} (h0 : Touches ps s0 v0) :
    Touches ps s0 (loadTrims v0) := by
  unfold loadTrims
  lift_lets
  intro x0
  clear_value x0
  refine showCal_touches h_regs ?_
  refine (Touches.upd_stamps h_stamps ?_)
  assumption

theorem tqChange_touches {ps : Piece → Prop} {s0 : State} (h_hat : ps .hat) (h_ldg : ps .ldg) {v0 : State} (h0 : Touches ps s0 v0) :
    Touches ps s0 (tqChange v0) := by
  unfold tqChange
  split
  · assumption
  · refine State.given_touches ?_ ?_
    · assumption
    · intro y0
      intro k1
      lift_lets
      intro x2
      clear_value x2
      intro x3
      have hx4 : Touches ps s0 x3 := by
        unfold x3
        refine (Touches.upd_hat h_hat ?_)
        assumption
      clear_value x3
      refine formEvent_touches h_ldg ?_
      assumption

theorem trimStep_touches {ps : Piece → Prop} {s0 : State} (h_regs : ps .regs) (h_stamps : ps .stamps) {v0 : ℕ} {v1 : Bool} {v2 : State} (h0 : Touches ps s0 v2) :
    Touches ps s0 (trimStep v0 v1 v2) := by
  unfold trimStep
  lift_lets
  intro x0
  clear_value x0
  intro x1
  clear_value x1
  refine State.given_touches ?_ ?_
  · assumption
  · intro y2
    intro k3
    refine State.putWander_touches h_regs h_stamps ?_
    assumption

theorem execFineTrimStep_touches {ps : Piece → Prop} {s0 : State} (h_regs : ps .regs) (h_stamps : ps .stamps) {v0 : Fin 1024} {v1 : Bool} {v2 : State} (h0 : Touches ps s0 v2) :
    Moves ps s0 (execFineTrimStep v0 v1 v2) := by
  unfold execFineTrimStep
  refine Moves.next ?_
  refine State.running_touches ?_ ?_
  · assumption
  · intro y0
    intro k1
    refine trimStep_touches h_regs h_stamps ?_
    assumption

theorem execTqChange_touches {ps : Piece → Prop} {s0 : State} (h_hat : ps .hat) (h_ldg : ps .ldg) {v0 : State} (h0 : Touches ps s0 v0) :
    Moves ps s0 (execTqChange v0) := by
  unfold execTqChange
  refine Moves.next ?_
  refine tqChange_touches h_hat h_ldg ?_
  assumption

theorem trimFreeze_touches {ps : Piece → Prop} {s0 : State} (h_regs : ps .regs) (h_out : ps .out) (h_host : ps .host) (h_stamps : ps .stamps) {v0 : ℕ} {v1 : List ℕ} {v2 : State} (h0 : Touches ps s0 v2) :
    Touches ps s0 (trimFreeze v0 v1 v2) := by
  unfold trimFreeze
  lift_lets
  intro x0
  clear_value x0
  intro x1
  clear_value x1
  intro x2
  clear_value x2
  refine State.given_touches ?_ ?_
  · assumption
  · intro y3
    intro k4
    refine State.vector_touches h_out h_host ?_
    refine State.putWander_touches h_regs h_stamps ?_
    assumption

theorem execFineTrimFreeze_touches {ps : Piece → Prop} {s0 : State} (h_regs : ps .regs) (h_out : ps .out) (h_host : ps .host) (h_stamps : ps .stamps) {v0 : Fin 1024} {v1 : List (Fin 257)} {v2 : State} (h0 : Touches ps s0 v2) :
    Moves ps s0 (execFineTrimFreeze v0 v1 v2) := by
  unfold execFineTrimFreeze
  refine Moves.next ?_
  refine trimFreeze_touches h_regs h_out h_host h_stamps ?_
  assumption

theorem execCdrLock_touches {ps : Piece → Prop} {s0 : State} (h_regs : ps .regs) (h_stamps : ps .stamps) {v0 : Fin 1024} {v1 : State} (h0 : Touches ps s0 v1) :
    Moves ps s0 (execCdrLock v0 v1) := by
  unfold execCdrLock
  refine Moves.next ?_
  refine cdrLock_touches h_regs h_stamps ?_
  assumption

theorem execCdrLockLoss_touches {ps : Piece → Prop} {s0 : State} (h_regs : ps .regs) (h_stamps : ps .stamps) {v0 : Fin 1024} {v1 : State} (h0 : Touches ps s0 v1) :
    Moves ps s0 (execCdrLockLoss v0 v1) := by
  unfold execCdrLockLoss
  refine Moves.next ?_
  refine cdrUnlock_touches h_regs h_stamps ?_
  assumption

theorem execApply_touches {ps : Piece → Prop} {s0 : State} (h_regs : ps .regs) (h_latches : ps .latches) (h_stamps : ps .stamps) (h_mtn : ps .mtn) {v0 : State} (h0 : Touches ps s0 v0) :
    Moves ps s0 (execApply v0) := by
  unfold execApply
  refine Moves.next ?_
  refine State.written_touches h_regs h_latches h_mtn ?_ ?_
  · assumption
  · intro y0
    intro k1
    refine applyTrims_touches h_regs h_latches h_stamps ?_
    assumption

theorem execDiscard_touches {ps : Piece → Prop} {s0 : State} (h_regs : ps .regs) (h_latches : ps .latches) (h_stamps : ps .stamps) (h_mtn : ps .mtn) {v0 : State} (h0 : Touches ps s0 v0) :
    Moves ps s0 (execDiscard v0) := by
  unfold execDiscard
  refine Moves.next ?_
  refine State.written_touches h_regs h_latches h_mtn ?_ ?_
  · assumption
  · intro y0
    intro k1
    refine discardTrims_touches h_regs h_stamps ?_
    assumption

theorem trimEffect_touches {ps : Piece → Prop} {s0 : State} (h_regs : ps .regs) (h_stamps : ps .stamps) (h_ldg : ps .ldg) {v0 : State} (h0 : Touches ps s0 v0) :
    Touches ps s0 (trimEffect v0) := by
  unfold trimEffect
  split
  · assumption
  · refine State.given_touches ?_ ?_
    · assumption
    · intro y0
      intro k1
      lift_lets
      intro x2
      clear_value x2
      refine showCal_touches h_regs ?_
      refine Touches.foldl (fun _ _ _ => ?_) ?_
      · lift_lets
        intro x3
        clear_value x3
        refine formEvent_touches h_ldg ?_
        assumption
      · refine (Touches.upd_stamps h_stamps ?_)
        assumption

theorem execCalTrimEffect_touches {ps : Piece → Prop} {s0 : State} (h_regs : ps .regs) (h_stamps : ps .stamps) (h_ldg : ps .ldg) {v0 : State} (h0 : Touches ps s0 v0) :
    Moves ps s0 (execCalTrimEffect v0) := by
  unfold execCalTrimEffect
  refine Moves.next ?_
  refine trimEffect_touches h_regs h_stamps h_ldg ?_
  assumption

theorem saveTrims_touches {ps : Piece → Prop} {s0 : State} (h_regs : ps .regs) (h_out : ps .out) (h_host : ps .host) (h_latches : ps .latches) (h_stamps : ps .stamps) {v0 : Bool} {v1 : State} (h0 : Touches ps s0 v1) :
    Touches ps s0 (saveTrims v0 v1) := by
  unfold saveTrims
  refine State.given_touches ?_ ?_
  · assumption
  · intro y0
    intro k1
    lift_lets
    intro x2
    have hx3 : Touches ps s0 x2 := by
      unfold x2
      refine State.wr_touches h_regs ?_
      assumption
    clear_value x2
    intro x4
    clear_value x4
    refine State.vector_touches h_out h_host ?_
    refine Touches.ite ?_ ?_
    · refine (Touches.upd_stamps h_stamps ?_)
      assumption
    · refine State.set1_touches h_regs h_latches ?_
      assumption

theorem execCalSaveDone_touches {ps : Piece → Prop} {s0 : State} (h_regs : ps .regs) (h_out : ps .out) (h_host : ps .host) (h_latches : ps .latches) (h_stamps : ps .stamps) {v0 : Bool} {v1 : State} (h0 : Touches ps s0 v1) :
    Moves ps s0 (execCalSaveDone v0 v1) := by
  unfold execCalSaveDone
  refine Moves.next ?_
  refine State.running_touches ?_ ?_
  · assumption
  · intro y0
    intro k1
    refine saveTrims_touches h_regs h_out h_host h_latches h_stamps ?_
    assumption

theorem execStatSelWrite_touches {ps : Piece → Prop} {s0 : State} (h_regs : ps .regs) (h_latches : ps .latches) (h_mtn : ps .mtn) {v0 : Fin 1024} {v1 : State} (h0 : Touches ps s0 v1) :
    Moves ps s0 (execStatSelWrite v0 v1) := by
  unfold execStatSelWrite
  refine Moves.next ?_
  refine State.written_touches h_regs h_latches h_mtn ?_ ?_
  · assumption
  · intro y0
    intro k1
    refine showStat_touches h_regs ?_
    assumption

end Sys2Proof.Machine
end

