-- ==== Sys2Proof/Laws/TouchPtp.lean ====
section
/-! SUPPORT. What the operations of Machine/Ptp.lean may touch: one lemma for each. -/

set_option maxRecDepth 10000

namespace Sys2Proof.Machine

theorem showPtp_touches {ps : Piece → Prop} {s0 : State} (h_regs : ps .regs) {v0 : State} (h0 : Touches ps s0 v0) :
    Touches ps s0 (showPtp v0) := by
  unfold showPtp
  lift_lets
  intro x0
  clear_value x0
  intro x1
  have hx2 : ∀ a0 a1, Touches ps s0 a1 → Touches ps s0 (x1 a0 a1) := by
    intro y3
    intro y4
    intro k5
    unfold x1
    refine State.wr_touches h_regs ?_
    assumption
  clear_value x1
  refine State.wr_touches h_regs ?_
  refine State.wr_touches h_regs ?_
  refine hx2 _ _ ?_
  refine hx2 _ _ ?_
  refine hx2 _ _ ?_
  refine hx2 _ _ ?_
  refine hx2 _ _ ?_
  refine hx2 _ _ ?_
  refine hx2 _ _ ?_
  refine hx2 _ _ ?_
  refine hx2 _ _ ?_
  assumption

theorem State.putPtp_touches {ps : Piece → Prop} {s0 : State} (h_regs : ps .regs) (h_hat : ps .hat) {v0 : State} {v1 : ℕ} {v2 : PtpPort} (h0 : Touches ps s0 v0) :
    Touches ps s0 (State.putPtp v0 v1 v2) := by
  unfold State.putPtp
  lift_lets
  intro x0
  clear_value x0
  refine showPtp_touches h_regs ?_
  refine (Touches.upd_hat h_hat ?_)
  assumption

theorem sendAnnounces_touches {ps : Piece → Prop} {s0 : State} (h_regs : ps .regs) (h_out : ps .out) (h_hat : ps .hat) {v0 : ℕ} {v1 : State} (h0 : Touches ps s0 v1) :
    Touches ps s0 (sendAnnounces v0 v1) := by
  unfold sendAnnounces
  lift_lets
  intro x0
  clear_value x0
  intro x1
  have hx2 : Touches ps s0 x1 := by
    unfold x1
    refine State.putPtp_touches h_regs h_hat ?_
    assumption
  clear_value x1
  refine Touches.foldl (fun _ _ _ => ?_) ?_
  · refine State.send_touches h_out ?_
    assumption
  · assumption

theorem hearAnnounce_touches {ps : Piece → Prop} {s0 : State} (h_regs : ps .regs) (h_hat : ps .hat) {v0 : ℕ} {v1 : ℕ} {v2 : PtpMsg} {v3 : State} (h0 : Touches ps s0 v3) :
    Touches ps s0 (hearAnnounce v0 v1 v2 v3) := by
  unfold hearAnnounce
  lift_lets
  intro x0
  clear_value x0
  intro x1
  have hx2 : Touches ps s0 x1 := by
    unfold x1
    refine State.putPeer_touches h_hat ?_
    assumption
  clear_value x1
  refine Touches.ite ?_ ?_
  · refine State.wr_touches h_regs ?_
    refine State.wr_touches h_regs ?_
    assumption
  · assumption

theorem ptpMeasure_touches {ps : Piece → Prop} {s0 : State} (h_regs : ps .regs) (h_time : ps .time) (h_free : ps .free) (h_out : ps .out) (h_host : ps .host) (h_latches : ps .latches) (h_hat : ps .hat) (h_ticks : ps .ticks) (h_ldg : ps .ldg) (h_vsr : ps .vsr) {v0 : ℕ} {v1 : ℕ} {v2 : PtpMsg} {v3 : List ServoFit} {v4 : State} (h0 : Touches ps s0 v4) :
    Touches ps s0 (ptpMeasure v0 v1 v2 v3 v4) := by
  unfold ptpMeasure
  refine Touches.foldl (fun _ _ _ => ?_) ?_
  · lift_lets
    intro x0
    have hx1 : Touches ps s0 x0 := by
      unfold x0
      refine takeCfg_touches h_hat ?_
      assumption
    clear_value x0
    intro x2
    clear_value x2
    intro x3
    clear_value x3
    intro x4
    clear_value x4
    intro x5
    clear_value x5
    refine settleRef_touches h_regs h_free h_out h_host h_latches h_hat ?_
    refine measure_touches h_regs h_time h_free h_out h_host h_latches h_hat h_ticks h_ldg h_vsr ?_
    assumption
  · assumption

theorem hearSync_touches {ps : Piece → Prop} {s0 : State} (h_regs : ps .regs) (h_time : ps .time) (h_free : ps .free) (h_out : ps .out) (h_host : ps .host) (h_latches : ps .latches) (h_hat : ps .hat) (h_ticks : ps .ticks) (h_ldg : ps .ldg) (h_vsr : ps .vsr) {v0 : ℕ} {v1 : ℕ} {v2 : Option ℤ} {v3 : PtpMsg} {v4 : List ServoFit} {v5 : State} (h0 : Touches ps s0 v5) :
    Touches ps s0 (hearSync v0 v1 v2 v3 v4 v5) := by
  unfold hearSync
  lift_lets
  intro x0
  clear_value x0
  intro x1
  clear_value x1
  split
  · refine State.putPeer_touches h_hat ?_
    assumption
  · refine Touches.ite ?_ ?_
    · refine State.putPeer_touches h_hat ?_
      assumption
    · refine ptpMeasure_touches h_regs h_time h_free h_out h_host h_latches h_hat h_ticks h_ldg h_vsr ?_
      refine State.putPeer_touches h_hat ?_
      assumption

theorem hearFollowUp_touches {ps : Piece → Prop} {s0 : State} (h_regs : ps .regs) (h_time : ps .time) (h_free : ps .free) (h_out : ps .out) (h_host : ps .host) (h_latches : ps .latches) (h_hat : ps .hat) (h_ticks : ps .ticks) (h_ldg : ps .ldg) (h_vsr : ps .vsr) {v0 : ℕ} {v1 : ℕ} {v2 : PtpMsg} {v3 : List ServoFit} {v4 : State} (h0 : Touches ps s0 v4) :
    Touches ps s0 (hearFollowUp v0 v1 v2 v3 v4) := by
  unfold hearFollowUp
  lift_lets
  intro x0
  clear_value x0
  split
  · refine State.given_touches ?_ ?_
    · assumption
    · intro y1
      intro k2
      refine ptpMeasure_touches h_regs h_time h_free h_out h_host h_latches h_hat h_ticks h_ldg h_vsr ?_
      refine State.putPeer_touches h_hat ?_
      assumption
  · assumption

theorem countStampLoss_touches {ps : Piece → Prop} {s0 : State} (h_regs : ps .regs) (h_stamps : ps .stamps) {v0 : ℕ} {v1 : State} (h0 : Touches ps s0 v1) :
    Touches ps s0 (countStampLoss v0 v1) := by
  unfold countStampLoss
  lift_lets
  intro x0
  clear_value x0
  refine State.putWander_touches h_regs h_stamps ?_
  assumption

theorem sendStamped_touches {ps : Piece → Prop} {s0 : State} (h_regs : ps .regs) (h_free : ps .free) (h_out : ps .out) (h_host : ps .host) (h_latches : ps .latches) (h_stamps : ps .stamps) {v0 : ℕ} {v1 : String} {v2 : String} {v3 : List ℕ} {v4 : List ℕ} {v5 : T80 → List ℕ} {v6 : Bool} {v7 : TxTap} {v8 : State} (h0 : Touches ps s0 v8) :
    Touches ps s0 (sendStamped v0 v1 v2 v3 v4 v5 v6 v7 v8) := by
  unfold sendStamped
  split
  refine Touches.ite ?_ ?_
  · refine Touches.ite ?_ ?_
    · refine countStampLoss_touches h_regs h_stamps ?_
      refine Touches.of_snd2 (by assumption) ?_
      refine egressStamp_touches h_regs h_free h_out h_host h_latches h_stamps ?_
      assumption
    · refine State.send_touches h_out ?_
      refine Touches.of_snd2 (by assumption) ?_
      refine egressStamp_touches h_regs h_free h_out h_host h_latches h_stamps ?_
      assumption
  · lift_lets
    intro x0
    have hx1 : Touches ps s0 x0 := by
      unfold x0
      refine State.send_touches h_out ?_
      refine Touches.of_snd2 (by assumption) ?_
      refine egressStamp_touches h_regs h_free h_out h_host h_latches h_stamps ?_
      assumption
    clear_value x0
    refine Touches.ite ?_ ?_
    · refine Touches.ite ?_ ?_
      · refine countStampLoss_touches h_regs h_stamps ?_
        assumption
      · assumption
    · refine State.send_touches h_out ?_
      assumption

theorem answerDelay_touches {ps : Piece → Prop} {s0 : State} (h_regs : ps .regs) (h_free : ps .free) (h_out : ps .out) (h_host : ps .host) (h_latches : ps .latches) (h_stamps : ps .stamps) {v0 : ℕ} {v1 : Option T80} {v2 : TxTap} {v3 : PtpMsg} {v4 : State} (h0 : Touches ps s0 v4) :
    Touches ps s0 (answerDelay v0 v1 v2 v3 v4) := by
  unfold answerDelay
  lift_lets
  intro x0
  clear_value x0
  intro x1
  clear_value x1
  intro x2
  clear_value x2
  split
  · assumption
  · refine Touches.ite ?_ ?_
    · refine State.given_touches ?_ ?_
      · assumption
      · intro y3
        intro k4
        refine State.send_touches h_out ?_
        assumption
    · refine State.given_touches ?_ ?_
      · assumption
      · intro y5
        intro k6
        refine sendStamped_touches h_regs h_free h_out h_host h_latches h_stamps ?_
        assumption

theorem hearDelay_touches {ps : Piece → Prop} {s0 : State} (h_hat : ps .hat) {v0 : ℕ} {v1 : ℕ} {v2 : Option ℤ} {v3 : PtpMsg} {v4 : State} (h0 : Touches ps s0 v4) :
    Touches ps s0 (hearDelay v0 v1 v2 v3 v4) := by
  unfold hearDelay
  lift_lets
  intro x0
  clear_value x0
  intro x1
  clear_value x1
  intro x2
  clear_value x2
  split
  · refine State.given_touches ?_ ?_
    · assumption
    · intro y3
      intro k4
      refine State.putPeer_touches h_hat ?_
      assumption
  · refine State.given_touches ?_ ?_
    · assumption
    · intro y5
      intro k6
      refine State.putPeer_touches h_hat ?_
      assumption
  · split
    · refine State.given_touches ?_ ?_
      · assumption
      · intro y7
        intro k8
        refine State.putPeer_touches h_hat ?_
        assumption
    · assumption
  · assumption

theorem ptpEffect_touches {ps : Piece → Prop} {s0 : State} (h_regs : ps .regs) (h_time : ps .time) (h_free : ps .free) (h_out : ps .out) (h_host : ps .host) (h_latches : ps .latches) (h_hat : ps .hat) (h_ticks : ps .ticks) (h_stamps : ps .stamps) (h_ldg : ps .ldg) (h_vsr : ps .vsr) {v0 : ℕ} {v1 : ℕ} {v2 : Option T80} {v3 : TxTap} {v4 : PtpMsg} {v5 : List ServoFit} {v6 : State} (h0 : Touches ps s0 v6) :
    Touches ps s0 (ptpEffect v0 v1 v2 v3 v4 v5 v6) := by
  unfold ptpEffect
  lift_lets
  intro x0
  clear_value x0
  split
  · refine hearAnnounce_touches h_regs h_hat ?_
    assumption
  · refine hearSync_touches h_regs h_time h_free h_out h_host h_latches h_hat h_ticks h_ldg h_vsr ?_
    assumption
  · refine hearFollowUp_touches h_regs h_time h_free h_out h_host h_latches h_hat h_ticks h_ldg h_vsr ?_
    assumption
  · refine answerDelay_touches h_regs h_free h_out h_host h_latches h_stamps ?_
    assumption
  · refine answerDelay_touches h_regs h_free h_out h_host h_latches h_stamps ?_
    assumption
  · refine hearDelay_touches h_hat ?_
    assumption
  · refine hearDelay_touches h_hat ?_
    assumption
  · refine hearDelay_touches h_hat ?_
    assumption
  · assumption

theorem sendDelayReq_touches {ps : Piece → Prop} {s0 : State} (h_regs : ps .regs) (h_free : ps .free) (h_out : ps .out) (h_host : ps .host) (h_latches : ps .latches) (h_hat : ps .hat) (h_stamps : ps .stamps) {v0 : ℕ} {v1 : TxTap} {v2 : State} (h0 : Touches ps s0 v2) :
    Touches ps s0 (sendDelayReq v0 v1 v2) := by
  unfold sendDelayReq
  lift_lets
  intro x0
  clear_value x0
  intro x1
  clear_value x1
  split
  lift_lets
  intro x2
  have hx3 : Touches ps s0 x2 := by
    unfold x2
    refine State.putPtp_touches h_regs h_hat ?_
    refine Touches.of_snd2 (by assumption) ?_
    refine egressStamp_touches h_regs h_free h_out h_host h_latches h_stamps ?_
    assumption
  clear_value x2
  refine Touches.ite ?_ ?_
  · refine countStampLoss_touches h_regs h_stamps ?_
    assumption
  · refine State.send_touches h_out ?_
    assumption

theorem showPeer_touches {ps : Piece → Prop} {s0 : State} (h_regs : ps .regs) {v0 : ℕ} {v1 : ℕ} {v2 : State} (h0 : Touches ps s0 v2) :
    Touches ps s0 (showPeer v0 v1 v2) := by
  unfold showPeer
  lift_lets
  intro x0
  clear_value x0
  intro x1
  clear_value x1
  intro x2
  clear_value x2
  refine State.wr_touches h_regs ?_
  refine State.wr_touches h_regs ?_
  refine State.wr_touches h_regs ?_
  refine State.wrPair_touches h_regs ?_
  refine State.wr_touches h_regs ?_
  refine State.wr_touches h_regs ?_
  refine State.wr_touches h_regs ?_
  refine State.wr_touches h_regs ?_
  refine State.wr_touches h_regs ?_
  refine State.wr_touches h_regs ?_
  refine State.wr_touches h_regs ?_
  refine State.wr_touches h_regs ?_
  refine State.wr_touches h_regs ?_
  refine State.wr_touches h_regs ?_
  refine State.wr_touches h_regs ?_
  refine State.wr_touches h_regs ?_
  assumption

theorem execPeerSelWrite_touches {ps : Piece → Prop} {s0 : State} (h_regs : ps .regs) (h_latches : ps .latches) (h_mtn : ps .mtn) {v0 : Fin 1024} {v1 : Fin 16} {v2 : State} (h0 : Touches ps s0 v2) :
    Moves ps s0 (execPeerSelWrite v0 v1 v2) := by
  unfold execPeerSelWrite
  refine Moves.next ?_
  refine State.written_touches h_regs h_latches h_mtn ?_ ?_
  · assumption
  · intro y0
    intro k1
    refine showPeer_touches h_regs ?_
    assumption

theorem setStatic_touches {ps : Piece → Prop} {s0 : State} (h_hat : ps .hat) {v0 : Bool} {v1 : ℕ} {v2 : ℕ} {v3 : State} (h0 : Touches ps s0 v3) :
    Touches ps s0 (setStatic v0 v1 v2 v3) := by
  unfold setStatic
  refine State.given_touches ?_ ?_
  · assumption
  · intro y0
    intro k1
    lift_lets
    intro x2
    clear_value x2
    refine State.putPeer_touches h_hat ?_
    assumption

theorem freePeer_touches {ps : Piece → Prop} {s0 : State} (h_regs : ps .regs) (h_free : ps .free) (h_out : ps .out) (h_host : ps .host) (h_latches : ps .latches) (h_hat : ps .hat) {v0 : ℕ} {v1 : ℕ} {v2 : State} (h0 : Touches ps s0 v2) :
    Touches ps s0 (freePeer v0 v1 v2) := by
  unfold freePeer
  refine State.given_touches ?_ ?_
  · assumption
  · intro y0
    intro k1
    lift_lets
    intro x2
    clear_value x2
    intro x3
    have hx4 : Touches ps s0 x3 := by
      unfold x3
      refine dropPeer_touches h_regs h_out h_host h_latches h_hat ?_
      assumption
    clear_value x3
    refine Touches.ite ?_ ?_
    · refine silenceRef_touches h_regs h_free h_out h_host h_latches h_hat ?_
      assumption
    · assumption

theorem execPeerAgeOut_touches {ps : Piece → Prop} {s0 : State} (h_regs : ps .regs) (h_out : ps .out) (h_host : ps .host) (h_latches : ps .latches) (h_hat : ps .hat) {v0 : Fin 1024} {v1 : Fin 16} {v2 : State} (h0 : Touches ps s0 v2) :
    Moves ps s0 (execPeerAgeOut v0 v1 v2) := by
  unfold execPeerAgeOut
  refine Moves.next ?_
  refine State.given_touches ?_ ?_
  · assumption
  · intro y0
    intro k1
    refine dropPeer_touches h_regs h_out h_host h_latches h_hat ?_
    assumption

theorem notePeer_touches {ps : Piece → Prop} {s0 : State} (h_regs : ps .regs) (h_out : ps .out) (h_host : ps .host) (h_hat : ps .hat) {v0 : ℕ} {v1 : ℕ} {v2 : PtpMsg} {v3 : State} (h0 : Touches ps s0 v3) :
    Touches ps s0 (notePeer v0 v1 v2 v3) := by
  unfold notePeer
  lift_lets
  intro x0
  clear_value x0
  intro x1
  clear_value x1
  intro x2
  clear_value x2
  intro x3
  have hx4 : Touches ps s0 x3 := by
    unfold x3
    refine State.putPeer_touches h_hat ?_
    assumption
  clear_value x3
  intro x5
  have hx6 : Touches ps s0 x5 := by
    unfold x5
    refine Touches.ite ?_ ?_
    · refine State.vector_touches h_out h_host ?_
      assumption
    · assumption
  clear_value x5
  refine Touches.foldl (fun _ _ _ => ?_) ?_
  · refine Touches.ite ?_ ?_
    · refine State.putQ_touches h_regs ?_
      assumption
    · assumption
  · assumption

theorem ptpReceive_touches {ps : Piece → Prop} {s0 : State} (h_regs : ps .regs) (h_time : ps .time) (h_free : ps .free) (h_out : ps .out) (h_host : ps .host) (h_latches : ps .latches) (h_hat : ps .hat) (h_ticks : ps .ticks) (h_stamps : ps .stamps) (h_ldg : ps .ldg) (h_vsr : ps .vsr) {v0 : ℕ} {v1 : RxTap} {v2 : TxTap} {v3 : PtpMsg} {v4 : List ServoFit} {v5 : State} (h0 : Touches ps s0 v5) :
    Touches ps s0 (ptpReceive v0 v1 v2 v3 v4 v5) := by
  unfold ptpReceive
  lift_lets
  intro x0
  clear_value x0
  refine Touches.ite ?_ ?_
  · assumption
  · split
    refine Touches.ite ?_ ?_
    · refine State.count_touches h_regs h_vsr ?_
      refine Touches.of_snd2 (by assumption) ?_
      refine ingressStamp_touches h_regs h_free h_out h_host h_latches h_stamps ?_
      assumption
    · split
      · refine State.vector_touches h_out h_host ?_
        refine State.raise_touches h_regs h_out h_host h_latches ?_
        refine State.putPtp_touches h_regs h_hat ?_
        refine Touches.of_snd2 (by assumption) ?_
        refine ingressStamp_touches h_regs h_free h_out h_host h_latches h_stamps ?_
        assumption
      · refine ptpEffect_touches h_regs h_time h_free h_out h_host h_latches h_hat h_ticks h_stamps h_ldg h_vsr ?_
        refine notePeer_touches h_regs h_out h_host h_hat ?_
        refine Touches.of_snd2 (by assumption) ?_
        refine ingressStamp_touches h_regs h_free h_out h_host h_latches h_stamps ?_
        assumption

theorem execPtpMessageReceive_touches {ps : Piece → Prop} {s0 : State} (h_regs : ps .regs) (h_time : ps .time) (h_free : ps .free) (h_out : ps .out) (h_host : ps .host) (h_latches : ps .latches) (h_hat : ps .hat) (h_ticks : ps .ticks) (h_stamps : ps .stamps) (h_ldg : ps .ldg) (h_vsr : ps .vsr) {v0 : Fin 1024} {v1 : PtpTaps} {v2 : PtpMsg} {v3 : List ServoFit} {v4 : State} (h0 : Touches ps s0 v4) :
    Moves ps s0 (execPtpMessageReceive v0 v1 v2 v3 v4) := by
  unfold execPtpMessageReceive
  refine Moves.next ?_
  refine State.running_touches ?_ ?_
  · assumption
  · intro y0
    intro k1
    refine ptpReceive_touches h_regs h_time h_free h_out h_host h_latches h_hat h_ticks h_stamps h_ldg h_vsr ?_
    assumption

theorem onSelectedPeer_touches {ps : Piece → Prop} {s0 : State} (h_regs : ps .regs) (h_latches : ps .latches) (h_mtn : ps .mtn) {v0 : ℕ → ℕ → State → State} {v1 : State} (h0 : ∀ a0 a1 a2, Touches ps s0 a2 → Touches ps s0 (v0 a0 a1 a2)) (h1 : Touches ps s0 v1) :
    Touches ps s0 (onSelectedPeer v0 v1) := by
  unfold onSelectedPeer
  refine State.written_touches h_regs h_latches h_mtn ?_ ?_
  · assumption
  · intro y0
    intro k1
    refine h0 _ _ _ ?_
    assumption

theorem execMakeLearned_touches {ps : Piece → Prop} {s0 : State} (h_regs : ps .regs) (h_latches : ps .latches) (h_hat : ps .hat) (h_mtn : ps .mtn) {v0 : State} (h0 : Touches ps s0 v0) :
    Moves ps s0 (execMakeLearned v0) := by
  unfold execMakeLearned
  refine Moves.next ?_
  refine onSelectedPeer_touches h_regs h_latches h_mtn ?_ ?_
  · intro y0
    intro y1
    intro y2
    intro k3
    refine setStatic_touches h_hat ?_
    assumption
  · assumption

theorem ptpTimeout_touches {ps : Piece → Prop} {s0 : State} (h_regs : ps .regs) (h_free : ps .free) (h_out : ps .out) (h_host : ps .host) (h_latches : ps .latches) (h_hat : ps .hat) {v0 : ℕ} {v1 : State} (h0 : Touches ps s0 v1) :
    Touches ps s0 (ptpTimeout v0 v1) := by
  unfold ptpTimeout
  lift_lets
  intro x0
  clear_value x0
  intro x1
  clear_value x1
  split
  · assumption
  · lift_lets
    intro x2
    clear_value x2
    refine State.given_touches ?_ ?_
    · assumption
    · intro y3
      intro k4
      refine failRef_touches h_regs h_free h_out h_host h_latches h_hat ?_
      assumption

theorem execPtpTimeout_touches {ps : Piece → Prop} {s0 : State} (h_regs : ps .regs) (h_free : ps .free) (h_out : ps .out) (h_host : ps .host) (h_latches : ps .latches) (h_hat : ps .hat) {v0 : Fin 16} {v1 : State} (h0 : Touches ps s0 v1) :
    Moves ps s0 (execPtpTimeout v0 v1) := by
  unfold execPtpTimeout
  refine Moves.next ?_
  refine State.running_touches ?_ ?_
  · assumption
  · intro y0
    intro k1
    refine ptpTimeout_touches h_regs h_free h_out h_host h_latches h_hat ?_
    assumption

theorem sendSyncs_touches {ps : Piece → Prop} {s0 : State} (h_regs : ps .regs) (h_free : ps .free) (h_out : ps .out) (h_host : ps .host) (h_latches : ps .latches) (h_hat : ps .hat) (h_stamps : ps .stamps) {v0 : ℕ} {v1 : List TxTap} {v2 : State} (h0 : Touches ps s0 v2) :
    Touches ps s0 (sendSyncs v0 v1 v2) := by
  unfold sendSyncs
  lift_lets
  intro x0
  clear_value x0
  intro x1
  clear_value x1
  intro x2
  have hx3 : Touches ps s0 x2 := by
    unfold x2
    refine State.putPtp_touches h_regs h_hat ?_
    assumption
  clear_value x2
  refine Touches.foldl (fun _ _ _ => ?_) ?_
  · refine sendStamped_touches h_regs h_free h_out h_host h_latches h_stamps ?_
    assumption
  · assumption

theorem execPtpSyncSend_touches {ps : Piece → Prop} {s0 : State} (h_regs : ps .regs) (h_free : ps .free) (h_out : ps .out) (h_host : ps .host) (h_latches : ps .latches) (h_hat : ps .hat) (h_stamps : ps .stamps) {v0 : SyncSend} {v1 : State} (h0 : Touches ps s0 v1) :
    Moves ps s0 (execPtpSyncSend v0 v1) := by
  unfold execPtpSyncSend
  refine Moves.next ?_
  refine State.running_touches ?_ ?_
  · assumption
  · intro y0
    intro k1
    refine State.given_touches ?_ ?_
    · assumption
    · intro y2
      intro k3
      refine sendSyncs_touches h_regs h_free h_out h_host h_latches h_hat h_stamps ?_
      assumption

theorem execPtpAnnounceSend_touches {ps : Piece → Prop} {s0 : State} (h_regs : ps .regs) (h_out : ps .out) (h_hat : ps .hat) {v0 : Fin 1024} {v1 : State} (h0 : Touches ps s0 v1) :
    Moves ps s0 (execPtpAnnounceSend v0 v1) := by
  unfold execPtpAnnounceSend
  refine Moves.next ?_
  refine State.running_touches ?_ ?_
  · assumption
  · intro y0
    intro k1
    refine State.given_touches ?_ ?_
    · assumption
    · intro y2
      intro k3
      refine sendAnnounces_touches h_regs h_out h_hat ?_
      assumption

theorem execMakeStatic_touches {ps : Piece → Prop} {s0 : State} (h_regs : ps .regs) (h_latches : ps .latches) (h_hat : ps .hat) (h_mtn : ps .mtn) {v0 : State} (h0 : Touches ps s0 v0) :
    Moves ps s0 (execMakeStatic v0) := by
  unfold execMakeStatic
  refine Moves.next ?_
  refine onSelectedPeer_touches h_regs h_latches h_mtn ?_ ?_
  · intro y0
    intro y1
    intro y2
    intro k3
    refine setStatic_touches h_hat ?_
    assumption
  · assumption

theorem execFree_touches {ps : Piece → Prop} {s0 : State} (h_regs : ps .regs) (h_free : ps .free) (h_out : ps .out) (h_host : ps .host) (h_latches : ps .latches) (h_hat : ps .hat) (h_mtn : ps .mtn) {v0 : State} (h0 : Touches ps s0 v0) :
    Moves ps s0 (execFree v0) := by
  unfold execFree
  refine Moves.next ?_
  refine onSelectedPeer_touches h_regs h_latches h_mtn ?_ ?_
  · intro y0
    intro y1
    intro y2
    intro k3
    refine freePeer_touches h_regs h_free h_out h_host h_latches h_hat ?_
    assumption
  · assumption

theorem execDelayReqSend_touches {ps : Piece → Prop} {s0 : State} (h_regs : ps .regs) (h_free : ps .free) (h_out : ps .out) (h_host : ps .host) (h_latches : ps .latches) (h_hat : ps .hat) (h_stamps : ps .stamps) {v0 : Fin 1024} {v1 : TxTap} {v2 : State} (h0 : Touches ps s0 v2) :
    Moves ps s0 (execDelayReqSend v0 v1 v2) := by
  unfold execDelayReqSend
  refine Moves.next ?_
  refine State.running_touches ?_ ?_
  · assumption
  · intro y0
    intro k1
    lift_lets
    intro x2
    clear_value x2
    refine State.given_touches ?_ ?_
    · assumption
    · intro y3
      intro k4
      refine sendDelayReq_touches h_regs h_free h_out h_host h_latches h_hat h_stamps ?_
      assumption

end Sys2Proof.Machine
end

