-- ==== Sys2Proof/Laws/TouchFrames.lean ====
section
/-! SUPPORT. What the operations of Machine/Frames.lean may touch: one lemma for each. -/

set_option maxRecDepth 10000

namespace Sys2Proof.Machine

theorem State.putReplica_touches {ps : Piece → Prop} {s0 : State} (h_palm : ps .palm) {v0 : State} {v1 : ℕ} {v2 : Replica} (h0 : Touches ps s0 v0) :
    Touches ps s0 (State.putReplica v0 v1 v2) := by
  unfold State.putReplica
  lift_lets
  intro x0
  clear_value x0
  refine (Touches.upd_palm h_palm ?_)
  assumption

theorem State.onFrame_touches {ps : Piece → Prop} {s0 : State} {v0 : State} {v1 : ℕ} {v2 : Frame → State → State} (h0 : Touches ps s0 v0) (h1 : ∀ a0 a1, Touches ps s0 a1 → Touches ps s0 (v2 a0 a1)) :
    Touches ps s0 (State.onFrame v0 v1 v2) := by
  unfold State.onFrame
  split
  · refine h1 _ _ ?_
    assumption
  · assumption

theorem State.putFrame_touches {ps : Piece → Prop} {s0 : State} (h_palm : ps .palm) {v0 : State} {v1 : ℕ} {v2 : Frame} (h0 : Touches ps s0 v0) :
    Touches ps s0 (State.putFrame v0 v1 v2) := by
  unfold State.putFrame
  lift_lets
  intro x0
  clear_value x0
  refine (Touches.upd_palm h_palm ?_)
  assumption

theorem State.onReplica_touches {ps : Piece → Prop} {s0 : State} {v0 : State} {v1 : ℕ} {v2 : Replica → Frame → State → State} (h0 : Touches ps s0 v0) (h1 : ∀ a0 a1 a2, Touches ps s0 a2 → Touches ps s0 (v2 a0 a1 a2)) :
    Touches ps s0 (State.onReplica v0 v1 v2) := by
  unfold State.onReplica
  split
  · split
    · refine h1 _ _ _ ?_
      assumption
    · assumption
  · assumption

theorem countDrop_touches {ps : Piece → Prop} {s0 : State} (h_regs : ps .regs) (h_vsr : ps .vsr) {v0 : Frame} {v1 : ℕ} {v2 : Option ℕ} {v3 : State} (h0 : Touches ps s0 v3) :
    Touches ps s0 (countDrop v0 v1 v2 v3) := by
  unfold countDrop
  lift_lets
  intro x0
  have hx1 : Touches ps s0 x0 := by
    unfold x0
    split
    · refine State.count_touches h_regs h_vsr ?_
      refine State.count_touches h_regs h_vsr ?_
      assumption
    · refine State.count_touches h_regs h_vsr ?_
      refine State.count_touches h_regs h_vsr ?_
      assumption
  clear_value x0
  refine Touches.ite ?_ ?_
  · assumption
  · refine State.count_touches h_regs h_vsr ?_
    assumption

theorem State.dropFrame_touches {ps : Piece → Prop} {s0 : State} (h_palm : ps .palm) {v0 : State} {v1 : ℕ} (h0 : Touches ps s0 v0) :
    Touches ps s0 (State.dropFrame v0 v1) := by
  unfold State.dropFrame
  lift_lets
  intro x0
  clear_value x0
  intro x1
  clear_value x1
  refine (Touches.upd_palm h_palm ?_)
  assumption

theorem State.putHring_touches {ps : Piece → Prop} {s0 : State} (h_palm : ps .palm) {v0 : State} {v1 : ℕ} {v2 : HRing} (h0 : Touches ps s0 v0) :
    Touches ps s0 (State.putHring v0 v1 v2) := by
  unfold State.putHring
  lift_lets
  intro x0
  clear_value x0
  refine (Touches.upd_palm h_palm ?_)
  assumption

theorem headerRing_touches {ps : Piece → Prop} {s0 : State} (h_regs : ps .regs) (h_out : ps .out) (h_host : ps .host) (h_latches : ps .latches) (h_palm : ps .palm) (h_vsr : ps .vsr) {v0 : ℕ} {v1 : Frame} {v2 : Fate} {v3 : State} (h0 : Touches ps s0 v3) :
    Touches ps s0 (headerRing v0 v1 v2 v3) := by
  unfold headerRing
  lift_lets
  intro x0
  clear_value x0
  intro x1
  clear_value x1
  intro x2
  clear_value x2
  intro x3
  clear_value x3
  intro x4
  clear_value x4
  intro x5
  clear_value x5
  refine Touches.ite ?_ ?_
  · assumption
  · refine Touches.ite ?_ ?_
    · refine State.putHring_touches h_palm ?_
      assumption
    · refine Touches.ite ?_ ?_
      · refine State.vector_touches h_out h_host ?_
        refine State.bump_touches h_regs h_latches ?_
        refine State.putHring_touches h_palm ?_
        assumption
      · refine State.vector_touches h_out h_host ?_
        refine State.count_touches h_regs h_vsr ?_
        refine State.putHring_touches h_palm ?_
        assumption

theorem writeTrace_touches {ps : Piece → Prop} {s0 : State} (h_regs : ps .regs) (h_out : ps .out) (h_ddr : ps .ddr) (h_poison : ps .poison) (h_host : ps .host) (h_latches : ps .latches) (h_palm : ps .palm) (h_vsr : ps .vsr) {v0 : Frame} {v1 : Fate} {v2 : State} (h0 : Touches ps s0 v2) :
    Touches ps s0 (writeTrace v0 v1 v2) := by
  unfold writeTrace
  lift_lets
  intro x0
  clear_value x0
  intro x1
  clear_value x1
  intro x2
  clear_value x2
  intro x3
  clear_value x3
  intro x4
  clear_value x4
  intro x5
  clear_value x5
  intro x6
  have hx7 : Touches ps s0 x6 := by
    unfold x6
    refine (Touches.upd_palm h_palm ?_)
    assumption
  clear_value x6
  intro x8
  clear_value x8
  intro x9
  clear_value x9
  intro x10
  clear_value x10
  intro x11
  clear_value x11
  intro x12
  clear_value x12
  intro x13
  have hx14 : Touches ps s0 x13 := by
    unfold x13
    refine State.vector_touches h_out h_host ?_
    refine State.raise_touches h_regs h_out h_host h_latches ?_
    refine State.bump_touches h_regs h_latches ?_
    assumption
  clear_value x13
  refine Touches.ite ?_ ?_
  · refine State.vector_touches h_out h_host ?_
    refine State.count_touches h_regs h_vsr ?_
    refine State.wr_touches h_regs ?_
    refine State.ringWrite_touches h_ddr h_poison ?_
    assumption
  · refine Touches.ite ?_ ?_
    · assumption
    · refine State.raise_touches h_regs h_out h_host h_latches ?_
      assumption

theorem settle_touches {ps : Piece → Prop} {s0 : State} (h_regs : ps .regs) (h_out : ps .out) (h_ddr : ps .ddr) (h_poison : ps .poison) (h_host : ps .host) (h_latches : ps .latches) (h_palm : ps .palm) (h_ldg : ps .ldg) (h_vsr : ps .vsr) {v0 : ℕ} {v1 : Fate} {v2 : Bool} {v3 : State} (h0 : Touches ps s0 v3) :
    Touches ps s0 (settle v0 v1 v2 v3) := by
  unfold settle
  refine State.onFrame_touches ?_ ?_
  · assumption
  · intro y0
    intro y1
    intro k2
    lift_lets
    intro x3
    clear_value x3
    intro x4
    have hx5 : Touches ps s0 x4 := by
      unfold x4
      refine formFrame_touches h_ldg ?_
      assumption
    clear_value x4
    intro x6
    have hx7 : Touches ps s0 x6 := by
      unfold x6
      refine Touches.foldl (fun _ _ _ => ?_) ?_
      · refine headerRing_touches h_regs h_out h_host h_latches h_palm h_vsr ?_
        assumption
      · assumption
    clear_value x6
    intro x8
    have hx9 : Touches ps s0 x8 := by
      unfold x8
      refine Touches.ite ?_ ?_
      · refine writeTrace_touches h_regs h_out h_ddr h_poison h_host h_latches h_palm h_vsr ?_
        assumption
      · assumption
    clear_value x8
    refine State.putFrame_touches h_palm ?_
    assumption

theorem dropAtIngress_touches {ps : Piece → Prop} {s0 : State} (h_regs : ps .regs) (h_out : ps .out) (h_ddr : ps .ddr) (h_poison : ps .poison) (h_host : ps .host) (h_latches : ps .latches) (h_palm : ps .palm) (h_ldg : ps .ldg) (h_vsr : ps .vsr) {v0 : ℕ} {v1 : ℕ} {v2 : State} (h0 : Touches ps s0 v2) :
    Touches ps s0 (dropAtIngress v0 v1 v2) := by
  unfold dropAtIngress
  refine State.onFrame_touches ?_ ?_
  · assumption
  · intro y0
    intro y1
    intro k2
    lift_lets
    intro x3
    clear_value x3
    intro x4
    clear_value x4
    intro x5
    have hx6 : Touches ps s0 x5 := by
      unfold x5
      refine settle_touches h_regs h_out h_ddr h_poison h_host h_latches h_palm h_ldg h_vsr ?_
      refine countDrop_touches h_regs h_vsr ?_
      assumption
    clear_value x5
    refine State.dropFrame_touches h_palm ?_
    assumption

theorem ringsOnly_touches {ps : Piece → Prop} {s0 : State} (h_regs : ps .regs) (h_out : ps .out) (h_host : ps .host) (h_latches : ps .latches) (h_palm : ps .palm) (h_vsr : ps .vsr) {v0 : ℕ} {v1 : Fate} {v2 : State} (h0 : Touches ps s0 v2) :
    Touches ps s0 (ringsOnly v0 v1 v2) := by
  unfold ringsOnly
  refine State.onFrame_touches ?_ ?_
  · assumption
  · intro y0
    intro y1
    intro k2
    refine Touches.foldl (fun _ _ _ => ?_) ?_
    · refine headerRing_touches h_regs h_out h_host h_latches h_palm h_vsr ?_
      assumption
    · assumption

end Sys2Proof.Machine
end

