-- ==== Sys2Proof/Laws/TouchPalm.lean ====
section
/-! SUPPORT. What the operations of Machine/Palm.lean may touch: one lemma for each. -/

set_option maxRecDepth 10000

namespace Sys2Proof.Machine

theorem refreshHeld_touches {ps : Piece → Prop} {s0 : State} (h_regs : ps .regs) {v0 : ℕ} {v1 : State} (h0 : Touches ps s0 v1) :
    Touches ps s0 (refreshHeld v0 v1) := by
  unfold refreshHeld
  lift_lets
  intro x0
  clear_value x0
  refine State.wr_touches h_regs ?_
  assumption

theorem latchDrop_touches {ps : Piece → Prop} {s0 : State} (h_regs : ps .regs) (h_out : ps .out) (h_host : ps .host) (h_latches : ps .latches) {v0 : Frame} {v1 : ℕ} {v2 : ℕ} {v3 : State} (h0 : Touches ps s0 v3) :
    Touches ps s0 (latchDrop v0 v1 v2 v3) := by
  unfold latchDrop
  lift_lets
  intro x0
  clear_value x0
  intro x1
  have hx2 : Touches ps s0 x1 := by
    unfold x1
    refine Touches.ite ?_ ?_
    · refine State.raise_touches h_regs h_out h_host h_latches ?_
      assumption
    · assumption
  clear_value x1
  refine Touches.ite ?_ ?_
  · refine State.raise_touches h_regs h_out h_host h_latches ?_
    assumption
  · refine Touches.ite ?_ ?_
    · refine State.raise_touches h_regs h_out h_host h_latches ?_
      assumption
    · assumption

theorem State.putQueue_touches {ps : Piece → Prop} {s0 : State} (h_palm : ps .palm) {v0 : State} {v1 : ℕ} {v2 : ℕ} {v3 : Queue} (h0 : Touches ps s0 v0) :
    Touches ps s0 (State.putQueue v0 v1 v2 v3) := by
  unfold State.putQueue
  lift_lets
  intro x0
  clear_value x0
  refine (Touches.upd_palm h_palm ?_)
  assumption

theorem freeEntry_touches {ps : Piece → Prop} {s0 : State} (h_regs : ps .regs) (h_latches : ps .latches) (h_palm : ps .palm) {v0 : Replica} {v1 : State} (h0 : Touches ps s0 v1) :
    Touches ps s0 (freeEntry v0 v1) := by
  unfold freeEntry
  lift_lets
  intro x0
  clear_value x0
  refine State.bump_touches h_regs h_latches ?_
  refine State.putQueue_touches h_palm ?_
  assumption

theorem takeCapacity_touches {ps : Piece → Prop} {s0 : State} (h_regs : ps .regs) (h_out : ps .out) (h_host : ps .host) (h_latches : ps .latches) {v0 : ℕ} {v1 : State} (h0 : Touches ps s0 v1) :
    Touches ps s0 (takeCapacity v0 v1) := by
  unfold takeCapacity
  split
  refine Touches.ite ?_ ?_
  · refine Touches.of_snd (by assumption) ?_
    refine Touches.foldl_snd (fun _ _ _ => ?_) ?_
    · lift_lets
      intro x0
      clear_value x0
      dsimp only
      refine State.wr_touches h_regs ?_
      assumption
    · assumption
  · refine State.raise_touches h_regs h_out h_host h_latches ?_
    refine Touches.of_snd (by assumption) ?_
    refine Touches.foldl_snd (fun _ _ _ => ?_) ?_
    · lift_lets
      intro x1
      clear_value x1
      dsimp only
      refine State.wr_touches h_regs ?_
      assumption
    · assumption

theorem checkRetired_touches {ps : Piece → Prop} {s0 : State} (h_regs : ps .regs) (h_out : ps .out) (h_host : ps .host) (h_latches : ps .latches) {v0 : ℕ} {v1 : State} (h0 : Touches ps s0 v1) :
    Touches ps s0 (checkRetired v0 v1) := by
  unfold checkRetired
  refine Touches.ite ?_ ?_
  · refine takeCapacity_touches h_regs h_out h_host h_latches ?_
    refine State.drop_touches h_regs ?_
    assumption
  · assumption

theorem freeLive_touches {ps : Piece → Prop} {s0 : State} (h_regs : ps .regs) (h_out : ps .out) (h_host : ps .host) (h_latches : ps .latches) {v0 : ℕ} {v1 : State} (h0 : Touches ps s0 v1) :
    Touches ps s0 (freeLive v0 v1) := by
  unfold freeLive
  refine checkRetired_touches h_regs h_out h_host h_latches ?_
  refine State.drop_touches h_regs ?_
  refine State.wri_touches h_regs ?_
  assumption

theorem sendPfc_touches {ps : Piece → Prop} {s0 : State} (h_regs : ps .regs) (h_out : ps .out) (h_vsr : ps .vsr) {v0 : ℕ} {v1 : List ℕ} {v2 : ℕ} {v3 : State} (h0 : Touches ps s0 v3) :
    Touches ps s0 (sendPfc v0 v1 v2 v3) := by
  unfold sendPfc
  refine Touches.ite ?_ ?_
  · assumption
  · lift_lets
    intro x0
    have hx1 : Touches ps s0 x0 := by
      unfold x0
      refine State.count_touches h_regs h_vsr ?_
      refine State.send_touches h_out ?_
      assumption
    clear_value x0
    refine Touches.foldl (fun _ _ _ => ?_) ?_
    · refine State.wr_touches h_regs ?_
      assumption
    · assumption

theorem State.putPg_touches {ps : Piece → Prop} {s0 : State} (h_palm : ps .palm) {v0 : State} {v1 : ℕ} {v2 : ℕ} {v3 : Pg} (h0 : Touches ps s0 v0) :
    Touches ps s0 (State.putPg v0 v1 v2 v3) := by
  unfold State.putPg
  lift_lets
  intro x0
  clear_value x0
  refine (Touches.upd_palm h_palm ?_)
  assumption

theorem setXoff_touches {ps : Piece → Prop} {s0 : State} (h_regs : ps .regs) (h_out : ps .out) (h_palm : ps .palm) (h_vsr : ps .vsr) {v0 : ℕ} {v1 : ℕ} {v2 : Bool} {v3 : State} (h0 : Touches ps s0 v3) :
    Touches ps s0 (setXoff v0 v1 v2 v3) := by
  unfold setXoff
  lift_lets
  intro x0
  clear_value x0
  refine Touches.ite ?_ ?_
  · assumption
  · refine sendPfc_touches h_regs h_out h_vsr ?_
    refine State.putPg_touches h_palm ?_
    assumption

theorem checkXon_touches {ps : Piece → Prop} {s0 : State} (h_regs : ps .regs) (h_out : ps .out) (h_palm : ps .palm) (h_vsr : ps .vsr) {v0 : ℕ} {v1 : ℕ} {v2 : State} (h0 : Touches ps s0 v2) :
    Touches ps s0 (checkXon v0 v1 v2) := by
  unfold checkXon
  lift_lets
  intro x0
  clear_value x0
  refine Touches.ite ?_ ?_
  · refine setXoff_touches h_regs h_out h_palm h_vsr ?_
    assumption
  · assumption

theorem returnPg_touches {ps : Piece → Prop} {s0 : State} (h_regs : ps .regs) (h_out : ps .out) (h_palm : ps .palm) (h_vsr : ps .vsr) {v0 : Frame} {v1 : List Draw} {v2 : State} (h0 : Touches ps s0 v2) :
    Touches ps s0 (returnPg v0 v1 v2) := by
  unfold returnPg
  lift_lets
  intro x0
  clear_value x0
  refine checkXon_touches h_regs h_out h_palm h_vsr ?_
  refine State.putPg_touches h_palm ?_
  assumption

theorem returnPools_touches {ps : Piece → Prop} {s0 : State} (h_regs : ps .regs) {v0 : List Draw} {v1 : State} (h0 : Touches ps s0 v1) :
    Touches ps s0 (returnPools v0 v1) := by
  unfold returnPools
  refine Touches.foldl (fun _ _ _ => ?_) ?_
  · refine Touches.ite ?_ ?_
    · assumption
    · refine State.wr_touches h_regs ?_
      assumption
  · assumption

theorem releaseFrame_touches {ps : Piece → Prop} {s0 : State} (h_regs : ps .regs) (h_out : ps .out) (h_host : ps .host) (h_latches : ps .latches) (h_palm : ps .palm) (h_vsr : ps .vsr) {v0 : ℕ} {v1 : State} (h0 : Touches ps s0 v1) :
    Touches ps s0 (releaseFrame v0 v1) := by
  unfold releaseFrame
  refine State.onFrame_touches ?_ ?_
  · assumption
  · intro y0
    intro y1
    intro k2
    refine State.dropFrame_touches h_palm ?_
    refine Touches.foldl (fun _ _ _ => ?_) ?_
    · refine freeLive_touches h_regs h_out h_host h_latches ?_
      assumption
    · refine returnPg_touches h_regs h_out h_palm h_vsr ?_
      refine returnPools_touches h_regs ?_
      assumption

theorem removeReplica_touches {ps : Piece → Prop} {s0 : State} (h_regs : ps .regs) (h_out : ps .out) (h_host : ps .host) (h_latches : ps .latches) (h_palm : ps .palm) (h_vsr : ps .vsr) {v0 : ℕ} {v1 : State} (h0 : Touches ps s0 v1) :
    Touches ps s0 (removeReplica v0 v1) := by
  unfold removeReplica
  split
  · assumption
  · lift_lets
    intro x0
    clear_value x0
    intro x1
    have hx2 : Touches ps s0 x1 := by
      unfold x1
      refine freeEntry_touches h_regs h_latches h_palm ?_
      refine (Touches.upd_palm h_palm ?_)
      assumption
    clear_value x1
    intro x3
    have hx4 : Touches ps s0 x3 := by
      unfold x3
      refine Touches.ite ?_ ?_
      · assumption
      · refine refreshHeld_touches h_regs ?_
        assumption
    clear_value x3
    split
    · assumption
    · refine Touches.ite ?_ ?_
      · refine releaseFrame_touches h_regs h_out h_host h_latches h_palm h_vsr ?_
        assumption
      · refine State.putFrame_touches h_palm ?_
        assumption

theorem dropReplicaAt_touches {ps : Piece → Prop} {s0 : State} (h_regs : ps .regs) (h_out : ps .out) (h_ddr : ps .ddr) (h_poison : ps .poison) (h_host : ps .host) (h_latches : ps .latches) (h_palm : ps .palm) (h_ldg : ps .ldg) (h_vsr : ps .vsr) {v0 : Bool} {v1 : ℕ} {v2 : ℕ} {v3 : Bool} {v4 : State} (h0 : Touches ps s0 v4) :
    Touches ps s0 (dropReplicaAt v0 v1 v2 v3 v4) := by
  unfold dropReplicaAt
  refine State.onReplica_touches ?_ ?_
  · assumption
  · intro y0
    intro y1
    intro y2
    intro k3
    lift_lets
    intro x4
    have hx5 : Touches ps s0 x4 := by
      unfold x4
      refine latchDrop_touches h_regs h_out h_host h_latches ?_
      refine countDrop_touches h_regs h_vsr ?_
      assumption
    clear_value x4
    intro x6
    clear_value x6
    intro x7
    have hx8 : Touches ps s0 x7 := by
      unfold x7
      refine Touches.ite ?_ ?_
      · refine State.count_touches h_regs h_vsr ?_
        assumption
      · assumption
    clear_value x7
    intro x9
    clear_value x9
    refine removeReplica_touches h_regs h_out h_host h_latches h_palm h_vsr ?_
    refine settle_touches h_regs h_out h_ddr h_poison h_host h_latches h_palm h_ldg h_vsr ?_
    assumption

theorem dropReplica_touches {ps : Piece → Prop} {s0 : State} (h_regs : ps .regs) (h_out : ps .out) (h_ddr : ps .ddr) (h_poison : ps .poison) (h_host : ps .host) (h_latches : ps .latches) (h_palm : ps .palm) (h_ldg : ps .ldg) (h_vsr : ps .vsr) {v0 : ℕ} {v1 : ℕ} {v2 : Bool} {v3 : State} (h0 : Touches ps s0 v3) :
    Touches ps s0 (dropReplica v0 v1 v2 v3) := by
  unfold dropReplica
  refine dropReplicaAt_touches h_regs h_out h_ddr h_poison h_host h_latches h_palm h_ldg h_vsr ?_
  assumption

theorem stompReplica_touches {ps : Piece → Prop} {s0 : State} (h_regs : ps .regs) (h_out : ps .out) (h_host : ps .host) (h_latches : ps .latches) (h_palm : ps .palm) (h_vsr : ps .vsr) {v0 : ℕ} {v1 : Bool} {v2 : State} (h0 : Touches ps s0 v2) :
    Touches ps s0 (stompReplica v0 v1 v2) := by
  unfold stompReplica
  refine State.onReplica_touches ?_ ?_
  · assumption
  · intro y0
    intro y1
    intro y2
    intro k3
    refine Touches.ite ?_ ?_
    · assumption
    · lift_lets
      intro x4
      have hx5 : Touches ps s0 x4 := by
        unfold x4
        refine State.putReplica_touches h_palm ?_
        assumption
      clear_value x4
      refine Touches.ite ?_ ?_
      · refine State.raise_touches h_regs h_out h_host h_latches ?_
        refine State.count_touches h_regs h_vsr ?_
        assumption
      · refine State.count_touches h_regs h_vsr ?_
        assumption

theorem returnLate_touches {ps : Piece → Prop} {s0 : State} (h_regs : ps .regs) (h_palm : ps .palm) {v0 : List Draw} {v1 : State} (h0 : Touches ps s0 v1) :
    Touches ps s0 (returnLate v0 v1) := by
  unfold returnLate
  lift_lets
  intro x0
  clear_value x0
  intro x1
  clear_value x1
  intro x2
  clear_value x2
  refine returnPools_touches h_regs ?_
  refine (Touches.upd_palm h_palm ?_)
  assumption

theorem dropStored_touches {ps : Piece → Prop} {s0 : State} (h_regs : ps .regs) (h_out : ps .out) (h_ddr : ps .ddr) (h_poison : ps .poison) (h_host : ps .host) (h_latches : ps .latches) (h_palm : ps .palm) (h_ldg : ps .ldg) (h_vsr : ps .vsr) {v0 : ℕ} {v1 : ℕ} {v2 : List ℕ} {v3 : State} (h0 : Touches ps s0 v3) :
    Touches ps s0 (dropStored v0 v1 v2 v3) := by
  unfold dropStored
  split
  · assumption
  · lift_lets
    intro x0
    have hx1 : Touches ps s0 x0 := by
      unfold x0
      refine Touches.foldl (fun _ _ _ => ?_) ?_
      · split
        · refine State.onFrame_touches ?_ ?_
          · assumption
          · intro y2
            intro y3
            intro k4
            lift_lets
            intro x5
            clear_value x5
            refine removeReplica_touches h_regs h_out h_host h_latches h_palm h_vsr ?_
            refine ringsOnly_touches h_regs h_out h_host h_latches h_palm h_vsr ?_
            refine State.count_touches h_regs h_vsr ?_
            assumption
        · assumption
      · assumption
    clear_value x0
    refine State.onFrame_touches ?_ ?_
    · assumption
    · intro y6
      intro y7
      intro k8
      refine dropReplica_touches h_regs h_out h_ddr h_poison h_host h_latches h_palm h_ldg h_vsr ?_
      assumption

theorem refreshCopy_touches {ps : Piece → Prop} {s0 : State} (h_regs : ps .regs) {v0 : State} (h0 : Touches ps s0 v0) :
    Touches ps s0 (refreshCopy v0) := by
  unfold refreshCopy
  lift_lets
  intro x0
  clear_value x0
  refine Touches.ite ?_ ?_
  · assumption
  · split
    · refine State.wr_touches h_regs ?_
      refine State.wr_touches h_regs ?_
      assumption
    · refine State.wr_touches h_regs ?_
      assumption

theorem setBankState_touches {ps : Piece → Prop} {s0 : State} (h_regs : ps .regs) (h_out : ps .out) (h_host : ps .host) {v0 : ℕ} {v1 : ℕ} {v2 : State} (h0 : Touches ps s0 v2) :
    Touches ps s0 (setBankState v0 v1 v2) := by
  unfold setBankState
  refine Touches.ite ?_ ?_
  · assumption
  · lift_lets
    intro x0
    have hx1 : Touches ps s0 x0 := by
      unfold x0
      refine State.vector_touches h_out h_host ?_
      refine State.wri_touches h_regs ?_
      assumption
    clear_value x0
    intro x2
    clear_value x2
    refine State.wr_touches h_regs ?_
    assumption

theorem remapBank_touches {ps : Piece → Prop} {s0 : State} (h_regs : ps .regs) (h_out : ps .out) (h_host : ps .host) (h_latches : ps .latches) (h_mtn : ps .mtn) {v0 : ℕ} {v1 : State} (h0 : Touches ps s0 v1) :
    Touches ps s0 (remapBank v0 v1) := by
  unfold remapBank
  refine recomputeDom_touches h_regs h_out h_host h_mtn ?_
  refine refreshCopy_touches h_regs ?_
  refine State.raise_touches h_regs h_out h_host h_latches ?_
  refine setBankState_touches h_regs h_out h_host ?_
  refine State.wri_touches h_regs ?_
  assumption

theorem useSpare_touches {ps : Piece → Prop} {s0 : State} (h_regs : ps .regs) (h_out : ps .out) (h_host : ps .host) (h_latches : ps .latches) {v0 : State} (h0 : Touches ps s0 v0) :
    Touches ps s0 (useSpare v0) := by
  unfold useSpare
  lift_lets
  intro x0
  have hx1 : Touches ps s0 x0 := by
    unfold x0
    refine State.drop_touches h_regs ?_
    assumption
  clear_value x0
  intro x2
  clear_value x2
  intro x3
  have hx4 : Touches ps s0 x3 := by
    unfold x3
    refine Touches.ite ?_ ?_
    · refine State.raise_touches h_regs h_out h_host h_latches ?_
      assumption
    · assumption
  clear_value x3
  refine Touches.ite ?_ ?_
  · refine State.raise_touches h_regs h_out h_host h_latches ?_
    assumption
  · assumption

theorem triggerBank_touches {ps : Piece → Prop} {s0 : State} (h_regs : ps .regs) (h_out : ps .out) (h_host : ps .host) (h_latches : ps .latches) (h_palm : ps .palm) (h_mtn : ps .mtn) {v0 : ℕ} {v1 : State} (h0 : Touches ps s0 v1) :
    Touches ps s0 (triggerBank v0 v1) := by
  unfold triggerBank
  refine Touches.ite ?_ ?_
  · assumption
  · split
    · lift_lets
      intro x0
      clear_value x0
      intro x1
      have hx2 : Touches ps s0 x1 := by
        unfold x1
        refine setBankState_touches h_regs h_out h_host ?_
        refine useSpare_touches h_regs h_out h_host h_latches ?_
        refine (Touches.upd_palm h_palm ?_)
        assumption
      clear_value x1
      refine Touches.ite ?_ ?_
      · refine remapBank_touches h_regs h_out h_host h_latches h_mtn ?_
        assumption
      · refine recomputeDom_touches h_regs h_out h_host h_mtn ?_
        refine refreshCopy_touches h_regs ?_
        assumption
    · refine checkRetired_touches h_regs h_out h_host h_latches ?_
      refine State.bump_touches h_regs h_latches ?_
      refine State.raise_touches h_regs h_out h_host h_latches ?_
      refine setBankState_touches h_regs h_out h_host ?_
      assumption

theorem recomputeGroups_touches {ps : Piece → Prop} {s0 : State} (h_regs : ps .regs) (h_out : ps .out) (h_host : ps .host) (h_mtn : ps .mtn) {v0 : State} (h0 : Touches ps s0 v0) :
    Touches ps s0 (recomputeGroups v0) := by
  unfold recomputeGroups
  refine Touches.foldl (fun _ _ _ => ?_) ?_
  · refine recomputeDom_touches h_regs h_out h_host h_mtn ?_
    assumption
  · assumption

theorem refreshBacking_touches {ps : Piece → Prop} {s0 : State} (h_regs : ps .regs) {v0 : State} (h0 : Touches ps s0 v0) :
    Touches ps s0 (refreshBacking v0) := by
  unfold refreshBacking
  refine Touches.foldl (fun _ _ _ => ?_) ?_
  · lift_lets
    intro x0
    clear_value x0
    refine Touches.ite ?_ ?_
    · assumption
    · refine State.wr_touches h_regs ?_
      assumption
  · assumption

theorem keepSize_touches {ps : Piece → Prop} {s0 : State} (h_palm : ps .palm) {v0 : ℕ} {v1 : State} (h0 : Touches ps s0 v1) :
    Touches ps s0 (keepSize v0 v1) := by
  unfold keepSize
  lift_lets
  intro x0
  clear_value x0
  intro x1
  clear_value x1
  refine Touches.ite ?_ ?_
  · assumption
  · refine (Touches.upd_palm h_palm ?_)
    assumption

theorem writePools_touches {ps : Piece → Prop} {s0 : State} (h_regs : ps .regs) (h_out : ps .out) (h_host : ps .host) (h_latches : ps .latches) (h_palm : ps .palm) (h_mtn : ps .mtn) {v0 : ℕ} {v1 : ℕ} {v2 : State} (h0 : Touches ps s0 v2) :
    Touches ps s0 (writePools v0 v1 v2) := by
  unfold writePools
  split
  lift_lets
  intro x0
  clear_value x0
  intro x1
  clear_value x1
  refine Touches.ite ?_ ?_
  · refine State.raise_touches h_regs h_out h_host h_latches ?_
    refine State.set1_touches h_regs h_latches ?_
    assumption
  · refine recomputeGroups_touches h_regs h_out h_host h_mtn ?_
    refine refreshBacking_touches h_regs ?_
    refine State.wr_touches h_regs ?_
    refine State.wr_touches h_regs ?_
    refine keepSize_touches h_palm ?_
    refine keepSize_touches h_palm ?_
    assumption

theorem spareCmd_touches {ps : Piece → Prop} {s0 : State} (h_regs : ps .regs) (h_out : ps .out) (h_host : ps .host) (h_latches : ps .latches) (h_palm : ps .palm) (h_mtn : ps .mtn) {v0 : ℕ} {v1 : State} (h0 : Touches ps s0 v1) :
    Touches ps s0 (spareCmd v0 v1) := by
  unfold spareCmd
  refine Touches.ite ?_ ?_
  · refine State.set1_touches h_regs h_latches ?_
    assumption
  · refine Touches.ite ?_ ?_
    · refine State.bumpi_touches h_regs h_latches ?_
      assumption
    · refine triggerBank_touches h_regs h_out h_host h_latches h_palm h_mtn ?_
      assumption

theorem showMcg_touches {ps : Piece → Prop} {s0 : State} (h_regs : ps .regs) {v0 : ℕ} {v1 : State} (h0 : Touches ps s0 v1) :
    Touches ps s0 (showMcg v0 v1) := by
  unfold showMcg
  lift_lets
  intro x0
  clear_value x0
  intro x1
  have hx2 : Touches ps s0 x1 := by
    unfold x1
    refine State.wr_touches h_regs ?_
    refine State.wr_touches h_regs ?_
    refine State.wr_touches h_regs ?_
    assumption
  clear_value x1
  refine Touches.foldl (fun _ _ _ => ?_) ?_
  · refine State.wri_touches h_regs ?_
    assumption
  · assumption

theorem commitMcg_touches {ps : Piece → Prop} {s0 : State} (h_palm : ps .palm) {v0 : State} (h0 : Touches ps s0 v0) :
    Touches ps s0 (commitMcg v0) := by
  unfold commitMcg
  lift_lets
  intro x0
  clear_value x0
  refine (Touches.upd_palm h_palm ?_)
  assumption

theorem cellLost_touches {ps : Piece → Prop} {s0 : State} (h_regs : ps .regs) (h_out : ps .out) (h_ddr : ps .ddr) (h_poison : ps .poison) (h_host : ps .host) (h_latches : ps .latches) (h_palm : ps .palm) (h_ldg : ps .ldg) (h_vsr : ps .vsr) {v0 : ℕ} {v1 : State} (h0 : Touches ps s0 v1) :
    Touches ps s0 (cellLost v0 v1) := by
  unfold cellLost
  refine State.onFrame_touches ?_ ?_
  · assumption
  · intro y0
    intro y1
    intro k2
    lift_lets
    intro x3
    clear_value x3
    intro x4
    clear_value x4
    intro x5
    have hx6 : Touches ps s0 x5 := by
      unfold x5
      refine Touches.ite ?_ ?_
      · assumption
      · refine State.count_touches h_regs h_vsr ?_
        assumption
    clear_value x5
    intro x7
    have hx8 : Touches ps s0 x7 := by
      unfold x7
      refine Touches.foldl (fun _ _ _ => ?_) ?_
      · refine stompReplica_touches h_regs h_out h_host h_latches h_palm h_vsr ?_
        assumption
      · assumption
    clear_value x7
    refine dropStored_touches h_regs h_out h_ddr h_poison h_host h_latches h_palm h_ldg h_vsr ?_
    assumption

theorem State.putSched_touches {ps : Piece → Prop} {s0 : State} (h_palm : ps .palm) {v0 : State} {v1 : ℕ} {v2 : Sched} (h0 : Touches ps s0 v0) :
    Touches ps s0 (State.putSched v0 v1 v2) := by
  unfold State.putSched
  lift_lets
  intro x0
  clear_value x0
  refine (Touches.upd_palm h_palm ?_)
  assumption

theorem chargePools_touches {ps : Piece → Prop} {s0 : State} (h_regs : ps .regs) {v0 : List Draw} {v1 : State} (h0 : Touches ps s0 v1) :
    Touches ps s0 (chargePools v0 v1) := by
  unfold chargePools
  refine Touches.foldl (fun _ _ _ => ?_) ?_
  · refine Touches.ite ?_ ?_
    · assumption
    · refine State.wr_touches h_regs ?_
      assumption
  · assumption

theorem showPg_touches {ps : Piece → Prop} {s0 : State} (h_regs : ps .regs) {v0 : ℕ} {v1 : ℕ} {v2 : ℕ} {v3 : State} (h0 : Touches ps s0 v3) :
    Touches ps s0 (showPg v0 v1 v2 v3) := by
  unfold showPg
  lift_lets
  intro x0
  clear_value x0
  intro x1
  clear_value x1
  intro x2
  clear_value x2
  intro x3
  clear_value x3
  intro x4
  clear_value x4
  refine State.wr_touches h_regs ?_
  refine State.wr_touches h_regs ?_
  refine State.wr_touches h_regs ?_
  refine State.wr_touches h_regs ?_
  refine State.wr_touches h_regs ?_
  refine State.wr_touches h_regs ?_
  refine State.wr_touches h_regs ?_
  refine State.wr_touches h_regs ?_
  refine State.wr_touches h_regs ?_
  assumption

theorem writePgCfg_touches {ps : Piece → Prop} {s0 : State} (h_regs : ps .regs) (h_out : ps .out) (h_latches : ps .latches) (h_palm : ps .palm) (h_vsr : ps .vsr) {v0 : ℕ} {v1 : ℕ} {v2 : ℕ} {v3 : State} (h0 : Touches ps s0 v3) :
    Touches ps s0 (writePgCfg v0 v1 v2 v3) := by
  unfold writePgCfg
  lift_lets
  intro x0
  clear_value x0
  intro x1
  clear_value x1
  intro x2
  clear_value x2
  intro x3
  clear_value x3
  intro x4
  clear_value x4
  intro x5
  have hx6 : Touches ps s0 x5 := by
    unfold x5
    refine State.wr_touches h_regs ?_
    refine State.wr_touches h_regs ?_
    refine State.wr_touches h_regs ?_
    assumption
  clear_value x5
  refine Touches.ite ?_ ?_
  · refine checkXon_touches h_regs h_out h_palm h_vsr ?_
    refine State.putPg_touches h_palm ?_
    assumption
  · refine State.set1_touches h_regs h_latches ?_
    assumption

theorem showQueue_touches {ps : Piece → Prop} {s0 : State} (h_regs : ps .regs) {v0 : ℕ} {v1 : ℕ} {v2 : ℕ} {v3 : State} (h0 : Touches ps s0 v3) :
    Touches ps s0 (showQueue v0 v1 v2 v3) := by
  unfold showQueue
  lift_lets
  intro x0
  clear_value x0
  intro x1
  clear_value x1
  intro x2
  clear_value x2
  intro x3
  clear_value x3
  intro x4
  clear_value x4
  refine State.wr_touches h_regs ?_
  refine State.wr_touches h_regs ?_
  refine State.wr_touches h_regs ?_
  refine State.wr_touches h_regs ?_
  refine State.wr_touches h_regs ?_
  refine State.wr_touches h_regs ?_
  refine State.wr_touches h_regs ?_
  refine State.wr_touches h_regs ?_
  refine State.wr_touches h_regs ?_
  refine State.wr_touches h_regs ?_
  refine State.wr_touches h_regs ?_
  refine State.wr_touches h_regs ?_
  assumption

theorem writeQcfg_touches {ps : Piece → Prop} {s0 : State} (h_regs : ps .regs) (h_out : ps .out) (h_host : ps .host) (h_latches : ps .latches) (h_palm : ps .palm) (h_mtn : ps .mtn) {v0 : ℕ} {v1 : ℕ} {v2 : State} (h0 : Touches ps s0 v2) :
    Touches ps s0 (writeQcfg v0 v1 v2) := by
  unfold writeQcfg
  lift_lets
  intro x0
  clear_value x0
  intro x1
  clear_value x1
  intro x2
  clear_value x2
  intro x3
  clear_value x3
  intro x4
  clear_value x4
  intro x5
  clear_value x5
  intro x6
  clear_value x6
  intro x7
  have hx8 : Touches ps s0 x7 := by
    unfold x7
    refine State.putQueue_touches h_palm ?_
    refine State.wr_touches h_regs ?_
    refine State.wr_touches h_regs ?_
    refine State.wr_touches h_regs ?_
    refine State.wr_touches h_regs ?_
    refine State.wr_touches h_regs ?_
    assumption
  clear_value x7
  refine Touches.ite ?_ ?_
  · refine Touches.ite ?_ ?_
    · refine State.raise_touches h_regs h_out h_host h_latches ?_
      refine State.set1_touches h_regs h_latches ?_
      assumption
    · refine recomputeGroups_touches h_regs h_out h_host h_mtn ?_
      refine State.wr_touches h_regs ?_
      assumption
  · refine State.set1_touches h_regs h_latches ?_
    assumption

theorem writeFwdCfg_touches {ps : Piece → Prop} {s0 : State} (h_regs : ps .regs) (h_latches : ps .latches) (h_palm : ps .palm) {v0 : ℕ} {v1 : ℕ} {v2 : State} (h0 : Touches ps s0 v2) :
    Touches ps s0 (writeFwdCfg v0 v1 v2) := by
  unfold writeFwdCfg
  lift_lets
  intro x0
  clear_value x0
  intro x1
  clear_value x1
  intro x2
  clear_value x2
  refine Touches.ite ?_ ?_
  · refine State.wr_touches h_regs ?_
    refine State.putSched_touches h_palm ?_
    assumption
  · refine State.set1_touches h_regs h_latches ?_
    assumption

theorem execMcgCommit_touches {ps : Piece → Prop} {s0 : State} (h_regs : ps .regs) (h_latches : ps .latches) (h_palm : ps .palm) (h_mtn : ps .mtn) {v0 : State} (h0 : Touches ps s0 v0) :
    Moves ps s0 (execMcgCommit v0) := by
  unfold execMcgCommit
  refine Moves.next ?_
  refine State.written_touches h_regs h_latches h_mtn ?_ ?_
  · assumption
  · intro y0
    intro k1
    refine commitMcg_touches h_palm ?_
    assumption

theorem addLive_touches {ps : Piece → Prop} {s0 : State} (h_regs : ps .regs) (h_latches : ps .latches) {v0 : ℕ} {v1 : State} (h0 : Touches ps s0 v1) :
    Touches ps s0 (addLive v0 v1) := by
  unfold addLive
  refine State.bump_touches h_regs h_latches ?_
  refine State.wri_touches h_regs ?_
  assumption

theorem execSpareCopyComplete_touches {ps : Piece → Prop} {s0 : State} (h_regs : ps .regs) (h_out : ps .out) (h_ddr : ps .ddr) (h_poison : ps .poison) (h_host : ps .host) (h_latches : ps .latches) (h_palm : ps .palm) (h_ldg : ps .ldg) (h_vsr : ps .vsr) (h_mtn : ps .mtn) {v0 : List ℕ} {v1 : State} (h0 : Touches ps s0 v1) :
    Moves ps s0 (execSpareCopyComplete v0 v1) := by
  unfold execSpareCopyComplete
  refine Moves.next ?_
  refine State.given_touches ?_ ?_
  · assumption
  · intro y0
    intro k1
    lift_lets
    intro x2
    clear_value x2
    refine remapBank_touches h_regs h_out h_host h_latches h_mtn ?_
    refine Touches.foldl (fun _ _ _ => ?_) ?_
    · refine cellLost_touches h_regs h_out h_ddr h_poison h_host h_latches h_palm h_ldg h_vsr ?_
      refine State.raise_touches h_regs h_out h_host h_latches ?_
      assumption
    · assumption

theorem execQSelWrite_touches {ps : Piece → Prop} {s0 : State} (h_regs : ps .regs) (h_latches : ps .latches) (h_mtn : ps .mtn) {v0 : Fin 32} {v1 : Fin 1024} {v2 : Fin 16} {v3 : State} (h0 : Touches ps s0 v3) :
    Moves ps s0 (execQSelWrite v0 v1 v2 v3) := by
  unfold execQSelWrite
  refine Moves.next ?_
  refine State.written_touches h_regs h_latches h_mtn ?_ ?_
  · assumption
  · intro y0
    intro k1
    refine showQueue_touches h_regs ?_
    assumption

theorem loseFull_touches {ps : Piece → Prop} {s0 : State} (h_regs : ps .regs) (h_out : ps .out) (h_host : ps .host) (h_latches : ps .latches) {v0 : ℕ} {v1 : ℕ} {v2 : State} (h0 : Touches ps s0 v2) :
    Touches ps s0 (loseFull v0 v1 v2) := by
  unfold loseFull
  refine Touches.foldl (fun _ _ _ => ?_) ?_
  · refine State.vector_touches h_out h_host ?_
    refine State.bump_touches h_regs h_latches ?_
    assumption
  · assumption

theorem takeCells_touches {ps : Piece → Prop} {s0 : State} (h_regs : ps .regs) (h_latches : ps .latches) {v0 : List ℕ} {v1 : State} (h0 : Touches ps s0 v1) :
    ∀ t, takeCells v0 v1 = some t → Touches ps s0 t := by
  induction v0 generalizing v1 with
  | nil =>
    intro t ht
    cases ht
    exact h0
  | cons b r ih =>
    intro t ht
    unfold takeCells at ht
    split at ht
    · exact ih (by apply addLive_touches <;> assumption) t ht
    · cases ht

theorem bankSecond_touches {ps : Piece → Prop} {s0 : State} (h_regs : ps .regs) (h_out : ps .out) (h_host : ps .host) (h_latches : ps .latches) (h_palm : ps .palm) (h_mtn : ps .mtn) {v0 : ℕ} {v1 : State} (h0 : Touches ps s0 v1) :
    Touches ps s0 (bankSecond v0 v1) := by
  unfold bankSecond
  lift_lets
  intro x0
  clear_value x0
  intro x1
  clear_value x1
  intro x2
  have hx3 : Touches ps s0 x2 := by
    unfold x2
    refine (Touches.upd_palm h_palm ?_)
    assumption
  clear_value x2
  refine Touches.ite ?_ ?_
  · refine Touches.ite ?_ ?_
    · assumption
    · refine triggerBank_touches h_regs h_out h_host h_latches h_palm h_mtn ?_
      assumption
  · refine Touches.ite ?_ ?_
    · refine setBankState_touches h_regs h_out h_host ?_
      assumption
    · refine Touches.ite ?_ ?_
      · refine setBankState_touches h_regs h_out h_host ?_
        assumption
      · assumption

theorem flushRing_touches {ps : Piece → Prop} {s0 : State} (h_regs : ps .regs) (h_out : ps .out) (h_ddr : ps .ddr) (h_poison : ps .poison) (h_host : ps .host) (h_latches : ps .latches) (h_palm : ps .palm) {v0 : ℕ} {v1 : State} (h0 : Touches ps s0 v1) :
    Touches ps s0 (flushRing v0 v1) := by
  unfold flushRing
  lift_lets
  intro x0
  clear_value x0
  intro x1
  clear_value x1
  intro x2
  clear_value x2
  intro x3
  clear_value x3
  intro x4
  clear_value x4
  intro x5
  clear_value x5
  intro x6
  clear_value x6
  split
  · dsimp only
    split
    · assumption
    · refine State.vector_touches h_out h_host ?_
      refine State.raise_touches h_regs h_out h_host h_latches ?_
      refine State.bump_touches h_regs h_latches ?_
      refine State.putHring_touches h_palm ?_
      assumption
  · split
    · dsimp only
      split
      · assumption
      · refine Touches.ite ?_ ?_
        · refine State.wr_touches h_regs ?_
          refine State.ringWrite_touches h_ddr h_poison ?_
          refine State.putHring_touches h_palm ?_
          assumption
        · refine loseFull_touches h_regs h_out h_host h_latches ?_
          refine State.wr_touches h_regs ?_
          refine State.wr_touches h_regs ?_
          refine State.ringWrite_touches h_ddr h_poison ?_
          refine State.putHring_touches h_palm ?_
          assumption
    · dsimp only
      split
      · assumption
      · refine Touches.ite ?_ ?_
        · refine State.wr_touches h_regs ?_
          refine State.ringWrite_touches h_ddr h_poison ?_
          refine State.putHring_touches h_palm ?_
          assumption
        · refine State.vector_touches h_out h_host ?_
          refine State.bump_touches h_regs h_latches ?_
          refine State.putHring_touches h_palm ?_
          assumption

theorem execHeaderRingFlush_touches {ps : Piece → Prop} {s0 : State} (h_regs : ps .regs) (h_out : ps .out) (h_ddr : ps .ddr) (h_poison : ps .poison) (h_host : ps .host) (h_latches : ps .latches) (h_palm : ps .palm) {v0 : Fin 16} {v1 : State} (h0 : Touches ps s0 v1) :
    Moves ps s0 (execHeaderRingFlush v0 v1) := by
  unfold execHeaderRingFlush
  refine Moves.next ?_
  refine State.running_touches ?_ ?_
  · assumption
  · intro y0
    intro k1
    refine flushRing_touches h_regs h_out h_ddr h_poison h_host h_latches h_palm ?_
    assumption

theorem execSpareCmd_touches {ps : Piece → Prop} {s0 : State} (h_regs : ps .regs) (h_out : ps .out) (h_host : ps .host) (h_latches : ps .latches) (h_palm : ps .palm) (h_mtn : ps .mtn) {v0 : Fin 2048} {v1 : Bool} {v2 : State} (h0 : Touches ps s0 v2) :
    Moves ps s0 (execSpareCmd v0 v1 v2) := by
  unfold execSpareCmd
  refine Moves.next ?_
  refine State.written_touches h_regs h_latches h_mtn ?_ ?_
  · assumption
  · intro y0
    intro k1
    refine State.given_touches ?_ ?_
    · assumption
    · intro y2
      intro k3
      refine spareCmd_touches h_regs h_out h_host h_latches h_palm h_mtn ?_
      assumption

theorem correctedCell_touches {ps : Piece → Prop} {s0 : State} (h_regs : ps .regs) (h_out : ps .out) (h_host : ps .host) (h_latches : ps .latches) (h_palm : ps .palm) {v0 : ℕ} {v1 : State} (h0 : Touches ps s0 v1) :
    Touches ps s0 (correctedCell v0 v1) := by
  unfold correctedCell
  lift_lets
  intro x0
  have hx1 : Touches ps s0 x0 := by
    unfold x0
    refine State.raise_touches h_regs h_out h_host h_latches ?_
    refine State.bumpi_touches h_regs h_latches ?_
    assumption
  clear_value x0
  intro x2
  clear_value x2
  refine (Touches.upd_palm h_palm ?_)
  assumption

theorem execMcgSelWrite_touches {ps : Piece → Prop} {s0 : State} (h_regs : ps .regs) (h_latches : ps .latches) (h_mtn : ps .mtn) {v0 : Fin 1024} {v1 : State} (h0 : Touches ps s0 v1) :
    Moves ps s0 (execMcgSelWrite v0 v1) := by
  unfold execMcgSelWrite
  refine Moves.next ?_
  refine State.written_touches h_regs h_latches h_mtn ?_ ?_
  · assumption
  · intro y0
    intro k1
    refine showMcg_touches h_regs ?_
    assumption

theorem execPoolCfgWrite_touches {ps : Piece → Prop} {s0 : State} (h_regs : ps .regs) (h_out : ps .out) (h_host : ps .host) (h_latches : ps .latches) (h_palm : ps .palm) (h_mtn : ps .mtn) {v0 : Fin 35} {v1 : Word} {v2 : Bool} {v3 : Bool} {v4 : State} (h0 : Touches ps s0 v4) :
    Moves ps s0 (execPoolCfgWrite v0 v1 v2 v3 v4) := by
  unfold execPoolCfgWrite
  refine Moves.next ?_
  refine State.written_touches h_regs h_latches h_mtn ?_ ?_
  · assumption
  · intro y0
    intro k1
    refine Touches.ite ?_ ?_
    · refine writePools_touches h_regs h_out h_host h_latches h_palm h_mtn ?_
      assumption
    · refine writeQcfg_touches h_regs h_out h_host h_latches h_palm h_mtn ?_
      assumption

theorem execPgSelWrite_touches {ps : Piece → Prop} {s0 : State} (h_regs : ps .regs) (h_latches : ps .latches) (h_mtn : ps .mtn) {v0 : Fin 32} {v1 : Fin 1024} {v2 : Fin 8} {v3 : State} (h0 : Touches ps s0 v3) :
    Moves ps s0 (execPgSelWrite v0 v1 v2 v3) := by
  unfold execPgSelWrite
  refine Moves.next ?_
  refine State.written_touches h_regs h_latches h_mtn ?_ ?_
  · assumption
  · intro y0
    intro k1
    refine showPg_touches h_regs ?_
    assumption

theorem uncorrectedCell_touches {ps : Piece → Prop} {s0 : State} (h_regs : ps .regs) (h_out : ps .out) (h_ddr : ps .ddr) (h_poison : ps .poison) (h_host : ps .host) (h_latches : ps .latches) (h_palm : ps .palm) (h_ldg : ps .ldg) (h_vsr : ps .vsr) (h_mtn : ps .mtn) {v0 : ℕ} {v1 : Option ℕ} {v2 : State} (h0 : Touches ps s0 v2) :
    Touches ps s0 (uncorrectedCell v0 v1 v2) := by
  unfold uncorrectedCell
  lift_lets
  intro x0
  have hx1 : Touches ps s0 x0 := by
    unfold x0
    refine State.raise_touches h_regs h_out h_host h_latches ?_
    assumption
  clear_value x0
  intro x2
  have hx3 : Touches ps s0 x2 := by
    unfold x2
    split
    · refine cellLost_touches h_regs h_out h_ddr h_poison h_host h_latches h_palm h_ldg h_vsr ?_
      assumption
    · assumption
  clear_value x2
  refine Touches.ite ?_ ?_
  · refine State.bumpi_touches h_regs h_latches ?_
    assumption
  · refine triggerBank_touches h_regs h_out h_host h_latches h_palm h_mtn ?_
    assumption

theorem execCellEccError_touches {ps : Piece → Prop} {s0 : State} (h_regs : ps .regs) (h_out : ps .out) (h_ddr : ps .ddr) (h_poison : ps .poison) (h_host : ps .host) (h_latches : ps .latches) (h_palm : ps .palm) (h_ldg : ps .ldg) (h_vsr : ps .vsr) (h_mtn : ps .mtn) {v0 : Fin 1152} {v1 : Bool} {v2 : Option ℕ} {v3 : State} (h0 : Touches ps s0 v3) :
    Moves ps s0 (execCellEccError v0 v1 v2 v3) := by
  unfold execCellEccError
  refine Moves.next ?_
  refine State.running_touches ?_ ?_
  · assumption
  · intro y0
    intro k1
    refine Touches.ite ?_ ?_
    · refine correctedCell_touches h_regs h_out h_host h_latches h_palm ?_
      assumption
    · refine uncorrectedCell_touches h_regs h_out h_ddr h_poison h_host h_latches h_palm h_ldg h_vsr h_mtn ?_
      assumption

theorem execBankTaiSecond_touches {ps : Piece → Prop} {s0 : State} (h_regs : ps .regs) (h_out : ps .out) (h_host : ps .host) (h_latches : ps .latches) (h_ticks : ps .ticks) (h_palm : ps .palm) (h_mtn : ps .mtn) {v0 : Fin 1152} {v1 : State} (h0 : Touches ps s0 v1) :
    Moves ps s0 (execBankTaiSecond v0 v1) := by
  unfold execBankTaiSecond
  refine Moves.next ?_
  refine State.running_touches ?_ ?_
  · assumption
  · intro y0
    intro k1
    refine State.periodic_touches h_ticks ?_ ?_
    · assumption
    · intro y2
      intro k3
      refine bankSecond_touches h_regs h_out h_host h_latches h_palm h_mtn ?_
      assumption

end Sys2Proof.Machine
end

