-- ==== Sys2Proof/Laws/TouchTables.lean ====
section
/-! SUPPORT. What the operations of Machine/Tables.lean may touch: one lemma for each. -/

set_option maxRecDepth 10000

namespace Sys2Proof.Machine

theorem toShadow_touches {ps : Piece → Prop} {s0 : State} (h_tbl : ps .tbl) {v0 : ℕ} {v1 : ℕ} {v2 : State} (h0 : Touches ps s0 v2) :
    Touches ps s0 (toShadow v0 v1 v2) := by
  unfold toShadow
  refine Touches.ite ?_ ?_
  · assumption
  · lift_lets
    intro x0
    clear_value x0
    refine (Touches.upd_tbl h_tbl ?_)
    assumption

theorem moved_touches {ps : Piece → Prop} {s0 : State} (h_tbl : ps .tbl) {v0 : ℕ} {v1 : ℕ} {v2 : ℕ} {v3 : Option ℕ} {v4 : State} (h0 : Touches ps s0 v4) :
    Touches ps s0 (moved v0 v1 v2 v3 v4) := by
  unfold moved
  lift_lets
  intro x0
  clear_value x0
  intro x1
  clear_value x1
  intro x2
  clear_value x2
  refine toShadow_touches h_tbl ?_
  refine toShadow_touches h_tbl ?_
  refine (Touches.upd_tbl h_tbl ?_)
  assumption

theorem refreshEmt_touches {ps : Piece → Prop} {s0 : State} (h_regs : ps .regs) (h_out : ps .out) (h_host : ps .host) (h_latches : ps .latches) {v0 : State} (h0 : Touches ps s0 v0) :
    Touches ps s0 (refreshEmt v0) := by
  unfold refreshEmt
  lift_lets
  intro x0
  clear_value x0
  intro x1
  clear_value x1
  intro x2
  have hx3 : Touches ps s0 x2 := by
    unfold x2
    refine State.wr_touches h_regs ?_
    refine State.wr_touches h_regs ?_
    assumption
  clear_value x2
  refine Touches.ite ?_ ?_
  · refine State.vector_touches h_out h_host ?_
    refine State.raise_touches h_regs h_out h_host h_latches ?_
    assumption
  · assumption

theorem State.putEmt_touches {ps : Piece → Prop} {s0 : State} (h_regs : ps .regs) (h_out : ps .out) (h_host : ps .host) (h_latches : ps .latches) (h_tbl : ps .tbl) {v0 : State} {v1 : ℕ} {v2 : Place EmtEntry} (h0 : Touches ps s0 v0) :
    Touches ps s0 (State.putEmt v0 v1 v2) := by
  unfold State.putEmt
  lift_lets
  intro x0
  clear_value x0
  refine refreshEmt_touches h_regs h_out h_host h_latches ?_
  refine (Touches.upd_tbl h_tbl ?_)
  assumption

theorem moveEmt_touches {ps : Piece → Prop} {s0 : State} (h_regs : ps .regs) (h_out : ps .out) (h_host : ps .host) (h_latches : ps .latches) (h_tbl : ps .tbl) {v0 : ℕ} {v1 : ℕ} {v2 : State} (h0 : Touches ps s0 v2) :
    Touches ps s0 (moveEmt v0 v1 v2) := by
  unfold moveEmt
  refine moved_touches h_tbl ?_
  refine State.putEmt_touches h_regs h_out h_host h_latches h_tbl ?_
  refine State.putEmt_touches h_regs h_out h_host h_latches h_tbl ?_
  assumption

theorem movePath_touches {ps : Piece → Prop} {s0 : State} (h_regs : ps .regs) (h_out : ps .out) (h_host : ps .host) (h_latches : ps .latches) (h_tbl : ps .tbl) {v0 : List ℕ} {v1 : State} (h0 : Touches ps s0 v1) :
    Touches ps s0 (movePath v0 v1) := by
  induction v0 with
  | nil => exact h0
  | cons i r ih =>
    cases r with
    | nil => exact h0
    | cons j r => apply moveEmt_touches <;> assumption

theorem State.emtRoom.stash_touches {ps : Piece → Prop} {s0 : State} {v0 : State} (h0 : Touches ps s0 v0) :
    ∀ t, State.emtRoom.stash v0 = some t → Touches ps s0 t.2 := by
  intro t ht
  unfold State.emtRoom.stash at ht
  split at ht <;> cases ht
  exact h0

theorem State.emtRoom_touches {ps : Piece → Prop} {s0 : State} (h_regs : ps .regs) (h_out : ps .out) (h_host : ps .host) (h_latches : ps .latches) (h_tbl : ps .tbl) {v0 : State} {v1 : ℕ} {v2 : List ℕ} (h0 : Touches ps s0 v0) :
    ∀ t, v0.emtRoom v1 v2 = some t → Touches ps s0 t.2 := by
  intro t ht
  unfold State.emtRoom at ht
  dsimp only at ht
  split at ht
  · cases ht
    exact h0
  · split at ht
    · split at ht
      · cases ht
        apply movePath_touches <;> assumption
      · exact State.emtRoom.stash_touches h0 t ht
    · exact State.emtRoom.stash_touches h0 t ht

theorem State.putLpa_touches {ps : Piece → Prop} {s0 : State} (h_regs : ps .regs) (h_tbl : ps .tbl) {v0 : State} {v1 : ℕ} {v2 : Place LpaEntry} (h0 : Touches ps s0 v0) :
    Touches ps s0 (State.putLpa v0 v1 v2) := by
  unfold State.putLpa
  lift_lets
  intro x0
  clear_value x0
  intro x1
  have hx2 : Touches ps s0 x1 := by
    unfold x1
    refine (Touches.upd_tbl h_tbl ?_)
    assumption
  clear_value x1
  refine State.wr_touches h_regs ?_
  assumption

theorem lpaMove_touches {ps : Piece → Prop} {s0 : State} (h_regs : ps .regs) (h_latches : ps .latches) (h_tbl : ps .tbl) {v0 : ℕ} {v1 : ℕ} {v2 : State} (h0 : Touches ps s0 v2) :
    Touches ps s0 (lpaMove v0 v1 v2) := by
  unfold lpaMove
  refine State.bump_touches h_regs h_latches ?_
  refine State.putLpa_touches h_regs h_tbl ?_
  refine State.putLpa_touches h_regs h_tbl ?_
  assumption

theorem shiftDown_touches {ps : Piece → Prop} {s0 : State} (h_regs : ps .regs) (h_latches : ps .latches) (h_tbl : ps .tbl) {v0 : ℕ} {v1 : ℕ} {v2 : ℕ} {v3 : State} (h0 : Touches ps s0 v3) :
    Touches ps s0 (shiftDown v0 v1 v2 v3) := by
  induction v0 generalizing v1 v3 with
  | zero => exact h0
  | succ n ih =>
    unfold shiftDown
    refine Touches.ite h0 ?_
    dsimp only
    split
    · exact Touches.ite (ih (by apply lpaMove_touches <;> assumption)) h0
    · exact h0

theorem shiftUp_touches {ps : Piece → Prop} {s0 : State} (h_regs : ps .regs) (h_latches : ps .latches) (h_tbl : ps .tbl) {v0 : ℕ} {v1 : ℕ} {v2 : ℕ} {v3 : State} (h0 : Touches ps s0 v3) :
    Touches ps s0 (shiftUp v0 v1 v2 v3) := by
  induction v0 generalizing v1 v3 with
  | zero => exact h0
  | succ n ih =>
    unfold shiftUp
    refine Touches.ite h0 ?_
    dsimp only
    split
    · exact Touches.ite (ih (by apply lpaMove_touches <;> assumption)) h0
    · exact h0

theorem State.lpaRoom_touches {ps : Piece → Prop} {s0 : State} (h_regs : ps .regs) (h_latches : ps .latches) (h_tbl : ps .tbl) {v0 : State} {v1 : ℕ} {v2 : ℕ} (h0 : Touches ps s0 v0) :
    ∀ t, v0.lpaRoom v1 v2 = some t → Touches ps s0 t.2 := by
  intro t ht
  unfold State.lpaRoom at ht
  dsimp only at ht
  have hd : ∀ a b c, Touches ps s0 (shiftDown a b c v0) := fun _ _ _ => by apply shiftDown_touches <;> assumption
  have hu : ∀ a b c, Touches ps s0 (shiftUp a b c v0) := fun _ _ _ => by apply shiftUp_touches <;> assumption
  repeat' split at ht
  all_goals first
    | (cases ht; done)
    | (cases ht; exact h0)
    | (cases ht; exact hd _ _ _)
    | (cases ht; exact hu _ _ _)

theorem State.putCla_touches {ps : Piece → Prop} {s0 : State} (h_tbl : ps .tbl) {v0 : State} {v1 : ℕ} {v2 : Place ClaEntry} (h0 : Touches ps s0 v0) :
    Touches ps s0 (State.putCla v0 v1 v2) := by
  unfold State.putCla
  lift_lets
  intro x0
  clear_value x0
  refine (Touches.upd_tbl h_tbl ?_)
  assumption

theorem stepGen_touches {ps : Piece → Prop} {s0 : State} (h_regs : ps .regs) {v0 : State} (h0 : Touches ps s0 v0) :
    Touches ps s0 (stepGen v0) := by
  unfold stepGen
  refine State.wr_touches h_regs ?_
  assumption

theorem putHolds_touches {ps : Piece → Prop} {s0 : State} (h_regs : ps .regs) (h_tbl : ps .tbl) {v0 : List (ℕ × ℕ)} {v1 : State} (h0 : Touches ps s0 v1) :
    Touches ps s0 (putHolds v0 v1) := by
  unfold putHolds
  lift_lets
  intro x0
  clear_value x0
  refine State.wr_touches h_regs ?_
  refine (Touches.upd_tbl h_tbl ?_)
  assumption

theorem dropHold_touches {ps : Piece → Prop} {s0 : State} (h_regs : ps .regs) (h_tbl : ps .tbl) {v0 : ℕ} {v1 : State} (h0 : Touches ps s0 v1) :
    Touches ps s0 (dropHold v0 v1) := by
  unfold dropHold
  refine Touches.ite ?_ ?_
  · refine putHolds_touches h_regs h_tbl ?_
    assumption
  · assumption

theorem showCla_touches {ps : Piece → Prop} {s0 : State} (h_regs : ps .regs) {v0 : State} (h0 : Touches ps s0 v0) :
    Touches ps s0 (showCla v0) := by
  unfold showCla
  lift_lets
  intro x0
  clear_value x0
  refine State.wr_touches h_regs ?_
  assumption

theorem notify_touches {ps : Piece → Prop} {s0 : State} (h_regs : ps .regs) (h_out : ps .out) (h_host : ps .host) (h_latches : ps .latches) {v0 : ℕ} {v1 : ℕ} {v2 : ℕ} {v3 : ℕ} {v4 : ℕ} {v5 : ℕ} {v6 : State} (h0 : Touches ps s0 v6) :
    Touches ps s0 (notify v0 v1 v2 v3 v4 v5 v6) := by
  unfold notify
  refine Touches.ite ?_ ?_
  · assumption
  · lift_lets
    intro x0
    clear_value x0
    intro x1
    clear_value x1
    intro x2
    clear_value x2
    refine Touches.ite ?_ ?_
    · refine State.raise_touches h_regs h_out h_host h_latches ?_
      refine State.vector_touches h_out h_host ?_
      refine State.raise_touches h_regs h_out h_host h_latches ?_
      refine State.bump_touches h_regs h_latches ?_
      assumption
    · refine Touches.ite ?_ ?_
      · refine State.vector_touches h_out h_host ?_
        refine State.raise_touches h_regs h_out h_host h_latches ?_
        refine State.bump_touches h_regs h_latches ?_
        assumption
      · refine State.vector_touches h_out h_host ?_
        refine State.wr_touches h_regs ?_
        refine State.send_touches h_out ?_
        assumption

theorem learnDropped_touches {ps : Piece → Prop} {s0 : State} (h_regs : ps .regs) (h_out : ps .out) (h_host : ps .host) (h_latches : ps .latches) {v0 : LearnEv} {v1 : State} (h0 : Touches ps s0 v1) :
    Touches ps s0 (learnDropped v0 v1) := by
  unfold learnDropped
  refine notify_touches h_regs h_out h_host h_latches ?_
  refine State.vector_touches h_out h_host ?_
  refine State.raise_touches h_regs h_out h_host h_latches ?_
  refine State.bump_touches h_regs h_latches ?_
  assumption

theorem learnEvent_touches {ps : Piece → Prop} {s0 : State} (h_regs : ps .regs) (h_out : ps .out) (h_host : ps .host) (h_latches : ps .latches) (h_tbl : ps .tbl) {v0 : LearnEv} {v1 : State} (h0 : Touches ps s0 v1) :
    Touches ps s0 (learnEvent v0 v1) := by
  unfold learnEvent
  lift_lets
  intro x0
  clear_value x0
  intro x1
  clear_value x1
  intro x2
  clear_value x2
  intro x3
  have hx4 : Touches ps s0 x3 := by
    unfold x3
    refine (Touches.upd_tbl h_tbl ?_)
    assumption
  clear_value x3
  refine Touches.ite ?_ ?_
  · refine learnDropped_touches h_regs h_out h_host h_latches ?_
    assumption
  · refine Touches.ite ?_ ?_
    · refine State.bump_touches h_regs h_latches ?_
      assumption
    · assumption

theorem removeEmt_touches {ps : Piece → Prop} {s0 : State} (h_regs : ps .regs) (h_out : ps .out) (h_host : ps .host) (h_latches : ps .latches) (h_tbl : ps .tbl) {v0 : ℕ} {v1 : State} (h0 : Touches ps s0 v1) :
    Touches ps s0 (removeEmt v0 v1) := by
  unfold removeEmt
  lift_lets
  intro x0
  clear_value x0
  refine toShadow_touches h_tbl ?_
  refine dropHold_touches h_regs h_tbl ?_
  refine State.putEmt_touches h_regs h_out h_host h_latches h_tbl ?_
  assumption

theorem addHold_touches {ps : Piece → Prop} {s0 : State} (h_regs : ps .regs) (h_tbl : ps .tbl) {v0 : ℕ} {v1 : ℕ} {v2 : State} (h0 : Touches ps s0 v2) :
    Touches ps s0 (addHold v0 v1 v2) := by
  unfold addHold
  lift_lets
  intro x0
  clear_value x0
  refine putHolds_touches h_regs h_tbl ?_
  assumption

theorem applyLearn_touches {ps : Piece → Prop} {s0 : State} (h_regs : ps .regs) (h_out : ps .out) (h_host : ps .host) (h_latches : ps .latches) (h_tbl : ps .tbl) (h_vsr : ps .vsr) {v0 : LearnEv} {v1 : List ℕ} {v2 : State} (h0 : Touches ps s0 v2) :
    Touches ps s0 (applyLearn v0 v1 v2) := by
  unfold applyLearn
  lift_lets
  intro x0
  clear_value x0
  intro x1
  clear_value x1
  intro x2
  clear_value x2
  intro x3
  clear_value x3
  intro x4
  clear_value x4
  split
  · dsimp only
    split
    · refine learnDropped_touches h_regs h_out h_host h_latches ?_
      assumption
    · refine Touches.ite ?_ ?_
      · refine learnDropped_touches h_regs h_out h_host h_latches ?_
        assumption
      · refine Touches.ite ?_ ?_
        · assumption
        · refine Touches.ite ?_ ?_
          · refine notify_touches h_regs h_out h_host h_latches ?_
            refine State.raise_touches h_regs h_out h_host h_latches ?_
            refine State.count_touches h_regs h_vsr ?_
            refine State.bump_touches h_regs h_latches ?_
            assumption
          · refine notify_touches h_regs h_out h_host h_latches ?_
            refine addHold_touches h_regs h_tbl ?_
            refine State.count_touches h_regs h_vsr ?_
            refine State.bump_touches h_regs h_latches ?_
            refine toShadow_touches h_tbl ?_
            refine State.putEmt_touches h_regs h_out h_host h_latches h_tbl ?_
            assumption
  · split
    · dsimp only
      split
      · refine learnDropped_touches h_regs h_out h_host h_latches ?_
        assumption
      · refine Touches.ite ?_ ?_
        · refine learnDropped_touches h_regs h_out h_host h_latches ?_
          assumption
        · refine Touches.ite ?_ ?_
          · assumption
          · refine Touches.ite ?_ ?_
            · refine notify_touches h_regs h_out h_host h_latches ?_
              refine State.raise_touches h_regs h_out h_host h_latches ?_
              refine State.count_touches h_regs h_vsr ?_
              refine State.bump_touches h_regs h_latches ?_
              assumption
            · refine notify_touches h_regs h_out h_host h_latches ?_
              refine addHold_touches h_regs h_tbl ?_
              refine State.count_touches h_regs h_vsr ?_
              refine State.bump_touches h_regs h_latches ?_
              refine toShadow_touches h_tbl ?_
              refine State.putEmt_touches h_regs h_out h_host h_latches h_tbl ?_
              assumption
    · dsimp only
      split
      · refine notify_touches h_regs h_out h_host h_latches ?_
        refine addHold_touches h_regs h_tbl ?_
        refine State.count_touches h_regs h_vsr ?_
        refine State.bump_touches h_regs h_latches ?_
        refine toShadow_touches h_tbl ?_
        refine State.putEmt_touches h_regs h_out h_host h_latches h_tbl ?_
        refine Touches.of_some_snd (by assumption) ?_
        refine State.emtRoom_touches h_regs h_out h_host h_latches h_tbl ?_
        assumption
      · refine Touches.ite ?_ ?_
        · refine learnDropped_touches h_regs h_out h_host h_latches ?_
          assumption
        · refine Touches.ite ?_ ?_
          · assumption
          · refine Touches.ite ?_ ?_
            · refine notify_touches h_regs h_out h_host h_latches ?_
              refine State.raise_touches h_regs h_out h_host h_latches ?_
              refine State.count_touches h_regs h_vsr ?_
              refine State.bump_touches h_regs h_latches ?_
              assumption
            · refine notify_touches h_regs h_out h_host h_latches ?_
              refine addHold_touches h_regs h_tbl ?_
              refine State.count_touches h_regs h_vsr ?_
              refine State.bump_touches h_regs h_latches ?_
              refine toShadow_touches h_tbl ?_
              refine State.putEmt_touches h_regs h_out h_host h_latches h_tbl ?_
              assumption

theorem learnNext_touches {ps : Piece → Prop} {s0 : State} (h_regs : ps .regs) (h_out : ps .out) (h_host : ps .host) (h_latches : ps .latches) (h_tbl : ps .tbl) (h_vsr : ps .vsr) {v0 : List ℕ} {v1 : State} (h0 : Touches ps s0 v1) :
    Touches ps s0 (learnNext v0 v1) := by
  unfold learnNext
  split
  · assumption
  · refine State.given_touches ?_ ?_
    · assumption
    · intro y0
      intro k1
      lift_lets
      intro x2
      clear_value x2
      refine applyLearn_touches h_regs h_out h_host h_latches h_tbl h_vsr ?_
      refine (Touches.upd_tbl h_tbl ?_)
      assumption

theorem stashBack_touches {ps : Piece → Prop} {s0 : State} (h_regs : ps .regs) (h_out : ps .out) (h_host : ps .host) (h_latches : ps .latches) (h_tbl : ps .tbl) {v0 : ℕ} {v1 : State} (h0 : Touches ps s0 v1) :
    Touches ps s0 (stashBack v0 v1) := by
  unfold stashBack
  lift_lets
  intro x0
  clear_value x0
  intro x1
  clear_value x1
  split
  · assumption
  · split
    · refine State.given_touches ?_ ?_
      · assumption
      · intro y2
        intro k3
        refine moveEmt_touches h_regs h_out h_host h_latches h_tbl ?_
        assumption
    · assumption

theorem sweepVisit_touches {ps : Piece → Prop} {s0 : State} (h_regs : ps .regs) (h_out : ps .out) (h_host : ps .host) (h_latches : ps .latches) (h_tbl : ps .tbl) (h_vsr : ps .vsr) {v0 : ℕ} {v1 : State} (h0 : Touches ps s0 v1) :
    Touches ps s0 (sweepVisit v0 v1) := by
  unfold sweepVisit
  split
  · assumption
  · refine State.given_touches ?_ ?_
    · assumption
    · intro y0
      intro k1
      refine notify_touches h_regs h_out h_host h_latches ?_
      refine State.count_touches h_regs h_vsr ?_
      refine removeEmt_touches h_regs h_out h_host h_latches h_tbl ?_
      assumption

theorem execMoveHoldExpiry_touches {ps : Piece → Prop} {s0 : State} (h_regs : ps .regs) (h_tbl : ps .tbl) {v0 : State} (h0 : Touches ps s0 v0) :
    Moves ps s0 (execMoveHoldExpiry v0) := by
  unfold execMoveHoldExpiry
  refine Moves.next ?_
  refine State.running_touches ?_ ?_
  · assumption
  · intro y0
    intro k1
    lift_lets
    intro x2
    clear_value x2
    intro x3
    clear_value x3
    refine State.given_touches ?_ ?_
    · assumption
    · intro y4
      intro k5
      refine putHolds_touches h_regs h_tbl ?_
      assumption

theorem refreshAge_touches {ps : Piece → Prop} {s0 : State} (h_tbl : ps .tbl) {v0 : ℕ} {v1 : State} (h0 : Touches ps s0 v1) :
    Touches ps s0 (refreshAge v0 v1) := by
  unfold refreshAge
  lift_lets
  intro x0
  clear_value x0
  intro x1
  clear_value x1
  intro x2
  clear_value x2
  refine (Touches.upd_tbl h_tbl ?_)
  assumption

theorem mirror_touches {ps : Piece → Prop} {s0 : State} (h_regs : ps .regs) (h_out : ps .out) (h_host : ps .host) (h_tbl : ps .tbl) (h_mtn : ps .mtn) {v0 : ℕ} {v1 : ℕ} {v2 : State} (h0 : Touches ps s0 v2) :
    Touches ps s0 (mirror v0 v1 v2) := by
  unfold mirror
  lift_lets
  intro x0
  clear_value x0
  intro x1
  clear_value x1
  intro x2
  have hx3 : Touches ps s0 x2 := by
    unfold x2
    refine (Touches.upd_tbl h_tbl ?_)
    assumption
  clear_value x2
  refine Touches.ite ?_ ?_
  · assumption
  · refine recomputeDdr_touches h_regs h_out h_host h_mtn ?_
    assumption

end Sys2Proof.Machine
end

