-- ==== Sys2Proof/Laws/TouchMicrocode.lean ====
section
/-! SUPPORT. What the operations of Machine/Microcode.lean may touch: one lemma for each. -/

set_option maxRecDepth 10000

namespace Sys2Proof.Machine

theorem noteProgram_touches {ps : Piece → Prop} {s0 : State} (h_regs : ps .regs) (h_out : ps .out) (h_host : ps .host) (h_latches : ps .latches) {v0 : ℕ} {v1 : ℕ} {v2 : ℕ} {v3 : Bool} {v4 : ℕ} {v5 : State} (h0 : Touches ps s0 v5) :
    Touches ps s0 (noteProgram v0 v1 v2 v3 v4 v5) := by
  unfold noteProgram
  lift_lets
  intro x0
  clear_value x0
  intro x1
  have hx2 : ∀ a0 a1, Touches ps s0 a1 → Touches ps s0 (x1 a0 a1) := by
    intro y3
    intro y4
    intro k5
    unfold x1
    refine Touches.ite ?_ ?_
    · refine State.wr_touches h_regs ?_
      assumption
    · assumption
  clear_value x1
  intro x6
  have hx7 : Touches ps s0 x6 := by
    unfold x6
    split
    · refine hx2 _ _ ?_
      assumption
    · refine hx2 _ _ ?_
      assumption
    · refine hx2 _ _ ?_
      assumption
  clear_value x6
  intro x8
  clear_value x8
  refine Touches.ite ?_ ?_
  · refine State.raise_touches h_regs h_out h_host h_latches ?_
    refine State.bump_touches h_regs h_latches ?_
    assumption
  · assumption

theorem egressEnds_touches {ps : Piece → Prop} {s0 : State} (h_regs : ps .regs) (h_out : ps .out) (h_ddr : ps .ddr) (h_poison : ps .poison) (h_host : ps .host) (h_latches : ps .latches) (h_palm : ps .palm) (h_ldg : ps .ldg) (h_vsr : ps .vsr) {v0 : ℕ} {v1 : Run} {v2 : State} (h0 : Touches ps s0 v2) :
    Touches ps s0 (egressEnds v0 v1 v2) := by
  unfold egressEnds
  refine State.onReplica_touches ?_ ?_
  · assumption
  · intro y0
    intro y1
    intro y2
    intro k3
    lift_lets
    intro x4
    have hx5 : Touches ps s0 x4 := by
      unfold x4
      refine noteProgram_touches h_regs h_out h_host h_latches ?_
      assumption
    clear_value x4
    intro x6
    have hx7 : Touches ps s0 x6 := by
      unfold x6
      refine State.putReplica_touches h_palm ?_
      assumption
    clear_value x6
    refine Touches.ite ?_ ?_
    · refine dropReplica_touches h_regs h_out h_ddr h_poison h_host h_latches h_palm h_ldg h_vsr ?_
      refine State.putReplica_touches h_palm ?_
      assumption
    · refine Touches.ite ?_ ?_
      · refine State.putFrame_touches h_palm ?_
        assumption
      · assumption

theorem State.putStore_touches {ps : Piece → Prop} {s0 : State} (h_ucs : ps .ucs) {v0 : State} {v1 : ℕ} {v2 : Store} (h0 : Touches ps s0 v0) :
    Touches ps s0 (State.putStore v0 v1 v2) := by
  unfold State.putStore
  lift_lets
  intro x0
  clear_value x0
  refine (Touches.upd_ucs h_ucs ?_)
  assumption

theorem setUcsState_touches {ps : Piece → Prop} {s0 : State} (h_regs : ps .regs) (h_out : ps .out) (h_host : ps .host) {v0 : ℕ} {v1 : ℕ} {v2 : State} (h0 : Touches ps s0 v2) :
    Touches ps s0 (setUcsState v0 v1 v2) := by
  unfold setUcsState
  refine Touches.ite ?_ ?_
  · assumption
  · refine State.vector_touches h_out h_host ?_
    refine State.wr_touches h_regs ?_
    refine State.wr_touches h_regs ?_
    assumption

theorem arm_touches {ps : Piece → Prop} {s0 : State} (h_regs : ps .regs) (h_latches : ps .latches) {v0 : ℕ} {v1 : State} (h0 : Touches ps s0 v1) :
    Touches ps s0 (arm v0 v1) := by
  unfold arm
  refine Touches.ite ?_ ?_
  · refine State.wr_touches h_regs ?_
    assumption
  · refine State.set1_touches h_regs h_latches ?_
    assumption

theorem bankAbort_touches {ps : Piece → Prop} {s0 : State} (h_regs : ps .regs) (h_out : ps .out) (h_host : ps .host) (h_latches : ps .latches) {v0 : ℕ} {v1 : State} (h0 : Touches ps s0 v1) :
    Touches ps s0 (bankAbort v0 v1) := by
  unfold bankAbort
  refine Touches.ite ?_ ?_
  · refine State.set1_touches h_regs h_latches ?_
    assumption
  · refine Touches.ite ?_ ?_
    · refine setUcsState_touches h_regs h_out h_host ?_
      assumption
    · refine Touches.ite ?_ ?_
      · refine State.set1_touches h_regs h_latches ?_
        assumption
      · assumption

theorem clearStats_touches {ps : Piece → Prop} {s0 : State} (h_regs : ps .regs) {v0 : ℕ} {v1 : State} (h0 : Touches ps s0 v1) :
    Touches ps s0 (clearStats v0 v1) := by
  unfold clearStats
  refine Touches.foldl (fun _ _ _ => ?_) ?_
  · refine State.wr_touches h_regs ?_
    assumption
  · assumption

theorem selectItem_touches {ps : Piece → Prop} {s0 : State} (h_regs : ps .regs) (h_free : ps .free) {v0 : ℕ} {v1 : ℕ} {v2 : ℕ} {v3 : ℕ} {v4 : State} (h0 : Touches ps s0 v4) :
    Touches ps s0 (selectItem v0 v1 v2 v3 v4) := by
  unfold selectItem
  lift_lets
  intro x0
  clear_value x0
  intro x1
  have hx2 : Touches ps s0 x1 := by
    unfold x1
    refine State.wr_touches h_regs ?_
    refine State.wr_touches h_regs ?_
    refine State.wr_touches h_regs ?_
    assumption
  clear_value x1
  intro x3
  clear_value x3
  intro x4
  clear_value x4
  intro x5
  clear_value x5
  intro x6
  clear_value x6
  intro x7
  clear_value x7
  intro x8
  clear_value x8
  intro x9
  have hx10 : Touches ps s0 x9 := by
    unfold x9
    refine Touches.foldl (fun _ _ _ => ?_) ?_
    · refine State.wri_touches h_regs ?_
      assumption
    · assumption
  clear_value x9
  intro x11
  have hx12 : Touches ps s0 x11 := by
    unfold x11
    refine State.wr_touches h_regs ?_
    assumption
  clear_value x11
  refine Touches.ite ?_ ?_
  · refine (Touches.upd_free h_free ?_)
    assumption
  · assumption

theorem showImage_touches {ps : Piece → Prop} {s0 : State} (h_regs : ps .regs) {v0 : ℕ} {v1 : State} (h0 : Touches ps s0 v1) :
    Touches ps s0 (showImage v0 v1) := by
  unfold showImage
  lift_lets
  intro x0
  clear_value x0
  intro x1
  clear_value x1
  refine State.wr_touches h_regs ?_
  refine State.wr_touches h_regs ?_
  assumption

theorem writeBank_touches {ps : Piece → Prop} {s0 : State} (h_regs : ps .regs) (h_ucs : ps .ucs) {v0 : ℕ} {v1 : ℕ} {v2 : Image} {v3 : State} (h0 : Touches ps s0 v3) :
    Touches ps s0 (writeBank v0 v1 v2 v3) := by
  unfold writeBank
  lift_lets
  intro x0
  clear_value x0
  intro x1
  clear_value x1
  intro x2
  clear_value x2
  intro x3
  clear_value x3
  intro x4
  clear_value x4
  refine showImage_touches h_regs ?_
  refine State.putStore_touches h_ucs ?_
  assumption

theorem stageBank_touches {ps : Piece → Prop} {s0 : State} (h_regs : ps .regs) (h_out : ps .out) (h_host : ps .host) (h_latches : ps .latches) (h_ucs : ps .ucs) {v0 : ℕ} {v1 : Bool} {v2 : State} (h0 : Touches ps s0 v2) :
    Touches ps s0 (stageBank v0 v1 v2) := by
  unfold stageBank
  lift_lets
  intro x0
  clear_value x0
  intro x1
  clear_value x1
  intro x2
  have hx3 : Touches ps s0 x2 := by
    unfold x2
    refine State.putStore_touches h_ucs ?_
    assumption
  clear_value x2
  intro x4
  have hx5 : ∀ a0 a1 a2, Touches ps s0 a2 → Touches ps s0 (x4 a0 a1 a2) := by
    intro y6
    intro y7
    intro y8
    intro k9
    unfold x4
    refine setUcsState_touches h_regs h_out h_host ?_
    refine State.raise_touches h_regs h_out h_host h_latches ?_
    refine State.wr_touches h_regs ?_
    refine State.wr_touches h_regs ?_
    assumption
  clear_value x4
  split
  · assumption
  · lift_lets
    intro x10
    clear_value x10
    split
    · refine hx5 _ _ _ ?_
      assumption
    · refine Touches.ite ?_ ?_
      · refine setUcsState_touches h_regs h_out h_host ?_
        refine writeBank_touches h_regs h_ucs ?_
        assumption
      · refine hx5 _ _ _ ?_
        assumption

theorem switchBank_touches {ps : Piece → Prop} {s0 : State} (h_regs : ps .regs) (h_out : ps .out) (h_host : ps .host) (h_ucs : ps .ucs) {v0 : ℕ} {v1 : State} (h0 : Touches ps s0 v1) :
    Touches ps s0 (switchBank v0 v1) := by
  unfold switchBank
  lift_lets
  intro x0
  clear_value x0
  intro x1
  clear_value x1
  intro x2
  have hx3 : Touches ps s0 x2 := by
    unfold x2
    refine (Touches.upd_ucs h_ucs ?_)
    assumption
  clear_value x2
  intro x4
  have hx5 : Touches ps s0 x4 := by
    unfold x4
    refine State.wr_touches h_regs ?_
    refine State.wr_touches h_regs ?_
    assumption
  clear_value x4
  refine setUcsState_touches h_regs h_out h_host ?_
  refine showImage_touches h_regs ?_
  refine State.putStore_touches h_ucs ?_
  assumption

theorem State.putWait_touches {ps : Piece → Prop} {s0 : State} (h_ucs : ps .ucs) {v0 : State} {v1 : ℕ} {v2 : ℕ} {v3 : List ℕ} (h0 : Touches ps s0 v0) :
    Touches ps s0 (State.putWait v0 v1 v2 v3) := by
  unfold State.putWait
  lift_lets
  intro x0
  clear_value x0
  refine (Touches.upd_ucs h_ucs ?_)
  assumption

theorem ingressEnds_touches {ps : Piece → Prop} {s0 : State} (h_regs : ps .regs) (h_out : ps .out) (h_ddr : ps .ddr) (h_poison : ps .poison) (h_host : ps .host) (h_latches : ps .latches) (h_tbl : ps .tbl) (h_palm : ps .palm) (h_ldg : ps .ldg) (h_vsr : ps .vsr) {v0 : ℕ} {v1 : State} (h0 : Touches ps s0 v1) :
    Touches ps s0 (ingressEnds v0 v1) := by
  unfold ingressEnds
  refine State.onFrame_touches ?_ ?_
  · assumption
  · intro y0
    intro y1
    intro k2
    lift_lets
    intro x3
    intro x4
    clear_value x4
    intro x5
    clear_value x5
    intro x6
    clear_value x6
    intro x7
    have hx8 : Touches ps s0 x7 := by
      unfold x7
      split
      · refine Touches.ite ?_ ?_
        · refine learnEvent_touches h_regs h_out h_host h_latches h_tbl ?_
          assumption
        · assumption
      · assumption
    clear_value x7
    refine Touches.ite ?_ ?_
    · refine dropAtIngress_touches h_regs h_out h_ddr h_poison h_host h_latches h_palm h_ldg h_vsr ?_
      refine State.putFrame_touches h_palm ?_
      assumption
    · split
      · refine State.putFrame_touches h_palm ?_
        assumption
      · refine State.putFrame_touches h_palm ?_
        assumption

theorem patch_touches {ps : Piece → Prop} {s0 : State} (h_regs : ps .regs) (h_out : ps .out) (h_host : ps .host) (h_latches : ps .latches) (h_ucs : ps .ucs) {v0 : ℕ} {v1 : ℕ} {v2 : ℕ} {v3 : State} (h0 : Touches ps s0 v3) :
    Touches ps s0 (patch v0 v1 v2 v3) := by
  unfold patch
  lift_lets
  intro x0
  clear_value x0
  intro x1
  clear_value x1
  intro x2
  clear_value x2
  split
  · refine State.raise_touches h_regs h_out h_host h_latches ?_
    refine State.putStore_touches h_ucs ?_
    assumption
  · lift_lets
    intro x3
    have hx4 : Touches ps s0 x3 := by
      unfold x3
      refine State.putStore_touches h_ucs ?_
      assumption
    clear_value x3
    refine State.bump_touches h_regs h_latches ?_
    refine State.wri_touches h_regs ?_
    refine State.wri_touches h_regs ?_
    refine State.wri_touches h_regs ?_
    refine State.wri_touches h_regs ?_
    assumption

theorem parityEvent_touches {ps : Piece → Prop} {s0 : State} (h_regs : ps .regs) (h_out : ps .out) (h_host : ps .host) (h_latches : ps .latches) (h_ucs : ps .ucs) {v0 : ℕ} {v1 : ℕ} {v2 : State} (h0 : Touches ps s0 v2) :
    Touches ps s0 (parityEvent v0 v1 v2) := by
  unfold parityEvent
  lift_lets
  intro x0
  clear_value x0
  intro x1
  clear_value x1
  intro x2
  clear_value x2
  intro x3
  clear_value x3
  intro x4
  have hx5 : Touches ps s0 x4 := by
    unfold x4
    refine State.putStore_touches h_ucs ?_
    assumption
  clear_value x4
  intro x6
  clear_value x6
  intro x7
  have hx8 : Touches ps s0 x7 := by
    unfold x7
    refine State.raise_touches h_regs h_out h_host h_latches ?_
    assumption
  clear_value x7
  intro x9
  clear_value x9
  refine Touches.ite ?_ ?_
  · assumption
  · refine Touches.ite ?_ ?_
    · refine Touches.ite ?_ ?_
      · refine patch_touches h_regs h_out h_host h_latches h_ucs ?_
        assumption
      · refine State.putStore_touches h_ucs ?_
        assumption
    · refine Touches.ite ?_ ?_
      · assumption
      · refine Touches.ite ?_ ?_
        · refine State.putStore_touches h_ucs ?_
          assumption
        · refine State.putStore_touches h_ucs ?_
          assumption

theorem fetch_touches {ps : Piece → Prop} {s0 : State} (h_regs : ps .regs) (h_out : ps .out) (h_host : ps .host) (h_latches : ps .latches) (h_ucs : ps .ucs) {v0 : ℕ} {v1 : List ℕ} {v2 : ℕ} {v3 : ℕ} {v4 : ℕ} {v5 : State} (h0 : Touches ps s0 v5) :
    Touches ps s0 (fetch v0 v1 v2 v3 v4 v5).state := by
  unfold fetch
  dsimp only
  split
  · exact h0
  · split
    · exact h0
    · split
      · exact h0
      · split
        · split
          · apply State.putStore_touches <;> assumption
          · exact h0
        · split
          · apply parityEvent_touches <;> assumption
          · exact h0

theorem fetchTemplates_touches {ps : Piece → Prop} {s0 : State} (h_regs : ps .regs) (h_out : ps .out) (h_host : ps .host) (h_latches : ps .latches) (h_ucs : ps .ucs) {v0 : ℕ} {v1 : List ℕ} {v2 : ℕ} {v3 : List (ℕ × ℕ)} {v4 : State} (h0 : Touches ps s0 v4) :
    Touches ps s0 (fetchTemplates v0 v1 v2 v3 v4).2.2.2 := by
  induction v3 generalizing v4 with
  | nil => exact h0
  | cons p r ih =>
    unfold fetchTemplates
    have hf : Touches ps s0 (fetch v0 v1 v2 3 p.2 v4).state := by apply fetch_touches <;> assumption
    dsimp only
    split
    · exact hf
    · exact ih hf

theorem issueSearch_touches {ps : Piece → Prop} {s0 : State} (h_regs : ps .regs) (h_tbl : ps .tbl) (h_palm : ps .palm) (h_vsr : ps .vsr) {v0 : ℕ} {v1 : ℕ} {v2 : ℕ} {v3 : ℕ} {v4 : State} (h0 : Touches ps s0 v4) :
    Touches ps s0 (issueSearch v0 v1 v2 v3 v4) := by
  unfold issueSearch
  refine State.onFrame_touches ?_ ?_
  · assumption
  · intro y0
    intro y1
    intro k2
    lift_lets
    intro x3
    clear_value x3
    intro x4
    clear_value x4
    intro x5
    have hx6 : Touches ps s0 x5 := by
      unfold x5
      refine State.count_touches h_regs h_vsr ?_
      assumption
    clear_value x5
    split
    · dsimp only
      split
      · refine State.putFrame_touches h_palm ?_
        refine refreshAge_touches h_tbl ?_
        refine Touches.ite ?_ ?_
        · refine State.count_touches h_regs h_vsr ?_
          assumption
        · assumption
      · refine State.putFrame_touches h_palm ?_
        refine Touches.ite ?_ ?_
        · refine State.count_touches h_regs h_vsr ?_
          assumption
        · assumption
    · dsimp only
      split
      · refine State.putFrame_touches h_palm ?_
        refine Touches.ite ?_ ?_
        · refine State.count_touches h_regs h_vsr ?_
          assumption
        · assumption
      · refine State.putFrame_touches h_palm ?_
        refine Touches.ite ?_ ?_
        · refine State.count_touches h_regs h_vsr ?_
          assumption
        · assumption

theorem noteCheck_touches {ps : Piece → Prop} {s0 : State} (h_regs : ps .regs) (h_out : ps .out) (h_host : ps .host) (h_latches : ps .latches) (h_vsr : ps .vsr) {v0 : ℕ} {v1 : ℕ} {v2 : ℕ} {v3 : ℕ} {v4 : State} (h0 : Touches ps s0 v4) :
    Touches ps s0 (noteCheck v0 v1 v2 v3 v4) := by
  unfold noteCheck
  lift_lets
  intro x0
  clear_value x0
  intro x1
  have hx2 : Touches ps s0 x1 := by
    unfold x1
    refine State.bump_touches h_regs h_latches ?_
    refine State.wr_touches h_regs ?_
    refine State.wr_touches h_regs ?_
    refine State.wr_touches h_regs ?_
    refine State.wr_touches h_regs ?_
    assumption
  clear_value x1
  refine State.count_touches h_regs h_vsr ?_
  refine State.raise_touches h_regs h_out h_host h_latches ?_
  assumption

theorem typeMapCode_touches {ps : Piece → Prop} {s0 : State} (h_regs : ps .regs) (h_out : ps .out) (h_host : ps .host) (h_latches : ps .latches) (h_ucs : ps .ucs) {v0 : ℕ} {v1 : List ℕ} {v2 : ℕ} {v3 : ℕ} {v4 : ℕ} {v5 : ℕ} {v6 : List ℕ} {v7 : State} (h0 : Touches ps s0 v7) :
    Touches ps s0 (typeMapCode v0 v1 v2 v3 v4 v5 v6 v7).state := by
  induction v6 generalizing v7 with
  | nil => exact h0
  | cons i r ih =>
    unfold typeMapCode Fetch.andThen
    have hf : Touches ps s0 (fetch v0 v1 v2 2 (256 * v3 + i) v7).state := by apply fetch_touches <;> assumption
    split
    · exact hf
    · dsimp only
      split
      · exact hf
      · exact ih hf

theorem fetchDispatch_touches {ps : Piece → Prop} {s0 : State} (h_regs : ps .regs) (h_out : ps .out) (h_host : ps .host) (h_latches : ps .latches) (h_ucs : ps .ucs) {v0 : ℕ} {v1 : List ℕ} {v2 : ℕ} {v3 : Seat} {v4 : ℕ} {v5 : State} (h0 : Touches ps s0 v5) :
    Touches ps s0 (fetchDispatch v0 v1 v2 v3 v4 v5).2.state := by
  unfold fetchDispatch
  split
  · exact h0
  · lift_lets
    intro x
    have hx : Touches ps s0 x.state := by
      unfold x
      split
      · apply typeMapCode_touches <;> assumption
      · exact h0
    clear_value x
    unfold Fetch.andThen
    dsimp only
    split
    · exact hx
    · apply fetch_touches <;> assumption

theorem machineCheck_touches {ps : Piece → Prop} {s0 : State} (h_regs : ps .regs) (h_out : ps .out) (h_ddr : ps .ddr) (h_poison : ps .poison) (h_host : ps .host) (h_latches : ps .latches) (h_palm : ps .palm) (h_ldg : ps .ldg) (h_vsr : ps .vsr) {v0 : Bool} {v1 : ℕ} {v2 : ℕ} {v3 : ℕ} {v4 : ℕ} {v5 : ℕ} {v6 : ℕ} {v7 : ℕ} {v8 : State} (h0 : Touches ps s0 v8) :
    Touches ps s0 (machineCheck v0 v1 v2 v3 v4 v5 v6 v7 v8) := by
  unfold machineCheck
  lift_lets
  intro x0
  have hx1 : Touches ps s0 x0 := by
    unfold x0
    refine noteCheck_touches h_regs h_out h_host h_latches h_vsr ?_
    assumption
  clear_value x0
  refine Touches.ite ?_ ?_
  · refine State.onReplica_touches ?_ ?_
    · assumption
    · intro y2
      intro y3
      intro y4
      intro k5
      lift_lets
      intro x6
      have hx7 : Touches ps s0 x6 := by
        unfold x6
        refine noteProgram_touches h_regs h_out h_host h_latches ?_
        assumption
      clear_value x6
      refine dropReplicaAt_touches h_regs h_out h_ddr h_poison h_host h_latches h_palm h_ldg h_vsr ?_
      refine State.putReplica_touches h_palm ?_
      assumption
  · refine State.onFrame_touches ?_ ?_
    · assumption
    · intro y8
      intro y9
      intro k10
      lift_lets
      intro x11
      have hx12 : Touches ps s0 x11 := by
        unfold x11
        refine noteProgram_touches h_regs h_out h_host h_latches ?_
        assumption
      clear_value x11
      refine dropAtIngress_touches h_regs h_out h_ddr h_poison h_host h_latches h_palm h_ldg h_vsr ?_
      refine State.putFrame_touches h_palm ?_
      assumption

theorem askSession_touches {ps : Piece → Prop} {s0 : State} (h_regs : ps .regs) (h_palm : ps .palm) (h_vsr : ps .vsr) {v0 : ℕ} {v1 : State} (h0 : Touches ps s0 v1) :
    Touches ps s0 (askSession v0 v1) := by
  unfold askSession
  refine State.onFrame_touches ?_ ?_
  · assumption
  · intro y0
    intro y1
    intro k2
    refine State.putFrame_touches h_palm ?_
    refine State.count_touches h_regs h_vsr ?_
    assumption

theorem programEnds_touches {ps : Piece → Prop} {s0 : State} (h_regs : ps .regs) (h_out : ps .out) (h_ddr : ps .ddr) (h_poison : ps .poison) (h_host : ps .host) (h_latches : ps .latches) (h_tbl : ps .tbl) (h_palm : ps .palm) (h_ldg : ps .ldg) (h_vsr : ps .vsr) {v0 : ℕ} {v1 : ℕ} {v2 : Run} {v3 : ℕ} {v4 : State} (h0 : Touches ps s0 v4) :
    Touches ps s0 (programEnds v0 v1 v2 v3 v4) := by
  unfold programEnds
  refine State.onFrame_touches ?_ ?_
  · assumption
  · intro y0
    intro y1
    intro k2
    lift_lets
    intro x3
    clear_value x3
    intro x4
    have hx5 : Touches ps s0 x4 := by
      unfold x4
      refine noteProgram_touches h_regs h_out h_host h_latches ?_
      assumption
    clear_value x4
    refine Touches.ite ?_ ?_
    · refine State.putFrame_touches h_palm ?_
      assumption
    · refine Touches.ite ?_ ?_
      · refine State.putFrame_touches h_palm ?_
        assumption
      · refine ingressEnds_touches h_regs h_out h_ddr h_poison h_host h_latches h_tbl h_palm h_ldg h_vsr ?_
        assumption

theorem wordEnds_touches {ps : Piece → Prop} {s0 : State} (h_regs : ps .regs) (h_out : ps .out) (h_ddr : ps .ddr) (h_poison : ps .poison) (h_host : ps .host) (h_latches : ps .latches) (h_tbl : ps .tbl) (h_palm : ps .palm) (h_ldg : ps .ldg) (h_vsr : ps .vsr) {v0 : Bool} {v1 : ℕ} {v2 : Program} {v3 : ℕ} {v4 : After} {v5 : Run} {v6 : ℕ} {v7 : State} (h0 : Touches ps s0 v7) :
    Touches ps s0 (wordEnds v0 v1 v2 v3 v4 v5 v6 v7) := by
  unfold wordEnds
  split
  lift_lets
  intro x0
  clear_value x0
  refine Touches.ite ?_ ?_
  · refine State.onReplica_touches ?_ ?_
    · assumption
    · intro y1
      intro y2
      intro y3
      intro k4
      split
      · refine State.putReplica_touches h_palm ?_
        assumption
      · refine egressEnds_touches h_regs h_out h_ddr h_poison h_host h_latches h_palm h_ldg h_vsr ?_
        refine State.putReplica_touches h_palm ?_
        assumption
  · refine State.onFrame_touches ?_ ?_
    · assumption
    · intro y5
      intro y6
      intro k7
      split
      · refine State.putFrame_touches h_palm ?_
        assumption
      · refine programEnds_touches h_regs h_out h_ddr h_poison h_host h_latches h_tbl h_palm h_ldg h_vsr ?_
        refine State.putFrame_touches h_palm ?_
        assumption

theorem issueWord_touches {ps : Piece → Prop} {s0 : State} (h_regs : ps .regs) (h_out : ps .out) (h_ddr : ps .ddr) (h_poison : ps .poison) (h_host : ps .host) (h_latches : ps .latches) (h_ucs : ps .ucs) (h_tbl : ps .tbl) (h_palm : ps .palm) (h_ldg : ps .ldg) (h_vsr : ps .vsr) {v0 : Bool} {v1 : ℕ} {v2 : Program} {v3 : ℕ} {v4 : ℕ} {v5 : List ℕ} {v6 : ℕ} {v7 : ℕ} {v8 : List ℕ} {v9 : State} (h0 : Touches ps s0 v9) :
    Touches ps s0 (issueWord v0 v1 v2 v3 v4 v5 v6 v7 v8 v9) := by
  unfold issueWord
  lift_lets
  intro x0
  clear_value x0
  intro x1
  clear_value x1
  intro x2
  have hx3 : ∀ a0 a1 a2 a3, Touches ps s0 a3 → Touches ps s0 (x2 a0 a1 a2 a3) := by
    intro y4
    intro y5
    intro y6
    intro y7
    intro k8
    unfold x2
    refine machineCheck_touches h_regs h_out h_ddr h_poison h_host h_latches h_palm h_ldg h_vsr ?_
    assumption
  clear_value x2
  intro x9
  clear_value x9
  intro x10
  clear_value x10
  refine Touches.ite ?_ ?_
  · refine hx3 _ _ _ _ ?_
    assumption
  · refine Touches.ite ?_ ?_
    · refine hx3 _ _ _ _ ?_
      assumption
    · dsimp only
      split
      · refine hx3 _ _ _ _ ?_
        refine fetchTemplates_touches h_regs h_out h_host h_latches h_ucs ?_
        assumption
      · refine Touches.ite ?_ ?_
        · assumption
        · refine Touches.ite ?_ ?_
          · refine hx3 _ _ _ _ ?_
            refine fetchTemplates_touches h_regs h_out h_host h_latches h_ucs ?_
            assumption
          · refine Touches.ite ?_ ?_
            · refine hx3 _ _ _ _ ?_
              refine fetchDispatch_touches h_regs h_out h_host h_latches h_ucs ?_
              refine fetchTemplates_touches h_regs h_out h_host h_latches h_ucs ?_
              assumption
            · refine Touches.ite ?_ ?_
              · refine hx3 _ _ _ _ ?_
                refine Touches.ite ?_ ?_
                · refine askSession_touches h_regs h_palm h_vsr ?_
                  refine Touches.foldl (fun _ _ _ => ?_) ?_
                  · refine issueSearch_touches h_regs h_tbl h_palm h_vsr ?_
                    assumption
                  · refine fetchDispatch_touches h_regs h_out h_host h_latches h_ucs ?_
                    refine fetchTemplates_touches h_regs h_out h_host h_latches h_ucs ?_
                    assumption
                · refine Touches.foldl (fun _ _ _ => ?_) ?_
                  · refine issueSearch_touches h_regs h_tbl h_palm h_vsr ?_
                    assumption
                  · refine fetchDispatch_touches h_regs h_out h_host h_latches h_ucs ?_
                    refine fetchTemplates_touches h_regs h_out h_host h_latches h_ucs ?_
                    assumption
              · refine wordEnds_touches h_regs h_out h_ddr h_poison h_host h_latches h_tbl h_palm h_ldg h_vsr ?_
                refine Touches.ite ?_ ?_
                · refine askSession_touches h_regs h_palm h_vsr ?_
                  refine Touches.foldl (fun _ _ _ => ?_) ?_
                  · refine issueSearch_touches h_regs h_tbl h_palm h_vsr ?_
                    assumption
                  · refine fetchDispatch_touches h_regs h_out h_host h_latches h_ucs ?_
                    refine fetchTemplates_touches h_regs h_out h_host h_latches h_ucs ?_
                    assumption
                · refine Touches.foldl (fun _ _ _ => ?_) ?_
                  · refine issueSearch_touches h_regs h_tbl h_palm h_vsr ?_
                    assumption
                  · refine fetchDispatch_touches h_regs h_out h_host h_latches h_ucs ?_
                    refine fetchTemplates_touches h_regs h_out h_host h_latches h_ucs ?_
                    assumption

theorem runWord_touches {ps : Piece → Prop} {s0 : State} (h_regs : ps .regs) (h_out : ps .out) (h_ddr : ps .ddr) (h_poison : ps .poison) (h_host : ps .host) (h_latches : ps .latches) (h_ucs : ps .ucs) (h_tbl : ps .tbl) (h_palm : ps .palm) (h_ldg : ps .ldg) (h_vsr : ps .vsr) {v0 : Bool} {v1 : ℕ} {v2 : Program} {v3 : List ℕ} {v4 : ℕ} {v5 : ℕ} {v6 : List ℕ} {v7 : State} (h0 : Touches ps s0 v7) :
    Touches ps s0 (runWord v0 v1 v2 v3 v4 v5 v6 v7) := by
  unfold runWord
  refine Touches.ite ?_ ?_
  · assumption
  · lift_lets
    intro x0
    refine Touches.ite ?_ ?_
    · refine machineCheck_touches h_regs h_out h_ddr h_poison h_host h_latches h_palm h_ldg h_vsr ?_
      unfold x0
      refine fetch_touches h_regs h_out h_host h_latches h_ucs ?_
      assumption
    · refine issueWord_touches h_regs h_out h_ddr h_poison h_host h_latches h_ucs h_tbl h_palm h_ldg h_vsr ?_
      unfold x0
      refine fetch_touches h_regs h_out h_host h_latches h_ucs ?_
      assumption

theorem issueMicroword_touches {ps : Piece → Prop} {s0 : State} (h_regs : ps .regs) (h_out : ps .out) (h_ddr : ps .ddr) (h_poison : ps .poison) (h_host : ps .host) (h_latches : ps .latches) (h_ucs : ps .ucs) (h_tbl : ps .tbl) (h_palm : ps .palm) (h_ldg : ps .ldg) (h_vsr : ps .vsr) {v0 : Bool} {v1 : ℕ} {v2 : List ℕ} {v3 : ℕ} {v4 : ℕ} {v5 : State} (h0 : Touches ps s0 v5) :
    Touches ps s0 (issueMicroword v0 v1 v2 v3 v4 v5) := by
  unfold issueMicroword
  refine State.running_touches ?_ ?_
  · assumption
  · intro y0
    intro k1
    refine Touches.ite ?_ ?_
    · refine State.onReplica_touches ?_ ?_
      · assumption
      · intro y2
        intro y3
        intro y4
        intro k5
        split
        · refine runWord_touches h_regs h_out h_ddr h_poison h_host h_latches h_ucs h_tbl h_palm h_ldg h_vsr ?_
          assumption
        · assumption
    · refine State.onFrame_touches ?_ ?_
      · assumption
      · intro y6
        intro y7
        intro k8
        split
        · refine runWord_touches h_regs h_out h_ddr h_poison h_host h_latches h_ucs h_tbl h_palm h_ldg h_vsr ?_
          assumption
        · assumption

theorem execDrainComplete_touches {ps : Piece → Prop} {s0 : State} (h_regs : ps .regs) (h_out : ps .out) (h_host : ps .host) {v0 : Fin 32} {v1 : State} (h0 : Touches ps s0 v1) :
    Moves ps s0 (execDrainComplete v0 v1) := by
  unfold execDrainComplete
  refine Moves.next ?_
  refine State.running_touches ?_ ?_
  · assumption
  · intro y0
    intro k1
    refine State.given_touches ?_ ?_
    · assumption
    · intro y2
      intro k3
      refine setUcsState_touches h_regs h_out h_host ?_
      assumption

theorem assignEngine.wait_touches {ps : Piece → Prop} {s0 : State} (h_regs : ps .regs) (h_latches : ps .latches) (h_ucs : ps .ucs) {v0 : ℕ} {v1 : ℕ} {v2 : ℕ} {v3 : Bool} {v4 : List ℕ} {v5 : State} (h0 : Touches ps s0 v5) :
    Touches ps s0 (assignEngine.wait v0 v1 v2 v3 v4 v5) := by
  unfold assignEngine.wait
  refine Touches.ite ?_ ?_
  · assumption
  · lift_lets
    intro x0
    have hx1 : Touches ps s0 x0 := by
      unfold x0
      refine State.putWait_touches h_ucs ?_
      assumption
    clear_value x0
    refine Touches.ite ?_ ?_
    · refine State.bump_touches h_regs h_latches ?_
      assumption
    · assumption

theorem startProgram_touches {ps : Piece → Prop} {s0 : State} (h_regs : ps .regs) (h_out : ps .out) (h_ddr : ps .ddr) (h_poison : ps .poison) (h_host : ps .host) (h_latches : ps .latches) (h_ucs : ps .ucs) (h_tbl : ps .tbl) (h_palm : ps .palm) (h_ldg : ps .ldg) (h_vsr : ps .vsr) {v0 : Bool} {v1 : ℕ} {v2 : ℕ} {v3 : ℕ} {v4 : ℕ} {v5 : ℕ} {v6 : ℕ} {v7 : List ℕ} {v8 : State} (h0 : Touches ps s0 v8) :
    Touches ps s0 (startProgram v0 v1 v2 v3 v4 v5 v6 v7 v8) := by
  unfold startProgram
  lift_lets
  intro x0
  intro x1
  clear_value x1
  intro x2
  have hx3 : Touches ps s0 x2 := by
    unfold x2
    unfold x0
    refine fetch_touches h_regs h_out h_host h_latches h_ucs ?_
    assumption
  clear_value x2
  refine Touches.ite ?_ ?_
  · refine machineCheck_touches h_regs h_out h_ddr h_poison h_host h_latches h_palm h_ldg h_vsr ?_
    unfold x0
    refine fetch_touches h_regs h_out h_host h_latches h_ucs ?_
    assumption
  · refine Touches.ite ?_ ?_
    · refine Touches.ite ?_ ?_
      · refine State.onReplica_touches ?_ ?_
        · assumption
        · intro y4
          intro y5
          intro y6
          intro k7
          refine State.putReplica_touches h_palm ?_
          assumption
      · refine State.onFrame_touches ?_ ?_
        · assumption
        · intro y8
          intro y9
          intro k10
          refine State.putFrame_touches h_palm ?_
          assumption
    · refine Touches.ite ?_ ?_
      · refine State.onReplica_touches ?_ ?_
        · assumption
        · intro y11
          intro y12
          intro y13
          intro k14
          refine egressEnds_touches h_regs h_out h_ddr h_poison h_host h_latches h_palm h_ldg h_vsr ?_
          refine State.putReplica_touches h_palm ?_
          assumption
      · refine State.onFrame_touches ?_ ?_
        · assumption
        · intro y15
          intro y16
          intro k17
          refine programEnds_touches h_regs h_out h_ddr h_poison h_host h_latches h_tbl h_palm h_ldg h_vsr ?_
          refine State.putFrame_touches h_palm ?_
          assumption

theorem assignEngine_touches {ps : Piece → Prop} {s0 : State} (h_regs : ps .regs) (h_out : ps .out) (h_ddr : ps .ddr) (h_poison : ps .poison) (h_host : ps .host) (h_latches : ps .latches) (h_ucs : ps .ucs) (h_tbl : ps .tbl) (h_palm : ps .palm) (h_ldg : ps .ldg) (h_vsr : ps .vsr) {v0 : Bool} {v1 : ℕ} {v2 : ℕ} {v3 : ℕ} {v4 : ℕ} {v5 : Bool} {v6 : ℕ} {v7 : List ℕ} {v8 : State} (h0 : Touches ps s0 v8) :
    Touches ps s0 (assignEngine v0 v1 v2 v3 v4 v5 v6 v7 v8) := by
  unfold assignEngine
  lift_lets
  intro x0
  clear_value x0
  intro x1
  clear_value x1
  intro x2
  clear_value x2
  split
  · refine Touches.ite ?_ ?_
    · refine assignEngine.wait_touches h_regs h_latches h_ucs ?_
      assumption
    · refine startProgram_touches h_regs h_out h_ddr h_poison h_host h_latches h_ucs h_tbl h_palm h_ldg h_vsr ?_
      refine State.putWait_touches h_ucs ?_
      assumption
  · refine assignEngine.wait_touches h_regs h_latches h_ucs ?_
    assumption

theorem execGoldenRepair_touches {ps : Piece → Prop} {s0 : State} (h_ucs : ps .ucs) {v0 : Fin 32} {v1 : Fin 32768} {v2 : Bool} {v3 : State} (h0 : Touches ps s0 v3) :
    Moves ps s0 (execGoldenRepair v0 v1 v2 v3) := by
  unfold execGoldenRepair
  refine Moves.next ?_
  refine State.running_touches ?_ ?_
  · assumption
  · intro y0
    intro k1
    lift_lets
    intro x2
    clear_value x2
    intro x3
    clear_value x3
    refine State.given_touches ?_ ?_
    · assumption
    · intro y4
      intro k5
      refine State.putStore_touches h_ucs ?_
      assumption

theorem execCsSelWrite_touches {ps : Piece → Prop} {s0 : State} (h_regs : ps .regs) (h_free : ps .free) (h_latches : ps .latches) (h_mtn : ps .mtn) {v0 : Fin 32} {v1 : Fin 4096} {v2 : Fin 2} {v3 : Fin 4} {v4 : State} (h0 : Touches ps s0 v4) :
    Moves ps s0 (execCsSelWrite v0 v1 v2 v3 v4) := by
  unfold execCsSelWrite
  refine Moves.next ?_
  refine State.written_touches h_regs h_latches h_mtn ?_ ?_
  · assumption
  · intro y0
    intro k1
    refine selectItem_touches h_regs h_free ?_
    assumption

theorem execDrainSlow_touches {ps : Piece → Prop} {s0 : State} (h_regs : ps .regs) (h_out : ps .out) (h_host : ps .host) (h_latches : ps .latches) (h_ucs : ps .ucs) {v0 : Fin 32} {v1 : State} (h0 : Touches ps s0 v1) :
    Moves ps s0 (execDrainSlow v0 v1) := by
  unfold execDrainSlow
  refine Moves.next ?_
  refine State.running_touches ?_ ?_
  · assumption
  · intro y0
    intro k1
    lift_lets
    intro x2
    clear_value x2
    refine State.given_touches ?_ ?_
    · assumption
    · intro y3
      intro k4
      refine State.raise_touches h_regs h_out h_host h_latches ?_
      refine State.putStore_touches h_ucs ?_
      assumption

theorem execResyncComplete_touches {ps : Piece → Prop} {s0 : State} (h_regs : ps .regs) (h_out : ps .out) (h_host : ps .host) (h_ucs : ps .ucs) {v0 : Fin 32} {v1 : State} (h0 : Touches ps s0 v1) :
    Moves ps s0 (execResyncComplete v0 v1) := by
  unfold execResyncComplete
  refine Moves.next ?_
  refine State.running_touches ?_ ?_
  · assumption
  · intro y0
    intro k1
    lift_lets
    intro x2
    clear_value x2
    refine State.given_touches ?_ ?_
    · assumption
    · intro y3
      intro k4
      refine setUcsState_touches h_regs h_out h_host ?_
      refine writeBank_touches h_regs h_ucs ?_
      assumption

theorem execPoisonRewrite_touches {ps : Piece → Prop} {s0 : State} (h_regs : ps .regs) (h_out : ps .out) (h_host : ps .host) (h_latches : ps .latches) (h_ucs : ps .ucs) {v0 : Fin 32} {v1 : Fin 32768} {v2 : State} (h0 : Touches ps s0 v2) :
    Moves ps s0 (execPoisonRewrite v0 v1 v2) := by
  unfold execPoisonRewrite
  refine Moves.next ?_
  refine State.running_touches ?_ ?_
  · assumption
  · intro y0
    intro k1
    lift_lets
    intro x2
    clear_value x2
    intro x3
    clear_value x3
    refine State.given_touches ?_ ?_
    · assumption
    · intro y4
      intro k5
      refine Touches.ite ?_ ?_
      · refine patch_touches h_regs h_out h_host h_latches h_ucs ?_
        assumption
      · refine State.putStore_touches h_ucs ?_
        assumption

theorem execEngineAssign_touches {ps : Piece → Prop} {s0 : State} (h_regs : ps .regs) (h_out : ps .out) (h_ddr : ps .ddr) (h_poison : ps .poison) (h_host : ps .host) (h_latches : ps .latches) (h_ucs : ps .ucs) (h_tbl : ps .tbl) (h_palm : ps .palm) (h_ldg : ps .ldg) (h_vsr : ps .vsr) {v0 : Bool} {v1 : ℕ} {v2 : List ℕ} {v3 : State} (h0 : Touches ps s0 v3) :
    Moves ps s0 (execEngineAssign v0 v1 v2 v3) := by
  unfold execEngineAssign
  refine Moves.next ?_
  refine State.running_touches ?_ ?_
  · assumption
  · intro y0
    intro k1
    refine Touches.ite ?_ ?_
    · refine State.onReplica_touches ?_ ?_
      · assumption
      · intro y2
        intro y3
        intro y4
        intro k5
        refine State.given_touches ?_ ?_
        · assumption
        · intro y6
          intro k7
          lift_lets
          intro x8
          have hx9 : Touches ps s0 x8 := by
            unfold x8
            refine State.putReplica_touches h_palm ?_
            assumption
          clear_value x8
          refine assignEngine_touches h_regs h_out h_ddr h_poison h_host h_latches h_ucs h_tbl h_palm h_ldg h_vsr ?_
          assumption
    · refine State.onFrame_touches ?_ ?_
      · assumption
      · intro y10
        intro y11
        intro k12
        split
        · refine startProgram_touches h_regs h_out h_ddr h_poison h_host h_latches h_ucs h_tbl h_palm h_ldg h_vsr ?_
          assumption
        · refine assignEngine_touches h_regs h_out h_ddr h_poison h_host h_latches h_ucs h_tbl h_palm h_ldg h_vsr ?_
          assumption
        · assumption

theorem execSearchResultWritten_touches {ps : Piece → Prop} {s0 : State} (h_regs : ps .regs) (h_out : ps .out) (h_ddr : ps .ddr) (h_poison : ps .poison) (h_host : ps .host) (h_latches : ps .latches) (h_palm : ps .palm) (h_ldg : ps .ldg) (h_vsr : ps .vsr) {v0 : ℕ} {v1 : Fin 3} {v2 : State} (h0 : Touches ps s0 v2) :
    Moves ps s0 (execSearchResultWritten v0 v1 v2) := by
  unfold execSearchResultWritten
  refine Moves.next ?_
  refine State.running_touches ?_ ?_
  · assumption
  · intro y0
    intro k1
    refine State.onFrame_touches ?_ ?_
    · assumption
    · intro y2
      intro y3
      intro k4
      split
      · assumption
      · refine Touches.ite ?_ ?_
        · refine dropAtIngress_touches h_regs h_out h_ddr h_poison h_host h_latches h_palm h_ldg h_vsr ?_
          refine State.vector_touches h_out h_host ?_
          refine State.raise_touches h_regs h_out h_host h_latches ?_
          assumption
        · lift_lets
          intro x5
          have hx6 : Touches ps s0 x5 := by
            unfold x5
            refine State.putFrame_touches h_palm ?_
            assumption
          clear_value x5
          refine Touches.ite ?_ ?_
          · refine State.vector_touches h_out h_host ?_
            refine State.raise_touches h_regs h_out h_host h_latches ?_
            assumption
          · assumption

theorem execArm_touches {ps : Piece → Prop} {s0 : State} (h_regs : ps .regs) (h_latches : ps .latches) (h_mtn : ps .mtn) {v0 : Fin 32} {v1 : State} (h0 : Touches ps s0 v1) :
    Moves ps s0 (execArm v0 v1) := by
  unfold execArm
  refine Moves.next ?_
  refine State.written_touches h_regs h_latches h_mtn ?_ ?_
  · assumption
  · intro y0
    intro k1
    refine arm_touches h_regs h_latches ?_
    assumption

theorem execBankAbort_touches {ps : Piece → Prop} {s0 : State} (h_regs : ps .regs) (h_out : ps .out) (h_host : ps .host) (h_latches : ps .latches) (h_mtn : ps .mtn) {v0 : Fin 32} {v1 : State} (h0 : Touches ps s0 v1) :
    Moves ps s0 (execBankAbort v0 v1) := by
  unfold execBankAbort
  refine Moves.next ?_
  refine State.written_touches h_regs h_latches h_mtn ?_ ?_
  · assumption
  · intro y0
    intro k1
    refine bankAbort_touches h_regs h_out h_host h_latches ?_
    assumption

theorem execClearStats_touches {ps : Piece → Prop} {s0 : State} (h_regs : ps .regs) (h_latches : ps .latches) (h_mtn : ps .mtn) {v0 : Fin 32} {v1 : State} (h0 : Touches ps s0 v1) :
    Moves ps s0 (execClearStats v0 v1) := by
  unfold execClearStats
  refine Moves.next ?_
  refine State.written_touches h_regs h_latches h_mtn ?_ ?_
  · assumption
  · intro y0
    intro k1
    refine clearStats_touches h_regs ?_
    assumption

theorem startLoad_touches {ps : Piece → Prop} {s0 : State} (h_regs : ps .regs) (h_out : ps .out) (h_host : ps .host) (h_ucs : ps .ucs) {v0 : ℕ} {v1 : Section} {v2 : State} (h0 : Touches ps s0 v2) :
    Touches ps s0 (startLoad v0 v1 v2) := by
  unfold startLoad
  lift_lets
  intro x0
  clear_value x0
  refine setUcsState_touches h_regs h_out h_host ?_
  refine State.putStore_touches h_ucs ?_
  assumption

end Sys2Proof.Machine
end

