-- ==== Sys2Proof/Laws/TouchForward.lean ====
section
/-! SUPPORT. What the operations of Machine/Forward.lean may touch: one lemma for each. -/

set_option maxRecDepth 10000

namespace Sys2Proof.Machine

theorem rebase_touches {ps : Piece → Prop} {s0 : State} (h_pwc : ps .pwc) {v0 : State} (h0 : Touches ps s0 v0) :
    Touches ps s0 (rebase v0) := by
  unfold rebase
  lift_lets
  intro x0
  clear_value x0
  intro x1
  clear_value x1
  refine (Touches.upd_pwc h_pwc ?_)
  assumption

theorem State.putRel_touches {ps : Piece → Prop} {s0 : State} (h_timing : ps .timing) {v0 : State} {v1 : ℕ} {v2 : RelGroup} (h0 : Touches ps s0 v0) :
    Touches ps s0 (State.putRel v0 v1 v2) := by
  unfold State.putRel
  lift_lets
  intro x0
  clear_value x0
  refine (Touches.upd_timing h_timing ?_)
  assumption

theorem finishReplica_touches {ps : Piece → Prop} {s0 : State} (h_regs : ps .regs) (h_out : ps .out) (h_ddr : ps .ddr) (h_poison : ps .poison) (h_host : ps .host) (h_latches : ps .latches) (h_brim : ps .brim) (h_palm : ps .palm) (h_ldg : ps .ldg) (h_vsr : ps .vsr) {v0 : ℕ} {v1 : State} (h0 : Touches ps s0 v1) :
    Touches ps s0 (finishReplica v0 v1) := by
  unfold finishReplica
  refine State.onReplica_touches ?_ ?_
  · assumption
  · intro y0
    intro y1
    intro y2
    intro k3
    lift_lets
    intro x4
    clear_value x4
    intro x5
    clear_value x5
    intro x6
    have hx7 : Touches ps s0 x6 := by
      unfold x6
      refine State.count_touches h_regs h_vsr ?_
      refine State.count_touches h_regs h_vsr ?_
      refine State.count_touches h_regs h_vsr ?_
      refine State.count_touches h_regs h_vsr ?_
      assumption
    clear_value x6
    intro x8
    clear_value x8
    intro x9
    have hx10 : Touches ps s0 x9 := by
      unfold x9
      refine State.send_touches h_out ?_
      assumption
    clear_value x9
    intro x11
    clear_value x11
    intro x12
    have hx13 : Touches ps s0 x12 := by
      unfold x12
      refine settle_touches h_regs h_out h_ddr h_poison h_host h_latches h_palm h_ldg h_vsr ?_
      assumption
    clear_value x12
    intro x14
    have hx15 : Touches ps s0 x14 := by
      unfold x14
      refine removeReplica_touches h_regs h_out h_host h_latches h_palm h_vsr ?_
      assumption
    clear_value x14
    intro x16
    clear_value x16
    intro x17
    clear_value x17
    split
    · refine State.putReplica_touches h_palm ?_
      assumption
    · refine (Touches.upd_brim h_brim ?_)
      assumption

theorem excludeReplica_touches {ps : Piece → Prop} {s0 : State} (h_regs : ps .regs) (h_out : ps .out) (h_ddr : ps .ddr) (h_poison : ps .poison) (h_host : ps .host) (h_latches : ps .latches) (h_palm : ps .palm) (h_ldg : ps .ldg) (h_vsr : ps .vsr) {v0 : ℕ} {v1 : ℕ} {v2 : State} (h0 : Touches ps s0 v2) :
    Touches ps s0 (excludeReplica v0 v1 v2) := by
  unfold excludeReplica
  split
  · assumption
  · lift_lets
    intro x0
    clear_value x0
    intro x1
    clear_value x1
    intro x2
    have hx3 : Touches ps s0 x2 := by
      unfold x2
      refine Touches.ite ?_ ?_
      · assumption
      · refine State.count_touches h_regs h_vsr ?_
        refine State.putBitAt_touches h_regs ?_
        assumption
    clear_value x2
    refine dropReplica_touches h_regs h_out h_ddr h_poison h_host h_latches h_palm h_ldg h_vsr ?_
    refine State.raise_touches h_regs h_out h_host h_latches ?_
    refine State.count_touches h_regs h_vsr ?_
    assumption

theorem flushPort_touches {ps : Piece → Prop} {s0 : State} (h_regs : ps .regs) (h_out : ps .out) (h_ddr : ps .ddr) (h_poison : ps .poison) (h_host : ps .host) (h_latches : ps .latches) (h_brim : ps .brim) (h_palm : ps .palm) (h_ldg : ps .ldg) (h_vsr : ps .vsr) {v0 : ℕ} {v1 : State} (h0 : Touches ps s0 v1) :
    Touches ps s0 (flushPort v0 v1) := by
  unfold flushPort
  lift_lets
  intro x0
  clear_value x0
  refine Touches.ite ?_ ?_
  · assumption
  · refine State.raise_touches h_regs h_out h_host h_latches ?_
    refine Touches.foldl (fun _ _ _ => ?_) ?_
    · split
      · refine Touches.ite ?_ ?_
        · refine finishReplica_touches h_regs h_out h_ddr h_poison h_host h_latches h_brim h_palm h_ldg h_vsr ?_
          refine stompReplica_touches h_regs h_out h_host h_latches h_palm h_vsr ?_
          assumption
        · refine Touches.ite ?_ ?_
          · refine excludeReplica_touches h_regs h_out h_ddr h_poison h_host h_latches h_palm h_ldg h_vsr ?_
            assumption
          · refine dropReplica_touches h_regs h_out h_ddr h_poison h_host h_latches h_palm h_ldg h_vsr ?_
            assumption
      · assumption
    · assumption

theorem countTail_touches {ps : Piece → Prop} {s0 : State} (h_regs : ps .regs) (h_vsr : ps .vsr) {v0 : ℕ} {v1 : ℕ} {v2 : T80} {v3 : Option ℕ} {v4 : State} (h0 : Touches ps s0 v4) :
    Touches ps s0 (countTail v0 v1 v2 v3 v4) := by
  unfold countTail
  split
  · refine State.count_touches h_regs h_vsr ?_
    refine State.count_touches h_regs h_vsr ?_
    assumption
  · refine Touches.ite ?_ ?_
    · refine State.count_touches h_regs h_vsr ?_
      assumption
    · assumption

theorem countEnqueued_touches {ps : Piece → Prop} {s0 : State} (h_regs : ps .regs) (h_vsr : ps .vsr) {v0 : ℕ} {v1 : ℕ} {v2 : State} (h0 : Touches ps s0 v2) :
    Touches ps s0 (countEnqueued v0 v1 v2) := by
  unfold countEnqueued
  refine Touches.foldl (fun _ _ _ => ?_) ?_
  · split
    · refine State.count_touches h_regs h_vsr ?_
      assumption
    · assumption
  · assumption

theorem trimReplica_touches {ps : Piece → Prop} {s0 : State} (h_palm : ps .palm) {v0 : ℕ} {v1 : ℕ} {v2 : State} (h0 : Touches ps s0 v2) :
    Touches ps s0 (trimReplica v0 v1 v2) := by
  unfold trimReplica
  split
  · assumption
  · lift_lets
    intro x0
    clear_value x0
    intro x1
    clear_value x1
    intro x2
    clear_value x2
    intro x3
    clear_value x3
    refine State.putQueue_touches h_palm ?_
    refine State.putReplica_touches h_palm ?_
    assumption

theorem returnSurplus_touches {ps : Piece → Prop} {s0 : State} (h_regs : ps .regs) (h_out : ps .out) (h_host : ps .host) (h_latches : ps .latches) (h_palm : ps .palm) (h_vsr : ps .vsr) {v0 : ℕ} {v1 : State} (h0 : Touches ps s0 v1) :
    Touches ps s0 (returnSurplus v0 v1) := by
  unfold returnSurplus
  refine State.onFrame_touches ?_ ?_
  · assumption
  · intro y0
    intro y1
    intro k2
    lift_lets
    intro x3
    clear_value x3
    intro x4
    clear_value x4
    intro x5
    have hx6 : Touches ps s0 x5 := by
      unfold x5
      refine Touches.foldl (fun _ _ _ => ?_) ?_
      · refine trimReplica_touches h_palm ?_
        assumption
      · assumption
    clear_value x5
    refine Touches.ite ?_ ?_
    · assumption
    · split
      lift_lets
      intro x7
      have hx8 : Touches ps s0 x7 := by
        unfold x7
        refine returnPg_touches h_regs h_out h_palm h_vsr ?_
        refine returnLate_touches h_regs h_palm ?_
        refine State.putFrame_touches h_palm ?_
        assumption
      clear_value x7
      refine Touches.foldl (fun _ _ _ => ?_) ?_
      · refine freeLive_touches h_regs h_out h_host h_latches ?_
        assumption
      · assumption

theorem refreshStore_touches {ps : Piece → Prop} {s0 : State} (h_regs : ps .regs) {v0 : ℕ} {v1 : State} (h0 : Touches ps s0 v1) :
    Touches ps s0 (refreshStore v0 v1) := by
  unfold refreshStore
  lift_lets
  intro x0
  have hx1 : Touches ps s0 x0 := by
    unfold x0
    refine State.wr_touches h_regs ?_
    assumption
  clear_value x0
  refine Touches.foldl (fun _ _ _ => ?_) ?_
  · refine State.wr_touches h_regs ?_
    refine State.wr_touches h_regs ?_
    assumption
  · assumption

theorem State.putMerge_touches {ps : Piece → Prop} {s0 : State} (h_timing : ps .timing) {v0 : State} {v1 : ℕ} {v2 : MergeGroup} (h0 : Touches ps s0 v0) :
    Touches ps s0 (State.putMerge v0 v1 v2) := by
  unfold State.putMerge
  lift_lets
  intro x0
  clear_value x0
  refine (Touches.upd_timing h_timing ?_)
  assumption

theorem forgetHeld_touches {ps : Piece → Prop} {s0 : State} (h_regs : ps .regs) (h_timing : ps .timing) {v0 : ℕ} {v1 : State} (h0 : Touches ps s0 v1) :
    Touches ps s0 (forgetHeld v0 v1) := by
  unfold forgetHeld
  split
  · refine refreshStore_touches h_regs ?_
    refine State.putMerge_touches h_timing ?_
    assumption
  · assumption

theorem cutReplicas_touches {ps : Piece → Prop} {s0 : State} (h_palm : ps .palm) {v0 : ℕ} {v1 : State} (h0 : Touches ps s0 v1) :
    Touches ps s0 (cutReplicas v0 v1) := by
  unfold cutReplicas
  refine Touches.foldl (fun _ _ _ => ?_) ?_
  · refine State.onReplica_touches ?_ ?_
    · assumption
    · intro y0
      intro y1
      intro y2
      intro k3
      refine Touches.ite ?_ ?_
      · refine State.putReplica_touches h_palm ?_
        assumption
      · assumption
  · assumption

theorem badTail_touches {ps : Piece → Prop} {s0 : State} (h_regs : ps .regs) (h_out : ps .out) (h_ddr : ps .ddr) (h_poison : ps .poison) (h_host : ps .host) (h_latches : ps .latches) (h_palm : ps .palm) (h_timing : ps .timing) (h_ldg : ps .ldg) (h_vsr : ps .vsr) {v0 : ℕ} {v1 : ℕ} {v2 : State} (h0 : Touches ps s0 v2) :
    Touches ps s0 (badTail v0 v1 v2) := by
  unfold badTail
  refine State.onFrame_touches ?_ ?_
  · assumption
  · intro y0
    intro y1
    intro k2
    refine Touches.ite ?_ ?_
    · refine dropAtIngress_touches h_regs h_out h_ddr h_poison h_host h_latches h_palm h_ldg h_vsr ?_
      refine forgetHeld_touches h_regs h_timing ?_
      assumption
    · lift_lets
      intro x3
      clear_value x3
      intro x4
      clear_value x4
      intro x5
      have hx6 : Touches ps s0 x5 := by
        unfold x5
        refine Touches.foldl (fun _ _ _ => ?_) ?_
        · refine stompReplica_touches h_regs h_out h_host h_latches h_palm h_vsr ?_
          assumption
        · refine Touches.ite ?_ ?_
          · assumption
          · refine State.count_touches h_regs h_vsr ?_
            assumption
      clear_value x5
      refine dropStored_touches h_regs h_out h_ddr h_poison h_host h_latches h_palm h_ldg h_vsr ?_
      refine cutReplicas_touches h_palm ?_
      assumption

theorem tailVerdict_touches {ps : Piece → Prop} {s0 : State} (h_regs : ps .regs) (h_out : ps .out) (h_ddr : ps .ddr) (h_poison : ps .poison) (h_host : ps .host) (h_latches : ps .latches) (h_tbl : ps .tbl) (h_palm : ps .palm) (h_timing : ps .timing) (h_ldg : ps .ldg) (h_vsr : ps .vsr) {v0 : ℕ} {v1 : Bool} {v2 : Bool} {v3 : Bool} {v4 : State} (h0 : Touches ps s0 v4) :
    Touches ps s0 (tailVerdict v0 v1 v2 v3 v4) := by
  unfold tailVerdict
  split
  · split
    · assumption
    · lift_lets
      intro x0
      clear_value x0
      intro x1
      clear_value x1
      intro x2
      have hx3 : Touches ps s0 x2 := by
        unfold x2
        refine countTail_touches h_regs h_vsr ?_
        refine (Touches.upd_palm h_palm ?_)
        assumption
      clear_value x2
      intro x4
      have hx5 : Touches ps s0 x4 := by
        unfold x4
        refine Touches.ite ?_ ?_
        · refine State.bump_touches h_regs h_latches ?_
          assumption
        · assumption
      clear_value x4
      split
      · refine Touches.ite ?_ ?_
        · refine learnEvent_touches h_regs h_out h_host h_latches h_tbl ?_
          assumption
        · assumption
      · assumption
  · refine Touches.ite ?_ ?_
    · assumption
    · lift_lets
      intro x6
      clear_value x6
      intro x7
      clear_value x7
      intro x8
      have hx9 : Touches ps s0 x8 := by
        unfold x8
        refine countTail_touches h_regs h_vsr ?_
        refine State.putFrame_touches h_palm ?_
        assumption
      clear_value x8
      intro x10
      have hx11 : Touches ps s0 x10 := by
        unfold x10
        refine Touches.ite ?_ ?_
        · refine State.bump_touches h_regs h_latches ?_
          assumption
        · assumption
      clear_value x10
      intro x12
      have hx13 : Touches ps s0 x12 := by
        unfold x12
        refine countEnqueued_touches h_regs h_vsr ?_
        refine returnSurplus_touches h_regs h_out h_host h_latches h_palm h_vsr ?_
        assumption
      clear_value x12
      refine Touches.ite ?_ ?_
      · split
        · refine Touches.ite ?_ ?_
          · refine learnEvent_touches h_regs h_out h_host h_latches h_tbl ?_
            assumption
          · assumption
        · assumption
      · refine badTail_touches h_regs h_out h_ddr h_poison h_host h_latches h_palm h_timing h_ldg h_vsr ?_
        assumption

theorem receiveFrame_touches {ps : Piece → Prop} {s0 : State} (h_regs : ps .regs) (h_free : ps .free) (h_out : ps .out) (h_ddr : ps .ddr) (h_poison : ps .poison) (h_host : ps .host) (h_latches : ps .latches) (h_stamps : ps .stamps) (h_palm : ps .palm) (h_ldg : ps .ldg) (h_vsr : ps .vsr) {v0 : ℕ} {v1 : RxTap} {v2 : List Byte} {v3 : Bool} {v4 : State} (h0 : Touches ps s0 v4) :
    Touches ps s0 (receiveFrame v0 v1 v2 v3 v4) := by
  unfold receiveFrame
  split
  refine Touches.ite ?_ ?_
  · refine Touches.ite ?_ ?_
    · refine Touches.of_snd2 (by assumption) ?_
      refine ingressStamp_touches h_regs h_free h_out h_host h_latches h_stamps ?_
      assumption
    · refine State.raise_touches h_regs h_out h_host h_latches ?_
      refine State.count_touches h_regs h_vsr ?_
      refine Touches.of_snd2 (by assumption) ?_
      refine ingressStamp_touches h_regs h_free h_out h_host h_latches h_stamps ?_
      assumption
  · lift_lets
    intro x0
    clear_value x0
    intro x1
    clear_value x1
    intro x2
    have hx3 : Touches ps s0 x2 := by
      unfold x2
      refine State.putFrame_touches h_palm ?_
      refine (Touches.upd_palm h_palm ?_)
      refine Touches.of_snd2 (by assumption) ?_
      refine ingressStamp_touches h_regs h_free h_out h_host h_latches h_stamps ?_
      assumption
    clear_value x2
    refine Touches.ite ?_ ?_
    · refine dropAtIngress_touches h_regs h_out h_ddr h_poison h_host h_latches h_palm h_ldg h_vsr ?_
      refine State.count_touches h_regs h_vsr ?_
      assumption
    · assumption

theorem execFrameReceive_touches {ps : Piece → Prop} {s0 : State} (h_regs : ps .regs) (h_free : ps .free) (h_out : ps .out) (h_ddr : ps .ddr) (h_poison : ps .poison) (h_host : ps .host) (h_latches : ps .latches) (h_stamps : ps .stamps) (h_palm : ps .palm) (h_ldg : ps .ldg) (h_vsr : ps .vsr) {v0 : Fin 1024} {v1 : RxTap} {v2 : List Byte} {v3 : Bool} {v4 : State} (h0 : Touches ps s0 v4) :
    Moves ps s0 (execFrameReceive v0 v1 v2 v3 v4) := by
  unfold execFrameReceive
  refine Moves.next ?_
  refine State.given_touches ?_ ?_
  · assumption
  · intro y0
    intro k1
    refine Touches.ite ?_ ?_
    · refine State.count_touches h_regs h_vsr ?_
      assumption
    · refine State.running_touches ?_ ?_
      · assumption
      · intro y2
        intro k3
        refine receiveFrame_touches h_regs h_free h_out h_ddr h_poison h_host h_latches h_stamps h_palm h_ldg h_vsr ?_
        assumption

theorem storeInstead_touches {ps : Piece → Prop} {s0 : State} (h_palm : ps .palm) {v0 : ℕ} {v1 : State} (h0 : Touches ps s0 v1) :
    Touches ps s0 (storeInstead v0 v1) := by
  unfold storeInstead
  refine State.onReplica_touches ?_ ?_
  · assumption
  · intro y0
    intro y1
    intro y2
    intro k3
    refine State.putFrame_touches h_palm ?_
    refine State.putReplica_touches h_palm ?_
    assumption

theorem preempt_touches {ps : Piece → Prop} {s0 : State} (h_regs : ps .regs) (h_palm : ps .palm) (h_vsr : ps .vsr) {v0 : ℕ} {v1 : State} (h0 : Touches ps s0 v1) :
    Touches ps s0 (preempt v0 v1) := by
  unfold preempt
  split
  · lift_lets
    intro x0
    have hx1 : Touches ps s0 x0 := by
      unfold x0
      refine Touches.ite ?_ ?_
      · assumption
      · refine State.count_touches h_regs h_vsr ?_
        assumption
    clear_value x0
    refine State.putReplica_touches h_palm ?_
    assumption
  · assumption

theorem enterQueue_touches {ps : Piece → Prop} {s0 : State} (h_regs : ps .regs) (h_out : ps .out) (h_palm : ps .palm) (h_vsr : ps .vsr) {v0 : ℕ} {v1 : Target} {v2 : ℕ} {v3 : ℕ} {v4 : Grant} {v5 : ℕ} {v6 : Bool} {v7 : State} (h0 : Touches ps s0 v7) :
    Touches ps s0 (enterQueue v0 v1 v2 v3 v4 v5 v6 v7) := by
  unfold enterQueue
  refine State.onFrame_touches ?_ ?_
  · assumption
  · intro y0
    intro y1
    intro k2
    lift_lets
    intro x3
    clear_value x3
    intro x4
    clear_value x4
    intro x5
    clear_value x5
    intro x6
    have hx7 : Touches ps s0 x6 := by
      unfold x6
      refine Touches.ite ?_ ?_
      · refine State.putSched_touches h_palm ?_
        assumption
      · assumption
    clear_value x6
    split
    · split
      · dsimp only
        split
        · refine State.onFrame_touches ?_ ?_
          · refine State.onFrame_touches ?_ ?_
            · refine Touches.ite ?_ ?_
              · refine State.count_touches h_regs h_vsr ?_
                refine State.drop_touches h_regs ?_
                refine State.putReplica_touches h_palm ?_
                refine (Touches.upd_palm h_palm ?_)
                refine State.putQueue_touches h_palm ?_
                refine preempt_touches h_regs h_palm h_vsr ?_
                split
                · refine storeInstead_touches h_palm ?_
                  assumption
                · assumption
              · refine State.count_touches h_regs h_vsr ?_
                refine State.count_touches h_regs h_vsr ?_
                refine State.drop_touches h_regs ?_
                refine State.putReplica_touches h_palm ?_
                refine (Touches.upd_palm h_palm ?_)
                refine State.putQueue_touches h_palm ?_
                refine preempt_touches h_regs h_palm h_vsr ?_
                split
                · refine storeInstead_touches h_palm ?_
                  assumption
                · assumption
            · intro y8
              intro y9
              intro k10
              refine State.putFrame_touches h_palm ?_
              assumption
          · intro y11
            intro y12
            intro k13
            refine setXoff_touches h_regs h_out h_palm h_vsr ?_
            refine State.putPg_touches h_palm ?_
            refine chargePools_touches h_regs ?_
            refine State.putFrame_touches h_palm ?_
            assumption
        · refine State.onFrame_touches ?_ ?_
          · refine State.count_touches h_regs h_vsr ?_
            refine State.drop_touches h_regs ?_
            refine State.putReplica_touches h_palm ?_
            refine (Touches.upd_palm h_palm ?_)
            refine State.putQueue_touches h_palm ?_
            split
            · assumption
            · assumption
          · intro y14
            intro y15
            intro k16
            refine setXoff_touches h_regs h_out h_palm h_vsr ?_
            refine State.putPg_touches h_palm ?_
            refine chargePools_touches h_regs ?_
            refine State.putFrame_touches h_palm ?_
            assumption
      · dsimp only
        split
        · refine State.onFrame_touches ?_ ?_
          · refine State.onFrame_touches ?_ ?_
            · refine Touches.ite ?_ ?_
              · refine State.count_touches h_regs h_vsr ?_
                refine State.drop_touches h_regs ?_
                refine State.putReplica_touches h_palm ?_
                refine (Touches.upd_palm h_palm ?_)
                refine State.putQueue_touches h_palm ?_
                refine preempt_touches h_regs h_palm h_vsr ?_
                split
                · refine storeInstead_touches h_palm ?_
                  assumption
                · assumption
              · refine State.count_touches h_regs h_vsr ?_
                refine State.count_touches h_regs h_vsr ?_
                refine State.drop_touches h_regs ?_
                refine State.putReplica_touches h_palm ?_
                refine (Touches.upd_palm h_palm ?_)
                refine State.putQueue_touches h_palm ?_
                refine preempt_touches h_regs h_palm h_vsr ?_
                split
                · refine storeInstead_touches h_palm ?_
                  assumption
                · assumption
            · intro y17
              intro y18
              intro k19
              refine State.putFrame_touches h_palm ?_
              assumption
          · intro y20
            intro y21
            intro k22
            refine State.putPg_touches h_palm ?_
            refine chargePools_touches h_regs ?_
            refine State.putFrame_touches h_palm ?_
            assumption
        · refine State.onFrame_touches ?_ ?_
          · refine State.count_touches h_regs h_vsr ?_
            refine State.drop_touches h_regs ?_
            refine State.putReplica_touches h_palm ?_
            refine (Touches.upd_palm h_palm ?_)
            refine State.putQueue_touches h_palm ?_
            split
            · assumption
            · assumption
          · intro y23
            intro y24
            intro k25
            refine State.putPg_touches h_palm ?_
            refine chargePools_touches h_regs ?_
            refine State.putFrame_touches h_palm ?_
            assumption
    · dsimp only
      split
      · refine State.onFrame_touches ?_ ?_
        · refine State.onFrame_touches ?_ ?_
          · refine Touches.ite ?_ ?_
            · refine State.count_touches h_regs h_vsr ?_
              refine State.drop_touches h_regs ?_
              refine State.putReplica_touches h_palm ?_
              refine (Touches.upd_palm h_palm ?_)
              refine State.putQueue_touches h_palm ?_
              refine preempt_touches h_regs h_palm h_vsr ?_
              split
              · refine storeInstead_touches h_palm ?_
                assumption
              · assumption
            · refine State.count_touches h_regs h_vsr ?_
              refine State.count_touches h_regs h_vsr ?_
              refine State.drop_touches h_regs ?_
              refine State.putReplica_touches h_palm ?_
              refine (Touches.upd_palm h_palm ?_)
              refine State.putQueue_touches h_palm ?_
              refine preempt_touches h_regs h_palm h_vsr ?_
              split
              · refine storeInstead_touches h_palm ?_
                assumption
              · assumption
          · intro y26
            intro y27
            intro k28
            refine State.putFrame_touches h_palm ?_
            assumption
        · intro y29
          intro y30
          intro k31
          refine State.putFrame_touches h_palm ?_
          assumption
      · refine State.onFrame_touches ?_ ?_
        · refine State.count_touches h_regs h_vsr ?_
          refine State.drop_touches h_regs ?_
          refine State.putReplica_touches h_palm ?_
          refine (Touches.upd_palm h_palm ?_)
          refine State.putQueue_touches h_palm ?_
          split
          · assumption
          · assumption
        · intro y32
          intro y33
          intro k34
          refine State.putFrame_touches h_palm ?_
          assumption

theorem execFrameTailVerdict_touches {ps : Piece → Prop} {s0 : State} (h_regs : ps .regs) (h_out : ps .out) (h_ddr : ps .ddr) (h_poison : ps .poison) (h_host : ps .host) (h_latches : ps .latches) (h_tbl : ps .tbl) (h_palm : ps .palm) (h_timing : ps .timing) (h_ldg : ps .ldg) (h_vsr : ps .vsr) {v0 : ℕ} {v1 : Bool} {v2 : Bool} {v3 : Bool} {v4 : State} (h0 : Touches ps s0 v4) :
    Moves ps s0 (execFrameTailVerdict v0 v1 v2 v3 v4) := by
  unfold execFrameTailVerdict
  refine Moves.next ?_
  refine State.running_touches ?_ ?_
  · assumption
  · intro y0
    intro k1
    refine tailVerdict_touches h_regs h_out h_ddr h_poison h_host h_latches h_tbl h_palm h_timing h_ldg h_vsr ?_
    assumption

theorem applyEts_touches {ps : Piece → Prop} {s0 : State} (h_regs : ps .regs) (h_brim : ps .brim) (h_palm : ps .palm) {v0 : ℕ} {v1 : State} (h0 : Touches ps s0 v1) :
    Touches ps s0 (applyEts v0 v1) := by
  unfold applyEts
  lift_lets
  intro x0
  clear_value x0
  intro x1
  clear_value x1
  intro x2
  have hx3 : Touches ps s0 x2 := by
    unfold x2
    refine (Touches.upd_brim h_brim ?_)
    assumption
  clear_value x2
  split
  · assumption
  · lift_lets
    intro x4
    have hx5 : Touches ps s0 x4 := by
      unfold x4
      refine Touches.foldl (fun _ _ _ => ?_) ?_
      · refine State.wrx_touches h_regs ?_
        refine State.wrx_touches h_regs ?_
        assumption
      · assumption
    clear_value x4
    intro x6
    clear_value x6
    refine State.putSched_touches h_palm ?_
    assumption

theorem commit_touches {ps : Piece → Prop} {s0 : State} (h_regs : ps .regs) (h_palm : ps .palm) (h_vsr : ps .vsr) {v0 : ℕ} {v1 : Replica} {v2 : State} (h0 : Touches ps s0 v2) :
    Touches ps s0 (commit v0 v1 v2) := by
  unfold commit
  lift_lets
  intro x0
  clear_value x0
  intro x1
  clear_value x1
  intro x2
  have hx3 : Touches ps s0 x2 := by
    unfold x2
    refine State.putSched_touches h_palm ?_
    refine State.putReplica_touches h_palm ?_
    assumption
  clear_value x2
  refine State.onFrame_touches ?_ ?_
  · refine State.count_touches h_regs h_vsr ?_
    assumption
  · intro y4
    intro y5
    intro k6
    refine Touches.ite ?_ ?_
    · refine State.putFrame_touches h_palm ?_
      assumption
    · assumption

theorem schedule_touches {ps : Piece → Prop} {s0 : State} (h_regs : ps .regs) (h_brim : ps .brim) (h_palm : ps .palm) (h_vsr : ps .vsr) (h_pwc : ps .pwc) {v0 : ℕ} {v1 : State} (h0 : Touches ps s0 v1) :
    Touches ps s0 (schedule v0 v1) := by
  unfold schedule
  refine Touches.ite ?_ ?_
  · lift_lets
    intro x0
    have hx1 : Touches ps s0 x0 := by
      unfold x0
      refine applyEts_touches h_regs h_brim h_palm ?_
      assumption
    clear_value x0
    intro x2
    clear_value x2
    intro x3
    clear_value x3
    split
    · refine State.putSched_touches h_palm ?_
      assumption
    · refine Touches.ite ?_ ?_
      · assumption
      · refine Touches.ite ?_ ?_
        · refine State.count_touches h_regs h_vsr ?_
          refine State.count_touches h_regs h_vsr ?_
          refine (Touches.upd_pwc h_pwc ?_)
          assumption
        · refine commit_touches h_regs h_palm h_vsr ?_
          refine State.putSched_touches h_palm ?_
          assumption
  · refine Touches.ite ?_ ?_
    · split
      · refine commit_touches h_regs h_palm h_vsr ?_
        refine preempt_touches h_regs h_palm h_vsr ?_
        assumption
      · assumption
    · assumption

theorem dropUnqueued_touches {ps : Piece → Prop} {s0 : State} (h_regs : ps .regs) (h_out : ps .out) (h_ddr : ps .ddr) (h_poison : ps .poison) (h_host : ps .host) (h_latches : ps .latches) (h_palm : ps .palm) (h_ldg : ps .ldg) (h_vsr : ps .vsr) {v0 : ℕ} {v1 : ℕ} {v2 : Option Target} {v3 : State} (h0 : Touches ps s0 v3) :
    Touches ps s0 (dropUnqueued v0 v1 v2 v3) := by
  unfold dropUnqueued
  refine State.onFrame_touches ?_ ?_
  · assumption
  · intro y0
    intro y1
    intro k2
    lift_lets
    intro x3
    clear_value x3
    refine dropAtIngress_touches h_regs h_out h_ddr h_poison h_host h_latches h_palm h_ldg h_vsr ?_
    refine latchDrop_touches h_regs h_out h_host h_latches ?_
    refine State.putFrame_touches h_palm ?_
    assumption

theorem checkXoff_touches {ps : Piece → Prop} {s0 : State} (h_regs : ps .regs) (h_out : ps .out) (h_palm : ps .palm) (h_vsr : ps .vsr) {v0 : Frame} {v1 : ℕ} {v2 : ℕ} {v3 : State} (h0 : Touches ps s0 v3) :
    Touches ps s0 (checkXoff v0 v1 v2 v3) := by
  unfold checkXoff
  refine Touches.ite ?_ ?_
  · refine setXoff_touches h_regs h_out h_palm h_vsr ?_
    assumption
  · assumption

theorem refuseReplica_touches {ps : Piece → Prop} {s0 : State} (h_regs : ps .regs) (h_out : ps .out) (h_ddr : ps .ddr) (h_poison : ps .poison) (h_host : ps .host) (h_latches : ps .latches) (h_palm : ps .palm) (h_ldg : ps .ldg) (h_vsr : ps .vsr) {v0 : ℕ} {v1 : Target} {v2 : ℕ} {v3 : ℕ} {v4 : State} (h0 : Touches ps s0 v4) :
    Touches ps s0 (refuseReplica v0 v1 v2 v3 v4) := by
  unfold refuseReplica
  refine State.onFrame_touches ?_ ?_
  · assumption
  · intro y0
    intro y1
    intro k2
    lift_lets
    intro x3
    clear_value x3
    intro x4
    have hx5 : Touches ps s0 x4 := by
      unfold x4
      refine latchDrop_touches h_regs h_out h_host h_latches ?_
      refine State.count_touches h_regs h_vsr ?_
      refine countDrop_touches h_regs h_vsr ?_
      assumption
    clear_value x4
    intro x6
    clear_value x6
    refine settle_touches h_regs h_out h_ddr h_poison h_host h_latches h_palm h_ldg h_vsr ?_
    assumption

theorem admitFrame_touches {ps : Piece → Prop} {s0 : State} (h_regs : ps .regs) (h_out : ps .out) (h_ddr : ps .ddr) (h_poison : ps .poison) (h_host : ps .host) (h_latches : ps .latches) (h_palm : ps .palm) (h_ldg : ps .ldg) (h_vsr : ps .vsr) {v0 : ℕ} {v1 : List (Target × ℕ)} {v2 : List ℕ} {v3 : State} (h0 : Touches ps s0 v3) :
    Touches ps s0 (admitFrame v0 v1 v2 v3) := by
  unfold admitFrame
  split
  · assumption
  · refine State.onFrame_touches ?_ ?_
    · assumption
    · intro y0
      intro y1
      intro k2
      lift_lets
      intro x3
      clear_value x3
      intro x4
      clear_value x4
      intro x5
      clear_value x5
      intro x6
      clear_value x6
      intro x7
      clear_value x7
      intro x8
      have hx9 : Touches ps s0 x8 := by
        unfold x8
        refine checkXoff_touches h_regs h_out h_palm h_vsr ?_
        refine State.putFrame_touches h_palm ?_
        assumption
      clear_value x8
      split
      · split
        · dsimp only
          split
          · refine Touches.ite ?_ ?_
            · split
              · assumption
              · refine Touches.foldl (fun _ _ _ => ?_) ?_
                · refine refuseReplica_touches h_regs h_out h_ddr h_poison h_host h_latches h_palm h_ldg h_vsr ?_
                  assumption
                · refine State.onFrame_touches ?_ ?_
                  · refine Touches.of_some (by assumption) ?_
                    refine takeCells_touches h_regs h_latches ?_
                    refine Touches.foldl_fst (fun _ _ _ => ?_) ?_
                    · split
                      · assumption
                      · dsimp only
                        refine enterQueue_touches h_regs h_out h_palm h_vsr ?_
                        assumption
                    · assumption
                  · intro y10
                    intro y11
                    intro k12
                    refine State.putFrame_touches h_palm ?_
                    assumption
            · refine dropUnqueued_touches h_regs h_out h_ddr h_poison h_host h_latches h_palm h_ldg h_vsr ?_
              refine Touches.foldl (fun _ _ _ => ?_) ?_
              · refine State.count_touches h_regs h_vsr ?_
                refine Touches.ite ?_ ?_
                · refine State.raise_touches h_regs h_out h_host h_latches ?_
                  assumption
                · assumption
              · assumption
          · refine Touches.ite ?_ ?_
            · split
              · assumption
              · refine Touches.foldl (fun _ _ _ => ?_) ?_
                · refine refuseReplica_touches h_regs h_out h_ddr h_poison h_host h_latches h_palm h_ldg h_vsr ?_
                  assumption
                · refine State.onFrame_touches ?_ ?_
                  · refine Touches.of_some (by assumption) ?_
                    refine takeCells_touches h_regs h_latches ?_
                    refine Touches.foldl_fst (fun _ _ _ => ?_) ?_
                    · split
                      · assumption
                      · dsimp only
                        refine enterQueue_touches h_regs h_out h_palm h_vsr ?_
                        assumption
                    · assumption
                  · intro y13
                    intro y14
                    intro k15
                    refine State.putFrame_touches h_palm ?_
                    assumption
            · refine dropUnqueued_touches h_regs h_out h_ddr h_poison h_host h_latches h_palm h_ldg h_vsr ?_
              refine Touches.foldl (fun _ _ _ => ?_) ?_
              · refine State.count_touches h_regs h_vsr ?_
                refine Touches.ite ?_ ?_
                · refine State.raise_touches h_regs h_out h_host h_latches ?_
                  assumption
                · assumption
              · assumption
        · dsimp only
          split
          · refine Touches.ite ?_ ?_
            · split
              · assumption
              · refine Touches.foldl (fun _ _ _ => ?_) ?_
                · refine refuseReplica_touches h_regs h_out h_ddr h_poison h_host h_latches h_palm h_ldg h_vsr ?_
                  assumption
                · refine State.onFrame_touches ?_ ?_
                  · refine Touches.of_some (by assumption) ?_
                    refine takeCells_touches h_regs h_latches ?_
                    refine Touches.foldl_fst (fun _ _ _ => ?_) ?_
                    · split
                      · assumption
                      · dsimp only
                        refine enterQueue_touches h_regs h_out h_palm h_vsr ?_
                        assumption
                    · assumption
                  · intro y16
                    intro y17
                    intro k18
                    refine State.putFrame_touches h_palm ?_
                    assumption
            · split
              · refine State.dropFrame_touches h_palm ?_
                refine refuseReplica_touches h_regs h_out h_ddr h_poison h_host h_latches h_palm h_ldg h_vsr ?_
                assumption
              · assumption
          · refine Touches.ite ?_ ?_
            · split
              · assumption
              · refine Touches.foldl (fun _ _ _ => ?_) ?_
                · refine refuseReplica_touches h_regs h_out h_ddr h_poison h_host h_latches h_palm h_ldg h_vsr ?_
                  assumption
                · refine State.onFrame_touches ?_ ?_
                  · refine Touches.of_some (by assumption) ?_
                    refine takeCells_touches h_regs h_latches ?_
                    refine Touches.foldl_fst (fun _ _ _ => ?_) ?_
                    · split
                      · assumption
                      · dsimp only
                        refine enterQueue_touches h_regs h_out h_palm h_vsr ?_
                        assumption
                    · assumption
                  · intro y19
                    intro y20
                    intro k21
                    refine State.putFrame_touches h_palm ?_
                    assumption
            · split
              · refine State.dropFrame_touches h_palm ?_
                refine refuseReplica_touches h_regs h_out h_ddr h_poison h_host h_latches h_palm h_ldg h_vsr ?_
                assumption
              · assumption
      · split
        · dsimp only
          split
          · refine Touches.ite ?_ ?_
            · split
              · assumption
              · assumption
            · refine dropUnqueued_touches h_regs h_out h_ddr h_poison h_host h_latches h_palm h_ldg h_vsr ?_
              refine Touches.foldl (fun _ _ _ => ?_) ?_
              · refine State.count_touches h_regs h_vsr ?_
                refine Touches.ite ?_ ?_
                · refine State.raise_touches h_regs h_out h_host h_latches ?_
                  assumption
                · assumption
              · assumption
          · refine Touches.ite ?_ ?_
            · split
              · assumption
              · assumption
            · refine dropUnqueued_touches h_regs h_out h_ddr h_poison h_host h_latches h_palm h_ldg h_vsr ?_
              refine Touches.foldl (fun _ _ _ => ?_) ?_
              · refine State.count_touches h_regs h_vsr ?_
                refine Touches.ite ?_ ?_
                · refine State.raise_touches h_regs h_out h_host h_latches ?_
                  assumption
                · assumption
              · assumption
        · dsimp only
          split
          · refine Touches.ite ?_ ?_
            · split
              · assumption
              · assumption
            · split
              · refine State.dropFrame_touches h_palm ?_
                refine refuseReplica_touches h_regs h_out h_ddr h_poison h_host h_latches h_palm h_ldg h_vsr ?_
                assumption
              · assumption
          · refine Touches.ite ?_ ?_
            · split
              · assumption
              · assumption
            · split
              · refine State.dropFrame_touches h_palm ?_
                refine refuseReplica_touches h_regs h_out h_ddr h_poison h_host h_latches h_palm h_ldg h_vsr ?_
                assumption
              · assumption

theorem placeFrame_touches {ps : Piece → Prop} {s0 : State} (h_regs : ps .regs) (h_out : ps .out) (h_ddr : ps .ddr) (h_poison : ps .poison) (h_host : ps .host) (h_latches : ps .latches) (h_palm : ps .palm) (h_ldg : ps .ldg) (h_vsr : ps .vsr) {v0 : ℕ} {v1 : List (Target × ℕ)} {v2 : List ℕ} {v3 : State} (h0 : Touches ps s0 v3) :
    Touches ps s0 (placeFrame v0 v1 v2 v3) := by
  unfold placeFrame
  lift_lets
  intro x0
  have hx1 : Touches ps s0 x0 := by
    unfold x0
    refine admitFrame_touches h_regs h_out h_ddr h_poison h_host h_latches h_palm h_ldg h_vsr ?_
    assumption
  clear_value x0
  split
  · refine Touches.ite ?_ ?_
    · refine countEnqueued_touches h_regs h_vsr ?_
      refine returnSurplus_touches h_regs h_out h_host h_latches h_palm h_vsr ?_
      assumption
    · assumption
  · assumption

theorem assignQueue_touches {ps : Piece → Prop} {s0 : State} (h_regs : ps .regs) (h_out : ps .out) (h_ddr : ps .ddr) (h_poison : ps .poison) (h_host : ps .host) (h_latches : ps .latches) (h_palm : ps .palm) (h_ldg : ps .ldg) (h_vsr : ps .vsr) {v0 : ℕ} {v1 : List ℕ} {v2 : State} (h0 : Touches ps s0 v2) :
    Touches ps s0 (assignQueue v0 v1 v2) := by
  unfold assignQueue
  refine State.onFrame_touches ?_ ?_
  · assumption
  · intro y0
    intro y1
    intro k2
    lift_lets
    intro x3
    clear_value x3
    refine State.given_touches ?_ ?_
    · assumption
    · intro y4
      intro k5
      split
      · refine dropUnqueued_touches h_regs h_out h_ddr h_poison h_host h_latches h_palm h_ldg h_vsr ?_
        assumption
      · refine placeFrame_touches h_regs h_out h_ddr h_poison h_host h_latches h_palm h_ldg h_vsr ?_
        assumption

theorem runAssigns_touches {ps : Piece → Prop} {s0 : State} (h_regs : ps .regs) (h_out : ps .out) (h_ddr : ps .ddr) (h_poison : ps .poison) (h_host : ps .host) (h_latches : ps .latches) (h_palm : ps .palm) (h_ldg : ps .ldg) (h_vsr : ps .vsr) {v0 : ℕ} {v1 : State} (h0 : Touches ps s0 v1) :
    Touches ps s0 (runAssigns v0 v1) := by
  induction v0 generalizing v1 with
  | zero => exact h0
  | succ n ih =>
    unfold runAssigns
    split
    · refine ih ?_
      apply assignQueue_touches
      all_goals first
        | assumption
        | exact Touches.upd_palm (by assumption) h0
    · exact h0

theorem execQueueAssign_touches {ps : Piece → Prop} {s0 : State} (h_regs : ps .regs) (h_out : ps .out) (h_ddr : ps .ddr) (h_poison : ps .poison) (h_host : ps .host) (h_latches : ps .latches) (h_palm : ps .palm) (h_ldg : ps .ldg) (h_vsr : ps .vsr) {v0 : ℕ} {v1 : List (Fin 1152)} {v2 : State} (h0 : Touches ps s0 v2) :
    Moves ps s0 (execQueueAssign v0 v1 v2) := by
  unfold execQueueAssign
  refine Moves.next ?_
  refine State.running_touches ?_ ?_
  · assumption
  · intro y0
    intro k1
    lift_lets
    intro x2
    clear_value x2
    intro x3
    have hx4 : Touches ps s0 x3 := by
      unfold x3
      refine Touches.ite ?_ ?_
      · refine (Touches.upd_palm h_palm ?_)
        assumption
      · refine assignQueue_touches h_regs h_out h_ddr h_poison h_host h_latches h_palm h_ldg h_vsr ?_
        assumption
    clear_value x3
    refine Touches.ite ?_ ?_
    · assumption
    · refine runAssigns_touches h_regs h_out h_ddr h_poison h_host h_latches h_palm h_ldg h_vsr ?_
      assumption

theorem traceTag_touches {ps : Piece → Prop} {s0 : State} (h_palm : ps .palm) {v0 : ℕ} {v1 : State} (h0 : Touches ps s0 v1) :
    Touches ps s0 (traceTag v0 v1).2 := by
  unfold traceTag
  lift_lets
  intro x0
  clear_value x0
  intro x1
  clear_value x1
  intro x2
  clear_value x2
  split
  · dsimp only
    refine (Touches.upd_palm h_palm ?_)
    assumption
  · assumption

theorem takeSlot_touches {ps : Piece → Prop} {s0 : State} (h_regs : ps .regs) (h_out : ps .out) (h_ddr : ps .ddr) (h_poison : ps .poison) (h_host : ps .host) (h_latches : ps .latches) (h_ucs : ps .ucs) (h_palm : ps .palm) (h_ldg : ps .ldg) (h_vsr : ps .vsr) {v0 : ℕ} {v1 : State} (h0 : Touches ps s0 v1) :
    Touches ps s0 (takeSlot v0 v1) := by
  unfold takeSlot
  split
  · assumption
  · split
    · lift_lets
      intro x0
      clear_value x0
      intro x1
      have hx2 : Touches ps s0 x1 := by
        unfold x1
        refine State.putWait_touches h_ucs ?_
        assumption
      clear_value x1
      refine Touches.ite ?_ ?_
      · assumption
      · refine Touches.ite ?_ ?_
        · refine State.bump_touches h_regs h_latches ?_
          assumption
        · assumption
    · lift_lets
      intro x3
      clear_value x3
      intro x4
      have hx5 : Touches ps s0 x4 := by
        unfold x4
        refine (Touches.upd_palm h_palm ?_)
        assumption
      clear_value x4
      intro x6
      have hx7 : Touches ps s0 x6 := by
        unfold x6
        refine State.count_touches h_regs h_vsr ?_
        assumption
      clear_value x6
      intro x8
      have hx9 : Touches ps s0 x8 := by
        unfold x8
        refine Touches.ite ?_ ?_
        · refine State.count_touches h_regs h_vsr ?_
          assumption
        · assumption
      clear_value x8
      split
      lift_lets
      intro x10
      have hx11 : Touches ps s0 x10 := by
        unfold x10
        refine Touches.ite ?_ ?_
        · refine State.count_touches h_regs h_vsr ?_
          refine Touches.of_snd (by assumption) ?_
          refine traceTag_touches h_palm ?_
          assumption
        · refine Touches.of_snd (by assumption) ?_
          refine traceTag_touches h_palm ?_
          assumption
      clear_value x10
      intro x12
      clear_value x12
      intro x13
      clear_value x13
      intro x14
      clear_value x14
      intro x15
      have hx16 : Touches ps s0 x15 := by
        unfold x15
        refine State.putFrame_touches h_palm ?_
        assumption
      clear_value x15
      refine Touches.ite ?_ ?_
      · refine dropAtIngress_touches h_regs h_out h_ddr h_poison h_host h_latches h_palm h_ldg h_vsr ?_
        refine noteCheck_touches h_regs h_out h_host h_latches h_vsr ?_
        refine State.putFrame_touches h_palm ?_
        assumption
      · assumption

theorem execIngressSlotAssign_touches {ps : Piece → Prop} {s0 : State} (h_regs : ps .regs) (h_out : ps .out) (h_ddr : ps .ddr) (h_poison : ps .poison) (h_host : ps .host) (h_latches : ps .latches) (h_ucs : ps .ucs) (h_palm : ps .palm) (h_ldg : ps .ldg) (h_vsr : ps .vsr) {v0 : Fin 32} {v1 : State} (h0 : Touches ps s0 v1) :
    Moves ps s0 (execIngressSlotAssign v0 v1) := by
  unfold execIngressSlotAssign
  refine Moves.next ?_
  refine State.running_touches ?_ ?_
  · assumption
  · intro y0
    intro k1
    refine takeSlot_touches h_regs h_out h_ddr h_poison h_host h_latches h_ucs h_palm h_ldg h_vsr ?_
    assumption

theorem execSchedulerSelect_touches {ps : Piece → Prop} {s0 : State} (h_regs : ps .regs) (h_brim : ps .brim) (h_palm : ps .palm) (h_vsr : ps .vsr) (h_pwc : ps .pwc) {v0 : Fin 1024} {v1 : State} (h0 : Touches ps s0 v1) :
    Moves ps s0 (execSchedulerSelect v0 v1) := by
  unfold execSchedulerSelect
  refine Moves.next ?_
  refine State.running_touches ?_ ?_
  · assumption
  · intro y0
    intro k1
    refine State.given_touches ?_ ?_
    · assumption
    · intro y2
      intro k3
      refine schedule_touches h_regs h_brim h_palm h_vsr h_pwc ?_
      assumption

theorem execUnderrun_touches {ps : Piece → Prop} {s0 : State} (h_regs : ps .regs) (h_out : ps .out) (h_host : ps .host) (h_latches : ps .latches) (h_palm : ps .palm) (h_vsr : ps .vsr) {v0 : ℕ} {v1 : State} (h0 : Touches ps s0 v1) :
    Moves ps s0 (execUnderrun v0 v1) := by
  unfold execUnderrun
  refine Moves.next ?_
  refine State.running_touches ?_ ?_
  · assumption
  · intro y0
    intro k1
    refine State.onReplica_touches ?_ ?_
    · assumption
    · intro y2
      intro y3
      intro y4
      intro k5
      refine State.given_touches ?_ ?_
      · assumption
      · intro y6
        intro k7
        refine Touches.ite ?_ ?_
        · assumption
        · refine State.count_touches h_regs h_vsr ?_
          refine stompReplica_touches h_regs h_out h_host h_latches h_palm h_vsr ?_
          assumption

theorem ceReplica_touches {ps : Piece → Prop} {s0 : State} (h_regs : ps .regs) (h_out : ps .out) (h_host : ps .host) (h_latches : ps .latches) (h_palm : ps .palm) (h_vsr : ps .vsr) {v0 : ℕ} {v1 : Replica} {v2 : List Byte} {v3 : State} (h0 : Touches ps s0 v3) :
    Touches ps s0 (ceReplica v0 v1 v2 v3).2 := by
  unfold ceReplica
  split
  · assumption
  · split
    · dsimp only
      refine State.raise_touches h_regs h_out h_host h_latches ?_
      refine State.count_touches h_regs h_vsr ?_
      assumption
    · dsimp only
      refine State.putReplica_touches h_palm ?_
      refine State.count_touches h_regs h_vsr ?_
      refine State.count_touches h_regs h_vsr ?_
      assumption
    · assumption

theorem shapeReplica_touches {ps : Piece → Prop} {s0 : State} (h_regs : ps .regs) (h_out : ps .out) (h_host : ps .host) (h_latches : ps .latches) (h_palm : ps .palm) (h_vsr : ps .vsr) {v0 : ℕ} {v1 : T80} {v2 : ℕ} {v3 : Replica} {v4 : Frame} {v5 : State} (h0 : Touches ps s0 v5) :
    ∀ x, shapeReplica v0 v1 v2 v3 v4 v5 = some x → Touches ps s0 x.2 := by
  intro x hx
  unfold shapeReplica at hx
  dsimp only at hx
  have hc : ∀ b, Touches ps s0 (ceReplica v0 v3 b v5).2 := by
    intro b
    apply ceReplica_touches <;> assumption
  repeat' split at hx
  all_goals first
    | (cases hx; done)
    | (cases hx; exact hc _)

theorem noteSkew_touches {ps : Piece → Prop} {s0 : State} (h_regs : ps .regs) (h_timing : ps .timing) {v0 : Replica} {v1 : T80} {v2 : State} (h0 : Touches ps s0 v2) :
    Touches ps s0 (noteSkew v0 v1 v2) := by
  unfold noteSkew
  refine Touches.ite ?_ ?_
  · assumption
  · lift_lets
    intro x0
    clear_value x0
    intro x1
    clear_value x1
    split
    · assumption
    · lift_lets
      intro x2
      clear_value x2
      intro x3
      clear_value x3
      refine State.wr_touches h_regs ?_
      refine State.putRel_touches h_timing ?_
      assumption

theorem transmit_touches {ps : Piece → Prop} {s0 : State} (h_regs : ps .regs) (h_free : ps .free) (h_out : ps .out) (h_ddr : ps .ddr) (h_poison : ps .poison) (h_host : ps .host) (h_latches : ps .latches) (h_stamps : ps .stamps) (h_palm : ps .palm) (h_timing : ps .timing) (h_ldg : ps .ldg) (h_vsr : ps .vsr) (h_pwc : ps .pwc) {v0 : ℕ} {v1 : TxTap} {v2 : State} (h0 : Touches ps s0 v2) :
    Touches ps s0 (transmit v0 v1 v2) := by
  unfold transmit
  refine State.onReplica_touches ?_ ?_
  · assumption
  · intro y0
    intro y1
    intro y2
    intro k3
    refine State.given_touches ?_ ?_
    · assumption
    · intro y4
      intro k5
      split
      split
      · refine dropReplica_touches h_regs h_out h_ddr h_poison h_host h_latches h_palm h_ldg h_vsr ?_
        refine countStampLoss_touches h_regs h_stamps ?_
        refine Touches.of_snd2 (by assumption) ?_
        refine egressStamp_touches h_regs h_free h_out h_host h_latches h_stamps ?_
        assumption
      · split
        · refine Touches.of_some_snd (by assumption) ?_
          refine shapeReplica_touches h_regs h_out h_host h_latches h_palm h_vsr ?_
          refine Touches.of_snd2 (by assumption) ?_
          refine egressStamp_touches h_regs h_free h_out h_host h_latches h_stamps ?_
          assumption
        · lift_lets
          intro x6
          clear_value x6
          intro x7
          clear_value x7
          intro x8
          have hx9 : Touches ps s0 x8 := by
            unfold x8
            refine State.count_touches h_regs h_vsr ?_
            refine State.putReplica_touches h_palm ?_
            refine Touches.of_some_snd (by assumption) ?_
            refine shapeReplica_touches h_regs h_out h_host h_latches h_palm h_vsr ?_
            refine Touches.of_snd2 (by assumption) ?_
            refine egressStamp_touches h_regs h_free h_out h_host h_latches h_stamps ?_
            assumption
          clear_value x8
          intro x10
          have hx11 : Touches ps s0 x10 := by
            unfold x10
            refine Touches.ite ?_ ?_
            · refine State.count_touches h_regs h_vsr ?_
              assumption
            · assumption
          clear_value x10
          intro x12
          clear_value x12
          intro x13
          have hx14 : Touches ps s0 x13 := by
            unfold x13
            refine noteSkew_touches h_regs h_timing ?_
            refine (Touches.upd_pwc h_pwc ?_)
            assumption
          clear_value x13
          refine Touches.ite ?_ ?_
          · assumption
          · refine State.count_touches h_regs h_vsr ?_
            assumption

theorem execEgressTransmit_touches {ps : Piece → Prop} {s0 : State} (h_regs : ps .regs) (h_free : ps .free) (h_out : ps .out) (h_ddr : ps .ddr) (h_poison : ps .poison) (h_host : ps .host) (h_latches : ps .latches) (h_stamps : ps .stamps) (h_palm : ps .palm) (h_timing : ps .timing) (h_ldg : ps .ldg) (h_vsr : ps .vsr) (h_pwc : ps .pwc) {v0 : ℕ} {v1 : TxTap} {v2 : State} (h0 : Touches ps s0 v2) :
    Moves ps s0 (execEgressTransmit v0 v1 v2) := by
  unfold execEgressTransmit
  refine Moves.next ?_
  refine State.running_touches ?_ ?_
  · assumption
  · intro y0
    intro k1
    refine transmit_touches h_regs h_free h_out h_ddr h_poison h_host h_latches h_stamps h_palm h_timing h_ldg h_vsr h_pwc ?_
    assumption

theorem execTransmitComplete_touches {ps : Piece → Prop} {s0 : State} (h_regs : ps .regs) (h_out : ps .out) (h_ddr : ps .ddr) (h_poison : ps .poison) (h_host : ps .host) (h_latches : ps .latches) (h_brim : ps .brim) (h_palm : ps .palm) (h_ldg : ps .ldg) (h_vsr : ps .vsr) {v0 : ℕ} {v1 : State} (h0 : Touches ps s0 v1) :
    Moves ps s0 (execTransmitComplete v0 v1) := by
  unfold execTransmitComplete
  refine Moves.next ?_
  refine State.running_touches ?_ ?_
  · assumption
  · intro y0
    intro k1
    refine State.onReplica_touches ?_ ?_
    · assumption
    · intro y2
      intro y3
      intro y4
      intro k5
      refine State.given_touches ?_ ?_
      · assumption
      · intro y6
        intro k7
        refine finishReplica_touches h_regs h_out h_ddr h_poison h_host h_latches h_brim h_palm h_ldg h_vsr ?_
        assumption

end Sys2Proof.Machine
end

