-- ==== Sys2Proof/Laws/TouchSessions.lean ====
section
/-! SUPPORT. What the operations of Machine/Sessions.lean may touch: one lemma for each. -/

set_option maxRecDepth 10000

namespace Sys2Proof.Machine

theorem State.putRequester_touches {ps : Piece → Prop} {s0 : State} (h_ses : ps .ses) {v0 : State} {v1 : ℕ} {v2 : Requester} (h0 : Touches ps s0 v0) :
    Touches ps s0 (State.putRequester v0 v1 v2) := by
  unfold State.putRequester
  lift_lets
  intro x0
  clear_value x0
  refine (Touches.upd_ses h_ses ?_)
  assumption

theorem writeReqCfg_touches {ps : Piece → Prop} {s0 : State} (h_regs : ps .regs) (h_ses : ps .ses) {v0 : ℕ} {v1 : State} (h0 : Touches ps s0 v1) :
    Touches ps s0 (writeReqCfg v0 v1) := by
  unfold writeReqCfg
  lift_lets
  intro x0
  clear_value x0
  intro x1
  clear_value x1
  intro x2
  clear_value x2
  intro x3
  clear_value x3
  intro x4
  have hx5 : Touches ps s0 x4 := by
    unfold x4
    refine State.putRequester_touches h_ses ?_
    assumption
  clear_value x4
  refine State.wr_touches h_regs ?_
  refine State.wr_touches h_regs ?_
  refine State.wr_touches h_regs ?_
  assumption

theorem State.putCtx_touches {ps : Piece → Prop} {s0 : State} (h_regs : ps .regs) (h_ses : ps .ses) {v0 : State} {v1 : ℕ} {v2 : Ctx} (h0 : Touches ps s0 v0) :
    Touches ps s0 (State.putCtx v0 v1 v2) := by
  unfold State.putCtx
  lift_lets
  intro x0
  clear_value x0
  intro x1
  clear_value x1
  refine State.wr_touches h_regs ?_
  refine (Touches.upd_ses h_ses ?_)
  assumption

theorem ctxRefused_touches {ps : Piece → Prop} {s0 : State} (h_regs : ps .regs) (h_latches : ps .latches) (h_ses : ps .ses) {v0 : ℕ} {v1 : State} (h0 : Touches ps s0 v1) :
    Touches ps s0 (ctxRefused v0 v1) := by
  unfold ctxRefused
  lift_lets
  intro x0
  clear_value x0
  intro x1
  have hx2 : Touches ps s0 x1 := by
    unfold x1
    refine State.putCtx_touches h_regs h_ses ?_
    assumption
  clear_value x1
  refine Touches.ite ?_ ?_
  · refine State.set1_touches h_regs h_latches ?_
    assumption
  · assumption

theorem writeEqCfg_touches {ps : Piece → Prop} {s0 : State} (h_regs : ps .regs) (h_latches : ps .latches) {v0 : ℕ} {v1 : ℕ} {v2 : State} (h0 : Touches ps s0 v2) :
    Touches ps s0 (writeEqCfg v0 v1 v2) := by
  unfold writeEqCfg
  lift_lets
  intro x0
  clear_value x0
  intro x1
  clear_value x1
  intro x2
  have hx3 : Touches ps s0 x2 := by
    unfold x2
    refine Touches.ite ?_ ?_
    · assumption
    · refine State.wr_touches h_regs ?_
      assumption
  clear_value x2
  refine Touches.ite ?_ ?_
  · refine State.set1_touches h_regs h_latches ?_
    assumption
  · refine State.wr_touches h_regs ?_
    assumption

theorem onContext_touches {ps : Piece → Prop} {s0 : State} (h_regs : ps .regs) (h_latches : ps .latches) (h_ses : ps .ses) {v0 : ℕ} {v1 : Ctx → Bool} {v2 : ℕ → Ctx → State → State} {v3 : State} (h0 : ∀ a0 a1 a2, Touches ps s0 a2 → Touches ps s0 (v2 a0 a1 a2)) (h1 : Touches ps s0 v3) :
    Touches ps s0 (onContext v0 v1 v2 v3) := by
  unfold onContext
  lift_lets
  intro x0
  clear_value x0
  refine Touches.ite ?_ ?_
  · refine h0 _ _ _ ?_
    assumption
  · refine ctxRefused_touches h_regs h_latches h_ses ?_
    assumption

theorem ctxDisable_touches {ps : Piece → Prop} {s0 : State} (h_regs : ps .regs) (h_out : ps .out) (h_host : ps .host) (h_latches : ps .latches) (h_ses : ps .ses) (h_mtn : ps .mtn) {v0 : ℕ} {v1 : State} (h0 : Touches ps s0 v1) :
    Touches ps s0 (ctxDisable v0 v1) := by
  unfold ctxDisable
  refine onContext_touches h_regs h_latches h_ses ?_ ?_
  · intro y0
    intro y1
    intro y2
    intro k3
    lift_lets
    intro x4
    clear_value x4
    refine recomputeDdr_touches h_regs h_out h_host h_mtn ?_
    refine State.putCtx_touches h_regs h_ses ?_
    assumption
  · assumption

theorem execTokenRefill_touches {ps : Piece → Prop} {s0 : State} (h_ticks : ps .ticks) (h_ses : ps .ses) {v0 : State} (h0 : Touches ps s0 v0) :
    Moves ps s0 (execTokenRefill v0) := by
  unfold execTokenRefill
  refine Moves.next ?_
  refine State.running_touches ?_ ?_
  · assumption
  · intro y0
    intro k1
    refine State.periodic_touches h_ticks ?_ ?_
    · assumption
    · intro y2
      intro k3
      refine Touches.foldl (fun _ _ _ => ?_) ?_
      · lift_lets
        intro x4
        clear_value x4
        refine State.putRequester_touches h_ses ?_
        assumption
      · assumption

theorem sesEvent_touches {ps : Piece → Prop} {s0 : State} (h_regs : ps .regs) (h_free : ps .free) (h_out : ps .out) (h_host : ps .host) (h_latches : ps .latches) {v0 : ℕ} {v1 : Event} {v2 : State} (h0 : Touches ps s0 v2) :
    Touches ps s0 (sesEvent v0 v1 v2) := by
  unfold sesEvent
  lift_lets
  intro x0
  clear_value x0
  intro x1
  clear_value x1
  intro x2
  clear_value x2
  intro x3
  clear_value x3
  intro x4
  have hx5 : Touches ps s0 x4 := by
    unfold x4
    refine Touches.ite ?_ ?_
    · refine (Touches.upd_free h_free ?_)
      assumption
    · assumption
  clear_value x4
  refine Touches.ite ?_ ?_
  · assumption
  · refine Touches.ite ?_ ?_
    · refine State.raise_touches h_regs h_out h_host h_latches ?_
      refine State.raise_touches h_regs h_out h_host h_latches ?_
      refine State.bump_touches h_regs h_latches ?_
      assumption
    · refine Touches.ite ?_ ?_
      · refine State.raise_touches h_regs h_out h_host h_latches ?_
        refine State.bump_touches h_regs h_latches ?_
        assumption
      · split
        lift_lets
        intro x6
        clear_value x6
        refine State.vector_touches h_out h_host ?_
        refine State.wr_touches h_regs ?_
        refine State.send_touches h_out ?_
        assumption

theorem hear_touches {ps : Piece → Prop} {s0 : State} (h_regs : ps .regs) (h_free : ps .free) (h_out : ps .out) (h_host : ps .host) (h_latches : ps .latches) (h_ses : ps .ses) {v0 : ℕ} {v1 : ℕ} {v2 : Bool} {v3 : State} (h0 : Touches ps s0 v3) :
    Touches ps s0 (hear v0 v1 v2 v3) := by
  unfold hear
  lift_lets
  intro x0
  clear_value x0
  intro x1
  clear_value x1
  intro x2
  have hx3 : Touches ps s0 x2 := by
    unfold x2
    refine State.putCtx_touches h_regs h_ses ?_
    assumption
  clear_value x2
  refine Touches.ite ?_ ?_
  · refine sesEvent_touches h_regs h_free h_out h_host h_latches ?_
    assumption
  · assumption

theorem refuse_touches {ps : Piece → Prop} {s0 : State} (h_ses : ps .ses) {v0 : ℕ} {v1 : ℕ} {v2 : State} (h0 : Touches ps s0 v2) :
    Touches ps s0 (refuse v0 v1 v2) := by
  unfold refuse
  lift_lets
  intro x0
  clear_value x0
  refine State.putRequester_touches h_ses ?_
  assumption

theorem reportMissing_touches {ps : Piece → Prop} {s0 : State} (h_regs : ps .regs) (h_free : ps .free) (h_out : ps .out) (h_host : ps .host) (h_latches : ps .latches) {v0 : ℕ} {v1 : ℕ} {v2 : ℕ × ℕ} {v3 : State} (h0 : Touches ps s0 v3) :
    Touches ps s0 (reportMissing v0 v1 v2 v3) := by
  unfold reportMissing
  refine State.raise_touches h_regs h_out h_host h_latches ?_
  refine sesEvent_touches h_regs h_free h_out h_host h_latches ?_
  assumption

theorem reportRefused_touches {ps : Piece → Prop} {s0 : State} (h_regs : ps .regs) (h_free : ps .free) (h_out : ps .out) (h_host : ps .host) (h_latches : ps .latches) (h_ses : ps .ses) {v0 : ℕ} {v1 : ℕ} {v2 : Option (ℕ × ℕ)} {v3 : ℕ} {v4 : State} (h0 : Touches ps s0 v4) :
    Touches ps s0 (reportRefused v0 v1 v2 v3 v4) := by
  unfold reportRefused
  refine State.raise_touches h_regs h_out h_host h_latches ?_
  refine sesEvent_touches h_regs h_free h_out h_host h_latches ?_
  refine refuse_touches h_ses ?_
  assumption

theorem decided_touches {ps : Piece → Prop} {s0 : State} (h_regs : ps .regs) (h_out : ps .out) (h_ddr : ps .ddr) (h_poison : ps .poison) (h_host : ps .host) (h_latches : ps .latches) (h_tbl : ps .tbl) (h_palm : ps .palm) (h_ldg : ps .ldg) (h_vsr : ps .vsr) {v0 : ℕ} {v1 : ℕ} {v2 : State} (h0 : Touches ps s0 v2) :
    Touches ps s0 (decided v0 v1 v2) := by
  unfold decided
  refine State.onFrame_touches ?_ ?_
  · assumption
  · intro y0
    intro y1
    intro k2
    lift_lets
    intro x3
    have hx4 : Touches ps s0 x3 := by
      unfold x3
      refine State.putFrame_touches h_palm ?_
      assumption
    clear_value x3
    split
    · refine Touches.ite ?_ ?_
      · refine ingressEnds_touches h_regs h_out h_ddr h_poison h_host h_latches h_tbl h_palm h_ldg h_vsr ?_
        assumption
      · assumption
    · assumption

theorem dropDecided_touches {ps : Piece → Prop} {s0 : State} (h_regs : ps .regs) (h_out : ps .out) (h_ddr : ps .ddr) (h_poison : ps .poison) (h_host : ps .host) (h_latches : ps .latches) (h_tbl : ps .tbl) (h_palm : ps .palm) (h_ldg : ps .ldg) (h_vsr : ps .vsr) {v0 : ℕ} {v1 : ℕ} {v2 : ℕ} {v3 : State} (h0 : Touches ps s0 v3) :
    Touches ps s0 (dropDecided v0 v1 v2 v3) := by
  unfold dropDecided
  refine State.onFrame_touches ?_ ?_
  · assumption
  · intro y0
    intro y1
    intro k2
    refine decided_touches h_regs h_out h_ddr h_poison h_host h_latches h_tbl h_palm h_ldg h_vsr ?_
    refine Touches.ite ?_ ?_
    · assumption
    · refine State.count_touches h_regs h_vsr ?_
      assumption

theorem takeRequest_touches {ps : Piece → Prop} {s0 : State} (h_regs : ps .regs) (h_free : ps .free) (h_out : ps .out) (h_ddr : ps .ddr) (h_poison : ps .poison) (h_host : ps .host) (h_latches : ps .latches) (h_tbl : ps .tbl) (h_palm : ps .palm) (h_ses : ps .ses) (h_ldg : ps .ldg) (h_vsr : ps .vsr) {v0 : ℕ} {v1 : Frame} {v2 : State} (h0 : Touches ps s0 v2) :
    Touches ps s0 (takeRequest v0 v1 v2) := by
  unfold takeRequest
  lift_lets
  intro x0
  clear_value x0
  intro x1
  clear_value x1
  intro x2
  have hx3 : Touches ps s0 x2 := by
    unfold x2
    refine State.count_touches h_regs h_vsr ?_
    assumption
  clear_value x2
  intro x4
  clear_value x4
  intro x5
  clear_value x5
  intro x6
  have hx7 : Touches ps s0 x6 := by
    unfold x6
    refine Touches.ite ?_ ?_
    · refine reportRefused_touches h_regs h_free h_out h_host h_latches h_ses ?_
      assumption
    · refine State.wr_touches h_regs ?_
      refine (Touches.upd_ses h_ses ?_)
      assumption
  clear_value x6
  refine dropDecided_touches h_regs h_out h_ddr h_poison h_host h_latches h_tbl h_palm h_ldg h_vsr ?_
  assumption

theorem openGap_touches {ps : Piece → Prop} {s0 : State} (h_regs : ps .regs) (h_free : ps .free) (h_out : ps .out) (h_host : ps .host) (h_latches : ps .latches) (h_ses : ps .ses) (h_vsr : ps .vsr) {v0 : ℕ} {v1 : ℕ} {v2 : ℕ} {v3 : ℕ} {v4 : State} (h0 : Touches ps s0 v4) :
    Touches ps s0 (openGap v0 v1 v2 v3 v4) := by
  unfold openGap
  lift_lets
  intro x0
  clear_value x0
  intro x1
  clear_value x1
  split
  · refine State.raise_touches h_regs h_out h_host h_latches ?_
    refine State.count_touches h_regs h_vsr ?_
    refine sesEvent_touches h_regs h_free h_out h_host h_latches ?_
    refine State.putCtx_touches h_regs h_ses ?_
    assumption
  · refine State.raise_touches h_regs h_out h_host h_latches ?_
    refine sesEvent_touches h_regs h_free h_out h_host h_latches ?_
    assumption

theorem storeSlot_touches {ps : Piece → Prop} {s0 : State} (h_regs : ps .regs) (h_out : ps .out) (h_ddr : ps .ddr) (h_poison : ps .poison) (h_host : ps .host) (h_latches : ps .latches) (h_ses : ps .ses) {v0 : Frame} {v1 : Bool} {v2 : State} (h0 : Touches ps s0 v2) :
    Touches ps s0 (storeSlot v0 v1 v2) := by
  unfold storeSlot
  lift_lets
  intro x0
  clear_value x0
  intro x1
  clear_value x1
  intro x2
  clear_value x2
  intro x3
  have hx4 : Touches ps s0 x3 := by
    unfold x3
    refine Touches.ite ?_ ?_
    · refine State.ddrWrite_touches h_ddr h_poison ?_
      assumption
    · refine State.raise_touches h_regs h_out h_host h_latches ?_
      assumption
  clear_value x3
  refine Touches.ite ?_ ?_
  · assumption
  · refine Touches.ite ?_ ?_
    · refine (Touches.upd_ses h_ses ?_)
      assumption
    · refine State.raise_touches h_regs h_out h_host h_latches ?_
      refine State.bump_touches h_regs h_latches ?_
      assumption

theorem forward_touches {ps : Piece → Prop} {s0 : State} (h_regs : ps .regs) (h_out : ps .out) (h_ddr : ps .ddr) (h_poison : ps .poison) (h_host : ps .host) (h_latches : ps .latches) (h_tbl : ps .tbl) (h_palm : ps .palm) (h_ses : ps .ses) (h_ldg : ps .ldg) (h_vsr : ps .vsr) {v0 : ℕ} {v1 : Frame} {v2 : Bool} {v3 : State} (h0 : Touches ps s0 v3) :
    Touches ps s0 (forward v0 v1 v2 v3) := by
  unfold forward
  refine decided_touches h_regs h_out h_ddr h_poison h_host h_latches h_tbl h_palm h_ldg h_vsr ?_
  refine storeSlot_touches h_regs h_out h_ddr h_poison h_host h_latches h_ses ?_
  refine State.count_touches h_regs h_vsr ?_
  assumption

theorem endGap_touches {ps : Piece → Prop} {s0 : State} (h_regs : ps .regs) (h_free : ps .free) (h_out : ps .out) (h_host : ps .host) (h_latches : ps .latches) (h_ses : ps .ses) {v0 : ℕ} {v1 : ℕ} {v2 : ℕ} {v3 : ℕ} {v4 : State} (h0 : Touches ps s0 v4) :
    Touches ps s0 (endGap v0 v1 v2 v3 v4) := by
  unfold endGap
  lift_lets
  intro x0
  clear_value x0
  split
  · refine sesEvent_touches h_regs h_free h_out h_host h_latches ?_
    refine State.putCtx_touches h_regs h_ses ?_
    assumption
  · assumption

theorem expireOutside_touches {ps : Piece → Prop} {s0 : State} (h_regs : ps .regs) (h_free : ps .free) (h_out : ps .out) (h_host : ps .host) (h_latches : ps .latches) (h_ses : ps .ses) {v0 : ℕ} {v1 : ℕ} {v2 : State} (h0 : Touches ps s0 v2) :
    Touches ps s0 (expireOutside v0 v1 v2) := by
  unfold expireOutside
  refine Touches.foldl (fun _ _ _ => ?_) ?_
  · split
    · refine Touches.ite ?_ ?_
      · refine State.raise_touches h_regs h_out h_host h_latches ?_
        refine endGap_touches h_regs h_free h_out h_host h_latches h_ses ?_
        assumption
      · assumption
    · assumption
  · assumption

theorem endGaps_touches {ps : Piece → Prop} {s0 : State} (h_regs : ps .regs) (h_free : ps .free) (h_out : ps .out) (h_host : ps .host) (h_latches : ps .latches) (h_ses : ps .ses) {v0 : ℕ} {v1 : ℕ} {v2 : ℕ} {v3 : State} (h0 : Touches ps s0 v3) :
    Touches ps s0 (endGaps v0 v1 v2 v3) := by
  unfold endGaps
  refine Touches.foldl (fun _ _ _ => ?_) ?_
  · refine endGap_touches h_regs h_free h_out h_host h_latches h_ses ?_
    assumption
  · assumption

theorem fillGap_touches {ps : Piece → Prop} {s0 : State} (h_regs : ps .regs) (h_free : ps .free) (h_out : ps .out) (h_host : ps .host) (h_latches : ps .latches) (h_ses : ps .ses) (h_vsr : ps .vsr) {v0 : ℕ} {v1 : ℕ} {v2 : ℕ} {v3 : State} (h0 : Touches ps s0 v3) :
    Touches ps s0 (fillGap v0 v1 v2 v3) := by
  unfold fillGap
  lift_lets
  intro x0
  clear_value x0
  intro x1
  clear_value x1
  split
  · refine State.count_touches h_regs h_vsr ?_
    assumption
  · split
    · assumption
    · refine Touches.ite ?_ ?_
      · refine endGap_touches h_regs h_free h_out h_host h_latches h_ses ?_
        assumption
      · refine State.putCtx_touches h_regs h_ses ?_
        assumption

theorem window_touches {ps : Piece → Prop} {s0 : State} (h_regs : ps .regs) (h_free : ps .free) (h_out : ps .out) (h_ddr : ps .ddr) (h_poison : ps .poison) (h_host : ps .host) (h_latches : ps .latches) (h_tbl : ps .tbl) (h_palm : ps .palm) (h_ses : ps .ses) (h_ldg : ps .ldg) (h_vsr : ps .vsr) {v0 : ℕ} {v1 : Frame} {v2 : Bool} {v3 : State} (h0 : Touches ps s0 v3) :
    Touches ps s0 (window v0 v1 v2 v3) := by
  unfold window
  lift_lets
  intro x0
  clear_value x0
  intro x1
  clear_value x1
  intro x2
  clear_value x2
  intro x3
  clear_value x3
  intro x4
  clear_value x4
  intro x5
  clear_value x5
  intro x6
  clear_value x6
  intro x7
  have hx8 : Touches ps s0 x7 := by
    unfold x7
    refine State.putCtx_touches h_regs h_ses ?_
    assumption
  clear_value x7
  intro x9
  have hx10 : Touches ps s0 x9 := by
    unfold x9
    refine Touches.ite ?_ ?_
    · refine openGap_touches h_regs h_free h_out h_host h_latches h_ses h_vsr ?_
      assumption
    · assumption
  clear_value x9
  intro x11
  have hx12 : Touches ps s0 x11 := by
    unfold x11
    refine endGaps_touches h_regs h_free h_out h_host h_latches h_ses ?_
    refine State.putCtx_touches h_regs h_ses ?_
    assumption
  clear_value x11
  intro x13
  clear_value x13
  refine Touches.ite ?_ ?_
  · refine forward_touches h_regs h_out h_ddr h_poison h_host h_latches h_tbl h_palm h_ses h_ldg h_vsr ?_
    refine expireOutside_touches h_regs h_free h_out h_host h_latches h_ses ?_
    assumption
  · refine Touches.ite ?_ ?_
    · refine forward_touches h_regs h_out h_ddr h_poison h_host h_latches h_tbl h_palm h_ses h_ldg h_vsr ?_
      refine State.raise_touches h_regs h_out h_host h_latches ?_
      refine sesEvent_touches h_regs h_free h_out h_host h_latches ?_
      assumption
    · refine Touches.ite ?_ ?_
      · refine Touches.ite ?_ ?_
        · refine dropDecided_touches h_regs h_out h_ddr h_poison h_host h_latches h_tbl h_palm h_ldg h_vsr ?_
          assumption
        · refine forward_touches h_regs h_out h_ddr h_poison h_host h_latches h_tbl h_palm h_ses h_ldg h_vsr ?_
          refine fillGap_touches h_regs h_free h_out h_host h_latches h_ses h_vsr ?_
          refine State.putCtx_touches h_regs h_ses ?_
          assumption
      · refine dropDecided_touches h_regs h_out h_ddr h_poison h_host h_latches h_tbl h_palm h_ldg h_vsr ?_
        assumption

theorem decideData_touches {ps : Piece → Prop} {s0 : State} (h_regs : ps .regs) (h_free : ps .free) (h_out : ps .out) (h_ddr : ps .ddr) (h_poison : ps .poison) (h_host : ps .host) (h_latches : ps .latches) (h_tbl : ps .tbl) (h_palm : ps .palm) (h_ses : ps .ses) (h_ldg : ps .ldg) (h_vsr : ps .vsr) {v0 : ℕ} {v1 : Frame} {v2 : State} (h0 : Touches ps s0 v2) :
    Touches ps s0 (decideData v0 v1 v2) := by
  unfold decideData
  lift_lets
  intro x0
  clear_value x0
  refine Touches.ite ?_ ?_
  · refine decided_touches h_regs h_out h_ddr h_poison h_host h_latches h_tbl h_palm h_ldg h_vsr ?_
    refine State.bump_touches h_regs h_latches ?_
    assumption
  · split
    · refine dropDecided_touches h_regs h_out h_ddr h_poison h_host h_latches h_tbl h_palm h_ldg h_vsr ?_
      assumption
    · lift_lets
      intro x1
      have hx2 : Touches ps s0 x1 := by
        unfold x1
        refine hear_touches h_regs h_free h_out h_host h_latches h_ses ?_
        assumption
      clear_value x1
      intro x3
      clear_value x3
      intro x4
      have hx5 : Touches ps s0 x4 := by
        unfold x4
        refine Touches.ite ?_ ?_
        · refine State.putCtx_touches h_regs h_ses ?_
          assumption
        · assumption
      clear_value x4
      refine Touches.ite ?_ ?_
      · refine dropDecided_touches h_regs h_out h_ddr h_poison h_host h_latches h_tbl h_palm h_ldg h_vsr ?_
        assumption
      · refine window_touches h_regs h_free h_out h_ddr h_poison h_host h_latches h_tbl h_palm h_ses h_ldg h_vsr ?_
        assumption

theorem decideFrame_touches {ps : Piece → Prop} {s0 : State} (h_regs : ps .regs) (h_free : ps .free) (h_out : ps .out) (h_ddr : ps .ddr) (h_poison : ps .poison) (h_host : ps .host) (h_latches : ps .latches) (h_tbl : ps .tbl) (h_palm : ps .palm) (h_ses : ps .ses) (h_ldg : ps .ldg) (h_vsr : ps .vsr) {v0 : ℕ} {v1 : Bool} {v2 : State} (h0 : Touches ps s0 v2) :
    Touches ps s0 (decideFrame v0 v1 v2) := by
  unfold decideFrame
  refine State.onFrame_touches ?_ ?_
  · assumption
  · intro y0
    intro y1
    intro k2
    refine State.given_touches ?_ ?_
    · assumption
    · intro y3
      intro k4
      lift_lets
      intro x5
      have hx6 : Touches ps s0 x5 := by
        unfold x5
        refine Touches.ite ?_ ?_
        · refine State.raise_touches h_regs h_out h_host h_latches ?_
          assumption
        · assumption
      clear_value x5
      refine Touches.ite ?_ ?_
      · refine takeRequest_touches h_regs h_free h_out h_ddr h_poison h_host h_latches h_tbl h_palm h_ses h_ldg h_vsr ?_
        assumption
      · refine decideData_touches h_regs h_free h_out h_ddr h_poison h_host h_latches h_tbl h_palm h_ses h_ldg h_vsr ?_
        assumption

theorem loseContext_touches {ps : Piece → Prop} {s0 : State} (h_regs : ps .regs) (h_free : ps .free) (h_out : ps .out) (h_ddr : ps .ddr) (h_poison : ps .poison) (h_host : ps .host) (h_latches : ps .latches) (h_tbl : ps .tbl) (h_palm : ps .palm) (h_ses : ps .ses) (h_ldg : ps .ldg) (h_vsr : ps .vsr) (h_mtn : ps .mtn) {v0 : ℕ} {v1 : State} (h0 : Touches ps s0 v1) :
    Touches ps s0 (loseContext v0 v1) := by
  unfold loseContext
  refine State.onFrame_touches ?_ ?_
  · assumption
  · intro y0
    intro y1
    intro k2
    refine State.given_touches ?_ ?_
    · assumption
    · intro y3
      intro k4
      lift_lets
      intro x5
      clear_value x5
      intro x6
      clear_value x6
      intro x7
      clear_value x7
      intro x8
      have hx9 : Touches ps s0 x8 := by
        unfold x8
        refine recomputeDdr_touches h_regs h_out h_host h_mtn ?_
        refine State.putCtx_touches h_regs h_ses ?_
        assumption
      clear_value x8
      intro x10
      have hx11 : Touches ps s0 x10 := by
        unfold x10
        refine State.raise_touches h_regs h_out h_host h_latches ?_
        refine sesEvent_touches h_regs h_free h_out h_host h_latches ?_
        assumption
      clear_value x10
      intro x12
      clear_value x12
      refine Touches.foldl (fun _ _ _ => ?_) ?_
      · refine dropDecided_touches h_regs h_out h_ddr h_poison h_host h_latches h_tbl h_palm h_ldg h_vsr ?_
        assumption
      · assumption

theorem evalLegs_touches {ps : Piece → Prop} {s0 : State} (h_regs : ps .regs) (h_free : ps .free) (h_out : ps .out) (h_host : ps .host) (h_latches : ps .latches) (h_ses : ps .ses) {v0 : ℕ} {v1 : State} (h0 : Touches ps s0 v1) :
    Touches ps s0 (evalLegs v0 v1) := by
  unfold evalLegs
  lift_lets
  intro x0
  clear_value x0
  intro x1
  have hx2 : ∀ a0 a1, Touches ps s0 a1 → Touches ps s0 (x1 a0 a1) := by
    intro y3
    intro y4
    intro k5
    unfold x1
    refine Touches.ite ?_ ?_
    · refine State.raise_touches h_regs h_out h_host h_latches ?_
      refine sesEvent_touches h_regs h_free h_out h_host h_latches ?_
      refine State.putCtx_touches h_regs h_ses ?_
      assumption
    · assumption
  clear_value x1
  refine State.given_touches ?_ ?_
  · assumption
  · intro y6
    intro k7
    lift_lets
    intro x8
    have hx9 : Touches ps s0 x8 := by
      unfold x8
      refine hx2 _ _ ?_
      refine hx2 _ _ ?_
      assumption
    clear_value x8
    intro x10
    clear_value x10
    refine Touches.ite ?_ ?_
    · refine sesEvent_touches h_regs h_free h_out h_host h_latches ?_
      refine State.putCtx_touches h_regs h_ses ?_
      assumption
    · assumption

theorem evalGaps_touches {ps : Piece → Prop} {s0 : State} (h_regs : ps .regs) (h_free : ps .free) (h_out : ps .out) (h_host : ps .host) (h_latches : ps .latches) (h_ses : ps .ses) {v0 : ℕ} {v1 : State} (h0 : Touches ps s0 v1) :
    Touches ps s0 (evalGaps v0 v1) := by
  unfold evalGaps
  lift_lets
  intro x0
  clear_value x0
  refine Touches.foldl (fun _ _ _ => ?_) ?_
  · split
    · refine Touches.ite ?_ ?_
      · refine State.raise_touches h_regs h_out h_host h_latches ?_
        refine endGap_touches h_regs h_free h_out h_host h_latches h_ses ?_
        assumption
      · assumption
    · assumption
  · assumption

theorem ctxArm_touches {ps : Piece → Prop} {s0 : State} (h_regs : ps .regs) (h_out : ps .out) (h_host : ps .host) (h_latches : ps .latches) (h_ses : ps .ses) (h_mtn : ps .mtn) {v0 : ℕ} {v1 : State} (h0 : Touches ps s0 v1) :
    Touches ps s0 (ctxArm v0 v1) := by
  unfold ctxArm
  refine onContext_touches h_regs h_latches h_ses ?_ ?_
  · intro y0
    intro y1
    intro y2
    intro k3
    lift_lets
    intro x4
    clear_value x4
    refine recomputeDdr_touches h_regs h_out h_host h_mtn ?_
    refine State.putCtx_touches h_regs h_ses ?_
    assumption
  · assumption

theorem setExpected_touches {ps : Piece → Prop} {s0 : State} (h_regs : ps .regs) (h_free : ps .free) (h_out : ps .out) (h_host : ps .host) (h_latches : ps .latches) (h_ses : ps .ses) {v0 : ℕ} {v1 : State} (h0 : Touches ps s0 v1) :
    Touches ps s0 (setExpected v0 v1) := by
  unfold setExpected
  refine onContext_touches h_regs h_latches h_ses ?_ ?_
  · intro y0
    intro y1
    intro y2
    intro k3
    refine endGaps_touches h_regs h_free h_out h_host h_latches h_ses ?_
    refine State.putCtx_touches h_regs h_ses ?_
    assumption
  · assumption

theorem clearGaps_touches {ps : Piece → Prop} {s0 : State} (h_regs : ps .regs) (h_free : ps .free) (h_out : ps .out) (h_host : ps .host) (h_latches : ps .latches) (h_ses : ps .ses) {v0 : ℕ} {v1 : State} (h0 : Touches ps s0 v1) :
    Touches ps s0 (clearGaps v0 v1) := by
  unfold clearGaps
  refine onContext_touches h_regs h_latches h_ses ?_ ?_
  · intro y0
    intro y1
    intro y2
    intro k3
    refine endGaps_touches h_regs h_free h_out h_host h_latches h_ses ?_
    assumption
  · assumption

theorem ctxCommand_touches {ps : Piece → Prop} {s0 : State} (h_regs : ps .regs) (h_free : ps .free) (h_out : ps .out) (h_host : ps .host) (h_latches : ps .latches) (h_ses : ps .ses) (h_mtn : ps .mtn) {v0 : ℕ} {v1 : ℕ} {v2 : State} (h0 : Touches ps s0 v2) :
    Touches ps s0 (ctxCommand v0 v1 v2) := by
  unfold ctxCommand
  lift_lets
  intro x0
  have hx1 : Touches ps s0 x0 := by
    unfold x0
    split
    · refine ctxArm_touches h_regs h_out h_host h_latches h_ses h_mtn ?_
      assumption
    · refine ctxDisable_touches h_regs h_out h_host h_latches h_ses h_mtn ?_
      assumption
    · refine setExpected_touches h_regs h_free h_out h_host h_latches h_ses ?_
      assumption
    · refine clearGaps_touches h_regs h_free h_out h_host h_latches h_ses ?_
      assumption
    · assumption
  clear_value x0
  refine Touches.ite ?_ ?_
  · refine State.wr_touches h_regs ?_
    assumption
  · assumption

theorem runSes_touches {ps : Piece → Prop} {s0 : State} (h_regs : ps .regs) (h_free : ps .free) (h_out : ps .out) (h_ddr : ps .ddr) (h_poison : ps .poison) (h_host : ps .host) (h_latches : ps .latches) (h_tbl : ps .tbl) (h_palm : ps .palm) (h_ses : ps .ses) (h_ldg : ps .ldg) (h_vsr : ps .vsr) (h_mtn : ps .mtn) {v0 : SesAct} {v1 : State} (h0 : Touches ps s0 v1) :
    Touches ps s0 (runSes v0 v1) := by
  unfold runSes
  split
  · refine decideFrame_touches h_regs h_free h_out h_ddr h_poison h_host h_latches h_tbl h_palm h_ses h_ldg h_vsr ?_
    assumption
  · refine loseContext_touches h_regs h_free h_out h_ddr h_poison h_host h_latches h_tbl h_palm h_ses h_ldg h_vsr h_mtn ?_
    assumption
  · refine evalLegs_touches h_regs h_free h_out h_host h_latches h_ses ?_
    assumption
  · refine evalGaps_touches h_regs h_free h_out h_host h_latches h_ses ?_
    assumption
  · refine ctxCommand_touches h_regs h_free h_out h_host h_latches h_ses h_mtn ?_
    assumption

theorem runSesActs_touches {ps : Piece → Prop} {s0 : State} (h_regs : ps .regs) (h_free : ps .free) (h_out : ps .out) (h_ddr : ps .ddr) (h_poison : ps .poison) (h_host : ps .host) (h_latches : ps .latches) (h_tbl : ps .tbl) (h_palm : ps .palm) (h_ses : ps .ses) (h_ldg : ps .ldg) (h_vsr : ps .vsr) (h_mtn : ps .mtn) {v0 : ℕ} {v1 : State} (h0 : Touches ps s0 v1) :
    Touches ps s0 (runSesActs v0 v1) := by
  induction v0 generalizing v1 with
  | zero => exact h0
  | succ n ih =>
    unfold runSesActs
    split
    · refine ih ?_
      apply runSes_touches
      all_goals first
        | assumption
        | exact Touches.upd_ses (by assumption) h0
    · exact h0

theorem endSession_touches {ps : Piece → Prop} {s0 : State} (h_regs : ps .regs) (h_free : ps .free) (h_out : ps .out) (h_ddr : ps .ddr) (h_poison : ps .poison) (h_host : ps .host) (h_latches : ps .latches) (h_tbl : ps .tbl) (h_palm : ps .palm) (h_ses : ps .ses) (h_ldg : ps .ldg) (h_vsr : ps .vsr) (h_mtn : ps .mtn) {v0 : State} (h0 : Touches ps s0 v0) :
    Touches ps s0 (endSession v0) := by
  unfold endSession
  refine Touches.ite ?_ ?_
  · refine runSesActs_touches h_regs h_free h_out h_ddr h_poison h_host h_latches h_tbl h_palm h_ses h_ldg h_vsr h_mtn ?_
    assumption
  · assumption

theorem sesAct_touches {ps : Piece → Prop} {s0 : State} (h_regs : ps .regs) (h_free : ps .free) (h_out : ps .out) (h_ddr : ps .ddr) (h_poison : ps .poison) (h_host : ps .host) (h_latches : ps .latches) (h_tbl : ps .tbl) (h_palm : ps .palm) (h_ses : ps .ses) (h_ldg : ps .ldg) (h_vsr : ps .vsr) (h_mtn : ps .mtn) {v0 : SesAct} {v1 : State} (h0 : Touches ps s0 v1) :
    Touches ps s0 (sesAct v0 v1) := by
  unfold sesAct
  lift_lets
  intro x0
  clear_value x0
  refine endSession_touches h_regs h_free h_out h_ddr h_poison h_host h_latches h_tbl h_palm h_ses h_ldg h_vsr h_mtn ?_
  refine Touches.ite ?_ ?_
  · refine (Touches.upd_ses h_ses ?_)
    assumption
  · refine runSes_touches h_regs h_free h_out h_ddr h_poison h_host h_latches h_tbl h_palm h_ses h_ldg h_vsr h_mtn ?_
    assumption

theorem writeCtxCmd_touches {ps : Piece → Prop} {s0 : State} (h_regs : ps .regs) (h_free : ps .free) (h_out : ps .out) (h_ddr : ps .ddr) (h_poison : ps .poison) (h_host : ps .host) (h_latches : ps .latches) (h_tbl : ps .tbl) (h_palm : ps .palm) (h_ses : ps .ses) (h_ldg : ps .ldg) (h_vsr : ps .vsr) (h_mtn : ps .mtn) {v0 : ℕ} {v1 : State} (h0 : Touches ps s0 v1) :
    Touches ps s0 (writeCtxCmd v0 v1) := by
  unfold writeCtxCmd
  refine Touches.ite ?_ ?_
  · refine sesAct_touches h_regs h_free h_out h_ddr h_poison h_host h_latches h_tbl h_palm h_ses h_ldg h_vsr h_mtn ?_
    refine State.wr_touches h_regs ?_
    assumption
  · assumption

theorem execClearGaps_touches {ps : Piece → Prop} {s0 : State} (h_regs : ps .regs) (h_free : ps .free) (h_out : ps .out) (h_ddr : ps .ddr) (h_poison : ps .poison) (h_host : ps .host) (h_latches : ps .latches) (h_tbl : ps .tbl) (h_palm : ps .palm) (h_ses : ps .ses) (h_ldg : ps .ldg) (h_vsr : ps .vsr) (h_mtn : ps .mtn) {v0 : State} (h0 : Touches ps s0 v0) :
    Moves ps s0 (execClearGaps v0) := by
  unfold execClearGaps
  refine Moves.next ?_
  refine State.written_touches h_regs h_latches h_mtn ?_ ?_
  · assumption
  · intro y0
    intro k1
    refine writeCtxCmd_touches h_regs h_free h_out h_ddr h_poison h_host h_latches h_tbl h_palm h_ses h_ldg h_vsr h_mtn ?_
    assumption

theorem replyFrame_touches {ps : Piece → Prop} {s0 : State} (h_regs : ps .regs) (h_palm : ps .palm) (h_vsr : ps .vsr) {v0 : RetxRequest} {v1 : ℕ} {v2 : List Byte} {v3 : State} (h0 : Touches ps s0 v3) :
    Touches ps s0 (replyFrame v0 v1 v2 v3) := by
  unfold replyFrame
  lift_lets
  intro x0
  clear_value x0
  intro x1
  clear_value x1
  intro x2
  clear_value x2
  intro x3
  clear_value x3
  intro x4
  clear_value x4
  intro x5
  clear_value x5
  intro x6
  clear_value x6
  refine State.count_touches h_regs h_vsr ?_
  refine State.putFrame_touches h_palm ?_
  refine (Touches.upd_palm h_palm ?_)
  assumption

theorem execRetxRequestServe_touches {ps : Piece → Prop} {s0 : State} (h_regs : ps .regs) (h_free : ps .free) (h_out : ps .out) (h_host : ps .host) (h_latches : ps .latches) (h_palm : ps .palm) (h_ses : ps .ses) (h_vsr : ps .vsr) {v0 : List ℕ} {v1 : Bool} {v2 : State} (h0 : Touches ps s0 v2) :
    Moves ps s0 (execRetxRequestServe v0 v1 v2) := by
  unfold execRetxRequestServe
  refine Moves.next ?_
  refine State.running_touches ?_ ?_
  · assumption
  · intro y0
    intro k1
    split
    · assumption
    · lift_lets
      intro x2
      clear_value x2
      intro x3
      have hx4 : Touches ps s0 x3 := by
        unfold x3
        refine State.wr_touches h_regs ?_
        refine (Touches.upd_ses h_ses ?_)
        assumption
      clear_value x3
      intro x5
      clear_value x5
      intro x6
      clear_value x6
      intro x7
      clear_value x7
      intro x8
      clear_value x8
      intro x9
      have hx10 : Touches ps s0 x9 := by
        unfold x9
        refine Touches.foldl (fun _ _ _ => ?_) ?_
        · refine replyFrame_touches h_regs h_palm h_vsr ?_
          assumption
        · refine State.putRequester_touches h_ses ?_
          assumption
      clear_value x9
      intro x11
      have hx12 : Touches ps s0 x11 := by
        unfold x11
        split
        · refine reportRefused_touches h_regs h_free h_out h_host h_latches h_ses ?_
          assumption
        · assumption
      clear_value x11
      refine Touches.ite ?_ ?_
      · refine State.raise_touches h_regs h_out h_host h_latches ?_
        assumption
      · refine Touches.ite ?_ ?_
        · refine reportRefused_touches h_regs h_free h_out h_host h_latches h_ses ?_
          assumption
        · split
          · refine reportMissing_touches h_regs h_free h_out h_host h_latches ?_
            assumption
          · assumption

theorem showCtx_touches {ps : Piece → Prop} {s0 : State} (h_regs : ps .regs) {v0 : ℕ} {v1 : State} (h0 : Touches ps s0 v1) :
    Touches ps s0 (showCtx v0 v1) := by
  unfold showCtx
  lift_lets
  intro x0
  clear_value x0
  intro x1
  have hx2 : ∀ a0 a1 a2, Touches ps s0 a0 → Touches ps s0 (x1 a0 a1 a2) := by
    intro y3
    intro y4
    intro y5
    intro k6
    unfold x1
    refine State.wr_touches h_regs ?_
    assumption
  clear_value x1
  intro x7
  clear_value x7
  intro x8
  have hx9 : Touches ps s0 x8 := by
    unfold x8
    refine Touches.foldl (fun _ _ _ => ?_) ?_
    · refine hx2 _ _ _ ?_
      assumption
    · assumption
  clear_value x8
  intro x10
  have hx11 : Touches ps s0 x10 := by
    unfold x10
    refine Touches.foldl (fun _ _ _ => ?_) ?_
    · refine hx2 _ _ _ ?_
      assumption
    · assumption
  clear_value x10
  intro x12
  clear_value x12
  intro x13
  have hx14 : Touches ps s0 x13 := by
    unfold x13
    refine Touches.foldl (fun _ _ _ => ?_) ?_
    · refine hx2 _ _ _ ?_
      assumption
    · assumption
  clear_value x13
  refine Touches.foldl (fun _ _ _ => ?_) ?_
  · lift_lets
    intro x15
    clear_value x15
    refine State.wri_touches h_regs ?_
    refine State.wri_touches h_regs ?_
    refine State.wri_touches h_regs ?_
    refine State.wri_touches h_regs ?_
    refine State.wri_touches h_regs ?_
    assumption
  · assumption

theorem writeCtxReg.showCtxCfg_touches {ps : Piece → Prop} {s0 : State} (h_regs : ps .regs) {v0 : ℕ} {v1 : State} (h0 : Touches ps s0 v1) :
    Touches ps s0 (writeCtxReg.showCtxCfg v0 v1) := by
  unfold writeCtxReg.showCtxCfg
  lift_lets
  intro x0
  clear_value x0
  intro x1
  have hx2 : Touches ps s0 x1 := by
    unfold x1
    refine Touches.foldl (fun _ _ _ => ?_) ?_
    · refine State.wr_touches h_regs ?_
      assumption
    · assumption
  clear_value x1
  intro x3
  have hx4 : Touches ps s0 x3 := by
    unfold x3
    refine Touches.foldl (fun _ _ _ => ?_) ?_
    · refine State.wr_touches h_regs ?_
      assumption
    · assumption
  clear_value x3
  refine State.wr_touches h_regs ?_
  refine State.wr_touches h_regs ?_
  assumption

theorem writeCtxReg_touches {ps : Piece → Prop} {s0 : State} (h_regs : ps .regs) (h_latches : ps .latches) (h_ses : ps .ses) {v0 : ℕ} {v1 : ℕ} {v2 : State} (h0 : Touches ps s0 v2) :
    Touches ps s0 (writeCtxReg v0 v1 v2) := by
  unfold writeCtxReg
  lift_lets
  intro x0
  clear_value x0
  intro x1
  clear_value x1
  intro x2
  have hx3 : ∀ a0, Touches ps s0 a0 → Touches ps s0 (x2 a0) := by
    intro y4
    intro k5
    unfold x2
    refine State.set1_touches h_regs h_latches ?_
    assumption
  clear_value x2
  intro x6
  clear_value x6
  intro x7
  have hx8 : ∀ a0 a1 a2, Touches ps s0 a2 → Touches ps s0 (x7 a0 a1 a2) := by
    intro y9
    intro y10
    intro y11
    intro k12
    unfold x7
    refine Touches.ite ?_ ?_
    · assumption
    · refine hx3 _ ?_
      assumption
  clear_value x7
  intro x13
  clear_value x13
  intro x14
  clear_value x14
  intro x15
  clear_value x15
  intro x16
  clear_value x16
  split
  · refine writeCtxReg.showCtxCfg_touches h_regs ?_
    refine hx8 _ _ _ ?_
    refine State.putCtx_touches h_regs h_ses ?_
    assumption
  · refine Touches.ite ?_ ?_
    · refine hx3 _ ?_
      assumption
    · refine writeCtxReg.showCtxCfg_touches h_regs ?_
      refine hx8 _ _ _ ?_
      refine State.putCtx_touches h_regs h_ses ?_
      assumption
  · refine Touches.ite ?_ ?_
    · refine writeCtxReg.showCtxCfg_touches h_regs ?_
      refine State.putCtx_touches h_regs h_ses ?_
      assumption
    · refine hx3 _ ?_
      assumption
  · refine writeCtxReg.showCtxCfg_touches h_regs ?_
    refine State.putCtx_touches h_regs h_ses ?_
    assumption

theorem clearCmdRefused_touches {ps : Piece → Prop} {s0 : State} (h_regs : ps .regs) (h_ses : ps .ses) {v0 : State} (h0 : Touches ps s0 v0) :
    Touches ps s0 (clearCmdRefused v0) := by
  unfold clearCmdRefused
  lift_lets
  intro x0
  clear_value x0
  intro x1
  clear_value x1
  refine State.wr_touches h_regs ?_
  refine State.putCtx_touches h_regs h_ses ?_
  assumption

theorem showRequester_touches {ps : Piece → Prop} {s0 : State} (h_regs : ps .regs) {v0 : ℕ} {v1 : State} (h0 : Touches ps s0 v1) :
    Touches ps s0 (showRequester v0 v1) := by
  unfold showRequester
  lift_lets
  intro x0
  clear_value x0
  refine Touches.foldl (fun _ _ _ => ?_) ?_
  · refine State.wr_touches h_regs ?_
    assumption
  · assumption

theorem clearRefused_touches {ps : Piece → Prop} {s0 : State} (h_regs : ps .regs) (h_ses : ps .ses) {v0 : State} (h0 : Touches ps s0 v0) :
    Touches ps s0 (clearRefused v0) := by
  unfold clearRefused
  lift_lets
  intro x0
  clear_value x0
  intro x1
  clear_value x1
  refine State.wr_touches h_regs ?_
  refine State.putRequester_touches h_ses ?_
  assumption

theorem execReqEnable_touches {ps : Piece → Prop} {s0 : State} (h_regs : ps .regs) (h_latches : ps .latches) (h_ses : ps .ses) (h_mtn : ps .mtn) {v0 : BitVec 16} {v1 : BitVec 16} {v2 : State} (h0 : Touches ps s0 v2) :
    Moves ps s0 (execReqEnable v0 v1 v2) := by
  unfold execReqEnable
  refine Moves.next ?_
  refine State.written_touches h_regs h_latches h_mtn ?_ ?_
  · assumption
  · intro y0
    intro k1
    refine writeReqCfg_touches h_regs h_ses ?_
    assumption

theorem execDisable_touches {ps : Piece → Prop} {s0 : State} (h_regs : ps .regs) (h_free : ps .free) (h_out : ps .out) (h_ddr : ps .ddr) (h_poison : ps .poison) (h_host : ps .host) (h_latches : ps .latches) (h_tbl : ps .tbl) (h_palm : ps .palm) (h_ses : ps .ses) (h_ldg : ps .ldg) (h_vsr : ps .vsr) (h_mtn : ps .mtn) {v0 : State} (h0 : Touches ps s0 v0) :
    Moves ps s0 (execDisable v0) := by
  unfold execDisable
  refine Moves.next ?_
  refine State.written_touches h_regs h_latches h_mtn ?_ ?_
  · assumption
  · intro y0
    intro k1
    refine writeCtxCmd_touches h_regs h_free h_out h_ddr h_poison h_host h_latches h_tbl h_palm h_ses h_ldg h_vsr h_mtn ?_
    assumption

theorem execContextLost_touches {ps : Piece → Prop} {s0 : State} (h_regs : ps .regs) (h_free : ps .free) (h_out : ps .out) (h_ddr : ps .ddr) (h_poison : ps .poison) (h_host : ps .host) (h_latches : ps .latches) (h_tbl : ps .tbl) (h_palm : ps .palm) (h_ses : ps .ses) (h_ldg : ps .ldg) (h_vsr : ps .vsr) (h_mtn : ps .mtn) {v0 : ℕ} {v1 : State} (h0 : Touches ps s0 v1) :
    Moves ps s0 (execContextLost v0 v1) := by
  unfold execContextLost
  refine Moves.next ?_
  refine State.running_touches ?_ ?_
  · assumption
  · intro y0
    intro k1
    refine sesAct_touches h_regs h_free h_out h_ddr h_poison h_host h_latches h_tbl h_palm h_ses h_ldg h_vsr h_mtn ?_
    assumption

theorem execGapExpired_touches {ps : Piece → Prop} {s0 : State} (h_regs : ps .regs) (h_free : ps .free) (h_out : ps .out) (h_ddr : ps .ddr) (h_poison : ps .poison) (h_host : ps .host) (h_latches : ps .latches) (h_tbl : ps .tbl) (h_palm : ps .palm) (h_ses : ps .ses) (h_ldg : ps .ldg) (h_vsr : ps .vsr) (h_mtn : ps .mtn) {v0 : Fin 8192} {v1 : State} (h0 : Touches ps s0 v1) :
    Moves ps s0 (execGapExpired v0 v1) := by
  unfold execGapExpired
  refine Moves.next ?_
  refine State.running_touches ?_ ?_
  · assumption
  · intro y0
    intro k1
    refine sesAct_touches h_regs h_free h_out h_ddr h_poison h_host h_latches h_tbl h_palm h_ses h_ldg h_vsr h_mtn ?_
    assumption

theorem execContextArm_touches {ps : Piece → Prop} {s0 : State} (h_regs : ps .regs) (h_free : ps .free) (h_out : ps .out) (h_ddr : ps .ddr) (h_poison : ps .poison) (h_host : ps .host) (h_latches : ps .latches) (h_tbl : ps .tbl) (h_palm : ps .palm) (h_ses : ps .ses) (h_ldg : ps .ldg) (h_vsr : ps .vsr) (h_mtn : ps .mtn) {v0 : State} (h0 : Touches ps s0 v0) :
    Moves ps s0 (execContextArm v0) := by
  unfold execContextArm
  refine Moves.next ?_
  refine State.written_touches h_regs h_latches h_mtn ?_ ?_
  · assumption
  · intro y0
    intro k1
    refine writeCtxCmd_touches h_regs h_free h_out h_ddr h_poison h_host h_latches h_tbl h_palm h_ses h_ldg h_vsr h_mtn ?_
    assumption

theorem execSessionDecision_touches {ps : Piece → Prop} {s0 : State} (h_regs : ps .regs) (h_free : ps .free) (h_out : ps .out) (h_ddr : ps .ddr) (h_poison : ps .poison) (h_host : ps .host) (h_latches : ps .latches) (h_tbl : ps .tbl) (h_palm : ps .palm) (h_ses : ps .ses) (h_ldg : ps .ldg) (h_vsr : ps .vsr) (h_mtn : ps .mtn) {v0 : ℕ} {v1 : Bool} {v2 : State} (h0 : Touches ps s0 v2) :
    Moves ps s0 (execSessionDecision v0 v1 v2) := by
  unfold execSessionDecision
  refine Moves.next ?_
  refine State.running_touches ?_ ?_
  · assumption
  · intro y0
    intro k1
    refine sesAct_touches h_regs h_free h_out h_ddr h_poison h_host h_latches h_tbl h_palm h_ses h_ldg h_vsr h_mtn ?_
    assumption

theorem execRingWrite_touches {ps : Piece → Prop} {s0 : State} (h_regs : ps .regs) (h_out : ps .out) (h_ddr : ps .ddr) (h_poison : ps .poison) (h_host : ps .host) (h_latches : ps .latches) (h_ses : ps .ses) {v0 : State} (h0 : Touches ps s0 v0) :
    Moves ps s0 (execRingWrite v0) := by
  unfold execRingWrite
  refine Moves.next ?_
  refine State.running_touches ?_ ?_
  · assumption
  · intro y0
    intro k1
    split
    · assumption
    · lift_lets
      intro x2
      clear_value x2
      intro x3
      have hx4 : Touches ps s0 x3 := by
        unfold x3
        refine (Touches.upd_ses h_ses ?_)
        assumption
      clear_value x3
      intro x5
      have hx6 : Touches ps s0 x5 := by
        unfold x5
        refine State.ddrWrite_touches h_ddr h_poison ?_
        assumption
      clear_value x5
      intro x7
      have hx8 : Touches ps s0 x7 := by
        unfold x7
        refine State.ddrWrite_touches h_ddr h_poison ?_
        refine State.ddrWrite_touches h_ddr h_poison ?_
        assumption
      clear_value x7
      refine Touches.ite ?_ ?_
      · refine State.ddrWrite_touches h_ddr h_poison ?_
        assumption
      · refine State.raise_touches h_regs h_out h_host h_latches ?_
        refine State.raise_touches h_regs h_out h_host h_latches ?_
        refine State.bump_touches h_regs h_latches ?_
        assumption

theorem execSetExpected_touches {ps : Piece → Prop} {s0 : State} (h_regs : ps .regs) (h_free : ps .free) (h_out : ps .out) (h_ddr : ps .ddr) (h_poison : ps .poison) (h_host : ps .host) (h_latches : ps .latches) (h_tbl : ps .tbl) (h_palm : ps .palm) (h_ses : ps .ses) (h_ldg : ps .ldg) (h_vsr : ps .vsr) (h_mtn : ps .mtn) {v0 : State} (h0 : Touches ps s0 v0) :
    Moves ps s0 (execSetExpected v0) := by
  unfold execSetExpected
  refine Moves.next ?_
  refine State.written_touches h_regs h_latches h_mtn ?_ ?_
  · assumption
  · intro y0
    intro k1
    refine writeCtxCmd_touches h_regs h_free h_out h_ddr h_poison h_host h_latches h_tbl h_palm h_ses h_ldg h_vsr h_mtn ?_
    assumption

theorem execCtxSelWrite_touches {ps : Piece → Prop} {s0 : State} (h_regs : ps .regs) (h_latches : ps .latches) (h_mtn : ps .mtn) {v0 : Bool} {v1 : Fin 8192} {v2 : State} (h0 : Touches ps s0 v2) :
    Moves ps s0 (execCtxSelWrite v0 v1 v2) := by
  unfold execCtxSelWrite
  refine Moves.next ?_
  refine State.written_touches h_regs h_latches h_mtn ?_ ?_
  · assumption
  · intro y0
    intro k1
    refine Touches.ite ?_ ?_
    · refine showRequester_touches h_regs ?_
      refine State.wr_touches h_regs ?_
      assumption
    · refine showCtx_touches h_regs ?_
      refine State.wr_touches h_regs ?_
      assumption

theorem execLegDown_touches {ps : Piece → Prop} {s0 : State} (h_regs : ps .regs) (h_free : ps .free) (h_out : ps .out) (h_ddr : ps .ddr) (h_poison : ps .poison) (h_host : ps .host) (h_latches : ps .latches) (h_tbl : ps .tbl) (h_palm : ps .palm) (h_ses : ps .ses) (h_ldg : ps .ldg) (h_vsr : ps .vsr) (h_mtn : ps .mtn) {v0 : Fin 8192} {v1 : State} (h0 : Touches ps s0 v1) :
    Moves ps s0 (execLegDown v0 v1) := by
  unfold execLegDown
  refine Moves.next ?_
  refine State.running_touches ?_ ?_
  · assumption
  · intro y0
    intro k1
    refine sesAct_touches h_regs h_free h_out h_ddr h_poison h_host h_latches h_tbl h_palm h_ses h_ldg h_vsr h_mtn ?_
    assumption

end Sys2Proof.Machine
end

