-- ==== Sys2Proof/Laws/TouchVisor.lean ====
section
/-! SUPPORT. What the operations of Machine/Visor.lean may touch: one lemma for each. -/

set_option maxRecDepth 10000

namespace Sys2Proof.Machine

theorem execSnapSlow_touches {ps : Piece → Prop} {s0 : State} (h_regs : ps .regs) (h_out : ps .out) (h_host : ps .host) (h_latches : ps .latches) (h_vsr : ps .vsr) {v0 : State} (h0 : Touches ps s0 v0) :
    Moves ps s0 (execSnapSlow v0) := by
  unfold execSnapSlow
  refine Moves.next ?_
  refine State.running_touches ?_ ?_
  · assumption
  · intro y0
    intro k1
    split
    · refine State.given_touches ?_ ?_
      · assumption
      · intro y2
        intro k3
        lift_lets
        intro x4
        clear_value x4
        refine State.raise_touches h_regs h_out h_host h_latches ?_
        refine (Touches.upd_vsr h_vsr ?_)
        assumption
    · assumption

theorem execCounterEvent_touches {ps : Piece → Prop} {s0 : State} (h_regs : ps .regs) (h_vsr : ps .vsr) {v0 : BitVec 16} {v1 : Fin 8192} {v2 : ℕ} {v3 : ℕ} {v4 : State} (h0 : Touches ps s0 v4) :
    Moves ps s0 (execCounterEvent v0 v1 v2 v3 v4) := by
  unfold execCounterEvent
  refine Moves.next ?_
  refine State.running_touches ?_ ?_
  · assumption
  · intro y0
    intro k1
    lift_lets
    intro x2
    clear_value x2
    refine State.given_touches ?_ ?_
    · assumption
    · intro y3
      intro k4
      refine State.count_touches h_regs h_vsr ?_
      assumption

theorem State.putBwRegs_touches {ps : Piece → Prop} {s0 : State} (h_regs : ps .regs) {v0 : State} {v1 : ℕ} {v2 : BwRegs} (h0 : Touches ps s0 v0) :
    Touches ps s0 (State.putBwRegs v0 v1 v2) := by
  unfold State.putBwRegs
  lift_lets
  intro x0
  clear_value x0
  refine State.wr_touches h_regs ?_
  refine State.wr_touches h_regs ?_
  refine State.wr_touches h_regs ?_
  refine State.wr_touches h_regs ?_
  refine State.wr_touches h_regs ?_
  assumption

theorem State.putBw_touches {ps : Piece → Prop} {s0 : State} (h_vsr : ps .vsr) {v0 : State} {v1 : ℕ} {v2 : Bw} (h0 : Touches ps s0 v0) :
    Touches ps s0 (State.putBw v0 v1 v2) := by
  unfold State.putBw
  lift_lets
  intro x0
  clear_value x0
  refine (Touches.upd_vsr h_vsr ?_)
  assumption

theorem closeBw_touches {ps : Piece → Prop} {s0 : State} (h_regs : ps .regs) (h_vsr : ps .vsr) {v0 : ℕ} {v1 : ℕ} {v2 : State} (h0 : Touches ps s0 v2) :
    Touches ps s0 (closeBw v0 v1 v2) := by
  unfold closeBw
  lift_lets
  intro x0
  clear_value x0
  intro x1
  clear_value x1
  intro x2
  clear_value x2
  intro x3
  clear_value x3
  intro x4
  have hx5 : Touches ps s0 x4 := by
    unfold x4
    refine State.putBwRegs_touches h_regs ?_
    assumption
  clear_value x4
  refine Touches.ite ?_ ?_
  · assumption
  · refine State.putBw_touches h_vsr ?_
    assumption

theorem closeWindows_touches {ps : Piece → Prop} {s0 : State} (h_regs : ps .regs) (h_vsr : ps .vsr) {v0 : ℕ} {v1 : State} (h0 : Touches ps s0 v1) :
    Touches ps s0 (closeWindows v0 v1) := by
  unfold closeWindows
  lift_lets
  intro x0
  clear_value x0
  split
  · lift_lets
    intro x1
    have hx2 : Touches ps s0 x1 := by
      unfold x1
      refine closeBw_touches h_regs h_vsr ?_
      assumption
    clear_value x1
    intro x3
    clear_value x3
    intro x4
    clear_value x4
    intro x5
    have hx6 : Touches ps s0 x5 := by
      unfold x5
      refine (Touches.upd_vsr h_vsr ?_)
      assumption
    clear_value x5
    refine Touches.ite ?_ ?_
    · refine closeBw_touches h_regs h_vsr ?_
      refine State.putBwRegs_touches h_regs ?_
      assumption
    · refine closeBw_touches h_regs h_vsr ?_
      assumption
  · refine closeBw_touches h_regs h_vsr ?_
    assumption

theorem execBwWindowClose_touches {ps : Piece → Prop} {s0 : State} (h_regs : ps .regs) (h_vsr : ps .vsr) {v0 : Fin 1024} {v1 : State} (h0 : Touches ps s0 v1) :
    Moves ps s0 (execBwWindowClose v0 v1) := by
  unfold execBwWindowClose
  lift_lets
  intro x0
  clear_value x0
  intro x1
  clear_value x1
  intro x2
  clear_value x2
  refine Moves.next ?_
  refine State.given_touches ?_ ?_
  · assumption
  · intro y3
    intro k4
    refine closeWindows_touches h_regs h_vsr ?_
    assumption

theorem writeSnapAt_touches {ps : Piece → Prop} {s0 : State} (h_regs : ps .regs) (h_out : ps .out) (h_host : ps .host) (h_latches : ps .latches) (h_vsr : ps .vsr) (h_mtn : ps .mtn) {v0 : ℕ} {v1 : State} (h0 : Touches ps s0 v1) :
    Touches ps s0 (writeSnapAt v0 v1) := by
  unfold writeSnapAt
  refine Touches.ite ?_ ?_
  · refine State.set1_touches h_regs h_latches ?_
    assumption
  · lift_lets
    intro x0
    clear_value x0
    intro x1
    clear_value x1
    intro x2
    have hx3 : Touches ps s0 x2 := by
      unfold x2
      refine State.wr_touches h_regs ?_
      refine State.wrPair_touches h_regs ?_
      assumption
    clear_value x2
    intro x4
    clear_value x4
    intro x5
    have hx6 : Touches ps s0 x5 := by
      unfold x5
      refine (Touches.upd_vsr h_vsr ?_)
      assumption
    clear_value x5
    intro x7
    have hx8 : Touches ps s0 x7 := by
      unfold x7
      refine State.raise_touches h_regs h_out h_host h_latches ?_
      refine State.set1_touches h_regs h_latches ?_
      assumption
    clear_value x7
    refine recomputeDdr_touches h_regs h_out h_host h_mtn ?_
    refine Touches.ite ?_ ?_
    · assumption
    · refine Touches.ite ?_ ?_
      · assumption
      · refine State.vector_touches h_out h_host ?_
        assumption

theorem snapCancel_touches {ps : Piece → Prop} {s0 : State} (h_regs : ps .regs) (h_out : ps .out) (h_host : ps .host) (h_vsr : ps .vsr) (h_mtn : ps .mtn) {v0 : State} (h0 : Touches ps s0 v0) :
    Touches ps s0 (snapCancel v0) := by
  unfold snapCancel
  split
  · assumption
  · refine Touches.ite ?_ ?_
    · lift_lets
      intro x0
      clear_value x0
      refine (Touches.upd_vsr h_vsr ?_)
      assumption
    · lift_lets
      intro x1
      clear_value x1
      refine recomputeDdr_touches h_regs h_out h_host h_mtn ?_
      refine State.wr_touches h_regs ?_
      refine (Touches.upd_vsr h_vsr ?_)
      assumption

theorem refreshBw_touches {ps : Piece → Prop} {s0 : State} (h_vsr : ps .vsr) {v0 : State} (h0 : Touches ps s0 v0) :
    Touches ps s0 (refreshBw v0) := by
  unfold refreshBw
  refine Touches.foldl (fun _ _ _ => ?_) ?_
  · lift_lets
    intro x0
    clear_value x0
    intro x1
    clear_value x1
    intro x2
    clear_value x2
    refine Touches.ite ?_ ?_
    · assumption
    · refine State.putBw_touches h_vsr ?_
      assumption
  · assumption

theorem writeEvsel_touches {ps : Piece → Prop} {s0 : State} (h_regs : ps .regs) (h_latches : ps .latches) (h_vsr : ps .vsr) {v0 : ℕ} {v1 : ℕ} {v2 : State} (h0 : Touches ps s0 v2) :
    Touches ps s0 (writeEvsel v0 v1 v2) := by
  unfold writeEvsel
  lift_lets
  intro x0
  clear_value x0
  intro x1
  clear_value x1
  intro x2
  clear_value x2
  intro x3
  have hx4 : Touches ps s0 x3 := by
    unfold x3
    refine State.wri_touches h_regs ?_
    refine State.wri_touches h_regs ?_
    refine State.wri_touches h_regs ?_
    refine State.wri_touches h_regs ?_
    assumption
  clear_value x3
  intro x5
  clear_value x5
  refine Touches.ite ?_ ?_
  · refine State.set1_touches h_regs h_latches ?_
    assumption
  · refine (Touches.upd_vsr h_vsr ?_)
    assumption

theorem traceEnable_touches {ps : Piece → Prop} {s0 : State} (h_regs : ps .regs) (h_free : ps .free) (h_out : ps .out) (h_host : ps .host) (h_palm : ps .palm) (h_mtn : ps .mtn) {v0 : ℕ} {v1 : Bool} {v2 : ℕ} {v3 : State} (h0 : Touches ps s0 v3) :
    Touches ps s0 (traceEnable v0 v1 v2 v3) := by
  unfold traceEnable
  lift_lets
  intro x0
  clear_value x0
  intro x1
  have hx2 : Touches ps s0 x1 := by
    unfold x1
    refine State.wr_touches h_regs ?_
    refine State.wr_touches h_regs ?_
    refine State.wr_touches h_regs ?_
    assumption
  clear_value x1
  intro x3
  clear_value x3
  intro x4
  clear_value x4
  refine Touches.ite ?_ ?_
  · assumption
  · refine recomputeDdr_touches h_regs h_out h_host h_mtn ?_
    refine Touches.multi (b := x1) ?_ (fun p hn => by cases p <;> first | exact absurd (by assumption) hn | rfl) (fun hs => hs) (fun hs => hs)
    assumption

theorem execSnapCancel_touches {ps : Piece → Prop} {s0 : State} (h_regs : ps .regs) (h_out : ps .out) (h_host : ps .host) (h_latches : ps .latches) (h_vsr : ps .vsr) (h_mtn : ps .mtn) {v0 : State} (h0 : Touches ps s0 v0) :
    Moves ps s0 (execSnapCancel v0) := by
  unfold execSnapCancel
  refine Moves.next ?_
  refine State.written_touches h_regs h_latches h_mtn ?_ ?_
  · assumption
  · intro y0
    intro k1
    refine snapCancel_touches h_regs h_out h_host h_vsr h_mtn ?_
    assumption

theorem counterEcc_touches {ps : Piece → Prop} {s0 : State} (h_regs : ps .regs) (h_out : ps .out) (h_host : ps .host) (h_latches : ps .latches) (h_vsr : ps .vsr) {v0 : ℕ} {v1 : ℕ} {v2 : ℕ} {v3 : State} (h0 : Touches ps s0 v3) :
    Touches ps s0 (counterEcc v0 v1 v2 v3) := by
  unfold counterEcc
  split
  · refine State.raise_touches h_regs h_out h_host h_latches ?_
    assumption
  · refine State.raise_touches h_regs h_out h_host h_latches ?_
    assumption
  · lift_lets
    intro x0
    clear_value x0
    intro x1
    clear_value x1
    intro x2
    have hx3 : Touches ps s0 x2 := by
      unfold x2
      refine Touches.multi (b := v3) ?_ (fun p hn => by cases p <;> first | exact absurd (by assumption) hn | rfl) ?_ (fun hs => hs)
      · assumption
      · first | exact fun hs => SMap.sorted_put _ _ _ _ hs | exact fun hs => SMap.sorted_enter _ _ _ hs | exact fun hs => SMap.sorted_filter _ _ hs
    clear_value x2
    refine State.raise_touches h_regs h_out h_host h_latches ?_
    refine State.bump_touches h_regs h_latches ?_
    refine State.wr_touches h_regs ?_
    refine State.wr_touches h_regs ?_
    assumption

theorem execCounterEccError_touches {ps : Piece → Prop} {s0 : State} (h_regs : ps .regs) (h_out : ps .out) (h_host : ps .host) (h_latches : ps .latches) (h_vsr : ps .vsr) {v0 : Fin 4096} {v1 : Fin 512} {v2 : Fin 3} {v3 : State} (h0 : Touches ps s0 v3) :
    Moves ps s0 (execCounterEccError v0 v1 v2 v3) := by
  unfold execCounterEccError
  refine Moves.next ?_
  refine State.given_touches ?_ ?_
  · assumption
  · intro y0
    intro k1
    refine counterEcc_touches h_regs h_out h_host h_latches h_vsr ?_
    assumption

theorem execTraceEnable_touches {ps : Piece → Prop} {s0 : State} (h_regs : ps .regs) (h_free : ps .free) (h_out : ps .out) (h_host : ps .host) (h_latches : ps .latches) (h_palm : ps .palm) (h_mtn : ps .mtn) {v0 : Fin 32} {v1 : Bool} {v2 : BitVec 5} {v3 : State} (h0 : Touches ps s0 v3) :
    Moves ps s0 (execTraceEnable v0 v1 v2 v3) := by
  unfold execTraceEnable
  refine Moves.next ?_
  refine State.written_touches h_regs h_latches h_mtn ?_ ?_
  · assumption
  · intro y0
    intro k1
    refine traceEnable_touches h_regs h_free h_out h_host h_palm h_mtn ?_
    assumption

theorem writeImage_touches {ps : Piece → Prop} {s0 : State} (h_ddr : ps .ddr) (h_poison : ps .poison) {v0 : ℕ} {v1 : ℕ} {v2 : SnapImage} {v3 : State} (h0 : Touches ps s0 v3) :
    Touches ps s0 (writeImage v0 v1 v2 v3) := by
  unfold writeImage
  lift_lets
  intro x0
  clear_value x0
  intro x1
  have hx2 : Touches ps s0 x1 := by
    unfold x1
    refine Touches.multi (b := v3) ?_ (fun p hn => by cases p <;> first | exact absurd (by assumption) hn | rfl) (fun hs => hs) ?_
    · assumption
    · first | exact fun hs => ddrStore_wf _ _ _ hs | exact fun hs => SMap.wf_filter _ _ _ hs | exact fun _ => rfl
  clear_value x1
  intro x3
  have hx4 : Touches ps s0 x3 := by
    unfold x3
    refine Touches.foldl (fun _ _ _ => ?_) ?_
    · refine Touches.ite ?_ ?_
      · refine State.ddrWrite_touches h_ddr h_poison ?_
        assumption
      · assumption
    · assumption
  clear_value x3
  intro x5
  have hx6 : Touches ps s0 x5 := by
    unfold x5
    refine Touches.foldl (fun _ _ _ => ?_) ?_
    · refine State.ddrWrite_touches h_ddr h_poison ?_
      assumption
    · assumption
  clear_value x5
  refine State.ddrWrite_touches h_ddr h_poison ?_
  assumption

theorem completeSnapshot_touches {ps : Piece → Prop} {s0 : State} (h_regs : ps .regs) (h_out : ps .out) (h_ddr : ps .ddr) (h_poison : ps .poison) (h_host : ps .host) (h_latches : ps .latches) (h_vsr : ps .vsr) (h_mtn : ps .mtn) {v0 : SnapImage} {v1 : State} (h0 : Touches ps s0 v1) :
    Touches ps s0 (completeSnapshot v0 v1) := by
  unfold completeSnapshot
  lift_lets
  intro x0
  clear_value x0
  intro x1
  have hx2 : Touches ps s0 x1 := by
    unfold x1
    refine Touches.ite ?_ ?_
    · refine writeImage_touches h_ddr h_poison ?_
      assumption
    · refine State.raise_touches h_regs h_out h_host h_latches ?_
      assumption
  clear_value x1
  intro x3
  clear_value x3
  intro x4
  have hx5 : Touches ps s0 x4 := by
    unfold x4
    refine (Touches.upd_vsr h_vsr ?_)
    assumption
  clear_value x4
  intro x6
  have hx7 : Touches ps s0 x6 := by
    unfold x6
    refine State.wrPair_touches h_regs ?_
    refine State.wr_touches h_regs ?_
    refine State.wr_touches h_regs ?_
    refine State.wr_touches h_regs ?_
    assumption
  clear_value x6
  refine recomputeDdr_touches h_regs h_out h_host h_mtn ?_
  refine State.vector_touches h_out h_host ?_
  refine State.count_touches h_regs h_vsr ?_
  refine State.wr_touches h_regs ?_
  assumption

theorem execSnapshotComplete_touches {ps : Piece → Prop} {s0 : State} (h_regs : ps .regs) (h_out : ps .out) (h_ddr : ps .ddr) (h_poison : ps .poison) (h_host : ps .host) (h_latches : ps .latches) (h_vsr : ps .vsr) (h_mtn : ps .mtn) {v0 : State} (h0 : Touches ps s0 v0) :
    Moves ps s0 (execSnapshotComplete v0) := by
  unfold execSnapshotComplete
  refine Moves.next ?_
  refine State.running_touches ?_ ?_
  · assumption
  · intro y0
    intro k1
    split
    · refine completeSnapshot_touches h_regs h_out h_ddr h_poison h_host h_latches h_vsr h_mtn ?_
      assumption
    · assumption

theorem execEvselWrite_touches {ps : Piece → Prop} {s0 : State} (h_regs : ps .regs) (h_latches : ps .latches) (h_vsr : ps .vsr) (h_mtn : ps .mtn) {v0 : Fin 4096} {v1 : Word} {v2 : State} (h0 : Touches ps s0 v2) :
    Moves ps s0 (execEvselWrite v0 v1 v2) := by
  unfold execEvselWrite
  refine Moves.next ?_
  refine State.written_touches h_regs h_latches h_mtn ?_ ?_
  · assumption
  · intro y0
    intro k1
    refine writeEvsel_touches h_regs h_latches h_vsr ?_
    assumption

theorem execBwEndRead_touches {ps : Piece → Prop} {s0 : State} (h_out : ps .out) (h_vsr : ps .vsr) {v0 : Fin 1024} {v1 : Bool} {v2 : State} (h0 : Touches ps s0 v2) :
    Moves ps s0 (execBwEndRead v0 v1 v2) := by
  unfold execBwEndRead
  lift_lets
  intro x0
  clear_value x0
  intro x1
  clear_value x1
  intro x2
  clear_value x2
  refine Moves.next ?_
  refine Touches.ite ?_ ?_
  · refine State.send_touches h_out ?_
    assumption
  · refine Touches.ite ?_ ?_
    · refine State.send_touches h_out ?_
      assumption
    · refine State.send_touches h_out ?_
      refine (Touches.upd_vsr h_vsr ?_)
      assumption

theorem execSnapAtWrite_touches {ps : Piece → Prop} {s0 : State} (h_regs : ps .regs) (h_out : ps .out) (h_host : ps .host) (h_latches : ps .latches) (h_vsr : ps .vsr) (h_mtn : ps .mtn) {v0 : Word} {v1 : State} (h0 : Touches ps s0 v1) :
    Moves ps s0 (execSnapAtWrite v0 v1) := by
  unfold execSnapAtWrite
  refine Moves.next ?_
  refine State.written_touches h_regs h_latches h_mtn ?_ ?_
  · assumption
  · intro y0
    intro k1
    refine writeSnapAt_touches h_regs h_out h_host h_latches h_vsr h_mtn ?_
    assumption

theorem closeSnapshot_touches {ps : Piece → Prop} {s0 : State} (h_regs : ps .regs) (h_ddr : ps .ddr) (h_poison : ps .poison) (h_vsr : ps .vsr) {v0 : T80} {v1 : State} (h0 : Touches ps s0 v1) :
    Touches ps s0 (closeSnapshot v0 v1) := by
  unfold closeSnapshot
  lift_lets
  intro x0
  clear_value x0
  intro x1
  have hx2 : Touches ps s0 x1 := by
    unfold x1
    refine Touches.foldl (fun _ _ _ => ?_) ?_
    · refine Touches.ite ?_ ?_
      · assumption
      · refine State.wr_touches h_regs ?_
        refine State.wr_touches h_regs ?_
        assumption
    · assumption
  clear_value x1
  intro x3
  intro x4
  clear_value x4
  intro x5
  have hx6 : Touches ps s0 x5 := by
    unfold x5
    refine Touches.ite ?_ ?_
    · refine State.ddrWrite_touches h_ddr h_poison ?_
      assumption
    · assumption
  clear_value x5
  intro x7
  clear_value x7
  refine State.wr_touches h_regs ?_
  refine State.wr_touches h_regs ?_
  refine (Touches.upd_vsr h_vsr ?_)
  assumption

theorem execSnapshotClose_touches {ps : Piece → Prop} {s0 : State} (h_regs : ps .regs) (h_ddr : ps .ddr) (h_poison : ps .poison) (h_vsr : ps .vsr) {v0 : State} (h0 : Touches ps s0 v0) :
    Moves ps s0 (execSnapshotClose v0) := by
  unfold execSnapshotClose
  refine Moves.next ?_
  refine State.running_touches ?_ ?_
  · assumption
  · intro y0
    intro k1
    split
    · assumption
    · lift_lets
      intro x2
      clear_value x2
      refine State.given_touches ?_ ?_
      · assumption
      · intro y3
        intro k4
        refine closeSnapshot_touches h_regs h_ddr h_poison h_vsr ?_
        assumption

end Sys2Proof.Machine
end

