-- ==== Sys2Proof/Laws/TouchDram.lean ====
section
/-! SUPPORT. What the operations of Machine/Dram.lean may touch: one lemma for each. -/

set_option maxRecDepth 10000

namespace Sys2Proof.Machine

theorem readPopulation_touches {ps : Piece → Prop} {s0 : State} (h_regs : ps .regs) (h_dram : ps .dram) {v0 : List (Option Dimm)} {v1 : State} (h0 : Touches ps s0 v1) :
    Touches ps s0 (readPopulation v0 v1) := by
  unfold readPopulation
  lift_lets
  intro x0
  clear_value x0
  intro x1
  clear_value x1
  refine Touches.foldl (fun _ _ _ => ?_) ?_
  · lift_lets
    intro x2
    have hx3 : Touches ps s0 x2 := by
      unfold x2
      refine State.wr_touches h_regs ?_
      refine State.wr_touches h_regs ?_
      assumption
    clear_value x2
    split
    · assumption
    · refine Touches.ite ?_ ?_
      · refine State.wr_touches h_regs ?_
        refine State.wr_touches h_regs ?_
        refine State.wr_touches h_regs ?_
        assumption
      · assumption
  · refine (Touches.upd_dram h_dram ?_)
    assumption

theorem refreshRegions_touches {ps : Piece → Prop} {s0 : State} (h_regs : ps .regs) {v0 : State} (h0 : Touches ps s0 v0) :
    Touches ps s0 (refreshRegions v0) := by
  unfold refreshRegions
  lift_lets
  intro x0
  clear_value x0
  intro x1
  clear_value x1
  intro x2
  have hx3 : ∀ a0 a1 a2 a3, Touches ps s0 a0 → Touches ps s0 (x2 a0 a1 a2 a3) := by
    intro y4
    intro y5
    intro y6
    intro y7
    intro k8
    unfold x2
    refine State.wri_touches h_regs ?_
    refine State.wri_touches h_regs ?_
    assumption
  clear_value x2
  refine Touches.ite ?_ ?_
  · refine hx3 _ _ _ _ ?_
    refine hx3 _ _ _ _ ?_
    refine hx3 _ _ _ _ ?_
    refine hx3 _ _ _ _ ?_
    assumption
  · refine hx3 _ _ _ _ ?_
    refine hx3 _ _ _ _ ?_
    refine hx3 _ _ _ _ ?_
    refine hx3 _ _ _ _ ?_
    assumption

theorem writeRetxGib_touches {ps : Piece → Prop} {s0 : State} (h_regs : ps .regs) (h_out : ps .out) (h_host : ps .host) (h_latches : ps .latches) {v0 : ℕ} {v1 : State} (h0 : Touches ps s0 v1) :
    Touches ps s0 (writeRetxGib v0 v1) := by
  unfold writeRetxGib
  lift_lets
  intro x0
  clear_value x0
  refine Touches.ite ?_ ?_
  · refine State.vector_touches h_out h_host ?_
    refine refreshRegions_touches h_regs ?_
    refine State.wr_touches h_regs ?_
    assumption
  · refine State.raise_touches h_regs h_out h_host h_latches ?_
    refine State.set1_touches h_regs h_latches ?_
    assumption

theorem loseDdr_touches {ps : Piece → Prop} {s0 : State} (h_ddr : ps .ddr) (h_poison : ps .poison) (h_tbl : ps .tbl) (h_crown : ps .crown) {v0 : State} (h0 : Touches ps s0 v0) :
    Touches ps s0 (loseDdr v0) := by
  unfold loseDdr
  lift_lets
  intro x0
  clear_value x0
  intro x1
  clear_value x1
  refine Touches.multi (b := v0) ?_ (fun p hn => by cases p <;> first | exact absurd (by assumption) hn | rfl) (fun hs => hs) ?_
  · assumption
  · first | exact fun hs => ddrStore_wf _ _ _ hs | exact fun hs => SMap.wf_filter _ _ _ hs | exact fun _ => rfl

theorem lowerRetx_touches {ps : Piece → Prop} {s0 : State} (h_regs : ps .regs) (h_out : ps .out) (h_host : ps .host) (h_latches : ps .latches) {v0 : State} (h0 : Touches ps s0 v0) :
    Touches ps s0 (lowerRetx v0) := by
  unfold lowerRetx
  lift_lets
  intro x0
  clear_value x0
  refine Touches.ite ?_ ?_
  · refine State.vector_touches h_out h_host ?_
    refine State.raise_touches h_regs h_out h_host h_latches ?_
    refine State.wr_touches h_regs ?_
    assumption
  · assumption

theorem settleDdr_touches {ps : Piece → Prop} {s0 : State} (h_regs : ps .regs) (h_out : ps .out) (h_ddr : ps .ddr) (h_poison : ps .poison) (h_host : ps .host) (h_latches : ps .latches) (h_tbl : ps .tbl) (h_mtn : ps .mtn) (h_crown : ps .crown) (h_dram : ps .dram) {v0 : State} (h0 : Touches ps s0 v0) :
    Touches ps s0 (settleDdr v0) := by
  unfold settleDdr
  lift_lets
  intro x0
  clear_value x0
  intro x1
  clear_value x1
  intro x2
  have hx3 : Touches ps s0 x2 := by
    unfold x2
    refine Touches.ite ?_ ?_
    · assumption
    · refine Touches.ite ?_ ?_
      · refine loseDdr_touches h_ddr h_poison h_tbl h_crown ?_
        assumption
      · assumption
  clear_value x2
  intro x4
  have hx5 : Touches ps s0 x4 := by
    unfold x4
    refine Touches.foldl (fun _ _ _ => ?_) ?_
    · lift_lets
      intro x6
      clear_value x6
      intro x7
      clear_value x7
      intro x8
      have hx9 : Touches ps s0 x8 := by
        unfold x8
        refine State.wr_touches h_regs ?_
        refine State.wr_touches h_regs ?_
        refine State.wr_touches h_regs ?_
        assumption
      clear_value x8
      intro x10
      clear_value x10
      refine State.putDom_touches h_regs h_out h_host h_mtn ?_
      assumption
    · assumption
  clear_value x4
  intro x11
  have hx12 : Touches ps s0 x11 := by
    unfold x11
    refine State.wr_touches h_regs ?_
    refine State.wr_touches h_regs ?_
    refine State.wr_touches h_regs ?_
    refine State.wr_touches h_regs ?_
    refine State.wr_touches h_regs ?_
    assumption
  clear_value x11
  intro x13
  have hx14 : Touches ps s0 x13 := by
    unfold x13
    refine State.wr_touches h_regs ?_
    refine State.wr_touches h_regs ?_
    assumption
  clear_value x13
  intro x15
  clear_value x15
  intro x16
  have hx17 : Touches ps s0 x16 := by
    unfold x16
    refine refreshRegions_touches h_regs ?_
    refine lowerRetx_touches h_regs h_out h_host h_latches ?_
    refine (Touches.upd_dram h_dram ?_)
    assumption
  clear_value x16
  intro x18
  have hx19 : Touches ps s0 x18 := by
    unfold x18
    refine Touches.ite ?_ ?_
    · refine State.raise_touches h_regs h_out h_host h_latches ?_
      assumption
    · assumption
  clear_value x18
  refine Touches.ite ?_ ?_
  · assumption
  · refine State.vector_touches h_out h_host ?_
    assumption

theorem trainingEnds_touches {ps : Piece → Prop} {s0 : State} (h_regs : ps .regs) (h_out : ps .out) (h_ddr : ps .ddr) (h_poison : ps .poison) (h_host : ps .host) (h_latches : ps .latches) (h_tbl : ps .tbl) (h_mtn : ps .mtn) (h_crown : ps .crown) (h_dram : ps .dram) {v0 : ℕ} {v1 : Bool} {v2 : State} (h0 : Touches ps s0 v2) :
    Touches ps s0 (trainingEnds v0 v1 v2) := by
  unfold trainingEnds
  refine Touches.ite ?_ ?_
  · lift_lets
    intro x0
    clear_value x0
    refine (Touches.upd_dram h_dram ?_)
    assumption
  · lift_lets
    intro x1
    clear_value x1
    intro x2
    have hx3 : Touches ps s0 x2 := by
      unfold x2
      refine (Touches.upd_dram h_dram ?_)
      assumption
    clear_value x2
    intro x4
    have hx5 : Touches ps s0 x4 := by
      unfold x4
      refine Touches.ite ?_ ?_
      · refine State.wr_touches h_regs ?_
        assumption
      · refine State.raise_touches h_regs h_out h_host h_latches ?_
        refine State.wr_touches h_regs ?_
        assumption
    clear_value x4
    refine Touches.ite ?_ ?_
    · refine settleDdr_touches h_regs h_out h_ddr h_poison h_host h_latches h_tbl h_mtn h_crown h_dram ?_
      assumption
    · assumption

theorem execDdrTrainingComplete_touches {ps : Piece → Prop} {s0 : State} (h_regs : ps .regs) (h_out : ps .out) (h_ddr : ps .ddr) (h_poison : ps .poison) (h_host : ps .host) (h_latches : ps .latches) (h_tbl : ps .tbl) (h_mtn : ps .mtn) (h_crown : ps .crown) (h_dram : ps .dram) {v0 : Fin 8} {v1 : Bool} {v2 : State} (h0 : Touches ps s0 v2) :
    Moves ps s0 (execDdrTrainingComplete v0 v1 v2) := by
  unfold execDdrTrainingComplete
  refine Moves.next ?_
  refine State.given_touches ?_ ?_
  · assumption
  · intro y0
    intro k1
    refine trainingEnds_touches h_regs h_out h_ddr h_poison h_host h_latches h_tbl h_mtn h_crown h_dram ?_
    assumption

theorem enterSelfRefresh_touches {ps : Piece → Prop} {s0 : State} (h_dram : ps .dram) {v0 : State} (h0 : Touches ps s0 v0) :
    Touches ps s0 (enterSelfRefresh v0) := by
  unfold enterSelfRefresh
  lift_lets
  intro x0
  clear_value x0
  refine (Touches.upd_dram h_dram ?_)
  assumption

theorem ddrEcc_touches {ps : Piece → Prop} {s0 : State} (h_regs : ps .regs) (h_out : ps .out) (h_poison : ps .poison) (h_host : ps .host) (h_latches : ps .latches) {v0 : ℕ} {v1 : Bool} {v2 : State} (h0 : Touches ps s0 v2) :
    Touches ps s0 (ddrEcc v0 v1 v2) := by
  unfold ddrEcc
  lift_lets
  intro x0
  clear_value x0
  intro x1
  have hx2 : Touches ps s0 x1 := by
    unfold x1
    refine (Touches.upd_poison h_poison ?_)
    assumption
  clear_value x1
  refine Touches.ite ?_ ?_
  · refine State.raise_touches h_regs h_out h_host h_latches ?_
    refine State.bump_touches h_regs h_latches ?_
    assumption
  · refine State.raise_touches h_regs h_out h_host h_latches ?_
    refine State.bump_touches h_regs h_latches ?_
    refine State.wr_touches h_regs ?_
    assumption

theorem scrubLine_touches {ps : Piece → Prop} {s0 : State} (h_poison : ps .poison) {v0 : ℕ} {v1 : State} (h0 : Touches ps s0 v1) :
    Touches ps s0 (scrubLine v0 v1) := by
  unfold scrubLine
  refine Touches.ite ?_ ?_
  · refine (Touches.upd_poison h_poison ?_)
    assumption
  · assumption

theorem startTraining_touches {ps : Piece → Prop} {s0 : State} (h_dram : ps .dram) {v0 : State} (h0 : Touches ps s0 v0) :
    Touches ps s0 (startTraining v0) := by
  unfold startTraining
  lift_lets
  intro x0
  clear_value x0
  intro x1
  clear_value x1
  refine (Touches.upd_dram h_dram ?_)
  assumption

theorem dramTemp_touches {ps : Piece → Prop} {s0 : State} (h_regs : ps .regs) (h_out : ps .out) (h_host : ps .host) (h_latches : ps .latches) {v0 : ℕ} {v1 : Option ℤ} {v2 : State} (h0 : Touches ps s0 v2) :
    Touches ps s0 (dramTemp v0 v1 v2) := by
  unfold dramTemp
  lift_lets
  intro x0
  clear_value x0
  split
  · refine State.raise_touches h_regs h_out h_host h_latches ?_
    assumption
  · lift_lets
    intro x1
    have hx2 : Touches ps s0 x1 := by
      unfold x1
      refine State.wr_touches h_regs ?_
      refine State.wr_touches h_regs ?_
      assumption
    clear_value x1
    refine Touches.ite ?_ ?_
    · refine State.raise_touches h_regs h_out h_host h_latches ?_
      assumption
    · assumption

theorem execDramTempRead_touches {ps : Piece → Prop} {s0 : State} (h_regs : ps .regs) (h_out : ps .out) (h_host : ps .host) (h_latches : ps .latches) (h_ticks : ps .ticks) {v0 : Fin 8} {v1 : Option (BitVec 8)} {v2 : State} (h0 : Touches ps s0 v2) :
    Moves ps s0 (execDramTempRead v0 v1 v2) := by
  unfold execDramTempRead
  refine Moves.next ?_
  refine State.running_touches ?_ ?_
  · assumption
  · intro y0
    intro k1
    refine State.given_touches ?_ ?_
    · assumption
    · intro y2
      intro k3
      refine State.periodic_touches h_ticks ?_ ?_
      · assumption
      · intro y4
        intro k5
        refine dramTemp_touches h_regs h_out h_host h_latches ?_
        assumption

theorem marginCheck_touches {ps : Piece → Prop} {s0 : State} (h_regs : ps .regs) (h_out : ps .out) (h_host : ps .host) (h_latches : ps .latches) {v0 : ℕ} {v1 : ℕ} {v2 : ℕ} {v3 : State} (h0 : Touches ps s0 v3) :
    Touches ps s0 (marginCheck v0 v1 v2 v3) := by
  unfold marginCheck
  lift_lets
  intro x0
  clear_value x0
  intro x1
  have hx2 : Touches ps s0 x1 := by
    unfold x1
    refine State.bump_touches h_regs h_latches ?_
    refine State.wr_touches h_regs ?_
    refine State.wr_touches h_regs ?_
    assumption
  clear_value x1
  refine Touches.ite ?_ ?_
  · refine State.raise_touches h_regs h_out h_host h_latches ?_
    assumption
  · assumption

theorem execRetxGibWrite_touches {ps : Piece → Prop} {s0 : State} (h_regs : ps .regs) (h_out : ps .out) (h_host : ps .host) (h_latches : ps .latches) (h_mtn : ps .mtn) {v0 : Word} {v1 : State} (h0 : Touches ps s0 v1) :
    Moves ps s0 (execRetxGibWrite v0 v1) := by
  unfold execRetxGibWrite
  refine Moves.next ?_
  refine State.written_touches h_regs h_latches h_mtn ?_ ?_
  · assumption
  · intro y0
    intro k1
    refine writeRetxGib_touches h_regs h_out h_host h_latches ?_
    assumption

theorem execMarginCheck_touches {ps : Piece → Prop} {s0 : State} (h_regs : ps .regs) (h_out : ps .out) (h_host : ps .host) (h_latches : ps .latches) (h_ticks : ps .ticks) {v0 : Fin 8} {v1 : BitVec 8} {v2 : BitVec 8} {v3 : State} (h0 : Touches ps s0 v3) :
    Moves ps s0 (execMarginCheck v0 v1 v2 v3) := by
  unfold execMarginCheck
  refine Moves.next ?_
  refine State.running_touches ?_ ?_
  · assumption
  · intro y0
    intro k1
    lift_lets
    intro x2
    clear_value x2
    refine State.given_touches ?_ ?_
    · assumption
    · intro y3
      intro k4
      lift_lets
      intro x5
      clear_value x5
      refine marginCheck_touches h_regs h_out h_host h_latches ?_
      refine (Touches.upd_ticks h_ticks ?_)
      assumption

theorem execDdrEccError_touches {ps : Piece → Prop} {s0 : State} (h_regs : ps .regs) (h_out : ps .out) (h_poison : ps .poison) (h_host : ps .host) (h_latches : ps .latches) {v0 : BitVec 41} {v1 : Bool} {v2 : State} (h0 : Touches ps s0 v2) :
    Moves ps s0 (execDdrEccError v0 v1 v2) := by
  unfold execDdrEccError
  refine Moves.next ?_
  refine State.given_touches ?_ ?_
  · assumption
  · intro y0
    intro k1
    refine ddrEcc_touches h_regs h_out h_poison h_host h_latches ?_
    assumption

theorem execDdrScrubVisit_touches {ps : Piece → Prop} {s0 : State} (h_poison : ps .poison) {v0 : BitVec 41} {v1 : State} (h0 : Touches ps s0 v1) :
    Moves ps s0 (execDdrScrubVisit v0 v1) := by
  unfold execDdrScrubVisit
  refine Moves.next ?_
  refine State.running_touches ?_ ?_
  · assumption
  · intro y0
    intro k1
    refine State.given_touches ?_ ?_
    · assumption
    · intro y2
      intro k3
      refine scrubLine_touches h_poison ?_
      assumption

theorem execSelfRefreshEntry_touches {ps : Piece → Prop} {s0 : State} (h_dram : ps .dram) {v0 : State} (h0 : Touches ps s0 v0) :
    Moves ps s0 (execSelfRefreshEntry v0) := by
  unfold execSelfRefreshEntry
  refine Moves.next ?_
  split
  · refine State.given_touches ?_ ?_
    · assumption
    · intro y0
      intro k1
      refine enterSelfRefresh_touches h_dram ?_
      assumption
  · refine State.given_touches ?_ ?_
    · assumption
    · intro y2
      intro k3
      refine enterSelfRefresh_touches h_dram ?_
      assumption

end Sys2Proof.Machine
end

