-- ==== Sys2Proof/Laws/TouchMerge.lean ====
section
/-! SUPPORT. What the operations of Machine/Merge.lean may touch: one lemma for each. -/

set_option maxRecDepth 10000

namespace Sys2Proof.Machine

theorem refreshPGroup_touches {ps : Piece → Prop} {s0 : State} (h_regs : ps .regs) {v0 : State} (h0 : Touches ps s0 v0) :
    Touches ps s0 (refreshPGroup v0) := by
  unfold refreshPGroup
  lift_lets
  intro x0
  clear_value x0
  intro x1
  clear_value x1
  refine State.wr_touches h_regs ?_
  assumption

theorem freeRatios_touches {ps : Piece → Prop} {s0 : State} (h_pwc : ps .pwc) {v0 : State} (h0 : Touches ps s0 v0) :
    Touches ps s0 (freeRatios v0) := by
  unfold freeRatios
  refine Touches.ite ?_ ?_
  · assumption
  · lift_lets
    intro x0
    have hx1 : Touches ps s0 x0 := by
      unfold x0
      refine rebase_touches h_pwc ?_
      assumption
    clear_value x0
    intro x2
    clear_value x2
    refine (Touches.upd_pwc h_pwc ?_)
    assumption

theorem refreshRel_touches {ps : Piece → Prop} {s0 : State} (h_regs : ps .regs) (h_pwc : ps .pwc) {v0 : ℕ} {v1 : State} (h0 : Touches ps s0 v1) :
    Touches ps s0 (refreshRel v0 v1) := by
  unfold refreshRel
  lift_lets
  intro x0
  have hx1 : Touches ps s0 x0 := by
    unfold x0
    refine freeRatios_touches h_pwc ?_
    assumption
  clear_value x0
  intro x2
  clear_value x2
  refine State.wr_touches h_regs ?_
  refine State.wr_touches h_regs ?_
  assumption

theorem putBatches_touches {ps : Piece → Prop} {s0 : State} (h_regs : ps .regs) (h_timing : ps .timing) (h_pwc : ps .pwc) {v0 : ℕ} {v1 : List Batch} {v2 : State} (h0 : Touches ps s0 v2) :
    Touches ps s0 (putBatches v0 v1 v2) := by
  unfold putBatches
  lift_lets
  intro x0
  clear_value x0
  refine refreshRel_touches h_regs h_pwc ?_
  refine State.putRel_touches h_timing ?_
  assumption

theorem moveReplicas_touches {ps : Piece → Prop} {s0 : State} (h_regs : ps .regs) (h_palm : ps .palm) {v0 : ℕ} {v1 : List ℕ} {v2 : Bool} {v3 : State} (h0 : Touches ps s0 v3) :
    Touches ps s0 (moveReplicas v0 v1 v2 v3) := by
  unfold moveReplicas
  lift_lets
  intro x0
  clear_value x0
  refine refreshHeld_touches h_regs ?_
  refine Touches.foldl (fun _ _ _ => ?_) ?_
  · split
    · refine State.putReplica_touches h_palm ?_
      assumption
    · assumption
  · assumption

theorem lateFrames_touches {ps : Piece → Prop} {s0 : State} (h_regs : ps .regs) (h_palm : ps .palm) (h_vsr : ps .vsr) {v0 : ℕ} {v1 : List ℕ} {v2 : State} (h0 : Touches ps s0 v2) :
    Touches ps s0 (lateFrames v0 v1 v2) := by
  unfold lateFrames
  refine Touches.foldl (fun _ _ _ => ?_) ?_
  · refine State.onFrame_touches ?_ ?_
    · assumption
    · intro y0
      intro y1
      intro k2
      refine State.count_touches h_regs h_vsr ?_
      refine State.putFrame_touches h_palm ?_
      assumption
  · assumption

theorem relDisable_touches {ps : Piece → Prop} {s0 : State} (h_regs : ps .regs) (h_out : ps .out) (h_host : ps .host) (h_latches : ps .latches) (h_palm : ps .palm) (h_timing : ps .timing) (h_vsr : ps .vsr) (h_mtn : ps .mtn) (h_pwc : ps .pwc) {v0 : ℕ} {v1 : State} (h0 : Touches ps s0 v1) :
    Touches ps s0 (relDisable v0 v1) := by
  unfold relDisable
  lift_lets
  intro x0
  clear_value x0
  intro x1
  have hx2 : Touches ps s0 x1 := by
    unfold x1
    refine refreshPGroup_touches h_regs ?_
    refine State.wr_touches h_regs ?_
    refine State.wr_touches h_regs ?_
    assumption
  clear_value x1
  intro x3
  clear_value x3
  intro x4
  clear_value x4
  intro x5
  clear_value x5
  intro x6
  clear_value x6
  intro x7
  have hx8 : Touches ps s0 x7 := by
    unfold x7
    refine putBatches_touches h_regs h_timing h_pwc ?_
    refine State.putRel_touches h_timing ?_
    assumption
  clear_value x7
  intro x9
  have hx10 : Touches ps s0 x9 := by
    unfold x9
    refine Touches.ite ?_ ?_
    · assumption
    · refine moveReplicas_touches h_regs h_palm ?_
      refine lateFrames_touches h_regs h_palm h_vsr ?_
      refine State.raise_touches h_regs h_out h_host h_latches ?_
      refine State.set1_touches h_regs h_latches ?_
      assumption
  clear_value x9
  refine Touches.foldl (fun _ _ _ => ?_) ?_
  · refine recomputePort_touches h_regs h_out h_host h_mtn ?_
    assumption
  · assumption

theorem refreshAbsent_touches {ps : Piece → Prop} {s0 : State} (h_regs : ps .regs) {v0 : ℕ} {v1 : State} (h0 : Touches ps s0 v1) :
    Touches ps s0 (refreshAbsent v0 v1) := by
  unfold refreshAbsent
  lift_lets
  intro x0
  clear_value x0
  refine State.wr_touches h_regs ?_
  assumption

theorem signal_touches {ps : Piece → Prop} {s0 : State} (h_regs : ps .regs) (h_out : ps .out) (h_host : ps .host) (h_latches : ps .latches) {v0 : ℕ} {v1 : ℕ} {v2 : ℕ} {v3 : State} (h0 : Touches ps s0 v3) :
    Touches ps s0 (signal v0 v1 v2 v3) := by
  unfold signal
  refine Touches.ite ?_ ?_
  · refine State.vector_touches h_out h_host ?_
    refine State.raise_touches h_regs h_out h_host h_latches ?_
    assumption
  · refine State.raise_touches h_regs h_out h_host h_latches ?_
    assumption

theorem refreshHeff_touches {ps : Piece → Prop} {s0 : State} (h_regs : ps .regs) {v0 : ℕ} {v1 : State} (h0 : Touches ps s0 v1) :
    Touches ps s0 (refreshHeff v0 v1) := by
  unfold refreshHeff
  lift_lets
  intro x0
  clear_value x0
  intro x1
  clear_value x1
  intro x2
  clear_value x2
  refine Touches.ite ?_ ?_
  · assumption
  · refine State.wr_touches h_regs ?_
    assumption

theorem setPresence_touches {ps : Piece → Prop} {s0 : State} (h_regs : ps .regs) (h_out : ps .out) (h_host : ps .host) (h_latches : ps .latches) (h_ldg : ps .ldg) (h_vsr : ps .vsr) {v0 : ℕ} {v1 : ℕ} {v2 : Bool} {v3 : State} (h0 : Touches ps s0 v3) :
    Touches ps s0 (setPresence v0 v1 v2 v3) := by
  unfold setPresence
  lift_lets
  intro x0
  clear_value x0
  intro x1
  have hx2 : Touches ps s0 x1 := by
    unfold x1
    refine refreshAbsent_touches h_regs ?_
    refine State.wri_touches h_regs ?_
    assumption
  clear_value x1
  intro x3
  clear_value x3
  intro x4
  clear_value x4
  intro x5
  have hx6 : Touches ps s0 x5 := by
    unfold x5
    refine formEvent_touches h_ldg ?_
    assumption
  clear_value x5
  intro x7
  have hx8 : Touches ps s0 x7 := by
    unfold x7
    refine Touches.ite ?_ ?_
    · refine State.vector_touches h_out h_host ?_
      assumption
    · refine signal_touches h_regs h_out h_host h_latches ?_
      refine State.count_touches h_regs h_vsr ?_
      assumption
  clear_value x7
  refine refreshPGroup_touches h_regs ?_
  refine refreshHeff_touches h_regs ?_
  assumption

theorem presenceOfPort_touches {ps : Piece → Prop} {s0 : State} (h_regs : ps .regs) (h_out : ps .out) (h_host : ps .host) (h_latches : ps .latches) (h_ldg : ps .ldg) (h_vsr : ps .vsr) {v0 : ℕ} {v1 : State} (h0 : Touches ps s0 v1) :
    Touches ps s0 (presenceOfPort v0 v1) := by
  unfold presenceOfPort
  refine Touches.foldl (fun _ _ _ => ?_) ?_
  · refine Touches.foldl (fun _ _ _ => ?_) ?_
    · lift_lets
      intro x0
      clear_value x0
      refine Touches.ite ?_ ?_
      · refine setPresence_touches h_regs h_out h_host h_latches h_ldg h_vsr ?_
        assumption
      · assumption
    · assumption
  · assumption

theorem scheduleDEff_touches {ps : Piece → Prop} {s0 : State} (h_timing : ps .timing) {v0 : ℕ} {v1 : State} (h0 : Touches ps s0 v1) :
    Touches ps s0 (scheduleDEff v0 v1) := by
  unfold scheduleDEff
  refine Touches.ite ?_ ?_
  · assumption
  · lift_lets
    intro x0
    clear_value x0
    refine Touches.foldl (fun _ _ _ => ?_) ?_
    · lift_lets
      intro x1
      clear_value x1
      refine Touches.ite ?_ ?_
      · refine State.putRel_touches h_timing ?_
        assumption
      · assumption
    · assumption

theorem execMemberAbsent_touches {ps : Piece → Prop} {s0 : State} (h_regs : ps .regs) (h_out : ps .out) (h_host : ps .host) (h_latches : ps .latches) (h_ldg : ps .ldg) (h_vsr : ps .vsr) {v0 : Fin 64} {v1 : Fin 64} {v2 : State} (h0 : Touches ps s0 v2) :
    Moves ps s0 (execMemberAbsent v0 v1 v2) := by
  unfold execMemberAbsent
  refine Moves.next ?_
  refine State.running_touches ?_ ?_
  · assumption
  · intro y0
    intro k1
    refine State.given_touches ?_ ?_
    · assumption
    · intro y2
      intro k3
      refine setPresence_touches h_regs h_out h_host h_latches h_ldg h_vsr ?_
      assumption

theorem wakeTx_touches {ps : Piece → Prop} {s0 : State} (h_regs : ps .regs) {v0 : ℕ} {v1 : State} (h0 : Touches ps s0 v1) :
    Touches ps s0 (wakeTx v0 v1) := by
  unfold wakeTx
  refine Touches.ite ?_ ?_
  · refine Touches.foldl (fun _ _ _ => ?_) ?_
    · refine State.wr_touches h_regs ?_
      assumption
    · refine State.wr_touches h_regs ?_
      assumption
  · assumption

theorem seedOf_touches {ps : Piece → Prop} {s0 : State} (h_free : ps .free) (h_timing : ps .timing) {v0 : ℕ} {v1 : ℕ} {v2 : State} (h0 : Touches ps s0 v2) :
    Touches ps s0 (seedOf v0 v1 v2).2 := by
  unfold seedOf
  split
  · assumption
  · lift_lets
    intro x0
    clear_value x0
    intro x1
    clear_value x1
    intro x2
    have hx3 : Touches ps s0 x2 := by
      unfold x2
      refine (Touches.upd_free h_free ?_)
      assumption
    clear_value x2
    dsimp only
    refine Touches.ite ?_ ?_
    · refine State.putMerge_touches h_timing ?_
      assumption
    · assumption

theorem mergeDrop_touches {ps : Piece → Prop} {s0 : State} (h_regs : ps .regs) (h_out : ps .out) (h_ddr : ps .ddr) (h_poison : ps .poison) (h_host : ps .host) (h_latches : ps .latches) (h_palm : ps .palm) (h_ldg : ps .ldg) (h_vsr : ps .vsr) {v0 : ℕ} {v1 : ℕ} {v2 : ℕ} {v3 : ℕ} {v4 : ℕ} {v5 : State} (h0 : Touches ps s0 v5) :
    Touches ps s0 (mergeDrop v0 v1 v2 v3 v4 v5) := by
  unfold mergeDrop
  refine dropAtIngress_touches h_regs h_out h_ddr h_poison h_host h_latches h_palm h_ldg h_vsr ?_
  refine State.raise_touches h_regs h_out h_host h_latches ?_
  refine State.count_touches h_regs h_vsr ?_
  assumption

theorem emitFrame_touches {ps : Piece → Prop} {s0 : State} (h_regs : ps .regs) (h_palm : ps .palm) (h_timing : ps .timing) (h_vsr : ps .vsr) {v0 : ℕ} {v1 : HeldFrame} {v2 : Bool} {v3 : State} (h0 : Touches ps s0 v3) :
    Touches ps s0 (emitFrame v0 v1 v2 v3) := by
  unfold emitFrame
  refine State.onFrame_touches ?_ ?_
  · assumption
  · intro y0
    intro y1
    intro k2
    lift_lets
    intro x3
    clear_value x3
    intro x4
    clear_value x4
    intro x5
    clear_value x5
    intro x6
    clear_value x6
    intro x7
    clear_value x7
    intro x8
    clear_value x8
    intro x9
    have hx10 : Touches ps s0 x9 := by
      unfold x9
      refine State.count_touches h_regs h_vsr ?_
      refine State.putFrame_touches h_palm ?_
      assumption
    clear_value x9
    intro x11
    have hx12 : Touches ps s0 x11 := by
      unfold x11
      refine Touches.ite ?_ ?_
      · refine State.count_touches h_regs h_vsr ?_
        assumption
      · assumption
    clear_value x11
    intro x13
    clear_value x13
    intro x14
    have hx15 : Touches ps s0 x14 := by
      unfold x14
      refine State.putMerge_touches h_timing ?_
      assumption
    clear_value x14
    refine Touches.ite ?_ ?_
    · assumption
    · refine State.wr_touches h_regs ?_
      refine State.wrPair_touches h_regs ?_
      assumption

theorem emitFirst_touches {ps : Piece → Prop} {s0 : State} (h_regs : ps .regs) (h_palm : ps .palm) (h_timing : ps .timing) (h_vsr : ps .vsr) {v0 : ℕ} {v1 : State} (h0 : Touches ps s0 v1) :
    Touches ps s0 (emitFirst v0 v1) := by
  unfold emitFirst
  split
  · assumption
  · lift_lets
    intro x0
    clear_value x0
    refine emitFrame_touches h_regs h_palm h_timing h_vsr ?_
    refine refreshStore_touches h_regs ?_
    refine State.putMerge_touches h_timing ?_
    assumption

theorem holdFrame_touches {ps : Piece → Prop} {s0 : State} (h_regs : ps .regs) (h_out : ps .out) (h_ddr : ps .ddr) (h_poison : ps .poison) (h_host : ps .host) (h_latches : ps .latches) (h_palm : ps .palm) (h_timing : ps .timing) (h_ldg : ps .ldg) (h_vsr : ps .vsr) {v0 : ℕ} {v1 : HeldFrame} {v2 : Frame} {v3 : Bool} {v4 : State} (h0 : Touches ps s0 v4) :
    Touches ps s0 (holdFrame v0 v1 v2 v3 v4) := by
  unfold holdFrame
  lift_lets
  intro x0
  clear_value x0
  intro x1
  clear_value x1
  intro x2
  have hx3 : Touches ps s0 x2 := by
    unfold x2
    refine refreshStore_touches h_regs ?_
    refine State.putFrame_touches h_palm ?_
    refine State.putMerge_touches h_timing ?_
    assumption
  clear_value x2
  refine Touches.ite ?_ ?_
  · refine mergeDrop_touches h_regs h_out h_ddr h_poison h_host h_latches h_palm h_ldg h_vsr ?_
    assumption
  · split
    · refine Touches.ite ?_ ?_
      · refine emitFirst_touches h_regs h_palm h_timing h_vsr ?_
        assumption
      · assumption
    · assumption

theorem execMemberPresent_touches {ps : Piece → Prop} {s0 : State} (h_regs : ps .regs) (h_out : ps .out) (h_host : ps .host) (h_latches : ps .latches) (h_ldg : ps .ldg) (h_vsr : ps .vsr) {v0 : Fin 64} {v1 : Fin 64} {v2 : State} (h0 : Touches ps s0 v2) :
    Moves ps s0 (execMemberPresent v0 v1 v2) := by
  unfold execMemberPresent
  refine Moves.next ?_
  refine State.running_touches ?_ ?_
  · assumption
  · intro y0
    intro k1
    refine State.given_touches ?_ ?_
    · assumption
    · intro y2
      intro k3
      refine setPresence_touches h_regs h_out h_host h_latches h_ldg h_vsr ?_
      assumption

theorem paceLeft_touches {ps : Piece → Prop} {s0 : State} (h_timing : ps .timing) {v0 : ℕ} {v1 : State} (h0 : Touches ps s0 v1) :
    Touches ps s0 (paceLeft v0 v1) := by
  unfold paceLeft
  lift_lets
  intro x0
  clear_value x0
  refine scheduleDEff_touches h_timing ?_
  refine (Touches.upd_timing h_timing ?_)
  assumption

theorem mergeEnable_touches {ps : Piece → Prop} {s0 : State} (h_regs : ps .regs) (h_out : ps .out) (h_host : ps .host) (h_latches : ps .latches) (h_timing : ps .timing) {v0 : ℕ} {v1 : State} (h0 : Touches ps s0 v1) :
    Touches ps s0 (mergeEnable v0 v1) := by
  unfold mergeEnable
  lift_lets
  intro x0
  clear_value x0
  intro x1
  clear_value x1
  intro x2
  clear_value x2
  intro x3
  clear_value x3
  intro x4
  have hx5 : Touches ps s0 x4 := by
    unfold x4
    refine State.putMerge_touches h_timing ?_
    assumption
  clear_value x4
  intro x6
  have hx7 : Touches ps s0 x6 := by
    unfold x6
    refine State.wr_touches h_regs ?_
    refine State.wr_touches h_regs ?_
    refine State.wr_touches h_regs ?_
    assumption
  clear_value x6
  refine Touches.ite ?_ ?_
  · assumption
  · refine Touches.ite ?_ ?_
    · refine signal_touches h_regs h_out h_host h_latches ?_
      refine State.wr_touches h_regs ?_
      refine State.wr_touches h_regs ?_
      assumption
    · refine refreshPGroup_touches h_regs ?_
      refine refreshHeff_touches h_regs ?_
      assumption

theorem execMergeEnable_touches {ps : Piece → Prop} {s0 : State} (h_regs : ps .regs) (h_out : ps .out) (h_host : ps .host) (h_latches : ps .latches) (h_timing : ps .timing) (h_mtn : ps .mtn) {v0 : Fin 64} {v1 : State} (h0 : Touches ps s0 v1) :
    Moves ps s0 (execMergeEnable v0 v1) := by
  unfold execMergeEnable
  refine Moves.next ?_
  refine State.written_touches h_regs h_latches h_mtn ?_ ?_
  · assumption
  · intro y0
    intro k1
    refine mergeEnable_touches h_regs h_out h_host h_latches h_timing ?_
    assumption

theorem writeReleaseAt_touches {ps : Piece → Prop} {s0 : State} (h_regs : ps .regs) (h_out : ps .out) (h_host : ps .host) (h_latches : ps .latches) (h_timing : ps .timing) (h_pwc : ps .pwc) {v0 : ℕ} {v1 : ℕ} {v2 : State} (h0 : Touches ps s0 v2) :
    Touches ps s0 (writeReleaseAt v0 v1 v2) := by
  unfold writeReleaseAt
  lift_lets
  intro x0
  clear_value x0
  intro x1
  clear_value x1
  intro x2
  have hx3 : Touches ps s0 x2 := by
    unfold x2
    refine State.wrPair_touches h_regs ?_
    assumption
  clear_value x2
  intro x4
  clear_value x4
  intro x5
  clear_value x5
  intro x6
  clear_value x6
  intro x7
  clear_value x7
  intro x8
  clear_value x8
  intro x9
  have hx10 : Touches ps s0 x9 := by
    unfold x9
    refine refreshGrid_touches h_regs h_out h_host h_latches ?_
    refine putBatches_touches h_regs h_timing h_pwc ?_
    assumption
  clear_value x9
  refine Touches.ite ?_ ?_
  · assumption
  · refine Touches.ite ?_ ?_
    · refine State.set1_touches h_regs h_latches ?_
      assumption
    · assumption

theorem mergeDisable_touches {ps : Piece → Prop} {s0 : State} (h_regs : ps .regs) (h_timing : ps .timing) {v0 : ℕ} {v1 : State} (h0 : Touches ps s0 v1) :
    Touches ps s0 (mergeDisable v0 v1) := by
  unfold mergeDisable
  lift_lets
  intro x0
  clear_value x0
  intro x1
  clear_value x1
  intro x2
  have hx3 : Touches ps s0 x2 := by
    unfold x2
    refine State.putMerge_touches h_timing ?_
    assumption
  clear_value x2
  refine Touches.ite ?_ ?_
  · refine State.wr_touches h_regs ?_
    assumption
  · refine refreshPGroup_touches h_regs ?_
    refine State.wr_touches h_regs ?_
    refine State.wr_touches h_regs ?_
    assumption

theorem refreshPaces_touches {ps : Piece → Prop} {s0 : State} (h_regs : ps .regs) {v0 : State} (h0 : Touches ps s0 v0) :
    Touches ps s0 (refreshPaces v0) := by
  unfold refreshPaces
  refine refreshPGroup_touches h_regs ?_
  refine Touches.foldl (fun _ _ _ => ?_) ?_
  · refine refreshHeff_touches h_regs ?_
    assumption
  · assumption

theorem writeMember_touches {ps : Piece → Prop} {s0 : State} (h_regs : ps .regs) {v0 : ℕ} {v1 : ℕ} {v2 : ℕ} {v3 : State} (h0 : Touches ps s0 v3) :
    Touches ps s0 (writeMember v0 v1 v2 v3) := by
  unfold writeMember
  lift_lets
  intro x0
  clear_value x0
  intro x1
  have hx2 : ∀ a0 a1 a2, Touches ps s0 a2 → Touches ps s0 (x1 a0 a1 a2) := by
    intro y3
    intro y4
    intro y5
    intro k6
    unfold x1
    refine State.wri_touches h_regs ?_
    assumption
  clear_value x1
  refine refreshAbsent_touches h_regs ?_
  refine hx2 _ _ _ ?_
  refine hx2 _ _ _ ?_
  refine hx2 _ _ _ ?_
  refine hx2 _ _ _ ?_
  refine hx2 _ _ _ ?_
  assumption

theorem relEnable_touches {ps : Piece → Prop} {s0 : State} (h_regs : ps .regs) (h_out : ps .out) (h_host : ps .host) (h_latches : ps .latches) (h_timing : ps .timing) (h_mtn : ps .mtn) {v0 : ℕ} {v1 : State} (h0 : Touches ps s0 v1) :
    Touches ps s0 (relEnable v0 v1) := by
  unfold relEnable
  lift_lets
  intro x0
  clear_value x0
  intro x1
  clear_value x1
  intro x2
  have hx3 : Touches ps s0 x2 := by
    unfold x2
    refine State.wr_touches h_regs ?_
    refine State.wr_touches h_regs ?_
    refine State.wr_touches h_regs ?_
    assumption
  clear_value x2
  intro x4
  clear_value x4
  intro x5
  have hx6 : Touches ps s0 x5 := by
    unfold x5
    refine State.putRel_touches h_timing ?_
    assumption
  clear_value x5
  refine Touches.ite ?_ ?_
  · assumption
  · refine Touches.ite ?_ ?_
    · refine signal_touches h_regs h_out h_host h_latches ?_
      refine State.wr_touches h_regs ?_
      refine State.wr_touches h_regs ?_
      assumption
    · refine Touches.foldl (fun _ _ _ => ?_) ?_
      · refine recomputePort_touches h_regs h_out h_host h_mtn ?_
        refine wakeTx_touches h_regs ?_
        assumption
      · refine refreshPGroup_touches h_regs ?_
        refine refreshGrid_touches h_regs h_out h_host h_latches ?_
        refine State.wr_touches h_regs ?_
        assumption

theorem execSeedDraw_touches {ps : Piece → Prop} {s0 : State} (h_free : ps .free) (h_timing : ps .timing) {v0 : Fin 64} {v1 : State} (h0 : Touches ps s0 v1) :
    Moves ps s0 (execSeedDraw v0 v1) := by
  unfold execSeedDraw
  refine Moves.next ?_
  refine State.running_touches ?_ ?_
  · assumption
  · intro y0
    intro k1
    lift_lets
    intro x2
    clear_value x2
    intro x3
    clear_value x3
    refine State.given_touches ?_ ?_
    · assumption
    · intro y4
      intro k5
      refine seedOf_touches h_free h_timing ?_
      assumption

theorem release_touches {ps : Piece → Prop} {s0 : State} (h_regs : ps .regs) (h_out : ps .out) (h_host : ps .host) (h_latches : ps .latches) (h_palm : ps .palm) (h_timing : ps .timing) (h_vsr : ps .vsr) (h_pwc : ps .pwc) {v0 : ℕ} {v1 : Batch} {v2 : Batch → Bool} {v3 : State} (h0 : Touches ps s0 v3) :
    Touches ps s0 (release v0 v1 v2 v3) := by
  unfold release
  lift_lets
  intro x0
  clear_value x0
  intro x1
  clear_value x1
  intro x2
  clear_value x2
  intro x3
  have hx4 : Touches ps s0 x3 := by
    unfold x3
    refine putBatches_touches h_regs h_timing h_pwc ?_
    assumption
  clear_value x3
  intro x5
  have hx6 : Touches ps s0 x5 := by
    unfold x5
    refine State.wr_touches h_regs ?_
    refine State.wrPair_touches h_regs ?_
    assumption
  clear_value x5
  intro x7
  have hx8 : Touches ps s0 x7 := by
    unfold x7
    refine State.bump_touches h_regs h_latches ?_
    refine State.wr_touches h_regs ?_
    refine State.wr_touches h_regs ?_
    assumption
  clear_value x7
  intro x9
  have hx10 : Touches ps s0 x9 := by
    unfold x9
    refine State.count_touches h_regs h_vsr ?_
    assumption
  clear_value x9
  intro x11
  have hx12 : Touches ps s0 x11 := by
    unfold x11
    refine Touches.ite ?_ ?_
    · refine lateFrames_touches h_regs h_palm h_vsr ?_
      refine State.count_touches h_regs h_vsr ?_
      refine State.raise_touches h_regs h_out h_host h_latches ?_
      refine State.set1_touches h_regs h_latches ?_
      assumption
    · assumption
  clear_value x11
  refine moveReplicas_touches h_regs h_palm ?_
  assumption

theorem execReleaseEnable_touches {ps : Piece → Prop} {s0 : State} (h_regs : ps .regs) (h_out : ps .out) (h_host : ps .host) (h_latches : ps .latches) (h_timing : ps .timing) (h_mtn : ps .mtn) {v0 : Fin 256} {v1 : State} (h0 : Touches ps s0 v1) :
    Moves ps s0 (execReleaseEnable v0 v1) := by
  unfold execReleaseEnable
  refine Moves.next ?_
  refine State.written_touches h_regs h_latches h_mtn ?_ ?_
  · assumption
  · intro y0
    intro k1
    refine relEnable_touches h_regs h_out h_host h_latches h_timing h_mtn ?_
    assumption

theorem execDEffChange_touches {ps : Piece → Prop} {s0 : State} (h_regs : ps .regs) (h_timing : ps .timing) {v0 : Fin 256} {v1 : State} (h0 : Touches ps s0 v1) :
    Moves ps s0 (execDEffChange v0 v1) := by
  unfold execDEffChange
  refine Moves.next ?_
  refine State.running_touches ?_ ?_
  · assumption
  · intro y0
    intro k1
    lift_lets
    intro x2
    clear_value x2
    split
    · assumption
    · refine State.given_touches ?_ ?_
      · assumption
      · intro y3
        intro k4
        lift_lets
        intro x5
        clear_value x5
        intro x6
        clear_value x6
        refine State.wr_touches h_regs ?_
        refine State.putRel_touches h_timing ?_
        assumption

theorem mergeArrival_touches {ps : Piece → Prop} {s0 : State} (h_regs : ps .regs) (h_free : ps .free) (h_out : ps .out) (h_ddr : ps .ddr) (h_poison : ps .poison) (h_host : ps .host) (h_latches : ps .latches) (h_palm : ps .palm) (h_timing : ps .timing) (h_ldg : ps .ldg) (h_vsr : ps .vsr) {v0 : ℕ} {v1 : State} (h0 : Touches ps s0 v1) :
    Touches ps s0 (mergeArrival v0 v1) := by
  unfold mergeArrival
  refine State.onFrame_touches ?_ ?_
  · assumption
  · intro y0
    intro y1
    intro k2
    lift_lets
    intro x3
    clear_value x3
    intro x4
    clear_value x4
    intro x5
    have hx6 : Touches ps s0 x5 := by
      unfold x5
      refine State.count_touches h_regs h_vsr ?_
      refine State.count_touches h_regs h_vsr ?_
      assumption
    clear_value x5
    intro x7
    clear_value x7
    intro x8
    clear_value x8
    split
    · refine mergeDrop_touches h_regs h_out h_ddr h_poison h_host h_latches h_palm h_ldg h_vsr ?_
      assumption
    · lift_lets
      intro x9
      clear_value x9
      intro x10
      clear_value x10
      split
      · dsimp only
        refine emitFrame_touches h_regs h_palm h_timing h_vsr ?_
        refine State.raise_touches h_regs h_out h_host h_latches ?_
        refine State.count_touches h_regs h_vsr ?_
        assumption
      · dsimp only
        split
        · refine Touches.ite ?_ ?_
          · refine emitFrame_touches h_regs h_palm h_timing h_vsr ?_
            refine State.raise_touches h_regs h_out h_host h_latches ?_
            refine State.count_touches h_regs h_vsr ?_
            refine seedOf_touches h_free h_timing ?_
            assumption
          · refine holdFrame_touches h_regs h_out h_ddr h_poison h_host h_latches h_palm h_timing h_ldg h_vsr ?_
            refine seedOf_touches h_free h_timing ?_
            assumption
        · refine Touches.ite ?_ ?_
          · refine emitFrame_touches h_regs h_palm h_timing h_vsr ?_
            refine State.raise_touches h_regs h_out h_host h_latches ?_
            refine State.count_touches h_regs h_vsr ?_
            refine seedOf_touches h_free h_timing ?_
            assumption
          · refine holdFrame_touches h_regs h_out h_ddr h_poison h_host h_latches h_palm h_timing h_ldg h_vsr ?_
            refine seedOf_touches h_free h_timing ?_
            assumption

theorem execReleaseCutoff_touches {ps : Piece → Prop} {s0 : State} (h_regs : ps .regs) (h_out : ps .out) (h_ddr : ps .ddr) (h_poison : ps .poison) (h_host : ps .host) (h_latches : ps .latches) (h_palm : ps .palm) (h_timing : ps .timing) (h_ldg : ps .ldg) (h_vsr : ps .vsr) (h_pwc : ps .pwc) {v0 : Fin 256} {v1 : State} (h0 : Touches ps s0 v1) :
    Moves ps s0 (execReleaseCutoff v0 v1) := by
  unfold execReleaseCutoff
  refine Moves.next ?_
  refine State.running_touches ?_ ?_
  · assumption
  · intro y0
    intro k1
    lift_lets
    intro x2
    clear_value x2
    intro x3
    clear_value x3
    intro x4
    clear_value x4
    intro x5
    clear_value x5
    split
    · assumption
    · lift_lets
      intro x6
      clear_value x6
      intro x7
      clear_value x7
      intro x8
      have hx9 : Touches ps s0 x8 := by
        unfold x8
        refine putBatches_touches h_regs h_timing h_pwc ?_
        assumption
      clear_value x8
      intro x10
      clear_value x10
      intro x11
      have hx12 : Touches ps s0 x11 := by
        unfold x11
        refine Touches.ite ?_ ?_
        · refine State.putRel_touches h_timing ?_
          assumption
        · assumption
      clear_value x11
      intro x13
      have hx14 : Touches ps s0 x13 := by
        unfold x13
        refine Touches.foldl (fun _ _ _ => ?_) ?_
        · refine State.wri_touches h_regs ?_
          assumption
        · assumption
      clear_value x13
      intro x15
      have hx16 : Touches ps s0 x15 := by
        unfold x15
        refine Touches.foldl (fun _ _ _ => ?_) ?_
        · refine State.raise_touches h_regs h_out h_host h_latches ?_
          refine State.count_touches h_regs h_vsr ?_
          refine State.putBitAt_touches h_regs ?_
          assumption
        · assumption
      clear_value x15
      intro x17
      clear_value x17
      refine moveReplicas_touches h_regs h_palm ?_
      refine Touches.foldl (fun _ _ _ => ?_) ?_
      · refine excludeReplica_touches h_regs h_out h_ddr h_poison h_host h_latches h_palm h_ldg h_vsr ?_
        assumption
      · assumption

theorem execMergeEmit_touches {ps : Piece → Prop} {s0 : State} (h_regs : ps .regs) (h_out : ps .out) (h_ddr : ps .ddr) (h_poison : ps .poison) (h_host : ps .host) (h_latches : ps .latches) (h_palm : ps .palm) (h_timing : ps .timing) (h_ldg : ps .ldg) (h_vsr : ps .vsr) {v0 : Fin 64} {v1 : Fin 3} {v2 : State} (h0 : Touches ps s0 v2) :
    Moves ps s0 (execMergeEmit v0 v1 v2) := by
  unfold execMergeEmit
  refine Moves.next ?_
  refine State.running_touches ?_ ?_
  · assumption
  · intro y0
    intro k1
    lift_lets
    intro x2
    clear_value x2
    split
    · assumption
    · refine State.given_touches ?_ ?_
      · assumption
      · intro y3
        intro k4
        refine Touches.ite ?_ ?_
        · refine mergeDrop_touches h_regs h_out h_ddr h_poison h_host h_latches h_palm h_ldg h_vsr ?_
          refine forgetHeld_touches h_regs h_timing ?_
          assumption
        · refine emitFirst_touches h_regs h_palm h_timing h_vsr ?_
          refine Touches.ite ?_ ?_
          · refine State.raise_touches h_regs h_out h_host h_latches ?_
            assumption
          · assumption

theorem paceHeard_touches {ps : Piece → Prop} {s0 : State} (h_regs : ps .regs) (h_timing : ps .timing) {v0 : ℕ} {v1 : ℕ} {v2 : State} (h0 : Touches ps s0 v2) :
    Touches ps s0 (paceHeard v0 v1 v2) := by
  unfold paceHeard
  lift_lets
  intro x0
  clear_value x0
  refine refreshPaces_touches h_regs ?_
  refine scheduleDEff_touches h_timing ?_
  refine (Touches.upd_timing h_timing ?_)
  assumption

theorem execMergeDisable_touches {ps : Piece → Prop} {s0 : State} (h_regs : ps .regs) (h_latches : ps .latches) (h_timing : ps .timing) (h_mtn : ps .mtn) {v0 : Fin 64} {v1 : State} (h0 : Touches ps s0 v1) :
    Moves ps s0 (execMergeDisable v0 v1) := by
  unfold execMergeDisable
  refine Moves.next ?_
  refine State.written_touches h_regs h_latches h_mtn ?_ ?_
  · assumption
  · intro y0
    intro k1
    refine mergeDisable_touches h_regs h_timing ?_
    assumption

theorem execMergeArrival_touches {ps : Piece → Prop} {s0 : State} (h_regs : ps .regs) (h_free : ps .free) (h_out : ps .out) (h_ddr : ps .ddr) (h_poison : ps .poison) (h_host : ps .host) (h_latches : ps .latches) (h_palm : ps .palm) (h_timing : ps .timing) (h_ldg : ps .ldg) (h_vsr : ps .vsr) {v0 : ℕ} {v1 : State} (h0 : Touches ps s0 v1) :
    Moves ps s0 (execMergeArrival v0 v1) := by
  unfold execMergeArrival
  refine Moves.next ?_
  refine State.running_touches ?_ ?_
  · assumption
  · intro y0
    intro k1
    refine State.onFrame_touches ?_ ?_
    · assumption
    · intro y2
      intro y3
      intro k4
      refine State.given_touches ?_ ?_
      · assumption
      · intro y5
        intro k6
        refine mergeArrival_touches h_regs h_free h_out h_ddr h_poison h_host h_latches h_palm h_timing h_ldg h_vsr ?_
        assumption

theorem execSeedPublish_touches {ps : Piece → Prop} {s0 : State} (h_regs : ps .regs) (h_timing : ps .timing) (h_ldg : ps .ldg) {v0 : Fin 64} {v1 : State} (h0 : Touches ps s0 v1) :
    Moves ps s0 (execSeedPublish v0 v1) := by
  unfold execSeedPublish
  refine Moves.next ?_
  refine State.running_touches ?_ ?_
  · assumption
  · intro y0
    intro k1
    lift_lets
    intro x2
    clear_value x2
    intro x3
    clear_value x3
    intro x4
    clear_value x4
    split
    · assumption
    · refine State.given_touches ?_ ?_
      · assumption
      · intro y5
        intro k6
        lift_lets
        intro x7
        have hx8 : Touches ps s0 x7 := by
          unfold x7
          refine State.wr_touches h_regs ?_
          refine State.wr_touches h_regs ?_
          assumption
        clear_value x7
        intro x9
        have hx10 : Touches ps s0 x9 := by
          unfold x9
          refine State.putMerge_touches h_timing ?_
          assumption
        clear_value x9
        intro x11
        clear_value x11
        refine Touches.ite ?_ ?_
        · refine (Touches.upd_ldg h_ldg ?_)
          assumption
        · assumption

theorem execReleaseDisable_touches {ps : Piece → Prop} {s0 : State} (h_regs : ps .regs) (h_out : ps .out) (h_host : ps .host) (h_latches : ps .latches) (h_palm : ps .palm) (h_timing : ps .timing) (h_vsr : ps .vsr) (h_mtn : ps .mtn) (h_pwc : ps .pwc) {v0 : Fin 256} {v1 : State} (h0 : Touches ps s0 v1) :
    Moves ps s0 (execReleaseDisable v0 v1) := by
  unfold execReleaseDisable
  refine Moves.next ?_
  refine State.written_touches h_regs h_latches h_mtn ?_ ?_
  · assumption
  · intro y0
    intro k1
    refine relDisable_touches h_regs h_out h_host h_latches h_palm h_timing h_vsr h_mtn h_pwc ?_
    assumption

theorem releaseHold_touches {ps : Piece → Prop} {s0 : State} (h_regs : ps .regs) (h_out : ps .out) (h_ddr : ps .ddr) (h_poison : ps .poison) (h_host : ps .host) (h_latches : ps .latches) (h_palm : ps .palm) (h_timing : ps .timing) (h_ldg : ps .ldg) (h_vsr : ps .vsr) (h_pwc : ps .pwc) {v0 : ℕ} {v1 : List ℕ} {v2 : State} (h0 : Touches ps s0 v2) :
    Touches ps s0 (releaseHold v0 v1 v2) := by
  unfold releaseHold
  refine State.onFrame_touches ?_ ?_
  · assumption
  · intro y0
    intro y1
    intro k2
    lift_lets
    intro x3
    clear_value x3
    intro x4
    clear_value x4
    intro x5
    have hx6 : Touches ps s0 x5 := by
      unfold x5
      refine State.count_touches h_regs h_vsr ?_
      assumption
    clear_value x5
    intro x7
    clear_value x7
    intro x8
    clear_value x8
    intro x9
    clear_value x9
    intro x10
    clear_value x10
    intro x11
    clear_value x11
    intro x12
    have hx13 : Touches ps s0 x12 := by
      unfold x12
      refine State.putFrame_touches h_palm ?_
      assumption
    clear_value x12
    intro x14
    have hx15 : Touches ps s0 x14 := by
      unfold x14
      refine placeFrame_touches h_regs h_out h_ddr h_poison h_host h_latches h_palm h_ldg h_vsr ?_
      assumption
    clear_value x14
    intro x16
    clear_value x16
    intro x17
    clear_value x17
    intro x18
    have hx19 : Touches ps s0 x18 := by
      unfold x18
      refine refreshHeld_touches h_regs ?_
      refine State.count_touches h_regs h_vsr ?_
      assumption
    clear_value x18
    intro x20
    clear_value x20
    intro x21
    clear_value x21
    intro x22
    clear_value x22
    intro x23
    clear_value x23
    intro x24
    clear_value x24
    intro x25
    clear_value x25
    refine Touches.ite ?_ ?_
    · refine dropAtIngress_touches h_regs h_out h_ddr h_poison h_host h_latches h_palm h_ldg h_vsr ?_
      refine State.raise_touches h_regs h_out h_host h_latches ?_
      refine State.count_touches h_regs h_vsr ?_
      assumption
    · refine Touches.ite ?_ ?_
      · assumption
      · refine Touches.ite ?_ ?_
        · assumption
        · refine Touches.ite ?_ ?_
          · split
            · lift_lets
              intro x26
              clear_value x26
              intro x27
              have hx28 : Touches ps s0 x27 := by
                unfold x27
                refine putBatches_touches h_regs h_timing h_pwc ?_
                assumption
              clear_value x27
              intro x29
              clear_value x29
              refine moveReplicas_touches h_regs h_palm ?_
              refine Touches.foldl (fun _ _ _ => ?_) ?_
              · refine excludeReplica_touches h_regs h_out h_ddr h_poison h_host h_latches h_palm h_ldg h_vsr ?_
                assumption
              · assumption
            · refine State.putRel_touches h_timing ?_
              assumption
          · refine putBatches_touches h_regs h_timing h_pwc ?_
            assumption

theorem execReleaseHold_touches {ps : Piece → Prop} {s0 : State} (h_regs : ps .regs) (h_out : ps .out) (h_ddr : ps .ddr) (h_poison : ps .poison) (h_host : ps .host) (h_latches : ps .latches) (h_palm : ps .palm) (h_timing : ps .timing) (h_ldg : ps .ldg) (h_vsr : ps .vsr) (h_pwc : ps .pwc) {v0 : ℕ} {v1 : List (Fin 1152)} {v2 : State} (h0 : Touches ps s0 v2) :
    Moves ps s0 (execReleaseHold v0 v1 v2) := by
  unfold execReleaseHold
  refine Moves.next ?_
  refine State.running_touches ?_ ?_
  · assumption
  · intro y0
    intro k1
    refine State.onFrame_touches ?_ ?_
    · assumption
    · intro y2
      intro y3
      intro k4
      lift_lets
      intro x5
      clear_value x5
      refine State.given_touches ?_ ?_
      · assumption
      · intro y6
        intro k7
        refine releaseHold_touches h_regs h_out h_ddr h_poison h_host h_latches h_palm h_timing h_ldg h_vsr h_pwc ?_
        assumption

theorem execReleaseAtWrite_touches {ps : Piece → Prop} {s0 : State} (h_regs : ps .regs) (h_out : ps .out) (h_host : ps .host) (h_latches : ps .latches) (h_timing : ps .timing) (h_mtn : ps .mtn) (h_pwc : ps .pwc) {v0 : Fin 256} {v1 : Word} {v2 : State} (h0 : Touches ps s0 v2) :
    Moves ps s0 (execReleaseAtWrite v0 v1 v2) := by
  unfold execReleaseAtWrite
  refine Moves.next ?_
  refine State.written_touches h_regs h_latches h_mtn ?_ ?_
  · assumption
  · intro y0
    intro k1
    refine writeReleaseAt_touches h_regs h_out h_host h_latches h_timing h_pwc ?_
    assumption

theorem execReleaseWindowOpen_touches {ps : Piece → Prop} {s0 : State} (h_regs : ps .regs) (h_out : ps .out) (h_host : ps .host) (h_latches : ps .latches) (h_timing : ps .timing) (h_pwc : ps .pwc) {v0 : Fin 256} {v1 : State} (h0 : Touches ps s0 v1) :
    Moves ps s0 (execReleaseWindowOpen v0 v1) := by
  unfold execReleaseWindowOpen
  refine Moves.next ?_
  refine State.running_touches ?_ ?_
  · assumption
  · intro y0
    intro k1
    lift_lets
    intro x2
    clear_value x2
    intro x3
    clear_value x3
    refine State.given_touches ?_ ?_
    · assumption
    · intro y4
      intro k5
      refine refreshGrid_touches h_regs h_out h_host h_latches ?_
      refine putBatches_touches h_regs h_timing h_pwc ?_
      assumption

theorem execReleasePreempt_touches {ps : Piece → Prop} {s0 : State} (h_regs : ps .regs) (h_palm : ps .palm) (h_vsr : ps .vsr) {v0 : Fin 256} {v1 : State} (h0 : Touches ps s0 v1) :
    Moves ps s0 (execReleasePreempt v0 v1) := by
  unfold execReleasePreempt
  refine Moves.next ?_
  refine State.running_touches ?_ ?_
  · assumption
  · intro y0
    intro k1
    lift_lets
    intro x2
    clear_value x2
    refine State.given_touches ?_ ?_
    · assumption
    · intro y3
      intro k4
      refine Touches.foldl (fun _ _ _ => ?_) ?_
      · refine Touches.ite ?_ ?_
        · refine preempt_touches h_regs h_palm h_vsr ?_
          assumption
        · assumption
      · assumption

theorem execRelease_touches {ps : Piece → Prop} {s0 : State} (h_regs : ps .regs) (h_out : ps .out) (h_host : ps .host) (h_latches : ps .latches) (h_palm : ps .palm) (h_timing : ps .timing) (h_vsr : ps .vsr) (h_pwc : ps .pwc) {v0 : Fin 256} {v1 : State} (h0 : Touches ps s0 v1) :
    Moves ps s0 (execRelease v0 v1) := by
  unfold execRelease
  refine Moves.next ?_
  refine State.running_touches ?_ ?_
  · assumption
  · intro y0
    intro k1
    lift_lets
    intro x2
    clear_value x2
    intro x3
    clear_value x3
    split
    · assumption
    · refine Touches.ite ?_ ?_
      · refine putBatches_touches h_regs h_timing h_pwc ?_
        assumption
      · refine release_touches h_regs h_out h_host h_latches h_palm h_timing h_vsr h_pwc ?_
        refine refreshGrid_touches h_regs h_out h_host h_latches ?_
        assumption

theorem execReleaseWindowClose_touches {ps : Piece → Prop} {s0 : State} (h_regs : ps .regs) (h_out : ps .out) (h_host : ps .host) (h_timing : ps .timing) (h_ldg : ps .ldg) (h_pwc : ps .pwc) {v0 : Fin 256} {v1 : State} (h0 : Touches ps s0 v1) :
    Moves ps s0 (execReleaseWindowClose v0 v1) := by
  unfold execReleaseWindowClose
  refine Moves.next ?_
  refine State.running_touches ?_ ?_
  · assumption
  · intro y0
    intro k1
    lift_lets
    intro x2
    clear_value x2
    intro x3
    clear_value x3
    intro x4
    clear_value x4
    split
    · assumption
    · lift_lets
      intro x5
      clear_value x5
      intro x6
      have hx7 : Touches ps s0 x6 := by
        unfold x6
        refine putBatches_touches h_regs h_timing h_pwc ?_
        assumption
      clear_value x6
      intro x8
      have hx9 : Touches ps s0 x8 := by
        unfold x8
        split
        · refine formEvent_touches h_ldg ?_
          assumption
        · assumption
      clear_value x8
      refine Touches.ite ?_ ?_
      · refine State.vector_touches h_out h_host ?_
        assumption
      · assumption

end Sys2Proof.Machine
end

