-- ==== Sys2Proof/Laws/TouchPorts.lean ====
section
/-! SUPPORT. What the operations of Machine/Ports.lean may touch: one lemma for each. -/

set_option maxRecDepth 10000

namespace Sys2Proof.Machine

theorem portVector_touches {ps : Piece → Prop} {s0 : State} (h_out : ps .out) (h_host : ps .host) {v0 : ℕ} {v1 : State} (h0 : Touches ps s0 v1) :
    Touches ps s0 (portVector v0 v1) := by
  unfold portVector
  refine State.vector_touches h_out h_host ?_
  assumption

theorem showPreempt_touches {ps : Piece → Prop} {s0 : State} (h_regs : ps .regs) (h_out : ps .out) (h_host : ps .host) {v0 : ℕ} {v1 : State} (h0 : Touches ps s0 v1) :
    Touches ps s0 (showPreempt v0 v1) := by
  unfold showPreempt
  lift_lets
  intro x0
  clear_value x0
  intro x1
  clear_value x1
  intro x2
  clear_value x2
  intro x3
  clear_value x3
  intro x4
  have hx5 : Touches ps s0 x4 := by
    unfold x4
    refine State.wr_touches h_regs ?_
    assumption
  clear_value x4
  refine Touches.ite ?_ ?_
  · assumption
  · refine portVector_touches h_out h_host ?_
    refine State.wr_touches h_regs ?_
    assumption

theorem State.putPortRec_touches {ps : Piece → Prop} {s0 : State} (h_brim : ps .brim) {v0 : State} {v1 : ℕ} {v2 : PortRec} (h0 : Touches ps s0 v0) :
    Touches ps s0 (State.putPortRec v0 v1 v2) := by
  unfold State.putPortRec
  lift_lets
  intro x0
  clear_value x0
  refine (Touches.upd_brim h_brim ?_)
  assumption

theorem restartVerify_touches {ps : Piece → Prop} {s0 : State} (h_regs : ps .regs) (h_out : ps .out) (h_host : ps .host) (h_brim : ps .brim) {v0 : ℕ} {v1 : State} (h0 : Touches ps s0 v1) :
    Touches ps s0 (restartVerify v0 v1) := by
  unfold restartVerify
  lift_lets
  intro x0
  clear_value x0
  intro x1
  clear_value x1
  refine showPreempt_touches h_regs h_out h_host ?_
  refine State.putPortRec_touches h_brim ?_
  assumption

theorem writePreempt_touches {ps : Piece → Prop} {s0 : State} (h_regs : ps .regs) (h_out : ps .out) (h_host : ps .host) (h_latches : ps .latches) (h_brim : ps .brim) {v0 : ℕ} {v1 : ℕ} {v2 : State} (h0 : Touches ps s0 v2) :
    Touches ps s0 (writePreempt v0 v1 v2) := by
  unfold writePreempt
  refine Touches.ite ?_ ?_
  · refine State.set1_touches h_regs h_latches ?_
    assumption
  · lift_lets
    intro x0
    clear_value x0
    intro x1
    have hx2 : Touches ps s0 x1 := by
      unfold x1
      refine Touches.foldl (fun _ _ _ => ?_) ?_
      · refine State.wr_touches h_regs ?_
        assumption
      · assumption
    clear_value x1
    refine Touches.ite ?_ ?_
    · refine showPreempt_touches h_regs h_out h_host ?_
      assumption
    · refine restartVerify_touches h_regs h_out h_host h_brim ?_
      assumption

theorem execPreemptCfgWrite_touches {ps : Piece → Prop} {s0 : State} (h_regs : ps .regs) (h_out : ps .out) (h_host : ps .host) (h_latches : ps .latches) (h_brim : ps .brim) (h_mtn : ps .mtn) {v0 : Fin 1024} {v1 : Word} {v2 : State} (h0 : Touches ps s0 v2) :
    Moves ps s0 (execPreemptCfgWrite v0 v1 v2) := by
  unfold execPreemptCfgWrite
  refine Moves.next ?_
  refine State.written_touches h_regs h_latches h_mtn ?_ ?_
  · assumption
  · intro y0
    intro k1
    refine writePreempt_touches h_regs h_out h_host h_latches h_brim ?_
    assumption

theorem refreshPll_touches {ps : Piece → Prop} {s0 : State} (h_regs : ps .regs) (h_out : ps .out) (h_host : ps .host) (h_brim : ps .brim) (h_mtn : ps .mtn) {v0 : ℕ} {v1 : State} (h0 : Touches ps s0 v1) :
    Touches ps s0 (refreshPll v0 v1) := by
  unfold refreshPll
  lift_lets
  intro x0
  have hx1 : Touches ps s0 x0 := by
    unfold x0
    refine recomputeDom_touches h_regs h_out h_host h_mtn ?_
    assumption
  clear_value x0
  intro x2
  clear_value x2
  intro x3
  clear_value x3
  intro x4
  clear_value x4
  intro x5
  clear_value x5
  refine Touches.ite ?_ ?_
  · refine Touches.ite ?_ ?_
    · assumption
    · refine (Touches.upd_brim h_brim ?_)
      assumption
  · refine State.wr_touches h_regs ?_
    refine (Touches.upd_brim h_brim ?_)
    assumption

theorem setLane_touches {ps : Piece → Prop} {s0 : State} (h_regs : ps .regs) {v0 : ℕ} {v1 : ℕ} {v2 : ℕ} {v3 : State} (h0 : Touches ps s0 v3) :
    Touches ps s0 (setLane v0 v1 v2 v3) := by
  unfold setLane
  refine State.wr_touches h_regs ?_
  refine State.wr_touches h_regs ?_
  assumption

theorem showEq_touches {ps : Piece → Prop} {s0 : State} (h_regs : ps .regs) {v0 : ℕ} {v1 : State} (h0 : Touches ps s0 v1) :
    Touches ps s0 (showEq v0 v1) := by
  unfold showEq
  lift_lets
  intro x0
  clear_value x0
  intro x1
  clear_value x1
  intro x2
  clear_value x2
  intro x3
  clear_value x3
  intro x4
  have hx5 : Touches ps s0 x4 := by
    unfold x4
    refine Touches.foldl (fun _ _ _ => ?_) ?_
    · refine State.wr_touches h_regs ?_
      assumption
    · assumption
  clear_value x4
  intro x6
  have hx7 : Touches ps s0 x6 := by
    unfold x6
    refine Touches.foldl (fun _ _ _ => ?_) ?_
    · refine State.wr_touches h_regs ?_
      assumption
    · assumption
  clear_value x6
  refine State.wr_touches h_regs ?_
  refine Touches.foldl (fun _ _ _ => ?_) ?_
  · refine State.wrx_touches h_regs ?_
    assumption
  · assumption

theorem dropLane_touches {ps : Piece → Prop} {s0 : State} (h_regs : ps .regs) (h_stamps : ps .stamps) {v0 : ℕ} {v1 : ℕ} {v2 : Bool} {v3 : State} (h0 : Touches ps s0 v3) :
    Touches ps s0 (dropLane v0 v1 v2 v3) := by
  unfold dropLane
  lift_lets
  intro x0
  have hx1 : Touches ps s0 x0 := by
    unfold x0
    refine Touches.ite ?_ ?_
    · refine cdrUnlock_touches h_regs h_stamps ?_
      assumption
    · assumption
  clear_value x0
  intro x2
  have hx3 : Touches ps s0 x2 := by
    unfold x2
    refine State.wr_touches h_regs ?_
    refine State.wr_touches h_regs ?_
    refine setLane_touches h_regs ?_
    assumption
  clear_value x2
  refine showEq_touches h_regs ?_
  assumption

theorem quietPort_touches {ps : Piece → Prop} {s0 : State} (h_regs : ps .regs) (h_out : ps .out) (h_host : ps .host) (h_stamps : ps .stamps) (h_brim : ps .brim) (h_mtn : ps .mtn) {v0 : ℕ} {v1 : State} (h0 : Touches ps s0 v1) :
    Touches ps s0 (quietPort v0 v1) := by
  unfold quietPort
  refine refreshPll_touches h_regs h_out h_host h_brim h_mtn ?_
  refine Touches.foldl (fun _ _ _ => ?_) ?_
  · refine dropLane_touches h_regs h_stamps ?_
    assumption
  · assumption

theorem setStep_touches {ps : Piece → Prop} {s0 : State} (h_regs : ps .regs) (h_brim : ps .brim) {v0 : ℕ} {v1 : ℕ} {v2 : State} (h0 : Touches ps s0 v2) :
    Touches ps s0 (setStep v0 v1 v2) := by
  unfold setStep
  lift_lets
  intro x0
  clear_value x0
  refine State.putPortRec_touches h_brim ?_
  refine State.wr_touches h_regs ?_
  assumption

theorem leaveUp_touches {ps : Piece → Prop} {s0 : State} (h_regs : ps .regs) (h_out : ps .out) (h_ddr : ps .ddr) (h_poison : ps .poison) (h_host : ps .host) (h_latches : ps .latches) (h_brim : ps .brim) (h_palm : ps .palm) (h_ldg : ps .ldg) (h_vsr : ps .vsr) {v0 : ℕ} {v1 : State} (h0 : Touches ps s0 v1) :
    Touches ps s0 (leaveUp v0 v1) := by
  unfold leaveUp
  refine Touches.ite ?_ ?_
  · lift_lets
    intro x0
    have hx1 : Touches ps s0 x0 := by
      unfold x0
      refine State.wr_touches h_regs ?_
      refine State.wr_touches h_regs ?_
      refine State.wr_touches h_regs ?_
      refine State.wr_touches h_regs ?_
      refine State.wr_touches h_regs ?_
      assumption
    clear_value x0
    intro x2
    clear_value x2
    intro x3
    have hx4 : Touches ps s0 x3 := by
      unfold x3
      refine (Touches.upd_brim h_brim ?_)
      assumption
    clear_value x3
    refine presenceOfPort_touches h_regs h_out h_host h_latches h_ldg h_vsr ?_
    refine flushPort_touches h_regs h_out h_ddr h_poison h_host h_latches h_brim h_palm h_ldg h_vsr ?_
    refine portVector_touches h_out h_host ?_
    assumption
  · refine State.wr_touches h_regs ?_
    assumption

theorem halt_touches {ps : Piece → Prop} {s0 : State} (h_regs : ps .regs) (h_out : ps .out) (h_host : ps .host) (h_latches : ps .latches) (h_stamps : ps .stamps) (h_brim : ps .brim) (h_mtn : ps .mtn) {v0 : ℕ} {v1 : ℕ} {v2 : State} (h0 : Touches ps s0 v2) :
    Touches ps s0 (halt v0 v1 v2) := by
  unfold halt
  refine portVector_touches h_out h_host ?_
  refine State.raise_touches h_regs h_out h_host h_latches ?_
  refine quietPort_touches h_regs h_out h_host h_stamps h_brim h_mtn ?_
  refine setStep_touches h_regs h_brim ?_
  refine State.wr_touches h_regs ?_
  assumption

theorem enterRetune_touches {ps : Piece → Prop} {s0 : State} (h_regs : ps .regs) (h_out : ps .out) (h_host : ps .host) (h_brim : ps .brim) (h_mtn : ps .mtn) {v0 : ℕ} {v1 : ℕ} {v2 : ℕ} {v3 : ℕ} {v4 : State} (h0 : Touches ps s0 v4) :
    Touches ps s0 (enterRetune v0 v1 v2 v3 v4) := by
  unfold enterRetune
  lift_lets
  intro x0
  have hx1 : Touches ps s0 x0 := by
    unfold x0
    refine State.wr_touches h_regs ?_
    refine State.wr_touches h_regs ?_
    refine State.wr_touches h_regs ?_
    refine setStep_touches h_regs h_brim ?_
    assumption
  clear_value x0
  intro x2
  have hx3 : ∀ a0 a1, Touches ps s0 a0 → Touches ps s0 (x2 a0 a1) := by
    intro y4
    intro y5
    intro k6
    unfold x2
    lift_lets
    intro x7
    clear_value x7
    dsimp only
    refine showEq_touches h_regs ?_
    refine State.wr_touches h_regs ?_
    refine State.wr_touches h_regs ?_
    refine State.wr_touches h_regs ?_
    refine State.wr_touches h_regs ?_
    refine State.wr_touches h_regs ?_
    refine State.wr_touches h_regs ?_
    refine setLane_touches h_regs ?_
    refine (Touches.upd_brim h_brim ?_)
    assumption
  clear_value x2
  intro x8
  have hx9 : Touches ps s0 x8 := by
    unfold x8
    refine refreshPll_touches h_regs h_out h_host h_brim h_mtn ?_
    refine Touches.foldl (fun _ _ _ => ?_) ?_
    · refine hx3 _ _ ?_
      assumption
    · assumption
  clear_value x8
  intro x10
  clear_value x10
  refine State.putPortRec_touches h_brim ?_
  assumption

theorem sendPages_touches {ps : Piece → Prop} {s0 : State} (h_out : ps .out) {v0 : ℕ} {v1 : State} (h0 : Touches ps s0 v1) :
    Touches ps s0 (sendPages v0 v1) := by
  unfold sendPages
  lift_lets
  intro x0
  clear_value x0
  intro x1
  clear_value x1
  intro x2
  clear_value x2
  intro x3
  clear_value x3
  intro x4
  have hx5 : Touches ps s0 x4 := by
    unfold x4
    refine State.send_touches h_out ?_
    assumption
  clear_value x4
  refine Touches.ite ?_ ?_
  · refine State.send_touches h_out ?_
    assumption
  · assumption

theorem enterWait_touches {ps : Piece → Prop} {s0 : State} (h_regs : ps .regs) (h_out : ps .out) (h_ddr : ps .ddr) (h_poison : ps .poison) (h_host : ps .host) (h_latches : ps .latches) (h_stamps : ps .stamps) (h_brim : ps .brim) (h_palm : ps .palm) (h_ldg : ps .ldg) (h_vsr : ps .vsr) (h_mtn : ps .mtn) {v0 : ℕ} {v1 : ℕ} {v2 : State} (h0 : Touches ps s0 v2) :
    Touches ps s0 (enterWait v0 v1 v2) := by
  unfold enterWait
  lift_lets
  intro x0
  clear_value x0
  intro x1
  have hx2 : Touches ps s0 x1 := by
    unfold x1
    refine Touches.ite ?_ ?_
    · assumption
    · refine State.wr_touches h_regs ?_
      assumption
  clear_value x1
  intro x3
  have hx4 : Touches ps s0 x3 := by
    unfold x3
    refine leaveUp_touches h_regs h_out h_ddr h_poison h_host h_latches h_brim h_palm h_ldg h_vsr ?_
    assumption
  clear_value x3
  intro x5
  have hx6 : Touches ps s0 x5 := by
    unfold x5
    refine Touches.ite ?_ ?_
    · refine State.bump_touches h_regs h_latches ?_
      refine State.wr_touches h_regs ?_
      assumption
    · assumption
  clear_value x5
  intro x7
  clear_value x7
  intro x8
  have hx9 : Touches ps s0 x8 := by
    unfold x8
    refine State.wr_touches h_regs ?_
    refine State.putPortRec_touches h_brim ?_
    assumption
  clear_value x8
  intro x10
  have hx11 : Touches ps s0 x10 := by
    unfold x10
    refine Touches.foldl (fun _ _ _ => ?_) ?_
    · refine dropLane_touches h_regs h_stamps ?_
      assumption
    · refine setStep_touches h_regs h_brim ?_
      assumption
  clear_value x10
  intro x12
  have hx13 : Touches ps s0 x12 := by
    unfold x12
    refine refreshPll_touches h_regs h_out h_host h_brim h_mtn ?_
    assumption
  clear_value x12
  intro x14
  clear_value x14
  intro x15
  clear_value x15
  split
  · refine Touches.ite ?_ ?_
    · refine enterRetune_touches h_regs h_out h_host h_brim h_mtn ?_
      assumption
    · refine sendPages_touches h_out ?_
      assumption
  · refine halt_touches h_regs h_out h_host h_latches h_stamps h_brim h_mtn ?_
    refine Touches.ite ?_ ?_
    · refine State.raise_touches h_regs h_out h_host h_latches ?_
      assumption
    · assumption

theorem fallBack_touches {ps : Piece → Prop} {s0 : State} (h_regs : ps .regs) (h_out : ps .out) (h_ddr : ps .ddr) (h_poison : ps .poison) (h_host : ps .host) (h_latches : ps .latches) (h_stamps : ps .stamps) (h_brim : ps .brim) (h_palm : ps .palm) (h_ldg : ps .ldg) (h_vsr : ps .vsr) (h_mtn : ps .mtn) {v0 : ℕ} {v1 : ℕ} {v2 : State} (h0 : Touches ps s0 v2) :
    Touches ps s0 (fallBack v0 v1 v2) := by
  unfold fallBack
  lift_lets
  intro x0
  clear_value x0
  intro x1
  have hx2 : Touches ps s0 x1 := by
    unfold x1
    refine State.wr_touches h_regs ?_
    refine setStep_touches h_regs h_brim ?_
    assumption
  clear_value x1
  intro x3
  have hx4 : Touches ps s0 x3 := by
    unfold x3
    refine State.wr_touches h_regs ?_
    assumption
  clear_value x3
  refine Touches.ite ?_ ?_
  · refine halt_touches h_regs h_out h_host h_latches h_stamps h_brim h_mtn ?_
    assumption
  · refine enterWait_touches h_regs h_out h_ddr h_poison h_host h_latches h_stamps h_brim h_palm h_ldg h_vsr h_mtn ?_
    assumption

theorem setLocalFault_touches {ps : Piece → Prop} {s0 : State} (h_regs : ps .regs) (h_out : ps .out) {v0 : ℕ} {v1 : Bool} {v2 : State} (h0 : Touches ps s0 v2) :
    Touches ps s0 (setLocalFault v0 v1 v2) := by
  unfold setLocalFault
  refine Touches.ite ?_ ?_
  · assumption
  · refine State.send_touches h_out ?_
    refine State.wr_touches h_regs ?_
    assumption

theorem errorReceiving_touches {ps : Piece → Prop} {s0 : State} (h_regs : ps .regs) (h_out : ps .out) (h_ddr : ps .ddr) (h_poison : ps .poison) (h_host : ps .host) (h_latches : ps .latches) (h_tbl : ps .tbl) (h_palm : ps .palm) (h_timing : ps .timing) (h_ldg : ps .ldg) (h_vsr : ps .vsr) {v0 : ℕ} {v1 : State} (h0 : Touches ps s0 v1) :
    Touches ps s0 (errorReceiving v0 v1) := by
  unfold errorReceiving
  lift_lets
  intro x0
  clear_value x0
  intro x1
  clear_value x1
  refine Touches.foldl (fun _ _ _ => ?_) ?_
  · refine tailVerdict_touches h_regs h_out h_ddr h_poison h_host h_latches h_tbl h_palm h_timing h_ldg h_vsr ?_
    assumption
  · assumption

theorem lockLoss_touches {ps : Piece → Prop} {s0 : State} (h_regs : ps .regs) (h_out : ps .out) (h_ddr : ps .ddr) (h_poison : ps .poison) (h_host : ps .host) (h_latches : ps .latches) (h_stamps : ps .stamps) (h_brim : ps .brim) (h_tbl : ps .tbl) (h_palm : ps .palm) (h_timing : ps .timing) (h_ldg : ps .ldg) (h_vsr : ps .vsr) (h_mtn : ps .mtn) {v0 : ℕ} {v1 : Bool} {v2 : State} (h0 : Touches ps s0 v2) :
    Touches ps s0 (lockLoss v0 v1 v2) := by
  unfold lockLoss
  split
  · refine Touches.ite ?_ ?_
    · assumption
    · refine State.raise_touches h_regs h_out h_host h_latches ?_
      assumption
  · lift_lets
    intro x0
    clear_value x0
    intro x1
    clear_value x1
    intro x2
    have hx3 : Touches ps s0 x2 := by
      unfold x2
      refine State.putPortRec_touches h_brim ?_
      assumption
    clear_value x2
    split
    · assumption
    · refine Touches.ite ?_ ?_
      · assumption
      · refine fallBack_touches h_regs h_out h_ddr h_poison h_host h_latches h_stamps h_brim h_palm h_ldg h_vsr h_mtn ?_
        assumption
    · refine Touches.ite ?_ ?_
      · refine setLocalFault_touches h_regs h_out ?_
        assumption
      · refine setLocalFault_touches h_regs h_out ?_
        refine errorReceiving_touches h_regs h_out h_ddr h_poison h_host h_latches h_tbl h_palm h_timing h_ldg h_vsr ?_
        assumption
    · assumption

theorem startLadder_touches {ps : Piece → Prop} {s0 : State} (h_regs : ps .regs) (h_out : ps .out) (h_ddr : ps .ddr) (h_poison : ps .poison) (h_host : ps .host) (h_latches : ps .latches) (h_stamps : ps .stamps) (h_brim : ps .brim) (h_palm : ps .palm) (h_ldg : ps .ldg) (h_vsr : ps .vsr) (h_mtn : ps .mtn) {v0 : ℕ} {v1 : State} (h0 : Touches ps s0 v1) :
    Touches ps s0 (startLadder v0 v1) := by
  unfold startLadder
  refine enterWait_touches h_regs h_out h_ddr h_poison h_host h_latches h_stamps h_brim h_palm h_ldg h_vsr h_mtn ?_
  refine State.wr_touches h_regs ?_
  assumption

theorem restartPort_touches {ps : Piece → Prop} {s0 : State} (h_regs : ps .regs) (h_out : ps .out) (h_ddr : ps .ddr) (h_poison : ps .poison) (h_host : ps .host) (h_latches : ps .latches) (h_stamps : ps .stamps) (h_brim : ps .brim) (h_palm : ps .palm) (h_ldg : ps .ldg) (h_vsr : ps .vsr) (h_mtn : ps .mtn) {v0 : ℕ} {v1 : State} (h0 : Touches ps s0 v1) :
    Touches ps s0 (restartPort v0 v1) := by
  unfold restartPort
  refine Touches.ite ?_ ?_
  · refine startLadder_touches h_regs h_out h_ddr h_poison h_host h_latches h_stamps h_brim h_palm h_ldg h_vsr h_mtn ?_
    assumption
  · refine Touches.ite ?_ ?_
    · assumption
    · refine State.set1_touches h_regs h_latches ?_
      assumption

theorem execRestart_touches {ps : Piece → Prop} {s0 : State} (h_regs : ps .regs) (h_out : ps .out) (h_ddr : ps .ddr) (h_poison : ps .poison) (h_host : ps .host) (h_latches : ps .latches) (h_stamps : ps .stamps) (h_brim : ps .brim) (h_palm : ps .palm) (h_ldg : ps .ldg) (h_vsr : ps .vsr) (h_mtn : ps .mtn) {v0 : Fin 1024} {v1 : State} (h0 : Touches ps s0 v1) :
    Moves ps s0 (execRestart v0 v1) := by
  unfold execRestart
  refine Moves.next ?_
  refine State.written_touches h_regs h_latches h_mtn ?_ ?_
  · assumption
  · intro y0
    intro k1
    refine restartPort_touches h_regs h_out h_ddr h_poison h_host h_latches h_stamps h_brim h_palm h_ldg h_vsr h_mtn ?_
    assumption

theorem layPorts_touches {ps : Piece → Prop} {s0 : State} (h_regs : ps .regs) {v0 : ℕ} {v1 : ℕ} {v2 : State} (h0 : Touches ps s0 v2) :
    Touches ps s0 (layPorts v0 v1 v2) := by
  unfold layPorts
  refine Touches.foldl (fun _ _ _ => ?_) ?_
  · lift_lets
    intro x0
    clear_value x0
    refine State.wr_touches h_regs ?_
    refine State.wr_touches h_regs ?_
    assumption
  · assumption

theorem writeLaneCtrl_touches {ps : Piece → Prop} {s0 : State} (h_regs : ps .regs) (h_out : ps .out) (h_host : ps .host) (h_latches : ps .latches) (h_brim : ps .brim) (h_mtn : ps .mtn) {v0 : ℕ} {v1 : ℕ} {v2 : State} (h0 : Touches ps s0 v2) :
    Touches ps s0 (writeLaneCtrl v0 v1 v2) := by
  unfold writeLaneCtrl
  lift_lets
  intro x0
  clear_value x0
  intro x1
  clear_value x1
  intro x2
  clear_value x2
  intro x3
  have hx4 : Touches ps s0 x3 := by
    unfold x3
    refine Touches.foldl (fun _ _ _ => ?_) ?_
    · refine State.wr_touches h_regs ?_
      assumption
    · assumption
  clear_value x3
  intro x5
  have hx6 : Touches ps s0 x5 := by
    unfold x5
    refine Touches.ite ?_ ?_
    · refine setLane_touches h_regs ?_
      assumption
    · assumption
  clear_value x5
  refine Touches.ite ?_ ?_
  · refine State.set1_touches h_regs h_latches ?_
    assumption
  · refine showEq_touches h_regs ?_
    refine refreshPll_touches h_regs h_out h_host h_brim h_mtn ?_
    assumption

theorem execLaneCtrlWrite_touches {ps : Piece → Prop} {s0 : State} (h_regs : ps .regs) (h_out : ps .out) (h_host : ps .host) (h_latches : ps .latches) (h_brim : ps .brim) (h_mtn : ps .mtn) {v0 : Fin 1024} {v1 : Word} {v2 : State} (h0 : Touches ps s0 v2) :
    Moves ps s0 (execLaneCtrlWrite v0 v1 v2) := by
  unfold execLaneCtrlWrite
  refine Moves.next ?_
  refine State.written_touches h_regs h_latches h_mtn ?_ ?_
  · assumption
  · intro y0
    intro k1
    refine writeLaneCtrl_touches h_regs h_out h_host h_latches h_brim h_mtn ?_
    assumption

theorem atStep_touches {ps : Piece → Prop} {s0 : State} {v0 : ℕ} {v1 : ℕ} {v2 : State → State} {v3 : State} (h0 : ∀ a0, Touches ps s0 a0 → Touches ps s0 (v2 a0)) (h1 : Touches ps s0 v3) :
    Moves ps s0 (atStep v0 v1 v2 v3) := by
  unfold atStep
  refine Moves.next ?_
  refine State.running_touches ?_ ?_
  · assumption
  · intro y0
    intro k1
    refine State.given_touches ?_ ?_
    · assumption
    · intro y2
      intro k3
      refine h0 _ ?_
      assumption

theorem enterUp_touches {ps : Piece → Prop} {s0 : State} (h_regs : ps .regs) (h_out : ps .out) (h_host : ps .host) (h_latches : ps .latches) (h_brim : ps .brim) (h_ldg : ps .ldg) (h_vsr : ps .vsr) {v0 : ℕ} {v1 : State} (h0 : Touches ps s0 v1) :
    Touches ps s0 (enterUp v0 v1) := by
  unfold enterUp
  lift_lets
  intro x0
  have hx1 : Touches ps s0 x0 := by
    unfold x0
    refine portVector_touches h_out h_host ?_
    refine State.wr_touches h_regs ?_
    refine setStep_touches h_regs h_brim ?_
    assumption
  clear_value x0
  intro x2
  clear_value x2
  intro x3
  have hx4 : Touches ps s0 x3 := by
    unfold x3
    refine State.putPortRec_touches h_brim ?_
    assumption
  clear_value x3
  refine presenceOfPort_touches h_regs h_out h_host h_latches h_ldg h_vsr ?_
  refine restartVerify_touches h_regs h_out h_host h_brim ?_
  assumption

theorem execQualifyComplete_touches {ps : Piece → Prop} {s0 : State} (h_regs : ps .regs) (h_out : ps .out) (h_host : ps .host) (h_latches : ps .latches) (h_brim : ps .brim) (h_ldg : ps .ldg) (h_vsr : ps .vsr) {v0 : Fin 1024} {v1 : State} (h0 : Touches ps s0 v1) :
    Moves ps s0 (execQualifyComplete v0 v1) := by
  unfold execQualifyComplete
  refine atStep_touches ?_ ?_
  · intro y0
    intro k1
    refine State.given_touches ?_ ?_
    · assumption
    · intro y2
      intro k3
      refine enterUp_touches h_regs h_out h_host h_latches h_brim h_ldg h_vsr ?_
      assumption
  · assumption

theorem writeTxCtrl_touches {ps : Piece → Prop} {s0 : State} (h_regs : ps .regs) (h_latches : ps .latches) {v0 : ℕ} {v1 : ℕ} {v2 : State} (h0 : Touches ps s0 v2) :
    Touches ps s0 (writeTxCtrl v0 v1 v2) := by
  unfold writeTxCtrl
  refine Touches.ite ?_ ?_
  · refine State.set1_touches h_regs h_latches ?_
    assumption
  · lift_lets
    intro x0
    have hx1 : Touches ps s0 x0 := by
      unfold x0
      refine State.wr_touches h_regs ?_
      refine State.wr_touches h_regs ?_
      assumption
    clear_value x0
    refine Touches.ite ?_ ?_
    · assumption
    · refine wakeTx_touches h_regs ?_
      assumption

theorem enablePort_touches {ps : Piece → Prop} {s0 : State} (h_regs : ps .regs) (h_out : ps .out) (h_ddr : ps .ddr) (h_poison : ps .poison) (h_host : ps .host) (h_latches : ps .latches) (h_stamps : ps .stamps) (h_brim : ps .brim) (h_palm : ps .palm) (h_ldg : ps .ldg) (h_vsr : ps .vsr) (h_mtn : ps .mtn) {v0 : ℕ} {v1 : State} (h0 : Touches ps s0 v1) :
    Touches ps s0 (enablePort v0 v1) := by
  unfold enablePort
  refine Touches.ite ?_ ?_
  · refine State.set1_touches h_regs h_latches ?_
    assumption
  · refine Touches.ite ?_ ?_
    · assumption
    · lift_lets
      intro x0
      have hx1 : Touches ps s0 x0 := by
        unfold x0
        refine recomputePort_touches h_regs h_out h_host h_mtn ?_
        refine State.wr_touches h_regs ?_
        assumption
      clear_value x0
      intro x2
      clear_value x2
      refine Touches.ite ?_ ?_
      · refine (Touches.upd_brim h_brim ?_)
        assumption
      · refine startLadder_touches h_regs h_out h_ddr h_poison h_host h_latches h_stamps h_brim h_palm h_ldg h_vsr h_mtn ?_
        assumption

theorem linkDown_touches {ps : Piece → Prop} {s0 : State} (h_regs : ps .regs) (h_out : ps .out) (h_ddr : ps .ddr) (h_poison : ps .poison) (h_host : ps .host) (h_latches : ps .latches) (h_stamps : ps .stamps) (h_brim : ps .brim) (h_palm : ps .palm) (h_ldg : ps .ldg) (h_vsr : ps .vsr) (h_mtn : ps .mtn) {v0 : ℕ} {v1 : State} (h0 : Touches ps s0 v1) :
    Touches ps s0 (linkDown v0 v1) := by
  unfold linkDown
  refine enterWait_touches h_regs h_out h_ddr h_poison h_host h_latches h_stamps h_brim h_palm h_ldg h_vsr h_mtn ?_
  refine State.raise_touches h_regs h_out h_host h_latches ?_
  assumption

theorem sideLost_touches {ps : Piece → Prop} {s0 : State} (h_regs : ps .regs) (h_out : ps .out) (h_ddr : ps .ddr) (h_poison : ps .poison) (h_host : ps .host) (h_latches : ps .latches) (h_stamps : ps .stamps) (h_brim : ps .brim) (h_palm : ps .palm) (h_ldg : ps .ldg) (h_vsr : ps .vsr) (h_mtn : ps .mtn) {v0 : ℕ} {v1 : State} (h0 : Touches ps s0 v1) :
    Touches ps s0 (sideLost v0 v1) := by
  unfold sideLost
  refine Touches.foldl (fun _ _ _ => ?_) ?_
  · lift_lets
    intro x0
    clear_value x0
    intro x1
    have hx2 : Touches ps s0 x1 := by
      unfold x1
      refine State.wr_touches h_regs ?_
      assumption
    clear_value x1
    intro x3
    have hx4 : Touches ps s0 x3 := by
      unfold x3
      refine Touches.foldl (fun _ _ _ => ?_) ?_
      · lift_lets
        intro x5
        clear_value x5
        intro x6
        have hx7 : Touches ps s0 x6 := by
          unfold x6
          refine State.wr_touches h_regs ?_
          refine State.wr_touches h_regs ?_
          assumption
        clear_value x6
        intro x8
        have hx9 : Touches ps s0 x8 := by
          unfold x8
          refine Touches.foldl (fun _ _ _ => ?_) ?_
          · refine State.wr_touches h_regs ?_
            assumption
          · assumption
        clear_value x8
        refine refreshPll_touches h_regs h_out h_host h_brim h_mtn ?_
        refine Touches.foldl (fun _ _ _ => ?_) ?_
        · refine Touches.ite ?_ ?_
          · refine linkDown_touches h_regs h_out h_ddr h_poison h_host h_latches h_stamps h_brim h_palm h_ldg h_vsr h_mtn ?_
            assumption
          · refine Touches.ite ?_ ?_
            · refine enterWait_touches h_regs h_out h_ddr h_poison h_host h_latches h_stamps h_brim h_palm h_ldg h_vsr h_mtn ?_
              assumption
            · assumption
        · assumption
      · assumption
    clear_value x3
    refine State.raise_touches h_regs h_out h_host h_latches ?_
    assumption
  · assumption

theorem execRefLost_touches {ps : Piece → Prop} {s0 : State} (h_regs : ps .regs) (h_out : ps .out) (h_ddr : ps .ddr) (h_poison : ps .poison) (h_host : ps .host) (h_latches : ps .latches) (h_stamps : ps .stamps) (h_brim : ps .brim) (h_palm : ps .palm) (h_ldg : ps .ldg) (h_vsr : ps .vsr) (h_mtn : ps .mtn) {v0 : Fin 2} {v1 : State} (h0 : Touches ps s0 v1) :
    Moves ps s0 (execRefLost v0 v1) := by
  unfold execRefLost
  refine Moves.next ?_
  refine State.given_touches ?_ ?_
  · assumption
  · intro y0
    intro k1
    lift_lets
    intro x2
    have hx3 : Touches ps s0 x2 := by
      unfold x2
      refine State.running_touches ?_ ?_
      · assumption
      · intro y4
        intro k5
        refine sideLost_touches h_regs h_out h_ddr h_poison h_host h_latches h_stamps h_brim h_palm h_ldg h_vsr h_mtn ?_
        assumption
    clear_value x2
    intro x6
    have hx7 : Touches ps s0 x6 := by
      unfold x6
      refine Touches.ite ?_ ?_
      · refine Touches.foldl (fun _ _ _ => ?_) ?_
        · refine State.wr_touches h_regs ?_
          assumption
        · assumption
      · assumption
    clear_value x6
    refine Touches.ite ?_ ?_
    · refine State.raise_touches h_regs h_out h_host h_latches ?_
      assumption
    · assumption

theorem writeEq_touches {ps : Piece → Prop} {s0 : State} (h_regs : ps .regs) (h_latches : ps .latches) (h_brim : ps .brim) {v0 : ℕ} {v1 : ℕ} {v2 : ℕ} {v3 : State} (h0 : Touches ps s0 v3) :
    Touches ps s0 (writeEq v0 v1 v2 v3) := by
  unfold writeEq
  lift_lets
  intro x0
  clear_value x0
  intro x1
  clear_value x1
  intro x2
  clear_value x2
  intro x3
  clear_value x3
  refine Touches.ite ?_ ?_
  · refine showEq_touches h_regs ?_
    refine (Touches.upd_brim h_brim ?_)
    assumption
  · refine State.set1_touches h_regs h_latches ?_
    assumption

theorem execEqOverrideWrite_touches {ps : Piece → Prop} {s0 : State} (h_regs : ps .regs) (h_latches : ps .latches) (h_brim : ps .brim) (h_mtn : ps .mtn) {v0 : Fin 1024} {v1 : Fin 3} {v2 : Word} {v3 : State} (h0 : Touches ps s0 v3) :
    Moves ps s0 (execEqOverrideWrite v0 v1 v2 v3) := by
  unfold execEqOverrideWrite
  refine Moves.next ?_
  refine State.written_touches h_regs h_latches h_mtn ?_ ?_
  · assumption
  · intro y0
    intro k1
    refine writeEq_touches h_regs h_latches h_brim ?_
    assumption

theorem execRxLpiChange_touches {ps : Piece → Prop} {s0 : State} (h_regs : ps .regs) {v0 : Fin 1024} {v1 : Bool} {v2 : State} (h0 : Touches ps s0 v2) :
    Moves ps s0 (execRxLpiChange v0 v1 v2) := by
  unfold execRxLpiChange
  refine Moves.next ?_
  refine State.running_touches ?_ ?_
  · assumption
  · intro y0
    intro k1
    lift_lets
    intro x2
    clear_value x2
    intro x3
    clear_value x3
    refine State.given_touches ?_ ?_
    · assumption
    · intro y4
      intro k5
      refine Touches.foldl (fun _ _ _ => ?_) ?_
      · refine State.wr_touches h_regs ?_
        assumption
      · refine State.wr_touches h_regs ?_
        assumption

theorem writeOct_touches {ps : Piece → Prop} {s0 : State} (h_regs : ps .regs) (h_out : ps .out) (h_host : ps .host) (h_latches : ps .latches) (h_brim : ps .brim) (h_mtn : ps .mtn) {v0 : ℕ} {v1 : ℕ} {v2 : State} (h0 : Touches ps s0 v2) :
    Touches ps s0 (writeOct v0 v1 v2) := by
  unfold writeOct
  lift_lets
  intro x0
  clear_value x0
  intro x1
  clear_value x1
  intro x2
  clear_value x2
  intro x3
  clear_value x3
  intro x4
  clear_value x4
  intro x5
  have hx6 : Touches ps s0 x5 := by
    unfold x5
    refine layPorts_touches h_regs ?_
    refine State.wr_touches h_regs ?_
    assumption
  clear_value x5
  intro x7
  have hx8 : Touches ps s0 x7 := by
    unfold x7
    refine State.wr_touches h_regs ?_
    refine State.wr_touches h_regs ?_
    assumption
  clear_value x7
  intro x9
  clear_value x9
  refine Touches.ite ?_ ?_
  · refine State.set1_touches h_regs h_latches ?_
    refine State.set1_touches h_regs h_latches ?_
    assumption
  · refine Touches.ite ?_ ?_
    · assumption
    · refine refreshPll_touches h_regs h_out h_host h_brim h_mtn ?_
      refine (Touches.upd_brim h_brim ?_)
      assumption

theorem execOctCfgWrite_touches {ps : Piece → Prop} {s0 : State} (h_regs : ps .regs) (h_out : ps .out) (h_host : ps .host) (h_latches : ps .latches) (h_brim : ps .brim) (h_mtn : ps .mtn) {v0 : Fin 128} {v1 : Word} {v2 : State} (h0 : Touches ps s0 v2) :
    Moves ps s0 (execOctCfgWrite v0 v1 v2) := by
  unfold execOctCfgWrite
  refine Moves.next ?_
  refine State.written_touches h_regs h_latches h_mtn ?_ ?_
  · assumption
  · intro y0
    intro k1
    refine writeOct_touches h_regs h_out h_host h_latches h_brim h_mtn ?_
    assumption

theorem execRetuneTimeout_touches {ps : Piece → Prop} {s0 : State} (h_regs : ps .regs) (h_out : ps .out) (h_ddr : ps .ddr) (h_poison : ps .poison) (h_host : ps .host) (h_latches : ps .latches) (h_stamps : ps .stamps) (h_brim : ps .brim) (h_palm : ps .palm) (h_ldg : ps .ldg) (h_vsr : ps .vsr) (h_mtn : ps .mtn) {v0 : Fin 1024} {v1 : State} (h0 : Touches ps s0 v1) :
    Moves ps s0 (execRetuneTimeout v0 v1) := by
  unfold execRetuneTimeout
  refine atStep_touches ?_ ?_
  · intro y0
    intro k1
    refine State.given_touches ?_ ?_
    · assumption
    · intro y2
      intro k3
      refine fallBack_touches h_regs h_out h_ddr h_poison h_host h_latches h_stamps h_brim h_palm h_ldg h_vsr h_mtn ?_
      assumption
  · assumption

theorem execPfcResend_touches {ps : Piece → Prop} {s0 : State} (h_regs : ps .regs) (h_out : ps .out) (h_palm : ps .palm) (h_vsr : ps .vsr) {v0 : Fin 1024} {v1 : Fin 8} {v2 : State} (h0 : Touches ps s0 v2) :
    Moves ps s0 (execPfcResend v0 v1 v2) := by
  unfold execPfcResend
  refine Moves.next ?_
  refine State.running_touches ?_ ?_
  · assumption
  · intro y0
    intro k1
    lift_lets
    intro x2
    clear_value x2
    intro x3
    clear_value x3
    intro x4
    clear_value x4
    refine State.given_touches ?_ ?_
    · assumption
    · intro y5
      intro k6
      refine sendPfc_touches h_regs h_out h_vsr ?_
      refine State.putPg_touches h_palm ?_
      assumption

theorem execExchangeTimeout_touches {ps : Piece → Prop} {s0 : State} (h_regs : ps .regs) (h_out : ps .out) (h_ddr : ps .ddr) (h_poison : ps .poison) (h_host : ps .host) (h_latches : ps .latches) (h_stamps : ps .stamps) (h_brim : ps .brim) (h_palm : ps .palm) (h_ldg : ps .ldg) (h_vsr : ps .vsr) (h_mtn : ps .mtn) {v0 : Fin 1024} {v1 : State} (h0 : Touches ps s0 v1) :
    Moves ps s0 (execExchangeTimeout v0 v1) := by
  unfold execExchangeTimeout
  refine atStep_touches ?_ ?_
  · intro y0
    intro k1
    refine State.given_touches ?_ ?_
    · assumption
    · intro y2
      intro k3
      refine enterWait_touches h_regs h_out h_ddr h_poison h_host h_latches h_stamps h_brim h_palm h_ldg h_vsr h_mtn ?_
      assumption
  · assumption

theorem execTxLpiEntry_touches {ps : Piece → Prop} {s0 : State} (h_regs : ps .regs) (h_vsr : ps .vsr) {v0 : Fin 1024} {v1 : State} (h0 : Touches ps s0 v1) :
    Moves ps s0 (execTxLpiEntry v0 v1) := by
  unfold execTxLpiEntry
  refine Moves.next ?_
  refine State.running_touches ?_ ?_
  · assumption
  · intro y0
    intro k1
    lift_lets
    intro x2
    clear_value x2
    refine State.given_touches ?_ ?_
    · assumption
    · intro y3
      intro k4
      refine State.count_touches h_regs h_vsr ?_
      refine Touches.foldl (fun _ _ _ => ?_) ?_
      · refine State.wr_touches h_regs ?_
        assumption
      · refine State.wr_touches h_regs ?_
        assumption

theorem disablePort_touches {ps : Piece → Prop} {s0 : State} (h_regs : ps .regs) (h_out : ps .out) (h_ddr : ps .ddr) (h_poison : ps .poison) (h_host : ps .host) (h_latches : ps .latches) (h_stamps : ps .stamps) (h_brim : ps .brim) (h_palm : ps .palm) (h_ldg : ps .ldg) (h_vsr : ps .vsr) (h_mtn : ps .mtn) {v0 : ℕ} {v1 : State} (h0 : Touches ps s0 v1) :
    Touches ps s0 (disablePort v0 v1) := by
  unfold disablePort
  refine Touches.ite ?_ ?_
  · refine State.set1_touches h_regs h_latches ?_
    assumption
  · lift_lets
    intro x0
    have hx1 : Touches ps s0 x0 := by
      unfold x0
      refine leaveUp_touches h_regs h_out h_ddr h_poison h_host h_latches h_brim h_palm h_ldg h_vsr ?_
      refine recomputePort_touches h_regs h_out h_host h_mtn ?_
      refine State.wr_touches h_regs ?_
      assumption
    clear_value x0
    intro x2
    clear_value x2
    intro x3
    have hx4 : Touches ps s0 x3 := by
      unfold x3
      refine (Touches.upd_brim h_brim ?_)
      assumption
    clear_value x3
    refine quietPort_touches h_regs h_out h_host h_stamps h_brim h_mtn ?_
    refine State.wr_touches h_regs ?_
    refine setStep_touches h_regs h_brim ?_
    assumption

theorem writeEts_touches {ps : Piece → Prop} {s0 : State} (h_regs : ps .regs) (h_latches : ps .latches) (h_brim : ps .brim) (h_palm : ps .palm) {v0 : ℕ} {v1 : ℕ} {v2 : State} (h0 : Touches ps s0 v2) :
    Touches ps s0 (writeEts v0 v1 v2) := by
  unfold writeEts
  lift_lets
  intro x0
  clear_value x0
  intro x1
  clear_value x1
  intro x2
  clear_value x2
  intro x3
  have hx4 : Touches ps s0 x3 := by
    unfold x3
    refine State.putPortRec_touches h_brim ?_
    assumption
  clear_value x3
  refine Touches.ite ?_ ?_
  · refine State.set1_touches h_regs h_latches ?_
    assumption
  · refine Touches.ite ?_ ?_
    · refine applyEts_touches h_regs h_brim h_palm ?_
      assumption
    · assumption

theorem sendTraining_touches {ps : Piece → Prop} {s0 : State} (h_out : ps .out) {v0 : ℕ} {v1 : ℕ} {v2 : ℕ} {v3 : Bool} {v4 : State} (h0 : Touches ps s0 v4) :
    Touches ps s0 (sendTraining v0 v1 v2 v3 v4) := by
  unfold sendTraining
  refine State.send_touches h_out ?_
  assumption

theorem pausePriority_touches {ps : Piece → Prop} {s0 : State} (h_regs : ps .regs) (h_brim : ps .brim) (h_palm : ps .palm) {v0 : ℕ} {v1 : ℕ} {v2 : ℕ} {v3 : State} (h0 : Touches ps s0 v3) :
    Touches ps s0 (pausePriority v0 v1 v2 v3) := by
  unfold pausePriority
  lift_lets
  intro x0
  clear_value x0
  intro x1
  have hx2 : ∀ a0 a1, Touches ps s0 a1 → Touches ps s0 (x1 a0 a1) := by
    intro y3
    intro y4
    intro k5
    unfold x1
    lift_lets
    intro x6
    have hx7 : Touches ps s0 x6 := by
      unfold x6
      refine State.wr_touches h_regs ?_
      assumption
    clear_value x6
    intro x8
    clear_value x8
    refine Touches.ite ?_ ?_
    · refine State.putSched_touches h_palm ?_
      assumption
    · assumption
  clear_value x1
  refine Touches.ite ?_ ?_
  · assumption
  · refine Touches.ite ?_ ?_
    · refine hx2 _ _ ?_
      refine State.putPortRec_touches h_brim ?_
      assumption
    · refine Touches.ite ?_ ?_
      · refine hx2 _ _ ?_
        refine State.putPortRec_touches h_brim ?_
        assumption
      · assumption

theorem execPfcReceive_touches {ps : Piece → Prop} {s0 : State} (h_regs : ps .regs) (h_out : ps .out) (h_host : ps .host) (h_latches : ps .latches) (h_brim : ps .brim) (h_palm : ps .palm) (h_vsr : ps .vsr) {v0 : Fin 1024} {v1 : BitVec 8} {v2 : List (BitVec 16)} {v3 : State} (h0 : Touches ps s0 v3) :
    Moves ps s0 (execPfcReceive v0 v1 v2 v3) := by
  unfold execPfcReceive
  refine Moves.next ?_
  refine State.running_touches ?_ ?_
  · assumption
  · intro y0
    intro k1
    lift_lets
    intro x2
    clear_value x2
    intro x3
    clear_value x3
    intro x4
    clear_value x4
    refine State.given_touches ?_ ?_
    · assumption
    · intro y5
      intro k6
      lift_lets
      intro x7
      have hx8 : Touches ps s0 x7 := by
        unfold x7
        refine Touches.foldl (fun _ _ _ => ?_) ?_
        · refine pausePriority_touches h_regs h_brim h_palm ?_
          assumption
        · refine State.count_touches h_regs h_vsr ?_
          assumption
      clear_value x7
      refine Touches.ite ?_ ?_
      · refine State.raise_touches h_regs h_out h_host h_latches ?_
        refine State.bump_touches h_regs h_latches ?_
        assumption
      · assumption

theorem unlockPll_touches {ps : Piece → Prop} {s0 : State} (h_regs : ps .regs) (h_out : ps .out) (h_ddr : ps .ddr) (h_poison : ps .poison) (h_host : ps .host) (h_latches : ps .latches) (h_stamps : ps .stamps) (h_brim : ps .brim) (h_palm : ps .palm) (h_ldg : ps .ldg) (h_vsr : ps .vsr) (h_mtn : ps .mtn) {v0 : ℕ} {v1 : State} (h0 : Touches ps s0 v1) :
    Touches ps s0 (unlockPll v0 v1) := by
  unfold unlockPll
  lift_lets
  intro x0
  have hx1 : Touches ps s0 x0 := by
    unfold x0
    refine State.wr_touches h_regs ?_
    assumption
  clear_value x0
  refine refreshPll_touches h_regs h_out h_host h_brim h_mtn ?_
  refine Touches.foldl (fun _ _ _ => ?_) ?_
  · refine Touches.ite ?_ ?_
    · refine linkDown_touches h_regs h_out h_ddr h_poison h_host h_latches h_stamps h_brim h_palm h_ldg h_vsr h_mtn ?_
      assumption
    · refine Touches.ite ?_ ?_
      · refine enterWait_touches h_regs h_out h_ddr h_poison h_host h_latches h_stamps h_brim h_palm h_ldg h_vsr h_mtn ?_
        assumption
      · assumption
  · assumption

theorem coefficient_touches {ps : Piece → Prop} {s0 : State} (h_regs : ps .regs) (h_out : ps .out) (h_host : ps .host) (h_latches : ps .latches) (h_brim : ps .brim) {v0 : ℕ} {v1 : Bool} {v2 : ℕ} {v3 : Bool} {v4 : State} (h0 : Touches ps s0 v4) :
    Touches ps s0 (coefficient v0 v1 v2 v3 v4) := by
  unfold coefficient
  split
  · assumption
  · refine Touches.ite ?_ ?_
    · lift_lets
      intro x0
      clear_value x0
      refine sendTraining_touches h_out ?_
      refine showEq_touches h_regs ?_
      refine State.bump_touches h_regs h_latches ?_
      refine (Touches.upd_brim h_brim ?_)
      assumption
    · lift_lets
      intro x1
      clear_value x1
      intro x2
      clear_value x2
      intro x3
      clear_value x3
      intro x4
      clear_value x4
      intro x5
      clear_value x5
      intro x6
      have hx7 : Touches ps s0 x6 := by
        unfold x6
        refine sendTraining_touches h_out ?_
        refine State.bump_touches h_regs h_latches ?_
        assumption
      clear_value x6
      refine Touches.ite ?_ ?_
      · refine sendTraining_touches h_out ?_
        refine showEq_touches h_regs ?_
        refine State.bump_touches h_regs h_latches ?_
        refine (Touches.upd_brim h_brim ?_)
        assumption
      · split
        · refine State.raise_touches h_regs h_out h_host h_latches ?_
          assumption
        · assumption

theorem execCoefficientRequest_touches {ps : Piece → Prop} {s0 : State} (h_regs : ps .regs) (h_out : ps .out) (h_host : ps .host) (h_latches : ps .latches) (h_brim : ps .brim) {v0 : Fin 1024} {v1 : Bool} {v2 : Fin 5} {v3 : Bool} {v4 : State} (h0 : Touches ps s0 v4) :
    Moves ps s0 (execCoefficientRequest v0 v1 v2 v3 v4) := by
  unfold execCoefficientRequest
  refine Moves.next ?_
  refine State.running_touches ?_ ?_
  · assumption
  · intro y0
    intro k1
    split
    · refine State.given_touches ?_ ?_
      · assumption
      · intro y2
        intro k3
        refine coefficient_touches h_regs h_out h_host h_latches h_brim ?_
        assumption
    · assumption

theorem enterTraining_touches {ps : Piece → Prop} {s0 : State} (h_regs : ps .regs) (h_out : ps .out) (h_stamps : ps .stamps) (h_brim : ps .brim) {v0 : ℕ} {v1 : State} (h0 : Touches ps s0 v1) :
    Touches ps s0 (enterTraining v0 v1) := by
  unfold enterTraining
  lift_lets
  intro x0
  have hx1 : Touches ps s0 x0 := by
    unfold x0
    refine setStep_touches h_regs h_brim ?_
    refine Touches.foldl (fun _ _ _ => ?_) ?_
    · refine cdrLock_touches h_regs h_stamps ?_
      assumption
    · assumption
  clear_value x0
  intro x2
  clear_value x2
  intro x3
  have hx4 : Touches ps s0 x3 := by
    unfold x3
    refine State.putPortRec_touches h_brim ?_
    assumption
  clear_value x3
  refine Touches.ite ?_ ?_
  · refine Touches.foldl (fun _ _ _ => ?_) ?_
    · refine sendTraining_touches h_out ?_
      assumption
    · assumption
  · assumption

theorem execPreemptVerifyResponse_touches {ps : Piece → Prop} {s0 : State} (h_regs : ps .regs) (h_out : ps .out) (h_host : ps .host) (h_brim : ps .brim) {v0 : Fin 1024} {v1 : State} (h0 : Touches ps s0 v1) :
    Moves ps s0 (execPreemptVerifyResponse v0 v1) := by
  unfold execPreemptVerifyResponse
  refine Moves.next ?_
  refine State.running_touches ?_ ?_
  · assumption
  · intro y0
    intro k1
    refine State.given_touches ?_ ?_
    · assumption
    · intro y2
      intro k3
      lift_lets
      intro x4
      clear_value x4
      refine showPreempt_touches h_regs h_out h_host ?_
      refine State.putPortRec_touches h_brim ?_
      assumption

theorem execPfcQuantaExpiry_touches {ps : Piece → Prop} {s0 : State} (h_regs : ps .regs) (h_brim : ps .brim) {v0 : Fin 1024} {v1 : Fin 8} {v2 : State} (h0 : Touches ps s0 v2) :
    Moves ps s0 (execPfcQuantaExpiry v0 v1 v2) := by
  unfold execPfcQuantaExpiry
  refine Moves.next ?_
  refine State.running_touches ?_ ?_
  · assumption
  · intro y0
    intro k1
    lift_lets
    intro x2
    clear_value x2
    intro x3
    clear_value x3
    refine State.given_touches ?_ ?_
    · assumption
    · intro y4
      intro k5
      refine State.wr_touches h_regs ?_
      refine State.putPortRec_touches h_brim ?_
      assumption

theorem execPortEnable_touches {ps : Piece → Prop} {s0 : State} (h_regs : ps .regs) (h_out : ps .out) (h_ddr : ps .ddr) (h_poison : ps .poison) (h_host : ps .host) (h_latches : ps .latches) (h_stamps : ps .stamps) (h_brim : ps .brim) (h_palm : ps .palm) (h_ldg : ps .ldg) (h_vsr : ps .vsr) (h_mtn : ps .mtn) {v0 : Fin 1024} {v1 : State} (h0 : Touches ps s0 v1) :
    Moves ps s0 (execPortEnable v0 v1) := by
  unfold execPortEnable
  refine Moves.next ?_
  refine State.written_touches h_regs h_latches h_mtn ?_ ?_
  · assumption
  · intro y0
    intro k1
    refine enablePort_touches h_regs h_out h_ddr h_poison h_host h_latches h_stamps h_brim h_palm h_ldg h_vsr h_mtn ?_
    assumption

theorem sendCap_touches {ps : Piece → Prop} {s0 : State} (h_out : ps .out) (h_brim : ps .brim) {v0 : ℕ} {v1 : ℕ} {v2 : ℕ} {v3 : ℕ} {v4 : State} (h0 : Touches ps s0 v4) :
    Touches ps s0 (sendCap v0 v1 v2 v3 v4) := by
  unfold sendCap
  lift_lets
  intro x0
  clear_value x0
  intro x1
  clear_value x1
  refine State.putPortRec_touches h_brim ?_
  refine State.send_touches h_out ?_
  assumption

theorem lead_touches {ps : Piece → Prop} {s0 : State} (h_out : ps .out) (h_brim : ps .brim) {v0 : ℕ} {v1 : DenoonCap} {v2 : ℕ} {v3 : State} (h0 : Touches ps s0 v3) :
    Touches ps s0 (lead v0 v1 v2 v3) := by
  unfold lead
  lift_lets
  intro x0
  clear_value x0
  split
  · assumption
  · lift_lets
    intro x1
    clear_value x1
    intro x2
    have hx3 : Touches ps s0 x2 := by
      unfold x2
      refine sendCap_touches h_out h_brim ?_
      assumption
    clear_value x2
    intro x4
    clear_value x4
    refine State.putPortRec_touches h_brim ?_
    assumption

theorem execPortDisable_touches {ps : Piece → Prop} {s0 : State} (h_regs : ps .regs) (h_out : ps .out) (h_ddr : ps .ddr) (h_poison : ps .poison) (h_host : ps .host) (h_latches : ps .latches) (h_stamps : ps .stamps) (h_brim : ps .brim) (h_palm : ps .palm) (h_ldg : ps .ldg) (h_vsr : ps .vsr) (h_mtn : ps .mtn) {v0 : Fin 1024} {v1 : State} (h0 : Touches ps s0 v1) :
    Moves ps s0 (execPortDisable v0 v1) := by
  unfold execPortDisable
  refine Moves.next ?_
  refine State.written_touches h_regs h_latches h_mtn ?_ ?_
  · assumption
  · intro y0
    intro k1
    refine disablePort_touches h_regs h_out h_ddr h_poison h_host h_latches h_stamps h_brim h_palm h_ldg h_vsr h_mtn ?_
    assumption

theorem enterExchange_touches {ps : Piece → Prop} {s0 : State} (h_regs : ps .regs) (h_brim : ps .brim) {v0 : ℕ} {v1 : State} (h0 : Touches ps s0 v1) :
    Touches ps s0 (enterExchange v0 v1) := by
  unfold enterExchange
  refine State.wr_touches h_regs ?_
  refine setStep_touches h_regs h_brim ?_
  assumption

theorem execTxLpiWake_touches {ps : Piece → Prop} {s0 : State} (h_regs : ps .regs) {v0 : Fin 1024} {v1 : State} (h0 : Touches ps s0 v1) :
    Moves ps s0 (execTxLpiWake v0 v1) := by
  unfold execTxLpiWake
  refine Moves.next ?_
  refine State.running_touches ?_ ?_
  · assumption
  · intro y0
    intro k1
    refine State.given_touches ?_ ?_
    · assumption
    · intro y2
      intro k3
      refine wakeTx_touches h_regs ?_
      assumption

theorem execEtsCfgWrite_touches {ps : Piece → Prop} {s0 : State} (h_regs : ps .regs) (h_latches : ps .latches) (h_brim : ps .brim) (h_palm : ps .palm) (h_mtn : ps .mtn) {v0 : Fin 1024} {v1 : Word} {v2 : State} (h0 : Touches ps s0 v2) :
    Moves ps s0 (execEtsCfgWrite v0 v1 v2) := by
  unfold execEtsCfgWrite
  refine Moves.next ?_
  refine State.written_touches h_regs h_latches h_mtn ?_ ?_
  · assumption
  · intro y0
    intro k1
    refine writeEts_touches h_regs h_latches h_brim h_palm ?_
    assumption

theorem enterQualify_touches {ps : Piece → Prop} {s0 : State} (h_regs : ps .regs) (h_out : ps .out) (h_brim : ps .brim) {v0 : ℕ} {v1 : State} (h0 : Touches ps s0 v1) :
    Touches ps s0 (enterQualify v0 v1) := by
  unfold enterQualify
  lift_lets
  intro x0
  have hx1 : Touches ps s0 x0 := by
    unfold x0
    refine Touches.ite ?_ ?_
    · refine Touches.foldl (fun _ _ _ => ?_) ?_
      · refine sendTraining_touches h_out ?_
        assumption
      · assumption
    · assumption
  clear_value x0
  refine setStep_touches h_regs h_brim ?_
  assumption

theorem execTrainingComplete_touches {ps : Piece → Prop} {s0 : State} (h_regs : ps .regs) (h_out : ps .out) (h_brim : ps .brim) {v0 : Fin 1024} {v1 : State} (h0 : Touches ps s0 v1) :
    Moves ps s0 (execTrainingComplete v0 v1) := by
  unfold execTrainingComplete
  refine atStep_touches ?_ ?_
  · intro y0
    intro k1
    refine State.given_touches ?_ ?_
    · assumption
    · intro y2
      intro k3
      refine enterQualify_touches h_regs h_out h_brim ?_
      assumption
  · assumption

theorem execRemoteFault_touches {ps : Piece → Prop} {s0 : State} (h_regs : ps .regs) {v0 : Fin 1024} {v1 : Bool} {v2 : State} (h0 : Touches ps s0 v2) :
    Moves ps s0 (execRemoteFault v0 v1 v2) := by
  unfold execRemoteFault
  refine atStep_touches ?_ ?_
  · intro y0
    intro k1
    refine State.wr_touches h_regs ?_
    assumption
  · assumption

theorem receiveCap_touches {ps : Piece → Prop} {s0 : State} (h_regs : ps .regs) (h_out : ps .out) (h_host : ps .host) (h_latches : ps .latches) (h_stamps : ps .stamps) (h_brim : ps .brim) (h_mtn : ps .mtn) {v0 : ℕ} {v1 : ℕ} {v2 : DenoonCap} {v3 : ℕ} {v4 : ℕ} {v5 : ℕ} {v6 : State} (h0 : Touches ps s0 v6) :
    Touches ps s0 (receiveCap v0 v1 v2 v3 v4 v5 v6) := by
  unfold receiveCap
  lift_lets
  intro x0
  clear_value x0
  intro x1
  clear_value x1
  intro x2
  clear_value x2
  intro x3
  have hx4 : Touches ps s0 x3 := by
    unfold x3
    refine State.putPortRec_touches h_brim ?_
    assumption
  clear_value x3
  intro x5
  clear_value x5
  intro x6
  have hx7 : Touches ps s0 x6 := by
    unfold x6
    refine sendCap_touches h_out h_brim ?_
    assumption
  clear_value x6
  intro x8
  clear_value x8
  split
  · refine Touches.ite ?_ ?_
    · refine halt_touches h_regs h_out h_host h_latches h_stamps h_brim h_mtn ?_
      assumption
    · refine Touches.ite ?_ ?_
      · refine halt_touches h_regs h_out h_host h_latches h_stamps h_brim h_mtn ?_
        assumption
      · refine Touches.ite ?_ ?_
        · refine halt_touches h_regs h_out h_host h_latches h_stamps h_brim h_mtn ?_
          assumption
        · refine Touches.ite ?_ ?_
          · refine lead_touches h_out h_brim ?_
            assumption
          · assumption
  · refine Touches.ite ?_ ?_
    · assumption
    · refine State.putPortRec_touches h_brim ?_
      assumption
  · assumption

theorem execDenoonCapReceive_touches {ps : Piece → Prop} {s0 : State} (h_regs : ps .regs) (h_out : ps .out) (h_host : ps .host) (h_latches : ps .latches) (h_stamps : ps .stamps) (h_brim : ps .brim) (h_mtn : ps .mtn) {v0 : Fin 1024} {v1 : Fin 4} {v2 : Word} {v3 : BitVec 16} {v4 : BitVec 8} {v5 : BitVec 8} {v6 : BitVec 8} {v7 : Fin 6} {v8 : Fin 3} {v9 : BitVec 32} {v10 : State} (h0 : Touches ps s0 v10) :
    Moves ps s0 (execDenoonCapReceive v0 v1 v2 v3 v4 v5 v6 v7 v8 v9 v10) := by
  unfold execDenoonCapReceive
  refine atStep_touches ?_ ?_
  · intro y0
    intro k1
    refine receiveCap_touches h_regs h_out h_host h_latches h_stamps h_brim h_mtn ?_
    assumption
  · assumption

theorem execRetuneLocked_touches {ps : Piece → Prop} {s0 : State} (h_regs : ps .regs) (h_out : ps .out) (h_stamps : ps .stamps) (h_brim : ps .brim) {v0 : Fin 1024} {v1 : State} (h0 : Touches ps s0 v1) :
    Moves ps s0 (execRetuneLocked v0 v1) := by
  unfold execRetuneLocked
  refine atStep_touches ?_ ?_
  · intro y0
    intro k1
    refine State.given_touches ?_ ?_
    · assumption
    · intro y2
      intro k3
      refine enterTraining_touches h_regs h_out h_stamps h_brim ?_
      assumption
  · assumption

theorem execOctetPllLock_touches {ps : Piece → Prop} {s0 : State} (h_regs : ps .regs) (h_out : ps .out) (h_ddr : ps .ddr) (h_poison : ps .poison) (h_host : ps .host) (h_latches : ps .latches) (h_stamps : ps .stamps) (h_brim : ps .brim) (h_palm : ps .palm) (h_ldg : ps .ldg) (h_vsr : ps .vsr) (h_mtn : ps .mtn) {v0 : Fin 128} {v1 : State} (h0 : Touches ps s0 v1) :
    Moves ps s0 (execOctetPllLock v0 v1) := by
  unfold execOctetPllLock
  refine Moves.next ?_
  refine State.running_touches ?_ ?_
  · assumption
  · intro y0
    intro k1
    lift_lets
    intro x2
    clear_value x2
    refine State.given_touches ?_ ?_
    · assumption
    · intro y3
      intro k4
      lift_lets
      intro x5
      clear_value x5
      intro x6
      clear_value x6
      intro x7
      have hx8 : Touches ps s0 x7 := by
        unfold x7
        refine State.wr_touches h_regs ?_
        refine State.wr_touches h_regs ?_
        refine (Touches.upd_brim h_brim ?_)
        assumption
      clear_value x7
      intro x9
      have hx10 : Touches ps s0 x9 := by
        unfold x9
        refine Touches.foldl (fun _ _ _ => ?_) ?_
        · lift_lets
          intro x11
          clear_value x11
          refine Touches.ite ?_ ?_
          · refine State.putPortRec_touches h_brim ?_
            assumption
          · assumption
        · assumption
      clear_value x9
      refine refreshPll_touches h_regs h_out h_host h_brim h_mtn ?_
      refine Touches.foldl (fun _ _ _ => ?_) ?_
      · refine startLadder_touches h_regs h_out h_ddr h_poison h_host h_latches h_stamps h_brim h_palm h_ldg h_vsr h_mtn ?_
        assumption
      · assumption

theorem execOctetPllUnlock_touches {ps : Piece → Prop} {s0 : State} (h_regs : ps .regs) (h_out : ps .out) (h_ddr : ps .ddr) (h_poison : ps .poison) (h_host : ps .host) (h_latches : ps .latches) (h_stamps : ps .stamps) (h_brim : ps .brim) (h_palm : ps .palm) (h_ldg : ps .ldg) (h_vsr : ps .vsr) (h_mtn : ps .mtn) {v0 : Fin 128} {v1 : State} (h0 : Touches ps s0 v1) :
    Moves ps s0 (execOctetPllUnlock v0 v1) := by
  unfold execOctetPllUnlock
  refine Moves.next ?_
  refine State.given_touches ?_ ?_
  · assumption
  · intro y0
    intro k1
    refine State.raise_touches h_regs h_out h_host h_latches ?_
    refine unlockPll_touches h_regs h_out h_ddr h_poison h_host h_latches h_stamps h_brim h_palm h_ldg h_vsr h_mtn ?_
    assumption

theorem execLaneSignalDetect_touches {ps : Piece → Prop} {s0 : State} (h_regs : ps .regs) (h_brim : ps .brim) {v0 : Fin 1024} {v1 : Bool} {v2 : State} (h0 : Touches ps s0 v2) :
    Moves ps s0 (execLaneSignalDetect v0 v1 v2) := by
  unfold execLaneSignalDetect
  refine Moves.next ?_
  refine State.running_touches ?_ ?_
  · assumption
  · intro y0
    intro k1
    lift_lets
    intro x2
    clear_value x2
    intro x3
    have hx4 : Touches ps s0 x3 := by
      unfold x3
      refine State.wr_touches h_regs ?_
      assumption
    clear_value x3
    refine Touches.ite ?_ ?_
    · refine setStep_touches h_regs h_brim ?_
      assumption
    · assumption

theorem execAnComplete_touches {ps : Piece → Prop} {s0 : State} (h_regs : ps .regs) (h_out : ps .out) (h_ddr : ps .ddr) (h_poison : ps .poison) (h_host : ps .host) (h_latches : ps .latches) (h_stamps : ps .stamps) (h_brim : ps .brim) (h_palm : ps .palm) (h_ldg : ps .ldg) (h_vsr : ps .vsr) (h_mtn : ps .mtn) {v0 : Fin 1024} {v1 : Bool} {v2 : BitVec 6} {v3 : Bool} {v4 : Bool} {v5 : State} (h0 : Touches ps s0 v5) :
    Moves ps s0 (execAnComplete v0 v1 v2 v3 v4 v5) := by
  unfold execAnComplete
  refine atStep_touches ?_ ?_
  · intro y0
    intro k1
    lift_lets
    intro x2
    clear_value x2
    intro x3
    clear_value x3
    intro x4
    clear_value x4
    intro x5
    clear_value x5
    intro x6
    clear_value x6
    refine Touches.ite ?_ ?_
    · refine enterExchange_touches h_regs h_brim ?_
      assumption
    · split
      · refine halt_touches h_regs h_out h_host h_latches h_stamps h_brim h_mtn ?_
        assumption
      · lift_lets
        intro x7
        clear_value x7
        refine Touches.ite ?_ ?_
        · refine enterRetune_touches h_regs h_out h_host h_brim h_mtn ?_
          assumption
        · refine fallBack_touches h_regs h_out h_ddr h_poison h_host h_latches h_stamps h_brim h_palm h_ldg h_vsr h_mtn ?_
          refine State.putPortRec_touches h_brim ?_
          assumption
  · assumption

theorem execAnTimeout_touches {ps : Piece → Prop} {s0 : State} (h_regs : ps .regs) (h_out : ps .out) (h_ddr : ps .ddr) (h_poison : ps .poison) (h_host : ps .host) (h_latches : ps .latches) (h_stamps : ps .stamps) (h_brim : ps .brim) (h_palm : ps .palm) (h_ldg : ps .ldg) (h_vsr : ps .vsr) (h_mtn : ps .mtn) {v0 : Fin 1024} {v1 : State} (h0 : Touches ps s0 v1) :
    Moves ps s0 (execAnTimeout v0 v1) := by
  unfold execAnTimeout
  refine atStep_touches ?_ ?_
  · intro y0
    intro k1
    refine State.given_touches ?_ ?_
    · assumption
    · intro y2
      intro k3
      refine enterWait_touches h_regs h_out h_ddr h_poison h_host h_latches h_stamps h_brim h_palm h_ldg h_vsr h_mtn ?_
      assumption
  · assumption

theorem execDenoonCapSend_touches {ps : Piece → Prop} {s0 : State} (h_out : ps .out) (h_brim : ps .brim) {v0 : Fin 1024} {v1 : State} (h0 : Touches ps s0 v1) :
    Moves ps s0 (execDenoonCapSend v0 v1) := by
  unfold execDenoonCapSend
  refine atStep_touches ?_ ?_
  · intro y0
    intro k1
    lift_lets
    intro x2
    clear_value x2
    intro x3
    clear_value x3
    refine State.given_touches ?_ ?_
    · assumption
    · intro y4
      intro k5
      refine sendCap_touches h_out h_brim ?_
      refine State.putPortRec_touches h_brim ?_
      assumption
  · assumption

theorem execRetune_touches {ps : Piece → Prop} {s0 : State} (h_regs : ps .regs) (h_out : ps .out) (h_host : ps .host) (h_brim : ps .brim) (h_mtn : ps .mtn) {v0 : Fin 1024} {v1 : State} (h0 : Touches ps s0 v1) :
    Moves ps s0 (execRetune v0 v1) := by
  unfold execRetune
  refine atStep_touches ?_ ?_
  · intro y0
    intro k1
    lift_lets
    intro x2
    clear_value x2
    refine State.given_touches ?_ ?_
    · assumption
    · intro y3
      intro k4
      refine enterRetune_touches h_regs h_out h_host h_brim h_mtn ?_
      assumption
  · assumption

theorem execTrainingTimeout_touches {ps : Piece → Prop} {s0 : State} (h_regs : ps .regs) (h_out : ps .out) (h_ddr : ps .ddr) (h_poison : ps .poison) (h_host : ps .host) (h_latches : ps .latches) (h_stamps : ps .stamps) (h_brim : ps .brim) (h_palm : ps .palm) (h_ldg : ps .ldg) (h_vsr : ps .vsr) (h_mtn : ps .mtn) {v0 : Fin 1024} {v1 : State} (h0 : Touches ps s0 v1) :
    Moves ps s0 (execTrainingTimeout v0 v1) := by
  unfold execTrainingTimeout
  refine atStep_touches ?_ ?_
  · intro y0
    intro k1
    refine State.given_touches ?_ ?_
    · assumption
    · intro y2
      intro k3
      refine fallBack_touches h_regs h_out h_ddr h_poison h_host h_latches h_stamps h_brim h_palm h_ldg h_vsr h_mtn ?_
      assumption
  · assumption

theorem execLineError_touches {ps : Piece → Prop} {s0 : State} (h_regs : ps .regs) (h_out : ps .out) (h_ddr : ps .ddr) (h_poison : ps .poison) (h_host : ps .host) (h_latches : ps .latches) (h_stamps : ps .stamps) (h_brim : ps .brim) (h_palm : ps .palm) (h_ldg : ps .ldg) (h_vsr : ps .vsr) (h_mtn : ps .mtn) {v0 : Fin 1024} {v1 : Fin 3} {v2 : State} (h0 : Touches ps s0 v2) :
    Moves ps s0 (execLineError v0 v1 v2) := by
  unfold execLineError
  refine Moves.next ?_
  refine State.running_touches ?_ ?_
  · assumption
  · intro y0
    intro k1
    lift_lets
    intro x2
    clear_value x2
    intro x3
    clear_value x3
    refine State.given_touches ?_ ?_
    · assumption
    · intro y4
      intro k5
      lift_lets
      intro x6
      have hx7 : Touches ps s0 x6 := by
        unfold x6
        refine Touches.ite ?_ ?_
        · refine State.raise_touches h_regs h_out h_host h_latches ?_
          refine State.count_touches h_regs h_vsr ?_
          assumption
        · refine Touches.ite ?_ ?_
          · refine State.count_touches h_regs h_vsr ?_
            assumption
          · assumption
      clear_value x6
      refine Touches.ite ?_ ?_
      · refine fallBack_touches h_regs h_out h_ddr h_poison h_host h_latches h_stamps h_brim h_palm h_ldg h_vsr h_mtn ?_
        assumption
      · assumption

theorem execLaneLockLoss_touches {ps : Piece → Prop} {s0 : State} (h_regs : ps .regs) (h_out : ps .out) (h_ddr : ps .ddr) (h_poison : ps .poison) (h_host : ps .host) (h_latches : ps .latches) (h_stamps : ps .stamps) (h_brim : ps .brim) (h_tbl : ps .tbl) (h_palm : ps .palm) (h_timing : ps .timing) (h_ldg : ps .ldg) (h_vsr : ps .vsr) (h_mtn : ps .mtn) {v0 : Fin 1024} {v1 : Bool} {v2 : State} (h0 : Touches ps s0 v2) :
    Moves ps s0 (execLaneLockLoss v0 v1 v2) := by
  unfold execLaneLockLoss
  refine Moves.next ?_
  refine State.running_touches ?_ ?_
  · assumption
  · intro y0
    intro k1
    refine lockLoss_touches h_regs h_out h_ddr h_poison h_host h_latches h_stamps h_brim h_tbl h_palm h_timing h_ldg h_vsr h_mtn ?_
    assumption

theorem execLinkDown_touches {ps : Piece → Prop} {s0 : State} (h_regs : ps .regs) (h_out : ps .out) (h_ddr : ps .ddr) (h_poison : ps .poison) (h_host : ps .host) (h_latches : ps .latches) (h_stamps : ps .stamps) (h_brim : ps .brim) (h_palm : ps .palm) (h_ldg : ps .ldg) (h_vsr : ps .vsr) (h_mtn : ps .mtn) {v0 : Fin 1024} {v1 : State} (h0 : Touches ps s0 v1) :
    Moves ps s0 (execLinkDown v0 v1) := by
  unfold execLinkDown
  refine atStep_touches ?_ ?_
  · intro y0
    intro k1
    refine State.given_touches ?_ ?_
    · assumption
    · intro y2
      intro k3
      refine linkDown_touches h_regs h_out h_ddr h_poison h_host h_latches h_stamps h_brim h_palm h_ldg h_vsr h_mtn ?_
      assumption
  · assumption

theorem execPreemptVerifyAttempt_touches {ps : Piece → Prop} {s0 : State} (h_regs : ps .regs) (h_out : ps .out) (h_host : ps .host) (h_latches : ps .latches) (h_brim : ps .brim) {v0 : Fin 1024} {v1 : State} (h0 : Touches ps s0 v1) :
    Moves ps s0 (execPreemptVerifyAttempt v0 v1) := by
  unfold execPreemptVerifyAttempt
  refine Moves.next ?_
  refine State.running_touches ?_ ?_
  · assumption
  · intro y0
    intro k1
    lift_lets
    intro x2
    clear_value x2
    intro x3
    clear_value x3
    intro x4
    clear_value x4
    refine State.given_touches ?_ ?_
    · assumption
    · intro y5
      intro k6
      refine Touches.ite ?_ ?_
      · refine State.raise_touches h_regs h_out h_host h_latches ?_
        refine showPreempt_touches h_regs h_out h_host ?_
        refine State.putPortRec_touches h_brim ?_
        assumption
      · refine showPreempt_touches h_regs h_out h_host ?_
        refine State.putPortRec_touches h_brim ?_
        refine State.send_touches h_out ?_
        assumption

theorem execEyeRefresh_touches {ps : Piece → Prop} {s0 : State} (h_regs : ps .regs) (h_brim : ps .brim) {v0 : Fin 1024} {v1 : BitVec 16} {v2 : BitVec 16} {v3 : State} (h0 : Touches ps s0 v3) :
    Moves ps s0 (execEyeRefresh v0 v1 v2 v3) := by
  unfold execEyeRefresh
  refine Moves.next ?_
  refine State.running_touches ?_ ?_
  · assumption
  · intro y0
    intro k1
    lift_lets
    intro x2
    clear_value x2
    intro x3
    clear_value x3
    intro x4
    clear_value x4
    refine State.given_touches ?_ ?_
    · assumption
    · intro y5
      intro k6
      lift_lets
      intro x7
      clear_value x7
      refine State.wr_touches h_regs ?_
      refine State.wr_touches h_regs ?_
      refine (Touches.upd_brim h_brim ?_)
      assumption

end Sys2Proof.Machine
end

