-- ==== Sys2Proof/Laws/TouchTableCmds.lean ====
section
/-! SUPPORT. What the operations of Machine/TableCmds.lean may touch: one lemma for each. -/

set_option maxRecDepth 10000

namespace Sys2Proof.Machine

theorem cqError_touches {ps : Piece → Prop} {s0 : State} (h_regs : ps .regs) (h_out : ps .out) (h_host : ps .host) (h_latches : ps .latches) {v0 : ℕ} {v1 : Bool} {v2 : State} (h0 : Touches ps s0 v2) :
    Touches ps s0 (cqError v0 v1 v2) := by
  unfold cqError
  lift_lets
  intro x0
  clear_value x0
  refine State.raise_touches h_regs h_out h_host h_latches ?_
  refine State.raise_touches h_regs h_out h_host h_latches ?_
  refine State.set1_touches h_regs h_latches ?_
  refine State.set1_touches h_regs h_latches ?_
  assumption

theorem showCq_touches {ps : Piece → Prop} {s0 : State} (h_regs : ps .regs) {v0 : ℕ} {v1 : State} (h0 : Touches ps s0 v1) :
    Touches ps s0 (showCq v0 v1) := by
  unfold showCq
  refine State.wr_touches h_regs ?_
  refine State.wr_touches h_regs ?_
  assumption

theorem State.putCq_touches {ps : Piece → Prop} {s0 : State} (h_tbl : ps .tbl) {v0 : State} {v1 : ℕ} {v2 : Cq} (h0 : Touches ps s0 v0) :
    Touches ps s0 (State.putCq v0 v1 v2) := by
  unfold State.putCq
  lift_lets
  intro x0
  clear_value x0
  refine (Touches.upd_tbl h_tbl ?_)
  assumption

theorem cutCq_touches {ps : Piece → Prop} {s0 : State} (h_regs : ps .regs) (h_out : ps .out) (h_host : ps .host) (h_latches : ps .latches) (h_tbl : ps .tbl) {v0 : ℕ} {v1 : State} (h0 : Touches ps s0 v1) :
    Touches ps s0 (cutCq v0 v1) := by
  unfold cutCq
  lift_lets
  intro x0
  clear_value x0
  refine cqError_touches h_regs h_out h_host h_latches ?_
  refine showCq_touches h_regs ?_
  refine State.putCq_touches h_tbl ?_
  assumption

theorem fetchPosted_touches {ps : Piece → Prop} {s0 : State} (h_regs : ps .regs) (h_out : ps .out) (h_host : ps .host) (h_latches : ps .latches) (h_tbl : ps .tbl) {v0 : ℕ} {v1 : State} (h0 : Touches ps s0 v1) :
    Touches ps s0 (fetchPosted v0 v1) := by
  unfold fetchPosted
  refine Touches.ite ?_ ?_
  · lift_lets
    intro x0
    clear_value x0
    intro x1
    clear_value x1
    refine Touches.ite ?_ ?_
    · refine Touches.ite ?_ ?_
      · assumption
      · refine cutCq_touches h_regs h_out h_host h_latches h_tbl ?_
        assumption
    · refine showCq_touches h_regs ?_
      refine State.putCq_touches h_tbl ?_
      assumption
  · assumption

theorem finish_touches {ps : Piece → Prop} {s0 : State} (h_regs : ps .regs) (h_out : ps .out) (h_host : ps .host) (h_latches : ps .latches) (h_tbl : ps .tbl) {v0 : ℕ} {v1 : Completion} {v2 : State} (h0 : Touches ps s0 v2) :
    Touches ps s0 (finish v0 v1 v2) := by
  unfold finish
  split
  · assumption
  · refine Touches.ite ?_ ?_
    · refine cutCq_touches h_regs h_out h_host h_latches h_tbl ?_
      assumption
    · lift_lets
      intro x0
      clear_value x0
      intro x1
      clear_value x1
      intro x2
      clear_value x2
      intro x3
      have hx4 : ∀ a0 a1 a2, Touches ps s0 a2 → Touches ps s0 (x3 a0 a1 a2) := by
        intro y5
        intro y6
        intro y7
        intro k8
        unfold x3
        split
        · refine State.send_touches h_out ?_
          assumption
        · assumption
      clear_value x3
      intro x9
      clear_value x9
      intro x10
      have hx11 : Touches ps s0 x10 := by
        unfold x10
        refine hx4 _ _ _ ?_
        refine hx4 _ _ _ ?_
        refine hx4 _ _ _ ?_
        refine hx4 _ _ _ ?_
        assumption
      clear_value x10
      intro x12
      clear_value x12
      intro x13
      have hx14 : Touches ps s0 x13 := by
        unfold x13
        refine State.wr_touches h_regs ?_
        refine State.putCq_touches h_tbl ?_
        assumption
      clear_value x13
      intro x15
      have hx16 : Touches ps s0 x15 := by
        unfold x15
        refine showCq_touches h_regs ?_
        assumption
      clear_value x15
      intro x17
      have hx18 : Touches ps s0 x17 := by
        unfold x17
        refine Touches.ite ?_ ?_
        · assumption
        · refine State.vector_touches h_out h_host ?_
          assumption
      clear_value x17
      refine Touches.foldl (fun _ _ _ => ?_) ?_
      · refine fetchPosted_touches h_regs h_out h_host h_latches h_tbl ?_
        assumption
      · assumption

theorem skipUnknown_touches {ps : Piece → Prop} {s0 : State} (h_regs : ps .regs) (h_out : ps .out) (h_host : ps .host) (h_latches : ps .latches) (h_tbl : ps .tbl) {v0 : ℕ} {v1 : ℕ} {v2 : State} (h0 : Touches ps s0 v2) :
    Touches ps s0 (skipUnknown v0 v1 v2) := by
  induction v1 generalizing v2 with
  | zero => exact h0
  | succ n ih =>
    unfold skipUnknown
    split
    · exact h0
    · exact Touches.ite h0 (ih (by apply finish_touches <;> assumption))

theorem pump_touches {ps : Piece → Prop} {s0 : State} (h_regs : ps .regs) (h_out : ps .out) (h_host : ps .host) (h_latches : ps .latches) (h_tbl : ps .tbl) {v0 : State} (h0 : Touches ps s0 v0) :
    Touches ps s0 (pump v0) := by
  unfold pump
  refine Touches.foldl (fun _ _ _ => ?_) ?_
  · refine skipUnknown_touches h_regs h_out h_host h_latches h_tbl ?_
    assumption
  · assumption

theorem complete_touches {ps : Piece → Prop} {s0 : State} (h_regs : ps .regs) (h_out : ps .out) (h_host : ps .host) (h_latches : ps .latches) (h_tbl : ps .tbl) {v0 : ℕ} {v1 : Completion} {v2 : State} (h0 : Touches ps s0 v2) :
    Touches ps s0 (complete v0 v1 v2) := by
  unfold complete
  refine pump_touches h_regs h_out h_host h_latches h_tbl ?_
  refine finish_touches h_regs h_out h_host h_latches h_tbl ?_
  assumption

theorem openEpoch_touches {ps : Piece → Prop} {s0 : State} (h_regs : ps .regs) (h_tbl : ps .tbl) {v0 : State} (h0 : Touches ps s0 v0) :
    Touches ps s0 (openEpoch v0) := by
  unfold openEpoch
  refine Touches.ite ?_ ?_
  · assumption
  · lift_lets
    intro x0
    clear_value x0
    refine State.wr_touches h_regs ?_
    refine (Touches.upd_tbl h_tbl ?_)
    assumption

theorem State.planEmt_touches {ps : Piece → Prop} {s0 : State} (h_regs : ps .regs) (h_out : ps .out) (h_host : ps .host) (h_latches : ps .latches) (h_tbl : ps .tbl) {v0 : State} {v1 : ℕ} {v2 : Bool} {v3 : List Byte} {v4 : List ℕ} (h0 : Touches ps s0 v0) :
    ∀ t, v0.planEmt v1 v2 v3 v4 = .ok t → Touches ps s0 t.2 := by
  intro t ht
  unfold State.planEmt at ht
  dsimp only at ht
  split at ht
  · split at ht
    · split at ht
      · split at ht <;> cases ht
      · cases ht
    · split at ht
      · cases ht
      · rename_i he
        cases ht
        exact State.emtRoom_touches (ps := ps) (s0 := s0) h_regs h_out h_host h_latches h_tbl h0 _ he
  · split at ht
    · cases ht
    · split at ht
      · cases ht
      · split at ht
        · cases ht
        · cases ht
          exact h0

theorem followShift_touches {ps : Piece → Prop} {s0 : State} (h_tbl : ps .tbl) {v0 : State} {v1 : State} (h0 : Touches ps s0 v0) (h1 : Touches ps s0 v1) :
    Touches ps s0 (followShift v0 v1) := by
  unfold followShift
  lift_lets
  intro x0
  clear_value x0
  intro x1
  clear_value x1
  refine Touches.foldl (fun _ _ _ => ?_) ?_
  · split
    · refine toShadow_touches h_tbl ?_
      assumption
    · split
      · refine Touches.ite ?_ ?_
        · assumption
        · refine moved_touches h_tbl ?_
          assumption
      · assumption
  · assumption

theorem State.planLpa_touches {ps : Piece → Prop} {s0 : State} (h_regs : ps .regs) (h_latches : ps .latches) (h_tbl : ps .tbl) {v0 : State} {v1 : ℕ} {v2 : Bool} {v3 : List Byte} {v4 : ℕ} (h0 : Touches ps s0 v0) :
    ∀ t, v0.planLpa v1 v2 v3 v4 = .ok t → Touches ps s0 t.2 := by
  intro t ht
  unfold State.planLpa at ht
  dsimp only at ht
  split at ht
  · cases ht
  · split at ht
    · split at ht
      · split at ht
        · split at ht <;> cases ht
        · cases ht
      · split at ht
        · cases ht
        · rename_i he
          cases ht
          have hr := State.lpaRoom_touches (ps := ps) (s0 := s0) h_regs h_latches h_tbl h0 _ he
          apply followShift_touches <;> assumption
    · split at ht
      · cases ht
      · split at ht
        · cases ht
        · split at ht
          · cases ht
          · cases ht
            exact h0

theorem State.planCla_touches {ps : Piece → Prop} {s0 : State} {v0 : State} {v1 : ℕ} {v2 : Bool} {v3 : List Byte} (h0 : Touches ps s0 v0) :
    ∀ t, v0.planCla v1 v2 v3 = .ok t → Touches ps s0 t.2 := by
  intro t ht
  unfold State.planCla at ht
  dsimp only at ht
  repeat' split at ht
  all_goals first
    | (cases ht; done)
    | (cases ht; exact h0)

theorem State.plan_touches {ps : Piece → Prop} {s0 : State} (h_regs : ps .regs) (h_out : ps .out) (h_host : ps .host) (h_latches : ps .latches) (h_tbl : ps .tbl) {v0 : State} {v1 : ℕ} {v2 : Bool} {v3 : List Byte} {v4 : List ℕ} {v5 : ℕ} (h0 : Touches ps s0 v0) :
    ∀ t, v0.plan v1 v2 v3 v4 v5 = .ok t → Touches ps s0 t.2 := by
  intro t ht
  unfold State.plan at ht
  split at ht
  · exact State.planEmt_touches h_regs h_out h_host h_latches h_tbl h0 t ht
  · exact State.planLpa_touches h_regs h_latches h_tbl h0 t ht
  · exact State.planCla_touches h0 t ht
  · cases ht

theorem stageRow_touches {ps : Piece → Prop} {s0 : State} (h_regs : ps .regs) (h_out : ps .out) (h_host : ps .host) (h_latches : ps .latches) (h_tbl : ps .tbl) {v0 : ℕ} {v1 : Row} {v2 : State} (h0 : Touches ps s0 v2) :
    Touches ps s0 (stageRow v0 v1 v2) := by
  unfold stageRow
  lift_lets
  intro x0
  clear_value x0
  intro x1
  clear_value x1
  intro x2
  clear_value x2
  intro x3
  have hx4 : Touches ps s0 x3 := by
    unfold x3
    split
    · refine State.putEmt_touches h_regs h_out h_host h_latches h_tbl ?_
      assumption
    · refine State.putLpa_touches h_regs h_tbl ?_
      assumption
    · refine State.putCla_touches h_tbl ?_
      assumption
  clear_value x3
  intro x5
  clear_value x5
  intro x6
  clear_value x6
  refine Touches.ite ?_ ?_
  · assumption
  · refine (Touches.upd_tbl h_tbl ?_)
    assumption

theorem stageChange_touches {ps : Piece → Prop} {s0 : State} (h_regs : ps .regs) (h_out : ps .out) (h_host : ps .host) (h_latches : ps .latches) (h_tbl : ps .tbl) {v0 : ℕ} {v1 : ℕ} {v2 : List Byte} {v3 : List ℕ} {v4 : ℕ} {v5 : State} (h0 : Touches ps s0 v5) :
    Touches ps s0 (stageChange v0 v1 v2 v3 v4 v5) := by
  unfold stageChange
  refine Touches.ite ?_ ?_
  · refine complete_touches h_regs h_out h_host h_latches h_tbl ?_
    assumption
  · lift_lets
    intro x0
    have hx1 : Touches ps s0 x0 := by
      unfold x0
      refine openEpoch_touches h_regs h_tbl ?_
      assumption
    clear_value x0
    intro x2
    have hx3 : ∀ a0, Touches ps s0 (x2 a0) := by
      intro y4
      unfold x2
      refine complete_touches h_regs h_out h_host h_latches h_tbl ?_
      refine State.bump_touches h_regs h_latches ?_
      assumption
    clear_value x2
    refine Touches.ite ?_ ?_
    · refine hx3 _
    · refine Touches.ite ?_ ?_
      · refine hx3 _
      · split
        · refine hx3 _
        · assumption
        · lift_lets
          intro x5
          have hx6 : Touches ps s0 x5 := by
            unfold x5
            refine Touches.foldl (fun _ _ _ => ?_) ?_
            · refine stageRow_touches h_regs h_out h_host h_latches h_tbl ?_
              assumption
            · refine Touches.of_ok_snd (by assumption) ?_
              refine State.plan_touches h_regs h_out h_host h_latches h_tbl ?_
              assumption
          clear_value x5
          refine complete_touches h_regs h_out h_host h_latches h_tbl ?_
          refine State.wr_touches h_regs ?_
          assumption

theorem putRow_touches {ps : Piece → Prop} {s0 : State} (h_regs : ps .regs) (h_out : ps .out) (h_host : ps .host) (h_latches : ps .latches) (h_tbl : ps .tbl) {v0 : ℕ} {v1 : Row} {v2 : ℕ} {v3 : State} (h0 : Touches ps s0 v3) :
    Touches ps s0 (putRow v0 v1 v2 v3) := by
  unfold putRow
  lift_lets
  intro x0
  clear_value x0
  split
  · split
    · refine dropHold_touches h_regs h_tbl ?_
      refine State.putEmt_touches h_regs h_out h_host h_latches h_tbl ?_
      assumption
    · dsimp only [id]
      refine State.putEmt_touches h_regs h_out h_host h_latches h_tbl ?_
      assumption
  · refine State.putLpa_touches h_regs h_tbl ?_
    assumption
  · refine showCla_touches h_regs ?_
    refine State.putCla_touches h_tbl ?_
    assumption

theorem await_touches {ps : Piece → Prop} {s0 : State} (h_regs : ps .regs) (h_out : ps .out) (h_host : ps .host) (h_latches : ps .latches) (h_tbl : ps .tbl) {v0 : ℕ} {v1 : CqDone} {v2 : State} (h0 : Touches ps s0 v2) :
    Touches ps s0 (await v0 v1 v2) := by
  unfold await
  refine Touches.ite ?_ ?_
  · refine complete_touches h_regs h_out h_host h_latches h_tbl ?_
    assumption
  · lift_lets
    intro x0
    clear_value x0
    refine State.putCq_touches h_tbl ?_
    refine Touches.foldl (fun _ _ _ => ?_) ?_
    · refine toShadow_touches h_tbl ?_
      assumption
    · assumption

theorem commitChange_touches {ps : Piece → Prop} {s0 : State} (h_regs : ps .regs) (h_out : ps .out) (h_host : ps .host) (h_latches : ps .latches) (h_tbl : ps .tbl) {v0 : ℕ} {v1 : ℕ} {v2 : List Byte} {v3 : List ℕ} {v4 : ℕ} {v5 : State} (h0 : Touches ps s0 v5) :
    Touches ps s0 (commitChange v0 v1 v2 v3 v4 v5) := by
  unfold commitChange
  refine Touches.ite ?_ ?_
  · refine complete_touches h_regs h_out h_host h_latches h_tbl ?_
    assumption
  · split
    · refine complete_touches h_regs h_out h_host h_latches h_tbl ?_
      assumption
    · assumption
    · refine Touches.ite ?_ ?_
      · assumption
      · lift_lets
        intro x0
        have hx1 : Touches ps s0 x0 := by
          unfold x0
          refine stepGen_touches h_regs ?_
          refine Touches.of_ok_snd (by assumption) ?_
          refine State.plan_touches h_regs h_out h_host h_latches h_tbl ?_
          assumption
        clear_value x0
        intro x2
        have hx3 : Touches ps s0 x2 := by
          unfold x2
          refine Touches.foldl (fun _ _ _ => ?_) ?_
          · refine putRow_touches h_regs h_out h_host h_latches h_tbl ?_
            assumption
          · assumption
        clear_value x2
        refine await_touches h_regs h_out h_host h_latches h_tbl ?_
        assumption

theorem changeCmd_touches {ps : Piece → Prop} {s0 : State} (h_regs : ps .regs) (h_out : ps .out) (h_host : ps .host) (h_latches : ps .latches) (h_tbl : ps .tbl) {v0 : ℕ} {v1 : ℕ} {v2 : List ℕ} {v3 : ℕ} {v4 : List Byte} {v5 : State} (h0 : Touches ps s0 v5) :
    Touches ps s0 (changeCmd v0 v1 v2 v3 v4 v5) := by
  unfold changeCmd
  refine Touches.ite ?_ ?_
  · refine stageChange_touches h_regs h_out h_host h_latches h_tbl ?_
    assumption
  · refine commitChange_touches h_regs h_out h_host h_latches h_tbl ?_
    assumption

theorem unstage_touches {ps : Piece → Prop} {s0 : State} (h_regs : ps .regs) (h_out : ps .out) (h_host : ps .host) (h_latches : ps .latches) (h_tbl : ps .tbl) {v0 : ℕ} {v1 : ℕ} {v2 : State} (h0 : Touches ps s0 v2) :
    Touches ps s0 (unstage v0 v1 v2) := by
  unfold unstage
  split
  · lift_lets
    intro x0
    clear_value x0
    refine State.putEmt_touches h_regs h_out h_host h_latches h_tbl ?_
    assumption
  · lift_lets
    intro x1
    clear_value x1
    refine State.putLpa_touches h_regs h_tbl ?_
    assumption
  · lift_lets
    intro x2
    clear_value x2
    refine State.putCla_touches h_tbl ?_
    assumption

theorem discardEpoch_touches {ps : Piece → Prop} {s0 : State} (h_regs : ps .regs) (h_out : ps .out) (h_host : ps .host) (h_latches : ps .latches) (h_tbl : ps .tbl) {v0 : State} (h0 : Touches ps s0 v0) :
    Touches ps s0 (discardEpoch v0) := by
  unfold discardEpoch
  lift_lets
  intro x0
  have hx1 : Touches ps s0 x0 := by
    unfold x0
    refine Touches.foldl (fun _ _ _ => ?_) ?_
    · refine unstage_touches h_regs h_out h_host h_latches h_tbl ?_
      assumption
    · assumption
  clear_value x0
  intro x2
  clear_value x2
  intro x3
  have hx4 : Touches ps s0 x3 := by
    unfold x3
    refine State.wr_touches h_regs ?_
    refine State.wr_touches h_regs ?_
    refine State.wr_touches h_regs ?_
    refine (Touches.upd_tbl h_tbl ?_)
    assumption
  clear_value x3
  refine Touches.ite ?_ ?_
  · assumption
  · refine State.vector_touches h_out h_host ?_
    assumption

theorem execCqFetchErr_touches {ps : Piece → Prop} {s0 : State} (h_regs : ps .regs) (h_out : ps .out) (h_host : ps .host) (h_latches : ps .latches) {v0 : Fin 16} {v1 : Bool} {v2 : State} (h0 : Touches ps s0 v2) :
    Moves ps s0 (execCqFetchErr v0 v1 v2) := by
  unfold execCqFetchErr
  refine Moves.next ?_
  refine State.running_touches ?_ ?_
  · assumption
  · intro y0
    intro k1
    refine State.given_touches ?_ ?_
    · assumption
    · intro y2
      intro k3
      refine cqError_touches h_regs h_out h_host h_latches ?_
      assumption

theorem reload_touches {ps : Piece → Prop} {s0 : State} (h_regs : ps .regs) (h_out : ps .out) (h_host : ps .host) (h_latches : ps .latches) (h_tbl : ps .tbl) {v0 : ℕ} {v1 : ℕ} {v2 : State} (h0 : Touches ps s0 v2) :
    Touches ps s0 (reload v0 v1 v2) := by
  unfold reload
  split
  · lift_lets
    intro x0
    clear_value x0
    intro x1
    clear_value x1
    intro x2
    clear_value x2
    intro x3
    have hx4 : Touches ps s0 x3 := by
      unfold x3
      refine State.putEmt_touches h_regs h_out h_host h_latches h_tbl ?_
      assumption
    clear_value x3
    refine Touches.ite ?_ ?_
    · assumption
    · split
      refine notify_touches h_regs h_out h_host h_latches ?_
      refine State.bump_touches h_regs h_latches ?_
      assumption
  · lift_lets
    intro x5
    clear_value x5
    refine State.putLpa_touches h_regs h_tbl ?_
    assumption
  · lift_lets
    intro x6
    clear_value x6
    refine showCla_touches h_regs ?_
    refine State.putCla_touches h_tbl ?_
    assumption

theorem onCommand_touches {ps : Piece → Prop} {s0 : State} {v0 : ℕ} {v1 : ℕ} {v2 : List Byte → State → State} {v3 : State} (h0 : ∀ a0 a1, Touches ps s0 a1 → Touches ps s0 (v2 a0 a1)) (h1 : Touches ps s0 v3) :
    Touches ps s0 (onCommand v0 v1 v2 v3) := by
  unfold onCommand
  refine State.running_touches ?_ ?_
  · assumption
  · intro y0
    intro k1
    split
    · refine h0 _ _ ?_
      assumption
    · assumption

theorem nextOf_touches {ps : Piece → Prop} {s0 : State} (h_regs : ps .regs) (h_out : ps .out) (h_host : ps .host) (h_latches : ps .latches) (h_tbl : ps .tbl) {v0 : ℕ} {v1 : List Byte} {v2 : State} (h0 : Touches ps s0 v2) :
    Touches ps s0 (nextOf v0 v1 v2) := by
  unfold nextOf
  lift_lets
  intro x0
  clear_value x0
  intro x1
  clear_value x1
  refine complete_touches h_regs h_out h_host h_latches h_tbl ?_
  refine State.putCq_touches h_tbl ?_
  assumption

theorem passEmt_touches {ps : Piece → Prop} {s0 : State} (h_regs : ps .regs) (h_out : ps .out) (h_host : ps .host) (h_latches : ps .latches) (h_tbl : ps .tbl) {v0 : ℕ} {v1 : EmtEntry → Bool} {v2 : State} (h0 : Touches ps s0 v2) :
    Touches ps s0 (passEmt v0 v1 v2) := by
  unfold passEmt
  lift_lets
  intro x0
  clear_value x0
  intro x1
  have hx2 : Touches ps s0 x1 := by
    unfold x1
    refine Touches.foldl (fun _ _ _ => ?_) ?_
    · refine removeEmt_touches h_regs h_out h_host h_latches h_tbl ?_
      assumption
    · assumption
  clear_value x1
  refine await_touches h_regs h_out h_host h_latches h_tbl ?_
  assumption

theorem flushCmd_touches {ps : Piece → Prop} {s0 : State} (h_regs : ps .regs) (h_out : ps .out) (h_host : ps .host) (h_latches : ps .latches) (h_tbl : ps .tbl) {v0 : ℕ} {v1 : List Byte} {v2 : State} (h0 : Touches ps s0 v2) :
    Touches ps s0 (flushCmd v0 v1 v2) := by
  unfold flushCmd
  refine Touches.ite ?_ ?_
  · refine complete_touches h_regs h_out h_host h_latches h_tbl ?_
    assumption
  · refine passEmt_touches h_regs h_out h_host h_latches h_tbl ?_
    assumption

theorem sweepCmd_touches {ps : Piece → Prop} {s0 : State} (h_regs : ps .regs) (h_out : ps .out) (h_host : ps .host) (h_latches : ps .latches) (h_tbl : ps .tbl) {v0 : ℕ} {v1 : List Byte} {v2 : State} (h0 : Touches ps s0 v2) :
    Touches ps s0 (sweepCmd v0 v1 v2) := by
  unfold sweepCmd
  refine Touches.ite ?_ ?_
  · refine complete_touches h_regs h_out h_host h_latches h_tbl ?_
    assumption
  · refine passEmt_touches h_regs h_out h_host h_latches h_tbl ?_
    assumption

theorem epochEffect_touches {ps : Piece → Prop} {s0 : State} (h_regs : ps .regs) (h_out : ps .out) (h_host : ps .host) (h_latches : ps .latches) (h_ucs : ps .ucs) (h_tbl : ps .tbl) (h_vsr : ps .vsr) {v0 : State} (h0 : Touches ps s0 v0) :
    Touches ps s0 (epochEffect v0) := by
  unfold epochEffect
  lift_lets
  intro x0
  clear_value x0
  intro x1
  have hx2 : Touches ps s0 x1 := by
    unfold x1
    refine stepGen_touches h_regs ?_
    assumption
  clear_value x1
  intro x3
  have hx4 : Touches ps s0 x3 := by
    unfold x3
    refine Touches.foldl (fun _ _ _ => ?_) ?_
    · split
      · refine putRow_touches h_regs h_out h_host h_latches h_tbl ?_
        assumption
      · assumption
    · assumption
  clear_value x3
  intro x5
  have hx6 : Touches ps s0 x5 := by
    unfold x5
    refine Touches.foldl (fun _ _ _ => ?_) ?_
    · refine switchBank_touches h_regs h_out h_host h_ucs ?_
      assumption
    · assumption
  clear_value x5
  intro x7
  clear_value x7
  intro x8
  have hx9 : Touches ps s0 x8 := by
    unfold x8
    refine (Touches.upd_tbl h_tbl ?_)
    assumption
  clear_value x8
  intro x10
  have hx11 : Touches ps s0 x10 := by
    unfold x10
    refine State.wrPair_touches h_regs ?_
    assumption
  clear_value x10
  intro x12
  have hx13 : Touches ps s0 x12 := by
    unfold x12
    refine State.wr_touches h_regs ?_
    refine State.wr_touches h_regs ?_
    assumption
  clear_value x12
  intro x14
  have hx15 : Touches ps s0 x14 := by
    unfold x14
    refine Touches.ite ?_ ?_
    · refine State.set1_touches h_regs h_latches ?_
      assumption
    · assumption
  clear_value x14
  refine Touches.ite ?_ ?_
  · assumption
  · refine State.vector_touches h_out h_host ?_
    refine State.count_touches h_regs h_vsr ?_
    assumption

theorem runAct_touches {ps : Piece → Prop} {s0 : State} (h_regs : ps .regs) (h_out : ps .out) (h_host : ps .host) (h_latches : ps .latches) (h_ucs : ps .ucs) (h_tbl : ps .tbl) (h_vsr : ps .vsr) {v0 : TableAct} {v1 : State} (h0 : Touches ps s0 v1) :
    Touches ps s0 (runAct v0 v1) := by
  unfold runAct
  split
  · refine onCommand_touches ?_ ?_
    · intro y0
      intro y1
      intro k2
      split
      · refine complete_touches h_regs h_out h_host h_latches h_tbl ?_
        assumption
      · refine nextOf_touches h_regs h_out h_host h_latches h_tbl ?_
        assumption
      · refine flushCmd_touches h_regs h_out h_host h_latches h_tbl ?_
        assumption
      · refine sweepCmd_touches h_regs h_out h_host h_latches h_tbl ?_
        assumption
      · refine changeCmd_touches h_regs h_out h_host h_latches h_tbl ?_
        assumption
    · assumption
  · refine State.running_touches ?_ ?_
    · assumption
    · intro y3
      intro k4
      refine State.given_touches ?_ ?_
      · assumption
      · intro y5
        intro k6
        refine epochEffect_touches h_regs h_out h_host h_latches h_ucs h_tbl h_vsr ?_
        assumption
  · refine State.running_touches ?_ ?_
    · assumption
    · intro y7
      intro k8
      refine learnNext_touches h_regs h_out h_host h_latches h_tbl h_vsr ?_
      assumption
  · refine State.running_touches ?_ ?_
    · assumption
    · intro y9
      intro k10
      refine stashBack_touches h_regs h_out h_host h_latches h_tbl ?_
      assumption
  · refine State.running_touches ?_ ?_
    · assumption
    · intro y11
      intro k12
      refine sweepVisit_touches h_regs h_out h_host h_latches h_tbl h_vsr ?_
      assumption

theorem runActs_touches {ps : Piece → Prop} {s0 : State} (h_regs : ps .regs) (h_out : ps .out) (h_host : ps .host) (h_latches : ps .latches) (h_ucs : ps .ucs) (h_tbl : ps .tbl) (h_vsr : ps .vsr) {v0 : ℕ} {v1 : State} (h0 : Touches ps s0 v1) :
    Touches ps s0 (runActs v0 v1) := by
  induction v0 generalizing v1 with
  | zero => exact h0
  | succ n ih =>
    unfold runActs
    split
    · refine ih ?_
      apply runAct_touches
      all_goals first
        | assumption
        | exact Touches.upd_tbl (by assumption) h0
    · exact h0

theorem endCycle_touches {ps : Piece → Prop} {s0 : State} (h_regs : ps .regs) (h_out : ps .out) (h_host : ps .host) (h_latches : ps .latches) (h_ucs : ps .ucs) (h_tbl : ps .tbl) (h_vsr : ps .vsr) {v0 : State} (h0 : Touches ps s0 v0) :
    Touches ps s0 (endCycle v0) := by
  unfold endCycle
  refine Touches.ite ?_ ?_
  · refine runActs_touches h_regs h_out h_host h_latches h_ucs h_tbl h_vsr ?_
    assumption
  · assumption

theorem tableAct_touches {ps : Piece → Prop} {s0 : State} (h_regs : ps .regs) (h_out : ps .out) (h_host : ps .host) (h_latches : ps .latches) (h_ucs : ps .ucs) (h_tbl : ps .tbl) (h_vsr : ps .vsr) {v0 : TableAct} {v1 : State} (h0 : Touches ps s0 v1) :
    Touches ps s0 (tableAct v0 v1) := by
  unfold tableAct
  lift_lets
  intro x0
  clear_value x0
  refine endCycle_touches h_regs h_out h_host h_latches h_ucs h_tbl h_vsr ?_
  refine Touches.ite ?_ ?_
  · refine (Touches.upd_tbl h_tbl ?_)
    assumption
  · refine runAct_touches h_regs h_out h_host h_latches h_ucs h_tbl h_vsr ?_
    assumption

theorem execStashMoveBack_touches {ps : Piece → Prop} {s0 : State} (h_regs : ps .regs) (h_out : ps .out) (h_host : ps .host) (h_latches : ps .latches) (h_ucs : ps .ucs) (h_tbl : ps .tbl) (h_vsr : ps .vsr) {v0 : Fin 64} {v1 : State} (h0 : Touches ps s0 v1) :
    Moves ps s0 (execStashMoveBack v0 v1) := by
  unfold execStashMoveBack
  refine Moves.next ?_
  refine tableAct_touches h_regs h_out h_host h_latches h_ucs h_tbl h_vsr ?_
  assumption

theorem execGenDrainComplete_touches {ps : Piece → Prop} {s0 : State} (h_regs : ps .regs) (h_out : ps .out) (h_host : ps .host) (h_latches : ps .latches) (h_tbl : ps .tbl) {v0 : Fin 16} {v1 : State} (h0 : Touches ps s0 v1) :
    Moves ps s0 (execGenDrainComplete v0 v1) := by
  unfold execGenDrainComplete
  refine Moves.next ?_
  refine State.running_touches ?_ ?_
  · assumption
  · intro y0
    intro k1
    split
    · refine State.given_touches ?_ ?_
      · assumption
      · intro y2
        intro k3
        refine complete_touches h_regs h_out h_host h_latches h_tbl ?_
        assumption
    · assumption

theorem execDelete_touches {ps : Piece → Prop} {s0 : State} (h_regs : ps .regs) (h_out : ps .out) (h_host : ps .host) (h_latches : ps .latches) (h_ucs : ps .ucs) (h_tbl : ps .tbl) (h_vsr : ps .vsr) {v0 : Fin 16} {v1 : State} (h0 : Touches ps s0 v1) :
    Moves ps s0 (execDelete v0 v1) := by
  unfold execDelete
  refine Moves.next ?_
  refine tableAct_touches h_regs h_out h_host h_latches h_ucs h_tbl h_vsr ?_
  assumption

theorem execInsert_touches {ps : Piece → Prop} {s0 : State} (h_regs : ps .regs) (h_out : ps .out) (h_host : ps .host) (h_latches : ps .latches) (h_ucs : ps .ucs) (h_tbl : ps .tbl) (h_vsr : ps .vsr) {v0 : Fin 16} {v1 : List ℕ} {v2 : ℕ} {v3 : State} (h0 : Touches ps s0 v3) :
    Moves ps s0 (execInsert v0 v1 v2 v3) := by
  unfold execInsert
  refine Moves.next ?_
  refine tableAct_touches h_regs h_out h_host h_latches h_ucs h_tbl h_vsr ?_
  assumption

theorem execEpochAbort_touches {ps : Piece → Prop} {s0 : State} (h_regs : ps .regs) (h_out : ps .out) (h_host : ps .host) (h_latches : ps .latches) (h_tbl : ps .tbl) {v0 : Fin 16} {v1 : State} (h0 : Touches ps s0 v1) :
    Moves ps s0 (execEpochAbort v0 v1) := by
  unfold execEpochAbort
  refine Moves.next ?_
  refine onCommand_touches ?_ ?_
  · intro y0
    intro y1
    intro k2
    lift_lets
    intro x3
    clear_value x3
    refine Touches.ite ?_ ?_
    · assumption
    · refine Touches.ite ?_ ?_
      · refine complete_touches h_regs h_out h_host h_latches h_tbl ?_
        assumption
      · refine Touches.ite ?_ ?_
        · refine complete_touches h_regs h_out h_host h_latches h_tbl ?_
          assumption
        · refine Touches.ite ?_ ?_
          · refine complete_touches h_regs h_out h_host h_latches h_tbl ?_
            assumption
          · refine complete_touches h_regs h_out h_host h_latches h_tbl ?_
            refine discardEpoch_touches h_regs h_out h_host h_latches h_tbl ?_
            assumption
  · assumption

theorem execMicrowordIssue_touches {ps : Piece → Prop} {s0 : State} (h_regs : ps .regs) (h_out : ps .out) (h_ddr : ps .ddr) (h_poison : ps .poison) (h_host : ps .host) (h_latches : ps .latches) (h_ucs : ps .ucs) (h_tbl : ps .tbl) (h_palm : ps .palm) (h_ldg : ps .ldg) (h_vsr : ps .vsr) {v0 : Bool} {v1 : ℕ} {v2 : List ℕ} {v3 : ℕ} {v4 : ℕ} {v5 : State} (h0 : Touches ps s0 v5) :
    Moves ps s0 (execMicrowordIssue v0 v1 v2 v3 v4 v5) := by
  unfold execMicrowordIssue
  refine Moves.next ?_
  refine endCycle_touches h_regs h_out h_host h_latches h_ucs h_tbl h_vsr ?_
  refine issueMicroword_touches h_regs h_out h_ddr h_poison h_host h_latches h_ucs h_tbl h_palm h_ldg h_vsr ?_
  assumption

theorem writeCqCfg_touches {ps : Piece → Prop} {s0 : State} (h_regs : ps .regs) (h_out : ps .out) (h_host : ps .host) (h_latches : ps .latches) (h_tbl : ps .tbl) {v0 : ℕ} {v1 : Word} {v2 : State} (h0 : Touches ps s0 v2) :
    Touches ps s0 (writeCqCfg v0 v1 v2) := by
  unfold writeCqCfg
  lift_lets
  intro x0
  clear_value x0
  intro x1
  clear_value x1
  intro x2
  clear_value x2
  intro x3
  have hx4 : Touches ps s0 x3 := by
    unfold x3
    refine Touches.ite ?_ ?_
    · assumption
    · refine State.wr_touches h_regs ?_
      assumption
  clear_value x3
  intro x5
  have hx6 : Touches ps s0 x5 := by
    unfold x5
    refine State.wr_touches h_regs ?_
    assumption
  clear_value x5
  refine Touches.ite ?_ ?_
  · refine State.set1_touches h_regs h_latches ?_
    assumption
  · refine Touches.ite ?_ ?_
    · refine pump_touches h_regs h_out h_host h_latches h_tbl ?_
      refine fetchPosted_touches h_regs h_out h_host h_latches h_tbl ?_
      refine State.wr_touches h_regs ?_
      assumption
    · assumption

theorem retireAt_touches {ps : Piece → Prop} {s0 : State} (h_regs : ps .regs) (h_out : ps .out) (h_host : ps .host) (h_latches : ps .latches) (h_tbl : ps .tbl) {v0 : ℕ} {v1 : ℕ} {v2 : State} (h0 : Touches ps s0 v2) :
    Touches ps s0 (retireAt v0 v1 v2) := by
  unfold retireAt
  lift_lets
  intro x0
  clear_value x0
  split
  · refine Touches.ite ?_ ?_
    · refine State.putEmt_touches h_regs h_out h_host h_latches h_tbl ?_
      assumption
    · assumption
  · refine Touches.ite ?_ ?_
    · refine State.putLpa_touches h_regs h_tbl ?_
      assumption
    · assumption
  · refine Touches.ite ?_ ?_
    · refine State.putCla_touches h_tbl ?_
      assumption
    · assumption

theorem releaseDone_touches {ps : Piece → Prop} {s0 : State} (h_regs : ps .regs) (h_out : ps .out) (h_host : ps .host) (h_latches : ps .latches) (h_tbl : ps .tbl) {v0 : State} (h0 : Touches ps s0 v0) :
    Touches ps s0 (releaseDone v0) := by
  unfold releaseDone
  refine Touches.foldl (fun _ _ _ => ?_) ?_
  · split
    · refine Touches.ite ?_ ?_
      · assumption
      · refine complete_touches h_regs h_out h_host h_latches h_tbl ?_
        assumption
    · assumption
  · assumption

theorem execEpochSettleComplete_touches {ps : Piece → Prop} {s0 : State} (h_regs : ps .regs) (h_out : ps .out) (h_host : ps .host) (h_latches : ps .latches) (h_tbl : ps .tbl) (h_mtn : ps .mtn) {v0 : State} (h0 : Touches ps s0 v0) :
    Moves ps s0 (execEpochSettleComplete v0) := by
  unfold execEpochSettleComplete
  refine Moves.next ?_
  refine State.running_touches ?_ ?_
  · assumption
  · intro y0
    intro k1
    lift_lets
    intro x2
    clear_value x2
    refine State.given_touches ?_ ?_
    · assumption
    · intro y3
      intro k4
      lift_lets
      intro x5
      have hx6 : Touches ps s0 x5 := by
        unfold x5
        refine Touches.foldl (fun _ _ _ => ?_) ?_
        · refine mirror_touches h_regs h_out h_host h_tbl h_mtn ?_
          refine retireAt_touches h_regs h_out h_host h_latches h_tbl ?_
          assumption
        · assumption
      clear_value x5
      intro x7
      clear_value x7
      intro x8
      clear_value x8
      intro x9
      clear_value x9
      intro x10
      have hx11 : Touches ps s0 x10 := by
        unfold x10
        refine (Touches.upd_tbl h_tbl ?_)
        assumption
      clear_value x10
      intro x12
      have hx13 : Touches ps s0 x12 := by
        unfold x12
        refine State.vector_touches h_out h_host ?_
        refine State.wr_touches h_regs ?_
        refine State.wr_touches h_regs ?_
        assumption
      clear_value x12
      split
      · refine releaseDone_touches h_regs h_out h_host h_latches h_tbl ?_
        refine complete_touches h_regs h_out h_host h_latches h_tbl ?_
        assumption
      · refine releaseDone_touches h_regs h_out h_host h_latches h_tbl ?_
        assumption

theorem execLearnApply_touches {ps : Piece → Prop} {s0 : State} (h_regs : ps .regs) (h_out : ps .out) (h_host : ps .host) (h_latches : ps .latches) (h_ucs : ps .ucs) (h_tbl : ps .tbl) (h_vsr : ps .vsr) {v0 : List ℕ} {v1 : State} (h0 : Touches ps s0 v1) :
    Moves ps s0 (execLearnApply v0 v1) := by
  unfold execLearnApply
  refine Moves.next ?_
  refine tableAct_touches h_regs h_out h_host h_latches h_ucs h_tbl h_vsr ?_
  assumption

theorem execGenDrainSlow_touches {ps : Piece → Prop} {s0 : State} (h_regs : ps .regs) (h_out : ps .out) (h_host : ps .host) (h_latches : ps .latches) (h_tbl : ps .tbl) {v0 : Fin 16} {v1 : State} (h0 : Touches ps s0 v1) :
    Moves ps s0 (execGenDrainSlow v0 v1) := by
  unfold execGenDrainSlow
  refine Moves.next ?_
  refine State.running_touches ?_ ?_
  · assumption
  · intro y0
    intro k1
    split
    · refine State.given_touches ?_ ?_
      · assumption
      · intro y2
        intro k3
        lift_lets
        intro x4
        clear_value x4
        refine State.vector_touches h_out h_host ?_
        refine State.raise_touches h_regs h_out h_host h_latches ?_
        refine State.putCq_touches h_tbl ?_
        assumption
    · assumption

theorem refuseEpoch_touches {ps : Piece → Prop} {s0 : State} (h_regs : ps .regs) (h_out : ps .out) (h_host : ps .host) (h_latches : ps .latches) {v0 : ℕ} {v1 : State} (h0 : Touches ps s0 v1) :
    Touches ps s0 (refuseEpoch v0 v1) := by
  unfold refuseEpoch
  refine State.vector_touches h_out h_host ?_
  refine State.raise_touches h_regs h_out h_host h_latches ?_
  refine State.wr_touches h_regs ?_
  assumption

theorem execEpochCommit_touches {ps : Piece → Prop} {s0 : State} (h_regs : ps .regs) (h_out : ps .out) (h_host : ps .host) (h_latches : ps .latches) (h_tbl : ps .tbl) {v0 : Fin 16} {v1 : State} (h0 : Touches ps s0 v1) :
    Moves ps s0 (execEpochCommit v0 v1) := by
  unfold execEpochCommit
  refine Moves.next ?_
  refine onCommand_touches ?_ ?_
  · intro y0
    intro y1
    intro k2
    lift_lets
    intro x3
    clear_value x3
    intro x4
    clear_value x4
    intro x5
    have hx6 : Touches ps s0 x5 := by
      unfold x5
      refine openEpoch_touches h_regs h_tbl ?_
      assumption
    clear_value x5
    intro x7
    clear_value x7
    intro x8
    clear_value x8
    intro x9
    clear_value x9
    intro x10
    clear_value x10
    intro x11
    have hx12 : Touches ps s0 x11 := by
      unfold x11
      refine State.putCq_touches h_tbl ?_
      refine (Touches.upd_tbl h_tbl ?_)
      assumption
    clear_value x11
    refine Touches.ite ?_ ?_
    · assumption
    · refine Touches.ite ?_ ?_
      · refine complete_touches h_regs h_out h_host h_latches h_tbl ?_
        assumption
      · refine Touches.ite ?_ ?_
        · refine complete_touches h_regs h_out h_host h_latches h_tbl ?_
          assumption
        · refine Touches.ite ?_ ?_
          · refine complete_touches h_regs h_out h_host h_latches h_tbl ?_
            assumption
          · refine Touches.ite ?_ ?_
            · refine complete_touches h_regs h_out h_host h_latches h_tbl ?_
              refine refuseEpoch_touches h_regs h_out h_host h_latches ?_
              assumption
            · refine Touches.ite ?_ ?_
              · refine complete_touches h_regs h_out h_host h_latches h_tbl ?_
                refine refuseEpoch_touches h_regs h_out h_host h_latches ?_
                assumption
              · refine State.wr_touches h_regs ?_
                refine State.wr_touches h_regs ?_
                assumption
  · assumption

theorem execAgeSweep_touches {ps : Piece → Prop} {s0 : State} (h_regs : ps .regs) (h_out : ps .out) (h_host : ps .host) (h_latches : ps .latches) (h_ucs : ps .ucs) (h_tbl : ps .tbl) (h_vsr : ps .vsr) {v0 : Fin 16} {v1 : State} (h0 : Touches ps s0 v1) :
    Moves ps s0 (execAgeSweep v0 v1) := by
  unfold execAgeSweep
  refine Moves.next ?_
  refine tableAct_touches h_regs h_out h_host h_latches h_ucs h_tbl h_vsr ?_
  assumption

theorem execGenDrain_touches {ps : Piece → Prop} {s0 : State} (h_regs : ps .regs) (h_out : ps .out) (h_host : ps .host) (h_latches : ps .latches) (h_tbl : ps .tbl) {v0 : Fin 16} {v1 : State} (h0 : Touches ps s0 v1) :
    Moves ps s0 (execGenDrain v0 v1) := by
  unfold execGenDrain
  refine Moves.next ?_
  refine onCommand_touches ?_ ?_
  · intro y0
    intro y1
    intro k2
    lift_lets
    intro x3
    clear_value x3
    intro x4
    clear_value x4
    intro x5
    clear_value x5
    refine Touches.ite ?_ ?_
    · refine complete_touches h_regs h_out h_host h_latches h_tbl ?_
      assumption
    · refine Touches.ite ?_ ?_
      · refine State.putCq_touches h_tbl ?_
        assumption
      · refine complete_touches h_regs h_out h_host h_latches h_tbl ?_
        assumption
  · assumption

theorem execNext_touches {ps : Piece → Prop} {s0 : State} (h_regs : ps .regs) (h_out : ps .out) (h_host : ps .host) (h_latches : ps .latches) (h_ucs : ps .ucs) (h_tbl : ps .tbl) (h_vsr : ps .vsr) {v0 : Fin 16} {v1 : State} (h0 : Touches ps s0 v1) :
    Moves ps s0 (execNext v0 v1) := by
  unfold execNext
  refine Moves.next ?_
  refine tableAct_touches h_regs h_out h_host h_latches h_ucs h_tbl h_vsr ?_
  assumption

theorem execCqEnable_touches {ps : Piece → Prop} {s0 : State} (h_regs : ps .regs) (h_out : ps .out) (h_host : ps .host) (h_latches : ps .latches) (h_tbl : ps .tbl) (h_mtn : ps .mtn) {v0 : Fin 16} {v1 : Word} {v2 : State} (h0 : Touches ps s0 v2) :
    Moves ps s0 (execCqEnable v0 v1 v2) := by
  unfold execCqEnable
  refine Moves.next ?_
  refine State.written_touches h_regs h_latches h_mtn ?_ ?_
  · assumption
  · intro y0
    intro k1
    refine writeCqCfg_touches h_regs h_out h_host h_latches h_tbl ?_
    assumption

theorem execCqDoorbell_touches {ps : Piece → Prop} {s0 : State} (h_regs : ps .regs) (h_out : ps .out) (h_host : ps .host) (h_latches : ps .latches) (h_tbl : ps .tbl) (h_mtn : ps .mtn) {v0 : Fin 16} {v1 : BitVec 12} {v2 : List (List Byte)} {v3 : State} (h0 : Touches ps s0 v3) :
    Moves ps s0 (execCqDoorbell v0 v1 v2 v3) := by
  unfold execCqDoorbell
  refine Moves.next ?_
  refine State.written_touches h_regs h_latches h_mtn ?_ ?_
  · assumption
  · intro y0
    intro k1
    lift_lets
    intro x2
    clear_value x2
    intro x3
    clear_value x3
    intro x4
    clear_value x4
    refine State.given_touches ?_ ?_
    · assumption
    · intro y5
      intro k6
      lift_lets
      intro x7
      have hx8 : Touches ps s0 x7 := by
        unfold x7
        refine State.wr_touches h_regs ?_
        assumption
      clear_value x7
      intro x9
      clear_value x9
      refine wakeCrown_touches h_regs h_out h_host h_mtn ?_
      refine pump_touches h_regs h_out h_host h_latches h_tbl ?_
      refine fetchPosted_touches h_regs h_out h_host h_latches h_tbl ?_
      refine State.putCq_touches h_tbl ?_
      assumption

theorem execSearch_touches {ps : Piece → Prop} {s0 : State} (h_regs : ps .regs) (h_out : ps .out) (h_host : ps .host) (h_latches : ps .latches) (h_ucs : ps .ucs) (h_tbl : ps .tbl) (h_vsr : ps .vsr) {v0 : Fin 16} {v1 : State} (h0 : Touches ps s0 v1) :
    Moves ps s0 (execSearch v0 v1) := by
  unfold execSearch
  refine Moves.next ?_
  refine tableAct_touches h_regs h_out h_host h_latches h_ucs h_tbl h_vsr ?_
  assumption

theorem execModify_touches {ps : Piece → Prop} {s0 : State} (h_regs : ps .regs) (h_out : ps .out) (h_host : ps .host) (h_latches : ps .latches) (h_ucs : ps .ucs) (h_tbl : ps .tbl) (h_vsr : ps .vsr) {v0 : Fin 16} {v1 : State} (h0 : Touches ps s0 v1) :
    Moves ps s0 (execModify v0 v1) := by
  unfold execModify
  refine Moves.next ?_
  refine tableAct_touches h_regs h_out h_host h_latches h_ucs h_tbl h_vsr ?_
  assumption

theorem execFlushByPort_touches {ps : Piece → Prop} {s0 : State} (h_regs : ps .regs) (h_out : ps .out) (h_host : ps .host) (h_latches : ps .latches) (h_ucs : ps .ucs) (h_tbl : ps .tbl) (h_vsr : ps .vsr) {v0 : Fin 16} {v1 : State} (h0 : Touches ps s0 v1) :
    Moves ps s0 (execFlushByPort v0 v1) := by
  unfold execFlushByPort
  refine Moves.next ?_
  refine tableAct_touches h_regs h_out h_host h_latches h_ucs h_tbl h_vsr ?_
  assumption

theorem execEpochSealComplete_touches {ps : Piece → Prop} {s0 : State} (h_regs : ps .regs) (h_out : ps .out) (h_host : ps .host) (h_latches : ps .latches) (h_ucs : ps .ucs) (h_tbl : ps .tbl) (h_vsr : ps .vsr) {v0 : Bool} {v1 : State} (h0 : Touches ps s0 v1) :
    Moves ps s0 (execEpochSealComplete v0 v1) := by
  unfold execEpochSealComplete
  refine Moves.next ?_
  refine State.running_touches ?_ ?_
  · assumption
  · intro y0
    intro k1
    refine State.given_touches ?_ ?_
    · assumption
    · intro y2
      intro k3
      split
      · assumption
      · refine Touches.ite ?_ ?_
        · refine complete_touches h_regs h_out h_host h_latches h_tbl ?_
          refine refuseEpoch_touches h_regs h_out h_host h_latches ?_
          refine discardEpoch_touches h_regs h_out h_host h_latches h_tbl ?_
          refine State.raise_touches h_regs h_out h_host h_latches ?_
          assumption
        · lift_lets
          intro x4
          clear_value x4
          intro x5
          clear_value x5
          intro x6
          clear_value x6
          intro x7
          clear_value x7
          intro x8
          clear_value x8
          intro x9
          have hx10 : Touches ps s0 x9 := by
            unfold x9
            refine (Touches.upd_tbl h_tbl ?_)
            assumption
          clear_value x9
          intro x11
          clear_value x11
          intro x12
          clear_value x12
          intro x13
          have hx14 : Touches ps s0 x13 := by
            unfold x13
            refine (Touches.upd_tbl h_tbl ?_)
            assumption
          clear_value x13
          intro x15
          have hx16 : Touches ps s0 x15 := by
            unfold x15
            refine State.wr_touches h_regs ?_
            assumption
          clear_value x15
          refine Touches.ite ?_ ?_
          · refine tableAct_touches h_regs h_out h_host h_latches h_ucs h_tbl h_vsr ?_
            assumption
          · assumption

theorem execEpochEffect_touches {ps : Piece → Prop} {s0 : State} (h_regs : ps .regs) (h_out : ps .out) (h_host : ps .host) (h_latches : ps .latches) (h_ucs : ps .ucs) (h_tbl : ps .tbl) (h_vsr : ps .vsr) {v0 : State} (h0 : Touches ps s0 v0) :
    Moves ps s0 (execEpochEffect v0) := by
  unfold execEpochEffect
  refine Moves.next ?_
  refine tableAct_touches h_regs h_out h_host h_latches h_ucs h_tbl h_vsr ?_
  assumption

theorem execVersionRetire_touches {ps : Piece → Prop} {s0 : State} (h_regs : ps .regs) (h_out : ps .out) (h_host : ps .host) (h_latches : ps .latches) (h_tbl : ps .tbl) {v0 : Fin 3} {v1 : ℕ} {v2 : State} (h0 : Touches ps s0 v2) :
    Moves ps s0 (execVersionRetire v0 v1 v2) := by
  unfold execVersionRetire
  refine Moves.next ?_
  refine State.running_touches ?_ ?_
  · assumption
  · intro y0
    intro k1
    refine retireAt_touches h_regs h_out h_host h_latches h_tbl ?_
    assumption

theorem execAgeSweeperVisit_touches {ps : Piece → Prop} {s0 : State} (h_regs : ps .regs) (h_out : ps .out) (h_host : ps .host) (h_latches : ps .latches) (h_ucs : ps .ucs) (h_tbl : ps .tbl) (h_vsr : ps .vsr) {v0 : Fin 4194368} {v1 : State} (h0 : Touches ps s0 v1) :
    Moves ps s0 (execAgeSweeperVisit v0 v1) := by
  unfold execAgeSweeperVisit
  refine Moves.next ?_
  refine tableAct_touches h_regs h_out h_host h_latches h_ucs h_tbl h_vsr ?_
  assumption

theorem execShadowWrite_touches {ps : Piece → Prop} {s0 : State} (h_regs : ps .regs) (h_out : ps .out) (h_host : ps .host) (h_latches : ps .latches) (h_tbl : ps .tbl) (h_mtn : ps .mtn) {v0 : Fin 3} {v1 : ℕ} {v2 : Bool} {v3 : State} (h0 : Touches ps s0 v3) :
    Moves ps s0 (execShadowWrite v0 v1 v2 v3) := by
  unfold execShadowWrite
  refine Moves.next ?_
  refine State.running_touches ?_ ?_
  · assumption
  · intro y0
    intro k1
    refine State.given_touches ?_ ?_
    · assumption
    · intro y2
      intro k3
      refine Touches.ite ?_ ?_
      · refine releaseDone_touches h_regs h_out h_host h_latches h_tbl ?_
        refine mirror_touches h_regs h_out h_host h_tbl h_mtn ?_
        assumption
      · refine State.raise_touches h_regs h_out h_host h_latches ?_
        assumption

theorem loseEntry_touches {ps : Piece → Prop} {s0 : State} (h_regs : ps .regs) (h_out : ps .out) (h_host : ps .host) (h_latches : ps .latches) (h_tbl : ps .tbl) {v0 : ℕ} {v1 : ℕ} {v2 : State} (h0 : Touches ps s0 v2) :
    Touches ps s0 (loseEntry v0 v1 v2) := by
  unfold loseEntry
  split
  · split
    · lift_lets
      intro x0
      clear_value x0
      refine notify_touches h_regs h_out h_host h_latches ?_
      refine State.bump_touches h_regs h_latches ?_
      refine toShadow_touches h_tbl ?_
      refine State.putEmt_touches h_regs h_out h_host h_latches h_tbl ?_
      assumption
    · assumption
  · refine Touches.ite ?_ ?_
    · assumption
    · lift_lets
      intro x1
      clear_value x1
      refine State.raise_touches h_regs h_out h_host h_latches ?_
      refine State.bump_touches h_regs h_latches ?_
      refine toShadow_touches h_tbl ?_
      refine State.putLpa_touches h_regs h_tbl ?_
      assumption
  · refine Touches.ite ?_ ?_
    · assumption
    · lift_lets
      intro x2
      clear_value x2
      refine State.raise_touches h_regs h_out h_host h_latches ?_
      refine State.bump_touches h_regs h_latches ?_
      refine toShadow_touches h_tbl ?_
      refine showCla_touches h_regs ?_
      refine State.putCla_touches h_tbl ?_
      assumption

theorem execShadowReload_touches {ps : Piece → Prop} {s0 : State} (h_regs : ps .regs) (h_out : ps .out) (h_host : ps .host) (h_latches : ps .latches) (h_tbl : ps .tbl) {v0 : Fin 3} {v1 : List ℕ} {v2 : List ℕ} {v3 : State} (h0 : Touches ps s0 v3) :
    Moves ps s0 (execShadowReload v0 v1 v2 v3) := by
  unfold execShadowReload
  refine Moves.next ?_
  refine State.running_touches ?_ ?_
  · assumption
  · intro y0
    intro k1
    refine State.given_touches ?_ ?_
    · assumption
    · intro y2
      intro k3
      refine Touches.foldl (fun _ _ _ => ?_) ?_
      · refine Touches.ite ?_ ?_
        · assumption
        · lift_lets
          intro x4
          have hx5 : Touches ps s0 x4 := by
            unfold x4
            refine reload_touches h_regs h_out h_host h_latches h_tbl ?_
            assumption
          clear_value x4
          intro x6
          clear_value x6
          refine (Touches.upd_tbl h_tbl ?_)
          assumption
      · refine Touches.foldl (fun _ _ _ => ?_) ?_
        · refine loseEntry_touches h_regs h_out h_host h_latches h_tbl ?_
          assumption
        · assumption

end Sys2Proof.Machine
end

