-- ==== Sys2Proof/Laws/TouchMitten.lean ====
section
/-! SUPPORT. What the operations of Machine/Mitten.lean may touch: one lemma for each. -/

set_option maxRecDepth 10000

namespace Sys2Proof.Machine

theorem clearStatus_touches {ps : Piece → Prop} {s0 : State} (h_regs : ps .regs) (h_host : ps .host) {v0 : ℕ} {v1 : State} (h0 : Touches ps s0 v1) :
    Touches ps s0 (clearStatus v0 v1) := by
  unfold clearStatus
  lift_lets
  intro x0
  clear_value x0
  refine Touches.multi (b := v1) ?_ (fun p hn => by cases p <;> first | exact absurd (by assumption) hn | rfl) ?_ (fun hs => hs)
  · assumption
  · first | exact fun hs => SMap.sorted_put _ _ _ _ hs | exact fun hs => SMap.sorted_enter _ _ _ hs | exact fun hs => SMap.sorted_filter _ _ hs

theorem quietOctet_touches {ps : Piece → Prop} {s0 : State} (h_regs : ps .regs) (h_host : ps .host) (h_stamps : ps .stamps) (h_brim : ps .brim) {v0 : ℕ} {v1 : State} (h0 : Touches ps s0 v1) :
    Touches ps s0 (quietOctet v0 v1) := by
  unfold quietOctet
  lift_lets
  intro x0
  clear_value x0
  intro x1
  have hx2 : Touches ps s0 x1 := by
    unfold x1
    refine Touches.foldl (fun _ _ _ => ?_) ?_
    · refine clearStatus_touches h_regs h_host ?_
      assumption
    · assumption
  clear_value x1
  intro x3
  clear_value x3
  intro x4
  clear_value x4
  intro x5
  clear_value x5
  refine layPorts_touches h_regs ?_
  refine Touches.multi (b := x1) ?_ (fun p hn => by cases p <;> first | exact absurd (by assumption) hn | rfl) (fun hs => hs) (fun hs => hs)
  assumption

theorem loseChannel_touches {ps : Piece → Prop} {s0 : State} (h_regs : ps .regs) (h_ddr : ps .ddr) (h_poison : ps .poison) (h_crown : ps .crown) (h_dram : ps .dram) {v0 : ℕ} {v1 : State} (h0 : Touches ps s0 v1) :
    Touches ps s0 (loseChannel v0 v1) := by
  unfold loseChannel
  lift_lets
  intro x0
  clear_value x0
  intro x1
  have hx2 : Touches ps s0 x1 := by
    unfold x1
    refine State.wr_touches h_regs ?_
    refine State.wr_touches h_regs ?_
    assumption
  clear_value x1
  intro x3
  clear_value x3
  intro x4
  clear_value x4
  refine Touches.multi (b := x1) ?_ (fun p hn => by cases p <;> first | exact absurd (by assumption) hn | rfl) (fun hs => hs) ?_
  · assumption
  · first | exact fun hs => ddrStore_wf _ _ _ hs | exact fun hs => SMap.wf_filter _ _ _ hs | exact fun _ => rfl

theorem loseDomain_touches {ps : Piece → Prop} {s0 : State} (h_regs : ps .regs) (h_ddr : ps .ddr) (h_poison : ps .poison) (h_host : ps .host) (h_stamps : ps .stamps) (h_brim : ps .brim) (h_crown : ps .crown) (h_dram : ps .dram) {v0 : ℕ} {v1 : State} (h0 : Touches ps s0 v1) :
    Touches ps s0 (loseDomain v0 v1) := by
  unfold loseDomain
  refine Touches.ite ?_ ?_
  · refine Touches.foldl (fun _ _ _ => ?_) ?_
    · refine clearStatus_touches h_regs h_host ?_
      assumption
    · assumption
  · refine Touches.ite ?_ ?_
    · refine quietOctet_touches h_regs h_host h_stamps h_brim ?_
      assumption
    · refine Touches.ite ?_ ?_
      · refine loseChannel_touches h_regs h_ddr h_poison h_crown h_dram ?_
        assumption
      · refine Touches.ite ?_ ?_
        · refine Touches.foldl (fun _ _ _ => ?_) ?_
          · refine clearStatus_touches h_regs h_host ?_
            assumption
          · assumption
        · assumption

theorem settleDom_touches {ps : Piece → Prop} {s0 : State} (h_regs : ps .regs) (h_out : ps .out) (h_host : ps .host) (h_mtn : ps .mtn) {v0 : ℕ} {v1 : Bool} {v2 : State} (h0 : Touches ps s0 v2) :
    Touches ps s0 (settleDom v0 v1 v2) := by
  unfold settleDom
  lift_lets
  intro x0
  clear_value x0
  intro x1
  clear_value x1
  refine Touches.ite ?_ ?_
  · refine startWake_touches h_regs h_out h_host h_mtn ?_
    refine State.putDom_touches h_regs h_out h_host h_mtn ?_
    assumption
  · refine recomputeDom_touches h_regs h_out h_host h_mtn ?_
    assumption

theorem bandFollows_touches {ps : Piece → Prop} {s0 : State} (h_regs : ps .regs) (h_free : ps .free) (h_out : ps .out) (h_host : ps .host) (h_latches : ps .latches) (h_hat : ps .hat) {v0 : ℕ} {v1 : State} (h0 : Touches ps s0 v1) :
    Touches ps s0 (bandFollows v0 v1) := by
  unfold bandFollows
  refine Touches.ite ?_ ?_
  · assumption
  · refine Touches.ite ?_ ?_
    · lift_lets
      intro x0
      have hx1 : Touches ps s0 x0 := by
        unfold x0
        refine stopSlew_touches h_regs h_hat ?_
        assumption
      clear_value x0
      intro x2
      clear_value x2
      refine enterHoldover_touches h_regs h_free h_out h_host h_latches h_hat ?_
      refine (Touches.upd_hat h_hat ?_)
      assumption
    · lift_lets
      intro x3
      clear_value x3
      refine (Touches.upd_hat h_hat ?_)
      assumption

theorem wakeEnds_touches {ps : Piece → Prop} {s0 : State} (h_regs : ps .regs) (h_free : ps .free) (h_out : ps .out) (h_host : ps .host) (h_latches : ps .latches) (h_hat : ps .hat) (h_mtn : ps .mtn) {v0 : ℕ} {v1 : State} (h0 : Touches ps s0 v1) :
    Touches ps s0 (wakeEnds v0 v1) := by
  unfold wakeEnds
  lift_lets
  intro x0
  clear_value x0
  intro x1
  have hx2 : Touches ps s0 x1 := by
    unfold x1
    refine State.putDom_touches h_regs h_out h_host h_mtn ?_
    assumption
  clear_value x1
  refine settleDom_touches h_regs h_out h_host h_mtn ?_
  refine refreshLow_touches h_mtn ?_
  refine bandFollows_touches h_regs h_free h_out h_host h_latches h_hat ?_
  assumption

theorem toStage_touches {ps : Piece → Prop} {s0 : State} (h_regs : ps .regs) (h_out : ps .out) (h_host : ps .host) (h_mtn : ps .mtn) (h_dram : ps .dram) {v0 : ℕ} {v1 : ℕ} {v2 : State} (h0 : Touches ps s0 v2) :
    Touches ps s0 (toStage v0 v1 v2) := by
  unfold toStage
  lift_lets
  intro x0
  clear_value x0
  intro x1
  have hx2 : Touches ps s0 x1 := by
    unfold x1
    refine State.putDom_touches h_regs h_out h_host h_mtn ?_
    assumption
  clear_value x1
  intro x3
  clear_value x3
  refine Touches.ite ?_ ?_
  · refine (Touches.upd_dram h_dram ?_)
    assumption
  · assumption

theorem lostBank_touches {ps : Piece → Prop} {s0 : State} (h_regs : ps .regs) (h_out : ps .out) (h_host : ps .host) (h_latches : ps .latches) (h_ucs : ps .ucs) (h_tbl : ps .tbl) (h_palm : ps .palm) (h_mtn : ps .mtn) {v0 : ℕ} {v1 : LostBank} {v2 : State} (h0 : Touches ps s0 v2) :
    Touches ps s0 (lostBank v0 v1 v2) := by
  unfold lostBank
  lift_lets
  intro x0
  clear_value x0
  intro x1
  have hx2 : Touches ps s0 x1 := by
    unfold x1
    refine State.vector_touches h_out h_host ?_
    refine State.raise_touches h_regs h_out h_host h_latches ?_
    refine State.putDom_touches h_regs h_out h_host h_mtn ?_
    assumption
  clear_value x1
  intro x3
  have hx4 : Touches ps s0 x3 := by
    unfold x3
    refine Touches.ite ?_ ?_
    · refine State.raise_touches h_regs h_out h_host h_latches ?_
      assumption
    · assumption
  clear_value x3
  intro x5
  clear_value x5
  split
  · refine State.raise_touches h_regs h_out h_host h_latches ?_
    refine Touches.foldl (fun _ _ _ => ?_) ?_
    · lift_lets
      intro x6
      clear_value x6
      intro x7
      have hx8 : Touches ps s0 x7 := by
        unfold x7
        refine reload_touches h_regs h_out h_host h_latches h_tbl ?_
        assumption
      clear_value x7
      intro x9
      clear_value x9
      refine Touches.ite ?_ ?_
      · assumption
      · refine (Touches.upd_tbl h_tbl ?_)
        assumption
    · assumption
  · refine writeBank_touches h_regs h_ucs ?_
    assumption
  · refine State.raise_touches h_regs h_out h_host h_latches ?_
    refine triggerBank_touches h_regs h_out h_host h_latches h_palm h_mtn ?_
    assumption
  · assumption

theorem stageEnds_touches {ps : Piece → Prop} {s0 : State} (h_regs : ps .regs) (h_free : ps .free) (h_out : ps .out) (h_host : ps .host) (h_latches : ps .latches) (h_hat : ps .hat) (h_ucs : ps .ucs) (h_tbl : ps .tbl) (h_palm : ps .palm) (h_mtn : ps .mtn) (h_dram : ps .dram) {v0 : ℕ} {v1 : List LostBank} {v2 : State} (h0 : Touches ps s0 v2) :
    Touches ps s0 (stageEnds v0 v1 v2) := by
  unfold stageEnds
  lift_lets
  intro x0
  clear_value x0
  intro x1
  clear_value x1
  intro x2
  have hx3 : Touches ps s0 x2 := by
    unfold x2
    refine (Touches.upd_mtn h_mtn ?_)
    assumption
  clear_value x2
  intro x4
  have hx5 : Touches ps s0 x4 := by
    unfold x4
    refine Touches.foldl (fun _ _ _ => ?_) ?_
    · refine Touches.ite ?_ ?_
      · refine lostBank_touches h_regs h_out h_host h_latches h_ucs h_tbl h_palm h_mtn ?_
        assumption
      · assumption
    · assumption
  clear_value x4
  split
  · refine wakeEnds_touches h_regs h_free h_out h_host h_latches h_hat h_mtn ?_
    assumption
  · refine Touches.ite ?_ ?_
    · assumption
    · refine toStage_touches h_regs h_out h_host h_mtn h_dram ?_
      assumption
  · refine toStage_touches h_regs h_out h_host h_mtn h_dram ?_
    assumption
  · refine Touches.ite ?_ ?_
    · assumption
    · refine Touches.ite ?_ ?_
      · refine toStage_touches h_regs h_out h_host h_mtn h_dram ?_
        assumption
      · refine wakeEnds_touches h_regs h_free h_out h_host h_latches h_hat h_mtn ?_
        assumption
  · assumption

theorem lowReady_touches {ps : Piece → Prop} {s0 : State} (h_regs : ps .regs) (h_out : ps .out) (h_host : ps .host) (h_latches : ps .latches) (h_mtn : ps .mtn) {v0 : Bool} {v1 : State} (h0 : Touches ps s0 v1) :
    Touches ps s0 (lowReady v0 v1) := by
  unfold lowReady
  refine Touches.foldl (fun _ _ _ => ?_) ?_
  · lift_lets
    intro x0
    clear_value x0
    intro x1
    have hx2 : Touches ps s0 x1 := by
      unfold x1
      refine State.putDom_touches h_regs h_out h_host h_mtn ?_
      assumption
    clear_value x1
    refine Touches.ite ?_ ?_
    · refine State.vector_touches h_out h_host ?_
      refine State.raise_touches h_regs h_out h_host h_latches ?_
      refine State.bump_touches h_regs h_latches ?_
      assumption
    · assumption
  · assumption

theorem execDelayExpiry_touches {ps : Piece → Prop} {s0 : State} (h_regs : ps .regs) (h_out : ps .out) (h_host : ps .host) (h_mtn : ps .mtn) {v0 : Fin 209} {v1 : State} (h0 : Touches ps s0 v1) :
    Moves ps s0 (execDelayExpiry v0 v1) := by
  unfold execDelayExpiry
  refine Moves.next ?_
  refine State.running_touches ?_ ?_
  · assumption
  · intro y0
    intro k1
    lift_lets
    intro x2
    clear_value x2
    refine State.given_touches ?_ ?_
    · assumption
    · intro y3
      intro k4
      refine State.putDom_touches h_regs h_out h_host h_mtn ?_
      assumption

theorem writeDomCfg_touches {ps : Piece → Prop} {s0 : State} (h_regs : ps .regs) (h_out : ps .out) (h_host : ps .host) (h_latches : ps .latches) (h_mtn : ps .mtn) {v0 : ℕ} {v1 : State} (h0 : Touches ps s0 v1) :
    Touches ps s0 (writeDomCfg v0 v1) := by
  unfold writeDomCfg
  lift_lets
  intro x0
  clear_value x0
  intro x1
  clear_value x1
  intro x2
  clear_value x2
  intro x3
  have hx4 : Touches ps s0 x3 := by
    unfold x3
    refine State.wr_touches h_regs ?_
    refine State.wr_touches h_regs ?_
    refine State.wr_touches h_regs ?_
    assumption
  clear_value x3
  intro x5
  clear_value x5
  refine Touches.ite ?_ ?_
  · refine State.set1_touches h_regs h_latches ?_
    assumption
  · refine recomputeDom_touches h_regs h_out h_host h_mtn ?_
    refine State.putDom_touches h_regs h_out h_host h_mtn ?_
    assumption

theorem selectDom_touches {ps : Piece → Prop} {s0 : State} (h_regs : ps .regs) (h_latches : ps .latches) {v0 : ℕ} {v1 : State} (h0 : Touches ps s0 v1) :
    Touches ps s0 (selectDom v0 v1) := by
  unfold selectDom
  lift_lets
  intro x0
  clear_value x0
  intro x1
  clear_value x1
  intro x2
  clear_value x2
  intro x3
  have hx4 : Touches ps s0 x3 := by
    unfold x3
    refine Touches.foldl (fun _ _ _ => ?_) ?_
    · refine State.wr_touches h_regs ?_
      assumption
    · assumption
  clear_value x3
  refine Touches.ite ?_ ?_
  · assumption
  · refine State.set1_touches h_regs h_latches ?_
    assumption

theorem retryWake_touches {ps : Piece → Prop} {s0 : State} (h_regs : ps .regs) (h_out : ps .out) (h_host : ps .host) (h_mtn : ps .mtn) {v0 : State} (h0 : Touches ps s0 v0) :
    Touches ps s0 (retryWake v0) := by
  unfold retryWake
  lift_lets
  intro x0
  clear_value x0
  intro x1
  clear_value x1
  refine State.given_touches ?_ ?_
  · assumption
  · intro y2
    intro k3
    refine startWake_touches h_regs h_out h_host h_mtn ?_
    refine State.putDom_touches h_regs h_out h_host h_mtn ?_
    assumption

theorem execRetryWake_touches {ps : Piece → Prop} {s0 : State} (h_regs : ps .regs) (h_out : ps .out) (h_host : ps .host) (h_latches : ps .latches) (h_mtn : ps .mtn) {v0 : State} (h0 : Touches ps s0 v0) :
    Moves ps s0 (execRetryWake v0) := by
  unfold execRetryWake
  refine Moves.next ?_
  refine State.written_touches h_regs h_latches h_mtn ?_ ?_
  · assumption
  · intro y0
    intro k1
    refine retryWake_touches h_regs h_out h_host h_mtn ?_
    assumption

theorem writeVote_touches {ps : Piece → Prop} {s0 : State} (h_regs : ps .regs) (h_out : ps .out) (h_host : ps .host) (h_mtn : ps .mtn) {v0 : ℕ} {v1 : ℕ} {v2 : State} (h0 : Touches ps s0 v2) :
    Touches ps s0 (writeVote v0 v1 v2) := by
  unfold writeVote
  split
  · refine Touches.ite ?_ ?_
    · assumption
    · refine recomputeDom_touches h_regs h_out h_host h_mtn ?_
      refine State.wr_touches h_regs ?_
      assumption
  · assumption

theorem wakeFails_touches {ps : Piece → Prop} {s0 : State} (h_regs : ps .regs) (h_free : ps .free) (h_out : ps .out) (h_ddr : ps .ddr) (h_poison : ps .poison) (h_host : ps .host) (h_latches : ps .latches) (h_hat : ps .hat) (h_stamps : ps .stamps) (h_brim : ps .brim) (h_mtn : ps .mtn) (h_crown : ps .crown) (h_dram : ps .dram) {v0 : ℕ} {v1 : ℕ} {v2 : State} (h0 : Touches ps s0 v2) :
    Touches ps s0 (wakeFails v0 v1 v2) := by
  unfold wakeFails
  lift_lets
  intro x0
  clear_value x0
  intro x1
  have hx2 : Touches ps s0 x1 := by
    unfold x1
    refine State.putDom_touches h_regs h_out h_host h_mtn ?_
    assumption
  clear_value x1
  intro x3
  clear_value x3
  intro x4
  have hx5 : Touches ps s0 x4 := by
    unfold x4
    refine (Touches.upd_mtn h_mtn ?_)
    assumption
  clear_value x4
  intro x6
  have hx7 : Touches ps s0 x6 := by
    unfold x6
    refine State.vector_touches h_out h_host ?_
    refine Touches.ite ?_ ?_
    · assumption
    · refine loseDomain_touches h_regs h_ddr h_poison h_host h_stamps h_brim h_crown h_dram ?_
      assumption
  clear_value x6
  refine Touches.ite ?_ ?_
  · refine State.raise_touches h_regs h_out h_host h_latches ?_
    assumption
  · refine Touches.ite ?_ ?_
    · refine bandFollows_touches h_regs h_free h_out h_host h_latches h_hat ?_
      refine State.raise_touches h_regs h_out h_host h_latches ?_
      assumption
    · refine State.raise_touches h_regs h_out h_host h_latches ?_
      assumption

theorem withdrawSteps_touches {ps : Piece → Prop} {s0 : State} (h_regs : ps .regs) (h_out : ps .out) (h_mtn : ps .mtn) {v0 : State} (h0 : Touches ps s0 v0) :
    Touches ps s0 (withdrawSteps v0) := by
  unfold withdrawSteps
  refine Touches.foldl (fun _ _ _ => ?_) ?_
  · refine Touches.ite ?_ ?_
    · assumption
    · refine queueAvs_touches h_regs h_out h_mtn ?_
      assumption
  · assumption

theorem execVddLowOff_touches {ps : Piece → Prop} {s0 : State} (h_regs : ps .regs) (h_out : ps .out) (h_mtn : ps .mtn) {v0 : State} (h0 : Touches ps s0 v0) :
    Moves ps s0 (execVddLowOff v0) := by
  unfold execVddLowOff
  refine Moves.next ?_
  split
  · refine State.given_touches ?_ ?_
    · assumption
    · intro y0
      intro k1
      refine refreshLow_touches h_mtn ?_
      refine State.send_touches h_out ?_
      refine State.wr_touches h_regs ?_
      assumption
  · assumption

theorem execHandshakeNoAnswer_touches {ps : Piece → Prop} {s0 : State} (h_regs : ps .regs) (h_out : ps .out) (h_host : ps .host) (h_latches : ps .latches) (h_mtn : ps .mtn) {v0 : Fin 209} {v1 : State} (h0 : Touches ps s0 v1) :
    Moves ps s0 (execHandshakeNoAnswer v0 v1) := by
  unfold execHandshakeNoAnswer
  refine Moves.next ?_
  refine State.running_touches ?_ ?_
  · assumption
  · intro y0
    intro k1
    lift_lets
    intro x2
    clear_value x2
    refine State.given_touches ?_ ?_
    · assumption
    · intro y3
      intro k4
      refine State.vector_touches h_out h_host ?_
      refine State.raise_touches h_regs h_out h_host h_latches ?_
      refine State.putDom_touches h_regs h_out h_host h_mtn ?_
      assumption

theorem reloadSlice_touches {ps : Piece → Prop} {s0 : State} (h_regs : ps .regs) (h_out : ps .out) (h_host : ps .host) (h_latches : ps .latches) (h_ucs : ps .ucs) (h_tbl : ps .tbl) {v0 : ℕ} {v1 : State} (h0 : Touches ps s0 v1) :
    Touches ps s0 (reloadSlice v0 v1) := by
  unfold reloadSlice
  lift_lets
  intro x0
  clear_value x0
  intro x1
  have hx2 : Touches ps s0 x1 := by
    unfold x1
    refine setUcsState_touches h_regs h_out h_host ?_
    refine writeBank_touches h_regs h_ucs ?_
    refine writeBank_touches h_regs h_ucs ?_
    assumption
  clear_value x1
  intro x3
  clear_value x3
  refine Touches.foldl (fun _ _ _ => ?_) ?_
  · lift_lets
    intro x4
    have hx5 : Touches ps s0 x4 := by
      unfold x4
      refine reload_touches h_regs h_out h_host h_latches h_tbl ?_
      assumption
    clear_value x4
    intro x6
    clear_value x6
    refine Touches.ite ?_ ?_
    · assumption
    · refine (Touches.upd_tbl h_tbl ?_)
      assumption
  · assumption

theorem execPrivilegedAnswer_touches {ps : Piece → Prop} {s0 : State} (h_regs : ps .regs) (h_out : ps .out) (h_host : ps .host) (h_mtn : ps .mtn) {v0 : Fin 209} {v1 : Bool} {v2 : BitVec 16} {v3 : State} (h0 : Touches ps s0 v3) :
    Moves ps s0 (execPrivilegedAnswer v0 v1 v2 v3) := by
  unfold execPrivilegedAnswer
  refine Moves.next ?_
  refine State.running_touches ?_ ?_
  · assumption
  · intro y0
    intro k1
    lift_lets
    intro x2
    clear_value x2
    intro x3
    clear_value x3
    refine State.given_touches ?_ ?_
    · assumption
    · intro y4
      intro k5
      lift_lets
      intro x6
      clear_value x6
      refine Touches.ite ?_ ?_
      · refine State.putDom_touches h_regs h_out h_host h_mtn ?_
        assumption
      · refine Touches.ite ?_ ?_
        · refine startEntry_touches h_regs h_out h_host h_mtn ?_
          refine State.putDom_touches h_regs h_out h_host h_mtn ?_
          assumption
        · refine State.vector_touches h_out h_host ?_
          refine State.putDom_touches h_regs h_out h_host h_mtn ?_
          assumption

theorem execHoldoffExpiry_touches {ps : Piece → Prop} {s0 : State} (h_regs : ps .regs) (h_out : ps .out) (h_host : ps .host) (h_mtn : ps .mtn) {v0 : Fin 209} {v1 : State} (h0 : Touches ps s0 v1) :
    Moves ps s0 (execHoldoffExpiry v0 v1) := by
  unfold execHoldoffExpiry
  refine Moves.next ?_
  refine State.running_touches ?_ ?_
  · assumption
  · intro y0
    intro k1
    lift_lets
    intro x2
    clear_value x2
    intro x3
    clear_value x3
    refine State.given_touches ?_ ?_
    · assumption
    · intro y4
      intro k5
      lift_lets
      intro x6
      have hx7 : Touches ps s0 x6 := by
        unfold x6
        refine recomputeDom_touches h_regs h_out h_host h_mtn ?_
        assumption
      clear_value x6
      intro x8
      clear_value x8
      refine State.given_touches ?_ ?_
      · assumption
      · intro y9
        intro k10
        refine Touches.ite ?_ ?_
        · refine State.putDom_touches h_regs h_out h_host h_mtn ?_
          assumption
        · refine startEntry_touches h_regs h_out h_host h_mtn ?_
          assumption

theorem execPowerVote_touches {ps : Piece → Prop} {s0 : State} (h_regs : ps .regs) (h_out : ps .out) (h_host : ps .host) (h_mtn : ps .mtn) {v0 : Fin 209} {v1 : Fin 3} {v2 : Fin 8} {v3 : State} (h0 : Touches ps s0 v3) :
    Moves ps s0 (execPowerVote v0 v1 v2 v3) := by
  unfold execPowerVote
  lift_lets
  intro x0
  clear_value x0
  refine Moves.next ?_
  split
  · refine Touches.ite ?_ ?_
    · assumption
    · refine writeVote_touches h_regs h_out h_host h_mtn ?_
      assumption
  · refine State.running_touches ?_ ?_
    · assumption
    · intro y1
      intro k2
      lift_lets
      intro x3
      clear_value x3
      refine recomputeDom_touches h_regs h_out h_host h_mtn ?_
      refine State.putDom_touches h_regs h_out h_host h_mtn ?_
      assumption
  · refine State.running_touches ?_ ?_
    · assumption
    · intro y4
      intro k5
      refine recomputeDom_touches h_regs h_out h_host h_mtn ?_
      assumption

theorem execDomainEntryComplete_touches {ps : Piece → Prop} {s0 : State} (h_regs : ps .regs) (h_free : ps .free) (h_out : ps .out) (h_ddr : ps .ddr) (h_poison : ps .poison) (h_host : ps .host) (h_latches : ps .latches) (h_hat : ps .hat) (h_stamps : ps .stamps) (h_brim : ps .brim) (h_mtn : ps .mtn) (h_crown : ps .crown) (h_dram : ps .dram) {v0 : Fin 209} {v1 : State} (h0 : Touches ps s0 v1) :
    Moves ps s0 (execDomainEntryComplete v0 v1) := by
  unfold execDomainEntryComplete
  lift_lets
  intro x0
  clear_value x0
  intro x1
  clear_value x1
  refine Moves.next ?_
  refine State.given_touches ?_ ?_
  · assumption
  · intro y2
    intro k3
    lift_lets
    intro x4
    have hx5 : Touches ps s0 x4 := by
      unfold x4
      refine State.putDom_touches h_regs h_out h_host h_mtn ?_
      assumption
    clear_value x4
    refine settleDom_touches h_regs h_out h_host h_mtn ?_
    refine refreshLow_touches h_mtn ?_
    refine bandFollows_touches h_regs h_free h_out h_host h_latches h_hat ?_
    refine Touches.ite ?_ ?_
    · refine loseDomain_touches h_regs h_ddr h_poison h_host h_stamps h_brim h_crown h_dram ?_
      assumption
    · assumption

theorem avsAck_touches {ps : Piece → Prop} {s0 : State} (h_regs : ps .regs) (h_out : ps .out) (h_host : ps .host) (h_latches : ps .latches) (h_mtn : ps .mtn) (h_dram : ps .dram) {v0 : State} (h0 : Touches ps s0 v0) :
    Touches ps s0 (avsAck v0) := by
  unfold avsAck
  split
  · assumption
  · lift_lets
    intro x0
    intro x1
    have hx2 : Touches ps s0 x1 := by
      unfold x1
      refine (Touches.upd_mtn h_mtn ?_)
      assumption
    intro x3
    refine sendAvs_touches h_regs h_out h_mtn ?_
    split
    · lift_lets
      intro x4
      have hx5 : Touches ps s0 x4 := by
        unfold x4
        refine (Touches.upd_mtn h_mtn ?_)
        unfold x1
        refine (Touches.upd_mtn h_mtn ?_)
        assumption
      refine Touches.ite ?_ ?_
      · refine toStage_touches h_regs h_out h_host h_mtn h_dram ?_
        unfold x4
        refine (Touches.upd_mtn h_mtn ?_)
        unfold x1
        refine (Touches.upd_mtn h_mtn ?_)
        assumption
      · unfold x4
        refine (Touches.upd_mtn h_mtn ?_)
        unfold x1
        refine (Touches.upd_mtn h_mtn ?_)
        assumption
    · refine refreshLow_touches h_mtn ?_
      refine lowReady_touches h_regs h_out h_host h_latches h_mtn ?_
      refine State.wr_touches h_regs ?_
      unfold x1
      refine (Touches.upd_mtn h_mtn ?_)
      assumption
    · refine refreshFloor_touches h_regs ?_
      refine State.bump_touches h_regs h_latches ?_
      refine State.wr_touches h_regs ?_
      refine State.wr_touches h_regs ?_
      unfold x1
      refine (Touches.upd_mtn h_mtn ?_)
      assumption
    · unfold x1
      refine (Touches.upd_mtn h_mtn ?_)
      assumption

theorem execAvsAck_touches {ps : Piece → Prop} {s0 : State} (h_regs : ps .regs) (h_out : ps .out) (h_host : ps .host) (h_latches : ps .latches) (h_mtn : ps .mtn) (h_dram : ps .dram) {v0 : State} (h0 : Touches ps s0 v0) :
    Moves ps s0 (execAvsAck v0) := by
  unfold execAvsAck
  refine Moves.next ?_
  refine avsAck_touches h_regs h_out h_host h_latches h_mtn h_dram ?_
  assumption

theorem avsTimeout_touches {ps : Piece → Prop} {s0 : State} (h_regs : ps .regs) (h_free : ps .free) (h_out : ps .out) (h_ddr : ps .ddr) (h_poison : ps .poison) (h_host : ps .host) (h_latches : ps .latches) (h_hat : ps .hat) (h_stamps : ps .stamps) (h_brim : ps .brim) (h_mtn : ps .mtn) (h_pwc : ps .pwc) (h_crown : ps .crown) (h_dram : ps .dram) {v0 : State} (h0 : Touches ps s0 v0) :
    Touches ps s0 (avsTimeout v0) := by
  unfold avsTimeout
  split
  · assumption
  · refine Touches.ite ?_ ?_
    · assumption
    · lift_lets
      intro x0
      have hx1 : Touches ps s0 x0 := by
        unfold x0
        refine State.bump_touches h_regs h_latches ?_
        assumption
      clear_value x0
      intro x2
      clear_value x2
      intro x3
      have hx4 : Touches ps s0 x3 := by
        unfold x3
        split
        · lift_lets
          intro x5
          clear_value x5
          refine State.putDom_touches h_regs h_out h_host h_mtn ?_
          assumption
        · assumption
      clear_value x3
      intro x6
      clear_value x6
      intro x7
      clear_value x7
      refine Touches.ite ?_ ?_
      · refine sendAvs_touches h_regs h_out h_mtn ?_
        assumption
      · refine sendAvs_touches h_regs h_out h_mtn ?_
        split
        · refine wakeFails_touches h_regs h_free h_out h_ddr h_poison h_host h_latches h_hat h_stamps h_brim h_mtn h_crown h_dram ?_
          refine (Touches.upd_mtn h_mtn ?_)
          assumption
        · refine lowReady_touches h_regs h_out h_host h_latches h_mtn ?_
          assumption
        · refine State.raise_touches h_regs h_out h_host h_latches ?_
          refine State.bump_touches h_regs h_latches ?_
          refine State.wr_touches h_regs ?_
          refine (Touches.upd_pwc h_pwc ?_)
          assumption
        · assumption

theorem execAvsTimeout_touches {ps : Piece → Prop} {s0 : State} (h_regs : ps .regs) (h_free : ps .free) (h_out : ps .out) (h_ddr : ps .ddr) (h_poison : ps .poison) (h_host : ps .host) (h_latches : ps .latches) (h_hat : ps .hat) (h_stamps : ps .stamps) (h_brim : ps .brim) (h_mtn : ps .mtn) (h_pwc : ps .pwc) (h_crown : ps .crown) (h_dram : ps .dram) {v0 : State} (h0 : Touches ps s0 v0) :
    Moves ps s0 (execAvsTimeout v0) := by
  unfold execAvsTimeout
  refine Moves.next ?_
  refine avsTimeout_touches h_regs h_free h_out h_ddr h_poison h_host h_latches h_hat h_stamps h_brim h_mtn h_pwc h_crown h_dram ?_
  assumption

theorem execWakeStageTimeout_touches {ps : Piece → Prop} {s0 : State} (h_regs : ps .regs) (h_free : ps .free) (h_out : ps .out) (h_ddr : ps .ddr) (h_poison : ps .poison) (h_host : ps .host) (h_latches : ps .latches) (h_hat : ps .hat) (h_stamps : ps .stamps) (h_brim : ps .brim) (h_mtn : ps .mtn) (h_crown : ps .crown) (h_dram : ps .dram) {v0 : Fin 209} {v1 : State} (h0 : Touches ps s0 v1) :
    Moves ps s0 (execWakeStageTimeout v0 v1) := by
  unfold execWakeStageTimeout
  lift_lets
  intro x0
  clear_value x0
  intro x1
  clear_value x1
  refine Moves.next ?_
  refine State.given_touches ?_ ?_
  · assumption
  · intro y2
    intro k3
    refine Touches.ite ?_ ?_
    · refine State.putDom_touches h_regs h_out h_host h_mtn ?_
      assumption
    · refine wakeFails_touches h_regs h_free h_out h_ddr h_poison h_host h_latches h_hat h_stamps h_brim h_mtn h_crown h_dram ?_
      assumption

theorem reinit_touches {ps : Piece → Prop} {s0 : State} (h_regs : ps .regs) (h_out : ps .out) (h_ddr : ps .ddr) (h_poison : ps .poison) (h_host : ps .host) (h_latches : ps .latches) (h_stamps : ps .stamps) (h_ucs : ps .ucs) (h_brim : ps .brim) (h_tbl : ps .tbl) (h_palm : ps .palm) (h_ldg : ps .ldg) (h_vsr : ps .vsr) (h_mtn : ps .mtn) {v0 : ℕ} {v1 : State} (h0 : Touches ps s0 v1) :
    Touches ps s0 (reinit v0 v1) := by
  unfold reinit
  refine Touches.ite ?_ ?_
  · refine reloadSlice_touches h_regs h_out h_host h_latches h_ucs h_tbl ?_
    assumption
  · refine Touches.ite ?_ ?_
    · refine Touches.foldl (fun _ _ _ => ?_) ?_
      · refine startLadder_touches h_regs h_out h_ddr h_poison h_host h_latches h_stamps h_brim h_palm h_ldg h_vsr h_mtn ?_
        assumption
      · assumption
    · assumption

theorem execDomSelWrite_touches {ps : Piece → Prop} {s0 : State} (h_regs : ps .regs) (h_latches : ps .latches) (h_mtn : ps .mtn) {v0 : BitVec 8} {v1 : State} (h0 : Touches ps s0 v1) :
    Moves ps s0 (execDomSelWrite v0 v1) := by
  unfold execDomSelWrite
  refine Moves.next ?_
  refine State.written_touches h_regs h_latches h_mtn ?_ ?_
  · assumption
  · intro y0
    intro k1
    refine selectDom_touches h_regs h_latches ?_
    assumption

theorem execXtalLost_touches {ps : Piece → Prop} {s0 : State} (h_regs : ps .regs) (h_out : ps .out) (h_host : ps .host) (h_latches : ps .latches) {v0 : State} (h0 : Touches ps s0 v0) :
    Moves ps s0 (execXtalLost v0) := by
  unfold execXtalLost
  refine Moves.next ?_
  refine State.given_touches ?_ ?_
  · assumption
  · intro y0
    intro k1
    refine State.vector_touches h_out h_host ?_
    refine State.raise_touches h_regs h_out h_host h_latches ?_
    refine State.set1_touches h_regs h_latches ?_
    refine State.wr_touches h_regs ?_
    assumption

end Sys2Proof.Machine
end

