-- ==== Sys2Proof/Laws/TouchFaults.lean ====
section
/-! SUPPORT. What the operations of Machine/Faults.lean may touch: one lemma for each. -/

set_option maxRecDepth 10000

namespace Sys2Proof.Machine

theorem State.refreshSummary_touches {ps : Piece → Prop} {s0 : State} (h_regs : ps .regs) (h_out : ps .out) {v0 : State} (h0 : Touches ps s0 v0) :
    Touches ps s0 (State.refreshSummary v0) := by
  unfold State.refreshSummary
  lift_lets
  intro x0
  clear_value x0
  intro x1
  clear_value x1
  intro x2
  have hx3 : Touches ps s0 x2 := by
    unfold x2
    refine State.wr_touches h_regs ?_
    refine State.wr_touches h_regs ?_
    refine State.wr_touches h_regs ?_
    refine State.wr_touches h_regs ?_
    assumption
  clear_value x2
  intro x4
  have hx5 : Touches ps s0 x4 := by
    unfold x4
    refine Touches.ite ?_ ?_
    · refine State.send_touches h_out ?_
      assumption
    · assumption
  clear_value x4
  split
  · refine State.wr_touches h_regs ?_
    assumption
  · refine State.wr_touches h_regs ?_
    assumption

theorem countReset_touches {ps : Piece → Prop} {s0 : State} (h_regs : ps .regs) (h_out : ps .out) (h_host : ps .host) (h_latches : ps .latches) (h_gnt : ps .gnt) {v0 : ℕ} {v1 : State} (h0 : Touches ps s0 v1) :
    Touches ps s0 (countReset v0 v1) := by
  unfold countReset
  split
  · assumption
  · lift_lets
    intro x0
    clear_value x0
    intro x1
    clear_value x1
    refine Touches.ite ?_ ?_
    · refine State.raise_touches h_regs h_out h_host h_latches ?_
      refine State.refreshSummary_touches h_regs h_out ?_
      refine State.putLine_touches h_gnt ?_
      assumption
    · refine State.putLine_touches h_gnt ?_
      assumption

theorem openQuench_touches {ps : Piece → Prop} {s0 : State} (h_regs : ps .regs) (h_gnt : ps .gnt) {v0 : ℕ} {v1 : ℕ} {v2 : State} (h0 : Touches ps s0 v2) :
    Touches ps s0 (openQuench v0 v1 v2) := by
  unfold openQuench
  refine Touches.ite ?_ ?_
  · assumption
  · lift_lets
    intro x0
    clear_value x0
    refine State.wr_touches h_regs ?_
    refine (Touches.upd_gnt h_gnt ?_)
    assumption

theorem showLine_touches {ps : Piece → Prop} {s0 : State} (h_regs : ps .regs) {v0 : ℕ} {v1 : State} (h0 : Touches ps s0 v1) :
    Touches ps s0 (showLine v0 v1) := by
  unfold showLine
  lift_lets
  intro x0
  clear_value x0
  intro x1
  clear_value x1
  refine State.wr_touches h_regs ?_
  refine State.wrPair_touches h_regs ?_
  refine State.wr_touches h_regs ?_
  refine State.wr_touches h_regs ?_
  refine State.wr_touches h_regs ?_
  refine State.wr_touches h_regs ?_
  refine State.wr_touches h_regs ?_
  refine State.wr_touches h_regs ?_
  refine State.wr_touches h_regs ?_
  refine State.wr_touches h_regs ?_
  refine State.wr_touches h_regs ?_
  assumption

theorem trainSpare_touches {ps : Piece → Prop} {s0 : State} (h_regs : ps .regs) (h_out : ps .out) (h_host : ps .host) (h_latches : ps .latches) (h_gnt : ps .gnt) {v0 : ℕ} {v1 : Bool} {v2 : ℕ} {v3 : State} (h0 : Touches ps s0 v3) :
    Touches ps s0 (trainSpare v0 v1 v2 v3) := by
  unfold trainSpare
  lift_lets
  intro x0
  clear_value x0
  refine State.given_touches ?_ ?_
  · assumption
  · intro y1
    intro k2
    lift_lets
    intro x3
    clear_value x3
    intro x4
    clear_value x4
    refine Touches.ite ?_ ?_
    · refine (Touches.upd_gnt h_gnt ?_)
      assumption
    · refine Touches.ite ?_ ?_
      · refine State.raise_touches h_regs h_out h_host h_latches ?_
        assumption
      · refine State.raise_touches h_regs h_out h_host h_latches ?_
        assumption

theorem wearSample_touches {ps : Piece → Prop} {s0 : State} (h_gnt : ps .gnt) {v0 : ℕ} {v1 : ℕ} {v2 : ℕ} {v3 : ℕ} {v4 : State} (h0 : Touches ps s0 v4) :
    Touches ps s0 (wearSample v0 v1 v2 v3 v4) := by
  unfold wearSample
  refine Touches.ite ?_ ?_
  · lift_lets
    intro x0
    clear_value x0
    intro x1
    clear_value x1
    intro x2
    clear_value x2
    intro x3
    clear_value x3
    refine (Touches.upd_gnt h_gnt ?_)
    assumption
  · assumption

theorem wearHour_touches {ps : Piece → Prop} {s0 : State} (h_regs : ps .regs) (h_out : ps .out) (h_host : ps .host) (h_latches : ps .latches) (h_gnt : ps .gnt) {v0 : List (ℕ × ℕ × ℕ)} {v1 : List ℕ} {v2 : State} (h0 : Touches ps s0 v2) :
    Touches ps s0 (wearHour v0 v1 v2) := by
  unfold wearHour
  lift_lets
  intro x0
  have hx1 : Touches ps s0 x0 := by
    unfold x0
    refine Touches.foldl (fun _ _ _ => ?_) ?_
    · refine (Touches.upd_gnt h_gnt ?_)
      assumption
    · assumption
  clear_value x0
  intro x2
  have hx3 : Touches ps s0 x2 := by
    unfold x2
    refine Touches.foldl (fun _ _ _ => ?_) ?_
    · refine wearSample_touches h_gnt ?_
      assumption
    · assumption
  clear_value x2
  split
  · refine State.wr_touches h_regs ?_
    refine State.wr_touches h_regs ?_
    refine State.wr_touches h_regs ?_
    assumption
  · lift_lets
    intro x4
    have hx5 : Touches ps s0 x4 := by
      unfold x4
      refine State.wr_touches h_regs ?_
      refine State.wr_touches h_regs ?_
      refine State.wr_touches h_regs ?_
      assumption
    clear_value x4
    refine Touches.ite ?_ ?_
    · refine State.raise_touches h_regs h_out h_host h_latches ?_
      assumption
    · assumption

theorem clearLines_touches {ps : Piece → Prop} {s0 : State} (h_regs : ps .regs) (h_out : ps .out) (h_host : ps .host) (h_gnt : ps .gnt) {v0 : ℕ} {v1 : ℕ} {v2 : State} (h0 : Touches ps s0 v2) :
    Touches ps s0 (clearLines v0 v1 v2) := by
  unfold clearLines
  lift_lets
  intro x0
  clear_value x0
  intro x1
  have hx2 : Touches ps s0 x1 := by
    unfold x1
    refine Touches.foldl (fun _ _ _ => ?_) ?_
    · lift_lets
      intro x3
      clear_value x3
      refine Touches.ite ?_ ?_
      · assumption
      · refine State.putLine_touches h_gnt ?_
        refine State.putBitAt_touches h_regs ?_
        assumption
    · assumption
  clear_value x1
  intro x4
  have hx5 : Touches ps s0 x4 := by
    unfold x4
    refine State.refreshSummary_touches h_regs h_out ?_
    assumption
  clear_value x4
  intro x6
  clear_value x6
  refine Touches.foldl (fun _ _ _ => ?_) ?_
  · refine Touches.ite ?_ ?_
    · refine State.vector_touches h_out h_host ?_
      assumption
    · assumption
  · assumption

theorem State.headerWrite_touches {ps : Piece → Prop} {s0 : State} (h_regs : ps .regs) (h_out : ps .out) (h_host : ps .host) (h_latches : ps .latches) {v0 : State} {v1 : ℕ} {v2 : ℕ} {v3 : State → State} (h0 : Touches ps s0 v0) (h1 : ∀ a0, Touches ps s0 a0 → Touches ps s0 (v3 a0)) :
    Touches ps s0 (State.headerWrite v0 v1 v2 v3) := by
  unfold State.headerWrite
  refine Touches.ite ?_ ?_
  · refine recordBad_touches h_regs h_out h_host h_latches ?_
    assumption
  · refine State.running_touches ?_ ?_
    · assumption
    · intro y0
      intro k1
      refine h1 _ ?_
      assumption

theorem injectCause_touches {ps : Piece → Prop} {s0 : State} (h_regs : ps .regs) (h_out : ps .out) (h_host : ps .host) (h_latches : ps .latches) (h_gnt : ps .gnt) {v0 : ℕ} {v1 : ℕ} {v2 : ℕ} {v3 : State} (h0 : Touches ps s0 v3) :
    Touches ps s0 (injectCause v0 v1 v2 v3) := by
  unfold injectCause
  lift_lets
  intro x0
  clear_value x0
  intro x1
  have hx2 : Touches ps s0 x1 := by
    unfold x1
    refine State.refreshSummary_touches h_regs h_out ?_
    refine State.setBit_touches h_regs h_latches ?_
    refine State.setBit_touches h_regs h_latches ?_
    assumption
  clear_value x1
  intro x3
  have hx4 : Touches ps s0 x3 := by
    unfold x3
    refine Touches.ite ?_ ?_
    · refine State.vector_touches h_out h_host ?_
      assumption
    · assumption
  clear_value x3
  intro x5
  clear_value x5
  intro x6
  clear_value x6
  intro x7
  clear_value x7
  intro x8
  clear_value x8
  refine Touches.ite ?_ ?_
  · assumption
  · refine Touches.ite ?_ ?_
    · refine State.putLine_touches h_gnt ?_
      refine Touches.ite ?_ ?_
      · refine State.vector_touches h_out h_host ?_
        assumption
      · assumption
    · refine Touches.ite ?_ ?_
      · refine (Touches.upd_gnt h_gnt ?_)
        assumption
      · assumption

theorem injectCauses_touches {ps : Piece → Prop} {s0 : State} (h_regs : ps .regs) (h_out : ps .out) (h_host : ps .host) (h_latches : ps .latches) (h_gnt : ps .gnt) {v0 : ℕ} {v1 : ℕ} {v2 : State} (h0 : Touches ps s0 v2) :
    Touches ps s0 (injectCauses v0 v1 v2) := by
  unfold injectCauses
  split
  · assumption
  · refine Touches.foldl (fun _ _ _ => ?_) ?_
    · refine Touches.ite ?_ ?_
      · refine injectCause_touches h_regs h_out h_host h_latches h_gnt ?_
        assumption
      · assumption
    · assumption

theorem execErrInject_touches {ps : Piece → Prop} {s0 : State} (h_regs : ps .regs) (h_out : ps .out) (h_host : ps .host) (h_latches : ps .latches) (h_gnt : ps .gnt) {v0 : BitVec 14} {v1 : BitVec 16} {v2 : State} (h0 : Touches ps s0 v2) :
    Moves ps s0 (execErrInject v0 v1 v2) := by
  unfold execErrInject
  refine Moves.next ?_
  refine State.headerWrite_touches h_regs h_out h_host h_latches ?_ ?_
  · assumption
  · intro y0
    intro k1
    refine injectCauses_touches h_regs h_out h_host h_latches h_gnt ?_
    assumption

theorem clearInj_touches {ps : Piece → Prop} {s0 : State} (h_regs : ps .regs) (h_out : ps .out) (h_host : ps .host) {v0 : ℕ} {v1 : ℕ} {v2 : State} (h0 : Touches ps s0 v2) :
    Touches ps s0 (clearInj v0 v1 v2) := by
  unfold clearInj
  lift_lets
  intro x0
  clear_value x0
  intro x1
  clear_value x1
  intro x2
  have hx3 : Touches ps s0 x2 := by
    unfold x2
    refine State.refreshSummary_touches h_regs h_out ?_
    refine Touches.foldl (fun _ _ _ => ?_) ?_
    · refine Touches.ite ?_ ?_
      · refine State.putBitAt_touches h_regs ?_
        assumption
      · assumption
    · assumption
  clear_value x2
  refine Touches.foldl (fun _ _ _ => ?_) ?_
  · refine Touches.ite ?_ ?_
    · refine State.vector_touches h_out h_host ?_
      assumption
    · assumption
  · assumption

theorem execSnapSelWrite_touches {ps : Piece → Prop} {s0 : State} (h_regs : ps .regs) (h_latches : ps .latches) (h_mtn : ps .mtn) {v0 : Fin 2} {v1 : State} (h0 : Touches ps s0 v1) :
    Moves ps s0 (execSnapSelWrite v0 v1) := by
  unfold execSnapSelWrite
  refine Moves.next ?_
  refine State.written_touches h_regs h_latches h_mtn ?_ ?_
  · assumption
  · intro y0
    intro k1
    refine State.wr_touches h_regs ?_
    assumption

theorem writeClassMap_touches {ps : Piece → Prop} {s0 : State} (h_regs : ps .regs) {v0 : ℕ} {v1 : ℕ} {v2 : State} (h0 : Touches ps s0 v2) :
    Touches ps s0 (writeClassMap v0 v1 v2) := by
  unfold writeClassMap
  lift_lets
  intro x0
  have hx1 : Touches ps s0 x0 := by
    unfold x0
    refine Touches.foldl (fun _ _ _ => ?_) ?_
    · refine State.wrx_touches h_regs ?_
      assumption
    · assumption
  clear_value x0
  refine State.refreshErr_touches h_regs ?_
  refine Touches.foldl (fun _ _ _ => ?_) ?_
  · refine Touches.ite ?_ ?_
    · refine State.wr_touches h_regs ?_
      assumption
    · assumption
  · assumption

theorem showWear_touches {ps : Piece → Prop} {s0 : State} (h_regs : ps .regs) {v0 : ℕ} {v1 : ℕ} {v2 : State} (h0 : Touches ps s0 v2) :
    Touches ps s0 (showWear v0 v1 v2) := by
  unfold showWear
  lift_lets
  intro x0
  clear_value x0
  intro x1
  have hx2 : Touches ps s0 x1 := by
    unfold x1
    refine State.wr_touches h_regs ?_
    refine State.wr_touches h_regs ?_
    assumption
  clear_value x1
  refine Touches.ite ?_ ?_
  · refine State.wr_touches h_regs ?_
    refine State.wr_touches h_regs ?_
    refine State.wr_touches h_regs ?_
    refine State.wr_touches h_regs ?_
    assumption
  · refine State.wr_touches h_regs ?_
    refine State.wr_touches h_regs ?_
    refine State.wr_touches h_regs ?_
    refine State.wr_touches h_regs ?_
    assumption

theorem closeQuench_touches {ps : Piece → Prop} {s0 : State} (h_regs : ps .regs) (h_out : ps .out) (h_host : ps .host) (h_latches : ps .latches) (h_gnt : ps .gnt) {v0 : ℕ} {v1 : List (ℕ × ℕ)} {v2 : State} (h0 : Touches ps s0 v2) :
    Touches ps s0 (closeQuench v0 v1 v2) := by
  unfold closeQuench
  lift_lets
  intro x0
  clear_value x0
  refine State.given_touches ?_ ?_
  · assumption
  · intro y1
    intro k2
    lift_lets
    intro x3
    clear_value x3
    intro x4
    clear_value x4
    intro x5
    have hx6 : Touches ps s0 x5 := by
      unfold x5
      refine (Touches.upd_gnt h_gnt ?_)
      assumption
    clear_value x5
    intro x7
    have hx8 : Touches ps s0 x7 := by
      unfold x7
      refine State.wr_touches h_regs ?_
      assumption
    clear_value x7
    intro x9
    clear_value x9
    intro x10
    clear_value x10
    intro x11
    have hx12 : Touches ps s0 x11 := by
      unfold x11
      refine (Touches.upd_latches h_latches ?_)
      assumption
    clear_value x11
    refine Touches.foldl (fun _ _ _ => ?_) ?_
    · refine State.raise_touches h_regs h_out h_host h_latches ?_
      assumption
    · assumption

theorem execLineStatusClear_touches {ps : Piece → Prop} {s0 : State} (h_regs : ps .regs) (h_out : ps .out) (h_host : ps .host) (h_latches : ps .latches) (h_mtn : ps .mtn) (h_gnt : ps .gnt) {v0 : Fin 16} {v1 : Word} {v2 : State} (h0 : Touches ps s0 v2) :
    Moves ps s0 (execLineStatusClear v0 v1 v2) := by
  unfold execLineStatusClear
  refine Moves.next ?_
  refine State.written_touches h_regs h_latches h_mtn ?_ ?_
  · assumption
  · intro y0
    intro k1
    refine clearLines_touches h_regs h_out h_host h_gnt ?_
    assumption

theorem State.refreshSnap_touches {ps : Piece → Prop} {s0 : State} (h_regs : ps .regs) {v0 : State} (h0 : Touches ps s0 v0) :
    Touches ps s0 (State.refreshSnap v0) := by
  unfold State.refreshSnap
  lift_lets
  intro x0
  clear_value x0
  intro x1
  clear_value x1
  intro x2
  clear_value x2
  intro x3
  clear_value x3
  refine State.wr_touches h_regs ?_
  refine State.wr_touches h_regs ?_
  refine State.wr_touches h_regs ?_
  refine State.wr_touches h_regs ?_
  assumption

theorem writeSnapshot_touches {ps : Piece → Prop} {s0 : State} (h_regs : ps .regs) (h_gnt : ps .gnt) {v0 : State} (h0 : Touches ps s0 v0) :
    Touches ps s0 (writeSnapshot v0) := by
  unfold writeSnapshot
  split
  · assumption
  · refine State.given_touches ?_ ?_
    · assumption
    · intro y0
      intro k1
      lift_lets
      intro x2
      clear_value x2
      intro x3
      clear_value x3
      intro x4
      clear_value x4
      intro x5
      clear_value x5
      intro x6
      clear_value x6
      refine State.wr_touches h_regs ?_
      refine State.refreshSnap_touches h_regs ?_
      refine (Touches.upd_gnt h_gnt ?_)
      assumption

theorem endEscalation_touches {ps : Piece → Prop} {s0 : State} (h_regs : ps .regs) (h_out : ps .out) (h_gnt : ps .gnt) {v0 : ℕ} {v1 : State} (h0 : Touches ps s0 v1) :
    Touches ps s0 (endEscalation v0 v1) := by
  unfold endEscalation
  lift_lets
  intro x0
  clear_value x0
  refine State.given_touches ?_ ?_
  · assumption
  · intro y1
    intro k2
    refine State.refreshSummary_touches h_regs h_out ?_
    refine State.putLine_touches h_gnt ?_
    assumption

theorem reactReal_touches {ps : Piece → Prop} {s0 : State} (h_regs : ps .regs) (h_out : ps .out) (h_host : ps .host) (h_latches : ps .latches) (h_gnt : ps .gnt) {v0 : ℕ} {v1 : ℕ} {v2 : ℕ} {v3 : ℕ} {v4 : State} (h0 : Touches ps s0 v4) :
    Touches ps s0 (reactReal v0 v1 v2 v3 v4) := by
  unfold reactReal
  lift_lets
  intro x0
  clear_value x0
  intro x1
  have hx2 : Touches ps s0 x1 := by
    unfold x1
    refine State.putLine_touches h_gnt ?_
    assumption
  clear_value x1
  intro x3
  have hx4 : Touches ps s0 x3 := by
    unfold x3
    refine State.bump_touches h_regs h_latches ?_
    refine State.setBit_touches h_regs h_latches ?_
    assumption
  clear_value x3
  intro x5
  have hx6 : Touches ps s0 x5 := by
    unfold x5
    refine Touches.ite ?_ ?_
    · refine State.wr_touches h_regs ?_
      assumption
    · assumption
  clear_value x5
  intro x7
  clear_value x7
  intro x8
  clear_value x8
  intro x9
  clear_value x9
  intro x10
  clear_value x10
  intro x11
  have hx12 : Touches ps s0 x11 := by
    unfold x11
    refine (Touches.upd_gnt h_gnt ?_)
    assumption
  clear_value x11
  intro x13
  have hx14 : Touches ps s0 x13 := by
    unfold x13
    refine Touches.ite ?_ ?_
    · refine State.vector_touches h_out h_host ?_
      assumption
    · refine Touches.ite ?_ ?_
      · refine State.vector_touches h_out h_host ?_
        assumption
      · assumption
  clear_value x13
  refine State.refreshSummary_touches h_regs h_out ?_
  assumption

theorem latchLine_touches {ps : Piece → Prop} {s0 : State} (h_regs : ps .regs) (h_out : ps .out) (h_host : ps .host) (h_latches : ps .latches) (h_gnt : ps .gnt) {v0 : ℕ} {v1 : State} (h0 : Touches ps s0 v1) :
    Touches ps s0 (latchLine v0 v1) := by
  unfold latchLine
  split
  · refine Touches.ite ?_ ?_
    · assumption
    · refine reactReal_touches h_regs h_out h_host h_latches h_gnt ?_
      assumption
  · assumption

theorem execLineLatch_touches {ps : Piece → Prop} {s0 : State} (h_regs : ps .regs) (h_out : ps .out) (h_host : ps .host) (h_latches : ps .latches) (h_gnt : ps .gnt) {v0 : Fin 1024} {v1 : List (BitVec 14 × Fin 16)} {v2 : State} (h0 : Touches ps s0 v2) :
    Moves ps s0 (execLineLatch v0 v1 v2) := by
  unfold execLineLatch
  lift_lets
  intro x0
  clear_value x0
  intro x1
  clear_value x1
  intro x2
  have hx3 : Touches ps s0 x2 := by
    unfold x2
    refine Touches.foldl (fun _ _ _ => ?_) ?_
    · refine State.raise_touches h_regs h_out h_host h_latches ?_
      assumption
    · assumption
  clear_value x2
  refine Moves.next ?_
  refine latchLine_touches h_regs h_out h_host h_latches h_gnt ?_
  refine Touches.ite ?_ ?_
  · refine State.vector_touches h_out h_host ?_
    assumption
  · assumption

theorem switchSpare_touches {ps : Piece → Prop} {s0 : State} (h_regs : ps .regs) (h_out : ps .out) (h_host : ps .host) (h_latches : ps .latches) (h_gnt : ps .gnt) {v0 : ℕ} {v1 : Bool} {v2 : ℕ} {v3 : State} (h0 : Touches ps s0 v3) :
    Touches ps s0 (switchSpare v0 v1 v2 v3) := by
  unfold switchSpare
  lift_lets
  intro x0
  clear_value x0
  refine State.given_touches ?_ ?_
  · assumption
  · intro y1
    intro k2
    lift_lets
    intro x3
    clear_value x3
    intro x4
    clear_value x4
    intro x5
    have hx6 : Touches ps s0 x5 := by
      unfold x5
      refine (Touches.upd_gnt h_gnt ?_)
      assumption
    clear_value x5
    intro x7
    have hx8 : Touches ps s0 x7 := by
      unfold x7
      refine State.wr_touches h_regs ?_
      assumption
    clear_value x7
    intro x9
    have hx10 : Touches ps s0 x9 := by
      unfold x9
      refine State.wr_touches h_regs ?_
      assumption
    clear_value x9
    refine Touches.ite ?_ ?_
    · refine State.raise_touches h_regs h_out h_host h_latches ?_
      refine Touches.ite ?_ ?_
      · refine State.wr_touches h_regs ?_
        assumption
      · assumption
    · refine State.raise_touches h_regs h_out h_host h_latches ?_
      refine Touches.ite ?_ ?_
      · refine State.wr_touches h_regs ?_
        assumption
      · assumption

theorem execSeamSpareSwitch_touches {ps : Piece → Prop} {s0 : State} (h_regs : ps .regs) (h_out : ps .out) (h_host : ps .host) (h_latches : ps .latches) (h_gnt : ps .gnt) {v0 : Fin 9} {v1 : Bool} {v2 : Fin 1280} {v3 : State} (h0 : Touches ps s0 v3) :
    Moves ps s0 (execSeamSpareSwitch v0 v1 v2 v3) := by
  unfold execSeamSpareSwitch
  refine Moves.next ?_
  refine State.running_touches ?_ ?_
  · assumption
  · intro y0
    intro k1
    refine switchSpare_touches h_regs h_out h_host h_latches h_gnt ?_
    assumption

theorem checkWire_touches {ps : Piece → Prop} {s0 : State} (h_regs : ps .regs) (h_out : ps .out) (h_host : ps .host) (h_latches : ps .latches) (h_ticks : ps .ticks) (h_gnt : ps .gnt) {v0 : ℕ} {v1 : Bool} {v2 : ℕ} {v3 : ℕ} {v4 : Bool} {v5 : State} (h0 : Touches ps s0 v5) :
    Touches ps s0 (checkWire v0 v1 v2 v3 v4 v5) := by
  unfold checkWire
  refine Touches.ite ?_ ?_
  · refine trainSpare_touches h_regs h_out h_host h_latches h_gnt ?_
    assumption
  · refine State.periodic_touches h_ticks ?_ ?_
    · assumption
    · intro y0
      intro k1
      refine Touches.ite ?_ ?_
      · refine trainSpare_touches h_regs h_out h_host h_latches h_gnt ?_
        assumption
      · assumption

theorem execLineSelWrite_touches {ps : Piece → Prop} {s0 : State} (h_regs : ps .regs) (h_latches : ps .latches) (h_mtn : ps .mtn) {v0 : Fin 1024} {v1 : State} (h0 : Touches ps s0 v1) :
    Moves ps s0 (execLineSelWrite v0 v1) := by
  unfold execLineSelWrite
  refine Moves.next ?_
  refine State.written_touches h_regs h_latches h_mtn ?_ ?_
  · assumption
  · intro y0
    intro k1
    refine showLine_touches h_regs ?_
    assumption

theorem execWearSelWrite_touches {ps : Piece → Prop} {s0 : State} (h_regs : ps .regs) (h_latches : ps .latches) (h_mtn : ps .mtn) {v0 : Fin 4} {v1 : Fin 1024} {v2 : State} (h0 : Touches ps s0 v2) :
    Moves ps s0 (execWearSelWrite v0 v1 v2) := by
  unfold execWearSelWrite
  refine Moves.next ?_
  refine State.written_touches h_regs h_latches h_mtn ?_ ?_
  · assumption
  · intro y0
    intro k1
    refine showWear_touches h_regs ?_
    assumption

theorem execQuenchClose_touches {ps : Piece → Prop} {s0 : State} (h_regs : ps .regs) (h_out : ps .out) (h_host : ps .host) (h_latches : ps .latches) (h_gnt : ps .gnt) {v0 : BitVec 14} {v1 : List (BitVec 14 × Fin 16)} {v2 : State} (h0 : Touches ps s0 v2) :
    Moves ps s0 (execQuenchClose v0 v1 v2) := by
  unfold execQuenchClose
  refine Moves.next ?_
  refine closeQuench_touches h_regs h_out h_host h_latches h_gnt ?_
  assumption

theorem execErrClassMapWrite_touches {ps : Piece → Prop} {s0 : State} (h_regs : ps .regs) (h_out : ps .out) (h_host : ps .host) (h_latches : ps .latches) {v0 : BitVec 14} {v1 : Word} {v2 : State} (h0 : Touches ps s0 v2) :
    Moves ps s0 (execErrClassMapWrite v0 v1 v2) := by
  unfold execErrClassMapWrite
  refine Moves.next ?_
  refine State.headerWrite_touches h_regs h_out h_host h_latches ?_ ?_
  · assumption
  · intro y0
    intro k1
    refine Touches.ite ?_ ?_
    · assumption
    · refine writeClassMap_touches h_regs ?_
      assumption

theorem unmaskVector_touches {ps : Piece → Prop} {s0 : State} (h_out : ps .out) (h_host : ps .host) {v0 : ℕ} {v1 : State} (h0 : Touches ps s0 v1) :
    Touches ps s0 (unmaskVector v0 v1) := by
  unfold unmaskVector
  lift_lets
  intro x0
  clear_value x0
  intro x1
  have hx2 : Touches ps s0 x1 := by
    unfold x1
    refine (Touches.upd_host h_host ?_)
    assumption
  clear_value x1
  intro x3
  clear_value x3
  refine Touches.ite ?_ ?_
  · refine State.send_touches h_out ?_
    refine (Touches.upd_host h_host ?_)
    assumption
  · assumption

theorem writeMsix_touches {ps : Piece → Prop} {s0 : State} (h_out : ps .out) (h_host : ps .host) {v0 : ℕ} {v1 : Option (ℕ × ℕ)} {v2 : Bool} {v3 : State} (h0 : Touches ps s0 v3) :
    Touches ps s0 (writeMsix v0 v1 v2 v3) := by
  unfold writeMsix
  lift_lets
  intro x0
  clear_value x0
  intro x1
  have hx2 : Touches ps s0 x1 := by
    unfold x1
    split
    · refine (Touches.upd_host h_host ?_)
      assumption
    · assumption
  clear_value x1
  intro x3
  clear_value x3
  refine Touches.ite ?_ ?_
  · refine (Touches.upd_host h_host ?_)
    assumption
  · refine unmaskVector_touches h_out h_host ?_
    assumption

theorem execMsixUnmask_touches {ps : Piece → Prop} {s0 : State} (h_out : ps .out) (h_host : ps .host) {v0 : MsixEntry} {v1 : State} (h0 : Touches ps s0 v1) :
    Moves ps s0 (execMsixUnmask v0 v1) := by
  unfold execMsixUnmask
  refine Moves.next ?_
  refine writeMsix_touches h_out h_host ?_
  assumption

theorem execEscalationEnd_touches {ps : Piece → Prop} {s0 : State} (h_regs : ps .regs) (h_out : ps .out) (h_gnt : ps .gnt) {v0 : Fin 1024} {v1 : State} (h0 : Touches ps s0 v1) :
    Moves ps s0 (execEscalationEnd v0 v1) := by
  unfold execEscalationEnd
  refine Moves.next ?_
  refine endEscalation_touches h_regs h_out h_gnt ?_
  assumption

theorem gntParity_touches {ps : Piece → Prop} {s0 : State} (h_regs : ps .regs) (h_out : ps .out) (h_host : ps .host) (h_latches : ps .latches) (h_gnt : ps .gnt) {v0 : State} (h0 : Touches ps s0 v0) :
    Touches ps s0 (gntParity v0) := by
  unfold gntParity
  lift_lets
  intro x0
  have hx1 : Touches ps s0 x0 := by
    unfold x0
    refine State.raise_touches h_regs h_out h_host h_latches ?_
    refine State.wr_touches h_regs ?_
    assumption
  clear_value x0
  intro x2
  clear_value x2
  refine Touches.ite ?_ ?_
  · assumption
  · refine (Touches.upd_gnt h_gnt ?_)
    assumption

theorem execGntRegParity_touches {ps : Piece → Prop} {s0 : State} (h_regs : ps .regs) (h_out : ps .out) (h_host : ps .host) (h_latches : ps .latches) (h_gnt : ps .gnt) {v0 : State} (h0 : Touches ps s0 v0) :
    Moves ps s0 (execGntRegParity v0) := by
  unfold execGntRegParity
  refine Moves.next ?_
  refine gntParity_touches h_regs h_out h_host h_latches h_gnt ?_
  assumption

theorem execFaultSnapshotWrite_touches {ps : Piece → Prop} {s0 : State} (h_regs : ps .regs) (h_gnt : ps .gnt) {v0 : State} (h0 : Touches ps s0 v0) :
    Moves ps s0 (execFaultSnapshotWrite v0) := by
  unfold execFaultSnapshotWrite
  refine Moves.next ?_
  refine writeSnapshot_touches h_regs h_gnt ?_
  assumption

theorem execSeamWireCheck_touches {ps : Piece → Prop} {s0 : State} (h_regs : ps .regs) (h_out : ps .out) (h_host : ps .host) (h_latches : ps .latches) (h_ticks : ps .ticks) (h_gnt : ps .gnt) {v0 : Fin 9} {v1 : Bool} {v2 : Fin 1280} {v3 : WireCheck} {v4 : State} (h0 : Touches ps s0 v4) :
    Moves ps s0 (execSeamWireCheck v0 v1 v2 v3 v4) := by
  unfold execSeamWireCheck
  refine Moves.next ?_
  refine State.running_touches ?_ ?_
  · assumption
  · intro y0
    intro k1
    refine checkWire_touches h_regs h_out h_host h_latches h_ticks h_gnt ?_
    assumption

theorem execWearHour_touches {ps : Piece → Prop} {s0 : State} (h_regs : ps .regs) (h_out : ps .out) (h_host : ps .host) (h_latches : ps .latches) (h_ticks : ps .ticks) (h_gnt : ps .gnt) {v0 : List (Fin 4 × Fin 1024 × ℕ)} {v1 : List (Fin 1024)} {v2 : State} (h0 : Touches ps s0 v2) :
    Moves ps s0 (execWearHour v0 v1 v2) := by
  unfold execWearHour
  refine Moves.next ?_
  refine State.running_touches ?_ ?_
  · assumption
  · intro y0
    intro k1
    refine State.periodic_touches h_ticks ?_ ?_
    · assumption
    · intro y2
      intro k3
      refine wearHour_touches h_regs h_out h_host h_latches h_gnt ?_
      assumption

end Sys2Proof.Machine
end

