-- ==== Sys2Proof/Laws/TouchSafe.lean ====
section
/-! SUPPORT. What the operations of Machine/Safe.lean may touch: one lemma for each. -/

set_option maxRecDepth 10000

namespace Sys2Proof.Machine

theorem endFrames_touches {ps : Piece → Prop} {s0 : State} (h_regs : ps .regs) (h_out : ps .out) (h_ddr : ps .ddr) (h_poison : ps .poison) (h_host : ps .host) (h_latches : ps .latches) (h_brim : ps .brim) (h_palm : ps .palm) (h_ldg : ps .ldg) (h_vsr : ps .vsr) {v0 : State} (h0 : Touches ps s0 v0) :
    Touches ps s0 (endFrames v0) := by
  unfold endFrames
  refine Touches.foldl (fun _ _ _ => ?_) ?_
  · split
    · refine finishReplica_touches h_regs h_out h_ddr h_poison h_host h_latches h_brim h_palm h_ldg h_vsr ?_
      refine stompReplica_touches h_regs h_out h_host h_latches h_palm h_vsr ?_
      assumption
    · assumption
  · assumption

theorem safeVector_touches {ps : Piece → Prop} {s0 : State} (h_out : ps .out) (h_host : ps .host) (h_gnt : ps .gnt) {v0 : State} (h0 : Touches ps s0 v0) :
    Touches ps s0 (safeVector v0) := by
  unfold safeVector
  lift_lets
  intro x0
  clear_value x0
  intro x1
  have hx2 : Touches ps s0 x1 := by
    unfold x1
    refine (Touches.upd_gnt h_gnt ?_)
    assumption
  clear_value x1
  refine Touches.ite ?_ ?_
  · refine State.vector_touches h_out h_host ?_
    assumption
  · assumption

theorem stopTraffic_touches {ps : Piece → Prop} {s0 : State} (h_regs : ps .regs) (h_out : ps .out) (h_ddr : ps .ddr) (h_poison : ps .poison) (h_host : ps .host) (h_latches : ps .latches) (h_ucs : ps .ucs) (h_brim : ps .brim) (h_palm : ps .palm) (h_timing : ps .timing) (h_ses : ps .ses) (h_ldg : ps .ldg) (h_vsr : ps .vsr) {v0 : State} (h0 : Touches ps s0 v0) :
    Touches ps s0 (stopTraffic v0) := by
  unfold stopTraffic
  lift_lets
  intro x0
  have hx1 : Touches ps s0 x0 := by
    unfold x0
    refine endFrames_touches h_regs h_out h_ddr h_poison h_host h_latches h_brim h_palm h_ldg h_vsr ?_
    assumption
  clear_value x0
  intro x2
  clear_value x2
  intro x3
  clear_value x3
  intro x4
  clear_value x4
  intro x5
  clear_value x5
  refine Touches.multi (b := x0) ?_ (fun p hn => by cases p <;> first | exact absurd (by assumption) hn | rfl) (fun hs => hs) (fun hs => hs)
  assumption

theorem enterSafe_touches {ps : Piece → Prop} {s0 : State} (h_regs : ps .regs) (h_free : ps .free) (h_out : ps .out) (h_ddr : ps .ddr) (h_poison : ps .poison) (h_host : ps .host) (h_latches : ps .latches) (h_hat : ps .hat) (h_ucs : ps .ucs) (h_brim : ps .brim) (h_palm : ps .palm) (h_timing : ps .timing) (h_ses : ps .ses) (h_ldg : ps .ldg) (h_vsr : ps .vsr) (h_gnt : ps .gnt) (h_crown : ps .crown) {v0 : SafeEntry} {v1 : State} (h0 : Touches ps s0 v1) :
    Touches ps s0 (enterSafe v0 v1) := by
  unfold enterSafe
  lift_lets
  intro x0
  clear_value x0
  intro x1
  clear_value x1
  intro x2
  clear_value x2
  intro x3
  have hx4 : Touches ps s0 x3 := by
    unfold x3
    refine safeVector_touches h_out h_host h_gnt ?_
    refine Touches.foldl (fun _ _ _ => ?_) ?_
    · refine State.count_touches h_regs h_vsr ?_
      assumption
    · refine stopTraffic_touches h_regs h_out h_ddr h_poison h_host h_latches h_ucs h_brim h_palm h_timing h_ses h_ldg h_vsr ?_
      assumption
  clear_value x3
  intro x5
  clear_value x5
  intro x6
  clear_value x6
  intro x7
  have hx8 : Touches ps s0 x7 := by
    unfold x7
    refine Touches.multi (b := x3) ?_ (fun p hn => by cases p <;> first | exact absurd (by assumption) hn | rfl) (fun hs => hs) (fun hs => hs)
    assumption
  clear_value x7
  intro x9
  have hx10 : Touches ps s0 x9 := by
    unfold x9
    refine State.refreshSummary_touches h_regs h_out ?_
    refine State.wr_touches h_regs ?_
    refine State.wr_touches h_regs ?_
    refine State.wr_touches h_regs ?_
    assumption
  clear_value x9
  intro x11
  have hx12 : Touches ps s0 x11 := by
    unfold x11
    refine State.send_touches h_out ?_
    refine State.send_touches h_out ?_
    assumption
  clear_value x11
  refine ledgerSafe_touches h_regs h_ldg ?_
  refine enterHoldover_touches h_regs h_free h_out h_host h_latches h_hat ?_
  refine stopSlew_touches h_regs h_hat ?_
  assumption

theorem execSafeStateEntry_touches {ps : Piece → Prop} {s0 : State} (h_regs : ps .regs) (h_free : ps .free) (h_out : ps .out) (h_ddr : ps .ddr) (h_poison : ps .poison) (h_host : ps .host) (h_latches : ps .latches) (h_hat : ps .hat) (h_ucs : ps .ucs) (h_brim : ps .brim) (h_palm : ps .palm) (h_timing : ps .timing) (h_ses : ps .ses) (h_ldg : ps .ldg) (h_vsr : ps .vsr) (h_gnt : ps .gnt) (h_crown : ps .crown) {v0 : State} (h0 : Touches ps s0 v0) :
    Moves ps s0 (execSafeStateEntry v0) := by
  unfold execSafeStateEntry
  refine Moves.next ?_
  split
  · refine Touches.ite ?_ ?_
    · assumption
    · refine enterSafe_touches h_regs h_free h_out h_ddr h_poison h_host h_latches h_hat h_ucs h_brim h_palm h_timing h_ses h_ldg h_vsr h_gnt h_crown ?_
      assumption
  · assumption

end Sys2Proof.Machine
end

