-- ==== Sys2Proof/Laws/TouchCrown.lean ====
section
/-! SUPPORT. What the operations of Machine/Crown.lean may touch: one lemma for each. -/

set_option maxRecDepth 10000

namespace Sys2Proof.Machine

theorem setStandby_touches {ps : Piece → Prop} {s0 : State} (h_regs : ps .regs) {v0 : ℕ} {v1 : State} (h0 : Touches ps s0 v1) :
    Touches ps s0 (setStandby v0 v1) := by
  unfold setStandby
  refine State.wr_touches h_regs ?_
  assumption

theorem stopCrownRing_touches {ps : Piece → Prop} {s0 : State} (h_regs : ps .regs) (h_out : ps .out) (h_host : ps .host) (h_latches : ps .latches) (h_crown : ps .crown) {v0 : State} (h0 : Touches ps s0 v0) :
    Touches ps s0 (stopCrownRing v0) := by
  unfold stopCrownRing
  lift_lets
  intro x0
  clear_value x0
  refine State.vector_touches h_out h_host ?_
  refine State.raise_touches h_regs h_out h_host h_latches ?_
  refine State.set1_touches h_regs h_latches ?_
  refine State.set1_touches h_regs h_latches ?_
  refine (Touches.upd_crown h_crown ?_)
  assumption

theorem fetchCrown_touches {ps : Piece → Prop} {s0 : State} (h_regs : ps .regs) (h_out : ps .out) (h_host : ps .host) (h_latches : ps .latches) (h_crown : ps .crown) {v0 : State} (h0 : Touches ps s0 v0) :
    Touches ps s0 (fetchCrown v0) := by
  unfold fetchCrown
  refine Touches.ite ?_ ?_
  · refine Touches.ite ?_ ?_
    · lift_lets
      intro x0
      clear_value x0
      refine (Touches.upd_crown h_crown ?_)
      assumption
    · refine stopCrownRing_touches h_regs h_out h_host h_latches h_crown ?_
      assumption
  · assumption

theorem crownComplete_touches {ps : Piece → Prop} {s0 : State} (h_regs : ps .regs) (h_out : ps .out) (h_host : ps .host) (h_latches : ps .latches) (h_crown : ps .crown) {v0 : Bool} {v1 : CrownDone} {v2 : State} (h0 : Touches ps s0 v2) :
    Touches ps s0 (crownComplete v0 v1 v2) := by
  unfold crownComplete
  lift_lets
  intro x0
  clear_value x0
  intro x1
  have hx2 : Touches ps s0 x1 := by
    unfold x1
    refine (Touches.upd_crown h_crown ?_)
    assumption
  clear_value x1
  intro x3
  clear_value x3
  intro x4
  clear_value x4
  intro x5
  have hx6 : Touches ps s0 x5 := by
    unfold x5
    refine State.send_touches h_out ?_
    refine State.send_touches h_out ?_
    assumption
  clear_value x5
  intro x7
  clear_value x7
  intro x8
  clear_value x8
  intro x9
  have hx10 : Touches ps s0 x9 := by
    unfold x9
    refine Touches.foldl (fun _ _ _ => ?_) ?_
    · refine State.wri_touches h_regs ?_
      assumption
    · assumption
  clear_value x9
  refine Touches.ite ?_ ?_
  · split
    · assumption
    · lift_lets
      intro x11
      have hx12 : Touches ps s0 x11 := by
        unfold x11
        refine State.wr_touches h_regs ?_
        refine (Touches.upd_crown h_crown ?_)
        assumption
      clear_value x11
      refine Touches.ite ?_ ?_
      · refine stopCrownRing_touches h_regs h_out h_host h_latches h_crown ?_
        assumption
      · refine Touches.ite ?_ ?_
        · assumption
        · refine State.vector_touches h_out h_host ?_
          assumption
  · refine State.vector_touches h_out h_host ?_
    refine State.set1_touches h_regs h_latches ?_
    refine State.wr_touches h_regs ?_
    assumption

theorem crownSkip_touches {ps : Piece → Prop} {s0 : State} (h_regs : ps .regs) (h_out : ps .out) (h_host : ps .host) (h_latches : ps .latches) (h_crown : ps .crown) {v0 : Bool} {v1 : ℕ} {v2 : State} (h0 : Touches ps s0 v2) :
    Touches ps s0 (crownSkip v0 v1 v2) := by
  induction v1 generalizing v2 with
  | zero => exact h0
  | succ n ih =>
    unfold crownSkip
    split
    · exact h0
    · exact Touches.ite h0 (ih (by apply crownComplete_touches <;> assumption))

theorem pumpCrown_touches {ps : Piece → Prop} {s0 : State} (h_regs : ps .regs) (h_out : ps .out) (h_host : ps .host) (h_latches : ps .latches) (h_crown : ps .crown) {v0 : State} (h0 : Touches ps s0 v0) :
    Touches ps s0 (pumpCrown v0) := by
  unfold pumpCrown
  refine Touches.ite ?_ ?_
  · lift_lets
    intro x0
    have hx1 : Touches ps s0 x0 := by
      unfold x0
      refine fetchCrown_touches h_regs h_out h_host h_latches h_crown ?_
      assumption
    clear_value x0
    refine crownSkip_touches h_regs h_out h_host h_latches h_crown ?_
    refine crownSkip_touches h_regs h_out h_host h_latches h_crown ?_
    assumption
  · refine Touches.ite ?_ ?_
    · split
      · refine Touches.ite ?_ ?_
        · assumption
        · refine crownComplete_touches h_regs h_out h_host h_latches h_crown ?_
          assumption
      · assumption
    · assumption

theorem crownEnd_touches {ps : Piece → Prop} {s0 : State} (h_regs : ps .regs) (h_out : ps .out) (h_host : ps .host) (h_latches : ps .latches) (h_crown : ps .crown) {v0 : Bool} {v1 : CrownDone} {v2 : State} (h0 : Touches ps s0 v2) :
    Touches ps s0 (crownEnd v0 v1 v2) := by
  unfold crownEnd
  refine pumpCrown_touches h_regs h_out h_host h_latches h_crown ?_
  refine crownComplete_touches h_regs h_out h_host h_latches h_crown ?_
  assumption

theorem endLoad_touches {ps : Piece → Prop} {s0 : State} (h_regs : ps .regs) (h_out : ps .out) (h_host : ps .host) (h_latches : ps .latches) (h_crown : ps .crown) {v0 : State} (h0 : Touches ps s0 v0) :
    Touches ps s0 (endLoad v0) := by
  unfold endLoad
  split
  · assumption
  · refine State.given_touches ?_ ?_
    · assumption
    · intro y0
      intro k1
      lift_lets
      intro x2
      clear_value x2
      refine crownEnd_touches h_regs h_out h_host h_latches h_crown ?_
      refine (Touches.upd_crown h_crown ?_)
      assumption

theorem execStagingComplete_touches {ps : Piece → Prop} {s0 : State} (h_regs : ps .regs) (h_out : ps .out) (h_host : ps .host) (h_latches : ps .latches) (h_ucs : ps .ucs) (h_crown : ps .crown) {v0 : Fin 32} {v1 : Bool} {v2 : State} (h0 : Touches ps s0 v2) :
    Moves ps s0 (execStagingComplete v0 v1 v2) := by
  unfold execStagingComplete
  refine Moves.next ?_
  refine State.running_touches ?_ ?_
  · assumption
  · intro y0
    intro k1
    refine State.given_touches ?_ ?_
    · assumption
    · intro y2
      intro k3
      lift_lets
      intro x4
      have hx5 : Touches ps s0 x4 := by
        unfold x4
        refine stageBank_touches h_regs h_out h_host h_latches h_ucs ?_
        assumption
      clear_value x4
      intro x6
      clear_value x6
      split
      · lift_lets
        intro x7
        clear_value x7
        refine endLoad_touches h_regs h_out h_host h_latches h_crown ?_
        refine (Touches.upd_crown h_crown ?_)
        assumption
      · assumption

theorem onCrown_touches {ps : Piece → Prop} {s0 : State} {v0 : Bool} {v1 : ℕ} {v2 : List Byte → State → State} {v3 : List Byte → State → State} {v4 : State} (h0 : ∀ a0 a1, Touches ps s0 a1 → Touches ps s0 (v2 a0 a1)) (h1 : ∀ a0 a1, Touches ps s0 a1 → Touches ps s0 (v3 a0 a1)) (h2 : Touches ps s0 v4) :
    Touches ps s0 (onCrown v0 v1 v2 v3 v4) := by
  unfold onCrown
  split
  · assumption
  · refine Touches.ite ?_ ?_
    · assumption
    · refine Touches.ite ?_ ?_
      · refine h0 _ _ ?_
        assumption
      · refine State.given_touches ?_ ?_
        · assumption
        · intro y0
          intro k1
          refine h1 _ _ ?_
          assumption

theorem execGetVersions_touches {ps : Piece → Prop} {s0 : State} (h_regs : ps .regs) (h_out : ps .out) (h_host : ps .host) (h_latches : ps .latches) (h_crown : ps .crown) {v0 : Bool} {v1 : State} (h0 : Touches ps s0 v1) :
    Moves ps s0 (execGetVersions v0 v1) := by
  unfold execGetVersions
  refine Moves.next ?_
  refine onCrown_touches ?_ ?_ ?_
  · intro y0
    intro y1
    intro k2
    refine crownEnd_touches h_regs h_out h_host h_latches h_crown ?_
    assumption
  · intro y3
    intro y4
    intro k5
    refine crownEnd_touches h_regs h_out h_host h_latches h_crown ?_
    assumption
  · assumption

theorem spdmAnswer_touches {ps : Piece → Prop} {s0 : State} (h_free : ps .free) (h_out : ps .out) {v0 : String} {v1 : List ℕ} {v2 : List Byte} {v3 : State} (h0 : Touches ps s0 v3) :
    Touches ps s0 (spdmAnswer v0 v1 v2 v3) := by
  unfold spdmAnswer
  lift_lets
  intro x0
  clear_value x0
  intro x1
  clear_value x1
  intro x2
  clear_value x2
  intro x3
  clear_value x3
  intro x4
  clear_value x4
  intro x5
  clear_value x5
  split
  · refine State.send_touches h_out ?_
    assumption
  · refine State.send_touches h_out ?_
    assumption
  · refine State.send_touches h_out ?_
    assumption
  · refine State.send_touches h_out ?_
    assumption
  · refine State.send_touches h_out ?_
    assumption
  · refine Touches.ite ?_ ?_
    · refine State.send_touches h_out ?_
      assumption
    · refine State.send_touches h_out ?_
      assumption
  · refine Touches.ite ?_ ?_
    · refine State.send_touches h_out ?_
      assumption
    · refine State.send_touches h_out ?_
      refine (Touches.upd_free h_free ?_)
      assumption
  · refine Touches.ite ?_ ?_
    · refine State.send_touches h_out ?_
      assumption
    · refine Touches.ite ?_ ?_
      · refine State.send_touches h_out ?_
        assumption
      · refine Touches.ite ?_ ?_
        · refine State.send_touches h_out ?_
          assumption
        · refine State.send_touches h_out ?_
          refine (Touches.upd_free h_free ?_)
          assumption
  · refine State.send_touches h_out ?_
    assumption

theorem doeAsk_touches {ps : Piece → Prop} {s0 : State} (h_free : ps .free) (h_out : ps .out) (h_crown : ps .crown) {v0 : String} {v1 : List ℕ} {v2 : List Byte} {v3 : State} (h0 : Touches ps s0 v3) :
    Touches ps s0 (doeAsk v0 v1 v2 v3) := by
  unfold doeAsk
  refine Touches.ite ?_ ?_
  · assumption
  · refine Touches.ite ?_ ?_
    · refine spdmAnswer_touches h_free h_out ?_
      assumption
    · lift_lets
      intro x0
      clear_value x0
      refine (Touches.upd_crown h_crown ?_)
      assumption

theorem execGetVersion_touches {ps : Piece → Prop} {s0 : State} (h_free : ps .free) (h_out : ps .out) (h_crown : ps .crown) {v0 : State} (h0 : Touches ps s0 v0) :
    Moves ps s0 (execGetVersion v0) := by
  unfold execGetVersion
  refine Moves.next ?_
  refine doeAsk_touches h_free h_out h_crown ?_
  assumption

theorem execDoeDiscovery_touches {ps : Piece → Prop} {s0 : State} (h_free : ps .free) (h_out : ps .out) (h_crown : ps .crown) {v0 : Fin 2} {v1 : State} (h0 : Touches ps s0 v1) :
    Moves ps s0 (execDoeDiscovery v0 v1) := by
  unfold execDoeDiscovery
  refine Moves.next ?_
  refine doeAsk_touches h_free h_out h_crown ?_
  assumption

theorem showFirmware_touches {ps : Piece → Prop} {s0 : State} (h_regs : ps .regs) {v0 : State} (h0 : Touches ps s0 v0) :
    Touches ps s0 (showFirmware v0) := by
  unfold showFirmware
  lift_lets
  intro x0
  clear_value x0
  refine State.wr_touches h_regs ?_
  refine State.wr_touches h_regs ?_
  refine State.wr_touches h_regs ?_
  refine State.wr_touches h_regs ?_
  refine State.wr_touches h_regs ?_
  refine State.wr_touches h_regs ?_
  assumption

theorem setUpdate_touches {ps : Piece → Prop} {s0 : State} (h_regs : ps .regs) (h_out : ps .out) (h_host : ps .host) {v0 : ℕ} {v1 : State} (h0 : Touches ps s0 v1) :
    Touches ps s0 (setUpdate v0 v1) := by
  unfold setUpdate
  refine State.vector_touches h_out h_host ?_
  refine State.wr_touches h_regs ?_
  assumption

theorem handOver_touches {ps : Piece → Prop} {s0 : State} (h_regs : ps .regs) (h_out : ps .out) (h_host : ps .host) (h_latches : ps .latches) (h_crown : ps .crown) {v0 : Update} {v1 : State} (h0 : Touches ps s0 v1) :
    Touches ps s0 (handOver v0 v1) := by
  unfold handOver
  lift_lets
  intro x0
  clear_value x0
  intro x1
  have hx2 : Touches ps s0 x1 := by
    unfold x1
    refine showFirmware_touches h_regs ?_
    refine (Touches.upd_crown h_crown ?_)
    assumption
  clear_value x1
  intro x3
  have hx4 : Touches ps s0 x3 := by
    unfold x3
    refine State.bump_touches h_regs h_latches ?_
    refine State.wr_touches h_regs ?_
    assumption
  clear_value x3
  intro x5
  have hx6 : Touches ps s0 x5 := by
    unfold x5
    refine setUpdate_touches h_regs h_out h_host ?_
    refine Touches.ite ?_ ?_
    · assumption
    · refine setStandby_touches h_regs ?_
      assumption
  clear_value x5
  intro x7
  have hx8 : Touches ps s0 x7 := by
    unfold x7
    refine Touches.ite ?_ ?_
    · refine State.set1_touches h_regs h_latches ?_
      assumption
    · assumption
  clear_value x7
  split
  · refine crownEnd_touches h_regs h_out h_host h_latches h_crown ?_
    assumption
  · assumption

theorem endUpdate_touches {ps : Piece → Prop} {s0 : State} (h_regs : ps .regs) (h_out : ps .out) (h_host : ps .host) (h_latches : ps .latches) (h_crown : ps .crown) {v0 : ℕ} {v1 : ℕ} {v2 : ℕ} {v3 : State} (h0 : Touches ps s0 v3) :
    Touches ps s0 (endUpdate v0 v1 v2 v3) := by
  unfold endUpdate
  split
  · assumption
  · lift_lets
    intro x0
    clear_value x0
    intro x1
    have hx2 : Touches ps s0 x1 := by
      unfold x1
      refine setStandby_touches h_regs ?_
      refine setUpdate_touches h_regs h_out h_host ?_
      refine (Touches.upd_crown h_crown ?_)
      assumption
    clear_value x1
    split
    · refine crownEnd_touches h_regs h_out h_host h_latches h_crown ?_
      assumption
    · refine pumpCrown_touches h_regs h_out h_host h_latches h_crown ?_
      assumption

theorem doeServe_touches {ps : Piece → Prop} {s0 : State} (h_free : ps .free) (h_out : ps .out) (h_crown : ps .crown) {v0 : State} (h0 : Touches ps s0 v0) :
    Touches ps s0 (doeServe v0) := by
  unfold doeServe
  split
  · refine Touches.ite ?_ ?_
    · lift_lets
      intro x0
      clear_value x0
      refine spdmAnswer_touches h_free h_out ?_
      refine (Touches.upd_crown h_crown ?_)
      assumption
    · assumption
  · assumption

theorem failoverEpoch_touches {ps : Piece → Prop} {s0 : State} (h_regs : ps .regs) (h_out : ps .out) (h_host : ps .host) (h_latches : ps .latches) (h_ucs : ps .ucs) (h_tbl : ps .tbl) (h_vsr : ps .vsr) {v0 : State} (h0 : Touches ps s0 v0) :
    Touches ps s0 (failoverEpoch v0) := by
  unfold failoverEpoch
  split
  · assumption
  · lift_lets
    intro x0
    have hx1 : ∀ a0 a1, Touches ps s0 a1 → Touches ps s0 (x0 a0 a1) := by
      intro y2
      intro y3
      intro k4
      unfold x0
      refine State.vector_touches h_out h_host ?_
      refine State.wr_touches h_regs ?_
      refine State.wr_touches h_regs ?_
      assumption
    clear_value x0
    intro x5
    clear_value x5
    intro x6
    clear_value x6
    intro x7
    have hx8 : Touches ps s0 x7 := by
      unfold x7
      refine (Touches.upd_tbl h_tbl ?_)
      assumption
    clear_value x7
    refine Touches.ite ?_ ?_
    · refine complete_touches h_regs h_out h_host h_latches h_tbl ?_
      refine hx1 _ _ ?_
      refine discardEpoch_touches h_regs h_out h_host h_latches h_tbl ?_
      assumption
    · refine hx1 _ _ ?_
      refine Touches.ite ?_ ?_
      · refine epochEffect_touches h_regs h_out h_host h_latches h_ucs h_tbl h_vsr ?_
        assumption
      · assumption

theorem failoverLoad_touches {ps : Piece → Prop} {s0 : State} (h_regs : ps .regs) (h_out : ps .out) (h_host : ps .host) (h_latches : ps .latches) (h_crown : ps .crown) {v0 : State} (h0 : Touches ps s0 v0) :
    Touches ps s0 (failoverLoad v0) := by
  unfold failoverLoad
  split
  · assumption
  · lift_lets
    intro x0
    have hx1 : Touches ps s0 x0 := by
      unfold x0
      refine Touches.foldl (fun _ _ _ => ?_) ?_
      · refine Touches.ite ?_ ?_
        · refine setUcsState_touches h_regs h_out h_host ?_
          assumption
        · assumption
      · assumption
    clear_value x0
    intro x2
    clear_value x2
    refine crownComplete_touches h_regs h_out h_host h_latches h_crown ?_
    refine (Touches.upd_crown h_crown ?_)
    assumption

theorem failoverStage_touches {ps : Piece → Prop} {s0 : State} (h_regs : ps .regs) (h_out : ps .out) (h_host : ps .host) (h_latches : ps .latches) (h_crown : ps .crown) {v0 : State} (h0 : Touches ps s0 v0) :
    Touches ps s0 (failoverStage v0) := by
  unfold failoverStage
  lift_lets
  intro x0
  clear_value x0
  refine Touches.foldl (fun _ _ _ => ?_) ?_
  · refine Touches.ite ?_ ?_
    · refine crownComplete_touches h_regs h_out h_host h_latches h_crown ?_
      assumption
    · assumption
  · refine (Touches.upd_crown h_crown ?_)
    assumption

theorem execTakeoverComplete_touches {ps : Piece → Prop} {s0 : State} (h_regs : ps .regs) (h_free : ps .free) (h_out : ps .out) (h_host : ps .host) (h_latches : ps .latches) (h_ucs : ps .ucs) (h_tbl : ps .tbl) (h_vsr : ps .vsr) (h_crown : ps .crown) {v0 : State} (h0 : Touches ps s0 v0) :
    Moves ps s0 (execTakeoverComplete v0) := by
  unfold execTakeoverComplete
  refine Moves.next ?_
  refine State.running_touches ?_ ?_
  · assumption
  · intro y0
    intro k1
    refine State.given_touches ?_ ?_
    · assumption
    · intro y2
      intro k3
      lift_lets
      intro x4
      clear_value x4
      intro x5
      clear_value x5
      intro x6
      have hx7 : Touches ps s0 x6 := by
        unfold x6
        refine State.bump_touches h_regs h_latches ?_
        refine State.wr_touches h_regs ?_
        refine (Touches.upd_crown h_crown ?_)
        assumption
      clear_value x6
      intro x8
      have hx9 : Touches ps s0 x8 := by
        unfold x8
        refine State.vector_touches h_out h_host ?_
        refine setStandby_touches h_regs ?_
        refine showFirmware_touches h_regs ?_
        assumption
      clear_value x8
      intro x10
      have hx11 : Touches ps s0 x10 := by
        unfold x10
        refine Touches.ite ?_ ?_
        · refine endUpdate_touches h_regs h_out h_host h_latches h_crown ?_
          assumption
        · refine Touches.ite ?_ ?_
          · refine State.raise_touches h_regs h_out h_host h_latches ?_
            refine endUpdate_touches h_regs h_out h_host h_latches h_crown ?_
            assumption
          · assumption
      clear_value x10
      refine doeServe_touches h_free h_out h_crown ?_
      refine pumpCrown_touches h_regs h_out h_host h_latches h_crown ?_
      refine failoverEpoch_touches h_regs h_out h_host h_latches h_ucs h_tbl h_vsr ?_
      refine failoverLoad_touches h_regs h_out h_host h_latches h_crown ?_
      refine failoverStage_touches h_regs h_out h_host h_latches h_crown ?_
      assumption

theorem mailboxGo_touches {ps : Piece → Prop} {s0 : State} (h_regs : ps .regs) (h_out : ps .out) (h_host : ps .host) (h_latches : ps .latches) (h_mtn : ps .mtn) (h_crown : ps .crown) {v0 : State} (h0 : Touches ps s0 v0) :
    Touches ps s0 (mailboxGo v0) := by
  unfold mailboxGo
  refine Touches.ite ?_ ?_
  · refine State.set1_touches h_regs h_latches ?_
    assumption
  · refine pumpCrown_touches h_regs h_out h_host h_latches h_crown ?_
    refine wakeCrown_touches h_regs h_out h_host h_mtn ?_
    refine State.wr_touches h_regs ?_
    assumption

theorem ddrCopy_touches {ps : Piece → Prop} {s0 : State} (h_regs : ps .regs) (h_free : ps .free) (h_out : ps .out) (h_host : ps .host) (h_latches : ps .latches) (h_crown : ps .crown) {v0 : Bool} {v1 : List Byte} {v2 : State} (h0 : Touches ps s0 v2) :
    Touches ps s0 (ddrCopy v0 v1 v2) := by
  unfold ddrCopy
  lift_lets
  intro x0
  clear_value x0
  intro x1
  clear_value x1
  intro x2
  clear_value x2
  refine Touches.ite ?_ ?_
  · refine crownEnd_touches h_regs h_out h_host h_latches h_crown ?_
    assumption
  · refine Touches.ite ?_ ?_
    · refine crownEnd_touches h_regs h_out h_host h_latches h_crown ?_
      assumption
    · refine Touches.ite ?_ ?_
      · refine crownEnd_touches h_regs h_out h_host h_latches h_crown ?_
        refine State.raise_touches h_regs h_out h_host h_latches ?_
        assumption
      · refine crownEnd_touches h_regs h_out h_host h_latches h_crown ?_
        refine State.send_touches h_out ?_
        refine (Touches.upd_free h_free ?_)
        assumption

theorem writeCrCfg_touches {ps : Piece → Prop} {s0 : State} (h_regs : ps .regs) (h_out : ps .out) (h_host : ps .host) (h_latches : ps .latches) (h_crown : ps .crown) {v0 : ℕ} {v1 : State} (h0 : Touches ps s0 v1) :
    Touches ps s0 (writeCrCfg v0 v1) := by
  unfold writeCrCfg
  lift_lets
  intro x0
  clear_value x0
  intro x1
  clear_value x1
  intro x2
  have hx3 : Touches ps s0 x2 := by
    unfold x2
    refine Touches.ite ?_ ?_
    · assumption
    · refine State.wr_touches h_regs ?_
      assumption
  clear_value x2
  intro x4
  have hx5 : Touches ps s0 x4 := by
    unfold x4
    refine State.wr_touches h_regs ?_
    assumption
  clear_value x4
  refine Touches.ite ?_ ?_
  · refine State.set1_touches h_regs h_latches ?_
    assumption
  · refine Touches.ite ?_ ?_
    · refine pumpCrown_touches h_regs h_out h_host h_latches h_crown ?_
      refine State.wr_touches h_regs ?_
      assumption
    · assumption

theorem showStaged_touches {ps : Piece → Prop} {s0 : State} (h_regs : ps .regs) {v0 : State} (h0 : Touches ps s0 v0) :
    Touches ps s0 (showStaged v0) := by
  unfold showStaged
  refine State.wr_touches h_regs ?_
  assumption

theorem romBusy_touches {ps : Piece → Prop} {s0 : State} (h_regs : ps .regs) (h_out : ps .out) (h_host : ps .host) (h_latches : ps .latches) (h_crown : ps .crown) {v0 : List Byte} {v1 : State} (h0 : Touches ps s0 v1) :
    Touches ps s0 (romBusy v0 v1) := by
  unfold romBusy
  refine crownEnd_touches h_regs h_out h_host h_latches h_crown ?_
  assumption

theorem execBundleDrop_touches {ps : Piece → Prop} {s0 : State} (h_regs : ps .regs) (h_out : ps .out) (h_host : ps .host) (h_latches : ps .latches) (h_crown : ps .crown) {v0 : Bool} {v1 : State} (h0 : Touches ps s0 v1) :
    Moves ps s0 (execBundleDrop v0 v1) := by
  unfold execBundleDrop
  refine Moves.next ?_
  refine onCrown_touches ?_ ?_ ?_
  · intro y0
    intro y1
    intro k2
    refine romBusy_touches h_regs h_out h_host h_latches h_crown ?_
    assumption
  · intro y3
    intro y4
    intro k5
    refine Touches.ite ?_ ?_
    · refine crownEnd_touches h_regs h_out h_host h_latches h_crown ?_
      assumption
    · lift_lets
      intro x6
      clear_value x6
      refine crownEnd_touches h_regs h_out h_host h_latches h_crown ?_
      refine showStaged_touches h_regs ?_
      refine (Touches.upd_crown h_crown ?_)
      assumption
  · assumption

theorem execGetCertificate_touches {ps : Piece → Prop} {s0 : State} (h_free : ps .free) (h_out : ps .out) (h_crown : ps .crown) {v0 : Fin 8} {v1 : BitVec 16} {v2 : BitVec 16} {v3 : State} (h0 : Touches ps s0 v3) :
    Moves ps s0 (execGetCertificate v0 v1 v2 v3) := by
  unfold execGetCertificate
  refine Moves.next ?_
  refine doeAsk_touches h_free h_out h_crown ?_
  assumption

theorem execCrownRingDoorbell_touches {ps : Piece → Prop} {s0 : State} (h_regs : ps .regs) (h_out : ps .out) (h_host : ps .host) (h_latches : ps .latches) (h_mtn : ps .mtn) (h_crown : ps .crown) {v0 : BitVec 10} {v1 : List (List Byte)} {v2 : State} (h0 : Touches ps s0 v2) :
    Moves ps s0 (execCrownRingDoorbell v0 v1 v2) := by
  unfold execCrownRingDoorbell
  refine Moves.next ?_
  refine State.written_touches h_regs h_latches h_mtn ?_ ?_
  · assumption
  · intro y0
    intro k1
    lift_lets
    intro x2
    clear_value x2
    refine State.given_touches ?_ ?_
    · assumption
    · intro y3
      intro k4
      lift_lets
      intro x5
      have hx6 : Touches ps s0 x5 := by
        unfold x5
        refine State.wr_touches h_regs ?_
        assumption
      clear_value x5
      intro x7
      clear_value x7
      refine pumpCrown_touches h_regs h_out h_host h_latches h_crown ?_
      refine wakeCrown_touches h_regs h_out h_host h_mtn ?_
      refine (Touches.upd_crown h_crown ?_)
      assumption

theorem abandonSwitch_touches {ps : Piece → Prop} {s0 : State} (h_regs : ps .regs) (h_out : ps .out) (h_host : ps .host) (h_latches : ps .latches) (h_crown : ps .crown) {v0 : Bool} {v1 : State} (h0 : Touches ps s0 v1) :
    Touches ps s0 (abandonSwitch v0 v1) := by
  unfold abandonSwitch
  lift_lets
  intro x0
  have hx1 : Touches ps s0 x0 := by
    unfold x0
    refine endUpdate_touches h_regs h_out h_host h_latches h_crown ?_
    assumption
  clear_value x0
  refine Touches.ite ?_ ?_
  · refine State.raise_touches h_regs h_out h_host h_latches ?_
    assumption
  · refine State.wr_touches h_regs ?_
    assumption

theorem execCrownPairFailure_touches {ps : Piece → Prop} {s0 : State} (h_regs : ps .regs) (h_out : ps .out) (h_host : ps .host) (h_latches : ps .latches) (h_crown : ps .crown) {v0 : Bool} {v1 : Fin 3} {v2 : Bool} {v3 : State} (h0 : Touches ps s0 v3) :
    Moves ps s0 (execCrownPairFailure v0 v1 v2 v3) := by
  unfold execCrownPairFailure
  refine Moves.next ?_
  refine State.running_touches ?_ ?_
  · assumption
  · intro y0
    intro k1
    refine State.given_touches ?_ ?_
    · assumption
    · intro y2
      intro k3
      lift_lets
      intro x4
      have hx5 : Touches ps s0 x4 := by
        unfold x4
        refine Touches.ite ?_ ?_
        · assumption
        · split
          · refine State.raise_touches h_regs h_out h_host h_latches ?_
            assumption
          · refine State.raise_touches h_regs h_out h_host h_latches ?_
            assumption
          · assumption
      clear_value x4
      intro x6
      clear_value x6
      intro x7
      clear_value x7
      refine Touches.ite ?_ ?_
      · refine Touches.ite ?_ ?_
        · refine Touches.ite ?_ ?_
          · refine setStandby_touches h_regs ?_
            refine State.raise_touches h_regs h_out h_host h_latches ?_
            assumption
          · refine setStandby_touches h_regs ?_
            assumption
        · refine abandonSwitch_touches h_regs h_out h_host h_latches h_crown ?_
          assumption
      · refine Touches.ite ?_ ?_
        · refine State.raise_touches h_regs h_out h_host h_latches ?_
          refine Touches.ite ?_ ?_
          · refine endUpdate_touches h_regs h_out h_host h_latches h_crown ?_
            assumption
          · refine setStandby_touches h_regs ?_
            assumption
        · refine Touches.ite ?_ ?_
          · refine State.raise_touches h_regs h_out h_host h_latches ?_
            assumption
          · refine (Touches.upd_crown h_crown ?_)
            assumption

theorem bootCrown_touches {ps : Piece → Prop} {s0 : State} (h_regs : ps .regs) (h_crown : ps .crown) (h_boot : ps .boot) {v0 : List (ℕ × ℕ × List Byte)} {v1 : Bool} {v2 : State} (h0 : Touches ps s0 v2) :
    Touches ps s0 (bootCrown v0 v1 v2) := by
  unfold bootCrown
  lift_lets
  intro x0
  clear_value x0
  intro x1
  clear_value x1
  intro x2
  clear_value x2
  intro x3
  clear_value x3
  intro x4
  clear_value x4
  refine showFirmware_touches h_regs ?_
  refine Touches.multi (b := v2) ?_ (fun p hn => by cases p <;> first | exact absurd (by assumption) hn | rfl) (fun hs => hs) (fun hs => hs)
  assumption

theorem stageBundle_touches {ps : Piece → Prop} {s0 : State} (h_regs : ps .regs) (h_out : ps .out) (h_ddr : ps .ddr) (h_poison : ps .poison) (h_host : ps .host) (h_latches : ps .latches) (h_crown : ps .crown) (h_boot : ps .boot) {v0 : Bool} {v1 : Bool} {v2 : List Byte} {v3 : Option Bool} {v4 : List Byte} {v5 : State} (h0 : Touches ps s0 v5) :
    Touches ps s0 (stageBundle v0 v1 v2 v3 v4 v5) := by
  unfold stageBundle
  lift_lets
  intro x0
  have hx1 : ∀ a0 a1, Touches ps s0 a1 → Touches ps s0 (x0 a0 a1) := by
    intro y2
    intro y3
    intro k4
    unfold x0
    refine crownEnd_touches h_regs h_out h_host h_latches h_crown ?_
    assumption
  clear_value x0
  intro x5
  clear_value x5
  intro x6
  clear_value x6
  refine Touches.ite ?_ ?_
  · refine hx1 _ _ ?_
    assumption
  · refine Touches.ite ?_ ?_
    · refine hx1 _ _ ?_
      assumption
    · split
      · refine hx1 _ _ ?_
        assumption
      · refine Touches.ite ?_ ?_
        · refine hx1 _ _ ?_
          refine State.raise_touches h_regs h_out h_host h_latches ?_
          assumption
        · refine State.given_touches ?_ ?_
          · assumption
          · intro y7
            intro k8
            lift_lets
            intro x9
            have hx10 : Touches ps s0 x9 := by
              unfold x9
              refine State.ddrWrite_touches h_ddr h_poison ?_
              assumption
            clear_value x9
            intro x11
            clear_value x11
            intro x12
            clear_value x12
            intro x13
            clear_value x13
            intro x14
            have hx15 : Touches ps s0 x14 := by
              unfold x14
              refine showStaged_touches h_regs ?_
              refine (Touches.upd_crown h_crown ?_)
              assumption
            clear_value x14
            intro x16
            have hx17 : Touches ps s0 x16 := by
              unfold x16
              refine hx1 _ _ ?_
              assumption
            clear_value x16
            refine Touches.ite ?_ ?_
            · refine hx1 _ _ ?_
              refine State.raise_touches h_regs h_out h_host h_latches ?_
              assumption
            · split
              · refine bootCrown_touches h_regs h_crown h_boot ?_
                assumption
              · assumption

theorem startResync_touches {ps : Piece → Prop} {s0 : State} (h_regs : ps .regs) (h_out : ps .out) (h_host : ps .host) (h_crown : ps .crown) {v0 : Option Bool} {v1 : State} (h0 : Touches ps s0 v1) :
    Touches ps s0 (startResync v0 v1) := by
  unfold startResync
  split
  · assumption
  · lift_lets
    intro x0
    clear_value x0
    refine setUpdate_touches h_regs h_out h_host ?_
    refine setStandby_touches h_regs ?_
    refine (Touches.upd_crown h_crown ?_)
    assumption

theorem execConfirmTimeout_touches {ps : Piece → Prop} {s0 : State} (h_regs : ps .regs) (h_out : ps .out) (h_host : ps .host) (h_crown : ps .crown) {v0 : State} (h0 : Touches ps s0 v0) :
    Moves ps s0 (execConfirmTimeout v0) := by
  unfold execConfirmTimeout
  refine Moves.next ?_
  refine State.running_touches ?_ ?_
  · assumption
  · intro y0
    intro k1
    split
    · refine State.given_touches ?_ ?_
      · assumption
      · intro y2
        intro k3
        refine startResync_touches h_regs h_out h_host h_crown ?_
        assumption
    · assumption

theorem execCheckpointWrite_touches {ps : Piece → Prop} {s0 : State} (h_regs : ps .regs) (h_free : ps .free) (h_out : ps .out) (h_host : ps .host) (h_latches : ps .latches) (h_ticks : ps .ticks) (h_crown : ps .crown) {v0 : State} (h0 : Touches ps s0 v0) :
    Moves ps s0 (execCheckpointWrite v0) := by
  unfold execCheckpointWrite
  refine Moves.next ?_
  refine State.running_touches ?_ ?_
  · assumption
  · intro y0
    intro k1
    refine State.given_touches ?_ ?_
    · assumption
    · intro y2
      intro k3
      refine State.periodic_touches h_ticks ?_ ?_
      · assumption
      · intro y4
        intro k5
        lift_lets
        intro x6
        clear_value x6
        refine doeServe_touches h_free h_out h_crown ?_
        refine endLoad_touches h_regs h_out h_host h_latches h_crown ?_
        refine pumpCrown_touches h_regs h_out h_host h_latches h_crown ?_
        refine (Touches.upd_crown h_crown ?_)
        assumption

theorem execFwRollback_touches {ps : Piece → Prop} {s0 : State} (h_regs : ps .regs) (h_out : ps .out) (h_host : ps .host) (h_latches : ps .latches) (h_crown : ps .crown) {v0 : Bool} {v1 : State} (h0 : Touches ps s0 v1) :
    Moves ps s0 (execFwRollback v0 v1) := by
  unfold execFwRollback
  refine Moves.next ?_
  refine onCrown_touches ?_ ?_ ?_
  · intro y0
    intro y1
    intro k2
    refine romBusy_touches h_regs h_out h_host h_latches h_crown ?_
    assumption
  · intro y3
    intro y4
    intro k5
    refine Touches.ite ?_ ?_
    · refine crownEnd_touches h_regs h_out h_host h_latches h_crown ?_
      assumption
    · lift_lets
      intro x6
      clear_value x6
      intro x7
      have hx8 : Touches ps s0 x7 := by
        unfold x7
        refine showFirmware_touches h_regs ?_
        refine (Touches.upd_crown h_crown ?_)
        assumption
      clear_value x7
      refine crownEnd_touches h_regs h_out h_host h_latches h_crown ?_
      refine setStandby_touches h_regs ?_
      refine setUpdate_touches h_regs h_out h_host ?_
      refine State.wr_touches h_regs ?_
      assumption
  · assumption

theorem execBundleStage_touches {ps : Piece → Prop} {s0 : State} (h_regs : ps .regs) (h_out : ps .out) (h_ddr : ps .ddr) (h_poison : ps .poison) (h_host : ps .host) (h_latches : ps .latches) (h_crown : ps .crown) (h_boot : ps .boot) {v0 : Bool} {v1 : List Byte} {v2 : Option Bool} {v3 : State} (h0 : Touches ps s0 v3) :
    Moves ps s0 (execBundleStage v0 v1 v2 v3) := by
  unfold execBundleStage
  refine Moves.next ?_
  refine onCrown_touches ?_ ?_ ?_
  · intro y0
    intro y1
    intro k2
    refine stageBundle_touches h_regs h_out h_ddr h_poison h_host h_latches h_crown h_boot ?_
    assumption
  · intro y3
    intro y4
    intro k5
    refine stageBundle_touches h_regs h_out h_ddr h_poison h_host h_latches h_crown h_boot ?_
    assumption
  · assumption

theorem installSections_touches {ps : Piece → Prop} {s0 : State} (h_regs : ps .regs) (h_free : ps .free) (h_out : ps .out) (h_host : ps .host) (h_latches : ps .latches) (h_hat : ps .hat) (h_ldg : ps .ldg) (h_crown : ps .crown) {v0 : List Byte} {v1 : ℕ} {v2 : State} (h0 : Touches ps s0 v2) :
    Touches ps s0 (installSections v0 v1 v2) := by
  unfold installSections
  lift_lets
  intro x0
  have hx1 : ∀ a0 a1, Touches ps s0 a1 → Touches ps s0 (x0 a0 a1) := by
    intro y2
    intro y3
    intro k4
    unfold x0
    lift_lets
    intro x5
    clear_value x5
    split
    · refine (Touches.upd_crown h_crown ?_)
      assumption
    · assumption
  clear_value x0
  intro x6
  have hx7 : Touches ps s0 x6 := by
    unfold x6
    refine hx1 _ _ ?_
    refine hx1 _ _ ?_
    refine hx1 _ _ ?_
    assumption
  clear_value x6
  intro x8
  have hx9 : Touches ps s0 x8 := by
    unfold x8
    refine Touches.ite ?_ ?_
    · refine missInstants_touches h_regs h_out h_host h_latches h_ldg ?_
      assumption
    · assumption
  clear_value x8
  intro x10
  have hx11 : Touches ps s0 x10 := by
    unfold x10
    refine enterHoldover_touches h_regs h_free h_out h_host h_latches h_hat ?_
    refine stopSlew_touches h_regs h_hat ?_
    assumption
  clear_value x10
  intro x12
  clear_value x12
  refine Touches.ite ?_ ?_
  · refine (Touches.upd_hat h_hat ?_)
    assumption
  · assumption

theorem execFwResyncComplete_touches {ps : Piece → Prop} {s0 : State} (h_regs : ps .regs) (h_free : ps .free) (h_out : ps .out) (h_host : ps .host) (h_latches : ps .latches) (h_hat : ps .hat) (h_ldg : ps .ldg) (h_crown : ps .crown) {v0 : Fin 9} {v1 : State} (h0 : Touches ps s0 v1) :
    Moves ps s0 (execFwResyncComplete v0 v1) := by
  unfold execFwResyncComplete
  refine Moves.next ?_
  refine State.running_touches ?_ ?_
  · assumption
  · intro y0
    intro k1
    split
    · assumption
    · refine State.given_touches ?_ ?_
      · assumption
      · intro y2
        intro k3
        lift_lets
        intro x4
        clear_value x4
        split
        · split
          · dsimp only
            split
            · refine crownEnd_touches h_regs h_out h_host h_latches h_crown ?_
              refine setUpdate_touches h_regs h_out h_host ?_
              refine setStandby_touches h_regs ?_
              refine showFirmware_touches h_regs ?_
              refine (Touches.upd_crown h_crown ?_)
              refine addToFlash_touches h_regs h_out h_host h_latches h_crown ?_
              refine installSections_touches h_regs h_free h_out h_host h_latches h_hat h_ldg h_crown ?_
              assumption
            · refine crownEnd_touches h_regs h_out h_host h_latches h_crown ?_
              refine setUpdate_touches h_regs h_out h_host ?_
              refine setStandby_touches h_regs ?_
              refine showFirmware_touches h_regs ?_
              refine (Touches.upd_crown h_crown ?_)
              refine addToFlash_touches h_regs h_out h_host h_latches h_crown ?_
              refine installSections_touches h_regs h_free h_out h_host h_latches h_hat h_ldg h_crown ?_
              assumption
          · dsimp only
            split
            · refine pumpCrown_touches h_regs h_out h_host h_latches h_crown ?_
              refine setUpdate_touches h_regs h_out h_host ?_
              refine setStandby_touches h_regs ?_
              refine showFirmware_touches h_regs ?_
              refine (Touches.upd_crown h_crown ?_)
              refine addToFlash_touches h_regs h_out h_host h_latches h_crown ?_
              refine installSections_touches h_regs h_free h_out h_host h_latches h_hat h_ldg h_crown ?_
              assumption
            · refine pumpCrown_touches h_regs h_out h_host h_latches h_crown ?_
              refine setUpdate_touches h_regs h_out h_host ?_
              refine setStandby_touches h_regs ?_
              refine showFirmware_touches h_regs ?_
              refine (Touches.upd_crown h_crown ?_)
              refine addToFlash_touches h_regs h_out h_host h_latches h_crown ?_
              refine installSections_touches h_regs h_free h_out h_host h_latches h_hat h_ldg h_crown ?_
              assumption
        · split
          · dsimp only
            split
            · refine crownEnd_touches h_regs h_out h_host h_latches h_crown ?_
              refine setUpdate_touches h_regs h_out h_host ?_
              refine setStandby_touches h_regs ?_
              refine showFirmware_touches h_regs ?_
              refine (Touches.upd_crown h_crown ?_)
              refine addToFlash_touches h_regs h_out h_host h_latches h_crown ?_
              refine installSections_touches h_regs h_free h_out h_host h_latches h_hat h_ldg h_crown ?_
              assumption
            · refine crownEnd_touches h_regs h_out h_host h_latches h_crown ?_
              refine setUpdate_touches h_regs h_out h_host ?_
              refine setStandby_touches h_regs ?_
              refine showFirmware_touches h_regs ?_
              refine (Touches.upd_crown h_crown ?_)
              refine addToFlash_touches h_regs h_out h_host h_latches h_crown ?_
              refine installSections_touches h_regs h_free h_out h_host h_latches h_hat h_ldg h_crown ?_
              assumption
          · dsimp only
            split
            · refine pumpCrown_touches h_regs h_out h_host h_latches h_crown ?_
              refine setUpdate_touches h_regs h_out h_host ?_
              refine setStandby_touches h_regs ?_
              refine showFirmware_touches h_regs ?_
              refine (Touches.upd_crown h_crown ?_)
              refine addToFlash_touches h_regs h_out h_host h_latches h_crown ?_
              refine installSections_touches h_regs h_free h_out h_host h_latches h_hat h_ldg h_crown ?_
              assumption
            · refine pumpCrown_touches h_regs h_out h_host h_latches h_crown ?_
              refine setUpdate_touches h_regs h_out h_host ?_
              refine setStandby_touches h_regs ?_
              refine showFirmware_touches h_regs ?_
              refine (Touches.upd_crown h_crown ?_)
              refine addToFlash_touches h_regs h_out h_host h_latches h_crown ?_
              refine installSections_touches h_regs h_free h_out h_host h_latches h_hat h_ldg h_crown ?_
              assumption

theorem execCrownRingFetchErr_touches {ps : Piece → Prop} {s0 : State} (h_regs : ps .regs) (h_out : ps .out) (h_host : ps .host) (h_latches : ps .latches) (h_crown : ps .crown) {v0 : Bool} {v1 : State} (h0 : Touches ps s0 v1) :
    Moves ps s0 (execCrownRingFetchErr v0 v1) := by
  unfold execCrownRingFetchErr
  refine Moves.next ?_
  refine State.running_touches ?_ ?_
  · assumption
  · intro y0
    intro k1
    refine State.given_touches ?_ ?_
    · assumption
    · intro y2
      intro k3
      refine State.raise_touches h_regs h_out h_host h_latches ?_
      refine stopCrownRing_touches h_regs h_out h_host h_latches h_crown ?_
      assumption

theorem execSpdmUnsupportedRequest_touches {ps : Piece → Prop} {s0 : State} (h_free : ps .free) (h_out : ps .out) (h_crown : ps .crown) {v0 : State} (h0 : Touches ps s0 v0) :
    Moves ps s0 (execSpdmUnsupportedRequest v0) := by
  unfold execSpdmUnsupportedRequest
  refine Moves.next ?_
  refine doeAsk_touches h_free h_out h_crown ?_
  assumption

theorem execMailboxGo_touches {ps : Piece → Prop} {s0 : State} (h_regs : ps .regs) (h_out : ps .out) (h_host : ps .host) (h_latches : ps .latches) (h_mtn : ps .mtn) (h_crown : ps .crown) {v0 : State} (h0 : Touches ps s0 v0) :
    Moves ps s0 (execMailboxGo v0) := by
  unfold execMailboxGo
  refine Moves.next ?_
  refine State.written_touches h_regs h_latches h_mtn ?_ ?_
  · assumption
  · intro y0
    intro k1
    refine mailboxGo_touches h_regs h_out h_host h_latches h_mtn h_crown ?_
    assumption

theorem execNop_touches {ps : Piece → Prop} {s0 : State} (h_regs : ps .regs) (h_out : ps .out) (h_host : ps .host) (h_latches : ps .latches) (h_crown : ps .crown) {v0 : Bool} {v1 : State} (h0 : Touches ps s0 v1) :
    Moves ps s0 (execNop v0 v1) := by
  unfold execNop
  refine Moves.next ?_
  refine onCrown_touches ?_ ?_ ?_
  · intro y0
    intro y1
    intro k2
    refine crownEnd_touches h_regs h_out h_host h_latches h_crown ?_
    assumption
  · intro y3
    intro y4
    intro k5
    refine crownEnd_touches h_regs h_out h_host h_latches h_crown ?_
    assumption
  · assumption

theorem ucodeLoad_touches {ps : Piece → Prop} {s0 : State} (h_regs : ps .regs) (h_out : ps .out) (h_host : ps .host) (h_latches : ps .latches) (h_ucs : ps .ucs) (h_crown : ps .crown) {v0 : Bool} {v1 : List Byte} {v2 : State} (h0 : Touches ps s0 v2) :
    Touches ps s0 (ucodeLoad v0 v1 v2) := by
  unfold ucodeLoad
  split
  · refine crownEnd_touches h_regs h_out h_host h_latches h_crown ?_
    assumption
  · lift_lets
    intro x0
    clear_value x0
    intro x1
    clear_value x1
    intro x2
    clear_value x2
    split
    · refine crownEnd_touches h_regs h_out h_host h_latches h_crown ?_
      assumption
    · lift_lets
      intro x3
      clear_value x3
      intro x4
      have hx5 : Touches ps s0 x4 := by
        unfold x4
        refine Touches.foldl (fun _ _ _ => ?_) ?_
        · refine startLoad_touches h_regs h_out h_host h_ucs ?_
          assumption
        · assumption
      clear_value x4
      intro x6
      clear_value x6
      refine Touches.ite ?_ ?_
      · refine crownEnd_touches h_regs h_out h_host h_latches h_crown ?_
        assumption
      · refine endLoad_touches h_regs h_out h_host h_latches h_crown ?_
        refine (Touches.upd_crown h_crown ?_)
        assumption

theorem execUcodeLoad_touches {ps : Piece → Prop} {s0 : State} (h_regs : ps .regs) (h_out : ps .out) (h_host : ps .host) (h_latches : ps .latches) (h_ucs : ps .ucs) (h_crown : ps .crown) {v0 : Bool} {v1 : State} (h0 : Touches ps s0 v1) :
    Moves ps s0 (execUcodeLoad v0 v1) := by
  unfold execUcodeLoad
  refine Moves.next ?_
  refine onCrown_touches ?_ ?_ ?_
  · intro y0
    intro y1
    intro k2
    refine romBusy_touches h_regs h_out h_host h_latches h_crown ?_
    assumption
  · intro y3
    intro y4
    intro k5
    refine ucodeLoad_touches h_regs h_out h_host h_latches h_ucs h_crown ?_
    assumption
  · assumption

theorem fwUpdate_touches {ps : Piece → Prop} {s0 : State} (h_regs : ps .regs) (h_out : ps .out) (h_host : ps .host) (h_latches : ps .latches) (h_crown : ps .crown) {v0 : Bool} {v1 : List Byte} {v2 : State} (h0 : Touches ps s0 v2) :
    Touches ps s0 (fwUpdate v0 v1 v2) := by
  unfold fwUpdate
  split
  · refine crownEnd_touches h_regs h_out h_host h_latches h_crown ?_
    assumption
  · lift_lets
    intro x0
    clear_value x0
    intro x1
    clear_value x1
    intro x2
    clear_value x2
    refine Touches.ite ?_ ?_
    · refine crownEnd_touches h_regs h_out h_host h_latches h_crown ?_
      assumption
    · refine Touches.ite ?_ ?_
      · refine crownEnd_touches h_regs h_out h_host h_latches h_crown ?_
        assumption
      · refine setStandby_touches h_regs ?_
        refine setUpdate_touches h_regs h_out h_host ?_
        refine (Touches.upd_crown h_crown ?_)
        assumption

theorem execFwUpdate_touches {ps : Piece → Prop} {s0 : State} (h_regs : ps .regs) (h_out : ps .out) (h_host : ps .host) (h_latches : ps .latches) (h_crown : ps .crown) {v0 : Bool} {v1 : State} (h0 : Touches ps s0 v1) :
    Moves ps s0 (execFwUpdate v0 v1) := by
  unfold execFwUpdate
  refine Moves.next ?_
  refine onCrown_touches ?_ ?_ ?_
  · intro y0
    intro y1
    intro k2
    refine romBusy_touches h_regs h_out h_host h_latches h_crown ?_
    assumption
  · intro y3
    intro y4
    intro k5
    refine fwUpdate_touches h_regs h_out h_host h_latches h_crown ?_
    assumption
  · assumption

theorem execFwConfirm_touches {ps : Piece → Prop} {s0 : State} (h_regs : ps .regs) (h_out : ps .out) (h_host : ps .host) (h_latches : ps .latches) (h_crown : ps .crown) {v0 : Bool} {v1 : State} (h0 : Touches ps s0 v1) :
    Moves ps s0 (execFwConfirm v0 v1) := by
  unfold execFwConfirm
  refine Moves.next ?_
  refine onCrown_touches ?_ ?_ ?_
  · intro y0
    intro y1
    intro k2
    refine romBusy_touches h_regs h_out h_host h_latches h_crown ?_
    assumption
  · intro y3
    intro y4
    intro k5
    refine Touches.ite ?_ ?_
    · refine startResync_touches h_regs h_out h_host h_crown ?_
      assumption
    · refine crownEnd_touches h_regs h_out h_host h_latches h_crown ?_
      assumption
  · assumption

theorem execFwAbort_touches {ps : Piece → Prop} {s0 : State} (h_regs : ps .regs) (h_out : ps .out) (h_host : ps .host) (h_latches : ps .latches) (h_crown : ps .crown) {v0 : Bool} {v1 : State} (h0 : Touches ps s0 v1) :
    Moves ps s0 (execFwAbort v0 v1) := by
  unfold execFwAbort
  refine Moves.next ?_
  refine onCrown_touches ?_ ?_ ?_
  · intro y0
    intro y1
    intro k2
    refine romBusy_touches h_regs h_out h_host h_latches h_crown ?_
    assumption
  · intro y3
    intro y4
    intro k5
    refine Touches.ite ?_ ?_
    · split
      · refine Touches.ite ?_ ?_
        · assumption
        · refine crownEnd_touches h_regs h_out h_host h_latches h_crown ?_
          refine endUpdate_touches h_regs h_out h_host h_latches h_crown ?_
          assumption
      · refine crownEnd_touches h_regs h_out h_host h_latches h_crown ?_
        assumption
    · refine crownEnd_touches h_regs h_out h_host h_latches h_crown ?_
      assumption
  · assumption

theorem execSvnCommit_touches {ps : Piece → Prop} {s0 : State} (h_regs : ps .regs) (h_out : ps .out) (h_host : ps .host) (h_latches : ps .latches) (h_crown : ps .crown) {v0 : Bool} {v1 : State} (h0 : Touches ps s0 v1) :
    Moves ps s0 (execSvnCommit v0 v1) := by
  unfold execSvnCommit
  refine Moves.next ?_
  refine onCrown_touches ?_ ?_ ?_
  · intro y0
    intro y1
    intro k2
    refine romBusy_touches h_regs h_out h_host h_latches h_crown ?_
    assumption
  · intro y3
    intro y4
    intro k5
    refine Touches.ite ?_ ?_
    · refine crownEnd_touches h_regs h_out h_host h_latches h_crown ?_
      assumption
    · lift_lets
      intro x6
      clear_value x6
      intro x7
      clear_value x7
      refine crownEnd_touches h_regs h_out h_host h_latches h_crown ?_
      refine showFirmware_touches h_regs ?_
      refine (Touches.upd_crown h_crown ?_)
      assumption
  · assumption

theorem execDdrRead_touches {ps : Piece → Prop} {s0 : State} (h_regs : ps .regs) (h_free : ps .free) (h_out : ps .out) (h_host : ps .host) (h_latches : ps .latches) (h_crown : ps .crown) {v0 : Bool} {v1 : State} (h0 : Touches ps s0 v1) :
    Moves ps s0 (execDdrRead v0 v1) := by
  unfold execDdrRead
  refine Moves.next ?_
  refine onCrown_touches ?_ ?_ ?_
  · intro y0
    intro y1
    intro k2
    refine romBusy_touches h_regs h_out h_host h_latches h_crown ?_
    assumption
  · intro y3
    intro y4
    intro k5
    refine ddrCopy_touches h_regs h_free h_out h_host h_latches h_crown ?_
    assumption
  · assumption

theorem execFwSelftestDone_touches {ps : Piece → Prop} {s0 : State} (h_regs : ps .regs) (h_out : ps .out) (h_host : ps .host) (h_latches : ps .latches) (h_crown : ps .crown) {v0 : Bool} {v1 : State} (h0 : Touches ps s0 v1) :
    Moves ps s0 (execFwSelftestDone v0 v1) := by
  unfold execFwSelftestDone
  refine Moves.next ?_
  refine State.running_touches ?_ ?_
  · assumption
  · intro y0
    intro k1
    split
    · refine State.given_touches ?_ ?_
      · assumption
      · intro y2
        intro k3
        refine Touches.ite ?_ ?_
        · refine setUpdate_touches h_regs h_out h_host ?_
          assumption
        · refine endUpdate_touches h_regs h_out h_host h_latches h_crown ?_
          assumption
    · assumption

theorem execFwSwitchStart_touches {ps : Piece → Prop} {s0 : State} (h_regs : ps .regs) (h_out : ps .out) (h_host : ps .host) (h_crown : ps .crown) {v0 : State} (h0 : Touches ps s0 v0) :
    Moves ps s0 (execFwSwitchStart v0) := by
  unfold execFwSwitchStart
  refine Moves.next ?_
  refine State.running_touches ?_ ?_
  · assumption
  · intro y0
    intro k1
    split
    · refine State.given_touches ?_ ?_
      · assumption
      · intro y2
        intro k3
        lift_lets
        intro x4
        clear_value x4
        refine setUpdate_touches h_regs h_out h_host ?_
        refine (Touches.upd_crown h_crown ?_)
        assumption
    · assumption

theorem execFwSwitchComplete_touches {ps : Piece → Prop} {s0 : State} (h_regs : ps .regs) (h_free : ps .free) (h_out : ps .out) (h_host : ps .host) (h_latches : ps .latches) (h_crown : ps .crown) {v0 : State} (h0 : Touches ps s0 v0) :
    Moves ps s0 (execFwSwitchComplete v0) := by
  unfold execFwSwitchComplete
  refine Moves.next ?_
  refine State.running_touches ?_ ?_
  · assumption
  · intro y0
    intro k1
    split
    · refine State.given_touches ?_ ?_
      · assumption
      · intro y2
        intro k3
        refine doeServe_touches h_free h_out h_crown ?_
        refine handOver_touches h_regs h_out h_host h_latches h_crown ?_
        assumption
    · assumption

theorem execGetCapabilities_touches {ps : Piece → Prop} {s0 : State} (h_free : ps .free) (h_out : ps .out) (h_crown : ps .crown) {v0 : State} (h0 : Touches ps s0 v0) :
    Moves ps s0 (execGetCapabilities v0) := by
  unfold execGetCapabilities
  refine Moves.next ?_
  refine doeAsk_touches h_free h_out h_crown ?_
  assumption

theorem execNegotiateAlgorithms_touches {ps : Piece → Prop} {s0 : State} (h_free : ps .free) (h_out : ps .out) (h_crown : ps .crown) {v0 : State} (h0 : Touches ps s0 v0) :
    Moves ps s0 (execNegotiateAlgorithms v0) := by
  unfold execNegotiateAlgorithms
  refine Moves.next ?_
  refine doeAsk_touches h_free h_out h_crown ?_
  assumption

theorem execGetDigests_touches {ps : Piece → Prop} {s0 : State} (h_free : ps .free) (h_out : ps .out) (h_crown : ps .crown) {v0 : State} (h0 : Touches ps s0 v0) :
    Moves ps s0 (execGetDigests v0) := by
  unfold execGetDigests
  refine Moves.next ?_
  refine doeAsk_touches h_free h_out h_crown ?_
  assumption

theorem execChallenge_touches {ps : Piece → Prop} {s0 : State} (h_free : ps .free) (h_out : ps .out) (h_crown : ps .crown) {v0 : Fin 8} {v1 : List Byte} {v2 : State} (h0 : Touches ps s0 v2) :
    Moves ps s0 (execChallenge v0 v1 v2) := by
  unfold execChallenge
  refine Moves.next ?_
  refine doeAsk_touches h_free h_out h_crown ?_
  assumption

theorem execGetMeasurements_touches {ps : Piece → Prop} {s0 : State} (h_free : ps .free) (h_out : ps .out) (h_crown : ps .crown) {v0 : BitVec 8} {v1 : Bool} {v2 : List Byte} {v3 : State} (h0 : Touches ps s0 v3) :
    Moves ps s0 (execGetMeasurements v0 v1 v2 v3) := by
  unfold execGetMeasurements
  refine Moves.next ?_
  refine doeAsk_touches h_free h_out h_crown ?_
  assumption

theorem execDoeTimeout_touches {ps : Piece → Prop} {s0 : State} (h_crown : ps .crown) {v0 : State} (h0 : Touches ps s0 v0) :
    Moves ps s0 (execDoeTimeout v0) := by
  unfold execDoeTimeout
  refine Moves.next ?_
  split
  · refine State.given_touches ?_ ?_
    · assumption
    · intro y0
      intro k1
      lift_lets
      intro x2
      clear_value x2
      refine (Touches.upd_crown h_crown ?_)
      assumption
  · assumption

end Sys2Proof.Machine
end

