-- ==== Sys2Proof/Laws/TouchBlockReset.lean ====
section
/-! SUPPORT. What the operations of Machine/BlockReset.lean may touch: one lemma for each. -/

set_option maxRecDepth 10000

namespace Sys2Proof.Machine

theorem cutOctet_touches {ps : Piece → Prop} {s0 : State} (h_regs : ps .regs) (h_out : ps .out) (h_ddr : ps .ddr) (h_poison : ps .poison) (h_host : ps .host) (h_latches : ps .latches) (h_stamps : ps .stamps) (h_brim : ps .brim) (h_palm : ps .palm) (h_ldg : ps .ldg) (h_vsr : ps .vsr) (h_mtn : ps .mtn) {v0 : ℕ} {v1 : State} (h0 : Touches ps s0 v1) :
    Touches ps s0 (cutOctet v0 v1) := by
  unfold cutOctet
  refine Touches.foldl (fun _ _ _ => ?_) ?_
  · refine quietPort_touches h_regs h_out h_host h_stamps h_brim h_mtn ?_
    refine State.wr_touches h_regs ?_
    refine setStep_touches h_regs h_brim ?_
    refine leaveUp_touches h_regs h_out h_ddr h_poison h_host h_latches h_brim h_palm h_ldg h_vsr ?_
    assumption
  · assumption

theorem endPorts_touches {ps : Piece → Prop} {s0 : State} (h_regs : ps .regs) (h_out : ps .out) (h_ddr : ps .ddr) (h_poison : ps .poison) (h_host : ps .host) (h_latches : ps .latches) (h_stamps : ps .stamps) (h_brim : ps .brim) (h_tbl : ps .tbl) (h_palm : ps .palm) (h_timing : ps .timing) (h_ldg : ps .ldg) (h_vsr : ps .vsr) (h_mtn : ps .mtn) {v0 : ℕ} {v1 : State} (h0 : Touches ps s0 v1) :
    Touches ps s0 (endPorts v0 v1) := by
  unfold endPorts
  refine Touches.ite ?_ ?_
  · refine cutOctet_touches h_regs h_out h_ddr h_poison h_host h_latches h_stamps h_brim h_palm h_ldg h_vsr h_mtn ?_
    assumption
  · refine Touches.ite ?_ ?_
    · lift_lets
      intro x0
      clear_value x0
      intro x1
      clear_value x1
      refine lockLoss_touches h_regs h_out h_ddr h_poison h_host h_latches h_stamps h_brim h_tbl h_palm h_timing h_ldg h_vsr h_mtn ?_
      refine (Touches.upd_stamps h_stamps ?_)
      assumption
    · refine Touches.ite ?_ ?_
      · lift_lets
        intro x2
        clear_value x2
        refine Touches.ite ?_ ?_
        · refine quietPort_touches h_regs h_out h_host h_stamps h_brim h_mtn ?_
          refine setStep_touches h_regs h_brim ?_
          refine leaveUp_touches h_regs h_out h_ddr h_poison h_host h_latches h_brim h_palm h_ldg h_vsr ?_
          assumption
        · assumption
      · assumption

theorem endStore_touches {ps : Piece → Prop} {s0 : State} (h_regs : ps .regs) (h_out : ps .out) (h_host : ps .host) (h_ucs : ps .ucs) {v0 : ℕ} {v1 : State} (h0 : Touches ps s0 v1) :
    Touches ps s0 (endStore v0 v1) := by
  unfold endStore
  lift_lets
  intro x0
  clear_value x0
  intro x1
  have hx2 : Touches ps s0 x1 := by
    unfold x1
    refine State.putStore_touches h_ucs ?_
    assumption
  intro x3
  clear_value x3
  intro x4
  have hx5 : Touches ps s0 x4 := by
    unfold x4
    refine (Touches.upd_ucs h_ucs ?_)
    unfold x1
    refine State.putStore_touches h_ucs ?_
    assumption
  refine Touches.ite ?_ ?_
  · refine setUcsState_touches h_regs h_out h_host ?_
    unfold x4
    refine (Touches.upd_ucs h_ucs ?_)
    unfold x1
    refine State.putStore_touches h_ucs ?_
    assumption
  · unfold x4
    refine (Touches.upd_ucs h_ucs ?_)
    unfold x1
    refine State.putStore_touches h_ucs ?_
    assumption

theorem endTables_touches {ps : Piece → Prop} {s0 : State} (h_regs : ps .regs) (h_out : ps .out) (h_host : ps .host) (h_latches : ps .latches) (h_ucs : ps .ucs) (h_tbl : ps .tbl) (h_ses : ps .ses) {v0 : ℕ} {v1 : State} (h0 : Touches ps s0 v1) :
    Touches ps s0 (endTables v0 v1) := by
  unfold endTables
  refine Touches.ite ?_ ?_
  · lift_lets
    intro x0
    clear_value x0
    refine (Touches.upd_ses h_ses ?_)
    assumption
  · refine Touches.ite ?_ ?_
    · refine Touches.ite ?_ ?_
      · assumption
      · refine discardEpoch_touches h_regs h_out h_host h_latches h_tbl ?_
        assumption
    · refine Touches.ite ?_ ?_
      · lift_lets
        intro x1
        clear_value x1
        refine (Touches.upd_tbl h_tbl ?_)
        assumption
      · refine Touches.ite ?_ ?_
        · refine showCq_touches h_regs ?_
          refine State.putCq_touches h_tbl ?_
          assumption
        · refine Touches.ite ?_ ?_
          · refine endStore_touches h_regs h_out h_host h_ucs ?_
            assumption
          · assumption

theorem endRecords_touches {ps : Piece → Prop} {s0 : State} (h_regs : ps .regs) (h_palm : ps .palm) (h_timing : ps .timing) (h_ldg : ps .ldg) (h_vsr : ps .vsr) (h_pwc : ps .pwc) {v0 : ℕ} {v1 : State} (h0 : Touches ps s0 v1) :
    Touches ps s0 (endRecords v0 v1) := by
  unfold endRecords
  refine Touches.ite ?_ ?_
  · lift_lets
    intro x0
    clear_value x0
    refine (Touches.upd_ldg h_ldg ?_)
    assumption
  · refine Touches.ite ?_ ?_
    · lift_lets
      intro x1
      clear_value x1
      refine (Touches.upd_ldg h_ldg ?_)
      assumption
    · refine Touches.ite ?_ ?_
      · lift_lets
        intro x2
        clear_value x2
        refine (Touches.upd_ldg h_ldg ?_)
        assumption
      · refine Touches.ite ?_ ?_
        · lift_lets
          intro x3
          clear_value x3
          refine (Touches.upd_vsr h_vsr ?_)
          assumption
        · refine Touches.ite ?_ ?_
          · refine State.putHring_touches h_palm ?_
            assumption
          · refine Touches.ite ?_ ?_
            · lift_lets
              intro x4
              clear_value x4
              refine State.putMerge_touches h_timing ?_
              assumption
            · refine Touches.ite ?_ ?_
              · lift_lets
                intro x5
                clear_value x5
                refine putBatches_touches h_regs h_timing h_pwc ?_
                refine State.putRel_touches h_timing ?_
                assumption
              · assumption

theorem endControl_touches {ps : Piece → Prop} {s0 : State} (h_regs : ps .regs) (h_free : ps .free) (h_out : ps .out) (h_host : ps .host) (h_latches : ps .latches) (h_hat : ps .hat) (h_stamps : ps .stamps) (h_pwc : ps .pwc) (h_crown : ps .crown) {v0 : ℕ} {v1 : State} (h0 : Touches ps s0 v1) :
    Touches ps s0 (endControl v0 v1) := by
  unfold endControl
  refine Touches.ite ?_ ?_
  · lift_lets
    intro x0
    have hx1 : Touches ps s0 x0 := by
      unfold x0
      refine Touches.ite ?_ ?_
      · refine setStandby_touches h_regs ?_
        assumption
      · assumption
    clear_value x0
    intro x2
    clear_value x2
    refine (Touches.upd_crown h_crown ?_)
    assumption
  · refine Touches.ite ?_ ?_
    · lift_lets
      intro x3
      clear_value x3
      refine (Touches.upd_crown h_crown ?_)
      assumption
    · refine Touches.ite ?_ ?_
      · lift_lets
        intro x4
        clear_value x4
        refine (Touches.upd_pwc h_pwc ?_)
        assumption
      · refine Touches.ite ?_ ?_
        · lift_lets
          intro x5
          have hx6 : Touches ps s0 x5 := by
            unfold x5
            refine enterHoldover_touches h_regs h_free h_out h_host h_latches h_hat ?_
            refine breakAgreement_touches h_regs h_hat ?_
            refine stopSlew_touches h_regs h_hat ?_
            assumption
          clear_value x5
          intro x7
          clear_value x7
          refine (Touches.upd_hat h_hat ?_)
          assumption
        · refine Touches.ite ?_ ?_
          · lift_lets
            intro x8
            clear_value x8
            refine (Touches.upd_hat h_hat ?_)
            assumption
          · refine Touches.ite ?_ ?_
            · lift_lets
              intro x9
              clear_value x9
              refine (Touches.upd_hat h_hat ?_)
              assumption
            · refine Touches.ite ?_ ?_
              · lift_lets
                intro x10
                clear_value x10
                refine (Touches.upd_hat h_hat ?_)
                assumption
              · refine Touches.ite ?_ ?_
                · lift_lets
                  intro x11
                  clear_value x11
                  refine (Touches.upd_stamps h_stamps ?_)
                  assumption
                · assumption

theorem endWork_touches {ps : Piece → Prop} {s0 : State} (h_regs : ps .regs) (h_free : ps .free) (h_out : ps .out) (h_ddr : ps .ddr) (h_poison : ps .poison) (h_host : ps .host) (h_latches : ps .latches) (h_hat : ps .hat) (h_stamps : ps .stamps) (h_ucs : ps .ucs) (h_brim : ps .brim) (h_tbl : ps .tbl) (h_palm : ps .palm) (h_timing : ps .timing) (h_ses : ps .ses) (h_ldg : ps .ldg) (h_vsr : ps .vsr) (h_mtn : ps .mtn) (h_pwc : ps .pwc) (h_crown : ps .crown) {v0 : ℕ} {v1 : State} (h0 : Touches ps s0 v1) :
    Touches ps s0 (endWork v0 v1) := by
  unfold endWork
  refine endPorts_touches h_regs h_out h_ddr h_poison h_host h_latches h_stamps h_brim h_tbl h_palm h_timing h_ldg h_vsr h_mtn ?_
  refine endTables_touches h_regs h_out h_host h_latches h_ucs h_tbl h_ses ?_
  refine endRecords_touches h_regs h_palm h_timing h_ldg h_vsr h_pwc ?_
  refine endControl_touches h_regs h_free h_out h_host h_latches h_hat h_stamps h_pwc h_crown ?_
  assumption

theorem cutReplica_touches {ps : Piece → Prop} {s0 : State} (h_regs : ps .regs) (h_out : ps .out) (h_ddr : ps .ddr) (h_poison : ps .poison) (h_host : ps .host) (h_latches : ps .latches) (h_palm : ps .palm) (h_ldg : ps .ldg) (h_vsr : ps .vsr) {v0 : ℕ} {v1 : State} (h0 : Touches ps s0 v1) :
    Touches ps s0 (cutReplica v0 v1) := by
  unfold cutReplica
  refine State.onReplica_touches ?_ ?_
  · assumption
  · intro y0
    intro y1
    intro y2
    intro k3
    refine Touches.ite ?_ ?_
    · refine stompReplica_touches h_regs h_out h_host h_latches h_palm h_vsr ?_
      assumption
    · refine dropReplica_touches h_regs h_out h_ddr h_poison h_host h_latches h_palm h_ldg h_vsr ?_
      assumption

theorem cutFrame_touches {ps : Piece → Prop} {s0 : State} (h_regs : ps .regs) (h_out : ps .out) (h_ddr : ps .ddr) (h_poison : ps .poison) (h_host : ps .host) (h_latches : ps .latches) (h_palm : ps .palm) (h_timing : ps .timing) (h_ldg : ps .ldg) (h_vsr : ps .vsr) {v0 : ℕ} {v1 : State} (h0 : Touches ps s0 v1) :
    Touches ps s0 (cutFrame v0 v1) := by
  unfold cutFrame
  refine State.onFrame_touches ?_ ?_
  · assumption
  · intro y0
    intro y1
    intro k2
    refine Touches.ite ?_ ?_
    · refine Touches.foldl (fun _ _ _ => ?_) ?_
      · refine cutReplica_touches h_regs h_out h_ddr h_poison h_host h_latches h_palm h_ldg h_vsr ?_
        assumption
      · assumption
    · refine dropAtIngress_touches h_regs h_out h_ddr h_poison h_host h_latches h_palm h_ldg h_vsr ?_
      refine forgetHeld_touches h_regs h_timing ?_
      assumption

theorem cutInside_touches {ps : Piece → Prop} {s0 : State} (h_regs : ps .regs) (h_out : ps .out) (h_ddr : ps .ddr) (h_poison : ps .poison) (h_host : ps .host) (h_latches : ps .latches) (h_palm : ps .palm) (h_timing : ps .timing) (h_ldg : ps .ldg) (h_vsr : ps .vsr) {v0 : ℕ} {v1 : State} (h0 : Touches ps s0 v1) :
    Touches ps s0 (cutInside v0 v1) := by
  unfold cutInside
  refine Touches.foldl (fun _ _ _ => ?_) ?_
  · refine cutReplica_touches h_regs h_out h_ddr h_poison h_host h_latches h_palm h_ldg h_vsr ?_
    assumption
  · refine Touches.foldl (fun _ _ _ => ?_) ?_
    · refine cutFrame_touches h_regs h_out h_ddr h_poison h_host h_latches h_palm h_timing h_ldg h_vsr ?_
      assumption
    · assumption

theorem startReset_touches {ps : Piece → Prop} {s0 : State} (h_regs : ps .regs) (h_free : ps .free) (h_out : ps .out) (h_ddr : ps .ddr) (h_poison : ps .poison) (h_host : ps .host) (h_latches : ps .latches) (h_hat : ps .hat) (h_stamps : ps .stamps) (h_ucs : ps .ucs) (h_brim : ps .brim) (h_tbl : ps .tbl) (h_palm : ps .palm) (h_timing : ps .timing) (h_ses : ps .ses) (h_ldg : ps .ldg) (h_vsr : ps .vsr) (h_mtn : ps .mtn) (h_pwc : ps .pwc) (h_gnt : ps .gnt) (h_crown : ps .crown) {v0 : ℕ} {v1 : ℕ} {v2 : State} (h0 : Touches ps s0 v2) :
    Touches ps s0 (startReset v0 v1 v2) := by
  unfold startReset
  refine clearStatus_touches h_regs h_host ?_
  refine endWork_touches h_regs h_free h_out h_ddr h_poison h_host h_latches h_hat h_stamps h_ucs h_brim h_tbl h_palm h_timing h_ses h_ldg h_vsr h_mtn h_pwc h_crown ?_
  refine cutInside_touches h_regs h_out h_ddr h_poison h_host h_latches h_palm h_timing h_ldg h_vsr ?_
  refine countReset_touches h_regs h_out h_host h_latches h_gnt ?_
  refine openQuench_touches h_regs h_gnt ?_
  assumption

theorem startHeld_touches {ps : Piece → Prop} {s0 : State} (h_regs : ps .regs) (h_free : ps .free) (h_out : ps .out) (h_ddr : ps .ddr) (h_poison : ps .poison) (h_host : ps .host) (h_latches : ps .latches) (h_hat : ps .hat) (h_stamps : ps .stamps) (h_ucs : ps .ucs) (h_brim : ps .brim) (h_tbl : ps .tbl) (h_palm : ps .palm) (h_timing : ps .timing) (h_ses : ps .ses) (h_ldg : ps .ldg) (h_vsr : ps .vsr) (h_mtn : ps .mtn) (h_pwc : ps .pwc) (h_gnt : ps .gnt) (h_crown : ps .crown) (h_boot : ps .boot) {v0 : State} (h0 : Touches ps s0 v0) :
    Touches ps s0 (startHeld v0) := by
  unfold startHeld
  refine Touches.foldl (fun _ _ _ => ?_) ?_
  · lift_lets
    intro x0
    clear_value x0
    refine startReset_touches h_regs h_free h_out h_ddr h_poison h_host h_latches h_hat h_stamps h_ucs h_brim h_tbl h_palm h_timing h_ses h_ldg h_vsr h_mtn h_pwc h_gnt h_crown ?_
    refine (Touches.upd_boot h_boot ?_)
    assumption
  · assumption

theorem execWakeStageComplete_touches {ps : Piece → Prop} {s0 : State} (h_regs : ps .regs) (h_free : ps .free) (h_out : ps .out) (h_ddr : ps .ddr) (h_poison : ps .poison) (h_host : ps .host) (h_latches : ps .latches) (h_hat : ps .hat) (h_stamps : ps .stamps) (h_ucs : ps .ucs) (h_brim : ps .brim) (h_tbl : ps .tbl) (h_palm : ps .palm) (h_timing : ps .timing) (h_ses : ps .ses) (h_ldg : ps .ldg) (h_vsr : ps .vsr) (h_mtn : ps .mtn) (h_pwc : ps .pwc) (h_gnt : ps .gnt) (h_crown : ps .crown) (h_dram : ps .dram) (h_boot : ps .boot) {v0 : Fin 209} {v1 : List LostBank} {v2 : State} (h0 : Touches ps s0 v2) :
    Moves ps s0 (execWakeStageComplete v0 v1 v2) := by
  unfold execWakeStageComplete
  refine Moves.next ?_
  refine State.given_touches ?_ ?_
  · assumption
  · intro y0
    intro k1
    refine startHeld_touches h_regs h_free h_out h_ddr h_poison h_host h_latches h_hat h_stamps h_ucs h_brim h_tbl h_palm h_timing h_ses h_ldg h_vsr h_mtn h_pwc h_gnt h_crown h_boot ?_
    refine stageEnds_touches h_regs h_free h_out h_host h_latches h_hat h_ucs h_tbl h_palm h_mtn h_dram ?_
    assumption

theorem blockReset_touches {ps : Piece → Prop} {s0 : State} (h_regs : ps .regs) (h_free : ps .free) (h_out : ps .out) (h_ddr : ps .ddr) (h_poison : ps .poison) (h_host : ps .host) (h_latches : ps .latches) (h_hat : ps .hat) (h_stamps : ps .stamps) (h_ucs : ps .ucs) (h_brim : ps .brim) (h_tbl : ps .tbl) (h_palm : ps .palm) (h_timing : ps .timing) (h_ses : ps .ses) (h_ldg : ps .ldg) (h_vsr : ps .vsr) (h_mtn : ps .mtn) (h_pwc : ps .pwc) (h_gnt : ps .gnt) (h_crown : ps .crown) (h_boot : ps .boot) {v0 : ℕ} {v1 : State} (h0 : Touches ps s0 v1) :
    Touches ps s0 (blockReset v0 v1) := by
  unfold blockReset
  refine State.given_touches ?_ ?_
  · assumption
  · intro y0
    intro k1
    lift_lets
    intro x2
    have hx3 : Touches ps s0 x2 := by
      unfold x2
      refine State.set1_touches h_regs h_latches ?_
      assumption
    clear_value x2
    intro x4
    clear_value x4
    intro x5
    clear_value x5
    refine Touches.ite ?_ ?_
    · refine startReset_touches h_regs h_free h_out h_ddr h_poison h_host h_latches h_hat h_stamps h_ucs h_brim h_tbl h_palm h_timing h_ses h_ldg h_vsr h_mtn h_pwc h_gnt h_crown ?_
      assumption
    · refine (Touches.upd_boot h_boot ?_)
      assumption

theorem execBlockReset_touches {ps : Piece → Prop} {s0 : State} (h_regs : ps .regs) (h_free : ps .free) (h_out : ps .out) (h_ddr : ps .ddr) (h_poison : ps .poison) (h_host : ps .host) (h_latches : ps .latches) (h_hat : ps .hat) (h_stamps : ps .stamps) (h_ucs : ps .ucs) (h_brim : ps .brim) (h_tbl : ps .tbl) (h_palm : ps .palm) (h_timing : ps .timing) (h_ses : ps .ses) (h_ldg : ps .ldg) (h_vsr : ps .vsr) (h_mtn : ps .mtn) (h_pwc : ps .pwc) (h_gnt : ps .gnt) (h_crown : ps .crown) (h_boot : ps .boot) {v0 : BitVec 14} {v1 : State} (h0 : Touches ps s0 v1) :
    Moves ps s0 (execBlockReset v0 v1) := by
  unfold execBlockReset
  refine Moves.next ?_
  refine State.headerWrite_touches h_regs h_out h_host h_latches ?_ ?_
  · assumption
  · intro y0
    intro k1
    refine blockReset_touches h_regs h_free h_out h_ddr h_poison h_host h_latches h_hat h_stamps h_ucs h_brim h_tbl h_palm h_timing h_ses h_ldg h_vsr h_mtn h_pwc h_gnt h_crown h_boot ?_
    assumption

theorem restartWork_touches {ps : Piece → Prop} {s0 : State} (h_regs : ps .regs) (h_out : ps .out) (h_ddr : ps .ddr) (h_poison : ps .poison) (h_host : ps .host) (h_latches : ps .latches) (h_hat : ps .hat) (h_stamps : ps .stamps) (h_brim : ps .brim) (h_palm : ps .palm) (h_timing : ps .timing) (h_ldg : ps .ldg) (h_vsr : ps .vsr) (h_mtn : ps .mtn) {v0 : ℕ} {v1 : State} (h0 : Touches ps s0 v1) :
    Touches ps s0 (restartWork v0 v1) := by
  unfold restartWork
  lift_lets
  intro x0
  have hx1 : ∀ a0 a1, Touches ps s0 a0 → Touches ps s0 (x0 a0 a1) := by
    intro y2
    intro y3
    intro k4
    unfold x0
    refine Touches.ite ?_ ?_
    · refine startLadder_touches h_regs h_out h_ddr h_poison h_host h_latches h_stamps h_brim h_palm h_ldg h_vsr h_mtn ?_
      assumption
    · assumption
  clear_value x0
  intro x5
  clear_value x5
  refine Touches.ite ?_ ?_
  · refine (Touches.upd_hat h_hat ?_)
    assumption
  · refine Touches.ite ?_ ?_
    · refine Touches.foldl (fun _ _ _ => ?_) ?_
      · refine Touches.ite ?_ ?_
        · refine State.putQ_touches h_regs ?_
          assumption
        · assumption
      · assumption
    · refine Touches.ite ?_ ?_
      · refine Touches.ite ?_ ?_
        · refine startRun_touches h_regs h_out h_host h_latches h_ldg h_vsr ?_
          assumption
        · assumption
      · refine Touches.ite ?_ ?_
        · refine Touches.ite ?_ ?_
          · refine refreshPaces_touches h_regs ?_
            refine mergeEnable_touches h_regs h_out h_host h_latches h_timing ?_
            assumption
          · assumption
        · refine Touches.ite ?_ ?_
          · refine Touches.ite ?_ ?_
            · refine relEnable_touches h_regs h_out h_host h_latches h_timing h_mtn ?_
              assumption
            · assumption
          · refine Touches.ite ?_ ?_
            · refine State.wr_touches h_regs ?_
              assumption
            · refine Touches.ite ?_ ?_
              · refine Touches.foldl (fun _ _ _ => ?_) ?_
                · refine hx1 _ _ ?_
                  assumption
                · assumption
              · refine Touches.ite ?_ ?_
                · refine showEq_touches h_regs ?_
                  assumption
                · refine Touches.ite ?_ ?_
                  · refine Touches.ite ?_ ?_
                    · refine hx1 _ _ ?_
                      assumption
                    · assumption
                  · assumption

theorem execBlockResetComplete_touches {ps : Piece → Prop} {s0 : State} (h_regs : ps .regs) (h_out : ps .out) (h_ddr : ps .ddr) (h_poison : ps .poison) (h_host : ps .host) (h_latches : ps .latches) (h_hat : ps .hat) (h_stamps : ps .stamps) (h_brim : ps .brim) (h_palm : ps .palm) (h_timing : ps .timing) (h_ldg : ps .ldg) (h_vsr : ps .vsr) (h_mtn : ps .mtn) {v0 : BitVec 14} {v1 : State} (h0 : Touches ps s0 v1) :
    Moves ps s0 (execBlockResetComplete v0 v1) := by
  unfold execBlockResetComplete
  refine Moves.next ?_
  refine State.running_touches ?_ ?_
  · assumption
  · intro y0
    intro k1
    refine State.given_touches ?_ ?_
    · assumption
    · intro y2
      intro k3
      refine restartWork_touches h_regs h_out h_ddr h_poison h_host h_latches h_hat h_stamps h_brim h_palm h_timing h_ldg h_vsr h_mtn ?_
      refine State.wr_touches h_regs ?_
      assumption

theorem execClockGate_touches {ps : Piece → Prop} {s0 : State} (h_regs : ps .regs) (h_free : ps .free) (h_out : ps .out) (h_ddr : ps .ddr) (h_poison : ps .poison) (h_host : ps .host) (h_latches : ps .latches) (h_hat : ps .hat) (h_stamps : ps .stamps) (h_ucs : ps .ucs) (h_brim : ps .brim) (h_tbl : ps .tbl) (h_palm : ps .palm) (h_timing : ps .timing) (h_ses : ps .ses) (h_ldg : ps .ldg) (h_vsr : ps .vsr) (h_mtn : ps .mtn) (h_pwc : ps .pwc) (h_gnt : ps .gnt) (h_crown : ps .crown) (h_boot : ps .boot) {v0 : Fin 209} {v1 : Bool} {v2 : State} (h0 : Touches ps s0 v2) :
    Moves ps s0 (execClockGate v0 v1 v2) := by
  unfold execClockGate
  lift_lets
  intro x0
  clear_value x0
  refine Moves.next ?_
  refine State.given_touches ?_ ?_
  · assumption
  · intro y1
    intro k2
    refine startHeld_touches h_regs h_free h_out h_ddr h_poison h_host h_latches h_hat h_stamps h_ucs h_brim h_tbl h_palm h_timing h_ses h_ldg h_vsr h_mtn h_pwc h_gnt h_crown h_boot ?_
    refine State.putDom_touches h_regs h_out h_host h_mtn ?_
    assumption

theorem execReinitComplete_touches {ps : Piece → Prop} {s0 : State} (h_regs : ps .regs) (h_free : ps .free) (h_out : ps .out) (h_ddr : ps .ddr) (h_poison : ps .poison) (h_host : ps .host) (h_latches : ps .latches) (h_hat : ps .hat) (h_stamps : ps .stamps) (h_ucs : ps .ucs) (h_brim : ps .brim) (h_tbl : ps .tbl) (h_palm : ps .palm) (h_timing : ps .timing) (h_ses : ps .ses) (h_ldg : ps .ldg) (h_vsr : ps .vsr) (h_mtn : ps .mtn) (h_pwc : ps .pwc) (h_gnt : ps .gnt) (h_crown : ps .crown) (h_boot : ps .boot) {v0 : Fin 209} {v1 : State} (h0 : Touches ps s0 v1) :
    Moves ps s0 (execReinitComplete v0 v1) := by
  unfold execReinitComplete
  lift_lets
  intro x0
  clear_value x0
  intro x1
  clear_value x1
  refine Moves.next ?_
  refine State.given_touches ?_ ?_
  · assumption
  · intro y2
    intro k3
    refine startHeld_touches h_regs h_free h_out h_ddr h_poison h_host h_latches h_hat h_stamps h_ucs h_brim h_tbl h_palm h_timing h_ses h_ldg h_vsr h_mtn h_pwc h_gnt h_crown h_boot ?_
    refine wakeEnds_touches h_regs h_free h_out h_host h_latches h_hat h_mtn ?_
    refine Touches.ite ?_ ?_
    · refine reinit_touches h_regs h_out h_ddr h_poison h_host h_latches h_stamps h_ucs h_brim h_tbl h_palm h_ldg h_vsr h_mtn ?_
      assumption
    · assumption

end Sys2Proof.Machine
end

