-- ==== Sys2Proof/Laws/TouchCapping.lean ====
section
/-! SUPPORT. What the operations of Machine/Capping.lean may touch: one lemma for each. -/

set_option maxRecDepth 10000

namespace Sys2Proof.Machine

theorem chargeQueues_touches {ps : Piece → Prop} {s0 : State} (h_pwc : ps .pwc) {v0 : List ℕ} {v1 : State} (h0 : Touches ps s0 v1) :
    Touches ps s0 (chargeQueues v0 v1) := by
  unfold chargeQueues
  lift_lets
  intro x0
  clear_value x0
  intro x1
  clear_value x1
  refine (Touches.upd_pwc h_pwc ?_)
  assumption

theorem writeCap_touches {ps : Piece → Prop} {s0 : State} (h_regs : ps .regs) (h_pwc : ps .pwc) {v0 : ℕ} {v1 : State} (h0 : Touches ps s0 v1) :
    Touches ps s0 (writeCap v0 v1) := by
  unfold writeCap
  lift_lets
  intro x0
  clear_value x0
  intro x1
  have hx2 : Touches ps s0 x1 := by
    unfold x1
    refine State.wr_touches h_regs ?_
    refine State.wr_touches h_regs ?_
    refine State.wr_touches h_regs ?_
    assumption
  clear_value x1
  intro x3
  clear_value x3
  refine State.wr_touches h_regs ?_
  refine (Touches.upd_pwc h_pwc ?_)
  assumption

theorem calStart_touches {ps : Piece → Prop} {s0 : State} (h_regs : ps .regs) (h_pwc : ps .pwc) {v0 : State} (h0 : Touches ps s0 v0) :
    Touches ps s0 (calStart v0) := by
  unfold calStart
  refine Touches.ite ?_ ?_
  · assumption
  · lift_lets
    intro x0
    clear_value x0
    refine State.wr_touches h_regs ?_
    refine (Touches.upd_pwc h_pwc ?_)
    assumption

theorem useFused_touches {ps : Piece → Prop} {s0 : State} (h_regs : ps .regs) (h_pwc : ps .pwc) {v0 : State} (h0 : Touches ps s0 v0) :
    Touches ps s0 (useFused v0) := by
  unfold useFused
  lift_lets
  intro x0
  clear_value x0
  refine State.wr_touches h_regs ?_
  refine State.wr_touches h_regs ?_
  refine (Touches.upd_pwc h_pwc ?_)
  assumption

theorem setCapT_touches {ps : Piece → Prop} {s0 : State} (h_regs : ps .regs) (h_pwc : ps .pwc) {v0 : ℕ} {v1 : State} (h0 : Touches ps s0 v1) :
    Touches ps s0 (setCapT v0 v1) := by
  unfold setCapT
  lift_lets
  intro x0
  clear_value x0
  intro x1
  clear_value x1
  refine Touches.ite ?_ ?_
  · assumption
  · refine State.wr_touches h_regs ?_
    refine (Touches.upd_pwc h_pwc ?_)
    assumption

theorem thermalSample_touches {ps : Piece → Prop} {s0 : State} (h_regs : ps .regs) (h_out : ps .out) (h_host : ps .host) (h_latches : ps .latches) (h_pwc : ps .pwc) {v0 : List (Option ℤ)} {v1 : State} (h0 : Touches ps s0 v1) :
    Touches ps s0 (thermalSample v0 v1) := by
  unfold thermalSample
  lift_lets
  intro x0
  clear_value x0
  intro x1
  clear_value x1
  intro x2
  have hx3 : Touches ps s0 x2 := by
    unfold x2
    refine Touches.foldl (fun _ _ _ => ?_) ?_
    · split
      · refine Touches.ite ?_ ?_
        · assumption
        · refine State.wrx_touches h_regs ?_
          assumption
      · assumption
    · refine State.wr_touches h_regs ?_
      assumption
  clear_value x2
  intro x4
  have hx5 : Touches ps s0 x4 := by
    unfold x4
    refine Touches.ite ?_ ?_
    · assumption
    · refine State.raise_touches h_regs h_out h_host h_latches ?_
      assumption
  clear_value x4
  intro x6
  clear_value x6
  intro x7
  clear_value x7
  intro x8
  clear_value x8
  intro x9
  clear_value x9
  intro x10
  clear_value x10
  intro x11
  have hx12 : ∀ a0, Touches ps s0 a0 → Touches ps s0 (x11 a0) := by
    intro y13
    intro k14
    unfold x11
    refine Touches.ite ?_ ?_
    · refine State.vector_touches h_out h_host ?_
      refine State.raise_touches h_regs h_out h_host h_latches ?_
      assumption
    · assumption
  clear_value x11
  intro x15
  clear_value x15
  split
  · split
    · split
      · dsimp only
        split
        · assumption
        · refine Touches.ite ?_ ?_
          · refine hx12 _ ?_
            refine State.raise_touches h_regs h_out h_host h_latches ?_
            refine setCapT_touches h_regs h_pwc ?_
            refine (Touches.upd_pwc h_pwc ?_)
            refine State.wr_touches h_regs ?_
            refine State.wr_touches h_regs ?_
            assumption
          · refine Touches.ite ?_ ?_
            · refine hx12 _ ?_
              refine setCapT_touches h_regs h_pwc ?_
              refine State.vector_touches h_out h_host ?_
              refine (Touches.upd_pwc h_pwc ?_)
              refine State.wr_touches h_regs ?_
              refine State.wr_touches h_regs ?_
              assumption
            · refine Touches.ite ?_ ?_
              · refine State.vector_touches h_out h_host ?_
                refine setCapT_touches h_regs h_pwc ?_
                refine State.vector_touches h_out h_host ?_
                refine (Touches.upd_pwc h_pwc ?_)
                refine State.wr_touches h_regs ?_
                refine State.wr_touches h_regs ?_
                assumption
              · refine State.vector_touches h_out h_host ?_
                refine (Touches.upd_pwc h_pwc ?_)
                refine State.wr_touches h_regs ?_
                refine State.wr_touches h_regs ?_
                assumption
      · dsimp only
        split
        · assumption
        · refine Touches.ite ?_ ?_
          · refine hx12 _ ?_
            refine State.raise_touches h_regs h_out h_host h_latches ?_
            refine setCapT_touches h_regs h_pwc ?_
            refine (Touches.upd_pwc h_pwc ?_)
            refine State.wr_touches h_regs ?_
            refine State.wr_touches h_regs ?_
            assumption
          · refine Touches.ite ?_ ?_
            · refine hx12 _ ?_
              refine setCapT_touches h_regs h_pwc ?_
              refine State.vector_touches h_out h_host ?_
              refine (Touches.upd_pwc h_pwc ?_)
              refine State.wr_touches h_regs ?_
              refine State.wr_touches h_regs ?_
              assumption
            · refine Touches.ite ?_ ?_
              · refine setCapT_touches h_regs h_pwc ?_
                refine State.vector_touches h_out h_host ?_
                refine (Touches.upd_pwc h_pwc ?_)
                refine State.wr_touches h_regs ?_
                refine State.wr_touches h_regs ?_
                assumption
              · refine State.vector_touches h_out h_host ?_
                refine (Touches.upd_pwc h_pwc ?_)
                refine State.wr_touches h_regs ?_
                refine State.wr_touches h_regs ?_
                assumption
    · split
      · dsimp only
        split
        · assumption
        · refine Touches.ite ?_ ?_
          · refine hx12 _ ?_
            refine State.raise_touches h_regs h_out h_host h_latches ?_
            refine setCapT_touches h_regs h_pwc ?_
            refine (Touches.upd_pwc h_pwc ?_)
            refine State.wr_touches h_regs ?_
            refine State.wr_touches h_regs ?_
            assumption
          · refine Touches.ite ?_ ?_
            · refine State.vector_touches h_out h_host ?_
              refine (Touches.upd_pwc h_pwc ?_)
              refine State.wr_touches h_regs ?_
              refine State.wr_touches h_regs ?_
              assumption
            · refine Touches.ite ?_ ?_
              · refine State.vector_touches h_out h_host ?_
                refine setCapT_touches h_regs h_pwc ?_
                refine State.vector_touches h_out h_host ?_
                refine (Touches.upd_pwc h_pwc ?_)
                refine State.wr_touches h_regs ?_
                refine State.wr_touches h_regs ?_
                assumption
              · refine State.vector_touches h_out h_host ?_
                refine (Touches.upd_pwc h_pwc ?_)
                refine State.wr_touches h_regs ?_
                refine State.wr_touches h_regs ?_
                assumption
      · dsimp only
        split
        · assumption
        · refine Touches.ite ?_ ?_
          · refine hx12 _ ?_
            refine State.raise_touches h_regs h_out h_host h_latches ?_
            refine setCapT_touches h_regs h_pwc ?_
            refine (Touches.upd_pwc h_pwc ?_)
            refine State.wr_touches h_regs ?_
            refine State.wr_touches h_regs ?_
            assumption
          · refine Touches.ite ?_ ?_
            · refine State.vector_touches h_out h_host ?_
              refine (Touches.upd_pwc h_pwc ?_)
              refine State.wr_touches h_regs ?_
              refine State.wr_touches h_regs ?_
              assumption
            · refine Touches.ite ?_ ?_
              · refine setCapT_touches h_regs h_pwc ?_
                refine State.vector_touches h_out h_host ?_
                refine (Touches.upd_pwc h_pwc ?_)
                refine State.wr_touches h_regs ?_
                refine State.wr_touches h_regs ?_
                assumption
              · refine State.vector_touches h_out h_host ?_
                refine (Touches.upd_pwc h_pwc ?_)
                refine State.wr_touches h_regs ?_
                refine State.wr_touches h_regs ?_
                assumption
  · split
    · split
      · dsimp only
        split
        · assumption
        · refine Touches.ite ?_ ?_
          · refine hx12 _ ?_
            refine State.vector_touches h_out h_host ?_
            refine State.raise_touches h_regs h_out h_host h_latches ?_
            refine setCapT_touches h_regs h_pwc ?_
            refine (Touches.upd_pwc h_pwc ?_)
            refine State.wr_touches h_regs ?_
            refine State.wr_touches h_regs ?_
            assumption
          · refine Touches.ite ?_ ?_
            · refine hx12 _ ?_
              refine setCapT_touches h_regs h_pwc ?_
              refine (Touches.upd_pwc h_pwc ?_)
              refine State.wr_touches h_regs ?_
              refine State.wr_touches h_regs ?_
              assumption
            · refine Touches.ite ?_ ?_
              · refine State.vector_touches h_out h_host ?_
                refine setCapT_touches h_regs h_pwc ?_
                refine (Touches.upd_pwc h_pwc ?_)
                refine State.wr_touches h_regs ?_
                refine State.wr_touches h_regs ?_
                assumption
              · refine (Touches.upd_pwc h_pwc ?_)
                refine State.wr_touches h_regs ?_
                refine State.wr_touches h_regs ?_
                assumption
      · dsimp only
        split
        · assumption
        · refine Touches.ite ?_ ?_
          · refine hx12 _ ?_
            refine State.vector_touches h_out h_host ?_
            refine State.raise_touches h_regs h_out h_host h_latches ?_
            refine setCapT_touches h_regs h_pwc ?_
            refine (Touches.upd_pwc h_pwc ?_)
            refine State.wr_touches h_regs ?_
            refine State.wr_touches h_regs ?_
            assumption
          · refine Touches.ite ?_ ?_
            · refine hx12 _ ?_
              refine setCapT_touches h_regs h_pwc ?_
              refine (Touches.upd_pwc h_pwc ?_)
              refine State.wr_touches h_regs ?_
              refine State.wr_touches h_regs ?_
              assumption
            · refine Touches.ite ?_ ?_
              · refine setCapT_touches h_regs h_pwc ?_
                refine (Touches.upd_pwc h_pwc ?_)
                refine State.wr_touches h_regs ?_
                refine State.wr_touches h_regs ?_
                assumption
              · refine (Touches.upd_pwc h_pwc ?_)
                refine State.wr_touches h_regs ?_
                refine State.wr_touches h_regs ?_
                assumption
    · split
      · dsimp only
        split
        · assumption
        · refine Touches.ite ?_ ?_
          · refine hx12 _ ?_
            refine State.vector_touches h_out h_host ?_
            refine State.raise_touches h_regs h_out h_host h_latches ?_
            refine setCapT_touches h_regs h_pwc ?_
            refine (Touches.upd_pwc h_pwc ?_)
            refine State.wr_touches h_regs ?_
            refine State.wr_touches h_regs ?_
            assumption
          · refine Touches.ite ?_ ?_
            · refine (Touches.upd_pwc h_pwc ?_)
              refine State.wr_touches h_regs ?_
              refine State.wr_touches h_regs ?_
              assumption
            · refine Touches.ite ?_ ?_
              · refine State.vector_touches h_out h_host ?_
                refine setCapT_touches h_regs h_pwc ?_
                refine (Touches.upd_pwc h_pwc ?_)
                refine State.wr_touches h_regs ?_
                refine State.wr_touches h_regs ?_
                assumption
              · refine (Touches.upd_pwc h_pwc ?_)
                refine State.wr_touches h_regs ?_
                refine State.wr_touches h_regs ?_
                assumption
      · dsimp only
        split
        · assumption
        · refine Touches.ite ?_ ?_
          · refine hx12 _ ?_
            refine State.vector_touches h_out h_host ?_
            refine State.raise_touches h_regs h_out h_host h_latches ?_
            refine setCapT_touches h_regs h_pwc ?_
            refine (Touches.upd_pwc h_pwc ?_)
            refine State.wr_touches h_regs ?_
            refine State.wr_touches h_regs ?_
            assumption
          · refine Touches.ite ?_ ?_
            · refine (Touches.upd_pwc h_pwc ?_)
              refine State.wr_touches h_regs ?_
              refine State.wr_touches h_regs ?_
              assumption
            · refine Touches.ite ?_ ?_
              · refine setCapT_touches h_regs h_pwc ?_
                refine (Touches.upd_pwc h_pwc ?_)
                refine State.wr_touches h_regs ?_
                refine State.wr_touches h_regs ?_
                assumption
              · refine (Touches.upd_pwc h_pwc ?_)
                refine State.wr_touches h_regs ?_
                refine State.wr_touches h_regs ?_
                assumption

theorem execThermalSample_touches {ps : Piece → Prop} {s0 : State} (h_regs : ps .regs) (h_out : ps .out) (h_host : ps .host) (h_latches : ps .latches) (h_ticks : ps .ticks) (h_pwc : ps .pwc) {v0 : List (Option (BitVec 9))} {v1 : State} (h0 : Touches ps s0 v1) :
    Moves ps s0 (execThermalSample v0 v1) := by
  unfold execThermalSample
  refine Moves.next ?_
  refine State.running_touches ?_ ?_
  · assumption
  · intro y0
    intro k1
    refine State.given_touches ?_ ?_
    · assumption
    · intro y2
      intro k3
      refine State.periodic_touches h_ticks ?_ ?_
      · assumption
      · intro y4
        intro k5
        refine thermalSample_touches h_regs h_out h_host h_latches h_pwc ?_
        assumption

theorem execPowerCalComplete_touches {ps : Piece → Prop} {s0 : State} (h_regs : ps .regs) (h_out : ps .out) (h_host : ps .host) (h_latches : ps .latches) (h_pwc : ps .pwc) {v0 : ℕ} {v1 : State} (h0 : Touches ps s0 v1) :
    Moves ps s0 (execPowerCalComplete v0 v1) := by
  unfold execPowerCalComplete
  refine Moves.next ?_
  refine State.running_touches ?_ ?_
  · assumption
  · intro y0
    intro k1
    refine State.given_touches ?_ ?_
    · assumption
    · intro y2
      intro k3
      lift_lets
      intro x4
      have hx5 : Touches ps s0 x4 := by
        unfold x4
        refine State.wr_touches h_regs ?_
        assumption
      clear_value x4
      intro x6
      clear_value x6
      refine Touches.ite ?_ ?_
      · refine State.vector_touches h_out h_host ?_
        refine State.wr_touches h_regs ?_
        refine State.wr_touches h_regs ?_
        refine (Touches.upd_pwc h_pwc ?_)
        assumption
      · refine State.vector_touches h_out h_host ?_
        refine State.raise_touches h_regs h_out h_host h_latches ?_
        refine State.wr_touches h_regs ?_
        assumption

theorem showQEnergy_touches {ps : Piece → Prop} {s0 : State} (h_regs : ps .regs) {v0 : ℕ} {v1 : ℕ} {v2 : State} (h0 : Touches ps s0 v2) :
    Touches ps s0 (showQEnergy v0 v1 v2) := by
  unfold showQEnergy
  refine State.wr_touches h_regs ?_
  refine State.wr_touches h_regs ?_
  refine State.wr_touches h_regs ?_
  assumption

theorem capBoundary_touches {ps : Piece → Prop} {s0 : State} (h_regs : ps .regs) (h_out : ps .out) (h_host : ps .host) (h_latches : ps .latches) (h_pwc : ps .pwc) {v0 : T80} {v1 : State} (h0 : Touches ps s0 v1) :
    Touches ps s0 (capBoundary v0 v1) := by
  unfold capBoundary
  split
  · assumption
  · lift_lets
    intro x0
    clear_value x0
    intro x1
    have hx2 : Touches ps s0 x1 := by
      unfold x1
      refine Touches.ite ?_ ?_
      · refine State.raise_touches h_regs h_out h_host h_latches ?_
        assumption
      · assumption
    clear_value x1
    intro x3
    clear_value x3
    intro x4
    have hx5 : Touches ps s0 x4 := by
      unfold x4
      refine State.wr_touches h_regs ?_
      refine State.wr_touches h_regs ?_
      refine (Touches.upd_pwc h_pwc ?_)
      assumption
    clear_value x4
    intro x6
    clear_value x6
    intro x7
    clear_value x7
    refine Touches.ite ?_ ?_
    · assumption
    · refine Touches.ite ?_ ?_
      · assumption
      · refine Touches.ite ?_ ?_
        · refine (Touches.upd_pwc h_pwc ?_)
          assumption
        · assumption

theorem addReason_touches {ps : Piece → Prop} {s0 : State} (h_out : ps .out) (h_host : ps .host) (h_pwc : ps .pwc) {v0 : ℕ} {v1 : State} (h0 : Touches ps s0 v1) :
    Touches ps s0 (addReason v0 v1) := by
  unfold addReason
  refine Touches.ite ?_ ?_
  · assumption
  · lift_lets
    intro x0
    clear_value x0
    refine State.vector_touches h_out h_host ?_
    refine (Touches.upd_pwc h_pwc ?_)
    assumption

theorem overrun_touches {ps : Piece → Prop} {s0 : State} (h_regs : ps .regs) (h_out : ps .out) (h_host : ps .host) (h_latches : ps .latches) (h_pwc : ps .pwc) {v0 : State} (h0 : Touches ps s0 v0) :
    Touches ps s0 (overrun v0) := by
  unfold overrun
  lift_lets
  intro x0
  have hx1 : Touches ps s0 x0 := by
    unfold x0
    refine rebase_touches h_pwc ?_
    assumption
  clear_value x0
  intro x2
  clear_value x2
  intro x3
  have hx4 : Touches ps s0 x3 := by
    unfold x3
    refine (Touches.upd_pwc h_pwc ?_)
    assumption
  clear_value x3
  intro x5
  have hx6 : Touches ps s0 x5 := by
    unfold x5
    refine refreshFloor_touches h_regs ?_
    refine State.wr_touches h_regs ?_
    refine State.wr_touches h_regs ?_
    refine State.wr_touches h_regs ?_
    assumption
  clear_value x5
  refine addReason_touches h_out h_host h_pwc ?_
  refine addReason_touches h_out h_host h_pwc ?_
  refine State.vector_touches h_out h_host ?_
  refine State.raise_touches h_regs h_out h_host h_latches ?_
  refine State.bump_touches h_regs h_latches ?_
  assumption

theorem execDroopOverrun_touches {ps : Piece → Prop} {s0 : State} (h_regs : ps .regs) (h_out : ps .out) (h_host : ps .host) (h_latches : ps .latches) (h_pwc : ps .pwc) {v0 : State} (h0 : Touches ps s0 v0) :
    Moves ps s0 (execDroopOverrun v0) := by
  unfold execDroopOverrun
  refine Moves.next ?_
  refine State.running_touches ?_ ?_
  · assumption
  · intro y0
    intro k1
    refine overrun_touches h_regs h_out h_host h_latches h_pwc ?_
    assumption

theorem stepVoltage_touches {ps : Piece → Prop} {s0 : State} (h_regs : ps .regs) (h_out : ps .out) (h_mtn : ps .mtn) (h_pwc : ps .pwc) {v0 : State} (h0 : Touches ps s0 v0) :
    Touches ps s0 (stepVoltage v0) := by
  unfold stepVoltage
  lift_lets
  intro x0
  clear_value x0
  intro x1
  have hx2 : ∀ a0 a1, Touches ps s0 a1 → Touches ps s0 (x1 a0 a1) := by
    intro y3
    intro y4
    intro k5
    unfold x1
    lift_lets
    intro x6
    clear_value x6
    refine queueAvs_touches h_regs h_out h_mtn ?_
    refine State.wr_touches h_regs ?_
    refine (Touches.upd_pwc h_pwc ?_)
    assumption
  clear_value x1
  refine Touches.ite ?_ ?_
  · assumption
  · refine Touches.ite ?_ ?_
    · refine hx2 _ _ ?_
      assumption
    · refine Touches.ite ?_ ?_
      · refine hx2 _ _ ?_
        assumption
      · assumption

theorem execCapWrite_touches {ps : Piece → Prop} {s0 : State} (h_regs : ps .regs) (h_latches : ps .latches) (h_mtn : ps .mtn) (h_pwc : ps .pwc) {v0 : Word} {v1 : State} (h0 : Touches ps s0 v1) :
    Moves ps s0 (execCapWrite v0 v1) := by
  unfold execCapWrite
  refine Moves.next ?_
  refine State.written_touches h_regs h_latches h_mtn ?_ ?_
  · assumption
  · intro y0
    intro k1
    refine writeCap_touches h_regs h_pwc ?_
    assumption

theorem capUnmet_touches {ps : Piece → Prop} {s0 : State} (h_regs : ps .regs) (h_out : ps .out) (h_host : ps .host) (h_latches : ps .latches) (h_pwc : ps .pwc) {v0 : Bool} {v1 : Bool} {v2 : State} (h0 : Touches ps s0 v2) :
    Touches ps s0 (capUnmet v0 v1 v2) := by
  unfold capUnmet
  lift_lets
  intro x0
  clear_value x0
  intro x1
  clear_value x1
  intro x2
  clear_value x2
  intro x3
  have hx4 : Touches ps s0 x3 := by
    unfold x3
    refine (Touches.upd_pwc h_pwc ?_)
    assumption
  clear_value x3
  refine Touches.ite ?_ ?_
  · refine State.vector_touches h_out h_host ?_
    refine State.raise_touches h_regs h_out h_host h_latches ?_
    refine State.wr_touches h_regs ?_
    assumption
  · refine Touches.ite ?_ ?_
    · refine State.vector_touches h_out h_host ?_
      refine State.wr_touches h_regs ?_
      assumption
    · assumption

theorem credit_touches {ps : Piece → Prop} {s0 : State} (h_regs : ps .regs) (h_out : ps .out) (h_host : ps .host) (h_latches : ps .latches) (h_pwc : ps .pwc) {v0 : ℕ} {v1 : State} (h0 : Touches ps s0 v1) :
    Touches ps s0 (credit v0 v1) := by
  unfold credit
  lift_lets
  intro x0
  have hx1 : Touches ps s0 x0 := by
    unfold x0
    refine Touches.foldl (fun _ _ _ => ?_) ?_
    · lift_lets
      intro x2
      have hx3 : Touches ps s0 x2 := by
        unfold x2
        refine State.wri_touches h_regs ?_
        assumption
      clear_value x2
      refine Touches.ite ?_ ?_
      · refine Touches.ite ?_ ?_
        · assumption
        · refine State.bumpi_touches h_regs h_latches ?_
          assumption
      · assumption
    · assumption
  clear_value x0
  intro x4
  clear_value x4
  intro x5
  have hx6 : Touches ps s0 x5 := by
    unfold x5
    refine (Touches.upd_pwc h_pwc ?_)
    assumption
  clear_value x5
  refine Touches.ite ?_ ?_
  · assumption
  · refine State.vector_touches h_out h_host ?_
    assumption

theorem periodEnds_touches {ps : Piece → Prop} {s0 : State} (h_regs : ps .regs) (h_out : ps .out) (h_host : ps .host) (h_latches : ps .latches) (h_mtn : ps .mtn) (h_pwc : ps .pwc) {v0 : List ℕ} {v1 : ℕ} {v2 : State} (h0 : Touches ps s0 v2) :
    Touches ps s0 (periodEnds v0 v1 v2) := by
  unfold periodEnds
  lift_lets
  intro x0
  clear_value x0
  intro x1
  clear_value x1
  intro x2
  clear_value x2
  intro x3
  clear_value x3
  intro x4
  clear_value x4
  intro x5
  clear_value x5
  intro x6
  clear_value x6
  intro x7
  clear_value x7
  intro x8
  have hx9 : Touches ps s0 x8 := by
    unfold x8
    refine Touches.foldl (fun _ _ _ => ?_) ?_
    · refine State.wri_touches h_regs ?_
      assumption
    · assumption
  clear_value x8
  intro x10
  have hx11 : Touches ps s0 x10 := by
    unfold x10
    refine chargeQueues_touches h_pwc ?_
    assumption
  clear_value x10
  intro x12
  clear_value x12
  intro x13
  have hx14 : Touches ps s0 x13 := by
    unfold x13
    refine capBoundary_touches h_regs h_out h_host h_latches h_pwc ?_
    refine (Touches.upd_pwc h_pwc ?_)
    assumption
  clear_value x13
  intro x15
  clear_value x15
  intro x16
  clear_value x16
  intro x17
  clear_value x17
  intro x18
  clear_value x18
  intro x19
  clear_value x19
  split
  split
  · split
    · split
      · dsimp only
        split
        · refine stepVoltage_touches h_regs h_out h_mtn h_pwc ?_
          refine capUnmet_touches h_regs h_out h_host h_latches h_pwc ?_
          refine credit_touches h_regs h_out h_host h_latches h_pwc ?_
          refine Touches.ite ?_ ?_
          · refine State.raise_touches h_regs h_out h_host h_latches ?_
            refine refreshFloor_touches h_regs ?_
            refine Touches.foldl (fun _ _ _ => ?_) ?_
            · refine State.wr_touches h_regs ?_
              assumption
            · refine (Touches.upd_pwc h_pwc ?_)
              assumption
          · refine refreshFloor_touches h_regs ?_
            refine Touches.foldl (fun _ _ _ => ?_) ?_
            · refine State.wr_touches h_regs ?_
              assumption
            · refine (Touches.upd_pwc h_pwc ?_)
              assumption
        · refine stepVoltage_touches h_regs h_out h_mtn h_pwc ?_
          refine capUnmet_touches h_regs h_out h_host h_latches h_pwc ?_
          refine credit_touches h_regs h_out h_host h_latches h_pwc ?_
          refine Touches.ite ?_ ?_
          · refine State.raise_touches h_regs h_out h_host h_latches ?_
            refine refreshFloor_touches h_regs ?_
            refine Touches.foldl (fun _ _ _ => ?_) ?_
            · refine State.wr_touches h_regs ?_
              assumption
            · refine (Touches.upd_pwc h_pwc ?_)
              assumption
          · refine refreshFloor_touches h_regs ?_
            refine Touches.foldl (fun _ _ _ => ?_) ?_
            · refine State.wr_touches h_regs ?_
              assumption
            · refine (Touches.upd_pwc h_pwc ?_)
              assumption
      · dsimp only
        split
        · refine stepVoltage_touches h_regs h_out h_mtn h_pwc ?_
          refine capUnmet_touches h_regs h_out h_host h_latches h_pwc ?_
          refine credit_touches h_regs h_out h_host h_latches h_pwc ?_
          refine Touches.ite ?_ ?_
          · refine State.raise_touches h_regs h_out h_host h_latches ?_
            refine refreshFloor_touches h_regs ?_
            refine Touches.foldl (fun _ _ _ => ?_) ?_
            · refine State.wr_touches h_regs ?_
              assumption
            · refine (Touches.upd_pwc h_pwc ?_)
              assumption
          · refine refreshFloor_touches h_regs ?_
            refine Touches.foldl (fun _ _ _ => ?_) ?_
            · refine State.wr_touches h_regs ?_
              assumption
            · refine (Touches.upd_pwc h_pwc ?_)
              assumption
        · refine stepVoltage_touches h_regs h_out h_mtn h_pwc ?_
          refine capUnmet_touches h_regs h_out h_host h_latches h_pwc ?_
          refine credit_touches h_regs h_out h_host h_latches h_pwc ?_
          refine Touches.ite ?_ ?_
          · refine State.raise_touches h_regs h_out h_host h_latches ?_
            refine refreshFloor_touches h_regs ?_
            refine Touches.foldl (fun _ _ _ => ?_) ?_
            · refine State.wr_touches h_regs ?_
              assumption
            · refine (Touches.upd_pwc h_pwc ?_)
              assumption
          · refine refreshFloor_touches h_regs ?_
            refine Touches.foldl (fun _ _ _ => ?_) ?_
            · refine State.wr_touches h_regs ?_
              assumption
            · refine (Touches.upd_pwc h_pwc ?_)
              assumption
    · split
      · dsimp only
        split
        · refine stepVoltage_touches h_regs h_out h_mtn h_pwc ?_
          refine capUnmet_touches h_regs h_out h_host h_latches h_pwc ?_
          refine credit_touches h_regs h_out h_host h_latches h_pwc ?_
          refine Touches.ite ?_ ?_
          · refine State.raise_touches h_regs h_out h_host h_latches ?_
            refine refreshFloor_touches h_regs ?_
            refine Touches.foldl (fun _ _ _ => ?_) ?_
            · refine State.wr_touches h_regs ?_
              assumption
            · refine (Touches.upd_pwc h_pwc ?_)
              assumption
          · refine refreshFloor_touches h_regs ?_
            refine Touches.foldl (fun _ _ _ => ?_) ?_
            · refine State.wr_touches h_regs ?_
              assumption
            · refine (Touches.upd_pwc h_pwc ?_)
              assumption
        · refine stepVoltage_touches h_regs h_out h_mtn h_pwc ?_
          refine capUnmet_touches h_regs h_out h_host h_latches h_pwc ?_
          refine credit_touches h_regs h_out h_host h_latches h_pwc ?_
          refine Touches.ite ?_ ?_
          · refine State.raise_touches h_regs h_out h_host h_latches ?_
            refine refreshFloor_touches h_regs ?_
            refine Touches.foldl (fun _ _ _ => ?_) ?_
            · refine State.wr_touches h_regs ?_
              assumption
            · refine (Touches.upd_pwc h_pwc ?_)
              assumption
          · refine refreshFloor_touches h_regs ?_
            refine Touches.foldl (fun _ _ _ => ?_) ?_
            · refine State.wr_touches h_regs ?_
              assumption
            · refine (Touches.upd_pwc h_pwc ?_)
              assumption
      · dsimp only
        split
        · refine stepVoltage_touches h_regs h_out h_mtn h_pwc ?_
          refine capUnmet_touches h_regs h_out h_host h_latches h_pwc ?_
          refine credit_touches h_regs h_out h_host h_latches h_pwc ?_
          refine Touches.ite ?_ ?_
          · refine State.raise_touches h_regs h_out h_host h_latches ?_
            refine refreshFloor_touches h_regs ?_
            refine Touches.foldl (fun _ _ _ => ?_) ?_
            · refine State.wr_touches h_regs ?_
              assumption
            · refine (Touches.upd_pwc h_pwc ?_)
              assumption
          · refine refreshFloor_touches h_regs ?_
            refine Touches.foldl (fun _ _ _ => ?_) ?_
            · refine State.wr_touches h_regs ?_
              assumption
            · refine (Touches.upd_pwc h_pwc ?_)
              assumption
        · refine stepVoltage_touches h_regs h_out h_mtn h_pwc ?_
          refine capUnmet_touches h_regs h_out h_host h_latches h_pwc ?_
          refine credit_touches h_regs h_out h_host h_latches h_pwc ?_
          refine Touches.ite ?_ ?_
          · refine State.raise_touches h_regs h_out h_host h_latches ?_
            refine refreshFloor_touches h_regs ?_
            refine Touches.foldl (fun _ _ _ => ?_) ?_
            · refine State.wr_touches h_regs ?_
              assumption
            · refine (Touches.upd_pwc h_pwc ?_)
              assumption
          · refine refreshFloor_touches h_regs ?_
            refine Touches.foldl (fun _ _ _ => ?_) ?_
            · refine State.wr_touches h_regs ?_
              assumption
            · refine (Touches.upd_pwc h_pwc ?_)
              assumption
  · split
    · split
      · dsimp only
        split
        · refine stepVoltage_touches h_regs h_out h_mtn h_pwc ?_
          refine capUnmet_touches h_regs h_out h_host h_latches h_pwc ?_
          refine credit_touches h_regs h_out h_host h_latches h_pwc ?_
          refine Touches.ite ?_ ?_
          · refine State.raise_touches h_regs h_out h_host h_latches ?_
            refine refreshFloor_touches h_regs ?_
            refine Touches.foldl (fun _ _ _ => ?_) ?_
            · refine State.wr_touches h_regs ?_
              assumption
            · refine (Touches.upd_pwc h_pwc ?_)
              assumption
          · refine refreshFloor_touches h_regs ?_
            refine Touches.foldl (fun _ _ _ => ?_) ?_
            · refine State.wr_touches h_regs ?_
              assumption
            · refine (Touches.upd_pwc h_pwc ?_)
              assumption
        · refine stepVoltage_touches h_regs h_out h_mtn h_pwc ?_
          refine capUnmet_touches h_regs h_out h_host h_latches h_pwc ?_
          refine credit_touches h_regs h_out h_host h_latches h_pwc ?_
          refine Touches.ite ?_ ?_
          · refine State.raise_touches h_regs h_out h_host h_latches ?_
            refine refreshFloor_touches h_regs ?_
            refine Touches.foldl (fun _ _ _ => ?_) ?_
            · refine State.wr_touches h_regs ?_
              assumption
            · refine (Touches.upd_pwc h_pwc ?_)
              assumption
          · refine refreshFloor_touches h_regs ?_
            refine Touches.foldl (fun _ _ _ => ?_) ?_
            · refine State.wr_touches h_regs ?_
              assumption
            · refine (Touches.upd_pwc h_pwc ?_)
              assumption
      · dsimp only
        split
        · refine stepVoltage_touches h_regs h_out h_mtn h_pwc ?_
          refine capUnmet_touches h_regs h_out h_host h_latches h_pwc ?_
          refine credit_touches h_regs h_out h_host h_latches h_pwc ?_
          refine Touches.ite ?_ ?_
          · refine State.raise_touches h_regs h_out h_host h_latches ?_
            refine refreshFloor_touches h_regs ?_
            refine Touches.foldl (fun _ _ _ => ?_) ?_
            · refine State.wr_touches h_regs ?_
              assumption
            · refine (Touches.upd_pwc h_pwc ?_)
              assumption
          · refine refreshFloor_touches h_regs ?_
            refine Touches.foldl (fun _ _ _ => ?_) ?_
            · refine State.wr_touches h_regs ?_
              assumption
            · refine (Touches.upd_pwc h_pwc ?_)
              assumption
        · refine stepVoltage_touches h_regs h_out h_mtn h_pwc ?_
          refine capUnmet_touches h_regs h_out h_host h_latches h_pwc ?_
          refine credit_touches h_regs h_out h_host h_latches h_pwc ?_
          refine Touches.ite ?_ ?_
          · refine State.raise_touches h_regs h_out h_host h_latches ?_
            refine refreshFloor_touches h_regs ?_
            refine Touches.foldl (fun _ _ _ => ?_) ?_
            · refine State.wr_touches h_regs ?_
              assumption
            · refine (Touches.upd_pwc h_pwc ?_)
              assumption
          · refine refreshFloor_touches h_regs ?_
            refine Touches.foldl (fun _ _ _ => ?_) ?_
            · refine State.wr_touches h_regs ?_
              assumption
            · refine (Touches.upd_pwc h_pwc ?_)
              assumption
    · split
      · dsimp only
        split
        · refine stepVoltage_touches h_regs h_out h_mtn h_pwc ?_
          refine capUnmet_touches h_regs h_out h_host h_latches h_pwc ?_
          refine credit_touches h_regs h_out h_host h_latches h_pwc ?_
          refine Touches.ite ?_ ?_
          · refine State.raise_touches h_regs h_out h_host h_latches ?_
            refine refreshFloor_touches h_regs ?_
            refine Touches.foldl (fun _ _ _ => ?_) ?_
            · refine State.wr_touches h_regs ?_
              assumption
            · refine (Touches.upd_pwc h_pwc ?_)
              assumption
          · refine refreshFloor_touches h_regs ?_
            refine Touches.foldl (fun _ _ _ => ?_) ?_
            · refine State.wr_touches h_regs ?_
              assumption
            · refine (Touches.upd_pwc h_pwc ?_)
              assumption
        · refine stepVoltage_touches h_regs h_out h_mtn h_pwc ?_
          refine capUnmet_touches h_regs h_out h_host h_latches h_pwc ?_
          refine credit_touches h_regs h_out h_host h_latches h_pwc ?_
          refine Touches.ite ?_ ?_
          · refine State.raise_touches h_regs h_out h_host h_latches ?_
            refine refreshFloor_touches h_regs ?_
            refine Touches.foldl (fun _ _ _ => ?_) ?_
            · refine State.wr_touches h_regs ?_
              assumption
            · refine (Touches.upd_pwc h_pwc ?_)
              assumption
          · refine refreshFloor_touches h_regs ?_
            refine Touches.foldl (fun _ _ _ => ?_) ?_
            · refine State.wr_touches h_regs ?_
              assumption
            · refine (Touches.upd_pwc h_pwc ?_)
              assumption
      · dsimp only
        split
        · refine stepVoltage_touches h_regs h_out h_mtn h_pwc ?_
          refine capUnmet_touches h_regs h_out h_host h_latches h_pwc ?_
          refine credit_touches h_regs h_out h_host h_latches h_pwc ?_
          refine Touches.ite ?_ ?_
          · refine State.raise_touches h_regs h_out h_host h_latches ?_
            refine refreshFloor_touches h_regs ?_
            refine Touches.foldl (fun _ _ _ => ?_) ?_
            · refine State.wr_touches h_regs ?_
              assumption
            · refine (Touches.upd_pwc h_pwc ?_)
              assumption
          · refine refreshFloor_touches h_regs ?_
            refine Touches.foldl (fun _ _ _ => ?_) ?_
            · refine State.wr_touches h_regs ?_
              assumption
            · refine (Touches.upd_pwc h_pwc ?_)
              assumption
        · refine stepVoltage_touches h_regs h_out h_mtn h_pwc ?_
          refine capUnmet_touches h_regs h_out h_host h_latches h_pwc ?_
          refine credit_touches h_regs h_out h_host h_latches h_pwc ?_
          refine Touches.ite ?_ ?_
          · refine State.raise_touches h_regs h_out h_host h_latches ?_
            refine refreshFloor_touches h_regs ?_
            refine Touches.foldl (fun _ _ _ => ?_) ?_
            · refine State.wr_touches h_regs ?_
              assumption
            · refine (Touches.upd_pwc h_pwc ?_)
              assumption
          · refine refreshFloor_touches h_regs ?_
            refine Touches.foldl (fun _ _ _ => ?_) ?_
            · refine State.wr_touches h_regs ?_
              assumption
            · refine (Touches.upd_pwc h_pwc ?_)
              assumption

theorem execEstimatorPeriod_touches {ps : Piece → Prop} {s0 : State} (h_regs : ps .regs) (h_out : ps .out) (h_host : ps .host) (h_latches : ps .latches) (h_ticks : ps .ticks) (h_mtn : ps .mtn) (h_pwc : ps .pwc) {v0 : List ℕ} {v1 : ℕ} {v2 : State} (h0 : Touches ps s0 v2) :
    Moves ps s0 (execEstimatorPeriod v0 v1 v2) := by
  unfold execEstimatorPeriod
  refine Moves.next ?_
  refine State.running_touches ?_ ?_
  · assumption
  · intro y0
    intro k1
    refine State.given_touches ?_ ?_
    · assumption
    · intro y2
      intro k3
      refine State.periodic_touches h_ticks ?_ ?_
      · assumption
      · intro y4
        intro k5
        refine periodEnds_touches h_regs h_out h_host h_latches h_mtn h_pwc ?_
        assumption

theorem execUseFused_touches {ps : Piece → Prop} {s0 : State} (h_regs : ps .regs) (h_latches : ps .latches) (h_mtn : ps .mtn) (h_pwc : ps .pwc) {v0 : State} (h0 : Touches ps s0 v0) :
    Moves ps s0 (execUseFused v0) := by
  unfold execUseFused
  refine Moves.next ?_
  refine State.written_touches h_regs h_latches h_mtn ?_ ?_
  · assumption
  · intro y0
    intro k1
    refine useFused_touches h_regs h_pwc ?_
    assumption

theorem execDroopCrossing_touches {ps : Piece → Prop} {s0 : State} (h_regs : ps .regs) (h_out : ps .out) (h_host : ps .host) (h_latches : ps .latches) (h_vsr : ps .vsr) (h_pwc : ps .pwc) {v0 : Fin 64} {v1 : ℕ} {v2 : State} (h0 : Touches ps s0 v2) :
    Moves ps s0 (execDroopCrossing v0 v1 v2) := by
  unfold execDroopCrossing
  refine Moves.next ?_
  refine State.running_touches ?_ ?_
  · assumption
  · intro y0
    intro k1
    lift_lets
    intro x2
    have hx3 : Touches ps s0 x2 := by
      unfold x2
      refine State.setBit_touches h_regs h_latches ?_
      assumption
    clear_value x2
    refine Touches.ite ?_ ?_
    · assumption
    · refine addReason_touches h_out h_host h_pwc ?_
      refine State.count_touches h_regs h_vsr ?_
      refine State.bump_touches h_regs h_latches ?_
      assumption

theorem execPowerCalStart_touches {ps : Piece → Prop} {s0 : State} (h_regs : ps .regs) (h_latches : ps .latches) (h_mtn : ps .mtn) (h_pwc : ps .pwc) {v0 : State} (h0 : Touches ps s0 v0) :
    Moves ps s0 (execPowerCalStart v0) := by
  unfold execPowerCalStart
  refine Moves.next ?_
  refine State.written_touches h_regs h_latches h_mtn ?_ ?_
  · assumption
  · intro y0
    intro k1
    refine calStart_touches h_regs h_pwc ?_
    assumption

theorem execThermtrip_touches {ps : Piece → Prop} {s0 : State} (h_regs : ps .regs) (h_out : ps .out) (h_host : ps .host) (h_latches : ps .latches) (h_pwc : ps .pwc) {v0 : State} (h0 : Touches ps s0 v0) :
    Moves ps s0 (execThermtrip v0) := by
  unfold execThermtrip
  lift_lets
  intro x0
  have hx1 : Touches ps s0 x0 := by
    unfold x0
    refine Touches.ite ?_ ?_
    · assumption
    · refine State.send_touches h_out ?_
      assumption
  clear_value x0
  intro x2
  clear_value x2
  refine Moves.next ?_
  refine State.raise_touches h_regs h_out h_host h_latches ?_
  refine (Touches.upd_pwc h_pwc ?_)
  assumption

end Sys2Proof.Machine
end

