-- ==== Sys2Proof/Laws/TouchHostLink.lean ====
section
/-! SUPPORT. What the operations of Machine/HostLink.lean may touch: one lemma for each. -/

set_option maxRecDepth 10000

namespace Sys2Proof.Machine

theorem cutHost_touches {ps : Piece → Prop} {s0 : State} (h_regs : ps .regs) (h_out : ps .out) (h_host : ps .host) (h_latches : ps .latches) (h_tbl : ps .tbl) (h_crown : ps .crown) {v0 : State} (h0 : Touches ps s0 v0) :
    Touches ps s0 (cutHost v0) := by
  unfold cutHost
  lift_lets
  intro x0
  have hx1 : Touches ps s0 x0 := by
    unfold x0
    refine Touches.foldl (fun _ _ _ => ?_) ?_
    · refine Touches.ite ?_ ?_
      · refine cutCq_touches h_regs h_out h_host h_latches h_tbl ?_
        assumption
      · assumption
    · assumption
  clear_value x0
  refine Touches.ite ?_ ?_
  · refine State.raise_touches h_regs h_out h_host h_latches ?_
    refine stopCrownRing_touches h_regs h_out h_host h_latches h_crown ?_
    assumption
  · assumption

theorem hdmRead_touches {ps : Piece → Prop} {s0 : State} (h_regs : ps .regs) (h_out : ps .out) (h_host : ps .host) (h_latches : ps .latches) {v0 : ℕ} {v1 : State} (h0 : Touches ps s0 v1) :
    Touches ps s0 (hdmRead v0 v1) := by
  unfold hdmRead
  lift_lets
  intro x0
  clear_value x0
  refine Touches.ite ?_ ?_
  · refine State.send_touches h_out ?_
    refine recordBad_touches h_regs h_out h_host h_latches ?_
    assumption
  · refine Touches.ite ?_ ?_
    · refine State.send_touches h_out ?_
      refine recordBad_touches h_regs h_out h_host h_latches ?_
      assumption
    · refine Touches.ite ?_ ?_
      · refine State.send_touches h_out ?_
        assumption
      · refine State.send_touches h_out ?_
        assumption

theorem linkGone_touches {ps : Piece → Prop} {s0 : State} (h_regs : ps .regs) (h_out : ps .out) (h_host : ps .host) (h_latches : ps .latches) (h_tbl : ps .tbl) (h_crown : ps .crown) {v0 : State} (h0 : Touches ps s0 v0) :
    Touches ps s0 (linkGone v0) := by
  unfold linkGone
  refine cutHost_touches h_regs h_out h_host h_latches h_tbl h_crown ?_
  refine Touches.foldl (fun _ _ _ => ?_) ?_
  · refine State.wr_touches h_regs ?_
    assumption
  · assumption

theorem execHdmRead_touches {ps : Piece → Prop} {s0 : State} (h_regs : ps .regs) (h_out : ps .out) (h_host : ps .host) (h_latches : ps .latches) {v0 : BitVec 52} {v1 : State} (h0 : Touches ps s0 v1) :
    Moves ps s0 (execHdmRead v0 v1) := by
  unfold execHdmRead
  refine Moves.next ?_
  refine State.given_touches ?_ ?_
  · assumption
  · intro y0
    intro k1
    refine hdmRead_touches h_regs h_out h_host h_latches ?_
    assumption

theorem showHdm_touches {ps : Piece → Prop} {s0 : State} (h_regs : ps .regs) {v0 : State} (h0 : Touches ps s0 v0) :
    Touches ps s0 (showHdm v0) := by
  unfold showHdm
  refine State.wr_touches h_regs ?_
  refine State.wr_touches h_regs ?_
  assumption

theorem perstFalls_touches {ps : Piece → Prop} {s0 : State} (h_regs : ps .regs) (h_out : ps .out) (h_host : ps .host) (h_latches : ps .latches) (h_tbl : ps .tbl) (h_mtn : ps .mtn) (h_crown : ps .crown) {v0 : State} (h0 : Touches ps s0 v0) :
    Touches ps s0 (perstFalls v0) := by
  unfold perstFalls
  lift_lets
  intro x0
  have hx1 : Touches ps s0 x0 := by
    unfold x0
    refine linkGone_touches h_regs h_out h_host h_latches h_tbl h_crown ?_
    assumption
  clear_value x0
  intro x2
  clear_value x2
  intro x3
  clear_value x3
  intro x4
  have hx5 : Touches ps s0 x4 := by
    unfold x4
    refine Touches.multi (b := x0) ?_ (fun p hn => by cases p <;> first | exact absurd (by assumption) hn | rfl) ?_ (fun hs => hs)
    · assumption
    · first | exact fun hs => SMap.sorted_put _ _ _ _ hs | exact fun hs => SMap.sorted_enter _ _ _ hs | exact fun hs => SMap.sorted_filter _ _ hs
  clear_value x4
  refine recomputeDom_touches h_regs h_out h_host h_mtn ?_
  refine showDom_touches h_regs ?_
  refine showHdm_touches h_regs ?_
  assumption

theorem execPerst_touches {ps : Piece → Prop} {s0 : State} (h_regs : ps .regs) (h_out : ps .out) (h_host : ps .host) (h_latches : ps .latches) (h_tbl : ps .tbl) (h_mtn : ps .mtn) (h_crown : ps .crown) {v0 : Bool} {v1 : State} (h0 : Touches ps s0 v1) :
    Moves ps s0 (execPerst v0 v1) := by
  unfold execPerst
  lift_lets
  intro x0
  clear_value x0
  refine Moves.next ?_
  refine Touches.ite ?_ ?_
  · refine (Touches.upd_crown h_crown ?_)
    assumption
  · refine State.given_touches ?_ ?_
    · assumption
    · intro y1
      intro k2
      refine perstFalls_touches h_regs h_out h_host h_latches h_tbl h_mtn h_crown ?_
      assumption

theorem execSnoop_touches {ps : Piece → Prop} {s0 : State} (h_out : ps .out) {v0 : State} (h0 : Touches ps s0 v0) :
    Moves ps s0 (execSnoop v0) := by
  unfold execSnoop
  refine Moves.next ?_
  refine State.given_touches ?_ ?_
  · assumption
  · intro y0
    intro k1
    refine State.send_touches h_out ?_
    assumption

theorem linkUp_touches {ps : Piece → Prop} {s0 : State} (h_regs : ps .regs) (h_free : ps .free) (h_out : ps .out) (h_host : ps .host) (h_latches : ps .latches) (h_hat : ps .hat) (h_mtn : ps .mtn) {v0 : Bool} {v1 : ℕ} {v2 : ℕ} {v3 : Bool} {v4 : Bool} {v5 : Bool} {v6 : State} (h0 : Touches ps s0 v6) :
    Touches ps s0 (linkUp v0 v1 v2 v3 v4 v5 v6) := by
  unfold linkUp
  lift_lets
  intro x0
  clear_value x0
  intro x1
  have hx2 : Touches ps s0 x1 := by
    unfold x1
    refine State.wr_touches h_regs ?_
    refine Touches.foldl (fun _ _ _ => ?_) ?_
    · refine State.wr_touches h_regs ?_
      assumption
    · assumption
  clear_value x1
  intro x3
  have hx4 : Touches ps s0 x3 := by
    unfold x3
    refine Touches.ite ?_ ?_
    · refine wakeEnds_touches h_regs h_free h_out h_host h_latches h_hat h_mtn ?_
      assumption
    · refine recomputeDom_touches h_regs h_out h_host h_mtn ?_
      assumption
  clear_value x3
  refine State.vector_touches h_out h_host ?_
  refine Touches.ite ?_ ?_
  · refine State.raise_touches h_regs h_out h_host h_latches ?_
    assumption
  · assumption

theorem execHostLinkUp_touches {ps : Piece → Prop} {s0 : State} (h_regs : ps .regs) (h_free : ps .free) (h_out : ps .out) (h_ddr : ps .ddr) (h_poison : ps .poison) (h_host : ps .host) (h_latches : ps .latches) (h_hat : ps .hat) (h_stamps : ps .stamps) (h_ucs : ps .ucs) (h_brim : ps .brim) (h_tbl : ps .tbl) (h_palm : ps .palm) (h_timing : ps .timing) (h_ses : ps .ses) (h_ldg : ps .ldg) (h_vsr : ps .vsr) (h_mtn : ps .mtn) (h_pwc : ps .pwc) (h_gnt : ps .gnt) (h_crown : ps .crown) (h_boot : ps .boot) {v0 : Bool} {v1 : Fin 9} {v2 : Fin 6} {v3 : Bool} {v4 : Bool} {v5 : Bool} {v6 : State} (h0 : Touches ps s0 v6) :
    Moves ps s0 (execHostLinkUp v0 v1 v2 v3 v4 v5 v6) := by
  unfold execHostLinkUp
  refine Moves.next ?_
  refine State.given_touches ?_ ?_
  · assumption
  · intro y0
    intro k1
    refine startHeld_touches h_regs h_free h_out h_ddr h_poison h_host h_latches h_hat h_stamps h_ucs h_brim h_tbl h_palm h_timing h_ses h_ldg h_vsr h_mtn h_pwc h_gnt h_crown h_boot ?_
    refine linkUp_touches h_regs h_free h_out h_host h_latches h_hat h_mtn ?_
    assumption

theorem execHostLinkDown_touches {ps : Piece → Prop} {s0 : State} (h_regs : ps .regs) (h_out : ps .out) (h_host : ps .host) (h_latches : ps .latches) (h_tbl : ps .tbl) (h_mtn : ps .mtn) (h_crown : ps .crown) {v0 : State} (h0 : Touches ps s0 v0) :
    Moves ps s0 (execHostLinkDown v0) := by
  unfold execHostLinkDown
  refine Moves.next ?_
  refine State.given_touches ?_ ?_
  · assumption
  · intro y0
    intro k1
    refine recomputeDom_touches h_regs h_out h_host h_mtn ?_
    refine State.vector_touches h_out h_host ?_
    refine State.raise_touches h_regs h_out h_host h_latches ?_
    refine State.bump_touches h_regs h_latches ?_
    refine linkGone_touches h_regs h_out h_host h_latches h_tbl h_crown ?_
    assumption

theorem execHdmWrite_touches {ps : Piece → Prop} {s0 : State} (h_regs : ps .regs) (h_out : ps .out) (h_host : ps .host) (h_latches : ps .latches) {v0 : BitVec 52} {v1 : State} (h0 : Touches ps s0 v1) :
    Moves ps s0 (execHdmWrite v0 v1) := by
  unfold execHdmWrite
  refine Moves.next ?_
  refine State.given_touches ?_ ?_
  · assumption
  · intro y0
    intro k1
    refine State.send_touches h_out ?_
    refine State.raise_touches h_regs h_out h_host h_latches ?_
    refine recordBad_touches h_regs h_out h_host h_latches ?_
    assumption

theorem execAtsInvalidation_touches {ps : Piece → Prop} {s0 : State} (h_regs : ps .regs) (h_out : ps .out) (h_latches : ps .latches) {v0 : State} (h0 : Touches ps s0 v0) :
    Moves ps s0 (execAtsInvalidation v0) := by
  unfold execAtsInvalidation
  refine Moves.next ?_
  refine State.given_touches ?_ ?_
  · assumption
  · intro y0
    intro k1
    refine State.send_touches h_out ?_
    refine State.bump_touches h_regs h_latches ?_
    assumption

end Sys2Proof.Machine
end

