-- ==== Sys2Proof/Laws/TouchBoot.lean ====
section
/-! SUPPORT. What the operations of Machine/Boot.lean may touch: one lemma for each. -/

set_option maxRecDepth 10000

namespace Sys2Proof.Machine

theorem stepLedger_touches {ps : Piece → Prop} {s0 : State} (h_regs : ps .regs) (h_out : ps .out) (h_host : ps .host) (h_latches : ps .latches) (h_ldg : ps .ldg) (h_vsr : ps .vsr) {v0 : State} (h0 : Touches ps s0 v0) :
    Touches ps s0 (stepLedger v0) := by
  unfold stepLedger
  refine Touches.ite ?_ ?_
  · refine startRun_touches h_regs h_out h_host h_latches h_ldg h_vsr ?_
    assumption
  · assumption

theorem loadImage_touches {ps : Piece → Prop} {s0 : State} (h_regs : ps .regs) (h_out : ps .out) (h_host : ps .host) (h_ucs : ps .ucs) {v0 : ℕ} {v1 : Image} {v2 : State} (h0 : Touches ps s0 v2) :
    Touches ps s0 (loadImage v0 v1 v2) := by
  unfold loadImage
  refine setUcsState_touches h_regs h_out h_host ?_
  refine writeBank_touches h_regs h_ucs ?_
  refine writeBank_touches h_regs h_ucs ?_
  assumption

theorem stepImages_touches {ps : Piece → Prop} {s0 : State} (h_regs : ps .regs) (h_out : ps .out) (h_host : ps .host) (h_latches : ps .latches) (h_ucs : ps .ucs) (h_tbl : ps .tbl) {v0 : State} (h0 : Touches ps s0 v0) :
    Touches ps s0 (stepImages v0) := by
  unfold stepImages
  lift_lets
  intro x0
  clear_value x0
  intro x1
  clear_value x1
  intro x2
  clear_value x2
  intro x3
  have hx4 : ∀ a0 a1, Touches ps s0 a0 → Touches ps s0 (x3 a0 a1) := by
    intro y5
    intro y6
    intro k7
    unfold x3
    lift_lets
    intro x8
    clear_value x8
    split
    · dsimp only
      split
      · refine loadImage_touches h_regs h_out h_host h_ucs ?_
        refine (Touches.upd_ucs h_ucs ?_)
        assumption
      · refine loadImage_touches h_regs h_out h_host h_ucs ?_
        assumption
      · refine loadImage_touches h_regs h_out h_host h_ucs ?_
        assumption
    · dsimp only
      split
      · refine loadImage_touches h_regs h_out h_host h_ucs ?_
        refine (Touches.upd_ucs h_ucs ?_)
        assumption
      · refine loadImage_touches h_regs h_out h_host h_ucs ?_
        assumption
      · refine State.raise_touches h_regs h_out h_host h_latches ?_
        refine State.wr_touches h_regs ?_
        refine State.wr_touches h_regs ?_
        assumption
  clear_value x3
  intro x9
  have hx10 : Touches ps s0 x9 := by
    unfold x9
    refine Touches.foldl (fun _ _ _ => ?_) ?_
    · refine hx4 _ _ ?_
      assumption
    · assumption
  clear_value x9
  intro x11
  clear_value x11
  intro x12
  clear_value x12
  refine Touches.ite ?_ ?_
  · refine (Touches.upd_tbl h_tbl ?_)
    assumption
  · assumption

theorem fatalAgain_touches {ps : Piece → Prop} {s0 : State} (h_regs : ps .regs) (h_free : ps .free) (h_out : ps .out) (h_host : ps .host) (h_latches : ps .latches) (h_hat : ps .hat) (h_gnt : ps .gnt) {v0 : State} (h0 : Touches ps s0 v0) :
    Touches ps s0 (fatalAgain v0) := by
  unfold fatalAgain
  lift_lets
  intro x0
  clear_value x0
  intro x1
  have hx2 : Touches ps s0 x1 := by
    unfold x1
    refine enterHoldover_touches h_regs h_free h_out h_host h_latches h_hat ?_
    refine stopSlew_touches h_regs h_hat ?_
    refine safeVector_touches h_out h_host h_gnt ?_
    assumption
  clear_value x1
  intro x3
  clear_value x3
  refine State.refreshSummary_touches h_regs h_out ?_
  refine State.wr_touches h_regs ?_
  refine State.wr_touches h_regs ?_
  refine (Touches.upd_gnt h_gnt ?_)
  assumption

theorem stepEnd_touches {ps : Piece → Prop} {s0 : State} (h_regs : ps .regs) (h_free : ps .free) (h_out : ps .out) (h_host : ps .host) (h_latches : ps .latches) (h_hat : ps .hat) (h_mtn : ps .mtn) (h_gnt : ps .gnt) {v0 : State} (h0 : Touches ps s0 v0) :
    Touches ps s0 (stepEnd v0) := by
  unfold stepEnd
  lift_lets
  intro x0
  have hx1 : Touches ps s0 x0 := by
    unfold x0
    refine State.wr_touches h_regs ?_
    refine State.wr_touches h_regs ?_
    assumption
  clear_value x0
  intro x2
  have hx3 : Touches ps s0 x2 := by
    unfold x2
    refine Touches.foldl (fun _ _ _ => ?_) ?_
    · refine recomputeDom_touches h_regs h_out h_host h_mtn ?_
      assumption
    · assumption
  clear_value x2
  refine Touches.ite ?_ ?_
  · refine fatalAgain_touches h_regs h_free h_out h_host h_latches h_hat h_gnt ?_
    assumption
  · assumption

theorem stepPower_touches {ps : Piece → Prop} {s0 : State} (h_regs : ps .regs) (h_out : ps .out) (h_pwc : ps .pwc) {v0 : State} (h0 : Touches ps s0 v0) :
    Touches ps s0 (stepPower v0) := by
  unfold stepPower
  lift_lets
  intro x0
  have hx1 : Touches ps s0 x0 := by
    unfold x0
    refine State.wr_touches h_regs ?_
    assumption
  clear_value x0
  intro x2
  clear_value x2
  intro x3
  have hx4 : Touches ps s0 x3 := by
    unfold x3
    refine State.wr_touches h_regs ?_
    refine (Touches.upd_pwc h_pwc ?_)
    assumption
  clear_value x3
  refine State.send_touches h_out ?_
  refine State.wr_touches h_regs ?_
  assumption

theorem settleRefresh_touches {ps : Piece → Prop} {s0 : State} (h_ddr : ps .ddr) (h_poison : ps .poison) (h_tbl : ps .tbl) (h_crown : ps .crown) (h_dram : ps .dram) {v0 : State} (h0 : Touches ps s0 v0) :
    Touches ps s0 (settleRefresh v0) := by
  unfold settleRefresh
  lift_lets
  intro x0
  have hx1 : Touches ps s0 x0 := by
    unfold x0
    refine Touches.ite ?_ ?_
    · refine enterSelfRefresh_touches h_dram ?_
      assumption
    · assumption
  clear_value x0
  intro x2
  have hx3 : Touches ps s0 x2 := by
    unfold x2
    refine loseDdr_touches h_ddr h_poison h_tbl h_crown ?_
    assumption
  clear_value x2
  intro x4
  clear_value x4
  refine Touches.ite ?_ ?_
  · assumption
  · refine (Touches.upd_dram h_dram ?_)
    assumption

theorem stepBand_touches {ps : Piece → Prop} {s0 : State} (h_regs : ps .regs) (h_free : ps .free) (h_out : ps .out) (h_host : ps .host) (h_latches : ps .latches) (h_hat : ps .hat) {v0 : State} (h0 : Touches ps s0 v0) :
    Touches ps s0 (stepBand v0) := by
  unfold stepBand
  lift_lets
  intro x0
  clear_value x0
  refine refreshTq_touches h_regs h_free h_out h_host h_latches h_hat ?_
  refine enterHoldover_touches h_regs h_free h_out h_host h_latches h_hat ?_
  refine (Touches.upd_hat h_hat ?_)
  assumption

theorem sampleStraps_touches {ps : Piece → Prop} {s0 : State} (h_boot : ps .boot) {v0 : Bool} {v1 : Bool} {v2 : State} (h0 : Touches ps s0 v2) :
    Touches ps s0 (sampleStraps v0 v1 v2) := by
  unfold sampleStraps
  lift_lets
  intro x0
  clear_value x0
  refine (Touches.upd_boot h_boot ?_)
  assumption

theorem stepJournal_touches {ps : Piece → Prop} {s0 : State} (h_regs : ps .regs) (h_out : ps .out) (h_host : ps .host) (h_tbl : ps .tbl) {v0 : Bool} {v1 : State} (h0 : Touches ps s0 v1) :
    Touches ps s0 (stepJournal v0 v1) := by
  unfold stepJournal
  lift_lets
  intro x0
  clear_value x0
  intro x1
  clear_value x1
  intro x2
  have hx3 : ∀ a0 a1, Touches ps s0 a1 → Touches ps s0 (x2 a0 a1) := by
    intro y4
    intro y5
    intro k6
    unfold x2
    refine State.vector_touches h_out h_host ?_
    refine State.wr_touches h_regs ?_
    refine State.wr_touches h_regs ?_
    assumption
  clear_value x2
  intro x7
  clear_value x7
  intro x8
  clear_value x8
  intro x9
  clear_value x9
  split
  · refine hx3 _ _ ?_
    refine (Touches.upd_tbl h_tbl ?_)
    assumption
  · refine State.wr_touches h_regs ?_
    refine hx3 _ _ ?_
    refine (Touches.upd_tbl h_tbl ?_)
    assumption
  · refine (Touches.upd_tbl h_tbl ?_)
    assumption

theorem drivePins_touches {ps : Piece → Prop} {s0 : State} (h_out : ps .out) {v0 : State} (h0 : Touches ps s0 v0) :
    Touches ps s0 (drivePins v0) := by
  unfold drivePins
  refine State.send_touches h_out ?_
  refine State.send_touches h_out ?_
  assumption

theorem execPowerOnReset_touches {ps : Piece → Prop} {s0 : State} (h_out : ps .out) (h_boot : ps .boot) {v0 : Bool} {v1 : Bool} {v2 : State} (h0 : Touches ps s0 v2) :
    Moves ps s0 (execPowerOnReset v0 v1 v2) := by
  unfold execPowerOnReset
  refine Moves.next ?_
  refine State.given_touches ?_ ?_
  · assumption
  · intro y0
    intro k1
    lift_lets
    intro x2
    clear_value x2
    refine drivePins_touches h_out ?_
    refine sampleStraps_touches h_boot ?_
    refine (Touches.upd_boot h_boot ?_)
    assumption

theorem commitReset_touches {ps : Piece → Prop} {s0 : State} (h_regs : ps .regs) (h_out : ps .out) (h_ddr : ps .ddr) (h_poison : ps .poison) (h_host : ps .host) (h_latches : ps .latches) (h_hat : ps .hat) (h_ucs : ps .ucs) (h_brim : ps .brim) (h_palm : ps .palm) (h_timing : ps .timing) (h_ses : ps .ses) (h_ldg : ps .ldg) (h_vsr : ps .vsr) (h_boot : ps .boot) {v0 : State} (h0 : Touches ps s0 v0) :
    Touches ps s0 (commitReset v0) := by
  unfold commitReset
  lift_lets
  intro x0
  clear_value x0
  intro x1
  have hx2 : Touches ps s0 x1 := by
    unfold x1
    refine stopSlew_touches h_regs h_hat ?_
    refine stopTraffic_touches h_regs h_out h_ddr h_poison h_host h_latches h_ucs h_brim h_palm h_timing h_ses h_ldg h_vsr ?_
    refine (Touches.upd_boot h_boot ?_)
    assumption
  clear_value x1
  refine setClk_touches h_out h_hat ?_
  refine setPps_touches h_out h_hat ?_
  refine setPps_touches h_out h_hat ?_
  assumption

theorem sideAbsent_touches {ps : Piece → Prop} {s0 : State} (h_regs : ps .regs) {v0 : ℕ} {v1 : State} (h0 : Touches ps s0 v1) :
    Touches ps s0 (sideAbsent v0 v1) := by
  unfold sideAbsent
  refine Touches.foldl (fun _ _ _ => ?_) ?_
  · lift_lets
    intro x0
    clear_value x0
    refine Touches.foldl (fun _ _ _ => ?_) ?_
    · lift_lets
      intro x1
      clear_value x1
      refine Touches.foldl (fun _ _ _ => ?_) ?_
      · refine State.wr_touches h_regs ?_
        assumption
      · refine State.wr_touches h_regs ?_
        assumption
    · refine State.wr_touches h_regs ?_
      assumption
  · assumption

theorem stepRefs_touches {ps : Piece → Prop} {s0 : State} (h_regs : ps .regs) (h_hat : ps .hat) {v0 : Bool} {v1 : Bool} {v2 : State} (h0 : Touches ps s0 v2) :
    Touches ps s0 (stepRefs v0 v1 v2) := by
  unfold stepRefs
  lift_lets
  intro x0
  have hx1 : Touches ps s0 x0 := by
    unfold x0
    refine Touches.ite ?_ ?_
    · assumption
    · refine sideAbsent_touches h_regs ?_
      assumption
  clear_value x0
  intro x2
  have hx3 : Touches ps s0 x2 := by
    unfold x2
    refine Touches.ite ?_ ?_
    · assumption
    · refine sideAbsent_touches h_regs ?_
      assumption
  clear_value x2
  intro x4
  clear_value x4
  refine State.wr_touches h_regs ?_
  refine (Touches.upd_hat h_hat ?_)
  assumption

theorem startDdr_touches {ps : Piece → Prop} {s0 : State} (h_regs : ps .regs) (h_out : ps .out) (h_ddr : ps .ddr) (h_poison : ps .poison) (h_host : ps .host) (h_latches : ps .latches) (h_tbl : ps .tbl) (h_mtn : ps .mtn) (h_crown : ps .crown) (h_dram : ps .dram) {v0 : List (Option Dimm)} {v1 : State} (h0 : Touches ps s0 v1) :
    Touches ps s0 (startDdr v0 v1) := by
  unfold startDdr
  lift_lets
  intro x0
  have hx1 : Touches ps s0 x0 := by
    unfold x0
    refine readPopulation_touches h_regs h_dram ?_
    assumption
  clear_value x0
  intro x2
  clear_value x2
  intro x3
  have hx4 : Touches ps s0 x3 := by
    unfold x3
    refine Touches.ite ?_ ?_
    · refine (Touches.upd_dram h_dram ?_)
      assumption
    · refine startTraining_touches h_dram ?_
      assumption
  clear_value x3
  refine Touches.ite ?_ ?_
  · refine settleDdr_touches h_regs h_out h_ddr h_poison h_host h_latches h_tbl h_mtn h_crown h_dram ?_
    assumption
  · assumption

theorem stepDone_touches {ps : Piece → Prop} {s0 : State} (h_boot : ps .boot) {v0 : ℕ} {v1 : State} (h0 : Touches ps s0 v1) :
    Touches ps s0 (stepDone v0 v1) := by
  unfold stepDone
  lift_lets
  intro x0
  clear_value x0
  refine (Touches.upd_boot h_boot ?_)
  assumption

theorem loadHistory_touches {ps : Piece → Prop} {s0 : State} (h_regs : ps .regs) (h_out : ps .out) (h_host : ps .host) (h_latches : ps .latches) (h_hat : ps .hat) {v0 : ℕ} {v1 : State} (h0 : Touches ps s0 v1) :
    Touches ps s0 (loadHistory v0 v1) := by
  unfold loadHistory
  lift_lets
  intro x0
  clear_value x0
  intro x1
  clear_value x1
  intro x2
  clear_value x2
  intro x3
  clear_value x3
  intro x4
  clear_value x4
  intro x5
  have hx6 : Touches ps s0 x5 := by
    unfold x5
    refine State.wr_touches h_regs ?_
    refine State.wr_touches h_regs ?_
    refine State.wr_touches h_regs ?_
    refine (Touches.upd_hat h_hat ?_)
    assumption
  clear_value x5
  intro x7
  have hx8 : Touches ps s0 x7 := by
    unfold x7
    refine Touches.ite ?_ ?_
    · refine State.raise_touches h_regs h_out h_host h_latches ?_
      assumption
    · assumption
  clear_value x7
  intro x9
  clear_value x9
  refine Touches.ite ?_ ?_
  · assumption
  · split
    · assumption
    · lift_lets
      intro x10
      clear_value x10
      intro x11
      have hx12 : Touches ps s0 x11 := by
        unfold x11
        refine State.wrPair_touches h_regs ?_
        refine Touches.foldl (fun _ _ _ => ?_) ?_
        · refine State.wr_touches h_regs ?_
          assumption
        · assumption
      clear_value x11
      refine State.wr_touches h_regs ?_
      refine State.wr_touches h_regs ?_
      assumption

theorem stepMram_touches {ps : Piece → Prop} {s0 : State} (h_regs : ps .regs) (h_out : ps .out) (h_host : ps .host) (h_latches : ps .latches) (h_hat : ps .hat) (h_stamps : ps .stamps) (h_gnt : ps .gnt) {v0 : ℕ} {v1 : State} (h0 : Touches ps s0 v1) :
    Touches ps s0 (stepMram v0 v1) := by
  unfold stepMram
  lift_lets
  intro x0
  clear_value x0
  intro x1
  clear_value x1
  intro x2
  have hx3 : Touches ps s0 x2 := by
    unfold x2
    refine State.wr_touches h_regs ?_
    refine (Touches.upd_gnt h_gnt ?_)
    assumption
  clear_value x2
  refine loadHistory_touches h_regs h_out h_host h_latches h_hat ?_
  refine loadTrims_touches h_regs h_stamps ?_
  refine State.refreshSnap_touches h_regs ?_
  assumption

theorem stepCrown_touches {ps : Piece → Prop} {s0 : State} (h_regs : ps .regs) (h_out : ps .out) (h_host : ps .host) (h_latches : ps .latches) (h_crown : ps .crown) (h_boot : ps .boot) {v0 : State} (h0 : Touches ps s0 v0) :
    Touches ps s0 (stepCrown v0) := by
  unfold stepCrown
  lift_lets
  intro x0
  have hx1 : ∀ a0, Touches ps s0 a0 → Touches ps s0 (x0 a0) := by
    intro y2
    intro k3
    unfold x0
    lift_lets
    intro x4
    clear_value x4
    refine (Touches.upd_boot h_boot ?_)
    assumption
  clear_value x0
  refine Touches.ite ?_ ?_
  · refine hx1 _ ?_
    assumption
  · split
    lift_lets
    intro x5
    have hx6 : Touches ps s0 x5 := by
      unfold x5
      refine Touches.ite ?_ ?_
      · refine State.raise_touches h_regs h_out h_host h_latches ?_
        assumption
      · assumption
    clear_value x5
    split
    · refine bootCrown_touches h_regs h_crown h_boot ?_
      assumption
    · refine hx1 _ ?_
      assumption

theorem stepTables_touches {ps : Piece → Prop} {s0 : State} (h_regs : ps .regs) (h_out : ps .out) (h_host : ps .host) (h_latches : ps .latches) (h_tbl : ps .tbl) {v0 : State} (h0 : Touches ps s0 v0) :
    Touches ps s0 (stepTables v0) := by
  unfold stepTables
  refine Touches.ite ?_ ?_
  · assumption
  · lift_lets
    intro x0
    clear_value x0
    intro x1
    clear_value x1
    intro x2
    have hx3 : Touches ps s0 x2 := by
      unfold x2
      refine (Touches.upd_tbl h_tbl ?_)
      assumption
    clear_value x2
    intro x4
    have hx5 : Touches ps s0 x4 := by
      unfold x4
      refine State.wr_touches h_regs ?_
      assumption
    clear_value x4
    refine State.wr_touches h_regs ?_
    refine showCla_touches h_regs ?_
    refine refreshEmt_touches h_regs h_out h_host h_latches ?_
    assumption

theorem stepTiles_touches {ps : Piece → Prop} {s0 : State} (h_regs : ps .regs) (h_out : ps .out) (h_host : ps .host) (h_latches : ps .latches) (h_brim : ps .brim) (h_crown : ps .crown) {v0 : State} (h0 : Touches ps s0 v0) :
    Touches ps s0 (stepTiles v0) := by
  unfold stepTiles
  lift_lets
  intro x0
  clear_value x0
  intro x1
  clear_value x1
  intro x2
  clear_value x2
  split
  lift_lets
  intro x3
  have hx4 : Touches ps s0 x3 := by
    unfold x3
    refine Touches.multi (b := v0) ?_ (fun p hn => by cases p <;> first | exact absurd (by assumption) hn | rfl) (fun hs => hs) (fun hs => hs)
    assumption
  clear_value x3
  intro x5
  have hx6 : Touches ps s0 x5 := by
    unfold x5
    refine Touches.foldl (fun _ _ _ => ?_) ?_
    · lift_lets
      intro x7
      clear_value x7
      intro x8
      have hx9 : Touches ps s0 x8 := by
        unfold x8
        refine Touches.foldl (fun _ _ _ => ?_) ?_
        · refine State.wr_touches h_regs ?_
          assumption
        · assumption
      clear_value x8
      refine Touches.ite ?_ ?_
      · refine State.raise_touches h_regs h_out h_host h_latches ?_
        assumption
      · assumption
    · assumption
  clear_value x5
  refine Touches.foldl (fun _ _ _ => ?_) ?_
  · refine showEq_touches h_regs ?_
    assumption
  · assumption

theorem bootStep_touches {ps : Piece → Prop} {s0 : State} (h_regs : ps .regs) (h_free : ps .free) (h_out : ps .out) (h_ddr : ps .ddr) (h_poison : ps .poison) (h_host : ps .host) (h_latches : ps .latches) (h_hat : ps .hat) (h_stamps : ps .stamps) (h_ucs : ps .ucs) (h_brim : ps .brim) (h_tbl : ps .tbl) (h_ldg : ps .ldg) (h_vsr : ps .vsr) (h_mtn : ps .mtn) (h_pwc : ps .pwc) (h_gnt : ps .gnt) (h_crown : ps .crown) (h_dram : ps .dram) (h_boot : ps .boot) {v0 : ℕ} {v1 : BootFacts} {v2 : State} (h0 : Touches ps s0 v2) :
    Touches ps s0 (bootStep v0 v1 v2) := by
  unfold bootStep
  lift_lets
  intro x0
  have hx1 : ∀ a0, Touches ps s0 a0 → Touches ps s0 (x0 a0) := by
    intro y2
    intro k3
    unfold x0
    refine Touches.ite ?_ ?_
    · refine startDdr_touches h_regs h_out h_ddr h_poison h_host h_latches h_tbl h_mtn h_crown h_dram ?_
      assumption
    · assumption
  clear_value x0
  split
  · refine stepDone_touches h_boot ?_
    refine State.wr_touches h_regs ?_
    assumption
  · refine hx1 _ ?_
    refine stepDone_touches h_boot ?_
    refine stepRefs_touches h_regs h_hat ?_
    assumption
  · refine hx1 _ ?_
    refine stepDone_touches h_boot ?_
    refine stepMram_touches h_regs h_out h_host h_latches h_hat h_stamps h_gnt ?_
    assumption
  · refine State.given_touches ?_ ?_
    · assumption
    · intro y4
      intro k5
      refine stepDone_touches h_boot ?_
      assumption
  · refine State.given_touches ?_ ?_
    · assumption
    · intro y6
      intro k7
      refine stepCrown_touches h_regs h_out h_host h_latches h_crown h_boot ?_
      assumption
  · refine stepDone_touches h_boot ?_
    refine stepJournal_touches h_regs h_out h_host h_tbl ?_
    assumption
  · refine stepDone_touches h_boot ?_
    refine stepTables_touches h_regs h_out h_host h_latches h_tbl ?_
    assumption
  · refine stepDone_touches h_boot ?_
    refine stepImages_touches h_regs h_out h_host h_latches h_ucs h_tbl ?_
    assumption
  · refine stepDone_touches h_boot ?_
    refine stepTiles_touches h_regs h_out h_host h_latches h_brim h_crown ?_
    assumption
  · refine stepDone_touches h_boot ?_
    refine stepBand_touches h_regs h_free h_out h_host h_latches h_hat ?_
    assumption
  · refine stepDone_touches h_boot ?_
    refine stepLedger_touches h_regs h_out h_host h_latches h_ldg h_vsr ?_
    assumption
  · refine stepDone_touches h_boot ?_
    refine stepPower_touches h_regs h_out h_pwc ?_
    assumption
  · refine stepEnd_touches h_regs h_free h_out h_host h_latches h_hat h_mtn h_gnt ?_
    refine stepDone_touches h_boot ?_
    assumption
  · refine stepDone_touches h_boot ?_
    assumption

theorem execBootStepComplete_touches {ps : Piece → Prop} {s0 : State} (h_regs : ps .regs) (h_free : ps .free) (h_out : ps .out) (h_ddr : ps .ddr) (h_poison : ps .poison) (h_host : ps .host) (h_latches : ps .latches) (h_hat : ps .hat) (h_stamps : ps .stamps) (h_ucs : ps .ucs) (h_brim : ps .brim) (h_tbl : ps .tbl) (h_ldg : ps .ldg) (h_vsr : ps .vsr) (h_mtn : ps .mtn) (h_pwc : ps .pwc) (h_gnt : ps .gnt) (h_crown : ps .crown) (h_dram : ps .dram) (h_boot : ps .boot) {v0 : Fin 17} {v1 : BootFacts} {v2 : State} (h0 : Touches ps s0 v2) :
    Moves ps s0 (execBootStepComplete v0 v1 v2) := by
  unfold execBootStepComplete
  lift_lets
  intro x0
  clear_value x0
  refine Moves.next ?_
  refine State.given_touches ?_ ?_
  · assumption
  · intro y1
    intro k2
    refine bootStep_touches h_regs h_free h_out h_ddr h_poison h_host h_latches h_hat h_stamps h_ucs h_brim h_tbl h_ldg h_vsr h_mtn h_pwc h_gnt h_crown h_dram h_boot ?_
    assumption

theorem execWarmReset_touches {ps : Piece → Prop} {s0 : State} (h_regs : ps .regs) (h_out : ps .out) (h_ddr : ps .ddr) (h_poison : ps .poison) (h_host : ps .host) (h_latches : ps .latches) (h_hat : ps .hat) (h_ucs : ps .ucs) (h_brim : ps .brim) (h_palm : ps .palm) (h_timing : ps .timing) (h_ses : ps .ses) (h_ldg : ps .ldg) (h_vsr : ps .vsr) (h_boot : ps .boot) {v0 : State} (h0 : Touches ps s0 v0) :
    Moves ps s0 (execWarmReset v0) := by
  unfold execWarmReset
  refine Moves.next ?_
  refine State.given_touches ?_ ?_
  · assumption
  · intro y0
    intro k1
    refine Touches.ite ?_ ?_
    · lift_lets
      intro x2
      clear_value x2
      refine (Touches.upd_boot h_boot ?_)
      assumption
    · refine commitReset_touches h_regs h_out h_ddr h_poison h_host h_latches h_hat h_ucs h_brim h_palm h_timing h_ses h_ldg h_vsr h_boot ?_
      assumption

theorem execVddAonUp_touches {ps : Piece → Prop} {s0 : State} (h_out : ps .out) (h_boot : ps .boot) {v0 : State} (h0 : Touches ps s0 v0) :
    Moves ps s0 (execVddAonUp v0) := by
  unfold execVddAonUp
  refine Moves.next ?_
  refine State.given_touches ?_ ?_
  · assumption
  · intro y0
    intro k1
    lift_lets
    intro x2
    clear_value x2
    refine drivePins_touches h_out ?_
    refine (Touches.upd_boot h_boot ?_)
    assumption

end Sys2Proof.Machine
end

