-- ==== Sys2Proof/Laws/TouchGroups.lean ====
section
/-! SUPPORT. What the operations of Machine/Groups.lean may touch: one lemma for each. -/

set_option maxRecDepth 10000

namespace Sys2Proof.Machine

theorem primaryMismatch_touches {ps : Piece → Prop} {s0 : State} (h_regs : ps .regs) (h_out : ps .out) (h_host : ps .host) (h_latches : ps .latches) {v0 : State} (h0 : Touches ps s0 v0) :
    Touches ps s0 (primaryMismatch v0) := by
  unfold primaryMismatch
  lift_lets
  intro x0
  have hx1 : Touches ps s0 x0 := by
    unfold x0
    refine State.set1_touches h_regs h_latches ?_
    assumption
  clear_value x0
  refine Touches.ite ?_ ?_
  · assumption
  · refine State.vector_touches h_out h_host ?_
    assumption

theorem refreshMembers_touches {ps : Piece → Prop} {s0 : State} (h_regs : ps .regs) {v0 : State} (h0 : Touches ps s0 v0) :
    Touches ps s0 (refreshMembers v0) := by
  unfold refreshMembers
  lift_lets
  intro x0
  clear_value x0
  refine State.wr_touches h_regs ?_
  assumption

theorem setMember_touches {ps : Piece → Prop} {s0 : State} (h_regs : ps .regs) (h_out : ps .out) (h_host : ps .host) {v0 : ℕ} {v1 : Bool} {v2 : State} (h0 : Touches ps s0 v2) :
    Touches ps s0 (setMember v0 v1 v2) := by
  unfold setMember
  refine State.vector_touches h_out h_host ?_
  refine refreshMembers_touches h_regs ?_
  refine State.putBitAt_touches h_regs ?_
  assumption

theorem execMemberTimeout_touches {ps : Piece → Prop} {s0 : State} (h_regs : ps .regs) (h_out : ps .out) (h_host : ps .host) (h_hat : ps .hat) (h_timing : ps .timing) {v0 : Fin 4096} {v1 : State} (h0 : Touches ps s0 v1) :
    Moves ps s0 (execMemberTimeout v0 v1) := by
  unfold execMemberTimeout
  refine Moves.next ?_
  refine State.given_touches ?_ ?_
  · assumption
  · intro y0
    intro k1
    lift_lets
    intro x2
    clear_value x2
    refine paceLeft_touches h_timing ?_
    refine setMember_touches h_regs h_out h_host ?_
    refine (Touches.upd_hat h_hat ?_)
    assumption

theorem relayHello_touches {ps : Piece → Prop} {s0 : State} (h_out : ps .out) (h_hat : ps .hat) {v0 : ℕ} {v1 : Hello} {v2 : State} (h0 : Touches ps s0 v2) :
    Touches ps s0 (relayHello v0 v1 v2) := by
  unfold relayHello
  refine Touches.ite ?_ ?_
  · assumption
  · lift_lets
    intro x0
    clear_value x0
    intro x1
    have hx2 : Touches ps s0 x1 := by
      unfold x1
      refine (Touches.upd_hat h_hat ?_)
      assumption
    clear_value x1
    refine Touches.foldl (fun _ _ _ => ?_) ?_
    · refine State.send_touches h_out ?_
      assumption
    · assumption

theorem chipConflict_touches {ps : Piece → Prop} {s0 : State} (h_regs : ps .regs) (h_out : ps .out) (h_host : ps .host) (h_latches : ps .latches) {v0 : State} (h0 : Touches ps s0 v0) :
    Touches ps s0 (chipConflict v0) := by
  unfold chipConflict
  lift_lets
  intro x0
  clear_value x0
  intro x1
  have hx2 : Touches ps s0 x1 := by
    unfold x1
    refine State.raise_touches h_regs h_out h_host h_latches ?_
    refine State.set1_touches h_regs h_latches ?_
    assumption
  clear_value x1
  refine Touches.ite ?_ ?_
  · assumption
  · refine State.vector_touches h_out h_host ?_
    assumption

theorem hearHello_touches {ps : Piece → Prop} {s0 : State} (h_regs : ps .regs) (h_out : ps .out) (h_host : ps .host) (h_latches : ps .latches) (h_hat : ps .hat) (h_timing : ps .timing) {v0 : ℕ} {v1 : Hello} {v2 : State} (h0 : Touches ps s0 v2) :
    Touches ps s0 (hearHello v0 v1 v2) := by
  unfold hearHello
  lift_lets
  intro x0
  clear_value x0
  intro x1
  clear_value x1
  intro x2
  have hx3 : Touches ps s0 x2 := by
    unfold x2
    refine relayHello_touches h_out h_hat ?_
    assumption
  clear_value x2
  intro x4
  clear_value x4
  intro x5
  clear_value x5
  intro x6
  have hx7 : Touches ps s0 x6 := by
    unfold x6
    refine (Touches.upd_hat h_hat ?_)
    assumption
  clear_value x6
  intro x8
  have hx9 : Touches ps s0 x8 := by
    unfold x8
    refine Touches.ite ?_ ?_
    · assumption
    · refine setMember_touches h_regs h_out h_host ?_
      assumption
  clear_value x8
  refine Touches.ite ?_ ?_
  · assumption
  · refine Touches.ite ?_ ?_
    · refine primaryMismatch_touches h_regs h_out h_host h_latches ?_
      assumption
    · refine Touches.ite ?_ ?_
      · refine chipConflict_touches h_regs h_out h_host h_latches ?_
        assumption
      · refine paceHeard_touches h_regs h_timing ?_
        assumption

theorem advertise_touches {ps : Piece → Prop} {s0 : State} (h_regs : ps .regs) (h_out : ps .out) (h_host : ps .host) (h_timing : ps .timing) (h_pwc : ps .pwc) {v0 : State} (h0 : Touches ps s0 v0) :
    Touches ps s0 (advertise v0) := by
  unfold advertise
  lift_lets
  intro x0
  clear_value x0
  intro x1
  clear_value x1
  intro x2
  clear_value x2
  intro x3
  have hx4 : Touches ps s0 x3 := by
    unfold x3
    refine (Touches.upd_pwc h_pwc ?_)
    assumption
  clear_value x3
  refine Touches.ite ?_ ?_
  · assumption
  · refine refreshPaces_touches h_regs ?_
    refine scheduleDEff_touches h_timing ?_
    refine State.vector_touches h_out h_host ?_
    refine State.wr_touches h_regs ?_
    assumption

theorem execDenoonHelloSend_touches {ps : Piece → Prop} {s0 : State} (h_regs : ps .regs) (h_out : ps .out) (h_host : ps .host) (h_hat : ps .hat) (h_ticks : ps .ticks) (h_timing : ps .timing) (h_pwc : ps .pwc) {v0 : State} (h0 : Touches ps s0 v0) :
    Moves ps s0 (execDenoonHelloSend v0) := by
  unfold execDenoonHelloSend
  refine Moves.next ?_
  refine State.running_touches ?_ ?_
  · assumption
  · intro y0
    intro k1
    refine State.periodic_touches h_ticks ?_ ?_
    · assumption
    · intro y2
      intro k3
      lift_lets
      intro x4
      have hx5 : Touches ps s0 x4 := by
        unfold x4
        refine advertise_touches h_regs h_out h_host h_timing h_pwc ?_
        assumption
      clear_value x4
      intro x6
      clear_value x6
      intro x7
      clear_value x7
      intro x8
      have hx9 : Touches ps s0 x8 := by
        unfold x8
        refine (Touches.upd_hat h_hat ?_)
        assumption
      clear_value x8
      refine Touches.ite ?_ ?_
      · refine Touches.foldl (fun _ _ _ => ?_) ?_
        · refine State.send_touches h_out ?_
          assumption
        · assumption
      · assumption

theorem execDenoonHelloReceive_touches {ps : Piece → Prop} {s0 : State} (h_regs : ps .regs) (h_out : ps .out) (h_host : ps .host) (h_latches : ps .latches) (h_hat : ps .hat) (h_timing : ps .timing) {v0 : Fin 1024} {v1 : Hello} {v2 : State} (h0 : Touches ps s0 v2) :
    Moves ps s0 (execDenoonHelloReceive v0 v1 v2) := by
  unfold execDenoonHelloReceive
  refine Moves.next ?_
  refine State.running_touches ?_ ?_
  · assumption
  · intro y0
    intro k1
    refine State.given_touches ?_ ?_
    · assumption
    · intro y2
      intro k3
      refine hearHello_touches h_regs h_out h_host h_latches h_hat h_timing ?_
      assumption

end Sys2Proof.Machine
end

