-- ==== Sys2Proof/Laws/TouchHostWrite.lean ====
section
/-! SUPPORT. What the operations of Machine/HostWrite.lean may touch: one lemma for each. -/

set_option maxRecDepth 10000

namespace Sys2Proof.Machine

theorem storeIf_touches {ps : Piece → Prop} {s0 : State} (h_regs : ps .regs) {v0 : Fld → Bool} {v1 : RegWrite} {v2 : State} (h0 : Touches ps s0 v2) :
    Touches ps s0 (storeIf v0 v1 v2) := by
  unfold storeIf
  lift_lets
  intro x0
  clear_value x0
  refine Touches.foldl (fun _ _ _ => ?_) ?_
  · split
    · assumption
    · refine Touches.ite ?_ ?_
      · assumption
      · refine Touches.foldl (fun _ _ _ => ?_) ?_
        · refine State.wrx_touches h_regs ?_
          assumption
        · assumption
  · assumption

theorem storeReg_touches {ps : Piece → Prop} {s0 : State} (h_regs : ps .regs) {v0 : RegWrite} {v1 : State} (h0 : Touches ps s0 v1) :
    Touches ps s0 (storeReg v0 v1) := by
  unfold storeReg
  refine storeIf_touches h_regs ?_
  assumption

theorem writeUcs_touches {ps : Piece → Prop} {s0 : State} (h_regs : ps .regs) (h_free : ps .free) (h_out : ps .out) (h_host : ps .host) (h_latches : ps .latches) {v0 : ℕ} {v1 : RegWrite} {v2 : State} (h0 : Touches ps s0 v2) :
    Touches ps s0 (writeUcs v0 v1 v2) := by
  unfold writeUcs
  lift_lets
  intro x0
  clear_value x0
  intro x1
  have hx2 : Touches ps s0 x1 := by
    unfold x1
    refine Touches.ite ?_ ?_
    · refine arm_touches h_regs h_latches ?_
      assumption
    · refine Touches.ite ?_ ?_
      · refine State.wr_touches h_regs ?_
        assumption
      · assumption
  clear_value x1
  intro x3
  have hx4 : Touches ps s0 x3 := by
    unfold x3
    refine Touches.ite ?_ ?_
    · refine bankAbort_touches h_regs h_out h_host h_latches ?_
      assumption
    · assumption
  clear_value x3
  split
  · refine Touches.ite ?_ ?_
    · refine clearStats_touches h_regs ?_
      assumption
    · assumption
  · refine selectItem_touches h_regs h_free ?_
    assumption
  · refine storeReg_touches h_regs ?_
    assumption

theorem resendCauses_touches {ps : Piece → Prop} {s0 : State} (h_out : ps .out) (h_host : ps .host) {v0 : ℕ} {v1 : ℕ} {v2 : Bool} {v3 : State} (h0 : Touches ps s0 v3) :
    Touches ps s0 (resendCauses v0 v1 v2 v3) := by
  unfold resendCauses
  lift_lets
  intro x0
  clear_value x0
  intro x1
  clear_value x1
  refine Touches.foldl (fun _ _ _ => ?_) ?_
  · refine State.vector_touches h_out h_host ?_
    assumption
  · assumption

theorem dropped_touches {ps : Piece → Prop} {s0 : State} (h_regs : ps .regs) (h_latches : ps .latches) {v0 : RegWrite} {v1 : State} (h0 : Touches ps s0 v1) :
    Touches ps s0 (dropped v0 v1) := by
  unfold dropped
  refine State.set1_touches h_regs h_latches ?_
  assumption

theorem writeDdr0_touches {ps : Piece → Prop} {s0 : State} (h_regs : ps .regs) (h_out : ps .out) (h_host : ps .host) (h_latches : ps .latches) {v0 : RegWrite} {v1 : State} (h0 : Touches ps s0 v1) :
    Touches ps s0 (writeDdr0 v0 v1) := by
  unfold writeDdr0
  split
  · refine Touches.ite ?_ ?_
    · refine dropped_touches h_regs h_latches ?_
      assumption
    · refine storeReg_touches h_regs ?_
      assumption
  · refine writeRetxGib_touches h_regs h_out h_host h_latches ?_
    assumption
  · refine storeReg_touches h_regs ?_
    assumption

theorem stageHalf_touches {ps : Piece → Prop} {s0 : State} (h_host : ps .host) {v0 : RegWrite} {v1 : State} (h0 : Touches ps s0 v1) :
    Touches ps s0 (stageHalf v0 v1) := by
  unfold stageHalf
  refine Touches.ite ?_ ?_
  · lift_lets
    intro x0
    clear_value x0
    refine (Touches.upd_host h_host ?_)
    assumption
  · assumption

theorem writeHbd0_touches {ps : Piece → Prop} {s0 : State} (h_regs : ps .regs) (h_free : ps .free) (h_out : ps .out) (h_host : ps .host) (h_latches : ps .latches) (h_hat : ps .hat) {v0 : RegWrite} {v1 : State} (h0 : Touches ps s0 v1) :
    Touches ps s0 (writeHbd0 v0 v1) := by
  unfold writeHbd0
  split
  · lift_lets
    intro x0
    clear_value x0
    intro x1
    have hx2 : Touches ps s0 x1 := by
      unfold x1
      refine storeIf_touches h_regs ?_
      assumption
    clear_value x1
    refine Touches.ite ?_ ?_
    · assumption
    · refine changeMode_touches h_regs h_free h_out h_host h_latches h_hat ?_
      assumption
  · refine stageHalf_touches h_host ?_
    assumption
  · refine storeIf_touches h_regs ?_
    assumption
  · refine storeReg_touches h_regs ?_
    assumption

theorem clampField_touches {ps : Piece → Prop} {s0 : State} (h_regs : ps .regs) {v0 : ℕ} {v1 : Fld} {v2 : ℕ} {v3 : ℕ} {v4 : State} (h0 : Touches ps s0 v4) :
    Touches ps s0 (clampField v0 v1 v2 v3 v4) := by
  unfold clampField
  refine State.wr_touches h_regs ?_
  assumption

theorem writePwc0_touches {ps : Piece → Prop} {s0 : State} (h_regs : ps .regs) (h_pwc : ps .pwc) {v0 : RegWrite} {v1 : State} (h0 : Touches ps s0 v1) :
    Touches ps s0 (writePwc0 v0 v1) := by
  unfold writePwc0
  split
  · refine writeCap_touches h_regs h_pwc ?_
    assumption
  · refine clampField_touches h_regs ?_
    refine storeReg_touches h_regs ?_
    assumption
  · refine clampField_touches h_regs ?_
    refine storeReg_touches h_regs ?_
    assumption
  · lift_lets
    intro x0
    have hx1 : Touches ps s0 x0 := by
      unfold x0
      refine Touches.ite ?_ ?_
      · refine calStart_touches h_regs h_pwc ?_
        assumption
      · assumption
    clear_value x0
    refine Touches.ite ?_ ?_
    · refine useFused_touches h_regs h_pwc ?_
      assumption
    · assumption
  · refine storeReg_touches h_regs ?_
    assumption

theorem writeGnt0_touches {ps : Piece → Prop} {s0 : State} (h_regs : ps .regs) (h_out : ps .out) (h_host : ps .host) (h_gnt : ps .gnt) {v0 : RegWrite} {v1 : State} (h0 : Touches ps s0 v1) :
    Touches ps s0 (writeGnt0 v0 v1) := by
  unfold writeGnt0
  refine Touches.ite ?_ ?_
  · refine showLine_touches h_regs ?_
    assumption
  · refine Touches.ite ?_ ?_
    · refine clearLines_touches h_regs h_out h_host h_gnt ?_
      assumption
    · refine Touches.ite ?_ ?_
      · refine clearInj_touches h_regs h_out h_host ?_
        assumption
      · refine storeReg_touches h_regs ?_
        assumption

theorem writeBufx_touches {ps : Piece → Prop} {s0 : State} (h_regs : ps .regs) (h_out : ps .out) (h_host : ps .host) (h_latches : ps .latches) (h_palm : ps .palm) (h_mtn : ps .mtn) {v0 : RegWrite} {v1 : State} (h0 : Touches ps s0 v1) :
    Touches ps s0 (writeBufx v0 v1) := by
  unfold writeBufx
  lift_lets
  intro x0
  clear_value x0
  split
  · refine writePools_touches h_regs h_out h_host h_latches h_palm h_mtn ?_
    assumption
  · refine writePools_touches h_regs h_out h_host h_latches h_palm h_mtn ?_
    assumption
  · refine writePools_touches h_regs h_out h_host h_latches h_palm h_mtn ?_
    assumption
  · refine Touches.ite ?_ ?_
    · refine spareCmd_touches h_regs h_out h_host h_latches h_palm h_mtn ?_
      assumption
    · assumption
  · refine showMcg_touches h_regs ?_
    assumption
  · refine Touches.ite ?_ ?_
    · refine commitMcg_touches h_palm ?_
      assumption
    · assumption
  · refine storeReg_touches h_regs ?_
    assumption

theorem writeTbl1_touches {ps : Piece → Prop} {s0 : State} (h_regs : ps .regs) {v0 : RegWrite} {v1 : State} (h0 : Touches ps s0 v1) :
    Touches ps s0 (writeTbl1 v0 v1) := by
  unfold writeTbl1
  refine Touches.ite ?_ ?_
  · assumption
  · refine storeReg_touches h_regs ?_
    assumption

theorem writeGroupCfg_touches {ps : Piece → Prop} {s0 : State} (h_regs : ps .regs) (h_free : ps .free) (h_out : ps .out) (h_host : ps .host) (h_latches : ps .latches) (h_hat : ps .hat) {v0 : RegWrite} {v1 : State} (h0 : Touches ps s0 v1) :
    Touches ps s0 (writeGroupCfg v0 v1) := by
  unfold writeGroupCfg
  lift_lets
  intro x0
  clear_value x0
  intro x1
  have hx2 : Touches ps s0 x1 := by
    unfold x1
    refine storeIf_touches h_regs ?_
    assumption
  clear_value x1
  intro x3
  have hx4 : Touches ps s0 x3 := by
    unfold x3
    refine Touches.ite ?_ ?_
    · assumption
    · refine State.wr_touches h_regs ?_
      assumption
  clear_value x3
  refine refreshMembers_touches h_regs ?_
  refine refreshGroup_touches h_regs h_free h_out h_host h_latches h_hat ?_
  assumption

theorem commitStart_touches {ps : Piece → Prop} {s0 : State} (h_regs : ps .regs) (h_out : ps .out) (h_host : ps .host) (h_latches : ps .latches) (h_hat : ps .hat) {v0 : T80} {v1 : State} (h0 : Touches ps s0 v1) :
    Touches ps s0 (commitStart v0 v1) := by
  unfold commitStart
  lift_lets
  intro x0
  have hx1 : Touches ps s0 x0 := by
    unfold x0
    refine State.wrPair_touches h_regs ?_
    assumption
  clear_value x0
  intro x2
  have hx3 : Touches ps s0 x2 := by
    unfold x2
    refine Touches.ite ?_ ?_
    · refine State.vector_touches h_out h_host ?_
      refine State.set1_touches h_regs h_latches ?_
      assumption
    · assumption
  clear_value x2
  refine Touches.ite ?_ ?_
  · assumption
  · refine Touches.ite ?_ ?_
    · refine setClk_touches h_out h_hat ?_
      assumption
    · refine regrid_touches h_hat ?_
      assumption

theorem writeLdg2_touches {ps : Piece → Prop} {s0 : State} (h_regs : ps .regs) (h_latches : ps .latches) {v0 : RegWrite} {v1 : State} (h0 : Touches ps s0 v1) :
    Touches ps s0 (writeLdg2 v0 v1) := by
  unfold writeLdg2
  refine Touches.ite ?_ ?_
  · lift_lets
    intro x0
    clear_value x0
    intro x1
    clear_value x1
    intro x2
    clear_value x2
    intro x3
    clear_value x3
    refine Touches.ite ?_ ?_
    · assumption
    · refine Touches.ite ?_ ?_
      · refine dropped_touches h_regs h_latches ?_
        assumption
      · refine storeReg_touches h_regs ?_
        assumption
  · refine storeReg_touches h_regs ?_
    assumption

theorem writeLdg0_touches {ps : Piece → Prop} {s0 : State} (h_regs : ps .regs) (h_out : ps .out) (h_host : ps .host) (h_latches : ps .latches) (h_ldg : ps .ldg) (h_vsr : ps .vsr) (h_mtn : ps .mtn) {v0 : RegWrite} {v1 : State} (h0 : Touches ps s0 v1) :
    Touches ps s0 (writeLdg0 v0 v1) := by
  unfold writeLdg0
  split
  · lift_lets
    intro x0
    clear_value x0
    intro x1
    have hx2 : Touches ps s0 x1 := by
      unfold x1
      refine storeIf_touches h_regs ?_
      assumption
    clear_value x1
    refine Touches.ite ?_ ?_
    · assumption
    · refine Touches.ite ?_ ?_
      · refine enableLedger_touches h_regs h_out h_host h_latches h_ldg h_vsr h_mtn ?_
        assumption
      · refine stopRun_touches h_regs h_out h_host h_latches h_ldg h_vsr h_mtn ?_
        assumption
  · refine Touches.ite ?_ ?_
    · refine dropped_touches h_regs h_latches ?_
      assumption
    · refine storeReg_touches h_regs ?_
      assumption
  · refine Touches.ite ?_ ?_
    · refine dropped_touches h_regs h_latches ?_
      assumption
    · refine storeReg_touches h_regs ?_
      assumption
  · refine storeReg_touches h_regs ?_
    assumption

theorem clearErr_touches {ps : Piece → Prop} {s0 : State} (h_regs : ps .regs) (h_out : ps .out) (h_host : ps .host) (h_latches : ps .latches) {v0 : RegWrite} {v1 : State} (h0 : Touches ps s0 v1) :
    Touches ps s0 (clearErr v0 v1) := by
  unfold clearErr
  lift_lets
  intro x0
  clear_value x0
  intro x1
  have hx2 : Touches ps s0 x1 := by
    unfold x1
    refine State.refreshErr_touches h_regs ?_
    refine storeReg_touches h_regs ?_
    assumption
  clear_value x1
  intro x3
  have hx4 : Touches ps s0 x3 := by
    unfold x3
    refine Touches.foldl (fun _ _ _ => ?_) ?_
    · refine State.refreshErr_touches h_regs ?_
      refine State.setBit_touches h_regs h_latches ?_
      assumption
    · assumption
  clear_value x3
  refine resendCauses_touches h_out h_host ?_
  assumption

theorem writeMask_touches {ps : Piece → Prop} {s0 : State} (h_regs : ps .regs) {v0 : RegWrite} {v1 : State} (h0 : Touches ps s0 v1) :
    Touches ps s0 (writeMask v0 v1) := by
  unfold writeMask
  lift_lets
  intro x0
  clear_value x0
  refine State.refreshErr_touches h_regs ?_
  refine State.wr_touches h_regs ?_
  assumption

theorem writeHeader_touches {ps : Piece → Prop} {s0 : State} (h_regs : ps .regs) (h_free : ps .free) (h_out : ps .out) (h_ddr : ps .ddr) (h_poison : ps .poison) (h_host : ps .host) (h_latches : ps .latches) (h_hat : ps .hat) (h_stamps : ps .stamps) (h_ucs : ps .ucs) (h_brim : ps .brim) (h_tbl : ps .tbl) (h_palm : ps .palm) (h_timing : ps .timing) (h_ses : ps .ses) (h_ldg : ps .ldg) (h_vsr : ps .vsr) (h_mtn : ps .mtn) (h_pwc : ps .pwc) (h_gnt : ps .gnt) (h_crown : ps .crown) (h_boot : ps .boot) {v0 : RegWrite} {v1 : State} (h0 : Touches ps s0 v1) :
    Touches ps s0 (writeHeader v0 v1) := by
  unfold writeHeader
  split
  · lift_lets
    intro x0
    have hx1 : Touches ps s0 x0 := by
      unfold x0
      refine Touches.ite ?_ ?_
      · refine storeReg_touches h_regs ?_
        assumption
      · assumption
    clear_value x0
    refine Touches.ite ?_ ?_
    · refine blockReset_touches h_regs h_free h_out h_ddr h_poison h_host h_latches h_hat h_stamps h_ucs h_brim h_tbl h_palm h_timing h_ses h_ldg h_vsr h_mtn h_pwc h_gnt h_crown h_boot ?_
      assumption
    · assumption
  · refine State.given_touches ?_ ?_
    · assumption
    · intro y2
      intro k3
      refine clearErr_touches h_regs h_out h_host h_latches ?_
      assumption
  · refine State.given_touches ?_ ?_
    · assumption
    · intro y4
      intro k5
      refine writeMask_touches h_regs ?_
      assumption
  · refine State.given_touches ?_ ?_
    · assumption
    · intro y6
      intro k7
      refine injectCauses_touches h_regs h_out h_host h_latches h_gnt ?_
      assumption
  · refine State.given_touches ?_ ?_
    · assumption
    · intro y8
      intro k9
      refine writeClassMap_touches h_regs ?_
      assumption
  · refine Touches.ite ?_ ?_
    · refine writeVote_touches h_regs h_out h_host h_mtn ?_
      assumption
    · assumption
  · refine storeReg_touches h_regs ?_
    assumption

theorem commitSwitch_touches {ps : Piece → Prop} {s0 : State} (h_regs : ps .regs) (h_free : ps .free) (h_out : ps .out) (h_host : ps .host) (h_latches : ps .latches) (h_hat : ps .hat) {v0 : T80} {v1 : State} (h0 : Touches ps s0 v1) :
    Touches ps s0 (commitSwitch v0 v1) := by
  unfold commitSwitch
  lift_lets
  intro x0
  have hx1 : Touches ps s0 x0 := by
    unfold x0
    refine State.wrPair_touches h_regs ?_
    assumption
  clear_value x0
  intro x2
  clear_value x2
  refine Touches.ite ?_ ?_
  · refine switchPrimary_touches h_regs h_free h_out h_host h_latches h_hat ?_
    refine State.vector_touches h_out h_host ?_
    refine State.set1_touches h_regs h_latches ?_
    assumption
  · refine (Touches.upd_hat h_hat ?_)
    assumption

theorem commitPair_touches {ps : Piece → Prop} {s0 : State} (h_regs : ps .regs) (h_time : ps .time) (h_free : ps .free) (h_out : ps .out) (h_host : ps .host) (h_latches : ps .latches) (h_hat : ps .hat) (h_ticks : ps .ticks) (h_timing : ps .timing) (h_ldg : ps .ldg) (h_vsr : ps .vsr) (h_mtn : ps .mtn) (h_pwc : ps .pwc) {v0 : ℕ} {v1 : ℕ} {v2 : ℕ} {v3 : State} (h0 : Touches ps s0 v3) :
    Touches ps s0 (commitPair v0 v1 v2 v3) := by
  unfold commitPair
  lift_lets
  intro x0
  clear_value x0
  split
  · refine setTime_touches h_regs h_time h_free h_out h_host h_latches h_hat h_ticks h_ldg h_vsr ?_
    assumption
  · refine commitStart_touches h_regs h_out h_host h_latches h_hat ?_
    assumption
  · refine commitSwitch_touches h_regs h_free h_out h_host h_latches h_hat ?_
    assumption
  · refine writeReleaseAt_touches h_regs h_out h_host h_latches h_timing h_pwc ?_
    assumption
  · refine writeSnapAt_touches h_regs h_out h_host h_latches h_vsr h_mtn ?_
    assumption
  · assumption

theorem writeHbd2_touches {ps : Piece → Prop} {s0 : State} (h_regs : ps .regs) (h_out : ps .out) (h_host : ps .host) (h_latches : ps .latches) (h_hat : ps .hat) {v0 : RegWrite} {v1 : State} (h0 : Touches ps s0 v1) :
    Touches ps s0 (writeHbd2 v0 v1) := by
  unfold writeHbd2
  split
  · refine writePpsCfg_touches h_regs h_out h_latches h_hat ?_
    assumption
  · refine writePpsCfg_touches h_regs h_out h_latches h_hat ?_
    assumption
  · refine writeClkCfg_touches h_regs h_out h_latches h_hat ?_
    assumption
  · refine stageHalf_touches h_host ?_
    assumption
  · refine storeReg_touches h_regs ?_
    assumption

theorem writeHbd4_touches {ps : Piece → Prop} {s0 : State} (h_regs : ps .regs) (h_free : ps .free) (h_out : ps .out) (h_host : ps .host) (h_latches : ps .latches) (h_hat : ps .hat) {v0 : RegWrite} {v1 : State} (h0 : Touches ps s0 v1) :
    Touches ps s0 (writeHbd4 v0 v1) := by
  unfold writeHbd4
  lift_lets
  intro x0
  clear_value x0
  intro x1
  clear_value x1
  intro x2
  clear_value x2
  intro x3
  clear_value x3
  intro x4
  clear_value x4
  split
  · refine showPtp_touches h_regs ?_
    refine storeReg_touches h_regs ?_
    assumption
  · refine State.putPtp_touches h_regs h_hat ?_
    assumption
  · refine State.putPtp_touches h_regs h_hat ?_
    assumption
  · refine showPeer_touches h_regs ?_
    assumption
  · split
    · refine setStatic_touches h_hat ?_
      assumption
    · refine setStatic_touches h_hat ?_
      assumption
    · refine freePeer_touches h_regs h_free h_out h_host h_latches h_hat ?_
      assumption
    · assumption
  · refine storeReg_touches h_regs ?_
    assumption

theorem writeHbd5_touches {ps : Piece → Prop} {s0 : State} (h_regs : ps .regs) (h_free : ps .free) (h_out : ps .out) (h_host : ps .host) (h_latches : ps .latches) (h_hat : ps .hat) {v0 : RegWrite} {v1 : State} (h0 : Touches ps s0 v1) :
    Touches ps s0 (writeHbd5 v0 v1) := by
  unfold writeHbd5
  split
  · refine writeGroupCfg_touches h_regs h_free h_out h_host h_latches h_hat ?_
    assumption
  · refine refreshGroup_touches h_regs h_free h_out h_host h_latches h_hat ?_
    refine storeReg_touches h_regs ?_
    assumption
  · refine stageHalf_touches h_host ?_
    assumption
  · refine storeReg_touches h_regs ?_
    assumption

theorem writeHbd8_touches {ps : Piece → Prop} {s0 : State} (h_regs : ps .regs) (h_latches : ps .latches) (h_stamps : ps .stamps) {v0 : RegWrite} {v1 : State} (h0 : Touches ps s0 v1) :
    Touches ps s0 (writeHbd8 v0 v1) := by
  unfold writeHbd8
  lift_lets
  intro x0
  clear_value x0
  intro x1
  have hx2 : Touches ps s0 x1 := by
    unfold x1
    refine storeReg_touches h_regs ?_
    assumption
  clear_value x1
  intro x3
  have hx4 : Touches ps s0 x3 := by
    unfold x3
    refine Touches.ite ?_ ?_
    · refine applyTrims_touches h_regs h_latches h_stamps ?_
      assumption
    · assumption
  clear_value x3
  split
  · refine Touches.ite ?_ ?_
    · refine State.wr_touches h_regs ?_
      assumption
    · assumption
  · refine showCal_touches h_regs ?_
    refine storeReg_touches h_regs ?_
    assumption
  · refine stageTrim_touches h_regs h_stamps ?_
    assumption
  · refine stageTrim_touches h_regs h_stamps ?_
    assumption
  · refine Touches.ite ?_ ?_
    · refine discardTrims_touches h_regs h_stamps ?_
      assumption
    · assumption
  · refine storeReg_touches h_regs ?_
    assumption

theorem writeHbd10_touches {ps : Piece → Prop} {s0 : State} (h_regs : ps .regs) (h_stamps : ps .stamps) {v0 : RegWrite} {v1 : State} (h0 : Touches ps s0 v1) :
    Touches ps s0 (writeHbd10 v0 v1) := by
  unfold writeHbd10
  lift_lets
  intro x0
  clear_value x0
  refine Touches.ite ?_ ?_
  · assumption
  · refine Touches.ite ?_ ?_
    · refine statClear_touches h_regs h_stamps ?_
      assumption
    · refine showStat_touches h_regs ?_
      assumption

theorem writeLane_touches {ps : Piece → Prop} {s0 : State} (h_regs : ps .regs) (h_out : ps .out) (h_host : ps .host) (h_latches : ps .latches) (h_brim : ps .brim) (h_mtn : ps .mtn) {v0 : ℕ} {v1 : RegWrite} {v2 : State} (h0 : Touches ps s0 v2) :
    Touches ps s0 (writeLane v0 v1 v2) := by
  unfold writeLane
  lift_lets
  intro x0
  clear_value x0
  split
  · refine writeLaneCtrl_touches h_regs h_out h_host h_latches h_brim h_mtn ?_
    assumption
  · refine writeEq_touches h_regs h_latches h_brim ?_
    assumption
  · refine writeEq_touches h_regs h_latches h_brim ?_
    assumption
  · refine writeEq_touches h_regs h_latches h_brim ?_
    assumption
  · assumption

theorem writePortCtrl_touches {ps : Piece → Prop} {s0 : State} (h_regs : ps .regs) (h_out : ps .out) (h_ddr : ps .ddr) (h_poison : ps .poison) (h_host : ps .host) (h_latches : ps .latches) (h_stamps : ps .stamps) (h_brim : ps .brim) (h_palm : ps .palm) (h_ldg : ps .ldg) (h_vsr : ps .vsr) (h_mtn : ps .mtn) {v0 : ℕ} {v1 : RegWrite} {v2 : State} (h0 : Touches ps s0 v2) :
    Touches ps s0 (writePortCtrl v0 v1 v2) := by
  unfold writePortCtrl
  lift_lets
  intro x0
  clear_value x0
  intro x1
  have hx2 : Touches ps s0 x1 := by
    unfold x1
    refine Touches.ite ?_ ?_
    · assumption
    · refine Touches.ite ?_ ?_
      · refine enablePort_touches h_regs h_out h_ddr h_poison h_host h_latches h_stamps h_brim h_palm h_ldg h_vsr h_mtn ?_
        assumption
      · refine disablePort_touches h_regs h_out h_ddr h_poison h_host h_latches h_stamps h_brim h_palm h_ldg h_vsr h_mtn ?_
        assumption
  clear_value x1
  refine Touches.ite ?_ ?_
  · refine restartPort_touches h_regs h_out h_ddr h_poison h_host h_latches h_stamps h_brim h_palm h_ldg h_vsr h_mtn ?_
    assumption
  · assumption

theorem writePort_touches {ps : Piece → Prop} {s0 : State} (h_regs : ps .regs) (h_out : ps .out) (h_ddr : ps .ddr) (h_poison : ps .poison) (h_host : ps .host) (h_latches : ps .latches) (h_stamps : ps .stamps) (h_brim : ps .brim) (h_palm : ps .palm) (h_ldg : ps .ldg) (h_vsr : ps .vsr) (h_mtn : ps .mtn) {v0 : ℕ} {v1 : RegWrite} {v2 : State} (h0 : Touches ps s0 v2) :
    Touches ps s0 (writePort v0 v1 v2) := by
  unfold writePort
  lift_lets
  intro x0
  clear_value x0
  split
  · refine writePortCtrl_touches h_regs h_out h_ddr h_poison h_host h_latches h_stamps h_brim h_palm h_ldg h_vsr h_mtn ?_
    assumption
  · refine clampField_touches h_regs ?_
    refine clampField_touches h_regs ?_
    refine storeReg_touches h_regs ?_
    assumption
  · refine clampField_touches h_regs ?_
    refine storeReg_touches h_regs ?_
    assumption
  · refine writeEts_touches h_regs h_latches h_brim h_palm ?_
    assumption
  · refine writePreempt_touches h_regs h_out h_host h_latches h_brim ?_
    assumption
  · refine writeTxCtrl_touches h_regs h_latches ?_
    assumption
  · refine recomputePort_touches h_regs h_out h_host h_mtn ?_
    refine storeReg_touches h_regs ?_
    assumption
  · refine storeReg_touches h_regs ?_
    assumption

theorem writeTbl3_touches {ps : Piece → Prop} {s0 : State} (h_regs : ps .regs) (h_latches : ps .latches) {v0 : RegWrite} {v1 : State} (h0 : Touches ps s0 v1) :
    Touches ps s0 (writeTbl3 v0 v1) := by
  unfold writeTbl3
  refine Touches.ite ?_ ?_
  · lift_lets
    intro x0
    clear_value x0
    refine Touches.ite ?_ ?_
    · refine dropped_touches h_regs h_latches ?_
      assumption
    · refine storeIf_touches h_regs ?_
      assumption
  · refine storeReg_touches h_regs ?_
    assumption

theorem writeTblq_touches {ps : Piece → Prop} {s0 : State} (h_regs : ps .regs) (h_out : ps .out) (h_host : ps .host) (h_latches : ps .latches) (h_tbl : ps .tbl) {v0 : ℕ} {v1 : RegWrite} {v2 : State} (h0 : Touches ps s0 v2) :
    Touches ps s0 (writeTblq v0 v1 v2) := by
  unfold writeTblq
  split
  · refine writeCqCfg_touches h_regs h_out h_host h_latches h_tbl ?_
    assumption
  · assumption
  · refine storeReg_touches h_regs ?_
    assumption

theorem writeSlii_touches {ps : Piece → Prop} {s0 : State} (h_regs : ps .regs) (h_out : ps .out) (h_latches : ps .latches) (h_palm : ps .palm) (h_vsr : ps .vsr) {v0 : ℕ} {v1 : RegWrite} {v2 : State} (h0 : Touches ps s0 v2) :
    Touches ps s0 (writeSlii v0 v1 v2) := by
  unfold writeSlii
  lift_lets
  intro x0
  clear_value x0
  split
  · refine showPg_touches h_regs ?_
    assumption
  · refine writePgCfg_touches h_regs h_out h_latches h_palm h_vsr ?_
    assumption
  · refine writePgCfg_touches h_regs h_out h_latches h_palm h_vsr ?_
    assumption
  · refine storeReg_touches h_regs ?_
    assumption

theorem writeSlie_touches {ps : Piece → Prop} {s0 : State} (h_regs : ps .regs) (h_out : ps .out) (h_host : ps .host) (h_latches : ps .latches) (h_palm : ps .palm) (h_mtn : ps .mtn) {v0 : ℕ} {v1 : RegWrite} {v2 : State} (h0 : Touches ps s0 v2) :
    Touches ps s0 (writeSlie v0 v1 v2) := by
  unfold writeSlie
  lift_lets
  intro x0
  clear_value x0
  split
  · refine showQueue_touches h_regs ?_
    assumption
  · refine writeQcfg_touches h_regs h_out h_host h_latches h_palm h_mtn ?_
    assumption
  · refine writeFwdCfg_touches h_regs h_latches h_palm ?_
    assumption
  · refine storeReg_touches h_regs ?_
    assumption

theorem writeHr_touches {ps : Piece → Prop} {s0 : State} (h_regs : ps .regs) (h_out : ps .out) (h_host : ps .host) (h_latches : ps .latches) (h_mtn : ps .mtn) {v0 : ℕ} {v1 : RegWrite} {v2 : State} (h0 : Touches ps s0 v2) :
    Touches ps s0 (writeHr v0 v1 v2) := by
  unfold writeHr
  lift_lets
  intro x0
  clear_value x0
  intro x1
  clear_value x1
  intro x2
  clear_value x2
  intro x3
  clear_value x3
  intro x4
  have hx5 : Touches ps s0 x4 := by
    unfold x4
    refine storeIf_touches h_regs ?_
    assumption
  clear_value x4
  split
  · refine recomputeDdr_touches h_regs h_out h_host h_mtn ?_
    refine Touches.ite ?_ ?_
    · refine dropped_touches h_regs h_latches ?_
      assumption
    · assumption
  · refine Touches.ite ?_ ?_
    · assumption
    · refine storeReg_touches h_regs ?_
      assumption
  · refine Touches.ite ?_ ?_
    · assumption
    · refine storeReg_touches h_regs ?_
      assumption
  · refine storeReg_touches h_regs ?_
    assumption

theorem writeMrg_touches {ps : Piece → Prop} {s0 : State} (h_regs : ps .regs) (h_out : ps .out) (h_host : ps .host) (h_latches : ps .latches) (h_timing : ps .timing) {v0 : ℕ} {v1 : RegWrite} {v2 : State} (h0 : Touches ps s0 v2) :
    Touches ps s0 (writeMrg v0 v1 v2) := by
  unfold writeMrg
  lift_lets
  intro x0
  clear_value x0
  intro x1
  clear_value x1
  intro x2
  clear_value x2
  intro x3
  clear_value x3
  intro x4
  clear_value x4
  intro x5
  have hx6 : Touches ps s0 x5 := by
    unfold x5
    refine storeIf_touches h_regs ?_
    assumption
  clear_value x5
  intro x7
  have hx8 : Touches ps s0 x7 := by
    unfold x7
    refine Touches.ite ?_ ?_
    · refine dropped_touches h_regs h_latches ?_
      assumption
    · assumption
  clear_value x7
  intro x9
  have hx10 : Touches ps s0 x9 := by
    unfold x9
    refine Touches.ite ?_ ?_
    · assumption
    · refine Touches.ite ?_ ?_
      · refine mergeEnable_touches h_regs h_out h_host h_latches h_timing ?_
        assumption
      · refine mergeDisable_touches h_regs h_timing ?_
        assumption
  clear_value x9
  refine Touches.ite ?_ ?_
  · refine refreshPaces_touches h_regs ?_
    assumption
  · refine Touches.ite ?_ ?_
    · refine Touches.ite ?_ ?_
      · refine dropped_touches h_regs h_latches ?_
        assumption
      · refine writeMember_touches h_regs ?_
        assumption
    · refine Touches.ite ?_ ?_
      · refine Touches.ite ?_ ?_
        · refine dropped_touches h_regs h_latches ?_
          assumption
        · refine storeReg_touches h_regs ?_
          assumption
      · refine storeReg_touches h_regs ?_
        assumption

theorem writeRel_touches {ps : Piece → Prop} {s0 : State} (h_regs : ps .regs) (h_out : ps .out) (h_host : ps .host) (h_latches : ps .latches) (h_palm : ps .palm) (h_timing : ps .timing) (h_vsr : ps .vsr) (h_mtn : ps .mtn) (h_pwc : ps .pwc) {v0 : ℕ} {v1 : RegWrite} {v2 : State} (h0 : Touches ps s0 v2) :
    Touches ps s0 (writeRel v0 v1 v2) := by
  unfold writeRel
  lift_lets
  intro x0
  clear_value x0
  intro x1
  clear_value x1
  intro x2
  clear_value x2
  intro x3
  clear_value x3
  intro x4
  have hx5 : Touches ps s0 x4 := by
    unfold x4
    refine Touches.ite ?_ ?_
    · refine Touches.ite ?_ ?_
      · refine dropped_touches h_regs h_latches ?_
        assumption
      · assumption
    · refine storeIf_touches h_regs ?_
      assumption
  clear_value x4
  refine Touches.ite ?_ ?_
  · refine Touches.ite ?_ ?_
    · assumption
    · refine Touches.ite ?_ ?_
      · refine relEnable_touches h_regs h_out h_host h_latches h_timing h_mtn ?_
        assumption
      · refine relDisable_touches h_regs h_out h_host h_latches h_palm h_timing h_vsr h_mtn h_pwc ?_
        assumption
  · refine Touches.ite ?_ ?_
    · refine stageHalf_touches h_host ?_
      assumption
    · refine Touches.ite ?_ ?_
      · refine Touches.ite ?_ ?_
        · refine dropped_touches h_regs h_latches ?_
          assumption
        · refine storeReg_touches h_regs ?_
          assumption
      · refine storeReg_touches h_regs ?_
        assumption

theorem writeSes0_touches {ps : Piece → Prop} {s0 : State} (h_regs : ps .regs) (h_free : ps .free) (h_out : ps .out) (h_ddr : ps .ddr) (h_poison : ps .poison) (h_host : ps .host) (h_latches : ps .latches) (h_tbl : ps .tbl) (h_palm : ps .palm) (h_ses : ps .ses) (h_ldg : ps .ldg) (h_vsr : ps .vsr) (h_mtn : ps .mtn) {v0 : RegWrite} {v1 : State} (h0 : Touches ps s0 v1) :
    Touches ps s0 (writeSes0 v0 v1) := by
  unfold writeSes0
  split
  · lift_lets
    intro x0
    have hx1 : Touches ps s0 x0 := by
      unfold x0
      refine storeReg_touches h_regs ?_
      assumption
    clear_value x0
    intro x2
    have hx3 : Touches ps s0 x2 := by
      unfold x2
      refine Touches.ite ?_ ?_
      · refine State.wr_touches h_regs ?_
        assumption
      · assumption
    clear_value x2
    refine Touches.ite ?_ ?_
    · refine State.wr_touches h_regs ?_
      assumption
    · assumption
  · lift_lets
    intro x4
    have hx5 : Touches ps s0 x4 := by
      unfold x4
      refine storeReg_touches h_regs ?_
      assumption
    clear_value x4
    refine showCtx_touches h_regs ?_
    assumption
  · refine writeCtxCmd_touches h_regs h_free h_out h_ddr h_poison h_host h_latches h_tbl h_palm h_ses h_ldg h_vsr h_mtn ?_
    assumption
  · refine writeCtxReg_touches h_regs h_latches h_ses ?_
    assumption
  · refine writeCtxReg_touches h_regs h_latches h_ses ?_
    assumption
  · refine writeCtxReg_touches h_regs h_latches h_ses ?_
    assumption
  · refine writeCtxReg_touches h_regs h_latches h_ses ?_
    assumption
  · refine Touches.ite ?_ ?_
    · refine clearCmdRefused_touches h_regs h_ses ?_
      assumption
    · assumption
  · lift_lets
    intro x6
    have hx7 : Touches ps s0 x6 := by
      unfold x6
      refine storeReg_touches h_regs ?_
      assumption
    clear_value x6
    refine showRequester_touches h_regs ?_
    assumption
  · refine writeReqCfg_touches h_regs h_ses ?_
    assumption
  · refine Touches.ite ?_ ?_
    · assumption
    · refine clearRefused_touches h_regs h_ses ?_
      assumption
  · refine storeReg_touches h_regs ?_
    assumption

theorem writeSesq_touches {ps : Piece → Prop} {s0 : State} (h_regs : ps .regs) (h_latches : ps .latches) {v0 : ℕ} {v1 : RegWrite} {v2 : State} (h0 : Touches ps s0 v2) :
    Touches ps s0 (writeSesq v0 v1 v2) := by
  unfold writeSesq
  refine Touches.ite ?_ ?_
  · refine writeEqCfg_touches h_regs h_latches ?_
    assumption
  · refine storeReg_touches h_regs ?_
    assumption

theorem writeLdg1_touches {ps : Piece → Prop} {s0 : State} (h_regs : ps .regs) (h_ldg : ps .ldg) {v0 : RegWrite} {v1 : State} (h0 : Touches ps s0 v1) :
    Touches ps s0 (writeLdg1 v0 v1) := by
  unfold writeLdg1
  refine Touches.ite ?_ ?_
  · refine Touches.ite ?_ ?_
    · refine commitSelection_touches h_regs h_ldg ?_
      assumption
    · assumption
  · refine storeReg_touches h_regs ?_
    assumption

theorem writeLdgs_touches {ps : Piece → Prop} {s0 : State} (h_regs : ps .regs) (h_out : ps .out) (h_host : ps .host) (h_latches : ps .latches) (h_ldg : ps .ldg) (h_vsr : ps .vsr) {v0 : ℕ} {v1 : RegWrite} {v2 : State} (h0 : Touches ps s0 v2) :
    Touches ps s0 (writeLdgs v0 v1 v2) := by
  unfold writeLdgs
  split
  · refine streamEnable_touches h_regs h_out h_host h_latches h_ldg h_vsr ?_
    refine storeIf_touches h_regs ?_
    assumption
  · refine Touches.ite ?_ ?_
    · refine dropped_touches h_regs h_latches ?_
      assumption
    · refine storeReg_touches h_regs ?_
      assumption
  · refine Touches.ite ?_ ?_
    · refine dropped_touches h_regs h_latches ?_
      assumption
    · refine storeReg_touches h_regs ?_
      assumption
  · refine storeReg_touches h_regs ?_
    assumption

theorem writeVsr0_touches {ps : Piece → Prop} {s0 : State} (h_regs : ps .regs) (h_out : ps .out) (h_host : ps .host) (h_vsr : ps .vsr) (h_mtn : ps .mtn) {v0 : RegWrite} {v1 : State} (h0 : Touches ps s0 v1) :
    Touches ps s0 (writeVsr0 v0 v1) := by
  unfold writeVsr0
  split
  · refine stageHalf_touches h_host ?_
    assumption
  · refine Touches.ite ?_ ?_
    · refine snapCancel_touches h_regs h_out h_host h_vsr h_mtn ?_
      assumption
    · assumption
  · refine storeReg_touches h_regs ?_
    assumption

theorem writeVsre_touches {ps : Piece → Prop} {s0 : State} (h_regs : ps .regs) (h_latches : ps .latches) (h_vsr : ps .vsr) {v0 : ℕ} {v1 : RegWrite} {v2 : State} (h0 : Touches ps s0 v2) :
    Touches ps s0 (writeVsre v0 v1 v2) := by
  unfold writeVsre
  refine Touches.ite ?_ ?_
  · refine writeEvsel_touches h_regs h_latches h_vsr ?_
    assumption
  · assumption

theorem writeTrc_touches {ps : Piece → Prop} {s0 : State} (h_regs : ps .regs) (h_free : ps .free) (h_out : ps .out) (h_host : ps .host) (h_palm : ps .palm) (h_mtn : ps .mtn) {v0 : ℕ} {v1 : RegWrite} {v2 : State} (h0 : Touches ps s0 v2) :
    Touches ps s0 (writeTrc v0 v1 v2) := by
  unfold writeTrc
  split
  · lift_lets
    intro x0
    clear_value x0
    refine Touches.ite ?_ ?_
    · refine traceEnable_touches h_regs h_free h_out h_host h_palm h_mtn ?_
      assumption
    · refine recomputeDdr_touches h_regs h_out h_host h_mtn ?_
      refine storeReg_touches h_regs ?_
      assumption
  · refine Touches.ite ?_ ?_
    · assumption
    · refine storeReg_touches h_regs ?_
      assumption
  · refine Touches.ite ?_ ?_
    · assumption
    · refine storeReg_touches h_regs ?_
      assumption
  · refine storeReg_touches h_regs ?_
    assumption

theorem writeMtn1_touches {ps : Piece → Prop} {s0 : State} (h_regs : ps .regs) (h_out : ps .out) (h_host : ps .host) (h_latches : ps .latches) (h_mtn : ps .mtn) {v0 : RegWrite} {v1 : State} (h0 : Touches ps s0 v1) :
    Touches ps s0 (writeMtn1 v0 v1) := by
  unfold writeMtn1
  split
  · refine selectDom_touches h_regs h_latches ?_
    assumption
  · refine writeDomCfg_touches h_regs h_out h_host h_latches h_mtn ?_
    assumption
  · refine Touches.ite ?_ ?_
    · refine retryWake_touches h_regs h_out h_host h_mtn ?_
      assumption
    · assumption
  · assumption

theorem writePwc2_touches {ps : Piece → Prop} {s0 : State} (h_regs : ps .regs) {v0 : RegWrite} {v1 : State} (h0 : Touches ps s0 v1) :
    Touches ps s0 (writePwc2 v0 v1) := by
  unfold writePwc2
  split
  · refine clampField_touches h_regs ?_
    refine storeReg_touches h_regs ?_
    assumption
  · refine clampField_touches h_regs ?_
    refine storeReg_touches h_regs ?_
    assumption
  · refine storeReg_touches h_regs ?_
    assumption

theorem writeGnt3_touches {ps : Piece → Prop} {s0 : State} (h_regs : ps .regs) {v0 : RegWrite} {v1 : State} (h0 : Touches ps s0 v1) :
    Touches ps s0 (writeGnt3 v0 v1) := by
  unfold writeGnt3
  refine Touches.ite ?_ ?_
  · refine showWear_touches h_regs ?_
    assumption
  · refine storeReg_touches h_regs ?_
    assumption

theorem writeCrn1_touches {ps : Piece → Prop} {s0 : State} (h_regs : ps .regs) (h_out : ps .out) (h_host : ps .host) (h_latches : ps .latches) (h_mtn : ps .mtn) (h_crown : ps .crown) {v0 : RegWrite} {v1 : State} (h0 : Touches ps s0 v1) :
    Touches ps s0 (writeCrn1 v0 v1) := by
  unfold writeCrn1
  refine Touches.ite ?_ ?_
  · refine Touches.ite ?_ ?_
    · refine mailboxGo_touches h_regs h_out h_host h_latches h_mtn h_crown ?_
      assumption
    · assumption
  · refine storeReg_touches h_regs ?_
    assumption

theorem writeCrn2_touches {ps : Piece → Prop} {s0 : State} (h_regs : ps .regs) (h_out : ps .out) (h_host : ps .host) (h_latches : ps .latches) (h_crown : ps .crown) {v0 : RegWrite} {v1 : State} (h0 : Touches ps s0 v1) :
    Touches ps s0 (writeCrn2 v0 v1) := by
  unfold writeCrn2
  split
  · refine writeCrCfg_touches h_regs h_out h_host h_latches h_crown ?_
    assumption
  · assumption
  · refine storeReg_touches h_regs ?_
    assumption

theorem writeBody_touches {ps : Piece → Prop} {s0 : State} (h_regs : ps .regs) (h_time : ps .time) (h_free : ps .free) (h_out : ps .out) (h_ddr : ps .ddr) (h_poison : ps .poison) (h_host : ps .host) (h_latches : ps .latches) (h_hat : ps .hat) (h_ticks : ps .ticks) (h_stamps : ps .stamps) (h_brim : ps .brim) (h_tbl : ps .tbl) (h_palm : ps .palm) (h_timing : ps .timing) (h_ses : ps .ses) (h_ldg : ps .ldg) (h_vsr : ps .vsr) (h_mtn : ps .mtn) (h_pwc : ps .pwc) (h_gnt : ps .gnt) (h_crown : ps .crown) {v0 : RegWrite} {v1 : State} (h0 : Touches ps s0 v1) :
    Touches ps s0 (writeBody v0 v1) := by
  unfold writeBody
  refine Touches.ite ?_ ?_
  · refine commitPair_touches h_regs h_time h_free h_out h_host h_latches h_hat h_ticks h_timing h_ldg h_vsr h_mtn h_pwc ?_
    assumption
  · split
    · refine writeHbd0_touches h_regs h_free h_out h_host h_latches h_hat ?_
      assumption
    · refine Touches.ite ?_ ?_
      · refine writeRefCfg_touches h_regs h_free h_out h_host h_latches h_hat ?_
        assumption
      · refine storeReg_touches h_regs ?_
        assumption
    · refine writeHbd2_touches h_regs h_out h_host h_latches h_hat ?_
      assumption
    · lift_lets
      intro x0
      have hx1 : Touches ps s0 x0 := by
        unfold x0
        refine storeReg_touches h_regs ?_
        assumption
      clear_value x0
      refine Touches.ite ?_ ?_
      · refine clearHist_touches h_regs h_hat ?_
        assumption
      · assumption
    · refine writeHbd4_touches h_regs h_free h_out h_host h_latches h_hat ?_
      assumption
    · refine writeHbd5_touches h_regs h_free h_out h_host h_latches h_hat ?_
      assumption
    · refine writeHbd8_touches h_regs h_latches h_stamps ?_
      assumption
    · refine writeHbd10_touches h_regs h_stamps ?_
      assumption
    · refine writeLane_touches h_regs h_out h_host h_latches h_brim h_mtn ?_
      assumption
    · refine writePort_touches h_regs h_out h_ddr h_poison h_host h_latches h_stamps h_brim h_palm h_ldg h_vsr h_mtn ?_
      assumption
    · refine Touches.ite ?_ ?_
      · refine writeOct_touches h_regs h_out h_host h_latches h_brim h_mtn ?_
        assumption
      · refine storeReg_touches h_regs ?_
        assumption
    · refine writeUcs_touches h_regs h_free h_out h_host h_latches ?_
      assumption
    · refine writeTbl1_touches h_regs ?_
      assumption
    · refine showCla_touches h_regs ?_
      refine storeReg_touches h_regs ?_
      assumption
    · refine writeTbl3_touches h_regs h_latches ?_
      assumption
    · refine writeTblq_touches h_regs h_out h_host h_latches h_tbl ?_
      assumption
    · refine writeBufx_touches h_regs h_out h_host h_latches h_palm h_mtn ?_
      assumption
    · refine writeSlii_touches h_regs h_out h_latches h_palm h_vsr ?_
      assumption
    · refine writeSlie_touches h_regs h_out h_host h_latches h_palm h_mtn ?_
      assumption
    · refine writeHr_touches h_regs h_out h_host h_latches h_mtn ?_
      assumption
    · refine writeMrg_touches h_regs h_out h_host h_latches h_timing ?_
      assumption
    · refine writeRel_touches h_regs h_out h_host h_latches h_palm h_timing h_vsr h_mtn h_pwc ?_
      assumption
    · refine writeSes0_touches h_regs h_free h_out h_ddr h_poison h_host h_latches h_tbl h_palm h_ses h_ldg h_vsr h_mtn ?_
      assumption
    · refine writeSesq_touches h_regs h_latches ?_
      assumption
    · refine writeLdg0_touches h_regs h_out h_host h_latches h_ldg h_vsr h_mtn ?_
      assumption
    · refine writeLdg1_touches h_regs h_ldg ?_
      assumption
    · refine writeLdg2_touches h_regs h_latches ?_
      assumption
    · refine writeLdgs_touches h_regs h_out h_host h_latches h_ldg h_vsr ?_
      assumption
    · refine writeVsr0_touches h_regs h_out h_host h_vsr h_mtn ?_
      assumption
    · refine refreshBw_touches h_vsr ?_
      refine storeReg_touches h_regs ?_
      assumption
    · refine writeVsre_touches h_regs h_latches h_vsr ?_
      assumption
    · refine writeTrc_touches h_regs h_free h_out h_host h_palm h_mtn ?_
      assumption
    · refine writeMtn1_touches h_regs h_out h_host h_latches h_mtn ?_
      assumption
    · refine writePwc0_touches h_regs h_pwc ?_
      assumption
    · refine Touches.ite ?_ ?_
      · refine showQEnergy_touches h_regs ?_
        assumption
      · assumption
    · refine writePwc2_touches h_regs ?_
      assumption
    · refine writeGnt0_touches h_regs h_out h_host h_gnt ?_
      assumption
    · refine writeGnt3_touches h_regs ?_
      assumption
    · refine writeCrn1_touches h_regs h_out h_host h_latches h_mtn h_crown ?_
      assumption
    · refine writeCrn2_touches h_regs h_out h_host h_latches h_crown ?_
      assumption
    · refine writeDdr0_touches h_regs h_out h_host h_latches ?_
      assumption
    · refine storeReg_touches h_regs ?_
      assumption
    · refine storeReg_touches h_regs ?_
      assumption
    · refine storeReg_touches h_regs ?_
      assumption
    · refine storeReg_touches h_regs ?_
      assumption
    · refine storeReg_touches h_regs ?_
      assumption
    · refine storeReg_touches h_regs ?_
      assumption
    · refine storeReg_touches h_regs ?_
      assumption
    · refine storeReg_touches h_regs ?_
      assumption
    · refine storeReg_touches h_regs ?_
      assumption
    · refine storeReg_touches h_regs ?_
      assumption
    · refine storeReg_touches h_regs ?_
      assumption
    · refine storeReg_touches h_regs ?_
      assumption
    · refine storeReg_touches h_regs ?_
      assumption
    · refine storeReg_touches h_regs ?_
      assumption
    · refine storeReg_touches h_regs ?_
      assumption
    · refine storeReg_touches h_regs ?_
      assumption
    · refine storeReg_touches h_regs ?_
      assumption
    · refine storeReg_touches h_regs ?_
      assumption
    · refine storeReg_touches h_regs ?_
      assumption
    · refine storeReg_touches h_regs ?_
      assumption
    · refine storeReg_touches h_regs ?_
      assumption
    · refine storeReg_touches h_regs ?_
      assumption
    · refine storeReg_touches h_regs ?_
      assumption

theorem hostWrite_touches {ps : Piece → Prop} {s0 : State} (h_regs : ps .regs) (h_time : ps .time) (h_free : ps .free) (h_out : ps .out) (h_ddr : ps .ddr) (h_poison : ps .poison) (h_host : ps .host) (h_latches : ps .latches) (h_hat : ps .hat) (h_ticks : ps .ticks) (h_stamps : ps .stamps) (h_ucs : ps .ucs) (h_brim : ps .brim) (h_tbl : ps .tbl) (h_palm : ps .palm) (h_timing : ps .timing) (h_ses : ps .ses) (h_ldg : ps .ldg) (h_vsr : ps .vsr) (h_mtn : ps .mtn) (h_pwc : ps .pwc) (h_gnt : ps .gnt) (h_crown : ps .crown) (h_boot : ps .boot) {v0 : RegWrite} {v1 : State} (h0 : Touches ps s0 v1) :
    Touches ps s0 (hostWrite v0 v1) := by
  unfold hostWrite
  refine Touches.ite ?_ ?_
  · refine State.headerWrite_touches h_regs h_out h_host h_latches ?_ ?_
    · assumption
    · intro y0
      intro k1
      refine writeHeader_touches h_regs h_free h_out h_ddr h_poison h_host h_latches h_hat h_stamps h_ucs h_brim h_tbl h_palm h_timing h_ses h_ldg h_vsr h_mtn h_pwc h_gnt h_crown h_boot ?_
      assumption
  · refine Touches.ite ?_ ?_
    · refine recordBad_touches h_regs h_out h_host h_latches ?_
      assumption
    · refine State.written_touches h_regs h_latches h_mtn ?_ ?_
      · assumption
      · intro y2
        intro k3
        refine Touches.ite ?_ ?_
        · assumption
        · refine writeBody_touches h_regs h_time h_free h_out h_ddr h_poison h_host h_latches h_hat h_ticks h_stamps h_brim h_tbl h_palm h_timing h_ses h_ldg h_vsr h_mtn h_pwc h_gnt h_crown ?_
          assumption

theorem storeHeld_touches {ps : Piece → Prop} {s0 : State} (h_regs : ps .regs) (h_latches : ps .latches) {v0 : Bool} {v1 : List Fld} {v2 : RegWrite} {v3 : State} (h0 : Touches ps s0 v3) :
    Touches ps s0 (storeHeld v0 v1 v2 v3) := by
  unfold storeHeld
  refine Touches.ite ?_ ?_
  · refine storeReg_touches h_regs ?_
    assumption
  · lift_lets
    intro x0
    clear_value x0
    intro x1
    have hx2 : Touches ps s0 x1 := by
      unfold x1
      refine storeIf_touches h_regs ?_
      assumption
    clear_value x1
    refine Touches.ite ?_ ?_
    · refine dropped_touches h_regs h_latches ?_
      assumption
    · assumption

end Sys2Proof.Machine
end

