-- ==== Sys2Proof/Laws/TouchHostAccess.lean ====
section
/-! SUPPORT. What the operations of Machine/HostAccess.lean may touch: one lemma for each. -/

set_option maxRecDepth 10000

namespace Sys2Proof.Machine

theorem latchHalf_touches {ps : Piece → Prop} {s0 : State} (h_host : ps .host) {v0 : ℕ} {v1 : ℕ} {v2 : State} (h0 : Touches ps s0 v2) :
    Touches ps s0 (latchHalf v0 v1 v2) := by
  unfold latchHalf
  lift_lets
  intro x0
  clear_value x0
  refine (Touches.upd_host h_host ?_)
  assumption

theorem readReg_touches {ps : Piece → Prop} {s0 : State} (h_host : ps .host) (h_vsr : ps .vsr) (h_mtn : ps .mtn) {v0 : Bool} {v1 : ℕ} {v2 : ℕ} {v3 : State} (h0 : Touches ps s0 v3) :
    Touches ps s0 (readReg v0 v1 v2 v3).2 := by
  unfold readReg
  lift_lets
  intro x0
  have hx1 : Touches ps s0 x0 := by
    unfold x0
    refine State.wakeClock_touches h_mtn ?_
    assumption
  clear_value x0
  intro x2
  clear_value x2
  intro x3
  clear_value x3
  intro x4
  clear_value x4
  split
  · assumption
  · split
    · assumption
    · split
      · assumption
      · split
        · assumption
        · split
          · dsimp only
            refine latchHalf_touches h_host ?_
            assumption
          · split
            · assumption
            · split
              · split
                · dsimp only
                  refine (Touches.upd_vsr h_vsr ?_)
                  assumption
                · split
                  · assumption
                  · assumption
              · assumption

theorem hostRead_touches {ps : Piece → Prop} {s0 : State} (h_free : ps .free) (h_out : ps .out) (h_host : ps .host) (h_vsr : ps .vsr) (h_mtn : ps .mtn) {v0 : Bar} {v1 : ℕ} {v2 : ℕ} {v3 : Bool} {v4 : Bool} {v5 : State} (h0 : Touches ps s0 v5) :
    Touches ps s0 (hostRead v0 v1 v2 v3 v4 v5) := by
  unfold hostRead
  split
  · refine State.send_touches h_out ?_
    refine (Touches.upd_free h_free ?_)
    assumption
  · lift_lets
    intro x0
    clear_value x0
    intro x1
    clear_value x1
    intro x2
    intro x3
    have hx4 : Touches ps s0 x3 := by
      unfold x3
      unfold x2
      refine readReg_touches h_host h_vsr h_mtn ?_
      assumption
    clear_value x3
    refine Touches.ite ?_ ?_
    · refine State.send_touches h_out ?_
      assumption
    · refine State.send_touches h_out ?_
      refine (Touches.upd_free h_free ?_)
      assumption

theorem execBar2Write_touches {ps : Piece → Prop} {s0 : State} (h_regs : ps .regs) (h_out : ps .out) (h_host : ps .host) (h_latches : ps .latches) {v0 : BitVec 24} {v1 : State} (h0 : Touches ps s0 v1) :
    Moves ps s0 (execBar2Write v0 v1) := by
  unfold execBar2Write
  refine Moves.next ?_
  refine recordBad_touches h_regs h_out h_host h_latches ?_
  assumption

theorem execRegisterWrite_touches {ps : Piece → Prop} {s0 : State} (h_regs : ps .regs) (h_time : ps .time) (h_free : ps .free) (h_out : ps .out) (h_ddr : ps .ddr) (h_poison : ps .poison) (h_host : ps .host) (h_latches : ps .latches) (h_hat : ps .hat) (h_ticks : ps .ticks) (h_stamps : ps .stamps) (h_ucs : ps .ucs) (h_brim : ps .brim) (h_tbl : ps .tbl) (h_palm : ps .palm) (h_timing : ps .timing) (h_ses : ps .ses) (h_ldg : ps .ldg) (h_vsr : ps .vsr) (h_mtn : ps .mtn) (h_pwc : ps .pwc) (h_gnt : ps .gnt) (h_crown : ps .crown) (h_boot : ps .boot) {v0 : BitVec 14} {v1 : BitVec 12} {v2 : Word} {v3 : Bool} {v4 : Bool} {v5 : State} (h0 : Touches ps s0 v5) :
    Moves ps s0 (execRegisterWrite v0 v1 v2 v3 v4 v5) := by
  unfold execRegisterWrite
  refine Moves.next ?_
  refine State.given_touches ?_ ?_
  · assumption
  · intro y0
    intro k1
    refine hostWrite_touches h_regs h_time h_free h_out h_ddr h_poison h_host h_latches h_hat h_ticks h_stamps h_ucs h_brim h_tbl h_palm h_timing h_ses h_ldg h_vsr h_mtn h_pwc h_gnt h_crown h_boot ?_
    assumption

theorem execT80NsRead_touches {ps : Piece → Prop} {s0 : State} (h_free : ps .free) (h_out : ps .out) (h_host : ps .host) (h_vsr : ps .vsr) (h_mtn : ps .mtn) {v0 : ReadOf} {v1 : BitVec 12} {v2 : State} (h0 : Touches ps s0 v2) :
    Moves ps s0 (execT80NsRead v0 v1 v2) := by
  unfold execT80NsRead
  refine Moves.next ?_
  refine State.given_touches ?_ ?_
  · assumption
  · intro y0
    intro k1
    refine hostRead_touches h_free h_out h_host h_vsr h_mtn ?_
    assumption

theorem splitAccess_touches {ps : Piece → Prop} {s0 : State} (h_regs : ps .regs) (h_time : ps .time) (h_free : ps .free) (h_out : ps .out) (h_ddr : ps .ddr) (h_poison : ps .poison) (h_host : ps .host) (h_latches : ps .latches) (h_hat : ps .hat) (h_ticks : ps .ticks) (h_stamps : ps .stamps) (h_ucs : ps .ucs) (h_brim : ps .brim) (h_tbl : ps .tbl) (h_palm : ps .palm) (h_timing : ps .timing) (h_ses : ps .ses) (h_ldg : ps .ldg) (h_vsr : ps .vsr) (h_mtn : ps .mtn) (h_pwc : ps .pwc) (h_gnt : ps .gnt) (h_crown : ps .crown) (h_boot : ps .boot) {v0 : Bool} {v1 : Bool} {v2 : ℕ} {v3 : List Byte} {v4 : List ℕ × State} {v5 : ℕ} (h0 : Touches ps s0 v4.2) :
    Touches ps s0 (splitAccess v0 v1 v2 v3 v4 v5).2 := by
  unfold splitAccess
  lift_lets
  intro x0
  clear_value x0
  intro x1
  have hx2 : Touches ps s0 x1 := by
    unfold x1
    assumption
  clear_value x1
  intro x3
  intro x4
  have hx5 : Touches ps s0 x4 := by
    unfold x4
    unfold x3
    refine readReg_touches h_host h_vsr h_mtn ?_
    assumption
  clear_value x4
  split
  · dsimp only
    refine Touches.ite ?_ ?_
    · refine recordBad_touches h_regs h_out h_host h_latches ?_
      assumption
    · refine hostWrite_touches h_regs h_time h_free h_out h_ddr h_poison h_host h_latches h_hat h_ticks h_stamps h_ucs h_brim h_tbl h_palm h_timing h_ses h_ldg h_vsr h_mtn h_pwc h_gnt h_crown h_boot ?_
      assumption
  · dsimp only
    refine (Touches.upd_free h_free ?_)
    assumption

theorem badSize_touches {ps : Piece → Prop} {s0 : State} (h_regs : ps .regs) (h_time : ps .time) (h_free : ps .free) (h_out : ps .out) (h_ddr : ps .ddr) (h_poison : ps .poison) (h_host : ps .host) (h_latches : ps .latches) (h_hat : ps .hat) (h_ticks : ps .ticks) (h_stamps : ps .stamps) (h_ucs : ps .ucs) (h_brim : ps .brim) (h_tbl : ps .tbl) (h_palm : ps .palm) (h_timing : ps .timing) (h_ses : ps .ses) (h_ldg : ps .ldg) (h_vsr : ps .vsr) (h_mtn : ps .mtn) (h_pwc : ps .pwc) (h_gnt : ps .gnt) (h_crown : ps .crown) (h_boot : ps .boot) {v0 : Bool} {v1 : Bool} {v2 : ℕ} {v3 : ℕ} {v4 : List Byte} {v5 : State} (h0 : Touches ps s0 v5) :
    Touches ps s0 (badSize v0 v1 v2 v3 v4 v5) := by
  unfold badSize
  refine Touches.ite ?_ ?_
  · lift_lets
    intro x0
    refine Touches.ite ?_ ?_
    · unfold x0
      refine Touches.foldl_snd (fun _ _ _ => ?_) ?_
      · refine splitAccess_touches h_regs h_time h_free h_out h_ddr h_poison h_host h_latches h_hat h_ticks h_stamps h_ucs h_brim h_tbl h_palm h_timing h_ses h_ldg h_vsr h_mtn h_pwc h_gnt h_crown h_boot ?_
        assumption
      · assumption
    · refine State.send_touches h_out ?_
      unfold x0
      refine Touches.foldl_snd (fun _ _ _ => ?_) ?_
      · refine splitAccess_touches h_regs h_time h_free h_out h_ddr h_poison h_host h_latches h_hat h_ticks h_stamps h_ucs h_brim h_tbl h_palm h_timing h_ses h_ldg h_vsr h_mtn h_pwc h_gnt h_crown h_boot ?_
        assumption
      · assumption
  · refine Touches.ite ?_ ?_
    · refine recordBad_touches h_regs h_out h_host h_latches ?_
      assumption
    · refine State.send_touches h_out ?_
      assumption

theorem execBadSizeAccess_touches {ps : Piece → Prop} {s0 : State} (h_regs : ps .regs) (h_time : ps .time) (h_free : ps .free) (h_out : ps .out) (h_ddr : ps .ddr) (h_poison : ps .poison) (h_host : ps .host) (h_latches : ps .latches) (h_hat : ps .hat) (h_ticks : ps .ticks) (h_stamps : ps .stamps) (h_ucs : ps .ucs) (h_brim : ps .brim) (h_tbl : ps .tbl) (h_palm : ps .palm) (h_timing : ps .timing) (h_ses : ps .ses) (h_ldg : ps .ldg) (h_vsr : ps .vsr) (h_mtn : ps .mtn) (h_pwc : ps .pwc) (h_gnt : ps .gnt) (h_crown : ps .crown) (h_boot : ps .boot) {v0 : Bool} {v1 : Bool} {v2 : BitVec 26} {v3 : BitVec 13} {v4 : List Byte} {v5 : State} (h0 : Touches ps s0 v5) :
    Moves ps s0 (execBadSizeAccess v0 v1 v2 v3 v4 v5) := by
  unfold execBadSizeAccess
  lift_lets
  intro x0
  clear_value x0
  intro x1
  clear_value x1
  refine Moves.next ?_
  refine State.given_touches ?_ ?_
  · assumption
  · intro y2
    intro k3
    refine badSize_touches h_regs h_time h_free h_out h_ddr h_poison h_host h_latches h_hat h_ticks h_stamps h_ucs h_brim h_tbl h_palm h_timing h_ses h_ldg h_vsr h_mtn h_pwc h_gnt h_crown h_boot ?_
    assumption

theorem execT80PairCommit_touches {ps : Piece → Prop} {s0 : State} (h_regs : ps .regs) (h_time : ps .time) (h_free : ps .free) (h_out : ps .out) (h_ddr : ps .ddr) (h_poison : ps .poison) (h_host : ps .host) (h_latches : ps .latches) (h_hat : ps .hat) (h_ticks : ps .ticks) (h_stamps : ps .stamps) (h_ucs : ps .ucs) (h_brim : ps .brim) (h_tbl : ps .tbl) (h_palm : ps .palm) (h_timing : ps .timing) (h_ses : ps .ses) (h_ldg : ps .ldg) (h_vsr : ps .vsr) (h_mtn : ps .mtn) (h_pwc : ps .pwc) (h_gnt : ps .gnt) (h_crown : ps .crown) (h_boot : ps .boot) {v0 : BitVec 14} {v1 : BitVec 12} {v2 : Word} {v3 : State} (h0 : Touches ps s0 v3) :
    Moves ps s0 (execT80PairCommit v0 v1 v2 v3) := by
  unfold execT80PairCommit
  refine Moves.next ?_
  refine State.given_touches ?_ ?_
  · assumption
  · intro y0
    intro k1
    refine hostWrite_touches h_regs h_time h_free h_out h_ddr h_poison h_host h_latches h_hat h_ticks h_stamps h_ucs h_brim h_tbl h_palm h_timing h_ses h_ldg h_vsr h_mtn h_pwc h_gnt h_crown h_boot ?_
    assumption

theorem execAbsentPageAccess_touches {ps : Piece → Prop} {s0 : State} (h_regs : ps .regs) (h_out : ps .out) (h_host : ps .host) (h_latches : ps .latches) {v0 : BitVec 26} {v1 : Bool} {v2 : State} (h0 : Touches ps s0 v2) :
    Moves ps s0 (execAbsentPageAccess v0 v1 v2) := by
  unfold execAbsentPageAccess
  refine Moves.next ?_
  refine State.given_touches ?_ ?_
  · assumption
  · intro y0
    intro k1
    refine Touches.ite ?_ ?_
    · refine recordBad_touches h_regs h_out h_host h_latches ?_
      assumption
    · refine State.send_touches h_out ?_
      assumption

end Sys2Proof.Machine
end

