-- ==== Sys2Proof/Laws/TouchJtag.lean ====
section
/-! SUPPORT. What the operations of Machine/Jtag.lean may touch: one lemma for each. -/

set_option maxRecDepth 10000

namespace Sys2Proof.Machine

theorem loadTap_touches {ps : Piece → Prop} {s0 : State} (h_boot : ps .boot) {v0 : ℕ} {v1 : State} (h0 : Touches ps s0 v1) :
    Touches ps s0 (loadTap v0 v1) := by
  unfold loadTap
  refine State.given_touches ?_ ?_
  · assumption
  · intro y0
    intro k1
    lift_lets
    intro x2
    clear_value x2
    refine (Touches.upd_boot h_boot ?_)
    assumption

theorem execHighz_touches {ps : Piece → Prop} {s0 : State} (h_boot : ps .boot) {v0 : State} (h0 : Touches ps s0 v0) :
    Moves ps s0 (execHighz v0) := by
  unfold execHighz
  refine Moves.next ?_
  refine loadTap_touches h_boot ?_
  assumption

theorem execClamp_touches {ps : Piece → Prop} {s0 : State} (h_boot : ps .boot) {v0 : State} (h0 : Touches ps s0 v0) :
    Moves ps s0 (execClamp v0) := by
  unfold execClamp
  refine Moves.next ?_
  refine loadTap_touches h_boot ?_
  assumption

theorem execBypass_touches {ps : Piece → Prop} {s0 : State} (h_boot : ps .boot) {v0 : State} (h0 : Touches ps s0 v0) :
    Moves ps s0 (execBypass v0) := by
  unfold execBypass
  refine Moves.next ?_
  refine loadTap_touches h_boot ?_
  assumption

theorem execSamplePreload_touches {ps : Piece → Prop} {s0 : State} (h_boot : ps .boot) {v0 : State} (h0 : Touches ps s0 v0) :
    Moves ps s0 (execSamplePreload v0) := by
  unfold execSamplePreload
  refine Moves.next ?_
  refine loadTap_touches h_boot ?_
  assumption

theorem execIdcode_touches {ps : Piece → Prop} {s0 : State} (h_out : ps .out) (h_boot : ps .boot) {v0 : State} (h0 : Touches ps s0 v0) :
    Moves ps s0 (execIdcode v0) := by
  unfold execIdcode
  refine Moves.next ?_
  refine State.given_touches ?_ ?_
  · assumption
  · intro y0
    intro k1
    refine State.send_touches h_out ?_
    refine loadTap_touches h_boot ?_
    assumption

theorem execExtest_touches {ps : Piece → Prop} {s0 : State} (h_boot : ps .boot) {v0 : State} (h0 : Touches ps s0 v0) :
    Moves ps s0 (execExtest v0) := by
  unfold execExtest
  refine Moves.next ?_
  refine loadTap_touches h_boot ?_
  assumption

theorem execExtestPulse_touches {ps : Piece → Prop} {s0 : State} (h_boot : ps .boot) {v0 : State} (h0 : Touches ps s0 v0) :
    Moves ps s0 (execExtestPulse v0) := by
  unfold execExtestPulse
  refine Moves.next ?_
  refine loadTap_touches h_boot ?_
  assumption

theorem execExtestTrain_touches {ps : Piece → Prop} {s0 : State} (h_boot : ps .boot) {v0 : State} (h0 : Touches ps s0 v0) :
    Moves ps s0 (execExtestTrain v0) := by
  unfold execExtestTrain
  refine Moves.next ?_
  refine loadTap_touches h_boot ?_
  assumption

end Sys2Proof.Machine
end

