-- ==== Sys2Proof/Laws/TouchRepair.lean ====
section
/-! SUPPORT. What the operations of Machine/Repair.lean may touch: one lemma for each. -/

set_option maxRecDepth 10000

namespace Sys2Proof.Machine

theorem switchRow_touches {ps : Piece → Prop} {s0 : State} (h_regs : ps .regs) (h_out : ps .out) (h_host : ps .host) (h_latches : ps .latches) (h_palm : ps .palm) (h_mtn : ps .mtn) (h_gnt : ps .gnt) {v0 : ℕ} {v1 : ℕ} {v2 : Option ℕ} {v3 : State} (h0 : Touches ps s0 v3) :
    Touches ps s0 (switchRow v0 v1 v2 v3) := by
  unfold switchRow
  refine State.given_touches ?_ ?_
  · assumption
  · intro y0
    intro k1
    lift_lets
    intro x2
    clear_value x2
    intro x3
    clear_value x3
    intro x4
    clear_value x4
    intro x5
    have hx6 : Touches ps s0 x5 := by
      unfold x5
      refine (Touches.upd_gnt h_gnt ?_)
      assumption
    clear_value x5
    intro x7
    have hx8 : Touches ps s0 x7 := by
      unfold x7
      refine State.raise_touches h_regs h_out h_host h_latches ?_
      refine State.wr_touches h_regs ?_
      assumption
    clear_value x7
    intro x9
    have hx10 : Touches ps s0 x9 := by
      unfold x9
      refine State.raise_touches h_regs h_out h_host h_latches ?_
      refine State.bump_touches h_regs h_latches ?_
      assumption
    clear_value x9
    refine Touches.ite ?_ ?_
    · assumption
    · split
      · refine triggerBank_touches h_regs h_out h_host h_latches h_palm h_mtn ?_
        assumption
      · assumption

theorem execSoftRepair_touches {ps : Piece → Prop} {s0 : State} (h_regs : ps .regs) (h_out : ps .out) (h_host : ps .host) (h_latches : ps .latches) (h_palm : ps .palm) (h_mtn : ps .mtn) (h_gnt : ps .gnt) {v0 : ℕ} {v1 : ℕ} {v2 : Option (Fin 1152)} {v3 : State} (h0 : Touches ps s0 v3) :
    Moves ps s0 (execSoftRepair v0 v1 v2 v3) := by
  unfold execSoftRepair
  refine Moves.next ?_
  refine State.running_touches ?_ ?_
  · assumption
  · intro y0
    intro k1
    refine switchRow_touches h_regs h_out h_host h_latches h_palm h_mtn h_gnt ?_
    assumption

theorem startRepair_touches {ps : Piece → Prop} {s0 : State} (h_gnt : ps .gnt) {v0 : ℕ} {v1 : ℕ} {v2 : State} (h0 : Touches ps s0 v2) :
    Touches ps s0 (startRepair v0 v1 v2) := by
  unfold startRepair
  lift_lets
  intro x0
  clear_value x0
  refine State.given_touches ?_ ?_
  · assumption
  · intro y1
    intro k2
    lift_lets
    intro x3
    clear_value x3
    refine (Touches.upd_gnt h_gnt ?_)
    assumption

theorem scrubCorrected_touches {ps : Piece → Prop} {s0 : State} (h_regs : ps .regs) (h_out : ps .out) (h_host : ps .host) (h_latches : ps .latches) (h_gnt : ps .gnt) {v0 : ℕ} {v1 : ℕ} {v2 : State} (h0 : Touches ps s0 v2) :
    Touches ps s0 (scrubCorrected v0 v1 v2) := by
  unfold scrubCorrected
  lift_lets
  intro x0
  clear_value x0
  intro x1
  clear_value x1
  intro x2
  clear_value x2
  intro x3
  clear_value x3
  intro x4
  have hx5 : Touches ps s0 x4 := by
    unfold x4
    refine State.raise_touches h_regs h_out h_host h_latches ?_
    refine (Touches.upd_gnt h_gnt ?_)
    assumption
  clear_value x4
  refine Touches.ite ?_ ?_
  · refine startRepair_touches h_gnt ?_
    assumption
  · assumption

theorem execScrubVisit_touches {ps : Piece → Prop} {s0 : State} (h_regs : ps .regs) (h_out : ps .out) (h_ddr : ps .ddr) (h_poison : ps .poison) (h_host : ps .host) (h_latches : ps .latches) (h_palm : ps .palm) (h_ldg : ps .ldg) (h_vsr : ps .vsr) (h_mtn : ps .mtn) (h_gnt : ps .gnt) {v0 : ℕ} {v1 : ℕ} {v2 : Scrubbed} {v3 : Option (Fin 1152 × Option ℕ)} {v4 : Bool} {v5 : State} (h0 : Touches ps s0 v5) :
    Moves ps s0 (execScrubVisit v0 v1 v2 v3 v4 v5) := by
  unfold execScrubVisit
  refine Moves.next ?_
  refine State.running_touches ?_ ?_
  · assumption
  · intro y0
    intro k1
    refine State.given_touches ?_ ?_
    · assumption
    · intro y2
      intro k3
      lift_lets
      intro x4
      have hx5 : Touches ps s0 x4 := by
        unfold x4
        split
        · refine uncorrectedCell_touches h_regs h_out h_ddr h_poison h_host h_latches h_palm h_ldg h_vsr h_mtn ?_
          assumption
        · assumption
      clear_value x4
      intro x6
      have hx7 : Touches ps s0 x6 := by
        unfold x6
        split
        · assumption
        · refine scrubCorrected_touches h_regs h_out h_host h_latches h_gnt ?_
          refine Touches.ite ?_ ?_
          · refine State.vector_touches h_out h_host ?_
            refine State.raise_touches h_regs h_out h_host h_latches ?_
            assumption
          · assumption
        · refine startRepair_touches h_gnt ?_
          refine Touches.ite ?_ ?_
          · refine State.vector_touches h_out h_host ?_
            refine State.raise_touches h_regs h_out h_host h_latches ?_
            assumption
          · assumption
      clear_value x6
      intro x8
      have hx9 : Touches ps s0 x8 := by
        unfold x8
        refine State.bump_touches h_regs h_latches ?_
        assumption
      clear_value x8
      intro x10
      clear_value x10
      refine Touches.ite ?_ ?_
      · refine (Touches.upd_gnt h_gnt ?_)
        assumption
      · assumption

theorem marFrame_touches {ps : Piece → Prop} {s0 : State} (h_regs : ps .regs) (h_out : ps .out) (h_ddr : ps .ddr) (h_poison : ps .poison) (h_host : ps .host) (h_latches : ps .latches) (h_palm : ps .palm) (h_timing : ps .timing) (h_ldg : ps .ldg) (h_vsr : ps .vsr) {v0 : ℕ} {v1 : State} (h0 : Touches ps s0 v1) :
    Touches ps s0 (marFrame v0 v1) := by
  unfold marFrame
  refine State.onFrame_touches ?_ ?_
  · assumption
  · intro y0
    intro y1
    intro k2
    refine Touches.ite ?_ ?_
    · refine State.putFrame_touches h_palm ?_
      assumption
    · refine badTail_touches h_regs h_out h_ddr h_poison h_host h_latches h_palm h_timing h_ldg h_vsr ?_
      assumption

theorem execSeamFlitUncorrectable_touches {ps : Piece → Prop} {s0 : State} (h_regs : ps .regs) (h_out : ps .out) (h_ddr : ps .ddr) (h_poison : ps .poison) (h_host : ps .host) (h_latches : ps .latches) (h_palm : ps .palm) (h_timing : ps .timing) (h_ldg : ps .ldg) (h_vsr : ps .vsr) {v0 : Fin 9} {v1 : List ℕ} {v2 : List ℕ} {v3 : State} (h0 : Touches ps s0 v3) :
    Moves ps s0 (execSeamFlitUncorrectable v0 v1 v2 v3) := by
  unfold execSeamFlitUncorrectable
  refine Moves.next ?_
  refine State.running_touches ?_ ?_
  · assumption
  · intro y0
    intro k1
    lift_lets
    intro x2
    have hx3 : Touches ps s0 x2 := by
      unfold x2
      refine Touches.ite ?_ ?_
      · refine State.bump_touches h_regs h_latches ?_
        assumption
      · refine State.bump_touches h_regs h_latches ?_
        assumption
    clear_value x2
    intro x4
    have hx5 : Touches ps s0 x4 := by
      unfold x4
      refine Touches.foldl (fun _ _ _ => ?_) ?_
      · refine marFrame_touches h_regs h_out h_ddr h_poison h_host h_latches h_palm h_timing h_ldg h_vsr ?_
        assumption
      · assumption
    clear_value x4
    refine State.raise_touches h_regs h_out h_host h_latches ?_
    refine Touches.foldl (fun _ _ _ => ?_) ?_
    · refine stompReplica_touches h_regs h_out h_host h_latches h_palm h_vsr ?_
      assumption
    · assumption

end Sys2Proof.Machine
end

