-- ==== Sys2Proof/Tests/Slice0.lean ====
section
/-! SUPPORT. The model's own tests. -/

namespace Sys2Proof.Tests

open Sys2Proof.Machine

-- One theorem after another: a thread for each kernel evaluation would not fit in the checker's memory.
set_option Elab.async false

/-- A device that has booted: every step of the boot is done. -/
def ready : State := { State.reset with boot := { State.reset.boot with done := List.range 17 } }

/-- That device with a configured port whose ladder stands at a step; UP at step 7. -/
def portAt (p n : Nat) : State :=
  ((ready.wr (prt p) F.hdr_PAGE_STATUS_CONFIGURED 1).wr (prt p) F.prt_LINK_STATUS_STEP n).wr (prt p) F.prt_LINK_STATUS_UP
    (if n = 7 then 1 else 0)

/-- The same with a record of the port. -/
def portWith (p n : Nat) (x : PortRec) : State := (portAt p n).putPortRec p x

theorem test_wf_register_half : (Instr.registerWrite 0x50 0x80 0 false false).wf = false := by decide
theorem test_wf_register_aligned : (Instr.registerWrite 0x50 0x84 0 true true).wf = false := by decide
theorem test_wf_ns_read : (Instr.t80NsRead ⟨.bar0, 0x50, true, true⟩ 0x91).wf = false := by decide
theorem test_wf_ns_read_half : (Instr.t80NsRead ⟨.bar0, 0x50, false, false⟩ 0x90).wf = false := by decide
theorem test_wf_ns_read_page : (Instr.t80NsRead ⟨.bar4, 0x20, true, true⟩ 0).wf = false := by decide
theorem test_wf_sync_taps : (Instr.ptpSyncSend ⟨0, []⟩).wf = false := by decide
theorem test_wf_pair_commit : (Instr.t80PairCommit 0x50 0xC9 0).wf = false := by decide
theorem test_wf_size_supported : (Instr.badSizeAccess false false 0x1008 8 []).wf = false := by decide
theorem test_wf_size_zero : (Instr.badSizeAccess false false 0x1008 0 []).wf = false := by decide
theorem test_wf_size_beyond : (Instr.badSizeAccess true false 0x1000000 2 []).wf = false := by decide
theorem test_wf_size_bytes : (Instr.badSizeAccess false true 0x1001 2 [0]).wf = false := by decide
theorem test_wf_cq_descriptor : (Instr.cqDoorbell 0 1 [[0]]).wf = false := by decide
theorem test_wf_crown_descriptor : (Instr.crownRingDoorbell 1 [[0]]).wf = false := by decide
theorem test_wf_pfc : (Instr.pfcReceive 0 1 []).wf = false := by decide
theorem test_wf_thermal : (Instr.thermalSample []).wf = false := by decide
theorem test_wf_requester : (Instr.ctxSelWrite true 4096).wf = false := by decide
theorem test_wf_challenge : (Instr.challenge 0 []).wf = false := by decide
theorem test_wf_measurements : (Instr.getMeasurements 1 true []).wf = false := by decide
theorem test_wf_link : (Instr.hostLinkUp true 1 5 true true true).wf = false := by decide

/-! ## Hypotheses -/

theorem test_meets_IdleStepFeedsTime :
    ((∃ s : State, s.pending = [])) :=
  ⟨State.reset, rfl⟩

theorem test_meets_StepKeepsTheQueueWellFormed :
    ((∃ s t : State, QueueWf s ∧ step s = .next t)) :=
  ⟨State.reset, _, rfl, rfl⟩

theorem test_meets_StepKeepsTheCanonicalForm :
    ((∃ s t : State, Canonical s ∧ step s = .next t)) :=
  ⟨State.reset, _, ⟨rfl, rfl⟩, rfl⟩

theorem test_meets_StoppedDeviceDiscardsHostWrites :
    ((∃ s : State, s.stopped = true ∧ present (BitVec.toNat (0x020 : BitVec 14)) = true)) :=
  ⟨{ ready with boot := { ready.boot with quiescing := true } }, by decide +kernel⟩

theorem test_meets_ShutPageDropsWrites :
    ((∃ s : State, s.stopped = false ∧ present (BitVec.toNat (0x340 : BitVec 14)) = true ∧ s.shut (BitVec.toNat (0x340 : BitVec 14)) = true ∧ (BitVec.toNat (0x080 : BitVec 12)) % 8 = 0 ∧ 0x080 ≤ BitVec.toNat (0x080 : BitVec 12))) ∧
    ((∃ (s : State) (p : Fin 1024), s.stopped = false ∧ s.shut (prt p.val) = true)) ∧
    ((∃ (s : State) (l : Fin 1024), s.stopped = false ∧ s.shut (lan l.val) = true)) ∧
    ((∃ (s : State) (g : Fin 64), s.stopped = false ∧ s.shut (mrgPage g.val) = true)) :=
  ⟨⟨State.reset, by decide +kernel⟩,
   ⟨ready, 1023, by decide +kernel⟩,
   ⟨State.reset, 0, by decide +kernel⟩,
   ⟨State.reset, 63, by decide +kernel⟩⟩

theorem test_meets_PairReadLatchesItsCompanion :
    (∃ (page : BitVec 14) (off : BitVec 12) (s : State), s.stopped = false ∧ present page.toNat = true ∧ s.shut page.toNat = false ∧ (pairAt page.toNat off.toNat).isSome = true ∧ (off.toNat % 8 = 0) ∧ (0x080 ≤ off.toNat)) ∧
    (∃ (page : BitVec 14) (off : BitVec 12) (low : Bool) (high : Bool) (s : State), s.stopped = false ∧ present page.toNat = true ∧ s.shut page.toNat = false ∧ (pairAt page.toNat off.toNat).isSome = false ∧ ((pairAt page.toNat (off.toNat - 8)).isSome = false) ∧ (off.toNat % 8 = 0) ∧ (0x090 ≤ off.toNat) ∧ ((layoutOf page.toNat == .cntp) = false) ∧ ((low || high) = true)) ∧
    (∃ (r : ReadOf) (off : BitVec 12), (r.page.toNat < barPages r.bar) ∧ (off.toNat % 8 = 0) ∧ ((r.low || r.high) = true)) ∧
    (∃ (r : ReadOf) (off : BitVec 12) (s : State), (r.page.toNat < barPages r.bar) ∧ (off.toNat % 8 = 0) ∧ ((r.low || r.high) = true) ∧ s.stopped = true ∧ ((r.bar = .bar2 ∨ (r.bar = .bar0 ∧ r.page.toNat ≠ 0)))) ∧
    (∃ (r : ReadOf) (off : BitVec 12) (s : State), (r.page.toNat < barPages r.bar) ∧ (off.toNat % 8 = 0) ∧ ((r.low || r.high) = true) ∧ s.stopped = false ∧ r.bar = .bar0 ∧ present r.page.toNat = false) :=
  ⟨⟨0x050, 0x090, ready, by decide +kernel⟩,
   ⟨0x050, 0x0B8, true, false, ready, by decide +kernel⟩,
   ⟨⟨.bar4, 0x10, true, false⟩, 8, by decide +kernel⟩,
   ⟨⟨.bar2, 0, true, true⟩, 0, { ready with boot := { ready.boot with quiescing := true } }, by decide +kernel⟩,
   ⟨⟨.bar0, 0x3FFF, true, true⟩, 0, ready, by decide +kernel⟩⟩

theorem test_meets_PairCommitTakesBothHalves :
    ((∃ (s : State) (ns : Word), s.stopped = false ∧ s.shut 0x55 = false ∧ s.now < ns.toNat * nsUnits + s.host.staged.val 0 (barOf 0x55 0x090) % nsUnits)) :=
  ⟨ready, 1, by decide +kernel⟩

theorem test_meets_ErrStatusClearsWhereOneIsWritten :
    (∃ (page : BitVec 14) (s : State), s.stopped = false ∧ present page.toNat = true ∧ (lineOfPage page.toNat).isSome = true) :=
  ⟨0x340, (ready.wr 0x340 F.hdr_ERR_STATUS_REAL 0x21), by decide +kernel⟩

theorem test_meets_RaisedCauseLatchesAndQuenchHidesIt :
    ((∃ (s : State) (page : Nat) (cause : Fin 16), (lineOfPage page).isSome = true ∧ s.quenched page = true ∧ s.classOf page cause.val < 3)) ∧
    ((∃ (s : State) (page : Nat) (cause : Fin 16), (lineOfPage page).isSome = true ∧ ¬ (s.quenched page = true ∧ s.classOf page cause.val < 3))) :=
  ⟨⟨{ ready with gnt := { ready.gnt with quench := [⟨0x070, 1, [5]⟩] } }, 0x070, 0, by decide +kernel⟩,
   ⟨ready, 0xFFF, 15, by decide +kernel⟩⟩

theorem test_meets_HostAccessesComplete :
    ((∃ (s : State) (page : BitVec 14) (off : BitVec 12), s.stopped = false ∧ off.toNat % 8 = 0 ∧ off.toNat < 0x080 ∧ present page.toNat = true)) ∧
    ((∃ (s : State) (page : BitVec 14), s.stopped = false ∧ present page.toNat = false)) ∧
    ((∃ (s : State) (page : BitVec 14) (off : BitVec 12), s.stopped = false ∧ off.toNat % 8 = 0 ∧ 0x080 ≤ off.toNat ∧ present page.toNat = true ∧ s.shut page.toNat = false ∧ atomic64 page.toNat off.toNat = false)) ∧
    ((∃ (s : State) (page : BitVec 14) (off : BitVec 12), s.stopped = false ∧ off.toNat % 8 = 0 ∧ 0x080 ≤ off.toNat ∧ present page.toNat = true ∧ s.shut page.toNat = false ∧ atomic64 page.toNat off.toNat = true)) ∧
    ((∃ (s : State) (page : BitVec 14) (off : BitVec 12), s.stopped = false ∧ off.toNat % 8 = 0 ∧ 0x080 ≤ off.toNat ∧ present page.toNat = true ∧ s.shut page.toNat = false ∧ ((pairAt page.toNat off.toNat).any fun p => p.1.acc != .ro) = true)) ∧
    ((∃ s : State, s.stopped = false ∧ s.shut 0x303 = false)) ∧
    ((∃ (s : State) (bar2 write : Bool) (a : BitVec 26) (n : BitVec 13) (bs : List Byte), s.stopped = false ∧ 0 < n.toNat ∧ n.toNat ≤ 4096 ∧ a.toNat + n.toNat ≤ (if bar2 = true then 2 ^ 24 else 2 ^ 26) ∧ ¬ (n.toNat = 4 ∧ a.toNat % 4 = 0) ∧ ¬ (n.toNat = 8 ∧ a.toNat % 8 = 0) ∧ (write = true → bs.length = n.toNat) ∧ ¬ (8 < n.toNat ∧ n.toNat % 8 = 0 ∧ a.toNat % 8 = 0))) ∧
    ((∃ (s : State) (bar2 write : Bool) (a : BitVec 26) (n : BitVec 13) (bs : List Byte), s.stopped = false ∧ a.toNat + n.toNat ≤ (if bar2 = true then 2 ^ 24 else 2 ^ 26) ∧ (write = true → bs.length = n.toNat) ∧ 8 < n.toNat ∧ n.toNat % 8 = 0 ∧ a.toNat % 8 = 0)) ∧
    ((∃ a : BitVec 26, present (a.toNat / 0x1000) = false)) :=
  ⟨⟨ready, 0x050, 0x020, by decide +kernel⟩,
   ⟨ready, 0x3FFF, by decide +kernel⟩,
   ⟨ready, 0x303, 0x108, by decide +kernel⟩,
   ⟨ready, 0x055, 0x090, by decide +kernel⟩,
   ⟨ready, 0x055, 0x090, by decide +kernel⟩,
   ⟨ready, by decide +kernel⟩,
   ⟨ready, false, true, 0x3FFFFFB, 5, [0, 0, 0, 0, 0], by decide +kernel⟩,
   ⟨ready, true, false, 0xFFFFF0, 16, [], by decide +kernel⟩,
   ⟨0x3FFF000, by decide +kernel⟩⟩

theorem test_meets_FaultCommandsComplete :
    ((∃ (page : BitVec 14) (s : State), s.stopped = false ∧ resettable page.toNat = true ∧ s.resetBusy page.toNat = false ∧ s.pageActive page.toNat = true)) ∧
    ((∃ (page : BitVec 14) (s : State), s.stopped = false ∧ resettable page.toNat = true ∧ s.resetBusy page.toNat = false ∧ s.pageActive page.toNat = false)) ∧
    (∃ (page : BitVec 14) (s : State), s.stopped = false ∧ s.on page.toNat F.hdr_PAGE_STATUS_RESET_BUSY = true ∧ (s.boot.waiting.any (fun w => w.1 == page.toNat) = false)) ∧
    (∃ (page : BitVec 14) (s : State), (s.gnt.quench.any (fun q => q.page == page.toNat && decide (q.until_ ≤ s.mono)) = true)) ∧
    (∃ (page : BitVec 14) (s : State), s.stopped = false ∧ present page.toNat = true ∧ (lineOfPage page.toNat).isSome = true) ∧
    (∃ (page : BitVec 14) (s : State), s.stopped = false ∧ present page.toNat = true ∧ (lineOfPage page.toNat).isSome = true) ∧
    (∃ (line : Fin 1024) (page : Nat) (cause : Nat) (cls : Nat) (s : State), (s.topCause line.val = some (page, cause, cls)) ∧ s.latched line.val = false) ∧
    (∃ (s : State), s.stopped = false ∧ s.shut (0x20) = false) ∧
    (∃ (s : State), s.stopped = false ∧ s.shut (0x20) = false) ∧
    (∃ (line : Fin 1024) (s : State), (s.lineRec line.val).escalated = true ∧ (resetCount (s.lineRec line.val) s.mono ≤ 8)) :=
  ⟨⟨0x340, ready, by decide +kernel⟩,
   ⟨0x420, ready.putDom 0 { ready.dom 0 with trans := 1 }, by decide +kernel⟩,
   ⟨0x340, (ready.set1 0x340 F.hdr_PAGE_STATUS_RESET_BUSY), by decide +kernel⟩,
   ⟨0x070, { ready with gnt := { ready.gnt with quench := [⟨0x070, 0, [5]⟩] } }, by decide +kernel⟩,
   ⟨0xFFF, ready, by decide +kernel⟩,
   ⟨0x340, ready, by decide +kernel⟩,
   ⟨10, 0x340, 0, 0, (ready.wrx 0x340 F.hdr_ERR_STATUS_REAL 0 0 1).wrx 0x340 F.hdr_ERR_CLASS_MAP_CLASS 0 0 0, by decide +kernel⟩,
   ⟨ready, by decide +kernel⟩,
   ⟨ready, by decide +kernel⟩,
   ⟨0, (ready.putLine 0 { ready.lineRec 0 with escalated := true }), by decide +kernel⟩⟩

theorem test_meets_SafeStateAndRepairCommandsComplete :
    (∃ (s : State), s.isSafe = false ∧ s.gnt.entry = none) ∧
    (∃ (e : SafeEntry) (s : State), (s.gnt.entry = some e) ∧ s.isSafe = false) ∧
    (∃ (e : SafeEntry) (s : State), (s.gnt.safe = some e) ∧ s.gnt.snapDone = false) ∧
    (∃ (s : State), s.stopped = false ∧ s.shut (0x22) = false) ∧
    (∃ (found : Scrubbed) (s : State), s.stopped = false ∧ s.on 0x21 F.gnt1_SCRUB_CFG_ENABLE = true ∧ found.ecc.val = 0) ∧
    (∃ (found : Scrubbed) (s : State), s.stopped = false ∧ s.on 0x21 F.gnt1_SCRUB_CFG_ENABLE = true ∧ found.ecc.val = 1) ∧
    (∃ (found : Scrubbed) (s : State), s.stopped = false ∧ s.on 0x21 F.gnt1_SCRUB_CFG_ENABLE = true ∧ (found.ecc.val ≠ 0)) ∧
    (∃ (m : Nat) (r : Nat) (s : State), s.stopped = false ∧ (s.gnt.repairing.contains (m, r) = true)) ∧
    (∃ (link : Fin 9) (down : Bool) (wire : Fin 1280) (check : WireCheck) (s : State), s.stopped = false ∧ ((check.margin = true ∨ (s.dueAt (2 ^ 24 + wireKey link.val down wire.val) 1000000000 s.nowNs = true ∧ s.rd 0x21 F.gnt1_SEAM_CFG_WIRE_THRESH < check.corrections))) ∧ (s.gnt.training = []) ∧ (s.spares link.val down < spareTotal link.val)) ∧
    (∃ (link : Fin 9) (down : Bool) (wire : Fin 1280) (s : State), s.stopped = false ∧ s.gnt.training.contains (wireKey link.val down wire.val) = true) ∧
    (∃ (s : State), s.stopped = false) ∧
    (∃ (s : State), s.stopped = false) ∧
    (∃ (k : Fin 4) (i : Fin 1024) (s : State), s.stopped = false ∧ s.dueAt 0x22000 3600000000000 s.nowNs = true ∧ (i.val < wearCount k.val) ∧ (k.val ≠ 1)) ∧
    (∃ (s : State), s.stopped = false ∧ s.dueAt 0x22000 3600000000000 s.nowNs = true) ∧
    (∃ (s : State), s.stopped = false ∧ s.shut (0x23) = false) :=
  ⟨⟨ready, by decide +kernel⟩,
   ⟨⟨0, 4, 3, 0, 0, false, 0⟩, { ready with gnt := { ready.gnt with entry := some ⟨0, 4, 3, 0, 0, false, 0⟩ } }, by decide +kernel⟩,
   ⟨⟨0, 4, 3, 0, 0, false, 0⟩, { ready with gnt := { ready.gnt with safe := some ⟨0, 4, 3, 0, 0, false, 0⟩ } }, by decide +kernel⟩,
   ⟨ready, by decide +kernel⟩,
   ⟨⟨0, false⟩, (ready.wr 0x21 F.gnt1_SCRUB_CFG_ENABLE 1), by decide +kernel⟩,
   ⟨⟨1, true⟩, (ready.wr 0x21 F.gnt1_SCRUB_CFG_ENABLE 1), by decide +kernel⟩,
   ⟨⟨2, true⟩, (ready.wr 0x21 F.gnt1_SCRUB_CFG_ENABLE 1), by decide +kernel⟩,
   ⟨0, 0, { ready with gnt := { ready.gnt with repairing := [(0, 0)] } }, by decide +kernel⟩,
   ⟨8, true, 1279, ⟨100000000000, false⟩, { ready with time := ns 1000000000 * 2 ^ 32 }, by decide +kernel⟩,
   ⟨0, false, 0, { ready with gnt := { ready.gnt with training := [0] } }, by decide +kernel⟩,
   ⟨ready, by decide +kernel⟩,
   ⟨ready, by decide +kernel⟩,
   ⟨0, 63, { ready with time := ns 3600000000000 * 2 ^ 32 }, by decide +kernel⟩,
   ⟨{ ready with time := ns 3600000000000 * 2 ^ 32 }, by decide +kernel⟩,
   ⟨ready, by decide +kernel⟩⟩

theorem test_meets_ReferenceInputsComplete :
    (∃ (i : Fin 2) (l : PpsEdge) (s : State), ((s.ppsIn i.val).last = some l) ∧ (l.at_ + ns (((s.ppsIn i.val).missed + 1) * 1000000000 + 100000) ≤ s.mono)) ∧
    (∃ (d : Nat) (b : List Byte) (x : Tod) (i : Fin 2) (s : State), (todParse b = some x) ∧ (hexOf (slice b 45 2) = some (todChecksum b)) ∧ (s.refsOnPps i.val ≠ []) ∧ (((s.ppsIn i.val).held ((d : Int) - s.hat.stepped).toNat).isSome = true)) ∧
    (∃ (s : State), s.boot.quiescing = false ∧ (s.dueAt 3 1000000000 (s.nowNs - 100000000) = true) ∧ s.on 0x52 F.hbd2_TOD_OUT_CFG_ENABLE = true ∧ s.squelched (s.rd 0x52 F.hbd2_TOD_OUT_CFG_SQUELCH) = false) ∧
    (∃ (e : Fin 16) (i : Nat) (s : State), s.stopped = false ∧ (s.peerOfRef e.val = some i) ∧ s.enabledRef e.val = true ∧ s.isPtpRef e.val = true ∧ (2 ≤ s.qstate e.val) ∧ (s.qstate e.val ≠ 5) ∧ s.bandRuns = true ∧ (((s.peer (s.refCfg F.hbd1_REF_CFG_PORT e.val) i).lastSync + ns (3 * logNs ((s.ptpPort (s.refCfg F.hbd1_REF_CFG_PORT e.val)).field F.hbd4_PORT_CFG_LOG_SYNC)) ≤ s.mono ∨ (s.peer (s.refCfg F.hbd1_REF_CFG_PORT e.val) i).lastAnnounce + ns (3 * logNs ((s.ptpPort (s.refCfg F.hbd1_REF_CFG_PORT e.val)).field F.hbd4_PORT_CFG_LOG_ANNOUNCE)) ≤ s.mono))) ∧
    (∃ (e : Fin 16) (s : State), s.on 0x50 F.hbd0_SERVO_CTRL_REVERTIVE = true ∧ s.refValid = true ∧ s.qstate e.val = 3 ∧ (s.mode ≠ 2) ∧ s.bandRuns = true ∧ (s.refCfg F.hbd1_REF_CFG_PRIORITY e.val < s.refCfg F.hbd1_REF_CFG_PRIORITY s.refIndex) ∧ (ns (s.rd 0x50 F.hbd0_SERVO_CTRL_REVERT_HOLDOFF * 1000000000) ≤ s.mono - (s.refRec e.val).qualifiedAt)) ∧
    (∃ (s : State), s.stopped = false ∧ s.shut (0x51) = false) :=
  ⟨⟨1, { at_ := 0 }, { ready with time := ns 1000100000 * 2 ^ 32, hat := { ready.hat with pps := [(1, { edges := [{ at_ := 0 }] })] } }, by decide +kernel⟩,
   ⟨(ns 10000000), (todSentence 0 0 37 0 0 3 0), ⟨0, 0, 37, 0, 0, 3, 0⟩, 0, { ready.wri 0x51 F.hbd1_REF_CFG_ENABLE 0 1 with hat := { ready.hat with pps := [(0, { edges := [{ at_ := 0 }] })] } }, by decide +kernel⟩,
   ⟨{ (ready.wr 0x52 F.hbd2_TOD_OUT_CFG_ENABLE 1).wr 0x52 F.hbd2_TOD_OUT_CFG_SQUELCH 0 with time := ns 1100000000 * 2 ^ 32 }, by decide +kernel⟩,
   ⟨0, 0, { (((ready.wri 0x51 F.hbd1_REF_CFG_ENABLE 0 1).wri 0x51 F.hbd1_REF_CFG_TYPE 0 1).wri 0x51 F.hbd1_REF_CFG_PEER_INDEX 0 0).wri 0x51 F.hbd1_REF_STATUS_QSTATE 0 3 with time := ns 100000000000 * 2 ^ 32, hat := { ready.hat with peers := [(0, { role := 1 })] } }, by decide +kernel⟩,
   ⟨0, { (((((ready.wr 0x50 F.hbd0_SERVO_CTRL_REVERTIVE 1).wr 0x50 F.hbd0_SERVO_STATUS_REF_VALID 1).wr 0x50 F.hbd0_SERVO_STATUS_REF_INDEX 15).wri 0x51 F.hbd1_REF_STATUS_QSTATE 0 3).wri 0x51 F.hbd1_REF_CFG_PRIORITY 15 1).wri 0x51 F.hbd1_REF_CFG_PRIORITY 0 0 with time := ns 1000000000000000 * 2 ^ 32 }, by decide +kernel⟩,
   ⟨ready, by decide +kernel⟩⟩

theorem test_meets_PtpCommandsComplete :
    (∃ (port : Fin 1024) (s : State), s.stopped = false ∧ (s.ptpPort port.val).field F.hbd4_PORT_CFG_PTP_ENABLE = 1 ∧ s.bandRuns = true) ∧
    (∃ (sync : SyncSend) (s : State), s.stopped = false ∧ s.maySource sync.port.val = true ∧ s.sinceLast (s.ptpPort sync.port.val).syncAt ((s.ptpPort sync.port.val).field F.hbd4_PORT_CFG_LOG_SYNC) = true) ∧
    (∃ (port : Fin 1024) (s : State), s.stopped = false ∧ s.maySource port.val = true ∧ s.sinceLast (s.ptpPort port.val).announceAt ((s.ptpPort port.val).field F.hbd4_PORT_CFG_LOG_ANNOUNCE) = true) ∧
    (∃ (port : Fin 1024) (s : State), s.stopped = false ∧ (s.ptpPort port.val).field F.hbd4_PORT_CFG_PTP_ENABLE = 1 ∧ (s.ptpPort port.val).receives = true ∧ s.bandRuns = true) ∧
    (∃ (port : Fin 1024) (e : Fin 16) (s : State), s.peerAged port.val e.val = true ∧ s.peerSelected port.val e.val = false ∧ s.bandRuns = true ∧ s.heardNow port.val (s.peer port.val e.val) = false) ∧
    (∃ (s : State), s.stopped = false ∧ s.shut (0x54) = false ∧ ((s.peer (s.rd 0x54 F.hbd4_PEER_SEL_PORT) (s.rd 0x54 F.hbd4_PEER_SEL_ENTRY)).role ≠ 0)) ∧
    (∃ (s : State), s.stopped = false ∧ s.shut (0x54) = false ∧ ((s.peer (s.rd 0x54 F.hbd4_PEER_SEL_PORT) (s.rd 0x54 F.hbd4_PEER_SEL_ENTRY)).role ≠ 0)) ∧
    (∃ (s : State), s.stopped = false ∧ s.shut (0x54) = false ∧ ((s.peer (s.rd 0x54 F.hbd4_PEER_SEL_PORT) (s.rd 0x54 F.hbd4_PEER_SEL_ENTRY)).role ≠ 0)) ∧
    (∃ (s : State), s.stopped = false ∧ s.shut (0x54) = false) :=
  ⟨⟨0, { ready with hat := { ready.hat with ptp := [(0, { cfg := 0xC05 })] } }, by decide +kernel⟩,
   ⟨⟨1023, List.replicate 16 ⟨0, 0, 0, false⟩⟩, { ready.wr 0x50 F.hbd0_SERVO_STATUS_STATE 1 with hat := { ready.hat with ptp := [(1023, { cfg := 0xC05 })] } }, by decide +kernel⟩,
   ⟨0, { ready.wr 0x50 F.hbd0_SERVO_STATUS_STATE 1 with hat := { ready.hat with ptp := [(0, { cfg := 0xC05 })] } }, by decide +kernel⟩,
   ⟨0, { ready with hat := { ready.hat with ptp := [(0, { cfg := 0xC01 })] } }, by decide +kernel⟩,
   ⟨1023, 15, { ready with time := ns 100000000000000 * 2 ^ 32, hat := { ready.hat with peers := [(16383, { role := 2 })] } }, by decide +kernel⟩,
   ⟨{ ready with hat := { ready.hat with peers := [(0, { role := 2 })] } }, by decide +kernel⟩,
   ⟨{ ready with hat := { ready.hat with peers := [(0, { role := 2 })] } }, by decide +kernel⟩,
   ⟨{ ready with hat := { ready.hat with peers := [(0, { role := 2 })] } }, by decide +kernel⟩,
   ⟨ready, by decide +kernel⟩⟩

theorem test_meets_ServoCommandsComplete :
    (∃ (m : Fin 4) (s : State), s.stopped = false ∧ s.shut (0x50) = false ∧ (m.val ≠ 3)) ∧
    (∃ (s : State), s.stopped = false ∧ s.shut (0x50) = false ∧ s.on 0x50 F.hbd0_SERVO_STATUS_EVER_TRACEABLE = false) ∧
    (∃ (a : T80) (s : State), (s.hat.agreeing = some a) ∧ s.servo = 2 ∧ s.mode = 0 ∧ s.refValid = true ∧ s.bandRuns = true ∧ (ns 64000000000 ≤ s.mono - a)) ∧
    (∃ (a : T80) (s : State), (s.hat.agreeing = some a) ∧ s.servo = 4 ∧ s.mode = 0 ∧ s.refValid = true ∧ s.bandRuns = true ∧ (ns (s.rd 0x50 F.hbd0_LOCK_CFG_RELOCK_TIME * 1000000000) ≤ s.mono - a)) ∧
    (∃ (s : State), s.hat.slewLeft = 0) ∧
    (∃ (s : State), s.dueAt 1 1048576 s.nowNs = true ∧ s.servo = 4) ∧
    (∃ (s : State), s.stopped = false ∧ s.servo = 3 ∧ s.hat.bandStopped = false ∧ (s.hat.histAt + ns (s.rd 0x53 F.hbd3_HIST_CTRL_PERIOD * 1000000000) ≤ s.mono) ∧ s.on 0x53 F.hbd3_HIST_CTRL_ENABLE = true) ∧
    (∃ (s : State), s.stopped = false ∧ s.shut (0x53) = false) :=
  ⟨⟨2, ready, by decide +kernel⟩,
   ⟨ready, by decide +kernel⟩,
   ⟨0, { ((ready.wr 0x50 F.hbd0_SERVO_STATUS_STATE 2).wr 0x50 F.hbd0_SERVO_CTRL_MODE 0).wr 0x50 F.hbd0_SERVO_STATUS_REF_VALID 1 with time := ns 64000000000 * 2 ^ 32, hat := { ready.hat with agreeing := some 0 } }, by decide +kernel⟩,
   ⟨0, { ((ready.wr 0x50 F.hbd0_SERVO_STATUS_STATE 4).wr 0x50 F.hbd0_SERVO_CTRL_MODE 0).wr 0x50 F.hbd0_SERVO_STATUS_REF_VALID 1 with time := ns 70000000000000 * 2 ^ 32, hat := { ready.hat with agreeing := some 0 } }, by decide +kernel⟩,
   ⟨ready, by decide +kernel⟩,
   ⟨{ ready.wr 0x50 F.hbd0_SERVO_STATUS_STATE 4 with time := ns 1048576 * 2 ^ 32 }, by decide +kernel⟩,
   ⟨{ (ready.wr 0x50 F.hbd0_SERVO_STATUS_STATE 3).wr 0x53 F.hbd3_HIST_CTRL_ENABLE 1 with time := ns 100000000000000 * 2 ^ 32 }, by decide +kernel⟩,
   ⟨ready, by decide +kernel⟩⟩

theorem test_meets_TimingGroupAndOutputsComplete :
    (∃ (s : State), s.dueAt 2 1048576 s.nowNs = true) ∧
    (∃ (s : State), s.dueAt 2 1048576 s.nowNs = true) ∧
    (∃ (k : Fin 8) (s : State), s.hat.resync.testBit k.val = true) ∧
    (∃ (s : State), s.stopped = false ∧ s.dueAt 11 67108864 s.nowNs = true ∧ s.grouped = false) ∧
    (∃ (s : State), s.stopped = false ∧ s.dueAt 11 67108864 s.nowNs = true ∧ s.grouped = true ∧ s.on 0x55 F.hbd5_GROUP_STATUS_CHIP_ID_CONFLICT = false) ∧
    (∃ (port : Fin 1024) (h : Hello) (s : State), s.stopped = false ∧ s.grouped = true ∧ s.helloPorts.contains port.val = true ∧ (h.group.toNat = s.rd 0x55 F.hbd5_GROUP_CFG_GROUP_ID)) ∧
    (∃ (chip : Fin 4096) (m : Nat) (s : State), (s.hat.members.at? chip.val = some m) ∧ (m - 1 + s.rd 0x55 F.hbd5_GROUP_CFG_MEMBER_TIMEOUT * 67108864 < s.nowNs)) ∧
    (∃ (s : State), s.hat.switchPending = true ∧ (s.rdPair 0x55 F.hbd5_PRIMARY_SWITCH_NS F.hbd5_PRIMARY_SWITCH_FRAC ≤ s.now)) ∧
    (∃ (i : Fin 2) (s : State), s.boot.quiescing = false ∧ ((if i.val = 0 then s.hat.pps0 else s.hat.pps1) = true) ∧ ((if i.val = 0 then s.hat.ppsFall0 else s.hat.ppsFall1) ≤ s.mono)) ∧
    (∃ (i : Fin 2) (s : State), s.boot.quiescing = false ∧ (s.dueAt (4 + i.val) 1000000000 (((s.now : Int) - signed 32 (s.rdi 0x52 F.hbd2_PPS_OUT_CFG_OFFSET i.val) * 256).toNat / nsUnits) = true) ∧ s.rdi 0x52 F.hbd2_PPS_OUT_CFG_ENABLE i.val = 1 ∧ s.squelched (s.rdi 0x52 F.hbd2_PPS_OUT_CFG_SQUELCH i.val) = false) ∧
    (∃ (i : Fin 2) (data : Word) (low : Bool) (high : Bool) (v : Nat) (s : State), s.stopped = false ∧ s.shut (0x52) = false ∧ (v = merged (s.word 0x52 (0x0B0 + 8 * i.val)) data.toNat low high) ∧ (1 ≤ v / 2 ^ 8 % 2 ^ 24) ∧ (v / 2 ^ 8 % 2 ^ 24 ≤ 500000) ∧ ((signed 32 (v / 2 ^ 32)).natAbs ≤ 256000000)) ∧
    (∃ (data : Word) (low : Bool) (high : Bool) (v : Nat) (s : State), s.stopped = false ∧ s.shut (0x52) = false ∧ (v = merged (s.word 0x52 0x0C0 - (if s.on 0x52 F.hbd2_CLK_OUT_CFG_LATE = true then 2 else 0)) data.toNat low high) ∧ (4 * nsUnits ≤ v / 2 ^ 16)) ∧
    (∃ (a : T80) (s : State), s.boot.quiescing = false ∧ s.hat.clk = false ∧ (s.hat.clkNext = some a) ∧ (a = s.rdPair 0x52 F.hbd2_CLK_OUT_START_NS F.hbd2_CLK_OUT_START_FRAC) ∧ s.on 0x52 F.hbd2_CLK_OUT_CFG_ENABLE = true ∧ (a ≤ s.now)) ∧
    (∃ (a : T80) (s : State), s.boot.quiescing = false ∧ (s.hat.clkNext = some a) ∧ s.on 0x52 F.hbd2_CLK_OUT_CFG_ENABLE = true ∧ (a ≤ s.now)) :=
  ⟨⟨{ ready with time := ns 1048576 * 2 ^ 32 }, by decide +kernel⟩,
   ⟨{ ready with time := ns 1048576 * 2 ^ 32 }, by decide +kernel⟩,
   ⟨7, { ready with hat := { ready.hat with resync := 128 } }, by decide +kernel⟩,
   ⟨{ ready with time := ns 67108864 * 2 ^ 32 }, by decide +kernel⟩,
   ⟨{ ready.wr 0x55 F.hbd5_GROUP_CFG_ENABLE 1 with time := ns 67108864 * 2 ^ 32 }, by decide +kernel⟩,
   ⟨0, ⟨0, 1, 0, 0, 0, 0, 0, 0, 0, 0, 0⟩, { (((((ready.wr 0x55 F.hbd5_GROUP_CFG_ENABLE 1).wr 0x55 F.hbd5_GROUP_CFG_GROUP_ID 0).wr 0x55 F.hbd5_GROUP_CFG_CHIP_ID 0).wr (prt 0) F.hdr_PAGE_STATUS_CONFIGURED 1).wr (prt 0) F.prt_LINK_STATUS_UP 1).wr (prt 0) F.prt_LINK_STATUS_PARTNER 2 with brim := { ready.brim with ports := [(0, {})] } }, by decide +kernel⟩,
   ⟨4095, 1, { ready with time := ns 100000000000 * 2 ^ 32, hat := { ready.hat with members := [(4095, 1)] } }, by decide +kernel⟩,
   ⟨{ ready with hat := { ready.hat with switchPending := true } }, by decide +kernel⟩,
   ⟨1, { ready with hat := { ready.hat with pps1 := true } }, by decide +kernel⟩,
   ⟨1, { (ready.wri 0x52 F.hbd2_PPS_OUT_CFG_ENABLE 1 1).wri 0x52 F.hbd2_PPS_OUT_CFG_SQUELCH 1 0 with time := ns 1000000000 * 2 ^ 32 }, by decide +kernel⟩,
   ⟨1, 0x0F424000000101, true, true, 0x0F424000000101, ready, by decide +kernel⟩,
   ⟨0x0000000400000001, true, true, 0x0000000400000001, ready, by decide +kernel⟩,
   ⟨0, { ready.wr 0x52 F.hbd2_CLK_OUT_CFG_ENABLE 1 with hat := { ready.hat with clkNext := some 0 } }, by decide +kernel⟩,
   ⟨0, { ready.wr 0x52 F.hbd2_CLK_OUT_CFG_ENABLE 1 with hat := { ready.hat with clk := true, clkNext := some 0 } }, by decide +kernel⟩⟩

theorem test_meets_StampCommandsComplete :
    (∃ (e : T80) (code : Nat) (rest : List (T80 × Nat)) (s : State), (s.hat.tqChanges = (e, code) :: rest) ∧ (e ≤ s.now)) ∧
    (∃ (lane : Fin 1024) (s : State), s.stopped = false ∧ (s.wander lane.val).frozen = false ∧ ((s.wander lane.val).trimAt.all (fun a => decide (a + ns 1048576 ≤ s.mono)) = true)) ∧
    (∃ (lane : Fin 1024) (windows : List (Fin 257)) (s : State), (s.wander lane.val).frozen = false ∧ ((s.rxLpi lane.val = true ∨ (windows.all (fun n => decide (n.val < s.rd 0x58 F.hbd8_STAMP_CFG_DENSITY_MIN)) = true ∧ nsSpan (s.laneRate lane.val) (s.rd 0x58 F.hbd8_STAMP_CFG_FREEZE_NS) < windowsSpan (s.laneRate lane.val) windows.length)))) ∧
    (∃ (lane : Fin 1024) (windows : List (Fin 257)) (s : State), (s.wander lane.val).frozen = true ∧ s.rxLpi lane.val = false ∧ (windows.all (fun n => decide (s.rd 0x58 F.hbd8_STAMP_CFG_DENSITY_MIN ≤ n.val)) = true) ∧ (nsSpan (s.laneRate lane.val) (s.rd 0x58 F.hbd8_STAMP_CFG_FREEZE_NS) ≤ windowsSpan (s.laneRate lane.val) windows.length)) ∧
    (∃ (lane : Fin 1024) (s : State), ((s.wander lane.val).state ≠ 0)) ∧
    (∃ (s : State), s.stopped = false ∧ s.shut (0x58) = false ∧ s.on 0x58 F.hbd8_CAL_STATUS_APPLY_BUSY = false) ∧
    (∃ (s : State), s.stopped = false ∧ s.shut (0x58) = false) ∧
    (∃ (keys : List Nat) (s : State), (s.stamps.applying = some keys) ∧ (s.stamps.applied ≤ s.now)) ∧
    (∃ (s : State), s.stopped = false ∧ s.on 0x58 F.hbd8_CAL_STATUS_APPLY_BUSY = true ∧ s.stamps.applying = none) ∧
    (∃ (s : State), s.stopped = false ∧ s.shut (0x5A) = false) ∧
    (∃ (s : State), s.stopped = false ∧ s.shut (0x5A) = false) :=
  ⟨⟨0, 2, [], { ready with hat := { ready.hat with tqChanges := [(0, 2)] } }, by decide +kernel⟩,
   ⟨1023, { ready with time := ns 1048576 * 2 ^ 32 }, by decide +kernel⟩,
   ⟨0, [], (ready.wr (lan 0) F.lan_LANE_STATUS_RX_STATE 1), by decide +kernel⟩,
   ⟨0, [256], { ready.wr 0x58 F.hbd8_STAMP_CFG_FREEZE_NS 0 with stamps := { ready.stamps with lanes := [(0, { frozen := true })] } }, by decide +kernel⟩,
   ⟨1023, { ready with stamps := { ready.stamps with lanes := [(1023, { state := 1 })] } }, by decide +kernel⟩,
   ⟨ready, by decide +kernel⟩,
   ⟨ready, by decide +kernel⟩,
   ⟨[0], { ready with stamps := { ready.stamps with applying := some [0] } }, by decide +kernel⟩,
   ⟨(ready.wr 0x58 F.hbd8_CAL_STATUS_APPLY_BUSY 1), by decide +kernel⟩,
   ⟨ready, by decide +kernel⟩,
   ⟨ready, by decide +kernel⟩⟩

theorem test_meets_OctetAndPortCommandsComplete :
    (∃ (side : Fin 2) (s : State), (s.on (0x500 + 4 * side.val) F.til_TILE_STATUS_REF_ABSENT = false)) ∧
    (∃ (o : Fin 128) (s : State), s.stopped = false ∧ s.shut ((oct o.val)) = false) ∧
    (∃ (o : Fin 128) (s : State), s.stopped = false ∧ ((s.brim.pllSince.at? o.val).isSome = true)) ∧
    (∃ (o : Fin 128) (s : State), s.stopped = false ∧ s.on (oct o.val) F.oct_OCT_STATUS_PLL_LOCK = true) ∧
    (∃ (port : Fin 1024) (s : State), s.stopped = false ∧ s.shut ((prt port.val)) = false ∧ s.on (prt port.val) F.prt_PORT_CTRL_ENABLE = false) ∧
    (∃ (port : Fin 1024) (s : State), s.stopped = false ∧ s.shut ((prt port.val)) = false) ∧
    (∃ (port : Fin 1024) (s : State), s.stopped = false ∧ s.shut ((prt port.val)) = false ∧ s.on (prt port.val) F.prt_PORT_CTRL_ENABLE = true ∧ (s.ladder port.val ≠ 0)) ∧
    (∃ (s : State), s.stopped = false) ∧
    (∃ (lane : Fin 1024) (data : Word) (s : State), s.stopped = false ∧ s.shut ((lan lane.val)) = false ∧ ((s.laneFree lane.val = true ∨ data.toNat % 4 = s.rd (lan lane.val) F.lan_LANE_CTRL_TX_QUIET + 2 * s.rd (lan lane.val) F.lan_LANE_CTRL_RX_QUIET))) ∧
    (∃ (lane : Fin 1024) (s : State), s.stopped = false ∧ s.shut ((lan lane.val)) = false ∧ s.laneFree lane.val = true ∧ s.on (lan lane.val) F.lan_LANE_CTRL_EQ_OVERRIDE = true) ∧
    (∃ (lane : Fin 1024) (p : Nat) (e : EqEntry) (s : State), s.stopped = false ∧ (s.portOfLane lane.val = some p) ∧ s.ladder p = 5 ∧ s.rd (prt p) F.prt_LINK_STATUS_PARTNER = 1 ∧ (s.eq lane.val (s.laneRate lane.val) = some e)) ∧
    (∃ (lane : Fin 1024) (p : Nat) (s : State), s.stopped = false ∧ (s.portOfLane lane.val = some p) ∧ s.ladder p = 5 ∧ s.rd (prt p) F.prt_LINK_STATUS_PARTNER = 1) ∧
    (∃ (lane : Fin 1024) (p : Nat) (s : State), s.stopped = false ∧ (s.portOfLane lane.val = some p) ∧ s.up p = true ∧ (s.brim.eyeAt.at? lane.val ≠ some (secondOf s.now))) :=
  ⟨⟨1, ready, by decide +kernel⟩,
   ⟨127, ready, by decide +kernel⟩,
   ⟨127, { ready with brim := { ready.brim with pllSince := [(127, 0)] } }, by decide +kernel⟩,
   ⟨0, (ready.wr (oct 0) F.oct_OCT_STATUS_PLL_LOCK 1), by decide +kernel⟩,
   ⟨1023, (portAt 1023 0), by decide +kernel⟩,
   ⟨0, (portAt 0 7), by decide +kernel⟩,
   ⟨0, ((portAt 0 9).wr (prt 0) F.prt_PORT_CTRL_ENABLE 1), by decide +kernel⟩,
   ⟨ready, by decide +kernel⟩,
   ⟨1023, 1, ready, by decide +kernel⟩,
   ⟨0, (ready.wr (lan 0) F.lan_LANE_CTRL_EQ_OVERRIDE 1), by decide +kernel⟩,
   ⟨0, 0, { tx := 0, rx := 0, dfe := 0 }, { (portAt 0 5).wr (prt 0) F.prt_LINK_STATUS_PARTNER 1 with brim := { ready.brim with eqTable := (List.range 6).map (fun k => (k, { tx := 0, rx := 0, dfe := 0 })) } }, by decide +kernel⟩,
   ⟨0, 0, { (portAt 0 5).wr (prt 0) F.prt_LINK_STATUS_PARTNER 1 with brim := { ready.brim with eqTable := (List.range 6).map (fun k => (k, { tx := 0, rx := 0, dfe := 0 })) } }, by decide +kernel⟩,
   ⟨0, 0, (portAt 0 7), by decide +kernel⟩⟩

theorem test_meets_LadderCommandsComplete :
    (∃ (port : Fin 1024) (s : State), s.stopped = false ∧ s.configured port.val = true ∧ s.ladder port.val = 2 ∧ (s.portRec port.val).linkCfg.testBit 4 = true) ∧
    (∃ (port : Fin 1024) (denoon : Bool) (s : State), s.stopped = false ∧ s.configured port.val = true ∧ s.ladder port.val = 2 ∧ (((s.portRec port.val).linkCfg.testBit 4 && denoon) = false)) ∧
    (∃ (port : Fin 1024) (s : State), s.stopped = false ∧ s.configured port.val = true ∧ s.ladder port.val = 2 ∧ (s.lasted port.val (1000000 * bits (s.portRec port.val).linkCfg 16 16) = true)) ∧
    (∃ (port : Fin 1024) (s : State), s.stopped = false ∧ s.configured port.val = true ∧ s.ladder port.val = 3 ∧ ((s.portRec port.val).capAt.all (fun a => decide (a + ns 100000 ≤ s.mono)) = true)) ∧
    (∃ (port : Fin 1024) (s : State), s.stopped = false ∧ s.configured port.val = true ∧ s.ladder port.val = 3 ∧ (s.portRec port.val).goAt = none) ∧
    (∃ (port : Fin 1024) (s : State), s.stopped = false ∧ s.configured port.val = true ∧ s.ladder port.val = 3) ∧
    (∃ (port : Fin 1024) (g : T80) (s : State), s.stopped = false ∧ s.configured port.val = true ∧ s.ladder port.val = 3 ∧ ((s.portRec port.val).goAt = some g) ∧ (g ≤ s.mono)) ∧
    (∃ (port : Fin 1024) (s : State), s.stopped = false ∧ s.configured port.val = true ∧ s.ladder port.val = 3 ∧ (s.portRec port.val).goAt = none ∧ s.lasted port.val 10000000 = true) ∧
    (∃ (port : Fin 1024) (a : T80) (s : State), s.stopped = false ∧ s.configured port.val = true ∧ s.ladder port.val = 4 ∧ ((s.portRec port.val).lockedAt = some a) ∧ (s.mono ≤ a + ns 200000)) ∧
    (∃ (port : Fin 1024) (s : State), s.stopped = false ∧ s.configured port.val = true ∧ s.ladder port.val = 4 ∧ ((((s.portRec port.val).lockedAt = none ∧ s.lasted port.val 200000 = true) ∨ (s.portRec port.val).lockedAt.any (fun a => decide (a + ns 200000 ≤ s.mono)) = true))) ∧
    (∃ (port : Fin 1024) (s : State), s.stopped = false ∧ s.configured port.val = true ∧ s.ladder port.val = 5 ∧ ((s.portRec port.val).lost = [])) ∧
    (∃ (port : Fin 1024) (s : State), s.stopped = false ∧ s.configured port.val = true ∧ s.ladder port.val = 5 ∧ s.lasted port.val (s.portRec port.val).limit = true) ∧
    (∃ (port : Fin 1024) (s : State), s.stopped = false ∧ s.configured port.val = true ∧ s.ladder port.val = 6 ∧ (s.lasted port.val (1000 * bits (s.portRec port.val).linkCfg 32 16) = true)) ∧
    (∃ (port : Fin 1024) (s : State), s.stopped = false ∧ s.configured port.val = true ∧ s.ladder port.val = 7 ∧ (s.rd (prt port.val) F.prt_LINK_STATUS_FEC ≠ 0)) ∧
    (∃ (port : Fin 1024) (kind : Fin 3) (s : State), s.stopped = false ∧ s.configured port.val = true ∧ (4 < s.ladder port.val) ∧ (s.ladder port.val < 8) ∧ (decide (kind.val < 2) = (s.rd (prt port.val) F.prt_LINK_STATUS_FEC != 0))) ∧
    (∃ (s : State), s.stopped = false) ∧
    (∃ (lane : Fin 1024) (p : Nat) (s : State), s.stopped = false ∧ (s.portOfLane lane.val = some p) ∧ s.ladder p = 7) ∧
    (∃ (port : Fin 1024) (s : State), s.stopped = false ∧ s.configured port.val = true ∧ s.ladder port.val = 7 ∧ ((s.portRec port.val).lost.any (fun x => decide (x.2 + ns 10000 ≤ s.mono)) = true)) ∧
    (∃ (port : Fin 1024) (s : State), s.stopped = false ∧ s.configured port.val = true ∧ s.ladder port.val = 7) :=
  ⟨⟨1023, (portWith 1023 2 { linkCfg := 16 }), by decide +kernel⟩,
   ⟨1023, false, (portWith 1023 2 { linkCfg := 8 }), by decide +kernel⟩,
   ⟨0, (portWith 0 2 {}), by decide +kernel⟩,
   ⟨0, (portWith 0 3 { capSeq := 65535 }), by decide +kernel⟩,
   ⟨0, (portWith 0 3 {}), by decide +kernel⟩,
   ⟨7, (portWith 7 3 {}), by decide +kernel⟩,
   ⟨0, 0, (portWith 0 3 { goAt := some 0 }), by decide +kernel⟩,
   ⟨0, { portWith 0 3 {} with time := ns 10000000 * 2 ^ 32 }, by decide +kernel⟩,
   ⟨0, 0, (portWith 0 4 { lockedAt := some 0 }), by decide +kernel⟩,
   ⟨0, { portWith 0 4 {} with time := ns 200000 * 2 ^ 32 }, by decide +kernel⟩,
   ⟨1023, (portAt 1023 5), by decide +kernel⟩,
   ⟨0, { portAt 0 5 with time := ns 2000000 * 2 ^ 32 }, by decide +kernel⟩,
   ⟨0, (portAt 0 6), by decide +kernel⟩,
   ⟨0, ((portAt 0 7).wr (prt 0) F.prt_LINK_STATUS_FEC 1), by decide +kernel⟩,
   ⟨0, 0, ((portAt 0 6).wr (prt 0) F.prt_LINK_STATUS_FEC 1), by decide +kernel⟩,
   ⟨(portAt 0 6), by decide +kernel⟩,
   ⟨0, 0, (portAt 0 7), by decide +kernel⟩,
   ⟨0, { portWith 0 7 { lost := [(0, 0)] } with time := ns 10000 * 2 ^ 32 }, by decide +kernel⟩,
   ⟨1023, (portAt 1023 7), by decide +kernel⟩⟩

theorem test_meets_PortFlowCommandsComplete :
    (∃ (port : Fin 1024) (s : State), s.stopped = false ∧ s.up port.val = true ∧ s.eee port.val = true ∧ s.on (prt port.val) F.prt_TX_CTRL_LPI_ENABLE = true ∧ s.on (prt port.val) F.prt_LINK_STATUS_TX_LPI = false ∧ s.relBusy port.val = false ∧ (s.palm.replicas.any (fun x => x.2.port == port.val) = false) ∧ ((s.portRec port.val).quietSince + ns (max 256 (s.rd (prt port.val) F.prt_TX_CTRL_LPI_ENTRY_NS)) ≤ s.mono)) ∧
    (∃ (port : Fin 1024) (s : State), s.stopped = false ∧ (s.palm.replicas.any (fun x => x.2.port == port.val) = true)) ∧
    (∃ (port : Fin 1024) (s : State), s.stopped = false ∧ s.up port.val = true ∧ s.eee port.val = true) ∧
    (∃ (port : Fin 1024) (s : State), s.stopped = false ∧ s.up port.val = true) ∧
    (∃ (port : Fin 1024) (pr : Fin 8) (a : T80) (s : State), s.stopped = false ∧ ((s.portRec port.val).pauses.at? pr.val = some a) ∧ (a ≤ s.mono)) ∧
    (∃ (port : Fin 1024) (c : Fin 8) (s : State), s.stopped = false ∧ (s.pg port.val c.val).xoff = true ∧ s.up port.val = true ∧ ((s.pg port.val c.val).sentAt + byteTimes (s.speed port.val) (32 * s.rd (prt port.val) F.prt_PFC_CFG_TX_QUANTA) ≤ s.mono)) ∧
    (∃ (port : Fin 1024) (s : State), s.stopped = false ∧ s.shut ((prt port.val)) = false) ∧
    (∃ (port : Fin 1024) (s : State), s.stopped = false ∧ s.shut ((prt port.val)) = false) ∧
    (∃ (port : Fin 1024) (s : State), s.stopped = false ∧ s.up port.val = true ∧ (((s.portRec port.val).verify = 1 ∨ (s.portRec port.val).verify = 2)) ∧ ((s.portRec port.val).tries < 3) ∧ (((s.portRec port.val).tries = 0 ∨ (s.portRec port.val).tryAt + ns (1000000 * max 1 (min 128 (s.rd (prt port.val) F.prt_PREEMPT_CFG_VERIFY_TIME_MS))) ≤ s.mono))) ∧
    (∃ (port : Fin 1024) (s : State), s.stopped = false ∧ s.up port.val = true ∧ (((s.portRec port.val).verify = 1 ∨ (s.portRec port.val).verify = 2)) ∧ (3 ≤ (s.portRec port.val).tries) ∧ ((s.portRec port.val).tryAt + ns (1000000 * max 1 (min 128 (s.rd (prt port.val) F.prt_PREEMPT_CFG_VERIFY_TIME_MS))) ≤ s.mono)) ∧
    (∃ (port : Fin 1024) (s : State), s.stopped = false ∧ s.up port.val = true ∧ (s.portRec port.val).verify = 2) :=
  ⟨⟨0, { ((portAt 0 7).wr (prt 0) F.prt_TX_CTRL_LPI_ENABLE 1).wr (oct 0) F.oct_OCT_CFG_RATE_GROUP 1 with time := ns 100000000000 * 2 ^ 32 }, by decide +kernel⟩,
   ⟨0, { portAt 0 7 with palm := { ready.palm with replicas := [(0, { frame := 0, port := 0, queue := 0, cells := 0, cls := 0 })] } }, by decide +kernel⟩,
   ⟨1023, ((portAt 1023 7).wr (oct 127) F.oct_OCT_CFG_RATE_GROUP 0), by decide +kernel⟩,
   ⟨0, (portAt 0 7), by decide +kernel⟩,
   ⟨1023, 7, 0, (portWith 1023 7 { pauses := [(7, 0)] }), by decide +kernel⟩,
   ⟨0, 7, { portAt 0 7 with time := ns 100000000000 * 2 ^ 32, palm := { ready.palm with pgs := [(7, { xoff := true })] } }, by decide +kernel⟩,
   ⟨0, (portAt 0 7), by decide +kernel⟩,
   ⟨1023, (portAt 1023 7), by decide +kernel⟩,
   ⟨0, (portWith 0 7 { verify := 1 }), by decide +kernel⟩,
   ⟨0, { portWith 0 7 { verify := 2, tries := 3 } with time := ns 200000000 * 2 ^ 32 }, by decide +kernel⟩,
   ⟨0, (portWith 0 7 { verify := 2 }), by decide +kernel⟩⟩

theorem test_meets_IngressCommandsComplete :
    (∃ (port : Fin 1024) (s : State), s.stopped = false ∧ s.configured port.val = true ∧ s.up port.val = true) ∧
    (∃ (g : Fin 32) (id : Nat) (e : Nat) (f : Frame) (s : State), s.stopped = false ∧ (s.nextForSlot g.val = some (id, f)) ∧ (s.freeEngine g.val 0 (f.pre == 7) = some e)) ∧
    (∃ (g : Fin 32) (id : Nat) (f : Frame) (s : State), s.stopped = false ∧ (s.nextForSlot g.val = some (id, f)) ∧ (s.freeEngine g.val 0 (f.pre == 7) = none)) ∧
    (∃ (id : Nat) (f : Frame) (k : Nat) (s : State), s.stopped = false ∧ (s.frame? id = some f) ∧ (f.stage = .waiting k) ∧ ((k ≠ 0 ∨ f.run = none))) ∧
    (∃ (id : Nat) (f : Frame) (run : Run) (s : State), s.stopped = false ∧ (s.frame? id = some f) ∧ (f.stage = .waiting 0) ∧ (f.run = some run)) ∧
    (∃ (id : Nat) (r : Replica) (f : Frame) (s : State), s.stopped = false ∧ (s.replica? id = some r) ∧ (s.frame? r.frame = some f) ∧ r.phase = 1 ∧ r.run = none) ∧
    (∃ (id : Nat) (f : Frame) (k : Nat) (run : Run) (s : State), s.stopped = false ∧ (s.frame? id = some f) ∧ (f.stage = .running k) ∧ (f.run = some run)) ∧
    (∃ (id : Nat) (r : Replica) (f : Frame) (run : Run) (s : State), s.stopped = false ∧ (s.replica? id = some r) ∧ (s.frame? r.frame = some f) ∧ (r.run = some run)) ∧
    (∃ (id : Nat) (ecc : Fin 3) (f : Frame) (tb : Nat) (w : Nat) (rest : List (Nat × Nat)) (s : State), s.stopped = false ∧ (s.frame? id = some f) ∧ (f.results = (tb, w) :: rest) ∧ (ecc.val < 2)) ∧
    (∃ (id : Nat) (ecc : Fin 3) (f : Frame) (tb : Nat) (w : Nat) (rest : List (Nat × Nat)) (s : State), s.stopped = false ∧ (s.frame? id = some f) ∧ (f.results = (tb, w) :: rest) ∧ ecc.val = 2) ∧
    (∃ (id : Nat) (corrected : Bool) (f : Frame) (s : State), s.stopped = false ∧ (s.frame? id = some f) ∧ f.session = 1 ∧ s.sesWaits (.decide id corrected) = false) ∧
    (∃ (id : Nat) (corrected : Bool) (s : State), s.stopped = false ∧ s.sesWaits (.decide id corrected) = true) ∧
    (∃ (id : Nat) (f : Frame) (tg : Target) (s : State), s.stopped = false ∧ s.assignWaits id = false ∧ (s.frame? id = some f) ∧ f.stage = .decided ∧ (mdGet f.md 0x36 1 < 128) ∧ f.ctrl 0 = false ∧ s.replyTurn id f = true ∧ (s.target f = .ok tg)) ∧
    (∃ (id : Nat) (s : State), s.stopped = false ∧ s.assignWaits id = false) ∧
    (∃ (id : Nat) (s : State), s.stopped = false ∧ (((s.frame? id).isSome || (s.palm.tails.at? id).isSome) = true)) :=
  ⟨⟨0, (portAt 0 7), by decide +kernel⟩,
   ⟨0, 0, 0, { port := 0, bytes := [1], md := [] }, { portAt 0 7 with palm := { ready.palm with frames := [(0, { port := 0, bytes := [1], md := [] })] } }, by decide +kernel⟩,
   ⟨0, 0, { port := 0, bytes := [1], md := [] }, { portAt 0 7 with palm := { ready.palm with frames := (0, { port := 0, bytes := [1], md := [] }) :: (List.range 48).map fun k => (k + 1, { port := 0, bytes := [], md := [], stage := .running 0, run := some { engine := k, pc := 0 } }) } }, by decide +kernel⟩,
   ⟨0, { port := 0, bytes := [], md := [], stage := .waiting 0 }, 0, { ready with palm := { ready.palm with frames := [(0, { port := 0, bytes := [], md := [], stage := .waiting 0 })] } }, by decide +kernel⟩,
   ⟨0, { port := 0, bytes := [], md := [], stage := .waiting 0, run := some { engine := 3, pc := 0 } }, { engine := 3, pc := 0 }, { ready with palm := { ready.palm with frames := [(0, { port := 0, bytes := [], md := [], stage := .waiting 0, run := some { engine := 3, pc := 0 } })] } }, by decide +kernel⟩,
   ⟨0, { frame := 0, port := 0, queue := 0, cells := 0, cls := 0, phase := 1 }, { port := 0, bytes := [], md := [] }, { ready with palm := { ready.palm with frames := [(0, { port := 0, bytes := [], md := [] })], replicas := [(0, { frame := 0, port := 0, queue := 0, cells := 0, cls := 0, phase := 1 })] } }, by decide +kernel⟩,
   ⟨0, { port := 0, bytes := [], md := [], stage := .running 0, run := some { engine := 0, pc := 0 } }, 0, { engine := 0, pc := 0 }, { ready with palm := { ready.palm with frames := [(0, { port := 0, bytes := [], md := [], stage := .running 0, run := some { engine := 0, pc := 0 } })] } }, by decide +kernel⟩,
   ⟨0, { frame := 0, port := 0, queue := 0, cells := 0, cls := 0, phase := 1, run := some { engine := 0, pc := 0 } }, { port := 0, bytes := [], md := [] }, { engine := 0, pc := 0 }, { ready with palm := { ready.palm with frames := [(0, { port := 0, bytes := [], md := [] })], replicas := [(0, { frame := 0, port := 0, queue := 0, cells := 0, cls := 0, phase := 1, run := some { engine := 0, pc := 0 } })] } }, by decide +kernel⟩,
   ⟨0, 1, { port := 0, bytes := [], md := [], results := [(1, 5)] }, 1, 5, [], { ready with palm := { ready.palm with frames := [(0, { port := 0, bytes := [], md := [], results := [(1, 5)] })] } }, by decide +kernel⟩,
   ⟨0, 2, { port := 0, bytes := [], md := [], results := [(1, 5)] }, 1, 5, [], { ready with palm := { ready.palm with frames := [(0, { port := 0, bytes := [], md := [], results := [(1, 5)] })] } }, by decide +kernel⟩,
   ⟨0, true, { port := 0, bytes := [], md := [], session := 1 }, { ready with palm := { ready.palm with frames := [(0, { port := 0, bytes := [], md := [], session := 1 })] } }, by decide +kernel⟩,
   ⟨0, false, { ready with pending := [.contextLost 5], palm := { ready.palm with frames := [(0, { port := 9, bytes := [], md := [], session := 1 }), (5, { port := 8, bytes := [], md := [], session := 1 })] } }, by decide +kernel⟩,
   ⟨0, { port := 0, bytes := [], md := List.replicate 52 255, stage := .decided }, ⟨[1023], 0, 0, false⟩, { ready with palm := { ready.palm with frames := [(0, { port := 0, bytes := [], md := List.replicate 52 255, stage := .decided })] } }, by decide +kernel⟩,
   ⟨0, { ready with palm := { ready.palm with frames := [(0, { port := 0, bytes := [], md := [], stage := .emitted })] } }, by decide +kernel⟩,
   ⟨0, { ready with palm := { ready.palm with frames := [(0, { port := 0, bytes := [], md := [] })] } }, by decide +kernel⟩⟩

theorem test_meets_EgressCommandsComplete :
    (∃ (port : Fin 1024) (s : State), s.stopped = false ∧ s.sends port.val = true ∧ s.on (prt port.val) F.prt_LINK_STATUS_TX_LPI = false) ∧
    (∃ (id : Nat) (r : Replica) (f : Frame) (s : State), s.stopped = false ∧ (s.replica? id = some r) ∧ (s.frame? r.frame = some f) ∧ r.ct = true ∧ r.phase = 3 ∧ f.verdict = none ∧ r.stomp = false) ∧
    (∃ (id : Nat) (r : Replica) (f : Frame) (s : State), s.stopped = false ∧ (s.replica? id = some r) ∧ (s.frame? r.frame = some f) ∧ r.phase = 2 ∧ s.mayStart r f = true ∧ s.sends r.port = true ∧ s.on (prt r.port) F.prt_LINK_STATUS_TX_LPI = false) ∧
    (∃ (id : Nat) (r : Replica) (f : Frame) (s : State), s.stopped = false ∧ (s.replica? id = some r) ∧ (s.frame? r.frame = some f) ∧ r.phase = 3 ∧ r.waiting = false ∧ ((f.verdict.isSome || r.stomp) = true)) ∧
    (∃ (h : Fin 16) (r : List Byte) (rest : List (List Byte)) (s : State), s.stopped = false ∧ ((s.hring h.val).onDie = r :: rest)) ∧
    (∃ (w : SlotWrite) (rest : List SlotWrite) (s : State), s.stopped = false ∧ (s.ses.buffer = w :: rest) ∧ (0x20 ≤ w.bytes.length) ∧ s.inRegion 2 w.address w.bytes.length = true) :=
  ⟨⟨1023, (portAt 1023 7), by decide +kernel⟩,
   ⟨0, { frame := 0, port := 0, queue := 0, cells := 0, cls := 0, ct := true, phase := 3 }, { port := 0, bytes := [], md := [] }, { ready with palm := { ready.palm with frames := [(0, { port := 0, bytes := [], md := [] })], replicas := [(0, { frame := 0, port := 0, queue := 0, cells := 0, cls := 0, ct := true, phase := 3 })] } }, by decide +kernel⟩,
   ⟨0, { frame := 0, port := 0, queue := 0, cells := 0, cls := 0, phase := 2 }, { port := 0, bytes := [], md := [], verdict := some 0, stage := .stored }, { portAt 0 7 with palm := { ready.palm with frames := [(0, { port := 0, bytes := [], md := [], verdict := some 0, stage := .stored })], replicas := [(0, { frame := 0, port := 0, queue := 0, cells := 0, cls := 0, phase := 2 })] } }, by decide +kernel⟩,
   ⟨0, { frame := 0, port := 0, queue := 0, cells := 0, cls := 0, phase := 3 }, { port := 0, bytes := [], md := [], verdict := some 0, stage := .stored }, { portAt 0 7 with palm := { ready.palm with frames := [(0, { port := 0, bytes := [], md := [], verdict := some 0, stage := .stored })], replicas := [(0, { frame := 0, port := 0, queue := 0, cells := 0, cls := 0, phase := 3 })] } }, by decide +kernel⟩,
   ⟨15, [0], [], { ready with palm := { ready.palm with rings := [(15, { onDie := [[0]] })] } }, by decide +kernel⟩,
   ⟨{ address := 0, seq := 7, bytes := List.replicate 32 1 }, [], { ready.wri 0x340 F.ddr0_REGION_SIZE 2 4096 with ses := { ready.ses with buffer := [{ address := 0, seq := 7, bytes := List.replicate 32 1 }] } }, by decide +kernel⟩⟩

theorem test_meets_MicrocodeCommandsComplete :
    (∃ (slice : Fin 32) (loc : Fin 32768) (s : State), s.stopped = false ∧ (s.store slice.val).faulty.contains loc.val = true) ∧
    (∃ (slice : Fin 32) (loc : Fin 32768) (s : State), s.stopped = false ∧ (s.store slice.val).poisoned.contains loc.val = true ∧ (s.store slice.val).repeats.contains loc.val = false) ∧
    (∃ (slice : Fin 32) (loc : Fin 32768) (s : State), s.stopped = false ∧ (s.store slice.val).poisoned.contains loc.val = true ∧ (s.store slice.val).repeats.contains loc.val = true) ∧
    (∃ (slice : Fin 32) (s : State), s.stopped = false ∧ s.shut ((ucsPage slice.val)) = false ∧ s.ucsState slice.val = 3) ∧
    (∃ (slice : Fin 32) (s : State), s.stopped = false ∧ s.shut ((ucsPage slice.val)) = false ∧ s.ucsState slice.val = 3 ∧ (¬ (s.epochDue ∧ s.on (ucsPage slice.val) F.ucs_BANK_CTRL_ARM = true))) ∧
    (∃ (slice : Fin 32) (s : State), s.stopped = false ∧ s.shut ((ucsPage slice.val)) = false ∧ ((s.ucsState slice.val = 3 ∧ s.epochDue ∧ s.on (ucsPage slice.val) F.ucs_BANK_CTRL_ARM = true ∨ s.ucsState slice.val = 4 ∧ coreCycle (s.store slice.val).since = coreCycle s.mono))) ∧
    (∃ (slice : Fin 32) (s : State), s.stopped = false ∧ s.shut ((ucsPage slice.val)) = false) ∧
    (∃ (slice : Fin 32) (s : State), s.stopped = false ∧ s.shut ((ucsPage slice.val)) = false) ∧
    (∃ (slice : Fin 32) (l : Load) (s : State), s.stopped = false ∧ s.ucsState slice.val = 2 ∧ (s.crown.load = some l)) ∧
    (∃ (slice : Fin 32) (s : State), s.stopped = false ∧ s.ucsState slice.val = 2 ∧ s.crown.load = none) ∧
    (∃ (slice : Fin 32) (s : State), s.stopped = false ∧ s.ucsState slice.val = 4 ∧ s.oldBankFrames slice.val = 0) ∧
    (∃ (slice : Fin 32) (s : State), s.stopped = false ∧ s.ucsState slice.val = 4 ∧ (s.store slice.val).slow = false ∧ ((s.store slice.val).since + ns 100000000 ≤ s.mono)) ∧
    (∃ (slice : Fin 32) (s : State), s.stopped = false ∧ s.ucsState slice.val = 5) :=
  ⟨⟨31, 32767, { ready with ucs := { ready.ucs with stores := [(31, { faulty := [32767] })] } }, by decide +kernel⟩,
   ⟨0, 0, { ready with ucs := { ready.ucs with stores := [(0, { poisoned := [0] })] } }, by decide +kernel⟩,
   ⟨0, 0, { ready with ucs := { ready.ucs with stores := [(0, { poisoned := [0], repeats := [0] })] } }, by decide +kernel⟩,
   ⟨31, (ready.wr (ucsPage 31) F.ucs_BANK_STATUS_STATE 3), by decide +kernel⟩,
   ⟨0, (ready.wr (ucsPage 0) F.ucs_BANK_STATUS_STATE 3), by decide +kernel⟩,
   ⟨31, (ready.wr (ucsPage 31) F.ucs_BANK_STATUS_STATE 4), by decide +kernel⟩,
   ⟨31, ready, by decide +kernel⟩,
   ⟨31, ready, by decide +kernel⟩,
   ⟨0, { ring := false, slices := 1 }, { ready.wr (ucsPage 0) F.ucs_BANK_STATUS_STATE 2 with crown := { ready.crown with load := some { ring := false, slices := 1 } } }, by decide +kernel⟩,
   ⟨31, (ready.wr (ucsPage 31) F.ucs_BANK_STATUS_STATE 2), by decide +kernel⟩,
   ⟨0, (ready.wr (ucsPage 0) F.ucs_BANK_STATUS_STATE 4), by decide +kernel⟩,
   ⟨31, { ready.wr (ucsPage 31) F.ucs_BANK_STATUS_STATE 4 with time := ns 100000000 * 2 ^ 32 }, by decide +kernel⟩,
   ⟨0, (ready.wr (ucsPage 0) F.ucs_BANK_STATUS_STATE 5), by decide +kernel⟩⟩

theorem test_meets_TableCommandsComplete :
    (∃ (queue : Fin 16) (tail : BitVec 12) (descs : List (List Byte)) (s : State), s.stopped = false ∧ s.shut ((cqPage queue.val)) = false ∧ (descs.length = (tail.toNat % s.cqSize queue.val + s.cqSize queue.val - s.rd (cqPage queue.val) F.tblq_CQ_TAIL % s.cqSize queue.val) % s.cqSize queue.val) ∧ (descs.all (fun d => d.length == 256) = true)) ∧
    (∃ (queue : Fin 16) (s : State), s.stopped = false ∧ s.on (cqPage queue.val) F.tblq_CQ_CFG_ENABLE = true) ∧
    (∃ (queue : Fin 16) (data : Word) (s : State), s.stopped = false ∧ s.shut ((cqPage queue.val)) = false ∧ (4 ≤ data.toNat / 256 % 16) ∧ (data.toNat / 256 % 16 ≤ 12) ∧ (data.toNat % 2 = 0) ∧ s.on (cqPage queue.val) F.tblq_CQ_CFG_ENABLE = false) ∧
    (∃ (queue : Fin 16) (data : Word) (s : State), s.stopped = false ∧ s.shut ((cqPage queue.val)) = false ∧ (4 ≤ data.toNat / 256 % 16) ∧ (data.toNat / 256 % 16 ≤ 12) ∧ (data.toNat % 2 = 1) ∧ s.on (cqPage queue.val) F.tblq_CQ_CFG_ENABLE = false) ∧
    (∃ (queue : Fin 16) (d : List Byte) (s : State), s.stopped = false ∧ (s.mustWait (.command queue.val 1 [] 0) = false) ∧ (s.command queue.val 1 = some d)) ∧
    (∃ (queue : Fin 16) (d : List Byte) (s : State), s.stopped = false ∧ (s.mustWait (.command queue.val 2 [] 0) = false) ∧ (s.command queue.val 2 = some d)) ∧
    (∃ (queue : Fin 16) (path : List Nat) (choice : Nat) (d : List Byte) (s : State), s.stopped = false ∧ s.mustWait (.command queue.val 3 path choice) = false ∧ (s.command queue.val 3 = some d)) ∧
    (∃ (queue : Fin 16) (d : List Byte) (s : State), s.stopped = false ∧ (s.mustWait (.command queue.val 4 [] 0) = false) ∧ (s.command queue.val 4 = some d)) ∧
    (∃ (queue : Fin 16) (d : List Byte) (s : State), s.stopped = false ∧ (s.mustWait (.command queue.val 5 [] 0) = false) ∧ (s.command queue.val 5 = some d)) ∧
    (∃ (queue : Fin 16) (d : List Byte) (s : State), s.stopped = false ∧ (s.mustWait (.command queue.val 6 [] 0) = false) ∧ (s.command queue.val 6 = some d) ∧ dTable d = 1 ∧ dFlag d 0 = false ∧ (dArg d ≤ 1023)) ∧
    (∃ (queue : Fin 16) (d : List Byte) (s : State), s.stopped = false ∧ (s.mustWait (.command queue.val 6 [] 0) = false) ∧ (s.command queue.val 6 = some d) ∧ ((dTable d ≠ 1 ∨ dFlag d 0 = true ∨ 1023 < dArg d))) ∧
    (∃ (queue : Fin 16) (d : List Byte) (s : State), s.stopped = false ∧ (s.mustWait (.command queue.val 7 [] 0) = false) ∧ (s.command queue.val 7 = some d) ∧ dTable d = 1 ∧ dFlag d 0 = false) :=
  ⟨⟨15, 1, [List.replicate 256 0], (ready.wr (cqPage 15) F.tblq_CQ_CFG_LOG2_SIZE 4), by decide +kernel⟩,
   ⟨15, (ready.wr (cqPage 15) F.tblq_CQ_CFG_ENABLE 1), by decide +kernel⟩,
   ⟨15, 0xC00, ready, by decide +kernel⟩,
   ⟨0, 0x401, ready, by decide +kernel⟩,
   ⟨0, [1], { ready with tbl := { ready.tbl with cqs := [(0, { fetched := [[1]] })] } }, by decide +kernel⟩,
   ⟨0, [2], { ready with tbl := { ready.tbl with cqs := [(0, { fetched := [[2]] })] } }, by decide +kernel⟩,
   ⟨0, [], 0, [3], { ready with tbl := { ready.tbl with cqs := [(0, { fetched := [[3]] })] } }, by decide +kernel⟩,
   ⟨0, [4], { ready with tbl := { ready.tbl with cqs := [(0, { fetched := [[4]] })] } }, by decide +kernel⟩,
   ⟨0, [5], { ready with tbl := { ready.tbl with cqs := [(0, { fetched := [[5]] })] } }, by decide +kernel⟩,
   ⟨15, [6, 1], { ready with tbl := { ready.tbl with cqs := [(15, { fetched := [[6, 1]] })] } }, by decide +kernel⟩,
   ⟨15, [6, 2], { ready with tbl := { ready.tbl with cqs := [(15, { fetched := [[6, 2]] })] } }, by decide +kernel⟩,
   ⟨15, [7, 1], { ready with tbl := { ready.tbl with cqs := [(15, { fetched := [[7, 1]] })] } }, by decide +kernel⟩⟩

theorem test_meets_EpochCommandsComplete :
    (∃ (queue : Fin 16) (d : List Byte) (s : State), s.stopped = false ∧ (s.command queue.val 8 = some d) ∧ dTable d = 0 ∧ (dArg d ≠ 0) ∧ s.holdsOlder (dArg d) = true) ∧
    (∃ (queue : Fin 16) (d : List Byte) (s : State), s.stopped = false ∧ (s.command queue.val 8 = some d) ∧ dTable d = 0 ∧ dArg d = 0 ∧ s.holdsOlder s.genNow = false) ∧
    (∃ (queue : Fin 16) (d : List Byte) (g : Nat) (s : State), s.stopped = false ∧ (s.command queue.val 8 = some d) ∧ (g = (if dArg d = 0 then s.genNow else dArg d))) ∧
    (∃ (queue : Fin 16) (g : Nat) (a : T80) (slow : Bool) (s : State), s.stopped = false ∧ ((s.cq queue.val).drain = some (g, a, slow)) ∧ s.holdsOlder g = false) ∧
    (∃ (queue : Fin 16) (g : Nat) (a : T80) (s : State), s.stopped = false ∧ ((s.cq queue.val).drain = some (g, a, false)) ∧ s.holdsOlder g = true ∧ (a + ns 100000000 ≤ s.mono)) ∧
    (∃ (queue : Fin 16) (d : List Byte) (s : State), s.stopped = false ∧ (s.command queue.val 9 = some d) ∧ dFlag d 5 = false ∧ dTable d = 0 ∧ ((s.epochState = 1 ∨ (s.epochState = 0 ∧ s.armed ≠ []))) ∧ (s.armed.any (fun g => s.ucsState g != 3) = false) ∧ ((s.rd 0x300 F.tbl0_EPOCH_STATUS_ERRORS = 0 ∨ dFlag d 6 = true))) ∧
    (∃ (queue : Fin 16) (d : List Byte) (s : State), s.stopped = false ∧ (s.command queue.val 9 = some d) ∧ dFlag d 5 = true ∧ dTable d = 0 ∧ s.epochState = 1) ∧
    (∃ (q : Nat) (s : State), s.stopped = false ∧ s.epochState = 2 ∧ (s.tbl.epoch.queue = some q) ∧ (s.now < s.tbl.epoch.effect)) ∧
    (∃ (journalOk : Bool) (q : Nat) (s : State), s.stopped = false ∧ s.epochState = 2 ∧ (s.tbl.epoch.queue = some q) ∧ journalOk = false) ∧
    (∃ (journalOk : Bool) (q : Nat) (s : State), s.stopped = false ∧ s.epochState = 2 ∧ (s.tbl.epoch.queue = some q) ∧ journalOk = true ∧ (s.tbl.epoch.effect ≤ s.now) ∧ (s.tbl.deferred = [])) ∧
    (∃ (s : State), s.stopped = false ∧ s.mustWait (.effect (s.tbl.epoch.queue.getD 0)) = false ∧ s.epochState = 3 ∧ (s.tbl.epoch.effect ≤ s.now) ∧ (s.tbl.epoch.changes.any (fun x => s.kept x.1 x.2) = false)) ∧
    (∃ (s : State), s.stopped = false ∧ s.epochState = 4 ∧ s.runsOlder s.tbl.epoch.gen = false) :=
  ⟨⟨0, [8, 0, 0, 0, 0, 0, 0, 0, 0, 0, 0, 0, 0, 0, 0, 0, 0, 0, 0, 0, 0, 0, 0, 0, 1], { ready with tbl := { ready.tbl with cqs := [(0, { fetched := [[8, 0, 0, 0, 0, 0, 0, 0, 0, 0, 0, 0, 0, 0, 0, 0, 0, 0, 0, 0, 0, 0, 0, 0, 1]] })] }, palm := { ready.palm with frames := [(0, { port := 0, bytes := [], md := [], stage := .decided })] } }, by decide +kernel⟩,
   ⟨0, [8], { ready with tbl := { ready.tbl with cqs := [(0, { fetched := [[8]] })] } }, by decide +kernel⟩,
   ⟨0, [8], 1, { ready with tbl := { ready.tbl with cqs := [(0, { fetched := [[8]] })] } }, by decide +kernel⟩,
   ⟨15, 1, 0, true, { ready with tbl := { ready.tbl with cqs := [(15, { drain := some (1, 0, true) })] } }, by decide +kernel⟩,
   ⟨15, 1, 0, { ready with time := ns 100000000 * 2 ^ 32, tbl := { ready.tbl with cqs := [(15, { drain := some (1, 0, false) })] }, palm := { ready.palm with frames := [(0, { port := 0, bytes := [], md := [], stage := .decided })] } }, by decide +kernel⟩,
   ⟨0, [9], { ready.wr 0x300 F.tbl0_EPOCH_STATUS_STATE 1 with tbl := { ready.tbl with cqs := [(0, { fetched := [[9]] })] } }, by decide +kernel⟩,
   ⟨0, [9, 0, 32], { ready.wr 0x300 F.tbl0_EPOCH_STATUS_STATE 1 with tbl := { ready.tbl with cqs := [(0, { fetched := [[9, 0, 32]] })] } }, by decide +kernel⟩,
   ⟨0, { ready.wr 0x300 F.tbl0_EPOCH_STATUS_STATE 2 with tbl := { ready.tbl with epoch := { queue := some 0, effect := ns 1000000000000 } } }, by decide +kernel⟩,
   ⟨false, 0, { ready.wr 0x300 F.tbl0_EPOCH_STATUS_STATE 2 with tbl := { ready.tbl with epoch := { queue := some 0 } } }, by decide +kernel⟩,
   ⟨true, 0, { ready.wr 0x300 F.tbl0_EPOCH_STATUS_STATE 2 with tbl := { ready.tbl with epoch := { queue := some 0, effect := 0 } } }, by decide +kernel⟩,
   ⟨(ready.wr 0x300 F.tbl0_EPOCH_STATUS_STATE 3), by decide +kernel⟩,
   ⟨(ready.wr 0x300 F.tbl0_EPOCH_STATUS_STATE 4), by decide +kernel⟩⟩

theorem test_meets_TableUpkeepCommandsComplete :
    (∃ (table : Fin 3) (index : Nat) (g : Nat) (s : State), s.stopped = false ∧ table.val = 0 ∧ ((s.emtAt index).since = some g) ∧ s.runsOlder g = false) ∧
    (∃ (s : State), s.stopped = false) ∧
    (∃ (path : List Nat) (sl : Nat) (e : LearnEv) (s : State), s.stopped = false ∧ s.mustWait (.learn path) = false ∧ (s.firstLearn = some (sl, e)) ∧ (e.stamp + ns 16384 ≤ s.now)) ∧
    (∃ (s : State), s.stopped = false ∧ ((s.tbl.holds.filter (fun x => decide (s.now ≤ ns (x.2 + s.rd 0x301 F.tbl1_LEARN_CFG_MOVE_HOLD)))).length ≠ s.tbl.holds.length)) ∧
    (∃ (index : Fin 0x400040) (e : EmtEntry) (s : State), s.stopped = false ∧ s.mustWait (.visit index.val) = false ∧ ((s.emtAt index.val).now = some e) ∧ s.on 0x301 F.tbl1_AGE_CFG_AGE_ENABLE = true ∧ e.isStatic = false ∧ (s.emtAt index.val).staged = none ∧ (min 64511 (s.rd 0x301 F.tbl1_AGE_CFG_AGE_LIMIT) ≤ s.age e)) ∧
    (∃ (entry : Fin 64) (k : Nat) (j : Nat) (s : State), s.stopped = false ∧ s.mustWait (.back entry.val) = false ∧ ((s.emtAt (stash0 + entry.val)).emtKeyOf = some k) ∧ ((s.candidates k).find? (fun j => (s.emtAt j).isFree) = some j) ∧ ((s.emtAt (stash0 + entry.val)).staged = none)) ∧
    (∃ (table : Fin 3) (index : Nat) (s : State), s.stopped = false ∧ (s.tbl.behind.contains (table.val + 1, index) = true) ∧ s.shadowReachable = true) ∧
    (∃ (lost : List Nat) (s : State), s.stopped = false ∧ s.shadowReachable = true ∧ ((lost = [] ∨ s.shadowPoisoned = true))) :=
  ⟨⟨0, 0, 1, { ready with tbl := { ready.tbl with emt := [(0, { since := some 1 })] } }, by decide +kernel⟩,
   ⟨ready, by decide +kernel⟩,
   ⟨[], 0, ⟨5, 0, 7⟩, { ready with time := ns 16384 * 2 ^ 32, tbl := { ready.tbl with learns := [(0, [⟨5, 0, 7⟩])] } }, by decide +kernel⟩,
   ⟨{ ready with time := ns 1000000000000 * 2 ^ 32, tbl := { ready.tbl with holds := [(0, 0)] } }, by decide +kernel⟩,
   ⟨0, ⟨0, 0, false, true, 0⟩, { (ready.wr 0x301 F.tbl1_AGE_CFG_AGE_ENABLE 1).wr 0x301 F.tbl1_AGE_CFG_AGE_LIMIT 0 with tbl := { ready.tbl with emt := [(0, { now := some ⟨0, 0, false, true, 0⟩ })] } }, by decide +kernel⟩,
   ⟨0, 0, (emtSlot (ready.rdi 0x301 F.tbl1_HASH_SEED 0) 0), { ready with tbl := { ready.tbl with emt := [(stash0, { now := some ⟨0, 0, false, true, 0⟩ })] } }, by decide +kernel⟩,
   ⟨2, 5, { ready.wr 0x340 F.ddr0_DDR_STATUS_AVAILABLE 1 with tbl := { ready.tbl with behind := [(3, 5)] } }, by decide +kernel⟩,
   ⟨[], (ready.wr 0x340 F.ddr0_DDR_STATUS_AVAILABLE 1), by decide +kernel⟩⟩

theorem test_meets_ActsOnTheTablesKeepTheirOrder :
    ((∃ (l : List TableAct) (a : TableAct), nextAct l = some a)) ∧
    ((∃ l : List TableAct, l ≠ [])) ∧
    (∃ (queue : Fin 16) (c : Instr) (r : Nat × Nat) (k : Option Nat) (s : State), (c ∈ s.pending) ∧ (s.rankOf c = some (r, k)) ∧ (k ≠ some queue.val) ∧ ((r.1 < 1 ∨ (r.1 = 1 ∧ r.2 < queue.val)))) ∧
    (∃ (queue : Fin 16) (c : Instr) (r : Nat × Nat) (k : Option Nat) (s : State), (c ∈ s.pending) ∧ (s.rankOf c = some (r, k)) ∧ (k ≠ some queue.val) ∧ ((r.1 < 1 ∨ (r.1 = 1 ∧ r.2 < queue.val)))) ∧
    (∃ (queue : Fin 16) (c : Instr) (r : Nat × Nat) (k : Option Nat) (s : State), (c ∈ s.pending) ∧ (s.rankOf c = some (r, k)) ∧ (k ≠ some queue.val) ∧ ((r.1 < 1 ∨ (r.1 = 1 ∧ r.2 < queue.val)))) ∧
    (∃ (c : Instr) (r : Nat × Nat) (k : Option Nat) (s : State), (c ∈ s.pending) ∧ (s.rankOf c = some (r, k)) ∧ (r.1 < 1)) ∧
    (∃ (c : Instr) (r : Nat × Nat) (k : Option Nat) (s : State), (c ∈ s.pending) ∧ (s.rankOf c = some (r, k)) ∧ (r.1 < 2)) ∧
    (∃ (c : Instr) (r : Nat × Nat) (k : Option Nat) (s : State), (c ∈ s.pending) ∧ (s.rankOf c = some (r, k)) ∧ (r.1 < 3)) ∧
    (∃ (queue : Fin 16) (c : Instr) (r : Nat × Nat) (k : Option Nat) (s : State), (c ∈ s.pending) ∧ (s.rankOf c = some (r, k)) ∧ (k ≠ some queue.val) ∧ (r.1 < 4)) ∧
    (∃ (queue : Fin 16) (c : Instr) (r : Nat × Nat) (k : Option Nat) (s : State), (c ∈ s.pending) ∧ (s.rankOf c = some (r, k)) ∧ (k ≠ some queue.val) ∧ (r.1 < 4)) ∧
    (∃ (c : Instr) (r : Nat × Nat) (k : Option Nat) (s : State), (c ∈ s.pending) ∧ (s.rankOf c = some (r, k)) ∧ (r.1 < 4)) :=
  ⟨⟨[.visit 0, .learn []], .learn [], by decide +kernel⟩,
   ⟨[.visit 0], by decide⟩,
   ⟨5, .delete 3, (1, 3), some 3, { ready with pending := [.delete 3] }, by decide +kernel⟩,
   ⟨5, .microwordIssue false 0 [] 0 0, (0, 0), none, { ready with pending := [.microwordIssue false 0 [] 0 0] }, by decide +kernel⟩,
   ⟨5, .microwordIssue false 0 [] 0 0, (0, 0), none, { ready with pending := [.microwordIssue false 0 [] 0 0] }, by decide +kernel⟩,
   ⟨.microwordIssue false 0 [] 0 0, (0, 0), none, { ready with pending := [.microwordIssue false 0 [] 0 0] }, by decide +kernel⟩,
   ⟨.delete 3, (1, 3), some 3, { ready with pending := [.delete 3] }, by decide +kernel⟩,
   ⟨.learnApply [], (2, 0), none, { ready with pending := [.learnApply []] }, by decide +kernel⟩,
   ⟨0, .stashMoveBack 1, (3, 0), none, { ready with pending := [.stashMoveBack 1] }, by decide +kernel⟩,
   ⟨0, .learnApply [], (2, 0), none, { ready with pending := [.learnApply []] }, by decide +kernel⟩,
   ⟨.microwordIssue false 0 [] 0 0, (0, 0), none, { ready with pending := [.microwordIssue false 0 [] 0 0] }, by decide +kernel⟩⟩

theorem test_meets_BufferCommandsComplete :
    (∃ (s : State), s.stopped = false ∧ s.shut (0x4A4) = false) ∧
    (∃ (s : State), s.stopped = false ∧ s.shut (0x4A4) = false) ∧
    (∃ (which : Fin 35) (s : State), s.stopped = false ∧ (s.shut (if which.val < 3 then 0x4A4 else 0x420 + (which.val - 3)) = true)) ∧
    (∃ (which : Fin 35) (s : State), s.stopped = false ∧ (which.val < 3) ∧ s.shut 0x4A4 = false) ∧
    (∃ (which : Fin 35) (s : State), s.stopped = false ∧ (3 ≤ which.val) ∧ (s.shut (0x420 + (which.val - 3)) = false)) ∧
    (∃ (slice : Fin 32) (s : State), s.stopped = false ∧ (s.shut ((0x420 + slice.val)) = false)) ∧
    (∃ (slice : Fin 32) (s : State), s.stopped = false ∧ (s.shut ((0x400 + slice.val)) = false)) ∧
    (∃ (s : State), s.stopped = false) ∧
    (∃ (s : State), s.stopped = false) ∧
    (∃ (s : State), s.stopped = false) ∧
    (∃ (bank : Fin 1152) (s : State), s.stopped = false ∧ (s.dueAt (0x10000 + bank.val) 1000000000 s.nowNs = true)) ∧
    (∃ (s : State), s.stopped = false ∧ s.shut (0x4A4) = false) ∧
    (∃ (bank : Fin 2048) (s : State), s.stopped = false ∧ s.shut (0x4A4) = false ∧ (bank.val < 1152) ∧ (s.bankState bank.val < 2)) ∧
    (∃ (bank : Fin 2048) (s : State), s.stopped = false ∧ s.shut (0x4A4) = false ∧ (bank.val < 1152) ∧ s.bankState bank.val = 2) ∧
    (∃ (bank : Fin 2048) (s : State), s.stopped = false ∧ s.shut (0x4A4) = false ∧ ((1152 ≤ bank.val ∨ s.bankState bank.val = 3 ∨ s.bankState bank.val = 4))) ∧
    (∃ (s : State), s.on 0x4A4 F.bufx_SPARE_STATUS_COPY_BUSY = true) :=
  ⟨⟨ready, by decide +kernel⟩,
   ⟨ready, by decide +kernel⟩,
   ⟨3, (ready.wr 0x420 F.hdr_PAGE_STATUS_RESET_BUSY 1), by decide +kernel⟩,
   ⟨2, ready, by decide +kernel⟩,
   ⟨34, ready, by decide +kernel⟩,
   ⟨31, ready, by decide +kernel⟩,
   ⟨0, ready, by decide +kernel⟩,
   ⟨ready, by decide +kernel⟩,
   ⟨ready, by decide +kernel⟩,
   ⟨ready, by decide +kernel⟩,
   ⟨1151, { ready with time := ns 1000000000 * 2 ^ 32 }, by decide +kernel⟩,
   ⟨ready, by decide +kernel⟩,
   ⟨1151, ready, by decide +kernel⟩,
   ⟨7, (ready.wri (bufg 7) F.bufg_BANK_STATE 7 2), by decide +kernel⟩,
   ⟨2047, ready, by decide +kernel⟩,
   ⟨(ready.wr 0x4A4 F.bufx_SPARE_STATUS_COPY_BUSY 1), by decide +kernel⟩⟩

theorem test_meets_MergeCommandsComplete :
    (∃ (group : Fin 64) (s : State), s.stopped = false ∧ s.shut ((mrgPage group.val)) = false ∧ s.on (mrgPage group.val) F.mrg_MRG_STATUS_ENABLED = false ∧ s.mergeRefusal group.val = 0) ∧
    (∃ (group : Fin 64) (s : State), s.stopped = false ∧ s.shut ((mrgPage group.val)) = false ∧ s.on (mrgPage group.val) F.mrg_MRG_STATUS_ENABLED = false ∧ (s.mergeRefusal group.val ≠ 0)) ∧
    (∃ (group : Fin 64) (s : State), s.stopped = false ∧ s.shut ((mrgPage group.val)) = false ∧ s.on (mrgPage group.val) F.mrg_MRG_STATUS_ENABLED = true) ∧
    (∃ (frame : Nat) (f : Frame) (s : State), s.stopped = false ∧ (s.frame? frame = some f) ∧ f.stage = .decided ∧ (128 ≤ mdGet f.md 0x36 1)) ∧
    (∃ (group : Fin 64) (h : HeldFrame) (rest : List HeldFrame) (s : State), s.stopped = false ∧ ((s.merge group.val).held = h :: rest) ∧ s.emits group.val h = true) ∧
    (∃ (group : Fin 64) (h : HeldFrame) (rest : List HeldFrame) (s : State), s.stopped = false ∧ ((s.merge group.val).held = h :: rest) ∧ s.emits group.val h = true) ∧
    (∃ (group : Fin 64) (h : HeldFrame) (rest : List HeldFrame) (s : State), s.stopped = false ∧ ((s.merge group.val).held = h :: rest) ∧ s.emits group.val h = true) ∧
    (∃ (group : Fin 64) (h : HeldFrame) (rest : List HeldFrame) (s : State), s.stopped = false ∧ ((s.merge group.val).held = h :: rest) ∧ s.emits group.val h = true) ∧
    (∃ (group : Fin 64) (s : State), s.stopped = false ∧ (s.nowNs + 1000 ≤ (secondOf s.now + 1) * 1000000000) ∧ ((secondOf s.now + 1) * 1000000000 ≤ s.nowNs + 1000000) ∧ ((s.merge group.val).seeds.at? (secondOf s.now + 1) = none)) ∧
    (∃ (group : Fin 64) (n : Nat) (v : Nat) (s : State), s.stopped = false ∧ (((s.merge group.val).seeds.filter (fun p => p.1 < secondOf s.now)).getLast? = some (n, v)) ∧ ((s.rd (mrgPage group.val) F.mrg_SEED_SECOND ≠ n ∨ s.rd (mrgPage group.val) F.mrg_SEED_PREV ≠ v))) ∧
    (∃ (group : Fin 64) (slot : Fin 64) (s : State), s.stopped = false ∧ s.rdi (mrgPage group.val) F.mrg_MEMBER_VALID slot.val = 1 ∧ s.rdi (mrgPage group.val) F.mrg_MEMBER_PRESENT slot.val = 1 ∧ s.slotHere group.val slot.val = false) ∧
    (∃ (group : Fin 64) (slot : Fin 64) (s : State), s.stopped = false ∧ s.rdi (mrgPage group.val) F.mrg_MEMBER_VALID slot.val = 1 ∧ s.rdi (mrgPage group.val) F.mrg_MEMBER_PRESENT slot.val = 0 ∧ ((s.rdi (mrgPage group.val) F.mrg_MEMBER_REMOTE slot.val = 0 ∨ s.memberChip (s.rdi (mrgPage group.val) F.mrg_MEMBER_CHIP_ID slot.val) = true)) ∧ s.slotHere group.val slot.val = true) :=
  ⟨⟨0, (((ready.wri (mrgPage 0) F.mrg_MEMBER_VALID 0 1).wri (mrgPage 0) F.mrg_PATH_CAL_VALID 0 1).wr (mrgPage 0) F.mrg_MRG_CFG_H 8), by decide +kernel⟩,
   ⟨63, ready, by decide +kernel⟩,
   ⟨63, (ready.wr (mrgPage 63) F.mrg_MRG_STATUS_ENABLED 1), by decide +kernel⟩,
   ⟨0, { port := 0, bytes := [], md := List.replicate 80 255, stage := .decided }, { ready with palm := { ready.palm with frames := [(0, { port := 0, bytes := [], md := List.replicate 80 255, stage := .decided })] } }, by decide +kernel⟩,
   ⟨63, ⟨0, 0, 0, 0, 0, 1⟩, [], { ready with timing := { ready.timing with merges := [(63, { held := [⟨0, 0, 0, 0, 0, 1⟩], closing := true })] } }, by decide +kernel⟩,
   ⟨63, ⟨0, 0, 0, 0, 0, 1⟩, [], { ready with timing := { ready.timing with merges := [(63, { held := [⟨0, 0, 0, 0, 0, 1⟩], closing := true })] } }, by decide +kernel⟩,
   ⟨0, ⟨0, 0, 0, 0, 0, 1⟩, [], { ready with timing := { ready.timing with merges := [(0, { held := [⟨0, 0, 0, 0, 0, 1⟩], closing := true })] } }, by decide +kernel⟩,
   ⟨0, ⟨0, 0, 0, 0, 0, 1⟩, [], { ready with timing := { ready.timing with merges := [(0, { held := [⟨0, 0, 0, 0, 0, 1⟩], closing := true })] } }, by decide +kernel⟩,
   ⟨63, { ready with time := ns 999500000 * 2 ^ 32 }, by decide +kernel⟩,
   ⟨63, 1, 7, { ready with time := ns 2000000000 * 2 ^ 32, timing := { ready.timing with merges := [(63, { seeds := [(1, 7)] })] } }, by decide +kernel⟩,
   ⟨63, 63, ((ready.wri (mrgPage 63) F.mrg_MEMBER_VALID 63 1).wri (mrgPage 63) F.mrg_MEMBER_PRESENT 63 1), by decide +kernel⟩,
   ⟨0, 0, ((portAt 0 7).wri (mrgPage 0) F.mrg_MEMBER_VALID 0 1), by decide +kernel⟩⟩

theorem test_meets_ReleaseCommandsComplete :
    (∃ (group : Fin 256) (s : State), s.stopped = false ∧ s.shut ((relPage group.val)) = false ∧ s.on (relPage group.val) F.rel_REL_STATUS_ENABLED = false ∧ s.relRefusal group.val = 0) ∧
    (∃ (group : Fin 256) (s : State), s.stopped = false ∧ s.shut ((relPage group.val)) = false ∧ s.on (relPage group.val) F.rel_REL_STATUS_ENABLED = false ∧ (s.relRefusal group.val ≠ 0)) ∧
    (∃ (group : Fin 256) (s : State), s.stopped = false ∧ s.shut ((relPage group.val)) = false) ∧
    (∃ (frame : Nat) (f : Frame) (s : State), s.stopped = false ∧ (s.frame? frame = some f) ∧ (((f.stage = .decided ∧ mdGet f.md 0x36 1 < 128) ∨ f.stage = .emitted)) ∧ f.ctrl 0 = true) ∧
    (∃ (group : Fin 256) (s : State), s.stopped = false ∧ s.shut ((relPage group.val)) = false ∧ ((s.on (relPage group.val) F.rel_REL_STATUS_ENABLED = false ∨ s.on (relPage group.val) F.rel_REL_CFG_MODE = true))) ∧
    (∃ (group : Fin 256) (s : State), s.stopped = false ∧ s.shut ((relPage group.val)) = false ∧ s.on (relPage group.val) F.rel_REL_STATUS_ENABLED = true ∧ s.on (relPage group.val) F.rel_REL_CFG_MODE = false) ∧
    (∃ (group : Fin 256) (s : State), s.stopped = false ∧ ((s.rel group.val).batches.any (fun b => !b.open_ && !b.done && decide (b.at_ ≤ s.now + s.relBytes group.val (s.relMaxFrame group.val + 20))) = true)) ∧
    (∃ (group : Fin 256) (b : Batch) (s : State), s.stopped = false ∧ ((s.rel group.val).batches.find? (fun b => !b.cut && decide (b.at_ ≤ s.now + ns 400)) = some b)) ∧
    (∃ (group : Fin 256) (b : Batch) (s : State), s.stopped = false ∧ ((s.rel group.val).batches.find? (fun b => !b.cut && decide (b.at_ ≤ s.now + ns 400)) = some b) ∧ b.explicit = false ∧ ((s.members group.val).filter (fun p => !s.up p || s.speed p != speedOfCode (s.relSpeed group.val)) = [])) ∧
    (∃ (group : Fin 256) (s : State), s.stopped = false ∧ ((s.rel group.val).batches.any (fun b => b.open_ && !b.done && decide (b.at_ ≤ s.now + s.relBytes group.val 151)) = true)) ∧
    (∃ (group : Fin 256) (b : Batch) (s : State), s.stopped = false ∧ ((s.rel group.val).batches.find? (fun b => b.cut && !b.done && decide (b.at_ ≤ s.now)) = some b) ∧ ((s.overlaps group.val b || (!b.explicit && b.late && s.membersBusy group.val)) = false)) ∧
    (∃ (group : Fin 256) (b : Batch) (s : State), s.stopped = false ∧ ((s.rel group.val).batches.find? (fun b => b.cut && !b.done && decide (b.at_ ≤ s.now)) = some b) ∧ ((s.overlaps group.val b || (!b.explicit && b.late && s.membersBusy group.val)) = true)) ∧
    (∃ (group : Fin 256) (b : Batch) (s : State), s.stopped = false ∧ ((s.rel group.val).batches.find? (fun b => b.done && !(s.palm.replicas.any fun x => x.2.releaseOf == group.val + 1 && b.frames.contains x.2.frame)) = some b)) ∧
    (∃ (group : Fin 256) (a : T80) (p : Nat) (rest : List (T80 × Nat)) (s : State), s.stopped = false ∧ ((s.rel group.val).next = (a, p) :: rest) ∧ (a ≤ s.now)) :=
  ⟨⟨255, ((ready.wr (relPage 255) F.rel_REL_CFG_FWD_ENABLE 1).wr 0x55 F.hbd5_GROUP_CFG_ENABLE 1), by decide +kernel⟩,
   ⟨0, ready, by decide +kernel⟩,
   ⟨255, ready, by decide +kernel⟩,
   ⟨0, { port := 0, bytes := [], md := List.replicate 0x42 0 ++ List.replicate 0x3E 1, stage := .decided }, { ready with palm := { ready.palm with frames := [(0, { port := 0, bytes := [], md := List.replicate 0x42 0 ++ List.replicate 0x3E 1, stage := .decided })] } }, by decide +kernel⟩,
   ⟨255, ready, by decide +kernel⟩,
   ⟨0, (ready.wr (relPage 0) F.rel_REL_STATUS_ENABLED 1), by decide +kernel⟩,
   ⟨255, { ready with timing := { ready.timing with releases := [(255, { batches := [{ at_ := 0 }] })] } }, by decide +kernel⟩,
   ⟨255, { at_ := 0 }, { ready with timing := { ready.timing with releases := [(255, { batches := [{ at_ := 0 }] })] } }, by decide +kernel⟩,
   ⟨0, { at_ := 0, explicit := false }, { ready with timing := { ready.timing with releases := [(0, { batches := [{ at_ := 0, explicit := false }] })] } }, by decide +kernel⟩,
   ⟨0, { ready with timing := { ready.timing with releases := [(0, { batches := [{ at_ := 0, open_ := true }] })] } }, by decide +kernel⟩,
   ⟨255, { at_ := 0, cut := true }, { ready with timing := { ready.timing with releases := [(255, { batches := [{ at_ := 0, cut := true }] })] } }, by decide +kernel⟩,
   ⟨1, { at_ := 1, cut := true }, { (ready.wri (relPage 0) F.rel_MEMBERS 0 1).wri (relPage 1) F.rel_MEMBERS 0 1 with time := ns 100 * 2 ^ 32, timing := { ready.timing with releases := [(0, { batches := [{ at_ := 0, open_ := true }] }), (1, { batches := [{ at_ := 1, cut := true }] })] } }, by decide +kernel⟩,
   ⟨255, { at_ := 0, done := true }, { ready with timing := { ready.timing with releases := [(255, { batches := [{ at_ := 0, done := true }] })] } }, by decide +kernel⟩,
   ⟨255, 0, 5, [], { ready with timing := { ready.timing with releases := [(255, { next := [(0, 5)] })] } }, by decide +kernel⟩⟩

theorem test_meets_SessionCommandsComplete :
    (∃ (s : State), s.stopped = false ∧ s.shut (0x240) = false ∧ s.sesWaits (.command 2 (s.rd 0x240 F.ses0_CTX_SEL)) = false) ∧
    (∃ (s : State), s.stopped = false ∧ s.shut (0x240) = false ∧ s.sesWaits (.command 2 (s.rd 0x240 F.ses0_CTX_SEL)) = true) ∧
    (∃ (s : State), s.stopped = false ∧ s.shut (0x240) = false ∧ ((s.ctx (s.rd 0x240 F.ses0_CTX_SEL)).state ≠ 0) ∧ s.sesWaits (.command 2 (s.rd 0x240 F.ses0_CTX_SEL)) = false ∧ (s.ses.deferred = [])) ∧
    (∃ (s : State), s.stopped = false ∧ s.shut (0x240) = false ∧ s.sesWaits (.command 2 (s.rd 0x240 F.ses0_CTX_SEL)) = false ∧ (s.ses.deferred = []) ∧ (s.ctx (s.rd 0x240 F.ses0_CTX_SEL)).state = 0) ∧
    (∃ (s : State), s.stopped = false ∧ s.shut (0x240) = false ∧ s.sesWaits (.command 1 (s.rd 0x240 F.ses0_CTX_SEL)) = false) ∧
    (∃ (s : State), s.stopped = false ∧ s.shut (0x240) = false ∧ s.sesWaits (.command 1 (s.rd 0x240 F.ses0_CTX_SEL)) = true) ∧
    (∃ (s : State), s.stopped = false ∧ s.shut (0x240) = false ∧ s.armable (s.ctx (s.rd 0x240 F.ses0_CTX_SEL)) = true ∧ s.sesWaits (.command 1 (s.rd 0x240 F.ses0_CTX_SEL)) = false ∧ (s.ses.deferred = [])) ∧
    (∃ (s : State), s.stopped = false ∧ s.shut (0x240) = false ∧ s.sesWaits (.command 1 (s.rd 0x240 F.ses0_CTX_SEL)) = false ∧ (s.ses.deferred = []) ∧ s.armable (s.ctx (s.rd 0x240 F.ses0_CTX_SEL)) = false) ∧
    (∃ (s : State), s.stopped = false ∧ s.shut (0x240) = false ∧ s.sesWaits (.command 3 (s.rd 0x240 F.ses0_CTX_SEL)) = false) ∧
    (∃ (s : State), s.stopped = false ∧ s.shut (0x240) = false ∧ s.sesWaits (.command 3 (s.rd 0x240 F.ses0_CTX_SEL)) = true) ∧
    (∃ (s : State), s.stopped = false ∧ s.shut (0x240) = false ∧ (s.ctx (s.rd 0x240 F.ses0_CTX_SEL)).state = 2 ∧ s.sesWaits (.command 3 (s.rd 0x240 F.ses0_CTX_SEL)) = false ∧ (s.ses.deferred = [])) ∧
    (∃ (s : State), s.stopped = false ∧ s.shut (0x240) = false ∧ s.sesWaits (.command 3 (s.rd 0x240 F.ses0_CTX_SEL)) = false ∧ (s.ses.deferred = []) ∧ ((s.ctx (s.rd 0x240 F.ses0_CTX_SEL)).state ≠ 2)) ∧
    (∃ (s : State), s.stopped = false ∧ s.shut (0x240) = false ∧ s.sesWaits (.command 4 (s.rd 0x240 F.ses0_CTX_SEL)) = false) ∧
    (∃ (s : State), s.stopped = false ∧ s.shut (0x240) = false ∧ s.sesWaits (.command 4 (s.rd 0x240 F.ses0_CTX_SEL)) = true) ∧
    (∃ (s : State), s.stopped = false ∧ s.shut (0x240) = false ∧ (s.ctx (s.rd 0x240 F.ses0_CTX_SEL)).state = 2 ∧ s.sesWaits (.command 4 (s.rd 0x240 F.ses0_CTX_SEL)) = false ∧ (s.ses.deferred = [])) ∧
    (∃ (s : State), s.stopped = false ∧ s.shut (0x240) = false ∧ s.sesWaits (.command 4 (s.rd 0x240 F.ses0_CTX_SEL)) = false ∧ (s.ses.deferred = []) ∧ ((s.ctx (s.rd 0x240 F.ses0_CTX_SEL)).state ≠ 2)) ∧
    (∃ (s : State), s.stopped = false ∧ s.shut (0x240) = false) ∧
    (∃ (s : State), s.stopped = false ∧ s.shut (0x240) = false) ∧
    (∃ (index : Fin 8192) (s : State), s.stopped = false ∧ s.shut (0x240) = false ∧ (index.val < 4096)) ∧
    (∃ (context : Fin 8192) (s : State), s.stopped = false ∧ s.sesWaits (.legs context.val) = false) ∧
    (∃ (context : Fin 8192) (s : State), s.stopped = false ∧ s.sesWaits (.legs context.val) = true) ∧
    (∃ (context : Fin 8192) (s : State), s.stopped = false ∧ s.sesWaits (.legs context.val) = false ∧ (s.ses.deferred = []) ∧ ((s.ctx context.val).state ≠ 0) ∧ (s.ctx context.val).order = false ∧ s.silent (s.ctx context.val) false = true ∧ s.silent (s.ctx context.val) true = false) ∧
    (∃ (context : Fin 8192) (s : State), s.stopped = false ∧ s.sesWaits (.gaps context.val) = false) ∧
    (∃ (context : Fin 8192) (s : State), s.stopped = false ∧ s.sesWaits (.gaps context.val) = true) ∧
    (∃ (q : RetxRequest) (rest : List RetxRequest) (s : State), s.stopped = false ∧ (s.ses.requests = q :: rest)) ∧
    (∃ (q : RetxRequest) (rest : List RetxRequest) (s : State), s.stopped = false ∧ (s.ses.requests = q :: rest)) ∧
    (∃ (q : RetxRequest) (rest : List RetxRequest) (s : State), s.stopped = false ∧ (s.ses.requests = q :: rest) ∧ ((s.ctx q.ctx).state ≠ 0) ∧ (s.ctx q.ctx).ringEn = true ∧ (s.requester q.requester).enable = true ∧ q.count = 1 ∧ ((s.requester q.requester).tokens ≠ 0) ∧ ((q.held.at? 0).isSome = true)) ∧
    (∃ (s : State), s.stopped = false ∧ s.dueAt 7 1000000 s.nowNs = true) ∧
    (∃ (s : State), s.stopped = false ∧ s.shut (0x240) = false) ∧
    (∃ (frame : Nat) (s : State), s.stopped = false ∧ s.sesWaits (.lost frame) = false) ∧
    (∃ (frame : Nat) (s : State), s.stopped = false ∧ s.sesWaits (.lost frame) = true) ∧
    (∃ (frame : Nat) (f : Frame) (s : State), s.stopped = false ∧ s.sesWaits (.lost frame) = false ∧ (s.ses.deferred = []) ∧ (s.frame? frame = some f) ∧ f.session = 1) :=
  ⟨⟨ready, by decide +kernel⟩,
   ⟨{ ready with ses := { ready.ses with deferred := [.legs 0] } }, by decide +kernel⟩,
   ⟨{ ready with ses := { ready.ses with ctxs := [(0, { state := 2 })] } }, by decide +kernel⟩,
   ⟨ready, by decide +kernel⟩,
   ⟨ready, by decide +kernel⟩,
   ⟨{ ready with ses := { ready.ses with deferred := [.legs 0] } }, by decide +kernel⟩,
   ⟨(portAt 0 7), by decide +kernel⟩,
   ⟨{ ready with ses := { ready.ses with ctxs := [(0, { state := 2 })] } }, by decide +kernel⟩,
   ⟨ready, by decide +kernel⟩,
   ⟨{ ready with ses := { ready.ses with deferred := [.legs 0] } }, by decide +kernel⟩,
   ⟨{ ready with ses := { ready.ses with ctxs := [(0, { state := 2 })] } }, by decide +kernel⟩,
   ⟨ready, by decide +kernel⟩,
   ⟨ready, by decide +kernel⟩,
   ⟨{ ready with ses := { ready.ses with deferred := [.legs 0] } }, by decide +kernel⟩,
   ⟨{ ready with ses := { ready.ses with ctxs := [(0, { state := 2, gap0 := some ⟨1, 2, 2, 0, 0⟩ })] } }, by decide +kernel⟩,
   ⟨ready, by decide +kernel⟩,
   ⟨ready, by decide +kernel⟩,
   ⟨ready, by decide +kernel⟩,
   ⟨4095, ready, by decide +kernel⟩,
   ⟨8191, ready, by decide +kernel⟩,
   ⟨8191, { ready with pending := [.sessionDecision 0 true] }, by decide +kernel⟩,
   ⟨8191, { ready with time := ns 1000000000000 * 2 ^ 32, ses := { ready.ses with ctxs := [(8191, { state := 2, heardA := some 0 })] } }, by decide +kernel⟩,
   ⟨0, ready, by decide +kernel⟩,
   ⟨8191, { ready with pending := [.sessionDecision 0 true] }, by decide +kernel⟩,
   ⟨{ ctx := 0, seq := 0, count := 1, requester := 0, port := 0, md := [], gen := 0, held := [] }, [], { ready with ses := { ready.ses with requests := [{ ctx := 0, seq := 0, count := 1, requester := 0, port := 0, md := [], gen := 0, held := [] }] } }, by decide +kernel⟩,
   ⟨{ ctx := 0, seq := 0, count := 1, requester := 0, port := 0, md := [], gen := 0, held := [] }, [], { ready with ses := { ready.ses with requests := [{ ctx := 0, seq := 0, count := 1, requester := 0, port := 0, md := [], gen := 0, held := [] }] } }, by decide +kernel⟩,
   ⟨{ ctx := 0, seq := 0, count := 1, requester := 0, port := 0, md := [], gen := 0, held := [(0, [1])] }, [], { ready with ses := { ready.ses with ctxs := [(0, { state := 2, cfg := 8 })], requesters := [(0, { enable := true, tokens := 1 })], requests := [{ ctx := 0, seq := 0, count := 1, requester := 0, port := 0, md := [], gen := 0, held := [(0, [1])] }] } }, by decide +kernel⟩,
   ⟨{ ready with time := ns 1000000 * 2 ^ 32 }, by decide +kernel⟩,
   ⟨ready, by decide +kernel⟩,
   ⟨0, ready, by decide +kernel⟩,
   ⟨0, { ready with pending := [.contextLost 5], palm := { ready.palm with frames := [(0, { port := 9, bytes := [], md := [], session := 1 }), (5, { port := 8, bytes := [], md := [], session := 1 })] } }, by decide +kernel⟩,
   ⟨0, { port := 0, bytes := [], md := [], session := 1 }, { ready with palm := { ready.palm with frames := [(0, { port := 0, bytes := [], md := [], session := 1 })] } }, by decide +kernel⟩⟩

theorem test_meets_LedgerCommandsComplete :
    (∃ (stream : Fin 32) (x : Formed) (s : State), s.ldg.early.contains stream.val = false ∧ ((s.anchorComes && s.recording && !s.fills stream.val && (s.stream stream.val).closedFor != some s.anchorNs) = false) ∧ (s.ldg.formed.find? (fun y => y.stream == stream.val && decide (coreCycle y.since < coreCycle s.mono)) = some x) ∧ s.taking stream.val = true) ∧
    (∃ (stream : Fin 32) (x : Formed) (s : State), s.ldg.early.contains stream.val = false ∧ ((s.anchorComes && s.recording && !s.fills stream.val && (s.stream stream.val).closedFor != some s.anchorNs) = false) ∧ (s.ldg.formed.find? (fun y => y.stream == stream.val && decide (coreCycle y.since < coreCycle s.mono)) = some x) ∧ s.taking stream.val = false) ∧
    (∃ (stream : Fin 32) (s : State), s.ldg.early.contains stream.val = false ∧ ((s.anchorComes && s.recording && !s.fills stream.val && (s.stream stream.val).closedFor != some s.anchorNs) = false) ∧ (s.ldg.formed.find? (fun y => y.stream == stream.val && decide (coreCycle y.since < coreCycle s.mono)) = none)) ∧
    (∃ (stream : Fin 32) (s : State), s.ldg.early.contains stream.val = true) ∧
    (∃ (stream : Fin 32) (s : State), s.ldg.early.contains stream.val = false ∧ ((s.anchorComes && s.recording && !s.fills stream.val && (s.stream stream.val).closedFor != some s.anchorNs) = true)) ∧
    (∃ (s : State), s.stopped = false ∧ s.shut (0x71) = false ∧ s.ldg.selAt = none) ∧
    (∃ (s : State), s.stopped = false ∧ s.shut (0x71) = false ∧ (s.ldg.selAt ≠ none)) ∧
    (∃ (s : State), s.dueAt 6 1048576 s.nowNs = true ∧ s.isSafe = false ∧ s.recording = false) ∧
    (∃ (s : State), s.dueAt 6 1048576 s.nowNs = true ∧ s.recording = true ∧ s.ldg.signingLost = false) ∧
    (∃ (s : State), s.dueAt 6 1048576 s.nowNs = true ∧ s.recording = true ∧ s.ldg.signingLost = true) ∧
    (∃ (s : State), s.dueAt 6 1048576 s.nowNs = true ∧ s.isSafe = true) ∧
    (∃ (result : Signing) (d : Draft) (rest : List Draft) (s : State), (s.ldg.signing = d :: rest) ∧ (d.kind ≠ 2) ∧ (signingEnds result s).2 = true ∧ s.tooLate d = false ∧ (d.kind ≠ 5)) ∧
    (∃ (result : Signing) (d : Draft) (rest : List Draft) (s : State), (s.ldg.signing = d :: rest) ∧ (d.kind ≠ 2) ∧ (signingEnds result s).2 = true ∧ s.tooLate d = false ∧ d.kind = 5) ∧
    (∃ (result : Signing) (d : Draft) (rest : List Draft) (s : State), (s.ldg.signing = d :: rest) ∧ (d.kind ≠ 2) ∧ (signingEnds result s).2 = true ∧ s.tooLate d = true) ∧
    (∃ (result : Signing) (d : Draft) (rest : List Draft) (s : State), (s.ldg.signing = d :: rest) ∧ (d.kind ≠ 2) ∧ (signingEnds result s).2 = false) ∧
    (∃ (d : Draft) (rest : List Draft) (s : State), (s.ldg.signing = d :: rest) ∧ s.tooLate d = true) ∧
    (∃ (stream : Fin 32) (b : Closed) (rest : List Closed) (s : State), ((s.stream stream.val).unwritten = b :: rest)) ∧
    (∃ (s : State), s.stopped = false ∧ s.shut (0x70) = false ∧ s.on 0x70 F.ldg0_LDG_CFG_ENABLE = false ∧ ((s.on 0x340 F.ddr0_DDR_STATUS_AVAILABLE = false ∨ s.ledgerRuns = true))) ∧
    (∃ (s : State), s.stopped = false ∧ s.shut (0x70) = false ∧ s.on 0x70 F.ldg0_LDG_CFG_ENABLE = false ∧ s.on 0x340 F.ddr0_DDR_STATUS_AVAILABLE = true ∧ s.ledgerRuns = false) ∧
    (∃ (s : State), s.stopped = false ∧ s.shut (0x70) = false ∧ s.on 0x70 F.ldg0_LDG_CFG_ENABLE = true) ∧
    (∃ (s : State), s.stopped = false ∧ s.shut (0x70) = false ∧ s.on 0x70 F.ldg0_LDG_CFG_ENABLE = true) ∧
    (∃ (s : State), s.stopped = false ∧ s.shut (0x70) = false ∧ s.on 0x70 F.ldg0_LDG_CFG_ENABLE = false) ∧
    (∃ (stream : Fin 32) (s : State), s.stopped = false ∧ s.shut ((ldgs stream.val)) = false) ∧
    (∃ (stream : Fin 32) (s : State), s.stopped = false ∧ s.shut ((ldgs stream.val)) = false ∧ s.streamOn stream.val = true) ∧
    (∃ (stream : Fin 32) (s : State), s.stopped = false ∧ s.shut ((ldgs stream.val)) = false ∧ s.streamOn stream.val = false) ∧
    (∃ (s : State), s.isSafe = true ∧ s.gnt.sealRec = none ∧ s.gnt.bySequencer = false) ∧
    (∃ (entry : Fin 16) (x : ExpItem) (rest : List ExpItem) (h : Held) (s : State), s.stopped = false ∧ s.on 0x70 F.ldg0_LDG_CFG_EXPORT_ENABLE = true ∧ s.rdi 0x72 F.ldg2_EXP_PORT_VALID entry.val = 1 ∧ s.up (s.rdi 0x72 F.ldg2_EXP_PORT_PORT entry.val) = true ∧ (s.ldg.exports.val [] entry.val = x :: rest) ∧ (x.stream ≠ 255) ∧ ((s.stream x.stream).unwritten.any (fun b => b.seq == x.seq) = false) ∧ ((s.stream x.stream).held.find? (fun h => h.seq == x.seq) = some h) ∧ ((s.poisoned (s.ringBase x.stream + h.off) (min h.len (s.ringSize x.stream - h.off)) || (decide (s.ringSize x.stream < h.off + h.len) && s.poisoned (s.ringBase x.stream) (h.off + h.len - s.ringSize x.stream))) = false)) ∧
    (∃ (entry : Fin 16) (x : ExpItem) (rest : List ExpItem) (s : State), s.stopped = false ∧ s.on 0x70 F.ldg0_LDG_CFG_EXPORT_ENABLE = true ∧ s.rdi 0x72 F.ldg2_EXP_PORT_VALID entry.val = 1 ∧ s.up (s.rdi 0x72 F.ldg2_EXP_PORT_PORT entry.val) = true ∧ (s.ldg.exports.val [] entry.val = x :: rest) ∧ (x.stream ≠ 255) ∧ ((s.stream x.stream).unwritten.any (fun b => b.seq == x.seq) = false) ∧ ((s.stream x.stream).held.find? (fun h => h.seq == x.seq) = none)) ∧
    (∃ (entry : Fin 16) (x : ExpItem) (rest : List ExpItem) (s : State), s.stopped = false ∧ s.on 0x70 F.ldg0_LDG_CFG_EXPORT_ENABLE = true ∧ s.rdi 0x72 F.ldg2_EXP_PORT_VALID entry.val = 1 ∧ s.up (s.rdi 0x72 F.ldg2_EXP_PORT_PORT entry.val) = true ∧ (s.ldg.exports.val [] entry.val = x :: rest) ∧ x.stream = 255 ∧ (s.poisoned (s.rd 0x70 F.ldg0_AR_BASE * 2 ^ 12 + 3072 * (x.seq % 2 ^ (if 10 ≤ s.rd 0x70 F.ldg0_AR_LOG2 ∧ s.rd 0x70 F.ldg0_AR_LOG2 ≤ 24 then s.rd 0x70 F.ldg0_AR_LOG2 else 10))) 2912 = false)) ∧
    (∃ (entry : Fin 16) (x : ExpItem) (rest : List ExpItem) (s : State), s.stopped = false ∧ s.on 0x70 F.ldg0_LDG_CFG_EXPORT_ENABLE = true ∧ s.rdi 0x72 F.ldg2_EXP_PORT_VALID entry.val = 1 ∧ s.up (s.rdi 0x72 F.ldg2_EXP_PORT_PORT entry.val) = true ∧ (s.ldg.exports.val [] entry.val = x :: rest) ∧ x.stream = 255 ∧ (s.poisoned (s.rd 0x70 F.ldg0_AR_BASE * 2 ^ 12 + 3072 * (x.seq % 2 ^ (if 10 ≤ s.rd 0x70 F.ldg0_AR_LOG2 ∧ s.rd 0x70 F.ldg0_AR_LOG2 ≤ 24 then s.rd 0x70 F.ldg0_AR_LOG2 else 10))) 2912 = true)) ∧
    (∃ (e : SafeEntry) (d : Draft) (s : State), (s.gnt.safe = some e) ∧ s.ledgerRuns = true ∧ s.gnt.sealRec = none ∧ s.gnt.bySequencer = false ∧ (e.since + ns 40000000 ≤ s.mono) ∧ (s.ldg.signing.find? (fun x => x.kind == 2) = some d)) :=
  ⟨⟨31, ⟨31, 0, ⟨0, [1]⟩⟩, { (ready.wr 0x70 F.ldg0_LDG_STATUS_RUNNING 1).wr (ldgs 31) F.ldgs_SCFG_ENABLE 1 with time := ns 100 * 2 ^ 32, ldg := { ready.ldg with formed := [⟨31, 0, ⟨0, [1]⟩⟩] } }, by decide +kernel⟩,
   ⟨0, ⟨0, 0, ⟨0, [1]⟩⟩, { (ready.wr 0x70 F.ldg0_LDG_STATUS_RUNNING 1).wr (ldgs 0) F.ldgs_SCFG_ENABLE 0 with time := ns 100 * 2 ^ 32, ldg := { ready.ldg with formed := [⟨0, 0, ⟨0, [1]⟩⟩] } }, by decide +kernel⟩,
   ⟨0, ready, by decide +kernel⟩,
   ⟨3, { ready with ldg := { ready.ldg with early := [3] } }, by decide +kernel⟩,
   ⟨2, { ready.wr 0x70 F.ldg0_LDG_STATUS_RUNNING 1 with time := ns 1048576 * 2 ^ 32, pending := [.anchorInstant 0 []] }, by decide +kernel⟩,
   ⟨ready, by decide +kernel⟩,
   ⟨{ ready with ldg := { ready.ldg with selAt := some 0 } }, by decide +kernel⟩,
   ⟨{ ready with time := ns 1048576 * 2 ^ 32 }, by decide +kernel⟩,
   ⟨{ ready.wr 0x70 F.ldg0_LDG_STATUS_RUNNING 1 with time := ns 1048576 * 2 ^ 32 }, by decide +kernel⟩,
   ⟨{ ready.wr 0x70 F.ldg0_LDG_STATUS_RUNNING 1 with time := ns 1048576 * 2 ^ 32, ldg := { ready.ldg with signingLost := true } }, by decide +kernel⟩,
   ⟨{ ready with time := ns 1048576 * 2 ^ 32, gnt := { ready.gnt with safe := some ⟨0, 0, 0, 0, 0, false, 0⟩ } }, by decide +kernel⟩,
   ⟨.signed, ⟨1, 0, 0, 0, 0, [], 0, 0, [], []⟩, [], { ready with ldg := { ready.ldg with signing := [⟨1, 0, 0, 0, 0, [], 0, 0, [], []⟩] } }, by decide +kernel⟩,
   ⟨.signed, ⟨5, 0, 0, 0, 0, [], 0, 0, [], []⟩, [], { ready with ldg := { ready.ldg with signing := [⟨5, 0, 0, 0, 0, [], 0, 0, [], []⟩] } }, by decide +kernel⟩,
   ⟨.signed, ⟨1, 0, 0, 0, 0, [], 0, 0, [], []⟩, [], { ready with time := ns 1000000 * 2 ^ 32, ldg := { ready.ldg with signing := [⟨1, 0, 0, 0, 0, [], 0, 0, [], []⟩] } }, by decide +kernel⟩,
   ⟨.enginesLost, ⟨1, 0, 0, 0, 0, [], 0, 0, [], []⟩, [], { ready with ldg := { ready.ldg with signing := [⟨1, 0, 0, 0, 0, [], 0, 0, [], []⟩] } }, by decide +kernel⟩,
   ⟨⟨1, 0, 0, 0, 0, [], 0, 0, [], []⟩, [], { ready with time := ns 1000000 * 2 ^ 32, ldg := { ready.ldg with signing := [⟨1, 0, 0, 0, 0, [], 0, 0, [], []⟩] } }, by decide +kernel⟩,
   ⟨31, ⟨[1], [], [], 0⟩, [], { ready with ldg := { ready.ldg with streams := [(31, { unwritten := [⟨[1], [], [], 0⟩] })] } }, by decide +kernel⟩,
   ⟨ready, by decide +kernel⟩,
   ⟨(ready.wr 0x340 F.ddr0_DDR_STATUS_AVAILABLE 1), by decide +kernel⟩,
   ⟨(ready.wr 0x70 F.ldg0_LDG_CFG_ENABLE 1), by decide +kernel⟩,
   ⟨(ready.wr 0x70 F.ldg0_LDG_CFG_ENABLE 1), by decide +kernel⟩,
   ⟨ready, by decide +kernel⟩,
   ⟨31, ready, by decide +kernel⟩,
   ⟨31, (ready.wr (ldgs 31) F.ldgs_SCFG_ENABLE 1), by decide +kernel⟩,
   ⟨0, (ready.wr (ldgs 0) F.ldgs_SCFG_ENABLE 0), by decide +kernel⟩,
   ⟨{ ready with gnt := { ready.gnt with safe := some ⟨0, 0, 0, 0, 0, false, 0⟩ } }, by decide +kernel⟩,
   ⟨15, ⟨0, 1⟩, [], ⟨1, 0, 128⟩, { ((portAt 0 7).wr 0x70 F.ldg0_LDG_CFG_EXPORT_ENABLE 1).wri 0x72 F.ldg2_EXP_PORT_VALID 15 1 with ldg := { ready.ldg with exports := [(15, [⟨0, 1⟩])], streams := [(0, { held := [⟨1, 0, 128⟩] })] } }, by decide +kernel⟩,
   ⟨0, ⟨0, 1⟩, [], { ((portAt 0 7).wr 0x70 F.ldg0_LDG_CFG_EXPORT_ENABLE 1).wri 0x72 F.ldg2_EXP_PORT_VALID 0 1 with ldg := { ready.ldg with exports := [(0, [⟨0, 1⟩])] } }, by decide +kernel⟩,
   ⟨0, ⟨255, 1⟩, [], { ((portAt 0 7).wr 0x70 F.ldg0_LDG_CFG_EXPORT_ENABLE 1).wri 0x72 F.ldg2_EXP_PORT_VALID 0 1 with ldg := { ready.ldg with exports := [(0, [⟨255, 1⟩])] } }, by decide +kernel⟩,
   ⟨0, ⟨255, 1⟩, [], { ((portAt 0 7).wr 0x70 F.ldg0_LDG_CFG_EXPORT_ENABLE 1).wri 0x72 F.ldg2_EXP_PORT_VALID 0 1 with poison := [(48, true)], ldg := { ready.ldg with exports := [(0, [⟨255, 1⟩])] } }, by decide +kernel⟩,
   ⟨⟨0, 0, 0, 0, 0, false, 0⟩, ⟨2, 0, 0, 0, 0, [], 0, 0, [], []⟩, { ready.wr 0x70 F.ldg0_LDG_STATUS_RUNNING 1 with time := ns 40000000 * 2 ^ 32, gnt := { ready.gnt with safe := some ⟨0, 0, 0, 0, 0, false, 0⟩ }, ldg := { ready.ldg with signing := [⟨2, 0, 0, 0, 0, [], 0, 0, [], []⟩] } }, by decide +kernel⟩⟩

theorem test_meets_VisorCommandsComplete :
    (∃ (event : BitVec 16) (a : Nat) (s : State), s.stopped = false ∧ eventDefined event.toNat = true ∧ (a ≤ s.now)) ∧
    (∃ (counter : Fin 4096) (data : Word) (s : State), s.stopped = false ∧ (s.shut ((0xC0 + counter.val / 256)) = false) ∧ ((data.toNat.testBit 32 && !eventDefined (data.toNat % 65536)) = false)) ∧
    (∃ (counter : Fin 4096) (data : Word) (s : State), s.stopped = false ∧ (s.shut ((0xC0 + counter.val / 256)) = false) ∧ data.toNat.testBit 32 = true ∧ (eventDefined (data.toNat % 65536) = false)) ∧
    (∃ (port : Fin 1024) (bar2 : Bool) (s : State), s.stopped = false ∧ ((bar2 && !s.on (cntPage port.val) F.hdr_PAGE_CTRL_USER_READ) = false) ∧ s.shut (cntPage port.val) = false) ∧
    (∃ (port : Fin 1024) (bar2 : Bool) (s : State), s.stopped = false ∧ (((bar2 && !s.on (cntPage port.val) F.hdr_PAGE_CTRL_USER_READ) || s.shut (cntPage port.val)) = true)) ∧
    (∃ (port : Fin 1024) (s : State), (max (s.bw port.val).last (s.bw port.val).start < s.windowEnd port.val s.nowNs) ∧ (s.unknownBefore (fun p => p == port.val) (s.windowEnd port.val s.nowNs * nsUnits) = false)) ∧
    (∃ (s : State), s.stopped = false ∧ s.shut (0xB0) = false ∧ ((s.on 0xB0 F.vsr0_SNAP_STATUS_PENDING || s.on 0xB0 F.vsr0_SNAP_STATUS_WRITING) = true)) ∧
    (∃ (s : State), s.stopped = false ∧ s.shut (0xB0) = false ∧ s.on 0xB0 F.vsr0_SNAP_STATUS_PENDING = false ∧ s.on 0xB0 F.vsr0_SNAP_STATUS_WRITING = false) ∧
    (∃ (a : T80) (s : State), s.stopped = false ∧ s.shut (0xB0) = false ∧ (s.vsr.due = some a) ∧ (s.now < a)) ∧
    (∃ (s : State), s.stopped = false ∧ s.shut (0xB0) = false ∧ (s.vsr.due.all (fun a => decide (a ≤ s.now)) = true)) ∧
    (∃ (a : T80) (s : State), s.stopped = false ∧ (s.vsr.due = some a) ∧ (a + ns 64 ≤ s.now) ∧ s.vsr.image = none ∧ (s.vsr.bw.all (fun x => (s.vsr.kept.at? x.1).isSome || decide (s.windowEnd x.1 (a / nsUnits) ≤ max x.2.last x.2.start)) = true) ∧ (s.unknownBefore (fun _ => true) a = false)) ∧
    (∃ (m : SnapImage) (s : State), s.stopped = false ∧ (s.vsr.image = some m)) ∧
    (∃ (m : SnapImage) (s : State), s.stopped = false ∧ (s.vsr.image = some m) ∧ s.vsr.slow = false ∧ (m.at_ + ns 2000000 < s.now)) ∧
    (∃ (slice : Fin 32) (s : State), s.stopped = false ∧ s.shut ((trcPage slice.val)) = false) ∧
    (∃ (slice : Fin 32) (s : State), s.stopped = false ∧ s.shut ((trcPage slice.val)) = false ∧ s.on (trcPage slice.val) F.trc_TRACE_CFG_ENABLE = false) ∧
    (∃ (page : Fin 4096) (offset : Fin 512), (isCounter (cntPage page.val) (8 * offset.val) = true)) ∧
    (∃ (page : Fin 4096) (offset : Fin 512), (isCounter (cntPage page.val) (8 * offset.val) = true)) ∧
    (∃ (page : Fin 4096) (offset : Fin 512), (isCounter (cntPage page.val) (8 * offset.val) = true)) ∧
    (∃ (page : Fin 4096) (offset : Fin 512), (isCounter (cntPage page.val) (8 * offset.val) = true)) ∧
    (∃ (page : Fin 4096) (offset : Fin 512), (isCounter (cntPage page.val) (8 * offset.val) = false)) :=
  ⟨⟨0x0A0E, 0, ready, by decide +kernel⟩,
   ⟨4095, 0x100000A0E, ready, by decide +kernel⟩,
   ⟨0, 0x10000FFFF, ready, by decide +kernel⟩,
   ⟨1023, false, ready, by decide +kernel⟩,
   ⟨0, true, ready, by decide +kernel⟩,
   ⟨1023, { ready with time := ns 4000000000000 * 2 ^ 32, vsr := { ready.vsr with bw := [(1023, { code := 0 })] } }, by decide +kernel⟩,
   ⟨(ready.wr 0xB0 F.vsr0_SNAP_STATUS_PENDING 1), by decide +kernel⟩,
   ⟨ready, by decide +kernel⟩,
   ⟨5, { ready with vsr := { ready.vsr with due := some 5 } }, by decide +kernel⟩,
   ⟨{ ready with vsr := { ready.vsr with due := some 0 } }, by decide +kernel⟩,
   ⟨0, { ready with time := ns 64 * 2 ^ 32, vsr := { ready.vsr with due := some 0 } }, by decide +kernel⟩,
   ⟨⟨0, 0, false, false, []⟩, { ready with vsr := { ready.vsr with image := some ⟨0, 0, false, false, []⟩ } }, by decide +kernel⟩,
   ⟨⟨0, 0, false, false, []⟩, { ready with time := ns 3000000 * 2 ^ 32, vsr := { ready.vsr with image := some ⟨0, 0, false, false, []⟩ } }, by decide +kernel⟩,
   ⟨31, ready, by decide +kernel⟩,
   ⟨31, ready, by decide +kernel⟩,
   ⟨0, 16, by decide +kernel⟩,
   ⟨0, 16, by decide +kernel⟩,
   ⟨0, 16, by decide +kernel⟩,
   ⟨0, 16, by decide +kernel⟩,
   ⟨0, 0, by decide +kernel⟩⟩

theorem test_meets_VotesAndEntriesComplete :
    (∃ (s : State), s.stopped = false) ∧
    (∃ (vote : Fin 8) (s : State), s.stopped = false ∧ (vote.val ≠ 5) ∧ (vote.val ≠ 6)) ∧
    (∃ (s : State), s.stopped = false) ∧
    (∃ (s : State), s.stopped = false) ∧
    (∃ (domain : Fin 209) (a : T80) (s : State), s.stopped = false ∧ ((s.dom domain.val).holdFrom = some a) ∧ (a + ns (1000 * (s.dom domain.val).holdoff) ≤ s.mono) ∧ ((((recomputeDom domain.val s).dom domain.val).holdFrom.isSome && ((recomputeDom domain.val s).dom domain.val).trans == 0 && decide (((recomputeDom domain.val s).dom domain.val).state < ((recomputeDom domain.val s).dom domain.val).target)) = true) ∧ (domain.val < 205)) ∧
    (∃ (domain : Fin 209) (a : T80) (s : State), s.stopped = false ∧ ((s.dom domain.val).holdFrom = some a) ∧ (a + ns (1000 * (s.dom domain.val).holdoff) ≤ s.mono) ∧ ((((recomputeDom domain.val s).dom domain.val).holdFrom.isSome && ((recomputeDom domain.val s).dom domain.val).trans == 0 && decide (((recomputeDom domain.val s).dom domain.val).state < ((recomputeDom domain.val s).dom domain.val).target)) = true) ∧ (205 ≤ domain.val)) ∧
    (∃ (domain : Fin 209) (a : T80) (s : State), s.stopped = false ∧ ((s.dom domain.val).holdFrom = some a) ∧ (a + ns (1000 * (s.dom domain.val).holdoff) ≤ s.mono) ∧ ((((recomputeDom domain.val s).dom domain.val).holdFrom.isSome && ((recomputeDom domain.val s).dom domain.val).trans == 0 && decide (((recomputeDom domain.val s).dom domain.val).state < ((recomputeDom domain.val s).dom domain.val).target)) = false)) ∧
    (∃ (domain : Fin 209) (busy : Bool) (s : State), s.stopped = false ∧ (s.dom domain.val).asked = 1 ∧ (s.mono ≤ (s.dom domain.val).askAt + ns 100000) ∧ s.delays domain.val busy = true) ∧
    (∃ (domain : Fin 209) (busy : Bool) (s : State), s.stopped = false ∧ (s.dom domain.val).asked = 1 ∧ (s.mono ≤ (s.dom domain.val).askAt + ns 100000) ∧ s.delays domain.val busy = false ∧ s.refuses domain.val (s.dom domain.val).askTo = 0) ∧
    (∃ (domain : Fin 209) (busy : Bool) (s : State), s.stopped = false ∧ (s.dom domain.val).asked = 1 ∧ (s.mono ≤ (s.dom domain.val).askAt + ns 100000) ∧ s.delays domain.val busy = false ∧ (s.refuses domain.val (s.dom domain.val).askTo ≠ 0)) ∧
    (∃ (domain : Fin 209) (s : State), s.stopped = false ∧ (s.dom domain.val).asked = 1 ∧ ((s.dom domain.val).askAt + ns 100000 ≤ s.mono)) ∧
    (∃ (domain : Fin 209) (s : State), s.stopped = false ∧ (s.dom domain.val).asked = 2 ∧ ((s.dom domain.val).askAt ≤ s.mono)) ∧
    (∃ (domain : Fin 209) (s : State), (s.dom domain.val).trans = 1 ∧ (s.dom domain.val).waitsLow = false) ∧
    (∃ (domain : Fin 209) (s : State), (s.dom domain.val).state = 1 ∧ (s.dom domain.val).trans = 0) ∧
    (∃ (domain : BitVec 8) (s : State), s.stopped = false ∧ s.shut (0x31) = false ∧ (domain.toNat ≤ 208)) ∧
    (∃ (domain : BitVec 8) (s : State), s.stopped = false ∧ s.shut (0x31) = false ∧ (208 < domain.toNat)) :=
  ⟨⟨ready, by decide +kernel⟩,
   ⟨7, ready, by decide +kernel⟩,
   ⟨ready, by decide +kernel⟩,
   ⟨ready, by decide +kernel⟩,
   ⟨204, 0, { (ready.wr (pageOfDomain 204) F.hdr_PWR_VOTE_STATE 1).wr 0x30 F.mtn0_MTN_STATUS_BOOT_HOLDS 0 with time := ns 100000 * 2 ^ 32, mtn := { ready.mtn with doms := [(204, { holdFrom := some 0, target := 1 })] } }, by decide +kernel⟩,
   ⟨208, 0, { (ready.wr (pageOfDomain 208) F.hdr_PWR_VOTE_STATE 1).wr 0x30 F.mtn0_MTN_STATUS_BOOT_HOLDS 0 with time := ns 100000 * 2 ^ 32, mtn := { ready.mtn with doms := [(208, { holdFrom := some 0, target := 1 })] } }, by decide +kernel⟩,
   ⟨0, 0, { ready with time := ns 100000 * 2 ^ 32, mtn := { ready.mtn with doms := [(0, { holdFrom := some 0, target := 1, trans := 1 })] } }, by decide +kernel⟩,
   ⟨206, true, { ready with mtn := { ready.mtn with doms := [(206, { asked := 1 })] } }, by decide +kernel⟩,
   ⟨206, false, { ready with mtn := { ready.mtn with doms := [(206, { asked := 1, askTo := 1 })] } }, by decide +kernel⟩,
   ⟨208, false, { ready with mtn := { ready.mtn with doms := [(208, { asked := 1, askTo := 4 })] } }, by decide +kernel⟩,
   ⟨205, { ready with time := ns 100000 * 2 ^ 32, mtn := { ready.mtn with doms := [(205, { asked := 1 })] } }, by decide +kernel⟩,
   ⟨205, { ready with mtn := { ready.mtn with doms := [(205, { asked := 2 })] } }, by decide +kernel⟩,
   ⟨0, { ready with mtn := { ready.mtn with doms := [(0, { trans := 1, to_ := 4 })] } }, by decide +kernel⟩,
   ⟨208, { ready with mtn := { ready.mtn with doms := [(208, { state := 1 })] } }, by decide +kernel⟩,
   ⟨208, ready, by decide +kernel⟩,
   ⟨209, ready, by decide +kernel⟩⟩

theorem test_meets_WakeAndSupplyCommandsComplete :
    (∃ (tx : AvsTx) (r : List AvsTx) (up : Bool) (s : State), (s.mtn.avs = tx :: r) ∧ (tx.kind = .cap up)) ∧
    (∃ (tx : AvsTx) (r : List AvsTx) (s : State), (s.mtn.avs = tx :: r) ∧ tx.kind = .low) ∧
    (∃ (tx : AvsTx) (r : List AvsTx) (d : Nat) (s : State), (s.mtn.avs = tx :: r) ∧ (tx.kind = .wake d) ∧ (s.dom d).trans = 2 ∧ (s.dom d).stage = 1) ∧
    (∃ (tx : AvsTx) (r : List AvsTx) (d : Nat) (s : State), (s.mtn.avs = tx :: r) ∧ (tx.kind = .wake d) ∧ (((s.dom d).trans ≠ 2 ∨ (s.dom d).stage ≠ 1))) ∧
    (∃ (tx : AvsTx) (r : List AvsTx) (s : State), (s.mtn.avs = tx :: r) ∧ (tx.since + ns 200000 ≤ s.mono) ∧ (s.pending.any (· == .avsAck) = false) ∧ tx.kind = .low ∧ (tx.tries < 2)) ∧
    (∃ (tx : AvsTx) (r : List AvsTx) (s : State), (s.mtn.avs = tx :: r) ∧ (tx.since + ns 200000 ≤ s.mono) ∧ (s.pending.any (· == .avsAck) = false) ∧ tx.kind = .low ∧ (2 ≤ tx.tries)) ∧
    (∃ (tx : AvsTx) (r : List AvsTx) (d : Nat) (s : State), (s.mtn.avs = tx :: r) ∧ (tx.since + ns 200000 ≤ s.mono) ∧ (s.pending.any (· == .avsAck) = false) ∧ (tx.kind = .wake d) ∧ (tx.tries < 3)) ∧
    (∃ (tx : AvsTx) (r : List AvsTx) (d : Nat) (s : State), (s.mtn.avs = tx :: r) ∧ (tx.since + ns 200000 ≤ s.mono) ∧ (s.pending.any (· == .avsAck) = false) ∧ (tx.kind = .wake d) ∧ (3 ≤ tx.tries)) ∧
    (∃ (tx : AvsTx) (r : List AvsTx) (up : Bool) (s : State), (s.mtn.avs = tx :: r) ∧ (tx.since + ns 200000 ≤ s.mono) ∧ (s.pending.any (· == .avsAck) = false) ∧ (tx.kind = .cap up) ∧ (tx.tries < 2)) ∧
    (∃ (tx : AvsTx) (r : List AvsTx) (up : Bool) (s : State), (s.mtn.avs = tx :: r) ∧ (tx.since + ns 200000 ≤ s.mono) ∧ (s.pending.any (· == .avsAck) = false) ∧ (tx.kind = .cap up) ∧ (2 ≤ tx.tries)) ∧
    (∃ (domain : Fin 209) (s : State), (s.dom domain.val).trans = 2) ∧
    (∃ (domain : Fin 209) (s : State), (s.dom domain.val).trans = 2 ∧ (s.dom domain.val).stage = 3 ∧ ((s.dom domain.val).since + ns 50000 ≤ s.mono) ∧ ((s.dom domain.val).tries < 3)) ∧
    (∃ (domain : Fin 209) (s : State), (s.dom domain.val).trans = 2 ∧ (s.dom domain.val).stage = 3 ∧ ((s.dom domain.val).since + ns 50000 ≤ s.mono) ∧ (3 ≤ (s.dom domain.val).tries)) ∧
    (∃ (domain : Fin 209) (s : State), (s.dom domain.val).trans = 2 ∧ (s.dom domain.val).stage = 5 ∧ ((decide (196 ≤ domain.val) && s.dram.training.contains (domain.val - 196)) = false)) ∧
    (∃ (s : State), s.stopped = false ∧ s.shut (0x31) = false ∧ (s.rd 0x31 F.mtn1_DOM_SEL_DOMAIN ≤ 208) ∧ (s.dom (s.rd 0x31 F.mtn1_DOM_SEL_DOMAIN)).denied = true ∧ (s.dom (s.rd 0x31 F.mtn1_DOM_SEL_DOMAIN)).trans = 0) ∧
    (∃ (a : T80) (s : State), (s.mtn.lowSince = some a) ∧ (a + ns 1000000 ≤ s.mono)) ∧
    (∃ (s : State), s.on 0x30 F.mtn0_MTN_STATUS_AON_SOURCE = false) :=
  ⟨⟨⟨.cap true, 0, 0⟩, [], true, { ready with mtn := { ready.mtn with avs := [⟨.cap true, 0, 0⟩] } }, by decide +kernel⟩,
   ⟨⟨.low, 0, 0⟩, [], { ready with mtn := { ready.mtn with avs := [⟨.low, 0, 0⟩] } }, by decide +kernel⟩,
   ⟨⟨.wake 0, 0, 0⟩, [], 0, { ready with mtn := { ready.mtn with avs := [⟨.wake 0, 0, 0⟩], doms := [(0, { trans := 2, stage := 1 })] } }, by decide +kernel⟩,
   ⟨⟨.wake 0, 0, 0⟩, [], 0, { ready with mtn := { ready.mtn with avs := [⟨.wake 0, 0, 0⟩] } }, by decide +kernel⟩,
   ⟨⟨.low, 1, 0⟩, [], { ready with time := ns 200000 * 2 ^ 32, mtn := { ready.mtn with avs := [⟨.low, 1, 0⟩] } }, by decide +kernel⟩,
   ⟨⟨.low, 2, 0⟩, [], { ready with time := ns 200000 * 2 ^ 32, mtn := { ready.mtn with avs := [⟨.low, 2, 0⟩] } }, by decide +kernel⟩,
   ⟨⟨.wake 7, 2, 0⟩, [], 7, { ready with time := ns 200000 * 2 ^ 32, mtn := { ready.mtn with avs := [⟨.wake 7, 2, 0⟩] } }, by decide +kernel⟩,
   ⟨⟨.wake 7, 3, 0⟩, [], 7, { ready with time := ns 200000 * 2 ^ 32, mtn := { ready.mtn with avs := [⟨.wake 7, 3, 0⟩] } }, by decide +kernel⟩,
   ⟨⟨.cap true, 0, 0⟩, [], true, { ready with time := ns 200000 * 2 ^ 32, mtn := { ready.mtn with avs := [⟨.cap true, 0, 0⟩] } }, by decide +kernel⟩,
   ⟨⟨.cap true, 2, 0⟩, [], true, { ready with time := ns 200000 * 2 ^ 32, mtn := { ready.mtn with avs := [⟨.cap true, 2, 0⟩] } }, by decide +kernel⟩,
   ⟨208, { ready with mtn := { ready.mtn with doms := [(208, { trans := 2, stage := 4 })] } }, by decide +kernel⟩,
   ⟨0, { ready with time := ns 50000 * 2 ^ 32, mtn := { ready.mtn with doms := [(0, { trans := 2, stage := 3, tries := 2 })] } }, by decide +kernel⟩,
   ⟨0, { ready with time := ns 50000 * 2 ^ 32, mtn := { ready.mtn with doms := [(0, { trans := 2, stage := 3, tries := 3 })] } }, by decide +kernel⟩,
   ⟨195, { ready with mtn := { ready.mtn with doms := [(195, { trans := 2, stage := 5 })] } }, by decide +kernel⟩,
   ⟨{ ready.wr 0x31 F.mtn1_DOM_SEL_DOMAIN 208 with mtn := { ready.mtn with doms := [(208, { denied := true, state := 4 })] } }, by decide +kernel⟩,
   ⟨0, { ready with time := ns 1000000 * 2 ^ 32, mtn := { ready.mtn with lowSince := some 0 } }, by decide +kernel⟩,
   ⟨ready, by decide +kernel⟩⟩

theorem test_meets_PowerCommandsComplete :
    (∃ (parts : List Nat) (core : Nat) (s : State), s.stopped = false ∧ parts.length = 44 ∧ (core ≤ parts.sum) ∧ s.dueAt 8 2048 s.nowNs = true) ∧
    (∃ (s : State), s.stopped = false ∧ s.shut (0x40) = false) ∧
    (∃ (s : State), s.stopped = false ∧ s.shut (0x40) = false ∧ (s.rd 0x40 F.pwc0_CAL_STATUS_STATE ≠ 1)) ∧
    (∃ (s : State), s.stopped = false ∧ s.shut (0x40) = false ∧ s.rd 0x40 F.pwc0_CAL_STATUS_STATE = 1) ∧
    (∃ (residual : Nat) (s : State), s.stopped = false ∧ s.rd 0x40 F.pwc0_CAL_STATUS_STATE = 1 ∧ (s.pwc.calAt + ns 60000000000 ≤ s.mono) ∧ (residual ≤ 30)) ∧
    (∃ (residual : Nat) (s : State), s.stopped = false ∧ s.rd 0x40 F.pwc0_CAL_STATUS_STATE = 1 ∧ (s.pwc.calAt + ns 60000000000 ≤ s.mono) ∧ (30 < residual)) ∧
    (∃ (s : State), s.stopped = false ∧ s.shut (0x40) = false) ∧
    (∃ (s : State), s.stopped = false) ∧
    (∃ (s : State), s.stopped = false) ∧
    (∃ (stretched : Nat) (s : State), s.stopped = false ∧ (stretched ≠ 0)) ∧
    (∃ (s : State), s.stopped = false) ∧
    (∃ (temps : List (Option (BitVec 9))) (s : State), s.stopped = false ∧ temps.length = 48 ∧ s.dueAt 9 32768 s.nowNs = true) :=
  ⟨⟨List.replicate 44 1, 44, { ready with time := ns 2048 * 2 ^ 32 }, by decide +kernel⟩,
   ⟨ready, by decide +kernel⟩,
   ⟨ready, by decide +kernel⟩,
   ⟨(ready.wr 0x40 F.pwc0_CAL_STATUS_STATE 1), by decide +kernel⟩,
   ⟨30, { ready.wr 0x40 F.pwc0_CAL_STATUS_STATE 1 with time := ns 60000000000 * 2 ^ 32 }, by decide +kernel⟩,
   ⟨31, { ready.wr 0x40 F.pwc0_CAL_STATUS_STATE 1 with time := ns 60000000000 * 2 ^ 32 }, by decide +kernel⟩,
   ⟨ready, by decide +kernel⟩,
   ⟨ready, by decide +kernel⟩,
   ⟨ready, by decide +kernel⟩,
   ⟨1, ready, by decide +kernel⟩,
   ⟨ready, by decide +kernel⟩,
   ⟨List.replicate 48 (some 50), { ready with time := ns 32768 * 2 ^ 32 }, by decide +kernel⟩⟩

theorem test_meets_HostLinkCommandsComplete :
    (∃ (cxl : Bool) (width : Fin 9) (rate : Fin 6) (s : State), s.linkTrains = true ∧ s.hostUp = false ∧ linkValid cxl width.val rate.val = true) ∧
    (∃ (s : State), s.hostUp = true) ∧
    (∃ (address : BitVec 52) (s : State), s.memEnabled = true ∧ ((s.inRegion 2 (address.toNat / 64 * 64) 64 || s.inRegion 3 (address.toNat / 64 * 64) 64) = true) ∧ ((s.dom (196 + s.channelOf (address.toNat / 64 * 64))).state < 2) ∧ (s.poisoned (address.toNat / 64 * 64) 64 = false)) ∧
    (∃ (address : BitVec 52) (s : State), s.memEnabled = true ∧ ((s.inRegion 2 (address.toNat / 64 * 64) 64 || s.inRegion 3 (address.toNat / 64 * 64) 64) = false)) ∧
    (∃ (address : BitVec 52) (s : State), s.memEnabled = true ∧ ((s.inRegion 2 (address.toNat / 64 * 64) 64 || s.inRegion 3 (address.toNat / 64 * 64) 64) = true) ∧ (2 ≤ (s.dom (196 + s.channelOf (address.toNat / 64 * 64))).state)) ∧
    (∃ (address : BitVec 52) (s : State), s.memEnabled = true ∧ ((s.inRegion 2 (address.toNat / 64 * 64) 64 || s.inRegion 3 (address.toNat / 64 * 64) 64) = true) ∧ ((s.dom (196 + s.channelOf (address.toNat / 64 * 64))).state < 2) ∧ (s.poisoned (address.toNat / 64 * 64) 64 = true)) ∧
    (∃ (s : State), s.memEnabled = true) ∧
    (∃ (s : State), s.hostUp = true ∧ s.on 0x380 F.cxl0_LINK_STATUS_ATS_EN = true) ∧
    (∃ (s : State), s.hostUp = true ∧ s.on 0x380 F.cxl0_LINK_STATUS_CACHE_EN = true) :=
  ⟨⟨true, 8, 5, { ready with boot := { ready.boot with power := 2 }, crown := { ready.crown with perst := true } }, by decide +kernel⟩,
   ⟨(ready.wr 0x380 F.cxl0_LINK_STATUS_UP 1), by decide +kernel⟩,
   ⟨4095, (((ready.wri 0x340 F.ddr0_REGION_SIZE 2 4096).wr 0x380 F.cxl0_LINK_STATUS_UP 1).wr 0x380 F.cxl0_LINK_STATUS_MEM_EN 1), by decide +kernel⟩,
   ⟨0xFFFFFFFFFFFFF, ((ready.wr 0x380 F.cxl0_LINK_STATUS_UP 1).wr 0x380 F.cxl0_LINK_STATUS_MEM_EN 1), by decide +kernel⟩,
   ⟨0, { ((ready.wri 0x340 F.ddr0_REGION_SIZE 2 4096).wr 0x380 F.cxl0_LINK_STATUS_UP 1).wr 0x380 F.cxl0_LINK_STATUS_MEM_EN 1 with mtn := { ready.mtn with doms := (List.range 209).map fun d => (d, { state := 4 }) } }, by decide +kernel⟩,
   ⟨0, { ((ready.wri 0x340 F.ddr0_REGION_SIZE 2 4096).wr 0x380 F.cxl0_LINK_STATUS_UP 1).wr 0x380 F.cxl0_LINK_STATUS_MEM_EN 1 with poison := [(0, true)] }, by decide +kernel⟩,
   ⟨((ready.wr 0x380 F.cxl0_LINK_STATUS_UP 1).wr 0x380 F.cxl0_LINK_STATUS_MEM_EN 1), by decide +kernel⟩,
   ⟨((ready.wr 0x380 F.cxl0_LINK_STATUS_UP 1).wr 0x380 F.cxl0_LINK_STATUS_ATS_EN 1), by decide +kernel⟩,
   ⟨((ready.wr 0x380 F.cxl0_LINK_STATUS_UP 1).wr 0x380 F.cxl0_LINK_STATUS_CACHE_EN 1), by decide +kernel⟩⟩

theorem test_meets_CrownCommandsComplete :
    (∃ (s : State), s.stopped = false ∧ s.shut (0x11) = false ∧ s.on 0x11 F.crn1_MB_STATUS_BUSY = false) ∧
    (∃ (s : State), s.stopped = false ∧ s.shut (0x11) = false ∧ s.on 0x11 F.crn1_MB_STATUS_BUSY = true) ∧
    (∃ (tail : BitVec 10) (descs : List (List Byte)) (s : State), s.stopped = false ∧ s.shut (0x12) = false ∧ (descs.length = (tail.toNat % s.crSize + s.crSize - s.rd 0x12 F.crn2_CR_TAIL % s.crSize) % s.crSize) ∧ (descs.all (fun d => d.length == 128) = true)) ∧
    (∃ (s : State), s.stopped = false ∧ s.on 0x12 F.crn2_CR_CFG_ENABLE = true ∧ s.on 0x12 F.crn2_CR_STATUS_STOPPED = false) ∧
    (∃ (ring : Bool) (d : List Byte) (s : State), s.crownRuns = true ∧ (s.crownFront ring = some d) ∧ ((s.boot.rom && !ring) = false) ∧ cOp d = 0x01 ∧ s.crownStarted ring = false) ∧
    (∃ (ring : Bool) (d : List Byte) (s : State), (s.crownFront ring = some d) ∧ cOp d = 0x01 ∧ s.stopped = false ∧ s.boot.rom = true ∧ ring = false) ∧
    (∃ (ring : Bool) (d : List Byte) (s : State), s.crownRuns = true ∧ (s.crownFront ring = some d) ∧ ((s.boot.rom && !ring) = false) ∧ cOp d = 0x02 ∧ s.crownStarted ring = false) ∧
    (∃ (ring : Bool) (d : List Byte) (s : State), (s.crownFront ring = some d) ∧ cOp d = 0x02 ∧ s.stopped = false ∧ s.boot.rom = true ∧ ring = false) ∧
    (∃ (ring : Bool) (d : List Byte) (s : State), s.crownRuns = true ∧ (s.crownFront ring = some d) ∧ ((s.boot.rom && !ring) = false) ∧ cOp d = 0x10 ∧ s.crownStarted ring = false) ∧
    (∃ (ring : Bool) (d : List Byte) (s : State), (s.crownFront ring = some d) ∧ cOp d = 0x10 ∧ s.stopped = false ∧ s.boot.rom = true ∧ ring = false) ∧
    (∃ (ring : Bool) (d : List Byte) (s : State), s.crownRuns = true ∧ (s.crownFront ring = some d) ∧ ((s.boot.rom && !ring) = false) ∧ cOp d = 0x11 ∧ s.crownStarted ring = false ∧ (s.staged d).isSome = true) ∧
    (∃ (ring : Bool) (d : List Byte) (s : State), (s.crownFront ring = some d) ∧ cOp d = 0x11 ∧ s.stopped = false ∧ s.boot.rom = true ∧ ring = false) ∧
    (∃ (ring : Bool) (d : List Byte) (s : State), s.crownRuns = true ∧ (s.crownFront ring = some d) ∧ ((s.boot.rom && !ring) = false) ∧ cOp d = 0x12 ∧ s.crownBusy = false) ∧
    (∃ (ring : Bool) (d : List Byte) (s : State), (s.crownFront ring = some d) ∧ cOp d = 0x12 ∧ s.stopped = false ∧ s.boot.rom = true ∧ ring = false) ∧
    (∃ (ring : Bool) (d : List Byte) (s : State), s.crownRuns = true ∧ (s.crownFront ring = some d) ∧ ((s.boot.rom && !ring) = false) ∧ cOp d = 0x13 ∧ s.crownBusy = false ∧ (s.staged d).isSome = true ∧ (sectionOf (s.slotBytes (cHandle d)) 1).isSome = true ∧ s.updateState = 0 ∧ s.standbyState = 1) ∧
    (∃ (ring : Bool) (d : List Byte) (s : State), (s.crownFront ring = some d) ∧ cOp d = 0x13 ∧ s.stopped = false ∧ s.boot.rom = true ∧ ring = false) ∧
    (∃ (ring : Bool) (d : List Byte) (u : Update) (s : State), s.crownRuns = true ∧ (s.crownFront ring = some d) ∧ ((s.boot.rom && !ring) = false) ∧ cOp d = 0x14 ∧ s.crownBusy = false ∧ s.updateState = 4 ∧ (s.crown.update = some u)) ∧
    (∃ (ring : Bool) (d : List Byte) (s : State), (s.crownFront ring = some d) ∧ cOp d = 0x14 ∧ s.stopped = false ∧ s.boot.rom = true ∧ ring = false) ∧
    (∃ (ring : Bool) (d : List Byte) (s : State), s.crownRuns = true ∧ (s.crownFront ring = some d) ∧ ((s.boot.rom && !ring) = false) ∧ cOp d = 0x15 ∧ s.crownBusy = false ∧ s.updateState = 4 ∧ s.standbyState = 3) ∧
    (∃ (ring : Bool) (d : List Byte) (s : State), (s.crownFront ring = some d) ∧ cOp d = 0x15 ∧ s.stopped = false ∧ s.boot.rom = true ∧ ring = false) ∧
    (∃ (ring : Bool) (d : List Byte) (u : Update) (s : State), s.crownRuns = true ∧ (s.crownFront ring = some d) ∧ ((s.boot.rom && !ring) = false) ∧ cOp d = 0x16 ∧ s.crownStarted ring = false ∧ (s.crown.update = some u) ∧ ((s.updateState = 1 ∨ s.updateState = 2))) ∧
    (∃ (ring : Bool) (d : List Byte) (s : State), (s.crownFront ring = some d) ∧ cOp d = 0x16 ∧ s.stopped = false ∧ s.boot.rom = true ∧ ring = false) ∧
    (∃ (ring : Bool) (d : List Byte) (s : State), s.crownRuns = true ∧ (s.crownFront ring = some d) ∧ ((s.boot.rom && !ring) = false) ∧ cOp d = 0x20 ∧ s.crownBusy = false ∧ s.updateState = 0) ∧
    (∃ (ring : Bool) (d : List Byte) (s : State), (s.crownFront ring = some d) ∧ cOp d = 0x20 ∧ s.stopped = false ∧ s.boot.rom = true ∧ ring = false) ∧
    (∃ (ring : Bool) (d : List Byte) (s : State), s.crownRuns = true ∧ (s.crownFront ring = some d) ∧ ((s.boot.rom && !ring) = false) ∧ cOp d = 0x30 ∧ s.crownStarted ring = false ∧ (cLength d % 64 = 0) ∧ (cLength d ≤ 0x100000) ∧ s.readable (cArg d) (cLength d) = true ∧ s.hostUp = true) ∧
    (∃ (ring : Bool) (d : List Byte) (s : State), (s.crownFront ring = some d) ∧ cOp d = 0x30 ∧ s.stopped = false ∧ s.boot.rom = true ∧ ring = false) :=
  ⟨⟨ready, by decide +kernel⟩,
   ⟨(ready.wr 0x11 F.crn1_MB_STATUS_BUSY 1), by decide +kernel⟩,
   ⟨1, [List.replicate 128 1], (ready.wr 0x12 F.crn2_CR_CFG_LOG2_SIZE 4), by decide +kernel⟩,
   ⟨(ready.wr 0x12 F.crn2_CR_CFG_ENABLE 1), by decide +kernel⟩,
   ⟨true, [1], { ready with crown := { ready.crown with fetched := [[1]] } }, by decide +kernel⟩,
   ⟨false, [1] ++ List.replicate 127 0, { (ready.wr 0x11 F.crn1_MB_STATUS_BUSY 1).wri 0x11 F.crn1_MB_DESC 0 1 with boot := { ready.boot with rom := true } }, by decide +kernel⟩,
   ⟨true, [2], { ready with crown := { ready.crown with fetched := [[2]] } }, by decide +kernel⟩,
   ⟨false, [2] ++ List.replicate 127 0, { (ready.wr 0x11 F.crn1_MB_STATUS_BUSY 1).wri 0x11 F.crn1_MB_DESC 0 2 with boot := { ready.boot with rom := true } }, by decide +kernel⟩,
   ⟨true, [0x10], { ready with crown := { ready.crown with fetched := [[0x10]] } }, by decide +kernel⟩,
   ⟨false, [0x10] ++ List.replicate 127 0, { (ready.wr 0x11 F.crn1_MB_STATUS_BUSY 1).wri 0x11 F.crn1_MB_DESC 0 0x10 with boot := { ready.boot with rom := true } }, by decide +kernel⟩,
   ⟨true, [0x11], { ready with crown := { ready.crown with fetched := [[0x11]], slots := [(0, ⟨0, false⟩)] } }, by decide +kernel⟩,
   ⟨false, [17] ++ List.replicate 127 0, { (ready.wr 0x11 F.crn1_MB_STATUS_BUSY 1).wri 0x11 F.crn1_MB_DESC 0 17 with boot := { ready.boot with rom := true } }, by decide +kernel⟩,
   ⟨true, [0x12], { ready with crown := { ready.crown with fetched := [[0x12]] } }, by decide +kernel⟩,
   ⟨false, [18] ++ List.replicate 127 0, { (ready.wr 0x11 F.crn1_MB_STATUS_BUSY 1).wri 0x11 F.crn1_MB_DESC 0 18 with boot := { ready.boot with rom := true } }, by decide +kernel⟩,
   ⟨true, [0x13], { ready.wr 0x10 F.crn0_CROWN_STATUS_STANDBY_STATE 1 with ddr := [(6, 1), (0x80, 1)], crown := { ready.crown with fetched := [[0x13]], slots := [(0, ⟨192, false⟩)] } }, by decide +kernel⟩,
   ⟨false, [19] ++ List.replicate 127 0, { (ready.wr 0x11 F.crn1_MB_STATUS_BUSY 1).wri 0x11 F.crn1_MB_DESC 0 19 with boot := { ready.boot with rom := true } }, by decide +kernel⟩,
   ⟨true, [0x14], { ring := none, slot := 0, at_ := 0, new_ := {} }, { ready.wr 0x10 F.crn0_CROWN_STATUS_UPDATE_STATE 4 with crown := { ready.crown with fetched := [[0x14]], update := some { ring := none, slot := 0, at_ := 0, new_ := {} } } }, by decide +kernel⟩,
   ⟨false, [20] ++ List.replicate 127 0, { (ready.wr 0x11 F.crn1_MB_STATUS_BUSY 1).wri 0x11 F.crn1_MB_DESC 0 20 with boot := { ready.boot with rom := true } }, by decide +kernel⟩,
   ⟨true, [0x15], { (ready.wr 0x10 F.crn0_CROWN_STATUS_UPDATE_STATE 4).wr 0x10 F.crn0_CROWN_STATUS_STANDBY_STATE 3 with crown := { ready.crown with fetched := [[0x15]] } }, by decide +kernel⟩,
   ⟨false, [21] ++ List.replicate 127 0, { (ready.wr 0x11 F.crn1_MB_STATUS_BUSY 1).wri 0x11 F.crn1_MB_DESC 0 21 with boot := { ready.boot with rom := true } }, by decide +kernel⟩,
   ⟨true, [0x16], { ring := some false, slot := 0, at_ := 0, new_ := {} }, { ready.wr 0x10 F.crn0_CROWN_STATUS_UPDATE_STATE 1 with crown := { ready.crown with fetched := [[0x16]], update := some { ring := some false, slot := 0, at_ := 0, new_ := {} } } }, by decide +kernel⟩,
   ⟨false, [22] ++ List.replicate 127 0, { (ready.wr 0x11 F.crn1_MB_STATUS_BUSY 1).wri 0x11 F.crn1_MB_DESC 0 22 with boot := { ready.boot with rom := true } }, by decide +kernel⟩,
   ⟨true, [0x20], { ready with crown := { ready.crown with fetched := [[0x20]] } }, by decide +kernel⟩,
   ⟨false, [32] ++ List.replicate 127 0, { (ready.wr 0x11 F.crn1_MB_STATUS_BUSY 1).wri 0x11 F.crn1_MB_DESC 0 32 with boot := { ready.boot with rom := true } }, by decide +kernel⟩,
   ⟨true, [0x30], { (ready.wr 0x380 F.cxl0_LINK_STATUS_UP 1).wri 0x340 F.ddr0_REGION_SIZE 2 4096 with crown := { ready.crown with fetched := [[0x30]] } }, by decide +kernel⟩,
   ⟨false, [48] ++ List.replicate 127 0, { (ready.wr 0x11 F.crn1_MB_STATUS_BUSY 1).wri 0x11 F.crn1_MB_DESC 0 48 with boot := { ready.boot with rom := true } }, by decide +kernel⟩⟩

theorem test_meets_FirmwareCommandsComplete :
    (∃ (u : Update) (s : State), s.stopped = false ∧ (s.crown.update = some u) ∧ s.updateState = 1) ∧
    (∃ (u : Update) (s : State), s.stopped = false ∧ (s.crown.update = some u) ∧ s.updateState = 1 ∧ s.slotWhole u.slot = true) ∧
    (∃ (u : Update) (s : State), s.stopped = false ∧ (s.crown.update = some u) ∧ s.updateState = 1) ∧
    (∃ (u : Update) (s : State), s.stopped = false ∧ (s.crown.update = some u) ∧ s.updateState = 2 ∧ (u.at_ ≤ s.now) ∧ s.epochState = 0) ∧
    (∃ (u : Update) (s : State), s.stopped = false ∧ (s.crown.update = some u) ∧ s.updateState = 3) ∧
    (∃ (u : Update) (s : State), s.stopped = false ∧ (s.crown.update = some u) ∧ s.updateState = 4 ∧ (u.since + ns (s.rd 0x10 F.crn0_CONFIRM_S * 1000000000) ≤ s.mono)) ∧
    (∃ (u : Update) (s : State), s.stopped = false ∧ (s.crown.update = some u) ∧ s.updateState = 5) ∧
    (∃ (s : State), s.stopped = false ∧ s.crownAwake = true ∧ s.dueAt 10 1000000 s.nowNs = true) ∧
    (∃ (s : State), s.stopped = false ∧ s.boot.done.contains 7 = true ∧ s.crown.takeover = false ∧ s.updateState = 3) ∧
    (∃ (standby : Bool) (s : State), s.stopped = false ∧ s.boot.done.contains 7 = true ∧ s.crown.takeover = false ∧ (s.updateState ≠ 3) ∧ standby = true) ∧
    (∃ (standby : Bool) (s : State), s.stopped = false ∧ s.boot.done.contains 7 = true ∧ s.crown.takeover = false ∧ (s.updateState ≠ 3) ∧ standby = false ∧ ((s.standbyState = 0 ∨ (s.standbyState = 2 ∧ s.updateState ≠ 1 ∧ s.updateState ≠ 2)))) ∧
    (∃ (standby : Bool) (s : State), s.stopped = false ∧ s.boot.done.contains 7 = true ∧ s.crown.takeover = false ∧ (s.updateState ≠ 3) ∧ standby = false ∧ (¬(s.standbyState = 0 ∨ (s.standbyState = 2 ∧ s.updateState ≠ 1 ∧ s.updateState ≠ 2)))) ∧
    (∃ (s : State), s.stopped = false ∧ s.boot.done.contains 7 = true ∧ s.crown.takeover = false ∧ s.updateState = 0) ∧
    (∃ (s : State), s.stopped = false ∧ s.boot.done.contains 7 = true ∧ s.crown.takeover = false ∧ s.updateState = 0 ∧ s.standbyState = 1) ∧
    (∃ (s : State), s.stopped = false ∧ s.boot.done.contains 7 = true ∧ s.crown.takeover = false ∧ s.updateState = 0 ∧ s.standbyState = 0) ∧
    (∃ (s : State), s.stopped = false ∧ s.crown.takeover = true) :=
  ⟨⟨{ ring := none, slot := 0, at_ := 0, new_ := {} }, { ready.wr 0x10 F.crn0_CROWN_STATUS_UPDATE_STATE 1 with crown := { ready.crown with update := some { ring := none, slot := 0, at_ := 0, new_ := {} } } }, by decide +kernel⟩,
   ⟨{ ring := none, slot := 0, at_ := 0, new_ := {} }, { ready.wr 0x10 F.crn0_CROWN_STATUS_UPDATE_STATE 1 with crown := { ready.crown with slots := [(0, ⟨0, false⟩)], update := some { ring := none, slot := 0, at_ := 0, new_ := {} } } }, by decide +kernel⟩,
   ⟨{ ring := none, slot := 0, at_ := 0, new_ := {} }, { ready.wr 0x10 F.crn0_CROWN_STATUS_UPDATE_STATE 1 with crown := { ready.crown with update := some { ring := none, slot := 0, at_ := 0, new_ := {} } } }, by decide +kernel⟩,
   ⟨{ ring := none, slot := 0, at_ := 0, new_ := {} }, { ready.wr 0x10 F.crn0_CROWN_STATUS_UPDATE_STATE 2 with crown := { ready.crown with update := some { ring := none, slot := 0, at_ := 0, new_ := {} } } }, by decide +kernel⟩,
   ⟨{ ring := none, slot := 0, at_ := 0, new_ := {} }, { ready.wr 0x10 F.crn0_CROWN_STATUS_UPDATE_STATE 3 with crown := { ready.crown with update := some { ring := none, slot := 0, at_ := 0, new_ := {} } } }, by decide +kernel⟩,
   ⟨{ ring := none, slot := 0, at_ := 0, new_ := {} }, { ready.wr 0x10 F.crn0_CROWN_STATUS_UPDATE_STATE 4 with time := ns 1000000000000000 * 2 ^ 32, crown := { ready.crown with update := some { ring := none, slot := 0, at_ := 0, new_ := {} } } }, by decide +kernel⟩,
   ⟨{ ring := none, slot := 0, at_ := 0, new_ := {} }, { ready.wr 0x10 F.crn0_CROWN_STATUS_UPDATE_STATE 5 with crown := { ready.crown with update := some { ring := none, slot := 0, at_ := 0, new_ := {} } } }, by decide +kernel⟩,
   ⟨{ ready with time := ns 1000000 * 2 ^ 32 }, by decide +kernel⟩,
   ⟨(ready.wr 0x10 F.crn0_CROWN_STATUS_UPDATE_STATE 3), by decide +kernel⟩,
   ⟨true, ready, by decide +kernel⟩,
   ⟨false, (ready.wr 0x10 F.crn0_CROWN_STATUS_STANDBY_STATE 0), by decide +kernel⟩,
   ⟨false, (ready.wr 0x10 F.crn0_CROWN_STATUS_STANDBY_STATE 1), by decide +kernel⟩,
   ⟨ready, by decide +kernel⟩,
   ⟨(ready.wr 0x10 F.crn0_CROWN_STATUS_STANDBY_STATE 1), by decide +kernel⟩,
   ⟨(ready.wr 0x10 F.crn0_CROWN_STATUS_STANDBY_STATE 0), by decide +kernel⟩,
   ⟨{ ready with crown := { ready.crown with takeover := true } }, by decide +kernel⟩⟩

theorem test_meets_DoeRequestsAreAnswered :
    (∃ (s : State), s.crown.doe = none ∧ s.crown.doeError = false ∧ s.boot.quiescing = false ∧ s.crownAwake = true) ∧
    (∃ (s : State), s.crown.doe = none ∧ s.crown.doeError = false ∧ s.boot.quiescing = false ∧ s.crownAwake = false) ∧
    (∃ (s : State), ((s.crown.doe.isSome || s.crown.doeError || s.boot.quiescing) = true)) ∧
    (∃ (s : State), s.crown.doe = none ∧ s.crown.doeError = false ∧ s.boot.quiescing = false ∧ s.crownAwake = true) ∧
    (∃ (s : State), s.crown.doe = none ∧ s.crown.doeError = false ∧ s.boot.quiescing = false ∧ s.crownAwake = false) ∧
    (∃ (s : State), ((s.crown.doe.isSome || s.crown.doeError || s.boot.quiescing) = true)) ∧
    (∃ (s : State), s.crown.doe = none ∧ s.crown.doeError = false ∧ s.boot.quiescing = false ∧ s.crownAwake = true) ∧
    (∃ (s : State), s.crown.doe = none ∧ s.crown.doeError = false ∧ s.boot.quiescing = false ∧ s.crownAwake = false) ∧
    (∃ (s : State), ((s.crown.doe.isSome || s.crown.doeError || s.boot.quiescing) = true)) ∧
    (∃ (s : State), s.crown.doe = none ∧ s.crown.doeError = false ∧ s.boot.quiescing = false ∧ s.crownAwake = true) ∧
    (∃ (s : State), s.crown.doe = none ∧ s.crown.doeError = false ∧ s.boot.quiescing = false ∧ s.crownAwake = false) ∧
    (∃ (s : State), ((s.crown.doe.isSome || s.crown.doeError || s.boot.quiescing) = true)) ∧
    (∃ (s : State), s.crown.doe = none ∧ s.crown.doeError = false ∧ s.boot.quiescing = false ∧ s.crownAwake = true) ∧
    (∃ (s : State), s.crown.doe = none ∧ s.crown.doeError = false ∧ s.boot.quiescing = false ∧ s.crownAwake = false) ∧
    (∃ (s : State), ((s.crown.doe.isSome || s.crown.doeError || s.boot.quiescing) = true)) ∧
    (∃ (s : State), s.crown.doe = none ∧ s.crown.doeError = false ∧ s.boot.quiescing = false ∧ s.crownAwake = true) ∧
    (∃ (s : State), s.crown.doe = none ∧ s.crown.doeError = false ∧ s.boot.quiescing = false ∧ s.crownAwake = false) ∧
    (∃ (s : State), ((s.crown.doe.isSome || s.crown.doeError || s.boot.quiescing) = true)) ∧
    (∃ (s : State), s.crown.doe = none ∧ s.crown.doeError = false ∧ s.boot.quiescing = false ∧ s.crownAwake = true) ∧
    (∃ (s : State), s.crown.doe = none ∧ s.crown.doeError = false ∧ s.boot.quiescing = false ∧ s.crownAwake = true) ∧
    (∃ (s : State), s.crown.doe = none ∧ s.crown.doeError = false ∧ s.boot.quiescing = false ∧ s.crownAwake = false) ∧
    (∃ (s : State), ((s.crown.doe.isSome || s.crown.doeError || s.boot.quiescing) = true)) ∧
    (∃ (index : BitVec 8) (s : State), s.crown.doe = none ∧ s.crown.doeError = false ∧ s.boot.quiescing = false ∧ s.crownAwake = true ∧ index.toNat = 0) ∧
    (∃ (index : BitVec 8) (s : State), s.crown.doe = none ∧ s.crown.doeError = false ∧ s.boot.quiescing = false ∧ s.crownAwake = true ∧ (8 < index.toNat) ∧ (index.toNat ≠ 255)) ∧
    (∃ (index : BitVec 8) (signed : Bool) (s : State), s.crown.doe = none ∧ s.crown.doeError = false ∧ s.boot.quiescing = false ∧ s.crownAwake = true ∧ (index.toNat ≠ 0) ∧ ((index.toNat ≤ 8 ∨ index.toNat = 255)) ∧ signed = false) ∧
    (∃ (index : BitVec 8) (signed : Bool) (s : State), s.crown.doe = none ∧ s.crown.doeError = false ∧ s.boot.quiescing = false ∧ s.crownAwake = true ∧ (index.toNat ≠ 0) ∧ ((index.toNat ≤ 8 ∨ index.toNat = 255)) ∧ signed = true) ∧
    (∃ (index : BitVec 8) (s : State), s.crown.doe = none ∧ s.crown.doeError = false ∧ s.boot.quiescing = false ∧ s.crownAwake = true ∧ (1 ≤ index.toNat) ∧ (index.toNat ≤ 8)) ∧
    (∃ (s : State), s.crown.doe = none ∧ s.crown.doeError = false ∧ s.boot.quiescing = false ∧ s.crownAwake = true) ∧
    (∃ (s : State), s.crown.doe = none ∧ s.crown.doeError = false ∧ s.boot.quiescing = false ∧ s.crownAwake = false) ∧
    (∃ (s : State), ((s.crown.doe.isSome || s.crown.doeError || s.boot.quiescing) = true)) ∧
    (∃ (s : State), s.crown.doe = none ∧ s.crown.doeError = false ∧ s.boot.quiescing = false ∧ s.crownAwake = true) ∧
    (∃ (s : State), s.crown.doe = none ∧ s.crown.doeError = false ∧ s.boot.quiescing = false ∧ s.crownAwake = false) ∧
    (∃ (s : State), ((s.crown.doe.isSome || s.crown.doeError || s.boot.quiescing) = true)) ∧
    (∃ (w : DoeWait) (s : State), (s.crown.doe = some w) ∧ (w.since + ns 1000000000 ≤ s.mono)) :=
  ⟨⟨ready, by decide +kernel⟩,
   ⟨State.reset, by decide +kernel⟩,
   ⟨{ ready with boot := { ready.boot with quiescing := true } }, by decide +kernel⟩,
   ⟨ready, by decide +kernel⟩,
   ⟨State.reset, by decide +kernel⟩,
   ⟨{ ready with boot := { ready.boot with quiescing := true } }, by decide +kernel⟩,
   ⟨ready, by decide +kernel⟩,
   ⟨State.reset, by decide +kernel⟩,
   ⟨{ ready with boot := { ready.boot with quiescing := true } }, by decide +kernel⟩,
   ⟨ready, by decide +kernel⟩,
   ⟨State.reset, by decide +kernel⟩,
   ⟨{ ready with boot := { ready.boot with quiescing := true } }, by decide +kernel⟩,
   ⟨ready, by decide +kernel⟩,
   ⟨State.reset, by decide +kernel⟩,
   ⟨{ ready with boot := { ready.boot with quiescing := true } }, by decide +kernel⟩,
   ⟨ready, by decide +kernel⟩,
   ⟨State.reset, by decide +kernel⟩,
   ⟨{ ready with boot := { ready.boot with quiescing := true } }, by decide +kernel⟩,
   ⟨ready, by decide +kernel⟩,
   ⟨ready, by decide +kernel⟩,
   ⟨State.reset, by decide +kernel⟩,
   ⟨{ ready with boot := { ready.boot with quiescing := true } }, by decide +kernel⟩,
   ⟨0, ready, by decide +kernel⟩,
   ⟨9, ready, by decide +kernel⟩,
   ⟨255, false, ready, by decide +kernel⟩,
   ⟨1, true, ready, by decide +kernel⟩,
   ⟨8, ready, by decide +kernel⟩,
   ⟨ready, by decide +kernel⟩,
   ⟨State.reset, by decide +kernel⟩,
   ⟨{ ready with boot := { ready.boot with quiescing := true } }, by decide +kernel⟩,
   ⟨ready, by decide +kernel⟩,
   ⟨State.reset, by decide +kernel⟩,
   ⟨{ ready with boot := { ready.boot with quiescing := true } }, by decide +kernel⟩,
   ⟨⟨0, "GET_VERSION", [], []⟩, { ready with time := ns 1000000000 * 2 ^ 32, crown := { ready.crown with doe := some ⟨0, "GET_VERSION", [], []⟩ } }, by decide +kernel⟩⟩

theorem test_meets_DramCommandsComplete :
    (∃ (data : Word) (s : State), s.stopped = false ∧ s.shut (0x340) = false ∧ (data.toNat % 2 ^ 11 + 3 ≤ s.rd 0x340 F.ddr0_DDR_STATUS_CAPACITY_GIB) ∧ s.sessionArmed = false ∧ s.on 0x70 F.ldg0_LDG_CFG_ENABLE = false ∧ s.ringEnabled = false ∧ s.snapBusy = false) ∧
    (∃ (data : Word) (s : State), s.stopped = false ∧ s.shut (0x340) = false ∧ ((decide (data.toNat % 2 ^ 11 + 3 ≤ s.rd 0x340 F.ddr0_DDR_STATUS_CAPACITY_GIB) && !s.sessionArmed && !s.on 0x70 F.ldg0_LDG_CFG_ENABLE && !s.ringEnabled && !s.snapBusy) = false)) ∧
    (∃ (channel : Fin 8) (s : State), s.dram.training.contains channel.val = true) ∧
    (∃ (channel : Fin 8) (s : State), s.dram.training.contains channel.val = true ∧ (s.dram.training.filter (fun c => c != channel.val) ≠ [])) ∧
    (∃ (channel : Fin 8) (s : State), s.dram.training.contains channel.val = true ∧ s.dram.full = false) ∧
    (∃ (channel : Fin 8) (s : State), s.stopped = false ∧ s.on (ddrPage channel.val) F.ddrc_CH_STATUS_IN_USE = true ∧ ((s.dom (196 + channel.val)).state = 0) ∧ s.marginDue channel.val = true) ∧
    (∃ (address : BitVec 41) (s : State), s.inDdr address.toNat = true ∧ s.dram.selfRefresh = false) ∧
    (∃ (address : BitVec 41) (s : State), s.inDdr address.toNat = true ∧ s.dram.selfRefresh = false) ∧
    (∃ (address : BitVec 41) (s : State), s.inDdr address.toNat = true ∧ s.dram.selfRefresh = false) ∧
    (∃ (address : BitVec 41) (s : State), s.stopped = false ∧ s.on 0x340 F.ddr0_SCRUB_CFG_ENABLE = true ∧ s.inDdr address.toNat = true) ∧
    (∃ (channel : Fin 8) (s : State), s.stopped = false ∧ s.on (ddrPage channel.val) F.ddrc_CH_STATUS_POPULATED = true ∧ (s.dueAt (0x21000 + channel.val) 100000000 s.nowNs = true)) ∧
    (∃ (channel : Fin 8) (s : State), s.stopped = false ∧ s.on (ddrPage channel.val) F.ddrc_CH_STATUS_POPULATED = true ∧ (s.dueAt (0x21000 + channel.val) 100000000 s.nowNs = true)) ∧
    (∃ (s : State), s.gnt.safe = none ∧ s.boot.quiescing = true) ∧
    (∃ (e : SafeEntry) (s : State), (s.gnt.safe = some e) ∧ ((decide (e.since + ns 50000000 ≤ s.mono) || s.gnt.sealRec.isSome) = true)) :=
  ⟨⟨1, (ready.wr 0x340 F.ddr0_DDR_STATUS_CAPACITY_GIB 4), by decide +kernel⟩,
   ⟨0x7FF, ready, by decide +kernel⟩,
   ⟨7, { ready with dram := { ready.dram with training := [7, 0] } }, by decide +kernel⟩,
   ⟨7, { ready with dram := { ready.dram with training := [7, 0] } }, by decide +kernel⟩,
   ⟨0, { ready with dram := { ready.dram with training := [0], full := false } }, by decide +kernel⟩,
   ⟨7, { ready.wr (ddrPage 7) F.ddrc_CH_STATUS_IN_USE 1 with time := ns 36000000000000 * 2 ^ 32 }, by decide +kernel⟩,
   ⟨63, (ready.wr 0x340 F.ddr0_DDR_STATUS_CAPACITY_GIB 4), by decide +kernel⟩,
   ⟨63, (ready.wr 0x340 F.ddr0_DDR_STATUS_CAPACITY_GIB 4), by decide +kernel⟩,
   ⟨63, (ready.wr 0x340 F.ddr0_DDR_STATUS_CAPACITY_GIB 4), by decide +kernel⟩,
   ⟨0x40000000, ((ready.wr 0x340 F.ddr0_DDR_STATUS_CAPACITY_GIB 4).wr 0x340 F.ddr0_SCRUB_CFG_ENABLE 1), by decide +kernel⟩,
   ⟨7, { ready.wr (ddrPage 7) F.ddrc_CH_STATUS_POPULATED 1 with time := ns 100000000 * 2 ^ 32 }, by decide +kernel⟩,
   ⟨7, { ready.wr (ddrPage 7) F.ddrc_CH_STATUS_POPULATED 1 with time := ns 100000000 * 2 ^ 32 }, by decide +kernel⟩,
   ⟨{ ready with boot := { ready.boot with quiescing := true } }, by decide +kernel⟩,
   ⟨⟨0, 0, 0, 0, 0, false, 0⟩, { ready with time := ns 50000000 * 2 ^ 32, gnt := { ready.gnt with safe := some ⟨0, 0, 0, 0, 0, false, 0⟩ } }, by decide +kernel⟩⟩

theorem test_meets_BootAndResetCommandsComplete :
    (∃ (s : State), s.boot.power = 0) ∧
    (∃ (s : State), s.boot.power = 1) ∧
    (∃ (s : State), s.boot.power = 2 ∧ s.boot.quiescing = false ∧ s.resetWaits = false) ∧
    (∃ (s : State), s.boot.power = 2 ∧ s.boot.quiescing = false ∧ s.resetWaits = true) ∧
    (∃ (s : State), s.boot.held = true ∧ s.resetWaits = false) ∧
    (∃ (s : State), s.boot.quiescing = true ∧ s.boot.held = false) ∧
    (∃ (s : State), s.crown.perst = true) ∧
    (∃ (s : State), s.crown.perst = false) ∧
    (∃ (s : State), s.crown.perst = true) ∧
    (∃ (s : State), (s.boot.power ≠ 0)) ∧
    (∃ (s : State), (s.boot.power ≠ 0)) ∧
    (∃ (s : State), s.boot.power = 2 ∧ s.boot.quiescing = false) ∧
    (∃ (step : Fin 17) (s : State), s.stopped = false ∧ s.boot.power = 2 ∧ s.boot.testMode = false ∧ (step.val ≠ 0) ∧ s.boot.done.contains step.val = false ∧ (bootNeeds step.val).all s.boot.done.contains = true) ∧
    (∃ (s : State), s.stopped = false ∧ s.boot.power = 2 ∧ s.boot.testMode = false ∧ s.boot.done.contains 2 = false ∧ s.boot.done.contains 1 = true) :=
  ⟨⟨{ ready with boot := { ready.boot with power := 0 } }, by decide +kernel⟩,
   ⟨{ ready with boot := { ready.boot with power := 1 } }, by decide +kernel⟩,
   ⟨{ ready with boot := { ready.boot with power := 2 } }, by decide +kernel⟩,
   ⟨{ ready with boot := { ready.boot with power := 2 }, gnt := { ready.gnt with safe := some ⟨0, 0, 0, 0, 0, false, 0⟩ } }, by decide +kernel⟩,
   ⟨{ ready with boot := { ready.boot with power := 2, held := true } }, by decide +kernel⟩,
   ⟨{ ready with boot := { ready.boot with quiescing := true } }, by decide +kernel⟩,
   ⟨{ ready with crown := { ready.crown with perst := true } }, by decide +kernel⟩,
   ⟨{ ready with crown := { ready.crown with perst := false } }, by decide +kernel⟩,
   ⟨{ ready with crown := { ready.crown with perst := true } }, by decide +kernel⟩,
   ⟨{ ready with boot := { ready.boot with power := 2 } }, by decide +kernel⟩,
   ⟨{ ready with boot := { ready.boot with power := 2 } }, by decide +kernel⟩,
   ⟨{ ready with boot := { ready.boot with power := 2 } }, by decide +kernel⟩,
   ⟨1, { State.reset with boot := { State.reset.boot with power := 2 } }, by decide +kernel⟩,
   ⟨{ State.reset with boot := { State.reset.boot with power := 2, done := [1] } }, by decide +kernel⟩⟩

theorem test_meets_TapInstructionsComplete :
    (∃ (s : State), (s.boot.power ≠ 0)) ∧
    (∃ (s : State), (s.boot.power ≠ 0)) ∧
    (∃ (s : State), (s.boot.power ≠ 0)) ∧
    (∃ (s : State), (s.boot.power ≠ 0)) ∧
    (∃ (s : State), (s.boot.power ≠ 0)) ∧
    (∃ (s : State), (s.boot.power ≠ 0)) ∧
    (∃ (s : State), (s.boot.power ≠ 0)) ∧
    (∃ (s : State), (s.boot.power ≠ 0)) :=
  ⟨⟨{ ready with boot := { ready.boot with power := 1 } }, by decide +kernel⟩,
   ⟨{ ready with boot := { ready.boot with power := 1 } }, by decide +kernel⟩,
   ⟨{ ready with boot := { ready.boot with power := 2, testMode := true } }, by decide +kernel⟩,
   ⟨{ ready with boot := { ready.boot with power := 2, testMode := true } }, by decide +kernel⟩,
   ⟨{ ready with boot := { ready.boot with power := 2, testMode := true } }, by decide +kernel⟩,
   ⟨{ ready with boot := { ready.boot with power := 2, testMode := true } }, by decide +kernel⟩,
   ⟨{ ready with boot := { ready.boot with power := 2, testMode := true } }, by decide +kernel⟩,
   ⟨{ ready with boot := { ready.boot with power := 2, testMode := false } }, by decide +kernel⟩⟩

theorem test_meets_PageOffsetsFollowTheMap :
    ((∃ r : Nat, r < 0x1000)) :=
  ⟨0xFFF, by decide⟩

theorem test_meets_TargetIsTheShallowestVote :
    ((∃ (s : State) (d : Fin 209), (s.dom d.val).denied = false ∧ (s.dom d.val).heldOff = false)) :=
  ⟨ready, 208, by decide +kernel⟩

theorem test_meets_CriticalSampleSetsTheCap :
    ((∃ (s : State) (temps : List (Option (BitVec 9))) (h : Int) (n : Nat), s.stopped = false ∧ temps.length = 48 ∧ s.dueAt 9 32768 s.nowNs = true ∧ hottest (temps.map fun x => x.map BitVec.toInt) = some (h, n) ∧ (min 120 (s.rd 0x42 F.pwc2_THERM_CFG_T_CRIT) : Nat) < h ∧ s.quenched 0x40 = false)) ∧
    ((∃ (s : State) (temps : List (Option (BitVec 9))) (h : Int) (n : Nat), s.stopped = false ∧ temps.length = 48 ∧ s.dueAt 9 32768 s.nowNs = true ∧ hottest (temps.map fun x => x.map BitVec.toInt) = some (h, n) ∧ s.pwc.critical = true ∧ ((min 120 (s.rd 0x42 F.pwc2_THERM_CFG_T_CRIT) : Nat) : Int) - 5 ≤ h)) :=
  ⟨⟨{ ready with time := ns 32768 * 2 ^ 32 }, List.replicate 48 (some 130), 130, 0, by decide +kernel⟩,
   ⟨{ ready.wr 0x42 F.pwc2_THERM_CFG_T_CRIT 120 with time := ns 32768 * 2 ^ 32, pwc := { ready.pwc with critical := true } }, List.replicate 48 (some 115), 115, 0, by decide +kernel⟩⟩

theorem test_meets_OnlyTheseCommandsMoveTime :
    ((∃ (c : Instr) (s t : State), exec c s = .next t)) :=
  ⟨.extest, ready, _, rfl⟩

theorem test_meets_OnlyAResetLeavesTheSafeState :
    ((∃ (c : Instr) (s t : State), s.isSafe = true ∧ exec c s = .next t)) :=
  ⟨.extest, { ready with gnt := { ready.gnt with safe := some ⟨0, 0, 0, 0, 0, false, 0⟩ } }, _, rfl, rfl⟩

end Sys2Proof.Tests
end

section
/-! SUPPORT. Frames: what `Touches` gives of the statements' `Only`, and the calculus of `RegsOnly`. -/

namespace Sys2Proof

open Sys2Proof.Machine

theorem Machine.Touches.only {ps : List Piece} {s t : State} (h : Touches (· ∈ ps) s t) : Only ps s t := h.same

theorem RegsOnly.refl (pages : List Nat) (s : State) : RegsOnly pages s s := fun _ _ => rfl

theorem RegsOnly.trans {pages : List Nat} {s t u : State} (h : RegsOnly pages s t) (h' : RegsOnly pages t u) :
    RegsOnly pages s u := fun k hk => (h' k hk).trans (h k hk)

theorem RegsOnly.of_regs_eq {s t : State} (pages : List Nat) (h : t.regs = s.regs) : RegsOnly pages s t :=
  fun _ _ => by rw [h]

end Sys2Proof

namespace Sys2Proof.Machine

/-- Fields at different places of a page have different keys. -/
theorem Fld.key_ne_of_place_ne (page : Nat) {f g : Fld} (h : f.off * 8 + f.lo ≠ g.off * 8 + g.lo) :
    f.key page 0 0 ≠ g.key page 0 0 := by simp only [Fld.key]; omega

theorem State.wr_regsOnly (s : State) (page : Nat) {f : Fld} (hf : f.off * 8 + f.lo < 0x8000) (v : Nat) :
    RegsOnly [page] s (s.wr page f v) := by
  intro k hk
  refine State.at?_wrx_of_ne s page f 0 0 v fun he => hk ?_
  have hp : pageOfKey k = page := by rw [he, pageOfKey, Fld.key]; omega
  simp [hp]

theorem State.wrPair_regsOnly (s : State) (page : Nat) {ns frac : Fld} (hns : ns.off * 8 + ns.lo < 0x8000)
    (hfrac : frac.off * 8 + frac.lo < 0x8000) (t : T80) : RegsOnly [page] s (s.wrPair page ns frac t) :=
  (State.wr_regsOnly s page hns _).trans (State.wr_regsOnly _ page hfrac _)

theorem State.setBit_regsOnly (s : State) (page : Nat) {f : Fld} (hf : f.off * 8 + f.lo < 0x8000) {b : Nat} (hb : b < 64) :
    RegsOnly [page] s (s.setBit page f b) := by
  have hw := State.wr_regsOnly s page hf (putBit (s.rdi page f 0) b true)
  unfold State.setBit State.putBitAt
  rw [Nat.div_eq_of_lt hb, Nat.mod_eq_of_lt hb]
  exact hw

theorem State.refreshErr_regsOnly (s : State) (page : Nat) : RegsOnly [page] s (s.refreshErr page) :=
  State.wr_regsOnly s page (by decide) _

theorem State.send_only (s : State) (o : Output) : Only [.out] s (s.send o) :=
  Touches.only (State.send_touches (by decide) (Touches.refl _ s))

theorem recordBad_only (kind addr : Nat) (s : State) : Only [.regs, .out, .host, .latches] s (recordBad kind addr s) :=
  Touches.only (recordBad_touches (by decide) (by decide) (by decide) (by decide) (Touches.refl _ s))

theorem State.wakeClock_host (s : State) (page : Nat) : (s.wakeClock page).host = s.host := by rw [State.wakeClock_eq]

theorem State.wakeClock_out (s : State) (page : Nat) : (s.wakeClock page).out = s.out := by rw [State.wakeClock_eq]

theorem State.wakeClock_now (s : State) (page : Nat) : (s.wakeClock page).now = s.now := by rw [State.wakeClock_eq]; rfl

/-- Stated for a bare state, since the kernel compares two built ones field by field. -/
theorem State.regs_with_hat (s : State) (h : Hatband) : ({ s with hat := h } : State).regs = s.regs := rfl

/-- A pair reads what the registers hold, whatever else changes. -/
theorem State.rdPair_congr {s t : State} (h : t.regs = s.regs) (page : Nat) (ns frac : Fld) :
    t.rdPair page ns frac = s.rdPair page ns frac := by
  unfold State.rdPair State.rd
  rw [State.rdx_congr h, State.rdx_congr h]

/-- A pair reads back the instant written to it, where its halves are a 64-bit and a 16-bit field of their own (R12). -/
theorem State.rdPair_wrPair (s : State) (page : Nat) {ns frac : Fld} (hns : ns.w = 64) (hfrac : frac.w = 16)
    (hne : ns.off * 8 + ns.lo ≠ frac.off * 8 + frac.lo) {t : T80} (ht : t < 2 ^ t80Bits) :
    (s.wrPair page ns frac t).rdPair page ns frac = t := by
  have hwhole : t / nsUnits < 2 ^ 64 := Nat.div_lt_of_lt_mul ht
  have hpart : t % nsUnits < 2 ^ 16 := Nat.mod_lt t (by decide)
  unfold State.rdPair State.wrPair
  rw [State.rd_wr_self, State.rd_wr_of_ne _ _ (Fld.key_ne_of_place_ne page hne), State.rd_wr_self, hns, hfrac,
    Nat.mod_eq_of_lt hwhole, Nat.mod_eq_of_lt hpart, Nat.div_add_mod']

end Sys2Proof.Machine
end

section
/-! SUPPORT. The bits of the numbers that the access codes compute (R3, R4, R8). -/

namespace Sys2Proof.Machine

/-- Numbers without a common bit add without a carry. -/
theorem testBit_add_of_and_eq_zero {a b : Nat} (h : a &&& b = 0) (i : Nat) :
    (a + b).testBit i = (a.testBit i || b.testBit i) := by
  have hd : ∀ j, (a.testBit j && b.testBit j) = false := fun j => by rw [← Nat.testBit_and, h, Nat.zero_testBit]
  have h0 : ¬ (a % 2 = 1 ∧ b % 2 = 1) := by simpa [Nat.testBit_zero] using hd 0
  induction i generalizing a b with
  | zero => simp only [Nat.testBit_zero, ← Bool.decide_or, decide_eq_decide]; omega
  | succ i ih =>
    have hs : (a + b) / 2 = a / 2 + b / 2 := by omega
    have hh : ∀ j, ((a / 2).testBit j && (b / 2).testBit j) = false := fun j => by
      simpa only [← Nat.testBit_succ] using hd (j + 1)
    simp only [Nat.testBit_succ, hs]
    exact ih (Nat.eq_of_testBit_eq fun j => by rw [Nat.testBit_and, hh, Nat.zero_testBit]) hh
      (by simpa [Nat.testBit_zero] using hh 0)

/-- Taking away the common bits is the bitwise difference. -/
theorem sub_and_eq_ldiff (a b : Nat) : a - (a &&& b) = Nat.ldiff a b := by
  have hd : Nat.ldiff a b &&& (a &&& b) = 0 := Nat.eq_of_testBit_eq fun i => by
    rw [Nat.testBit_and, Nat.testBit_ldiff, Nat.testBit_and, Nat.zero_testBit]
    cases a.testBit i <;> cases b.testBit i <;> rfl
  have hs : Nat.ldiff a b + (a &&& b) = a := Nat.eq_of_testBit_eq fun i => by
    rw [testBit_add_of_and_eq_zero hd, Nat.testBit_ldiff, Nat.testBit_and]
    cases a.testBit i <;> cases b.testBit i <;> rfl
  omega

theorem testBit_add_two_pow {n b : Nat} (h : n.testBit b = false) (c : Nat) :
    (n + 2 ^ b).testBit c = (n.testBit c || decide (b = c)) := by
  have hd : n &&& 2 ^ b = 0 := Nat.eq_of_testBit_eq fun i => by
    by_cases hi : b = i
    · subst hi; simp [h]
    · simp [Nat.testBit_two_pow_of_ne hi]
  rw [testBit_add_of_and_eq_zero hd, Nat.testBit_two_pow]

/-- A bit put at 1 is 1, and every other bit is as it was. -/
theorem testBit_putBit_true (n b c : Nat) : (putBit n b true).testBit c = (n.testBit c || decide (b = c)) := by
  unfold putBit
  split
  · next h =>
    by_cases hc : b = c
    · subst hc; simp [h]
    · simp [hc]
  · next h => exact testBit_add_two_pow (by simpa using h) c

/-- A number gathered from the bits of a predicate below a width has exactly those bits. -/
theorem testBit_foldl_two_pow (g : Nat → Nat) (w c : Nat) :
    ((List.range w).foldl (fun n b => if g b = 0 then n else n + 2 ^ b) 0).testBit c = (decide (c < w) && g c != 0) := by
  induction w generalizing c with
  | zero => simp
  | succ w ih =>
    rw [List.range_succ, List.foldl_append]
    simp only [List.foldl_cons, List.foldl_nil]
    have hw := ih w
    by_cases hg : g w = 0
    · rw [if_pos hg, ih c]
      rcases Nat.lt_trichotomy c w with h | h | h
      · simp [h, Nat.lt_succ_of_lt h]
      · subst h; simp [hg]
      · simp [Nat.not_lt.2 h.le, Nat.not_lt.2 h]
    · rw [if_neg hg, testBit_add_two_pow (by simpa using hw), ih c]
      rcases Nat.lt_trichotomy c w with h | h | h
      · simp [h, Nat.lt_succ_of_lt h, h.ne']
      · subst h; simp [hg]
      · simp [Nat.not_lt.2 h.le, Nat.not_lt.2 (Nat.succ_le_of_lt h), h.ne]

/-- A 64-bit write replaces the whole word (R8). -/
theorem merged_whole (old new_ : Nat) : merged old new_ true true = new_ := by
  simp only [merged, if_true]; omega

/-- The bits of a W1C field that a clear leaves are those that events have set in this MGMT cycle (R4). -/
theorem testBit_keptBits (s : State) (page : Nat) {f : Fld} (hf : f.acc = .w1c) (i j : Nat) {c : Nat} (hc : c < f.w) :
    (s.keptBits page f i j).testBit c = (s.setNow.val 0 (f.key page i j + c) != 0) := by
  unfold State.keptBits
  rw [hf]
  simpa [hc] using testBit_foldl_two_pow (fun b => s.setNow.val 0 (f.key page i j + b)) f.w c

/-- A W1C bit stays where no 1 is written to it, or where it is kept (R3, R4). -/
theorem testBit_taken_w1c {f : Fld} (hf : f.acc = .w1c) (lo old word live kept : Nat) {c : Nat} (hc : c < f.w) :
    (f.taken lo old word live kept).testBit c = (old.testBit c && (!live.testBit (lo + c) || kept.testBit c)) := by
  unfold Fld.taken bits
  rw [hf]
  dsimp only
  simp only [sub_and_eq_ldiff, Nat.testBit_ldiff, Nat.testBit_mod_two_pow, Nat.testBit_div_two_pow, hc, decide_true,
    Bool.true_and, Bool.not_and, Bool.not_not, Nat.add_comm c lo]

end Sys2Proof.Machine
end

section
/-! SUPPORT. A host write on its way to the register: the gates of R43 to R47 and R52, the atomic halves of R8 and R40, and the
fields that a register's word is made of. -/

namespace Sys2Proof.Machine

/-- A write that could have been sent runs as hostWrite (R4, R8). -/
theorem exec_registerWrite (page : BitVec 14) {off : BitVec 12} (data : Word) {low high : Bool} (s : State)
    (ho : off.toNat % 8 = 0) (hh : (low || high) = true) :
    exec (.registerWrite page off data low high) s =
      .next (hostWrite ⟨page.toNat, off.toNat, data.toNat, low, high⟩ s) := by
  have hc : (off.toNat % 8 == 0 && (low || high)) = true := by simp [ho, hh]
  exact congrArg (fun c => Host.Outcome.next (s.given c (hostWrite ⟨page.toNat, off.toNat, data.toNat, low, high⟩))) hc

theorem exec_t80PairCommit {page : BitVec 14} {off : BitVec 12} (data : Word) (s : State) (ho : off.toNat % 8 = 0)
    (hp : ((pairAt page.toNat off.toNat).any fun p => p.1.acc != .ro) = true) :
    exec (.t80PairCommit page off data) s = .next (hostWrite ⟨page.toNat, off.toNat, data.toNat, true, true⟩ s) := by
  have hc : (off.toNat % 8 == 0 && (pairAt page.toNat off.toNat).any fun p => p.1.acc != .ro) = true := by simp [ho, hp]
  exact congrArg (fun c => Host.Outcome.next (s.given c (hostWrite ⟨page.toNat, off.toNat, data.toNat, true, true⟩))) hc

section
variable {page off data : Nat} {low high : Bool} {s : State}

theorem hostWrite_absent (hp : present page = false) :
    hostWrite ⟨page, off, data, low, high⟩ s = recordBad 3 (barOf page off) s := by
  unfold hostWrite
  split
  · simp [State.headerWrite, hp, barOf]
  · simp [hp]

theorem hostWrite_header (ho : off < 0x080) (hp : present page = true) (hs : s.stopped = false) :
    hostWrite ⟨page, off, data, low, high⟩ s = writeHeader ⟨page, off, data, low, high⟩ s := by
  simp [hostWrite, ho, State.headerWrite, hp, State.running_of hs]

/-- A write that passes every gate reaches the register, the clock of the page's domain woken (R47). -/
theorem hostWrite_body (ho : 0x080 ≤ off) (hp : present page = true) (hs : s.stopped = false) (hsh : s.shut page = false)
    (ha : atomic64 page off = true → (low && high) = true) :
    hostWrite ⟨page, off, data, low, high⟩ s = writeBody ⟨page, off, data, low, high⟩ (s.wakeClock page) := by
  have hn : (atomic64 page off && !(low && high)) = false := by
    cases h : atomic64 page off with
    | false => rfl
    | true => rw [ha h]; rfl
  simp only [hostWrite, Nat.not_lt.2 ho, if_false, hp, Bool.not_true, Bool.false_eq_true, State.written_of hs hsh, hn]

/-- A half of an atomic-64 register is not written (R8, R40). -/
theorem hostWrite_halfAtomic (ho : 0x080 ≤ off) (hp : present page = true) (hs : s.stopped = false)
    (hsh : s.shut page = false) (ha : atomic64 page off = true) (hh : (low && high) = false) :
    hostWrite ⟨page, off, data, low, high⟩ s = s.wakeClock page := by
  simp [hostWrite, Nat.not_lt.2 ho, hp, State.written_of hs hsh, ha, hh]

end

theorem writeBody_of_pair {page off data : Nat} {low high : Bool}
    (hp : ((pairAt page off).any fun p => p.1.acc != .ro) = true) (s : State) :
    writeBody ⟨page, off, data, low, high⟩ s = commitPair page off data s := if_pos hp

/-- The fields of a register, each with its place in its run. -/
def fieldsAt (page off : Nat) : List (Fld × Nat) := (tableOf page off).filterMap fun f => (f.index? off).map (f, ·)

/-- What a write puts into one field of its register: each place of it, by the access code (R3, R4). -/
def storeField (x : RegWrite) (s t : State) (p : Fld × Nat) : State :=
  (List.range p.1.m).foldl (fun u j => u.wrx x.page p.1 p.2 j
    (p.1.taken (p.1.lo + p.1.bst * j) (s.rdx x.page p.1 p.2 j) (x.word s) x.live (s.keptBits x.page p.1 p.2 j))) t

/-- A stored register is its writable fields stored one after the other. -/
theorem storeReg_eq_foldl (x : RegWrite) (s : State) :
    storeReg x s = (fieldsAt x.page x.off).foldl
      (fun t p => if p.1.acc == .ro || p.1.acc == .wo then t else storeField x s t p) s := by
  unfold storeReg storeIf fieldsAt
  rw [List.foldl_filterMap]
  dsimp only
  congr 1
  funext t f
  cases f.index? x.off <;> rfl

/-- What a field that stands alone takes from the write (R3, R4). -/
def RegWrite.takes (x : RegWrite) (s : State) (f : Fld) : Nat :=
  f.taken f.lo (s.rd x.page f) (x.word s) x.live (s.keptBits x.page f 0 0)

/-- A field that the host may write takes its bits of a 64-bit write as they are (R3). -/
theorem RegWrite.takes_of_rw {f : Fld} (hf : f.acc = .rw) (page off data : Nat) (s : State) :
    RegWrite.takes ⟨page, off, data, true, true⟩ s f = bits data f.lo f.w := by
  unfold RegWrite.takes Fld.taken
  rw [hf, RegWrite.word, merged_whole]

end Sys2Proof.Machine
end

section
/-! SUPPORT. A host read of a register: what it answers and what it latches (R8, R12, R52). -/

namespace Sys2Proof.Machine

/-- Besides PAGE_STATUS no register shows Mitten's part of the state. -/
theorem State.reading_of_mtn (s : State) (m : Mitten) (page : Nat) {off : Nat} (h : off ≠ 0x018) :
    ({ s with mtn := m } : State).reading page off = s.reading page off := by
  unfold State.reading
  rw [if_neg h, if_neg h]
  rfl

theorem State.reading_wakeClock (s : State) (page : Nat) {off : Nat} (h : off ≠ 0x018) :
    (s.wakeClock page).reading page off = s.reading page off := by
  rw [State.wakeClock_eq, State.reading_of_mtn s _ page h]

/-- A read that could have been sent runs as hostRead (R8, R35). -/
theorem exec_t80NsRead {r : ReadOf} {off : BitVec 12} (s : State) (hp : r.page.toNat < barPages r.bar) (ho : off.toNat % 8 = 0)
    (hh : (r.low || r.high) = true) :
    exec (.t80NsRead r off) s = .next (hostRead r.bar r.page.toNat off.toNat r.low r.high s) := by
  have hc : (off.toNat % 8 == 0 && (r.low || r.high) && decide (r.page.toNat < barPages r.bar)) = true := by
    simp [hp, ho, hh]
  exact congrArg (fun c => Host.Outcome.next (s.given c (hostRead r.bar r.page.toNat off.toNat r.low r.high))) hc

theorem page_lt_barPages_bar0 {page : BitVec 14} : page.toNat < barPages .bar0 := page.isLt

theorem latchHalf_latch (page off : Nat) (s : State) (a : Nat) :
    (latchHalf page off s).host.latch.at? a =
      if a = barOf page off then some (s.reading page (off + 8)) else s.host.latch.at? a :=
  SMap.at?_enter _ _ _ _

section
variable {page off : Nat} {s : State}

/-- A stopped device answers all ones, but for page 0 of BAR0 (R52, R539). -/
theorem readReg_stopped {bar2 : Bool} (hs : s.stopped = true) (hb : (bar2 || page != 0) = true) :
    readReg bar2 page off s = (2 ^ 64 - 1, s) := by
  simp [readReg, hs, hb]

theorem readReg_absent (hs : s.stopped = false) (hp : present page = false) : readReg false page off s = (0, s) := by
  simp [readReg, hs, hp]

/-- The read of an NS register latches its companion (R12). -/
theorem readReg_pair (hs : s.stopped = false) (hp : present page = true) (hsh : s.shut page = false) (ho : 0x080 ≤ off)
    (hpair : (pairAt page off).isSome = true) :
    readReg false page off s = (s.reading page off, latchHalf page off (s.wakeClock page)) := by
  simp [readReg, hs, hp, hsh, Nat.not_lt.2 ho, hpair]

theorem readReg_single (hs : s.stopped = false) (hp : present page = true) (hsh : s.shut page = false) (ho : 0x080 ≤ off)
    (hpair : (pairAt page off).isSome = false) (hcomp : (pairAt page (off - 8)).isSome = false)
    (hbw : (layoutOf page == .cntp) = false) :
    readReg false page off s = (s.reading page off, s.wakeClock page) := by
  have hbw' : layoutOf page ≠ .cntp := by simpa using hbw
  simp [readReg, hs, hp, hsh, Nat.not_lt.2 ho, hpair, hcomp, hbw']

/-- The completion of a read that takes the register (R8). -/
def readReply (bar2 : Bool) (page off : Nat) (low high : Bool) (s : State) : State :=
  let r := readReg bar2 page off s
  { r.2 with free := r.2.free + 1 }.send (.reply "READ" [halves r.1 low high])

theorem hostRead_bar0 (low high : Bool) :
    hostRead .bar0 page off low high s =
      if !(low && high) && atomic64 page off && !(s.stopped && page != 0) then s.send (.reply "READ" [0])
      else readReply false page off low high s := rfl

theorem hostRead_bar2 (low high : Bool) :
    hostRead .bar2 page off low high s =
      if !(low && high) && atomic64 (page + 0x1000) off && !s.stopped then s.send (.reply "READ" [0])
      else readReply true (page + 0x1000) off low high s := by
  simp [hostRead, readReply]

theorem readReply_out (bar2 low high : Bool) :
    (readReply bar2 page off low high s).out = .reply "READ" [halves (readReg bar2 page off s).1 low high] :: s.out :=
  have hm : Touches (· ∈ [.host, .vsr, .mtn]) s (readReg bar2 page off s).2 :=
    readReg_touches (by decide) (by decide) (by decide) (Touches.refl _ s)
  congrArg (_ :: ·) (hm.same .out (by decide))

theorem hostRead_ns (hs : s.stopped = false) (hp : present page = true) (hsh : s.shut page = false) (ho : 0x080 ≤ off)
    (hpair : (pairAt page off).isSome = true) :
    hostRead .bar0 page off true true s =
      { latchHalf page off (s.wakeClock page) with free := s.free + 1 }.send (.reply "READ" [s.reading page off]) := by
  rw [hostRead_bar0, if_neg (by simp), readReply, readReg_pair hs hp hsh ho hpair, State.wakeClock_eq]
  rfl

theorem hostRead_single (hs : s.stopped = false) (hp : present page = true) (hsh : s.shut page = false) (ho : 0x080 ≤ off)
    (hpair : (pairAt page off).isSome = false) (hcomp : (pairAt page (off - 8)).isSome = false)
    (hbw : (layoutOf page == .cntp) = false) (low high : Bool) (hh : ¬ ((low && high) = false ∧ atomic64 page off = true)) :
    hostRead .bar0 page off low high s =
      { s.wakeClock page with free := s.free + 1 }.send (.reply "READ" [halves (s.reading page off) low high]) := by
  have hc : ¬ (!(low && high) && atomic64 page off && !(s.stopped && page != 0)) = true := fun h => hh (by simp_all)
  rw [hostRead_bar0, if_neg hc, readReply, readReg_single hs hp hsh ho hpair hcomp hbw, State.wakeClock_eq]

theorem hostRead_halfAtomic (hs : s.stopped = false) {low high : Bool} (hh : (low && high) = false)
    (ha : atomic64 page off = true) : hostRead .bar0 page off low high s = s.send (.reply "READ" [0]) := by
  rw [hostRead_bar0, if_pos (by simp [hs, hh, ha])]

theorem hostRead_absent (hs : s.stopped = false) (hp : present page = false) (low high : Bool) :
    ∃ n, hostRead .bar0 page off low high s = { s with free := n }.send (.reply "READ" [0]) := by
  rw [hostRead_bar0]
  split
  · exact ⟨s.free, rfl⟩
  · have hz : halves 0 low high = 0 := by cases low <;> cases high <;> rfl
    exact ⟨s.free + 1, by rw [readReply, readReg_absent hs hp, hz]⟩

theorem hostRead_stopped (hs : s.stopped = true) {bar : Bar} (hb : bar = .bar2 ∨ (bar = .bar0 ∧ page ≠ 0)) (low high : Bool) :
    hostRead bar page off low high s =
      { s with free := s.free + 1 }.send (.reply "READ" [halves (2 ^ 64 - 1) low high]) := by
  rcases hb with rfl | ⟨rfl, h0⟩
  · rw [hostRead_bar2, if_neg (by simp [hs]), readReply, readReg_stopped hs rfl]
  · rw [hostRead_bar0, if_neg (by simp [hs, h0]), readReply, readReg_stopped hs (by simp [h0])]

/-- A read is completed once, with one word, whatever it met. -/
theorem hostRead_out (bar : Bar) (low high : Bool) : ∃ n, (hostRead bar page off low high s).out = .reply "READ" [n] :: s.out := by
  cases bar with
  | bar4 => exact ⟨_, rfl⟩
  | bar0 =>
    rw [hostRead_bar0]
    split
    · exact ⟨0, rfl⟩
    · exact ⟨_, readReply_out _ _ _⟩
  | bar2 =>
    rw [hostRead_bar2]
    split
    · exact ⟨0, rfl⟩
    · exact ⟨_, readReply_out _ _ _⟩

theorem hostRead_only (bar : Bar) (low high : Bool) :
    Only [.free, .out, .host, .vsr, .mtn] s (hostRead bar page off low high s) :=
  (hostRead_touches (by decide) (by decide) (by decide) (by decide) (by decide) (Touches.refl _ s)).only

end

end Sys2Proof.Machine
end

section
/-! PROOF. O9: reads of a pair, of other registers, of a stopped device and of an absent page. -/

namespace Sys2Proof

open Sys2Proof.Machine

theorem exec_nsRead_of_pair (page : BitVec 14) (off : BitVec 12) (s : State) (hs : s.stopped = false)
    (hp : present page.toNat = true) (hsh : s.shut page.toNat = false) (hpair : (pairAt page.toNat off.toNat).isSome = true)
    (ho8 : off.toNat % 8 = 0) (ho : 0x080 ≤ off.toNat) :
    ∃ t, exec (.t80NsRead ⟨.bar0, page, true, true⟩ off) s = .next t ∧
      Only [.free, .out, .host, .mtn] s t ∧
      t.out = Output.reply "READ" [s.reading page.toNat off.toNat] :: s.out ∧
      t.host.latch.at? (barOf page.toNat off.toNat) = some (s.reading page.toNat (off.toNat + 8)) ∧
      (∀ a, a ≠ barOf page.toNat off.toNat → t.host.latch.at? a = s.host.latch.at? a) := by
  have hl (a : Nat) := latchHalf_latch page.toNat off.toNat (s.wakeClock page.toNat) a
  rw [State.wakeClock_host, State.reading_wakeClock s page.toNat (by omega : off.toNat + 8 ≠ 0x018)] at hl
  have he := exec_t80NsRead (r := ⟨.bar0, page, true, true⟩) s page_lt_barPages_bar0 ho8 rfl
  refine ⟨_, he.trans (congrArg _ (hostRead_ns hs hp hsh ho hpair)), ?_, ?_, ?_, ?_⟩
  · exact Touches.only (State.send_touches (by decide) (Touches.upd_free (by decide)
      (latchHalf_touches (by decide) (State.wakeClock_touches (by decide) (Touches.refl _ s)))))
  · exact congrArg (_ :: ·) (State.wakeClock_out s page.toNat)
  · exact (hl _).trans (if_pos rfl)
  · exact fun a ha => (hl a).trans (if_neg ha)

theorem exec_nsRead_of_single (page : BitVec 14) (off : BitVec 12) (low high : Bool) (s : State) (hs : s.stopped = false)
    (hp : present page.toNat = true) (hsh : s.shut page.toNat = false) (hpair : (pairAt page.toNat off.toNat).isSome = false)
    (hcomp : (pairAt page.toNat (off.toNat - 8)).isSome = false) (ho8 : off.toNat % 8 = 0) (ho : 0x090 ≤ off.toNat)
    (hbw : (layoutOf page.toNat == .cntp) = false) (hh : (low || high) = true) :
    ∃ t, exec (.t80NsRead ⟨.bar0, page, low, high⟩ off) s = .next t ∧
      Only [.free, .out, .mtn] s t ∧
      t.out = Output.reply "READ" [if (low && high) = false ∧ atomic64 page.toNat off.toNat = true then 0
        else halves (s.reading page.toNat off.toNat) low high] :: s.out := by
  have he := exec_t80NsRead (r := ⟨.bar0, page, low, high⟩) s page_lt_barPages_bar0 ho8 hh
  by_cases ha : (low && high) = false ∧ atomic64 page.toNat off.toNat = true
  · have ht := hostRead_halfAtomic hs ha.left ha.right
    refine ⟨_, he.trans (congrArg _ ht), ?_, ?_⟩
    · exact Touches.only (State.send_touches (by decide) (Touches.refl _ s))
    · rw [if_pos ha]; rfl
  · refine ⟨_, he.trans (congrArg _ (hostRead_single hs hp hsh (by omega) hpair hcomp hbw low high ha)), ?_, ?_⟩
    · exact Touches.only (State.send_touches (by decide) (Touches.upd_free (by decide)
        (State.wakeClock_touches (by decide) (Touches.refl _ s))))
    · rw [if_neg ha]
      exact congrArg (_ :: ·) (State.wakeClock_out s page.toNat)

/-- Settles O9: the two values by what readReg answers on an open page, the frame by what hostRead may touch. -/
theorem pairReadLatchesItsCompanion : Obligations.PairReadLatchesItsCompanion := by
  unfold Obligations.PairReadLatchesItsCompanion
  refine ⟨exec_nsRead_of_pair, exec_nsRead_of_single, ?_, ?_, ?_⟩
  · intro r off s hpage ho8 hh
    refine ⟨exec_t80NsRead s hpage ho8 hh, hostRead_only _ _ _, hostRead_out _ _ _, ?_⟩
    exact hostRead_only _ _ _ .regs (by decide)
  · intro r off s hpage ho8 hh hs hb
    refine ⟨_, (exec_t80NsRead s hpage ho8 hh).trans (congrArg _ (hostRead_stopped hs hb _ _)), ?_, rfl, rfl, rfl⟩
    exact Touches.only (State.send_touches (by decide) (Touches.upd_free (by decide) (Touches.refl _ s)))
  · intro r off s hpage ho8 hh hs hbar hp
    have he := exec_t80NsRead s hpage ho8 hh
    rw [hbar] at he
    obtain ⟨n, hn⟩ := hostRead_absent (off := off.toNat) hs hp r.low r.high
    refine ⟨_, he.trans (congrArg _ hn), ?_, rfl, rfl, rfl⟩
    exact Touches.only (State.send_touches (by decide) (Touches.upd_free (by decide) (Touches.refl _ s)))

end Sys2Proof
end

section
/-! PROOF. O10: PRIMARY_SWITCH, staged by its companion and committed by its NS write (R13, R96). -/

namespace Sys2Proof.Machine

/-- An instant later than TIME is stored and waits; nothing switches yet (R96). -/
theorem commitSwitch_later {t : T80} {s : State} (h : s.now < t) :
    commitSwitch t s = { s.wrPair 0x55 F.hbd5_PRIMARY_SWITCH_NS F.hbd5_PRIMARY_SWITCH_FRAC t with
      hat := { s.hat with switchPending := true } } := by
  unfold commitSwitch
  exact if_neg (Nat.not_le.2 h)

theorem commitPair_switch (nsWord : Nat) (s : State) : commitPair 0x55 0x090 nsWord s =
    commitSwitch (nsWord * nsUnits + s.host.staged.val 0 (barOf 0x55 0x090) % nsUnits) s := rfl

/-- NS and fraction make an instant of 80 bits (R59). -/
theorem instant_lt (ns : Word) (frac : Nat) : ns.toNat * nsUnits + frac % nsUnits < 2 ^ t80Bits := by
  have := ns.isLt
  simp only [nsUnits, t80Bits]
  omega

theorem writeBody_switchFrac (data : Nat) (s : State) :
    writeBody ⟨0x55, 0x098, data, true, true⟩ s = stageHalf ⟨0x55, 0x098, data, true, true⟩ s :=
  if_neg (by decide : ¬ ((pairAt 0x55 0x098).any fun p => p.1.acc != .ro) = true)

end Sys2Proof.Machine

namespace Sys2Proof

open Sys2Proof.Machine

theorem exec_switchFrac_staged {s : State} (frac : Word) (hs : s.stopped = false) (hsh : s.shut 0x55 = false) :
    ∃ t, exec (.registerWrite 0x055 0x098 frac true true) s = .next t ∧ Only [.host, .mtn] s t ∧
      t.host.staged.val 0 (barOf 0x55 0x090) = frac.toNat % 2 ^ 16 := by
  have hb : hostWrite ⟨0x55, 0x098, frac.toNat, true, true⟩ s =
      stageHalf ⟨0x55, 0x098, frac.toNat, true, true⟩ (s.wakeClock 0x55) :=
    (hostWrite_body (by decide) rfl hs hsh fun _ => rfl).trans (writeBody_switchFrac _ _)
  have he : exec (.registerWrite 0x055 0x098 frac true true) s =
      .next (hostWrite ⟨0x55, 0x098, frac.toNat, true, true⟩ s) := exec_registerWrite 0x055 frac s rfl rfl
  refine ⟨_, he.trans (congrArg Host.Outcome.next hb), ?_, ?_⟩
  · exact Touches.only (stageHalf_touches (by decide) (State.wakeClock_touches (by decide) (Touches.refl _ s)))
  · exact SMap.val_put_self 0 _ _ _

theorem exec_switchNs_commits {s : State} (ns : Word) (hs : s.stopped = false) (hsh : s.shut 0x55 = false)
    (hlater : s.now < ns.toNat * nsUnits + s.host.staged.val 0 (barOf 0x55 0x090) % nsUnits) :
    ∃ t, exec (.t80PairCommit 0x055 0x090 ns) s = .next t ∧ Only [.regs, .hat, .mtn] s t ∧ t.hat.switchPending = true ∧
      t.rdPair 0x55 F.hbd5_PRIMARY_SWITCH_NS F.hbd5_PRIMARY_SWITCH_FRAC =
        ns.toNat * nsUnits + s.host.staged.val 0 (barOf 0x55 0x090) % nsUnits ∧ RegsOnly [0x55] s t := by
  have hpair : ((pairAt 0x55 0x090).any fun p => p.1.acc != .ro) = true := by decide
  have he : exec (.t80PairCommit 0x055 0x090 ns) s = .next (hostWrite ⟨0x55, 0x090, ns.toNat, true, true⟩ s) :=
    exec_t80PairCommit ns s rfl hpair
  rw [hostWrite_body (by decide) rfl hs hsh fun _ => rfl, writeBody_of_pair hpair, commitPair_switch,
    State.wakeClock_host] at he
  have ht := instant_lt ns (s.host.staged.val 0 (barOf 0x55 0x090))
  generalize ns.toNat * nsUnits + s.host.staged.val 0 (barOf 0x55 0x090) % nsUnits = i at he hlater ht ⊢
  rw [commitSwitch_later ((State.wakeClock_now s 0x55).trans_lt hlater)] at he
  refine ⟨_, he, ?_, rfl, ?_, ?_⟩
  · exact Touches.only (Touches.upd_hat (by decide) (State.wrPair_touches (by decide)
      (State.wakeClock_touches (by decide) (Touches.refl _ s))))
  · exact (State.rdPair_congr (State.regs_with_hat _ _) 0x55 _ _).trans
      (State.rdPair_wrPair (s.wakeClock 0x55) 0x55 rfl rfl (by decide) ht)
  · exact ((RegsOnly.of_regs_eq _ (State.wakeClock_regs s 0x55)).trans
      (State.wrPair_regsOnly _ 0x55 (by decide) (by decide) i)).trans (RegsOnly.of_regs_eq _ (State.regs_with_hat _ _))

/-- Settles O10: the companion write stages, the NS write commits the instant made of both halves. -/
theorem pairCommitTakesBothHalves : Obligations.PairCommitTakesBothHalves := by
  unfold Obligations.PairCommitTakesBothHalves
  exact fun s ns frac hs hsh => ⟨exec_switchFrac_staged frac hs hsh, exec_switchNs_commits ns hs hsh⟩

end Sys2Proof
end

section
/-! PROOF. O11: a write of ERR_STATUS, as the W1C store of its three fields and the causes that stand on (R3, R4, R462). -/

namespace Sys2Proof.Machine

theorem fieldsAt_errStatus (page : Nat) : fieldsAt page 0x020 =
    [(F.hdr_ERR_STATUS_REAL, 0), (F.hdr_ERR_STATUS_QUENCHED, 0), (F.hdr_ERR_STATUS_INJECTED, 0)] := rfl

theorem storeReg_errStatus (x : RegWrite) (hx : x.off = 0x020) (s : State) :
    storeReg x s = ((s.wr x.page F.hdr_ERR_STATUS_REAL (x.takes s F.hdr_ERR_STATUS_REAL)).wr
      x.page F.hdr_ERR_STATUS_QUENCHED (x.takes s F.hdr_ERR_STATUS_QUENCHED)).wr
      x.page F.hdr_ERR_STATUS_INJECTED (x.takes s F.hdr_ERR_STATUS_INJECTED) := by
  rw [storeReg_eq_foldl, hx, fieldsAt_errStatus]
  rfl

theorem State.rd_refreshErr {f : Fld} (h : f.off * 8 + f.lo ≠ F.hdr_PAGE_STATUS_ERR_LINE.off * 8 + F.hdr_PAGE_STATUS_ERR_LINE.lo)
    (s : State) (page : Nat) : (s.refreshErr page).rd page f = s.rd page f :=
  State.rd_wr_of_ne s _ (Fld.key_ne_of_place_ne page h)

theorem State.pageHigh_congr {s t : State} {page : Nat} (hr : t.rd page F.hdr_ERR_STATUS_REAL = s.rd page F.hdr_ERR_STATUS_REAL)
    (hm : t.rd page F.hdr_ERR_MASK_MASK = s.rd page F.hdr_ERR_MASK_MASK) : t.pageHigh page = s.pageHigh page := by
  unfold State.pageHigh State.unmasked
  rw [hr, hm]

/-- ERR_LINE, refreshed, is the page's part of its line (R454). -/
theorem State.on_errLine_refreshErr (s : State) (page : Nat) :
    (s.refreshErr page).on page F.hdr_PAGE_STATUS_ERR_LINE = (s.refreshErr page).pageHigh page := by
  rw [State.pageHigh_congr (State.rd_refreshErr (by decide) s page) (State.rd_refreshErr (by decide) s page)]
  unfold State.on State.refreshErr
  rw [State.rd_wr_self]
  cases s.pageHigh page <;> rfl

theorem State.testBit_rd_setBit (s : State) (page : Nat) (f : Fld) {b c : Nat} (hb : b < 64) (hc : c < f.w) :
    ((s.setBit page f b).rd page f).testBit c = ((s.rd page f).testBit c || decide (b = c)) := by
  have hr : (s.setBit page f b).rd page f = putBit (s.rd page f) b true % 2 ^ f.w := by
    unfold State.setBit State.putBitAt
    rw [Nat.div_eq_of_lt hb, Nat.mod_eq_of_lt hb]
    exact (State.rdx_congr (State.mark_regs _ _ _) page f 0 0).trans (State.rdi_wri_self s page f 0 _)
  rw [hr, Nat.testBit_mod_two_pow, testBit_putBit_true]
  simp [hc]

/-- The causes of a list read 1 again, one after the other, as clearErr sets those that stand on. -/
def assertCauses (page : Nat) (causes : List Nat) (s : State) : State :=
  causes.foldl (fun t c => (t.setBit page F.hdr_ERR_STATUS_REAL c).refreshErr page) s

theorem testBit_real_assertCauses (page : Nat) (causes : List Nat) (s : State) (hl : ∀ c ∈ causes, c < 16) {c : Nat}
    (hc : c < 16) :
    ((assertCauses page causes s).rd page F.hdr_ERR_STATUS_REAL).testBit c =
      ((s.rd page F.hdr_ERR_STATUS_REAL).testBit c || decide (c ∈ causes)) := by
  induction causes generalizing s with
  | nil => simp [assertCauses]
  | cons a r ih =>
    have ha : a < 64 := lt_trans (hl a (by simp)) (by decide)
    have hrest := ih ((s.setBit page F.hdr_ERR_STATUS_REAL a).refreshErr page) fun c h => hl c (List.mem_cons_of_mem a h)
    rw [State.rd_refreshErr (by decide), State.testBit_rd_setBit s page _ ha hc] at hrest
    refine hrest.trans ?_
    simp only [List.mem_cons, Bool.or_assoc, Bool.decide_or, eq_comm]

theorem on_errLine_assertCauses (page : Nat) (causes : List Nat) (s : State) :
    (assertCauses page causes (s.refreshErr page)).on page F.hdr_PAGE_STATUS_ERR_LINE =
      (assertCauses page causes (s.refreshErr page)).pageHigh page := by
  induction causes generalizing s with
  | nil => exact State.on_errLine_refreshErr s page
  | cons a r ih => exact ih ((s.refreshErr page).setBit page F.hdr_ERR_STATUS_REAL a)

theorem assertCauses_regsOnly (page : Nat) (causes : List Nat) (s : State) (hl : ∀ c ∈ causes, c < 16) :
    RegsOnly [page] s (assertCauses page causes s) := by
  induction causes generalizing s with
  | nil => exact RegsOnly.refl _ s
  | cons a r ih =>
    have ha : a < 64 := lt_trans (hl a (by simp)) (by decide)
    exact ((State.setBit_regsOnly s page (f := F.hdr_ERR_STATUS_REAL) (by decide) ha).trans
      (State.refreshErr_regsOnly _ page)).trans (ih _ fun c h => hl c (List.mem_cons_of_mem a h))

theorem resendCauses_regs (page cleared : Nat) (injected : Bool) (s : State) : (resendCauses page cleared injected s).regs = s.regs :=
  (resendCauses_touches (ps := (· ∈ [.out, .host])) (by decide) (by decide) (Touches.refl _ s)).same .regs (by decide)

/-- The causes that the write would clear and that the state shows to stand (R462). -/
def RegWrite.standing (x : RegWrite) (s : State) : List Nat :=
  (List.range 16).filter fun c => (s.rd x.page F.hdr_ERR_STATUS_REAL &&& x.live % 2 ^ 16).testBit c && s.persists x.page c

theorem RegWrite.standing_lt (x : RegWrite) (s : State) : ∀ c ∈ x.standing s, c < 16 := fun _ hc =>
  List.mem_range.1 (List.mem_filter.1 hc).1

theorem RegWrite.mem_standing (x : RegWrite) (s : State) {c : Nat} (hc : c < 16) :
    decide (c ∈ x.standing s) = ((s.rd x.page F.hdr_ERR_STATUS_REAL).testBit c && x.live.testBit c && s.persists x.page c) := by
  have hm : (x.live % 2 ^ 16).testBit c = x.live.testBit c := by rw [Nat.testBit_mod_two_pow, decide_eq_true hc, Bool.true_and]
  simp only [RegWrite.standing, List.mem_filter, List.mem_range, Nat.testBit_and, hm, hc, true_and, Bool.decide_eq_true]

/-- The page as the write leaves it, before vectors are sent again. -/
def clearedErr (x : RegWrite) (s : State) : State :=
  assertCauses x.page (x.standing s) ((storeReg x s).refreshErr x.page)

/-- Vectors sent again change no register. -/
theorem clearErr_regs (x : RegWrite) (s : State) : (clearErr x s).regs = (clearedErr x s).regs :=
  resendCauses_regs _ _ _ _

theorem storeReg_errStatus_regsOnly (x : RegWrite) (hx : x.off = 0x020) (s : State) : RegsOnly [x.page] s (storeReg x s) := by
  rw [storeReg_errStatus x hx]
  exact ((State.wr_regsOnly s _ (f := F.hdr_ERR_STATUS_REAL) (by decide) _).trans
    (State.wr_regsOnly _ _ (f := F.hdr_ERR_STATUS_QUENCHED) (by decide) _)).trans
    (State.wr_regsOnly _ _ (f := F.hdr_ERR_STATUS_INJECTED) (by decide) _)

theorem rd_real_storeReg (x : RegWrite) (hx : x.off = 0x020) (s : State) :
    (storeReg x s).rd x.page F.hdr_ERR_STATUS_REAL = x.takes s F.hdr_ERR_STATUS_REAL % 2 ^ 16 := by
  rw [storeReg_errStatus x hx, State.rd_wr_of_ne _ _ (Fld.key_ne_of_place_ne _ (by decide)),
    State.rd_wr_of_ne _ _ (Fld.key_ne_of_place_ne _ (by decide)), State.rd_wr_self]
  rfl

/-- The W1C store alone, before the causes that stand on read 1 again. -/
theorem testBit_real_storeReg (x : RegWrite) (hx : x.off = 0x020) (s : State) {c : Nat} (hc : c < 16) :
    ((storeReg x s).rd x.page F.hdr_ERR_STATUS_REAL).testBit c = ((s.rd x.page F.hdr_ERR_STATUS_REAL).testBit c &&
      (!x.live.testBit c || s.setNow.val 0 (F.hdr_ERR_STATUS_REAL.key x.page 0 0 + c) != 0)) := by
  rw [rd_real_storeReg x hx, Nat.testBit_mod_two_pow, RegWrite.takes, testBit_taken_w1c rfl _ _ _ _ _ hc,
    testBit_keptBits s x.page rfl 0 0 hc]
  simp [hc, F.hdr_ERR_STATUS_REAL]

/-- Which REAL bits outlive a write of ERR_STATUS (R3, R4, R462). -/
theorem clearErr_real (x : RegWrite) (hx : x.off = 0x020) (s : State) {c : Nat} (hc : c < 16) :
    ((clearErr x s).rd x.page F.hdr_ERR_STATUS_REAL).testBit c = ((s.rd x.page F.hdr_ERR_STATUS_REAL).testBit c &&
      (!x.live.testBit c || s.setNow.val 0 (F.hdr_ERR_STATUS_REAL.key x.page 0 0 + c) != 0 || s.persists x.page c)) := by
  have hr : (clearErr x s).rd x.page F.hdr_ERR_STATUS_REAL = (clearedErr x s).rd x.page F.hdr_ERR_STATUS_REAL :=
    State.rdx_congr (clearErr_regs x s) _ _ 0 0
  rw [hr, clearedErr, testBit_real_assertCauses _ _ _ (x.standing_lt s) hc, State.rd_refreshErr (by decide),
    testBit_real_storeReg x hx s hc, x.mem_standing s hc]
  cases (s.rd x.page F.hdr_ERR_STATUS_REAL).testBit c <;> cases x.live.testBit c <;> simp

theorem clearErr_errLine (x : RegWrite) (s : State) :
    (clearErr x s).on x.page F.hdr_PAGE_STATUS_ERR_LINE = (clearErr x s).pageHigh x.page := by
  have hc (f : Fld) : (clearErr x s).rd x.page f = (clearedErr x s).rd x.page f := State.rdx_congr (clearErr_regs x s) _ f 0 0
  rw [State.pageHigh_congr (hc _) (hc _), State.on, hc]
  exact on_errLine_assertCauses x.page (x.standing s) (storeReg x s)

theorem clearErr_regsOnly (x : RegWrite) (hx : x.off = 0x020) (s : State) : RegsOnly [x.page] s (clearErr x s) :=
  (((storeReg_errStatus_regsOnly x hx s).trans (State.refreshErr_regsOnly _ _)).trans
    (assertCauses_regsOnly _ _ _ (x.standing_lt s))).trans (RegsOnly.of_regs_eq _ (resendCauses_regs _ _ _ _))

/-- A page with an error line has its ERR_ registers: LAN and OCT pages have no line (R167, R170, R453). -/
theorem errAbsent_of_line {page : Nat} (h : (lineOfPage page).isSome = true) : errAbsent page = false := by
  by_contra ha
  have hr : (0x580 ≤ page ∧ page ≤ 0x5FF) ∨ (0x800 ≤ page ∧ page ≤ 0xBFF) := by
    simpa only [errAbsent, Bool.or_eq_false_iff, decide_eq_false_iff_not, ← not_or, not_not] using ha
  have hn : lineOfPage page = none := by
    unfold lineOfPage
    repeat rw [if_neg (by omega)]
  rw [hn] at h
  cases h

theorem hostWrite_errStatus {page data : Nat} {s : State} (hs : s.stopped = false) (hp : present page = true)
    (hl : (lineOfPage page).isSome = true) :
    hostWrite ⟨page, 0x020, data, true, true⟩ s = clearErr ⟨page, 0x020, data, true, true⟩ s := by
  rw [hostWrite_header (by decide) hp hs]
  show s.given (!errAbsent page) _ = _
  rw [errAbsent_of_line hl]
  rfl

end Sys2Proof.Machine

namespace Sys2Proof

open Sys2Proof.Machine

/-- Settles O11, bit by bit: the W1C store leaves what R4 keeps, and the standing causes read 1 again. -/
theorem errStatusClearsWhereOneIsWritten : Obligations.ErrStatusClearsWhereOneIsWritten := by
  unfold Obligations.ErrStatusClearsWhereOneIsWritten
  intro page data s hs hp hl
  have hlive : RegWrite.live ⟨page.toNat, 0x020, data.toNat, true, true⟩ = data.toNat := merged_whole 0 _
  have he := exec_registerWrite page (off := 0x020) data (low := true) (high := true) s rfl rfl
  refine ⟨_, he.trans (congrArg Host.Outcome.next (hostWrite_errStatus hs hp hl)), ?_, fun c => ?_,
    clearErr_errLine _ s, clearErr_regsOnly ⟨page.toNat, 0x020, data.toNat, true, true⟩ rfl s⟩
  · exact Touches.only (clearErr_touches (by decide) (by decide) (by decide) (by decide) (Touches.refl _ s))
  · have hbit := clearErr_real ⟨page.toNat, 0x020, data.toNat, true, true⟩ rfl s c.isLt
    rwa [hlive] at hbit

end Sys2Proof
end

section
/-! PROOF. O14: host writes of BAR0 and the accesses that are discarded (R35, R37, R39, R43). -/

namespace Sys2Proof.Machine

theorem fieldsAt_notifyBase : fieldsAt 0x303 0x100 = [(F.tbl3_NOTIFY_BASE, 0)] := by decide

theorem storeReg_notifyBase (data : Nat) (s : State) : storeReg ⟨0x303, 0x100, data, true, true⟩ s =
    s.wr 0x303 F.tbl3_NOTIFY_BASE (RegWrite.takes ⟨0x303, 0x100, data, true, true⟩ s F.tbl3_NOTIFY_BASE) := by
  rw [storeReg_eq_foldl, fieldsAt_notifyBase]
  rfl

theorem writeBody_notifyBase (data : Nat) (s : State) :
    writeBody ⟨0x303, 0x100, data, true, true⟩ s = s.wr 0x303 F.tbl3_NOTIFY_BASE (bits data 5 59) := by
  rw [writeBody, if_neg (by decide : ¬ ((pairAt 0x303 0x100).any fun p => p.1.acc != .ro) = true)]
  exact (storeReg_notifyBase data s).trans (congrArg _ (RegWrite.takes_of_rw rfl _ _ _ _))

/-- An access of a size or alignment that is not supported runs as badSize (R39). -/
theorem exec_badSizeAccess {bar2 write : Bool} {a : BitVec 26} {n : BitVec 13} {bs : List Byte} (s : State)
    (h0 : 0 < n.toNat) (h1 : n.toNat ≤ 4096) (ha : a.toNat + n.toNat ≤ (if bar2 = true then 2 ^ 24 else 2 ^ 26))
    (h4 : ¬ (n.toNat = 4 ∧ a.toNat % 4 = 0)) (h8 : ¬ (n.toNat = 8 ∧ a.toNat % 8 = 0)) (hb : write = true → bs.length = n.toNat) :
    exec (.badSizeAccess bar2 write a n bs) s = .next (badSize bar2 write a.toNat n.toNat bs s) := by
  have hc : (decide (0 < n.toNat ∧ n.toNat ≤ 4096) && decide (a.toNat + n.toNat ≤ if bar2 then 2 ^ 24 else 2 ^ 26) &&
      !((n.toNat == 4 && a.toNat % 4 == 0) || (n.toNat == 8 && a.toNat % 8 == 0)) && (!write || bs.length == n.toNat)) = true := by
    cases write <;> simp_all <;> omega
  exact congrArg (fun c => Host.Outcome.next (s.given c (badSize bar2 write a.toNat n.toNat bs))) hc

theorem exec_absentPageAccess {a : BitVec 26} (ha : present (a.toNat / 0x1000) = false) (write : Bool) (s : State) :
    exec (.absentPageAccess a write) s = .next (if write then recordBad 3 a.toNat s
      else s.send (.reply "READ" [if s.stopped then 2 ^ 64 - 1 else 0])) :=
  congrArg (fun c => Host.Outcome.next (s.given (!c) _)) ha

end Sys2Proof.Machine

namespace Sys2Proof

open Sys2Proof.Machine

theorem exec_notifyBase {s : State} (data : Word) (hs : s.stopped = false) (hsh : s.shut 0x303 = false) :
    ∃ t, exec (.registerWrite 0x303 0x100 data true true) s = .next t ∧ Only [.regs, .mtn] s t ∧ RegsOnly [0x303] s t ∧
      t.rd 0x303 F.tbl3_NOTIFY_BASE = data.toNat / 32 := by
  have hb : hostWrite ⟨0x303, 0x100, data.toNat, true, true⟩ s =
      (s.wakeClock 0x303).wr 0x303 F.tbl3_NOTIFY_BASE (bits data.toNat 5 59) :=
    (hostWrite_body (by decide) rfl hs hsh fun _ => rfl).trans (writeBody_notifyBase _ _)
  have he : exec (.registerWrite 0x303 0x100 data true true) s =
      .next (hostWrite ⟨0x303, 0x100, data.toNat, true, true⟩ s) := exec_registerWrite 0x303 data s rfl rfl
  refine ⟨_, he.trans (congrArg Host.Outcome.next hb), ?_, ?_, ?_⟩
  · exact Touches.only (State.wr_touches (by decide) (State.wakeClock_touches (by decide) (Touches.refl _ s)))
  · exact (RegsOnly.of_regs_eq _ (State.wakeClock_regs s 0x303)).trans
      (State.wr_regsOnly (f := F.tbl3_NOTIFY_BASE) _ 0x303 (by decide) _)
  · have hd := data.isLt
    refine (State.rd_wr_self _ 0x303 F.tbl3_NOTIFY_BASE _).trans ?_
    show bits data.toNat 5 59 % 2 ^ 59 = _
    unfold bits
    omega

theorem exec_registerWrite_cases (s : State) (page : BitVec 14) (off : BitVec 12) (data : Word) (low high : Bool)
    (hs : s.stopped = false) (ho8 : off.toNat % 8 = 0) (hh : (low || high) = true) :
    (off.toNat < 0x080 → present page.toNat = true →
      exec (.registerWrite page off data low high) s = .next (writeHeader ⟨page.toNat, off.toNat, data.toNat, low, high⟩ s)) ∧
    (present page.toNat = false →
      exec (.registerWrite page off data low high) s = .next (recordBad 3 (barOf page.toNat off.toNat) s)) ∧
    (0x080 ≤ off.toNat → present page.toNat = true → s.shut page.toNat = false →
      (atomic64 page.toNat off.toNat = true → (low && high) = true) →
      exec (.registerWrite page off data low high) s =
        .next (writeBody ⟨page.toNat, off.toNat, data.toNat, low, high⟩ (s.wakeClock page.toNat))) ∧
    (0x080 ≤ off.toNat → present page.toNat = true → s.shut page.toNat = false →
      atomic64 page.toNat off.toNat = true → (low && high) = false →
      exec (.registerWrite page off data low high) s = .next (s.wakeClock page.toNat)) := by
  rw [exec_registerWrite page data s ho8 hh]
  exact ⟨fun ho hp => congrArg Host.Outcome.next (hostWrite_header ho hp hs),
    fun hp => congrArg Host.Outcome.next (hostWrite_absent hp),
    fun ho hp hsh ha => congrArg Host.Outcome.next (hostWrite_body ho hp hs hsh ha),
    fun ho hp hsh ha hw => congrArg Host.Outcome.next (hostWrite_halfAtomic ho hp hs hsh ha hw)⟩

theorem exec_badSizeAccess_cases (s : State) (bar2 write : Bool) (a : BitVec 26) (n : BitVec 13) (bs : List Byte)
    (hs : s.stopped = false) (h0 : 0 < n.toNat) (h1 : n.toNat ≤ 4096)
    (ha : a.toNat + n.toNat ≤ (if bar2 = true then 2 ^ 24 else 2 ^ 26))
    (h4 : ¬ (n.toNat = 4 ∧ a.toNat % 4 = 0)) (h8 : ¬ (n.toNat = 8 ∧ a.toNat % 8 = 0)) (hb : write = true → bs.length = n.toNat) :
    if 8 < n.toNat ∧ n.toNat % 8 = 0 ∧ a.toNat % 8 = 0 then
      exec (.badSizeAccess bar2 write a n bs) s = .next
        (let r := (List.range (n.toNat / 8)).foldl (splitAccess bar2 write a.toNat bs) ([], s)
        if write = true then r.2 else r.2.send (.reply "READ" r.1))
    else if write = true then
      exec (.badSizeAccess bar2 write a n bs) s = .next (recordBad (if bar2 = true then 1 else 2) a.toNat s)
    else ∃ t, exec (.badSizeAccess bar2 write a n bs) s = .next t ∧ t.out = Output.reply "READ" [0] :: s.out ∧ Only [.out] s t := by
  rw [exec_badSizeAccess s h0 h1 ha h4 h8 hb, badSize]
  split
  · rfl
  · split
    · rfl
    · exact ⟨_, rfl, by rw [hs]; rfl, State.send_only s _⟩

/-- Settles O14: each access by the gate of hostWrite, or of the discarded accesses, that it meets. -/
theorem hostAccessesComplete : Obligations.HostAccessesComplete := by
  unfold Obligations.HostAccessesComplete
  refine ⟨exec_registerWrite_cases, ?_, fun s data hs hsh => exec_notifyBase data hs hsh, ?_, exec_badSizeAccess_cases, ?_⟩
  · intro s page off data hs ho8 ho hp hsh hpair
    rw [exec_t80PairCommit data s ho8 hpair, hostWrite_body ho hp hs hsh fun _ => rfl, writeBody_of_pair hpair]
  · exact fun s a => ⟨_, rfl, rfl, recordBad_only 1 a.toNat s⟩
  · exact fun s a ha => ⟨exec_absentPageAccess ha true s, _, exec_absentPageAccess ha false s, State.send_only s _, rfl⟩

end Sys2Proof
end

section
/-! PROOF. O22: LANE_CTRL_WRITE shows the octet's domain again (R155, R156, R429), on a page that its frame does not list. -/

namespace Sys2Proof.Machine

theorem exec_laneCtrlWrite {s : State} {lane : Fin 1024} (data : Word) (hs : s.stopped = false)
    (hsh : s.shut (lan lane.val) = false) :
    exec (.laneCtrlWrite lane data) s = .next (writeLaneCtrl lane.val data.toNat (s.wakeClock (lan lane.val))) :=
  congrArg Host.Outcome.next (State.written_of hs hsh _)

/-- The bit address of the word of ASLEEP that holds the bits of domains 0 to 63. -/
def asleepKey : Nat := F.mtn1_ASLEEP.key 0x31 0 0

/-- A booted device on which ASLEEP shows domain 32, that of octet 0, as asleep, while its record says ACTIVE. -/
def staleAsleep : State :=
  { State.reset with boot := { State.reset.boot with done := List.range 17 } }.wri 0x31 F.mtn1_ASLEEP 0 (2 ^ 32)

theorem asleep_of_staleAsleep : staleAsleep.regs.at? asleepKey = some (2 ^ 32) := by decide +kernel

/-- The PLL of octet 0 follows lane 0, its domain is recomputed, and ASLEEP shows what the record says. -/
theorem asleep_after_laneCtrl :
    (writeLaneCtrl 0 0 (staleAsleep.wakeClock (lan 0))).regs.at? asleepKey = none := by decide +kernel

end Sys2Proof.Machine

namespace Sys2Proof

open Sys2Proof.Machine

/-- Refutes O22: LANE_CTRL_WRITE on a free lane has the domain of its octet recomputed and shown, which writes the domain's bits of
ASLEEP and FAILED on page 0x031. The clause's frame lists the pages of the lane and the octet alone, so it fails in a state whose
ASLEEP differs from the domain's record, which no hypothesis of the clause excludes. -/
theorem not_octetAndPortCommandsComplete : ¬ Obligations.OctetAndPortCommandsComplete := by
  unfold Obligations.OctetAndPortCommandsComplete
  intro h
  obtain ⟨-, -, -, -, -, -, -, -, hlaneCtrl, -⟩ := h
  have hsh : staleAsleep.shut (lan (0 : Fin 1024).val) = false := by decide +kernel
  have hfree : staleAsleep.laneFree (0 : Fin 1024).val = true := by decide +kernel
  obtain ⟨t, ht, -, -, -, -, honly⟩ := hlaneCtrl 0 0 staleAsleep rfl hsh (.inl hfree)
  rw [exec_laneCtrlWrite 0 rfl hsh] at ht
  have hte := Host.Outcome.next.inj ht
  have hkept : t.regs.at? asleepKey = staleAsleep.regs.at? asleepKey := honly asleepKey (by decide)
  rw [← hte, asleep_of_staleAsleep] at hkept
  exact absurd (asleep_after_laneCtrl.symm.trans hkept) (by decide)

end Sys2Proof
end

section
/-! PROOF. O25: the last SESSION_DECISION of a cycle, which waits for one that waits already (R325, R339). -/

namespace Sys2Proof.Machine

theorem exec_sessionDecision {s : State} (hs : s.stopped = false) (id : Nat) (corrected : Bool) :
    exec (.sessionDecision id corrected) s = .next (sesAct (.decide id corrected) s) :=
  congrArg Host.Outcome.next (State.running_of hs _)

/-- A data frame without bytes that the session engine has been asked about. -/
def askedFrame (port : Nat) : Frame := { port := port, bytes := [], md := [], session := 1 }

/-- Frames 0 and 1 ask in one cycle, frame 0 comes first by its port, and its decision waits. No command is left behind. A queue
that holds the decisions of frame 0, of a request, and of frame 1 leads to such a state: the first waits for the request, and
the request leaves it waiting, since frame 1's decision is still to come. -/
def lastDecision : State :=
  { State.reset with
    palm := { State.reset.palm with frames := [(0, askedFrame 0), (1, askedFrame 1)] }
    ses := { State.reset.ses with deferred := [.decide 0 false] } }

/-- With no act of the engine behind it, the decision ends the cycle, and all that waits is done. -/
theorem deferred_after_lastDecision : (sesAct (.decide 1 false) lastDecision).ses.deferred = [] := by decide +kernel

end Sys2Proof.Machine

namespace Sys2Proof

open Sys2Proof.Machine

/-- Refutes O25: a decision that waits for another one, and is the last act of the engine in the queue, is done at once with all
that waits. The clause on waiting has it stay in the deferred acts, which are empty. -/
theorem not_ingressCommandsComplete : ¬ Obligations.IngressCommandsComplete := by
  unfold Obligations.IngressCommandsComplete
  intro h
  obtain ⟨-, -, -, -, -, -, -, -, -, -, -, hwaits, -⟩ := h
  obtain ⟨t, ht, -, hdeferred, -⟩ := hwaits 1 false lastDecision rfl (by decide +kernel)
  rw [exec_sessionDecision rfl] at ht
  have hte := Host.Outcome.next.inj ht
  rw [← hte, deferred_after_lastDecision] at hdeferred
  exact List.append_ne_nil_of_right_ne_nil _ (List.cons_ne_nil _ _) hdeferred.symm

end Sys2Proof
end

section
/-! SUPPORT. What the gates of a host write let through on a stopped device, and on a shut page (R43, R44, R46, R47, R52, R539). -/

namespace Sys2Proof.Machine

/-- A gate that does not matter: the effect changes nothing. -/
theorem State.given_of_fixed {s : State} {f : State → State} (c : Bool) (h : f s = s) : s.given c f = s := by
  cases c
  · rfl
  · exact h

theorem State.running_of_stopped {s : State} (h : s.stopped = true) (f : State → State) : s.running f = s := if_pos h

theorem State.written_of_stopped {s : State} (h : s.stopped = true) (page : Nat) (f : State → State) :
    s.written page f = s := if_pos h

theorem State.headerWrite_of_present {page : Nat} (hp : present page = true) (s : State) (off : Nat) (f : State → State) :
    s.headerWrite page off f = s.running f := by simp [State.headerWrite, hp]

theorem State.headerWrite_of_stopped {s : State} (h : s.stopped = true) {page : Nat} (hp : present page = true) (off : Nat)
    (f : State → State) : s.headerWrite page off f = s :=
  (State.headerWrite_of_present hp s off f).trans (State.running_of_stopped h f)

theorem hostWrite_of_stopped {s : State} (h : s.stopped = true) (x : RegWrite) (hp : present x.page = true) :
    hostWrite x s = s := by
  unfold hostWrite
  rw [State.headerWrite_of_stopped h hp, hp, State.written_of_stopped h]
  split <;> rfl

theorem State.written_of_shut {s : State} {page : Nat} (h : s.stopped = false) (hs : s.shut page = true)
    (f : State → State) : s.written page f = s.set1 page F.hdr_PAGE_STATUS_WRITE_DROPPED := by
  simp [State.written, h, hs]

/-- The write that a shut page does not take leaves WRITE_DROPPED at 1, and nothing else (R44, R46, R47). -/
theorem next_written_of_shut {s : State} {page : Nat} (h : s.stopped = false) (hs : s.shut page = true) (f : State → State) :
    ∃ t, (.next (s.written page f) : Out) = .next t ∧ Only [.regs, .latches] s t ∧
      t.rd page F.hdr_PAGE_STATUS_WRITE_DROPPED = 1 ∧
      ∀ k, k ≠ F.hdr_PAGE_STATUS_WRITE_DROPPED.key page 0 0 → t.regs.at? k = s.regs.at? k := by
  refine ⟨_, congrArg Host.Outcome.next (State.written_of_shut h hs f), ?_, State.rd_set1_self s page _, fun k hk => ?_⟩
  · exact Touches.only (State.set1_touches (by decide) (by decide) (Touches.refl _ s))
  · exact State.at?_wrx_of_ne s page _ 0 0 1 hk

/-- A write of a register's body on a page that is shut never asks which register it is. -/
theorem exec_registerWrite_body (page : BitVec 14) {off : BitVec 12} (data : Word) {low high : Bool} (s : State)
    (hp : present page.toNat = true) (ho8 : off.toNat % 8 = 0) (ho : 0x080 ≤ off.toNat) (hh : (low || high) = true) :
    ∃ f, exec (.registerWrite page off data low high) s = .next (s.written page.toNat f) := by
  rw [exec_registerWrite page data s ho8 hh, hostWrite]
  simp only [Nat.not_lt.2 ho, if_false, hp, Bool.not_true, Bool.false_eq_true]
  exact ⟨_, rfl⟩

end Sys2Proof.Machine
end

section
/-! PROOF. O7, O8 and O48: host writes of a stopped device and of a shut page, and the map of BAR0 (R36, R44, R46, R47, R52). -/

namespace Sys2Proof

open Sys2Proof.Machine

/-- Settles O7: the gates of R52 and R539 stand before every one of these writes. -/
theorem stoppedDeviceDiscardsHostWrites : Obligations.StoppedDeviceDiscardsHostWrites := by
  unfold Obligations.StoppedDeviceDiscardsHostWrites
  intro s hs
  have hwritten (page : Nat) (f : State → State) : (.next (s.written page f) : Out) = .next s :=
    congrArg Host.Outcome.next (State.written_of_stopped hs page f)
  have hheader {page : Nat} (hp : present page = true) (off : Nat) (f : State → State) :
      (.next (s.headerWrite page off f) : Out) = .next s :=
    congrArg Host.Outcome.next (State.headerWrite_of_stopped hs hp off f)
  have hhost (x : RegWrite) (hp : present x.page = true) (c : Bool) : (.next (s.given c (hostWrite x)) : Out) = .next s :=
    congrArg Host.Outcome.next (State.given_of_fixed c (hostWrite_of_stopped hs x hp))
  exact ⟨fun page hp => ⟨fun off data low high => hhost ⟨page.toNat, off.toNat, data.toNat, low, high⟩ hp _,
      fun _ => hheader hp _ _, fun _ => hheader hp _ _, hheader hp _ _⟩,
    fun page off data hp => hhost ⟨page.toNat, off.toNat, data.toNat, true, true⟩ hp _,
    fun _ _ => hwritten _ _, fun _ => ⟨hwritten _ _, hwritten _ _, hwritten _ _⟩,
    fun _ => ⟨hwritten _ _, hwritten _ _⟩, hwritten _ _, hwritten _ _, hwritten _ _⟩

/-- Settles O8: each row meets the same gate, which sets WRITE_DROPPED of the page. -/
theorem shutPageDropsWrites : Obligations.ShutPageDropsWrites := by
  unfold Obligations.ShutPageDropsWrites
  intro s hs
  refine ⟨fun page off data low high hp hsh ho8 ho hh => ?_, fun _ hsh => next_written_of_shut hs hsh _,
    fun _ _ hsh => next_written_of_shut hs hsh _, fun _ hsh => next_written_of_shut hs hsh _⟩
  obtain ⟨f, he⟩ := exec_registerWrite_body page data s hp ho8 ho hh
  rw [he]
  exact next_written_of_shut hs hsh f

/-- Settles O48: the sum of R36, taken apart again by division. -/
theorem pageOffsetsFollowTheMap : Obligations.PageOffsetsFollowTheMap := by
  unfold Obligations.PageOffsetsFollowTheMap barOf
  intro p r hr
  omega

end Sys2Proof
end

section
/-! PROOF. O12: what a cause's detector sets, outside a quench window and inside one (R48, R454, R455, R459). -/

namespace Sys2Proof.Machine

/-- The causes that a quench window of their line hides (R459). -/
def State.hides (s : State) (page cause : Nat) : Prop := s.quenched page = true ∧ s.classOf page cause < 3

theorem State.raise_of_hides {s : State} {page cause : Nat} (h : s.hides page cause) :
    (s.raise page cause).regs = (s.setBit page F.hdr_ERR_STATUS_QUENCHED cause).regs ∧
      Touches (· ∈ [.regs, .latches]) s (s.raise page cause) := by
  have hbit : Touches (· ∈ [.regs, .latches]) s (s.setBit page F.hdr_ERR_STATUS_QUENCHED cause) :=
    State.setBit_touches (by decide) (by decide) (Touches.refl _ s)
  have hc : (s.quenched page && decide (s.classOf page cause < 3)) = true := by simpa [State.hides] using h
  rw [State.raise, if_pos hc]
  dsimp only
  split
  · exact ⟨rfl, hbit⟩
  · exact ⟨rfl, Touches.upd_latches (by decide) hbit⟩

theorem State.raise_of_not_hides {s : State} {page cause : Nat} (h : ¬ s.hides page cause) :
    s.raise page cause = s.setReal page cause := if_neg (by simpa [State.hides] using h)

/-- Besides registers only the class of the latch and its vector are noted. -/
theorem State.setReal_regs (s : State) (page cause : Nat) :
    (s.setReal page cause).regs = ((s.setBit page F.hdr_ERR_STATUS_REAL cause).refreshErr page).regs := by
  unfold State.setReal
  dsimp only
  split
  · rfl
  · split
    · exact State.vector_regs _ _
    · rfl

theorem State.vector_latches (s : State) (v : Nat) : (s.vector v).latches = s.latches :=
  (State.vector_touches (ps := (· ∈ [.out, .host])) (by decide) (by decide) (Touches.refl _ s)).same .latches (by decide)

/-- A new latch takes the class of its moment (R49, R455). -/
theorem State.latchClass_setReal {s : State} {page cause : Nat}
    (h : (s.rd page F.hdr_ERR_STATUS_REAL).testBit cause = false) :
    (s.setReal page cause).latchClass page cause = s.classNow page cause := by
  unfold State.setReal State.latchClass
  simp only [h, Bool.false_eq_true, if_false]
  split
  · rw [State.vector_latches]
    exact SMap.val_put_self _ _ _ _
  · exact SMap.val_put_self _ _ _ _

theorem State.rd_setBit_of_ne (s : State) (page : Nat) {f g : Fld} (b : Nat) (hb : b < 64)
    (h : g.off * 8 + g.lo ≠ f.off * 8 + f.lo) : (s.setBit page f b).rd page g = s.rd page g := by
  unfold State.setBit State.putBitAt
  rw [Nat.div_eq_of_lt hb]
  exact (State.rdx_congr (State.mark_regs _ _ _) page g 0 0).trans (State.rd_wr_of_ne s _ (Fld.key_ne_of_place_ne page h))

end Sys2Proof.Machine

namespace Sys2Proof

open Sys2Proof.Machine

theorem raise_regsOnly (s : State) (page : Nat) {cause : Nat} (hc : cause < 64) : RegsOnly [page] s (s.raise page cause) := by
  by_cases hq : s.hides page cause
  · exact (State.setBit_regsOnly s page (f := F.hdr_ERR_STATUS_QUENCHED) (by decide) hc).trans
      (RegsOnly.of_regs_eq _ (State.raise_of_hides hq).1)
  · rw [State.raise_of_not_hides hq]
    exact ((State.setBit_regsOnly s page (f := F.hdr_ERR_STATUS_REAL) (by decide) hc).trans
      (State.refreshErr_regsOnly _ page)).trans (RegsOnly.of_regs_eq _ (State.setReal_regs s page cause))

/-- Settles O12: a hidden cause sets its QUENCHED bit alone, any other runs State.setReal. -/
theorem raisedCauseLatchesAndQuenchHidesIt : Obligations.RaisedCauseLatchesAndQuenchHidesIt := by
  unfold Obligations.RaisedCauseLatchesAndQuenchHidesIt
  intro s page cause _
  have hc : cause.val < 64 := lt_trans cause.isLt (by decide)
  refine ⟨raise_regsOnly s page hc, fun hq => ?_, fun hq => ?_⟩
  · obtain ⟨hregs, htouches⟩ := State.raise_of_hides hq
    have hrd (f : Fld) : (s.raise page cause.val).rd page f = (s.setBit page F.hdr_ERR_STATUS_QUENCHED cause.val).rd page f :=
      State.rdx_congr hregs page f 0 0
    refine ⟨?_, (hrd _).trans (State.rd_setBit_of_ne s page _ hc (by decide)), htouches.only⟩
    rw [hrd, State.testBit_rd_setBit s page _ hc cause.isLt]
    simp
  · have htouches : Touches (· ∈ [.regs, .out, .host, .latches]) s (s.setReal page cause.val) :=
      State.setReal_touches (by decide) (by decide) (by decide) (by decide) (Touches.refl _ s)
    have hrd (f : Fld) : (s.setReal page cause.val).rd page f =
        ((s.setBit page F.hdr_ERR_STATUS_REAL cause.val).refreshErr page).rd page f :=
      State.rdx_congr (State.setReal_regs s page cause.val) page f 0 0
    rw [State.raise_of_not_hides hq]
    refine ⟨?_, ?_, State.latchClass_setReal, htouches.only⟩
    · rw [hrd, State.rd_refreshErr (by decide), State.testBit_rd_setBit s page _ hc cause.isLt]
      simp
    · rw [State.pageHigh_congr (hrd _) (hrd _), State.on, hrd]
      exact State.on_errLine_refreshErr _ page

end Sys2Proof
end

section
/-! PROOF. O13: a write of a vector's entry in the MSI-X table (R35, R57, R58). -/

namespace Sys2Proof.Machine

/-- A message waits for the vector, and may go out as soon as it is unmasked (R57, R58). -/
def State.waits (s : State) (v : Nat) : Bool := s.host.pba.val false v && (!s.isSafe || (v == 1 && s.gnt.vectorOne))

theorem State.sends_iff (s : State) (v : Nat) (mask : Bool) : (!mask && s.waits v) = true ↔
    mask = false ∧ s.host.pba.val false v = true ∧ (s.isSafe = false ∨ (v = 1 ∧ s.gnt.vectorOne = true)) := by
  simp [State.waits]

theorem unmaskVector_host (v : Nat) (s : State) : (unmaskVector v s).host = { s.host with
    unmasked := s.host.unmasked.put false v true
    pba := if s.waits v then s.host.pba.put false v false else s.host.pba } := by
  unfold unmaskVector State.waits
  dsimp only
  split <;> rfl

theorem unmaskVector_out (v : Nat) (s : State) :
    (unmaskVector v s).out = if s.waits v then (unmaskVector v s).message v :: s.out else s.out := by
  unfold unmaskVector State.waits
  dsimp only
  split <;> rfl

/-- The table after a write of a vector's entry, which carries address and data or neither (R35). -/
def entryStored (v : Nat) (entry : Option (Nat × Nat)) (table : SMap (Nat × Nat)) : SMap (Nat × Nat) :=
  match entry with
  | some e => table.put (0, 0) v e
  | none => table

/-- What the write makes of the MSI-X state: the entry, the mask, and the pending bit of a message that goes out. -/
theorem writeMsix_host (v : Nat) (entry : Option (Nat × Nat)) (mask : Bool) (s : State) :
    (writeMsix v entry mask s).host = { s.host with
      table := entryStored v entry s.host.table
      unmasked := s.host.unmasked.put false v !mask
      pba := if !mask && s.waits v then s.host.pba.put false v false else s.host.pba } := by
  cases mask
  · cases entry <;> exact unmaskVector_host v _
  · cases entry <;> rfl

/-- What the write sends: the message that waits, with the entry as it now stands (R57). -/
theorem writeMsix_out (v : Nat) (entry : Option (Nat × Nat)) (mask : Bool) (s : State) :
    (writeMsix v entry mask s).out =
      if !mask && s.waits v then (writeMsix v entry mask s).message v :: s.out else s.out := by
  cases mask
  · cases entry <;> exact unmaskVector_out v _
  · cases entry <;> rfl

end Sys2Proof.Machine

namespace Sys2Proof

open Sys2Proof.Machine

/-- Settles O13: what the write makes of the MSI-X state, part by part. -/
theorem unmaskedVectorIsSent : Obligations.UnmaskedVectorIsSent := by
  unfold Obligations.UnmaskedVectorIsSent
  intro v e mask s
  have hhost := writeMsix_host v.val (e.map fun e => (e.1.toNat, e.2.toNat)) mask s
  have hout := writeMsix_out v.val (e.map fun e => (e.1.toNat, e.2.toNat)) mask s
  refine ⟨_, rfl, Touches.only (writeMsix_touches (by decide) (by decide) (Touches.refl _ s)), ?_⟩
  dsimp only
  rw [hhost]
  refine ⟨SMap.val_put_self _ _ _ _, ?_, fun w hw => ⟨SMap.val_put_of_ne _ _ hw _, ?_, ?_⟩, ?_⟩
  · cases e
    · rfl
    · exact SMap.val_put_self _ _ _ _
  · dsimp only
    split
    · exact SMap.val_put_of_ne _ _ hw _
    · rfl
  · cases e
    · rfl
    · exact SMap.val_put_of_ne _ _ hw _
  · split
    · next h =>
      have hsends := (s.sends_iff v mask).2 h
      exact ⟨hout.trans (if_pos hsends), by simp [hsends]⟩
    · next h =>
      have hsends := mt (s.sends_iff v mask).1 h
      exact ⟨hout.trans (if_neg hsends), if_neg hsends⟩

end Sys2Proof
end

section
/-! SUPPORT. What leaves Gauntlet's part of the state, and with it the safe state, as it was. -/

namespace Sys2Proof.Machine

theorem Touches.gnt_eq {s t : State} (h : Touches (· ≠ .gnt) s t) : t.gnt = s.gnt := h.same .gnt (by simp)

@[simp] theorem State.raise_gnt (s : State) (page cause : Nat) : (s.raise page cause).gnt = s.gnt :=
  (State.raise_touches nofun nofun nofun nofun (Touches.refl _ s)).gnt_eq

@[simp] theorem State.vector_gnt (s : State) (v : Nat) : (s.vector v).gnt = s.gnt :=
  (State.vector_touches nofun nofun (Touches.refl _ s)).gnt_eq

@[simp] theorem State.setBit_gnt (s : State) (page : Nat) (f : Fld) (b : Nat) : (s.setBit page f b).gnt = s.gnt := rfl

@[simp] theorem State.refreshSummary_gnt (s : State) : s.refreshSummary.gnt = s.gnt :=
  (State.refreshSummary_touches nofun nofun (Touches.refl _ s)).gnt_eq

@[simp] theorem State.refreshSnap_gnt (s : State) : s.refreshSnap.gnt = s.gnt := rfl

@[simp] theorem recordBad_gnt (kind addr : Nat) (s : State) : (recordBad kind addr s).gnt = s.gnt :=
  (recordBad_touches nofun nofun nofun nofun (Touches.refl _ s)).gnt_eq

@[simp] theorem readReg_gnt (bar2 : Bool) (page off : Nat) (s : State) : (readReg bar2 page off s).2.gnt = s.gnt :=
  (readReg_touches nofun nofun nofun (Touches.refl _ s)).gnt_eq

@[simp] theorem endWork_gnt (page : Nat) (s : State) : (endWork page s).gnt = s.gnt :=
  Touches.gnt_eq (by apply endWork_touches <;> simp [Touches.refl])

@[simp] theorem cutInside_gnt (page : Nat) (s : State) : (cutInside page s).gnt = s.gnt :=
  Touches.gnt_eq (by apply cutInside_touches <;> simp [Touches.refl])

@[simp] theorem clearStatus_gnt (page : Nat) (s : State) : (clearStatus page s).gnt = s.gnt :=
  (clearStatus_touches nofun nofun (Touches.refl _ s)).gnt_eq

@[simp] theorem State.putDom_gnt (s : State) (d : Nat) (x : Dom) : (s.putDom d x).gnt = s.gnt :=
  (State.putDom_touches nofun nofun nofun nofun (Touches.refl _ s)).gnt_eq

@[simp] theorem stageEnds_gnt (d : Nat) (lost : List LostBank) (s : State) : (stageEnds d lost s).gnt = s.gnt :=
  Touches.gnt_eq (by apply stageEnds_touches <;> simp [Touches.refl])

@[simp] theorem wakeEnds_gnt (d : Nat) (s : State) : (wakeEnds d s).gnt = s.gnt :=
  Touches.gnt_eq (by apply wakeEnds_touches <;> simp [Touches.refl])

@[simp] theorem reinit_gnt (d : Nat) (s : State) : (reinit d s).gnt = s.gnt :=
  Touches.gnt_eq (by apply reinit_touches <;> simp [Touches.refl])

@[simp] theorem linkUp_gnt (cxl : Bool) (width rate : Nat) (cacheEn memEn atsEn : Bool) (s : State) :
    (linkUp cxl width rate cacheEn memEn atsEn s).gnt = s.gnt :=
  Touches.gnt_eq (by apply linkUp_touches <;> simp [Touches.refl])

@[simp] theorem signingEnds_gnt (r : Signing) (s : State) : (signingEnds r s).1.gnt = s.gnt :=
  (signingEnds_touches nofun nofun nofun nofun nofun (Touches.refl _ s)).gnt_eq

@[simp] theorem issueAnchor_gnt (d : Draft) (signed toDdr journalOk : Bool) (s : State) :
    (issueAnchor d signed toDdr journalOk s).gnt = s.gnt :=
  Touches.gnt_eq (by apply issueAnchor_touches <;> simp [Touches.refl])

@[simp] theorem refreshSigning_gnt (s : State) : (refreshSigning s).gnt = s.gnt :=
  (refreshSigning_touches nofun (Touches.refl _ s)).gnt_eq

end Sys2Proof.Machine
end

section
/-! SUPPORT. The commands that write Gauntlet's part of the state leave the safe state as it was. -/

namespace Sys2Proof.Machine

theorem foldl_safe {α : Type} {f : State → α → State} (hf : ∀ t x, (f t x).gnt.safe = t.gnt.safe) (l : List α) (s : State) :
    (l.foldl f s).gnt.safe = s.gnt.safe := by
  induction l generalizing s with
  | nil => rfl
  | cons x r ih => exact (ih _).trans (hf s x)

theorem State.given_safe {s : State} {f : State → State} (c : Bool) (hf : (f s).gnt.safe = s.gnt.safe) :
    (s.given c f).gnt.safe = s.gnt.safe := by
  cases c
  · rfl
  · exact hf

@[simp] theorem State.putLine_safe (s : State) (line : Nat) (r : LineRec) : (s.putLine line r).gnt.safe = s.gnt.safe := rfl

/-- A reaction decides upon an entry, which SAFE_STATE_ENTRY takes (R454, R464). -/
theorem reactReal_safe (line page cause cls : Nat) (s : State) : (reactReal line page cause cls s).gnt.safe = s.gnt.safe := by
  unfold reactReal
  extract_lets r s1 s2 s3 weaker earlier entry g s4 s5
  have h3 : s3.gnt.safe = s.gnt.safe := by
    unfold s3 s2 s1
    split <;> simp
  have h4 : s4.gnt.safe = s3.gnt.safe := rfl
  have h5 : s5.gnt = s4.gnt := by
    unfold s5
    split
    · exact State.vector_gnt _ _
    · split
      · exact State.vector_gnt _ _
      · rfl
  rw [State.refreshSummary_gnt, h5, h4, h3]

theorem latchLine_safe (line : Nat) (s : State) : (latchLine line s).gnt.safe = s.gnt.safe := by
  unfold latchLine
  split
  · split
    · rfl
    · exact reactReal_safe _ _ _ _ s
  · rfl

theorem closeQuench_safe (page : Nat) (present : List (Nat × Nat)) (s : State) :
    (closeQuench page present s).gnt.safe = s.gnt.safe := by
  have hraise (t : State) (pc : Nat × Nat) : (t.raise pc.1 pc.2).gnt.safe = t.gnt.safe :=
    congrArg Gauntlet.safe (State.raise_gnt t pc.1 pc.2)
  exact State.given_safe _ (foldl_safe hraise _ _)

theorem endEscalation_safe (line : Nat) (s : State) : (endEscalation line s).gnt.safe = s.gnt.safe :=
  State.given_safe _ ((congrArg Gauntlet.safe (State.refreshSummary_gnt _)).trans (State.putLine_safe s line _))

theorem writeSnapshot_safe (s : State) : (writeSnapshot s).gnt.safe = s.gnt.safe := by
  unfold writeSnapshot
  split
  · rfl
  · refine State.given_safe _ ?_
    dsimp only
    split <;> rfl

theorem writeSeal_safe (r : Signing) (toDdr journalOk bySequencer : Bool) (s : State) :
    (writeSeal r toDdr journalOk bySequencer s).gnt.safe = s.gnt.safe := by
  unfold writeSeal
  split
  · rfl
  · next d _ =>
    have hs (ok : Bool) : (issueAnchor d ok toDdr journalOk (signingEnds r s).1).gnt.safe = s.gnt.safe := by
      rw [issueAnchor_gnt, signingEnds_gnt]
    dsimp only
    split
    · rw [State.vector_gnt, refreshSigning_gnt, State.wr_gnt]
      exact hs _
    · exact hs _

theorem sequencerSeal_safe (signed toDdr journalOk : Bool) (s : State) :
    (sequencerSeal signed toDdr journalOk s).gnt.safe = s.gnt.safe := by
  unfold sequencerSeal
  split
  · rfl
  · refine State.given_safe _ ?_
    extract_lets g s1 ok
    split
    · rfl
    · next d _ =>
      extract_lets s2 l g2
      have hs : s2.gnt.safe = s1.gnt.safe := congrArg Gauntlet.safe (issueAnchor_gnt d ok toDdr journalOk s1)
      split
      · exact hs
      · exact hs

/-- Stated for a bare state, since the kernel compares two built ones field by field. -/
theorem State.wr_with_gnt (s : State) (g : Gauntlet) (page : Nat) (f : Fld) (v : Nat) :
    (({ s with gnt := g } : State).wr page f v).gnt = g := rfl

@[simp] theorem openQuench_safe (page w : Nat) (s : State) : (openQuench page w s).gnt.safe = s.gnt.safe := by
  unfold openQuench
  by_cases h : w = 0
  · rw [if_pos h]
  · rw [if_neg h, State.wr_with_gnt]

@[simp] theorem countReset_safe (page : Nat) (s : State) : (countReset page s).gnt.safe = s.gnt.safe := by
  unfold countReset
  split
  · rfl
  · extract_lets r r1
    split
    · rw [State.raise_gnt, State.refreshSummary_gnt, State.putLine_safe]
    · exact State.putLine_safe _ _ _

@[simp] theorem startReset_safe (page window : Nat) (s : State) : (startReset page window s).gnt.safe = s.gnt.safe := by
  simp [startReset]

theorem startHeld_safe (s : State) : (startHeld s).gnt.safe = s.gnt.safe := by
  have hstart (t : State) (w : Nat × Nat) : (startReset w.1 w.2 { t with boot := { t.boot with
      waiting := t.boot.waiting.filter fun x => x.1 != w.1 } }).gnt.safe = t.gnt.safe := startReset_safe w.1 w.2 _
  exact foldl_safe hstart _ s

theorem startHeld_safe_of_gnt {s t : State} (h : t.gnt = s.gnt) : (startHeld t).gnt.safe = s.gnt.safe :=
  (startHeld_safe t).trans (congrArg Gauntlet.safe h)

end Sys2Proof.Machine
end

section
/-! SUPPORT. Which commands can reach Gauntlet's part of the state, and that no other one does. -/

namespace Sys2Proof.Machine

/-- The commands whose meaning can write Gauntlet's part of the state, in some state. -/
def reachesGauntlet : Instr → Bool
  | .registerWrite .. | .t80PairCommit .. | .badSizeAccess .. | .blockReset .. | .quenchClose .. | .errInject ..
  | .sealWritten .. | .clockGate .. | .wakeStageComplete .. | .reinitComplete .. | .lineLatch ..
  | .lineStatusClear .. | .escalationEnd .. | .gntRegParity .. | .safeStateEntry .. | .sequencerSeal ..
  | .faultSnapshotWrite .. | .scrubVisit .. | .softRepair .. | .seamWireCheck .. | .seamSpareSwitch ..
  | .wearHour .. | .hostLinkUp .. | .warmResetApply .. | .powerRemoval .. | .bootStepComplete .. => true
  | _ => false

/-- Every other command leaves that part as it was, whatever state it meets: one lemma of what it may touch for each. -/
theorem exec_leaves_gnt (c : Instr) (s : State) (hc : reachesGauntlet c = false) : Moves (· ≠ .gnt) s (exec c s) := by
  have hs : Touches (· ≠ .gnt) s s := Touches.refl _ s
  cases c with
  | registerWrite | t80PairCommit | badSizeAccess | blockReset | quenchClose | errInject | sealWritten | clockGate
  | wakeStageComplete | reinitComplete | lineLatch | lineStatusClear | escalationEnd | gntRegParity
  | safeStateEntry | sequencerSeal | faultSnapshotWrite | scrubVisit | softRepair | seamWireCheck | seamSpareSwitch
  | wearHour | hostLinkUp | warmResetApply | powerRemoval | bootStepComplete => cases hc
  | t80NsRead => apply execT80NsRead_touches <;> simp [hs]
  | frameReceive => apply execFrameReceive_touches <;> simp [hs]
  | ingressSlotAssign => apply execIngressSlotAssign_touches <;> simp [hs]
  | engineAssign => apply execEngineAssign_touches <;> simp [hs]
  | microwordIssue => apply execMicrowordIssue_touches <;> simp [hs]
  | goldenRepair => apply execGoldenRepair_touches <;> simp [hs]
  | poisonRewrite => apply execPoisonRewrite_touches <;> simp [hs]
  | searchResultWritten => apply execSearchResultWritten_touches <;> simp [hs]
  | sessionDecision => apply execSessionDecision_touches <;> simp [hs]
  | ringWrite => apply execRingWrite_touches <;> simp [hs]
  | queueAssign => apply execQueueAssign_touches <;> simp [hs]
  | frameTailVerdict => apply execFrameTailVerdict_touches <;> simp [hs]
  | schedulerSelect => apply execSchedulerSelect_touches <;> simp [hs]
  | underrun => apply execUnderrun_touches <;> simp [hs]
  | egressTransmit => apply execEgressTransmit_touches <;> simp [hs]
  | transmitComplete => apply execTransmitComplete_touches <;> simp [hs]
  | headerRingFlush => apply execHeaderRingFlush_touches <;> simp [hs]
  | refLost => apply execRefLost_touches <;> simp [hs]
  | bar2Write => apply execBar2Write_touches <;> simp [hs]
  | absentPageAccess => apply execAbsentPageAccess_touches <;> simp [hs]
  | blockResetComplete => apply execBlockResetComplete_touches <;> simp [hs]
  | errClassMapWrite => apply execErrClassMapWrite_touches <;> simp [hs]
  | msixUnmask => apply execMsixUnmask_touches <;> simp [hs]
  | replicaCompare => apply execReplicaCompare_touches <;> simp [hs]
  | replicaResyncDone => apply execReplicaResyncDone_touches <;> simp [hs]
  | ppsInEdge => apply execPpsInEdge_touches <;> simp [hs]
  | ppsEdgeMissed => apply execPpsEdgeMissed_touches <;> simp [hs]
  | todSentenceReceived => apply execTodSentenceReceived_touches <;> simp [hs]
  | todOutSentence => apply execTodOutSentence_touches <;> simp [hs]
  | ptpMessageReceive => apply execPtpMessageReceive_touches <;> simp [hs]
  | ptpTimeout => apply execPtpTimeout_touches <;> simp [hs]
  | peerAgeOut => apply execPeerAgeOut_touches <;> simp [hs]
  | revertHoldoff => apply execRevertHoldoff_touches <;> simp [hs]
  | refCfgWrite => apply execRefCfgWrite_touches <;> simp [hs]
  | servoModeChange => apply execServoModeChange_touches <;> simp [hs]
  | setTime => apply execSetTime_touches <;> simp [hs]
  | lockVerified => apply execLockVerified_touches <;> simp [hs]
  | relockComplete => apply execRelockComplete_touches <;> simp [hs]
  | slewEnd => apply execSlewEnd_touches <;> simp [hs]
  | holdoverRecompute => apply execHoldoverRecompute_touches <;> simp [hs]
  | historyWrite => apply execHistoryWrite_touches <;> simp [hs]
  | histClear => apply execHistClear_touches <;> simp [hs]
  | bandLockstep => apply execBandLockstep_touches <;> simp [hs]
  | timePllUnlock => apply execTimePllUnlock_touches <;> simp [hs]
  | ptpSyncSend => apply execPtpSyncSend_touches <;> simp [hs]
  | ptpAnnounceSend => apply execPtpAnnounceSend_touches <;> simp [hs]
  | makeStatic => apply execMakeStatic_touches <;> simp [hs]
  | makeLearned => apply execMakeLearned_touches <;> simp [hs]
  | free => apply execFree_touches <;> simp [hs]
  | peerSelWrite => apply execPeerSelWrite_touches <;> simp [hs]
  | denoonHelloSend => apply execDenoonHelloSend_touches <;> simp [hs]
  | denoonHelloReceive => apply execDenoonHelloReceive_touches <;> simp [hs]
  | memberTimeout => apply execMemberTimeout_touches <;> simp [hs]
  | primarySwitch => apply execPrimarySwitch_touches <;> simp [hs]
  | ppsOutPulse => apply execPpsOutPulse_touches <;> simp [hs]
  | ppsOutCfgWrite => apply execPpsOutCfgWrite_touches <;> simp [hs]
  | clkOutCfgWrite => apply execClkOutCfgWrite_touches <;> simp [hs]
  | clkOutStart => apply execClkOutStart_touches <;> simp [hs]
  | tqChange => apply execTqChange_touches <;> simp [hs]
  | fineTrimStep => apply execFineTrimStep_touches <;> simp [hs]
  | fineTrimFreeze => apply execFineTrimFreeze_touches <;> simp [hs]
  | fineTrimResume => apply execFineTrimResume_touches <;> simp [hs]
  | wanderSample => apply execWanderSample_touches <;> simp [hs]
  | cdrLock => apply execCdrLock_touches <;> simp [hs]
  | cdrLockLoss => apply execCdrLockLoss_touches <;> simp [hs]
  | apply => apply execApply_touches <;> simp [hs]
  | discard => apply execDiscard_touches <;> simp [hs]
  | calTrimEffect => apply execCalTrimEffect_touches <;> simp [hs]
  | calSaveDone => apply execCalSaveDone_touches <;> simp [hs]
  | statSelWrite => apply execStatSelWrite_touches <;> simp [hs]
  | statClear => apply execStatClear_touches <;> simp [hs]
  | octCfgWrite => apply execOctCfgWrite_touches <;> simp [hs]
  | octetPllLock => apply execOctetPllLock_touches <;> simp [hs]
  | octetPllUnlock => apply execOctetPllUnlock_touches <;> simp [hs]
  | portEnable => apply execPortEnable_touches <;> simp [hs]
  | portDisable => apply execPortDisable_touches <;> simp [hs]
  | restart => apply execRestart_touches <;> simp [hs]
  | laneSignalDetect => apply execLaneSignalDetect_touches <;> simp [hs]
  | anComplete => apply execAnComplete_touches <;> simp [hs]
  | anTimeout => apply execAnTimeout_touches <;> simp [hs]
  | denoonCapSend => apply execDenoonCapSend_touches <;> simp [hs]
  | denoonCapReceive => apply execDenoonCapReceive_touches <;> simp [hs]
  | retune => apply execRetune_touches <;> simp [hs]
  | exchangeTimeout => apply execExchangeTimeout_touches <;> simp [hs]
  | retuneLocked => apply execRetuneLocked_touches <;> simp [hs]
  | retuneTimeout => apply execRetuneTimeout_touches <;> simp [hs]
  | trainingComplete => apply execTrainingComplete_touches <;> simp [hs]
  | trainingTimeout => apply execTrainingTimeout_touches <;> simp [hs]
  | coefficientRequest => apply execCoefficientRequest_touches <;> simp [hs]
  | lineError => apply execLineError_touches <;> simp [hs]
  | qualifyComplete => apply execQualifyComplete_touches <;> simp [hs]
  | laneLockLoss => apply execLaneLockLoss_touches <;> simp [hs]
  | linkDown => apply execLinkDown_touches <;> simp [hs]
  | txLpiEntry => apply execTxLpiEntry_touches <;> simp [hs]
  | txLpiWake => apply execTxLpiWake_touches <;> simp [hs]
  | rxLpiChange => apply execRxLpiChange_touches <;> simp [hs]
  | laneCtrlWrite => apply execLaneCtrlWrite_touches <;> simp [hs]
  | eqOverrideWrite => apply execEqOverrideWrite_touches <;> simp [hs]
  | pfcReceive => apply execPfcReceive_touches <;> simp [hs]
  | pfcQuantaExpiry => apply execPfcQuantaExpiry_touches <;> simp [hs]
  | pfcResend => apply execPfcResend_touches <;> simp [hs]
  | etsCfgWrite => apply execEtsCfgWrite_touches <;> simp [hs]
  | preemptCfgWrite => apply execPreemptCfgWrite_touches <;> simp [hs]
  | preemptVerifyAttempt => apply execPreemptVerifyAttempt_touches <;> simp [hs]
  | preemptVerifyResponse => apply execPreemptVerifyResponse_touches <;> simp [hs]
  | eyeRefresh => apply execEyeRefresh_touches <;> simp [hs]
  | arm => apply execArm_touches <;> simp [hs]
  | bankAbort => apply execBankAbort_touches <;> simp [hs]
  | clearStats => apply execClearStats_touches <;> simp [hs]
  | csSelWrite => apply execCsSelWrite_touches <;> simp [hs]
  | stagingComplete => apply execStagingComplete_touches <;> simp [hs]
  | drainComplete => apply execDrainComplete_touches <;> simp [hs]
  | drainSlow => apply execDrainSlow_touches <;> simp [hs]
  | resyncComplete => apply execResyncComplete_touches <;> simp [hs]
  | cqDoorbell => apply execCqDoorbell_touches <;> simp [hs]
  | cqFetchErr => apply execCqFetchErr_touches <;> simp [hs]
  | cqEnable => apply execCqEnable_touches <;> simp [hs]
  | search => apply execSearch_touches <;> simp [hs]
  | next => apply execNext_touches <;> simp [hs]
  | insert => apply execInsert_touches <;> simp [hs]
  | delete => apply execDelete_touches <;> simp [hs]
  | modify => apply execModify_touches <;> simp [hs]
  | flushByPort => apply execFlushByPort_touches <;> simp [hs]
  | ageSweep => apply execAgeSweep_touches <;> simp [hs]
  | genDrain => apply execGenDrain_touches <;> simp [hs]
  | genDrainComplete => apply execGenDrainComplete_touches <;> simp [hs]
  | genDrainSlow => apply execGenDrainSlow_touches <;> simp [hs]
  | epochCommit => apply execEpochCommit_touches <;> simp [hs]
  | epochAbort => apply execEpochAbort_touches <;> simp [hs]
  | epochSealComplete => apply execEpochSealComplete_touches <;> simp [hs]
  | epochEffect => apply execEpochEffect_touches <;> simp [hs]
  | epochSettleComplete => apply execEpochSettleComplete_touches <;> simp [hs]
  | versionRetire => apply execVersionRetire_touches <;> simp [hs]
  | learnApply => apply execLearnApply_touches <;> simp [hs]
  | moveHoldExpiry => apply execMoveHoldExpiry_touches <;> simp [hs]
  | ageSweeperVisit => apply execAgeSweeperVisit_touches <;> simp [hs]
  | stashMoveBack => apply execStashMoveBack_touches <;> simp [hs]
  | shadowWrite => apply execShadowWrite_touches <;> simp [hs]
  | shadowReload => apply execShadowReload_touches <;> simp [hs]
  | mcgSelWrite => apply execMcgSelWrite_touches <;> simp [hs]
  | mcgCommit => apply execMcgCommit_touches <;> simp [hs]
  | poolCfgWrite => apply execPoolCfgWrite_touches <;> simp [hs]
  | qSelWrite => apply execQSelWrite_touches <;> simp [hs]
  | pgSelWrite => apply execPgSelWrite_touches <;> simp [hs]
  | cellEccError => apply execCellEccError_touches <;> simp [hs]
  | bankTaiSecond => apply execBankTaiSecond_touches <;> simp [hs]
  | spareCmd => apply execSpareCmd_touches <;> simp [hs]
  | spareCopyComplete => apply execSpareCopyComplete_touches <;> simp [hs]
  | mergeEnable => apply execMergeEnable_touches <;> simp [hs]
  | mergeDisable => apply execMergeDisable_touches <;> simp [hs]
  | mergeArrival => apply execMergeArrival_touches <;> simp [hs]
  | mergeEmit => apply execMergeEmit_touches <;> simp [hs]
  | seedDraw => apply execSeedDraw_touches <;> simp [hs]
  | seedPublish => apply execSeedPublish_touches <;> simp [hs]
  | memberAbsent => apply execMemberAbsent_touches <;> simp [hs]
  | memberPresent => apply execMemberPresent_touches <;> simp [hs]
  | releaseEnable => apply execReleaseEnable_touches <;> simp [hs]
  | releaseDisable => apply execReleaseDisable_touches <;> simp [hs]
  | releaseHold => apply execReleaseHold_touches <;> simp [hs]
  | releaseAtWrite => apply execReleaseAtWrite_touches <;> simp [hs]
  | releaseWindowOpen => apply execReleaseWindowOpen_touches <;> simp [hs]
  | releaseCutoff => apply execReleaseCutoff_touches <;> simp [hs]
  | releasePreempt => apply execReleasePreempt_touches <;> simp [hs]
  | release => apply execRelease_touches <;> simp [hs]
  | releaseWindowClose => apply execReleaseWindowClose_touches <;> simp [hs]
  | dEffChange => apply execDEffChange_touches <;> simp [hs]
  | disable => apply execDisable_touches <;> simp [hs]
  | contextArm => apply execContextArm_touches <;> simp [hs]
  | setExpected => apply execSetExpected_touches <;> simp [hs]
  | clearGaps => apply execClearGaps_touches <;> simp [hs]
  | ctxSelWrite => apply execCtxSelWrite_touches <;> simp [hs]
  | legDown => apply execLegDown_touches <;> simp [hs]
  | gapExpired => apply execGapExpired_touches <;> simp [hs]
  | retxRequestServe => apply execRetxRequestServe_touches <;> simp [hs]
  | tokenRefill => apply execTokenRefill_touches <;> simp [hs]
  | reqEnable => apply execReqEnable_touches <;> simp [hs]
  | contextLost => apply execContextLost_touches <;> simp [hs]
  | ledgerRecordEntry => apply execLedgerRecordEntry_touches <;> simp [hs]
  | selectionCommit => apply execSelectionCommit_touches <;> simp [hs]
  | anchorInstant => apply execAnchorInstant_touches <;> simp [hs]
  | anchorSigned => apply execAnchorSigned_touches <;> simp [hs]
  | anchorMissed => apply execAnchorMissed_touches <;> simp [hs]
  | blockWrite => apply execBlockWrite_touches <;> simp [hs]
  | ledgerEnable => apply execLedgerEnable_touches <;> simp [hs]
  | ledgerDisable => apply execLedgerDisable_touches <;> simp [hs]
  | streamEnableChange => apply execStreamEnableChange_touches <;> simp [hs]
  | exportSend => apply execExportSend_touches <;> simp [hs]
  | counterEvent => apply execCounterEvent_touches <;> simp [hs]
  | evselWrite => apply execEvselWrite_touches <;> simp [hs]
  | bwEndRead => apply execBwEndRead_touches <;> simp [hs]
  | bwWindowClose => apply execBwWindowClose_touches <;> simp [hs]
  | snapAtWrite => apply execSnapAtWrite_touches <;> simp [hs]
  | snapCancel => apply execSnapCancel_touches <;> simp [hs]
  | snapshotClose => apply execSnapshotClose_touches <;> simp [hs]
  | snapshotComplete => apply execSnapshotComplete_touches <;> simp [hs]
  | snapSlow => apply execSnapSlow_touches <;> simp [hs]
  | traceEnable => apply execTraceEnable_touches <;> simp [hs]
  | counterEccError => apply execCounterEccError_touches <;> simp [hs]
  | powerVote => apply execPowerVote_touches <;> simp [hs]
  | holdoffExpiry => apply execHoldoffExpiry_touches <;> simp [hs]
  | privilegedAnswer => apply execPrivilegedAnswer_touches <;> simp [hs]
  | handshakeNoAnswer => apply execHandshakeNoAnswer_touches <;> simp [hs]
  | delayExpiry => apply execDelayExpiry_touches <;> simp [hs]
  | domainEntryComplete => apply execDomainEntryComplete_touches <;> simp [hs]
  | avsAck => apply execAvsAck_touches <;> simp [hs]
  | avsTimeout => apply execAvsTimeout_touches <;> simp [hs]
  | wakeStageTimeout => apply execWakeStageTimeout_touches <;> simp [hs]
  | retryWake => apply execRetryWake_touches <;> simp [hs]
  | domSelWrite => apply execDomSelWrite_touches <;> simp [hs]
  | vddLowOff => apply execVddLowOff_touches <;> simp [hs]
  | xtalLost => apply execXtalLost_touches <;> simp [hs]
  | estimatorPeriod => apply execEstimatorPeriod_touches <;> simp [hs]
  | capWrite => apply execCapWrite_touches <;> simp [hs]
  | powerCalStart => apply execPowerCalStart_touches <;> simp [hs]
  | powerCalComplete => apply execPowerCalComplete_touches <;> simp [hs]
  | useFused => apply execUseFused_touches <;> simp [hs]
  | droopCrossing => apply execDroopCrossing_touches <;> simp [hs]
  | droopOverrun => apply execDroopOverrun_touches <;> simp [hs]
  | thermalSample => apply execThermalSample_touches <;> simp [hs]
  | thermtrip => apply execThermtrip_touches <;> simp [hs]
  | lineSelWrite => apply execLineSelWrite_touches <;> simp [hs]
  | snapSelWrite => apply execSnapSelWrite_touches <;> simp [hs]
  | seamFlitUncorrectable => apply execSeamFlitUncorrectable_touches <;> simp [hs]
  | wearSelWrite => apply execWearSelWrite_touches <;> simp [hs]
  | hostLinkDown => apply execHostLinkDown_touches <;> simp [hs]
  | hdmRead => apply execHdmRead_touches <;> simp [hs]
  | hdmWrite => apply execHdmWrite_touches <;> simp [hs]
  | atsInvalidation => apply execAtsInvalidation_touches <;> simp [hs]
  | mailboxGo => apply execMailboxGo_touches <;> simp [hs]
  | crownRingDoorbell => apply execCrownRingDoorbell_touches <;> simp [hs]
  | crownRingFetchErr => apply execCrownRingFetchErr_touches <;> simp [hs]
  | nop => apply execNop_touches <;> simp [hs]
  | getVersions => apply execGetVersions_touches <;> simp [hs]
  | bundleStage => apply execBundleStage_touches <;> simp [hs]
  | bundleDrop => apply execBundleDrop_touches <;> simp [hs]
  | ucodeLoad => apply execUcodeLoad_touches <;> simp [hs]
  | fwUpdate => apply execFwUpdate_touches <;> simp [hs]
  | fwConfirm => apply execFwConfirm_touches <;> simp [hs]
  | fwRollback => apply execFwRollback_touches <;> simp [hs]
  | fwAbort => apply execFwAbort_touches <;> simp [hs]
  | svnCommit => apply execSvnCommit_touches <;> simp [hs]
  | ddrRead => apply execDdrRead_touches <;> simp [hs]
  | fwSelftestDone => apply execFwSelftestDone_touches <;> simp [hs]
  | fwSwitchStart => apply execFwSwitchStart_touches <;> simp [hs]
  | fwSwitchComplete => apply execFwSwitchComplete_touches <;> simp [hs]
  | confirmTimeout => apply execConfirmTimeout_touches <;> simp [hs]
  | fwResyncComplete missed =>
    show Moves _ _ (execFwResyncComplete missed s)
    apply execFwResyncComplete_touches <;> simp [hs]
  | checkpointWrite => apply execCheckpointWrite_touches <;> simp [hs]
  | crownPairFailure => apply execCrownPairFailure_touches <;> simp [hs]
  | takeoverComplete => apply execTakeoverComplete_touches <;> simp [hs]
  | doeDiscovery => apply execDoeDiscovery_touches <;> simp [hs]
  | getVersion => apply execGetVersion_touches <;> simp [hs]
  | getCapabilities => apply execGetCapabilities_touches <;> simp [hs]
  | negotiateAlgorithms => apply execNegotiateAlgorithms_touches <;> simp [hs]
  | getDigests => apply execGetDigests_touches <;> simp [hs]
  | getCertificate => apply execGetCertificate_touches <;> simp [hs]
  | challenge => apply execChallenge_touches <;> simp [hs]
  | getMeasurements => apply execGetMeasurements_touches <;> simp [hs]
  | spdmUnsupportedRequest => apply execSpdmUnsupportedRequest_touches <;> simp [hs]
  | doeTimeout => apply execDoeTimeout_touches <;> simp [hs]
  | retxGibWrite => apply execRetxGibWrite_touches <;> simp [hs]
  | ddrTrainingComplete => apply execDdrTrainingComplete_touches <;> simp [hs]
  | marginCheck => apply execMarginCheck_touches <;> simp [hs]
  | ddrEccError => apply execDdrEccError_touches <;> simp [hs]
  | ddrScrubVisit => apply execDdrScrubVisit_touches <;> simp [hs]
  | dramTempRead => apply execDramTempRead_touches <;> simp [hs]
  | powerOnReset => apply execPowerOnReset_touches <;> simp [hs]
  | warmReset => apply execWarmReset_touches <;> simp [hs]
  | perst => apply execPerst_touches <;> simp [hs]
  | bypass => apply execBypass_touches <;> simp [hs]
  | idcode => apply execIdcode_touches <;> simp [hs]
  | samplePreload => apply execSamplePreload_touches <;> simp [hs]
  | extest => apply execExtest_touches <;> simp [hs]
  | extestPulse => apply execExtestPulse_touches <;> simp [hs]
  | extestTrain => apply execExtestTrain_touches <;> simp [hs]
  | clamp => apply execClamp_touches <;> simp [hs]
  | highz => apply execHighz_touches <;> simp [hs]
  | clkOutEdge => apply execClkOutEdge_touches <;> simp [hs]
  | delayReqSend => apply execDelayReqSend_touches <;> simp [hs]
  | remoteFault => apply execRemoteFault_touches <;> simp [hs]
  | vddAonUp => apply execVddAonUp_touches <;> simp [hs]
  | selfRefreshEntry => apply execSelfRefreshEntry_touches <;> simp [hs]
  | snoop => apply execSnoop_touches <;> simp [hs]

end Sys2Proof.Machine
end

section
/-! PROOF. O52: what is left of each command in the safe state, and that it leaves the safe state as it was. -/

namespace Sys2Proof.Machine

/-- The command answers a next state, with the safe state as it was. -/
def KeepsSafe (s : State) (o : Out) : Prop := ∃ t, o = .next t ∧ t.gnt.safe = s.gnt.safe

theorem KeepsSafe.next {s t : State} (h : t.gnt.safe = s.gnt.safe) : KeepsSafe s (.next t) := ⟨t, rfl, h⟩

theorem KeepsSafe.of_gnt {s t : State} (h : t.gnt = s.gnt) : KeepsSafe s (.next t) := .next (congrArg Gauntlet.safe h)

theorem KeepsSafe.of_fixed {s t : State} (h : t = s) : KeepsSafe s (.next t) := .next (by rw [h])

theorem KeepsSafe.of_moves {s : State} {o : Out} (h : Moves (· ≠ .gnt) s o) : KeepsSafe s o :=
  let ⟨t, ho, ht⟩ := h
  ⟨t, ho, congrArg Gauntlet.safe ht.gnt_eq⟩

theorem isSafe_of_safe_eq {s t : State} (hs : s.isSafe = true) (h : t.gnt.safe = s.gnt.safe) : t.isSafe = true := by
  unfold State.isSafe
  rw [h]
  exact hs

theorem State.stopped_of_isSafe {s : State} (h : s.isSafe = true) : s.stopped = true := by simp [State.stopped, h]

/-- A stopped device records an access to an absent page, and takes no other write (R43, R52). -/
theorem hostWrite_gnt_of_stopped {s : State} (h : s.stopped = true) (x : RegWrite) : (hostWrite x s).gnt = s.gnt := by
  cases hp : present x.page with
  | true => rw [hostWrite_of_stopped h x hp]
  | false => rw [show hostWrite x s = recordBad 3 (barOf x.page x.off) s from hostWrite_absent hp, recordBad_gnt]

theorem splitAccess_safe (bar2 write : Bool) (address : Nat) (data : List Byte) (acc : List Nat × State) (k : Nat)
    (h : acc.2.isSafe = true) : (splitAccess bar2 write address data acc k).2.gnt.safe = acc.2.gnt.safe := by
  unfold splitAccess
  cases write with
  | false => exact congrArg Gauntlet.safe (readReg_gnt _ _ _ _)
  | true =>
    cases bar2 with
    | true => exact congrArg Gauntlet.safe (recordBad_gnt _ _ _)
    | false => exact congrArg Gauntlet.safe (hostWrite_gnt_of_stopped (State.stopped_of_isSafe h) _)

theorem foldl_splitAccess_safe (bar2 write : Bool) (address : Nat) (data : List Byte) (ks : List Nat) (acc : List Nat × State)
    (h : acc.2.isSafe = true) : (ks.foldl (splitAccess bar2 write address data) acc).2.gnt.safe = acc.2.gnt.safe := by
  induction ks generalizing acc with
  | nil => rfl
  | cons k r ih =>
    have hk := splitAccess_safe bar2 write address data acc k h
    exact (ih _ (isSafe_of_safe_eq h hk)).trans hk

theorem badSize_safe (bar2 write : Bool) (address size : Nat) (data : List Byte) {s : State} (h : s.isSafe = true) :
    (badSize bar2 write address size data s).gnt.safe = s.gnt.safe := by
  have hfold := foldl_splitAccess_safe bar2 write address data (List.range (size / 8)) ([], s) h
  unfold badSize
  split
  · dsimp only
    split
    · exact hfold
    · exact hfold
  · split
    · exact congrArg Gauntlet.safe (recordBad_gnt _ _ _)
    · rfl

/-- In the safe state a parity error latches its cause alone (R457, R462). -/
theorem gntParity_gnt_of_isSafe {s : State} (h : s.isSafe = true) : (gntParity s).gnt = s.gnt := by
  unfold gntParity
  simp [h]

/-- No entry is taken in the safe state (R464). -/
theorem execSafeStateEntry_of_isSafe {s : State} (h : s.isSafe = true) : execSafeStateEntry s = .next s := by
  unfold execSafeStateEntry
  cases s.gnt.entry <;> simp [h]

theorem execLineLatch_keepsSafe (line : Fin 1024) (fired : List (BitVec 14 × Fin 16)) (s : State) :
    KeepsSafe s (execLineLatch line fired s) := by
  have hraise (t : State) (p : BitVec 14 × Fin 16) : (t.raise p.1.toNat p.2.val).gnt.safe = t.gnt.safe :=
    congrArg Gauntlet.safe (State.raise_gnt t _ _)
  refine KeepsSafe.next ((latchLine_safe _ _).trans ?_)
  split
  · rw [State.vector_gnt]
    exact foldl_safe hraise _ s
  · exact foldl_safe hraise _ s

theorem execReinitComplete_keepsSafe (d : Fin 209) (s : State) : KeepsSafe s (execReinitComplete d s) := by
  refine KeepsSafe.next (State.given_safe _ (startHeld_safe_of_gnt ?_))
  rw [wakeEnds_gnt]
  split
  · rw [reinit_gnt]
  · rfl

theorem execBootStepComplete_of_stopped {s : State} (h : s.stopped = true) (step : Fin 17) (facts : BootFacts) :
    execBootStepComplete step facts s = .next s := by
  unfold execBootStepComplete
  simp [h]

/-- The two commands that end the safe state. -/
def isReset : Instr → Bool
  | .warmResetApply .. | .powerRemoval .. => true
  | _ => false

/-- In the safe state a command that reaches Gauntlet's part is either gated, or leaves the safe state alone. -/
theorem exec_keepsSafe {c : Instr} {s : State} (hs : s.isSafe = true) (hc : isReset c = false) : KeepsSafe s (exec c s) := by
  have hstopped := State.stopped_of_isSafe hs
  have hwritten (page : Nat) (f : State → State) : KeepsSafe s (.next (s.written page f)) :=
    .of_fixed (State.written_of_stopped hstopped page f)
  have hrunning (f : State → State) : KeepsSafe s (.next (s.running f)) :=
    .of_fixed (State.running_of_stopped hstopped f)
  have hheader (page off : Nat) (f : State → State) : KeepsSafe s (.next (s.headerWrite page off f)) := by
    unfold State.headerWrite
    split
    · exact .of_gnt (recordBad_gnt _ _ s)
    · exact hrunning f
  have hhost (c : Bool) (x : RegWrite) : KeepsSafe s (.next (s.given c (hostWrite x))) :=
    .next (State.given_safe c (congrArg Gauntlet.safe (hostWrite_gnt_of_stopped hstopped x)))
  cases c with
  | registerWrite | t80PairCommit => exact hhost _ _
  | badSizeAccess => exact .next (State.given_safe _ (badSize_safe _ _ _ _ _ hs))
  | blockReset | errInject => exact hheader _ _ _
  | lineStatusClear => exact hwritten _ _
  | scrubVisit | softRepair | seamWireCheck | seamSpareSwitch | wearHour => exact hrunning _
  | quenchClose => exact .next (closeQuench_safe _ _ s)
  | escalationEnd => exact .next (endEscalation_safe _ s)
  | gntRegParity => exact .of_gnt (gntParity_gnt_of_isSafe hs)
  | safeStateEntry => exact ⟨s, execSafeStateEntry_of_isSafe hs, rfl⟩
  | faultSnapshotWrite => exact .next (writeSnapshot_safe s)
  | sealWritten => exact .next (State.given_safe _ (writeSeal_safe _ _ _ _ s))
  | sequencerSeal => exact .next (sequencerSeal_safe _ _ _ s)
  | lineLatch => exact execLineLatch_keepsSafe _ _ s
  | clockGate => exact .next (State.given_safe _ (startHeld_safe_of_gnt (State.putDom_gnt _ _ _)))
  | wakeStageComplete => exact .next (State.given_safe _ (startHeld_safe_of_gnt (stageEnds_gnt _ _ _)))
  | reinitComplete => exact execReinitComplete_keepsSafe _ s
  | hostLinkUp => exact .next (State.given_safe _ (startHeld_safe_of_gnt (linkUp_gnt _ _ _ _ _ _ _)))
  | bootStepComplete => exact ⟨s, execBootStepComplete_of_stopped hstopped _ _, rfl⟩
  | warmResetApply | powerRemoval => cases hc
  | _ => exact .of_moves (exec_leaves_gnt _ s rfl)

end Sys2Proof.Machine

namespace Sys2Proof

open Sys2Proof.Machine

/-- Settles O52: in the safe state only a warm reset and the removal of power change what says that the device is in it. -/
theorem onlyAResetLeavesTheSafeState : Obligations.OnlyAResetLeavesTheSafeState := by
  unfold Obligations.OnlyAResetLeavesTheSafeState
  intro c s t hs ht
  have hkept (hc : isReset c = false) : t.isSafe = true := by
    obtain ⟨u, hu, hsafe⟩ := exec_keepsSafe hs hc
    cases ht.symm.trans hu
    exact isSafe_of_safe_eq hs hsafe
  cases c with
  | warmResetApply | powerRemoval => trivial
  | _ => exact hkept rfl

end Sys2Proof
end

section
/-! SUPPORT. Which commands can move TIME, which can change what the model keeps of DDR5, and that no other one does. -/

namespace Sys2Proof.Machine

/-- The commands but a reset whose meaning can move TIME, in some state (R59, R60, R71, R75, R79). -/
def movesTime : Instr → Bool
  | .registerWrite .. | .badSizeAccess .. | .t80PairCommit .. | .setTime .. | .todSentenceReceived ..
  | .ptpMessageReceive .. => true
  | _ => false

/-- The commands but a reset whose meaning can change what the model keeps of DIMMs and training, in some state (R523, R528). -/
def movesDram : Instr → Bool
  | .wakeStageComplete .. | .wakeStageTimeout .. | .ddrTrainingComplete .. | .domainEntryComplete .. | .avsAck ..
  | .avsTimeout .. | .selfRefreshEntry .. | .bootStepComplete .. => true
  | _ => false

/-- The parts that stay where neither TIME nor DDR5's units may move. -/
def neitherTimeNorDram (p : Piece) : Prop := p ≠ .time ∧ p ≠ .dram

/-- Every command but those leaves both as they were, whatever state it meets: one lemma of what it may touch for each. -/
theorem exec_leaves_time_dram (c : Instr) (s : State) (hc : (isReset c || movesTime c || movesDram c) = false) :
    Moves neitherTimeNorDram s (exec c s) := by
  have hs : Touches neitherTimeNorDram s s := Touches.refl _ s
  cases c with
  | warmResetApply | powerRemoval | registerWrite | badSizeAccess | t80PairCommit | setTime
  | todSentenceReceived | ptpMessageReceive | wakeStageComplete | wakeStageTimeout | ddrTrainingComplete
  | domainEntryComplete | avsAck | avsTimeout | selfRefreshEntry | bootStepComplete => cases hc
  | t80NsRead => apply execT80NsRead_touches <;> simp [neitherTimeNorDram, hs]
  | frameReceive => apply execFrameReceive_touches <;> simp [neitherTimeNorDram, hs]
  | ingressSlotAssign => apply execIngressSlotAssign_touches <;> simp [neitherTimeNorDram, hs]
  | engineAssign => apply execEngineAssign_touches <;> simp [neitherTimeNorDram, hs]
  | microwordIssue => apply execMicrowordIssue_touches <;> simp [neitherTimeNorDram, hs]
  | goldenRepair => apply execGoldenRepair_touches <;> simp [neitherTimeNorDram, hs]
  | poisonRewrite => apply execPoisonRewrite_touches <;> simp [neitherTimeNorDram, hs]
  | searchResultWritten => apply execSearchResultWritten_touches <;> simp [neitherTimeNorDram, hs]
  | sessionDecision => apply execSessionDecision_touches <;> simp [neitherTimeNorDram, hs]
  | ringWrite => apply execRingWrite_touches <;> simp [neitherTimeNorDram, hs]
  | queueAssign => apply execQueueAssign_touches <;> simp [neitherTimeNorDram, hs]
  | frameTailVerdict => apply execFrameTailVerdict_touches <;> simp [neitherTimeNorDram, hs]
  | schedulerSelect => apply execSchedulerSelect_touches <;> simp [neitherTimeNorDram, hs]
  | underrun => apply execUnderrun_touches <;> simp [neitherTimeNorDram, hs]
  | egressTransmit => apply execEgressTransmit_touches <;> simp [neitherTimeNorDram, hs]
  | transmitComplete => apply execTransmitComplete_touches <;> simp [neitherTimeNorDram, hs]
  | headerRingFlush => apply execHeaderRingFlush_touches <;> simp [neitherTimeNorDram, hs]
  | refLost => apply execRefLost_touches <;> simp [neitherTimeNorDram, hs]
  | bar2Write => apply execBar2Write_touches <;> simp [neitherTimeNorDram, hs]
  | absentPageAccess => apply execAbsentPageAccess_touches <;> simp [neitherTimeNorDram, hs]
  | blockReset => apply execBlockReset_touches <;> simp [neitherTimeNorDram, hs]
  | blockResetComplete => apply execBlockResetComplete_touches <;> simp [neitherTimeNorDram, hs]
  | quenchClose => apply execQuenchClose_touches <;> simp [neitherTimeNorDram, hs]
  | errInject => apply execErrInject_touches <;> simp [neitherTimeNorDram, hs]
  | errClassMapWrite => apply execErrClassMapWrite_touches <;> simp [neitherTimeNorDram, hs]
  | msixUnmask => apply execMsixUnmask_touches <;> simp [neitherTimeNorDram, hs]
  | replicaCompare => apply execReplicaCompare_touches <;> simp [neitherTimeNorDram, hs]
  | replicaResyncDone => apply execReplicaResyncDone_touches <;> simp [neitherTimeNorDram, hs]
  | ppsInEdge => apply execPpsInEdge_touches <;> simp [neitherTimeNorDram, hs]
  | ppsEdgeMissed => apply execPpsEdgeMissed_touches <;> simp [neitherTimeNorDram, hs]
  | todOutSentence => apply execTodOutSentence_touches <;> simp [neitherTimeNorDram, hs]
  | ptpTimeout => apply execPtpTimeout_touches <;> simp [neitherTimeNorDram, hs]
  | peerAgeOut => apply execPeerAgeOut_touches <;> simp [neitherTimeNorDram, hs]
  | revertHoldoff => apply execRevertHoldoff_touches <;> simp [neitherTimeNorDram, hs]
  | refCfgWrite => apply execRefCfgWrite_touches <;> simp [neitherTimeNorDram, hs]
  | servoModeChange => apply execServoModeChange_touches <;> simp [neitherTimeNorDram, hs]
  | lockVerified => apply execLockVerified_touches <;> simp [neitherTimeNorDram, hs]
  | relockComplete => apply execRelockComplete_touches <;> simp [neitherTimeNorDram, hs]
  | slewEnd => apply execSlewEnd_touches <;> simp [neitherTimeNorDram, hs]
  | holdoverRecompute => apply execHoldoverRecompute_touches <;> simp [neitherTimeNorDram, hs]
  | historyWrite => apply execHistoryWrite_touches <;> simp [neitherTimeNorDram, hs]
  | histClear => apply execHistClear_touches <;> simp [neitherTimeNorDram, hs]
  | bandLockstep => apply execBandLockstep_touches <;> simp [neitherTimeNorDram, hs]
  | timePllUnlock => apply execTimePllUnlock_touches <;> simp [neitherTimeNorDram, hs]
  | ptpSyncSend => apply execPtpSyncSend_touches <;> simp [neitherTimeNorDram, hs]
  | ptpAnnounceSend => apply execPtpAnnounceSend_touches <;> simp [neitherTimeNorDram, hs]
  | makeStatic => apply execMakeStatic_touches <;> simp [neitherTimeNorDram, hs]
  | makeLearned => apply execMakeLearned_touches <;> simp [neitherTimeNorDram, hs]
  | free => apply execFree_touches <;> simp [neitherTimeNorDram, hs]
  | peerSelWrite => apply execPeerSelWrite_touches <;> simp [neitherTimeNorDram, hs]
  | denoonHelloSend => apply execDenoonHelloSend_touches <;> simp [neitherTimeNorDram, hs]
  | denoonHelloReceive => apply execDenoonHelloReceive_touches <;> simp [neitherTimeNorDram, hs]
  | memberTimeout => apply execMemberTimeout_touches <;> simp [neitherTimeNorDram, hs]
  | primarySwitch => apply execPrimarySwitch_touches <;> simp [neitherTimeNorDram, hs]
  | ppsOutPulse => apply execPpsOutPulse_touches <;> simp [neitherTimeNorDram, hs]
  | ppsOutCfgWrite => apply execPpsOutCfgWrite_touches <;> simp [neitherTimeNorDram, hs]
  | clkOutCfgWrite => apply execClkOutCfgWrite_touches <;> simp [neitherTimeNorDram, hs]
  | clkOutStart => apply execClkOutStart_touches <;> simp [neitherTimeNorDram, hs]
  | tqChange => apply execTqChange_touches <;> simp [neitherTimeNorDram, hs]
  | fineTrimStep => apply execFineTrimStep_touches <;> simp [neitherTimeNorDram, hs]
  | fineTrimFreeze => apply execFineTrimFreeze_touches <;> simp [neitherTimeNorDram, hs]
  | fineTrimResume => apply execFineTrimResume_touches <;> simp [neitherTimeNorDram, hs]
  | wanderSample => apply execWanderSample_touches <;> simp [neitherTimeNorDram, hs]
  | cdrLock => apply execCdrLock_touches <;> simp [neitherTimeNorDram, hs]
  | cdrLockLoss => apply execCdrLockLoss_touches <;> simp [neitherTimeNorDram, hs]
  | apply => apply execApply_touches <;> simp [neitherTimeNorDram, hs]
  | discard => apply execDiscard_touches <;> simp [neitherTimeNorDram, hs]
  | calTrimEffect => apply execCalTrimEffect_touches <;> simp [neitherTimeNorDram, hs]
  | calSaveDone => apply execCalSaveDone_touches <;> simp [neitherTimeNorDram, hs]
  | statSelWrite => apply execStatSelWrite_touches <;> simp [neitherTimeNorDram, hs]
  | statClear => apply execStatClear_touches <;> simp [neitherTimeNorDram, hs]
  | octCfgWrite => apply execOctCfgWrite_touches <;> simp [neitherTimeNorDram, hs]
  | octetPllLock => apply execOctetPllLock_touches <;> simp [neitherTimeNorDram, hs]
  | octetPllUnlock => apply execOctetPllUnlock_touches <;> simp [neitherTimeNorDram, hs]
  | portEnable => apply execPortEnable_touches <;> simp [neitherTimeNorDram, hs]
  | portDisable => apply execPortDisable_touches <;> simp [neitherTimeNorDram, hs]
  | restart => apply execRestart_touches <;> simp [neitherTimeNorDram, hs]
  | laneSignalDetect => apply execLaneSignalDetect_touches <;> simp [neitherTimeNorDram, hs]
  | anComplete => apply execAnComplete_touches <;> simp [neitherTimeNorDram, hs]
  | anTimeout => apply execAnTimeout_touches <;> simp [neitherTimeNorDram, hs]
  | denoonCapSend => apply execDenoonCapSend_touches <;> simp [neitherTimeNorDram, hs]
  | denoonCapReceive => apply execDenoonCapReceive_touches <;> simp [neitherTimeNorDram, hs]
  | retune => apply execRetune_touches <;> simp [neitherTimeNorDram, hs]
  | exchangeTimeout => apply execExchangeTimeout_touches <;> simp [neitherTimeNorDram, hs]
  | retuneLocked => apply execRetuneLocked_touches <;> simp [neitherTimeNorDram, hs]
  | retuneTimeout => apply execRetuneTimeout_touches <;> simp [neitherTimeNorDram, hs]
  | trainingComplete => apply execTrainingComplete_touches <;> simp [neitherTimeNorDram, hs]
  | trainingTimeout => apply execTrainingTimeout_touches <;> simp [neitherTimeNorDram, hs]
  | coefficientRequest => apply execCoefficientRequest_touches <;> simp [neitherTimeNorDram, hs]
  | lineError => apply execLineError_touches <;> simp [neitherTimeNorDram, hs]
  | qualifyComplete => apply execQualifyComplete_touches <;> simp [neitherTimeNorDram, hs]
  | laneLockLoss => apply execLaneLockLoss_touches <;> simp [neitherTimeNorDram, hs]
  | linkDown => apply execLinkDown_touches <;> simp [neitherTimeNorDram, hs]
  | txLpiEntry => apply execTxLpiEntry_touches <;> simp [neitherTimeNorDram, hs]
  | txLpiWake => apply execTxLpiWake_touches <;> simp [neitherTimeNorDram, hs]
  | rxLpiChange => apply execRxLpiChange_touches <;> simp [neitherTimeNorDram, hs]
  | laneCtrlWrite => apply execLaneCtrlWrite_touches <;> simp [neitherTimeNorDram, hs]
  | eqOverrideWrite => apply execEqOverrideWrite_touches <;> simp [neitherTimeNorDram, hs]
  | pfcReceive => apply execPfcReceive_touches <;> simp [neitherTimeNorDram, hs]
  | pfcQuantaExpiry => apply execPfcQuantaExpiry_touches <;> simp [neitherTimeNorDram, hs]
  | pfcResend => apply execPfcResend_touches <;> simp [neitherTimeNorDram, hs]
  | etsCfgWrite => apply execEtsCfgWrite_touches <;> simp [neitherTimeNorDram, hs]
  | preemptCfgWrite => apply execPreemptCfgWrite_touches <;> simp [neitherTimeNorDram, hs]
  | preemptVerifyAttempt => apply execPreemptVerifyAttempt_touches <;> simp [neitherTimeNorDram, hs]
  | preemptVerifyResponse => apply execPreemptVerifyResponse_touches <;> simp [neitherTimeNorDram, hs]
  | eyeRefresh => apply execEyeRefresh_touches <;> simp [neitherTimeNorDram, hs]
  | arm => apply execArm_touches <;> simp [neitherTimeNorDram, hs]
  | bankAbort => apply execBankAbort_touches <;> simp [neitherTimeNorDram, hs]
  | clearStats => apply execClearStats_touches <;> simp [neitherTimeNorDram, hs]
  | csSelWrite => apply execCsSelWrite_touches <;> simp [neitherTimeNorDram, hs]
  | stagingComplete => apply execStagingComplete_touches <;> simp [neitherTimeNorDram, hs]
  | drainComplete => apply execDrainComplete_touches <;> simp [neitherTimeNorDram, hs]
  | drainSlow => apply execDrainSlow_touches <;> simp [neitherTimeNorDram, hs]
  | resyncComplete => apply execResyncComplete_touches <;> simp [neitherTimeNorDram, hs]
  | cqDoorbell => apply execCqDoorbell_touches <;> simp [neitherTimeNorDram, hs]
  | cqFetchErr => apply execCqFetchErr_touches <;> simp [neitherTimeNorDram, hs]
  | cqEnable => apply execCqEnable_touches <;> simp [neitherTimeNorDram, hs]
  | search => apply execSearch_touches <;> simp [neitherTimeNorDram, hs]
  | next => apply execNext_touches <;> simp [neitherTimeNorDram, hs]
  | insert => apply execInsert_touches <;> simp [neitherTimeNorDram, hs]
  | delete => apply execDelete_touches <;> simp [neitherTimeNorDram, hs]
  | modify => apply execModify_touches <;> simp [neitherTimeNorDram, hs]
  | flushByPort => apply execFlushByPort_touches <;> simp [neitherTimeNorDram, hs]
  | ageSweep => apply execAgeSweep_touches <;> simp [neitherTimeNorDram, hs]
  | genDrain => apply execGenDrain_touches <;> simp [neitherTimeNorDram, hs]
  | genDrainComplete => apply execGenDrainComplete_touches <;> simp [neitherTimeNorDram, hs]
  | genDrainSlow => apply execGenDrainSlow_touches <;> simp [neitherTimeNorDram, hs]
  | epochCommit => apply execEpochCommit_touches <;> simp [neitherTimeNorDram, hs]
  | epochAbort => apply execEpochAbort_touches <;> simp [neitherTimeNorDram, hs]
  | epochSealComplete => apply execEpochSealComplete_touches <;> simp [neitherTimeNorDram, hs]
  | epochEffect => apply execEpochEffect_touches <;> simp [neitherTimeNorDram, hs]
  | epochSettleComplete => apply execEpochSettleComplete_touches <;> simp [neitherTimeNorDram, hs]
  | versionRetire => apply execVersionRetire_touches <;> simp [neitherTimeNorDram, hs]
  | learnApply => apply execLearnApply_touches <;> simp [neitherTimeNorDram, hs]
  | moveHoldExpiry => apply execMoveHoldExpiry_touches <;> simp [neitherTimeNorDram, hs]
  | ageSweeperVisit => apply execAgeSweeperVisit_touches <;> simp [neitherTimeNorDram, hs]
  | stashMoveBack => apply execStashMoveBack_touches <;> simp [neitherTimeNorDram, hs]
  | shadowWrite => apply execShadowWrite_touches <;> simp [neitherTimeNorDram, hs]
  | shadowReload => apply execShadowReload_touches <;> simp [neitherTimeNorDram, hs]
  | mcgSelWrite => apply execMcgSelWrite_touches <;> simp [neitherTimeNorDram, hs]
  | mcgCommit => apply execMcgCommit_touches <;> simp [neitherTimeNorDram, hs]
  | poolCfgWrite => apply execPoolCfgWrite_touches <;> simp [neitherTimeNorDram, hs]
  | qSelWrite => apply execQSelWrite_touches <;> simp [neitherTimeNorDram, hs]
  | pgSelWrite => apply execPgSelWrite_touches <;> simp [neitherTimeNorDram, hs]
  | cellEccError => apply execCellEccError_touches <;> simp [neitherTimeNorDram, hs]
  | bankTaiSecond => apply execBankTaiSecond_touches <;> simp [neitherTimeNorDram, hs]
  | spareCmd => apply execSpareCmd_touches <;> simp [neitherTimeNorDram, hs]
  | spareCopyComplete => apply execSpareCopyComplete_touches <;> simp [neitherTimeNorDram, hs]
  | mergeEnable => apply execMergeEnable_touches <;> simp [neitherTimeNorDram, hs]
  | mergeDisable => apply execMergeDisable_touches <;> simp [neitherTimeNorDram, hs]
  | mergeArrival => apply execMergeArrival_touches <;> simp [neitherTimeNorDram, hs]
  | mergeEmit => apply execMergeEmit_touches <;> simp [neitherTimeNorDram, hs]
  | seedDraw => apply execSeedDraw_touches <;> simp [neitherTimeNorDram, hs]
  | seedPublish => apply execSeedPublish_touches <;> simp [neitherTimeNorDram, hs]
  | memberAbsent => apply execMemberAbsent_touches <;> simp [neitherTimeNorDram, hs]
  | memberPresent => apply execMemberPresent_touches <;> simp [neitherTimeNorDram, hs]
  | releaseEnable => apply execReleaseEnable_touches <;> simp [neitherTimeNorDram, hs]
  | releaseDisable => apply execReleaseDisable_touches <;> simp [neitherTimeNorDram, hs]
  | releaseHold => apply execReleaseHold_touches <;> simp [neitherTimeNorDram, hs]
  | releaseAtWrite => apply execReleaseAtWrite_touches <;> simp [neitherTimeNorDram, hs]
  | releaseWindowOpen => apply execReleaseWindowOpen_touches <;> simp [neitherTimeNorDram, hs]
  | releaseCutoff => apply execReleaseCutoff_touches <;> simp [neitherTimeNorDram, hs]
  | releasePreempt => apply execReleasePreempt_touches <;> simp [neitherTimeNorDram, hs]
  | release => apply execRelease_touches <;> simp [neitherTimeNorDram, hs]
  | releaseWindowClose => apply execReleaseWindowClose_touches <;> simp [neitherTimeNorDram, hs]
  | dEffChange => apply execDEffChange_touches <;> simp [neitherTimeNorDram, hs]
  | disable => apply execDisable_touches <;> simp [neitherTimeNorDram, hs]
  | contextArm => apply execContextArm_touches <;> simp [neitherTimeNorDram, hs]
  | setExpected => apply execSetExpected_touches <;> simp [neitherTimeNorDram, hs]
  | clearGaps => apply execClearGaps_touches <;> simp [neitherTimeNorDram, hs]
  | ctxSelWrite => apply execCtxSelWrite_touches <;> simp [neitherTimeNorDram, hs]
  | legDown => apply execLegDown_touches <;> simp [neitherTimeNorDram, hs]
  | gapExpired => apply execGapExpired_touches <;> simp [neitherTimeNorDram, hs]
  | retxRequestServe => apply execRetxRequestServe_touches <;> simp [neitherTimeNorDram, hs]
  | tokenRefill => apply execTokenRefill_touches <;> simp [neitherTimeNorDram, hs]
  | reqEnable => apply execReqEnable_touches <;> simp [neitherTimeNorDram, hs]
  | contextLost => apply execContextLost_touches <;> simp [neitherTimeNorDram, hs]
  | ledgerRecordEntry => apply execLedgerRecordEntry_touches <;> simp [neitherTimeNorDram, hs]
  | selectionCommit => apply execSelectionCommit_touches <;> simp [neitherTimeNorDram, hs]
  | anchorInstant => apply execAnchorInstant_touches <;> simp [neitherTimeNorDram, hs]
  | anchorSigned => apply execAnchorSigned_touches <;> simp [neitherTimeNorDram, hs]
  | anchorMissed => apply execAnchorMissed_touches <;> simp [neitherTimeNorDram, hs]
  | blockWrite => apply execBlockWrite_touches <;> simp [neitherTimeNorDram, hs]
  | ledgerEnable => apply execLedgerEnable_touches <;> simp [neitherTimeNorDram, hs]
  | ledgerDisable => apply execLedgerDisable_touches <;> simp [neitherTimeNorDram, hs]
  | streamEnableChange => apply execStreamEnableChange_touches <;> simp [neitherTimeNorDram, hs]
  | sealWritten => apply execSealWritten_touches <;> simp [neitherTimeNorDram, hs]
  | exportSend => apply execExportSend_touches <;> simp [neitherTimeNorDram, hs]
  | counterEvent => apply execCounterEvent_touches <;> simp [neitherTimeNorDram, hs]
  | evselWrite => apply execEvselWrite_touches <;> simp [neitherTimeNorDram, hs]
  | bwEndRead => apply execBwEndRead_touches <;> simp [neitherTimeNorDram, hs]
  | bwWindowClose => apply execBwWindowClose_touches <;> simp [neitherTimeNorDram, hs]
  | snapAtWrite => apply execSnapAtWrite_touches <;> simp [neitherTimeNorDram, hs]
  | snapCancel => apply execSnapCancel_touches <;> simp [neitherTimeNorDram, hs]
  | snapshotClose => apply execSnapshotClose_touches <;> simp [neitherTimeNorDram, hs]
  | snapshotComplete => apply execSnapshotComplete_touches <;> simp [neitherTimeNorDram, hs]
  | snapSlow => apply execSnapSlow_touches <;> simp [neitherTimeNorDram, hs]
  | traceEnable => apply execTraceEnable_touches <;> simp [neitherTimeNorDram, hs]
  | counterEccError => apply execCounterEccError_touches <;> simp [neitherTimeNorDram, hs]
  | powerVote => apply execPowerVote_touches <;> simp [neitherTimeNorDram, hs]
  | holdoffExpiry => apply execHoldoffExpiry_touches <;> simp [neitherTimeNorDram, hs]
  | privilegedAnswer => apply execPrivilegedAnswer_touches <;> simp [neitherTimeNorDram, hs]
  | handshakeNoAnswer => apply execHandshakeNoAnswer_touches <;> simp [neitherTimeNorDram, hs]
  | delayExpiry => apply execDelayExpiry_touches <;> simp [neitherTimeNorDram, hs]
  | clockGate => apply execClockGate_touches <;> simp [neitherTimeNorDram, hs]
  | reinitComplete => apply execReinitComplete_touches <;> simp [neitherTimeNorDram, hs]
  | retryWake => apply execRetryWake_touches <;> simp [neitherTimeNorDram, hs]
  | domSelWrite => apply execDomSelWrite_touches <;> simp [neitherTimeNorDram, hs]
  | vddLowOff => apply execVddLowOff_touches <;> simp [neitherTimeNorDram, hs]
  | xtalLost => apply execXtalLost_touches <;> simp [neitherTimeNorDram, hs]
  | estimatorPeriod => apply execEstimatorPeriod_touches <;> simp [neitherTimeNorDram, hs]
  | capWrite => apply execCapWrite_touches <;> simp [neitherTimeNorDram, hs]
  | powerCalStart => apply execPowerCalStart_touches <;> simp [neitherTimeNorDram, hs]
  | powerCalComplete => apply execPowerCalComplete_touches <;> simp [neitherTimeNorDram, hs]
  | useFused => apply execUseFused_touches <;> simp [neitherTimeNorDram, hs]
  | droopCrossing => apply execDroopCrossing_touches <;> simp [neitherTimeNorDram, hs]
  | droopOverrun => apply execDroopOverrun_touches <;> simp [neitherTimeNorDram, hs]
  | thermalSample => apply execThermalSample_touches <;> simp [neitherTimeNorDram, hs]
  | thermtrip => apply execThermtrip_touches <;> simp [neitherTimeNorDram, hs]
  | lineLatch => apply execLineLatch_touches <;> simp [neitherTimeNorDram, hs]
  | lineStatusClear => apply execLineStatusClear_touches <;> simp [neitherTimeNorDram, hs]
  | lineSelWrite => apply execLineSelWrite_touches <;> simp [neitherTimeNorDram, hs]
  | escalationEnd => apply execEscalationEnd_touches <;> simp [neitherTimeNorDram, hs]
  | gntRegParity => apply execGntRegParity_touches <;> simp [neitherTimeNorDram, hs]
  | safeStateEntry => apply execSafeStateEntry_touches <;> simp [neitherTimeNorDram, hs]
  | sequencerSeal => apply execSequencerSeal_touches <;> simp [neitherTimeNorDram, hs]
  | faultSnapshotWrite => apply execFaultSnapshotWrite_touches <;> simp [neitherTimeNorDram, hs]
  | snapSelWrite => apply execSnapSelWrite_touches <;> simp [neitherTimeNorDram, hs]
  | scrubVisit => apply execScrubVisit_touches <;> simp [neitherTimeNorDram, hs]
  | softRepair => apply execSoftRepair_touches <;> simp [neitherTimeNorDram, hs]
  | seamWireCheck => apply execSeamWireCheck_touches <;> simp [neitherTimeNorDram, hs]
  | seamSpareSwitch => apply execSeamSpareSwitch_touches <;> simp [neitherTimeNorDram, hs]
  | seamFlitUncorrectable => apply execSeamFlitUncorrectable_touches <;> simp [neitherTimeNorDram, hs]
  | wearHour => apply execWearHour_touches <;> simp [neitherTimeNorDram, hs]
  | wearSelWrite => apply execWearSelWrite_touches <;> simp [neitherTimeNorDram, hs]
  | hostLinkUp => apply execHostLinkUp_touches <;> simp [neitherTimeNorDram, hs]
  | hostLinkDown => apply execHostLinkDown_touches <;> simp [neitherTimeNorDram, hs]
  | hdmRead => apply execHdmRead_touches <;> simp [neitherTimeNorDram, hs]
  | hdmWrite => apply execHdmWrite_touches <;> simp [neitherTimeNorDram, hs]
  | atsInvalidation => apply execAtsInvalidation_touches <;> simp [neitherTimeNorDram, hs]
  | mailboxGo => apply execMailboxGo_touches <;> simp [neitherTimeNorDram, hs]
  | crownRingDoorbell => apply execCrownRingDoorbell_touches <;> simp [neitherTimeNorDram, hs]
  | crownRingFetchErr => apply execCrownRingFetchErr_touches <;> simp [neitherTimeNorDram, hs]
  | nop => apply execNop_touches <;> simp [neitherTimeNorDram, hs]
  | getVersions => apply execGetVersions_touches <;> simp [neitherTimeNorDram, hs]
  | bundleStage => apply execBundleStage_touches <;> simp [neitherTimeNorDram, hs]
  | bundleDrop => apply execBundleDrop_touches <;> simp [neitherTimeNorDram, hs]
  | ucodeLoad => apply execUcodeLoad_touches <;> simp [neitherTimeNorDram, hs]
  | fwUpdate => apply execFwUpdate_touches <;> simp [neitherTimeNorDram, hs]
  | fwConfirm => apply execFwConfirm_touches <;> simp [neitherTimeNorDram, hs]
  | fwRollback => apply execFwRollback_touches <;> simp [neitherTimeNorDram, hs]
  | fwAbort => apply execFwAbort_touches <;> simp [neitherTimeNorDram, hs]
  | svnCommit => apply execSvnCommit_touches <;> simp [neitherTimeNorDram, hs]
  | ddrRead => apply execDdrRead_touches <;> simp [neitherTimeNorDram, hs]
  | fwSelftestDone => apply execFwSelftestDone_touches <;> simp [neitherTimeNorDram, hs]
  | fwSwitchStart => apply execFwSwitchStart_touches <;> simp [neitherTimeNorDram, hs]
  | fwSwitchComplete => apply execFwSwitchComplete_touches <;> simp [neitherTimeNorDram, hs]
  | confirmTimeout => apply execConfirmTimeout_touches <;> simp [neitherTimeNorDram, hs]
  | fwResyncComplete missed =>
    show Moves _ _ (execFwResyncComplete missed s)
    apply execFwResyncComplete_touches <;> simp [neitherTimeNorDram, hs]
  | checkpointWrite => apply execCheckpointWrite_touches <;> simp [neitherTimeNorDram, hs]
  | crownPairFailure => apply execCrownPairFailure_touches <;> simp [neitherTimeNorDram, hs]
  | takeoverComplete => apply execTakeoverComplete_touches <;> simp [neitherTimeNorDram, hs]
  | doeDiscovery => apply execDoeDiscovery_touches <;> simp [neitherTimeNorDram, hs]
  | getVersion => apply execGetVersion_touches <;> simp [neitherTimeNorDram, hs]
  | getCapabilities => apply execGetCapabilities_touches <;> simp [neitherTimeNorDram, hs]
  | negotiateAlgorithms => apply execNegotiateAlgorithms_touches <;> simp [neitherTimeNorDram, hs]
  | getDigests => apply execGetDigests_touches <;> simp [neitherTimeNorDram, hs]
  | getCertificate => apply execGetCertificate_touches <;> simp [neitherTimeNorDram, hs]
  | challenge => apply execChallenge_touches <;> simp [neitherTimeNorDram, hs]
  | getMeasurements => apply execGetMeasurements_touches <;> simp [neitherTimeNorDram, hs]
  | spdmUnsupportedRequest => apply execSpdmUnsupportedRequest_touches <;> simp [neitherTimeNorDram, hs]
  | doeTimeout => apply execDoeTimeout_touches <;> simp [neitherTimeNorDram, hs]
  | retxGibWrite => apply execRetxGibWrite_touches <;> simp [neitherTimeNorDram, hs]
  | marginCheck => apply execMarginCheck_touches <;> simp [neitherTimeNorDram, hs]
  | ddrEccError => apply execDdrEccError_touches <;> simp [neitherTimeNorDram, hs]
  | ddrScrubVisit => apply execDdrScrubVisit_touches <;> simp [neitherTimeNorDram, hs]
  | dramTempRead => apply execDramTempRead_touches <;> simp [neitherTimeNorDram, hs]
  | powerOnReset => apply execPowerOnReset_touches <;> simp [neitherTimeNorDram, hs]
  | warmReset => apply execWarmReset_touches <;> simp [neitherTimeNorDram, hs]
  | perst => apply execPerst_touches <;> simp [neitherTimeNorDram, hs]
  | bypass => apply execBypass_touches <;> simp [neitherTimeNorDram, hs]
  | idcode => apply execIdcode_touches <;> simp [neitherTimeNorDram, hs]
  | samplePreload => apply execSamplePreload_touches <;> simp [neitherTimeNorDram, hs]
  | extest => apply execExtest_touches <;> simp [neitherTimeNorDram, hs]
  | extestPulse => apply execExtestPulse_touches <;> simp [neitherTimeNorDram, hs]
  | extestTrain => apply execExtestTrain_touches <;> simp [neitherTimeNorDram, hs]
  | clamp => apply execClamp_touches <;> simp [neitherTimeNorDram, hs]
  | highz => apply execHighz_touches <;> simp [neitherTimeNorDram, hs]
  | clkOutEdge => apply execClkOutEdge_touches <;> simp [neitherTimeNorDram, hs]
  | delayReqSend => apply execDelayReqSend_touches <;> simp [neitherTimeNorDram, hs]
  | remoteFault => apply execRemoteFault_touches <;> simp [neitherTimeNorDram, hs]
  | vddAonUp => apply execVddAonUp_touches <;> simp [neitherTimeNorDram, hs]
  | snoop => apply execSnoop_touches <;> simp [neitherTimeNorDram, hs]

/-- A command that can move TIME and is no reset leaves DDR5's units as they were. -/
theorem exec_leaves_dram_of_movesTime (c : Instr) (s : State) (hc : movesTime c = true) : Moves (· ≠ .dram) s (exec c s) := by
  have hs : Touches (· ≠ .dram) s s := Touches.refl _ s
  cases c with
  | registerWrite => apply execRegisterWrite_touches <;> simp [hs]
  | badSizeAccess => apply execBadSizeAccess_touches <;> simp [hs]
  | t80PairCommit => apply execT80PairCommit_touches <;> simp [hs]
  | setTime => apply execSetTime_touches <;> simp [hs]
  | todSentenceReceived => apply execTodSentenceReceived_touches <;> simp [hs]
  | ptpMessageReceive => apply execPtpMessageReceive_touches <;> simp [hs]
  | _ => cases hc

/-- A command that can change DDR5's units and is no reset leaves TIME as it was. -/
theorem exec_leaves_time_of_movesDram (c : Instr) (s : State) (hc : movesDram c = true) : Moves (· ≠ .time) s (exec c s) := by
  have hs : Touches (· ≠ .time) s s := Touches.refl _ s
  cases c with
  | wakeStageComplete => apply execWakeStageComplete_touches <;> simp [hs]
  | wakeStageTimeout => apply execWakeStageTimeout_touches <;> simp [hs]
  | ddrTrainingComplete => apply execDdrTrainingComplete_touches <;> simp [hs]
  | domainEntryComplete => apply execDomainEntryComplete_touches <;> simp [hs]
  | avsAck => apply execAvsAck_touches <;> simp [hs]
  | avsTimeout => apply execAvsTimeout_touches <;> simp [hs]
  | selfRefreshEntry => apply execSelfRefreshEntry_touches <;> simp [hs]
  | bootStepComplete => apply execBootStepComplete_touches <;> simp [hs]
  | _ => cases hc

end Sys2Proof.Machine
end

section
/-! PROOF. O51: TIME and DDR5's units, each moved by a few commands only (R59, R60). -/

namespace Sys2Proof.Machine

theorem Moves.same_of_next {ps : Piece → Prop} {s t : State} {o : Out} (h : Moves ps s o) (ht : o = .next t) (p : Piece) (hp : ¬ ps p) :
    Piece.same s t p := by
  obtain ⟨u, hu, hsame⟩ := h
  cases hu.symm.trans ht
  exact hsame.same p hp

theorem exec_time {c : Instr} {s t : State} (ht : exec c s = .next t) (hr : isReset c = false) (hm : movesTime c = false) :
    t.time = s.time := by
  cases hd : movesDram c with
  | false => exact (exec_leaves_time_dram c s (by simp [hr, hm, hd])).same_of_next ht .time fun h => h.1 rfl
  | true => exact (exec_leaves_time_of_movesDram c s hd).same_of_next ht .time fun h => h rfl

theorem exec_dram {c : Instr} {s t : State} (ht : exec c s = .next t) (hr : isReset c = false) (hd : movesDram c = false) :
    t.dram = s.dram := by
  cases hm : movesTime c with
  | false => exact (exec_leaves_time_dram c s (by simp [hr, hm, hd])).same_of_next ht .dram fun h => h.2 rfl
  | true => exact (exec_leaves_dram_of_movesTime c s hm).same_of_next ht .dram fun h => h rfl

end Sys2Proof.Machine

namespace Sys2Proof

open Sys2Proof.Machine

/-- Settles O51: a command outside the two lists leaves TIME, or DDR5's units, as it was. That PPS_IN_EDGE is outside the first list is
the model's choice: a measurement by PPS_TOD completes when the label of its edge comes (log entry 162). -/
theorem onlyTheseCommandsMoveTime : Obligations.OnlyTheseCommandsMoveTime := by
  unfold Obligations.OnlyTheseCommandsMoveTime
  refine ⟨fun c s t ht => ?_, fun c s t ht => ?_⟩
  · have htime (hr : isReset c = false) (hm : movesTime c = false) : t.time = s.time := exec_time ht hr hm
    cases c with
    | registerWrite | badSizeAccess | t80PairCommit | setTime | todSentenceReceived | ptpMessageReceive
    | warmResetApply | powerRemoval => trivial
    | _ => exact htime rfl rfl
  · have hdram (hr : isReset c = false) (hd : movesDram c = false) : t.dram = s.dram := exec_dram ht hr hd
    cases c with
    | wakeStageComplete | wakeStageTimeout | ddrTrainingComplete | domainEntryComplete | avsAck | avsTimeout
    | selfRefreshEntry | bootStepComplete | warmResetApply | powerRemoval => trivial
    | _ => exact hdram rfl rfl

end Sys2Proof
end

section
/-! PROOF. O2: one idle TIME cycle (R59, log entry 4). -/

namespace Sys2Proof.Machine

theorem step_of_empty {s : State} (h : s.pending = []) : step s = .next (withdrawSteps (idleTick s)) := by
  unfold step
  rw [h]

theorem withdrawSteps_time (s : State) : (withdrawSteps s).time = s.time :=
  Touches.same (ps := (· ≠ .time)) (withdrawSteps_touches nofun nofun nofun (Touches.refl _ s)) .time (by simp)

theorem idleTick_time (s : State) :
    (idleTick s).time = if s.hat.timeStopped then s.time else (s.time + s.rateWord) % 2 ^ 112 := by
  unfold idleTick
  split <;> rfl

theorem idleStep_only (s : State) : Only [.time, .hat, .mtn, .regs, .out] s (withdrawSteps (idleTick s)) :=
  Touches.only (withdrawSteps_touches (by decide) (by decide) (by decide)
    (idleTick_touches (by decide) (by decide) (Touches.refl _ s)))

end Sys2Proof.Machine

namespace Sys2Proof

open Sys2Proof.Machine

/-- Settles O2: the idle step feeds TIME once by the rate word, where TIME runs. -/
theorem idleStepFeedsTime : Obligations.IdleStepFeedsTime := by
  unfold Obligations.IdleStepFeedsTime
  intro s hp
  have honly := idleStep_only s
  have hpending := honly .pending (by decide)
  exact ⟨_, step_of_empty hp, hpending.trans hp, (withdrawSteps_time _).trans (idleTick_time s), honly⟩

end Sys2Proof
end

section
/-! PROOF. O17: REVERT_HOLDOFF where REF_INDEX holds a number of more than four bits (R65), and the page that it then writes. -/

namespace Sys2Proof.Machine

theorem exec_revertHoldoff (e : Fin 16) (s : State) : exec (.revertHoldoff e) s = .next (revert e.val s) := rfl

/-- Entry 0 is QUALIFIED and better than the SELECTED one, whose index REF_INDEX gives as 128: a number that no write of the model
puts into a field of four bits, but that a state may list for it. -/
def wideRefIndex : State :=
  let s := ((((State.reset.wr 0x50 F.hbd0_SERVO_CTRL_REVERTIVE 1).wr 0x50 F.hbd0_SERVO_CTRL_REVERT_HOLDOFF 0).wr 0x50
    F.hbd0_SERVO_STATUS_REF_VALID 1).putQ 0 3).wri 0x51 F.hbd1_REF_CFG_PRIORITY 0 0
  { s with regs := s.regs.enter (F.hbd0_SERVO_STATUS_REF_INDEX.key 0x50 0 0) 128 }

/-- The bit address of TEN_MHZ_STATUS.PRESENT of input 0 on page 0x052, at which QSTATE of an entry 128 would lie. -/
def tenMhzKey : Nat := F.hbd2_TEN_MHZ_STATUS_PRESENT.key 0x52 0 0

theorem tenMhz_of_wideRefIndex : wideRefIndex.regs.at? tenMhzKey = none := by decide +kernel

/-- The entry that was SELECTED turns QUALIFIED, at that address. -/
theorem tenMhz_after_revert : (revert 0 wideRefIndex).regs.at? tenMhzKey = some 3 := by decide +kernel

end Sys2Proof.Machine

namespace Sys2Proof

open Sys2Proof.Machine

/-- Refutes O17: REVERT_HOLDOFF turns the old entry, the one that REF_INDEX names, QUALIFIED. The clause's frame lists pages 0x050 and
0x051, and no hypothesis of it bounds REF_INDEX: where it reads 128, QSTATE of that entry lies on page 0x052. -/
theorem not_referenceInputsComplete : ¬ Obligations.ReferenceInputsComplete := by
  unfold Obligations.ReferenceInputsComplete
  intro h
  obtain ⟨-, -, -, -, -, hrevert, -⟩ := h
  have hbetter : wideRefIndex.refCfg F.hbd1_REF_CFG_PRIORITY (0 : Fin 16).val <
      wideRefIndex.refCfg F.hbd1_REF_CFG_PRIORITY wideRefIndex.refIndex := by decide +kernel
  obtain ⟨t, ht, -, -, -, -, -, -, -, honly⟩ := hrevert 0 wideRefIndex (by decide +kernel) (by decide +kernel) (by decide +kernel)
    (by decide +kernel) (by decide +kernel) hbetter (by decide +kernel)
  rw [exec_revertHoldoff] at ht
  have hte := Host.Outcome.next.inj ht
  have hkept : t.regs.at? tenMhzKey = wideRefIndex.regs.at? tenMhzKey := honly tenMhzKey (by decide)
  rw [← hte, tenMhz_of_wideRefIndex] at hkept
  exact absurd (tenMhz_after_revert.symm.trans hkept) (by decide)

end Sys2Proof
end

section
/-! SUPPORT. Registers at a set of bit addresses, as an operation leaves them. -/

namespace Sys2Proof.Machine

/-- At the bit addresses of a set every register is as it was. -/
def RegsKept (K : Nat → Prop) (s t : State) : Prop := ∀ k, K k → t.regs.at? k = s.regs.at? k

/-- None of the bit addresses lies in the header of a page. -/
def OffHeader (K : Nat → Prop) (page : Nat) : Prop := ∀ k, K k → k / 0x400 ≠ page * 0x20

section
variable {K : Nat → Prop} {s t : State}

theorem RegsKept.refl (K : Nat → Prop) (s : State) : RegsKept K s s := fun _ _ => rfl

theorem RegsKept.trans {u : State} (h : RegsKept K s t) (h' : RegsKept K t u) : RegsKept K s u :=
  fun k hk => (h' k hk).trans (h k hk)

theorem RegsKept.congr {u : State} (h : RegsKept K s t) (hr : u.regs = t.regs) : RegsKept K s u := fun k hk => by rw [hr, h k hk]

theorem RegsKept.of_regs_eq (h : t.regs = s.regs) : RegsKept K s t := (RegsKept.refl K s).congr h

theorem RegsKept.rdx (h : RegsKept K s t) {page : Nat} {f : Fld} {i j : Nat} (hk : K (f.key page i j)) :
    t.rdx page f i j = s.rdx page f i j := by
  unfold State.rdx SMap.val
  rw [h _ hk]

theorem RegsKept.rd (h : RegsKept K s t) {page : Nat} {f : Fld} (hk : K (f.key page 0 0)) : t.rd page f = s.rd page f := h.rdx hk

theorem RegsKept.on (h : RegsKept K s t) {page : Nat} {f : Fld} (hk : K (f.key page 0 0)) : t.on page f = s.on page f := by
  unfold State.on
  rw [h.rd hk]

theorem RegsKept.rdi (h : RegsKept K s t) {page : Nat} {f : Fld} {i : Nat} (hk : K (f.key page i 0)) :
    t.rdi page f i = s.rdi page f i := h.rdx hk

theorem RegsKept.mono {L : Nat → Prop} (h : RegsKept K s t) (hl : ∀ k, L k → K k) : RegsKept L s t := fun k hk => h k (hl k hk)

/-- Frames by pages are frames of this kind. -/
theorem regsOnly_iff_regsKept {pages : List Nat} : RegsOnly pages s t ↔ RegsKept (pageOfKey · ∉ pages) s t := Iff.rfl

theorem RegsKept.wrx (h : RegsKept K s t) {page : Nat} {f : Fld} {i j : Nat} (hk : ¬ K (f.key page i j)) (v : Nat) :
    RegsKept K s (t.wrx page f i j v) :=
  h.trans fun _ hk' => State.at?_wrx_of_ne t page f i j v fun he => hk (he ▸ hk')

theorem RegsKept.wr (h : RegsKept K s t) {page : Nat} {f : Fld} (hk : ¬ K (f.key page 0 0)) (v : Nat) :
    RegsKept K s (t.wr page f v) := h.wrx hk v

theorem RegsKept.wri (h : RegsKept K s t) {page : Nat} {f : Fld} {i : Nat} (hk : ¬ K (f.key page i 0)) (v : Nat) :
    RegsKept K s (t.wri page f i v) := h.wrx hk v

theorem RegsKept.bumpi (h : RegsKept K s t) {page : Nat} {f : Fld} {i : Nat} (hk : ¬ K (f.key page i 0)) (n : Nat) :
    RegsKept K s (t.bumpi page f i n) := (h.wri hk _).congr (State.noteCount_regs _ page f i n)

theorem RegsKept.set1 (h : RegsKept K s t) {page : Nat} {f : Fld} (hk : ¬ K (f.key page 0 0)) : RegsKept K s (t.set1 page f) :=
  (h.wr hk 1).congr (State.mark_regs _ _ _)

theorem RegsKept.vector (h : RegsKept K s t) (v : Nat) : RegsKept K s (t.vector v) := h.congr (State.vector_regs t v)

theorem RegsKept.foldl {α : Type} {f : State → α → State} {l : List α} (h : RegsKept K s t)
    (hf : ∀ u, ∀ x ∈ l, RegsKept K s u → RegsKept K s (f u x)) : RegsKept K s (l.foldl f t) := by
  induction l generalizing t with
  | nil => exact h
  | cons x r ih => exact ih (hf t x (by simp) h) fun u y hy => hf u y (by simp [hy])

theorem RegsKept.given (h : RegsKept K s t) {c : Bool} {f : State → State} (hf : c = true → RegsKept K s (f t)) :
    RegsKept K s (t.given c f) := by
  cases c
  · exact h
  · exact hf rfl

/-- A field whose offset lies in the header has its bit address there. -/
theorem Fld.key_header {f : Fld} (hf : f.off * 8 + f.lo < 0x400) (page : Nat) : f.key page 0 0 / 0x400 = page * 0x20 := by
  unfold Fld.key
  omega

theorem RegsKept.wrHeader (h : RegsKept K s t) {page : Nat} (hh : OffHeader K page) {f : Fld} (hf : f.off * 8 + f.lo < 0x400)
    (v : Nat) : RegsKept K s (t.wr page f v) := h.wr (fun hk => hh _ hk (Fld.key_header hf page)) v

theorem RegsKept.setBitHeader (h : RegsKept K s t) {page : Nat} (hh : OffHeader K page) {f : Fld} (hf : f.off * 8 + f.lo < 0x400)
    {b : Nat} (hb : b < 64) : RegsKept K s (t.setBit page f b) := by
  refine RegsKept.congr ?_ (State.mark_regs _ _ _)
  unfold State.putBitAt
  rw [Nat.div_eq_of_lt hb]
  exact h.wrHeader hh hf _

/-- A cause that fires writes its page's header alone (R48, R454). -/
theorem RegsKept.raise (h : RegsKept K s t) {page : Nat} (hh : OffHeader K page) {cause : Nat} (hc : cause < 64) :
    RegsKept K s (t.raise page cause) := by
  by_cases hq : t.hides page cause
  · exact (h.setBitHeader hh (f := F.hdr_ERR_STATUS_QUENCHED) (by decide) hc).congr (State.raise_of_hides hq).1
  · rw [State.raise_of_not_hides hq]
    exact ((h.setBitHeader hh (f := F.hdr_ERR_STATUS_REAL) (by decide) hc).wrHeader hh (by decide) _).congr
      (State.setReal_regs t page cause)

theorem RegsKept.wrPair (h : RegsKept K s t) {page : Nat} {ns frac : Fld} (hns : ¬ K (ns.key page 0 0)) (hfrac : ¬ K (frac.key page 0 0))
    (v : T80) : RegsKept K s (t.wrPair page ns frac v) := (h.wr hns _).wr hfrac _

end

theorem State.raise_hat (s : State) (page cause : Nat) : (s.raise page cause).hat = s.hat :=
  (State.raise_touches (ps := (· ≠ .hat)) nofun nofun nofun nofun (Touches.refl _ s)).same .hat (by simp)

theorem State.vector_hat (s : State) (v : Nat) : (s.vector v).hat = s.hat :=
  (State.vector_touches (ps := (· ≠ .hat)) nofun nofun (Touches.refl _ s)).same .hat (by simp)

end Sys2Proof.Machine
end

section
/-! SUPPORT. What the servo and the references leave: the registers that only a host write, a slew or a rule of their own sets, and
the Hatband's standing marks (R64 to R85). -/

namespace Sys2Proof.Machine

/-- The bit addresses of MODE, SLEWING, EVER_TRACEABLE, STEP_COUNT and PRIMARY, which no loss or selection of a reference and no
change of state or TQ writes. -/
def settingKeys : List Nat :=
  [F.hbd0_SERVO_CTRL_MODE.key 0x50 0 0, F.hbd0_SERVO_STATUS_SLEWING.key 0x50 0 0, F.hbd0_SERVO_STATUS_EVER_TRACEABLE.key 0x50 0 0,
    F.hbd0_STEP_COUNT.key 0x50 0 0, F.hbd5_GROUP_PRIMARY_PRIMARY.key 0x55 0 0]

/-- Those and the bit addresses of UNCERT_NS and OUT_OF_BOUND, which a change of state does not write. -/
def holdoverKeys : List Nat :=
  [F.hbd0_HOLDOVER_STATUS_UNCERT_NS.key 0x50 0 0, F.hbd0_HOLDOVER_STATUS_OUT_OF_BOUND.key 0x50 0 0] ++ settingKeys

/-- Those and the bit address of STATE, which a change of TQ does not write. -/
def servoKeys : List Nat := F.hbd0_SERVO_STATUS_STATE.key 0x50 0 0 :: holdoverKeys

theorem mem_servoKeys_of_setting {k : Nat} (h : k ∈ settingKeys) : k ∈ servoKeys :=
  List.mem_cons_of_mem _ (List.mem_append_right _ h)

theorem offHeader_servoKeys : OffHeader (· ∈ servoKeys) 0x50 := by
  unfold OffHeader
  decide

theorem offHeader_settingKeys : OffHeader (· ∈ settingKeys) 0x50 := fun k hk =>
  offHeader_servoKeys k (mem_servoKeys_of_setting hk)

/-! ## The code of the time base -/

theorem setTq_regsKept (code : Nat) (s : State) : RegsKept (· ∈ servoKeys) s (setTq code s) := by
  unfold setTq
  split
  · exact RegsKept.refl _ s
  · extract_lets e hat s1 s2
    have h1 : RegsKept (· ∈ servoKeys) s s1 := RegsKept.of_regs_eq rfl
    have h2 : RegsKept (· ∈ servoKeys) s s2 :=
      (((h1.wr (by decide) _).wrPair (by decide) (by decide) _).wr (by decide) _).vector 49
    split
    · exact (h2.raise offHeader_servoKeys (by decide)).vector 51
    · split
      · exact h2.vector 51
      · exact h2

/-- A change of TQ notes when it takes effect, and nothing else, besides registers (R118). -/
theorem setTq_hat (code : Nat) (s : State) : ∃ l, (setTq code s).hat = { s.hat with tqChanges := l } := by
  unfold setTq
  split
  · exact ⟨_, rfl⟩
  · extract_lets e hat s1 s2
    have h2 : s2.hat = { s.hat with tqChanges := s.hat.tqChanges ++ [(e, code)] } := State.vector_hat _ _
    refine ⟨_, Eq.trans ?_ h2⟩
    split
    · rw [State.vector_hat, State.raise_hat]
    · split
      · exact State.vector_hat _ _
      · rfl

/-! ## The relation -/

/-- The registers of `settingKeys` are as they were, and so are a switch-over that waits, the offset left to slew and the Band
processor's stop; a peer entry that was FREE still is. -/
structure Steady (s t : State) : Prop where
  regs : RegsKept (· ∈ settingKeys) s t
  switchPending : t.hat.switchPending = s.hat.switchPending
  bandStopped : t.hat.bandStopped = s.hat.bandStopped
  slewLeft : t.hat.slewLeft = s.hat.slewLeft
  freed : ∀ k, s.hat.peers.val {} k = {} → t.hat.peers.val {} k = {}

section
variable {s t : State}

theorem Steady.refl (s : State) : Steady s s := ⟨RegsKept.refl _ s, rfl, rfl, rfl, fun _ => id⟩

theorem Steady.upd_hat (h : Steady s t) {x : Hatband} (hp : x.switchPending = t.hat.switchPending)
    (hb : x.bandStopped = t.hat.bandStopped) (hl : x.slewLeft = t.hat.slewLeft)
    (hf : ∀ k, t.hat.peers.val {} k = {} → x.peers.val {} k = {}) : Steady s { t with hat := x } :=
  ⟨h.regs.congr rfl, hp.trans h.switchPending, hb.trans h.bandStopped, hl.trans h.slewLeft, fun k hk => hf k (h.freed k hk)⟩

theorem Steady.of_hat_eq {u : State} (h : Steady s t) (hr : RegsKept (· ∈ settingKeys) s u) (hh : u.hat = t.hat) : Steady s u :=
  ⟨hr, hh ▸ h.switchPending, hh ▸ h.bandStopped, hh ▸ h.slewLeft, hh ▸ h.freed⟩

theorem Steady.wr (h : Steady s t) {page : Nat} {f : Fld} (hk : f.key page 0 0 ∉ settingKeys) (v : Nat) : Steady s (t.wr page f v) :=
  h.of_hat_eq (h.regs.wr hk v) rfl

theorem Steady.wri (h : Steady s t) {page : Nat} {f : Fld} {i : Nat} (hk : f.key page i 0 ∉ settingKeys) (v : Nat) :
    Steady s (t.wri page f i v) := h.of_hat_eq (h.regs.wri hk v) rfl

theorem Steady.bumpi (h : Steady s t) {page : Nat} {f : Fld} {i : Nat} (hk : f.key page i 0 ∉ settingKeys) (n : Nat) :
    Steady s (t.bumpi page f i n) := h.of_hat_eq (h.regs.bumpi hk n) (State.bumpi_hat _ _ _ _ _)

theorem Steady.vector (h : Steady s t) (v : Nat) : Steady s (t.vector v) := h.of_hat_eq (h.regs.vector v) (State.vector_hat t v)

theorem Steady.raise (h : Steady s t) {cause : Nat} (hc : cause < 64) : Steady s (t.raise 0x50 cause) :=
  h.of_hat_eq (h.regs.raise offHeader_settingKeys hc) (State.raise_hat t _ _)

theorem Steady.given (h : Steady s t) {c : Bool} {f : State → State} (hf : Steady s (f t)) : Steady s (t.given c f) := by
  cases c
  · exact h
  · exact hf

theorem Steady.ite {c : Prop} [Decidable c] {a b : State} (ha : Steady s a) (hb : Steady s b) : Steady s (if c then a else b) := by
  split
  · exact ha
  · exact hb

theorem Steady.foldl {α : Type} {f : State → α → State} {l : List α} (h : Steady s t) (hf : ∀ u x, Steady s u → Steady s (f u x)) :
    Steady s (l.foldl f t) := by
  induction l generalizing t with
  | nil => exact h
  | cons x r ih => exact ih (hf t x h)

/-! ## State and holdover -/

theorem Steady.setTq (h : Steady s t) (code : Nat) : Steady s (setTq code t) := by
  obtain ⟨l, hl⟩ := setTq_hat code t
  have hr : RegsKept (· ∈ settingKeys) t (Machine.setTq code t) :=
    (setTq_regsKept code t).mono fun _ => mem_servoKeys_of_setting
  exact (h.upd_hat (x := { t.hat with tqChanges := l }) rfl rfl rfl fun _ => id).of_hat_eq (h.regs.trans hr) hl

theorem Steady.refreshTq (h : Steady s t) : Steady s (refreshTq t) := h.setTq _

theorem Steady.setServo (h : Steady s t) (st : Nat) : Steady s (setServo st t) := by
  unfold Machine.setServo
  exact .ite h.refreshTq ((h.wr (by decide) _).vector _).refreshTq

theorem Steady.recompute (h : Steady s t) : Steady s (recompute t) :=
  (((h.wr (by decide) _).wr (by decide) _).wr (by decide) _).refreshTq

theorem Steady.breakAgreement (h : Steady s t) : Steady s (breakAgreement t) :=
  (h.upd_hat (x := { t.hat with agreeing := none }) rfl rfl rfl fun _ => id).wr (by decide) _

theorem Steady.writeHistory (h : Steady s t) (slope : Nat) (valid : Bool) : Steady s (writeHistory slope valid t) := by
  unfold Machine.writeHistory
  refine h.given ?_
  extract_lets n r0 r src h' s1
  have hslot : (if n % 2 = 0 then F.hbd3_HIST_STATUS_SLOT0_VALID else F.hbd3_HIST_STATUS_SLOT1_VALID).key 0x53 0 0 ∉ settingKeys := by
    split <;> decide
  have h1 : Steady s s1 := by
    unfold s1
    split
    · exact h.upd_hat rfl rfl rfl fun _ => id
    · exact h.upd_hat rfl rfl rfl fun _ => id
  exact ((((h1.wr hslot _).wr (by decide) _).wr (by decide) _).wr (by decide) _).vector _

theorem Steady.enterHoldover (h : Steady s t) : Steady s (enterHoldover t) :=
  h.given ((((h.writeHistory _ _).wr (by decide) _).vector _).breakAgreement.recompute.raise (by decide))

/-! ## References -/

/-- REF_STATUS of any entry, and even of one past the sixteen, lies at none of those addresses. -/
theorem refStatusKey_notMem : ∀ f ∈ [F.hbd1_REF_STATUS_QSTATE, F.hbd1_REF_STATUS_LAST_FAULT, F.hbd1_REF_STATUS_DISQUAL_COUNT],
    ∀ e, f.key 0x51 e 0 ∉ settingKeys := by
  intro f hf e
  simp only [List.mem_cons, List.not_mem_nil, or_false] at hf
  rcases hf with rfl | rfl | rfl
  all_goals
    simp only [settingKeys, Fld.key, F.hbd0_SERVO_CTRL_MODE, F.hbd0_SERVO_STATUS_SLEWING, F.hbd0_SERVO_STATUS_EVER_TRACEABLE,
      F.hbd0_STEP_COUNT, F.hbd5_GROUP_PRIMARY_PRIMARY, F.hbd1_REF_STATUS_QSTATE, F.hbd1_REF_STATUS_LAST_FAULT,
      F.hbd1_REF_STATUS_DISQUAL_COUNT, List.mem_cons, List.not_mem_nil, or_false]
    omega

theorem Steady.putQ (h : Steady s t) (e q : Nat) : Steady s (t.putQ e q) := h.wri (refStatusKey_notMem _ (by simp) e) q

theorem Steady.putRef (h : Steady s t) (e : Nat) (r : RefRec) : Steady s (t.putRef e r) := h.upd_hat rfl rfl rfl fun _ => id

theorem Steady.freePeer (h : Steady s t) (port i : Nat) : Steady s (t.putPeer port i {}) := by
  refine h.upd_hat rfl rfl rfl fun k hk => ?_
  rw [SMap.val_put]
  split
  · rfl
  · exact hk

theorem Steady.selectRef (h : Steady s t) : Steady s (selectRef t) := by
  unfold Machine.selectRef
  refine .ite h ?_
  extract_lets best
  clear_value best
  cases best with
  | none => exact h
  | some e =>
    dsimp -zeta only
    extract_lets s1 src s2
    have h2 : Steady s s2 :=
      ((((h.putQ e 4).wr (by decide) _).wr (by decide) _).vector 50).upd_hat (x := s2.hat) rfl rfl rfl fun _ => id
    exact .ite (h2.setServo 2).breakAgreement h2

theorem Steady.markFail (h : Steady s t) (e cause : Nat) : Steady s (markFail e cause t) :=
  (((h.putRef e _).wri (refStatusKey_notMem _ (by simp) e) _).bumpi (refStatusKey_notMem _ (by simp) e) _).raise (by decide)

theorem Steady.silenceIdle (h : Steady s t) (e cause : Nat) : Steady s (silenceIdle e cause t) :=
  .ite ((h.putQ e 1).markFail e cause) (.ite ((h.putQ e 1).putRef e _) h)

theorem Steady.dropPeer (h : Steady s t) (port i : Nat) : Steady s (dropPeer port i t) :=
  ((h.freePeer port i).vector 53).foldl fun _ r hu => .ite hu (hu.silenceIdle r 9)

theorem Steady.dropAged (h : Steady s t) (e : Nat) : Steady s (dropAged e t) := by
  unfold Machine.dropAged
  extract_lets port
  split
  · next i _ => exact .ite (h.dropPeer port i) h
  · exact h

theorem Steady.deselect (h : Steady s t) (e q : Nat) : Steady s (deselect e q t) := by
  unfold Machine.deselect
  exact .ite (((((h.putQ e q).wr (by decide) 0).vector 50).dropAged e).putRef e _) (h.putQ e q)

theorem Steady.switched (h : Steady s t) (e : Nat) : Steady s (switched e t) := h.upd_hat rfl rfl rfl fun _ => id

theorem Steady.afterLoss (h : Steady s t) (e : Nat) : Steady s (afterLoss e t) := by
  have h2 : Steady s (Machine.selectRef (Machine.breakAgreement t)) := h.breakAgreement.selectRef
  exact .ite (h2.switched e) (.ite (h2.setServo 1) (.ite h2.enterHoldover h2.refreshTq))

theorem Steady.failRef (h : Steady s t) (e cause : Nat) : Steady s (failRef e cause t) := by
  have h1 : Steady s (Machine.markFail e cause (Machine.deselect e 2 t)) := (h.deselect e 2).markFail e cause
  have h2 := Steady.ite (c := (Machine.markFail e cause (Machine.deselect e 2 t)).silentRef e = true) (h1.putQ e 1) h1
  exact .ite (h2.afterLoss e) h2

theorem Steady.silenceRef (h : Steady s t) (e cause : Nat) : Steady s (silenceRef e cause t) :=
  .ite (h.failRef e cause) (h.silenceIdle e cause)

theorem Steady.settleRef (h : Steady s t) (e : Nat) : Steady s (settleRef e t) :=
  .ite h (.ite (.ite h (.ite ((h.deselect e 5).afterLoss e) (h.putQ e 5)))
    (.ite ((h.putQ e _).putRef e {}) (.ite (h.silenceRef e _) (.ite (h.putQ e 2) h))))

end

end Sys2Proof.Machine
end

section
/-! SUPPORT. The registers that a step of TIME leaves: those of the pages before Ledger's, but for STEP_COUNT and STEPPED (R79, R377). -/

namespace Sys2Proof.Machine

/-- A bit address of a page before Ledger's. -/
def beforeLedger (k : Nat) : Prop := k < 0x70 * 0x8000

theorem offHeader_beforeLedger {page : Nat} (hp : 0x70 ≤ page) : OffHeader beforeLedger page := fun k hk => by
  unfold beforeLedger at hk
  omega

theorem not_beforeLedger_key {page : Nat} (hp : 0x70 ≤ page) (f : Fld) (i j : Nat) : ¬ beforeLedger (f.key page i j) := by
  unfold beforeLedger Fld.key
  omega

theorem le_ldgs (n : Nat) : 0x70 ≤ ldgs n := by
  unfold ldgs
  omega

theorem SMap.at?_put_of_ne {α : Type} [DecidableEq α] (d : α) (m : SMap α) {j k : Nat} (h : j ≠ k) (v : α) :
    (SMap.put d m k v).at? j = m.at? j := by
  unfold SMap.put
  split
  · exact SMap.at?_del_of_ne m h
  · rw [SMap.at?_enter, if_neg h]

section
variable {s t : State}

theorem RegsKept.ite {K : Nat → Prop} {a b : State} {c : Prop} [Decidable c] (ha : RegsKept K s a) (hb : RegsKept K s b) :
    RegsKept K s (if c then a else b) := by
  split
  · exact ha
  · exact hb

theorem RegsKept.addCount {K : Nat → Prop} (h : RegsKept K s t) {addr : Nat} (hk : ¬ K (addr * 8)) (n : Nat) (at_ : T80) :
    RegsKept K s (t.addCount addr n at_) := by
  unfold State.addCount
  split
  · exact h
  · have h1 (v : Nat) : RegsKept K s { t with regs := t.regs.put 0 (addr * 8) v } :=
      h.trans fun k hk' => SMap.at?_put_of_ne 0 t.regs (by rintro rfl; exact hk hk') v
    extract_lets s1
    split
    · exact .ite ((h1 _).congr rfl) (h1 _)
    · exact h1 _

/-- An event of no fixed counter is counted by general counters alone, whose pages lie far behind (R391, R394). -/
theorem RegsKept.count (h : RegsKept beforeLedger s t) {event : Nat} (inst : Nat) (hfix : counterAddr event inst = none)
    (hrx : event ≠ 0x0101) (htx : event ≠ 0x0103) : RegsKept beforeLedger s (t.count event inst) := by
  unfold State.count
  simp only [hfix, if_neg hrx, if_neg htx]
  refine h.foldl fun u g _ hu => hu.addCount ?_ _ _
  unfold beforeLedger
  omega

theorem RegsKept.wrLedger (h : RegsKept beforeLedger s t) {page : Nat} (hp : 0x70 ≤ page) (f : Fld) (v : Nat) :
    RegsKept beforeLedger s (t.wr page f v) := h.wr (not_beforeLedger_key hp f 0 0) v

theorem RegsKept.raiseLedger (h : RegsKept beforeLedger s t) {page : Nat} (hp : 0x70 ≤ page) {cause : Nat} (hc : cause < 64) :
    RegsKept beforeLedger s (t.raise page cause) := h.raise (offHeader_beforeLedger hp) hc

theorem RegsKept.putRecord (h : RegsKept beforeLedger s t) (n : Nat) (r : LRec) : RegsKept beforeLedger s (putRecord n r t) :=
  RegsKept.count (RegsKept.wrLedger (t := t.putStream n _) (h.congr rfl) (le_ldgs n) _ _) 0 (by decide) (by decide) (by decide)

theorem RegsKept.putGap (h : RegsKept beforeLedger s t) (n cause fromNs toNs tq lost : Nat) :
    RegsKept beforeLedger s (putGap n cause fromNs toNs tq lost t) := by
  unfold Machine.putGap
  extract_lets s1
  have h1 : RegsKept beforeLedger s s1 := h.putRecord n _
  have h2 (x : Stream) : RegsKept beforeLedger s ((s1.putStream n x).bumpi (ldgs n) F.ldgs_GAPS 0) :=
    RegsKept.bumpi (t := s1.putStream n x) (h1.congr rfl) (not_beforeLedger_key (le_ldgs n) _ 0 0) 1
  exact ((h2 _).count 0 (by decide) (by decide) (by decide)).vector _

theorem reserve_regsKept {n len : Nat} (he : reserve n len s = some t) : RegsKept beforeLedger s t := by
  have h (v : Nat) : RegsKept beforeLedger s (s.wr (ldgs n) F.ldgs_CR_HEAD v) := (RegsKept.refl _ s).wrLedger (le_ldgs n) _ v
  unfold reserve at he
  extract_lets size tail head at he
  split at he
  · cases he
  · split at he
    · cases he
    · cases he
      exact (h _).congr rfl

theorem RegsKept.closeBlock (h : RegsKept beforeLedger s t) (n closeNs : Nat) : RegsKept beforeLedger s (closeBlock n closeNs t) := by
  unfold Machine.closeBlock
  extract_lets x bytes len seq head root link off lost full
  split
  · exact h
  · split
    · next s1 he =>
      extract_lets y s2
      have h1 : RegsKept beforeLedger s s1 := h.trans (reserve_regsKept he)
      have h2 : RegsKept beforeLedger s s2 := RegsKept.wrLedger (h1.congr rfl) (le_ldgs n) _ _
      have h3 := h2.foldl (l := List.range 6) (f := fun u j => u.wri (ldgs n) F.ldgs_HEAD_LINK j (leVal (slice link (8 * j) 8)))
        fun u j _ hu => hu.wri (not_beforeLedger_key (le_ldgs n) _ _ _) _
      exact h3.congr rfl
    · have h1 : RegsKept beforeLedger s lost := RegsKept.wrLedger (h.congr rfl) (le_ldgs n) _ _
      have h2 : RegsKept beforeLedger s full := .ite h1 (h1.raiseLedger (by decide) (by decide))
      exact ((h2.raiseLedger (by decide) (by decide)).vector _).putGap n 2 _ _ _ _

theorem RegsKept.closeAll (h : RegsKept beforeLedger s t) (closeNs : Nat) : RegsKept beforeLedger s (closeAll closeNs t) :=
  h.foldl fun _ n _ hu => hu.closeBlock n closeNs

theorem RegsKept.beginAnchor (h : RegsKept beforeLedger s t) (d : Draft) : RegsKept beforeLedger s (beginAnchor d t) := by
  unfold Machine.beginAnchor refreshSigning
  exact RegsKept.wrLedger (page := 0x70) (h.congr rfl) (by decide) _ _

/-- A step of TIME has Ledger close every block and draft its anchor on pages of its own and DDR5's (R377). -/
theorem ledgerStep_regsKept (delta : Int) (s : State) : RegsKept beforeLedger s (ledgerStep delta s) := by
  unfold ledgerStep
  refine .ite (RegsKept.refl _ s) ?_
  extract_lets s1
  have h1 : RegsKept beforeLedger s s1 := (RegsKept.refl _ s).closeAll _
  exact .ite h1 (h1.beginAnchor _)

end

end Sys2Proof.Machine
end

section
/-! SUPPORT. What a change of state, of MODE and of TIME does and leaves (R73 to R79, R85). -/

namespace Sys2Proof.Machine

/-- A command moves no part but those that its meaning may touch. -/
theorem only_of_exec {ps : List Piece} {c : Instr} {s t : State} (he : exec c s = .next t) (h : Moves (· ∈ ps) s (exec c s)) :
    Only ps s t := h.same_of_next he

theorem State.given_of {s : State} {c : Bool} (h : c = true) (f : State → State) : s.given c f = f s := if_pos h

theorem State.on_wakeClock (s : State) (q p : Nat) (f : Fld) : (s.wakeClock q).on p f = s.on p f := by
  unfold State.on
  rw [State.rd_wakeClock]

theorem State.wakeClock_hat (s : State) (page : Nat) : (s.wakeClock page).hat = s.hat := by rw [State.wakeClock_eq]

/-! ## STATE -/

theorem servo_setTq (code : Nat) (s : State) : (setTq code s).servo = s.servo := (setTq_regsKept code s).rd (by decide)

theorem servo_refreshTq (s : State) : (refreshTq s).servo = s.servo := servo_setTq _ s

theorem servo_setServo {st : Nat} (hst : st < 8) (s : State) : (setServo st s).servo = st := by
  unfold setServo
  split
  · next h => exact (servo_refreshTq s).trans h
  · rw [servo_refreshTq, State.servo, State.rd_vector, State.rd_wr_self]
    exact Nat.mod_eq_of_lt hst

theorem setServo_regsKept (st : Nat) (s : State) : RegsKept (· ∈ holdoverKeys) s (setServo st s) := by
  have htq (u : State) : RegsKept (· ∈ holdoverKeys) u (refreshTq u) :=
    (setTq_regsKept _ u).mono fun _ hk => List.mem_cons_of_mem _ hk
  exact .ite (htq s) ((((RegsKept.refl _ s).wr (by decide) st).vector 48).trans (htq _))

theorem setServo_hat (st : Nat) (s : State) : ∃ l, (setServo st s).hat = { s.hat with tqChanges := l } := by
  unfold setServo
  split
  · exact setTq_hat _ s
  · obtain ⟨l, hl⟩ := setTq_hat (((s.wr 0x50 F.hbd0_SERVO_STATUS_STATE st).vector 48).timeTq)
      ((s.wr 0x50 F.hbd0_SERVO_STATUS_STATE st).vector 48)
    exact ⟨l, by rw [refreshTq, hl, State.vector_hat]; rfl⟩

/-- R80: what HOLDOVER_RECOMPUTE stores of the uncertainty. -/
theorem uncert_recompute (s : State) : (recompute s).rd 0x50 F.hbd0_HOLDOVER_STATUS_UNCERT_NS =
    sat 32 ((s.uncNum + uncDen - 1) / uncDen) % 2 ^ 32 := by
  unfold recompute
  extract_lets u sigma
  rw [refreshTq, (setTq_regsKept _ _).rd (by decide), State.rd_wr_of_ne _ _ (by decide), State.rd_wr_of_ne _ _ (by decide),
    State.rd_wr_self]
  rfl

theorem servo_recompute (s : State) : (recompute s).servo = s.servo := by
  unfold recompute
  rw [servo_refreshTq]
  unfold State.servo
  rw [State.rd_wr_of_ne _ _ (by decide), State.rd_wr_of_ne _ _ (by decide), State.rd_wr_of_ne _ _ (by decide)]

theorem servo_breakAgreement (s : State) : (breakAgreement s).servo = s.servo :=
  (State.rd_wr_of_ne _ _ (by decide)).trans (State.rdx_congr rfl _ _ 0 0)

theorem servo_raise (s : State) {cause : Nat} (hc : cause < 64) : (s.raise 0x50 cause).servo = s.servo :=
  ((RegsKept.refl (· ∈ servoKeys) s).raise offHeader_servoKeys hc).rd (by decide)

/-- R83: TRACEABLE turns HOLDOVER. -/
theorem servo_enterHoldover {s : State} (h : s.servo = 3) : (enterHoldover s).servo = 4 := by
  unfold enterHoldover
  rw [State.given_of (by simp [h])]
  rw [servo_raise _ (by decide), servo_recompute, servo_breakAgreement, State.servo, State.rd_vector, State.rd_wr_self]
  rfl

/-! ## MODE -/

theorem Steady.mode {s t : State} (h : Steady s t) : t.mode = s.mode := h.regs.rd (by decide)

theorem mode_stopSlew (s : State) : (stopSlew s).mode = s.mode :=
  (State.rd_wr_of_ne _ _ (by decide)).trans (State.rdx_congr rfl _ _ 0 0)

theorem mode_changeMode {m : Nat} (hm : m < 4) (h3 : m ≠ 3) (s : State) : (changeMode m s).mode = m := by
  unfold changeMode
  split
  · next h => exact (h.resolve_left h3).symm
  · extract_lets s1 src s2 e t r s3
    have h1 : s1.mode = m := (State.rd_wr_self s 0x50 _ m).trans (Nat.mod_eq_of_lt hm)
    split
    · exact ((Steady.refl s1).upd_hat (x := { s1.hat with fresh := true }) rfl rfl rfl fun _ => id).breakAgreement.mode.trans h1
    · have h2 : s2.mode = m := (mode_stopSlew s1).trans h1
      have h3 : Steady s2 s3 :=
        .ite ((((Steady.refl s2).deselect e 3).breakAgreement.putRef e _).settleRef e) (Steady.refl s2)
      exact (Steady.ite h3.enterHoldover (.ite (h3.setServo 1) h3.refreshTq)).mode.trans h2

/-! ## TIME -/

theorem key_notMem_settingKeys {page : Nat} (hp : 0x56 ≤ page) (f : Fld) (i j : Nat) : f.key page i j ∉ settingKeys := by
  have hlow : ∀ k ∈ settingKeys, k < 0x56 * 0x8000 := by decide
  intro hk
  have := hlow _ hk
  unfold Fld.key at this
  omega

section
variable {s t : State}

theorem Steady.refreshGrid (h : Steady s t) (g : Nat) : Steady s (refreshGrid g t) := by
  have hw (v : Nat) : Steady s (t.wr (0x140 + g) F.rel_REL_STATUS_GRID_UNLOCKED v) :=
    h.wr (key_notMem_settingKeys (by omega) _ 0 0) v
  have hh : OffHeader (· ∈ settingKeys) (0x140 + g) := by
    have hlow : ∀ k ∈ settingKeys, k < 0x56 * 0x8000 := by decide
    intro k hk
    have := hlow k hk
    omega
  exact .ite ((hw 1).of_hat_eq ((hw 1).regs.raise hh (by decide)) (State.raise_hat _ _ _)) (hw _)

theorem Steady.setFreq (h : Steady s t) (f : Int) : Steady s (setFreq f t) :=
  (h.wr (by decide) _).foldl fun _ g hu => hu.refreshGrid g

theorem Steady.ageCheck (h : Steady s t) : Steady s (ageCheck t) := by
  unfold Machine.ageCheck
  exact .ite h (.ite ((((h.wr (by decide) _).wr (by decide) _).wr (by decide) _).vector _) (.ite (h.setFreq _) h))

theorem Steady.firstSet (h : Steady s t) : Steady s (firstSet t) :=
  (h.upd_hat (x := { t.hat with todSet := true }) rfl rfl rfl fun _ => id).ageCheck

end

theorem time_stepTime (v : Nat) (s : State) : (stepTime v s).time = v % 2 ^ 112 := by
  unfold stepTime
  extract_lets t delta move src s1
  have hledger (u : State) : (ledgerStep delta u).time = u.time :=
    (ledgerStep_touches (ps := (· ≠ .time)) nofun nofun nofun nofun nofun nofun (Touches.refl _ u)).same .time (by simp)
  exact hledger _

/-- R79: a step of TIME is counted. -/
theorem stepCount_stepTime (v : Nat) (s : State) : (stepTime v s).rd 0x50 F.hbd0_STEP_COUNT =
    (s.rd 0x50 F.hbd0_STEP_COUNT + 1) % 2 ^ 32 := by
  unfold stepTime
  extract_lets t delta move src s1
  have hset (u : State) : RegsKept (· ∈ settingKeys) u (u.set1 0x50 F.hbd0_SERVO_STATUS_STEPPED) :=
    (RegsKept.refl _ u).set1 (by decide)
  rw [(ledgerStep_regsKept delta _).rd (by unfold beforeLedger; decide), (hset _).rd (by decide), State.rd_wr_self]
  rfl

/-- After its step SET_TIME changes neither TIME nor STEP_COUNT (R75). -/
theorem setTime_after_stepTime (n : Nat) {s u : State} (h : s.on 0x50 F.hbd0_SERVO_STATUS_EVER_TRACEABLE = false)
    (hu : stepTime ((n * nsUnits + s.host.staged.val 0 0x500C8 % nsUnits) * 2 ^ 32) s = u) :
    Steady u (setTime n s) ∧ (setTime n s).time = u.time := by
  unfold setTime
  rw [if_neg (by simp [h])]
  dsimp only
  rw [hu]
  have hr : Steady u u := Steady.refl u
  have htime {t : State} (ht : Touches (· ≠ .time) u t) : t.time = u.time := ht.same .time (by simp)
  split
  · refine ⟨hr.firstSet.setServo _, htime ?_⟩
    apply setServo_touches <;> try simp
    apply firstSet_touches <;> simp [Touches.refl]
  · split
    · refine ⟨hr.breakAgreement, htime ?_⟩
      apply breakAgreement_touches <;> simp [Touches.refl]
    · exact ⟨hr, rfl⟩

end Sys2Proof.Machine
end

section
/-! PROOF. O19: the servo's commands (R74 to R86). -/

namespace Sys2Proof.Machine

theorem exec_servoModeChange {s : State} (hs : s.stopped = false) (hsh : s.shut 0x50 = false) (m : Fin 4) :
    exec (.servoModeChange m) s = .next (changeMode m.val (s.wakeClock 0x50)) := congrArg Host.Outcome.next (State.written_of hs hsh _)

theorem exec_setTime {s : State} (hs : s.stopped = false) (hsh : s.shut 0x50 = false) (ns : Word) :
    exec (.setTime ns) s = .next (setTime ns.toNat (s.wakeClock 0x50)) := congrArg Host.Outcome.next (State.written_of hs hsh _)

theorem exec_histClear {s : State} (hs : s.stopped = false) (hsh : s.shut 0x53 = false) :
    exec .histClear s = .next (clearHist (s.wakeClock 0x53)) := congrArg Host.Outcome.next (State.written_of hs hsh _)

/-- R76: what 64 s of agreement in LOCKING come to. -/
theorem lockVerified_of {s : State} {a : T80} (ha : s.hat.agreeing = some a) (hst : s.servo = 2) (hm : s.mode = 0)
    (hv : s.refValid = true) (hb : s.bandRuns = true) (hd : ns 64000000000 ≤ s.mono - a) : lockVerified s =
      setServo 3 ({ s with hat := { s.hat with histAt := s.mono } }.wr 0x50 F.hbd0_SERVO_STATUS_EVER_TRACEABLE 1) := by
  unfold lockVerified
  rw [ha]
  exact State.given_of (by simp [hst, hm, hv, hb, hd]) _

/-- R82: what RELOCK_TIME of agreement in HOLDOVER comes to. -/
theorem relocked_of {s : State} {a : T80} (ha : s.hat.agreeing = some a) (hst : s.servo = 4) (hm : s.mode = 0)
    (hv : s.refValid = true) (hb : s.bandRuns = true)
    (hd : ns (s.rd 0x50 F.hbd0_LOCK_CFG_RELOCK_TIME * 1000000000) ≤ s.mono - a) : relocked s =
      setServo 3 ((({ s with hat := { s.hat with histAt := s.mono } }.wr 0x50 F.hbd0_HOLDOVER_STATUS_UNCERT_NS 0).wr 0x50
        F.hbd0_HOLDOVER_STATUS_OUT_OF_BOUND 0).wr 0x50 F.hbd0_SERVO_STATUS_RELOCK_COUNT
          (sat 16 ((s.mono - a) / ns 1000000000))) := by
  unfold relocked
  rw [ha]
  exact State.given_of (by simp [hst, hm, hv, hb, hd]) _

/-- R80: HOLDOVER_RECOMPUTE at its instant, in HOLDOVER. -/
theorem exec_holdoverRecompute {s : State} (hd : s.dueAt 1 1048576 s.nowNs = true) (hst : s.servo = 4) :
    exec .holdoverRecompute s = .next (recompute { s with ticks := { s.ticks with last := s.ticks.last.put s.ticks.base 1 s.nowNs } }) := by
  have hp (f : State → State) : s.periodic 1 1048576 f =
      f { s with ticks := { s.ticks with last := s.ticks.last.put s.ticks.base 1 s.nowNs } } := if_pos hd
  refine congrArg Host.Outcome.next ((hp _).trans (State.given_of ?_ _))
  exact beq_iff_eq.2 hst

end Sys2Proof.Machine

namespace Sys2Proof

open Sys2Proof.Machine

theorem servoModeChange_stores (m : Fin 4) (s : State) (hs : s.stopped = false) (hsh : s.shut 0x50 = false) (h3 : m.val ≠ 3) :
    ∃ t, exec (.servoModeChange m) s = .next t ∧
      Only [.regs, .free, .out, .host, .latches, .hat, .mtn] s t ∧
      t.rd 0x50 F.hbd0_SERVO_CTRL_MODE = m.val := by
  have he := exec_servoModeChange hs hsh m
  refine ⟨_, he, only_of_exec he ?_, mode_changeMode m.isLt h3 _⟩
  apply execServoModeChange_touches <;> simp [Touches.refl]

theorem setTime_steps (n : Word) (s : State) (hs : s.stopped = false) (hsh : s.shut 0x50 = false)
    (hever : s.on 0x50 F.hbd0_SERVO_STATUS_EVER_TRACEABLE = false) :
    ∃ t, exec (.setTime n) s = .next t ∧
      Only [.regs, .time, .free, .out, .host, .latches, .hat, .ticks, .ldg, .vsr, .mtn] s t ∧
      t.time = (n.toNat * nsUnits + s.host.staged.val 0 0x500C8 % nsUnits) * 2 ^ 32 ∧
      t.rd 0x50 F.hbd0_STEP_COUNT = (s.rd 0x50 F.hbd0_STEP_COUNT + 1) % 2 ^ 32 := by
  have he := exec_setTime hs hsh n
  obtain ⟨hsteady, htime⟩ := setTime_after_stepTime n.toNat ((State.on_wakeClock s 0x50 0x50 _).trans hever) rfl
  have hlt := instant_lt n (s.host.staged.val 0 0x500C8)
  refine ⟨_, he, only_of_exec he ?_, ?_, ?_⟩
  · apply execSetTime_touches <;> simp [Touches.refl]
  · rw [htime, time_stepTime, State.wakeClock_host]
    refine Nat.mod_eq_of_lt ?_
    rw [t80Bits] at hlt
    omega
  · rw [hsteady.regs.rd (by decide), stepCount_stepTime, State.rd_wakeClock]

theorem lockVerified_traceable (a : T80) (s : State) (ha : s.hat.agreeing = some a) (hst : s.servo = 2) (hm : s.mode = 0)
    (hv : s.refValid = true) (hb : s.bandRuns = true) (hd : ns 64000000000 ≤ s.mono - a) :
    ∃ t, exec .lockVerified s = .next t ∧
      Only [.regs, .free, .out, .host, .latches, .hat] s t ∧
      t.servo = 3 ∧
      t.rd 0x50 F.hbd0_SERVO_STATUS_EVER_TRACEABLE = 1 ∧
      t.hat.histAt = s.mono := by
  refine ⟨lockVerified s, rfl, only_of_exec (c := .lockVerified) rfl ?_, ?_⟩
  · apply execLockVerified_touches <;> simp [Touches.refl]
  · rw [lockVerified_of ha hst hm hv hb hd]
    refine ⟨servo_setServo (by decide) _, ?_, ?_⟩
    · rw [(setServo_regsKept 3 _).rd (by decide), State.rd_wr_self]
      rfl
    · obtain ⟨l, hl⟩ := setServo_hat 3
        ({ s with hat := { s.hat with histAt := s.mono } }.wr 0x50 F.hbd0_SERVO_STATUS_EVER_TRACEABLE 1)
      rw [hl]
      rfl

theorem relockComplete_traceable (a : T80) (s : State) (ha : s.hat.agreeing = some a) (hst : s.servo = 4) (hm : s.mode = 0)
    (hv : s.refValid = true) (hb : s.bandRuns = true)
    (hd : ns (s.rd 0x50 F.hbd0_LOCK_CFG_RELOCK_TIME * 1000000000) ≤ s.mono - a) :
    ∃ t, exec .relockComplete s = .next t ∧
      Only [.regs, .free, .out, .host, .latches, .hat] s t ∧
      t.servo = 3 ∧
      t.rd 0x50 F.hbd0_HOLDOVER_STATUS_UNCERT_NS = 0 ∧
      t.rd 0x50 F.hbd0_HOLDOVER_STATUS_OUT_OF_BOUND = 0 := by
  refine ⟨relocked s, rfl, only_of_exec (c := .relockComplete) rfl ?_, ?_⟩
  · apply execRelockComplete_touches <;> simp [Touches.refl]
  · rw [relocked_of ha hst hm hv hb hd]
    refine ⟨servo_setServo (by decide) _, ?_, ?_⟩
    · rw [(setServo_regsKept 3 _).rd (by decide), State.rd_wr_of_ne _ _ (by decide), State.rd_wr_of_ne _ _ (by decide),
        State.rd_wr_self, Nat.zero_mod]
    · rw [(setServo_regsKept 3 _).rd (by decide), State.rd_wr_of_ne _ _ (by decide), State.rd_wr_self, Nat.zero_mod]

theorem slewEnd_ends (s : State) (h : s.hat.slewLeft = 0) :
    ∃ t, exec .slewEnd s = .next t ∧
      Only [.regs, .hat] s t ∧
      t.rd 0x50 F.hbd0_SERVO_STATUS_SLEWING = 0 ∧
      t.hat = s.hat ∧
      RegsOnly [0x50] s t := by
  have he : exec .slewEnd s = .next (stopSlew s) := congrArg Host.Outcome.next (State.given_of (decide_eq_true h) _)
  refine ⟨_, he, only_of_exec he ?_, ?_, ?_, ?_⟩
  · apply execSlewEnd_touches <;> simp [Touches.refl]
  · exact (State.rd_wr_self _ _ _ 0).trans (Nat.zero_mod _)
  · show { s.hat with slewLeft := 0 } = s.hat
    rw [← h]
  · exact (RegsOnly.of_regs_eq _ rfl).trans (State.wr_regsOnly _ 0x50 (by decide) 0)

theorem holdoverRecompute_stores (s : State) (hd : s.dueAt 1 1048576 s.nowNs = true) (hst : s.servo = 4) :
    ∃ t, exec .holdoverRecompute s = .next t ∧
      Only [.regs, .free, .out, .host, .latches, .hat, .ticks] s t ∧
      t.rd 0x50 F.hbd0_HOLDOVER_STATUS_UNCERT_NS = sat 32 ((s.uncNum + uncDen - 1) / uncDen) % 2 ^ 32 ∧
      t.servo = 4 := by
  have he := exec_holdoverRecompute hd hst
  refine ⟨_, he, only_of_exec he ?_, uncert_recompute _, (servo_recompute _).trans hst⟩
  apply execHoldoverRecompute_touches <;> simp [Touches.refl]

end Sys2Proof
end

section
/-! PROOF. O19: the history, the Band processor and the Timing PLL (R83 to R86). -/

namespace Sys2Proof.Machine

/-- R83: the record that a write of the history makes. -/
def State.histRecord (s : State) (slope : Nat) (valid : Bool) : HistRec :=
  let r : HistRec := ⟨s.rd 0x50 F.hbd0_FREQ, slope, valid, s.now, s.hat.histSeq + 1, 0⟩
  { r with crc := r.crcOf }

theorem writeHistory_hat {s : State} (he : s.on 0x53 F.hbd3_HIST_CTRL_ENABLE = true) (slope : Nat) (valid : Bool) :
    (writeHistory slope valid s).hat =
      let h := { s.hat with histSeq := s.hat.histSeq + 1, histAt := s.mono }
      if (s.hat.histSeq + 1) % 2 = 0 then { h with hist0 := some (s.histRecord slope valid) }
      else { h with hist1 := some (s.histRecord slope valid) } := by
  unfold writeHistory
  rw [State.given_of he]
  exact State.vector_hat _ _

theorem writeHistory_regsOnly (slope : Nat) (valid : Bool) (s : State) : RegsOnly [0x53] s (writeHistory slope valid s) := by
  have hw (t : State) {f : Fld} (hf : f.off * 8 + f.lo < 0x8000) (v : Nat) (h : RegsOnly [0x53] s t) : RegsOnly [0x53] s (t.wr 0x53 f v) :=
    h.trans (State.wr_regsOnly t 0x53 hf v)
  refine RegsKept.given (RegsOnly.refl _ s) fun _ => RegsKept.vector ?_ 56
  refine hw _ (by decide) _ (hw _ (by decide) _ (hw _ (by decide) _ (hw _ ?_ _ (RegsOnly.of_regs_eq _ rfl))))
  split <;> decide

end Sys2Proof.Machine

namespace Sys2Proof

open Sys2Proof.Machine

theorem historyWrite_writes (slope : BitVec 32) (h : Nat) (s : State) (hs : s.stopped = false) (hst : s.servo = 3)
    (hb : s.hat.bandStopped = false) (hd : s.hat.histAt + ns (s.rd 0x53 F.hbd3_HIST_CTRL_PERIOD * 1000000000) ≤ s.mono)
    (hen : s.on 0x53 F.hbd3_HIST_CTRL_ENABLE = true) :
    ∃ t, exec (.historyWrite slope h) s = .next t ∧
      Only [.regs, .out, .host, .hat] s t ∧
      t.hat.histSeq = s.hat.histSeq + 1 ∧
      (if (s.hat.histSeq + 1) % 2 = 0 then t.hat.hist0 else t.hat.hist1) = some (s.histRecord slope.toNat (decide (h ≥ 24))) ∧
      RegsOnly [0x53] s t := by
  have he : exec (.historyWrite slope h) s = .next (writeHistory slope.toNat (decide (h ≥ 24)) s) := by
    refine congrArg Host.Outcome.next ((State.running_of hs _).trans (State.given_of ?_ _))
    simp [hst, hb, hd]
  refine ⟨_, he, only_of_exec he ?_, ?_, ?_, writeHistory_regsOnly _ _ s⟩
  · apply execHistoryWrite_touches <;> simp [Touches.refl]
  · rw [writeHistory_hat hen]
    dsimp only
    split <;> rfl
  · rw [writeHistory_hat hen]
    dsimp only
    split <;> rfl

theorem histClear_erases (s : State) (hs : s.stopped = false) (hsh : s.shut 0x53 = false) :
    ∃ t, exec .histClear s = .next t ∧
      Only [.regs, .latches, .hat, .mtn] s t ∧
      t.hat.hist0 = none ∧
      t.hat.hist1 = none ∧
      t.rd 0x53 F.hbd3_HIST_STATUS_SLOT0_VALID = 0 ∧
      t.rd 0x53 F.hbd3_HIST_STATUS_SLOT1_VALID = 0 ∧
      RegsOnly [0x53] s t := by
  have he := exec_histClear hs hsh
  refine ⟨_, he, only_of_exec he ?_, rfl, rfl, ?_, ?_, ?_⟩
  · apply execHistClear_touches <;> simp [Touches.refl]
  · exact (State.rd_wr_of_ne _ _ (by decide)).trans ((State.rd_wr_self _ _ _ 0).trans (Nat.zero_mod _))
  · exact (State.rd_wr_self _ _ _ 0).trans (Nat.zero_mod _)
  · exact ((RegsOnly.of_regs_eq _ (State.wakeClock_regs s 0x53)).trans
      (State.wr_regsOnly _ 0x53 (f := F.hbd3_HIST_STATUS_SLOT0_VALID) (by decide) 0)).trans (State.wr_regsOnly _ 0x53 (by decide) 0)

/-- R86: a Band processor found wrong stops, with nothing left to slew; TRACEABLE turns HOLDOVER. -/
theorem bandLockstep_stops (s : State) :
    ∃ t, exec .bandLockstep s = .next t ∧
      Only [.regs, .free, .out, .host, .latches, .hat] s t ∧
      t.hat.bandStopped = true ∧
      t.rd 0x50 F.hbd0_SERVO_STATUS_SLEWING = 0 ∧
      t.hat.slewLeft = 0 ∧
      (s.servo = 3 → t.servo = 4) := by
  have hslew : Steady (stopSlew (s.raise 0x50 8)) (breakAgreement (stopSlew (s.raise 0x50 8))) := (Steady.refl _).breakAgreement
  generalize hu : { breakAgreement (stopSlew (s.raise 0x50 8)) with
    hat := { (breakAgreement (stopSlew (s.raise 0x50 8))).hat with bandStopped := true } } = u
  have he : exec .bandLockstep s = .next (enterHoldover u) := by rw [← hu]; rfl
  have hend : Steady u (enterHoldover u) := (Steady.refl u).enterHoldover
  refine ⟨_, he, only_of_exec he ?_, ?_, ?_, ?_, fun h => servo_enterHoldover ?_⟩
  · apply execBandLockstep_touches <;> simp [Touches.refl]
  · rw [hend.bandStopped, ← hu]
  · have hu' : u.rd 0x50 F.hbd0_SERVO_STATUS_SLEWING =
        (breakAgreement (stopSlew (s.raise 0x50 8))).rd 0x50 F.hbd0_SERVO_STATUS_SLEWING := by
      rw [← hu]
      exact State.rdx_congr rfl _ _ 0 0
    rw [hend.regs.rd (by decide), hu', hslew.regs.rd (by decide)]
    exact (State.rd_wr_self _ _ _ 0).trans (Nat.zero_mod _)
  · rw [hend.slewLeft, ← hu]
    exact hslew.slewLeft
  · have hu' : u.servo = (breakAgreement (stopSlew (s.raise 0x50 8))).servo := by
      rw [← hu]
      exact State.rdx_congr rfl _ _ 0 0
    have hstop : (stopSlew (s.raise 0x50 8)).servo = (s.raise 0x50 8).servo :=
      (State.rd_wr_of_ne _ _ (by decide)).trans (State.rdx_congr rfl _ _ 0 0)
    rw [hu', servo_breakAgreement, hstop, servo_raise s (by decide), h]

theorem timePllUnlock_stops (s : State) :
    ∃ t, exec .timePllUnlock s = .next t ∧
      Only [.regs, .out, .host, .latches, .hat] s t ∧
      t.hat = { s.hat with timeStopped := true } ∧
      RegsOnly [0x50] s t := by
  refine ⟨_, rfl, only_of_exec (c := .timePllUnlock) rfl ?_, State.raise_hat _ _ _, ?_⟩
  · apply execTimePllUnlock_touches <;> simp [Touches.refl]
  · exact (RegsOnly.of_regs_eq _ rfl).trans (raise_regsOnly _ 0x50 (by decide))

/-- Settles O19, command by command. The record that HISTORY_WRITE writes carries the CRC over the layout of log entry 160, which is
the model's choice. -/
theorem servoCommandsComplete : Obligations.ServoCommandsComplete := by
  unfold Obligations.ServoCommandsComplete
  exact ⟨servoModeChange_stores, setTime_steps, lockVerified_traceable, relockComplete_traceable, slewEnd_ends,
    holdoverRecompute_stores, historyWrite_writes, histClear_erases, bandLockstep_stops, timePllUnlock_stops⟩

end Sys2Proof
end

section
/-! PROOF. O20: replicas and the timing group (R61, R93 to R96, R303, R448). -/

namespace Sys2Proof.Machine

/-! ## Replicas -/

theorem testBit_putBit_false (n b : Nat) : (putBit n b false).testBit b = false := by
  unfold putBit
  split
  · assumption
  · next h =>
    have hb : n.testBit b = true := by simpa using h
    have hand : n &&& 2 ^ b = 2 ^ b := by rw [Nat.and_two_pow, hb, Bool.toNat_true, Nat.one_mul]
    have hsub : n - 2 ^ b = Nat.ldiff n (2 ^ b) := by rw [← sub_and_eq_ldiff, hand]
    rw [if_neg Bool.false_ne_true, hsub, Nat.testBit_ldiff, Nat.testBit_two_pow_self]
    simp

theorem State.periodic_of {s : State} {key period : Nat} (h : s.dueAt key period s.nowNs = true) (f : State → State) :
    s.periodic key period f = f { s with ticks := { s.ticks with last := s.ticks.last.put s.ticks.base key s.nowNs } } := if_pos h

theorem State.wri_regsOnly (s : State) (page : Nat) {f : Fld} {i : Nat} (hf : (f.off + f.stride * i) * 8 + f.lo < 0x8000) (v : Nat) :
    RegsOnly [page] s (s.wri page f i v) := by
  intro k hk
  refine State.at?_wrx_of_ne s page f i 0 v fun he => hk ?_
  have hp : pageOfKey k = page := by
    rw [he, pageOfKey, Fld.key]
    omega
  simp [hp]

/-- R61: one tile's offset above 0.2 ns, found while no resynchronisation of it runs. -/
def State.resyncs (s : State) (tile v : Nat) : Bool := (signed 32 v).natAbs > 13107 && !s.hat.resync.testBit tile

theorem compareReplicas_one {s : State} (hd : s.dueAt 2 1048576 s.nowNs = true) (tile v : Nat) :
    ∃ t : State, (t.regs = (s.wri 0x5A F.hbd10_REPLICA_OFFSET tile v).regs) ∧
      (s.resyncs tile v = true → t.hat.resync.testBit tile = true ∧ compareReplicas [(tile, v)] s = t.raise 0x50 5) ∧
      (s.resyncs tile v = false → t.hat = s.hat ∧ compareReplicas [(tile, v)] s = t) := by
  unfold compareReplicas
  rw [State.periodic_of hd]
  simp only [List.foldl_cons, List.foldl_nil]
  cases hr : s.resyncs tile v with
  | true =>
    rw [if_pos (by exact hr)]
    refine ⟨_, ?_, fun _ => ⟨?_, rfl⟩, nofun⟩
    · rfl
    · exact (testBit_putBit_true _ _ _).trans (by simp)
  | false =>
    rw [if_neg (by rw [Bool.not_eq_true]; exact hr)]
    refine ⟨_, ?_, nofun, fun _ => ⟨?_, rfl⟩⟩
    · rfl
    · rfl

end Sys2Proof.Machine

namespace Sys2Proof

open Sys2Proof.Machine

theorem replicaCompare_one (k : Fin 8) (v : BitVec 32) (s : State) (hd : s.dueAt 2 1048576 s.nowNs = true) :
    ∃ t, exec (.replicaCompare [(k, v)]) s = .next t ∧
      Only [.regs, .out, .host, .latches, .hat, .ticks] s t ∧
      t.rdi 0x5A F.hbd10_REPLICA_OFFSET k.val = v.toNat ∧
      (13107 < (signed 32 v.toNat).natAbs → t.hat.resync.testBit k.val = true) ∧
      RegsOnly [0x50, 0x5A] s t := by
  obtain ⟨u, hregs, hyes, hno⟩ := compareReplicas_one hd k.val v.toNat
  have hu : RegsOnly [0x50, 0x5A] s u := by
    have hw : RegsOnly [0x5A] s (s.wri 0x5A F.hbd10_REPLICA_OFFSET k.val v.toNat) := State.wri_regsOnly s 0x5A (by
      simp only [F.hbd10_REPLICA_OFFSET]; omega) _
    exact (RegsKept.mono hw fun _ hk hm => hk (List.mem_cons_of_mem _ hm)).congr hregs
  have hoff : u.rdi 0x5A F.hbd10_REPLICA_OFFSET k.val = v.toNat :=
    (State.rdx_congr hregs _ _ _ _).trans ((State.rdi_wri_self s 0x5A _ k.val _).trans (Nat.mod_eq_of_lt v.isLt))
  have hkey : pageOfKey (F.hbd10_REPLICA_OFFSET.key 0x5A k.val 0) ∉ [0x50] := by
    have : pageOfKey (F.hbd10_REPLICA_OFFSET.key 0x5A k.val 0) = 0x5A := by
      simp only [pageOfKey, Fld.key, F.hbd10_REPLICA_OFFSET]
      omega
    rw [this]
    decide
  refine ⟨_, rfl, only_of_exec (c := .replicaCompare [(k, v)]) rfl ?_, ?_⟩
  · apply execReplicaCompare_touches <;> simp [Touches.refl]
  · show _ ∧ _ ∧ _
    simp only [List.map_cons, List.map_nil]
    cases hr : s.resyncs k.val v.toNat with
    | true =>
      obtain ⟨hbit, he⟩ := hyes hr
      rw [he]
      have hraise := raise_regsOnly u 0x50 (cause := 5) (by decide)
      refine ⟨?_, fun _ => ?_, hu.trans (RegsKept.mono hraise fun _ hk hm => hk ?_)⟩
      · exact (RegsKept.rdi hraise hkey).trans hoff
      · rw [State.raise_hat, hbit]
      · exact List.mem_cons.2 (.inl (List.mem_singleton.1 hm))
    | false =>
      obtain ⟨hhat, he⟩ := hno hr
      rw [he]
      refine ⟨hoff, fun hv => ?_, hu⟩
      rw [hhat]
      simpa [State.resyncs, hv] using hr

theorem replicaCompare_all (offsets : List (Fin 8 × BitVec 32)) (s : State) (_ : s.dueAt 2 1048576 s.nowNs = true) :
    exec (.replicaCompare offsets) s = .next (compareReplicas (offsets.map fun x => (x.1.val, x.2.toNat)) s) ∧
      Only [.regs, .out, .host, .latches, .hat, .ticks] s (compareReplicas (offsets.map fun x => (x.1.val, x.2.toNat)) s) := by
  refine ⟨rfl, only_of_exec (c := .replicaCompare offsets) rfl ?_⟩
  apply execReplicaCompare_touches <;> simp [Touches.refl]

theorem replicaResyncDone_counts (k : Fin 8) (s : State) (hr : s.hat.resync.testBit k.val = true) :
    ∃ t, exec (.replicaResyncDone k) s = .next t ∧
      Only [.regs, .out, .host, .latches, .hat] s t ∧
      t.hat.resync.testBit k.val = false ∧
      t.rdi 0x5A F.hbd10_REPLICA_RESYNCS k.val = sat 16 (s.rdi 0x5A F.hbd10_REPLICA_RESYNCS k.val + 1) % 2 ^ 16 ∧
      RegsOnly [0x5A] s t := by
  have he : exec (.replicaResyncDone k) s = _ := congrArg Host.Outcome.next (State.given_of hr _)
  refine ⟨_, he, only_of_exec he ?_, ?_, ?_, ?_⟩
  · apply execReplicaResyncDone_touches <;> simp [Touches.refl]
  · rw [State.vector_hat, State.bumpi_hat]
    exact testBit_putBit_false _ _
  · refine (State.rdx_congr (State.vector_regs _ _) _ _ _ _).trans ?_
    refine (State.rdx_congr (State.noteCount_regs _ _ _ _ _) _ _ _ _).trans ?_
    exact State.rdi_wri_self _ 0x5A _ k.val _
  · refine RegsKept.vector (RegsKept.congr ?_ (State.noteCount_regs _ _ _ _ _)) 62
    exact (RegsOnly.of_regs_eq _ rfl).trans (State.wri_regsOnly _ 0x5A (by simp only [F.hbd10_REPLICA_RESYNCS]; omega) _)

end Sys2Proof
end

section
/-! PROOF. O20: Denoon hellos and the members of the timing group (R93 to R96, R303, R448). -/

namespace Sys2Proof.Machine

/-- The bit addresses of what decides whether a hello leaves: GROUP_CFG.ENABLE and CHIP_ID_CONFLICT. -/
def groupKeys : List Nat := [F.hbd5_GROUP_CFG_ENABLE.key 0x55 0 0, F.hbd5_GROUP_STATUS_CHIP_ID_CONFLICT.key 0x55 0 0]

/-- Those and the bit address of ADVERTISED: what no change of a pace in force writes. -/
def helloKeys : List Nat := F.pwc0_PACE_STATUS_ADVERTISED.key 0x40 0 0 :: groupKeys

theorem refreshHeff_regsKept (g : Nat) (s : State) : RegsKept (· ∈ helloKeys) s (refreshHeff g s) := by
  have hlow : ∀ k ∈ helloKeys, k < 0x56 * 0x8000 := by decide
  unfold refreshHeff
  refine .ite (RegsKept.refl _ s) (RegsKept.wr (RegsKept.refl _ s) (fun hk => ?_) _)
  have := hlow _ hk
  unfold Fld.key mrgPage at this
  omega

/-- R294, R448: new paces show in H_EFF and P_GROUP. -/
theorem refreshPaces_regsKept (s : State) : RegsKept (· ∈ helloKeys) s (refreshPaces s) := by
  have hgroups : RegsKept (· ∈ helloKeys) s ((List.range 64).foldl (fun t g => refreshHeff g t) s) :=
    (RegsKept.refl _ s).foldl fun _ g _ hu => hu.trans (refreshHeff_regsKept g _)
  exact hgroups.wr (by decide) _

theorem refreshPaces_hat_pwc (s : State) : (refreshPaces s).hat = s.hat ∧ (refreshPaces s).pwc = s.pwc := by
  have h : Touches (· ∈ [.regs]) s (refreshPaces s) := refreshPaces_touches (by decide) (Touches.refl _ s)
  exact ⟨h.same .hat (by decide), h.same .pwc (by decide)⟩

theorem scheduleDEff_same (was : Nat) (s : State) (p : Piece) (hp : p ∉ [.timing]) : Piece.same s (scheduleDEff was s) p :=
  (scheduleDEff_touches (ps := (· ∈ [.timing])) (by decide) (Touches.refl _ s)).same p hp

/-- What the hello period's close leaves of PACE_STATUS.ADVERTISED (R448). -/
def State.advertised (s : State) : Nat :=
  let pace := max s.pwc.paceMax (s.rd 0x40 F.pwc0_PACE_STATUS_PACE_NOW)
  if s.rd 0x40 F.pwc0_PACE_STATUS_ADVERTISED = pace then s.rd 0x40 F.pwc0_PACE_STATUS_ADVERTISED
  else pace % 2 ^ F.pwc0_PACE_STATUS_ADVERTISED.w

theorem advertise_hat (s : State) : (advertise s).hat = s.hat :=
  (advertise_touches (ps := (· ≠ .hat)) nofun nofun nofun nofun nofun (Touches.refl _ s)).same .hat (by simp)

theorem advertise_pwc (s : State) : (advertise s).pwc = { s.pwc with paceMax := s.rd 0x40 F.pwc0_PACE_STATUS_PACE_NOW } := by
  unfold advertise
  extract_lets now pace s1
  split
  · rfl
  · rw [(refreshPaces_hat_pwc _).2]
    exact (scheduleDEff_same _ _ .pwc (by decide)).trans
      ((State.vector_touches (ps := (· ≠ .pwc)) nofun nofun (Touches.refl _ _)).same .pwc (by simp))

theorem advertise_advertised (s : State) : (advertise s).rd 0x40 F.pwc0_PACE_STATUS_ADVERTISED = s.advertised := by
  unfold advertise State.advertised
  extract_lets now pace s1
  split
  · exact State.rdx_congr rfl _ _ 0 0
  · rw [(refreshPaces_regsKept _).rd (by decide)]
    refine (State.rdx_congr (scheduleDEff_same _ _ .regs (by decide)) _ _ 0 0).trans ?_
    exact (State.rd_vector _ _ _ _).trans (State.rd_wr_self _ _ _ _)

/-- Whether a hello leaves does not hang on the pace it carries. -/
theorem advertise_regsKept (s : State) : RegsKept (· ∈ groupKeys) s (advertise s) := by
  unfold advertise
  extract_lets now pace src s1
  have h1 : RegsKept (· ∈ groupKeys) s s1 := RegsKept.of_regs_eq rfl
  have h2 := ((h1.wr (f := F.pwc0_PACE_STATUS_ADVERTISED) (page := 0x40) (by decide) pace).vector 45).congr
    (scheduleDEff_same s.groupPace _ .regs (by decide))
  exact .ite h1 (h2.trans ((refreshPaces_regsKept _).mono fun _ hk => List.mem_cons_of_mem _ hk))

/-- Messages alone leave everything but what has been sent. -/
theorem foldl_send_only {α : Type} (f : α → Output) (l : List α) (s : State) : Only [.out] s (l.foldl (fun t x => t.send (f x)) s) :=
  (Touches.foldl (fun _ _ h => State.send_touches (by decide) h) (Touches.refl _ s)).only

/-- R94: the next hello takes its number. -/
def State.helloNumbered (s : State) : State := { s with hat := { s.hat with helloSeq := s.hat.helloSeq + 1 } }

/-- R93, R94: the hello leaves at every port of the group. -/
def State.helloSent (s : State) : State :=
  s.helloNumbered.helloPorts.foldl
    (fun t p => t.send (.message p "HELLO" (helloWords (s.hello (s.rd 0x40 F.pwc0_PACE_STATUS_ADVERTISED))))) s.helloNumbered

theorem helloSent_only (s : State) : Only [.out] s.helloNumbered s.helloSent := foldl_send_only _ _ _

/-- The state in which a hello period has closed, its multiple handled (R94, R448). -/
def State.periodClosed (s : State) : State :=
  advertise { s with ticks := { s.ticks with last := s.ticks.last.put s.ticks.base 11 s.nowNs } }

/-! ## Hellos received -/

theorem exec_denoonHelloReceive {port : Fin 1024} {h : Hello} {s : State} (hs : s.stopped = false) (hg : s.grouped = true)
    (hp : s.helloPorts.contains port.val = true) (hid : h.group.toNat = s.rd 0x55 F.hbd5_GROUP_CFG_GROUP_ID) :
    exec (.denoonHelloReceive port h) s = .next (hearHello port.val h s) := by
  refine congrArg Host.Outcome.next ((State.running_of hs _).trans (State.given_of ?_ _))
  rw [hg, hp, hid, beq_self_eq_true]
  rfl

theorem hearHello_otherPrimary {port : Nat} {h : Hello} {s : State}
    (hp : h.primary.toNat ≠ s.rd 0x55 F.hbd5_GROUP_PRIMARY_PRIMARY) (hc : h.chip.toNat ≠ s.ownChip) :
    hearHello port h s = primaryMismatch s := by
  unfold hearHello
  rw [if_neg (by simp [hc]), if_pos hp]

theorem setMember_hat (chip : Nat) (here : Bool) (s : State) : (setMember chip here s).hat = s.hat :=
  (setMember_touches (ps := (· ≠ .hat)) nofun nofun nofun (Touches.refl _ s)).same .hat (by simp)

theorem paceHeard_hat (chip pace : Nat) (s : State) : (paceHeard chip pace s).hat = s.hat :=
  (paceHeard_touches (ps := (· ≠ .hat)) nofun nofun (Touches.refl _ s)).same .hat (by simp)

theorem relayHello_time (port : Nat) (h : Hello) (s : State) : (relayHello port h s).time = s.time :=
  (relayHello_touches (ps := (· ≠ .time)) nofun nofun (Touches.refl _ s)).same .time (by simp)

theorem hearHello_enters {port : Nat} {h : Hello} {s : State}
    (hp : h.primary.toNat = s.rd 0x55 F.hbd5_GROUP_PRIMARY_PRIMARY) (hc : h.chip.toNat ≠ s.ownChip) :
    (hearHello port h s).hat.members.at? h.chip.toNat = some (1 + s.nowNs) := by
  unfold hearHello
  extract_lets chip own s1 known src s2 s3
  have hown : own = false := beq_false_of_ne hc
  rw [if_neg (by rw [hown]; simp), if_neg (by rw [hp]; simp), if_neg (by rw [hown]; simp), paceHeard_hat]
  have h3 : s3.hat = s2.hat := by
    unfold s3
    split
    · rfl
    · exact setMember_hat _ _ _
  rw [h3]
  refine (SMap.at?_enter _ _ _ _).trans ((if_pos rfl).trans ?_)
  rw [State.nowNs, relayHello_time]
  rfl

/-! ## Members that fall silent, and the primary -/

theorem paceLeft_same (chip : Nat) (s : State) (p : Piece) (hp : p ∉ [.timing]) : Piece.same s (paceLeft chip s) p :=
  (paceLeft_touches (ps := (· ∈ [.timing])) (by decide) (Touches.refl _ s)).same p hp

theorem State.bit_congr {s t : State} (h : t.regs = s.regs) (page : Nat) (f : Fld) (b : Nat) : t.bit page f b = s.bit page f b := by
  unfold State.bit State.rdi
  rw [State.rdx_congr h]

/-- R93: a CHIP_ID that leaves MEMBER_BITMAP has its bit 0 there. -/
theorem memberBit_setMember (chip : Nat) (s : State) : (setMember chip false s).bit 0x55 F.hbd5_MEMBER_BITMAP chip = false := by
  have hmembers (t : State) (v : Nat) : (t.wr 0x55 F.hbd5_GROUP_STATUS_MEMBERS v).rdi 0x55 F.hbd5_MEMBER_BITMAP (chip / 64) =
      t.rdi 0x55 F.hbd5_MEMBER_BITMAP (chip / 64) := by
    refine State.rdx_wrx_of_ne _ _ ?_
    simp only [Fld.key, F.hbd5_MEMBER_BITMAP, F.hbd5_GROUP_STATUS_MEMBERS]
    omega
  unfold setMember
  rw [State.bit_congr (State.vector_regs _ _)]
  unfold State.bit refreshMembers State.putBitAt
  rw [hmembers, State.rdi_wri_self, Nat.testBit_mod_two_pow, testBit_putBit_false, Bool.and_false]

theorem Steady.refreshGroup {s t : State} (h : Steady s t) : Steady s (refreshGroup t) := by
  have h1 (v : Nat) : Steady s (t.wr 0x55 F.hbd5_GROUP_STATUS_IS_PRIMARY v) := h.wr (by decide) v
  exact ((h1 _).foldl fun _ e hu => .ite hu (hu.settleRef e)).refreshTq

/-- R96: the state with the new PRIMARY alone. -/
def State.primarySet (s : State) : State :=
  { s with hat := { s.hat with switchPending := false } }.wr 0x55 F.hbd5_GROUP_PRIMARY_PRIMARY
    (s.rd 0x55 F.hbd5_GROUP_PRIMARY_PRIMARY_NEXT)

theorem switchPrimary_steady (s : State) : Steady s.primarySet (switchPrimary s) := (Steady.refl s.primarySet).refreshGroup

end Sys2Proof.Machine

namespace Sys2Proof

open Sys2Proof.Machine

theorem denoonHelloSend_alone (s : State) (hs : s.stopped = false) (hd : s.dueAt 11 67108864 s.nowNs = true)
    (hg : s.grouped = false) :
    ∃ t, exec .denoonHelloSend s = .next t ∧
      Only [.regs, .out, .host, .hat, .ticks, .timing, .pwc] s t ∧
      t.pwc.paceMax = s.rd 0x40 F.pwc0_PACE_STATUS_PACE_NOW ∧
      t.rd 0x40 F.pwc0_PACE_STATUS_ADVERTISED = s.advertised ∧
      t.hat.helloSeq = s.hat.helloSeq := by
  have hg' : s.periodClosed.grouped = false := ((advertise_regsKept _).on (by decide)).trans hg
  have he : exec .denoonHelloSend s = .next s.periodClosed := by
    refine congrArg Host.Outcome.next ((State.running_of hs _).trans ((State.periodic_of hd _).trans (if_neg ?_)))
    exact fun h => Bool.false_ne_true (hg'.symm.trans ((Bool.and_eq_true _ _).mp h).1)
  refine ⟨_, he, only_of_exec he ?_, ?_, advertise_advertised _, ?_⟩
  · apply execDenoonHelloSend_touches <;> simp [Touches.refl]
  · exact congrArg Pwc.paceMax (advertise_pwc _)
  · exact congrArg Hatband.helloSeq (advertise_hat _)

theorem denoonHelloSend_grouped (s : State) (hs : s.stopped = false) (hd : s.dueAt 11 67108864 s.nowNs = true)
    (hg : s.grouped = true) (hc : s.on 0x55 F.hbd5_GROUP_STATUS_CHIP_ID_CONFLICT = false) :
    ∃ t, exec .denoonHelloSend s = .next t ∧
      Only [.regs, .out, .host, .hat, .ticks, .timing, .pwc] s t ∧
      t.pwc.paceMax = s.rd 0x40 F.pwc0_PACE_STATUS_PACE_NOW ∧
      t.hat.helloSeq = s.hat.helloSeq + 1 := by
  have hg' : s.periodClosed.grouped = true := ((advertise_regsKept _).on (by decide)).trans hg
  have hc' : s.periodClosed.on 0x55 F.hbd5_GROUP_STATUS_CHIP_ID_CONFLICT = false :=
    ((advertise_regsKept _).on (by decide)).trans hc
  have hleaves : (s.periodClosed.grouped && !s.periodClosed.on 0x55 F.hbd5_GROUP_STATUS_CHIP_ID_CONFLICT) = true := by rw [hg', hc']; rfl
  have he : exec .denoonHelloSend s = .next s.periodClosed.helloSent :=
    congrArg Host.Outcome.next ((State.running_of hs _).trans ((State.periodic_of hd _).trans (if_pos hleaves)))
  have hsent := helloSent_only s.periodClosed
  refine ⟨_, he, only_of_exec he ?_, ?_, ?_⟩
  · apply execDenoonHelloSend_touches <;> simp [Touches.refl]
  · exact (congrArg Pwc.paceMax (hsent .pwc (by decide))).trans (congrArg Pwc.paceMax (advertise_pwc _))
  · refine (congrArg Hatband.helloSeq (hsent .hat (by decide))).trans ?_
    exact congrArg (Hatband.helloSeq · + 1) (advertise_hat _)

theorem denoonHelloReceive_heard (port : Fin 1024) (h : Hello) (s : State) (hs : s.stopped = false) (hg : s.grouped = true)
    (hp : s.helloPorts.contains port.val = true) (hid : h.group.toNat = s.rd 0x55 F.hbd5_GROUP_CFG_GROUP_ID) :
    exec (.denoonHelloReceive port h) s = .next (hearHello port.val h s) ∧
      Only [.regs, .out, .host, .latches, .hat, .timing] s (hearHello port.val h s) ∧
      (h.primary.toNat ≠ s.rd 0x55 F.hbd5_GROUP_PRIMARY_PRIMARY → h.chip.toNat ≠ s.ownChip →
        hearHello port.val h s = primaryMismatch s) ∧
      (h.primary.toNat = s.rd 0x55 F.hbd5_GROUP_PRIMARY_PRIMARY → h.chip.toNat ≠ s.ownChip →
        (hearHello port.val h s).hat.members.at? h.chip.toNat = some (1 + s.nowNs)) := by
  have he := exec_denoonHelloReceive hs hg hp hid
  refine ⟨he, only_of_exec he ?_, hearHello_otherPrimary, hearHello_enters⟩
  apply execDenoonHelloReceive_touches <;> simp [Touches.refl]

theorem memberTimeout_leaves (chip : Fin 4096) (m : Nat) (s : State) (hm : s.hat.members.at? chip.val = some m)
    (hd : m - 1 + s.rd 0x55 F.hbd5_GROUP_CFG_MEMBER_TIMEOUT * 67108864 < s.nowNs) :
    ∃ t, exec (.memberTimeout chip) s = .next t ∧
      Only [.regs, .out, .host, .hat, .timing] s t ∧
      t.hat.members = s.hat.members.del chip.val ∧
      t.bit 0x55 F.hbd5_MEMBER_BITMAP chip.val = false := by
  have he : exec (.memberTimeout chip) s = .next _ := congrArg Host.Outcome.next (State.given_of (by rw [hm]; exact decide_eq_true hd) _)
  refine ⟨_, he, only_of_exec he ?_, ?_, ?_⟩
  · apply execMemberTimeout_touches <;> simp [Touches.refl]
  · exact congrArg Hatband.members ((paceLeft_same _ _ .hat (by decide)).trans (setMember_hat _ _ _))
  · exact (State.bit_congr (paceLeft_same _ _ .regs (by decide)) _ _ _).trans (memberBit_setMember _ _)

theorem primarySwitch_switches (s : State) (hw : s.hat.switchPending = true)
    (hd : s.rdPair 0x55 F.hbd5_PRIMARY_SWITCH_NS F.hbd5_PRIMARY_SWITCH_FRAC ≤ s.now) :
    ∃ t, exec .primarySwitch s = .next t ∧
      Only [.regs, .free, .out, .host, .latches, .hat] s t ∧
      t.hat.switchPending = false ∧
      t.rd 0x55 F.hbd5_GROUP_PRIMARY_PRIMARY =
        s.rd 0x55 F.hbd5_GROUP_PRIMARY_PRIMARY_NEXT % 2 ^ F.hbd5_GROUP_PRIMARY_PRIMARY.w := by
  have he : exec .primarySwitch s = .next (switchPrimary s) :=
    congrArg Host.Outcome.next (State.given_of ((Bool.and_eq_true _ _).mpr ⟨hw, decide_eq_true hd⟩) _)
  have hsteady := switchPrimary_steady s
  refine ⟨_, he, only_of_exec he ?_, hsteady.switchPending, (hsteady.regs.rd (by decide)).trans (State.rd_wr_self _ _ _ _)⟩
  apply execPrimarySwitch_touches <;> simp [Touches.refl]

end Sys2Proof
end

section
/-! PROOF. O20: the timing outputs PPS_OUT and CLK_OUT (R102, R103). -/

namespace Sys2Proof.Machine

theorem State.word_congr {s t : State} (h : t.regs = s.regs) (page off : Nat) : t.word page off = s.word page off := by
  have hrdx : t.rdx = s.rdx := funext fun page => funext fun f => funext fun i => funext fun j => State.rdx_congr h page f i j
  unfold State.word
  rw [hrdx]

theorem RegsKept.clear1 {K : Nat → Prop} {s t : State} (h : RegsKept K s t) {page : Nat} {f : Fld} (hf : ¬ K (f.key page 0 0)) :
    RegsKept K s (t.clear1 page f) := .ite (h.wr hf 0) h

/-! ## PPS_OUT -/

/-- R102: the level of a PPS_OUT pin. -/
def Hatband.ppsLevel (h : Hatband) (i : Nat) : Bool := if i = 0 then h.pps0 else h.pps1

theorem pps_setPps (i : Nat) (v : Bool) (fall : T80) (s : State) : (setPps i v fall s).hat.ppsLevel i = v := by
  unfold setPps Hatband.ppsLevel
  dsimp only [State.send_hat]
  split <;> rfl

/-- R102: the fields of PPS_OUT_CFG stored from a word. -/
def storePps (i v : Nat) (s : State) : State :=
  (((s.wri 0x52 F.hbd2_PPS_OUT_CFG_ENABLE i v).wri 0x52 F.hbd2_PPS_OUT_CFG_SQUELCH i (v / 2)).wri 0x52
    F.hbd2_PPS_OUT_CFG_WIDTH_US i (v / 2 ^ 8 % 2 ^ 24)).wri 0x52 F.hbd2_PPS_OUT_CFG_OFFSET i (v / 2 ^ 32)

/-- The fields of PPS_OUT_CFG start at different bits of one word. -/
theorem rdi_wri_ppsCfg (s : State) {f g : Fld} (i v : Nat) (h : f.off = g.off ∧ f.stride = g.stride ∧ f.lo ≠ g.lo) :
    (s.wri 0x52 g i v).rdi 0x52 f i = s.rdi 0x52 f i := by
  obtain ⟨hoff, hstride, hlo⟩ := h
  refine State.rdx_wrx_of_ne _ _ ?_
  unfold Fld.key
  rw [hoff, hstride]
  omega

theorem storePps_enable (i v : Nat) (s : State) : (storePps i v s).rdi 0x52 F.hbd2_PPS_OUT_CFG_ENABLE i = v % 2 := by
  unfold storePps
  rw [rdi_wri_ppsCfg _ _ _ (by decide), rdi_wri_ppsCfg _ _ _ (by decide), rdi_wri_ppsCfg _ _ _ (by decide), State.rdi_wri_self]
  rfl

theorem storePps_width (i v : Nat) (s : State) :
    (storePps i v s).rdi 0x52 F.hbd2_PPS_OUT_CFG_WIDTH_US i = v / 2 ^ 8 % 2 ^ 24 := by
  unfold storePps
  rw [rdi_wri_ppsCfg _ _ _ (by decide), State.rdi_wri_self]
  exact Nat.mod_mod _ _

theorem storePps_offset (i v : Nat) (s : State) :
    (storePps i v s).rdi 0x52 F.hbd2_PPS_OUT_CFG_OFFSET i = v / 2 ^ 32 % 2 ^ 32 := State.rdi_wri_self _ _ _ _ _

theorem storePps_regsOnly (i : Fin 2) (v : Nat) (s : State) : RegsOnly [0x52] s (storePps i.val v s) := by
  have hw (t : State) {f : Fld} (hoff : f.off = 0x0B0) (hstride : f.stride = 8) (hlo : f.lo < 64) (v : Nat) :
      RegsOnly [0x52] t (t.wri 0x52 f i.val v) := State.wri_regsOnly t 0x52 (by rw [hoff, hstride]; omega) v
  exact (((hw s rfl rfl (by decide) _).trans (hw _ rfl rfl (by decide) _)).trans (hw _ rfl rfl (by decide) _)).trans
    (hw _ rfl rfl (by decide) _)

/-- R102: a word in range is stored, and the pin driven low where ENABLE is cleared while it is high. -/
theorem writePpsCfg_of {i data : Nat} {low high : Bool} {v : Nat} {s : State}
    (hv : v = merged (s.word 0x52 (0x0B0 + 8 * i)) data low high) (hmin : 1 ≤ v / 2 ^ 8 % 2 ^ 24) (hmax : v / 2 ^ 8 % 2 ^ 24 ≤ 500000)
    (hoff : (signed 32 (v / 2 ^ 32)).natAbs ≤ 256000000) :
    writePpsCfg i data low high s =
      if (decide (v % 2 = 0) && s.hat.ppsLevel i) = true then setPps i false 0 (storePps i v s) else storePps i v s := by
  subst hv
  exact if_pos ⟨hmin, hmax, hoff⟩

/-! ## CLK_OUT -/

/-- R103: the fields of CLK_OUT_CFG stored from a word, LATE cleared where 1 is written to it. -/
def storeClk (v : Nat) (clear : Bool) (s : State) : State :=
  let t := (s.wr 0x52 F.hbd2_CLK_OUT_CFG_ENABLE v).wr 0x52 F.hbd2_CLK_OUT_CFG_HALF_PERIOD (v / 2 ^ 16)
  if clear then t.clear1 0x52 F.hbd2_CLK_OUT_CFG_LATE else t

theorem storeClk_fields (v : Nat) (clear : Bool) (s : State) :
    (storeClk v clear s).rd 0x52 F.hbd2_CLK_OUT_CFG_ENABLE = v % 2 ∧
      (storeClk v clear s).rd 0x52 F.hbd2_CLK_OUT_CFG_HALF_PERIOD = v / 2 ^ 16 % 2 ^ F.hbd2_CLK_OUT_CFG_HALF_PERIOD.w := by
  have hkept (t : State) : RegsKept (· ≠ F.hbd2_CLK_OUT_CFG_LATE.key 0x52 0 0) t
      (if clear then t.clear1 0x52 F.hbd2_CLK_OUT_CFG_LATE else t) :=
    .ite ((RegsKept.refl _ t).clear1 (not_not.2 rfl)) (.refl _ t)
  refine ⟨((hkept _).rd (by decide)).trans ?_, ((hkept _).rd (by decide)).trans (State.rd_wr_self _ _ _ _)⟩
  exact (State.rd_wr_of_ne _ _ (by decide)).trans (State.rd_wr_self _ _ _ _)

theorem storeClk_regsOnly (v : Nat) (clear : Bool) (s : State) : RegsOnly [0x52] s (storeClk v clear s) := by
  have h := (State.wr_regsOnly s 0x52 (f := F.hbd2_CLK_OUT_CFG_ENABLE) (by decide) v).trans
    (State.wr_regsOnly _ 0x52 (f := F.hbd2_CLK_OUT_CFG_HALF_PERIOD) (by decide) (v / 2 ^ 16))
  exact RegsKept.ite (RegsKept.clear1 h (by decide)) h

theorem regrid_regs (delta : Int) (s : State) : (regrid delta s).regs = s.regs := rfl

theorem joinGrid_regs (s : State) : (joinGrid s).regs = s.regs := rfl

theorem setClk_regs (v : Bool) (next : Option T80) (s : State) : (setClk v next s).regs = s.regs := rfl

/-- R103: beyond what is stored, a write of a HALF_PERIOD of 4 ns at least moves the grid and the pin alone. -/
theorem writeClkCfg_regs {data : Nat} {low high : Bool} {v : Nat} {s : State}
    (hv : v = merged (s.word 0x52 0x0C0 - (if s.on 0x52 F.hbd2_CLK_OUT_CFG_LATE = true then 2 else 0)) data low high)
    (hmin : 4 * nsUnits ≤ v / 2 ^ 16) :
    (writeClkCfg data low high s).regs = (storeClk v (low && data.testBit 1) s).regs := by
  subst hv
  refine (congrArg State.regs (if_neg (Nat.not_lt.2 hmin))).trans ?_
  change State.regs (if _ then joinGrid (storeClk _ _ s) else if _ then setClk false none (storeClk _ _ s)
    else regrid 0 (storeClk _ _ s)) = _
  rw [apply_ite State.regs, apply_ite State.regs, regrid_regs, joinGrid_regs, setClk_regs, ite_self, ite_self]

/-- R103: an edge of CLK_OUT that is due, from the state of the pin. -/
theorem clkEdge_of {a : T80} {s : State} (hn : s.hat.clkNext = some a) (he : s.on 0x52 F.hbd2_CLK_OUT_CFG_ENABLE = true)
    (hd : a ≤ s.now) : ∃ next, clkEdge s = setClk (!s.hat.clk) (some next) s ∧
      (s.hat.clk = false → next = a + s.clkHalf) ∧
      (s.hat.clk = true → next = let b := s.rdPair 0x52 F.hbd2_CLK_OUT_START_NS F.hbd2_CLK_OUT_START_FRAC
        if a < b then b else b + ((a - b) / (2 * s.clkHalf) + 1) * (2 * s.clkHalf)) := by
  have hdue : (s.on 0x52 F.hbd2_CLK_OUT_CFG_ENABLE && decide (a ≤ s.now)) = true := by rw [he, decide_eq_true hd]; rfl
  unfold clkEdge
  rw [hn]
  exact ⟨_, State.given_of hdue _, fun h => by rw [h]; rfl, fun h => by rw [h]; rfl⟩

theorem setClk_only (v : Bool) (next : Option T80) (s : State) : Only [.out, .hat] s (setClk v next s) :=
  (setClk_touches (by decide) (by decide) (Touches.refl _ s)).only

end Sys2Proof.Machine

namespace Sys2Proof

open Sys2Proof.Machine

theorem ppsOutPulse_falls (i : Fin 2) (s : State) (hq : s.boot.quiescing = false)
    (hp : (if i.val = 0 then s.hat.pps0 else s.hat.pps1) = true)
    (hf : (if i.val = 0 then s.hat.ppsFall0 else s.hat.ppsFall1) ≤ s.mono) :
    ∃ t, exec (.ppsOutPulse i false) s = .next t ∧
      Only [.out, .hat] s t ∧
      (if i.val = 0 then t.hat.pps0 else t.hat.pps1) = false ∧
      t.out = Output.pin (if i.val = 0 then "PPS_OUT0" else "PPS_OUT1") false :: s.out := by
  have he : exec (.ppsOutPulse i false) s = .next (setPps i.val false 0 s) := by
    refine congrArg Host.Outcome.next ((State.given_of (by rw [hq]; rfl) _).trans (State.given_of ?_ _))
    exact (Bool.and_eq_true _ _).mpr ⟨hp, decide_eq_true hf⟩
  exact ⟨_, he, (setPps_touches (by decide) (by decide) (Touches.refl _ s)).only, pps_setPps _ _ _ _, rfl⟩

theorem ppsOutPulse_rises (i : Fin 2) (s : State) (hq : s.boot.quiescing = false)
    (hd : s.dueAt (4 + i.val) 1000000000
      (((s.now : Int) - signed 32 (s.rdi 0x52 F.hbd2_PPS_OUT_CFG_OFFSET i.val) * 256).toNat / nsUnits) = true)
    (hen : s.rdi 0x52 F.hbd2_PPS_OUT_CFG_ENABLE i.val = 1)
    (hsq : s.squelched (s.rdi 0x52 F.hbd2_PPS_OUT_CFG_SQUELCH i.val) = false) :
    ∃ t, exec (.ppsOutPulse i true) s = .next t ∧
      Only [.out, .hat, .ticks] s t ∧
      (if i.val = 0 then t.hat.pps0 else t.hat.pps1) = true ∧
      t.out = Output.pin (if i.val = 0 then "PPS_OUT0" else "PPS_OUT1") true :: s.out := by
  have hgo : (decide (s.rdi 0x52 F.hbd2_PPS_OUT_CFG_ENABLE i.val = 1) &&
      !s.squelched (s.rdi 0x52 F.hbd2_PPS_OUT_CFG_SQUELCH i.val)) = true := by rw [decide_eq_true hen, hsq]; rfl
  have he : exec (.ppsOutPulse i true) s = .next _ := congrArg Host.Outcome.next
    ((State.given_of (by rw [hq]; rfl) _).trans ((if_pos rfl).trans ((if_pos hd).trans (if_pos hgo))))
  refine ⟨_, he, only_of_exec he ?_, pps_setPps _ _ _ _, rfl⟩
  apply execPpsOutPulse_touches <;> simp [Touches.refl]

theorem ppsOutCfgWrite_stores (i : Fin 2) (data : Word) (low high : Bool) (v : Nat) (s : State) (hs : s.stopped = false)
    (hsh : s.shut 0x52 = false) (hv : v = merged (s.word 0x52 (0x0B0 + 8 * i)) data.toNat low high)
    (hmin : 1 ≤ v / 2 ^ 8 % 2 ^ 24) (hmax : v / 2 ^ 8 % 2 ^ 24 ≤ 500000)
    (hoff : (signed 32 (v / 2 ^ 32)).natAbs ≤ 256000000) :
    ∃ t, exec (.ppsOutCfgWrite i data low high) s = .next t ∧
      Only [.regs, .out, .latches, .hat, .mtn] s t ∧
      t.rdi 0x52 F.hbd2_PPS_OUT_CFG_WIDTH_US i.val = v / 2 ^ 8 % 2 ^ 24 ∧
      t.rdi 0x52 F.hbd2_PPS_OUT_CFG_ENABLE i.val = v % 2 ∧
      t.rdi 0x52 F.hbd2_PPS_OUT_CFG_OFFSET i.val = v / 2 ^ 32 % 2 ^ 32 ∧
      (v % 2 = 0 → (if i.val = 0 then t.hat.pps0 else t.hat.pps1) = false) ∧
      RegsOnly [0x52] s t := by
  have hw := State.wakeClock_regs s 0x52
  have hwrite := writePpsCfg_of (hv.trans (by rw [State.word_congr hw])) hmin hmax hoff
  have he : exec (.ppsOutCfgWrite i data low high) s = .next (writePpsCfg i data.toNat low high (s.wakeClock 0x52)) :=
    congrArg Host.Outcome.next (State.written_of hs hsh _)
  have hregs : (writePpsCfg i data.toNat low high (s.wakeClock 0x52)).regs = (storePps i v (s.wakeClock 0x52)).regs := by
    rw [hwrite]
    split <;> rfl
  refine ⟨_, he, only_of_exec he ?_, (State.rdx_congr hregs _ _ _ _).trans (storePps_width _ _ _),
    (State.rdx_congr hregs _ _ _ _).trans (storePps_enable _ _ _), (State.rdx_congr hregs _ _ _ _).trans (storePps_offset _ _ _),
    fun h0 => ?_, ?_⟩
  · apply execPpsOutCfgWrite_touches <;> simp [Touches.refl]
  · change Hatband.ppsLevel _ i.val = false
    rw [hwrite, decide_eq_true h0, Bool.true_and]
    split
    · exact pps_setPps _ _ _ _
    · next hlow => exact (Bool.not_eq_true _).mp hlow
  · exact ((RegsOnly.of_regs_eq _ hw).trans (storePps_regsOnly i v _)).trans (RegsOnly.of_regs_eq _ hregs)

theorem clkOutCfgWrite_stores (data : Word) (low high : Bool) (v : Nat) (s : State) (hs : s.stopped = false)
    (hsh : s.shut 0x52 = false)
    (hv : v = merged (s.word 0x52 0x0C0 - (if s.on 0x52 F.hbd2_CLK_OUT_CFG_LATE = true then 2 else 0)) data.toNat low high)
    (hmin : 4 * nsUnits ≤ v / 2 ^ 16) :
    ∃ t, exec (.clkOutCfgWrite data low high) s = .next t ∧
      Only [.regs, .out, .latches, .hat, .mtn] s t ∧
      t.rd 0x52 F.hbd2_CLK_OUT_CFG_ENABLE = v % 2 ∧
      t.rd 0x52 F.hbd2_CLK_OUT_CFG_HALF_PERIOD = v / 2 ^ 16 % 2 ^ F.hbd2_CLK_OUT_CFG_HALF_PERIOD.w ∧
      RegsOnly [0x52] s t := by
  have hw := State.wakeClock_regs s 0x52
  have hregs := writeClkCfg_regs (s := s.wakeClock 0x52) (hv.trans (by rw [State.word_congr hw, State.on_wakeClock])) hmin
  have he : exec (.clkOutCfgWrite data low high) s = .next (writeClkCfg data.toNat low high (s.wakeClock 0x52)) :=
    congrArg Host.Outcome.next (State.written_of hs hsh _)
  obtain ⟨henable, hhalf⟩ := storeClk_fields v (low && data.toNat.testBit 1) (s.wakeClock 0x52)
  refine ⟨_, he, only_of_exec he ?_, (State.rdx_congr hregs _ _ _ _).trans henable, (State.rdx_congr hregs _ _ _ _).trans hhalf, ?_⟩
  · apply execClkOutCfgWrite_touches <;> simp [Touches.refl]
  · exact ((RegsOnly.of_regs_eq _ hw).trans (storeClk_regsOnly v _ _)).trans (RegsOnly.of_regs_eq _ hregs)

theorem clkOutStart_rises (a : T80) (s : State) (hq : s.boot.quiescing = false) (hc : s.hat.clk = false) (hn : s.hat.clkNext = some a)
    (ha : a = s.rdPair 0x52 F.hbd2_CLK_OUT_START_NS F.hbd2_CLK_OUT_START_FRAC)
    (hen : s.on 0x52 F.hbd2_CLK_OUT_CFG_ENABLE = true) (hd : a ≤ s.now) :
    ∃ t, exec .clkOutStart s = .next t ∧
      Only [.out, .hat] s t ∧
      t.hat.clk = true ∧
      t.hat.clkNext = some (a + s.clkHalf) ∧
      t.out = Output.pin "CLK_OUT" true :: s.out := by
  obtain ⟨next, hedge, hfall, -⟩ := clkEdge_of hn hen hd
  rw [hc, hfall hc] at hedge
  have he : exec .clkOutStart s = .next (setClk true (some (a + s.clkHalf)) s) := by
    refine congrArg Host.Outcome.next ((State.given_of ?_ _).trans hedge)
    rw [hq, hc, hn, ← ha, beq_self_eq_true]
    rfl
  exact ⟨_, he, setClk_only _ _ s, rfl, rfl, rfl⟩

theorem clkOutEdge_turns (a : T80) (s : State) (hq : s.boot.quiescing = false) (hn : s.hat.clkNext = some a)
    (hen : s.on 0x52 F.hbd2_CLK_OUT_CFG_ENABLE = true) (hd : a ≤ s.now) :
    ∃ t, exec .clkOutEdge s = .next t ∧
      Only [.out, .hat] s t ∧
      t.hat.clk = !s.hat.clk ∧
      (s.hat.clk = false → t.hat.clkNext = some (a + s.clkHalf)) ∧
      (s.hat.clk = true → t.hat.clkNext = some (let b := s.rdPair 0x52 F.hbd2_CLK_OUT_START_NS F.hbd2_CLK_OUT_START_FRAC
        if a < b then b else b + ((a - b) / (2 * s.clkHalf) + 1) * (2 * s.clkHalf))) ∧
      t.out = Output.pin "CLK_OUT" (!s.hat.clk) :: s.out := by
  obtain ⟨next, hedge, hfall, hrise⟩ := clkEdge_of hn hen hd
  have he : exec .clkOutEdge s = .next (setClk (!s.hat.clk) (some next) s) :=
    congrArg Host.Outcome.next ((State.given_of (by rw [hq]; rfl) _).trans hedge)
  exact ⟨_, he, setClk_only _ _ s, rfl, fun h => congrArg some (hfall h), fun h => congrArg some (hrise h), rfl⟩

/-- Settles O20, command by command. That a write of PPS_OUT_CFG with ENABLE 0 drives a high pin low at once is the model's choice,
log entry 167. -/
theorem timingGroupAndOutputsComplete : Obligations.TimingGroupAndOutputsComplete := by
  unfold Obligations.TimingGroupAndOutputsComplete
  exact ⟨replicaCompare_one, replicaCompare_all, replicaResyncDone_counts, denoonHelloSend_alone, denoonHelloSend_grouped,
    denoonHelloReceive_heard, memberTimeout_leaves, primarySwitch_switches, ppsOutPulse_falls, ppsOutPulse_rises,
    ppsOutCfgWrite_stores, clkOutCfgWrite_stores, clkOutStart_rises, clkOutEdge_turns⟩

end Sys2Proof
end

section
/-! PROOF. O18: what PTP sends and receives (R87 to R91). -/

namespace Sys2Proof.Machine

/-! ## Ports -/

theorem ptpPort_congr {s t : State} (h : t.hat = s.hat) (p : Nat) : t.ptpPort p = s.ptpPort p := by
  unfold State.ptpPort
  rw [h]

theorem putPtp_hat (s : State) (p : Nat) (x : PtpPort) : (s.putPtp p x).hat = { s.hat with ptp := s.hat.ptp.put {} p x } :=
  (showPtp_touches (ps := (· ≠ .hat)) nofun (Touches.refl _ _)).same .hat (by simp)

theorem putPtp_out (s : State) (p : Nat) (x : PtpPort) : (s.putPtp p x).out = s.out :=
  (State.putPtp_touches (ps := (· ≠ .out)) nofun nofun (Touches.refl _ _)).same .out (by simp)

theorem ptpPort_putPtp (s : State) (p : Nat) (x : PtpPort) : (s.putPtp p x).ptpPort p = x := by
  unfold State.ptpPort
  rw [putPtp_hat, SMap.val_put, if_pos rfl]

theorem countStampLoss_hat (port : Nat) (s : State) : (countStampLoss port s).hat = s.hat :=
  (countStampLoss_touches (ps := (· ≠ .hat)) nofun nofun (Touches.refl _ s)).same .hat (by simp)

/-! ## Announce and Delay_Req -/

/-- Messages join what has been sent, one each. -/
theorem length_out_foldl_send {α : Type} (f : α → Output) (l : List α) (s : State) :
    (l.foldl (fun t x => t.send (f x)) s).out.length = s.out.length + l.length := by
  induction l generalizing s with
  | nil => rfl
  | cons x l ih =>
    rw [List.foldl_cons, ih, State.send_out, List.length_cons, List.length_cons]
    omega

/-- R91: the port's record after its Announce. -/
def State.announced (s : State) (port : Nat) : PtpPort :=
  { s.ptpPort port with announceSeq := ((s.ptpPort port).announceSeq + 1) % 65536, announceAt := some s.mono }

/-- R91: the Announce to a receiver. -/
def State.announcement (s : State) (port e : Nat) : Output :=
  .message port "Announce" ((s.ptpPort port).header (s.ptpPort port).announceSeq (s.receiverAddress port e) ++
    [s.clockClass, s.rd 0x54 F.hbd4_PTP_CFG_PRIORITY1, s.rd 0x54 F.hbd4_PTP_CFG_PRIORITY2,
      netOrder 8 (s.rd 0x54 F.hbd4_CLOCK_IDENTITY), s.rd 0x50 F.hbd0_UTC_CFG_UTC_OFFSET])

theorem sendAnnounces_leaves (port : Nat) (s : State) :
    (sendAnnounces port s).ptpPort port = s.announced port ∧
      (sendAnnounces port s).out.length = s.out.length + (s.receivers port).length := by
  have hport := foldl_send_only (s.announcement port) (s.receivers port) (s.putPtp port (s.announced port)) .hat (by decide)
  have hout := length_out_foldl_send (s.announcement port) (s.receivers port) (s.putPtp port (s.announced port))
  exact ⟨(ptpPort_congr hport port).trans (ptpPort_putPtp _ _ _), hout.trans (by rw [putPtp_out])⟩

/-- R87: the port's record after its Delay_Req, whose departure has the stamp and the TQ given. -/
def State.asked (s : State) (port : Nat) (t : T80) (tq : Nat) : PtpPort :=
  { s.ptpPort port with
    delaySeq := ((s.ptpPort port).delaySeq + 1) % 65536
    t3 := if tq = 15 then none else some ((s.ptpPort port).delaySeq, ((t : Int) - s.hat.stepped).toNat) }

theorem sendDelayReq_leaves (port : Nat) (tap : TxTap) (s : State) :
    (sendDelayReq port tap s).ptpPort port = s.asked port (egressStamp tap s).1 (egressStamp tap s).2.1 := by
  unfold sendDelayReq
  generalize egressStamp tap s = r
  obtain ⟨t, tq, u⟩ := r
  have hput : (u.putPtp port (s.asked port t tq)).ptpPort port = s.asked port t tq := ptpPort_putPtp _ _ _
  dsimp only
  split
  · exact (ptpPort_congr (countStampLoss_hat _ _) port).trans hput
  · exact (ptpPort_congr rfl port).trans hput

/-! ## What arrives -/

/-- R87: a message of a kind that is not supported is stamped and counted. -/
theorem ptpReceive_other {port : Nat} {tap : RxTap} {reply : TxTap} {m : PtpMsg} {fits : List ServoFit} {s : State}
    (hen : (s.ptpPort port).field F.hbd4_PORT_CFG_PTP_ENABLE = 1) (hb : s.bandRuns = true) (hk : m.kind = .other) :
    ptpReceive port tap reply m fits s = (ingressStamp tap s).2.2.count 0x0110 port := by
  have hheard : ¬ ((s.ptpPort port).field F.hbd4_PORT_CFG_PTP_ENABLE = 0 ∨ (!s.bandRuns) = true) := by simp [hen, hb]
  unfold ptpReceive
  rw [if_neg hheard]
  generalize ingressStamp tap s = r
  obtain ⟨t, tq, u⟩ := r
  exact if_pos (Or.inl hk)

end Sys2Proof.Machine

namespace Sys2Proof

open Sys2Proof.Machine

theorem ptpMessageReceive_received (port : Fin 1024) (taps : PtpTaps) (m : PtpMsg) (fits : List ServoFit) (s : State)
    (hs : s.stopped = false) (hen : (s.ptpPort port.val).field F.hbd4_PORT_CFG_PTP_ENABLE = 1) (hb : s.bandRuns = true) :
    exec (.ptpMessageReceive port taps m fits) s = .next (ptpReceive port.val taps.arrival taps.answer m fits s) ∧
      Only [.regs, .time, .free, .out, .host, .latches, .hat, .ticks, .stamps, .ldg, .vsr] s
        (ptpReceive port.val taps.arrival taps.answer m fits s) ∧
      (m.kind = .other →
        ptpReceive port.val taps.arrival taps.answer m fits s = (ingressStamp taps.arrival s).2.2.count 0x0110 port.val) := by
  have he : exec (.ptpMessageReceive port taps m fits) s = .next (ptpReceive port.val taps.arrival taps.answer m fits s) :=
    congrArg Host.Outcome.next (State.running_of hs _)
  refine ⟨he, only_of_exec he ?_, ptpReceive_other hen hb⟩
  apply execPtpMessageReceive_touches <;> simp [Touches.refl]

theorem ptpSyncSend_sends (sync : SyncSend) (s : State) (hs : s.stopped = false) (hm : s.maySource sync.port.val = true)
    (hl : s.sinceLast (s.ptpPort sync.port.val).syncAt ((s.ptpPort sync.port.val).field F.hbd4_PORT_CFG_LOG_SYNC) = true) :
    exec (.ptpSyncSend sync) s = .next (sendSyncs sync.port.val sync.taps s) ∧
      Only [.regs, .free, .out, .host, .latches, .hat, .stamps] s (sendSyncs sync.port.val sync.taps s) := by
  have he : exec (.ptpSyncSend sync) s = .next (sendSyncs sync.port.val sync.taps s) :=
    congrArg Host.Outcome.next ((State.running_of hs _).trans (State.given_of ((Bool.and_eq_true _ _).mpr ⟨hm, hl⟩) _))
  refine ⟨he, only_of_exec he ?_⟩
  apply execPtpSyncSend_touches <;> simp [Touches.refl]

theorem ptpAnnounceSend_sends (port : Fin 1024) (s : State) (hs : s.stopped = false) (hm : s.maySource port.val = true)
    (hl : s.sinceLast (s.ptpPort port.val).announceAt ((s.ptpPort port.val).field F.hbd4_PORT_CFG_LOG_ANNOUNCE) = true) :
    exec (.ptpAnnounceSend port) s = .next (sendAnnounces port.val s) ∧
      Only [.regs, .out, .hat] s (sendAnnounces port.val s) ∧
      ((sendAnnounces port.val s).ptpPort port.val).announceSeq = ((s.ptpPort port.val).announceSeq + 1) % 65536 ∧
      ((sendAnnounces port.val s).ptpPort port.val).announceAt = some s.mono ∧
      (sendAnnounces port.val s).out.length = s.out.length + (s.receivers port.val).length := by
  have he : exec (.ptpAnnounceSend port) s = .next (sendAnnounces port.val s) :=
    congrArg Host.Outcome.next ((State.running_of hs _).trans (State.given_of ((Bool.and_eq_true _ _).mpr ⟨hm, hl⟩) _))
  obtain ⟨hport, hout⟩ := sendAnnounces_leaves port.val s
  refine ⟨he, only_of_exec he ?_, by rw [hport, State.announced], by rw [hport, State.announced], hout⟩
  apply execPtpAnnounceSend_touches <;> simp [Touches.refl]

theorem delayReqSend_asks (port : Fin 1024) (tap : TxTap) (s : State) (hs : s.stopped = false)
    (hen : (s.ptpPort port.val).field F.hbd4_PORT_CFG_PTP_ENABLE = 1) (hr : (s.ptpPort port.val).receives = true)
    (hb : s.bandRuns = true) :
    exec (.delayReqSend port tap) s = .next (sendDelayReq port.val tap s) ∧
      Only [.regs, .free, .out, .host, .latches, .hat, .stamps] s (sendDelayReq port.val tap s) ∧
      ((sendDelayReq port.val tap s).ptpPort port.val).delaySeq = ((s.ptpPort port.val).delaySeq + 1) % 65536 ∧
      ((egressStamp tap s).2.1 = 15 → ((sendDelayReq port.val tap s).ptpPort port.val).t3 = none) ∧
      ((egressStamp tap s).2.1 ≠ 15 → ((sendDelayReq port.val tap s).ptpPort port.val).t3 =
        some ((s.ptpPort port.val).delaySeq, (((egressStamp tap s).1 : Int) - s.hat.stepped).toNat)) := by
  have hgo : ((s.ptpPort port.val).field F.hbd4_PORT_CFG_PTP_ENABLE == 1 && (s.ptpPort port.val).receives && s.bandRuns) = true := by
    rw [hen, hr, hb]
    rfl
  have he : exec (.delayReqSend port tap) s = .next (sendDelayReq port.val tap s) :=
    congrArg Host.Outcome.next ((State.running_of hs _).trans (State.given_of hgo _))
  rw [sendDelayReq_leaves]
  refine ⟨he, only_of_exec he ?_, rfl, fun h => if_pos h, fun h => if_neg h⟩
  apply execDelayReqSend_touches <;> simp [Touches.refl]

end Sys2Proof
end

section
/-! PROOF. O18: the peer tables and PEER_CMD (R90, R105). -/

namespace Sys2Proof.Machine

/-! ## Entries -/

theorem peer_congr {s t : State} (h : t.hat = s.hat) (port e : Nat) : t.peer port e = s.peer port e := by
  unfold State.peer
  rw [h]

theorem peer_putPeer (s : State) (port e : Nat) (p : Peer) : (s.putPeer port e p).peer port e = p := SMap.val_put_self _ _ _ _

/-- R90: a FREE entry stays FREE in what the loss of its reference brings about. -/
theorem Steady.peer_free {s t : State} (h : Steady s t) {port e : Nat} (hp : s.peer port e = {}) : t.peer port e = {} :=
  h.freed _ hp

theorem dropPeer_steady (port e : Nat) (s : State) : Steady (s.putPeer port e {}) (dropPeer port e s) :=
  ((Steady.refl _).vector 53).foldl fun _ r hu => .ite hu (hu.silenceIdle r 9)

theorem dropPeer_frees (port e : Nat) (s : State) : (dropPeer port e s).peer port e = {} :=
  (dropPeer_steady port e s).peer_free (peer_putPeer s port e {})

theorem freePeer_frees {port e : Nat} {s : State} (h : (s.peer port e).role ≠ 0) : (freePeer port e s).peer port e = {} := by
  have hdrop := dropPeer_steady port e s
  unfold freePeer
  rw [State.given_of (bne_iff_ne.2 h)]
  exact (Steady.ite (hdrop.silenceRef _ 9) hdrop).peer_free (peer_putPeer s port e {})

theorem setStatic_marks {v : Bool} {port e : Nat} {s : State} (h : (s.peer port e).role ≠ 0) :
    (setStatic v port e s).peer port e = { s.peer port e with isStatic := v } := by
  unfold setStatic
  rw [State.given_of (bne_iff_ne.2 h)]
  exact peer_putPeer s port e _

/-- PEER_CMD finds the entry that PEER_SEL names, as it is. -/
theorem onSelectedPeer_of {s : State} (hs : s.stopped = false) (hsh : s.shut 0x54 = false) (f : Nat → Nat → State → State) :
    onSelectedPeer f s = f (s.rd 0x54 F.hbd4_PEER_SEL_PORT) (s.rd 0x54 F.hbd4_PEER_SEL_ENTRY) (s.wakeClock 0x54) := by
  unfold onSelectedPeer
  rw [State.written_of hs hsh, State.rd_wakeClock, State.rd_wakeClock]

theorem peer_wakeClock (s : State) (page port e : Nat) : (s.wakeClock page).peer port e = s.peer port e :=
  peer_congr (State.wakeClock_hat s page) port e

/-! ## PEER_SEL's window -/

/-- R105: the first registers of the window: what is selected, and the entry's identity, port number and role. -/
def showHead (port e : Nat) (s : State) : State :=
  ((((s.wr 0x54 F.hbd4_PEER_SEL_PORT port).wr 0x54 F.hbd4_PEER_SEL_ENTRY e).wr 0x54
    F.hbd4_PEER_DATA0_CLOCK_IDENTITY (netOrder 8 (s.peer port e).identity)).wr 0x54
    F.hbd4_PEER_DATA1_PORT_NUMBER (s.peer port e).portNumber).wr 0x54 F.hbd4_PEER_DATA1_ROLE (s.peer port e).role

/-- The bit addresses of PEER_SEL, CLOCK_IDENTITY and ROLE. -/
def headKeys : List Nat :=
  [F.hbd4_PEER_SEL_PORT.key 0x54 0 0, F.hbd4_PEER_SEL_ENTRY.key 0x54 0 0, F.hbd4_PEER_DATA0_CLOCK_IDENTITY.key 0x54 0 0,
    F.hbd4_PEER_DATA1_ROLE.key 0x54 0 0]

/-- The bit addresses of the window's other registers. -/
def bodyKeys : List Nat :=
  [F.hbd4_PEER_DATA1_STATIC, F.hbd4_PEER_DATA1_TRANSPORT, F.hbd4_PEER_DATA1_CLOCK_CLASS, F.hbd4_PEER_DATA1_STEPS_REMOVED,
    F.hbd4_PEER_DATA1_DENOON, F.hbd4_PEER_DATA1_SELECTED, F.hbd4_PEER_DATA2_GRANDMASTER_IDENTITY, F.hbd4_LAST_HEARD_NS,
    F.hbd4_LAST_HEARD_FRAC, F.hbd4_PEER_DATA5_MEAN_PATH_DELAY, F.hbd4_PEER_DATA6_ADDRESS_LO,
    F.hbd4_PEER_DATA7_ADDRESS_HI].map (·.key 0x54 0 0)

theorem showPeer_body (port e : Nat) (s : State) : RegsKept (· ∉ bodyKeys) (showHead port e s) (showPeer port e s) :=
  ((((((((((RegsKept.refl _ (showHead port e s)).wr (by decide) _).wr (by decide) _).wr (by decide) _).wr (by decide) _).wr (by decide)
    _).wr (by decide) _).wr (by decide) _).wrPair (by decide) (by decide) _).wr (by decide) _).wr (by decide) _ |>.wr (by decide) _

theorem showPeer_head (port e : Nat) (s : State) : RegsKept (· ∈ headKeys) (showHead port e s) (showPeer port e s) :=
  (showPeer_body port e s).mono (by decide)

theorem showPeer_regsOnly (port e : Nat) (s : State) : RegsOnly [0x54] s (showPeer port e s) := by
  have hbody : ∀ k ∈ bodyKeys, pageOfKey k ∈ [0x54] := by decide
  have hhead : RegsKept (pageOfKey · ∉ [0x54]) s (showHead port e s) :=
    (((((RegsKept.refl _ s).wr (by decide) _).wr (by decide) _).wr (by decide) _).wr (by decide) _).wr (by decide) _
  exact regsOnly_iff_regsKept.2 (hhead.trans ((showPeer_body port e s).mono fun k hk hm => hk (hbody k hm)))

theorem showPeer_port (port : Fin 1024) (e : Nat) (s : State) : (showPeer port e s).rd 0x54 F.hbd4_PEER_SEL_PORT = port := by
  rw [(showPeer_head port e s).rd (by decide), showHead, State.rd_wr_of_ne _ _ (by decide), State.rd_wr_of_ne _ _ (by decide),
    State.rd_wr_of_ne _ _ (by decide), State.rd_wr_of_ne _ _ (by decide), State.rd_wr_self]
  exact Nat.mod_eq_of_lt port.isLt

theorem showPeer_entry (port : Nat) (e : Fin 16) (s : State) : (showPeer port e s).rd 0x54 F.hbd4_PEER_SEL_ENTRY = e := by
  rw [(showPeer_head port e s).rd (by decide), showHead, State.rd_wr_of_ne _ _ (by decide), State.rd_wr_of_ne _ _ (by decide),
    State.rd_wr_of_ne _ _ (by decide), State.rd_wr_self]
  exact Nat.mod_eq_of_lt e.isLt

theorem showPeer_identity (port e : Nat) (s : State) :
    (showPeer port e s).rd 0x54 F.hbd4_PEER_DATA0_CLOCK_IDENTITY = netOrder 8 (s.peer port e).identity % 2 ^ 64 := by
  rw [(showPeer_head port e s).rd (by decide), showHead, State.rd_wr_of_ne _ _ (by decide), State.rd_wr_of_ne _ _ (by decide),
    State.rd_wr_self]
  rfl

theorem showPeer_role (port e : Nat) (s : State) :
    (showPeer port e s).rd 0x54 F.hbd4_PEER_DATA1_ROLE = (s.peer port e).role % 2 ^ F.hbd4_PEER_DATA1_ROLE.w := by
  rw [(showPeer_head port e s).rd (by decide), showHead, State.rd_wr_self]

end Sys2Proof.Machine

namespace Sys2Proof

open Sys2Proof.Machine

theorem peerAgeOut_frees (port : Fin 1024) (e : Fin 16) (s : State) (ha : s.peerAged port.val e.val = true)
    (hsel : s.peerSelected port.val e.val = false) (hb : s.bandRuns = true)
    (hn : s.heardNow port.val (s.peer port.val e.val) = false) :
    exec (.peerAgeOut port e) s = .next (dropPeer port.val e.val s) ∧
      Only [.regs, .out, .host, .latches, .hat] s (dropPeer port.val e.val s) ∧
      (dropPeer port.val e.val s).peer port.val e.val = {} := by
  have hgo : (s.peerAged port.val e.val && !s.peerSelected port.val e.val && s.bandRuns &&
      !s.heardNow port.val (s.peer port.val e.val)) = true := by rw [ha, hsel, hb, hn]; rfl
  have he : exec (.peerAgeOut port e) s = .next (dropPeer port.val e.val s) := congrArg Host.Outcome.next (State.given_of hgo _)
  refine ⟨he, only_of_exec he ?_, dropPeer_frees _ _ _⟩
  apply execPeerAgeOut_touches <;> simp [Touches.refl]

theorem free_frees (s : State) (hs : s.stopped = false) (hsh : s.shut 0x54 = false)
    (hr : (s.peer (s.rd 0x54 F.hbd4_PEER_SEL_PORT) (s.rd 0x54 F.hbd4_PEER_SEL_ENTRY)).role ≠ 0) :
    ∃ t, exec .free s = .next t ∧
      Only [.regs, .free, .out, .host, .latches, .hat, .mtn] s t ∧
      t.peer (s.rd 0x54 F.hbd4_PEER_SEL_PORT) (s.rd 0x54 F.hbd4_PEER_SEL_ENTRY) = {} := by
  have he : exec .free s = .next _ := congrArg Host.Outcome.next (onSelectedPeer_of hs hsh freePeer)
  refine ⟨_, he, only_of_exec he ?_, freePeer_frees ?_⟩
  · apply execFree_touches <;> simp [Touches.refl]
  · rwa [peer_wakeClock]

theorem makeStatic_marks (s : State) (hs : s.stopped = false) (hsh : s.shut 0x54 = false)
    (hr : (s.peer (s.rd 0x54 F.hbd4_PEER_SEL_PORT) (s.rd 0x54 F.hbd4_PEER_SEL_ENTRY)).role ≠ 0) :
    ∃ t, exec .makeStatic s = .next t ∧
      Only [.regs, .latches, .hat, .mtn] s t ∧
      t.peer (s.rd 0x54 F.hbd4_PEER_SEL_PORT) (s.rd 0x54 F.hbd4_PEER_SEL_ENTRY) =
        { s.peer (s.rd 0x54 F.hbd4_PEER_SEL_PORT) (s.rd 0x54 F.hbd4_PEER_SEL_ENTRY) with isStatic := true } := by
  have he : exec .makeStatic s = .next _ := congrArg Host.Outcome.next (onSelectedPeer_of hs hsh (setStatic true))
  refine ⟨_, he, only_of_exec he ?_, ?_⟩
  · apply execMakeStatic_touches <;> simp [Touches.refl]
  · rw [setStatic_marks (by rwa [peer_wakeClock]), peer_wakeClock]

theorem makeLearned_marks (s : State) (hs : s.stopped = false) (hsh : s.shut 0x54 = false)
    (hr : (s.peer (s.rd 0x54 F.hbd4_PEER_SEL_PORT) (s.rd 0x54 F.hbd4_PEER_SEL_ENTRY)).role ≠ 0) :
    ∃ t, exec .makeLearned s = .next t ∧
      Only [.regs, .latches, .hat, .mtn] s t ∧
      t.peer (s.rd 0x54 F.hbd4_PEER_SEL_PORT) (s.rd 0x54 F.hbd4_PEER_SEL_ENTRY) =
        { s.peer (s.rd 0x54 F.hbd4_PEER_SEL_PORT) (s.rd 0x54 F.hbd4_PEER_SEL_ENTRY) with isStatic := false } := by
  have he : exec .makeLearned s = .next _ := congrArg Host.Outcome.next (onSelectedPeer_of hs hsh (setStatic false))
  refine ⟨_, he, only_of_exec he ?_, ?_⟩
  · apply execMakeLearned_touches <;> simp [Touches.refl]
  · rw [setStatic_marks (by rwa [peer_wakeClock]), peer_wakeClock]

theorem peerSelWrite_shows (port : Fin 1024) (e : Fin 16) (s : State) (hs : s.stopped = false) (hsh : s.shut 0x54 = false) :
    ∃ t, exec (.peerSelWrite port e) s = .next t ∧
      Only [.regs, .latches, .mtn] s t ∧
      t.rd 0x54 F.hbd4_PEER_SEL_PORT = port.val ∧
      t.rd 0x54 F.hbd4_PEER_SEL_ENTRY = e.val ∧
      t.rd 0x54 F.hbd4_PEER_DATA1_ROLE = (s.peer port.val e.val).role % 2 ^ F.hbd4_PEER_DATA1_ROLE.w ∧
      t.rd 0x54 F.hbd4_PEER_DATA0_CLOCK_IDENTITY = netOrder 8 (s.peer port.val e.val).identity % 2 ^ 64 ∧
      RegsOnly [0x54] s t := by
  have he : exec (.peerSelWrite port e) s = .next (showPeer port.val e.val (s.wakeClock 0x54)) :=
    congrArg Host.Outcome.next (State.written_of hs hsh _)
  refine ⟨_, he, only_of_exec he ?_, showPeer_port port _ _, showPeer_entry _ e _, ?_, ?_, ?_⟩
  · apply execPeerSelWrite_touches <;> simp [Touches.refl]
  · rw [showPeer_role, peer_wakeClock]
  · rw [showPeer_identity, peer_wakeClock]
  · exact (RegsOnly.of_regs_eq _ (State.wakeClock_regs s 0x54)).trans (showPeer_regsOnly _ _ _)

/-- Settles O18, command by command. That FREE acts on a STATIC entry and on the SELECTED one is the model's choice, log entry 168;
so is what a stamp with TQ 0xF comes to, log entry 169, which it follows for the departure of a Delay_Req too. -/
theorem ptpCommandsComplete : Obligations.PtpCommandsComplete := by
  unfold Obligations.PtpCommandsComplete
  exact ⟨ptpMessageReceive_received, ptpSyncSend_sends, ptpAnnounceSend_sends, delayReqSend_asks, peerAgeOut_frees, free_frees,
    makeStatic_marks, makeLearned_marks, peerSelWrite_shows⟩

end Sys2Proof
end

section
/-! PROOF. O21: a lane's receiver as its stamps see it: fine trim, wander and CDR lock (R121 to R123). -/

namespace Sys2Proof

open Sys2Proof.Machine

theorem RegsOnly.widen {ps qs : List Nat} {s t : State} (h : RegsOnly ps s t) (hs : ps ⊆ qs) : RegsOnly qs s t :=
  RegsKept.mono h fun _ hk hm => hk (hs hm)

end Sys2Proof

namespace Sys2Proof.Machine

/-! ## The stamp units and what leaves them -/

theorem State.vector_stamps (s : State) (v : Nat) : (s.vector v).stamps = s.stamps :=
  (State.vector_touches (ps := (· ≠ .stamps)) nofun nofun (Touches.refl _ s)).same .stamps (by simp)

theorem State.raise_stamps (s : State) (page cause : Nat) : (s.raise page cause).stamps = s.stamps :=
  (State.raise_touches (ps := (· ≠ .stamps)) nofun nofun nofun nofun (Touches.refl _ s)).same .stamps (by simp)

theorem State.wakeClock_stamps (s : State) (page : Nat) : (s.wakeClock page).stamps = s.stamps := by rw [State.wakeClock_eq]

theorem wander_congr {s t : State} (h : t.stamps = s.stamps) (lane : Nat) : t.wander lane = s.wander lane := by
  unfold State.wander
  rw [h]

theorem wander_vector (s : State) (v lane : Nat) : (s.vector v).wander lane = s.wander lane :=
  wander_congr (State.vector_stamps s v) lane

theorem wander_wakeClock (s : State) (page lane : Nat) : (s.wakeClock page).wander lane = s.wander lane :=
  wander_congr (State.wakeClock_stamps s page) lane

theorem wander_putWander (s : State) (lane : Nat) (w : Wander) : (s.putWander lane w).wander lane = w := SMap.val_put_self _ _ _ _

/-- R129: a lane's record shows in its bits of SUSPECT and FROZEN. -/
theorem putWander_regsOnly (lane : Fin 1024) (w : Wander) (s : State) : RegsOnly [0x59] s (s.putWander lane.val w) := by
  have hi : lane.val / 64 < 16 := by omega
  have hsuspect (t : State) (v : Nat) : RegsOnly [0x59] t (t.wri 0x59 F.hbd9_SUSPECT (lane.val / 64) v) :=
    State.wri_regsOnly t 0x59 (by simp only [F.hbd9_SUSPECT]; omega) v
  have hfrozen (t : State) (v : Nat) : RegsOnly [0x59] t (t.wri 0x59 F.hbd9_FROZEN (lane.val / 64) v) :=
    State.wri_regsOnly t 0x59 (by simp only [F.hbd9_FROZEN]; omega) v
  exact ((RegsOnly.of_regs_eq _ rfl).trans (hsuspect _ _)).trans (hfrozen _ _)

/-! ## Fine trim (R121) -/

theorem trimStep_of {lane : Nat} {s : State} (hf : (s.wander lane).frozen = false)
    (hr : ((s.wander lane).trimAt.all fun a => decide (a + ns 1048576 ≤ s.mono)) = true) (up : Bool) :
    trimStep lane up s = s.putWander lane { s.wander lane with
      trim := if up then (s.wander lane).trim + 1 else (s.wander lane).trim - 1, trimAt := some s.mono } := by
  unfold trimStep
  refine State.given_of ?_ _
  rw [hf, Bool.not_false, Bool.true_and]
  cases h : (s.wander lane).trimAt with
  | none => rfl
  | some a => rwa [h, Option.all_some] at hr

theorem trimFreeze_of {lane : Nat} {windows : List (Fin 257)} {s : State} (hf : (s.wander lane).frozen = false)
    (hw : s.rxLpi lane = true ∨ (windows.all (fun n => decide (n.val < s.rd 0x58 F.hbd8_STAMP_CFG_DENSITY_MIN)) = true ∧
      nsSpan (s.laneRate lane) (s.rd 0x58 F.hbd8_STAMP_CFG_FREEZE_NS) < windowsSpan (s.laneRate lane) windows.length)) :
    trimFreeze lane (windows.map (·.val)) s =
      (s.putWander lane { s.wander lane with frozen := true, freezes := sat 16 ((s.wander lane).freezes + 1) }).vector 60 := by
  unfold trimFreeze
  refine State.given_of ?_ _
  rw [hf, List.all_map, List.length_map]
  rcases hw with hlpi | ⟨hsparse, hlong⟩
  · rw [hlpi]; rfl
  · rw [decide_eq_true hlong, Bool.and_true]
    exact (Bool.or_eq_true _ _).mpr (.inr hsparse)

theorem trimResume_of {lane : Nat} {windows : List (Fin 257)} {s : State} (hf : (s.wander lane).frozen = true)
    (hlpi : s.rxLpi lane = false) (hdense : windows.all (fun n => decide (s.rd 0x58 F.hbd8_STAMP_CFG_DENSITY_MIN ≤ n.val)) = true)
    (hlong : nsSpan (s.laneRate lane) (s.rd 0x58 F.hbd8_STAMP_CFG_FREEZE_NS) ≤ windowsSpan (s.laneRate lane) windows.length) :
    trimResume lane (windows.map (·.val)) s = (s.putWander lane { s.wander lane with frozen := false }).vector 60 := by
  unfold trimResume
  refine State.given_of ?_ _
  rw [hf, hlpi, List.all_map, List.length_map, decide_eq_true hlong, Bool.and_true]
  exact hdense

/-! ## Wander (R122, R123) -/

/-- R122: the samples of a lane's median after one more phase. -/
def State.sampled (s : State) (lane : Nat) (phase : Int) : List Int :=
  if (s.wander lane).frozen then (s.wander lane).samples else (phase :: (s.wander lane).samples).take 1024

/-- R122, R123: a sample on a locked lane leaves a record of it with the phase among its samples, and tells of a change to CLEAN
(vector 58) or to SUSPECT (cause 12, vector 57). -/
theorem wanderSample_cases {lane : Nat} {s : State} (hst : (s.wander lane).state ≠ 0) (phase : Int) (own : Bool) :
    ∃ w, w.samples = s.sampled lane phase ∧
      (wanderSample lane phase own s = s.putWander lane w ∨
        wanderSample lane phase own s = (s.putWander lane w).vector 58 ∨
        wanderSample lane phase own s = ((s.putWander lane w).raise 0x50 12).vector 57) := by
  unfold wanderSample
  extract_lets w exc isClean ps w1
  have hw : w1.samples = s.sampled lane phase := rfl
  clear_value w1 isClean
  rw [if_neg hst]
  split
  · split
    · split
      · exact ⟨_, hw, .inl rfl⟩
      · split
        · exact ⟨_, by exact hw, .inr (.inl rfl)⟩
        · exact ⟨_, by exact hw, .inl rfl⟩
    · split
      · exact ⟨_, by exact hw, .inl rfl⟩
      · exact ⟨_, hw, .inl rfl⟩
  · split
    · exact ⟨_, by exact hw, .inr (.inr rfl)⟩
    · exact ⟨_, by exact hw, .inl rfl⟩

theorem wanderSample_samples {lane : Nat} {s : State} (hst : (s.wander lane).state ≠ 0) (phase : Int) (own : Bool) :
    ((wanderSample lane phase own s).wander lane).samples = s.sampled lane phase := by
  obtain ⟨w, hw, he | he | he⟩ := wanderSample_cases hst phase own
  · rw [he, wander_putWander, hw]
  · rw [he, wander_vector, wander_putWander, hw]
  · rw [he, wander_vector, wander_congr (State.raise_stamps _ _ _), wander_putWander, hw]

theorem wanderSample_regsOnly {lane : Fin 1024} {s : State} (hst : (s.wander lane.val).state ≠ 0) (phase : Int) (own : Bool) :
    RegsOnly [0x50, 0x59] s (wanderSample lane.val phase own s) := by
  obtain ⟨w, -, he⟩ := wanderSample_cases hst phase own
  have hput : RegsOnly [0x50, 0x59] s (s.putWander lane.val w) := (putWander_regsOnly lane w s).widen (by decide)
  rcases he with he | he | he
  · rw [he]; exact hput
  · rw [he]; exact RegsKept.vector hput 58
  · rw [he]
    exact RegsKept.vector (hput.trans ((raise_regsOnly _ 0x50 (cause := 12) (by decide)).widen (by decide))) 57

/-! ## CDR lock (R123) -/

/-- The registers of the lane pages lie off those that a lane's record shows in. -/
theorem rd_lan_putWander (lane : Fin 1024) (w : Wander) (s : State) {f : Fld} (hf : f.off * 8 + f.lo < 0x8000) :
    (s.putWander lane.val w).rd (lan lane.val) f = s.rd (lan lane.val) f := by
  refine RegsKept.rd (putWander_regsOnly lane w s) ?_
  have hp : pageOfKey (f.key (lan lane.val) 0 0) = lan lane.val := by unfold pageOfKey Fld.key; omega
  rw [hp, List.mem_singleton, lan]
  omega

theorem wrCdrLock_regsOnly (lane : Fin 1024) (v : Nat) (s : State) :
    RegsOnly [lan lane.val, 0x59] s (s.wr (lan lane.val) F.lan_LANE_STATUS_CDR_LOCK v) :=
  (State.wr_regsOnly s _ (f := F.lan_LANE_STATUS_CDR_LOCK) (by decide) v).widen (List.cons_subset_cons _ (List.nil_subset _))

theorem putWander_regsOnly_lan (lane : Fin 1024) (w : Wander) (s : State) : RegsOnly [lan lane.val, 0x59] s (s.putWander lane.val w) :=
  (putWander_regsOnly lane w s).widen (List.subset_cons_self _ _)

end Sys2Proof.Machine

namespace Sys2Proof

open Sys2Proof.Machine

theorem fineTrimStep_steps (lane : Fin 1024) (up : Bool) (s : State) (hs : s.stopped = false)
    (hf : (s.wander lane.val).frozen = false)
    (hr : ((s.wander lane.val).trimAt.all fun a => decide (a + ns 1048576 ≤ s.mono)) = true) :
    ∃ t, exec (.fineTrimStep lane up) s = .next t ∧
      Only [.regs, .stamps] s t ∧
      (t.wander lane.val).trim = (if up then (s.wander lane.val).trim + 1 else (s.wander lane.val).trim - 1) ∧
      (t.wander lane.val).trimAt = some s.mono ∧
      RegsOnly [0x59] s t := by
  have he : exec (.fineTrimStep lane up) s = .next _ :=
    congrArg Host.Outcome.next ((State.running_of hs _).trans (trimStep_of hf hr up))
  refine ⟨_, he, only_of_exec he ?_, by rw [wander_putWander], by rw [wander_putWander], putWander_regsOnly _ _ _⟩
  apply execFineTrimStep_touches <;> simp [Touches.refl]

theorem fineTrimFreeze_freezes (lane : Fin 1024) (windows : List (Fin 257)) (s : State) (hf : (s.wander lane.val).frozen = false)
    (hw : s.rxLpi lane.val = true ∨ (windows.all (fun n => decide (n.val < s.rd 0x58 F.hbd8_STAMP_CFG_DENSITY_MIN)) = true ∧
      nsSpan (s.laneRate lane.val) (s.rd 0x58 F.hbd8_STAMP_CFG_FREEZE_NS) < windowsSpan (s.laneRate lane.val) windows.length)) :
    ∃ t, exec (.fineTrimFreeze lane windows) s = .next t ∧
      Only [.regs, .out, .host, .stamps] s t ∧
      (t.wander lane.val).frozen = true ∧
      (t.wander lane.val).freezes = sat 16 ((s.wander lane.val).freezes + 1) ∧
      RegsOnly [0x59] s t := by
  have he : exec (.fineTrimFreeze lane windows) s = .next _ := congrArg Host.Outcome.next (trimFreeze_of hf hw)
  refine ⟨_, he, only_of_exec he ?_, by rw [wander_vector, wander_putWander], by rw [wander_vector, wander_putWander],
    RegsKept.vector (putWander_regsOnly _ _ _) 60⟩
  apply execFineTrimFreeze_touches <;> simp [Touches.refl]

theorem fineTrimResume_resumes (lane : Fin 1024) (windows : List (Fin 257)) (s : State) (hf : (s.wander lane.val).frozen = true)
    (hlpi : s.rxLpi lane.val = false)
    (hdense : windows.all (fun n => decide (s.rd 0x58 F.hbd8_STAMP_CFG_DENSITY_MIN ≤ n.val)) = true)
    (hlong : nsSpan (s.laneRate lane.val) (s.rd 0x58 F.hbd8_STAMP_CFG_FREEZE_NS) ≤ windowsSpan (s.laneRate lane.val) windows.length) :
    ∃ t, exec (.fineTrimResume lane windows) s = .next t ∧
      Only [.regs, .out, .host, .stamps] s t ∧
      (t.wander lane.val).frozen = false ∧
      RegsOnly [0x59] s t := by
  have he : exec (.fineTrimResume lane windows) s = .next _ := congrArg Host.Outcome.next (trimResume_of hf hlpi hdense hlong)
  refine ⟨_, he, only_of_exec he ?_, by rw [wander_vector, wander_putWander], RegsKept.vector (putWander_regsOnly _ _ _) 60⟩
  apply execFineTrimResume_touches <;> simp [Touches.refl]

theorem wanderSample_joins (lane : Fin 1024) (ph : Int) (s : State) (hst : (s.wander lane.val).state ≠ 0) :
    ∃ t, exec (.wanderSample lane ph) s = .next t ∧
      Only [.regs, .out, .host, .latches, .stamps] s t ∧
      (t.wander lane.val).samples =
        (if (s.wander lane.val).frozen then (s.wander lane.val).samples else (ph :: (s.wander lane.val).samples).take 1024) ∧
      RegsOnly [0x50, 0x59] s t := by
  refine ⟨_, rfl, only_of_exec (c := .wanderSample lane ph) rfl ?_, wanderSample_samples hst ph false,
    wanderSample_regsOnly hst ph false⟩
  apply execWanderSample_touches <;> simp [Touches.refl]

theorem cdrLock_locks (lane : Fin 1024) (s : State) :
    ∃ t, exec (.cdrLock lane) s = .next t ∧
      Only [.regs, .stamps] s t ∧
      t.rd (lan lane.val) F.lan_LANE_STATUS_CDR_LOCK = 1 ∧
      (t.wander lane.val).state = (if (s.wander lane.val).state = 0 then 1 else (s.wander lane.val).state) ∧
      RegsOnly [lan lane.val, 0x59] s t := by
  have he : exec (.cdrLock lane) s = .next (cdrLock lane.val s) := rfl
  refine ⟨_, he, only_of_exec he ?_, ?_⟩
  · apply execCdrLock_touches <;> simp [Touches.refl]
  · have hlock : (s.wr (lan lane.val) F.lan_LANE_STATUS_CDR_LOCK 1).rd (lan lane.val) F.lan_LANE_STATUS_CDR_LOCK = 1 :=
      State.rd_wr_self _ _ _ 1
    have hwr := wrCdrLock_regsOnly lane 1 s
    unfold cdrLock
    dsimp only
    split
    · exact ⟨(rd_lan_putWander lane _ _ (by decide)).trans hlock, by rw [wander_putWander], hwr.trans (putWander_regsOnly_lan _ _ _)⟩
    · exact ⟨hlock, rfl, hwr⟩

theorem cdrLockLoss_unlocks (lane : Fin 1024) (s : State) :
    ∃ t, exec (.cdrLockLoss lane) s = .next t ∧
      Only [.regs, .stamps] s t ∧
      t.rd (lan lane.val) F.lan_LANE_STATUS_CDR_LOCK = 0 ∧
      (t.wander lane.val).state = 0 ∧
      (t.wander lane.val).samples = [] ∧
      RegsOnly [lan lane.val, 0x59] s t := by
  have he : exec (.cdrLockLoss lane) s = .next (cdrUnlock lane.val s) := rfl
  refine ⟨_, he, only_of_exec he ?_, (rd_lan_putWander lane _ _ (by decide)).trans ((State.rd_wr_self _ _ _ 0).trans (Nat.zero_mod _)),
    by rw [cdrUnlock, wander_putWander], by rw [cdrUnlock, wander_putWander],
    (wrCdrLock_regsOnly lane 0 s).trans (putWander_regsOnly_lan _ _ _)⟩
  apply execCdrLockLoss_touches <;> simp [Touches.refl]

end Sys2Proof
end

section
/-! PROOF. O21: TQ changes, the calibration trims and the lane status (R118, R127, R129). -/

namespace Sys2Proof.Machine

/-! ## Event records leave all but the ledger (R364) -/

theorem formEvent_same (stream event : Nat) (at_ : T80) (payload : List Byte) (s : State) (p : Piece) (hp : p ∉ [.ldg]) :
    Piece.same s (formEvent stream event at_ payload s) p :=
  (formEvent_touches (ps := (· ∈ [.ldg])) (by decide) (Touches.refl _ s)).same p hp

theorem foldl_formEvent_stamps {α : Type} (stream : α → Nat) (event : Nat) (at_ : T80) (payload : α → List Byte) (l : List α)
    (s : State) : (l.foldl (fun t x => formEvent (stream x) event at_ (payload x) t) s).stamps = s.stamps :=
  (Touches.foldl (ps := (· ∈ [.ldg])) (fun _ _ ht => formEvent_touches (by decide) ht) (Touches.refl _ s)).same .stamps (by decide)

theorem tqChange_hat {e : T80} {code : Nat} {rest : List (T80 × Nat)} {s : State} (hq : s.hat.tqChanges = (e, code) :: rest)
    (hd : e ≤ s.now) :
    (tqChange s).hat = { s.hat with stampTq := code, tqChanges := rest, tqPast := (e, code) :: s.hat.tqPast } := by
  unfold tqChange
  rw [hq]
  dsimp only
  rw [State.given_of (decide_eq_true hd)]
  exact formEvent_same _ _ _ _ _ .hat (by decide)

/-! ## The CAL registers -/

/-- Stated for a bare state, as `State.regs_with_hat` is. -/
theorem State.regs_with_stamps (s : State) (x : Stamps) : ({ s with stamps := x } : State).regs = s.regs := rfl

/-- The bit addresses of the registers that show the selected lane and rate, and PENDING (R129). -/
def calKeys : List Nat :=
  [F.hbd8_CAL_RX_FACTORY, F.hbd8_CAL_TX_FACTORY, F.hbd8_CAL_RX_TRIM, F.hbd8_CAL_TX_TRIM, F.hbd8_CAL_STATUS_FACTORY_MISSING,
    F.hbd8_CAL_STATUS_PENDING].map (·.key 0x58 0 0)

theorem showCal_regsKept (s : State) : RegsKept (· ∉ calKeys) s (showCal s) :=
  ((((((RegsKept.refl _ s).wr (by decide) _).wr (by decide) _).wr (by decide) _).wr (by decide) _).wr (by decide) _).wr (by decide) _

theorem showCal_regsOnly (s : State) : RegsOnly [0x58] s (showCal s) := by
  have hpage : ∀ k ∈ calKeys, pageOfKey k ∈ [0x58] := by decide
  exact (showCal_regsKept s).mono fun k hk hm => hk (hpage k hm)

theorem showCal_stamps (s : State) : (showCal s).stamps = s.stamps := rfl

/-! ## Trims (R127, R129) -/

/-- R127: an APPLY's E, the first multiple of 1,024 ns at least 256 ns on. -/
def State.applyAt (s : State) : T80 := (s.now + ns 256 + ns 1024 - 1) / ns 1024 * ns 1024

/-- R127: the trims as an APPLY leaves them. -/
def CalRec.applied (c : CalRec) : CalRec :=
  { c with rxOld := c.rxTrim, txOld := c.txTrim, rxTrim := c.rxStaged, txTrim := c.txStaged }

/-- R127: the stamp units as an APPLY leaves them, with the keys of the trims that it changes. -/
def State.appliedStamps (s : State) : Stamps :=
  { s.stamps with
    cal := s.stamps.cal.map fun p => (p.1, p.2.applied)
    applied := s.applyAt
    applying := some ((s.stamps.cal.filter fun p => p.2.rxStaged != p.2.rxTrim || p.2.txStaged != p.2.txTrim).map (·.1)) }

/-- R127: what an APPLY shows of its E, besides the selected trims. -/
def showApply (e : T80) (s : State) : State :=
  ((s.wr 0x58 F.hbd8_CAL_STATUS_APPLY_BUSY 1).wrPair 0x58 F.hbd8_CAL_APPLIED_NS F.hbd8_CAL_APPLIED_FRAC e).bump
    0x58 F.hbd8_CAL_STATUS_APPLIES

theorem applyTrims_of {s : State} (hb : s.on 0x58 F.hbd8_CAL_STATUS_APPLY_BUSY = false) :
    applyTrims s = showCal (showApply s.applyAt { s with stamps := s.appliedStamps }) := if_neg (by rw [hb]; decide)

theorem showApply_stamps (e : T80) (s : State) : (showApply e s).stamps = s.stamps := State.bump_stamps _ _ _ _

theorem showApply_busy (e : T80) (s : State) : (showApply e s).rd 0x58 F.hbd8_CAL_STATUS_APPLY_BUSY = 1 := by
  have hpair := (RegsKept.refl (· = F.hbd8_CAL_STATUS_APPLY_BUSY.key 0x58 0 0) (s.wr 0x58 F.hbd8_CAL_STATUS_APPLY_BUSY 1)).wrPair
    (page := 0x58) (ns := F.hbd8_CAL_APPLIED_NS) (frac := F.hbd8_CAL_APPLIED_FRAC) (by decide) (by decide) e
  have hall := hpair.bumpi (page := 0x58) (f := F.hbd8_CAL_STATUS_APPLIES) (i := 0) (by decide) 1
  exact (hall.rd rfl).trans (State.rd_wr_self _ _ _ 1)

theorem showApply_regsOnly (e : T80) (s : State) : RegsOnly [0x58] s (showApply e s) :=
  (((RegsKept.refl (pageOfKey · ∉ [0x58]) s).wr (by decide) _).wrPair (by decide) (by decide) _).bumpi (by decide) 1

theorem applyTrims_stamps {s : State} (hb : s.on 0x58 F.hbd8_CAL_STATUS_APPLY_BUSY = false) :
    (applyTrims s).stamps = s.appliedStamps := by rw [applyTrims_of hb, showCal_stamps, showApply_stamps]

theorem applyTrims_busy {s : State} (hb : s.on 0x58 F.hbd8_CAL_STATUS_APPLY_BUSY = false) :
    (applyTrims s).rd 0x58 F.hbd8_CAL_STATUS_APPLY_BUSY = 1 := by
  rw [applyTrims_of hb, (showCal_regsKept _).rd (by decide), showApply_busy]

theorem applyTrims_regsOnly {s : State} (hb : s.on 0x58 F.hbd8_CAL_STATUS_APPLY_BUSY = false) : RegsOnly [0x58] s (applyTrims s) := by
  rw [applyTrims_of hb]
  exact ((RegsOnly.of_regs_eq _ (State.regs_with_stamps s _)).trans (showApply_regsOnly _ _)).trans (showCal_regsOnly _)

/-- R129: the staged trims as a DISCARD leaves them. -/
def State.discarded (s : State) (c : CalRec) : CalRec := { c with rxStaged := s.rxForce c, txStaged := s.txForce c }

theorem discardTrims_cal (s : State) :
    (discardTrims s).stamps.cal = s.stamps.cal.map fun p => (p.1, s.discarded p.2) := rfl

theorem discardTrims_regsOnly (s : State) : RegsOnly [0x58] s (discardTrims s) :=
  (RegsOnly.of_regs_eq _ (State.regs_with_stamps s _)).trans (showCal_regsOnly _)

/-- What stands for a key after a change of every value. -/
theorem SMap.at?_map {α β : Type} (f : α → β) (m : SMap α) (k : Nat) :
    SMap.at? (m.map fun p => (p.1, f p.2)) k = (m.at? k).map f := by
  induction m with
  | nil => rfl
  | cons p r ih =>
    obtain ⟨a, x⟩ := p
    rw [List.map_cons, SMap.at?, SMap.at?, ih]
    split <;> rfl

/-- R129: a DISCARD leaves the trims in force, of every lane and rate. -/
theorem cal_discardTrims (k : Nat) (s : State) :
    ((discardTrims s).cal k).rxTrim = (s.cal k).rxTrim ∧ ((discardTrims s).cal k).txTrim = (s.cal k).txTrim := by
  unfold State.cal SMap.val
  rw [discardTrims_cal, SMap.at?_map]
  cases s.stamps.cal.at? k <;> exact ⟨rfl, rfl⟩

theorem trimEffect_stamps {keys : List Nat} {s : State} (ha : s.stamps.applying = some keys) (hd : s.stamps.applied ≤ s.now) :
    (trimEffect s).stamps = { s.stamps with applying := none } := by
  unfold trimEffect
  rw [ha]
  dsimp only
  rw [State.given_of (decide_eq_true hd), showCal_stamps]
  exact foldl_formEvent_stamps _ _ _ _ keys _

/-- R127: the trims as a save of those in force leaves them. -/
def CalRec.saved (c : CalRec) : CalRec := { c with rxSaved := c.rxTrim, txSaved := c.txTrim }

/-- R127: a save that succeeds. -/
def savedTrims (s : State) : State :=
  let s1 := s.wr 0x58 F.hbd8_CAL_STATUS_APPLY_BUSY 0
  { s1 with stamps := { s1.stamps with cal := s1.stamps.cal.map fun p => (p.1, p.2.saved) } }

theorem saveTrims_of {s : State} (hb : s.on 0x58 F.hbd8_CAL_STATUS_APPLY_BUSY = true) (ha : s.stamps.applying = none) (ok : Bool) :
    saveTrims ok s = (if ok then savedTrims s
      else (s.wr 0x58 F.hbd8_CAL_STATUS_APPLY_BUSY 0).set1 0x58 F.hbd8_CAL_STATUS_SAVE_ERR).vector 61 :=
  State.given_of (by rw [hb, ha]; rfl) _

/-! ## STAT_SEL's window (R129) -/

theorem showStat_fields (lane : Nat) (s : State) :
    (showStat lane s).rd 0x5A F.hbd10_STAT_SEL_LANE = lane % 2 ^ 10 ∧
      (showStat lane s).rd 0x5A F.hbd10_WANDER_STATUS_STATE = (s.wander lane).state % 4 ∧
      (showStat lane s).rd 0x5A F.hbd10_STAMP_COUNTS_SUSPECT_STAMPS = (s.wander lane).suspectStamps % 2 ^ 32 := by
  simp (disch := decide) only [showStat, State.rd_wr_of_ne, State.rd_wr_self]
  exact ⟨rfl, rfl, rfl⟩

theorem showStat_regsOnly (lane : Nat) (s : State) : RegsOnly [0x5A] s (showStat lane s) :=
  ((((((((((RegsKept.refl (pageOfKey · ∉ [0x5A]) s).wr (by decide) _).wr (by decide) _).wr (by decide) _).wr (by decide) _).wr
    (by decide) _).wr (by decide) _).wr (by decide) _).wr (by decide) _).wr (by decide) _).wr (by decide) _ |>.wr (by decide) _

theorem wander_showStat (lane k : Nat) (s : State) : (showStat lane s).wander k = s.wander k := wander_congr rfl k

end Sys2Proof.Machine

namespace Sys2Proof

open Sys2Proof.Machine

theorem tqChange_takesEffect (e : T80) (code : Nat) (rest : List (T80 × Nat)) (s : State)
    (hq : s.hat.tqChanges = (e, code) :: rest) (hd : e ≤ s.now) :
    ∃ t, exec .tqChange s = .next t ∧
      Only [.hat, .ldg] s t ∧
      t.hat.stampTq = code ∧
      t.hat.tqChanges = rest := by
  have he : exec .tqChange s = .next (tqChange s) := rfl
  refine ⟨_, he, only_of_exec he ?_, by rw [tqChange_hat hq hd], by rw [tqChange_hat hq hd]⟩
  apply execTqChange_touches <;> simp [Touches.refl]

theorem apply_puts (s : State) (hs : s.stopped = false) (hsh : s.shut 0x58 = false)
    (hb : s.on 0x58 F.hbd8_CAL_STATUS_APPLY_BUSY = false) :
    ∃ t, exec .apply s = .next t ∧
      Only [.regs, .latches, .stamps, .mtn] s t ∧
      t.rd 0x58 F.hbd8_CAL_STATUS_APPLY_BUSY = 1 ∧
      t.stamps.applied = (s.now + ns 256 + ns 1024 - 1) / ns 1024 * ns 1024 ∧
      (∀ p ∈ t.stamps.cal, p.2.rxTrim = p.2.rxStaged ∧ p.2.txTrim = p.2.txStaged) ∧
      RegsOnly [0x58] s t := by
  have he : exec .apply s = .next (applyTrims (s.wakeClock 0x58)) := congrArg Host.Outcome.next (State.written_of hs hsh _)
  have hb' := (State.on_wakeClock s 0x58 0x58 F.hbd8_CAL_STATUS_APPLY_BUSY).trans hb
  refine ⟨_, he, only_of_exec he ?_, applyTrims_busy hb', ?_, ?_,
    (RegsOnly.of_regs_eq _ (State.wakeClock_regs s 0x58)).trans (applyTrims_regsOnly hb')⟩
  · apply execApply_touches <;> simp [Touches.refl]
  · rw [applyTrims_stamps hb', State.appliedStamps, State.applyAt, State.wakeClock_now]
  · rw [applyTrims_stamps hb', State.appliedStamps, List.forall_mem_map]
    exact fun p _ => ⟨rfl, rfl⟩

theorem discard_returns (s : State) (hs : s.stopped = false) (hsh : s.shut 0x58 = false) :
    ∃ t, exec .discard s = .next t ∧
      Only [.regs, .latches, .stamps, .mtn] s t ∧
      (∀ p ∈ t.stamps.cal, p.2.rxStaged = s.rxForce p.2 ∧ p.2.txStaged = s.txForce p.2) ∧
      (∀ k, (t.cal k).rxTrim = (s.cal k).rxTrim ∧ (t.cal k).txTrim = (s.cal k).txTrim) ∧
      RegsOnly [0x58] s t := by
  have he : exec .discard s = .next (discardTrims (s.wakeClock 0x58)) := congrArg Host.Outcome.next (State.written_of hs hsh _)
  have hstamps := State.wakeClock_stamps s 0x58
  refine ⟨_, he, only_of_exec he ?_, ?_, fun k => ?_,
    (RegsOnly.of_regs_eq _ (State.wakeClock_regs s 0x58)).trans (discardTrims_regsOnly _)⟩
  · apply execDiscard_touches <;> simp [Touches.refl]
  · rw [discardTrims_cal, List.forall_mem_map]
    intro p _
    unfold State.discarded State.rxForce State.txForce
    rw [hstamps]
    exact ⟨rfl, rfl⟩
  · have hcal := cal_discardTrims k (s.wakeClock 0x58)
    have hk : (s.wakeClock 0x58).cal k = s.cal k := by rw [State.cal, hstamps, State.cal]
    rwa [hk] at hcal

theorem calTrimEffect_ends (keys : List Nat) (s : State) (ha : s.stamps.applying = some keys) (hd : s.stamps.applied ≤ s.now) :
    ∃ t, exec .calTrimEffect s = .next t ∧
      Only [.regs, .stamps, .ldg] s t ∧
      t.stamps.applying = none ∧
      t.stamps.cal = s.stamps.cal := by
  have he : exec .calTrimEffect s = .next (trimEffect s) := rfl
  refine ⟨_, he, only_of_exec he ?_, by rw [trimEffect_stamps ha hd], by rw [trimEffect_stamps ha hd]⟩
  apply execCalTrimEffect_touches <;> simp [Touches.refl]

theorem calSaveDone_ends (ok : Bool) (s : State) (hs : s.stopped = false) (hb : s.on 0x58 F.hbd8_CAL_STATUS_APPLY_BUSY = true)
    (ha : s.stamps.applying = none) :
    ∃ t, exec (.calSaveDone ok) s = .next t ∧
      Only [.regs, .out, .host, .latches, .stamps] s t ∧
      t.rd 0x58 F.hbd8_CAL_STATUS_APPLY_BUSY = 0 ∧
      (ok = true → ∀ p ∈ t.stamps.cal, p.2.rxSaved = p.2.rxTrim ∧ p.2.txSaved = p.2.txTrim) ∧
      (ok = false → t.rd 0x58 F.hbd8_CAL_STATUS_SAVE_ERR = 1 ∧ t.stamps = s.stamps) ∧
      RegsOnly [0x58] s t := by
  have he : exec (.calSaveDone ok) s = .next _ := congrArg Host.Outcome.next ((State.running_of hs _).trans (saveTrims_of hb ha ok))
  have honly := only_of_exec (ps := [.regs, .out, .host, .latches, .stamps]) he
    (by apply execCalSaveDone_touches <;> simp [Touches.refl])
  have hidle : (s.wr 0x58 F.hbd8_CAL_STATUS_APPLY_BUSY 0).rd 0x58 F.hbd8_CAL_STATUS_APPLY_BUSY = 0 :=
    (State.rd_wr_self _ _ _ 0).trans (Nat.zero_mod _)
  have hwr := State.wr_regsOnly s 0x58 (f := F.hbd8_CAL_STATUS_APPLY_BUSY) (by decide) 0
  refine ⟨_, he, honly, ?_⟩
  rw [State.rd_vector, State.rd_vector, State.vector_stamps]
  cases ok with
  | true =>
    have hsaved : RegsOnly [0x58] s (savedTrims s) := RegsKept.congr hwr rfl
    refine ⟨hidle, fun _ => ?_, nofun, RegsKept.vector hsaved 61⟩
    exact List.forall_mem_map.2 fun p _ => ⟨rfl, rfl⟩
  | false =>
    have hset : RegsOnly [0x58] s ((s.wr 0x58 F.hbd8_CAL_STATUS_APPLY_BUSY 0).set1 0x58 F.hbd8_CAL_STATUS_SAVE_ERR) :=
      RegsKept.set1 hwr (by decide)
    have hkept := (RegsKept.refl (· = F.hbd8_CAL_STATUS_APPLY_BUSY.key 0x58 0 0) (s.wr 0x58 F.hbd8_CAL_STATUS_APPLY_BUSY 0)).set1
      (page := 0x58) (f := F.hbd8_CAL_STATUS_SAVE_ERR) (by decide)
    exact ⟨(hkept.rd rfl).trans hidle, nofun, fun _ => ⟨State.rd_set1_self _ _ _, rfl⟩, RegsKept.vector hset 61⟩

theorem statSelWrite_shows (lane : Fin 1024) (s : State) (hs : s.stopped = false) (hsh : s.shut 0x5A = false) :
    ∃ t, exec (.statSelWrite lane) s = .next t ∧
      Only [.regs, .latches, .mtn] s t ∧
      t.rd 0x5A F.hbd10_STAT_SEL_LANE = lane.val ∧
      t.rd 0x5A F.hbd10_WANDER_STATUS_STATE = (s.wander lane.val).state % 4 ∧
      t.rd 0x5A F.hbd10_STAMP_COUNTS_SUSPECT_STAMPS = (s.wander lane.val).suspectStamps % 2 ^ 32 ∧
      RegsOnly [0x5A] s t := by
  have he : exec (.statSelWrite lane) s = .next (showStat lane.val (s.wakeClock 0x5A)) :=
    congrArg Host.Outcome.next (State.written_of hs hsh _)
  obtain ⟨hlane, hstate, hsuspect⟩ := showStat_fields lane.val (s.wakeClock 0x5A)
  rw [wander_wakeClock] at hstate hsuspect
  refine ⟨_, he, only_of_exec he ?_, hlane.trans (Nat.mod_eq_of_lt lane.isLt), hstate, hsuspect,
    (RegsOnly.of_regs_eq _ (State.wakeClock_regs s 0x5A)).trans (showStat_regsOnly _ _)⟩
  apply execStatSelWrite_touches <;> simp [Touches.refl]

theorem statClear_zeroes (lane : Fin 1024) (s : State) (hs : s.stopped = false) (hsh : s.shut 0x5A = false) :
    ∃ t, exec (.statClear lane) s = .next t ∧
      Only [.regs, .latches, .stamps, .mtn] s t ∧
      (t.wander lane.val).suspectStamps = 0 ∧
      (t.wander lane.val).maxExcursion = 0 ∧
      (t.wander lane.val).samples = (s.wander lane.val).samples ∧
      t.rd 0x5A F.hbd10_STAMP_COUNTS_SUSPECT_STAMPS = 0 ∧
      RegsOnly [0x59, 0x5A] s t := by
  have he : exec (.statClear lane) s = .next (statClear lane.val (s.wakeClock 0x5A)) :=
    congrArg Host.Outcome.next (State.written_of hs hsh _)
  have hput (w : Wander) : RegsOnly [0x59, 0x5A] s ((s.wakeClock 0x5A).putWander lane.val w) :=
    (RegsOnly.of_regs_eq _ (State.wakeClock_regs s 0x5A)).trans ((putWander_regsOnly lane w _).widen (by decide))
  have honly := only_of_exec (ps := [.regs, .latches, .stamps, .mtn]) he (by apply execStatClear_touches <;> simp [Touches.refl])
  refine ⟨_, he, honly, ?_⟩
  unfold statClear
  dsimp only
  rw [wander_showStat, wander_putWander, (showStat_fields _ _).2.2, wander_putWander, wander_wakeClock]
  exact ⟨rfl, rfl, rfl, Nat.zero_mod _, (hput _).trans ((showStat_regsOnly _ _).widen (by decide))⟩

/-- Settles O21, command by command: past its gate each leaves the lane's record, or the trims, that its rule gives. -/
theorem stampCommandsComplete : Obligations.StampCommandsComplete := by
  unfold Obligations.StampCommandsComplete
  exact ⟨tqChange_takesEffect, fineTrimStep_steps, fineTrimFreeze_freezes, fineTrimResume_resumes, wanderSample_joins, cdrLock_locks,
    cdrLockLoss_unlocks, apply_puts, discard_returns, calTrimEffect_ends, calSaveDone_ends, statSelWrite_shows, statClear_zeroes⟩

end Sys2Proof
end

section
/-! PROOF. O23: a lane's loss of lock on a port that is UP, where LOCAL_FAULT holds a number of more than one bit (R145, R158). -/

namespace Sys2Proof.Machine

theorem exec_laneLockLoss {s : State} (hs : s.stopped = false) (lane : Fin 1024) (back : Bool) :
    exec (.laneLockLoss lane back) s = .next (lockLoss lane.val back s) :=
  congrArg Host.Outcome.next (State.running_of hs _)

/-- Port 0 is configured and UP, and its LOCAL_FAULT reads 2: a number that no write of the model puts into a field of one bit, but
that a state may list for it. -/
def wideLocalFault : State :=
  let s := ((State.reset.wr (prt 0) F.hdr_PAGE_STATUS_CONFIGURED 1).wr (prt 0) F.prt_LINK_STATUS_STEP 7).wr (prt 0) F.prt_LINK_STATUS_UP 1
  { s with regs := s.regs.enter (F.prt_LINK_STATUS_LOCAL_FAULT.key (prt 0) 0 0) 2 }

/-- LOCAL_FAULT stands already, so that the loss of lane 0's lock does not write it. -/
theorem localFault_after_lockLoss : (lockLoss 0 false wideLocalFault).rd (prt 0) F.prt_LINK_STATUS_LOCAL_FAULT = 2 := by
  decide +kernel

end Sys2Proof.Machine

namespace Sys2Proof

open Sys2Proof.Machine

/-- Refutes O23: a lane of an UP port that loses its lock sets LOCAL_FAULT only where it does not stand. The clause says that it reads
1 afterwards, and no hypothesis of it bounds what it read before: where it reads 2, it stays 2. -/
theorem not_ladderCommandsComplete : ¬ Obligations.LadderCommandsComplete := by
  unfold Obligations.LadderCommandsComplete
  intro h
  obtain ⟨-, -, -, -, -, -, -, -, -, -, -, -, -, -, -, -, hlost, -⟩ := h
  obtain ⟨t, ht, -, -, hfault⟩ := hlost 0 0 wideLocalFault rfl (by decide +kernel) (by decide +kernel)
  rw [exec_laneLockLoss rfl] at ht
  have hte := Host.Outcome.next.inj ht
  rw [← hte] at hfault
  exact absurd (localFault_after_lockLoss.symm.trans hfault) (by decide)

end Sys2Proof
end

section
/-! SUPPORT. A port's record, its counters and its vector, as the commands of lanes and ports leave them. -/

namespace Sys2Proof.Machine

/-! ## A port's record -/

@[simp] theorem State.portRec_putPortRec (s : State) (p : Nat) (x : PortRec) : (s.putPortRec p x).portRec p = x :=
  SMap.val_put_self _ _ _ _

theorem State.putPortRec_regs (s : State) (p : Nat) (x : PortRec) : (s.putPortRec p x).regs = s.regs := rfl

theorem State.portRec_congr {s t : State} (h : t.brim = s.brim) (p : Nat) : t.portRec p = s.portRec p := by
  unfold State.portRec
  rw [h]

theorem State.raise_brim (s : State) (page cause : Nat) : (s.raise page cause).brim = s.brim :=
  (State.raise_touches (ps := (· ≠ .brim)) nofun nofun nofun nofun (Touches.refl _ s)).same .brim (by simp)

theorem State.count_brim (s : State) (event inst : Nat) : (s.count event inst).brim = s.brim :=
  (State.count_touches (ps := (· ≠ .brim)) nofun nofun (Touches.refl _ s)).same .brim (by simp)

theorem showPreempt_brim (p : Nat) (s : State) : (showPreempt p s).brim = s.brim :=
  (showPreempt_touches (ps := (· ≠ .brim)) nofun nofun nofun (Touches.refl _ s)).same .brim (by simp)

theorem showPreempt_gnt (p : Nat) (s : State) : (showPreempt p s).gnt = s.gnt :=
  (showPreempt_touches (ps := (· ≠ .gnt)) nofun nofun nofun (Touches.refl _ s)).same .gnt (by simp)

theorem sendPfc_palm (p : Nat) (prs : List Nat) (quanta : Nat) (s : State) : (sendPfc p prs quanta s).palm = s.palm :=
  (sendPfc_touches (ps := (· ≠ .palm)) nofun nofun nofun (Touches.refl _ s)).same .palm (by simp)

theorem State.configured_congr {s t : State} (h : t.regs = s.regs) (p : Nat) : t.configured p = s.configured p := by
  unfold State.configured State.on State.rd
  rw [State.rdx_congr h]

/-- A port's page that is open is that of a configured port (R44). -/
theorem State.configured_of_open {s : State} (port : Fin 1024) (h : s.shut (prt port.val) = false) : s.configured port.val = true := by
  have hp : 0xC00 ≤ prt port.val ∧ prt port.val ≤ 0xFFF := by unfold prt; omega
  have hsub : prt port.val - 0xC00 = port.val := by unfold prt; omega
  simpa [State.shut, hp, hsub] using (Bool.or_eq_false_iff.1 h).2

/-! ## Registers -/

/-- Fields at different places of their pages have different keys, whatever the pages. -/
theorem Fld.key_ne_of_pages {f g : Fld} (h : f.off * 8 + f.lo ≠ g.off * 8 + g.lo) (hf : f.off * 8 + f.lo < 0x8000)
    (hg : g.off * 8 + g.lo < 0x8000) (p q : Nat) : f.key p 0 0 ≠ g.key q 0 0 := by
  simp only [Fld.key]
  omega

/-- A bit address of a page before the counters' pages (R42, R390). -/
def beforeCounters (k : Nat) : Prop := k < 0x1000 * 0x8000

theorem beforeCounters_key_prt (port : Fin 1024) {f : Fld} {j : Nat} (hf : f.off * 8 + f.lo + f.bst * j < 0x8000) :
    beforeCounters (f.key (prt port.val) 0 j) := by
  unfold beforeCounters Fld.key prt
  omega

/-- A fixed counter lies on a counters' page (R390). -/
theorem le_counterAddr {event inst a : Nat} (h : counterAddr event inst = some a) : 0x1000 * 0x1000 ≤ a := by
  unfold counterAddr at h
  split at h <;> cases h <;> omega

theorem State.addBw_regs (s : State) (port : Nat) (sent : Bool) (n : Nat) (at_ : T80) : (s.addBw port sent n at_).regs = s.regs := by
  unfold State.addBw
  dsimp only
  split <;> rfl

section
variable {K : Nat → Prop} {s t : State}

/-- An event counts on the counters' pages alone. -/
theorem RegsKept.countEvent (h : RegsKept K s t) (hK : ∀ k, K k → beforeCounters k) (event inst n : Nat) (when_ : Option T80) :
    RegsKept K s (t.count event inst n when_) := by
  have hfar {a : Nat} (ha : 0x1000 * 0x1000 ≤ a) : ¬ K (a * 8) := fun hk => by
    have hlt := hK _ hk
    unfold beforeCounters at hlt
    omega
  unfold State.count
  extract_lets at_ s0 s1
  have h0 : RegsKept K s s0 := by
    refine h.congr ?_
    unfold s0
    split
    · exact State.addBw_regs _ _ _ _ _
    · split
      · exact State.addBw_regs _ _ _ _ _
      · rfl
  have h1 : RegsKept K s s1 := by
    unfold s1
    split
    · next a ha => exact h0.addCount (hfar (le_counterAddr ha)) _ _
    · exact h0
  exact h1.foldl fun u g _ hu => hu.addCount (hfar (by omega)) _ _

/-- One field written on every lane's page of a list. -/
theorem RegsKept.foldl_wrLane (h : RegsKept K s t) {f : Fld} (hf : ∀ l, ¬ K (f.key (lan l) 0 0)) (ls : List Nat) (v : Nat) :
    RegsKept K s (ls.foldl (fun u l => u.wr (lan l) f v) t) := h.foldl fun _ l _ hu => hu.wr (hf l) v

theorem rd_foldl_wrLane (f : Fld) (v : Nat) (ls : List Nat) (s : State) {l : Nat} (hl : l ∈ ls) :
    (ls.foldl (fun u k => u.wr (lan k) f v) s).rd (lan l) f = v % 2 ^ f.w := by
  induction ls using List.reverseRecOn with
  | nil => cases hl
  | append_singleton ks k ih =>
    rw [List.foldl_append, List.foldl_cons, List.foldl_nil]
    by_cases hk : l = k
    · rw [hk, State.rd_wr_self]
    · have hne : f.key (lan l) 0 0 ≠ f.key (lan k) 0 0 := by
        unfold Fld.key lan
        omega
      rw [State.rd_wr_of_ne _ _ hne]
      exact ih ((List.mem_append.1 hl).resolve_right (by simpa using hk))

end

/-! ## Messages and causes -/

theorem mem_out_vector {o : Output} {s : State} (h : o ∈ s.out) (v : Nat) : o ∈ (s.vector v).out := by
  rcases State.vector_cases s v with ⟨-, he⟩ | ⟨-, -, he⟩ | ⟨-, -, he⟩
  · rwa [he]
  · rw [he]; exact List.mem_cons_of_mem _ h
  · rwa [he]

/-- Outside a quench window a cause's bit of REAL stands once it fires (R48). -/
theorem testBit_real_raise {s : State} {page cause : Nat} (hc : cause < 16) (hq : s.quenched page = false) :
    ((s.raise page cause).rd page F.hdr_ERR_STATUS_REAL).testBit cause = true := by
  have hn : ¬ s.hides page cause := fun hh => by rw [hh.1] at hq; cases hq
  rw [State.raise_of_not_hides hn, State.rd, State.rdx_congr (State.setReal_regs s page cause), ← State.rd,
    State.rd_refreshErr (by decide), State.testBit_rd_setBit s page _ (by omega) hc]
  simp

theorem State.quenched_congr {s t : State} (h : t.gnt = s.gnt) (page : Nat) : t.quenched page = s.quenched page := by
  unfold State.quenched
  rw [h]

end Sys2Proof.Machine
end

section
/-! SUPPORT. Priority flow control and preemption: what each operation leaves of the port's record and registers (R159 to R165). -/

namespace Sys2Proof.Machine

/-! ## Priority flow control -/

/-- The priorities of a list, each with its quanta, as PFC_RECEIVE takes them one after the other (R160). -/
def pauseAll (p : Nat) (q : Nat → Nat) (prs : List Nat) (s : State) : State := prs.foldl (fun u pr => pausePriority p pr (q pr) u) s

section
variable {K : Nat → Prop} {s t : State} {p : Nat}

theorem RegsKept.pausePriority (h : RegsKept K s t) (hK : ¬ K (F.prt_PFC_STATUS_PAUSED.key (prt p) 0 0)) (pr quanta : Nat) :
    RegsKept K s (pausePriority p pr quanta t) := by
  unfold Machine.pausePriority
  extract_lets x show_
  have hshow (v : Bool) {u : State} (hu : RegsKept K s u) : RegsKept K s (show_ v u) := by
    have hwr := hu.wr hK (putBit (u.rd (prt p) F.prt_PFC_STATUS_PAUSED) pr v)
    unfold show_
    exact .ite (hwr.congr rfl) hwr
  exact .ite h (.ite (hshow false (h.congr rfl)) (.ite (hshow true (h.congr rfl)) h))

theorem RegsKept.pauseAll (h : RegsKept K s t) (hK : ¬ K (F.prt_PFC_STATUS_PAUSED.key (prt p) 0 0)) (q : Nat → Nat) (prs : List Nat) :
    RegsKept K s (pauseAll p q prs t) := h.foldl fun _ pr _ hu => hu.pausePriority hK pr (q pr)

end

/-- A priority of TC7 is not paused (R162); quanta 0 end a pause, others start one where the port takes them (R160). -/
theorem pausePriority_pauses (p pr quanta : Nat) (s : State) :
    ((pausePriority p pr quanta s).portRec p).pauses =
      if s.classOfPriority p pr = 7 then (s.portRec p).pauses
      else if quanta = 0 then (s.portRec p).pauses.del pr
      else if (s.rd (prt p) F.prt_PFC_CFG_RX_ENABLE).testBit pr then
        (s.portRec p).pauses.enter pr (s.mono + byteTimes (s.speed p) (64 * quanta))
      else (s.portRec p).pauses := by
  unfold pausePriority
  extract_lets x show_
  have hshow (v : Bool) (u : State) : (show_ v u).portRec p = u.portRec p := by
    unfold show_
    exact State.portRec_congr (by dsimp only; split <;> rfl) p
  split
  · rfl
  · split
    · rw [hshow, State.portRec_putPortRec]
    · split
      · rw [hshow, State.portRec_putPortRec]
      · rfl

theorem pausePriority_at?_of_ne {p pr quanta k : Nat} (h : k ≠ pr) (s : State) :
    ((pausePriority p pr quanta s).portRec p).pauses.at? k = (s.portRec p).pauses.at? k := by
  rw [pausePriority_pauses]
  split
  · rfl
  · split
    · exact SMap.at?_del_of_ne _ h
    · split
      · rw [SMap.at?_enter, if_neg h]
      · rfl

theorem pauseAll_at?_of_notMem {p k : Nat} (q : Nat → Nat) {prs : List Nat} (h : k ∉ prs) (s : State) :
    ((pauseAll p q prs s).portRec p).pauses.at? k = (s.portRec p).pauses.at? k := by
  unfold pauseAll
  induction prs generalizing s with
  | nil => rfl
  | cons pr rest ih =>
    obtain ⟨hne, hrest⟩ := not_or.1 fun hor => h (List.mem_cons.2 hor)
    rw [List.foldl_cons, ih hrest, pausePriority_at?_of_ne hne]

theorem pcpMap_key_ne (p pr : Nat) : F.prt_PCP_MAP_TC.key (prt p) 0 pr ≠ F.prt_PFC_STATUS_PAUSED.key (prt p) 0 0 := by
  simp only [Fld.key, F.prt_PCP_MAP_TC, F.prt_PFC_STATUS_PAUSED]
  omega

/-- What a PFC frame says of a priority that it names holds afterwards. -/
theorem pauseAll_at?_of_mem {p k : Nat} (q : Nat → Nat) {prs : List Nat} (h : k ∈ prs) {s : State} (hc : s.classOfPriority p k ≠ 7) :
    (q k = 0 → ((pauseAll p q prs s).portRec p).pauses.at? k = none) ∧
      (q k ≠ 0 → (s.rd (prt p) F.prt_PFC_CFG_RX_ENABLE).testBit k = true →
        (((pauseAll p q prs s).portRec p).pauses.at? k).isSome = true) := by
  unfold pauseAll
  induction prs using List.reverseRecOn with
  | nil => cases h
  | append_singleton rest pr ih =>
    rw [List.foldl_append, List.foldl_cons, List.foldl_nil]
    by_cases hk : k = pr
    · subst hk
      have hkept := (RegsKept.refl (· ≠ F.prt_PFC_STATUS_PAUSED.key (prt p) 0 0) s).pauseAll (p := p) (by simp) q rest
      have hcls : (pauseAll p q rest s).classOfPriority p k = s.classOfPriority p k :=
        hkept.rdx (pcpMap_key_ne p k)
      have hena := hkept.rd (page := prt p) (f := F.prt_PFC_CFG_RX_ENABLE) (Fld.key_ne_of_place_ne _ (by decide))
      rw [← hcls] at hc
      unfold pauseAll at hc hena
      rw [pausePriority_pauses, if_neg hc, hena]
      refine ⟨fun hq => ?_, fun hq hb => ?_⟩
      · rw [if_pos hq, SMap.at?_del_self]
      · rw [if_neg hq, if_pos hb, SMap.at?_enter, if_pos rfl]
        rfl
    · rw [pausePriority_at?_of_ne hk]
      exact ih ((List.mem_append.1 h).resolve_right (by simpa using hk))

/-! ## Preemption -/

section
variable {K : Nat → Prop} {s t : State} {p : Nat}

theorem RegsKept.showPreempt (h : RegsKept K s t) (hv : ¬ K (F.prt_PREEMPT_STATUS_VERIFY.key (prt p) 0 0))
    (ha : ¬ K (F.prt_PREEMPT_STATUS_ACTIVE.key (prt p) 0 0)) : RegsKept K s (showPreempt p t) := by
  unfold Machine.showPreempt
  extract_lets on_ frag v active s1
  have h1 : RegsKept K s s1 := h.wr hv _
  exact .ite h1 ((h1.wr ha _).vector _)

theorem RegsKept.restartVerify (h : RegsKept K s t) (hv : ¬ K (F.prt_PREEMPT_STATUS_VERIFY.key (prt p) 0 0))
    (ha : ¬ K (F.prt_PREEMPT_STATUS_ACTIVE.key (prt p) 0 0)) : RegsKept K s (restartVerify p t) :=
  RegsKept.showPreempt (h.congr (State.putPortRec_regs _ _ _)) hv ha

end

theorem mem_out_showPreempt {o : Output} {s : State} (h : o ∈ s.out) (p : Nat) : o ∈ (showPreempt p s).out := by
  unfold showPreempt
  extract_lets on_ frag v active s1
  split
  · exact h
  · exact mem_out_vector (s := s1.wr (prt p) F.prt_PREEMPT_STATUS_ACTIVE active) h _

/-- A field of a port's page lies on that page, as a frame of the other pages asks. -/
theorem not_outside_prt (p : Nat) {f : Fld} (hf : f.off * 8 + f.lo < 0x8000) : ¬ pageOfKey (f.key (prt p) 0 0) ∉ [prt p] := by
  have hp : pageOfKey (f.key (prt p) 0 0) = prt p := by
    unfold pageOfKey Fld.key
    omega
  simp [hp]

theorem showPreempt_regsOnly (p : Nat) (s : State) : RegsOnly [prt p] s (showPreempt p s) :=
  (RegsKept.refl _ s).showPreempt (not_outside_prt p (by decide)) (not_outside_prt p (by decide))

/-- PREEMPT_CFG as a write stores it. -/
def storedPreempt (p data : Nat) (s : State) : State :=
  (((s.wr (prt p) F.prt_PREEMPT_CFG_ENABLE (bits data F.prt_PREEMPT_CFG_ENABLE.lo F.prt_PREEMPT_CFG_ENABLE.w)).wr (prt p)
    F.prt_PREEMPT_CFG_VERIFY_DISABLE (bits data F.prt_PREEMPT_CFG_VERIFY_DISABLE.lo F.prt_PREEMPT_CFG_VERIFY_DISABLE.w)).wr (prt p)
    F.prt_PREEMPT_CFG_VERIFY_TIME_MS (bits data F.prt_PREEMPT_CFG_VERIFY_TIME_MS.lo F.prt_PREEMPT_CFG_VERIFY_TIME_MS.w)).wr (prt p)
    F.prt_PREEMPT_CFG_PARTNER_ADD_FRAG (bits data F.prt_PREEMPT_CFG_PARTNER_ADD_FRAG.lo F.prt_PREEMPT_CFG_PARTNER_ADD_FRAG.w)

theorem storedPreempt_enable (p data : Nat) (s : State) : (storedPreempt p data s).rd (prt p) F.prt_PREEMPT_CFG_ENABLE =
    bits data F.prt_PREEMPT_CFG_ENABLE.lo 1 % 2 := by
  unfold storedPreempt
  rw [State.rd_wr_of_ne _ _ (Fld.key_ne_of_place_ne _ (by decide)), State.rd_wr_of_ne _ _ (Fld.key_ne_of_place_ne _ (by decide)),
    State.rd_wr_of_ne _ _ (Fld.key_ne_of_place_ne _ (by decide)), State.rd_wr_self]
  rfl

theorem storedPreempt_verifyTime (p data : Nat) (s : State) : (storedPreempt p data s).rd (prt p) F.prt_PREEMPT_CFG_VERIFY_TIME_MS =
    bits data F.prt_PREEMPT_CFG_VERIFY_TIME_MS.lo F.prt_PREEMPT_CFG_VERIFY_TIME_MS.w % 2 ^ F.prt_PREEMPT_CFG_VERIFY_TIME_MS.w := by
  unfold storedPreempt
  rw [State.rd_wr_of_ne _ _ (Fld.key_ne_of_place_ne _ (by decide)), State.rd_wr_self]

theorem storedPreempt_regsOnly (p data : Nat) (s : State) : RegsOnly [prt p] s (storedPreempt p data s) :=
  ((((RegsKept.refl _ s).wr (not_outside_prt p (by decide)) _).wr (not_outside_prt p (by decide)) _).wr
    (not_outside_prt p (by decide)) _).wr (not_outside_prt p (by decide)) _

/-- Once the register is stored, what verification shows is all that may follow among registers (R165). -/
theorem writePreempt_regsKept {p data : Nat} {s : State} (hc : s.configured p = true) {K : Nat → Prop}
    (hv : ¬ K (F.prt_PREEMPT_STATUS_VERIFY.key (prt p) 0 0)) (ha : ¬ K (F.prt_PREEMPT_STATUS_ACTIVE.key (prt p) 0 0)) :
    RegsKept K (storedPreempt p data s) (writePreempt p data s) := by
  unfold writePreempt
  rw [if_neg (by simp [hc])]
  have hrefl := RegsKept.refl K (storedPreempt p data s)
  exact .ite (hrefl.showPreempt hv ha) (hrefl.restartVerify hv ha)

/-- The port sends its next VERIFY and notes the attempt (R164). -/
def verifySent (p : Nat) (s : State) : State :=
  showPreempt p ((s.send (.message p "VERIFY" [])).putPortRec p { s.portRec p with
    verify := 2
    tries := (s.portRec p).tries + 1
    tryAt := s.mono })

/-- No attempt was answered: verification has failed, with cause 3 (R164). -/
def verifyFailed (p : Nat) (s : State) : State :=
  (showPreempt p (s.putPortRec p { s.portRec p with verify := 4 })).raise (prt p) 3

/-- An attempt that is due is sent, or is the failure after the third. -/
theorem exec_preemptVerifyAttempt {port : Fin 1024} {s : State} (hs : s.stopped = false) (hup : s.up port.val = true)
    (hv : (s.portRec port.val).verify = 1 ∨ (s.portRec port.val).verify = 2)
    (hw : (s.portRec port.val).tries = 0 ∨ (s.portRec port.val).tryAt +
      ns (1000000 * max 1 (min 128 (s.rd (prt port.val) F.prt_PREEMPT_CFG_VERIFY_TIME_MS))) ≤ s.mono) :
    exec (.preemptVerifyAttempt port) s =
      .next (if 3 ≤ (s.portRec port.val).tries then verifyFailed port.val s else verifySent port.val s) :=
  congrArg Host.Outcome.next ((State.running_of hs _).trans (State.given_of (by simp [hup, hv, hw]) _))

theorem portRec_verifySent (p : Nat) (s : State) : (verifySent p s).portRec p = { s.portRec p with
    verify := 2
    tries := (s.portRec p).tries + 1
    tryAt := s.mono } :=
  (State.portRec_congr (showPreempt_brim p _) p).trans (State.portRec_putPortRec _ p _)

theorem portRec_verifyFailed (p : Nat) (s : State) : (verifyFailed p s).portRec p = { s.portRec p with verify := 4 } :=
  (State.portRec_congr ((State.raise_brim _ _ _).trans (showPreempt_brim p _)) p).trans (State.portRec_putPortRec _ p _)

end Sys2Proof.Machine
end

section
/-! PROOF. O24: low-power idle, priority flow control, ETS and preemption, command by command (R154, R159 to R165). -/

namespace Sys2Proof

open Sys2Proof.Machine

theorem txLpiEntry_shows (port : Fin 1024) (s : State) (hs : s.stopped = false) (hup : s.up port.val = true)
    (heee : s.eee port.val = true) (hen : s.on (prt port.val) F.prt_TX_CTRL_LPI_ENABLE = true)
    (hlpi : s.on (prt port.val) F.prt_LINK_STATUS_TX_LPI = false) (hrel : s.relBusy port.val = false)
    (hq : s.palm.replicas.any (fun x => x.2.port == port.val) = false)
    (hw : (s.portRec port.val).quietSince + ns (max 256 (s.rd (prt port.val) F.prt_TX_CTRL_LPI_ENTRY_NS)) ≤ s.mono) :
    ∃ t, exec (.txLpiEntry port) s = .next t ∧
      Only [.regs, .vsr] s t ∧
      t.rd (prt port.val) F.prt_LINK_STATUS_TX_LPI = 1 := by
  have he : exec (.txLpiEntry port) s = .next _ := congrArg Host.Outcome.next
    ((State.running_of hs _).trans (State.given_of (by simp [hup, heee, hen, hlpi, hrel, hq, hw]) _))
  refine ⟨_, he, only_of_exec he (by apply execTxLpiEntry_touches <;> simp [Touches.refl]), ?_⟩
  have hkept := ((RegsKept.refl (· = F.prt_LINK_STATUS_TX_LPI.key (prt port.val) 0 0)
    (s.wr (prt port.val) F.prt_LINK_STATUS_TX_LPI 1)).foldl_wrLane (f := F.lan_LANE_STATUS_TX_STATE)
    (fun l => Fld.key_ne_of_pages (by decide) (by decide) (by decide) _ _) (s.lanesOf port.val) 1).countEvent
    (by rintro _ rfl; exact beforeCounters_key_prt port (by decide)) 0x0111 port.val 1 none
  exact (hkept.rd rfl).trans (State.rd_wr_self _ _ _ 1)

theorem txLpiWake_wakes (port : Fin 1024) (s : State) (hs : s.stopped = false)
    (hq : s.palm.replicas.any (fun x => x.2.port == port.val) = true) :
    exec (.txLpiWake port) s = .next (wakeTx port.val s) ∧ Only [.regs] s (wakeTx port.val s) := by
  have he : exec (.txLpiWake port) s = .next (wakeTx port.val s) :=
    congrArg Host.Outcome.next ((State.running_of hs _).trans (State.given_of hq _))
  exact ⟨he, only_of_exec he (by apply execTxLpiWake_touches <;> simp [Touches.refl])⟩

theorem rxLpiChange_shows (port : Fin 1024) (v : Bool) (s : State) (hs : s.stopped = false) (hup : s.up port.val = true)
    (heee : s.eee port.val = true) :
    ∃ t, exec (.rxLpiChange port v) s = .next t ∧
      Only [.regs] s t ∧
      t.rd (prt port.val) F.prt_LINK_STATUS_RX_LPI = v.toNat ∧
      (∀ l ∈ s.lanesOf port.val, t.rd (lan l) F.lan_LANE_STATUS_RX_STATE = v.toNat) := by
  have he : exec (.rxLpiChange port v) s = .next _ := congrArg Host.Outcome.next
    ((State.running_of hs _).trans (State.given_of (by simp [hup, heee]) _))
  refine ⟨_, he, only_of_exec he (by apply execRxLpiChange_touches <;> simp [Touches.refl]), ?_, fun l hl => ?_⟩
  · refine (RegsKept.rd ((RegsKept.refl (· = F.prt_LINK_STATUS_RX_LPI.key (prt port.val) 0 0) _).foldl_wrLane
      (fun l => Fld.key_ne_of_pages (by decide) (by decide) (by decide) _ _) _ _) rfl).trans ?_
    rw [State.rd_wr_self]
    cases v <;> rfl
  · rw [rd_foldl_wrLane _ _ _ _ hl]
    cases v <;> rfl

theorem pfcReceive_pauses (port : Fin 1024) (named : BitVec 8) (quanta : List (BitVec 16)) (s : State) (hs : s.stopped = false)
    (hup : s.up port.val = true) :
    ∃ t, exec (.pfcReceive port named quanta) s = .next t ∧
      Only [.regs, .out, .host, .latches, .brim, .palm, .vsr] s t ∧
      (∀ pr : Fin 8, named.toNat.testBit pr.val = true → s.classOfPriority port.val pr.val ≠ 7 →
        ((quanta.getD pr.val 0).toNat = 0 → (t.portRec port.val).pauses.at? pr.val = none) ∧
        ((quanta.getD pr.val 0).toNat ≠ 0 → (s.rd (prt port.val) F.prt_PFC_CFG_RX_ENABLE).testBit pr.val = true →
          ((t.portRec port.val).pauses.at? pr.val).isSome = true)) ∧
      (∀ pr : Fin 8, named.toNat.testBit pr.val = false →
        (t.portRec port.val).pauses.at? pr.val = (s.portRec port.val).pauses.at? pr.val) := by
  have he : exec (.pfcReceive port named quanta) s = .next _ := congrArg Host.Outcome.next
    ((State.running_of hs _).trans (State.given_of hup _))
  refine ⟨_, he, only_of_exec he (by apply execPfcReceive_touches <;> simp [Touches.refl]), ?_⟩
  have hrec (u : State) (c : Bool) : ((if c = true then
      (u.bump (prt port.val) F.prt_PFC_STATUS_TC7_IGNORED).raise (prt port.val) 4 else u)).portRec port.val = u.portRec port.val := by
    refine State.portRec_congr ?_ _
    split
    · rw [State.raise_brim, State.bump_brim]
    · rfl
  have hkept := (RegsKept.refl beforeCounters s).countEvent (fun _ => id) 0x010E port.val 1 none
  have hcount := State.portRec_congr (State.count_brim s 0x010E port.val) port.val
  dsimp only
  rw [hrec]
  refine ⟨fun pr hn hc => ?_, fun pr hn => ?_⟩
  · have hcls : (s.count 0x010E port.val).classOfPriority port.val pr.val = s.classOfPriority port.val pr.val :=
      hkept.rdx (beforeCounters_key_prt port (by unfold F.prt_PCP_MAP_TC; dsimp only; omega))
    rw [← hcls] at hc
    rw [← hkept.rd (beforeCounters_key_prt port (by decide))]
    exact pauseAll_at?_of_mem (fun pr => (quanta.getD pr 0).toNat) (List.mem_filter.2 ⟨List.mem_range.2 pr.isLt, hn⟩) hc
  · rw [← hcount]
    exact pauseAll_at?_of_notMem (fun pr => (quanta.getD pr 0).toNat) (fun hm => by simp [hn] at hm) _

theorem pfcQuantaExpiry_ends (port : Fin 1024) (pr : Fin 8) (a : T80) (s : State) (hs : s.stopped = false)
    (hp : (s.portRec port.val).pauses.at? pr.val = some a) (ha : a ≤ s.mono) :
    ∃ t, exec (.pfcQuantaExpiry port pr) s = .next t ∧
      Only [.regs, .brim] s t ∧
      (t.portRec port.val).pauses.at? pr.val = none ∧
      (t.rd (prt port.val) F.prt_PFC_STATUS_PAUSED).testBit pr.val = false ∧
      RegsOnly [prt port.val] s t := by
  have he : exec (.pfcQuantaExpiry port pr) s = .next _ := congrArg Host.Outcome.next
    ((State.running_of hs _).trans (State.given_of (by simp [hp, ha]) _))
  refine ⟨_, he, only_of_exec he (by apply execPfcQuantaExpiry_touches <;> simp [Touches.refl]), ?_, ?_, ?_⟩
  · rw [State.portRec_congr (State.wr_brim _ _ _ _), State.portRec_putPortRec]
    exact SMap.at?_del_self _ _
  · rw [State.rd_wr_self, Nat.testBit_mod_two_pow, testBit_putBit_false, Bool.and_false]
  · exact ((RegsOnly.of_regs_eq _ (State.putPortRec_regs _ _ _)).trans (State.wr_regsOnly _ _ (by decide) _))

theorem pfcResend_sends (port : Fin 1024) (c : Fin 8) (s : State) (hs : s.stopped = false)
    (hx : (s.pg port.val c.val).xoff = true) (hup : s.up port.val = true)
    (hw : (s.pg port.val c.val).sentAt + byteTimes (s.speed port.val) (32 * s.rd (prt port.val) F.prt_PFC_CFG_TX_QUANTA) ≤ s.mono) :
    ∃ t, exec (.pfcResend port c) s = .next t ∧
      Only [.regs, .out, .palm, .vsr] s t ∧
      (t.pg port.val c.val).sentAt = s.mono ∧
      (t.pg port.val c.val).xoff = true := by
  have he : exec (.pfcResend port c) s = .next _ := congrArg Host.Outcome.next
    ((State.running_of hs _).trans (State.given_of (by simp [hx, hup, hw]) _))
  refine ⟨_, he, only_of_exec he (by apply execPfcResend_touches <;> simp [Touches.refl]), ?_⟩
  have hpg (prs : List Nat) (quanta : Nat) (x : Pg) :
      (sendPfc port.val prs quanta (s.putPg port.val c.val x)).pg port.val c.val = x := by
    rw [State.pg, sendPfc_palm]
    exact SMap.val_put_self _ _ _ _
  rw [hpg]
  exact ⟨rfl, hx⟩

theorem etsCfgWrite_takes (port : Fin 1024) (data : Word) (s : State) (hs : s.stopped = false)
    (hsh : s.shut (prt port.val) = false) :
    exec (.etsCfgWrite port data) s = .next (writeEts port.val data.toNat (s.wakeClock (prt port.val))) ∧
      Only [.regs, .latches, .brim, .palm, .mtn] s (writeEts port.val data.toNat (s.wakeClock (prt port.val))) := by
  have he : exec (.etsCfgWrite port data) s = .next (writeEts port.val data.toNat (s.wakeClock (prt port.val))) :=
    congrArg Host.Outcome.next (State.written_of hs hsh _)
  exact ⟨he, only_of_exec he (by apply execEtsCfgWrite_touches <;> simp [Touches.refl])⟩

theorem preemptCfgWrite_stores (port : Fin 1024) (data : Word) (s : State) (hs : s.stopped = false)
    (hsh : s.shut (prt port.val) = false) :
    ∃ t, exec (.preemptCfgWrite port data) s = .next t ∧
      Only [.regs, .out, .host, .latches, .brim, .mtn] s t ∧
      t.rd (prt port.val) F.prt_PREEMPT_CFG_ENABLE = bits data.toNat F.prt_PREEMPT_CFG_ENABLE.lo 1 % 2 ∧
      t.rd (prt port.val) F.prt_PREEMPT_CFG_VERIFY_TIME_MS = bits data.toNat F.prt_PREEMPT_CFG_VERIFY_TIME_MS.lo
        F.prt_PREEMPT_CFG_VERIFY_TIME_MS.w % 2 ^ F.prt_PREEMPT_CFG_VERIFY_TIME_MS.w ∧
      RegsOnly [prt port.val] s t := by
  have he : exec (.preemptCfgWrite port data) s = .next (writePreempt port.val data.toNat (s.wakeClock (prt port.val))) :=
    congrArg Host.Outcome.next (State.written_of hs hsh _)
  have hc : (s.wakeClock (prt port.val)).configured port.val = true :=
    (State.configured_congr (State.wakeClock_regs _ _) _).trans (State.configured_of_open port hsh)
  have hcfg {f : Fld} (hv : f.off * 8 + f.lo ≠ F.prt_PREEMPT_STATUS_VERIFY.off * 8 + F.prt_PREEMPT_STATUS_VERIFY.lo)
      (ha : f.off * 8 + f.lo ≠ F.prt_PREEMPT_STATUS_ACTIVE.off * 8 + F.prt_PREEMPT_STATUS_ACTIVE.lo) :=
    RegsKept.rd (writePreempt_regsKept (data := data.toNat) hc (K := (· = f.key (prt port.val) 0 0))
      (Fld.key_ne_of_place_ne _ hv).symm (Fld.key_ne_of_place_ne _ ha).symm) rfl
  refine ⟨_, he, only_of_exec he (by apply execPreemptCfgWrite_touches <;> simp [Touches.refl]),
    (hcfg (by decide) (by decide)).trans (storedPreempt_enable _ _ _),
    (hcfg (by decide) (by decide)).trans (storedPreempt_verifyTime _ _ _), ?_⟩
  have hwritten : RegsOnly [prt port.val] _ _ :=
    writePreempt_regsKept (data := data.toNat) hc (not_outside_prt port.val (by decide)) (not_outside_prt port.val (by decide))
  exact ((RegsOnly.of_regs_eq _ (State.wakeClock_regs _ _)).trans (storedPreempt_regsOnly _ _ _)).trans hwritten

theorem preemptVerifyAttempt_sends (port : Fin 1024) (s : State) (hs : s.stopped = false) (hup : s.up port.val = true)
    (hv : (s.portRec port.val).verify = 1 ∨ (s.portRec port.val).verify = 2) (ht : (s.portRec port.val).tries < 3)
    (hw : (s.portRec port.val).tries = 0 ∨ (s.portRec port.val).tryAt +
      ns (1000000 * max 1 (min 128 (s.rd (prt port.val) F.prt_PREEMPT_CFG_VERIFY_TIME_MS))) ≤ s.mono) :
    ∃ t, exec (.preemptVerifyAttempt port) s = .next t ∧
      Only [.regs, .out, .host, .latches, .brim] s t ∧
      (t.portRec port.val).verify = 2 ∧
      (t.portRec port.val).tries = (s.portRec port.val).tries + 1 ∧
      (t.portRec port.val).tryAt = s.mono ∧
      Output.message port.val "VERIFY" [] ∈ t.out ∧
      RegsOnly [prt port.val] s t := by
  have he : exec (.preemptVerifyAttempt port) s = .next (verifySent port.val s) := by
    rw [exec_preemptVerifyAttempt hs hup hv hw, if_neg (Nat.not_le.2 ht)]
  refine ⟨_, he, only_of_exec he (by apply execPreemptVerifyAttempt_touches <;> simp [Touches.refl]), ?_⟩
  rw [portRec_verifySent]
  exact ⟨rfl, rfl, rfl, mem_out_showPreempt (List.mem_cons_self ..) _,
    (RegsOnly.of_regs_eq _ rfl).trans (showPreempt_regsOnly _ _)⟩

theorem preemptVerifyAttempt_fails (port : Fin 1024) (s : State) (hs : s.stopped = false) (hup : s.up port.val = true)
    (hv : (s.portRec port.val).verify = 1 ∨ (s.portRec port.val).verify = 2) (ht : 3 ≤ (s.portRec port.val).tries)
    (hw : (s.portRec port.val).tryAt +
      ns (1000000 * max 1 (min 128 (s.rd (prt port.val) F.prt_PREEMPT_CFG_VERIFY_TIME_MS))) ≤ s.mono) :
    ∃ t, exec (.preemptVerifyAttempt port) s = .next t ∧
      Only [.regs, .out, .host, .latches, .brim] s t ∧
      (t.portRec port.val).verify = 4 ∧
      (s.quenched (prt port.val) = false → (t.rd (prt port.val) F.hdr_ERR_STATUS_REAL).testBit 3 = true) ∧
      RegsOnly [prt port.val] s t := by
  have he : exec (.preemptVerifyAttempt port) s = .next (verifyFailed port.val s) := by
    rw [exec_preemptVerifyAttempt hs hup hv (.inr hw), if_pos ht]
  refine ⟨_, he, only_of_exec he (by apply execPreemptVerifyAttempt_touches <;> simp [Touches.refl]), ?_, fun hq => ?_, ?_⟩
  · rw [portRec_verifyFailed]
  · exact testBit_real_raise (by decide) ((State.quenched_congr (showPreempt_gnt _ _) _).trans hq)
  · exact ((RegsOnly.of_regs_eq _ (State.putPortRec_regs _ _ _)).trans (showPreempt_regsOnly _ _)).trans
      (raise_regsOnly _ _ (by decide))

theorem preemptVerifyResponse_ends (port : Fin 1024) (s : State) (hs : s.stopped = false) (hup : s.up port.val = true)
    (hv : (s.portRec port.val).verify = 2) :
    ∃ t, exec (.preemptVerifyResponse port) s = .next t ∧
      Only [.regs, .out, .host, .brim] s t ∧
      (t.portRec port.val).verify = 3 ∧
      RegsOnly [prt port.val] s t := by
  have he : exec (.preemptVerifyResponse port) s = .next _ := congrArg Host.Outcome.next
    ((State.running_of hs _).trans (State.given_of (by simp [hup, hv]) _))
  refine ⟨_, he, only_of_exec he (by apply execPreemptVerifyResponse_touches <;> simp [Touches.refl]), ?_,
    (RegsOnly.of_regs_eq _ (State.putPortRec_regs _ _ _)).trans (showPreempt_regsOnly _ _)⟩
  rw [State.portRec_congr (showPreempt_brim _ _), State.portRec_putPortRec]

/-- Settles O24, command by command: past its gate each leaves the port's record, its lanes or its registers as its rule gives them.
That ETS_CFG changes at once at a frame boundary, and that PREEMPT_CFG's fields are kept until the link is UP, is the model's
deduction, log entry 101. -/
theorem portFlowCommandsComplete : Obligations.PortFlowCommandsComplete := by
  unfold Obligations.PortFlowCommandsComplete
  exact ⟨txLpiEntry_shows, txLpiWake_wakes, rxLpiChange_shows, pfcReceive_pauses, pfcQuantaExpiry_ends, pfcResend_sends,
    etsCfgWrite_takes, preemptCfgWrite_stores, preemptVerifyAttempt_sends, preemptVerifyAttempt_fails, preemptVerifyResponse_ends⟩

end Sys2Proof
end

section
/-! SUPPORT. A slice's control store, its STATE and its bank commands: what each operation does and leaves (R194 to R202). -/

namespace Sys2Proof.Machine

/-! ## Control stores -/

@[simp] theorem State.store_putStore (s : State) (g : Nat) (x : Store) : (s.putStore g x).store g = x :=
  SMap.val_put_self _ _ _ _

theorem State.store_putStore_of_ne (s : State) {g k : Nat} (h : g ≠ k) (x : Store) : (s.putStore k x).store g = s.store g :=
  SMap.val_put_of_ne _ _ h _

theorem State.putStore_regs (s : State) (g : Nat) (x : Store) : (s.putStore g x).regs = s.regs := rfl

theorem State.store_congr {s t : State} (h : t.ucs = s.ucs) (g : Nat) : t.store g = s.store g := by
  unfold State.store
  rw [h]

theorem State.store_raise (s : State) (page cause g : Nat) : (s.raise page cause).store g = s.store g :=
  State.store_congr ((State.raise_touches (ps := (· ≠ .ucs)) nofun nofun nofun nofun (Touches.refl _ s)).same .ucs (by simp)) g

theorem State.store_wakeClock (s : State) (page g : Nat) : (s.wakeClock page).store g = s.store g := by
  rw [State.wakeClock_eq]
  rfl

/-- The item that a slice's store holds at a location (R202). -/
def State.itemAt (s : State) (g loc : Nat) : Nat := ((s.store g).bank (locBank loc)).item (locRegion loc) (locAddr loc)

/-- A patched location is POISONED no more, whether a patch entry was free for it or not (R196). -/
theorem patch_poisoned (g loc content : Nat) (s : State) :
    ((patch g loc content s).store g).poisoned = (s.store g).poisoned.filter (fun l => l != loc) := by
  unfold patch
  extract_lets pg x y
  split
  · rw [State.store_raise, State.store_putStore]
  · extract_lets s1
    have hs1 : (s1.store g).poisoned = y.poisoned := by rw [State.store_putStore]
    rw [State.store_congr (State.bump_ucs _ _ _ _)]
    exact hs1

theorem stageBank_crown (g : Nat) (readback : Bool) (s : State) : (stageBank g readback s).crown = s.crown :=
  (stageBank_touches (ps := (· ≠ .crown)) nofun nofun nofun nofun nofun (Touches.refl _ s)).same .crown (by simp)

/-- A slice's bank staged for a load: its bit of the load's map is set once it is STAGED, and the load ends if it was the last
(R194, R198, R493). -/
def stagedFor (l : Load) (g : Nat) (readback : Bool) (s : State) : State :=
  endLoad { stageBank g readback s with crown := { s.crown with load := some { l with
    staged := if (stageBank g readback s).ucsState g = 3 then putBit l.staged g true else l.staged } } }

/-! ## STATE -/

theorem ucsState_congr {s t : State} (h : t.regs = s.regs) (g : Nat) : t.ucsState g = s.ucsState g := State.rdx_congr h _ _ 0 0

theorem ucsState_wakeClock (s : State) (page g : Nat) : (s.wakeClock page).ucsState g = s.ucsState g :=
  ucsState_congr (State.wakeClock_regs s page) g

theorem ucsState_wr (s : State) (g : Nat) {f : Fld}
    (h : F.ucs_BANK_STATUS_STATE.off * 8 + F.ucs_BANK_STATUS_STATE.lo ≠ f.off * 8 + f.lo) (v : Nat) :
    (s.wr (ucsPage g) f v).ucsState g = s.ucsState g := State.rd_wr_of_ne s v (Fld.key_ne_of_place_ne _ h)

/-- A cause that fires writes the page's header, where STATE does not lie. -/
theorem ucsState_raise (s : State) (g : Nat) {cause : Nat} (hc : cause < 64) : (s.raise (ucsPage g) cause).ucsState g = s.ucsState g := by
  refine RegsKept.rd ((RegsKept.refl (· = F.ucs_BANK_STATUS_STATE.key (ucsPage g) 0 0) s).raise ?_ hc) rfl
  rintro _ rfl
  simp only [Fld.key, F.ucs_BANK_STATUS_STATE]
  omega

theorem setUcsState_of_ne {g st : Nat} {s : State} (h : s.ucsState g ≠ st) : setUcsState g st s =
    ((s.wr (ucsPage g) F.ucs_BANK_STATUS_STATE st).wr (ucsPage g) F.ucs_BANK_STATUS_GOLDEN (if st = 1 then 1 else 0)).vector
      (384 + g) := if_neg h

theorem ucsState_setUcsState {st : Nat} (hst : st < 8) (g : Nat) (s : State) : (setUcsState g st s).ucsState g = st := by
  by_cases h : s.ucsState g = st
  · rw [setUcsState, if_pos h, h]
  · rw [setUcsState_of_ne h, ucsState_congr (State.vector_regs _ _), ucsState_wr _ _ (by decide), State.ucsState, State.rd_wr_self]
    exact Nat.mod_eq_of_lt hst

/-- The active bank copied into the other and the slice MIRRORED (R198). -/
def mirrored (g : Nat) (s : State) : State :=
  setUcsState g 1 (writeBank g (1 - s.activeBank g) ((s.store g).bank (s.activeBank g)) s)

/-- GOLDEN is 0 once a slice has entered a state other than MIRRORED (R202). -/
theorem golden_setUcsState {g st : Nat} {s : State} (h : s.ucsState g ≠ st) (h1 : st ≠ 1) :
    (setUcsState g st s).on (ucsPage g) F.ucs_BANK_STATUS_GOLDEN = false := by
  rw [setUcsState_of_ne h, State.on, State.rd_vector, State.rd_wr_self, if_neg h1]
  rfl

/-! ## Bank commands -/

theorem set1_regsOnly (s : State) (page : Nat) {f : Fld} (hf : f.off * 8 + f.lo < 0x8000) : RegsOnly [page] s (s.set1 page f) :=
  (State.wr_regsOnly s page hf 1).trans (RegsOnly.of_regs_eq _ (State.mark_regs _ _ _))

theorem arm_staged {g : Nat} {s : State} (h : s.ucsState g = 3) : arm g s = s.wr (ucsPage g) F.ucs_BANK_CTRL_ARM 1 := if_pos h

theorem State.mono_wakeClock (s : State) (page : Nat) : (s.wakeClock page).mono = s.mono := by
  rw [State.wakeClock_eq]
  rfl

theorem State.epochDue_wakeClock (s : State) (page : Nat) : (s.wakeClock page).epochDue = s.epochDue := by
  rw [State.wakeClock_eq]
  rfl

/-- The cycle in which an armed slice switches: its epoch is due, or DRAINING began in this cycle (R200). -/
def State.switchesNow (s : State) (g : Nat) : Prop :=
  s.ucsState g = 3 ∧ s.epochDue ∧ s.on (ucsPage g) F.ucs_BANK_CTRL_ARM = true ∨
    s.ucsState g = 4 ∧ coreCycle (s.store g).since = coreCycle s.mono

theorem State.switchesNow_wakeClock (s : State) (page g : Nat) : (s.wakeClock page).switchesNow g ↔ s.switchesNow g := by
  unfold State.switchesNow
  rw [ucsState_wakeClock, State.epochDue_wakeClock, State.on_wakeClock, State.store_wakeClock, State.mono_wakeClock]

theorem bankAbort_refused {g : Nat} {s : State} (h : s.switchesNow g) :
    bankAbort g s = s.set1 (ucsPage g) F.ucs_BANK_STATUS_ABORT_REFUSED := by
  unfold bankAbort
  rcases h with hdue | ⟨hst, hcycle⟩
  · rw [if_pos hdue]
  · have h3 : s.ucsState g ≠ 3 := by omega
    rw [if_neg (fun hc => h3 hc.1), if_neg h3, if_pos ⟨hst, hcycle⟩]

theorem bankAbort_staged {g : Nat} {s : State} (h3 : s.ucsState g = 3)
    (hdue : ¬ (s.epochDue ∧ s.on (ucsPage g) F.ucs_BANK_CTRL_ARM = true)) : bankAbort g s = setUcsState g 5 s := by
  rw [bankAbort, if_neg (fun hc => hdue hc.2), if_pos h3]

theorem mcCount_clearStats (g : Nat) (s : State) : (clearStats g s).rd (ucsPage g) F.ucs_MC_STATUS_MC_COUNT = 0 :=
  State.rd_wr_self _ _ _ 0

/-! ## CS_SEL -/

/-- The selection alone, before the item is shown (R202). -/
def selected (g addr bank region : Nat) (s : State) : State :=
  ((s.wr (ucsPage g) F.ucs_CS_SEL_ADDR addr).wr (ucsPage g) F.ucs_CS_SEL_BANK bank).wr (ucsPage g) F.ucs_CS_SEL_REGION region

theorem selected_regsOnly (g addr bank region : Nat) (s : State) : RegsOnly [ucsPage g] s (selected g addr bank region s) :=
  ((State.wr_regsOnly _ _ (by decide) _).trans (State.wr_regsOnly _ _ (by decide) _)).trans (State.wr_regsOnly _ _ (by decide) _)

/-- The item is shown in CS_DATA and CS_PARITY; no other register changes with it (R202). -/
theorem selectItem_regsKept {K : Nat → Prop} {g : Nat} (hdata : ∀ k < 4, ¬ K (F.ucs_CS_DATA.key (ucsPage g) k 0))
    (hpar : ¬ K (F.ucs_CS_PARITY.key (ucsPage g) 0 0)) (addr bank region : Nat) (s : State) :
    RegsKept K (selected g addr bank region s) (selectItem g addr bank region s) := by
  unfold selectItem
  extract_lets pg s1 x loc broken v groups par s2 s3
  have h2 : RegsKept K (selected g addr bank region s) s2 :=
    (RegsKept.refl K s1).foldl fun _ k hk hu => hu.wri (hdata k (List.mem_range.1 hk)) _
  have h3 : RegsKept K (selected g addr bank region s) s3 := h2.wr hpar _
  split
  · exact h3.congr rfl
  · exact h3

theorem selectItem_regsOnly (g addr bank region : Nat) (s : State) : RegsOnly [ucsPage g] s (selectItem g addr bank region s) := by
  have hpage {k : Nat} (hk : k / 0x8000 = ucsPage g) : ¬ pageOfKey k ∉ [ucsPage g] := by simp [pageOfKey, hk]
  refine (selected_regsOnly g addr bank region s).trans (selectItem_regsKept (fun k hk => hpage ?_) (hpage ?_) addr bank region s)
  all_goals
    unfold Fld.key
    simp only [F.ucs_CS_DATA, F.ucs_CS_PARITY]
    omega

/-- Fields below CS_DATA read as selected. -/
theorem rd_selectItem {f : Fld} (hf : f.off * 8 + f.lo < F.ucs_CS_DATA.off * 8) (g addr bank region : Nat) (s : State) :
    (selectItem g addr bank region s).rd (ucsPage g) f = (selected g addr bank region s).rd (ucsPage g) f := by
  refine RegsKept.rd (selectItem_regsKept (K := (· = f.key (ucsPage g) 0 0)) (fun k _ => ?_) ?_ addr bank region s) rfl
  all_goals
    simp only [F.ucs_CS_DATA, F.ucs_CS_PARITY, Fld.key] at hf ⊢
    omega

theorem rd_selected_addr (g bank region : Nat) (addr : Fin 4096) (s : State) :
    (selected g addr bank region s).rd (ucsPage g) F.ucs_CS_SEL_ADDR = addr := by
  unfold selected
  rw [State.rd_wr_of_ne _ _ (Fld.key_ne_of_place_ne _ (by decide)), State.rd_wr_of_ne _ _ (Fld.key_ne_of_place_ne _ (by decide)),
    State.rd_wr_self]
  exact Nat.mod_eq_of_lt addr.isLt

theorem rd_selected_bank (g addr region : Nat) (bank : Fin 2) (s : State) :
    (selected g addr bank region s).rd (ucsPage g) F.ucs_CS_SEL_BANK = bank := by
  unfold selected
  rw [State.rd_wr_of_ne _ _ (Fld.key_ne_of_place_ne _ (by decide)), State.rd_wr_self]
  exact Nat.mod_eq_of_lt bank.isLt

theorem rd_selected_region (g addr bank : Nat) (region : Fin 4) (s : State) :
    (selected g addr bank region s).rd (ucsPage g) F.ucs_CS_SEL_REGION = region :=
  (State.rd_wr_self _ _ _ _).trans (Nat.mod_eq_of_lt region.isLt)

end Sys2Proof.Machine
end

section
/-! PROOF. O27: repairs, banks and statistics of a slice, command by command (R195, R198, R200, R202). -/

namespace Sys2Proof

open Sys2Proof.Machine

theorem goldenRepair_repairs (slice : Fin 32) (loc : Fin 32768) (ok : Bool) (s : State) (hs : s.stopped = false)
    (hf : (s.store slice.val).faulty.contains loc.val = true) :
    ∃ t, exec (.goldenRepair slice loc ok) s = .next t ∧
      Only [.ucs] s t ∧
      (t.store slice.val).faulty = (s.store slice.val).faulty.filter (fun l => l != loc.val) ∧
      (t.store slice.val).poisoned = (if ok then (s.store slice.val).poisoned else loc.val :: (s.store slice.val).poisoned) ∧
      (∀ g, g ≠ slice.val → t.store g = s.store g) := by
  have he : exec (.goldenRepair slice loc ok) s = .next _ := congrArg Host.Outcome.next
    ((State.running_of hs _).trans (State.given_of hf _))
  refine ⟨_, he, only_of_exec he (by apply execGoldenRepair_touches <;> simp [Touches.refl]), ?_, ?_,
    fun g hg => State.store_putStore_of_ne s hg _⟩
  · rw [State.store_putStore]
    cases ok <;> rfl
  · rw [State.store_putStore]
    cases ok <;> rfl

/-- POISON_REWRITE of a POISONED location, by whether it failed repeatedly (R195, R196). -/
theorem exec_poisonRewrite {slice : Fin 32} {loc : Fin 32768} {s : State} (hs : s.stopped = false)
    (hp : (s.store slice.val).poisoned.contains loc.val = true) : exec (.poisonRewrite slice loc) s = .next
      (if (s.store slice.val).repeats.contains loc.val then patch slice.val loc.val (s.itemAt slice.val loc.val) s
      else s.putStore slice.val { s.store slice.val with
        poisoned := (s.store slice.val).poisoned.filter fun l => l != loc.val }) :=
  congrArg Host.Outcome.next ((State.running_of hs _).trans (State.given_of hp _))

theorem poisonRewrite_rewrites (slice : Fin 32) (loc : Fin 32768) (s : State) (hs : s.stopped = false)
    (hp : (s.store slice.val).poisoned.contains loc.val = true) (hr : (s.store slice.val).repeats.contains loc.val = false) :
    ∃ t, exec (.poisonRewrite slice loc) s = .next t ∧
      Only [.regs, .out, .host, .latches, .ucs] s t ∧
      (t.store slice.val).poisoned = (s.store slice.val).poisoned.filter (fun l => l != loc.val) ∧
      (t.store slice.val).faulty = (s.store slice.val).faulty ∧
      (∀ g, g ≠ slice.val → t.store g = s.store g) ∧
      RegsOnly [] s t := by
  have he := exec_poisonRewrite hs hp
  rw [if_neg (by rw [hr]; decide)] at he
  refine ⟨_, he, only_of_exec he (by apply execPoisonRewrite_touches <;> simp [Touches.refl]), ?_, ?_,
    fun g hg => State.store_putStore_of_ne s hg _, RegsOnly.of_regs_eq _ (State.putStore_regs _ _ _)⟩
  · rw [State.store_putStore]
  · rw [State.store_putStore]

theorem poisonRewrite_patches (slice : Fin 32) (loc : Fin 32768) (s : State) (hs : s.stopped = false)
    (hp : (s.store slice.val).poisoned.contains loc.val = true) (hr : (s.store slice.val).repeats.contains loc.val = true) :
    exec (.poisonRewrite slice loc) s = .next (patch slice.val loc.val (s.itemAt slice.val loc.val) s) ∧
      Only [.regs, .out, .host, .latches, .ucs] s (patch slice.val loc.val (s.itemAt slice.val loc.val) s) ∧
      ((patch slice.val loc.val (s.itemAt slice.val loc.val) s).store slice.val).poisoned =
        (s.store slice.val).poisoned.filter (fun l => l != loc.val) := by
  have he := exec_poisonRewrite hs hp
  rw [if_pos hr] at he
  exact ⟨he, only_of_exec he (by apply execPoisonRewrite_touches <;> simp [Touches.refl]), patch_poisoned _ _ _ s⟩

theorem arm_arms (slice : Fin 32) (s : State) (hs : s.stopped = false) (hsh : s.shut (ucsPage slice.val) = false)
    (h3 : s.ucsState slice.val = 3) :
    ∃ t, exec (.arm slice) s = .next t ∧
      Only [.regs, .latches, .mtn] s t ∧
      t.rd (ucsPage slice.val) F.ucs_BANK_CTRL_ARM = 1 ∧
      t.ucsState slice.val = 3 ∧
      RegsOnly [ucsPage slice.val] s t := by
  have hw := (ucsState_wakeClock s (ucsPage slice.val) slice.val).trans h3
  have he : exec (.arm slice) s = .next ((s.wakeClock (ucsPage slice.val)).wr (ucsPage slice.val) F.ucs_BANK_CTRL_ARM 1) :=
    congrArg Host.Outcome.next ((State.written_of hs hsh _).trans (arm_staged hw))
  exact ⟨_, he, only_of_exec he (by apply execArm_touches <;> simp [Touches.refl]), State.rd_wr_self _ _ _ 1,
    (ucsState_wr _ _ (by decide) 1).trans hw,
    (RegsOnly.of_regs_eq _ (State.wakeClock_regs _ _)).trans (State.wr_regsOnly _ _ (by decide) 1)⟩

theorem bankAbort_rollsBack (slice : Fin 32) (s : State) (hs : s.stopped = false) (hsh : s.shut (ucsPage slice.val) = false)
    (h3 : s.ucsState slice.val = 3) (hdue : ¬ (s.epochDue ∧ s.on (ucsPage slice.val) F.ucs_BANK_CTRL_ARM = true)) :
    exec (.bankAbort slice) s = .next (setUcsState slice.val 5 (s.wakeClock (ucsPage slice.val))) ∧
      Only [.regs, .out, .host, .latches, .mtn] s (setUcsState slice.val 5 (s.wakeClock (ucsPage slice.val))) ∧
      (setUcsState slice.val 5 (s.wakeClock (ucsPage slice.val))).ucsState slice.val = 5 := by
  have he : exec (.bankAbort slice) s = .next (setUcsState slice.val 5 (s.wakeClock (ucsPage slice.val))) :=
    congrArg Host.Outcome.next ((State.written_of hs hsh _).trans
      (bankAbort_staged ((ucsState_wakeClock _ _ _).trans h3) (by rwa [State.epochDue_wakeClock, State.on_wakeClock])))
  exact ⟨he, only_of_exec he (by apply execBankAbort_touches <;> simp [Touches.refl]), ucsState_setUcsState (by decide) _ _⟩

theorem bankAbort_isRefused (slice : Fin 32) (s : State) (hs : s.stopped = false) (hsh : s.shut (ucsPage slice.val) = false)
    (hsw : s.switchesNow slice.val) :
    ∃ t, exec (.bankAbort slice) s = .next t ∧
      Only [.regs, .out, .host, .latches, .mtn] s t ∧
      t.rd (ucsPage slice.val) F.ucs_BANK_STATUS_ABORT_REFUSED = 1 ∧
      t.ucsState slice.val = s.ucsState slice.val ∧
      RegsOnly [ucsPage slice.val] s t := by
  have he : exec (.bankAbort slice) s =
      .next ((s.wakeClock (ucsPage slice.val)).set1 (ucsPage slice.val) F.ucs_BANK_STATUS_ABORT_REFUSED) :=
    congrArg Host.Outcome.next ((State.written_of hs hsh _).trans
      (bankAbort_refused ((State.switchesNow_wakeClock _ _ _).2 hsw)))
  refine ⟨_, he, only_of_exec he (by apply execBankAbort_touches <;> simp [Touches.refl]), State.rd_set1_self _ _ _, ?_,
    (RegsOnly.of_regs_eq _ (State.wakeClock_regs _ _)).trans (set1_regsOnly _ _ (by decide))⟩
  rw [State.set1, ucsState_congr (State.mark_regs _ _ _), ucsState_wr _ _ (by decide), ucsState_wakeClock]

theorem clearStats_clears (slice : Fin 32) (s : State) (hs : s.stopped = false) (hsh : s.shut (ucsPage slice.val) = false) :
    exec (.clearStats slice) s = .next (clearStats slice.val (s.wakeClock (ucsPage slice.val))) ∧
      Only [.regs, .latches, .mtn] s (clearStats slice.val (s.wakeClock (ucsPage slice.val))) ∧
      (clearStats slice.val (s.wakeClock (ucsPage slice.val))).rd (ucsPage slice.val) F.ucs_MC_STATUS_MC_COUNT = 0 := by
  have he : exec (.clearStats slice) s = .next (clearStats slice.val (s.wakeClock (ucsPage slice.val))) :=
    congrArg Host.Outcome.next (State.written_of hs hsh _)
  exact ⟨he, only_of_exec he (by apply execClearStats_touches <;> simp [Touches.refl]), mcCount_clearStats _ _⟩

theorem csSelWrite_selects (slice : Fin 32) (addr : Fin 4096) (bank : Fin 2) (region : Fin 4) (s : State) (hs : s.stopped = false)
    (hsh : s.shut (ucsPage slice.val) = false) :
    ∃ t, exec (.csSelWrite slice addr bank region) s = .next t ∧
      Only [.regs, .free, .latches, .mtn] s t ∧
      t.rd (ucsPage slice.val) F.ucs_CS_SEL_ADDR = addr.val ∧
      t.rd (ucsPage slice.val) F.ucs_CS_SEL_BANK = bank.val ∧
      t.rd (ucsPage slice.val) F.ucs_CS_SEL_REGION = region.val ∧
      RegsOnly [ucsPage slice.val] s t := by
  have he : exec (.csSelWrite slice addr bank region) s =
      .next (selectItem slice.val addr.val bank.val region.val (s.wakeClock (ucsPage slice.val))) :=
    congrArg Host.Outcome.next (State.written_of hs hsh _)
  exact ⟨_, he, only_of_exec he (by apply execCsSelWrite_touches <;> simp [Touches.refl]),
    (rd_selectItem (by decide) _ _ _ _ _).trans (rd_selected_addr _ _ _ _ _),
    (rd_selectItem (by decide) _ _ _ _ _).trans (rd_selected_bank _ _ _ _ _),
    (rd_selectItem (by decide) _ _ _ _ _).trans (rd_selected_region _ _ _ _ _),
    (RegsOnly.of_regs_eq _ (State.wakeClock_regs _ _)).trans (selectItem_regsOnly _ _ _ _ _)⟩

theorem stagingComplete_ofLoad (slice : Fin 32) (readback : Bool) (l : Load) (s : State) (hs : s.stopped = false)
    (h2 : s.ucsState slice.val = 2) (hl : s.crown.load = some l) :
    exec (.stagingComplete slice readback) s = .next (stagedFor l slice.val readback s) ∧
      Only [.regs, .out, .host, .latches, .ucs, .crown] s (stagedFor l slice.val readback s) := by
  have he : exec (.stagingComplete slice readback) s = .next _ := congrArg Host.Outcome.next
    ((State.running_of hs _).trans (State.given_of (by simp [h2]) _))
  dsimp only at he
  rw [stageBank_crown, hl] at he
  exact ⟨he, only_of_exec he (by apply execStagingComplete_touches <;> simp [Touches.refl])⟩

theorem stagingComplete_noLoad (slice : Fin 32) (readback : Bool) (s : State) (hs : s.stopped = false)
    (h2 : s.ucsState slice.val = 2) (hl : s.crown.load = none) :
    exec (.stagingComplete slice readback) s = .next (stageBank slice.val readback s) ∧
      Only [.regs, .out, .host, .latches, .ucs, .crown] s (stageBank slice.val readback s) := by
  have he : exec (.stagingComplete slice readback) s = .next _ := congrArg Host.Outcome.next
    ((State.running_of hs _).trans (State.given_of (by simp [h2]) _))
  dsimp only at he
  rw [stageBank_crown, hl] at he
  exact ⟨he, only_of_exec he (by apply execStagingComplete_touches <;> simp [Touches.refl])⟩

theorem drainComplete_entersResync (slice : Fin 32) (s : State) (hs : s.stopped = false) (h4 : s.ucsState slice.val = 4)
    (hold : s.oldBankFrames slice.val = 0) :
    exec (.drainComplete slice) s = .next (setUcsState slice.val 5 s) ∧
      Only [.regs, .out, .host] s (setUcsState slice.val 5 s) ∧
      (setUcsState slice.val 5 s).ucsState slice.val = 5 ∧
      (setUcsState slice.val 5 s).on (ucsPage slice.val) F.ucs_BANK_STATUS_GOLDEN = false := by
  have he : exec (.drainComplete slice) s = .next (setUcsState slice.val 5 s) := congrArg Host.Outcome.next
    ((State.running_of hs _).trans (State.given_of (by simp [h4, hold]) _))
  exact ⟨he, only_of_exec he (by apply execDrainComplete_touches <;> simp [Touches.refl]), ucsState_setUcsState (by decide) _ _,
    golden_setUcsState (by omega) (by decide)⟩

theorem drainSlow_isReported (slice : Fin 32) (s : State) (hs : s.stopped = false) (h4 : s.ucsState slice.val = 4)
    (hslow : (s.store slice.val).slow = false) (hw : (s.store slice.val).since + ns 100000000 ≤ s.mono) :
    ∃ t, exec (.drainSlow slice) s = .next t ∧
      Only [.regs, .out, .host, .latches, .ucs] s t ∧
      (t.store slice.val).slow = true ∧
      t.ucsState slice.val = 4 ∧
      (t.store slice.val).since = (s.store slice.val).since := by
  have he : exec (.drainSlow slice) s =
      .next ((s.putStore slice.val { s.store slice.val with slow := true }).raise (ucsPage slice.val) 6) :=
    congrArg Host.Outcome.next ((State.running_of hs _).trans (State.given_of (by simp [h4, hslow, hw]) _))
  refine ⟨_, he, only_of_exec he (by apply execDrainSlow_touches <;> simp [Touches.refl]), ?_, ?_, ?_⟩
  · rw [State.store_raise, State.store_putStore]
  · rw [ucsState_raise _ _ (by decide), ucsState_congr (State.putStore_regs _ _ _), h4]
  · rw [State.store_raise, State.store_putStore]

theorem resyncComplete_mirrors (slice : Fin 32) (s : State) (hs : s.stopped = false) (h5 : s.ucsState slice.val = 5) :
    exec (.resyncComplete slice) s = .next (mirrored slice.val s) ∧
      Only [.regs, .out, .host, .ucs] s (mirrored slice.val s) ∧
      (mirrored slice.val s).ucsState slice.val = 1 := by
  have he : exec (.resyncComplete slice) s = .next (mirrored slice.val s) :=
    congrArg Host.Outcome.next ((State.running_of hs _).trans (State.given_of (by simp [h5]) _))
  exact ⟨he, only_of_exec he (by apply execResyncComplete_touches <;> simp [Touches.refl]), ucsState_setUcsState (by decide) _ _⟩

/-- Settles O27, command by command: past its gate each leaves the slice's store, its BANK_STATUS or its CS_SEL as its rule gives them.
That an ABORT in the cycle of the switch is refused is the model's deduction, log entry 72, and so is that a location which fails
repeatedly is patched for good, log entry 150. -/
theorem microcodeCommandsComplete : Obligations.MicrocodeCommandsComplete := by
  unfold Obligations.MicrocodeCommandsComplete
  exact ⟨goldenRepair_repairs, poisonRewrite_rewrites, poisonRewrite_patches, arm_arms, bankAbort_rollsBack, bankAbort_isRefused,
    clearStats_clears, csSelWrite_selects, stagingComplete_ofLoad, stagingComplete_noLoad, drainComplete_entersResync,
    drainSlow_isReported, resyncComplete_mirrors⟩

end Sys2Proof
end

section
/-! SUPPORT. The acts on the tables in the order of their cycle: which comes first, which waits, and what one that need not wait
does (R222, R231). -/

namespace Sys2Proof.Machine

/-! ## The first of acts that wait -/

/-- Of two acts the one that comes first, and the one found earlier where neither does. -/
def earlier (best : Option TableAct) (a : TableAct) : Option TableAct :=
  match best with
  | some b => if rankBefore a.rank b.rank then some a else some b
  | none => some a

/-- The acts that may go next: those of no queue, and each queue's oldest (R231). -/
def mayGo (acts : List TableAct) : List TableAct :=
  acts.filter fun a => a.queue.isNone || (acts.find? fun b => b.queue == a.queue) == some a

theorem nextAct_eq_foldl (acts : List TableAct) : nextAct acts = (mayGo acts).foldl earlier none := rfl

theorem mem_mayGo_of_noQueue {acts : List TableAct} {a : TableAct} (ha : a ∈ acts) (hq : a.queue = none) : a ∈ mayGo acts :=
  List.mem_filter.2 ⟨ha, by simp [hq]⟩

theorem head_mem_mayGo (a : TableAct) (acts : List TableAct) : a ∈ mayGo (a :: acts) :=
  List.mem_filter.2 ⟨List.mem_cons_self, by simp⟩

theorem rankBefore_false_trans {a b c : Nat × Nat} (hab : rankBefore a b = false) (hbc : rankBefore b c = false) :
    rankBefore a c = false := by
  simp only [rankBefore, decide_eq_false_iff_not] at *
  omega

theorem rankBefore_asymm {a b : Nat × Nat} (h : rankBefore a b = true) : rankBefore b a = false := by
  simp only [rankBefore, decide_eq_true_eq, decide_eq_false_iff_not] at *
  omega

theorem rankBefore_irrefl (a : Nat × Nat) : rankBefore a a = false := by simp [rankBefore]

/-- One comparison keeps one of the two acts, and neither comes before it. -/
theorem earlier_some (b a : TableAct) : ∃ m, earlier (some b) a = some m ∧ (m = b ∨ m = a) ∧
    rankBefore b.rank m.rank = false ∧ rankBefore a.rank m.rank = false := by
  by_cases h : rankBefore a.rank b.rank = true
  · exact ⟨a, if_pos h, .inr rfl, rankBefore_asymm h, rankBefore_irrefl _⟩
  · exact ⟨b, if_neg h, .inl rfl, rankBefore_irrefl _, by simpa using h⟩

theorem foldl_earlier (acts : List TableAct) (b : TableAct) : ∃ m, acts.foldl earlier (some b) = some m ∧ m ∈ b :: acts ∧
    ∀ c ∈ b :: acts, rankBefore c.rank m.rank = false := by
  induction acts generalizing b with
  | nil => exact ⟨b, rfl, List.mem_cons_self, by simp [rankBefore_irrefl]⟩
  | cons a r ih =>
    obtain ⟨b', hb', hmem, hb, ha⟩ := earlier_some b a
    obtain ⟨m, hm, hin, hmin⟩ := ih b'
    have hb'm := hmin b' List.mem_cons_self
    refine ⟨m, by rw [List.foldl_cons, hb', hm], ?_, ?_⟩
    · rcases List.mem_cons.1 hin with rfl | hr
      · rcases hmem with rfl | rfl <;> simp
      · exact List.mem_cons_of_mem _ (List.mem_cons_of_mem _ hr)
    · intro c hc
      rcases List.mem_cons.1 hc with rfl | hc
      · exact rankBefore_false_trans hb hb'm
      · rcases List.mem_cons.1 hc with rfl | hr
        · exact rankBefore_false_trans ha hb'm
        · exact hmin c (List.mem_cons_of_mem _ hr)

/-- The next act is one that may go, and none that may go comes before it. -/
theorem nextAct_some {acts : List TableAct} {a : TableAct} (h : nextAct acts = some a) :
    a ∈ mayGo acts ∧ ∀ b ∈ mayGo acts, rankBefore b.rank a.rank = false := by
  rw [nextAct_eq_foldl] at h
  cases hgo : mayGo acts with
  | nil => rw [hgo] at h; cases h
  | cons x r =>
    obtain ⟨m, hm, hin, hmin⟩ := foldl_earlier r x
    rw [hgo] at h
    cases hm.symm.trans h
    exact ⟨hin, hmin⟩

theorem nextAct_isSome {acts : List TableAct} (h : acts ≠ []) : (nextAct acts).isSome = true := by
  obtain ⟨a, r, rfl⟩ := List.exists_cons_of_ne_nil h
  obtain ⟨x, l, hgo⟩ := List.exists_cons_of_ne_nil (List.ne_nil_of_mem (head_mem_mayGo a r))
  obtain ⟨m, hm, -, -⟩ := foldl_earlier l x
  rw [nextAct_eq_foldl, hgo]
  exact Option.isSome_of_mem hm

/-! ## Acts that wait -/

/-- An act put with those that wait, behind them. -/
def State.deferAct (s : State) (a : TableAct) : State := { s with tbl := { s.tbl with deferred := s.tbl.deferred ++ [a] } }

theorem endCycle_of_pending {s : State} (h : s.cycleOver = false) : endCycle s = s := by
  unfold endCycle
  rw [h]
  rfl

theorem endCycle_of_noneDeferred {s : State} (h : s.tbl.deferred = []) : endCycle s = s := by
  unfold endCycle
  rw [h, List.isEmpty_nil, Bool.not_true, Bool.and_false]
  rfl

theorem cycleOver_of_rankOf {s : State} {c : Instr} {x : (Nat × Nat) × Option Nat} (hc : c ∈ s.pending) (hr : s.rankOf c = some x) :
    s.cycleOver = false := by
  unfold State.cycleOver
  exact List.all_eq_false.2 ⟨c, hc, by simp [hr]⟩

theorem tableAct_waits {s : State} {a : TableAct} (hw : s.mustWait a = true) (hc : s.cycleOver = false) :
    tableAct a s = s.deferAct a := by
  unfold tableAct
  rw [if_pos hw]
  exact endCycle_of_pending (s := s.deferAct a) hc

/-- A command of the same cycle that comes before an act, and not of the act's own queue, has it wait (R222, R231). -/
theorem mustWait_of_pending {s : State} {a : TableAct} {c : Instr} {r : Nat × Nat} {k : Option Nat} (hc : c ∈ s.pending)
    (hr : s.rankOf c = some (r, k)) (hk : a.queue = none ∨ k ≠ a.queue) (hlt : rankBefore r a.rank = true) :
    s.mustWait a = true := by
  have hk' : (k.isNone || k != a.queue) = true := by
    rcases hk with h | h
    · rw [h]; cases k <;> rfl
    · simp [h]
  unfold State.mustWait
  exact Bool.or_eq_true_iff.2 (.inl (List.any_eq_true.2 ⟨c, hc, by simp [hr, hlt, hk']⟩))

/-- With none deferred, an act waits for a command of its cycle alone, so the cycle goes on. -/
theorem cycleOver_of_mustWait {s : State} {a : TableAct} (hd : s.tbl.deferred = []) (hw : s.mustWait a = true) :
    s.cycleOver = false := by
  unfold State.mustWait at hw
  rw [hd, List.any_nil, Bool.or_false] at hw
  obtain ⟨c, hc, hbefore⟩ := List.any_eq_true.1 hw
  cases hr : s.rankOf c with
  | none => rw [hr] at hbefore; cases hbefore
  | some x => exact cycleOver_of_rankOf hc hr

/-! ## Acts that need not wait -/

theorem tableAct_acts {s : State} {a : TableAct} (h : s.mustWait a = false) : tableAct a s = endCycle (runAct a s) := by
  unfold tableAct
  rw [h]
  rfl

theorem tableAct_only (a : TableAct) (s : State) : Only [.regs, .out, .host, .latches, .ucs, .tbl, .vsr] s (tableAct a s) :=
  (tableAct_touches (by decide) (by decide) (by decide) (by decide) (by decide) (by decide) (by decide) (Touches.refl _ s)).only

theorem onCommand_of {q op : Nat} {d : List Byte} {s : State} (hs : s.stopped = false) (hc : s.command q op = some d)
    (f : List Byte → State → State) : onCommand q op f s = f d s := by
  unfold onCommand
  rw [State.running_of hs, hc]

/-- A command whose meaning is an act that need not wait does it, and then the cycle may end. -/
theorem exec_acts {i : Instr} {a : TableAct} {s t : State} (he : exec i s = .next (tableAct a s)) (hm : s.mustWait a = false)
    (hr : runAct a s = t) :
    exec i s = .next (endCycle t) ∧ Only [.regs, .out, .host, .latches, .ucs, .tbl, .vsr] s (endCycle t) := by
  have ht : tableAct a s = endCycle t := by rw [tableAct_acts hm, hr]
  exact ⟨he.trans (congrArg _ ht), ht ▸ tableAct_only a s⟩

/-- A command whose meaning is an act that comes behind another of its cycle does nothing but wait. -/
theorem exec_waits {i : Instr} {a : TableAct} {s : State} {c : Instr} {r : Nat × Nat} {k : Option Nat}
    (he : exec i s = .next (tableAct a s)) (hc : c ∈ s.pending) (hr : s.rankOf c = some (r, k))
    (hk : a.queue = none ∨ k ≠ a.queue) (hlt : rankBefore r a.rank = true) :
    exec i s = .next (s.deferAct a) ∧ Only [.tbl] s (s.deferAct a) :=
  ⟨he.trans (congrArg _ (tableAct_waits (mustWait_of_pending hc hr hk hlt) (cycleOver_of_rankOf hc hr))),
    (Touches.upd_tbl (by decide) (Touches.refl _ s)).only⟩

end Sys2Proof.Machine
end

section
/-! PROOF. O31: the acts of one cycle keep the order of R222. -/

namespace Sys2Proof

open Sys2Proof.Machine

/-- Settles O31: a command of the cycle that comes before an act has it wait, and the next of those that wait is found by
comparing ranks. That acts wait in tbl.deferred among the commands of one queue, taken as one cycle, is the model's choice, log
entry 19; the order itself is R222's. -/
theorem actsOnTheTablesKeepTheirOrder : Obligations.ActsOnTheTablesKeepTheirOrder := by
  unfold Obligations.ActsOnTheTablesKeepTheirOrder
  have hfirst {r : Nat × Nat} {n : Nat} (h : r.1 < n) : rankBefore r (n, 0) = true := decide_eq_true (.inl h)
  refine ⟨⟨fun l a h => ?_, fun l => nextAct_isSome⟩, ?_, ?_, ?_, ?_, ?_, ?_, ?_, ?_, ?_⟩
  · obtain ⟨hmem, hmin⟩ := nextAct_some h
    exact ⟨(List.mem_filter.1 hmem).1, fun b hb hq => hmin b (mem_mayGo_of_noQueue hb hq)⟩
  · exact fun _ _ _ _ _ _ _ hc hr hk hlt => exec_waits rfl hc hr (.inr hk) (decide_eq_true hlt)
  · exact fun _ _ _ _ _ hc hr hk hlt => exec_waits rfl hc hr (.inr hk) (decide_eq_true hlt)
  · exact fun _ _ _ _ _ hc hr hk hlt => exec_waits rfl hc hr (.inr hk) (decide_eq_true hlt)
  · exact fun _ _ _ _ hc hr hlt => exec_waits rfl hc hr (.inl rfl) (decide_eq_true (.inl hlt))
  · exact fun _ _ _ _ _ hc hr hlt => exec_waits rfl hc hr (.inl rfl) (hfirst hlt)
  · exact fun _ _ _ _ _ hc hr hlt => exec_waits rfl hc hr (.inl rfl) (hfirst hlt)
  · exact fun _ _ _ _ _ hc hr hk hlt => exec_waits rfl hc hr (.inr hk) (hfirst hlt)
  · exact fun _ _ _ _ _ hc hr hk hlt => exec_waits rfl hc hr (.inr hk) (hfirst hlt)
  · exact fun _ _ _ _ _ hc hr hlt => exec_waits rfl hc hr (.inl rfl) (hfirst hlt)

end Sys2Proof
end

section
/-! SUPPORT. A command queue's registers: what CQ_CFG, the doorbell and a fetch error write (R230, R488). -/

namespace Sys2Proof.Machine

theorem State.cq_wakeClock (s : State) (page q : Nat) : (s.wakeClock page).cq q = s.cq q := by
  rw [State.wakeClock_eq]
  rfl

theorem State.cqSize_wakeClock (s : State) (page q : Nat) : (s.wakeClock page).cqSize q = s.cqSize q := by
  unfold State.cqSize
  rw [State.rd_wakeClock]

/-- A queue's record with descriptors posted to it, put in its place, and the tail moved on (R230). -/
def postedTo (q tail : Nat) (c : Cq) (descs : List (List Byte)) (s : State) : State :=
  (s.wr (cqPage q) F.tblq_CQ_TAIL tail).putCq q { c with posted := c.posted ++ descs }

/-- CQ_CFG of a queue that is not enabled, written with ENABLE 0: LOG2_SIZE is taken (R230). -/
theorem writeCqCfg_sets {q : Nat} {w : Word} {s : State} (h4 : 4 ≤ w.toNat / 256 % 16) (h12 : w.toNat / 256 % 16 ≤ 12)
    (he : w.toNat % 2 = 0) (hoff : s.on (cqPage q) F.tblq_CQ_CFG_ENABLE = false) :
    writeCqCfg q w s = (s.wr (cqPage q) F.tblq_CQ_CFG_LOG2_SIZE (w.toNat / 256 % 16)).wr (cqPage q) F.tblq_CQ_CFG_ENABLE 0 := by
  unfold writeCqCfg
  simp only [he, hoff, if_neg (show ¬ (w.toNat / 256 % 16 < 4 ∨ w.toNat / 256 % 16 > 12) by omega)]
  rfl

/-- The same with ENABLE 1: the queue starts, and fetches (R230). -/
theorem writeCqCfg_starts {q : Nat} {w : Word} {s : State} (h4 : 4 ≤ w.toNat / 256 % 16) (h12 : w.toNat / 256 % 16 ≤ 12)
    (he : w.toNat % 2 = 1) (hoff : s.on (cqPage q) F.tblq_CQ_CFG_ENABLE = false) :
    writeCqCfg q w s = pump (fetchPosted q (((s.wr (cqPage q) F.tblq_CQ_CFG_LOG2_SIZE (w.toNat / 256 % 16)).wr (cqPage q)
      F.tblq_CQ_CFG_ENABLE 1).wr (cqPage q) F.tblq_CQ_STATUS_STOPPED 0)) := by
  unfold writeCqCfg
  simp only [he, hoff, if_neg (show ¬ (w.toNat / 256 % 16 < 4 ∨ w.toNat / 256 % 16 > 12) by omega)]
  rfl

theorem log2Size_set (q n : Nat) (hn : n < 16) (s : State) :
    ((s.wr (cqPage q) F.tblq_CQ_CFG_LOG2_SIZE n).wr (cqPage q) F.tblq_CQ_CFG_ENABLE 0).rd (cqPage q) F.tblq_CQ_CFG_LOG2_SIZE = n := by
  rw [State.rd_wr_of_ne _ _ (Fld.key_ne_of_place_ne _ (by decide)), State.rd_wr_self]
  exact Nat.mod_eq_of_lt hn

/-- The bit addresses of STOPPED and FETCH_ERR of a queue. -/
def cqErrorKeys (q : Nat) : List Nat := [F.tblq_CQ_STATUS_STOPPED.key (cqPage q) 0 0, F.tblq_CQ_STATUS_FETCH_ERR.key (cqPage q) 0 0]

theorem offHeader_cqErrorKeys (q page : Nat) : OffHeader (· ∈ cqErrorKeys q) page := by
  unfold OffHeader cqErrorKeys
  simp only [List.mem_cons, List.not_mem_nil, or_false, Fld.key, F.tblq_CQ_STATUS_STOPPED, F.tblq_CQ_STATUS_FETCH_ERR]
  omega

/-- A fetch error sets both bits, and the causes it raises leave them (R230). -/
theorem cqError_regsKept (q : Nat) (translation : Bool) (s : State) : RegsKept (· ∈ cqErrorKeys q)
    ((s.set1 (cqPage q) F.tblq_CQ_STATUS_STOPPED).set1 (cqPage q) F.tblq_CQ_STATUS_FETCH_ERR) (cqError q translation s) :=
  ((RegsKept.refl _ _).raise (offHeader_cqErrorKeys q _) (by decide)).raise (offHeader_cqErrorKeys q _)
    (by cases translation <;> decide)

theorem on_stopped_cqError (q : Nat) (translation : Bool) (s : State) :
    (cqError q translation s).on (cqPage q) F.tblq_CQ_STATUS_STOPPED = true := by
  have hset : (s.set1 (cqPage q) F.tblq_CQ_STATUS_STOPPED).rd (cqPage q) F.tblq_CQ_STATUS_STOPPED = 1 := State.rd_set1_self _ _ _
  rw [(cqError_regsKept q translation s).on (by simp [cqErrorKeys]), State.on, State.set1,
    State.rd, State.rdx_congr (State.mark_regs _ _ _), ← State.rd, State.rd_wr_of_ne _ _ (Fld.key_ne_of_place_ne _ (by decide)), hset]
  rfl

theorem on_fetchErr_cqError (q : Nat) (translation : Bool) (s : State) :
    (cqError q translation s).on (cqPage q) F.tblq_CQ_STATUS_FETCH_ERR = true := by
  rw [(cqError_regsKept q translation s).on (by simp [cqErrorKeys]), State.on, State.rd_set1_self]
  rfl

end Sys2Proof.Machine
end

section
/-! PROOF. O28: command queues, and the commands that search, change and sweep the tables (R211, R229, R230, R233). -/

namespace Sys2Proof

open Sys2Proof.Machine

theorem cqDoorbell_posts (queue : Fin 16) (tail : BitVec 12) (descs : List (List Byte)) (s : State) (hs : s.stopped = false)
    (hsh : s.shut (cqPage queue.val) = false)
    (hlen : descs.length = (tail.toNat % s.cqSize queue.val + s.cqSize queue.val -
      s.rd (cqPage queue.val) F.tblq_CQ_TAIL % s.cqSize queue.val) % s.cqSize queue.val)
    (hdescs : (descs.all fun d => d.length == 256) = true) :
    let t := wakeCrown (pump (fetchPosted queue.val
      (postedTo queue.val tail.toNat (s.cq queue.val) descs (s.wakeClock (cqPage queue.val)))))
    exec (.cqDoorbell queue tail descs) s = .next t ∧ Only [.regs, .out, .host, .latches, .tbl, .mtn] s t := by
  intro t
  have he : exec (.cqDoorbell queue tail descs) s = .next (wakeCrown (pump (fetchPosted queue.val (postedTo queue.val tail.toNat
      ((s.wakeClock (cqPage queue.val)).cq queue.val) descs (s.wakeClock (cqPage queue.val)))))) :=
    congrArg Host.Outcome.next ((State.written_of hs hsh _).trans (State.given_of (by
      rw [hdescs, State.cqSize_wakeClock, State.rd_wakeClock, ← hlen, decide_eq_true rfl]; rfl) _))
  rw [State.cq_wakeClock] at he
  exact ⟨he, only_of_exec he (by apply execCqDoorbell_touches <;> simp [Touches.refl])⟩

theorem cqFetchErr_stops (queue : Fin 16) (translation : Bool) (s : State) (hs : s.stopped = false)
    (hon : s.on (cqPage queue.val) F.tblq_CQ_CFG_ENABLE = true) :
    exec (.cqFetchErr queue translation) s = .next (cqError queue.val translation s) ∧
      Only [.regs, .out, .host, .latches] s (cqError queue.val translation s) ∧
      (cqError queue.val translation s).on (cqPage queue.val) F.tblq_CQ_STATUS_STOPPED = true ∧
      (cqError queue.val translation s).on (cqPage queue.val) F.tblq_CQ_STATUS_FETCH_ERR = true := by
  have he : exec (.cqFetchErr queue translation) s = .next (cqError queue.val translation s) :=
    congrArg Host.Outcome.next ((State.running_of hs _).trans (State.given_of hon _))
  exact ⟨he, only_of_exec he (by apply execCqFetchErr_touches <;> simp [Touches.refl]), on_stopped_cqError _ _ _,
    on_fetchErr_cqError _ _ _⟩

theorem exec_cqEnable {queue : Fin 16} {data : Word} {s : State} (hs : s.stopped = false) (hsh : s.shut (cqPage queue.val) = false) :
    exec (.cqEnable queue data) s = .next (writeCqCfg queue.val data (s.wakeClock (cqPage queue.val))) :=
  congrArg Host.Outcome.next (State.written_of hs hsh _)

theorem cqEnable_sets (queue : Fin 16) (data : Word) (s : State) (hs : s.stopped = false) (hsh : s.shut (cqPage queue.val) = false)
    (h4 : 4 ≤ data.toNat / 256 % 16) (h12 : data.toNat / 256 % 16 ≤ 12) (h0 : data.toNat % 2 = 0)
    (hoff : s.on (cqPage queue.val) F.tblq_CQ_CFG_ENABLE = false) :
    ∃ t, exec (.cqEnable queue data) s = .next t ∧
      Only [.regs, .out, .host, .latches, .tbl, .mtn] s t ∧
      t.rd (cqPage queue.val) F.tblq_CQ_CFG_LOG2_SIZE = data.toNat / 256 % 16 ∧
      t.rd (cqPage queue.val) F.tblq_CQ_CFG_ENABLE = 0 ∧
      RegsOnly [cqPage queue.val] s t := by
  have he := (exec_cqEnable (data := data) hs hsh).trans
    (congrArg _ (writeCqCfg_sets h4 h12 h0 ((State.on_wakeClock _ _ _ _).trans hoff)))
  exact ⟨_, he, only_of_exec he (by apply execCqEnable_touches <;> simp [Touches.refl]),
    log2Size_set _ _ (Nat.mod_lt _ (by decide)) _, State.rd_wr_self _ _ _ 0,
    ((RegsOnly.of_regs_eq _ (State.wakeClock_regs _ _)).trans (State.wr_regsOnly _ _ (by decide) _)).trans
      (State.wr_regsOnly _ _ (by decide) _)⟩

theorem cqEnable_starts (queue : Fin 16) (data : Word) (s : State) (hs : s.stopped = false) (hsh : s.shut (cqPage queue.val) = false)
    (h4 : 4 ≤ data.toNat / 256 % 16) (h12 : data.toNat / 256 % 16 ≤ 12) (h1 : data.toNat % 2 = 1)
    (hoff : s.on (cqPage queue.val) F.tblq_CQ_CFG_ENABLE = false) :
    let t := pump (fetchPosted queue.val ((((s.wakeClock (cqPage queue.val)).wr (cqPage queue.val) F.tblq_CQ_CFG_LOG2_SIZE
      (data.toNat / 256 % 16)).wr (cqPage queue.val) F.tblq_CQ_CFG_ENABLE 1).wr (cqPage queue.val) F.tblq_CQ_STATUS_STOPPED 0))
    exec (.cqEnable queue data) s = .next t ∧ Only [.regs, .out, .host, .latches, .tbl, .mtn] s t := by
  intro t
  have he : exec (.cqEnable queue data) s = .next t := (exec_cqEnable (data := data) hs hsh).trans
    (congrArg _ (writeCqCfg_starts h4 h12 h1 ((State.on_wakeClock _ _ _ _).trans hoff)))
  exact ⟨he, only_of_exec he (by apply execCqEnable_touches <;> simp [Touches.refl])⟩

theorem flushCmd_passes {q : Nat} {d : List Byte} {s : State} (ht : dTable d = 1) (hf : dFlag d 0 = false) (ha : dArg d ≤ 1023) :
    flushCmd q d s = passEmt q (fun e => e.data.testBit 10 && e.port == dArg d && (dFlag d 4 || !e.isStatic)) s :=
  if_neg (by simp [ht, hf, Nat.not_lt.2 ha])

theorem flushCmd_bad {q : Nat} {d : List Byte} {s : State} (h : dTable d ≠ 1 ∨ dFlag d 0 = true ∨ 1023 < dArg d) :
    flushCmd q d s = complete q { status := 7 } s := if_pos h

theorem sweepCmd_passes {q : Nat} {d : List Byte} {s : State} (ht : dTable d = 1) (hf : dFlag d 0 = false) :
    sweepCmd q d s = passEmt q (fun e => !e.isStatic && decide (s.age e ≥ dArg d)) s := if_neg (by simp [ht, hf])

/-- Settles O28: the queue's registers past their gates, and each command as the act that its place in the cycle lets it be. -/
theorem tableCommandsComplete : Obligations.TableCommandsComplete := by
  unfold Obligations.TableCommandsComplete
  refine ⟨cqDoorbell_posts, cqFetchErr_stops, cqEnable_sets, cqEnable_starts, ?_, ?_, ?_, ?_, ?_, ?_, ?_, ?_⟩
  · exact fun queue d s hs hm hc => exec_acts rfl hm (onCommand_of hs hc _)
  · exact fun queue d s hs hm hc => exec_acts rfl hm (onCommand_of hs hc _)
  · exact fun queue path choice d s hs hm hc => exec_acts rfl hm (onCommand_of hs hc _)
  · exact fun queue d s hs hm hc => exec_acts rfl hm (onCommand_of hs hc _)
  · exact fun queue d s hs hm hc => exec_acts rfl hm (onCommand_of hs hc _)
  · exact fun queue d s hs hm hc ht hf ha => exec_acts rfl hm ((onCommand_of hs hc _).trans (flushCmd_passes ht hf ha))
  · exact fun queue d s hs hm hc hbad => exec_acts rfl hm ((onCommand_of hs hc _).trans (flushCmd_bad hbad))
  · exact fun queue d s hs hm hc ht hf => exec_acts rfl hm ((onCommand_of hs hc _).trans (sweepCmd_passes ht hf))

end Sys2Proof
end

section
/-! SUPPORT. What leaves the tables as they were, and the one part of them that the other operations change (R211, R219, R225). -/

namespace Sys2Proof.Machine

theorem Touches.tbl_eq {s t : State} (h : Touches (· ≠ .tbl) s t) : t.tbl = s.tbl := h.same .tbl (by simp)

@[simp] theorem State.raise_tbl (s : State) (page cause : Nat) : (s.raise page cause).tbl = s.tbl :=
  (State.raise_touches (by simp) (by simp) (by simp) (by simp) (Touches.refl _ s)).tbl_eq

@[simp] theorem State.vector_tbl (s : State) (v : Nat) : (s.vector v).tbl = s.tbl :=
  (State.vector_touches (by simp) (by simp) (Touches.refl _ s)).tbl_eq

@[simp] theorem refreshEmt_tbl (s : State) : (refreshEmt s).tbl = s.tbl :=
  (refreshEmt_touches (by simp) (by simp) (by simp) (by simp) (Touches.refl _ s)).tbl_eq

@[simp] theorem State.putEmt_tbl (s : State) (i : Nat) (p : Place EmtEntry) :
    (s.putEmt i p).tbl = { s.tbl with emt := s.tbl.emt.put {} i p } := refreshEmt_tbl _

@[simp] theorem putHolds_tbl (hs : List (Nat × Nat)) (s : State) : (putHolds hs s).tbl = { s.tbl with holds := hs } := rfl

/-- A place reads back what was put there. -/
theorem State.emtAt_putEmt (s : State) (i : Nat) (p : Place EmtEntry) : (s.putEmt i p).emtAt i = p := by
  rw [State.emtAt, State.putEmt_tbl]
  exact SMap.val_put_self _ _ _ _

theorem putHolds_regsOnly (hs : List (Nat × Nat)) (s : State) : RegsOnly [0x301] s (putHolds hs s) :=
  State.wr_regsOnly _ 0x301 (by decide) _

end Sys2Proof.Machine
end

section
/-! PROOF. O30: versions, learning, move holds, the sweeper, the stash and the shadow (R211, R219, R224 to R228, R240, R241). -/

namespace Sys2Proof.Machine

/-- The move holds that have not run out (R225). -/
def State.standingHolds (s : State) : List (Nat × Nat) :=
  s.tbl.holds.filter fun x => decide (s.now ≤ ns (x.2 + s.rd 0x301 F.tbl1_LEARN_CFG_MOVE_HOLD))

theorem retireAt_emt {i g : Nat} {s : State} (hg : (s.emtAt i).since = some g) (hr : s.runsOlder g = false) :
    retireAt 1 i s = s.putEmt i (s.emtAt i).retire := by
  unfold retireAt
  simp [hg, hr]

theorem learnNext_applies {path : List Nat} {sl : Nat} {e : LearnEv} {s : State} (hf : s.firstLearn = some (sl, e))
    (hdue : e.stamp + ns 16384 ≤ s.now) : learnNext path s = applyLearn e path { s with
      tbl := { s.tbl with learns := s.tbl.learns.put [] sl ((s.tbl.learns.val [] sl).erase e) } } := by
  unfold learnNext
  rw [hf]
  exact State.given_of (decide_eq_true hdue) _

theorem sweepVisit_removes {i : Nat} {e : EmtEntry} {s : State} (hnow : (s.emtAt i).now = some e)
    (hen : s.on 0x301 F.tbl1_AGE_CFG_AGE_ENABLE = true) (hst : e.isStatic = false) (hstaged : (s.emtAt i).staged = none)
    (hage : min 64511 (s.rd 0x301 F.tbl1_AGE_CFG_AGE_LIMIT) ≤ s.age e) :
    sweepVisit i s = notify 4 e.port 0xFFFF s.nowNs i e.key ((removeEmt i s).count 0x0A07 0) := by
  unfold sweepVisit
  rw [hnow]
  exact State.given_of (by simp only [hen, hst, hstaged, decide_eq_true hage]; rfl) _

theorem stashBack_moves {e k j : Nat} {s : State} (hk : (s.emtAt (stash0 + e)).emtKeyOf = some k)
    (hj : (s.candidates k).find? (fun j => (s.emtAt j).isFree) = some j) (hstaged : (s.emtAt (stash0 + e)).staged = none) :
    stashBack e s = moveEmt (stash0 + e) j s := by
  unfold stashBack
  simp only [hk, hj]
  exact State.given_of (by rw [hstaged]; rfl) _

end Sys2Proof.Machine

namespace Sys2Proof

open Sys2Proof.Machine

theorem versionRetire_retires (table : Fin 3) (index : Nat) (s : State) (hs : s.stopped = false) :
    exec (.versionRetire table index) s = .next (retireAt (table.val + 1) index s) ∧
      Only [.regs, .out, .host, .latches, .tbl] s (retireAt (table.val + 1) index s) := by
  have he : exec (.versionRetire table index) s = .next (retireAt (table.val + 1) index s) :=
    congrArg Host.Outcome.next (State.running_of hs _)
  exact ⟨he, only_of_exec he (by apply execVersionRetire_touches <;> simp [Touches.refl])⟩

theorem versionRetire_emt (table : Fin 3) (index g : Nat) (s : State) (hs : s.stopped = false) (h0 : table.val = 0)
    (hg : (s.emtAt index).since = some g) (hr : s.runsOlder g = false) :
    exec (.versionRetire table index) s = .next (s.putEmt index (s.emtAt index).retire) ∧
      Only [.regs, .out, .host, .latches, .tbl] s (s.putEmt index (s.emtAt index).retire) ∧
      (s.putEmt index (s.emtAt index).retire).emtAt index = (s.emtAt index).retire := by
  obtain ⟨he, honly⟩ := versionRetire_retires table index s hs
  have hret : retireAt (table.val + 1) index s = s.putEmt index (s.emtAt index).retire := by rw [h0]; exact retireAt_emt hg hr
  rw [hret] at he honly
  exact ⟨he, honly, State.emtAt_putEmt _ _ _⟩

theorem moveHoldExpiry_drops (s : State) (hs : s.stopped = false) (hne : s.standingHolds.length ≠ s.tbl.holds.length) :
    ∃ t, exec .moveHoldExpiry s = .next t ∧
      Only [.regs, .tbl] s t ∧
      t.tbl.holds = s.standingHolds ∧
      t.rd 0x301 F.tbl1_EMT_STATUS_HOLD_USED = t.tbl.holds.length % 2 ^ F.tbl1_EMT_STATUS_HOLD_USED.w ∧
      RegsOnly [0x301] s t := by
  have he : exec .moveHoldExpiry s = .next (putHolds s.standingHolds s) :=
    congrArg Host.Outcome.next ((State.running_of hs _).trans (State.given_of (bne_iff_ne.2 hne) _))
  exact ⟨_, he, only_of_exec he (by apply execMoveHoldExpiry_touches <;> simp [Touches.refl]), rfl, State.rd_wr_self _ _ _ _,
    putHolds_regsOnly _ s⟩

theorem shadowWrite_mirrors (table : Fin 3) (index : Nat) (ok : Bool) (s : State) (hs : s.stopped = false)
    (hb : s.tbl.behind.contains (table.val + 1, index) = true) (hr : s.shadowReachable = true) :
    let t := if ok = true then releaseDone (mirror (table.val + 1) index s) else s.raise 0x300 9
    exec (.shadowWrite table index ok) s = .next t ∧
      Only [.regs, .out, .host, .latches, .tbl, .mtn] s t ∧
      (ok = false → s.quenched 0x300 = false → (t.rd 0x300 F.hdr_ERR_STATUS_REAL).testBit 9 = true) := by
  intro t
  have he : exec (.shadowWrite table index ok) s = .next t :=
    congrArg Host.Outcome.next ((State.running_of hs _).trans (State.given_of (by rw [hb, hr]; rfl) _))
  refine ⟨he, only_of_exec he (by apply execShadowWrite_touches <;> simp [Touches.refl]), fun hok hq => ?_⟩
  have ht : t = s.raise 0x300 9 := if_neg (by simp [hok])
  rw [ht]
  exact testBit_real_raise (by decide) hq

/-- A place not awaited takes what the shadow holds, and is no more behind it (R241). -/
def reloadPlace (table : Nat) (u : State) (i : Nat) : State :=
  if u.awaited table i = true then u
  else { reload table i u with
    tbl := { (reload table i u).tbl with behind := (reload table i u).tbl.behind.filter fun x => x != (table, i) } }

theorem shadowReload_reloads (table : Fin 3) (places lost : List Nat) (s : State) (hs : s.stopped = false)
    (hr : s.shadowReachable = true) (hl : lost = [] ∨ s.shadowPoisoned = true) :
    let t := (places.filter fun i => !lost.contains i).foldl (reloadPlace (table.val + 1))
      (lost.foldl (fun u i => loseEntry (table.val + 1) i u) s)
    exec (.shadowReload table places lost) s = .next t ∧ Only [.regs, .out, .host, .latches, .tbl] s t := by
  intro t
  have hgate : (s.shadowReachable && (lost.isEmpty || s.shadowPoisoned)) = true := by simpa [hr] using hl
  have he : exec (.shadowReload table places lost) s = .next t :=
    congrArg Host.Outcome.next ((State.running_of hs _).trans (State.given_of hgate _))
  exact ⟨he, only_of_exec he (by apply execShadowReload_touches <;> simp [Touches.refl])⟩

/-- Settles O30, command by command. That a reload leaves the places still awaited is the model's choice, log entry 65, and so is
that the oldest learn event of all slices is applied first, log entry 20. -/
theorem tableUpkeepCommandsComplete : Obligations.TableUpkeepCommandsComplete := by
  unfold Obligations.TableUpkeepCommandsComplete
  refine ⟨versionRetire_emt, versionRetire_retires, ?_, moveHoldExpiry_drops, ?_, ?_, shadowWrite_mirrors, shadowReload_reloads⟩
  · exact fun path sl e s hs hm hf hdue => exec_acts rfl hm ((State.running_of hs _).trans (learnNext_applies hf hdue))
  · exact fun index e s hs hm hnow hen hst hstaged hage =>
      exec_acts rfl hm ((State.running_of hs _).trans (sweepVisit_removes hnow hen hst hstaged hage))
  · exact fun entry k j s hs hm hk hj hstaged => exec_acts rfl hm ((State.running_of hs _).trans (stashBack_moves hk hj hstaged))

end Sys2Proof
end

section
/-! SUPPORT. What the completion of commands leaves of an epoch: it changes no part of the tables but the queues, and no register of
the epoch (R231, R237). -/

namespace Sys2Proof.Machine

/-- The bit addresses of STATE and STAGED. -/
def epochKeys : List Nat := [F.tbl0_EPOCH_STATUS_STATE.key 0x300 0 0, F.tbl0_EPOCH_STATUS_STAGED.key 0x300 0 0]

/-- STATE and STAGED are as they were, and of the tables only the queues may have changed. -/
structure QueuesMove (s t : State) : Prop where
  regs : RegsKept (· ∈ epochKeys) s t
  tbl : t.tbl = { s.tbl with cqs := t.tbl.cqs }

theorem offHeader_epochKeys (page : Nat) : OffHeader (· ∈ epochKeys) page := by
  unfold OffHeader epochKeys
  simp only [List.mem_cons, List.not_mem_nil, or_false, Fld.key, F.tbl0_EPOCH_STATUS_STATE, F.tbl0_EPOCH_STATUS_STAGED]
  omega

/-- The queues' pages lie behind that of the epoch. -/
theorem cqPage_notMem_epochKeys (q : Nat) (f : Fld) : f.key (cqPage q) 0 0 ∉ epochKeys := by
  simp only [epochKeys, List.mem_cons, List.not_mem_nil, or_false, Fld.key, F.tbl0_EPOCH_STATUS_STATE, F.tbl0_EPOCH_STATUS_STAGED,
    cqPage]
  omega

section
variable {s t : State}

theorem QueuesMove.refl (s : State) : QueuesMove s s := ⟨RegsKept.refl _ s, rfl⟩

theorem QueuesMove.of_tbl_eq {u : State} (h : QueuesMove s t) (hr : RegsKept (· ∈ epochKeys) s u) (ht : u.tbl = t.tbl) :
    QueuesMove s u := ⟨hr, by rw [ht]; exact h.tbl⟩

theorem QueuesMove.putCq (h : QueuesMove s t) (q : Nat) (c : Cq) : QueuesMove s (t.putCq q c) :=
  ⟨h.regs.congr rfl, by unfold State.putCq; rw [h.tbl]⟩

theorem QueuesMove.wrCq (h : QueuesMove s t) (q : Nat) (f : Fld) (v : Nat) : QueuesMove s (t.wr (cqPage q) f v) :=
  h.of_tbl_eq (h.regs.wr (cqPage_notMem_epochKeys q f) v) rfl

theorem QueuesMove.set1Cq (h : QueuesMove s t) (q : Nat) (f : Fld) : QueuesMove s (t.set1 (cqPage q) f) :=
  h.of_tbl_eq (h.regs.set1 (cqPage_notMem_epochKeys q f)) rfl

theorem QueuesMove.raise (h : QueuesMove s t) (page : Nat) {cause : Nat} (hc : cause < 64) : QueuesMove s (t.raise page cause) :=
  h.of_tbl_eq (h.regs.raise (offHeader_epochKeys page) hc) (State.raise_tbl _ _ _)

theorem QueuesMove.vector (h : QueuesMove s t) (v : Nat) : QueuesMove s (t.vector v) :=
  h.of_tbl_eq (h.regs.vector v) (State.vector_tbl _ _)

theorem QueuesMove.send (h : QueuesMove s t) (o : Output) : QueuesMove s (t.send o) := h.of_tbl_eq (h.regs.congr rfl) rfl

theorem QueuesMove.ite {a b : State} {c : Prop} [Decidable c] (ha : QueuesMove s a) (hb : QueuesMove s b) :
    QueuesMove s (if c then a else b) := by
  split
  · exact ha
  · exact hb

theorem QueuesMove.foldl {α : Type} {f : State → α → State} (hf : ∀ u x, QueuesMove s u → QueuesMove s (f u x)) (l : List α)
    (h : QueuesMove s t) : QueuesMove s (l.foldl f t) := by
  induction l generalizing t with
  | nil => exact h
  | cons x r ih => exact ih (hf t x h)

theorem QueuesMove.showCq (h : QueuesMove s t) (q : Nat) : QueuesMove s (showCq q t) := by
  have hq : QueuesMove s (t.wr (cqPage q) F.tblq_CQ_STATUS_IN_FLIGHT (t.cq q).fetched.length) := h.wrCq q _ _
  exact hq.of_tbl_eq (hq.regs.wr (by decide) _) rfl

theorem QueuesMove.cqError (h : QueuesMove s t) (q : Nat) (translation : Bool) : QueuesMove s (cqError q translation t) :=
  (((h.set1Cq q _).set1Cq q _).raise 0x300 (by decide)).raise 0x380 (by cases translation <;> decide)

theorem QueuesMove.cutCq (h : QueuesMove s t) (q : Nat) : QueuesMove s (cutCq q t) := ((h.putCq q _).showCq q).cqError q false

theorem QueuesMove.fetchPosted (h : QueuesMove s t) (q : Nat) : QueuesMove s (fetchPosted q t) := by
  unfold Machine.fetchPosted
  exact .ite (.ite (.ite h (h.cutCq q)) ((h.putCq q _).showCq q)) h

/-- Bytes of a completion written to the host, where the command writes them. -/
theorem QueuesMove.hostWrite (h : QueuesMove s t) (a : Nat) (bs : Option (List Byte)) :
    QueuesMove s (match bs with | some b => t.send (.hostWrite a b) | none => t) := by
  cases bs with
  | none => exact h
  | some b => exact h.send _

theorem QueuesMove.finish (h : QueuesMove s t) (q : Nat) (c : Completion) : QueuesMove s (finish q c t) := by
  unfold Machine.finish
  split
  · exact h
  · refine .ite (h.cutCq q) ?_
    extract_lets pg head at_ put fields s1 c1 s2 s3 s4
    have hput (off : Nat) (bs : Option (List Byte)) {u : State} (hu : QueuesMove s u) : QueuesMove s (put off bs u) :=
      hu.hostWrite _ bs
    have h1 : QueuesMove s s1 := hput 0xC0 (some (leBytes 1 c.status)) (hput 0xC1 (some fields) (hput 0x80 c.mask (hput 0x40 c.key h)))
    have h2 : QueuesMove s s2 := (h1.putCq q _).wrCq q _ _
    have h3 : QueuesMove s s3 := h2.showCq q
    have h4 : QueuesMove s s4 := .ite h3 (h3.vector _)
    exact h4.foldl (fun _ k hu => hu.fetchPosted k) _

theorem QueuesMove.skipUnknown (h : QueuesMove s t) (q n : Nat) : QueuesMove s (skipUnknown q n t) := by
  induction n generalizing t with
  | zero => exact h
  | succ n ih =>
    unfold Machine.skipUnknown
    split
    · exact h
    · exact .ite h (ih (h.finish q _))

theorem QueuesMove.complete (h : QueuesMove s t) (q : Nat) (c : Completion) : QueuesMove s (complete q c t) :=
  (h.finish q c).foldl (fun _ k hu => hu.skipUnknown k _) _

theorem QueuesMove.releaseDone (h : QueuesMove s t) : QueuesMove s (releaseDone t) := by
  refine h.foldl (fun u q hu => ?_) _
  split
  · exact .ite hu (hu.complete q _)
  · exact hu

theorem QueuesMove.epochState (h : QueuesMove s t) : t.epochState = s.epochState := h.regs.rd (by decide)

theorem QueuesMove.staged (h : QueuesMove s t) : t.rd 0x300 F.tbl0_EPOCH_STATUS_STAGED = s.rd 0x300 F.tbl0_EPOCH_STATUS_STAGED :=
  h.regs.rd (by decide)

end

end Sys2Proof.Machine
end

section
/-! SUPPORT. The effect of an epoch: the sealed journal and the acts that wait stay as they are, and STATE is SETTLE (R237). -/

namespace Sys2Proof.Machine

/-- The epoch's journal and the acts that wait are as they were. -/
structure JournalKept (s t : State) : Prop where
  journal : t.tbl.journal = s.tbl.journal
  deferred : t.tbl.deferred = s.tbl.deferred

section
variable {s t : State}

theorem JournalKept.refl (s : State) : JournalKept s s := ⟨rfl, rfl⟩

theorem JournalKept.of_tbl_eq {u : State} (h : JournalKept s t) (ht : u.tbl = t.tbl) : JournalKept s u :=
  ⟨by rw [ht, h.journal], by rw [ht, h.deferred]⟩

theorem JournalKept.foldl {α : Type} {f : State → α → State} (hf : ∀ u x, JournalKept s u → JournalKept s (f u x)) (l : List α)
    (h : JournalKept s t) : JournalKept s (l.foldl f t) := by
  induction l generalizing t with
  | nil => exact h
  | cons x r ih => exact ih (hf t x h)

theorem JournalKept.putEmt (h : JournalKept s t) (i : Nat) (p : Place EmtEntry) : JournalKept s (t.putEmt i p) :=
  ⟨by rw [State.putEmt_tbl, ← h.journal], by rw [State.putEmt_tbl, ← h.deferred]⟩

theorem JournalKept.dropHold (h : JournalKept s t) (i : Nat) : JournalKept s (dropHold i t) := by
  unfold Machine.dropHold
  split
  · exact ⟨h.journal, h.deferred⟩
  · exact h

/-- A version put in force changes the table of its place alone. -/
theorem JournalKept.putRow (h : JournalKept s t) (i : Nat) (r : Row) (g : Nat) : JournalKept s (putRow i r g t) := by
  unfold Machine.putRow
  cases r with
  | emt x =>
    cases x with
    | none => exact (h.putEmt i _).dropHold i
    | some _ => exact h.putEmt i _
  | lpa _ => exact ⟨h.journal, h.deferred⟩
  | cla _ => exact ⟨h.journal, h.deferred⟩

theorem JournalKept.switchBank (h : JournalKept s t) (g : Nat) : JournalKept s (switchBank g t) :=
  h.of_tbl_eq (switchBank_touches (by simp) (by simp) (by simp) (by simp) (Touches.refl _ t)).tbl_eq

theorem JournalKept.count (h : JournalKept s t) (event inst : Nat) : JournalKept s (t.count event inst) :=
  h.of_tbl_eq (State.count_touches (by simp) (by simp) (Touches.refl _ t)).tbl_eq

theorem epochEffect_journalKept (s : State) : JournalKept s (epochEffect s) := by
  unfold epochEffect
  extract_lets e s1 s2 s3 tables s4 s5 s6 s7
  split
  · exact JournalKept.refl s
  · have h1 : JournalKept s s1 := ⟨rfl, rfl⟩
    have h2 : JournalKept s s2 := h1.foldl (fun u x hu => by
      split
      · exact hu.putRow _ _ _
      · exact hu) _
    have h3 : JournalKept s s3 := h2.foldl (fun u g hu => hu.switchBank g) _
    have h6 : JournalKept s s6 := ⟨h3.journal, h3.deferred⟩
    have h7 : JournalKept s s7 := by
      unfold s7
      split
      · exact h6.of_tbl_eq rfl
      · exact h6
    exact (h7.count _ _).of_tbl_eq (State.vector_tbl _ _)

end

/-- With no earlier version left at a place of the epoch its effect leads to SETTLE (R219, R237). -/
theorem epochState_epochEffect {s : State} (h : (s.tbl.epoch.changes.any fun x => s.kept x.1 x.2) = false) :
    (epochEffect s).epochState = 4 := by
  unfold epochEffect
  extract_lets e s1 s2 s3 tables s4 s5 s6 s7
  have h6 : s6.epochState = 4 := State.rd_wr_self _ _ _ 4
  have h7 : RegsKept (· = F.tbl0_EPOCH_STATUS_STATE.key 0x300 0 0) s6 s7 :=
    .ite ((RegsKept.refl _ s6).set1 (by decide)) (RegsKept.refl _ s6)
  have h8 := (h7.countEvent (by rintro _ rfl; unfold beforeCounters; decide) 0x0A03 0 1 none).vector 274
  rw [if_neg (by rw [h]; decide)]
  exact (h8.rd rfl).trans h6

end Sys2Proof.Machine
end

section
/-! PROOF. O29: generation drains, and the epoch from its commit to its end (R221, R235 to R237). -/

namespace Sys2Proof.Machine

/-! ## GEN_DRAIN -/

theorem State.cq_congr {s t : State} (h : t.tbl = s.tbl) (q : Nat) : t.cq q = s.cq q := by
  unfold State.cq
  rw [h]

@[simp] theorem State.cq_putCq (s : State) (q : Nat) (c : Cq) : (s.putCq q c).cq q = c := SMap.val_put_self _ _ _ _

theorem State.cq_putCq_of_ne (s : State) {p q : Nat} (h : p ≠ q) (c : Cq) : (s.putCq q c).cq p = s.cq p := SMap.val_put_of_ne _ _ h _

/-- What a GEN_DRAIN of a generation does: it is refused, waits, or completes (R221). -/
def drainOf (q : Nat) (d : List Byte) (g : Nat) (s : State) : State :=
  if dTable d ≠ 0 then complete q { status := 7 } s
  else if s.holdsOlder g = true then s.putCq q { s.cq q with drain := some (g, s.mono, false) }
  else complete q { status := 1, gen := g } s

theorem drainOf_waits {q g : Nat} {d : List Byte} {s : State} (ht : dTable d = 0) (h : s.holdsOlder g = true) :
    drainOf q d g s = s.putCq q { s.cq q with drain := some (g, s.mono, false) } := by
  unfold drainOf
  rw [if_neg (not_not_intro ht), if_pos h]

theorem drainOf_completes {q g : Nat} {d : List Byte} {s : State} (ht : dTable d = 0) (h : s.holdsOlder g = false) :
    drainOf q d g s = complete q { status := 1, gen := g } s := by
  unfold drainOf
  rw [if_neg (not_not_intro ht), if_neg (by rw [h]; decide)]

/-! ## EPOCH_COMMIT -/

/-- A commit accepted: the epoch is open and in SEALING, with its queue and the instant of its effect (R236, R237). -/
def acceptCommit (q : Nat) (d : List Byte) (s : State) : State :=
  let s1 := openEpoch s
  let e := { s1.tbl.epoch with
    queue := some q
    effect := dEffect d }
  let s2 := { s1 with tbl := { s1.tbl with epoch := e } }.putCq q { s1.cq q with done := some { status := 1, places := [] } }
  (s2.wr 0x300 F.tbl0_EPOCH_STATUS_STATE 2).wr 0x300 F.tbl0_EPOCH_STATUS_ERRORS 0

theorem epochState_acceptCommit (q : Nat) (d : List Byte) (s : State) : (acceptCommit q d s).epochState = 2 := by
  unfold acceptCommit State.epochState
  rw [State.rd_wr_of_ne _ _ (by decide)]
  exact State.rd_wr_self _ _ _ 2

theorem errors_acceptCommit (q : Nat) (d : List Byte) (s : State) : (acceptCommit q d s).rd 0x300 F.tbl0_EPOCH_STATUS_ERRORS = 0 :=
  State.rd_wr_self _ _ _ 0

/-! ## EPOCH_SETTLE_COMPLETE -/

/-- The epoch ended: its places are in the shadow, nothing is staged or listed, and the journal is APPLIED (R237). -/
def settled (s : State) : State :=
  let s1 := s.tbl.epoch.changes.foldl (fun t x => mirror x.1 x.2 (retireAt x.1 x.2 t)) s
  let s2 := { s1 with tbl := { s1.tbl with
    epoch := {}
    listEmt := []
    listLpa := []
    listCla := []
    journal := { s1.tbl.journal with phase := 3 } } }
  ((s2.wr 0x300 F.tbl0_EPOCH_STATUS_STATE 0).wr 0x300 F.tbl0_EPOCH_STATUS_STAGED 0).vector 274

/-- The commit of an epoch that has ended completes, where a queue waits for it, and so does what has reached the shadow with it. -/
def completeCommit (q : Option Nat) (c : Completion) (s : State) : State :=
  match q with
  | some q => releaseDone (complete q c s)
  | none => releaseDone s

theorem completeCommit_queuesMove (q : Option Nat) (c : Completion) (s : State) : QueuesMove s (completeCommit q c s) := by
  cases q with
  | some q => exact ((QueuesMove.refl s).complete q c).releaseDone
  | none => exact (QueuesMove.refl s).releaseDone

theorem epochState_settled (s : State) : (settled s).epochState = 0 := by
  unfold settled State.epochState
  rw [State.rd_vector, State.rd_wr_of_ne _ _ (by decide)]
  exact State.rd_wr_self _ _ _ 0

theorem staged_settled (s : State) : (settled s).rd 0x300 F.tbl0_EPOCH_STATUS_STAGED = 0 := by
  unfold settled
  rw [State.rd_vector]
  exact State.rd_wr_self _ _ _ 0

theorem settled_tbl (s : State) :
    (settled s).tbl.epoch = {} ∧ (settled s).tbl.listEmt = [] ∧ (settled s).tbl.journal.phase = 3 := by
  unfold settled
  rw [State.vector_tbl]
  exact ⟨rfl, rfl, rfl⟩

end Sys2Proof.Machine

namespace Sys2Proof

open Sys2Proof.Machine

/-! ## Drains -/

theorem genDrain_drains (queue : Fin 16) (d : List Byte) (g : Nat) (s : State) (hs : s.stopped = false)
    (hc : s.command queue.val 8 = some d) (hg : g = if dArg d = 0 then s.genNow else dArg d) :
    exec (.genDrain queue) s = .next (drainOf queue.val d g s) ∧
      Only [.regs, .out, .host, .latches, .tbl] s (drainOf queue.val d g s) := by
  subst hg
  have he : exec (.genDrain queue) s = .next (drainOf queue.val d (if dArg d = 0 then s.genNow else dArg d) s) :=
    congrArg Host.Outcome.next (onCommand_of hs hc _)
  exact ⟨he, only_of_exec he (by apply execGenDrain_touches <;> simp [Touches.refl])⟩

theorem genDrain_waits (queue : Fin 16) (d : List Byte) (s : State) (hs : s.stopped = false)
    (hc : s.command queue.val 8 = some d) (ht : dTable d = 0) (ha : dArg d ≠ 0) (hold : s.holdsOlder (dArg d) = true) :
    ∃ t, exec (.genDrain queue) s = .next t ∧
      Only [.regs, .out, .host, .latches, .tbl] s t ∧
      (t.cq queue.val).drain = some (dArg d, s.mono, false) ∧
      (∀ q, q ≠ queue.val → t.cq q = s.cq q) ∧
      RegsOnly [] s t := by
  obtain ⟨he, honly⟩ := genDrain_drains queue d (dArg d) s hs hc (if_neg ha).symm
  rw [drainOf_waits ht hold] at he honly
  exact ⟨_, he, honly, by rw [State.cq_putCq], fun q hq => State.cq_putCq_of_ne s hq _, RegsOnly.of_regs_eq _ rfl⟩

theorem genDrain_completes (queue : Fin 16) (d : List Byte) (s : State) (hs : s.stopped = false)
    (hc : s.command queue.val 8 = some d) (ht : dTable d = 0) (ha : dArg d = 0) (hold : s.holdsOlder s.genNow = false) :
    exec (.genDrain queue) s = .next (complete queue.val { status := 1, gen := s.genNow } s) ∧
      Only [.regs, .out, .host, .latches, .tbl] s (complete queue.val { status := 1, gen := s.genNow } s) := by
  have h := genDrain_drains queue d s.genNow s hs hc (if_pos ha).symm
  rwa [drainOf_completes ht hold] at h

theorem genDrainComplete_completes (queue : Fin 16) (g : Nat) (a : T80) (slow : Bool) (s : State) (hs : s.stopped = false)
    (hd : (s.cq queue.val).drain = some (g, a, slow)) (hold : s.holdsOlder g = false) :
    exec (.genDrainComplete queue) s = .next (complete queue.val { status := 1, gen := g } s) ∧
      Only [.regs, .out, .host, .latches, .tbl] s (complete queue.val { status := 1, gen := g } s) := by
  have he : exec (.genDrainComplete queue) s = .next _ := congrArg Host.Outcome.next (State.running_of hs _)
  rw [hd] at he
  have he' := he.trans (congrArg Host.Outcome.next (State.given_of (by rw [hold]; rfl) _))
  exact ⟨he', only_of_exec he' (by apply execGenDrainComplete_touches <;> simp [Touches.refl])⟩

theorem genDrainSlow_isReported (queue : Fin 16) (g : Nat) (a : T80) (s : State) (hs : s.stopped = false)
    (hd : (s.cq queue.val).drain = some (g, a, false)) (hold : s.holdsOlder g = true) (hw : a + ns 100000000 ≤ s.mono) :
    ∃ t, exec (.genDrainSlow queue) s = .next t ∧
      Only [.regs, .out, .host, .latches, .tbl] s t ∧
      (t.cq queue.val).drain = some (g, a, true) := by
  have he : exec (.genDrainSlow queue) s = .next _ := congrArg Host.Outcome.next (State.running_of hs _)
  dsimp only at he
  rw [hd] at he
  have he' := he.trans (congrArg Host.Outcome.next (State.given_of (by rw [hold, decide_eq_true hw]; rfl) _))
  refine ⟨_, he', only_of_exec he' (by apply execGenDrainSlow_touches <;> simp [Touches.refl]), ?_⟩
  rw [State.cq_congr (State.vector_tbl _ _), State.cq_congr (State.raise_tbl _ _ _), State.cq_putCq]

/-! ## Commit and abort -/

theorem epochCommit_seals (queue : Fin 16) (d : List Byte) (s : State) (hs : s.stopped = false)
    (hc : s.command queue.val 9 = some d) (hcommit : dFlag d 5 = false) (ht : dTable d = 0)
    (hopen : s.epochState = 1 ∨ (s.epochState = 0 ∧ s.armed ≠ [])) (hstaged : (s.armed.any fun g => s.ucsState g != 3) = false)
    (herr : s.rd 0x300 F.tbl0_EPOCH_STATUS_ERRORS = 0 ∨ dFlag d 6 = true) :
    ∃ t, exec (.epochCommit queue) s = .next t ∧
      Only [.regs, .out, .host, .latches, .tbl] s t ∧
      t.epochState = 2 ∧
      t.rd 0x300 F.tbl0_EPOCH_STATUS_ERRORS = 0 ∧
      t.tbl.epoch.queue = some queue.val ∧
      t.tbl.epoch.effect = dEffect d := by
  have hbusy : ¬ s.epochState ≥ 2 := by omega
  have hnothing : ¬ (s.epochState = 0 ∧ s.armed.isEmpty = true) := fun h => by
    rcases hopen with h1 | ⟨-, hne⟩
    · omega
    · exact hne (List.isEmpty_iff.1 h.2)
  have herrors : ¬ (s.rd 0x300 F.tbl0_EPOCH_STATUS_ERRORS ≠ 0 ∧ (!dFlag d 6) = true) := fun h => by
    rcases herr with h0 | h6
    · exact h.1 h0
    · rw [h6] at h; exact absurd h.2 (by decide)
  have he : exec (.epochCommit queue) s = .next (acceptCommit queue.val d s) := by
    refine congrArg Host.Outcome.next ((onCommand_of hs hc _).trans ?_)
    dsimp only
    rw [if_neg (by rw [hcommit]; decide), if_neg (not_not_intro ht), if_neg hbusy, if_neg hnothing,
      if_neg (by rw [hstaged]; decide), if_neg herrors]
    rfl
  exact ⟨_, he, only_of_exec he (by apply execEpochCommit_touches <;> simp [Touches.refl]), epochState_acceptCommit _ _ _,
    errors_acceptCommit _ _ _, rfl, rfl⟩

theorem epochAbort_discards (queue : Fin 16) (d : List Byte) (s : State) (hs : s.stopped = false)
    (hc : s.command queue.val 9 = some d) (habort : dFlag d 5 = true) (ht : dTable d = 0) (h1 : s.epochState = 1) :
    exec (.epochAbort queue) s = .next (complete queue.val { status := 14 } (discardEpoch s)) ∧
      Only [.regs, .out, .host, .latches, .tbl] s (complete queue.val { status := 14 } (discardEpoch s)) := by
  have he : exec (.epochAbort queue) s = .next (complete queue.val { status := 14 } (discardEpoch s)) := by
    refine congrArg Host.Outcome.next ((onCommand_of hs hc _).trans ?_)
    dsimp only
    rw [if_neg (by rw [habort]; decide), if_neg (not_not_intro ht), if_neg (by omega), if_neg (by omega)]
  exact ⟨he, only_of_exec he (by apply execEpochAbort_touches <;> simp [Touches.refl])⟩

/-! ## Seal -/

/-- A seal that the journal took lists the armed slices and notes whether the effect comes late; an effect that is due then takes
its place in the cycle (R237). -/
theorem exec_epochSealComplete {q : Nat} {s : State} (hs : s.stopped = false) (h2 : s.epochState = 2)
    (hq : s.tbl.epoch.queue = some q) :
    ∃ u, exec (.epochSealComplete true) s = .next (if s.tbl.epoch.effect ≤ s.now then tableAct (.effect q) u else u) ∧
      u.epochState = 3 ∧ RegsOnly [0x300] s u ∧ u.tbl.journal.phase = 2 ∧ u.tbl.journal.slices = s.armed ∧
      u.tbl.deferred = s.tbl.deferred ∧
      u.tbl.epoch = { s.tbl.epoch with late := decide (s.tbl.epoch.effect ≠ 0 ∧ s.tbl.epoch.effect ≤ s.now) } := by
  have he : exec (.epochSealComplete true) s = .next _ := congrArg Host.Outcome.next
    ((State.running_of hs _).trans (State.given_of (by rw [h2]; rfl) _))
  dsimp only at he
  split at he
  · next hn => rw [hn] at hq; cases hq
  · next q' hq' =>
    cases hq'.symm.trans hq
    exact ⟨_, he, State.rd_wr_self _ _ _ 3, State.wr_regsOnly _ _ (by decide) _, rfl, rfl, rfl, rfl⟩

theorem epochSealComplete_seals (q : Nat) (s : State) (hs : s.stopped = false) (h2 : s.epochState = 2)
    (hq : s.tbl.epoch.queue = some q) (hlater : s.now < s.tbl.epoch.effect) :
    ∃ t, exec (.epochSealComplete true) s = .next t ∧
      Only [.regs, .out, .host, .latches, .ucs, .tbl, .vsr] s t ∧
      t.epochState = 3 ∧
      t.tbl.journal.phase = 2 ∧
      t.tbl.journal.slices = s.armed ∧
      t.tbl.epoch = { s.tbl.epoch with late := false } ∧
      RegsOnly [0x300] s t := by
  obtain ⟨u, he, hstate, hregs, hphase, hslices, -, hepoch⟩ := exec_epochSealComplete hs h2 hq
  rw [if_neg (Nat.not_le.2 hlater)] at he
  rw [decide_eq_false fun h => Nat.not_le.2 hlater h.2] at hepoch
  exact ⟨u, he, only_of_exec he (by apply execEpochSealComplete_touches <;> simp [Touches.refl]), hstate, hphase, hslices, hepoch,
    hregs⟩

theorem epochSealComplete_refuses (journalOk : Bool) (q : Nat) (s : State) (hs : s.stopped = false) (h2 : s.epochState = 2)
    (hq : s.tbl.epoch.queue = some q) (hok : journalOk = false) :
    exec (.epochSealComplete journalOk) s =
        .next (complete q { status := 12 } (refuseEpoch 3 (discardEpoch (s.raise 0x300 10)))) ∧
      Only [.regs, .out, .host, .latches, .ucs, .tbl, .vsr] s
        (complete q { status := 12 } (refuseEpoch 3 (discardEpoch (s.raise 0x300 10)))) := by
  subst hok
  have he : exec (.epochSealComplete false) s = .next _ := congrArg Host.Outcome.next
    ((State.running_of hs _).trans (State.given_of (by rw [h2]; rfl) _))
  dsimp only at he
  split at he
  · next hn => rw [hn] at hq; cases hq
  · next q' hq' =>
    cases hq'.symm.trans hq
    exact ⟨he, only_of_exec he (by apply execEpochSealComplete_touches <;> simp [Touches.refl])⟩

/-- The effect of an epoch in its place of a cycle in which nothing is deferred: it is put off or takes place, and either leaves the
journal. -/
theorem tableAct_effect_journal {q : Nat} {s : State} (hd : s.tbl.deferred = []) :
    (tableAct (.effect q) s).tbl.journal = s.tbl.journal := by
  cases hw : s.mustWait (.effect q) with
  | true =>
    rw [tableAct_waits hw (cycleOver_of_mustWait hd hw)]
    rfl
  | false =>
    have hkept : JournalKept s (runAct (.effect q) s) := by
      unfold runAct State.running State.given
      dsimp only
      split
      · exact JournalKept.refl s
      · split
        · exact epochEffect_journalKept s
        · exact JournalKept.refl s
    rw [tableAct_acts hw, endCycle_of_noneDeferred (hkept.deferred.trans hd), hkept.journal]

theorem epochSealComplete_late (journalOk : Bool) (q : Nat) (s : State) (hs : s.stopped = false) (h2 : s.epochState = 2)
    (hq : s.tbl.epoch.queue = some q) (hok : journalOk = true) (hdue : s.tbl.epoch.effect ≤ s.now) (hd : s.tbl.deferred = []) :
    ∃ t, exec (.epochSealComplete journalOk) s = .next t ∧
      Only [.regs, .out, .host, .latches, .ucs, .tbl, .vsr] s t ∧
      t.tbl.journal.phase = 2 ∧
      t.tbl.journal.slices = s.armed := by
  subst hok
  obtain ⟨u, he, -, -, hphase, hslices, hdef, -⟩ := exec_epochSealComplete hs h2 hq
  rw [if_pos hdue] at he
  have hjournal := tableAct_effect_journal (q := q) (hdef.trans hd)
  exact ⟨_, he, only_of_exec he (by apply execEpochSealComplete_touches <;> simp [Touches.refl]), by rw [hjournal, hphase],
    by rw [hjournal, hslices]⟩

/-! ## Effect and end -/

theorem epochEffect_takesEffect (s : State) (hs : s.stopped = false)
    (hm : s.mustWait (.effect (s.tbl.epoch.queue.getD 0)) = false) (h3 : s.epochState = 3) (hdue : s.tbl.epoch.effect ≤ s.now)
    (hkept : (s.tbl.epoch.changes.any fun x => s.kept x.1 x.2) = false) :
    exec .epochEffect s = .next (endCycle (epochEffect s)) ∧
      Only [.regs, .out, .host, .latches, .ucs, .tbl, .vsr] s (endCycle (epochEffect s)) ∧
      (epochEffect s).epochState = 4 := by
  have hact : runAct (.effect (s.tbl.epoch.queue.getD 0)) s = epochEffect s :=
    (State.running_of hs _).trans (State.given_of (by rw [h3, decide_eq_true hdue]; rfl) _)
  obtain ⟨he, honly⟩ := exec_acts (i := .epochEffect) rfl hm hact
  exact ⟨he, honly, epochState_epochEffect hkept⟩

theorem epochSettleComplete_ends (s : State) (hs : s.stopped = false) (h4 : s.epochState = 4)
    (hr : s.runsOlder s.tbl.epoch.gen = false) :
    ∃ t, exec .epochSettleComplete s = .next t ∧
      Only [.regs, .out, .host, .latches, .tbl, .mtn] s t ∧
      t.epochState = 0 ∧
      t.rd 0x300 F.tbl0_EPOCH_STATUS_STAGED = 0 ∧
      t.tbl.journal.phase = 3 ∧
      t.tbl.listEmt = [] ∧
      t.tbl.epoch = {} := by
  have he : ∃ c, exec .epochSettleComplete s = .next (completeCommit s.tbl.epoch.queue c (settled s)) :=
    ⟨_, congrArg Host.Outcome.next ((State.running_of hs _).trans (State.given_of (by rw [h4, hr]; rfl) _))⟩
  obtain ⟨c, he⟩ := he
  have hmove := completeCommit_queuesMove s.tbl.epoch.queue c (settled s)
  obtain ⟨hepoch, hlist, hphase⟩ := settled_tbl s
  refine ⟨_, he, only_of_exec he (by apply execEpochSettleComplete_touches <;> simp [Touches.refl]),
    hmove.epochState.trans (epochState_settled s), hmove.staged.trans (staged_settled s), ?_, ?_, ?_⟩
  · rw [hmove.tbl]; exact hphase
  · rw [hmove.tbl]; exact hlist
  · rw [hmove.tbl]; exact hepoch

/-- Settles O29, command by command. What a command leaves behind on its completion, a late effect included, is read off the parts
that completing commands (QueuesMove) and the effect (JournalKept) keep. -/
theorem epochCommandsComplete : Obligations.EpochCommandsComplete := by
  unfold Obligations.EpochCommandsComplete
  exact ⟨genDrain_waits, genDrain_completes, genDrain_drains, genDrainComplete_completes, genDrainSlow_isReported, epochCommit_seals,
    epochAbort_discards, epochSealComplete_seals, epochSealComplete_refuses, epochSealComplete_late, epochEffect_takesEffect,
    epochSettleComplete_ends⟩

end Sys2Proof
end

section
/-! SUPPORT. What the change of a power domain writes: the header of its page, its bits of ASLEEP and FAILED, and BUSY of the AVSBus
queue (R409, R414, R421, R429). -/

namespace Sys2Proof.Machine

/-- No bit address of a set is written when a power domain changes. -/
structure OffDomain (K : Nat → Prop) (d : Nat) : Prop where
  header : OffHeader K (pageOfDomain d)
  asleep : ¬ K (F.mtn1_ASLEEP.key 0x31 (d / 64) 0)
  failed : ¬ K (F.mtn1_FAILED.key 0x31 (d / 64) 0)
  busy : ¬ K (F.mtn2_AVS_STATUS_BUSY.key 0x32 0 0)

section
variable {K : Nat → Prop} {s t : State} {d : Nat}

theorem RegsKept.upd_mtn (h : RegsKept K s t) (x : Mitten) : RegsKept K s { t with mtn := x } := h

theorem RegsKept.showDom (h : RegsKept K s t) (hd : OffDomain K d) : RegsKept K s (showDom d t) := by
  unfold Machine.showDom
  extract_lets x p s1
  have h1 : RegsKept K s s1 := (((h.wrHeader hd.header (by decide) _).wrHeader hd.header (by decide) _).wrHeader hd.header
    (by decide) _).wrHeader hd.header (by decide) _
  exact (((h1.wrHeader hd.header (by decide) _).wrHeader hd.header (by decide) _).wri hd.asleep _).wri hd.failed _

theorem RegsKept.putDom (h : RegsKept K s t) (hd : OffDomain K d) (x : Dom) : RegsKept K s (t.putDom d x) := by
  unfold State.putDom
  extract_lets old mtn s1
  have h1 : RegsKept K s s1 := (h.upd_mtn _).showDom hd
  split
  · exact h1.vector 32
  · exact h1

theorem RegsKept.sendAvs (h : RegsKept K s t) (hbusy : ¬ K (F.mtn2_AVS_STATUS_BUSY.key 0x32 0 0)) (l : List AvsTx) :
    RegsKept K s (sendAvs l t) := by
  induction l generalizing t with
  | nil => exact (h.congr rfl).wr hbusy 0
  | cons tx r ih =>
    unfold Machine.sendAvs
    split
    · exact ih (h.congr rfl)
    all_goals exact (h.congr rfl).wr hbusy 1

theorem RegsKept.queueAvs (h : RegsKept K s t) (hbusy : ¬ K (F.mtn2_AVS_STATUS_BUSY.key 0x32 0 0)) (k : AvsKind) :
    RegsKept K s (queueAvs k t) := by
  unfold Machine.queueAvs
  extract_lets tx isCap
  split
  · exact h.sendAvs hbusy _
  · exact h.congr rfl

theorem RegsKept.startWake (h : RegsKept K s t) (hd : OffDomain K d) : RegsKept K s (startWake d t) := by
  unfold Machine.startWake
  extract_lets dom x s1
  have h1 : RegsKept K s s1 := h.putDom hd _
  split
  · exact h.putDom hd _
  · split
    · exact h1
    · exact h1.queueAvs hd.busy _

/-- A domain whose votes may have changed writes no register but those that show domains (R414). -/
theorem RegsKept.recomputeDom (h : RegsKept K s t) (hd : OffDomain K d) : RegsKept K s (recomputeDom d t) := by
  unfold Machine.recomputeDom
  extract_lets x tg y idle
  split
  · split
    · split
      · exact h.putDom hd _
      · exact (h.putDom hd _).startWake hd
    · split
      · exact h.putDom hd _
      · exact h.putDom hd _
  · exact h.putDom hd _
  · exact h.putDom hd _

end

end Sys2Proof.Machine
end

section
/-! SUPPORT. A bank's STATE through the triggering, remapping and retirement of banks (R278 to R283). -/

namespace Sys2Proof.Machine

theorem Touches.palm_eq {s t : State} (h : Touches (· ≠ .palm) s t) : t.palm = s.palm := h.same .palm (by simp)

/-! ## The register -/

/-- The bit address of a bank's STATE. -/
def bankStateKey (b : Nat) : Nat := F.bufg_BANK_STATE.key (bufg b) (b % 32) 0

/-- It lies at offset 0x100 or above of its page, which is no page of Mitten. -/
theorem bankStateKey_eq (b : Nat) : bankStateKey b = (0x480 + b / 32) * 0x8000 + 0x800 + b % 32 * 64 := by
  unfold bankStateKey bufg Fld.key
  simp only [F.bufg_BANK_STATE]
  omega

theorem RegsKept.bankState {s t : State} {b : Nat} (h : RegsKept (· = bankStateKey b) s t) : t.bankState b = s.bankState b :=
  h.rdi rfl

theorem State.bankState_congr {s t : State} (h : t.regs = s.regs) (b : Nat) : t.bankState b = s.bankState b :=
  RegsKept.bankState (.of_regs_eq h)

theorem offHeader_bankState (b page : Nat) : OffHeader (· = bankStateKey b) page := by
  rintro _ rfl
  rw [bankStateKey_eq]
  omega

/-- The registers below offset 0x100 of any page, those of BUFX and of a group's status among them. -/
theorem key_ne_bankStateKey {f : Fld} (hf : f.off * 8 + f.lo < 0x800) (page b : Nat) : f.key page 0 0 ≠ bankStateKey b := by
  rw [bankStateKey_eq]
  unfold Fld.key
  omega

/-- The other fields of the banks' registers. -/
theorem key_ne_bankStateKey_of_bank {f : Fld} (hoff : f.off = 0x100) (hstride : f.stride = 8) (h0 : 0 < f.lo) (h64 : f.lo < 64)
    (page i b : Nat) : f.key page i 0 ≠ bankStateKey b := by
  rw [bankStateKey_eq]
  unfold Fld.key
  rw [hoff, hstride]
  omega

/-- The domain of a bank's group. -/
theorem offDomain_bankState (b : Nat) : OffDomain (· = bankStateKey b) (160 + b / 32) := by
  refine ⟨offHeader_bankState b _, ?_, ?_, ?_⟩
  all_goals
    rw [bankStateKey_eq]
    simp only [Fld.key, F.mtn1_ASLEEP, F.mtn1_FAILED, F.mtn2_AVS_STATUS_BUSY]
    omega

/-! ## STATE -/

/-- A bank's STATE reads as set: it is a field of three bits (R278). -/
theorem bankState_setBankState {v : Nat} (hv : v < 8) (b : Nat) (s : State) : (setBankState b v s).bankState b = v := by
  unfold setBankState
  split
  · next h => exact h
  · extract_lets s1 n
    have hkept : RegsKept (· = bankStateKey b) s1 (s1.wr (bufg b) F.bufg_GROUP_STATUS_BANKS_IN_SERVICE n) :=
      (RegsKept.refl (· = bankStateKey b) s1).wr (key_ne_bankStateKey (by decide) (bufg b) b) n
    rw [hkept.bankState, State.bankState_congr (State.vector_regs _ _), State.bankState, State.rdi_wri_self]
    exact Nat.mod_eq_of_lt hv

section
variable {s t : State} {b : Nat}

theorem RegsKept.raiseBank (h : RegsKept (· = bankStateKey b) s t) (page : Nat) {cause : Nat} (hc : cause < 64) :
    RegsKept (· = bankStateKey b) s (t.raise page cause) := h.raise (offHeader_bankState b page) hc

theorem RegsKept.wrBank (h : RegsKept (· = bankStateKey b) s t) {f : Fld} (hf : f.off * 8 + f.lo < 0x800) (page v : Nat) :
    RegsKept (· = bankStateKey b) s (t.wr page f v) := h.wr (key_ne_bankStateKey hf page b) v

theorem RegsKept.correctedBank (h : RegsKept (· = bankStateKey b) s t) (page i n : Nat) :
    RegsKept (· = bankStateKey b) s (t.bumpi page F.bufg_BANK_CORRECTED i n) :=
  h.bumpi (key_ne_bankStateKey_of_bank rfl rfl (by decide) (by decide) page i b) n

theorem RegsKept.refreshCopy (h : RegsKept (· = bankStateKey b) s t) : RegsKept (· = bankStateKey b) s (refreshCopy t) := by
  unfold Machine.refreshCopy
  dsimp only
  split
  · exact h
  · split
    · exact (h.wrBank (by decide) _ _).wrBank (by decide) _ _
    · exact h.wrBank (by decide) _ _

theorem poolSize_place (k : Nat) : (poolSize k).off * 8 + (poolSize k).lo < 0x800 := by
  unfold poolSize
  split <;> decide

theorem RegsKept.takeCapacity (h : RegsKept (· = bankStateKey b) s t) (n : Nat) :
    RegsKept (· = bankStateKey b) s (takeCapacity n t) := by
  unfold Machine.takeCapacity
  split
  next x s1 hx =>
  have hfold : RegsKept (· = bankStateKey b) s (x, s1).2 := by
    rw [← hx]
    exact List.foldlRecOn (motive := fun y : Nat × State => RegsKept (· = bankStateKey b) s y.2) _ _ h
      fun y hy k _ => hy.wrBank (poolSize_place k) _ _
  split
  · exact hfold
  · exact hfold.raiseBank _ (by decide)

theorem RegsKept.checkRetired (h : RegsKept (· = bankStateKey b) s t) : RegsKept (· = bankStateKey b) s (checkRetired b t) := by
  unfold Machine.checkRetired
  split
  · exact (h.wrBank (by decide) _ _).takeCapacity _
  · exact h

end

/-- R280: a bank remapped is REMAPPED, whichever bank it is. -/
theorem bankState_remapBank (b : Nat) (s : State) : (remapBank b s).bankState b = 3 := by
  have hkept := (((RegsKept.refl (· = bankStateKey b) (setBankState b 3 (s.wri (bufg b) F.bufg_BANK_SPARE (b % 32)
    (s.spareFor b)))).raiseBank (bufg b) (cause := 2) (by decide)).refreshCopy).recomputeDom (offDomain_bankState b)
  exact hkept.bankState.trans (bankState_setBankState (by decide) b _)

/-- R279, R281: a bank triggered is in service no more: DRAINING, REMAPPED where it holds no cell, or RETIRED. -/
theorem two_le_bankState_triggerBank (b : Nat) (s : State) : 2 ≤ (triggerBank b s).bankState b := by
  unfold triggerBank
  split
  · next h => omega
  · split
    · extract_lets palm s1
      have hdrains : s1.bankState b = 2 := bankState_setBankState (by decide) b _
      split
      · rw [bankState_remapBank]; decide
      · rw [((RegsKept.refl _ s1).refreshCopy.recomputeDom (offDomain_bankState b)).bankState, hdrains]
    · have hretired : (setBankState b 4 s).bankState b = 4 := bankState_setBankState (by decide) b s
      have hkept := (((RegsKept.refl (· = bankStateKey b) (setBankState b 4 s)).raiseBank (bufg b) (cause := 3) (by decide)).bumpi
        (f := F.bufx_SPARE_STATUS_BANKS_RETIRED) (key_ne_bankStateKey (by decide) 0x4A4 b) 1).checkRetired
      exact (hkept.bankState.trans hretired).symm ▸ (by decide)

/-- An uncorrectable error that no frame's cell shows takes its bank out of service (R279). -/
theorem two_le_bankState_uncorrectedCell (b : Nat) (s : State) : 2 ≤ (uncorrectedCell b none s).bankState b := by
  unfold uncorrectedCell
  extract_lets s1 s2
  split
  · next h =>
    have hkept : RegsKept (· = bankStateKey b) s (s2.bumpi (bufg b) F.bufg_BANK_CORRECTED (b % 32)) :=
      ((RegsKept.refl _ s).raiseBank (bufg b) (by decide)).correctedBank _ _ 1
    rw [hkept.bankState, h]
  · exact two_le_bankState_triggerBank b s2

/-! ## Errors counted -/

theorem State.raise_palm (s : State) (page cause : Nat) : (s.raise page cause).palm = s.palm :=
  (State.raise_touches nofun nofun nofun nofun (Touches.refl _ s)).palm_eq

theorem setBankState_palm (b v : Nat) (s : State) : (setBankState b v s).palm = s.palm :=
  (setBankState_touches nofun nofun nofun (Touches.refl _ s)).palm_eq

/-- Of the Palm's records the triggering of a bank changes the spares in use alone (R279). -/
theorem triggerBank_palm (b : Nat) (s : State) : ∃ m, (triggerBank b s).palm = { s.palm with spares := m } := by
  unfold triggerBank
  split
  · exact ⟨_, rfl⟩
  · split
    · extract_lets palm s1
      refine ⟨_, Eq.trans (b := s1.palm) ?_ (setBankState_palm b 2 _ |>.trans
        (useSpare_touches nofun nofun nofun nofun (Touches.refl _ _)).palm_eq)⟩
      split
      · exact (remapBank_touches nofun nofun nofun nofun nofun (Touches.refl _ s1)).palm_eq
      · exact (recomputeDom_touches nofun nofun nofun nofun (refreshCopy_touches nofun (Touches.refl _ s1))).palm_eq
    · refine ⟨s.palm.spares, (checkRetired_touches nofun nofun nofun nofun (Touches.refl _ _)).palm_eq.trans ?_⟩
      rw [State.bump_palm, State.raise_palm, setBankState_palm]

theorem triggerBank_bankErrors (b : Nat) (s : State) : (triggerBank b s).palm.bankErrors = s.palm.bankErrors := by
  obtain ⟨m, hm⟩ := triggerBank_palm b s
  rw [hm]

/-- The errors of the second that is over are counted no more (R278). -/
theorem bankErrors_bankSecond (b : Nat) (s : State) : (bankSecond b s).palm.bankErrors.val 0 b = 0 := by
  unfold bankSecond
  extract_lets n palm s1
  have h1 : s1.palm.bankErrors.val 0 b = 0 := SMap.val_put_self 0 s.palm.bankErrors b 0
  split
  · split
    · exact h1
    · rw [triggerBank_bankErrors, h1]
  · split
    · rw [setBankState_palm, h1]
    · split
      · rw [setBankState_palm, h1]
      · exact h1

theorem bankErrors_correctedCell (b : Nat) (s : State) :
    (correctedCell b s).palm.bankErrors.val 0 b = s.palm.bankErrors.val 0 b + 1 := by
  unfold correctedCell
  extract_lets s1
  have h1 : s1.palm = s.palm := (State.raise_palm _ _ _).trans (State.bumpi_palm _ _ _ _ _)
  rw [← h1]
  exact SMap.val_put_self 0 s1.palm.bankErrors b (s1.palm.bankErrors.val 0 b + 1)

/-- R278: a corrected error is counted in its bank's register, up to its largest value. -/
theorem corrected_correctedCell (b : Nat) (s : State) : (correctedCell b s).rdi (bufg b) F.bufg_BANK_CORRECTED (b % 32) =
    sat F.bufg_BANK_CORRECTED.w (s.rdi (bufg b) F.bufg_BANK_CORRECTED (b % 32) + 1) % 2 ^ F.bufg_BANK_CORRECTED.w := by
  have hoff : OffHeader (· = F.bufg_BANK_CORRECTED.key (bufg b) (b % 32) 0) (bufg b) := by
    rintro _ rfl
    simp only [Fld.key, F.bufg_BANK_CORRECTED, bufg]
    omega
  have hkept := (RegsKept.refl _ (s.bumpi (bufg b) F.bufg_BANK_CORRECTED (b % 32))).raise hoff (cause := 0) (by decide)
  refine (hkept.rdi rfl).trans ?_
  exact (State.rdx_congr (State.noteCount_regs _ _ _ _ _) _ _ _ _).trans (State.rdi_wri_self _ _ _ _ _)

theorem bankState_correctedCell (b : Nat) (s : State) : (correctedCell b s).bankState b = s.bankState b :=
  (((RegsKept.refl _ s).correctedBank (bufg b) (b % 32) 1).raiseBank (bufg b) (cause := 0) (by decide)).bankState

/-! ## SPARE_CMD -/

theorem State.bankState_wakeClock (s : State) (page b : Nat) : (s.wakeClock page).bankState b = s.bankState b :=
  State.bankState_congr (State.wakeClock_regs s page) b

/-- A bank in service is triggered (R279). -/
theorem spareCmd_inService {b : Nat} {s : State} (hb : b < 1152) (h : s.bankState b < 2) : spareCmd b s = triggerBank b s := by
  rw [spareCmd, if_neg (by omega), if_neg (by omega)]

theorem spareCmd_draining {b : Nat} {s : State} (hb : b < 1152) (h : s.bankState b = 2) :
    spareCmd b s = s.bumpi (bufg b) F.bufg_BANK_CORRECTED (b % 32) := by
  rw [spareCmd, if_neg (by omega), if_pos h]

/-- A bank out of service for good, and no active bank, take no command (R282). -/
theorem spareCmd_discarded {b : Nat} {s : State} (h : 1152 ≤ b ∨ s.bankState b = 3 ∨ s.bankState b = 4) :
    spareCmd b s = s.set1 0x4A4 F.hdr_PAGE_STATUS_WRITE_DROPPED := if_pos h

end Sys2Proof.Machine
end

section
/-! SUPPORT. The windows of the Palm and the multicast groups: what the selectors show (R272, R284 to R286). -/

namespace Sys2Proof

open Sys2Proof.Machine

theorem RegsOnly.wr {s t : State} {page : Nat} (h : RegsOnly [page] s t) {f : Fld} (hf : f.off * 8 + f.lo < 0x8000) (v : Nat) :
    RegsOnly [page] s (t.wr page f v) := h.trans (State.wr_regsOnly t page hf v)

end Sys2Proof

namespace Sys2Proof.Machine

/-- On one page a field keeps its value when another at a different place is written. -/
theorem State.rd_wr_of_place_ne (s : State) {page : Nat} {f g : Fld} (v : Nat) (h : g.off * 8 + g.lo ≠ f.off * 8 + f.lo) :
    (s.wr page f v).rd page g = s.rd page g := State.rd_wr_of_ne s v (Fld.key_ne_of_place_ne page h)

/-- What a window shows of a selection that is not its slice's is zero (R285, R286). -/
theorem rd_showQueue (slice port q : Nat) (s : State) :
    (showQueue slice port q s).rd (0x420 + slice) F.slie_Q_SEL_PORT = port % 2 ^ 10 ∧
      (showQueue slice port q s).rd (0x420 + slice) F.slie_Q_SEL_QUEUE = q % 2 ^ 4 ∧
      (showQueue slice port q s).rd (0x420 + slice) F.slie_Q_CFG_ALPHA =
        (if sliceOf port == slice && s.configured port && decide (q ≤ 9) then (s.queue port q).alpha else 0) %
          2 ^ F.slie_Q_CFG_ALPHA.w := by
  simp (disch := decide) only [showQueue, State.rd_wr_of_place_ne, State.rd_wr_self]
  exact ⟨rfl, rfl, trivial⟩

theorem showQueue_regsOnly (slice port q : Nat) (s : State) : RegsOnly [0x420 + slice] s (showQueue slice port q s) :=
  (((((((((((RegsOnly.refl _ s).wr (by decide) _).wr (by decide) _).wr (by decide) _).wr (by decide) _).wr (by decide) _).wr
    (by decide) _).wr (by decide) _).wr (by decide) _).wr (by decide) _).wr (by decide) _).wr (by decide) _ |>.wr (by decide) _

theorem rd_showPg (slice port c : Nat) (s : State) :
    (showPg slice port c s).rd (0x400 + slice) F.slii_PG_SEL_PORT = port % 2 ^ 10 ∧
      (showPg slice port c s).rd (0x400 + slice) F.slii_PG_SEL_CLASS = c % 2 ^ 3 ∧
      (showPg slice port c s).rd (0x400 + slice) F.slii_PG_CFG1_PG_HDRM =
        (if sliceOf port == slice && s.configured port then (s.pg port c).hdrm else 0) % 2 ^ F.slii_PG_CFG1_PG_HDRM.w := by
  simp (disch := decide) only [showPg, State.rd_wr_of_place_ne, State.rd_wr_self]
  exact ⟨rfl, rfl, trivial⟩

theorem showPg_regsOnly (slice port c : Nat) (s : State) : RegsOnly [0x400 + slice] s (showPg slice port c s) :=
  ((((((((RegsOnly.refl _ s).wr (by decide) _).wr (by decide) _).wr (by decide) _).wr (by decide) _).wr (by decide) _).wr
    (by decide) _).wr (by decide) _).wr (by decide) _ |>.wr (by decide) _

theorem State.queue_wakeClock (s : State) (page port q : Nat) : (s.wakeClock page).queue port q = s.queue port q := by
  rw [State.wakeClock_eq]
  rfl

theorem State.pg_wakeClock (s : State) (page port c : Nat) : (s.wakeClock page).pg port c = s.pg port c := by
  rw [State.wakeClock_eq]
  rfl

theorem State.wakeClock_palm (s : State) (page : Nat) : (s.wakeClock page).palm = s.palm := by rw [State.wakeClock_eq]

/-! ## Multicast groups -/

/-- The group's flags shown, before its ports (R284). -/
def mcgHead (g : Nat) (s : State) : State :=
  ((s.wr 0x4A4 F.bufx_MCG_SEL_GROUP g).wr 0x4A4 F.bufx_MCG_CFG_VALID (if (s.mcg g).valid then 1 else 0)).wr 0x4A4
    F.bufx_MCG_CFG_SKIP_SOURCE (if (s.mcg g).skipSource then 1 else 0)

/-- The list of ports is shown in the registers of MCG_PORTS alone (R284). -/
theorem showMcg_regsKept {K : Nat → Prop} (hports : ∀ k < 16, ¬ K (F.bufx_MCG_PORTS.key 0x4A4 k 0)) (g : Nat) (s : State) :
    RegsKept K (mcgHead g s) (showMcg g s) :=
  (RegsKept.refl K (mcgHead g s)).foldl fun _ k hk hu => hu.wri (hports k (List.mem_range.1 hk)) _

theorem showMcg_regsOnly (g : Nat) (s : State) : RegsOnly [0x4A4] s (showMcg g s) := by
  have hhead : RegsOnly [0x4A4] s (mcgHead g s) :=
    (((RegsOnly.refl _ s).wr (by decide) _).wr (by decide) _).wr (by decide) _
  exact hhead.trans (showMcg_regsKept (K := (pageOfKey · ∉ [0x4A4])) (by decide) g s)

theorem group_showMcg (g : Fin 1024) (s : State) : (showMcg g.val s).rd 0x4A4 F.bufx_MCG_SEL_GROUP = g.val := by
  have hkept := showMcg_regsKept (K := (· = F.bufx_MCG_SEL_GROUP.key 0x4A4 0 0)) (by decide) g.val s
  rw [hkept.rd rfl]
  simp (disch := decide) only [mcgHead, State.rd_wr_of_place_ne, State.rd_wr_self]
  exact Nat.mod_eq_of_lt g.isLt

theorem showMcg_palm (g : Nat) (s : State) : (showMcg g s).palm = s.palm :=
  (showMcg_touches nofun (Touches.refl _ s)).palm_eq

theorem State.stagedMcg_wakeClock (s : State) (page : Nat) : (s.wakeClock page).stagedMcg = s.stagedMcg := by
  rw [State.wakeClock_eq]
  rfl

theorem State.mcg_wakeClock (s : State) (page g : Nat) : (s.wakeClock page).mcg g = s.mcg g := by
  rw [State.wakeClock_eq]
  rfl

/-- What is staged comes into force for the selected group (R272). -/
theorem mcg_commitMcg (s : State) : (commitMcg s).mcg (s.rd 0x4A4 F.bufx_MCG_SEL_GROUP) = s.stagedMcg := SMap.val_put_self _ _ _ _

theorem mcg_commitMcg_of_ne {s : State} {g : Nat} (h : g ≠ s.rd 0x4A4 F.bufx_MCG_SEL_GROUP) : (commitMcg s).mcg g = s.mcg g :=
  SMap.val_put_of_ne _ _ h _

end Sys2Proof.Machine
end

section
/-! PROOF. O32: multicast groups, pools and windows, command by command (R249, R272, R284 to R286). -/

namespace Sys2Proof

open Sys2Proof.Machine

theorem mcgSelWrite_selects (group : Fin 1024) (s : State) (hs : s.stopped = false) (hsh : s.shut 0x4A4 = false) :
    ∃ t, exec (.mcgSelWrite group) s = .next t ∧
      Only [.regs, .latches, .mtn] s t ∧
      t.rd 0x4A4 F.bufx_MCG_SEL_GROUP = group.val ∧
      RegsOnly [0x4A4] s t ∧
      t.palm.mcgs = s.palm.mcgs := by
  have he : exec (.mcgSelWrite group) s = .next (showMcg group.val (s.wakeClock 0x4A4)) :=
    congrArg Host.Outcome.next (State.written_of hs hsh _)
  refine ⟨_, he, only_of_exec he (by apply execMcgSelWrite_touches <;> simp [Touches.refl]), group_showMcg group _,
    (RegsOnly.of_regs_eq _ (State.wakeClock_regs _ _)).trans (showMcg_regsOnly _ _), ?_⟩
  rw [showMcg_palm, State.wakeClock_palm]

theorem mcgCommit_commits (s : State) (hs : s.stopped = false) (hsh : s.shut 0x4A4 = false) :
    ∃ t, exec .mcgCommit s = .next t ∧
      Only [.regs, .latches, .palm, .mtn] s t ∧
      t.mcg (s.rd 0x4A4 F.bufx_MCG_SEL_GROUP) = s.stagedMcg ∧
      (∀ g, g ≠ s.rd 0x4A4 F.bufx_MCG_SEL_GROUP → t.mcg g = s.mcg g) ∧
      RegsOnly [] s t := by
  have he : exec .mcgCommit s = .next (commitMcg (s.wakeClock 0x4A4)) := congrArg Host.Outcome.next (State.written_of hs hsh _)
  have hgroup := State.rd_wakeClock s 0x4A4 0x4A4 F.bufx_MCG_SEL_GROUP
  refine ⟨_, he, only_of_exec he (by apply execMcgCommit_touches <;> simp [Touches.refl]), ?_, fun g hg => ?_,
    RegsOnly.of_regs_eq _ (State.wakeClock_regs s 0x4A4)⟩
  · rw [← hgroup, mcg_commitMcg, State.stagedMcg_wakeClock]
  · rw [mcg_commitMcg_of_ne (hgroup.symm ▸ hg), State.mcg_wakeClock]

theorem poolCfgWrite_isDropped (which : Fin 35) (data : Word) (low high : Bool) (s : State) (hs : s.stopped = false)
    (hsh : s.shut (if which.val < 3 then 0x4A4 else 0x420 + (which.val - 3)) = true) :
    ∃ t, exec (.poolCfgWrite which data low high) s = .next t ∧
      Only [.regs, .latches] s t ∧
      t.on (if which.val < 3 then 0x4A4 else 0x420 + (which.val - 3)) F.hdr_PAGE_STATUS_WRITE_DROPPED = true ∧
      RegsOnly [if which.val < 3 then 0x4A4 else 0x420 + (which.val - 3)] s t := by
  refine ⟨_, congrArg Host.Outcome.next (State.written_of_shut hs hsh _),
    Touches.only (State.set1_touches (by decide) (by decide) (Touches.refl _ s)), ?_, set1_regsOnly _ _ (by decide)⟩
  rw [State.on, State.rd_set1_self]
  rfl

theorem poolCfgWrite_writesPools (which : Fin 35) (data : Word) (low high : Bool) (s : State) (hs : s.stopped = false)
    (hw : which.val < 3) (hsh : s.shut 0x4A4 = false) :
    let t := writePools which.val (merged ((s.wakeClock 0x4A4).word 0x4A4 (0x080 + 8 * which.val)) data.toNat low high)
      (s.wakeClock 0x4A4)
    exec (.poolCfgWrite which data low high) s = .next t ∧ Only [.regs, .out, .host, .latches, .palm, .mtn] s t := by
  intro t
  have hpage : (if which.val < 3 then 0x4A4 else 0x420 + (which.val - 3)) = 0x4A4 := if_pos hw
  have he : exec (.poolCfgWrite which data low high) s = .next t := by
    refine congrArg Host.Outcome.next ((State.written_of hs (hpage.symm ▸ hsh) _).trans ?_)
    rw [hpage, if_pos hw]
  exact ⟨he, only_of_exec he (by apply execPoolCfgWrite_touches <;> simp [Touches.refl])⟩

theorem poolCfgWrite_writesQueue (which : Fin 35) (data : Word) (low high : Bool) (s : State) (hs : s.stopped = false)
    (hw : 3 ≤ which.val) (hsh : s.shut (0x420 + (which.val - 3)) = false) :
    let u := s.wakeClock (0x420 + (which.val - 3))
    let t := writeQcfg (which.val - 3) (merged (u.shown (0x420 + (which.val - 3)) 0x088) data.toNat low high) u
    exec (.poolCfgWrite which data low high) s = .next t ∧ Only [.regs, .out, .host, .latches, .palm, .mtn] s t := by
  intro u t
  have hpage : (if which.val < 3 then 0x4A4 else 0x420 + (which.val - 3)) = 0x420 + (which.val - 3) := if_neg (by omega)
  have he : exec (.poolCfgWrite which data low high) s = .next t := by
    refine congrArg Host.Outcome.next ((State.written_of hs (hpage.symm ▸ hsh) _).trans ?_)
    rw [hpage, if_neg (by omega)]
  exact ⟨he, only_of_exec he (by apply execPoolCfgWrite_touches <;> simp [Touches.refl])⟩

theorem qSelWrite_shows (slice : Fin 32) (port : Fin 1024) (queue : Fin 16) (s : State) (hs : s.stopped = false)
    (hsh : s.shut (0x420 + slice.val) = false) :
    ∃ t, exec (.qSelWrite slice port queue) s = .next t ∧
      Only [.regs, .latches, .mtn] s t ∧
      t.rd (0x420 + slice.val) F.slie_Q_SEL_PORT = port.val ∧
      t.rd (0x420 + slice.val) F.slie_Q_SEL_QUEUE = queue.val ∧
      (sliceOf port.val = slice.val → s.configured port.val = true → queue.val ≤ 9 →
        t.rd (0x420 + slice.val) F.slie_Q_CFG_ALPHA = (s.queue port.val queue.val).alpha % 2 ^ F.slie_Q_CFG_ALPHA.w) ∧
      RegsOnly [0x420 + slice.val] s t := by
  have he : exec (.qSelWrite slice port queue) s =
      .next (showQueue slice.val port.val queue.val (s.wakeClock (0x420 + slice.val))) :=
    congrArg Host.Outcome.next (State.written_of hs hsh _)
  obtain ⟨hport, hqueue, halpha⟩ := rd_showQueue slice.val port.val queue.val (s.wakeClock (0x420 + slice.val))
  refine ⟨_, he, only_of_exec he (by apply execQSelWrite_touches <;> simp [Touches.refl]),
    hport.trans (Nat.mod_eq_of_lt port.isLt), hqueue.trans (Nat.mod_eq_of_lt queue.isLt), fun hsl hc hq => ?_,
    (RegsOnly.of_regs_eq _ (State.wakeClock_regs _ _)).trans (showQueue_regsOnly _ _ _ _)⟩
  rw [halpha, State.configured_congr (State.wakeClock_regs _ _), State.queue_wakeClock, hsl, hc, decide_eq_true hq]
  simp

theorem pgSelWrite_shows (slice : Fin 32) (port : Fin 1024) (cls : Fin 8) (s : State) (hs : s.stopped = false)
    (hsh : s.shut (0x400 + slice.val) = false) :
    ∃ t, exec (.pgSelWrite slice port cls) s = .next t ∧
      Only [.regs, .latches, .mtn] s t ∧
      t.rd (0x400 + slice.val) F.slii_PG_SEL_PORT = port.val ∧
      t.rd (0x400 + slice.val) F.slii_PG_SEL_CLASS = cls.val ∧
      (sliceOf port.val = slice.val → s.configured port.val = true →
        t.rd (0x400 + slice.val) F.slii_PG_CFG1_PG_HDRM = (s.pg port.val cls.val).hdrm % 2 ^ F.slii_PG_CFG1_PG_HDRM.w) ∧
      RegsOnly [0x400 + slice.val] s t := by
  have he : exec (.pgSelWrite slice port cls) s = .next (showPg slice.val port.val cls.val (s.wakeClock (0x400 + slice.val))) :=
    congrArg Host.Outcome.next (State.written_of hs hsh _)
  obtain ⟨hport, hcls, hhdrm⟩ := rd_showPg slice.val port.val cls.val (s.wakeClock (0x400 + slice.val))
  refine ⟨_, he, only_of_exec he (by apply execPgSelWrite_touches <;> simp [Touches.refl]),
    hport.trans (Nat.mod_eq_of_lt port.isLt), hcls.trans (Nat.mod_eq_of_lt cls.isLt), fun hsl hc => ?_,
    (RegsOnly.of_regs_eq _ (State.wakeClock_regs _ _)).trans (showPg_regsOnly _ _ _ _)⟩
  rw [hhdrm, State.configured_congr (State.wakeClock_regs _ _), State.pg_wakeClock, hsl, hc]
  simp

end Sys2Proof
end

section
/-! PROOF. O32: cell errors, the TAI second of a bank and the sparing of banks (R277 to R282). -/

namespace Sys2Proof

open Sys2Proof.Machine

theorem exec_cellEccError (bank : Fin 1152) (corrected : Bool) (frame : Option Nat) {s : State} (hs : s.stopped = false) :
    exec (.cellEccError bank corrected frame) s =
      .next (if corrected = true then correctedCell bank.val s else uncorrectedCell bank.val frame s) :=
  congrArg Host.Outcome.next (State.running_of hs _)

theorem cellEccError_completes (bank : Fin 1152) (corrected : Bool) (frame : Option Nat) (s : State) (hs : s.stopped = false) :
    let t := if corrected = true then correctedCell bank.val s else uncorrectedCell bank.val frame s
    exec (.cellEccError bank corrected frame) s = .next t ∧
      Only [.regs, .out, .ddr, .poison, .host, .latches, .palm, .ldg, .vsr, .mtn] s t ∧
      (corrected = false → frame = none → 2 ≤ t.bankState bank.val) := by
  have he := exec_cellEccError bank corrected frame hs
  refine ⟨he, only_of_exec he (by apply execCellEccError_touches <;> simp [Touches.refl]), ?_⟩
  rintro rfl rfl
  exact two_le_bankState_uncorrectedCell bank.val s

theorem cellEccError_countsCorrected (bank : Fin 1152) (frame : Option Nat) (s : State) (hs : s.stopped = false) :
    ∃ t, exec (.cellEccError bank true frame) s = .next t ∧
      Only [.regs, .out, .ddr, .poison, .host, .latches, .palm, .ldg, .vsr, .mtn] s t ∧
      t.palm.bankErrors.val 0 bank.val = s.palm.bankErrors.val 0 bank.val + 1 ∧
      t.rdi (bufg bank.val) F.bufg_BANK_CORRECTED (bank.val % 32) =
        sat F.bufg_BANK_CORRECTED.w (s.rdi (bufg bank.val) F.bufg_BANK_CORRECTED (bank.val % 32) + 1) %
          2 ^ F.bufg_BANK_CORRECTED.w ∧
      t.bankState bank.val = s.bankState bank.val := by
  obtain ⟨he, honly, -⟩ := cellEccError_completes bank true frame s hs
  exact ⟨_, he, honly, bankErrors_correctedCell _ s, corrected_correctedCell _ s, bankState_correctedCell _ s⟩

theorem cellEccError_losesCell (bank : Fin 1152) (frame : Option Nat) (s : State) (hs : s.stopped = false) :
    exec (.cellEccError bank false frame) s = .next (uncorrectedCell bank.val frame s) ∧
      Only [.regs, .out, .ddr, .poison, .host, .latches, .palm, .ldg, .vsr, .mtn] s (uncorrectedCell bank.val frame s) := by
  obtain ⟨he, honly, -⟩ := cellEccError_completes bank false frame s hs
  exact ⟨he, honly⟩

/-- A state on which a bank's TAI second has been noted as handled (log entry 10). -/
def secondTaken (bank : Nat) (s : State) : State :=
  { s with ticks := { s.ticks with last := s.ticks.last.put s.ticks.base (0x10000 + bank) s.nowNs } }

theorem bankTaiSecond_judges (bank : Fin 1152) (s : State) (hs : s.stopped = false)
    (hd : s.dueAt (0x10000 + bank.val) 1000000000 s.nowNs = true) :
    exec (.bankTaiSecond bank) s = .next (bankSecond bank.val (secondTaken bank.val s)) ∧
      Only [.regs, .out, .host, .latches, .ticks, .palm, .mtn] s (bankSecond bank.val (secondTaken bank.val s)) ∧
      (bankSecond bank.val (secondTaken bank.val s)).palm.bankErrors.val 0 bank.val = 0 := by
  have he : exec (.bankTaiSecond bank) s = .next (bankSecond bank.val (secondTaken bank.val s)) :=
    congrArg Host.Outcome.next ((State.running_of hs _).trans (if_pos hd))
  exact ⟨he, only_of_exec he (by apply execBankTaiSecond_touches <;> simp [Touches.refl]), bankErrors_bankSecond _ _⟩

/-- SPARE_CMD past its gate: with GO 1 a command to the bank, with GO 0 nothing (R279). -/
theorem exec_spareCmd (bank : Fin 2048) (go : Bool) {s : State} (hs : s.stopped = false) (hsh : s.shut 0x4A4 = false) :
    exec (.spareCmd bank go) s = .next (if go = true then spareCmd bank.val (s.wakeClock 0x4A4) else s.wakeClock 0x4A4) :=
  congrArg Host.Outcome.next (State.written_of hs hsh _)

theorem only_of_spareCmd {bank : Fin 2048} {go : Bool} {s t : State} (he : exec (.spareCmd bank go) s = .next t) :
    Only [.regs, .out, .host, .latches, .palm, .mtn] s t :=
  only_of_exec he (by apply execSpareCmd_touches <;> simp [Touches.refl])

theorem spareCmd_withoutGo (bank : Fin 2048) (go : Bool) (s : State) (hs : s.stopped = false) (hsh : s.shut 0x4A4 = false) :
    let t := if go = true then spareCmd bank.val (s.wakeClock 0x4A4) else s.wakeClock 0x4A4
    exec (.spareCmd bank go) s = .next t ∧
      Only [.regs, .out, .host, .latches, .palm, .mtn] s t ∧
      (go = false → t.regs = s.regs) ∧
      (go = false → t.palm = s.palm) ∧
      (go = false → t.out = s.out) := by
  have he := exec_spareCmd bank go hs hsh
  refine ⟨he, only_of_spareCmd he, ?_, ?_, ?_⟩
  · rintro rfl; exact State.wakeClock_regs s 0x4A4
  · rintro rfl; exact State.wakeClock_palm s 0x4A4
  · rintro rfl; exact State.wakeClock_out s 0x4A4

theorem spareCmd_triggers (bank : Fin 2048) (s : State) (hs : s.stopped = false) (hsh : s.shut 0x4A4 = false)
    (hb : bank.val < 1152) (hst : s.bankState bank.val < 2) :
    exec (.spareCmd bank true) s = .next (triggerBank bank.val (s.wakeClock 0x4A4)) ∧
      Only [.regs, .out, .host, .latches, .palm, .mtn] s (triggerBank bank.val (s.wakeClock 0x4A4)) ∧
      2 ≤ (triggerBank bank.val (s.wakeClock 0x4A4)).bankState bank.val := by
  have he := (exec_spareCmd bank true hs hsh).trans (congrArg _ (spareCmd_inService hb (by rwa [State.bankState_wakeClock])))
  exact ⟨he, only_of_spareCmd he, two_le_bankState_triggerBank _ _⟩

theorem spareCmd_countsDraining (bank : Fin 2048) (s : State) (hs : s.stopped = false) (hsh : s.shut 0x4A4 = false)
    (hb : bank.val < 1152) (hst : s.bankState bank.val = 2) :
    let t := (s.wakeClock 0x4A4).bumpi (bufg bank.val) F.bufg_BANK_CORRECTED (bank.val % 32)
    exec (.spareCmd bank true) s = .next t ∧
      Only [.regs, .out, .host, .latches, .palm, .mtn] s t ∧
      t.palm = s.palm := by
  have he := (exec_spareCmd bank true hs hsh).trans (congrArg _ (spareCmd_draining hb (by rwa [State.bankState_wakeClock])))
  exact ⟨he, only_of_spareCmd he, (State.bumpi_palm _ _ _ _ _).trans (State.wakeClock_palm _ _)⟩

theorem spareCmd_isDiscarded (bank : Fin 2048) (s : State) (hs : s.stopped = false) (hsh : s.shut 0x4A4 = false)
    (hst : 1152 ≤ bank.val ∨ s.bankState bank.val = 3 ∨ s.bankState bank.val = 4) :
    ∃ t, exec (.spareCmd bank true) s = .next t ∧
      Only [.regs, .out, .host, .latches, .palm, .mtn] s t ∧
      t.rd 0x4A4 F.hdr_PAGE_STATUS_WRITE_DROPPED = 1 ∧
      RegsOnly [0x4A4] s t := by
  have he := (exec_spareCmd bank true hs hsh).trans (congrArg _ (spareCmd_discarded (by rwa [State.bankState_wakeClock])))
  exact ⟨_, he, only_of_spareCmd he, State.rd_set1_self _ _ _,
    (RegsOnly.of_regs_eq _ (State.wakeClock_regs _ _)).trans (set1_regsOnly _ _ (by decide))⟩

theorem spareCopyComplete_remaps (lost : List Nat) (s : State) (hc : s.on 0x4A4 F.bufx_SPARE_STATUS_COPY_BUSY = true) :
    let b := s.rd 0x4A4 F.bufx_SPARE_STATUS_COPY_BANK
    let t := remapBank b (lost.foldl (fun u f => cellLost f (u.raise (bufg b) 1)) s)
    exec (.spareCopyComplete lost) s = .next t ∧
      Only [.regs, .out, .ddr, .poison, .host, .latches, .palm, .ldg, .vsr, .mtn] s t ∧
      (lost = [] → t.bankState b = 3) := by
  have he : exec (.spareCopyComplete lost) s = .next _ := congrArg Host.Outcome.next (State.given_of hc _)
  exact ⟨he, only_of_exec he (by apply execSpareCopyComplete_touches <;> simp [Touches.refl]), fun _ => bankState_remapBank _ _⟩

/-- Settles O32, command by command. What a bank's sparing leaves of its STATE is read off RegsKept: every other register that it
writes lies at another bit address, those of the group's power domain included. That the staging registers are one area,
which an MCG_SEL write fills, is the model's deduction, log entry 57; that a bank's TAI second is taken once is its choice, log
entry 10. -/
theorem bufferCommandsComplete : Obligations.BufferCommandsComplete := by
  unfold Obligations.BufferCommandsComplete
  exact ⟨mcgSelWrite_selects, mcgCommit_commits, poolCfgWrite_isDropped, poolCfgWrite_writesPools, poolCfgWrite_writesQueue,
    qSelWrite_shows, pgSelWrite_shows, cellEccError_completes, cellEccError_countsCorrected, cellEccError_losesCell,
    bankTaiSecond_judges, spareCmd_withoutGo, spareCmd_triggers, spareCmd_countsDraining, spareCmd_isDiscarded,
    spareCopyComplete_remaps⟩

end Sys2Proof
end

section
/-! SUPPORT. Replicas, header rings and the session rings' write buffer, as the commands of a frame's way out leave them (R268,
R276, R341). -/

namespace Sys2Proof.Machine

/-! ## Replicas -/

theorem State.onReplica_of {s : State} {id : Nat} {r : Replica} {f : Frame} (hr : s.replica? id = some r)
    (hf : s.frame? r.frame = some f) (g : Replica → Frame → State → State) : s.onReplica id g = g r f s := by
  unfold State.onReplica
  rw [hr]
  dsimp only
  rw [hf]

theorem State.replica?_putReplica (s : State) (id : Nat) (r : Replica) : (s.putReplica id r).replica? id = some r :=
  (SMap.at?_enter _ _ _ _).trans (if_pos rfl)

theorem State.replica?_congr {s t : State} (h : t.palm = s.palm) (id : Nat) : t.replica? id = s.replica? id := by
  unfold State.replica?
  rw [h]

theorem State.count_palm (s : State) (event inst n : Nat) (when_ : Option T80) : (s.count event inst n when_).palm = s.palm :=
  (State.count_touches nofun nofun (Touches.refl _ s)).palm_eq

/-- A replica that is stomped stays so marked (R268). -/
theorem stomp_stompReplica {s : State} {id : Nat} {r : Replica} {f : Frame} (hr : s.replica? id = some r)
    (hf : s.frame? r.frame = some f) (bad : Bool) : ((stompReplica id bad s).replica? id).map (fun x => x.stomp) = some true := by
  unfold stompReplica
  rw [State.onReplica_of hr hf]
  dsimp only
  split
  · next hst => rw [hr, Option.map_some, hst]
  · split
    · rw [State.replica?_congr ((State.raise_palm _ _ _).trans (State.count_palm _ _ _ _ _)), State.replica?_putReplica]
      rfl
    · rw [State.replica?_congr (State.count_palm _ _ _ _ _), State.replica?_putReplica]
      rfl

/-! ## Header rings -/

/-- Whatever becomes of the oldest record of the on-die share, of the Palm's records it only leaves that share (R276). -/
theorem flushRing_palm {h : Nat} {s : State} {r : List Byte} {rest : List (List Byte)} (hr : (s.hring h).onDie = r :: rest) :
    (flushRing h s).palm = (s.putHring h { s.hring h with onDie := rest }).palm := by
  unfold flushRing
  dsimp only
  rw [hr]
  dsimp only
  refine Touches.palm_eq (Touches.ite ?_ (Touches.ite ?_ (Touches.ite ?_ ?_)))
  · exact State.vector_touches nofun nofun (State.raise_touches nofun nofun nofun nofun
      (State.bump_touches nofun nofun (Touches.refl _ _)))
  · exact State.wr_touches nofun (State.ringWrite_touches nofun nofun (Touches.refl _ _))
  · exact loseFull_touches nofun nofun nofun nofun (State.wr_touches nofun (State.wr_touches nofun
      (State.ringWrite_touches nofun nofun (Touches.refl _ _))))
  · exact State.vector_touches nofun nofun (State.bump_touches nofun nofun (Touches.refl _ _))

theorem onDie_flushRing {h : Nat} {s : State} {r : List Byte} {rest : List (List Byte)} (hr : (s.hring h).onDie = r :: rest) :
    ((flushRing h s).hring h).onDie = rest := by
  unfold State.hring
  rw [flushRing_palm hr]
  exact congrArg HRing.onDie (SMap.val_put_self _ _ _ _)

/-! ## Slots of the session rings -/

theorem leBytes_length (n v : Nat) : (leBytes n v).length = n := by simp [leBytes]

theorem State.ddrByte_ddrWrite (s : State) (a k : Nat) (bs : List Byte) :
    (s.ddrWrite a bs).ddrByte k = if a ≤ k ∧ k < a + bs.length then bs.getD (k - a) 0 else s.ddrByte k :=
  ddrStore_val bs s.ddr a k

/-- A slot written to DDR5: its COMMIT undone, its bytes around it, and its COMMIT last (R341). -/
def slotWritten (w : SlotWrite) (s : State) : State :=
  (((s.ddrWrite (w.address + 0x18) (leBytes 8 (2 ^ 64 - 1))).ddrWrite w.address (w.bytes.take 0x18)).ddrWrite (w.address + 0x20)
    (w.bytes.drop 0x20)).ddrWrite (w.address + 0x18) (leBytes 8 w.seq)

/-- Of a slot with its header whole, COMMIT holds the sequence number and every other byte is the buffer's; no byte beside the slot
has changed. -/
theorem ddrByte_slotWritten {w : SlotWrite} (hlen : 0x20 ≤ w.bytes.length) (s : State) (a : Nat) :
    (slotWritten w s).ddrByte a =
      if w.address + 0x18 ≤ a ∧ a < w.address + 0x20 then (leBytes 8 w.seq).getD (a - (w.address + 0x18)) 0
      else if w.address ≤ a ∧ a < w.address + w.bytes.length then w.bytes.getD (a - w.address) 0 else s.ddrByte a := by
  have hdrop (k : Nat) : (w.bytes.drop 0x20).getD k 0 = w.bytes.getD (0x20 + k) 0 := by simp [List.getD_eq_getElem?_getD]
  have htake {k : Nat} (hk : k < 0x18) : (w.bytes.take 0x18).getD k 0 = w.bytes.getD k 0 := by
    simp [List.getD_eq_getElem?_getD, hk]
  simp only [slotWritten, State.ddrByte_ddrWrite, leBytes_length, List.length_take, List.length_drop]
  by_cases hcommit : w.address + 0x18 ≤ a ∧ a < w.address + 0x20
  · simp only [if_pos hcommit]
  simp only [if_neg hcommit]
  by_cases hslot : w.address ≤ a ∧ a < w.address + w.bytes.length
  · rw [if_pos hslot]
    by_cases htail : w.address + 0x20 ≤ a
    · rw [if_pos (by omega), hdrop, show 0x20 + (a - (w.address + 0x20)) = a - w.address by omega]
    · rw [if_neg (by omega), if_pos (by omega), htake (by omega)]
  · rw [if_neg (by omega), if_neg (by omega), if_neg hslot]

theorem slotWritten_touches {ps : Piece → Prop} {s0 s : State} (hddr : ps .ddr) (hpoison : ps .poison) (h : Touches ps s0 s)
    (w : SlotWrite) : Touches ps s0 (slotWritten w s) :=
  State.ddrWrite_touches hddr hpoison (State.ddrWrite_touches hddr hpoison (State.ddrWrite_touches hddr hpoison
    (State.ddrWrite_touches hddr hpoison h)))

/-- The write buffer without its oldest slot. -/
def bufferLeft (rest : List SlotWrite) (s : State) : State := { s with ses := { s.ses with buffer := rest } }

/-- R341: the oldest slot, within its region, goes to DDR5. -/
theorem exec_ringWrite {w : SlotWrite} {rest : List SlotWrite} {s : State} (hs : s.stopped = false)
    (hb : s.ses.buffer = w :: rest) (hin : s.inRegion 2 w.address w.bytes.length = true) :
    exec .ringWrite s = .next (slotWritten w (bufferLeft rest s)) := by
  have hin' : (bufferLeft rest s).inRegion 2 w.address w.bytes.length = true := hin
  refine congrArg Host.Outcome.next ((State.running_of hs _).trans ?_)
  rw [hb]
  exact if_pos hin'

end Sys2Proof.Machine
end

section
/-! PROOF. O26: a frame's way out, command by command (R114, R247, R261, R267, R276, R341). -/

namespace Sys2Proof

open Sys2Proof.Machine

theorem schedulerSelect_schedules (port : Fin 1024) (s : State) (hs : s.stopped = false) (hsends : s.sends port.val = true)
    (hlpi : s.on (prt port.val) F.prt_LINK_STATUS_TX_LPI = false) :
    exec (.schedulerSelect port) s = .next (schedule port.val s) ∧
      Only [.regs, .brim, .palm, .vsr, .pwc] s (schedule port.val s) := by
  have he : exec (.schedulerSelect port) s = .next (schedule port.val s) :=
    congrArg Host.Outcome.next ((State.running_of hs _).trans (State.given_of (by rw [hsends, hlpi]; rfl) _))
  exact ⟨he, only_of_exec he (by apply execSchedulerSelect_touches <;> simp [Touches.refl])⟩

theorem underrun_stomps (id : Nat) (r : Replica) (f : Frame) (s : State) (hs : s.stopped = false) (hr : s.replica? id = some r)
    (hf : s.frame? r.frame = some f) (hct : r.ct = true) (hphase : r.phase = 3) (hv : f.verdict = none) (hst : r.stomp = false) :
    let t := (stompReplica id true s).count 0x010B f.port
    exec (.underrun id) s = .next t ∧
      Only [.regs, .out, .host, .latches, .palm, .vsr] s t ∧
      (t.replica? id).map (fun x => x.stomp) = some true := by
  intro t
  have he : exec (.underrun id) s = .next t :=
    congrArg Host.Outcome.next ((State.running_of hs _).trans ((State.onReplica_of hr hf _).trans
      ((State.given_of (by rw [hct, hphase, hv]; rfl) _).trans (if_neg (by rw [hst]; decide)))))
  refine ⟨he, only_of_exec he (by apply execUnderrun_touches <;> simp [Touches.refl]), ?_⟩
  rw [State.replica?_congr (State.count_palm _ _ _ _ _), stomp_stompReplica hr hf]

theorem egressTransmit_transmits (id : Nat) (tap : TxTap) (s : State) (hs : s.stopped = false) :
    exec (.egressTransmit id tap) s = .next (transmit id tap s) ∧
      Only [.regs, .free, .out, .ddr, .poison, .host, .latches, .stamps, .palm, .timing, .ldg, .vsr, .pwc] s
        (transmit id tap s) := by
  have he : exec (.egressTransmit id tap) s = .next (transmit id tap s) := congrArg Host.Outcome.next (State.running_of hs _)
  exact ⟨he, only_of_exec he (by apply execEgressTransmit_touches <;> simp [Touches.refl])⟩

theorem transmitComplete_finishes (id : Nat) (r : Replica) (f : Frame) (s : State) (hs : s.stopped = false)
    (hr : s.replica? id = some r) (hf : s.frame? r.frame = some f) (hphase : r.phase = 3) (hwait : r.waiting = false)
    (hjudged : (f.verdict.isSome || r.stomp) = true) :
    exec (.transmitComplete id) s = .next (finishReplica id s) ∧
      Only [.regs, .out, .ddr, .poison, .host, .latches, .brim, .palm, .ldg, .vsr] s (finishReplica id s) := by
  have he : exec (.transmitComplete id) s = .next (finishReplica id s) :=
    congrArg Host.Outcome.next ((State.running_of hs _).trans ((State.onReplica_of hr hf _).trans
      (State.given_of (by rw [hphase, hwait, hjudged]; rfl) _)))
  exact ⟨he, only_of_exec he (by apply execTransmitComplete_touches <;> simp [Touches.refl])⟩

theorem headerRingFlush_moves (h : Fin 16) (r : List Byte) (rest : List (List Byte)) (s : State) (hs : s.stopped = false)
    (hr : (s.hring h.val).onDie = r :: rest) :
    ∃ t, exec (.headerRingFlush h) s = .next t ∧
      Only [.regs, .out, .ddr, .poison, .host, .latches, .palm] s t ∧
      (t.hring h.val).onDie = rest := by
  have he : exec (.headerRingFlush h) s = .next (flushRing h.val s) := congrArg Host.Outcome.next (State.running_of hs _)
  exact ⟨_, he, only_of_exec he (by apply execHeaderRingFlush_touches <;> simp [Touches.refl]), onDie_flushRing hr⟩

theorem ringWrite_stores (w : SlotWrite) (rest : List SlotWrite) (s : State) (hs : s.stopped = false)
    (hb : s.ses.buffer = w :: rest) (hlen : 0x20 ≤ w.bytes.length) (hin : s.inRegion 2 w.address w.bytes.length = true) :
    ∃ t, exec .ringWrite s = .next t ∧
      Only [.ddr, .poison, .ses] s t ∧
      t.ses.buffer = rest ∧
      (∀ a, t.ddrByte a =
        (if w.address + 0x18 ≤ a ∧ a < w.address + 0x20 then (leBytes 8 w.seq).getD (a - (w.address + 0x18)) 0
        else if w.address ≤ a ∧ a < w.address + w.bytes.length then w.bytes.getD (a - w.address) 0 else s.ddrByte a)) :=
  ⟨_, exec_ringWrite hs hb hin,
    Touches.only (slotWritten_touches (by decide) (by decide) (Touches.upd_ses (by decide) (Touches.refl _ s)) w), rfl,
    ddrByte_slotWritten hlen (bufferLeft rest s)⟩

/-- Settles O26, command by command: past its gate each is the effect of its rule on the port, the replica, the header ring or the
slot that it names. -/
theorem egressCommandsComplete : Obligations.EgressCommandsComplete := by
  unfold Obligations.EgressCommandsComplete
  exact ⟨schedulerSelect_schedules, underrun_stomps, fun id tap _ _ s hs _ _ _ _ _ _ => egressTransmit_transmits id tap s hs,
    transmitComplete_finishes, headerRingFlush_moves, ringWrite_stores⟩

end Sys2Proof
end

section
/-! SUPPORT. Merge and release groups: their records, and the bodies of their pages, which counters, causes, vectors, power domains
and the pages of lanes and ports leave alone (R36, R44, R320, R321). -/

namespace Sys2Proof.Machine

/-! ## The groups' records -/

theorem Touches.timing_eq {s t : State} (h : Touches (· ≠ .timing) s t) : t.timing = s.timing := h.same .timing (by simp)

theorem State.merge_congr {s t : State} (h : t.timing = s.timing) (g : Nat) : t.merge g = s.merge g := by
  unfold State.merge
  rw [h]

theorem State.rel_congr {s t : State} (h : t.timing = s.timing) (g : Nat) : t.rel g = s.rel g := by
  unfold State.rel
  rw [h]

@[simp] theorem State.merge_putMerge (s : State) (g : Nat) (x : MergeGroup) : (s.putMerge g x).merge g = x :=
  SMap.val_put_self _ _ _ _

@[simp] theorem State.rel_putRel (s : State) (g : Nat) (x : RelGroup) : (s.putRel g x).rel g = x := SMap.val_put_self _ _ _ _

theorem State.wakeClock_timing (s : State) (page : Nat) : (s.wakeClock page).timing = s.timing := by rw [State.wakeClock_eq]

@[simp] theorem State.merge_wakeClock (s : State) (page g : Nat) : (s.wakeClock page).merge g = s.merge g :=
  State.merge_congr (State.wakeClock_timing s page) g

/-! ## The bodies of their pages -/

/-- The bit addresses of the MRG and REL pages behind their headers (R36, R40). -/
def groupBody (k : Nat) : Prop := 0x100 * 0x8000 ≤ k ∧ k < 0x240 * 0x8000 ∧ 0x400 ≤ k % 0x8000

theorem groupBody_mrgKey {g : Nat} (hg : g < 64) {f : Fld} {i : Nat} (h0 : 0x400 ≤ f.off * 8)
    (hf : (f.off + f.stride * i) * 8 + f.lo < 0x8000) : groupBody (f.key (mrgPage g) i 0) := by
  unfold groupBody Fld.key mrgPage
  omega

theorem groupBody_relKey {g : Nat} (hg : g < 256) {f : Fld} {i : Nat} (h0 : 0x400 ≤ f.off * 8)
    (hf : (f.off + f.stride * i) * 8 + f.lo < 0x8000) : groupBody (f.key (relPage g) i 0) := by
  unfold groupBody Fld.key relPage
  omega

section
variable {K : Nat → Prop} {s t : State}

theorem offHeader_of_groupBody (hK : ∀ k, K k → groupBody k) (page : Nat) : OffHeader K page := by
  intro k hk
  obtain ⟨-, -, hbody⟩ := hK k hk
  omega

theorem beforeCounters_of_groupBody (hK : ∀ k, K k → groupBody k) (k : Nat) (hk : K k) : beforeCounters k := by
  obtain ⟨-, hlast, -⟩ := hK k hk
  unfold beforeCounters
  omega

/-- A field of a page behind the REL pages. -/
theorem not_key_of_later (hK : ∀ k, K k → groupBody k) {page : Nat} (hp : 0x240 ≤ page) (f : Fld) (i j : Nat) :
    ¬ K (f.key page i j) := fun hk => by
  obtain ⟨-, hlast, -⟩ := hK _ hk
  unfold Fld.key at hlast
  omega

/-- A field of a page before the MRG pages. -/
theorem not_key_of_earlier (hK : ∀ k, K k → groupBody k) {page : Nat} (hp : page < 0x100) {f : Fld} {i : Nat}
    (hf : (f.off + f.stride * i) * 8 + f.lo < 0x8000) : ¬ K (f.key page i 0) := fun hk => by
  obtain ⟨hfirst, -, -⟩ := hK _ hk
  unfold Fld.key at hfirst
  omega

theorem offDomain_of_groupBody (hK : ∀ k, K k → groupBody k) {d : Nat} (hd : d < 256) : OffDomain K d := by
  refine ⟨offHeader_of_groupBody hK _, ?_, ?_, ?_⟩ <;> refine not_key_of_earlier hK (by decide) ?_
  · simp only [F.mtn1_ASLEEP]; omega
  · simp only [F.mtn1_FAILED]; omega
  · decide

theorem RegsKept.raiseGroup (h : RegsKept K s t) (hK : ∀ k, K k → groupBody k) (page : Nat) {cause : Nat} (hc : cause < 64) :
    RegsKept K s (t.raise page cause) := h.raise (offHeader_of_groupBody hK page) hc

theorem RegsKept.countGroup (h : RegsKept K s t) (hK : ∀ k, K k → groupBody k) (event inst : Nat) :
    RegsKept K s (t.count event inst) := h.countEvent (beforeCounters_of_groupBody hK) _ _ _ _

/-- A cause whose every occurrence sends a vector (R324) writes what the cause writes. -/
theorem RegsKept.signal (h : RegsKept K s t) (hK : ∀ k, K k → groupBody k) (page : Nat) {cause : Nat} (hc : cause < 64) (v : Nat) :
    RegsKept K s (signal page cause v t) := by
  unfold Machine.signal
  exact .ite ((h.raiseGroup hK page hc).vector v) (h.raiseGroup hK page hc)

/-- P_GROUP lies on a page of its own (R448). -/
theorem RegsKept.refreshPGroup (h : RegsKept K s t) (hK : ∀ k, K k → groupBody k) : RegsKept K s (refreshPGroup t) :=
  h.wr (not_key_of_earlier hK (by decide) (by decide)) _

/-! ## Domains, lanes and ports -/

/-- R33, R308: the domains of a port, none of which shows on a page of a group. -/
theorem RegsKept.recomputePort (h : RegsKept K s t) (hK : ∀ k, K k → groupBody k) {p : Nat} (hp : p < 1024) :
    RegsKept K s (recomputePort p t) := by
  unfold Machine.recomputePort recomputeBacking
  have hdomains : RegsKept K s (Machine.recomputeDom (32 + p / 8) (Machine.recomputeDom (sliceOf p) t)) :=
    (h.recomputeDom (offDomain_of_groupBody hK (by unfold sliceOf; omega))).recomputeDom (offDomain_of_groupBody hK (by omega))
  exact hdomains.foldl fun u g hg hu => .ite (hu.recomputeDom (offDomain_of_groupBody hK (by have := List.mem_range.1 hg; omega))) hu

/-- R154: the transmitters of a port that leave LPI show on pages behind the groups'. -/
theorem RegsKept.wakeTx (h : RegsKept K s t) (hK : ∀ k, K k → groupBody k) (p : Nat) : RegsKept K s (wakeTx p t) := by
  unfold Machine.wakeTx
  exact .ite ((h.wr (not_key_of_later hK (by unfold prt; omega) _ _ _) 0).foldl_wrLane
    (fun l => not_key_of_later hK (by unfold lan; omega) _ _ _) _ 0) h

end

end Sys2Proof.Machine
end

section
/-! PROOF. O33: merge groups, command by command (R291 to R305). -/

namespace Sys2Proof.Machine

/-! ## Enabling and disabling (R292, R305) -/

section
variable {K : Nat → Prop} {s t : State}

theorem RegsKept.refreshHeff (h : RegsKept K s t) {g : Nat} (hk : ¬ K (F.mrg_MRG_STATUS_H_EFF.key (mrgPage g) 0 0)) :
    RegsKept K s (refreshHeff g t) := by
  unfold Machine.refreshHeff
  exact .ite h (h.wr hk _)

end

/-- P_GROUP and H_EFF after a change of the groups show in registers alone (R294, R448). -/
theorem refreshHeff_refreshPGroup_timing (g : Nat) (s : State) : (refreshPGroup (refreshHeff g s)).timing = s.timing :=
  (refreshPGroup_touches (by simp) (refreshHeff_touches (by simp) (Touches.refl _ s))).timing_eq

theorem State.mergeRefusal_wakeClock (s : State) (page g : Nat) : (s.wakeClock page).mergeRefusal g = s.mergeRefusal g := by
  rw [State.wakeClock_eq]
  rfl

/-- The group's record, and ENABLE, ENABLED and REFUSE of its page, once it is enabled (R292). -/
def mergeEnabled (g : Nat) (s : State) : State :=
  let pg := mrgPage g
  let home := !s.on pg F.mrg_MRG_CFG_ROLE
  let m := s.merge g
  (((s.putMerge g { m with
    closing := false
    homeFrom := if home then some (secondOf s.now) else m.homeFrom
    homeTo := if home then none else m.homeTo }).wr pg F.mrg_MRG_CFG_ENABLE 1).wr pg F.mrg_MRG_STATUS_ENABLED 1).wr pg
      F.mrg_MRG_STATUS_REFUSE 0

theorem mergeEnable_of_accepted {g : Nat} {s : State} (hen : s.on (mrgPage g) F.mrg_MRG_STATUS_ENABLED = false)
    (hr : s.mergeRefusal g = 0) : mergeEnable g s = refreshPGroup (refreshHeff g (mergeEnabled g s)) := by
  unfold mergeEnable
  rw [if_neg (by simp [hen]), if_neg (by simp [hr])]
  rfl

theorem mergeEnable_of_refused {g : Nat} {s : State} (hen : s.on (mrgPage g) F.mrg_MRG_STATUS_ENABLED = false)
    (hr : s.mergeRefusal g ≠ 0) : mergeEnable g s = signal (mrgPage g) 5 (464 + g)
      ((s.wr (mrgPage g) F.mrg_MRG_CFG_ENABLE 0).wr (mrgPage g) F.mrg_MRG_STATUS_REFUSE (s.mergeRefusal g)) := by
  unfold mergeEnable
  rw [if_neg (by simp [hen]), if_pos hr]

/-- The group's record once it is disabled: closing while it holds frames (R305, R371). -/
def State.mergeDisabled (s : State) (g : Nat) : MergeGroup :=
  let m := s.merge g
  { m with
    closing := !m.held.isEmpty
    disabledIn := some (coreCycle s.now)
    homeTo := if m.homeFrom.isSome && m.homeTo.isNone then some (secondOf s.now) else m.homeTo }

theorem mergeDisable_of_enabled {g : Nat} {s : State} (hen : s.on (mrgPage g) F.mrg_MRG_STATUS_ENABLED = true) :
    mergeDisable g s = refreshPGroup (((s.putMerge g (s.mergeDisabled g)).wr (mrgPage g) F.mrg_MRG_CFG_ENABLE 0).wr (mrgPage g)
      F.mrg_MRG_STATUS_ENABLED 0) := by
  unfold mergeDisable
  rw [if_neg (by simp [hen])]
  rfl

/-! ## Frames and seeds (R295, R296, R299) -/

/-- A frame dropped at ingress is in the device no more. -/
theorem frame?_dropAtIngress (id reason : Nat) (s : State) : (dropAtIngress id reason s).frame? id = none := by
  unfold dropAtIngress State.onFrame
  split
  · exact SMap.at?_del_self _ id
  · assumption

/-- A seed of the second to come, not drawn yet, is drawn and kept (R296). -/
theorem seedOf_next {g : Nat} {s : State} (h : (s.merge g).seeds.at? (secondOf s.now + 1) = none) :
    (seedOf g (secondOf s.now + 1) s).2 = { s with free := s.free + 1 }.putMerge g { s.merge g with
      seeds := (s.merge g).seeds.enter (secondOf s.now + 1) (Config.drbg s.free).toNat } := by
  unfold seedOf
  rw [h]
  exact if_pos (by omega)

/-- SEED_PREV and SEED_SECOND as the end of a second shows them, and the seeds still kept (R296). -/
def seedShown (g n v : Nat) (s : State) : State :=
  ((s.wr (mrgPage g) F.mrg_SEED_PREV v).wr (mrgPage g) F.mrg_SEED_SECOND n).putMerge g { s.merge g with
    seeds := (s.merge g).seeds.filter fun p => p.1 + 1 ≥ secondOf s.now }

theorem seedShown_regsOnly (g n v : Nat) (s : State) : RegsOnly [mrgPage g] s (seedShown g n v s) :=
  (State.wr_regsOnly s _ (by decide) v).trans (State.wr_regsOnly _ _ (by decide) n)

/-! ## Presence (R303) -/

theorem memberPresent_place_ne {g m : Nat} {f : Fld} (hf : f.off * 8 + f.lo < 0x800) :
    F.mrg_MEMBER_PRESENT.key (mrgPage g) m 0 ≠ f.key (mrgPage g) 0 0 := by
  simp only [Fld.key, F.mrg_MEMBER_PRESENT]
  omega

/-- A slot's PRESENT reads as its change of presence sets it; all that follows from the change leaves it. -/
theorem rdi_present_setPresence {g m : Nat} (hg : g < 64) (hm : m < 64) (here : Bool) (s : State) :
    (setPresence g m here s).rdi (mrgPage g) F.mrg_MEMBER_PRESENT m = here.toNat := by
  let K : Nat → Prop := (· = F.mrg_MEMBER_PRESENT.key (mrgPage g) m 0)
  have hK : ∀ k, K k → groupBody k := by
    rintro _ rfl
    exact groupBody_mrgKey hg (by decide) (by simp only [F.mrg_MEMBER_PRESENT]; omega)
  unfold setPresence
  extract_lets pg s1 remote pay s2 s3
  let s0 := s.wri pg F.mrg_MEMBER_PRESENT m (if here then 1 else 0)
  have h1 : RegsKept K s0 s1 := (RegsKept.refl K s0).wr (memberPresent_place_ne (by decide)).symm _
  have h2 : RegsKept K s0 s2 := h1.congr (formEvent_same _ _ _ _ _ .regs (by decide))
  have h3 : RegsKept K s0 s3 := .ite (h2.vector _) ((h2.countGroup hK _ _).signal hK _ (by decide) _)
  have hall := (h3.refreshHeff (g := g) (memberPresent_place_ne (by decide)).symm).refreshPGroup hK
  refine (hall.rdi rfl).trans ((State.rdi_wri_self _ _ _ _ _).trans ?_)
  cases here <;> rfl

end Sys2Proof.Machine

namespace Sys2Proof

open Sys2Proof.Machine

theorem mergeEnable_enables (group : Fin 64) (s : State) (hs : s.stopped = false) (hsh : s.shut (mrgPage group.val) = false)
    (hen : s.on (mrgPage group.val) F.mrg_MRG_STATUS_ENABLED = false) (hr : s.mergeRefusal group.val = 0) :
    ∃ t, exec (.mergeEnable group) s = .next t ∧
      Only [.regs, .out, .host, .latches, .timing, .mtn] s t ∧
      t.on (mrgPage group.val) F.mrg_MRG_STATUS_ENABLED = true ∧
      t.rd (mrgPage group.val) F.mrg_MRG_STATUS_REFUSE = 0 ∧
      (t.merge group.val).closing = false ∧
      (t.merge group.val).held = (s.merge group.val).held := by
  let u := s.wakeClock (mrgPage group.val)
  have he : exec (.mergeEnable group) s = .next (refreshPGroup (refreshHeff group.val (mergeEnabled group.val u))) :=
    congrArg Host.Outcome.next ((State.written_of hs hsh _).trans
      (mergeEnable_of_accepted ((State.on_wakeClock _ _ _ _).trans hen) ((State.mergeRefusal_wakeClock _ _ _).trans hr)))
  have hkept {f : Fld} (hf : F.mrg_MRG_STATUS_H_EFF.off * 8 + F.mrg_MRG_STATUS_H_EFF.lo ≠ f.off * 8 + f.lo)
      (h0 : 0x400 ≤ f.off * 8) (h1 : (f.off + f.stride * 0) * 8 + f.lo < 0x8000) :
      (refreshPGroup (refreshHeff group.val (mergeEnabled group.val u))).rd (mrgPage group.val) f =
        (mergeEnabled group.val u).rd (mrgPage group.val) f :=
    RegsKept.rd (((RegsKept.refl (· = f.key (mrgPage group.val) 0 0) _).refreshHeff (Fld.key_ne_of_place_ne _ hf)).refreshPGroup
      (by rintro _ rfl; exact groupBody_mrgKey group.isLt h0 h1)) rfl
  have hmerge := State.merge_congr (refreshHeff_refreshPGroup_timing group.val (mergeEnabled group.val u)) group.val
  have hrec : (mergeEnabled group.val u).merge group.val = _ := State.merge_putMerge _ _ _
  refine ⟨_, he, only_of_exec he (by apply execMergeEnable_touches <;> simp [Touches.refl]), ?_, ?_, ?_, ?_⟩
  · rw [State.on, hkept (by decide) (by decide) (by decide), mergeEnabled,
      State.rd_wr_of_ne _ _ (Fld.key_ne_of_place_ne _ (by decide)), State.rd_wr_self]
    rfl
  · rw [hkept (by decide) (by decide) (by decide), mergeEnabled, State.rd_wr_self]
    rfl
  · rw [hmerge, hrec]
  · rw [hmerge, hrec, State.merge_wakeClock]

theorem mergeEnable_isRefused (group : Fin 64) (s : State) (hs : s.stopped = false) (hsh : s.shut (mrgPage group.val) = false)
    (hen : s.on (mrgPage group.val) F.mrg_MRG_STATUS_ENABLED = false) (hr : s.mergeRefusal group.val ≠ 0) :
    let t := signal (mrgPage group.val) 5 (464 + group.val) (((s.wakeClock (mrgPage group.val)).wr (mrgPage group.val)
      F.mrg_MRG_CFG_ENABLE 0).wr (mrgPage group.val) F.mrg_MRG_STATUS_REFUSE (s.mergeRefusal group.val))
    exec (.mergeEnable group) s = .next t ∧
      Only [.regs, .out, .host, .latches, .timing, .mtn] s t ∧
      t.on (mrgPage group.val) F.mrg_MRG_STATUS_ENABLED = false := by
  intro t
  have href := State.mergeRefusal_wakeClock s (mrgPage group.val) group.val
  have he : exec (.mergeEnable group) s = .next t := by
    refine congrArg Host.Outcome.next ((State.written_of hs hsh _).trans
      ((mergeEnable_of_refused ((State.on_wakeClock _ _ _ _).trans hen) (href ▸ hr)).trans ?_))
    rw [href]
  let K : Nat → Prop := (· = F.mrg_MRG_STATUS_ENABLED.key (mrgPage group.val) 0 0)
  have hK : ∀ k, K k → groupBody k := by
    rintro _ rfl
    exact groupBody_mrgKey group.isLt (by decide) (by decide)
  have hkept : RegsKept K (s.wakeClock (mrgPage group.val)) t :=
    (((RegsKept.refl K _).wr (f := F.mrg_MRG_CFG_ENABLE) (Fld.key_ne_of_place_ne _ (by decide)) _).wr
      (f := F.mrg_MRG_STATUS_REFUSE) (Fld.key_ne_of_place_ne _ (by decide)) _).signal hK _ (by decide) _
  exact ⟨he, only_of_exec he (by apply execMergeEnable_touches <;> simp [Touches.refl]),
    (hkept.on rfl).trans ((State.on_wakeClock _ _ _ _).trans hen)⟩

theorem mergeDisable_disables (group : Fin 64) (s : State) (hs : s.stopped = false) (hsh : s.shut (mrgPage group.val) = false)
    (hen : s.on (mrgPage group.val) F.mrg_MRG_STATUS_ENABLED = true) :
    ∃ t, exec (.mergeDisable group) s = .next t ∧
      Only [.regs, .latches, .timing, .mtn] s t ∧
      t.on (mrgPage group.val) F.mrg_MRG_STATUS_ENABLED = false ∧
      t.on (mrgPage group.val) F.mrg_MRG_CFG_ENABLE = false ∧
      (t.merge group.val).held = (s.merge group.val).held ∧
      (t.merge group.val).closing = !(s.merge group.val).held.isEmpty := by
  let u := s.wakeClock (mrgPage group.val)
  let v := ((u.putMerge group.val (u.mergeDisabled group.val)).wr (mrgPage group.val) F.mrg_MRG_CFG_ENABLE 0).wr (mrgPage group.val)
    F.mrg_MRG_STATUS_ENABLED 0
  have he : exec (.mergeDisable group) s = .next (refreshPGroup v) := congrArg Host.Outcome.next
    ((State.written_of hs hsh _).trans (mergeDisable_of_enabled ((State.on_wakeClock _ _ _ _).trans hen)))
  have hkept {f : Fld} (h0 : 0x400 ≤ f.off * 8) (h1 : (f.off + f.stride * 0) * 8 + f.lo < 0x8000) :
      (refreshPGroup v).on (mrgPage group.val) f = v.on (mrgPage group.val) f :=
    RegsKept.on ((RegsKept.refl (· = f.key (mrgPage group.val) 0 0) v).refreshPGroup
      (by rintro _ rfl; exact groupBody_mrgKey group.isLt h0 h1)) rfl
  have hrec : (refreshPGroup v).merge group.val = u.mergeDisabled group.val := State.merge_putMerge _ _ _
  refine ⟨_, he, only_of_exec he (by apply execMergeDisable_touches <;> simp [Touches.refl]), ?_, ?_, ?_, ?_⟩
  · rw [hkept (by decide) (by decide), State.on, State.rd_wr_self]
    rfl
  · rw [hkept (by decide) (by decide), State.on, State.rd_wr_of_ne _ _ (Fld.key_ne_of_place_ne _ (by decide)), State.rd_wr_self]
    rfl
  · rw [hrec, State.mergeDisabled, State.merge_wakeClock]
  · rw [hrec, State.mergeDisabled, State.merge_wakeClock]

theorem mergeArrival_takes (frame : Nat) (f : Frame) (s : State) (hs : s.stopped = false) (hf : s.frame? frame = some f)
    (hd : f.stage = .decided) (hm : 128 ≤ mdGet f.md 0x36 1) :
    exec (.mergeArrival frame) s = .next (mergeArrival frame s) ∧
      Only [.regs, .free, .out, .ddr, .poison, .host, .latches, .palm, .timing, .ldg, .vsr] s (mergeArrival frame s) := by
  have he : exec (.mergeArrival frame) s = .next (mergeArrival frame s) := by
    refine congrArg Host.Outcome.next ((State.running_of hs _).trans ?_)
    rw [State.onFrame, hf]
    exact State.given_of (by simp [hd, hm]) _
  exact ⟨he, only_of_exec he (by apply execMergeArrival_touches <;> simp [Touches.refl])⟩

theorem mergeEmit_emits (group : Fin 64) (ecc : Fin 3) (h : HeldFrame) (rest : List HeldFrame) (s : State) (hs : s.stopped = false)
    (hh : (s.merge group.val).held = h :: rest) (hem : s.emits group.val h = true) :
    let t := if ecc = 2 then mergeDrop group.val h.frame 0xE9 7 5 (forgetHeld h.frame s)
      else emitFirst group.val (if ecc = 1 then s.raise (mrgPage group.val) 6 else s)
    exec (.mergeEmit group ecc) s = .next t ∧
      Only [.regs, .out, .ddr, .poison, .host, .latches, .palm, .timing, .ldg, .vsr] s t ∧
      (ecc = 2 → t.frame? h.frame = none) := by
  intro t
  have he : exec (.mergeEmit group ecc) s = .next t := by
    refine congrArg Host.Outcome.next ((State.running_of hs _).trans ?_)
    dsimp only
    rw [hh]
    exact State.given_of hem _
  refine ⟨he, only_of_exec he (by apply execMergeEmit_touches <;> simp [Touches.refl]), fun h2 => ?_⟩
  have ht : t = mergeDrop group.val h.frame 0xE9 7 5 (forgetHeld h.frame s) := if_pos h2
  rw [ht]
  exact frame?_dropAtIngress _ _ _

theorem seedDraw_draws (group : Fin 64) (s : State) (hs : s.stopped = false)
    (hfrom : s.nowNs + 1000 ≤ (secondOf s.now + 1) * 1000000000) (hto : (secondOf s.now + 1) * 1000000000 ≤ s.nowNs + 1000000)
    (hnone : (s.merge group.val).seeds.at? (secondOf s.now + 1) = none) :
    ∃ t, exec (.seedDraw group) s = .next t ∧
      Only [.free, .timing] s t ∧
      (t.merge group.val).seeds.at? (secondOf s.now + 1) = some (Config.drbg s.free).toNat ∧
      t.free = s.free + 1 ∧
      (∀ n, n ≠ secondOf s.now + 1 → (t.merge group.val).seeds.at? n = (s.merge group.val).seeds.at? n) ∧
      RegsOnly [] s t := by
  have hdue : (decide (1000 ≤ (secondOf s.now + 1) * 1000000000 - s.nowNs ∧
      (secondOf s.now + 1) * 1000000000 - s.nowNs ≤ 1000000) &&
      ((s.merge group.val).seeds.at? (secondOf s.now + 1)).isNone) = true := by
    rw [hnone, decide_eq_true (by omega)]
    rfl
  have he : exec (.seedDraw group) s = .next _ := congrArg Host.Outcome.next
    ((State.running_of hs _).trans ((State.given_of hdue _).trans (seedOf_next hnone)))
  refine ⟨_, he, only_of_exec he (by apply execSeedDraw_touches <;> simp [Touches.refl]), ?_, rfl, fun n hn => ?_, fun _ _ => rfl⟩
  · rw [State.merge_putMerge, SMap.at?_enter, if_pos rfl]
  · rw [State.merge_putMerge, SMap.at?_enter, if_neg hn]

theorem seedPublish_shows (group : Fin 64) (n v : Nat) (s : State) (hs : s.stopped = false)
    (hlast : ((s.merge group.val).seeds.filter (fun p => p.1 < secondOf s.now)).getLast? = some (n, v))
    (hnew : s.rd (mrgPage group.val) F.mrg_SEED_SECOND ≠ n ∨ s.rd (mrgPage group.val) F.mrg_SEED_PREV ≠ v) :
    ∃ t, exec (.seedPublish group) s = .next t ∧
      Only [.regs, .timing, .ldg] s t ∧
      t.rd (mrgPage group.val) F.mrg_SEED_PREV = v % 2 ^ F.mrg_SEED_PREV.w ∧
      t.rd (mrgPage group.val) F.mrg_SEED_SECOND = n % 2 ^ F.mrg_SEED_SECOND.w ∧
      (t.merge group.val).seeds = (s.merge group.val).seeds.filter (fun p => p.1 + 1 ≥ secondOf s.now) ∧
      RegsOnly [mrgPage group.val] s t := by
  let u := seedShown group.val n v s
  let t := if s.homeIn group.val n then { u with ldg := { u.ldg with seeds := ledgerSeed group.val n v u.ldg.seeds } } else u
  have he : exec (.seedPublish group) s = .next t := by
    refine congrArg Host.Outcome.next ((State.running_of hs _).trans ?_)
    dsimp only
    rw [hlast]
    refine (State.given_of (by simpa using hnew) _).trans ?_
    rfl
  have hregs : t.regs = u.regs := by unfold t; split <;> rfl
  have htiming : t.timing = u.timing := by unfold t; split <;> rfl
  refine ⟨t, he, only_of_exec he (by apply execSeedPublish_touches <;> simp [Touches.refl]), ?_, ?_, ?_,
    (seedShown_regsOnly group.val n v s).trans (RegsOnly.of_regs_eq _ hregs)⟩
  · refine (State.rdx_congr hregs _ _ 0 0).trans ?_
    exact (State.rd_wr_of_ne _ _ (Fld.key_ne_of_place_ne _ (by decide))).trans (State.rd_wr_self _ _ _ _)
  · exact (State.rdx_congr hregs _ _ 0 0).trans (State.rd_wr_self _ _ _ _)
  · rw [State.merge_congr htiming]
    exact congrArg MergeGroup.seeds (State.merge_putMerge _ _ _)

theorem memberAbsent_leaves (group slot : Fin 64) (s : State) (hs : s.stopped = false)
    (hv : s.rdi (mrgPage group.val) F.mrg_MEMBER_VALID slot.val = 1)
    (hp : s.rdi (mrgPage group.val) F.mrg_MEMBER_PRESENT slot.val = 1) (hh : s.slotHere group.val slot.val = false) :
    let t := setPresence group.val slot.val false s
    exec (.memberAbsent group slot) s = .next t ∧
      Only [.regs, .out, .host, .latches, .ldg, .vsr] s t ∧
      t.rdi (mrgPage group.val) F.mrg_MEMBER_PRESENT slot.val = 0 := by
  intro t
  have he : exec (.memberAbsent group slot) s = .next t := congrArg Host.Outcome.next
    ((State.running_of hs _).trans (State.given_of (by simp [hv, hp, hh]) _))
  exact ⟨he, only_of_exec he (by apply execMemberAbsent_touches <;> simp [Touches.refl]),
    rdi_present_setPresence group.isLt slot.isLt false s⟩

theorem memberPresent_joins (group slot : Fin 64) (s : State) (hs : s.stopped = false)
    (hv : s.rdi (mrgPage group.val) F.mrg_MEMBER_VALID slot.val = 1)
    (hp : s.rdi (mrgPage group.val) F.mrg_MEMBER_PRESENT slot.val = 0)
    (hm : s.rdi (mrgPage group.val) F.mrg_MEMBER_REMOTE slot.val = 0 ∨
      s.memberChip (s.rdi (mrgPage group.val) F.mrg_MEMBER_CHIP_ID slot.val) = true)
    (hh : s.slotHere group.val slot.val = true) :
    let t := setPresence group.val slot.val true s
    exec (.memberPresent group slot) s = .next t ∧
      Only [.regs, .out, .host, .latches, .ldg, .vsr] s t ∧
      t.rdi (mrgPage group.val) F.mrg_MEMBER_PRESENT slot.val = 1 := by
  intro t
  have he : exec (.memberPresent group slot) s = .next t := congrArg Host.Outcome.next
    ((State.running_of hs _).trans (State.given_of (by simpa [hv, hp, hh] using hm) _))
  exact ⟨he, only_of_exec he (by apply execMemberPresent_touches <;> simp [Touches.refl]),
    rdi_present_setPresence group.isLt slot.isLt true s⟩

/-- Settles O33, command by command: past its gate each leaves the group's record, its page or the frame as its rule gives them. That
presence follows every valid slot, of a group enabled or not, is the model's choice, log entry 75, and so is the frame that an error
in the merge store concerns, log entry 76. -/
theorem mergeCommandsComplete : Obligations.MergeCommandsComplete := by
  unfold Obligations.MergeCommandsComplete
  -- the clauses of one outcome of the store's ECC are instances of the one for all three
  have hemit (ecc : Fin 3) (group : Fin 64) (h : HeldFrame) (rest : List HeldFrame) (s : State) (hs : s.stopped = false)
      (hh : (s.merge group.val).held = h :: rest) (hem : s.emits group.val h = true) :=
    let ⟨he, honly, _⟩ := mergeEmit_emits group ecc h rest s hs hh hem
    And.intro he honly
  exact ⟨mergeEnable_enables, mergeEnable_isRefused, mergeDisable_disables, mergeArrival_takes, mergeEmit_emits, hemit 0, hemit 1,
    hemit 2, seedDraw_draws, seedPublish_shows, memberAbsent_leaves, memberPresent_joins⟩

end Sys2Proof
end

section
/-! SUPPORT. Release groups: what the helpers of R307 to R321 leave of a group's record and of its page. -/

namespace Sys2Proof.Machine

/-! ## Batches -/

theorem State.putRel_regs (s : State) (g : Nat) (x : RelGroup) : (s.putRel g x).regs = s.regs := rfl

theorem freeRatios_same (s : State) (p : Piece) (hp : p ∉ [.pwc]) : Piece.same s (freeRatios s) p :=
  (freeRatios_touches (ps := (· ∈ [.pwc])) (by decide) (Touches.refl _ s)).same p hp

theorem putBatches_timing (g : Nat) (bs : List Batch) (s : State) :
    (putBatches g bs s).timing = (s.putRel g { s.rel g with batches := bs }).timing := freeRatios_same _ .timing (by decide)

/-- A group's batches are those put, and the rest of its record is as it was. -/
@[simp] theorem rel_putBatches (g : Nat) (bs : List Batch) (s : State) :
    (putBatches g bs s).rel g = { s.rel g with batches := bs } :=
  (State.rel_congr (putBatches_timing g bs s) g).trans (State.rel_putRel _ _ _)

theorem refreshGrid_timing (g : Nat) (s : State) : (refreshGrid g s).timing = s.timing :=
  (refreshGrid_touches (by simp) (by simp) (by simp) (by simp) (Touches.refl _ s)).timing_eq

/-- The member ports of a group are ports of the device (R307). -/
theorem lt_of_mem_members {s : State} {g p : Nat} (h : p ∈ s.members g) : p < 1024 := by
  unfold State.members at h
  obtain ⟨k, hk, hp⟩ := List.mem_flatMap.1 h
  have hk16 := List.mem_range.1 hk
  dsimp only at hp
  split at hp
  · cases hp
  · obtain ⟨b, hb, rfl⟩ := List.mem_map.1 hp
    have hb64 := List.mem_range.1 (List.mem_filter.1 hb).1
    omega

section
variable {K : Nat → Prop} {s t : State} {g : Nat}

theorem RegsKept.putBatches (h : RegsKept K s t) (hopen : ¬ K (F.rel_REL_STATUS_WINDOW_OPEN.key (relPage g) 0 0))
    (hsched : ¬ K (F.rel_REL_STATUS_SCHEDULED.key (relPage g) 0 0)) (bs : List Batch) : RegsKept K s (putBatches g bs t) := by
  unfold Machine.putBatches refreshRel
  have hfree : RegsKept K s (freeRatios (t.putRel g { t.rel g with batches := bs })) :=
    (h.congr (State.putRel_regs _ _ _)).congr (freeRatios_same _ .regs (by decide))
  exact (hfree.wr hopen _).wr hsched _

theorem RegsKept.refreshGrid (h : RegsKept K s t) (hK : ∀ k, K k → groupBody k)
    (hgrid : ¬ K (F.rel_REL_STATUS_GRID_UNLOCKED.key (relPage g) 0 0)) : RegsKept K s (refreshGrid g t) := by
  unfold Machine.refreshGrid
  exact .ite ((h.wr hgrid _).raiseGroup hK _ (by decide)) (h.wr hgrid _)

theorem RegsKept.moveReplicas (h : RegsKept K s t) (hheld : ¬ K (F.rel_REL_STATUS_HELD.key (relPage g) 0 0)) (ids : List Nat)
    (free : Bool) : RegsKept K s (moveReplicas g ids free t) := by
  unfold Machine.moveReplicas
  refine RegsKept.wr (h.foldl fun u x _ hu => ?_) hheld _
  split
  · exact hu.congr rfl
  · exact hu

theorem RegsKept.onFrame (h : RegsKept K s t) {id : Nat} {F : Frame → State → State} (hF : ∀ f, RegsKept K s (F f t)) :
    RegsKept K s (t.onFrame id F) := by
  unfold State.onFrame
  split
  · exact hF _
  · exact h

theorem RegsKept.lateFrames (h : RegsKept K s t) (hK : ∀ k, K k → groupBody k) (ids : List Nat) :
    RegsKept K s (lateFrames g ids t) :=
  h.foldl fun u id _ hu => hu.onFrame fun f => RegsKept.countGroup (t := u.putFrame id (f.flag 0)) (hu.congr rfl) hK _ _

end

/-! ## Enabling and disabling (R308, R319) -/

theorem State.relRefusal_wakeClock (s : State) (page g : Nat) : (s.wakeClock page).relRefusal g = s.relRefusal g := by
  rw [State.wakeClock_eq]
  rfl

theorem relEnable_of_refused {g : Nat} {s : State} (hen : s.on (relPage g) F.rel_REL_STATUS_ENABLED = false)
    (hr : s.relRefusal g ≠ 0) : relEnable g s = signal (relPage g) 4 (528 + g)
      ((s.wr (relPage g) F.rel_REL_CFG_ENABLE 0).wr (relPage g) F.rel_REL_STATUS_REFUSE (s.relRefusal g)) := by
  unfold relEnable
  rw [if_neg (by simp [hen]), if_pos hr]

/-- The bit address of a group's REL_STATUS.ENABLED (R321). -/
def relEnabledKey (g k : Nat) : Prop := k = F.rel_REL_STATUS_ENABLED.key (relPage g) 0 0

theorem groupBody_of_relEnabledKey {g : Nat} (hg : g < 256) : ∀ k, relEnabledKey g k → groupBody k := by
  rintro _ rfl
  exact groupBody_relKey hg (by decide) (by decide)

theorem not_relEnabledKey {g : Nat} {f : Fld}
    (hf : f.off * 8 + f.lo ≠ F.rel_REL_STATUS_ENABLED.off * 8 + F.rel_REL_STATUS_ENABLED.lo) :
    ¬ relEnabledKey g (f.key (relPage g) 0 0) := Fld.key_ne_of_place_ne _ hf

/-- R308: a group with no ground of refusal is enabled once its page says so; what follows leaves ENABLED. -/
theorem on_enabled_relEnable {g : Nat} (hg : g < 256) {s : State} (hen : s.on (relPage g) F.rel_REL_STATUS_ENABLED = false)
    (hr : s.relRefusal g = 0) : (relEnable g s).on (relPage g) F.rel_REL_STATUS_ENABLED = true := by
  have hK := groupBody_of_relEnabledKey hg
  unfold relEnable
  extract_lets pg why s1 r s2
  rw [if_neg (by simp [pg, hen]), if_neg (by simp [why, hr])]
  let s0 := (s.wr pg F.rel_REL_CFG_ENABLE 1).wr pg F.rel_REL_STATUS_ENABLED 1
  have h2 : RegsKept (relEnabledKey g) s0 s2 := RegsKept.congr
    ((RegsKept.refl _ s0).wr (f := F.rel_REL_STATUS_REFUSE) (not_relEnabledKey (by decide)) 0) rfl
  have hdelay := h2.wr (f := F.rel_RELEASE_INFO_D_EFF) (page := pg) (not_relEnabledKey (by decide)) (s2.dEff g s2.groupPace)
  have h3 := (hdelay.refreshGrid (g := g) hK (not_relEnabledKey (by decide))).refreshPGroup hK
  have hall := h3.foldl (l := s2.members g) fun u p hp hu =>
    (hu.wakeTx hK p).recomputePort hK (lt_of_mem_members hp)
  refine (hall.on rfl).trans ?_
  rw [State.on, State.rd_wr_self]
  rfl

/-- R319: a group disabled is not enabled, whatever it still released. -/
theorem on_enabled_relDisable {g : Nat} (hg : g < 256) (s : State) :
    (relDisable g s).on (relPage g) F.rel_REL_STATUS_ENABLED = false := by
  have hK := groupBody_of_relEnabledKey hg
  unfold relDisable
  extract_lets pg s1 x left ids r s2 s3
  let s0 := (s.wr pg F.rel_REL_CFG_ENABLE 0).wr pg F.rel_REL_STATUS_ENABLED 0
  have h1 : RegsKept (relEnabledKey g) s0 s1 := (RegsKept.refl _ s0).refreshPGroup hK
  have h2 : RegsKept (relEnabledKey g) s0 s2 :=
    RegsKept.putBatches (h1.congr (State.putRel_regs _ _ _)) (not_relEnabledKey (by decide)) (not_relEnabledKey (by decide)) _
  have hlate := (h2.set1 (page := pg) (f := F.rel_REL_STATUS_LATE) (not_relEnabledKey (by decide))).raiseGroup hK pg (cause := 0)
    (by decide)
  have h3 : RegsKept (relEnabledKey g) s0 s3 :=
    .ite h2 ((hlate.lateFrames hK ids).moveReplicas (not_relEnabledKey (by decide)) ids true)
  have hall := h3.foldl (l := s3.members g) fun u p hp hu => hu.recomputePort hK (lt_of_mem_members hp)
  refine (hall.on rfl).trans ?_
  rw [State.on, State.rd_wr_self]
  rfl

/-- R319: a group disabled holds no frame. -/
theorem held_relDisable (g : Nat) (s : State) : ((relDisable g s).rel g).held = [] := by
  unfold relDisable
  extract_lets pg s1 x left ids r s2 s3
  have h3 : Touches (· ≠ .timing) s2 s3 := Touches.ite (Touches.refl _ s2) <| moveReplicas_touches (by simp) (by simp) <|
    lateFrames_touches (by simp) (by simp) (by simp) <| State.raise_touches (by simp) (by simp) (by simp) (by simp) <|
    State.set1_touches (by simp) (by simp) (Touches.refl _ s2)
  have hall : Touches (· ≠ .timing) s2 ((s3.members g).foldl (fun t p => recomputePort p t) s3) :=
    Touches.foldl (fun _ _ hu => recomputePort_touches (by simp) (by simp) (by simp) (by simp) hu) h3
  rw [State.rel_congr hall.timing_eq, rel_putBatches, State.rel_putRel]

/-! ## RELEASE_AT (R310) -/

/-- R12: RELEASE_AT shows the word written. -/
theorem rd_releaseAt (s : State) (g : Nat) (w : Word) (frac : Nat) :
    (s.wrPair (relPage g) F.rel_RELEASE_AT_NS F.rel_RELEASE_AT_FRAC (w.toNat * nsUnits + frac % nsUnits)).rd (relPage g)
      F.rel_RELEASE_AT_NS = w.toNat := by
  have hwhole : (w.toNat * nsUnits + frac % nsUnits) / nsUnits = w.toNat := by
    unfold nsUnits
    omega
  rw [State.wrPair, State.rd_wr_of_ne _ _ (Fld.key_ne_of_place_ne _ (by decide)), State.rd_wr_self, hwhole]
  exact Nat.mod_eq_of_lt w.isLt

/-- R13, R310: the word and the fraction staged before it are stored, and nothing else where no explicit release can be scheduled. -/
theorem writeReleaseAt_unscheduled {g : Nat} (nsWord : Nat) {s : State}
    (h : s.on (relPage g) F.rel_REL_STATUS_ENABLED = false ∨ s.on (relPage g) F.rel_REL_CFG_MODE = true) :
    writeReleaseAt g nsWord s = s.wrPair (relPage g) F.rel_RELEASE_AT_NS F.rel_RELEASE_AT_FRAC
      (nsWord * nsUnits + s.host.staged.val 0 (0x1000 * relPage g + 0x090) % nsUnits) := by
  unfold writeReleaseAt
  exact if_pos (by simpa using h)

/-- R310: a write while the group is enabled, under explicit release, shows the word and schedules a batch of its own. -/
theorem writeReleaseAt_schedules {g : Nat} (hg : g < 256) (w : Word) {s : State}
    (hen : s.on (relPage g) F.rel_REL_STATUS_ENABLED = true) (hmode : s.on (relPage g) F.rel_REL_CFG_MODE = false) :
    (writeReleaseAt g w.toNat s).rd (relPage g) F.rel_RELEASE_AT_NS = w.toNat ∧
      ∃ b ∈ ((writeReleaseAt g w.toNat s).rel g).batches, b.explicit = true ∧ b.cut = false := by
  let K : Nat → Prop := (· = F.rel_RELEASE_AT_NS.key (relPage g) 0 0)
  have hK : ∀ k, K k → groupBody k := by
    rintro _ rfl
    exact groupBody_relKey hg (by decide) (by decide)
  have hoff {f : Fld} (hf : f.off * 8 + f.lo ≠ F.rel_RELEASE_AT_NS.off * 8 + F.rel_RELEASE_AT_NS.lo) :
      ¬ K (f.key (relPage g) 0 0) := Fld.key_ne_of_place_ne _ hf
  unfold writeReleaseAt
  extract_lets pg at_ s1 t late b fixed bs s2
  rw [if_neg (by simp [pg, hen, hmode])]
  have hb : b ∈ bs ∧ b.explicit = true ∧ b.cut = false := ⟨List.mem_append_right _ (List.mem_singleton_self b), rfl, rfl⟩
  clear_value bs b fixed late
  have h2 : RegsKept K s1 s2 :=
    ((RegsKept.refl K s1).putBatches (hoff (by decide)) (hoff (by decide)) bs).refreshGrid hK (hoff (by decide))
  have hbatches : (s2.rel g).batches = bs := by rw [State.rel_congr (refreshGrid_timing g _), rel_putBatches]
  have hns : s1.rd (relPage g) F.rel_RELEASE_AT_NS = w.toNat := rd_releaseAt s g w _
  clear_value s2 s1
  split
  · exact ⟨((h2.set1 (hoff (by decide))).rd rfl).trans hns, b, hbatches.symm ▸ hb.1, hb.2⟩
  · exact ⟨(h2.rd rfl).trans hns, b, hbatches.symm ▸ hb.1, hb.2⟩

end Sys2Proof.Machine
end

section
/-! SUPPORT. EXCLUDED through a cut-off: what sets its bits, and what of a replica's drop leaves them (R310, R317, R355). -/

namespace Sys2Proof.Machine

/-! ## The registers -/

/-- The bit addresses of a group's EXCLUDED registers (R317). -/
def excludedKeys (g k : Nat) : Prop := ∃ i < 16, k = F.rel_EXCLUDED.key (relPage g) i 0

theorem excludedKey_eq (g i : Nat) : F.rel_EXCLUDED.key (relPage g) i 0 = relPage g * 0x8000 + 0xC00 + 64 * i := by
  simp only [Fld.key, F.rel_EXCLUDED]
  omega

theorem groupBody_of_excludedKeys {g : Nat} (hg : g < 256) : ∀ k, excludedKeys g k → groupBody k := by
  rintro _ ⟨i, hi, rfl⟩
  exact groupBody_relKey hg (by decide) (by simp only [F.rel_EXCLUDED]; omega)

/-- The registers below offset 0x180 of any page. -/
theorem not_excludedKeys_of_place {g : Nat} {f : Fld} (hf : f.off * 8 + f.lo < 0xC00) (page : Nat) :
    ¬ excludedKeys g (f.key page 0 0) := by
  rintro ⟨i, hi, he⟩
  rw [excludedKey_eq] at he
  unfold Fld.key at he
  omega

theorem not_excludedKeys_of_later {g page : Nat} (hg : g < 256) (hp : 0x240 ≤ page) (f : Fld) (i j : Nat) :
    ¬ excludedKeys g (f.key page i j) := not_key_of_later (groupBody_of_excludedKeys hg) hp f i j

theorem State.bit_putBitAt_excluded (s : State) (page p : Nat) :
    (s.putBitAt page F.rel_EXCLUDED p true).bit page F.rel_EXCLUDED p = true := by
  have hp : p % 64 < F.rel_EXCLUDED.w := Nat.mod_lt _ (by decide)
  rw [State.bit, State.putBitAt, State.rdi_wri_self, Nat.testBit_mod_two_pow, testBit_putBit_true]
  simp [hp]

/-- A bit that stands still does once another is put. -/
theorem State.bit_putBitAt_excluded_of_bit {s : State} {page p : Nat} (h : s.bit page F.rel_EXCLUDED p = true) (q : Nat) :
    (s.putBitAt page F.rel_EXCLUDED q true).bit page F.rel_EXCLUDED p = true := by
  have hp : p % 64 < F.rel_EXCLUDED.w := Nat.mod_lt _ (by decide)
  unfold State.bit State.putBitAt at *
  by_cases hi : p / 64 = q / 64
  · rw [hi] at h ⊢
    rw [State.rdi_wri_self, Nat.testBit_mod_two_pow, testBit_putBit_true, h]
    simp [hp]
  · refine Eq.trans (congrArg (Nat.testBit · _) (State.rdx_wrx_of_ne s _ ?_)) h
    simp only [Fld.key, F.rel_EXCLUDED]
    omega

/-! ## What a replica's drop writes (R247, R274, R355, R392, R400) -/

section
variable {s t : State} {g : Nat}

theorem RegsKept.excludedBit (h : RegsKept (excludedKeys g) s t) {p : Nat} (hp : p < 1024) :
    t.bit (relPage g) F.rel_EXCLUDED p = s.bit (relPage g) F.rel_EXCLUDED p :=
  congrArg (Nat.testBit · _) (h.rdi ⟨p / 64, by omega, rfl⟩)

variable (hg : g < 256)
include hg

theorem RegsKept.countExcluded (h : RegsKept (excludedKeys g) s t) (event inst : Nat) :
    RegsKept (excludedKeys g) s (t.count event inst) := h.countGroup (groupBody_of_excludedKeys hg) event inst

theorem RegsKept.raiseExcluded (h : RegsKept (excludedKeys g) s t) (page : Nat) {cause : Nat} (hc : cause < 64) :
    RegsKept (excludedKeys g) s (t.raise page cause) := h.raiseGroup (groupBody_of_excludedKeys hg) page hc

theorem RegsKept.wrLater (h : RegsKept (excludedKeys g) s t) {page : Nat} (hp : 0x240 ≤ page) (f : Fld) (v : Nat) :
    RegsKept (excludedKeys g) s (t.wr page f v) := h.wr (not_excludedKeys_of_later hg hp f 0 0) v

theorem RegsKept.countDrop (h : RegsKept (excludedKeys g) s t) (f : Frame) (reason : Nat) (queuedAt : Option Nat) :
    RegsKept (excludedKeys g) s (countDrop f reason queuedAt t) := by
  unfold Machine.countDrop
  extract_lets s1
  have h1 : RegsKept (excludedKeys g) s s1 := by
    unfold s1
    split
    · exact (h.countExcluded hg _ _).countExcluded hg _ _
    · exact (h.countExcluded hg _ _).countExcluded hg _ _
  exact .ite h1 (h1.countExcluded hg _ _)

theorem RegsKept.latchDrop (h : RegsKept (excludedKeys g) s t) (f : Frame) (c reason : Nat) :
    RegsKept (excludedKeys g) s (latchDrop f c reason t) := by
  unfold Machine.latchDrop
  extract_lets pg s1
  have h1 : RegsKept (excludedKeys g) s s1 := .ite (h.raiseExcluded hg _ (by decide)) h
  exact .ite (h1.raiseExcluded hg _ (by decide)) (.ite (h1.raiseExcluded hg _ (by decide)) h1)

theorem RegsKept.headerRing (h : RegsKept (excludedKeys g) s t) (ring : Nat) (f : Frame) (x : Fate) :
    RegsKept (excludedKeys g) s (headerRing ring f x t) := by
  have hput (r : HRing) : RegsKept (excludedKeys g) s (t.putHring ring r) := h.congr rfl
  unfold Machine.headerRing
  exact .ite h (.ite (hput _) (.ite (((hput _).bumpi (not_excludedKeys_of_place (by decide) _) 1).vector _)
    (((hput _).countExcluded hg _ _).vector _)))

theorem RegsKept.writeTrace (h : RegsKept (excludedKeys g) s t) (f : Frame) (x : Fate) :
    RegsKept (excludedKeys g) s (writeTrace f x t) := by
  unfold Machine.writeTrace
  extract_lets sl pg b seq bytes seqs s0 l size base tail ok s1
  have h0 : RegsKept (excludedKeys g) s s0 := h.congr rfl
  have h1 : RegsKept (excludedKeys g) s s1 :=
    ((h0.bumpi (not_excludedKeys_of_place (by decide) _) 1).raiseExcluded hg _ (by decide)).vector _
  have hring : RegsKept (excludedKeys g) s (s0.ringWrite base size tail bytes) := h0.congr
    ((State.ringWrite_touches (ps := (· ≠ .regs)) (by simp) (by simp) (Touches.refl _ s0)).same .regs (by simp))
  exact .ite (((hring.wr (not_excludedKeys_of_place (by decide) _) _).countExcluded hg _ _).vector _)
    (.ite h1 (h1.raiseExcluded hg _ (by decide)))

theorem RegsKept.settle (h : RegsKept (excludedKeys g) s t) (id : Nat) (x : Fate) (trace : Bool) :
    RegsKept (excludedKeys g) s (settle id x trace t) := by
  refine h.onFrame fun f => ?_
  dsimp only
  have hform : RegsKept (excludedKeys g) s (formFrame ((f.seenBy x).record x) x.at_ t) := h.congr
    ((formFrame_touches (ps := (· ≠ .regs)) (by simp) (Touches.refl _ t)).same .regs (by simp))
  have hrings := hform.foldl (l := List.range 16) fun u k _ hu => hu.headerRing hg k (f.seenBy x) x
  exact RegsKept.congr (.ite (hrings.writeTrace hg _ _) hrings) rfl

theorem RegsKept.sendPfc (h : RegsKept (excludedKeys g) s t) (port : Nat) (prs : List Nat) (quanta : Nat) :
    RegsKept (excludedKeys g) s (sendPfc port prs quanta t) := by
  have hsent (o : Output) : RegsKept (excludedKeys g) s (t.send o) := h.congr rfl
  unfold Machine.sendPfc
  refine .ite h (((hsent _).countExcluded hg _ _).foldl fun u pr _ hu => ?_)
  exact hu.wrLater hg (by unfold prt; omega) _ _

theorem RegsKept.returnPg (h : RegsKept (excludedKeys g) s t) (f : Frame) (draws : List Draw) :
    RegsKept (excludedKeys g) s (returnPg f draws t) := by
  have hput (port c : Nat) (x : Pg) {u : State} (hu : RegsKept (excludedKeys g) s u) :
      RegsKept (excludedKeys g) s (u.putPg port c x) := hu.congr rfl
  unfold Machine.returnPg checkXon setXoff
  exact .ite (.ite (hput _ _ _ h) ((hput _ _ _ (hput _ _ _ h)).sendPfc hg _ _ _)) (hput _ _ _ h)

theorem RegsKept.returnPools (h : RegsKept (excludedKeys g) s t) (draws : List Draw) :
    RegsKept (excludedKeys g) s (returnPools draws t) :=
  h.foldl fun _ _ _ hu => .ite hu (hu.wrLater hg (by decide) _ _)

theorem RegsKept.freeLive (h : RegsKept (excludedKeys g) s t) (b : Nat) : RegsKept (excludedKeys g) s (freeLive b t) := by
  have hbank : 0x240 ≤ bufg b := by unfold bufg; omega
  have hcapacity (n : Nat) {u : State} (hu : RegsKept (excludedKeys g) s u) : RegsKept (excludedKeys g) s (Machine.takeCapacity n u) := by
    unfold Machine.takeCapacity
    split
    next x s1 hx =>
    have hfold : RegsKept (excludedKeys g) s (x, s1).2 := by
      rw [← hx]
      exact List.foldlRecOn (motive := fun y : Nat × State => RegsKept (excludedKeys g) s y.2) _ _ hu
        fun y hy k _ => hy.wrLater hg (by decide) _ _
    exact .ite hfold (hfold.raiseExcluded hg _ (by decide))
  unfold Machine.freeLive Machine.checkRetired
  have hfreed := (h.wri (not_excludedKeys_of_later hg hbank F.bufg_BANK_LIVE (b % 32) 0) (t.bankLive b - 1)).wrLater hg hbank
    F.bufg_GROUP_STATUS_LIVE_CELLS
  exact .ite (hcapacity _ ((hfreed _).wrLater hg (by decide) _ _)) (hfreed _)

theorem RegsKept.releaseFrame (h : RegsKept (excludedKeys g) s t) (id : Nat) :
    RegsKept (excludedKeys g) s (releaseFrame id t) :=
  h.onFrame fun f => RegsKept.congr
    (((h.returnPools hg f.draws).returnPg hg f f.draws).foldl (l := f.cells) fun _ b _ hu => hu.freeLive hg b) rfl

theorem RegsKept.freeEntry (h : RegsKept (excludedKeys g) s t) (r : Replica) : RegsKept (excludedKeys g) s (freeEntry r t) := by
  have hput (x : Queue) : RegsKept (excludedKeys g) s (t.putQueue r.port r.queue x) := h.congr rfl
  exact (hput _).bumpi (not_excludedKeys_of_later hg (by decide) _ _ _) 1

theorem RegsKept.removeReplica (h : RegsKept (excludedKeys g) s t) (id : Nat) :
    RegsKept (excludedKeys g) s (removeReplica id t) := by
  unfold Machine.removeReplica
  split
  · exact h
  · next r _ =>
    extract_lets palm s0 s1
    have h0 : RegsKept (excludedKeys g) s s0 := RegsKept.freeEntry hg (h.congr rfl) r
    have h1 : RegsKept (excludedKeys g) s s1 := .ite h0 (h0.wr (not_excludedKeys_of_place (by decide) _) _)
    split
    · exact h1
    · exact .ite (h1.releaseFrame hg _) (h1.congr rfl)

/-- R255, R392: a replica dropped leaves EXCLUDED of every group as it was. -/
theorem RegsKept.dropReplica (h : RegsKept (excludedKeys g) s t) (id reason : Nat) (unported : Bool) :
    RegsKept (excludedKeys g) s (dropReplica id reason unported t) := by
  unfold Machine.dropReplica dropReplicaAt State.onReplica
  split
  · split
    · beta_reduce
      extract_lets s1 palm s2
      have h1 : RegsKept (excludedKeys g) s s1 := (h.countDrop hg _ _ _).latchDrop hg _ _ _
      have h2 : RegsKept (excludedKeys g) s s2 := .ite (h1.countExcluded hg _ _) h1
      exact (h2.settle hg _ _ _).removeReplica hg _
    · exact h
  · exact h

/-- R317: a replica's exclusion takes no bit of EXCLUDED away. -/
theorem excludeReplica_keeps_bit {p : Nat} (hp : p < 1024) (id : Nat)
    (h : s.bit (relPage g) F.rel_EXCLUDED p = true) : (excludeReplica id g s).bit (relPage g) F.rel_EXCLUDED p = true := by
  unfold excludeReplica
  split
  · exact h
  · next r _ =>
    extract_lets k e s1
    have h1 : s1.bit (relPage g) F.rel_EXCLUDED p = true := by
      unfold s1
      split
      · exact h
      · rw [((RegsKept.refl (excludedKeys g) _).countExcluded hg _ _).excludedBit hp]
        exact State.bit_putBitAt_excluded_of_bit h _
    have hkept := (((RegsKept.refl (excludedKeys g) s1).countExcluded hg 0x0907 g).raiseExcluded hg (relPage g) (cause := 1)
      (by decide)).dropReplica hg id 0xEB false
    rw [hkept.excludedBit hp, h1]

end

end Sys2Proof.Machine
end

section
/-! PROOF. O34: enabling, disabling, holding and RELEASE_AT (R307, R308, R310, R319). -/

namespace Sys2Proof

open Sys2Proof.Machine

theorem releaseEnable_enables (group : Fin 256) (s : State) (hs : s.stopped = false) (hsh : s.shut (relPage group.val) = false)
    (hen : s.on (relPage group.val) F.rel_REL_STATUS_ENABLED = false) (hr : s.relRefusal group.val = 0) :
    let t := relEnable group.val (s.wakeClock (relPage group.val))
    exec (.releaseEnable group) s = .next t ∧
      Only [.regs, .out, .host, .latches, .timing, .mtn] s t ∧
      t.on (relPage group.val) F.rel_REL_STATUS_ENABLED = true := by
  intro t
  have he : exec (.releaseEnable group) s = .next t := congrArg Host.Outcome.next (State.written_of hs hsh _)
  exact ⟨he, only_of_exec he (by apply execReleaseEnable_touches <;> simp [Touches.refl]),
    on_enabled_relEnable group.isLt ((State.on_wakeClock _ _ _ _).trans hen) ((State.relRefusal_wakeClock _ _ _).trans hr)⟩

theorem releaseEnable_isRefused (group : Fin 256) (s : State) (hs : s.stopped = false) (hsh : s.shut (relPage group.val) = false)
    (hen : s.on (relPage group.val) F.rel_REL_STATUS_ENABLED = false) (hr : s.relRefusal group.val ≠ 0) :
    let t := signal (relPage group.val) 4 (528 + group.val) (((s.wakeClock (relPage group.val)).wr (relPage group.val)
      F.rel_REL_CFG_ENABLE 0).wr (relPage group.val) F.rel_REL_STATUS_REFUSE (s.relRefusal group.val))
    exec (.releaseEnable group) s = .next t ∧
      Only [.regs, .out, .host, .latches, .timing, .mtn] s t ∧
      t.on (relPage group.val) F.rel_REL_STATUS_ENABLED = false := by
  intro t
  have href := State.relRefusal_wakeClock s (relPage group.val) group.val
  have he : exec (.releaseEnable group) s = .next t := by
    refine congrArg Host.Outcome.next ((State.written_of hs hsh _).trans
      ((relEnable_of_refused ((State.on_wakeClock _ _ _ _).trans hen) (href ▸ hr)).trans ?_))
    rw [href]
  have hkept : RegsKept (relEnabledKey group.val) (s.wakeClock (relPage group.val)) t :=
    (((RegsKept.refl _ _).wr (f := F.rel_REL_CFG_ENABLE) (not_relEnabledKey (by decide)) _).wr
      (f := F.rel_REL_STATUS_REFUSE) (not_relEnabledKey (by decide)) _).signal (groupBody_of_relEnabledKey group.isLt) _
      (by decide) _
  exact ⟨he, only_of_exec he (by apply execReleaseEnable_touches <;> simp [Touches.refl]),
    (hkept.on rfl).trans ((State.on_wakeClock _ _ _ _).trans hen)⟩

theorem releaseDisable_disables (group : Fin 256) (s : State) (hs : s.stopped = false) (hsh : s.shut (relPage group.val) = false) :
    let t := relDisable group.val (s.wakeClock (relPage group.val))
    exec (.releaseDisable group) s = .next t ∧
      Only [.regs, .out, .host, .latches, .palm, .timing, .vsr, .mtn, .pwc] s t ∧
      t.on (relPage group.val) F.rel_REL_STATUS_ENABLED = false ∧
      (t.rel group.val).held = [] := by
  intro t
  have he : exec (.releaseDisable group) s = .next t := congrArg Host.Outcome.next (State.written_of hs hsh _)
  exact ⟨he, only_of_exec he (by apply execReleaseDisable_touches <;> simp [Touches.refl]), on_enabled_relDisable group.isLt _,
    held_relDisable _ _⟩

theorem releaseHold_takes (frame : Nat) (cells : List (Fin 1152)) (f : Frame) (s : State) (hs : s.stopped = false)
    (hf : s.frame? frame = some f) (hstage : (f.stage = .decided ∧ mdGet f.md 0x36 1 < 128) ∨ f.stage = .emitted)
    (hasks : f.ctrl 0 = true) :
    let t := releaseHold frame (cells.map (fun c => c.val)) s
    exec (.releaseHold frame cells) s = .next t ∧
      Only [.regs, .out, .ddr, .poison, .host, .latches, .palm, .timing, .ldg, .vsr, .pwc] s t := by
  intro t
  have he : exec (.releaseHold frame cells) s = .next t := by
    refine congrArg Host.Outcome.next ((State.running_of hs _).trans ?_)
    rw [State.onFrame, hf]
    exact State.given_of (by simpa [hasks] using hstage) _
  exact ⟨he, only_of_exec he (by apply execReleaseHold_touches <;> simp [Touches.refl])⟩

theorem exec_releaseAtWrite {group : Fin 256} (w : Word) {s : State} (hs : s.stopped = false)
    (hsh : s.shut (relPage group.val) = false) :
    exec (.releaseAtWrite group w) s = .next (writeReleaseAt group.val w.toNat (s.wakeClock (relPage group.val))) :=
  congrArg Host.Outcome.next (State.written_of hs hsh _)

theorem releaseAtWrite_stores (group : Fin 256) (w : Word) (s : State) (hs : s.stopped = false)
    (hsh : s.shut (relPage group.val) = false)
    (hidle : s.on (relPage group.val) F.rel_REL_STATUS_ENABLED = false ∨ s.on (relPage group.val) F.rel_REL_CFG_MODE = true) :
    let t := (s.wakeClock (relPage group.val)).wrPair (relPage group.val) F.rel_RELEASE_AT_NS F.rel_RELEASE_AT_FRAC
      (w.toNat * nsUnits + s.host.staged.val 0 (0x1000 * relPage group.val + 0x090) % nsUnits)
    exec (.releaseAtWrite group w) s = .next t ∧
      Only [.regs, .out, .host, .latches, .timing, .mtn, .pwc] s t ∧
      t.rd (relPage group.val) F.rel_RELEASE_AT_NS = w.toNat := by
  intro t
  have he : exec (.releaseAtWrite group w) s = .next t := by
    rw [exec_releaseAtWrite w hs hsh, writeReleaseAt_unscheduled _ (by rwa [State.on_wakeClock, State.on_wakeClock]),
      State.wakeClock_host]
  exact ⟨he, only_of_exec he (by apply execReleaseAtWrite_touches <;> simp [Touches.refl]), rd_releaseAt _ _ _ _⟩

theorem releaseAtWrite_schedules (group : Fin 256) (w : Word) (s : State) (hs : s.stopped = false)
    (hsh : s.shut (relPage group.val) = false) (hen : s.on (relPage group.val) F.rel_REL_STATUS_ENABLED = true)
    (hmode : s.on (relPage group.val) F.rel_REL_CFG_MODE = false) :
    let t := writeReleaseAt group.val w.toNat (s.wakeClock (relPage group.val))
    exec (.releaseAtWrite group w) s = .next t ∧
      Only [.regs, .out, .host, .latches, .timing, .mtn, .pwc] s t ∧
      t.rd (relPage group.val) F.rel_RELEASE_AT_NS = w.toNat ∧
      (∃ b ∈ (t.rel group.val).batches, b.explicit = true ∧ b.cut = false) := by
  intro t
  have he : exec (.releaseAtWrite group w) s = .next t := exec_releaseAtWrite w hs hsh
  exact ⟨he, only_of_exec he (by apply execReleaseAtWrite_touches <;> simp [Touches.refl]),
    writeReleaseAt_schedules group.isLt w ((State.on_wakeClock _ _ _ _).trans hen) ((State.on_wakeClock _ _ _ _).trans hmode)⟩

end Sys2Proof
end

section
/-! PROOF. O34: windows, cut-off, preemption, release and the delay (R310 to R317). -/

namespace Sys2Proof.Machine

/-! ## The cut-off (R310, R317) -/

/-- A batch whose cut-off has come and that is not fixed yet. -/
def State.cutDue (s : State) (b : Batch) : Bool := !b.cut && decide (b.at_ ≤ s.now + ns 400)

/-- The frames that a batch is fixed with, in the order of R312. -/
def State.cutFrames (s : State) (g : Nat) (b : Batch) : List Nat :=
  s.releaseOrder (if b.explicit then (s.rel g).held else b.frames)

/-- The members that a cut-off excludes: those that are down or of another speed (R317). -/
def State.cutMembers (s : State) (g : Nat) : List Nat :=
  (s.members g).filter fun p => !s.up p || s.speed p != speedOfCode (s.relSpeed g)

/-- The batch fixed, its frames held no more, and EXCLUDED cleared. -/
def fixBatch (g : Nat) (b : Batch) (s : State) : State :=
  let s1 := putBatches g (replaceBatch (s.rel g).batches s.cutDue fun _ => { b with
    cut := true
    cutIn := some (coreCycle s.now)
    frames := s.cutFrames g b
    excluded := s.cutMembers g }) s
  let s2 := if b.explicit then s1.putRel g { s1.rel g with held := [] } else s1
  (List.range 16).foldl (fun t k => t.wri (relPage g) F.rel_EXCLUDED k 0) s2

/-- Members marked in EXCLUDED and counted (R317). -/
def markExcluded (g : Nat) (out : List Nat) (s : State) : State :=
  out.foldl (fun t p => ((t.putBitAt (relPage g) F.rel_EXCLUDED p true).count 0x0906 g).raise (relPage g) 1) s

/-- The replicas of frames at the members excluded, dropped (R317). -/
def dropExcluded (g : Nat) (ids out : List Nat) (s : State) : State :=
  (s.palm.replicas.filter fun x => x.2.releaseOf == g + 1 && ids.contains x.2.frame && out.contains x.2.port).foldl
    (fun t x => excludeReplica x.1 g t) s

theorem exec_releaseCutoff {group : Fin 256} {b : Batch} {s : State} (hs : s.stopped = false)
    (hb : (s.rel group.val).batches.find? s.cutDue = some b) :
    exec (.releaseCutoff group) s = .next (moveReplicas group.val (s.cutFrames group.val b) false
      (dropExcluded group.val (s.cutFrames group.val b) (s.cutMembers group.val)
        (markExcluded group.val (s.cutMembers group.val) (fixBatch group.val b s)))) := by
  refine congrArg Host.Outcome.next ((State.running_of hs _).trans ?_)
  unfold State.cutDue at hb
  dsimp only
  rw [hb]
  rfl

theorem bit_markExcluded {g : Nat} (hg : g < 256) {out : List Nat} {p : Nat} (hp : p ∈ out) (hport : p < 1024) (s : State) :
    (markExcluded g out s).bit (relPage g) F.rel_EXCLUDED p = true := by
  unfold markExcluded
  induction out using List.reverseRecOn with
  | nil => cases hp
  | append_singleton rest q ih =>
    rw [List.foldl_append, List.foldl_cons, List.foldl_nil,
      (((RegsKept.refl (excludedKeys g) _).countExcluded hg _ _).raiseExcluded hg _ (by decide)).excludedBit hport]
    rcases List.mem_append.1 hp with hrest | hq
    · exact State.bit_putBitAt_excluded_of_bit (ih hrest) q
    · rw [List.mem_singleton.1 hq]
      exact State.bit_putBitAt_excluded _ _ _

/-- A port marked in EXCLUDED stays so while replicas are dropped and the others go to egress. -/
theorem bit_afterExclusion {g : Nat} (hg : g < 256) {p : Nat} (hport : p < 1024) (ids out : List Nat) {s : State}
    (h : s.bit (relPage g) F.rel_EXCLUDED p = true) :
    (moveReplicas g ids false (dropExcluded g ids out s)).bit (relPage g) F.rel_EXCLUDED p = true := by
  rw [((RegsKept.refl (excludedKeys g) _).moveReplicas (not_excludedKeys_of_place (by decide) _) ids false).excludedBit hport]
  exact List.foldlRecOn (motive := fun u : State => u.bit (relPage g) F.rel_EXCLUDED p = true) _ _ h
    fun u hu x _ => excludeReplica_keeps_bit hg hport x.1 hu

/-- Where no member is excluded no replica is dropped. -/
theorem dropExcluded_nil (g : Nat) (ids : List Nat) (s : State) : dropExcluded g ids [] s = s := by
  unfold dropExcluded
  rw [List.filter_eq_nil_iff.2 (by simp)]
  rfl

/-! ## Release and its window (R311 to R316) -/

/-- A batch that is fixed and whose instant has come (R312). -/
def State.releaseDue (s : State) (b : Batch) : Bool := b.cut && !b.done && decide (b.at_ ≤ s.now)

theorem exec_release {group : Fin 256} {b : Batch} {s : State} (hs : s.stopped = false)
    (hb : (s.rel group.val).batches.find? s.releaseDue = some b) :
    exec (.release group) s = .next
      (if s.overlaps group.val b || (!b.explicit && b.late && s.membersBusy group.val) then
        putBatches group.val (replaceBatch (s.rel group.val).batches s.releaseDue fun x => { x with moved := true, late := true }) s
      else release group.val b s.releaseDue (refreshGrid group.val s)) := by
  refine congrArg Host.Outcome.next ((State.running_of hs _).trans ?_)
  unfold State.releaseDue at hb
  dsimp only
  rw [hb]
  rfl

/-- A batch released whose frames have all ended (R313). -/
def State.windowOver (s : State) (g : Nat) (b : Batch) : Bool :=
  b.done && !(s.palm.replicas.any fun x => x.2.releaseOf == g + 1 && b.frames.contains x.2.frame)

theorem State.vector_timing (s : State) (v : Nat) : (s.vector v).timing = s.timing :=
  (State.vector_touches (by simp) (by simp) (Touches.refl _ s)).timing_eq

/-- R313, R364: what follows the batch dropped is an event record and a vector, which leave the groups' records. -/
theorem exec_releaseWindowClose {group : Fin 256} {b : Batch} {s : State} (hs : s.stopped = false)
    (hb : (s.rel group.val).batches.find? (s.windowOver group.val) = some b) :
    ∃ t, exec (.releaseWindowClose group) s = .next t ∧
      t.timing = (putBatches group.val ((s.rel group.val).batches.erase b) s).timing := by
  refine ⟨_, congrArg Host.Outcome.next (State.running_of hs _), ?_⟩
  unfold State.windowOver at hb
  dsimp only
  rw [hb]
  dsimp only
  rw [apply_ite State.timing, State.vector_timing, ite_self]
  split
  · exact formEvent_same _ _ _ _ _ .timing (by decide)
  · rfl

end Sys2Proof.Machine

namespace Sys2Proof

open Sys2Proof.Machine

theorem releaseWindowOpen_opens (group : Fin 256) (s : State) (hs : s.stopped = false)
    (hany : (s.rel group.val).batches.any (fun b => !b.open_ && !b.done &&
      decide (b.at_ ≤ s.now + s.relBytes group.val (s.relMaxFrame group.val + 20))) = true) :
    let t := refreshGrid group.val (putBatches group.val (replaceBatch (s.rel group.val).batches (fun b => !b.open_ && !b.done &&
      decide (b.at_ ≤ s.now + s.relBytes group.val (s.relMaxFrame group.val + 20))) fun b => { b with open_ := true }) s)
    exec (.releaseWindowOpen group) s = .next t ∧ Only [.regs, .out, .host, .latches, .timing, .pwc] s t := by
  intro t
  have he : exec (.releaseWindowOpen group) s = .next t :=
    congrArg Host.Outcome.next ((State.running_of hs _).trans (State.given_of hany _))
  exact ⟨he, only_of_exec he (by apply execReleaseWindowOpen_touches <;> simp [Touches.refl])⟩

theorem releaseCutoff_excludes (group : Fin 256) (b : Batch) (s : State) (hs : s.stopped = false)
    (hb : (s.rel group.val).batches.find? (fun b => !b.cut && decide (b.at_ ≤ s.now + ns 400)) = some b) :
    ∃ t, exec (.releaseCutoff group) s = .next t ∧
      Only [.regs, .out, .ddr, .poison, .host, .latches, .palm, .timing, .ldg, .vsr, .pwc] s t ∧
      (∀ p ∈ s.members group.val, (s.up p = false ∨ s.speed p ≠ speedOfCode (s.relSpeed group.val)) →
        t.bit (relPage group.val) F.rel_EXCLUDED p = true) := by
  have he := exec_releaseCutoff hs hb
  refine ⟨_, he, only_of_exec he (by apply execReleaseCutoff_touches <;> simp [Touches.refl]), fun p hp hout => ?_⟩
  have hmem : p ∈ s.cutMembers group.val := List.mem_filter.2 ⟨hp, by simpa using hout⟩
  have hport := lt_of_mem_members hp
  exact bit_afterExclusion group.isLt hport _ _ (bit_markExcluded group.isLt hmem hport _)

theorem releaseCutoff_fixes (group : Fin 256) (b : Batch) (s : State) (hs : s.stopped = false)
    (hb : (s.rel group.val).batches.find? (fun b => !b.cut && decide (b.at_ ≤ s.now + ns 400)) = some b) (hvote : b.explicit = false)
    (hall : (s.members group.val).filter (fun p => !s.up p || s.speed p != speedOfCode (s.relSpeed group.val)) = []) :
    let t := moveReplicas group.val (s.releaseOrder b.frames) false ((List.range 16).foldl
      (fun t k => t.wri (relPage group.val) F.rel_EXCLUDED k 0) (putBatches group.val (replaceBatch (s.rel group.val).batches
        (fun b => !b.cut && decide (b.at_ ≤ s.now + ns 400)) fun _ => { b with
          cut := true
          cutIn := some (coreCycle s.now)
          frames := s.releaseOrder b.frames
          excluded := [] }) s))
    exec (.releaseCutoff group) s = .next t ∧
      Only [.regs, .out, .ddr, .poison, .host, .latches, .palm, .timing, .ldg, .vsr, .pwc] s t := by
  intro t
  have hnone : s.cutMembers group.val = [] := hall
  have hframes : s.cutFrames group.val b = s.releaseOrder b.frames := by rw [State.cutFrames, hvote]; rfl
  have he : exec (.releaseCutoff group) s = .next t := by
    rw [exec_releaseCutoff hs hb, hnone, dropExcluded_nil, markExcluded, List.foldl_nil, fixBatch, hnone, hframes,
      if_neg (by rw [hvote]; decide)]
    rfl
  exact ⟨he, only_of_exec he (by apply execReleaseCutoff_touches <;> simp [Touches.refl])⟩

theorem releasePreempt_preempts (group : Fin 256) (s : State) (hs : s.stopped = false)
    (hany : (s.rel group.val).batches.any (fun b => b.open_ && !b.done && decide (b.at_ ≤ s.now + s.relBytes group.val 151)) = true) :
    let t := (s.members group.val).foldl (fun t p =>
      if t.preemptible p && t.palm.replicas.any fun x => x.2.port == p && x.2.phase == 3 && !x.2.waiting then preempt p t else t) s
    exec (.releasePreempt group) s = .next t ∧ Only [.regs, .palm, .vsr] s t := by
  intro t
  have he : exec (.releasePreempt group) s = .next t :=
    congrArg Host.Outcome.next ((State.running_of hs _).trans (State.given_of hany _))
  exact ⟨he, only_of_exec he (by apply execReleasePreempt_touches <;> simp [Touches.refl])⟩

theorem release_releases (group : Fin 256) (b : Batch) (s : State) (hs : s.stopped = false)
    (hb : (s.rel group.val).batches.find? (fun b => b.cut && !b.done && decide (b.at_ ≤ s.now)) = some b)
    (hfree : (s.overlaps group.val b || (!b.explicit && b.late && s.membersBusy group.val)) = false) :
    let t := release group.val b (fun b => b.cut && !b.done && decide (b.at_ ≤ s.now)) (refreshGrid group.val s)
    exec (.release group) s = .next t ∧ Only [.regs, .out, .host, .latches, .palm, .timing, .vsr, .pwc] s t := by
  intro t
  have he : exec (.release group) s = .next t := by
    rw [exec_release hs hb, hfree]
    rfl
  exact ⟨he, only_of_exec he (by apply execRelease_touches <;> simp [Touches.refl])⟩

theorem release_isPutOff (group : Fin 256) (b : Batch) (s : State) (hs : s.stopped = false)
    (hb : (s.rel group.val).batches.find? (fun b => b.cut && !b.done && decide (b.at_ ≤ s.now)) = some b)
    (hbusy : (s.overlaps group.val b || (!b.explicit && b.late && s.membersBusy group.val)) = true) :
    let t := putBatches group.val (replaceBatch (s.rel group.val).batches (fun b => b.cut && !b.done && decide (b.at_ ≤ s.now))
      fun x => { x with moved := true, late := true }) s
    exec (.release group) s = .next t ∧ Only [.regs, .out, .host, .latches, .palm, .timing, .vsr, .pwc] s t := by
  intro t
  have he : exec (.release group) s = .next t := by
    rw [exec_release hs hb, hbusy]
    rfl
  exact ⟨he, only_of_exec he (by apply execRelease_touches <;> simp [Touches.refl])⟩

theorem releaseWindowClose_drops (group : Fin 256) (b : Batch) (s : State) (hs : s.stopped = false)
    (hb : (s.rel group.val).batches.find? (fun b => b.done && !(s.palm.replicas.any fun x =>
      x.2.releaseOf == group.val + 1 && b.frames.contains x.2.frame)) = some b) :
    ∃ t, exec (.releaseWindowClose group) s = .next t ∧
      Only [.regs, .out, .host, .timing, .ldg, .pwc] s t ∧
      (t.rel group.val).batches = (s.rel group.val).batches.erase b ∧
      (t.rel group.val).held = (s.rel group.val).held := by
  obtain ⟨t, he, htiming⟩ := exec_releaseWindowClose hs hb
  refine ⟨t, he, only_of_exec he (by apply execReleaseWindowClose_touches <;> simp [Touches.refl]), ?_⟩
  rw [State.rel_congr htiming, rel_putBatches]
  exact ⟨rfl, rfl⟩

theorem dEffChange_changes (group : Fin 256) (a : T80) (p : Nat) (rest : List (T80 × Nat)) (s : State) (hs : s.stopped = false)
    (hn : (s.rel group.val).next = (a, p) :: rest) (ha : a ≤ s.now) :
    ∃ t, exec (.dEffChange group) s = .next t ∧
      Only [.regs, .timing] s t ∧
      (t.rel group.val).next = rest ∧
      (t.rel group.val).past = ((a, s.rd (relPage group.val) F.rel_RELEASE_INFO_D_EFF) :: (s.rel group.val).past).take 4 ∧
      t.rd (relPage group.val) F.rel_RELEASE_INFO_D_EFF = s.dEff group.val p % 2 ^ F.rel_RELEASE_INFO_D_EFF.w ∧
      RegsOnly [relPage group.val] s t := by
  let x : RelGroup := { s.rel group.val with
    next := rest
    past := ((a, s.rd (relPage group.val) F.rel_RELEASE_INFO_D_EFF) :: (s.rel group.val).past).take 4 }
  let t := (s.putRel group.val x).wr (relPage group.val) F.rel_RELEASE_INFO_D_EFF (s.dEff group.val p)
  have he : exec (.dEffChange group) s = .next t := by
    refine congrArg Host.Outcome.next ((State.running_of hs _).trans ?_)
    dsimp only
    rw [hn]
    exact State.given_of (decide_eq_true ha) _
  have hrec : t.rel group.val = x := State.rel_putRel _ _ _
  refine ⟨t, he, only_of_exec he (by apply execDEffChange_touches <;> simp [Touches.refl]), ?_, ?_, State.rd_wr_self _ _ _ _,
    State.wr_regsOnly (s.putRel group.val x) _ (by decide) _⟩
  · rw [hrec]
  · rw [hrec]

/-- Settles O34, command by command: past its gate each leaves the group's batches, its page or its replicas as its rule gives them.
That RELEASE_AT_WRITE opens an explicit batch by itself, and that a batch which overlaps another group's is moved and late, is the
model's deduction, log entry 74. -/
theorem releaseCommandsComplete : Obligations.ReleaseCommandsComplete := by
  unfold Obligations.ReleaseCommandsComplete
  exact ⟨releaseEnable_enables, releaseEnable_isRefused, releaseDisable_disables, releaseHold_takes, releaseAtWrite_stores,
    releaseAtWrite_schedules, releaseWindowOpen_opens, releaseCutoff_excludes, releaseCutoff_fixes, releasePreempt_preempts,
    release_releases, release_isPutOff, releaseWindowClose_drops, dEffChange_changes⟩

end Sys2Proof
end

section
/-! SUPPORT. The session engine's contexts and requesters, and what leaves them as they were (R327, R345, R349). -/

namespace Sys2Proof.Machine

/-! ## What leaves the session engine -/

theorem Touches.ses_eq {s t : State} (h : Touches (· ≠ .ses) s t) : t.ses = s.ses := h.same .ses (by simp)

@[simp] theorem State.raise_ses (s : State) (page cause : Nat) : (s.raise page cause).ses = s.ses :=
  (State.raise_touches nofun nofun nofun nofun (Touches.refl _ s)).ses_eq

@[simp] theorem State.wakeClock_ses (s : State) (page : Nat) : (s.wakeClock page).ses = s.ses := by rw [State.wakeClock_eq]

@[simp] theorem sesEvent_ses (c : Nat) (e : Event) (s : State) : (sesEvent c e s).ses = s.ses :=
  (sesEvent_touches nofun nofun nofun nofun nofun (Touches.refl _ s)).ses_eq

@[simp] theorem recomputeDdr_ses (s : State) : (recomputeDdr s).ses = s.ses :=
  (recomputeDdr_touches nofun nofun nofun nofun (Touches.refl _ s)).ses_eq

@[simp] theorem replyFrame_ses (q : RetxRequest) (n : Nat) (bs : List Byte) (s : State) : (replyFrame q n bs s).ses = s.ses :=
  (replyFrame_touches nofun nofun nofun (Touches.refl _ s)).ses_eq

@[simp] theorem dropDecided_ses (id reason item : Nat) (s : State) : (dropDecided id reason item s).ses = s.ses :=
  (dropDecided_touches nofun nofun nofun nofun nofun nofun nofun nofun nofun nofun (Touches.refl _ s)).ses_eq

/-! ## Contexts -/

theorem State.ctx_congr {s t : State} (h : t.ses = s.ses) (c : Nat) : t.ctx c = s.ctx c := by
  unfold State.ctx
  rw [h]

theorem State.ctx_putCtx (s : State) (c : Nat) (x : Ctx) (k : Nat) : (s.putCtx c x).ctx k = if k = c then x else s.ctx k :=
  SMap.val_put _ _ _ _ _

theorem State.putCtx_regsOnly (s : State) (c : Nat) (x : Ctx) : RegsOnly [0x240] s (s.putCtx c x) :=
  (RegsOnly.of_regs_eq (t := { s with ses := { s.ses with ctxs := s.ses.ctxs.put {} c x } }) _ rfl).trans
    (State.wr_regsOnly _ _ (by decide) _)

/-- The session engine is as it was but for one context, which holds a record. -/
structure PutsCtx (c : Nat) (x : Ctx) (s t : State) : Prop where
  ctx : t.ctx c = x
  others : ∀ k, k ≠ c → t.ctx k = s.ctx k
  deferred : t.ses.deferred = s.ses.deferred

section
variable {c : Nat} {x : Ctx} {s t : State}

theorem PutsCtx.refl (c : Nat) (s : State) : PutsCtx c (s.ctx c) s s := ⟨rfl, fun _ _ => rfl, rfl⟩

theorem PutsCtx.congr {u : State} (h : PutsCtx c x s t) (hu : u.ses = t.ses) : PutsCtx c x s u :=
  ⟨(State.ctx_congr hu c).trans h.ctx, fun k hk => (State.ctx_congr hu k).trans (h.others k hk), hu ▸ h.deferred⟩

theorem PutsCtx.putCtx (h : PutsCtx c x s t) (y : Ctx) : PutsCtx c y s (t.putCtx c y) :=
  ⟨(State.ctx_putCtx t c y c).trans (if_pos rfl),
    fun k hk => ((State.ctx_putCtx t c y k).trans (if_neg hk)).trans (h.others k hk), h.deferred⟩

theorem putCtx_putsCtx (c : Nat) (x : Ctx) (s : State) : PutsCtx c x s (s.putCtx c x) := (PutsCtx.refl c s).putCtx x

/-! ## Gaps -/

theorem Ctx.putGap_gap (x : Ctx) (k : Nat) : x.putGap k (x.gap k) = x :=
  match k with
  | 0 | 1 | 2 | _ + 3 => rfl

/-- A gap that ends leaves its place empty; one that is not open leaves all as it was (R336, R337). -/
theorem PutsCtx.endGap (h : PutsCtx c x s t) (k code leg : Nat) : PutsCtx c (x.putGap k none) s (endGap c k code leg t) := by
  unfold Machine.endGap
  rw [h.ctx]
  dsimp only
  cases hgap : x.gap k with
  | some g => exact (h.putCtx _).congr (sesEvent_ses _ _ _)
  | none =>
    have hsame : x.putGap k none = x := by rw [← hgap, Ctx.putGap_gap]
    exact hsame.symm ▸ h

theorem PutsCtx.endGaps (h : PutsCtx c x s t) (code leg : Nat) : PutsCtx c x.noGaps s (endGaps c code leg t) :=
  (((h.endGap 0 code leg).endGap 1 code leg).endGap 2 code leg).endGap 3 code leg

end

/-! ## Requesters -/

theorem State.requester_congr {s t : State} (h : t.ses = s.ses) (r : Nat) : t.requester r = s.requester r := by
  unfold State.requester
  rw [h]

theorem State.requester_putRequester (s : State) (r : Nat) (x : Requester) (k : Nat) :
    (s.putRequester r x).requester k = if k = r then x else s.requester k := SMap.val_put _ _ _ _ _

/-! ## Registers of page 0x240 -/

/-- The bit addresses of CMD_REFUSED and REQ_QUEUED, which no event, cause or count writes. -/
def engineKeys : List Nat :=
  [F.ses0_CTX_STATUS_CMD_REFUSED.key 0x240 0 0, F.ses0_ENGINE_STATUS_REQ_QUEUED.key 0x240 0 0]

theorem lt_of_mem_engineKeys {k : Nat} (h : k ∈ engineKeys) : k < 0x241 * 0x8000 :=
  (by decide : ∀ k ∈ engineKeys, k < 0x241 * 0x8000) k h

theorem beforeCounters_of_engineKeys (k : Nat) (hk : k ∈ engineKeys) : beforeCounters k :=
  lt_trans (lt_of_mem_engineKeys hk) (by decide)

theorem offHeader_engineKeys (page : Nat) : OffHeader (· ∈ engineKeys) page := by
  intro k hk
  have hbody : 0x400 ≤ k % 0x8000 := (by decide : ∀ k ∈ engineKeys, 0x400 ≤ k % 0x8000) k hk
  omega

theorem sesqKey_notMem (q : Nat) (f : Fld) : f.key (sesqPage q) 0 0 ∉ engineKeys := fun hk => by
  have hlt := lt_of_mem_engineKeys hk
  unfold Fld.key sesqPage at hlt
  omega

section
variable {s t : State}

theorem RegsKept.raiseEngine (h : RegsKept (· ∈ engineKeys) s t) (page : Nat) {cause : Nat} (hc : cause < 64) :
    RegsKept (· ∈ engineKeys) s (t.raise page cause) := h.raise (offHeader_engineKeys page) hc

/-- An event is written to its queue's page, and its loss there and as a cause (R347). -/
theorem RegsKept.sesEvent (h : RegsKept (· ∈ engineKeys) s t) (c : Nat) (e : Event) :
    RegsKept (· ∈ engineKeys) s (sesEvent c e t) := by
  have hlost (pg q : Nat) (hq : pg = sesqPage q) :
      RegsKept (· ∈ engineKeys) s ((t.bump pg F.sesq_EQ_STATUS_LOST).raise 0x240 5) := by
    subst hq
    exact (h.bumpi (sesqKey_notMem _ _) 1).raiseEngine _ (by decide)
  unfold Machine.sesEvent
  extract_lets q pg size tail s1
  have h1 : RegsKept (· ∈ engineKeys) s s1 := .ite (h.congr rfl) h
  refine .ite h (.ite ((hlost pg q rfl).raiseEngine _ (by decide)) (.ite (hlost pg q rfl) ?_))
  split
  exact (RegsKept.wr (t := s1.send _) (h1.congr rfl) (sesqKey_notMem q _) _).vector _

theorem RegsKept.putCtx (h : RegsKept (· ∈ engineKeys) s t) (c : Nat) (x : Ctx) :
    RegsKept (· ∈ engineKeys) s (t.putCtx c x) := RegsKept.wr (h.congr rfl) (by decide) _

theorem RegsKept.endGap (h : RegsKept (· ∈ engineKeys) s t) (c k code leg : Nat) :
    RegsKept (· ∈ engineKeys) s (endGap c k code leg t) := by
  unfold Machine.endGap
  dsimp only
  split
  · exact (h.putCtx _ _).sesEvent _ _
  · exact h

theorem RegsKept.endGaps (h : RegsKept (· ∈ engineKeys) s t) (c code leg : Nat) :
    RegsKept (· ∈ engineKeys) s (endGaps c code leg t) := h.foldl fun _ k _ hu => hu.endGap c k code leg

theorem RegsKept.replyFrame (h : RegsKept (· ∈ engineKeys) s t) (q : RetxRequest) (n : Nat) (bs : List Byte) :
    RegsKept (· ∈ engineKeys) s (replyFrame q n bs t) := by
  unfold Machine.replyFrame
  refine RegsKept.countEvent ?_ beforeCounters_of_engineKeys _ _ _ _
  exact h.congr rfl

end

end Sys2Proof.Machine
end

section
/-! SUPPORT. The acts of the session engine in their cycle, and the commands of CTX_CMD among them (R328, R339). -/

namespace Sys2Proof.Machine

/-! ## Acts -/

/-- The parts of the state that an act of the engine may move. -/
def sesPieces : List Piece := [.regs, .free, .out, .ddr, .poison, .host, .latches, .tbl, .palm, .ses, .ldg, .vsr, .mtn]

/-- An act put with those that wait, behind them. -/
def State.deferSes (s : State) (a : SesAct) : State := { s with ses := { s.ses with deferred := s.ses.deferred ++ [a] } }

theorem endSession_of_noneDeferred {s : State} (h : s.ses.deferred = []) : endSession s = s := by
  unfold endSession
  rw [h]
  split
  · rfl
  · rfl

theorem sesAct_acts {a : SesAct} {s : State} (h : s.sesWaits a = false) : sesAct a s = endSession (runSes a s) := by
  unfold sesAct
  rw [h]
  rfl

theorem sesAct_waits {a : SesAct} {s : State} (h : s.sesWaits a = true) : sesAct a s = endSession (s.deferSes a) := by
  unfold sesAct
  rw [h]
  rfl

theorem only_of_sesAct {a : SesAct} {s u t : State} (hu : Touches (· ∈ sesPieces) s u) (ht : sesAct a u = t) :
    Only sesPieces s t :=
  ht ▸ (sesAct_touches (by decide) (by decide) (by decide) (by decide) (by decide) (by decide) (by decide) (by decide) (by decide)
    (by decide) (by decide) (by decide) (by decide) hu).only

section
variable {i : Instr} {a : SesAct} {s u t : State} (he : exec i s = .next (sesAct a u)) (hu : Touches (· ∈ sesPieces) s u)
include he hu

/-- A command whose meaning is an act that need not wait does it, and then the cycle may end. -/
theorem exec_sesActs (hw : u.sesWaits a = false) (hr : runSes a u = t) :
    exec i s = .next (endSession t) ∧ Only sesPieces s (endSession t) := by
  have ht : sesAct a u = endSession t := by rw [sesAct_acts hw, hr]
  exact ⟨he.trans (congrArg _ ht), only_of_sesAct hu ht⟩

/-- With none that waits before or after it, nothing comes behind the act. -/
theorem exec_sesActs_alone (hw : u.sesWaits a = false) (hr : runSes a u = t) (hd : t.ses.deferred = []) :
    exec i s = .next t ∧ Only sesPieces s t := by
  have h := exec_sesActs he hu hw hr
  rwa [endSession_of_noneDeferred hd] at h

theorem exec_sesWaits (hw : u.sesWaits a = true) :
    exec i s = .next (endSession (u.deferSes a)) ∧ Only sesPieces s (endSession (u.deferSes a)) :=
  ⟨he.trans (congrArg _ (sesAct_waits hw)), only_of_sesAct hu (sesAct_waits hw)⟩

end

/-! ## What each command does -/

/-- The record of a context that ARM starts: it runs from SEQ_SET, or learns its number (R327). -/
def Ctx.armed (x : Ctx) : Ctx :=
  { x.noGaps with
    state := if x.fixed then 2 else 1
    activeB := false
    heardA := none
    heardB := none
    expected := if x.fixed then x.seqSet else x.expected
    lastA := 0
    lastB := 0
    seen := 0 }

/-- The context that CTX_SEL selects (R349). -/
def State.selected (s : State) : Nat := s.rd 0x240 F.ses0_CTX_SEL

section
variable {c : Nat} {s : State}

/-! A command of the selected context ends with CMD_BUSY at 0 (R328). -/

theorem ctxCommand_arm (h : c = s.selected) : ctxCommand 1 c s = (ctxArm c s).wr 0x240 F.ses0_CTX_STATUS_CMD_BUSY 0 := if_pos h

theorem ctxCommand_disable (h : c = s.selected) : ctxCommand 2 c s = (ctxDisable c s).wr 0x240 F.ses0_CTX_STATUS_CMD_BUSY 0 :=
  if_pos h

theorem ctxCommand_setExpected (h : c = s.selected) : ctxCommand 3 c s = (setExpected c s).wr 0x240 F.ses0_CTX_STATUS_CMD_BUSY 0 :=
  if_pos h

theorem ctxCommand_clearGaps (h : c = s.selected) : ctxCommand 4 c s = (clearGaps c s).wr 0x240 F.ses0_CTX_STATUS_CMD_BUSY 0 :=
  if_pos h

theorem onContext_of_accepted {accepted : Ctx → Bool} (h : accepted (s.ctx c) = true) (f : Nat → Ctx → State → State) :
    onContext c accepted f s = f c (s.ctx c) s := if_pos h

theorem onContext_of_refused {accepted : Ctx → Bool} (h : accepted (s.ctx c) = false) (f : Nat → Ctx → State → State) :
    onContext c accepted f s = ctxRefused c s := if_neg (Bool.eq_false_iff.1 h)

theorem ctxArm_of_armable (h : s.armable (s.ctx c) = true) : ctxArm c s = recomputeDdr (s.putCtx c (s.ctx c).armed) :=
  onContext_of_accepted h _

theorem ctxDisable_of_started (h : (s.ctx c).state ≠ 0) :
    ctxDisable c s = recomputeDdr (s.putCtx c { (s.ctx c).noGaps with state := 0 }) :=
  onContext_of_accepted (accepted := fun x => x.state != 0) (bne_iff_ne.2 h) _

theorem setExpected_of_running (h : (s.ctx c).state = 2) :
    setExpected c s = endGaps c 0x05 0xFF (s.putCtx c { s.ctx c with expected := (s.ctx c).seqSet, seen := 0 }) :=
  onContext_of_accepted (accepted := fun x => x.state == 2) (beq_iff_eq.2 h) _

theorem clearGaps_of_running (h : (s.ctx c).state = 2) : clearGaps c s = endGaps c 0x05 0xFF s :=
  onContext_of_accepted (accepted := fun x => x.state == 2) (beq_iff_eq.2 h) _

end

/-! ## CTX_CMD -/

/-- Page 0x240 woken, and CMD_BUSY set: the state that a command of CTX_CMD meets (R328). -/
def State.begun (s : State) : State := (s.wakeClock 0x240).wr 0x240 F.ses0_CTX_STATUS_CMD_BUSY 1

section
variable (s : State)

theorem State.begun_touches : Touches (· ∈ sesPieces) s s.begun :=
  State.wr_touches (by decide) (State.wakeClock_touches (by decide) (Touches.refl _ s))

theorem State.begun_ses : s.begun.ses = s.ses := State.wakeClock_ses s 0x240

theorem State.ctx_begun (c : Nat) : s.begun.ctx c = s.ctx c := State.ctx_congr s.begun_ses c

theorem State.selected_begun : s.begun.selected = s.selected :=
  (State.rd_wr_of_place_ne _ _ (by decide)).trans (State.rd_wakeClock s _ _ _)

theorem State.begun_regsOnly : RegsOnly [0x240] s s.begun :=
  (RegsOnly.of_regs_eq _ (State.wakeClock_regs s 0x240)).trans (State.wr_regsOnly _ _ (by decide) _)

theorem State.on_begun_refused : s.begun.on 0x240 F.ses0_CTX_STATUS_CMD_REFUSED = s.on 0x240 F.ses0_CTX_STATUS_CMD_REFUSED := by
  rw [State.on, State.begun, State.rd_wr_of_place_ne _ _ (by decide), State.rd_wakeClock, State.on]

/-- What waits in this cycle depends on neither registers nor power domains. -/
theorem State.sesWaits_begun (a : SesAct) : s.begun.sesWaits a = s.sesWaits a := by
  rw [State.begun, State.wakeClock_eq]
  rfl

theorem State.ddrFailed_wakeClock (page : Nat) : (s.wakeClock page).ddrFailed = s.ddrFailed := by
  have hdom (c : Nat) : ((s.wakeClock page).mtn.doms.val {} c).failed = (s.mtn.doms.val {} c).failed := by
    unfold State.wakeClock
    split
    · dsimp only
      split
      · rw [SMap.val_put]
        split
        · next hc => rw [hc]
        · rfl
      · rfl
    · rfl
  unfold State.ddrFailed
  rw [State.rd_wakeClock]
  simp only [hdom]

theorem State.ddrFailed_begun : s.begun.ddrFailed = s.ddrFailed := by
  refine Eq.trans ?_ (s.ddrFailed_wakeClock 0x240)
  unfold State.ddrFailed State.begun
  rw [State.rd_wr_of_ne _ _ (by decide)]
  rfl

/-- ARM's conditions are those of the state before CMD_BUSY was set (R328). -/
theorem State.armable_begun (x : Ctx) : s.begun.armable x = s.armable x := by
  have hconf (p : Nat) : s.begun.configured p = s.configured p := by
    have hkey : F.hdr_PAGE_STATUS_CONFIGURED.key (prt p) 0 0 ≠ F.ses0_CTX_STATUS_CMD_BUSY.key 0x240 0 0 := by
      simp only [Fld.key, F.hdr_PAGE_STATUS_CONFIGURED, F.ses0_CTX_STATUS_CMD_BUSY]
      omega
    rw [State.configured, State.on, State.begun, State.rd_wr_of_ne _ _ hkey, State.rd_wakeClock]
    rfl
  have hregion (f : Fld) (hf : (f.off + f.stride * 2) * 8 + f.lo < 0x8000) : s.begun.rdi 0x340 f 2 = s.rdi 0x340 f 2 := by
    have hkey : f.key 0x340 2 0 ≠ F.ses0_CTX_STATUS_CMD_BUSY.key 0x240 0 0 := by
      simp only [Fld.key, F.ses0_CTX_STATUS_CMD_BUSY]
      omega
    exact (State.rdx_wrx_of_ne _ _ hkey).trans (State.rdi_wakeClock s _ _ _ _)
  unfold State.armable State.inRegion
  rw [hconf, hconf, hregion _ (by decide), hregion _ (by decide), s.ddrFailed_begun]

end

/-- A command sets CMD_REFUSED of the selected context and, besides that, moves registers of page 0x240 alone (R328). -/
def IsRefused (i : Instr) (s : State) : Prop :=
  ∃ t, exec i s = .next t ∧ Only sesPieces s t ∧ t.ctx s.selected = { s.ctx s.selected with refused := true } ∧
    (∀ c, c ≠ s.selected → t.ctx c = s.ctx c) ∧ t.rd 0x240 F.ses0_CTX_STATUS_CMD_REFUSED = 1 ∧ RegsOnly [0x240] s t

section
variable {i : Instr} {op : Nat} {s : State}

/-- Past the gates of its page a command of CTX_CMD is an act on the selected context (R328). -/
theorem exec_ctxCommand (he : exec i s = .next (s.written 0x240 (writeCtxCmd op))) (hop : 1 ≤ op ∧ op ≤ 4)
    (hs : s.stopped = false) (hsh : s.shut 0x240 = false) : exec i s = .next (sesAct (.command op s.selected) s.begun) := by
  refine he.trans (congrArg _ ((State.written_of hs hsh _).trans ?_))
  unfold writeCtxCmd
  rw [if_pos hop, State.rd_wakeClock]
  rfl

variable (he : exec i s = .next (sesAct (.command op s.selected) s.begun))
include he

theorem exec_command_acts (hw : s.sesWaits (.command op s.selected) = false) :
    exec i s = .next (endSession (ctxCommand op s.selected s.begun)) ∧
      Only sesPieces s (endSession (ctxCommand op s.selected s.begun)) :=
  exec_sesActs he s.begun_touches ((s.sesWaits_begun _).trans hw) rfl

theorem exec_command_waits (hw : s.sesWaits (.command op s.selected) = true) :
    let t := { s.begun with ses := { s.ses with deferred := s.ses.deferred ++ [.command op s.selected] } }
    exec i s = .next (endSession t) ∧ Only sesPieces s (endSession t) := by
  rw [← s.begun_ses]
  exact exec_sesWaits he s.begun_touches ((s.sesWaits_begun _).trans hw)

/-- A command that leaves the selected context with a record, and with it CMD_BUSY at 0. -/
theorem exec_command_puts (hw : s.sesWaits (.command op s.selected) = false) (hd : s.ses.deferred = []) {v : State} {x : Ctx}
    (hv : ctxCommand op s.selected s.begun = v.wr 0x240 F.ses0_CTX_STATUS_CMD_BUSY 0) (hp : PutsCtx s.selected x s.begun v) :
    let t := v.wr 0x240 F.ses0_CTX_STATUS_CMD_BUSY 0
    exec i s = .next t ∧ Only sesPieces s t ∧ t.ctx s.selected = x ∧ (∀ c, c ≠ s.selected → t.ctx c = s.ctx c) ∧
      t.rd 0x240 F.ses0_CTX_STATUS_CMD_BUSY = 0 := by
  intro t
  have hdt : t.ses.deferred = [] := hp.deferred.trans (s.begun_ses ▸ hd)
  obtain ⟨hexec, honly⟩ := exec_sesActs_alone he s.begun_touches ((s.sesWaits_begun _).trans hw) hv hdt
  exact ⟨hexec, honly, hp.ctx, fun c hc => (hp.others c hc).trans (s.ctx_begun c), State.rd_wr_self _ _ _ _⟩

/-- A command that ends the selected context's gaps leaves CMD_REFUSED as it was. -/
theorem exec_command_endsGaps (hw : s.sesWaits (.command op s.selected) = false) (hd : s.ses.deferred = []) {w : State} {x : Ctx}
    (hv : ctxCommand op s.selected s.begun = (endGaps s.selected 0x05 0xFF w).wr 0x240 F.ses0_CTX_STATUS_CMD_BUSY 0)
    (hp : PutsCtx s.selected x s.begun w) (hk : RegsKept (· ∈ engineKeys) s.begun w) :
    ∃ t, exec i s = .next t ∧ Only sesPieces s t ∧ t.ctx s.selected = x.noGaps ∧
      (∀ c, c ≠ s.selected → t.ctx c = s.ctx c) ∧
      (s.on 0x240 F.ses0_CTX_STATUS_CMD_REFUSED = false → t.on 0x240 F.ses0_CTX_STATUS_CMD_REFUSED = false) ∧
      t.rd 0x240 F.ses0_CTX_STATUS_CMD_BUSY = 0 := by
  obtain ⟨hexec, honly, hctx, hothers, hbusy⟩ := exec_command_puts he hw hd hv (hp.endGaps 0x05 0xFF)
  refine ⟨_, hexec, honly, hctx, hothers, fun hr => ?_, hbusy⟩
  rw [((hk.endGaps s.selected 0x05 0xFF).wr (by decide) 0).on (by decide), s.on_begun_refused, hr]

/-- A command that its context does not accept sets CMD_REFUSED and changes nothing else (R328). -/
theorem exec_command_refuses (hw : s.sesWaits (.command op s.selected) = false) (hd : s.ses.deferred = [])
    {accepted : Ctx → Bool} {f : Nat → Ctx → State → State}
    (hv : ctxCommand op s.selected s.begun = (onContext s.selected accepted f s.begun).wr 0x240 F.ses0_CTX_STATUS_CMD_BUSY 0)
    (ha : accepted (s.ctx s.selected) = false) :
    IsRefused i s := by
  have hr : ctxRefused s.selected s.begun =
      (s.begun.putCtx s.selected { s.ctx s.selected with refused := true }).set1 0x240 F.ses0_CTX_STATUS_CMD_REFUSED := by
    unfold ctxRefused
    rw [s.ctx_begun]
    exact if_pos s.selected_begun.symm
  rw [onContext_of_refused (by rw [s.ctx_begun, ha]), hr] at hv
  obtain ⟨hexec, honly, hctx, hothers, -⟩ := exec_command_puts he hw hd hv ((putCtx_putsCtx _ _ _).congr (State.set1_ses _ _ _))
  refine ⟨_, hexec, honly, hctx, hothers, ?_, ?_⟩
  · rw [State.rd_wr_of_place_ne _ _ (by decide), State.rd_set1_self]
    rfl
  · exact ((s.begun_regsOnly.trans (State.putCtx_regsOnly _ _ _)).trans (set1_regsOnly _ _ (by decide))).wr (by decide) 0

end

end Sys2Proof.Machine
end

section
/-! PROOF. O35: the commands of CTX_CMD (R327, R328). -/

namespace Sys2Proof

open Sys2Proof.Machine

section
variable (s : State) (hs : s.stopped = false) (hsh : s.shut 0x240 = false)
include hs hsh

theorem disable_stops (hst : (s.ctx s.selected).state ≠ 0) (hw : s.sesWaits (.command 2 s.selected) = false)
    (hd : s.ses.deferred = []) :
    ∃ t, exec .disable s = .next t ∧ Only sesPieces s t ∧ t.ctx s.selected = { (s.ctx s.selected).noGaps with state := 0 } ∧
      (∀ c, c ≠ s.selected → t.ctx c = s.ctx c) ∧ t.rd 0x240 F.ses0_CTX_STATUS_CMD_BUSY = 0 := by
  have hp : PutsCtx s.selected { (s.ctx s.selected).noGaps with state := 0 } s.begun (ctxDisable s.selected s.begun) := by
    rw [ctxDisable_of_started ((s.ctx_begun _).symm ▸ hst), s.ctx_begun]
    exact (putCtx_putsCtx _ _ _).congr (recomputeDdr_ses _)
  exact ⟨_, exec_command_puts (exec_ctxCommand (i := .disable) rfl (by decide) hs hsh) hw hd
    (ctxCommand_disable s.selected_begun.symm) hp⟩

theorem disable_isRefused (hw : s.sesWaits (.command 2 s.selected) = false) (hd : s.ses.deferred = [])
    (hst : (s.ctx s.selected).state = 0) : IsRefused .disable s :=
  exec_command_refuses (exec_ctxCommand rfl (by decide) hs hsh) hw hd (ctxCommand_disable s.selected_begun.symm)
    (bne_eq_false_iff_eq.2 hst)

theorem contextArm_starts (ha : s.armable (s.ctx s.selected) = true) (hw : s.sesWaits (.command 1 s.selected) = false)
    (hd : s.ses.deferred = []) :
    ∃ t, exec .contextArm s = .next t ∧ Only sesPieces s t ∧
      (t.ctx s.selected).state = (if (s.ctx s.selected).fixed then 2 else 1) ∧
      (t.ctx s.selected).expected =
        (if (s.ctx s.selected).fixed then (s.ctx s.selected).seqSet else (s.ctx s.selected).expected) ∧
      (t.ctx s.selected).gap0 = none ∧
      (∀ c, c ≠ s.selected → t.ctx c = s.ctx c) ∧ t.rd 0x240 F.ses0_CTX_STATUS_CMD_BUSY = 0 := by
  have hp : PutsCtx s.selected (s.ctx s.selected).armed s.begun (ctxArm s.selected s.begun) := by
    rw [ctxArm_of_armable (by rw [s.ctx_begun, s.armable_begun, ha]), s.ctx_begun]
    exact (putCtx_putsCtx _ _ _).congr (recomputeDdr_ses _)
  obtain ⟨he, honly, hctx, hothers, hbusy⟩ := exec_command_puts
    (exec_ctxCommand (i := .contextArm) rfl (by decide) hs hsh) hw hd (ctxCommand_arm s.selected_begun.symm) hp
  refine ⟨_, he, honly, ?_, ?_, ?_, hothers, hbusy⟩
  all_goals
    rw [hctx]
    rfl

theorem contextArm_isRefused (hw : s.sesWaits (.command 1 s.selected) = false) (hd : s.ses.deferred = [])
    (ha : s.armable (s.ctx s.selected) = false) : IsRefused .contextArm s :=
  exec_command_refuses (exec_ctxCommand rfl (by decide) hs hsh) hw hd (ctxCommand_arm s.selected_begun.symm)
    ((s.armable_begun _).trans ha)

theorem setExpected_sets (hst : (s.ctx s.selected).state = 2) (hw : s.sesWaits (.command 3 s.selected) = false)
    (hd : s.ses.deferred = []) :
    ∃ t, exec .setExpected s = .next t ∧ Only sesPieces s t ∧
      t.ctx s.selected = { (s.ctx s.selected).noGaps with expected := (s.ctx s.selected).seqSet, seen := 0 } ∧
      (∀ c, c ≠ s.selected → t.ctx c = s.ctx c) ∧
      (s.on 0x240 F.ses0_CTX_STATUS_CMD_REFUSED = false → t.on 0x240 F.ses0_CTX_STATUS_CMD_REFUSED = false) ∧
      t.rd 0x240 F.ses0_CTX_STATUS_CMD_BUSY = 0 := by
  have hv := ctxCommand_setExpected s.selected_begun.symm
  rw [setExpected_of_running ((s.ctx_begun _).symm ▸ hst), s.ctx_begun] at hv
  exact exec_command_endsGaps (exec_ctxCommand rfl (by decide) hs hsh) hw hd hv (putCtx_putsCtx _ _ _)
    ((RegsKept.refl _ s.begun).putCtx _ _)

theorem setExpected_isRefused (hw : s.sesWaits (.command 3 s.selected) = false) (hd : s.ses.deferred = [])
    (hst : (s.ctx s.selected).state ≠ 2) : IsRefused .setExpected s :=
  exec_command_refuses (exec_ctxCommand rfl (by decide) hs hsh) hw hd (ctxCommand_setExpected s.selected_begun.symm)
    (beq_eq_false_iff_ne.2 hst)

theorem clearGaps_clears (hst : (s.ctx s.selected).state = 2) (hw : s.sesWaits (.command 4 s.selected) = false)
    (hd : s.ses.deferred = []) :
    ∃ t, exec .clearGaps s = .next t ∧ Only sesPieces s t ∧ t.ctx s.selected = (s.ctx s.selected).noGaps ∧
      (∀ c, c ≠ s.selected → t.ctx c = s.ctx c) ∧
      (s.on 0x240 F.ses0_CTX_STATUS_CMD_REFUSED = false → t.on 0x240 F.ses0_CTX_STATUS_CMD_REFUSED = false) ∧
      t.rd 0x240 F.ses0_CTX_STATUS_CMD_BUSY = 0 := by
  have hv := ctxCommand_clearGaps s.selected_begun.symm
  rw [clearGaps_of_running ((s.ctx_begun _).symm ▸ hst)] at hv
  exact exec_command_endsGaps (exec_ctxCommand rfl (by decide) hs hsh) hw hd hv (s.ctx_begun _ ▸ PutsCtx.refl _ s.begun)
    (RegsKept.refl _ s.begun)

theorem clearGaps_isRefused (hw : s.sesWaits (.command 4 s.selected) = false) (hd : s.ses.deferred = [])
    (hst : (s.ctx s.selected).state ≠ 2) : IsRefused .clearGaps s :=
  exec_command_refuses (exec_ctxCommand rfl (by decide) hs hsh) hw hd (ctxCommand_clearGaps s.selected_begun.symm)
    (beq_eq_false_iff_ne.2 hst)

end

end Sys2Proof
end

section
/-! SUPPORT. The windows of the session engine's contexts and requesters (R349). -/

namespace Sys2Proof

open Sys2Proof.Machine

/-- Fields of one page written in turn. -/
theorem RegsOnly.foldl_wr {α : Type} {s t : State} {page : Nat} (h : RegsOnly [page] s t) {l : List α} {f : α → Fld}
    (hf : ∀ x ∈ l, (f x).off * 8 + (f x).lo < 0x8000) (v : α → Nat) :
    RegsOnly [page] s (l.foldl (fun u x => u.wr page (f x) (v x)) t) :=
  RegsKept.foldl h fun _ x hx hu => RegsOnly.wr hu (hf x hx) _

end Sys2Proof

namespace Sys2Proof.Machine

theorem range_four : List.range 4 = [0, 1, 2, 3] := rfl

/-- The selected context's STATE and EXPECTED are shown, and its selection stands. -/
theorem rd_showCtx (c : Nat) (s : State) :
    (showCtx c s).rd 0x240 F.ses0_CTX_SEL = s.rd 0x240 F.ses0_CTX_SEL ∧
      (showCtx c s).rd 0x240 F.ses0_CTX_STATUS_STATE = (s.ctx c).state % 2 ^ F.ses0_CTX_STATUS_STATE.w ∧
      (showCtx c s).rd 0x240 F.ses0_EXPECTED = (s.ctx c).expected % 2 ^ F.ses0_EXPECTED.w := by
  simp (disch := decide) only [showCtx, range_four, List.foldl_cons, List.foldl_nil, State.rd, State.wr, State.wri,
    State.rdx_wrx_of_ne, State.rdx_wrx_self, and_self]

theorem showCtx_regsOnly (c : Nat) (s : State) : RegsOnly [0x240] s (showCtx c s) := by
  have hgap {f : Fld} {k : Nat} (hk : k ∈ List.range 4) (hf : ∀ k ∈ List.range 4, (f.off + f.stride * k) * 8 + f.lo < 0x8000)
      {t : State} (h : RegsOnly [0x240] s t) (v : Nat) : RegsOnly [0x240] s (t.wri 0x240 f k v) :=
    h.trans (State.wri_regsOnly t 0x240 (hf k hk) v)
  unfold showCtx
  dsimp only
  refine RegsKept.foldl ?_ fun u k hk hu => hgap hk (by decide) (hgap hk (by decide) (hgap hk (by decide) (hgap hk (by decide)
    (hgap hk (by decide) hu _) _) _) _) _
  refine RegsOnly.foldl_wr (.foldl_wr (.foldl_wr (RegsOnly.refl _ s) ?_ _) ?_ _) ?_ _
  · decide
  · decide
  · simp only [List.forall_mem_cons]
    decide

theorem rd_showRequester (r : Nat) (s : State) :
    (showRequester r s).rd 0x240 F.ses0_REQ_SEL = s.rd 0x240 F.ses0_REQ_SEL ∧
      (showRequester r s).rd 0x240 F.ses0_REQ_STATUS_TOKENS = (s.requester r).tokens % 2 ^ F.ses0_REQ_STATUS_TOKENS.w := by
  simp (disch := decide) only [showRequester, List.foldl_cons, List.foldl_nil, State.rd_wr_of_place_ne, State.rd_wr_self, and_self]

theorem showRequester_regsOnly (r : Nat) (s : State) : RegsOnly [0x240] s (showRequester r s) := by
  refine RegsOnly.foldl_wr (RegsOnly.refl _ s) ?_ _
  simp only [List.forall_mem_cons]
  decide

end Sys2Proof.Machine
end

section
/-! PROOF. O35: the windows of the contexts and of the requesters (R349). -/

namespace Sys2Proof

open Sys2Proof.Machine

theorem exec_ctxSelWrite (requester : Bool) (index : Fin 8192) (s : State) (hs : s.stopped = false) (hsh : s.shut 0x240 = false) :
    let t := if requester = true then showRequester (index.val % 4096) ((s.wakeClock 0x240).wr 0x240 F.ses0_REQ_SEL index.val)
      else showCtx index.val ((s.wakeClock 0x240).wr 0x240 F.ses0_CTX_SEL index.val)
    exec (.ctxSelWrite requester index) s = .next t ∧ Only [.regs, .latches, .mtn] s t ∧ t.ses = s.ses := by
  intro t
  have he : exec (.ctxSelWrite requester index) s = .next t := congrArg Host.Outcome.next (State.written_of hs hsh _)
  have honly : Only [.regs, .latches, .mtn] s t := only_of_exec he (by apply execCtxSelWrite_touches <;> simp [Touches.refl])
  exact ⟨he, honly, honly .ses (by decide)⟩

theorem ctxSelWrite_showsContext (index : Fin 8192) (s : State) (hs : s.stopped = false) (hsh : s.shut 0x240 = false) :
    ∃ t, exec (.ctxSelWrite false index) s = .next t ∧
      Only [.regs, .latches, .mtn] s t ∧
      t.rd 0x240 F.ses0_CTX_SEL = index.val ∧
      t.rd 0x240 F.ses0_CTX_STATUS_STATE = (s.ctx index.val).state % 2 ^ F.ses0_CTX_STATUS_STATE.w ∧
      t.rd 0x240 F.ses0_EXPECTED = (s.ctx index.val).expected % 2 ^ F.ses0_EXPECTED.w ∧
      RegsOnly [0x240] s t := by
  have he := (exec_ctxSelWrite false index s hs hsh).left
  rw [if_neg Bool.false_ne_true] at he
  have hwoken : RegsOnly [0x240] s ((s.wakeClock 0x240).wr 0x240 F.ses0_CTX_SEL index.val) :=
    (RegsOnly.of_regs_eq _ (State.wakeClock_regs _ _)).wr (by decide) _
  obtain ⟨hsel, hstate, hexpected⟩ := rd_showCtx index.val ((s.wakeClock 0x240).wr 0x240 F.ses0_CTX_SEL index.val)
  have hctx : ((s.wakeClock 0x240).wr 0x240 F.ses0_CTX_SEL index.val).ctx index.val = s.ctx index.val :=
    State.ctx_congr (State.wakeClock_ses s 0x240) _
  rw [State.rd_wr_self] at hsel
  rw [hctx] at hstate hexpected
  exact ⟨_, he, only_of_exec he (by apply execCtxSelWrite_touches <;> simp [Touches.refl]),
    hsel.trans (Nat.mod_eq_of_lt index.isLt), hstate, hexpected, hwoken.trans (showCtx_regsOnly _ _)⟩

theorem ctxSelWrite_showsRequester (index : Fin 8192) (s : State) (hs : s.stopped = false) (hsh : s.shut 0x240 = false)
    (hi : index.val < 4096) :
    ∃ t, exec (.ctxSelWrite true index) s = .next t ∧
      Only [.regs, .latches, .mtn] s t ∧
      t.rd 0x240 F.ses0_REQ_SEL = index.val ∧
      t.rd 0x240 F.ses0_REQ_STATUS_TOKENS = (s.requester index.val).tokens % 2 ^ F.ses0_REQ_STATUS_TOKENS.w ∧
      RegsOnly [0x240] s t := by
  have he := (exec_ctxSelWrite true index s hs hsh).left
  rw [if_pos rfl] at he
  have hwoken : RegsOnly [0x240] s ((s.wakeClock 0x240).wr 0x240 F.ses0_REQ_SEL index.val) :=
    (RegsOnly.of_regs_eq _ (State.wakeClock_regs _ _)).wr (by decide) _
  obtain ⟨hsel, htokens⟩ := rd_showRequester (index.val % 4096) ((s.wakeClock 0x240).wr 0x240 F.ses0_REQ_SEL index.val)
  have hreq : ((s.wakeClock 0x240).wr 0x240 F.ses0_REQ_SEL index.val).requester (index.val % 4096) = s.requester index.val := by
    rw [Nat.mod_eq_of_lt hi]
    exact State.requester_congr (State.wakeClock_ses s 0x240) _
  rw [State.rd_wr_self] at hsel
  rw [hreq] at htokens
  exact ⟨_, he, only_of_exec he (by apply execCtxSelWrite_touches <;> simp [Touches.refl]),
    hsel.trans (Nat.mod_eq_of_lt hi), htokens, hwoken.trans (showRequester_regsOnly _ _)⟩

end Sys2Proof
end

section
/-! PROOF. O35: the evaluations of legs and gaps, and a context lost (R333, R337, R348). -/

namespace Sys2Proof.Machine

theorem evalLegs_of_disabled {c : Nat} {s : State} (h : (s.ctx c).state = 0) : evalLegs c s = s :=
  if_neg fun hne => bne_iff_ne.1 hne h

/-- Leg A marked DOWN, with its event and its cause (R333). -/
def legADown (c : Nat) (s : State) : State :=
  (sesEvent c { code := 0x07, leg := legCode false } (s.putCtx c ((s.ctx c).putHeard false none))).raise 0x240 4

/-- Outside an ORDER context a silent leg goes DOWN and the other one stays as it is (R332, R333). -/
theorem evalLegs_of_silentA {c : Nat} {s : State} (hst : (s.ctx c).state ≠ 0) (horder : (s.ctx c).order = false)
    (ha : s.silent (s.ctx c) false = true) (hb : s.silent (s.ctx c) true = false) : evalLegs c s = legADown c s := by
  unfold evalLegs
  extract_lets x down
  have hdown : down true (down false s) = legADown c s := (if_neg (Bool.eq_false_iff.1 hb)).trans (if_pos ha)
  rw [State.given_of (bne_iff_ne.2 hst)]
  extract_lets s1 y
  exact (if_neg fun hactive => Bool.eq_false_iff.1 horder hactive.left).trans hdown

theorem legADown_puts (c : Nat) (s : State) : PutsCtx c ((s.ctx c).putHeard false none) s (legADown c s) :=
  ((putCtx_putsCtx c _ s).congr (sesEvent_ses _ _ _)).congr (State.raise_ses _ _ _)

/-- Without GAP_TIMEOUT_US no gap is too old (R337). -/
theorem evalGaps_of_noTimeout {c : Nat} {s : State} (h : (s.ctx c).gapTimeout = 0) : evalGaps c s = s := by
  unfold evalGaps
  extract_lets x
  refine List.foldlRecOn (motive := fun t : State => t = s) _ _ rfl fun t ht k _ => ?_
  split
  · rw [if_neg fun hold => hold.left h, ht]
  · exact ht

/-- A context lost restarts behind the frame's number (R348). -/
def Ctx.restarted (x : Ctx) (f : Frame) : Ctx :=
  { x.noGaps with
    state := 2
    expected := (f.sseq + 1) % 2 ^ 64
    seen := 0 }

theorem State.onFrame_of {id : Nat} {f : Frame} {s : State} (hf : s.frame? id = some f) (g : Frame → State → State) :
    s.onFrame id g = g f s := by
  unfold State.onFrame
  rw [hf]

theorem loseContext_puts {id : Nat} {f : Frame} {s : State} (hf : s.frame? id = some f) (hses : f.session = 1) :
    PutsCtx f.ctx ((s.ctx f.ctx).restarted f) s (loseContext id s) := by
  unfold loseContext
  rw [State.onFrame_of hf]
  rw [State.given_of (beq_iff_eq.2 hses)]
  extract_lets x n src s1 s2 all
  have h1 : PutsCtx f.ctx ((s.ctx f.ctx).restarted f) s s1 := (putCtx_putsCtx f.ctx _ s).congr (recomputeDdr_ses _)
  have h2 : PutsCtx f.ctx ((s.ctx f.ctx).restarted f) s s2 := (h1.congr (sesEvent_ses _ _ _)).congr (State.raise_ses _ _ _)
  exact List.foldlRecOn (motive := fun t => PutsCtx f.ctx ((s.ctx f.ctx).restarted f) s t) _ _ h2
    fun t ht id _ => ht.congr (dropDecided_ses id 0xD5 255 t)

end Sys2Proof.Machine

namespace Sys2Proof

open Sys2Proof.Machine

section
variable {s : State} (hs : s.stopped = false)
include hs

theorem exec_legDown (context : Fin 8192) : exec (.legDown context) s = .next (sesAct (.legs context.val) s) :=
  congrArg Host.Outcome.next (State.running_of hs _)

theorem exec_gapExpired (context : Fin 8192) : exec (.gapExpired context) s = .next (sesAct (.gaps context.val) s) :=
  congrArg Host.Outcome.next (State.running_of hs _)

theorem exec_contextLost (frame : Nat) : exec (.contextLost frame) s = .next (sesAct (.lost frame) s) :=
  congrArg Host.Outcome.next (State.running_of hs _)

end

theorem legDown_evaluates (context : Fin 8192) (s : State) (hs : s.stopped = false) (hw : s.sesWaits (.legs context.val) = false) :
    exec (.legDown context) s = .next (endSession (evalLegs context.val s)) ∧
      Only sesPieces s (endSession (evalLegs context.val s)) ∧
      ((s.ctx context.val).state = 0 → s.ses.deferred = [] → endSession (evalLegs context.val s) = s) := by
  obtain ⟨he, honly⟩ := exec_sesActs (exec_legDown hs context) (Touches.refl _ s) hw rfl
  refine ⟨he, honly, fun hst hd => ?_⟩
  rw [evalLegs_of_disabled hst, endSession_of_noneDeferred hd]

theorem legDown_marksLegA (context : Fin 8192) (s : State) (hs : s.stopped = false) (hw : s.sesWaits (.legs context.val) = false)
    (hd : s.ses.deferred = []) (hst : (s.ctx context.val).state ≠ 0) (horder : (s.ctx context.val).order = false)
    (ha : s.silent (s.ctx context.val) false = true) (hb : s.silent (s.ctx context.val) true = false) :
    exec (.legDown context) s = .next (legADown context.val s) ∧
      Only sesPieces s (legADown context.val s) ∧
      ((legADown context.val s).ctx context.val).heardA = none ∧
      ((legADown context.val s).ctx context.val).heardB = (s.ctx context.val).heardB := by
  have hp := legADown_puts context.val s
  obtain ⟨he, honly⟩ := exec_sesActs_alone (exec_legDown hs context) (Touches.refl _ s) hw
    (evalLegs_of_silentA hst horder ha hb) (hp.deferred.trans hd)
  refine ⟨he, honly, ?_, ?_⟩
  · rw [hp.ctx]
    rfl
  · rw [hp.ctx]
    rfl

theorem gapExpired_evaluates (context : Fin 8192) (s : State) (hs : s.stopped = false)
    (hw : s.sesWaits (.gaps context.val) = false) :
    exec (.gapExpired context) s = .next (endSession (evalGaps context.val s)) ∧
      Only sesPieces s (endSession (evalGaps context.val s)) ∧
      (s.ses.deferred = [] → (s.ctx context.val).gapTimeout = 0 → endSession (evalGaps context.val s) = s) := by
  obtain ⟨he, honly⟩ := exec_sesActs (exec_gapExpired hs context) (Touches.refl _ s) hw rfl
  refine ⟨he, honly, fun hd htimeout => ?_⟩
  rw [evalGaps_of_noTimeout htimeout, endSession_of_noneDeferred hd]

theorem contextLost_restarts (frame : Nat) (f : Frame) (s : State) (hs : s.stopped = false) (hw : s.sesWaits (.lost frame) = false)
    (hd : s.ses.deferred = []) (hf : s.frame? frame = some f) (hses : f.session = 1) :
    ∃ t, exec (.contextLost frame) s = .next t ∧
      Only sesPieces s t ∧
      (t.ctx f.ctx).state = 2 ∧
      (t.ctx f.ctx).expected = (f.sseq + 1) % 2 ^ 64 ∧
      (t.ctx f.ctx).gap0 = none ∧
      (∀ c, c ≠ f.ctx → t.ctx c = s.ctx c) := by
  have hp := loseContext_puts hf hses
  obtain ⟨he, honly⟩ := exec_sesActs_alone (exec_contextLost hs frame) (Touches.refl _ s) hw rfl (hp.deferred.trans hd)
  refine ⟨_, he, honly, ?_, ?_, ?_, hp.others⟩
  all_goals
    refine (congrArg _ hp.ctx).trans ?_
    rfl

end Sys2Proof
end

section
/-! SUPPORT. What serving a retransmission request leaves of the queue, the buckets, REQ_QUEUED and the frames' numbers (R344 to
R346). -/

namespace Sys2Proof.Machine

/-- The steps of serving a request of a requester: the queue and REQ_QUEUED are as they were, its bucket holds no more than before,
the other buckets hold what they held, and `n` numbers of frames are taken. -/
structure Serves (r n : Nat) (s t : State) : Prop where
  requests : t.ses.requests = s.ses.requests
  kept : RegsKept (· ∈ engineKeys) s t
  tokens_le : (t.requester r).tokens ≤ (s.requester r).tokens
  others : ∀ k, k ≠ r → (t.requester k).tokens = (s.requester k).tokens
  frames : t.palm.nextFrame = s.palm.nextFrame + n

theorem sesEvent_palm (c : Nat) (e : Event) (s : State) : (sesEvent c e s).palm = s.palm :=
  (sesEvent_touches nofun nofun nofun nofun nofun (Touches.refl _ s)).palm_eq

theorem nextFrame_replyFrame (q : RetxRequest) (n : Nat) (bs : List Byte) (s : State) :
    (replyFrame q n bs s).palm.nextFrame = s.palm.nextFrame + 1 := by
  unfold replyFrame
  rw [State.count_palm]
  rfl

theorem tokens_refuse (r n : Nat) (s : State) (k : Nat) : ((refuse r n s).requester k).tokens = (s.requester k).tokens := by
  unfold refuse
  rw [State.requester_putRequester]
  split
  · next hk => rw [hk]
  · rfl

section
variable {r n : Nat} {s t : State}

theorem Serves.refl (r : Nat) (s : State) : Serves r 0 s s := ⟨rfl, RegsKept.refl _ s, le_rfl, fun _ _ => rfl, rfl⟩

theorem Serves.of_ses_eq {u : State} {m : Nat} (h : Serves r n s t) (hses : u.ses = t.ses) (hk : RegsKept (· ∈ engineKeys) s u)
    (hf : u.palm.nextFrame = t.palm.nextFrame + m) : Serves r (n + m) s u where
  requests := hses ▸ h.requests
  kept := hk
  tokens_le := State.requester_congr hses r ▸ h.tokens_le
  others k hne := State.requester_congr hses k ▸ h.others k hne
  frames := by rw [hf, h.frames, Nat.add_assoc]

theorem Serves.raise (h : Serves r n s t) (page : Nat) {cause : Nat} (hc : cause < 64) : Serves r n s (t.raise page cause) :=
  h.of_ses_eq (m := 0) (State.raise_ses t page cause) (h.kept.raiseEngine page hc) (by rw [State.raise_palm, Nat.add_zero])

theorem Serves.sesEvent (h : Serves r n s t) (c : Nat) (e : Event) : Serves r n s (sesEvent c e t) :=
  h.of_ses_eq (m := 0) (sesEvent_ses c e t) (h.kept.sesEvent c e) (by rw [sesEvent_palm, Nat.add_zero])

theorem Serves.refuse (h : Serves r n s t) (n' : Nat) : Serves r n s (refuse r n' t) where
  requests := h.requests
  kept := h.kept.congr rfl
  tokens_le := by rw [tokens_refuse]; exact h.tokens_le
  others k hk := by rw [tokens_refuse, h.others k hk]
  frames := h.frames

theorem Serves.reportRefused (h : Serves r n s t) (c : Nat) (numbers : Option (Nat × Nat)) (n' : Nat) :
    Serves r n s (reportRefused c r numbers n' t) := ((h.refuse n').sesEvent c _).raise 0x240 (by decide)

theorem Serves.reportMissing (h : Serves r n s t) (c : Nat) (numbers : Nat × Nat) :
    Serves r n s (reportMissing c r numbers t) := (h.sesEvent c _).raise 0x240 (by decide)

theorem Serves.replyFrame (h : Serves r n s t) (q : RetxRequest) (k : Nat) (bs : List Byte) :
    Serves r (n + 1) s (replyFrame q k bs t) :=
  h.of_ses_eq (replyFrame_ses q k bs t) (h.kept.replyFrame q k bs) (nextFrame_replyFrame q k bs t)

theorem Serves.replyFrames (h : Serves r n s t) (q : RetxRequest) (l : List (Nat × List Byte)) :
    Serves r (n + l.length) s (l.foldl (fun u p => Machine.replyFrame q p.1 p.2 u) t) := by
  induction l generalizing n t with
  | nil => exact h
  | cons p rest ih =>
    rw [List.length_cons, Nat.add_comm rest.length, ← Nat.add_assoc]
    exact ih (h.replyFrame q p.1 p.2)

end

theorem putRequester_serves {r : Nat} {s : State} {x : Requester} (hx : x.tokens ≤ (s.requester r).tokens) :
    Serves r 0 s (s.putRequester r x) where
  requests := rfl
  kept := RegsKept.of_regs_eq rfl
  tokens_le := by rw [State.requester_putRequester, if_pos rfl]; exact hx
  others k hk := by rw [State.requester_putRequester, if_neg hk]
  frames := rfl

/-! ## The numbers of a request -/

/-- A number spends no token that is not there, and brings one reply at most. -/
theorem serve_le (q : RetxRequest) (limit : Nat) (bad : List Nat) (v : Served) (i : Nat) :
    (v.serve q limit bad i).tokens ≤ v.tokens ∧ (v.serve q limit bad i).replies.length ≤ v.replies.length + 1 := by
  unfold Served.serve
  dsimp only
  split
  · simp
  · split
    · split <;> simp
    · simp

theorem foldl_serve_le (q : RetxRequest) (limit : Nat) (bad l : List Nat) (v : Served) :
    (l.foldl (Served.serve q limit bad) v).tokens ≤ v.tokens ∧
      (l.foldl (Served.serve q limit bad) v).replies.length ≤ v.replies.length + l.length := by
  induction l generalizing v with
  | nil => exact ⟨le_rfl, le_rfl⟩
  | cons i rest ih =>
    obtain ⟨htokens, hreplies⟩ := serve_le q limit bad v i
    obtain ⟨htokens', hreplies'⟩ := ih (v.serve q limit bad i)
    rw [List.length_cons, List.foldl_cons]
    exact ⟨htokens'.trans htokens, by omega⟩

/-! ## The oldest request -/

/-- The queue without its oldest request (R344). -/
def State.popRequest (s : State) (rest : List RetxRequest) : State :=
  { s with ses := { s.ses with requests := rest } }.wr 0x240 F.ses0_ENGINE_STATUS_REQ_QUEUED rest.length

/-- What becomes of a request's numbers. -/
def State.served (s : State) (q : RetxRequest) (bad : List Nat) : Served :=
  (List.range q.count).foldl (Served.serve q (max 1 (s.rd 0x240 F.ses0_ENGINE_CFG_REQ_MAX_COUNT)) bad)
    { tokens := (s.requester q.requester).tokens }

/-- The tokens spent and the replies formed. -/
def sendReplies (q : RetxRequest) (v : Served) (s : State) : State :=
  v.replies.foldl (fun t p => replyFrame q p.1 p.2 t)
    (s.putRequester q.requester { s.requester q.requester with tokens := v.tokens })

/-- The refused numbers reported. -/
def tellRefused (q : RetxRequest) (v : Served) (s : State) : State :=
  match v.refused.head?, v.refused.getLast? with
  | some a, some b => reportRefused q.ctx q.requester (some (a, b)) v.refused.length s
  | _, _ => s

/-- The unavailable numbers reported. -/
def tellMissing (q : RetxRequest) (v : Served) (s : State) : State :=
  match v.missing.head?, v.missing.getLast? with
  | some a, some b => reportMissing q.ctx q.requester (a, b) s
  | _, _ => s

/-- A request's own entry may be uncorrectable, and its context or its requester may refuse it whole (R344, R351). -/
def serveRequest (q : RetxRequest) (bad : List Nat) (lost : Bool) (s : State) : State :=
  if lost then s.raise 0x240 10
  else if (s.ctx q.ctx).state = 0 ∨ !(s.ctx q.ctx).ringEn ∨ !(s.requester q.requester).enable ∨ q.count = 0 then
    reportRefused q.ctx q.requester (allNumbers q.seq q.count) q.count s
  else tellMissing q (s.served q bad) (tellRefused q (s.served q bad) (sendReplies q (s.served q bad) s))

theorem exec_retxRequestServe {s : State} (hs : s.stopped = false) {q : RetxRequest} {rest : List RetxRequest}
    (hq : s.ses.requests = q :: rest) (bad : List Nat) (lost : Bool) :
    exec (.retxRequestServe bad lost) s = .next (serveRequest q bad lost (s.popRequest rest)) := by
  refine congrArg Host.Outcome.next ((State.running_of hs _).trans ?_)
  dsimp only
  rw [hq]
  rfl

theorem served_le (s : State) (q : RetxRequest) (bad : List Nat) :
    (s.served q bad).tokens ≤ (s.requester q.requester).tokens ∧ (s.served q bad).replies.length ≤ q.count := by
  have h := foldl_serve_le q (max 1 (s.rd 0x240 F.ses0_ENGINE_CFG_REQ_MAX_COUNT)) bad (List.range q.count)
    { tokens := (s.requester q.requester).tokens }
  rwa [List.length_range, List.length_nil, Nat.zero_add] at h

theorem sendReplies_serves (q : RetxRequest) (bad : List Nat) (s : State) :
    ∃ n ≤ q.count, Serves q.requester n s (sendReplies q (s.served q bad) s) := by
  obtain ⟨htokens, hreplies⟩ := served_le s q bad
  have hspent := putRequester_serves (x := { s.requester q.requester with tokens := (s.served q bad).tokens }) htokens
  exact ⟨_, (Nat.zero_add _).symm ▸ hreplies, hspent.replyFrames q (s.served q bad).replies⟩

theorem Serves.tellRefused {n : Nat} {q : RetxRequest} {s t : State} (h : Serves q.requester n s t) (v : Served) :
    Serves q.requester n s (tellRefused q v t) := by
  unfold Machine.tellRefused
  split
  · exact h.reportRefused _ _ _
  · exact h

theorem Serves.tellMissing {n : Nat} {q : RetxRequest} {s t : State} (h : Serves q.requester n s t) (v : Served) :
    Serves q.requester n s (tellMissing q v t) := by
  unfold Machine.tellMissing
  split
  · exact h.reportMissing _ _
  · exact h

/-- However a request is served, no more frames enter than it has numbers (R346). -/
theorem serveRequest_serves (q : RetxRequest) (bad : List Nat) (lost : Bool) (s : State) :
    ∃ n ≤ q.count, Serves q.requester n s (serveRequest q bad lost s) := by
  obtain ⟨n, hn, hsent⟩ := sendReplies_serves q bad s
  unfold serveRequest
  split
  · exact ⟨0, Nat.zero_le _, (Serves.refl _ s).raise _ (by decide)⟩
  · split
    · exact ⟨0, Nat.zero_le _, (Serves.refl _ s).reportRefused _ _ _⟩
    · exact ⟨n, hn, (hsent.tellRefused _).tellMissing _⟩

/-- A request for one number that is held costs a token and is answered by one reply. -/
theorem serveRequest_of_held {q : RetxRequest} {s : State} (hst : (s.ctx q.ctx).state ≠ 0) (hring : (s.ctx q.ctx).ringEn = true)
    (hena : (s.requester q.requester).enable = true) (hcount : q.count = 1) (htokens : (s.requester q.requester).tokens ≠ 0)
    (hheld : (q.held.at? 0).isSome = true) :
    serveRequest q [] false s = replyFrame q (q.seq % 2 ^ 64) ((q.held.at? 0).getD [])
      (s.putRequester q.requester { s.requester q.requester with tokens := (s.requester q.requester).tokens - 1 }) := by
  obtain ⟨bs, hbs⟩ := Option.isSome_iff_exists.1 hheld
  have hserved : s.served q [] =
      { tokens := (s.requester q.requester).tokens - 1, replies := [(q.seq % 2 ^ 64, bs)] } := by
    unfold State.served
    rw [hcount]
    simp [List.range_one, Served.serve, htokens, hbs]
  have hall : ¬ ((s.ctx q.ctx).state = 0 ∨ !(s.ctx q.ctx).ringEn ∨ !(s.requester q.requester).enable ∨ q.count = 0) := by
    simp [hst, hring, hena, hcount]
  unfold serveRequest
  rw [if_neg Bool.false_ne_true, if_neg hall, hserved, hbs]
  rfl

end Sys2Proof.Machine
end

section
/-! PROOF. O35: retransmission requests (R344, R346, R351). -/

namespace Sys2Proof

open Sys2Proof.Machine

section
variable {q : RetxRequest} {rest : List RetxRequest} {s : State} (hs : s.stopped = false) (hq : s.ses.requests = q :: rest)
include hs hq

theorem retxRequestServe_only (bad : List Nat) (lost : Bool) :
    Only [.regs, .free, .out, .host, .latches, .palm, .ses, .vsr] s (serveRequest q bad lost (s.popRequest rest)) :=
  only_of_exec (exec_retxRequestServe hs hq bad lost) (by apply execRetxRequestServe_touches <;> simp [Touches.refl])

end

theorem rd_queued_popRequest (s : State) (rest : List RetxRequest) : (s.popRequest rest).rd 0x240 F.ses0_ENGINE_STATUS_REQ_QUEUED =
    rest.length % 2 ^ F.ses0_ENGINE_STATUS_REQ_QUEUED.w := State.rd_wr_self _ _ _ _

theorem retxRequestServe_serves (bad : List Nat) (lost : Bool) (q : RetxRequest) (rest : List RetxRequest) (s : State)
    (hs : s.stopped = false) (hq : s.ses.requests = q :: rest) :
    ∃ t, exec (.retxRequestServe bad lost) s = .next t ∧
      Only [.regs, .free, .out, .host, .latches, .palm, .ses, .vsr] s t ∧
      t.ses.requests = rest ∧
      t.rd 0x240 F.ses0_ENGINE_STATUS_REQ_QUEUED = rest.length % 2 ^ F.ses0_ENGINE_STATUS_REQ_QUEUED.w ∧
      (t.requester q.requester).tokens ≤ (s.requester q.requester).tokens ∧
      (∀ k, k ≠ q.requester → (t.requester k).tokens = (s.requester k).tokens) ∧
      s.palm.nextFrame ≤ t.palm.nextFrame ∧
      t.palm.nextFrame ≤ s.palm.nextFrame + q.count := by
  obtain ⟨n, hn, h⟩ := serveRequest_serves q bad lost (s.popRequest rest)
  have hframes : (serveRequest q bad lost (s.popRequest rest)).palm.nextFrame = s.palm.nextFrame + n := h.frames
  refine ⟨_, exec_retxRequestServe hs hq bad lost, retxRequestServe_only hs hq bad lost, h.requests,
    (h.kept.rd (by decide)).trans (rd_queued_popRequest s rest), h.tokens_le, h.others, ?_, ?_⟩
  · omega
  · omega

/-- A request that is lost costs no token (R351). -/
theorem retxRequestServe_loses (bad : List Nat) (q : RetxRequest) (rest : List RetxRequest) (s : State) (hs : s.stopped = false)
    (hq : s.ses.requests = q :: rest) :
    ∃ t, exec (.retxRequestServe bad true) s = .next t ∧
      Only [.regs, .free, .out, .host, .latches, .palm, .ses, .vsr] s t ∧
      t.ses.requests = rest ∧
      t.rd 0x240 F.ses0_ENGINE_STATUS_REQ_QUEUED = rest.length % 2 ^ F.ses0_ENGINE_STATUS_REQ_QUEUED.w ∧
      t.ses.requesters = s.ses.requesters := by
  have hlost : serveRequest q bad true (s.popRequest rest) = (s.popRequest rest).raise 0x240 10 := if_pos rfl
  have hses : (serveRequest q bad true (s.popRequest rest)).ses = (s.popRequest rest).ses := hlost ▸ State.raise_ses _ _ _
  have hkept : RegsKept (· ∈ engineKeys) (s.popRequest rest) (serveRequest q bad true (s.popRequest rest)) :=
    hlost ▸ (RegsKept.refl _ _).raiseEngine _ (by decide)
  exact ⟨_, exec_retxRequestServe hs hq bad true, retxRequestServe_only hs hq bad true, congrArg Sessions.requests hses,
    (hkept.rd (by decide)).trans (rd_queued_popRequest s rest), (congrArg Sessions.requesters hses).trans rfl⟩

theorem retxRequestServe_replies (q : RetxRequest) (rest : List RetxRequest) (s : State) (hs : s.stopped = false)
    (hq : s.ses.requests = q :: rest) (hst : (s.ctx q.ctx).state ≠ 0) (hring : (s.ctx q.ctx).ringEn = true)
    (hena : (s.requester q.requester).enable = true) (hcount : q.count = 1) (htokens : (s.requester q.requester).tokens ≠ 0)
    (hheld : (q.held.at? 0).isSome = true) :
    let t := replyFrame q (q.seq % 2 ^ 64) ((q.held.at? 0).getD []) ((s.popRequest rest).putRequester q.requester
      { s.requester q.requester with tokens := (s.requester q.requester).tokens - 1 })
    exec (.retxRequestServe [] false) s = .next t ∧
      Only [.regs, .free, .out, .host, .latches, .palm, .ses, .vsr] s t ∧
      (t.requester q.requester).tokens = (s.requester q.requester).tokens - 1 := by
  intro t
  have ht : serveRequest q [] false (s.popRequest rest) = t := serveRequest_of_held hst hring hena hcount htokens hheld
  refine ⟨(exec_retxRequestServe hs hq [] false).trans (congrArg _ ht), ht ▸ retxRequestServe_only hs hq [] false, ?_⟩
  rw [State.requester_congr (replyFrame_ses _ _ _ _), State.requester_putRequester, if_pos rfl]

end Sys2Proof
end

section
/-! PROOF. O35: the requesters' buckets (R345). -/

namespace Sys2Proof.Machine

/-- The refill of one bucket at a TAI millisecond (R345). -/
def Requester.refilled (x : Requester) : Requester :=
  if !x.enable || decide (x.tokens ≥ x.burst) then x else { x with tokens := min x.burst (x.tokens + x.refill) }

theorem requester_refillAll (n : Nat) (s : State) (k : Nat) :
    ((List.range n).foldl (fun t r => t.putRequester r (t.requester r).refilled) s).requester k =
      if k < n then (s.requester k).refilled else s.requester k := by
  induction n with
  | zero => rfl
  | succ n ih =>
    rw [List.range_succ, List.foldl_append, List.foldl_cons, List.foldl_nil, State.requester_putRequester]
    by_cases hk : k = n
    · subst hk
      rw [if_pos rfl, ih, if_neg (lt_irrefl k), if_pos (Nat.lt_succ_self k)]
    · rw [if_neg hk, ih]
      exact if_congr (by omega) rfl rfl

theorem writeReqCfg_ses (data : Nat) (s : State) :
    (writeReqCfg data s).ses = (s.putRequester (s.rd 0x240 F.ses0_REQ_SEL) { s.requester (s.rd 0x240 F.ses0_REQ_SEL) with
      refill := bits data 0 16
      burst := bits data 16 16
      enable := data.testBit 32
      tokens := if data.testBit 32 then bits data 16 16 else (s.requester (s.rd 0x240 F.ses0_REQ_SEL)).tokens }).ses := rfl

theorem writeReqCfg_regsOnly (data : Nat) (s : State) : RegsOnly [0x240] s (writeReqCfg data s) :=
  RegsOnly.wr (RegsOnly.wr (RegsOnly.wr (RegsOnly.of_regs_eq _ rfl) (by decide) _) (by decide) _) (by decide) _

/-- REQ_CFG's word with ENABLE 1, taken apart again. -/
theorem bits_reqCfg (refill burst : BitVec 16) :
    let data := refill.toNat + 2 ^ 16 * burst.toNat + 2 ^ 32
    bits data 0 16 = refill.toNat ∧ bits data 16 16 = burst.toNat ∧ data.testBit 32 = true := by
  have hr := refill.isLt
  have hb := burst.isLt
  refine ⟨?_, ?_, ?_⟩
  · unfold bits; omega
  · unfold bits; omega
  · rw [Nat.testBit_eq_decide_div_mod_eq]
    exact decide_eq_true (by omega)

end Sys2Proof.Machine

namespace Sys2Proof

open Sys2Proof.Machine

theorem tokenRefill_refills (s : State) (hs : s.stopped = false) (hdue : s.dueAt 7 1000000 s.nowNs = true) :
    ∃ t, exec .tokenRefill s = .next t ∧
      Only [.ticks, .ses] s t ∧
      (∀ r : Fin 4096, t.requester r.val = (s.requester r.val).refilled) ∧
      RegsOnly [] s t := by
  have he : exec .tokenRefill s = .next ((List.range 4096).foldl (fun t r => t.putRequester r (t.requester r).refilled)
      { s with ticks := { s.ticks with last := s.ticks.last.put s.ticks.base 7 s.nowNs } }) :=
    congrArg Host.Outcome.next ((State.running_of hs _).trans (if_pos hdue))
  have honly : Only [.ticks, .ses] s _ := only_of_exec he (by apply execTokenRefill_touches <;> simp [Touches.refl])
  exact ⟨_, he, honly, fun r => (requester_refillAll 4096 _ r.val).trans (if_pos r.isLt),
    RegsOnly.of_regs_eq _ (honly .regs (by decide))⟩

theorem reqEnable_enables (refill burst : BitVec 16) (s : State) (hs : s.stopped = false) (hsh : s.shut 0x240 = false) :
    ∃ t, exec (.reqEnable refill burst) s = .next t ∧
      Only [.regs, .latches, .ses, .mtn] s t ∧
      (t.requester (s.rd 0x240 F.ses0_REQ_SEL)).refill = refill.toNat ∧
      (t.requester (s.rd 0x240 F.ses0_REQ_SEL)).burst = burst.toNat ∧
      (t.requester (s.rd 0x240 F.ses0_REQ_SEL)).tokens = burst.toNat ∧
      (t.requester (s.rd 0x240 F.ses0_REQ_SEL)).enable = true ∧
      (∀ r, r ≠ s.rd 0x240 F.ses0_REQ_SEL → t.requester r = s.requester r) ∧
      RegsOnly [0x240] s t := by
  let data := refill.toNat + 2 ^ 16 * burst.toNat + 2 ^ 32
  have he : exec (.reqEnable refill burst) s = .next (writeReqCfg data (s.wakeClock 0x240)) :=
    congrArg Host.Outcome.next (State.written_of hs hsh _)
  obtain ⟨hrefill, hburst, hon⟩ : bits data 0 16 = refill.toNat ∧ bits data 16 16 = burst.toNat ∧ data.testBit 32 = true :=
    bits_reqCfg refill burst
  have hreq (k : Nat) := (State.requester_congr (writeReqCfg_ses data (s.wakeClock 0x240)) k).trans
    (State.requester_putRequester _ _ _ k)
  rw [State.rd_wakeClock, hrefill, hburst, hon] at hreq
  have hself := (hreq (s.rd 0x240 F.ses0_REQ_SEL)).trans (if_pos rfl)
  refine ⟨_, he, only_of_exec he (by apply execReqEnable_touches <;> simp [Touches.refl]), ?_, ?_, ?_, ?_, fun r hr => ?_,
    (RegsOnly.of_regs_eq _ (State.wakeClock_regs _ _)).trans (writeReqCfg_regsOnly _ _)⟩
  · rw [hself]
  · rw [hself]
  · rw [hself]
    rfl
  · rw [hself]
  · rw [hreq, if_neg hr, State.requester_congr (State.wakeClock_ses s 0x240)]

end Sys2Proof
end

section
/-! PROOF. O35, assembled from its commands (R327 to R349). -/

namespace Sys2Proof

open Sys2Proof.Machine

/-- Settles O35, command by command. A command of CTX_CMD, an evaluation or a loss is an act of the engine: one that need not wait
in its cycle is done at once, any other joins those that wait, and both may end the cycle. The model's choices in it are that acts
wait in ses.deferred among the commands of one queue, taken as one cycle (log entry 19), that a command takes effect at the end of
its cycle (90), that the CTX_SEL write fills the selected context's registers (89), and that REQ_ENABLE refills the bucket even of
an enabled requester (87). -/
theorem sessionCommandsComplete : Obligations.SessionCommandsComplete := by
  unfold Obligations.SessionCommandsComplete
  have hacts {i : Instr} {op : Nat} (he : ∀ s, exec i s = .next (s.written 0x240 (writeCtxCmd op))) (hop : 1 ≤ op ∧ op ≤ 4)
      (s : State) (hs : s.stopped = false) (hsh : s.shut 0x240 = false) := exec_command_acts (exec_ctxCommand (he s) hop hs hsh)
  have hwaits {i : Instr} {op : Nat} (he : ∀ s, exec i s = .next (s.written 0x240 (writeCtxCmd op))) (hop : 1 ≤ op ∧ op ≤ 4)
      (s : State) (hs : s.stopped = false) (hsh : s.shut 0x240 = false) := exec_command_waits (exec_ctxCommand (he s) hop hs hsh)
  exact ⟨hacts (fun _ => rfl) (by decide), hwaits (fun _ => rfl) (by decide), disable_stops, disable_isRefused,
    hacts (fun _ => rfl) (by decide), hwaits (fun _ => rfl) (by decide), contextArm_starts, contextArm_isRefused,
    hacts (fun _ => rfl) (by decide), hwaits (fun _ => rfl) (by decide), setExpected_sets, setExpected_isRefused,
    hacts (fun _ => rfl) (by decide), hwaits (fun _ => rfl) (by decide), clearGaps_clears, clearGaps_isRefused,
    exec_ctxSelWrite, ctxSelWrite_showsContext, ctxSelWrite_showsRequester,
    legDown_evaluates, fun context s hs => exec_sesWaits (exec_legDown hs context) (Touches.refl _ s), legDown_marksLegA,
    gapExpired_evaluates, fun context s hs => exec_sesWaits (exec_gapExpired hs context) (Touches.refl _ s),
    retxRequestServe_serves, retxRequestServe_loses, retxRequestServe_replies, tokenRefill_refills, reqEnable_enables,
    fun frame s hs hw => exec_sesActs (exec_contextLost hs frame) (Touches.refl _ s) hw rfl,
    fun frame s hs => exec_sesWaits (exec_contextLost hs frame) (Touches.refl _ s), contextLost_restarts⟩

end Sys2Proof
end

section
/-! PROOF. O1, O3 to O6: the step and the queue, and the canonical forms that every command keeps (R516; log entries 4 and 5). -/

namespace Sys2Proof.Machine

/-! ## The two resets: what they keep is a filter of the registers, and they keep DDR5 or empty it (R537) -/

theorem SMap.sorted_keptRegs (s : State) (keep : Nat → Bool) (h : s.regs.sorted = true) : (s.keptRegs keep).sorted = true :=
  SMap.sorted_filter s.regs (fun p => keep p.1) h

/-- What neither the queue's order nor a canonical form forbids: any part but the queue may move. -/
theorem Touches.of_kept {s t u : State} (h : Touches (· ≠ .pending) s t) (hp : u.pending = t.pending)
    (hr : t.regs.sorted = true → u.regs.sorted = true) (hd : t.ddr.wf 0 = true → u.ddr.wf 0 = true) :
    Touches (· ≠ .pending) s u := by
  refine h.multi (fun p hn => ?_) hr hd
  obtain rfl : p = .pending := not_not.1 hn
  exact hp

theorem warmState_touches {s t : State} (h : Touches (· ≠ .pending) s t) : Touches (· ≠ .pending) s (warmState t) :=
  h.of_kept rfl
    (SMap.sorted_keptRegs t fun k => stickyAt (pageOfKey k) (k % 0x8000) || fieldIn runningFields k) id

theorem unpowered_touches {s t : State} (h : Touches (· ≠ .pending) s t) : Touches (· ≠ .pending) s (unpowered t) :=
  h.of_kept rfl (SMap.sorted_keptRegs t _) fun _ => rfl

theorem commitReset_touchesAny {s t : State} (h : Touches (· ≠ .pending) s t) : Touches (· ≠ .pending) s (commitReset t) := by
  apply commitReset_touches <;> simp [h]

theorem execWarmResetApply_touchesAny {s : State} (gpio0 testMode : Bool) :
    Moves (· ≠ .pending) s (execWarmResetApply gpio0 testMode s) := by
  have hs : Touches (· ≠ .pending) s s := Touches.refl _ s
  have hc : Touches (· ≠ .pending) s (if s.boot.held && !s.resetWaits then commitReset s else s) :=
    Touches.ite (commitReset_touchesAny hs) hs
  refine Moves.next (Touches.ite ?_ hs)
  refine drivePins_touches (by simp) (sampleStraps_touches (by simp) (warmState_touches ?_))
  exact settleRefresh_touches (by simp) (by simp) (by simp) (by simp) (by simp) hc

theorem execPowerRemoval_touchesAny {s : State} (hold : Bool) : Moves (· ≠ .pending) s (execPowerRemoval hold s) := by
  have hs : Touches (· ≠ .pending) s s := Touches.refl _ s
  exact Moves.next (Touches.ite (unpowered_touches (Touches.ite (commitReset_touchesAny hs) hs)) hs)

/-! ## Every command -/

/-- Every command leaves the queue as it was, whatever state it meets: one lemma of what it may touch for each. -/
theorem exec_leaves_pending (c : Instr) (s : State) : Moves (· ≠ .pending) s (exec c s) := by
  have hs : Touches (· ≠ .pending) s s := Touches.refl _ s
  cases c with
  | registerWrite => apply execRegisterWrite_touches <;> simp [hs]
  | t80NsRead => apply execT80NsRead_touches <;> simp [hs]
  | t80PairCommit => apply execT80PairCommit_touches <;> simp [hs]
  | frameReceive => apply execFrameReceive_touches <;> simp [hs]
  | ingressSlotAssign => apply execIngressSlotAssign_touches <;> simp [hs]
  | engineAssign => apply execEngineAssign_touches <;> simp [hs]
  | microwordIssue => apply execMicrowordIssue_touches <;> simp [hs]
  | goldenRepair => apply execGoldenRepair_touches <;> simp [hs]
  | poisonRewrite => apply execPoisonRewrite_touches <;> simp [hs]
  | searchResultWritten => apply execSearchResultWritten_touches <;> simp [hs]
  | sessionDecision => apply execSessionDecision_touches <;> simp [hs]
  | ringWrite => apply execRingWrite_touches <;> simp [hs]
  | queueAssign => apply execQueueAssign_touches <;> simp [hs]
  | frameTailVerdict => apply execFrameTailVerdict_touches <;> simp [hs]
  | schedulerSelect => apply execSchedulerSelect_touches <;> simp [hs]
  | underrun => apply execUnderrun_touches <;> simp [hs]
  | egressTransmit => apply execEgressTransmit_touches <;> simp [hs]
  | transmitComplete => apply execTransmitComplete_touches <;> simp [hs]
  | headerRingFlush => apply execHeaderRingFlush_touches <;> simp [hs]
  | refLost => apply execRefLost_touches <;> simp [hs]
  | bar2Write => apply execBar2Write_touches <;> simp [hs]
  | badSizeAccess => apply execBadSizeAccess_touches <;> simp [hs]
  | absentPageAccess => apply execAbsentPageAccess_touches <;> simp [hs]
  | blockReset => apply execBlockReset_touches <;> simp [hs]
  | blockResetComplete => apply execBlockResetComplete_touches <;> simp [hs]
  | quenchClose => apply execQuenchClose_touches <;> simp [hs]
  | errInject => apply execErrInject_touches <;> simp [hs]
  | errClassMapWrite => apply execErrClassMapWrite_touches <;> simp [hs]
  | msixUnmask => apply execMsixUnmask_touches <;> simp [hs]
  | replicaCompare => apply execReplicaCompare_touches <;> simp [hs]
  | replicaResyncDone => apply execReplicaResyncDone_touches <;> simp [hs]
  | ppsInEdge => apply execPpsInEdge_touches <;> simp [hs]
  | ppsEdgeMissed => apply execPpsEdgeMissed_touches <;> simp [hs]
  | todSentenceReceived => apply execTodSentenceReceived_touches <;> simp [hs]
  | todOutSentence => apply execTodOutSentence_touches <;> simp [hs]
  | ptpMessageReceive => apply execPtpMessageReceive_touches <;> simp [hs]
  | ptpTimeout => apply execPtpTimeout_touches <;> simp [hs]
  | peerAgeOut => apply execPeerAgeOut_touches <;> simp [hs]
  | revertHoldoff => apply execRevertHoldoff_touches <;> simp [hs]
  | refCfgWrite => apply execRefCfgWrite_touches <;> simp [hs]
  | servoModeChange => apply execServoModeChange_touches <;> simp [hs]
  | setTime => apply execSetTime_touches <;> simp [hs]
  | lockVerified => apply execLockVerified_touches <;> simp [hs]
  | relockComplete => apply execRelockComplete_touches <;> simp [hs]
  | slewEnd => apply execSlewEnd_touches <;> simp [hs]
  | holdoverRecompute => apply execHoldoverRecompute_touches <;> simp [hs]
  | historyWrite => apply execHistoryWrite_touches <;> simp [hs]
  | histClear => apply execHistClear_touches <;> simp [hs]
  | bandLockstep => apply execBandLockstep_touches <;> simp [hs]
  | timePllUnlock => apply execTimePllUnlock_touches <;> simp [hs]
  | ptpSyncSend => apply execPtpSyncSend_touches <;> simp [hs]
  | ptpAnnounceSend => apply execPtpAnnounceSend_touches <;> simp [hs]
  | makeStatic => apply execMakeStatic_touches <;> simp [hs]
  | makeLearned => apply execMakeLearned_touches <;> simp [hs]
  | free => apply execFree_touches <;> simp [hs]
  | peerSelWrite => apply execPeerSelWrite_touches <;> simp [hs]
  | denoonHelloSend => apply execDenoonHelloSend_touches <;> simp [hs]
  | denoonHelloReceive => apply execDenoonHelloReceive_touches <;> simp [hs]
  | memberTimeout => apply execMemberTimeout_touches <;> simp [hs]
  | primarySwitch => apply execPrimarySwitch_touches <;> simp [hs]
  | ppsOutPulse => apply execPpsOutPulse_touches <;> simp [hs]
  | ppsOutCfgWrite => apply execPpsOutCfgWrite_touches <;> simp [hs]
  | clkOutCfgWrite => apply execClkOutCfgWrite_touches <;> simp [hs]
  | clkOutStart => apply execClkOutStart_touches <;> simp [hs]
  | tqChange => apply execTqChange_touches <;> simp [hs]
  | fineTrimStep => apply execFineTrimStep_touches <;> simp [hs]
  | fineTrimFreeze => apply execFineTrimFreeze_touches <;> simp [hs]
  | fineTrimResume => apply execFineTrimResume_touches <;> simp [hs]
  | wanderSample => apply execWanderSample_touches <;> simp [hs]
  | cdrLock => apply execCdrLock_touches <;> simp [hs]
  | cdrLockLoss => apply execCdrLockLoss_touches <;> simp [hs]
  | apply => apply execApply_touches <;> simp [hs]
  | discard => apply execDiscard_touches <;> simp [hs]
  | calTrimEffect => apply execCalTrimEffect_touches <;> simp [hs]
  | calSaveDone => apply execCalSaveDone_touches <;> simp [hs]
  | statSelWrite => apply execStatSelWrite_touches <;> simp [hs]
  | statClear => apply execStatClear_touches <;> simp [hs]
  | octCfgWrite => apply execOctCfgWrite_touches <;> simp [hs]
  | octetPllLock => apply execOctetPllLock_touches <;> simp [hs]
  | octetPllUnlock => apply execOctetPllUnlock_touches <;> simp [hs]
  | portEnable => apply execPortEnable_touches <;> simp [hs]
  | portDisable => apply execPortDisable_touches <;> simp [hs]
  | restart => apply execRestart_touches <;> simp [hs]
  | laneSignalDetect => apply execLaneSignalDetect_touches <;> simp [hs]
  | anComplete => apply execAnComplete_touches <;> simp [hs]
  | anTimeout => apply execAnTimeout_touches <;> simp [hs]
  | denoonCapSend => apply execDenoonCapSend_touches <;> simp [hs]
  | denoonCapReceive => apply execDenoonCapReceive_touches <;> simp [hs]
  | retune => apply execRetune_touches <;> simp [hs]
  | exchangeTimeout => apply execExchangeTimeout_touches <;> simp [hs]
  | retuneLocked => apply execRetuneLocked_touches <;> simp [hs]
  | retuneTimeout => apply execRetuneTimeout_touches <;> simp [hs]
  | trainingComplete => apply execTrainingComplete_touches <;> simp [hs]
  | trainingTimeout => apply execTrainingTimeout_touches <;> simp [hs]
  | coefficientRequest => apply execCoefficientRequest_touches <;> simp [hs]
  | lineError => apply execLineError_touches <;> simp [hs]
  | qualifyComplete => apply execQualifyComplete_touches <;> simp [hs]
  | laneLockLoss => apply execLaneLockLoss_touches <;> simp [hs]
  | linkDown => apply execLinkDown_touches <;> simp [hs]
  | txLpiEntry => apply execTxLpiEntry_touches <;> simp [hs]
  | txLpiWake => apply execTxLpiWake_touches <;> simp [hs]
  | rxLpiChange => apply execRxLpiChange_touches <;> simp [hs]
  | laneCtrlWrite => apply execLaneCtrlWrite_touches <;> simp [hs]
  | eqOverrideWrite => apply execEqOverrideWrite_touches <;> simp [hs]
  | pfcReceive => apply execPfcReceive_touches <;> simp [hs]
  | pfcQuantaExpiry => apply execPfcQuantaExpiry_touches <;> simp [hs]
  | pfcResend => apply execPfcResend_touches <;> simp [hs]
  | etsCfgWrite => apply execEtsCfgWrite_touches <;> simp [hs]
  | preemptCfgWrite => apply execPreemptCfgWrite_touches <;> simp [hs]
  | preemptVerifyAttempt => apply execPreemptVerifyAttempt_touches <;> simp [hs]
  | preemptVerifyResponse => apply execPreemptVerifyResponse_touches <;> simp [hs]
  | eyeRefresh => apply execEyeRefresh_touches <;> simp [hs]
  | arm => apply execArm_touches <;> simp [hs]
  | bankAbort => apply execBankAbort_touches <;> simp [hs]
  | clearStats => apply execClearStats_touches <;> simp [hs]
  | csSelWrite => apply execCsSelWrite_touches <;> simp [hs]
  | stagingComplete => apply execStagingComplete_touches <;> simp [hs]
  | drainComplete => apply execDrainComplete_touches <;> simp [hs]
  | drainSlow => apply execDrainSlow_touches <;> simp [hs]
  | resyncComplete => apply execResyncComplete_touches <;> simp [hs]
  | cqDoorbell => apply execCqDoorbell_touches <;> simp [hs]
  | cqFetchErr => apply execCqFetchErr_touches <;> simp [hs]
  | cqEnable => apply execCqEnable_touches <;> simp [hs]
  | search => apply execSearch_touches <;> simp [hs]
  | next => apply execNext_touches <;> simp [hs]
  | insert => apply execInsert_touches <;> simp [hs]
  | delete => apply execDelete_touches <;> simp [hs]
  | modify => apply execModify_touches <;> simp [hs]
  | flushByPort => apply execFlushByPort_touches <;> simp [hs]
  | ageSweep => apply execAgeSweep_touches <;> simp [hs]
  | genDrain => apply execGenDrain_touches <;> simp [hs]
  | genDrainComplete => apply execGenDrainComplete_touches <;> simp [hs]
  | genDrainSlow => apply execGenDrainSlow_touches <;> simp [hs]
  | epochCommit => apply execEpochCommit_touches <;> simp [hs]
  | epochAbort => apply execEpochAbort_touches <;> simp [hs]
  | epochSealComplete => apply execEpochSealComplete_touches <;> simp [hs]
  | epochEffect => apply execEpochEffect_touches <;> simp [hs]
  | epochSettleComplete => apply execEpochSettleComplete_touches <;> simp [hs]
  | versionRetire => apply execVersionRetire_touches <;> simp [hs]
  | learnApply => apply execLearnApply_touches <;> simp [hs]
  | moveHoldExpiry => apply execMoveHoldExpiry_touches <;> simp [hs]
  | ageSweeperVisit => apply execAgeSweeperVisit_touches <;> simp [hs]
  | stashMoveBack => apply execStashMoveBack_touches <;> simp [hs]
  | shadowWrite => apply execShadowWrite_touches <;> simp [hs]
  | shadowReload => apply execShadowReload_touches <;> simp [hs]
  | mcgSelWrite => apply execMcgSelWrite_touches <;> simp [hs]
  | mcgCommit => apply execMcgCommit_touches <;> simp [hs]
  | poolCfgWrite => apply execPoolCfgWrite_touches <;> simp [hs]
  | qSelWrite => apply execQSelWrite_touches <;> simp [hs]
  | pgSelWrite => apply execPgSelWrite_touches <;> simp [hs]
  | cellEccError => apply execCellEccError_touches <;> simp [hs]
  | bankTaiSecond => apply execBankTaiSecond_touches <;> simp [hs]
  | spareCmd => apply execSpareCmd_touches <;> simp [hs]
  | spareCopyComplete => apply execSpareCopyComplete_touches <;> simp [hs]
  | mergeEnable => apply execMergeEnable_touches <;> simp [hs]
  | mergeDisable => apply execMergeDisable_touches <;> simp [hs]
  | mergeArrival => apply execMergeArrival_touches <;> simp [hs]
  | mergeEmit => apply execMergeEmit_touches <;> simp [hs]
  | seedDraw => apply execSeedDraw_touches <;> simp [hs]
  | seedPublish => apply execSeedPublish_touches <;> simp [hs]
  | memberAbsent => apply execMemberAbsent_touches <;> simp [hs]
  | memberPresent => apply execMemberPresent_touches <;> simp [hs]
  | releaseEnable => apply execReleaseEnable_touches <;> simp [hs]
  | releaseDisable => apply execReleaseDisable_touches <;> simp [hs]
  | releaseHold => apply execReleaseHold_touches <;> simp [hs]
  | releaseAtWrite => apply execReleaseAtWrite_touches <;> simp [hs]
  | releaseWindowOpen => apply execReleaseWindowOpen_touches <;> simp [hs]
  | releaseCutoff => apply execReleaseCutoff_touches <;> simp [hs]
  | releasePreempt => apply execReleasePreempt_touches <;> simp [hs]
  | release => apply execRelease_touches <;> simp [hs]
  | releaseWindowClose => apply execReleaseWindowClose_touches <;> simp [hs]
  | dEffChange => apply execDEffChange_touches <;> simp [hs]
  | disable => apply execDisable_touches <;> simp [hs]
  | contextArm => apply execContextArm_touches <;> simp [hs]
  | setExpected => apply execSetExpected_touches <;> simp [hs]
  | clearGaps => apply execClearGaps_touches <;> simp [hs]
  | ctxSelWrite => apply execCtxSelWrite_touches <;> simp [hs]
  | legDown => apply execLegDown_touches <;> simp [hs]
  | gapExpired => apply execGapExpired_touches <;> simp [hs]
  | retxRequestServe => apply execRetxRequestServe_touches <;> simp [hs]
  | tokenRefill => apply execTokenRefill_touches <;> simp [hs]
  | reqEnable => apply execReqEnable_touches <;> simp [hs]
  | contextLost => apply execContextLost_touches <;> simp [hs]
  | ledgerRecordEntry => apply execLedgerRecordEntry_touches <;> simp [hs]
  | selectionCommit => apply execSelectionCommit_touches <;> simp [hs]
  | anchorInstant => apply execAnchorInstant_touches <;> simp [hs]
  | anchorSigned => apply execAnchorSigned_touches <;> simp [hs]
  | anchorMissed => apply execAnchorMissed_touches <;> simp [hs]
  | blockWrite => apply execBlockWrite_touches <;> simp [hs]
  | ledgerEnable => apply execLedgerEnable_touches <;> simp [hs]
  | ledgerDisable => apply execLedgerDisable_touches <;> simp [hs]
  | streamEnableChange => apply execStreamEnableChange_touches <;> simp [hs]
  | sealWritten => apply execSealWritten_touches <;> simp [hs]
  | exportSend => apply execExportSend_touches <;> simp [hs]
  | counterEvent => apply execCounterEvent_touches <;> simp [hs]
  | evselWrite => apply execEvselWrite_touches <;> simp [hs]
  | bwEndRead => apply execBwEndRead_touches <;> simp [hs]
  | bwWindowClose => apply execBwWindowClose_touches <;> simp [hs]
  | snapAtWrite => apply execSnapAtWrite_touches <;> simp [hs]
  | snapCancel => apply execSnapCancel_touches <;> simp [hs]
  | snapshotClose => apply execSnapshotClose_touches <;> simp [hs]
  | snapshotComplete => apply execSnapshotComplete_touches <;> simp [hs]
  | snapSlow => apply execSnapSlow_touches <;> simp [hs]
  | traceEnable => apply execTraceEnable_touches <;> simp [hs]
  | counterEccError => apply execCounterEccError_touches <;> simp [hs]
  | powerVote => apply execPowerVote_touches <;> simp [hs]
  | holdoffExpiry => apply execHoldoffExpiry_touches <;> simp [hs]
  | privilegedAnswer => apply execPrivilegedAnswer_touches <;> simp [hs]
  | handshakeNoAnswer => apply execHandshakeNoAnswer_touches <;> simp [hs]
  | delayExpiry => apply execDelayExpiry_touches <;> simp [hs]
  | domainEntryComplete => apply execDomainEntryComplete_touches <;> simp [hs]
  | clockGate => apply execClockGate_touches <;> simp [hs]
  | avsAck => apply execAvsAck_touches <;> simp [hs]
  | avsTimeout => apply execAvsTimeout_touches <;> simp [hs]
  | wakeStageComplete => apply execWakeStageComplete_touches <;> simp [hs]
  | wakeStageTimeout => apply execWakeStageTimeout_touches <;> simp [hs]
  | reinitComplete => apply execReinitComplete_touches <;> simp [hs]
  | retryWake => apply execRetryWake_touches <;> simp [hs]
  | domSelWrite => apply execDomSelWrite_touches <;> simp [hs]
  | vddLowOff => apply execVddLowOff_touches <;> simp [hs]
  | xtalLost => apply execXtalLost_touches <;> simp [hs]
  | estimatorPeriod => apply execEstimatorPeriod_touches <;> simp [hs]
  | capWrite => apply execCapWrite_touches <;> simp [hs]
  | powerCalStart => apply execPowerCalStart_touches <;> simp [hs]
  | powerCalComplete => apply execPowerCalComplete_touches <;> simp [hs]
  | useFused => apply execUseFused_touches <;> simp [hs]
  | droopCrossing => apply execDroopCrossing_touches <;> simp [hs]
  | droopOverrun => apply execDroopOverrun_touches <;> simp [hs]
  | thermalSample => apply execThermalSample_touches <;> simp [hs]
  | thermtrip => apply execThermtrip_touches <;> simp [hs]
  | lineLatch => apply execLineLatch_touches <;> simp [hs]
  | lineStatusClear => apply execLineStatusClear_touches <;> simp [hs]
  | lineSelWrite => apply execLineSelWrite_touches <;> simp [hs]
  | escalationEnd => apply execEscalationEnd_touches <;> simp [hs]
  | gntRegParity => apply execGntRegParity_touches <;> simp [hs]
  | safeStateEntry => apply execSafeStateEntry_touches <;> simp [hs]
  | sequencerSeal => apply execSequencerSeal_touches <;> simp [hs]
  | faultSnapshotWrite => apply execFaultSnapshotWrite_touches <;> simp [hs]
  | snapSelWrite => apply execSnapSelWrite_touches <;> simp [hs]
  | scrubVisit => apply execScrubVisit_touches <;> simp [hs]
  | softRepair => apply execSoftRepair_touches <;> simp [hs]
  | seamWireCheck => apply execSeamWireCheck_touches <;> simp [hs]
  | seamSpareSwitch => apply execSeamSpareSwitch_touches <;> simp [hs]
  | seamFlitUncorrectable => apply execSeamFlitUncorrectable_touches <;> simp [hs]
  | wearHour => apply execWearHour_touches <;> simp [hs]
  | wearSelWrite => apply execWearSelWrite_touches <;> simp [hs]
  | hostLinkUp => apply execHostLinkUp_touches <;> simp [hs]
  | hostLinkDown => apply execHostLinkDown_touches <;> simp [hs]
  | hdmRead => apply execHdmRead_touches <;> simp [hs]
  | hdmWrite => apply execHdmWrite_touches <;> simp [hs]
  | atsInvalidation => apply execAtsInvalidation_touches <;> simp [hs]
  | mailboxGo => apply execMailboxGo_touches <;> simp [hs]
  | crownRingDoorbell => apply execCrownRingDoorbell_touches <;> simp [hs]
  | crownRingFetchErr => apply execCrownRingFetchErr_touches <;> simp [hs]
  | nop => apply execNop_touches <;> simp [hs]
  | getVersions => apply execGetVersions_touches <;> simp [hs]
  | bundleStage => apply execBundleStage_touches <;> simp [hs]
  | bundleDrop => apply execBundleDrop_touches <;> simp [hs]
  | ucodeLoad => apply execUcodeLoad_touches <;> simp [hs]
  | fwUpdate => apply execFwUpdate_touches <;> simp [hs]
  | fwConfirm => apply execFwConfirm_touches <;> simp [hs]
  | fwRollback => apply execFwRollback_touches <;> simp [hs]
  | fwAbort => apply execFwAbort_touches <;> simp [hs]
  | svnCommit => apply execSvnCommit_touches <;> simp [hs]
  | ddrRead => apply execDdrRead_touches <;> simp [hs]
  | fwSelftestDone => apply execFwSelftestDone_touches <;> simp [hs]
  | fwSwitchStart => apply execFwSwitchStart_touches <;> simp [hs]
  | fwSwitchComplete => apply execFwSwitchComplete_touches <;> simp [hs]
  | confirmTimeout => apply execConfirmTimeout_touches <;> simp [hs]
  | fwResyncComplete missed =>
    show Moves _ _ (execFwResyncComplete missed s)
    apply execFwResyncComplete_touches <;> simp [hs]
  | checkpointWrite => apply execCheckpointWrite_touches <;> simp [hs]
  | crownPairFailure => apply execCrownPairFailure_touches <;> simp [hs]
  | takeoverComplete => apply execTakeoverComplete_touches <;> simp [hs]
  | doeDiscovery => apply execDoeDiscovery_touches <;> simp [hs]
  | getVersion => apply execGetVersion_touches <;> simp [hs]
  | getCapabilities => apply execGetCapabilities_touches <;> simp [hs]
  | negotiateAlgorithms => apply execNegotiateAlgorithms_touches <;> simp [hs]
  | getDigests => apply execGetDigests_touches <;> simp [hs]
  | getCertificate => apply execGetCertificate_touches <;> simp [hs]
  | challenge => apply execChallenge_touches <;> simp [hs]
  | getMeasurements => apply execGetMeasurements_touches <;> simp [hs]
  | spdmUnsupportedRequest => apply execSpdmUnsupportedRequest_touches <;> simp [hs]
  | doeTimeout => apply execDoeTimeout_touches <;> simp [hs]
  | retxGibWrite => apply execRetxGibWrite_touches <;> simp [hs]
  | ddrTrainingComplete => apply execDdrTrainingComplete_touches <;> simp [hs]
  | marginCheck => apply execMarginCheck_touches <;> simp [hs]
  | ddrEccError => apply execDdrEccError_touches <;> simp [hs]
  | ddrScrubVisit => apply execDdrScrubVisit_touches <;> simp [hs]
  | dramTempRead => apply execDramTempRead_touches <;> simp [hs]
  | powerOnReset => apply execPowerOnReset_touches <;> simp [hs]
  | warmReset => apply execWarmReset_touches <;> simp [hs]
  | warmResetApply gpio0 testMode => exact execWarmResetApply_touchesAny gpio0 testMode
  | perst => apply execPerst_touches <;> simp [hs]
  | powerRemoval hold => exact execPowerRemoval_touchesAny hold
  | bootStepComplete => apply execBootStepComplete_touches <;> simp [hs]
  | bypass => apply execBypass_touches <;> simp [hs]
  | idcode => apply execIdcode_touches <;> simp [hs]
  | samplePreload => apply execSamplePreload_touches <;> simp [hs]
  | extest => apply execExtest_touches <;> simp [hs]
  | extestPulse => apply execExtestPulse_touches <;> simp [hs]
  | extestTrain => apply execExtestTrain_touches <;> simp [hs]
  | clamp => apply execClamp_touches <;> simp [hs]
  | highz => apply execHighz_touches <;> simp [hs]
  | clkOutEdge => apply execClkOutEdge_touches <;> simp [hs]
  | delayReqSend => apply execDelayReqSend_touches <;> simp [hs]
  | remoteFault => apply execRemoteFault_touches <;> simp [hs]
  | vddAonUp => apply execVddAonUp_touches <;> simp [hs]
  | selfRefreshEntry => apply execSelfRefreshEntry_touches <;> simp [hs]
  | snoop => apply execSnoop_touches <;> simp [hs]

/-- A step with a command in front runs it on the state with the queue's rest. -/
theorem step_of_front {c : Instr} {r : List Instr} {s : State} (h : s.pending = c :: r) :
    step s = exec c { s with pending := r } := by
  unfold step
  rw [h]

/-- A step moves only what a command may move, but for the front command, which it takes (log entry 4). -/
theorem step_canonical {s t : State} (h : step s = .next t) (hc : Canonical s) : Canonical t := by
  obtain ⟨hddr, hregs⟩ := hc
  cases hp : s.pending with
  | nil =>
    obtain rfl := Host.Outcome.next.inj ((step_of_empty hp).symm.trans h)
    have ht : Touches (fun _ => True) s (withdrawSteps (idleTick s)) :=
      withdrawSteps_touches trivial trivial trivial (idleTick_touches trivial trivial (Touches.refl _ s))
    exact ⟨ht.ddr hddr, ht.regs hregs⟩
  | cons c rest =>
    obtain ⟨u, hu, ht⟩ := exec_leaves_pending c { s with pending := rest }
    obtain rfl := Host.Outcome.next.inj (hu.symm.trans ((step_of_front hp).symm.trans h))
    exact ⟨ht.ddr hddr, ht.regs hregs⟩

/-- After a step the queue is what was behind its front. -/
theorem step_pending {s t : State} (h : step s = .next t) : t.pending = s.pending.tail := by
  cases hp : s.pending with
  | nil =>
    obtain rfl := Host.Outcome.next.inj ((step_of_empty hp).symm.trans h)
    exact (idleStep_only s .pending (by decide)).trans hp
  | cons c rest =>
    exact (exec_leaves_pending c { s with pending := rest }).same_of_next ((step_of_front hp).symm.trans h) .pending (by simp)

end Sys2Proof.Machine

namespace Sys2Proof

open Sys2Proof.Machine

/-- Settles O1: the queue is the model's (log entry 4). -/
theorem stepRunsTheFrontCommand : Obligations.StepRunsTheFrontCommand := fun _ _ _ => step_of_front rfl

/-- Settles O3: the state after reset lists nothing, and neither the safe state nor a reset holds (log entries 4 and 5). -/
theorem resetMeetsTheInvariants : Obligations.ResetMeetsTheInvariants := ⟨rfl, rfl, ⟨rfl, rfl⟩, rfl⟩

/-- Settles O4: a step takes the front command and adds none (log entry 4). -/
theorem stepKeepsTheQueueWellFormed : Obligations.StepKeepsTheQueueWellFormed := by
  unfold Obligations.StepKeepsTheQueueWellFormed QueueWf
  intro s t hs h
  rw [step_pending h, List.all_eq_true]
  exact fun c hc => List.all_eq_true.1 hs c (List.mem_of_mem_tail hc)

/-- Settles O5: every command keeps the registers' and DDR5's canonical forms, and so does an idle cycle (log entries 4 and 5). -/
theorem stepKeepsTheCanonicalForm : Obligations.StepKeepsTheCanonicalForm := fun _ _ hs h => step_canonical h hs

/-- Settles O6: every command answers a next state, with the queue as it was (log entry 4). -/
theorem noCommandTouchesTheQueue : Obligations.NoCommandTouchesTheQueue := by
  unfold Obligations.NoCommandTouchesTheQueue
  intro c s
  obtain ⟨t, ht, hm⟩ := exec_leaves_pending c s
  exact ⟨t, ht, hm.same .pending (by simp)⟩

end Sys2Proof
end

section
/-! SUPPORT. What a command's meaning gives of its outcome and frame, and the power domains as the operations of Mitten leave them
(R409 to R425). -/

namespace Sys2Proof.Machine

/-! ## Outcomes -/

section
variable {ps : List Piece} {c : Instr} {s t : State} {P : Prop}

/-- A command that answers a state named in full. -/
theorem exec_is (he : exec c s = .next t) (h : Moves (· ∈ ps) s (exec c s)) : exec c s = .next t ∧ Only ps s t :=
  ⟨he, only_of_exec he h⟩

theorem exec_is_and (he : exec c s = .next t) (h : Moves (· ∈ ps) s (exec c s)) (hp : P) :
    exec c s = .next t ∧ Only ps s t ∧ P := ⟨he, only_of_exec he h, hp⟩

/-- A command that answers some state of which a property is stated. -/
theorem exec_has {Q : State → Prop} (he : exec c s = .next t) (h : Moves (· ∈ ps) s (exec c s)) (hq : Q t) :
    ∃ t, exec c s = .next t ∧ Only ps s t ∧ Q t := ⟨t, he, only_of_exec he h, hq⟩

end

/-- A running device does what its meaning says, where the condition holds. -/
theorem State.running_given_of {s : State} {c : State → Bool} (hs : s.stopped = false) (hc : c s = true)
    (f : State → State → State) : (s.running fun s => s.given (c s) (f s)) = f s s := (State.running_of hs _).trans (State.given_of hc _)

/-- A guard of a mark and a condition, as the meanings have it. -/
theorem and_decide_of {a b : Nat} {p : Prop} [Decidable p] (h : a = b) (hp : p) : (a == b && decide p) = true :=
  Bool.and_eq_true_iff.2 ⟨beq_iff_eq.2 h, decide_eq_true hp⟩

/-- On one page a field keeps its value when an event sets another at a different place. -/
theorem State.rd_set1_of_place_ne (s : State) {page : Nat} {f g : Fld} (h : g.off * 8 + g.lo ≠ f.off * 8 + f.lo) :
    (s.set1 page f).rd page g = s.rd page g := State.rd_wr_of_place_ne s 1 h

/-- The clock of durations stands where TIME and its steps do. -/
theorem State.mono_congr {s t : State} (ht : t.time = s.time) (hh : t.hat = s.hat) : t.mono = s.mono := by
  unfold State.mono State.now
  rw [ht, hh]

/-! ## What leaves the domains -/

section
variable (s : State) (d : Nat)

theorem State.dom_congr {s t : State} (h : t.mtn.doms = s.mtn.doms) (d : Nat) : t.dom d = s.dom d := by
  unfold State.dom
  rw [h]

@[simp] theorem State.putBitAt_mtn (page : Nat) (f : Fld) (b : Nat) (v : Bool) : (s.putBitAt page f b v).mtn = s.mtn := rfl

@[simp] theorem State.vector_mtn (v : Nat) : (s.vector v).mtn = s.mtn :=
  Touches.same (ps := (· ≠ .mtn)) (State.vector_touches nofun nofun (Touches.refl _ s)) .mtn (by simp)

@[simp] theorem State.raise_mtn (page cause : Nat) : (s.raise page cause).mtn = s.mtn :=
  Touches.same (ps := (· ≠ .mtn)) (State.raise_touches nofun nofun nofun nofun (Touches.refl _ s)) .mtn (by simp)

@[simp] theorem showDom_mtn : (showDom d s).mtn = s.mtn := rfl

theorem State.putDom_mtn (x : Dom) : (s.putDom d x).mtn = { s.mtn with doms := s.mtn.doms.put {} d x } := by
  unfold State.putDom
  extract_lets old s1
  split
  · rw [State.vector_mtn]
    rfl
  · rfl

/-- A domain reads what was put, and every other one what it was. -/
theorem State.dom_putDom (x : Dom) (k : Nat) : (s.putDom d x).dom k = if k = d then x else s.dom k := by
  unfold State.dom
  rw [State.putDom_mtn]
  exact SMap.val_put _ _ _ _ _

theorem State.dom_putDom_self (x : Dom) : (s.putDom d x).dom d = x := by rw [State.dom_putDom, if_pos rfl]

theorem State.dom_putDom_of_ne (x : Dom) {k : Nat} (h : k ≠ d) : (s.putDom d x).dom k = s.dom k := by
  rw [State.dom_putDom, if_neg h]

@[simp] theorem sendAvs_doms (l : List AvsTx) : (sendAvs l s).mtn.doms = s.mtn.doms := by
  induction l generalizing s with
  | nil => rfl
  | cons tx r ih =>
    unfold sendAvs
    split
    · exact ih _
    all_goals rfl

@[simp] theorem queueAvs_doms (k : AvsKind) : (queueAvs k s).mtn.doms = s.mtn.doms := by
  unfold queueAvs
  split
  · exact sendAvs_doms _ _
  · rfl

@[simp] theorem refreshLow_doms : (refreshLow s).mtn.doms = s.mtn.doms := by
  unfold refreshLow
  split
  · rfl
  · split <;> rfl

/-! ## Entries, wakes and votes -/

/-- The start of an entry ends the hold-off and keeps the last answer (R415, R417). -/
theorem dom_startEntry (to_ : Nat) :
    ((startEntry d to_ s).dom d).holdFrom = none ∧ ((startEntry d to_ s).dom d).lastAnswer = (s.dom d).lastAnswer := by
  unfold startEntry
  extract_lets old x up s1
  have h1 : s1.dom d = { x with trans := 1, to_ := to_, since := s.mono, waitsLow := to_ == 2 && !up } := State.dom_putDom_self _ _ _
  split
  · rw [State.dom_putDom_self]
    exact ⟨rfl, rfl⟩
  · split
    · rw [State.dom_congr (queueAvs_doms s1 .low), h1]
      exact ⟨rfl, rfl⟩
    · rw [State.dom_congr (refreshLow_doms s1), h1]
      exact ⟨rfl, rfl⟩

theorem dom_startWake_firmware : ((startWake d s).dom d).firmware = (s.dom d).firmware := by
  unfold startWake
  extract_lets old x s1
  split
  · rw [State.dom_putDom_self]
  · have h1 : (s1.dom d).firmware = (s.dom d).firmware := by
      rw [State.dom_putDom_self]
    split
    · exact h1
    · rw [State.dom_congr (queueAvs_doms s1 _), h1]

/-- What follows from a change of the votes keeps the vote of the firmware (R414). -/
theorem dom_recomputeDom_firmware : ((recomputeDom d s).dom d).firmware = (s.dom d).firmware := by
  unfold recomputeDom
  extract_lets x t y idle
  have hput (z : Dom) (hz : z.firmware = x.firmware) : ((s.putDom d z).dom d).firmware = (s.dom d).firmware := by
    rw [State.dom_putDom_self, hz]
  split
  · split
    · split
      · exact hput _ rfl
      · exact (dom_startWake_firmware _ d).trans (hput _ rfl)
    · split <;> exact hput _ rfl
  all_goals exact hput _ rfl

end

theorem domainOfPage_pageOfDomain (d : Fin 209) : domainOfPage (pageOfDomain d.val) = some d.val := by
  revert d
  decide +kernel

end Sys2Proof.Machine
end

section
/-! SUPPORT. What a register of a page's body reads after a count or a cause (R43, R48). -/

namespace Sys2Proof.Machine

section
variable (s : State) (page : Nat)

/-- A key behind the header of its page lies in no page's header. -/
theorem offHeader_of_body {f : Fld} (h : 0x400 ≤ f.off * 8 + f.lo ∧ f.off * 8 + f.lo < 0x8000) (p : Nat) :
    OffHeader (· = f.key page 0 0) p := by
  rintro _ rfl
  unfold Fld.key
  omega

/-- A cause that fires leaves every field behind the headers (R48). -/
theorem State.rd_raise_of_body (p : Nat) {cause : Nat} (hc : cause < 64) {f : Fld}
    (h : 0x400 ≤ f.off * 8 + f.lo ∧ f.off * 8 + f.lo < 0x8000) : (s.raise p cause).rd page f = s.rd page f :=
  ((RegsKept.refl _ s).raise (offHeader_of_body page h p) hc).rd rfl

theorem State.rd_bump_of_place_ne {f g : Fld} (n : Nat) (h : g.off * 8 + g.lo ≠ f.off * 8 + f.lo) :
    (s.bump page f n).rd page g = s.rd page g := by
  rw [State.bump]
  exact ((RegsKept.refl (· = g.key page 0 0) s).bumpi (fun he => Fld.key_ne_of_place_ne page h he.symm) n).rd rfl

end

end Sys2Proof.Machine
end

section
/-! PROOF. O38: votes, hold-off, privileged handshakes and entries of power domains (R412 to R429). -/

namespace Sys2Proof.Machine

/-! ## DOM_SEL (R429) -/

theorem State.wakeClock_mitten (s : State) : s.wakeClock 0x31 = s := rfl

/-- What DOM_SEL shows of a domain; a number above 208 names none, and the write is noted as dropped. -/
theorem rd_selectDom (d : Nat) (s : State) :
    (selectDom d s).rd 0x31 F.mtn1_DOM_SEL_DOMAIN = d % 2 ^ 8 ∧
      (selectDom d s).rd 0x31 F.mtn1_DOM_STATUS_HOLDERS = (if d ≤ 208 then (s.dom d).holders else 0) % 2 ^ 9 ∧
      (selectDom d s).rd 0x31 F.mtn1_DOM_CFG_HOLDOFF_US = (if d ≤ 208 then (s.dom d).holdoff else 0) % 2 ^ 16 ∧
      (208 < d → (selectDom d s).rd 0x31 F.hdr_PAGE_STATUS_WRITE_DROPPED = 1) := by
  by_cases h : d ≤ 208
  · simp (disch := decide) only [selectDom, h, if_true, List.foldl_cons, List.foldl_nil, State.rd_wr_of_place_ne, State.rd_wr_self]
    exact ⟨rfl, rfl, rfl, fun hd => absurd h (Nat.not_le.2 hd)⟩
  · simp (disch := decide) only [selectDom, h, if_false, State.rd_set1_of_place_ne, List.foldl_cons, List.foldl_nil, State.rd_wr_of_place_ne,
      State.rd_wr_self, State.rd_set1_self]
    exact ⟨rfl, rfl, rfl, fun _ => rfl⟩

theorem selectDom_regsOnly (d : Nat) (s : State) : RegsOnly [0x31] s (selectDom d s) := by
  unfold selectDom
  extract_lets p x vals s1
  have h1 : RegsOnly [0x31] s s1 := RegsOnly.foldl_wr (RegsOnly.refl _ s) (by simp only [vals, List.forall_mem_cons]; decide) _
  split
  · exact h1
  · exact h1.trans (set1_regsOnly _ _ (by decide))

/-! ## The end of a hold-off (R415, R417) -/

/-- A domain waits in a hold-off for a state deeper than its own. -/
def Dom.entryDue (x : Dom) : Bool := x.holdFrom.isSome && x.trans == 0 && decide (x.state < x.target)

/-- At the end of its hold-off an unprivileged domain starts its entry, and the owner of a privileged one is asked. -/
def holdoffEnds (d : Nat) (s : State) : State :=
  if privileged d then s.putDom d { s.dom d with holdFrom := none, asked := 1, askTo := (s.dom d).target, askAt := s.mono }
  else startEntry d (s.dom d).target s

/-- The end of a hold-off takes the votes as they stand, and an entry may start. -/
theorem exec_holdoffExpiry {domain : Fin 209} {a : T80} {s : State} (hs : s.stopped = false)
    (ha : (s.dom domain.val).holdFrom = some a) (hdue : a + ns (1000 * (s.dom domain.val).holdoff) ≤ s.mono) :
    exec (.holdoffExpiry domain) s = .next ((recomputeDom domain.val s).given ((recomputeDom domain.val s).dom domain.val).entryDue
      (holdoffEnds domain.val)) := by
  refine congrArg Host.Outcome.next ((State.running_of hs _).trans (State.given_of ?_ _))
  rw [ha]
  exact decide_eq_true hdue

theorem recomputeDom_mono (d : Nat) (s : State) : (recomputeDom d s).mono = s.mono := by
  have h : Touches (fun p => p ≠ .time ∧ p ≠ .hat) s (recomputeDom d s) := by
    apply recomputeDom_touches <;> simp [Touches.refl]
  exact State.mono_congr (h.same .time (by simp)) (h.same .hat (by simp))

/-! ## Frames -/

theorem powerVote_moves (domain : Fin 209) (source : Fin 3) (vote : Fin 8) (s : State) :
    Moves (· ∈ [.regs, .out, .host, .mtn]) s (exec (.powerVote domain source vote) s) := by
  apply execPowerVote_touches <;> simp [Touches.refl]

theorem holdoffExpiry_moves (domain : Fin 209) (s : State) :
    Moves (· ∈ [.regs, .out, .host, .mtn]) s (exec (.holdoffExpiry domain) s) := by
  apply execHoldoffExpiry_touches <;> simp [Touches.refl]

theorem privilegedAnswer_moves (domain : Fin 209) (busy : Bool) (delay : BitVec 16) (s : State) :
    Moves (· ∈ [.regs, .out, .host, .mtn]) s (exec (.privilegedAnswer domain busy delay) s) := by
  apply execPrivilegedAnswer_touches <;> simp [Touches.refl]

end Sys2Proof.Machine

namespace Sys2Proof

open Sys2Proof.Machine

/-- Settles O38, command by command. The model's choices in it are what the sources 0, 1 and 2 of POWER_VOTE stand for (log entry 118),
and that a privileged block delays before it refuses (116). -/
theorem votesAndEntriesComplete : Obligations.VotesAndEntriesComplete := by
  unfold Obligations.VotesAndEntriesComplete
  refine ⟨?_, ?_, ?_, ?_, ?_, ?_, ?_, ?_, ?_, ?_, ?_, ?_, ?_, ?_, ?_, ?_⟩
  · intro domain source vote s hs
    refine exec_is_and (congrArg Host.Outcome.next ?_) (powerVote_moves _ _ _ _) fun h0 hv => ?_
    · obtain rfl | rfl | rfl : source = 0 ∨ source = 1 ∨ source = 2 := by omega
      · exact if_neg (by rw [hs]; exact Bool.false_ne_true)
      · exact State.running_of hs _
      · exact State.running_of hs _
    · rw [h0]
      unfold writeVote
      rw [domainOfPage_pageOfDomain]
      exact if_pos (by omega)
  · intro domain vote s hs h5 h6
    refine exec_is (congrArg Host.Outcome.next ((if_neg (by simp [hs])).trans ?_)) (powerVote_moves _ _ _ _)
    unfold writeVote
    rw [domainOfPage_pageOfDomain]
    exact if_neg (by omega)
  · intro domain vote s hs
    refine exec_is_and (congrArg Host.Outcome.next (State.running_of hs _)) (powerVote_moves _ _ _ _) ?_
    rw [dom_recomputeDom_firmware, State.dom_putDom_self]
  · intro domain vote s hs
    exact exec_is (congrArg Host.Outcome.next (State.running_of hs _)) (powerVote_moves _ _ _ _)
  · intro domain a s hs ha hdue hgo hd
    refine exec_is_and ?_ (holdoffExpiry_moves _ _) (dom_startEntry _ _ _).1
    refine (exec_holdoffExpiry hs ha hdue).trans (congrArg Host.Outcome.next ((State.given_of hgo _).trans (if_neg ?_)))
    simpa [privileged] using hd
  · intro domain a s hs ha hdue hgo hd
    refine exec_has ((exec_holdoffExpiry hs ha hdue).trans (congrArg Host.Outcome.next ((State.given_of hgo _).trans (if_pos ?_))))
      (holdoffExpiry_moves _ _) ⟨?_, fun d hne => State.dom_putDom_of_ne _ _ _ hne⟩
    · simpa [privileged] using hd
    · rw [State.dom_putDom_self, recomputeDom_mono]
  · intro domain a s hs ha hdue hgo
    exact exec_is ((exec_holdoffExpiry hs ha hdue).trans (congrArg Host.Outcome.next (if_neg (by rw [Dom.entryDue, hgo]; decide))))
      (holdoffExpiry_moves _ _)
  · intro domain busy delay s hs ha hdue hdelay
    refine exec_has (congrArg Host.Outcome.next ((State.running_given_of hs (and_decide_of ha hdue) _).trans (if_pos hdelay)))
      (privilegedAnswer_moves _ _ _ _) ⟨State.dom_putDom_self _ _ _, fun d hne => State.dom_putDom_of_ne _ _ _ hne⟩
  · intro domain busy delay s hs ha hdue hdelay href
    refine exec_is_and (congrArg Host.Outcome.next ((State.running_given_of hs (and_decide_of ha hdue) _).trans
      ((if_neg (by simp [hdelay])).trans (if_pos href)))) (privilegedAnswer_moves _ _ _ _) ?_
    · rw [(dom_startEntry _ _ _).2, State.dom_putDom_self]
  · intro domain busy delay s hs ha hdue hdelay href
    refine exec_has (congrArg Host.Outcome.next ((State.running_given_of hs (and_decide_of ha hdue) _).trans
      ((if_neg (by simp [hdelay])).trans (if_neg href)))) (privilegedAnswer_moves _ _ _ _) ?_
    · have hdom := State.dom_congr (congrArg Mitten.doms (State.vector_mtn (s.putDom domain.val { s.dom domain.val with
        asked := 3, lastAnswer := 3, reason := s.refuses domain.val (s.dom domain.val).askTo }) 35))
      exact ⟨(hdom _).trans (State.dom_putDom_self _ _ _), fun d hne => (hdom d).trans (State.dom_putDom_of_ne _ _ _ hne)⟩
  · intro domain s hs ha hdue
    refine exec_has (congrArg Host.Outcome.next (State.running_given_of hs (and_decide_of ha hdue) _))
      (by apply execHandshakeNoAnswer_touches <;> simp [Touches.refl]) ?_
    have hdom (k : Nat) := State.dom_congr (s := s.putDom domain.val { s.dom domain.val with asked := 3, lastAnswer := 4, reason := 4 })
      (t := ((s.putDom domain.val { s.dom domain.val with asked := 3, lastAnswer := 4, reason := 4 }).raise 0x30 4).vector 35)
      (by rw [State.vector_mtn, State.raise_mtn]) k
    exact ⟨(hdom _).trans (State.dom_putDom_self _ _ _), fun d hne => (hdom d).trans (State.dom_putDom_of_ne _ _ _ hne)⟩
  · intro domain s hs ha hdue
    exact exec_has (congrArg Host.Outcome.next (State.running_given_of hs (and_decide_of ha hdue) _))
      (by apply execDelayExpiry_touches <;> simp [Touches.refl])
      ⟨State.dom_putDom_self _ _ _, fun d hne => State.dom_putDom_of_ne _ _ _ hne⟩
  · intro domain s ht hw
    exact exec_is (congrArg Host.Outcome.next (State.given_of (by simp [ht, hw]) _))
      (by apply execDomainEntryComplete_touches <;> simp [Touches.refl])
  · intro domain demand s hst ht
    exact exec_is (congrArg Host.Outcome.next (State.given_of (by simp [hst, ht]) _))
      (by apply execClockGate_touches <;> simp [Touches.refl])
  · intro domain s hs hsh hd
    have hread := rd_selectDom domain.toNat s
    rw [if_pos hd, if_pos hd] at hread
    obtain ⟨hsel, hholders, hholdoff, -⟩ := hread
    exact exec_has (congrArg Host.Outcome.next (State.written_of hs hsh _)) (by apply execDomSelWrite_touches <;> simp [Touches.refl])
      ⟨hsel.trans (Nat.mod_eq_of_lt domain.isLt), hholders, hholdoff, selectDom_regsOnly _ _⟩
  · intro domain s hs hsh hd
    obtain ⟨-, hholders, -, hdropped⟩ := rd_selectDom domain.toNat s
    rw [if_neg (Nat.not_le.2 hd)] at hholders
    exact exec_has (congrArg Host.Outcome.next (State.written_of hs hsh _)) (by apply execDomSelWrite_touches <;> simp [Touches.refl])
      ⟨hdropped hd, hholders, selectDom_regsOnly _ _⟩

end Sys2Proof
end

section
/-! PROOF. O39: AVSBus, wakes and their retries, VDD_LOW and the crystal (R420 to R428). -/

namespace Sys2Proof.Machine

/-! ## What the work on a domain and on AVSBus leaves of the registers -/

section
variable {K : Nat → Prop} {s t : State}

/-- The registers of a run of whole 64-bit words begin at the first bit of a register. -/
theorem Fld.key_mod_of_words {f : Fld} (hlo : f.lo = 0) (hstride : f.stride = 8) (hbst : f.bst = 0) (page i : Nat) :
    f.key page i 0 % 64 = f.off * 8 % 64 := by
  unfold Fld.key
  rw [hlo, hstride, hbst]
  omega

/-- A bit address outside all headers and not at the first bit of a register is written by no transition. -/
theorem offDomain_of_key {k : Nat} (hk : 0x400 ≤ k % 0x8000) (hbit : k % 64 ≠ 0) (d : Nat) : OffDomain (· = k) d where
  header j hj := by subst hj; omega
  asleep h := hbit (h ▸ Fld.key_mod_of_words rfl rfl rfl 0x31 (d / 64))
  failed h := hbit (h ▸ Fld.key_mod_of_words rfl rfl rfl 0x31 (d / 64))
  busy h := hbit (h ▸ rfl)

theorem RegsKept.refreshLow (h : RegsKept K s t) : RegsKept K s (refreshLow t) := by
  unfold Machine.refreshLow
  split
  · exact h
  · split <;> exact h

/-- The domains that wait for VDD_LOW go on once it is up, and their pages show it. -/
theorem RegsKept.lowReady (h : RegsKept K s t) (hd : ∀ d, OffDomain K d) : RegsKept K s (lowReady false t) :=
  RegsKept.foldl h fun _ p _ hu => hu.putDom (hd p.1) _

end

/-! ## AVSBus (R421, R422, R439) -/

/-- A request that is no withdrawal goes out at the head of the queue. -/
theorem head_sendAvs {tx : AvsTx} (hk : ∀ d, tx.kind ≠ .withdraw d) (r : List AvsTx) (s : State) :
    (sendAvs (tx :: r) s).mtn.avs.head?.map (fun x => x.tries) = some tx.tries := by
  unfold sendAvs
  split
  · next d h => exact absurd h (hk d)
  all_goals rfl

/-- How often a transaction is sent in all: four times for a wake, three times for another. -/
def AvsKind.tries : AvsKind → Nat
  | .wake _ => 4
  | _ => 3

/-- A try of a wake's transaction counts among the domain's retries. -/
def retried (tx : AvsTx) (s : State) : State :=
  match tx.kind with
  | .wake d => s.putDom d { s.dom d with retries := sat 16 ((s.dom d).retries + 1) }
  | _ => s

/-- What the end of the last try brings: the wake fails, the entries take DROWSE without VDD_LOW, or the step is given up. -/
def givenUp (tx : AvsTx) (r : List AvsTx) (s : State) : State :=
  match tx.kind with
  | .wake d => wakeFails d 1 { s with mtn := { s.mtn with avs := r } }
  | .low => lowReady true s
  | .cap _ => (({ s with pwc := { s.pwc with down := 0, up := 0 } }.wr 0x40 F.pwc0_VOLT_STATUS_STEP_BUSY 0).bump 0x40
      F.pwc0_VOLT_STATUS_NO_ACK).raise 0x40 9
  | .withdraw _ => s

section
variable {tx : AvsTx} {r : List AvsTx} {s : State} (hq : s.mtn.avs = tx :: r) (hdue : tx.since + ns 200000 ≤ s.mono)
  (hack : s.pending.any (· == .avsAck) = false)
include hq hdue hack

/-- After 200,000 ns without an acknowledgement the transaction is sent again, or is given up (R422, R427). -/
theorem avsTimeout_of_due : avsTimeout s =
    if tx.tries + 1 < tx.kind.tries then
      sendAvs ({ tx with tries := tx.tries + 1 } :: r) (retried tx (s.bump 0x32 F.mtn2_AVS_STATUS_NO_ACK))
    else sendAvs r (givenUp tx r (s.bump 0x32 F.mtn2_AVS_STATUS_NO_ACK)) := by
  have hno : (decide (s.mono < tx.since + ns 200000) || s.pending.any (· == .avsAck)) = false := by
    rw [hack, decide_eq_false (Nat.not_lt.2 hdue)]
    rfl
  unfold avsTimeout
  rw [hq]
  dsimp only
  rw [hno]
  rfl

theorem exec_avsTimeout_again (ht : tx.tries + 1 < tx.kind.tries) : exec .avsTimeout s =
    .next (sendAvs ({ tx with tries := tx.tries + 1 } :: r) (retried tx (s.bump 0x32 F.mtn2_AVS_STATUS_NO_ACK))) :=
  congrArg Host.Outcome.next ((avsTimeout_of_due hq hdue hack).trans (if_pos ht))

theorem exec_avsTimeout_last (ht : tx.kind.tries ≤ tx.tries + 1) : exec .avsTimeout s =
    .next (sendAvs r (givenUp tx r (s.bump 0x32 F.mtn2_AVS_STATUS_NO_ACK))) :=
  congrArg Host.Outcome.next ((avsTimeout_of_due hq hdue hack).trans (if_neg (Nat.not_lt.2 ht)))

end

theorem avsTimeout_moves (s : State) : Moves (· ∈ [.regs, .free, .out, .ddr, .poison, .host, .latches, .hat, .stamps, .brim,
    .mtn, .pwc, .crown, .dram]) s (exec .avsTimeout s) := by
  apply execAvsTimeout_touches <;> simp [Touches.refl]

/-- What an acknowledgement brings: an inrush step in force, VDD_LOW up, or the setpoint moved. -/
def acknowledged (tx : AvsTx) (s : State) : State :=
  match tx.kind with
  | .wake d =>
    let s2 := { s with mtn := { s.mtn with steps := s.mtn.steps ++ [({ domain := d, mv := s.stepMv } : Inrush)] } }
    if (s2.dom d).trans = 2 ∧ (s2.dom d).stage = 1 then toStage d 2 s2 else s2
  | .low => refreshLow (lowReady false (s.wr 0x32 F.mtn2_AVS_STATUS_VDD_LOW_UP 1))
  | .cap up => refreshFloor (((s.wr 0x40 F.pwc0_VOLT_STATUS_SETPOINT_MV (s.steppedMv up)).wr 0x40 F.pwc0_VOLT_STATUS_STEP_BUSY 0).bump
      0x40 F.pwc0_VOLT_STATUS_STEPS)
  | .withdraw _ => s

theorem exec_avsAck {tx : AvsTx} {r : List AvsTx} {s : State} (hq : s.mtn.avs = tx :: r) : exec .avsAck s =
    .next (sendAvs r (acknowledged tx { s with mtn := { s.mtn with avs := r } })) := by
  refine congrArg Host.Outcome.next ?_
  unfold avsAck
  rw [hq]
  rfl

theorem avsAck_moves (s : State) : Moves (· ∈ [.regs, .out, .host, .latches, .mtn, .dram]) s (exec .avsAck s) := by
  apply execAvsAck_touches <;> simp [Touches.refl]

/-- A step of VDD_CORE that is acknowledged leaves the next one free to start. -/
theorem stepBusy_after_cap (up : Bool) (r : List AvsTx) (s : State) :
    (sendAvs r (refreshFloor (((s.wr 0x40 F.pwc0_VOLT_STATUS_SETPOINT_MV (s.steppedMv up)).wr 0x40 F.pwc0_VOLT_STATUS_STEP_BUSY 0).bump
      0x40 F.pwc0_VOLT_STATUS_STEPS))).on 0x40 F.pwc0_VOLT_STATUS_STEP_BUSY = false := by
  have hkept (t : State) : RegsKept (· = F.pwc0_VOLT_STATUS_STEP_BUSY.key 0x40 0 0) t
      (sendAvs r (refreshFloor (t.bump 0x40 F.pwc0_VOLT_STATUS_STEPS))) :=
    (((RegsKept.refl _ t).bumpi (by decide) 1).wr (by decide) _).sendAvs (by decide) r
  rw [(hkept _).on rfl]
  unfold State.on
  rw [State.rd_wr_self]
  rfl

theorem lowUp_after_low (r : List AvsTx) (s : State) :
    (sendAvs r (refreshLow (lowReady false (s.wr 0x32 F.mtn2_AVS_STATUS_VDD_LOW_UP 1)))).on 0x32 F.mtn2_AVS_STATUS_VDD_LOW_UP = true := by
  have hoff : ∀ d, OffDomain (· = F.mtn2_AVS_STATUS_VDD_LOW_UP.key 0x32 0 0) d := offDomain_of_key (by decide) (by decide)
  have hkept (t : State) : RegsKept (· = F.mtn2_AVS_STATUS_VDD_LOW_UP.key 0x32 0 0) t (sendAvs r (refreshLow (lowReady false t))) :=
    ((RegsKept.refl _ t).lowReady hoff).refreshLow.sendAvs (hoff 0).busy r
  rw [(hkept _).on rfl]
  unfold State.on
  rw [State.rd_wr_self]
  rfl

/-! ## VDD_LOW and the crystal (R420, R428) -/

/-- VDD_LOW is dropped. -/
def lowOff (s : State) : State := refreshLow ((s.wr 0x32 F.mtn2_AVS_STATUS_VDD_LOW_UP 0).send (.avs "VDD_LOW" 0))

theorem lowOff_drops (s : State) : (lowOff s).regs = (s.wr 0x32 F.mtn2_AVS_STATUS_VDD_LOW_UP 0).regs ∧ (lowOff s).mtn.lowSince = none ∧
    (lowOff s).out = .avs "VDD_LOW" 0 :: s.out := by
  have hdown : (s.wr 0x32 F.mtn2_AVS_STATUS_VDD_LOW_UP 0).on 0x32 F.mtn2_AVS_STATUS_VDD_LOW_UP = false := by
    unfold State.on
    rw [State.rd_wr_self]
    rfl
  unfold lowOff refreshLow
  rw [if_pos (by rw [Bool.or_eq_true, Bool.not_eq_true']; exact .inr hdown)]
  exact ⟨rfl, rfl, rfl⟩

/-- The always-on clock runs on its other source, and the loss is noted. -/
def xtalOff (s : State) : State := (s.wr 0x30 F.mtn0_MTN_STATUS_AON_SOURCE 1).set1 0x30 F.mtn0_MTN_STATUS_XTAL_LOST

theorem on_xtalOff (s : State) : (xtalOff s).on 0x30 F.mtn0_MTN_STATUS_AON_SOURCE = true ∧
    (xtalOff s).on 0x30 F.mtn0_MTN_STATUS_XTAL_LOST = true := by
  unfold State.on xtalOff
  rw [State.rd_set1_self, State.rd_set1_of_place_ne _ (by decide), State.rd_wr_self]
  exact ⟨rfl, rfl⟩

/-! ## Wakes that fail (R425) -/

theorem bandFollows_mtn (d : Nat) (s : State) : (bandFollows d s).mtn = s.mtn :=
  Touches.same (ps := (· ≠ .mtn)) (by apply bandFollows_touches <;> simp [Touches.refl]) .mtn (by simp)

theorem loseDomain_mtn (d : Nat) (s : State) : (loseDomain d s).mtn = s.mtn :=
  Touches.same (ps := (· ≠ .mtn)) (by apply loseDomain_touches <;> simp [Touches.refl]) .mtn (by simp)

/-- A wake that fails leaves its domain in OFF, with every vote for it denied. -/
theorem dom_wakeFails (d code : Nat) (s : State) :
    ((wakeFails d code s).dom d).state = 4 ∧ ((wakeFails d code s).dom d).denied = true := by
  unfold wakeFails
  extract_lets x s1 mtn s2 s3
  have hdoms : s3.mtn.doms = s1.mtn.doms := by
    refine (congrArg Mitten.doms (State.vector_mtn _ _)).trans (Eq.trans ?_ (show s2.mtn.doms = s1.mtn.doms from rfl))
    split
    · rfl
    · exact congrArg Mitten.doms (loseDomain_mtn d s2)
  have hend {t : State} (ht : t.mtn = s3.mtn) : (t.dom d).state = 4 ∧ (t.dom d).denied = true := by
    rw [State.dom_congr (congrArg Mitten.doms ht), State.dom_congr hdoms, State.dom_putDom_self]
    exact ⟨rfl, rfl⟩
  split
  · exact hend (State.raise_mtn _ _ _)
  · split
    · exact hend ((bandFollows_mtn _ _).trans (State.raise_mtn _ _ _))
    · exact hend (State.raise_mtn _ _ _)

theorem retryWake_of_denied {s : State} (hd : s.rd 0x31 F.mtn1_DOM_SEL_DOMAIN ≤ 208)
    (hdenied : (s.dom (s.rd 0x31 F.mtn1_DOM_SEL_DOMAIN)).denied = true) (ht : (s.dom (s.rd 0x31 F.mtn1_DOM_SEL_DOMAIN)).trans = 0) :
    retryWake s = startWake (s.rd 0x31 F.mtn1_DOM_SEL_DOMAIN) (s.putDom (s.rd 0x31 F.mtn1_DOM_SEL_DOMAIN)
      { s.dom (s.rd 0x31 F.mtn1_DOM_SEL_DOMAIN) with denied := false }) := by
  unfold retryWake
  exact State.given_of (Bool.and_eq_true_iff.2 ⟨Bool.and_eq_true_iff.2 ⟨decide_eq_true hd, hdenied⟩, beq_iff_eq.2 ht⟩) _

end Sys2Proof.Machine

namespace Sys2Proof

open Sys2Proof.Machine

/-- Settles O39, command by command. -/
theorem wakeAndSupplyCommandsComplete : Obligations.WakeAndSupplyCommandsComplete := by
  unfold Obligations.WakeAndSupplyCommandsComplete
  refine ⟨?_, ?_, ?_, ?_, ?_, ?_, ?_, ?_, ?_, ?_, ?_, ?_, ?_, ?_, ?_, ?_, ?_⟩
  · intro tx r up s hq hk
    refine exec_is_and ((exec_avsAck hq).trans ?_) (avsAck_moves s) (stepBusy_after_cap up r _)
    rw [acknowledged, hk]
    rfl
  · intro tx r s hq hk
    refine exec_is_and ((exec_avsAck hq).trans ?_) (avsAck_moves s) (lowUp_after_low r _)
    rw [acknowledged, hk]
  · intro tx r d s hq hk ht hst
    refine exec_is ((exec_avsAck hq).trans ?_) (avsAck_moves s)
    rw [acknowledged, hk]
    exact congrArg (fun t => Host.Outcome.next (sendAvs r t)) (if_pos ⟨ht, hst⟩)
  · intro tx r d s hq hk hne
    refine exec_is ((exec_avsAck hq).trans ?_) (avsAck_moves s)
    rw [acknowledged, hk]
    exact congrArg (fun t => Host.Outcome.next (sendAvs r t)) (if_neg fun h => hne.elim (· h.1) (· h.2))
  · intro tx r s hq hdue hack hk ht
    refine exec_is_and ((exec_avsTimeout_again hq hdue hack (by rw [hk]; exact Nat.succ_lt_succ ht)).trans ?_) (avsTimeout_moves s)
      (head_sendAvs (by simp [hk]) r _)
    rw [retried, hk]
  · intro tx r s hq hdue hack hk ht
    refine exec_is ((exec_avsTimeout_last hq hdue hack (by rw [hk]; exact Nat.succ_le_succ ht)).trans ?_) (avsTimeout_moves s)
    rw [givenUp, hk]
  · intro tx r d s hq hdue hack hk ht
    refine exec_is ((exec_avsTimeout_again hq hdue hack (by rw [hk]; exact Nat.succ_lt_succ ht)).trans ?_) (avsTimeout_moves s)
    rw [retried, hk]
    rfl
  · intro tx r d s hq hdue hack hk ht
    refine exec_is ((exec_avsTimeout_last hq hdue hack (by rw [hk]; exact Nat.succ_le_succ ht)).trans ?_) (avsTimeout_moves s)
    rw [givenUp, hk]
    rfl
  · intro tx r up s hq hdue hack hk ht
    refine exec_is ((exec_avsTimeout_again hq hdue hack (by rw [hk]; exact Nat.succ_lt_succ ht)).trans ?_) (avsTimeout_moves s)
    rw [retried, hk]
  · intro tx r up s hq hdue hack hk ht
    refine exec_is ((exec_avsTimeout_last hq hdue hack (by rw [hk]; exact Nat.succ_le_succ ht)).trans ?_) (avsTimeout_moves s)
    rw [givenUp, hk]
    rfl
  · intro domain lost s ht
    exact exec_is (congrArg Host.Outcome.next (State.given_of (beq_iff_eq.2 ht) _))
      (by apply execWakeStageComplete_touches <;> simp [Touches.refl])
  · intro domain s ht hst hdue htries
    have hc := Bool.and_eq_true_iff.2 ⟨Bool.and_eq_true_iff.2 ⟨beq_iff_eq.2 ht, beq_iff_eq.2 hst⟩, decide_eq_true hdue⟩
    exact exec_has (congrArg Host.Outcome.next ((State.given_of hc _).trans (if_pos htries)))
      (by apply execWakeStageTimeout_touches <;> simp [Touches.refl])
      ⟨State.dom_putDom_self _ _ _, fun d hne => State.dom_putDom_of_ne _ _ _ hne⟩
  · intro domain s ht hst hdue htries
    have hc := Bool.and_eq_true_iff.2 ⟨Bool.and_eq_true_iff.2 ⟨beq_iff_eq.2 ht, beq_iff_eq.2 hst⟩, decide_eq_true hdue⟩
    exact exec_is_and (congrArg Host.Outcome.next ((State.given_of hc _).trans (if_neg (Nat.not_lt.2 htries))))
      (by apply execWakeStageTimeout_touches <;> simp [Touches.refl]) (dom_wakeFails _ _ _)
  · intro domain s ht hst htrain
    refine exec_is (congrArg Host.Outcome.next (State.given_of ?_ _)) (by apply execReinitComplete_touches <;> simp [Touches.refl])
    rw [htrain, ht, hst]
    rfl
  · intro s hs hsh hd hdenied ht
    exact exec_is (congrArg Host.Outcome.next ((State.written_of hs hsh retryWake).trans (retryWake_of_denied (s := s) hd hdenied ht)))
      (by apply execRetryWake_touches <;> simp [Touches.refl])
  · intro a s hlow hdue
    have he : exec .vddLowOff s = .next (lowOff s) := by
      refine congrArg Host.Outcome.next ?_
      rw [hlow]
      exact State.given_of (decide_eq_true hdue) _
    obtain ⟨hregs, hsince, hout⟩ := lowOff_drops s
    refine exec_has he (by apply execVddLowOff_touches <;> simp [Touches.refl]) ⟨?_, hsince, hout, ?_⟩
    · exact (State.rdx_congr hregs _ _ 0 0).trans (State.rd_wr_self _ _ _ 0)
    · exact (State.wr_regsOnly s 0x32 (by decide) 0).trans (RegsOnly.of_regs_eq _ hregs)
  · intro s haon
    have hkept : RegsKept (fun k => k / 0x400 ≠ 0x30 * 0x20) (xtalOff s) (((xtalOff s).raise 0x30 5).vector 37) :=
      ((RegsKept.refl _ _).raise (fun _ hk => hk) (by decide)).vector 37
    refine exec_has (congrArg Host.Outcome.next (State.given_of (by rw [haon]; rfl) _))
      (by apply execXtalLost_touches <;> simp [Touches.refl]) ⟨?_, ?_, ?_⟩
    · exact (hkept.on (by decide)).trans (on_xtalOff s).1
    · exact (hkept.on (by decide)).trans (on_xtalOff s).2
    · rw [State.vector_mtn, State.raise_mtn]
      rfl

end Sys2Proof
end

section
/-! PROOF. O49: the target of a domain under its votes (R414, R409). -/

namespace Sys2Proof.Machine

/-- The least of some numbers and a start is at most each, and is one of them. -/
theorem foldl_min_spec (l : List (Nat × Nat)) (m : Nat) :
    l.foldl (fun n w => min n w.2) m ≤ m ∧ (∀ v ∈ l, l.foldl (fun n w => min n w.2) m ≤ v.2) ∧
      (l.foldl (fun n w => min n w.2) m = m ∨ ∃ v ∈ l, l.foldl (fun n w => min n w.2) m = v.2) := by
  induction l generalizing m with
  | nil => simp
  | cons x r ih =>
    obtain ⟨hle, hall, hone⟩ := ih (min m x.2)
    simp only [List.foldl_cons, List.mem_cons, forall_eq_or_imp, exists_eq_or_imp]
    refine ⟨hle.trans (min_le_left _ _), ⟨hle.trans (min_le_right _ _), hall⟩, ?_⟩
    rcases hone with h | h
    · rcases min_choice m x.2 with hm | hm
      · exact .inl (h.trans hm)
      · exact .inr (.inl (h.trans hm))
    · exact .inr (.inr h)

section
variable {s : State} {d : Nat} (hd : (s.dom d).denied = false) (hh : (s.dom d).heldOff = false)
include hd hh

/-- Without a vote a domain follows DEEPEST, no deeper than its own deepest state. -/
theorem targetOf_of_noVote (hv : s.votes d = []) : s.targetOf d = min (s.dom d).deepest (deepestOf d) := by
  unfold State.targetOf
  dsimp only
  rw [hd, hh, hv]
  rfl

/-- With votes it follows the least of them, within the same bounds. -/
theorem targetOf_of_votes {v : Nat × Nat} {r : List (Nat × Nat)} (hv : s.votes d = v :: r) :
    s.targetOf d = min (r.foldl (fun m w => min m w.2) v.2) (min (s.dom d).deepest (deepestOf d)) := by
  unfold State.targetOf
  dsimp only
  rw [hd, hh, hv]
  rfl

end

end Sys2Proof.Machine

namespace Sys2Proof

open Sys2Proof.Machine

/-- Settles O49: the target is the least of the votes, DEEPEST and the domain's deepest state. -/
theorem targetIsTheShallowestVote : Obligations.TargetIsTheShallowestVote := by
  unfold Obligations.TargetIsTheShallowestVote
  refine ⟨fun _ => rfl, fun s d hd hh => ?_⟩
  have hcap := min_choice (s.dom d.val).deepest (deepestOf d.val)
  have hdeepest := min_le_left (s.dom d.val).deepest (deepestOf d.val)
  have hown := min_le_right (s.dom d.val).deepest (deepestOf d.val)
  cases hv : s.votes d.val with
  | nil =>
    rw [targetOf_of_noVote hd hh hv]
    exact ⟨hdeepest, hown, by simp, hcap.imp_right .inl⟩
  | cons v r =>
    rw [targetOf_of_votes hd hh hv]
    obtain ⟨hfirst, hall, hone⟩ := foldl_min_spec r v.2
    refine ⟨(min_le_right _ _).trans hdeepest, (min_le_right _ _).trans hown, ?_, ?_⟩
    · simp only [List.mem_cons, forall_eq_or_imp]
      exact ⟨(min_le_left _ _).trans hfirst, fun w hw => (min_le_left _ _).trans (hall w hw)⟩
    · rcases min_choice (r.foldl (fun m w => min m w.2) v.2) (min (s.dom d.val).deepest (deepestOf d.val)) with h | h
      · rw [h]
        simp only [List.mem_cons, exists_eq_or_imp]
        exact .inr (.inr hone)
      · rw [h]
        exact hcap.imp_right .inl

end Sys2Proof
end

section
/-! PROOF. O40: a period of the power estimator after a step of TIME, where the clock of durations and TIME's multiples differ (R432,
R60; log entry 28). -/

namespace Sys2Proof.Machine

/-- The device at the first boundary of the estimator after TIME was stepped by one unit. -/
def periodAfterStep : State := { State.reset with time := 2048 * 2 ^ 48, hat := { State.reset.hat with stepped := 1 } }

end Sys2Proof.Machine

namespace Sys2Proof

open Sys2Proof.Machine

/-- Refutes O40: ESTIMATOR_PERIOD keeps the start of the period on the clock of durations, which is TIME without its steps (log entry
28), and not at the multiple of 2,048 ns of TIME itself: after a step of one unit the two differ by it. -/
theorem not_powerCommandsComplete : ¬ Obligations.PowerCommandsComplete := by
  unfold Obligations.PowerCommandsComplete
  intro h
  obtain ⟨hperiod, -⟩ := h
  obtain ⟨-, -, hsince, -⟩ := hperiod (List.replicate 44 0) 0 periodAfterStep rfl rfl (by decide) (by decide +kernel)
  exact absurd hsince (by decide +kernel)

end Sys2Proof
end

section
/-! PROOF. O50: the thermal cap at a sample of the junction sensors (R444, R445). -/

namespace Sys2Proof.Machine

/-- No cause that fires clears a REAL bit, whether it is hidden or not. -/
theorem State.testBit_real_raise_of_set {s : State} {page cause c : Nat} (hcause : cause < 64) (hc : c < 16)
    (h : (s.rd page F.hdr_ERR_STATUS_REAL).testBit c = true) :
    ((s.raise page cause).rd page F.hdr_ERR_STATUS_REAL).testBit c = true := by
  by_cases hq : s.hides page cause
  · rw [State.rd, State.rdx_congr (State.raise_of_hides hq).1, ← State.rd, State.rd_setBit_of_ne s page cause hcause (by decide), h]
  · rw [State.raise_of_not_hides hq, State.rd, State.rdx_congr (State.setReal_regs s page cause), ← State.rd,
      State.rd_refreshErr (by decide), State.testBit_rd_setBit s page _ hcause hc, h]
    rfl

/-- CAP_T's key. -/
def capTKey (k : Nat) : Prop := k = F.pwc0_LIMITS_CAP_T.key 0x40 0 0

theorem offHeader_capTKey : OffHeader capTKey 0x40 := by
  rintro _ rfl
  decide +kernel

theorem setCapT_gnt (v : Nat) (s : State) : (setCapT v s).gnt = s.gnt := by
  unfold setCapT
  dsimp only
  split <;> rfl

/-- CAP_T reads what is set, where it fits its field. -/
theorem rd_setCapT {v : Nat} (hv : v < 2048) (s : State) : (setCapT v s).rd 0x40 F.pwc0_LIMITS_CAP_T = v := by
  unfold setCapT
  dsimp only
  split
  · next h => exact h.symm
  · exact (State.rd_wr_self _ _ _ _).trans (Nat.mod_eq_of_lt hv)

theorem rd_setCapT_le (v : Nat) (s : State) : (setCapT v s).rd 0x40 F.pwc0_LIMITS_CAP_T ≤ v := by
  unfold setCapT
  dsimp only
  split
  · next h => exact h.ge
  · exact (State.rd_wr_self _ _ _ _).trans_le (Nat.mod_le _ _)

theorem tempKey_ne (n : Nat) (hn : n < 48) : ¬ capTKey (F.pwc2_TEMP.key 0x42 (n / 8) (n % 8)) := by
  unfold capTKey
  revert n
  decide +kernel

/-- The start of throttling: cause 1 and vector 42, where CAP_T was at its highest. -/
theorem RegsKept.throttling {K : Nat → Prop} {s t : State} (h : RegsKept K s t) (hh : OffHeader K 0x40) (c : Prop) [Decidable c] :
    RegsKept K s (if c then (t.raise 0x40 1).vector 42 else t) := by
  split
  · exact (h.raise hh (by decide)).vector 42
  · exact h

/-- It clears no REAL bit. -/
theorem testBit_real_throttling {t : State} (h : (t.rd 0x40 F.hdr_ERR_STATUS_REAL).testBit 2 = true) (c : Prop) [Decidable c] :
    ((if c then (t.raise 0x40 1).vector 42 else t).rd 0x40 F.hdr_ERR_STATUS_REAL).testBit 2 = true := by
  split
  · rw [((RegsKept.refl (fun _ => True) _).vector 42).rd trivial]
    exact State.testBit_real_raise_of_set (by decide) (by decide) h
  · exact h

section
variable {temps : List (Option Int)} {h : Int} {n : Nat} {s : State} (hh : hottest temps = some (h, n))
include hh

/-- A sample above T_CRIT sets CAP_T to 350 W and latches cause 2, outside a quench window (R445). -/
theorem thermalSample_of_crit (hc : (min 120 (s.rd 0x42 F.pwc2_THERM_CFG_T_CRIT) : Nat) < h) :
    (thermalSample temps s).rd 0x40 F.pwc0_LIMITS_CAP_T = 350 ∧
      (s.quenched 0x40 = false → ((thermalSample temps s).rd 0x40 F.hdr_ERR_STATUS_REAL).testBit 2 = true) := by
  unfold thermalSample
  extract_lets bad faults s1 s2 crit thr st capT was begun top
  rw [hh]
  dsimp -zeta only
  extract_lets s3 pwc s4 s5 hold s4'
  have hg1 : s1.gnt = s.gnt := by
    refine List.foldlRecOn _ _ (motive := fun t : State => t.gnt = s.gnt) rfl fun t ht k _ => ?_
    split
    · split <;> exact ht
    · exact ht
  have hg2 : s2.gnt = s.gnt := by
    unfold s2
    split
    · exact hg1
    · exact (State.raise_gnt _ _ _).trans hg1
  have hg4 : s4.gnt = s.gnt := (setCapT_gnt _ _).trans hg2
  have hcap : s5.rd 0x40 F.pwc0_LIMITS_CAP_T = 350 :=
    (((RegsKept.refl capTKey s4).raise offHeader_capTKey (by decide)).rd rfl).trans (rd_setCapT (by decide) _)
  have hbit (hq : s.quenched 0x40 = false) : (s5.rd 0x40 F.hdr_ERR_STATUS_REAL).testBit 2 = true :=
    testBit_real_raise (by decide) ((State.quenched_congr hg4 _).trans hq)
  rw [if_pos hc]
  have hvec (K : Nat → Prop) : RegsKept K s5 (if was > crit then s5 else s5.vector 42) :=
    .ite (.refl _ _) ((RegsKept.refl _ _).vector 42)
  refine ⟨(((hvec capTKey).throttling offHeader_capTKey _).rd rfl).trans hcap, fun hq => testBit_real_throttling ?_ _⟩
  rw [(hvec fun _ => True).rd trivial]
  exact hbit hq

/-- After such a sample CAP_T does not rise until the hottest sensor reads below T_CRIT - 5 (R445). -/
theorem thermalSample_of_critical (hcrit : s.pwc.critical = true)
    (hc : ((min 120 (s.rd 0x42 F.pwc2_THERM_CFG_T_CRIT) : Nat) : Int) - 5 ≤ h) :
    (thermalSample temps s).rd 0x40 F.pwc0_LIMITS_CAP_T ≤ max 350 (s.rd 0x40 F.pwc0_LIMITS_CAP_T) := by
  by_cases hab : (min 120 (s.rd 0x42 F.pwc2_THERM_CFG_T_CRIT) : Nat) < h
  · rw [(thermalSample_of_crit hh hab).1]
    exact le_max_left _ _
  unfold thermalSample
  extract_lets bad faults s1 s2 crit thr st capT was begun top
  rw [hh]
  dsimp -zeta only
  extract_lets s3 pwc s4 s5 hold s4'
  have hk1 : RegsKept capTKey s s1 := by
    refine ((RegsKept.refl _ s).wr (by unfold capTKey; decide +kernel) _).foldl fun u k hk hu => ?_
    split
    · split
      · exact hu
      · exact hu.wrx (tempKey_ne k (List.mem_range.1 hk)) _
    · exact hu
  have hk3 : RegsKept capTKey s s3 :=
    ((RegsKept.ite hk1 (hk1.raise offHeader_capTKey (by decide))).wr (by unfold capTKey; decide +kernel) _).wr
      (by unfold capTKey; decide +kernel) _
  have hk4 : RegsKept capTKey s s4' := by
    unfold s4'
    refine .ite (.vector ?_ 42) ?_ <;> exact hk3.congr rfl
  have hhold : hold = true := Bool.and_eq_true_iff.2 ⟨hcrit, decide_eq_true hc⟩
  rw [if_neg hab]
  split
  · split
    · next hcap =>
      have hthr := (RegsKept.refl capTKey (setCapT (max 350 (capT - st)) s4')).throttling offHeader_capTKey (capT = 1100)
      rw [hthr.rd rfl]
      exact (rd_setCapT_le _ _).trans (max_le_max_left _ (Nat.sub_le _ _))
    · rw [hk4.rd rfl]
      exact le_max_right _ _
  · rw [if_neg (by rw [hhold]; simp), hk4.rd rfl]
    exact le_max_right _ _

end

/-- The instant of a sample is noted as the last of its period. -/
def State.sampleNoted (s : State) : State := { s with ticks := { s.ticks with last := s.ticks.last.put s.ticks.base 9 s.nowNs } }

end Sys2Proof.Machine

namespace Sys2Proof

open Sys2Proof.Machine

/-- Settles O50: the branch above T_CRIT sets CAP_T and fires cause 2, and every other branch of a sample that holds lowers CAP_T
at most to 350 W or leaves it. -/
theorem criticalSampleSetsTheCap : Obligations.CriticalSampleSetsTheCap := by
  unfold Obligations.CriticalSampleSetsTheCap
  refine ⟨by decide +kernel, fun s temps h n hs hlen hdue hh => ?_⟩
  have he : exec (.thermalSample temps) s = .next (thermalSample (temps.map fun x => x.map BitVec.toInt) s.sampleNoted) :=
    congrArg Host.Outcome.next ((State.running_given_of hs (c := fun _ => decide (temps.length = 48)) (decide_eq_true hlen)
      (fun _ s => s.periodic 9 32768 (thermalSample (temps.map fun x => x.map BitVec.toInt)))).trans (State.periodic_of hdue _))
  exact ⟨_, he, thermalSample_of_crit (s := s.sampleNoted) hh, thermalSample_of_critical (s := s.sampleNoted) hh⟩

end Sys2Proof
end

section
/-! PROOF. O47: the instructions of the test access port (R571, R572). -/

namespace Sys2Proof.Machine

/-- An instruction loaded into a powered device's register (R571); one that is always there loads as itself (R572). -/
theorem loadTap_of_powered {s : State} (hp : s.boot.power ≠ 0) (op : Nat) : loadTap op s =
    { s with boot := { s.boot with tapIr := if op = 0x01 ∨ op = 0xFF ∨ s.boot.testMode then op else 0xFF } } :=
  State.given_of (bne_iff_ne.2 hp) _

/-- A boundary instruction loads only in test mode (R572). -/
theorem boot_loadTap_boundary {s : State} (hp : s.boot.power ≠ 0) {op : Nat} (h1 : op ≠ 0x01) (hff : op ≠ 0xFF) :
    (loadTap op s).boot = { s.boot with tapIr := if s.boot.testMode then op else 0xFF } := by
  rw [loadTap_of_powered hp]
  simp [h1, hff]

end Sys2Proof.Machine

namespace Sys2Proof

open Sys2Proof.Machine

/-- Settles O47: an instruction loads through `loadTap` (R571), and a boundary one acts as BYPASS outside test mode (R572). -/
theorem tapInstructionsComplete : Obligations.TapInstructionsComplete := by
  unfold Obligations.TapInstructionsComplete
  refine ⟨fun s hp => ?_, fun s hp => ?_, fun s hp => ?_, fun s hp => ?_, fun s hp => ?_, fun s hp => ?_, fun s hp => ?_, fun s hp => ?_⟩
  · refine exec_has (t := loadTap 0xFF s) rfl ?_ (by rw [loadTap_of_powered hp]; rfl)
    apply execBypass_touches <;> simp [Touches.refl]
  · refine exec_has (congrArg Host.Outcome.next (State.given_of (bne_iff_ne.2 hp) _)) ?_ ?_
    · apply execIdcode_touches <;> simp [Touches.refl]
    · rw [loadTap_of_powered hp]
      exact ⟨rfl, rfl⟩
  · refine exec_has rfl ?_ (boot_loadTap_boundary hp (by decide) (by decide))
    apply execSamplePreload_touches <;> simp [Touches.refl]
  · refine exec_has rfl ?_ (boot_loadTap_boundary hp (by decide) (by decide))
    apply execExtest_touches <;> simp [Touches.refl]
  · refine exec_has rfl ?_ (boot_loadTap_boundary hp (by decide) (by decide))
    apply execExtestPulse_touches <;> simp [Touches.refl]
  · refine exec_has rfl ?_ (boot_loadTap_boundary hp (by decide) (by decide))
    apply execExtestTrain_touches <;> simp [Touches.refl]
  · refine exec_has rfl ?_ (boot_loadTap_boundary hp (by decide) (by decide))
    apply execClamp_touches <;> simp [Touches.refl]
  · refine exec_has rfl ?_ (boot_loadTap_boundary hp (by decide) (by decide))
    apply execHighz_touches <;> simp [Touches.refl]

end Sys2Proof
end

section
/-! PROOF. O41: the host link, reads of device memory, invalidations and snoops (R480, R484, R487, R488). -/

namespace Sys2Proof.Machine

section
variable {s : State} {a : Nat}

/-- A line outside the host's regions is recorded and answers poison, whatever its channel does (R484, log entry 134). -/
theorem hdmRead_outside (hr : (s.inRegion 2 (a / 64 * 64) 64 || s.inRegion 3 (a / 64 * 64) 64) = false) :
    hdmRead a s = (recordBad 5 a s).send poisonReply := by
  unfold hdmRead
  dsimp only
  rw [hr]
  rfl

variable (hr : (s.inRegion 2 (a / 64 * 64) 64 || s.inRegion 3 (a / 64 * 64) 64) = true)
include hr

/-- A line whose channel sleeps answers poison and is recorded (R416). -/
theorem hdmRead_asleep (hd : 2 ≤ (s.dom (196 + s.channelOf (a / 64 * 64))).state) :
    hdmRead a s = (recordBad 6 a s).send poisonReply := by
  unfold hdmRead
  dsimp only
  rw [hr, if_neg (by simp), if_pos hd]

variable (hd : (s.dom (196 + s.channelOf (a / 64 * 64))).state < 2)
include hd

/-- A poisoned line answers poison (R526), and another its bytes. -/
theorem hdmRead_awake : hdmRead a s = if s.poisoned (a / 64 * 64) 64 then s.send poisonReply
    else s.send (.reply "HDM_DATA" [leVal (s.ddrRead (a / 64 * 64) 64)]) := by
  unfold hdmRead
  dsimp only
  rw [hr, if_neg (by simp), if_neg (Nat.not_le.2 hd)]

end

theorem hdmRead_moves (address : BitVec 52) (s : State) :
    Moves (· ∈ [.regs, .out, .host, .latches]) s (exec (.hdmRead address) s) := by
  apply execHdmRead_touches <;> simp [Touches.refl]

/-- What an invalidation leaves: it is counted, and completed (R488). -/
theorem rd_invalidations (s : State) : ((s.bump 0x380 F.cxl0_ATS_STATUS_INVALIDATIONS).send (.reply "INVALIDATION_COMPLETION" [])).rd
    0x380 F.cxl0_ATS_STATUS_INVALIDATIONS =
      sat F.cxl0_ATS_STATUS_INVALIDATIONS.w (s.rd 0x380 F.cxl0_ATS_STATUS_INVALIDATIONS + 1) % 2 ^ F.cxl0_ATS_STATUS_INVALIDATIONS.w :=
  State.rd_wr_self _ _ _ _

end Sys2Proof.Machine

namespace Sys2Proof

open Sys2Proof.Machine

/-- Settles O41: each command where its guard holds; a read of device memory looks at the region before the channel's sleep, which
is the model's choice (log entry 134). -/
theorem hostLinkCommandsComplete : Obligations.HostLinkCommandsComplete := by
  unfold Obligations.HostLinkCommandsComplete
  refine ⟨fun _ _ _ _ _ _ s ht hu hv => ?_, fun s hu => ?_, fun a s hm hr hd hp => ?_, fun a s hm hr => ?_, fun a s hm hr hd => ?_,
    fun a s hm hr hd hp => ?_, fun a s hm => ?_, fun s hu ha => ?_, fun s hu hc => ?_⟩
  · refine exec_is (congrArg Host.Outcome.next (State.given_of (by rw [ht, hu, hv]; rfl) _)) ?_
    apply execHostLinkUp_touches <;> simp [Touches.refl]
  · refine exec_is (congrArg Host.Outcome.next (State.given_of hu _)) ?_
    apply execHostLinkDown_touches <;> simp [Touches.refl]
  · refine exec_is (congrArg Host.Outcome.next ((State.given_of hm _).trans ((hdmRead_awake hr hd).trans ?_))) (hdmRead_moves a s)
    rw [hp]
    rfl
  · exact exec_is (congrArg Host.Outcome.next ((State.given_of hm _).trans (hdmRead_outside hr))) (hdmRead_moves a s)
  · exact exec_is (congrArg Host.Outcome.next ((State.given_of hm _).trans (hdmRead_asleep hr hd))) (hdmRead_moves a s)
  · exact exec_is (congrArg Host.Outcome.next ((State.given_of hm _).trans ((hdmRead_awake hr hd).trans (if_pos hp)))) (hdmRead_moves a s)
  · have hm' : Moves (· ∈ [.regs, .out, .host, .latches]) s (exec (.hdmWrite a) s) := by
      apply execHdmWrite_touches <;> simp [Touches.refl]
    have he : exec (.hdmWrite a) s = .next (((recordBad 4 a.toNat s).raise 0x380 2).send (.reply "HDM_WRITE_DONE" [])) :=
      congrArg Host.Outcome.next (State.given_of hm _)
    have ho := only_of_exec he hm'
    exact ⟨he, ho, ho .ddr (by simp), ho .poison (by simp)⟩
  · refine exec_has (congrArg Host.Outcome.next (State.given_of (by rw [hu, ha]; rfl) _)) ?_
      ⟨rd_invalidations s, rfl, State.wri_regsOnly s 0x380 (by decide) _⟩
    apply execAtsInvalidation_touches <;> simp [Touches.refl]
  · refine exec_is (congrArg Host.Outcome.next (State.given_of (by rw [hu, hc]; rfl) _)) ?_
    apply execSnoop_touches <;> simp [Touches.refl]

end Sys2Proof
end

section
/-! PROOF. O44: requests of the DOE mailbox and their answers (R506 to R508). -/

namespace Sys2Proof.Machine

section
variable {c : Instr} {kind : String} {args : List Nat} {nonce : List Byte} {s t : State}
  (he : exec c s = .next (doeAsk kind args nonce s))
include he

theorem doeAsk_only {u : State} (hu : doeAsk kind args nonce s = u) : exec c s = .next u ∧ Only [.free, .out, .crown] s u := by
  have hm : Moves (· ∈ [.free, .out, .crown]) s (exec c s) := by
    rw [he]
    exact Moves.next (doeAsk_touches (by simp) (by simp) (by simp) (Touches.refl _ s))
  exact exec_is (he.trans (congrArg Host.Outcome.next hu)) hm

/-- A request that meets another one, the error or a reset is dropped: one request at a time is the model's choice (log entry 130). -/
theorem doe_dropped (h : (s.crown.doe.isSome || s.crown.doeError || s.boot.quiescing) = true) :
    exec c s = .next s ∧ Only [.free, .out, .crown] s s :=
  doeAsk_only he (if_pos h)

section
variable (hd : s.crown.doe = none) (herr : s.crown.doeError = false) (hq : s.boot.quiescing = false)
include hd herr hq

/-- A Crown that is awake answers at once. -/
theorem doe_answered (ha : s.crownAwake = true) (ht : spdmAnswer kind args nonce s = t) :
    exec c s = .next t ∧ Only [.free, .out, .crown] s t := by
  refine doeAsk_only he (Eq.trans ?_ ht)
  unfold doeAsk
  rw [hd, herr, hq, ha]
  rfl

/-- Another one keeps the request. -/
theorem doe_waits (ha : s.crownAwake = false) : ∃ t, exec c s = .next t ∧ Only [.free, .out, .crown] s t ∧
    t.crown = { s.crown with doe := some ⟨s.mono, kind, args, nonce⟩ } ∧ t.out = s.out ∧ t.free = s.free := by
  have hw : doeAsk kind args nonce s = { s with crown := { s.crown with doe := some ⟨s.mono, kind, args, nonce⟩ } } := by
    unfold doeAsk
    rw [hd, herr, hq, ha]
    rfl
  obtain ⟨hx, ho⟩ := doeAsk_only he hw
  exact ⟨_, hx, ho, rfl, rfl, rfl⟩

end

end

/-- A certificate is kept in slot 0 only (R506). -/
theorem spdmAnswer_certificate (slot offset length : Nat) (s : State) : spdmAnswer "GET_CERTIFICATE" [slot, offset, length] [] s =
    s.send (if slot = 0 then .reply "CERTIFICATE" (0 :: (((s.crown.chain.drop offset).take length).map BitVec.toNat))
      else .reply "ERROR" [1]) := by
  rcases Nat.eq_zero_or_pos slot with rfl | hp
  · rfl
  · rw [if_neg hp.ne']
    exact if_pos hp.ne'

section
variable {i sig : Nat} {nonce : List Byte} {s : State}

theorem spdmAnswer_noIndex (h : i = 0) : spdmAnswer "GET_MEASUREMENTS" [i, sig] nonce s = s.send (.reply "MEASUREMENTS" [8]) := if_pos h

variable (h0 : i ≠ 0)
include h0

theorem spdmAnswer_badIndex (h8 : 8 < i) (hall : i ≠ 255) :
    spdmAnswer "GET_MEASUREMENTS" [i, sig] nonce s = s.send (.reply "ERROR" [1]) := (if_neg h0).trans (if_pos ⟨h8, hall⟩)

variable (hi : i ≤ 8 ∨ i = 255)
include hi

/-- The measurements an index names, with a signature over a fresh nonce where it is asked for (R507). -/
theorem spdmAnswer_measurements : spdmAnswer "GET_MEASUREMENTS" [i, sig] nonce s =
    if sig = 0 then s.send (.reply "MEASUREMENTS" ((if i = 255 then [1, 2, 3, 4, 5, 6, 7, 8] else [i]).flatMap fun k =>
      [k, beVal (s.measurement k)]))
    else { s with free := s.free + 1 }.send (.reply "MEASUREMENTS" (((if i = 255 then [1, 2, 3, 4, 5, 6, 7, 8] else [i]).flatMap
      fun k => [k, beVal (s.measurement k)]) ++ [(Config.drbg s.free).toNat, s.spdmSignature (nonce ++
        ((if i = 255 then [1, 2, 3, 4, 5, 6, 7, 8] else [i]).flatMap s.measurement) ++ leBytes 8 (Config.drbg s.free).toNat)])) :=
  (if_neg h0).trans (if_neg fun hn => hi.elim (Nat.not_le.2 hn.1) hn.2)

end

end Sys2Proof.Machine

namespace Sys2Proof

open Sys2Proof.Machine

/-- Settles O44: every request goes through `doeAsk`, which drops it, answers it or keeps it. One request at a time and the codes of
the answers are the model's choice (log entry 130), and a Crown that sleeps keeps the request (log entry 190). -/
theorem doeRequestsAreAnswered : Obligations.DoeRequestsAreAnswered := by
  unfold Obligations.DoeRequestsAreAnswered
  refine ⟨fun i s hd he hq ha => doe_answered rfl hd he hq ha rfl, fun i s => doe_waits rfl, fun i s => doe_dropped rfl,
    fun s hd he hq ha => doe_answered rfl hd he hq ha rfl, fun s => doe_waits rfl, fun s => doe_dropped rfl,
    fun s hd he hq ha => doe_answered rfl hd he hq ha rfl, fun s => doe_waits rfl, fun s => doe_dropped rfl,
    fun s hd he hq ha => doe_answered rfl hd he hq ha rfl, fun s => doe_waits rfl, fun s => doe_dropped rfl,
    fun s hd he hq ha => doe_answered rfl hd he hq ha rfl, fun s => doe_waits rfl, fun s => doe_dropped rfl,
    fun slot o l s hd he hq ha => doe_answered rfl hd he hq ha (spdmAnswer_certificate ..), fun slot o l s => doe_waits rfl,
    fun slot o l s => doe_dropped rfl,
    fun slot n s hd he hq ha => doe_answered rfl hd he hq ha rfl, fun n s hd he hq ha => ?_, fun slot n s => doe_waits rfl,
    fun slot n s => doe_dropped rfl,
    fun i sig n s hd he hq ha h0 => doe_answered rfl hd he hq ha (spdmAnswer_noIndex h0),
    fun i sig n s hd he hq ha h8 hall => doe_answered rfl hd he hq ha (spdmAnswer_badIndex (by omega) h8 hall),
    fun i sig n s hd he hq ha h0 hi hsig => ?_, fun i sig n s hd he hq ha h0 hi hsig => ?_, fun i n s hd he hq ha h1 h8 => ?_,
    fun sig n s hd he hq ha => doe_answered rfl hd he hq ha (spdmAnswer_noIndex rfl), fun i sig n s => doe_waits rfl,
    fun i sig n s => doe_dropped rfl,
    fun s hd he hq ha => doe_answered rfl hd he hq ha rfl, fun s => doe_waits rfl, fun s => doe_dropped rfl,
    fun w s hw hdue => ?_⟩
  · obtain ⟨hx, ho⟩ := doe_answered (c := .challenge 0 n) rfl hd he hq ha rfl
    exact ⟨_, hx, ho, rfl, rfl⟩
  · subst hsig
    exact doe_answered rfl hd he hq ha (spdmAnswer_measurements h0 hi)
  · subst hsig
    exact doe_answered rfl hd he hq ha (spdmAnswer_measurements h0 hi)
  · refine doe_answered rfl hd he hq ha ((spdmAnswer_measurements (by omega) (.inl h8)).trans ?_)
    rw [if_pos (by rfl), if_neg (by omega)]
    rfl
  · refine exec_has (t := { s with crown := { s.crown with doe := none, doeError := true } }) ?_ ?_ ⟨rfl, rfl⟩
    · refine congrArg Host.Outcome.next ?_
      rw [hw]
      exact State.given_of (decide_eq_true hdue) _
    · apply execDoeTimeout_touches <;> simp [Touches.refl]

end Sys2Proof
end

section
/-! PROOF. O46: power, resets, PERST_N and the steps of the boot (R534 to R540, R548, R565). -/

namespace Sys2Proof.Machine

/-! ## The parts of the state that matter after a reset -/

/-- Every part of the state but the queue. -/
def allParts : List Piece := [.regs, .time, .free, .out, .ddr, .poison, .host, .latches, .hat, .ticks, .stamps, .ucs, .brim, .tbl,
  .palm, .timing, .ses, .ldg, .vsr, .mtn, .pwc, .gnt, .crown, .dram, .boot]

/-- A command that leaves the queue: every part may have moved. -/
theorem only_allParts {c : Instr} {s t : State} (he : exec c s = .next t) (h : Moves (· ≠ .pending) s (exec c s)) :
    Only allParts s t := by
  have hsame := h.same_of_next he
  intro p hp
  refine hsame p fun hne => hp ?_
  cases p with
  | pending => exact absurd rfl hne
  | _ => decide

section
variable (s : State)

/-- The commit of a reset notes that the device quiesces, and no more of the boot (R539). -/
theorem commitReset_boot : (commitReset s).boot = { s.boot with quiescing := true, held := false } := by
  have h : Touches (· ≠ .boot) { s with boot := { s.boot with quiescing := true, held := false } } (commitReset s) := by
    refine setClk_touches nofun nofun (setPps_touches nofun nofun (setPps_touches nofun nofun (stopSlew_touches nofun nofun ?_)))
    apply stopTraffic_touches <;> simp [Touches.refl]
  exact h.same .boot (by simp)

theorem commitReset_crown : (commitReset s).crown = s.crown := by
  have h : Touches (· ≠ .crown) s (commitReset s) := by
    apply commitReset_touches <;> simp [Touches.refl]
  exact h.same .crown (by simp)

/-- The warm reset of a state: what R537 keeps, with the straps sampled and the pins driven. -/
theorem warmReset_boot (gpio0 testMode : Bool) : (drivePins (sampleStraps gpio0 testMode (warmState s))).boot =
    { State.reset.boot with
      warm := true
      hostBoot := gpio0
      testMode := testMode
      tapIr := if testMode || s.boot.tapIr == 1 then s.boot.tapIr else 0xFF } := rfl

theorem recomputeDom_crown (d : Nat) : (recomputeDom d s).crown = s.crown := by
  have h : Touches (· ≠ .crown) s (recomputeDom d s) := recomputeDom_touches nofun nofun nofun nofun (Touches.refl _ s)
  exact h.same .crown (by simp)

theorem perstFalls_perst : (perstFalls s).crown.perst = false := by
  unfold perstFalls
  extract_lets
  rw [recomputeDom_crown]
  rfl

theorem perst_as_it_is {level : Bool} (hp : s.crown.perst = level) : ({ s with crown := { s.crown with perst := level } } : State) = s := by
  subst hp
  rfl

theorem exec_perst_false (hp : s.crown.perst = true) : exec (.perst false) s = .next (perstFalls s) :=
  congrArg Host.Outcome.next ((if_neg Bool.false_ne_true).trans (State.given_of hp perstFalls))

/-- PERST_N at the level it has: a rise finds the pin as it is, and a fall takes the link down (R536). -/
theorem exec_perst {level : Bool} (hp : s.crown.perst = true) :
    exec (.perst level) s = .next (if level = true then s else perstFalls s) := by
  cases level with
  | false => exact (exec_perst_false s hp).trans (congrArg Host.Outcome.next (if_neg Bool.false_ne_true).symm)
  | true => exact congrArg Host.Outcome.next (perst_as_it_is s hp)

theorem perst_moves (level : Bool) : Moves (· ∈ [.regs, .out, .host, .latches, .tbl, .mtn, .crown]) s (exec (.perst level) s) := by
  apply execPerst_touches <;> simp [Touches.refl]

/-- Where the pin is low, it only takes its level. -/
theorem exec_perst_low {level : Bool} (hp : s.crown.perst = false) :
    exec (.perst level) s = .next { s with crown := { s.crown with perst := level } } := by
  refine congrArg Host.Outcome.next ?_
  cases level with
  | true => rfl
  | false =>
    have hg : s.given s.crown.perst perstFalls = s := if_neg (by rw [hp]; exact Bool.false_ne_true)
    exact hg.trans (perst_as_it_is s hp).symm

theorem warmReset_moves : Moves (· ∈ [.regs, .out, .ddr, .poison, .host, .latches, .hat, .ucs, .brim, .palm, .timing, .ses, .ldg,
    .vsr, .boot]) s (exec .warmReset s) := by
  apply execWarmReset_touches <;> simp [Touches.refl]

theorem bootStep_moves (step : Fin 17) (facts : BootFacts) : Moves (· ∈ [.regs, .free, .out, .ddr, .poison, .host, .latches, .hat,
    .stamps, .ucs, .brim, .tbl, .ldg, .vsr, .mtn, .pwc, .gnt, .crown, .dram, .boot]) s (exec (.bootStepComplete step facts) s) := by
  apply execBootStepComplete_touches <;> simp [Touches.refl]

/-- The device is running and no reset is under way. -/
theorem exec_warmReset (hp : s.boot.power = 2) (hq : s.boot.quiescing = false) :
    exec .warmReset s = .next (if s.resetWaits then { s with boot := { s.boot with held := true } } else commitReset s) :=
  congrArg Host.Outcome.next (State.given_of (by rw [hp, hq]; rfl) _)

theorem exec_warmResetApply (gpio0 testMode : Bool) {t : State} (ht : (if s.boot.held && !s.resetWaits then commitReset s else s) = t)
    (hq : t.boot.quiescing = true) :
    exec (.warmResetApply gpio0 testMode) s = .next (drivePins (sampleStraps gpio0 testMode (warmState (settleRefresh t)))) := by
  subst ht
  exact congrArg Host.Outcome.next (if_pos hq)

/-- A removal of power leaves what R537 keeps, after the commit of a reset where the device could quiesce first (R534). -/
theorem exec_powerRemoval (hold : Bool) (hp : s.boot.power ≠ 0) : exec (.powerRemoval hold) s =
    .next (unpowered (if (hold && s.boot.power == 2 && !s.boot.quiescing) = true then commitReset s else s)) :=
  congrArg Host.Outcome.next (State.given_of (bne_iff_ne.2 hp) _)

theorem powerRemoval_only (hold : Bool) {t : State} (he : exec (.powerRemoval hold) s = .next t) : Only allParts s t :=
  only_allParts he (execPowerRemoval_touchesAny hold)

theorem exec_bootStep {step : Fin 17} (facts : BootFacts) (hs : s.stopped = false) (hp : s.boot.power = 2)
    (ht : s.boot.testMode = false) (h0 : step.val ≠ 0) (hd : s.boot.done.contains step.val = false)
    (hn : (bootNeeds step.val).all s.boot.done.contains = true) :
    exec (.bootStepComplete step facts) s = .next (bootStep step.val facts s) := by
  refine congrArg Host.Outcome.next (State.given_of ?_ _)
  rw [hs, hp, ht, hd, hn, decide_eq_true h0]
  rfl

end

end Sys2Proof.Machine

namespace Sys2Proof

open Sys2Proof.Machine

/-- Settles O46: each command where its guard holds, and what the resets and PERST_N leave. Boot step 2 changes no register (a blank
OTP, log entries 1 and 17), and a step finds what its facts say (log entry 140): both are the model's choice. -/
theorem bootAndResetCommandsComplete : Obligations.BootAndResetCommandsComplete := by
  unfold Obligations.BootAndResetCommandsComplete
  refine ⟨fun s hp => ?_, fun g m s hp => ?_, fun s hp hq hw => ?_, fun s hp hq hw => ?_, fun g m s hh hw => ?_,
    fun g m s hq hh => ?_, fun level s hp => ?_, fun level s hp => ?_, fun s => ?_, fun s hp => ?_, fun hold s hp => ?_,
    fun s hp => ?_, fun s hp hq => ?_, fun n f s hs hp ht h0 hd hn => ?_, fun f s hs hp ht hd hn => ?_⟩
  · refine exec_is_and (congrArg Host.Outcome.next (State.given_of (by rw [hp]; rfl) _)) ?_ rfl
    apply execVddAonUp_touches <;> simp [Touches.refl]
  · refine exec_is_and (congrArg Host.Outcome.next (State.given_of (by rw [hp]; rfl) _)) ?_ ⟨rfl, rfl, rfl⟩
    apply execPowerOnReset_touches <;> simp [Touches.refl]
  · refine exec_is_and ((exec_warmReset s hp hq).trans (congrArg Host.Outcome.next ?_)) (warmReset_moves s) ?_
    · rw [hw]
      rfl
    · rw [commitReset_boot]
      exact ⟨rfl, rfl⟩
  · exact exec_has ((exec_warmReset s hp hq).trans (congrArg Host.Outcome.next (if_pos hw))) (warmReset_moves s)
      ⟨rfl, fun _ _ => rfl⟩
  · have he := exec_warmResetApply s g m (t := commitReset s) (by rw [hh, hw]; rfl) (by rw [commitReset_boot])
    exact ⟨he, only_allParts he (execWarmResetApply_touchesAny g m), by rw [warmReset_boot], by rw [warmReset_boot]; rfl⟩
  · have he := exec_warmResetApply s g m (t := s) (by rw [hh]; rfl) hq
    exact ⟨he, only_allParts he (execWarmResetApply_touchesAny g m), by rw [warmReset_boot], by rw [warmReset_boot]; rfl,
      by rw [warmReset_boot]⟩
  · refine exec_is_and (exec_perst s hp) (perst_moves s level) ?_
    cases level with
    | true => exact hp
    | false =>
      rw [if_neg Bool.false_ne_true]
      exact perstFalls_perst s
  · exact exec_has (exec_perst_low s hp) (perst_moves s level) ⟨rfl, fun _ _ => rfl⟩
  · exact exec_has rfl (perst_moves s true) ⟨rfl, fun _ _ => rfl⟩
  · exact exec_is_and (exec_perst_false s hp) (perst_moves s false) (perstFalls_perst s)
  · have he := exec_powerRemoval s hold hp
    refine ⟨he, powerRemoval_only s hold he, rfl, ?_⟩
    show (if _ then commitReset s else s).crown.flash = _
    split
    · rw [commitReset_crown]
    · rfl
  · have he := exec_powerRemoval s false hp
    exact ⟨he, powerRemoval_only s false he, rfl, rfl⟩
  · have he : exec (.powerRemoval true) s = .next (unpowered (commitReset s)) :=
      (exec_powerRemoval s true (by rw [hp]; decide)).trans (congrArg (fun t => Host.Outcome.next (unpowered t)) (if_pos (by rw [hp, hq]; rfl)))
    exact ⟨he, powerRemoval_only s true he, rfl, congrArg (·.flash) (commitReset_crown s)⟩
  · exact exec_is (exec_bootStep s f hs hp ht h0 hd hn) (bootStep_moves s n f)
  · have hneeds : List.all [1] s.boot.done.contains = true := by rw [List.all_cons, hn]; rfl
    exact exec_has (exec_bootStep s (step := 2) f hs hp ht (by decide) hd hneeds) (bootStep_moves s _ f) ⟨rfl, fun _ _ => rfl⟩

end Sys2Proof
end

section
/-! PROOF. O45: the layout of DDR5, training, margins, errors, scrubbing, temperature and self-refresh (R519 to R528). -/

namespace Sys2Proof.Machine

/-! ## Layout (R518, R519) -/

/-- A size that fits, with nothing armed or enabled in the regions (R519). -/
def State.layoutFree (s : State) (v : Nat) : Bool :=
  decide (v % 2 ^ 11 + 3 ≤ s.rd 0x340 F.ddr0_DDR_STATUS_CAPACITY_GIB) && !s.sessionArmed && !s.on 0x70 F.ldg0_LDG_CFG_ENABLE &&
    !s.ringEnabled && !s.snapBusy

section
variable (s : State)

theorem sessionArmed_wakeClock (p : Nat) : (s.wakeClock p).sessionArmed = s.sessionArmed := by
  unfold State.sessionArmed
  rw [State.wakeClock_ses]

theorem ringEnabled_wakeClock (p : Nat) : (s.wakeClock p).ringEnabled = s.ringEnabled := by
  unfold State.ringEnabled
  simp only [State.on_wakeClock]

theorem snapBusy_wakeClock (p : Nat) : (s.wakeClock p).snapBusy = s.snapBusy := by
  unfold State.snapBusy
  simp only [State.on_wakeClock]

theorem layoutFree_wakeClock (p v : Nat) : (s.wakeClock p).layoutFree v = s.layoutFree v := by
  unfold State.layoutFree
  rw [State.rd_wakeClock, sessionArmed_wakeClock, State.on_wakeClock, ringEnabled_wakeClock, snapBusy_wakeClock]

theorem writeRetxGib_eq (v : Nat) : writeRetxGib v s =
    if s.layoutFree v then (refreshRegions (s.wr 0x340 F.ddr0_LAYOUT_CFG_RETX_GIB v)).vector 296
    else (s.set1 0x340 F.hdr_PAGE_STATUS_WRITE_DROPPED).raise 0x340 1 := rfl

theorem retxGibWrite_moves (data : Word) : Moves (· ∈ [.regs, .out, .host, .latches, .mtn]) s (exec (.retxGibWrite data) s) := by
  apply execRetxGibWrite_touches <;> simp [Touches.refl]

/-- The regions' registers are laid out anew, and the size kept for them stays. -/
theorem rd_retx_refreshRegions : (refreshRegions s).rd 0x340 F.ddr0_LAYOUT_CFG_RETX_GIB = s.rd 0x340 F.ddr0_LAYOUT_CFG_RETX_GIB := by
  have hput (t : State) (k base size : Nat) (hk : k < 4) : RegsKept (· = F.ddr0_LAYOUT_CFG_RETX_GIB.key 0x340 0 0) t
      ((t.wri 0x340 F.ddr0_REGION_BASE k base).wri 0x340 F.ddr0_REGION_SIZE k size) := by
    refine ((RegsKept.refl _ t).wri ?_ base).wri ?_ size <;> interval_cases k <;> decide +kernel
  unfold refreshRegions
  extract_lets cap retx put
  refine RegsKept.rd (K := (· = F.ddr0_LAYOUT_CFG_RETX_GIB.key 0x340 0 0)) (.ite ?_ ?_) rfl
  · exact (((hput s 0 _ _ (by decide)).trans (hput _ 1 _ _ (by decide))).trans (hput _ 2 _ _ (by decide))).trans (hput _ 3 _ _ (by decide))
  · exact (((hput s 0 _ _ (by decide)).trans (hput _ 1 _ _ (by decide))).trans (hput _ 2 _ _ (by decide))).trans (hput _ 3 _ _ (by decide))

/-! ## Training (R523, R524) -/

theorem State.raise_dram (page cause : Nat) : (s.raise page cause).dram = s.dram :=
  (State.raise_touches (ps := (· ≠ .dram)) nofun nofun nofun nofun (Touches.refl _ s)).same .dram (by simp)

theorem State.vector_dram (v : Nat) : (s.vector v).dram = s.dram :=
  (State.vector_touches (ps := (· ≠ .dram)) nofun nofun (Touches.refl _ s)).same .dram (by simp)

/-- The end of all training moves the channels in use and the speed, and no other mark of the training. -/
theorem settleDdr_full : (settleDdr s).dram.full = s.dram.full := by
  unfold settleDdr
  extract_lets before n s0 s1 s2 s2' dram s3 s4
  have h0 : s0.dram = s.dram := by
    unfold s0
    split
    · rfl
    · split <;> rfl
  have h1 : Touches (· ≠ .dram) s0 s1 :=
    Touches.foldl (fun t c ht => State.putDom_touches nofun nofun nofun nofun (State.wr_touches nofun (State.wr_touches nofun
      (State.wr_touches nofun ht)))) (Touches.refl _ _)
  have h3 : s3.dram.full = s1.dram.full := by
    have h : Touches (· ≠ .dram) { s2' with dram := { s2'.dram with used := n, speed := s1.ddrSpeed } } s3 :=
      refreshRegions_touches nofun (lowerRetx_touches nofun nofun nofun nofun (Touches.refl _ _))
    rw [h.same .dram (by simp)]
    rfl
  have h4 : s4.dram = s3.dram := by
    unfold s4
    split
    · exact State.raise_dram ..
    · rfl
  have h5 : (if (s4.rd 0x340 F.ddr0_DDR_STATUS_AVAILABLE, s4.rdi 0x340 F.ddr0_REGION_SIZE 3) = before then s4
      else s4.vector 296).dram = s4.dram := by
    split
    · rfl
    · exact State.vector_dram ..
  rw [h5, h4, h3, h1.same .dram (by simp), h0]

variable {s} {c : Nat}

/-- A channel that trains is shown, and leaves those still training (R523). -/
theorem trainingEnds_ok : trainingEnds c true s =
    let t := { s with dram := { s.dram with
      training := s.dram.training.filter (· != c)
      trained := c :: s.dram.trained.filter (· != c)
      failed := s.dram.failed.filter (· != c) } }.wr (ddrPage c) F.ddrc_CH_STATUS_TRAINED 1
    if t.dram.training.isEmpty then settleDdr t else t := rfl

/-- A channel that does not leave self-refresh intact takes every one to full training, with the contents lost (log entry 112). -/
theorem trainingEnds_quick (h : s.dram.full = false) : trainingEnds c false s = { s with dram := { s.dram with
    intact := false, full := true, used := 0, training := (List.range 8).filter s.qualifies, trained := [] } } :=
  if_pos (by rw [h]; rfl)

theorem trainingEnds_full : (trainingEnds c true s).dram.full = s.dram.full := by
  rw [trainingEnds_ok]
  extract_lets dram t
  split
  · exact settleDdr_full t
  · rfl

theorem ddrTrainingComplete_moves (channel : Fin 8) (ok : Bool) (s : State) : Moves (· ∈ [.regs, .out, .ddr, .poison, .host, .latches,
    .tbl, .mtn, .crown, .dram]) s (exec (.ddrTrainingComplete channel ok) s) := by
  apply execDdrTrainingComplete_touches <;> simp [Touches.refl]

/-! ## Margins and temperature (R524, R527) -/

theorem rd_marginCheck (r w : Nat) : (marginCheck c r w s).rd (ddrPage c) F.ddrc_MARGIN_READ_MARGIN = r % 2 ^ 8 ∧
    (marginCheck c r w s).rd (ddrPage c) F.ddrc_MARGIN_WRITE_MARGIN = w % 2 ^ 8 := by
  unfold marginCheck
  extract_lets p s1
  have h1 : s1.rd p F.ddrc_MARGIN_READ_MARGIN = r % 2 ^ 8 ∧ s1.rd p F.ddrc_MARGIN_WRITE_MARGIN = w % 2 ^ 8 := by
    simp (disch := decide) only [s1, State.rd_bump_of_place_ne, State.rd_wr_of_place_ne, State.rd_wr_self]
    exact ⟨rfl, rfl⟩
  split
  · rwa [State.rd_raise_of_body _ _ _ (by decide) (by decide), State.rd_raise_of_body _ _ _ (by decide) (by decide)]
  · exact h1

theorem unsigned_toInt (x : BitVec 8) : unsigned 8 x.toInt = x.toNat := by
  unfold unsigned
  rw [BitVec.toInt_eq_toNat_bmod, Int.bmod_emod]
  omega

theorem rd_dramTemp (x : Int) : (dramTemp c (some x) s).rd (ddrPage c) F.ddrc_TEMP_DRAM_TEMP = unsigned 8 x % 2 ^ 8 ∧
    (dramTemp c (some x) s).rd (ddrPage c) F.ddrc_TEMP_DOUBLE_REFRESH = (decide (85 < x)).toNat % 2 ^ 1 := by
  unfold dramTemp
  extract_lets p
  dsimp -zeta only
  extract_lets s1
  have h1 : s1.rd p F.ddrc_TEMP_DRAM_TEMP = unsigned 8 x % 2 ^ 8 ∧ s1.rd p F.ddrc_TEMP_DOUBLE_REFRESH = (decide (85 < x)).toNat % 2 ^ 1 := by
    simp (disch := decide) only [s1, State.rd_wr_of_place_ne, State.rd_wr_self]
    exact ⟨rfl, rfl⟩
  split
  · rwa [State.rd_raise_of_body _ _ _ (by decide) (by decide), State.rd_raise_of_body _ _ _ (by decide) (by decide)]
  · exact h1

/-! ## Errors and scrubbing (R525 to R527) -/

theorem ddrEccError_moves (address : BitVec 41) (corrected : Bool) (s : State) :
    Moves (· ∈ [.regs, .out, .poison, .host, .latches]) s (exec (.ddrEccError address corrected) s) := by
  apply execDdrEccError_touches <;> simp [Touches.refl]

theorem exec_ddrEccError (address : BitVec 41) (corrected : Bool) (hin : s.inDdr address.toNat = true)
    (hsr : s.dram.selfRefresh = false) : exec (.ddrEccError address corrected) s = .next (ddrEcc address.toNat corrected s) :=
  congrArg Host.Outcome.next (State.given_of (by rw [hin, hsr]; rfl) _)

theorem State.raise_poison (page cause : Nat) : (s.raise page cause).poison = s.poison :=
  (State.raise_touches (ps := (· ≠ .poison)) nofun nofun nofun nofun (Touches.refl _ s)).same .poison (by simp)

theorem State.raise_ddr (page cause : Nat) : (s.raise page cause).ddr = s.ddr :=
  (State.raise_touches (ps := (· ≠ .ddr)) nofun nofun nofun nofun (Touches.refl _ s)).same .ddr (by simp)

/-- The lines that an error and a visit leave: only the one of its address changes. -/
theorem poison_ddrEcc (a : Nat) : (ddrEcc a false s).poison = s.poison.put false (a / 64) true := State.raise_poison ..

theorem rd_errAddr_ddrEcc (a : Nat) :
    (ddrEcc a false s).rd (ddrPage (s.channelOf a)) F.ddrc_ERR_ADDR = a / 64 * 64 % 2 ^ F.ddrc_ERR_ADDR.w := by
  unfold ddrEcc
  extract_lets p
  rw [if_neg Bool.false_ne_true]
  rw [State.rd_raise_of_body _ _ _ (by decide) (by decide), State.rd_bump_of_place_ne _ _ _ (by decide), State.rd_wr_self]

/-- A visit rewrites a line of the shadow's GiB without its poison, and no other (R526). -/
theorem poison_scrubLine (a l : Nat) : (scrubLine a s).poison.val false l =
    if 2 ^ 30 ≤ a ∧ a < 2 ^ 31 ∧ l = a / 64 then false else s.poison.val false l := by
  unfold scrubLine SMap.val
  by_cases h : GiB ≤ a ∧ a < 2 * GiB
  · rw [if_pos h]
    by_cases hl : l = a / 64
    · rw [if_pos ⟨h.1, h.2, hl⟩, hl]
      exact congrArg (·.getD false) (SMap.at?_del_self _ _)
    · rw [if_neg fun hn => hl hn.2.2]
      exact congrArg (·.getD false) (SMap.at?_del_of_ne _ hl)
  · rw [if_neg h, if_neg fun hn => h ⟨hn.1, hn.2.1⟩]

theorem scrubLine_regs (a : Nat) : (scrubLine a s).regs = s.regs := by
  unfold scrubLine
  split <;> rfl

theorem selfRefreshEntry_moves (s : State) : Moves (· ∈ [.dram]) s (exec .selfRefreshEntry s) := by
  apply execSelfRefreshEntry_touches <;> simp [Touches.refl]

theorem exec_dramTempRead {channel : Fin 8} (temp : Option (BitVec 8)) (hs : s.stopped = false)
    (hp : s.on (ddrPage channel.val) F.ddrc_CH_STATUS_POPULATED = true)
    (hdue : s.dueAt (0x21000 + channel.val) 100000000 s.nowNs = true) : exec (.dramTempRead channel temp) s =
      .next (dramTemp channel.val (temp.map BitVec.toInt)
        { s with ticks := { s.ticks with last := s.ticks.last.put s.ticks.base (0x21000 + channel.val) s.nowNs } }) :=
  congrArg Host.Outcome.next ((State.running_given_of hs (c := fun s => s.on (ddrPage channel.val) F.ddrc_CH_STATUS_POPULATED) hp
    (fun _ s => s.periodic (0x21000 + channel.val) 100000000 (dramTemp channel.val (temp.map BitVec.toInt)))).trans
    (State.periodic_of hdue _))

theorem dramTempRead_moves (channel : Fin 8) (temp : Option (BitVec 8)) (s : State) :
    Moves (· ∈ [.regs, .out, .host, .latches, .ticks]) s (exec (.dramTempRead channel temp) s) := by
  apply execDramTempRead_touches <;> simp [Touches.refl]

end

end Sys2Proof.Machine

namespace Sys2Proof

open Sys2Proof.Machine

/-- Settles O45: each command where its guard holds. A failed exit from self-refresh takes every channel to full training with the
contents lost, which is the model's choice (log entry 112). -/
theorem dramCommandsComplete : Obligations.DramCommandsComplete := by
  unfold Obligations.DramCommandsComplete
  refine ⟨fun data s hs hsh hfit ha hl hr hb => ?_, fun data s hs hsh hno => ?_, fun c ok s hc => ?_, fun c s hc hleft => ?_,
    fun c s hc hfull => ?_, fun c r w s hs hu hd hdue => ?_, fun a corr s hin hsr => ?_, fun a s hin hsr => ?_,
    fun a s hin hsr => ?_, fun a s hs he hin => ?_, fun c temp s hs hp hdue => ?_, fun c temp s hs hp hdue => ?_,
    fun s hsafe hq => ?_, fun e s hsafe hdue => ?_⟩
  · have hfree : (s.wakeClock 0x340).layoutFree data.toNat = true := by
      rw [layoutFree_wakeClock]
      unfold State.layoutFree
      rw [ha, hl, hr, hb, decide_eq_true hfit]
      rfl
    refine exec_is_and (congrArg Host.Outcome.next ((State.written_of hs hsh _).trans ((writeRetxGib_eq _ _).trans (if_pos hfree))))
      (retxGibWrite_moves s data) ?_
    rw [State.rd_vector, rd_retx_refreshRegions, State.rd_wr_self]
    rfl
  · have hfree : (s.wakeClock 0x340).layoutFree data.toNat = false := (layoutFree_wakeClock s 0x340 data.toNat).trans hno
    refine exec_is_and (congrArg Host.Outcome.next ((State.written_of hs hsh _).trans ((writeRetxGib_eq _ _).trans
      (if_neg (by rw [hfree]; exact Bool.false_ne_true))))) (retxGibWrite_moves s data) ?_
    rw [State.rd_raise_of_body _ _ _ (by decide) (by decide), State.rd_set1_of_place_ne _ (by decide), State.rd_wakeClock]
  · refine exec_is_and (congrArg Host.Outcome.next (State.given_of hc _)) (ddrTrainingComplete_moves c ok s) fun h => ?_
    subst h
    exact trainingEnds_full
  · have hne : (s.dram.training.filter (· != c.val)).isEmpty = false := by
      rw [List.isEmpty_eq_false_iff]
      exact hleft
    refine exec_has (congrArg Host.Outcome.next ((State.given_of hc _).trans (trainingEnds_ok.trans
      (if_neg fun he => Bool.false_ne_true (hne.symm.trans he))))) (ddrTrainingComplete_moves c true s)
      ⟨State.rd_wr_self _ _ _ _, ?_, rfl, ?_⟩
    · show (c.val :: _).contains c.val = true
      simp
    · exact State.wri_regsOnly _ _ (by decide) _
  · exact exec_has (congrArg Host.Outcome.next ((State.given_of hc _).trans (trainingEnds_quick hfull)))
      (ddrTrainingComplete_moves c false s) ⟨rfl, rfl, rfl, rfl, rfl, fun _ _ => rfl⟩
  · have hguard : (s.on (ddrPage c.val) F.ddrc_CH_STATUS_IN_USE && (s.dom (196 + c.val)).state == 0 && s.marginDue c.val) = true := by
      rw [hu, hd, hdue]
      rfl
    refine exec_has (congrArg Host.Outcome.next ((State.running_of hs _).trans (State.given_of hguard _))) ?_ ?_
    · apply execMarginCheck_touches <;> simp [Touches.refl]
    · rw [(rd_marginCheck _ _).1, (rd_marginCheck _ _).2, Nat.mod_eq_of_lt r.isLt, Nat.mod_eq_of_lt w.isLt]
      exact ⟨rfl, rfl⟩
  · refine exec_is_and (exec_ddrEccError a corr hin hsr) (ddrEccError_moves a corr s) ?_
    show (if corr = true then _ else _ : State).ddr = _
    split <;> exact State.raise_ddr ..
  · exact exec_is_and (exec_ddrEccError a true hin hsr) (ddrEccError_moves a true s) (State.raise_poison ..)
  · refine exec_has (exec_ddrEccError a false hin hsr) (ddrEccError_moves a false s) ⟨?_, fun l hl => ?_, State.raise_ddr ..,
      rd_errAddr_ddrEcc _⟩
    · rw [poison_ddrEcc, SMap.val_put_self]
    · rw [poison_ddrEcc, SMap.val_put_of_ne _ _ hl]
  · refine exec_has (congrArg Host.Outcome.next ((State.running_of hs _).trans (State.given_of (by rw [he, hin]; rfl) _))) ?_
      ⟨?_, fun l hl => ?_, fun k _ => by rw [scrubLine_regs]⟩
    · apply execDdrScrubVisit_touches <;> simp [Touches.refl]
    · simp only [poison_scrubLine, and_true]
    · rw [poison_scrubLine, if_neg fun hn => hl hn.2.2]
  · refine exec_is_and (exec_dramTempRead temp hs hp hdue) (dramTempRead_moves c temp s) fun h => ?_
    subst h
    exact State.rd_raise_of_body _ _ _ (by decide) (by decide)
  · refine exec_has (exec_dramTempRead (some temp) hs hp hdue) (dramTempRead_moves c (some temp) s) ?_
    rw [Option.map_some, (rd_dramTemp _).1, (rd_dramTemp _).2, unsigned_toInt, Nat.mod_eq_of_lt temp.isLt]
    exact ⟨rfl, Nat.mod_eq_of_lt (Bool.toNat_lt _)⟩
  · refine exec_has (t := enterSelfRefresh s) (congrArg Host.Outcome.next ?_) (selfRefreshEntry_moves s) ⟨rfl, fun _ _ => rfl⟩
    rw [hsafe]
    exact State.given_of hq _
  · refine exec_has (t := enterSelfRefresh s) (congrArg Host.Outcome.next ?_) (selfRefreshEntry_moves s) ⟨rfl, fun _ _ => rfl⟩
    rw [hsafe]
    exact State.given_of hdue _

end Sys2Proof
end

section
/-! SUPPORT. The registers of Crown's own page through the tables, the UCS slices and Crown's command paths (R491, R494, R502). -/

namespace Sys2Proof.Machine

/-- A bit address of Crown's page, behind its header. -/
def crownKey (k : Nat) : Prop := k / 0x8000 = 0x10 ∧ 0x400 ≤ k % 0x8000

theorem offHeader_crownKey (page : Nat) : OffHeader crownKey page := fun k hk => by
  unfold crownKey at hk
  omega

theorem beforeCounters_crownKey (k : Nat) (hk : crownKey k) : beforeCounters k := by
  unfold crownKey at hk
  unfold beforeCounters
  omega

/-- The pages behind Crown's are not its own. -/
theorem not_crownKey_above {page : Nat} (hp : 0x11 ≤ page) (f : Fld) (i j : Nat) : ¬ crownKey (f.key page i j) := by
  unfold crownKey Fld.key
  generalize f.stride * i = a
  generalize f.bst * j = b
  omega

/-- No register of Crown's page changes. -/
def CrownKept (s t : State) : Prop := RegsKept crownKey s t

section
variable {s t : State}

theorem CrownKept.refl (s : State) : CrownKept s s := RegsKept.refl _ s

theorem CrownKept.of_regs_eq (h : CrownKept s t) {u : State} (hr : u.regs = t.regs) : CrownKept s u := RegsKept.congr h hr

theorem CrownKept.ite {a b : State} {c : Prop} [Decidable c] (ha : CrownKept s a) (hb : CrownKept s b) :
    CrownKept s (if c then a else b) := RegsKept.ite ha hb

theorem CrownKept.rd {page : Nat} {f : Fld} (h : CrownKept s t) (hk : crownKey (f.key page 0 0)) : t.rd page f = s.rd page f :=
  RegsKept.rd h hk

section
variable (h : CrownKept s t)
include h

theorem CrownKept.trans {u : State} (h' : CrownKept t u) : CrownKept s u := RegsKept.trans h h'

theorem CrownKept.foldl {α : Type} {f : State → α → State} (hf : ∀ u x, CrownKept s u → CrownKept s (f u x)) (l : List α) :
    CrownKept s (l.foldl f t) := RegsKept.foldl h fun u x _ hu => hf u x hu

theorem CrownKept.wr {page : Nat} (hp : 0x11 ≤ page) (f : Fld) (v : Nat) : CrownKept s (t.wr page f v) :=
  RegsKept.wr h (not_crownKey_above hp f 0 0) v

theorem CrownKept.wri {page : Nat} (hp : 0x11 ≤ page) (f : Fld) (i v : Nat) : CrownKept s (t.wri page f i v) :=
  RegsKept.wri h (not_crownKey_above hp f i 0) v

theorem CrownKept.set1 {page : Nat} (hp : 0x11 ≤ page) (f : Fld) : CrownKept s (t.set1 page f) :=
  RegsKept.set1 h (not_crownKey_above hp f 0 0)

theorem CrownKept.raise (page : Nat) {cause : Nat} (hc : cause < 64) : CrownKept s (t.raise page cause) :=
  RegsKept.raise h (offHeader_crownKey page) hc

theorem CrownKept.vector (v : Nat) : CrownKept s (t.vector v) := RegsKept.vector h v

/-! ### The tables' command queues (R230, R232) -/

theorem CrownKept.showCq (q : Nat) : CrownKept s (showCq q t) :=
  (h.wr (page := cqPage q) (by unfold cqPage; omega) _ _).wr (by decide) _ _

theorem CrownKept.cutCq (q : Nat) : CrownKept s (cutCq q t) := by
  have hq : 0x11 ≤ cqPage q := by unfold cqPage; omega
  have hput : CrownKept s (t.putCq q { t.cq q with
      posted := (t.cq q).fetched ++ (t.cq q).posted
      fetched := []
      done := none
      drain := none }) := h.of_regs_eq rfl
  exact ((((hput.showCq q).set1 hq _).set1 hq _).raise 0x300 (by decide)).raise 0x380 (by decide)

theorem CrownKept.fetchPosted (q : Nat) : CrownKept s (fetchPosted q t) := by
  unfold Machine.fetchPosted
  exact .ite (.ite (.ite h (h.cutCq q)) (CrownKept.showCq (h.of_regs_eq (u := t.putCq q _) rfl) q)) h

theorem CrownKept.finish (q : Nat) (c : Completion) : CrownKept s (finish q c t) := by
  unfold Machine.finish
  split
  · exact h
  · refine .ite (h.cutCq q) ?_
    extract_lets pg head at_ put fields s1 c1 s2 s3 s4
    have hput (off : Nat) (bs : Option (List Byte)) {u : State} (hu : CrownKept s u) : CrownKept s (put off bs u) := by
      cases bs with
      | none => exact hu
      | some b => exact hu.of_regs_eq rfl
    have h1 : CrownKept s s1 := hput 0xC0 (some (leBytes 1 c.status)) (hput 0xC1 (some fields) (hput 0x80 c.mask (hput 0x40 c.key h)))
    have h2 : CrownKept s s2 := CrownKept.wr (h1.of_regs_eq rfl) (page := pg) (by unfold pg cqPage; omega) _ _
    have h3 : CrownKept s s3 := h2.showCq q
    have h4 : CrownKept s s4 := .ite h3 (h3.vector _)
    exact h4.foldl (fun _ k hu => hu.fetchPosted k) _

theorem CrownKept.skipUnknown (q n : Nat) : CrownKept s (skipUnknown q n t) := by
  induction n generalizing t with
  | zero => exact h
  | succ n ih =>
    unfold Machine.skipUnknown
    split
    · exact h
    · exact .ite h (ih (h.finish q _))

theorem CrownKept.complete (q : Nat) (c : Completion) : CrownKept s (complete q c t) :=
  (h.finish q c).foldl (fun _ k hu => hu.skipUnknown k _) _

/-! ### The places of the tables and the slices (R219, R199) -/

theorem CrownKept.putEmt (i : Nat) (p : Place EmtEntry) : CrownKept s (t.putEmt i p) := by
  unfold State.putEmt refreshEmt
  extract_lets tables n st s1
  have h1 : CrownKept s s1 := CrownKept.wr (CrownKept.wr (h.of_regs_eq rfl) (by decide) _ _) (by decide) _ _
  exact .ite ((h1.raise _ (by decide)).vector _) h1

theorem CrownKept.dropHold (i : Nat) : CrownKept s (dropHold i t) := by
  unfold Machine.dropHold
  exact .ite (CrownKept.wr (h.of_regs_eq rfl) (by decide) _ _) h

theorem CrownKept.showCla : CrownKept s (showCla t) := h.wr (by decide) _ _

theorem CrownKept.putRow (i : Nat) (r : Row) (g : Nat) : CrownKept s (putRow i r g t) := by
  unfold Machine.putRow
  cases r with
  | emt x =>
    cases x with
    | none => exact (h.putEmt i _).dropHold i
    | some _ => exact h.putEmt i _
  | lpa _ => exact CrownKept.wr (h.of_regs_eq rfl) (by decide) _ _
  | cla _ => exact CrownKept.showCla (h.of_regs_eq rfl)

theorem CrownKept.unstage (table i : Nat) : CrownKept s (unstage table i t) := by
  unfold Machine.unstage
  split
  · exact h.putEmt i _
  · exact CrownKept.wr (h.of_regs_eq rfl) (by decide) _ _
  · exact h.of_regs_eq rfl

theorem CrownKept.setUcsState (g st : Nat) : CrownKept s (setUcsState g st t) := by
  have hg : 0x11 ≤ ucsPage g := by unfold ucsPage; omega
  unfold Machine.setUcsState
  exact .ite h (((h.wr hg _ _).wr hg _ _).vector _)

theorem CrownKept.switchBank (g : Nat) : CrownKept s (switchBank g t) := by
  have hg : 0x11 ≤ ucsPage g := by unfold ucsPage; omega
  unfold Machine.switchBank
  extract_lets x knuckle u s1
  have h1 : CrownKept s s1 := CrownKept.wr (CrownKept.wr (t := u) (h.of_regs_eq rfl) hg _ _) hg _ _
  refine CrownKept.setUcsState ?_ g 4
  exact CrownKept.wr (CrownKept.wr (h1.of_regs_eq (u := s1.putStore g _) rfl) hg _ _) hg _ _

/-! ### The epoch (R237) -/

theorem CrownKept.discardEpoch : CrownKept s (discardEpoch t) := by
  unfold Machine.discardEpoch
  extract_lets s1 tables s2
  have h1 : CrownKept s s1 := h.foldl (fun _ x hu => hu.unstage x.1 x.2) _
  have h2 : CrownKept s s2 :=
    CrownKept.wr (CrownKept.wr (CrownKept.wr (h1.of_regs_eq rfl) (by decide) _ _) (by decide) _ _) (by decide) _ _
  exact .ite h2 (h2.vector _)

theorem CrownKept.epochEffect : CrownKept s (epochEffect t) := by
  unfold Machine.epochEffect
  extract_lets e s1 s2 s3 tables s4 s5 s6 s7
  refine .ite h ?_
  have h1 : CrownKept s s1 := h.wr (by decide) _ _
  have h2 : CrownKept s s2 := h1.foldl (fun u x hu => by
    split
    · exact hu.putRow _ _ _
    · exact hu) _
  have h3 : CrownKept s s3 := h2.foldl (fun u g hu => hu.switchBank g) _
  have h5 : CrownKept s s5 := CrownKept.wr (CrownKept.wr (t := s4) (h3.of_regs_eq rfl) (by decide) _ _) (by decide) _ _
  have h6 : CrownKept s s6 := (h5.wr (by decide) _ _).wr (by decide) _ _
  have h7 : CrownKept s s7 := .ite (h6.set1 (by decide) _) h6
  exact (RegsKept.countEvent h7 beforeCounters_crownKey _ _ _ _).vector _

end

end

end Sys2Proof.Machine
end

section
/-! SUPPORT. Crown's two command paths: what a completion and a look at the paths leave of Crown (R491, R494, R500). -/

namespace Sys2Proof.Machine

theorem State.raise_crown (s : State) (page cause : Nat) : (s.raise page cause).crown = s.crown :=
  (State.raise_touches (ps := (· ≠ .crown)) nofun nofun nofun nofun (Touches.refl _ s)).same .crown (by simp)

theorem State.vector_crown (s : State) (v : Nat) : (s.vector v).crown = s.crown :=
  (State.vector_touches (ps := (· ≠ .crown)) nofun nofun (Touches.refl _ s)).same .crown (by simp)

theorem State.raise_mono (s : State) (page cause : Nat) : (s.raise page cause).mono = s.mono := by
  have h : Touches (fun p => p ≠ .time ∧ p ≠ .hat) s (s.raise page cause) := by
    apply State.raise_touches <;> simp [Touches.refl]
  exact State.mono_congr (h.same .time (by simp)) (h.same .hat (by simp))

theorem State.vector_mono (s : State) (v : Nat) : (s.vector v).mono = s.mono := by
  have h : Touches (fun p => p ≠ .time ∧ p ≠ .hat) s (s.vector v) := by
    apply State.vector_touches <;> simp [Touches.refl]
  exact State.mono_congr (h.same .time (by simp)) (h.same .hat (by simp))

/-- The paths go on: Crown's own registers stay, and of Crown only what is posted and fetched moves, with the checkpoint that a
completion writes (R500). -/
structure PathsMove (s t : State) : Prop where
  regs : CrownKept s t
  crown : t.crown = { s.crown with
    fetched := t.crown.fetched
    posted := t.crown.posted
    checkpoint := t.crown.checkpoint }
  checkpoint : t.crown.checkpoint = s.crown.checkpoint ∨ t.crown.checkpoint = s.mono
  mono : t.mono = s.mono

section
variable {s t : State}

theorem PathsMove.refl (s : State) : PathsMove s s := ⟨CrownKept.refl s, rfl, .inl rfl, rfl⟩

/-- A step that leaves Crown and the clock. -/
theorem PathsMove.next (h : PathsMove s t) {u : State} (hr : CrownKept s u) (hc : u.crown = t.crown) (hm : u.mono = t.mono) :
    PathsMove s u := ⟨hr, by rw [hc]; exact h.crown, by rw [hc]; exact h.checkpoint, hm.trans h.mono⟩

theorem PathsMove.ite {a b : State} {c : Prop} [Decidable c] (ha : PathsMove s a) (hb : PathsMove s b) :
    PathsMove s (if c then a else b) := by
  split
  · exact ha
  · exact hb

section
variable (h : PathsMove s t)
include h

theorem PathsMove.wr {page : Nat} (hp : 0x11 ≤ page) (f : Fld) (v : Nat) : PathsMove s (t.wr page f v) :=
  h.next (h.regs.wr hp f v) rfl rfl

theorem PathsMove.set1 {page : Nat} (hp : 0x11 ≤ page) (f : Fld) : PathsMove s (t.set1 page f) :=
  h.next (h.regs.set1 hp f) rfl rfl

theorem PathsMove.raise (page : Nat) {cause : Nat} (hc : cause < 64) : PathsMove s (t.raise page cause) :=
  h.next (h.regs.raise page hc) (State.raise_crown ..) (State.raise_mono ..)

theorem PathsMove.vector (v : Nat) : PathsMove s (t.vector v) := h.next (h.regs.vector v) (State.vector_crown ..) (State.vector_mono ..)

theorem PathsMove.send (o : Output) : PathsMove s (t.send o) := h.next (h.regs.of_regs_eq rfl) rfl rfl

/-- What is posted and fetched changes. -/
theorem PathsMove.queues (fetched posted : List (List Byte)) :
    PathsMove s { t with crown := { t.crown with fetched := fetched, posted := posted } } :=
  ⟨h.regs.of_regs_eq rfl, by rw [h.crown], h.checkpoint, h.mono⟩

theorem PathsMove.stopCrownRing : PathsMove s (stopCrownRing t) :=
  ((((h.queues _ _).set1 (by decide) _).set1 (by decide) _).raise 0x10 (by decide)).vector 10

/-- A completion notes the checkpoint, and the command leaves its path. -/
theorem PathsMove.crownComplete (ring : Bool) (c : CrownDone) : PathsMove s (crownComplete ring c t) := by
  have h0 : PathsMove s { t with crown := { t.crown with checkpoint := t.mono } } :=
    ⟨h.regs.of_regs_eq rfl, by rw [h.crown], .inr h.mono, h.mono⟩
  unfold Machine.crownComplete
  extract_lets crown u head at_ s1 crown' d s1'
  split
  · split
    · exact h0
    · next d rest _ =>
      split
      · exact h0.stopCrownRing
      · extract_lets s2
        have h2 : PathsMove s s2 := (((h0.send _).send _).queues rest s1.crown.posted).wr (by decide) _ _
        exact .ite h2 (h2.vector 9)
  · have h1 : PathsMove s s1' := by
      refine List.foldlRecOn _ _ (motive := PathsMove s) h0 fun v hv k _ => ?_
      exact hv.next (hv.regs.wri (by decide) _ _ _) rfl rfl
    exact ((h1.wr (by decide) _ _).set1 (by decide) _).vector 8

theorem PathsMove.crownSkip (ring : Bool) (n : Nat) : PathsMove s (crownSkip ring n t) := by
  induction n generalizing t with
  | zero => exact h
  | succ n ih =>
    unfold Machine.crownSkip
    split
    · exact h
    · exact .ite h (ih (h.crownComplete ring _))

theorem PathsMove.fetchCrown : PathsMove s (fetchCrown t) := by
  unfold Machine.fetchCrown
  exact .ite (.ite (h.queues _ _) h.stopCrownRing) h

theorem PathsMove.pumpCrown : PathsMove s (pumpCrown t) := by
  unfold Machine.pumpCrown
  split
  · exact (h.fetchCrown.crownSkip true _).crownSkip false 1
  · split
    · split
      · exact .ite h (h.crownComplete false _)
      · exact h
    · exact h

theorem PathsMove.crownEnd (ring : Bool) (c : CrownDone) : PathsMove s (crownEnd ring c t) := (h.crownComplete ring c).pumpCrown

theorem PathsMove.updateState : t.updateState = s.updateState := h.regs.rd (by unfold crownKey; decide)

theorem PathsMove.standbyState : t.standbyState = s.standbyState := h.regs.rd (by unfold crownKey; decide)

end

end

/-! ## The marks of an update (R503) -/

section
variable (s : State)

theorem updateState_setUpdate {n : Nat} (hn : n < 16) : (setUpdate n s).updateState = n := by
  unfold setUpdate State.updateState
  rw [State.rd_vector, State.rd_wr_self]
  exact Nat.mod_eq_of_lt hn

theorem standbyState_setUpdate (n : Nat) : (setUpdate n s).standbyState = s.standbyState := by
  unfold setUpdate State.standbyState
  rw [State.rd_vector, State.rd_wr_of_place_ne _ _ (by decide)]

theorem standbyState_setStandby {n : Nat} (hn : n < 8) : (setStandby n s).standbyState = n :=
  (State.rd_wr_self _ _ _ _).trans (Nat.mod_eq_of_lt hn)

theorem updateState_setStandby (n : Nat) : (setStandby n s).updateState = s.updateState := by
  unfold setStandby State.updateState
  rw [State.rd_wr_of_place_ne _ _ (by decide)]

theorem setUpdate_crown (n : Nat) : (setUpdate n s).crown = s.crown := State.vector_crown ..

theorem setUpdate_regsOnly (n : Nat) : RegsOnly [0x10] s (setUpdate n s) := by
  have h : RegsOnly [0x10] s (s.wr 0x10 F.crn0_CROWN_STATUS_UPDATE_STATE n) := State.wr_regsOnly _ _ (by decide) _
  exact h.trans (RegsOnly.of_regs_eq _ (State.vector_regs _ _))

theorem setStandby_regsOnly (n : Nat) : RegsOnly [0x10] s (setStandby n s) := State.wr_regsOnly s 0x10 (by decide) n

end

/-- The end of an update: it is IDLE, the standby pair is as told, and of Crown the update is gone (R503). -/
theorem endUpdate_ends {s : State} {u : Update} (hu : s.crown.update = some u) (status detail : Nat) {standby : Nat} (hs : standby < 8) :
    ∃ t : State, t.updateState = 0 ∧ t.standbyState = standby ∧ t.crown = { s.crown with update := none } ∧
      PathsMove t (endUpdate status detail standby s) := by
  refine ⟨setStandby standby (setUpdate 0 { s with crown := { s.crown with update := none } }), ?_, standbyState_setStandby _ hs,
    setUpdate_crown _ _, ?_⟩
  · rw [updateState_setStandby, updateState_setUpdate _ (by decide)]
  · unfold endUpdate
    rw [hu]
    dsimp only
    split
    · exact (PathsMove.refl _).crownEnd _ _
    · exact (PathsMove.refl _).pumpCrown

end Sys2Proof.Machine
end

section
/-! PROOF. O43: hitless updates, checkpoints and the failures of Crown's pairs (R500 to R505). -/

namespace Sys2Proof.Machine

/-! ## The responder (R508) -/

theorem spdmAnswer_regs (kind : String) (args : List Nat) (nonce : List Byte) (s : State) : (spdmAnswer kind args nonce s).regs = s.regs :=
  (spdmAnswer_touches (ps := (· ≠ .regs)) nofun nofun (Touches.refl _ s)).same .regs (by simp)

theorem spdmAnswer_crown (kind : String) (args : List Nat) (nonce : List Byte) (s : State) : (spdmAnswer kind args nonce s).crown = s.crown :=
  (spdmAnswer_touches (ps := (· ≠ .crown)) nofun nofun (Touches.refl _ s)).same .crown (by simp)

theorem doeServe_regs (s : State) : (doeServe s).regs = s.regs := by
  unfold doeServe
  split
  · split
    · exact spdmAnswer_regs ..
    · rfl
  · rfl

/-- Of Crown only the request that waits may go. -/
theorem doeServe_crown (s : State) : (doeServe s).crown = { s.crown with doe := (doeServe s).crown.doe } := by
  unfold doeServe
  split
  · split
    · rw [spdmAnswer_crown]
    · rfl
  · rfl

theorem updateState_doeServe (s : State) : (doeServe s).updateState = s.updateState := State.rdx_congr (doeServe_regs s) ..

theorem standbyState_doeServe (s : State) : (doeServe s).standbyState = s.standbyState := State.rdx_congr (doeServe_regs s) ..

/-! ## The switch (R503) -/

/-- The new pair is active with the new firmware, and the previous one stands by. -/
theorem handOver_hands (u : Update) (s : State) : ∃ t : State, t.updateState = 4 ∧ t.crown.active = u.new_ ∧
    t.crown.standby = s.crown.active ∧ PathsMove t (handOver u s) := by
  unfold handOver
  extract_lets crown s1 s2 s3 s4
  have h3 : s3.updateState = 4 := updateState_setUpdate _ (by decide)
  have hc3 : s3.crown = s1.crown := by
    unfold s3
    rw [setUpdate_crown]
    split <;> rfl
  have h4 : s4.updateState = 4 ∧ s4.crown = s3.crown := by
    unfold s4
    split
    · refine ⟨Eq.trans ?_ h3, rfl⟩
      exact State.rd_set1_of_place_ne _ (by decide)
    · exact ⟨h3, rfl⟩
  refine ⟨s4, h4.1, by rw [h4.2, hc3]; rfl, by rw [h4.2, hc3]; rfl, ?_⟩
  split
  · exact (PathsMove.refl _).crownEnd _ _
  · exact PathsMove.refl _

/-- RESYNC begins (R503). -/
theorem startResync_begins {s : State} {u : Update} (hu : s.crown.update = some u) (confirm : Option Bool) :
    (startResync confirm s).updateState = 5 ∧ (startResync confirm s).crown.update = some { u with confirm := confirm } ∧
      RegsOnly [0x10] s (startResync confirm s) := by
  unfold startResync
  rw [hu]
  exact ⟨updateState_setUpdate _ (by decide), congrArg Crown.update (setUpdate_crown _ _),
    (setStandby_regsOnly { s with crown := { s.crown with update := some { u with confirm := confirm } } } _).trans
      (setUpdate_regsOnly _ _)⟩

/-- The update ends: Crown is IDLE with its standby pair as told, and what waits goes on. -/
theorem resync_ends {s t : State} (hu : s.crown.update = none) {n : Nat} (hn : n < 8)
    (h : PathsMove (setUpdate 0 (setStandby n (showFirmware s))) t) :
    t.updateState = 0 ∧ t.crown.update = none ∧ t.standbyState = n := by
  refine ⟨h.updateState.trans (updateState_setUpdate _ (by decide)), ?_, ?_⟩
  · rw [h.crown, setUpdate_crown]
    exact hu
  · rw [h.standbyState, standbyState_setUpdate, standbyState_setStandby _ hn]

/-! ## Checkpoints (R500) -/

/-- The end of a load is a completion on its path. -/
theorem endLoad_checkpoint (s : State) : (endLoad s).crown.checkpoint = s.crown.checkpoint ∨ (endLoad s).crown.checkpoint = s.mono := by
  unfold endLoad
  split
  · exact .inl rfl
  · unfold State.given
    split
    · exact ((PathsMove.refl _).crownEnd _ _).checkpoint
    · exact .inl rfl

theorem checkpoint_goesOn {s : State} {a : T80} (hc : s.crown.checkpoint = a) (hm : s.mono = a) :
    (doeServe (endLoad (pumpCrown s))).crown.checkpoint = a := by
  have hp := (PathsMove.refl s).pumpCrown
  have h1 : (pumpCrown s).crown.checkpoint = a := by
    rcases hp.checkpoint with h | h
    · exact h.trans hc
    · exact h.trans hm
  rw [doeServe_crown]
  rcases endLoad_checkpoint (pumpCrown s) with h | h
  · exact h.trans h1
  · exact h.trans (hp.mono.trans hm)

/-! ## Failures (R501, R505) -/

/-- The cause of a failure of the active pair, by its kind. -/
def failureNoted (standby : Bool) (kind : Fin 3) (s : State) : State :=
  if standby = true then s else match kind.val with | 0 => s.raise 0x10 0 | 1 => s.raise 0x10 3 | _ => s

theorem failureNoted_crown (standby : Bool) (kind : Fin 3) (s : State) : (failureNoted standby kind s).crown = s.crown := by
  unfold failureNoted
  split
  · rfl
  · split
    · exact State.raise_crown ..
    · exact State.raise_crown ..
    · rfl

/-- What the failure of a pair does outside and inside the switch (R501, R505). -/
def pairFailure (standby : Bool) (kind : Fin 3) (after : Bool) (s : State) : State :=
  let s0 := failureNoted standby kind s
  if s.updateState = 3 then
    if after = true then (if standby = true then setStandby 0 (s0.raise 0x10 1) else setStandby 0 s0) else abandonSwitch standby s0
  else if standby = true then
    (if s.updateState = 1 ∨ s.updateState = 2 then endUpdate 0x0A 0 0 s0 else setStandby 0 s0).raise 0x10 1
  else if s.standbyState = 0 ∨ (s.standbyState = 2 ∧ s.updateState ≠ 1 ∧ s.updateState ≠ 2) then s0.raise 0x10 2
  else { s0 with crown := { s0.crown with
      takeover := true
      interrupted := if s.crownRuns = true then [false, true].filter s.stagesBundle else [] } }

theorem exec_crownPairFailure {s : State} (hs : s.stopped = false) (hd : s.boot.done.contains 7 = true) (ht : s.crown.takeover = false)
    (standby : Bool) (kind : Fin 3) (after : Bool) {t : State} (hf : pairFailure standby kind after s = t) :
    exec (.crownPairFailure standby kind after) s = .next t ∧ Only [.regs, .out, .host, .latches, .crown] s t := by
  have hg : (s.boot.done.contains 7 && !s.crown.takeover) = true := by rw [hd, ht]; rfl
  have he : exec (.crownPairFailure standby kind after) s = .next (pairFailure standby kind after s) :=
    congrArg Host.Outcome.next ((State.running_of hs _).trans (State.given_of hg _))
  rw [hf] at he
  refine exec_is he ?_
  apply execCrownPairFailure_touches <;> simp [Touches.refl]

/-! ## Takeovers (R501, R502) -/

/-- The standby pair has taken over with a firmware. -/
structure TookOver (a : Firmware) (t : State) : Prop where
  takeover : t.crown.takeover = false
  active : t.crown.active = a
  lost : t.standbyState = 0

section
variable {a : Firmware} {t : State} (h : TookOver a t)
include h

theorem TookOver.next {u : State} (hr : CrownKept t u) (ht : u.crown.takeover = t.crown.takeover)
    (ha : u.crown.active = t.crown.active) : TookOver a u :=
  ⟨ht.trans h.takeover, ha.trans h.active, Eq.trans (hr.rd (by unfold crownKey; decide)) h.lost⟩

theorem TookOver.paths {u : State} (hp : PathsMove t u) : TookOver a u := h.next hp.regs (by rw [hp.crown]) (by rw [hp.crown])

theorem TookOver.failoverStage : TookOver a (failoverStage t) := by
  have h0 : TookOver a { t with crown := { t.crown with interrupted := [] } } := ⟨h.takeover, h.active, h.lost⟩
  refine List.foldlRecOn _ _ (motive := TookOver a) h0 fun u hu r _ => ?_
  split
  · exact hu.paths ((PathsMove.refl u).crownComplete _ _)
  · exact hu

theorem TookOver.failoverLoad : TookOver a (failoverLoad t) := by
  unfold Machine.failoverLoad
  split
  · exact h
  · extract_lets s1 crown
    have h1 : CrownKept t s1 ∧ Touches (· ≠ .crown) t s1 := by
      refine List.foldlRecOn _ _ (motive := fun u => CrownKept t u ∧ Touches (· ≠ .crown) t u)
        ⟨CrownKept.refl t, Touches.refl _ t⟩ fun u hu g _ => ?_
      split
      · exact ⟨hu.1.setUcsState _ _, setUcsState_touches nofun nofun nofun hu.2⟩
      · exact hu
    have hc : s1.crown = t.crown := h1.2.same .crown (by simp)
    have hs1 : TookOver a s1 := h.next h1.1 (congrArg Crown.takeover hc) (congrArg Crown.active hc)
    have h2 : TookOver a { s1 with crown := { s1.crown with load := none } } := ⟨hs1.takeover, hs1.active, hs1.lost⟩
    exact h2.paths ((PathsMove.refl _).crownComplete _ _)

theorem TookOver.failoverEpoch : TookOver a (failoverEpoch t) := by
  have hc : (Machine.failoverEpoch t).crown = t.crown :=
    (failoverEpoch_touches (ps := (· ≠ .crown)) nofun nofun nofun nofun nofun nofun nofun (Touches.refl _ t)).same .crown (by simp)
  refine h.next ?_ (by rw [hc]) (by rw [hc])
  unfold Machine.failoverEpoch
  split
  · exact CrownKept.refl t
  · extract_lets report tables epoch u
    have hreport (res : Nat) {v : State} (hv : CrownKept t v) : CrownKept t (report res v) :=
      ((hv.wr (by decide) _ _).wr (by decide) _ _).vector _
    have hu : CrownKept t u := (CrownKept.refl t).of_regs_eq rfl
    split
    · exact (hreport 2 (CrownKept.refl t).discardEpoch).complete _ _
    · exact hreport 1 (.ite hu.epochEffect hu)

theorem TookOver.doeServe : TookOver a (doeServe t) :=
  h.next ((CrownKept.refl t).of_regs_eq (doeServe_regs t)) (by rw [doeServe_crown]) (by rw [doeServe_crown])

end

/-- Where an update is in STAGING or LOADING it ends, and one that waits for its confirmation fails (R505). -/
theorem takeover_ends {s t : State} {a : Firmware} (h : TookOver a t) :
    TookOver a (if s.updateState = 1 ∨ s.updateState = 2 then endUpdate 0x0A 0 0 t
      else if s.updateState = 4 then (endUpdate 0x0C 0 0 t).raise 0x10 6 else t) := by
  have hend (status : Nat) : TookOver a (endUpdate status 0 0 t) := by
    cases hu : t.crown.update with
    | none =>
      unfold endUpdate
      rw [hu]
      exact h
    | some u =>
      obtain ⟨v, -, hv, hc, hp⟩ := endUpdate_ends hu status 0 (standby := 0) (by decide)
      exact TookOver.paths ⟨by rw [hc]; exact h.takeover, by rw [hc]; exact h.active, hv⟩ hp
  split
  · exact hend _
  · split
    · exact (hend _).paths ((PathsMove.refl _).raise 0x10 (by decide))
    · exact h

end Sys2Proof.Machine

namespace Sys2Proof

open Sys2Proof.Machine

/-! ## Updates -/

theorem fwSelftestDone_ends (passed : Bool) (u : Update) (s : State) (hs : s.stopped = false) (hu : s.crown.update = some u)
    (h1 : s.updateState = 1) {t : State} (ht : (if (passed && s.slotWhole u.slot) = true then setUpdate 2 s else endUpdate 3 0x10 1 s) = t) :
    exec (.fwSelftestDone passed) s = .next t ∧ Only [.regs, .out, .host, .latches, .crown] s t := by
  refine exec_is (congrArg Host.Outcome.next ((State.running_of hs _).trans ?_)) ?_
  · rw [hu]
    exact (State.given_of (beq_iff_eq.2 h1) _).trans ht
  · apply execFwSelftestDone_touches <;> simp [Touches.refl]

theorem fwSwitchStart_switches (u : Update) (s : State) (hs : s.stopped = false) (hu : s.crown.update = some u)
    (h2 : s.updateState = 2) (hat : u.at_ ≤ s.now) (he : s.epochState = 0) :
    ∃ t, exec (.fwSwitchStart) s = .next t ∧
      Only [.regs, .out, .host, .crown] s t ∧
      t.updateState = 3 ∧
      t.crown.update = some { u with late := decide (u.at_ ≠ 0 ∧ u.at_ / nsUnits < s.nowNs) } ∧
      RegsOnly [0x10] s t := by
  have hg : (s.updateState == 2 && decide (u.at_ ≤ s.now) && s.epochState == 0) = true := by
    rw [h2, he, decide_eq_true hat]
    rfl
  refine exec_has (t := setUpdate 3 { s with crown := { s.crown with
      update := some { u with late := decide (u.at_ ≠ 0 ∧ u.at_ / nsUnits < s.nowNs) } } })
    (congrArg Host.Outcome.next ((State.running_of hs _).trans ?_)) ?_ ⟨updateState_setUpdate _ (by decide), ?_, ?_⟩
  · rw [hu]
    exact State.given_of hg _
  · apply execFwSwitchStart_touches <;> simp [Touches.refl]
  · exact congrArg Crown.update (setUpdate_crown _ _)
  · exact setUpdate_regsOnly _ 3

theorem fwSwitchComplete_hands (u : Update) (s : State) (hs : s.stopped = false) (hu : s.crown.update = some u)
    (h3 : s.updateState = 3) :
    exec (.fwSwitchComplete) s = .next (doeServe (handOver u s)) ∧
      Only [.regs, .free, .out, .host, .latches, .crown] s (doeServe (handOver u s)) ∧
      ((doeServe (handOver u s))).updateState = 4 ∧
      ((doeServe (handOver u s))).crown.active = u.new_ ∧
      ((doeServe (handOver u s))).crown.standby = s.crown.active := by
  obtain ⟨t, ht, ha, hb, hp⟩ := handOver_hands u s
  refine exec_is_and (congrArg Host.Outcome.next ((State.running_of hs _).trans ?_)) ?_ ⟨?_, ?_, ?_⟩
  · rw [hu]
    exact State.given_of (beq_iff_eq.2 h3) _
  · apply execFwSwitchComplete_touches <;> simp [Touches.refl]
  · rw [updateState_doeServe, hp.updateState, ht]
  · rw [doeServe_crown, hp.crown]
    exact ha
  · rw [doeServe_crown, hp.crown]
    exact hb

theorem confirmTimeout_resyncs (u : Update) (s : State) (hs : s.stopped = false) (hu : s.crown.update = some u)
    (h4 : s.updateState = 4) (hdue : u.since + ns (s.rd 0x10 F.crn0_CONFIRM_S * 1000000000) ≤ s.mono) :
    ∃ t, exec (.confirmTimeout) s = .next t ∧
      Only [.regs, .out, .host, .crown] s t ∧
      t.updateState = 5 ∧
      t.crown.update = some { u with confirm := none } ∧
      RegsOnly [0x10] s t := by
  refine exec_has (congrArg Host.Outcome.next ((State.running_of hs _).trans ?_)) ?_ (startResync_begins hu none)
  · rw [hu]
    exact State.given_of (and_decide_of h4 hdue) _
  · apply execConfirmTimeout_touches <;> simp [Touches.refl]

theorem fwResyncComplete_ends (missed : Fin 9) (u : Update) (s : State) (hs : s.stopped = false) (hu : s.crown.update = some u)
    (h5 : s.updateState = 5) :
    ∃ t, exec (.fwResyncComplete missed) s = .next t ∧
      Only [.regs, .free, .out, .host, .latches, .hat, .ldg, .crown] s t ∧
      t.updateState = 0 ∧
      t.crown.update = none ∧
      t.standbyState = (if s.standbyState = 0 then 0 else 1) := by
  have hrun : exec (.fwResyncComplete missed) s = .next _ := congrArg Host.Outcome.next (State.running_of hs _)
  rw [hu] at hrun
  have he := hrun.trans (congrArg Host.Outcome.next (State.given_of (beq_iff_eq.2 h5) _))
  have hm : Moves (· ∈ [.regs, .free, .out, .host, .latches, .hat, .ldg, .crown]) s (exec (.fwResyncComplete missed) s) := by
    show Moves _ s (execFwResyncComplete missed s)
    apply execFwResyncComplete_touches <;> simp [Touches.refl]
  have hn : (if s.standbyState = 0 then 0 else 1) < 8 := by split <;> decide
  refine exec_has he hm ?_
  extract_lets bs
  generalize addToFlash bs (installSections bs missed.val s) = p
  obtain ⟨s1, seq⟩ := p
  dsimp -zeta only
  extract_lets crown s2 s3
  split
  · exact resync_ends (s := s2) rfl hn ((PathsMove.refl s3).crownEnd _ _)
  · exact resync_ends (s := s2) rfl hn (PathsMove.refl s3).pumpCrown

/-! ## Checkpoints and failures -/

theorem checkpointWrite_goesOn (s : State) (hs : s.stopped = false) (ha : s.crownAwake = true) (hdue : s.dueAt 10 1000000 s.nowNs = true) :
    exec (.checkpointWrite) s = .next (doeServe (endLoad (pumpCrown { s with ticks := { s.ticks with last := s.ticks.last.put s.ticks.base 10 s.nowNs }, crown := { s.crown with checkpoint := s.mono } }))) ∧
      Only [.regs, .free, .out, .host, .latches, .ticks, .crown] s (doeServe (endLoad (pumpCrown { s with ticks := { s.ticks with last := s.ticks.last.put s.ticks.base 10 s.nowNs }, crown := { s.crown with checkpoint := s.mono } }))) ∧
      ((doeServe (endLoad (pumpCrown { s with ticks := { s.ticks with last := s.ticks.last.put s.ticks.base 10 s.nowNs }, crown := { s.crown with checkpoint := s.mono } })))).crown.checkpoint = s.mono := by
  refine exec_is_and (congrArg Host.Outcome.next ((State.running_of hs _).trans ((State.given_of ha _).trans (State.periodic_of hdue _))))
    ?_ (checkpoint_goesOn rfl rfl)
  apply execCheckpointWrite_touches <;> simp [Touches.refl]

theorem pairFailure_outside {s : State} (hn : s.updateState ≠ 3) (standby : Bool) (kind : Fin 3) (after : Bool) :
    pairFailure standby kind after s = if standby = true then
      (if s.updateState = 1 ∨ s.updateState = 2 then endUpdate 0x0A 0 0 (failureNoted standby kind s) else setStandby 0 (failureNoted standby kind s)).raise 0x10 1
    else if s.standbyState = 0 ∨ (s.standbyState = 2 ∧ s.updateState ≠ 1 ∧ s.updateState ≠ 2) then (failureNoted standby kind s).raise 0x10 2
    else { failureNoted standby kind s with crown := { s.crown with
      takeover := true
      interrupted := if s.crownRuns = true then [false, true].filter s.stagesBundle else [] } } := by
  unfold pairFailure
  dsimp only
  rw [if_neg hn, failureNoted_crown]

theorem takeoverComplete_takes (s : State) (hs : s.stopped = false) (ht : s.crown.takeover = true) :
    ∃ t, exec (.takeoverComplete) s = .next t ∧
      Only [.regs, .free, .out, .host, .latches, .ucs, .tbl, .vsr, .crown] s t ∧
      t.crown.takeover = false ∧
      t.crown.active = (if s.updateState = 4 then s.crown.standby else s.crown.active) ∧
      t.standbyState = 0 := by
  have hm : Moves (· ∈ [.regs, .free, .out, .host, .latches, .ucs, .tbl, .vsr, .crown]) s (exec .takeoverComplete s) := by
    apply execTakeoverComplete_touches <;> simp [Touches.refl]
  refine exec_has (congrArg Host.Outcome.next ((State.running_of hs _).trans (State.given_of ht _))) hm ?_
  extract_lets u crown s1 s2 s3
  have h2 : TookOver (if s.updateState = 4 then s.crown.standby else s.crown.active) s2 := by
    refine ⟨congrArg Crown.takeover (State.vector_crown _ _), congrArg Crown.active (State.vector_crown _ _), ?_⟩
    unfold s2 State.standbyState
    rw [State.rd_vector]
    exact standbyState_setStandby _ (by decide)
  have h3 := (((takeover_ends (s := s) h2).failoverStage.failoverLoad.failoverEpoch).paths (PathsMove.refl _).pumpCrown).doeServe
  exact ⟨h3.takeover, h3.active, h3.lost⟩

/-- Settles O43: each command where its guard holds. LATE decided at the start of the switch (log entry 128), a standby pair that
fails while it loads or synchronises aborting the update (log entry 129) and the abandoned switch (log entry 190) are the model's
choice. -/
theorem firmwareCommandsComplete : Obligations.FirmwareCommandsComplete := by
  unfold Obligations.FirmwareCommandsComplete
  refine ⟨fun passed u s hs hu h1 => ?_, fun u s hs hu h1 hw => ?_, fun u s hs hu h1 => ?_, fwSwitchStart_switches,
    fwSwitchComplete_hands, confirmTimeout_resyncs, fwResyncComplete_ends, checkpointWrite_goesOn,
    fun st k a s hs hd ht h3 => ?_, fun st k a s hs hd ht h3 hst => ?_, fun st k a s hs hd ht h3 hst hl => ?_,
    fun st k a s hs hd ht h3 hst hl => ?_, fun k a s hs hd ht h0 => ?_, fun a s hs hd ht h0 h1 => ?_, fun a s hs hd ht h0 h1 => ?_,
    takeoverComplete_takes⟩
  · obtain ⟨he, ho⟩ := fwSelftestDone_ends passed u s hs hu h1 rfl
    refine ⟨he, ho, fun hp => ?_⟩
    subst hp
    obtain ⟨v, hv, -, -, hm⟩ := endUpdate_ends hu 3 0x10 (standby := 1) (by decide)
    exact hm.updateState.trans hv
  · obtain ⟨he, ho⟩ := fwSelftestDone_ends true u s hs hu h1 (if_pos hw)
    exact ⟨_, he, ho, updateState_setUpdate _ (by decide), setUpdate_crown _ _, setUpdate_regsOnly _ _⟩
  · obtain ⟨he, ho⟩ := fwSelftestDone_ends false u s hs hu h1 (if_neg Bool.false_ne_true)
    obtain ⟨v, hv, -, hc, hm⟩ := endUpdate_ends hu 3 0x10 (standby := 1) (by decide)
    refine ⟨he, ho, hm.updateState.trans hv, ?_⟩
    rw [hm.crown, hc]
  · exact exec_crownPairFailure hs hd ht st k a (if_pos h3)
  · subst hst
    exact exec_crownPairFailure hs hd ht true k a ((pairFailure_outside h3 true k a).trans (if_pos rfl))
  · subst hst
    obtain ⟨he, ho⟩ := exec_crownPairFailure hs hd ht false k a
      ((pairFailure_outside h3 false k a).trans ((if_neg Bool.false_ne_true).trans (if_pos hl)))
    exact ⟨he, ho, (State.raise_crown ..).trans (failureNoted_crown false k s)⟩
  · subst hst
    obtain ⟨he, ho⟩ := exec_crownPairFailure hs hd ht false k a
      ((pairFailure_outside h3 false k a).trans ((if_neg Bool.false_ne_true).trans (if_neg hl)))
    exact ⟨he, ho, rfl⟩
  · obtain ⟨he, ho⟩ := exec_crownPairFailure hs hd ht true k a ((pairFailure_outside (by omega) true k a).trans
      ((if_pos rfl).trans (congrArg (fun t : State => t.raise 0x10 1) (if_neg (by omega)))))
    exact ⟨he, ho, ((PathsMove.refl _).raise 0x10 (by decide)).standbyState.trans (standbyState_setStandby _ (by decide))⟩
  · obtain ⟨he, ho⟩ := exec_crownPairFailure hs hd ht false 2 a
      ((pairFailure_outside (by omega) false 2 a).trans ((if_neg Bool.false_ne_true).trans (if_neg (by omega))))
    exact ⟨_, he, ho, rfl, fun _ _ => rfl⟩
  · obtain ⟨he, ho⟩ := exec_crownPairFailure hs hd ht false 2 a
      ((pairFailure_outside (by omega) false 2 a).trans ((if_neg Bool.false_ne_true).trans (if_pos (.inl h1))))
    exact ⟨he, ho, (congrArg Crown.takeover (State.raise_crown ..)).trans ht⟩

end Sys2Proof
end

section
/-! PROOF. O42: the mailbox, Crown's ring and the commands at the front of either (R490 to R499, R546). -/

namespace Sys2Proof.Machine

/-! ## The command at the front of a path -/

section
variable {ring : Bool} {op : Nat} {rom f : List Byte → State → State} {d : List Byte} {s : State}
  (hfront : s.crownFront ring = some d) (hop : cOp d = op)
include hfront hop

/-- A running Crown carries out the command at the front of a path, where the path has none under way, and for 0x12 to 0x20 neither
the other one (R495); FW_ABORT is exempt (log entry 128). -/
theorem onCrown_runs (hr : s.crownRuns = true) (hrom : (s.boot.rom && !ring) = false) (hstart : s.crownStarted ring = false)
    (hbusy : (decide (0x12 ≤ op ∧ op ≤ 0x20 ∧ op ≠ 0x16) && s.crownBusy) = false) : onCrown ring op rom f s = f d s := by
  unfold onCrown
  rw [hfront]
  dsimp only
  rw [if_neg (not_not_intro hop), hrom, Bool.false_and, if_neg Bool.false_ne_true]
  refine State.given_of ?_ _
  rw [hr, hstart, hbusy]
  rfl

/-- The boot ROM answers the mailbox (R546). -/
theorem onCrown_rom (hs : s.stopped = false) (hrom : s.boot.rom = true) (hring : ring = false) : onCrown ring op rom f s = rom d s := by
  subst hring
  unfold onCrown
  rw [hfront]
  dsimp only
  rw [if_neg (not_not_intro hop), hrom, hs]
  rfl

end

theorem crownStarted_of_not_busy {s : State} (h : s.crownBusy = false) (ring : Bool) : s.crownStarted ring = false := by
  obtain ⟨ht, hf⟩ := Bool.or_eq_false_iff.1 h
  cases ring with
  | false => exact hf
  | true => exact ht

/-- A path that has no command under way has no update of its own. -/
theorem ring_ne_of_not_started {s : State} {ring : Bool} {u : Update} (h : s.crownStarted ring = false) (hu : s.crown.update = some u) :
    u.ring ≠ some ring := by
  intro hr
  unfold State.crownStarted at h
  rw [hu] at h
  simp [hr] at h

/-! ## What each may touch -/

section
variable (s : State) (ring : Bool)

theorem nop_moves : Moves (· ∈ [.regs, .out, .host, .latches, .crown]) s (exec (.nop ring) s) := by
  apply execNop_touches <;> simp [Touches.refl]

theorem getVersions_moves : Moves (· ∈ [.regs, .out, .host, .latches, .crown]) s (exec (.getVersions ring) s) := by
  apply execGetVersions_touches <;> simp [Touches.refl]

theorem bundleStage_moves (bytes : List Byte) (error : Option Bool) :
    Moves (· ∈ [.regs, .out, .ddr, .poison, .host, .latches, .crown, .boot]) s (exec (.bundleStage ring bytes error) s) := by
  apply execBundleStage_touches <;> simp [Touches.refl]

theorem bundleDrop_moves : Moves (· ∈ [.regs, .out, .host, .latches, .crown]) s (exec (.bundleDrop ring) s) := by
  apply execBundleDrop_touches <;> simp [Touches.refl]

theorem ucodeLoad_moves : Moves (· ∈ [.regs, .out, .host, .latches, .ucs, .crown]) s (exec (.ucodeLoad ring) s) := by
  apply execUcodeLoad_touches <;> simp [Touches.refl]

theorem fwUpdate_moves : Moves (· ∈ [.regs, .out, .host, .latches, .crown]) s (exec (.fwUpdate ring) s) := by
  apply execFwUpdate_touches <;> simp [Touches.refl]

theorem fwConfirm_moves : Moves (· ∈ [.regs, .out, .host, .latches, .crown]) s (exec (.fwConfirm ring) s) := by
  apply execFwConfirm_touches <;> simp [Touches.refl]

theorem fwRollback_moves : Moves (· ∈ [.regs, .out, .host, .latches, .crown]) s (exec (.fwRollback ring) s) := by
  apply execFwRollback_touches <;> simp [Touches.refl]

theorem fwAbort_moves : Moves (· ∈ [.regs, .out, .host, .latches, .crown]) s (exec (.fwAbort ring) s) := by
  apply execFwAbort_touches <;> simp [Touches.refl]

theorem svnCommit_moves : Moves (· ∈ [.regs, .out, .host, .latches, .crown]) s (exec (.svnCommit ring) s) := by
  apply execSvnCommit_touches <;> simp [Touches.refl]

theorem ddrRead_moves : Moves (· ∈ [.regs, .free, .out, .host, .latches, .crown]) s (exec (.ddrRead ring) s) := by
  apply execDdrRead_touches <;> simp [Touches.refl]

theorem mailboxGo_moves : Moves (· ∈ [.regs, .out, .host, .latches, .mtn, .crown]) s (exec .mailboxGo s) := by
  apply execMailboxGo_touches <;> simp [Touches.refl]

/-! ## The paths -/

theorem State.wakeClock_crown (page : Nat) : (s.wakeClock page).crown = s.crown := by rw [State.wakeClock_eq]

theorem crSize_wakeClock (page : Nat) : (s.wakeClock page).crSize = s.crSize := by
  unfold State.crSize
  rw [State.rd_wakeClock]

/-- A fetch error stops the ring, and puts back what it had fetched (R491). -/
theorem stopCrownRing_stops : (stopCrownRing s).on 0x12 F.crn2_CR_STATUS_STOPPED = true ∧
    (stopCrownRing s).on 0x12 F.crn2_CR_STATUS_FETCH_ERR = true ∧
    (stopCrownRing s).crown = { s.crown with posted := s.crown.fetched ++ s.crown.posted, fetched := [] } := by
  unfold stopCrownRing
  refine ⟨?_, ?_, ?_⟩
  · unfold State.on
    rw [State.rd_vector, State.rd_raise_of_body _ _ _ (by decide) (by decide), State.rd_set1_of_place_ne _ (by decide), State.rd_set1_self]
    rfl
  · unfold State.on
    rw [State.rd_vector, State.rd_raise_of_body _ _ _ (by decide) (by decide), State.rd_set1_self]
    rfl
  · rw [State.vector_crown, State.raise_crown]
    rfl

theorem free_crownEnd (c : CrownDone) : (crownEnd ring c s).free = s.free := by
  have h : Touches (· ≠ .free) s (crownEnd ring c s) := by
    apply crownEnd_touches <;> simp [Touches.refl]
  exact h.same .free (by simp)

end

/-! ## The commands (R493, R498, R499, R503) -/

section
variable {ring : Bool} {d : List Byte} {s : State}

/-- FW_UPDATE of a staged firmware from IDLE, with a standby pair READY (R503, log entry 128). -/
theorem fwUpdate_starts (hst : (s.staged d).isSome = true) (hsec : (sectionOf (s.slotBytes (cHandle d)) 1).isSome = true)
    (h0 : s.updateState = 0) (h1 : s.standbyState = 1) : fwUpdate ring d s =
      setStandby 2 (setUpdate 1 { s with crown := { s.crown with
        update := some { ring := some ring, slot := cHandle d, at_ := cAt d, new_ := firmwareOf s.crown.revoked (s.slotBytes (cHandle d)) } } }) := by
  obtain ⟨x, hx⟩ := Option.isSome_iff_exists.1 hst
  obtain ⟨y, hy⟩ := Option.isSome_iff_exists.1 hsec
  have hbusy : ¬ (s.updateState ≠ 0 ∨ s.standbyState ≠ 1) := by omega
  unfold fwUpdate
  rw [hx]
  dsimp only
  rw [hy, if_neg (by simp), if_neg hbusy]

/-- DDR_READ of a readable range copies its bytes to the host. -/
theorem ddrCopy_copies (h64 : cLength d % 64 = 0) (hmax : cLength d ≤ 0x100000) (hr : s.readable (cArg d) (cLength d) = true)
    (hu : s.hostUp = true) : ddrCopy ring d s = crownEnd ring { status := 1 } (({ s with free := s.free + 1 } : State).send
      (.hostWrite (cAddr d) ((List.range (cLength d)).map fun i => if s.poisoned (cArg d + i) 1
        then BitVec.ofNat 8 (Config.faultyItem (cArg d + i) s.free) else s.ddrByte (cArg d + i)))) := by
  have hlen : ¬ (cLength d % 64 ≠ 0 ∨ cLength d > 0x100000) := by omega
  unfold ddrCopy
  dsimp only
  rw [if_neg hlen, hr, hu]
  rfl

end

end Sys2Proof.Machine

namespace Sys2Proof

open Sys2Proof.Machine

/-! ## Updates -/

theorem fwUpdate_starts_update (ring : Bool) (d : List Byte) (s : State) (hr : s.crownRuns = true) (hf : s.crownFront ring = some d)
    (hrom : (s.boot.rom && !ring) = false) (hop : cOp d = 0x13) (hb : s.crownBusy = false) (hst : (s.staged d).isSome = true)
    (hsec : (sectionOf (s.slotBytes (cHandle d)) 1).isSome = true) (h0 : s.updateState = 0) (h1 : s.standbyState = 1) :
    ∃ t, exec (.fwUpdate ring) s = .next t ∧
      Only [.regs, .out, .host, .latches, .crown] s t ∧
      t.updateState = 1 ∧
      t.standbyState = 2 ∧
      t.crown.update = some { ring := some ring, slot := cHandle d, at_ := cAt d, new_ := firmwareOf s.crown.revoked (s.slotBytes (cHandle d)) } ∧
      t.crown.active = s.crown.active := by
  refine exec_has (congrArg Host.Outcome.next ((onCrown_runs hf hop hr hrom (crownStarted_of_not_busy hb ring) (by rw [hb]; rfl)).trans
    (fwUpdate_starts hst hsec h0 h1))) (fwUpdate_moves s ring) ⟨?_, standbyState_setStandby _ (by decide), ?_, ?_⟩
  · rw [updateState_setStandby, updateState_setUpdate _ (by decide)]
  · exact (congrArg Crown.update (setUpdate_crown _ 1)).trans rfl
  · exact (congrArg Crown.active (setUpdate_crown _ 1)).trans rfl

theorem fwConfirm_resyncs (ring : Bool) (d : List Byte) (u : Update) (s : State) (hr : s.crownRuns = true) (hf : s.crownFront ring = some d)
    (hrom : (s.boot.rom && !ring) = false) (hop : cOp d = 0x14) (hb : s.crownBusy = false) (h4 : s.updateState = 4)
    (hu : s.crown.update = some u) :
    ∃ t, exec (.fwConfirm ring) s = .next t ∧
      Only [.regs, .out, .host, .latches, .crown] s t ∧
      t.updateState = 5 ∧
      t.crown.update = some { u with confirm := some ring } ∧
      RegsOnly [0x10] s t :=
  exec_has (congrArg Host.Outcome.next ((onCrown_runs hf hop hr hrom (crownStarted_of_not_busy hb ring) (by rw [hb]; rfl)).trans
    (if_pos h4))) (fwConfirm_moves s ring) (startResync_begins hu (some ring))

theorem fwRollback_ends (ring : Bool) (d : List Byte) (s : State) (hr : s.crownRuns = true) (hf : s.crownFront ring = some d)
    (hrom : (s.boot.rom && !ring) = false) (hop : cOp d = 0x15) (hb : s.crownBusy = false) (h4 : s.updateState = 4)
    (h3 : s.standbyState = 3) :
    ∃ t, exec (.fwRollback ring) s = .next t ∧
      Only [.regs, .out, .host, .latches, .crown] s t ∧
      t.updateState = 0 ∧
      t.standbyState = 1 ∧
      t.crown.active = s.crown.standby ∧
      t.crown.update = none := by
  have hbusy : ¬ (s.updateState ≠ 4 ∨ s.standbyState ≠ 3) := by omega
  refine exec_has (congrArg Host.Outcome.next ((onCrown_runs hf hop hr hrom (crownStarted_of_not_busy hb ring) (by rw [hb]; rfl)).trans
    (if_neg hbusy))) (fwRollback_moves s ring) ?_
  extract_lets crown s1
  have hp := (PathsMove.refl (setStandby 1 (setUpdate 0 (s1.wr 0x10 F.crn0_CROWN_STATUS_ACTIVE_PAIR
    (1 - s.rd 0x10 F.crn0_CROWN_STATUS_ACTIVE_PAIR))))).crownEnd ring { status := 1 }
  have hc : (setUpdate 0 (s1.wr 0x10 F.crn0_CROWN_STATUS_ACTIVE_PAIR (1 - s.rd 0x10 F.crn0_CROWN_STATUS_ACTIVE_PAIR))).crown =
      s1.crown := setUpdate_crown _ _
  refine ⟨?_, hp.standbyState.trans (standbyState_setStandby _ (by decide)), ?_, ?_⟩
  · rw [hp.updateState, updateState_setStandby, updateState_setUpdate _ (by decide)]
  · rw [hp.crown]
    exact congrArg Crown.active hc
  · rw [hp.crown]
    exact congrArg Crown.update hc

theorem fwAbort_ends (ring : Bool) (d : List Byte) (u : Update) (s : State) (hr : s.crownRuns = true) (hf : s.crownFront ring = some d)
    (hrom : (s.boot.rom && !ring) = false) (hop : cOp d = 0x16) (hst : s.crownStarted ring = false) (hu : s.crown.update = some u)
    (h12 : s.updateState = 1 ∨ s.updateState = 2) :
    exec (.fwAbort ring) s = .next (crownEnd ring { status := 1 } (endUpdate 0x0A 0 1 s)) ∧
      Only [.regs, .out, .host, .latches, .crown] s (crownEnd ring { status := 1 } (endUpdate 0x0A 0 1 s)) ∧
      ((crownEnd ring { status := 1 } (endUpdate 0x0A 0 1 s))).updateState = 0 ∧
      ((crownEnd ring { status := 1 } (endUpdate 0x0A 0 1 s))).crown.update = none := by
  obtain ⟨v, hv, -, hc, hm⟩ := endUpdate_ends hu 0x0A 0 (standby := 1) (by decide)
  have hp := hm.crownEnd ring { status := 1 }
  refine exec_is_and (congrArg Host.Outcome.next ((onCrown_runs hf hop hr hrom hst rfl).trans ((if_pos h12).trans ?_)))
    (fwAbort_moves s ring) ⟨hp.updateState.trans hv, ?_⟩
  · rw [hu]
    exact if_neg (ring_ne_of_not_started hst hu)
  · rw [hp.crown, hc]

theorem svnCommit_raises (ring : Bool) (d : List Byte) (s : State) (hr : s.crownRuns = true) (hf : s.crownFront ring = some d)
    (hrom : (s.boot.rom && !ring) = false) (hop : cOp d = 0x20) (hb : s.crownBusy = false) (h0 : s.updateState = 0) :
    ∃ t, exec (.svnCommit ring) s = .next t ∧
      Only [.regs, .out, .host, .latches, .crown] s t ∧
      t.crown.floor = s.crown.active.svn ∧
      t.crown.revoked = (s.crown.revoked ||| putBit s.crown.active.revoke s.crown.active.signer false) ∧
      t.crown.active = s.crown.active := by
  refine exec_has (congrArg Host.Outcome.next ((onCrown_runs hf hop hr hrom (crownStarted_of_not_busy hb ring) (by rw [hb]; rfl)).trans
    (if_neg (not_not_intro h0)))) (svnCommit_moves s ring) ?_
  refine ⟨?_, ?_, ?_⟩ <;> rw [((PathsMove.refl _).crownEnd ring _).crown] <;> rfl

/-! ## All of them -/

/-- Settles O42: each command where its guard holds, through `onCrown`. FW_ABORT exempt from R495, FW_UPDATE's condition of a READY
standby pair and FW_ROLLBACK's status are the model's choice (log entry 128). -/
theorem crownCommandsComplete : Obligations.CrownCommandsComplete := by
  unfold Obligations.CrownCommandsComplete
  refine ⟨fun s hs hsh hb => ?_, fun s hs hsh hb => ?_, fun tail descs s hs hsh hlen hall => ?_, fun tr s hs he hst => ?_,
    fun r d s hr hf hrom hop hst => exec_is (congrArg Host.Outcome.next (onCrown_runs hf hop hr hrom hst rfl)) (nop_moves s r),
    fun r d s hf hop hs hrom hring => exec_is (congrArg Host.Outcome.next (onCrown_rom hf hop hs hrom hring)) (nop_moves s r),
    fun r d s hr hf hrom hop hst => exec_is (congrArg Host.Outcome.next (onCrown_runs hf hop hr hrom hst rfl)) (getVersions_moves s r),
    fun r d s hf hop hs hrom hring => exec_is (congrArg Host.Outcome.next (onCrown_rom hf hop hs hrom hring)) (getVersions_moves s r),
    fun r b e d s hr hf hrom hop hst => exec_is (congrArg Host.Outcome.next (onCrown_runs hf hop hr hrom hst rfl)) (bundleStage_moves s r b e),
    fun r b e d s hf hop hs hrom hring => ?_, fun r d s hr hf hrom hop hst hsome => ?_,
    fun r d s hf hop hs hrom hring => exec_is (congrArg Host.Outcome.next (onCrown_rom hf hop hs hrom hring)) (bundleDrop_moves s r),
    fun r d s hr hf hrom hop hb => ?_,
    fun r d s hf hop hs hrom hring => exec_is (congrArg Host.Outcome.next (onCrown_rom hf hop hs hrom hring)) (ucodeLoad_moves s r),
    fwUpdate_starts_update,
    fun r d s hf hop hs hrom hring => exec_is (congrArg Host.Outcome.next (onCrown_rom hf hop hs hrom hring)) (fwUpdate_moves s r),
    fwConfirm_resyncs,
    fun r d s hf hop hs hrom hring => exec_is (congrArg Host.Outcome.next (onCrown_rom hf hop hs hrom hring)) (fwConfirm_moves s r),
    fwRollback_ends,
    fun r d s hf hop hs hrom hring => exec_is (congrArg Host.Outcome.next (onCrown_rom hf hop hs hrom hring)) (fwRollback_moves s r),
    fwAbort_ends,
    fun r d s hf hop hs hrom hring => exec_is (congrArg Host.Outcome.next (onCrown_rom hf hop hs hrom hring)) (fwAbort_moves s r),
    svnCommit_raises,
    fun r d s hf hop hs hrom hring => exec_is (congrArg Host.Outcome.next (onCrown_rom hf hop hs hrom hring)) (svnCommit_moves s r),
    fun r d s hr hf hrom hop hst h64 hmax hread hu => ?_,
    fun r d s hf hop hs hrom hring => exec_is (congrArg Host.Outcome.next (onCrown_rom hf hop hs hrom hring)) (ddrRead_moves s r)⟩
  · have hb' : ¬ (s.wakeClock 0x11).on 0x11 F.crn1_MB_STATUS_BUSY = true := by
      rw [State.on_wakeClock, hb]
      exact Bool.false_ne_true
    exact exec_is (congrArg Host.Outcome.next ((State.written_of hs hsh _).trans (if_neg hb'))) (mailboxGo_moves s)
  · have hb' : (s.wakeClock 0x11).on 0x11 F.crn1_MB_STATUS_BUSY = true := (State.on_wakeClock ..).trans hb
    exact exec_is (congrArg Host.Outcome.next ((State.written_of hs hsh _).trans (if_pos hb'))) (mailboxGo_moves s)
  · have hg : (decide (descs.length = (tail.toNat % (s.wakeClock 0x12).crSize + (s.wakeClock 0x12).crSize -
        (s.wakeClock 0x12).rd 0x12 F.crn2_CR_TAIL % (s.wakeClock 0x12).crSize) % (s.wakeClock 0x12).crSize) &&
        descs.all fun d => d.length == 128) = true := by
      rw [crSize_wakeClock, State.rd_wakeClock, hall, decide_eq_true hlen]
      rfl
    refine exec_is (congrArg Host.Outcome.next ((State.written_of hs hsh _).trans ((State.given_of hg _).trans ?_))) ?_
    · dsimp only [State.wr, State.wrx]
      rw [State.wakeClock_crown]
    · apply execCrownRingDoorbell_touches <;> simp [Touches.refl]
  · refine exec_has (congrArg Host.Outcome.next ((State.running_of hs _).trans (State.given_of (by rw [he, hst]; rfl) _))) ?_ ?_
    · apply execCrownRingFetchErr_touches <;> simp [Touches.refl]
    · obtain ⟨h1, h2, h3⟩ := stopCrownRing_stops s
      have hc : (if tr then 4 else 3) < 64 := by split <;> decide
      unfold State.on at h1 h2 ⊢
      rw [State.rd_raise_of_body _ _ _ hc (by decide), State.rd_raise_of_body _ _ _ hc (by decide), State.raise_crown]
      exact ⟨h1, h2, h3⟩
  · subst hring
    exact exec_is (congrArg Host.Outcome.next (onCrown_rom hf hop hs hrom rfl)) (bundleStage_moves s false b e)
  · refine exec_is_and (congrArg Host.Outcome.next ((onCrown_runs hf hop hr hrom hst rfl).trans (if_neg ?_))) (bundleDrop_moves s r) ?_
    · rw [Option.isNone_iff_eq_none]
      exact fun hn => by rw [hn] at hsome; cases hsome
    · rw [((PathsMove.refl _).crownEnd r _).crown]
      exact SMap.at?_del_self _ _
  · exact exec_is (congrArg Host.Outcome.next (onCrown_runs hf hop hr hrom (crownStarted_of_not_busy hb r) (by rw [hb]; rfl)))
      (ucodeLoad_moves s r)
  · exact exec_is_and (congrArg Host.Outcome.next ((onCrown_runs hf hop hr hrom hst rfl).trans (ddrCopy_copies h64 hmax hread hu)))
      (ddrRead_moves s r) (free_crownEnd _ r _)

end Sys2Proof
end

section
/-! PROOF. O37: counters, event selectors, bandwidth windows, snapshots, traces and counter errors (R386 to R404). -/

namespace Sys2Proof.Machine

/-! ## Registers behind Mitten's pages -/

/-- A bit address behind the headers of the pages after Mitten's. -/
def visorKey (k : Nat) : Prop := 0x33 ≤ k / 0x8000 ∧ 0x400 ≤ k % 0x8000

theorem visorKey_of_page {page : Nat} (hp : 0x33 ≤ page) {f : Fld} (hf : 0x400 ≤ f.off * 8 + f.lo ∧ f.off * 8 + f.lo < 0x8000) :
    visorKey (f.key page 0 0) := by
  unfold visorKey Fld.key
  omega

theorem offHeader_visorKey (page : Nat) : OffHeader visorKey page := fun k hk => by
  unfold visorKey at hk
  omega

theorem offDomain_visorKey {d : Nat} (hd : d < 256) : OffDomain visorKey d where
  header := offHeader_visorKey _
  asleep h := by
    unfold visorKey Fld.key at h
    simp only [F.mtn1_ASLEEP] at h
    omega
  failed h := by
    unfold visorKey Fld.key at h
    simp only [F.mtn1_FAILED] at h
    omega
  busy h := by
    unfold visorKey at h
    exact absurd h (by decide)

section
variable (s : State)

/-- The votes of DDR5's clients move no register behind Mitten's pages (R413). -/
theorem recomputeDdr_kept : RegsKept visorKey s (recomputeDdr s) :=
  (RegsKept.refl _ s).foldl fun _ c hc hu => hu.recomputeDom (offDomain_visorKey (by have := List.mem_range.1 hc; omega))

theorem recomputeDdr_touches_mtn : Touches (· ∈ [.regs, .out, .host, .mtn]) s (recomputeDdr s) := by
  apply recomputeDdr_touches <;> simp [Touches.refl]

theorem recomputeDdr_vsr : (recomputeDdr s).vsr = s.vsr := (recomputeDdr_touches_mtn s).same .vsr (by simp)

theorem recomputeDdr_palm : (recomputeDdr s).palm = s.palm := (recomputeDdr_touches_mtn s).same .palm (by simp)

theorem recomputeDdr_free : (recomputeDdr s).free = s.free := (recomputeDdr_touches_mtn s).same .free (by simp)

theorem State.raise_vsr (page cause : Nat) : (s.raise page cause).vsr = s.vsr :=
  (State.raise_touches (ps := (· ≠ .vsr)) nofun nofun nofun nofun (Touches.refl _ s)).same .vsr (by simp)

theorem State.vector_vsr (v : Nat) : (s.vector v).vsr = s.vsr :=
  (State.vector_touches (ps := (· ≠ .vsr)) nofun nofun (Touches.refl _ s)).same .vsr (by simp)

theorem State.wakeClock_vsr (page : Nat) : (s.wakeClock page).vsr = s.vsr := by rw [State.wakeClock_eq]

theorem State.wakeClock_free (page : Nat) : (s.wakeClock page).free = s.free := by rw [State.wakeClock_eq]

/-! ## Event selectors (R393, R394) -/

theorem selectorAt_wakeClock (page g : Nat) (a : T80) : (s.wakeClock page).selectorAt g a = s.selectorAt g a := by
  unfold State.selectorAt State.selectorAt.now_
  simp only [State.wakeClock_vsr, State.rdi_wakeClock]

/-- Fields of one register of a run keep their values when another of the same register is set. -/
theorem State.rdi_wri_of_lo_ne {f g : Fld} (h : g.off = f.off ∧ g.stride = f.stride ∧ g.lo ≠ f.lo) (p i v : Nat) :
    (s.wri p f i v).rdi p g i = s.rdi p g i := by
  obtain ⟨hoff, hstride, hlo⟩ := h
  refine State.rdx_wrx_of_ne s v fun hk => hlo ?_
  unfold Fld.key at hk
  rw [hoff, hstride] at hk
  omega

/-- EVSEL of a counter reads the parts of the word written. -/
theorem writeEvsel_stores {g data : Nat} (hok : (data.testBit 32 && !eventDefined (data % 65536)) = false) :
    (writeEvsel g data s).rdi (0xC0 + g / 256) F.vsre_EVSEL_EVENT (g % 256) = data % 65536 ∧
      (writeEvsel g data s).rdi (0xC0 + g / 256) F.vsre_EVSEL_INSTANCE (g % 256) = data / 65536 % 8192 ∧
      (writeEvsel g data s).rdi (0xC0 + g / 256) F.vsre_EVSEL_ANY (g % 256) = data / 2 ^ 31 % 2 ∧
      (writeEvsel g data s).rdi (0xC0 + g / 256) F.vsre_EVSEL_ENABLE (g % 256) = data / 2 ^ 32 % 2 ∧
      (writeEvsel g data s).vsr.selOld.at? g = some (s.selectorAt g (s.now + 1), s.now) ∧
      RegsOnly [0xC0 + g / 256] s (writeEvsel g data s) := by
  unfold writeEvsel
  extract_lets p j old s1
  rw [hok, if_neg Bool.false_ne_true]
  have hj : j < 256 := Nat.mod_lt _ (by decide)
  have hbits {f : Fld} (hf : f.off = 0x800 ∧ f.stride = 8 ∧ f.lo < 64) : (f.off + f.stride * j) * 8 + f.lo < 0x8000 := by
    obtain ⟨h1, h2, h3⟩ := hf
    rw [h1, h2]
    omega
  have hregs : RegsOnly [p] s s1 :=
    (((State.wri_regsOnly s p (hbits (by decide)) _).trans (State.wri_regsOnly _ p (hbits (by decide)) _)).trans
      (State.wri_regsOnly _ p (hbits (by decide)) _)).trans (State.wri_regsOnly _ p (hbits (by decide)) _)
  have hvals : s1.rdi p F.vsre_EVSEL_EVENT j = data % 65536 ∧ s1.rdi p F.vsre_EVSEL_INSTANCE j = data / 65536 % 8192 ∧
      s1.rdi p F.vsre_EVSEL_ANY j = data / 2 ^ 31 % 2 ∧ s1.rdi p F.vsre_EVSEL_ENABLE j = data / 2 ^ 32 % 2 := by
    simp (disch := decide) only [s1, State.rdi_wri_of_lo_ne, State.rdi_wri_self]
    exact ⟨rfl, rfl, rfl, rfl⟩
  obtain ⟨h1, h2, h3, h4⟩ := hvals
  exact ⟨h1, h2, h3, h4, (SMap.at?_enter _ _ _ _).trans (if_pos rfl), hregs⟩

end

/-! ## Snapshots (R395 to R398) -/

section
variable (s : State)

/-- The instant of a SNAP_AT write, from the word and its staged companion (R14). -/
def State.snapAt (s : State) (w : Nat) : T80 := w * nsUnits + s.host.staged.val 0 0xB0088 % nsUnits

theorem snapAt_ns (w : Nat) : s.snapAt w / nsUnits = w := by
  have hlt : s.host.staged.val 0 0xB0088 % nsUnits < nsUnits := Nat.mod_lt _ (by decide)
  unfold State.snapAt
  rw [Nat.add_div_of_dvd_right (Dvd.intro_left _ rfl), Nat.mul_div_cancel _ (by decide), Nat.div_eq_of_lt hlt, Nat.add_zero]

/-- A SNAP_AT write of a free unit sets the instant pending; one that is past is late and due at once (R395, log entry 105). -/
theorem writeSnapAt_pends {w : Nat} (hw : w < 2 ^ 64) (hp : s.on 0xB0 F.vsr0_SNAP_STATUS_PENDING = false)
    (hwr : s.on 0xB0 F.vsr0_SNAP_STATUS_WRITING = false) :
    (writeSnapAt w s).rd 0xB0 F.vsr0_SNAP_STATUS_PENDING = 1 ∧ (writeSnapAt w s).rd 0xB0 F.vsr0_SNAP_AT_NS = w ∧
      (writeSnapAt w s).vsr.late = decide (s.snapAt w ≤ s.now) ∧ (writeSnapAt w s).vsr.due = some (max s.now (s.snapAt w)) ∧
      (writeSnapAt w s).vsr.kept = [] := by
  unfold writeSnapAt
  rw [hp, hwr, if_neg (show ¬ (false || false) = true by decide)]
  extract_lets t late s1 vsr s2 s3
  have h2 : s2.rd 0xB0 F.vsr0_SNAP_STATUS_PENDING = 1 ∧ s2.rd 0xB0 F.vsr0_SNAP_AT_NS = w := by
    refine ⟨State.rd_wr_self _ _ _ 1, ?_⟩
    show s1.rd 0xB0 F.vsr0_SNAP_AT_NS = w
    simp (disch := decide) only [s1, State.wrPair, State.rd_wr_of_place_ne, State.rd_wr_self]
    rw [show t / nsUnits = w from snapAt_ns s w]
    exact Nat.mod_eq_of_lt hw
  have h3 : s3.vsr = s2.vsr ∧ s3.rd 0xB0 F.vsr0_SNAP_STATUS_PENDING = s2.rd 0xB0 F.vsr0_SNAP_STATUS_PENDING ∧
      s3.rd 0xB0 F.vsr0_SNAP_AT_NS = s2.rd 0xB0 F.vsr0_SNAP_AT_NS := by
    refine ⟨State.raise_vsr _ _ _, ?_, ?_⟩ <;>
      rw [State.rd_raise_of_body _ _ _ (by decide) (by decide), State.rd_set1_of_place_ne _ (by decide)]
  generalize hu : (if (!late) = true then s2
    else if s.on 0xB0 F.vsr0_SNAP_STATUS_LATE = true then s3 else s3.vector 129) = u
  have h4 : u.vsr = s2.vsr ∧ u.rd 0xB0 F.vsr0_SNAP_STATUS_PENDING = s2.rd 0xB0 F.vsr0_SNAP_STATUS_PENDING ∧
      u.rd 0xB0 F.vsr0_SNAP_AT_NS = s2.rd 0xB0 F.vsr0_SNAP_AT_NS := by
    subst hu
    split
    · exact ⟨rfl, rfl, rfl⟩
    · split
      · exact h3
      · rwa [State.vector_vsr, State.rd_vector, State.rd_vector]
  obtain ⟨hv, hpend, hns⟩ := h4
  have hkept {f : Fld} (hf : 0x400 ≤ f.off * 8 + f.lo ∧ f.off * 8 + f.lo < 0x8000) : (recomputeDdr u).rd 0xB0 f = u.rd 0xB0 f :=
    (recomputeDdr_kept u).rd (visorKey_of_page (by decide) hf)
  rw [hkept (by decide), hkept (by decide), recomputeDdr_vsr, hv, hpend, hns]
  refine ⟨h2.1, h2.2, rfl, congrArg some ?_, rfl⟩
  show (if late = true then s.now else t) = max s.now (s.snapAt w)
  by_cases hl : t ≤ s.now
  · rw [if_pos (show late = true from decide_eq_true hl)]
    exact (max_eq_left hl).symm
  · rw [if_neg (show ¬ late = true from fun h => hl (of_decide_eq_true h))]
    exact (max_eq_right (Nat.le_of_not_le hl)).symm

/-- A cancelled snapshot whose instant has not come is dropped (R395). -/
theorem snapCancel_drops {a : T80} (hdue : s.vsr.due = some a) (ha : s.now < a) : snapCancel s =
    recomputeDdr ({ s with vsr := { s.vsr with due := none, after := [], kept := [] } }.wr 0xB0 F.vsr0_SNAP_STATUS_PENDING 0) := by
  unfold snapCancel
  rw [hdue]
  exact if_neg (Nat.not_le.2 ha)

/-- One whose instant has come is the last (R398). -/
theorem snapCancel_keeps (hdue : (s.vsr.due.all fun a => decide (a ≤ s.now)) = true) : snapCancel s =
    { s with vsr := if s.vsr.due.isSome then { s.vsr with once := true } else s.vsr } := by
  unfold snapCancel
  cases h : s.vsr.due with
  | none => rfl
  | some a =>
    rw [h] at hdue
    exact if_pos (of_decide_eq_true hdue)

theorem closeSnapshot_closes (a : T80) : (closeSnapshot a s).on 0xB0 F.vsr0_SNAP_STATUS_WRITING = true ∧
    ((closeSnapshot a s).vsr.image.map fun m => m.at_) = some a ∧ (closeSnapshot a s).vsr.kept = [] := by
  refine ⟨?_, rfl, rfl⟩
  unfold closeSnapshot State.on
  extract_lets img s1 again seq s2 vsr
  rw [State.rd_wr_of_place_ne _ _ (by decide), State.rd_wr_self]
  rfl

theorem addCount_vsr (addr n : Nat) (a : T80) : (s.addCount addr n a).vsr = { s.vsr with after := (s.addCount addr n a).vsr.after } := by
  unfold State.addCount
  split
  · rfl
  · extract_lets s1
    split
    · split <;> rfl
    · rfl

/-- An event moves counts and windows, and no snapshot's image or number. -/
def SameImage (s t : State) : Prop := t.vsr.image = s.vsr.image ∧ t.vsr.seq = s.vsr.seq

theorem SameImage.addCount {s t : State} (h : SameImage s t) (addr n : Nat) (a : T80) : SameImage s (t.addCount addr n a) := by
  unfold SameImage
  rw [addCount_vsr]
  exact h

theorem addBw_sameImage (port : Nat) (sent : Bool) (bytes : Nat) (a : T80) : SameImage s (s.addBw port sent bytes a) := by
  unfold State.addBw
  extract_lets b w n k c
  split <;> exact ⟨rfl, rfl⟩

theorem count_sameImage (event inst n : Nat) (a : Option T80) : SameImage s (s.count event inst n a) := by
  unfold State.count
  extract_lets at_ s0 s1
  have h0 : SameImage s s0 := by
    unfold s0
    split
    · exact addBw_sameImage ..
    · split
      · exact addBw_sameImage ..
      · exact ⟨rfl, rfl⟩
  have h1 : SameImage s s1 := by
    unfold s1
    split
    · exact h0.addCount _ _ _
    · exact h0
  exact List.foldlRecOn _ _ (motive := SameImage s) h1 fun u hu g _ => hu.addCount _ _ _

/-- A snapshot written is no more in progress, and its number is the next (R397). -/
theorem completeSnapshot_completes (m : SnapImage) :
    (completeSnapshot m s).vsr.image = none ∧ (completeSnapshot m s).vsr.seq = s.vsr.seq + 1 := by
  unfold completeSnapshot
  extract_lets seq s1 vsr s2 s3
  obtain ⟨himage, hseq⟩ := count_sameImage (s3.wr 0xB0 F.vsr0_SNAP_LAST_TQ m.tq) 0x0A0C 0 1 none
  rw [recomputeDdr_vsr, State.vector_vsr, himage, hseq]
  exact ⟨rfl, rfl⟩

/-! ## Frame tagging (R399) -/

theorem traceEnable_on (slice : Nat) (drbg : Bool) (rate : Nat) : (traceEnable slice drbg rate s).rd (trcPage slice) F.trc_TRACE_CFG_ENABLE = 1 ∧
    (traceEnable slice drbg rate s).rd (trcPage slice) F.trc_TRACE_CFG_RATE_LOG2 = rate % 2 ^ 5 := by
  unfold traceEnable
  extract_lets pg s1 seed palm
  have h1 : s1.rd pg F.trc_TRACE_CFG_ENABLE = 1 ∧ s1.rd pg F.trc_TRACE_CFG_RATE_LOG2 = rate % 2 ^ 5 := by
    simp (disch := decide) only [s1, State.rd_wr_of_place_ne, State.rd_wr_self]
    exact ⟨rfl, rfl⟩
  have hpg : 0x33 ≤ pg := by
    unfold pg trcPage
    omega
  split
  · exact h1
  · rw [(recomputeDdr_kept _).rd (visorKey_of_page hpg (by decide)), (recomputeDdr_kept _).rd (visorKey_of_page hpg (by decide))]
    exact h1

theorem traceEnable_again {slice : Nat} (h : s.on (trcPage slice) F.trc_TRACE_CFG_ENABLE = true) (drbg : Bool) (rate : Nat) :
    (traceEnable slice drbg rate s).palm = s.palm := by
  unfold traceEnable
  extract_lets pg s1 seed palm
  rw [if_pos h]
  rfl

/-- From 0 to 1 the sampler takes its seed (R399). -/
theorem traceEnable_seeds {slice : Nat} (h : s.on (trcPage slice) F.trc_TRACE_CFG_ENABLE = false) (drbg : Bool) (rate : Nat) :
    (traceEnable slice drbg rate s).palm.lfsr.val 0 slice =
        (if drbg then (Config.drbg s.free).toNat % 2 ^ 32 else max 1 (s.rd (trcPage slice) F.trc_TRACE_SEED)) ∧
      (traceEnable slice drbg rate s).free = s.free + drbg.toNat := by
  unfold traceEnable
  extract_lets pg s1 seed palm
  rw [h, if_neg Bool.false_ne_true, recomputeDdr_palm, recomputeDdr_free]
  refine ⟨SMap.val_put_self _ _ _ _, ?_⟩
  cases drbg <;> rfl

/-! ## Counter errors (R404) -/

/-- An error of both copies of a counter: it reads all ones, is among the lost ones, and is named. -/
theorem counterEcc_loses (k off : Nat) : (counterEcc k off 2 s).rd 0xB0 F.vsr0_DAMAGED_PAGE = cntPage k % 2 ^ 16 ∧
    (counterEcc k off 2 s).rd 0xB0 F.vsr0_DAMAGED_OFFSET = off % 2 ^ 12 ∧
    (counterEcc k off 2 s).vsr.damaged.contains (cntPage k * 0x1000 + off) = true := by
  unfold counterEcc
  extract_lets a vsr s1
  refine ⟨?_, ?_, ?_⟩
  · refine (State.rd_raise_of_body _ _ _ (by decide) (by decide)).trans ?_
    rw [State.rd_bump_of_place_ne _ _ _ (by decide), State.rd_wr_of_place_ne _ _ (by decide), State.rd_wr_self]
    rfl
  · refine (State.rd_raise_of_body _ _ _ (by decide) (by decide)).trans ?_
    rw [State.rd_bump_of_place_ne _ _ _ (by decide), State.rd_wr_self]
    rfl
  · refine (congrArg (fun v : Visor => v.damaged.contains a) (State.raise_vsr _ 0xB0 5)).trans ?_
    show (if s.vsr.damaged.contains a then s.vsr.damaged else a :: s.vsr.damaged).contains a = true
    split
    · assumption
    · simp

theorem counterEccError_moves (page : Fin 4096) (offset : Fin 512) (kind : Fin 3) :
    Moves (· ∈ [.regs, .out, .host, .latches, .vsr]) s (exec (.counterEccError page offset kind) s) := by
  apply execCounterEccError_touches <;> simp [Touches.refl]

theorem exec_counterEccError {page : Fin 4096} {offset : Fin 512} (kind : Fin 3) (h : isCounter (cntPage page.val) (8 * offset.val) = true) :
    exec (.counterEccError page offset kind) s = .next (counterEcc page.val (8 * offset.val) kind.val s) :=
  congrArg Host.Outcome.next (State.given_of h _)

/-- Errors that leave a copy name no counter. -/
theorem counterEcc_vsr {kind : Nat} (hk : kind < 2) (k off : Nat) : (counterEcc k off kind s).vsr = s.vsr := by
  interval_cases kind <;> exact State.raise_vsr ..

end

end Sys2Proof.Machine

namespace Sys2Proof

open Sys2Proof.Machine

/-! ## Selectors and windows -/

theorem evselWrite_stores (counter : Fin 4096) (data : Word) (s : State) (hs : s.stopped = false)
    (hsh : s.shut (0xC0 + counter.val / 256) = false) (hok : (data.toNat.testBit 32 && !eventDefined (data.toNat % 65536)) = false) :
    ∃ t, exec (.evselWrite counter data) s = .next t ∧
      Only [.regs, .latches, .vsr, .mtn] s t ∧
      t.rdi (0xC0 + counter.val / 256) F.vsre_EVSEL_EVENT (counter.val % 256) = data.toNat % 65536 ∧
      t.rdi (0xC0 + counter.val / 256) F.vsre_EVSEL_INSTANCE (counter.val % 256) = data.toNat / 65536 % 8192 ∧
      t.rdi (0xC0 + counter.val / 256) F.vsre_EVSEL_ANY (counter.val % 256) = data.toNat / 2 ^ 31 % 2 ∧
      t.rdi (0xC0 + counter.val / 256) F.vsre_EVSEL_ENABLE (counter.val % 256) = data.toNat / 2 ^ 32 % 2 ∧
      t.vsr.selOld.at? counter.val = some (s.selectorAt counter.val (s.now + 1), s.now) ∧
      RegsOnly [0xC0 + counter.val / 256] s t := by
  obtain ⟨h1, h2, h3, h4, hold, hregs⟩ := writeEvsel_stores (s.wakeClock (0xC0 + counter.val / 256)) hok
  rw [selectorAt_wakeClock, State.wakeClock_now] at hold
  refine exec_has (congrArg Host.Outcome.next (State.written_of hs hsh _)) ?_
    ⟨h1, h2, h3, h4, hold, (RegsOnly.of_regs_eq _ (State.wakeClock_regs ..)).trans hregs⟩
  apply execEvselWrite_touches <;> simp [Touches.refl]

theorem evselWrite_drops (counter : Fin 4096) (data : Word) (s : State) (hs : s.stopped = false)
    (hsh : s.shut (0xC0 + counter.val / 256) = false) (hb : data.toNat.testBit 32 = true)
    (hd : eventDefined (data.toNat % 65536) = false) :
    ∃ t, exec (.evselWrite counter data) s = .next t ∧
      Only [.regs, .latches, .vsr, .mtn] s t ∧
      t.rd (0xC0 + counter.val / 256) F.hdr_PAGE_STATUS_WRITE_DROPPED = 1 ∧
      RegsOnly [0xC0 + counter.val / 256] s t ∧
      t.vsr = s.vsr := by
  have hbad : (data.toNat.testBit 32 && !eventDefined (data.toNat % 65536)) = true := by rw [hb, hd]; rfl
  refine exec_has (congrArg Host.Outcome.next ((State.written_of hs hsh _).trans (if_pos hbad))) ?_
    ⟨State.rd_set1_self _ _ _, ?_, State.wakeClock_vsr s _⟩
  · apply execEvselWrite_touches <;> simp [Touches.refl]
  · exact (RegsOnly.of_regs_eq _ (State.wakeClock_regs ..)).trans (set1_regsOnly _ _ (by decide))

theorem bwEndRead_answers (port : Fin 1024) (bar2 : Bool) (s : State) (hs : s.stopped = false)
    (hu : (bar2 && !s.on (cntPage port.val) F.hdr_PAGE_CTRL_USER_READ) = false) (hsh : s.shut (cntPage port.val) = false) :
    ∃ t, exec (.bwEndRead port bar2) s = .next t ∧
      Only [.out, .vsr] s t ∧
      t.out = Output.reply "READ" [s.rd (cntPage port.val) F.cntp_BW_END] :: s.out ∧
      t.vsr.latched.at? (2 * port.val + (if bar2 then 1 else 0)) = some (s.rd (cntPage port.val) F.cntp_BW_RX_LAST, s.rd (cntPage port.val) F.cntp_BW_TX_LAST) ∧
      RegsOnly [] s t := by
  have hno : ¬ ((bar2 && !s.on (cntPage port.val) F.hdr_PAGE_CTRL_USER_READ) || s.shut (cntPage port.val)) = true := by
    rw [hu, hsh]
    exact Bool.false_ne_true
  refine exec_has (congrArg Host.Outcome.next ((if_neg (by rw [hs]; exact Bool.false_ne_true)).trans (if_neg hno))) ?_
    ⟨rfl, (SMap.at?_enter _ _ _ _).trans (if_pos rfl), fun _ _ => rfl⟩
  apply execBwEndRead_touches <;> simp [Touches.refl]

/-! ## Snapshots -/

theorem snapAtWrite_moves (w : Word) (s : State) : Moves (· ∈ [.regs, .out, .host, .latches, .vsr, .mtn]) s (exec (.snapAtWrite w) s) := by
  apply execSnapAtWrite_touches <;> simp [Touches.refl]

theorem snapCancel_moves (s : State) : Moves (· ∈ [.regs, .out, .host, .latches, .vsr, .mtn]) s (exec .snapCancel s) := by
  apply execSnapCancel_touches <;> simp [Touches.refl]

theorem snapshotClose_closes (a : T80) (s : State) (hs : s.stopped = false) (hdue : s.vsr.due = some a) (h64 : a + ns 64 ≤ s.now)
    (hi : s.vsr.image = none)
    (hw : (s.vsr.bw.all fun x => (s.vsr.kept.at? x.1).isSome || decide (s.windowEnd x.1 (a / nsUnits) ≤ max x.2.last x.2.start)) = true)
    (hu : s.unknownBefore (fun _ => true) a = false) :
    exec .snapshotClose s = .next (closeSnapshot a s) ∧ Only [.regs, .ddr, .poison, .vsr] s (closeSnapshot a s) ∧
      (closeSnapshot a s).on 0xB0 F.vsr0_SNAP_STATUS_WRITING = true ∧
      (((closeSnapshot a s)).vsr.image.map fun m => m.at_) = some a ∧
      ((closeSnapshot a s)).vsr.kept = [] := by
  have he : exec .snapshotClose s = .next _ := congrArg Host.Outcome.next (State.running_of hs _)
  dsimp only at he
  rw [hdue] at he
  refine exec_is_and (he.trans (congrArg Host.Outcome.next (State.given_of ?_ _))) ?_ (closeSnapshot_closes s a)
  · rw [hi, hw, hu, decide_eq_true h64]
    rfl
  · apply execSnapshotClose_touches <;> simp [Touches.refl]

/-- Settles O37: each command where its guard holds. A past SNAP_AT is late, and its instant is TIME at the commit: the model's choice
(log entry 105). -/
theorem visorCommandsComplete : Obligations.VisorCommandsComplete := by
  unfold Obligations.VisorCommandsComplete
  refine ⟨fun e i b a s hs hd ha => ?_, evselWrite_stores, evselWrite_drops, bwEndRead_answers, fun p bar2 s hs hn => ?_,
    fun p s hw hu => ?_, fun w s hs hsh hb => ?_, fun w s hs hsh hp hw => ?_, fun a s hs hsh hdue ha => ?_, fun s hs hsh hdue => ?_,
    snapshotClose_closes, fun m s hs hm => ?_, fun m s hs hm hsl hdue => ?_, fun sl drbg rate s hs hsh => ?_,
    fun sl drbg rate s hs hsh hoff => ?_, fun p o k s hc => ?_, fun p o s hc => ?_, fun p o s hc => ?_, fun p o s hc => ?_,
    fun p o k s hc => ?_⟩
  · refine exec_is (congrArg Host.Outcome.next ((State.running_of hs _).trans (State.given_of (by rw [hd, decide_eq_true ha]; rfl) _))) ?_
    apply execCounterEvent_touches <;> simp [Touches.refl]
  · refine exec_is (congrArg Host.Outcome.next ((if_neg (by rw [hs]; exact Bool.false_ne_true)).trans (if_pos hn))) ?_
    apply execBwEndRead_touches <;> simp [Touches.refl]
  · refine exec_is (congrArg Host.Outcome.next (State.given_of (by rw [hu, decide_eq_true hw]; rfl) _)) ?_
    apply execBwWindowClose_touches <;> simp [Touches.refl]
  · refine exec_is (congrArg Host.Outcome.next ((State.written_of hs hsh _).trans (if_pos ?_))) (snapAtWrite_moves w s)
    rw [State.on_wakeClock, State.on_wakeClock]
    exact hb
  · obtain ⟨h1, h2, h3, h4, h5⟩ := writeSnapAt_pends (s.wakeClock 0xB0) w.isLt ((State.on_wakeClock ..).trans hp)
      ((State.on_wakeClock ..).trans hw)
    have hat : (s.wakeClock 0xB0).snapAt w.toNat = w.toNat * nsUnits + s.host.staged.val 0 0xB0088 % nsUnits := by
      unfold State.snapAt
      rw [State.wakeClock_host]
    rw [hat, State.wakeClock_now] at h3 h4
    exact exec_has (congrArg Host.Outcome.next (State.written_of hs hsh _)) (snapAtWrite_moves w s) ⟨h1, h2, h3, h4, h5⟩
  · have hdrop := snapCancel_drops (s.wakeClock 0xB0) (by rw [State.wakeClock_vsr]; exact hdue) (by rw [State.wakeClock_now]; exact ha)
    rw [State.wakeClock_vsr] at hdrop
    refine exec_is_and (congrArg Host.Outcome.next ((State.written_of hs hsh _).trans hdrop)) (snapCancel_moves s) ⟨?_, ?_⟩
    · rw [recomputeDdr_vsr]
      rfl
    · unfold State.on
      rw [(recomputeDdr_kept _).rd (visorKey_of_page (by decide) (by decide)), State.rd_wr_self]
      rfl
  · have hkeep := snapCancel_keeps (s.wakeClock 0xB0) (by rw [State.wakeClock_vsr, State.wakeClock_now]; exact hdue)
    rw [State.wakeClock_vsr] at hkeep
    exact exec_has (congrArg Host.Outcome.next ((State.written_of hs hsh _).trans hkeep)) (snapCancel_moves s)
      ⟨rfl, RegsOnly.of_regs_eq _ (State.wakeClock_regs s 0xB0)⟩
  · refine exec_is_and (congrArg Host.Outcome.next ((State.running_of hs _).trans ?_)) ?_ (completeSnapshot_completes s m)
    · rw [hm]
    · apply execSnapshotComplete_touches <;> simp [Touches.refl]
  · have he : exec .snapSlow s = .next _ := congrArg Host.Outcome.next (State.running_of hs _)
    rw [hm] at he
    refine exec_has (he.trans (congrArg Host.Outcome.next (State.given_of (by rw [hsl, decide_eq_true hdue]; rfl) _))) ?_
      (State.raise_vsr ..)
    apply execSnapSlow_touches <;> simp [Touches.refl]
  · refine exec_is_and (congrArg Host.Outcome.next (State.written_of hs hsh _)) ?_ ⟨?_, fun hon => ?_⟩
    · apply execTraceEnable_touches <;> simp [Touches.refl]
    · unfold State.on
      rw [(traceEnable_on _ _ _ _).1]
      rfl
    · exact (traceEnable_again _ ((State.on_wakeClock ..).trans hon) _ _).trans (State.wakeClock_palm ..)
  · obtain ⟨hseed, hfree⟩ := traceEnable_seeds (s.wakeClock (trcPage sl.val)) ((State.on_wakeClock ..).trans hoff) drbg rate.toNat
    obtain ⟨hon, hrate⟩ := traceEnable_on (s.wakeClock (trcPage sl.val)) sl.val drbg rate.toNat
    rw [State.wakeClock_free] at hseed hfree
    rw [State.rd_wakeClock] at hseed
    rw [Nat.mod_eq_of_lt rate.isLt] at hrate
    refine exec_has (congrArg Host.Outcome.next (State.written_of hs hsh _)) ?_ ⟨hon, hrate, hseed, hfree⟩
    apply execTraceEnable_touches <;> simp [Touches.refl]
  · refine exec_is_and (exec_counterEccError s k hc) (counterEccError_moves s p o k) ⟨fun hk => ?_, fun hk => ?_⟩
    · show (counterEcc p.val (8 * o.val) k.val s).vsr.damaged.contains _ = true
      rw [hk]
      exact (counterEcc_loses s _ _).2.2
    · exact counterEcc_vsr s (show k.val < 2 by omega) _ _
  · obtain ⟨h1, h2, h3⟩ := counterEcc_loses s p.val (8 * o.val)
    rw [Nat.mod_eq_of_lt (by unfold cntPage; omega)] at h1
    rw [Nat.mod_eq_of_lt (by omega)] at h2
    exact exec_has (exec_counterEccError s 2 hc) (counterEccError_moves s p o _) ⟨h1, h2, h3⟩
  · exact exec_is (exec_counterEccError s 1 hc) (counterEccError_moves s p o _)
  · exact exec_is (exec_counterEccError s 0 hc) (counterEccError_moves s p o _)
  · refine exec_is (congrArg Host.Outcome.next (if_neg ?_)) (counterEccError_moves s p o k)
    rw [hc]
    exact Bool.false_ne_true

end Sys2Proof
end

section
/-! SUPPORT. Changes that stay on given pages, counts, and Gauntlet's summary of its lines (R4, R456, R477). -/

namespace Sys2Proof

open Sys2Proof.Machine

/-! ## Pages -/

section
variable {pages : List Nat} {s t u : State} {page : Nat}

/-- A further change on one of the pages. -/
theorem RegsOnly.step (h : RegsOnly pages s t) (hp : page ∈ pages) (h' : RegsOnly [page] t u) : RegsOnly pages s u :=
  h.trans (h'.widen (List.cons_subset.2 ⟨hp, List.nil_subset _⟩))

theorem RegsOnly.congr (h : RegsOnly pages s t) (hr : u.regs = t.regs) : RegsOnly pages s u := h.trans (.of_regs_eq _ hr)

theorem RegsOnly.ite {c : Prop} [Decidable c] (ht : RegsOnly pages s t) (hu : RegsOnly pages s u) :
    RegsOnly pages s (if c then t else u) := RegsKept.ite ht hu

theorem RegsOnly.wrOn (h : RegsOnly pages s t) (hp : page ∈ pages) {f : Fld} (hf : f.off * 8 + f.lo < 0x8000) (v : Nat) :
    RegsOnly pages s (t.wr page f v) := h.step hp (State.wr_regsOnly t page hf v)

theorem RegsOnly.raiseOn (h : RegsOnly pages s t) (hp : page ∈ pages) {cause : Nat} (hc : cause < 64) :
    RegsOnly pages s (t.raise page cause) := h.step hp (raise_regsOnly t page hc)

theorem Machine.State.bump_regsOnly (s : State) (page : Nat) {f : Fld} (hf : f.off * 8 + f.lo < 0x8000) (n : Nat) :
    RegsOnly [page] s (s.bump page f n) :=
  (State.wr_regsOnly s page hf _).congr (State.noteCount_regs _ page f 0 n)

theorem RegsOnly.bumpOn (h : RegsOnly pages s t) (hp : page ∈ pages) {f : Fld} (hf : f.off * 8 + f.lo < 0x8000) (n : Nat) :
    RegsOnly pages s (t.bump page f n) := h.step hp (State.bump_regsOnly t page hf n)

end

end Sys2Proof

namespace Sys2Proof.Machine

/-! ## Counts -/

theorem sat_mod (w v : Nat) : sat w v % 2 ^ w = sat w v :=
  Nat.mod_eq_of_lt ((min_le_right v (2 ^ w - 1)).trans_lt (Nat.sub_lt (Nat.two_pow_pos w) Nat.one_pos))

/-- A saturating count reads one more, up to its largest value. -/
theorem State.rd_bump_self (s : State) (page : Nat) (f : Fld) (n : Nat) : (s.bump page f n).rd page f = sat f.w (s.rd page f + n) :=
  ((State.rdx_congr (State.noteCount_regs _ page f 0 n) page f 0 0).trans (State.rdi_wri_self s page f 0 _)).trans (sat_mod f.w _)

/-! ## The summary of the lines (R456, R477) -/

/-- The keys that the summary writes. -/
def summaryKeys : List Nat :=
  [F.gnt0_SUMMARY_WORDS.key 0x20 0 0, F.gnt0_SUMMARY_HIGHEST.key 0x20 0 0, F.gnt0_SUMMARY_INJ_ANY.key 0x20 0 0,
    F.gnt0_SUMMARY_ESCALATION.key 0x20 0 0, F.idn_DEVICE_STATE_FAULT_CLASS.key 0x00 0 0]

theorem RegsKept.refreshSummary {K : Nat → Prop} {s t : State} (h : RegsKept K s t) (hK : ∀ k ∈ summaryKeys, ¬ K k) :
    RegsKept K s t.refreshSummary := by
  unfold State.refreshSummary
  extract_lets words inj s1 s2
  have h1 : RegsKept K s s1 := (((h.wr (hK _ (by simp [summaryKeys])) _).wr (hK _ (by simp [summaryKeys])) _).wr
    (hK _ (by simp [summaryKeys])) _).wr (hK _ (by simp [summaryKeys])) _
  have h2 : RegsKept K s s2 := .ite (h1.congr rfl) h1
  split <;> exact h2.wr (hK _ (by simp [summaryKeys])) _

end Sys2Proof.Machine

namespace Sys2Proof

open Sys2Proof.Machine

theorem RegsOnly.refreshSummary {pages : List Nat} {s t : State} (h : RegsOnly pages s t) (hg : 0x20 ∈ pages) (hi : 0x00 ∈ pages) :
    RegsOnly pages s t.refreshSummary := by
  refine RegsKept.refreshSummary h ?_
  have hk : ∀ k ∈ summaryKeys, pageOfKey k = 0x20 ∨ pageOfKey k = 0x00 := by decide
  intro k hm
  obtain h | h := hk k hm <;> rw [h] <;> simpa

end Sys2Proof
end

section
/-! PROOF. O16: the entry into the safe state and the repair of rows, wires and flits (R457 to R477). -/

namespace Sys2Proof.Machine

variable (s : State)

/-- The instant of a periodic event is noted as the last one handled under its key (log entry 10). -/
def State.noted (key : Nat) : State := { s with ticks := { s.ticks with last := s.ticks.last.put s.ticks.base key s.nowNs } }

theorem State.periodic_noted {s : State} {key period : Nat} (h : s.dueAt key period s.nowNs = true) (f : State → State) :
    s.periodic key period f = f (s.noted key) := State.periodic_of h f

/-! ## The entry and its snapshot -/

theorem gntParity_decides (hsafe : s.isSafe = false) (hentry : s.gnt.entry = none) :
    (gntParity s).rd 0x20 F.gnt0_SUMMARY_SELF_PARITY = 1 ∧ (gntParity s).gnt.entry = some ⟨s.now, s.tq, 3, 0, 0, false, s.mono⟩ ∧
      RegsOnly [0x20] s (gntParity s) := by
  unfold gntParity
  extract_lets s1
  rw [if_neg (show ¬ (s.isSafe || s.gnt.entry.isSome) = true by rw [hsafe, hentry]; decide)]
  refine ⟨?_, rfl, ((RegsOnly.refl [0x20] s).wrOn (by decide) (by decide) 1).raiseOn (by decide) (by decide)⟩
  exact (State.rd_raise_of_body _ _ _ (by decide) (by decide)).trans (State.rd_wr_self _ _ _ 1)

theorem refreshSnap_regsOnly : RegsOnly [0x22] s s.refreshSnap := by
  unfold State.refreshSnap
  extract_lets seqOf v0 v1 latest
  exact (((State.wr_regsOnly s 0x22 (by decide) _).wr (by decide) _).wr (by decide) _).wr (by decide) _

/-- The entry's snapshot goes to the slot of its number (R467). -/
theorem writeSnapshot_writes {e : SafeEntry} (hsafe : s.gnt.safe = some e) (hdone : s.gnt.snapDone = false) :
    (writeSnapshot s).gnt.snapDone = true ∧ (writeSnapshot s).gnt.snapSeq = s.gnt.snapSeq + 1 ∧
      (if (s.gnt.snapSeq + 1) % 2 = 0 then (writeSnapshot s).gnt.slot0 else (writeSnapshot s).gnt.slot1) =
        s.snapBody e (s.gnt.snapSeq + 1) ++ leBytes 4 (crc32c (s.snapBody e (s.gnt.snapSeq + 1))) ∧
      (writeSnapshot s).rd 0x30 F.mtn0_MTN_STATUS_SAFE_SEQ = 0 ∧ RegsOnly [0x22, 0x30] s (writeSnapshot s) := by
  unfold writeSnapshot
  rw [hsafe]
  dsimp -zeta only
  rw [State.given_of (by rw [hdone]; rfl)]
  extract_lets n body bytes src g
  refine ⟨?_, ?_, ?_, State.rd_wr_self _ _ _ 0, ?_⟩
  · show (if n % 2 = 0 then { g with slot0 := bytes } else { g with slot1 := bytes }).snapDone = true
    split <;> rfl
  · show (if n % 2 = 0 then { g with slot0 := bytes } else { g with slot1 := bytes }).snapSeq = n
    split <;> rfl
  · show (if n % 2 = 0 then (if n % 2 = 0 then { g with slot0 := bytes } else { g with slot1 := bytes }).slot0
      else (if n % 2 = 0 then { g with slot0 := bytes } else { g with slot1 := bytes }).slot1) = bytes
    split <;> rfl
  · exact ((RegsOnly.of_regs_eq [0x22, 0x30] rfl).step (by decide) (refreshSnap_regsOnly _)).wrOn (by decide) (by decide) 0

/-! ## Scrubbing and rows (R472, R473) -/

theorem startRepair_regs (m r : Nat) : (startRepair m r s).regs = s.regs := by
  unfold startRepair State.given
  dsimp only
  split <;> rfl

/-- A corrected word latches cause 4, whether its row's repair starts or not. -/
theorem testBit_real_scrubCorrected (m r : Nat) (hq : s.quenched 0x20 = false) :
    ((scrubCorrected m r s).rd 0x20 F.hdr_ERR_STATUS_REAL).testBit 4 = true := by
  unfold scrubCorrected
  extract_lets pass q n src s1
  have h1 : (s1.rd 0x20 F.hdr_ERR_STATUS_REAL).testBit 4 = true := testBit_real_raise (by decide) hq
  split
  · rwa [State.rd, State.rdx_congr (startRepair_regs _ _ _), ← State.rd]
  · exact h1

/-- A spare row in place of the row copied is one more of its SRAM block's (R473). -/
theorem switchRow_switches {m r : Nat} (bank : Option Nat) (h : s.gnt.repairing.contains (m, r) = true) :
    (switchRow m r bank s).gnt.repairing = s.gnt.repairing.filter (fun p => p != (m, r)) ∧
      (switchRow m r bank s).gnt.spareRows.val 0 m = s.gnt.spareRows.val 0 m + 1 := by
  unfold switchRow
  rw [State.given_of h]
  extract_lets n room src s1 s2 s3
  have h2 : s2.gnt = s1.gnt := State.raise_gnt _ _ _
  have h3 : s3.gnt = s1.gnt := (State.raise_gnt _ _ _).trans ((State.bump_gnt _ _ _ _).trans h2)
  generalize hu : (if n < 4 then s2 else match bank with | some b => triggerBank b s3 | none => s3) = u
  have hg : u.gnt = s1.gnt := by
    subst hu
    split
    · exact h2
    · cases bank with
      | none => exact h3
      | some b => exact (triggerBank_touches nofun nofun nofun nofun nofun nofun (Touches.refl _ s3)).gnt_eq.trans h3
  rw [hg]
  exact ⟨rfl, SMap.val_put_self 0 s.gnt.spareRows m n⟩

section
variable {s : State} (m r : Nat) {found : Scrubbed} (cell : Option (Fin 1152 × Option Nat)) (last : Bool)

/-- What an end of a pass adds (R472). -/
def passEnded (last : Bool) (s : State) : State :=
  if last = true then { s.bump 0x21 F.gnt1_SCRUB_STATUS_PASSES with gnt := { s.gnt with scrubStart := s.now } } else s

theorem passEnded_only : Only [.regs, .gnt] s (passEnded last s) := by
  unfold passEnded
  split
  · rw [State.bump, State.bumpi, show ∀ u : State, u.noteCount 0x21 F.gnt1_SCRUB_STATUS_PASSES 0 1 = u from fun u => if_neg (by decide)]
    exact ((State.wri_touches (by simp) (Touches.refl _ s)).upd_gnt (by simp)).only
  · exact (Touches.refl _ s).only

/-- An uncorrectable word of a row: its cell, its table's cause and its row's repair. -/
def scrubUncorrected (found : Scrubbed) (s : State) : State :=
  let u := match cell with | some c => uncorrectedCell c.1.val c.2 s | none => s
  startRepair m r (if found.table = true then (u.raise 0x300 7).vector 278 else u)

section
variable (hs : s.stopped = false) (hon : s.on 0x21 F.gnt1_SCRUB_CFG_ENABLE = true)
include hs hon

theorem exec_scrubVisit : exec (.scrubVisit m r found cell last) s = .next (passEnded last (match found.ecc.val with
    | 0 => s
    | 1 => scrubCorrected m r (if found.table = true then (s.raise 0x300 6).vector 278 else s)
    | _ => scrubUncorrected m r cell found s)) :=
  congrArg Host.Outcome.next (State.running_given_of hs hon _)

theorem exec_scrubVisit_clean (h : found.ecc.val = 0) : exec (.scrubVisit m r found cell last) s = .next (passEnded last s) := by
  rw [exec_scrubVisit m r cell last hs hon, h]
  rfl

theorem exec_scrubVisit_corrected (h : found.ecc.val = 1) : exec (.scrubVisit m r found cell last) s =
    .next (passEnded last (scrubCorrected m r (if found.table = true then (s.raise 0x300 6).vector 278 else s))) := by
  rw [exec_scrubVisit m r cell last hs hon, h]
  rfl

theorem exec_scrubVisit_uncorrected (h : found.ecc.val = 2) : exec (.scrubVisit m r found cell last) s =
    .next (passEnded last (scrubUncorrected m r cell found s)) := by
  rw [exec_scrubVisit m r cell last hs hon, h]
  rfl

end

end

/-! ## Seam (R474) -/

section
variable {link : Nat} (down : Bool) (wire : Nat)

/-- The first spare trained beside a wire, where its direction has one left. -/
theorem trainSpare_trains (ht : s.gnt.training = []) (h : s.spares link down < spareTotal link) :
    trainSpare link down wire s = { s with gnt := { s.gnt with training := [wireKey link down wire] } } := by
  unfold trainSpare
  extract_lets key
  rw [State.given_of (by rw [ht]; rfl)]
  extract_lets busy
  have hbusy : busy = 0 := by
    unfold busy
    rw [ht]
    rfl
  rw [hbusy, ht]
  exact if_pos h

/-- A check that asks for a spare, by its margin or at its TAI second, changes the periods noted and the wires in training. -/
theorem checkWire_trains {corrections : Nat} {margin : Bool}
    (hc : margin = true ∨ (s.dueAt (2 ^ 24 + wireKey link down wire) 1000000000 s.nowNs = true ∧
      s.rd 0x21 F.gnt1_SEAM_CFG_WIRE_THRESH < corrections)) (ht : s.gnt.training = []) (h : s.spares link down < spareTotal link) :
    Only [.ticks, .gnt] s (checkWire link down wire corrections margin s) ∧
      (checkWire link down wire corrections margin s).gnt.training = [wireKey link down wire] ∧
      (checkWire link down wire corrections margin s).regs = s.regs := by
  unfold checkWire
  cases margin with
  | true =>
    rw [if_pos rfl, trainSpare_trains s down wire ht h]
    exact ⟨((Touches.refl _ s).upd_gnt (by simp)).only, rfl, rfl⟩
  | false =>
    obtain ⟨hdue, hthresh⟩ := hc.resolve_left (by decide)
    rw [if_neg Bool.false_ne_true, State.periodic_noted hdue,
      if_pos (show (s.noted (2 ^ 24 + wireKey link down wire)).rd 0x21 F.gnt1_SEAM_CFG_WIRE_THRESH < corrections from hthresh),
      trainSpare_trains (s.noted _) down wire ht h]
    exact ⟨(((Touches.refl _ s).upd_ticks (by simp)).upd_gnt (by simp)).only, rfl, rfl⟩

theorem switchSpare_switches (ht : s.gnt.training.contains (wireKey link down wire) = true) :
    (switchSpare link down wire s).gnt.training = s.gnt.training.filter (fun k => k != wireKey link down wire) ∧
      (switchSpare link down wire s).gnt.replaced = wireKey link down wire :: s.gnt.replaced ∧
      RegsOnly [0x20, 0x21, 0x500 + link] s (switchSpare link down wire s) := by
  unfold switchSpare
  rw [State.given_of ht]
  extract_lets n src s1 s2 s2'
  have h1 : RegsOnly [0x20, 0x21, 0x500 + link] s s1 := .of_regs_eq _ rfl
  split
  · have h2 := h1.wrOn (f := if down then F.til_SEAM_STATUS_SPARES_DOWN else F.til_SEAM_STATUS_SPARES_UP) (page := 0x500 + link)
      (by simp) (by cases down <;> decide) n
    refine ⟨?_, ?_, (RegsOnly.ite (h2.wrOn (by simp) (by decide) 1) h2).raiseOn (by simp) (by decide)⟩ <;>
    · rw [State.raise_gnt]
      split <;> rfl
  · have h2 := h1.wrOn (f := if down then F.gnt1_IOD_SEAM_STATUS_SPARES_DOWN else F.gnt1_IOD_SEAM_STATUS_SPARES_UP) (page := 0x21)
      (by simp) (by cases down <;> decide) n
    refine ⟨?_, ?_, (RegsOnly.ite (h2.wrOn (by simp) (by decide) 1) h2).raiseOn (by simp) (by decide)⟩ <;>
    · rw [State.raise_gnt]
      split <;> rfl

/-- The flit's count, before the frames and replicas in it (R474). -/
def flitCounted (link : Nat) (s : State) : State :=
  if link = 8 then s.bump 0x21 F.gnt1_IOD_SEAM_STATUS_FLIT_UNCORRECTABLE else s.bump (0x500 + link) F.til_SEAM_STATUS_FLIT_CRC_ERRORS

theorem flitCounted_gnt (link : Nat) : (flitCounted link s).gnt = s.gnt := by
  unfold flitCounted
  split <;> exact State.bump_gnt _ _ _ _

theorem flitCounted_regsOnly (link : Nat) : RegsOnly [0x20, 0x21, 0x500 + link] s (flitCounted link s) := by
  refine .ite ?_ ?_ <;> exact (RegsOnly.refl _ s).bumpOn (by simp) (by decide) 1

/-- The frames marked and the replicas stomped leave Gauntlet's part, so its cause 3 latches outside a window of its line. -/
theorem testBit_real_flit (link : Nat) (frames replicas : List Nat) (hq : s.quenched 0x20 = false) :
    (((replicas.foldl (fun (u : State) r => stompReplica r true u) (frames.foldl (fun (u : State) f => marFrame f u)
      (flitCounted link s))).raise 0x20 3).rd 0x20 F.hdr_ERR_STATUS_REAL).testBit 3 = true := by
  refine testBit_real_raise (by decide) ((State.quenched_congr ?_ _).trans hq)
  refine List.foldlRecOn _ _ (motive := fun u : State => u.gnt = s.gnt) ?_ fun u hu r _ =>
    (stompReplica_touches nofun nofun nofun nofun nofun nofun (Touches.refl _ u)).gnt_eq.trans hu
  refine List.foldlRecOn _ _ (motive := fun u : State => u.gnt = s.gnt) (flitCounted_gnt s link) fun u hu f _ => ?_
  exact (marFrame_touches nofun nofun nofun nofun nofun nofun nofun nofun nofun nofun (Touches.refl _ u)).gnt_eq.trans hu

/-- A flit with no frame and no replica in it changes the counts and causes of its pages alone. -/
theorem flit_alone (link : Fin 9) : Only [.regs, .out, .host, .latches] s ((flitCounted link.val s).raise 0x20 3) ∧
    (if link.val = 8 then ((flitCounted link.val s).raise 0x20 3).rd 0x21 F.gnt1_IOD_SEAM_STATUS_FLIT_UNCORRECTABLE =
        sat F.gnt1_IOD_SEAM_STATUS_FLIT_UNCORRECTABLE.w (s.rd 0x21 F.gnt1_IOD_SEAM_STATUS_FLIT_UNCORRECTABLE + 1)
      else ((flitCounted link.val s).raise 0x20 3).rd (0x500 + link.val) F.til_SEAM_STATUS_FLIT_CRC_ERRORS =
        sat F.til_SEAM_STATUS_FLIT_CRC_ERRORS.w (s.rd (0x500 + link.val) F.til_SEAM_STATUS_FLIT_CRC_ERRORS + 1)) ∧
      RegsOnly [0x20, 0x21, 0x500 + link.val] s ((flitCounted link.val s).raise 0x20 3) := by
  refine ⟨?_, ?_, (flitCounted_regsOnly s link.val).raiseOn (by simp) (by decide)⟩
  · refine Touches.only (State.raise_touches (by simp) (by simp) (by simp) (by simp) ?_)
    exact .ite (State.bump_touches (by simp) (by simp) (.refl _ s)) (State.bump_touches (by simp) (by simp) (.refl _ s))
  unfold flitCounted
  split
  · rw [State.rd_raise_of_body _ _ _ (by decide) (by decide)]
    exact State.rd_bump_self _ _ _ _
  · rw [State.rd_raise_of_body _ _ _ (by decide) (by decide)]
    exact State.rd_bump_self _ _ _ _

end

/-! ## Wear (R475 to R477) -/

/-- The lanes whose rate changed start their histories anew (R475). -/
def restartLanes (restarted : List Nat) (s : State) : State := restarted.foldl (fun (t : State) l =>
  { t with gnt := { t.gnt with wear := t.gnt.wear.put {} (2 ^ 16 + l) {} } }) s

theorem restartLanes_wear {restarted : List Nat} {key : Nat} (h : ∀ l ∈ restarted, key ≠ 2 ^ 16 + l) :
    (restartLanes restarted s).gnt.wear.val {} key = s.gnt.wear.val {} key :=
  List.foldlRecOn _ _ (motive := fun u : State => u.gnt.wear.val {} key = s.gnt.wear.val {} key) rfl fun u hu l hl =>
    (SMap.val_put_of_ne {} u.gnt.wear (h l hl) {}).trans hu

theorem restartLanes_regs (restarted : List Nat) : (restartLanes restarted s).regs = s.regs :=
  List.foldlRecOn _ _ (motive := fun u : State => u.regs = s.regs) rfl fun _ hu _ _ => hu

theorem wearReport_samples (kind : Nat) (r : WearRec) :
    (wearReport kind r).samples = r.samples ∧ (wearReport kind r).hours = r.hours := by
  unfold wearReport
  split
  · exact ⟨rfl, rfl⟩
  · obtain ⟨m, b, d⟩ := fitLine r.samples
    dsimp -zeta only
    extract_lets toward
    cases toward <;> exact ⟨rfl, rfl⟩

section
variable {kind index : Nat}

theorem wearSample_regs (hour kind index value : Nat) : (wearSample hour kind index value s).regs = s.regs := by
  unfold wearSample
  dsimp only
  split <;> rfl

/-- A sample of a monitor that is no lane's is added at its hour. -/
theorem wearSample_adds (hi : index < wearCount kind) (hk : kind ≠ 1) (hour value : Nat) :
    ((wearSample hour kind index value s).gnt.wear.val {} (kind * 2 ^ 16 + index)).samples =
        (s.gnt.wear.val {} (kind * 2 ^ 16 + index)).samples ++ [(hour, value)] ∧
      ((wearSample hour kind index value s).gnt.wear.val {} (kind * 2 ^ 16 + index)).hours =
        spanOf ((s.gnt.wear.val {} (kind * 2 ^ 16 + index)).samples ++ [(hour, value)]) := by
  unfold wearSample
  rw [if_pos (by simp [hi, hk])]
  extract_lets key r h
  rw [show ∀ x : WearRec, SMap.val {} (s.gnt.wear.put {} key x) key = x from SMap.val_put_self _ _ _]
  exact wearReport_samples kind _

theorem wearHour_gnt (samples : List (Nat × Nat × Nat)) (restarted : List Nat) : (wearHour samples restarted s).gnt =
    (samples.foldl (fun t x => wearSample (s.nowNs / 3600000000000) x.1 x.2.1 x.2.2 t) (restartLanes restarted s)).gnt := by
  unfold wearHour
  extract_lets s1 s2
  split
  · rfl
  · extract_lets s3
    split
    · exact State.raise_gnt _ _ _
    · rfl

theorem wearHour_regsOnly (samples : List (Nat × Nat × Nat)) (restarted : List Nat) :
    RegsOnly [0x20, 0x23] s (wearHour samples restarted s) := by
  unfold wearHour
  extract_lets s1 s2
  have h2 : RegsOnly [0x20, 0x23] s s2 := .of_regs_eq _ (List.foldlRecOn _ _ (motive := fun u : State => u.regs = s.regs)
    (restartLanes_regs s restarted) fun u hu _ _ => (wearSample_regs u ..).trans hu)
  split
  · exact ((h2.wrOn (by decide) (by decide) _).wrOn (by decide) (by decide) _).wrOn (by decide) (by decide) _
  · extract_lets s3
    have h3 : RegsOnly [0x20, 0x23] s s3 :=
      ((h2.wrOn (by decide) (by decide) _).wrOn (by decide) (by decide) _).wrOn (by decide) (by decide) _
    exact .ite (h3.raiseOn (by decide) (by decide)) h3

end

/-- The window shows the monitor selected, and an index out of its kind's range as not monitored (R477). -/
theorem showWear_shows (kind : Fin 4) (index : Fin 1024) :
    (showWear kind.val index.val s).rd 0x23 F.gnt3_WEAR_SEL_KIND = kind.val ∧
      (showWear kind.val index.val s).rd 0x23 F.gnt3_WEAR_SEL_INSTANCE = index.val ∧
      (showWear kind.val index.val s).rd 0x23 F.gnt3_WEAR_STATUS_STATE =
        (if index.val < wearCount kind.val then (s.gnt.wear.val {} (kind.val * 2 ^ 16 + index.val)).state else 3) %
          2 ^ F.gnt3_WEAR_STATUS_STATE.w ∧
      RegsOnly [0x23] s (showWear kind.val index.val s) := by
  have h1 := (State.wr_regsOnly s 0x23 (f := F.gnt3_WEAR_SEL_KIND) (by decide) kind.val).wr (f := F.gnt3_WEAR_SEL_INSTANCE)
    (by decide) index.val
  unfold showWear
  extract_lets r s1
  split
  all_goals
    simp (disch := decide) only [s1, State.rd_wr_of_place_ne, State.rd_wr_self]
    exact ⟨Nat.mod_eq_of_lt kind.isLt, Nat.mod_eq_of_lt index.isLt, by trivial,
      (((h1.wr (by decide) _).wr (by decide) _).wr (by decide) _).wr (by decide) _⟩

end Sys2Proof.Machine

namespace Sys2Proof

open Sys2Proof.Machine

/-- Settles O16: each command's helper has its effect and frame above. That a wear history's HOURS is the span from its first hourly
sample to its last is the model's choice (log entry 184), as are the periods' instants (log entry 10). -/
theorem safeStateAndRepairCommandsComplete : Obligations.SafeStateAndRepairCommandsComplete := by
  refine ⟨?_, ?_, ?_, ?_, ?_, ?_, ?_, ?_, ?_, ?_, ?_, ?_, ?_, ?_, ?_⟩
  · intro s hsafe hentry
    exact exec_has rfl (by apply execGntRegParity_touches <;> simp [Touches.refl]) (gntParity_decides s hsafe hentry)
  · intro e s he hsafe
    have hexec : exec .safeStateEntry s = .next (enterSafe e s) := by
      show Host.Outcome.next (match s.gnt.entry with | some e => if s.isSafe then s else enterSafe e s | none => s) = _
      rw [he]
      exact congrArg Host.Outcome.next (if_neg (by rw [hsafe]; exact Bool.false_ne_true))
    exact exec_is hexec (by apply execSafeStateEntry_touches <;> simp [Touches.refl])
  · intro e s he hdone
    exact exec_has rfl (by apply execFaultSnapshotWrite_touches <;> simp [Touches.refl]) (writeSnapshot_writes s he hdone)
  · intro slot s hs hsh
    refine exec_has (congrArg Host.Outcome.next (State.written_of hs hsh _))
      (by apply execSnapSelWrite_touches <;> simp [Touches.refl]) ⟨?_, ?_⟩
    · exact (State.rd_wr_self _ _ _ _).trans (Nat.mod_eq_of_lt slot.isLt)
    · exact (RegsOnly.of_regs_eq [0x22] (State.wakeClock_regs s 0x22)).wrOn (by decide) (by decide) _
  · intro m r found cell last s hs hon h
    refine ⟨_, exec_scrubVisit_clean m r cell last hs hon h, passEnded_only last, ?_, ?_⟩
    · rintro rfl
      exact ⟨State.rd_bump_self _ _ _ _, rfl, (State.bump_regsOnly s 0x21 (by decide) 1).congr rfl⟩
    · rintro rfl
      rfl
  · intro m r found cell s hs hon h
    refine exec_is_and (exec_scrubVisit_corrected m r cell false hs hon h) (by apply execScrubVisit_touches <;> simp [Touches.refl])
      fun hq => testBit_real_scrubCorrected _ m r ((State.quenched_congr ?_ _).trans hq)
    split
    · exact (State.vector_gnt _ _).trans (State.raise_gnt _ _ _)
    · rfl
  · intro m r found cell last s hs hon h
    refine exec_is ?_ (by apply execScrubVisit_touches <;> simp [Touches.refl])
    obtain h1 | h2 : found.ecc.val = 1 ∨ found.ecc.val = 2 := by omega
    · exact (exec_scrubVisit_corrected m r cell last hs hon h1).trans
        (congrArg (fun u => Host.Outcome.next (passEnded last u)) (if_pos h1).symm)
    · exact (exec_scrubVisit_uncorrected m r cell last hs hon h2).trans
        (congrArg (fun u => Host.Outcome.next (passEnded last u)) (if_neg (by rw [h2]; decide)).symm)
  · intro m r bank s hs h
    exact exec_has (congrArg Host.Outcome.next (State.running_of hs _)) (by apply execSoftRepair_touches <;> simp [Touches.refl])
      (switchRow_switches s _ h)
  · intro link down wire check s hs hc ht h
    exact ⟨_, congrArg Host.Outcome.next (State.running_of hs _), checkWire_trains s down wire.val hc ht h⟩
  · intro link down wire s hs ht
    exact exec_has (congrArg Host.Outcome.next (State.running_of hs _)) (by apply execSeamSpareSwitch_touches <;> simp [Touches.refl])
      (switchSpare_switches s down wire.val ht)
  · intro link frames replicas s hs
    exact exec_is_and (congrArg Host.Outcome.next (State.running_of hs _))
      (by apply execSeamFlitUncorrectable_touches <;> simp [Touches.refl]) fun hq => testBit_real_flit s link.val frames replicas hq
  · intro link s hs
    exact ⟨_, congrArg Host.Outcome.next (State.running_of hs _), flit_alone s link⟩
  · intro k i v restarted s hs hdue hi hk
    have he : exec (.wearHour [(k, i, v)] restarted) s =
        .next (wearHour [(k.val, i.val, v)] (restarted.map (·.val)) (s.noted 0x22000)) :=
      congrArg Host.Outcome.next ((State.running_of hs _).trans (State.periodic_noted hdue _))
    refine exec_has he (by apply execWearHour_touches <;> simp [Touches.refl]) ?_
    have hkey : ∀ l ∈ restarted.map (·.val), k.val * 2 ^ 16 + i.val ≠ 2 ^ 16 + l := by
      intro l hl
      obtain ⟨l', -, rfl⟩ := List.mem_map.1 hl
      omega
    have hold := restartLanes_wear (s.noted 0x22000) hkey
    obtain ⟨hsamples, hhours⟩ := wearSample_adds (restartLanes (restarted.map (·.val)) (s.noted 0x22000)) hi hk
      (s.nowNs / 3600000000000) v
    rw [wearHour_gnt]
    exact ⟨hold ▸ hsamples, hold ▸ hhours, wearHour_regsOnly (s.noted 0x22000) _ _⟩
  · intro samples restarted s hs hdue
    exact exec_is (congrArg Host.Outcome.next ((State.running_of hs _).trans (State.periodic_noted hdue _)))
      (by apply execWearHour_touches <;> simp [Touches.refl])
  · intro kind index s hs hsh
    obtain ⟨hkind, hindex, hstate, honly⟩ := showWear_shows (s.wakeClock 0x23) kind index
    rw [State.wakeClock_touches nofun (Touches.refl _ s) |>.gnt_eq] at hstate
    exact exec_has (congrArg Host.Outcome.next (State.written_of hs hsh _)) (by apply execWearSelWrite_touches <;> simp [Touches.refl])
      ⟨hkind, hindex, hstate, (RegsOnly.of_regs_eq [0x23] (State.wakeClock_regs s 0x23)).trans honly⟩

end Sys2Proof
end

section
/-! PROOF. O15: block resets, injection, class maps, quench windows and line commands (R45 to R50, R454 to R461, R538). -/

namespace Sys2Proof.Machine

/-! ## Bits of a run -/

theorem testBit_putBit (n b c : Nat) (v : Bool) : (putBit n b v).testBit c = if b = c then v else n.testBit c := by
  cases v with
  | true =>
    rw [testBit_putBit_true]
    by_cases h : b = c <;> simp [h]
  | false =>
    by_cases h : b = c
    · rw [if_pos h, ← h, testBit_putBit_false]
    · rw [if_neg h]
      cases hb : n.testBit b with
      | false => rw [putBit, if_pos hb]
      | true =>
        have hn : putBit (putBit n b false) b true = n := by
          have hle : 2 ^ b ≤ n := Nat.ge_two_pow_of_testBit hb
          rw [putBit, testBit_putBit_false, if_neg Bool.false_ne_true, if_pos rfl, putBit, hb,
            if_neg (by decide), if_neg Bool.false_ne_true, Nat.sub_add_cancel hle]
        have hc := testBit_putBit_true (putBit n b false) b c
        rw [hn, decide_eq_false h, Bool.or_false] at hc
        exact hc.symm

section
variable (s : State) (page : Nat) {f : Fld} (hw : f.w = 64) (hs : f.stride = 8)

include hw hs in
/-- A bit of a run of 64-bit registers after one of them is put. -/
theorem State.bit_putBitAt (b c : Nat) (v : Bool) : (s.putBitAt page f b v).bit page f c = if b = c then v else s.bit page f c := by
  have hc : c % 64 < f.w := (Nat.mod_lt c (by decide)).trans_eq hw.symm
  unfold State.bit State.putBitAt
  by_cases hi : c / 64 = b / 64
  · rw [hi, State.rdi_wri_self, Nat.testBit_mod_two_pow, testBit_putBit, decide_eq_true hc, Bool.true_and]
    exact if_congr (by omega) rfl rfl
  · rw [if_neg (fun h : b = c => hi (congrArg (· / 64) h.symm))]
    refine congrArg (Nat.testBit · _) (State.rdx_wrx_of_ne s _ ?_)
    simp only [Fld.key, hs]
    omega

theorem State.putBitAt_regsOnly {b : Nat} (h : (f.off + f.stride * (b / 64)) * 8 + f.lo < 0x8000) (v : Bool) :
    RegsOnly [page] s (s.putBitAt page f b v) := State.wri_regsOnly s page h _

end

/-! ## Lines (R454, R461, R477) -/

/-- A line's register lies on the page. -/
theorem lineRegister_place (line : Fin 1024) {f : Fld} (h : f.off ≤ 0x180 ∧ f.stride = 8 ∧ f.lo = 0) :
    (f.off + f.stride * (line.val / 64)) * 8 + f.lo < 0x8000 := by
  obtain ⟨hoff, hstride, hlo⟩ := h
  rw [hstride, hlo]
  omega

theorem State.setLineBit_regsOnly (s : State) (line : Fin 1024) {f : Fld} (h : f.off ≤ 0x180 ∧ f.stride = 8 ∧ f.lo = 0) :
    RegsOnly [0x20] s (s.setBit 0x20 f line.val) :=
  (State.putBitAt_regsOnly s 0x20 (lineRegister_place line h) true).congr (State.mark_regs _ _ _)

/-- The keys of the registers of the lines. -/
def lineKeys (k : Nat) : Prop := ∃ i < 16, k = F.gnt0_LINE_STATUS.key 0x20 i 0

theorem not_lineKeys_of_summary : ∀ k ∈ summaryKeys, ¬ lineKeys k := by
  unfold lineKeys summaryKeys
  decide +kernel

theorem RegsKept.latched {s t : State} (h : RegsKept lineKeys s t) {line : Nat} (hl : line < 1024) : t.latched line = s.latched line :=
  congrArg (Nat.testBit · _) (h.rdi ⟨line / 64, by omega, rfl⟩)

theorem State.setBit_latched (s : State) (line : Nat) : (s.setBit 0x20 F.gnt0_LINE_STATUS line).latched line = true :=
  (State.bit_congr (State.mark_regs _ _ _) ..).trans ((State.bit_putBitAt s 0x20 rfl rfl line line true).trans (if_pos rfl))

/-- A real cause's reaction latches its line and takes its record (R454, R455). -/
theorem reactReal_latches (line : Fin 1024) (page cause cls : Nat) (s : State) :
    (reactReal line.val page cause cls s).latched line.val = true ∧
      ((reactReal line.val page cause cls s).lineRec line.val).page = page ∧
      ((reactReal line.val page cause cls s).lineRec line.val).cause = cause ∧
      ((reactReal line.val page cause cls s).lineRec line.val).cls = cls ∧
      ((reactReal line.val page cause cls s).lineRec line.val).taken = cls + 1 ∧
      RegsOnly [0x20, 0x00] s (reactReal line.val page cause cls s) := by
  unfold reactReal
  extract_lets r s1 s2 s3 weaker earlier entry src s4 s5
  have hset : RegsOnly [0x20, 0x00] s (s1.setBit 0x20 F.gnt0_LINE_STATUS line.val) :=
    (RegsOnly.of_regs_eq [0x20, 0x00] (t := s1) rfl).step (by decide) (State.setLineBit_regsOnly s1 line (by decide))
  have h5 : s5.regs = s3.regs := by
    unfold s5
    split
    · exact State.vector_regs s4 0
    · split
      · exact State.vector_regs s4 1
      · rfl
  have hgnt : s5.gnt.lines = s1.gnt.lines := by
    have h : s5.gnt = s4.gnt := by
      unfold s5
      split
      · exact State.vector_gnt s4 0
      · split
        · exact State.vector_gnt s4 1
        · rfl
    have h2 : s2.gnt = s1.gnt := State.bump_gnt _ _ _ _
    rw [h]
    show s3.gnt.lines = s1.gnt.lines
    unfold s3
    split
    · exact congrArg Gauntlet.lines h2
    · exact congrArg Gauntlet.lines h2
  have hrec : s5.refreshSummary.lineRec line.val = s1.lineRec line.val := by
    unfold State.lineRec
    rw [State.refreshSummary_gnt, hgnt]
  have hrec1 : s1.lineRec line.val = _ := SMap.val_put_self _ _ _ _
  have hkept : RegsKept lineKeys (s1.setBit 0x20 F.gnt0_LINE_STATUS line.val) s5.refreshSummary := by
    refine RegsKept.refreshSummary (RegsKept.congr ?_ h5) not_lineKeys_of_summary
    have h2 := (RegsKept.refl lineKeys (s1.setBit 0x20 F.gnt0_LINE_STATUS line.val)).bumpi (page := 0x20)
      (f := F.gnt0_SUMMARY_LATCHES) (i := 0) (by unfold lineKeys; decide +kernel) 1
    exact .ite (h2.wr (by unfold lineKeys; decide +kernel) 1) h2
  rw [hrec, hrec1]
  refine ⟨(hkept.latched line.isLt).trans (State.setBit_latched s1 line.val), rfl, rfl, rfl, rfl, ?_⟩
  have h2 := hset.bumpOn (page := 0x20) (f := F.gnt0_SUMMARY_LATCHES) (by decide) (by decide) 1
  exact (RegsOnly.congr (.ite (h2.wrOn (by decide) (by decide) 1) h2) h5).refreshSummary (by decide) (by decide)

/-- A line's first cause of highest class is the one that latches it. -/
theorem latchLine_of_unlatched {line page cause cls : Nat} {s : State} (htop : s.topCause line = some (page, cause, cls))
    (h : s.latched line = false) : latchLine line s = reactReal line page cause cls s := by
  unfold latchLine
  rw [htop]
  exact if_neg (by rw [h]; exact Bool.false_ne_true)

/-! ## Clears of lines (R4, R454) -/

/-- A written 1 clears a latch whose line is low and which no event of this MGMT cycle has set. -/
def State.lineFalls (s : State) (k b : Nat) : Bool :=
  !s.lineHigh (64 * k + b) && s.setNow.val 0 (F.gnt0_LINE_STATUS.key 0x20 k 0 + b) == 0

/-- One line's clear, as the state before the command decides it. -/
def clearLine (s : State) (k b : Nat) (t : State) : State :=
  if s.lineHigh (64 * k + b) ∨ s.setNow.val 0 (F.gnt0_LINE_STATUS.key 0x20 k 0 + b) ≠ 0 then t
  else (t.putBitAt 0x20 F.gnt0_LINE_STATUS (64 * k + b) false).putLine (64 * k + b)
    { t.lineRec (64 * k + b) with taken := 0 }

section
variable (s : State) (k : Fin 16)

theorem clearLine_latched (b : Fin 64) (line : Nat) (t : State) : (clearLine s k.val b.val t).latched line =
    (t.latched line && !(decide (64 * k.val + b.val = line) && s.lineFalls k.val b.val)) := by
  unfold clearLine State.lineFalls
  by_cases hl : s.lineHigh (64 * k.val + b.val) = true
  · simp [hl]
  · by_cases hn : s.setNow.val 0 (F.gnt0_LINE_STATUS.key 0x20 k.val 0 + b.val) = 0
    · rw [if_neg (by simp [hl, hn])]
      refine (State.bit_putBitAt t 0x20 (f := F.gnt0_LINE_STATUS) rfl rfl (64 * k.val + b.val) line false).trans ?_
      by_cases h : 64 * k.val + b.val = line
      · subst h
        simp [hl, hn]
      · simp [h, State.latched]
    · simp [hn]

theorem clearLine_regsOnly (b : Fin 64) (t : State) : RegsOnly [0x20] t (clearLine s k.val b.val t) := by
  have hplace : (F.gnt0_LINE_STATUS.off + F.gnt0_LINE_STATUS.stride * ((64 * k.val + b.val) / 64)) * 8 + F.gnt0_LINE_STATUS.lo < 0x8000 :=
    lineRegister_place ⟨64 * k.val + b.val, by omega⟩ (by decide)
  exact .ite (.refl _ t) ((State.putBitAt_regsOnly t 0x20 hplace false).congr rfl)

/-- Of the lines asked for, those that fall are cleared, and no other. -/
theorem clearLine_foldl {l : List Nat} (hl : ∀ b ∈ l, b < 64) (c : Nat) (t : State) :
    (l.foldl (fun t b => clearLine s k.val b t) t).latched (64 * k.val + c) =
        (t.latched (64 * k.val + c) && !(decide (c ∈ l) && s.lineFalls k.val c)) ∧
      RegsOnly [0x20] t (l.foldl (fun t b => clearLine s k.val b t) t) := by
  induction l generalizing t with
  | nil => exact ⟨by simp, .refl _ t⟩
  | cons a r ih =>
    have ha := hl a (by simp)
    obtain ⟨hlat, honly⟩ := ih (fun b hb => hl b (by simp [hb])) (clearLine s k.val a t)
    refine ⟨?_, (clearLine_regsOnly s k ⟨a, ha⟩ t).trans honly⟩
    refine hlat.trans ?_
    rw [clearLine_latched s k ⟨a, ha⟩]
    by_cases h : c = a
    · subst h
      cases t.latched (64 * k.val + c) <;> cases s.lineFalls k.val c <;> simp
    · simp [h, Ne.symm h]

/-- LINE_STATUS_CLEAR clears exactly the latches written 1 that fall (R454). -/
theorem clearLines_clears (data : Word) :
    (∀ b : Fin 64, (clearLines k.val data.toNat s).latched (64 * k.val + b.val) =
      (s.latched (64 * k.val + b.val) && !(data.toNat.testBit b.val && s.lineFalls k.val b.val))) ∧
      RegsOnly [0x20, 0x00] s (clearLines k.val data.toNat s) := by
  unfold clearLines
  extract_lets asked s1 s2 cleared
  have hasked : ∀ b ∈ asked, b < 64 := fun b hb => List.mem_range.1 (List.mem_filter.1 hb).1
  have h2 : RegsOnly [0x20, 0x00] s s2 :=
    ((clearLine_foldl s k hasked 0 s).2.widen (by simp)).refreshSummary (by decide) (by decide)
  generalize hu : [0, 1].foldl (fun (t : State) v =>
    if (cleared.any (fun b => lineVector s (64 * k.val + b) == v) && s2.sourceSet v) = true then t.vector v else t) s2 = u
  have hregs : u.regs = s2.regs := by
    subst hu
    refine List.foldlRecOn _ _ (motive := fun t : State => t.regs = s2.regs) rfl fun t ht v _ => ?_
    split
    · exact (State.vector_regs t v).trans ht
    · exact ht
  refine ⟨fun b => ?_, h2.congr hregs⟩
  have hb : 64 * k.val + b.val < 1024 := by omega
  have hkept : RegsKept lineKeys s1 u := RegsKept.congr ((RegsKept.refl lineKeys s1).refreshSummary not_lineKeys_of_summary) hregs
  refine (hkept.latched hb).trans ((clearLine_foldl s k hasked b.val s).1.trans ?_)
  have hmem : decide (b.val ∈ asked) = (data.toNat.testBit b.val && s.latched (64 * k.val + b.val)) := by
    rw [Bool.eq_iff_iff]
    simp [asked]
  rw [hmem]
  cases s.latched (64 * k.val + b.val) <;> simp

/-- What the clear reads of the state a wake of the page's clock leaves. -/
theorem State.lineFalls_wakeClock (b page : Nat) : (s.wakeClock page).lineFalls k.val b = s.lineFalls k.val b := by
  rw [State.wakeClock_eq]
  rfl

end

/-- The selected line's record is shown (R477). -/
theorem showLine_shows (line : Fin 1024) (s : State) :
    (showLine line.val s).rd 0x20 F.gnt0_LINE_SEL_LINE = line.val ∧
      (showLine line.val s).rd 0x20 F.gnt0_LINE_INFO_PAGE = (s.lineRec line.val).page % 2 ^ F.gnt0_LINE_INFO_PAGE.w ∧
      (showLine line.val s).rd 0x20 F.gnt0_LINE_INFO_CAUSE = (s.lineRec line.val).cause % 2 ^ F.gnt0_LINE_INFO_CAUSE.w ∧
      RegsOnly [0x20] s (showLine line.val s) := by
  unfold showLine
  extract_lets r b
  simp (disch := decide) only [State.wrPair, State.rd_wr_of_place_ne, State.rd_wr_self]
  refine ⟨Nat.mod_eq_of_lt line.isLt, rfl, rfl, ?_⟩
  iterate 12 refine RegsOnly.wr ?_ (by decide) _
  exact RegsOnly.refl _ s

/-- The end of an escalation (R461). -/
theorem endEscalation_ends {line : Nat} {s : State} (he : (s.lineRec line).escalated = true)
    (hc : resetCount (s.lineRec line) s.mono ≤ 8) :
    ((endEscalation line s).lineRec line).escalated = false ∧ RegsOnly [0x20, 0x00] s (endEscalation line s) := by
  unfold endEscalation
  extract_lets r
  rw [State.given_of (show (r.escalated && decide (resetCount r s.mono ≤ 8)) = true from
    Bool.and_eq_true_iff.2 ⟨he, decide_eq_true hc⟩)]
  refine ⟨?_, (RegsOnly.of_regs_eq _ rfl).refreshSummary (by decide) (by decide)⟩
  unfold State.lineRec
  rw [State.refreshSummary_gnt]
  exact congrArg LineRec.escalated (SMap.val_put_self _ _ _ _)

/-! ## Quench windows (R459) -/

theorem closeQuench_gnt (page : Nat) (present : List (Nat × Nat)) {s : State}
    (h : (s.gnt.quench.any fun q => q.page == page && decide (q.until_ ≤ s.mono)) = true) :
    (closeQuench page present s).gnt.quench = s.gnt.quench.filter (fun q => !(q.page == page && decide (q.until_ ≤ s.mono))) := by
  unfold closeQuench
  extract_lets closes
  rw [State.given_of h]
  extract_lets rest src s1 s2 ended s3
  exact List.foldlRecOn _ _ (motive := fun t : State => t.gnt.quench = rest) rfl fun t ht pc _ =>
    (congrArg Gauntlet.quench (State.raise_gnt t _ _)).trans ht

/-! ## Block resets (R45, R427) -/

/-- The meaning of a block reset of a page in service that is not busy. -/
theorem exec_blockReset {page : BitVec 14} {s t : State} (hs : s.stopped = false) (hr : resettable page.toNat = true)
    (hb : s.resetBusy page.toNat = false)
    (ht : (if (s.set1 page.toNat F.hdr_PAGE_STATUS_RESET_BUSY).pageActive page.toNat = true then
        startReset page.toNat (s.rd page.toNat F.hdr_QUENCH_CFG_WINDOW) (s.set1 page.toNat F.hdr_PAGE_STATUS_RESET_BUSY)
      else { s.set1 page.toNat F.hdr_PAGE_STATUS_RESET_BUSY with
        boot := { s.boot with waiting := s.boot.waiting ++ [(page.toNat, s.rd page.toNat F.hdr_QUENCH_CFG_WINDOW)] } }) = t) :
    exec (.blockReset page) s = .next t := by
  have hp : present page.toNat = true := (Bool.and_eq_true_iff.1 hr).1
  refine congrArg Host.Outcome.next ((State.headerWrite_of_present hp s _ _).trans ((State.running_of hs _).trans ?_))
  refine (State.given_of ?_ _).trans ht
  rw [hr, hb]
  rfl

/-! ## Injection (R458) -/

/-- One injected cause writes its two bits and the summary. -/
theorem injectCause_regs (line page cause : Nat) (s : State) : (injectCause line page cause s).regs =
    ((s.setBit page F.hdr_ERR_STATUS_INJECTED cause).setBit 0x20 F.gnt0_INJ_STATUS line).refreshSummary.regs := by
  unfold injectCause
  extract_lets isNew s0 s1 cls v src r
  have h1 : s1.regs = s0.regs := by
    unfold s1
    split
    · exact State.vector_regs s0 2
    · rfl
  split
  · exact h1
  · split
    · show (if isNew = true then s1.vector v else s1).regs = s0.regs
      split
      · exact (State.vector_regs s1 v).trans h1
      · exact h1
    · split <;> exact h1

section
variable {line page : Nat} (hline : line < 1024)
include hline

/-- Fields of a header but INJECTED are as they were after the bits are set. -/
theorem rd_header_injectCause {cause : Nat} {f : Fld} (hf : f.off * 8 + f.lo < 0x400) (s : State) :
    (injectCause line page cause s).rd page f = (s.setBit page F.hdr_ERR_STATUS_INJECTED cause).rd page f := by
  rw [State.rd, State.rdx_congr (injectCause_regs line page cause s), ← State.rd]
  have hkey : f.key page 0 0 / 0x400 = page * 0x20 := Fld.key_header hf page
  refine ((((RegsKept.refl (· = f.key page 0 0) _).wri (i := line / 64) ?_ _).congr (State.mark_regs _ _ _)).refreshSummary ?_).rd rfl
  · simp only [Fld.key, F.gnt0_INJ_STATUS] at hkey ⊢
    omega
  · intro k hk he
    rw [← he] at hkey
    have hbody : ∀ k ∈ summaryKeys, k / 0x400 % 0x20 = 1 := by decide
    have := hbody k hk
    omega

theorem injectCause_regsOnly {cause : Nat} (hcause : cause < 16) (s : State) :
    RegsOnly [page, 0x20, 0x00] s (injectCause line page cause s) := by
  have h1 : RegsOnly [page, 0x20, 0x00] s (s.setBit page F.hdr_ERR_STATUS_INJECTED cause) :=
    (RegsOnly.refl _ s).step (by simp) (State.setBit_regsOnly s page (by decide) (by omega))
  have h2 := h1.step (by simp) (State.setLineBit_regsOnly _ ⟨line, hline⟩ (f := F.gnt0_INJ_STATUS) (by decide))
  exact (RegsOnly.refreshSummary h2 (by simp) (by simp)).congr (injectCause_regs line page cause s)

theorem testBit_injected_injectCause {cause c : Nat} (hcause : cause < 16) (hc : c < 16) (s : State) :
    ((injectCause line page cause s).rd page F.hdr_ERR_STATUS_INJECTED).testBit c =
      ((s.rd page F.hdr_ERR_STATUS_INJECTED).testBit c || decide (cause = c)) := by
  rw [rd_header_injectCause hline (by decide), State.testBit_rd_setBit s page _ (by omega) hc]

theorem rd_real_injectCause {cause : Nat} (hcause : cause < 16) (s : State) :
    (injectCause line page cause s).rd page F.hdr_ERR_STATUS_REAL = s.rd page F.hdr_ERR_STATUS_REAL := by
  rw [rd_header_injectCause hline (by decide), State.rd_setBit_of_ne s page cause (by omega) (by decide)]

/-- Injected causes set their INJECTED bits, and no REAL bit. -/
theorem injectCause_foldl {causes : Nat} {l : List Nat} (hl : ∀ c ∈ l, c < 16) (s : State) :
    (∀ c < 16, ((s.rd page F.hdr_ERR_STATUS_INJECTED).testBit c = true ∨ (c ∈ l ∧ causes.testBit c = true)) →
      ((l.foldl (fun t c => if causes.testBit c then injectCause line page c t else t) s).rd page
        F.hdr_ERR_STATUS_INJECTED).testBit c = true) ∧
    (l.foldl (fun t c => if causes.testBit c then injectCause line page c t else t) s).rd page F.hdr_ERR_STATUS_REAL =
      s.rd page F.hdr_ERR_STATUS_REAL ∧
    RegsOnly [page, 0x20, 0x00] s (l.foldl (fun t c => if causes.testBit c then injectCause line page c t else t) s) := by
  induction l generalizing s with
  | nil => exact ⟨fun c _ h => h.resolve_right (by simp), rfl, .refl _ s⟩
  | cons a r ih =>
    have ha := hl a (by simp)
    by_cases hb : causes.testBit a = true
    · obtain ⟨hinj, hreal, honly⟩ := ih (fun c hc => hl c (by simp [hc])) (injectCause line page a s)
      rw [List.foldl_cons, if_pos hb]
      refine ⟨fun c hc h => hinj c hc ?_, hreal.trans (rd_real_injectCause hline ha s), (injectCause_regsOnly hline ha s).trans honly⟩
      rw [testBit_injected_injectCause hline ha hc]
      obtain h | ⟨hm, hcb⟩ := h
      · exact .inl (by simp [h])
      · obtain rfl | hr := List.mem_cons.1 hm
        · exact .inl (by simp)
        · exact .inr ⟨hr, hcb⟩
    · obtain ⟨hinj, hreal, honly⟩ := ih (fun c hc => hl c (by simp [hc])) s
      rw [List.foldl_cons, if_neg hb]
      refine ⟨fun c hc h => hinj c hc ?_, hreal, honly⟩
      refine h.imp_right fun ⟨hm, hcb⟩ => ⟨(List.mem_cons.1 hm).resolve_left ?_, hcb⟩
      rintro rfl
      exact hb hcb

end

theorem forall_mem_ite {α : Type} {P : α → Prop} {c : Prop} [Decidable c] {o o' : Option α} (h : c → ∀ a ∈ o, P a)
    (h' : ∀ a ∈ o', P a) : ∀ a ∈ (if c then o else o'), P a := by
  split
  · exact h ‹c›
  · exact h'

theorem lineOfPage_lt (page : Nat) : ∀ line ∈ lineOfPage page, line < 1024 := by
  have hsome {n : Nat} (h : n < 1024) : ∀ line ∈ some n, line < 1024 := by
    rintro _ ⟨⟩
    exact h
  unfold lineOfPage
  iterate 19 refine forall_mem_ite (fun _ => hsome (by omega)) ?_
  exact nofun
/-! ## The class map (R49) -/

/-- The classes that a written word gives, in turn. -/
theorem wrx_class_foldl (page : Nat) (v : Nat → Nat) {l : List Nat} (hl : ∀ c ∈ l, c < 16) (s : State) :
    (∀ c < 16, (l.foldl (fun (t : State) c => t.wrx page F.hdr_ERR_CLASS_MAP_CLASS 0 c (v c)) s).classOf page c =
      if c ∈ l then v c % 8 else s.classOf page c) ∧
    RegsOnly [page] s (l.foldl (fun (t : State) c => t.wrx page F.hdr_ERR_CLASS_MAP_CLASS 0 c (v c)) s) := by
  induction l generalizing s with
  | nil => exact ⟨fun c _ => by simp, .refl _ s⟩
  | cons a r ih =>
    have ha := hl a (by simp)
    obtain ⟨hcls, honly⟩ := ih (fun c hc => hl c (by simp [hc])) (s.wrx page F.hdr_ERR_CLASS_MAP_CLASS 0 a (v a))
    refine ⟨fun c hc => (hcls c hc).trans ?_, RegsOnly.trans (fun k hk => State.at?_wrx_of_ne s page _ 0 a _ ?_) honly⟩
    · by_cases hr : c ∈ r
      · simp [hr]
      · by_cases hca : c = a
        · subst hca
          rw [if_neg hr, if_pos (by simp)]
          exact State.rdx_wrx_self s page F.hdr_ERR_CLASS_MAP_CLASS 0 c (v c)
        · rw [if_neg hr, if_neg (by simp [hca, hr])]
          refine State.rdx_wrx_of_ne s (v a) ?_
          simp only [Fld.key, F.hdr_ERR_CLASS_MAP_CLASS]
          omega
    · rintro rfl
      refine hk (List.mem_singleton.2 ?_)
      simp only [pageOfKey, Fld.key, F.hdr_ERR_CLASS_MAP_CLASS]
      omega

/-- Masks of causes that are now FC3 or FC4 are cleared, and no class changes. -/
theorem wr_mask_foldl (page : Nat) (high : Nat → Bool) {l : List Nat} (s : State) :
    (∀ c, ((s.rd page F.hdr_ERR_MASK_MASK).testBit c = false ∨ (c ∈ l ∧ high c = true)) →
      ((l.foldl (fun (t : State) c => if high c then t.wr page F.hdr_ERR_MASK_MASK (putBit (t.rd page F.hdr_ERR_MASK_MASK) c false)
        else t) s).rd page F.hdr_ERR_MASK_MASK).testBit c = false) ∧
    (∀ c, (l.foldl (fun (t : State) c => if high c then t.wr page F.hdr_ERR_MASK_MASK (putBit (t.rd page F.hdr_ERR_MASK_MASK) c false)
        else t) s).classOf page c = s.classOf page c) ∧
    RegsOnly [page] s (l.foldl (fun (t : State) c => if high c then
      t.wr page F.hdr_ERR_MASK_MASK (putBit (t.rd page F.hdr_ERR_MASK_MASK) c false) else t) s) := by
  induction l generalizing s with
  | nil => exact ⟨fun c h => h.resolve_right (by simp), fun _ => rfl, .refl _ s⟩
  | cons a r ih =>
    by_cases ha : high a = true
    · obtain ⟨hmask, hcls, honly⟩ := ih (s.wr page F.hdr_ERR_MASK_MASK (putBit (s.rd page F.hdr_ERR_MASK_MASK) a false))
      rw [List.foldl_cons, if_pos ha]
      refine ⟨fun c h => hmask c ?_, fun c => (hcls c).trans (State.rdx_wrx_of_ne s _ ?_),
        (State.wr_regsOnly s page (by decide) _).trans honly⟩
      · rw [State.rd_wr_self, Nat.testBit_mod_two_pow, testBit_putBit]
        obtain h | ⟨hm, hc⟩ := h
        · exact .inl (by split <;> simp [h])
        · obtain rfl | hr := List.mem_cons.1 hm
          · exact .inl (by simp)
          · exact .inr ⟨hr, hc⟩
      · simp only [Fld.key, F.hdr_ERR_CLASS_MAP_CLASS, F.hdr_ERR_MASK_MASK]
        omega
    · obtain ⟨hmask, hcls, honly⟩ := ih s
      rw [List.foldl_cons, if_neg ha]
      refine ⟨fun c h => hmask c (h.imp_right fun ⟨hm, hc⟩ => ⟨(List.mem_cons.1 hm).resolve_left ?_, hc⟩), hcls, honly⟩
      rintro rfl
      exact ha hc

/-- A written class map gives every cause its class, and unmasks those of FC3 and FC4 (R49). -/
theorem writeClassMap_maps (page data : Nat) (s : State) :
    (∀ c : Fin 16, (writeClassMap page data s).classOf page c.val =
        mappedClass (classFloor page c.val) (s.classOf page c.val) (data / 8 ^ c.val % 8) % 8 ∧
      (3 ≤ (writeClassMap page data s).classOf page c.val →
        ((writeClassMap page data s).rd page F.hdr_ERR_MASK_MASK).testBit c.val = false)) ∧
      RegsOnly [page] s (writeClassMap page data s) := by
  unfold writeClassMap
  extract_lets s1
  obtain ⟨hcls1, honly1⟩ := wrx_class_foldl page
    (fun c => mappedClass (classFloor page c) (s.classOf page c) (data / 8 ^ c % 8)) (l := List.range 16) (by simp) s
  obtain ⟨hmask, hcls2, honly2⟩ := wr_mask_foldl page (fun c => decide (s1.classOf page c ≥ 3)) (l := List.range 16) s1
  simp only [decide_eq_true_eq] at hmask hcls2 honly2
  generalize hu : (List.range 16).foldl (fun (t : State) c => if s1.classOf page c ≥ 3 then
    t.wr page F.hdr_ERR_MASK_MASK (putBit (t.rd page F.hdr_ERR_MASK_MASK) c false) else t) s1 = u at *
  have hcls (c : Nat) : (u.refreshErr page).classOf page c = s1.classOf page c := by
    refine (State.rdx_wrx_of_ne u _ ?_).trans (hcls2 c)
    simp only [Fld.key, F.hdr_ERR_CLASS_MAP_CLASS, F.hdr_PAGE_STATUS_ERR_LINE]
    omega
  refine ⟨fun c => ⟨?_, fun h => ?_⟩, (honly1.trans honly2).trans (State.refreshErr_regsOnly u page)⟩
  · rw [hcls, hcls1 c.val c.isLt, if_pos (List.mem_range.2 c.isLt)]
  · rw [State.rd_refreshErr (by decide)]
    exact hmask c.val (.inr ⟨List.mem_range.2 c.isLt, (hcls c.val).symm ▸ h⟩)

end Sys2Proof.Machine

namespace Sys2Proof

open Sys2Proof.Machine

/-- Settles O15: each command's helper has its effect and frame above. That a page's cause raises its line through LINE_LATCH and not at
once (log entry 34), and what a block's reset ends and its completion starts anew (log entry 138), are the model's choice. -/
theorem faultCommandsComplete : Obligations.FaultCommandsComplete := by
  refine ⟨⟨?_, ?_⟩, ?_, ?_, ?_, ?_, ?_, ?_, ?_, ?_, ?_⟩
  · intro page s hs hr hb hact
    exact exec_blockReset hs hr hb (if_pos hact)
  · intro page s hs hr hb hact
    refine ⟨_, exec_blockReset hs hr hb (if_neg (by rw [show (s.set1 page.toNat _).pageActive _ = _ from hact]; decide)), ?_, ?_, rfl,
      ?_⟩
    · exact (Touches.upd_boot (by simp) (State.set1_touches (by simp) (by simp) (.refl _ s))).only
    · exact State.rd_set1_self s page.toNat _
    · exact (set1_regsOnly s page.toNat (f := F.hdr_PAGE_STATUS_RESET_BUSY) (by decide)).congr rfl
  · intro page s hs hb hw
    refine exec_is_and ((congrArg Host.Outcome.next (State.running_of hs _)).trans (congrArg Host.Outcome.next (State.given_of ?_ _)))
      (by apply execBlockResetComplete_touches <;> simp [Touches.refl]) fun hp => ?_
    · rw [hb, hw]
      rfl
    · rw [hp]
      exact State.rd_wr_self s 0x340 _ 0
  · intro page present s h
    exact exec_has rfl (by apply execQuenchClose_touches <;> simp [Touches.refl]) (closeQuench_gnt _ _ h)
  · intro page causes s hs hp hl
    obtain ⟨line, hline⟩ := Option.isSome_iff_exists.1 hl
    refine exec_has (congrArg Host.Outcome.next ((State.headerWrite_of_present hp s _ _).trans (State.running_of hs _)))
      (by apply execErrInject_touches <;> simp [Touches.refl]) ?_
    have hlt := lineOfPage_lt page.toNat line hline
    obtain ⟨hinj, hreal, honly⟩ := injectCause_foldl (page := page.toNat) hlt (causes := causes.toNat) (l := List.range 16) (by simp) s
    rw [injectCauses, hline]
    exact ⟨fun c hc => hinj c.val c.isLt (.inr ⟨List.mem_range.2 c.isLt, hc⟩), hreal, honly⟩
  · intro page data s hs hp hl
    refine exec_has (congrArg Host.Outcome.next ((State.headerWrite_of_present hp s _ _).trans ((State.running_of hs _).trans (if_neg ?_))))
      (by apply execErrClassMapWrite_touches <;> simp [Touches.refl]) (writeClassMap_maps page.toNat data.toNat s)
    rw [errAbsent_of_line hl]
    exact Bool.false_ne_true
  · intro line page cause cls s htop hlat
    exact exec_has (congrArg Host.Outcome.next (latchLine_of_unlatched htop hlat)) (by apply execLineLatch_touches <;> simp [Touches.refl])
      (reactReal_latches line page cause cls s)
  · intro line fired s
    exact exec_is rfl (by apply execLineLatch_touches <;> simp [Touches.refl])
  · intro k data s hs hsh
    refine exec_has (congrArg Host.Outcome.next (State.written_of hs hsh _)) (by apply execLineStatusClear_touches <;> simp [Touches.refl]) ?_
    obtain ⟨hclear, honly⟩ := clearLines_clears (s.wakeClock 0x20) k data
    refine ⟨fun b => (hclear b).trans ?_, (RegsOnly.of_regs_eq _ (State.wakeClock_regs s 0x20)).trans honly⟩
    rw [State.lineFalls_wakeClock, State.latched, State.bit_congr (State.wakeClock_regs s 0x20), ← State.latched]
    simp only [State.lineFalls, Bool.and_assoc]
  · intro line s hs hsh
    obtain ⟨hsel, hpage, hcause, honly⟩ := showLine_shows line (s.wakeClock 0x20)
    have hrec : (s.wakeClock 0x20).lineRec line.val = s.lineRec line.val := by
      rw [State.wakeClock_eq]
      rfl
    rw [hrec] at hpage hcause
    exact exec_has (congrArg Host.Outcome.next (State.written_of hs hsh _)) (by apply execLineSelWrite_touches <;> simp [Touches.refl])
      ⟨hsel, hpage, hcause, (RegsOnly.of_regs_eq _ (State.wakeClock_regs s 0x20)).trans honly⟩
  · intro line s he hc
    exact exec_has rfl (by apply execEscalationEnd_touches <;> simp [Touches.refl]) (endEscalation_ends he hc)

end Sys2Proof
end

section
/-! PROOF. O36: an entry of EXP_PORT that skips a poisoned anchor (R380, R385, R526). -/

namespace Sys2Proof.Machine

/-- A device whose entry 0 of EXP_PORT is in force on port 0, which is up, with the anchor of slot 0 behind it. -/
def anchorExported : State :=
  { ((State.reset.wr 0x70 F.ldg0_LDG_CFG_EXPORT_ENABLE 1).wri 0x72 F.ldg2_EXP_PORT_VALID 0 1).wr (prt 0) F.prt_LINK_STATUS_UP 1 with
    ldg := { State.reset.ldg with exports := [(0, [⟨255, 0⟩])] } }

/-- The same device with the anchor's first line poisoned and vector 100 unmasked. -/
def poisonedExported : State :=
  { anchorExported with
    poison := [(0, true)]
    host := { anchorExported.host with unmasked := [(100, true)] } }

/-- How much a device has sent after a command. -/
def sentAfter (c : Instr) (s : State) : Nat :=
  match exec c s with
  | .next t => t.out.length
  | _ => 0

end Sys2Proof.Machine

namespace Sys2Proof

open Sys2Proof.Machine

/-- Refutes O36: an entry of EXP_PORT that skips a poisoned anchor latches cause 9 of the ledger, which sends vector 100 where it is
unmasked, so that the skip's clause that nothing is sent fails. -/
theorem not_ledgerCommandsComplete : ¬ Obligations.LedgerCommandsComplete := by
  unfold Obligations.LedgerCommandsComplete
  intro h
  obtain ⟨-, -, -, -, -, -, -, -, -, -, -, -, -, -, -, -, -, -, -, -, -, -, -, -, -, -, -, -, -, hskip, -⟩ := h
  obtain ⟨t, he, -, -, -, hout⟩ := hskip 0 ⟨255, 0⟩ [] poisonedExported (by decide) (by decide +kernel) (by decide +kernel)
    (by decide +kernel) (by decide +kernel) rfl (by decide +kernel)
  have hsent : sentAfter (.exportSend 0) poisonedExported = 1 := by decide +kernel
  rw [sentAfter, he] at hsent
  exact absurd ((congrArg List.length hout).symm.trans hsent) (by decide +kernel)

end Sys2Proof
end
